-- ==== Sys2Proof/Word.lean ====
section
/-! DEFINITION. The plain word types of the FCM-48 and the sparse table type every memory-like part of the state uses. -/

namespace Sys2Proof

/-- A 32-bit register word (R34: host accesses are served as 32-bit accesses). -/
abbrev Word := BitVec 32

/-- One byte. -/
abbrev Byte := BitVec 8

/-- A 64-bit value held in a _LO and _HI pair (R33), a chainage (R2) or a point's VALUE (R10). -/
abbrev Dword := BitVec 64

/-- A sparse table: (key, value) pairs in one canonical form, keys strictly rising and no value equal to what
an unlisted key reads as (Machine/Tbl.lean gives its reads, writes and canonical form). -/
abbrev Tbl (α : Type) := List (Nat × α)

/-- The two requesters of BAR0 accesses (R88): the PCIe endpoint and the management SPI. -/
inductive Requester where
  | pcie
  | spi
deriving DecidableEq, Repr

end Sys2Proof
end

