-- ==== Sys2Proof/Machine/TypesHost.lean ====
section
/-! DEFINITION. State types of the host link, the operation tracker, the point table, the claim table and LAT:
what chapters 01 to 04 give the machine beside its registers. Plain data. -/

namespace Sys2Proof.Machine

/-- The header of an Aethina Link frame, with MORE of its FLAGS (R402), and of a received frame the uplink it came by, 0 or 1,
its source MAC (R401), whether its tag holds, its VER, TYPE and LEN (R403, R404). -/
structure LinkHdr where
  src : Nat
  start : Nat
  counter : Nat
  term : Nat
  seq : Nat
  ack : Nat
  more : Bool
  uplink : Nat
  mac : Nat
  tagOk : Bool
  ver : Nat
  type : Nat
  len : Nat
deriving DecidableEq, Repr

/-- How much of a READ the SPI master clocked: whole words, and whether CS_N rose inside one more (R51). -/
structure SpiSpan where
  words : Nat
  cut : Bool
deriving DecidableEq, Repr

/-- The state of an operation slot (R74). -/
inductive SlotSt where
  | free
  | active
  | decided
deriving DecidableEq, Repr

/-- Where an operation came from (R60, R70): a ring, the mailbox, or the block inside the module that produced it. -/
inductive Origin where
  | ring (n : Nat)
  | mailbox
  | internal (producer : Nat)
deriving DecidableEq, Repr

/-- One of the 512 operation slots (R70, R71, R81). `cq` is the queue the descriptor named, `none` where R60 sends
the completion to HIF_CQ_ROUTE of `block`. Chainages are whole au; `beginClk` is in SYS cycles; `ord` numbers
the operations of a life in the order of their beginning. -/
structure Slot where
  st : SlotSt
  gen : Nat
  block : Nat
  opcode : Nat
  cookie : Word
  sq : Nat
  cq : Option Nat
  irqNow : Bool
  ctx : Nat
  origin : Origin
  param : BitVec 384
  beginClk : Nat
  timeoutMs : Nat
  beginCh : Nat
  stampCh : Nat
  status : Nat
  result : Word
  ord : Nat
deriving DecidableEq, Repr

/-- The record of a slot before its newest one, which is the slot itself: two records alternate, the newer one by `seq`; its
writing began at `clk` (R81, R82). -/
structure SlotLog where
  older : Slot
  seq : Nat
  clk : Nat
deriving DecidableEq, Repr

/-- A lost report held in MRAM (R84); `shown` once the completion history holds it in this life (R85). -/
structure LostReport where
  cookie : Word
  tag : Nat
  sq : Nat
  internal : Bool
  block : Nat
  opcode : Nat
  status : Nat
  stamp : Word
  start : Nat
  shown : Bool
deriving DecidableEq, Repr

/-- A request held for a free tag (R73): a stake of LAT, a luminaire change of LCP, a remote operation of HLK or a
storage write of STO, each by the number its block knows it by. -/
inductive TagWait where
  | stake (index : Nat)
  | lcpChange (entry : Nat)
  | hlkWrite (id : Nat)
  | stoWrite (id : Nat)
deriving DecidableEq, Repr

/-- OPT: the slots and the older record of each (R81), the last allocated tag, the tags decided and not yet written in the
order of decision (R93), the completion TLPs that wait for their acknowledgement in the order sent, each by its tag and a
lost report's by 512 + tag (R75, R85), those whose completion the history holds already while their queue is down (R48,
R100), the requests held for a tag (R73), the lost reports and the queue of a running release (R85). -/
structure Opt where
  slots : Tbl Slot
  log : Tbl SlotLog
  lastTag : Nat
  nextOrd : Nat
  decided : List Nat
  tlpWait : List Nat
  histDone : List Nat
  tagWait : List TagWait
  lost : List LostReport
  lostRun : Option Nat
deriving DecidableEq, Repr

/-- A register write held behind a fence or by withheld credits (R90): requester, BAR0 offset, value, its number among the
writes and reads that wait. -/
structure HeldWrite where
  rq : Requester
  off : Nat
  val : Word
  seq : Nat
deriving DecidableEq, Repr

/-- A write that reached a block in soft reset: it counts as having taken effect when the reset ends (R91, R95). -/
structure OpenWrite where
  rq : Requester
  off : Nat
  seq : Nat
deriving DecidableEq, Repr

/-- A read that waits for earlier writes of its requester (R88, R91): of one word, or an SPI READ of `words` words that is
still clocked (R50) and may end inside a word. `seq` is the number of the first write behind it. -/
structure WaitRead where
  rq : Requester
  off : Nat
  words : Option Nat
  count : Nat
  cut : Bool
  seq : Nat
deriving DecidableEq, Repr

/-- What of the PCIe configuration the module itself holds or sets (R29, R45, R48): the BAR registers, the power state, Max
Payload Size and Max Read Request Size by their codes, and the two AER status registers. -/
structure PcieCfg where
  bar0 : Word
  bar1 : Word
  d3hot : Bool
  mps : Nat
  mrrs : Nat
  aerUncor : Word
  aerCor : Word
deriving DecidableEq, Repr

/-- The configuration after a reset: BAR0 64-bit and not prefetchable (R29), D0, 128-byte payloads, 512-byte read requests
(log entry 197). -/
def PcieCfg.reset : PcieCfg := ⟨4, 0, false, 0, 2, 0, 0⟩

/-- HIF: the ring of the present turn and how many descriptors it fetched (R57), the entries written per queue since
its last signal (R62), the fence sequences and held writes of the two requesters (R90, R91), the writes that wait for the
end of a soft reset, the reads that wait, the number of the next write that waits, the SPI status ERR (R51), whether the
mailbox's descriptor waits for a tag (R72) and which operation owns the mailbox by its number of beginning (R54, R97),
whether the link is up, and the PCIe configuration. -/
structure Hif where
  turnRing : Nat
  turnCount : Nat
  sinceSignal : Tbl Nat
  fencePcie : Word
  fenceSpi : Word
  held : List HeldWrite
  opens : List OpenWrite
  waiting : List WaitRead
  nextSeq : Nat
  spiErr : Bool
  mboxWait : Bool
  mboxOrd : Option Nat
  linkUp : Bool
  cfg : PcieCfg
deriving DecidableEq, Repr

/-- One entry of the claim table (R65, R66, R69). -/
structure Claim where
  resource : Nat
  block : Nat
  func : Nat
  inst : Nat
deriving DecidableEq, Repr

/-- Who may write a point (R11): nobody, a block, a task of SCN (R248), the host, a field-bus node, a worker module. -/
inductive Producer where
  | nobody
  | block (b : Nat)
  | task (n : Nat)
  | host
  | node (channel node : Nat)
  | module (m : Nat)
deriving DecidableEq, Repr

/-- A point record (R10) with the producer the image names for it and whether the host forces it (R11). -/
structure Point where
  value : Dword
  quality : Nat
  type : Nat
  ctx : Nat
  stamp : Word
  producer : Producer
  forced : Bool
deriving DecidableEq, Repr

/-- A record the image does not configure (R616). -/
def Point.unconfigured : Point := ⟨0, 0xFF, 0, 0, 0, .nobody, false⟩

/-- The writes of one point in one SYS cycle (R12): the record before them, and the one that stands last in the order of
origins, by its block ID, value and quality. -/
structure PointNote where
  clk : Nat
  index : Nat
  before : Point
  origin : Nat
  value : Dword
  quality : Nat
deriving DecidableEq, Repr

/-- A stake entry (R113). `pastDue` and `rolledTo` hold what R124 decided for the next occurrence. -/
structure Stake where
  chainage : Dword
  action : Nat
  late : Nat
  persist : Bool
  valid : Bool
  owner : Nat
  ctx : Nat
  gen : Nat
  period : Nat
  count : Nat
  target : Nat
  arg : Dword
  pastDue : Bool
  rolledTo : Option Nat
deriving DecidableEq, Repr

/-- An index that holds no stake and was never edited (R113). -/
def Stake.empty : Stake := ⟨0, 0, 0, false, false, 0, 0, 0, 0, 0, 0, 0, false, none⟩

/-- An edit record in the feed to ARB's look-ahead (R119): the index, the new GEN, the entry or its clearing. -/
structure EditRec where
  index : Nat
  gen : Nat
  stake : Option Stake
deriving DecidableEq, Repr

/-- A firing whose action has not been acknowledged (R122): its tag, the stake's action, target and argument, its
status on acknowledgement, its RESULT word, its lateness in au, and whether ARB refused the power it asked for. -/
structure Firing where
  tag : Nat
  action : Nat
  target : Nat
  arg : Dword
  okStatus : Nat
  result : Word
  late : Nat
  refused : Bool
deriving DecidableEq, Repr

/-- A time base (R453). `time` counts from the base's epoch in units of 2^-32 · 10^-6 ns, the finest step its rate of
2^-16 ppm gives over one SYS cycle; `rate` is in 2^-16 ppm. -/
structure TimeBase where
  time : Nat
  rate : Int
deriving DecidableEq, Repr

/-- LAT's running values (R101 to R112) and the stake table. `pos` is the chainage in units of 2^-32 au and `rate`
its advance per SYS cycle. `startClk` is when the timebase was started, `firstCh` the chainage at the first qualified
crossing, `holdCh` that at the entry to HOLDOVER (R106); `lastQual` and `lastRej` are the clocks of the last qualified and the
last rejected crossing. `errRun` counts crossings that keep an error within 256 au outside the window, `goodRun`
the consecutive crossings an entry of R106 asks for, `whole` the whole-cycle correction asked for and `wholeApplied` the part
of it applied, in au; `slew` and `corr` are the remainder and the correction as set at `steerClk` (R110). `passClk` is when the
counter last passed LAT_OFFSET and `cycLen` how long its cycle before took; the last cross-stamp holds the four bases `xsTbs`
and the length of the cycle that a conversion uses (R8). `zxCh` holds the chainage of the last edge of each DIO channel, and
under 24 that of ZX_OUT's last pulse (R127, R128). `stored` is the durable set of PERSIST stakes, `dropped` those that its next
write removes, `durWait` the edits that wait for durability with the indices they touched (R120), `feed` the edit records ARB
has not yet taken (R119). -/
structure Lat where
  started : Bool
  startClk : Nat
  loadedCycles : Nat
  pos : Nat
  rate : Nat
  lastQual : Option Nat
  lastRej : Option Nat
  periods : List Nat
  firstCh : Nat
  holdCh : Nat
  goodRun : Nat
  errRun : Nat
  lastErr : Int
  slew : Int
  corr : Int
  steerClk : Nat
  whole : Int
  wholeApplied : Int
  passClk : Nat
  cycLen : Nat
  xsTbs : List TimeBase
  xsPeriod : Nat
  anchorPos : Nat
  anchorTb0 : Nat
  zxCh : Tbl Nat
  stakes : Tbl Stake
  firings : List Firing
  stored : Tbl Stake
  dropped : List Nat
  durWait : List (Nat × List Nat)
  restored : Bool
  feed : List EditRec
deriving DecidableEq, Repr

/-- LAT after a start, in RESET (R106). -/
def Lat.fresh : Lat :=
  { started := false, startClk := 0, loadedCycles := 0, pos := 0, rate := 0, lastQual := none, lastRej := none, periods := []
    firstCh := 0, holdCh := 0, goodRun := 0, errRun := 0, lastErr := 0, slew := 0, corr := 0, steerClk := 0, whole := 0
    wholeApplied := 0, passClk := 0, cycLen := 0, xsTbs := [], xsPeriod := 0, anchorPos := 0, anchorTb0 := 0, zxCh := []
    stakes := [], firings := [], stored := [], dropped := [], durWait := [], restored := false, feed := [] }

end Sys2Proof.Machine
end

