-- ==== Sys2Proof/Machine/TypesNet.lean ====
section
/-! DEFINITION. State types of NTU, HLK and FBC (chapters 13 to 15) beside their registers. Plain data. -/

namespace Sys2Proof.Machine

/-- A reliable frame not yet acknowledged (R405): its SEQ, type, MORE, payload fields in the order of R404, and the
tags of the operations it carries, and the clock of its last sending. -/
structure LinkFrame where
  seq : Nat
  type : Nat
  more : Bool
  fields : List Nat
  ops : List Nat
  sent : Nat
deriving DecidableEq, Repr

/-- A received frame (R402): type, SEQ (0 for unreliable), MORE and payload fields. -/
structure RxFrame where
  type : Nat
  seq : Nat
  more : Bool
  fields : List Nat
deriving DecidableEq, Repr

/-- HLK's view of a member beside its registers (R403, R405, R408, R409): the last SEQ sent, the frames not acknowledged
(those beyond 64 wait), the highest SEQ received in order and the frames held out of order; the START and highest
COUNTER accepted and the counters seen below it; the clock of the last heartbeat; the start number of the life that
went to MISMATCH; the MAC of its latest heartbeat and the fabric port on which that arrived first (R401); whether its
JOIN was accepted while it was LOST (R409). -/
structure Peer where
  txSeq : Nat
  unacked : List LinkFrame
  rxSeq : Nat
  rxHeld : List RxFrame
  rxStart : Option Nat
  rxTop : Nat
  rxSeen : List Nat
  hbClk : Option Nat
  badStart : Option Nat
  via : Option (Nat × Nat)
  joined : Bool
deriving DecidableEq, Repr

/-- A member never bound. -/
def Peer.fresh : Peer := ⟨0, [], 0, [], none, 0, [], none, none, none, false⟩

/-- An export set of the image (R412): its number, PERIOD in cycles, ONCHANGE, points and subscribers; the last SET_SEQ,
the cycle count and the values of the last one sent. -/
structure ExportSet where
  set : Nat
  period : Nat
  onchange : Bool
  points : List Nat
  subs : List Nat
  seq : Nat
  cycle : Option Nat
  last : List (Dword × Nat)
deriving DecidableEq, Repr

/-- An imported set (R413, R414): its source module, number and PERIOD, the local point of each of the source's indices,
the clock of its last record and whether its points stand STALE. -/
structure ImportSet where
  src : Nat
  set : Nat
  period : Nat
  map : List (Nat × Nat)
  clk : Nat
  stale : Bool
deriving DecidableEq, Repr

/-- A unit of the image (R416, R417): root KEY, TYPE and task, the modules whose program holds it, and the global ID
behind each of its slots. -/
structure UnitInfo where
  key : Nat
  type : Nat
  task : Nat
  cands : List Nat
  slots : List (Nat × Nat)
deriving DecidableEq, Repr

/-- A unit's row of the placement table (R418, R421): its host and pin, its state as HLK_Uu_STAT codes it, the old host
the X and the MOVE operation of a move in progress, and former hosts that may still run it (R423). -/
structure UnitRow where
  host : Option Nat
  pin : Option Nat
  st : Nat
  old : Option Nat
  x : Nat
  moveTag : Option Nat
  former : List Nat
deriving DecidableEq, Repr

/-- A unit never placed. -/
def UnitRow.fresh : UnitRow := ⟨none, none, 0, none, 0, none, []⟩

/-- Where a unit stands on its host (R421): bound and waiting for X, its starts held from X on, running, or leaving. -/
inductive HostPhase where
  | bound
  | held
  | running
  | leaving
deriving DecidableEq, Repr

/-- A unit hosted here: its position in the image's list, its phase, the X it waits for, the PLACE_GEN it was placed
under, the destination of a move, its last CP_SEQ, the TB2 second of its last checkpoint, the clock of X. -/
structure Hosted where
  u : Nat
  phase : HostPhase
  x : Nat
  gen : Nat
  dest : Option Nat
  seq : Nat
  sec : Nat
  xClk : Nat
deriving DecidableEq, Repr

/-- A checkpoint of a unit (R419): CP_SEQ, the chainage of the run it holds, its bytes; `total` and `crc` as its
fragments state them. -/
structure Checkpoint where
  key : Nat
  seq : Nat
  ch : Nat
  total : Nat
  crc : Nat
  data : List Byte
deriving DecidableEq, Repr

/-- A unit's subscription at this module (R417): the subscriber, the unit's key, the local indices, SET_SEQ and what was
last sent with its cycle count. -/
structure UnitSub where
  dst : Nat
  unit : Nat
  idxs : List Nat
  seq : Nat
  cycle : Option Nat
  last : List (Dword × Nat)
deriving DecidableEq, Repr

/-- An operation that another module asked for and that waits for a free tag (R73, R428). -/
structure HeldOp where
  id : Nat
  src : Nat
  tg : Nat
  block : Nat
  opcode : Nat
  ctx : Nat
  param : BitVec 384
deriving DecidableEq, Repr

/-- HLK beside its registers. `counter` is the COUNTER of the last frame sent; `serving` gives the module and the tag word for
which an operation runs here; `dir` is the directory of the federated namespace (global ID to type + 256 · context) and
`mirror` the records it holds (R414); `copies` binds points and proxies of this module and `proxyOut` output proxies to global
IDs (R417); `standby` is the standby manager as WELCOME or TAKEOVER named it. Clocks: the last heartbeat of the acting
manager, the loss of the manager a standby judges, the moment this module became acting manager, the last JOIN. `placed` tells
that all units were placed, `handback` the HANDBACK in progress, `asked` the operations (by their number) whose frames have
been sent; `told` what service core 1 last set in the heartbeats, `hbSent` the 100 ms of TB2 of the last one (R406). -/
structure Hlk where
  peers : Tbl Peer
  counter : Nat
  serving : Tbl (Nat × Nat)
  heldOps : List HeldOp
  nextId : Nat
  exports : List ExportSet
  imports : List ImportSet
  dir : Tbl Nat
  mirror : Tbl (Dword × Nat × Nat × Word)
  infos : List UnitInfo
  units : Tbl UnitRow
  hosted : List Hosted
  cps : Tbl Checkpoint
  cpParts : List Checkpoint
  subs : List UnitSub
  copies : Tbl (List Nat)
  proxyOut : Tbl Nat
  standby : Option Nat
  mgrClk : Option Nat
  tkSince : Option Nat
  mgrSince : Nat
  joinClk : Nat
  placed : Bool
  handback : Option Nat
  asked : List Nat
  told : Option (List Nat)
  hbSent : Option Nat
deriving DecidableEq, Repr

/-- HLK of a module that has not started. -/
def Hlk.fresh : Hlk :=
  ⟨[], 0, [], [], 0, [], [], [], [], [], [], [], [], [], [], [], [], none, none, none, 0, 0, false, none, [], none, none⟩

/-- Where a node record carries a point (R477, R478): byte offset, bit number of a BOOL, length in bytes (0 for a
bit). The image's node map gives these. -/
structure NodeField where
  channel : Nat
  node : Nat
  off : Nat
  bit : Nat
  len : Nat
deriving DecidableEq, Repr

/-- A CAN frame to send (R486): identifier, extended, FD, bit rate switching, data. -/
structure CanFrame where
  ident : Nat
  xtd : Bool
  fdf : Bool
  brs : Bool
  data : List Byte
deriving DecidableEq, Repr

/-- A received CAN frame (R487): as sent, with ESI and the chainage of its start of frame. -/
structure CanRx where
  frame : CanFrame
  esi : Bool
  stamp : Nat
deriving DecidableEq, Repr

/-- The frame a channel is sending: its source (a TX buffer 0 to 63, 64 the FIFO head, 65 the reference message), whether
it was begun in a FREE window or event mode (R490), the chainage of its start of frame, and for a node's output record the
remote writes it carries and the confirmation number (R478, R479). -/
structure CanFly where
  src : Nat
  free : Bool
  sof : Nat
  writes : List Nat
  seq : Option Nat
deriving DecidableEq, Repr

/-- An entry of the transmit FIFO, or an operation that waits outside it (R486): tag, frame, starts of frame, clashes. -/
structure CanTx where
  tag : Nat
  frame : CanFrame
  attempts : Nat
  clashes : Nat
deriving DecidableEq, Repr

/-- A message buffer beside its registers: the operation and the frame FRAME_TX put there, starts of frame and clashes of
its pending frame, whether values entered it after the frame in flight began (R478), the shadow (R489), and what stood
before the hand-over of the latest FLD cycle in which there was one: that cycle, whether the buffer was pending, the writes
it held by their numbers, its data (R478). -/
structure CanBuf where
  tag : Option Nat
  frame : Option CanFrame
  attempts : Nat
  clashes : Nat
  newer : Bool
  shadow : Option CanRx
  before : Option (Nat × Bool × List Nat × List Byte)
deriving DecidableEq, Repr

/-- A buffer never used. -/
def CanBuf.fresh : CanBuf := ⟨none, none, 0, 0, false, none, none⟩

/-- A node beside its registers: the chainage of its last input frame or of the bus-on, and the frames that await
confirmation with the writes they carried (R479). -/
structure CanNode where
  inCh : Nat
  sent : List (Nat × List Nat)
deriving DecidableEq, Repr

/-- A node never seen. -/
def CanNode.fresh : CanNode := ⟨0, []⟩

/-- A channel beside its registers: the frame in flight, the transmit FIFO and the operations outside it (R486), the
receive FIFO (R487), the locked entry (0 to 63 a buffer, 64 the FIFO head) with the clock of its lock (R488),
consecutive rows without a reference message (R485), the clocks of bus-offs (R493) and of bus-on (R494), the wait of R476,
the last FB_PERIOD, the start of the present row, and the BUS_ON operations with TEC and REC before recovery. -/
structure CanCh where
  fly : Option CanFly
  fifo : List CanTx
  wait : List CanTx
  rx : List CanRx
  lock : Option (Nat × Nat)
  missRun : Nat
  offs : List Nat
  onClk : Nat
  swapWait : Option Nat
  perClk : Nat
  rowAt : Nat
  busOn : List (Nat × Word)
deriving DecidableEq, Repr

/-- A channel off the bus. -/
def CanCh.fresh : CanCh := ⟨none, [], [], [], none, 0, [], 0, none, 0, 0, []⟩

/-- FBC beside its registers: the node map's output and input points, the channels, the message buffers by 64 · channel +
buffer and the nodes by 32 · channel + node. -/
structure Fbc where
  outMap : Tbl NodeField
  inMap : Tbl NodeField
  chans : Tbl CanCh
  bufs : Tbl CanBuf
  nodes : Tbl CanNode
deriving DecidableEq, Repr

/-- FBC of a module that has not started. -/
def Fbc.fresh : Fbc := ⟨[], [], [], [], []⟩

end Sys2Proof.Machine
end

