-- ==== Sys2Proof/Machine/TypesScn.lean ====
section
/-! DEFINITION. State types of SCN (chapters 08 and 09): program banks, tasks, runs, remote writes. Plain data. -/

namespace Sys2Proof.Machine

/-- A remote station (R14, R280): a field-bus node, a luminaire entry (768 + g for group g) or a module. -/
inductive Station where
  | node (channel n : Nat)
  | lum (entry : Nat)
  | module (m : Nat)
deriving DecidableEq, Repr

/-- An I/O map entry (R273). -/
structure IoEntry where
  point : Nat
  off : Nat
  width : Nat
  isQ : Bool
  onchange : Bool
  bit : Nat
  qoff : Option Nat
deriving DecidableEq, Repr

/-- A task entry (R272) with its I/O map. -/
structure TaskEntry where
  num : Nat
  en : Bool
  event : Bool
  prio : Nat
  lane : Nat
  period : Nat
  start : Nat
  ctx : Nat
  entry : Nat
  lSize : Nat
  warn : Nat
  iSize : Nat
  qSize : Nat
  io : List IoEntry
deriving DecidableEq, Repr

/-- A function-block type (R271). -/
structure FbType where
  entry : Nat
  instSize : Nat
  lSize : Nat
  ver : Nat
deriving DecidableEq, Repr

/-- An instance, or a task data block of Profile S (R261, R271). -/
structure InstEntry where
  key : Nat
  type : Nat
  placeable : Bool
  off : Nat
  parent : Option Nat
deriving DecidableEq, Repr

/-- A primitive record (R259, R264, R271); `inst` is `none` for a record in M, whose offset counts in M. -/
structure RecEntry where
  key : Nat
  type : Nat
  off : Nat
  inst : Option Nat
deriving DecidableEq, Repr

/-- A loaded program (R270, R271) with its instance data and its markers, which an unlisted byte takes from
DATA_INIT and MINIT. -/
structure Bank where
  profF : Bool
  id : Nat
  ver : Nat
  code : List Word
  konst : List Byte
  tasks : List TaskEntry
  fbTypes : List FbType
  insts : List InstEntry
  recs : List RecEntry
  dataInit : List Byte
  mInit : List Byte
  dataSize : Nat
  mSize : Nat
  data : Tbl Byte
  mem : Tbl Byte
deriving DecidableEq, Repr

/-- A bank that holds no program. -/
def Bank.empty : Bank := ⟨false, 0, 0, [], [], [], [], [], [], [], [], 0, 0, [], []⟩

/-- The flag register (R242). -/
structure Fr where
  cb : Bool
  en : Bool
  v : Bool
  vs : Bool
  z : Bool
  n : Bool
  u : Bool
deriving DecidableEq, Repr

/-- A call frame (R262). -/
structure Frame where
  pc : Nat
  ib : Nat
  lb : Nat
  tir : Nat
  fr : Fr
  base : Nat
  fsz : Nat
deriving DecidableEq, Repr

/-- What a task start latches (R278 steps 1 and 2): its chainage, when it was taken, the mapped points' values and
qualities, LAT_STATE and LAT_FREQ. -/
structure StartLatch where
  ch : Nat
  clk : Nat
  vals : List (Nat × Dword × Nat)
  latState : Word
  lineMhz : Word
deriving DecidableEq, Repr

/-- A run on a lane (R241): its task and bank (`bankB`), the start's latch, FR, the accumulators, XR, PC, IB, TIR, LB
and the present frame's size, the condition stack (newest first) with the frame's base, the call stack, the Q entries
a store touched with the epoch of the last touch (R250, R266), the epochs, the stations lost while it was open
(R282), the refused P accesses, and the S words fixed at the start (R251). -/
structure Run where
  lane : Nat
  task : Nat
  bankB : Bool
  latch : StartLatch
  fr : Fr
  a1 : Dword
  a2 : Dword
  xr : Word
  pc : Nat
  ib : Nat
  tir : Nat
  lb : Nat
  fsz : Nat
  cond : List Bool
  base : Nat
  calls : List Frame
  touched : Tbl Nat
  epoch : Nat
  strict : List Nat
  lost : List Station
  denied : Nat
  flags : Word
  lastExec : Word
  tbSec : Word
  tbNs : Word
deriving DecidableEq, Repr

/-- A task between and across its runs: the start that made it READY, a held event start (R276), starts held for an
exchange or a move (R293, R421), the chainage of its last start, the FIRST and RESUMED marks and the skipped starts of
R251, a stop that waits for the end of its run (R288, R291), whether it is dormant (R416),
whether its starts are held for a move (R421), whether it completed a run
since the last clean count (R290), the strict epochs of its last output phase (R266), and its I, Q and L bytes. -/
structure TaskRt where
  ready : Option StartLatch
  held : Option StartLatch
  queue : List StartLatch
  lastStart : Option Nat
  first : Bool
  resumed : Bool
  skipped : Nat
  ovr : Bool
  offAfter : Bool
  dormant : Bool
  hold : Bool
  ran : Bool
  strict : List Nat
  i : Tbl Byte
  q : Tbl Byte
  l : Tbl Byte
deriving DecidableEq, Repr

/-- A task that never ran. -/
def TaskRt.fresh : TaskRt := ⟨none, none, [], none, true, false, 0, false, false, false, false, false, [], [], [], []⟩

/-- Where a remote write stands: issued in an open run, waiting for its epoch, handed to its transport, in a frame
that has begun, or sent and awaiting confirmation (R266, R281, R478, R479). -/
inductive WritePhase where
  | inRun
  | waiting
  | handed
  | inFlight
  | confirming
deriving DecidableEq, Repr

/-- A remote write (R248, R265, R280): its own number, task, run and epoch, the station, the target's global point ID
and type, the value, the tag of a tracked write. -/
structure RemoteWrite where
  id : Nat
  task : Nat
  run : Nat
  epoch : Nat
  station : Station
  target : Nat
  type : Nat
  value : Dword
  tag : Option Nat
  phase : WritePhase
  issued : Nat
deriving DecidableEq, Repr

/-- A SEND or STK record whose operation is open (R264 to R268): the task, whether the record lies in M and at which
byte, the tag, and the outcome once decided: status, RESULT and the cycle of the decision. `dropped` marks a record
without a match in the new bank (R294). -/
structure OpenRec where
  task : Nat
  inM : Bool
  addr : Nat
  stk : Bool
  tag : Nat
  dropped : Bool
  outcome : Option (Nat × Word × Nat)
deriving DecidableEq, Repr

/-- A remote output point of the configuration image: its global ID, station, type and the task that produces it. -/
structure OutPoint where
  gid : Nat
  station : Station
  type : Nat
  task : Nat
deriving DecidableEq, Repr

/-- An armed or running exchange (R293, R297): its operation, X, KEEP_M, whether X has passed. -/
structure Xch where
  tag : Option Nat
  x : Nat
  keepM : Bool
  begun : Bool
deriving DecidableEq, Repr

/-- A store to a marker byte in a SYS cycle: bank, byte, lane and the bits stored (R249). -/
structure MarkNote where
  clk : Nat
  bankB : Bool
  addr : Nat
  lane : Nat
  mask : Nat
deriving DecidableEq, Repr

/-- SCN beside its registers. `marks` holds the marker stores of the present SYS cycle (R249); `written` lists the points SCN
tasks wrote (R299), `lastVals` each Q entry's last written value by task × 65536 + position (R250), `defaults` the declared
defaults (R296), `afterXch` whether the present bank came by an exchange and `lastKeep` that exchange's KEEP_M (R297). -/
structure Scn where
  bankA : Option Bank
  bankB : Option Bank
  xch : Option Xch
  tasks : Tbl TaskRt
  lanes : Tbl Run
  nowHi : Tbl Word
  lastVals : Tbl Dword
  remote : List RemoteWrite
  nextWrite : Nat
  opens : List OpenRec
  outs : List OutPoint
  defaults : Tbl Dword
  written : List Nat
  afterXch : Bool
  lastKeep : Bool
  marks : List MarkNote
deriving DecidableEq, Repr

/-- SCN with no program. -/
def Scn.fresh : Scn := ⟨none, none, none, [], [], [], [], [], 0, [], [], [], [], false, false, []⟩

end Sys2Proof.Machine
end

