-- ==== Sys2Proof/Machine/TypesCfg.lean ====
section
/-! DEFINITION. The configuration image as the start takes it (R391, R542, R573), and the firmware image. -/

namespace Sys2Proof.Machine

/-- A configuration image, its content as the modules of the manual name it: IMAGE_ID, VERSION, digest and signature
(R546); the module's number (R400); the values of the registers marked Image, by BAR0 offset; the point records with
their producers (R11); the enables to be claimed, in the image's order (R68); whether bank B is the active scan bank;
remote outputs and declared defaults of SCN; export and import sets, units and directory of HLK (R412 to R417); the
pinned UIDs and the scene and header words of LCP (R209, R221); the node maps of FBC (R477); the NAND profile (R366, R368). -/
structure CfgImage where
  id : Nat
  ver : Nat
  digest : BitVec 256
  sig : BitVec 512
  moduleNum : Nat
  regs : Tbl Word
  points : Tbl Point
  claims : List Claim
  scanB : Bool
  outs : List OutPoint
  defaults : Tbl Dword
  exports : List ExportSet
  imports : List ImportSet
  infos : List UnitInfo
  dir : Tbl Nat
  uids : Tbl Dword
  scenes : Tbl Word
  headers : Tbl Word
  outMap : Tbl NodeField
  inMap : Tbl NodeField
  blockBytes0 : Nat
  blockBytes1 : Nat
  retryLevels : Nat
deriving DecidableEq, Repr

/-- A firmware image of the service cores: the digest of its bytes and its signature (R546, R572). -/
structure Firmware where
  digest : BitVec 256
  sig : BitVec 512
deriving DecidableEq, Repr

/-- What the supplies and pins show when reset is to be released (R570): VMAIN in mV over the last 10 ms, the junction in
0.1 °C, SYS_RST_N high, every supply output within its range. -/
structure Supplies where
  vmain : Nat
  temp : Int
  rstHigh : Bool
  outputsOk : Bool
deriving DecidableEq, Repr

/-- What the start reads at reset release: the straps ROLE and BOOTSRC (R570), whether the PUF reproduces its key (R536),
whether the CRC of the counter bytes in backup RAM and of their copy in MRAM is good (R578), the duration in µs of the commit
of a life that did not end by PFAIL (R568), the slots whose newest record and the halves of ports' adoption entries that prove
torn (R81, R156; the half by whether it is the second). -/
structure StartIn where
  role : Nat
  bootSrc : Nat
  pufOk : Bool
  bkpOk : Bool
  mramOk : Bool
  torn : List Nat
  tornPorts : List (Nat × Bool)
  commitUs : Nat
deriving DecidableEq, Repr

end Sys2Proof.Machine
end

