-- ==== Sys2Proof/Machine/TypesFab.lean ====
section
/-! DEFINITION. State types of FAB and NTU beside their registers (chapter 14). Plain data. -/

namespace Sys2Proof.Machine

/-- An Ethernet frame (R437, R438): addresses, the C-tag's PCP and VID where it carries one, EtherType, payload, its
length with tag and FCS, and whether the FCS checks. -/
structure EthFrame where
  dst : Nat
  src : Nat
  tag : Option (Nat × Nat)
  etype : Nat
  data : List Byte
  len : Nat
  fcsOk : Bool
deriving DecidableEq, Repr

/-- A frame in an egress queue (R442, R443): its number in the buffer, the frame as it will leave, the ingress port, whether
it lies in the class 7 reservation, the FRAME_TX it belongs to, and of a PTP message whose departure NTU stamps the base, the
message and its sequence number (R461). -/
structure QFrame where
  id : Nat
  frame : EthFrame
  ingress : Nat
  reserved : Bool
  op : Option Nat
  ptp : Option (Nat × Nat × Nat)
deriving DecidableEq, Repr

/-- A MAC table entry (R439): static or learned, its ports as a mask of bits 0 to 54, the clock of its last frame. -/
structure FdbEntry where
  static : Bool
  mask : Nat
  clk : Nat
deriving DecidableEq, Repr

/-- A token bucket as the tokens taken and not yet refilled, at a clock (R444, R445). -/
structure Bucket where
  taken : Nat
  clk : Nat
deriving DecidableEq, Repr

/-- A FRAME_TX whose frame is in the fabric (R466): its tag and slot number, the ports it has still to leave, those it
left and was dropped at, the base of its stamp with the port that stamps it, and the stamp record once taken. -/
structure TxOp where
  tag : Nat
  ord : Nat
  left : List Nat
  sent : Nat
  dropped : Nat
  stamp : Option (Nat × Nat)
  record : Option (List Byte)
deriving DecidableEq, Repr

/-- FAB beside its registers. Queues by 8 · port + class; MAC table by VID · 2^48 + address; buckets by 4 · port + meter (0
BC, 1 MC, 2 UC, 3 class 7); storm windows as the last window with a drop and the run of such windows; clocks: last storm drop,
block, last queue activity, LPI entry, first frame held by LPI, end of the wake time, last LLDPDU received, last one sent with
the Tw it gave (R451); the PCS mode tried on an uplink with its clock (R437). -/
structure Fab where
  queues : Tbl (List QFrame)
  nextId : Nat
  fdb : Tbl FdbEntry
  buckets : Tbl Bucket
  windows : Tbl (Nat × Nat)
  dropClk : Tbl Nat
  blockClk : Tbl Nat
  idleClk : Tbl Nat
  lpiClk : Tbl Nat
  waitClk : Tbl Nat
  wakeClk : Tbl Nat
  lldpClk : Tbl Nat
  lldpSent : Tbl (Nat × Nat)
  eeeOk : List Nat
  pcs : Tbl (Nat × Nat)
  tx : List TxOp
deriving DecidableEq, Repr

/-- FAB with nothing in its buffer. -/
def Fab.fresh : Fab := ⟨[], 0, [], [], [], [], [], [], [], [], [], [], [], [], [], []⟩

/-- The servo of a base (R454, R455): the integral in 2^-15 ns, consecutive updates within SYNC_THR, beyond four times
it and beyond STEP_THR, whether an update came in this life, the rates of its updates in SYNC with their clocks, the
clock of the last Sync. `sync` is the Sync in progress: sequence, ingress time in ns; `delay` the Delay_Req in
progress: sequence, egress time; `diff` the last t2 − t1 in ns. -/
structure Servo where
  integ : Int
  inRun : Nat
  outRun : Nat
  stepRun : Nat
  updated : Bool
  rates : List (Nat × Int)
  syncClk : Option Nat
  sync : Option (Nat × Int)
  delay : Option (Nat × Int)
  diff : Int
  txSeq : Nat
deriving DecidableEq, Repr

/-- A base that no update has reached. -/
def Servo.fresh : Servo := ⟨0, 0, 0, 0, false, [], none, none, none, 0, 0⟩

/-- A foreign master as its Announce messages show it (R458): the ordered comparison data (priority1, class, accuracy,
variance, priority2, identity, steps, sender), its grandmaster and timeSource, its uplink, how many came and when the last
did. -/
structure Foreign where
  data : List Nat
  gm : Nat
  source : Nat
  port : Nat
  count : Nat
  clk : Nat
deriving DecidableEq, Repr

/-- The grandmaster of an Announce: its identity and its time source (R458). -/
structure PtpGm where
  identity : Nat
  source : Nat
deriving DecidableEq, Repr

/-- A TB_ADJ in progress (R467): its tag and slot number, base, end, and the rate it adds. -/
structure TbAdj where
  tag : Nat
  ord : Nat
  base : Nat
  endClk : Nat
  add : Int
deriving DecidableEq, Repr

/-- NTU beside its registers and time bases: servos, the foreign masters of TB0 and the one followed, TB_ADJ in progress, the
offset of TB3 from the base it follows in time units (R457), START of each pulse generator in ns, the clocks of the last PTP
messages sent by message, base and port, and that of the last update of a base that follows another (R454, R458). -/
structure Ntu where
  servos : Tbl Servo
  foreign : List Foreign
  master : Option Foreign
  adj : List TbAdj
  tb3Off : Int
  pgStart : Tbl Nat
  sent : Tbl Nat
  follow : Tbl Nat
deriving DecidableEq, Repr

/-- NTU at a start. -/
def Ntu.fresh : Ntu := ⟨[], [], none, [], 0, [], [], []⟩

end Sys2Proof.Machine
end

