-- ==== Sys2Proof/Machine/TypesSto.lean ====
section
/-! DEFINITION. State types of STO and EMU beside their registers (chapters 11 and 12). Plain data. -/

namespace Sys2Proof.Machine

/-! ### Objects (R373, R374, R388) -/

/-- A record of an appended object (R374): index, the chainage at which its APPEND took effect, its bytes, and the
blocks that hold it. -/
structure StoRec where
  idx : Nat
  ch : Nat
  data : List Byte
  blocks : List Nat
deriving DecidableEq, Repr

/-- A half of a COMMIT slot with its trailer (R388): sequence, VERSION and data. -/
structure SlotHalf where
  seq : Nat
  ver : Nat
  data : List Byte
deriving DecidableEq, Repr

/-- A COMMIT slot. -/
structure CommitSlot where
  a : Option SlotHalf
  b : Option SlotHalf
deriving DecidableEq, Repr

/-- What an object holds: the slots of a COMMIT object with their count and size, bytes replaced whole with the blocks
of each copy, or records with the first record kept and the number dropped. -/
inductive StoBody where
  | slots (n size : Nat) (t : Tbl CommitSlot)
  | whole (data : List Byte) (copy1 copy2 : List Nat)
  | records (l : List StoRec) (first next : Nat)
deriving DecidableEq, Repr

/-- An object. `local` marks a CRITICAL version that the replica peer does not hold (R384), `damaged` one that no copy
returns (R386). -/
structure StoObj where
  cls : Nat
  ver : Nat
  limit : Nat
  body : StoBody
  localOnly : Bool
  damaged : Bool
deriving DecidableEq, Repr

/-- Why the module itself writes an object (R375): a PERSIST stake edit by its LAT tag, a SCENE_WRITE by its LCP tag,
KEY's record or a tenant's blob for a KEY operation by its tag, a raised nonce reservation of a context, a sealed
record of the hold ring, a scan image for a LOAD by its tag, the placement table at a PLACE_GEN. -/
inductive StoFor where
  | stakes (tag : Nat)
  | scenes (tag : Nat)
  | keyRecord (tag : Nat)
  | blob (tag ctx : Nat)
  | reserve (ctx : Nat)
  | record (slot : Nat)
  | scan (tag : Nat)
  | placement (gen : Nat)
deriving DecidableEq, Repr

/-- A write that a block asks STO for: the object, its class, PUT (1), APPEND (2) or DELETE (4), the bytes. -/
structure StoAsk where
  id : Nat
  why : StoFor
  obj : Nat
  cls : Nat
  op : Nat
  data : List Byte
deriving DecidableEq, Repr

/-- Where a CRITICAL write stands with the replica peer (R384): none is asked, the acknowledgement is awaited, it came,
or the write waits for a peer. -/
inductive RepSt where
  | none
  | awaiting
  | acked
  | noPeer
deriving DecidableEq, Repr

/-- An open write (R389): its tag and generation, the object as it will stand, class and operation, the bytes, those
of each copy not yet programmed, the LUNs (8 · channel + LUN) chosen for the copies, the blocks of the copies so far,
where it stands with the peer, and the FLUSH that made it durable, if one did. -/
structure StoWrite where
  tag : Nat
  gen : Nat
  obj : Nat
  cls : Nat
  op : Nat
  limit : Nat
  ver : Nat
  data : List Byte
  left1 : Nat
  left2 : Nat
  lun1 : Nat
  lun2 : Nat
  copy1 : List Nat
  copy2 : List Nat
  rep : RepSt
  flushed : Option Nat
deriving DecidableEq, Repr

/-- What a NAND job does: program a copy of a write, program a wordline of a class on a channel with the bytes it
carries of each write, program a moved block's data, erase a block, read for a GET, read a block for scrubbing. -/
inductive NandDo where
  | copy (tag : Nat) (k : Nat)
  | wordline (cls channel : Nat) (parts : List (Nat × Nat))
  | move (src : Nat)
  | erase
  | read (tag : Nat) (copy : Nat)
  | scrub
deriving DecidableEq, Repr

/-- A NAND job in progress on a block: bytes, attempt of a program (R370) and read-retry level of a read (R368). -/
structure NandJob where
  id : Nat
  block : Nat
  what : NandDo
  bytes : Nat
  attempt : Nat
deriving DecidableEq, Repr

/-- What a block is: free, taking writes of a class, closed, a spare, or bad (R367, R370). -/
inductive BlockSt where
  | free
  | taking (cls : Nat)
  | closed
  | spare
  | bad
deriving DecidableEq, Repr

/-- A NAND block: channel, LUN, pool, erase count, bytes programmed since the erase, reads since the program (R371),
the day of its last scrub or program, whether a read found it over the relocation threshold. -/
structure NandBlock where
  channel : Nat
  lun : Nat
  pool : Nat
  ec : Nat
  st : BlockSt
  used : Nat
  reads : Nat
  day : Nat
  worn : Bool
deriving DecidableEq, Repr

/-- A block of no medium. -/
def NandBlock.absent : NandBlock := ⟨0, 0, 0, 0, .bad, 0, 0, 0, false⟩

/-- How a NAND read ended: every codeword correct, one not, or a sector whose tag does not verify (R368, R369). -/
inductive ReadEnd where
  | good
  | bad
  | auth
deriving DecidableEq, Repr

/-- A GET in progress: its copy being read, and whether the peer's replica is awaited (R386). -/
structure StoRead where
  tag : Nat
  gen : Nat
  copy : Nat
  peer : Bool
deriving DecidableEq, Repr

/-- A BARRIER or FLUSH in progress: the operations waited for and how many of those failed (R378, R379). -/
structure StoWait where
  tag : Nat
  mask : Nat
  barrier : Bool
  tags : List Nat
  total : Nat
  failed : Nat
deriving DecidableEq, Repr

/-- A replica kept for another module (R383, R385): its version and bytes; `none` for a DELETE. -/
structure Replica where
  src : Nat
  obj : Nat
  ver : Nat
  data : Option (List Byte)
deriving DecidableEq, Repr

/-- What a LUN showed at identification (R366). -/
structure LunFound where
  channel : Nat
  lun : Nat
  matched : Bool
  blocks : Nat
  badBlocks : List Nat
deriving DecidableEq, Repr

/-- STO beside its registers. `blockBytes0`, `blockBytes1` (bytes of a block of each pool) and `retryLevels` are the NAND
profile's; `objs` is keyed by object ID; `durable` holds ended module writes that another block's command takes up, with their
status; `buffer` holds the writes buffered per class and channel (key 2 · class + channel) with their bytes, `bufClk` the
clock of the oldest; `scanned` the blocks checked in the present scrub pass; `parts` fragments of replicas received. -/
structure Sto where
  objs : Tbl StoObj
  blocks : Tbl NandBlock
  blockBytes0 : Nat
  blockBytes1 : Nat
  retryLevels : Nat
  jobs : List NandJob
  nextId : Nat
  writes : List StoWrite
  reads : List StoRead
  waits : List StoWait
  asks : List (Nat × StoAsk)
  held : List StoAsk
  durable : List (StoFor × Nat)
  buffer : Tbl (List (Nat × Nat))
  bufClk : Tbl Nat
  unrep : List Nat
  scanned : List Nat
  pendRep : List Replica
  replicas : List Replica
  parts : List Replica
deriving DecidableEq, Repr

/-- STO with no medium. -/
def Sto.fresh : Sto :=
  ⟨[], [], 0, 0, 0, [], 0, [], [], [], [], [], [], [], [], [], [], [], [], []⟩

/-! ### EMU -/

/-- A sample of a front end as its decimators deliver it (R334, R336): the seven channels V1 to V3, I1 to I3, IN, and
the fundamental of the three voltages delayed by a quarter cycle, all after the profile's processing and the channel's
delay, normalised to ±1 at 2^23. -/
structure EmuFrame where
  v : List Int
  v90 : List Int
deriving DecidableEq, Repr

/-- Where the span of an energy gap begins (R354): start number, chainage, TB0 in ns and whether it was synchronised,
RTC seconds, and whether the reference was qualified. -/
structure GapFrom where
  start : Nat
  ch : Nat
  tbNs : Nat
  tbOk : Bool
  rtcSec : Nat
  mains : Bool
deriving DecidableEq, Repr

/-- A front end's running values. `last` are the last sample's raw values; `ref` the newest samples of the voltage
channels in µV, newest first; `win` the products v·i and v90·i of the phases in pW, newest first; `sq` the sums of
squares over the cycle of the seven channels and of the phase currents' sum; `psum` the sums of p and q over the cycle
by element; `n` the samples of the cycle; `v1` the clocks of the last V1 crossings; `totals` the last total p in pW;
`clipped` the channels that reached 98 % in the cycle; `clean` the clean cycles of each faulted channel; `revRun` the
opposite-sign cycles per phase; `faultAt` where each element became faulted; `growth` the
total IMP at the start of the cycle and its growth over the cycle before; `since` the clock at which its modulator
clock started and `metering` whether metering has resumed (R353). -/
structure FrontEnd where
  last : List Int
  ref : List (List Int)
  win : List (List Int)
  sq : List Nat
  psum : List Int
  n : Nat
  v1 : List Nat
  totals : List Int
  clipped : Nat
  clean : Tbl Nat
  revRun : Tbl Nat
  faultAt : Tbl GapFrom
  cycleImp : Int
  growth : Nat
  since : Nat
  metering : Bool
deriving DecidableEq, Repr

/-- A front end that has taken no sample. -/
def FrontEnd.fresh : FrontEnd := ⟨[], [], [], [], [], 0, [], [], 0, [], [], [], 0, 0, 0, false⟩

/-- A slot of the energy mirror (R352): header, accumulators in 2^-32 LSB (key 24 m + 6 e + k), port energy, pulse
counts, generator remainders and backlogs, and the source values at the start of the present interval. -/
structure MirrorSlot where
  seq : Nat
  cycle : Nat
  start : Nat
  ch : Nat
  final : Bool
  acc : Tbl Int
  ports : Tbl Nat
  pulses : Tbl Nat
  rems : Tbl Nat
  backs : Tbl Nat
  ivAcc : Tbl Int
  ivPorts : Tbl Nat
  ivPulses : Tbl Nat
  ivStart : Nat
  ivSec : Nat
  ivNs : Nat
  ivSeq : Nat
  growth : List Nat
  mains : Bool
  tbNs : Nat
  tbOk : Bool
  rtcSec : Nat
deriving DecidableEq, Repr

/-- A tenant's blob (R548): TK_c, KEY_GEN and the sealing reservation. -/
structure KeyBlob where
  key : BitVec 256
  gen : Nat
  reserve : Nat
deriving DecidableEq, Repr

/-- A record in the hold ring (R350): ring slot, context, KIND of its envelope (2 interval, 3 gap), bytes; the sealed
bytes once TEN has sealed it, whether its storage write was asked for, the clock of the last such request, and the key that
its seal began with (R549). -/
structure HoldRec where
  slot : Nat
  ctx : Nat
  kind : Nat
  data : List Byte
  sealed : Option (List Byte)
  writing : Bool
  tried : Nat
  key : Option KeyBlob
deriving DecidableEq, Repr

/-- The end of an interval at its boundary (R347, R349, R351): clock, chainage, TB0 and whether CLOCK ran as CYCLES, with the
ports' energies and the pulse counts there. -/
structure IvEnd where
  clk : Nat
  ch : Nat
  sec : Nat
  ns : Nat
  fallback : Bool
  ports : Tbl Nat
  pulses : Tbl Nat
deriving DecidableEq, Repr

/-- EMU beside its registers. `busy` gives the generators in a pulse: until when, and whether it is high (R346). `ivWait` is
an interval that has ended, until the last sample before its boundary has come out of the filter, and `snapAt` the clock of
the Survey whose snapshot stands (R343). `offSpan` is the OFF span of this start, until the first sample. `ivOpen` tells
whether an interval of this life has begun; `ivPartial`, `ivMerged`, `ivGaps` and `ivBad` are the present interval's flags:
begun within a life, joined, contexts whose sources a gap touched, and contexts with a source faulted or over range. -/
structure Emu where
  fe : Tbl FrontEnd
  acc : Tbl Int
  pulseAt : Tbl Nat
  pulseSpan : Tbl Nat
  rems : Tbl Nat
  busy : Tbl (Nat × Bool)
  mirror : Tbl MirrorSlot
  ivAcc : Tbl Int
  ivPorts : Tbl Nat
  ivPulses : Tbl Nat
  ivSec : Nat
  ivNs : Nat
  ivPartial : Bool
  ivMerged : Bool
  ivGaps : List Nat
  ivBad : List Nat
  ivClose : List Nat
  lastTb0 : Option Nat
  ring : List HoldRec
  nextSlot : Nat
  crossing : Option (Nat × Nat)
  pgSrc : Tbl Nat
  offSpan : Option GapFrom
  ivOpen : Bool
  ivWait : Option IvEnd
  snapAt : Option Nat
deriving DecidableEq, Repr

/-- EMU before its first start. -/
def Emu.fresh : Emu :=
  ⟨[], [], [], [], [], [], [], [], [], [], 0, 0, false, false, [], [], [], none, [], 0, none, [], none, false, none, none⟩

end Sys2Proof.Machine
end

