-- ==== Sys2Proof/Machine/TypesPower.lean ====
section
/-! DEFINITION. State types of PSE, ARB, LCP and DIO beside their registers (chapters 05 to 07 and 16). Plain data. -/

namespace Sys2Proof.Machine

/-- What a PSE die holds of one of its ports on its own (R153, R154): the pairsets powered (1 A, 2 B, 3 both), classes
and current limits in mA, SUSTAIN as last given to the die, the latched off reason, and the energy count of 0.1 mWh
with its saturation flag. -/
structure DiePort where
  pairs : Nat
  cls : Nat
  clsB : Nat
  dual : Bool
  ilim : Nat
  ilimB : Nat
  icut : Nat
  icutB : Nat
  sustain : Bool
  reason : Nat
  count : Nat
  frac : Nat
  sat : Bool
deriving DecidableEq, Repr

/-- A port of a die that is off and was never on. -/
def DiePort.off : DiePort := ⟨0, 15, 15, false, 0, 0, 0, 0, false, 0, 0, 0, false⟩

/-- One half of a port's adoption record entry, as it was written whole; at a start a half whose CRC-32 does not fit is none
(R155, R156). -/
structure AdoptHalf where
  seq : Nat
  powered : Bool
  pairs : Nat
  cls : Nat
  clsB : Nat
  ilim : Nat
  icut : Nat
  grant : Nat
  sustain : Bool
  minGrant : Nat
deriving DecidableEq, Repr

/-- A port's adoption record entry: two alternating halves (R155). -/
structure AdoptRec where
  a : Option AdoptHalf
  b : Option AdoptHalf
deriving DecidableEq, Repr

/-- A 1 ms measurement of a port by its die (R151): mV and mA. -/
structure PortMeas where
  v : Nat
  ia : Nat
  ib : Nat
deriving DecidableEq, Repr

/-- What PSE and ARB hold of a port beside its registers: when its detection ended (R139) and from when the next one may
start (R135), whether it keeps its grant through a repeated detection, the clocks of its cuts within the window (R145),
whether it was disabled in FAULT_LOCK (R163), when it entered its present state (R140, R141, R163), when it asked for its
grant (R169), when a PORT_CYCLE's off time ends, the adopted grant that stands (R189), whether autoclass was reported, its
last sample with its clock (R147), the energy below 0.1 mWh in mW·ms, ARB's grant in force, the chainage of its latest
increase, ARB_PnCFG and ARB_PnFIXED as they stood at that grant (R197), and the pairsets its class powers. -/
structure PortX where
  detClk : Nat
  detDue : Nat
  keepGrant : Bool
  cuts : List Nat
  wasLocked : Bool
  since : Nat
  autoDone : Bool
  askClk : Option Nat
  cycleEnd : Option Nat
  adopted : Option Nat
  sample : Option (Nat × PortMeas)
  eFrac : Nat
  eBefore : Option (Nat × Nat)
  grant : Nat
  gstamp : Nat
  arbCfg : Option (Word × Nat)
  pairsWant : Nat
deriving DecidableEq, Repr

/-- A port with nothing pending. -/
def PortX.idle : PortX := ⟨0, 0, false, [], false, 0, false, none, none, none, none, 0, none, 0, 0, none, 0⟩

/-- PSE: ports, dies, the adoption record and whether a cut by VPSE awaits the return of the supply (R148). `cold` and
`dieMode` are the dies' own: they outlive the module's logic (R153, R156). `limV` is the VPSE in mV
for which ICUT was last set (R142). `satDue` are adopted ports with the saturated count that asks for a gap record, `holdFrom`
where the span began in which the dies counted on their own (R157, R354); `pastReturn` the operations past their point of
no return, each by the order in which it began (R159), `slotClk` the last start slot while the counter stands (R138). -/
structure Pse where
  ports : Tbl PortX
  diePorts : Tbl DiePort
  dieMode : Tbl Nat
  cold : Tbl Bool
  record : Tbl AdoptRec
  hold : Bool
  vpseCut : Bool
  recordDue : List Nat
  limV : Nat
  satDue : List (Nat × Nat)
  holdFrom : Option GapFrom
  pastReturn : List Nat
  slotClk : Option Nat
deriving DecidableEq, Repr

/-- A reservation (R176): the stake's index and GEN, the occurrence, the pool, and the amounts held and unheld. `seq`
orders reservations by when they were priced; `target` is the port or channel of a PORT_POWER or DIO_SET, FFFFh for
the others. -/
structure Resv where
  index : Nat
  gen : Nat
  ch : Nat
  pool : Nat
  held : Nat
  unheld : Nat
  seq : Nat
  target : Nat
deriving DecidableEq, Repr

/-- A request for a field output's grant (R173): channel and arrival. -/
structure FieldAsk where
  channel : Nat
  clk : Nat
deriving DecidableEq, Repr

/-- ARB beside its registers: reservations by view entry, the stakes that await pricing (index, GEN, chainage), the
caps in the order they were set (entry), the last 16 ms of draw per pool, the 1 s of samples behind the residual (M1's
DC equivalent and port power in mW, newest first), evaluations since a pool came to rest within its limits, limits set
and not yet in force (pool, limit, tag, clock), field requests, the chainage of each channel's latest grant, reservations of
firings whose commands are not yet decided, the OUTER_CHECK ticks since OUTER_EXCESS was last set, and how many of them in a
row found the residual above OUTER_TOL and below half of it (R191). -/
structure Arb where
  resv : Tbl Resv
  nextSeq : Nat
  toPrice : List (Nat × Nat × Nat)
  caps : List Nat
  draw0 : List Nat
  draw1 : List Nat
  m1Hist : List Int
  pwrHist : List Nat
  calm : Nat
  limitsDue : List (Nat × Nat × Nat × Nat)
  fieldAsks : List FieldAsk
  fieldStamp : Tbl Nat
  lastCut0 : Nat
  lastCut1 : Nat
  coreDown : Bool
  fired : List Resv
  outerTicks : Nat
  overTicks : Nat
  belowTicks : Nat
deriving DecidableEq, Repr

/-- A change of a luminaire or group point that LCP has yet to turn into commands (R211): the point and the value written,
the chainage at which the write took effect, the lead of the stake or of the group's LEAD point and the group's FADE as they
stood, the stake's index, GEN and occurrence, and the origin with its clock, which order changes (R12). -/
structure PointChange where
  point : Nat
  value : Dword
  ch : Nat
  lead : Nat
  fade : Nat
  stake : Option (Nat × Nat × Nat)
  host : Bool
  ctx : Nat
  origin : Nat
  clk : Nat
deriving DecidableEq, Repr

/-- What a received luminaire frame says of itself (R202, R204): the port it came in by, its source MAC, VER, the payload bytes
that LEN gives, SEQ, SUB, FLAGS and SESSION. -/
structure LcpHead where
  port : Nat
  mac : Nat
  ver : Nat
  len : Nat
  seq : Nat
  sub : Nat
  flags : Nat
  session : Nat
deriving DecidableEq, Repr

/-- The head and the payload of a STATUS (R207); `appliedNs` is the applied TB1 time in ns. -/
structure LcpStatus where
  head : LcpHead
  appliedSeq : Nat
  pendingSeq : Nat
  level : Nat
  target : Nat
  cct : Nat
  temp : Nat
  power : Nat
  cap : Nat
  flags : Nat
  appliedNs : Nat
deriving DecidableEq, Repr

/-- The head and the payload of an ANNOUNCE (R207). -/
structure LcpAnnounce where
  head : LcpHead
  uid : Dword
  model : Nat
  fw : Nat
  subCount : Nat
  caps : Nat
  pmax : Nat
deriving DecidableEq, Repr

/-- The CODE of an ACCEPT (R207), and what its head says beside port, SUB and MAC. -/
structure LcpAccept where
  code : Nat
  ver : Nat
  len : Nat
  seq : Nat
  flags : Nat
  session : Nat
deriving DecidableEq, Repr

/-- What a command carries (R206): a level, a cap or an identify. -/
inductive LcpKind where
  | level
  | cap
  | identify
deriving DecidableEq, Repr

/-- A change queued for one luminaire and not yet formed (R211). `value` is the level, the cap in mW or the duration;
`group` names the set that one recall or point write forms (R178, R181); `origin` is LnLAST's code (R235). -/
structure LcpChange where
  entry : Nat
  kind : LcpKind
  value : Nat
  cct : Nat
  fade : Nat
  applyCh : Nat
  now : Bool
  origin : Nat
  ctx : Nat
  group : Nat
  stake : Option (Nat × Nat × Nat)
  override : Bool
deriving DecidableEq, Repr

/-- An open command (R211 to R217). `seq` is the sequence of its frame once sent, `arrive` its arrival at ARB, `granted`
whether it may be sent, `tx` its transmissions and `txClk` the clock of the latest, `applyNs` its stamped TB1 time in ns. -/
structure LcpCmd where
  tag : Nat
  change : LcpChange
  seq : Nat
  arrive : Nat
  raise : Nat
  granted : Bool
  tx : Nat
  txClk : Nat
  accepted : Bool
  asked : Bool
  applyNs : Nat
deriving DecidableEq, Repr

/-- What LCP holds of an entry beside its registers: session, next sequence, learned MAC, the pending ASSIGN's transmissions,
sequence and latest clock, whether it was ONLINE in this life, whether its adoption waits for a STATUS, whether one came and
the clock of the latest, the clock of the latest frame sent (R231), whether its level has been confirmed since (R189), its
grant in ARB and the chainage of the grant's latest increase, the program's value and quality kept under an override (R227),
and whether a target was set. -/
structure Lum where
  session : Nat
  nextSeq : Nat
  mac : Nat
  assignTx : Nat
  assignSeq : Nat
  assignClk : Nat
  everOnline : Bool
  adopting : Bool
  seen : Bool
  statusClk : Nat
  sentClk : Nat
  confirmed : Bool
  grant : Nat
  gstamp : Nat
  prog : Option (Word × Nat)
  targetSet : Bool
deriving DecidableEq, Repr

/-- An entry that was never bound in this life. -/
def Lum.fresh : Lum := ⟨0, 0, 0, 0, 0, 0, false, false, false, 0, 0, false, 0, 0, none, false⟩

/-- LCP: its luminaires, scene and header words (R221), point changes not yet seen, queued changes, open commands, the
next session and group numbers, scene writes that await durability (tag), the durable
scene and header words, the UIDs that the image pins (R209), the operations that complete with
a RESULT once their commands have been formed (R234), and the clock of each port's latest DISCOVER (R208). -/
structure Lcp where
  lums : Tbl Lum
  scenes : Tbl Word
  headers : Tbl Word
  changes : List PointChange
  queue : List LcpChange
  cmds : List LcpCmd
  nextSession : Nat
  nextGroup : Nat
  sceneWait : List Nat
  storedScenes : Tbl Word
  storedHeaders : Tbl Word
  uids : Tbl Dword
  opWait : List (Nat × Word)
  discClk : Tbl Nat
deriving DecidableEq, Repr

/-- A channel of DIO beside its registers: its filter (R505), its owner's latest command, the output as driven, the command that
has waited for an edge since a clock (R508), whether it asks ARB and the tags that wait for the answer (R507), the ticks of
its conditions and the retries after a short (R509), its grant, whether its request stands because ARB cut it (R185), and
when a short cut it last (R509). -/
structure DioCh where
  filt : Nat
  raw : Bool
  cmd : Option Bool
  on : Bool
  waiting : Option Bool
  takenClk : Nat
  asking : Bool
  waiters : List Nat
  limTicks : Nat
  openTicks : Nat
  vccTicks : Nat
  misTicks : Nat
  retries : List Nat
  retryDue : Bool
  grant : Nat
  arbCut : Bool
  cutClk : Nat
deriving DecidableEq, Repr

/-- A channel at rest. -/
def DioCh.idle : DioCh := ⟨0, false, none, false, none, 0, false, [], 0, 0, 0, 0, [], false, 0, false, 0⟩

/-- What the field die measures of an output in one diagnosis tick (R509): pad in mV, current in mA, whether the current
limit is active and whether the channel's die temperature exceeds 150 °C. -/
structure DioMeas where
  mv : Int
  ma : Nat
  limit : Bool
  hot : Bool
deriving DecidableEq, Repr

/-- What DIO measures every 10 µs: the channels from 0 upward, and of the pulse inputs from 0 upward the supply current in
0.1 mA and whether its limit is active (R509, R514). -/
structure DioScan where
  chans : List DioMeas
  supply : List (Nat × Bool)
deriving DecidableEq, Repr

/-- DIO: channels, pulse input filter counters, field supply ticks (below 18 V, above 20 V, over current), the order of
shedding, whether outputs are at safe state and why they stay there, the SAFE values the field die holds (R511), and
whether the logic watchdog has expired without a restart, the qualified pulses that EMU has yet to take (input, chainage;
R513), the watchdog's last restart (R510), and per pulse input when it went ON and the ticks of its supply limit (R514). -/
structure Dio where
  chans : Tbl DioCh
  piFilt : Tbl Nat
  low : Nat
  high : Nat
  overTicks : Nat
  shed : List Nat
  restoreTags : List Nat
  safe : Bool
  wdtExpired : Bool
  dieSafe : Tbl Nat
  dieLost : Bool
  pulses : List (Nat × Nat)
  wdtClk : Nat
  piOn : Tbl Nat
  piLimit : Tbl Nat
deriving DecidableEq, Repr

end Sys2Proof.Machine
end

