-- ==== Sys2Proof/Syntax.lean ====
section
/-! DEFINITION. The commands of the FCM-48 as one inductive, one constructor per row of spec/opcode_table.json. -/

namespace Sys2Proof

/-- The commands of the block: one constructor per row of the table of operations and events. A host access carries
its requester and the written word, an operation row the tag of its slot, an event row what the event delivers. -/
inductive Instr where
  /-- A host write to a register that has no row of its own takes effect by its access type (R34). The TLP's dwords with their
  byte enables, from `off` upward. -/
  | regWrite (rq : Requester) (off : Nat) (data : List (BitVec 4 × Word))
  /-- A read of an RC register returns its value and then clears it (R34). -/
  | rcRead (rq : Requester) (off : Nat)
  /-- A read of a _LO register of a module-updated value latches the _HI word for the next read (R33). -/
  | hiLatchRead (rq : Requester) (off : Nat)
  /-- A read of the first word of a multi-word view entry latches the rest of that entry (R131). -/
  | entryLatchRead (rq : Requester) (off : Nat)
  /-- A read of ERR_CODE copies the error detail to ERR_INFO and clears CODE, COUNT and the internal detail (R43). -/
  | errCodeRead (rq : Requester) (block : Nat)
  /-- A W1C write to IRQ_STAT clears latched interrupt bits unless the event recurs in the same cycle (R41). `recurs` holds
  the events that occur again in the same cycle. -/
  | irqStatClear (rq : Requester) (block : Nat) (value : Word) (recurs : Word)
  /-- A W1S write to IRQ_FORCE sets events in IRQ_STAT for test (R36). -/
  | irqForce (rq : Requester) (block : Nat) (value : Word)
  /-- A write of CTRL.EN enables or disables a block, ignored while STAT.READY = 0 (R37). `value` is the word written to CTRL.
  -/
  | ctrlEn (rq : Requester) (block : Nat) (value : Word)
  /-- A write of 1 to CTRL.SRST runs the soft reset sequence of the block (R95). -/
  | srst (rq : Requester) (block : Nat)
  /-- Step 4 of the soft reset returns registers to reset values, releases claims and clears SRST (R95). -/
  | softResetComplete (block : Nat)
  /-- An access to an unimplemented BAR0 offset reads 0 or is discarded and is recorded (R31). -/
  | unmappedAccess (rq : Requester) (off : Nat) (write : Bool)
  /-- A read longer than 8 bytes ends in Completer Abort and reads nothing (R32). -/
  | longReadAbort (bytes : Nat)
  /-- An AtomicOp to BAR0 ends in Unsupported Request (R32). -/
  | atomicOp
  /-- PERST#, a hot reset, a link-down or D3hot disables every ring and queue while the floor runs on (R48). -/
  | pcieReset
  /-- An SPI READ command returns ready bytes and then BAR0 data words (R50). `count` is the RTC prescaler's count at the
  read. -/
  | spiRead (off : Nat) (words : Machine.SpiSpan) (count : Nat)
  /-- An SPI WRITE command writes data words to BAR0, subject to LOCK and fence limits (R49). `cut`: CS_N rose inside one more
  word. -/
  | spiWrite (off : Nat) (data : List Word) (cut : Bool)
  /-- An SPI STATUS command returns the status byte and clears ERR (R51). -/
  | spiStatus
  /-- An SPI IDENT command returns SUP_ID (R49). -/
  | spiIdent
  /-- A PCIe write of HIF_SPI_CTRL.LOCK restricts which SPI writes take effect (R53). -/
  | spiLock (rq : Requester) (value : Word)
  /-- A write of 1 to HIF_MBOX_GO submits the mailbox descriptor as an operation (R54). -/
  | mboxGo (rq : Requester) (value : Word)
  /-- A write of HIF_SQn_DB releases descriptors up to the new tail, or is refused on overflow (R56). -/
  | sqDoorbell (rq : Requester) (ring : Nat) (value : Word)
  /-- A write of HIF_SQn_CTRL.EN starts or stops fetching from a ring, refused for a misaligned base (R64). `value` is the
  word written to HIF_SQn_CTRL. -/
  | sqEnable (rq : Requester) (ring : Nat) (value : Word)
  /-- A write of HIF_CQn_CTRL.EN enables a queue, resetting TAIL and PHASE, or holds its completions (R64). `value` is the
  word written to HIF_CQn_CTRL. -/
  | cqEnable (rq : Requester) (queue : Nat) (value : Word)
  /-- A write of HIF_CQn_HEAD frees queue entries and releases held completions (R61). -/
  | cqHeadWrite (rq : Requester) (queue : Nat) (value : Word)
  /-- HIF fetches descriptors from enabled rings by priority and gives each an operation tag (R57). The 64 bytes the ring
  holds at its head (R58). -/
  | descriptorFetch (desc : BitVec 512)
  /-- A freed tag goes to a waiting internal producer, whose held request then begins (R73). -/
  | tagWaitRelease
  /-- An operation's timeout expires and it is decided FAIL_TIMEOUT or the block's specific code (R76). -/
  | opTimeout (tag : Nat)
  /-- A decided operation's completion entry is written to its queue, mailbox or history once room exists (R93). Where the
  oldest decided operation of that route is written: queue 0-7, 8 the history alone, 9 the mailbox. -/
  | completionWrite (route : Nat)
  /-- The data-link acknowledgement of a completion TLP frees the operation's slot (R75). -/
  | completionAcked (tag : Nat)
  /-- COAL_TIME elapses after the first unsignalled entry and the queue signals its vector (R62). -/
  | cqCoalTimeout (queue : Nat)
  /-- A write to HIF_FENCE increments the requester's fence sequence and holds its later writes (R90). -/
  | hifFence (rq : Requester)
  /-- A read of HIF_FENCE returns the fence sequence once all earlier writes have taken effect (R91). -/
  | hifFenceRead (rq : Requester)
  /-- The OPT CANCEL operation requests FAIL_CANCELLED for a target before its point of no return (R80). -/
  | cancel (tag : Nat)
  /-- The OPT QUERY operation returns the target's state, status and age (R79). -/
  | query (tag : Nat)
  /-- A write of 1 to OPT_LOST_CTRL.RELEASE starts writing held lost reports to the chosen queue (R85). `value` is the word
  written to OPT_LOST_CTRL. -/
  | lostRelease (rq : Requester) (value : Word)
  /-- One held lost report is written to its queue when room exists and is deleted from MRAM (R85). -/
  | lostReportWrite
  /-- A rising crossing delivered by EMU is qualified or rejected and drives the LAT timebase state (R104). -/
  | benchmarkCrossing
  /-- In a cycle without a qualified crossing the counter passing LAT_OFFSET records a cross-stamp (R8). -/
  | counterCrossStamp
  /-- 1.5 nominal cycles without a qualified crossing declare reference loss and enter HOLDOVER (R107). -/
  | refLoss
  /-- With no qualified crossing 1.5 cycles after the timebase starts, LAT enters SYNTHETIC (R106). -/
  | timebaseNoRef
  /-- No lock within 10 cycles of the first qualified crossing sends LAT to SYNTHETIC (R106). -/
  | acquireTimeout
  /-- 50 cycles of holdover end and LAT enters SYNTHETIC with an anchor (R106). -/
  | holdoverEnd
  /-- The STAKE_SET operation writes a stake entry at an index or the lowest free index (R116). -/
  | stakeSet (tag : Nat)
  /-- The STAKE_MODIFY operation replaces a stake entry, optionally checking its generation (R116). -/
  | stakeModify (tag : Nat)
  /-- The STAKE_CLEAR operation clears a stake entry, optionally checking its generation (R116). -/
  | stakeClear (tag : Nat)
  /-- The STAKE_CLEAR_OWNER operation clears every stake of an owner and context as consecutive edits (R118). -/
  | stakeClearOwner (tag : Nat)
  /-- A PERSIST stake edit completes once its change is durable in the CRITICAL class (R120). -/
  | stakeEditDurable (tag : Nat)
  /-- A valid stake whose chainage is reached fires as one internal operation (R121). -/
  | stakeFire
  /-- The acknowledgement of a stake's action completes the firing operation (R122). -/
  | stakeActionAck (tag : Nat)
  /-- At a channel's switch angle LAT sends that DIO channel a zero-crossing edge (R127). -/
  | zxEdge (channel : Nat)
  /-- At LAT_ZXOUT.ANGLE LAT drives a pulse on the ZX_OUT pad while it holds the claim (R128). -/
  | zxOutPulse
  /-- An enabled unpowered port starts a detection every 1,000 ms (R135). -/
  | portDetect (port : Nat)
  /-- A detection ends with its result and leads to classification only when VALID (R135). `result` is the code of R135. -/
  | detectionDone (port : Nat) (result : Nat)
  /-- Classification ends and the port enters GRANT_WAIT and asks ARB for power (R136). What the connection check and the
  class events found. -/
  | classifyDone (port : Nat) (valid : Bool) (dual : Bool) (clsA : Nat) (clsB : Nat) (type3 : Bool) (autoclass : Bool)
  /-- A start slot at a half-cycle boundary admits granted ports into INRUSH (R138). -/
  | staggerSlot
  /-- At 60 ms of inrush the port enters POWERED or is cut with INRUSH_FAIL (R140). `settled`: the port voltage is within 2 V
  of VPSE. -/
  | inrushEnd (port : Nat) (settled : Bool)
  /-- The autoclass window ends and Pautoclass is reported to ARB (R141). `peak` is the highest 1 ms port power of the window,
  in mW. -/
  | autoclassMeasure (port : Nat) (peak : Nat)
  /-- A pairset current above 2 x ILIM turns the gate off within 10 us (R143). `pairset`: 1 is A, 2 is B. -/
  | fastCut (port : Nat) (pairset : Nat)
  /-- Current above ICUT for tOVLD cuts the port with reason OVERLOAD (R143). -/
  | overloadCut (port : Nat) (pairset : Nat)
  /-- Current at ILIM for tLIM cuts the port with reason LIMIT (R143). -/
  | limitCut (port : Nat) (pairset : Nat)
  /-- MPS absent for tMPDO disconnects the port or pairset with reason MPS_LOSS (R144). -/
  | mpsLoss (port : Nat) (pairset : Nat)
  /-- The 1.0 s error delay ends and the port returns to DETECT or FAULT_LOCK (R163). -/
  | errDelayEnd (port : Nat)
  /-- VPSE outside 49-58 V for 1 ms holds new power-ups in STAGGER (R148). -/
  | vpseHold (mv : Nat)
  /-- VPSE within 51-57 V for 10 ms ends the power-up hold (R148). -/
  | vpseHoldEnd (mv : Nat)
  /-- VPSE below 44 V for 10 ms cuts every port with reason VPSE_UV (R148). -/
  | vpseUvCut (mv : Nat)
  /-- VPSE above 60 V for 1 ms cuts every port with reason VPSE_OV (R148). -/
  | vpseOvCut (mv : Nat)
  /-- VPSE below -1 V holds every gate off and sets STAT.FAULT (R149). -/
  | vpseRev
  /-- VPSE back within range for 100 ms after a cut lets ports resume detection (R148). -/
  | vpseResume (mv : Nat)
  /-- A die's 1 ms temperature report sets THERM_WARN or cuts its ports with DIE_THERMAL (R150). `temp` in 0.1 °C. -/
  | dieTemp (die : Nat) (temp : Int)
  /-- Every 1 ms the dies measure each port, PSE adds energy and updates port points and ICUT (R151). `vpse` in mV; the
  measurements of ports 0 upward. -/
  | pseSample (vpse : Nat) (ports : List Machine.PortMeas)
  /-- PSE writes a port's adoption record entry within 1 ms of a change of its power state (R155). -/
  | adoptionRecordWrite (port : Nat)
  /-- 2 ms without keep-alive puts a die in AUTONOMOUS, cutting non-SUSTAIN ports (R153). -/
  | dieAutonomous (die : Nat)
  /-- The PSE PORT_ON operation sets EN and completes when the port is POWERED (R160). -/
  | portOn (tag : Nat)
  /-- The PSE PORT_OFF operation turns the gate off and optionally clears EN (R159). -/
  | portOff (tag : Nat)
  /-- The PSE PORT_CYCLE operation turns the port off for an off time and powers it again (R159). -/
  | portCycle (tag : Nat)
  /-- A PORT_CYCLE's off time ends and detection starts (R163). -/
  | portCycleOffEnd (port : Nat)
  /-- The PSE PORT_CLEAR_LOCK operation moves a port from FAULT_LOCK to DETECT (R159). -/
  | portClearLock (tag : Nat)
  /-- A write of PSE_PnCFG.EN takes effect at once, enabling detection or disabling the port (R165). -/
  | portEnWrite (rq : Requester) (port : Nat) (value : Word)
  /-- Every 1 ms ARB takes releases, adopted grants, over-budget judgement and new requests in order (R169). -/
  | grantEvaluation
  /-- Service core 1 chooses luminaire caps to shed the overage and hands them to LCP (R184). -/
  | capChoose
  /-- 500 ms in SOFT still over budget enters HARD and cuts a chosen cut set (R183). -/
  | softTimeout (pool : Nat)
  /-- 20 ms after the last cut the pool is judged again and cut further or returned to NORMAL (R183). -/
  | hardRecheck (pool : Nat)
  /-- A stake's chainage comes within LOOKAHEAD cycles and it enters ARB's window (R175). `ch` is the chainage of the
  occurrence. -/
  | lookaheadEntry (index : Nat) (ch : Nat)
  /-- ARB prices a stake in its window and holds a reservation or marks it SHORT (R175). -/
  | stakePrice
  /-- At each benchmark-cycle boundary ARB tries again to hold the unheld part of SHORT reservations (R177). -/
  | resvRetry
  /-- Every 1 ms ARB converts M1's active power to a DC equivalent and computes the residual (R190). -/
  | outerCheck
  /-- A residual above OUTER_TOL for 2 s sets OUTER_MISMATCH and lowers EFF (R191). -/
  | outerMismatch
  /-- A residual below OUTER_TOL / 2 for 10 s clears OUTER_EXCESS and OUTER_MISMATCH (R191). -/
  | outerClear
  /-- The ARB SET_LIMIT operation sets a pool limit from the next evaluation (R196). -/
  | setLimit (tag : Nat)
  /-- The ARB PRICE operation returns the need of a scene recall (R196). -/
  | price (tag : Nat)
  /-- LCP forms luminaire commands from a point change, operation, cap or rebinding, each with a tag (R211). -/
  | commandForm
  /-- Every DISCOVER ms LCP sends DISCOVER on a powered port with unbound entries (R208). -/
  | discoverTick (port : Nat)
  /-- A received ANNOUNCE is matched to an entry and answered by ASSIGN or marks MISMATCH (R209). -/
  | announce (a : Machine.LcpAnnounce)
  /-- A received ACCEPT binds an entry, stops retransmission or refuses a command (R215). `seq` is the payload's. -/
  | accept (port sub mac seq : Nat) (r : Machine.LcpAccept)
  /-- A received STATUS updates the entry's points and ARB model and confirms commands (R216). -/
  | status (r : Machine.LcpStatus)
  /-- An 88B5h frame that fails the source, sub-address or format checks is dropped and counted (R202). It is a frame of an
  opcode that LCP does not receive: an ANNOUNCE, ACCEPT or STATUS is judged by its own command. -/
  | lcpFrameDrop
  /-- T_ACCEPT expires without ACCEPT and the frame is retransmitted or the command fails NO_RESPONSE (R215). -/
  | acceptTimeout (entry : Nat) (seq : Nat)
  /-- ATTEMPTS ASSIGN transmissions without ACCEPT return the entry to UNBOUND (R208). -/
  | bindingTimeout (entry : Nat)
  /-- No confirming STATUS by T_CONFIRM / 2 after the fade makes LCP send one STATUS_REQ (R215). -/
  | statusReqTimer (tag : Nat)
  /-- No STATUS for LOSS_MISS x REPORT + 500 ms makes the entry LOST (R208). -/
  | luminaireLoss (entry : Nat)
  /-- KEEPALIVE ms without another frame to an ONLINE luminaire sends KEEPALIVE (R231). -/
  | keepaliveTick (entry : Nat)
  /-- The LCP LEVEL operation forms level commands for an entry or group (R234). -/
  | level (tag : Nat)
  /-- The LCP RECALL operation recalls a group scene (R234). -/
  | recall (tag : Nat)
  /-- The LCP OVERRIDE operation takes a luminaire out of program control or releases it (R227). -/
  | override (tag : Nat)
  /-- The LCP IDENTIFY operation sends IDENTIFY to an ONLINE luminaire (R234). -/
  | identify (tag : Nat)
  /-- The LCP REDISCOVER operation returns a port's entries to UNBOUND to bind afresh (R234). -/
  | rediscover (tag : Nat)
  /-- The LCP SCENE_WRITE operation changes a scene or header word, optionally persistently (R234). -/
  | sceneWrite (tag : Nat)
  /-- A periodic task's start chainage arrives: inputs are latched or the start is skipped (R275). -/
  | taskStartTick (task : Nat)
  /-- A ready task begins its run on a free lane, with S words and record outcomes written (R277). -/
  | taskDispatch
  /-- Once an epoch's writes have settled the next epoch's remote writes are released (R266). -/
  | epochRelease (task : Nat)
  /-- Instruction NOP does nothing (R254). -/
  | scnNop (lane : Nat)
  /-- Instruction END ends the run and the output phase writes touched Q entries (R278). -/
  | scnEnd (lane : Nat)
  /-- Instruction TST begins a logic string with CB set to the operand (R243). -/
  | scnTst (lane : Nat)
  /-- Instruction TSTN begins a logic string with CB set to the inverted operand (R243). -/
  | scnTstn (lane : Nat)
  /-- Instruction AND combines the operand into CB (R243). -/
  | scnAnd (lane : Nat)
  /-- Instruction ANDN combines the inverted operand into CB by AND (R243). -/
  | scnAndn (lane : Nat)
  /-- Instruction OR combines the operand into CB (R243). -/
  | scnOr (lane : Nat)
  /-- Instruction ORN combines the inverted operand into CB by OR (R243). -/
  | scnOrn (lane : Nat)
  /-- Instruction XOR combines the operand into CB (R243). -/
  | scnXor (lane : Nat)
  /-- Instruction XORN combines the inverted operand into CB by XOR (R243). -/
  | scnXorn (lane : Nat)
  /-- Instruction ANDG ANDs CB with GOOD quality of a point (R254). -/
  | scnAndg (lane : Nat)
  /-- Instruction ORG ORs CB with GOOD quality of a point (R254). -/
  | scnOrg (lane : Nat)
  /-- Instruction ST stores CB to a bit (R254). -/
  | scnSt (lane : Nat)
  /-- Instruction STS sets a bit when CB is 1 (R254). -/
  | scnSts (lane : Nat)
  /-- Instruction STR clears a bit when CB is 1 (R254). -/
  | scnStr (lane : Nat)
  /-- Instruction NOT inverts CB (R243). -/
  | scnNot (lane : Nat)
  /-- Instruction SETC sets CB to 1 (R243). -/
  | scnSetc (lane : Nat)
  /-- Instruction CLRC sets CB to 0 (R243). -/
  | scnClrc (lane : Nat)
  /-- Instruction PSHC pushes CB on the condition stack (R244). -/
  | scnPshc (lane : Nat)
  /-- Instruction ANDS pops the condition stack and ANDs it with CB (R244). -/
  | scnAnds (lane : Nat)
  /-- Instruction ORS pops the condition stack and ORs it with CB (R244). -/
  | scnOrs (lane : Nat)
  /-- Instruction XORS pops the condition stack and XORs it with CB (R244). -/
  | scnXors (lane : Nat)
  /-- Instruction CBEN copies CB to EN (R254). -/
  | scnCben (lane : Nat)
  /-- Instruction ANDE ANDs CB with EN (R254). -/
  | scnAnde (lane : Nat)
  /-- Instruction LB loads a zero-extended byte onto the accumulator stack (R254). -/
  | scnLb (lane : Nat)
  /-- Instruction LH loads a sign-extended half (R254). -/
  | scnLh (lane : Nat)
  /-- Instruction LW loads a word (R254). -/
  | scnLw (lane : Nat)
  /-- Instruction LD loads a double in Profile F (R254). -/
  | scnLd (lane : Nat)
  /-- Instruction TB stores the low byte of ACC1 (R254). -/
  | scnTb (lane : Nat)
  /-- Instruction TH stores the low half of ACC1 (R254). -/
  | scnTh (lane : Nat)
  /-- Instruction TW stores the low word of ACC1, under the point rules in P (R248). -/
  | scnTw (lane : Nat)
  /-- Instruction TD stores ACC1 as a double in Profile F (R254). -/
  | scnTd (lane : Nat)
  /-- Instruction LA loads an effective address (R254). -/
  | scnLa (lane : Nat)
  /-- Instruction LDP loads a word from the target instance (R254). -/
  | scnLdp (lane : Nat)
  /-- Instruction STP stores a word into the target instance (R254). -/
  | scnStp (lane : Nat)
  /-- Instruction LDPD loads a double from the target instance (R254). -/
  | scnLdpd (lane : Nat)
  /-- Instruction STPD stores a double into the target instance (R254). -/
  | scnStpd (lane : Nat)
  /-- Instruction STPB stores CB to a bit of the target instance (R254). -/
  | scnStpb (lane : Nat)
  /-- Instruction ANDP ANDs CB with a bit of the target instance (R254). -/
  | scnAndp (lane : Nat)
  /-- Instruction LDI loads a sign-extended immediate (R254). -/
  | scnLdi (lane : Nat)
  /-- Instruction ADDK adds an immediate to ACC1 (R254). -/
  | scnAddk (lane : Nat)
  /-- Instruction LXRI loads XR with an immediate (R254). -/
  | scnLxri (lane : Nat)
  /-- Instruction LXR loads XR from a word (R254). -/
  | scnLxr (lane : Nat)
  /-- Instruction TXR stores XR to a word (R254). -/
  | scnTxr (lane : Nat)
  /-- Instruction XRA loads XR onto the accumulator stack (R254). -/
  | scnXra (lane : Nat)
  /-- Instruction AXR copies ACC1 to XR (R254). -/
  | scnAxr (lane : Nat)
  /-- Instruction ADD adds INT32 accumulators (R256). -/
  | scnAdd (lane : Nat)
  /-- Instruction SUB subtracts INT32 accumulators (R256). -/
  | scnSub (lane : Nat)
  /-- Instruction MUL multiplies INT32 accumulators (R256). -/
  | scnMul (lane : Nat)
  /-- Instruction DIV divides INT32 accumulators (R256). -/
  | scnDiv (lane : Nat)
  /-- Instruction MOD gives the INT32 remainder (R256). -/
  | scnMod (lane : Nat)
  /-- Instruction NEG negates ACC1 as INT32 (R256). -/
  | scnNeg (lane : Nat)
  /-- Instruction ABS takes the INT32 absolute value (R256). -/
  | scnAbs (lane : Nat)
  /-- Instruction ADDR adds REAL32 accumulators (R256). -/
  | scnAddr (lane : Nat)
  /-- Instruction SUBR subtracts REAL32 accumulators (R256). -/
  | scnSubr (lane : Nat)
  /-- Instruction MULR multiplies REAL32 accumulators (R256). -/
  | scnMulr (lane : Nat)
  /-- Instruction DIVR divides REAL32 accumulators (R256). -/
  | scnDivr (lane : Nat)
  /-- Instruction NEGR inverts the REAL32 sign (R256). -/
  | scnNegr (lane : Nat)
  /-- Instruction ABSR clears the REAL32 sign (R256). -/
  | scnAbsr (lane : Nat)
  /-- Instruction SQRT takes the REAL32 square root (R256). -/
  | scnSqrt (lane : Nat)
  /-- Instruction ADDQ adds Q15 values with saturation (R256). -/
  | scnAddq (lane : Nat)
  /-- Instruction SUBQ subtracts Q15 values with saturation (R256). -/
  | scnSubq (lane : Nat)
  /-- Instruction MULQ multiplies Q15 values (R256). -/
  | scnMulq (lane : Nat)
  /-- Instruction NEGQ negates a Q15 value with saturation (R256). -/
  | scnNegq (lane : Nat)
  /-- Instruction ADDL adds INT64 accumulators (R256). -/
  | scnAddl (lane : Nat)
  /-- Instruction SUBL subtracts INT64 accumulators (R256). -/
  | scnSubl (lane : Nat)
  /-- Instruction MULL multiplies INT64 accumulators (R256). -/
  | scnMull (lane : Nat)
  /-- Instruction DIVL divides signed INT64 accumulators (R256). -/
  | scnDivl (lane : Nat)
  /-- Instruction DIVLU divides UINT64 accumulators (R256). -/
  | scnDivlu (lane : Nat)
  /-- Instruction ANDW is a bitwise AND of the accumulators (R254). -/
  | scnAndw (lane : Nat)
  /-- Instruction ORW is a bitwise OR of the accumulators (R254). -/
  | scnOrw (lane : Nat)
  /-- Instruction XORW is a bitwise XOR of the accumulators (R254). -/
  | scnXorw (lane : Nat)
  /-- Instruction INVW inverts ACC1 bitwise (R254). -/
  | scnInvw (lane : Nat)
  /-- Instruction SHL shifts ACC1 left (R256). -/
  | scnShl (lane : Nat)
  /-- Instruction SHR shifts ACC1 right logically (R256). -/
  | scnShr (lane : Nat)
  /-- Instruction SAR shifts ACC1 right arithmetically (R256). -/
  | scnSar (lane : Nat)
  /-- Instruction ROL rotates ACC1 left (R254). -/
  | scnRol (lane : Nat)
  /-- Instruction ITR converts INT32 to REAL32 (R256). -/
  | scnItr (lane : Nat)
  /-- Instruction RTI converts REAL32 to INT32 (R256). -/
  | scnRti (lane : Nat)
  /-- Instruction RTQ converts REAL32 to Q15 (R256). -/
  | scnRtq (lane : Nat)
  /-- Instruction QTR converts Q15 to REAL32 (R256). -/
  | scnQtr (lane : Nat)
  /-- Instruction ITL sign-extends ACC1 to 64 bits (R254). -/
  | scnItl (lane : Nat)
  /-- Instruction LTR converts INT64 to REAL32 (R256). -/
  | scnLtr (lane : Nat)
  /-- Instruction SWAP exchanges the accumulators (R254). -/
  | scnSwap (lane : Nat)
  /-- Instruction DUP copies ACC1 to ACC2 (R254). -/
  | scnDup (lane : Nat)
  /-- Instruction CMPI compares INT32 accumulators into CB (R257). -/
  | scnCmpi (lane : Nat)
  /-- Instruction CMPR compares REAL32 accumulators into CB (R257). -/
  | scnCmpr (lane : Nat)
  /-- Instruction CMPL compares INT64 accumulators into CB (R257). -/
  | scnCmpl (lane : Nat)
  /-- Instruction CMPLU compares UINT64 accumulators into CB (R257). -/
  | scnCmplu (lane : Nat)
  /-- Instruction JU jumps unconditionally (R253). -/
  | scnJu (lane : Nat)
  /-- Instruction JT jumps when CB is 1 (R254). -/
  | scnJt (lane : Nat)
  /-- Instruction JF jumps when CB is 0 (R254). -/
  | scnJf (lane : Nat)
  /-- Instruction JVS jumps when VS is 1 and clears VS (R254). -/
  | scnJvs (lane : Nat)
  /-- Instruction LOOP decrements XR and jumps while it is nonzero (R254). -/
  | scnLoop (lane : Nat)
  /-- Instruction SELI sets TIR to a callee instance (R262). -/
  | scnSeli (lane : Nat)
  /-- Instruction CALL checks the instance type, pushes a frame and enters the FB (R262). -/
  | scnCall (lane : Nat)
  /-- Instruction CALLT calls an FB when CB is 1 (R262). -/
  | scnCallt (lane : Nat)
  /-- Instruction RET pops the call frame and returns EN and flags (R262). -/
  | scnRet (lane : Nat)
  /-- Instruction RETT returns when CB is 1 (R262). -/
  | scnRett (lane : Nat)
  /-- Instruction TON evaluates an on-delay timer record (R260). -/
  | scnTon (lane : Nat)
  /-- Instruction TOF evaluates an off-delay timer record (R260). -/
  | scnTof (lane : Nat)
  /-- Instruction TP evaluates a pulse timer record (R260). -/
  | scnTp (lane : Nat)
  /-- Instruction CTU evaluates an up counter record (R260). -/
  | scnCtu (lane : Nat)
  /-- Instruction CTD evaluates a down counter record (R260). -/
  | scnCtd (lane : Nat)
  /-- Instruction CRES resets a timer or counter record when CB is 1 (R260). -/
  | scnCres (lane : Nat)
  /-- Instruction EDGEP detects a rising edge of CB (R260). -/
  | scnEdgep (lane : Nat)
  /-- Instruction EDGEN detects a falling edge of CB (R260). -/
  | scnEdgen (lane : Nat)
  /-- Instruction CLK reads the RTC calendar twice and loads validity into CB (R252). -/
  | scnClk (lane : Nat)
  /-- Instruction CHN loads the present chainage (R254). -/
  | scnChn (lane : Nat)
  /-- Instruction SEND issues a tracked remote write as an operation when CB is 1 (R265). -/
  | scnSend (lane : Nat)
  /-- Instruction FENCE ends the present epoch of remote writes (R266). -/
  | scnFence (lane : Nat)
  /-- Instruction FENCES ends the present epoch strictly, withdrawing later writes on failure (R266). -/
  | scnFences (lane : Nat)
  /-- Instruction STK submits a stake edit as a LAT operation when CB is 1 (R267). -/
  | scnStk (lane : Nat)
  /-- The SCN LOAD operation writes, verifies and validates an image into the inactive bank (R292). -/
  | load (tag : Nat) (image : List Byte)
  /-- The SCN EXCHANGE operation arms a bank exchange at chainage X (R293). -/
  | exchange (tag : Nat)
  /-- Chainage X arrives and no further run begins in the old bank (R293). -/
  | exchangeAtX
  /-- When every lane is free the state is carried across and the new bank becomes active (R294). -/
  | exchangeCarryover
  /-- The SCN UNLOAD operation clears the inactive bank (R300). -/
  | unload (tag : Nat)
  /-- The SCN TASK_EN operation sets or clears a task's HOST_EN (R291). -/
  | taskEn (tag : Nat)
  /-- The SCN TASK_TRIGGER operation holds or begins an event task start (R276). -/
  | taskTrigger (tag : Nat)
  /-- A held event start begins once the least spacing PERIOD has passed (R276). -/
  | eventStartRelease (task : Nat)
  /-- The SCN FAULT_CLEAR operation takes a task out of STOPPED (R300). -/
  | scnFaultClear (tag : Nat)
  /-- At a loop's sample chainage LPE latches inputs, decides the mode and computes the output (R313). -/
  | loopSample (loop : Nat)
  /-- The LPE LOOP_MODE operation records a mode request for a loop (R330). -/
  | loopMode (tag : Nat)
  /-- The LPE LOOP_TUNE operation sets the gains together from one sample (R330). -/
  | loopTune (tag : Nat)
  /-- The LPE TRACE_ARM operation claims and arms a trace buffer (R326). -/
  | traceArm (tag : Nat)
  /-- The LPE TRACE_RELEASE operation stops and releases a trace buffer (R326). -/
  | traceRelease (tag : Nat)
  /-- A write of LnBQk_W0 latches the section's words for effect at the next sample (R315). -/
  | biquadW0Write (rq : Requester) (loop : Nat) (section_ : Nat) (value : Word)
  /-- A write of LnCTL.MODE_REQ requests a loop mode, refused for 3 or while MODE_SRC = 1 (R316). -/
  | modeReqWrite (rq : Requester) (loop : Nat) (value : Word)
  /-- Each 125 us sample EMU forms per-phase power and adds to the accumulators (R342). The frames of M1 and M2 at the sample.
  -/
  | emuSample (m1 : Option Machine.EmuFrame) (m2 : Option Machine.EmuFrame)
  /-- A bitstream without a transition for 256 modulator clocks faults its channel (R338). -/
  | channelFault (frontEnd : Nat) (channel : Nat)
  /-- A phase with power opposite to the total for 500 cycles sets its REV bit (R338). -/
  | phaseReversal (frontEnd : Nat) (phase : Nat)
  /-- At each benchmark-cycle boundary EMU updates quantities and writes one mirror slot (R352). The channels' newest
  harmonics 1 to 15 (channel 7 m + ch), an empty list where no window has ended. -/
  | cycleBoundary (harmonics : List (List Nat))
  /-- The JOURNAL write of a sealed record completes and the record leaves the hold ring (R350). Slot of the hold ring. -/
  | recordStored (slot : Nat)
  /-- A record write that failed FAIL_MEDIA is retried every 10 s (R350). -/
  | recordRetry (slot : Nat)
  /-- A pulse passed by DIO increments the pulse count and records its chainage (R344). -/
  | pulseCount
  /-- RATE_TMO seconds without a pulse set the pulse rate to 0 (R344). -/
  | pulseRateTimeout (input : Nat)
  /-- An EMU pulse generator emits an owed pulse on its DIO channel (R346). -/
  | pgPulse (generator : Nat)
  /-- The EMU INTERVAL_CLOSE operation closes the interval at the next cycle boundary (R360). -/
  | intervalClose (tag : Nat)
  /-- The EMU PG_ENABLE operation claims resources and starts a pulse generator (R345). -/
  | emuPgEnable (tag : Nat)
  /-- The EMU PG_DISABLE operation stops a pulse generator and releases its claims (R360). -/
  | emuPgDisable (tag : Nat)
  /-- The EMU CAL_WRITE operation changes a channel calibration word (R360). -/
  | calWrite (tag : Nat)
  /-- The EMU ACC_CLEAR operation clears accumulators and makes a CLEARED gap record (R360). -/
  | accClear (tag : Nat)
  /-- The STO PUT operation writes a slot or replaces a whole object (R376). `data`: the bytes read from the host buffer; a
  module's own write holds its bytes already. -/
  | put (tag : Nat) (data : List Byte)
  /-- The STO APPEND operation adds one record to an object (R376). -/
  | append (tag : Nat) (data : List Byte)
  /-- The STO GET operation returns object data to a host buffer (R376). -/
  | get (tag : Nat)
  /-- The STO DELETE operation removes an object (R376). -/
  | delete (tag : Nat)
  /-- The STO BARRIER operation holds later operations of its classes until earlier ones are decided (R378). -/
  | barrier (tag : Nat)
  /-- The STO FLUSH operation programs buffered wordlines at once with padding (R379). -/
  | flush (tag : Nat)
  /-- The STO INFO operation writes a 64-byte description of an object (R376). -/
  | info (tag : Nat)
  /-- The STO FORMAT operation erases the medium and creates an empty map (R395). `luns`: what the erase and the factory marks
  showed. -/
  | format (tag : Nat) (luns : List Machine.LunFound)
  /-- A NAND program or erase ends, passing or marking the block grown-bad and retrying (R370). -/
  | nandProgramDone (job : Nat) (pass : Bool)
  /-- A NAND read ends and is corrected, retried at read-retry levels or found uncorrectable (R368). `corrected`: bits
  corrected per codeword. -/
  | nandReadDone (job : Nat) (corrected : List Nat) (soft : Bool) (result : Machine.ReadEnd)
  /-- A buffered record waiting TREND_FLUSH makes STO program its wordline with padding (R379). -/
  | trendFlush (cls : Nat) (channel : Nat)
  /-- A block due under SCRUB_DAYS or read disturb is scrubbed (R371). -/
  | scrubDue (block : Nat)
  /-- A block over the correction threshold is rewritten to a free block and erased (R371). -/
  | relocation (block : Nat)
  /-- An erase count spread above 200 moves data of the lowest-count block (R371). -/
  | staticWearLevel (pool : Nat)
  /-- Free blocks below GC_FREE start collection of blocks with least valid data (R371). -/
  | garbageCollect (pool : Nat)
  /-- A reachable peer again receives the newest version of every unreplicated object (R384). -/
  | replicaSync
  /-- At start STO rebuilds the map from the journal and open blocks and sets MAP_READY (R392). Whether a map can be rebuilt,
  what the LUNs show, the two configuration images as they read, mirror slots whose CRC fails. -/
  | mapRebuild (mapOk : Bool) (luns : List Machine.LunFound) (cur prev : Option Machine.CfgImage) (bad : List Nat)
  /-- At each 100 ms of TB2 HLK hardware sends HEARTBEAT to all members (R406). -/
  | heartbeatTx
  /-- A received heartbeat updates the member's view and age (R407). `fields`: the payload's fields in the order of R407. -/
  | heartbeatRx (hdr : Machine.LinkHdr) (fields : List Nat)
  /-- 350 ms without an accepted heartbeat makes a member LOST in this module's view (R408). -/
  | memberLoss (member : Nat)
  /-- An Aethina Link frame failing tag, replay or format checks is dropped and counted (R403). It is a frame of a type that no
  command has: one of a type of the table is judged by its own command. -/
  | frameAuthDrop
  /-- RTX ms without acknowledgement resends an unacknowledged reliable frame (R405). -/
  | rtxTimer (member : Nat)
  /-- A received JOIN is accepted or refused by the manager with WELCOME (R409). `fields`, here and in the frames below: the
  payload's fields in the order of R404. -/
  | join (hdr : Machine.LinkHdr) (fields : List Nat)
  /-- A received WELCOME makes a worker UP and loads its counter from the manager's chainage (R410). -/
  | welcome (hdr : Machine.LinkHdr) (fields : List Nat)
  /-- JOIN_WAIT without WELCOME makes the worker load its counter as a standalone module (R410). -/
  | joinWaitTimeout
  /-- Every 1 s a worker without WELCOME sends JOIN again (R410). -/
  | joinRetry
  /-- A received LEAVE makes the member LOST (R409). -/
  | leave (hdr : Machine.LinkHdr) (fields : List Nat)
  /-- A received TAKEOVER with a higher TERM from the standby rebinds manager and replica peer (R426). -/
  | takeover (hdr : Machine.LinkHdr) (fields : List Nat)
  /-- A received ACK frame acknowledges reliable frames up to its ACK field (R405). -/
  | ack (hdr : Machine.LinkHdr)
  /-- A received POINT_UPDATE record is kept whole and written into imported points (R413). -/
  | pointUpdate (hdr : Machine.LinkHdr) (fields : List Nat)
  /-- A received POINT_WRITE is applied under producer and tenant checks and answered by POINT_ACK (R415). -/
  | alPointWrite (hdr : Machine.LinkHdr) (fields : List Nat)
  /-- A received POINT_ACK completes the tracked remote write with its status (R415). -/
  | pointAck (hdr : Machine.LinkHdr) (fields : List Nat)
  /-- A received SUBSCRIBE starts unit POINT_UPDATEs for the listed slots (R417). -/
  | subscribe (hdr : Machine.LinkHdr) (fields : List Nat)
  /-- A received UNSUBSCRIBE stops a unit's POINT_UPDATEs (R404). -/
  | unsubscribe (hdr : Machine.LinkHdr) (fields : List Nat)
  /-- A received STAKE_EDIT is submitted to LAT with OWNER 0Fh (R428). -/
  | stakeEdit (hdr : Machine.LinkHdr) (fields : List Nat)
  /-- A received RESULT frame completes a manager's remote operation (R428). -/
  | result (hdr : Machine.LinkHdr) (fields : List Nat)
  /-- A received LIMIT frame is served as SET_LIMIT in context 0000h (R429). -/
  | limit (hdr : Machine.LinkHdr) (fields : List Nat)
  /-- A received PLACE makes the module host a unit from a checkpoint or its own state (R420). -/
  | place (hdr : Machine.LinkHdr) (fields : List Nat)
  /-- A received PLACED reports a unit's placement outcome to the manager (R421). -/
  | placed (hdr : Machine.LinkHdr) (fields : List Nat)
  /-- A received CHECKPOINT fragment is stored and the checkpoint kept once its CRC checks (R419). -/
  | checkpoint (hdr : Machine.LinkHdr) (fields : List Nat)
  /-- A received UNPLACE stops a unit at X or the next task boundary (R421). -/
  | unplace (hdr : Machine.LinkHdr) (fields : List Nat)
  /-- A received REPLICA_PUT stores a pending replica version (R385). -/
  | replicaPut (hdr : Machine.LinkHdr) (fields : List Nat)
  /-- A received REPLICA_ACK counts towards the durability of a CRITICAL write (R384). -/
  | replicaAck (hdr : Machine.LinkHdr) (fields : List Nat)
  /-- A received REPLICA_COMMIT promotes the pending replica version (R385). -/
  | replicaCommit (hdr : Machine.LinkHdr) (fields : List Nat)
  /-- A received REPLICA_REPORT promotes matching pending versions and drops the rest (R385). -/
  | replicaReport (hdr : Machine.LinkHdr) (fields : List Nat)
  /-- A received REPLICA_FETCH returns the committed replica as REPLICA_DATA (R386). -/
  | replicaFetch (hdr : Machine.LinkHdr) (fields : List Nat)
  /-- Received REPLICA_DATA rewrites both local copies and completes the waiting GET (R386). -/
  | replicaData (hdr : Machine.LinkHdr) (fields : List Nat)
  /-- An export set is latched and sent as one POINT_UPDATE at its period or on change (R412). `set` is FFFFh for the slots of
  `unit` that module `dst` subscribed. -/
  | exportSetSend (set unit dst : Nat)
  /-- No record of an imported set for 3 x PERIOD cycles plus 350 ms marks its points STALE (R414). -/
  | importStale (src set : Nat)
  /-- All members UP or PLACE_WAIT elapsed makes the manager place every unit (R418). -/
  | placeAll
  /-- At the first task boundary after each TB2 second the host checkpoints each unit (R419). `unit`: its position in the unit
  list. -/
  | checkpointTake (unit : Nat)
  /-- At X a moving unit stops on the old host and its starts are held on the new one (R421). -/
  | unitMoveAtX (unit : Nat)
  /-- No complete checkpoint by X + 200 ms fails the move and returns the unit to the old host (R421). -/
  | moveTimeout (unit : Nat)
  /-- 350 ms without the manager and a minority of members stops every hosted unit (R423). -/
  | isolation
  /-- A ready standby with a majority lacking the manager sends TAKEOVER and becomes acting manager (R425). -/
  | takeoverDecide
  /-- TAKEOVER_WAIT passes without the majority and the standby does not take over (R425). -/
  | takeoverWaitExpire
  /-- The HLK NS_READ operation returns a federated namespace record (R432). -/
  | nsRead (tag : Nat)
  /-- The HLK MOVE operation moves a unit to another module (R432). -/
  | move (tag : Nat)
  /-- The HLK PIN operation pins or unpins a unit to a module (R432). -/
  | pin (tag : Nat)
  /-- The HLK REMOTE_STAKE operation sends a stake edit to a member (R428). `param`: the LAT PARAM read from the host. -/
  | remoteStake (tag : Nat) (param : BitVec 384)
  /-- The HLK REMOTE_LIMIT operation sends a pool limit to a member (R429). -/
  | remoteLimit (tag : Nat)
  /-- The HLK HANDBACK operation returns the manager role to the strap manager (R427). -/
  | handback (tag : Nat)
  /-- A frame received on a fabric port is filtered, classified, learned and forwarded (R438). -/
  | portFrameRx (port : Nat) (frame : Machine.EthFrame)
  /-- An egress port sends the next frame from its queues in strict priority (R443). -/
  | frameTransmit (port : Nat)
  /-- A learned MAC entry with no frame for AGE ages out (R439). -/
  | macAge (vid mac : Nat)
  /-- Storm drops in HOLD consecutive 10 ms windows block the port (R446). -/
  | portBlock (port : Nat)
  /-- BLOCK_TIME expires and the port is unblocked (R446). -/
  | portUnblock (port : Nat)
  /-- A write of FAB_PnCFG.EN enables forwarding and ends any block (R469). -/
  | fabPortEnWrite (rq : Requester) (port : Nat) (value : Word)
  /-- A port link comes up or goes down, with speed and duplex resolved (R437). `eee`: the PHY resolved EEE with its partner. -/
  | linkChange (port : Nat) (up half : Bool) (speed : Nat) (eee : Bool)
  /-- In auto mode an uplink switches PCS mode every 500 ms until a link comes up (R437). -/
  | uplinkModeTry (port : Nat)
  /-- Empty egress queues for IDLE us put an EEE downlink in LPI (R450). -/
  | lpiEnter (port : Nat)
  /-- HOLDOFF us after a frame arrives for a port in LPI, LPI ends (R450). -/
  | lpiHoldoffEnd (port : Nat)
  /-- Every 30 s or after a change the module sends an LLDPDU with the EEE TLV (R451). -/
  | lldpTx (port : Nat)
  /-- A received LLDPDU updates the partner's Receive Tw and the Tw in use (R451). Tw values in microseconds. -/
  | lldpRx (port txTw rxTw : Nat)
  /-- 120 s without an LLDPDU returns the Tw in use to Tw_sys_tx (R451). -/
  | lldpTimeout (port : Nat)
  /-- The FAB FRAME_TX operation sends a host frame from a host endpoint (R466). `data`: the frame read from the host, without
  FCS. -/
  | fabFrameTx (tag : Nat) (data : List Byte)
  /-- The FAB FRAME_RX operation posts a buffer for a host endpoint's next frame (R466). -/
  | frameRx (tag : Nat)
  /-- The FAB FDB_ADD operation adds a static MAC entry (R466). -/
  | fdbAdd (tag : Nat)
  /-- The FAB FDB_DEL operation removes a MAC entry (R466). -/
  | fdbDel (tag : Nat)
  /-- The FAB FDB_FLUSH operation removes MAC entries of a port or all (R466). -/
  | fdbFlush (tag : Nat)
  /-- The FAB FDB_READ operation writes MAC entries to a host buffer (R466). -/
  | fdbRead (tag : Nat)
  /-- A write of FAB_MDIO_CMD starts an MDIO transaction, refused while BUSY (R468). -/
  | mdioCmd (rq : Requester) (value : Word)
  /-- An MDIO transaction ends and clears BUSY with its read data (R468). -/
  | mdioDone (data : Nat)
  /-- An accepted Sync with its timing gives an offset and a servo update of the base (R454). The origin time and the
  correction in ns. -/
  | ptpSyncRx (base port seq : Nat) (twoStep : Bool) (sec ns : Nat) (corr : Int)
  /-- A received Follow_Up supplies the precise origin time of a two-step Sync (R458). -/
  | ptpFollowUpRx (base port seq sec ns : Nat) (corr : Int)
  /-- A received Delay_Resp completes a path delay measurement (R454). -/
  | ptpDelayRespRx (base port seq sec ns : Nat) (corr : Int)
  /-- A received Delay_Req is answered by Delay_Resp as master (R458). -/
  | ptpDelayReqRx (base port seq sender : Nat)
  /-- A received Announce feeds the BMCA of TB0 and the UTC offset (R458). `data`: priority1, class, accuracy, variance,
  priority2, identity, steps, sender. -/
  | ptpAnnounceRx (base port : Nat) (data : List Nat) (gm : Machine.PtpGm) (utc : Nat) (utcValid : Bool)
  /-- At each sync interval a master base sends two-step Sync and Follow_Up (R458). -/
  | ptpSyncTx (base port : Nat)
  /-- A slave base sends Delay_Req at its interval (R458). -/
  | ptpDelayReqTx (base : Nat)
  /-- A master base sends Announce at its interval (R458). -/
  | ptpAnnounceTx (base port : Nat)
  /-- Every 125 ms a FOLLOW base takes an offset from its followed base and updates its rate (R454). -/
  | followUpdate (base : Nat)
  /-- Three Announce intervals without Sync put a PTP base in holdover (R455). -/
  | ptpHoldover (base : Nat)
  /-- An NTU pulse generator's edge time arrives on its base and drives its pad or a Survey (R462). -/
  | ntuPgEdge (generator : Nat)
  /-- The NTU TB_SET operation steps a time base (R467). -/
  | tbSet (tag : Nat)
  /-- The NTU TB_ADJ operation starts a slew of a time base at 500 ppm (R467). -/
  | tbAdj (tag : Nat)
  /-- A TB_ADJ slew completes and the operation completes OK (R467). -/
  | tbAdjComplete (tag : Nat)
  /-- The NTU PG_ENABLE operation claims resources and starts a pulse generator (R462). -/
  | ntuPgEnable (tag : Nat)
  /-- The NTU PG_DISABLE operation stops a pulse generator and releases its claims (R467). -/
  | ntuPgDisable (tag : Nat)
  /-- A received CAN frame goes to a buffer or FIFO and updates its node record and points (R487). `sof`: chainage of the
  start of frame. -/
  | canFrameRx (channel ident : Nat) (xtd fdf brs esi remote : Bool) (data : List Byte) (sof : Nat)
  /-- A transmitted CAN frame completes with ACK and its operations complete when taken (R479). -/
  | canTxDone (channel : Nat)
  /-- A bus error changes TEC or REC and the channel's error state (R491). `own`: in the frame being sent; `clash`: a bit
  error after its arbitration field; the steps of ISO 11898-1. -/
  | canError (channel : Nat) (own clash : Bool) (tecAdd recAdd : Nat)
  /-- 128 occurrences of 11 recessive bits return a recovering channel to error active (R493). -/
  | busoffRecovered (channel : Nat)
  /-- A schedule row starts at its angle and sends the reference message (R481). `idle`: the bus is idle within ENABLE. -/
  | matrixRow (channel : Nat) (idle : Bool)
  /-- A matrix window starts and its buffer or FIFO head may begin a transmission (R482). `won`: arbitration is won. -/
  | ttWindow (channel column : Nat) (idle won : Bool)
  /-- In event mode each CYCLIC buffer is sent every FB_PERIOD ms (R485). -/
  | fbPeriodTx (channel : Nat)
  /-- LOSS_TMO cycles without an input frame make a node LOST and fail its open writes (R480). -/
  | nodeLoss (channel node : Nat)
  /-- Eight inverted dominant edges invert the channel polarity at the next bus idle (R475). -/
  | swapDetect (channel : Nat)
  /-- 100 ms after bus-on a SWAP_AUTO channel may begin sending (R476). `seen`: 8 dominant edges of correct polarity were
  seen. -/
  | swapWaitEnd (channel : Nat) (seen : Bool)
  /-- A read of an RX buffer or FIFO header locks that entry (R488). `entry`: buffer 0 to 63, 64 the receive FIFO. -/
  | mbHdrRead (rq : Requester) (channel entry : Nat)
  /-- A read of an entry's last word releases its lock and pops the FIFO head (R488). -/
  | mbLastWordRead (rq : Requester) (channel entry : Nat)
  /-- LOCK_TMO expires and a buffer lock is released (R488). -/
  | lockTimeout (channel : Nat)
  /-- A write of CHc_CTL.RESTRICT enters or leaves restricted operation (R494). -/
  | restrictWrite (rq : Requester) (channel : Nat) (value : Word)
  /-- The FBC FRAME_TX operation sends a frame from a TX buffer or the FIFO (R497). `data`: the bytes read from the host with
  DATA_IN_HOST. -/
  | fbcFrameTx (tag : Nat) (data : List Byte)
  /-- The FBC BUS_ON operation starts bus-off recovery (R497). -/
  | busOn (tag : Nat)
  /-- Every 10 us each input and pulse input filter counter steps and edges are counted (R505). Raw levels of the channels and
  the pulse inputs at the tick. -/
  | dioFilterTick (raw : BitVec 24) (pulses : BitVec 16)
  /-- An owner's command switches an output, asking ARB first for a budgeted switch-on (R507). -/
  | outputCommand (channel : Nat)
  /-- Output read-back and current measurement diagnose SHORT, OPEN, SHORT_VCC and MISMATCH (R509). -/
  | dioDiagTick (chans : Machine.DioScan)
  /-- 1 s after a short cut a RETRY channel is switched on again (R509). -/
  | shortRetry (channel : Nat)
  /-- The logic-silence watchdog expires and every output goes to its SAFE value (R510). -/
  | logicWdtExpire
  /-- A write of DIO_WDT_KICK restarts the watchdog when SRC_HOST = 1 (R510). -/
  | wdtKick (rq : Requester)
  /-- 2 ms without keep-alive makes the field die apply its stored SAFE values (R511). -/
  | fieldDieSafe
  /-- The field supply and current samples drive warning, shedding and restoring of groups (R512). -/
  | vfieldSample (mv : Int) (ma : Option Nat)
  /-- A pulse input held ON longer than STUCK_TMO is marked STUCK (R514). -/
  | piStuck (input : Nat)
  /-- A pulse input supply limit active for 10 s marks the input FAULT (R514). -/
  | piSupplyFault (input : Nat)
  /-- The DIO DIO_SET operation switches a host-claimed output (R517). -/
  | dioSet (tag : Nat)
  /-- The DIO FAULT_CLEAR operation clears a latched short (R517). -/
  | dioFaultClear (tag : Nat)
  /-- The DIO SAFE_CLEAR operation takes outputs out of safe state (R511). -/
  | safeClear (tag : Nat)
  /-- The DIO RESTORE operation restores every shed group (R517). -/
  | restore (tag : Nat)
  /-- The DIO CNT_CLEAR operation clears an edge or pulse count (R517). -/
  | cntClear (tag : Nat)
  /-- The prescaler completes a second and the calendar rolls over through every field (R522). -/
  | rtcSecond
  /-- A write setting RTC_CTL.HALT stops the calendar and opens the pending copy (R524). The prescaler's count in 1/32,768 s. -/
  | rtcHaltSet (count : Nat)
  /-- A write clearing HALT checks the pending date and starts the calendar or sets DATE_INVALID (R524). -/
  | rtcHaltClear
  /-- At a TB0 second with TB0_SET the calendar is set from TB0 when needed (R525). -/
  | rtcTb0Set (count : Nat)
  /-- The first calendar read while released freezes all seven shadows (R526). 0 SUBSEC to 5 MONTH. -/
  | rtcShadowFreeze (rq : Requester) (field : Nat) (count : Nat)
  /-- A read of RTC_YEAR returns its frozen value and releases the shadows (R526). -/
  | rtcYearRead (rq : Requester) (count : Nat)
  /-- 500 ms without the YEAR read release the shadows and set STALE (R526). -/
  | rtcShadowTimeout
  /-- A 32 s trim window starts and applies TRIM to its first ticks (R527). -/
  | trimWindow
  /-- A measurement window ends and a qualified one adjusts TRIM (R528). The error in 0.01 ppm; whether the reference held
  throughout. -/
  | trimMeasure (err : Int) (held : Bool)
  /-- 1 ms without a crystal edge sets OSF (R529). -/
  | oscStop
  /-- The backup domain powers up with the calendar reset, HALT and OSF set (R529). -/
  | backupPowerUp
  /-- Once a second VBAT is measured and VBAT_LOW set or cleared (R530). -/
  | vbatCheck (mv : Nat)
  /-- Every PERIOD ticks the RTC raises a wake and offers a Survey request (R531). -/
  | rtcWake
  /-- The KEY SLOT_INSTALL operation installs a key into a slot (R558). `key`: the bytes read from the host. -/
  | slotInstall (tag : Nat) (key : List Byte)
  /-- The KEY SLOT_DESTROY operation clears a slot (R558). -/
  | slotDestroy (tag : Nat)
  /-- The KEY LC_ADVANCE operation verifies a token, blows an OTP row and restarts the module (R544). -/
  | lcAdvance (tag : Nat) (token : BitVec 512)
  /-- The KEY ATTEST operation signs a challenge with slot 0 (R558). -/
  | attest (tag : Nat) (challenge : List Byte)
  /-- The KEY TENANT_IMPORT operation imports or rotates a tenant root key (R547). -/
  | tenantImport (tag : Nat) (blob : List Byte)
  /-- The KEY TENANT_DESTROY operation deletes a tenant key and closes its sessions (R558). -/
  | tenantDestroy (tag : Nat)
  /-- The KEY SET_FLOOR operation raises an image version floor (R546). -/
  | setFloor (tag : Nat)
  /-- A cache miss reads, unwraps and derives a context's keys for waiting seals (R549). -/
  | keyCacheLoad (ctx : Nat)
  /-- The durable write of a raised nonce reservation lets the waiting seal proceed (R557). -/
  | sealReserveDurable (ctx : Nat)
  /-- The TEN SESSION_OPEN operation opens a tenant session on a valid GMAC tag (R554). -/
  | sessionOpen (tag : Nat)
  /-- The TEN SESSION_CLOSE operation closes a session (R559). -/
  | sessionClose (tag : Nat)
  /-- A session's duration D ends and the session closes (R554). -/
  | sessionExpire (ctx : Nat)
  /-- A context's token bucket refills at RATE up to BURST (R553). -/
  | rateRefill (ctx : Nat)
  /-- The TEN SEAL_READ operation writes sealed point records of a context (R559). `indices`: the point indices read from the
  host. -/
  | sealRead (tag : Nat) (indices : List Nat)
  /-- The TEN POINT_READ operation returns a point record under the tenant checks (R617). -/
  | pointRead (tag : Nat)
  /-- The TEN POINT_WRITE operation writes a point whose producer is the host (R617). -/
  | pointWrite (tag : Nat)
  /-- The TEN POINT_FORCE operation forces a point with quality FORCED (R11). -/
  | pointForce (tag : Nat)
  /-- The TEN POINT_RELEASE operation ends a force, leaving the value STALE (R11). -/
  | pointRelease (tag : Nat)
  /-- VMAIN below 10.8 V for 1 ms sets VMAIN_LOW (R565). -/
  | vmainLow (mv : Nat)
  /-- VMAIN above 13.8 V for 1 ms sets VMAIN_HIGH (R565). -/
  | vmainHigh (mv : Nat)
  /-- VMAIN below 10.2 V for 20 us declares PFAIL and runs the commit sequence (R567). The last step of R567 that ends before
  the supply is gone, and its duration in µs. -/
  | pfail (steps : Nat) (us : Nat)
  /-- HOLDUP below HOLDUP_MIN for 1 s sets HOLDUP_LOW (R565). -/
  | holdupLow
  /-- Every 10 s the module loads the hold-up bank for 20 ms and holds the end voltage (R599). -/
  | holdupTest (mv : Nat)
  /-- A junction above 105 C sets THERM_WARN (R565). The junction in 0.1 °C. -/
  | thermWarn (temp : Int)
  /-- A junction above 125 C for 10 ms commits and holds the module in reset (R569). The junction in 0.1 °C. -/
  | thermalRestart (temp : Int)
  /-- A service core watchdog expires and SUP restarts that core alone (R24). -/
  | coreWatchdog (core : Nat)
  /-- A restarted service core becomes ready and serves its queued duties (R24). -/
  | coreRestartDone (core : Nat)
  /-- Reset is released once VMAIN, temperature and PFAIL spacing allow, and the start sequence begins (R570). -/
  | resetRelease (pins : Machine.Supplies) (start : Machine.StartIn)
  /-- Service-core firmware is loaded and verified and both cores start (R572). What the boot area holds on channels 0 and 1;
  none for a copy that cannot be read. -/
  | firmwareLoad (copies : List (Option Machine.Firmware))
  /-- The 200th clean cycle confirms the start and clears the start counter (R575). -/
  | startConfirm
  /-- 120 s without confirmation end the start as unconfirmed with SCAN_FAULT (R575). -/
  | confirmTimeout
  /-- Every 10 s SUP writes a progress stamp of cycle count and RTC seconds (R574). -/
  | progressStamp
  /-- SYS_RST_N low for at least 1 ms restarts the module with end code 4 (R611). -/
  | sysRstPin
  /-- A write of SUP_BOOT_DATA takes the next word of host-loaded firmware (R572). -/
  | bootData (rq : Requester) (value : Word)
  /-- A write of SUP_BOOT_CTL.GO verifies the host-loaded firmware (R572). The word written to SUP_BOOT_CTL, and the image
  that the words written before it spell. -/
  | bootGo (rq : Requester) (value : Word) (fw : Machine.Firmware)
  /-- A write of SUP_SURVEY_NOW raises a HOST Survey request (R581). -/
  | surveyNow
  /-- The last enabled block latches, BUSY clears and SURVEY_DONE sets (R582). Delays in ns of HIF, NTU, RTC, FAB, PSE, EMU,
  STO, FBC and DIO; the RTC prescaler's count at its latch. -/
  | surveyDone (skews : List Nat) (count : Nat)
  /-- A write of SUP_SURVEY_ACK clears HELD (R583). -/
  | surveyAck
  /-- An interval timer's period elapses and it raises a Survey request (R584). -/
  | gtFire (timer : Nat)
  /-- The SUP MODE_SET operation changes the module to run, standby or minimal (R28). -/
  | modeSet (tag : Nat)
  /-- The SUP RESTART operation restarts the module, optionally with the previous image (R585). -/
  | restart (tag : Nat)
  /-- The SUP SURVEY operation raises a Survey and returns its sequence (R585). -/
  | survey (tag : Nat)
  /-- The SUP TIMER_SET operation claims and starts or stops an interval timer (R584). -/
  | timerSet (tag : Nat)
  /-- The SUP START_CLEAR operation sets the start counter to 0 in minimal mode (R585). -/
  | startClear (tag : Nat)
  /-- The SUP CLAIM operation claims a resource for the host (R66). -/
  | claim (tag : Nat)
  /-- The SUP RELEASE operation releases a host-held resource (R585). -/
  | release (tag : Nat)
  /-- The PCIe link comes back up or the function returns from D3hot, updating HIF_LINK_STAT and setting the HIF LINK_CHANGE
  interrupt bit (R63). SPEED and WIDTH as HIF_LINK_STAT holds them. -/
  | pcieLinkUp (speed : Nat) (width : Nat)
  /-- With neither boot-area copy readable, the 60 s wait for a host firmware load expires and the start fails with reason
  STORAGE_FAIL (R572). -/
  | bootWaitTimeout
  /-- A V3V3_OUT, NAND_VCC or NAND_VCCQ output that stays below 90 % of its voltage for 10 ms holds the module in reset with
  reason STORAGE_FAIL (R597). -/
  | supplyOutputLow
  /-- A PSE die's own supply comes up from VPSE while it has no link from the module, and the die sets its COLD flag so that
  none of its ports is adopted (R156). -/
  | dieColdPowerUp (die : Nat)
deriving DecidableEq, Repr

end Sys2Proof
end

