-- ==== Sys2Proof/Config.lean ====
section
/-! DEFINITION. What an implementation fixes and the free values: opaque constants without a body, so that nothing in
Lean can evaluate them. A random or unstated value is one of these applied to the free counter of the state
(`State.free`) or to the operands it depends on. The cryptographic functions that chapter 18 names by standard are
uninterpreted functions here (log entry 5). -/

namespace Sys2Proof.Config

/-- PCI vendor ID: "Mehraskyn's", no number given (R45, R63). -/
opaque vendorId : BitVec 16

/-- The module's 64-bit identifier, fixed per part (R537, R561). -/
opaque uid : BitVec 64

/-- A random 64-bit value: TEN_CTXc_CHAL takes a new one after every attempt (R554). -/
opaque freeDword : Nat → BitVec 64

/-- A random or unstated 32-bit value: KEY_LC_NONCE (R543), an unstated register value. -/
opaque freeWord : Nat → BitVec 32

/-- The number of 00h ready bytes before an SPI read's 01h: up to 16 bytes, no count stated (R50). -/
opaque spiReady : Nat → Fin 17

/-- The same of a read that waited for earlier writes: fewer than the 64 at which the master abandons it (R50, R91). -/
opaque spiWait : Nat → Fin 64

/-- SHA-256 (FIPS 180-4) of a byte string (R540). -/
opaque sha256 : List (BitVec 8) → BitVec 256

/-- HKDF-SHA-256 (RFC 5869) of a key, salt and info string (R537, R547). -/
opaque hkdf : BitVec 256 → List (BitVec 8) → List (BitVec 8) → BitVec 256

/-- KW unwrap (SP 800-38F) under a 256-bit key: the unwrapped 256-bit key, or a failed check (R547, R558). -/
opaque kwUnwrap : BitVec 256 → List (BitVec 8) → Option (BitVec 256)

/-- AES-256-GCM seal: ciphertext and tag under key, 96-bit IV and AAD (R555). -/
opaque gcmSeal : BitVec 256 → BitVec 96 → List (BitVec 8) → List (BitVec 8) → List (BitVec 8)

/-- GMAC tag under key, 96-bit IV and AAD (R554). -/
opaque gmac : BitVec 256 → BitVec 96 → List (BitVec 8) → BitVec 128

/-- ECDSA P-256 signature with a private key over a digest, using a fresh random nonce (R540, R558). -/
opaque ecdsaSign : BitVec 256 → Nat → BitVec 256 → BitVec 512

/-- ECDSA P-256 verification of a signature over a digest with the public key of a slot (R543, R546). -/
opaque ecdsaVerify : BitVec 512 → BitVec 256 → BitVec 512 → Bool

/-- The root KR that KEY reconstructs from the PUF (R536). -/
opaque pufRoot : BitVec 256

/-- The MAC table's hash, which chooses one of the table's buckets (R439 gives four-way buckets and no function). -/
opaque fdbHash : Nat → Nat → Nat

/-- The level in 0.01 % at which a luminaire entry starts at power-on: R170 prices it and no rule gives it. -/
opaque powerOnLevel : Nat → Fin 10001

/-- SAFE_TIME of a luminaire entry in 100 ms units: sent in every ASSIGN (R206), and no register or rule gives it. -/
opaque safeTime : Nat → BitVec 16

/-- The highest lane utilisation of the last second in %, a measure of execution times (R407). -/
opaque laneLoad : Nat → Fin 101

/-- How far below 127 REC stands after a frame received by an error passive node: ISO 11898-1 allows 119 to 127
(R491). -/
opaque recBelow : Nat → Fin 9

/-- Length and bytes of a module object whose layout no rule gives (R375): object, write, position. -/
opaque objectLen : Nat → Nat
opaque objectByte : Nat → Nat → Nat → BitVec 8

/-- The 64 bytes that INFO writes: R376 names their content and gives no layout. Fields, position. -/
opaque infoByte : List Nat → Nat → BitVec 8

/-- The info string under which the key of slot 0, 1 or 2 is derived from the epoch key: R537 calls the three distinct and
gives none. -/
opaque slotInfo : Nat → List (BitVec 8)

/-- The public key of a P-256 private key (R538, R561). -/
opaque devPub : BitVec 256 → BitVec 512

/-- The public key of slot 3, fixed in ROM (R538). -/
opaque vendorPub : BitVec 512

/-- The JEDEC ID bytes that the device at a channel and LUN shows (R366, R396). -/
opaque jedecId : Nat → Nat → BitVec 64

/-- The fill of the map journal in %: R396 shows it and no rule gives an entry's size. At a SYS cycle. -/
opaque mapJournalFill : Nat → Fin 76

end Sys2Proof.Config
end

