-- ==== Sys2Proof/Machine/Bits.lean ====
section
/-! DEFINITION. Bit fields, sign extension and little-endian bytes, used by every register, descriptor and frame
(R3: a bit range includes both ends). -/

namespace Sys2Proof.Machine

/-- Bits [lo + w − 1 : lo] of a number. -/
def bitsOf (x lo w : Nat) : Nat := x / 2 ^ lo % 2 ^ w

/-- The number with bits [lo + w − 1 : lo] replaced by `v`. -/
def putBits (x lo w v : Nat) : Nat :=
  x - bitsOf x lo w * 2 ^ lo + (v % 2 ^ w) * 2 ^ lo

/-- Bit `i` of a number. -/
def bitOf (x i : Nat) : Bool := bitsOf x i 1 == 1

/-- A number of `w` bits read as two's complement. -/
def signed (w x : Nat) : Int :=
  if x % 2 ^ w < 2 ^ (w - 1) then (x % 2 ^ w : Nat) else (x % 2 ^ w : Nat) - (2 ^ w : Nat)

/-- An integer as `w` bits of two's complement. -/
def unsigned (w : Nat) (x : Int) : Nat := (x % ((2 ^ w : Nat) : Int)).toNat

/-- An integer held within [lo, hi]. -/
def clampInt (lo hi x : Int) : Int := if x < lo then lo else if hi < x then hi else x

/-- A counter of `w` bits that stops at all ones. -/
def satAdd (w x n : Nat) : Nat := Nat.min (x + n) (2 ^ w - 1)

/-- `n` little-endian bytes of a number, byte 0 first. -/
def leBytes (n x : Nat) : List Byte :=
  match n with
  | 0 => []
  | k + 1 => BitVec.ofNat 8 x :: leBytes k (x / 256)

/-- The number a little-endian byte string spells. -/
def leNat (b : List Byte) : Nat :=
  match b with
  | [] => 0
  | x :: r => x.toNat + 256 * leNat r

/-- `n` big-endian bytes of a number. -/
def beBytes (n x : Nat) : List Byte := (leBytes n x).reverse

/-- One bit of a CRC-32 with the reflected IEEE 802.3 polynomial. -/
def crcBit (x : Nat) : Nat := if x % 2 = 1 then Nat.xor (x / 2) 0xEDB88320 else x / 2

/-- CRC-32 of a byte string: initial value and final inversion FFFF_FFFFh. -/
def crc32 (b : List Byte) : Nat :=
  Nat.xor (b.foldl (fun c x => crcBit (crcBit (crcBit (crcBit (crcBit (crcBit (crcBit (crcBit (Nat.xor c x.toNat)))))))))
    0xFFFFFFFF) 0xFFFFFFFF

/-- Byte `i` of a little-endian parameter block, and a field of `n` bytes from it (R58: PARAM byte numbers). -/
def paramField (p : BitVec 384) (i n : Nat) : Nat := bitsOf p.toNat (8 * i) (8 * n)

end Sys2Proof.Machine
end

