-- ==== Sys2Proof/Machine/Codes.lean ====
section
/-! DEFINITION. The shared code spaces of the spec: block IDs (R1), status codes (R77), point types and qualities
(R10). Names follow the spec's own. -/

namespace Sys2Proof.Machine

/-! Block IDs (R1). -/
namespace Blk
abbrev SUP : Nat := 0x01
abbrev HIF : Nat := 0x02
abbrev OPT : Nat := 0x03
abbrev LAT : Nat := 0x04
abbrev NTU : Nat := 0x05
abbrev RTC : Nat := 0x06
abbrev FAB : Nat := 0x07
abbrev PSE : Nat := 0x08
abbrev ARB : Nat := 0x09
abbrev LCP : Nat := 0x0A
abbrev SCN : Nat := 0x0B
abbrev LPE : Nat := 0x0C
abbrev EMU : Nat := 0x0D
abbrev STO : Nat := 0x0E
abbrev HLK : Nat := 0x0F
abbrev FBC : Nat := 0x10
abbrev DIO : Nat := 0x11
abbrev KEY : Nat := 0x12
abbrev TEN : Nat := 0x13
end Blk

/-! Status codes (R77). -/
namespace St
abbrev OK : Nat := 0x00
abbrev OK_LATE : Nat := 0x01
abbrev OK_NO_TS : Nat := 0x02
abbrev FAIL_TIMEOUT : Nat := 0x10
abbrev FAIL_MISSED : Nat := 0x11
abbrev FAIL_BUDGET : Nat := 0x12
abbrev FAIL_CONFLICT : Nat := 0x13
abbrev FAIL_NO_RESPONSE : Nat := 0x14
abbrev FAIL_STATION_LOST : Nat := 0x15
abbrev FAIL_POWER_LOST : Nat := 0x16
abbrev FAIL_RESET : Nat := 0x17
abbrev FAIL_ID_CLASH : Nat := 0x18
abbrev FAIL_BUS_OFF : Nat := 0x19
abbrev FAIL_MEDIA : Nat := 0x1A
abbrev FAIL_DENIED : Nat := 0x1B
abbrev FAIL_INVALID : Nat := 0x1C
abbrev FAIL_CANCELLED : Nat := 0x1D
end St

/-! Point type codes (R10). -/
namespace PtType
abbrev NONE : Nat := 0
abbrev BOOL : Nat := 1
abbrev INT32 : Nat := 2
abbrev REAL32 : Nat := 3
abbrev Q15 : Nat := 4
abbrev UINT64 : Nat := 5
abbrev ENERGY64 : Nat := 6
end PtType

/-! Point quality codes (R10). -/
namespace Q
abbrev GOOD : Nat := 0x00
abbrev STALE : Nat := 0x01
abbrev SUBST : Nat := 0x02
abbrev FAULT : Nat := 0x03
abbrev FORCED : Nat := 0x04
abbrev UNINIT : Nat := 0xFF
/-- Whether a quality code stands in the table of R10. -/
def known (q : Nat) : Bool := decide (q ≤ FORCED) || q == UNINIT
end Q

/-! Operating modes as SUP_MODE [1:0] reads them (R27, R586). -/
namespace Mode
abbrev RUN : Nat := 0
abbrev STANDBY : Nat := 1
abbrev MINIMAL : Nat := 2
abbrev STARTING : Nat := 3
end Mode

/-! LAT_STATE.STATE (R132). -/
namespace LatSt
abbrev RESET : Nat := 0
abbrev ACQUIRE : Nat := 1
abbrev LOCKED : Nat := 2
abbrev HOLDOVER : Nat := 3
abbrev SYNTHETIC : Nat := 4
abbrev RELOCK : Nat := 5
end LatSt

end Sys2Proof.Machine
end

