-- ==== Sys2Proof/Machine/Output.lean ====
section
/-! DEFINITION. What the module sends out: the model's own observation log, oldest first. The spec names each of
these as something the module emits; the log is no register of it. -/

namespace Sys2Proof.Machine

/-- One thing the module sent. -/
inductive Output where
  /-- A DMA write into host memory (R93). -/
  | dma (addr : Nat) (bytes : List Byte)
  /-- An MSI-X message: vector, address, data (R41, R62). -/
  | msix (vector addr : Nat) (data : Word)
  /-- A successful completion of a host read with its dwords (R31, R32). -/
  | readData (rq : Requester) (data : List Word)
  /-- Completer Abort and Unsupported Request (R32). -/
  | completerAbort
  | unsupportedRequest
  /-- Bytes driven on the management SPI (R49 to R51). -/
  | spiBytes (bytes : List Byte)
  /-- An Ethernet frame sent on a fabric port (R443). -/
  | ethFrame (port : Nat) (frame : EthFrame)
  /-- A CAN frame: channel, identifier, header bits, data (R486). -/
  | canFrame (channel ident hdr : Nat) (data : List Byte)
  /-- A command to a PSE die: port, command code, argument. -/
  | dieCmd (port code arg : Nat)
  /-- A DIO output level as driven (R507). -/
  | dioOut (channel : Nat) (level : Bool)
  /-- A zero-crossing edge sent to a DIO channel (R127). -/
  | zxEdge (channel : Nat)
  /-- A pulse on a pad: pad resource number (R65), width (ns from NTU, µs from LAT) and the level during it (R128, R462). -/
  | padPulse (resource width : Nat) (level : Bool)
  /-- The EEE advertisement written to a downlink's PHY at port enable (R437). -/
  | phyEee (port : Nat) (on : Bool)
  /-- An MDIO transaction (R468). -/
  | mdio (cmd : Nat)
deriving DecidableEq, Repr

end Sys2Proof.Machine
end

