-- ==== Sys2Proof/Machine/RegMap.lean ====
section
/-! DEFINITION. The register map: the BAR0 offset of every register the spec's register tables give (R36, R63, R98,
R131, R164, R197, R235, R301, R331, R361, R396, R433, R468, R471, R498, R518, R534, R561, R563, R586), with its
access type (R34), its reset value, whether the configuration image gives that value, and its writable bits (R4). -/

namespace Sys2Proof.Machine

/-- The access types of R34. -/
inductive Access where
  | rw | ro | w1c | w1s | wo | rc | rwl
deriving DecidableEq, Repr

/-- One row of a register table: the offset in the block's window, the (stride, count) pairs of its instances from
the widest stride down, the access type, the reset value, whether the image supplies that value, the writable bits
and those of them that CTRL.EN = 1 locks (R34, R35). -/
structure RegRow where
  base : Nat
  dims : List (Nat × Nat)
  acc : Access
  reset : Nat
  image : Bool
  wmask : Nat
  lmask : Nat
deriving DecidableEq, Repr

/-! The absolute BAR0 offset of each register; arguments are the instance numbers in the spec's own letters. -/
namespace Reg

/-- Page 0 of block `b` (R36). -/
abbrev ID (b : Nat) : Nat := b * 0x40000
abbrev CAP (b : Nat) : Nat := b * 0x40000 + 0x004
abbrev CTRL (b : Nat) : Nat := b * 0x40000 + 0x008
abbrev STAT (b : Nat) : Nat := b * 0x40000 + 0x00C
abbrev IRQ_RAW (b : Nat) : Nat := b * 0x40000 + 0x010
abbrev IRQ_EN (b : Nat) : Nat := b * 0x40000 + 0x014
abbrev IRQ_STAT (b : Nat) : Nat := b * 0x40000 + 0x018
abbrev IRQ_FORCE (b : Nat) : Nat := b * 0x40000 + 0x01C
abbrev ERR_CODE (b : Nat) : Nat := b * 0x40000 + 0x020
abbrev ERR_INFO (b : Nat) : Nat := b * 0x40000 + 0x024
abbrev FENCE_SEQ (b : Nat) : Nat := b * 0x40000 + 0x028
abbrev SNAP_SEQ (b : Nat) : Nat := b * 0x40000 + 0x040
abbrev SNAP_CHAINAGE_LO (b : Nat) : Nat := b * 0x40000 + 0x044
abbrev SNAP_CHAINAGE_HI (b : Nat) : Nat := b * 0x40000 + 0x048
abbrev SNAP_TB0_SEC (b : Nat) : Nat := b * 0x40000 + 0x04C
abbrev SNAP_TB0_NS (b : Nat) : Nat := b * 0x40000 + 0x050
abbrev SNAP_DATA (b k : Nat) : Nat := b * 0x40000 + 0x054 + 4 * k
/-- The MSI-X table and Pending Bit Array (R46). -/
abbrev MSIX_TABLE (v w : Nat) : Nat := 0xA0000 + 16 * v + 4 * w
abbrev MSIX_PBA (w : Nat) : Nat := 0xA1000 + 4 * w

abbrev HIF_CAP : Nat := 0x80004
abbrev HIF_FENCE : Nat := 0x80100
abbrev HIF_LINK_STAT : Nat := 0x80104
abbrev HIF_UNMAPPED_ADDR : Nat := 0x80108
abbrev HIF_UNMAPPED_CNT : Nat := 0x8010C
abbrev HIF_BADACC_CNT : Nat := 0x80110
abbrev HIF_SPI_CTRL : Nat := 0x80114
abbrev HIF_PCI_ID : Nat := 0x80118
abbrev HIF_CQ_ROUTE (b : Nat) : Nat := 0x80140 + 4 * b
abbrev HIF_BLKVEC (b : Nat) : Nat := 0x801C0 + 4 * b
abbrev HIF_SQn_BASE_LO (n : Nat) : Nat := 0x81000 + 32 * n
abbrev HIF_SQn_BASE_HI (n : Nat) : Nat := 0x81004 + 32 * n
abbrev HIF_SQn_CTRL (n : Nat) : Nat := 0x81008 + 32 * n
abbrev HIF_SQn_DB (n : Nat) : Nat := 0x8100C + 32 * n
abbrev HIF_SQn_HEAD (n : Nat) : Nat := 0x81010 + 32 * n
abbrev HIF_SQn_STAT (n : Nat) : Nat := 0x81014 + 32 * n
abbrev HIF_CQn_BASE_LO (n : Nat) : Nat := 0x82000 + 32 * n
abbrev HIF_CQn_BASE_HI (n : Nat) : Nat := 0x82004 + 32 * n
abbrev HIF_CQn_CTRL (n : Nat) : Nat := 0x82008 + 32 * n
abbrev HIF_CQn_HEAD (n : Nat) : Nat := 0x8200C + 32 * n
abbrev HIF_CQn_TAIL (n : Nat) : Nat := 0x82010 + 32 * n
abbrev HIF_CQn_STAT (n : Nat) : Nat := 0x82014 + 32 * n
abbrev HIF_MBOX_DESC (w : Nat) : Nat := 0x83000 + 4 * w
abbrev HIF_MBOX_CPL (w : Nat) : Nat := 0x83040 + 4 * w
abbrev HIF_MBOX_GO : Nat := 0x83050
abbrev OPT_CAP : Nat := 0xC0004
abbrev OPT_INFLIGHT : Nat := 0xC0100
abbrev OPT_CFG : Nat := 0xC0104
abbrev OPT_HWM : Nat := 0xC0108
abbrev OPT_TAGWAIT_CNT : Nat := 0xC010C
abbrev OPT_LOST_CTRL : Nat := 0xC0110
abbrev OPT_LOST_STAT : Nat := 0xC0114
abbrev OPT_START_NUM : Nat := 0xC0118
abbrev OPT_LOG_ERR : Nat := 0xC011C
abbrev OPT_HIST_HEAD : Nat := 0xC0120
abbrev OPT_TAGt_W0 (t : Nat) : Nat := 0xC1000 + 8 * t
abbrev OPT_TAGt_W1 (t : Nat) : Nat := 0xC1004 + 8 * t
abbrev OPT_HIST (w : Nat) : Nat := 0xC4000 + 4 * w
abbrev LAT_CAP : Nat := 0x100004
abbrev LAT_SNAP_STATE : Nat := 0x100054
abbrev LAT_SNAP_PHASE_ERR : Nat := 0x100058
abbrev LAT_SNAP_STK_USED : Nat := 0x10005C
abbrev LAT_SNAP_TBL_GEN : Nat := 0x100060
abbrev LAT_CHAIN_LO : Nat := 0x100100
abbrev LAT_CHAIN_HI : Nat := 0x100104
abbrev LAT_STATE : Nat := 0x100108
abbrev LAT_REF_CFG : Nat := 0x10010C
abbrev LAT_OFFSET : Nat := 0x100110
abbrev LAT_PERIOD : Nat := 0x100114
abbrev LAT_FREQ : Nat := 0x100118
abbrev LAT_PHASE_ERR : Nat := 0x10011C
abbrev LAT_SLEW : Nat := 0x100120
abbrev LAT_REJECT_CNT : Nat := 0x100124
abbrev LAT_RELOCK_CNT : Nat := 0x100128
abbrev LAT_XS_CHAIN_LO : Nat := 0x10012C
abbrev LAT_XS_CHAIN_HI : Nat := 0x100130
abbrev LAT_XS_TBn_SEC (n : Nat) : Nat := 0x100134 + 8 * n
abbrev LAT_XS_TBn_NS (n : Nat) : Nat := 0x100138 + 8 * n
abbrev LAT_XS_SEQ : Nat := 0x100154
abbrev LAT_ANCHOR_CHAIN_LO : Nat := 0x100158
abbrev LAT_ANCHOR_CHAIN_HI : Nat := 0x10015C
abbrev LAT_ANCHOR_TB0_SEC : Nat := 0x100160
abbrev LAT_ANCHOR_TB0_NS : Nat := 0x100164
abbrev LAT_STK_CFG : Nat := 0x101000
abbrev LAT_STK_USED : Nat := 0x101004
abbrev LAT_TBL_GEN : Nat := 0x101008
abbrev LAT_NEXT_LO : Nat := 0x10100C
abbrev LAT_NEXT_HI : Nat := 0x101010
abbrev LAT_LATE_CNT : Nat := 0x101014
abbrev LAT_MISSED_CNT : Nat := 0x101018
abbrev LAT_ROLLED_CNT : Nat := 0x10101C
abbrev LAT_MAX_LATE : Nat := 0x101020
abbrev LAT_RESTORE_DROP : Nat := 0x101024
abbrev LAT_ZXOUT : Nat := 0x102000
abbrev LAT_STAKE (w : Nat) : Nat := 0x120000 + 4 * w
abbrev PSE_CAP : Nat := 0x200004
abbrev PSE_SNAP_TOTAL_PWR : Nat := 0x200054
abbrev PSE_SNAP_VPSE : Nat := 0x200058
abbrev PSE_SNAP_PWRON_LO : Nat := 0x20005C
abbrev PSE_SNAP_PWRON_HI : Nat := 0x200060
abbrev PSE_GSTAT : Nat := 0x200100
abbrev PSE_VPSE : Nat := 0x200104
abbrev PSE_TOTAL_PWR : Nat := 0x200108
abbrev PSE_STAGGER : Nat := 0x20010C
abbrev PSE_DIE_STAT : Nat := 0x200110
abbrev PSE_PT_BASE : Nat := 0x200114
abbrev PSE_ADOPT_STAT : Nat := 0x200118
abbrev PSE_FAULT_LOCK_CFG : Nat := 0x20011C
abbrev PSE_PWRON_LO : Nat := 0x200120
abbrev PSE_PWRON_HI : Nat := 0x200124
abbrev PSE_DIEd_TEMP (d : Nat) : Nat := 0x200130 + 4 * d
abbrev PSE_PnCFG (p : Nat) : Nat := 0x201000 + 64 * p
abbrev PSE_PnSTAT (p : Nat) : Nat := 0x201004 + 64 * p
abbrev PSE_PnALLOC (p : Nat) : Nat := 0x201008 + 64 * p
abbrev PSE_PnGRANT (p : Nat) : Nat := 0x20100C + 64 * p
abbrev PSE_PnPAUTO (p : Nat) : Nat := 0x201010 + 64 * p
abbrev PSE_PnICUT (p : Nat) : Nat := 0x201014 + 64 * p
abbrev PSE_PnLAST_OFF (p : Nat) : Nat := 0x201018 + 64 * p
abbrev PSE_PnOFF_STAMP (p : Nat) : Nat := 0x20101C + 64 * p
abbrev PSE_PnFAULT_CNT (p : Nat) : Nat := 0x201020 + 64 * p
abbrev PSE_PnV (p : Nat) : Nat := 0x202000 + 32 * p
abbrev PSE_PnIA (p : Nat) : Nat := 0x202004 + 32 * p
abbrev PSE_PnIB (p : Nat) : Nat := 0x202008 + 32 * p
abbrev PSE_PnPWR (p : Nat) : Nat := 0x20200C + 32 * p
abbrev PSE_PnE_LO (p : Nat) : Nat := 0x202010 + 32 * p
abbrev PSE_PnE_HI (p : Nat) : Nat := 0x202014 + 32 * p
abbrev PSE_PnPMAX (p : Nat) : Nat := 0x202018 + 32 * p
abbrev PSE_PnSTAMP (p : Nat) : Nat := 0x20201C + 32 * p
abbrev PSE_SNAP_PnPWR (p : Nat) : Nat := 0x206000 + 4 * p
abbrev ARB_CAP : Nat := 0x240004
abbrev ARB_SNAP_PSE_GRANTED : Nat := 0x240054
abbrev ARB_SNAP_PSE_DRAW : Nat := 0x240058
abbrev ARB_SNAP_PSE_EFF : Nat := 0x24005C
abbrev ARB_SNAP_FIELD_GRANTED : Nat := 0x240060
abbrev ARB_SNAP_FIELD_DRAW : Nat := 0x240064
abbrev ARB_SNAP_M1_DC : Nat := 0x240068
abbrev ARB_CFG : Nat := 0x240100
abbrev ARB_STATE : Nat := 0x240104
abbrev ARB_LOSS_CFG : Nat := 0x240108
abbrev ARB_OUTER_TOL : Nat := 0x24010C
abbrev ARB_AC_LIMIT : Nat := 0x240110
abbrev ARB_M1_DC : Nat := 0x240114
abbrev ARB_OUTER_EXCESS : Nat := 0x240118
abbrev ARB_REFUSE_CNT : Nat := 0x24011C
abbrev ARB_RESV_USED : Nat := 0x240120
abbrev ARB_RESV_SHORT_CNT : Nat := 0x240124
abbrev ARB_CUT_CNT : Nat := 0x240128
abbrev ARB_CAPPED : Nat := 0x24012C
abbrev ARB_PLq_LIMIT (q : Nat) : Nat := 0x240200 + 64 * q
abbrev ARB_PLq_EFF (q : Nat) : Nat := 0x240204 + 64 * q
abbrev ARB_PLq_GRANTED (q : Nat) : Nat := 0x240208 + 64 * q
abbrev ARB_PLq_RESERVED (q : Nat) : Nat := 0x24020C + 64 * q
abbrev ARB_PLq_DRAW (q : Nat) : Nat := 0x240210 + 64 * q
abbrev ARB_PLq_FREE (q : Nat) : Nat := 0x240214 + 64 * q
abbrev ARB_PLq_MARGIN (q : Nat) : Nat := 0x240218 + 64 * q
abbrev ARB_PLq_OVER_MS (q : Nat) : Nat := 0x24021C + 64 * q
abbrev ARB_PnCFG (p : Nat) : Nat := 0x241000 + 16 * p
abbrev ARB_PnFIXED (p : Nat) : Nat := 0x241004 + 16 * p
abbrev ARB_PnGSTAMP (p : Nat) : Nat := 0x241008 + 16 * p
abbrev ARB_PnREQ (p : Nat) : Nat := 0x24100C + 16 * p
abbrev ARB_FCcCFG (c : Nat) : Nat := 0x241400 + 8 * c
abbrev ARB_FCcGRANT (c : Nat) : Nat := 0x241404 + 8 * c
abbrev ARB_RESV (i w : Nat) : Nat := 0x242000 + 16 * i + 4 * w
abbrev ARB_CURVEt_Pk (t k : Nat) : Nat := 0x248000 + 128 * t + 4 * k
abbrev ARB_CURVEt_FLOOR (t : Nat) : Nat := 0x248044 + 128 * t
abbrev LCP_CAP : Nat := 0x280004
abbrev LCP_SNAP_ONLINE : Nat := 0x280054
abbrev LCP_SNAP_OPEN : Nat := 0x280058
abbrev LCP_SNAP_POWER : Nat := 0x28005C
abbrev LCP_CFG : Nat := 0x280100
abbrev LCP_STAT : Nat := 0x280104
abbrev LCP_TMR0 : Nat := 0x280108
abbrev LCP_TMR1 : Nat := 0x28010C
abbrev LCP_TMR2 : Nat := 0x280110
abbrev LCP_MAC_LO : Nat := 0x280114
abbrev LCP_MAC_HI : Nat := 0x280118
abbrev LCP_PT_BASE : Nat := 0x28011C
abbrev LCP_GRP_BASE : Nat := 0x280120
abbrev LCP_OPEN : Nat := 0x280124
abbrev LCP_RETRY_CNT : Nat := 0x280128
abbrev LCP_NORESP_CNT : Nat := 0x28012C
abbrev LCP_TMO_CNT : Nat := 0x280130
abbrev LCP_SUPERSEDE_CNT : Nat := 0x280134
abbrev LCP_LATE_CNT : Nat := 0x280138
abbrev LCP_BADVAL_CNT : Nat := 0x28013C
abbrev LCP_RXERR_CNT : Nat := 0x280140
abbrev LCP_UNSYNC_CNT : Nat := 0x280144
abbrev LCP_SC_SEL : Nat := 0x280148
abbrev LCP_SC_DATA : Nat := 0x28014C
abbrev LCP_LnCFG (i : Nat) : Nat := 0x281000 + 32 * i
abbrev LCP_LnGRP (i : Nat) : Nat := 0x281004 + 32 * i
abbrev LCP_LnDEF (i : Nat) : Nat := 0x281008 + 32 * i
abbrev LCP_LnSTATE (i : Nat) : Nat := 0x28100C + 32 * i
abbrev LCP_LnTARGET (i : Nat) : Nat := 0x281010 + 32 * i
abbrev LCP_LnLEVEL (i : Nat) : Nat := 0x281014 + 32 * i
abbrev LCP_LnPOWER (i : Nat) : Nat := 0x281018 + 32 * i
abbrev LCP_LnCAP (i : Nat) : Nat := 0x28101C + 32 * i
abbrev LCP_LnUID_LO (i : Nat) : Nat := 0x288000 + 16 * i
abbrev LCP_LnUID_HI (i : Nat) : Nat := 0x288004 + 16 * i
abbrev LCP_LnMODEL (i : Nat) : Nat := 0x288008 + 16 * i
abbrev LCP_LnLAST (i : Nat) : Nat := 0x28800C + 16 * i
abbrev LCP_GRPg_CFG (g : Nat) : Nat := 0x28B000 + 4 * g
abbrev LCP_LnPROG (i : Nat) : Nat := 0x28B400 + 4 * i
abbrev SCN_CAP : Nat := 0x2C0004
abbrev SCN_SNAP_CLEAN_CNT : Nat := 0x2C0054
abbrev SCN_SNAP_LANES : Nat := 0x2C0058
abbrev SCN_SNAP_BANK : Nat := 0x2C005C
abbrev SCN_CFG : Nat := 0x2C0100
abbrev SCN_BANK : Nat := 0x2C0104
abbrev SCN_BANKA_ID : Nat := 0x2C0108
abbrev SCN_BANKA_VER : Nat := 0x2C010C
abbrev SCN_BANKB_ID : Nat := 0x2C0110
abbrev SCN_BANKB_VER : Nat := 0x2C0114
abbrev SCN_CLEAN_CNT : Nat := 0x2C0118
abbrev SCN_LANE_STAT : Nat := 0x2C011C
abbrev SCN_XCH_MATCH : Nat := 0x2C0120
abbrev SCN_XCH_NEW : Nat := 0x2C0124
abbrev SCN_XCH_DEL : Nat := 0x2C0128
abbrev SCN_XCH_CHAIN_LO : Nat := 0x2C012C
abbrev SCN_XCH_CHAIN_HI : Nat := 0x2C0130
abbrev SCN_WITHDRAWN_CNT : Nat := 0x2C0134
abbrev SCN_LOST_DISC_CNT : Nat := 0x2C0138
abbrev SCN_LOST_LAST : Nat := 0x2C013C
abbrev SCN_FAULT_INFO : Nat := 0x2C0140
abbrev SCN_FAULT_PC : Nat := 0x2C0144
abbrev SCN_FAULT_INSN : Nat := 0x2C0148
abbrev SCN_TnCFG (n : Nat) : Nat := 0x2C1000 + 64 * n
abbrev SCN_TnCTL (n : Nat) : Nat := 0x2C1004 + 64 * n
abbrev SCN_TnPERIOD (n : Nat) : Nat := 0x2C1008 + 64 * n
abbrev SCN_TnSTAT (n : Nat) : Nat := 0x2C100C + 64 * n
abbrev SCN_TnRUNS (n : Nat) : Nat := 0x2C1010 + 64 * n
abbrev SCN_TnLAST_EXEC (n : Nat) : Nat := 0x2C1014 + 64 * n
abbrev SCN_TnMAX_EXEC (n : Nat) : Nat := 0x2C1018 + 64 * n
abbrev SCN_TnSKIP_CNT (n : Nat) : Nat := 0x2C101C + 64 * n
abbrev SCN_TnNEXT_LO (n : Nat) : Nat := 0x2C1020 + 64 * n
abbrev SCN_TnNEXT_HI (n : Nat) : Nat := 0x2C1024 + 64 * n
abbrev SCN_TnLAT_MAX (n : Nat) : Nat := 0x2C1028 + 64 * n
abbrev SCN_TnUSER (n : Nat) : Nat := 0x2C102C + 64 * n
abbrev SCN_TnDENIED (n : Nat) : Nat := 0x2C1030 + 64 * n
abbrev SCN_TnOPEN (n : Nat) : Nat := 0x2C1034 + 64 * n
abbrev LPE_CAP : Nat := 0x300004
abbrev LPE_SNAP_MODES : Nat := 0x300054
abbrev LPE_SNAP_SAT : Nat := 0x300058
abbrev LPE_STAT : Nat := 0x300100
abbrev LPE_PT_BASE : Nat := 0x300104
abbrev LPE_SLOT_MAX : Nat := 0x300108
abbrev LPE_HOLD_CNT : Nat := 0x30010C
abbrev LPE_FALLBACK_CNT : Nat := 0x300110
abbrev LPE_FE_CNT : Nat := 0x300114
abbrev LPE_DENIED_CNT : Nat := 0x300118
abbrev LPE_LnCFG (n : Nat) : Nat := 0x301000 + 128 * n
abbrev LPE_LnPERIOD (n : Nat) : Nat := 0x301004 + 128 * n
abbrev LPE_LnPV_PT (n : Nat) : Nat := 0x301008 + 128 * n
abbrev LPE_LnIO_PT (n : Nat) : Nat := 0x30100C + 128 * n
abbrev LPE_LnTRK_PT (n : Nat) : Nat := 0x301010 + 128 * n
abbrev LPE_LnMODE_PT (n : Nat) : Nat := 0x301014 + 128 * n
abbrev LPE_LnPV_LO (n : Nat) : Nat := 0x301018 + 128 * n
abbrev LPE_LnPV_HI (n : Nat) : Nat := 0x30101C + 128 * n
abbrev LPE_LnOUT_LO (n : Nat) : Nat := 0x301020 + 128 * n
abbrev LPE_LnOUT_HI (n : Nat) : Nat := 0x301024 + 128 * n
abbrev LPE_LnKP (n : Nat) : Nat := 0x301028 + 128 * n
abbrev LPE_LnKI (n : Nat) : Nat := 0x30102C + 128 * n
abbrev LPE_LnKD (n : Nat) : Nat := 0x301030 + 128 * n
abbrev LPE_LnDFILT (n : Nat) : Nat := 0x301034 + 128 * n
abbrev LPE_LnLIMIT (n : Nat) : Nat := 0x301038 + 128 * n
abbrev LPE_LnRATE (n : Nat) : Nat := 0x30103C + 128 * n
abbrev LPE_LnSUP1 (n : Nat) : Nat := 0x301040 + 128 * n
abbrev LPE_LnSUP2 (n : Nat) : Nat := 0x301044 + 128 * n
abbrev LPE_LnFE (n : Nat) : Nat := 0x301048 + 128 * n
abbrev LPE_LnFALLBACK (n : Nat) : Nat := 0x30104C + 128 * n
abbrev LPE_LnSP (n : Nat) : Nat := 0x301050 + 128 * n
abbrev LPE_LnMAN (n : Nat) : Nat := 0x301054 + 128 * n
abbrev LPE_LnCTL (n : Nat) : Nat := 0x301058 + 128 * n
abbrev LPE_LnSTATE (n : Nat) : Nat := 0x30105C + 128 * n
abbrev LPE_LnPV (n : Nat) : Nat := 0x301060 + 128 * n
abbrev LPE_LnOUT (n : Nat) : Nat := 0x301064 + 128 * n
abbrev LPE_LnINT (n : Nat) : Nat := 0x301068 + 128 * n
abbrev LPE_LnDTERM (n : Nat) : Nat := 0x30106C + 128 * n
abbrev LPE_LnTRAVEL (n : Nat) : Nat := 0x301070 + 128 * n
abbrev LPE_LnFE_CNT (n : Nat) : Nat := 0x301074 + 128 * n
abbrev LPE_LnSTAMP (n : Nat) : Nat := 0x301078 + 128 * n
abbrev LPE_LnSAT_CNT (n : Nat) : Nat := 0x30107C + 128 * n
abbrev LPE_SNAP_LnOUT (n : Nat) : Nat := 0x305000 + 4 * n
abbrev LPE_TRb_CFG (b : Nat) : Nat := 0x306000 + 16 * b
abbrev LPE_TRb_LEVEL (b : Nat) : Nat := 0x306004 + 16 * b
abbrev LPE_TRb_STAT (b : Nat) : Nat := 0x306008 + 16 * b
abbrev LPE_TRb_TSTAMP (b : Nat) : Nat := 0x30600C + 16 * b
abbrev LPE_LnBQk_W0 (n k : Nat) : Nat := 0x308000 + 64 * n + 16 * k
abbrev LPE_LnBQk_W1 (n k : Nat) : Nat := 0x308004 + 64 * n + 16 * k
abbrev LPE_LnBQk_W2 (n k : Nat) : Nat := 0x308008 + 64 * n + 16 * k
abbrev LPE_TRb_DATA (b w : Nat) : Nat := 0x310000 + 8192 * b + 4 * w
abbrev EMU_CAP : Nat := 0x340004
abbrev EMU_SNAP_M1_P : Nat := 0x340054
abbrev EMU_SNAP_M2_P : Nat := 0x340058
abbrev EMU_SNAP_MmACC (w : Nat) : Nat := 0x34005C + 4 * w
abbrev EMU_IV_CFG : Nat := 0x340100
abbrev EMU_STAT : Nat := 0x340104
abbrev EMU_IV_SEQ : Nat := 0x340108
abbrev EMU_IV_START_LO : Nat := 0x34010C
abbrev EMU_IV_START_HI : Nat := 0x340110
abbrev EMU_HOLD_STAT : Nat := 0x340114
abbrev EMU_MIRROR_SEQ : Nat := 0x340118
abbrev EMU_MIRROR_ERR : Nat := 0x34011C
abbrev EMU_GAP_CNT : Nat := 0x340120
abbrev EMU_PT_BASE : Nat := 0x340124
abbrev EMU_STORE_RETRY : Nat := 0x340128
abbrev EMU_MmCFG (m : Nat) : Nat := 0x341000 + 4096 * m
abbrev EMU_MmSTAT (m : Nat) : Nat := 0x341004 + 4096 * m
abbrev EMU_MmFREQ (m : Nat) : Nat := 0x341008 + 4096 * m
abbrev EMU_MmIN_CALC (m : Nat) : Nat := 0x34100C + 4096 * m
abbrev EMU_MmCHchCFG (m ch : Nat) : Nat := 0x341100 + 4096 * m + 16 * ch
abbrev EMU_MmCHchFS (m ch : Nat) : Nat := 0x341104 + 4096 * m + 16 * ch
abbrev EMU_MmCHchGAIN (m ch : Nat) : Nat := 0x341108 + 4096 * m + 16 * ch
abbrev EMU_MmCHchPHASE (m ch : Nat) : Nat := 0x34110C + 4096 * m + 16 * ch
abbrev EMU_MmLpW (m p w : Nat) : Nat := 0x341200 + 4096 * m + 32 * p + 4 * w
abbrev EMU_MmTOT (m w : Nat) : Nat := 0x341260 + 4096 * m + 4 * w
abbrev EMU_MmEe_ACCk_LO (m e k : Nat) : Nat := 0x341300 + 4096 * m + 64 * e + 8 * k
abbrev EMU_MmEe_ACCk_HI (m e k : Nat) : Nat := 0x341304 + 4096 * m + 64 * e + 8 * k
abbrev EMU_MmCHchH (m ch h : Nat) : Nat := 0x341400 + 4096 * m + 64 * ch + 4 * h
abbrev EMU_PIiCFG (i : Nat) : Nat := 0x344000 + 32 * i
abbrev EMU_PIiWEIGHT (i : Nat) : Nat := 0x344004 + 32 * i
abbrev EMU_PIiCNT_LO (i : Nat) : Nat := 0x344008 + 32 * i
abbrev EMU_PIiCNT_HI (i : Nat) : Nat := 0x34400C + 32 * i
abbrev EMU_PIiRATE (i : Nat) : Nat := 0x344010 + 32 * i
abbrev EMU_PIiLAST (i : Nat) : Nat := 0x344014 + 32 * i
abbrev EMU_PGgCFG (g : Nat) : Nat := 0x345000 + 16 * g
abbrev EMU_PGgCONST (g : Nat) : Nat := 0x345004 + 16 * g
abbrev EMU_PGgBACKLOG (g : Nat) : Nat := 0x345008 + 16 * g
abbrev EMU_PGgEMITTED (g : Nat) : Nat := 0x34500C + 16 * g
abbrev EMU_TMAPc_W0 (c : Nat) : Nat := 0x346000 + 16 * c
abbrev EMU_TMAPc_W1 (c : Nat) : Nat := 0x346004 + 16 * c
abbrev EMU_TMAPc_W2 (c : Nat) : Nat := 0x346008 + 16 * c
abbrev EMU_GAP_LAST (w : Nat) : Nat := 0x347000 + 4 * w
abbrev STO_CAP : Nat := 0x380004
abbrev STO_SNAP_FREE_PSLC : Nat := 0x380054
abbrev STO_SNAP_FREE_TLC : Nat := 0x380058
abbrev STO_SNAP_OPEN : Nat := 0x38005C
abbrev STO_SNAP_UNREP : Nat := 0x380060
abbrev STO_CFG : Nat := 0x380100
abbrev STO_STAT : Nat := 0x380104
abbrev STO_OPEN : Nat := 0x380108
abbrev STO_OBJECTS : Nat := 0x38010C
abbrev STO_PEER : Nat := 0x380110
abbrev STO_UNREP : Nat := 0x380114
abbrev STO_CORR_CNT : Nat := 0x380118
abbrev STO_UNCORR_CNT : Nat := 0x38011C
abbrev STO_RELOC_CNT : Nat := 0x380120
abbrev STO_MEDIAFAIL_CNT : Nat := 0x380124
abbrev STO_WL_CNT : Nat := 0x380128
abbrev STO_SCRUB_STAT : Nat := 0x38012C
abbrev STO_REPLICA_FETCH_CNT : Nat := 0x380130
abbrev STO_PAD_CNT : Nat := 0x380134
abbrev STO_MAPJ_USE : Nat := 0x380138
abbrev STO_PLq_BLOCKS (q : Nat) : Nat := 0x380200 + 64 * q
abbrev STO_PLq_FREE (q : Nat) : Nat := 0x380204 + 64 * q
abbrev STO_PLq_BAD (q : Nat) : Nat := 0x380208 + 64 * q
abbrev STO_PLq_SPARE (q : Nat) : Nat := 0x38020C + 64 * q
abbrev STO_PLq_EC_MIN (q : Nat) : Nat := 0x380210 + 64 * q
abbrev STO_PLq_EC_MAX (q : Nat) : Nat := 0x380214 + 64 * q
abbrev STO_PLq_EC_MEAN (q : Nat) : Nat := 0x380218 + 64 * q
abbrev STO_PLq_RATED_PE (q : Nat) : Nat := 0x38021C + 64 * q
abbrev STO_CLk_USED_LO (k : Nat) : Nat := 0x380400 + 32 * k
abbrev STO_CLk_USED_HI (k : Nat) : Nat := 0x380404 + 32 * k
abbrev STO_CLk_OBJECTS (k : Nat) : Nat := 0x380408 + 32 * k
abbrev STO_CLk_FREE (k : Nat) : Nat := 0x38040C + 32 * k
abbrev STO_CHc_CFG (c : Nat) : Nat := 0x381000 + 256 * c
abbrev STO_CHc_STAT (c : Nat) : Nat := 0x381004 + 256 * c
abbrev STO_CHc_LUNl_STAT (c l : Nat) : Nat := 0x381020 + 256 * c + 16 * l
abbrev STO_CHc_LUNl_BAD (c l : Nat) : Nat := 0x381024 + 256 * c + 16 * l
abbrev STO_CHc_LUNl_ID_LO (c l : Nat) : Nat := 0x381028 + 256 * c + 16 * l
abbrev STO_CHc_LUNl_ID_HI (c l : Nat) : Nat := 0x38102C + 256 * c + 16 * l
abbrev HLK_CAP : Nat := 0x3C0004
abbrev HLK_SNAP_MEMBERS_UP : Nat := 0x3C0054
abbrev HLK_SNAP_UNITS : Nat := 0x3C0058
abbrev HLK_SNAP_TERM : Nat := 0x3C005C
abbrev HLK_CFG : Nat := 0x3C0100
abbrev HLK_STAT : Nat := 0x3C0104
abbrev HLK_TERM : Nat := 0x3C0108
abbrev HLK_MEMBER_GEN : Nat := 0x3C010C
abbrev HLK_PLACE_GEN : Nat := 0x3C0110
abbrev HLK_TMR : Nat := 0x3C0114
abbrev HLK_PROXY_BASE : Nat := 0x3C0118
abbrev HLK_RTX_CNT : Nat := 0x3C011C
abbrev HLK_AUTH_FAIL_CNT : Nat := 0x3C0120
abbrev HLK_LOSS_CNT : Nat := 0x3C0124
abbrev HLK_MOVE_CNT : Nat := 0x3C0128
abbrev HLK_CP_STORE : Nat := 0x3C012C
abbrev HLK_CYC_DIFF : Nat := 0x3C0130
abbrev HLK_MBm_STAT (m : Nat) : Nat := 0x3C1000 + 32 * m
abbrev HLK_MBm_UID_LO (m : Nat) : Nat := 0x3C1004 + 32 * m
abbrev HLK_MBm_UID_HI (m : Nat) : Nat := 0x3C1008 + 32 * m
abbrev HLK_MBm_AGE (m : Nat) : Nat := 0x3C100C + 32 * m
abbrev HLK_MBm_START (m : Nat) : Nat := 0x3C1010 + 32 * m
abbrev HLK_MBm_CHAIN (m : Nat) : Nat := 0x3C1014 + 32 * m
abbrev HLK_MBm_TX (m : Nat) : Nat := 0x3C1018 + 32 * m
abbrev HLK_Uu_KEY (u : Nat) : Nat := 0x3C4000 + 16 * u
abbrev HLK_Uu_STAT (u : Nat) : Nat := 0x3C4004 + 16 * u
abbrev HLK_Uu_CP_SEQ (u : Nat) : Nat := 0x3C4008 + 16 * u
abbrev HLK_Uu_CP_CHAIN (u : Nat) : Nat := 0x3C400C + 16 * u
abbrev FAB_CAP : Nat := 0x1C0004
abbrev FAB_SNAP_BUF_USED : Nat := 0x1C0054
abbrev FAB_SNAP_LINK_LO : Nat := 0x1C0058
abbrev FAB_SNAP_LINK_HI : Nat := 0x1C005C
abbrev FAB_CFG : Nat := 0x1C0100
abbrev FAB_PCP_MAP : Nat := 0x1C0104
abbrev FAB_BUF_USED : Nat := 0x1C0108
abbrev FAB_FDB_USED : Nat := 0x1C010C
abbrev FAB_FDB_MISS : Nat := 0x1C0110
abbrev FAB_LINK_LO : Nat := 0x1C0114
abbrev FAB_LINK_HI : Nat := 0x1C0118
abbrev FAB_BLOCKED_LO : Nat := 0x1C011C
abbrev FAB_BLOCKED_HI : Nat := 0x1C0120
abbrev FAB_HALF_LO : Nat := 0x1C0124
abbrev FAB_HALF_HI : Nat := 0x1C0128
abbrev FAB_MDIO_CMD : Nat := 0x1C012C
abbrev FAB_MDIO_DATA : Nat := 0x1C0130
abbrev FAB_PnCFG (p : Nat) : Nat := 0x1C1000 + 64 * p
abbrev FAB_PnSTAT (p : Nat) : Nat := 0x1C1004 + 64 * p
abbrev FAB_PnSTORM_BC (p : Nat) : Nat := 0x1C1008 + 64 * p
abbrev FAB_PnSTORM_MC (p : Nat) : Nat := 0x1C100C + 64 * p
abbrev FAB_PnSTORM_UC (p : Nat) : Nat := 0x1C1010 + 64 * p
abbrev FAB_PnSTORM_ACT (p : Nat) : Nat := 0x1C1014 + 64 * p
abbrev FAB_PnC7 (p : Nat) : Nat := 0x1C1018 + 64 * p
abbrev FAB_PnEEE (p : Nat) : Nat := 0x1C101C + 64 * p
abbrev FAB_PnEEE_TW (p : Nat) : Nat := 0x1C1020 + 64 * p
abbrev FAB_PnPHY (p : Nat) : Nat := 0x1C1024 + 64 * p
abbrev FAB_VLANv_MBR_LO (v : Nat) : Nat := 0x1D0000 + 16 * v
abbrev FAB_VLANv_MBR_HI (v : Nat) : Nat := 0x1D0004 + 16 * v
abbrev FAB_VLANv_UNT_LO (v : Nat) : Nat := 0x1D0008 + 16 * v
abbrev FAB_VLANv_UNT_HI (v : Nat) : Nat := 0x1D000C + 16 * v
abbrev FAB_PnCNTk (p k : Nat) : Nat := 0x1E0000 + 256 * p + 4 * k
abbrev FAB_EPe_CFG (e : Nat) : Nat := 0x1C3000 + 32 * e
abbrev FAB_EPe_MAC_LO (e : Nat) : Nat := 0x1C3004 + 32 * e
abbrev FAB_EPe_MAC_HI (e : Nat) : Nat := 0x1C3008 + 32 * e
abbrev FAB_EPe_HASH_LO (e : Nat) : Nat := 0x1C300C + 32 * e
abbrev FAB_EPe_HASH_HI (e : Nat) : Nat := 0x1C3010 + 32 * e
abbrev FAB_EPe_DROP (e : Nat) : Nat := 0x1C3014 + 32 * e
abbrev NTU_CAP : Nat := 0x140004
abbrev NTU_SNAP_TB1_SEC : Nat := 0x140054
abbrev NTU_SNAP_TB1_NS : Nat := 0x140058
abbrev NTU_SNAP_TB2_SEC : Nat := 0x14005C
abbrev NTU_SNAP_TB2_NS : Nat := 0x140060
abbrev NTU_SNAP_TB3_SEC : Nat := 0x140064
abbrev NTU_SNAP_TB3_NS : Nat := 0x140068
abbrev NTU_TSQ_USED : Nat := 0x140100
abbrev NTU_TSQ_LOST_CNT : Nat := 0x140104
abbrev NTU_TSQ_HWM : Nat := 0x140108
abbrev NTU_GM_ID_LO : Nat := 0x14010C
abbrev NTU_GM_ID_HI : Nat := 0x140110
abbrev NTU_UTC_OFFSET : Nat := 0x140114
abbrev NTU_TBn_CFG (n : Nat) : Nat := 0x141000 + 256 * n
abbrev NTU_TBn_STAT (n : Nat) : Nat := 0x141004 + 256 * n
abbrev NTU_TBn_SEC_LO (n : Nat) : Nat := 0x141008 + 256 * n
abbrev NTU_TBn_SEC_HI (n : Nat) : Nat := 0x14100C + 256 * n
abbrev NTU_TBn_NS (n : Nat) : Nat := 0x141010 + 256 * n
abbrev NTU_TBn_FRAC (n : Nat) : Nat := 0x141014 + 256 * n
abbrev NTU_TBn_OFFSET (n : Nat) : Nat := 0x141018 + 256 * n
abbrev NTU_TBn_RATE (n : Nat) : Nat := 0x14101C + 256 * n
abbrev NTU_TBn_MPD (n : Nat) : Nat := 0x141020 + 256 * n
abbrev NTU_TBn_SERVO (n : Nat) : Nat := 0x141024 + 256 * n
abbrev NTU_TBn_THR (n : Nat) : Nat := 0x141028 + 256 * n
abbrev NTU_TBn_STEP_CNT (n : Nat) : Nat := 0x14102C + 256 * n
abbrev NTU_PGg_CFG (g : Nat) : Nat := 0x142000 + 32 * g
abbrev NTU_PGg_START_SEC (g : Nat) : Nat := 0x142004 + 32 * g
abbrev NTU_PGg_START_NS (g : Nat) : Nat := 0x142008 + 32 * g
abbrev NTU_PGg_PERIOD (g : Nat) : Nat := 0x14200C + 32 * g
abbrev NTU_PGg_WIDTH (g : Nat) : Nat := 0x142010 + 32 * g
abbrev NTU_PGg_INDEX (g : Nat) : Nat := 0x142014 + 32 * g
abbrev NTU_PnLAT (p : Nat) : Nat := 0x143000 + 4 * p
abbrev FBC_CAP : Nat := 0x400004
abbrev FBC_SNAP_NODES_UP : Nat := 0x400054
abbrev FBC_SNAP_ERRSTATE : Nat := 0x400058
abbrev FBC_CHc_CFG (c : Nat) : Nat := 0x401000 + 4096 * c
abbrev FBC_CHc_CTL (c : Nat) : Nat := 0x401004 + 4096 * c
abbrev FBC_CHc_STAT (c : Nat) : Nat := 0x401008 + 4096 * c
abbrev FBC_CHc_ERR (c : Nat) : Nat := 0x40100C + 4096 * c
abbrev FBC_CHc_TT (c : Nat) : Nat := 0x401010 + 4096 * c
abbrev FBC_CHc_TMR (c : Nat) : Nat := 0x401014 + 4096 * c
abbrev FBC_CHc_REF (c : Nat) : Nat := 0x401018 + 4096 * c
abbrev FBC_CHc_RXF_ID (c : Nat) : Nat := 0x40101C + 4096 * c
abbrev FBC_CHc_RXF_MASK (c : Nat) : Nat := 0x401020 + 4096 * c
abbrev FBC_CHc_FIFO_STAT (c : Nat) : Nat := 0x401024 + 4096 * c
abbrev FBC_CHc_CLASH_CNT (c : Nat) : Nat := 0x401028 + 4096 * c
abbrev FBC_CHc_BUSOFF_CNT (c : Nat) : Nat := 0x40102C + 4096 * c
abbrev FBC_CHc_RXOVR_CNT (c : Nat) : Nat := 0x401030 + 4096 * c
abbrev FBC_CHc_RXERR_CNT (c : Nat) : Nat := 0x401034 + 4096 * c
abbrev FBC_CHc_REFMISS_CNT (c : Nat) : Nat := 0x401038 + 4096 * c
abbrev FBC_CHc_LOCKTMO_CNT (c : Nat) : Nat := 0x40103C + 4096 * c
abbrev FBC_CHc_RXF_HDR (c : Nat) : Nat := 0x401040 + 4096 * c
abbrev FBC_CHc_RXF_IDR (c : Nat) : Nat := 0x401044 + 4096 * c
abbrev FBC_CHc_RXF_STAMP (c : Nat) : Nat := 0x401048 + 4096 * c
abbrev FBC_CHc_RXF_DATA (c w : Nat) : Nat := 0x401050 + 4096 * c + 4 * w
abbrev FBC_MBb_CFG (c b : Nat) : Nat := 0x410000 + 8192 * c + 128 * b
abbrev FBC_MBb_ID (c b : Nat) : Nat := 0x410004 + 8192 * c + 128 * b
abbrev FBC_MBb_HDR (c b : Nat) : Nat := 0x410008 + 8192 * c + 128 * b
abbrev FBC_MBb_STAMP (c b : Nat) : Nat := 0x41000C + 8192 * c + 128 * b
abbrev FBC_MBb_DATA (c b w : Nat) : Nat := 0x410010 + 8192 * c + 128 * b + 4 * w
abbrev FBC_CHc_CELLr_k (c r k : Nat) : Nat := 0x420000 + 8192 * c + 256 * r + 4 * k
abbrev FBC_CHc_COLk (c k : Nat) : Nat := 0x421000 + 8192 * c + 4 * k
abbrev FBC_NDn_CFG (c n : Nat) : Nat := 0x430000 + 1024 * c + 32 * n
abbrev FBC_NDn_STAT (c n : Nat) : Nat := 0x430004 + 1024 * c + 32 * n
abbrev DIO_CAP : Nat := 0x440004
abbrev DIO_SNAP_IN : Nat := 0x440054
abbrev DIO_SNAP_OUT : Nat := 0x440058
abbrev DIO_SNAP_VFIELD : Nat := 0x44005C
abbrev DIO_STAT : Nat := 0x440100
abbrev DIO_VFIELD : Nat := 0x440104
abbrev DIO_IFIELD : Nat := 0x440108
abbrev DIO_SAG_CFG : Nat := 0x44010C
abbrev DIO_WDT : Nat := 0x440110
abbrev DIO_WDT_KICK : Nat := 0x440114
abbrev DIO_PT_BASE : Nat := 0x440118
abbrev DIO_IN : Nat := 0x44011C
abbrev DIO_OUT : Nat := 0x440120
abbrev DIO_SHED_CNT : Nat := 0x440124
abbrev DIO_GRPg_CFG (g : Nat) : Nat := 0x440200 + 4 * g
abbrev DIO_CHcCFG (c : Nat) : Nat := 0x441000 + 32 * c
abbrev DIO_CHcSTAT (c : Nat) : Nat := 0x441004 + 32 * c
abbrev DIO_CHcFILT (c : Nat) : Nat := 0x441008 + 32 * c
abbrev DIO_CHcZX (c : Nat) : Nat := 0x44100C + 32 * c
abbrev DIO_CHcCNT (c : Nat) : Nat := 0x441010 + 32 * c
abbrev DIO_CHcEDGE (c : Nat) : Nat := 0x441014 + 32 * c
abbrev DIO_CHcI (c : Nat) : Nat := 0x441018 + 32 * c
abbrev DIO_PIiCFG (i : Nat) : Nat := 0x442000 + 16 * i
abbrev DIO_PIiSTAT (i : Nat) : Nat := 0x442004 + 16 * i
abbrev RTC_CAP : Nat := 0x180004
abbrev RTC_SNAP_DATE : Nat := 0x180054
abbrev RTC_SNAP_TIME : Nat := 0x180058
abbrev RTC_SNAP_SUBSEC : Nat := 0x18005C
abbrev RTC_SUBSEC : Nat := 0x180100
abbrev RTC_SEC : Nat := 0x180104
abbrev RTC_MIN : Nat := 0x180108
abbrev RTC_HOUR : Nat := 0x18010C
abbrev RTC_DAY : Nat := 0x180110
abbrev RTC_MONTH : Nat := 0x180114
abbrev RTC_YEAR : Nat := 0x180118
abbrev RTC_CTL : Nat := 0x18011C
abbrev RTC_STAT : Nat := 0x180120
abbrev RTC_CFG : Nat := 0x180124
abbrev RTC_TRIM : Nat := 0x180128
abbrev RTC_TRIM_ERR : Nat := 0x18012C
abbrev RTC_WAKE : Nat := 0x180130
abbrev RTC_WAKE_CNT : Nat := 0x180134
abbrev RTC_SET_CNT : Nat := 0x180138
abbrev RTC_BKP (w : Nat) : Nat := 0x180200 + 4 * w
abbrev RTC_BKPU (w : Nat) : Nat := 0x180208 + 4 * w
abbrev KEY_CAP : Nat := 0x480004
abbrev KEY_SNAP_LC : Nat := 0x480054
abbrev KEY_LC : Nat := 0x480100
abbrev KEY_UID_LO : Nat := 0x480104
abbrev KEY_UID_HI : Nat := 0x480108
abbrev KEY_LC_NONCE : Nat := 0x48010C
abbrev KEY_CACHE_STAT : Nat := 0x480110
abbrev KEY_CACHE_MISS_CNT : Nat := 0x480114
abbrev KEY_BLOB_STAT : Nat := 0x480118
abbrev KEY_AUTH_FAIL_CNT : Nat := 0x48011C
abbrev KEY_SLOTs_ATTR (s : Nat) : Nat := 0x481000 + 16 * s
abbrev KEY_SLOTs_GEN (s : Nat) : Nat := 0x481004 + 16 * s
abbrev KEY_SLOTs_KCV (s : Nat) : Nat := 0x481008 + 16 * s
abbrev KEY_DEVPUB (w : Nat) : Nat := 0x482000 + 4 * w
abbrev TEN_CAP : Nat := 0x4C0004
abbrev TEN_SNAP_SESSIONS : Nat := 0x4C0054
abbrev TEN_STAT : Nat := 0x4C0100
abbrev TEN_DENIED_CNT : Nat := 0x4C0104
abbrev TEN_MASKED_CNT : Nat := 0x4C0108
abbrev TEN_SEAL_CNT : Nat := 0x4C010C
abbrev TEN_SESSIONS : Nat := 0x4C0110
abbrev TEN_CTXc_CFG (c : Nat) : Nat := 0x4C1000 + 32 * c
abbrev TEN_CTXc_RATE (c : Nat) : Nat := 0x4C1004 + 32 * c
abbrev TEN_CTXc_STAT (c : Nat) : Nat := 0x4C1008 + 32 * c
abbrev TEN_CTXc_CHAL_LO (c : Nat) : Nat := 0x4C100C + 32 * c
abbrev TEN_CTXc_CHAL_HI (c : Nat) : Nat := 0x4C1010 + 32 * c
abbrev TEN_CTXc_DENIED (c : Nat) : Nat := 0x4C1014 + 32 * c
abbrev TEN_CTXc_RATE_DROP (c : Nat) : Nat := 0x4C1018 + 32 * c
abbrev TEN_CTXc_SESS_LEFT (c : Nat) : Nat := 0x4C101C + 32 * c
abbrev TEN_CTXc_RNGr_W0 (c r : Nat) : Nat := 0x4E0000 + 512 * c + 8 * r
abbrev TEN_CTXc_RNGr_W1 (c r : Nat) : Nat := 0x4E0004 + 512 * c + 8 * r
abbrev SUP_CAP : Nat := 0x40004
abbrev SUP_SNAP_VMAIN : Nat := 0x40054
abbrev SUP_SNAP_TEMP : Nat := 0x40058
abbrev SUP_SNAP_MODE : Nat := 0x4005C
abbrev SUP_MODE : Nat := 0x40100
abbrev SUP_START_STAT : Nat := 0x40104
abbrev SUP_START_TIME : Nat := 0x40108
abbrev SUP_LIFE_LAST : Nat := 0x4010C
abbrev SUP_PFAIL_LO : Nat := 0x40110
abbrev SUP_PFAIL_HI : Nat := 0x40114
abbrev SUP_COMMIT_US : Nat := 0x40118
abbrev SUP_SUPPLY_STAT : Nat := 0x4011C
abbrev SUP_VMAIN : Nat := 0x40120
abbrev SUP_HOLDUP : Nat := 0x40124
abbrev SUP_HOLDUP_MIN : Nat := 0x40128
abbrev SUP_TEMP : Nat := 0x4012C
abbrev SUP_TEMP_MAX : Nat := 0x40130
abbrev SUP_CORE_RST_CNT : Nat := 0x40134
abbrev SUP_SURVEY_CFG : Nat := 0x40200
abbrev SUP_SURVEY_NOW : Nat := 0x40204
abbrev SUP_SURVEY_ACK : Nat := 0x40208
abbrev SUP_SURVEY_STAT : Nat := 0x4020C
abbrev SUP_SURVEY_LAT : Nat := 0x40210
abbrev SUP_SURVEY_OVR_CNT : Nat := 0x40214
abbrev SUP_GTn_CFG (n : Nat) : Nat := 0x40400 + 16 * n
abbrev SUP_GTn_PERIOD (n : Nat) : Nat := 0x40404 + 16 * n
abbrev SUP_GTn_CNT (n : Nat) : Nat := 0x40408 + 16 * n
abbrev SUP_BOOT_CTL : Nat := 0x41000
abbrev SUP_BOOT_DATA : Nat := 0x41004
abbrev SUP_CLAIM (w : Nat) : Nat := 0x43000 + 4 * w
abbrev SUP_HIST (w : Nat) : Nat := 0x44000 + 4 * w

end Reg

/-- Page 0, common to all blocks (R36); ID, CAP and STAT take their block's own values. -/
def rowsPage0 : List RegRow :=
  [⟨0x000, [], .ro, 0, false, 0, 0⟩, ⟨0x004, [], .ro, 0, false, 0, 0⟩, ⟨0x008, [], .rw, 0, false, 0x7, 0⟩,
   ⟨0x00C, [], .ro, 0, false, 0, 0⟩, ⟨0x010, [], .ro, 0, false, 0, 0⟩, ⟨0x014, [], .rw, 0, false, 0xFFFFFFFF, 0⟩,
   ⟨0x018, [], .w1c, 0, false, 0xFFFFFFFF, 0⟩, ⟨0x01C, [], .w1s, 0, false, 0xFFFFFFFF, 0⟩,
   ⟨0x020, [], .rc, 0, false, 0, 0⟩, ⟨0x024, [], .ro, 0, false, 0, 0⟩, ⟨0x028, [], .ro, 0, false, 0, 0⟩,
   ⟨0x02C, [(4, 5)], .ro, 0, false, 0, 0⟩, ⟨0x040, [(4, 48)], .ro, 0, false, 0, 0⟩]

/-- The MSI-X table and Pending Bit Array inside HIF's window (R46). -/
def rowsMsix : List RegRow :=
  [⟨0x20000, [(16, 64)], .rw, 0, false, 0xFFFFFFFC, 0⟩, ⟨0x20004, [(16, 64)], .rw, 0, false, 0xFFFFFFFF, 0⟩,
   ⟨0x20008, [(16, 64)], .rw, 0, false, 0xFFFFFFFF, 0⟩, ⟨0x2000C, [(16, 64)], .rw, 1, false, 0x1, 0⟩,
   ⟨0x21000, [(4, 2)], .ro, 0, false, 0, 0⟩]

def rowsSUP : List RegRow :=
  [⟨0x4, [], .ro, 0x100514, false, 0x0, 0x0⟩,
   ⟨0x54, [], .ro, 0x0, false, 0x0, 0x0⟩,
   ⟨0x58, [], .ro, 0x0, false, 0x0, 0x0⟩,
   ⟨0x5C, [], .ro, 0x0, false, 0x0, 0x0⟩,
   ⟨0x100, [], .ro, 0x3, false, 0x0, 0x0⟩,
   ⟨0x104, [], .ro, 0x0, false, 0x0, 0x0⟩,
   ⟨0x108, [], .ro, 0x0, false, 0x0, 0x0⟩,
   ⟨0x10C, [], .ro, 0x0, false, 0x0, 0x0⟩,
   ⟨0x110, [], .ro, 0x0, false, 0x0, 0x0⟩,
   ⟨0x114, [], .ro, 0x0, false, 0x0, 0x0⟩,
   ⟨0x118, [], .ro, 0x0, false, 0x0, 0x0⟩,
   ⟨0x11C, [], .ro, 0x0, false, 0x0, 0x0⟩,
   ⟨0x120, [], .ro, 0x0, false, 0x0, 0x0⟩,
   ⟨0x124, [], .ro, 0x0, false, 0x0, 0x0⟩,
   ⟨0x128, [], .rwl, 0x0, true, 0xFFFFFFFF, 0xFFFFFFFF⟩,
   ⟨0x12C, [], .ro, 0x0, false, 0x0, 0x0⟩,
   ⟨0x130, [], .rc, 0x0, false, 0x0, 0x0⟩,
   ⟨0x134, [], .rc, 0x0, false, 0x0, 0x0⟩,
   ⟨0x200, [], .rw, 0x0, true, 0x11F, 0x0⟩,
   ⟨0x204, [], .w1s, 0x0, false, 0x1, 0x0⟩,
   ⟨0x208, [], .w1s, 0x0, false, 0x1, 0x0⟩,
   ⟨0x20C, [], .ro, 0x0, false, 0x0, 0x0⟩,
   ⟨0x210, [], .ro, 0x0, false, 0x0, 0x0⟩,
   ⟨0x214, [], .rc, 0x0, false, 0x0, 0x0⟩,
   ⟨0x400, [(16, 16)], .ro, 0x0, false, 0x0, 0x0⟩,
   ⟨0x404, [(16, 16)], .ro, 0x0, false, 0x0, 0x0⟩,
   ⟨0x408, [(16, 16)], .ro, 0x0, false, 0x0, 0x0⟩,
   ⟨0x1000, [], .rw, 0x0, false, 0xF0FFFFFF, 0x0⟩,
   ⟨0x1004, [], .wo, 0x0, false, 0xFFFFFFFF, 0x0⟩,
   ⟨0x3000, [(4, 512)], .ro, 0x0, false, 0x0, 0x0⟩,
   ⟨0x4000, [(4, 256)], .ro, 0x0, false, 0x0, 0x0⟩]

def rowsHIF : List RegRow :=
  [⟨0x4, [], .ro, 0x34088, false, 0x0, 0x0⟩,
   ⟨0x100, [], .rw, 0x0, false, 0xFFFFFFFF, 0x0⟩,
   ⟨0x104, [], .ro, 0x0, false, 0x0, 0x0⟩,
   ⟨0x108, [], .ro, 0x0, false, 0x0, 0x0⟩,
   ⟨0x10C, [], .rc, 0x0, false, 0x0, 0x0⟩,
   ⟨0x110, [], .rc, 0x0, false, 0x0, 0x0⟩,
   ⟨0x114, [], .rw, 0x0, false, 0x1, 0x0⟩,
   ⟨0x118, [], .ro, 0x0, false, 0x0, 0x0⟩,
   ⟨0x144, [(4, 19)], .rw, 0x7, false, 0xF, 0x0⟩,
   ⟨0x1C4, [(4, 19)], .rw, 0x0, false, 0x3F, 0x0⟩,
   ⟨0x1000, [(32, 8)], .rw, 0x0, false, 0xFFFFFFFF, 0x0⟩,
   ⟨0x1004, [(32, 8)], .rw, 0x0, false, 0xFFFFFFFF, 0x0⟩,
   ⟨0x1008, [(32, 8)], .rw, 0x0, false, 0xF, 0x0⟩,
   ⟨0x100C, [(32, 8)], .wo, 0x0, false, 0xFF, 0x0⟩,
   ⟨0x1010, [(32, 8)], .ro, 0x0, false, 0x0, 0x0⟩,
   ⟨0x1014, [(32, 8)], .w1c, 0x0, false, 0x1, 0x0⟩,
   ⟨0x2000, [(32, 8)], .rw, 0x0, false, 0xFFFFFFFF, 0x0⟩,
   ⟨0x2004, [(32, 8)], .rw, 0x0, false, 0xFFFFFFFF, 0x0⟩,
   ⟨0x2008, [(32, 8)], .rw, 0x0, false, 0x3FFFFF01, 0x0⟩,
   ⟨0x200C, [(32, 8)], .rw, 0x0, false, 0xFF, 0x0⟩,
   ⟨0x2010, [(32, 8)], .ro, 0x0, false, 0x0, 0x0⟩,
   ⟨0x2014, [(32, 8)], .ro, 0x0, false, 0x0, 0x0⟩,
   ⟨0x3000, [(4, 16)], .rw, 0x0, false, 0xFFFFFFFF, 0x0⟩,
   ⟨0x3040, [(4, 4)], .ro, 0x0, false, 0x0, 0x0⟩,
   ⟨0x3050, [], .w1s, 0x0, false, 0x1, 0x0⟩]

def rowsOPT : List RegRow :=
  [⟨0x4, [], .ro, 0xE00, false, 0x0, 0x0⟩,
   ⟨0x100, [], .ro, 0x0, false, 0x0, 0x0⟩,
   ⟨0x104, [], .rwl, 0x1C0, false, 0x3FF, 0x3FF⟩,
   ⟨0x108, [], .rc, 0x0, false, 0x0, 0x0⟩,
   ⟨0x10C, [], .rc, 0x0, false, 0x0, 0x0⟩,
   ⟨0x110, [], .rw, 0x0, false, 0x107, 0x0⟩,
   ⟨0x114, [], .ro, 0x0, false, 0x0, 0x0⟩,
   ⟨0x118, [], .ro, 0x0, false, 0x0, 0x0⟩,
   ⟨0x11C, [], .rc, 0x0, false, 0x0, 0x0⟩,
   ⟨0x120, [], .ro, 0x0, false, 0x0, 0x0⟩,
   ⟨0x1000, [(8, 512)], .ro, 0x0, false, 0x0, 0x0⟩,
   ⟨0x1004, [(8, 512)], .ro, 0x0, false, 0x0, 0x0⟩,
   ⟨0x4000, [(4, 4096)], .ro, 0x0, false, 0x0, 0x0⟩]

def rowsLAT : List RegRow :=
  [⟨0x4, [], .ro, 0x1081000, false, 0x0, 0x0⟩,
   ⟨0x54, [], .ro, 0x0, false, 0x0, 0x0⟩,
   ⟨0x58, [], .ro, 0x0, false, 0x0, 0x0⟩,
   ⟨0x5C, [], .ro, 0x0, false, 0x0, 0x0⟩,
   ⟨0x60, [], .ro, 0x0, false, 0x0, 0x0⟩,
   ⟨0x100, [], .ro, 0x0, false, 0x0, 0x0⟩,
   ⟨0x104, [], .ro, 0x0, false, 0x0, 0x0⟩,
   ⟨0x108, [], .ro, 0x0, false, 0x0, 0x0⟩,
   ⟨0x10C, [], .ro, 0x0, true, 0x0, 0x0⟩,
   ⟨0x110, [], .ro, 0x0, true, 0x0, 0x0⟩,
   ⟨0x114, [], .ro, 0x0, false, 0x0, 0x0⟩,
   ⟨0x118, [], .ro, 0x0, false, 0x0, 0x0⟩,
   ⟨0x11C, [], .ro, 0x0, false, 0x0, 0x0⟩,
   ⟨0x120, [], .ro, 0x0, false, 0x0, 0x0⟩,
   ⟨0x124, [], .rc, 0x0, false, 0x0, 0x0⟩,
   ⟨0x128, [], .rc, 0x0, false, 0x0, 0x0⟩,
   ⟨0x12C, [], .ro, 0x0, false, 0x0, 0x0⟩,
   ⟨0x130, [], .ro, 0x0, false, 0x0, 0x0⟩,
   ⟨0x134, [(8, 4)], .ro, 0x0, false, 0x0, 0x0⟩,
   ⟨0x138, [(8, 4)], .ro, 0x0, false, 0x0, 0x0⟩,
   ⟨0x154, [], .ro, 0x0, false, 0x0, 0x0⟩,
   ⟨0x158, [], .ro, 0x0, false, 0x0, 0x0⟩,
   ⟨0x15C, [], .ro, 0x0, false, 0x0, 0x0⟩,
   ⟨0x160, [], .ro, 0x0, false, 0x0, 0x0⟩,
   ⟨0x164, [], .ro, 0x0, false, 0x0, 0x0⟩,
   ⟨0x1000, [], .rw, 0xA00, false, 0xFF07, 0x0⟩,
   ⟨0x1004, [], .ro, 0x0, false, 0x0, 0x0⟩,
   ⟨0x1008, [], .ro, 0x0, false, 0x0, 0x0⟩,
   ⟨0x100C, [], .ro, 0xFFFFFFFF, false, 0x0, 0x0⟩,
   ⟨0x1010, [], .ro, 0xFFFFFFFF, false, 0x0, 0x0⟩,
   ⟨0x1014, [], .rc, 0x0, false, 0x0, 0x0⟩,
   ⟨0x1018, [], .rc, 0x0, false, 0x0, 0x0⟩,
   ⟨0x101C, [], .rc, 0x0, false, 0x0, 0x0⟩,
   ⟨0x1020, [], .rc, 0x0, false, 0x0, 0x0⟩,
   ⟨0x1024, [], .rc, 0x0, false, 0x0, 0x0⟩,
   ⟨0x2000, [], .ro, 0x0, true, 0x0, 0x0⟩,
   ⟨0x20000, [(4, 32768)], .ro, 0x0, false, 0x0, 0x0⟩]

def rowsNTU : List RegRow :=
  [⟨0x4, [], .ro, 0x408084, false, 0x0, 0x0⟩,
   ⟨0x54, [], .ro, 0x0, false, 0x0, 0x0⟩,
   ⟨0x58, [], .ro, 0x0, false, 0x0, 0x0⟩,
   ⟨0x5C, [], .ro, 0x0, false, 0x0, 0x0⟩,
   ⟨0x60, [], .ro, 0x0, false, 0x0, 0x0⟩,
   ⟨0x64, [], .ro, 0x0, false, 0x0, 0x0⟩,
   ⟨0x68, [], .ro, 0x0, false, 0x0, 0x0⟩,
   ⟨0x100, [], .ro, 0x0, false, 0x0, 0x0⟩,
   ⟨0x104, [], .rc, 0x0, false, 0x0, 0x0⟩,
   ⟨0x108, [], .rc, 0x0, false, 0x0, 0x0⟩,
   ⟨0x10C, [], .ro, 0x0, false, 0x0, 0x0⟩,
   ⟨0x110, [], .ro, 0x0, false, 0x0, 0x0⟩,
   ⟨0x114, [], .ro, 0x25, false, 0x0, 0x0⟩,
   ⟨0x1000, [(256, 4)], .rwl, 0x0, true, 0xFFFFFF3F, 0xFFFFFF3F⟩,
   ⟨0x1004, [(256, 4)], .ro, 0x0, false, 0x0, 0x0⟩,
   ⟨0x1008, [(256, 4)], .ro, 0x0, false, 0x0, 0x0⟩,
   ⟨0x100C, [(256, 4)], .ro, 0x0, false, 0x0, 0x0⟩,
   ⟨0x1010, [(256, 4)], .ro, 0x0, false, 0x0, 0x0⟩,
   ⟨0x1014, [(256, 4)], .ro, 0x0, false, 0x0, 0x0⟩,
   ⟨0x1018, [(256, 4)], .ro, 0x0, false, 0x0, 0x0⟩,
   ⟨0x101C, [(256, 4)], .ro, 0x0, false, 0x0, 0x0⟩,
   ⟨0x1020, [(256, 4)], .ro, 0x0, false, 0x0, 0x0⟩,
   ⟨0x1024, [(256, 4)], .rw, 0x0, true, 0xFFFFFFFF, 0x0⟩,
   ⟨0x1028, [(256, 4)], .rw, 0x0, true, 0xFFFFFFFF, 0x0⟩,
   ⟨0x102C, [(256, 4)], .rc, 0x0, false, 0x0, 0x0⟩,
   ⟨0x2000, [(32, 8)], .ro, 0x0, false, 0x0, 0x0⟩,
   ⟨0x2004, [(32, 8)], .ro, 0x0, false, 0x0, 0x0⟩,
   ⟨0x2008, [(32, 8)], .ro, 0x0, false, 0x0, 0x0⟩,
   ⟨0x200C, [(32, 8)], .ro, 0x0, false, 0x0, 0x0⟩,
   ⟨0x2010, [(32, 8)], .ro, 0x0, false, 0x0, 0x0⟩,
   ⟨0x2014, [(32, 8)], .ro, 0x0, false, 0x0, 0x0⟩,
   ⟨0x3000, [(4, 50)], .rw, 0x0, true, 0xFFFFFFFF, 0x0⟩]

def rowsRTC : List RegRow :=
  [⟨0x4, [], .ro, 0x340, false, 0x0, 0x0⟩,
   ⟨0x54, [], .ro, 0x0, false, 0x0, 0x0⟩,
   ⟨0x58, [], .ro, 0x0, false, 0x0, 0x0⟩,
   ⟨0x5C, [], .ro, 0x0, false, 0x0, 0x0⟩,
   ⟨0x100, [], .ro, 0x0, false, 0x0, 0x0⟩,
   ⟨0x104, [], .rw, 0x0, false, 0x3F, 0x0⟩,
   ⟨0x108, [], .rw, 0x0, false, 0x3F, 0x0⟩,
   ⟨0x10C, [], .rw, 0x0, false, 0x1F, 0x0⟩,
   ⟨0x110, [], .rw, 0x1, false, 0x1F, 0x0⟩,
   ⟨0x114, [], .rw, 0x1, false, 0xF, 0x0⟩,
   ⟨0x118, [], .rw, 0x7D0, false, 0xFFF, 0x0⟩,
   ⟨0x11C, [], .rw, 0x1, false, 0x1, 0x0⟩,
   ⟨0x120, [], .ro, 0x0, false, 0x0, 0x0⟩,
   ⟨0x124, [], .rw, 0x0, true, 0x7, 0x0⟩,
   ⟨0x128, [], .rw, 0x0, false, 0x1FF, 0x0⟩,
   ⟨0x12C, [], .ro, 0x0, false, 0x0, 0x0⟩,
   ⟨0x130, [], .rw, 0x0, false, 0xFFFFF, 0x0⟩,
   ⟨0x134, [], .rc, 0x0, false, 0x0, 0x0⟩,
   ⟨0x138, [], .rc, 0x0, false, 0x0, 0x0⟩,
   ⟨0x200, [(4, 2)], .ro, 0x0, false, 0x0, 0x0⟩,
   ⟨0x208, [(4, 14)], .rw, 0x0, false, 0xFFFFFFFF, 0x0⟩]

def rowsFAB : List RegRow :=
  [⟨0x4, [], .ro, 0x8040532, false, 0x0, 0x0⟩,
   ⟨0x54, [], .ro, 0x0, false, 0x0, 0x0⟩,
   ⟨0x58, [], .ro, 0x0, false, 0x0, 0x0⟩,
   ⟨0x5C, [], .ro, 0x0, false, 0x0, 0x0⟩,
   ⟨0x100, [], .rwl, 0x0, true, 0xFF013FFF, 0xFF013FFF⟩,
   ⟨0x104, [], .rw, 0xDAC688, false, 0xFFFFFFFF, 0x0⟩,
   ⟨0x108, [], .ro, 0x0, false, 0x0, 0x0⟩,
   ⟨0x10C, [], .ro, 0x0, false, 0x0, 0x0⟩,
   ⟨0x110, [], .rc, 0x0, false, 0x0, 0x0⟩,
   ⟨0x114, [], .ro, 0x0, false, 0x0, 0x0⟩,
   ⟨0x118, [], .ro, 0x0, false, 0x0, 0x0⟩,
   ⟨0x11C, [], .ro, 0x0, false, 0x0, 0x0⟩,
   ⟨0x120, [], .ro, 0x0, false, 0x0, 0x0⟩,
   ⟨0x124, [], .w1c, 0x0, false, 0xFFFFFFFF, 0x0⟩,
   ⟨0x128, [], .w1c, 0x0, false, 0x3FFFF, 0x0⟩,
   ⟨0x12C, [], .rw, 0x0, false, 0xFFFF1FFF, 0x0⟩,
   ⟨0x130, [], .ro, 0x0, false, 0x0, 0x0⟩,
   ⟨0x1000, [(64, 50)], .rw, 0x0, true, 0x7FFF031F, 0x0⟩,
   ⟨0x1004, [(64, 50)], .ro, 0x0, false, 0x0, 0x0⟩,
   ⟨0x1008, [(64, 50)], .rw, 0x0, true, 0xFFFFFFFF, 0x0⟩,
   ⟨0x100C, [(64, 50)], .rw, 0x0, true, 0xFFFFFFFF, 0x0⟩,
   ⟨0x1010, [(64, 50)], .rw, 0x0, true, 0xFFFFFFFF, 0x0⟩,
   ⟨0x1014, [(64, 50)], .rw, 0x0, true, 0xFFFFFF01, 0x0⟩,
   ⟨0x1018, [(64, 50)], .rw, 0x0, true, 0xFFFFFFFF, 0x0⟩,
   ⟨0x101C, [(64, 50)], .rw, 0x0, true, 0xFFFFFF03, 0x0⟩,
   ⟨0x1020, [(64, 50)], .ro, 0x0, false, 0x0, 0x0⟩,
   ⟨0x1024, [(64, 50)], .ro, 0x0, true, 0x0, 0x0⟩,
   ⟨0x10000, [(16, 64)], .rw, 0x0, true, 0xFFFFFFFF, 0x0⟩,
   ⟨0x10004, [(16, 64)], .rw, 0x0, true, 0x7FFFFF, 0x0⟩,
   ⟨0x10008, [(16, 64)], .rw, 0x0, true, 0xFFFFFFFF, 0x0⟩,
   ⟨0x1000C, [(16, 64)], .rw, 0x0, true, 0x3FFFF, 0x0⟩,
   ⟨0x20000, [(256, 50), (4, 40)], .ro, 0x0, false, 0x0, 0x0⟩,
   ⟨0x3000, [(32, 5)], .rw, 0x0, true, 0xFFF000F, 0x0⟩,
   ⟨0x3004, [(32, 5)], .rwl, 0x0, true, 0xFFFFFFFF, 0xFFFFFFFF⟩,
   ⟨0x3008, [(32, 5)], .rwl, 0x0, true, 0xFFFF, 0xFFFF⟩,
   ⟨0x300C, [(32, 5)], .rw, 0x0, false, 0xFFFFFFFF, 0x0⟩,
   ⟨0x3010, [(32, 5)], .rw, 0x0, false, 0xFFFFFFFF, 0x0⟩,
   ⟨0x3014, [(32, 5)], .rc, 0x0, false, 0x0, 0x0⟩]

def rowsPSE : List RegRow :=
  [⟨0x4, [], .ro, 0x3730, false, 0x0, 0x0⟩,
   ⟨0x54, [], .ro, 0x0, false, 0x0, 0x0⟩,
   ⟨0x58, [], .ro, 0x0, false, 0x0, 0x0⟩,
   ⟨0x5C, [], .ro, 0x0, false, 0x0, 0x0⟩,
   ⟨0x60, [], .ro, 0x0, false, 0x0, 0x0⟩,
   ⟨0x100, [], .ro, 0x0, false, 0x0, 0x0⟩,
   ⟨0x104, [], .ro, 0x0, false, 0x0, 0x0⟩,
   ⟨0x108, [], .ro, 0x0, false, 0x0, 0x0⟩,
   ⟨0x10C, [], .rw, 0x2, false, 0x10F, 0x0⟩,
   ⟨0x110, [], .ro, 0x0, false, 0x0, 0x0⟩,
   ⟨0x114, [], .rwl, 0x0, true, 0xFFFF, 0xFFFF⟩,
   ⟨0x118, [], .ro, 0x0, false, 0x0, 0x0⟩,
   ⟨0x11C, [], .rwl, 0x3C08, false, 0xFFFF, 0xFFFF⟩,
   ⟨0x120, [], .ro, 0x0, false, 0x0, 0x0⟩,
   ⟨0x124, [], .ro, 0x0, false, 0x0, 0x0⟩,
   ⟨0x130, [(4, 6)], .ro, 0x0, false, 0x0, 0x0⟩,
   ⟨0x1000, [(64, 48)], .rw, 0x0, true, 0xFFFF, 0x0⟩,
   ⟨0x1004, [(64, 48)], .ro, 0xF000F0, false, 0x0, 0x0⟩,
   ⟨0x1008, [(64, 48)], .ro, 0x0, false, 0x0, 0x0⟩,
   ⟨0x100C, [(64, 48)], .ro, 0x0, false, 0x0, 0x0⟩,
   ⟨0x1010, [(64, 48)], .ro, 0x0, false, 0x0, 0x0⟩,
   ⟨0x1014, [(64, 48)], .ro, 0x0, false, 0x0, 0x0⟩,
   ⟨0x1018, [(64, 48)], .ro, 0x0, false, 0x0, 0x0⟩,
   ⟨0x101C, [(64, 48)], .ro, 0x0, false, 0x0, 0x0⟩,
   ⟨0x1020, [(64, 48)], .rc, 0x0, false, 0x0, 0x0⟩,
   ⟨0x2000, [(32, 48)], .ro, 0x0, false, 0x0, 0x0⟩,
   ⟨0x2004, [(32, 48)], .ro, 0x0, false, 0x0, 0x0⟩,
   ⟨0x2008, [(32, 48)], .ro, 0x0, false, 0x0, 0x0⟩,
   ⟨0x200C, [(32, 48)], .ro, 0x0, false, 0x0, 0x0⟩,
   ⟨0x2010, [(32, 48)], .ro, 0x0, false, 0x0, 0x0⟩,
   ⟨0x2014, [(32, 48)], .ro, 0x0, false, 0x0, 0x0⟩,
   ⟨0x2018, [(32, 48)], .rc, 0x0, false, 0x0, 0x0⟩,
   ⟨0x201C, [(32, 48)], .ro, 0x0, false, 0x0, 0x0⟩,
   ⟨0x6000, [(4, 48)], .ro, 0x0, false, 0x0, 0x0⟩]

def rowsARB : List RegRow :=
  [⟨0x4, [], .ro, 0x4004002, false, 0x0, 0x0⟩,
   ⟨0x54, [], .ro, 0x0, false, 0x0, 0x0⟩,
   ⟨0x58, [], .ro, 0x0, false, 0x0, 0x0⟩,
   ⟨0x5C, [], .ro, 0x0, false, 0x0, 0x0⟩,
   ⟨0x60, [], .ro, 0x0, false, 0x0, 0x0⟩,
   ⟨0x64, [], .ro, 0x0, false, 0x0, 0x0⟩,
   ⟨0x68, [], .ro, 0x0, false, 0x0, 0x0⟩,
   ⟨0x100, [], .rwl, 0x0, true, 0xFF07, 0xFF07⟩,
   ⟨0x104, [], .ro, 0x0, false, 0x0, 0x0⟩,
   ⟨0x108, [], .rwl, 0x0, true, 0xFFFFFFFF, 0xFFFFFFFF⟩,
   ⟨0x10C, [], .rwl, 0x0, true, 0xFFFF, 0xFFFF⟩,
   ⟨0x110, [], .rwl, 0x0, true, 0xFFFFFFFF, 0xFFFFFFFF⟩,
   ⟨0x114, [], .ro, 0x0, false, 0x0, 0x0⟩,
   ⟨0x118, [], .ro, 0x0, false, 0x0, 0x0⟩,
   ⟨0x11C, [], .rc, 0x0, false, 0x0, 0x0⟩,
   ⟨0x120, [], .ro, 0x0, false, 0x0, 0x0⟩,
   ⟨0x124, [], .rc, 0x0, false, 0x0, 0x0⟩,
   ⟨0x128, [], .rc, 0x0, false, 0x0, 0x0⟩,
   ⟨0x12C, [], .ro, 0x0, false, 0x0, 0x0⟩,
   ⟨0x200, [(64, 2)], .ro, 0x0, true, 0x0, 0x0⟩,
   ⟨0x204, [(64, 2)], .ro, 0x0, false, 0x0, 0x0⟩,
   ⟨0x208, [(64, 2)], .ro, 0x0, false, 0x0, 0x0⟩,
   ⟨0x20C, [(64, 2)], .ro, 0x0, false, 0x0, 0x0⟩,
   ⟨0x210, [(64, 2)], .ro, 0x0, false, 0x0, 0x0⟩,
   ⟨0x214, [(64, 2)], .ro, 0x0, false, 0x0, 0x0⟩,
   ⟨0x218, [(64, 2)], .rwl, 0x0, true, 0xFFFFFFFF, 0xFFFFFFFF⟩,
   ⟨0x21C, [(64, 2)], .ro, 0x0, false, 0x0, 0x0⟩,
   ⟨0x1000, [(16, 48)], .rw, 0x0, true, 0xFF73, 0x0⟩,
   ⟨0x1004, [(16, 48)], .rw, 0x0, true, 0xFFFFFFFF, 0x0⟩,
   ⟨0x1008, [(16, 48)], .ro, 0x0, false, 0x0, 0x0⟩,
   ⟨0x100C, [(16, 48)], .ro, 0x0, false, 0x0, 0x0⟩,
   ⟨0x1400, [(8, 24)], .rw, 0x0, true, 0x70FFF, 0x0⟩,
   ⟨0x1404, [(8, 24)], .ro, 0x0, false, 0x0, 0x0⟩,
   ⟨0x2000, [(16, 1024), (4, 4)], .ro, 0x0, false, 0x0, 0x0⟩,
   ⟨0x8000, [(128, 64), (4, 17)], .rwl, 0x0, true, 0xFFFFFFFF, 0xFFFFFFFF⟩,
   ⟨0x8044, [(128, 64)], .rwl, 0x0, true, 0xF, 0xF⟩]

def rowsLCP : List RegRow :=
  [⟨0x4, [], .ro, 0x13FFF300, false, 0x0, 0x0⟩,
   ⟨0x54, [], .ro, 0x0, false, 0x0, 0x0⟩,
   ⟨0x58, [], .ro, 0x0, false, 0x0, 0x0⟩,
   ⟨0x5C, [], .ro, 0x0, false, 0x0, 0x0⟩,
   ⟨0x100, [], .rwl, 0x0, true, 0xFF1FFF, 0xFF1FFF⟩,
   ⟨0x104, [], .ro, 0x0, false, 0x0, 0x0⟩,
   ⟨0x108, [], .rwl, 0x1F40414, false, 0xFFF0FFF, 0xFFF0FFF⟩,
   ⟨0x10C, [], .rwl, 0x190303E8, false, 0xFFFFFFFF, 0xFFFFFFFF⟩,
   ⟨0x110, [], .rwl, 0x1F403E8, false, 0xFFFFFFFF, 0xFFFFFFFF⟩,
   ⟨0x114, [], .ro, 0x0, true, 0x0, 0x0⟩,
   ⟨0x118, [], .ro, 0x0, true, 0x0, 0x0⟩,
   ⟨0x11C, [], .rwl, 0x0, true, 0xFFFF, 0xFFFF⟩,
   ⟨0x120, [], .rwl, 0x0, true, 0xFFFF, 0xFFFF⟩,
   ⟨0x124, [], .ro, 0x0, false, 0x0, 0x0⟩,
   ⟨0x128, [], .rc, 0x0, false, 0x0, 0x0⟩,
   ⟨0x12C, [], .rc, 0x0, false, 0x0, 0x0⟩,
   ⟨0x130, [], .rc, 0x0, false, 0x0, 0x0⟩,
   ⟨0x134, [], .rc, 0x0, false, 0x0, 0x0⟩,
   ⟨0x138, [], .rc, 0x0, false, 0x0, 0x0⟩,
   ⟨0x13C, [], .rc, 0x0, false, 0x0, 0x0⟩,
   ⟨0x140, [], .rc, 0x0, false, 0x0, 0x0⟩,
   ⟨0x144, [], .rc, 0x0, false, 0x0, 0x0⟩,
   ⟨0x148, [], .rw, 0x0, false, 0x8003FFFF, 0x0⟩,
   ⟨0x14C, [], .ro, 0x0, false, 0x0, 0x0⟩,
   ⟨0x1000, [(32, 768)], .rwl, 0x0, true, 0xFFFF0FFF, 0xFFFF0FFF⟩,
   ⟨0x1004, [(32, 768)], .rw, 0x0, true, 0xFFFFFFFF, 0x0⟩,
   ⟨0x1008, [(32, 768)], .rw, 0x0, true, 0xFFFFFFFF, 0x0⟩,
   ⟨0x100C, [(32, 768)], .ro, 0x0, false, 0x0, 0x0⟩,
   ⟨0x1010, [(32, 768)], .ro, 0x0, false, 0x0, 0x0⟩,
   ⟨0x1014, [(32, 768)], .ro, 0x0, false, 0x0, 0x0⟩,
   ⟨0x1018, [(32, 768)], .ro, 0x0, false, 0x0, 0x0⟩,
   ⟨0x101C, [(32, 768)], .ro, 0x0, false, 0x0, 0x0⟩,
   ⟨0x8000, [(16, 768)], .ro, 0x0, false, 0x0, 0x0⟩,
   ⟨0x8004, [(16, 768)], .ro, 0x0, false, 0x0, 0x0⟩,
   ⟨0x8008, [(16, 768)], .ro, 0x0, true, 0x0, 0x0⟩,
   ⟨0x800C, [(16, 768)], .ro, 0x0, false, 0x0, 0x0⟩,
   ⟨0xB000, [(4, 256)], .rwl, 0x0, true, 0xFFFF, 0xFFFF⟩,
   ⟨0xB400, [(4, 768)], .ro, 0x0, false, 0x0, 0x0⟩]

def rowsSCN : List RegRow :=
  [⟨0x4, [], .ro, 0x23104, false, 0x0, 0x0⟩,
   ⟨0x54, [], .ro, 0x0, false, 0x0, 0x0⟩,
   ⟨0x58, [], .ro, 0x0, false, 0x0, 0x0⟩,
   ⟨0x5C, [], .ro, 0x0, false, 0x0, 0x0⟩,
   ⟨0x100, [], .rwl, 0x108, false, 0x1FF, 0x1FF⟩,
   ⟨0x104, [], .ro, 0x0, false, 0x0, 0x0⟩,
   ⟨0x108, [], .ro, 0x0, false, 0x0, 0x0⟩,
   ⟨0x10C, [], .ro, 0x0, false, 0x0, 0x0⟩,
   ⟨0x110, [], .ro, 0x0, false, 0x0, 0x0⟩,
   ⟨0x114, [], .ro, 0x0, false, 0x0, 0x0⟩,
   ⟨0x118, [], .ro, 0x0, false, 0x0, 0x0⟩,
   ⟨0x11C, [], .ro, 0x0, false, 0x0, 0x0⟩,
   ⟨0x120, [], .ro, 0x0, false, 0x0, 0x0⟩,
   ⟨0x124, [], .ro, 0x0, false, 0x0, 0x0⟩,
   ⟨0x128, [], .ro, 0x0, false, 0x0, 0x0⟩,
   ⟨0x12C, [], .ro, 0x0, false, 0x0, 0x0⟩,
   ⟨0x130, [], .ro, 0x0, false, 0x0, 0x0⟩,
   ⟨0x134, [], .rc, 0x0, false, 0x0, 0x0⟩,
   ⟨0x138, [], .rc, 0x0, false, 0x0, 0x0⟩,
   ⟨0x13C, [], .ro, 0x0, false, 0x0, 0x0⟩,
   ⟨0x140, [], .rc, 0x0, false, 0x0, 0x0⟩,
   ⟨0x144, [], .ro, 0x0, false, 0x0, 0x0⟩,
   ⟨0x148, [], .ro, 0x0, false, 0x0, 0x0⟩,
   ⟨0x1000, [(64, 16)], .ro, 0x0, true, 0x0, 0x0⟩,
   ⟨0x1004, [(64, 16)], .rw, 0x1, true, 0xFF0007, 0x0⟩,
   ⟨0x1008, [(64, 16)], .ro, 0x0, true, 0x0, 0x0⟩,
   ⟨0x100C, [(64, 16)], .ro, 0x0, false, 0x0, 0x0⟩,
   ⟨0x1010, [(64, 16)], .ro, 0x0, false, 0x0, 0x0⟩,
   ⟨0x1014, [(64, 16)], .ro, 0x0, false, 0x0, 0x0⟩,
   ⟨0x1018, [(64, 16)], .rc, 0x0, false, 0x0, 0x0⟩,
   ⟨0x101C, [(64, 16)], .rc, 0x0, false, 0x0, 0x0⟩,
   ⟨0x1020, [(64, 16)], .ro, 0x0, false, 0x0, 0x0⟩,
   ⟨0x1024, [(64, 16)], .ro, 0x0, false, 0x0, 0x0⟩,
   ⟨0x1028, [(64, 16)], .rc, 0x0, false, 0x0, 0x0⟩,
   ⟨0x102C, [(64, 16)], .ro, 0x0, false, 0x0, 0x0⟩,
   ⟨0x1030, [(64, 16)], .rc, 0x0, false, 0x0, 0x0⟩,
   ⟨0x1034, [(64, 16)], .ro, 0x0, false, 0x0, 0x0⟩]

def rowsLPE : List RegRow :=
  [⟨0x4, [], .ro, 0x10008460, false, 0x0, 0x0⟩,
   ⟨0x54, [], .ro, 0x0, false, 0x0, 0x0⟩,
   ⟨0x58, [], .ro, 0x0, false, 0x0, 0x0⟩,
   ⟨0x100, [], .ro, 0x0, false, 0x0, 0x0⟩,
   ⟨0x104, [], .rwl, 0x0, true, 0xFFFF, 0xFFFF⟩,
   ⟨0x108, [], .rc, 0x0, false, 0x0, 0x0⟩,
   ⟨0x10C, [], .rc, 0x0, false, 0x0, 0x0⟩,
   ⟨0x110, [], .rc, 0x0, false, 0x0, 0x0⟩,
   ⟨0x114, [], .rc, 0x0, false, 0x0, 0x0⟩,
   ⟨0x118, [], .rc, 0x0, false, 0x0, 0x0⟩,
   ⟨0x1000, [(128, 96)], .rwl, 0x0, true, 0xFFFF000F, 0xFFFF000F⟩,
   ⟨0x1004, [(128, 96)], .rwl, 0x0, true, 0x3FFFFF, 0x3FFFFF⟩,
   ⟨0x1008, [(128, 96)], .rwl, 0x0, true, 0xFFFFFFFF, 0xFFFFFFFF⟩,
   ⟨0x100C, [(128, 96)], .rwl, 0x0, true, 0xFFFFFFFF, 0xFFFFFFFF⟩,
   ⟨0x1010, [(128, 96)], .rwl, 0x0, true, 0xFFFFFFFF, 0xFFFFFFFF⟩,
   ⟨0x1014, [(128, 96)], .rwl, 0x0, true, 0xFFFFFFFF, 0xFFFFFFFF⟩,
   ⟨0x1018, [(128, 96)], .rwl, 0x0, true, 0xFFFFFFFF, 0xFFFFFFFF⟩,
   ⟨0x101C, [(128, 96)], .rwl, 0x0, true, 0xFFFFFFFF, 0xFFFFFFFF⟩,
   ⟨0x1020, [(128, 96)], .rwl, 0x0, true, 0xFFFFFFFF, 0xFFFFFFFF⟩,
   ⟨0x1024, [(128, 96)], .rwl, 0x0, true, 0xFFFFFFFF, 0xFFFFFFFF⟩,
   ⟨0x1028, [(128, 96)], .rw, 0x0, true, 0xFFFFF, 0x0⟩,
   ⟨0x102C, [(128, 96)], .rw, 0x0, true, 0xFFFFF, 0x0⟩,
   ⟨0x1030, [(128, 96)], .rw, 0x0, true, 0xFFFFF, 0x0⟩,
   ⟨0x1034, [(128, 96)], .rw, 0x0, true, 0xFFFF, 0x0⟩,
   ⟨0x1038, [(128, 96)], .rw, 0x0, true, 0xFFFFFFFF, 0x0⟩,
   ⟨0x103C, [(128, 96)], .rw, 0x0, true, 0xFFFFFFFF, 0x0⟩,
   ⟨0x1040, [(128, 96)], .rw, 0x0, true, 0xFFFFFFFF, 0x0⟩,
   ⟨0x1044, [(128, 96)], .rw, 0x0, true, 0xFFFFFFFF, 0x0⟩,
   ⟨0x1048, [(128, 96)], .rw, 0x0, true, 0x7FFFFFFF, 0x0⟩,
   ⟨0x104C, [(128, 96)], .rw, 0x0, true, 0xFFFFFFFF, 0x0⟩,
   ⟨0x1050, [(128, 96)], .rw, 0x0, true, 0xFFFF, 0x0⟩,
   ⟨0x1054, [(128, 96)], .rw, 0x0, true, 0xFFFF, 0x0⟩,
   ⟨0x1058, [(128, 96)], .rw, 0x0, true, 0x3, 0x0⟩,
   ⟨0x105C, [(128, 96)], .ro, 0x0, false, 0x0, 0x0⟩,
   ⟨0x1060, [(128, 96)], .ro, 0x0, false, 0x0, 0x0⟩,
   ⟨0x1064, [(128, 96)], .ro, 0x0, false, 0x0, 0x0⟩,
   ⟨0x1068, [(128, 96)], .ro, 0x0, false, 0x0, 0x0⟩,
   ⟨0x106C, [(128, 96)], .ro, 0x0, false, 0x0, 0x0⟩,
   ⟨0x1070, [(128, 96)], .ro, 0x0, false, 0x0, 0x0⟩,
   ⟨0x1074, [(128, 96)], .ro, 0x0, false, 0x0, 0x0⟩,
   ⟨0x1078, [(128, 96)], .ro, 0x0, false, 0x0, 0x0⟩,
   ⟨0x107C, [(128, 96)], .rc, 0x0, false, 0x0, 0x0⟩,
   ⟨0x5000, [(4, 96)], .ro, 0x0, false, 0x0, 0x0⟩,
   ⟨0x6000, [(16, 8)], .ro, 0x0, false, 0x0, 0x0⟩,
   ⟨0x6004, [(16, 8)], .ro, 0x0, false, 0x0, 0x0⟩,
   ⟨0x6008, [(16, 8)], .ro, 0x0, false, 0x0, 0x0⟩,
   ⟨0x600C, [(16, 8)], .ro, 0x0, false, 0x0, 0x0⟩,
   ⟨0x8000, [(64, 96), (16, 4)], .rw, 0x0, true, 0xFFFFFFFF, 0x0⟩,
   ⟨0x8004, [(64, 96), (16, 4)], .rw, 0x0, true, 0xFFFFFFFF, 0x0⟩,
   ⟨0x8008, [(64, 96), (16, 4)], .rw, 0x0, true, 0x3FFFF, 0x0⟩,
   ⟨0x10000, [(8192, 8), (4, 2048)], .ro, 0x0, false, 0x0, 0x0⟩]

def rowsEMU : List RegRow :=
  [⟨0x4, [], .ro, 0x1810F2, false, 0x0, 0x0⟩,
   ⟨0x54, [], .ro, 0x0, false, 0x0, 0x0⟩,
   ⟨0x58, [], .ro, 0x0, false, 0x0, 0x0⟩,
   ⟨0x5C, [(4, 8)], .ro, 0x0, false, 0x0, 0x0⟩,
   ⟨0x100, [], .rwl, 0x0, true, 0x1FFFFFF, 0x1FFFFFF⟩,
   ⟨0x104, [], .ro, 0x0, false, 0x0, 0x0⟩,
   ⟨0x108, [], .ro, 0x0, false, 0x0, 0x0⟩,
   ⟨0x10C, [], .ro, 0x0, false, 0x0, 0x0⟩,
   ⟨0x110, [], .ro, 0x0, false, 0x0, 0x0⟩,
   ⟨0x114, [], .ro, 0x0, false, 0x0, 0x0⟩,
   ⟨0x118, [], .ro, 0x0, false, 0x0, 0x0⟩,
   ⟨0x11C, [], .rc, 0x0, false, 0x0, 0x0⟩,
   ⟨0x120, [], .rc, 0x0, false, 0x0, 0x0⟩,
   ⟨0x124, [], .rwl, 0x0, true, 0xFFFF, 0xFFFF⟩,
   ⟨0x128, [], .rc, 0x0, false, 0x0, 0x0⟩,
   ⟨0x1000, [(4096, 2)], .rwl, 0x0, true, 0xFFFF00FF, 0xFFFF00FF⟩,
   ⟨0x1004, [(4096, 2)], .ro, 0x0, false, 0x0, 0x0⟩,
   ⟨0x1008, [(4096, 2)], .ro, 0x0, false, 0x0, 0x0⟩,
   ⟨0x100C, [(4096, 2)], .ro, 0x0, false, 0x0, 0x0⟩,
   ⟨0x1100, [(4096, 2), (16, 7)], .rwl, 0x0, true, 0x7, 0x7⟩,
   ⟨0x1104, [(4096, 2), (16, 7)], .ro, 0x0, true, 0x0, 0x0⟩,
   ⟨0x1108, [(4096, 2), (16, 7)], .ro, 0x0, true, 0x0, 0x0⟩,
   ⟨0x110C, [(4096, 2), (16, 7)], .ro, 0x0, true, 0x0, 0x0⟩,
   ⟨0x1200, [(4096, 2), (32, 3), (4, 8)], .ro, 0x0, false, 0x0, 0x0⟩,
   ⟨0x1260, [(4096, 2), (4, 8)], .ro, 0x0, false, 0x0, 0x0⟩,
   ⟨0x1300, [(4096, 2), (64, 4), (8, 6)], .ro, 0x0, false, 0x0, 0x0⟩,
   ⟨0x1304, [(4096, 2), (64, 4), (8, 6)], .ro, 0x0, false, 0x0, 0x0⟩,
   ⟨0x1400, [(4096, 2), (64, 7), (4, 15)], .ro, 0x0, false, 0x0, 0x0⟩,
   ⟨0x4000, [(32, 16)], .rwl, 0x0, true, 0xFF0F, 0xFF0F⟩,
   ⟨0x4004, [(32, 16)], .rwl, 0x0, true, 0xFFFFFFFF, 0xFFFFFFFF⟩,
   ⟨0x4008, [(32, 16)], .ro, 0x0, false, 0x0, 0x0⟩,
   ⟨0x400C, [(32, 16)], .ro, 0x0, false, 0x0, 0x0⟩,
   ⟨0x4010, [(32, 16)], .ro, 0x0, false, 0x0, 0x0⟩,
   ⟨0x4014, [(32, 16)], .ro, 0x0, false, 0x0, 0x0⟩,
   ⟨0x5000, [(16, 8)], .ro, 0x0, true, 0x0, 0x0⟩,
   ⟨0x5004, [(16, 8)], .ro, 0x0, true, 0x0, 0x0⟩,
   ⟨0x5008, [(16, 8)], .ro, 0x0, false, 0x0, 0x0⟩,
   ⟨0x500C, [(16, 8)], .ro, 0x0, false, 0x0, 0x0⟩,
   ⟨0x6000, [(16, 256)], .rwl, 0x0, true, 0xFFFFFFFF, 0xFFFFFFFF⟩,
   ⟨0x6004, [(16, 256)], .rwl, 0x0, true, 0xFFFFFFFF, 0xFFFFFFFF⟩,
   ⟨0x6008, [(16, 256)], .rwl, 0x0, true, 0x77, 0x77⟩,
   ⟨0x7000, [(4, 16)], .ro, 0x0, false, 0x0, 0x0⟩]

def rowsSTO : List RegRow :=
  [⟨0x4, [], .ro, 0x70242, false, 0x0, 0x0⟩,
   ⟨0x54, [], .ro, 0x0, false, 0x0, 0x0⟩,
   ⟨0x58, [], .ro, 0x0, false, 0x0, 0x0⟩,
   ⟨0x5C, [], .ro, 0x0, false, 0x0, 0x0⟩,
   ⟨0x60, [], .ro, 0x0, false, 0x0, 0x0⟩,
   ⟨0x100, [], .rwl, 0x0, true, 0x1F1FFF01, 0x1F1FFF01⟩,
   ⟨0x104, [], .ro, 0x0, false, 0x0, 0x0⟩,
   ⟨0x108, [], .ro, 0x0, false, 0x0, 0x0⟩,
   ⟨0x10C, [], .ro, 0x0, false, 0x0, 0x0⟩,
   ⟨0x110, [], .ro, 0x0, false, 0x0, 0x0⟩,
   ⟨0x114, [], .ro, 0x0, false, 0x0, 0x0⟩,
   ⟨0x118, [], .rc, 0x0, false, 0x0, 0x0⟩,
   ⟨0x11C, [], .rc, 0x0, false, 0x0, 0x0⟩,
   ⟨0x120, [], .rc, 0x0, false, 0x0, 0x0⟩,
   ⟨0x124, [], .rc, 0x0, false, 0x0, 0x0⟩,
   ⟨0x128, [], .rc, 0x0, false, 0x0, 0x0⟩,
   ⟨0x12C, [], .ro, 0x0, false, 0x0, 0x0⟩,
   ⟨0x130, [], .rc, 0x0, false, 0x0, 0x0⟩,
   ⟨0x134, [], .rc, 0x0, false, 0x0, 0x0⟩,
   ⟨0x138, [], .ro, 0x0, false, 0x0, 0x0⟩,
   ⟨0x200, [(64, 2)], .ro, 0x0, false, 0x0, 0x0⟩,
   ⟨0x204, [(64, 2)], .ro, 0x0, false, 0x0, 0x0⟩,
   ⟨0x208, [(64, 2)], .ro, 0x0, false, 0x0, 0x0⟩,
   ⟨0x20C, [(64, 2)], .ro, 0x0, false, 0x0, 0x0⟩,
   ⟨0x210, [(64, 2)], .ro, 0x0, false, 0x0, 0x0⟩,
   ⟨0x214, [(64, 2)], .ro, 0x0, false, 0x0, 0x0⟩,
   ⟨0x218, [(64, 2)], .ro, 0x0, false, 0x0, 0x0⟩,
   ⟨0x21C, [(64, 2)], .ro, 0x0, true, 0x0, 0x0⟩,
   ⟨0x400, [(32, 5)], .ro, 0x0, false, 0x0, 0x0⟩,
   ⟨0x404, [(32, 5)], .ro, 0x0, false, 0x0, 0x0⟩,
   ⟨0x408, [(32, 5)], .ro, 0x0, false, 0x0, 0x0⟩,
   ⟨0x40C, [(32, 5)], .ro, 0x0, false, 0x0, 0x0⟩,
   ⟨0x1000, [(256, 2)], .ro, 0x0, true, 0x0, 0x0⟩,
   ⟨0x1004, [(256, 2)], .ro, 0x0, false, 0x0, 0x0⟩,
   ⟨0x1020, [(256, 2), (16, 8)], .ro, 0x0, false, 0x0, 0x0⟩,
   ⟨0x1024, [(256, 2), (16, 8)], .ro, 0x0, false, 0x0, 0x0⟩,
   ⟨0x1028, [(256, 2), (16, 8)], .ro, 0x0, false, 0x0, 0x0⟩,
   ⟨0x102C, [(256, 2), (16, 8)], .ro, 0x0, false, 0x0, 0x0⟩]

def rowsHLK : List RegRow :=
  [⟨0x4, [], .ro, 0x1C0040, false, 0x0, 0x0⟩,
   ⟨0x54, [], .ro, 0x0, false, 0x0, 0x0⟩,
   ⟨0x58, [], .ro, 0x0, false, 0x0, 0x0⟩,
   ⟨0x5C, [], .ro, 0x0, false, 0x0, 0x0⟩,
   ⟨0x100, [], .rwl, 0x0, true, 0x7F3FFFFF, 0x7F3FFFFF⟩,
   ⟨0x104, [], .ro, 0x0, false, 0x0, 0x0⟩,
   ⟨0x108, [], .ro, 0x0, false, 0x0, 0x0⟩,
   ⟨0x10C, [], .ro, 0x0, false, 0x0, 0x0⟩,
   ⟨0x110, [], .ro, 0x0, false, 0x0, 0x0⟩,
   ⟨0x114, [], .rwl, 0x532140A, false, 0xFFFFFFFF, 0xFFFFFFFF⟩,
   ⟨0x118, [], .rwl, 0x0, true, 0xFFFFFFFF, 0xFFFFFFFF⟩,
   ⟨0x11C, [], .rc, 0x0, false, 0x0, 0x0⟩,
   ⟨0x120, [], .rc, 0x0, false, 0x0, 0x0⟩,
   ⟨0x124, [], .rc, 0x0, false, 0x0, 0x0⟩,
   ⟨0x128, [], .rc, 0x0, false, 0x0, 0x0⟩,
   ⟨0x12C, [], .ro, 0x0, false, 0x0, 0x0⟩,
   ⟨0x130, [], .ro, 0x0, false, 0x0, 0x0⟩,
   ⟨0x1000, [(32, 64)], .ro, 0x0, false, 0x0, 0x0⟩,
   ⟨0x1004, [(32, 64)], .ro, 0x0, true, 0x0, 0x0⟩,
   ⟨0x1008, [(32, 64)], .ro, 0x0, true, 0x0, 0x0⟩,
   ⟨0x100C, [(32, 64)], .ro, 0xFFFF, false, 0x0, 0x0⟩,
   ⟨0x1010, [(32, 64)], .ro, 0x0, false, 0x0, 0x0⟩,
   ⟨0x1014, [(32, 64)], .ro, 0x0, false, 0x0, 0x0⟩,
   ⟨0x1018, [(32, 64)], .ro, 0x0, false, 0x0, 0x0⟩,
   ⟨0x4000, [(16, 1024)], .ro, 0x0, false, 0x0, 0x0⟩,
   ⟨0x4004, [(16, 1024)], .ro, 0x0, false, 0x0, 0x0⟩,
   ⟨0x4008, [(16, 1024)], .ro, 0x0, false, 0x0, 0x0⟩,
   ⟨0x400C, [(16, 1024)], .ro, 0x0, false, 0x0, 0x0⟩]

def rowsFBC : List RegRow :=
  [⟨0x4, [], .ro, 0x5070404, false, 0x0, 0x0⟩,
   ⟨0x54, [], .ro, 0x0, false, 0x0, 0x0⟩,
   ⟨0x58, [], .ro, 0x0, false, 0x0, 0x0⟩,
   ⟨0x1000, [(4096, 4)], .rwl, 0x0, true, 0x7F7F7FFF, 0x7F7F7FFF⟩,
   ⟨0x1004, [(4096, 4)], .rw, 0x0, false, 0x1, 0x0⟩,
   ⟨0x1008, [(4096, 4)], .ro, 0x0, false, 0x0, 0x0⟩,
   ⟨0x100C, [(4096, 4)], .ro, 0x0, false, 0x0, 0x0⟩,
   ⟨0x1010, [(4096, 4)], .rwl, 0x0, true, 0xFFFF7F07, 0xFFFF7F07⟩,
   ⟨0x1014, [(4096, 4)], .rwl, 0x0, true, 0xFFFFFFFF, 0xFFFFFFFF⟩,
   ⟨0x1018, [(4096, 4)], .rwl, 0x0, true, 0x7FF, 0x7FF⟩,
   ⟨0x101C, [(4096, 4)], .rwl, 0x0, true, 0x3FFFFFFF, 0x3FFFFFFF⟩,
   ⟨0x1020, [(4096, 4)], .rwl, 0x0, true, 0x1FFFFFFF, 0x1FFFFFFF⟩,
   ⟨0x1024, [(4096, 4)], .ro, 0x0, false, 0x0, 0x0⟩,
   ⟨0x1028, [(4096, 4)], .rc, 0x0, false, 0x0, 0x0⟩,
   ⟨0x102C, [(4096, 4)], .rc, 0x0, false, 0x0, 0x0⟩,
   ⟨0x1030, [(4096, 4)], .rc, 0x0, false, 0x0, 0x0⟩,
   ⟨0x1034, [(4096, 4)], .rc, 0x0, false, 0x0, 0x0⟩,
   ⟨0x1038, [(4096, 4)], .rc, 0x0, false, 0x0, 0x0⟩,
   ⟨0x103C, [(4096, 4)], .rc, 0x0, false, 0x0, 0x0⟩,
   ⟨0x1040, [(4096, 4)], .ro, 0x0, false, 0x0, 0x0⟩,
   ⟨0x1044, [(4096, 4)], .ro, 0x0, false, 0x0, 0x0⟩,
   ⟨0x1048, [(4096, 4)], .ro, 0x0, false, 0x0, 0x0⟩,
   ⟨0x1050, [(4096, 4), (4, 16)], .ro, 0x0, false, 0x0, 0x0⟩,
   ⟨0x10000, [(8192, 4), (128, 64)], .rwl, 0x0, true, 0x1FFF, 0x1FFF⟩,
   ⟨0x10004, [(8192, 4), (128, 64)], .rwl, 0x0, true, 0x1FFFFFFF, 0x1FFFFFFF⟩,
   ⟨0x10008, [(8192, 4), (128, 64)], .ro, 0x0, false, 0x0, 0x0⟩,
   ⟨0x1000C, [(8192, 4), (128, 64)], .ro, 0x0, false, 0x0, 0x0⟩,
   ⟨0x10010, [(8192, 4), (128, 64), (4, 16)], .ro, 0x0, false, 0x0, 0x0⟩,
   ⟨0x20000, [(8192, 4), (256, 16), (4, 64)], .rwl, 0x0, true, 0xFF, 0xFF⟩,
   ⟨0x21000, [(8192, 4), (4, 64)], .rwl, 0x0, true, 0xFFFF, 0xFFFF⟩,
   ⟨0x30000, [(1024, 4), (32, 32)], .rwl, 0x0, true, 0xFFFFFFFF, 0xFFFFFFFF⟩,
   ⟨0x30004, [(1024, 4), (32, 32)], .ro, 0x0, false, 0x0, 0x0⟩]

def rowsDIO : List RegRow :=
  [⟨0x4, [], .ro, 0x61018, false, 0x0, 0x0⟩,
   ⟨0x54, [], .ro, 0x0, false, 0x0, 0x0⟩,
   ⟨0x58, [], .ro, 0x0, false, 0x0, 0x0⟩,
   ⟨0x5C, [], .ro, 0x0, false, 0x0, 0x0⟩,
   ⟨0x100, [], .ro, 0x0, false, 0x0, 0x0⟩,
   ⟨0x104, [], .ro, 0x0, false, 0x0, 0x0⟩,
   ⟨0x108, [], .ro, 0x0, false, 0x0, 0x0⟩,
   ⟨0x10C, [], .rwl, 0x0, true, 0x1, 0x1⟩,
   ⟨0x110, [], .rwl, 0x0, true, 0x7FF, 0x7FF⟩,
   ⟨0x114, [], .wo, 0x0, false, 0xFFFFFFFF, 0x0⟩,
   ⟨0x118, [], .rwl, 0x0, true, 0xFFFF, 0xFFFF⟩,
   ⟨0x11C, [], .ro, 0x0, false, 0x0, 0x0⟩,
   ⟨0x120, [], .ro, 0x0, false, 0x0, 0x0⟩,
   ⟨0x124, [], .rc, 0x0, false, 0x0, 0x0⟩,
   ⟨0x200, [(4, 6)], .rwl, 0x0, true, 0x73, 0x73⟩,
   ⟨0x1000, [(32, 24)], .rwl, 0x0, true, 0x7F, 0x7F⟩,
   ⟨0x1004, [(32, 24)], .ro, 0x0, false, 0x0, 0x0⟩,
   ⟨0x1008, [(32, 24)], .rwl, 0x0, true, 0x3FF, 0x3FF⟩,
   ⟨0x100C, [(32, 24)], .rwl, 0x0, true, 0x3FFFF, 0x3FFFF⟩,
   ⟨0x1010, [(32, 24)], .ro, 0x0, false, 0x0, 0x0⟩,
   ⟨0x1014, [(32, 24)], .ro, 0x0, false, 0x0, 0x0⟩,
   ⟨0x1018, [(32, 24)], .ro, 0x0, false, 0x0, 0x0⟩,
   ⟨0x2000, [(16, 16)], .rwl, 0x0, true, 0xFF3FF7, 0xFF3FF7⟩,
   ⟨0x2004, [(16, 16)], .ro, 0x0, false, 0x0, 0x0⟩]

def rowsKEY : List RegRow :=
  [⟨0x4, [], .ro, 0x200010, false, 0x0, 0x0⟩,
   ⟨0x54, [], .ro, 0x0, false, 0x0, 0x0⟩,
   ⟨0x100, [], .ro, 0x0, false, 0x0, 0x0⟩,
   ⟨0x104, [], .ro, 0x0, false, 0x0, 0x0⟩,
   ⟨0x108, [], .ro, 0x0, false, 0x0, 0x0⟩,
   ⟨0x10C, [], .ro, 0x0, false, 0x0, 0x0⟩,
   ⟨0x110, [], .ro, 0x0, false, 0x0, 0x0⟩,
   ⟨0x114, [], .rc, 0x0, false, 0x0, 0x0⟩,
   ⟨0x118, [], .ro, 0x0, false, 0x0, 0x0⟩,
   ⟨0x11C, [], .rc, 0x0, false, 0x0, 0x0⟩,
   ⟨0x1000, [(16, 16)], .ro, 0x0, false, 0x0, 0x0⟩,
   ⟨0x1004, [(16, 16)], .ro, 0x0, false, 0x0, 0x0⟩,
   ⟨0x1008, [(16, 16)], .ro, 0x0, false, 0x0, 0x0⟩,
   ⟨0x2000, [(4, 16)], .ro, 0x0, false, 0x0, 0x0⟩]

def rowsTEN : List RegRow :=
  [⟨0x4, [], .ro, 0x400100, false, 0x0, 0x0⟩,
   ⟨0x54, [], .ro, 0x0, false, 0x0, 0x0⟩,
   ⟨0x100, [], .ro, 0x0, false, 0x0, 0x0⟩,
   ⟨0x104, [], .rc, 0x0, false, 0x0, 0x0⟩,
   ⟨0x108, [], .rc, 0x0, false, 0x0, 0x0⟩,
   ⟨0x10C, [], .rc, 0x0, false, 0x0, 0x0⟩,
   ⟨0x110, [], .ro, 0x0, false, 0x0, 0x0⟩,
   ⟨0x1000, [(32, 256)], .rwl, 0x0, true, 0xFFFF003F, 0xFFFF003F⟩,
   ⟨0x1004, [(32, 256)], .rwl, 0x0, true, 0xFFFFFFFF, 0xFFFFFFFF⟩,
   ⟨0x1008, [(32, 256)], .ro, 0x0, false, 0x0, 0x0⟩,
   ⟨0x100C, [(32, 256)], .ro, 0x0, false, 0x0, 0x0⟩,
   ⟨0x1010, [(32, 256)], .ro, 0x0, false, 0x0, 0x0⟩,
   ⟨0x1014, [(32, 256)], .rc, 0x0, false, 0x0, 0x0⟩,
   ⟨0x1018, [(32, 256)], .rc, 0x0, false, 0x0, 0x0⟩,
   ⟨0x101C, [(32, 256)], .ro, 0x0, false, 0x0, 0x0⟩,
   ⟨0x20000, [(512, 256), (8, 64)], .rwl, 0x0, true, 0xFFFFFFFF, 0xFFFFFFFF⟩,
   ⟨0x20004, [(512, 256), (8, 64)], .rwl, 0x0, true, 0x80000007, 0x80000007⟩]

/-- The block-specific rows of block `b`. -/
def blockRows (b : Nat) : List RegRow :=
  match b with
  | 1 => rowsSUP
  | 2 => rowsHIF ++ rowsMsix
  | 3 => rowsOPT
  | 4 => rowsLAT
  | 5 => rowsNTU
  | 6 => rowsRTC
  | 7 => rowsFAB
  | 8 => rowsPSE
  | 9 => rowsARB
  | 10 => rowsLCP
  | 11 => rowsSCN
  | 12 => rowsLPE
  | 13 => rowsEMU
  | 14 => rowsSTO
  | 15 => rowsHLK
  | 16 => rowsFBC
  | 17 => rowsDIO
  | 18 => rowsKEY
  | 19 => rowsTEN
  | _ => []

/-- Whether `rem` is an instance offset of the (stride, count) pairs, from the widest stride down. -/
def dimsFit (dims : List (Nat × Nat)) (rem : Nat) : Bool :=
  match dims with
  | [] => rem == 0
  | (s, n) :: r => decide (rem / s < n) && dimsFit r (rem % s)

/-- Whether the row gives the register at offset `o` of its block's window. -/
def RegRow.fits (r : RegRow) (o : Nat) : Bool :=
  decide (r.base ≤ o) && dimsFit r.dims (o - r.base)

/-- The row of the register at BAR0 offset `off`, if a block implements it (R30, R31). -/
def regRow? (off : Nat) : Option RegRow :=
  let b := off / 0x40000
  let o := off % 0x40000
  if b = 0 ∨ 19 < b then none
  else if o < 0x100 then
    match (blockRows b).find? (fun r => decide (r.base < 0x100) && r.fits o) with
    | some r => some r
    | none => rowsPage0.find? (fun r => r.fits o)
  else (blockRows b).find? (fun r => r.fits o)

/-- ID.INSTANCES of each block (R30). -/
def blockInstances (b : Nat) : Nat :=
  match b with
  | 3 => 512 | 4 => 4096 | 5 => 4 | 7 => 50 | 8 => 48 | 9 => 2 | 10 => 768 | 11 => 16 | 12 => 96 | 13 => 2
  | 14 => 2 | 15 => 64 | 16 => 4 | 17 => 24 | 18 => 16 | 19 => 256 | _ => 1

/-- The reset value of the register at `off` as the register tables give it; 0 where the image, the backup domain,
OTP or a start supplies the value (log entries 3 and 4). -/
def regReset (off : Nat) : Word :=
  let b := off / 0x40000
  let o := off % 0x40000
  if o = 0 then BitVec.ofNat 32 (b * 0x1000000 + 0x20000 + blockInstances b)
  else if b = 2 ∧ 0x1C4 ≤ o ∧ o ≤ 0x20C then BitVec.ofNat 32 (15 + (o - 0x1C0) / 4)
  else if b = 2 ∧ 0x2000 ≤ o ∧ o < 0x2100 ∧ o % 0x20 = 8 then
    BitVec.ofNat 32 (0x100 + ((o - 0x2000) / 0x20) * 0x1000000)
  else match regRow? off with
    | some r => BitVec.ofNat 32 r.reset
    | none => 0

end Sys2Proof.Machine
end

