-- ==== Sys2Proof/Machine/TypesLpe.lean ====
section
/-! DEFINITION. State types of LPE beside its registers (chapter 10). Plain data. -/

namespace Sys2Proof.Machine

/-- A biquad section's state (R315). -/
structure BqState where
  x1 : Int
  x2 : Int
  y1 : Int
  y2 : Int
deriving DecidableEq, Repr

/-- A loop beside its registers: the mode in force, whether it enters anew (after EN, a return from standby or a soft
reset: its first sample takes the present output from the OUT point, R318, R328, R329), the chainage of the last
sample, u, INT, D and the previous PV (R313, R314; no previous PV after EN, OFF, HOLD or FALLBACK), the last value
written to OUT (R306), the sections' coefficients in force and their states (R315), the request taken from the MODE
point and that point's stamp, whether a request was written since the last sample (R325), the band and travel of
R322, the count of following errors (R323), the samples since the entry to HOLD and the valid ones in a row (R324,
R325), KP before a bumpless tuning (R330), and the SYS cycle of the last mode request with the request and the mark before it
(R320). -/
structure LoopX where
  mode : Nat
  entry : Bool
  lastCh : Option Nat
  u : Int
  int : Int
  d : Int
  pvPrev : Option Int
  lastPv : Int
  lastOut : Option Int
  coef : List (Word × Word × Word)
  bq : List (Option BqState)
  mReq : Nat
  mStamp : Word
  newReq : Bool
  pv0 : Option Int
  travel : Nat
  frozen : Bool
  pvFrz : Int
  fe : Bool
  feCnt : Nat
  cause : Nat
  holdCnt : Nat
  resCnt : Nat
  resumed : Bool
  bump : Option Word
  asked : Option (Nat × Nat × Bool)
deriving DecidableEq, Repr

/-- A loop that has not sampled. -/
def LoopX.fresh : LoopX :=
  ⟨0, true, none, 0, 0, 0, none, 0, none, [], [none, none, none, none], 0, 0, false, none, 0, false, 0, false, 0, 0, 0, 0,
   false, none, none⟩

/-- A trace buffer beside its registers (R327): loop samples until the next traced one, the trace points wanted after the
trigger, and those still to be recorded once triggered. -/
structure TraceX where
  wait : Nat
  want : Nat
  post : Option Nat
deriving DecidableEq, Repr

/-- LPE beside its registers; `slotCh` and `slotN` count the loops sampled at the present chainage (R331 SLOT_MAX). -/
structure Lpe where
  loops : Tbl LoopX
  traces : Tbl TraceX
  slotCh : Nat
  slotN : Nat
deriving DecidableEq, Repr

/-- LPE before its first sample. -/
def Lpe.fresh : Lpe := ⟨[], [], 0, 0⟩

end Sys2Proof.Machine
end

