-- ==== Sys2Proof/Machine/TypesSup.lean ====
section
/-! DEFINITION. State types of SUP, KEY and TEN (chapters 18 and 19) beside their registers, and the configuration
image as the start takes it. Plain data. -/

namespace Sys2Proof.Machine

/-- A start record of MRAM (R580). -/
structure StartRec where
  start : Nat
  cycles : Nat
  rtcSec : Nat
  endCode : Nat
  reason : Nat
  count : Nat
  flags : Nat
  detail : Word
  detail2 : Word
  confirmMs : Nat
deriving DecidableEq, Repr

/-- What SUP keeps in MRAM and backup RAM across starts (R568, R574, R577, R578, R580): the counter bytes, whether the backup
RAM's copy of them is lost, the life record (start number, end code, whether the life was confirmed, the PFAIL record's
chainage, TB0 and RTC seconds, the clock of the last PFAIL, the duration of the last commit, the latest progress stamp, and
whether a start has closed that life (R83, R577)), whether the commit store was never written since its FORMAT, and the start
records, newest first. -/
structure StartMem where
  count : Nat
  reason : Nat
  minReason : Nat
  previousReq : Bool
  minimalReq : Bool
  lastConfirmed : Bool
  startNum : Nat
  bkpBad : Bool
  endCode : Nat
  pfailCh : Nat
  pfailSec : Nat
  pfailNs : Nat
  pfailRtc : Nat
  pfailClk : Option Nat
  commitUs : Nat
  progCycle : Nat
  progRtc : Nat
  formatted : Bool
  closed : Bool
  records : List StartRec
deriving DecidableEq, Repr

/-- SUP's running values: whether the module is held in reset (R570) and whether no operation begins any more (R87, R566), the
commit of a life that has ended and is still to be written (R568), the clock of reset release and the RTC seconds then,
whether service core 0 runs (core 1's state is ARB's `coreDown`) and the times of both cores' watchdog expiries (R24, R26),
the straps sampled (R570), the firmware words of a host load and the clock since which the loader waits for one (R572), the
cycle of the last fault or watchdog restart of this life (R575), the chainage, TB0 seconds and ns of the last Survey with the
SYS cycle in which it was raised and that in which BUSY cleared (R582), the clocks of the interval timers (R584), of the last
test of the hold-up bank (R599) and of the last progress stamp (R574), the SYS cycle of the last event of the start sequence
(R28), the IMAGE_ID and VERSION of the configuration image in use, if one is (R573), what failed at step 3 of the start, the
blocks that have not been enabled since the start or their soft reset, the claims of the image in its order (R68), the scan
bank it names as active (R299), and what MRAM holds. -/
structure Sup where
  inReset : Bool
  pfail : Bool
  commitDue : Bool
  releaseClk : Nat
  releaseSec : Nat
  core0Up : Bool
  wdt0 : List Nat
  wdt1 : List Nat
  roleStrap : Nat
  bootSrc : Nat
  moduleNum : Nat
  bootWords : List Word
  bootWait : Option Nat
  cleanCycle : Nat
  surveyCh : Nat
  surveySec : Nat
  surveyNs : Nat
  surveyClk : Option Nat
  surveyEndClk : Option Nat
  gtClk : Tbl Nat
  holdClk : Option Nat
  progClk : Nat
  eventClk : Option Nat
  imgId : Nat
  imgVer : Nat
  imgOk : Bool
  fwFail : Bool
  initDue : List Nat
  imgClaims : List Claim
  imgBankB : Bool
  nv : StartMem
deriving DecidableEq, Repr

/-- A calendar value in UTC (R521). -/
structure Cal where
  sec : Nat
  min : Nat
  hour : Nat
  day : Nat
  month : Nat
  year : Nat
deriving DecidableEq, Repr

/-- The calendar after a power-up of the backup domain (R529). -/
def Cal.first : Cal := ⟨0, 0, 0, 1, 1, 2000⟩

/-- The RTC beside its registers: the calendar and the prescaler's count of 1/32,768 s at the last event that told it
(R523), the pending copy while HALT = 1 (R524), the frozen shadows with their SUBSEC and the clock of the freeze
(R526), the trim in force in the present window (R527), the measurement window under way (its TRIM_SRC and the reference's
count at its start, R528), and the RTC's own time, in 1/32,768 s, of the last wake or of the start of the wake counter
(R531). -/
structure Rtc where
  cal : Cal
  presc : Nat
  pend : Option Cal
  shadow : Option (Cal × Nat × Nat)
  trimNow : Int
  window : Option (Nat × Nat)
  wakeAt : Int
deriving DecidableEq, Repr

/-- KEY's own record, blob 0 (R548): attributes, generations and secrets of the installed slots, the storage data key
and the image floors. -/
structure KeyRec where
  attrs : Tbl Word
  gens : Tbl Nat
  secrets : Tbl (BitVec 512)
  storeKey : BitVec 256
  floors : Tbl Nat
deriving DecidableEq, Repr

/-- KEY beside its registers (R536 to R549): its record and the tenant blobs as they stand in this life, the copies that
storage holds, what an operation's open write will make of them (by tag), the cache of contexts from the least recently used,
the contexts whose miss is being served, a pending record of a transition with its target state and what is carried (R544),
and the OTP's state, rows left and epoch. `pufDead`: the helper data are blown (R543). -/
structure Key where
  record : KeyRec
  blobs : Tbl KeyBlob
  storedRecord : KeyRec
  storedBlobs : Tbl KeyBlob
  writes : List (Nat × KeyRec)
  blobWrites : List (Nat × Nat × Option KeyBlob)
  cache : List Nat
  missing : List Nat
  pendingRecord : Option (Nat × Option (KeyRec × Tbl KeyBlob))
  otpState : Nat
  otpLeft : Nat
  otpEpoch : Nat
  pufDead : Bool
deriving DecidableEq, Repr

/-- TEN beside its registers: tokens taken from each context's bucket (R553), nonce counters (R557), contexts whose
raised reservation is being written, SEAL_READ operations that wait with their point indices and the key they began with
(R549), the session ends in SYS cycles, and the clock of each bucket's last refill. -/
structure Ten where
  spent : Tbl Nat
  nonce : Tbl Nat
  raising : List Nat
  sealTags : List (Nat × List Nat × Option KeyBlob)
  sessionEnd : Tbl Nat
  refilled : Tbl Nat
deriving DecidableEq, Repr

end Sys2Proof.Machine
end

