-- ==== Sys2Proof/Machine/State.lean ====
section
/-! DEFINITION. The state of the module as plain data, the reasons a command can stop, and the state after reset. -/

namespace Sys2Proof.Machine

/-- What waits for the end of its SYS cycle, for a rule lets what coincides with it go first (R28, R52, R67, R78, R88, R118,
R147): a host's register write or read, or a command, by its operands. -/
inductive Late where
  | write (rq : Requester) (off : Nat) (val : Word)
  | read (rq : Requester) (off : Nat)
  | spiRead (off : Nat) (words : SpiSpan) (count : Nat)
  | claim (tag : Nat)
  | stakeSet (tag : Nat)
  | stakeModify (tag : Nat)
  | stakeClear (tag : Nat)
  | stakeClearOwner (tag : Nat)
  | confirmTimeout
  | modeSet (tag : Nat)
  | cancel (tag : Nat)
  | opTimeout (tag : Nat)
  | refLoss
  | timebaseNoRef
  | acquireTimeout
  | holdoverEnd
  | fastCut (port pairset : Nat)
  | overloadCut (port pairset : Nat)
  | limitCut (port pairset : Nat)
  | mpsLoss (port pairset : Nat)
  | inrushEnd (port : Nat)
  | dieTemp (die : Nat) (temp : Int)
  | vpseUvCut (mv : Nat)
  | vpseOvCut (mv : Nat)
  | vpseRev
  | portOff (tag : Nat)
  | portCycle (tag : Nat)
  | portCommand (port : Nat)
  | softTimeout (pool : Nat)
  | hardRecheck (pool : Nat)
  | acceptTimeout (entry seq : Nat)
  | bindingTimeout (entry : Nat)
  | luminaireLoss (entry : Nat)
  | grantEvaluation
  | nandProgramDone (job : Nat) (pass : Bool)
  | nandReadDone (job : Nat) (corrected : List Nat) (soft : Bool) (result : ReadEnd)
  | trendFlush (cls channel : Nat)
  | scrubDue (block : Nat)
  | relocation (block : Nat)
  | staticWearLevel (pool : Nat)
  | garbageCollect (pool : Nat)
  | replicaSync
  | heartbeatRx (hdr : LinkHdr) (fields : List Nat)
  | rtxTimer (member : Nat)
  | ack (hdr : LinkHdr)
  | joinRetry
  | takeoverDecide
  | takeoverWaitExpire
  | pointUpdate (hdr : LinkHdr) (fields : List Nat)
  | pointAck (hdr : LinkHdr) (fields : List Nat)
  | replicaAck (hdr : LinkHdr) (fields : List Nat)
  | exportSetSend (set unit dst : Nat)
  | importStale (src set : Nat)
  | placeAll
  | checkpointTake (unit : Nat)
  | moveTimeout (unit : Nat)
  | keyCacheLoad (ctx : Nat)
  | taskStartTick (task : Nat)
  | taskTrigger (tag : Nat)
  | loopSample (loop : Nat)
  | loopTune (tag : Nat)
  | cycleBoundary (harmonics : List (List Nat))
  | pulseRateTimeout (input : Nat)
  | memberLoss (member : Nat)
  | isolation
  | lpiEnter (port : Nat)
  | fabFrameTx (tag : Nat) (data : List Byte)
  | ptpSyncTx (base port : Nat)
  | ptpDelayReqTx (base : Nat)
  | ptpHoldover (base : Nat)
  | ntuPgEnable (tag : Nat)
  | emuPgEnable (tag : Nat)
  | timerSet (tag : Nat)
  | nodeLoss (channel node : Nat)
  | canFrameRx (channel ident : Nat) (xtd fdf brs esi remote : Bool) (data : List Byte) (sof : Nat)
  | logicWdt
  | rtcShadowTimeout
  | tenantImport (tag : Nat) (blob : List Byte)
deriving DecidableEq, Repr

/-- The module. Commands that wait in the queue together fall in one SYS cycle; `late` holds those of them that give way
to the others, with their rank (log entry 1), and `coreWait` what waits for a service core that restarts (R24). Registers
stand in `regs` at their BAR0 offset, an unlisted one reading its reset value (`regReset`); `loPend` holds written _LO words
whose _HI is still to come, `loLatch` and `latch` what reads have latched (R33, R131); `image` holds what the configuration
image in force gives the registers marked Image; `notes` holds the point writes of the present SYS cycle (R12). -/
structure State where
  pending : List Instr
  late : List (Nat × Late)
  coreWait : List (Nat × Late)
  clk : Nat
  free : Nat
  out : List Output
  regs : Tbl Word
  image : Tbl Word
  latch : Tbl Word
  loLatch : Tbl Word
  loPend : Tbl Word
  errDetail : Tbl Word
  claims : List Claim
  points : Tbl Point
  notes : List PointNote
  opt : Opt
  hif : Hif
  lat : Lat
  sup : Sup
  key : Key
  ten : Ten
  tbs : List TimeBase
  fab : Fab
  ntu : Ntu
  pse : Pse
  arb : Arb
  lcp : Lcp
  dio : Dio
  scn : Scn
  hlk : Hlk
  fbc : Fbc
  rtc : Rtc
  lpe : Lpe
  emu : Emu
  sto : Sto
deriving DecidableEq, Repr

/-- Why the module could stop. Nothing in the spec stops it: every error is a status code, a counter or a restart
(R15, R31, R77), so no meaning raises this; it stands for a state the spec rules out. Safe. -/
inductive Fault where
  /-- Raised by no meaning. Safe: a run that reached it would stop. -/
  | impossible
deriving DecidableEq, Repr

/-- Why a command has no next state. -/
inductive Refusal where
  /-- The command has no meaning yet; raised by exec's arms alone. Safe: the run stops. -/
  | notModelled (mnemonic : String)
deriving DecidableEq, Repr

/-- SUP's memory of earlier lives when there was none: the commit store is freshly formatted (R574). -/
def StartMem.none : StartMem := ⟨0, 0, 0, false, false, false, 0, false, 0, 0, 0, 0, 0, .none, 0, 0, 0, true, true, []⟩

/-- SUP in reset (R570). -/
def Sup.inReset0 : Sup :=
  ⟨true, false, false, 0, 0, false, [], [], 0, 0, 0, [], .none, 0, 0, 0, 0, .none, .none, [], .none, 0, .none, 0, 0, false, false, [], [], false,
   StartMem.none⟩

/-- KEY with an empty record, in MANUFACTURE with 31 OTP rows left (log entry 3). -/
def Key.blank : Key :=
  let r : KeyRec := ⟨[], [], [], 0, []⟩
  ⟨r, [], r, [], [], [], [], [], .none, 0, 31, 0, false⟩

/-- The machine at power-on: every register at its reset value, the module held in reset until R570 releases it, its media
and memories empty, the backup domain as its power-up leaves it (R529). Log entries 3 and 4 name the values that the
spec leaves open. -/
def State.reset : State :=
  { pending := [], late := [], coreWait := [], clk := 0, free := 0, out := [],
    regs := [(Reg.RTC_CTL, 1), (Reg.RTC_STAT, 1)],
    image := [], latch := [], loLatch := [], loPend := [], errDetail := [], claims := [], points := [],
    notes := [],
    opt := ⟨[], [], 511, 0, [], [], [], [], [], .none⟩,
    hif := ⟨0, 0, [], 0, 0, [], [], [], 0, false, false, none, false, PcieCfg.reset⟩,
    lat := Lat.fresh,
    sup := Sup.inReset0, key := Key.blank, ten := ⟨[], [], [], [], [], []⟩,
    tbs := [⟨0, 0⟩, ⟨0, 0⟩, ⟨0, 0⟩, ⟨0, 0⟩], fab := Fab.fresh, ntu := Ntu.fresh,
    pse := ⟨[], [], [], [], [], false, false, [], 0, [], .none, [], .none⟩,
    arb := ⟨[], 0, [], [], [], [], [], [], 0, [], [], [], 0, 0, true, [], 0, 0, 0⟩,
    lcp := ⟨[], [], [], [], [], [], 0, 0, [], [], [], [], [], []⟩,
    dio := ⟨[], [], 0, 0, 0, [], [], true, false, [], false, [], 0, [], []⟩,
    scn := Scn.fresh, hlk := Hlk.fresh, fbc := Fbc.fresh,
    rtc := ⟨Cal.first, 0, some Cal.first, .none, 0, none, 0⟩,
    lpe := Lpe.fresh, emu := Emu.fresh, sto := Sto.fresh }

end Sys2Proof.Machine
end

