-- ==== Sys2Proof/Machine/Tbl.lean ====
section
/-! DEFINITION. Reads, writes and the canonical form of the sparse tables (`Tbl`) that hold registers, points,
stakes and every other keyed part of the state. `d` gives what an unlisted key reads as. -/

namespace Sys2Proof.Machine

/-- What the table holds at `k`: the listed value, else the unlisted value `d k`. -/
def tget {α : Type} (d : Nat → α) (t : Tbl α) (k : Nat) : α :=
  match t with
  | [] => d k
  | (j, v) :: r => if j = k then v else tget d r k

/-- Put `(k, v)` in its place in a rising list, replacing what stands at `k`. -/
def tput {α : Type} (t : Tbl α) (k : Nat) (v : α) : Tbl α :=
  match t with
  | [] => [(k, v)]
  | (j, w) :: r =>
    if k < j then (k, v) :: (j, w) :: r
    else if k = j then (k, v) :: r
    else (j, w) :: tput r k v

/-- Drop the entry at `k`. -/
def tdel {α : Type} (t : Tbl α) (k : Nat) : Tbl α :=
  t.filter (fun e => e.1 != k)

/-- Write `v` at `k`; writing the unlisted value removes the entry, so equal tables are equal data. -/
def tset {α : Type} [DecidableEq α] (d : Nat → α) (t : Tbl α) (k : Nat) (v : α) : Tbl α :=
  if v = d k then tdel t k else tput t k v

/-- Keys strictly rising from above `lo`. -/
def risingFrom {α : Type} (lo : Nat) (t : Tbl α) : Bool :=
  match t with
  | [] => true
  | (k, _) :: r => decide (lo ≤ k) && risingFrom (k + 1) r

/-- The canonical form: keys strictly rising and no entry equal to the unlisted value. -/
def twf {α : Type} [DecidableEq α] (d : Nat → α) (t : Tbl α) : Bool :=
  risingFrom 0 t && t.all (fun e => decide (e.2 ≠ d e.1))

/-- A list of entries in canonical form; the last of several entries at one key stands. -/
def tcanon {α : Type} [DecidableEq α] (d : Nat → α) (l : Tbl α) : Tbl α := l.foldl (fun t e => tset d t e.1 e.2) []

/-- The same for a table without unlisted value. -/
def tsorted {α : Type} (l : Tbl α) : Tbl α := l.foldl (fun t e => tput t e.1 e.2) []

/-- The canonical form of a table that holds entries only where something is present. -/
def trising {α : Type} (t : Tbl α) : Bool := risingFrom 0 t

/-- The entry at `k`, if one is listed. -/
def tfind? {α : Type} (t : Tbl α) (k : Nat) : Option α :=
  match t with
  | [] => none
  | (j, v) :: r => if j = k then some v else tfind? r k

/-- Erase every entry whose key satisfies `p`. -/
def tdrop {α : Type} (t : Tbl α) (p : Nat → Bool) : Tbl α :=
  t.filter (fun e => !p e.1)

/-- Insert into a list sorted by `le`, before the first element that `x` does not follow. -/
def insertBy {α : Type} (le : α → α → Bool) (x : α) (l : List α) : List α :=
  match l with
  | [] => [x]
  | y :: r => if le x y then x :: y :: r else y :: insertBy le x r

/-- The list in the order `le`, equal elements in their given order. -/
def sortBy {α : Type} (le : α → α → Bool) (l : List α) : List α := l.foldr (insertBy le) []

end Sys2Proof.Machine
end

