-- ==== Sys2Proof/Machine/Ops.lean ====
section
/-! DEFINITION. The named operations over the state: registers and their fields, errors and interrupts (R35 to R43),
points (R9 to R12), claims (R65 to R68), operation slots (R70 to R77) and tenant checks (R550 to R554). Every meaning
reads and writes the state through these. -/

namespace Sys2Proof.Machine

/-! ### Registers -/

/-- The register at BAR0 offset `off` as the module holds it. -/
def State.reg (s : State) (off : Nat) : Word := tget regReset s.regs off

/-- Set the register at `off`. -/
def State.setReg (s : State) (off : Nat) (v : Word) : State := { s with regs := tset regReset s.regs off v }

/-- Field [lo + w − 1 : lo] of the register at `off`. -/
def State.fld (s : State) (off lo w : Nat) : Nat := bitsOf (s.reg off).toNat lo w

/-- Set one field of the register at `off`; its other bits keep their values. -/
def State.setFld (s : State) (off lo w v : Nat) : State :=
  s.setReg off (BitVec.ofNat 32 (putBits (s.reg off).toNat lo w v))

/-- Bit `i` of the register at `off`. -/
def State.flag (s : State) (off i : Nat) : Bool := s.fld off i 1 == 1

/-- Set bit `i` of the register at `off`. -/
def State.setFlag (s : State) (off i : Nat) (b : Bool) : State := s.setFld off i 1 (if b then 1 else 0)

/-- The register as a number. -/
def State.num (s : State) (off : Nat) : Nat := (s.reg off).toNat

/-- Set the register to a number, its low 32 bits. -/
def State.setNum (s : State) (off v : Nat) : State := s.setReg off (BitVec.ofNat 32 v)

/-- Add to a saturating counter field. -/
def State.satInc (s : State) (off lo w n : Nat) : State := s.setFld off lo w (satAdd w (s.fld off lo w) n)

/-- Add to a wrapping 32-bit counter. -/
def State.wrapInc (s : State) (off n : Nat) : State := s.setNum off (s.num off + n)

/-- A _LO and _HI pair (R33) as one number. -/
def State.num64 (s : State) (lo : Nat) : Nat := s.num lo + s.num (lo + 4) * 2 ^ 32

/-- Set a _LO and _HI pair. -/
def State.setNum64 (s : State) (lo v : Nat) : State := (s.setNum lo v).setNum (lo + 4) (v / 2 ^ 32)

/-- Add something the module sends to the observation log. -/
def State.emit (s : State) (o : Output) : State := { s with out := s.out ++ [o] }

/-- Take a fresh free value's number and advance the counter. -/
def State.nextFree (s : State) : State := { s with free := s.free + 1 }

/-- Fold an update over the numbers below `n`, ascending. -/
def State.forN (s : State) (n : Nat) (f : State → Nat → State) : State := (List.range n).foldl f s

/-! ### Chainage and time -/

/-- The present chainage in au (R2, R101). -/
def State.chain (s : State) : Nat := s.lat.pos / 2 ^ 32

/-- Low 32 bits of the present chainage, as every stamp holds it (R7, R12). -/
def State.chain32 (s : State) : Word := BitVec.ofNat 32 s.chain

/-- SYS cycles in one millisecond at 800 MHz (R18). -/
def msClk : Nat := 800000

/-- The operating mode (R27). -/
def State.mode (s : State) : Nat := s.fld Reg.SUP_MODE 0 2

/-- CTRL.EN of block `b` (R37). -/
def State.en (s : State) (b : Nat) : Bool := s.flag (Reg.CTRL b) 0

/-- Whether block `b` is in soft reset: CTRL.SRST reads 1 (R95). -/
def State.inSrst (s : State) (b : Nat) : Bool := s.flag (Reg.CTRL b) 1

/-! ### Interrupts and errors -/

/-- The interrupt sources of a block: how many bits its chapter gives (R40, and the notes under the register tables). -/
def irqCount (b : Nat) : Nat :=
  match b with
  | 0x01 => 10
  | 0x02 => 5
  | 0x03 => 4
  | 0x05 => 7
  | 0x08 => 9
  | 0x0B => 9
  | 0x10 => 9
  | 0x11 => 11
  | 0x12 => 4
  | 0x13 => 6
  | _ => 8

/-- The bits of a block's interrupt registers (R4, R40). -/
def irqMask (b : Nat) : Word := BitVec.ofNat 32 (2 ^ irqCount b - 1)

/-- Signal an MSI-X vector: the message leaves when the link is up and the vector is unmasked, else its pending bit
sets (R46, R47). -/
def State.signalVector (s : State) (v : Nat) : State :=
  if s.hif.linkUp && !s.flag (Reg.MSIX_TABLE v 3) 0 then
    s.emit (.msix v (s.num64 (Reg.MSIX_TABLE v 0)) (s.reg (Reg.MSIX_TABLE v 2)))
  else s.setFlag (Reg.MSIX_PBA (v / 32)) (v % 32) true

/-- Whether (IRQ_STAT AND IRQ_EN) of block `b` is nonzero (R41). -/
def State.irqOut (s : State) (b : Nat) : Bool :=
  (s.reg (Reg.IRQ_STAT b) &&& s.reg (Reg.IRQ_EN b)) != 0

/-- Signal the block's vector when (IRQ_STAT AND IRQ_EN) went from zero in `s0` to nonzero in `s` (R41). -/
def State.irqEdge (s s0 : State) (b : Nat) : State :=
  if s.irqOut b && !s0.irqOut b then s.signalVector (s.fld (Reg.HIF_BLKVEC b) 0 6) else s

/-- An event sets its IRQ_STAT bit, whatever IRQ_EN says (R41). -/
def State.raiseIrq (s : State) (b bit : Nat) : State :=
  (s.setFlag (Reg.IRQ_STAT b) bit true).irqEdge s b

/-- An error of block `b`: ERR_CODE.CODE, COUNT, the internal detail and the ERR interrupt bit (R35, R40, R42). -/
def State.reportErr (s : State) (b code : Nat) (detail : Word) : State :=
  let s1 := (s.setFld (Reg.ERR_CODE b) 0 8 code).satInc (Reg.ERR_CODE b) 8 8 1
  let s2 := { s1 with errDetail := tset (fun _ => 0) s1.errDetail b detail }
  s2.raiseIrq b 0

/-! ### Claims -/

/-- The claim of a resource, if it is held. -/
def State.claimOf (s : State) (r : Nat) : Option Claim := s.claims.find? (fun c => c.resource == r)

/-- The conflict word of a held resource (R68). -/
def conflictWord (c : Claim) : Word := BitVec.ofNat 32 (c.resource + c.block * 2 ^ 16 + c.func * 2 ^ 24)

/-- Claim a resource: the first claimant keeps it; the refusal names the owner (R67, R68). -/
def State.claim (s : State) (c : Claim) : Except Word State :=
  match s.claimOf c.resource with
  | some o => .error (conflictWord o)
  | none => .ok { s with claims := s.claims ++ [c] }

/-- Release a resource that `block` holds (R66). -/
def State.unclaim (s : State) (r block : Nat) : State :=
  { s with claims := s.claims.filter (fun c => !(c.resource == r && c.block == block)) }

/-- Release every claim of a block (R66, R95 step 4). -/
def State.unclaimBlock (s : State) (block : Nat) : State :=
  { s with claims := s.claims.filter (fun c => c.block != block) }

/-! ### Points -/

/-- The record of a point (R9, R616). -/
def State.point (s : State) (i : Nat) : Point := tget (fun _ => Point.unconfigured) s.points i

/-- Put a record into the point table. -/
def State.setPoint (s : State) (i : Nat) (p : Point) : State :=
  { s with points := tset (fun _ => Point.unconfigured) s.points i p }

/-- A value as a record of a type holds it (R10, R616). -/
def normValue (type : Nat) (v : Dword) : Dword :=
  match type with
  | 0 => 0
  | 1 => if v = 0 then 0 else 1
  | 2 => (v.setWidth 32).signExtend 64
  | 3 => (v.setWidth 32).setWidth 64
  | 4 => (v.setWidth 16).signExtend 64
  | _ => v

/-- The note of a point's writes in the present SYS cycle. -/
def State.pointNote (s : State) (i : Nat) : Option PointNote := s.notes.find? (fun n => n.clk == s.clk && n.index == i)

/-- The record of a point as origin `o` reads it: a write of another origin in the same SYS cycle is not seen yet (R12). -/
def State.pointFor (s : State) (o i : Nat) : Point :=
  match s.pointNote i with
  | some n => if n.origin = o then s.point i else n.before
  | none => s.point i

/-- The record of a point as it stood before the writes of the present SYS cycle (R12, R309). -/
def State.pointBefore (s : State) (i : Nat) : Point :=
  match s.pointNote i with
  | some n => n.before
  | none => s.point i

/-- Note a write of a point by origin `o`: of the writes of one SYS cycle that of the highest origin is the last (R12). -/
def State.notePoint (s : State) (o i : Nat) (v : Dword) (q : Nat) : State :=
  let n : PointNote := match s.pointNote i with
    | some m => if m.origin ≤ o then { m with origin := o, value := v, quality := q } else m
    | none => ⟨s.clk, i, s.point i, o, v, q⟩
  { s with notes := n :: s.notes.filter (fun m => m.clk == s.clk && m.index != i) }

/-- A point's value and quality change by a write of origin `o`: the stamp is set (R12); while the point is forced the write is
taken and the record does not change (R11), a write of the same SYS cycle by a later origin stands (R12), and no code is
written that the tables lack (R10). DESIGN CHOICE (log entry 198): all of one SYS cycle's writes take effect in it. -/
def State.storeOne (s : State) (o i : Nat) (v : Dword) (q : Nat) : State :=
  let p := s.point i
  if p.type = PtType.NONE ∨ !Q.known q then s
  else
    let s1 := s.notePoint o i v q
    let behind : Bool := match s.pointNote i with
      | some m => decide (o < m.origin)
      | none => false
    if p.forced ∨ behind then s1
    else s1.setPoint i { p with value := normValue p.type v, quality := q, stamp := s.chain32 }

/-- The points of this module that a write of the point is copied to: proxies of hosted units and the points behind them
(R417). -/
def State.copiesOf (s : State) (i : Nat) : List Nat := tget (fun _ => []) s.hlk.copies i

/-- Store a point, and the points bound to it (R12, R417). -/
def State.storePoint (s : State) (o i : Nat) (v : Dword) (q : Nat) : State :=
  (s.copiesOf i).foldl (fun a j => a.storeOne o j v q) (s.storeOne o i v q)

/-- Whether a write of the point makes LCP form commands: a luminaire's command point, a group's SCENE or LEVEL point
(R211, R224). -/
def State.lcpPoint (s : State) (i : Nat) : Bool :=
  let pb := s.fld Reg.LCP_PT_BASE 0 16
  let gb := s.fld Reg.LCP_GRP_BASE 0 16
  (pb != 0xFFFF && decide (pb ≤ i) && decide (i < pb + 6144) && (i - pb) % 8 == 0)
    || (gb != 0xFFFF && decide (gb ≤ i) && decide (i < gb + 1024) && decide ((i - gb) % 4 < 2))

/-- The luminaire entry of LCP at a number. -/
def State.lum (s : State) (e : Nat) : Lum := tget (fun _ => Lum.fresh) s.lcp.lums e

/-- Put a luminaire entry. -/
def State.setLum (s : State) (e : Nat) (l : Lum) : State :=
  { s with lcp := { s.lcp with lums := tset (fun _ => Lum.fresh) s.lcp.lums e l } }

/-- Whether host override holds the entry (R227, R238). -/
def State.overridden (s : State) (e : Nat) : Bool := s.flag (Reg.LCP_LnSTATE e) 3

/-- The overridden entry whose command point this is, if any (R227). -/
def State.overrideOf (s : State) (i : Nat) : Option Nat :=
  let pb := s.fld Reg.LCP_PT_BASE 0 16
  if pb ≠ 0xFFFF ∧ pb ≤ i ∧ i < pb + 6144 ∧ (i - pb) % 8 = 0 ∧ s.overridden ((i - pb) / 8) then some ((i - pb) / 8)
  else none

/-- LCP sees a write of a luminaire or group point as a change, even of the same value (R211), in the order of R12. -/
def State.noteChange (s : State) (o i : Nat) (v : Dword) (lead : Option Nat) (stake : Option (Nat × Nat × Nat)) (host : Bool)
    (ctx : Nat) : State :=
  let gb := s.fld Reg.LCP_GRP_BASE 0 16
  let g := gb + (i - gb) / 4 * 4
  let c : PointChange := ⟨i, v, s.chain, lead.getD ((s.point (g + 2)).value.toNat % 65536),
    (s.point (g + 3)).value.toNat % 2 ^ 32 / 10 % 65536, stake, host, ctx, o, s.clk⟩
  let before := fun (d : PointChange) => d.clk != s.clk || decide (d.origin ≤ o)
  { s with lcp := { s.lcp with changes := s.lcp.changes.takeWhile before ++ c :: s.lcp.changes.dropWhile before } }

/-- A write of one point by origin `o` with the lead and the stake it comes from and whether the host or a stake made it;
under an override the producer's write is kept in LCP_LnPROG (R227). -/
def State.writeOne (s : State) (o i : Nat) (v : Dword) (q : Nat) (lead : Option Nat)
    (stake : Option (Nat × Nat × Nat)) (host : Bool) (ctx : Nat) : State :=
  if (s.point i).type = PtType.NONE then s
  else match s.overrideOf i with
    | some e =>
      (s.setLum e { s.lum e with prog := some (v.setWidth 32, q) }).setReg (Reg.LCP_LnPROG e) (v.setWidth 32)
    | none =>
      let s1 := s.storeOne o i v q
      if s.lcpPoint i ∧ !(s.point i).forced then s1.noteChange o i v lead stake host ctx else s1

/-- A write of a point takes effect, and is copied where a hosted unit binds it (R12, R417). -/
def State.writePointBy (s : State) (o i : Nat) (v : Dword) (q : Nat) (lead : Option Nat)
    (stake : Option (Nat × Nat × Nat)) (host : Bool) (ctx : Nat) : State :=
  (i :: s.copiesOf i).foldl (fun a j => a.writeOne o j v q lead stake host ctx) s

/-- A block's or program's write of a point takes effect (R12). -/
def State.writePoint (s : State) (o i : Nat) (v : Dword) (q : Nat) : State := s.writePointBy o i v q none none false 0

/-- A change of a point's quality alone; its last value is kept (R10: STALE keeps the value). -/
def State.setQuality (s : State) (o i q : Nat) : State := s.storePoint o i (s.point i).value q

/-- Write a status point of a block at an offset from its base, unless the base is FFFFh. -/
def State.pubPoint (s : State) (baseReg off : Nat) (v : Dword) (q : Nat) : State :=
  let b := s.fld baseReg 0 16
  if b = 0xFFFF then s else s.storePoint (baseReg / 0x40000) (b + off) v q

/-- Change the quality of a block's status point. -/
def State.pubQuality (s : State) (baseReg off q : Nat) : State :=
  let b := s.fld baseReg 0 16
  if b = 0xFFFF then s else s.setQuality (baseReg / 0x40000) (b + off) q

/-- Whether a point is configured (R616). -/
def State.configured (s : State) (i : Nat) : Bool := (s.point i).type != PtType.NONE

/-! ### Tenant checks (R551) -/

/-- Whether some range of context `c` names point `i` with the right at bit `right` (0 READ, 1 WRITE, 2 CLEAR). -/
def State.inRange (s : State) (c i right : Nat) : Bool :=
  (List.range 64).any fun r =>
    let w0 := s.num (Reg.TEN_CTXc_RNGr_W0 c r)
    let w1 := s.num (Reg.TEN_CTXc_RNGr_W1 c r)
    bitOf w1 31 && decide (bitsOf w0 0 16 ≤ i) && decide (i ≤ bitsOf w0 16 16) && bitOf w1 right

/-- A block's or task's access in context `c` to point `i` (R551, first two rows). -/
def State.blockMay (s : State) (c i right : Nat) : Bool :=
  let pc := (s.point i).ctx
  if c = 0 then true
  else if pc = 0 then s.inRange c i right
  else pc == c

/-- The host's read of point `i` in clear in context `c` (R551). -/
def State.hostMayRead (s : State) (c i : Nat) : Bool :=
  let pc := (s.point i).ctx
  if c = 0 then if pc = 0 then true else s.inRange pc i 2
  else if pc = 0 then s.inRange c i 0
  else pc == c && s.inRange c i 2

/-- The host's write of point `i` in context `c` (R551). -/
def State.hostMayWrite (s : State) (c i : Nat) : Bool :=
  let pc := (s.point i).ctx
  if c = 0 then true
  else if pc = 0 then s.inRange c i 1
  else pc == c

/-- Count a refusal under R551 in TEN_DENIED_CNT and the context's counter. -/
def State.countDenied (s : State) (c : Nat) : State :=
  ((s.satInc Reg.TEN_DENIED_CNT 0 32 1).satInc (Reg.TEN_CTXc_DENIED c) 0 32 1).raiseIrq Blk.TEN 1

/-- The tokens that have returned to a context's bucket by now, RATE in a second up to BURST; they count from the first one
taken of a full bucket (R553). -/
def State.refill (s : State) (c : Nat) : State :=
  let rate := s.fld (Reg.TEN_CTXc_RATE c) 0 16
  let spent := tget (fun _ => 0) s.ten.spent c
  let last := tget (fun _ => 0) s.ten.refilled c
  let n := (s.clk - last) * rate / 800000000
  if rate = 0 ∨ spent = 0 ∨ n = 0 then s
  else { s with ten := { s.ten with spent := tset (fun _ => 0) s.ten.spent c (spent - n)
                                    refilled := tset (fun _ => 0) s.ten.refilled c (last + (n * 800000000 + rate - 1) / rate) } }

/-- Take a token of context `c`'s bucket, behind a refill of the same cycle; `none` when it is empty (R553). RATE = 0
disables the limit. -/
def State.takeToken (s : State) (c : Nat) : Option State :=
  let rate := s.fld (Reg.TEN_CTXc_RATE c) 0 16
  let burst := Nat.max 1 (s.fld (Reg.TEN_CTXc_RATE c) 16 16)
  let s1 := s.refill c
  let spent := tget (fun _ => 0) s1.ten.spent c
  if c = 0 ∨ rate = 0 then some s
  else if spent < burst then
    some { s1 with ten := { s1.ten with
      spent := tset (fun _ => 0) s1.ten.spent c (spent + 1)
      refilled := if spent = 0 then tset (fun _ => 0) s1.ten.refilled c s1.clk else s1.ten.refilled } }
  else none

/-- Count a request that found no token (R553). -/
def State.countRateDrop (s : State) (c : Nat) : State :=
  (s.satInc (Reg.TEN_CTXc_RATE_DROP c) 0 32 1).raiseIrq Blk.TEN 2

/-! ### Operation slots -/

/-- A slot that was never allocated in this life. -/
def Slot.unused : Slot := ⟨.free, 0, 0, 0, 0, 0, none, false, 0, .internal 0, 0, 0, 0, 0, 0, 0, 0, 0⟩

/-- The slot of a tag. -/
def State.slot (s : State) (t : Nat) : Slot := tget (fun _ => Slot.unused) s.opt.slots t

/-- Put a slot. -/
def State.setSlot (s : State) (t : Nat) (x : Slot) : State :=
  { s with opt := { s.opt with slots := tset (fun _ => Slot.unused) s.opt.slots t x } }

/-- A slot's log before its first record. -/
def SlotLog.blank : SlotLog := ⟨Slot.unused, 0, 0⟩

/-- A record of a slot is written over its older one (R81). -/
def State.recordSlot (s : State) (t : Nat) (x : Slot) : State :=
  let l := tget (fun _ => SlotLog.blank) s.opt.log t
  let s1 := s.setSlot t x
  { s1 with opt := { s1.opt with
      log := tset (fun _ => SlotLog.blank) s1.opt.log t ⟨s.slot t, l.seq + 1, s.clk⟩ } }

/-- The tags whose slot is not FREE (R70), ascending. -/
def State.openTags (s : State) : List Nat :=
  (s.opt.slots.filter (fun e => e.2.st != .free)).map (fun e => e.1)

/-- The number of open operations (R98). -/
def State.openCount (s : State) : Nat := s.openTags.length

/-- Whether a slot's operation came from a ring or the mailbox. -/
def Slot.fromHost (x : Slot) : Bool :=
  match x.origin with
  | .internal _ => false
  | _ => true

/-- Open operations from rings and mailbox (R72, R98). -/
def State.hostOpenCount (s : State) : Nat :=
  (s.opt.slots.filter (fun e => e.2.st != .free && e.2.fromHost)).length

/-- OPT_CFG.HOST_LIMIT: 0 and values above 512 read as 512 (R98). -/
def State.hostLimit (s : State) : Nat :=
  let h := s.fld Reg.OPT_CFG 0 10
  if h = 0 ∨ 512 < h then 512 else h

/-- The first free tag above the most recently allocated one, wrapping (R71). -/
def State.freeTag (s : State) : Option Nat :=
  ((List.range 512).map (fun k => (s.opt.lastTag + 1 + k) % 512)).find? (fun t => (s.slot t).st == .free)

/-- Keep OPT_HWM at the highest open count and raise HOST_LIMIT and TAG_EXHAUSTED as their counts are reached
(R98). -/
def State.noteOpen (s : State) : State :=
  let n := s.openCount
  let s1 := if s.fld Reg.OPT_HWM 0 10 < n then s.setFld Reg.OPT_HWM 0 10 n else s
  let s2 := if n = s.hostLimit then s1.raiseIrq Blk.OPT 1 else s1
  if n = 512 then s2.raiseIrq Blk.OPT 2 else s2

/-- Begin an operation on a free tag: the generation is incremented and the accept record is written before the
serving block acts (R70, R71, R74, R82). -/
def State.beginAt (s : State) (t : Nat) (x : Slot) : State :=
  let g := ((s.slot t).gen + 1) % 128
  let s1 := s.recordSlot t { x with st := .active, gen := g, beginClk := s.clk, beginCh := s.chain, stampCh := s.chain
                                    ord := s.opt.nextOrd }
  ({ s1 with opt := { s1.opt with lastTag := t, nextOrd := s1.opt.nextOrd + 1 } }).noteOpen

/-- An internal operation's slot (R59: COOKIE 0, SQ 0, INTERNAL 1). -/
def Slot.internalOp (producer block opcode ctx timeoutMs : Nat) (param : BitVec 384) : Slot :=
  { Slot.unused with block := block, opcode := opcode, ctx := ctx, timeoutMs := timeoutMs, param := param,
                     origin := .internal producer }

/-- Begin an internal operation; `none` when no tag is free, which OPT_TAGWAIT_CNT counts where the caller holds the
request (R73). -/
def State.beginInternal (s : State) (producer block opcode ctx timeoutMs : Nat)
    (param : BitVec 384) : Option (Nat × State) :=
  if s.sup.pfail then none else
  match s.freeTag with
  | none => none
  | some t => some (t, s.beginAt t (Slot.internalOp producer block opcode ctx timeoutMs param))

/-- OPT counts an internal producer that found no free tag (R73). -/
def State.countTagWait (s : State) : State := (s.satInc Reg.OPT_TAGWAIT_CNT 0 32 1).raiseIrq Blk.OPT 2

/-- A request is held for want of a tag (R73). -/
def State.holdForTag (s : State) (w : TagWait) : State :=
  let s1 := s.countTagWait
  { s1 with opt := { s1.opt with tagWait := s1.opt.tagWait ++ [w] } }

/-! ### Sending frames into the fabric (R438, R441, R442) -/

/-- Whether FAB is the plain learning switch: minimal mode, or CTRL.EN clear (R464). -/
def State.plainSwitch (s : State) : Bool := s.mode == Mode.MINIMAL || !s.en Blk.FAB

/-- Whether a port passes frames of classes 0 to 6 (`low`) or of class 7: link up, full duplex, EN, not blocked (R437,
R446, R469). -/
def State.portPasses (s : State) (p : Nat) (low : Bool) : Bool :=
  s.flag (Reg.FAB_PnSTAT p) 0 && !s.flag (Reg.FAB_PnSTAT p) 3 && s.flag (Reg.FAB_PnCFG p) 0
    && !(low && s.flag (Reg.FAB_PnSTAT p) 4)

/-- Whether a port is in the VID's untagged set. -/
def State.untagged (s : State) (v p : Nat) : Bool :=
  bitOf (s.num (Reg.FAB_VLANv_UNT_LO v) + s.fld (Reg.FAB_VLANv_UNT_HI v) 0 18 * 2 ^ 32) p

/-- Add to a port counter; bit 31 turning 1 shows in FAB_HALF. -/
def State.cnt (s : State) (p k n : Nat) : State :=
  let r := Reg.FAB_PnCNTk p k
  let s1 := s.wrapInc r n
  if !bitOf (s.num r) 31 ∧ bitOf (s1.num r) 31 then
    (s1.setFlag (if p < 32 then Reg.FAB_HALF_LO else Reg.FAB_HALF_HI) (p % 32) true).raiseIrq Blk.FAB 2
  else s1

/-- A queue. -/
def State.fabQueue (s : State) (p c : Nat) : List QFrame := tget (fun _ => []) s.fab.queues (8 * p + c)

/-- Put a queue. -/
def State.setQueue (s : State) (p c : Nat) (l : List QFrame) : State :=
  { s with fab := { s.fab with queues := tset (fun _ => []) s.fab.queues (8 * p + c) l } }

/-- Bytes of frames. -/
def frameSum (l : List QFrame) : Nat := (l.map (fun q => q.frame.len)).foldl (· + ·) 0

/-- The frames in the buffer, one for each number. -/
def State.buffered (s : State) : List QFrame :=
  ((s.fab.queues.map (·.2)).flatten).foldl (fun l q => if l.any (fun x => x.id == q.id) then l else q :: l) []

/-- FAB_BUF_USED. -/
def State.noteBuf (s : State) : State :=
  let b := s.buffered
  let kib := fun (l : List QFrame) => (frameSum l + 1023) / 1024
  (s.setFld Reg.FAB_BUF_USED 0 13 (kib (b.filter (fun q => !q.reserved)))).setFld Reg.FAB_BUF_USED 16 9
    (kib (b.filter (·.reserved)))

/-- The class 7 reservation of an ingress port in bytes (R442). -/
def reservation (p : Nat) : Nat :=
  if p < 48 then 4096 else if p < 50 then 20480 else if p < 52 then 8192 else if p = 52 then 4096 else 2048

/-- Whether there is room for a frame: in the port's class 7 reservation first, then in the shared 3,840 KiB; the answer
is whether it takes the reservation. -/
def State.room (s : State) (p cls n : Nat) : Option Bool :=
  let b := s.buffered
  if cls = 7 ∧ frameSum (b.filter (fun q => q.reserved && q.ingress == p)) + n ≤ reservation p then some true
  else if frameSum (b.filter (fun q => !q.reserved)) + n ≤ 3840 * 1024 then some false
  else none

/-- Note that a port's queues are in use, and that a frame waits in LPI (R450). -/
def State.noteQueued (s : State) (p : Nat) : State :=
  let s1 := { s with fab := { s.fab with idleClk := tput s.fab.idleClk p s.clk } }
  if s1.flag (Reg.FAB_PnSTAT p) 6 ∧ (tfind? s1.fab.waitClk p).isNone then
    { s1 with fab := { s1.fab with waitClk := tput s1.fab.waitClk p s1.clk } }
  else s1

/-- LPI ends on a port: its time is counted and transmission waits for the Tw in use (R450). -/
def State.endLpi (s : State) (p : Nat) : State :=
  if !s.flag (Reg.FAB_PnSTAT p) 6 then s
  else
    let us := (s.clk - tget (fun _ => 0) s.fab.lpiClk p) / 800
    let s1 := (s.setFlag (Reg.FAB_PnSTAT p) 6 false).cnt p 36 us
    { s1 with fab := { s1.fab with waitClk := tdel s1.fab.waitClk p
                                   wakeClk := tput s1.fab.wakeClk p (s1.clk + s1.fld (Reg.FAB_PnEEE_TW p) 0 16 * 80) } }

/-- A frame as a port sends it: untagged in the VID's untagged set, else with its VID and PCP; the plain switch and class
7 of an endpoint leave the tag as it came (R438, R441, R464). -/
def State.retag (s : State) (p vid pcp : Nat) (keep : Bool) (f : EthFrame) : EthFrame :=
  if keep ∨ s.plainSwitch then f
  else
    let out := if s.untagged vid p then none else some (pcp, vid)
    { f with tag := out, len := f.len + (if out.isSome then 4 else 0) - (if f.tag.isSome then 4 else 0) }

/-- A port of a FRAME_TX took the frame (`sent`) or dropped it. -/
def State.noteTxPort (s : State) (op : Option Nat) (p : Nat) (sent : Bool) : State :=
  match op with
  | none => s
  | some t => { s with fab := { s.fab with tx := s.fab.tx.map fun (x : TxOp) =>
      if x.tag = t then { x with left := x.left.filter (· != p), sent := x.sent + (if sent then 1 else 0),
                                 dropped := x.dropped + (if sent then 0 else 1) } else x } }

/-- Queue a frame at one port; classes 0 to 6 hold at most 512 KiB a queue (R442). -/
def State.enqueue (s : State) (p cls : Nat) (q : QFrame) : State :=
  let l := s.fabQueue p cls
  if !s.portPasses p (cls != 7) then s.noteTxPort q.op p false
  else if cls ≠ 7 ∧ 512 * 1024 < frameSum l + q.frame.len then (s.cnt p 32 1).noteTxPort q.op p false
  else
    let s1 := (s.setQueue p cls (l ++ [q])).noteQueued p
    if cls = 7 then s1.endLpi p else s1

/-- Forward a frame into the queues of its ports. -/
def State.forward (s : State) (ingress vid pcp cls : Nat) (keep reserved : Bool) (op : Option Nat)
    (ptp : Option (Nat × Nat × Nat)) (ports : List Nat)
    (f : EthFrame) : State :=
  let id := s.fab.nextId
  let s1 := { s with fab := { s.fab with nextId := id + 1 } }
  (ports.foldl (fun a p => a.enqueue p cls ⟨id, a.retag p vid pcp keep f, ingress, reserved, op, ptp⟩) s1).noteBuf

/-- A class 7 frame of an internal endpoint enters the fabric for the ports it names, with its tag as it stands; one that finds
no room is dropped and counted at the endpoint (R441, R442). -/
def State.sendInternal (s : State) (ep : Nat) (ptp : Option (Nat × Nat × Nat)) (ports : List Nat) (f : EthFrame) : State :=
  match s.room (50 + ep) 7 f.len with
  | none => s.satInc (Reg.FAB_EPe_DROP ep) 0 32 1
  | some r => s.forward (50 + ep) 0 7 7 true r none ptp ports f

/-- A frame of an internal endpoint, padded with zeros to the 64-byte minimum. -/
def internalFrame (dst src : Nat) (tag : Option (Nat × Nat)) (etype : Nat) (data : List Byte) : EthFrame :=
  let head := if tag.isSome then 22 else 18
  let d := data ++ List.replicate (64 - head - data.length) 0
  ⟨dst, src, tag, etype, d, head + d.length, true⟩

/-! ### Aethina Link frames (R401 to R405) -/

/-- HLK's link state of a member. -/
def State.peer (s : State) (m : Nat) : Peer := tget (fun _ => Peer.fresh) s.hlk.peers m

/-- Put a member's link state; HLK_MBm_TX shows the reliable frames awaiting acknowledgement (R433). -/
def State.setPeer (s : State) (m : Nat) (p : Peer) : State :=
  ({ s with hlk := { s.hlk with peers := tset (fun _ => Peer.fresh) s.hlk.peers m p } }).setFld (Reg.HLK_MBm_TX m) 0 7
    p.unacked.length

/-- Whether the slot of the hierarchy key holds a key that HLK may use (R403, R539). -/
def State.linkKey (s : State) : Bool :=
  let r := Reg.KEY_SLOTs_ATTR (s.fld Reg.HLK_CFG 12 4)
  s.flag r 0 && s.flag r 9

/-- Whether HLK sends and accepts frames: enabled, not in soft reset and not standalone, with its key (R399, R403, R431). -/
def State.linkOpen (s : State) : Bool :=
  s.en Blk.HLK && !s.inSrst Blk.HLK && s.sup.roleStrap != 0 && !s.sup.pfail && s.linkKey

/-- The widths in bytes of a payload's fixed fields, and of the fields that then repeat (R404, R407). -/
def linkLayout (type : Nat) : List Nat × List Nat :=
  match type with
  | 0x01 => ([1, 1, 1, 1, 8, 6, 4, 2, 4, 4, 1, 15], [])
  | 0x02 => ([1, 1, 2, 8, 4, 4, 12], [])
  | 0x03 => ([1, 1, 1, 1, 8, 6, 4, 2, 4, 4, 16], [])
  | 0x04 => ([4], [])
  | 0x05 => ([4, 1, 1, 10], [])
  | 0x10 => ([2, 2, 8, 4, 4], [2, 1, 1, 8])
  | 0x11 => ([2, 1, 1, 2, 2, 8, 4, 4], [])
  | 0x12 => ([2, 1, 1, 4], [])
  | 0x13 => ([4, 2, 2], [2])
  | 0x14 => ([4], [])
  | 0x20 => ([1, 1, 2, 2, 2, 48], [])
  | 0x21 => ([2, 1, 1, 4], [])
  | 0x22 => ([2, 1, 1, 4], [])
  | 0x30 => ([4, 1, 3, 8, 4, 4], [])
  | 0x31 => ([4, 1, 3, 4], [])
  | 0x32 => ([4, 4, 8, 4, 4, 4, 4], [1])
  | 0x33 => ([4, 8, 4], [])
  | 0x40 => ([8, 4, 4, 4, 4], [1])
  | 0x41 => ([8, 4, 1, 3], [])
  | 0x42 => ([8, 4], [])
  | 0x43 => ([], [8, 4])
  | 0x44 => ([8, 4], [])
  | 0x45 => ([8, 4, 4, 4, 4], [1])
  | _ => ([], [])

/-- Whether a frame's TYPE stands in the table (R404). -/
def linkType (type : Nat) : Bool := type == 0x0F || linkLayout type != ([], [])

/-- A field of a payload, big-endian; the 48 bytes of a PARAM stand as they do in a descriptor (R404, R59). -/
def linkField (w v : Nat) : List Byte := if w = 48 then leBytes 48 v else beBytes w v

/-- The payload of fields by their widths, the fixed ones first (R404). -/
def linkBody (w rep : List Nat) (l : List Nat) : List Byte :=
  match l, w, rep with
  | [], _, _ => []
  | v :: r, n :: w', rep => linkField n v ++ linkBody w' rep r
  | v :: r, [], n :: rep' => linkField n v ++ linkBody rep' (n :: rep') r
  | _, [], [] => []

/-- The 32-byte header of a frame to `dst` (R402). -/
def linkHead (type len dst flags : Nat) (h : LinkHdr) : List Byte :=
  beBytes 1 0x10 ++ beBytes 1 type ++ beBytes 2 len ++ beBytes 1 h.src ++ beBytes 1 dst ++ beBytes 1 flags ++ beBytes 1 0
    ++ beBytes 2 h.start ++ beBytes 2 0 ++ beBytes 8 h.counter ++ beBytes 4 h.term ++ beBytes 4 h.seq ++ beBytes 4 h.ack

/-- A frame's bytes: the header, the payload under the hierarchy key with the tag of 16 bytes (R402, R403). -/
def State.linkBytes (s : State) (type dst flags : Nat) (h : LinkHdr) (fields : List Nat) : List Byte :=
  let body := linkBody (linkLayout type).1 (linkLayout type).2 fields
  let head := linkHead type body.length dst flags h
  let key := (tget (fun _ => (0 : BitVec 512)) s.key.record.secrets (s.fld Reg.HLK_CFG 12 4)).setWidth 256
  let nonce := BitVec.ofNat 96 (leNat (beBytes 1 h.src ++ beBytes 1 0 ++ beBytes 2 h.start ++ beBytes 8 h.counter))
  let sealed := Config.gcmSeal key nonce head body
  head ++ (List.range (body.length + 16)).map (fun i => sealed.getD i 0)

/-- The multicast address of frames to all members (R401). -/
def linkMulticast : Nat := 0x0300000088B6

/-- A frame leaves with the next COUNTER, the present TERM and the acknowledgement of what its destination sent (R402), tagged
with PCP 7 and HLK_CFG.VID in class 7: to all on every uplink that is up, else to the MAC of the destination's latest
heartbeat on the uplink on which it came first (R401). Before a heartbeat of it has come the frame takes every uplink too,
DESIGN CHOICE, log entry 201. -/
def State.emitLink (s : State) (dst type seq flags : Nat) (fields : List Nat) : State :=
  let c := s.hlk.counter + 1
  let p := s.peer dst
  let h : LinkHdr := ⟨s.sup.moduleNum, s.num Reg.OPT_START_NUM % 2 ^ 16, c, s.num Reg.HLK_TERM, seq, p.rxSeq, bitOf flags 2, 0, 0, true, 1, type, 0⟩
  let (mac, ports) := match (if dst = 0xFF then none else p.via) with
    | some (m, u) => (m, [u])
    | none => (linkMulticast, [48, 49])
  let src := s.num (Reg.FAB_EPe_MAC_LO 1) + s.fld (Reg.FAB_EPe_MAC_HI 1) 0 16 * 2 ^ 32
  let f := internalFrame mac src (some (7, s.fld Reg.HLK_CFG 0 12)) 0x88B6 (s.linkBytes type dst flags h fields)
  ({ s with hlk := { s.hlk with counter := c } }).sendInternal 1 none ports f

/-- Send an unreliable frame (R404). -/
def State.linkSend (s : State) (dst type : Nat) (fields : List Nat) : State :=
  if s.linkOpen then s.emitLink dst type 0 0 fields else s

/-- FLAGS of a reliable frame (R402). -/
def relFlags (retry more : Bool) : Nat := 1 + (if retry then 2 else 0) + (if more then 4 else 0)

/-- Send a reliable frame with the next SEQ of the pair, MORE on a fragment that others follow; beyond 64 unacknowledged
frames it waits (R405). -/
def State.linkSendPart (s : State) (dst type : Nat) (more : Bool) (fields ops : List Nat) : State :=
  if s.linkOpen then
    let p := s.peer dst
    let f : LinkFrame := ⟨p.txSeq + 1, type, more, fields, ops, s.clk⟩
    let s1 := s.setPeer dst { p with txSeq := p.txSeq + 1, unacked := p.unacked ++ [f] }
    if p.unacked.length < 64 then s1.emitLink dst type f.seq (relFlags false more) fields else s1
  else s

/-- Send a reliable frame (R405). -/
def State.linkSendRel (s : State) (dst type : Nat) (fields ops : List Nat) : State :=
  s.linkSendPart dst type false fields ops

/-- HLK_MBm_STAT.STATE = UP (R409). -/
def State.memberUp (s : State) (m : Nat) : Bool := s.fld (Reg.HLK_MBm_STAT m) 0 3 == 2

/-- The end of an operation that another module asked for goes back to it as a RESULT frame (R428). -/
def State.answerRemote (s : State) (t status : Nat) (result : Word) : State :=
  match tfind? s.hlk.serving t with
  | some (src, tg) =>
    ({ s with hlk := { s.hlk with serving := tdel s.hlk.serving t } }).linkSendRel src 0x21 [tg, status, 0, result.toNat] []
  | none => s

/-! ### The end of an operation -/

/-- SCN learns the outcome of an operation that one of its records waits for (R265, R267). -/
def Scn.noteOutcome (x : Scn) (t status : Nat) (result : Word) (clk : Nat) : Scn :=
  if x.opens.any (fun o => o.tag == t && o.outcome.isNone) then
    { x with opens := x.opens.map fun (o : OpenRec) =>
        if o.tag == t && o.outcome.isNone then { o with outcome := some (status, result, clk) } else o }
  else x

/-- STO's own books of a decided operation: a write that the module asked for has ended, and a BARRIER or FLUSH that
waits for it counts it (R378, R379). -/
def Sto.noteDecided (x : Sto) (t status : Nat) : Sto :=
  let ended := (x.asks.filter (fun e => e.1 == t)).map (fun e => (e.2.why, status))
  { x with asks := x.asks.filter (fun e => e.1 != t), durable := x.durable ++ ended,
           waits := x.waits.map fun (w : StoWait) =>
             if w.tags.contains t then
               { w with tags := w.tags.filter (· != t), failed := if 0x10 ≤ status then w.failed + 1 else w.failed }
             else w }

/-- An ACTIVE operation is decided: its status and result stand, its decision record is written and its completion
waits to be written (R74, R82). A slot that is not ACTIVE keeps its own status. -/
def State.decideOp (s : State) (t status : Nat) (result : Word) : State :=
  let x := s.slot t
  if x.st = .active then
    let s1 := s.recordSlot t { x with st := .decided, status := status, result := result, stampCh := s.chain }
    let s2 := { s1 with opt := { s1.opt with decided := s1.opt.decided ++ [t] }
                        scn := s1.scn.noteOutcome t status result s1.clk
                        sto := if x.block = Blk.STO then s1.sto.noteDecided t status else s1.sto }
    s2.answerRemote t status result
  else s

/-- Whether the service core that serves a block's operation runs: core 0 serves STO's, core 1 HLK's and KEY's tenant
keys; a request that finds its core down waits until it is ready (R22, R24). -/
def State.coreServes (s : State) (block opcode : Nat) : Bool :=
  if block = Blk.STO then s.sup.core0Up
  else if block = Blk.HLK ∨ (block = Blk.KEY ∧ (opcode = 5 ∨ opcode = 6)) then !s.arb.coreDown
  else true

/-- The slot of tag `t` when it is ACTIVE and served by `block` with `opcode`: what every operation's meaning asks
before it acts. -/
def State.activeOp (s : State) (t block opcode : Nat) : Option Slot :=
  let x := s.slot t
  if x.st = .active ∧ x.block = block ∧ x.opcode = opcode ∧ s.coreServes block opcode then some x else none

/-- Free a slot whose completion counts as written (R74, R75). -/
def State.freeSlot (s : State) (t : Nat) : State :=
  s.recordSlot t { s.slot t with st := .free }

/-- Decide every ACTIVE operation of a block, in ascending tag order, with the result that its block gives it (R95 step 2). -/
def State.decideBlock (s : State) (block status : Nat) (result : State → Nat → Word) : State :=
  s.openTags.foldl (fun a t => if (a.slot t).block = block then a.decideOp t status (result a t) else a) s

/-! ### What falls in one SYS cycle (log entry 1) -/

/-! The ranks of what gives way within one SYS cycle, lowest first. -/
namespace Rank
/-- A write of the management SPI, behind PCIe's (R52). -/
abbrev SPI : Nat := 0x100
/-- What waited for a service core, once it is ready (R24). -/
abbrev CORE : Nat := 0x08000
/-- A claim of a resource, by block and function code, behind the releases (R67). -/
abbrev CLAIM (block func : Nat) : Nat := 0x10000 + block * 256 + func
/-- A request of a timestamp entry while none is free, behind those freed in its SYS cycle (R460). -/
abbrev CLAIMED : Nat := 0x17000
/-- An edit of the stake table, by its editor: the host, a task of SCN, HLK; behind the firings (R118, R126). -/
abbrev EDIT (editor : Nat) : Nat := 0x18000 + editor
/-- A loop's sample whose input may still arrive in its SYS cycle (R321), by the loop's number (R310). -/
abbrev SAMPLE (loop : Nat) : Nat := 0x1E000 + loop
/-- A grant evaluation, behind the releases and reports of its SYS cycle (R169, R188). -/
abbrev EVAL : Nat := 0x1F000
/-- What turns a port off, by its place in the list of R147. -/
abbrev CUT (place : Nat) : Nat := 0x20000 + place * 256
/-- The expiry of the start's 120 s, behind its confirmation (R575) and before a mode request. -/
abbrev START : Nat := 0x2F000
/-- A mode request, behind the events of the start sequence (R28). -/
abbrev MODE : Nat := 0x30000
/-- A tuning of a loop, behind the samples of its SYS cycle (R330). -/
abbrev TUNE : Nat := 0x38000
/-- CANCEL, behind the status reports (R78). -/
abbrev CANCEL : Nat := 0x40000
/-- A boundary of EMU's, behind the pulses of its SYS cycle (R351). -/
abbrev BOUND : Nat := 0x48000
/-- The expiry of a time, behind the event it awaits (R78). -/
abbrev EXPIRY : Nat := 0x50000
/-- A soft reset, behind the status reports of its block (R78, R96). -/
abbrev SRST : Nat := 0x60000
/-- What stands behind a write of its requester that itself gives way (R88). -/
abbrev BEHIND : Nat := 0x70000
end Rank

/-- Whether other commands wait in the present SYS cycle. -/
def State.together (s : State) : Bool := !s.pending.isEmpty || !s.late.isEmpty

/-- Something waits for the end of its SYS cycle, behind what has its rank or a lower one. -/
def State.defer (s : State) (rank : Nat) (l : Late) : State :=
  { s with late := s.late.takeWhile (fun e => decide (e.1 ≤ rank)) ++ (rank, l) :: s.late.dropWhile (fun e => decide (e.1 ≤ rank)) }

/-- A command that gives way to what coincides with it: it acts at the end of its SYS cycle. -/
def State.yielding (s : State) (rank : Nat) (l : Late) (f : State → State) : State :=
  if s.together then s.defer rank l else f s

/-- The same of a form that gives way only under a condition. -/
def State.yieldingIf (s : State) (p : Prop) [Decidable p] (rank : Nat) (l : Late) (f : State → State) : State :=
  if p then s.yielding rank l f else f s

/-- Whether a service core runs. -/
def State.coreUp (s : State) (core : Nat) : Bool := if core = 0 then s.sup.core0Up else !s.arb.coreDown

/-- Whether SUP has ever restarted it in this life, so that a core that is down is restarting (R24). -/
def State.coreRestarts (s : State) (core : Nat) : Bool := (if core = 0 then s.sup.wdt0 else s.sup.wdt1) != []

/-- A duty of a service core (R22): while SUP restarts the core the request waits, and a core that is not started does
nothing (R24, R579). -/
def State.duty (s : State) (core : Nat) (l : Late) (f : State → State) : State :=
  if s.coreUp core then f s
  else if s.coreRestarts core ∧ !s.coreWait.contains (core, l) then { s with coreWait := s.coreWait ++ [(core, l)] }
  else s

/-- A core is ready: what waited for it is served, in its order (R24). -/
def State.serveCore (s : State) (core : Nat) : State :=
  let mine := s.coreWait.filter (fun e => e.1 == core)
  mine.foldl (fun a e => a.defer Rank.CORE e.2) { s with coreWait := s.coreWait.filter (fun e => e.1 != core) }

/-- Whether a write of the requester waits for the end of the SYS cycle. -/
def State.lateWrites (s : State) (rq : Requester) : Bool :=
  s.late.any (fun e => match e.2 with
    | .write r _ _ => r == rq
    | _ => false)

/-- A read stands behind the writes of its requester (R88). -/
def State.behind (s : State) (rq : Requester) (l : Late) (f : State → State) : State :=
  if s.lateWrites rq then s.defer Rank.BEHIND l else f s

/-! ### What every command keeps -/

/-- The outcome `t` of a command in `s`, with what no command of another kind touches: the queue and the clock are the
step's, and the OTP is blown by LC_ADVANCE alone (R543). -/
def State.guarded (s t : State) : State :=
  { t with pending := s.pending, clk := s.clk
           key := { t.key with otpState := s.key.otpState, otpLeft := s.key.otpLeft, otpEpoch := s.key.otpEpoch
                               pufDead := s.key.pufDead } }

/-- A command of a block that lives through reset: the backup domain, the dies, the supply's supervision (R153, R511, R522,
R570). -/
def State.always (s : State) (f : State → State) : Host.Outcome State Fault Refusal := .next (s.guarded (f s))

/-- A command of the module's logic: nothing happens while the module is held in reset (R570, R611). -/
def State.powered (s : State) (f : State → State) : Host.Outcome State Fault Refusal :=
  .next (if s.sup.inReset then s else s.guarded (f s))

/-- The command that blows an OTP row (R544). -/
def State.blowing (s : State) (f : State → State) : Host.Outcome State Fault Refusal :=
  .next (if s.sup.inReset then s else { f s with pending := s.pending, clk := s.clk })

end Sys2Proof.Machine
end

