-- ==== Sys2Proof/Machine/Real.lean ====
section
/-! DEFINITION. REAL32: IEEE 754 binary32 with rounding to nearest even, subnormal operands read as zero of the same
sign and subnormal results flushed to zero (R256). Values are computed exactly and rounded once. A result that rounds
up to the smallest normal number is not subnormal. -/

namespace Sys2Proof.Machine

/-- What a REAL32 word stands for: NaN, an infinity, or ± `m` · 2^`e`. -/
inductive RealVal where
  | nan
  | inf (neg : Bool)
  | fin (neg : Bool) (m : Nat) (e : Int)
deriving DecidableEq, Repr

/-- The only NaN the module writes (R256). -/
def realNaN : Word := 0x7FC00000#32

/-- An infinity. -/
def realInf (neg : Bool) : Word := if neg then 0xFF800000#32 else 0x7F800000#32

/-- A zero. -/
def realZero (neg : Bool) : Word := if neg then 0x80000000#32 else 0#32

/-- The value of a word (R256). -/
def realVal (w : Word) : RealVal :=
  let neg := bitOf w.toNat 31
  let ex := bitsOf w.toNat 23 8
  let fr := bitsOf w.toNat 0 23
  if ex = 255 then (if fr = 0 then .inf neg else .nan)
  else if ex = 0 then .fin neg 0 0
  else .fin neg (2 ^ 23 + fr) ((ex : Int) - 150)

/-- 2^i for a nonnegative exponent, 1 otherwise. -/
def pow2 (i : Int) : Nat := 2 ^ i.toNat

/-- n / d rounded to nearest, ties to even. -/
def divRne (n d : Nat) : Nat :=
  let q := n / d
  let r := n % d
  if 2 * r < d then q else if d < 2 * r then q + 1 else if q % 2 = 0 then q else q + 1

/-- n / d rounded to nearest, ties away from zero. -/
def divHalfUp (n d : Nat) : Nat := (2 * n + d) / (2 * d)

/-- ± n / d as REAL32 (R256). -/
def roundReal (neg : Bool) (n d : Nat) : Word :=
  if n = 0 then realZero neg
  else
    let e0 : Int := (n.log2 : Int) - (d.log2 : Int) - 23
    let e : Int := if n * pow2 (-e0) < d * pow2 e0 * 2 ^ 23 then e0 - 1 else e0
    let q := divRne (n * pow2 (-e)) (d * pow2 e)
    let m := if q = 2 ^ 24 then 2 ^ 23 else q
    let ex : Int := (if q = 2 ^ 24 then e + 1 else e) + 150
    if ex ≤ 0 then realZero neg
    else if 255 ≤ ex then realInf neg
    else BitVec.ofNat 32 ((if neg then 2 ^ 31 else 0) + ex.toNat * 2 ^ 23 + (m - 2 ^ 23))

/-- An integer times 2^e as REAL32. -/
def roundDyadic (x : Int) (e : Int) : Word :=
  roundReal (decide (x < 0)) (x.natAbs * pow2 e) (pow2 (-e))

/-- A ratio of integers as REAL32. -/
def realOfRat (x : Int) (d : Nat) : Word := roundReal (decide (x < 0)) x.natAbs d

/-- The signed mantissa of a finite value. -/
def signedMant (neg : Bool) (m : Nat) : Int := if neg then -(m : Int) else m

/-- Sum. -/
def realAdd (a b : Word) : Word :=
  match realVal a, realVal b with
  | .nan, _ => realNaN
  | _, .nan => realNaN
  | .inf x, .inf y => if x = y then realInf x else realNaN
  | .inf x, _ => realInf x
  | _, .inf y => realInf y
  | .fin s m e, .fin t n f =>
    let g := min e f
    let x := signedMant s m * (pow2 (e - g) : Int) + signedMant t n * (pow2 (f - g) : Int)
    if x = 0 then realZero (s && t && decide (m = 0) && decide (n = 0)) else roundDyadic x g

/-- The value with its sign changed; a NaN gives the module's NaN. -/
def realNeg (a : Word) : Word :=
  match realVal a with
  | .nan => realNaN
  | .inf s => realInf (!s)
  | .fin s m e => if m = 0 then realZero (!s) else roundDyadic (signedMant (!s) m) e

/-- Absolute value. -/
def realAbs (a : Word) : Word :=
  match realVal a with
  | .nan => realNaN
  | .inf _ => realInf false
  | .fin _ m e => if m = 0 then realZero false else roundDyadic m e

/-- Difference. -/
def realSub (a b : Word) : Word :=
  match realVal b with
  | .nan => realNaN
  | _ => realAdd a (realNeg b)

/-- Product. -/
def realMul (a b : Word) : Word :=
  match realVal a, realVal b with
  | .nan, _ => realNaN
  | _, .nan => realNaN
  | .inf s, .inf t => realInf (s != t)
  | .inf s, .fin t n _ => if n = 0 then realNaN else realInf (s != t)
  | .fin s m _, .inf t => if m = 0 then realNaN else realInf (s != t)
  | .fin s m e, .fin t n f =>
    if m * n = 0 then realZero (s != t) else roundDyadic (signedMant (s != t) (m * n)) (e + f)

/-- Quotient. -/
def realDiv (a b : Word) : Word :=
  match realVal a, realVal b with
  | .nan, _ => realNaN
  | _, .nan => realNaN
  | .inf _, .inf _ => realNaN
  | .inf s, .fin t _ _ => realInf (s != t)
  | .fin s _ _, .inf t => realZero (s != t)
  | .fin s m e, .fin t n f =>
    if n = 0 then (if m = 0 then realNaN else realInf (s != t))
    else if m = 0 then realZero (s != t)
    else roundReal (s != t) (m * pow2 (e - f)) (n * pow2 (f - e))

/-- The integer square root, found bit by bit from bit `k` downward. -/
def isqrtFrom (k x r : Nat) : Nat :=
  match k with
  | 0 => if (r + 1) * (r + 1) ≤ x then r + 1 else r
  | j + 1 => isqrtFrom j x (if (r + 2 ^ (j + 1)) * (r + 2 ^ (j + 1)) ≤ x then r + 2 ^ (j + 1) else r)

/-- Integer square root of a number below 2^128. -/
def isqrt (x : Nat) : Nat := isqrtFrom 63 x 0

/-- Square root. -/
def realSqrt (a : Word) : Word :=
  match realVal a with
  | .nan => realNaN
  | .inf s => if s then realNaN else realInf false
  | .fin s m e =>
    if m = 0 then realZero s
    else if s then realNaN
    else
      let sh : Nat := if e % 2 = 0 then 40 else 41
      let x := m * 2 ^ sh
      let r := isqrt x
      let sticky := if r * r = x then 0 else 1
      roundDyadic ((2 * r + sticky : Nat) : Int) ((e - (sh : Int)) / 2 - 1)

/-- Whether the word is a NaN. -/
def realIsNaN (a : Word) : Bool :=
  match realVal a with
  | .nan => true
  | _ => false

/-- Whether the word is finite. -/
def realIsFin (a : Word) : Bool :=
  match realVal a with
  | .fin _ _ _ => true
  | _ => false

/-- The order of two values that are not NaN; `none` when either is. -/
def realCmp (a b : Word) : Option Ordering :=
  match realVal a, realVal b with
  | .nan, _ => none
  | _, .nan => none
  | .inf s, .inf t => some (compare (signedMant s 1) (signedMant t 1))
  | .inf s, _ => some (if s then .lt else .gt)
  | _, .inf t => some (if t then .gt else .lt)
  | .fin s m e, .fin t n f =>
    let g := min e f
    some (compare (signedMant s m * (pow2 (e - g) : Int)) (signedMant t n * (pow2 (f - g) : Int)))

/-- A finite value times `num / den`, rounded half away from zero to an integer; `none` otherwise. -/
def realScaled (a : Word) (num den : Nat) : Option Int :=
  match realVal a with
  | .fin s m e => some (signedMant s (divHalfUp (m * num * pow2 e) (den * pow2 (-e))))
  | _ => none

/-- A finite value as a ratio: signed numerator and denominator. -/
def realRat (a : Word) : Option (Int × Nat) :=
  match realVal a with
  | .fin s m e => some (signedMant s m * (pow2 e : Int), pow2 (-e))
  | _ => none

end Sys2Proof.Machine
end

