-- ==== Sys2Proof/Machine/DioCore.lean ====
section
/-! DEFINITION. Output channels of DIO: masters and followers, an owner's command through ARB's grant, safe state,
shedding and zero-crossing wait to the pad (R503, R507, R508, R510 to R512). -/

namespace Sys2Proof.Machine

/-- A channel beside its registers. -/
def State.chan (s : State) (c : Nat) : DioCh := tget (fun _ => DioCh.idle) s.dio.chans c

/-- Put a channel. -/
def State.setChan (s : State) (c : Nat) (x : DioCh) : State :=
  { s with dio := { s.dio with chans := tset (fun _ => DioCh.idle) s.dio.chans c x } }

/-- The master of the pair or quad that a channel belongs to; itself when not paralleled (R503). -/
def State.dioMaster (s : State) (c : Nat) : Nat :=
  match s.fld (Reg.DIO_GRPg_CFG (c / 4)) 0 2 with
  | 1 => c - c % 2
  | 2 => c - c % 4
  | _ => c

/-- The channels that switch with master `c`, itself included (R503). -/
def State.dioSet (s : State) (c : Nat) : List Nat := (List.range 24).filter (fun d => s.dioMaster d == c)

/-- DIO_CHcCFG.MODE (R519). -/
def State.dioMode (s : State) (c : Nat) : Nat := s.fld (Reg.DIO_CHcCFG c) 0 2

/-- The quality of a channel's points: FAULT under REV, SHORT or LATCHED (R515). -/
def State.dioQuality (s : State) (c : Nat) : Nat :=
  if s.flag Reg.DIO_STAT 3 ∨ s.flag (Reg.DIO_CHcSTAT c) 2 ∨ s.flag (Reg.DIO_CHcSTAT c) 9 then Q.FAULT else Q.GOOD

/-- Write a channel's points (R515): the filtered input or the read-back, the edge count and the status. -/
def State.pubDio (s : State) (c : Nat) : State :=
  let q := s.dioQuality c
  let st := if s.dioMode c = 2 then s.flag (Reg.DIO_CHcSTAT c) 1 else s.flag (Reg.DIO_CHcSTAT c) 0
  let s1 := s.pubPoint Reg.DIO_PT_BASE (4 * c) (if st then 1 else 0) q
  let s2 := s1.pubPoint Reg.DIO_PT_BASE (4 * c + 2) ((s.reg (Reg.DIO_CHcCNT c)).setWidth 64) q
  s2.pubPoint Reg.DIO_PT_BASE (4 * c + 3) (BitVec.ofNat 64 (s.fld (Reg.DIO_CHcSTAT c) 0 16)) q

/-- Drive a master and its followers to a level (R503): STATE shows the commanded output. -/
def State.dioDrive (s : State) (c : Nat) (v : Bool) : State :=
  let s1 := s.setChan c { s.chan c with on := v, waiting := none, takenClk := 0 }
  (s.dioSet c).foldl (fun a d =>
    (((a.setFlag (Reg.DIO_CHcSTAT d) 0 v).setFlag (Reg.DIO_CHcSTAT d) 10 false).emit (.dioOut d v)).pubDio d) s1

/-- Whether the channel's outputs are held from their owners' commands: safe state, shedding, or a reversed supply
(R510 to R512), a short latched or awaiting its retry (R509). -/
def State.dioHeld (s : State) (c : Nat) : Bool :=
  s.dio.safe || s.dio.dieLost || s.dio.shed.contains (c / 4) || s.flag Reg.DIO_STAT 3 || s.flag (Reg.DIO_CHcSTAT c) 9
    || (s.chan c).retryDue

/-- Complete the host operations that wait for the channel's command; a firing of LAT that waits is completed by its
acknowledgement (R507, R114). -/
def State.dioAnswer (s : State) (c status : Nat) : State :=
  let x := s.chan c
  let s1 := s.setChan c { x with waiters := [] }
  x.waiters.foldl (fun a t =>
    if (a.slot t).block = Blk.DIO then a.decideOp t status 0
    else { a with lat := { a.lat with firings := a.lat.firings.map (fun f =>
             if f.tag = t then { f with refused := status != St.OK } else f) } }) s1

/-- A command is taken: it switches at once, or waits for its zero-crossing edge while RUN = 1 (R508). -/
def State.dioTake (s : State) (c : Nat) (v : Bool) : State :=
  let s1 := ((s.setChan c { s.chan c with asking := false }).setFlag (Reg.DIO_CHcSTAT c) 8 false).dioAnswer c St.OK
  if s.flag (Reg.DIO_CHcZX c) 16 ∧ s.flag Reg.LAT_STATE 3 then
    (s1.setChan c { s1.chan c with waiting := some v, takenClk := s.clk }).setFlag (Reg.DIO_CHcSTAT c) 10 true
  else s1.dioDrive c v

/-- The budgeted current of a channel in mA, values above 2,000 read as 2,000 (R173, R197). -/
def State.fieldMa (s : State) (c : Nat) : Nat := Nat.min 2000 (s.fld (Reg.ARB_FCcCFG c) 0 12)

/-- Ask ARB for a channel's current (R507). -/
def State.dioAsk (s : State) (c : Nat) : State :=
  let s1 := s.setChan c { s.chan c with asking := true }
  { s1 with arb := { s1.arb with
      fieldAsks := s1.arb.fieldAsks.filter (fun a => a.channel != c) ++ [⟨c, s.clk⟩] } }

/-- Withdraw a channel's request. -/
def State.dioUnask (s : State) (c : Nat) : State :=
  let s1 := s.setChan c { s.chan c with asking := false, arbCut := false }
  { s1 with arb := { s1.arb with fieldAsks := s1.arb.fieldAsks.filter (fun a => a.channel != c) } }

/-- Apply the latest command of a channel's owner: a switch-off is taken at once; a budgeted output asks ARB each time it is
switched on (R173, R507). -/
def State.dioApply (s : State) (c : Nat) : State :=
  match (s.chan c).cmd with
  | none => s
  | some false => (s.dioUnask c).dioTake c false
  | some true =>
    let x := s.chan c
    if s.fieldMa c = 0 ∨ (x.grant ≠ 0 ∧ (x.on ∨ x.waiting = some true)) then s.dioTake c true else s.dioAsk c

/-- An owner's command: recorded, and applied unless the channel is held (R507, R510, R512). `tag` waits for it. -/
def State.dioCommand (s : State) (c : Nat) (v : Bool) (tag : Option Nat) : State :=
  let x := s.chan c
  let s1 := s.setChan c { x with cmd := some v, waiters := match tag with
    | some t => x.waiters ++ [t]
    | none => x.waiters }
  if s1.dioHeld c then s1 else s1.dioApply c

/-- Set a channel's grant, which ARB_FCcGRANT shows (R173). -/
def State.setFieldGrant (s : State) (c ma : Nat) : State :=
  (s.setChan c { s.chan c with grant := ma }).setNum (Reg.ARB_FCcGRANT c) ma

/-- ARB gives a channel its grant (R173, R507). -/
def State.dioGrant (s : State) (c : Nat) : State :=
  let s0 := s.setFieldGrant c (s.fieldMa c)
  let s1 := s0.setChan c { s0.chan c with arbCut := false }
  let s2 := { s1 with arb := { s1.arb with fieldStamp := tset (fun _ => 0) s1.arb.fieldStamp c s.chain,
                                           fieldAsks := s1.arb.fieldAsks.filter (fun a => a.channel != c) } }
  if s2.dioHeld c ∨ (s2.chan c).cmd ≠ some true then s2.setFieldGrant c 0 else s2.dioTake c true

/-- ARB refuses a channel's switch-on: the output stays off (R507, R172); the request of one that ARB cut stands until it is
granted (R185). -/
def State.dioRefuse (s : State) (c : Nat) : State :=
  if (s.chan c).arbCut then s.dioAnswer c St.FAIL_BUDGET
  else
  let s1 := (s.dioUnask c).dioAnswer c St.FAIL_BUDGET
  ((s1.setFlag (Reg.DIO_CHcSTAT c) 8 true).raiseIrq Blk.DIO 9).pubDio c

/-- ARB cuts a field output: it is switched off and held off until it is granted again (R185). -/
def State.dioCut (s : State) (c : Nat) : State :=
  let s1 := (s.dioDrive c false).setFieldGrant c 0
  (s1.setChan c { s1.chan c with arbCut := true }).dioAsk c

/-- DIO_CHcCFG.SAFE: 0 off, 1 on, 2 hold, 3 read as 0 (R519). -/
def State.dioSafeValue (s : State) (c : Nat) : Nat :=
  let v := s.fld (Reg.DIO_CHcCFG c) 3 2
  if v = 3 then 0 else v

/-- The field die stores the SAFE values of the outputs; 2 stands for an output that holds (R511). -/
def State.storeSafe (s : State) : State :=
  s.forN 24 fun a c =>
    { a with dio := { a.dio with dieSafe := tset (fun _ => 2) a.dio.dieSafe c (if a.dioMode c = 2 then a.dioSafeValue c else 2) } }

/-- Short retries in the present 60 s (R509, R520). -/
def State.shortRetries (s : State) (c : Nat) : List Nat :=
  (s.chan c).retries.filter (fun k => decide (s.clk < k + 60000 * msClk))

/-- Put one output at its SAFE value (R510). -/
def State.dioToSafe (s : State) (c : Nat) : State :=
  if s.dioMode c ≠ 2 then s
  else
    let s1 := (s.dioUnask c).setFlag (Reg.DIO_CHcSTAT c) 6 true
    let s2 := s1.setChan c { s1.chan c with waiting := none }
    match s.dioSafeValue c with
    | 0 => s2.dioDrive c false
    | 1 => s2.dioDrive c true
    | _ => s2.pubDio c

/-- Every output goes to its SAFE value (R510, R511). -/
def State.enterSafe (s : State) : State :=
  let s1 := s.forN 24 (fun a c => if a.dioMaster c = c then a.dioToSafe c else a.setFlag (Reg.DIO_CHcSTAT c) 6
    (a.dioMode c == 2))
  { s1 with dio := { s1.dio with safe := true } }

/-- Outputs leave safe state and take the latest command of their owners; one whose owner gave none, or that SAFE held
on without a command, is switched off (R511; log entry 33). -/
def State.leaveSafe (s : State) : State :=
  let s1 := { s with dio := { s.dio with safe := false, wdtExpired := false, dieLost := false } }
  let s2 := s1.setFlag Reg.DIO_STAT 4 false
  s2.forN 24 (fun a c =>
    let a1 := a.setFlag (Reg.DIO_CHcSTAT c) 6 false
    if a1.dioMode c ≠ 2 ∨ a1.dioMaster c ≠ c then a1
    else if a1.dioHeld c then a1
    else match (a1.chan c).cmd with
      | some _ => a1.dioApply c
      | none => if (a1.chan c).on then a1.dioDrive c false else a1)

/-- Whether outputs may leave safe state in the present mode: run mode only (R27, R28, R511). -/
def State.maySwitch (s : State) : Bool := s.mode == Mode.RUN

/-- The logic-silence watchdog is restarted (R510, R511): with RESUME_AUTO = 1 the outputs leave safe state. -/
def State.kickWdt (s : State) : State :=
  let s1 := { s with dio := { s.dio with wdtExpired := false, wdtClk := s.clk } }
  if s.dio.safe ∧ s.flag Reg.DIO_WDT 10 ∧ s.maySwitch then s1.leaveSafe else s1

/-- The end of an SCN output phase: it restarts the watchdog with SRC_SCN = 1 (R510), and the first one after a return to
run mode ends the safe state that the watchdog did not cause (R28). -/
def State.phaseKick (s : State) : State :=
  let s1 := if s.flag Reg.DIO_WDT 8 then s.kickWdt else s
  if s1.dio.safe ∧ !s1.flag Reg.DIO_STAT 4 ∧ s1.maySwitch then s1.leaveSafe else s1

/-! ### Owners (R504, R66) -/

/-- The owner of a channel's output: the producer of its master's command point (R504). -/
def State.dioOwner (s : State) (c : Nat) : Option Claim :=
  let m := s.dioMaster c
  let b := s.fld Reg.DIO_PT_BASE 0 16
  if s.dioMode c = 1 then some ⟨0x2000 + c, Blk.DIO, 1, c⟩
  else if s.dioMode c ≠ 2 ∨ b = 0xFFFF then none
  else match (s.point (b + 4 * m + 1)).producer with
    | .task n => some ⟨0x2000 + c, Blk.SCN, 1, n⟩
    | .block k => some ⟨0x2000 + c, k, 1, c⟩
    | _ => none

/-- Whether a claim of an output stands beside its command point's producer: the host's, LAT's, EMU's (R504). -/
def Claim.standsBy (c : Claim) : Bool := c.block == Blk.HIF || c.block == Blk.LAT || c.block == Blk.EMU

/-- A block that produces command points claims their channels afresh; a refusal is reported (R66, R68). -/
def State.claimOutputs (s : State) (b : Nat) : State :=
  s.forN 24 fun a c => match a.dioOwner c with
    | none => a
    | some o =>
      if o.block ≠ b then a
      else match a.claimOf (0x2000 + c) with
        | none => { a with claims := a.claims ++ [o] }
        | some h => if h = o ∨ h.standsBy then a else a.reportErr b St.FAIL_CONFLICT (conflictWord h)

end Sys2Proof.Machine
end

