-- ==== Sys2Proof/Machine/StoReq.lean ====
section
/-! DEFINITION. How a block of the module asks STO for a write (R375, R73): an internal operation of block 0Eh, held
while no tag is free. -/

namespace Sys2Proof.Machine

/-! Opcodes of STO (R376). -/
namespace StoOp
abbrev PUT : Nat := 1
abbrev APPEND : Nat := 2
abbrev GET : Nat := 3
abbrev DELETE : Nat := 4
abbrev BARRIER : Nat := 5
abbrev FLUSH : Nat := 6
abbrev INFO : Nat := 7
abbrev FORMAT : Nat := 8
end StoOp

/-! Data classes (R374). -/
namespace Cls
abbrev COMMIT : Nat := 1
abbrev CRITICAL : Nat := 2
abbrev JOURNAL : Nat := 3
abbrev TREND : Nat := 4
abbrev BULK : Nat := 5
end Cls

/-- An object ID (R373). -/
def objId (ctx owner name : Nat) : Nat := ctx * 2 ^ 48 + owner * 2 ^ 40 + name

/-- The class a block's object has (R375). -/
def StoFor.cls (w : StoFor) : Nat :=
  match w with
  | .record _ => Cls.JOURNAL
  | _ => Cls.CRITICAL

/-- The block that asks (R375). -/
def StoFor.owner (w : StoFor) : Nat :=
  match w with
  | .stakes _ => Blk.LAT
  | .scenes _ => Blk.LCP
  | .keyRecord _ => Blk.KEY
  | .blob _ _ => Blk.KEY
  | .reserve _ => Blk.TEN
  | .record _ => Blk.EMU
  | .scan _ => Blk.SCN
  | .placement _ => Blk.HLK

/-- The internal operation of an ask begins with the next free tag; the request is held while there is none (R73). -/
def State.beginAsk (s : State) (a : StoAsk) : State :=
  match s.beginInternal a.why.owner Blk.STO a.op 0 10000 0 with
  | some (t, s1) => { s1 with sto := { s1.sto with asks := s1.sto.asks ++ [(t, a)] } }
  | none =>
    let s1 := s.holdForTag (.stoWrite a.id)
    { s1 with sto := { s1.sto with held := s1.sto.held ++ [a] } }

/-- A block asks STO to write an object. -/
def State.stoAsk (s : State) (why : StoFor) (obj op : Nat) (data : List Byte) : State :=
  ({ s with sto := { s.sto with nextId := s.sto.nextId + 1 } }).beginAsk ⟨s.sto.nextId, why, obj, why.cls, op, data⟩

/-- Bytes of a module object whose layout the spec does not give: free for each object and write. -/
def State.stoFree (s : State) (obj : Nat) : List Byte :=
  (List.range (Config.objectLen obj)).map (fun i => Config.objectByte obj s.sto.nextId i)

/-- The outcome of an ended module write, if it is there to be taken up. -/
def State.stoEnded (s : State) (w : StoFor) : Option Nat :=
  (s.sto.durable.find? (fun e => e.1 == w)).map (fun e => e.2)

/-- Take up an ended module write. -/
def State.stoTake (s : State) (w : StoFor) : State :=
  { s with sto := { s.sto with durable := s.sto.durable.filter (fun e => e.1 != w) } }

/-! ### COMMIT slots (R376, R387, R388) -/

/-- The half that a GET takes: the higher sequence (R388). -/
def CommitSlot.newest (x : CommitSlot) : Option SlotHalf :=
  match x.a, x.b with
  | some p, some q => if p.seq < q.seq then some q else some p
  | some p, none => some p
  | none, y => y

/-- A PUT writes the slot's older half with the next sequence (R388). -/
def CommitSlot.put (x : CommitSlot) (ver : Nat) (data : List Byte) : CommitSlot :=
  let h : SlotHalf := ⟨(match x.newest with
    | some y => y.seq + 1
    | none => 1), ver, data⟩
  match x.a, x.b with
  | none, _ => { x with a := some h }
  | _, none => { x with b := some h }
  | some p, some q => if p.seq < q.seq then { x with a := some h } else { x with b := some h }

/-- Put an object of STO, or remove it; STO_OBJECTS and the class count show it (R396). -/
def State.putObj (s : State) (id : Nat) (o : Option StoObj) : State :=
  let s1 := { s with sto := { s.sto with objs := match o with
    | some x => tput s.sto.objs id x
    | none => tdel s.sto.objs id } }
  let s2 := s1.setNum Reg.STO_OBJECTS s1.sto.objs.length
  s2.forN 5 fun a k => a.setNum (Reg.STO_CLk_OBJECTS (k + 1)) (a.sto.objs.filter (fun e => e.2.cls == k + 1)).length

/-- An object, if it exists. -/
def State.stoObj (s : State) (id : Nat) : Option StoObj := tfind? s.sto.objs id

/-- EMU's hold ring (R350, R375): the slot of a record takes its bytes; the write is durable at once (R388, R389). -/
def State.holdSlot (s : State) (n : Nat) (data : List Byte) : State :=
  let id := objId 0 Blk.EMU 1
  let o := (s.stoObj id).getD ⟨Cls.COMMIT, 0, 0, .slots 1024 384 [], false, false⟩
  match o.body with
  | .slots k size t =>
    let old := tget (fun _ => CommitSlot.mk none none) t n
    s.putObj id (some { o with ver := o.ver + 1,
                               body := .slots k size (tput t n (old.put (o.ver + 1) data)) })
  | _ => s

end Sys2Proof.Machine
end

