-- ==== Sys2Proof/Machine/LatStakes.lean ====
section
/-! DEFINITION. LAT's stake table: entry format, editing, past-due policies, the feed to ARB and the restore of
PERSIST stakes (R113 to R120, R123 to R125). Firing stands in Machine/LatFire.lean. -/

namespace Sys2Proof.Machine

/-- The entry that 256 bits spell (R113); module fields are taken as they stand. -/
def stakeOfBits (n : Nat) : Stake :=
  { chainage := BitVec.ofNat 64 n, action := bitsOf n 64 8, late := bitsOf n 72 3, persist := bitOf n 75,
    valid := bitOf n 76, owner := bitsOf n 80 8, ctx := bitsOf n 96 16, gen := bitsOf n 112 16,
    period := bitsOf n 128 32, count := bitsOf n 160 16, target := bitsOf n 176 16,
    arg := BitVec.ofNat 64 (bitsOf n 192 64), pastDue := false, rolledTo := none }

/-- The 256 bits of an entry, as the stake view shows them (R113, R131). -/
def Stake.bits (k : Stake) : Nat :=
  k.chainage.toNat + k.action * 2 ^ 64 + k.late * 2 ^ 72 + (if k.persist then 2 ^ 75 else 0)
    + (if k.valid then 2 ^ 76 else 0) + k.owner * 2 ^ 80 + k.ctx * 2 ^ 96 + k.gen * 2 ^ 112
    + k.period * 2 ^ 128 + k.count * 2 ^ 160 + k.target * 2 ^ 176 + k.arg.toNat * 2 ^ 192

/-- The stake at an index. -/
def State.stake (s : State) (i : Nat) : Stake := tget (fun _ => Stake.empty) s.lat.stakes i

/-- Put an entry at an index. -/
def State.putStake (s : State) (i : Nat) (k : Stake) : State :=
  { s with lat := { s.lat with stakes := tset (fun _ => Stake.empty) s.lat.stakes i k } }

/-- The valid stakes with their indices, ascending. -/
def State.validStakes (s : State) : List (Nat × Stake) := s.lat.stakes.filter (fun e => e.2.valid)

/-- The chainage at which a stake fires: its own, or the one it was rolled to (R124). -/
def Stake.fireAt (k : Stake) : Nat := k.rolledTo.getD k.chainage.toNat

/-- Whether entry `a` is before entry `b` in firing order: by chainage, then by index (R121). -/
def fireBefore (a b : Nat × Stake) : Bool :=
  decide (a.2.fireAt < b.2.fireAt) || (decide (a.2.fireAt = b.2.fireAt) && decide (a.1 < b.1))

/-- The next stake due: lowest chainage, then lowest index. -/
def State.nextStake (s : State) : Option (Nat × Stake) :=
  s.validStakes.foldl (fun m e =>
    match m with
    | none => some e
    | some b => if fireBefore e b then some e else some b) none

/-- LAT_STK_USED and LAT_NEXT show the table (R131). -/
def State.noteStakes (s : State) : State :=
  let s1 := s.setNum Reg.LAT_STK_USED s.validStakes.length
  match s.nextStake with
  | some e => s1.setNum64 Reg.LAT_NEXT_LO e.2.fireAt
  | none => s1.setNum64 Reg.LAT_NEXT_LO (2 ^ 64 - 1)

/-- Pass an edit record to ARB's look-ahead (R119). -/
def State.feedStake (s : State) (i : Nat) : State :=
  let k := s.stake i
  { s with lat := { s.lat with feed := s.lat.feed ++ [⟨i, k.gen, if k.valid then some k else none⟩] } }

/-- The DIO channel resource a stake needs (R65, R115). -/
def Stake.dioResource (k : Stake) : Nat := 0x2000 + k.target

/-- Whether a valid DIO_SET stake names the channel. -/
def State.dioStakeOn (s : State) (channel : Nat) : Bool :=
  s.validStakes.any (fun e => e.2.action == 3 && e.2.target == channel)

/-- Release LAT's claim of a channel that no valid DIO_SET stake names any more (R115). -/
def State.releaseDio (s : State) (k : Stake) : State :=
  if k.action = 3 ∧ k.valid ∧ !s.dioStakeOn k.target then s.unclaim k.dioResource Blk.LAT else s

/-- Claim the channel of a DIO_SET stake, unless LAT holds it already (R115, R67). -/
def State.claimDio (s : State) (i : Nat) (k : Stake) : Except Word State :=
  if k.action ≠ 3 then .ok s
  else match s.claimOf k.dioResource with
    | some c => if c.block = Blk.LAT then .ok s else .error (conflictWord c)
    | none => s.claim ⟨k.dioResource, Blk.LAT, 1, i⟩

/-- One edit takes effect at an index: LAT_TBL_GEN and GEN are incremented and the record passes to the feed
(R118, R119). -/
def State.editStake (s : State) (i : Nat) (k : Stake) : State :=
  let old := s.stake i
  let s1 := s.putStake i { k with gen := (old.gen + 1) % 2 ^ 16 }
  ((((s1.wrapInc Reg.LAT_TBL_GEN 1).feedStake i).releaseDio old)).noteStakes

/-- A stake after an occurrence or a folded set of grid points up to chainage `ref`: the first point of its grid
above `ref` with COUNT reduced, or nothing (R123, R125). -/
def Stake.after (k : Stake) (ref : Nat) : Option Stake :=
  if k.period = 0 then none
  else
    let n := (ref - k.chainage.toNat) / k.period + 1
    if k.count = 0xFFFF then
      some { k with chainage := BitVec.ofNat 64 (k.chainage.toNat + n * k.period), pastDue := false, rolledTo := none }
    else if k.count ≤ n then none
    else some { k with chainage := BitVec.ofNat 64 (k.chainage.toNat + n * k.period), count := k.count - n,
                       pastDue := false, rolledTo := none }

/-- LAT writes the stored set of PERSIST stakes; one that a restore dropped leaves it with this write (R120). -/
def State.writeStored (s : State) (f : Tbl Stake → Tbl Stake) : State :=
  { s with lat := { s.lat with stored := tdrop (f s.lat.stored) s.lat.dropped.contains, dropped := [] } }

/-- Move a stake past an occurrence: the next one stands with the same GEN and passes to the feed, or the entry is
cleared (R123). A cleared PERSIST stake leaves the stored set. -/
def State.spendStake (s : State) (i ref : Nat) : State :=
  let k := s.stake i
  match k.after ref with
  | some k' =>
    let s1 := (s.putStake i k').feedStake i
    let s2 := if k.persist then s1.writeStored (fun l => tput l i k') else s1
    s2.noteStakes
  | none =>
    let s1 := s.putStake i { Stake.empty with gen := k.gen }
    let s2 := if k.persist then s1.writeStored (fun l => tdel l i) else s1
    ((s2.feedStake i).releaseDio k).noteStakes

/-- RESULT of a firing operation (R122). -/
def fireResult (i : Nat) (rolled last : Bool) (lateness : Nat) : Word :=
  BitVec.ofNat 32 (i % 4096 + (if rolled then 2 ^ 12 else 0) + (if last then 2 ^ 13 else 0)
    + Nat.min lateness 0x3FFFF * 2 ^ 14)

/-- LAT_STK_CFG.DEF_TIMEOUT in ms, 0 read as 1 (R131). -/
def State.stakeTimeout (s : State) : Nat := Nat.max 1 (s.fld Reg.LAT_STK_CFG 8 8)

/-- A FAIL_MISSED outcome: an internal operation that is decided at once; the stake moves past the grid points passed
over (R122, R124, R125). Without a free tag it is held (R73). -/
def State.missStake (s : State) (i : Nat) : State :=
  let k := s.stake i
  match s.beginInternal Blk.LAT Blk.LAT k.action k.ctx s.stakeTimeout 0 with
  | none => s.holdForTag (.stake i)
  | some (t, s1) =>
    let last := (k.after s.chain).isNone
    let s2 := s1.spendStake i s.chain
    (((s2.satInc Reg.LAT_MISSED_CNT 0 32 1).raiseIrq Blk.LAT 5)).decideOp t St.FAIL_MISSED
      (fireResult i false last (s.chain - k.chainage.toNat))

/-- The first chainage after `p` whose angle equals the stake's (R124 NEXT). -/
def rollTo (p ch : Nat) : Nat :=
  let c := p / 65536 * 65536 + ch % 65536
  if p < c then c else c + 65536

/-- The late policy of a stake that is past due at the present chainage (R124): RUN_LATE fires at the next
evaluation, DROP is missed at once, NEXT is rolled. A stake that is not past due stays as it is. -/
def State.pastDue (s : State) (i : Nat) : State :=
  let k := s.stake i
  if !k.valid ∨ s.chain ≤ k.chainage.toNat then s
  else match k.late with
    | 1 => s.missStake i
    | 2 => (s.putStake i { k with rolledTo := some (rollTo s.chain k.chainage.toNat) }).noteStakes
    | _ => (s.putStake i { k with pastDue := true }).noteStakes

/-! ### Edit operations (R114, R116, R117) -/

/-- Whether ARG fits the action and its target (R114). -/
def State.argFits (s : State) (k : Stake) : Bool :=
  let a := k.arg.toNat
  match k.action with
  | 1 => let p := s.point k.target
         p.type != PtType.NONE && (p.type == PtType.BOOL || normValue p.type k.arg == k.arg)
  | 2 => decide (k.target < 256) && a == bitsOf a 0 6 + bitsOf a 8 16 * 256
  | 3 => decide (k.target < 24) && decide (a < 2)
  | 4 => decide (k.target < 48) && decide (a < 2)
  | 5 => decide (k.target < 16) && a == 0
  | 6 => k.target == 0 && a == 0
  | 7 => k.target == 0
  | _ => false

/-- Whether the entry's own fields are allowed (R113, R114). -/
def State.entryValid (s : State) (k : Stake) : Bool :=
  decide (k.late < 4) && (k.period == 0 || (decide (1024 ≤ k.period) && k.count != 0)) && s.argFits k

/-- The producer check of a POINT_WRITE stake against its owner (R11, R114). -/
def State.ownerProduces (s : State) (owner target : Nat) : Bool :=
  match (s.point target).producer with
  | .host => owner == Blk.HIF
  | .block b => owner == b
  | .task _ => owner == Blk.SCN
  | .module _ => owner == Blk.HLK
  | _ => false

/-- Whether a context may write a stake's target (R114, R117): a point by R551, a group or a task by its own CTX;
the remaining targets belong to the landlord. -/
def State.ctxMayTarget (s : State) (ctx : Nat) (k : Stake) : Bool :=
  ctx == 0 ||
  match k.action with
  | 1 => s.hostMayWrite ctx k.target
  | 2 => s.fld (Reg.LCP_GRPg_CFG k.target) 0 16 == ctx
  | 5 => s.fld (Reg.SCN_TnCFG k.target) 16 16 == ctx
  | 7 => true
  | _ => false

/-- The producer and tenant checks of an entry (R114). -/
def State.stakeAllowed (s : State) (owner ctx : Nat) (k : Stake) : Bool :=
  s.ctxMayTarget ctx k && (k.action != 1 || s.ownerProduces owner k.target)

/-- LATE as stored: 011b takes DEF_LATE, whose values 011b to 111b read as 000b (R113, R131). -/
def State.resolveLate (s : State) (late : Nat) : Nat :=
  if late = 3 then (let d := s.fld Reg.LAT_STK_CFG 0 3; if d < 3 then d else 0) else late

/-- The editor of an edit operation: 02h host, 0Bh SCN, 0Fh HLK (R113). -/
def Slot.editor (x : Slot) : Nat :=
  match x.origin with
  | .internal b => b
  | _ => Blk.HIF

/-- An edit of the stake table gives way to the firings, and to the edits of a lower editor (R118, R126). -/
def State.editing (s : State) (t : Nat) (l : Late) (f : State → State) : State :=
  s.yielding (Rank.EDIT (s.slot t).editor) l f

/-- The slot of an ACTIVE edit with the given LAT opcode. A firing, which LAT produces and whose recorded opcode is
its ACTION code (R70), is no edit. -/
def State.activeEdit (s : State) (t opcode : Nat) : Option Slot :=
  match s.activeOp t Blk.LAT opcode with
  | some x => if x.editor = Blk.LAT then none else some x
  | none => none

/-- The index, expected generation, check flag and entry of an edit's PARAM (R116). -/
def editIndex (x : Slot) : Nat := paramField x.param 0 2
def editExpGen (x : Slot) : Nat := paramField x.param 2 2
def editCheck (x : Slot) : Bool := bitOf (paramField x.param 4 1) 0
def editEntry (x : Slot) : Stake := stakeOfBits (paramField x.param 16 32)

/-- The lowest free index. -/
def State.freeStake (s : State) : Option Nat := (List.range 4096).find? (fun i => !(s.stake i).valid)

/-- RESULT of an edit: index and GEN (R116). -/
def editResult (i gen : Nat) : Word := BitVec.ofNat 32 (i % 4096 + gen % 2 ^ 16 * 2 ^ 12)

/-- RESULT of a lost edit: present GEN and the owner's block ID (R117). -/
def editConflict (gen owner : Nat) : Word := BitVec.ofNat 32 (gen % 2 ^ 16 * 2 ^ 12 + owner % 16 * 2 ^ 28)

/-- Finish an edit: at once, or once its PERSIST change is durable (R119, R120). -/
def State.finishEdit (s : State) (t : Nat) (persist : Bool) (touched : List Nat) (r : Word) : State :=
  if persist then
    let s1 := s.setSlot t { s.slot t with result := r }
    let s2 := { s1 with lat := { s1.lat with durWait := s1.lat.durWait ++ [(t, touched)] } }
    s2.stoAsk (.stakes t) (objId 0 Blk.LAT 1) StoOp.PUT (s2.stoFree (objId 0 Blk.LAT 1))
  else s.decideOp t St.OK r

/-- Write an entry for an editor: module fields filled, claims made, past-due policy applied (R113, R115, R124). -/
def State.writeStake (s : State) (t i : Nat) (x : Slot) : State :=
  let old := s.stake i
  let e := editEntry x
  let k := { e with late := s.resolveLate e.late, valid := true, owner := x.editor, ctx := x.ctx, gen := 0 }
  match s.claimDio i k with
  | .error w => s.decideOp t St.FAIL_CONFLICT w
  | .ok s1 =>
    let s2 := s1.editStake i k
    let g := (s2.stake i).gen
    (s2.finishEdit t (k.persist || (old.valid && old.persist)) [i] (editResult i g)).pastDue i

/-- STAKE_SET (R113 to R120): at INDEX, or at the lowest free index. -/
def execStakeSet (tag : Nat) (s : State) : Host.Outcome State Fault Refusal :=
  s.powered fun s => s.editing tag (.stakeSet tag) fun s =>
  match s.activeEdit tag 1 with
  | none => s
  | some x =>
    let i := editIndex x
    let e := editEntry x
    if s.mode = Mode.MINIMAL then (s.decideOp tag St.FAIL_DENIED 0)
    else if (0x1000 ≤ i ∧ i ≠ 0xFFFF) ∨ !s.entryValid e then (s.decideOp tag St.FAIL_INVALID 0)
    else if !s.stakeAllowed x.editor x.ctx e then (s.decideOp tag St.FAIL_DENIED 0)
    else if i = 0xFFFF then
      match s.freeStake with
      | none => ((s.raiseIrq Blk.LAT 6).decideOp tag St.FAIL_CONFLICT 0)
      | some j => (s.writeStake tag j x)
    else
      let k := s.stake i
      if editCheck x ∧ k.gen ≠ editExpGen x then (s.decideOp tag St.FAIL_CONFLICT (editConflict k.gen 0))
      else if k.valid ∧ k.owner ≠ x.editor then (s.decideOp tag St.FAIL_CONFLICT (editConflict k.gen k.owner))
      else if k.valid ∧ !s.ctxMayTarget x.ctx k then (s.decideOp tag St.FAIL_DENIED 0)
      else (s.writeStake tag i x)

/-- STAKE_MODIFY (R116, R117): allowed to the stake's owner, in a tenant context while it may write the stake's target. -/
def execStakeModify (tag : Nat) (s : State) : Host.Outcome State Fault Refusal :=
  s.powered fun s => s.editing tag (.stakeModify tag) fun s =>
  match s.activeEdit tag 2 with
  | none => s
  | some x =>
    let i := editIndex x
    let e := editEntry x
    let k := s.stake i
    if s.mode = Mode.MINIMAL then (s.decideOp tag St.FAIL_DENIED 0)
    else if 0x1000 ≤ i ∨ !k.valid ∨ !s.entryValid e then (s.decideOp tag St.FAIL_INVALID 0)
    else if k.owner ≠ x.editor ∨ !s.stakeAllowed x.editor x.ctx e ∨ !s.ctxMayTarget x.ctx k then
      (s.decideOp tag St.FAIL_DENIED 0)
    else if editCheck x ∧ k.gen ≠ editExpGen x then (s.decideOp tag St.FAIL_CONFLICT (editConflict k.gen 0))
    else (s.writeStake tag i x)

/-- Clear the stake at an index as one edit (R116, R118). -/
def State.clearStake (s : State) (i : Nat) : State := s.editStake i Stake.empty

/-- Whether an editor may clear a stake: its owner, in a tenant context while it may write the stake's target, or the host in
context 0000h (R117). -/
def State.mayClear (s : State) (x : Slot) (k : Stake) : Bool :=
  (x.editor == Blk.HIF && x.ctx == 0) || (k.owner == x.editor && s.ctxMayTarget x.ctx k)

/-- STAKE_CLEAR (R116, R117). -/
def execStakeClear (tag : Nat) (s : State) : Host.Outcome State Fault Refusal :=
  s.powered fun s => s.editing tag (.stakeClear tag) fun s =>
  match s.activeEdit tag 3 with
  | none => s
  | some x =>
    let i := editIndex x
    let k := s.stake i
    if s.mode = Mode.MINIMAL then (s.decideOp tag St.FAIL_DENIED 0)
    else if 0x1000 ≤ i ∨ !k.valid then (s.decideOp tag St.FAIL_INVALID 0)
    else if !s.mayClear x k then (s.decideOp tag St.FAIL_DENIED 0)
    else if editCheck x ∧ k.gen ≠ editExpGen x then (s.decideOp tag St.FAIL_CONFLICT (editConflict k.gen 0))
    else
      let s1 := s.clearStake i
      (s1.finishEdit tag k.persist [i] (editResult i (s1.stake i).gen))

/-- STAKE_CLEAR_OWNER: every stake of an owner and context, ascending, one edit each (R116 to R118). -/
def execStakeClearOwner (tag : Nat) (s : State) : Host.Outcome State Fault Refusal :=
  s.powered fun s => s.editing tag (.stakeClearOwner tag) fun s =>
  match s.activeEdit tag 4 with
  | none => s
  | some x =>
    let owner := paramField x.param 0 1
    let ctx := paramField x.param 2 2
    let hit := s.validStakes.filter (fun e => e.2.owner == owner && e.2.ctx == ctx)
    if s.mode = Mode.MINIMAL then (s.decideOp tag St.FAIL_DENIED 0)
    else if !((x.editor == Blk.HIF && x.ctx == 0) || (x.editor == owner && hit.all (fun e => s.ctxMayTarget x.ctx e.2))) then
      (s.decideOp tag St.FAIL_DENIED 0)
    else
      let s1 := (hit.map (·.1)).foldl State.clearStake s
      (s1.finishEdit tag (hit.any (fun e => e.2.persist)) (hit.map (·.1)) (BitVec.ofNat 32 hit.length))

/-- The durable copy of an index follows the table (R120). -/
def State.storeStake (s : State) (i : Nat) : State :=
  let k := s.stake i
  s.writeStored (fun l => if k.valid && k.persist then tput l i k else tdel l i)

/-- STAKE_EDIT_DURABLE: the PERSIST edit completes once its change is durable in the CRITICAL class; a write that
ended otherwise gives the edit its status (R77, R120). -/
def execStakeEditDurable (tag : Nat) (s : State) : Host.Outcome State Fault Refusal := s.powered fun s =>
  match s.lat.durWait.find? (fun e => e.1 == tag), s.stoEnded (.stakes tag) with
  | some e, some st =>
    let s0 := s.stoTake (.stakes tag)
    let s1 := { s0 with lat := { s0.lat with durWait := s0.lat.durWait.filter (fun f => f.1 != tag) } }
    if st = St.OK then ((e.2.foldl State.storeStake s1).decideOp tag St.OK (s.slot tag).result)
    else (s1.decideOp tag st 0)
  | _, _ => s

/-! ### Restore (R120) -/

/-- Restore one stored stake with its stored OWNER, CTX and GEN; a DIO_SET stake whose channel another owner holds is
dropped, counted and reported, and leaves the stored set at LAT's next write of it. DESIGN CHOICE (log entry 189): a stake set
at its index before RUN gives place to it. -/
def State.restoreStake (s : State) (e : Nat × Stake) : State :=
  match s.claimDio e.1 e.2 with
  | .error w =>
    let s1 := ((s.satInc Reg.LAT_RESTORE_DROP 0 32 1).reportErr Blk.LAT St.FAIL_CONFLICT w).raiseIrq Blk.LAT 7
    { s1 with lat := { s1.lat with dropped := e.1 :: s1.lat.dropped.filter (· != e.1) } }
  | .ok s0 =>
    let s1 := { s0 with lat := { s0.lat with dropped := s0.lat.dropped.filter (· != e.1) } }
    (((s1.putStake e.1 { e.2 with pastDue := false, rolledTo := none }).feedStake e.1).noteStakes).pastDue e.1

/-- Restore the PERSIST stakes once RUN is set and EN = 1, before any firing; never in minimal mode (R120, R129,
R130). -/
def State.restoreStakes (s : State) : State :=
  if s.lat.restored ∨ !s.flag Reg.LAT_STATE 3 ∨ !s.en Blk.LAT ∨ s.mode = Mode.MINIMAL then s
  else
    let s1 := { s with lat := { s.lat with restored := true } }
    s1.lat.stored.foldl State.restoreStake s1

/-- Every valid stake whose chainage passed while EN was 0 takes its late policy at the setting of EN (R124). -/
def State.sweepPastDue (s : State) : State := (s.validStakes.map (·.1)).foldl State.pastDue s

end Sys2Proof.Machine
end

