-- ==== Sys2Proof/Machine/ScnGrid.lean ====
section
/-! DEFINITION. The tasks of SCN's banks and their next starts on the grid (R275, R301), as LAT and SCN need them. -/

namespace Sys2Proof.Machine

/-! SCN_TnSTAT.STATE (R291, R303). -/
namespace TaskSt
abbrev OFF : Nat := 0
abbrev WAITING : Nat := 1
abbrev READY : Nat := 2
abbrev RUNNING : Nat := 3
abbrev OUTPUT : Nat := 4
abbrev STOPPED : Nat := 5
end TaskSt

/-- The bank a run belongs to. -/
def State.bank (s : State) (b : Bool) : Bank := (if b then s.scn.bankB else s.scn.bankA).getD Bank.empty

/-- The active bank (R301): SCN_BANK.ACTIVE. -/
def State.activeB (s : State) : Bool := s.flag Reg.SCN_BANK 0

/-- The entry of a task in a bank. -/
def Bank.task (k : Bank) (t : Nat) : Option TaskEntry := k.tasks.find? (fun e => e.num == t)

/-- A task beside its registers. -/
def State.taskRt (s : State) (t : Nat) : TaskRt := tget (fun _ => TaskRt.fresh) s.scn.tasks t

/-- Put a task. -/
def State.setTaskRt (s : State) (t : Nat) (x : TaskRt) : State :=
  { s with scn := { s.scn with tasks := tset (fun _ => TaskRt.fresh) s.scn.tasks t x } }

/-- A task's state. -/
def State.taskSt (s : State) (t : Nat) : Nat := s.fld (Reg.SCN_TnSTAT t) 0 3

/-- The entry of a task in the active bank. -/
def State.taskEntry (s : State) (t : Nat) : Option TaskEntry := (s.bank s.activeB).task t

/-- The first chainage at or after `now` on a task's grid (R275). -/
def nextGrid (now period start : Nat) : Nat :=
  now + (((start : Int) - (now : Int)) % (Nat.max 1 period : Nat)).toNat

/-- Compute a task's next start; an event task shows all ones with none held (R275, R301). -/
def State.armNext (s : State) (t : Nat) : State :=
  match s.taskEntry t with
  | some e =>
    let h := (s.taskRt t).held
    s.setNum64 (Reg.SCN_TnNEXT_LO t)
      (if e.event then ((h.map (·.ch)).getD (2 ^ 64 - 1)) else nextGrid s.chain e.period e.start)
  | none => s

/-- RUN sets: each periodic task that is to run takes its next start on the grid (R275). -/
def State.armStarts (s : State) : State :=
  s.forN 16 fun a t =>
    if a.taskSt t = TaskSt.OFF ∨ a.taskSt t = TaskSt.STOPPED ∨ (a.taskEntry t).all (·.event) then a else a.armNext t

end Sys2Proof.Machine
end

