-- ==== Sys2Proof/Machine/LatTime.lean ====
section
/-! DEFINITION. LAT's timebase: the chainage counter, its states, the following of the mains and the cross-stamps
(R8, R101 to R112, R132). -/

namespace Sys2Proof.Machine

/-- LAT_STATE.STATE (R132). -/
def State.latSt (s : State) : Nat := s.fld Reg.LAT_STATE 0 3

/-- SYS cycles of a nominal line cycle (R103): 16,000,000 at 50 Hz, 13,333,333 at 60 Hz. -/
def State.nominalClk (s : State) : Nat := if s.flag Reg.LAT_REF_CFG 3 then 13333333 else 16000000

/-- Nominal line frequency in Hz. -/
def State.nominalHz (s : State) : Nat := if s.flag Reg.LAT_REF_CFG 3 then 60 else 50

/-- LAT_OFFSET in au (R105). -/
def State.latOffset (s : State) : Nat := s.fld Reg.LAT_OFFSET 0 16

/-- A counter rate, in units of 2^-32 au per SYS cycle, that advances 65,536 au plus `corr` au over `period` SYS
cycles (R102). -/
def rateFor (period : Nat) (corr : Int) : Nat := (((65536 + corr) * 2 ^ 32) / (Nat.max 1 period : Nat)).toNat

/-- A correction is at most 1,024 au in magnitude per cycle (R102). -/
def clampCorr (e : Int) : Int := clampInt (-1024) 1024 e

/-- An angle difference in the range −32,768 to +32,767 au (R110). -/
def wrapAngle (e : Int) : Int := (e + 32768) % 65536 - 32768

/-- Time base `n`, with its running value in units of 2^-32 · 10^-6 ns (R453). -/
def State.tb (s : State) (n : Nat) : TimeBase := s.tbs.getD n ⟨0, 0⟩

/-- One ns in the units of `TimeBase.time`. -/
def nsUnit : Nat := 2 ^ 32 * 1000000

/-- A base's seconds and nanoseconds. -/
def TimeBase.sec (b : TimeBase) : Nat := b.time / nsUnit / 1000000000
def TimeBase.ns (b : TimeBase) : Nat := b.time / nsUnit % 1000000000

/-- A change of LAT_STATE.STATE sets LOCK_CHANGE and begins the counts of R106 anew. -/
def State.latGoto (s : State) (st : Nat) : State :=
  let s1 := (s.setFld Reg.LAT_STATE 0 3 st).raiseIrq Blk.LAT 1
  { s1 with lat := { s1.lat with goodRun := 0, errRun := 0 } }

/-- RUN sets on the first entry to LOCKED or SYNTHETIC; the tasks take their next starts and PERSIST stakes are restored (R106,
R120, R275). -/
def State.latRun (s : State) : State :=
  (if s.flag Reg.LAT_STATE 3 then s else (s.setFlag Reg.LAT_STATE 3 true).armStarts).restoreStakes

/-- Cycles of holdover remaining: of the 50 from its entry on (R106, R132). -/
def State.holdLeft (s : State) : Nat := if s.latSt = LatSt.HOLDOVER then 50 - (s.chain - s.lat.holdCh) / 65536 else 0

/-- LAT_STATE as it reads (R132). -/
def State.latWord (s : State) : Nat := putBits (s.num Reg.LAT_STATE) 8 8 s.holdLeft

/-- LAT_SLEW: the remainder as last set, less what has been applied since (R110): the correction spread over one cycle. -/
def State.slewLeft (s : State) : Int :=
  let p := Nat.max 1 (if s.num Reg.LAT_PERIOD = 0 then s.nominalClk else s.num Reg.LAT_PERIOD)
  s.lat.slew - Int.tdiv (s.lat.corr * (Nat.min p (s.clk - s.lat.steerClk) : Nat)) (p : Nat)

/-- How often the counter has passed an angle. -/
def passes (pos angle : Nat) : Nat := (pos / 2 ^ 32 + 65536 - angle % 65536) / 65536

/-- Record one cross-stamp: the chainage with the running value of the four bases, whether valid or not, and
LAT_XS_SEQ incremented; `period` is the length in SYS cycles of the cycle whose rate a conversion uses (R8). -/
def State.crossStamp (s : State) (period : Nat) : State :=
  let s1 := s.setNum64 Reg.LAT_XS_CHAIN_LO s.chain
  let s2 := s1.forN 4 fun a n =>
    (a.setNum (Reg.LAT_XS_TBn_SEC n) (s.tb n).sec).setNum (Reg.LAT_XS_TBn_NS n) (s.tb n).ns
  let s3 := s2.wrapInc Reg.LAT_XS_SEQ 1
  { s3 with lat := { s3.lat with xsTbs := s.tbs, xsPeriod := period } }

/-- The value of base `n`, in ns, at a chainage, by the most recent cross-stamp and the chainage rate of the cycle
before it (R8); nothing is converted while the timebase is in RESET. -/
def State.chainToTb (s : State) (ch n : Nat) : Int :=
  if s.latSt = LatSt.RESET then 0
  else
    let x := s.num64 Reg.LAT_XS_CHAIN_LO
    let base := (s.lat.xsTbs.getD n ⟨0, 0⟩).time / nsUnit
    (base : Int) + (((ch : Int) - (x : Int)) * (s.lat.xsPeriod : Int) * 5) / (65536 * 4)

/-- Take a synthetic anchor: the present chainage and TB0 (R109). -/
def State.takeAnchor (s : State) : State :=
  let b := s.tb 0
  let s1 := s.setNum64 Reg.LAT_ANCHOR_CHAIN_LO s.chain
  let s2 := (s1.setNum Reg.LAT_ANCHOR_TB0_SEC b.sec).setNum Reg.LAT_ANCHOR_TB0_NS b.ns
  { s2 with lat := { s2.lat with anchorPos := s.lat.pos, anchorTb0 := b.time, corr := 0, slew := 0, steerClk := s.clk,
                                 rate := rateFor s.nominalClk 0 } }

/-- Enter SYNTHETIC: anchor taken, RUN set (R106, R109). -/
def State.enterSynthetic (s : State) : State :=
  (s.latGoto LatSt.SYNTHETIC).takeAnchor.latRun

/-- Where the synthetic line stands: 65,536 au for every 1/f seconds of TB0 since the anchor, in units of 2^-32 au
(R109). -/
def State.syntheticPos (s : State) : Nat :=
  s.lat.anchorPos + ((s.tb 0).time - s.lat.anchorTb0) * (65536 * s.nominalHz) * 2 ^ 32 / (nsUnit * 1000000000)

/-- Mean length in SYS cycles of the last qualified cycles (R108, R131). -/
def meanPeriod (l : List Nat) (d : Nat) : Nat := if l = [] then d else l.foldl (· + ·) 0 / l.length

/-- The signed phase error of a crossing at the present instant: its placement less the counter's prediction, which
the applied part of a whole-cycle correction has moved on purpose (R104, R105, R110, log entry 21). -/
def State.crossErr (s : State) : Int :=
  wrapAngle ((s.latOffset : Int) - (s.chain % 65536 : Nat) + s.lat.wholeApplied)

/-- The previous qualified crossing, when one occurred within the last 1.5 nominal cycles (R104). -/
def State.prevQual (s : State) : Option Nat :=
  match s.lat.lastQual with
  | some c => if 2 * (s.clk - c) ≤ 3 * s.nominalClk then some c else none
  | none => none

/-- Whether a crossing at the present instant is qualified (R104): VRMS, the interval since the previous qualified
crossing (15.38 ms to 22.22 ms), and in LOCKED the window of 4,096 au. -/
def State.qualifies (s : State) (vrms : Nat) : Bool :=
  decide (s.fld Reg.LAT_REF_CFG 8 8 ≤ vrms)
    && (match s.prevQual with
        | some c => decide (12304000 ≤ s.clk - c) && decide (s.clk - c ≤ 17776000)
        | none => true)
    && (s.latSt != LatSt.LOCKED || decide ((s.crossErr).natAbs ≤ 4096))

/-- Set the counter's rate from the last qualified cycle with the correction within its limit, and LAT_SLEW to the
remainder (R102, R110). -/
def State.steer (s : State) (remainder : Int) : State :=
  let corr := clampCorr remainder
  let s1 := s.setNum Reg.LAT_SLEW (unsigned 32 remainder)
  let p := if s.num Reg.LAT_PERIOD = 0 then s.nominalClk else s.num Reg.LAT_PERIOD
  { s1 with lat := { s1.lat with slew := remainder, corr := corr, steerClk := s.clk, rate := rateFor p corr } }

/-- The part of the whole-cycle correction not yet applied (R110, R112). -/
def Lat.wholeLeft (l : Lat) : Int := l.whole - l.wholeApplied

/-- Count what the last cycle applied of a whole-cycle correction (R110). -/
def State.noteApplied (s : State) : State :=
  let left := s.lat.wholeLeft
  let c := s.lat.corr
  let d := if 0 < left ∧ 0 < c then min left c else if left < 0 ∧ c < 0 then max left c else 0
  if s.latSt = LatSt.LOCKED ∨ s.latSt = LatSt.RELOCK then
    { s with lat := { s.lat with wholeApplied := s.lat.wholeApplied + d } }
  else s

/-- Enter RELOCK: the error to the nearest qualified crossing plus any whole-cycle correction becomes the remainder
(R110). -/
def State.enterRelock (s : State) : State :=
  let s1 := (s.latGoto LatSt.RELOCK).satInc Reg.LAT_RELOCK_CNT 0 32 1
  s1.steer (s.crossErr + s.lat.wholeLeft)

/-- What a qualified crossing does in each state (R106, R110). -/
def State.onQualified (s : State) : State :=
  let err := s.crossErr
  let small := decide (err.natAbs < 64)
  match s.latSt with
  | 0 =>
    if s.lat.started then
      let s1 := s.latGoto LatSt.ACQUIRE
      { s1 with lat := { s1.lat with pos := (s.lat.loadedCycles * 65536 + s.latOffset) * 2 ^ 32, firstCh := s.lat.loadedCycles * 65536 + s.latOffset,
                                     rate := rateFor s.nominalClk 0, corr := 0, slew := 0 } }
    else s
  | 1 =>
    let run := if small then s.lat.goodRun + 1 else 0
    let s1 := ({ s with lat := { s.lat with goodRun := run } }).steer err
    if 3 ≤ run then (s1.latGoto LatSt.LOCKED).latRun else s1
  | 2 =>
    let s1 := s.steer (err + s.lat.wholeLeft)
    if s.lat.wholeLeft = 0 then { s1 with lat := { s1.lat with whole := 0, wholeApplied := 0 } } else s1
  | 3 | 4 =>
    let run := s.lat.goodRun + 1
    let s1 := { s with lat := { s.lat with goodRun := run } }
    if 3 ≤ run then s1.enterRelock else s1
  | 5 =>
    if s.lat.wholeLeft = 0 ∧ s.lat.slew = s.lat.corr ∧ small then
      let s1 := { s with lat := { s.lat with whole := 0, wholeApplied := 0 } }
      ((s1.steer err).latGoto LatSt.LOCKED).raiseIrq Blk.LAT 3
    else s.steer (err + s.lat.wholeLeft)
  | _ => s

/-- A crossing that fails R104 is counted; in LOCKED three in a row outside the window, each within 256 au of the
previous one's error, lead to RELOCK (R104, R106). In ACQUIRE and RELOCK the counter's own cross-stamp follows. -/
def State.onRejected (s : State) (vrms : Nat) : State :=
  let s0 := s.satInc Reg.LAT_REJECT_CNT 0 32 1
  let s1 := { s0 with lat := { s0.lat with lastRej := some s.clk } }
  let err := s.crossErr
  if s.latSt = LatSt.LOCKED ∧ s.fld Reg.LAT_REF_CFG 8 8 ≤ vrms ∧ 4096 < err.natAbs then
    let run := if s.lat.errRun ≠ 0 ∧ (err - s.lat.lastErr).natAbs ≤ 256 then s.lat.errRun + 1 else 1
    let s2 := { s1 with lat := { s1.lat with errRun := run, lastErr := err } }
    if 3 ≤ run then s2.enterRelock else s2
  else { s1 with lat := { s1.lat with errRun := 0,
                                      goodRun := if s.latSt = LatSt.HOLDOVER ∨ s.latSt = LatSt.SYNTHETIC then 0
                                                 else s.lat.goodRun } }

/-- BENCHMARK_CROSSING (R104 to R106, R110, R8): a qualified crossing gives LAT_PERIOD, LAT_FREQ and LAT_PHASE_ERR,
drives the state and records a cross-stamp. -/
def State.benchmark (s : State) (vrms : Nat) : State :=
  if s.qualifies vrms then
    let err := s.crossErr
    let prev := s.prevQual
    let per := match prev with
      | some c => s.clk - c
      | none => 0
    let ps := match prev with
      | some c => ((s.clk - c) :: s.lat.periods).take 8
      | none => []
    let s1 := match prev with
      | some _ => s.setNum Reg.LAT_PERIOD per
      | none => s
    let s2 := if ps = [] then s1
              else s1.setFld Reg.LAT_FREQ 0 20 (800000000000 * ps.length / Nat.max 1 (ps.foldl (· + ·) 0))
    let s3 := (s2.setNum Reg.LAT_PHASE_ERR (unsigned 32 err)).setFlag Reg.LAT_STATE 4 true
    let s4 := { s3 with lat := { s3.lat with lastQual := some s.clk, errRun := 0,
                                             periods := if ps = [] then s3.lat.periods else ps } }
    let s5 := s4.onQualified
    if s5.latSt = LatSt.RESET then s5
    else s5.crossStamp (if per = 0 then s.nominalClk else per)
  else s.onRejected vrms

/-- One SYS cycle of a time base: 1.25 ns at its rate (R453). -/
def TimeBase.tick (b : TimeBase) : TimeBase :=
  { b with time := b.time + ((81920 : Int) * (65536000000 + b.rate)).toNat }

/-- A time base as it stood `n` SYS cycles ago. -/
def TimeBase.before (n : Nat) (b : TimeBase) : TimeBase :=
  { b with time := b.time - n * ((81920 : Int) * (65536000000 + b.rate)).toNat }

/-- Judge a crossing as of its instant, `age` SYS cycles ago, for EMU removes the fixed delay of the front end (R103);
a counter that the crossing starts runs on from its first value to the present (R105, R106). -/
def State.benchmarkAt (s : State) (age vrms : Nat) : State :=
  let past := { s with clk := s.clk - age, tbs := s.tbs.map (TimeBase.before age),
                       lat := { s.lat with pos := s.lat.pos - age * s.lat.rate } }
  let r := past.noteApplied.benchmark vrms
  let pos := if s.latSt = LatSt.RESET ∧ r.latSt ≠ LatSt.RESET then r.lat.pos + age * r.lat.rate else s.lat.pos
  { r with clk := s.clk, tbs := s.tbs, lat := { r.lat with pos := pos } }

/-- BENCHMARK_CROSSING: the crossing that EMU delivered (R104). -/
def execBenchmarkCrossing (s : State) : Host.Outcome State Fault Refusal := s.powered fun s =>
  match s.emu.crossing with
  | some (at', vrms) => (({ s with emu := { s.emu with crossing := none } }).benchmarkAt (s.clk - at') vrms)
  | none => s

/-- Whether a counter cycle has no qualified crossing, so that the counter gives its cross-stamp (R8). -/
def State.counterStamps (s : State) : Bool :=
  s.latSt == LatSt.HOLDOVER || s.latSt == LatSt.SYNTHETIC
    || ((s.latSt == LatSt.ACQUIRE || s.latSt == LatSt.RELOCK) && (match s.lat.lastRej, s.lat.lastQual with
        | some r, some q => decide (q < r)
        | some _, none => true
        | none, _ => false))

/-- COUNTER_CROSS_STAMP: the counter stands at LAT_OFFSET in a cycle without a qualified crossing; the rate is the
counter's own over the preceding counter cycle. In SYNTHETIC the counter is steered to TB0 within the limit of R102 (R8,
R102, R109). -/
def execCounterCrossStamp (s : State) : Host.Outcome State Fault Refusal := s.powered fun s =>
  if !s.counterStamps ∨ s.chain % 65536 ≠ s.latOffset ∨ s.num64 Reg.LAT_XS_CHAIN_LO = s.chain then s
  else
    let s1 := s.crossStamp (if s.lat.cycLen = 0 then s.nominalClk else s.lat.cycLen)
    if s.latSt = LatSt.SYNTHETIC then
      let e := clampCorr (((s.syntheticPos : Int) - (s.lat.pos : Int)) / 2 ^ 32)
      { s1 with lat := { s1.lat with rate := rateFor s.nominalClk e } }
    else s1

/-- Whether 1.5 nominal cycles of SYS time have passed since a clock (R104, R106, R107). -/
def State.lossDue (s : State) (c : Nat) : Bool := decide (3 * s.nominalClk ≤ 2 * (s.clk - c))

/-- REF_LOSS: 1.5 nominal cycles without a qualified crossing (R106 to R108); a crossing captured in the cycle of the
expiry is judged first (R107). In LOCKED and RELOCK the counter holds the mean frequency of the last 8 qualified cycles; a
remaining correction is abandoned. -/
def execRefLoss (s : State) : Host.Outcome State Fault Refusal := s.powered fun s => s.yielding Rank.EXPIRY .refLoss fun s =>
  if s.emu.crossing.isSome ∨ !(s.lat.lastQual.map s.lossDue).getD false then s
  else
    let s0 := s.setFlag Reg.LAT_STATE 4 false
    if s.latSt = LatSt.LOCKED ∨ s.latSt = LatSt.RELOCK then
      let p := meanPeriod s.lat.periods s.nominalClk
      let s1 := s0.latGoto LatSt.HOLDOVER
      let s2 := if s.latSt = LatSt.LOCKED then s1.raiseIrq Blk.LAT 2 else s1
      { s2 with lat := { s2.lat with rate := rateFor p 0, corr := 0, slew := 0, whole := 0, wholeApplied := 0
                                     holdCh := s.chain } }.setNum Reg.LAT_SLEW 0
    else { s0 with lat := { s0.lat with goodRun := 0 } }

/-- TIMEBASE_NO_REF: no qualified crossing within 1.5 nominal cycles of the timebase's start: the counter starts at
the loaded cycle count with angle 0 on the synthetic line (R106, R107, R109). -/
def execTimebaseNoRef (s : State) : Host.Outcome State Fault Refusal :=
  s.powered fun s => s.yielding Rank.EXPIRY .timebaseNoRef fun s =>
    if s.latSt = LatSt.RESET ∧ s.lat.started ∧ s.lossDue s.lat.startClk ∧ s.emu.crossing.isNone then
      ({ s with lat := { s.lat with pos := s.lat.loadedCycles * 65536 * 2 ^ 32 } }).enterSynthetic
    else s

/-- ACQUIRE_TIMEOUT: no lock within 10 cycles of the first qualified crossing (R78, R106). -/
def execAcquireTimeout (s : State) : Host.Outcome State Fault Refusal :=
  s.powered fun s => s.yielding Rank.EXPIRY .acquireTimeout fun s =>
    if s.latSt = LatSt.ACQUIRE ∧ s.lat.firstCh + 10 * 65536 ≤ s.chain ∧ s.emu.crossing.isNone then
      (s.enterSynthetic.satInc Reg.LAT_RELOCK_CNT 0 32 1)
    else s

/-- HOLDOVER_END: 50 cycles of holdover end in SYNTHETIC with an anchor; a crossing captured in that cycle is judged first
(R106, R107, R109). -/
def execHoldoverEnd (s : State) : Host.Outcome State Fault Refusal :=
  s.powered fun s => s.yielding Rank.EXPIRY .holdoverEnd fun s =>
    if s.latSt = LatSt.HOLDOVER ∧ s.lat.holdCh + 50 * 65536 ≤ s.chain ∧ s.emu.crossing.isNone then s.enterSynthetic else s

/-- A whole-cycle difference reported by HLK: up to 64 cycles are slewed, more sets CYC_MISMATCH, STAT.FAULT and the
interrupt bit (R112). `diff` is the manager's cycle count less this module's. DESIGN CHOICE (log entry 192): a report while one
is still being slewed changes nothing. -/
def State.cycleDifference (s : State) (diff : Int) : State :=
  if diff = 0 then s
  else if diff.natAbs ≤ 64 then
    if s.lat.whole = 0 then { s with lat := { s.lat with whole := diff * 65536, wholeApplied := 0 } } else s
  else ((s.setFlag Reg.LAT_STATE 5 true).setFlag (Reg.STAT Blk.LAT) 2 true).raiseIrq Blk.LAT 4

/-- Load the cycle count at which the counter starts; the angle is placed by the timebase (R111, R574). -/
def State.loadCycles (s : State) (c : Nat) : State :=
  if s.latSt = LatSt.RESET then
    { s with lat := { s.lat with loadedCycles := c, pos := c * 65536 * 2 ^ 32, started := true, startClk := s.clk } }
  else s

/-- One SYS cycle of the counter: it advances by its rate in every state but RESET (R101); a passage of the angle `off` at the
clock `clk` ends one of its cycles (R8). -/
def Lat.tick (l : Lat) (running : Bool) (off clk : Nat) : Lat :=
  if running then
    let pos := l.pos + l.rate
    if passes pos off = passes l.pos off then { l with pos := pos }
    else { l with pos := pos, passClk := clk, cycLen := clk - l.passClk }
  else l

/-- Whether the counter stands at an angle, or with `half` at its opposite (R7, R127, R128). -/
def State.atAngle (s : State) (angle : Nat) (half : Bool) : Bool :=
  s.chain % 65536 == angle % 65536 || (half && s.chain % 65536 == (angle + 32768) % 65536)

/-- An edge at an angle goes out once per passage; `none` where it stands elsewhere or has had it (R127, R128). -/
def State.zxPass (s : State) (key angle : Nat) (half : Bool) : Option State :=
  if s.atAngle angle half ∧ tfind? s.lat.zxCh key ≠ some s.chain then
    some { s with lat := { s.lat with zxCh := tput s.lat.zxCh key s.chain } }
  else none

end Sys2Proof.Machine
end

