-- ==== Sys2Proof/Machine/FabCore.lean ====
section
/-! DEFINITION. The switch fabric's tables, meters, queues and forwarding (R436 to R448) and the transmit timestamp queues
(R459 to R461). -/

namespace Sys2Proof.Machine

/-! ### Settings (R464, R468, R469, R470) -/

/-- FAB_CFG.MAX_FRAME held within 1,518 to 9,216. -/
def State.maxFrame (s : State) : Nat := Nat.min 9216 (Nat.max 1518 (s.fld Reg.FAB_CFG 0 14))

/-- A VID field whose 0 and 4,095 read as 1. -/
def fixVid (v : Nat) : Nat := if v = 0 ∨ v = 4095 then 1 else v

/-- The members of a VID as a mask of fabric ports 0 to 54; entries 0 and 4,095 are ignored (R468). -/
def State.vlanMembers (s : State) (v : Nat) : Nat :=
  if s.plainSwitch then 2 ^ 55 - 1
  else if v = 0 ∨ 4094 < v then 0
  else s.num (Reg.FAB_VLANv_MBR_LO v) + s.fld (Reg.FAB_VLANv_MBR_HI v) 0 23 * 2 ^ 32

/-- The class of a PCP for a frame that is no management frame (R441). -/
def State.pcpClass (s : State) (pcp : Nat) : Nat := Nat.min 6 (s.fld Reg.FAB_PCP_MAP (3 * (pcp % 8)) 3)

/-- An endpoint's MAC. -/
def State.epMac (s : State) (e : Nat) : Nat := s.num (Reg.FAB_EPe_MAC_LO e) + s.fld (Reg.FAB_EPe_MAC_HI e) 0 16 * 2 ^ 32

/-! ### Counters (R449) -/

/-- The size counter of a length. -/
def sizeCounter (n : Nat) : Nat :=
  if n ≤ 64 then 9 else if n ≤ 127 then 10 else if n ≤ 255 then 11 else if n ≤ 511 then 12 else if n ≤ 1023 then 13
  else if n ≤ 1518 then 14 else 15

/-- The broadcast address. -/
def bcast : Nat := 2 ^ 48 - 1

/-- Whether an address is a group address. -/
def isGroup (a : Nat) : Bool := bitOf a 40

/-- Whether a frame is good (R449). -/
def State.goodFrame (s : State) (f : EthFrame) : Bool := f.fcsOk && decide (64 ≤ f.len) && decide (f.len ≤ s.maxFrame)

/-- Count a received frame. -/
def State.countRx (s : State) (p : Nat) (f : EthFrame) : State :=
  let s1 := (s.cnt p 0 f.len).cnt p 1 1
  let s2 := if 64 ≤ f.len ∧ f.len ≤ s.maxFrame then s1.cnt p (sizeCounter f.len) 1 else s1
  if s.goodFrame f then
    let s3 := s2.cnt p 18 f.len
    if f.dst = bcast then s3.cnt p 2 1 else if isGroup f.dst then s3.cnt p 3 1 else s3.cnt p 17 1
  else if f.len < 64 then s2.cnt p (if f.fcsOk then 5 else 7) 1
  else if s.maxFrame < f.len then s2.cnt p (if f.fcsOk then 6 else 8) 1
  else s2.cnt p 4 1

/-- Count a sent frame. -/
def State.countTx (s : State) (p cls : Nat) (f : EthFrame) : State :=
  let s1 := (s.cnt p 26 f.len).cnt p 27 1
  let s2 := if f.dst = bcast then s1.cnt p 30 1 else if isGroup f.dst then s1.cnt p 29 1 else s1.cnt p 28 1
  if cls = 7 then s2.cnt p 31 1 else s2

/-! ### Meters (R444, R445) -/

/-- SYS cycles in one second. -/
def secClk : Nat := 800000000

/-- Take `n` units from a bucket of `rate` units a second and `burst` units; `none` when it does not hold them. A refill
counts before the frame that comes with it. -/
def State.takeBucket (s : State) (key rate burst n : Nat) : Option State :=
  let b := tget (fun _ => Bucket.mk 0 0) s.fab.buckets key
  let now := b.taken - rate * (s.clk - b.clk)
  if now + n * secClk ≤ burst * secClk then
    some { s with fab := { s.fab with buckets := tput s.fab.buckets key ⟨now + n * secClk, s.clk⟩ } }
  else none

/-- The meter of a frame of classes 0 to 6: its number, rate and burst. -/
def State.stormMeter (s : State) (p : Nat) (f : EthFrame) (known : Bool) : Option (Nat × Nat × Nat) :=
  let of_ := fun (k r : Nat) => (k, s.fld r 0 20, Nat.max 1 (s.fld r 20 12))
  if f.dst = bcast then some (if s.plainSwitch then (0, 1000, 100) else of_ 0 (Reg.FAB_PnSTORM_BC p))
  else if s.plainSwitch then none
  else if isGroup f.dst then some (of_ 1 (Reg.FAB_PnSTORM_MC p))
  else if known then none
  else some (of_ 2 (Reg.FAB_PnSTORM_UC p))

/-- A storm drop: counted, STORM after a second without one, and the run of 10 ms windows with drops (R445, R446). -/
def State.stormDrop (s : State) (p : Nat) : State :=
  let w := s.clk / (10 * msClk)
  let (last, run) := tget (fun _ => (0, 0)) s.fab.windows p
  let run' := if run = 0 then 1 else if w = last then run else if w = last + 1 then run + 1 else 1
  let quiet := match tfind? s.fab.dropClk p with
    | some c => decide (c + secClk ≤ s.clk)
    | none => true
  let s1 := s.cnt p 21 1
  let s2 := { s1 with fab := { s1.fab with windows := tput s1.fab.windows p (w, run')
                                           dropClk := tput s1.fab.dropClk p s1.clk } }
  if quiet then s2.raiseIrq Blk.FAB 3 else s2

/-- The storm meters' judgement of a frame: whether it passes (RATE = 0 is off). -/
def State.stormPass (s : State) (p : Nat) (f : EthFrame) (known : Bool) : Bool × State :=
  match s.stormMeter p f known with
  | none => (true, s)
  | some (k, rate, burst) =>
    if rate = 0 then (true, s)
    else match s.takeBucket (4 * p + k) rate burst 1 with
      | some s1 => (true, s1)
      | none => (false, s.stormDrop p)

/-! ### The MAC table (R439) -/

/-- The key of a VID and an address. -/
def fdbKey (vid mac : Nat) : Nat := vid * 2 ^ 48 + mac

/-- The entry of an address. -/
def State.fdbAt (s : State) (vid mac : Nat) : Option FdbEntry := tfind? s.fab.fdb (fdbKey vid mac)

/-- FAB_FDB_USED. -/
def State.noteFdb (s : State) : State := s.setNum Reg.FAB_FDB_USED s.fab.fdb.length

/-- Put or remove an entry. -/
def State.putFdb (s : State) (key : Nat) (e : Option FdbEntry) : State :=
  ({ s with fab := { s.fab with fdb := match e with
      | some x => tput s.fab.fdb key x
      | none => tdel s.fab.fdb key } }).noteFdb

/-- The keys of an address's bucket. -/
def State.bucketOf (s : State) (vid mac : Nat) : List (Nat × FdbEntry) :=
  let h := fun (k : Nat) => Config.fdbHash (k / 2 ^ 48) (k % 2 ^ 48) % 4096
  s.fab.fdb.filter (fun e => h e.1 == h (fdbKey vid mac))

/-- Learn a source address; of two ports in one cycle the lower keeps it (R439). -/
def State.learn (s : State) (vid mac p : Nat) : State :=
  match s.fdbAt vid mac with
  | some e => if e.static ∨ (e.clk = s.clk ∧ e.mask < 2 ^ p) then s else s.putFdb (fdbKey vid mac) (some ⟨false, 2 ^ p, s.clk⟩)
  | none =>
    if 4 ≤ (s.bucketOf vid mac).length then (s.satInc Reg.FAB_FDB_MISS 0 32 1).raiseIrq Blk.FAB 5
    else s.putFdb (fdbKey vid mac) (some ⟨false, 2 ^ p, s.clk⟩)

/-! ### Time stamps (R459 to R461) -/

/-- The transmit timestamp queue of a port: its field of NTU_TSQ_USED and its entries. -/
def tsqOf (p : Nat) : Nat × Nat × Nat := if p = 48 then (0, 7, 64) else if p = 49 then (8, 7, 64) else (16, 8, 128)

/-- Take an entry of the port's queue, or count the stamp as lost (R460, R461). -/
def State.takeTs (s : State) (p : Nat) : Option State :=
  let (lo, w, n) := tsqOf p
  let u := s.fld Reg.NTU_TSQ_USED lo w
  if u < n then
    let s1 := s.setFld Reg.NTU_TSQ_USED lo w (u + 1)
    some (if s1.fld Reg.NTU_TSQ_HWM lo w < u + 1 then s1.setFld Reg.NTU_TSQ_HWM lo w (u + 1) else s1)
  else none

/-- Count a stamp not taken. -/
def State.loseTs (s : State) (p : Nat) : State :=
  ((s.satInc Reg.NTU_TSQ_LOST_CNT 0 32 1).cnt p 38 1).raiseIrq Blk.NTU 4

/-- Free an entry. -/
def State.freeTs (s : State) (p : Nat) : State :=
  let (lo, w, _) := tsqOf p
  s.setFld Reg.NTU_TSQ_USED lo w (s.fld Reg.NTU_TSQ_USED lo w - 1)

/-- The time of a base in ns. -/
def TimeBase.total (b : TimeBase) : Int := (b.time / nsUnit : Nat)

/-- A frame's ingress time on a base: now less the port's RX latency. -/
def State.rxTime (s : State) (p n : Nat) : Int := (s.tb n).total - (s.fld (Reg.NTU_PnLAT p) 0 16 : Nat)

/-- Its egress time: now plus the TX latency. -/
def State.txTime (s : State) (p n : Nat) : Int := (s.tb n).total + (s.fld (Reg.NTU_PnLAT p) 16 16 : Nat)

/-! ### PTP messages (R458, R459, R461) -/

/-- The servo of a base. -/
def State.servo (s : State) (n : Nat) : Servo := tget (fun _ => Servo.fresh) s.ntu.servos n

/-- Put a servo. -/
def State.putServo (s : State) (n : Nat) (v : Servo) : State :=
  { s with ntu := { s.ntu with servos := tset (fun _ => Servo.fresh) s.ntu.servos n v } }

/-- −logSyncInterval of a base, 0 to 7; positive values read as 0 (R472). -/
def State.logRate (s : State) (n : Nat) : Nat :=
  let l := s.fld (Reg.NTU_TBn_CFG n) 16 4
  if l < 8 then 0 else Nat.min 7 (16 - l)

/-- A PTP time stamp: 48 bits of seconds, 32 of ns. -/
def ptpTime (t : Int) : List Byte := beBytes 6 (t / 1000000000).toNat ++ beBytes 4 (t % 1000000000).toNat

/-- A PTP message (IEEE 1588-2019): the 34-byte header, then the body. The clock identity is the UID, PRESUMED, log entry 204.
-/
def ptpBytes (domain msg flags port seq log : Nat) (body : List Byte) : List Byte :=
  beBytes 1 msg ++ beBytes 1 0x12 ++ beBytes 2 (34 + body.length) ++ beBytes 1 domain ++ beBytes 1 0 ++ beBytes 2 flags ++ beBytes 12 0
    ++ beBytes 8 Config.uid.toNat ++ beBytes 2 (port + 1) ++ beBytes 2 seq
    ++ beBytes 1 (if msg < 2 then msg else if msg = 8 then 2 else if msg = 9 then 3 else 5) ++ beBytes 1 log ++ body

/-- A message of a base goes to a port's class 7, tagged with the base's VID (R441, R458); `stamped` of one whose departure NTU
times, whose entry is free again where the frame finds no room. -/
def State.ptpSend (s : State) (base port msg seq : Nat) (stamped : Bool) (body : List Byte) : State :=
  let log := if msg = 1 then 0x7F else if msg = 11 then 0 else (256 - s.logRate base) % 256
  let flags := if msg = 0 then 0x200 else if msg = 11 then 8 + (if s.flag Reg.NTU_UTC_OFFSET 16 then 4 else 0) else 0
  let f := internalFrame 0x011B19000000 (s.epMac 2) (some (7, s.fld (Reg.NTU_TBn_CFG base) 20 12)) 0x88F7
    (ptpBytes (s.fld (Reg.NTU_TBn_CFG base) 8 8) msg flags port seq log body)
  let s1 := s.sendInternal 2 (if stamped then some (base, msg, seq) else none) [port] f
  if stamped ∧ (s.room 52 7 f.len).isNone then s1.freeTs port else s1

/-- A message with a timestamp entry has left its port: NTU takes the stamp and frees the entry; a Sync's goes out in its
Follow_Up, a Delay_Req's is kept for the response (R458 to R461). -/
def State.ptpLeft (s : State) (port base msg seq : Nat) : State :=
  let s1 := (s.cnt port 23 1).freeTs port
  if msg = 0 then s1.ptpSend base port 8 seq false (ptpTime (s1.txTime port base))
  else s1.putServo base { s1.servo base with delay := some (seq, s1.txTime port base) }

/-- A 16-byte stamp record (R466). -/
def stampRecord (t : Int) (frac port base : Nat) : List Byte :=
  leBytes 8 (t / 1000000000).toNat ++ leBytes 4 (t % 1000000000).toNat ++ leBytes 2 frac ++ leBytes 1 port ++ leBytes 1 base

/-- The 16-bit fraction of a ns of a base. -/
def TimeBase.frac (b : TimeBase) : Nat := b.time % nsUnit * 65536 / nsUnit

/-! ### Queues (R442, R443) -/

/-! ### Host endpoints (R448, R466) -/

/-- The bytes of a frame without FCS. -/
def EthFrame.bytes (f : EthFrame) : List Byte :=
  beBytes 6 f.dst ++ beBytes 6 f.src ++ (match f.tag with
    | some (p, v) => beBytes 2 0x8100 ++ beBytes 2 (p * 8192 + v)
    | none => []) ++ beBytes 2 f.etype ++ f.data

/-- The FRAME_RX operations posted for an endpoint, in the order in which they were posted. -/
def State.postedRx (s : State) (e : Nat) : List Nat :=
  sortBy (fun a b => decide ((s.slot a).ord ≤ (s.slot b).ord)) (s.openTags.filter fun t =>
    let x := s.slot t
    x.st == .active && x.block == Blk.FAB && x.opcode == 2 && paramField x.param 0 1 == e)

/-- A frame reaches a host endpoint: it fills the first posted buffer, or is dropped and counted (R448). -/
def State.toEndpoint (s : State) (e ingress : Nat) (f : EthFrame) : State :=
  match s.postedRx e with
  | [] => s.satInc (Reg.FAB_EPe_DROP e) 0 32 1
  | t :: _ =>
    let b := f.bytes
    let rec_ := stampRecord (if ingress < 50 then s.rxTime ingress 0 else (s.tb 0).total) (s.tb 0).frac ingress 0
    (s.emit (.dma (paramField (s.slot t).param 8 8) (rec_ ++ b))).decideOp t St.OK
      (BitVec.ofNat 32 (b.length % 65536 + ingress * 65536))

/-- Whether a host endpoint accepts a frame of its member VIDs for its own sake (R448); PROMISC takes every one. -/
def State.epAccepts (s : State) (e : Nat) (f : EthFrame) : Bool :=
  let h := crc32 (beBytes 6 f.dst) / 2 ^ 26
  f.dst == s.epMac e || f.dst == bcast
    || (isGroup f.dst && (bitOf (s.num64 (Reg.FAB_EPe_HASH_LO e)) h || (!s.plainSwitch && s.flag (Reg.FAB_EPe_CFG e) 2)))

/-- Copies of a forwarded frame to the host endpoints in its VID (R448). -/
def State.copyToHosts (s : State) (ingress members : Nat) (f : EthFrame) : State :=
  [3, 4].foldl (fun a e =>
    if 50 + e = ingress ∨ !bitOf members (50 + e) ∨ !a.flag (Reg.FAB_EPe_CFG e) 0 then a
    else if a.epAccepts e f then a.toEndpoint e ingress f
    else if a.flag (Reg.FAB_EPe_CFG e) 1 ∧ !a.plainSwitch then
      if (a.room ingress 0 f.len).isSome then a.toEndpoint e ingress f else a.satInc (Reg.FAB_EPe_DROP e) 0 32 1
    else a) s

/-! ### Forwarding (R438) -/

/-- The external ports a frame goes to: the members of its VID, at the place of a known address, never back, never from
one uplink to the other. -/
def State.egressPorts (s : State) (ingress vid : Nat) (f : EthFrame) : List Nat :=
  let members := s.vlanMembers vid
  let known := (s.fdbAt vid f.dst).map (·.mask)
  (List.range 50).filter fun p =>
    bitOf members p && p != ingress && !(decide (48 ≤ p) && decide (48 ≤ ingress) && decide (ingress < 50))
      && (match known with
          | some m => bitOf m p
          | none => true)

/-! ### Receiving (R438 to R446) -/

/-- The management frames (R441): the ports from which each EtherType is taken. -/
def mgmtFrom (etype p : Nat) : Option Bool :=
  if etype = 0x88B5 then some (decide (p < 48))
  else if etype = 0x88B6 then some (decide (48 ≤ p) && decide (p < 50))
  else if etype = 0x88F7 then some (decide (p < 50))
  else none

/-- A management frame: policed, and delivered to its endpoint, whose own commands act on it (R441, R444). -/
def State.rxManagement (s : State) (p : Nat) (f : EthFrame) : State :=
  let c := Reg.FAB_PnC7 p
  match s.takeBucket (4 * p + 3) (1000 * s.fld c 0 20) (8192 * Nat.max 1 (s.fld c 20 12)) (8 * f.len) with
  | some s1 => if f.etype = 0x88F7 then s1.cnt p 37 1 else s1
  | none => (s.cnt p 22 1).raiseIrq Blk.FAB 6

/-- Whether a port's filters take a frame of a VID (R438). -/
def State.vlanPass (s : State) (p vid : Nat) (f : EthFrame) : Bool :=
  let tagged := match f.tag with
    | some (_, v) => v != 0
    | none => false
  let acc := s.fld (Reg.FAB_PnCFG p) 2 2
  s.plainSwitch || ((acc != 1 || tagged) && (acc != 2 || !tagged) && decide (vid ≤ 4094)
    && (!s.flag (Reg.FAB_PnCFG p) 4 || bitOf (s.vlanMembers vid) p))

/-- A frame of classes 0 to 6 (R438, R439, R442, R445). -/
def State.rxData (s : State) (p : Nat) (f : EthFrame) : State :=
  let vid := match f.tag with
    | some (_, v) => if v = 0 then fixVid (s.fld (Reg.FAB_PnCFG p) 16 12) else v
    | none => fixVid (s.fld (Reg.FAB_PnCFG p) 16 12)
  let pcp := match f.tag with
    | some (q, _) => q
    | none => s.fld (Reg.FAB_PnCFG p) 28 3
  let cls := s.pcpClass pcp
  let fixed : Bool := match s.fdbAt vid f.src with
    | some e => e.static && !bitOf e.mask p
    | none => false
  if s.flag (Reg.FAB_PnSTAT p) 4 then s.cnt p 21 1
  else if !s.vlanPass p vid f ∨ fixed then s.cnt p 20 1
  else
    let (pass, s1) := s.stormPass p f (s.fdbAt vid f.dst).isSome
    if !pass then s1
    else
      let on := s1.plainSwitch || (s1.flag Reg.FAB_CFG 16 && s1.flag (Reg.FAB_PnCFG p) 1)
      let s2 := if on ∧ !isGroup f.src then s1.learn vid f.src p else s1
      match s2.room p cls f.len with
      | none => s2.cnt p 16 1
      | some r =>
        let s3 := s2.copyToHosts p (s2.vlanMembers vid) (s2.retag 50 vid pcp false f)
        s3.forward p vid pcp cls false r none none (s3.egressPorts p vid f) f

/-- An LCP frame that arrives from an uplink or a host endpoint is counted by LCP too (R202). -/
def State.lcpStray (s : State) (f : EthFrame) : State :=
  if f.etype = 0x88B5 ∧ s.en Blk.LCP then s.satInc Reg.LCP_RXERR_CNT 0 32 1 else s

/-- PORT_FRAME_RX (R438 to R446, R449). -/
def execPortFrameRx (port : Nat) (frame : EthFrame) (s : State) : Host.Outcome State Fault Refusal := s.powered fun s =>
  if 49 < port ∨ !s.flag (Reg.FAB_PnSTAT port) 0 then s
  else
    let s1 := s.countRx port frame
    if !s1.goodFrame frame ∨ s1.flag (Reg.FAB_PnSTAT port) 3 ∨ !s1.flag (Reg.FAB_PnCFG port) 0 then s1
    else if frame.etype = 0x8808 then (s1.cnt port 19 1)
    else match mgmtFrom frame.etype port with
      | some true => (s1.rxManagement port frame)
      | some false => ((s1.cnt port 19 1).lcpStray frame)
      | none => (s1.rxData port frame)

end Sys2Proof.Machine
end

