-- ==== Sys2Proof/Machine/Link.lean ====
section
/-! DEFINITION. Handing remote values to a field-bus node's output record (R478), as SCN and HLK need them, and whether a
station's loss is due (R283). -/

namespace Sys2Proof.Machine

/-! ### Node output records (R478) -/

/-- Put `n` little-endian bytes, or one bit, into the data words of a message buffer. -/
def State.putBufBytes (s : State) (c b off bit len v : Nat) : State :=
  if len = 0 then s.setFlag (Reg.FBC_MBb_DATA c b (off / 4)) (8 * (off % 4) + bit) (v % 2 == 1)
  else s.forN len fun a k =>
    a.setFld (Reg.FBC_MBb_DATA c b ((off + k) / 4)) (8 * ((off + k) % 4)) 8 (v / 256 ^ k)

/-- FBC's channel beside its registers. -/
def State.canCh (s : State) (c : Nat) : CanCh := tget (fun _ => CanCh.fresh) s.fbc.chans c

/-- Put a channel. -/
def State.setCanCh (s : State) (c : Nat) (x : CanCh) : State :=
  { s with fbc := { s.fbc with chans := tset (fun _ => CanCh.fresh) s.fbc.chans c x } }

/-- A message buffer beside its registers. -/
def State.canBuf (s : State) (c b : Nat) : CanBuf := tget (fun _ => CanBuf.fresh) s.fbc.bufs (64 * c + b)

/-- Put a message buffer. -/
def State.setCanBuf (s : State) (c b : Nat) (x : CanBuf) : State :=
  { s with fbc := { s.fbc with bufs := tset (fun _ => CanBuf.fresh) s.fbc.bufs (64 * c + b) x } }

/-- Whether a channel is sending the frame of a buffer. -/
def State.inFlight (s : State) (c b : Nat) : Bool := ((s.canCh c).fly.map (·.src)) == some b

/-- MBb_HDR.PENDING. -/
def State.bufPending (s : State) (c b : Nat) : Bool := s.flag (Reg.FBC_MBb_HDR c b) 19

/-- Bytes of a buffer's data words. -/
def State.canBytes (s : State) (c b n : Nat) : List Byte :=
  (List.range n).map fun k => BitVec.ofNat 8 (s.fld (Reg.FBC_MBb_DATA c b (k / 4)) (8 * (k % 4)) 8)

/-- The remote writes handed to a node, in flight or still waiting for a frame. -/
def State.nodeWrites (s : State) (c n : Nat) : List RemoteWrite :=
  s.scn.remote.filter (fun w => w.station == .node c n && (w.phase == .handed || w.phase == .inFlight))

/-- The present FLD cycle, of 12.5 ns (R18). -/
def State.fldCycle (s : State) : Nat := s.clk / 10

/-- What stood in a buffer before a hand-over of the present FLD cycle (R478). -/
def State.handedNow (s : State) (c b : Nat) : Option (Bool × List Nat × List Byte) :=
  match (s.canBuf c b).before with
  | some (k, r) => if k = s.fldCycle then some r else none
  | none => none

/-- Keep what a frame that starts in this FLD cycle still carries (R478). -/
def State.keepBefore (s : State) (c b n : Nat) : State :=
  if (s.handedNow c b).isSome then s
  else s.setCanBuf c b { s.canBuf c b with
    before := some (s.fldCycle, s.bufPending c b, (s.nodeWrites c n).map (fun w => w.id), s.canBytes c b 64) }

/-- Write a value into a node's output record and mark its TX buffer pending. The frame in flight carries the bytes as
they were at its start of frame, and one that starts in the FLD cycle of the hand-over those from before it (R478,
R484). -/
def State.putNodeOut (s : State) (f : NodeField) (v : Dword) : State :=
  let cfg := Reg.FBC_NDn_CFG f.channel f.node
  if s.flag cfg 14 then
    let b := s.fld cfg 8 6
    let s1 := ((s.keepBefore f.channel b f.node).putBufBytes f.channel b f.off f.bit f.len v.toNat).setFlag (Reg.FBC_MBb_HDR f.channel b) 19 true
    if s.inFlight f.channel b then s1.setCanBuf f.channel b { s1.canBuf f.channel b with newer := true } else s1
  else s

/-! ### A loss that is due (R283, R480, R409) -/

/-! NDn_STAT.STATE (R498). -/
namespace NdSt
abbrev NONE : Nat := 0
abbrev WAITING : Nat := 1
abbrev UP : Nat := 2
abbrev LOST : Nat := 3
end NdSt

/-- A node beside its registers. -/
def State.canNode (s : State) (c n : Nat) : CanNode := tget (fun _ => CanNode.fresh) s.fbc.nodes (32 * c + n)

/-- Put a node. -/
def State.setCanNode (s : State) (c n : Nat) (x : CanNode) : State :=
  { s with fbc := { s.fbc with nodes := tset (fun _ => CanNode.fresh) s.fbc.nodes (32 * c + n) x } }

/-- Whether a node is in use. -/
def State.nodeEn (s : State) (c n : Nat) : Bool := s.flag (Reg.FBC_NDn_CFG c n) 0

/-- Whether LOSS_TMO line cycles have passed since a node's last input frame (R480). -/
def State.nodeDue (s : State) (c n : Nat) : Bool :=
  let tmo := s.fld (Reg.FBC_NDn_CFG c n) 16 16
  let st := s.fld (Reg.FBC_NDn_STAT c n) 0 2
  s.nodeEn c n && (st == NdSt.UP || st == NdSt.WAITING) && tmo != 0
    && decide ((s.canNode c n).inCh + 65536 * tmo ≤ s.chain)

/-! LCP_LnSTATE.STATE (R208). -/
namespace LumSt
abbrev DISABLED : Nat := 0
abbrev UNBOUND : Nat := 1
abbrev BINDING : Nat := 2
abbrev ONLINE : Nat := 3
abbrev LOST : Nat := 4
abbrev MISMATCH : Nat := 5
end LumSt

/-- An entry's state (R208). -/
def State.lumState (s : State) (e : Nat) : Nat := s.fld (Reg.LCP_LnSTATE e) 0 3

/-- LnCFG.EN (R237). -/
def State.lumEnabled (s : State) (e : Nat) : Bool := s.flag (Reg.LCP_LnCFG e) 0

/-- Whether an entry is enabled and ONLINE. -/
def State.lumOnline (s : State) (e : Nat) : Bool := s.lumEnabled e && s.lumState e == LumSt.ONLINE

/-- REPORT in ms, read as the nearer limit of 100 to 60,000. -/
def State.lcpReport (s : State) : Nat := Nat.min 60000 (Nat.max 100 (s.fld Reg.LCP_TMR1 0 16))

/-- The time without a STATUS after which a luminaire is lost, in SYS cycles (R208): LOSS_MISS × REPORT + 500 ms. -/
def State.lcpLossClk (s : State) : Nat := msClk * (Nat.max 1 (s.fld Reg.LCP_TMR1 16 8) * s.lcpReport + 500)

/-- Whether that time has passed since an ONLINE entry's last STATUS (R208). -/
def State.lumDue (s : State) (e : Nat) : Bool := s.lumOnline e && decide ((s.lum e).statusClk + s.lcpLossClk ≤ s.clk)

/-- The time without a heartbeat after which a member is lost, in SYS cycles (R409). -/
def lossClk : Nat := 350 * msClk

/-- Whether a member's heartbeats have been missing that long (R409). -/
def State.memberDue (s : State) (m : Nat) : Bool :=
  match (s.peer m).hbClk with
  | some c => decide (c + lossClk ≤ s.clk)
  | none => false

end Sys2Proof.Machine
end

