-- ==== Sys2Proof/Machine/LcpCore.lean ====
section
/-! DEFINITION. What LCP does under its commands: entries and their states, prices, frames, queued changes, open
commands and their outcomes (chapter 07; prices by R174). -/

namespace Sys2Proof.Machine

/-! ### Entries -/

/-- The tenant context of an entry (R230). -/
def State.lumCtx (s : State) (e : Nat) : Nat := s.fld (Reg.LCP_LnCFG e) 16 16

/-- The entries of a port, ascending (R201). -/
def portEntries (p : Nat) : List Nat := (List.range 16).map (fun k => 16 * p + k)

/-- Whether entry `e` is a member of group `g` (R221). -/
def State.inGroup (s : State) (e g : Nat) : Bool :=
  s.lumEnabled e && (List.range 4).any (fun k => s.flag (Reg.LCP_LnCFG e) (8 + k) && s.fld (Reg.LCP_LnGRP e) (8 * k) 8 == g)

/-- The group slot of entry `e` that names group `g`. -/
def State.groupSlot (s : State) (e g : Nat) : Option Nat :=
  (List.range 4).find? (fun k => s.flag (Reg.LCP_LnCFG e) (8 + k) && s.fld (Reg.LCP_LnGRP e) (8 * k) 8 == g)

/-- The members of a group, ascending (R221, R222). -/
def State.members (s : State) (g : Nat) : List Nat := (List.range 768).filter (fun e => s.inGroup e g)

/-- The scene word of an entry's slot (R221); one that the image does not give is KEEP (log entry 30). -/
def State.sceneWord (s : State) (e k sc : Nat) : Nat :=
  (tget (fun _ => 0x8000#32) s.lcp.scenes ((e * 4 + k) * 64 + sc)).toNat

/-- The header word of a group's scene (R221). -/
def State.sceneHeader (s : State) (g sc : Nat) : Nat := (tget (fun _ => 0#32) s.lcp.headers (g * 64 + sc)).toNat

/-- The quality of an entry's status points (R224). -/
def State.lumQuality (s : State) (e : Nat) : Nat :=
  if !(s.lum e).seen then Q.UNINIT else if s.lumState e = LumSt.ONLINE then Q.GOOD else Q.STALE

/-- The quality of the reported level and power: FAULT while the luminaire reports a fault of its LED or driver (R224). -/
def State.toldQuality (s : State) (e : Nat) : Nat :=
  let fl := s.fld (Reg.LCP_LnSTATE e) 16 16
  if s.lumQuality e = Q.GOOD ∧ (bitOf fl 5 ∨ bitOf fl 6) then Q.FAULT else s.lumQuality e

/-- A real value of a status point. -/
def realPoint (n d : Nat) : Dword := (realOfRat n d).setWidth 64

/-- Write a status point of an entry (R224). -/
def State.pubLumAt (s : State) (e k : Nat) (v : Dword) (q : Nat) : State := s.pubPoint Reg.LCP_PT_BASE (8 * e + k) v q

/-- Write the status points of an entry that LCP knows of itself: the target from any source, state, cap and override. -/
def State.pubState (s : State) (e : Nat) : State :=
  let q := s.lumQuality e
  let s1 := if (s.lum e).targetSet then s.pubLumAt e 1 (realPoint (s.fld (Reg.LCP_LnTARGET e) 0 14) 100) Q.GOOD else s
  let s2 := s1.pubLumAt e 4 (BitVec.ofNat 64 (s.lumState e)) q
  (s2.pubLumAt e 5 (realPoint (s.num (Reg.LCP_LnCAP e)) 1000) q).pubLumAt e 6 (if s.overridden e then 1 else 0) q

/-- Write an entry's status points (R224): what its luminaire reported keeps its value. -/
def State.pubLum (s : State) (e : Nat) : State :=
  let put := fun (a : State) (k q : Nat) => a.pubQuality Reg.LCP_PT_BASE (8 * e + k) q
  put (put (put (s.pubState e) 2 (s.toldQuality e)) 3 (s.toldQuality e)) 7 (s.lumQuality e)

/-- A STATUS has come: every status point shows it (R216). -/
def State.pubReport (s : State) (e : Nat) : State :=
  let s1 := (s.pubState e).pubLumAt e 2 (realPoint (s.fld (Reg.LCP_LnLEVEL e) 0 14) 100) (s.toldQuality e)
  (s1.pubLumAt e 3 (realPoint (s.num (Reg.LCP_LnPOWER e)) 1000) (s.toldQuality e)).pubLumAt e 7
    (BitVec.ofNat 64 (s.fld (Reg.LCP_LnSTATE e) 16 16)) (s.lumQuality e)

/-- Count an entry into or out of LCP_STAT (R235). -/
def State.countLum (s : State) (st : Nat) (up : Bool) : State :=
  let lo := if st = LumSt.ONLINE then some 0 else if st = LumSt.LOST then some 10
            else if st = LumSt.MISMATCH then some 20 else none
  match lo with
  | some l => s.setFld Reg.LCP_STAT l 10 (if up then s.fld Reg.LCP_STAT l 10 + 1 else s.fld Reg.LCP_STAT l 10 - 1)
  | none => s

/-- Move an entry to a state (R208): the counts and the status points follow. -/
def State.setLumState (s : State) (e st : Nat) : State :=
  let s1 := ((s.countLum (s.lumState e) false).setFld (Reg.LCP_LnSTATE e) 0 3 st).countLum st true
  s1.pubLum e

/-- Set LnTARGET (R211) and its point. -/
def State.setTarget (s : State) (e level cct : Nat) : State :=
  let s1 := s.setFld (Reg.LCP_LnTARGET e) 0 14 level
  let s2 := if cct = 0 then s1 else s1.setFld (Reg.LCP_LnTARGET e) 16 15 cct
  (s2.setLum e { s2.lum e with targetSet := true }).pubLum e

/-- A luminaire's grant changes; an increase takes the chainage (R184). -/
def State.setLumGrant (s : State) (e g : Nat) : State :=
  let l := s.lum e
  s.setLum e { l with grant := g, gstamp := if l.grant < g then s.chain else l.gstamp }

/-! ### Prices (R174) -/

/-- A luminaire type's curve price at a level of 0.01 %, rounded up to 1 mW (R174). -/
def State.curvePrice (s : State) (t level : Nat) : Nat :=
  let k := Nat.min (level * 16 / 10000) 16
  let r := level * 16 % 10000
  let a := s.num (Reg.ARB_CURVEt_Pk t k)
  if r = 0 ∨ 16 ≤ k then a
  else a + ((s.num (Reg.ARB_CURVEt_Pk t (k + 1)) - a) * r + 9999) / 10000

/-- The curve price of an entry at a level. -/
def State.lumPrice (s : State) (e level : Nat) : Nat := s.curvePrice (s.fld (Reg.LCP_LnCFG e) 2 6) level

/-! ### Timers (R235) -/

/-- ATTEMPTS: 0 read as 1, 9 to 15 as 8. -/
def State.lcpAttempts (s : State) : Nat := Nat.min 8 (Nat.max 1 (s.fld Reg.LCP_TMR0 8 4))

/-- T_CONFIRM in ms, values below 10 read as 10. -/
def State.lcpConfirm (s : State) : Nat := Nat.max 10 (s.fld Reg.LCP_TMR0 16 12)

/-- CAP_TMO in ms, 0 read as one unit of 10 ms. -/
def State.lcpCapTmo (s : State) : Nat := 10 * Nat.max 1 (s.fld Reg.LCP_TMR1 24 8)

/-- T_ACCEPT in SYS cycles, 0 read as 1 ms. -/
def State.lcpAcceptClk (s : State) : Nat := msClk * Nat.max 1 (s.fld Reg.LCP_TMR0 0 8)

/-- KEEPALIVE and DISCOVER in SYS cycles, 0 in either read as 100 ms. -/
def State.lcpTick (s : State) (lo : Nat) : Nat :=
  let v := s.fld Reg.LCP_TMR2 lo 16
  msClk * (if v = 0 then 100 else v)

/-! ### Frames (R203 to R206) -/

/-- A luminaire frame's bytes: the 12-byte header of R204, then the payload. -/
def lcpBytes (opcode seq sub flags session : Nat) (payload : List Byte) : List Byte :=
  beBytes 1 0x10 ++ beBytes 1 opcode ++ beBytes 2 payload.length ++ beBytes 2 seq ++ beBytes 1 sub ++ beBytes 1 flags
    ++ beBytes 4 session ++ payload

/-- Where DISCOVER goes (R203). -/
def lcpMulticast : Nat := 0x0300000088B5

/-- A luminaire frame leaves in class 7 by one downlink, tagged with PCP 7 and LCP_CFG.VID, from LCP_MAC (R203, R441). -/
def State.lcpOut (s : State) (port dst : Nat) (data : List Byte) : State :=
  let src := s.num Reg.LCP_MAC_LO + s.fld Reg.LCP_MAC_HI 0 16 * 2 ^ 32
  s.sendInternal 0 none [port] (internalFrame dst src (some (7, s.fld Reg.LCP_CFG 0 12)) 0x88B5 data)

/-- Send a frame to an entry's luminaire, which the KEEPALIVE timer counts from (R231). -/
def State.lcpSend (s : State) (e opcode seq flags : Nat) (payload : List Byte) : State :=
  let s1 := s.setLum e { s.lum e with sentClk := s.clk }
  s1.lcpOut (e / 16) (s.lum e).mac (lcpBytes opcode seq (e % 16) flags (s.lum e).session payload)

/-- The payload of a LEVEL (R206). -/
def levelPayload (ns level cct fade : Nat) : List Byte :=
  beBytes 6 (ns / 1000000000) ++ beBytes 4 (ns % 1000000000) ++ beBytes 2 level ++ beBytes 2 cct ++ beBytes 2 fade

/-- The payload of an ASSIGN (R206). -/
def State.assignPayload (s : State) (e : Nat) : List Byte :=
  let l := s.lum e
  beBytes 4 l.session ++ beBytes 2 ((l.assignSeq + 1) % 65536) ++ beBytes 2 s.lcpReport
    ++ beBytes 2 (Config.safeTime e).toNat ++ beBytes 2 (s.fld (Reg.LCP_LnDEF e) 16 16)
    ++ beBytes 4 (s.num (Reg.LCP_LnCAP e)) ++ beBytes 2 (s.fld (Reg.LCP_LnDEF e) 0 16) ++ beBytes 2 0

/-- Send a new ASSIGN: a new session, one sequence number for the ASSIGN and the next for SEQ_BASE (R208, R214; log
entry 31). -/
def State.assignLum (s : State) (e : Nat) : State :=
  let l := s.lum e
  let sess := s.lcp.nextSession % 2 ^ 32
  let s1 := s.setLum e { l with session := sess, assignTx := 1, assignClk := s.clk, assignSeq := l.nextSeq,
                                nextSeq := (l.nextSeq + 1) % 65536 }
  let nxt := if (sess + 1) % 2 ^ 32 = 0 then 1 else (sess + 1) % 2 ^ 32
  let s2 := { s1 with lcp := { s1.lcp with nextSession := nxt } }
  (s2.lcpSend e 0x03 l.nextSeq 0 (s2.assignPayload e)).setLumState e LumSt.BINDING

/-! ### Open commands -/

/-- LCP_OPEN shows the open commands and the changes queued (R235). -/
def State.noteLcp (s : State) : State :=
  (s.setFld Reg.LCP_OPEN 0 10 s.lcp.cmds.length).setFld Reg.LCP_OPEN 16 10 s.lcp.queue.length

/-- The open command of a tag. -/
def State.lcpCmd (s : State) (t : Nat) : Option LcpCmd := s.lcp.cmds.find? (fun c => c.tag == t)

/-- Replace an open command. -/
def State.putCmd (s : State) (c : LcpCmd) : State :=
  { s with lcp := { s.lcp with cmds := s.lcp.cmds.map (fun d => if d.tag = c.tag then c else d) } }

/-- RESULT of a command (R217). -/
def lcpResult (e reason late : Nat) : Word :=
  BitVec.ofNat 32 (e % 1024 + reason % 16 * 2 ^ 10 + Nat.min late 0x3FFFF * 2 ^ 14)

/-- Count a command's outcome (R235). -/
def State.countOutcome (s : State) (status reason : Nat) : State :=
  if status = St.FAIL_NO_RESPONSE then s.satInc Reg.LCP_NORESP_CNT 0 32 1
  else if status = St.FAIL_TIMEOUT then s.satInc Reg.LCP_TMO_CNT 0 32 1
  else if status = St.FAIL_CONFLICT ∧ reason = 7 then s.satInc Reg.LCP_SUPERSEDE_CNT 0 32 1
  else if status = St.OK_LATE then (s.satInc Reg.LCP_LATE_CNT 0 32 1).raiseIrq Blk.LCP 5
  else s

/-- The stamped apply time of a command in TB1 ns (R16 step 4, R213). -/
def State.applyTime (s : State) (ch : Nat) : Nat := (s.chainToTb ch 1).toNat

/-- A command's frame (R205, R206). -/
def State.cmdFrame (s : State) (c : LcpCmd) (flags : Nat) : State :=
  let x := c.change
  let fl := flags + (if x.now then 1 else 0)
  match x.kind with
  | .level => s.lcpSend x.entry 0x10 c.seq fl (levelPayload c.applyNs x.value x.cct x.fade)
  | .cap => s.lcpSend x.entry 0x11 c.seq fl (beBytes 4 x.value)
  | .identify => s.lcpSend x.entry 0x12 c.seq fl (beBytes 2 x.value)

/-- Send a command for the first time with the luminaire's next sequence (R16 steps 4 and 5, R214): LnLAST shows it
(R235). -/
def State.sendCmd (s : State) (c : LcpCmd) : State :=
  let e := c.change.entry
  let l := s.lum e
  let d := { c with tx := 1, txClk := s.clk, seq := l.nextSeq, applyNs := s.applyTime c.change.applyCh }
  let s1 := (s.putCmd d).setLum e { l with nextSeq := (l.nextSeq + 1) % 65536 }
  (s1.cmdFrame d 0).setNum (Reg.LCP_LnLAST e) (d.seq + c.change.origin % 4 * 2 ^ 16 + c.tag * 2 ^ 18)

/-- Whether a command may leave (R214, R187, R8): it is granted; a LEVEL follows the earlier LEVELs of its luminaire and the
lift of its cap, and waits while the timebase is in RESET and converts no chainage. -/
def State.mayLeave (s : State) (c : LcpCmd) : Bool :=
  let e := c.change.entry
  c.granted && c.tx == 0 && (c.change.kind != LcpKind.level
    || (s.latSt != LatSt.RESET
      && !s.lcp.queue.any (fun d => d.entry == e && d.kind == LcpKind.cap && d.value == 0)
      && !(s.lcp.cmds.takeWhile (fun d => d.tag != c.tag)).any
        (fun d => d.change.entry == e && d.change.kind == LcpKind.level && d.tx == 0)))

/-- Every command that satisfies `p` and may leave is sent, in the order of forming. -/
def State.flushCmds (s : State) (p : LcpCmd → Bool) : State :=
  (s.lcp.cmds.filter p).foldl (fun a c => if a.mayLeave c then a.sendCmd c else a) s

/-- Send what may leave for an entry. -/
def State.flushEntry (s : State) (e : Nat) : State := s.flushCmds (fun c => c.change.entry == e)

/-- Drop an open command with an outcome of R217. The grant that a raising command took stays (R219). -/
def State.dropCmd (s : State) (c : LcpCmd) (status reason late : Nat) : State :=
  let s1 := { s with lcp := { s.lcp with cmds := s.lcp.cmds.filter (fun d => d.tag != c.tag) } }
  ((s1.decideOp c.tag status (lcpResult c.change.entry reason late)).countOutcome status reason).noteLcp

/-- End an open command; what waited behind it may leave. -/
def State.endCmd (s : State) (c : LcpCmd) (status reason late : Nat) : State :=
  (s.dropCmd c status reason late).flushEntry c.change.entry

/-- End every open command of an entry and drop its queued changes. -/
def State.failEntry (s : State) (e status : Nat) : State :=
  let mine := s.lcp.cmds.filter (fun c => c.change.entry == e)
  let s1 := mine.foldl (fun a c => a.dropCmd c status 0 0) s
  ({ s1 with lcp := { s1.lcp with queue := s1.lcp.queue.filter (fun c => c.entry != e) } }).noteLcp

/-- A luminaire's port leaves POWERED: its bound entries return to UNBOUND, their commands fail and their grants end
(R208). -/
def State.lcpPortDown (s : State) (p : Nat) : State :=
  (portEntries p).foldl (fun a e =>
    if 1 ≤ a.lumState e ∧ a.lumState e ≤ 4 then
      let a1 := (a.failEntry e St.FAIL_STATION_LOST).setLumState e LumSt.UNBOUND
      a1.setLum e { a1.lum e with grant := 0, confirmed := false }
    else a) s

/-- Send an unanswered command again, with RETRY set (R215). -/
def State.resendCmd (s : State) (c : LcpCmd) : State :=
  let s1 := (s.putCmd { c with tx := c.tx + 1, txClk := s.clk }).satInc Reg.LCP_RETRY_CNT 0 32 1
  s1.cmdFrame c 2

/-! ### Forming commands (R211 to R213) -/

/-- The timeout of a command in ms (R215): a LEVEL's time to its apply time and its fade and T_CONFIRM, a cap's
CAP_TMO, an IDENTIFY's the block default (log entry 32). -/
def State.cmdTimeout (s : State) (c : LcpChange) : Nat :=
  match c.kind with
  | .level =>
    let lead := ((s.applyTime c.applyCh : Int) - (s.applyTime s.chain : Int)).toNat
    (lead + 999999) / 1000000 + 10 * c.fade + s.lcpConfirm
  | .cap => s.lcpCapTmo
  | .identify => 100

/-- Queue a change; a queued change of the same kind for the luminaire is replaced (R211). -/
def State.queueChange (s : State) (c : LcpChange) : State :=
  let rest := s.lcp.queue.filter (fun d => !(d.entry == c.entry && d.kind == c.kind))
  ({ s with lcp := { s.lcp with queue := rest ++ [c] } }).noteLcp

/-- Whether LCP may form a LEVEL for the entry: ONLINE, and not overridden but by the override itself (R211, R227). -/
def State.mayForm (s : State) (e : Nat) (override : Bool) : Bool := s.lumOnline e && (override || !s.overridden e)

/-- A level change for an entry from any source: LnTARGET is set also where no command is formed, except under an
override (R211, R227). -/
def State.levelChange (s : State) (c : LcpChange) : State :=
  if s.overridden c.entry ∧ !c.override then s
  else
    let s1 := s.setTarget c.entry c.value c.cct
    if s.mayForm c.entry c.override && s.mode != Mode.MINIMAL then s1.queueChange c else s1

/-- The frame opcode of a kind (R205). -/
def LcpKind.opcode (k : LcpKind) : Nat :=
  match k with
  | .level => 0x10
  | .cap => 0x11
  | .identify => 0x12

/-- The cap held for a luminaire changes: LnCAP and LnSTATE show it, and ARB keeps the caps in the order in which they were
set (R184, R187, R225). -/
def State.holdCap (s : State) (e mw : Nat) : State :=
  let s1 := (s.setNum (Reg.LCP_LnCAP e) mw).setFlag (Reg.LCP_LnSTATE e) 4 (mw != 0)
  let rest := s1.arb.caps.filter (· != e)
  { s1 with arb := { s1.arb with caps := if mw = 0 then rest else rest ++ [e] } }

/-- Give an ARB cap or its lift to LCP (R225): it is held in LnCAP and queued as a POWER_CAP. The lift of the last one is
RESTORED (R197). -/
def State.capChange (s : State) (e mw : Nat) : State :=
  let s1 := s.holdCap e mw
  let s2 := if mw = 0 ∧ s.arb.caps ≠ [] ∧ s1.arb.caps = [] then s1.raiseIrq Blk.ARB 5 else s1
  let s3 := s2.pubLum e
  if s.lumOnline e then s3.queueChange ⟨e, .cap, mw, 0, 0, s.chain, true, 3, 0, 0, none, true⟩ else s3

/-- How far a LEVEL raises the luminaire's grant (R171). -/
def State.raiseOf (s : State) (c : LcpChange) : Nat :=
  match c.kind with
  | .level => s.lumPrice c.entry c.value - (s.lum c.entry).grant
  | _ => 0

/-- Form one queued change: a tag and, where it raises no power, the frame at once (R211, R16).
A tenant's command beyond its rate limit is decided FAIL_DENIED (R230, R553). `none`: no tag is free. -/
def State.formCmd (s : State) (c : LcpChange) : Option State :=
  if !s.lumOnline c.entry then some s
  else
    let op := c.kind.opcode
    match s.takeToken c.ctx with
    | none =>
      (s.beginInternal Blk.LCP Blk.LCP op c.ctx (s.cmdTimeout c) 0).map (fun r =>
        (r.2.countRateDrop c.ctx).decideOp r.1 St.FAIL_DENIED (lcpResult c.entry 0 0))
    | some s0 =>
      match s0.beginInternal Blk.LCP Blk.LCP op c.ctx (s.cmdTimeout c) 0 with
      | none => none
      | some (t, s1) =>
        let raise := s1.raiseOf c
        let cmd : LcpCmd := ⟨t, c, 0, s1.clk, raise, raise == 0, 0, 0, false, false, 0⟩
        some (({ s1 with lcp := { s1.lcp with cmds := s1.lcp.cmds ++ [cmd] } }).flushEntry c.entry)

/-- Form up to `n` queued changes, oldest first; those that find no tag wait (R211, R73). -/
def State.formQueued (s : State) (n : Nat) : State :=
  match n with
  | 0 => s
  | k + 1 =>
    match s.lcp.queue with
    | [] => s
    | c :: rest =>
      let s0 := { s with lcp := { s.lcp with queue := rest } }
      match s0.formCmd c with
      | none => s.holdForTag (.lcpChange c.entry)
      | some s1 => s1.formQueued k

/-- A new number for a set of commands that one recall or point write forms (R178). -/
def State.newGroup (s : State) : Nat × State :=
  (s.lcp.nextGroup, { s with lcp := { s.lcp with nextGroup := s.lcp.nextGroup + 1 } })

/-- The level a REAL32 percentage commands (R212): `none` for NaN, below 0 or above 100. -/
def levelOf (w : Word) : Option Nat :=
  match realRat w, realScaled w 100 1 with
  | some (x, d), some n => if x < 0 ∨ (100 * d : Nat) < x then none else some n.toNat
  | _, _ => none

/-- What a recall gives one member: its level change, or nothing where the scene word keeps the luminaire (R222). -/
def State.recallMember (s : State) (e g sc lead origin ctx grp : Nat) (stake : Option (Nat × Nat × Nat))
    (ch : Nat) : State :=
  match s.groupSlot e g with
  | none => s
  | some k =>
    let w := s.sceneWord e k sc
    if bitOf w 15 then s
    else s.levelChange ⟨e, .level, bitsOf w 0 14, bitsOf w 16 15, bitsOf (s.sceneHeader g sc) 0 16,
                        ch + lead * 65536, lead == 0, origin, ctx, grp, stake, false⟩

/-- A recall of a scene of a group (R222). -/
def State.recall (s : State) (g sc lead origin ctx : Nat) (stake : Option (Nat × Nat × Nat)) (ch : Nat) : State :=
  let (grp, s1) := s.newGroup
  (s1.members g).foldl (fun a e => a.recallMember e g sc lead origin ctx grp stake ch) s1

/-- One level for every member of a group (R211). -/
def State.levelGroup (s : State) (g level cct fade lead origin ctx : Nat) (stake : Option (Nat × Nat × Nat))
    (ch : Nat) : State :=
  let (grp, s1) := s.newGroup
  (s1.members g).foldl (fun a e =>
    a.levelChange ⟨e, .level, level, cct, fade, ch + lead * 65536, lead == 0, origin, ctx, grp, stake, false⟩) s1

/-- Count a point value that forms no command (R212, R222). -/
def State.badValue (s : State) : State := s.satInc Reg.LCP_BADVAL_CNT 0 32 1

/-- What a write of a luminaire or group point queues (R211, R212, R213, R222); in standby only those of the host and
of stakes, in minimal mode none (R232). -/
def State.expandChange (s : State) (c : PointChange) : State :=
  let pb := s.fld Reg.LCP_PT_BASE 0 16
  let gb := s.fld Reg.LCP_GRP_BASE 0 16
  let v := c.value
  let origin := if c.stake.isSome then 2 else 0
  if s.mode = Mode.MINIMAL ∨ (s.mode = Mode.STANDBY ∧ !c.host) ∨ !s.en Blk.LCP then s
  else if pb ≠ 0xFFFF ∧ pb ≤ c.point ∧ c.point < pb + 6144 ∧ (c.point - pb) % 8 = 0 then
    let e := (c.point - pb) / 8
    match levelOf (v.setWidth 32) with
    | none => s.badValue
    | some lv => s.levelChange ⟨e, .level, lv, 0, s.fld (Reg.LCP_LnDEF e) 0 16, c.ch, true, origin, c.ctx, 0,
                                c.stake, false⟩
  else if gb ≠ 0xFFFF ∧ gb ≤ c.point ∧ c.point < gb + 1024 then
    let g := (c.point - gb) / 4
    if (c.point - gb) % 4 = 0 then
      if 63 < v.toNat then s.badValue else s.recall g v.toNat c.lead origin c.ctx c.stake c.ch
    else match levelOf (v.setWidth 32) with
      | none => s.badValue
      | some lv => s.levelGroup g lv 0 c.fade c.lead origin c.ctx c.stake c.ch
  else s

/-- LCP takes every point change it has not yet seen, in order. -/
def State.takeChanges (s : State) : State :=
  let s1 := { s with lcp := { s.lcp with changes := [] } }
  s.lcp.changes.foldl State.expandChange s1

end Sys2Proof.Machine
end

