-- ==== Sys2Proof/Machine/PseCore.lean ====
section
/-! DEFINITION. Ports of PSE: classes and limits, cuts and their reasons, power-up, adoption, the dies (chapter 05). -/

namespace Sys2Proof.Machine

/-! PSE_PnSTAT.STATE (R163). -/
namespace PortSt
abbrev DISABLED : Nat := 0
abbrev DETECT : Nat := 1
abbrev CLASSIFY : Nat := 2
abbrev GRANT_WAIT : Nat := 3
abbrev DENIED : Nat := 4
abbrev STAGGER : Nat := 5
abbrev INRUSH : Nat := 6
abbrev POWERED : Nat := 7
abbrev ERR_DELAY : Nat := 8
abbrev FAULT_LOCK : Nat := 9
end PortSt

/-! Off reasons (R146). -/
namespace Off
abbrev COMMAND : Nat := 0x01
abbrev MPS_LOSS : Nat := 0x02
abbrev OVERLOAD : Nat := 0x03
abbrev LIMIT : Nat := 0x04
abbrev FAST_CUT : Nat := 0x05
abbrev INRUSH_FAIL : Nat := 0x06
abbrev ARB_CUT : Nat := 0x07
abbrev VPSE_UV : Nat := 0x08
abbrev VPSE_OV : Nat := 0x09
abbrev DIE_THERMAL : Nat := 0x0A
abbrev VPSE_REV : Nat := 0x0B
abbrev ADMIN_DISABLE : Nat := 0x0C
abbrev NOT_SUSTAINED : Nat := 0x0D
end Off

/-- Pclass in mW (R136). -/
def pclass (c : Nat) : Nat := [15400, 4000, 7000, 15400, 30000, 45000, 60000, 75000, 90000].getD c 0

/-- ILIM per pairset in mA (R136). -/
def ilimOf (c : Nat) : Nat := if c ≤ 3 then 450 else if c ≤ 6 then 850 else 1100

/-- A port beside its registers. -/
def State.portX (s : State) (p : Nat) : PortX := tget (fun _ => PortX.idle) s.pse.ports p

/-- Put a port. -/
def State.setPortX (s : State) (p : Nat) (x : PortX) : State :=
  { s with pse := { s.pse with ports := tset (fun _ => PortX.idle) s.pse.ports p x } }

/-- What the die holds of a port. -/
def State.diePort (s : State) (p : Nat) : DiePort := tget (fun _ => DiePort.off) s.pse.diePorts p

/-- Put what the die holds of a port. -/
def State.setDiePort (s : State) (p : Nat) (x : DiePort) : State :=
  { s with pse := { s.pse with diePorts := tset (fun _ => DiePort.off) s.pse.diePorts p x } }

/-- A die's mode (R153): 0 LINKED, 1 HOLD, 2 AUTONOMOUS, 3 OFF. -/
def State.dieMode (s : State) (d : Nat) : Nat := tget (fun _ => 0) s.pse.dieMode d

/-- Set a die's mode, which PSE_DIE_STAT shows. -/
def State.setDieMode (s : State) (d m : Nat) : State :=
  ({ s with pse := { s.pse with dieMode := tset (fun _ => 0) s.pse.dieMode d m } }).setFld Reg.PSE_DIE_STAT (2 * d) 2 m

/-- Whether the die of port `p` is LINKED: its link is up, which the module in reset does not keep (R153). -/
def State.linked (s : State) (p : Nat) : Bool := s.dieMode (p / 8) == 0 && !s.sup.inReset

/-- PSE_DIE_STAT shows the dies' modes again. -/
def State.showDies (s : State) : State := s.forN 6 fun a d => a.setDieMode d (a.dieMode d)

/-- While a die is linked it holds SUSTAIN as the register has it (R158). -/
def State.tellSustain (s : State) (p : Nat) : State :=
  if s.linked p then s.setDiePort p { s.diePort p with sustain := s.flag (Reg.PSE_PnCFG p) 2 } else s

/-- PSE_PnSTAT.STATE. -/
def State.portSt (s : State) (p : Nat) : Nat := s.fld (Reg.PSE_PnSTAT p) 0 4

/-- PSE_PnCFG.EN. -/
def State.portEn (s : State) (p : Nat) : Bool := s.flag (Reg.PSE_PnCFG p) 0

/-- MIN_GRANT in mW, above 90 W read as 90 W (R165). -/
def State.minGrant (s : State) (p : Nat) : Nat := 1000 * Nat.min 90 (s.fld (Reg.PSE_PnCFG p) 8 8)

/-- MAX_CLASS, 9 to 15 read as 8 (R165). -/
def State.maxClass (s : State) (p : Nat) : Nat := Nat.min 8 (s.fld (Reg.PSE_PnCFG p) 4 4)

/-- A port's power state changed: its adoption record entry is to be written (R155). -/
def State.noteRecord (s : State) (p : Nat) : State :=
  { s with pse := { s.pse with recordDue := s.pse.recordDue.filter (· != p) ++ [p] } }

/-- Show a port as POWERED or not in PSE_PWRON and PSE_GSTAT (R164). -/
def State.setPowered (s : State) (p : Nat) (b : Bool) : State :=
  let r := if p < 32 then Reg.PSE_PWRON_LO else Reg.PSE_PWRON_HI
  let was := s.flag r (p % 32)
  let n := s.fld Reg.PSE_GSTAT 16 6
  (s.setFlag r (p % 32) b).setFld Reg.PSE_GSTAT 16 6 (if b ∧ !was then n + 1 else if !b ∧ was then n - 1 else n)

/-- Write a port's measurement points (R152). DESIGN CHOICE (log entry 196): those of a linked port that is not POWERED
are GOOD too. -/
def State.pubMeasured (s : State) (p : Nat) : State :=
  let milli := fun (n : Nat) => (realOfRat n 1000).setWidth 64
  let put := fun (a : State) (k : Nat) (v : Dword) => a.pubPoint Reg.PSE_PT_BASE (8 * p + k) v Q.GOOD
  let s2 := put s 1 (milli (s.num (Reg.PSE_PnPWR p)))
  let s3 := put s2 2 (BitVec.ofNat 64 (s.num64 (Reg.PSE_PnE_LO p)))
  let s4 := put s3 3 (milli (s.num (Reg.PSE_PnV p)))
  let s5 := put s4 4 (milli (s.num (Reg.PSE_PnIA p)))
  put s5 5 (milli (s.num (Reg.PSE_PnIB p)))

/-- Write a port's eight points: without a link the measured ones keep their values with quality STALE (R152). -/
def State.pubPort (s : State) (p : Nat) : State :=
  let put := fun (a : State) (k : Nat) (v : Dword) => a.pubPoint Reg.PSE_PT_BASE (8 * p + k) v Q.GOOD
  let s1 := put s 0 (BitVec.ofNat 64 (s.portSt p))
  let s2 := if s.linked p then s1.pubMeasured p
    else s1.forN 5 fun a k => a.pubQuality Reg.PSE_PT_BASE (8 * p + k + 1) Q.STALE
  let s3 := put s2 6 ((realOfRat (s.num (Reg.PSE_PnGRANT p)) 1000).setWidth 64)
  put s3 7 (BitVec.ofNat 64 (s.fld (Reg.PSE_PnLAST_OFF p) 0 8))

/-- Move a port to a state (R163). -/
def State.setPortSt (s : State) (p st : Nat) : State :=
  let s1 := ((s.setFld (Reg.PSE_PnSTAT p) 0 4 st).setPowered p (st == PortSt.POWERED)).noteRecord p
  s1.setPortX p { s1.portX p with since := s.clk }

/-- A port is not classed any more: CLASS and CLASS_B read Fh, and no autoclass figure stands (R141, R166). -/
def State.unclass (s : State) (p : Nat) : State :=
  (((s.setFld (Reg.PSE_PnSTAT p) 4 4 15).setFld (Reg.PSE_PnSTAT p) 20 4 15).setFld (Reg.PSE_PnSTAT p) 10 2 0).setNum
    (Reg.PSE_PnPAUTO p) 0

/-- ARB_PnCFG and ARB_PnFIXED as the port's grant has them; without a grant as the registers stand (R197). -/
def State.portCfg (s : State) (p : Nat) : Word × Nat :=
  ((s.portX p).arbCfg).getD (s.reg (Reg.ARB_PnCFG p), s.num (Reg.ARB_PnFIXED p))

/-- The port's settings take effect as the registers stand. -/
def State.takePortCfg (s : State) (p : Nat) : State :=
  s.setPortX p { s.portX p with arbCfg := some (s.reg (Reg.ARB_PnCFG p), s.num (Reg.ARB_PnFIXED p)) }

/-- ARB_PnCFG.PRIO. -/
def State.portPrio (s : State) (p : Nat) : Nat := bitsOf (s.portCfg p).1.toNat 4 3

/-- ARB's grant of a port: PSE_PnGRANT shows it, ARB_PnGSTAMP the latest increase (R168, R197). -/
def State.setPortGrant (s : State) (p mw : Nat) : State :=
  let x := s.portX p
  let s0 := if x.grant < mw then (s.takePortCfg p).setReg (Reg.ARB_PnGSTAMP p) s.chain32
    else if mw = 0 then s.setPortX p { x with arbCfg := none } else s
  let y := s0.portX p
  let s1 := (s0.setPortX p { y with grant := mw, gstamp := if x.grant < mw then s.chain else y.gstamp }).setNum
    (Reg.PSE_PnGRANT p) mw
  if x.grant = mw then s1 else s1.noteRecord p

/-- Release a port's grant and withdraw its request (R163, R169 step 1, R189). -/
def State.releaseGrant (s : State) (p : Nat) : State :=
  let s1 := s.setPortGrant p 0
  s1.setPortX p { s1.portX p with adopted := none, askClk := none, keepGrant := false }

/-- The classes of a port's pairsets A and B, equal unless DUAL. -/
def State.portClass (s : State) (p : Nat) : Nat := s.fld (Reg.PSE_PnSTAT p) 4 4

/-- ICUT of a pairset in mA: 1.05 × its share of the grant ÷ (VPSE × pairsets), at least 60 mA and at most 95 % of
ILIM (R142). DESIGN CHOICE (log entry 193): a fraction of a mA is rounded down. -/
def icutOf (share vpse pairs cls : Nat) : Nat :=
  Nat.max 60 (Nat.min (1050 * share / Nat.max 1 (vpse * pairs)) (ilimOf cls * 95 / 100))

/-- Set the ILIM and ICUT of a POWERED port from its class, grant and the measured VPSE (R136, R142); a port held
outside LINKED keeps its limits (R154). -/
def State.setLimits (s : State) (p : Nat) : State :=
  let d := s.diePort p
  let v := s.num Reg.PSE_VPSE
  let g := (s.portX p).grant
  if s.portSt p ≠ PortSt.POWERED ∨ !s.linked p then s
  else
    let n := if d.pairs = 3 then 2 else 1
    let pa := pclass d.cls
    let pb := pclass d.clsB
    let a := if d.dual then icutOf (g * pa / Nat.max 1 (pa + pb)) v 1 d.cls else icutOf g v n d.cls
    let b := if d.dual then icutOf (g * pb / Nat.max 1 (pa + pb)) v 1 d.clsB else a
    let il := ilimOf d.cls
    let s1 := s.setDiePort p { d with ilim := il, ilimB := if d.dual then ilimOf d.clsB else il, icut := a, icutB := b }
    (s1.setNum (Reg.PSE_PnICUT p) (a + il * 2 ^ 16)).noteRecord p

/-- RESULT of a PSE operation (R159). -/
def State.portResult (s : State) (p : Nat) : Word :=
  BitVec.ofNat 32 (s.portSt p + s.fld (Reg.PSE_PnSTAT p) 16 4 * 2 ^ 4 + s.portClass p * 2 ^ 8
    + s.fld (Reg.PSE_PnLAST_OFF p) 0 8 * 2 ^ 16)

/-- The ACTIVE operations of PSE on a port with an opcode, ascending by tag. -/
def State.portOps (s : State) (p opcode : Nat) : List Nat :=
  s.openTags.filter (fun t =>
    let x := s.slot t
    x.st == .active && x.block == Blk.PSE && x.opcode == opcode && paramField x.param 0 1 == p)

/-- Decide every open operation of an opcode on a port. -/
def State.endPortOps (s : State) (p opcode status : Nat) : State :=
  (s.portOps p opcode).foldl (fun a t => a.decideOp t status (a.portResult p)) s

/-- Record why a port or pairset went off (R146). -/
def State.recordOff (s : State) (p reason : Nat) : State :=
  (s.setFld (Reg.PSE_PnLAST_OFF p) 0 8 reason).setReg (Reg.PSE_PnOFF_STAMP p) s.chain32

/-- The cuts that R145 counts. -/
def countedCut (reason : Nat) : Bool :=
  reason == Off.OVERLOAD || reason == Off.LIMIT || reason == Off.FAST_CUT || reason == Off.INRUSH_FAIL

/-- The cuts that lead to ERR_DELAY (R143, R163). -/
def faultCut (reason : Nat) : Bool :=
  !(reason == Off.COMMAND || reason == Off.ADMIN_DISABLE || reason == Off.NOT_SUSTAINED)

/-- Turn a port's gates off at its die. -/
def State.gateOff (s : State) (p : Nat) : State :=
  let d := s.diePort p
  ((s.setDiePort p { d with pairs := 0 }).setFld (Reg.PSE_PnSTAT p) 8 2 0).emit (.dieCmd p 0 0)

/-- Cut a port that is in INRUSH or POWERED, under PSE's control: gates off, reason recorded, grant released, and for
a fault the FAULT interrupt, PORT_OFF where it was POWERED, and ERR_DELAY; `next` is the state otherwise (R143, R146, R163,
R208). -/
def State.cutPort (s : State) (p reason next : Nat) : State :=
  let st := s.portSt p
  if st ≠ PortSt.INRUSH ∧ st ≠ PortSt.POWERED then s
  else
    let s1 := ((s.gateOff p).recordOff p reason).setFlag (Reg.PSE_PnSTAT p) 12 false
    let s2 := if countedCut reason then
        let x := s1.portX p
        (s1.setPortX p { x with cuts := s.clk :: x.cuts }).satInc (Reg.PSE_PnFAULT_CNT p) 0 32 1
      else s1
    let s3 := if faultCut reason ∧ st = PortSt.POWERED then s2.raiseIrq Blk.PSE 2 else s2
    let s4 := if faultCut reason then s3.raiseIrq Blk.PSE 3 else s3
    let s5 := ((s4.unclass p).releaseGrant p).setPortSt p (if faultCut reason then PortSt.ERR_DELAY else next)
    let s6 := s5.setNum (Reg.PSE_PnICUT p) 0
    if st = PortSt.POWERED then s6.lcpPortDown p else s6

/-- A cut decided by the die (R143, R144, R154): under PSE's control the port, or one pairset of a dual-signature PD
while the other stays powered, goes off with the reason; in HOLD and AUTONOMOUS the die latches it. `pairset` is 1 for
A, 2 for B. -/
def State.dieCut (s : State) (p pairset reason : Nat) : State :=
  let d := s.diePort p
  if d.pairs = 0 then s
  else if d.dual ∧ d.pairs = 3 then
    let left := 3 - pairset % 3
    let s1 := s.setDiePort p { d with pairs := left, reason := if s.linked p then d.reason else reason }
    if s.linked p then
      (((s1.setFld (Reg.PSE_PnSTAT p) 8 2 left).recordOff p reason).noteRecord p).emit (.dieCmd p 0 pairset)
    else s1
  else if s.linked p then s.cutPort p reason PortSt.DETECT
  else s.setDiePort p { d with pairs := 0, reason := reason }

/-- Cut every port that is on (R148). -/
def State.cutAll (s : State) (reason : Nat) : State :=
  s.forN 48 (fun a p => if a.linked p then a.cutPort p reason PortSt.DETECT
    else if (a.diePort p).pairs ≠ 0 then a.setDiePort p { a.diePort p with pairs := 0, reason := reason } else a)

/-- Operations on a port pass their point of no return (R159); those that have ended are forgotten. -/
def State.passReturn (s : State) (tags : List Nat) : State :=
  let open_ := s.openTags.map fun t => (s.slot t).ord
  let new := tags.map fun t => (s.slot t).ord
  { s with pse := { s.pse with pastReturn := s.pse.pastReturn.filter (fun n => open_.contains n && !new.contains n) ++ new } }

/-- A port begins its inrush: gates on at the 0.45 A limit; PORT_ON is past its point of no return (R140, R159, R163). -/
def State.startInrush (s : State) (p : Nat) : State :=
  let w := (s.portX p).pairsWant
  let d := s.diePort p
  let s1 := s.setDiePort p { d with pairs := w, cls := s.portClass p, clsB := s.fld (Reg.PSE_PnSTAT p) 20 4,
                                    dual := s.flag (Reg.PSE_PnSTAT p) 10, ilim := 450, ilimB := 450, reason := 0,
                                    sustain := s.flag (Reg.PSE_PnCFG p) 2 }
  (((s1.setFld (Reg.PSE_PnSTAT p) 8 2 w).emit (.dieCmd p 1 w)).setPortSt p PortSt.INRUSH).passReturn (s.portOps p 1)

/-- Whether a waiting port's detection ended more than 400 ms ago, so that it is repeated before the start (R139). -/
def State.slotStale (s : State) (p : Nat) : Bool := decide (400 * msClk < s.clk - (s.portX p).detClk)

/-- A waiting port takes its slot: inrush, or a repeated detection, which starts at once, with its grant kept (R139). -/
def State.takeSlot (s : State) (p : Nat) : State :=
  if s.slotStale p then
    (s.setPortX p { s.portX p with keepGrant := true, detDue := s.clk }).setPortSt p PortSt.DETECT
  else s.startInrush p

/-- A port has settled: POWERED, its class limits set, and the operations that wait for it complete (R140, R159). -/
def State.enterPowered (s : State) (p : Nat) : State :=
  let s1 := s.setPortSt p PortSt.POWERED
  let s2 := s1.setPortX p { s1.portX p with autoDone := false, cycleEnd := none }
  let s3 := (s2.setLimits p).raiseIrq Blk.PSE 1
  (s3.endPortOps p 1 St.OK).endPortOps p 3 St.OK

/-- Whether the supply or a die's temperature holds a port from detection (R148, R150). -/
def State.portBarred (s : State) (p : Nat) : Bool := s.pse.vpseCut || s.flag Reg.PSE_DIE_STAT (18 + p / 8)

/-- A port's fault count returns to 0 (R159, R163). -/
def State.clearFaults (s : State) (p : Nat) : State :=
  (s.setPortX p { s.portX p with cuts := [], wasLocked := false }).setNum (Reg.PSE_PnFAULT_CNT p) 0

/-- Whether granted ports start at once: PSE_STAGGER.OFF = 1 and nothing holds power-ups (R138, R148). -/
def State.startAtOnce (s : State) (p : Nat) : Bool :=
  s.flag Reg.PSE_STAGGER 8 && !s.pse.hold && s.en Blk.PSE && !s.portBarred p

/-- A granted port waits for its slot, or takes it at once (R138). -/
def State.enterStagger (s : State) (p : Nat) : State :=
  let s1 := s.setPortSt p PortSt.STAGGER
  if s1.startAtOnce p then s1.takeSlot p else s1

/-- EN set: a disabled port enters DETECT with no detection run; one that was disabled in FAULT_LOCK has its fault count
cleared (R135, R145, R163). -/
def State.enablePort (s : State) (p : Nat) : State :=
  let s1 := s.setFlag (Reg.PSE_PnCFG p) 0 true
  if s1.portSt p = PortSt.DISABLED then
    let s2 := if (s1.portX p).wasLocked then s1.clearFaults p else s1
    ((s2.setPortX p { s2.portX p with detDue := s.clk }).setFld (Reg.PSE_PnSTAT p) 16 4 0).setPortSt p PortSt.DETECT
  else s1

/-- EN cleared: the port is off, with ADMIN_DISABLE when it was powered, and DISABLED (R146, R163). -/
def State.disablePort (s : State) (p : Nat) : State :=
  let s1 := s.setFlag (Reg.PSE_PnCFG p) 0 false
  let s2 := s1.cutPort p Off.ADMIN_DISABLE PortSt.DISABLED
  if s2.portSt p = PortSt.DISABLED then s2
  else
    let s3 := (s2.unclass p).releaseGrant p
    (s3.setPortX p { s3.portX p with cycleEnd := none, wasLocked := s2.portSt p == PortSt.FAULT_LOCK }).setPortSt p
      PortSt.DISABLED

/-- A classed port asks ARB for power (R137). -/
def State.askArb (s : State) (p : Nat) : State :=
  let s1 := s.setPortSt p PortSt.GRANT_WAIT
  s1.setPortX p { s1.portX p with askClk := some s.clk }

/-! ### The adoption record (R155) -/

/-- The newer of two halves. -/
def AdoptRec.newest (r : AdoptRec) : Option AdoptHalf :=
  match r.a, r.b with
  | some x, some y => if x.seq < y.seq then some y else some x
  | some x, none => some x
  | none, y => y

/-- The halves of the record that prove torn are lost (R156). -/
def dropHalf (l : Tbl AdoptRec) (e : Nat × Bool) : Tbl AdoptRec :=
  let r := tget (fun _ => ⟨none, none⟩) l e.1
  tset (fun _ => ⟨none, none⟩) l e.1 (if e.2 then { r with b := none } else { r with a := none })

/-- The record entry of a port. -/
def State.adoptRec (s : State) (p : Nat) : AdoptRec := tget (fun _ => ⟨none, none⟩) s.pse.record p

/-- A port's entry is written to its older half with the next sequence (R155). -/
def State.writeRecord (s : State) (p : Nat) : State :=
  let r := s.adoptRec p
  let q := match r.newest with
    | some h => h.seq + 1
    | none => 1
  let d := s.diePort p
  let h : AdoptHalf := ⟨q, s.portSt p == PortSt.POWERED, d.pairs, d.cls, d.clsB, d.ilim, d.icut, (s.portX p).grant,
                        s.flag (Reg.PSE_PnCFG p) 2, s.minGrant p⟩
  let r' : AdoptRec := if q % 2 = 1 then { r with a := some h } else { r with b := some h }
  { s with pse := { s.pse with record := tset (fun _ => ⟨none, none⟩) s.pse.record p r',
                               recordDue := s.pse.recordDue.filter (· != p) } }

/-- Add to a field of PSE_ADOPT_STAT. -/
def State.countAdopt (s : State) (lo : Nat) : State := s.setFld Reg.PSE_ADOPT_STAT lo 6 (s.fld Reg.PSE_ADOPT_STAT lo 6 + 1)

/-- A port is taken over as POWERED from its die with a grant; no detection has run (R135, R156, R189). -/
def State.adoptAs (s : State) (p grant : Nat) : State :=
  let d := s.diePort p
  let s1 := s.setNum (Reg.PSE_PnSTAT p) (PortSt.POWERED + d.cls % 16 * 2 ^ 4 + d.pairs * 2 ^ 8
    + (if d.dual then 2 ^ 10 else 0) + 2 ^ 12 + (if d.dual then d.clsB % 16 else 15) * 2 ^ 20)
  let s2 := (s1.setPowered p true).setNum (Reg.PSE_PnICUT p) (d.icut + d.ilim * 2 ^ 16)
  let s3 := s2.setNum (Reg.PSE_PnALLOC p) (if d.dual then pclass d.cls + pclass d.clsB else pclass d.cls)
  let s4 := (s3.takePortCfg p).setPortX p { (s3.takePortCfg p).portX p with grant := grant, adopted := some grant, since := s.clk, pairsWant := d.pairs }
  ((s4.setNum (Reg.PSE_PnGRANT p) grant).countAdopt 0).noteRecord p

/-- The die's energy count goes into the port's accumulator (R157): PSE_PnE gains it and the count returns to 0. -/
def State.takeDieCount (s : State) (p : Nat) : State :=
  let d := s.diePort p
  let s1 := s.setNum64 (Reg.PSE_PnE_LO p) (s.num64 (Reg.PSE_PnE_LO p) + d.count)
  let s2 := if d.sat then
      { s1.countAdopt 24 with pse := { (s1.countAdopt 24).pse with satDue := (s1.countAdopt 24).pse.satDue ++ [(p, d.count)] } }
    else s1
  s2.setDiePort p { d with count := 0, frac := 0, sat := false }

/-- Adopt one port from its die's state and its record entry; the grant of one that is off is released and its luminaires
are unbound (R156, R162, R208). -/
def State.adoptPort (s : State) (p : Nat) : State :=
  let d := s.diePort p
  let rec_ := (s.adoptRec p).newest
  if tget (fun _ => false) s.pse.cold (p / 8) then ((s.setDiePort p DiePort.off).releaseGrant p).lcpPortDown p
  else if d.pairs ≠ 0 then
    let s1 := match rec_ with
      | some h =>
        if h.powered ∧ h.pairs = d.pairs ∧ h.cls = d.cls ∧ h.clsB = d.clsB then s.adoptAs p h.grant
        else (s.adoptAs p (if d.dual then pclass d.cls + pclass d.clsB else pclass d.cls)).countAdopt 8
      | none => (s.adoptAs p (if d.dual then pclass d.cls + pclass d.clsB else pclass d.cls)).countAdopt 8
    s1.takeDieCount p
  else
    let lost := (d.reason != 0) && (match rec_ with
      | some h => h.powered
      | none => false)
    let s1 := if lost then ((s.setFld (Reg.PSE_PnLAST_OFF p) 0 8 d.reason).countAdopt 16).noteRecord p else s
    (((s1.setDiePort p DiePort.off).releaseGrant p).lcpPortDown p).setFld (Reg.PSE_PnSTAT p) 0 4 PortSt.DISABLED

/-- Adopt every port, return the dies to LINKED and raise ADOPT_DONE; reading a die clears its COLD flag (R156,
R157). -/
def State.adoptAll (s : State) : State :=
  let s1 := s.forN 48 State.adoptPort
  let s2 := s1.forN 6 (fun a d => if a.dieMode d = 3 then a else a.setDieMode d 0)
  let s3 := { s2 with pse := { s2.pse with cold := [] } }
  (s3.setFlag Reg.PSE_GSTAT 5 true).raiseIrq Blk.PSE 7

/-- Ports follow the image after adoption: an adopted port with EN = 0 is cut, a port that is off with EN = 1 begins
detection, and the dies are told SUSTAIN (R158, R163). -/
def State.applyPortImage (s : State) : State :=
  s.forN 48 (fun a p =>
    (if a.portEn p then a.enablePort p else a.cutPort p Off.ADMIN_DISABLE PortSt.DISABLED).tellSustain p)

end Sys2Proof.Machine
end

