-- ==== Sys2Proof/Machine/ArbCore.lean ====
section
/-! DEFINITION. ARB's accounts: pools, bases, prices of stakes, reservations, requests and refusals (chapter 06). -/

namespace Sys2Proof.Machine

/-! ### Pools (R167, R168) -/

/-- A pool's state: 0 NORMAL, 1 SOFT, 2 HARD (R183). -/
def State.poolSt (s : State) (q : Nat) : Nat := s.fld Reg.ARB_STATE (2 * q) 2

/-- Set a pool's state. -/
def State.setPoolSt (s : State) (q st : Nat) : State := s.setFld Reg.ARB_STATE (2 * q) 2 st

/-- Sum of the grants in force (R168). -/
def State.granted (s : State) (q : Nat) : Nat :=
  if q = 0 then s.pse.ports.foldl (fun n e => n + e.2.grant) 0
  else s.dio.chans.foldl (fun n e => n + e.2.grant) 0

/-- Sum of the reservations held, those of firings still undecided among them (R168, R176). -/
def State.reserved (s : State) (q : Nat) : Nat :=
  (s.arb.resv.foldl (fun n e => if e.2.pool = q then n + e.2.held else n) 0)
    + (s.arb.fired.foldl (fun n r => if r.pool = q then n + r.held else n) 0)

/-- The AC-derived limit in mW, where it applies (R190, R192). -/
def State.acLimit (s : State) : Option Nat :=
  let ac := s.num Reg.ARB_AC_LIMIT
  if ac = 0 ∨ s.flag Reg.ARB_STATE 5 then none
  else some ((ac - s.fld Reg.ARB_LOSS_CFG 16 16) * s.fld Reg.ARB_LOSS_CFG 0 16)

/-- OUTER_EXCESS, which only an enabled outer check takes from the limit (R191). -/
def State.outerExcess (s : State) : Nat := if s.flag Reg.ARB_CFG 1 then s.num Reg.ARB_OUTER_EXCESS else 0

/-- The effective limit (R168). -/
def State.eff (s : State) (q : Nat) : Nat :=
  let lim := s.num (Reg.ARB_PLq_LIMIT q)
  if q = 0 then (match s.acLimit with
    | some a => Nat.min lim a
    | none => lim) - s.outerExcess
  else lim

/-- FREE (R168). -/
def State.freePool (s : State) (q : Nat) : Nat := s.eff q - (s.granted q + s.reserved q)

/-- The mean draw of the last 16 ms (R168). -/
def State.draw (s : State) (q : Nat) : Nat :=
  let l := if q = 0 then s.arb.draw0 else s.arb.draw1
  l.foldl (· + ·) 0 / Nat.max 1 l.length

/-- ARB_CFG.SCENE_ATOMIC, RESTORE_EN and LOOKAHEAD (R198). -/
def State.sceneAtomic (s : State) : Bool := s.flag Reg.ARB_CFG 0
def State.restoreEn (s : State) : Bool := s.flag Reg.ARB_CFG 2
def State.lookahead (s : State) : Nat := Nat.min 250 (s.fld Reg.ARB_CFG 8 8)

/-! ### Bases (R170, R171, R189) -/

/-- ARB_PnCFG.BASIS. -/
def State.basis (s : State) (p : Nat) : Nat := bitsOf (s.portCfg p).1.toNat 0 2

/-- The enabled luminaire entries of a port. -/
def State.portLums (s : State) (p : Nat) : List Nat := (portEntries p).filter s.lumEnabled

/-- The CURVE grant of a port: its luminaires' grants plus HEADROOM (R170). -/
def State.curveGrant (s : State) (p : Nat) : Nat :=
  (s.portLums p).foldl (fun n e => n + (s.lum e).grant) 0 + 1000 * bitsOf (s.portCfg p).1.toNat 8 8

/-- Every luminaire of a port at its curve price at its power-on level (R170). -/
def State.powerUpLums (s : State) (p : Nat) : State :=
  (s.portLums p).foldl (fun a e =>
    a.setLumGrant e (a.lumPrice e (Config.powerOnLevel e).val)) s

/-- The grant of a port under its basis (R170); Pautoclass counts where the PD signalled autoclass. -/
def State.basisGrant (s : State) (p : Nat) : Nat :=
  let alloc := s.num (Reg.PSE_PnALLOC p)
  match s.basis p with
  | 1 =>
    let a := s.num (Reg.PSE_PnPAUTO p)
    if a = 0 ∨ !s.flag (Reg.PSE_PnSTAT p) 11 then alloc else Nat.min a alloc
  | 2 => if s.portLums p = [] then alloc else s.curveGrant p
  | 3 => (s.portCfg p).2
  | _ => alloc

/-- Whether a port's grant follows its luminaires. -/
def State.curvePort (s : State) (p : Nat) : Bool := s.basis p == 2 && s.portLums p != []

/-- What the port of a CURVE basis would be granted now: at least an adopted grant that stands (R189). -/
def State.followGrant (s : State) (p : Nat) : Nat := Nat.max (s.curveGrant p) ((s.portX p).adopted.getD 0)

/-! ### Needs of stakes (R175, R178) -/

/-- The need of a level for one entry: its curve price less its present grant, where positive. -/
def State.levelNeed (s : State) (e level : Nat) : Nat := s.lumPrice e level - (s.lum e).grant

/-- The need of a recall: over the members whose scene word sets a level; at a firing only those ONLINE and not
overridden (R175, R178). -/
def State.recallNeed (s : State) (g sc : Nat) (firing : Bool) : Nat :=
  (s.members g).foldl (fun n e =>
    match s.groupSlot e g with
    | none => n
    | some k =>
      let w := s.sceneWord e k sc
      if bitOf w 15 ∨ (firing ∧ !s.mayForm e false) then n else n + s.levelNeed e (bitsOf w 0 14)) 0

/-- The need of a point write to a luminaire or group point (R175). -/
def State.pointNeed (s : State) (i : Nat) (v : Dword) (firing : Bool) : Nat :=
  let pb := s.fld Reg.LCP_PT_BASE 0 16
  let gb := s.fld Reg.LCP_GRP_BASE 0 16
  if !s.lcpPoint i then 0
  else if pb ≠ 0xFFFF ∧ pb ≤ i ∧ i < pb + 6144 ∧ (i - pb) % 8 = 0 then
    let e := (i - pb) / 8
    match levelOf (v.setWidth 32) with
    | some lv => if firing ∧ !s.mayForm e false then 0 else s.levelNeed e lv
    | none => 0
  else
    let g := (i - gb) / 4
    if (i - gb) % 4 = 0 then (if v.toNat < 64 then s.recallNeed g v.toNat firing else 0)
    else match levelOf (v.setWidth 32) with
      | some lv => (s.members g).foldl (fun n e => if firing ∧ !s.mayForm e false then n else n + s.levelNeed e lv) 0
      | none => 0

/-- The need of switching a port on (R175): its grant under its basis where that is known, else Pclass of the last
classification, or else of MAX_CLASS, less the present grant. -/
def State.portNeed (s : State) (p : Nat) : Nat :=
  let alloc := s.num (Reg.PSE_PnALLOC p)
  let g := if s.basis p = 3 then (s.portCfg p).2
    else if s.curvePort p then
      (if s.portSt p = PortSt.POWERED then s.followGrant p else (s.powerUpLums p).basisGrant p)
    else if alloc ≠ 0 then s.basisGrant p
    else pclass (s.maxClass p)
  g - (s.portX p).grant

/-- A stake's pool and need (R175); `none` for a stake that is not priced. -/
def State.stakeNeed (s : State) (k : Stake) (firing : Bool) : Option (Nat × Nat) :=
  match k.action with
  | 1 => if s.lcpPoint k.target then some (0, s.pointNeed k.target k.arg firing) else none
  | 2 => some (0, s.recallNeed k.target (k.arg.toNat % 64) firing)
  | 3 => if k.arg.toNat % 2 = 1 ∧ s.fieldMa k.target ≠ 0 then some (1, s.fieldMa k.target) else none
  | 4 => if k.arg.toNat % 2 = 1 then some (0, s.portNeed k.target) else none
  | _ => none

/-! ### Reservations (R176 to R180) -/

/-- Count an entry made SHORT (R177). -/
def State.noteShort (s : State) : State := (s.satInc Reg.ARB_RESV_SHORT_CNT 0 32 1).raiseIrq Blk.ARB 3

/-- What a reservation may take now: FREE while the pool is NORMAL (R177, R183). -/
def State.resvRoom (s : State) (q : Nat) : Nat := if s.poolSt q = 0 then s.freePool q else 0

/-- The lowest free entry of the reservation view. -/
def State.freeResv (s : State) : Option Nat := (List.range 1024).find? (fun i => (tfind? s.arb.resv i).isNone)

/-- Hold a reservation for a need, or as much as SCENE_ATOMIC allows (R176, R177); with all 1,024 in use the stake
stays unreserved. -/
def State.reserve (s : State) (index gen ch q need target : Nat) : State :=
  match s.freeResv with
  | none => s
  | some i =>
    let room := s.resvRoom q
    let held := if need ≤ room then need else if s.sceneAtomic then 0 else room
    let r : Resv := ⟨index, gen, ch, q, held, need - held, s.arb.nextSeq, target⟩
    let s1 := { s with arb := { s.arb with resv := tput s.arb.resv i r, nextSeq := s.arb.nextSeq + 1 } }
    if held < need then s1.noteShort else s1

/-- Keep only the reservations that satisfy `p` (R179). -/
def State.keepResv (s : State) (p : Resv → Bool) : State :=
  { s with arb := { s.arb with resv := s.arb.resv.filter (fun e => p e.2) } }

/-- Turn a held reservation into SHORT (R182, R183). -/
def Resv.short (r : Resv) : Resv := { r with held := 0, unheld := r.unheld + r.held }

/-- All held reservations of a pool are released and become SHORT (R183). -/
def State.shortPool (s : State) (q : Nat) : State :=
  let n := (s.arb.resv.filter (fun e => e.2.pool == q && e.2.held != 0)).length
  let s1 := { s with arb := { s.arb with resv := s.arb.resv.map (fun (e : Nat × Resv) => if e.2.pool = q then (e.1, e.2.short) else e) } }
  s1.forN n (fun a _ => a.noteShort)

/-- The most recently priced reservation of a pool that holds something. -/
def State.lastHeld (s : State) (q : Nat) : Option (Nat × Resv) :=
  s.arb.resv.foldl (fun m e =>
    if e.2.pool = q ∧ e.2.held ≠ 0 then
      match m with
      | none => some e
      | some b => if b.2.seq < e.2.seq then some e else some b
    else m) none

/-- Release reservations, the most recently priced first, until they fit (R182). -/
def State.trimResv (s : State) (q fuel : Nat) : State :=
  match fuel with
  | 0 => s
  | f + 1 =>
    if s.granted q + s.reserved q ≤ s.eff q then s
    else match s.lastHeld q with
      | none => s
      | some (i, r) =>
        ({ s with arb := { s.arb with resv := tput s.arb.resv i r.short } }.noteShort).trimResv q f

/-- Whether a chainage lies in the look-ahead window (R175). -/
def State.inWindow (s : State) (ch : Nat) : Bool :=
  decide (0 < s.lookahead) && decide (s.chain ≤ ch) && decide (ch ≤ s.chain + s.lookahead * 65536)

/-- Put an occurrence on the list to be priced, unless it is reserved or listed already (R175). -/
def State.listPrice (s : State) (i gen ch : Nat) : State :=
  if !s.inWindow ch ∨ s.arb.toPrice.contains (i, gen, ch)
      ∨ s.arb.resv.any (fun e => e.2.index == i && e.2.gen == gen && e.2.ch == ch) then s
  else { s with arb := { s.arb with toPrice := s.arb.toPrice ++ [(i, gen, ch)] } }

/-- The occurrences of a stake inside the window, the next one first, no more than there are reservations (R175, R176). -/
def State.occurrences (s : State) (k : Stake) : List Nat :=
  let n := if k.period = 0 then 1 else Nat.min 1024 (s.lookahead * 65536 / k.period + 2)
  let done := (k.fireAt - k.chainage.toNat) / Nat.max 1 k.period
  let stands := fun (j : Nat) => j == 0 || k.count == 0xFFFF || decide (done + j < k.count)
  let at_ := fun (j : Nat) => if j = 0 then k.fireAt else k.chainage.toNat + (done + j) * k.period
  (((List.range n).filter stands).map at_).filter s.inWindow

/-- Put a stake's occurrences on the list to be priced. -/
def State.listStake (s : State) (i : Nat) (k : Stake) : State :=
  (s.occurrences k).foldl (fun a c => a.listPrice i k.gen c) s

/-- Every stake of the window is to be priced afresh (R193, R195). -/
def State.listWindow (s : State) : State := s.validStakes.foldl (fun a e => a.listStake e.1 e.2) s

/-- ARB takes one edit record: reservations of another GEN, of a cleared stake or of occurrences passed are released;
a stake's occurrences in the window are to be priced (R179, R180). -/
def State.takeEdit (s : State) (r : EditRec) : State :=
  match r.stake with
  | none =>
    let s1 := s.keepResv (fun v => v.index != r.index)
    { s1 with arb := { s1.arb with toPrice := s1.arb.toPrice.filter (fun x => x.1 != r.index) } }
  | some k =>
    let s1 := s.keepResv (fun v => v.index != r.index || (v.gen == r.gen && decide (k.fireAt ≤ v.ch)
      && s.inWindow v.ch))
    let s2 := { s1 with arb := { s1.arb with
      toPrice := s1.arb.toPrice.filter (fun x => x.1 != r.index || x.2.1 == r.gen) } }
    s2.listStake r.index { k with gen := r.gen }

/-- ARB takes every edit record of the feed in order (R119, R180). -/
def State.takeFeed (s : State) : State :=
  let s1 := { s with lat := { s.lat with feed := [] } }
  s.lat.feed.foldl State.takeEdit s1

/-- Release every reservation (R129, R195). -/
def State.releaseAllResv (s : State) : State :=
  { s with arb := { s.arb with resv := [], fired := [], toPrice := [] } }

/-- At a firing the reservation of the pair and the occurrence is taken up with the need computed afresh: a part the
need does not use is released (R178). -/
def State.applyResv (s : State) (i gen ch need : Nat) : State :=
  match s.arb.resv.find? (fun e => e.2.index == i && e.2.gen == gen && e.2.ch == ch) with
  | none => s
  | some (k, r) =>
    let s1 := { s with arb := { s.arb with resv := tdel s.arb.resv k } }
    if need = 0 ∨ r.held = 0 then s1
    else { s1 with arb := { s1.arb with fired := s1.arb.fired ++ [{ r with held := Nat.min r.held need }] } }

/-- The amount a firing still holds (R178). -/
def State.heldFor (s : State) (k : Option (Nat × Nat × Nat)) : Nat :=
  match k with
  | none => 0
  | some (i, g, c) => s.arb.fired.foldl (fun n r => if r.index = i ∧ r.gen = g ∧ r.ch = c then n + r.held else n) 0

/-- Release what a firing still holds (R179). -/
def State.dropFired (s : State) (k : Option (Nat × Nat × Nat)) : State :=
  match k with
  | none => s
  | some (i, g, c) =>
    { s with arb := { s.arb with fired := s.arb.fired.filter (fun r => !(r.index == i && r.gen == g && r.ch == c)) } }

/-! ### Deciding commands (R171, R172, R178, R181) -/

/-- Count refusals (R197). -/
def State.noteRefusals (s : State) (n : Nat) : State :=
  if n = 0 then s else (s.satInc Reg.ARB_REFUSE_CNT 0 32 n).raiseIrq Blk.ARB 6

/-- The grant a port would have with one luminaire at a grant. -/
def State.portWith (s : State) (e g : Nat) : Nat :=
  let p := e / 16
  if s.curvePort p then Nat.max (s.portX p).grant ((s.setLum e { s.lum e with grant := g }).followGrant p)
  else (s.portX p).grant

/-- A refusal of a raising command for a reason of its own: MODE, PORT_CLASS, DIE_HOT or CAPPED (R172). -/
def State.ownReason (s : State) (c : LcpCmd) : Option Nat :=
  let e := c.change.entry
  let p := e / 16
  let price := s.lumPrice e c.change.value
  if s.mode = Mode.MINIMAL then some 5
  else if s.num (Reg.PSE_PnALLOC p) < s.portWith e price then some 2
  else if s.flag Reg.PSE_DIE_STAT (12 + p / 8) then some 3
  else if s.num (Reg.LCP_LnCAP e) ≠ 0 ∧ s.restoreEn ∧ s.num (Reg.LCP_LnCAP e) < price then some 6
  else none

/-- Whether granting a command lifts a cap (R187). -/
def State.liftsCap (s : State) (c : LcpCmd) : Bool :=
  let cap := s.num (Reg.LCP_LnCAP c.change.entry)
  cap != 0 && decide (cap < s.lumPrice c.change.entry c.change.value)

/-- Send a cap or its lift ahead of a command; without a tag it waits in the queue (R73, R187, R225). -/
def State.capNow (s : State) (e mw : Nat) : State :=
  let s1 := s.capChange e mw
  match s1.lcp.queue.find? (fun c => c.entry == e && c.kind == LcpKind.cap) with
  | none => s1
  | some c =>
    let s2 := { s1 with lcp := { s1.lcp with queue := s1.lcp.queue.filter (fun d => !(d.entry == e && d.kind == LcpKind.cap)) } }
    match s2.formCmd c with
    | some s3 => s3.noteLcp
    | none => s1.holdForTag (.lcpChange e)

/-- Grant a raising command: luminaire and port grants rise first, ICUT follows, a cap in its way is lifted, then the
frame leaves (R171, R16, R187). -/
def State.grantCmd (s : State) (c : LcpCmd) : State :=
  let e := c.change.entry
  let p := e / 16
  let price := s.lumPrice e c.change.value
  let g := s.portWith e price
  let s1 := ((s.setLumGrant e price).setPortGrant p g).setLimits p
  let s2 := if s.liftsCap c then s1.capNow e 0 else s1
  (s2.putCmd { c with granted := true }).flushEntry e

/-- Refuse a command with a reason code (R172, R217). -/
def State.refuseCmd (s : State) (c : LcpCmd) (reason : Nat) : State :=
  (s.endCmd c St.FAIL_BUDGET reason 0).noteRefusals 1

/-- Pool increase if one command is granted. -/
def State.increaseOf (s : State) (c : LcpCmd) : Nat :=
  s.portWith c.change.entry (s.lumPrice c.change.entry c.change.value) - (s.portX (c.change.entry / 16)).grant

/-- The state in which every command of a set is granted, without sending: what the set costs is its GRANTED. -/
def State.grantsOf (s : State) (cs : List LcpCmd) : State :=
  cs.foldl (fun a c =>
    let e := c.change.entry
    let price := a.lumPrice e c.change.value
    (a.setLum e { a.lum e with grant := price }).setPortX (e / 16)
      { a.portX (e / 16) with grant := a.portWith e price }) s

/-- Commands in ascending luminaire index. -/
def byEntry (cs : List LcpCmd) : List LcpCmd := sortBy (fun a b => decide (a.change.entry ≤ b.change.entry)) cs

/-- The commands of a set with the reasons of their own that refuse them, each judged in ascending index on what the earlier
ones would be granted (R172, R178 step 4). -/
def State.ownReasons (s : State) (cs : List LcpCmd) : List (LcpCmd × Option Nat) :=
  match cs with
  | [] => []
  | c :: rest => match s.ownReason c with
    | some r => (c, some r) :: s.ownReasons rest
    | none => (c, none) :: (s.grantsOf [c]).ownReasons rest

/-- Decide a set all together (R178 step 4): a command's own reason refuses all, and then want of room does. -/
def State.decideAtomic (s : State) (cs : List LcpCmd) (budget : Nat) (stake : Option (Nat × Nat × Nat)) : State :=
  let sorted := byEntry cs
  let judged := s.ownReasons sorted
  match judged.findSome? (·.2) with
  | some lead => (judged.foldl (fun a e => a.refuseCmd e.1 (e.2.getD lead)) s).dropFired stake
  | none =>
    let cost := (s.grantsOf sorted).granted 0 - s.granted 0
    if s.poolSt 0 ≠ 0 then (sorted.foldl (fun a c => a.refuseCmd c 4) s).dropFired stake
    else if budget < cost then (sorted.foldl (fun a c => a.refuseCmd c 1) s).dropFired stake
    else sorted.foldl State.grantCmd (s.dropFired stake)

/-- Decide commands one by one in ascending index until the room is used up (R178 step 5). -/
def State.decideEach (s : State) (cs : List LcpCmd) (budget : Nat) : State :=
  match cs with
  | [] => s
  | c :: rest =>
    match s.ownReason c with
    | some r => (s.refuseCmd c r).decideEach rest budget
    | none =>
      let cost := s.increaseOf c
      if s.poolSt 0 ≠ 0 then (s.refuseCmd c 4).decideEach rest budget
      else if budget < cost then (s.refuseCmd c 1).decideEach rest budget
      else (s.grantCmd c).decideEach rest (budget - cost)

/-- The raising commands not yet granted that belong together: those of one set (R178, R181). -/
def State.setOf (s : State) (c : LcpCmd) : List LcpCmd :=
  if c.change.group = 0 then [c]
  else s.lcp.cmds.filter (fun d => d.change.group == c.change.group && !d.granted && d.raise != 0)

/-- Whether a command's set can be decided: every command of it has been formed, none waits in the queue (R178 step 4), and
none lifts a cap while service core 1 restarts (R193). -/
def State.setFormed (s : State) (c : LcpCmd) : Bool :=
  (c.change.group == 0 || !s.lcp.queue.any (fun d => d.group == c.change.group))
    && !(s.arb.coreDown && (s.setOf c).any s.liftsCap)

/-- Decide the set of a command within a budget. -/
def State.decideSet (s : State) (c : LcpCmd) (budget : Nat) : State :=
  let cs := s.setOf c
  if s.sceneAtomic ∧ c.change.group ≠ 0 then s.decideAtomic cs budget c.change.stake
  else (s.decideEach (byEntry cs) budget).dropFired c.change.stake

/-- The commands that a reservation covers are granted at once (R178 step 2). -/
def State.coverNow (s : State) : State :=
  s.lcp.cmds.foldl (fun a c =>
    let held := a.heldFor c.change.stake
    match a.lcpCmd c.tag with
    | none => a
    | some d =>
      if d.granted ∨ d.raise = 0 ∨ held = 0 ∨ !a.setFormed d ∨ a.poolSt 0 ≠ 0 then a
      else if (a.grantsOf (a.setOf d)).granted 0 - a.granted 0 ≤ held then a.decideSet d held
      else a) s

/-- What firings hold for a port or channel (R178). -/
def State.heldTarget (s : State) (q target : Nat) : Nat :=
  s.arb.fired.foldl (fun n r => if r.pool = q ∧ r.target = target then n + r.held else n) 0

/-- Release what firings hold for a port or channel. -/
def State.dropTarget (s : State) (q target : Nat) : State :=
  { s with arb := { s.arb with fired := s.arb.fired.filter (fun r => !(r.pool == q && r.target == target)) } }

/-! ### Ports and field outputs (R169, R170, R172, R173) -/

/-- A refusal of a port's power-up or rise by `inc` to `g` for which there is `room` (R172). -/
def State.riseRefusal (s : State) (p g inc room : Nat) : Option Nat :=
  if s.mode = Mode.MINIMAL then some 5
  else if s.num (Reg.PSE_PnALLOC p) < g then some 2
  else if s.flag Reg.PSE_DIE_STAT (12 + p / 8) then some 3
  else if s.poolSt 0 ≠ 0 then some 4
  else if room < inc then some 1
  else none

/-- The refusal of a port's own request: what its firing holds is room too (R172, R178). -/
def State.portRefusal (s : State) (p g inc : Nat) : Option Nat := s.riseRefusal p g inc (s.freePool 0 + s.heldTarget 0 p)

/-- Decide a port's request (R137, R163): STAGGER, or DENIED with PORT_ON failing FAIL_BUDGET. The settings of ARB_PnCFG take
effect with the grant (R197). DESIGN CHOICE (log entry 195): one refused after its class changed in a repeated classification
(R139) keeps its old grant while DENIED. -/
def State.decidePort (s : State) (p : Nat) : State :=
  let c := s.takePortCfg p
  let s0 := if c.curvePort p then c.powerUpLums p else c
  let g := s0.basisGrant p
  let sr := s.setNum (Reg.ARB_PnREQ p) g
  match s0.portRefusal p g (g - (s.portX p).grant) with
  | none =>
    let s1 := ((s0.setNum (Reg.ARB_PnREQ p) g).setPortGrant p g).dropTarget 0 p
    (s1.setPortX p { s1.portX p with askClk := none }).enterStagger p
  | some _ =>
    if s.portSt p = PortSt.GRANT_WAIT then
      ((((sr.dropTarget 0 p).setPortSt p PortSt.DENIED).endPortOps p 1 St.FAIL_BUDGET).noteRefusals 1)
    else sr.dropTarget 0 p

/-- At the firing of a PORT_POWER a waiting port is granted at once where the firing's reservation covers its need; what the
firing holds for a port that asks for nothing is released (R178, R179). -/
def State.coverPort (s : State) (p : Nat) : State :=
  if s.portSt p = PortSt.GRANT_WAIT ∨ s.portSt p = PortSt.DENIED then
    (if s.heldTarget 0 p ≠ 0 ∧ s.portNeed p ≤ s.heldTarget 0 p then s.decidePort p else s)
  else s.dropTarget 0 p

/-- A CURVE port's grant follows a reported power above what was priced, when the rise fits (R171, R189). -/
def State.followPort (s : State) (p : Nat) : State :=
  let g := Nat.min (s.followGrant p) (s.num (Reg.PSE_PnALLOC p))
  let old := (s.portX p).grant
  if old < g then
    match s.portRefusal p g (g - old) with
    | none => (s.setPortGrant p g).setLimits p
    | some _ => s
  else s

/-- Decide a field output's request (R172, R173, R507); one that ARB cut asks on silently (R185). -/
def State.decideField (s : State) (c : Nat) : State :=
  let x := s.chan c
  let inc := s.fieldMa c - x.grant
  if s.mode = Mode.MINIMAL ∨ s.poolSt 1 ≠ 0 ∨ s.freePool 1 + s.heldTarget 1 c < inc then
    ((s.dioRefuse c).noteRefusals (if x.arbCut ∧ x.waiters = [] then 0 else 1)).dropTarget 1 c
  else (s.dioGrant c).dropTarget 1 c

/-- Whether what a firing holds is still awaited: by a port or channel that asks, or by commands not yet decided (R179). -/
def State.awaited (s : State) (r : Resv) : Bool :=
  let m := some (r.index, r.gen, r.ch)
  if r.target = 0xFFFF then
    s.lcp.changes.any (fun c => c.stake == m) || s.lcp.queue.any (fun c => c.stake == m)
      || s.lcp.cmds.any (fun c => c.change.stake == m && !c.granted)
  else if r.pool = 0 then (s.portX r.target).askClk.isSome
  else s.arb.fieldAsks.any (fun a => a.channel == r.target)

/-- What no command of a firing awaits any more is released (R179). -/
def State.sweepFired (s : State) : State := { s with arb := { s.arb with fired := s.arb.fired.filter s.awaited } }

end Sys2Proof.Machine
end

