-- ==== Sys2Proof/Machine/Arb.lean ====
section
/-! DEFINITION. The commands of ARB: the grant evaluation, caps and cuts, look-ahead and pricing, the outer check, the
operations (chapter 06). -/

namespace Sys2Proof.Machine

/-! ### Over budget (R182 to R186) -/

/-- Whether a pool is over budget (R182). -/
def State.overBudget (s : State) (q : Nat) : Bool := decide (s.eff q < s.granted q) || decide (s.eff q < s.draw q)

/-- The overage (R182). -/
def State.overage (s : State) (q : Nat) : Nat :=
  Nat.max (s.granted q - s.eff q) (s.draw q - s.eff q) + s.num (Reg.ARB_PLq_MARGIN q)

/-- A pool comes to rest: NORMAL, the timer stopped (R183). -/
def State.toNormal (s : State) (q : Nat) : State := (s.setPoolSt q 0).setNum (Reg.ARB_PLq_OVER_MS q) 0

/-- The over-budget judgement of a pool (R182, R183). -/
def State.judgePool (s : State) (q : Nat) : State :=
  let isOver := s.overBudget q
  match s.poolSt q with
  | 0 =>
    if isOver then ((s.shortPool q).setPoolSt q 1).raiseIrq Blk.ARB 1
    else s.trimResv q 1024
  | 1 => if isOver then s.setNum (Reg.ARB_PLq_OVER_MS q) (s.num (Reg.ARB_PLq_OVER_MS q) + 1) else s.toNormal q
  | _ => s.setNum (Reg.ARB_PLq_OVER_MS q) (s.num (Reg.ARB_PLq_OVER_MS q) + 1)

/-- A consumer of a pool for the choice of a cut set: index, priority, stamp, grant and measured draw (R185). -/
structure Consumer where
  index : Nat
  prio : Nat
  stamp : Nat
  grant : Nat
  draw : Nat
deriving DecidableEq, Repr

/-- Whether `a` is cut before `b`: lower priority, then later stamp, then higher index (R184, R185). -/
def cutBefore (a b : Consumer) : Bool :=
  decide (a.prio < b.prio) || (a.prio == b.prio && (decide (b.stamp < a.stamp) || (a.stamp == b.stamp
    && decide (b.index ≤ a.index))))

/-- The consumers of a pool that are drawing, in the order of cutting (R185). -/
def State.consumers (s : State) (q : Nat) : List Consumer :=
  let l := if q = 0 then
      ((List.range 48).filter (fun p => s.portSt p == PortSt.POWERED || s.portSt p == PortSt.INRUSH)).map (fun p =>
        ⟨p, s.portPrio p, (s.portX p).gstamp, (s.portX p).grant, s.num (Reg.PSE_PnPWR p)⟩)
    else
      ((List.range 24).filter (fun c => (s.chan c).grant != 0 && (s.chan c).on)).map (fun c =>
        ⟨c, s.fld (Reg.ARB_FCcCFG c) 16 3, tget (fun _ => 0) s.arb.fieldStamp c, (s.chan c).grant,
         s.num (Reg.DIO_CHcI c)⟩)
  sortBy cutBefore l

/-- Take consumers until what they release reaches the overage (R185). -/
def takeCuts (cs : List Consumer) (byDraw : Bool) (need : Nat) : List Nat :=
  match cs with
  | [] => []
  | c :: r => if need = 0 then [] else c.index :: takeCuts r byDraw (need - (if byDraw then c.draw else c.grant))

/-- Cut the pool's cut set (R185). -/
def State.cutSet (s : State) (q : Nat) : State :=
  let byDraw := decide (s.granted q - s.eff q < s.draw q - s.eff q)
  let set := takeCuts (s.consumers q) byDraw (s.overage q)
  let s1 := set.foldl (fun a i => if q = 0 then a.cutPort i Off.ARB_CUT PortSt.DETECT else a.dioCut i) s
  let s2 := s1.satInc Reg.ARB_CUT_CNT 0 32 set.length
  if q = 0 then { s2 with arb := { s2.arb with lastCut0 := s.clk } } else { s2 with arb := { s2.arb with lastCut1 := s.clk } }

/-- SOFT_TIMEOUT: 500 ms in SOFT (R183): a pool that fits by then is NORMAL, else HARD with its cut set. An evaluation of the
same SYS cycle comes first (R188). -/
def execSoftTimeout (pool : Nat) (s : State) : Host.Outcome State Fault Refusal :=
  s.powered fun s => s.yielding (Rank.CUT 9) (.softTimeout pool) fun s =>
  if 1 < pool ∨ s.poolSt pool ≠ 1 ∨ s.num (Reg.ARB_PLq_OVER_MS pool) < 500 then s
  else if !s.overBudget pool then s.toNormal pool
  else (((s.setPoolSt pool 2).cutSet pool).raiseIrq Blk.ARB 2)

/-- HARD_RECHECK: 20 ms after the last cut (R183). -/
def execHardRecheck (pool : Nat) (s : State) : Host.Outcome State Fault Refusal :=
  s.powered fun s => s.yielding (Rank.CUT 9) (.hardRecheck pool) fun s =>
  let last := if pool = 0 then s.arb.lastCut0 else s.arb.lastCut1
  if 1 < pool ∨ s.poolSt pool ≠ 2 ∨ s.clk < last + 20 * msClk then s
  else if !s.overBudget pool then s.toNormal pool
  else s.cutSet pool

/-- A luminaire type's floor price (R174, R184): points 11h to 1Fh read as 16. -/
def State.floorPrice (s : State) (e : Nat) : Nat :=
  let t := s.fld (Reg.LCP_LnCFG e) 2 6
  s.num (Reg.ARB_CURVEt_Pk t (Nat.min 16 (s.fld (Reg.ARB_CURVEt_FLOOR t) 0 5)))

/-- What a luminaire's grant will be once its requested cap is confirmed. -/
def State.cappedGrant (s : State) (e : Nat) : Nat :=
  let c := s.num (Reg.LCP_LnCAP e)
  if c = 0 then (s.lum e).grant else Nat.min c (s.lum e).grant

/-- The luminaires that may be capped, in the order of R184. -/
def State.capOrder (s : State) : List Consumer :=
  let es := ((List.range 48).filter s.curvePort).flatMap s.portLums
  sortBy cutBefore (es.map (fun e =>
    (⟨e, s.portPrio (e / 16), (s.lum e).gstamp, s.cappedGrant e, 0⟩ : Consumer)))

/-- Cap luminaires in order until the grants shed reach what is needed (R184). -/
def State.capThem (s : State) (cs : List Consumer) (need : Nat) : State :=
  match cs with
  | [] => s
  | c :: r =>
    let floor := s.floorPrice c.index
    if need = 0 then s
    else if c.grant ≤ floor then s.capThem r need
    else
      let cap := Nat.max 1 (Nat.max floor (c.grant - need))
      (s.capChange c.index cap).capThem r (need - (c.grant - cap))

/-- What the caps already requested will shed. -/
def State.shedDue (s : State) : Nat :=
  s.arb.caps.foldl (fun n e => n + ((s.lum e).grant - s.cappedGrant e)) 0

/-- CAP_CHOOSE: in SOFT service core 1 chooses caps for the overage that those requested will not shed (R183, R184). -/
def execCapChoose (s : State) : Host.Outcome State Fault Refusal := s.powered fun s =>
  if s.poolSt 0 ≠ 1 ∨ s.arb.coreDown then s
  else (s.capThem s.capOrder (s.overage 0 - s.shedDue))

/-! ### The evaluation (R169) -/

/-- Step 1: releases: AUTOCLASS figures, CURVE falls, adopted grants whose luminaires have all confirmed, and in
minimal mode each port's minimal grant (R170, R171, R189, R194). -/
def State.releasePort (s : State) (p : Nat) : State :=
  let x := s.portX p
  if s.portSt p ≠ PortSt.POWERED then s
  else if s.mode = Mode.MINIMAL then s.setPortGrant p (Nat.min (s.minGrant p) (s.num (Reg.PSE_PnALLOC p)))
  else if s.curvePort p then
    let all := (s.portLums p).all (fun e => s.lumOnline e && (s.lum e).confirmed)
    let s1 := if x.adopted.isSome ∧ all then s.setPortX p { x with adopted := none } else s
    let g := s1.followGrant p
    if g < x.grant then (s1.setPortGrant p g).setLimits p else s1
  else if s.basis p = 1 ∧ s.basisGrant p < x.grant then (s.setPortGrant p (s.basisGrant p)).setLimits p
  else s

/-- A request of step 4, in the order of R169. -/
inductive Ask where
  | port (p : Nat)
  | follow (p : Nat)
  | lum (tag : Nat)
  | field (c : Nat)
deriving DecidableEq, Repr

/-- A request with its sort key: priority, arrival, block, index. -/
structure AskRow where
  ask : Ask
  prio : Nat
  clk : Nat
  block : Nat
  index : Nat
deriving DecidableEq, Repr

/-- Descending priority, then earliest arrival, then lower block, then lower index (R169). -/
def askBefore (a b : AskRow) : Bool :=
  decide (b.prio < a.prio) || (a.prio == b.prio && (decide (a.clk < b.clk) || (a.clk == b.clk
    && (decide (a.block < b.block) || (a.block == b.block && decide (a.index ≤ b.index))))))

/-- The requests that wait for a decision. -/
def State.asks (s : State) : List AskRow :=
  let prio := s.portPrio
  let ports := (List.range 48).filterMap (fun p =>
    match (s.portX p).askClk with
    | some c => if s.portSt p = PortSt.GRANT_WAIT ∨ s.portSt p = PortSt.DENIED then
        some (⟨.port p, prio p, c, Blk.PSE, p⟩ : AskRow) else none
    | none => if s.portSt p = PortSt.POWERED ∧ s.curvePort p ∧ (s.portX p).grant < s.followGrant p ∧ s.mode ≠ Mode.MINIMAL
        then some ⟨.follow p, prio p, s.clk, Blk.PSE, p⟩ else none)
  let lums := (s.lcp.cmds.filter (fun c => !c.granted && c.raise != 0)).map (fun c =>
    (⟨.lum c.tag, prio (c.change.entry / 16), c.arrive, Blk.LCP, c.change.entry⟩ : AskRow))
  let fields := s.arb.fieldAsks.map (fun f =>
    (⟨.field f.channel, s.fld (Reg.ARB_FCcCFG f.channel) 16 3, f.clk, Blk.DIO, f.channel⟩ : AskRow))
  sortBy askBefore (ports ++ lums ++ fields)

/-- Decide one request against what the earlier ones left (R169 step 4, R178, R181). -/
def State.decideAsk (s : State) (a : AskRow) : State :=
  match a.ask with
  | .port p => s.decidePort p
  | .follow p => s.followPort p
  | .field c => s.decideField c
  | .lum t =>
    match s.lcpCmd t with
    | none => s
    | some c => if c.granted ∨ !s.setFormed c then s else s.decideSet c (s.freePool 0 + s.heldFor c.change.stake)

/-- A limit set by SET_LIMIT comes into force: the operation completes with FREE (R188, R196). -/
def State.applyLimit (s : State) (x : Nat × Nat × Nat × Nat) : State :=
  let s1 := s.setNum (Reg.ARB_PLq_LIMIT x.1) x.2.1
  s1.decideOp x.2.2.1 St.OK (BitVec.ofNat 32 (Nat.min (s1.freePool x.1) 0xFFFFFFFF))

/-- Take a sample of each pool's draw (R168). -/
def State.sampleDraw (s : State) : State :=
  { s with arb := { s.arb with draw0 := (s.num Reg.PSE_TOTAL_PWR :: s.arb.draw0).take 16,
                               draw1 := (s.num Reg.DIO_IFIELD :: s.arb.draw1).take 16 } }

/-- Lift the cap of an entry, whose luminaire then has the grant of its commanded level (R187). -/
def State.liftEntry (s : State) (e price g : Nat) : State :=
  let s1 := if (s.lum e).grant < price then s.setLumGrant e price else s
  ((s1.setPortGrant (e / 16) g).setLimits (e / 16)).capNow e 0

/-- Lift one cap, in the reverse of the order in which they were set, when raising its luminaire to its commanded level is an
increase that fits (R171, R172, R187). -/
def State.liftCap (s : State) : State :=
  match s.arb.caps.getLast? with
  | none => s
  | some e =>
    let price := s.lumPrice e (s.fld (Reg.LCP_LnTARGET e) 0 14)
    let g := s.portWith e price
    let inc := g - (s.portX (e / 16)).grant
    if inc ≠ 0 ∧ (s.riseRefusal (e / 16) g inc (s.freePool 0)).isSome then s else s.liftEntry e price g

/-- Count evaluations in which the PSE pool rests within its limits, and lift a cap after 1 s of them (R187). -/
def State.restore (s : State) : State :=
  let lim := s.eff 0 - s.num (Reg.ARB_PLq_MARGIN 0)
  let rest := s.poolSt 0 == 0 && decide (s.granted 0 ≤ lim) && decide (s.draw 0 ≤ lim)
  let n := if rest then Nat.min 1000 (s.arb.calm + 1) else 0
  let s1 := { s with arb := { s.arb with calm := n } }
  if n = 1000 ∧ s.restoreEn ∧ !s.arb.coreDown ∧ s.mode ≠ Mode.MINIMAL then s1.liftCap else s1

/-- GRANT_EVALUATION (R169): limits set before this SYS cycle come into force, then releases, the judgement of each pool,
requests in order, and the lifting of a cap. What reaches ARB in the same SYS cycle counts (R169, R188). -/
def execGrantEvaluation (s : State) : Host.Outcome State Fault Refusal :=
  s.powered fun s => s.yielding Rank.EVAL .grantEvaluation fun s =>
  if !s.en Blk.ARB then s
  else
    let s0 := s.takeFeed.sampleDraw
    let due := fun (x : Nat × Nat × Nat × Nat) => decide (x.2.2.2 < s.clk)
    let s1 := { s0 with arb := { s0.arb with limitsDue := s0.arb.limitsDue.filter (fun x => !due x) } }
    let s2 := (s0.arb.limitsDue.filter due).foldl State.applyLimit s1
    let s3 := s2.forN 48 State.releasePort
    let s4 := (s3.judgePool 0).judgePool 1
    (s4.asks.foldl State.decideAsk s4).restore.sweepFired

/-! ### Look-ahead (R175 to R177) -/

/-- LOOKAHEAD_ENTRY: an occurrence of a stake comes into the window (R175, R176). -/
def execLookaheadEntry (index ch : Nat) (s : State) : Host.Outcome State Fault Refusal := s.powered fun s =>
  let s1 := s.takeFeed
  let k := s1.stake index
  if k.valid ∧ (s1.occurrences k).contains ch then (s1.listPrice index k.gen ch) else s1

/-- STAKE_PRICE: service core 1 prices the oldest stake that waits and holds its reservation or marks it SHORT (R175 to
R177); in minimal mode and while the core restarts none is priced (R193, R194). -/
def execStakePrice (s : State) : Host.Outcome State Fault Refusal := s.powered fun s =>
  let s1 := s.takeFeed
  match s1.arb.toPrice with
  | [] => s1
  | (i, g, c) :: rest =>
    if s1.arb.coreDown ∨ s1.mode = Mode.MINIMAL ∨ !s1.en Blk.ARB then s1
    else
      let s2 := { s1 with arb := { s1.arb with toPrice := rest } }
      let k := s2.stake i
      if !k.valid ∨ k.gen ≠ g ∨ !s2.inWindow c then s2
      else match s2.stakeNeed k false with
        | none => s2
        | some (q, need) =>
          let target := if k.action = 3 ∨ k.action = 4 then k.target else 0xFFFF
          (if need = 0 then s2 else s2.reserve i g c q need target)

/-- Try again to hold the unheld part of one SHORT reservation (R177). -/
def State.retryResv (s : State) (i : Nat) : State :=
  match tfind? s.arb.resv i with
  | none => s
  | some r =>
    let room := s.resvRoom r.pool
    let add := if r.unheld ≤ room then r.unheld else if s.sceneAtomic then 0 else room
    { s with arb := { s.arb with resv := tput s.arb.resv i { r with held := r.held + add, unheld := r.unheld - add } } }

/-- RESV_RETRY: at a benchmark-cycle boundary, in the order in which the reservations were priced (R177). -/
def execResvRetry (s : State) : Host.Outcome State Fault Refusal := s.powered fun s =>
  if s.arb.coreDown ∨ !s.en Blk.ARB ∨ s.latSt = LatSt.RESET then s
  else match s.zxPass 27 0 false with
  | none => s
  | some s =>
    let s1 := s.takeFeed
    let short := sortBy (fun a b => decide (a.2.seq ≤ b.2.seq)) (s1.arb.resv.filter (fun e => e.2.unheld != 0))
    short.foldl (fun a e => a.retryResv e.1) s1

/-! ### The outer check (R190 to R192) -/

/-- M1's power as a DC equivalent at the ports, in mW (R190). -/
def State.m1Dc (s : State) (pac : Int) : Int :=
  (pac - 1000 * (s.fld Reg.ARB_LOSS_CFG 16 16 : Nat)) * (s.fld Reg.ARB_LOSS_CFG 0 16 : Nat) / 1000

/-- The residual in mW, each side as a 1 s mean (R190). -/
def State.residual (s : State) : Int :=
  s.arb.m1Hist.foldl (· + ·) 0 / (Nat.max 1 s.arb.m1Hist.length : Nat)
    - (s.arb.pwrHist.foldl (· + ·) 0 / Nat.max 1 s.arb.pwrHist.length : Nat)

/-- OUTER_TOL in mW. -/
def State.outerTol (s : State) : Nat := 1000 * s.fld Reg.ARB_OUTER_TOL 0 16

/-- Whether the outer check runs: enabled and not suspended (R191, R192). -/
def State.outerRuns (s : State) : Bool := s.flag Reg.ARB_CFG 1 && !s.flag Reg.ARB_STATE 5

/-- Put the residual, rounded up to 1 W, into OUTER_EXCESS (R191). -/
def State.setExcess (s : State) : State :=
  let r := s.residual
  let s1 := s.setNum Reg.ARB_OUTER_EXCESS (if r ≤ 0 then 0 else (r.toNat + 999) / 1000 * 1000)
  { s1 with arb := { s1.arb with outerTicks := 0 } }

/-- The mean of M1's total power over the last millisecond, eight samples, in mW, with its validity: M1 running, its
total element not faulted and its ROLE BULK (R357). -/
def State.m1Feed (s : State) : Option Int :=
  let l := (tget (fun _ => FrontEnd.fresh) s.emu.fe 0).totals
  let st := Reg.EMU_MmSTAT 0
  if s.flag st 24 ∧ s.fld st 0 6 = 0 ∧ s.fld (Reg.EMU_MmCFG 0) 1 3 = 1 ∧ l ≠ [] then
    some (l.foldl (· + ·) 0 / (l.length : Int) / 1000000000)
  else none

/-- The outer check of one millisecond: OUTER_LOW, the runs above OUTER_TOL and below half of it, and OUTER_EXCESS afresh each
second while a mismatch lasts (R191). -/
def State.checkOuter (s : State) : State :=
  let run := fun (on : Bool) (n : Nat) => if on then n + 1 else 0
  let s1 := s.setFlag Reg.ARB_STATE 6 (decide (s.residual < -(s.outerTol : Int)))
  let s2 := { s1 with arb := { s1.arb with
    overTicks := run (decide ((s.outerTol : Int) < s.residual)) s.arb.overTicks
    belowTicks := run (decide (2 * s.residual < s.outerTol)) s.arb.belowTicks } }
  if s2.flag Reg.ARB_STATE 4 ∧ 1000 ≤ s2.arb.outerTicks then s2.setExcess else s2

/-- With OUTER_EN = 0 none of the outer check's results stands (R191). -/
def State.dropOuter (s : State) : State :=
  let s1 := ((s.setFlag Reg.ARB_STATE 4 false).setFlag Reg.ARB_STATE 6 false).setNum Reg.ARB_OUTER_EXCESS 0
  { s1 with arb := { s1.arb with overTicks := 0, belowTicks := 0 } }

/-- OUTER_CHECK: M1's power of the last ms, or nothing while M1 is not metering, not GOOD or not on the bulk feed,
which suspends the check (R190 to R192, R357). -/
def execOuterCheck (s : State) : Host.Outcome State Fault Refusal := s.powered fun s =>
  match s.m1Feed with
  | none =>
    let s0 := { s with arb := { s.arb with overTicks := 0, belowTicks := 0 } }
    if s.flag Reg.ARB_STATE 5 then s0
    else ((s0.setFlag Reg.ARB_STATE 5 true).raiseIrq Blk.ARB 7)
  | some p =>
    let dc := s.m1Dc p
    let s1 := (s.setFlag Reg.ARB_STATE 5 false).setNum Reg.ARB_M1_DC (unsigned 32 dc)
    let s2 := { s1 with arb := { s1.arb with m1Hist := (dc :: s1.arb.m1Hist).take 1000,
                                             pwrHist := (s1.num Reg.PSE_TOTAL_PWR :: s1.arb.pwrHist).take 1000,
                                             outerTicks := s1.arb.outerTicks + 1 } }
    if s2.flag Reg.ARB_CFG 1 then s2.checkOuter else s2.dropOuter

/-- OUTER_MISMATCH: the residual has exceeded OUTER_TOL for 2 s without a break (R191). -/
def execOuterMismatch (s : State) : Host.Outcome State Fault Refusal := s.powered fun s =>
  if !s.outerRuns ∨ s.flag Reg.ARB_STATE 4 ∨ s.arb.overTicks < 2000 then s
  else (((s.setFlag Reg.ARB_STATE 4 true).setExcess).raiseIrq Blk.ARB 4)

/-- OUTER_CLEAR: the residual has stayed below OUTER_TOL / 2 for 10 s (R191). -/
def execOuterClear (s : State) : Host.Outcome State Fault Refusal := s.powered fun s =>
  if !s.outerRuns ∨ s.arb.belowTicks < 10000 then s
  else ((s.setFlag Reg.ARB_STATE 4 false).setNum Reg.ARB_OUTER_EXCESS 0)

/-! ### Operations (R196) -/

/-- SET_LIMIT: the limit is in force from the next evaluation (R167, R188, R196). -/
def execSetLimit (tag : Nat) (s : State) : Host.Outcome State Fault Refusal := s.powered fun s =>
  match s.activeOp tag Blk.ARB 1 with
  | none => s
  | some x =>
    let q := paramField x.param 0 1
    let lim := paramField x.param 4 4
    if 1 < q then (s.decideOp tag St.FAIL_INVALID 0)
    else if x.ctx ≠ 0 then (s.decideOp tag St.FAIL_DENIED 0)
    else if (if q = 0 then 4320000 else 6000) < lim then (s.decideOp tag St.FAIL_INVALID 0)
    else { s with arb := { s.arb with limitsDue := s.arb.limitsDue ++ [(q, lim, tag, s.clk)] } }

/-- PRICE: the need of a scene's recall (R175, R196). A scene above 63 does not exist (log entry 35). -/
def execPrice (tag : Nat) (s : State) : Host.Outcome State Fault Refusal := s.powered fun s =>
  match s.activeOp tag Blk.ARB 2 with
  | none => s
  | some x =>
    let g := paramField x.param 1 1
    let sc := paramField x.param 2 1
    if 1 < paramField x.param 0 1 ∨ 63 < sc then (s.decideOp tag St.FAIL_INVALID 0)
    else if x.ctx ≠ 0 ∧ s.fld (Reg.LCP_GRPg_CFG g) 0 16 ≠ x.ctx then (s.decideOp tag St.FAIL_DENIED 0)
    else (s.decideOp tag St.OK (BitVec.ofNat 32 (s.recallNeed g sc false)))

end Sys2Proof.Machine
end

