-- ==== Sys2Proof/Machine/Dio.lean ====
section
/-! DEFINITION. The commands of DIO: filters, output commands, diagnosis, the logic watchdog, the field supply, pulse
inputs and the operations (chapter 16). CNT_CLEAR stands in Machine/Emu.lean. -/

namespace Sys2Proof.Machine

/-! ### Inputs (R505, R506, R513) -/

/-- One step of an up/down filter: the counter and the filtered state (R505); LIMIT = 0 takes the raw input. -/
def filterStep (limit cnt : Nat) (state raw : Bool) : Nat × Bool :=
  if limit = 0 then (0, raw)
  else
    let c := Nat.min limit (if raw then cnt + 1 else cnt - 1)
    (c, if c = limit then true else if c = 0 then false else state)

/-- One tick of an input channel: its filter, the edge count and the edge's chainage (R505, R506); under REV inputs
read 0 (R512). -/
def State.inputTick (s : State) (c : Nat) (raw : Bool) : State :=
  let x := s.chan c
  let old := s.flag (Reg.DIO_CHcSTAT c) 0
  let r := filterStep (s.fld (Reg.DIO_CHcFILT c) 0 10) x.filt old (raw && !s.flag Reg.DIO_STAT 3)
  let st := r.2 && !s.flag Reg.DIO_STAT 3
  let s1 := s.setChan c { x with filt := r.1, raw := raw }
  if st = old then s1
  else
    let s2 := (s1.setFlag (Reg.DIO_CHcSTAT c) 0 st).setFlag Reg.DIO_IN c st
    let s3 := if st then (s2.wrapInc (Reg.DIO_CHcCNT c) 1).setReg (Reg.DIO_CHcEDGE c) s.chain32 else s2
    s3.pubDio c

/-- One tick of a pulse input; a filtered rising edge goes to EMU with its chainage (R513); an OFF ends STUCK
(R514). -/
def State.pulseTick (s : State) (i : Nat) (raw : Bool) : State :=
  let old := s.flag (Reg.DIO_PIiSTAT i) 0
  let r := filterStep (s.fld (Reg.DIO_PIiCFG i) 4 10) (tget (fun _ => 0) s.dio.piFilt i) old raw
  let s1 : State := { s with dio := { s.dio with piFilt := tset (fun _ => 0) s.dio.piFilt i r.1 } }
  let s2 := s1.setFlag (Reg.DIO_PIiSTAT i) 0 r.2
  if r.2 ∧ !old then
    { s2 with dio := { s2.dio with pulses := s2.dio.pulses ++ [(i, s.chain)], piOn := tset (fun _ => 0) s2.dio.piOn i s.clk } }
  else if !r.2 ∧ old then s2.setFlag (Reg.DIO_PIiSTAT i) 2 false
  else s2

/-- DIO_FILTER_TICK: every 10 µs each input and pulse input steps its filter (R505, R506, R513). -/
def execDioFilterTick (raw : BitVec 24) (pulses : BitVec 16) (s : State) : Host.Outcome State Fault Refusal := s.powered fun s =>
  if !s.en Blk.DIO then s
  else
    let s1 := s.forN 24 (fun a c => if a.dioMode c = 1 then a.inputTick c (raw.getLsbD c) else a)
    (s1.forN 16 (fun a i => a.pulseTick i (pulses.getLsbD i)))

/-! ### Outputs (R507 to R509, R127) -/

/-- Whether the channel's output follows its command point: its claim is held by the point's producer, not by LAT, EMU
or the host's CLAIM (R504). -/
def State.followsPoint (s : State) (c : Nat) : Bool :=
  match s.claimOf (0x2000 + c) with
  | some k => k.block != Blk.LAT && k.block != Blk.EMU && k.block != Blk.HIF
  | none => false

/-- OUTPUT_COMMAND: a write of the channel's command point: DIO follows its value whatever its quality, except UNINIT
(R507). -/
def execOutputCommand (channel : Nat) (s : State) : Host.Outcome State Fault Refusal := s.powered fun s =>
  let b := s.fld Reg.DIO_PT_BASE 0 16
  if 24 ≤ channel ∨ !s.en Blk.DIO ∨ b = 0xFFFF ∨ s.dioMode channel ≠ 2 ∨ s.dioMaster channel ≠ channel
      ∨ !s.followsPoint channel then s
  else
    let p := s.pointFor Blk.DIO (b + 4 * channel + 1)
    (s.dioCommand channel (p.value != 0 && p.quality != Q.UNINIT) none)

/-- ZX_EDGE: the counter stands at a channel's ANGLE, or with HALF at its opposite: LAT sends the channel its edge, and a
command that has waited for it switches; one taken in the FLD cycle of the edge waits for the next (R127, R508). -/
def execZxEdge (channel : Nat) (s : State) : Host.Outcome State Fault Refusal := s.powered fun s =>
  let off := Reg.DIO_CHcZX channel
  if 24 ≤ channel ∨ !s.flag Reg.LAT_STATE 3 ∨ !s.flag off 16 then s
  else match s.zxPass channel (s.fld off 0 16) (s.flag off 17) with
    | none => s
    | some s0 =>
      let s1 := s0.emit (.zxEdge channel)
      match (s1.chan channel).waiting with
      | some v => if (s1.chan channel).takenClk / 10 = s.clk / 10 then s1 else s1.dioDrive channel v
      | none => s1

/-- A short's cut: the channel is off, its grant released, and a retry is due or the short is latched (R509). -/
def State.shortCut (s : State) (c : Nat) : State :=
  let s1 := (((s.dioUnask c).dioDrive c false).setFieldGrant c 0).setFlag (Reg.DIO_CHcSTAT c) 2 true
  let s2 := s1.raiseIrq Blk.DIO 4
  let x := s2.chan c
  let recent := s.shortRetries c
  if s.flag (Reg.DIO_CHcCFG c) 5 ∧ recent.length < 3 then
    (s2.setChan c { x with retries := recent, retryDue := true, cutClk := s.clk, limTicks := 0 }).pubDio c
  else ((s2.setChan c { x with retries := recent, limTicks := 0 }).setFlag (Reg.DIO_CHcSTAT c) 9 true).pubDio c

/-- Show a diagnosis bit and its interrupt when it sets (R509). -/
def State.diagBit (s : State) (c bit irq : Nat) (on : Bool) : State :=
  if s.flag (Reg.DIO_CHcSTAT c) bit = on then s
  else
    let s1 := s.setFlag (Reg.DIO_CHcSTAT c) bit on
    (if on then s1.raiseIrq Blk.DIO irq else s1).pubDio c

/-- Diagnose one output master in one tick of 10 µs (R509): the pad's read-back, then SHORT after 20 ticks, OPEN and
SHORT_VCC after 10,000, MISMATCH after 100. A grant is released when the pad of a switched-off output reads back off
(R507). A bit other than SHORT clears when its condition ends (log entry 36). -/
def State.diagChannel (s : State) (c : Nat) (m : DioMeas) : State :=
  let x := s.chan c
  let rb := if 12000 < m.mv then true else if m.mv < 5000 then false else s.flag (Reg.DIO_CHcSTAT c) 1
  let tick := fun (on : Bool) (n : Nat) => if on then n + 1 else 0
  let lim := tick (x.on && m.limit) x.limTicks
  let opn := tick (x.on && decide (m.ma < 3)) x.openTicks
  let vcc := tick (!x.on && s.flag (Reg.DIO_CHcCFG c) 6 && decide (10000 < m.mv)) x.vccTicks
  let mis := tick (x.on != rb && !s.flag (Reg.DIO_CHcSTAT c) 2) x.misTicks
  let s1 := s.setChan c { x with limTicks := lim, openTicks := opn, vccTicks := vcc, misTicks := mis }
  let s2 := (s1.dioSet c).foldl (fun a d => (a.setFlag (Reg.DIO_CHcSTAT d) 1 rb).setFlag Reg.DIO_OUT d rb) s1
  let s3 := s2.setNum (Reg.DIO_CHcI c) m.ma
  let s4 := if rb = s.flag (Reg.DIO_CHcSTAT c) 1 then s3 else s3.pubDio c
  let s5 := if !x.on ∧ !rb ∧ x.grant ≠ 0 ∧ x.waiting ≠ some true then s4.setFieldGrant c 0 else s4
  let s6 := ((s5.diagBit c 3 5 (decide (10000 ≤ opn))).diagBit c 4 4 (decide (10000 ≤ vcc))).diagBit c 5 8 (decide (100 ≤ mis))
  if x.on ∧ (20 ≤ lim ∨ m.hot) then s6.shortCut c else s6

/-- One tick of a pulse input's supply: its current in 0.1 mA, and for how many ticks its limit has been active without a
break; FAULT ends with the limit (R514, R518; log entry 36). -/
def State.piSupply (s : State) (i ma : Nat) (limit : Bool) : State :=
  let n := if limit then tget (fun _ => 0) s.dio.piLimit i + 1 else 0
  let s1 := { s with dio := { s.dio with piLimit := tset (fun _ => 0) s.dio.piLimit i n } }
  let s2 := s1.setFld (Reg.DIO_PIiSTAT i) 16 16 (Nat.min 0xFFFF ma)
  if limit then s2 else s2.setFlag (Reg.DIO_PIiSTAT i) 1 false

/-- DIO_DIAG_TICK: every 10 µs (R509, R514). -/
def execDioDiagTick (chans : DioScan) (s : State) : Host.Outcome State Fault Refusal :=
  s.powered fun s =>
  let s0 := (chans.supply.take 16).zipIdx.foldl (fun a e => a.piSupply e.2 e.1.1 e.1.2) s
  ((chans.chans.take 24).zipIdx.foldl (fun a e =>
    if a.dioMode e.2 = 2 ∧ a.dioMaster e.2 = e.2 then a.diagChannel e.2 e.1 else a) s0)

/-- SHORT_RETRY: 1 s after a short's cut a RETRY channel is switched on again under R507 (R509). -/
def execShortRetry (channel : Nat) (s : State) : Host.Outcome State Fault Refusal := s.powered fun s =>
  let x := s.chan channel
  if !x.retryDue ∨ s.clk < x.cutClk + 1000 * msClk then s
  else
    let s1 := s.setChan channel { x with retryDue := false, retries := s.clk :: s.shortRetries channel }
    let s2 := s1.setFlag (Reg.DIO_CHcSTAT channel) 2 false
    (if s2.dioHeld channel then s2.pubDio channel else (s2.dioApply channel).pubDio channel)

/-! ### The logic watchdog (R510, R511) -/

/-- LOGIC_WDT_EXPIRE: TIME × 10 ms have passed since the last restart; one in the cycle of the expiry wins (R510). -/
def execLogicWdtExpire (s : State) : Host.Outcome State Fault Refusal := s.powered fun s =>
  let t := s.fld Reg.DIO_WDT 0 8
  if t = 0 ∨ !s.en Blk.DIO ∨ s.dio.wdtExpired ∨ s.clk < s.dio.wdtClk + t * 10 * msClk then s
  else s.yielding Rank.EXPIRY .logicWdt fun s =>
    let s1 := (s.enterSafe.setFlag Reg.DIO_STAT 4 true).raiseIrq Blk.DIO 6
    { s1 with dio := { s1.dio with wdtExpired := true } }

/-- FIELD_DIE_SAFE: 2 ms without keep-alive: the field die applies the SAFE values stored in it (R511). -/
def execFieldDieSafe (s : State) : Host.Outcome State Fault Refusal := s.always fun s =>
  let s0 := s.forN 24 fun a c => if a.dioMode c = 2 then a.setFlag (Reg.DIO_CHcSTAT c) 6 true else a
  let s1 := s0.dio.dieSafe.foldl (fun a e =>
    if e.2 = 0 then a.dioDrive e.1 false else if e.2 = 1 then a.dioDrive e.1 true else a) s0
  { s1 with dio := { s1.dio with dieLost := true, safe := true } }

/-! ### The field supply (R512) -/

/-- Whether a group has an output. -/
def State.groupOut (s : State) (g : Nat) : Bool := (List.range 4).any (fun k => s.dioMode (4 * g + k) == 2)

/-- The next group to shed: ascending RANK, the lower group at equal rank. -/
def State.nextShed (s : State) : Option Nat :=
  ((List.range 6).filter (fun g => s.groupOut g && !s.dio.shed.contains g)).foldl (fun m g =>
    match m with
    | none => some g
    | some b => if s.fld (Reg.DIO_GRPg_CFG g) 4 3 < s.fld (Reg.DIO_GRPg_CFG b) 4 3 then some g else some b) none

/-- DIO_STAT shows the groups shed (R518). -/
def State.noteShed (s : State) : State :=
  let s1 := s.setFld Reg.DIO_STAT 8 6 (s.dio.shed.foldl (fun n g => n + 2 ^ g) 0)
  s1.setFlag Reg.DIO_STAT 2 (s.dio.shed != [])

/-- Shed a group: its outputs are off, marked SHED and without grants (R512). -/
def State.shedGroup (s : State) (g : Nat) : State :=
  let s0 : State := { s with dio := { s.dio with shed := s.dio.shed ++ [g] } }
  let s1 := (List.range 4).foldl (fun a k =>
    let c := 4 * g + k
    if a.dioMode c = 2 then
      let a1 := if a.dioMaster c = c then ((a.dioUnask c).dioDrive c false).setFieldGrant c 0 else a
      (a1.setFlag (Reg.DIO_CHcSTAT c) 7 true).pubDio c
    else a) s0
  ((s1.satInc Reg.DIO_SHED_CNT 0 32 1).raiseIrq Blk.DIO 2).noteShed

/-- Restore the group shed last: each output takes its owner's latest command (R512). -/
def State.restoreGroup (s : State) : State :=
  match s.dio.shed.getLast? with
  | none => s
  | some g =>
    let s0 : State := { s with dio := { s.dio with shed := s.dio.shed.dropLast } }
    let s1 := (List.range 4).foldl (fun a k =>
      let c := 4 * g + k
      if a.dioMode c = 2 then
        let a1 := a.setFlag (Reg.DIO_CHcSTAT c) 7 false
        if a1.dioMaster c = c ∧ !a1.dioHeld c then (a1.dioApply c).pubDio c else a1.pubDio c
      else a) s0
    let s2 := s1.noteShed
    if s2.dio.shed.isEmpty then
      let s3 := s2.raiseIrq Blk.DIO 3
      let s4 := s3.dio.restoreTags.foldl (fun a t => a.decideOp t St.OK 0) s3
      { s4 with dio := { s4.dio with restoreTags := [] } }
    else s2

/-- The warning level (R512). FIELD_OK stands while neither FIELD_WARN nor REV does (log entry 37). -/
def State.fieldWarn (s : State) (mv : Int) : State :=
  let was := s.flag Reg.DIO_STAT 1
  let now := if mv < 19200 then true else if 19600 < mv then false else was
  let s1 := s.setFlag Reg.DIO_STAT 1 now
  if now ∧ !was then s1.raiseIrq Blk.DIO 1 else s1

/-- A reversed supply: every output held off, inputs 0 with quality FAULT, every group shed for the later restoring
(R512). -/
def State.fieldReverse (s : State) : State :=
  if s.flag Reg.DIO_STAT 3 then s
  else
    let s1 := (s.setFlag Reg.DIO_STAT 3 true).raiseIrq Blk.DIO 7
    let s2 := s1.forN 6 (fun a g => if a.groupOut g ∧ !a.dio.shed.contains g then a.shedGroup g else a)
    s2.forN 24 (fun a c => if a.dioMode c = 1 then
      ((a.setFlag (Reg.DIO_CHcSTAT c) 0 false).setFlag Reg.DIO_IN c false).pubDio c else a.pubDio c)

/-- Shed the next group if there is one. -/
def State.shedNext (s : State) : State :=
  match s.nextShed with
  | some g => s.shedGroup g
  | none => s

/-- Count the samples below 18 V and above 20 V, and the milliseconds above 6.6 A while the total stays above 6.0 A. -/
def State.fieldTicks (s : State) (mv : Int) (ma : Option Nat) : State :=
  let o := match ma with
    | none => s.dio.overTicks
    | some i => if 6600 < i ∨ (5 ≤ s.dio.overTicks ∧ 6000 < i) then s.dio.overTicks + 1 else 0
  { s with dio := { s.dio with low := if mv < 18000 then s.dio.low + 1 else 0,
                               high := if 20000 < mv then s.dio.high + 1 else 0, overTicks := o } }

/-- Shed and restore by the counts (R512): below 18 V for more than 10 ms one group per ms; above 6.6 A for 5 ms one
group per ms; above 20 V for 100 ms, with AUTO_RESTORE or a RESTORE operation open, one group per 10 ms. -/
def State.fieldAct (s : State) (newMa : Bool) : State :=
  let s1 := if 101 < s.dio.low ∧ (s.dio.low - 102) % 10 = 0 then s.shedNext else s
  let s2 := if newMa ∧ 5 ≤ s1.dio.overTicks then s1.shedNext else s1
  let auto := s2.flag Reg.DIO_SAG_CFG 0 || s2.dio.restoreTags != []
  let from_ := if s2.dio.restoreTags = [] then 1000 else 1
  if auto ∧ s2.dio.shed ≠ [] ∧ from_ ≤ s2.dio.high ∧ (s2.dio.high - from_) % 100 = 0 ∧ !s2.flag Reg.DIO_STAT 3 then
    s2.restoreGroup
  else s2

/-- VFIELD_SAMPLE: the supply in mV every 100 µs and the total output current in mA every ms (R512, R515). -/
def execVfieldSample (mv : Int) (ma : Option Nat) (s : State) : Host.Outcome State Fault Refusal := s.powered fun s =>
  let s1 := s.setNum Reg.DIO_VFIELD (unsigned 32 mv)
  let s2 := s1.pubPoint Reg.DIO_PT_BASE 96 ((realOfRat mv 1000).setWidth 64) Q.GOOD
  let s3 := match ma with
    | none => s2
    | some i => (s2.setNum Reg.DIO_IFIELD i).pubPoint Reg.DIO_PT_BASE 97 ((realOfRat i 1000).setWidth 64) Q.GOOD
  let s4 := if mv < -1000 then s3.fieldReverse
            else if 0 ≤ mv ∧ s3.flag Reg.DIO_STAT 3 then s3.setFlag Reg.DIO_STAT 3 false else s3
  let s5 := ((s4.fieldWarn mv).fieldTicks mv ma).fieldAct ma.isSome
  (s5.setFlag Reg.DIO_STAT 0 (!s5.flag Reg.DIO_STAT 1 && !s5.flag Reg.DIO_STAT 3))

/-! ### Pulse inputs (R514) -/

/-- PI_STUCK: the input has been ON for longer than STUCK_TMO seconds (R514). -/
def execPiStuck (input : Nat) (s : State) : Host.Outcome State Fault Refusal := s.powered fun s =>
  let t := s.fld (Reg.DIO_PIiCFG input) 16 8
  if 16 ≤ input ∨ t = 0 ∨ !s.flag (Reg.DIO_PIiSTAT input) 0 ∨ s.flag (Reg.DIO_PIiSTAT input) 2
      ∨ s.clk ≤ tget (fun _ => 0) s.dio.piOn input + t * 1000 * msClk then s
  else ((s.setFlag (Reg.DIO_PIiSTAT input) 2 true).raiseIrq Blk.DIO 10)

/-- PI_SUPPLY_FAULT: the supply limit of an S0 or DRY input has been active for 10 s, 1,000,000 ticks (R514). -/
def execPiSupplyFault (input : Nat) (s : State) : Host.Outcome State Fault Refusal := s.powered fun s =>
  if 16 ≤ input ∨ 1 < s.fld (Reg.DIO_PIiCFG input) 0 2 ∨ s.flag (Reg.DIO_PIiSTAT input) 1
      ∨ tget (fun _ => 0) s.dio.piLimit input < 1000000 then s
  else ((s.setFlag (Reg.DIO_PIiSTAT input) 1 true).raiseIrq Blk.DIO 10)

/-! ### Operations (R517) -/

/-- DIO_SET (R507, R517). -/
def execDioSet (tag : Nat) (s : State) : Host.Outcome State Fault Refusal := s.powered fun s =>
  match s.activeOp tag Blk.DIO 1 with
  | none => s
  | some x =>
    let c := paramField x.param 0 1
    if s.mode = Mode.MINIMAL ∨ x.ctx ≠ 0 then (s.decideOp tag St.FAIL_DENIED 0)
    else if 23 < c ∨ s.dioMode c ≠ 2 ∨ s.dioMaster c ≠ c then (s.decideOp tag St.FAIL_INVALID 0)
    else match s.claimOf (0x2000 + c) with
      | some k =>
        if k.block = Blk.HIF then (s.dioCommand c (bitOf (paramField x.param 1 1) 0) (some tag))
        else (s.decideOp tag St.FAIL_CONFLICT (conflictWord k))
      | none => (s.decideOp tag St.FAIL_CONFLICT 0)

/-- FAULT_CLEAR (R509, R517). -/
def execDioFaultClear (tag : Nat) (s : State) : Host.Outcome State Fault Refusal := s.powered fun s =>
  match s.activeOp tag Blk.DIO 2 with
  | none => s
  | some x =>
    let c := paramField x.param 0 1
    if s.mode = Mode.MINIMAL ∨ x.ctx ≠ 0 then (s.decideOp tag St.FAIL_DENIED 0)
    else if 23 < c ∨ !s.flag (Reg.DIO_CHcSTAT c) 9 then (s.decideOp tag St.FAIL_INVALID 0)
    else
      let s1 := (s.setFlag (Reg.DIO_CHcSTAT c) 9 false).setFlag (Reg.DIO_CHcSTAT c) 2 false
      let s2 := s1.setChan c { s1.chan c with retries := [] }
      ((s2.pubDio c).decideOp tag St.OK 0)

/-- SAFE_CLEAR (R511, R517); outputs stay at safe state outside run mode (R27; log entry 38). -/
def execSafeClear (tag : Nat) (s : State) : Host.Outcome State Fault Refusal := s.powered fun s =>
  match s.activeOp tag Blk.DIO 3 with
  | none => s
  | some x =>
    if s.mode = Mode.MINIMAL ∨ x.ctx ≠ 0 ∨ !s.maySwitch then (s.decideOp tag St.FAIL_DENIED 0)
    else if s.dio.wdtExpired ∧ s.fld Reg.DIO_WDT 0 8 ≠ 0 then (s.decideOp tag St.FAIL_INVALID 0)
    else (s.leaveSafe.decideOp tag St.OK 0)

/-- RESTORE: every shed group is restored, one per 10 ms, while VFIELD is above 20 V (R512, R517). -/
def execRestore (tag : Nat) (s : State) : Host.Outcome State Fault Refusal := s.powered fun s =>
  match s.activeOp tag Blk.DIO 4 with
  | none => s
  | some x =>
    if s.mode = Mode.MINIMAL ∨ x.ctx ≠ 0 then (s.decideOp tag St.FAIL_DENIED 0)
    else if signed 32 (s.num Reg.DIO_VFIELD) ≤ 20000 then (s.decideOp tag St.FAIL_CONFLICT 0)
    else if s.dio.shed = [] then (s.decideOp tag St.OK 0)
    else
      { s with dio := { s.dio with restoreTags := s.dio.restoreTags ++ [tag], high := 0 } }

end Sys2Proof.Machine
end

