-- ==== Sys2Proof/Machine/Cal.lean ====
section
/-! DEFINITION. The calendar's arithmetic (R521, R522) and its seconds. -/

namespace Sys2Proof.Machine

/-- A leap year (R522). -/
def leapYear (y : Nat) : Bool := (y % 4 == 0 && y % 100 != 0) || y % 400 == 0

/-- The length of a month (R522). -/
def monthDays (y m : Nat) : Nat :=
  match m with
  | 2 => if leapYear y then 29 else 28
  | 4 | 6 | 9 | 11 => 30
  | _ => 31

/-- Days from 2000-01-01, a Saturday, to a date. -/
def daysSince2000 (c : Cal) : Nat :=
  let p := c.year - 1
  365 * (c.year - 2000) + (p / 4 + p / 400 - p / 100 - 484)
    + ((List.range (c.month - 1)).map (fun k => monthDays c.year (k + 1))).foldl (· + ·) 0 + (c.day - 1)

/-- Seconds from 1970-01-01 to a calendar value, in UTC. -/
def calSeconds (c : Cal) : Nat := (daysSince2000 c + 10957) * 86400 + c.hour * 3600 + c.min * 60 + c.sec

/-- The calendar value of a number of seconds since 2000-01-01 00:00:00, found year by year and month by month. -/
def calYear (n : Nat) (y d : Nat) : Nat × Nat :=
  match n with
  | 0 => (y, d)
  | k + 1 => let len := if leapYear y then 366 else 365; if d < len then (y, d) else calYear k (y + 1) (d - len)

/-- The month and the day within it. -/
def calMonth (n : Nat) (y m d : Nat) : Nat × Nat :=
  match n with
  | 0 => (m, d)
  | k + 1 => if d < monthDays y m then (m, d) else calMonth k y (m + 1) (d - monthDays y m)

/-- The calendar at a number of seconds since 1970-01-01, from 2000 to 2999 (R525). -/
def calOfSeconds (t : Nat) : Option Cal :=
  if t < 10957 * 86400 then none
  else
    let t' := t - 10957 * 86400
    let (y, d) := calYear 1000 2000 (t' / 86400)
    let (m, dd) := calMonth 11 y 1 d
    if 2999 < y then none else some ⟨t' % 60, t' / 60 % 60, t' / 3600 % 24, dd + 1, m, y⟩

end Sys2Proof.Machine
end

