-- ==== Sys2Proof/Machine/KtCore.lean ====
section
/-! DEFINITION. Keys of tenant contexts and the sealing of their data (R547 to R549, R555 to R557). -/

namespace Sys2Proof.Machine

/-- UID in the byte layout of R541. -/
def uidBytes : List Byte := beBytes 8 Config.uid.toNat

/-- The ASCII bytes of the labels of R541. -/
def labelSeal : List Byte := [0x53, 0x45, 0x41, 0x4C]
def labelAuth : List Byte := [0x41, 0x55, 0x54, 0x48]
def labelEpoch : List Byte := [0x46, 0x43, 0x4D, 0x34, 0x38, 0x2D, 0x45, 0x50, 0x4F, 0x43, 0x48]

/-- KE, the epoch key of a count of blown rows (R537). -/
def epochKey (epoch : Nat) : BitVec 256 := Config.hkdf Config.pufRoot uidBytes (labelEpoch ++ beBytes 1 epoch)

/-- The derived key of slot 0, 1 or 2 (R537, R538). -/
def derivedKey (epoch slot : Nat) : BitVec 256 := Config.hkdf (epochKey epoch) uidBytes (Config.slotInfo slot)

/-- SK_c, the sealing key of a context (R547). -/
def sealKey (tk : BitVec 256) (c : Nat) : BitVec 256 := Config.hkdf tk uidBytes (labelSeal ++ beBytes 2 c)

/-- AK_c, the session key of a context (R547). -/
def authKey (tk : BitVec 256) (c : Nat) : BitVec 256 := Config.hkdf tk uidBytes (labelAuth ++ beBytes 2 c)

/-- The blob of a context, if it has a key. -/
def State.blob (s : State) (c : Nat) : Option KeyBlob := tfind? s.key.blobs c

/-- Show the cache and the blobs (R561): entries in use, entries of contexts with an open session, blobs present. -/
def State.noteKey (s : State) : State :=
  let pinned := (s.key.cache.filter (fun c => s.flag (Reg.TEN_CTXc_STAT c) 1)).length
  let s1 := s.setNum Reg.KEY_CACHE_STAT (s.key.cache.length + pinned * 2 ^ 8)
  let s2 := s1.setFld Reg.KEY_BLOB_STAT 0 9 s.key.blobs.length
  s2.setFld Reg.TEN_STAT 16 9 s.key.blobs.length

/-- Put a context's key in force or take it away; TEN_CTXc_STAT shows it (R563). -/
def State.setBlob (s : State) (c : Nat) (b : Option KeyBlob) : State :=
  let s1 := { s with key := { s.key with blobs := match b with
    | some x => tput s.key.blobs c x
    | none => tdel s.key.blobs c } }
  let s2 := (s1.setFlag (Reg.TEN_CTXc_STAT c) 0 b.isSome).setFld (Reg.TEN_CTXc_STAT c) 16 16 (match b with
    | some x => x.gen
    | none => 0)
  s2.noteKey

/-- The KEY object of an index (R375, R548). -/
def keyObj (i : Nat) : Nat := objId 0 Blk.KEY (0x100 + i)

/-- A context becomes the most recently used of the cache. -/
def State.touchCache (s : State) (c : Nat) : State :=
  { s with key := { s.key with cache := s.key.cache.filter (· != c) ++ [c] } }

/-- Put a context into the cache of 32 entries: the least recently used entry without an open session is evicted
(R549); with every entry pinned nothing is loaded. -/
def State.loadCache (s : State) (c : Nat) : Option State :=
  if s.key.cache.contains c then some (s.touchCache c)
  else if s.key.cache.length < 32 then some (s.touchCache c)
  else match s.key.cache.find? (fun k => !s.flag (Reg.TEN_CTXc_STAT k) 1) with
    | some k => some (({ s with key := { s.key with cache := s.key.cache.filter (· != k) } }).touchCache c)
    | none => none

/-- The nonce counter of a context. -/
def State.nonceOf (s : State) (c : Nat) : Nat := tget (fun _ => 0) s.ten.nonce c

/-- The stored reservation R of a context: the counter may be used only below it (R557). -/
def State.reserveOf (s : State) (c : Nat) : Nat :=
  match tfind? s.key.storedBlobs c with
  | some b => b.reserve
  | none => 0

/-- Ask storage for a raised reservation, once (R557). -/
def State.raiseReserve (s : State) (c : Nat) : State :=
  if s.ten.raising.contains c then s
  else
    let s1 := { s with ten := { s.ten with raising := s.ten.raising ++ [c] } }
    s1.stoAsk (.reserve c) (keyObj c) StoOp.PUT (s1.stoFree (keyObj c))

/-- A miss of the cache begins to be served (R549). -/
def State.missCache (s : State) (c : Nat) : State :=
  if s.key.missing.contains c then s
  else ({ s with key := { s.key with missing := s.key.missing ++ [c] } }).satInc Reg.KEY_CACHE_MISS_CNT 0 32 1

/-- A seal waits for its reservation (R557, R563). -/
def State.sealWaits (s : State) (c : Nat) : State :=
  let s1 := s.raiseReserve c
  if s1.flag (Reg.TEN_CTXc_STAT c) 2 then s1
  else (s1.setFlag (Reg.TEN_CTXc_STAT c) 2 true).raiseIrq Blk.TEN 5

/-- The nonce of an envelope: four zero bytes, then the counter (R555). -/
def nonceBytes (n : Nat) : List Byte := leBytes 4 0 ++ leBytes 8 n

/-- Bytes 0 to 31 of an envelope (R555). -/
def envelopeHead (kind c gen n len : Nat) : List Byte :=
  [0x54, 0x53, 0x45, 0x4C] ++ leBytes 1 1 ++ leBytes 1 kind ++ leBytes 2 c ++ leBytes 2 gen ++ leBytes 2 0
    ++ nonceBytes n ++ leBytes 4 len ++ leBytes 4 0

/-- A sealed envelope (R555). -/
def envelope (b : KeyBlob) (kind c n : Nat) (data : List Byte) : List Byte :=
  let h := envelopeHead kind c b.gen n data.length
  h ++ Config.gcmSeal (sealKey b.key c) (BitVec.ofNat 96 (leNat (nonceBytes n))) h data

/-- Seal data under a context's key, when its keys are in the cache and its counter is below R; otherwise the seal
waits, and a miss or a raised reservation is begun (R549, R555 to R557). Nothing is sealed in minimal mode or without
a key (R560, R547). `began`: the key that the seal began with, before a rotation (R549). -/
def State.trySeal (s : State) (c kind : Nat) (data : List Byte) (began : Option KeyBlob) : Option (List Byte) × State :=
  match s.blob c with
  | none => (none, s)
  | some now =>
    let b := began.getD now
    if s.mode = Mode.MINIMAL ∨ s.inSrst Blk.TEN then (none, s)
    else if !s.key.cache.contains c then (none, s.missCache c)
    else
      let n := s.nonceOf c
      if s.reserveOf c ≤ n then (none, s.sealWaits c)
      else
        let s1 := (s.touchCache c).satInc Reg.TEN_SEAL_CNT 0 32 1
        let s2 := { s1 with ten := { s1.ten with nonce := tset (fun _ => 0) s1.ten.nonce c (n + 1) } }
        (some (envelope b kind c n data), if n + 1 = s.reserveOf c then s2.raiseReserve c else s2)

end Sys2Proof.Machine
end

