-- ==== Sys2Proof/Machine/EmuCore.lean ====
section
/-! DEFINITION. EMU's sampling, accumulators, energy maps, interval and gap records, hold ring and mirror (R338 to R355,
R358). -/

namespace Sys2Proof.Machine

/-- The filter's fixed group delay of 375 µs in SYS cycles (R334). -/
abbrev emuDelay : Nat := 300000

/-- A front end beside its registers. -/
def State.fe (s : State) (m : Nat) : FrontEnd := tget (fun _ => FrontEnd.fresh) s.emu.fe m

/-- Put a front end. -/
def State.setFe (s : State) (m : Nat) (x : FrontEnd) : State :=
  { s with emu := { s.emu with fe := tset (fun _ => FrontEnd.fresh) s.emu.fe m x } }

/-- Whether a front end runs: EN = 1 with its clock claim held (R335, R339). -/
def State.feRuns (s : State) (m : Nat) : Bool := s.flag (Reg.EMU_MmSTAT m) 24

/-- EMU_MmCFG.WIRING = 1: single phase on L1 (R340). -/
def State.singlePhase (s : State) (m : Nat) : Bool := s.fld (Reg.EMU_MmCFG m) 6 2 == 1

/-- The channels an element uses (R338, R340): a phase its voltage and current, the total those of all phases. -/
def State.elemChans (s : State) (m e : Nat) : List Nat :=
  if e < 3 then [e, e + 3] else if s.singlePhase m then [0, 3] else [0, 1, 2, 3, 4, 5]

/-- Whether an element is faulted (R338). -/
def State.elemFault (s : State) (m e : Nat) : Bool := (s.elemChans m e).any (fun ch => s.flag (Reg.EMU_MmSTAT m) ch)

/-! ### Accumulators (R342) -/

/-- Accumulator k of element e of front end m, in 2^-32 of its LSB. -/
def State.emuAcc (s : State) (m e k : Nat) : Int := tget (fun _ => 0) s.emu.acc (24 * m + 6 * e + k)

/-- Set an accumulator; its registers show the whole LSBs. -/
def State.setEmuAcc (s : State) (m e k : Nat) (v : Int) : State :=
  ({ s with emu := { s.emu with acc := tset (fun _ => 0) s.emu.acc (24 * m + 6 * e + k) v } }).setNum64
    (Reg.EMU_MmEe_ACCk_LO m e k) (unsigned 64 (v / 2 ^ 32))

/-- Add to an accumulator. -/
def State.addEmuAcc (s : State) (m e k : Nat) (d : Int) : State := s.setEmuAcc m e k (s.emuAcc m e k + d)

/-- An accumulator's whole LSBs. -/
def State.accLsb (s : State) (m e k : Nat) : Int := s.emuAcc m e k / 2 ^ 32

/-- The energy of 125 µs at a power in pW, in 2^-32 of 0.1 mWh (R342). -/
def sampleEnergy (p : Int) : Int := (p * (125 * 2 ^ 32)).tdiv (36 * 10 ^ 16)

/-- One sample's energy goes into the accumulators of an element that is not faulted (R338, R342): active and reactive
by sign, S of the last cycle, and the net or absolute form. -/
def State.accumulate (s : State) (m e : Nat) (p q : Int) (sMva : Nat) : State :=
  if s.elemFault m e then s
  else
    let ep := sampleEnergy p
    let eq := sampleEnergy q
    let s1 := if 0 < ep then s.addEmuAcc m e 0 ep else if ep < 0 then s.addEmuAcc m e 1 (-ep) else s
    let s2 := if 0 < eq then s1.addEmuAcc m e 2 eq else if eq < 0 then s1.addEmuAcc m e 3 (-eq) else s1
    let s3 := s2.addEmuAcc m e 4 (sampleEnergy ((sMva : Int) * 10 ^ 9))
    s3.addEmuAcc m e 5 (if s.flag (Reg.EMU_MmCFG m) 5 then (ep.natAbs : Int) else ep)

/-! ### Samples (R336, R337, R342) -/

/-- A channel's sample in µV or µA: x × FS × GAIN with the sign of INVERT (R337, R364). A full scale that is not finite
gives 0. -/
def State.scaleSample (s : State) (m ch : Nat) (x : Int) : Int :=
  match realRat (s.reg (Reg.EMU_MmCHchFS m ch)) with
  | some (n, d) =>
    let y := (x * n * (s.fld (Reg.EMU_MmCHchGAIN m ch) 0 24 : Nat) * 1000000).tdiv ((d * 2 ^ 46 : Nat) : Int)
    if s.flag (Reg.EMU_MmCHchCFG m ch) 2 then -y else y
  | none => 0

/-- The cycle length in SYS cycles: LAT_PERIOD, the nominal cycle before the first (R342). -/
def State.cycleClk (s : State) : Nat := if s.num Reg.LAT_PERIOD = 0 then s.nominalClk else s.num Reg.LAT_PERIOD

/-- The mean over the last cycle of one column of the window, the sample at the window's edge weighted (R342). A sample
is 100,000 SYS cycles long. -/
def windowMean (win : List (List Int)) (col period : Nat) : Int :=
  let whole := period / 100000
  let part := (win.take whole).foldl (fun a r => a + r.getD col 0 * 100000) 0
  let edge := (win.getD whole []).getD col 0 * (period % 100000 : Nat)
  (part + edge) / ((Nat.max 1 period : Nat) : Int)

/-- Where a rising crossing between the last sample and this one lies, in SYS cycles: interpolated, less the fixed delay
of 375 µs (R103, R334). -/
def State.crossClk (s : State) (x0 x1 : Int) : Nat :=
  s.clk - emuDelay - (100000 * x1 / (x1 - x0)).toNat

/-- The RMS in V of a voltage channel over the preceding half cycle (R104, R339). -/
def State.halfRms (s : State) (x : FrontEnd) (ch : Nat) : Nat :=
  let n := Nat.max 1 (s.cycleClk / 200000)
  let l := x.ref.take n
  let sum := l.foldl (fun a r => a + (r.getD ch 0).natAbs * (r.getD ch 0).natAbs) 0
  isqrt (sum / Nat.max 1 l.length) / 1000000

/-- CROSSING_DETECT: a rising crossing of the reference channel is delivered to LAT, unless the channel is faulted
(R339, R103). -/
def State.detectCrossing (s : State) (m : Nat) (x : FrontEnd) (v : List Int) : State :=
  let chan := if s.sup.imgOk then s.fld Reg.LAT_REF_CFG 0 3 else 7
  let p := chan % 3
  if 6 ≤ chan ∨ chan / 3 ≠ m ∨ s.flag (Reg.EMU_MmSTAT m) p then s
  else match x.last with
    | [] => s
    | _ =>
      let x0 := x.last.getD p 0
      let x1 := v.getD p 0
      if x0 < 0 ∧ 0 ≤ x1 then { s with emu := { s.emu with crossing := some (s.crossClk x0 x1, s.halfRms x p) } }
      else s

/-- Add a list of numbers to another, element by element. -/
def addLists (n : Nat) (a b : List Int) : List Int := (List.range n).map (fun i => a.getD i 0 + b.getD i 0)

/-- One sample of a front end (R338, R342): over-range marks, the crossing of the reference and of V1, the sums of the
cycle, and the energy of every element. -/
def State.feSample (s : State) (m : Nat) (f : EmuFrame) : State :=
  if !s.feRuns m then s
  else
    let x := s.fe m
    let raw := (List.range 7).map (fun c => clampInt (-(2 ^ 23)) (2 ^ 23) (f.v.getD c 0))
    let phases := if s.singlePhase m then 1 else 3
    let u := (List.range 7).map (fun c => s.scaleSample m c (raw.getD c 0))
    let u90 := (List.range 3).map (fun c => s.scaleSample m c (f.v90.getD c 0))
    let row := (List.range 3).map (fun p => if p < phases then u.getD p 0 * u.getD (p + 3) 0 else 0)
    let row90 := (List.range 3).map (fun p => if p < phases then u90.getD p 0 * u.getD (p + 3) 0 else 0)
    let win := ((row ++ row90) :: x.win).take 400
    let per := s.cycleClk
    let p := (List.range 3).map (fun k => windowMean win k per)
    let q := (List.range 3).map (fun k => windowMean win (k + 3) per)
    let pt := p.foldl (· + ·) 0
    let qt := q.foldl (· + ·) 0
    let sum := u.getD 3 0 + u.getD 4 0 + u.getD 5 0
    let sq := (u ++ [sum]).map (fun a => a.natAbs * a.natAbs)
    let s1 := s.detectCrossing m x raw
    let v1 := match x.last with
      | [] => x.v1
      | _ => if x.last.getD 0 0 < 0 ∧ 0 ≤ raw.getD 0 0 then (s.crossClk (x.last.getD 0 0) (raw.getD 0 0) :: x.v1).take 9
             else x.v1
    let full := (List.range 7).filter (fun c => decide (98 * 2 ^ 23 ≤ 100 * (raw.getD c 0).natAbs))
    let s2 := full.foldl (fun a c => (a.setFlag (Reg.EMU_MmSTAT m) (8 + c) true).raiseIrq Blk.EMU 2) s1
    let ps := p ++ [pt] ++ q ++ [qt]
    let s3 := s2.setFe m { x with
      last := raw, ref := ((u.take 3) :: x.ref).take 400, win := win, v1 := v1, n := x.n + 1
      sq := (List.range 8).map (fun i => x.sq.getD i 0 + sq.getD i 0)
      psum := addLists 8 x.psum ps, totals := (pt :: x.totals).take 8 }
    if x.metering then
      s3.forN 4 fun a e =>
        a.accumulate m e (ps.getD e 0) (ps.getD (4 + e) 0)
          (if e < 3 then a.num (Reg.EMU_MmLpW m e 4) else a.num (Reg.EMU_MmTOT m 4))
    else s3

/-! ### Pulse generators (R345, R346) -/

/-- Energy of a port in 0.1 mWh (R151). -/
def State.portEnergy (s : State) (p : Nat) : Nat := s.num64 (Reg.PSE_PnE_LO p)

/-- The value of a generator's source in its LSB (R345). -/
def State.pgSource (s : State) (qsel : Nat) : Nat :=
  match bitsOf qsel 6 2 with
  | 2 => if qsel % 64 = 63 then ((List.range 48).map s.portEnergy).foldl (· + ·) 0 else s.portEnergy (qsel % 64)
  | m => (s.accLsb m (bitsOf qsel 4 2) (qsel % 8)).toNat

/-- A generator's growth turns into pulses owed: one for each 10,000,000 ÷ CONST LSB, the remainder kept (R346). -/
def State.pgGrow (s : State) (g : Nat) : State :=
  let cfg := Reg.EMU_PGgCFG g
  if !s.flag cfg 0 then s
  else
    let v := s.pgSource (s.fld cfg 8 8)
    let r := tget (fun _ => 0) s.emu.rems g + (v - tget (fun _ => 0) s.emu.pgSrc g) * s.num (Reg.EMU_PGgCONST g)
    let s1 := { s with emu := { s.emu with rems := tset (fun _ => 0) s.emu.rems g (r % 10000000),
                                           pgSrc := tset (fun _ => 0) s.emu.pgSrc g v } }
    let n := satAdd 32 (s1.num (Reg.EMU_PGgBACKLOG g)) (r / 10000000)
    let s2 := s1.setNum (Reg.EMU_PGgBACKLOG g) n
    if 16 < n ∧ s.num (Reg.EMU_PGgBACKLOG g) ≤ 16 then s2.raiseIrq Blk.EMU 6 else s2

/-- The settings of R345 and R346 a generator may have. -/
def pgValid (g qsel ch width const : Nat) : Bool :=
  decide (g < 8) && decide (ch < 24) && decide (3 ≤ width) && decide (1 ≤ const) && decide (const ≤ 1000000)
    && (match bitsOf qsel 6 2 with
        | 3 => false
        | 2 => decide (qsel % 64 < 48) || qsel % 64 == 63
        | _ => decide (qsel % 8 < 5))

/-- Claim a generator and its channel together and start it (R345, R65 to R68). -/
def State.startPg (s : State) (g qsel ch width const : Nat) : Except Word State :=
  match s.claim ⟨0x4000 + g, Blk.EMU, 1, g⟩ with
  | .error w => .error w
  | .ok s1 => match s1.claim ⟨0x2000 + ch, Blk.EMU, 1, g⟩ with
    | .error w => .error w
    | .ok s2 =>
      let s3 := (s2.setNum (Reg.EMU_PGgCFG g) (1 + qsel * 2 ^ 8 + ch * 2 ^ 16 + width * 2 ^ 24)).setNum
        (Reg.EMU_PGgCONST g) const
      let s4 := s3.setNum (Reg.EMU_PGgEMITTED g) 0
      .ok { s4 with emu := { s4.emu with pgSrc := tset (fun _ => 0) s4.emu.pgSrc g (s4.pgSource qsel) } }

/-! ### Energy maps (R348) -/

/-- Words of a context's map; context 0 holds what no other map names. -/
def State.mapWord (s : State) (c w : Nat) : Nat :=
  let rd := fun k => s.num (match w with
    | 0 => Reg.EMU_TMAPc_W0 k
    | 1 => Reg.EMU_TMAPc_W1 k
    | _ => Reg.EMU_TMAPc_W2 k)
  if c = 0 then
    let used := (List.range 255).foldl (fun a k => a ||| rd (k + 1)) 0
    (if w = 2 then 0x77 else 0xFFFFFFFF) - (used &&& (if w = 2 then 0x77 else 0xFFFFFFFF))
  else rd c

/-- The ports, pulse inputs and elements of a context (R348). -/
def State.mapPorts (s : State) (c : Nat) : List Nat :=
  (List.range 48).filter (fun p => if p < 32 then bitOf (s.mapWord c 0) p else bitOf (s.mapWord c 1) (p - 32))
def State.mapPulses (s : State) (c : Nat) : List Nat := (List.range 16).filter (fun i => bitOf (s.mapWord c 1) (16 + i))
def State.mapElems (s : State) (c : Nat) : List (Nat × Nat) :=
  ((List.range 6).filter (fun k => bitOf (s.mapWord c 2) (k % 3 + 4 * (k / 3)))).map (fun k => (k / 3, k % 3))

/-- The contexts with a map, context 0000h first (R349). -/
def State.mapContexts (s : State) : List Nat :=
  0 :: ((List.range 255).map (· + 1)).filter (fun c => s.num (Reg.EMU_TMAPc_W0 c) != 0 || s.num (Reg.EMU_TMAPc_W1 c) != 0
    || s.fld (Reg.EMU_TMAPc_W2 c) 0 7 != 0)

/-- The context of a port, a pulse input or an element (R348). -/
def State.portCtx (s : State) (p : Nat) : Nat := (s.mapContexts.find? (fun c => c != 0 && (s.mapPorts c).contains p)).getD 0
def State.pulseCtx (s : State) (i : Nat) : Nat :=
  (s.mapContexts.find? (fun c => c != 0 && (s.mapPulses c).contains i)).getD 0
def State.elemCtx (s : State) (m e : Nat) : Nat :=
  if e = 3 then 0 else (s.mapContexts.find? (fun c => c != 0 && (s.mapElems c).contains (m, e))).getD 0

/-- EMU's snapshot words: the totals of P, IMP and EXP of both meters (R361). -/
def State.emuSnap (s : State) : List Nat :=
  let acc := fun (m : Nat) => [s.num (Reg.EMU_MmEe_ACCk_LO m 3 0), s.num (Reg.EMU_MmEe_ACCk_HI m 3 0),
    s.num (Reg.EMU_MmEe_ACCk_LO m 3 1), s.num (Reg.EMU_MmEe_ACCk_HI m 3 1)]
  [s.num (Reg.EMU_MmTOT 0 2), s.num (Reg.EMU_MmTOT 1 2)] ++ acc 0 ++ acc 1

/-! ### The hold ring (R350) -/

/-- EMU_HOLD_STAT and EMU_STAT show the records held. -/
def State.noteHold (s : State) : State :=
  (s.setFld Reg.EMU_HOLD_STAT 0 11 s.emu.ring.length).setFlag Reg.EMU_STAT 3 (s.emu.ring != [])

/-- A record enters the hold ring. -/
def State.holdRecord (s : State) (ctx kind : Nat) (data : List Byte) : State :=
  let n := s.emu.nextSlot
  let s1 := { s with emu := { s.emu with ring := s.emu.ring ++ [HoldRec.mk n ctx kind data none false 0 (if ctx = 0 then none else s.blob ctx)]
                                         nextSlot := (n + 1) % 1024 } }
  (s1.holdSlot n data).noteHold

/-- Put a record of the ring. -/
def State.putHold (s : State) (r : HoldRec) : State :=
  { s with emu := { s.emu with ring := s.emu.ring.map fun (x : HoldRec) => if x.slot = r.slot then r else x } }

/-- Hand one record on: TEN seals a tenant's record, then STO appends it to the context's JOURNAL object (R350, R556,
R375). -/
def State.handRecord (s : State) (r : HoldRec) : State :=
  if r.writing then s
  else
    let res := match r.sealed with
      | some b => (some b, s)
      | none => if r.ctx = 0 then (some r.data, s) else s.trySeal r.ctx r.kind r.data r.key
    match res with
    | (some b, s1) =>
      (s1.putHold { r with sealed := some b, writing := true, tried := s.clk }).stoAsk (.record r.slot) (objId r.ctx Blk.EMU 0x10)
        StoOp.APPEND b
    | (none, s1) => s1

/-- Hand on every record that waits; none leaves the ring in minimal mode (R350, R358). -/
def State.serveRing (s : State) : State :=
  if s.mode = Mode.MINIMAL then s else s.emu.ring.foldl State.handRecord s

/-! ### Gap records (R354, R355) -/

/-- TB0's running value in ns. -/
def State.tb0Ns (s : State) : Nat := (s.tb 0).time / nsUnit

/-- NTU_TB0_STAT: VALID and SYNC. -/
def State.tb0Valid (s : State) : Bool := s.flag (Reg.NTU_TBn_STAT 0) 0
def State.tb0Sync (s : State) : Bool := s.flag (Reg.NTU_TBn_STAT 0) 1

/-- Where a span begins at the present instant. -/
def State.gapFrom (s : State) : GapFrom :=
  ⟨s.num Reg.OPT_START_NUM, s.chain, s.tb0Ns, s.tb0Sync, calSeconds s.rtc.cal, s.flag Reg.LAT_STATE 4⟩

/-- The length of a span in ns: TB0 where it was synchronised at both ends, else the RTC (R354). -/
def GapFrom.spanNs (a b : GapFrom) : Nat :=
  if a.tbOk && b.tbOk then b.tbNs - a.tbNs else (b.rtcSec - a.rtcSec) * 1000000000

/-- Energy in 0.1 mWh, rounded up, of a power in mW over a span in ns. -/
def boundOf (mw ns : Nat) : Nat := (mw * ns + 360000000000 - 1) / 360000000000

/-- P_RATED in mW; 0 for no bound (R363). -/
def State.pRated (s : State) (m : Nat) : Nat := s.fld (Reg.EMU_MmCFG m) 16 16 * 10000

/-- The bytes of a gap record (R355). -/
def gapBytes (kind source : Nat) (a b : GapFrom) (est bound : Nat) (unknown : Bool) (ctx : Nat) : List Byte :=
  let tb := a.tbOk && b.tbOk
  let flags := (if a.mains then 1 else 0) + (if unknown then 2 else 0) + (if tb then 0 else 4)
  let sec := fun (x : GapFrom) => if tb then x.tbNs / 1000000000 else x.rtcSec
  leBytes 2 kind ++ leBytes 1 1 ++ leBytes 1 flags ++ leBytes 2 source ++ leBytes 2 a.start ++ leBytes 8 a.ch
    ++ leBytes 8 b.ch ++ leBytes 4 (sec a) ++ leBytes 4 (sec b) ++ leBytes 8 est ++ leBytes 8 bound ++ leBytes 2 ctx
    ++ leBytes 14 0

/-- Make an ENERGY_GAP record: it enters the hold ring, EMU_GAP_LAST shows it, and the present interval's record of its
context carries GAP (R355). -/
def State.makeGap (s : State) (kind source : Nat) (a b : GapFrom) (est bound : Nat) (unknown : Bool) (ctx : Nat) :
    State :=
  let data := gapBytes kind source a b est bound unknown ctx
  let s1 := (s.holdRecord ctx 3 data).forN 16 fun x w => x.setNum (Reg.EMU_GAP_LAST w) (leNat (data.drop (4 * w)))
  let s2 := (s1.satInc Reg.EMU_GAP_CNT 0 32 1).raiseIrq Blk.EMU 4
  { s2 with emu := { s2.emu with ivGaps := (ctx :: s2.emu.ivGaps).eraseDups } }

/-- The PORT_SAT records that PSE asked for at an adoption: the saturated count, and Pclass over the span (R157, R354). -/
def State.satGaps (s : State) : State :=
  let s1 := { s with pse := { s.pse with satDue := [], holdFrom := none } }
  let a := s.pse.holdFrom.getD s.gapFrom
  s.pse.satDue.foldl (fun x e =>
    x.makeGap 3 (2 * 2 ^ 12 + e.1) a x.gapFrom e.2 (boundOf (x.num (Reg.PSE_PnALLOC e.1)) (a.spanNs x.gapFrom)) false
      (x.portCtx e.1)) s1

/-! ### Intervals (R347, R349) -/

/-- A port's energy from the samples before the present SYS cycle: one whose instant falls on a boundary belongs to what follows
(R343, R351, R352). -/
def State.energyBefore (s : State) (p : Nat) : Nat := match (tget (fun _ => PortX.idle) s.pse.ports p).eBefore with
  | some (c, n) => if c = s.clk then n else s.portEnergy p
  | none => s.portEnergy p

/-- Entries of a table of numbers that are not 0. -/
def countTbl (n : Nat) (f : Nat → Nat) : Tbl Nat := ((List.range n).map (fun i => (i, f i))).filter (fun e => e.2 != 0)

/-- The end of an interval at the present boundary. -/
def State.ivEndHere (s : State) (fallback : Bool) : IvEnd :=
  ⟨s.clk, s.chain, (s.tb 0).sec, (s.tb 0).ns, fallback, countTbl 48 s.energyBefore,
   countTbl 16 (fun i => s.num64 (Reg.EMU_PIiCNT_LO i))⟩

/-- The bytes of a context's interval record up to an end (R349). -/
def State.intervalBytes (s : State) (c : Nat) (partial' gap : Bool) (e : IvEnd) : List Byte :=
  let flags := (if partial' then 1 else 0) + (if s.emu.ivMerged then 2 else 0)
    + (if gap || s.emu.ivGaps.contains c then 4 else 0) + (if s.emu.ivBad.contains c then 8 else 0)
    + (if s.tb0Sync then 0 else 16) + (if e.fallback then 32 else 0)
  let growE := fun m e k => unsigned 64 (s.accLsb m e k - tget (fun _ => 0) s.emu.ivAcc (24 * m + 6 * e + k))
  let poe := ((s.mapPorts c).map (fun p => tget (fun _ => 0) e.ports p - tget (fun _ => 0) s.emu.ivPorts p)).foldl (· + ·) 0
  let imp := ((s.mapElems c).map (fun x => growE x.1 x.2 0)).foldl (· + ·) 0
  let exp := ((s.mapElems c).map (fun x => growE x.1 x.2 1)).foldl (· + ·) 0
  let head := leBytes 2 c ++ leBytes 1 1 ++ leBytes 1 flags ++ leBytes 4 (s.num Reg.EMU_IV_SEQ)
    ++ leBytes 8 (s.num64 Reg.EMU_IV_START_LO) ++ leBytes 8 e.ch ++ leBytes 4 s.emu.ivSec ++ leBytes 4 s.emu.ivNs
    ++ leBytes 4 e.sec ++ leBytes 4 e.ns ++ leBytes 8 poe ++ leBytes 8 imp ++ leBytes 8 exp
  let pulse := fun i => leBytes 1 i ++ leBytes 1 (s.fld (Reg.EMU_PIiCFG i) 1 3) ++ leBytes 2 0
    ++ leBytes 4 (s.num (Reg.EMU_PIiWEIGHT i))
    ++ leBytes 8 (tget (fun _ => 0) e.pulses i - tget (fun _ => 0) s.emu.ivPulses i)
  let meters := if c = 0 then ((List.range 8).map (fun k => leBytes 8 (growE (k / 4) 3 (k % 4)))).flatten else []
  head ++ ((s.mapPulses c).map pulse).flatten ++ meters

/-- The source values from which the next interval's growth counts. -/
def State.ivBase (s : State) (e : IvEnd) : State :=
  { s with emu := { s.emu with
      ivAcc := (s.emu.acc.map (fun x => (x.1, x.2 / 2 ^ 32))).filter (fun x => x.2 != 0)
      ivPorts := e.ports, ivPulses := e.pulses } }

/-- Begin an interval at the end of another, or at the present boundary. -/
def State.beginInterval (s : State) (partial' : Bool) (e : IvEnd) : State :=
  let s1 := (s.setNum64 Reg.EMU_IV_START_LO e.ch)
  { s1 with emu := { s1.emu with ivSec := e.sec, ivNs := e.ns, ivPartial := partial', ivMerged := false,
                                 ivGaps := [], ivBad := [], ivOpen := true } }

/-- INTERVAL_END: one record per context with a map enters the hold ring, with the interval's SEQ. When the ring has no
room for all of them none is formed and the interval runs on (R349, R350). -/
def State.endInterval (s : State) (e : IvEnd) : State :=
  let cs := s.mapContexts
  if 1024 < s.emu.ring.length + cs.length then
    let s1 := (s.satInc Reg.EMU_HOLD_STAT 16 16 1).raiseIrq Blk.EMU 5
    { s1 with emu := { s1.emu with ivMerged := true } }
  else
    let s1 := cs.foldl (fun a c => a.holdRecord c 2 (s.intervalBytes c s.emu.ivPartial false e)) s
    let seq := s.num Reg.EMU_IV_SEQ
    let s2 := s.emu.ivClose.foldl (fun a t => a.decideOp t St.OK (BitVec.ofNat 32 seq)) s1
    let s3 := ({ s2 with emu := { s2.emu with ivClose := [] } }).wrapInc Reg.EMU_IV_SEQ 1
    ((s3.ivBase e).beginInterval false e).raiseIrq Blk.EMU 3

/-- An interval that has ended is closed once no sample before its boundary is still to come: at the first sample of an instant
at or after it (R343). `now` closes it at once. -/
def State.settleInterval (s : State) (now : Bool) : State := match s.emu.ivWait with
  | none => s
  | some e => if now || decide (e.clk + emuDelay ≤ s.clk) then ({ s with emu := { s.emu with ivWait := none } }).endInterval e else s

/-- An interval ends at the present boundary. Without a front end that runs no sample is awaited. -/
def State.boundInterval (s : State) (fallback : Bool) : State :=
  ({ s with emu := { s.emu with ivWait := some (s.ivEndHere fallback) } }).settleInterval (!s.feRuns 0 && !s.feRuns 1)

/-- Whether an interval ends at this cycle boundary, and whether CLOCK runs as CYCLES (R347). -/
def State.ivDue (s : State) : Bool × Bool :=
  let n := Nat.max 1 (s.fld Reg.EMU_IV_CFG 0 24)
  let cyc := s.chain / 65536
  if !s.flag Reg.EMU_IV_CFG 24 then (cyc % n == 0, false)
  else if !s.tb0Valid then (cyc % (n * s.nominalHz) == 0, true)
  else match s.emu.lastTb0 with
    | some q => (decide (q < (s.tb 0).sec / n), false)
    | none => (false, false)

/-! ### The mirror (R352) -/

/-- Write a slot of the mirror, at a rotation index. In the wait for the last samples of an interval the slot holds the new
interval already. -/
def State.writeMirror (s : State) (idx : Nat) (final : Bool) : State :=
  let seq := s.num Reg.EMU_MIRROR_SEQ + 1
  let slot : MirrorSlot :=
    { seq := seq, cycle := s.chain / 65536, start := s.num Reg.OPT_START_NUM, ch := s.chain, final := final
      acc := s.emu.acc, ports := countTbl 48 s.energyBefore, pulses := countTbl 16 (fun i => s.num64 (Reg.EMU_PIiCNT_LO i))
      rems := s.emu.rems, backs := countTbl 8 (fun g => s.num (Reg.EMU_PGgBACKLOG g))
      ivAcc := s.emu.ivAcc, ivPorts := s.emu.ivPorts, ivPulses := s.emu.ivPulses
      ivStart := s.num64 Reg.EMU_IV_START_LO, ivSec := s.emu.ivSec, ivNs := s.emu.ivNs, ivSeq := s.num Reg.EMU_IV_SEQ
      growth := [(s.fe 0).growth, (s.fe 1).growth], mains := s.flag Reg.LAT_STATE 4
      tbNs := s.tb0Ns, tbOk := s.tb0Sync, rtcSec := calSeconds s.rtc.cal }
  let held := match s.emu.ivWait with
    | none => slot
    | some e => { slot with
        ivAcc := (s.emu.acc.map (fun x => (x.1, x.2 / 2 ^ 32))).filter (fun x => x.2 != 0), ivPorts := e.ports
        ivPulses := e.pulses, ivStart := e.ch, ivSec := e.sec, ivNs := e.ns, ivSeq := (s.num Reg.EMU_IV_SEQ + 1) % 2 ^ 32 }
  ({ s with emu := { s.emu with mirror := tput s.emu.mirror idx held } }).setNum Reg.EMU_MIRROR_SEQ seq

/-- The slot with the highest sequence and a good CRC. -/
def newestMirror (t : Tbl MirrorSlot) : Option (Nat × MirrorSlot) :=
  t.foldl (fun best e => match best with
    | none => some e
    | some b => if b.2.seq < e.2.seq then some e else some b) none

end Sys2Proof.Machine
end

