-- ==== Sys2Proof/Machine/Emu.lean ====
section
/-! DEFINITION. EMU's commands: samples, supervision, the cycle boundary with its quantities, points and intervals,
records, pulses, generators and operations (R338 to R360), and DIO's CNT_CLEAR (R517). -/

namespace Sys2Proof.Machine

/-! ### Samples and supervision -/

/-- A Survey's snapshot takes the samples of an instant before the Survey that come out of the filter after it (R343, R361). -/
def State.snapLast (s : State) : State := match s.emu.snapAt with
  | some c => if s.clk < c + emuDelay then
      (s.emuSnap.zipIdx.drop 2).foldl (fun a (e : Nat × Nat) => a.setNum (Reg.SNAP_DATA Blk.EMU e.2) e.1) s
    else s
  | none => s

/-- EMU_SAMPLE: each front end that runs takes its frame; the generators take the growth (R342, R339, R346). The instant of the
samples is 375 µs before, so an interval that ended before it is closed first (R343). -/
def execEmuSample (m1 m2 : Option EmuFrame) (s : State) : Host.Outcome State Fault Refusal := s.powered fun s0 =>
  let s := s0.settleInterval false
  let s1 := match m1 with
    | some f => s.feSample 0 f
    | none => s
  let s2 := match m2 with
    | some f => s1.feSample 1 f
    | none => s1
  (s2.forN 8 State.pgGrow).snapLast

/-- Contexts whose record carries QUALITY because of a channel (R349). -/
def State.markBad (s : State) (m ch : Nat) : State :=
  let cs := (List.range 4).filter (fun e => (s.elemChans m e).contains ch)
  { s with emu := { s.emu with ivBad := (s.emu.ivBad ++ cs.map (s.elemCtx m)).eraseDups } }

/-- CHANNEL_FAULT: 256 modulator clocks without a transition (R338). Elements that become faulted begin their span. -/
def execChannelFault (frontEnd channel : Nat) (s : State) : Host.Outcome State Fault Refusal := s.powered fun s =>
  if 1 < frontEnd ∨ 6 < channel ∨ !s.feRuns frontEnd then s
  else
    let newly := (List.range 4).filter (fun e => (s.elemChans frontEnd e).contains channel && !s.elemFault frontEnd e)
    let s1 := ((s.setFlag (Reg.EMU_MmSTAT frontEnd) channel true).raiseIrq Blk.EMU 1).markBad frontEnd channel
    let x := s1.fe frontEnd
    (s1.setFe frontEnd { x with
      clean := tset (fun _ => 0) x.clean channel 0
      faultAt := newly.foldl (fun t e => tput t e s.gapFrom) x.faultAt })

/-- PHASE_REVERSAL: 500 consecutive cycles of opposite sign (R338). -/
def execPhaseReversal (frontEnd phase : Nat) (s : State) : Host.Outcome State Fault Refusal := s.powered fun s =>
  if frontEnd < 2 ∧ phase < 3 ∧ 500 ≤ tget (fun _ => 0) (s.fe frontEnd).revRun phase then
    (s.setFlag (Reg.EMU_MmSTAT frontEnd) (16 + phase) true)
  else s

/-- Make the CHANNEL gap record of an element that has left the faulted state (R354). -/
def State.channelGap (s : State) (m e : Nat) : State :=
  let x := s.fe m
  match tfind? x.faultAt e with
  | none => s
  | some a =>
    if s.elemFault m e then s
    else
      let b := s.gapFrom
      let full := boundOf (s.pRated m) (a.spanNs b)
      let s1 := s.setFe m { x with faultAt := tdel x.faultAt e }
      s1.makeGap 4 (m * 2 ^ 12 + e) a b 0 (if e < 3 then (full + 2) / 3 else full) (s.pRated m == 0) (s.elemCtx m e)

/-- A cycle of a faulted channel without a further fault is clean; the tenth clears the bit (R338). -/
def State.cleanChannels (s : State) (m : Nat) : State :=
  let s1 := s.forN 7 fun a ch =>
    if !a.flag (Reg.EMU_MmSTAT m) ch then a
    else
      let x := a.fe m
      let n := tget (fun _ => 0) x.clean ch + 1
      if 10 ≤ n then
        (a.setFe m { x with clean := tset (fun _ => 0) x.clean ch 0 }).setFlag (Reg.EMU_MmSTAT m) ch false
      else a.setFe m { x with clean := tset (fun _ => 0) x.clean ch n }
  s1.forN 4 (fun a e => a.channelGap m e)

/-! ### Quantities (R340) -/

/-- PF = P ÷ S as signed Q15, 0 when S = 0 (R340, R361). -/
def pfQ15 (p : Int) (sv : Nat) : Int := if sv = 0 then 0 else clampInt (-32768) 32767 ((p * 32768).tdiv (sv : Int))

/-- THD in 0.01 %: √(Σ h2…h15²) of magnitudes in 0.01 % of the fundamental (R340). -/
def State.thd (s : State) (m ch : Nat) : Nat :=
  isqrt (((List.range 14).map (fun k => s.fld (Reg.EMU_MmCHchH m ch (k + 1)) 0 16 ^ 2)).foldl (· + ·) 0)

/-- RMS of a summed column in µV or µA. -/
def FrontEnd.rms (x : FrontEnd) (i : Nat) : Nat := isqrt (x.sq.getD i 0 / Nat.max 1 x.n)

/-- Quantities of a front end over the cycle that ends (R340). -/
def State.quantities (s : State) (m : Nat) : State :=
  let x := s.fe m
  if x.n = 0 then s
  else
    let ph := if s.singlePhase m then 1 else 3
    let mean := fun i => (x.psum.getD i 0).tdiv ((x.n : Nat) : Int)
    let apparent := fun p => if p < ph then x.rms p * x.rms (p + 3) / 1000000000 else 0
    let s1 := s.forN 3 fun a p =>
      if p < ph then
        let set := fun (b : State) (w v : Nat) => b.setNum (Reg.EMU_MmLpW m p w) v
        let pm := (mean p).tdiv (10 ^ 9)
        set (set (set (set (set (set (set (set a 0 (x.rms p / 1000)) 1 (x.rms (p + 3) / 1000)) 2 (unsigned 32 pm)) 3
          (unsigned 32 ((mean (p + 4)).tdiv (10 ^ 9)))) 4 (apparent p)) 5 (unsigned 16 (pfQ15 pm (apparent p)))) 6
          (a.thd m p)) 7 (a.thd m (p + 3))
      else a.forN 8 (fun b w => b.setNum (Reg.EMU_MmLpW m p w) 0)
    let st := apparent 0 + apparent 1 + apparent 2
    let pt := (mean 3).tdiv (10 ^ 9)
    let set := fun (b : State) (w v : Nat) => b.setNum (Reg.EMU_MmTOT m w) v
    let s2 := set (set (set (set (set s1 1 (if s.flag (Reg.EMU_MmCFG m) 4 then x.rms 6 / 1000 else 0)) 2
      (unsigned 32 pt)) 3 (unsigned 32 ((mean 7).tdiv (10 ^ 9)))) 4 st) 5 (unsigned 16 (pfQ15 pt st))
    let s3 := s2.setNum (Reg.EMU_MmIN_CALC m) (x.rms 7 / 1000)
    if x.v1.length = 9 ∧ x.v1.getD 8 0 < x.v1.getD 0 0 then
      s3.setFld (Reg.EMU_MmFREQ m) 0 20 (8 * 800000000000 / (x.v1.getD 0 0 - x.v1.getD 8 0))
    else s3

/-- A phase's run of cycles with a power opposite to the total's, while the total exceeds 1 % of P_RATED (R338). -/
def State.reversalRun (s : State) (m : Nat) : State :=
  let x := s.fe m
  let pt := signed 32 (s.num (Reg.EMU_MmTOT m 2))
  let big := decide (s.pRated m < 100 * pt.natAbs)
  let step := fun (t : Tbl Nat) p =>
    let pp := signed 32 (s.num (Reg.EMU_MmLpW m p 2))
    let opp := decide (pp < 0 ∧ 0 < pt) || decide (0 < pp ∧ pt < 0)
    tset (fun _ => 0) t p (if big && opp then tget (fun _ => 0) t p + 1 else 0)
  s.setFe m { x with revRun := (List.range 3).foldl step x.revRun }

/-- A milli-unit register as REAL32 in the unit. -/
def milli (v : Int) : Dword := (realOfRat v 1000).setWidth 64

/-- A front end's points (R356). -/
def State.pubFe (s : State) (m : Nat) : State :=
  let q := fun e => if s.elemFault m e then Q.FAULT else Q.GOOD
  let chq := fun c => if s.flag (Reg.EMU_MmSTAT m) c then Q.FAULT else Q.GOOD
  let put := fun (a : State) k v qq => a.pubPoint Reg.EMU_PT_BASE (24 * m + k) v qq
  let s1 := s.forN 3 fun a p =>
    put (put (put a p (milli (a.num (Reg.EMU_MmLpW m p 0))) (q p)) (3 + p) (milli (a.num (Reg.EMU_MmLpW m p 1))) (q p))
      (7 + p) (milli (signed 32 (a.num (Reg.EMU_MmLpW m p 2)))) (q p)
  let s2 := put s1 6 (milli (s1.num (Reg.EMU_MmTOT m 1))) (chq 6)
  let s3 := put (put s2 10 (milli (signed 32 (s2.num (Reg.EMU_MmTOT m 2)))) (q 3)) 11
    (milli (signed 32 (s2.num (Reg.EMU_MmTOT m 3)))) (q 3)
  let pf := (realOfRat (signed 16 (s3.num (Reg.EMU_MmTOT m 5))) 32768).setWidth 64
  let s4 := put (put s3 12 (milli (s3.num (Reg.EMU_MmTOT m 4))) (q 3)) 13 pf (q 3)
  let s5 := put s4 14 (milli (s4.fld (Reg.EMU_MmFREQ m) 0 20 : Nat)) (chq 0)
  let top := ((List.range 3).map (fun p => s5.num (Reg.EMU_MmLpW m p 6))).foldl Nat.max 0
  let s6 := put s5 15 ((realOfRat (top : Int) 100).setWidth 64) (q 3)
  let acc := fun k => BitVec.ofNat 64 (s6.num64 (Reg.EMU_MmEe_ACCk_LO m 3 k))
  let s7 := put (put (put (put (put s6 16 (acc 0) (q 3)) 17 (acc 1) (q 3)) 18 (acc 5) (q 3)) 19 (acc 2) (q 3)) 20
    (acc 3) (q 3)
  (List.range 3).foldl (fun a k => put a (21 + k) 0 Q.GOOD) s7

/-- EMU_PIiRATE (R344): from the last two pulses, bounded by the time since the last. -/
def State.piRate (s : State) (i : Nat) : Word :=
  match tfind? s.emu.pulseSpan i, tfind? s.emu.pulseAt i, realRat (s.reg (Reg.EMU_PIiWEIGHT i)) with
  | some d, some t, some (n, w) =>
    if s.fld (Reg.EMU_PIiCFG i) 8 8 = 0 then 0
    else realOfRat (n * 3600 * 800000000) (w * Nat.max 1 (Nat.max d (s.clk - t)))
  | _, _, _ => 0

/-- Whether DIO reports a pulse input faulted: FAULT or STUCK (R514). -/
def State.piFault (s : State) (i : Nat) : Bool := s.flag (Reg.DIO_PIiSTAT i) 1 || s.flag (Reg.DIO_PIiSTAT i) 2

/-- The pulse inputs' points (R356). -/
def State.pubPulses (s : State) : State :=
  s.forN 16 fun a i =>
    let q := if a.piFault i then Q.FAULT else Q.GOOD
    let a1 := a.pubPoint Reg.EMU_PT_BASE (48 + 2 * i) (BitVec.ofNat 64 (a.num64 (Reg.EMU_PIiCNT_LO i))) q
    a1.pubPoint Reg.EMU_PT_BASE (49 + 2 * i) ((a1.piRate i).setWidth 64) q

/-! ### The cycle boundary -/

/-- A front end resumes metering at the first boundary at least 10 ms after its clock started (R353). -/
def State.feResume (s : State) (m : Nat) : State :=
  let x := s.fe m
  if s.feRuns m ∧ !x.metering ∧ x.since + 10 * msClk ≤ s.clk then s.setFe m { x with metering := true } else s

/-- The OFF gap records of this start: each enabled front end's total and each enabled pulse input, up to the first
sample (R354). -/
def State.offGaps (s : State) : State :=
  match s.emu.offSpan with
  | none => s
  | some a =>
    let b := s.gapFrom
    let s1 := s.forN 2 fun x m =>
      if x.flag (Reg.EMU_MmCFG m) 0 then
        x.makeGap 2 (m * 2 ^ 12 + 3) a b 0 (boundOf (x.pRated m) (a.spanNs b)) (x.pRated m == 0) 0
      else x
    let s2 := s1.forN 16 fun x i =>
      if x.flag (Reg.EMU_PIiCFG i) 0 then x.makeGap 2 (3 * 2 ^ 12 + i) a b 0 0 true (x.pulseCtx i) else x
    { s2 with emu := { s2.emu with offSpan := none } }

/-- The first interval of a life begins, PARTIAL, once every enabled front end meters (R353). -/
def State.openInterval (s : State) : State :=
  let ready := (List.range 2).all (fun m => !s.flag (Reg.EMU_MmCFG m) 0 || (s.fe m).metering)
  if s.emu.ivOpen ∨ !ready then s else (s.beginInterval true (s.ivEndHere false)).offGaps

/-- A front end's cycle ends: growth of the total IMP, sums cleared, over-range marks cleared (R338, R354). -/
def State.feCycleEnd (s : State) (m : Nat) : State :=
  let x := s.fe m
  let imp := s.emuAcc m 3 0
  let bad := (List.range 7).filter (fun c => s.flag (Reg.EMU_MmSTAT m) (8 + c))
  let s1 := bad.foldl (fun a c => a.markBad m c) s
  (s1.setFe m { x with sq := [], psum := [], n := 0, cycleImp := imp, growth := ((imp - x.cycleImp) / 2 ^ 32).toNat }).setFld
    (Reg.EMU_MmSTAT m) 8 7 0

/-- Take the harmonics of the channels whose window has ended (R340). -/
def State.setHarmonics (s : State) (h : List (List Nat)) : State :=
  s.forN 14 fun a k => match h.getD k [] with
    | [] => a
    | l => a.forN 15 (fun b j => b.setNum (Reg.EMU_MmCHchH (k / 7) (k % 7) j)
        (if j = 0 then l.getD j 0 else l.getD j 0 % 2 ^ 16))

/-- Contexts of pulse inputs that DIO reports faulted carry QUALITY (R344, R349). -/
def State.markPulses (s : State) : State :=
  let cs := ((List.range 16).filter s.piFault).map s.pulseCtx
  { s with emu := { s.emu with ivBad := (s.emu.ivBad ++ cs).eraseDups } }

/-! ### Pulses (R344) -/

/-- The oldest pulse that DIO passed is counted and its chainage recorded (R344). -/
def State.countPulse (s : State) : State :=
  match s.dio.pulses with
  | [] => s
  | (i, ch) :: rest =>
    let s1 := { s with dio := { s.dio with pulses := rest } }
    if !s1.flag (Reg.EMU_PIiCFG i) 0 then s1
    else
      let s2 := s1.setNum64 (Reg.EMU_PIiCNT_LO i) (s1.num64 (Reg.EMU_PIiCNT_LO i) + 1)
      let s3 := s2.setNum (Reg.EMU_PIiLAST i) ch
      let span := match tfind? s3.emu.pulseAt i with
        | some t => tput s3.emu.pulseSpan i (s3.clk - t)
        | none => s3.emu.pulseSpan
      let s4 := { s3 with emu := { s3.emu with pulseAt := tput s3.emu.pulseAt i s3.clk, pulseSpan := span } }
      (s4.setReg (Reg.EMU_PIiRATE i) (s4.piRate i))

/-- PULSE_COUNT: a pulse passed by DIO is counted. -/
def execPulseCount (s : State) : Host.Outcome State Fault Refusal := s.powered State.countPulse

/-- PULSE_RATE_TIMEOUT: RATE_TMO seconds without a pulse: the rate reads 0. A pulse of the same SYS cycle counts (R344, R78). -/
def execPulseRateTimeout (input : Nat) (s : State) : Host.Outcome State Fault Refusal := s.powered fun s =>
  let due := match tfind? s.emu.pulseAt input with
    | some t => decide (t + s.fld (Reg.EMU_PIiCFG input) 8 8 * 1000 * msClk ≤ s.clk)
    | none => false
  if 15 < input ∨ !due then s
  else s.yielding Rank.EXPIRY (.pulseRateTimeout input) fun s =>
    (({ s with emu := { s.emu with pulseSpan := tdel s.emu.pulseSpan input } }).setNum (Reg.EMU_PIiRATE input) 0)

/-- CYCLE_BOUNDARY (R340, R347, R349, R352, R356): quantities and points of the cycle that ended, an interval's records
when it ends, one slot of the mirror, and records handed on. It comes once as the counter stands at angle 0 (R7). The pulses of
its SYS cycle count before it (R351). -/
def execCycleBoundary (harmonics : List (List Nat)) (s : State) : Host.Outcome State Fault Refusal := s.powered fun s =>
  s.yielding Rank.BOUND (.cycleBoundary harmonics) fun s =>
  if s.latSt = LatSt.RESET ∨ s.sup.inReset then s
  else match s.zxPass 26 0 false with
  | none => s
  | some s =>
    let s0 := ((List.range s.dio.pulses.length).foldl (fun a _ => a.countPulse) s).settleInterval true
    let s1 := s0.setHarmonics harmonics
    let s2 := s1.forN 2 fun a m =>
      if a.feRuns m then ((((a.quantities m).reversalRun m).cleanChannels m).pubFe m).feCycleEnd m else a
    let s3 := ((s2.pubPulses).markPulses).forN 2 State.feResume
    let due := s3.ivDue
    let s4 := if !s3.emu.ivOpen then s3.openInterval
              else if due.1 ∨ s3.emu.ivClose ≠ [] ∨ s3.emu.ivMerged then s3.boundInterval due.2 else s3
    let n := Nat.max 1 (s.fld Reg.EMU_IV_CFG 0 24)
    let s5 := { s4 with emu := { s4.emu with lastTb0 := if s4.tb0Valid then some ((s4.tb 0).sec / n) else none } }
    ((s5.writeMirror (s5.chain / 65536 % 64) false).serveRing)

/-! ### Records in storage (R350) -/

/-- RECORD_STORED: the record leaves the hold ring. -/
def execRecordStored (slot : Nat) (s : State) : Host.Outcome State Fault Refusal := s.powered fun s =>
  if s.stoEnded (.record slot) = some St.OK then
    let s1 := s.stoTake (.record slot)
    ({ s1 with emu := { s1.emu with ring := s1.emu.ring.filter (fun r => r.slot != slot) } }).noteHold
  else s

/-- RECORD_RETRY: a record whose write did not end OK is written again, 10 s after the last (R350). -/
def execRecordRetry (slot : Nat) (s : State) : Host.Outcome State Fault Refusal := s.powered fun s =>
  match s.stoEnded (.record slot), s.emu.ring.find? (fun r => r.slot == slot) with
  | some st, some r =>
    if st = St.OK ∨ s.clk < r.tried + 10000 * msClk then s
    else
      let s1 := (s.stoTake (.record slot)).satInc Reg.EMU_STORE_RETRY 0 32 1
      ((s1.putHold { r with writing := false }).handRecord { r with writing := false })
  | _, _ => s

/-! ### Pulse generators (R345, R346, R358) -/

/-- PG_PULSE: a generator that owes a pulse drives its channel high, at the end of WIDTH × 10 ms low, and no other pulse begins
for the same time. Nothing is emitted while the outputs are at their safe states (R346, R358). -/
def execPgPulse (generator : Nat) (s : State) : Host.Outcome State Fault Refusal := s.powered fun s =>
  let cfg := Reg.EMU_PGgCFG generator
  let c := s.fld cfg 16 5
  let n := s.num (Reg.EMU_PGgBACKLOG generator)
  let till := s.clk + s.fld cfg 24 8 * 10 * msClk
  let put := fun (a : State) hi => ({ a with emu := { a.emu with busy := tput a.emu.busy generator (till, hi) } }).dioCommand c hi none
  let b := tfind? s.emu.busy generator
  if 7 < generator ∨ !s.flag cfg 0 ∨ b.any (fun x => decide (s.clk < x.1)) then s
  else if b.any (·.2) then put s false
  else if n = 0 ∨ s.dio.safe ∨ s.dio.dieLost ∨ s.mode = Mode.MINIMAL then s
  else put ((s.setNum (Reg.EMU_PGgBACKLOG generator) (n - 1)).wrapInc (Reg.EMU_PGgEMITTED generator) 1) true

/-! ### Operations (R360) -/

/-- Whether the life cycle allows CAL_WRITE, ACC_CLEAR, FORMAT and the clearing of a pulse count (R542). -/
def State.lcService (s : State) : Bool := decide (s.fld Reg.KEY_LC 0 3 ≤ 1)

/-- INTERVAL_CLOSE: the present interval closes at the next cycle boundary. -/
def execIntervalClose (tag : Nat) (s : State) : Host.Outcome State Fault Refusal := s.powered fun s =>
  match s.activeOp tag Blk.EMU 1 with
  | none => s
  | some _ =>
    if s.emu.ivClose.contains tag then s
    else { s with emu := { s.emu with ivClose := s.emu.ivClose ++ [tag] } }

/-- PG_ENABLE (R345, R360). -/
def execEmuPgEnable (tag : Nat) (s : State) : Host.Outcome State Fault Refusal := s.powered fun s =>
  s.yielding (Rank.CLAIM Blk.EMU 1) (.emuPgEnable tag) fun s =>
  match s.activeOp tag Blk.EMU 2 with
  | none => s
  | some x =>
    let g := paramField x.param 0 1
    let qsel := paramField x.param 1 1
    let ch := paramField x.param 2 1
    let width := paramField x.param 3 1
    let const := paramField x.param 4 4
    if !pgValid g qsel ch width const ∨ s.flag (Reg.EMU_PGgCFG g) 0 then (s.decideOp tag St.FAIL_INVALID 0)
    else match s.startPg g qsel ch width const with
      | .error w => (s.decideOp tag St.FAIL_CONFLICT w)
      | .ok s1 => (s1.decideOp tag St.OK 0)

/-- Stop a generator and release its claims. -/
def State.stopPg (s : State) (g : Nat) : State :=
  let c := s.fld (Reg.EMU_PGgCFG g) 16 5
  let s0 := { s with emu := { s.emu with busy := tdel s.emu.busy g } }
  let s1 := if (tfind? s.emu.busy g).any (·.2) then s0.dioCommand c false none else s0
  ((s1.setFlag (Reg.EMU_PGgCFG g) 0 false).unclaim (0x4000 + g) Blk.EMU).unclaim (0x2000 + c) Blk.EMU

/-- PG_DISABLE (R360). -/
def execEmuPgDisable (tag : Nat) (s : State) : Host.Outcome State Fault Refusal := s.powered fun s =>
  match s.activeOp tag Blk.EMU 3 with
  | none => s
  | some x =>
    let g := paramField x.param 0 1
    if 7 < g ∨ !s.flag (Reg.EMU_PGgCFG g) 0 then (s.decideOp tag St.FAIL_INVALID 0)
    else ((s.stopPg g).decideOp tag St.OK 0)

/-- CAL_WRITE: a calibration word, in force from the next sample (R337, R360). -/
def execCalWrite (tag : Nat) (s : State) : Host.Outcome State Fault Refusal := s.powered fun s =>
  match s.activeOp tag Blk.EMU 4 with
  | none => s
  | some x =>
    let m := paramField x.param 0 1
    let ch := paramField x.param 1 1
    let v := paramField x.param 4 4
    if !s.lcService then (s.decideOp tag St.FAIL_DENIED 0)
    else if 1 < m ∨ 6 < ch ∨ 2 < paramField x.param 2 1 then (s.decideOp tag St.FAIL_INVALID 0)
    else
      let s1 := match paramField x.param 2 1 with
        | 0 => s.setFld (Reg.EMU_MmCHchGAIN m ch) 0 24 v
        | 1 => s.setFld (Reg.EMU_MmCHchPHASE m ch) 0 16 v
        | _ => s.setNum (Reg.EMU_MmCHchFS m ch) v
      (s1.decideOp tag St.OK 0)

/-- The CLEARED gap record: the value cleared at its instant (R354). -/
def State.clearedGap (s : State) (source value ctx : Nat) : State :=
  s.makeGap 5 source s.gapFrom s.gapFrom value value false ctx

/-- Clear a front end's accumulators; one CLEARED record per element gives its IMP (R354, R360). -/
def State.clearFe (s : State) (m : Nat) : State :=
  s.forN 4 fun a e =>
    let v := (a.accLsb m e 0).toNat
    let a1 := a.forN 6 (fun b k => b.setEmuAcc m e k 0)
    let a2 := { a1 with emu := { a1.emu with ivAcc := a1.emu.ivAcc.filter (fun z => z.1 / 6 != 4 * m + e) } }
    a2.clearedGap (m * 2 ^ 12 + e) v (a.elemCtx m e)

/-- Clear a pulse input's count (R354, R360, R517). -/
def State.clearPulse (s : State) (i : Nat) : State :=
  let v := s.num64 (Reg.EMU_PIiCNT_LO i)
  let s1 := s.setNum64 (Reg.EMU_PIiCNT_LO i) 0
  let s2 := { s1 with emu := { s1.emu with ivPulses := tdel s1.emu.ivPulses i } }
  s2.clearedGap (3 * 2 ^ 12 + i) v (s.pulseCtx i)

/-- ACC_CLEAR (R360). -/
def execAccClear (tag : Nat) (s : State) : Host.Outcome State Fault Refusal := s.powered fun s =>
  match s.activeOp tag Blk.EMU 5 with
  | none => s
  | some x =>
    let k := paramField x.param 0 1
    if !s.lcService then (s.decideOp tag St.FAIL_DENIED 0)
    else if k < 2 then ((s.clearFe k).decideOp tag St.OK 0)
    else if 0x10 ≤ k ∧ k < 0x20 then ((s.clearPulse (k - 0x10)).decideOp tag St.OK 0)
    else (s.decideOp tag St.FAIL_INVALID 0)

/-- CNT_CLEAR of DIO (R517): a channel's edge count, or a pulse input's count with its CLEARED record. -/
def execCntClear (tag : Nat) (s : State) : Host.Outcome State Fault Refusal := s.powered fun s =>
  match s.activeOp tag Blk.DIO 5 with
  | none => s
  | some x =>
    let k := paramField x.param 0 1
    let pulse := bitOf (paramField x.param 1 1) 0
    if s.mode = Mode.MINIMAL then (s.decideOp tag St.FAIL_DENIED 0)
    else if pulse then
      if 15 < k then (s.decideOp tag St.FAIL_INVALID 0)
      else if !s.lcService then (s.decideOp tag St.FAIL_DENIED 0)
      else ((s.clearPulse k).decideOp tag St.OK 0)
    else if 23 < k then (s.decideOp tag St.FAIL_INVALID 0)
    else (((s.setNum (Reg.DIO_CHcCNT k) 0).pubDio k).decideOp tag St.OK 0)

end Sys2Proof.Machine
end

