-- ==== Sys2Proof/Machine/OpTable.lean ====
section
/-! DEFINITION. The operations each block serves and their default timeouts in ms (R76): R79, R116, R159, R196, R234,
R300, R330, R360, R376, R432, R466, R467, R497, R517, R558, R559, R585. RTC serves none (R533) and HIF none. -/

namespace Sys2Proof.Machine

/-- The default timeout of an operation, or `none` for an opcode the block does not know (R60). OPT names no default
for its two operations, which complete at once (log entry 8). -/
def opDefaultMs (block opcode : Nat) : Option Nat :=
  match block with
  | 0x01 => if (1 ≤ opcode ∧ opcode ≤ 5) ∨ opcode = 0x20 ∨ opcode = 0x21 then some 1000 else none
  | 0x03 => if opcode = 1 ∨ opcode = 2 then some 100 else none
  | 0x04 => if 1 ≤ opcode ∧ opcode ≤ 4 then some 10000 else none
  | 0x05 => if opcode = 2 then some 60000 else if 1 ≤ opcode ∧ opcode ≤ 4 then some 100 else none
  | 0x07 => if opcode = 2 then some 65535 else if 1 ≤ opcode ∧ opcode ≤ 6 then some 100 else none
  | 0x08 => if 1 ≤ opcode ∧ opcode ≤ 4 then some 10000 else none
  | 0x09 => if opcode = 1 ∨ opcode = 2 then some 100 else none
  | 0x0A => if 1 ≤ opcode ∧ opcode ≤ 6 then some 100 else none
  | 0x0B => if opcode = 1 then some 10000 else if 2 ≤ opcode ∧ opcode ≤ 6 then some 100 else none
  | 0x0C => if 1 ≤ opcode ∧ opcode ≤ 4 then some 100 else none
  | 0x0D => if 1 ≤ opcode ∧ opcode ≤ 5 then some 100 else none
  | 0x0E => if 5 ≤ opcode ∧ opcode ≤ 8 ∧ opcode ≠ 7 then some 30000
            else if 1 ≤ opcode ∧ opcode ≤ 7 then some 10000 else none
  | 0x0F => if opcode = 2 then some 2000 else if 1 ≤ opcode ∧ opcode ≤ 6 then some 1000 else none
  | 0x10 => if opcode = 1 ∨ opcode = 2 then some 100 else none
  | 0x11 => if 1 ≤ opcode ∧ opcode ≤ 5 then some 100 else none
  | 0x12 => if opcode = 3 then some 5000 else if 1 ≤ opcode ∧ opcode ≤ 7 then some 1000 else none
  | 0x13 => if 1 ≤ opcode ∧ opcode ≤ 7 then some 100 else none
  | _ => none

/-- Whether a block gives operations outside context 0000h no service at all: SUP, EMU, FAB, NTU, FBC and DIO (R360,
R466, R467, R497, R517, R585); KEY but for TENANT_IMPORT (R558). -/
def landlordOnly (block opcode : Nat) : Bool :=
  match block with
  | 0x01 | 0x05 | 0x07 | 0x0D | 0x10 | 0x11 => true
  | 0x12 => opcode != 5
  | 0x0F => opcode != 1
  | _ => false

end Sys2Proof.Machine
end

