-- ==== Sys2Proof/Machine/Host.lean ====
section
/-! DEFINITION. The host link and the operation tracker: rings, queues, completions, descriptor fetch, cancel and
query, lost reports, the PCIe link (chapters 02 and 03). -/

namespace Sys2Proof.Machine

/-! ### Accesses outside the map (R31, R32) -/

/-- Record an access to an offset no block implements (R31); from the SPI it sets the status ERR (R51). -/
def State.noteUnmapped (s : State) (rq : Requester) (off : Nat) : State :=
  let s1 := ((s.setNum Reg.HIF_UNMAPPED_ADDR (off % 2 ^ 25)).satInc Reg.HIF_UNMAPPED_CNT 0 32 1).raiseIrq Blk.HIF 4
  match rq with
  | .pcie => s1
  | .spi => { s1 with hif := { s1.hif with spiErr := true } }

/-! The bits of AER's Uncorrectable Error Status that the module sets (R32, R45; log entry 197). -/
namespace AerBit
abbrev COMPLETER_ABORT : Nat := 15
abbrev UNSUPPORTED_REQUEST : Nat := 20
end AerBit

/-- AER shows an uncorrectable error of a completion (R45). -/
def State.noteAer (s : State) (bit : Nat) : State :=
  { s with hif := { s.hif with cfg := { s.hif.cfg with aerUncor := BitVec.ofNat 32 (putBits s.hif.cfg.aerUncor.toNat bit 1 1) } } }

/-- LONG_READ_ABORT: a read longer than 8 bytes reads nothing (R31, R32). -/
def execLongReadAbort (bytes : Nat) (s : State) : Host.Outcome State Fault Refusal := s.powered fun s =>
  if 8 < bytes then ((s.noteAer AerBit.COMPLETER_ABORT).emit .completerAbort) else s

/-- ATOMIC_OP: Unsupported Request (R31, R32). -/
def execAtomicOp (s : State) : Host.Outcome State Fault Refusal :=
  s.powered fun s => ((s.noteAer AerBit.UNSUPPORTED_REQUEST).emit .unsupportedRequest)

/-! ### Completions (R59 to R62, R75, R93) -/

/-- A completion entry as its 128 bits (R59). -/
def cplEntry (cookie tag : Nat) (phase lost : Bool) (sq : Nat) (internal : Bool) (status block stamp result : Nat) :
    Nat :=
  cookie % 2 ^ 32 + (tag % 512) * 2 ^ 32 + (if phase then 2 ^ 41 else 0) + (if lost then 2 ^ 42 else 0)
    + (sq % 8) * 2 ^ 43 + (if internal then 2 ^ 46 else 0) + (status % 256) * 2 ^ 48 + (block % 256) * 2 ^ 56
    + (stamp % 2 ^ 32) * 2 ^ 64 + (result % 2 ^ 32) * 2 ^ 96

/-- The entry of a decided slot. -/
def slotEntry (x : Slot) (tag : Nat) (phase : Bool) : Nat :=
  let internal := !x.fromHost
  cplEntry (if internal then 0 else x.cookie.toNat) tag phase false (if internal then 0 else x.sq) internal
    x.status x.block x.stampCh x.result.toNat

/-- Write four words of an entry into the completion history and move its head (R98, R100). -/
def State.writeHistory (s : State) (e : Nat) : State :=
  let h := s.fld Reg.OPT_HIST_HEAD 0 10
  let s1 := s.forN 4 (fun a w => a.setNum (Reg.OPT_HIST (4 * h + w)) (e / 2 ^ (32 * w)))
  let s2 := s1.setFld Reg.OPT_HIST_HEAD 0 10 (h + 1)
  if h = 1023 then s2.setFld Reg.OPT_HIST_HEAD 16 16 (s2.fld Reg.OPT_HIST_HEAD 16 16 + 1) else s2

/-- HIF_CQn_CTRL.EN. -/
def State.cqEn (s : State) (q : Nat) : Bool := s.flag (Reg.HIF_CQn_CTRL q) 0

/-- Whether queue `q` is full: (TAIL + 1) mod 256 = HEAD (R61). -/
def State.cqFull (s : State) (q : Nat) : Bool :=
  (s.fld (Reg.HIF_CQn_TAIL q) 0 8 + 1) % 256 == s.fld (Reg.HIF_CQn_HEAD q) 0 8

/-- Where a decided slot's completion goes (R54, R60): a queue 0 to 7, 8 for the history alone, 9 for the mailbox. A
mailbox operation that a HIF soft reset parted from its mailbox goes to the history (R97). -/
def State.routeOf (s : State) (x : Slot) : Nat :=
  let routed := Nat.min (s.fld (Reg.HIF_CQ_ROUTE x.block) 0 4) 8
  match x.origin with
  | .mailbox => if s.hif.mboxOrd = some x.ord then 9 else 8
  | .ring _ => match x.cq with
    | some q => q
    | none => routed
  | .internal _ => routed

/-- The oldest decided operation of a route (R93: entries on one queue are written in the order of decision). -/
def State.headOf (s : State) (route : Nat) : Option Nat :=
  s.opt.decided.find? (fun t => s.routeOf (s.slot t) == route)

/-- Signal a queue's vector and begin a new count of unsignalled entries (R62). -/
def State.signalQueue (s : State) (q : Nat) : State :=
  let s1 := s.signalVector (s.fld (Reg.HIF_CQn_CTRL q) 24 6)
  { s1 with hif := { s1.hif with sinceSignal := tset (fun _ => 0) s1.hif.sinceSignal q 0 } }

/-- Place an entry at a queue's tail, toggle PHASE on the wrap, and signal as R62 says (R59, R61, R62). -/
def State.putQueue (s : State) (q e : Nat) (irqNow : Bool) : State :=
  let tail := s.fld (Reg.HIF_CQn_TAIL q) 0 8
  let s1 := s.emit (.dma (s.num64 (Reg.HIF_CQn_BASE_LO q) + 16 * tail) (leBytes 16 e))
  let s2 := s1.setFld (Reg.HIF_CQn_TAIL q) 0 8 (tail + 1)
  let s3 := if tail = 255 then s2.setFlag (Reg.HIF_CQn_TAIL q) 8 (!s2.flag (Reg.HIF_CQn_TAIL q) 8) else s2
  let n := tget (fun _ => 0) s3.hif.sinceSignal q + 1
  let s4 := { s3 with hif := { s3.hif with sinceSignal := tset (fun _ => 0) s3.hif.sinceSignal q n } }
  let cnt := Nat.max 1 (s4.fld (Reg.HIF_CQn_CTRL q) 8 8)
  if irqNow || decide (cnt ≤ n) then s4.signalQueue q else s4

/-- Take a tag off the list of decisions not yet written. -/
def State.undecide (s : State) (t : Nat) : State :=
  { s with opt := { s.opt with decided := s.opt.decided.filter (· != t),
                               histDone := s.opt.histDone.filter (· != t) } }

/-- The completion is copied to the history once (R100). -/
def State.historyOnce (s : State) (t e : Nat) : State :=
  if s.opt.histDone.contains t then s
  else
    let s1 := s.writeHistory e
    { s1 with opt := { s1.opt with histDone := t :: s1.opt.histDone } }

/-- The oldest decided operation of a route whose completion the history does not hold (R100). -/
def State.nextHistory (s : State) (route : Nat) : Option Nat :=
  s.opt.decided.find? (fun t => s.routeOf (s.slot t) == route && !s.opt.histDone.contains t)

/-- The mailbox is free again: GO reads 0 (R54). -/
def State.leaveMbox (s : State) : State :=
  { s with hif := { s.hif with mboxOrd := none, mboxWait := false } }.setFlag Reg.HIF_MBOX_GO 0 false

/-- Write the oldest decided operation of a route, where there is room (R61, R64, R75, R87, R93). An entry placed in
the mailbox or the history alone frees the slot; one sent to a queue waits for its acknowledgement. A queue that is
full sets FULL and CQ_FULL; with the link down the oldest completion that the history does not hold is copied to it (R48,
R100). -/
def State.writeCompletion (s : State) (route : Nat) : State :=
  if s.sup.pfail then s else
  match s.headOf route with
  | none => s
  | some t =>
    let x := s.slot t
    if route = 9 then
      let e := slotEntry x t false
      let s1 := s.forN 4 (fun a w => a.setNum (Reg.HIF_MBOX_CPL w) (e / 2 ^ (32 * w)))
      (((s1.historyOnce t e).undecide t).freeSlot t).leaveMbox
    else if route = 8 then ((s.historyOnce t (slotEntry x t false)).undecide t).freeSlot t
    else
      let e := slotEntry x t (s.flag (Reg.HIF_CQn_TAIL route) 8)
      if !s.cqEn route then (if s.hif.linkUp then s else match s.nextHistory route with
        | some u => s.historyOnce u (slotEntry (s.slot u) u false)
        | none => s)
      else if s.cqFull route then (s.setFlag (Reg.HIF_CQn_STAT route) 0 true).raiseIrq Blk.HIF 1
      else
        let s1 := ((s.historyOnce t e).putQueue route e x.irqNow).undecide t
        { s1 with opt := { s1.opt with tlpWait := s1.opt.tlpWait ++ [t] } }

/-- Write every completion held for a queue that now has room (R61, R64). -/
def State.writeHeld (s : State) (q : Nat) : State := s.forN 255 (fun a _ => a.writeCompletion q)

/-- COMPLETION_WRITE (R75, R93). -/
def execCompletionWrite (route : Nat) (s : State) : Host.Outcome State Fault Refusal := s.powered fun s =>
  (s.writeCompletion route)

/-- OPT_LOST_STAT shows the number of lost reports held (R98). -/
def State.noteLost (s : State) : State := s.setFld Reg.OPT_LOST_STAT 0 13 s.opt.lost.length

/-- A written lost report is deleted from MRAM; the last one ends a release (R85, R99). -/
def State.dropLost (s : State) (tag : Nat) : State :=
  match s.opt.lost.find? (fun r => r.tag == tag) with
  | none => s
  | some r =>
    let l := s.opt.lost.erase r
    let s1 := { s with opt := { s.opt with lost := l, lostRun := if l = [] then none else s.opt.lostRun } }.noteLost
    if l = [] ∧ s.opt.lostRun.isSome then s1.setFlag Reg.OPT_LOST_CTRL 9 true else s1

/-- COMPLETION_ACKED: the acknowledged TLP counts as written and frees the slot, or deletes the lost report that carries the
tag; from PFAIL on no free record is written (R75, R85, R87). -/
def execCompletionAcked (tag : Nat) (s : State) : Host.Outcome State Fault Refusal := s.powered fun s =>
  match s.opt.tlpWait.find? (fun e => e % 512 == tag) with
  | none => s
  | some e =>
    if s.sup.pfail then s
    else
      let s1 := { s with opt := { s.opt with tlpWait := s.opt.tlpWait.erase e } }
      if e < 512 then s1.freeSlot tag else s1.dropLost tag

/-- CQ_COAL_TIMEOUT: COAL_TIME after the first unsignalled entry the queue signals (R62). -/
def execCqCoalTimeout (queue : Nat) (s : State) : Host.Outcome State Fault Refusal := s.powered fun s =>
  if s.fld (Reg.HIF_CQn_CTRL queue) 16 8 = 0 ∨ tget (fun _ => 0) s.hif.sinceSignal queue = 0 then s
  else (s.signalQueue queue)

/-! ### Rings and queues (R55 to R57, R64) -/

/-- A write of HIF_SQn_CTRL: PRIO is set; EN is refused for a base with lower bits set (R55, R64). -/
def State.writeSqCtrl (s : State) (n : Nat) (v : Word) : State :=
  let s1 := s.setFld (Reg.HIF_SQn_CTRL n) 1 3 (bitsOf v.toNat 1 3)
  if v.toNat % 2 = 1 ∧ s.num (Reg.HIF_SQn_BASE_LO n) % 2 ^ 14 ≠ 0 then
    (s1.setFlag (Reg.HIF_SQn_CTRL n) 0 false).reportErr Blk.HIF St.FAIL_INVALID (BitVec.ofNat 32 (0x1008 + 32 * n))
  else s1.setFld (Reg.HIF_SQn_CTRL n) 0 1 v.toNat

/-- A write of HIF_CQn_CTRL: enabling resets TAIL to 0 and PHASE to 1 and releases the completions held; a base with
lower bits set is refused (R55, R64). -/
def State.writeCqCtrl (s : State) (q : Nat) (v : Word) : State :=
  let was := s.cqEn q
  let s1 := s.setNum (Reg.HIF_CQn_CTRL q) (v.toNat &&& 0x3FFFFF00 + (if was then 1 else 0))
  if v.toNat % 2 = 0 then s1.setFlag (Reg.HIF_CQn_CTRL q) 0 false
  else if was then s1
  else if s.num (Reg.HIF_CQn_BASE_LO q) % 2 ^ 12 ≠ 0 then
    s1.reportErr Blk.HIF St.FAIL_INVALID (BitVec.ofNat 32 (0x2008 + 32 * q))
  else
    let s2 := (s1.setFlag (Reg.HIF_CQn_CTRL q) 0 true).setNum (Reg.HIF_CQn_TAIL q) 0x100
    let s3 := { s2 with hif := { s2.hif with sinceSignal := tset (fun _ => 0) s2.hif.sinceSignal q 0 } }
    (s3.setFlag (Reg.HIF_CQn_STAT q) 0 false).writeHeld q

/-- A write of HIF_CQn_HEAD frees entries and releases the completions held for the queue (R61). -/
def State.writeCqHead (s : State) (q : Nat) (v : Word) : State :=
  let s1 := s.setNum (Reg.HIF_CQn_HEAD q) (v.toNat % 256)
  let s2 := if s1.cqFull q then s1 else s1.setFlag (Reg.HIF_CQn_STAT q) 0 false
  if s2.cqEn q then s2.writeHeld q else s2

/-- A doorbell releases descriptors up to the new tail, or is ignored and disables the ring when it advances the tail
by more than the free entries (R56). -/
def State.writeDoorbell (s : State) (n : Nat) (v : Word) : State :=
  let head := s.fld (Reg.HIF_SQn_HEAD n) 0 8
  let tail := s.fld (Reg.HIF_SQn_HEAD n) 8 8
  let new := v.toNat % 256
  let adv := (new + 256 - tail) % 256
  if 255 - (tail + 256 - head) % 256 < adv then
    ((((s.setFlag (Reg.HIF_SQn_CTRL n) 0 false).setFlag (Reg.HIF_SQn_STAT n) 0 true).reportErr Blk.HIF
      St.FAIL_INVALID (BitVec.ofNat 32 n))).raiseIrq Blk.HIF 2
  else s.setFld (Reg.HIF_SQn_HEAD n) 8 8 new

/-! ### Beginning a descriptor's operation (R57, R60, R70 to R72, R37, R95, R550 to R554) -/

/-- What becomes of a descriptor when it begins: it runs, or it is decided at once with a status; `routed` sends the
completion of a refusal by HIF to the queue of block 02h (R60). -/
inductive Judgement where
  | runs
  | refused (status : Nat)
  | refusedByHif (routed : Bool)
deriving DecidableEq, Repr

/-- Whether a command that waits in this SYS cycle ends the session of context `c` (R554). -/
def State.endsSession (s : State) (c : Nat) (i : Instr) : Bool :=
  let of := fun (t block opcode : Nat) => match s.activeOp t block opcode with
    | some x => paramField x.param 0 1 == c
    | none => false
  match i with
  | .sessionClose t => of t Blk.TEN 2
  | .tenantImport t _ => of t Blk.KEY 5
  | .tenantDestroy t => of t Blk.KEY 6
  | _ => false

/-- Whether a session of context `c` is open; one that ends in this SYS cycle has ended (R554). -/
def State.sessionOpen (s : State) (c : Nat) : Bool :=
  s.flag (Reg.TEN_CTXc_STAT c) 1 && !s.pending.any (s.endsSession c) && match tfind? s.ten.sessionEnd c with
    | some e => decide (s.clk < e)
    | none => true

/-- The judgement of a descriptor (R60, R37, R95, R550, R553, R554, then each block's own context rule). -/
def State.judge (s : State) (x : Slot) : Judgement :=
  let cqBad := match x.origin, x.cq with
    | .ring _, some q => !s.cqEn q
    | _, _ => false
  if cqBad then .refusedByHif true
  else if x.block = 0 ∨ 19 < x.block then .refusedByHif false
  else match opDefaultMs x.block x.opcode with
    | none => .refused St.FAIL_INVALID
    | some _ =>
      if 0xFF < x.ctx then .refused St.FAIL_INVALID
      else if s.inSrst x.block then .refused St.FAIL_RESET
      else if !s.en x.block then .refused St.FAIL_DENIED
      else if x.ctx ≠ 0 ∧ !s.flag (Reg.TEN_CTXc_CFG x.ctx) 0 then .refused St.FAIL_DENIED
      else if x.ctx ≠ 0 ∧ s.flag (Reg.TEN_CTXc_CFG x.ctx) 1 ∧ !s.sessionOpen x.ctx then .refused St.FAIL_DENIED
      else if x.ctx ≠ 0 ∧ landlordOnly x.block x.opcode then .refused St.FAIL_DENIED
      else .runs

/-- The slot a descriptor asks for (R58). -/
def descSlot (d : BitVec 512) (o : Origin) : Slot :=
  let n := d.toNat
  let block := bitsOf n 8 8
  let opcode := bitsOf n 0 8
  let t := bitsOf n 80 16
  { Slot.unused with
    opcode := opcode, block := block, cookie := BitVec.ofNat 32 (bitsOf n 32 32), ctx := bitsOf n 64 16
    irqNow := bitOf n 19
    cq := match o with
      | .ring _ => some (bitsOf n 16 3)
      | _ => none
    sq := match o with
      | .ring r => r
      | _ => 0
    timeoutMs := if t = 0 then (opDefaultMs block opcode).getD 0 else t
    origin := o
    param := BitVec.ofNat 384 (n / 2 ^ 128) }

/-- Begin a descriptor's operation on a tag and judge it: a refused one is decided at once (R57: every descriptor
fetched receives a tag, whatever it contains). A context's token is taken as it begins (R553). -/
def State.acceptDesc (s : State) (t : Nat) (d : BitVec 512) (o : Origin) : State :=
  let x := descSlot d o
  match s.judge x with
  | .refusedByHif routed =>
    let x' := { x with block := Blk.HIF, cq := if routed then none else x.cq }
    (s.beginAt t x').decideOp t St.FAIL_INVALID 0
  | .refused st => (s.beginAt t x).decideOp t st 0
  | .runs =>
    match s.takeToken x.ctx with
    | some s1 => s1.beginAt t x
    | none => ((s.beginAt t x).countRateDrop x.ctx).decideOp t St.FAIL_DENIED 0

/-- Whether ring `n` is enabled with a pending tail (R57). -/
def State.ringReady (s : State) (n : Nat) : Bool :=
  s.flag (Reg.HIF_SQn_CTRL n) 0 && s.fld (Reg.HIF_SQn_HEAD n) 0 8 != s.fld (Reg.HIF_SQn_HEAD n) 8 8

/-- The ring the next descriptor comes from: the highest PRIO first, in turn among rings of equal priority, at most
8 descriptors a turn (R57). -/
def State.nextRing (s : State) : Option Nat :=
  let ready := (List.range 8).filter s.ringReady
  let top := ready.foldl (fun m n => Nat.max m (s.fld (Reg.HIF_SQn_CTRL n) 1 3)) 0
  let cand := ready.filter (fun n => s.fld (Reg.HIF_SQn_CTRL n) 1 3 == top)
  let cur := s.hif.turnRing
  if cand.contains cur && decide (s.hif.turnCount < 8) then some cur
  else ((List.range 8).map (fun k => (cur + 1 + k) % 8)).find? cand.contains

/-- Whether a descriptor may receive a tag: OPT_CFG.HOST_LIMIT counts every open operation, and the internal producers
that wait go first (R57, R72, R73, R87). -/
def State.mayAccept (s : State) : Bool :=
  !s.sup.pfail && decide (s.openCount < s.hostLimit) && s.opt.tagWait.isEmpty

/-- DESCRIPTOR_FETCH: HIF fetches the descriptor at the head of the ring whose turn it is, when a tag is free, fewer
than HOST_LIMIT operations are open and no internal producer waits for a tag (R57, R70 to R73, R87). -/
def execDescriptorFetch (desc : BitVec 512) (s : State) : Host.Outcome State Fault Refusal := s.powered fun s =>
  match s.nextRing, s.freeTag with
  | some n, some t =>
    if !s.mayAccept then s
    else
      let cnt := if n = s.hif.turnRing ∧ s.hif.turnCount < 8 then s.hif.turnCount + 1 else 1
      let s1 := s.setFld (Reg.HIF_SQn_HEAD n) 0 8 (s.fld (Reg.HIF_SQn_HEAD n) 0 8 + 1)
      let s2 := { s1 with hif := { s1.hif with turnRing := n, turnCount := cnt } }
      (s2.acceptDesc t desc (.ring n))
  | _, _ => s

/-- The mailbox's 64-byte descriptor (R54). -/
def State.mboxDesc (s : State) : BitVec 512 :=
  BitVec.ofNat 512 ((List.range 16).foldl (fun a w => a + s.num (Reg.HIF_MBOX_DESC w) * 2 ^ (32 * w)) 0)

/-- The mailbox's descriptor receives a tag, or waits for one with GO = 1 (R54, R72). -/
def State.mboxSubmit (s : State) : State :=
  match s.freeTag with
  | some t =>
    if s.mayAccept then
      ({ s with hif := { s.hif with mboxWait := false, mboxOrd := some s.opt.nextOrd } }).acceptDesc t s.mboxDesc .mailbox
    else { s with hif := { s.hif with mboxWait := true } }
  | none => { s with hif := { s.hif with mboxWait := true } }

/-- The SPI's status ERR is set (R51). -/
def State.spiError (s : State) : State := { s with hif := { s.hif with spiErr := true } }

/-- A write of 1 to HIF_MBOX_GO submits the mailbox's descriptor; while GO reads 1 a further write is ignored and sets
the SPI status ERR (R54). -/
def State.writeMboxGo (s : State) (v : Word) : State :=
  if s.flag Reg.HIF_MBOX_GO 0 then s.spiError
  else if v.toNat % 2 = 0 then s
  else (s.setFlag Reg.HIF_MBOX_GO 0 true).mboxSubmit

/-! ### QUERY (R79, R80) -/

/-- The refusal of a CANCEL or QUERY of a target, if any (R80). -/
def State.targetRefusal (s : State) (x : Slot) : Option Nat :=
  let w := paramField x.param 0 2
  let y := s.slot (bitsOf w 0 9)
  if y.st = .free ∨ y.gen ≠ bitsOf w 9 7 ∨ (y.block = Blk.OPT ∧ y.opcode = 1) then some St.FAIL_INVALID
  else if x.ctx ≠ 0 ∧ x.ctx ≠ y.ctx then some St.FAIL_DENIED
  else none

/-- QUERY's result word: state, status when DECIDED, ms since the target began (R79). -/
def State.queryResult (s : State) (y : Slot) : Word :=
  let st := match y.st with
    | .free => 0
    | .active => 1
    | .decided => 2
  let status := if y.st = .decided then y.status else 0
  BitVec.ofNat 32 (st + status * 2 ^ 8 + (Nat.min ((s.clk - y.beginClk) / msClk) 0xFFFF) * 2 ^ 16)

/-- QUERY: reads the target's state (R79, R80). -/
def execQuery (tag : Nat) (s : State) : Host.Outcome State Fault Refusal := s.powered fun s =>
  match s.activeOp tag Blk.OPT 2 with
  | none => s
  | some x =>
    match s.targetRefusal x with
    | some st => (s.decideOp tag st 0)
    | none => (s.decideOp tag St.OK (s.queryResult (s.slot (bitsOf (paramField x.param 0 2) 0 9))))

/-! ### Lost reports (R84 to R86, R99) -/

/-- A write of OPT_LOST_CTRL: CQ is set; RELEASE takes CQ as it stands, is refused while that queue is disabled, is
ignored while a release runs, and sets DONE at once when nothing is held (R85, R99). -/
def State.writeLostCtrl (s : State) (v : Word) : State :=
  let q := v.toNat % 8
  let s1 := s.setFld Reg.OPT_LOST_CTRL 0 3 q
  if !bitOf v.toNat 8 ∨ s.opt.lostRun.isSome then s1
  else if !s1.cqEn q then s1.reportErr Blk.OPT St.FAIL_INVALID (BitVec.ofNat 32 0x110)
  else if s1.opt.lost = [] then s1.setFlag Reg.OPT_LOST_CTRL 9 true
  else
    let s2 := s1.setFlag Reg.OPT_LOST_CTRL 9 false
    { s2 with opt := { s2.opt with lostRun := some q } }

/-- A lost report's entry (R84). -/
def lostEntry (r : LostReport) (phase : Bool) : Nat :=
  cplEntry r.cookie.toNat r.tag phase true r.sq r.internal r.status r.block r.stamp.toNat
    (r.start % 2 ^ 16 + r.opcode * 2 ^ 16)

/-- Lost reports whose TLP waits for its acknowledgement: the oldest of those held (R75, R85). -/
def State.lostSent (s : State) : Nat := (s.opt.tlpWait.filter (fun e => decide (512 ≤ e))).length

/-- LOST_REPORT_WRITE: the oldest report not yet sent goes to the release's queue when that is enabled and has room, and is
copied to the history; it stays held until its TLP is acknowledged (R75, R84, R85, R87). -/
def execLostReportWrite (s : State) : Host.Outcome State Fault Refusal := s.powered fun s =>
  match s.opt.lostRun, s.opt.lost[s.lostSent]? with
  | some q, some r =>
    if s.sup.pfail ∨ !s.cqEn q then s
    else if s.cqFull q then ((s.setFlag (Reg.HIF_CQn_STAT q) 0 true).raiseIrq Blk.HIF 1)
    else
      let e := lostEntry r (s.flag (Reg.HIF_CQn_TAIL q) 8)
      let s1 := (if r.shown then s else s.writeHistory e).putQueue q e false
      { s1 with opt := { s1.opt with
          lost := s1.opt.lost.set s.lostSent { r with shown := true }, tlpWait := s1.opt.tlpWait ++ [512 + r.tag] } }
  | _, _ => s

/-! ### The PCIe link (R48, R63) -/

/-- Disable every ring and queue; descriptors not yet fetched are abandoned (R38, R48). -/
def State.disableRings (s : State) : State :=
  s.forN 8 fun a n =>
    let a1 := (a.setFlag (Reg.HIF_SQn_CTRL n) 0 false).setFlag (Reg.HIF_CQn_CTRL n) 0 false
    a1.setFld (Reg.HIF_SQn_HEAD n) 8 8 (a1.fld (Reg.HIF_SQn_HEAD n) 0 8)

/-- With the link, the TLPs not acknowledged are lost: their completions wait to be written again, a lost report with them
(R48, R75, R85). -/
def State.loseTlps (s : State) : State :=
  let again := s.opt.tlpWait.filter (fun e => decide (e < 512))
  { s with opt := { s.opt with decided := again ++ s.opt.decided, histDone := again ++ s.opt.histDone, tlpWait := [] } }

/-- PCIE_RESET: every other block keeps its state; the configuration header returns to its reset values (R48). -/
def execPcieReset (s : State) : Host.Outcome State Fault Refusal := s.powered fun s =>
  let s1 := s.disableRings.loseTlps
  let s2 := { s1 with hif := { s1.hif with linkUp := false, cfg := PcieCfg.reset } }
  ((s2.setFld Reg.HIF_LINK_STAT 0 9 0).raiseIrq Blk.HIF 3)

/-- PCIE_LINK_UP: the link trains at a speed and width that the endpoint supports, or the function returns from D3hot;
HIF_LINK_STAT shows the live link and LINK_CHANGE sets (R45, R63). -/
def execPcieLinkUp (speed width : Nat) (s : State) : Host.Outcome State Fault Refusal := s.powered fun s =>
  if speed = 0 ∨ 3 < speed ∨ width = 0 ∨ 2 < width then s else
  let s1 := { s with hif := { s.hif with linkUp := true } }
  let s2 := ((s1.setFld Reg.HIF_LINK_STAT 0 4 speed).setFld Reg.HIF_LINK_STAT 4 4 width).setFlag Reg.HIF_LINK_STAT 8 true
  (s2.raiseIrq Blk.HIF 3)

/-! ### Fences (R90, R91) -/

/-- The fence sequence of a requester. -/
def State.fenceSeq (s : State) (rq : Requester) : Word :=
  match rq with
  | .pcie => s.hif.fencePcie
  | .spi => s.hif.fenceSpi

/-- Whether some earlier write of the requester has not taken effect: one that reached a block in soft reset (R91). -/
def State.writesOpen (s : State) (rq : Requester) : Bool := s.hif.opens.any (fun e => e.rq == rq)

/-- Whether an open PCIe write stands before a fence in block `b`. -/
def State.openIn (s : State) (b : Nat) : Bool := s.hif.opens.any (fun e => e.rq == .pcie && e.off / 0x40000 == b)

/-- A fence: the requester's sequence is incremented; once no earlier write is open, FENCE_SEQ of every block shows a
PCIe fence (R90, R91). -/
def State.fence (s : State) (rq : Requester) : State :=
  match rq with
  | .pcie =>
    let v := s.hif.fencePcie + 1
    let s1 := { s with hif := { s.hif with fencePcie := v } }
    s1.forN 19 (fun a k => if a.openIn (k + 1) then a else a.setReg (Reg.FENCE_SEQ (k + 1)) v)
  | .spi => { s with hif := { s.hif with fenceSpi := s.hif.fenceSpi + 1 } }

end Sys2Proof.Machine
end

