-- ==== Sys2Proof/Machine/Fab.lean ====
section
/-! DEFINITION. FAB's commands (R436 to R451, R466, R468). -/

namespace Sys2Proof.Machine

/-! ### Transmission (R443, R450, R460) -/

/-- FAB's record of a FRAME_TX. -/
def State.txOp (s : State) (t : Nat) : Option TxOp := s.fab.tx.find? (fun x => x.tag == t)

/-- A FRAME_TX whose frame has left its last port completes, its stamp record written first (R460, R466). -/
def State.endTx (s : State) (t : Nat) : State :=
  match s.txOp t with
  | none => s
  | some x =>
    if x.left ≠ [] then s
    else
      let s1 := { s with fab := { s.fab with tx := s.fab.tx.filter (fun y => y.tag != t) } }
      let live := (s1.slot t).st == .active && (s1.slot t).ord == x.ord
      let p := (s1.slot t).param
      let ts := bitOf (paramField p 1 1) 0
      let s2 := match x.record, x.stamp with
        | some b, some (port, _) => (if live then s1.emit (.dma (paramField p 24 8) b) else s1).freeTs port
        | none, some (port, _) => s1.freeTs port
        | _, none => s1
      if !live then s2
      else if x.sent = 0 then s2.decideOp t St.FAIL_DENIED 0
      else s2.decideOp t (if ts ∧ x.record.isNone then St.OK_NO_TS else St.OK)
        (BitVec.ofNat 32 (x.sent % 64 + x.dropped % 64 * 256))

/-- The next queued class of a port in strict priority (R443), of those that the port passes (R437, R446); in LPI only class 7
(R450). -/
def State.nextClass (s : State) (p : Nat) : Option Nat :=
  ((List.range 8).reverse).find? (fun c => s.fabQueue p c != [] && s.portPasses p (c != 7)
    && (c == 7 || !s.flag (Reg.FAB_PnSTAT p) 6))

/-- FRAME_TRANSMIT (R443): the head of the highest class leaves; its stamp is taken where it was asked for (R459). -/
def execFrameTransmit (port : Nat) (s : State) : Host.Outcome State Fault Refusal := s.powered fun s =>
  match s.nextClass port with
  | none => s
  | some c => match s.fabQueue port c with
    | [] => s
    | q :: rest =>
      if s.clk < tget (fun _ => 0) s.fab.wakeClk port then s
      else
        let s1 := ((s.setQueue port c rest).countTx port c q.frame).emit (.ethFrame port q.frame)
        let s2 := match q.op with
          | none => s1
          | some t => match s1.txOp t with
            | none => s1
            | some x =>
              let a := match x.stamp with
                | some (sp, base) =>
                  if sp = port then
                    let b := stampRecord (s1.txTime port base) (s1.tb base).frac port base
                    ({ s1 with fab := { s1.fab with tx := s1.fab.tx.map fun (y : TxOp) =>
                        if y.tag = t then { y with record := some b } else y } }).cnt port 23 1
                  else s1
                | none => s1
              (a.noteTxPort (some t) port true).endTx t
        let s3 := match q.ptp with
          | some (base, msg, seq) => s2.ptpLeft port base msg seq
          | none => s2
        ({ s3 with fab := { s3.fab with idleClk := tput s3.fab.idleClk port s3.clk } }).noteBuf

/-! ### The MAC table and storm control (R439, R446) -/

/-- MAC_AGE (R439). -/
def execMacAge (vid mac : Nat) (s : State) : Host.Outcome State Fault Refusal := s.powered fun s =>
  let age := s.fld Reg.FAB_CFG 24 8
  match s.fdbAt vid mac with
  | some e => if e.static ∨ age = 0 ∨ s.clk < e.clk + age * 10 * secClk then s else (s.putFdb (fdbKey vid mac) none)
  | none => s

/-- Set or clear a port's block (R446). -/
def State.setBlocked (s : State) (p : Nat) (on : Bool) (secs : Nat) : State :=
  let s1 := (s.setFlag (Reg.FAB_PnSTAT p) 4 on).setFld (Reg.FAB_PnSTAT p) 16 16 secs
  let s2 := s1.setFlag (if p < 32 then Reg.FAB_BLOCKED_LO else Reg.FAB_BLOCKED_HI) (p % 32) on
  { s2 with fab := { s2.fab with windows := tdel s2.fab.windows p
                                 blockClk := if on then tput s2.fab.blockClk p s2.clk else tdel s2.fab.blockClk p } }

/-- PORT_BLOCK: HOLD consecutive 10 ms windows with drops have ended (R446). -/
def execPortBlock (port : Nat) (s : State) : Host.Outcome State Fault Refusal := s.powered fun s =>
  let act := Reg.FAB_PnSTORM_ACT port
  let (last, run) := tget (fun _ => (0, 0)) s.fab.windows port
  if 49 < port ∨ s.plainSwitch ∨ !s.flag act 0 ∨ run < Nat.max 1 (s.fld act 8 8) ∨ s.clk / (10 * msClk) ≤ last
      ∨ s.flag (Reg.FAB_PnSTAT port) 4 then s
  else ((s.setBlocked port true (s.fld act 16 16)).raiseIrq Blk.FAB 4)

/-- PORT_UNBLOCK: BLOCK_TIME has passed (R446). -/
def execPortUnblock (port : Nat) (s : State) : Host.Outcome State Fault Refusal := s.powered fun s =>
  let secs := s.fld (Reg.FAB_PnSTAT port) 16 16
  match tfind? s.fab.blockClk port with
  | some c => if secs = 0 ∨ s.clk < c + secs * secClk then s else (s.setBlocked port false 0)
  | none => s

/-- A write of FAB_PnCFG: it ends a block; where it enables the port the PHY's EEE advertisement is written (R437,
R446, R469). -/
def State.writeFabPort (s : State) (p : Nat) (v : Word) : State :=
  let n := v.toNat
  let acc := bitsOf n 2 2
  let up := bitsOf n 8 2
  let v1 := putBits n 2 2 (if acc = 3 then 0 else acc)
  let v2 := putBits v1 8 2 (if p < 48 ∨ up = 3 then 0 else up)
  let v3 := putBits v2 16 12 (fixVid (bitsOf n 16 12))
  let was := s.flag (Reg.FAB_PnCFG p) 0
  let s1 := (s.setNum (Reg.FAB_PnCFG p) (v3 &&& 0x7FFF031F)).setBlocked p false 0
  if !was ∧ bitOf n 0 ∧ p < 48 ∧ s1.flag (Reg.FAB_PnPHY p) 5 then s1.emit (.phyEee p (s1.flag (Reg.FAB_PnEEE p) 0)) else s1

/-! ### Links and EEE (R437, R450, R451) -/

/-- Tw_sys_tx of the link's speed in 0.1 µs (R451). -/
def State.twSys (s : State) (p : Nat) : Nat := if s.fld (Reg.FAB_PnSTAT p) 1 2 = 2 then 165 else 300

/-- The Tw in use and whether EEE is active (R450, R451). -/
def State.judgeEee (s : State) (p : Nat) : State :=
  let asked := if s.flag (Reg.FAB_PnEEE p) 1 ∧ (tfind? s.fab.lldpClk p).isSome then s.fld (Reg.FAB_PnEEE_TW p) 16 16 else 0
  let sp := s.fld (Reg.FAB_PnSTAT p) 1 2
  let on := decide (p < 48) && s.flag (Reg.FAB_PnSTAT p) 0 && s.flag (Reg.FAB_PnEEE p) 0 && s.fab.eeeOk.contains p
    && (sp == 1 || sp == 2) && decide (asked ≤ 10 * s.fld (Reg.FAB_PnEEE p) 24 8)
  let s1 := (s.setFld (Reg.FAB_PnEEE_TW p) 0 16 (Nat.max (s.twSys p) asked)).setFlag (Reg.FAB_PnSTAT p) 5 on
  if on then s1 else s1.endLpi p

/-- Frames queued at a port whose link is gone are lost. -/
def State.flushPort (s : State) (p : Nat) : State :=
  let ops := ((List.range 8).map (fun c => (s.fabQueue p c).filterMap (·.op))).flatten
  let held := ((s.fabQueue p 7).filterMap (·.ptp)).length
  let s1 := (s.forN 8 fun a c => a.setQueue p c []).forN held fun a _ => a.freeTs p
  (ops.foldl (fun a t => (a.noteTxPort (some t) p false).endTx t) s1).noteBuf

/-- LINK_CHANGE (R437, R449). -/
def execLinkChange (port : Nat) (up half : Bool) (speed : Nat) (eee : Bool) (s : State) : Host.Outcome State Fault Refusal := s.powered fun s =>
  if 49 < port then s
  else
    let st := Reg.FAB_PnSTAT port
    let was := s.flag st 0
    let s1 := ((s.setFlag st 0 up).setFld st 1 2 (if up then speed else 0)).setFlag st 3 (up && half)
    let s2 := s1.setFlag (if port < 32 then Reg.FAB_LINK_LO else Reg.FAB_LINK_HI) (port % 32) up
    let s3 := { s2 with fab := { s2.fab with
        eeeOk := if up ∧ eee then (port :: s2.fab.eeeOk).eraseDups else s2.fab.eeeOk.filter (· != port)
        lldpClk := tdel s2.fab.lldpClk port } }
    let s4 := if was ∧ !up then (s3.cnt port 39 1).flushPort port else s3
    let s5 := if up ∧ half then s4.raiseIrq Blk.FAB 7 else s4
    ((s5.raiseIrq Blk.FAB 1).judgeEee port)

/-- UPLINK_MODE_TRY: with UPMODE = 0 an uplink without a link tries the other PCS mode every 500 ms (R437). -/
def execUplinkModeTry (port : Nat) (s : State) : Host.Outcome State Fault Refusal := s.powered fun s =>
  let (mode, c) := tget (fun _ => (1, 0)) s.fab.pcs port
  if port < 48 ∨ 49 < port ∨ s.flag (Reg.FAB_PnSTAT port) 0 ∨ s.fld (Reg.FAB_PnCFG port) 8 2 ≠ 0
      ∨ s.clk < c + 500 * msClk then s
  else { s with fab := { s.fab with pcs := tput s.fab.pcs port (3 - mode, s.clk) } }

/-- LPI_ENTER: the port's queues have stayed empty for IDLE µs; a frame of the same cycle keeps the port out of LPI (R450). -/
def execLpiEnter (port : Nat) (s : State) : Host.Outcome State Fault Refusal := s.powered fun s =>
  let st := Reg.FAB_PnSTAT port
  let empty := (List.range 8).all (fun c => s.fabQueue port c == [])
  let idle := tget (fun _ => 0) s.fab.idleClk port + s.fld (Reg.FAB_PnEEE port) 8 8 * 800
  if 47 < port ∨ !s.flag st 5 ∨ s.flag st 6 ∨ !empty ∨ s.clk < idle then s
  else s.yielding Rank.EXPIRY (.lpiEnter port) fun s =>
    let s1 := (s.setFlag st 6 true).cnt port 35 1
    { s1 with fab := { s1.fab with lpiClk := tput s1.fab.lpiClk port s1.clk, waitClk := tdel s1.fab.waitClk port } }

/-- LPI_HOLDOFF_END: HOLDOFF µs after a frame came for a port in LPI (R450). -/
def execLpiHoldoffEnd (port : Nat) (s : State) : Host.Outcome State Fault Refusal := s.powered fun s =>
  match tfind? s.fab.waitClk port with
  | some c => if s.clk < c + s.fld (Reg.FAB_PnEEE port) 16 8 * 800 then s else (s.endLpi port)
  | none => s

/-- The LLDPDU of a port (R451, IEEE 802.1AB): chassis ID, port ID, TTL and the IEEE 802.3 EEE TLV with Transmit Tw, Receive Tw,
fallback and both echoes. -/
def State.lldpFrame (s : State) (p tw : Nat) : EthFrame :=
  let asked := (s.fld (Reg.FAB_PnEEE_TW p) 16 16 + 9) / 10
  let tlv := fun (t : Nat) (d : List Byte) => beBytes 2 (t * 512 + d.length) ++ d
  internalFrame 0x0180C200000E (s.epMac 4) none 0x88CC
    (tlv 1 (beBytes 1 4 ++ beBytes 6 (s.epMac 4)) ++ tlv 2 (beBytes 1 7 ++ beBytes 1 p) ++ tlv 3 (beBytes 2 120)
      ++ tlv 127 (beBytes 3 0x00120F ++ beBytes 1 5 ++ beBytes 2 tw ++ beBytes 2 tw ++ beBytes 2 tw ++ beBytes 2 asked ++ beBytes 2 asked)
      ++ tlv 0 [])

/-- LLDP_TX: every 30 s, and after a change of the Tw in use, an LLDPDU goes to the port's queue of class 6, DESIGN CHOICE, log
entry 203 (R451). -/
def execLldpTx (port : Nat) (s : State) : Host.Outcome State Fault Refusal := s.powered fun s =>
  let tw := (s.fld (Reg.FAB_PnEEE_TW port) 0 16 + 9) / 10
  let due := match tfind? s.fab.lldpSent port with
    | some (c, t) => t != tw || decide (c + 30 * secClk ≤ s.clk)
    | none => true
  if 47 < port ∨ !s.flag (Reg.FAB_PnEEE port) 1 ∨ !s.flag (Reg.FAB_PnSTAT port) 0 ∨ !due then s
  else ({ s with fab := { s.fab with lldpSent := tput s.fab.lldpSent port (s.clk, tw) } }).forward 54 0 0 6 true false none none [port]
    (s.lldpFrame port tw)

/-- LLDP_RX: the partner's Receive Tw of its EEE TLV (R451). Its Transmit Tw has no use here. -/
def execLldpRx (port _txTw rxTw : Nat) (s : State) : Host.Outcome State Fault Refusal := s.powered fun s =>
  if 47 < port ∨ !s.flag (Reg.FAB_PnEEE port) 1 then s
  else
    let s1 := s.setFld (Reg.FAB_PnEEE_TW port) 16 16 (Nat.min 65535 (10 * rxTw))
    (({ s1 with fab := { s1.fab with lldpClk := tput s1.fab.lldpClk port s1.clk } }).judgeEee port)

/-- LLDP_TIMEOUT: 120 s without an LLDPDU (R451). -/
def execLldpTimeout (port : Nat) (s : State) : Host.Outcome State Fault Refusal := s.powered fun s =>
  match tfind? s.fab.lldpClk port with
  | some c =>
    if s.clk < c + 120 * secClk then s
    else (({ s with fab := { s.fab with lldpClk := tdel s.fab.lldpClk port } }).judgeEee port)
  | none => s

/-! ### Operations (R466) -/

/-- The number a big-endian byte string spells. -/
def beNat (b : List Byte) : Nat := leNat b.reverse

/-- The frame a host wrote, without FCS: addresses, an optional C-tag, EtherType and payload. -/
def hostFrame (b : List Byte) : EthFrame :=
  let e := beNat ((b.drop 12).take 2)
  let t := beNat ((b.drop 14).take 2)
  if e = 0x8100 then
    ⟨beNat (b.take 6), beNat ((b.drop 6).take 6), some (t / 8192, t % 4096), beNat ((b.drop 16).take 2), b.drop 18,
      b.length + 4, true⟩
  else ⟨beNat (b.take 6), beNat ((b.drop 6).take 6), none, e, b.drop 14, b.length + 4, true⟩

/-- Whether an earlier FRAME_TX of the endpoint has not entered the fabric yet (R440). -/
def State.txWaits (s : State) (t e : Nat) : Bool :=
  s.openTags.any fun k =>
    let x := s.slot k
    x.st == .active && x.block == Blk.FAB && x.opcode == 1 && paramField x.param 0 1 == e
      && decide (x.ord < (s.slot t).ord) && !s.fab.tx.any (fun y => y.tag == k && y.ord == x.ord)

/-- FAB_FRAME_TX (R438, R440, R441, R460, R466): without room the frame waits for it until the timeout. One that asks for a
timestamp entry while none is free waits for those freed in its SYS cycle (R460). -/
def execFabFrameTx (tag : Nat) (data : List Byte) (s : State) : Host.Outcome State Fault Refusal := s.powered fun s =>
  match s.activeOp tag Blk.FAB 1 with
  | none => s
  | some x =>
    let e := paramField x.param 0 1
    let n := paramField x.param 16 2
    let base := paramField x.param 2 1
    let f := hostFrame (data.take n)
    if s.fab.tx.any (fun y => y.tag == tag && y.ord == x.ord) then s
    else if (e ≠ 3 ∧ e ≠ 4) ∨ n < 60 ∨ s.maxFrame - 4 < n ∨ (bitOf (paramField x.param 1 1) 0 ∧ 3 < base) then
      (s.decideOp tag St.FAIL_INVALID 0)
    else if s.txWaits tag e then s
    else if !s.flag (Reg.FAB_EPe_CFG e) 0 then (s.decideOp tag St.FAIL_DENIED 0)
    else if (mgmtFrom f.etype 0).isSome then
      (((s.satInc (Reg.FAB_EPe_DROP e) 0 32 1).lcpStray f).decideOp tag St.FAIL_DENIED 0)
    else
      let vid := match f.tag with
        | some (_, v) => if v = 0 then fixVid (s.fld (Reg.FAB_EPe_CFG e) 16 12) else v
        | none => fixVid (s.fld (Reg.FAB_EPe_CFG e) 16 12)
      let pcp := match f.tag with
        | some (q, _) => q
        | none => 0
      let cls := if e = 4 ∧ pcp = 7 ∧ f.tag.isSome ∧ s.flag (Reg.FAB_EPe_CFG 4) 3 then 7 else s.pcpClass pcp
      let ports := s.egressPorts (50 + e) vid f
      let s1 := s.copyToHosts (50 + e) (s.vlanMembers vid) (s.retag 50 vid pcp false f)
      if ports = [] then (if s1.out = s.out then s1.decideOp tag St.FAIL_DENIED 0 else s1.decideOp tag St.OK 1)
      else match s.room (50 + e) cls f.len with
        | none => s
        | some r =>
          let sp := ports.headD 0
          let ask := bitOf (paramField x.param 1 1) 0
          if ask ∧ (s.takeTs sp).isNone ∧ s.together then s.defer Rank.CLAIMED (.fabFrameTx tag data) else
          let (st, s2) := if ask then match s1.takeTs sp with
              | some a => (some (sp, base), a)
              | none => (none, s1.loseTs sp)
            else (none, s1)
          let s3 := { s2 with fab := { s2.fab with tx := s2.fab.tx ++ [TxOp.mk tag x.ord ports 0 0 st none] } }
          ((s3.forward (50 + e) vid pcp cls (cls == 7) r (some tag) none ports f).endTx tag)

/-- FRAME_RX posts a buffer (R466). -/
def execFrameRx (tag : Nat) (s : State) : Host.Outcome State Fault Refusal := s.powered fun s =>
  match s.activeOp tag Blk.FAB 2 with
  | none => s
  | some x =>
    let e := paramField x.param 0 1
    if (e ≠ 3 ∧ e ≠ 4) ∨ paramField x.param 16 2 < s.maxFrame + 16 then (s.decideOp tag St.FAIL_INVALID 0)
    else s

/-- FDB_ADD: a static entry; a bucket full of static entries refuses it, else the learned entry longest without a frame
makes room (R439, R466). -/
def execFdbAdd (tag : Nat) (s : State) : Host.Outcome State Fault Refusal := s.powered fun s =>
  match s.activeOp tag Blk.FAB 3 with
  | none => s
  | some x =>
    let mac := beNat (leBytes 6 (paramField x.param 0 6))
    let vid := paramField x.param 6 2
    let e : FdbEntry := ⟨true, paramField x.param 8 8 % 2 ^ 55, s.clk⟩
    let b := s.bucketOf vid mac
    if (s.fdbAt vid mac).isSome ∨ b.length < 4 then ((s.putFdb (fdbKey vid mac) (some e)).decideOp tag St.OK 0)
    else match b.filter (fun y => !y.2.static) with
      | [] => (s.decideOp tag St.FAIL_CONFLICT 0)
      | y :: l =>
        let old := l.foldl (fun m z => if z.2.clk < m.2.clk then z else m) y
        (((s.putFdb old.1 none).putFdb (fdbKey vid mac) (some e)).decideOp tag St.OK 0)

/-- FDB_DEL (R466). -/
def execFdbDel (tag : Nat) (s : State) : Host.Outcome State Fault Refusal := s.powered fun s =>
  match s.activeOp tag Blk.FAB 4 with
  | none => s
  | some x =>
    let mac := beNat (leBytes 6 (paramField x.param 0 6))
    let vid := paramField x.param 6 2
    match s.fdbAt vid mac with
    | some _ => ((s.putFdb (fdbKey vid mac) none).decideOp tag St.OK 0)
    | none => (s.decideOp tag St.FAIL_INVALID 0)

/-- FDB_FLUSH (R466). -/
def execFdbFlush (tag : Nat) (s : State) : Host.Outcome State Fault Refusal := s.powered fun s =>
  match s.activeOp tag Blk.FAB 5 with
  | none => s
  | some x =>
    let p := paramField x.param 0 1
    let all := bitOf (paramField x.param 1 1) 0
    let go := fun (e : Nat × FdbEntry) => (p == 0xFF || bitOf e.2.mask p) && (all || !e.2.static)
    let n := (s.fab.fdb.filter go).length
    ((({ s with fab := { s.fab with fdb := s.fab.fdb.filter (fun e => !go e) } }).noteFdb).decideOp tag St.OK
      (BitVec.ofNat 32 n))

/-- A MAC table entry's 16 bytes (R466). -/
def fdbBytes (e : Nat × FdbEntry) : List Byte :=
  beBytes 6 (e.1 % 2 ^ 48) ++ leBytes 2 (e.1 / 2 ^ 48 + if e.2.static then 2 ^ 15 else 0) ++ leBytes 8 e.2.mask

/-- FDB_READ (R466). -/
def execFdbRead (tag : Nat) (s : State) : Host.Outcome State Fault Refusal := s.powered fun s =>
  match s.activeOp tag Blk.FAB 6 with
  | none => s
  | some x =>
    let l := s.fab.fdb.take (paramField x.param 16 4)
    ((s.emit (.dma (paramField x.param 8 8) ((l.map fdbBytes).flatten))).decideOp tag St.OK (BitVec.ofNat 32 l.length))

/-! ### MDIO (R468) -/

/-- A write of FAB_MDIO_CMD starts a transaction; while BUSY it is ignored with FAIL_CONFLICT, OP 5 to 7 are refused. -/
def State.writeMdio (s : State) (v : Word) : State :=
  if s.flag Reg.FAB_MDIO_DATA 16 then s.reportErr Blk.FAB St.FAIL_CONFLICT (BitVec.ofNat 32 0x12C)
  else if 5 ≤ bitsOf v.toNat 10 3 then s.reportErr Blk.FAB St.FAIL_INVALID (BitVec.ofNat 32 0x12C)
  else ((s.setNum Reg.FAB_MDIO_CMD (v.toNat &&& 0xFFFF1FFF)).setFlag Reg.FAB_MDIO_DATA 16 true).emit (.mdio v.toNat)

/-- MDIO_DONE: BUSY clears, with the read data of a read (R468). -/
def execMdioDone (data : Nat) (s : State) : Host.Outcome State Fault Refusal := s.powered fun s =>
  if !s.flag Reg.FAB_MDIO_DATA 16 then s
  else
    let op := s.fld Reg.FAB_MDIO_CMD 10 3
    let s1 := s.setFlag Reg.FAB_MDIO_DATA 16 false
    (if op = 0 ∨ op = 4 then s1.setFld Reg.FAB_MDIO_DATA 0 16 data else s1)

end Sys2Proof.Machine
end

