-- ==== Sys2Proof/Machine/Flags.lean ====
section
/-! DEFINITION. The flag computations of the scan engine (R242, R256, R257). Every arithmetic instruction sets Z, N
and U from its result; V is set or cleared by it, and VS is set whenever V is. -/

namespace Sys2Proof.Machine

/-- All flags 0: FR at a task start (R241). -/
def Fr.zero : Fr := ⟨false, false, false, false, false, false, false⟩

/-- Load CB. -/
def Fr.setCb (f : Fr) (b : Bool) : Fr := { f with cb := b }

/-- V, with VS sticky, and Z, N, U of a result (R256). -/
def Fr.arith (f : Fr) (v z n u : Bool) : Fr := { f with v := v, vs := f.vs || v, z := z, n := n, u := u }

/-- The flags of an integer result (R256). -/
def Fr.ofInt (f : Fr) (v : Bool) (r : Int) : Fr := f.arith v (decide (r = 0)) (decide (r < 0)) false

/-- Whether a REAL32 word is zero, of either sign; a subnormal reads as zero (R256). -/
def realIsZero (w : Word) : Bool :=
  match realVal w with
  | .fin _ m _ => m == 0
  | _ => false

/-- Whether a REAL32 word is negative: below zero, so neither zero nor NaN. -/
def realIsNeg (w : Word) : Bool :=
  match realVal w with
  | .nan => false
  | .inf s => s
  | .fin s m _ => s && m != 0

/-- Whether a REAL32 word is an infinity. -/
def realIsInf (w : Word) : Bool :=
  match realVal w with
  | .inf _ => true
  | _ => false

/-- The flags of a REAL32 result from its operands: V when finite operands give an infinity or operands that are not
NaN give a NaN (R256). -/
def Fr.ofReal (f : Fr) (ops : List Word) (r : Word) : Fr :=
  f.arith ((ops.all realIsFin && realIsInf r) || (ops.all (fun o => !realIsNaN o) && realIsNaN r))
    (realIsZero r) (realIsNeg r) (realIsNaN r)

/-- The flags of an integer compare (R257). -/
def Fr.cmpInt (f : Fr) (a b : Int) : Fr :=
  { f with z := decide (a = b), n := decide (a < b), u := false }

/-- The six conditions of an integer compare (R253). -/
def condInt (c : Nat) (a b : Int) : Bool :=
  match c with
  | 0 => decide (a = b)
  | 1 => decide (a ≠ b)
  | 2 => decide (b < a)
  | 3 => decide (a < b)
  | 4 => decide (b ≤ a)
  | 5 => decide (a ≤ b)
  | _ => false

/-- The flags of a REAL32 compare; a NaN operand sets U alone (R257). -/
def Fr.cmpReal (f : Fr) (a b : Word) : Fr :=
  match realCmp a b with
  | none => { f with z := false, n := false, u := true }
  | some o => { f with z := o == .eq, n := o == .lt, u := false }

/-- The six conditions of a REAL32 compare; with a NaN operand only NE holds (R257). -/
def condReal (c : Nat) (a b : Word) : Bool :=
  match realCmp a b with
  | none => c == 1
  | some o =>
    match c with
    | 0 => o == .eq
    | 1 => o != .eq
    | 2 => o == .gt
    | 3 => o == .lt
    | 4 => o != .lt
    | 5 => o != .gt
    | _ => false

end Sys2Proof.Machine
end

