-- ==== Sys2Proof/Machine/Operands.lean ====
section
/-! DEFINITION. Operands of the scan engine: the opcode table's formats and profiles (R253, R254), the eight operand
spaces with their limits, effective addresses and access rules (R245 to R252), and the accesses themselves. An access
answers a fault code of R269 or its result. -/

namespace Sys2Proof.Machine

/-! Fault codes (R269). -/
namespace ScnFault
abbrev OPCODE : Nat := 0x01
abbrev PROFILE : Nat := 0x02
abbrev ADDRESS : Nat := 0x03
abbrev ALIGN : Nat := 0x04
abbrev READONLY : Nat := 0x05
abbrev NEST : Nat := 0x06
abbrev CALL_OVF : Nat := 0x07
abbrev LSTACK_OVF : Nat := 0x08
abbrev TYPE : Nat := 0x09
abbrev RECORD : Nat := 0x0A
end ScnFault

/-! Operand spaces (R245). -/
namespace Sp
abbrev I : Nat := 0
abbrev Q : Nat := 1
abbrev M : Nat := 2
abbrev P : Nat := 3
abbrev L : Nat := 4
abbrev D : Nat := 5
abbrev K : Nat := 6
abbrev S : Nat := 7
end Sp

/-- The instruction formats (R253). -/
inductive Fmt where
  | m
  | b
  | n
  | i
  | j
  | c
deriving DecidableEq, Repr

/-- The format of an assigned opcode (R254); `none` for an opcode missing from the table (R255). -/
def opFmt (op : Nat) : Option Fmt :=
  if op ≤ 0x01 then some .n
  else if 0x10 ≤ op ∧ op ≤ 0x17 then some .b
  else if op = 0x18 ∨ op = 0x19 then some .m
  else if 0x1A ≤ op ∧ op ≤ 0x1C then some .b
  else if 0x20 ≤ op ∧ op ≤ 0x28 then some .n
  else if 0x30 ≤ op ∧ op ≤ 0x3C then some .m
  else if op = 0x3D ∨ op = 0x3E then some .b
  else if 0x40 ≤ op ∧ op ≤ 0x42 then some .i
  else if op = 0x43 ∨ op = 0x44 then some .m
  else if op = 0x45 ∨ op = 0x46 then some .n
  else if 0x50 ≤ op ∧ op ≤ 0x56 then some .n
  else if 0x58 ≤ op ∧ op ≤ 0x5E then some .n
  else if 0x60 ≤ op ∧ op ≤ 0x68 then some .n
  else if 0x6A ≤ op ∧ op ≤ 0x6D then some .n
  else if 0x70 ≤ op ∧ op ≤ 0x73 then some .c
  else if 0x78 ≤ op ∧ op ≤ 0x7F then some .n
  else if 0x80 ≤ op ∧ op ≤ 0x83 then some .c
  else if 0x90 ≤ op ∧ op ≤ 0x94 then some .j
  else if op = 0xA0 then some .m
  else if op = 0xA1 ∨ op = 0xA2 then some .j
  else if op = 0xA3 ∨ op = 0xA4 then some .n
  else if 0xB0 ≤ op ∧ op ≤ 0xB7 then some .m
  else if op = 0xC0 ∨ op = 0xC1 ∨ op = 0xC3 ∨ op = 0xC4 then some .n
  else if op = 0xC2 ∨ op = 0xC5 then some .m
  else none

/-- The instructions marked F in the opcode table (R240, R254). -/
def opProfF (op : Nat) : Bool :=
  [0x33, 0x37, 0x39, 0x3A, 0x3B, 0x3C, 0x3D, 0x3E, 0x64, 0x65, 0x66, 0x67, 0x68, 0x7C, 0x7D, 0x82, 0x83,
    0xA0, 0xA1, 0xA2, 0xA3, 0xA4].contains op

/-! ### Fields of an instruction word (R253) -/

def wOp (w : Word) : Nat := bitsOf w.toNat 24 8
def wSpace (w : Word) : Nat := bitsOf w.toNat 21 3
def wX (w : Word) : Bool := bitOf w.toNat 20
def wOff (w : Word) : Nat := bitsOf w.toNat 0 20
def wImm (w : Word) : Nat := bitsOf w.toNat 0 24
def wCount (w : Word) : Nat := bitsOf w.toNat 0 6

/-! ### Banks, tasks and runs -/

/-- Put a bank's content. -/
def State.setBank (s : State) (b : Bool) (k : Option Bank) : State :=
  { s with scn := if b then { s.scn with bankB := k } else { s.scn with bankA := k } }

/-- The run on a lane. -/
def State.runOn (s : State) (lane : Nat) : Option Run := tfind? s.scn.lanes lane

/-- Put a run on its lane. -/
def State.putRun (s : State) (r : Run) : State := { s with scn := { s.scn with lanes := tput s.scn.lanes r.lane r } }

/-- The entry of a run's task in its bank. -/
def State.runEntry (s : State) (r : Run) : Option TaskEntry := (s.bank r.bankB).task r.task

/-- The tenant context of a run's task (R272). -/
def State.runCtx (s : State) (r : Run) : Nat := ((s.runEntry r).map (·.ctx)).getD 0

/-- A value as the accumulators hold it: 64 bits in Profile F, 32 bits in Profile S. -/
def accVal (f : Bool) (v : Dword) : Dword := if f then v else (v.setWidth 32).setWidth 64

/-! ### Byte stores -/

/-- A byte of instance or task data: what was stored, else DATA_INIT (R271). -/
def Bank.dataByte (k : Bank) (a : Nat) : Byte := tget (fun i => k.dataInit.getD i 0) k.data a

/-- A byte of M: what was stored, else MINIT (R271). -/
def Bank.memByte (k : Bank) (a : Nat) : Byte := tget (fun i => k.mInit.getD i 0) k.mem a

/-- Store a byte of instance or task data. -/
def Bank.setData (k : Bank) (a : Nat) (v : Byte) : Bank :=
  { k with data := tset (fun i => k.dataInit.getD i 0) k.data a v }

/-- Store a byte of M. -/
def Bank.setMem (k : Bank) (a : Nat) (v : Byte) : Bank :=
  { k with mem := tset (fun i => k.mInit.getD i 0) k.mem a v }

/-- `n` little-endian bytes from a byte function. -/
def readLe (f : Nat → Byte) (a n : Nat) : Nat := leNat ((List.range n).map (fun i => f (a + i)))

/-- Store the bytes of `v` from `a` upward by a byte store. -/
def writeLe {α : Type} (put : α → Nat → Byte → α) (x : α) (a : Nat) (v : List Byte) : α :=
  match v with
  | [] => x
  | b :: r => writeLe put (put x a b) (a + 1) r

/-- A word of instance or task data. -/
def Bank.dataWord (k : Bank) (a : Nat) : Nat := readLe k.dataByte a 4

/-- The size an instance's header at `base` states (R261). -/
def Bank.instSize (k : Bank) (base : Nat) : Nat := k.dataWord (base + 8)

/-! ### The system space (R251) -/

/-- A word of S for a run. -/
def State.sWord (s : State) (r : Run) (off : Nat) : Nat :=
  match off with
  | 0x000 => r.latch.ch
  | 0x004 => r.latch.ch / 2 ^ 32
  | 0x008 => s.chain
  | 0x00C => (tget (fun _ => 0#32) s.scn.nowHi r.lane).toNat
  | 0x010 => r.task + r.lane * 256
  | 0x014 => s.num (Reg.SCN_TnRUNS r.task)
  | 0x018 => r.flags.toNat
  | 0x01C => r.lastExec.toNat
  | 0x020 => r.latch.latState.toNat
  | 0x024 => r.latch.lineMhz.toNat
  | 0x028 => r.tbSec.toNat
  | 0x02C => r.tbNs.toNat
  | 0x030 => s.sup.moduleNum % 64 + s.sup.roleStrap % 4 * 256
  | 0x034 => if r.bankB then 1 else 0
  | 0x038 => (s.bank r.bankB).id
  | 0x03C => s.runCtx r
  | 0x040 => r.denied
  | 0x100 => s.num (Reg.SCN_TnUSER r.task)
  | _ => 0

/-- A byte of S. -/
def State.sByte (s : State) (r : Run) (a : Nat) : Byte :=
  BitVec.ofNat 8 (bitsOf (s.sWord r (a / 4 * 4)) (8 * (a % 4)) 8)

/-- A read that covers NOW_LO latches NOW_HI for the lane (R251). -/
def State.latchNow (s : State) (r : Run) (a n : Nat) : State :=
  if a < 0x00C ∧ 0x008 < a + n then
    { s with scn := { s.scn with nowHi := tset (fun _ => 0#32) s.scn.nowHi r.lane (BitVec.ofNat 32 (s.chain / 2 ^ 32)) } }
  else s

/-! ### Spaces other than P (R245, R246) -/

/-- A space's limit in bytes for a run (R245, R246). -/
def State.spaceLimit (s : State) (r : Run) (sp : Nat) : Nat :=
  let k := s.bank r.bankB
  match sp with
  | 0 => ((s.runEntry r).map (·.iSize)).getD 0
  | 1 => ((s.runEntry r).map (·.qSize)).getD 0
  | 2 => k.mSize
  | 4 => r.fsz
  | 5 => k.instSize r.ib
  | 6 => k.konst.length
  | 7 => 4096
  | _ => 0

/-- A byte of a space other than P. -/
def State.spaceByte (s : State) (r : Run) (sp a : Nat) : Byte :=
  match sp with
  | 0 => tget (fun _ => 0#8) (s.taskRt r.task).i a
  | 1 => tget (fun _ => 0#8) (s.taskRt r.task).q a
  | 2 => (s.bank r.bankB).memByte a
  | 4 => tget (fun _ => 0#8) (s.taskRt r.task).l (r.lb + a)
  | 5 => (s.bank r.bankB).dataByte (r.ib + a)
  | 6 => (s.bank r.bankB).konst.getD a 0
  | 7 => s.sByte r a
  | _ => 0

/-- Store the bits of `mask` of a marker byte: of two lanes' stores of one SYS cycle the higher lane's is left (R249). -/
def State.putMarker (s : State) (r : Run) (a mask : Nat) (v : Byte) : State :=
  let k := s.bank r.bankB
  let above := s.scn.marks.filter (fun n => n.clk == s.clk && n.bankB == r.bankB && n.addr == a && decide (r.lane < n.lane))
  let take := (List.range 8).filter (fun i => bitOf mask i && !above.any (fun n => bitOf n.mask i))
  let b := take.foldl (fun b i => putBits b i 1 (bitsOf v.toNat i 1)) (k.memByte a).toNat
  let s1 := s.setBank r.bankB (some (k.setMem a (BitVec.ofNat 8 b)))
  { s1 with scn := { s1.scn with marks := ⟨s.clk, r.bankB, a, r.lane, mask⟩ :: s1.scn.marks.filter (fun n => n.clk == s.clk) } }

/-- Store a byte, or the bits of `mask`, of a space other than P; K and S outside USER take none. -/
def State.putSpaceByte (s : State) (r : Run) (sp a mask : Nat) (v : Byte) : State :=
  let x := s.taskRt r.task
  let k := s.bank r.bankB
  match sp with
  | 0 => s.setTaskRt r.task { x with i := tset (fun _ => 0#8) x.i a v }
  | 1 => s.setTaskRt r.task { x with q := tset (fun _ => 0#8) x.q a v }
  | 2 => s.putMarker r a mask v
  | 4 => s.setTaskRt r.task { x with l := tset (fun _ => 0#8) x.l (r.lb + a) v }
  | 5 => s.setBank r.bankB (some (k.setData (r.ib + a) v))
  | 7 => if 0x100 ≤ a ∧ a < 0x104 then s.setFld (Reg.SCN_TnUSER r.task) (8 * (a - 0x100)) 8 v.toNat else s
  | _ => s

/-- OFFSET, plus XR when X = 1 (R246). -/
def Run.effAddr (r : Run) (w : Word) : Nat := wOff w + (if wX w then r.xr.toNat else 0)

/-- The checks of an access of `n` bytes at `a` of a space other than P (R246): the limit, the alignment, and for a
store the read-only parts. -/
def State.checkAccess (s : State) (r : Run) (sp a n : Nat) (store : Bool) : Option Nat :=
  if sp = Sp.P ∨ s.spaceLimit r sp < a + n then some ScnFault.ADDRESS
  else if a % n ≠ 0 then some ScnFault.ALIGN
  else if store ∧ (sp = Sp.K ∨ (sp = Sp.D ∧ a < 16) ∨ (sp = Sp.S ∧ !(decide (0x100 ≤ a) && decide (a + n ≤ 0x104)))) then
    some ScnFault.READONLY
  else none

/-- Mark the Q entries a store of `n` bytes at `a` touches, or of one bit when `bit` is given (R250), with the run's
epoch. -/
def State.touchQ (s : State) (r : Run) (a n : Nat) (bit : Option Nat) : Run :=
  let io := ((s.runEntry r).map (·.io)).getD []
  let hit := fun (e : IoEntry) =>
    let len := if e.width = 0 then 1 else if e.width = 2 then 4 else 8
    e.isQ && decide (e.off < a + n) && decide (a < e.off + len) &&
      (match bit with
       | some b => e.width != 0 || e.bit == b
       | none => true)
  let idx := (List.range io.length).filter (fun i => match io[i]? with
    | some e => hit e
    | none => false)
  { r with touched := idx.foldl (fun t i => tput t i r.epoch) r.touched }

/-! ### The point space (R246, R248) -/

/-- The point index and PART of a P operand, or a fault; a bit operand has PART 0 (R246, R248). -/
def Run.pointOf (r : Run) (w : Word) (bit : Bool) : Except Nat (Nat × Nat) :=
  let idx := bitsOf w.toNat 0 16 + (if wX w then r.xr.toNat else 0)
  let part := if bit then 0 else bitsOf w.toNat 16 4
  if 0xFFFF < idx ∨ 4 < part then .error ScnFault.ADDRESS else .ok (idx, part)

/-- The stored bits of a part of a point (R248). -/
def Point.part (p : Point) (part : Nat) : Nat :=
  match part with
  | 0 => p.value.toNat
  | 1 => p.quality
  | 2 => p.type
  | 3 => p.ctx
  | _ => p.stamp.toNat

/-- A refused P access clears EN and counts in the run's DENIED_CNT (R248). -/
def Run.deny (r : Run) : Run := { r with fr := { r.fr with en := false }, denied := r.denied + 1 }

/-- A P read: what the point holds, or 0 (FFh for QUALITY) when TEN refuses it to the task's context, which R551 counts
as well (R248). -/
def State.readPart (s : State) (r : Run) (idx part : Nat) : Nat × Run × State :=
  let c := s.runCtx r
  if s.blockMay c idx 0 then ((s.pointFor Blk.SCN idx).part part, r, s)
  else (if part = 1 then 0xFF else 0, r.deny, s.countDenied c)

/-- The station a local point's writes go to: the module behind an output proxy of a hosted unit, a remote output point
of the image, a luminaire's command point or a group's (R211, R248, R280, R417). -/
def State.outStation (s : State) (i : Nat) : Option Station :=
  match tfind? s.hlk.proxyOut i with
  | some g => some (.module (g / 65536))
  | none => match s.scn.outs.find? (fun o => o.gid == s.sup.moduleNum * 65536 + i) with
  | some o => some o.station
  | none =>
    let pb := s.fld Reg.LCP_PT_BASE 0 16
    let gb := s.fld Reg.LCP_GRP_BASE 0 16
    if !s.lcpPoint i then none
    else if pb ≠ 0xFFFF ∧ pb ≤ i ∧ i < pb + 6144 then some (.lum ((i - pb) / 8))
    else some (.lum (768 + (i - gb) / 4))

/-- The global point ID that a write of a local point targets (R417). -/
def State.outTarget (s : State) (i : Nat) : Nat := (tfind? s.hlk.proxyOut i).getD (s.sup.moduleNum * 65536 + i)

/-- Add a remote write of a run to the list, in program order (R248, R280). -/
def State.issueRemote (s : State) (r : Run) (st : Station) (target type : Nat) (v : Dword) (epoch : Nat)
    (tag : Option Nat) : State :=
  let wr : RemoteWrite := ⟨s.scn.nextWrite, r.task, s.num (Reg.SCN_TnRUNS r.task), epoch, st, target, type, v, tag,
    .inRun, s.chain⟩
  { s with scn := { s.scn with remote := s.scn.remote ++ [wr], nextWrite := s.scn.nextWrite + 1 } }

/-- Note that SCN wrote a point (R299). -/
def State.noteWritten (s : State) (i : Nat) : State :=
  if s.scn.written.contains i then s else { s with scn := { s.scn with written := s.scn.written ++ [i] } }

/-- A value stored by its producer with quality GOOD: at once in the table; a point of a remote station also as an
untracked write of the present epoch (R248). -/
def State.storeValue (s : State) (r : Run) (i : Nat) (v : Dword) : State :=
  match s.outStation i with
  | none => (s.writePoint Blk.SCN i v Q.GOOD).noteWritten i
  | some st =>
    let s1 := if (s.overrideOf i).isSome then s else s.storePoint Blk.SCN i v Q.GOOD
    (s1.issueRemote r st (s.outTarget i) (s.point i).type (normValue (s.point i).type v) r.epoch none).noteWritten i

/-- Whether a store of `n` bytes (0 for a bit) fits a part and the point's type (R248). -/
def storeFits (part n type : Nat) : Bool :=
  match part with
  | 0 => (n == 0 && type == PtType.BOOL) || (n == 4 && decide (1 ≤ type) && decide (type ≤ 4))
           || (n == 8 && decide (5 ≤ type) && decide (type ≤ 6))
  | 1 => n == 1
  | _ => false

/-- A P store (R248): only by the point's producer, in a width that fits, where TEN allows it. What is not allowed
leaves the point, clears EN and counts. -/
def State.storePart (s : State) (r : Run) (idx part n : Nat) (v : Dword) : Run × State :=
  let p := s.point idx
  let c := s.runCtx r
  if p.producer ≠ .task r.task ∨ !storeFits part n p.type ∨ (part = 1 ∧ !(List.contains [0, 2, 3] (v.toNat % 256))) then
    (r.deny, s)
  else if !s.blockMay c idx 1 then (r.deny, s.countDenied c)
  else if part = 1 then (r, (s.setQuality Blk.SCN idx (v.toNat % 256)).noteWritten idx)
  else (r, s.storeValue r idx (if n = 4 then accVal false v else v))

/-! ### Loads and stores of an operand -/

/-- The answer of an instruction: the run and the state after it, or a fault code (R269). -/
abbrev ScnRes := Except Nat (Run × State)

/-- Load `n` bytes of an M-format operand: the raw bits with the run and state after the access (R246, R248). -/
def State.loadOp (s : State) (r : Run) (w : Word) (n : Nat) : Except Nat (Nat × Run × State) :=
  let sp := wSpace w
  if sp = Sp.P then
    match r.pointOf w false with
    | .error e => .error e
    | .ok (idx, part) =>
      let (v, r1, s1) := s.readPart r idx part
      .ok (v % 256 ^ n, r1, s1)
  else
    let a := r.effAddr w
    match s.checkAccess r sp a n false with
    | some e => .error e
    | none =>
      let v := readLe (s.spaceByte r sp) a n
      .ok (v, r, if sp = Sp.S then s.latchNow r a n else s)

/-- Store `n` bytes to an M-format operand (R246, R248, R250). -/
def State.storeOp (s : State) (r : Run) (w : Word) (n : Nat) (v : Dword) : ScnRes :=
  let sp := wSpace w
  if sp = Sp.P then
    match r.pointOf w false with
    | .error e => .error e
    | .ok (idx, part) => .ok (s.storePart r idx part n v)
  else
    let a := r.effAddr w
    match s.checkAccess r sp a n true with
    | some e => .error e
    | none =>
      let s1 := writeLe (fun x i b => x.putSpaceByte r sp i 255 b) s a (leBytes n v.toNat)
      .ok (if sp = Sp.Q then s.touchQ r a n none else r, s1)

/-- Load a B-format operand (R246, R248). -/
def State.loadBit (s : State) (r : Run) (w : Word) : Except Nat (Bool × Run × State) :=
  let sp := wSpace w
  if sp = Sp.P then
    match r.pointOf w true with
    | .error e => .error e
    | .ok (idx, _) =>
      let (v, r1, s1) := s.readPart r idx 0
      .ok (v != 0, r1, s1)
  else
    let ba := r.effAddr w
    match s.checkAccess r sp (ba / 8) 1 false with
    | some e => .error e
    | none => .ok (bitOf (s.spaceByte r sp (ba / 8)).toNat (ba % 8), r, if sp = Sp.S then s.latchNow r (ba / 8) 1 else s)

/-- A byte with one bit set to a value. -/
def setBitOf (b : Byte) (i : Nat) (v : Bool) : Byte := BitVec.ofNat 8 (putBits b.toNat i 1 (if v then 1 else 0))

/-- Store a B-format operand, when `act` (R243, R248, R249); the address is checked either way. -/
def State.storeBit (s : State) (r : Run) (w : Word) (act v : Bool) : ScnRes :=
  let sp := wSpace w
  if sp = Sp.P then
    match r.pointOf w true with
    | .error e => .error e
    | .ok (idx, _) => if act then .ok (s.storePart r idx 0 0 (if v then 1 else 0)) else .ok (r, s)
  else
    let ba := r.effAddr w
    match s.checkAccess r sp (ba / 8) 1 true with
    | some e => .error e
    | none =>
      if act then
        .ok (if sp = Sp.Q then s.touchQ r (ba / 8) 1 (some (ba % 8)) else r,
             s.putSpaceByte r sp (ba / 8) (2 ^ (ba % 8)) (setBitOf (s.spaceByte r sp (ba / 8)) (ba % 8) v))
      else .ok (r, s)

/-! ### The target instance (R254, R262) -/

/-- The checks of an access of `n` bytes at TIR + `a` (R246, R254): SPACE 5, the target instance's size, alignment, its
header. -/
def State.checkTarget (s : State) (r : Run) (w : Word) (a n : Nat) (store : Bool) : Option Nat :=
  let k := s.bank r.bankB
  if wSpace w ≠ Sp.D ∨ k.instSize r.tir < a + n ∨ k.dataSize < r.tir + a + n then some ScnFault.ADDRESS
  else if a % n ≠ 0 then some ScnFault.ALIGN
  else if store ∧ a < 16 then some ScnFault.READONLY
  else none

/-- Load `n` bytes at TIR + OFFSET. -/
def State.loadTarget (s : State) (r : Run) (w : Word) (n : Nat) : Except Nat Nat :=
  match s.checkTarget r w (r.effAddr w) n false with
  | some e => .error e
  | none => .ok (readLe (s.bank r.bankB).dataByte (r.tir + r.effAddr w) n)

/-- Store `n` bytes at TIR + OFFSET. -/
def State.storeTarget (s : State) (r : Run) (w : Word) (n : Nat) (v : Dword) : ScnRes :=
  match s.checkTarget r w (r.effAddr w) n true with
  | some e => .error e
  | none =>
    .ok (r, s.setBank r.bankB (some (writeLe Bank.setData (s.bank r.bankB) (r.tir + r.effAddr w) (leBytes n v.toNat))))

/-! ### Accumulators (R239, R254) -/

/-- Whether the run's image is of Profile F. -/
def State.runF (s : State) (r : Run) : Bool := (s.bank r.bankB).profF

/-- Push a load: A2 ← A1, A1 ← v (R254). -/
def Run.push (r : Run) (f : Bool) (v : Dword) : Run := { r with a2 := r.a1, a1 := accVal f v }

/-- Set A1. -/
def Run.setA1 (r : Run) (f : Bool) (v : Dword) : Run := { r with a1 := accVal f v }

/-- The low word of an accumulator. -/
def lowWord (v : Dword) : Word := v.setWidth 32

/-- A number of `w` bits sign-extended to an accumulator. -/
def sext (w x : Nat) : Dword := BitVec.ofInt 64 (signed w x)

end Sys2Proof.Machine
end

