-- ==== Sys2Proof/Machine/SupCore.lean ====
section
/-! DEFINITION. What other blocks need of SUP: the start counter's bytes, and the end of a life that a block causes
(R568, R576, R578). -/

namespace Sys2Proof.Machine

/-- Whether the start is confirmed (R575). -/
def State.confirmed (s : State) : Bool := s.flag Reg.SUP_START_STAT 24

/-- One bit of a CRC-8 with polynomial 07h (R578). -/
def crc8Bit (x : Nat) : Nat := if 128 ≤ x then Nat.xor (2 * x % 256) 7 else 2 * x

/-- CRC-8 of a byte string, polynomial 07h, initial value 00h (R578). -/
def crc8 (b : List Byte) : Nat :=
  b.foldl (fun c x => crc8Bit (crc8Bit (crc8Bit (crc8Bit (crc8Bit (crc8Bit (crc8Bit (crc8Bit (Nat.xor c x.toNat))))))))) 0

/-- Bytes 0 to 7 of backup RAM (R578); all 0 once the backup domain has lost them (R529). -/
def State.counterBytes (s : State) : List Byte :=
  let n := s.sup.nv
  if n.bkpBad then leBytes 8 0
  else
    let b := leBytes 1 n.count ++ leBytes 1 n.reason ++ leBytes 1 n.minReason
      ++ leBytes 1 ((if n.previousReq then 1 else 0) + (if n.minimalReq then 2 else 0) + (if n.lastConfirmed then 4 else 0))
      ++ leBytes 2 n.startNum ++ leBytes 1 0
    b ++ leBytes 1 (crc8 b)

/-- Change what SUP keeps in MRAM. -/
def State.setNv (s : State) (n : StartMem) : State := { s with sup := { s.sup with nv := n } }

/-- Change the record of the present life, the newest of the start records (R580). -/
def State.setRecord (s : State) (f : StartRec → StartRec) : State :=
  s.setNv { s.sup.nv with records := match s.sup.nv.records with
    | r :: l => f r :: l
    | [] => [] }

/-- Whether this life has begun: step 4 of R571 has given it its start number. -/
def State.lifeBegun (s : State) : Bool := s.mode != Mode.STARTING || decide (5 ≤ s.fld Reg.SUP_MODE 4 4)

/-- The registers that show the start counter follow it (R587). -/
def State.noteCount (s : State) : State :=
  let n := s.sup.nv
  (s.setFld Reg.SUP_START_STAT 0 8 n.count).setFld Reg.SUP_START_STAT 8 8 n.reason

/-- A life ends: the PFAIL record is written, the module is held in reset and its commit is due (R567 step 1, R568). A
start that ends before step 4 has no life record: the one before it stands as it is. A life that has ended stays
ended. -/
def State.endLife (s : State) (code : Nat) : State :=
  if s.sup.inReset then s
  else
    let cut := if code = 1 ∨ code = 2 then some s.clk else s.sup.nv.pfailClk
    let s0 := { s with sup := { s.sup with inReset := true, pfail := true, commitDue := s.lifeBegun } }
    if !s.lifeBegun then s0.setNv { s.sup.nv with pfailClk := cut }
    else
      let ns := (s.tbs.getD 0 ⟨0, 0⟩).time / (2 ^ 32 * 1000000)
      let n := { s.sup.nv with
        endCode := code, lastConfirmed := s.confirmed, pfailSec := ns / 1000000000, pfailNs := ns % 1000000000
        pfailRtc := calSeconds s.rtc.cal, formatted := false, closed := false, pfailClk := cut
        pfailCh := if s.fld Reg.LAT_STATE 0 3 = 0 then s.sup.nv.pfailCh else s.chain }
      (s0.setNv n).setRecord (fun r => { r with endCode := code, count := n.count })

/-- COUNT grows, saturating at FFh, with its reason (R576, R578); the record of the life names it. -/
def State.countStart (s : State) (reason : Nat) (detail detail2 : Word) : State :=
  let n := s.sup.nv
  let c := Nat.min 255 (n.count + 1)
  let s1 := s.setNv { n with count := c, reason := reason, minReason := if c = 3 then reason else n.minReason }
  (if s.lifeBegun then s1.setRecord (fun r => { r with reason := reason, count := c, detail := detail, detail2 := detail2 })
   else s1).noteCount

/-- A start ends unconfirmed: the start counter grows and the module restarts with end code 5 (R568, R576). -/
def State.unconfirmedRestart (s : State) (reason : Nat) (detail detail2 : Word) : State :=
  if s.sup.inReset then s else (s.countStart reason detail detail2).endLife 5

end Sys2Proof.Machine
end

