-- ==== Sys2Proof/Machine/ScnCore.lean ====
section
/-! DEFINITION. What SCN does around the instructions: task starts and states, the beginning and the end of a run, the
output phase and remote writes, faults and their actions (chapter 09; R265 to R269). -/

namespace Sys2Proof.Machine

/-! Stop reasons (R303). -/
namespace Stop
abbrev FAULT : Nat := 1
abbrev OVERRUN : Nat := 2
abbrev HOST : Nat := 3
end Stop

/-- Move a task to a state. -/
def State.setTaskSt (s : State) (t st : Nat) : State := s.setFld (Reg.SCN_TnSTAT t) 0 3 st

/-- SCN_TnCTL.HOST_EN (R302). -/
def State.hostEn (s : State) (t : Nat) : Bool := s.flag (Reg.SCN_TnCTL t) 0

/-- SCN_TnCTL.FAULT_ACTION, 3 read as 0 (R302). -/
def State.faultAction (s : State) (t : Nat) : Nat :=
  let a := s.fld (Reg.SCN_TnCTL t) 1 2
  if a = 3 then 0 else a

/-- The bank in which a start at a chainage runs: the prepared one from X on (R293). -/
def State.bankAt (s : State) (ch : Nat) : Bool :=
  match s.scn.xch with
  | some x => if x.begun || decide (x.x ≤ ch) then !s.activeB else s.activeB
  | none => s.activeB

/-! ### Starts (R275 to R278) -/

/-- Latch a task's inputs at a start chainage (R13, R14, R278 step 1): the mapped points' values and qualities. -/
def State.takeLatch (s : State) (t ch : Nat) : StartLatch :=
  let io := ((((s.bank (s.bankAt ch)).task t).map (·.io)).getD []).filter (fun e => !e.isQ)
  ⟨ch, s.clk, io.map (fun e => (e.point, (s.pointFor Blk.SCN e.point).value, (s.pointFor Blk.SCN e.point).quality)),
    BitVec.ofNat 32 s.latWord, s.reg Reg.LAT_FREQ⟩

/-- A start is taken: the task is READY with its latch and no skipped start stands in a row (R278, R291). -/
def State.readyTask (s : State) (t : Nat) (l : StartLatch) : State :=
  let s1 := s.setTaskRt t { s.taskRt t with ready := some l, lastStart := some l.ch }
  (s1.setTaskSt t TaskSt.READY).setFld (Reg.SCN_TnSTAT t) 16 16 0

/-- Forget the clean marks of every task (R290). -/
def State.clearRan (s : State) : State :=
  s.forN 16 fun a t => if (a.taskRt t).ran then a.setTaskRt t { a.taskRt t with ran := false } else a

/-- A skipped start is counted and sets OVERRUN; SKIP_LIMIT in a row stop the task at the end of its run (R276, R286,
R288, R290). -/
def State.skipStart (s : State) (t : Nat) : State :=
  let s1 := (s.satInc (Reg.SCN_TnSKIP_CNT t) 0 32 1).satInc (Reg.SCN_TnSTAT t) 16 16 1
  let lim := s1.fld Reg.SCN_CFG 0 8
  let ovr := decide (lim ≠ 0) && decide (lim ≤ s1.fld (Reg.SCN_TnSTAT t) 16 16)
  let x := s1.taskRt t
  let s2 := s1.setTaskRt t { x with skipped := Nat.min 255 (x.skipped + 1), ovr := x.ovr || ovr }
  ((s2.setNum Reg.SCN_CLEAN_CNT 0).clearRan).raiseIrq Blk.SCN 2

/-- Whether the spacing PERIOD since an event task's previous start has passed (R276). -/
def State.spaced (s : State) (t : Nat) : Bool :=
  match (s.taskRt t).lastStart, s.taskEntry t with
  | some c, some e => decide (c + e.period ≤ s.chain)
  | _, _ => true

/-- Whether runs may begin: run mode, SCN enabled and not in soft reset (R298, R299, R37). -/
def State.scnOpen (s : State) : Bool :=
  s.mode == Mode.RUN && s.en Blk.SCN && !s.inSrst Blk.SCN && !s.sup.pfail

/-- A held event start begins where its task waits and the spacing has passed (R276). -/
def State.releaseHeld (s : State) (t : Nat) : State :=
  match (s.taskRt t).held with
  | some l =>
    if s.taskSt t = TaskSt.WAITING ∧ s.spaced t ∧ s.scnOpen ∧ !(s.taskRt t).hold then
      let s1 := (s.setTaskRt t { s.taskRt t with held := none }).setFlag (Reg.SCN_TnSTAT t) 10 false
      (s1.readyTask t l).armNext t
    else s
  | none => s

/-- A request for a start of an event task, from a TASK_START stake or TASK_TRIGGER: its status (R276). A held start that is
due in the same SYS cycle begins first. -/
def State.eventStart (s : State) (t : Nat) : Nat × State :=
  match s.taskEntry t with
  | none => (St.FAIL_DENIED, s)
  | some e =>
    if !e.event ∨ s.taskSt t = TaskSt.OFF ∨ s.taskSt t = TaskSt.STOPPED ∨ !s.hostEn t ∨ !s.scnOpen then
      (St.FAIL_DENIED, s)
    else
      let s0 := s.releaseHeld t
      if (s0.taskRt t).held.isSome then (St.FAIL_CONFLICT, s0.skipStart t)
      else
        let s1 := (s0.setTaskRt t { s0.taskRt t with held := some (s0.takeLatch t s0.chain) }).setFlag (Reg.SCN_TnSTAT t) 10 true
        (St.OK, (s1.armNext t).releaseHeld t)

/-! ### Beginning a run (R241, R250, R251, R265, R277, R278) -/

/-- The data block of a task in Profile S: the root blocks of the instance table stand in the order of the task
entries. -/
def Bank.taskBlock (k : Bank) (t : Nat) : Nat :=
  let i := ((List.range k.tasks.length).find? (fun j => (k.tasks[j]?.map (·.num)) == some t)).getD 0
  (((k.insts.filter (fun e => e.parent.isNone))[i]?).map (·.off)).getD 0

/-- Where a task starts: code word, byte base of D and frame size (R241, R245, R272). -/
def Bank.taskStart (k : Bank) (e : TaskEntry) : Nat × Nat × Nat :=
  if k.profF then
    match k.insts[e.entry]? with
    | some i =>
      let ty := k.fbTypes[i.type]?
      ((ty.map (·.entry)).getD 0, i.off, (ty.map (·.lSize)).getD 0)
    | none => (0, 0, 0)
  else (e.entry, k.taskBlock e.num, e.lSize)

/-- A byte of the place that holds records: M or the instance data. -/
def Bank.recByte (k : Bank) (inM : Bool) (a : Nat) : Byte := if inM then k.memByte a else k.dataByte a

/-- Store a byte where records lie. -/
def Bank.putRecByte (inM : Bool) (k : Bank) (a : Nat) (v : Byte) : Bank := if inM then k.setMem a v else k.setData a v

/-- Store little-endian bytes where records lie. -/
def Bank.putRec (k : Bank) (inM : Bool) (a n v : Nat) : Bank := writeLe (Bank.putRecByte inM) k a (leBytes n v)

/-- Write a decided operation's outcome into its record: BUSY 0, DONE 1, STATUS, and RESULT for a stake edit (R265,
R267). -/
def Bank.writeOutcome (k : Bank) (o : OpenRec) (status : Nat) (result : Word) : Bank :=
  let fl := (k.recByte o.inM (o.addr + 5)).toNat
  let k1 := (k.putRec o.inM (o.addr + 5) 1 (putBits fl 0 2 2)).putRec o.inM (o.addr + 6) 1 status
  if o.stk then k1.putRec o.inM (o.addr + 8) 4 result.toNat else k1

/-- Write every outcome decided up to a task's start into its record (R265: a decision in the cycle of the start is
written at it). -/
def State.reportOutcomes (s : State) (b : Bool) (t clk : Nat) : State :=
  let due := fun (o : OpenRec) => o.task == t && (match o.outcome with
    | some (_, _, c) => decide (c ≤ clk)
    | none => false)
  let k := (s.scn.opens.filter due).foldl (fun a o =>
    match o.outcome with
    | some (st, r, _) => if o.dropped then a else a.writeOutcome o st r
    | none => a) (s.bank b)
  let s1 := if s.scn.opens.any due then s.setBank b (some k) else s
  { s1 with scn := { s1.scn with opens := s1.scn.opens.filter (fun o => !due o) } }

/-- Fill I from the latch: values in the entries' widths and quality bytes at QOFF (R250). A point the latch does not
hold, which only a new bank's map names, is taken as it stands. -/
def State.fillInputs (s : State) (t : Nat) (l : StartLatch) (io : List IoEntry) : State :=
  io.foldl (fun a e =>
    if e.isQ then a
    else
      let x := a.taskRt t
      let (v, q) := match l.vals.find? (fun p => p.1 == e.point) with
        | some (_, v, q) => (v, q)
        | none => ((a.pointFor Blk.SCN e.point).value, (a.pointFor Blk.SCN e.point).quality)
      let put := fun (m : Tbl Byte) (i : Nat) (b : Byte) => tset (fun _ => 0#8) m i b
      let m1 := if e.width = 0 then put x.i e.off (setBitOf (tget (fun _ => 0#8) x.i e.off) e.bit (v != 0))
                else writeLe put x.i e.off (leBytes (if e.width = 2 then 4 else 8) v.toNat)
      let m2 := match e.qoff with
        | some o => put m1 o (BitVec.ofNat 8 q)
        | none => m1
      a.setTaskRt t { x with i := m2 }) s

/-- A task's run begins on a lane (R241, R251, R277, R278 step 2). -/
def State.beginRun (s : State) (lane t : Nat) : State :=
  match (s.taskRt t).ready, s.taskEntry t with
  | some l, some e =>
    let b := s.activeB
    let s1 := s.reportOutcomes b t l.clk
    let x := s1.taskRt t
    let (pc, ib, fsz) := (s1.bank b).taskStart e
    let tb := s1.chainToTb l.ch 0
    let flags := (if x.first then 1 else 0) + (if x.resumed then 2 else 0) + x.skipped * 256
    let r : Run := { lane := lane, task := t, bankB := b, latch := l, fr := Fr.zero, a1 := 0, a2 := 0, xr := 0, pc := pc,
                     ib := ib, tir := ib, lb := 0, fsz := fsz, cond := [], base := 0, calls := [], touched := [],
                     epoch := 0, strict := [], lost := [], denied := 0, flags := BitVec.ofNat 32 flags,
                     lastExec := s1.reg (Reg.SCN_TnLAST_EXEC t), tbSec := BitVec.ofInt 32 (tb / 1000000000),
                     tbNs := BitVec.ofInt 32 (tb % 1000000000) }
    let late := Nat.min (s1.chain - l.ch) (2 ^ 32 - 1)
    let s2 := s1.setTaskRt t { x with ready := none, first := false, resumed := false, skipped := 0 }
    let s3 := ((s2.setTaskSt t TaskSt.RUNNING).setFld (Reg.SCN_TnSTAT t) 8 2 lane).wrapInc (Reg.SCN_TnRUNS t) 1
    let s4 := if s3.num (Reg.SCN_TnLAT_MAX t) < late then s3.setNum (Reg.SCN_TnLAT_MAX t) late else s3
    let s5 := s4.setFld Reg.SCN_LANE_STAT (8 * lane) 8 (t + 128)
    (s5.fillInputs t l e.io).putRun r
  | _, _ => s

/-! ### Remote writes (R265, R266, R280 to R283) -/

/-- Whether a status is FAIL-class (R77). -/
def stFail (st : Nat) : Bool := decide (0x10 ≤ st)

/-- Take a remote write off the list. -/
def State.dropRemote (s : State) (id : Nat) : State :=
  { s with scn := { s.scn with remote := s.scn.remote.filter (fun w => w.id != id) } }

/-- The writes of a task that still wait for their epoch. -/
def State.waitingOf (s : State) (t : Nat) : List RemoteWrite :=
  s.scn.remote.filter (fun w => w.task == t && w.phase == .waiting)

/-- Withdraw remote writes: a tracked one completes FAIL_CANCELLED, all are counted (R266, R281). -/
def State.withdraw (s : State) (ws : List RemoteWrite) : State :=
  ws.foldl (fun a w =>
    let a1 := (a.dropRemote w.id).satInc Reg.SCN_WITHDRAWN_CNT 0 32 1
    match w.tag with
    | some t => a1.decideOp t St.FAIL_CANCELLED 0
    | none => a1) s

/-- A failure in a strict epoch withdraws every later write of its run (R266). -/
def State.strictFail (s : State) (w : RemoteWrite) : State :=
  if (s.taskRt w.task).strict.contains w.epoch then
    s.withdraw ((s.waitingOf w.task).filter (fun v => v.run == w.run && decide (w.epoch < v.epoch)))
  else s

/-- A remote write is taken by its station or has failed: a tracked one completes with the status (R265). -/
def State.settleRemote (s : State) (w : RemoteWrite) (status : Nat) : State :=
  let s1 := s.dropRemote w.id
  let s2 := match w.tag with
    | some t => s1.decideOp t status 0
    | none => s1
  if stFail status then s2.strictFail w else s2

/-- A remote write to a lost station: a tracked one completes FAIL_STATION_LOST, an untracked one is discarded and
counted (R282). -/
def State.loseRemote (s : State) (w : RemoteWrite) : State :=
  let s1 := if w.tag.isNone then s.satInc Reg.SCN_LOST_DISC_CNT 0 32 1 else s
  s1.settleRemote w St.FAIL_STATION_LOST

/-- Mark a write's phase. -/
def State.setPhase (s : State) (id : Nat) (p : WritePhase) : State :=
  { s with scn := { s.scn with remote := s.scn.remote.map fun (w : RemoteWrite) => if w.id == id then { w with phase := p } else w } }

/-- Hand a write to its transport (R280): a node's output record (R478, R492), a POINT_WRITE to a module (R415), or a
write of the luminaire's or group's point, which LCP takes at once (R211). A station whose loss is due is lost first
(R283). -/
def State.handRemote (s : State) (w : RemoteWrite) : State :=
  let i := w.target % 65536
  match w.station with
  | .node c n =>
    if s.fld (Reg.FBC_CHc_STAT c) 0 2 = 3 ∨ s.flag (Reg.FBC_CHc_STAT c) 2 ∨ s.fld (Reg.FBC_CHc_STAT c) 0 2 = 0
        ∨ s.nodeDue c n then
      s.loseRemote w
    else
      let s1 := match tfind? s.fbc.outMap i with
        | some f => if f.channel = c ∧ f.node = n then s.putNodeOut f w.value else s
        | none => s
      s1.setPhase w.id .handed
  | .lum e =>
    if s.lumDue e then s.loseRemote w else (s.writePoint Blk.SCN i w.value Q.GOOD).settleRemote w St.OK
  | .module m =>
    if s.memberUp m ∧ !s.memberDue m then
      let tg := match w.tag with
        | some t => t + (s.slot t).gen * 512
        | none => 0
      let ctx := ((s.taskEntry w.task).map (·.ctx)).getD 0
      (s.setPhase w.id .handed).linkSendRel m 0x11
        [i, w.type, if w.tag.isSome then 1 else 0, tg, ctx, w.value.toNat, w.issued % 2 ^ 32, 0] w.tag.toList
    else s.loseRemote w

/-- Whether a write of the same run as `w` is still unsettled at its transport. -/
def State.epochOpen (s : State) (w : RemoteWrite) : Bool :=
  s.scn.remote.any (fun v => v.task == w.task && v.run == w.run &&
    (v.phase == .handed || v.phase == .inFlight || v.phase == .confirming))

/-- Release the next epoch that holds a write, once every write of the one before is settled (R266). -/
def State.releaseEpoch (s : State) (t : Nat) : State :=
  match s.waitingOf t with
  | [] => s
  | w :: ws =>
    if s.epochOpen w then s
    else
      let e := ws.foldl (fun m v => Nat.min m v.epoch) w.epoch
      ((w :: ws).filter (fun v => v.epoch == e)).foldl (fun a v =>
        if a.scn.remote.any (fun u => u.id == v.id && u.phase == .waiting) then a.handRemote v else a) s

/-- A station is lost (R282): its I entries' quality bytes in every open run turn STALE, its outputs are not sent, its
open tracked writes fail, and the loss is recorded. -/
def State.stationLost (s : State) (st : Station) : State :=
  let from_ := fun (a : State) (i : Nat) => match (a.point i).producer, st with
    | .node c n, .node c' n' => c == c' && n == n'
    | .module m, .module m' => m == m'
    | .block b, .lum e =>
      let pb := a.fld Reg.LCP_PT_BASE 0 16
      b == Blk.LCP && pb != 0xFFFF && decide (pb + 8 * e ≤ i) && decide (i < pb + 8 * e + 8)
    | _, _ => false
  let s1 := (s.scn.lanes.map (·.2)).foldl (fun a r =>
    let io := ((a.runEntry r).map (·.io)).getD []
    let a1 := io.foldl (fun b e =>
      match e.qoff with
      | some o => if !e.isQ && from_ b e.point then
          let x := b.taskRt r.task
          b.setTaskRt r.task { x with i := tset (fun _ => 0#8) x.i o (BitVec.ofNat 8 Q.STALE) } else b
      | none => b) a
    a1.putRun { r with lost := st :: r.lost }) s
  let s2 := (s1.scn.remote.filter (fun w => w.station == st && w.phase != .inRun)).foldl (fun a w =>
    if a.scn.remote.any (fun v => v.id == w.id) then a.loseRemote w else a) s1
  let code := match st with
    | .node c n => (32 * c + n) * 256
    | .lum e => 1 + e * 256
    | .module m => 2 + m * 256
  (s2.setNum Reg.SCN_LOST_LAST code).raiseIrq Blk.SCN 8

/-! ### Faults and stops (R269, R288, R289, R296, R297) -/

/-- An output point that no Q entry drives any more takes its declared default with quality GOOD, or keeps its value
with quality STALE (R296). -/
def State.toDefault (s : State) (i : Nat) : State :=
  match tfind? s.scn.defaults i with
  | some v => s.writePoint Blk.SCN i v Q.GOOD
  | none => s.setQuality Blk.SCN i Q.STALE

/-- The points that a task's Q entries map. -/
def TaskEntry.outPoints (e : TaskEntry) : List Nat := (e.io.filter (·.isQ)).map (·.point)

/-- A task enters STOPPED with a reason (R289). -/
def State.stopTask (s : State) (t reason : Nat) : State :=
  let pts := ((s.taskEntry t).map TaskEntry.outPoints).getD []
  let s1 := pts.foldl State.toDefault (s.withdraw (s.waitingOf t))
  let s2 := s1.setTaskRt t { s1.taskRt t with ready := none, held := none, queue := [], ovr := false, offAfter := false }
  let s3 := ((s2.setTaskSt t TaskSt.STOPPED).setFld (Reg.SCN_TnSTAT t) 4 4 reason).setFlag (Reg.SCN_TnSTAT t) 10 false
  (s3.setNum64 (Reg.SCN_TnNEXT_LO t) (2 ^ 64 - 1)).raiseIrq Blk.SCN 4

/-- A task goes OFF (R291). -/
def State.taskOff (s : State) (t : Nat) : State :=
  let s1 := s.setTaskRt t { s.taskRt t with ready := none, held := none, queue := [], ovr := false, offAfter := false }
  ((s1.setTaskSt t TaskSt.OFF).setFlag (Reg.SCN_TnSTAT t) 10 false).setNum64 (Reg.SCN_TnNEXT_LO t) (2 ^ 64 - 1)

/-- A task waits for its next start; a start held for an exchange or a move is taken first (R291, R293). -/
def State.taskWait (s : State) (t : Nat) : State :=
  let s1 := s.setTaskSt t TaskSt.WAITING
  match (s1.taskRt t).queue with
  | l :: rest => (s1.setTaskRt t { s1.taskRt t with queue := rest }).readyTask t l
  | [] => s1.releaseHeld t

/-- An exchange reaches X (R293 step 1): no further run begins in the old bank. The new bank's tasks take their grid from X, and
a task only it holds begins to wait. -/
def State.beginXch (s : State) (x : Xch) : State :=
  let s1 := { s with scn := { s.scn with xch := some { x with begun := true } } }
  s1.forN 16 fun a n =>
    match (a.bank (!a.activeB)).task n with
    | some e =>
      if !e.en ∨ e.event then a
      else
        let a1 := a.setNum64 (Reg.SCN_TnNEXT_LO n) (nextGrid x.x e.period e.start)
        if (a.bank a.activeB).task n = none ∧ a.hostEn n ∧ a.taskSt n = TaskSt.OFF then
          a1.setTaskSt n TaskSt.WAITING
        else a1
    | none => a

/-- The end of a faulted or stopped run's task (R288, R289, R297): the fault is recorded; before confirmation, or under
MODULE, SUP restarts the module; within 200 clean cycles of an exchange the banks are exchanged back; else
FAULT_ACTION applies. -/
def State.taskFault (s : State) (t reason code pc : Nat) (insn : Word) : State :=
  let info := BitVec.ofNat 32 (t + reason * 16 + code * 256 + 65536)
  let clean := s.num Reg.SCN_CLEAN_CNT
  let s1 := (((s.setReg Reg.SCN_FAULT_INFO info).setNum Reg.SCN_FAULT_PC (pc % 2 ^ 24)).setReg Reg.SCN_FAULT_INSN insn)
  let s2' := ((s1.setNum Reg.SCN_CLEAN_CNT 0).clearRan).raiseIrq Blk.SCN 1
  let s2 := { s2' with sup := { s2'.sup with cleanCycle := s2'.chain / 65536 } }
  let revert := s2.flag Reg.SCN_CFG 8 && s2.scn.afterXch && decide (clean < 200) && s2.scn.xch.isNone
  if !s2.confirmed then s2.unconfirmedRestart 4 info (BitVec.ofNat 32 (pc % 2 ^ 24))
  else if revert then
    let s3 := { s2 with scn := { s2.scn with afterXch := false } }
    (((s3.beginXch ⟨none, s3.chain, s3.scn.lastKeep, false⟩).setFlag Reg.SCN_BANK 4 true).raiseIrq Blk.SCN 6).taskWait t
  else match s2.faultAction t with
    | 2 => s2.unconfirmedRestart 4 info (BitVec.ofNat 32 (pc % 2 ^ 24))
    | 1 => if (s2.taskRt t).offAfter then s2.taskOff t else s2.taskWait t
    | _ => s2.stopTask t reason

/-- Free a run's lane; DENIED sums its refusals (R301). -/
def State.freeLane (s : State) (r : Run) : State :=
  let s1 := { s with scn := { s.scn with lanes := tdel s.scn.lanes r.lane } }
  (s1.setFld Reg.SCN_LANE_STAT (8 * r.lane) 8 0).satInc (Reg.SCN_TnDENIED r.task) 0 32 r.denied

/-- The remote writes of a run that has not reached its output phase. -/
def State.runWrites (s : State) (r : Run) : List RemoteWrite :=
  s.scn.remote.filter (fun w => w.task == r.task && w.phase == .inRun)

/-- A run faults: no Q entry is written and no remote write sent, tracked ones complete FAIL_CANCELLED (R269). -/
def State.runFault (s : State) (r : Run) (code : Nat) (insn : Word) : State :=
  let s1 := (s.runWrites r).foldl (fun a w =>
    let a1 := a.dropRemote w.id
    match w.tag with
    | some t => a1.decideOp t St.FAIL_CANCELLED 0
    | none => a1) s
  (s1.freeLane r).taskFault r.task Stop.FAULT code r.pc insn

/-! ### The output phase and the end of a run (R250, R278, R281, R287, R290) -/

/-- A Q entry's value as it stands in the Q image. -/
def State.qValue (s : State) (t : Nat) (e : IoEntry) : Dword :=
  let q := (s.taskRt t).q
  if e.width = 0 then (if bitOf (tget (fun _ => 0#8) q e.off).toNat e.bit then 1 else 0)
  else BitVec.ofNat 64 (readLe (tget (fun _ => 0#8) q) e.off (if e.width = 2 then 4 else 8))

/-- Write one touched Q entry to its point; a remote point's value also leaves in the epoch of the last touch; a
luminaire's or group's point is written as its epoch is handed over (R250, R266, R280). -/
def State.outputEntry (s : State) (r : Run) (k epoch : Nat) (e : IoEntry) : State :=
  let v := s.qValue r.task e
  let key := r.task * 65536 + k
  if e.onchange ∧ tfind? s.scn.lastVals key = some v then s
  else
    let s1 := { s with scn := { s.scn with lastVals := tput s.scn.lastVals key v } }
    let p := s1.point e.point
    if p.producer ≠ .task r.task then s1
    else match s1.outStation e.point with
      | none => (s1.writePoint Blk.SCN e.point v Q.GOOD).noteWritten e.point
      | some st =>
        let s2 := match st with
          | .lum _ => s1
          | _ => s1.storePoint Blk.SCN e.point v Q.GOOD
        (s2.issueRemote r st (s2.outTarget e.point) p.type (normValue p.type v) epoch none).noteWritten e.point

/-- The output phase (R278 step 4): writes of the previous run still waiting are withdrawn, touched Q entries are
written in ascending map order, and the first epoch is handed to the transports. -/
def State.outputPhase (s : State) (r : Run) : State :=
  let s0 := s.withdraw (s.waitingOf r.task)
  let io := ((s0.runEntry r).map (·.io)).getD []
  let s1 := r.touched.foldl (fun a p =>
    match io[p.1]? with
    | some e => a.outputEntry r p.1 p.2 e
    | none => a) s0
  let ws := s1.runWrites r
  let s2 := s1.setTaskRt r.task { s1.taskRt r.task with strict := r.strict }
  let s3 := ws.foldl (fun a w => a.setPhase w.id .waiting) s2
  let s4 := (ws.filter (fun w => r.lost.contains w.station)).foldl (fun a w =>
    if a.scn.remote.any (fun v => v.id == w.id) then a.loseRemote w else a) s3
  s4.releaseEpoch r.task

/-- Count a clean scan cycle once every enabled periodic task has completed a run (R290). -/
def State.noteClean (s : State) (t : Nat) : State :=
  let s1 := s.setTaskRt t { s.taskRt t with ran := true }
  let ts := (s1.bank s1.activeB).tasks
  let all := ts.all (fun e => e.event || s1.taskSt e.num == TaskSt.OFF || (s1.taskRt e.num).ran)
  let stopped := ts.any (fun e => s1.taskSt e.num == TaskSt.STOPPED)
  if all && !stopped then (s1.satInc Reg.SCN_CLEAN_CNT 0 32 1).clearRan else s1

/-- The end of a run (R278 step 5, R287, R291). -/
def State.endRun (s : State) (r : Run) : State :=
  let t := r.task
  let ex := Nat.min (s.chain - r.latch.ch) (2 ^ 32 - 1)
  let s1 := (s.freeLane r).setNum (Reg.SCN_TnLAST_EXEC t) ex
  let s2 := if s1.num (Reg.SCN_TnMAX_EXEC t) < ex then s1.setNum (Reg.SCN_TnMAX_EXEC t) ex else s1
  let pct := Nat.min 100 (s2.fld (Reg.SCN_TnCTL t) 16 8)
  let period := ((s2.runEntry r).map (·.period)).getD 0
  let ovr := decide (pct ≠ 0) && decide (pct * period < ex * 100)
  let s3 := s2.setFlag (Reg.SCN_TnSTAT t) 3 ovr
  let s4 := if ovr then s3.raiseIrq Blk.SCN 3 else s3
  let x := s4.taskRt t
  if x.ovr then (s4.setTaskRt t { x with ovr := false }).taskFault t Stop.OVERRUN 0 0 0
  else if x.offAfter then (s4.taskOff t).setFld (Reg.SCN_TnSTAT t) 4 4 (if s4.hostEn t then 0 else Stop.HOST)
  else
    let periodic := ((s4.runEntry r).map (fun e => !e.event)).getD false
    (if periodic then s4.noteClean t else s4).taskWait t

/-- END, or RET in the root: the run ends, its output phase follows (R278). A run that ends with entries above the base
faults NEST (R244); that is checked before. -/
def State.finishRun (s : State) (r : Run) : State :=
  (((s.setTaskSt r.task TaskSt.OUTPUT).outputPhase r).phaseKick).endRun r

/-! ### Issuing an instruction -/

/-- Issue the instruction that stands at a lane's PC, when its opcode is `op`: what the instruction does, or its fault
(R240, R255, R269). A lane without a run issues nothing. A PC beyond the code faults ADDRESS. -/
def State.issue (s : State) (op lane : Nat) (f : State → Run → Word → Except Nat State) : State :=
  match s.runOn lane with
  | none => s
  | some r =>
    match (s.bank r.bankB).code[r.pc]? with
    | none => s.runFault r ScnFault.ADDRESS 0
    | some w =>
      if (opFmt (wOp w)).isNone then s.runFault r ScnFault.OPCODE w
      else if wOp w ≠ op then s
      else if opProfF op ∧ !s.runF r then s.runFault r ScnFault.PROFILE w
      else match f s { r with pc := r.pc + 1 } w with
        | .ok s' => s'
        | .error e => s.runFault r e w

/-- Keep the run of an instruction's answer on its lane. -/
def keepRun (x : ScnRes) : Except Nat State :=
  match x with
  | .ok (r, s) => .ok (s.putRun r)
  | .error e => .error e

/-- An instruction that changes its run alone. -/
def State.issueRun (s : State) (op lane : Nat) (f : Bool → Run → Word → Run) : State :=
  s.issue op lane (fun s r w => .ok (s.putRun (f (s.runF r) r w)))

end Sys2Proof.Machine
end

