-- ==== Sys2Proof/Machine/ScnImage.lean ====
section
/-! DEFINITION. Program images: reading one from its bytes (R270 to R273) and validating it (R274). -/

namespace Sys2Proof.Machine

/-- A little-endian field of a byte string. -/
def fieldAt (b : List Byte) (off n : Nat) : Nat := leNat ((b.drop off).take n)

/-- A string cut into pieces of `n` bytes, `k` of them. -/
def pieces (b : List Byte) (n k : Nat) : List (List Byte) := (List.range k).map (fun i => (b.drop (n * i)).take n)

/-- The bytes of the section of a type (R271); none for a type the table does not list. -/
def sectionOf (b : List Byte) (type : Nat) : List Byte :=
  match (pieces (b.drop 0x100) 16 (fieldAt b 0x10 2)).find? (fun e => fieldAt e 0 1 == type) with
  | some e => (b.drop (fieldAt e 4 4)).take (fieldAt e 8 4)
  | none => []

/-- An I/O map entry from its 8 bytes (R273). -/
def ioOf (b : List Byte) : IoEntry :=
  let f := fieldAt b 4 1
  let q := fieldAt b 6 2
  ⟨fieldAt b 0 2, fieldAt b 2 2, f % 8, bitOf f 3, bitOf f 4, bitsOf f 5 3, if q = 0xFFFF then none else some q⟩

/-- A task entry from its 32 bytes and the I/O map section (R272). -/
def taskOf (io b : List Byte) : TaskEntry :=
  let f := fieldAt b 1 1
  ⟨fieldAt b 0 1, bitOf f 0, bitOf f 1, fieldAt b 2 1, fieldAt b 3 1, fieldAt b 4 4, fieldAt b 8 2, fieldAt b 10 2,
   fieldAt b 12 4, fieldAt b 16 3, fieldAt b 19 1, fieldAt b 20 2, fieldAt b 22 2,
   (pieces (io.drop (8 * fieldAt b 24 4)) 8 (fieldAt b 28 4)).map ioOf⟩

/-- An FB type from its 16 bytes (R271). -/
def fbOf (b : List Byte) : FbType := ⟨fieldAt b 0 4, fieldAt b 4 4, fieldAt b 8 4, fieldAt b 12 2⟩

/-- An instance entry from its 16 bytes (R271). -/
def instOf (b : List Byte) : InstEntry :=
  let p := fieldAt b 12 4
  ⟨fieldAt b 0 4, fieldAt b 4 2, bitOf (fieldAt b 6 2) 0, fieldAt b 8 4, if p = 2 ^ 32 - 1 then none else some p⟩

/-- A record entry from its 16 bytes (R271); an owner of FFFF_FFFFh places it in M. -/
def recOf (b : List Byte) : RecEntry :=
  let p := fieldAt b 12 4
  ⟨fieldAt b 0 4, fieldAt b 4 1, fieldAt b 8 4, if p = 2 ^ 32 - 1 then none else some p⟩

/-- The image that a byte string spells (R270, R271). -/
def bankOf (b : List Byte) : Bank :=
  let code := sectionOf b 0x01
  let insts := sectionOf b 0x05
  let recs := sectionOf b 0x09
  let io := sectionOf b 0x07
  { profF := fieldAt b 6 1 == 0x46, id := fieldAt b 8 4, ver := fieldAt b 12 4
    code := (pieces code 4 (code.length / 4)).map (fun w => BitVec.ofNat 32 (leNat w))
    konst := sectionOf b 0x02
    tasks := (pieces (sectionOf b 0x03) 32 (fieldAt b 0x12 2)).map (taskOf io)
    fbTypes := (pieces (sectionOf b 0x04) 16 (fieldAt b 0x14 4)).map fbOf
    insts := (pieces insts 16 (fieldAt b 0x18 4)).map instOf
    recs := (pieces recs 16 (recs.length / 16)).map recOf
    dataInit := sectionOf b 0x06, mInit := sectionOf b 0x08
    dataSize := fieldAt b 0x20 4, mSize := fieldAt b 0x24 4, data := [], mem := [] }

/-- The header and the section table (R270, R271): magic, format, major version, the digest over the sections, and
sections within the image. -/
def headerOk (b : List Byte) : Bool :=
  let p := fieldAt b 6 1
  let ents := pieces (b.drop 0x100) 16 (fieldAt b 0x10 2)
  let secs := ents.filter (fun e => fieldAt e 0 1 != 0xFF)
  let body := secs.foldl (fun a e => a ++ (b.drop (fieldAt e 4 4)).take (fieldAt e 8 4)) []
  decide (0x100 ≤ b.length) && fieldAt b 0 4 == 0x4B535544 && fieldAt b 4 2 == 2 && (p == 0x53 || p == 0x46)
    && fieldAt b 7 1 == 2 && decide (1 ≤ fieldAt b 0x12 2) && decide (fieldAt b 0x12 2 ≤ 16)
    && (p == 0x46 || fieldAt b 0x14 4 == 0)
    && ents.all (fun e => bitsOf (leNat (e.take 4)) 8 24 == 0 && fieldAt e 12 4 == 0
        && decide (fieldAt e 4 4 + fieldAt e 8 4 ≤ b.length))
    && fieldAt b 0x1C 4 == (sectionOf b 0x01).length
    && (b.drop 0x30).take 32 == beBytes 32 (Config.sha256 body).toNat

/-! ### Validation (R274) -/

/-- The size in bytes of a record of a type (R259, R264). -/
def recSize (type : Nat) : Nat := if type = 0x41 then 64 else 16

/-- The record types (R259, R264). -/
def recTypes : List Nat := [0x10, 0x11, 0x12, 0x20, 0x21, 0x30, 0x31, 0x40, 0x41]

/-- The limits of R239 and R245. -/
def Bank.limitsOk (k : Bank) : Bool :=
  decide (4 * k.code.length ≤ if k.profF then 16 * 2 ^ 20 else 256 * 1024)
    && decide (k.konst.length ≤ 4 * 2 ^ 20) && decide (k.mSize ≤ 2 ^ 20)
    && decide (k.dataSize ≤ if k.profF then 64 * 2 ^ 20 else 16 * 2 ^ 20)
    && decide (k.dataInit.length ≤ k.dataSize) && decide (k.mInit.length ≤ k.mSize)

/-- The task entries (R272). -/
def Bank.tasksOk (k : Bank) : Bool :=
  decide ((k.tasks.map (·.num)).Nodup) && k.tasks.all fun e =>
    decide (e.num < 16) && decide (e.prio < 16) && (decide (e.lane < 4) || e.lane == 0xFF)
      && decide (2048 ≤ e.period) && decide (e.lSize ≤ 256 * 1024) && decide (e.warn ≤ 100)
      && (if k.profF then (match k.insts[e.entry]? with
            | some i => i.parent.isNone
            | none => false)
          else decide (e.entry < k.code.length))

/-- Instances and their headers (R261), single ownership (R249) and placeable roots (R263). -/
def Bank.instsOk (k : Bank) : Bool :=
  let roots := (List.range k.insts.length).filter (fun i => (k.insts[i]?.map (·.parent)) == some none)
  (if k.profF then roots.all (fun i => decide ((k.tasks.filter (fun e => e.entry == i)).length = 1))
   else decide (roots.length = k.tasks.length) && decide (roots.length = k.insts.length))
    && k.insts.all fun i =>
      decide (i.off % 16 = 0) && decide (i.off + 16 ≤ k.dataSize) && k.dataWord i.off == i.key
        && k.dataWord (i.off + 4) % 65536 == i.type && decide (i.off + k.instSize i.off ≤ k.dataSize)
        && decide (16 ≤ k.instSize i.off) && decide (k.instSize i.off ≤ 2 ^ 20) && decide (k.instSize i.off % 16 = 0)
        && (if k.profF then (match k.fbTypes[i.type]? with
              | some t => k.dataWord (i.off + 4) / 65536 == t.ver
              | none => false)
            else i.type == 0xFFFF)
        && (!i.placeable || i.parent.isNone)
        && (match i.parent with
            | some p => decide (p < k.insts.length)
            | none => true)

/-- Records in their instances or in M (R255, R259), and unique nonzero keys across instances and records (R274). -/
def Bank.recsOk (k : Bank) : Bool :=
  let keys := k.insts.map (·.key) ++ k.recs.map (·.key)
  decide (0 ∉ keys) && decide keys.Nodup && k.recs.all fun e =>
    recTypes.contains e.type && decide (e.off % 16 = 0) &&
      match e.inst with
      | none => decide (e.off + recSize e.type ≤ k.mSize) && (k.memByte (e.off + 4)).toNat == e.type
      | some i => match k.insts[i]? with
        | some x => decide (x.off + 16 ≤ e.off) && decide (e.off + recSize e.type ≤ x.off + k.instSize x.off)
            && (k.dataByte (e.off + 4)).toNat == e.type
        | none => false

/-- Whether an I/O map width fits a point's type (R273, R274). -/
def widthFits (w type : Nat) : Bool :=
  match w with
  | 0 => type == PtType.BOOL
  | 2 => type == PtType.INT32 || type == PtType.REAL32 || type == PtType.Q15
  | 3 => type == PtType.UINT64 || type == PtType.ENERGY64
  | _ => false

/-- The I/O maps (R273, R274). -/
def Bank.ioOk (k : Bank) (pts : Nat → Point) : Bool :=
  k.tasks.all fun t => t.io.all fun e =>
    widthFits e.width (pts e.point).type
      && decide (e.off + (if e.width = 0 then 1 else if e.width = 2 then 4 else 8) ≤ if e.isQ then t.qSize else t.iSize)
      && (match e.qoff with
          | some o => !e.isQ && decide (o < t.iSize)
          | none => true)

/-- The code words at which code units begin: task bodies in Profile S, FB bodies in Profile F (R253). -/
def Bank.units (k : Bank) : List Nat := if k.profF then k.fbTypes.map (·.entry) else k.tasks.map (·.entry)

/-- The unit a word lies in: its begin and the next unit's begin (R253). -/
def Bank.unitOf (k : Bank) (pc : Nat) : Nat × Nat :=
  let lo := (k.units.filter (fun u => decide (u ≤ pc))).foldl Nat.max 0
  let hi := (k.units.filter (fun u => decide (pc < u))).foldl Nat.min k.code.length
  (lo, hi)

/-- The least limit of a space over the tasks and types that a unit serves, where it is known before a run (R245,
R246). -/
def Bank.unitLimit (k : Bank) (lo sp : Nat) : Option Nat :=
  let users := k.tasks.filter fun t =>
    if k.profF then (match k.insts[t.entry]? with
      | some i => (k.fbTypes[i.type]?.map (·.entry)) == some lo
      | none => false) else t.entry == lo
  let types := if k.profF then k.fbTypes.filter (fun t => t.entry == lo) else []
  let least := fun (l : List Nat) => match l with
    | [] => none
    | x :: r => some (r.foldl Nat.min x)
  match sp with
  | 0 => least (users.map (·.iSize))
  | 1 => least (users.map (·.qSize))
  | 2 => some k.mSize
  | 4 => least (if k.profF then types.map (·.lSize) else users.map (·.lSize))
  | 5 => least (if k.profF then types.map (·.instSize) else users.map (fun t => k.instSize (k.taskBlock t.num)))
  | 6 => some k.konst.length
  | 7 => some 4096
  | _ => none

/-- The bytes an M-format or B-format instruction accesses (0 for a bit) and whether it stores; `none` for those
without a space access of their own (LA, SELI and the target instance). -/
def accessOf (op : Nat) : Option (Nat × Bool) :=
  if 0x10 ≤ op ∧ op ≤ 0x17 then some (0, false)
  else if 0x1A ≤ op ∧ op ≤ 0x1C then some (0, true)
  else match op with
    | 0x30 => some (1, false)
    | 0x31 => some (2, false)
    | 0x32 | 0x43 => some (4, false)
    | 0x33 => some (8, false)
    | 0x34 => some (1, true)
    | 0x35 => some (2, true)
    | 0x36 | 0x44 => some (4, true)
    | 0x37 => some (8, true)
    | 0xC5 => some (64, true)
    | 0xC2 => some (16, true)
    | _ => if 0xB0 ≤ op ∧ op ≤ 0xB7 then some (16, true) else none

/-- A static access of an instruction word with X = 0 (R246, R248, R255). -/
def Bank.accessOk (k : Bank) (pts : Nat → Point) (lo : Nat) (w : Word) : Bool :=
  let op := wOp w
  let sp := wSpace w
  let isRec := (decide (0xB0 ≤ op) && decide (op ≤ 0xB7)) || op == 0xC2 || op == 0xC5
  if op = 0x18 ∨ op = 0x19 then sp == Sp.P && decide (bitsOf w.toNat 16 4 ≤ 4)
  else if isRec ∧ sp ≠ Sp.M ∧ sp ≠ Sp.D then false
  else if (0x39 ≤ op ∧ op ≤ 0x3E) ∨ op = 0xA0 then sp == Sp.D
  else match accessOf op with
    | none => true
    | some (n, store) =>
      if wX w then true
      else if sp = Sp.P then
        let part := if n = 0 then 0 else bitsOf w.toNat 16 4
        let p := pts (bitsOf w.toNat 0 16)
        decide (part ≤ 4) && (n != 0 || bitsOf w.toNat 16 4 == 0) &&
          (!store || (storeFits part n p.type && (match p.producer with
            | .task t => k.tasks.any (fun e => e.num == t)
            | _ => false)))
      else
        let a := if n = 0 then wOff w / 8 else wOff w
        let len := if n = 0 then 1 else n
        let al := if len = 64 then 16 else len
        decide (a % al = 0) &&
          !(store && (sp == Sp.K || (sp == Sp.D && decide (a < 16))
              || (sp == Sp.S && !(decide (0x100 ≤ a) && decide (a + len ≤ 0x104))))) &&
          (match k.unitLimit lo sp with
           | some l => decide (a + len ≤ l)
           | none => true)

/-- One instruction word (R240, R253, R255, R274). -/
def Bank.wordOk (k : Bank) (pts : Nat → Point) (pc : Nat) (w : Word) : Bool :=
  let op := wOp w
  let u := k.unitOf pc
  (k.profF || !opProfF op) &&
  match opFmt op with
  | none => false
  | some .n => wImm w == 0
  | some .c => bitsOf w.toNat 6 18 == 0 && (decide (op < 0x80) || decide (wCount w ≤ 5))
  | some .i => true
  | some .j =>
    if op = 0xA1 ∨ op = 0xA2 then decide (wImm w < k.fbTypes.length)
    else
      let t : Int := pc + 1 + signed 24 (wImm w)
      decide ((u.1 : Int) ≤ t) && decide (t < (u.2 : Int))
  | some .m => k.accessOk pts u.1 w
  | some .b => k.accessOk pts u.1 w

/-- Validation of an image (R274). -/
def Bank.valid (k : Bank) (pts : Nat → Point) : Bool :=
  k.limitsOk && k.tasksOk && k.instsOk && k.recsOk && k.ioOk pts
    && (List.range k.code.length).all (fun pc => k.wordOk pts pc (k.code.getD pc 0))

end Sys2Proof.Machine
end

