-- ==== Sys2Proof/Machine/ScnTask.lean ====
section
/-! DEFINITION. SCN's task events, online change and operations but LOAD (R275 to R277, R286, R290 to R300). -/

namespace Sys2Proof.Machine

/-! ### Loading a bank's tables (R268, R291, R301, R302) -/

/-- Show a bank in the registers (R301). -/
def State.showBank (s : State) (b : Bool) : State :=
  let k := if b then s.scn.bankB else s.scn.bankA
  let s1 := s.setFlag Reg.SCN_BANK (if b then 2 else 1) k.isSome
  let id := (k.map (·.id)).getD 0
  let ver := (k.map (·.ver)).getD 0
  if b then (s1.setNum Reg.SCN_BANKB_ID id).setNum Reg.SCN_BANKB_VER ver
  else (s1.setNum Reg.SCN_BANKA_ID id).setNum Reg.SCN_BANKA_VER ver

/-- SCN_TnCFG and SCN_TnPERIOD show the active bank's task entries (R301). -/
def State.showTasks (s : State) : State :=
  s.forN 16 fun a n =>
    match a.taskEntry n with
    | some e =>
      (a.setNum (Reg.SCN_TnCFG n) ((if e.en then 1 else 0) + (if e.event then 2 else 0)
        + (if e.lane = 0xFF then 15 else e.lane) * 16 + e.prio % 16 * 256 + e.ctx * 65536)).setNum
          (Reg.SCN_TnPERIOD n) e.period
    | none => (a.setNum (Reg.SCN_TnCFG n) 0).setNum (Reg.SCN_TnPERIOD n) 0

/-- At a start and a program load every SEND and STK record with BUSY = 1 becomes BUSY = 0, DONE = 0, LOST = 1 (R268). -/
def Bank.loseRecords (k : Bank) : Bank :=
  k.recs.foldl (fun a e =>
    if e.type = 0x40 ∨ e.type = 0x41 then
      let fl := (a.recByte e.inst.isNone (e.off + 5)).toNat
      if bitOf fl 0 then a.putRec e.inst.isNone (e.off + 5) 1 (putBits fl 0 3 4) else a
    else a) k

/-- Whether a task's root instance is placeable, so that the task is dormant until it is placed here (R416). -/
def Bank.placeable (k : Bank) (e : TaskEntry) : Bool :=
  k.profF && ((k.insts[e.entry]?).map (·.placeable)).getD false

/-- Whether a task may leave OFF: EN, HOST_EN, not dormant (R291, R416). -/
def State.mayWake (s : State) (t : Nat) : Bool :=
  match s.taskEntry t with
  | some e => e.en && s.hostEn t && !(s.taskRt t).dormant
  | none => false

/-- A task leaves OFF or STOPPED (R291). -/
def State.wakeTask (s : State) (t : Nat) : State :=
  (((s.setFld (Reg.SCN_TnSTAT t) 4 4 0).armNext t)).taskWait t

/-- SCN starts with its active bank in place: the tasks' control words take WARN, every task starts with FIRST = 1
(R275, R291, R299, R302). -/
def State.scnStart (s : State) : State :=
  let s1 := (s.setBank s.activeB ((if s.activeB then s.scn.bankB else s.scn.bankA).map Bank.loseRecords)).showTasks
  s1.forN 16 fun a n =>
    match a.taskEntry n with
    | some e =>
      let dorm := (a.bank a.activeB).placeable e && a.sup.roleStrap != 0
      let a1 := (a.setTaskRt n { TaskRt.fresh with dormant := dorm }).setNum (Reg.SCN_TnCTL n) (1 + e.warn * 65536)
      if a1.mayWake n then a1.wakeTask n else a1
    | none => a.setNum (Reg.SCN_TnCTL n) 1

/-! ### Task events -/

/-- TASK_START_TICK (R275, R286, R293, R298): the task's next start chainage has arrived. A waiting task latches its
inputs and is READY; a task still ready or running at the end of
the SYS cycle skips the start, or holds it once an exchange has begun or while a unit moves here (R421). -/
def execTaskStartTick (task : Nat) (s : State) : Host.Outcome State Fault Refusal := s.powered fun s =>
  let c := s.num64 (Reg.SCN_TnNEXT_LO task)
  let b := s.bankAt c
  match (s.bank b).task task with
  | none => s
  | some e =>
    let st := s.taskSt task
    if e.event ∨ !e.en ∨ 15 < task ∨ !s.scnOpen ∨ !s.flag Reg.LAT_STATE 3 ∨ s.chain < c
        ∨ st = TaskSt.OFF ∨ st = TaskSt.STOPPED then s
    else
      let l := s.takeLatch task c
      let s1 := s.setNum64 (Reg.SCN_TnNEXT_LO task) (c + e.period)
      if st = TaskSt.WAITING ∧ !(s.taskRt task).hold then (s1.readyTask task l)
      else if b ≠ s.activeB ∨ (s.taskRt task).hold then
        (s1.setTaskRt task { s1.taskRt task with queue := (s1.taskRt task).queue ++ [l] })
      else s.yielding Rank.EXPIRY (.taskStartTick task) fun _ => s1.skipStart task

/-- Whether `a` goes before `b` on a lane: higher PRIO, then the earlier start chainage, then the lower number
(R277). -/
def dispatchBefore (a b : Nat × Nat × Nat) : Bool :=
  decide (b.1 < a.1) || (a.1 == b.1 && (decide (a.2.1 < b.2.1) || (a.2.1 == b.2.1 && decide (a.2.2 < b.2.2))))

/-- The ready task that a lane takes (R277): PRIO, start chainage and number of the first in order. -/
def State.laneTakes (s : State) (lane : Nat) : Option Nat :=
  let cand := (s.bank s.activeB).tasks.filterMap fun e =>
    match (s.taskRt e.num).ready with
    | some l => if s.taskSt e.num = TaskSt.READY ∧ (e.lane = lane ∨ e.lane = 0xFF) then some (e.prio, l.ch, e.num) else none
    | none => none
  (cand.foldl (fun m x => match m with
    | none => some x
    | some y => if dispatchBefore x y then some x else some y) none).map (·.2.2)

/-- Whether an exchange keeps runs from beginning (R293 step 1). -/
def State.xchHolds (s : State) : Bool :=
  match s.scn.xch with
  | some x => x.begun || decide (x.x ≤ s.chain)
  | none => false

/-- TASK_DISPATCH (R277, R278 step 2): the lowest-numbered free lane that a ready task may take begins the first of
them. -/
def execTaskDispatch (s : State) : Host.Outcome State Fault Refusal := s.powered fun s =>
  if !s.scnOpen ∨ s.xchHolds then s
  else match (List.range 4).find? (fun l => (s.runOn l).isNone && (s.laneTakes l).isSome) with
    | some l => match s.laneTakes l with
      | some t => (s.beginRun l t)
      | none => s
    | none => s

/-- EPOCH_RELEASE (R266). -/
def execEpochRelease (task : Nat) (s : State) : Host.Outcome State Fault Refusal := s.powered fun s =>
  (s.releaseEpoch task)

/-- EVENT_START_RELEASE (R276). -/
def execEventStartRelease (task : Nat) (s : State) : Host.Outcome State Fault Refusal := s.powered fun s =>
  (s.releaseHeld task)

/-! ### Online change (R293 to R297) -/

/-- EXCHANGE_AT_X (R293 step 1). -/
def execExchangeAtX (s : State) : Host.Outcome State Fault Refusal := s.powered fun s =>
  match s.scn.xch with
  | none => s
  | some x =>
    if x.begun ∨ s.chain < x.x then s
    else s.beginXch x

/-- TYPE_VER of an instance as its header states it (R261). -/
def Bank.instVer (k : Bank) (i : InstEntry) : Nat := k.dataWord (i.off + 4) / 65536

/-- UNIT of a timer record. -/
def Bank.recUnit (k : Bank) (e : RecEntry) : Bool := bitOf (k.recByte e.inst.isNone (e.off + 5)).toNat 3

/-- The object of the old bank that an instance of the new one matches (R294). -/
def Bank.matchInst (old new : Bank) (i : InstEntry) : Option InstEntry :=
  old.insts.find? (fun j => j.key == i.key && j.type == i.type && old.instVer j == new.instVer i)

/-- The record of the old bank that a record of the new one matches (R294). -/
def Bank.matchRec (old new : Bank) (e : RecEntry) : Option RecEntry :=
  old.recs.find? (fun f => f.key == e.key && f.type == e.type
    && (decide (0x20 ≤ e.type) || old.recUnit f == new.recUnit e))

/-- Whether byte `a` of the data lies in a child instance or a record of instance number `i` (R294). -/
def Bank.covered (k : Bank) (i a : Nat) : Bool :=
  k.insts.any (fun j => j.parent == some i && decide (j.off ≤ a) && decide (a < j.off + k.instSize j.off))
    || k.recs.any (fun e => e.inst == some i && decide (e.off ≤ a) && decide (a < e.off + recSize e.type))

/-- Carry one instance's static data across (R294). -/
def Bank.carryInst (old new : Bank) (i : Nat) : Bank :=
  match new.insts[i]? with
  | none => new
  | some x => match old.matchInst new x with
    | none => new
    | some y =>
      let n := Nat.min (new.instSize x.off) (old.instSize y.off)
      (List.range n).foldl (fun k b =>
        if b < 16 ∨ k.covered i (x.off + b) then k else k.setData (x.off + b) (old.dataByte (y.off + b))) new

/-- Carry one record's state across (R294): a timer's Q, IN, RUN, FRAC, ET and LAST, a counter's Q, IN and CV, an
edge's IN, the whole of a SEND or STK record. An unmatched record starts as the image has it. -/
def Bank.carryRec (old new : Bank) (init : Bank) (e : RecEntry) : Bank :=
  let m := e.inst.isNone
  let copy := fun (k : Bank) (from_ : Bank) (fm : Bool) (fo off n : Nat) =>
    (List.range n).foldl (fun k b => Bank.putRecByte m k (e.off + off + b) (from_.recByte fm (fo + off + b))) k
  let k0 := copy new init m e.off 0 (recSize e.type)
  match old.matchRec init e with
  | none => k0
  | some f =>
    let fm := f.inst.isNone
    let ofl := (old.recByte fm (f.off + 5)).toNat
    let nfl := (k0.recByte m (e.off + 5)).toNat
    if e.type = 0x40 ∨ e.type = 0x41 then copy k0 old fm f.off 0 (recSize e.type)
    else if e.type < 0x20 then
      copy (k0.putRec m (e.off + 5) 1 (putBits nfl 0 3 ofl)) old fm f.off 6 10
    else if e.type < 0x30 then copy (k0.putRec m (e.off + 5) 1 (putBits nfl 0 2 ofl)) old fm f.off 8 4
    else k0.putRec m (e.off + 5) 1 (putBits nfl 1 1 (ofl / 2))

/-- Carry M across up to the smaller M_SIZE (R295). -/
def Bank.carryMem (old new : Bank) (keep : Bool) : Bank :=
  if keep then (List.range (Nat.min old.mSize new.mSize)).foldl (fun k a => k.setMem a (old.memByte a)) new else new

/-- The new bank with the running state carried across (R294, R295). -/
def Bank.carry (old new : Bank) (keep : Bool) : Bank :=
  let k1 := (List.range new.insts.length).foldl (fun k i => old.carryInst k i) (old.carryMem new keep)
  new.recs.foldl (fun k e => old.carryRec k new e) k1

/-- Open records follow their match into the new bank, or lose their record (R294). -/
def moveOpen (old new : Bank) (o : OpenRec) : OpenRec :=
  match old.recs.find? (fun f => f.inst.isNone == o.inM && f.off == o.addr) with
  | none => { o with dropped := true }
  | some f => match new.recs.find? (fun e => old.matchRec new e == some f) with
    | some e => { o with inM := e.inst.isNone, addr := e.off }
    | none => { o with dropped := true }

/-- The Q image of a task in the new bank takes the present values of its points, which count as last written
(R295). -/
def State.fillOutputs (s : State) (t : Nat) (io : List IoEntry) : State :=
  (List.range io.length).foldl (fun a k =>
    match io[k]? with
    | some e =>
      if !e.isQ then a
      else
        let v := (a.point e.point).value
        let x := a.taskRt t
        let put := fun (m : Tbl Byte) (i : Nat) (b : Byte) => tset (fun _ => 0#8) m i b
        let q := if e.width = 0 then put x.q e.off (setBitOf (tget (fun _ => 0#8) x.q e.off) e.bit (v != 0))
                 else writeLe put x.q e.off (leBytes (if e.width = 2 then 4 else 8) v.toNat)
        let a1 := a.setTaskRt t { x with q := q }
        let vq := a1.qValue t e
        { a1 with scn := { a1.scn with lastVals := tput a1.scn.lastVals (t * 65536 + k) vq } }
    | none => a) s

/-- A task of the new bank after the exchange (R293, R302): FIRST = 1, WARN from its entry, its outputs filled; one that
the new bank does not run goes OFF. -/
def State.retask (s : State) (n : Nat) : State :=
  match s.taskEntry n with
  | none => s.taskOff n
  | some e =>
    let x := s.taskRt n
    let s1 := s.setTaskRt n { x with first := true, i := [], q := [], ran := false }
    let s2 := ((s1.setFld (Reg.SCN_TnCTL n) 16 8 e.warn).setNum (Reg.SCN_TnRUNS n) 0).fillOutputs n e.io
    if !s2.mayWake n then s2.taskOff n
    else
      let s3 := if s2.taskSt n = TaskSt.OFF then s2.setTaskSt n TaskSt.WAITING else s2
      if e.event then s3.armNext n else s3

/-- EXCHANGE_CARRYOVER (R293 to R297): with every lane free the state is carried across, the outputs no longer driven
take their defaults, and the new bank becomes active. -/
def execExchangeCarryover (s : State) : Host.Outcome State Fault Refusal := s.powered fun s =>
  match s.scn.xch with
  | none => s
  | some x =>
    let b := s.activeB
    match (if b then s.scn.bankA else s.scn.bankB) with
    | none => s
    | some new =>
      if !x.begun ∨ s.scn.lanes ≠ [] then s
      else
        let old := s.bank b
        let newOut := (new.tasks.map TaskEntry.outPoints).flatten
        let gone := ((old.tasks.map TaskEntry.outPoints).flatten.filter (fun p => !newOut.contains p)).eraseDups
        let im := (new.insts.filter (fun i => (old.matchInst new i).isSome)).length
        let rm := (new.recs.filter (fun e => (old.matchRec new e).isSome)).length
        let rd := (old.recs.filter (fun f => !new.recs.any (fun e => old.matchRec new e == some f))).length
        let s1 := gone.foldl State.toDefault s
        let s2 := s1.setBank (!b) (some (old.carry new x.keepM))
        let s3 := { s2 with scn := { s2.scn with opens := s2.scn.opens.map (moveOpen old new), lastVals := [], xch := none,
                                                 afterXch := x.tag.isSome, lastKeep := x.keepM } }
        let s4 := ((s3.setFlag Reg.SCN_BANK 0 (!b)).setFlag Reg.SCN_BANK 3 false).showTasks
        let s5 := s4.forN 16 State.retask
        let s6 := ((s5.setNum Reg.SCN_XCH_MATCH (rm % 65536 + im * 65536)).setNum Reg.SCN_XCH_NEW
          ((new.recs.length - rm) % 65536 + (new.insts.length - im) * 65536)).setNum Reg.SCN_XCH_DEL
            (rd % 65536 + gone.length * 65536)
        let s7 := ((s6.setNum64 Reg.SCN_XCH_CHAIN_LO x.x).setNum Reg.SCN_CLEAN_CNT 0).raiseIrq Blk.SCN 5
        (match x.tag with
          | some t => s7.decideOp t St.OK (BitVec.ofNat 32 x.x)
          | none => s7)

/-! ### Operations (R300) -/

/-- EXCHANGE (R293): arms the exchange at X, or at the present chainage for 0 or a chainage passed. Without a loaded
inactive bank it completes FAIL_INVALID, beside another exchange FAIL_CONFLICT. -/
def execExchange (tag : Nat) (s : State) : Host.Outcome State Fault Refusal := s.powered fun s =>
  match s.activeOp tag Blk.SCN 2 with
  | none => s
  | some o =>
    let x := paramField o.param 0 8
    if o.ctx ≠ 0 ∨ s.mode = Mode.MINIMAL then (s.decideOp tag St.FAIL_DENIED 0)
    else if s.scn.xch.isSome then (s.decideOp tag St.FAIL_CONFLICT 0)
    else if (if s.activeB then s.scn.bankA else s.scn.bankB).isNone then (s.decideOp tag St.FAIL_INVALID 0)
    else
      let at_ := if x ≤ s.chain then s.chain else x
      let s1 := { s with scn := { s.scn with xch := some ⟨some tag, at_, bitOf (paramField o.param 8 1) 0, false⟩ } }
      ((s1.setFlag Reg.SCN_BANK 3 true).setFlag Reg.SCN_BANK 4 false)

/-- UNLOAD (R300). -/
def execUnload (tag : Nat) (s : State) : Host.Outcome State Fault Refusal := s.powered fun s =>
  match s.activeOp tag Blk.SCN 3 with
  | none => s
  | some o =>
    if o.ctx ≠ 0 then (s.decideOp tag St.FAIL_DENIED 0)
    else if s.scn.xch.isSome then (s.decideOp tag St.FAIL_CONFLICT 0)
    else (((s.setBank (!s.activeB) none).showBank (!s.activeB)).decideOp tag St.OK 0)

/-- HOST_EN of a task changes (R291). -/
def State.setHostEn (s : State) (t : Nat) (on : Bool) : State :=
  let s1 := s.setFlag (Reg.SCN_TnCTL t) 0 on
  let st := s1.taskSt t
  if on then
    let s2 := s1.setTaskRt t { s1.taskRt t with offAfter := false }
    if st = TaskSt.STOPPED ∨ (st = TaskSt.OFF ∧ s2.mayWake t) then s2.wakeTask t else s2
  else if st = TaskSt.RUNNING ∨ st = TaskSt.OUTPUT then s1.setTaskRt t { s1.taskRt t with offAfter := true }
  else if st = TaskSt.OFF then s1
  else (s1.taskOff t).setFld (Reg.SCN_TnSTAT t) 4 4 Stop.HOST

/-- TASK_EN (R291, R300). -/
def execTaskEn (tag : Nat) (s : State) : Host.Outcome State Fault Refusal := s.powered fun s =>
  match s.activeOp tag Blk.SCN 4 with
  | none => s
  | some o =>
    let t := paramField o.param 0 1
    if o.ctx ≠ 0 then (s.decideOp tag St.FAIL_DENIED 0)
    else if 15 < t then (s.decideOp tag St.FAIL_INVALID 0)
    else ((s.setHostEn t (bitOf (paramField o.param 1 1) 0)).decideOp tag St.OK 0)

/-- TASK_TRIGGER (R276, R300), behind a run that ends in its SYS cycle. -/
def execTaskTrigger (tag : Nat) (s : State) : Host.Outcome State Fault Refusal :=
  s.powered fun s => s.yielding Rank.EXPIRY (.taskTrigger tag) fun s =>
  match s.activeOp tag Blk.SCN 5 with
  | none => s
  | some o =>
    let t := paramField o.param 0 1
    match s.taskEntry t with
    | none => (s.decideOp tag St.FAIL_INVALID 0)
    | some e =>
      if 15 < t then (s.decideOp tag St.FAIL_INVALID 0)
      else if o.ctx ≠ e.ctx then (s.decideOp tag St.FAIL_DENIED 0)
      else if !e.event then (s.decideOp tag St.FAIL_INVALID 0)
      else
        let (st, s1) := s.eventStart t
        (s1.decideOp tag st 0)

/-- FAULT_CLEAR of SCN (R291, R300). -/
def execScnFaultClear (tag : Nat) (s : State) : Host.Outcome State Fault Refusal := s.powered fun s =>
  match s.activeOp tag Blk.SCN 6 with
  | none => s
  | some o =>
    let t := paramField o.param 0 1
    if o.ctx ≠ 0 then (s.decideOp tag St.FAIL_DENIED 0)
    else if 15 < t ∨ s.taskSt t ≠ TaskSt.STOPPED then (s.decideOp tag St.FAIL_INVALID 0)
    else ((s.wakeTask t).decideOp tag St.OK 0)

end Sys2Proof.Machine
end

