-- ==== Sys2Proof/Machine/FbcCore.lean ====
section
/-! DEFINITION. What the field-bus channels share: nodes and their loss (R477 to R480), frames in flight (R478, R482 to
R486), receive entries and locks (R487 to R489), error states and bus-off (R490 to R494), joining and leaving the bus
(R495, R496). -/

namespace Sys2Proof.Machine

/-! CHc_STAT state (R498). -/
namespace CanSt
abbrev NONE : Nat := 0
abbrev ACTIVE : Nat := 1
abbrev PASSIVE : Nat := 2
abbrev BUS_OFF : Nat := 3
end CanSt

/-- A channel's state. -/
def State.canSt (s : State) (c : Nat) : Nat := s.fld (Reg.FBC_CHc_STAT c) 0 2

/-- Whether a channel takes part in the bus: error active or passive. -/
def State.onBus (s : State) (c : Nat) : Bool := s.canSt c == CanSt.ACTIVE || s.canSt c == CanSt.PASSIVE

/-- The node whose TX buffer this is, if any. -/
def State.nodeOfTx (s : State) (c b : Nat) : Option Nat :=
  (List.range 32).find? fun n =>
    s.nodeEn c n && s.flag (Reg.FBC_NDn_CFG c n) 14 && s.fld (Reg.FBC_NDn_CFG c n) 8 6 == b

/-- Whether a buffer is an enabled TX buffer. -/
def State.isTx (s : State) (c b : Nat) : Bool :=
  s.flag (Reg.FBC_MBb_CFG c b) 0 && s.flag (Reg.FBC_MBb_CFG c b) 1

/-- Set or clear PENDING. -/
def State.setPending (s : State) (c b : Nat) (p : Bool) : State := s.setFlag (Reg.FBC_MBb_HDR c b) 19 p

/-- Show the entries of both FIFOs (R498). -/
def State.showFifos (s : State) (c : Nat) : State :=
  (s.setFld (Reg.FBC_CHc_FIFO_STAT c) 0 6 (s.canCh c).fifo.length).setFld (Reg.FBC_CHc_FIFO_STAT c) 16 7
    (s.canCh c).rx.length

/-! ### Settling what a frame carries -/

/-- The remote write of a number, if it is still open. -/
def State.remoteOf (s : State) (id : Nat) : Option RemoteWrite := s.scn.remote.find? (fun w => w.id == id)

/-- Settle remote writes by their numbers. -/
def State.settleIds (s : State) (ids : List Nat) (status : Nat) : State :=
  ids.foldl (fun a id =>
    match a.remoteOf id with
    | some w => a.settleRemote w status
    | none => a) s

/-- Writes that go back to waiting for their buffer's next transmission. -/
def State.rehand (s : State) (ids : List Nat) : State := ids.foldl (fun a id => a.setPhase id .handed) s

/-- Clear a buffer's frame: what entered it after the frame in flight began stays pending (R478). -/
def State.clearBuf (s : State) (c b : Nat) : State :=
  let x := s.canBuf c b
  (s.setCanBuf c b { x with tag := none, attempts := 0, clashes := 0, newer := false }).setPending c b x.newer

/-- Take an entry off the transmit FIFO; an operation that waited outside it enters (R486). -/
def State.popFifo (s : State) (c tag : Nat) : State :=
  let x := s.canCh c
  let f := x.fifo.filter (fun e => e.tag != tag)
  let w := x.wait.filter (fun e => e.tag != tag)
  let k := 32 - f.length
  (s.setCanCh c { x with fifo := f ++ w.take k, wait := w.drop k }).showFifos c

/-- Drop a transmit of an operation that has been decided: from a buffer, the FIFO or its wait. -/
def State.dropCanTx (s : State) (tag : Nat) : State :=
  s.forN 4 fun a c =>
    let a1 := if ((a.canCh c).fifo ++ (a.canCh c).wait).any (fun e => e.tag == tag) then a.popFifo c tag else a
    a1.forN 64 fun b k => if (b.canBuf c k).tag = some tag then b.clearBuf c k else b

/-! ### Loss of a node (R480, R282) -/

/-- The input points of a node. -/
def State.nodePoints (s : State) (c n : Nat) : List Nat :=
  (s.fbc.inMap.filter (fun e => e.2.channel == c && e.2.node == n)).map (·.1)

/-- A node is lost: its input points turn STALE, SCN learns it, its pending output frame is discarded (R480). -/
def State.loseNode (s : State) (c n : Nat) : State :=
  let s1 := (s.nodePoints c n).foldl (fun a i => a.setQuality Blk.FBC i Q.STALE) s
  let s2 := (s1.setFld (Reg.FBC_NDn_STAT c n) 0 2 NdSt.LOST).setCanNode c n { s1.canNode c n with sent := [] }
  let s3 := s2.stationLost (.node c n)
  let cfg := Reg.FBC_NDn_CFG c n
  let s4 := if s3.flag cfg 14 then
      let b := s3.fld cfg 8 6
      (s3.setCanBuf c b { s3.canBuf c b with newer := false }).clearBuf c b
    else s3
  s4.raiseIrq Blk.FBC 4

/-- Every node of a channel is lost. -/
def State.loseNodes (s : State) (c : Nat) : State :=
  s.forN 32 fun a n => if a.nodeEn c n ∧ a.fld (Reg.FBC_NDn_STAT c n) 0 2 ≠ NdSt.NONE then a.loseNode c n else a

/-! ### Frames and registers -/

/-- Write a frame's bytes into a buffer's data words. -/
def State.putCanData (s : State) (base : Nat → Nat) (d : List Byte) : State :=
  s.forN 16 fun a w => a.setNum (base w) (leNat ((d.drop (4 * w)).take 4))

/-- [10:0] of MBb_HDR for a frame. -/
def CanFrame.hdr (f : CanFrame) (esi : Bool) : Nat :=
  let b := fun (x : Bool) (k : Nat) => if x then 2 ^ k else 0
  f.data.length % 128 + b f.fdf 7 + b f.brs 8 + b esi 9 + b f.xtd 10

/-- The frame a buffer sends: the one FRAME_TX put there, or its record with the configured identifier (R478, R500). -/
def State.bufFrame (s : State) (c b : Nat) : CanFrame :=
  match (s.canBuf c b).frame with
  | some f => f
  | none =>
    let g := Reg.FBC_MBb_CFG c b
    let d := match s.handedNow c b with
      | some (_, _, d) => d.take (s.fld g 6 7)
      | none => s.canBytes c b (s.fld g 6 7)
    ⟨s.fld (Reg.FBC_MBb_ID c b) 0 29, s.flag g 3, s.flag g 4, s.flag g 5, d⟩

/-- Whether a buffer had a frame pending before this FLD cycle's hand-over, which no frame of the cycle carries (R478). -/
def State.bufReady (s : State) (c b : Nat) : Bool :=
  match s.handedNow c b with
  | some (p, _, _) => p
  | none => s.bufPending c b

/-- The order of arbitration: the lowest identifier first, a base frame before an extended one of the same prefix
(R482, R485, R486). -/
def CanFrame.order (f : CanFrame) : Nat := if f.xtd then 2 * f.ident + 1 else 2 * (f.ident * 2 ^ 18)

/-! ### Receive entries and locks (R487 to R489) -/

/-- Show a received frame in an RX buffer. -/
def State.showRx (s : State) (c b : Nat) (x : CanRx) : State :=
  let h := Reg.FBC_MBb_HDR c b
  let s1 := (s.setFld h 0 11 (x.frame.hdr x.esi)).setFlag h 16 true
  (s1.setNum (Reg.FBC_MBb_STAMP c b) x.stamp).putCanData (fun w => Reg.FBC_MBb_DATA c b w) x.frame.data

/-- Show the head of the receive FIFO; an empty one shows 0 (R498). -/
def State.showRxHead (s : State) (c : Nat) : State :=
  let locked := s.flag (Reg.FBC_CHc_RXF_HDR c) 18
  let s1 := match (s.canCh c).rx with
    | x :: _ =>
      (((s.setNum (Reg.FBC_CHc_RXF_HDR c) (x.frame.hdr x.esi + 2 ^ 16)).setNum (Reg.FBC_CHc_RXF_IDR c) x.frame.ident).setNum
        (Reg.FBC_CHc_RXF_STAMP c) x.stamp).putCanData (fun w => Reg.FBC_CHc_RXF_DATA c w) x.frame.data
    | [] =>
      (((s.setNum (Reg.FBC_CHc_RXF_HDR c) 0).setNum (Reg.FBC_CHc_RXF_IDR c) 0).setNum (Reg.FBC_CHc_RXF_STAMP c) 0).putCanData
        (fun w => Reg.FBC_CHc_RXF_DATA c w) []
  (s1.setFlag (Reg.FBC_CHc_RXF_HDR c) 18 locked).showFifos c

/-- Release the channel's lock (R488, R489): the FIFO head is popped; a buffer's shadow becomes its content, and a buffer
without one has been read. -/
def State.releaseLock (s : State) (c : Nat) : State :=
  match (s.canCh c).lock with
  | none => s
  | some (e, _) =>
    let s1 := s.setCanCh c { s.canCh c with lock := none }
    if e = 64 then
      ((s1.setCanCh c { s1.canCh c with rx := (s1.canCh c).rx.tail }).setFlag (Reg.FBC_CHc_RXF_HDR c) 18 false).showRxHead c
    else
      let h := Reg.FBC_MBb_HDR c e
      let s2 := s1.setFlag h 18 false
      match (s2.canBuf c e).shadow with
      | some x => (s2.setCanBuf c e { s2.canBuf c e with shadow := none }).showRx c e x
      | none => (s2.setFlag h 16 false).setFlag h 17 false

/-- A host read of a header: another entry's lock ends, and this entry is locked (R488). -/
def State.lockEntry (s : State) (c e : Nat) : State :=
  let s1 := if ((s.canCh c).lock.map (·.1)) = some e then s else s.releaseLock c
  if e = 64 then
    if (s1.canCh c).rx = [] then s1
    else (s1.setCanCh c { s1.canCh c with lock := some (64, s1.clk) }).setFlag (Reg.FBC_CHc_RXF_HDR c) 18 true
  else if s1.flag (Reg.FBC_MBb_CFG c e) 0 ∧ !s1.isTx c e then
    (s1.setCanCh c { s1.canCh c with lock := some (e, s1.clk) }).setFlag (Reg.FBC_MBb_HDR c e) 18 true
  else s1

/-- A frame for an RX buffer: into its shadow while the buffer is locked, with OVR when the shadow is full (R489). -/
def State.storeRx (s : State) (c b : Nat) (x : CanRx) : State :=
  if ((s.canCh c).lock.map (·.1)) = some b then
    let y := s.canBuf c b
    let s1 := if y.shadow.isSome then s.setFlag (Reg.FBC_MBb_HDR c b) 17 true else s
    s1.setCanBuf c b { y with shadow := some x }
  else s.showRx c b x

/-- A frame for the receive FIFO (R487). -/
def State.pushRx (s : State) (c : Nat) (x : CanRx) : State :=
  let y := s.canCh c
  if 64 ≤ y.rx.length then (s.satInc (Reg.FBC_CHc_RXOVR_CNT c) 0 32 1).raiseIrq Blk.FBC 8
  else (s.setCanCh c { y with rx := y.rx ++ [x] }).showRxHead c

/-! ### A node's input record (R477, R479) -/

/-- A field of a node record as a point's value. -/
def recField (d : List Byte) (f : NodeField) : Nat :=
  if f.len = 0 then (if bitOf (d.getD f.off 0).toNat f.bit then 1 else 0) else leNat ((d.drop f.off).take f.len)

/-- A complete record of a node arrives: the node is UP, its points are written in one burst, a confirmed output frame is
taken (R477, R479, R480). -/
def State.nodeInput (s : State) (c n : Nat) (d : List Byte) : State :=
  let st := s.fld (Reg.FBC_NDn_STAT c n) 0 2
  let x := s.canNode c n
  let num := (d.getD 0 0).toNat
  let hit := if s.flag (Reg.FBC_NDn_CFG c n) 15 then x.sent.filter (fun e => e.1 == num) else []
  let s1 := s.setCanNode c n ⟨s.chain, x.sent.filter (fun e => !hit.contains e)⟩
  let s2 := (s1.setFld (Reg.FBC_NDn_STAT c n) 0 2 NdSt.UP).setFld (Reg.FBC_NDn_STAT c n) 16 16 0
  let s3 := if st = NdSt.UP then s2 else s2.raiseIrq Blk.FBC 5
  let s4 := (s3.fbc.inMap.filter (fun e => e.2.channel == c && e.2.node == n)).foldl (fun a e =>
    a.writePoint Blk.FBC e.1 (BitVec.ofNat 64 (recField d e.2)) Q.GOOD) s3
  hit.foldl (fun a e => a.settleIds e.2 St.OK) s4

/-! ### Error counters and bus-off (R491 to R494) -/

/-- Set TEC and REC and the error state they give (R491). -/
def State.setCounters (s : State) (c tec rc : Nat) : State :=
  let s1 := (s.setFld (Reg.FBC_CHc_ERR c) 0 9 (Nat.min tec 511)).setFld (Reg.FBC_CHc_ERR c) 9 8 (Nat.min rc 255)
  let st := if 255 < tec then CanSt.BUS_OFF else if 128 ≤ tec ∨ 128 ≤ rc then CanSt.PASSIVE else CanSt.ACTIVE
  if s1.canSt c = st then s1 else (s1.setFld (Reg.FBC_CHc_STAT c) 0 2 st).raiseIrq Blk.FBC 1

/-- The tags a buffer's pending transmit carries, ascending: its FRAME_TX and the tracked writes to its node. -/
def State.bufTags (s : State) (c b : Nat) : List Nat :=
  let ws := match s.nodeOfTx c b with
    | some n => (s.nodeWrites c n).filterMap (·.tag)
    | none => []
  sortBy (fun (x y : Nat) => decide (x ≤ y)) ((s.canBuf c b).tag.toList ++ ws)

/-- End one operation that a buffer carries. -/
def State.endCarried (s : State) (t status : Nat) : State :=
  match s.scn.remote.find? (fun w => w.tag == some t) with
  | some w => s.settleRemote w status
  | none => s.decideOp t status 0

/-- End every pending transmit of a channel: the buffers ascending, tags ascending within one, then the FIFO in its order
(R492 step 1). -/
def State.failTransmits (s : State) (c status : Nat) : State :=
  let s1 := s.forN 64 fun a b =>
    let a1 := (a.bufTags c b).foldl (fun x t => x.endCarried t status) a
    if a1.isTx c b then (a1.setCanBuf c b { CanBuf.fresh with frame := (a1.canBuf c b).frame }).setPending c b false else a1
  let x := s1.canCh c
  let s2 := (x.fifo ++ x.wait).foldl (fun a e => a.decideOp e.tag status 0) s1
  (s2.setCanCh c { s2.canCh c with fifo := [], wait := [], fly := none }).showFifos c

/-- Ten seconds in SYS cycles. -/
def tenSec : Nat := 10000 * msClk

/-- Bus-off (R492, R493). -/
def State.busOff (s : State) (c : Nat) : State :=
  let offs := s.clk :: (s.canCh c).offs.filter (fun t => decide (s.clk < t + tenSec))
  let s1 := (s.satInc (Reg.FBC_CHc_BUSOFF_CNT c) 0 32 1).setCanCh c { s.canCh c with offs := offs }
  let s2 := (s1.setFld (Reg.FBC_CHc_ERR c) 24 8 (Nat.min 255 offs.length)).raiseIrq Blk.FBC 2
  let s3 := (s2.failTransmits c St.FAIL_BUS_OFF).loseNodes c
  let lim := s3.fld (Reg.FBC_CHc_TMR c) 0 8
  if !s3.flag (Reg.FBC_CHc_CFG c) 5 then s3
  else if lim ≠ 0 ∧ lim ≤ offs.length then s3.setFlag (Reg.FBC_CHc_STAT c) 6 true
  else s3.setFlag (Reg.FBC_CHc_STAT c) 2 true

/-- Enter or leave restricted operation (R494). -/
def State.setRestrict (s : State) (c : Nat) (on : Bool) : State :=
  (s.setFlag (Reg.FBC_CHc_CTL c) 0 on).setFlag (Reg.FBC_CHc_STAT c) 3 on

/-! ### The schedule (R481 to R485) -/

/-- Rows of the matrix cycle. -/
def State.canRows (s : State) (c : Nat) : Nat := 2 ^ Nat.min 4 (s.fld (Reg.FBC_CHc_TT c) 0 3)

/-- The angle within the matrix cycle. -/
def State.canAngle (s : State) (c : Nat) : Nat := (s.chain + 65536 - s.fld (Reg.FBC_CHc_TT c) 16 16) % 65536

/-- ENABLE in au (R482, R498). -/
def State.canEnable (s : State) (c : Nat) : Nat := 16 * Nat.max 1 (s.fld (Reg.FBC_CHc_TMR c) 24 8)

/-- Event mode (R485). -/
def State.eventMode (s : State) (c : Nat) : Bool :=
  !s.flag (Reg.FBC_CHc_CFG c) 2 || !s.flag Reg.LAT_STATE 3
    || (s.flag (Reg.FBC_CHc_CFG c) 3 && decide (4 ≤ (s.canCh c).missRun))

/-- CHc_STAT.FALLBACK follows the mode; its interrupt is set on entry. -/
def State.noteFallback (s : State) (c : Nat) : State :=
  let e := s.eventMode c
  let was := s.flag (Reg.FBC_CHc_STAT c) 4
  let s1 := s.setFlag (Reg.FBC_CHc_STAT c) 4 e
  if e && !was then s1.raiseIrq Blk.FBC 7 else s1

/-- Whether the channel may start a frame now: on the bus, not restricted, not waiting under R476, none in flight. -/
def State.maySend (s : State) (c : Nat) : Bool :=
  s.onBus c && !s.flag (Reg.FBC_CHc_STAT c) 3 && (s.canCh c).swapWait.isNone && (s.canCh c).fly.isNone
    && !s.inSrst Blk.FBC && !s.sup.pfail

/-- Send a frame on the bus. -/
def State.emitCan (s : State) (c : Nat) (f : CanFrame) : State :=
  s.emit (.canFrame c f.ident ((if f.xtd then 1 else 0) + (if f.fdf then 2 else 0) + (if f.brs then 4 else 0)) f.data)

/-- The start of frame of a TX buffer (R478, R479): a node's record takes a new confirmation number, and the writes
handed to the node before this FLD cycle are carried by this frame. -/
def State.startBuf (s : State) (c b : Nat) (free : Bool) : State :=
  let x := s.canBuf c b
  let now := s.handedNow c b
  let s1 := (s.setCanBuf c b { x with attempts := x.attempts + 1, newer := now.isSome }).setNum (Reg.FBC_MBb_STAMP c b) s.chain
  let (ws, num, s2) : List Nat × Option Nat × State := match s1.nodeOfTx c b with
    | some n =>
      let ws := match now with
        | some (_, ids, _) => ids
        | none => (s1.nodeWrites c n).map (fun (w : RemoteWrite) => w.id)
      let s2 := ws.foldl (fun (a : State) id => a.setPhase id .inFlight) s1
      if s2.flag (Reg.FBC_NDn_CFG c n) 15 then
        let k := (s2.fld (Reg.FBC_NDn_STAT c n) 8 8 + 1) % 256
        (ws, some k, (s2.setFld (Reg.FBC_NDn_STAT c n) 8 8 k).setFld (Reg.FBC_MBb_DATA c b 0) 0 8 k)
      else (ws, none, s2)
    | none => ([], none, s1)
  let g := s2.bufFrame c b
  let f := match num with
    | some k => { g with data := BitVec.ofNat 8 k :: g.data.drop 1 }
    | none => g
  let s3 := s2.setFld (Reg.FBC_MBb_HDR c b) 0 11 (f.hdr (s2.canSt c == CanSt.PASSIVE))
  (s3.setCanCh c { s3.canCh c with fly := some ⟨b, free, s3.chain, ws, num⟩ }).emitCan c f

/-- The start of frame of the transmit FIFO's head (R486). -/
def State.startFifo (s : State) (c : Nat) (e : CanTx) : State :=
  let x := s.canCh c
  let l := x.fifo.map fun (y : CanTx) => if y.tag == e.tag then { y with attempts := y.attempts + 1 } else y
  (s.setCanCh c { x with fifo := l, fly := some ⟨64, true, s.chain, [e.tag], none⟩ }).emitCan c e.frame

/-- The head of the transmit FIFO (R486). -/
def State.fifoHead (s : State) (c : Nat) : Option CanTx :=
  let l := (s.canCh c).fifo
  if s.flag (Reg.FBC_CHc_CFG c) 8 then
    l.foldl (fun m e => match m with
      | none => some e
      | some y => if e.frame.order < y.frame.order then some e else some y) none
  else l.head?

/-- Whether a buffer has a cell of an EXCLUSIVE or ARBITRATING window (R482). -/
def State.scheduled (s : State) (c b : Nat) : Bool :=
  (List.range (s.canRows c)).any fun r => (List.range (s.fld (Reg.FBC_CHc_TT c) 8 7)).any fun k =>
    let w := s.num (Reg.FBC_CHc_CELLr_k c r k)
    (bitsOf w 0 2 == 1 || bitsOf w 0 2 == 2) && bitsOf w 2 6 == b

/-- Whether a TX buffer may send: standby sends FRAME_TX frames alone (R495). -/
def State.bufMay (s : State) (c b : Nat) : Bool :=
  s.isTx c b && (s.mode == Mode.RUN || (s.canBuf c b).tag.isSome)

/-- The start of the lowest identifier among pending TX buffers and the FIFO head (R482, R485); `all`: scheduled buffers
compete too. -/
def State.startFree (s : State) (c : Nat) (all : Bool) : State :=
  let bs := (List.range 64).filter fun b => s.bufMay c b && s.bufReady c b && (all || !s.scheduled c b)
  let best := bs.foldl (fun (m : Option (Nat × Nat)) b =>
    let o := (s.bufFrame c b).order
    match m with
    | none => some (o, b)
    | some (p, _) => if o < p then some (o, b) else m) none
  match best, s.fifoHead c with
  | some (o, b), some e => if e.frame.order < o then s.startFifo c e else s.startBuf c b true
  | some (_, b), none => s.startBuf c b true
  | none, some e => s.startFifo c e
  | none, none => s

/-- A frame whose transmission ended without being sent stays pending (R482, R484): its writes wait for the next one. -/
def State.abandonFly (s : State) (c : Nat) : State :=
  match (s.canCh c).fly with
  | none => s
  | some f =>
    let s1 := s.setCanCh c { s.canCh c with fly := none }
    if f.src < 64 then (s1.rehand f.writes).setPending c f.src true else s1

/-! ### Joining and leaving the bus (R476, R495, R496) -/

/-- A channel that is off joins the bus, except in minimal mode (R495, R499). -/
def State.joinBus (s : State) (c : Nat) : State :=
  if s.flag (Reg.FBC_CHc_CFG c) 0 ∧ s.canSt c = CanSt.NONE ∧ s.mode ≠ Mode.MINIMAL then
    let wait := if s.flag (Reg.FBC_CHc_CFG c) 6 then some s.clk else none
    let s1 := (s.setFld (Reg.FBC_CHc_STAT c) 0 2 CanSt.ACTIVE).setCanCh c
      { s.canCh c with onClk := s.clk, swapWait := wait, missRun := 0, perClk := s.clk, rowAt := s.chain }
    let s2 := s1.forN 32 fun a n =>
      if a.nodeEn c n then
        (a.setFld (Reg.FBC_NDn_STAT c n) 0 2 NdSt.WAITING).setCanNode c n ⟨a.chain, []⟩
      else a
    s2.noteFallback c
  else s

/-- A channel leaves the bus: its nodes are lost (R480). -/
def State.leaveBus (s : State) (c status : Nat) : State :=
  let s1 := (s.failTransmits c status).loseNodes c
  let s2 := ((s1.canCh c).busOn.foldl (fun a e => a.decideOp e.1 status 0) s1).setCanCh c
    { s1.canCh c with busOn := [], swapWait := none }
  (s2.setFld (Reg.FBC_CHc_STAT c) 0 3 0).setFlag (Reg.FBC_CHc_STAT c) 6 false

end Sys2Proof.Machine
end

