-- ==== Sys2Proof/Machine/Fbc.lean ====
section
/-! DEFINITION. The commands of the field-bus channels (chapter 15). -/

namespace Sys2Proof.Machine

/-! ### Receiving (R487 to R489) -/

/-- The RX buffer a frame goes to: the lowest enabled one whose identifier, XTD and FDF match (R487). -/
def State.rxBuffer (s : State) (c : Nat) (f : CanFrame) : Option Nat :=
  (List.range 64).find? fun b =>
    let g := Reg.FBC_MBb_CFG c b
    s.flag g 0 && !s.flag g 1 && s.flag g 3 == f.xtd && s.flag g 4 == f.fdf && s.fld (Reg.FBC_MBb_ID c b) 0 29 == f.ident

/-- Whether the receive FIFO takes a frame (R487). -/
def State.rxFilter (s : State) (c : Nat) (f : CanFrame) : Bool :=
  let m := s.fld (Reg.FBC_CHc_RXF_MASK c) 0 29
  s.flag (Reg.FBC_CHc_CFG c) 9 || Nat.land f.ident m == Nat.land (s.fld (Reg.FBC_CHc_RXF_ID c) 0 29) m

/-- REC after a frame received without error, as ISO 11898-1 gives (R491); restricted operation leaves it (R494). -/
def State.goodRx (s : State) (c : Nat) : State :=
  let rc := s.fld (Reg.FBC_CHc_ERR c) 9 8
  if s.flag (Reg.FBC_CHc_STAT c) 3 ∨ rc = 0 then s
  else if rc ≤ 127 then s.setCounters c (s.fld (Reg.FBC_CHc_ERR c) 0 9) (rc - 1)
  else (s.setCounters c (s.fld (Reg.FBC_CHc_ERR c) 0 9) (127 - Config.recBelow s.free)).nextFree

/-- LOCK_TMO in SYS cycles (R488, R498). -/
def State.lockClk (s : State) (c : Nat) : Nat :=
  let t := s.fld (Reg.FBC_CHc_TMR c) 16 8
  800 * (if t = 0 then 100 else t)

/-- CAN_FRAME_RX (R473, R477, R479, R487). While an entry of the channel is locked it gives way to a release of its cycle
(R489). -/
def execCanFrameRx (channel ident : Nat) (xtd fdf brs esi remote : Bool) (data : List Byte) (sof : Nat) (s : State) :
    Host.Outcome State Fault Refusal := s.powered fun s =>
  let c := channel
  if 3 < c ∨ !s.onBus c then s
  else if (s.canCh c).lock.isSome ∧ s.together then s.defer Rank.CLAIMED (.canFrameRx c ident xtd fdf brs esi remote data sof)
  else if remote then ((s.goodRx c).satInc (Reg.FBC_CHc_RXERR_CNT c) 0 32 1)
  else if fdf ∧ !s.flag (Reg.FBC_CHc_CFG c) 1 then s
  else
    let f : CanFrame := ⟨ident, xtd, fdf, brs, data⟩
    let x : CanRx := ⟨f, esi, sof % 2 ^ 32⟩
    let s1 := s.goodRx c
    match s1.rxBuffer c f with
    | some b =>
      ((s1.storeRx c b x).forN 32 fun a n =>
        if a.nodeEn c n ∧ a.flag (Reg.FBC_NDn_CFG c n) 7 ∧ a.fld (Reg.FBC_NDn_CFG c n) 1 6 = b then a.nodeInput c n data
        else a)
    | none => (if s1.rxFilter c f then s1.pushRx c x else s1)

/-- Read a register for a requester. -/
def State.answerRead (s : State) (rq : Requester) (v : Word) : State := s.emit (.readData rq [v])

/-- MB_HDR_READ (R488). -/
def execMbHdrRead (rq : Requester) (channel entry : Nat) (s : State) : Host.Outcome State Fault Refusal := s.powered fun s =>
  let off := if entry = 64 then Reg.FBC_CHc_RXF_HDR channel else Reg.FBC_MBb_HDR channel entry
  if 3 < channel ∨ 64 < entry then s
  else
    let s1 := s.lockEntry channel entry
    (s1.answerRead rq (s1.reg off))

/-- Where the last word of an entry stands: data word ceil(length ÷ 4) − 1, or the STAMP word of an empty frame
(R488). -/
def State.lastWord (s : State) (c e : Nat) : Nat :=
  if e = 64 then
    let n := s.fld (Reg.FBC_CHc_RXF_HDR c) 0 7
    if n = 0 then Reg.FBC_CHc_RXF_STAMP c else Reg.FBC_CHc_RXF_DATA c ((n + 3) / 4 - 1)
  else
    let n := s.fld (Reg.FBC_MBb_HDR c e) 0 7
    if n = 0 then Reg.FBC_MBb_STAMP c e else Reg.FBC_MBb_DATA c e ((n + 3) / 4 - 1)

/-- MB_LAST_WORD_READ (R488): the word is answered, then the entry's lock is released. -/
def execMbLastWordRead (rq : Requester) (channel entry : Nat) (s : State) : Host.Outcome State Fault Refusal := s.powered fun s =>
  if 3 < channel ∨ 64 < entry then s
  else
    let s1 := s.answerRead rq (s.reg (s.lastWord channel entry))
    (if ((s1.canCh channel).lock.map (·.1)) = some entry then s1.releaseLock channel else s1)

/-- LOCK_TIMEOUT (R488). -/
def execLockTimeout (channel : Nat) (s : State) : Host.Outcome State Fault Refusal := s.powered fun s =>
  match (s.canCh channel).lock with
  | some (_, c0) =>
    if s.clk < c0 + s.lockClk channel then s
    else ((s.releaseLock channel).satInc (Reg.FBC_CHc_LOCKTMO_CNT channel) 0 32 1)
  | none => s

/-! ### Sending -/

/-- CAN_TX_DONE (R479, R497): the frame in flight is sent and acknowledged. A FRAME_TX completes OK; a node's frame is
taken at once, or waits for its confirmation. -/
def execCanTxDone (channel : Nat) (s : State) : Host.Outcome State Fault Refusal := s.powered fun s =>
  let c := channel
  match (s.canCh c).fly with
  | none => s
  | some f =>
    let s1 := (s.setCanCh c { s.canCh c with fly := none }).setCounters c (s.fld (Reg.FBC_CHc_ERR c) 0 9 - 1)
      (s.fld (Reg.FBC_CHc_ERR c) 9 8)
    let res := fun (n : Nat) => BitVec.ofNat 32 (Nat.min 255 n + f.sof % 65536 * 65536)
    if f.src = 64 then
      match (s1.canCh c).fifo.find? (fun e => f.writes.contains e.tag) with
      | some e => ((s1.decideOp e.tag St.OK (res e.attempts)).popFifo c e.tag)
      | none => s1
    else if f.src < 64 then
      let x := s1.canBuf c f.src
      let s2 := match x.tag with
        | some t => s1.decideOp t St.OK (res x.attempts)
        | none => s1
      let s3 := s2.clearBuf c f.src
      match f.seq, s3.nodeOfTx c f.src with
      | some k, some n =>
        let open_ := f.writes.filter (fun id => (s3.remoteOf id).isSome)
        let s4 := open_.foldl (fun a id => a.setPhase id .confirming) s3
        let y := s4.canNode c n
        (if s4.fld (Reg.FBC_NDn_STAT c n) 0 2 = NdSt.LOST then s4
          else s4.setCanNode c n { y with sent := y.sent.filter (fun e => e.1 != k) ++ [(k, open_)] })
      | _, _ => (s3.settleIds f.writes St.OK)
    else s1

/-- What becomes of the frame in flight after an error in it (R484, R490). -/
def State.flyError (s : State) (c : Nat) (clash : Bool) : State :=
  match (s.canCh c).fly with
  | none => s
  | some f =>
    let s1 := s.abandonFly c
    if !clash then s1
    else
      let s2 := (s1.satInc (Reg.FBC_CHc_CLASH_CNT c) 0 32 1).raiseIrq Blk.FBC 3
      if f.src = 64 then
        match (s2.canCh c).fifo.find? (fun e => f.writes.contains e.tag) with
        | some e =>
          if 2 ≤ e.clashes then (s2.decideOp e.tag St.FAIL_ID_CLASH 0).popFifo c e.tag
          else
            let x := s2.canCh c
            s2.setCanCh c { x with fifo := x.fifo.map fun (y : CanTx) =>
              if y.tag == e.tag then { y with clashes := y.clashes + 1 } else y }
        | none => s2
      else if f.src < 64 then
        let x := s2.canBuf c f.src
        if f.free ∧ x.clashes < 2 then s2.setCanBuf c f.src { x with clashes := x.clashes + 1 }
        else
          let s3 := match x.tag with
            | some t => s2.decideOp t St.FAIL_ID_CLASH 0
            | none => s2
          (s3.settleIds f.writes St.FAIL_ID_CLASH).clearBuf c f.src
      else s2

/-- CAN_ERROR (R490 to R494): the counters change as ISO 11898-1 gives, unless the channel is restricted; an error in a
frame of this channel ends its attempt; TEC above 255 takes the channel off the bus; REC at 96 within 10 s of bus-on
restricts it under AUTO_RESTRICT. -/
def execCanError (channel : Nat) (own clash : Bool) (tecAdd recAdd : Nat) (s : State) : Host.Outcome State Fault Refusal := s.powered fun s =>
  let c := channel
  if 3 < c ∨ !s.onBus c then s
  else
    let s1 := if own then s else s.satInc (Reg.FBC_CHc_RXERR_CNT c) 0 32 1
    if s1.flag (Reg.FBC_CHc_STAT c) 3 then s1
    else
      let s2 := if own then s1.flyError c clash else s1
      let tec := s2.fld (Reg.FBC_CHc_ERR c) 0 9 + tecAdd
      let rc := s2.fld (Reg.FBC_CHc_ERR c) 9 8 + recAdd
      let s3 := s2.setCounters c tec rc
      if 255 < tec then (s3.busOff c)
      else if s3.flag (Reg.FBC_CHc_CFG c) 4 ∧ 96 ≤ rc ∧ s3.clk < (s3.canCh c).onClk + tenSec then (s3.setRestrict c true)
      else s3

/-- BUSOFF_RECOVERED (R493): the channel is error active again; BUS_ON completes OK. -/
def execBusoffRecovered (channel : Nat) (s : State) : Host.Outcome State Fault Refusal := s.powered fun s =>
  let c := channel
  if s.canSt c ≠ CanSt.BUS_OFF ∨ !s.flag (Reg.FBC_CHc_STAT c) 2 then s
  else
    let s1 := (s.setFlag (Reg.FBC_CHc_STAT c) 2 false).setCounters c 0 0
    let wait := if s1.flag (Reg.FBC_CHc_CFG c) 6 then some s1.clk else none
    let x := s1.canCh c
    let s2 := x.busOn.foldl (fun a e => a.decideOp e.1 St.OK e.2) s1
    (s2.setCanCh c { s2.canCh c with busOn := [], onClk := s2.clk, swapWait := wait })

/-- The reference message of a row (R483): row number and cycle count, big-endian. -/
def State.refFrame (s : State) (c row : Nat) : CanFrame :=
  ⟨s.fld (Reg.FBC_CHc_REF c) 0 11, false, false, false,
    BitVec.ofNat 8 row :: beBytes 4 (s.chain / 65536 % 2 ^ 32)⟩

/-- MATRIX_ROW (R481, R483, R485): a row starts. Its reference message is sent when the bus is idle within ENABLE; one
not sent is counted, and four in a row put the channel in event mode. -/
def execMatrixRow (channel : Nat) (idle : Bool) (s : State) : Host.Outcome State Fault Refusal := s.powered fun s =>
  let c := channel
  let len := 65536 / s.canRows c
  let at_ := s.chain - s.canAngle c % len
  if 3 < c ∨ !s.onBus c ∨ !s.flag (Reg.FBC_CHc_CFG c) 2 ∨ !s.flag Reg.LAT_STATE 3 ∨ at_ ≤ (s.canCh c).rowAt then s
  else
    let row := s.canAngle c / len
    let s1 := (s.setFld (Reg.FBC_CHc_STAT c) 8 4 row).setFld (Reg.FBC_CHc_STAT c) 12 6 0
    let s2 := s1.setCanCh c { s1.canCh c with rowAt := at_ }
    if !s2.flag (Reg.FBC_CHc_CFG c) 3 then (s2.noteFallback c)
    else if idle ∧ s2.maySend c ∧ s2.mode = Mode.RUN then
      let s3 := s2.setCanCh c { s2.canCh c with missRun := 0, fly := some ⟨65, false, s2.chain, [], none⟩ }
      ((s3.emitCan c (s3.refFrame c row)).noteFallback c)
    else
      let s3 := s2.setCanCh c { s2.canCh c with missRun := (s2.canCh c).missRun + 1 }
      ((s3.satInc (Reg.FBC_CHc_REFMISS_CNT c) 0 32 1).noteFallback c)

/-- What begins in a window (R482, R485): `type` as the cell has it. -/
def State.openWindow (s : State) (c type b : Nat) : State :=
  match type with
  | 0 => s.startFree c false
  | 1 | 2 =>
    if s.bufMay c b && (s.bufReady c b || (s.flag (Reg.FBC_MBb_CFG c b) 2 && s.mode == Mode.RUN)) then s.startBuf c b false
    else s
  | _ => s

/-- TT_WINDOW (R481, R482, R484 to R486): a window of the present row has started, or in event mode the bus is idle. A
frame begins when the bus is idle within ENABLE of the window's start; a frame that loses arbitration stays pending. -/
def execTtWindow (channel column : Nat) (idle won : Bool) (s : State) : Host.Outcome State Fault Refusal := s.powered fun s =>
  let c := channel
  if 3 < c ∨ !s.onBus c then s
  else
    let s1 := s.noteFallback c
    let lose := fun (x : State) => if won then x else x.abandonFly c
    if s1.eventMode c then (if idle && s1.maySend c then lose (s1.startFree c true) else s1)
    else
      let row := s1.fld (Reg.FBC_CHc_STAT c) 8 4
      let start := (s1.canCh c).rowAt + s1.fld (Reg.FBC_CHc_COLk c column) 0 16
      let ref := column == 0 && s1.flag (Reg.FBC_CHc_CFG c) 3
      if s1.fld (Reg.FBC_CHc_TT c) 8 7 ≤ column ∨ s1.chain < start ∨ start + s1.canEnable c < s1.chain ∨ ref then s1
      else
        let s2 := s1.setFld (Reg.FBC_CHc_STAT c) 12 6 column
        let w := s2.num (Reg.FBC_CHc_CELLr_k c row column)
        (if idle && s2.maySend c then lose (s2.openWindow c (bitsOf w 0 2) (bitsOf w 2 6)) else s2)

/-- FB_PERIOD_TX (R485): in event mode every CYCLIC buffer is to be sent. -/
def execFbPeriodTx (channel : Nat) (s : State) : Host.Outcome State Fault Refusal := s.powered fun s =>
  let c := channel
  let p := s.fld (Reg.FBC_CHc_TMR c) 8 8
  if 3 < c ∨ !s.onBus c ∨ !s.eventMode c ∨ s.mode ≠ Mode.RUN ∨ s.clk < (s.canCh c).perClk + msClk * (if p = 0 then 20 else p)
  then s
  else
    let s1 := (s.noteFallback c).setCanCh c { s.canCh c with perClk := s.clk }
    (s1.forN 64 fun a b => if a.isTx c b ∧ a.flag (Reg.FBC_MBb_CFG c b) 2 then a.setPending c b true else a)

/-! ### Nodes and wiring -/

/-- NODE_LOSS (R480), behind a frame captured in its cycle. -/
def execNodeLoss (channel node : Nat) (s : State) : Host.Outcome State Fault Refusal := s.powered fun s =>
  if 3 < channel ∨ 31 < node ∨ !s.nodeDue channel node then s
  else s.yielding Rank.EXPIRY (.nodeLoss channel node) fun s => s.loseNode channel node

/-- SWAP_DETECT (R475, R476): the polarity is inverted at a bus idle. -/
def execSwapDetect (channel : Nat) (s : State) : Host.Outcome State Fault Refusal := s.powered fun s =>
  if 3 < channel ∨ !s.onBus channel ∨ !s.flag (Reg.FBC_CHc_CFG channel) 6 then s
  else (((s.setFlag (Reg.FBC_CHc_STAT channel) 5 true).setCanCh channel
    { s.canCh channel with swapWait := none }).raiseIrq Blk.FBC 6)

/-- SWAP_WAIT_END (R476). -/
def execSwapWaitEnd (channel : Nat) (seen : Bool) (s : State) : Host.Outcome State Fault Refusal := s.powered fun s =>
  match (s.canCh channel).swapWait with
  | some t =>
    if !seen ∧ s.clk < t + 100 * msClk then s
    else (s.setCanCh channel { s.canCh channel with swapWait := none })
  | none => s

/-! ### Operations (R497) -/

/-- The lengths of R497. -/
def canLength (n : Nat) : Bool := decide (n ≤ 8) || [12, 16, 20, 24, 32, 48, 64].contains n

/-- FRAME_TX of FBC (R486, R492, R497). -/
def execFbcFrameTx (tag : Nat) (data : List Byte) (s : State) : Host.Outcome State Fault Refusal := s.powered fun s =>
  match s.activeOp tag Blk.FBC 1 with
  | none => s
  | some o =>
    let c := paramField o.param 0 1
    let b := paramField o.param 1 1
    let n := paramField o.param 2 1
    let id := paramField o.param 4 4
    let host := bitOf (paramField o.param 3 1) 0
    let d := if host then data.take n else (leBytes 32 (paramField o.param 16 32)).take n
    let f : CanFrame := ⟨bitsOf id 0 29, bitOf id 29, bitOf id 30, bitOf id 31, d⟩
    let busy := ((s.canCh c).fifo ++ (s.canCh c).wait).any (fun e => e.tag == tag)
      || (List.range 64).any (fun k => (s.canBuf c k).tag == some tag)
    if busy then s
    else if o.ctx ≠ 0 ∨ s.mode = Mode.MINIMAL ∨ (c ≤ 3 ∧ !s.flag (Reg.FBC_CHc_CFG c) 0) then
      (s.decideOp tag St.FAIL_DENIED 0)
    else if 3 < c ∨ !canLength n ∨ (!f.fdf ∧ 8 < n) ∨ (f.brs ∧ !f.fdf) ∨ (!host ∧ 32 < n)
        ∨ (b ≠ 0xFF ∧ (63 < b ∨ !s.isTx c b ∨ (s.nodeOfTx c b).isSome)) then (s.decideOp tag St.FAIL_INVALID 0)
    else if s.canSt c = CanSt.BUS_OFF then (s.decideOp tag St.FAIL_BUS_OFF 0)
    else if b = 0xFF then
      let x := s.canCh c
      let e : CanTx := ⟨tag, f, 0, 0⟩
      (if x.fifo.length < 32 then (s.setCanCh c { x with fifo := x.fifo ++ [e] }).showFifos c
        else s.setCanCh c { x with wait := x.wait ++ [e] })
    else if s.bufPending c b then (s.decideOp tag St.FAIL_CONFLICT 0)
    else
      let s1 := s.setCanBuf c b ⟨some tag, some f, 0, 0, false, none, none⟩
      let s2 := (s1.setFld (Reg.FBC_MBb_HDR c b) 0 11 (f.hdr false)).putCanData (fun w => Reg.FBC_MBb_DATA c b w) d
      (s2.setPending c b true)

/-- BUS_ON (R493, R497). -/
def execBusOn (tag : Nat) (s : State) : Host.Outcome State Fault Refusal := s.powered fun s =>
  match s.activeOp tag Blk.FBC 2 with
  | none => s
  | some o =>
    let c := paramField o.param 0 1
    if (s.canCh c).busOn.any (fun e => e.1 == tag) then s
    else if o.ctx ≠ 0 ∨ s.mode = Mode.MINIMAL ∨ (c ≤ 3 ∧ !s.flag (Reg.FBC_CHc_CFG c) 0) then
      (s.decideOp tag St.FAIL_DENIED 0)
    else if 3 < c ∨ s.canSt c ≠ CanSt.BUS_OFF then (s.decideOp tag St.FAIL_INVALID 0)
    else
      let e := BitVec.ofNat 32 (s.num (Reg.FBC_CHc_ERR c) % 2 ^ 17)
      let s1 := s.setCanCh c { s.canCh c with busOn := (s.canCh c).busOn ++ [(tag, e)] }
      ((s1.setFlag (Reg.FBC_CHc_STAT c) 2 true).setFlag (Reg.FBC_CHc_STAT c) 6 false)

end Sys2Proof.Machine
end

