-- ==== Sys2Proof/Machine/StoCore.lean ====
section
/-! DEFINITION. STO's NAND blocks and jobs, homes, open writes and their durability, order of operations, and what the
end of a module write gives its block (R367 to R392). -/

namespace Sys2Proof.Machine

/-! ### Settings (R397) -/

/-- CRIT_LOCAL. -/
def State.critLocal (s : State) : Bool := s.flag Reg.STO_CFG 0

/-- SCRUB_DAYS: 0 and values above 30 read as 30. -/
def State.scrubDays (s : State) : Nat :=
  let d := s.fld Reg.STO_CFG 16 5
  if d = 0 ∨ 30 < d then 30 else d

/-- GC_FREE in %, 2 to 20. -/
def State.gcFree (s : State) : Nat := Nat.min 20 (Nat.max 2 (s.fld Reg.STO_CFG 24 5))

/-- The day on the calendar. -/
def State.today (s : State) : Nat := daysSince2000 s.rtc.cal

/-! ### Blocks (R367, R370 to R372) -/

/-- A NAND block. -/
def State.nblock (s : State) (b : Nat) : NandBlock := tget (fun _ => NandBlock.absent) s.sto.blocks b

/-- Put a NAND block. -/
def State.setNblock (s : State) (b : Nat) (x : NandBlock) : State :=
  { s with sto := { s.sto with blocks := tput s.sto.blocks b x } }

/-- The pool of a class (R374, R382). -/
def poolOf (cls : Nat) : Nat := if cls = Cls.TREND ∨ cls = Cls.BULK then 1 else 0

/-- Bytes of a block of a pool, from the NAND profile. -/
def State.blockBytes (s : State) (pool : Nat) : Nat := if pool = 0 then s.sto.blockBytes0 else s.sto.blockBytes1

/-- Whether a LUN is usable (R366, R396). -/
def State.lunUsable (s : State) (c l : Nat) : Bool := s.fld (Reg.STO_CHc_LUNl_STAT c l) 0 2 == 1

/-- The usable LUNs as 8 · channel + LUN. -/
def State.usableLuns (s : State) : List Nat := (List.range 16).filter (fun k => s.lunUsable (k / 8) (k % 8))

/-- The bytes of an object's data that a block holds. -/
def StoObj.inBlock (o : StoObj) (b : Nat) : Nat :=
  let share := fun (data : List Byte) (l : List Nat) => if l.contains b then data.length / Nat.max 1 l.length else 0
  match o.body with
  | .slots _ _ _ => 0
  | .whole d c1 c2 => share d c1 + share d c2
  | .records l _ _ => (l.map (fun r => share r.data r.blocks)).foldl (· + ·) 0

/-- Valid data in a block, open writes included. -/
def State.validBytes (s : State) (b : Nat) : Nat :=
  (s.sto.objs.map (fun e => e.2.inBlock b)).foldl (· + ·) 0
    + (s.sto.writes.filter (fun w => w.copy1.contains b || w.copy2.contains b)).length

/-- Replace a block by another in a list of places. -/
def reblock (a b : Nat) (l : List Nat) : List Nat := l.map (fun x => if x = a then b else x)

/-- Move every map entry of a block to its new copy; no version changes (R371). -/
def State.remap (s : State) (a b : Nat) : State :=
  let body := fun (x : StoBody) => match x with
    | .slots n z t => StoBody.slots n z t
    | .whole d c1 c2 => .whole d (reblock a b c1) (reblock a b c2)
    | .records l f n => .records (l.map (fun r => { r with blocks := reblock a b r.blocks })) f n
  { s with sto := { s.sto with
      objs := s.sto.objs.map (fun e => (e.1, { e.2 with body := body e.2.body }))
      writes := s.sto.writes.map fun (w : StoWrite) => { w with copy1 := reblock a b w.copy1, copy2 := reblock a b w.copy2 } } }

/-- The blocks of a pool. -/
def State.poolBlocks (s : State) (q : Nat) : Tbl NandBlock := s.sto.blocks.filter (fun e => e.2.pool == q)

/-- The bytes a class holds. -/
def State.classUsed (s : State) (k : Nat) : Nat :=
  (s.sto.objs.map (fun e => if e.2.cls = k then match e.2.body with
    | .slots n z _ => 2 * n * (z + 16)
    | .whole d _ _ => d.length
    | .records l _ _ => (l.map (fun r => r.data.length)).foldl (· + ·) 0 else 0)).foldl (· + ·) 0

/-- The pools' and classes' registers (R396), and the state of the spares (R372). -/
def State.noteSto (s : State) : State :=
  let s1 := s.forN 2 fun a q =>
    let l := a.poolBlocks q
    let good := l.filter (fun e => e.2.st != .bad)
    let cnt := fun (p : BlockSt → Bool) => (l.filter (fun e => p e.2.st)).length
    let ecs := good.map (fun e => e.2.ec)
    let a1 := (((a.setNum (Reg.STO_PLq_BLOCKS q) good.length).setNum (Reg.STO_PLq_FREE q) (cnt (· == .free))).setNum
      (Reg.STO_PLq_BAD q) (cnt (· == .bad))).setNum (Reg.STO_PLq_SPARE q) (cnt (· == .spare))
    let a2 := ((a1.setNum (Reg.STO_PLq_EC_MIN q) (ecs.foldl Nat.min (ecs.headD 0))).setNum (Reg.STO_PLq_EC_MAX q)
      (ecs.foldl Nat.max 0)).setNum (Reg.STO_PLq_EC_MEAN q) (ecs.foldl (· + ·) 0 / Nat.max 1 ecs.length)
    let sp := cnt (· == .spare)
    if l = [] then a2
    else
      let a3 := if 100 * sp < l.length ∧ l.length ≤ 100 * s.num (Reg.STO_PLq_SPARE q) then a2.raiseIrq Blk.STO 2 else a2
      if 400 * sp < l.length ∧ !a3.flag Reg.STO_STAT (1 + q) then
        (a3.setFlag Reg.STO_STAT (1 + q) true).raiseIrq Blk.STO 3
      else a3
  let s2 := s1.forN 5 fun a k =>
    let used := a.classUsed (k + 1)
    let a1 := a.setNum64 (Reg.STO_CLk_USED_LO (k + 1)) used
    if k = 0 then a1.setNum (Reg.STO_CLk_FREE 1) ((6528 * 1024 - used) / 2 ^ 20)
    else a1.setNum (Reg.STO_CLk_FREE (k + 1))
      (a1.num (Reg.STO_PLq_FREE (poolOf (k + 1))) * a1.blockBytes (poolOf (k + 1)) / 2 ^ 20)
  let s3 := s2.forN 2 fun a c => a.setFld (Reg.STO_CHc_STAT c) 8 8
    (a.sto.jobs.filter (fun j => (a.nblock j.block).channel == c)).length
  (s3.setFld Reg.STO_STAT 8 8 s3.usableLuns.length).setFld Reg.STO_UNREP 0 21 s3.sto.unrep.length

/-- A free block of a pool on a LUN, that with the lowest erase count (R371). -/
def State.freeBlock (s : State) (pool : Nat) (onLun : Nat → Bool) : Option Nat :=
  (s.sto.blocks.foldl (fun best e =>
    if e.2.pool = pool ∧ e.2.st = .free ∧ onLun (8 * e.2.channel + e.2.lun) then match best with
      | some (b, ec) => if e.2.ec < ec then some (e.1, e.2.ec) else some (b, ec)
      | none => some (e.1, e.2.ec)
    else best) (none : Option (Nat × Nat))).map (fun p => p.1)

/-- The block that takes a class's next bytes on the LUNs `onLun`: the one already taking that class, else a free one
(R371, R382). Fewer than 1 % free blocks make a write wait (R372). -/
def State.takingBlock (s : State) (cls : Nat) (onLun : Nat → Bool) : Option Nat :=
  let pool := poolOf cls
  match s.sto.blocks.find? (fun e => e.2.st == .taking cls && onLun (8 * e.2.channel + e.2.lun)
      && decide (e.2.used < s.blockBytes pool)) with
  | some e => some e.1
  | none =>
    if 100 * s.num (Reg.STO_PLq_FREE pool) < (s.poolBlocks pool).length then none else s.freeBlock pool onLun

/-- Bytes are given to a block: it closes when full. -/
def State.useBlock (s : State) (b cls n : Nat) : State :=
  let x := s.nblock b
  let used := x.used + n
  s.setNblock b { x with st := if s.blockBytes x.pool ≤ used then .closed else .taking cls, used := used,
                         reads := 0, day := s.today, worn := false }

/-- Start a NAND job. -/
def State.startJob (s : State) (b : Nat) (what : NandDo) (bytes : Nat) : State :=
  { s with sto := { s.sto with jobs := s.sto.jobs ++ [NandJob.mk s.sto.nextId b what bytes 0],
                               nextId := s.sto.nextId + 1 } }

/-- Whether a pool is read-only (R372). -/
def State.poolRo (s : State) (q : Nat) : Bool := s.flag Reg.STO_STAT (1 + q)

/-! ### Open writes -/

/-- The open write of a tag. -/
def State.stoWrite (s : State) (t : Nat) : Option StoWrite := s.sto.writes.find? (fun w => w.tag == t)

/-- Put an open write. -/
def State.putWrite (s : State) (w : StoWrite) : State :=
  { s with sto := { s.sto with writes := s.sto.writes.map fun (x : StoWrite) => if x.tag = w.tag then w else x } }

/-- An open write ends: its jobs' results are no longer awaited, buffered bytes leave their wordlines; its programmed
data are reclaimed (R391, R394). -/
def State.dropWrite (s : State) (t : Nat) : State :=
  { s with sto := { s.sto with
      writes := s.sto.writes.filter (fun w => w.tag != t)
      buffer := (s.sto.buffer.map (fun e => (e.1, e.2.filter (fun p => p.1 != t)))).filter (fun e => e.2 != []) } }

/-- Whether the slot of an open write is still ACTIVE in the generation it began in. -/
def State.writeLives (s : State) (w : StoWrite) : Bool := (s.slot w.tag).st == .active && (s.slot w.tag).gen == w.gen

/-- Whether some job still programs for a write. -/
def State.writeBusy (s : State) (t k : Nat) : Bool :=
  s.sto.jobs.any (fun j => match j.what with
    | .copy t' k' => t' == t && k' == k
    | .wordline _ _ parts => parts.any (fun p => p.1 == t)
    | _ => false)

/-- Start the program of a copy's next bytes, when none runs and a block can take them (R382). -/
def State.pumpCopy (s : State) (w : StoWrite) (k : Nat) : State :=
  let left := if k = 1 then w.left1 else w.left2
  let lun := if k = 1 then w.lun1 else w.lun2
  if left = 0 ∨ s.writeBusy w.tag k ∨ !s.writeLives w then s
  else match s.takingBlock w.cls (· == lun) with
    | none => s
    | some b =>
      let n := Nat.min left (s.blockBytes (poolOf w.cls) - (s.nblock b).used)
      (s.useBlock b w.cls n).startJob b (.copy w.tag k) n

/-- Bytes of a wordline: three pages (R379). -/
def wordlineBytes : Nat := 3 * 16384

/-- Take up to `n` bytes from the head of a buffer. -/
def takeBytes (n : Nat) (l : List (Nat × Nat)) : List (Nat × Nat) × List (Nat × Nat) :=
  match l with
  | [] => ([], [])
  | (t, k) :: r =>
    if n = 0 then ([], (t, k) :: r)
    else if k ≤ n then let p := takeBytes (n - k) r; ((t, k) :: p.1, p.2)
    else ([(t, n)], (t, k - n) :: r)

/-- Bytes waiting in a buffer. -/
def bufLen (l : List (Nat × Nat)) : Nat := (l.map (fun p => p.2)).foldl (· + ·) 0

/-- Program a wordline of a class on a channel from its buffer, with padding (R379). -/
def State.programWordline (s : State) (cls ch : Nat) : State :=
  let key := 2 * cls + ch
  let buf := tget (fun _ => ([] : List (Nat × Nat))) s.sto.buffer key
  if buf = [] then s
  else match s.takingBlock cls (fun k => k / 8 == ch && s.lunUsable (k / 8) (k % 8)) with
    | none => s
    | some b =>
      let (now, rest) := takeBytes wordlineBytes buf
      let s1 := (s.useBlock b cls wordlineBytes).startJob b (.wordline cls ch now) wordlineBytes
      let s2 := s1.satInc Reg.STO_PAD_CNT 0 32 ((wordlineBytes - bufLen now + 1023) / 1024)
      { s2 with sto := { s2.sto with buffer := tset (fun _ => []) s2.sto.buffer key rest,
                                     bufClk := tput s2.sto.bufClk key s2.clk } }

/-- Program every full wordline of a class and channel (R379). -/
def State.programFull (s : State) (cls ch : Nat) : State :=
  let n := bufLen (tget (fun _ => []) s.sto.buffer (2 * cls + ch)) / wordlineBytes
  s.forN n (fun a _ => a.programWordline cls ch)

/-- Start every program that waits for a block. -/
def State.pump (s : State) : State :=
  let s1 := s.sto.writes.foldl (fun a w => match a.stoWrite w.tag with
    | some x => if poolOf x.cls = 0 then (a.pumpCopy x 1).pumpCopy x 2 else a
    | none => a) s
  s1.forN 2 fun a c => (a.programFull Cls.TREND c).programFull Cls.BULK c

/-! ### The replica peer (R383 to R385) -/

/-- The peer the manager chose, if there is one (R383). -/
def State.stoPeer (s : State) : Option Nat :=
  if s.flag Reg.STO_PEER 6 then some (s.fld Reg.STO_PEER 0 6) else none

/-- Whether the peer is reachable. -/
def State.peerUp (s : State) : Bool :=
  match s.stoPeer with
  | some m => s.memberUp m && s.linkOpen
  | none => false

/-- Send a frame that carries data in consecutive fragments, its head given for each offset (R404, R405). -/
def State.sendParts (s : State) (dst type room : Nat) (data : List Byte) (head : Nat → List Nat) (ops : List Nat) :
    State :=
  let n := Nat.max 1 ((data.length + room - 1) / room)
  s.forN n fun a i => a.linkSendPart dst type (decide (i + 1 < n))
    (head (i * room) ++ ((data.drop (i * room)).take room).map BitVec.toNat) ops

/-- Send a version to the peer as a pending replica; `none` removes the object (R384, R404). -/
def State.sendReplica (s : State) (m obj ver : Nat) (data : Option (List Byte)) : State :=
  match data with
  | some d => s.sendParts m 0x40 1416 d (fun off => [obj, ver, d.length, off, 0]) []
  | none => s.linkSendRel m 0x40 [obj, ver, 0xFFFFFFFF, 0, 0] []

/-- STO_PEER shows the replica writes awaiting acknowledgement. -/
def State.notePeer (s : State) : State :=
  s.setFld Reg.STO_PEER 16 16 (s.sto.writes.filter (fun w => w.rep == .awaiting)).length

/-- Begin the peer's part of a CRITICAL write (R384). -/
def State.beginReplica (s : State) (w : StoWrite) : State :=
  match s.stoPeer with
  | none => s
  | some m =>
    if s.peerUp then
      ((s.sendReplica m w.obj w.ver (if w.op = StoOp.DELETE then none else some w.data)).putWrite
        { w with rep := .awaiting }).notePeer
    else s.putWrite { w with rep := .noPeer }

/-! ### Durable (R389) -/

/-- Whether a write is durable in its class's home. -/
def State.writeDurable (s : State) (w : StoWrite) : Bool :=
  w.left1 == 0 && w.left2 == 0 && !s.writeBusy w.tag 1 && !s.writeBusy w.tag 2
    && (match w.rep with
        | .none => true
        | .acked => true
        | .awaiting => false
        | .noPeer => s.critLocal)

/-- Drop the oldest records until `need` bytes fit within the limit (R374, R377). -/
def trimRecords (limit need : Nat) (l : List StoRec) (first : Nat) : List StoRec × Nat :=
  match l with
  | [] => ([], first)
  | r :: rest =>
    if (l.map (fun x => x.data.length)).foldl (· + ·) 0 + need ≤ limit then (l, first)
    else trimRecords limit need rest (r.idx + 1)

/-- The object after a write, and the RESULT it gives (R374, R376). -/
def State.applied (s : State) (w : StoWrite) : StoObj × Nat :=
  let old := s.stoObj w.obj
  let ver := match old with
    | some o => o.ver + 1
    | none => 1
  let lonely := w.cls == Cls.CRITICAL && w.rep == .noPeer
  if w.op = StoOp.APPEND then
    let (l, f, n) := match old.map (fun o => o.body) with
      | some (.records l f n) => (l, f, n)
      | _ => ([], 0, 0)
    let lim := (old.map (fun o => o.limit)).getD w.limit
    let (l', f') := if w.cls = Cls.TREND then trimRecords lim w.data.length l f else (l, f)
    (⟨w.cls, ver, lim, .records (l' ++ [⟨n, s.chain, w.data, w.copy1⟩]) f' (n + 1), false, false⟩, n)
  else
    (⟨w.cls, ver, (old.map (fun o => o.limit)).getD w.limit, .whole w.data w.copy1 w.copy2, lonely, false⟩,
      ver % 2 ^ 31 + (if lonely then 2 ^ 31 else 0))

/-- The list of unreplicated objects follows a CRITICAL write (R384). -/
def State.noteUnrep (s : State) (obj : Nat) (lonely : Bool) : State :=
  let l := s.sto.unrep.filter (· != obj)
  { s with sto := { s.sto with unrep := if lonely then l ++ [obj] else l } }

/-! ### Ends of operations -/

/-- A tenant's blob with a reservation no lower than the stored one (R557). -/
def KeyBlob.raisedTo (b : KeyBlob) (o : Option KeyBlob) : KeyBlob :=
  { b with reserve := Nat.max b.reserve ((o.map (fun x => x.reserve)).getD 0) }

/-- The word that a PERSIST SCENE_WRITE changed is durable (R230, R234): its PARAM names it. -/
def State.keepScene (s : State) (p : BitVec 384) : State :=
  let i := paramField p 0 2
  let k := paramField p 2 1
  let sc := paramField p 3 1
  let w : Word := BitVec.ofNat 32 (paramField p 4 4)
  if k = 0xFF then
    { s with lcp := { s.lcp with storedHeaders := tput s.lcp.storedHeaders (i * 64 + sc) (w &&& 0xFFFF#32) } }
  else
    { s with lcp := { s.lcp with storedScenes := tput s.lcp.storedScenes ((i * 4 + k) * 64 + sc) (w &&& 0x7FFFBFFF#32) } }

/-- What the end of a module write gives the block that asked for it, where no command of its own takes it up: the
scene words become durable, KEY's record or a tenant blob stands, and the waiting operation completes with the write's
status (R234, R548, R558). -/
def State.settleOne (s : State) (e : StoFor × Nat) : State :=
  match e.1 with
  | .scenes t =>
    let s1 := (s.stoTake e.1).decideOp t e.2 0
    let s2 := { s1 with lcp := { s1.lcp with sceneWait := s1.lcp.sceneWait.filter (· != t) } }
    if e.2 = St.OK then s2.keepScene (s.slot t).param else s2
  | .keyRecord t =>
    let s1 := (s.stoTake e.1).decideOp t e.2 (if e.2 = St.OK then (s.slot t).result else 0)
    let kept := (s1.key.writes.find? (fun w => w.1 == t)).map (fun w => w.2)
    { s1 with key := { s1.key with writes := s1.key.writes.filter (fun w => w.1 != t)
                                   storedRecord := if e.2 = St.OK then kept.getD s1.key.storedRecord
                                                   else s1.key.storedRecord } }
  | .blob t c =>
    let s1 := (s.stoTake e.1).decideOp t e.2 (if e.2 = St.OK then (s.slot t).result else 0)
    let kept := (s1.key.blobWrites.find? (fun w => w.1 == t)).map (fun w => w.2.2)
    let stored := match kept with
      | some (some b) => tput s1.key.storedBlobs c (b.raisedTo (tfind? s1.key.storedBlobs c))
      | some none => tdel s1.key.storedBlobs c
      | none => s1.key.storedBlobs
    { s1 with key := { s1.key with blobWrites := s1.key.blobWrites.filter (fun w => w.1 != t)
                                   storedBlobs := if e.2 = St.OK then stored else s1.key.storedBlobs } }
  | .scan _ => s.stoTake e.1
  | .placement _ => s.stoTake e.1
  | _ => s

/-- A BARRIER or FLUSH whose operations have all been decided completes (R378, R379). -/
def State.settleWait (s : State) (w : StoWait) : State :=
  if w.tags ≠ [] then s
  else
    let r := if w.barrier then w.total % 2 ^ 16 + w.failed % 2 ^ 16 * 2 ^ 16 else w.total - w.failed
    let s1 := { s with sto := { s.sto with waits := s.sto.waits.filter (fun x => x.tag != w.tag) } }
    s1.decideOp w.tag St.OK (BitVec.ofNat 32 r)

/-- Take up what ended operations settle. -/
def State.stoSettle (s : State) : State :=
  let dead := (s.sto.writes.filter (fun w => !s.writeLives w)).map (fun w => w.tag)
  let s1 := dead.foldl State.dropWrite s
  let s2 := s1.sto.durable.foldl State.settleOne s1
  let s3 := s2.sto.waits.foldl State.settleWait s2
  { s3 with sto := { s3.sto with
      reads := s3.sto.reads.filter (fun r => (s3.slot r.tag).st == .active && (s3.slot r.tag).gen == r.gen)
      waits := s3.sto.waits.filter (fun w => (s3.slot w.tag).st == .active) } }

/-- Decide an STO operation. -/
def State.stoEnd (s : State) (t st : Nat) (r : Word) : State := (s.decideOp t st r).stoSettle

/-- End a write that cannot be made durable: the object stays as it was (R389). -/
def State.failWrite (s : State) (t st : Nat) (r : Word) : State := (s.dropWrite t).stoEnd t st r

/-- A write completes once it is durable: its map entry is written, readers see the new version, the peer is told of
the commit (R385, R389). -/
def State.finishWrite (s : State) (t : Nat) : State :=
  match s.stoWrite t with
  | none => s
  | some w =>
    if !s.writeDurable w ∨ !s.writeLives w then s
    else
      let commit := fun (a : State) => match s.stoPeer with
        | some m => if w.rep = RepSt.acked then a.linkSendRel m 0x42 [w.obj, w.ver] [] else a
        | none => a
      if w.op = StoOp.DELETE then
        let s1 := commit (((s.putObj w.obj none).noteUnrep w.obj false).dropWrite t)
        (s1.noteSto).stoEnd t St.OK 0
      else
        let (o, r) := s.applied w
        let s1 := (s.putObj w.obj (some o)).dropWrite t
        let s2 := if w.cls = Cls.CRITICAL then s1.noteUnrep w.obj o.localOnly else s1
        ((commit s2).noteSto).stoEnd t St.OK (BitVec.ofNat 32 r)

/-- Try to finish every open write. -/
def State.finishWrites (s : State) : State := (s.sto.writes.map (fun w => w.tag)).foldl State.finishWrite s

/-! ### Order (R378, R381) -/

/-- The object an operation names. -/
def State.opObj (s : State) (t : Nat) : Nat :=
  match s.sto.asks.find? (fun e => e.1 == t) with
  | some e => e.2.obj
  | none => paramField (s.slot t).param 0 8

/-- The class of an operation: the object's, else the one named for a new object. -/
def State.opCls (s : State) (t : Nat) : Nat :=
  match s.sto.asks.find? (fun e => e.1 == t) with
  | some e => e.2.cls
  | none => match s.stoObj (s.opObj t) with
    | some o => o.cls
    | none => paramField (s.slot t).param 24 1

/-- Whether a MASK covers a class: 00h covers all (R377). -/
def maskHas (mask cls : Nat) : Bool := mask == 0 || bitOf mask cls

/-- An operation on one object: PUT, APPEND, GET, DELETE or INFO. -/
def objectOp (o : Nat) : Bool := o == 1 || o == 2 || o == 3 || o == 4 || o == 7

/-- The open operations of STO that began before tag `t`. -/
def State.stoEarlier (s : State) (t : Nat) : List Nat :=
  s.openTags.filter (fun k => (s.slot k).st == .active && (s.slot k).block == Blk.STO
    && decide ((s.slot k).ord < (s.slot t).ord))

/-- Whether a BARRIER holds an object operation (R378). -/
def State.barred (s : State) (t : Nat) : Bool :=
  (s.stoEarlier t).any (fun k => (s.slot k).opcode == StoOp.BARRIER && maskHas (paramField (s.slot k).param 36 1) (s.opCls t))

/-- Whether an object operation must wait: for an earlier one on its object, or for a BARRIER (R378, R381). -/
def State.stoMustWait (s : State) (t : Nat) : Bool :=
  s.barred t || (s.stoEarlier t).any (fun k => objectOp (s.slot k).opcode && s.opObj k == s.opObj t)

/-- Media failure reasons (R377). -/
def mediaReason (n : Nat) : Word := BitVec.ofNat 32 n

end Sys2Proof.Machine
end

