-- ==== Sys2Proof/Machine/Sto.lean ====
section
/-! DEFINITION. STO's commands: its operations (R376 to R381, R393, R395), the ends of NAND jobs (R368, R370), the
flush timer (R379), background work (R371, R372) and replica synchronisation (R384). MAP_REBUILD stands in
Machine/Start.lean. -/

namespace Sys2Proof.Machine

/-! ### Acceptance -/

/-- A host operation's right to name an object (R375, R380). -/
def stoAccess (x : Slot) (obj opcode : Nat) : Bool :=
  if !x.fromHost then true
  else
    let c := obj / 2 ^ 48 % 2 ^ 16
    let owner := obj / 2 ^ 40 % 2 ^ 8
    if x.ctx = 0 then owner == 2 || opcode == StoOp.GET || opcode == StoOp.INFO
    else c == x.ctx && owner == 2

/-- What a write asks for: object, class named, LEN, POS, flags, EXP_VER and LIMIT (R377). -/
structure StoParam where
  obj : Nat
  addr : Nat
  len : Nat
  pos : Nat
  cls : Nat
  flags : Nat
  expVer : Nat
  limit : Nat
  mask : Nat
deriving DecidableEq, Repr

/-- The PARAM of an STO operation (R377). -/
def stoParam (x : Slot) : StoParam :=
  let f := paramField x.param
  ⟨f 0 8, f 8 8, f 16 4, f 20 4, f 24 1, f 25 1, f 28 4, f 32 4, f 36 1⟩

/-- The write of a tag: a module's own request, or the host's PARAM with the bytes read from its buffer. -/
def State.stoRequest (s : State) (t : Nat) (x : Slot) (data : List Byte) : StoParam × List Byte :=
  match s.sto.asks.find? (fun e => e.1 == t) with
  | some e => (⟨e.2.obj, 0, e.2.data.length, 0, e.2.cls, 0, 0, 0, 0⟩, e.2.data)
  | none => (stoParam x, data.take (stoParam x).len)

/-- LIMIT of a new object in bytes (R377): 0 is 64 MiB. -/
def newLimit (p : StoParam) : Nat := (if p.limit = 0 then 64 else p.limit) * 2 ^ 20

/-- Whether LIMIT is in range for a new object of a class (R374, R377). -/
def limitOk (p : StoParam) : Bool :=
  match p.cls with
  | 1 => decide (1 ≤ p.limit % 2 ^ 16 ∧ p.limit % 2 ^ 16 ≤ 4096 ∧ 64 ≤ p.limit / 2 ^ 16 ∧ p.limit / 2 ^ 16 ≤ 4096
          ∧ p.limit / 2 ^ 16 % 64 = 0)
  | 2 => true
  | 3 => decide (p.limit ≤ 4096)
  | 4 | 5 => decide (p.limit ≤ 65536)
  | _ => false

/-- Whether a class takes an operation (R376). -/
def classTakes (cls op : Nat) : Bool :=
  if op = StoOp.PUT then cls == 1 || cls == 2 || cls == 5 else cls == 3 || cls == 4 || cls == 5

/-- Whether POS and LEN of a write fit the object as it stands or as it will be made (R374, R377). -/
def writeFits (p : StoParam) (op : Nat) (old : Option StoObj) : Bool :=
  let lim := match old with
    | some o => o.limit
    | none => newLimit p
  if op = StoOp.APPEND then decide (1 ≤ p.len ∧ p.len ≤ 65536 ∧ p.len ≤ lim)
  else match p.cls with
    | 1 =>
      let (n, z) := match old.map (fun o => o.body) with
        | some (.slots n z _) => (n, z)
        | _ => (p.limit % 2 ^ 16, p.limit / 2 ^ 16)
      decide (p.pos < n ∧ p.len ≤ z)
    | 2 => decide (p.len ≤ 128 * 2 ^ 20)
    | _ => decide (p.len ≤ lim)

/-- Whether the object's body agrees with the operation: a BULK object that a PUT wrote
takes no APPEND; a PUT replaces one of records whole. -/
def bodyTakes (op : Nat) (old : Option StoObj) : Bool :=
  match old with
  | none => true
  | some o => match o.body with
    | .slots _ _ _ => true
    | .whole _ _ _ => op == StoOp.PUT
    | .records _ _ _ => op == StoOp.APPEND || o.cls == Cls.BULK

/-- The refusal of a write, if there is one, in the order access, mode, existence, form, version (R377, R380, R393). -/
def State.writeRefusal (s : State) (x : Slot) (p : StoParam) (op : Nat) : Option (Nat × Nat) :=
  let old := s.stoObj p.obj
  let cls := if p.cls = 0 then (old.map (fun o => o.cls)).getD 0 else p.cls
  let p' := { p with cls := cls }
  if !stoAccess x p.obj op then some (St.FAIL_DENIED, 0)
  else if s.mode = Mode.MINIMAL ∧ (cls ≠ Cls.COMMIT ∨ x.fromHost) then some (St.FAIL_DENIED, 0)
  else if (bitOf p.flags 0 ∧ old.isSome) ∨ ((bitOf p.flags 1 ∨ p.cls = 0) ∧ old.isNone) then some (St.FAIL_CONFLICT, 0)
  else if (old.isSome ∧ old.map (fun o => o.cls) ≠ some cls) ∨ !classTakes cls op ∨ !bodyTakes op old
      ∨ (old.isNone ∧ !limitOk p') ∨ !writeFits p' op old then some (St.FAIL_INVALID, 0)
  else if bitOf p.flags 2 ∧ (old.map (fun o => o.ver)).getD 0 ≠ p.expVer then
    some (St.FAIL_CONFLICT, (old.map (fun o => o.ver)).getD 0 % 2 ^ 31)
  else if old.isNone ∧ 1048576 ≤ s.sto.objs.length then some (St.FAIL_MEDIA, 2)
  else if cls = Cls.COMMIT then
    let need := if old.isNone then 64 + 2 * (p.limit % 2 ^ 16) * (p.limit / 2 ^ 16 + 16) else 0
    if 6528 * 1024 < s.classUsed 1 + 64 * (s.sto.objs.filter (fun e => e.2.cls == 1)).length + need then
      some (St.FAIL_MEDIA, 2)
    else none
  else if s.poolRo (poolOf cls) then some (St.FAIL_MEDIA, 3)
  else
    let held := ((s.stoObj p.obj).map (fun o => match o.body with
      | .records l _ _ => (l.map (fun r => r.data.length)).foldl (· + ·) 0
      | _ => 0)).getD 0
    let lim := (old.map (fun o => o.limit)).getD (newLimit p)
    if op = StoOp.APPEND ∧ cls ≠ Cls.TREND ∧ lim < held + p.len then some (St.FAIL_MEDIA, 2)
    else if s.usableLuns = [] ∨ (cls = Cls.CRITICAL ∧ s.usableLuns.length < 2) then some (St.FAIL_MEDIA, 2)
    else none

/-- A refusal is reported; NO_SPACE raises CLASS_FULL (R396). -/
def State.refuseWrite (s : State) (t : Nat) (r : Nat × Nat) : State :=
  let s1 := if r = (St.FAIL_MEDIA, 2) then s.raiseIrq Blk.STO 7 else s
  s1.stoEnd t r.1 (BitVec.ofNat 32 r.2)

/-- The fewest NAND jobs among candidates (R382). -/
def State.leastBusy (s : State) (l : List Nat) : Nat :=
  let load := fun k => (s.sto.jobs.filter (fun j => (let b := s.nblock j.block; 8 * b.channel + b.lun) == k)).length
  l.foldl (fun best k => if load k < load best then k else best) (l.headD 0)

/-- The LUNs of the two copies of a CRITICAL write: different channels, else different targets, else one target's two
(R382). -/
def criticalPair (l : List Nat) : Nat × Nat :=
  let a := l.headD 0
  let other := fun (p : Nat → Bool) => (l.filter (fun k => k != a)).find? p
  match other (fun k => k / 8 != a / 8), other (fun k => k / 2 != a / 2), other (fun _ => true) with
  | some b, _, _ => (a, b)
  | none, some b, _ => (a, b)
  | none, none, some b => (a, b)
  | none, none, none => (a, a)

/-- An accepted write opens, with its home chosen (R382, R384). -/
def State.openWrite (s : State) (t : Nat) (x : Slot) (p : StoParam) (cls op : Nat) (data : List Byte) : State :=
  let pair := criticalPair s.usableLuns
  let lun := if cls = Cls.CRITICAL then pair.1 else s.leastBusy s.usableLuns
  let w : StoWrite :=
    { tag := t, gen := x.gen, obj := p.obj, cls := cls, op := op, limit := newLimit p
      ver := ((s.stoObj p.obj).map (fun o => o.ver)).getD 0 + 1, data := data
      left1 := data.length, left2 := if cls = Cls.CRITICAL then data.length else 0, lun1 := lun, lun2 := pair.2
      copy1 := [], copy2 := [], rep := .none, flushed := none }
  let s1 := { s with sto := { s.sto with writes := s.sto.writes ++ [w] } }
  if cls = Cls.CRITICAL then (s1.beginReplica w).pump
  else if poolOf cls = 1 ∧ data ≠ [] then
    let key := 2 * cls + lun / 8
    let buf := tget (fun _ => ([] : List (Nat × Nat))) s1.sto.buffer key
    ({ s1 with sto := { s1.sto with
        buffer := tset (fun _ => []) s1.sto.buffer key (buf ++ [(t, data.length)])
        bufClk := if buf = [] then tput s1.sto.bufClk key s1.clk else s1.sto.bufClk } }).pump
  else s1.pump

/-- A PUT of a COMMIT slot is durable when its trailer is written, at once (R376, R388, R389). -/
def State.putSlot (s : State) (t : Nat) (p : StoParam) (data : List Byte) : State :=
  let o := (s.stoObj p.obj).getD ⟨Cls.COMMIT, 0, 0, .slots (p.limit % 2 ^ 16) (p.limit / 2 ^ 16) [], false, false⟩
  match o.body with
  | .slots n z tb =>
    let old := tget (fun _ => CommitSlot.mk none none) tb p.pos
    let s1 := s.putObj p.obj (some { o with ver := o.ver + 1, body := .slots n z (tput tb p.pos (old.put (o.ver + 1) data)) })
    s1.noteSto.stoEnd t St.OK (BitVec.ofNat 32 ((o.ver + 1) % 2 ^ 31))
  | _ => s.stoEnd t St.FAIL_INVALID 0

/-- Serve a PUT or APPEND once its turn has come and its bytes are read. -/
def State.serveWrite (s : State) (t op : Nat) (data : List Byte) : State :=
  match s.activeOp t Blk.STO op with
  | none => s
  | some x =>
    let (p, d) := s.stoRequest t x data
    if !s.flag Reg.STO_STAT 0 ∨ s.sup.pfail ∨ (s.stoWrite t).isSome ∨ s.stoMustWait t then s
    else match s.writeRefusal x p op with
      | some r => s.refuseWrite t r
      | none =>
        let cls := if p.cls = 0 then ((s.stoObj p.obj).map (fun o => o.cls)).getD 0 else p.cls
        if d.length < p.len then s
        else if cls = Cls.COMMIT then s.putSlot t p d
        else ((s.openWrite t x p cls op d).finishWrites).noteSto

/-- PUT (R376). -/
def execPut (tag : Nat) (data : List Byte) (s : State) : Host.Outcome State Fault Refusal := s.powered fun s =>
  (s.serveWrite tag StoOp.PUT data)

/-- APPEND (R376). -/
def execAppend (tag : Nat) (data : List Byte) (s : State) : Host.Outcome State Fault Refusal := s.powered fun s =>
  (s.serveWrite tag StoOp.APPEND data)

/-- DELETE: the removal is written to the map journal; for CRITICAL the peer has also acknowledged (R376, R389). -/
def execDelete (tag : Nat) (s : State) : Host.Outcome State Fault Refusal := s.powered fun s =>
  match s.activeOp tag Blk.STO StoOp.DELETE with
  | none => s
  | some x =>
    let (p, _) := s.stoRequest tag x []
    if !s.flag Reg.STO_STAT 0 ∨ s.sup.pfail ∨ (s.stoWrite tag).isSome ∨ s.stoMustWait tag then s
    else if !stoAccess x p.obj StoOp.DELETE then (s.stoEnd tag St.FAIL_DENIED 0)
    else match s.stoObj p.obj with
      | none => (s.stoEnd tag St.FAIL_CONFLICT 0)
      | some o =>
        if s.mode = Mode.MINIMAL ∧ o.cls ≠ Cls.COMMIT then (s.stoEnd tag St.FAIL_DENIED 0)
        else
          let w : StoWrite :=
            { tag := tag, gen := x.gen, obj := p.obj, cls := o.cls, op := StoOp.DELETE, limit := o.limit, ver := o.ver
              data := [], left1 := 0, left2 := 0, lun1 := 0, lun2 := 0, copy1 := [], copy2 := [], rep := .none
              flushed := none }
          let s1 := { s with sto := { s.sto with writes := s.sto.writes ++ [w] } }
          (if o.cls = Cls.CRITICAL then (s1.beginReplica w).finishWrites else s1.finishWrites)

/-! ### Reading (R376, R381, R386) -/

/-- A record as a GET returns it: a 16-byte header, then the bytes (R374). -/
def recordOut (r : StoRec) : List Byte := leBytes 4 r.data.length ++ leBytes 4 r.idx ++ leBytes 8 r.ch ++ r.data

/-- Whole records from record `pos`, up to `len` bytes. -/
def recordsFrom (l : List StoRec) (pos len : Nat) : List Byte :=
  match l with
  | [] => []
  | r :: rest =>
    if r.idx < pos then recordsFrom rest pos len
    else
      let b := recordOut r
      if len < b.length then [] else b ++ recordsFrom rest pos (len - b.length)

/-- What a GET returns: the bytes, or its refusal (R376, R377). -/
def getBytes (o : StoObj) (pos len : Nat) : Except (Nat × Nat) (List Byte) :=
  match o.body with
  | .slots n _ t =>
    if n ≤ pos then .error (St.FAIL_INVALID, 0)
    else match (tget (fun _ => CommitSlot.mk none none) t pos).newest with
      | some h => .ok (h.data.take len)
      | none => .ok []
  | .whole d _ _ => if d.length < pos then .error (St.FAIL_INVALID, 0) else .ok ((d.drop pos).take len)
  | .records l first next =>
    if pos < first then .error (St.FAIL_INVALID, first)
    else if next ≤ pos then .error (St.FAIL_INVALID, 0)
    else
      let b := recordsFrom l pos len
      if b = [] then .error (St.FAIL_INVALID, 0) else .ok b

/-- The blocks a copy of an object lies in. -/
def StoObj.places (o : StoObj) (copy : Nat) : List Nat :=
  match o.body with
  | .slots _ _ _ => []
  | .whole _ c1 c2 => if copy = 1 then c1 else c2
  | .records l _ _ => if copy = 1 then (l.map (fun r => r.blocks)).flatten.eraseDups else []

/-- A read of a block counts towards its disturb limit (R371). -/
def State.countReads (s : State) (l : List Nat) : State :=
  l.foldl (fun a b => a.setNblock b { a.nblock b with reads := (a.nblock b).reads + 1 }) s

/-- A GET's bytes are written to the host buffer and it completes (R376). -/
def State.completeGet (s : State) (t : Nat) : State :=
  let p := stoParam (s.slot t)
  match s.stoObj p.obj with
  | none => s.stoEnd t St.FAIL_CONFLICT 0
  | some o => match getBytes o p.pos p.len with
    | .error r => s.stoEnd t r.1 (BitVec.ofNat 32 r.2)
    | .ok b => (s.emit (.dma p.addr b)).stoEnd t St.OK (BitVec.ofNat 32 b.length)

/-- Start reading a copy for a GET. -/
def State.startRead (s : State) (t copy b : Nat) (blocks : List Nat) : State :=
  (s.countReads blocks).startJob b (.read t copy) 0

/-- GET: at once from MRAM, from NAND through a read job (R376, R381). -/
def execGet (tag : Nat) (s : State) : Host.Outcome State Fault Refusal := s.powered fun s =>
  match s.activeOp tag Blk.STO StoOp.GET with
  | none => s
  | some x =>
    let p := stoParam x
    if !s.flag Reg.STO_STAT 0 ∨ s.sto.reads.any (fun r => r.tag == tag) ∨ s.stoMustWait tag then s
    else if !stoAccess x p.obj StoOp.GET then (s.stoEnd tag St.FAIL_DENIED 0)
    else match s.stoObj p.obj with
      | none => (s.stoEnd tag St.FAIL_CONFLICT 0)
      | some o =>
        if p.cls ≠ 0 ∧ p.cls ≠ o.cls then (s.stoEnd tag St.FAIL_INVALID 0)
        else match getBytes o p.pos p.len with
          | .error r => (s.stoEnd tag r.1 (BitVec.ofNat 32 r.2))
          | .ok _ =>
            if o.damaged then (s.stoEnd tag St.FAIL_MEDIA (mediaReason 1))
            else match o.places 1 with
              | [] => (s.completeGet tag)
              | b :: _ =>
                let s1 := { s with sto := { s.sto with reads := s.sto.reads ++ [StoRead.mk tag x.gen 1 false] } }
                ((s1.startRead tag 1 b (o.places 1)).noteSto)

/-- INFO: 64 bytes on the object (R376). Their layout is free. -/
def execInfo (tag : Nat) (s : State) : Host.Outcome State Fault Refusal := s.powered fun s =>
  match s.activeOp tag Blk.STO StoOp.INFO with
  | none => s
  | some x =>
    let p := stoParam x
    if !s.flag Reg.STO_STAT 0 ∨ s.stoMustWait tag then s
    else if !stoAccess x p.obj StoOp.INFO then (s.stoEnd tag St.FAIL_DENIED 0)
    else match s.stoObj p.obj with
      | none => (s.stoEnd tag St.FAIL_CONFLICT 0)
      | some o =>
        let (size, cnt, first) := match o.body with
          | .slots n z _ => (n * z, n, 0)
          | .whole d _ _ => (d.length, 0, 0)
          | .records l f n => ((l.map (fun r => r.data.length)).foldl (· + ·) 0, n, f)
        let f := [p.obj, o.cls, o.ver, size, cnt, first, o.limit, if o.damaged then 1 else 0, if o.localOnly then 1 else 0]
          ++ o.places 1 ++ o.places 2
        let s1 := s.emit (.dma p.addr ((List.range 64).map (fun i => Config.infoByte f i)))
        (s1.stoEnd tag St.OK 64)

/-! ### BARRIER, FLUSH and FORMAT -/

/-- BARRIER: completes once every operation of its classes that began before it has been decided (R378). -/
def execBarrier (tag : Nat) (s : State) : Host.Outcome State Fault Refusal := s.powered fun s =>
  match s.activeOp tag Blk.STO StoOp.BARRIER with
  | none => s
  | some x =>
    if s.sto.waits.any (fun w => w.tag == tag) then s.stoSettle
    else
      let m := (stoParam x).mask
      let l := (s.stoEarlier tag).filter (fun k => objectOp (s.slot k).opcode && maskHas m (s.opCls k))
      ({ s with sto := { s.sto with waits := s.sto.waits ++ [StoWait.mk tag m true l l.length 0] } }).stoSettle

/-- Program every wordline of a buffer. -/
def State.flushBuffer (s : State) (cls ch : Nat) : State :=
  let n := (bufLen (tget (fun _ => []) s.sto.buffer (2 * cls + ch)) + wordlineBytes - 1) / wordlineBytes
  s.forN n (fun a _ => a.programWordline cls ch)

/-- FLUSH: every wordline of the classes with a record begun before it is programmed at once; it completes when those
operations are durable or have failed (R379). -/
def execFlush (tag : Nat) (s : State) : Host.Outcome State Fault Refusal := s.powered fun s =>
  match s.activeOp tag Blk.STO StoOp.FLUSH with
  | none => s
  | some x =>
    let m := (stoParam x).mask
    if s.mode = Mode.MINIMAL then (s.stoEnd tag St.FAIL_DENIED 0)
    else if s.sto.waits.any (fun w => w.tag == tag) then s.stoSettle
    else
      let l := (s.stoEarlier tag).filter (fun k => ((s.slot k).opcode == 1 || (s.slot k).opcode == 2)
        && maskHas m (s.opCls k))
      let s1 := s.forN 2 fun a c =>
        let a1 := if maskHas m Cls.TREND then a.flushBuffer Cls.TREND c else a
        if maskHas m Cls.BULK then a1.flushBuffer Cls.BULK c else a1
      ({ s1 with sto := { s1.sto with waits := s1.sto.waits ++ [StoWait.mk tag m false l l.length 0] } }).stoSettle

/-- The blocks of a LUN after FORMAT: factory marks, the pSLC share first, 2 % of each pool's good blocks as spares
(R366, R367, R370). Keys run from `base`. -/
def State.formatLun (s : State) (base : Nat) (f : LunFound) : Tbl NandBlock :=
  let share := s.fld (Reg.STO_CHc_CFG f.channel) 16 8
  let p0 := f.blocks * share / 256
  let pool := fun i => if i < p0 then 0 else 1
  let good := fun q => ((List.range f.blocks).filter (fun i => pool i == q && !f.badBlocks.contains i))
  (List.range f.blocks).map fun i =>
    let g := good (pool i)
    let st := if f.badBlocks.contains i then BlockSt.bad
              else if (g.drop (g.length - g.length * 2 / 100)).contains i then .spare else .free
    (base + i, ⟨f.channel, f.lun, pool i, 0, st, 0, 0, s.today, false⟩)

/-- FORMAT (R376, R395): every NAND object goes; COMMIT objects stay. RESULT: good blocks. -/
def execFormat (tag : Nat) (luns : List LunFound) (s : State) : Host.Outcome State Fault Refusal := s.powered fun s =>
  match s.activeOp tag Blk.STO StoOp.FORMAT with
  | none => s
  | some x =>
    let others := s.openTags.any (fun k => k != tag && (s.slot k).st == .active && (s.slot k).block == Blk.STO)
    if x.ctx ≠ 0 ∨ s.mode = Mode.MINIMAL ∨ !decide (s.fld Reg.KEY_LC 0 3 ≤ 1) ∨ others then
      (s.stoEnd tag St.FAIL_DENIED 0)
    else
      let ok := luns.filter (fun f => f.matched)
      let step := fun (a : Nat × Tbl NandBlock) f => (a.1 + f.blocks, a.2 ++ s.formatLun a.1 f)
      let blocks := (ok.foldl step (0, [])).2
      let s1 := { s with sto := { s.sto with
          blocks := blocks, objs := s.sto.objs.filter (fun e => e.2.cls == Cls.COMMIT), jobs := [], buffer := []
          bufClk := [], unrep := [], scanned := [] } }
      let s2 := luns.foldl (fun a f => (a.setFld (Reg.STO_CHc_LUNl_STAT f.channel f.lun) 0 2 (if f.matched then 1 else 3)).setNum
        (Reg.STO_CHc_LUNl_BAD f.channel f.lun) f.badBlocks.length) s1
      let s3 := (s2.setFlag Reg.STO_STAT 1 false).setFlag Reg.STO_STAT 2 false
      let good := (blocks.filter (fun e => e.2.st != .bad)).length
      ((s3.noteSto).stoEnd tag St.OK (BitVec.ofNat 32 good))

/-! ### Moves (R371) -/

/-- Move a block's data to a free block of its pool; a block with no valid data is erased at once. -/
def State.startMove (s : State) (b : Nat) (dest : Option Nat) : State :=
  if s.sto.jobs.any (fun j => j.block == b || j.what == .move b) then s
  else if s.validBytes b = 0 then s.startJob b .erase 0
  else match dest with
    | none => s
    | some d =>
      let x := s.nblock b
      let n := Nat.min (s.validBytes b) (s.blockBytes x.pool)
      (s.setNblock d { s.nblock d with st := .closed, used := n, reads := 0, day := s.today, worn := false }).startJob d
        (.move b) n

/-- The free block with the highest erase count of a pool (R371). -/
def State.wornFree (s : State) (pool : Nat) : Option Nat :=
  (s.sto.blocks.foldl (fun best e => if e.2.pool = pool ∧ e.2.st = .free then match best with
      | some (b, ec) => if ec < e.2.ec then some (e.1, e.2.ec) else some (b, ec)
      | none => some (e.1, e.2.ec)
    else best) (none : Option (Nat × Nat))).map (fun p => p.1)

/-- Whether a block holds data that may be moved. -/
def State.movable (s : State) (b : Nat) : Bool :=
  let x := s.nblock b
  (x.st == .closed || (match x.st with
    | .taking _ => true
    | _ => false)) && !s.sto.jobs.any (fun j => j.block == b || j.what == .move b)

/-! ### Ends of NAND jobs -/

/-- Mark a block grown-bad and put a spare in its place; the failure is counted (R370). -/
def State.growBad (s : State) (b : Nat) : State :=
  let x := s.nblock b
  let s1 := (s.setNblock b { x with st := .bad }).satInc Reg.STO_MEDIAFAIL_CNT 0 32 1
  let s2 := s1.setNum (Reg.STO_CHc_LUNl_BAD x.channel x.lun) (s1.num (Reg.STO_CHc_LUNl_BAD x.channel x.lun) + 1)
  match s2.sto.blocks.find? (fun e => e.2.pool == x.pool && e.2.st == .spare) with
  | some e => s2.setNblock e.1 { e.2 with st := .free }
  | none => s2

/-- Drop a job. -/
def State.dropJob (s : State) (j : Nat) : State :=
  { s with sto := { s.sto with jobs := s.sto.jobs.filter (fun x => x.id != j) } }

/-- Bytes of a write's copy are programmed in a block. -/
def State.programmed (s : State) (t k b n : Nat) : State :=
  match s.stoWrite t with
  | none => s
  | some w =>
    if k = 1 then s.putWrite { w with left1 := w.left1 - n, copy1 := if w.copy1.contains b then w.copy1 else w.copy1 ++ [b] }
    else s.putWrite { w with left2 := w.left2 - n, copy2 := if w.copy2.contains b then w.copy2 else w.copy2 ++ [b] }

/-- A block is erased: its erase count rises, and at the rated cycles it is retired as bad (R371). -/
def State.erased (s : State) (b : Nat) : State :=
  let x := s.nblock b
  let ec := x.ec + 1
  let rated := s.num (Reg.STO_PLq_RATED_PE x.pool)
  s.setNblock b { x with ec := ec, st := if rated ≠ 0 ∧ rated ≤ ec then .bad else .free, used := 0, reads := 0, worn := false }

/-- What a pass does (R370, R371, R389). -/
def State.jobPassed (s : State) (j : NandJob) : State :=
  match j.what with
  | .copy t k => s.programmed t k j.block j.bytes
  | .wordline _ _ parts => parts.foldl (fun a p => a.programmed p.1 1 j.block p.2) s
  | .move src =>
    let s1 := s.remap src j.block
    let s2 := if (s.nblock src).worn then s1.satInc Reg.STO_RELOC_CNT 0 32 1 else s1
    s2.startJob src .erase 0
  | .erase => s.erased j.block
  | _ => s

/-- Writes whose bytes a failed program carried end FAIL_MEDIA when it was the third attempt (R370). -/
def jobTags (w : NandDo) : List Nat :=
  match w with
  | .copy t _ => [t]
  | .wordline _ _ parts => parts.map (fun p => p.1)
  | _ => []

/-- The same program in another block. -/
def State.retryJob (s : State) (j : NandJob) (b : Nat) : State :=
  let cls := match j.what with
    | .copy t _ => ((s.stoWrite t).map (fun w => w.cls)).getD Cls.JOURNAL
    | .wordline c _ _ => c
    | _ => Cls.BULK
  let s1 := s.useBlock b cls j.bytes
  let k := { j with id := s1.sto.nextId, block := b, attempt := j.attempt + 1 }
  { s1 with sto := { s1.sto with jobs := s1.sto.jobs ++ [k], nextId := s1.sto.nextId + 1 } }

/-- What a failure does: the block is grown-bad, a program is written again in another block, at most 3 times in all
(R370). -/
def State.jobFailed (s : State) (j : NandJob) : State :=
  let s1 := s.growBad j.block
  let pool := (s.nblock j.block).pool
  let lun := 8 * (s.nblock j.block).channel + (s.nblock j.block).lun
  match j.what with
  | .erase => s1
  | _ =>
    if 2 ≤ j.attempt then
      (jobTags j.what).foldl (fun a t => a.failWrite t St.FAIL_MEDIA (mediaReason 4)) s1
    else match s1.freeBlock pool (· == lun), s1.freeBlock pool (fun _ => true) with
      | some b, _ => s1.retryJob j b
      | none, some b => s1.retryJob j b
      | none, none => (jobTags j.what).foldl (fun a t => a.failWrite t St.FAIL_MEDIA (mediaReason 4)) s1

/-- The background work's status bits follow the jobs (R396). -/
def State.noteWork (s : State) : State :=
  let scrub := s.sto.jobs.any (fun j => j.what == .scrub)
  let moving := s.sto.jobs.any (fun j => match j.what with
    | .move _ => true
    | .erase => true
    | _ => false)
  let s1 := s.setFlag Reg.STO_STAT 4 scrub
  if moving then s1 else (s1.setFlag Reg.STO_STAT 5 false).setFlag Reg.STO_STAT 6 false

/-- NAND_PROGRAM_DONE: a program or an erase ends (R370). -/
def execNandProgramDone (job : Nat) (pass : Bool) (s : State) : Host.Outcome State Fault Refusal :=
    s.powered fun s => s.duty 0 (.nandProgramDone job pass) fun s =>
  match s.sto.jobs.find? (fun j => j.id == job) with
  | none => s
  | some j =>
    match j.what with
    | .read _ _ => s
    | .scrub => s
    | _ =>
      let s1 := s.dropJob job
      let s2 := if pass then s1.jobPassed j else s1.jobFailed j
      (((s2.finishWrites).pump).noteWork.noteSto)

/-- A read found more corrected bits than the threshold, or needed soft decision (R368). -/
def overThreshold (pool : Nat) (corrected : List Nat) (soft : Bool) : Bool :=
  decide ((if pool = 0 then 36 else 240) < corrected.foldl Nat.max 0) || (pool == 1 && soft)

/-- No source returned an object: a CRITICAL one is marked damaged (R386). -/
def State.markDamaged (s : State) (id : Nat) (o : StoObj) : State :=
  if o.cls = Cls.CRITICAL then s.putObj id (some { o with damaged := true }) else s

/-- A GET turns to its next source: the second copy, the peer's replica, or none (R386). -/
def State.readNext (s : State) (r : StoRead) (why : Nat) : State :=
  let obj := (stoParam (s.slot r.tag)).obj
  match s.stoObj obj with
  | none => s.stoEnd r.tag St.FAIL_CONFLICT 0
  | some o =>
    let put := fun (a : State) (x : StoRead) =>
      { a with sto := { a.sto with reads := a.sto.reads.map fun (y : StoRead) => if y.tag = x.tag then x else y } }
    match (if r.copy = 1 then o.places 2 else []) with
    | b :: _ => (put s { r with copy := 2 }).startRead r.tag 2 b (o.places 2)
    | [] =>
      match s.stoPeer with
      | some m =>
        if o.cls = Cls.CRITICAL ∧ s.peerUp then (put s { r with peer := true }).linkSendRel m 0x44 [obj, o.ver] []
        else (s.markDamaged obj o).stoEnd r.tag St.FAIL_MEDIA (mediaReason why)
      | none => (s.markDamaged obj o).stoEnd r.tag St.FAIL_MEDIA (mediaReason why)

/-- A block was checked: a scrub pass ends when every block with data has been (R371, R396). -/
def State.scrubbed (s : State) (b : Nat) : State :=
  let s1 := s.setNblock b { s.nblock b with day := s.today, reads := 0 }
  let s2 := { s1 with sto := { s1.sto with scanned := (b :: s1.sto.scanned).eraseDups } }
  let data := (s2.sto.blocks.filter (fun e => s2.validBytes e.1 != 0)).map (fun e => e.1)
  if data.all s2.sto.scanned.contains then
    (({ s2 with sto := { s2.sto with scanned := [] } }).setFld Reg.STO_SCRUB_STAT 16 16
      (s2.fld Reg.STO_SCRUB_STAT 16 16 + 1)).raiseIrq Blk.STO 6
  else s2

/-- NAND_READ_DONE: a read ends, corrected, retried at the next read-retry level, or uncorrectable (R368, R369, R371,
R386). -/
def execNandReadDone (job : Nat) (corrected : List Nat) (soft : Bool) (result : ReadEnd) (s : State) :
    Host.Outcome State Fault Refusal :=
    s.powered fun s => s.duty 0 (.nandReadDone job corrected soft result) fun s =>
  match s.sto.jobs.find? (fun j => j.id == job) with
  | none => s
  | some j =>
    let x := s.nblock j.block
    let s1 := (s.satInc Reg.STO_CORR_CNT 0 32 (corrected.foldl (· + ·) 0)).setNblock j.block
      { x with worn := x.worn || overThreshold x.pool corrected soft }
    let isRead := match j.what with
      | .read _ _ => true
      | .scrub => true
      | _ => false
    if !isRead then s
    else if result = .bad ∧ j.attempt < s.sto.retryLevels then
      { s1 with sto := { s1.sto with jobs := s1.sto.jobs.map fun (k : NandJob) =>
        if k.id = job then { k with attempt := k.attempt + 1 } else k } }
    else
      let s2 := s1.dropJob job
      let s3 := if result = .good then s2 else (s2.satInc Reg.STO_UNCORR_CNT 0 32 1).raiseIrq Blk.STO 1
      match j.what with
      | .read t _ =>
        match s3.sto.reads.find? (fun r => r.tag == t) with
        | none => s3.noteSto
        | some r =>
          if result = .good then (s3.completeGet t).noteSto
          else (s3.readNext r (if result = .auth then 5 else 1)).noteSto
      | .scrub => ((s3.scrubbed j.block).noteWork).noteSto
      | _ => s3

/-- TREND_FLUSH: the oldest buffered record has waited TREND_FLUSH: its wordline is programmed with padding (R379). -/
def execTrendFlush (cls channel : Nat) (s : State) : Host.Outcome State Fault Refusal :=
    s.powered fun s => s.duty 0 (.trendFlush cls channel) fun s =>
  let d := s.fld Reg.STO_CFG 8 8
  let wait := (if d = 0 then 10 else d) * 100 * msClk
  if (cls ≠ Cls.TREND ∧ cls ≠ Cls.BULK) ∨ 1 < channel ∨ s.mode = Mode.MINIMAL then s
  else match tfind? s.sto.bufClk (2 * cls + channel) with
    | none => s
    | some c => if s.clk < c + wait then s else (s.programWordline cls channel).noteSto

/-! ### Background work (R371, R372) -/

/-- SCRUB_DUE: the block is read in full (R371). -/
def execScrubDue (block : Nat) (s : State) : Host.Outcome State Fault Refusal :=
    s.powered fun s => s.duty 0 (.scrubDue block) fun s =>
  let x := s.nblock block
  let due := decide (x.day + s.scrubDays ≤ s.today) || decide ((if x.pool = 0 then 100000 else 20000) ≤ x.reads)
  if !s.flag Reg.STO_STAT 0 ∨ !s.en Blk.STO ∨ s.validBytes block = 0 ∨ !due
      ∨ s.sto.jobs.any (fun j => j.block == block) then s
  else ((s.startJob block .scrub 0).noteWork).noteSto

/-- RELOCATION: a block over its threshold is rewritten; it waits in minimal mode (R371, R393). -/
def execRelocation (block : Nat) (s : State) : Host.Outcome State Fault Refusal :=
    s.powered fun s => s.duty 0 (.relocation block) fun s =>
  let x := s.nblock block
  if !x.worn ∨ !s.movable block ∨ s.mode = Mode.MINIMAL ∨ !s.en Blk.STO then s
  else (s.startMove block (s.freeBlock x.pool (fun _ => true))).noteSto

/-- STATIC_WEAR_LEVEL: with an erase-count spread above 200, or a move in progress towards 150, the data of the block
with the lowest count moves to a free block with a high count (R371). -/
def execStaticWearLevel (pool : Nat) (s : State) : Host.Outcome State Fault Refusal :=
    s.powered fun s => s.duty 0 (.staticWearLevel pool) fun s =>
  let spread := s.num (Reg.STO_PLq_EC_MAX pool) - s.num (Reg.STO_PLq_EC_MIN pool)
  let on := decide (200 < spread) || (s.flag Reg.STO_STAT 6 && decide (150 < spread))
  let low := s.sto.blocks.foldl (fun best e =>
    if e.2.pool = pool ∧ s.movable e.1 ∧ s.validBytes e.1 ≠ 0 then match best with
      | some (b, ec) => if e.2.ec < ec then some (e.1, e.2.ec) else some (b, ec)
      | none => some (e.1, e.2.ec)
    else best) (none : Option (Nat × Nat))
  if 1 < pool ∨ !on ∨ s.mode = Mode.MINIMAL ∨ !s.en Blk.STO then s
  else match low, s.wornFree pool with
    | some (b, _), some d =>
      (((s.startMove b (some d)).satInc Reg.STO_WL_CNT 0 32 1).setFlag Reg.STO_STAT 6 true).noteSto
    | _, _ => s

/-- GARBAGE_COLLECT: below GC_FREE, the closed block with the least valid data is collected; when none can be freed the
pool becomes read-only (R371, R372). -/
def execGarbageCollect (pool : Nat) (s : State) : Host.Outcome State Fault Refusal :=
    s.powered fun s => s.duty 0 (.garbageCollect pool) fun s =>
  let l := s.poolBlocks pool
  let free := s.num (Reg.STO_PLq_FREE pool)
  let least := l.foldl (fun best e => if e.2.st = .closed ∧ s.movable e.1 ∧ s.validBytes e.1 < s.blockBytes pool then
      match best with
      | some (b, v) => if s.validBytes e.1 < v then some (e.1, s.validBytes e.1) else some (b, v)
      | none => some (e.1, s.validBytes e.1)
    else best) (none : Option (Nat × Nat))
  if 1 < pool ∨ l = [] ∨ l.length * s.gcFree ≤ 100 * free ∨ s.mode = Mode.MINIMAL ∨ !s.en Blk.STO then s
  else match least with
    | some (b, _) =>
      ((s.startMove b (s.freeBlock pool (fun _ => true))).setFlag Reg.STO_STAT 5 true).noteSto
    | none =>
      if free = 0 ∧ !s.poolRo pool then ((s.setFlag Reg.STO_STAT (1 + pool) true).raiseIrq Blk.STO 3)
      else s

/-- REPLICA_SYNC: a peer is reachable again: the newest version of every unreplicated object is sent, in the order in
which they were written, and a write that waited for a peer goes on (R384). -/
def execReplicaSync (s : State) : Host.Outcome State Fault Refusal :=
    s.powered fun s => s.duty 0 .replicaSync fun s =>
  match s.stoPeer with
  | none => s
  | some m =>
    if !s.peerUp ∨ s.mode = Mode.MINIMAL then s
    else
      let s1 := s.setFlag Reg.STO_STAT 3 true
      let s2 := s1.sto.unrep.foldl (fun a id => match a.stoObj id with
        | some o => match o.body with
          | .whole d _ _ => a.sendReplica m id o.ver (some d)
          | _ => a
        | none => a) s1
      (s2.sto.writes.foldl (fun a w => if w.rep = .noPeer then a.beginReplica w else a) s2)

end Sys2Proof.Machine
end

