-- ==== Sys2Proof/Machine/HlkCore.lean ====
section
/-! DEFINITION. The hierarchy's frames, members and placement as HLK's commands use them (R399 to R431). -/

namespace Sys2Proof.Machine

/-! Frame types (R404). -/
namespace Al
abbrev HEARTBEAT : Nat := 0x01
abbrev JOIN : Nat := 0x02
abbrev WELCOME : Nat := 0x03
abbrev LEAVE : Nat := 0x04
abbrev TAKEOVER : Nat := 0x05
abbrev ACK : Nat := 0x0F
abbrev POINT_UPDATE : Nat := 0x10
abbrev POINT_WRITE : Nat := 0x11
abbrev POINT_ACK : Nat := 0x12
abbrev SUBSCRIBE : Nat := 0x13
abbrev UNSUBSCRIBE : Nat := 0x14
abbrev STAKE_EDIT : Nat := 0x20
abbrev RESULT : Nat := 0x21
abbrev LIMIT : Nat := 0x22
abbrev PLACE : Nat := 0x30
abbrev PLACED : Nat := 0x31
abbrev CHECKPOINT : Nat := 0x32
abbrev UNPLACE : Nat := 0x33
abbrev REPLICA_PUT : Nat := 0x40
abbrev REPLICA_ACK : Nat := 0x41
abbrev REPLICA_COMMIT : Nat := 0x42
abbrev REPLICA_REPORT : Nat := 0x43
abbrev REPLICA_FETCH : Nat := 0x44
abbrev REPLICA_DATA : Nat := 0x45
end Al

/-- The host's own state as a CP_SEQ of PLACE (R404). -/
def ownState : Nat := 0xFFFFFFFF

/-! ### Roles and members (R399, R409, R433) -/

/-- Whether this module is the acting manager. -/
def State.isManager (s : State) : Bool := s.fld Reg.HLK_STAT 8 2 == 1

/-- The acting manager's number. -/
def State.manager (s : State) : Nat := s.fld Reg.HLK_STAT 16 6

/-- A member's state in this module's view. -/
def State.memSt (s : State) (m : Nat) : Nat := s.fld (Reg.HLK_MBm_STAT m) 0 3

/-- Move a member to a state. -/
def State.setMemSt (s : State) (m st : Nat) : State := s.setFld (Reg.HLK_MBm_STAT m) 0 3 st

/-- Whether the table lists another module: the image gives its UID, or this module has seen it. -/
def State.listed (s : State) (m : Nat) : Bool :=
  m != s.sup.moduleNum && (s.num64 (Reg.HLK_MBm_UID_LO m) != 0 || s.memSt m != 0)

/-- The other members of the table. -/
def State.others (s : State) : List Nat := (List.range 64).filter s.listed

/-- Whether a heartbeat of the member was accepted within the last 350 ms. -/
def State.heard (s : State) (m : Nat) : Bool :=
  match (s.peer m).hbClk with
  | some c => decide (s.clk ≤ c + lossClk)
  | none => false

/-- MGR_SEEN (R407): a heartbeat of the acting manager in run or standby mode was accepted within 350 ms. -/
def State.mgrSeen (s : State) : Bool :=
  match s.hlk.mgrClk with
  | some c => decide (s.clk ≤ c + lossClk)
  | none => false

/-- The units running here. -/
def State.unitsHere (s : State) : Nat := (s.hlk.hosted.filter (fun h => h.phase == .running)).length

/-- What service core 1 sets in the heartbeats: ROLE, MODE, FLAGS, the LAT state, the units hosted, MEMBER_GEN, PLACE_GEN and
the load (R24, R407). -/
def State.hbTold (s : State) : List Nat :=
  let b := fun (x : Bool) (n : Nat) => if x then n else 0
  [s.sup.roleStrap % 4 + s.fld Reg.HLK_STAT 8 2 * 4, s.mode,
   b s.mgrSeen 1 + b (s.flag Reg.HLK_STAT 22) 2 + b (s.flag Reg.LAT_STATE 3) 4 + b (s.flag Reg.HLK_STAT 12) 8,
   s.latSt, s.unitsHere, s.num Reg.HLK_MEMBER_GEN, s.num Reg.HLK_PLACE_GEN, (Config.laneLoad s.free).val]

/-- A generation as MEMBER_GEN or PLACE_GEN counts it. -/
def State.bumpPlace (s : State) : State := s.wrapInc Reg.HLK_PLACE_GEN 1

/-! ### Receiving (R402 to R405) -/

/-- Whether a frame fails the checks of R403 and R404 that need no history: its tag, its VER, its TYPE, a LEN shorter than the
type's fixed fields. -/
def badFrame (tagOk : Bool) (ver type len : Nat) : Bool :=
  !tagOk || ver != 1 || !linkType type || decide (len < (linkLayout type).1.foldl (· + ·) 0)

/-- Count a dropped frame (R403, R404). -/
def State.dropFrame (s : State) : State := (s.satInc Reg.HLK_AUTH_FAIL_CNT 0 32 1).raiseIrq Blk.HLK 6

/-- Whether a frame passes the checks of R403 and R404 that need no history. -/
def LinkHdr.sound (h : LinkHdr) : Bool := !badFrame h.tagOk h.ver h.type h.len

/-- Whether a frame is sound and its START and COUNTER are new: a higher START, or a COUNTER not seen and not below the window
of 64 (R403). -/
def Peer.admits (p : Peer) (h : LinkHdr) : Bool :=
  h.sound && match p.rxStart with
  | none => true
  | some st =>
    if h.start = st then
      decide (p.rxTop < h.counter)
        || (decide (p.rxTop ≤ h.counter + 64) && h.counter != p.rxTop && !p.rxSeen.contains h.counter)
    else decide ((h.start + 2 ^ 16 - st) % 2 ^ 16 < 2 ^ 15)

/-- Note an accepted frame. A new START is a new life of the sender: the pair's sequences begin afresh. -/
def Peer.note (p : Peer) (h : LinkHdr) : Peer :=
  if p.rxStart = some h.start then
    if p.rxTop < h.counter then
      { p with rxTop := h.counter, rxSeen := (p.rxTop :: p.rxSeen).filter (fun c => decide (h.counter ≤ c + 64)) }
    else { p with rxSeen := h.counter :: p.rxSeen }
  else { Peer.fresh with rxStart := some h.start, rxTop := h.counter, hbClk := p.hbClk, badStart := p.badStart, via := p.via, joined := p.joined }

/-- An acknowledgement frees frames up to it, and frames that waited for room leave (R405). -/
def State.takeAck (s : State) (m ack : Nat) : State :=
  let p := s.peer m
  let rest := p.unacked.filter (fun f => decide (ack < f.seq))
  let gone := p.unacked.length - rest.length
  let sent := Nat.min 64 p.unacked.length - gone
  let now := rest.zipIdx.map fun (e : LinkFrame × Nat) => if sent ≤ e.2 ∧ e.2 < 64 then { e.1 with sent := s.clk } else e.1
  if gone = 0 then s
  else ((now.take 64).drop sent).foldl (fun a f => a.emitLink m f.type f.seq (relFlags false f.more) f.fields)
    (s.setPeer m { p with unacked := now })

/-- An accepted frame does what `f` says. One that `admits` refuses is dropped and counted; one that claims the
manager's role with a lower TERM is dropped (R403, R426). While service core 1 restarts a reliable frame is not taken and its
sender sends it again (R24). -/
def State.receive (s : State) (h : LinkHdr) (claims : Bool) (f : State → State) : State :=
  if !s.linkOpen ∨ 63 < h.src ∨ h.src = s.sup.moduleNum ∨ (s.arb.coreDown ∧ h.seq ≠ 0) then s
  else if !(s.peer h.src).admits h then s.dropFrame
  else
    let s1 := s.setPeer h.src ((s.peer h.src).note h)
    if claims ∧ h.term < s.num Reg.HLK_TERM then s1 else f (s1.takeAck h.src h.ack)

/-- The frames held that follow SEQ `next` without a gap. -/
def pullHeld (fuel next : Nat) (l : List RxFrame) : List RxFrame :=
  match fuel with
  | 0 => []
  | n + 1 => match l.find? (fun f => f.seq == next) with
    | some f => f :: pullHeld n (next + 1) l
    | none => []

/-- The frames that a reliable frame lets through, in SEQ order; up to 64 are held out of order, a duplicate is not
delivered again (R405). -/
def State.orderFrame (s : State) (m : Nat) (f : RxFrame) : List RxFrame × State :=
  let p := s.peer m
  if f.seq ≤ p.rxSeq then ([], s)
  else if f.seq = p.rxSeq + 1 then
    let l := f :: pullHeld 64 (f.seq + 1) p.rxHeld
    let top := p.rxSeq + l.length
    (l, s.setPeer m { p with rxSeq := top, rxHeld := p.rxHeld.filter (fun x => decide (top < x.seq)) })
  else if p.rxHeld.length < 64 ∧ !p.rxHeld.any (fun x => x.seq == f.seq) then
    ([], s.setPeer m { p with rxHeld := p.rxHeld ++ [f] })
  else ([], s)

/-- Bind a pair: its sequences start at 1 (R405). `seen` is the SEQ of the frame that binds it. -/
def State.bindPair (s : State) (m seen : Nat) : State :=
  s.setPeer m { s.peer m with txSeq := 0, unacked := [], rxSeq := seen, rxHeld := [] }

/-! ### Imported points (R413, R414) -/

/-- Replace an import set. -/
def State.putImport (s : State) (x : ImportSet) : State :=
  { s with hlk := { s.hlk with imports := s.hlk.imports.map fun (y : ImportSet) =>
      if y.src = x.src ∧ y.set = x.set then x else y } }

/-- An imported set's points turn STALE; their values stay (R414). -/
def State.staleImport (s : State) (x : ImportSet) : State :=
  (x.map.foldl (fun a e => a.setQuality Blk.HLK e.2 Q.STALE) s).putImport { x with stale := true }

/-- The imported points of a module turn STALE, those of hosted units' proxies too (R414, R417). -/
def State.staleModule (s : State) (m : Nat) : State :=
  let s1 := (s.hlk.imports.filter (fun x => x.src == m)).foldl State.staleImport s
  let base := s1.fld Reg.HLK_PROXY_BASE 0 16
  s1.hlk.hosted.foldl (fun a h => match a.hlk.infos[h.u]? with
    | some i => (i.slots.filter (fun e => e.2 / 65536 == m)).foldl (fun b e =>
        if (tfind? b.hlk.proxyOut (base + e.1)).isSome then b else b.setQuality Blk.HLK (base + e.1) Q.STALE) a
    | none => a) s1

/-! ### The checkpoint store (R419) -/

/-- A checkpoint's fragments (R404). -/
def State.sendCheckpoint (s : State) (m : Nat) (c : Checkpoint) : State :=
  s.sendParts m Al.CHECKPOINT 1408 c.data (fun off => [c.key, c.seq, c.ch, c.data.length, off, crc32 c.data, 0]) []

/-- A unit's position in the image's list. -/
def State.unitOf (s : State) (key : Nat) : Option Nat := s.hlk.infos.findIdx? (fun i => i.key == key)

/-- HLK_CP_STORE (R433). -/
def State.noteStore (s : State) : State :=
  let bytes := (s.hlk.cps.map (fun e => e.2.data.length)).foldl (· + ·) 0
  (s.setFld Reg.HLK_CP_STORE 0 16 ((bytes + 2 ^ 20 - 1) / 2 ^ 20)).setFld Reg.HLK_CP_STORE 16 16 s.hlk.cps.length

/-- The last complete checkpoint shows in the unit's entry. -/
def State.showCp (s : State) (u : Nat) (c : Checkpoint) : State :=
  (s.setNum (Reg.HLK_Uu_CP_SEQ u) c.seq).setNum (Reg.HLK_Uu_CP_CHAIN u) c.ch

/-- Keep a complete checkpoint, in 256 MiB (R419). -/
def State.keepCp (s : State) (c : Checkpoint) : State :=
  let bytes := ((tdel s.hlk.cps c.key).map (fun e => e.2.data.length)).foldl (· + ·) 0
  if 2 ^ 28 < bytes + c.data.length then s
  else
    let s1 := ({ s with hlk := { s.hlk with cps := tput s.hlk.cps c.key c } }).noteStore
    match s1.unitOf c.key with
    | some u => if s1.isManager then s1.showCp u c else s1
    | none => s1

/-! ### Proxies (R417) -/

/-- Add a copy of one point's writes to another. -/
def State.addCopy (s : State) (i j : Nat) : State :=
  { s with hlk := { s.hlk with copies := tput s.hlk.copies i (s.copiesOf i ++ [j]) } }

/-- Remove it. -/
def State.delCopy (s : State) (i j : Nat) : State :=
  { s with hlk := { s.hlk with copies := tset (fun _ => []) s.hlk.copies i ((s.copiesOf i).filter (· != j)) } }

/-- Whether a proxy is an output of the unit: the unit's task produces it. -/
def State.proxyIsOut (s : State) (i : UnitInfo) (p : Nat) : Bool := (s.point p).producer == .task i.task

/-- The bound slots of a unit: proxy point and global ID. -/
def State.slotsOf (s : State) (i : UnitInfo) : List (Nat × Nat) :=
  let base := s.fld Reg.HLK_PROXY_BASE 0 16
  let n := Nat.min 4096 (s.fld Reg.HLK_PROXY_BASE 16 16)
  if base = 0xFFFF then [] else (i.slots.filter (fun e => decide (e.1 < n))).map (fun e => (base + e.1, e.2))

/-- The modules whose points the unit's input slots name, this one apart. -/
def State.sources (s : State) (i : UnitInfo) : List Nat :=
  (((s.slotsOf i).filter (fun e => !s.proxyIsOut i e.1)).map (fun e => e.2 / 65536)).eraseDups.filter
    (· != s.sup.moduleNum)

/-- Bind a unit's proxies: points of this module are copied both ways, other modules are asked for theirs (R417). -/
def State.bindUnit (s : State) (i : UnitInfo) : State :=
  let own := s.sup.moduleNum
  let s1 := (s.slotsOf i).foldl (fun a e =>
    let p := e.2 % 65536
    if a.proxyIsOut i e.1 then
      if e.2 / 65536 = own then a.addCopy e.1 p
      else { a with hlk := { a.hlk with proxyOut := tput a.hlk.proxyOut e.1 e.2 } }
    else if e.2 / 65536 = own then (a.addCopy p e.1).storeOne Blk.HLK e.1 (a.point p).value (a.point p).quality
    else a) s
  (s1.sources i).foldl (fun a m =>
    let l := ((a.slotsOf i).filter (fun e => !a.proxyIsOut i e.1 && e.2 / 65536 == m)).map (fun e => e.2 % 65536)
    a.linkSendRel m Al.SUBSCRIBE ([i.key, l.length, 0] ++ l) []) s1

/-- Unbind them: they read UNINIT (R417). -/
def State.unbindUnit (s : State) (i : UnitInfo) : State :=
  let own := s.sup.moduleNum
  let s1 := (s.slotsOf i).foldl (fun a e =>
    let p := e.2 % 65536
    let a1 := if a.proxyIsOut i e.1 then
        if e.2 / 65536 = own then a.delCopy e.1 p
        else { a with hlk := { a.hlk with proxyOut := tdel a.hlk.proxyOut e.1 } }
      else if e.2 / 65536 = own then a.delCopy p e.1
      else a
    a1.storeOne Blk.HLK e.1 (a1.point e.1).value Q.UNINIT) s
  (s1.sources i).foldl (fun a m => a.linkSendRel m Al.UNSUBSCRIBE [i.key] []) s1

/-! ### Hosting (R416, R419 to R423) -/

/-- The unit hosted at a position. -/
def State.hostedAt (s : State) (u : Nat) : Option Hosted := s.hlk.hosted.find? (fun h => h.u == u)

/-- HLK_Uu_KEY and HLK_Uu_STAT: the placement table on the manager, the units hosted here elsewhere (R433). -/
def State.showUnit (s : State) (u : Nat) : State :=
  match s.hlk.infos[u]? with
  | none => s
  | some i =>
    let put := fun (a : State) (host st : Nat) (pin : Bool) =>
      ((a.setNum (Reg.HLK_Uu_KEY u) i.key).setNum (Reg.HLK_Uu_STAT u)
        (host % 64 + (if pin then 128 else 0) + i.task % 16 * 256 + st % 8 * 4096))
    if s.isManager then
      let r := tget (fun _ => UnitRow.fresh) s.hlk.units u
      put s (r.host.getD 0) r.st r.pin.isSome
    else match s.hostedAt u with
      | some h =>
        put s s.sup.moduleNum (match h.phase with
          | .bound => 1
          | .held => 3
          | .running => 2
          | .leaving => 3) false
      | none => (s.setNum (Reg.HLK_Uu_KEY u) 0).setNum (Reg.HLK_Uu_STAT u) 0

/-- Put a hosted unit. -/
def State.putHosted (s : State) (h : Hosted) : State :=
  let l := s.hlk.hosted.filter (fun x => x.u != h.u)
  ({ s with hlk := { s.hlk with hosted := l ++ [h] } }).showUnit h.u

/-- A unit is no longer hosted here. -/
def State.dropHosted (s : State) (u : Nat) : State :=
  ({ s with hlk := { s.hlk with hosted := s.hlk.hosted.filter (fun x => x.u != u) } }).showUnit u

/-- The root instance of a unit's task in the active bank, when its KEY and TYPE are the unit's (R416). -/
def State.unitRoot (s : State) (i : UnitInfo) : Option (TaskEntry × InstEntry) :=
  let k := s.bank s.activeB
  match k.task i.task with
  | none => none
  | some e => match k.insts[e.entry]? with
    | some r => if k.profF ∧ r.placeable ∧ r.key = i.key ∧ r.type = i.type then some (e, r) else none
    | none => none

/-- Whether a task's run is on a lane or in its output phase. -/
def State.taskBusy (s : State) (t : Nat) : Bool := s.taskSt t == TaskSt.RUNNING || s.taskSt t == TaskSt.OUTPUT

/-- A unit's task becomes dormant at its next boundary (R416, R423). -/
def State.sleepTask (s : State) (t : Nat) : State :=
  let busy := s.taskBusy t
  let s1 := s.setTaskRt t { s.taskRt t with dormant := true, hold := false, queue := [], offAfter := (s.taskRt t).offAfter || busy }
  if busy then s1 else s1.taskOff t

/-- A unit's task starts again where it may (R416). -/
def State.rouseTask (s : State) (t : Nat) : State :=
  let s1 := s.setTaskRt t { s.taskRt t with dormant := false, hold := false, offAfter := false }
  if s1.mayWake t ∧ !s1.taskBusy t then s1.wakeTask t else s1

/-- The bytes of a root instance with its children and records (R261, R419). -/
def Bank.instBytes (k : Bank) (r : InstEntry) : List Byte :=
  (List.range (k.instSize r.off)).map (fun a => k.dataByte (r.off + a))

/-- Open SEND and STK records inside an instance lose their operations (R268, R420). -/
def Bank.loseIn (k : Bank) (lo n : Nat) : Bank :=
  (k.recs.filter (fun e => e.inst.isSome && decide (lo ≤ e.off) && decide (e.off < lo + n))).foldl (fun a e =>
    if e.type = 0x40 ∨ e.type = 0x41 then
      let fl := (a.recByte false (e.off + 5)).toNat
      if bitOf fl 0 then a.putRec false (e.off + 5) 1 (putBits fl 0 3 4) else a
    else a) k

/-- The instance with a checkpoint's bytes, or as DATA_INIT has it (R420, R422). -/
def Bank.loadInst (k : Bank) (r : InstEntry) (data : Option (List Byte)) : Bank :=
  let n := k.instSize r.off
  match data with
  | none => { k with data := tdrop k.data (fun a => decide (r.off ≤ a) && decide (a < r.off + n)) }
  | some b => ((List.range (Nat.min n b.length)).foldl (fun a j => a.setData (r.off + j) (b.getD j 0)) k).loseIn r.off n

/-- A unit takes up a state and its task starts (R420): FIRST = 1, SKIPPED from the checkpointed run to the first
start. -/
def State.takeUp (s : State) (i : UnitInfo) (c : Option Checkpoint) : State :=
  match s.unitRoot i with
  | none => s
  | some (e, r) =>
    let b := s.activeB
    let t := i.task
    let s1 := s.setBank b (some ((s.bank b).loadInst r (c.map (·.data))))
    let s2 := { s1 with scn := { s1.scn with opens := s1.scn.opens.map fun (o : OpenRec) =>
        if o.task = t then { o with dropped := true } else o } }
    let q := (s2.taskRt t).queue
    let s3 := s2.setTaskRt t { s2.taskRt t with first := true, skipped := 0, resumed := false, i := [], q := [] }
    let s4 := (s3.fillOutputs t e.io).rouseTask t
    let start := match q with
      | l :: _ => l.ch
      | [] => s4.num64 (Reg.SCN_TnNEXT_LO t)
    match c with
    | some c => if e.event then s4
        else s4.setTaskRt t { s4.taskRt t with skipped := Nat.min 255 ((start - c.ch) / Nat.max 1 e.period - 1) }
    | none => s4

/-- Take a unit's checkpoint at a task boundary (R419). -/
def State.makeCp (s : State) (i : UnitInfo) (h : Hosted) : Option Checkpoint :=
  match s.unitRoot i, (s.taskRt i.task).lastStart with
  | some (_, r), some ch => some ⟨i.key, h.seq + 1, ch, 0, 0, (s.bank s.activeB).instBytes r⟩
  | _, _ => none

/-- The holders of this module's checkpoints: the replica peer, and the standby manager where that is another
(R419). -/
def State.holders (s : State) : List Nat := (s.stoPeer.toList ++ s.hlk.standby.toList).eraseDups.filter (· != s.sup.moduleNum)

/-- Send a checkpoint to modules. -/
def State.shareCp (s : State) (u : Nat) (c : Checkpoint) (l : List Nat) : State :=
  l.foldl (fun a m => a.sendCheckpoint m c) (s.showCp u c)

/-- The output points of this module behind a stopped unit's slots turn STALE (R423). -/
def State.staleOutputs (s : State) (i : UnitInfo) : State :=
  ((s.slotsOf i).filter (fun e => s.proxyIsOut i e.1 && e.2 / 65536 == s.sup.moduleNum)).foldl
    (fun a e => a.setQuality Blk.HLK (e.2 % 65536) Q.STALE) s

/-- A leaving unit whose task has no run ends here: it sends its last checkpoint to the new host and the holders, and
unbinds; without a new host its outputs turn STALE (R421 step 4, R423). -/
def State.endLeaving (s : State) (h : Hosted) : State :=
  match s.hlk.infos[h.u]? with
  | none => s
  | some i =>
    if h.phase ≠ .leaving ∨ s.taskBusy i.task ∨ !(s.taskRt i.task).dormant then s
    else
      let s1 := match h.dest with
        | some d => match s.makeCp i h with
          | some c => s.shareCp h.u c (d :: s.holders.filter (· != d))
          | none => s
        | none => s.staleOutputs i
      (s1.unbindUnit i).dropHosted h.u

/-- A unit stops on this host: its task is dormant from now or from the end of its run (R421 step 3, R423). -/
def State.beginLeaving (s : State) (h : Hosted) : State :=
  match s.hlk.infos[h.u]? with
  | none => s
  | some i =>
    let h1 := { h with phase := HostPhase.leaving }
    ((s.putHosted h1).sleepTask i.task).endLeaving h1

/-! ### The placement table (R418) -/

/-- A unit's row. -/
def State.unitRow (s : State) (u : Nat) : UnitRow := tget (fun _ => UnitRow.fresh) s.hlk.units u

/-- Put a row; each change of a placement counts PLACE_GEN (R418). -/
def State.putRow (s : State) (u : Nat) (r : UnitRow) : State :=
  let s1 := if r.host = (s.unitRow u).host ∧ r.pin = (s.unitRow u).pin then s else s.bumpPlace
  ({ s1 with hlk := { s1.hlk with units := tset (fun _ => UnitRow.fresh) s1.hlk.units u r } }).showUnit u

/-- The placement table as its object holds it: PLACE_GEN and six bytes a unit. -/
def State.tableBytes (s : State) : List Byte :=
  leBytes 4 (s.num Reg.HLK_PLACE_GEN) ++ ((List.range s.hlk.infos.length).map (fun u =>
    let r := s.unitRow u
    leBytes 4 ((s.hlk.infos[u]?.map (·.key)).getD 0) ++ leBytes 1 (r.host.getD 255) ++ leBytes 1 (r.pin.getD 255))).flatten

/-- The number of a module, FFh for none. -/
def moduleOf (b : Nat) : Option Nat := if b = 255 then none else some b

/-- Read the rows that a stored table gives. -/
def State.loadTable (s : State) (b : List Byte) (hosts : Bool) : State :=
  (List.range s.hlk.infos.length).foldl (fun a u =>
    let key := (a.hlk.infos[u]?.map (·.key)).getD 0
    match (pieces (b.drop 4) 6 ((b.length - 4) / 6)).find? (fun e => fieldAt e 0 4 == key) with
    | some e =>
      let host := if hosts then moduleOf (fieldAt e 4 1) else none
      let r : UnitRow := { UnitRow.fresh with host := host, pin := moduleOf (fieldAt e 5 1), st := if host.isSome then 2 else 0 }
      ({ a with hlk := { a.hlk with units := tset (fun _ => UnitRow.fresh) a.hlk.units u r } }).showUnit u
    | none => a) s

/-- The placement table's object (R418). -/
def placementObj : Nat := objId 0 Blk.HLK 1

/-- The table is written to its CRITICAL object after a change (R418). -/
def State.savePlacement (s0 s : State) : State :=
  let g := s.num Reg.HLK_PLACE_GEN
  if g = s0.num Reg.HLK_PLACE_GEN ∨ !s.isManager then s
  else s.stoAsk (.placement g) placementObj StoOp.PUT s.tableBytes

/-- Whether a module is a candidate for a unit (R416). -/
def State.candidate (s : State) (i : UnitInfo) (m : Nat) : Bool :=
  i.cands.contains m &&
    (if m = s.sup.moduleNum then s.mode == Mode.RUN && !s.flag Reg.HLK_STAT 22 && (s.unitRoot i).isSome
     else s.memberUp m && s.fld (Reg.HLK_MBm_STAT m) 3 2 == Mode.RUN)

/-- The unit's slots that a module produces (R418). -/
def UnitInfo.produced (i : UnitInfo) (m : Nat) : Nat := (i.slots.filter (fun e => e.2 / 65536 == m)).length

/-- The host that R418 chooses: the pin, else the candidate that produces the most slots, the lower number at a tie. -/
def State.chooseHost (s : State) (i : UnitInfo) (r : UnitRow) : Option Nat :=
  let c := (List.range 64).filter (s.candidate i)
  match r.pin with
  | some m => if c.contains m then some m else none
  | none => c.foldl (fun best m => match best with
    | some b => if i.produced b < i.produced m then some m else some b
    | none => some m) none

/-- A MOVE that waits for the unit completes. -/
def State.endMove (s : State) (r : UnitRow) (status : Nat) : State :=
  match r.moveTag with
  | some t => s.decideOp t status 0
  | none => s

/-- The manager learns a unit's outcome (R421): running on its host; a planned move that failed returns it to the old
host, which resumes from its own state. -/
def State.onPlaced (s : State) (u src status : Nat) : State :=
  let r := s.unitRow u
  if r.host ≠ some src then s
  else if status < 0x10 then
    let s1 := if r.st = 2 then s else (s.satInc Reg.HLK_MOVE_CNT 0 32 1).raiseIrq Blk.HLK 4
    (s1.endMove r status).putRow u { r with st := 2, old := none, moveTag := none }
  else
    let s1 := s.endMove r status
    match r.old with
    | some o =>
      let s2 := s1.putRow u { r with host := some o, st := 1, old := none, moveTag := none }
      let i := s2.hlk.infos[u]?
      if o = s2.sup.moduleNum then
        match i with
        | some i =>
          let s3 := if (s2.hostedAt u).isNone then s2.bindUnit i else s2
          ((s3.putHosted ⟨u, .running, 0, s3.num Reg.HLK_PLACE_GEN, none, ((s3.hostedAt u).map (·.seq)).getD 0, 0, 0⟩).rouseTask
            i.task).putRow u { s3.unitRow u with st := 2 }
        | none => s2
      else s2.linkSendRel o Al.PLACE [(i.map (·.key)).getD 0, (i.map (·.task)).getD 0, 0, 0, ownState, s2.num Reg.HLK_PLACE_GEN] []
    | none => s1.putRow u { r with host := none, st := 0, moveTag := none }

/-- PLACED goes to the manager (R421). -/
def State.reportPlaced (s : State) (u status gen : Nat) : State :=
  if s.isManager then s.onPlaced u s.sup.moduleNum status
  else s.linkSendRel s.manager Al.PLACED [((s.hlk.infos[u]?).map (·.key)).getD 0, status, 0, gen] []

/-- PLACE on this module (R404, R420, R421, R426): a move begins with bound proxies and waits for X; else the unit takes
its state up, or goes on from its own, at once. A unit whose program is not here, or whose checkpoint is not held, is
reported FAIL_INVALID. -/
def State.acceptPlace (s : State) (key x cp gen : Nat) : State :=
  match s.unitOf key with
  | none => s.linkSendRel s.manager Al.PLACED [key, St.FAIL_INVALID, 0, gen] []
  | some u => match s.hlk.infos[u]? with
    | none => s
    | some i =>
      let old := s.hostedAt u
      let seq := (old.map (·.seq)).getD ((tfind? s.hlk.cps key).map (·.seq) |>.getD 0)
      let s0 := if s.isManager then s else s.setNum Reg.HLK_PLACE_GEN gen
      let bound := fun (a : State) => if old.isNone then a.bindUnit i else a
      let put := fun (a : State) (p : HostPhase) => a.putHosted ⟨u, p, x, gen, none, seq, 0, 0⟩
      if (s0.unitRoot i).isNone then s0.reportPlaced u St.FAIL_INVALID gen
      else if x ≠ 0 then put (bound s0) .bound
      else if cp = ownState then
        match old with
        | some h =>
          if h.phase = .running then (put s0 .running).reportPlaced u St.OK gen
          else ((put s0 .running).rouseTask i.task).reportPlaced u St.OK gen
        | none => ((put (bound s0) .running).rouseTask i.task).reportPlaced u St.OK gen
      else if cp = 0 then ((put (bound s0) .running).takeUp i none).reportPlaced u St.OK gen
      else match tfind? s0.hlk.cps key with
        | some c =>
          if c.seq = cp then ((put (bound s0) .running).takeUp i (some c)).reportPlaced u St.OK gen
          else s0.reportPlaced u St.FAIL_INVALID gen
        | none => s0.reportPlaced u St.FAIL_INVALID gen

/-- UNPLACE on this module (R421, R423): the unit leaves at X, or at its next boundary for 0. -/
def State.acceptUnplace (s : State) (u x : Nat) (dest : Option Nat) : State :=
  match s.hostedAt u with
  | none => s
  | some h =>
    if x = 0 then s.beginLeaving { h with dest := dest }
    else s.putHosted { h with x := x, dest := dest }

/-- PLACE from the manager to a host, itself among them. -/
def State.sendPlace (s : State) (m : Nat) (i : UnitInfo) (x cp : Nat) : State :=
  let gen := s.num Reg.HLK_PLACE_GEN
  if m = s.sup.moduleNum then s.acceptPlace i.key x cp gen
  else s.linkSendRel m Al.PLACE [i.key, i.task, 0, x, cp, gen] []

/-- Place a unit under R418 and R422: on the chosen host from its latest complete checkpoint, or from DATA_INIT;
without a candidate it has no host. -/
def State.placeUnit (s : State) (u : Nat) : State :=
  match s.hlk.infos[u]? with
  | none => s
  | some i =>
    let r := s.unitRow u
    match s.chooseHost i r with
    | none => s.putRow u { r with host := none, st := 0, old := none }
    | some m =>
      let s1 := s.putRow u { r with host := some m, st := 1, old := none }
      match tfind? s1.hlk.cps i.key with
      | some c =>
        let s2 := if m = s1.sup.moduleNum then s1 else s1.sendCheckpoint m c
        s2.sendPlace m i 0 c.seq
      | none => s1.sendPlace m i 0 0

/-- Begin a planned move to a new host (R421 step 1). -/
def State.moveUnit (s : State) (u dest : Nat) (tag : Option Nat) : State :=
  match s.hlk.infos[u]? with
  | none => s
  | some i =>
    let r := s.unitRow u
    match r.host with
    | none => s
    | some o =>
      let x := s.chain + 10 * 65536
      let s1 := s.putRow u { r with host := some dest, st := 3, old := some o, x := x, moveTag := tag }
      let s2 := s1.sendPlace dest i x ownState
      if o = s2.sup.moduleNum then s2.acceptUnplace u x (some dest)
      else s2.linkSendRel o Al.UNPLACE [i.key, x, dest] []

/-- Place every unit that has no host and has a candidate (R418). -/
def State.placeWaiting (s : State) : State :=
  if !s.isManager ∨ !s.hlk.placed then s
  else s.forN s.hlk.infos.length fun a u =>
    match a.hlk.infos[u]? with
    | some i => if (a.unitRow u).host.isNone ∧ (a.chooseHost i (a.unitRow u)).isSome then a.placeUnit u else a
    | none => a

/-- The units of a host that leaves (R421, R422): moved as planned where it still serves its links, else re-placed; a
move from or to it that cannot end goes back or on. -/
def State.hostGone (s : State) (m : Nat) (planned : Bool) : State :=
  if !s.isManager then s
  else s.forN s.hlk.infos.length fun a u =>
    let r := a.unitRow u
    if r.host ≠ some m then a
    else if r.st = 3 then a.onPlaced u m St.FAIL_STATION_LOST
    else match planned, (a.hlk.infos[u]?).bind (fun i => a.chooseHost i r) with
      | true, some d => if d = m then a else a.moveUnit u d none
      | true, none =>
        let a1 := (a.endMove r St.FAIL_STATION_LOST).putRow u { r with host := none, st := 0, old := none, moveTag := none }
        if m = a1.sup.moduleNum then a1.acceptUnplace u 0 none
        else a1.linkSendRel m Al.UNPLACE [((a.hlk.infos[u]?).map (·.key)).getD 0, 0, 255] []
      | false, _ =>
        let a1 := a.putRow u { r with former := (m :: r.former).eraseDups }
        (a1.endMove r St.FAIL_STATION_LOST).placeUnit u

/-! ### Members leaving (R405, R409, R414, R430) -/

/-- STO's part of the loss of its peer (R384, R386). -/
def State.peerLost (s : State) (m : Nat) : State :=
  if s.stoPeer ≠ some m then s
  else
    let s1 := s.raiseIrq Blk.STO 4
    let s2 := (s1.sto.writes.filter (fun w => w.rep == .awaiting)).foldl (fun a w =>
      if a.critLocal then a.putWrite { w with rep := .noPeer } else a.failWrite w.tag St.FAIL_STATION_LOST 0) s1
    let s3 := (s2.sto.reads.filter (fun r => r.peer)).foldl (fun a r =>
      a.stoEnd r.tag St.FAIL_MEDIA (mediaReason 1)) s2
    (s3.notePeer).finishWrites

/-- A member leaves UP (R409). `silent` when it was declared lost: the operations of its unacknowledged frames fail
(R405); `planned` when it can still serve a move (R421). -/
def State.memberGone (s : State) (m : Nat) (silent planned : Bool) : State :=
  let s1 := (s.setMemSt m 3).raiseIrq Blk.HLK 1
  let ops := ((s1.peer m).unacked.map (·.ops)).flatten
  let s2 := if silent then
      ops.foldl (fun a t => a.decideOp t St.FAIL_STATION_LOST 0)
        ((s1.satInc Reg.HLK_LOSS_CNT 0 32 1).setPeer m { s1.peer m with unacked := [] })
    else s1
  let s3 := ((s2.staleModule m).stationLost (.module m)).peerLost m
  let s4 := if m = s3.manager ∧ !s3.isManager then
      { s3 with hlk := { s3.hlk with tkSince := some s3.clk } } else s3
  let s5 := if silent ∧ m = s4.manager ∧ !s4.isManager then s4.setFlag Reg.HLK_STAT 10 false else s4
  s5.hostGone m planned

/-- A member goes to MISMATCH: its units are moved (R409, R411). -/
def State.memberMismatch (s : State) (m : Nat) : State :=
  let s1 := (s.setMemSt m 4).setPeer m { s.peer m with badStart := some (s.fld (Reg.HLK_MBm_START m) 0 16) }
  s1.hostGone m true

end Sys2Proof.Machine
end

