-- ==== Sys2Proof/Machine/HlkRx.lean ====
section
/-! DEFINITION. What HLK does with the frames it receives, but for heartbeats and the frames that bind a pair (R404,
R413 to R421, R428, R429, R384 to R386). -/

namespace Sys2Proof.Machine

/-! ### Points (R413, R415, R417) -/

/-- The entries of a POINT_UPDATE: index, quality, value. -/
def updateEntries (l : List Nat) : List (Nat × Nat × Dword) :=
  match l with
  | i :: q :: _ :: v :: r => (i, q, BitVec.ofNat 64 v) :: updateEntries r
  | _ => []

/-- A unit's record writes the proxies bound to its source points (R417). -/
def State.updateProxies (s : State) (src key : Nat) (es : List (Nat × Nat × Dword)) : State :=
  match (s.unitOf key).bind (fun u => s.hlk.infos[u]?) with
  | none => s
  | some i =>
    if (s.unitOf key).all (fun u => (s.hostedAt u).isNone) then s
    else es.foldl (fun a e => ((a.slotsOf i).filter (fun p => !a.proxyIsOut i p.1 && p.2 == src * 65536 + e.1)).foldl
      (fun b p => b.storeOne Blk.HLK p.1 e.2.2 e.2.1) a) s

/-- A record of a set is kept whole: it enters the manager's mirror and the local points of the import map, with its
qualities (R413, R414). -/
def State.updateImport (s : State) (src set ch : Nat) (es : List (Nat × Nat × Dword)) : State :=
  let s1 := if s.isManager then
      { s with hlk := { s.hlk with mirror := es.foldl (fun m e =>
          tput m (src * 65536 + e.1) (e.2.2, e.2.1, 0, BitVec.ofNat 32 ch)) s.hlk.mirror } }
    else s
  match s1.hlk.imports.find? (fun x => x.src == src && x.set == set) with
  | none => s1
  | some x =>
    let s2 := es.foldl (fun a e => match x.map.find? (fun p => p.1 == e.1) with
      | some p => a.storePoint Blk.HLK p.2 e.2.2 e.2.1
      | none => a) s1
    s2.putImport { x with clk := s2.clk, stale := false }

/-- POINT_WRITE from another module (R415): under R11 with the writer's module as producer identity and under the tenant
checks; POINT_ACK carries the status and the chainage at which the write took effect. -/
def State.remoteWrite (s : State) (src i type tg ctx : Nat) (v : Dword) : State :=
  let p := s.point i
  let ack := fun (a : State) (st : Nat) => a.linkSend src Al.POINT_ACK [tg, st, 0, a.chain % 2 ^ 32]
  if p.producer ≠ .module src then ack s St.FAIL_DENIED
  else if !s.blockMay ctx i 1 then ack (s.countDenied ctx) St.FAIL_DENIED
  else if type ≠ p.type then ack s St.FAIL_INVALID
  else
    let s1 := s.writePointBy Blk.HLK i v Q.GOOD none none false ctx
    let s2 := match tfind? s1.fbc.outMap i with
      | some f => s1.putNodeOut f v
      | none => s1
    ack s2 St.OK

/-- POINT_ACK settles the tracked write of its tag word, or the oldest untracked write to that module (R415). -/
def State.ackWrite (s : State) (src tg status : Nat) : State :=
  let mine := s.scn.remote.filter (fun w => w.station == .module src && w.phase == .handed)
  let tracked := mine.find? (fun w => match w.tag with
    | some t => t + (s.slot t).gen * 512 == tg
    | none => false)
  match tracked with
  | some w => s.settleRemote w status
  | none => match mine.find? (fun w => w.tag.isNone) with
    | some w => if tg = 0 then s.settleRemote w status else s
    | none => s

/-- SUBSCRIBE (R417). -/
def State.subscribe (s : State) (src unit : Nat) (l : List Nat) : State :=
  let rest := s.hlk.subs.filter (fun x => !(x.dst == src && x.unit == unit))
  { s with hlk := { s.hlk with subs := rest ++ [UnitSub.mk src unit l 0 none []] } }

/-! ### Operations for other modules (R428, R429) -/

/-- What becomes at once of an operation that its block cannot take (R37, R60, R95). -/
def State.blockRefusal (s : State) (block opcode : Nat) : Option Nat :=
  if (opDefaultMs block opcode).isNone then some St.FAIL_INVALID
  else if s.inSrst block then some St.FAIL_RESET
  else if !s.en block then some St.FAIL_DENIED
  else none

/-- An operation begins here for another module, with HLK as its producer (R428); it is held while no tag is free
(R73). -/
def State.serveFor (s : State) (o : HeldOp) : State :=
  match s.beginInternal Blk.HLK o.block o.opcode o.ctx ((opDefaultMs o.block o.opcode).getD 0) o.param with
  | none =>
    let s1 := s.holdForTag (.hlkWrite o.id)
    { s1 with hlk := { s1.hlk with heldOps := s1.hlk.heldOps ++ [o] } }
  | some (t, s1) =>
    let s2 := { s1 with hlk := { s1.hlk with serving := tput s1.hlk.serving t (o.src, o.tg) } }
    match s2.blockRefusal o.block o.opcode with
    | some st => s2.decideOp t st 0
    | none => s2

/-- An operation asked for by the acting manager; one from another module is refused FAIL_DENIED (R428). -/
def State.askedFor (s : State) (src tg block opcode ctx : Nat) (param : BitVec 384) : State :=
  if src ≠ s.manager ∨ s.isManager then s.linkSendRel src Al.RESULT [tg, St.FAIL_DENIED, 0, 0] []
  else
    ({ s with hlk := { s.hlk with nextId := s.hlk.nextId + 1 } }).serveFor ⟨s.hlk.nextId, src, tg, block, opcode, ctx, param⟩

/-- RESULT completes the manager's operation of the tag word (R428). -/
def State.resultFor (s : State) (tg status result : Nat) : State :=
  let t := tg % 512
  let x := s.slot t
  if x.block = Blk.HLK ∧ x.gen = tg / 512 ∧ (x.opcode = 4 ∨ x.opcode = 5) then s.decideOp t status (BitVec.ofNat 32 result)
  else s

/-! ### Checkpoints (R419 to R421) -/

/-- A complete checkpoint: it is kept, and a unit that waits for it after X takes it up (R421 step 5). -/
def State.gotCp (s : State) (c : Checkpoint) : State :=
  let s1 := s.keepCp c
  match s1.unitOf c.key with
  | none => s1
  | some u => match s1.hostedAt u, s1.hlk.infos[u]? with
    | some h, some i =>
      if h.phase = .held then
        let s2 := (s1.putHosted { h with phase := .running, seq := c.seq }).takeUp i (some c)
        (s2.showCp u c).reportPlaced u St.OK h.gen
      else s1
    | _, _ => s1

/-- A CHECKPOINT fragment follows the bytes received so far; the checkpoint is complete when its CRC-32 checks
(R419). -/
def State.cpPart (s : State) (key seq ch total off crc : Nat) (data : List Byte) : State :=
  let old := (s.hlk.cpParts.find? (fun c => c.key == key && c.seq == seq)).map (·.data)
  let have_ := if off = 0 then [] else old.getD []
  let rest := s.hlk.cpParts.filter (fun c => c.key != key)
  let drop := { s with hlk := { s.hlk with cpParts := rest } }
  if have_.length ≠ off then drop
  else
    let all := have_ ++ data
    if all.length < total then
      { s with hlk := { s.hlk with cpParts := rest ++ [Checkpoint.mk key seq ch total crc all] } }
    else if all.length = total ∧ crc32 all = crc then drop.gotCp ⟨key, seq, ch, total, crc, all⟩
    else drop

/-! ### Replicas (R384 to R386) -/

/-- The replicas of another module's object but for one. -/
def dropReplica (l : List Replica) (src obj : Nat) : List Replica := l.filter (fun r => !(r.src == src && r.obj == obj))

/-- STANDBY_READY (R424): the replica of the placement table is at PLACE_GEN. -/
def State.noteStandby (s : State) : State :=
  let r := s.sto.replicas.find? (fun r => r.src == s.manager && r.obj == placementObj)
  let ready := s.fld Reg.HLK_STAT 8 2 == 3 && (match r.bind (·.data) with
    | some b => fieldAt b 0 4 == s.num Reg.HLK_PLACE_GEN
    | none => false)
  s.setFlag Reg.HLK_STAT 12 ready

/-- A version is promoted from pending (R385). -/
def State.promote (s : State) (src obj ver : Nat) : State :=
  match s.sto.pendRep.find? (fun r => r.src == src && r.obj == obj && r.ver == ver) with
  | none => s
  | some r =>
    let reps := dropReplica s.sto.replicas src obj
    ({ s with sto := { s.sto with pendRep := dropReplica s.sto.pendRep src obj
                                  replicas := if r.data.isSome then reps ++ [r] else reps } }).noteStandby

/-- A pending replica is kept and acknowledged (R384, R385). -/
def State.keepPending (s : State) (src obj ver : Nat) (data : Option (List Byte)) : State :=
  ({ s with sto := { s.sto with pendRep := dropReplica s.sto.pendRep src obj ++ [Replica.mk src obj ver data] } }).linkSend
    src Al.REPLICA_ACK [obj, ver, St.OK, 0]

/-- A fragment of a replica: the bytes so far, `none` while it is not whole. -/
def State.replicaPart (s : State) (src obj ver total off : Nat) (data : List Byte) : Option (List Byte) × State :=
  let old := (s.sto.parts.find? (fun r => r.src == src && r.obj == obj && r.ver == ver)).bind (·.data)
  let have_ := if off = 0 then [] else old.getD []
  let rest := dropReplica s.sto.parts src obj
  let drop := { s with sto := { s.sto with parts := rest } }
  if have_.length ≠ off then (none, drop)
  else
    let all := have_ ++ data
    if all.length < total then
      (none, { s with sto := { s.sto with parts := rest ++ [Replica.mk src obj ver (some all)] } })
    else (some all, drop)

/-- REPLICA_PUT. -/
def State.replicaPut (s : State) (src obj ver total off : Nat) (data : List Byte) : State :=
  if total = 0xFFFFFFFF then s.keepPending src obj ver none
  else match s.replicaPart src obj ver total off data with
    | (some b, s1) => s1.keepPending src obj ver (some b)
    | (none, s1) => s1

/-- REPLICA_ACK: an open write has its peer's part; an unreplicated object is replicated again, and its commit is told
(R384, R385). -/
def State.replicaAck (s : State) (src obj ver status : Nat) : State :=
  if s.stoPeer ≠ some src ∨ status ≠ St.OK then s
  else match s.sto.writes.find? (fun w => w.obj == obj && w.ver == ver && w.rep == .awaiting) with
    | some w => ((s.putWrite { w with rep := .acked }).notePeer).finishWrites.noteSto
    | none => match s.stoObj obj with
      | none => s
      | some o =>
        if o.ver = ver ∧ s.sto.unrep.contains obj then
          let s1 := (((s.putObj obj (some { o with localOnly := false })).noteUnrep obj false).linkSendRel src
            Al.REPLICA_COMMIT [obj, ver] []).noteSto
          if s1.sto.unrep = [] then (s1.setFlag Reg.STO_STAT 3 false).raiseIrq Blk.STO 5 else s1
        else s

/-- Pairs of object and version. -/
def pairsOf (l : List Nat) : List (Nat × Nat) :=
  match l with
  | a :: b :: r => (a, b) :: pairsOf r
  | _ => []

/-- REPLICA_REPORT: matching pending versions are promoted; after the last fragment the rest are dropped (R385). -/
def State.replicaReport (s : State) (src : Nat) (l : List Nat) (more : Bool) : State :=
  let s1 := (pairsOf l).foldl (fun a e => a.promote src e.1 e.2) s
  if more then s1 else { s1 with sto := { s1.sto with pendRep := s1.sto.pendRep.filter (fun r => r.src != src) } }

/-- REPLICA_FETCH: the committed replica goes back, a DELETE's mark where the peer holds no such version (R386). -/
def State.replicaFetch (s : State) (src obj ver : Nat) : State :=
  match (s.sto.replicas.find? (fun r => r.src == src && r.obj == obj && r.ver == ver)).bind (·.data) with
  | some b => s.sendParts src Al.REPLICA_DATA 1416 b (fun off => [obj, ver, b.length, off, 0]) []
  | none => s.linkSendRel src Al.REPLICA_DATA [obj, ver, 0xFFFFFFFF, 0, 0] []

/-- REPLICA_DATA: both local copies are rewritten and the waiting GETs complete; without the version they fail
(R386). -/
def State.replicaData (s : State) (src obj ver total off : Nat) (data : List Byte) : State :=
  let waiting := fun (a : State) => a.sto.reads.filter (fun r => r.peer && (stoParam (a.slot r.tag)).obj == obj)
  if s.stoPeer ≠ some src then s
  else if total = 0xFFFFFFFF then
    let s1 := match s.stoObj obj with
      | some o => s.putObj obj (some { o with damaged := true })
      | none => s
    (waiting s1).foldl (fun a r => a.stoEnd r.tag St.FAIL_MEDIA (mediaReason 1)) s1
  else match s.replicaPart src obj ver total off data with
    | (none, s1) => s1
    | (some b, s1) => match s1.stoObj obj with
      | none => s1
      | some o =>
        let s2 := (s1.satInc Reg.STO_REPLICA_FETCH_CNT 0 32 1).putObj obj (some { o with
          damaged := false
          body := match o.body with
            | .whole _ c1 c2 => .whole b c1 c2
            | x => x })
        (waiting s2).foldl (fun a r => a.completeGet r.tag) s2

/-! ### Delivery (R404, R405) -/

/-- A reliable frame is delivered; one shorter than its type's fixed fields is dropped and counted (R404). -/
def State.deliver (s : State) (src : Nat) (f : RxFrame) : State :=
  let bytes := fun (l : List Nat) => l.map (BitVec.ofNat 8)
  match f.type, f.fields with
  | 0x04, _ :: _ =>
    if s.isManager ∧ s.memSt src = 2 then s.memberGone src true false else s
  | 0x11, i :: ty :: _ :: tg :: ctx :: v :: _ => s.remoteWrite src i ty tg ctx (BitVec.ofNat 64 v)
  | 0x13, u :: n :: _ :: l => s.subscribe src u (l.take n)
  | 0x14, u :: _ =>
    { s with hlk := { s.hlk with subs := s.hlk.subs.filter (fun x => !(x.dst == src && x.unit == u)) } }
  | 0x20, op :: _ :: tg :: ctx :: _ :: p :: _ => s.askedFor src tg Blk.LAT op ctx (BitVec.ofNat 384 p)
  | 0x21, tg :: st :: _ :: r :: _ => s.resultFor tg st r
  | 0x22, tg :: pool :: _ :: lim :: _ => s.askedFor src tg Blk.ARB 1 0 (BitVec.ofNat 384 (pool % 256 + lim * 2 ^ 32))
  | 0x30, u :: _ :: _ :: x :: cp :: gen :: _ => if src = s.manager then s.acceptPlace u x cp gen else s
  | 0x31, u :: st :: _ => match s.unitOf u with
    | some k => if s.isManager then s.savePlacement (s.onPlaced k src st) else s
    | none => s
  | 0x32, u :: seq :: ch :: total :: off :: crc :: _ :: d => s.savePlacement (s.cpPart u seq ch total off crc (bytes d))
  | 0x33, u :: x :: d :: _ => match s.unitOf u with
    | some k => if src = s.manager then s.acceptUnplace k x (moduleOf d) else s
    | none => s
  | 0x40, o :: v :: total :: off :: _ :: d => s.replicaPut src o v total off (bytes d)
  | 0x42, o :: v :: _ => s.promote src o v
  | 0x43, l => s.replicaReport src l f.more
  | 0x44, o :: v :: _ => s.replicaFetch src o v
  | 0x45, o :: v :: total :: off :: _ :: d => s.replicaData src o v total off (bytes d)
  | _, _ => s.dropFrame

/-- A reliable frame arrives: what its SEQ lets through is delivered in order, and it is acknowledged (R405). -/
def State.receiveRel (s : State) (h : LinkHdr) (claims : Bool) (type : Nat) (fields : List Nat) : State :=
  s.receive h claims fun a =>
    let (l, a1) := a.orderFrame h.src ⟨type, h.seq, h.more, fields⟩
    (l.foldl (fun b f => b.deliver h.src f) a1).linkSend h.src Al.ACK []

end Sys2Proof.Machine
end

