-- ==== Sys2Proof/Machine/Hlk.lean ====
section
/-! DEFINITION. HLK's commands (R405 to R432), but for those that belong to the start sequence. -/

namespace Sys2Proof.Machine

/-! ### Heartbeats (R406, R407) -/

/-- HEARTBEAT_TX: once for every whole multiple of 100 ms of TB2, within 1 ms of it, to all members, with CHAINAGE and TB2 as
they stand and the rest as service core 1 sets it, while that core is down as it last set it (R24, R406, R407). A standby
whose wait for a majority has expired judges again from this round (R425). -/
def execHeartbeatTx (s : State) : Host.Outcome State Fault Refusal := s.powered fun s =>
  let l := if s.coreUp 1 then s.hbTold else s.hlk.told.getD s.hbTold
  let tb := s.tb 2
  let n := tb.time / (100000000 * nsUnit)
  if s.hlk.hbSent = some n ∨ 1000000 * nsUnit < tb.time % (100000000 * nsUnit) ∨ !s.linkOpen then s else
  let s1 := { s.nextFree with hlk := { s.nextFree.hlk with hbSent := some n } }.linkSend 0xFF Al.HEARTBEAT (l.take 4 ++ [s.chain, tb.sec, tb.ns] ++ l.drop 4 ++ [0])
  let again := s1.coreUp 1 && s1.fld Reg.HLK_STAT 8 2 == 3 && s1.memSt s1.manager == 3 && s1.hlk.tkSince.isNone
  (if again then { s1 with hlk := { s1.hlk with tkSince := some s1.clk } } else s1)

/-- The manager's chainage now less this module's, in au, from its chainage and TB2 time at one moment (R410). -/
def State.cycleGap (s : State) (ch sec ns : Nat) : Int :=
  let now : Int := (s.tb 2).time / nsUnit
  let at_ : Int := sec * 1000000000 + ns
  (ch : Int) + (now - at_) * (s.nominalHz * 65536 : Nat) / 1000000000 - (s.chain : Int)

/-- The whole cycles nearest to a difference in au. -/
def wholeCycles (d : Int) : Int := (d + 32768) / 65536

/-- A heartbeat of the acting manager gives the cycle difference (R110, R112, R410): reported to LAT when its angle part
lies within 8,192 au; more than 64 cycles mark this module CYC_MISMATCH. -/
def State.compareCycles (s : State) (ch sec ns : Nat) : State :=
  if s.latSt = LatSt.RESET then s
  else
    let d := s.cycleGap ch sec ns
    let w := wholeCycles d
    let s1 := s.setNum Reg.HLK_CYC_DIFF (unsigned 32 w)
    if (d - w * 65536).natAbs ≤ 8192 then
      let s2 := s1.cycleDifference w
      if 64 < w.natAbs ∧ !s2.flag Reg.HLK_STAT 22 then (s2.setFlag Reg.HLK_STAT 22 true).raiseIrq Blk.HLK 7 else s2
    else s1

/-- The acting manager changes (R426, R427): the pair is bound anew and the replica peer follows (R383). -/
def State.followManager (s : State) (m term role : Nat) : State :=
  let s1 := ((s.setFld Reg.HLK_STAT 16 6 m).setNum Reg.HLK_TERM term).setFld Reg.HLK_STAT 8 2 role
  if m = s1.sup.moduleNum then s1 else (s1.setFld Reg.STO_PEER 0 6 m).setFlag Reg.STO_PEER 6 true

/-- JOIN to the manager (R404, R409, R410): its entry is JOINING until WELCOME. -/
def State.sendJoin (s : State) : State :=
  let m := s.manager
  let s1 := (if s.memSt m = 2 then s else s.setMemSt m 1).bindPair m 0
  let s2 := { s1 with hlk := { s1.hlk with joinClk := s1.clk } }
  s2.linkSendRel m Al.JOIN
    [s2.sup.roleStrap, s2.mode, s2.num Reg.OPT_START_NUM % 2 ^ 16, Config.uid.toNat, s2.sup.imgId, s2.sup.imgVer, 0] []

/-- A manager's heartbeat with a higher TERM (R427): a former manager acts as standby and joins it; another module
follows it where it is the configured manager or standby. -/
def State.seeManager (s : State) (m term : Nat) : State :=
  if term ≤ s.num Reg.HLK_TERM then s
  else if s.isManager then
    ({ s.followManager m term 3 with hlk := { (s.followManager m term 3).hlk with placed := false } }).sendJoin
  else if m = s.manager then s.setNum Reg.HLK_TERM term
  else if m = s.fld Reg.HLK_CFG 16 6 ∨ (s.flag Reg.HLK_CFG 30 ∧ m = s.fld Reg.HLK_CFG 24 6) then
    (s.followManager m term s.sup.roleStrap).sendJoin
  else s

/-- What a heartbeat shows of its sender (R407, R433, R435). -/
def State.showMember (s : State) (h : LinkHdr) (role mode flags ch units : Nat) : State :=
  let m := h.src
  let s1 := ((s.setFld (Reg.HLK_MBm_STAT m) 3 2 mode).setFld (Reg.HLK_MBm_STAT m) 5 2 (role / 4)).setFlag
    (Reg.HLK_MBm_STAT m) 7 (bitOf flags 0)
  let s2 := ((s1.setNum (Reg.HLK_MBm_AGE m) (units % 2 ^ 16 * 2 ^ 16)).setNum (Reg.HLK_MBm_START m) (h.start % 2 ^ 16)).setNum
    (Reg.HLK_MBm_CHAIN m) ch
  s2.setPeer m { s2.peer m with hbClk := some s2.clk }

/-- A member comes UP: MEMBER_JOINED where it was ABSENT (R409). Its 350 ms begin. -/
def State.memberJoined (s : State) (m : Nat) : State :=
  let s1 := (s.setMemSt m 2).setPeer m { s.peer m with hbClk := some s.clk, joined := false }
  if s.memSt m = 0 then s1.raiseIrq Blk.HLK 2 else s1

/-- The step of R409 that a heartbeat asks for: the manager takes a member in only by JOIN. -/
def State.stepMember (s : State) (m mode flags start : Nat) : State :=
  let st := s.memSt m
  let away := mode == Mode.STANDBY || mode == Mode.MINIMAL
  if st = 2 ∧ away then s.memberGone m false (mode == Mode.STANDBY)
  else if st = 2 ∧ bitOf flags 1 then s.memberMismatch m
  else if s.isManager then
    if st = 3 ∧ mode = Mode.RUN ∧ (s.peer m).joined then (s.memberJoined m).wrapInc Reg.HLK_MEMBER_GEN 1 else s
  else if st = 0 ∧ !away then s.memberJoined m
  else if st = 3 ∧ mode = Mode.RUN ∧ m ≠ s.manager then s.memberJoined m
  else if st = 4 ∧ !bitOf flags 1 ∧ (s.peer m).badStart ≠ some (start % 2 ^ 16) then s.memberJoined m
  else s

/-- The manager tells a module that came back to stop units it no longer places there (R423). -/
def State.recallUnits (s : State) (m : Nat) : State :=
  if !s.isManager then s
  else s.forN s.hlk.infos.length fun a u =>
    let r := a.unitRow u
    if r.former.contains m then
      let a1 := a.putRow u { r with former := r.former.filter (· != m) }
      if r.host = some m then a1
      else a1.linkSendRel m Al.UNPLACE [((a.hlk.infos[u]?).map (·.key)).getD 0, 0, 255] []
    else a

/-- What the acting manager's heartbeat gives beside its view (R407, R423, R424, R427). -/
def State.fromManager (s : State) (h : LinkHdr) (role mode ch sec ns mgen pgen : Nat) : State :=
  if h.src ≠ s.manager ∨ s.isManager then s
  else
    let s1 := if mode ≤ 1 then { s with hlk := { s.hlk with mgrClk := some s.clk } } else s
    let s2 := ((s1.setNum Reg.HLK_MEMBER_GEN mgen).setNum Reg.HLK_PLACE_GEN pgen).setFlag Reg.HLK_STAT 11 false
    let s3 := if mode ≤ 1 then { s2 with hlk := { s2.hlk with tkSince := none } } else s2
    let s4 := (s3.compareCycles ch sec ns).noteStandby
    match s4.hlk.handback with
    | some t =>
      if role / 4 % 4 = 1 then ({ s4 with hlk := { s4.hlk with handback := none } }).decideOp t St.OK 0 else s4
    | none => s4

/-- The hardware that times the loss of a peer sees a heartbeat whatever service core 1 does (R23, R408), and where it came from
(R401). -/
def State.timeHeartbeat (s : State) (h : LinkHdr) (mode : Nat) : State :=
  if !s.linkOpen ∨ 63 < h.src ∨ h.src = s.sup.moduleNum ∨ !(s.peer h.src).admits h then s
  else
    let s1 := s.setPeer h.src { s.peer h.src with hbClk := some s.clk, via := some (h.mac, 48 + h.uplink % 2) }
    if h.src = s.manager ∧ !s.isManager ∧ mode ≤ 1 then { s1 with hlk := { s1.hlk with mgrClk := some s1.clk } } else s1

/-- HEARTBEAT_RX (R407 to R412, R423 to R427). -/
def execHeartbeatRx (hdr : LinkHdr) (fields : List Nat) (s : State) : Host.Outcome State Fault Refusal :=
  s.powered fun s => (s.timeHeartbeat hdr (fields.getD 1 3)).duty 1 (.heartbeatRx hdr fields) fun s =>
  match fields with
  | role :: mode :: flags :: _ :: ch :: sec :: ns :: units :: mgen :: pgen :: _ =>
    let claims := role / 4 % 4 == 1
    (s.receive hdr claims fun a =>
      let a1 := a.showMember hdr role mode flags ch units
      let a2 := if claims then a1.seeManager hdr.src hdr.term else a1
      let a3 := a2.fromManager hdr role mode ch sec ns mgen pgen
      let a4 := a3.stepMember hdr.src mode flags hdr.start
      let a5 := if mode = Mode.RUN ∧ 0 < units then a4.recallUnits hdr.src else a4
      s.savePlacement a5.placeWaiting)
  | _ => (if s.linkOpen then s.dropFrame else s)

/-- MEMBER_LOSS (R408): 350 ms of SYS time without an accepted heartbeat; one of the SYS cycle of the expiry counts. -/
def execMemberLoss (member : Nat) (s : State) : Host.Outcome State Fault Refusal := s.powered fun s =>
  let due := match (s.peer member).hbClk with
    | some c => decide (c + lossClk ≤ s.clk)
    | none => true
  if 63 < member ∨ s.memSt member ≠ 2 ∨ !due ∨ !s.linkOpen then s
  else s.yielding Rank.EXPIRY (.memberLoss member) fun s => s.savePlacement (s.memberGone member true false)

/-- FRAME_AUTH_DROP (R403, R404): a frame of a type that is not in the table. One of the table's types is judged by its own
command (`Peer.admits`). -/
def execFrameAuthDrop (s : State) : Host.Outcome State Fault Refusal := s.powered fun s =>
  (if s.linkOpen then s.dropFrame else s)

/-- HLK_TMR.RTX in SYS cycles, 0 read as 1 ms (R433). -/
def State.rtxClk (s : State) : Nat := Nat.max 1 (s.fld Reg.HLK_TMR 0 8) * msClk

/-- RTX_TIMER: the frames not acknowledged for HLK_TMR.RTX since their last sending are sent again with RETRY (R405). -/
def execRtxTimer (member : Nat) (s : State) : Host.Outcome State Fault Refusal :=
    s.powered fun s => s.duty 1 (.rtxTimer member) fun s =>
  let p := s.peer member
  let due := fun (f : LinkFrame) => decide (f.sent + s.rtxClk ≤ s.clk)
  let l := (p.unacked.take 64).filter due
  let now := (p.unacked.take 64).map (fun f => if due f then { f with sent := s.clk } else f) ++ p.unacked.drop 64
  if !s.linkOpen ∨ l = [] then s
  else ((l.foldl (fun a f => a.emitLink member f.type f.seq (relFlags true f.more) f.fields)
    (s.setPeer member { p with unacked := now })).satInc Reg.HLK_RTX_CNT 0 32 l.length)

/-- ACK (R405). -/
def execAck (hdr : LinkHdr) (s : State) : Host.Outcome State Fault Refusal :=
    s.powered fun s => s.duty 1 (.ack hdr) fun s => (s.receive hdr false id)

/-! ### Joining and leaving (R409, R410, R426, R427) -/

/-- Why the manager refuses a JOIN, 0 for none (R404, R409). -/
def State.joinCode (s : State) (m start uid : Nat) : Nat :=
  if s.memSt m = 5 then s.fld (Reg.HLK_MBm_STAT m) 8 8
  else if s.num64 (Reg.HLK_MBm_UID_LO m) = 0 then 1
  else if s.num64 (Reg.HLK_MBm_UID_LO m) ≠ uid then 2
  else if s.memSt m = 2 ∧ s.fld (Reg.HLK_MBm_START m) 0 16 ≠ start % 2 ^ 16 ∧ s.heard m then 3
  else 0

/-- JOIN at the manager: accepted or refused with WELCOME; the pair's sequences begin afresh (R405, R409). A member in
MISMATCH is taken in by a new life alone (R411). A LOST one comes UP once it has also sent a heartbeat in run mode (log
entry 202). -/
def State.joinRequest (s : State) (m start uid mode : Nat) : State :=
  let code := s.joinCode m start uid
  let s1 := s.bindPair m 0
  let welcome := fun (a : State) (c : Nat) =>
    let tb := a.tb 2
    a.linkSendRel m Al.WELCOME [c, a.sup.moduleNum, a.hlk.standby.getD 255, 0, a.chain, tb.sec, tb.ns, 0,
      a.num Reg.HLK_MEMBER_GEN, a.num Reg.HLK_PLACE_GEN, 0] []
  if code ≠ 0 then welcome ((s1.setMemSt m 5).setFld (Reg.HLK_MBm_STAT m) 8 8 code) code
  else if s.memSt m = 4 ∧ (s.peer m).badStart = some (start % 2 ^ 16) then welcome s1 0
  else
    let s2 := (s1.setNum (Reg.HLK_MBm_START m) (start % 2 ^ 16)).setFld (Reg.HLK_MBm_STAT m) 3 2 mode
    let ran := (s.heard m) && s.fld (Reg.HLK_MBm_STAT m) 3 2 == Mode.RUN
    let s3 := if s2.memSt m = 2 then s2
      else if s2.memSt m = 3 ∧ !ran then s2.setPeer m { s2.peer m with joined := true }
      else (s2.memberJoined m).wrapInc Reg.HLK_MEMBER_GEN 1
    (welcome s3 0).placeWaiting

/-- JOIN (R409). -/
def execJoin (hdr : LinkHdr) (fields : List Nat) (s : State) : Host.Outcome State Fault Refusal := s.powered fun s =>
  match fields with
  | _ :: mode :: start :: uid :: _ :: _ :: _ =>
    (s.receive hdr false fun a =>
      if a.isManager then s.savePlacement (a.joinRequest hdr.src start uid mode) else a)
  | _ => (if s.linkOpen then s.dropFrame else s)

/-- What WELCOME gives a worker beside its counter (R383, R385, R409, R410). -/
def State.welcomed (s : State) (h : LinkHdr) (code peer standby mgen pgen : Nat) : State :=
  let m := h.src
  let s1 := s.bindPair m h.seq
  if code ≠ 0 then s1.linkSend m Al.ACK []
  else
    let s2 := ((s1.memberJoined m).setNum Reg.HLK_TERM h.term).setFlag Reg.HLK_STAT 10 true
    let s3 := ((s2.setNum Reg.HLK_MEMBER_GEN mgen).setNum Reg.HLK_PLACE_GEN pgen).setFlag Reg.HLK_STAT 11 false
    let s4 := { s3 with hlk := { s3.hlk with standby := moduleOf standby, mgrClk := some s3.clk, tkSince := none } }
    let s5 := (s4.setFld Reg.STO_PEER 0 6 peer).setFlag Reg.STO_PEER 6 (decide (peer < 64))
    let crit := s5.sto.objs.filter (fun e => e.2.cls == Cls.CRITICAL && !e.2.localOnly)
    let n := Nat.max 1 ((crit.length + 119) / 120)
    (s5.forN n fun a k => a.linkSendPart m Al.REPLICA_REPORT (decide (k + 1 < n))
      (((crit.drop (120 * k)).take 120).map (fun e => [e.1, e.2.ver])).flatten []).linkSend m Al.ACK []

/-- JOIN_RETRY: every 1 s without WELCOME a worker sends JOIN again (R410). -/
def execJoinRetry (s : State) : Host.Outcome State Fault Refusal :=
    s.powered fun s => s.duty 1 .joinRetry fun s =>
  if !s.linkOpen ∨ s.isManager ∨ s.flag Reg.HLK_STAT 10 ∨ s.clk < s.hlk.joinClk + 1000 * msClk then s
  else s.sendJoin

/-- LEAVE (R409). -/
def execLeave (hdr : LinkHdr) (fields : List Nat) (s : State) : Host.Outcome State Fault Refusal := s.powered fun s =>
  (s.savePlacement (s.receiveRel hdr false Al.LEAVE fields))

/-- The placement a new acting manager takes over (R426 step 5): running units are confirmed on their hosts, the others
are placed from its own checkpoints. -/
def State.confirmUnits (s : State) : State :=
  s.forN s.hlk.infos.length fun a u =>
    match a.hlk.infos[u]?, (a.unitRow u).host with
    | some i, some m =>
      if m = a.sup.moduleNum ∨ a.memberUp m then
        (a.putRow u { a.unitRow u with st := 1, old := none, moveTag := none }).sendPlace m i 0 ownState
      else (a.putRow u { a.unitRow u with former := (m :: (a.unitRow u).former).eraseDups }).placeUnit u
    | _, _ => a.placeUnit u

/-- This module becomes acting manager (R426): the placement table comes from its replica or its object. -/
def State.becomeManager (s : State) (term : Nat) : State :=
  let old := s.manager
  let table := match (s.sto.replicas.find? (fun r => r.src == old && r.obj == placementObj)).bind (·.data) with
    | some b => some b
    | none => match s.stoObj placementObj with
      | some o => match o.body with
        | .whole b _ _ => some b
        | _ => none
      | none => none
  let s1 := s.followManager s.sup.moduleNum term 1
  let s2 := { s1 with hlk := { s1.hlk with mgrSince := s1.clk, placed := true, tkSince := none, mgrClk := none } }
  let s3 := match table with
    | some b => s2.loadTable b true
    | none => s2
  (s3.setFlag Reg.HLK_STAT 12 false).raiseIrq Blk.HLK 3

/-- TAKEOVER (R426, R427): accepted only from the configured standby with a higher TERM. One whose previous manager is
its sender hands the role to the strap manager. -/
def execTakeover (hdr : LinkHdr) (fields : List Nat) (s : State) : Host.Outcome State Fault Refusal := s.powered fun s =>
  match fields with
  | term :: prev :: standby :: _ =>
    (s.receive hdr false fun a =>
      if !a.flag Reg.HLK_CFG 30 ∨ hdr.src ≠ a.fld Reg.HLK_CFG 24 6 ∨ term ≤ a.num Reg.HLK_TERM then a
      else
        let m := if prev = hdr.src then a.fld Reg.HLK_CFG 16 6 else hdr.src
        let a1 := (a.bindPair hdr.src hdr.seq).linkSend hdr.src Al.ACK []
        if m = a1.sup.moduleNum then
          let a2 := (a1.becomeManager term).setFld Reg.STO_PEER 0 7 (standby % 64 + if standby < 64 then 64 else 0)
          let a3 := { a2 with hlk := { a2.hlk with standby := moduleOf standby } }
          s.savePlacement a3.confirmUnits
        else
          let a2 := (a1.followManager m term (if a1.isManager then 3 else a1.fld Reg.HLK_STAT 8 2)).bindPair m
            (if m = hdr.src then hdr.seq else 0)
          ({ a2 with hlk := { a2.hlk with standby := moduleOf standby, tkSince := none, mgrClk := some a2.clk } }).raiseIrq
            Blk.HLK 3)
  | _ => (if s.linkOpen then s.dropFrame else s)

/-- TAKEOVER goes to every member that is UP (R426). -/
def State.sendTakeover (s : State) (term prev standby : Nat) : State :=
  (s.others.filter s.memberUp).foldl (fun a m =>
    (a.bindPair m (a.peer m).rxSeq).linkSendRel m Al.TAKEOVER [term, prev, standby, 0] []) s

/-- Whether more than half of the other members UP have sent heartbeats without the manager since a moment (R425). -/
def State.majority (s : State) (since : Nat) : Bool :=
  let up := (s.others.filter s.memberUp)
  let votes := up.filter fun m => (match (s.peer m).hbClk with
    | some c => decide (since ≤ c)
    | none => false) && !s.flag (Reg.HLK_MBm_STAT m) 7
  up.isEmpty || decide (up.length < 2 * votes.length)

/-- TAKEOVER_WAIT in SYS cycles, 0 read as 1 (R433). -/
def State.takeoverWait (s : State) : Nat := Nat.max 1 (s.fld Reg.HLK_TMR 16 8) * 10 * msClk

/-- TAKEOVER_DECIDE (R425, R426). -/
def execTakeoverDecide (s : State) : Host.Outcome State Fault Refusal :=
    s.powered fun s => s.duty 1 .takeoverDecide fun s =>
  let mgr := s.manager
  let lost := s.memSt mgr == 3 && (!s.heard mgr || s.fld (Reg.HLK_MBm_STAT mgr) 3 2 == Mode.MINIMAL)
  match s.hlk.tkSince with
  | none => s
  | some c =>
    if !s.linkOpen ∨ s.fld Reg.HLK_STAT 8 2 ≠ 3 ∨ !s.flag Reg.HLK_STAT 12 ∨ s.mode ≠ Mode.RUN ∨ !lost
        ∨ !s.majority c ∨ c + s.takeoverWait < s.clk then s
    else
      let term := s.num Reg.HLK_TERM + 1
      let s1 := (s.becomeManager term).sendTakeover term mgr 255
      let s2 := { s1 with hlk := { s1.hlk with standby := none } }
      (s.savePlacement (s2.setFlag Reg.STO_PEER 6 false).confirmUnits)

/-- TAKEOVER_WAIT_EXPIRE: without the majority in time the standby does not take over (R425). -/
def execTakeoverWaitExpire (s : State) : Host.Outcome State Fault Refusal :=
    s.powered fun s => s.duty 1 .takeoverWaitExpire fun s => s.yielding Rank.EXPIRY .takeoverWaitExpire fun s =>
  match s.hlk.tkSince with
  | some c =>
    if c + s.takeoverWait ≤ s.clk ∧ !s.majority c then { s with hlk := { s.hlk with tkSince := none } } else s
  | none => s

/-! ### Frames of the members (R404) -/

/-- POINT_UPDATE: a record of a set, or of a unit's slots when SET is FFFFh (R413, R417). -/
def execPointUpdate (hdr : LinkHdr) (fields : List Nat) (s : State) : Host.Outcome State Fault Refusal :=
    s.powered fun s => s.duty 1 (.pointUpdate hdr fields) fun s =>
  match fields with
  | set :: n :: ch :: _ :: unit :: l =>
    let es := (updateEntries l).take n
    (s.receive hdr false fun a =>
      if set = 0xFFFF then a.updateProxies hdr.src unit es else a.updateImport hdr.src set ch es)
  | _ => (if s.linkOpen then s.dropFrame else s)

/-- AL_POINT_WRITE (R415). -/
def execAlPointWrite (hdr : LinkHdr) (fields : List Nat) (s : State) : Host.Outcome State Fault Refusal := s.powered fun s =>
  (s.receiveRel hdr false Al.POINT_WRITE fields)

/-- POINT_ACK (R415). -/
def execPointAck (hdr : LinkHdr) (fields : List Nat) (s : State) : Host.Outcome State Fault Refusal :=
    s.powered fun s => s.duty 1 (.pointAck hdr fields) fun s =>
  match fields with
  | tg :: st :: _ => (s.receive hdr false fun a => a.ackWrite hdr.src tg st)
  | _ => (if s.linkOpen then s.dropFrame else s)

/-- SUBSCRIBE (R417). -/
def execSubscribe (hdr : LinkHdr) (fields : List Nat) (s : State) : Host.Outcome State Fault Refusal := s.powered fun s =>
  (s.receiveRel hdr false Al.SUBSCRIBE fields)

/-- UNSUBSCRIBE (R404). -/
def execUnsubscribe (hdr : LinkHdr) (fields : List Nat) (s : State) : Host.Outcome State Fault Refusal := s.powered fun s =>
  (s.receiveRel hdr false Al.UNSUBSCRIBE fields)

/-- STAKE_EDIT (R428). -/
def execStakeEdit (hdr : LinkHdr) (fields : List Nat) (s : State) : Host.Outcome State Fault Refusal := s.powered fun s =>
  (s.receiveRel hdr true Al.STAKE_EDIT fields)

/-- RESULT (R428). -/
def execResult (hdr : LinkHdr) (fields : List Nat) (s : State) : Host.Outcome State Fault Refusal := s.powered fun s =>
  (s.receiveRel hdr false Al.RESULT fields)

/-- LIMIT (R429). -/
def execLimit (hdr : LinkHdr) (fields : List Nat) (s : State) : Host.Outcome State Fault Refusal := s.powered fun s =>
  (s.receiveRel hdr true Al.LIMIT fields)

/-- PLACE (R420 to R422, R426). -/
def execPlace (hdr : LinkHdr) (fields : List Nat) (s : State) : Host.Outcome State Fault Refusal := s.powered fun s =>
  (s.receiveRel hdr true Al.PLACE fields)

/-- PLACED (R421). -/
def execPlaced (hdr : LinkHdr) (fields : List Nat) (s : State) : Host.Outcome State Fault Refusal := s.powered fun s =>
  (s.receiveRel hdr false Al.PLACED fields)

/-- CHECKPOINT (R419, R421). -/
def execCheckpoint (hdr : LinkHdr) (fields : List Nat) (s : State) : Host.Outcome State Fault Refusal := s.powered fun s =>
  (s.receiveRel hdr false Al.CHECKPOINT fields)

/-- UNPLACE (R421, R423). -/
def execUnplace (hdr : LinkHdr) (fields : List Nat) (s : State) : Host.Outcome State Fault Refusal := s.powered fun s =>
  (s.receiveRel hdr true Al.UNPLACE fields)

/-- REPLICA_PUT (R385). -/
def execReplicaPut (hdr : LinkHdr) (fields : List Nat) (s : State) : Host.Outcome State Fault Refusal := s.powered fun s =>
  (s.receiveRel hdr false Al.REPLICA_PUT fields)

/-- REPLICA_ACK (R384). -/
def execReplicaAck (hdr : LinkHdr) (fields : List Nat) (s : State) : Host.Outcome State Fault Refusal :=
    s.powered fun s => s.duty 1 (.replicaAck hdr fields) fun s =>
  match fields with
  | obj :: ver :: st :: _ => (s.receive hdr false fun a => a.replicaAck hdr.src obj ver st)
  | _ => (if s.linkOpen then s.dropFrame else s)

/-- REPLICA_COMMIT (R385). -/
def execReplicaCommit (hdr : LinkHdr) (fields : List Nat) (s : State) : Host.Outcome State Fault Refusal := s.powered fun s =>
  (s.receiveRel hdr false Al.REPLICA_COMMIT fields)

/-- REPLICA_REPORT (R385). -/
def execReplicaReport (hdr : LinkHdr) (fields : List Nat) (s : State) : Host.Outcome State Fault Refusal := s.powered fun s =>
  (s.receiveRel hdr false Al.REPLICA_REPORT fields)

/-- REPLICA_FETCH (R386). -/
def execReplicaFetch (hdr : LinkHdr) (fields : List Nat) (s : State) : Host.Outcome State Fault Refusal := s.powered fun s =>
  (s.receiveRel hdr false Al.REPLICA_FETCH fields)

/-- REPLICA_DATA (R386). -/
def execReplicaData (hdr : LinkHdr) (fields : List Nat) (s : State) : Host.Outcome State Fault Refusal := s.powered fun s =>
  (s.receiveRel hdr false Al.REPLICA_DATA fields)

/-! ### Exported and imported sets (R412, R414, R417) -/

/-- The values and qualities of points at one moment. -/
def State.latchPoints (s : State) (l : List Nat) : List (Dword × Nat) := l.map (fun i => ((s.pointFor Blk.HLK i).value, (s.pointFor Blk.HLK i).quality))

/-- The payload entries of points (R404). -/
def State.pointEntries (s : State) (l : List Nat) : List Nat :=
  (l.map (fun i => [i, (s.pointFor Blk.HLK i).quality, (s.point i).type, (s.pointFor Blk.HLK i).value.toNat])).flatten

/-- Whether a record is due: at the cycle boundary, angle 0, whose count is a multiple of PERIOD, or on a change, once per cycle
(R412). -/
def recordDue (s : State) (period : Nat) (onchange : Bool) (cycle : Option Nat) (last now : List (Dword × Nat)) : Bool :=
  let c := s.chain / 65536
  cycle != some c && ((c % Nat.max 1 period == 0 && s.chain % 65536 == 0) || (onchange && last != now))

/-- EXPORT_SET_SEND (R412, R417): the set is latched at one chainage and sent to its subscribers and the acting
manager; with SET = FFFFh the slots a unit's host subscribed, each cycle and on change. -/
def execExportSetSend (set unit dst : Nat) (s : State) : Host.Outcome State Fault Refusal :=
    s.powered fun s => s.duty 1 (.exportSetSend set unit dst) fun s =>
  let c := s.chain / 65536
  if set = 0xFFFF then
    match s.hlk.subs.find? (fun x => x.unit == unit && x.dst == dst) with
    | none => s
    | some x =>
      let now := s.latchPoints x.idxs
      if !s.linkOpen ∨ !recordDue s 1 true x.cycle x.last now then s
      else
        let n := (x.idxs.length + 117) / 118
        let s1 := s.forN n fun a k =>
          let l := (x.idxs.drop (118 * k)).take 118
          a.linkSend dst Al.POINT_UPDATE ([0xFFFF, l.length, s.chain, x.seq + 1, unit] ++ s.pointEntries l)
        { s1 with hlk := { s1.hlk with subs := s1.hlk.subs.map fun (y : UnitSub) =>
          if y.unit = unit ∧ y.dst = dst then { y with seq := y.seq + 1, cycle := some c, last := now } else y } }
  else match s.hlk.exports.find? (fun x => x.set == set) with
    | none => s
    | some x =>
      let now := s.latchPoints x.points
      if !s.linkOpen ∨ !recordDue s x.period x.onchange x.cycle x.last now then s
      else
        let dsts := ((s.manager :: x.subs).eraseDups).filter (· != s.sup.moduleNum)
        let s1 := dsts.foldl (fun a m => a.linkSend m Al.POINT_UPDATE
          ([set, x.points.length, s.chain, x.seq + 1, 0] ++ s.pointEntries x.points)) s
        { s1 with hlk := { s1.hlk with exports := s1.hlk.exports.map fun (y : ExportSet) =>
          if y.set = set then { y with seq := y.seq + 1, cycle := some c, last := now } else y } }

/-- IMPORT_STALE: no record for 3 × PERIOD cycles plus 350 ms (R414). -/
def execImportStale (src set : Nat) (s : State) : Host.Outcome State Fault Refusal :=
    s.powered fun s => s.duty 1 (.importStale src set) fun s =>
  match s.hlk.imports.find? (fun x => x.src == src && x.set == set) with
  | none => s
  | some x =>
    if x.stale ∨ s.clk < x.clk + 3 * x.period * s.nominalClk + lossClk then s
    else s.yielding Rank.EXPIRY (.importStale src set) fun s => s.staleImport x

/-! ### Placement (R416 to R423) -/

/-- PLACE_ALL: every member of the table UP, or PLACE_WAIT after becoming manager (R418). -/
def execPlaceAll (s : State) : Host.Outcome State Fault Refusal :=
    s.powered fun s => s.duty 1 .placeAll fun s =>
  let wait := Nat.max 1 (s.fld Reg.HLK_TMR 24 8) * 1000 * msClk
  if !s.linkOpen ∨ !s.isManager ∨ s.hlk.placed ∨ (!s.others.all s.memberUp ∧ s.clk < s.hlk.mgrSince + wait) then s
  else (s.savePlacement ({ s with hlk := { s.hlk with placed := true } }).placeWaiting)

/-- CHECKPOINT_TAKE: at a task boundary in a new TB2 second a running unit is checkpointed to the replica peer and the
standby manager; a leaving one whose run has ended ends here (R419, R421). -/
def execCheckpointTake (unit : Nat) (s : State) : Host.Outcome State Fault Refusal :=
    s.powered fun s => s.duty 1 (.checkpointTake unit) fun s =>
  match s.hostedAt unit, s.hlk.infos[unit]? with
  | some h, some i =>
    if h.phase = .leaving then (s.endLeaving h)
    else
      let sec := (s.tb 2).sec
      if h.phase ≠ .running ∨ s.taskBusy i.task ∨ h.sec = sec ∨ !s.linkOpen then s
      else match s.makeCp i h with
        | some c => ((s.putHosted { h with seq := c.seq, sec := sec }).shareCp unit c s.holders)
        | none => s
  | _, _ => s

/-- UNIT_MOVE_AT_X (R421 step 3): on the old host no run begins any more; on the new host starts from X on are held. -/
def execUnitMoveAtX (unit : Nat) (s : State) : Host.Outcome State Fault Refusal := s.powered fun s =>
  match s.hostedAt unit, s.hlk.infos[unit]? with
  | some h, some i =>
    if h.x = 0 ∨ s.chain < h.x then s
    else match h.phase with
      | .running => (s.beginLeaving h)
      | .bound =>
        match s.unitRoot i with
        | none => s
        | some (e, _) =>
          let t := i.task
          let s1 := s.putHosted { h with phase := .held, xClk := s.clk }
          let s2 := s1.setTaskRt t { s1.taskRt t with dormant := false, hold := true, queue := [] }
          if !s2.mayWake t then s2
          else
            let s3 := s2.setTaskSt t TaskSt.WAITING
            (if e.event then s3.armNext t else s3.setNum64 (Reg.SCN_TnNEXT_LO t) (nextGrid h.x e.period e.start))
      | _ => s
  | _, _ => s

/-- MOVE_TIMEOUT: no complete checkpoint by X + 200 ms: the held starts are discarded and the unit unbinds here
(R421). -/
def execMoveTimeout (unit : Nat) (s : State) : Host.Outcome State Fault Refusal :=
    s.powered fun s => s.duty 1 (.moveTimeout unit) fun s =>
  match s.hostedAt unit, s.hlk.infos[unit]? with
  | some h, some i =>
    if h.phase ≠ .held ∨ s.clk < h.xClk + 200 * msClk then s
    else s.yielding Rank.EXPIRY (.moveTimeout unit) fun s => s.savePlacement
      ((((s.sleepTask i.task).unbindUnit i).dropHosted unit).reportPlaced unit St.FAIL_TIMEOUT h.gen)
  | _, _ => s

/-- ISOLATION: no heartbeat of the manager for 350 ms and heartbeats of no more than half of the other members: every
hosted unit stops at its next boundary (R423). -/
def execIsolation (s : State) : Host.Outcome State Fault Refusal := s.powered fun s =>
  let few := decide (2 * (s.others.filter s.heard).length ≤ s.others.length)
  if !s.linkOpen ∨ s.isManager ∨ s.mgrSeen ∨ !few then s
  else s.yielding Rank.EXPIRY .isolation fun s =>
    let s1 := if s.flag Reg.HLK_STAT 11 then s else (s.setFlag Reg.HLK_STAT 11 true).raiseIrq Blk.HLK 5
    (s1.hlk.hosted.foldl (fun a h => a.beginLeaving { h with dest := none }) s1)

/-! ### Operations (R432) -/

/-- An operation's request has left; it is not sent again. -/
def State.markAsked (s : State) (x : Slot) : State :=
  let open_ := (s.opt.slots.filter (fun e => e.2.st == .active)).map (fun e => e.2.ord)
  { s with hlk := { s.hlk with asked := x.ord :: s.hlk.asked.filter open_.contains } }

/-- An operation of HLK that this module serves: the acting manager in context 0000h, NS_READ in every context. -/
def State.hlkOp (s : State) (tag opcode : Nat) (f : Slot → State) : State :=
  match s.activeOp tag Blk.HLK opcode with
  | none => s
  | some x =>
    if s.hlk.asked.contains x.ord then s
    else if !s.isManager ∨ s.sup.roleStrap = 0 ∨ (x.ctx ≠ 0 ∧ opcode ≠ 1) then s.decideOp tag St.FAIL_DENIED 0 else f x

/-- A record's 16 bytes (R10). -/
def recordBytes (v : Dword) (q type ctx : Nat) (stamp : Word) : List Byte :=
  leBytes 8 v.toNat ++ leBytes 1 q ++ leBytes 1 type ++ leBytes 2 ctx ++ leBytes 4 stamp.toNat

/-- NS_READ (R414, R432): a point of this module under R551; another module's mirror record, STALE while that module is
not UP. A range names local points, so a tenant's record of another module is refused. -/
def execNsRead (tag : Nat) (s : State) : Host.Outcome State Fault Refusal := s.powered fun s =>
  (s.hlkOp tag 1 fun x =>
    let g := paramField x.param 0 4 % 2 ^ 22
    let addr := paramField x.param 8 8
    match tfind? s.hlk.dir g with
    | none => s.decideOp tag St.FAIL_INVALID 0
    | some dc =>
      let ctx := dc / 256
      let m := g / 65536
      if m = s.sup.moduleNum then
        let i := g % 65536
        let p := s.pointFor Blk.HIF i
        if !s.hostMayRead x.ctx i then (s.countDenied x.ctx).decideOp tag St.FAIL_DENIED 0
        else (s.emit (.dma addr (recordBytes p.value p.quality p.type p.ctx p.stamp))).decideOp tag St.OK 0
      else if x.ctx ≠ 0 ∨ ctx ≠ 0 then (s.countDenied x.ctx).decideOp tag St.FAIL_DENIED 0
      else
        let (v, q, _, st) := (tfind? s.hlk.mirror g).getD (0, Q.UNINIT, 0, 0)
        let q' := if s.memberUp m then q else Q.STALE
        (s.emit (.dma addr (recordBytes v q' (dc % 256) ctx st))).decideOp tag St.OK 0)

/-- MOVE (R421, R432). A unit already on the module completes at once, one that is moving FAIL_CONFLICT. -/
def execMove (tag : Nat) (s : State) : Host.Outcome State Fault Refusal := s.powered fun s =>
  (s.hlkOp tag 2 fun x =>
    let m := paramField x.param 4 1
    match s.unitOf (paramField x.param 0 4) with
    | none => s.decideOp tag St.FAIL_INVALID 0
    | some u => match s.hlk.infos[u]? with
      | none => s.decideOp tag St.FAIL_INVALID 0
      | some i =>
        let r := s.unitRow u
        if !s.candidate i m then s.decideOp tag St.FAIL_INVALID 0
        else if r.host = some m ∧ r.st = 2 then s.decideOp tag St.OK 0
        else if r.st = 3 ∨ r.st = 1 then s.decideOp tag St.FAIL_CONFLICT 0
        else match r.host with
          | some _ => s.savePlacement ((s.markAsked x).moveUnit u m (some tag))
          | none =>
            let s1 := (s.markAsked x).putRow u { r with host := some m, st := 1, moveTag := some tag }
            s.savePlacement (match tfind? s1.hlk.cps i.key with
              | some c => (if m = s1.sup.moduleNum then s1 else s1.sendCheckpoint m c).sendPlace m i 0 c.seq
              | none => s1.sendPlace m i 0 0))

/-- PIN (R418, R432): recorded; the unit moves to its pin, or stays without a host while the pin is no candidate. -/
def execPin (tag : Nat) (s : State) : Host.Outcome State Fault Refusal := s.powered fun s =>
  (s.hlkOp tag 3 fun x =>
    let p := moduleOf (paramField x.param 4 1)
    match s.unitOf (paramField x.param 0 4) with
    | none => s.decideOp tag St.FAIL_INVALID 0
    | some u => match s.hlk.infos[u]? with
      | none => s.decideOp tag St.FAIL_INVALID 0
      | some i =>
        let r := { s.unitRow u with pin := p }
        let s1 := s.putRow u r
        let s2 := match p, r.host with
          | some m, some h =>
            if m = h then s1
            else if s1.candidate i m then s1.moveUnit u m none
            else
              let s3 := s1.putRow u { r with host := none, st := 0, old := none }
              if h = s3.sup.moduleNum then s3.acceptUnplace u 0 none
              else s3.linkSendRel h Al.UNPLACE [i.key, 0, 255] []
          | _, none => s1.placeWaiting
          | none, some _ => s1
        s.savePlacement (s2.decideOp tag St.OK 0))

/-- A remote operation's target: UP, lost, or in MISMATCH (R411, R428). -/
def State.remoteTarget (s : State) (m : Nat) : Option Nat :=
  if 63 < m then some St.FAIL_STATION_LOST
  else if s.memSt m = 4 then some St.FAIL_CONFLICT
  else if !s.memberUp m then some St.FAIL_STATION_LOST
  else none

/-- REMOTE_STAKE (R428): the LAT operation goes to the target with the descriptor's CTX. -/
def execRemoteStake (tag : Nat) (param : BitVec 384) (s : State) : Host.Outcome State Fault Refusal := s.powered fun s =>
  (s.hlkOp tag 4 fun x =>
    let m := paramField x.param 0 1
    match s.remoteTarget m with
    | some st => s.decideOp tag st 0
    | none => (s.markAsked x).linkSendRel m Al.STAKE_EDIT [paramField x.param 1 1, 0, tag + x.gen * 512, x.ctx, 0, param.toNat] [tag])

/-- REMOTE_LIMIT (R429). -/
def execRemoteLimit (tag : Nat) (s : State) : Host.Outcome State Fault Refusal := s.powered fun s =>
  (s.hlkOp tag 5 fun x =>
    let m := paramField x.param 0 1
    match s.remoteTarget m with
    | some st => s.decideOp tag st 0
    | none => (s.markAsked x).linkSendRel m Al.LIMIT [tag + x.gen * 512, paramField x.param 1 1, 0, paramField x.param 4 4] [tag])

/-- HANDBACK (R427): TAKEOVER with TERM + 1 names the strap manager; the operation completes when that module's
heartbeat shows acting role 01b. -/
def execHandback (tag : Nat) (s : State) : Host.Outcome State Fault Refusal := s.powered fun s =>
  (s.hlkOp tag 6 fun x =>
    let m := s.fld Reg.HLK_CFG 16 6
    if !s.memberUp m then s.decideOp tag St.FAIL_STATION_LOST 0
    else
      let own := s.sup.moduleNum
      let term := s.num Reg.HLK_TERM + 1
      let s1 := ((s.markAsked x).sendTakeover term own own).followManager m term 3
      { s1 with hlk := { s1.hlk with handback := some tag, placed := false, standby := some own, mgrClk := some s1.clk } })

end Sys2Proof.Machine
end

