-- ==== Sys2Proof/Machine/KeyTen.lean ====
section
/-! DEFINITION. KEY's operations on slots, tenants and floors and the cache (R538 to R549, R558), TEN's sessions, seals
and point operations (R550 to R559, R617). LC_ADVANCE stands in Machine/KeyLc.lean. -/

namespace Sys2Proof.Machine

/-! ### KEY's record and slots (R538, R548, R562) -/

/-- The life-cycle state as the OTP holds it; KEY_LC.STATE shows it from the start on (R542, R561). -/
def State.lcState (s : State) : Nat := s.key.otpState

/-- A failed signature, token or unwrap is counted (R561). -/
def State.authFail (s : State) : State := (s.satInc Reg.KEY_AUTH_FAIL_CNT 0 32 1).raiseIrq Blk.KEY 1

/-- Write KEY's record as it stands into blob 0; the operation completes once that is durable (R548, R558). -/
def State.writeCtxRecord (s : State) (t : Nat) (r : Word) : State :=
  let s1 := s.setSlot t { s.slot t with result := r }
  let s2 := { s1 with key := { s1.key with writes := s1.key.writes ++ [(t, s1.key.record)] } }
  s2.stoAsk (.keyRecord t) (keyObj 0) StoOp.PUT (s2.stoFree (keyObj 0))

/-- Write or delete blob c (R548, R558). -/
def State.writeBlob (s : State) (t c : Nat) (r : Word) : State :=
  let s1 := s.setSlot t { s.slot t with result := r }
  let b := s1.blob c
  let s2 := { s1 with key := { s1.key with blobWrites := s1.key.blobWrites ++ [(t, c, b)] } }
  s2.stoAsk (.blob t c) (keyObj c) (if b.isSome then StoOp.PUT else StoOp.DELETE) (s2.stoFree (keyObj c))

/-- The first 4 bytes of SHA-256 of a public key, or of AES-256-GCM over zero bytes for a secret key (R561). -/
def keyCheck (pub : Bool) (secret : BitVec 512) : Nat :=
  if pub then leNat ((beBytes 32 (Config.sha256 (beBytes 64 secret.toNat)).toNat).take 4)
  else leNat ((Config.gcmSeal (secret.setWidth 256) 0 [] []).take 4)

/-- Put a key into a slot with its attributes (R538, R562). -/
def State.putKey (s : State) (n : Nat) (secret : BitVec 512) (pub : Bool) (attr : Nat) : State :=
  let g := (s.fld (Reg.KEY_SLOTs_GEN n) 0 16 + 1) % 2 ^ 16
  let a := 1 + (if pub then 4 else 0) + (attr &&& 0x3F8)
  let s1 := ((s.setNum (Reg.KEY_SLOTs_ATTR n) a).setNum (Reg.KEY_SLOTs_GEN n) g).setNum (Reg.KEY_SLOTs_KCV n)
    (keyCheck pub secret)
  let r := s1.key.record
  ({ s1 with key := { s1.key with record :=
      { r with attrs := tput r.attrs n (BitVec.ofNat 32 a), gens := tput r.gens n g, secrets := tput r.secrets n secret } } }).raiseIrq
    Blk.KEY 2

/-- Clear a slot; its generation stays. -/
def State.clearKey (s : State) (n : Nat) : State :=
  let s1 := (s.setNum (Reg.KEY_SLOTs_ATTR n) 0).setNum (Reg.KEY_SLOTs_KCV n) 0
  let r := s1.key.record
  ({ s1 with key := { s1.key with record := { r with attrs := tdel r.attrs n, secrets := tdel r.secrets n } } }).raiseIrq
    Blk.KEY 2

/-- Unwrap 40 bytes under a slot's AES key (R540). -/
def State.unwrapSlot (s : State) (n : Nat) (b : List Byte) : Option (BitVec 256) :=
  match tfind? s.key.record.secrets n with
  | some k => if s.flag (Reg.KEY_SLOTs_ATTR n) 0 then Config.kwUnwrap (k.setWidth 256) b else none
  | none => none

/-- SLOT_INSTALL (R538, R542, R558, R562). A public key, 64 bytes in clear, is installed in slot 5 or where VERIFY is
set; every other key is an AES-256 key. -/
def execSlotInstall (tag : Nat) (key : List Byte) (s : State) : Host.Outcome State Fault Refusal := s.powered fun s =>
  match s.activeOp tag Blk.KEY 1 with
  | none => s
  | some x =>
    let n := paramField x.param 0 1
    let mode := paramField x.param 1 1
    let attr := paramField x.param 2 2
    let pub := n == 5 || (6 ≤ n && bitOf attr 8)
    if n < 4 ∨ 15 < n ∨ 1 < mode ∨ 2 ^ 10 ≤ attr ∨ (pub && mode == 1) then (s.decideOp tag St.FAIL_INVALID 0)
    else if 3 ≤ s.lcState ∨ (s.lcState = 2 ∧ mode = 0) ∨ s.flag (Reg.KEY_SLOTs_ATTR n) 4 then
      (s.decideOp tag St.FAIL_DENIED 0)
    else if key.length < (if mode = 1 then 40 else if pub then 64 else 32) then s
    else
      let secret : Option (BitVec 512) :=
        if mode = 1 then (s.unwrapSlot 4 (key.take 40)).map (fun k => k.setWidth 512)
        else some (BitVec.ofNat 512 (leNat ((key.take (if pub then 64 else 32)).reverse)))
      match secret with
      | none => (s.authFail.decideOp tag St.FAIL_INVALID 0)
      | some k =>
        let s1 := s.putKey n k pub attr
        (s1.writeCtxRecord tag (s1.reg (Reg.KEY_SLOTs_GEN n)))

/-- SLOT_DESTROY (R558). -/
def execSlotDestroy (tag : Nat) (s : State) : Host.Outcome State Fault Refusal := s.powered fun s =>
  match s.activeOp tag Blk.KEY 2 with
  | none => s
  | some x =>
    let n := paramField x.param 0 1
    if n < 4 ∨ 15 < n then (s.decideOp tag St.FAIL_INVALID 0)
    else if s.flag (Reg.KEY_SLOTs_ATTR n) 4 then (s.decideOp tag St.FAIL_DENIED 0)
    else ((s.clearKey n).writeCtxRecord tag 0)

/-- ATTEST: slot 0 signs SHA-256(UID ‖ KEY_LC ‖ challenge), 64 bytes written after the challenge (R541, R558). Without a
root no key exists, and the operation is denied. -/
def execAttest (tag : Nat) (challenge : List Byte) (s : State) : Host.Outcome State Fault Refusal := s.powered fun s =>
  match s.activeOp tag Blk.KEY 4 with
  | none => s
  | some x =>
    if challenge.length < 32 then s
    else if !s.flag Reg.KEY_LC 24 then (s.decideOp tag St.FAIL_DENIED 0)
    else
      let d := Config.sha256 (uidBytes ++ beBytes 4 (s.num Reg.KEY_LC) ++ challenge.take 32)
      let sig := Config.ecdsaSign (derivedKey s.key.otpEpoch 0) s.free d
      let s1 := s.nextFree.emit (.dma (paramField x.param 8 8 + 32) (beBytes 64 sig.toNat))
      (s1.decideOp tag St.OK 0)

/-- SET_FLOOR (R546, R558). -/
def execSetFloor (tag : Nat) (s : State) : Host.Outcome State Fault Refusal := s.powered fun s =>
  match s.activeOp tag Blk.KEY 7 with
  | none => s
  | some x =>
    let id := paramField x.param 0 4
    let floor := paramField x.param 4 4
    let scan := if s.flag Reg.SCN_BANK 0 then s.scn.bankB else s.scn.bankA
    let running : Option Nat :=
      if s.sup.imgOk ∧ s.sup.imgId = id then some s.sup.imgVer
      else match scan with
        | some b => if b.id = id then some b.ver else none
        | none => none
    match running with
    | none => (s.decideOp tag St.FAIL_INVALID 0)
    | some v =>
      if v < floor then (s.decideOp tag St.FAIL_INVALID 0)
      else
        let r := s.key.record
        let old := tget (fun _ => 0) r.floors id
        let s1 := { s with key := { s.key with record := { r with floors := tset (fun _ => 0) r.floors id (Nat.max old floor) } } }
        (s1.writeCtxRecord tag 0)

/-! ### Sessions (R554) -/

/-- TEN_SESSIONS and the pins of the cache follow the open sessions. -/
def State.noteSessions (s : State) : State :=
  let n := ((List.range 256).filter (fun c => s.flag (Reg.TEN_CTXc_STAT c) 1)).length
  (s.setFld Reg.TEN_SESSIONS 0 9 n).noteKey

/-- A session ends. -/
def State.closeSession (s : State) (c : Nat) : State :=
  if s.flag (Reg.TEN_CTXc_STAT c) 1 then
    let s1 := (s.setFlag (Reg.TEN_CTXc_STAT c) 1 false).setNum (Reg.TEN_CTXc_SESS_LEFT c) 0
    let s2 := { s1 with ten := { s1.ten with sessionEnd := tdel s1.ten.sessionEnd c } }
    (s2.noteSessions).raiseIrq Blk.TEN 4
  else s

/-- CHAL takes a new random value (R554). -/
def State.newChal (s : State) (c : Nat) : State :=
  (s.setNum64 (Reg.TEN_CTXc_CHAL_LO c) (Config.freeDword s.free).toNat).nextFree

/-! ### Tenant keys (R547, R549, R558) -/

/-- TENANT_IMPORT: a first key under slot 4, or a rotation under the present key, which gives way to the seals that begin in
its cycle, increments KEY_GEN, replaces the cache's keys at once and ends the context's session (R547, R549, R554, R558). -/
def execTenantImport (tag : Nat) (blob : List Byte) (s : State) : Host.Outcome State Fault Refusal := s.powered fun s =>
  match s.activeOp tag Blk.KEY 5 with
  | none => s
  | some x =>
    let c := paramField x.param 0 1
    let mode := paramField x.param 1 1
    if x.ctx ≠ 0 ∧ x.ctx ≠ c then (s.decideOp tag St.FAIL_DENIED 0)
    else if c = 0 ∨ 1 < mode then (s.decideOp tag St.FAIL_INVALID 0)
    else if s.lcState ≠ 1 ∧ s.lcState ≠ 2 then (s.decideOp tag St.FAIL_DENIED 0)
    else if (mode = 0 ∧ (s.blob c).isSome) ∨ (mode = 1 ∧ (s.blob c).isNone) then
      (s.decideOp tag St.FAIL_CONFLICT 0)
    else if blob.length < 40 then s
    else
      let key := match s.blob c with
        | some b => Config.kwUnwrap b.key (blob.take 40)
        | none => s.unwrapSlot 4 (blob.take 40)
      match key with
      | none => (s.authFail.decideOp tag St.FAIL_INVALID 0)
      | some k =>
        let b : KeyBlob := match s.blob c with
          | some o => ⟨k, (o.gen + 1) % 2 ^ 16, o.reserve⟩
          | none => ⟨k, 0, 0⟩
        s.yieldingIf (mode = 1) Rank.CLAIMED (.tenantImport tag blob) fun s =>
        let s1 := ((s.setBlob c (some b)).closeSession c).raiseIrq Blk.KEY 3
        (s1.writeBlob tag c (BitVec.ofNat 32 b.gen))

/-- TENANT_DESTROY: the key, its cache entry and its session go; it completes once blob c is deleted (R549, R558). -/
def execTenantDestroy (tag : Nat) (s : State) : Host.Outcome State Fault Refusal := s.powered fun s =>
  match s.activeOp tag Blk.KEY 6 with
  | none => s
  | some x =>
    let c := paramField x.param 0 1
    if (s.blob c).isNone then (s.decideOp tag St.FAIL_INVALID 0)
    else
      let s1 := (s.setBlob c none).closeSession c
      let s2 := { s1 with key := { s1.key with cache := s1.key.cache.filter (· != c)
                                               missing := s1.key.missing.filter (· != c) } }
      ((s2.noteKey.raiseIrq Blk.KEY 3).writeBlob tag c 0)

/-! ### Seals (R549, R555 to R557) -/

/-- A point record as 16 bytes (R10). -/
def pointBytes (p : Point) : List Byte :=
  leBytes 8 p.value.toNat ++ leBytes 1 p.quality ++ leBytes 1 p.type ++ leBytes 2 p.ctx ++ leBytes 4 p.stamp.toNat

/-- Seal the points of a SEAL_READ and write the envelope to the host; a seal that cannot run yet waits (R555, R559). -/
def State.sealPoints (s : State) (t : Nat) (l : List Nat) : State :=
  let x := s.slot t
  let c := paramField x.param 0 1
  let began := match s.ten.sealTags.find? (fun e => e.1 == t) with
    | some e => e.2.2
    | none => s.blob c
  match s.trySeal c 1 ((l.map (fun i => pointBytes (s.pointFor Blk.HIF i))).flatten) began with
  | (some b, s1) =>
    let s2 := { s1 with ten := { s1.ten with sealTags := s1.ten.sealTags.filter (fun e => e.1 != t) } }
    (s2.emit (.dma (paramField x.param 16 8) b)).decideOp t St.OK (BitVec.ofNat 32 b.length)
  | (none, s1) =>
    if s1.ten.sealTags.any (fun e => e.1 == t) then s1
    else { s1 with ten := { s1.ten with sealTags := s1.ten.sealTags ++ [(t, l, began)] } }

/-- Serve everything that waits for a seal: SEAL_READs still ACTIVE, then the hold ring. -/
def State.serveSeals (s : State) : State :=
  let live := s.ten.sealTags.filter (fun e => (s.activeOp e.1 Blk.TEN 3).isSome)
  let s1 := { s with ten := { s.ten with sealTags := live } }
  (live.foldl (fun a e => a.sealPoints e.1 e.2.1) s1).serveRing

/-- KEY_CACHE_LOAD: a missed context's blob is read and unwrapped and its keys derived; its waiting seals go on
(R549). -/
def execKeyCacheLoad (ctx : Nat) (s : State) : Host.Outcome State Fault Refusal :=
    s.powered fun s => s.duty 1 (.keyCacheLoad ctx) fun s =>
  if !s.key.missing.contains ctx then s
  else
    let s1 := { s with key := { s.key with missing := s.key.missing.filter (· != ctx) } }
    if (s.blob ctx).isNone then s1
    else match s1.loadCache ctx with
      | some s2 => s2.noteKey.serveSeals
      | none => s

/-- SEAL_RESERVE_DURABLE: the raised reservation R + 65,536 is durable and the waiting seal proceeds; a write that
failed is made again (R557). -/
def execSealReserveDurable (ctx : Nat) (s : State) : Host.Outcome State Fault Refusal := s.powered fun s =>
  match s.stoEnded (.reserve ctx) with
  | none => s
  | some st =>
    let s1 := s.stoTake (.reserve ctx)
    let s2 := { s1 with ten := { s1.ten with raising := s1.ten.raising.filter (· != ctx) } }
    match s2.blob ctx with
    | none => s2
    | some b =>
      if st ≠ St.OK then (s2.raiseReserve ctx)
      else
        let r := s2.reserveOf ctx + 65536
        let s3 := { s2 with key := { s2.key with blobs := tput s2.key.blobs ctx { b with reserve := r }
                                                 storedBlobs := tput s2.key.storedBlobs ctx { b with reserve := r } } }
        ((s3.setFlag (Reg.TEN_CTXc_STAT ctx) 2 false).serveSeals)

/-- SEAL_READ (R551, R556, R559). A context without points to seal under, the landlord's, is denied. -/
def execSealRead (tag : Nat) (indices : List Nat) (s : State) : Host.Outcome State Fault Refusal := s.powered fun s =>
  match s.activeOp tag Blk.TEN 3 with
  | none => s
  | some x =>
    let c := paramField x.param 0 1
    let n := paramField x.param 2 2
    let l := indices.take n
    if s.mode = Mode.MINIMAL ∨ c = 0 ∨ (x.ctx ≠ 0 ∧ x.ctx ≠ c) then (s.decideOp tag St.FAIL_DENIED 0)
    else if n = 0 ∨ 64 < n then (s.decideOp tag St.FAIL_INVALID 0)
    else if l.length < n then s
    else if l.any (fun i => (s.point i).ctx != c) then ((s.countDenied x.ctx).decideOp tag St.FAIL_DENIED 0)
    else (s.sealPoints tag l)

/-- SESSION_MAX: 0 reads as 3,600 (R564). -/
def State.sessionMax (s : State) (c : Nat) : Nat :=
  let m := s.fld (Reg.TEN_CTXc_CFG c) 16 16
  if m = 0 then 3600 else m

/-- The tag SESSION_OPEN must carry: GMAC under AK_c with IV CHAL ‖ 0 and AAD UID ‖ c ‖ CHAL ‖ D (R541, R554). -/
def State.sessionTag (s : State) (b : KeyBlob) (c d : Nat) : BitVec 128 :=
  let chal := beBytes 8 (s.num64 (Reg.TEN_CTXc_CHAL_LO c))
  Config.gmac (authKey b.key c) (BitVec.ofNat 96 (leNat (chal ++ beBytes 4 0))) (uidBytes ++ beBytes 2 c ++ chal ++ beBytes 2 d)

/-- SESSION_OPEN (R554, R559). The session key comes through the cache (R549). -/
def execSessionOpen (tag : Nat) (s : State) : Host.Outcome State Fault Refusal := s.powered fun s =>
  match s.activeOp tag Blk.TEN 1 with
  | none => s
  | some x =>
    let c := paramField x.param 0 1
    let d := paramField x.param 2 2
    if s.mode = Mode.MINIMAL then (s.decideOp tag St.FAIL_DENIED 0)
    else match s.blob c with
      | none => ((s.newChal c).authFail.decideOp tag St.FAIL_DENIED 0)
      | some b =>
        if !s.key.cache.contains c then (s.missCache c)
        else if s.sessionTag b c d ≠ BitVec.ofNat 128 (paramField x.param 16 16) then
          ((s.newChal c).authFail.decideOp tag St.FAIL_DENIED 0)
        else if s.sessionMax c < d then ((s.newChal c).decideOp tag St.FAIL_DENIED 0)
        else
          let s1 := ((s.newChal c).touchCache c).setFlag (Reg.TEN_CTXc_STAT c) 1 true
          let s2 := { s1 with ten := { s1.ten with
              sessionEnd := tput s1.ten.sessionEnd c (s1.clk + d * 800000000) } }
          let s3 := (s2.setNum (Reg.TEN_CTXc_SESS_LEFT c) d).noteSessions
          ((s3.raiseIrq Blk.TEN 3).decideOp tag St.OK (BitVec.ofNat 32 d))

/-- SESSION_CLOSE (R559). -/
def execSessionClose (tag : Nat) (s : State) : Host.Outcome State Fault Refusal := s.powered fun s =>
  match s.activeOp tag Blk.TEN 2 with
  | none => s
  | some x =>
    let c := paramField x.param 0 1
    if s.mode = Mode.MINIMAL then (s.decideOp tag St.FAIL_DENIED 0)
    else if s.flag (Reg.TEN_CTXc_STAT c) 1 then ((s.closeSession c).decideOp tag St.OK 0)
    else (s.decideOp tag St.FAIL_INVALID 0)

/-- SESSION_EXPIRE: D seconds have passed (R554). -/
def execSessionExpire (ctx : Nat) (s : State) : Host.Outcome State Fault Refusal := s.powered fun s =>
  match tfind? s.ten.sessionEnd ctx with
  | some e => if e ≤ s.clk then (s.closeSession ctx) else s
  | none => s

/-- RATE_REFILL: the tokens due by now return to the bucket, up to BURST (R553). -/
def execRateRefill (ctx : Nat) (s : State) : Host.Outcome State Fault Refusal := s.powered fun s => s.refill ctx

/-! ### Point operations (R559, R617) -/

/-- POINT_READ: the 16-byte record under the tenant checks. -/
def execPointRead (tag : Nat) (s : State) : Host.Outcome State Fault Refusal := s.powered fun s =>
  match s.activeOp tag Blk.TEN 4 with
  | none => s
  | some x =>
    let i := paramField x.param 0 2
    if !s.hostMayRead x.ctx i then ((s.countDenied x.ctx).decideOp tag St.FAIL_DENIED 0)
    else ((s.emit (.dma (paramField x.param 8 8) (pointBytes (s.pointFor Blk.HIF i)))).decideOp tag St.OK 0)

/-- POINT_WRITE: the host writes a point whose producer it is (R11, R551, R616, R617). -/
def execPointWrite (tag : Nat) (s : State) : Host.Outcome State Fault Refusal := s.powered fun s =>
  match s.activeOp tag Blk.TEN 5 with
  | none => s
  | some x =>
    let i := paramField x.param 0 2
    if !s.configured i then (s.decideOp tag St.FAIL_INVALID 0)
    else if (s.point i).producer ≠ .host then (s.decideOp tag St.FAIL_DENIED 0)
    else if !s.hostMayWrite x.ctx i then ((s.countDenied x.ctx).decideOp tag St.FAIL_DENIED 0)
    else
      let s1 := s.writePointBy Blk.HIF i (BitVec.ofNat 64 (paramField x.param 8 8)) Q.GOOD none none true x.ctx
      (s1.decideOp tag St.OK s1.chain32)

/-- POINT_FORCE: the point holds the value with quality FORCED; a later force replaces it (R11, R617). -/
def execPointForce (tag : Nat) (s : State) : Host.Outcome State Fault Refusal := s.powered fun s =>
  match s.activeOp tag Blk.TEN 6 with
  | none => s
  | some x =>
    let i := paramField x.param 0 2
    let p := s.point i
    if x.ctx ≠ 0 then (s.decideOp tag St.FAIL_DENIED 0)
    else if !s.configured i then (s.decideOp tag St.FAIL_INVALID 0)
    else
      let v := normValue p.type (BitVec.ofNat 64 (paramField x.param 8 8))
      let s1 := (s.notePoint Blk.HIF i v Q.FORCED).setPoint i
        { p with value := v, quality := Q.FORCED, stamp := s.chain32, forced := true }
      let s2 := if s1.lcpPoint i then s1.noteChange Blk.HIF i v none none true x.ctx else s1
      (s2.decideOp tag St.OK s2.chain32)

/-- POINT_RELEASE: the force ends; the value stays with quality STALE, and a producer's write of the same SYS cycle takes
effect behind it (R11, R12, R617). -/
def execPointRelease (tag : Nat) (s : State) : Host.Outcome State Fault Refusal := s.powered fun s =>
  match s.activeOp tag Blk.TEN 7 with
  | none => s
  | some x =>
    let i := paramField x.param 0 2
    let p := s.point i
    if x.ctx ≠ 0 then (s.decideOp tag St.FAIL_DENIED 0)
    else if !p.forced then (s.decideOp tag St.FAIL_INVALID 0)
    else
      let s1 := s.setPoint i { p with quality := Q.STALE, stamp := s.chain32, forced := false }
      let s2 := match s.pointNote i with
        | some n => if Blk.HIF < n.origin then s1.storeOne n.origin i n.value n.quality else s1
        | none => s1
      (s2.decideOp tag St.OK s.chain32)

end Sys2Proof.Machine
end

