-- ==== Sys2Proof/Machine/KeyLc.lean ====
section
/-! DEFINITION. LC_ADVANCE: the token, the pending record and the transition (R543, R544). -/

namespace Sys2Proof.Machine

/-- The transitions of R543: the slots whose token each takes, none where it is not allowed. -/
def lcSlots (cur dst : Nat) : List Nat :=
  match cur, dst with
  | 0, 1 => [3]
  | 1, 2 => [5]
  | 2, 3 => [5]
  | 3, 1 => [3]
  | c, 4 => if c < 4 then [3, 5] else []
  | _, _ => []

/-- The P-256 public key of slot 3, or of slot 5 when one is installed (R538). -/
def State.pubKey (s : State) (slot : Nat) : Option (BitVec 512) :=
  if slot = 3 then some Config.vendorPub
  else if s.flag (Reg.KEY_SLOTs_ATTR slot) 0 then tfind? s.key.record.secrets slot else none

/-- Whether a signature over a digest verifies with one of the slots. -/
def State.signedBy (s : State) (slots : List Nat) (digest : BitVec 256) (sig : BitVec 512) : Bool :=
  slots.any fun n => match s.pubKey n with
    | some k => Config.ecdsaVerify k digest sig
    | none => false

/-- What a token signs: SHA-256(UID ‖ from ‖ to ‖ KEY_LC_NONCE) (R541, R543). -/
def State.tokenDigest (s : State) (dst : Nat) : BitVec 256 :=
  Config.sha256 (uidBytes ++ beBytes 1 s.lcState ++ beBytes 1 dst ++ beBytes 4 (s.num Reg.KEY_LC_NONCE))

/-- KEY_LC_NONCE takes a new random value (R543). -/
def State.newNonce (s : State) : State := (s.setReg Reg.KEY_LC_NONCE (Config.freeWord s.free)).nextFree

/-- What a transition carries across: the storage data key with the slots marked CARRY, and the tenant blobs to DEPLOYED;
nothing on the others (R543). -/
def State.carried (s : State) (dst : Nat) : Option (KeyRec × Tbl KeyBlob) :=
  let r := s.key.record
  let keep := fun (n : Nat) => bitOf (tget (fun _ => 0#32) r.attrs n).toNat 3
  let r1 : KeyRec := { r with attrs := r.attrs.filter (fun e => keep e.1), gens := r.gens.filter (fun e => keep e.1)
                              secrets := r.secrets.filter (fun e => keep e.1), floors := [] }
  match s.lcState, dst with
  | 0, 1 => some (r1, [])
  | 1, 2 => some (r1, s.key.blobs)
  | _, _ => none

/-- Steps 2 and 3 of R544: the pending record is durable and the next OTP row is blown; SCRAPPED blows the helper data
(R543). -/
def State.blowRow (s : State) (dst : Nat) : State :=
  { s with key := { s.key with pendingRecord := some (dst, s.carried dst), otpState := dst, otpLeft := s.key.otpLeft - 1
                               otpEpoch := s.key.otpEpoch + 1, pufDead := s.key.pufDead || dst == 4 } }

/-- LC_ADVANCE: a good token blows the next row and the module restarts, so that the operation is reported at the next start;
any other completes FAIL_DENIED (R543, R544, R558). The operation stays ACTIVE for R83. -/
def execLcAdvance (tag : Nat) (token : BitVec 512) (s : State) : Host.Outcome State Fault Refusal := s.blowing fun s =>
  match s.activeOp tag Blk.KEY 3 with
  | none => s
  | some x =>
    let dst := paramField x.param 0 1
    let slots := lcSlots s.lcState dst
    if slots = [] ∨ (s.key.otpLeft = 0 ∧ dst ≠ 4) then (s.newNonce.decideOp tag St.FAIL_DENIED 0)
    else if s.signedBy slots (s.tokenDigest dst) token then ((s.newNonce.blowRow dst).endLife 7)
    else (s.authFail.newNonce.decideOp tag St.FAIL_DENIED 0)

end Sys2Proof.Machine
end

