-- ==== Sys2Proof/Machine/KeyStart.lean ====
section
/-! DEFINITION. What KEY does at a start and after its soft reset: the derived slots and the load of blob 0 and the tenant
blobs (R536 to R538, R548, R560). -/

namespace Sys2Proof.Machine

/-- Show a slot: attributes, generation and check value (R561, R562). -/
def State.showSlot (s : State) (n attr gen kcv : Nat) : State :=
  ((s.setNum (Reg.KEY_SLOTs_ATTR n) attr).setNum (Reg.KEY_SLOTs_GEN n) gen).setNum (Reg.KEY_SLOTs_KCV n) kcv

/-- Slots 0 to 3: DEVICE signs, STORE_KEK and BLOB_KEK wrap, VENDOR_PUB verifies (R537, R538). Without a root the derived
ones hold no key. -/
def State.deriveSlots (s : State) (ok : Bool) : State :=
  let kcv := fun n => keyCheck false ((derivedKey s.key.otpEpoch n).setWidth 512)
  let s0 := (s.setFlag Reg.KEY_LC 24 ok).showSlot 3 0x105 0 (keyCheck true Config.vendorPub)
  if !ok then ((s0.showSlot 0 0 0 0).showSlot 1 0 0 0).showSlot 2 0 0 0
  else ((s0.showSlot 0 0x83 0 (keyCheck true (Config.devPub (derivedKey s.key.otpEpoch 0)))).showSlot 1 0x41 0 (kcv 1)).showSlot
    2 0x41 0 (kcv 2)

/-- Whether storage returns an object. -/
def State.objReads (s : State) (id : Nat) : Bool :=
  match s.stoObj id with
  | some o => !o.damaged
  | none => false

/-- An empty record. -/
def KeyRec.empty (storeKey : BitVec 256) : KeyRec := ⟨[], [], [], storeKey, []⟩

/-- Slots 4 to 15 as the record in force has them. -/
def State.showSlots (s : State) : State :=
  (List.range 12).foldl (fun a k =>
    let n := k + 4
    let r := a.key.record
    let attr := (tget (fun _ => 0#32) r.attrs n).toNat
    let kcv := match tfind? r.secrets n with
      | some x => keyCheck (bitsOf attr 1 2 == 2) x
      | none => 0
    a.showSlot n attr (tget (fun _ => 0) r.gens n) kcv) s

/-- KEY loads blob 0 and learns which contexts have a key; without a root nothing can be unwrapped (R536, R548). -/
def State.loadRecord (s : State) : State :=
  let root := s.flag Reg.KEY_LC 24
  let ok := root && s.objReads (keyObj 0)
  let r := if ok then s.key.storedRecord else KeyRec.empty s.key.storedRecord.storeKey
  let bl := if root then s.key.storedBlobs.filter (fun e => s.objReads (keyObj e.1)) else []
  let s1 := { s with key := { s.key with record := r, cache := [], missing := [], writes := [], blobWrites := [] } }
  let s2 := s1.forN 255 fun a k => a.setBlob (k + 1) (tfind? bl (k + 1))
  (s2.setFlag Reg.KEY_BLOB_STAT 16 ok).showSlots

/-- Every counter resumes at its stored reservation (R557). -/
def State.resumeNonces (s : State) : State :=
  let t := s.key.storedBlobs.foldl (fun (t : Tbl Nat) (e : Nat × KeyBlob) => tset (fun _ => 0) t e.1 e.2.reserve) []
  { s with ten := { s.ten with nonce := t } }

/-- Every context shows a new challenge (R554). -/
def State.newChals (s : State) : State := s.forN 255 fun a k => a.newChal (k + 1)

end Sys2Proof.Machine
end

