-- ==== Sys2Proof/Machine/Pse.lean ====
section
/-! DEFINITION. The commands of PSE: detection to power-up, cuts, the bulk supply, the dies, measurement and the
PORT_ operations (chapter 05). -/

namespace Sys2Proof.Machine

/-! ### Detection to power-up (R135 to R141) -/

/-- Whether a port may run a detection now: PSE enabled and linked, EN set, in DETECT, no off time running, no cut
condition in force (R135, R148, R150, R163). -/
def State.mayDetect (s : State) (p : Nat) : Bool :=
  s.en Blk.PSE && s.linked p && s.portEn p && s.portSt p == PortSt.DETECT && (s.portX p).cycleEnd.isNone && !s.portBarred p

/-- The die starts a detection, the next one no sooner than 1,000 ms later (R135). -/
def State.startDetect (s : State) (p : Nat) : State :=
  (s.setPortX p { s.portX p with detDue := s.clk + 1000 * msClk }).emit (.dieCmd p 2 0)

/-- PORT_DETECT (R135). -/
def execPortDetect (port : Nat) (s : State) : Host.Outcome State Fault Refusal := s.powered fun s =>
  if s.mayDetect port ∧ (s.portX port).detDue ≤ s.clk then s.startDetect port else s

/-- DETECTION_DONE (R135, R139, R163): DET shows the result; only VALID leads to classification. A new SHORT or
BACKFEED sets WIRING. A repeated detection that is not VALID releases the grant. -/
def execDetectionDone (port result : Nat) (s : State) : Host.Outcome State Fault Refusal := s.powered fun s =>
  if !s.mayDetect port then s
  else
    let old := s.fld (Reg.PSE_PnSTAT port) 16 4
    let s1 := s.setFld (Reg.PSE_PnSTAT port) 16 4 result
    let s2 := if (result = 5 ∨ result = 7) ∧ old ≠ result then s1.raiseIrq Blk.PSE 8 else s1
    let s3 := s2.setPortX port { s2.portX port with detClk := s.clk }
    if result = 1 then (s3.setPortSt port PortSt.CLASSIFY)
    else
      let s4 := s3.unclass port
      if (s4.portX port).keepGrant then s4.releaseGrant port else s4

/-- The class allocated for a PD's signature class (R136): at most MAX_CLASS; a port with FOURPAIR = 0 treats classes 5
to 8 as class 4. -/
def State.allocClass (s : State) (p cls : Nat) : Nat :=
  let c := if s.flag (Reg.PSE_PnCFG p) 1 ∨ cls < 5 then cls else 4
  Nat.min c (s.maxClass p)

/-- The pairsets a class powers (R136): two from class 5, and for class 4 with a single-signature Type 3 PD on a
FOURPAIR port. -/
def State.pairsFor (s : State) (p cls : Nat) (type3 : Bool) : Nat :=
  if 5 ≤ cls ∨ (cls = 4 ∧ type3 ∧ s.flag (Reg.PSE_PnCFG p) 1) then 3 else 1

/-- Class events issued for a class (R136). -/
def classEvents (c : Nat) : Nat := [1, 1, 1, 1, 3, 4, 4, 5, 5].getD c 1

/-- The class events of a pairset, as many as its PD's class needs and MAX_CLASS allows (R136). -/
def State.issueEvents (s : State) (p pairset cls : Nat) : State := s.emit (.dieCmd p (2 + pairset) (classEvents cls))

/-- Whether what the class events found stands in the table of R136: classes 0 to 8, for the pairsets of a dual-signature PD 1
to 5. -/
def classesFit (isDual : Bool) (a b : Nat) : Bool :=
  if isDual then decide (1 ≤ a) && decide (a ≤ 5) && decide (1 ≤ b) && decide (b ≤ 5) else decide (a ≤ 8)

/-- CLASSIFY_DONE (R136, R137, R139, R163): the connection check gives DUAL; class, AUTOCLASS and Pclass stand, an old autoclass
figure does not; the port asks ARB, or takes up its kept grant when a repeated classification found the same figures. `valid`:
a valid class signature was found. -/
def execClassifyDone (port : Nat) (valid dual : Bool) (clsA clsB : Nat) (type3 autoclass : Bool) (s : State) :
    Host.Outcome State Fault Refusal := s.powered fun s =>
  let isDual := dual && s.flag (Reg.PSE_PnCFG port) 1
  if s.portSt port ≠ PortSt.CLASSIFY then s
  else if !valid ∨ !classesFit isDual clsA clsB then
    let s1 := ((s.unclass port).setFlag (Reg.PSE_PnSTAT port) 10 isDual).setPortSt port PortSt.DETECT
    (if (s1.portX port).keepGrant then s1.releaseGrant port else s1)
  else
    let a := s.allocClass port clsA
    let b := if isDual then s.allocClass port clsB else 15
    let alloc := if isDual then pclass a + pclass b else pclass a
    let same := (s.portX port).keepGrant && a == s.portClass port && b == s.fld (Reg.PSE_PnSTAT port) 20 4
      && isDual == s.flag (Reg.PSE_PnSTAT port) 10
    let s0 := if isDual then (s.issueEvents port 1 a).issueEvents port 2 b else s.issueEvents port 1 a
    let s1 := ((s0.setFld (Reg.PSE_PnSTAT port) 4 4 a).setFlag (Reg.PSE_PnSTAT port) 10 isDual).setNum (Reg.PSE_PnPAUTO port) 0
    let s2 := ((s1.setFlag (Reg.PSE_PnSTAT port) 11 autoclass).setFld (Reg.PSE_PnSTAT port) 20 4 b).setNum
      (Reg.PSE_PnALLOC port) alloc
    let s3 := s2.setPortX port { s2.portX port with pairsWant := if isDual then 3 else s.pairsFor port a type3 }
    if same then
      (s3.setPortX port { s3.portX port with keepGrant := false }).enterStagger port
    else (s3.askArb port)

/-- The port whose turn it is among candidates: the highest ARB priority, then the lowest port (R138). -/
def State.firstPort (s : State) (ports : List Nat) : Option Nat :=
  ports.foldl (fun m p => match m with
    | none => some p
    | some q => if s.portPrio q < s.portPrio p then some p else some q) none

/-- Admit up to `n` ports in turn; one sent back to detection takes no start (R138, R139). -/
def State.startPorts (s : State) (n fuel : Nat) : State :=
  match fuel, n with
  | 0, _ => s
  | _, 0 => s
  | f + 1, k + 1 =>
    match s.firstPort ((List.range 48).filter (fun p => s.portSt p == PortSt.STAGGER && !s.portBarred p)) with
    | none => s
    | some p => if s.slotStale p then (s.takeSlot p).startPorts (k + 1) f else (s.takeSlot p).startPorts k f

/-- Whether power-ups are held: by VPSE, or PSE is not enabled (R148, R153). -/
def State.startsHeld (s : State) : Bool := s.pse.hold || s.pse.vpseCut || !s.en Blk.PSE

/-- PSE_STAGGER.STARTS, 0 read as 1 and 9 to 15 as 8 (R164). -/
def State.startsPerSlot (s : State) : Nat := Nat.min 8 (Nat.max 1 (s.fld Reg.PSE_STAGGER 0 4))

/-- A start slot falls now (R7, R138): once per passage of the chainage angles 0 and 32,768, or every 10 ms of SYS time while
the counter stands in RESET. -/
def State.slotFalls (s : State) : Option State :=
  if s.latSt ≠ LatSt.RESET then s.zxPass 25 0 true
  else
    let due := match s.pse.slotClk with
      | none => true
      | some c => decide (10 * msClk ≤ s.clk - c)
    if due then some { s with pse := { s.pse with slotClk := some s.clk } } else none

/-- STAGGER_SLOT (R138, R139): a slot admits up to STARTS ports; with OFF = 1 every granted port starts, slot or not. -/
def execStaggerSlot (s : State) : Host.Outcome State Fault Refusal := s.powered fun s =>
  if s.startsHeld then s
  else if s.flag Reg.PSE_STAGGER 8 then s.startPorts 48 48
  else match s.slotFalls with
    | none => s
    | some s1 => s1.startPorts s1.startsPerSlot 48

/-- INRUSH_END, 60 ms after the gates went on (R140): settled, or cut with INRUSH_FAIL, which gives way to the causes before
it in R147. -/
def execInrushEnd (port : Nat) (settled : Bool) (s : State) : Host.Outcome State Fault Refusal := s.powered fun s =>
  if s.portSt port ≠ PortSt.INRUSH ∨ s.clk < (s.portX port).since + 60 * msClk then s
  else if settled then (s.enterPowered port)
  else s.yielding (Rank.CUT 4) (.inrushEnd port) fun s => s.cutPort port Off.INRUSH_FAIL PortSt.DETECT

/-- AUTOCLASS_MEASURE, 1.6 s after the port entered POWERED (R141): the highest 1 ms power of the window plus 1,750 mW. -/
def execAutoclassMeasure (port peak : Nat) (s : State) : Host.Outcome State Fault Refusal := s.powered fun s =>
  if s.portSt port = PortSt.POWERED ∧ s.flag (Reg.PSE_PnCFG port) 3 ∧ s.flag (Reg.PSE_PnSTAT port) 11
      ∧ !(s.portX port).autoDone ∧ (s.portX port).since + 1600 * msClk ≤ s.clk then
    ((s.setPortX port { s.portX port with autoDone := true }).setNum (Reg.PSE_PnPAUTO port) (peak + 1750))
  else s

/-! ### Cuts (R140, R143 to R147)

Each gives way to what coincides with it, in the order of R147. -/

/-- FAST_CUT: a pairset above 2 × ILIM (R143), in inrush above 0.90 A (R140). -/
def execFastCut (port pairset : Nat) (s : State) : Host.Outcome State Fault Refusal := s.always fun s =>
  s.yielding (Rank.CUT 1) (.fastCut port pairset) fun s => s.dieCut port pairset Off.FAST_CUT

/-- The current of a pairset in the sample of the present SYS cycle (R147). -/
def State.sampleNow (s : State) (p pairset : Nat) : Option Nat :=
  match (s.portX p).sample with
  | some (c, m) => if c = s.clk then some (if pairset % 3 = 2 then m.ib else m.ia) else none
  | none => none

/-- A cut at the expiry of a time, not during inrush (R140): a sample of the same SYS cycle that ends its condition wins
(R147). -/
def State.timedCut (s : State) (p pairset reason : Nat) (ends : Nat → Bool) : State :=
  if s.portSt p = PortSt.INRUSH ∧ s.linked p then s
  else match s.sampleNow p pairset with
    | some i => if ends i then s else s.dieCut p pairset reason
    | none => s.dieCut p pairset reason

/-- ILIM and ICUT of a pairset at the die. -/
def State.limitsOf (s : State) (p pairset : Nat) : Nat × Nat :=
  let d := s.diePort p
  if d.dual ∧ pairset % 3 = 2 then (d.ilimB, d.icutB) else (d.ilim, d.icut)

/-- OVERLOAD_CUT: above ICUT for tOVLD (R143); ICUT stands from POWERED on. -/
def execOverloadCut (port pairset : Nat) (s : State) : Host.Outcome State Fault Refusal := s.always fun s =>
  s.yielding (Rank.CUT 3) (.overloadCut port pairset) fun s =>
    s.timedCut port pairset Off.OVERLOAD fun i => decide (i ≤ (s.limitsOf port pairset).2)

/-- LIMIT_CUT: at ILIM for tLIM (R143). -/
def execLimitCut (port pairset : Nat) (s : State) : Host.Outcome State Fault Refusal := s.always fun s =>
  s.yielding (Rank.CUT 2) (.limitCut port pairset) fun s =>
    s.timedCut port pairset Off.LIMIT fun i => decide (i < (s.limitsOf port pairset).1)

/-- MPS_LOSS: MPS absent for tMPDO; 7 mA carry it (R143, R144). -/
def execMpsLoss (port pairset : Nat) (s : State) : Host.Outcome State Fault Refusal := s.always fun s =>
  s.yielding (Rank.CUT 8) (.mpsLoss port pairset) fun s =>
    s.timedCut port pairset Off.MPS_LOSS fun i => decide (7 ≤ i)

/-- Whether the latest cuts of a port lock it (R145): COUNT cuts within WINDOW seconds; COUNT = 0 disables. -/
def State.locks (s : State) (p : Nat) : Bool :=
  let n := s.fld Reg.PSE_FAULT_LOCK_CFG 0 8
  let w := s.fld Reg.PSE_FAULT_LOCK_CFG 8 8 * 1000 * msClk
  match (s.portX p).cuts with
  | [] => false
  | c :: _ => n != 0 && decide (n ≤ ((s.portX p).cuts.filter (fun k => decide (c - k ≤ w))).length)

/-- ERR_DELAY_END, after 1.0 s (R163): DETECT, or FAULT_LOCK under R145; not while a VPSE or temperature condition stands. -/
def execErrDelayEnd (port : Nat) (s : State) : Host.Outcome State Fault Refusal := s.powered fun s =>
  if s.portSt port ≠ PortSt.ERR_DELAY ∨ s.portBarred port ∨ s.clk < (s.portX port).since + 1000 * msClk then s
  else if s.locks port then ((s.setPortSt port PortSt.FAULT_LOCK).raiseIrq Blk.PSE 4)
  else (s.setPortSt port PortSt.DETECT)

/-! ### The bulk supply (R148, R149) -/

/-- Show VPSE and one condition bit of PSE_GSTAT; each change sets the VPSE interrupt bit (R148). -/
def State.vpseShow (s : State) (mv : Nat) (bit : Nat) (on : Bool) : State :=
  let s1 := s.setNum Reg.PSE_VPSE mv
  if s1.flag Reg.PSE_GSTAT bit = on then s1 else (s1.setFlag Reg.PSE_GSTAT bit on).raiseIrq Blk.PSE 5

/-- VPSE_HOLD: below 49.0 V or above 58.0 V for 1 ms holds new power-ups (R148). -/
def execVpseHold (mv : Nat) (s : State) : Host.Outcome State Fault Refusal := s.powered fun s =>
  if 49000 ≤ mv ∧ mv ≤ 58000 then s
  else
    let s1 := { s with pse := { s.pse with hold := true } }
    ((s1.vpseShow mv 1 true).vpseShow mv 0 false)

/-- VPSE_HOLD_END: 10 ms within 51.0 to 57.0 V (R148). -/
def execVpseHoldEnd (mv : Nat) (s : State) : Host.Outcome State Fault Refusal := s.powered fun s =>
  if mv < 51000 ∨ 57000 < mv then s
  else
    let s1 := { s with pse := { s.pse with hold := false } }
    ((s1.vpseShow mv 1 false).vpseShow mv 0 (!s.pse.vpseCut))

/-- Set every die OFF or, on the supply's return, LINKED or HOLD as PSE is enabled (R153). -/
def State.diesOff (s : State) : State := s.forN 6 (fun a d => a.setDieMode d 3)

/-- VPSE_UV_CUT: below 44.0 V for 10 ms every port is cut and the dies are OFF, whether the module is held in reset or not
(R148, R153). -/
def execVpseUvCut (mv : Nat) (s : State) : Host.Outcome State Fault Refusal := s.always fun s =>
  s.yielding (Rank.CUT 6) (.vpseUvCut mv) fun s =>
  if 44000 ≤ mv then s
  else
    let s1 := (s.cutAll Off.VPSE_UV).diesOff
    if s.sup.inReset then s1 else
    let s2 := { s1 with pse := { s1.pse with vpseCut := true } }
    ((s2.vpseShow mv 2 true).vpseShow mv 0 false)

/-- VPSE_OV_CUT: above 60.0 V for 1 ms every port is cut (R148). -/
def execVpseOvCut (mv : Nat) (s : State) : Host.Outcome State Fault Refusal := s.powered fun s =>
  s.yielding (Rank.CUT 7) (.vpseOvCut mv) fun s =>
  if mv ≤ 60000 then s
  else
    let s1 := s.cutAll Off.VPSE_OV
    let s2 := { s1 with pse := { s1.pse with vpseCut := true } }
    ((s2.vpseShow mv 3 true).vpseShow mv 0 false)

/-- VPSE_REV: every gate is held off, whether the module is held in reset or not, and STAT.FAULT is set (R148, R149, R153).
DESIGN CHOICE (log entry 194): PSE_VPSE reads 0 while VPSE is reversed. -/
def execVpseRev (s : State) : Host.Outcome State Fault Refusal := s.always fun s =>
  s.yielding (Rank.CUT 0) .vpseRev fun s =>
  let s1 := (s.cutAll Off.VPSE_REV).diesOff
  if s.sup.inReset then s1 else
  let s2 := { s1 with pse := { s1.pse with vpseCut := true } }
  (((s2.vpseShow 0 4 true).vpseShow 0 0 false).setFlag (Reg.STAT Blk.PSE) 2 true)

/-- VPSE_RESUME: 100 ms within 51.0 to 57.0 V after a cut ends its condition and ports resume detection (R148,
R149). -/
def execVpseResume (mv : Nat) (s : State) : Host.Outcome State Fault Refusal := s.powered fun s =>
  if mv < 51000 ∨ 57000 < mv ∨ !s.pse.vpseCut then s
  else
    let s1 := { s with pse := { s.pse with vpseCut := false, hold := false } }
    let s2 := s1.forN 6 (fun a d => if a.dieMode d = 3 then a.setDieMode d (if a.en Blk.PSE then 0 else 1) else a)
    let s3 := (((s2.vpseShow mv 2 false).vpseShow mv 3 false).vpseShow mv 4 false).vpseShow mv 1 false
    ((s3.vpseShow mv 0 true).setFlag (Reg.STAT Blk.PSE) 2 false)

/-! ### Dies (R150, R153, R154) -/

/-- DIE_TEMP: the report of a die in 0.1 °C sets THERM_WARN above 125 °C, cuts the die's ports above 145 °C, and lets
them resume below 125 °C (R150). -/
def execDieTemp (die : Nat) (temp : Int) (s : State) : Host.Outcome State Fault Refusal := s.always fun s =>
  if 6 ≤ die then s
  else if 1450 < temp ∧ s.together then s.defer (Rank.CUT 5) (.dieTemp die temp)
  else
    let s1 := (s.setFld (Reg.PSE_DIEd_TEMP die) 0 16 (unsigned 16 temp)).setFlag Reg.PSE_DIE_STAT (12 + die) (1250 < temp)
    if 1450 < temp then
      let s2 := (List.range 8).foldl (fun a k => a.dieCut (8 * die + k) 1 Off.DIE_THERMAL) s1
      let s3 := (List.range 8).foldl (fun a k => a.dieCut (8 * die + k) 2 Off.DIE_THERMAL) s2
      ((s3.setFlag Reg.PSE_DIE_STAT (18 + die) true).raiseIrq Blk.PSE 6)
    else if temp < 1250 then (s1.setFlag Reg.PSE_DIE_STAT (18 + die) false)
    else s1

/-- Power of a measurement in mW (R151; rounded down, log entry 34). -/
def PortMeas.mw (m : PortMeas) : Nat := m.v * (m.ia + m.ib) / 1000

/-- One mWh/10 in mW·ms. -/
def energyLsb : Nat := 360000

/-- A port's 1 ms sample: registers, energy and points while the die is linked, the die's own count otherwise, in reset too
(R151, R152, R154). -/
def State.samplePort (s0 : State) (p : Nat) (m : PortMeas) : State :=
  let s := s0.setPortX p { s0.portX p with sample := some (s0.clk, m) }
  if s.linked p then
    let x := s.portX p
    let f := x.eFrac + m.mw
    let s1 := s.setPortX p { x with eFrac := f % energyLsb, eBefore := some (s.clk, s.num64 (Reg.PSE_PnE_LO p)) }
    let s2 := ((s1.setNum (Reg.PSE_PnV p) m.v).setNum (Reg.PSE_PnIA p) m.ia).setNum (Reg.PSE_PnIB p) m.ib
    let s3 := (s2.setNum (Reg.PSE_PnPWR p) m.mw).setNum64 (Reg.PSE_PnE_LO p) (s2.num64 (Reg.PSE_PnE_LO p) + f / energyLsb)
    let s4 := (s3.setNum (Reg.PSE_PnPMAX p) (Nat.max (s3.num (Reg.PSE_PnPMAX p)) m.mw)).setReg (Reg.PSE_PnSTAMP p) s.chain32
    s4.pubPort p
  else
    let d := s.diePort p
    let f := d.frac + m.mw
    let c := d.count + f / energyLsb
    let s1 := s.setDiePort p { d with frac := f % energyLsb, count := Nat.min c 0xFFFFFFFF,
                                      sat := d.sat || decide (0xFFFFFFFF < c) }
    if s.sup.inReset then s1 else s1.pubPort p

/-- PSE_SAMPLE: every 1 ms each port's sample, the sum and VPSE; ICUT follows a change of VPSE by more than 0.5 V
(R142, R151, R152). `ports` lists ports 0 upward. While the module is held in reset the dies count on (R154). -/
def execPseSample (vpse : Nat) (ports : List PortMeas) (s : State) : Host.Outcome State Fault Refusal := s.always fun s =>
  let ms := ports.take 48
  let s1 := ms.zipIdx.foldl (fun a e => a.samplePort e.2 e.1) s
  if s.sup.inReset then s1 else
  let s2 := (s1.setNum Reg.PSE_VPSE vpse).setNum Reg.PSE_TOTAL_PWR
    (ms.zipIdx.foldl (fun n e => if s.linked e.2 then n + e.1.mw else n) 0)
  if 500 < ((vpse : Int) - (s.pse.limV : Int)).natAbs then
    let s3 := s2.forN 48 State.setLimits
    { s3 with pse := { s3.pse with limV := vpse } }
  else s2

/-- ADOPTION_RECORD_WRITE (R155). -/
def execAdoptionRecordWrite (port : Nat) (s : State) : Host.Outcome State Fault Refusal := s.powered fun s =>
  if s.pse.recordDue.contains port then (s.writeRecord port) else s

/-- DIE_AUTONOMOUS: without keep-alive a die holds its SUSTAIN ports and cuts the others with NOT_SUSTAINED; its energy
counts start (R153, R154). -/
def execDieAutonomous (die : Nat) (s : State) : Host.Outcome State Fault Refusal := s.always fun s =>
  if 6 ≤ die ∨ 2 ≤ s.dieMode die then s
  else
    let s1 := (List.range 8).foldl (fun a k =>
      let p := 8 * die + k
      let d := a.diePort p
      if d.pairs = 0 then a
      else if d.sustain then a.setDiePort p { d with count := if a.dieMode die = 0 then 0 else d.count }
      else a.setDiePort p { d with pairs := 0, reason := Off.NOT_SUSTAINED }) s
    (s1.setDieMode die 2)

/-! ### Operations (R159 to R161) -/

/-- The slot and port of an ACTIVE PSE operation; a port above 47 is decided FAIL_INVALID. -/
def State.portOp (s : State) (tag opcode : Nat) : Option (Except State (Slot × Nat)) :=
  match s.activeOp tag Blk.PSE opcode with
  | none => none
  | some x =>
    let p := paramField x.param 0 1
    if 47 < p then some (.error (s.decideOp tag St.FAIL_INVALID 0)) else some (.ok (x, p))

/-- An open PORT_OFF or PORT_CYCLE of the port (R160). -/
def State.portBusy (s : State) (p : Nat) : Option Nat := (s.portOps p 2 ++ s.portOps p 3).head?

/-- PORT_ON (R159, R160): EN is set, whatever becomes of the operation. -/
def execPortOn (tag : Nat) (s : State) : Host.Outcome State Fault Refusal := s.powered fun s =>
  match s.portOp tag 1 with
  | none => s
  | some (.error t) => t
  | some (.ok (_, p)) =>
    let s1 := s.enablePort p
    if s.mode = Mode.MINIMAL then (s1.decideOp tag St.FAIL_DENIED (s1.portResult p))
    else match s1.portBusy p with
      | some t => (s1.decideOp tag St.FAIL_CONFLICT (BitVec.ofNat 32 (t * 2 ^ 16)))
      | none =>
        if s1.portSt p = PortSt.FAULT_LOCK then (s1.decideOp tag St.FAIL_DENIED (s1.portResult p))
        else
          if s1.portSt p = PortSt.POWERED then (s1.decideOp tag St.OK (s1.portResult p))
          else if s1.portSt p = PortSt.DENIED then (s1.decideOp tag St.FAIL_BUDGET (s1.portResult p))
          else s1

/-- PORT_OFF: the gate goes off, behind what coincides with it (R147, R161); byte 1 bit 0 also clears EN (R159, R163). -/
def execPortOff (tag : Nat) (s : State) : Host.Outcome State Fault Refusal := s.powered fun s =>
  match s.portOp tag 2 with
  | none => s
  | some (.error t) => t
  | some (.ok (x, p)) =>
    s.yielding (Rank.CUT (if bitOf (paramField x.param 1 1) 0 then 10 else 11)) (.portOff tag) fun s =>
    let s1 := if bitOf (paramField x.param 1 1) 0 then s.disablePort p else s.cutPort p Off.COMMAND PortSt.DETECT
    (s1.decideOp tag St.OK (s1.portResult p))

/-- PORT_CYCLE: the port goes off for the off time and completes when it is POWERED again; an off time outside 1,000 to
60,000 ms completes FAIL_INVALID, 0 means 2,000 (R159). -/
def execPortCycle (tag : Nat) (s : State) : Host.Outcome State Fault Refusal := s.powered fun s =>
  match s.portOp tag 3 with
  | none => s
  | some (.error t) => t
  | some (.ok (x, p)) =>
    let ms := paramField x.param 2 2
    if ms ≠ 0 ∧ (ms < 1000 ∨ 60000 < ms) then (s.decideOp tag St.FAIL_INVALID 0)
    else s.yielding (Rank.CUT 11) (.portCycle tag) fun s =>
      if s.portSt p = PortSt.POWERED then
        let s1 := s.cutPort p Off.COMMAND PortSt.DETECT
        let off := if ms = 0 then 2000 else ms
        (s1.setPortX p { s1.portX p with cycleEnd := some (s.clk + off * msClk) }).passReturn [tag]
      else s

/-- PORT_CYCLE_OFF_END: the off time has passed and detection starts (R163). -/
def execPortCycleOffEnd (port : Nat) (s : State) : Host.Outcome State Fault Refusal := s.powered fun s =>
  match (s.portX port).cycleEnd with
  | some c => if c ≤ s.clk then (s.setPortX port { s.portX port with cycleEnd := none }).startDetect port else s
  | none => s

/-- PORT_CLEAR_LOCK: FAULT_LOCK to DETECT with the fault count cleared (R159, R163). -/
def execPortClearLock (tag : Nat) (s : State) : Host.Outcome State Fault Refusal := s.powered fun s =>
  match s.portOp tag 4 with
  | none => s
  | some (.error t) => t
  | some (.ok (_, p)) =>
    if s.portSt p ≠ PortSt.FAULT_LOCK then (s.decideOp tag St.FAIL_INVALID 0)
    else
      let s2 := (s.clearFaults p).setPortSt p PortSt.DETECT
      (s2.decideOp tag St.OK (s2.portResult p))

/-- A write of PSE_PnCFG: its fields are set, the die is told SUSTAIN, a port without autoclass has no figure of it, and a
change of EN takes effect at once while PSE is enabled (R141, R155, R158, R163, R165). -/
def State.writePortCfg (s : State) (p : Nat) (v : Word) : State :=
  let was := s.portEn p
  let s1 := (s.setNum (Reg.PSE_PnCFG p) (bitsOf v.toNat 0 16)).tellSustain p
  let s2 := (if bitOf v.toNat 3 then s1 else s1.setNum (Reg.PSE_PnPAUTO p) 0).noteRecord p
  let now := bitOf v.toNat 0
  if !s.en Blk.PSE then s2
  else if now ∧ s2.portSt p = PortSt.DISABLED then s2.enablePort p
  else if was ∧ !now then s2.disablePort p
  else s2

/-- DIE_COLD_POWER_UP: a die's own supply comes up while it has no link; none of its ports is powered (R156). -/
def execDieColdPowerUp (die : Nat) (s : State) : Host.Outcome State Fault Refusal := s.always fun s =>
  if die < 6 ∧ s.dieMode die ≠ 0 then
    let s1 := (List.range 8).foldl (fun a k => a.setDiePort (8 * die + k) DiePort.off) s
    ({ s1 with pse := { s1.pse with cold := tset (fun _ => false) s1.pse.cold die true } }.setDieMode die 2)
  else s

end Sys2Proof.Machine
end

