-- ==== Sys2Proof/Machine/Lcp.lean ====
section
/-! DEFINITION. The commands of LCP: forming and sending, binding, the luminaires' frames, timers and operations
(chapter 07). LUMINAIRE_LOSS and SCENE_WRITE stand in Machine/LcpLate.lean. -/

namespace Sys2Proof.Machine

/-- The operations whose commands have all been formed complete (R234). -/
def State.endFormed (s : State) : State :=
  if s.lcp.queue = [] then
    s.lcp.opWait.foldl (fun a w => a.decideOp w.1 St.OK w.2) { s with lcp := { s.lcp with opWait := [] } }
  else s

/-- COMMAND_FORM: LCP takes the changes and forms up to 128 commands; those a reservation covers are granted at once, and
what waited for the timebase may leave (R211, R16, R178, R8). -/
def execCommandForm (s : State) : Host.Outcome State Fault Refusal := s.powered fun s =>
  if !s.en Blk.LCP then s
  else (((((s.takeChanges).formQueued 128).coverNow).flushCmds (fun _ => true)).endFormed).noteLcp

/-! ### Binding (R208 to R210) -/

/-- The probe bits of a port: its enabled entries that are UNBOUND or LOST (R208). -/
def State.probeOf (s : State) (p : Nat) : Nat :=
  (List.range 16).foldl (fun n k =>
    let e := 16 * p + k
    if s.lumEnabled e ∧ (s.lumState e = LumSt.UNBOUND ∨ s.lumState e = LumSt.LOST) then n + 2 ^ k else n) 0

/-- DISCOVER_TICK: every DISCOVER ms a DISCOVER to a POWERED port with entries to bind, by multicast and out of that port
alone (R203, R208). -/
def execDiscoverTick (port : Nat) (s : State) : Host.Outcome State Fault Refusal := s.powered fun s =>
  let early : Bool := match tfind? s.lcp.discClk port with
    | some c => decide (s.clk < c + s.lcpTick 16)
    | none => false
  if 48 ≤ port ∨ early ∨ !s.en Blk.LCP ∨ s.portSt port ≠ PortSt.POWERED ∨ s.probeOf port = 0 then s
  else
    let s1 := { s with lcp := { s.lcp with discClk := tput s.lcp.discClk port s.clk } }
    s1.lcpOut port lcpMulticast (lcpBytes 0x01 0 0 0 0 (beBytes 2 (s.probeOf port)))

/-! ### Received frames (R202, R205) -/

/-- Count a dropped frame (R202, R205). -/
def State.lcpDropFrame (s : State) : State := s.satInc Reg.LCP_RXERR_CNT 0 32 1

/-- The entry a received frame names. -/
def LcpHead.entry (h : LcpHead) : Nat := 16 * h.port + h.sub

/-- Whether a received frame has the form of its opcode: VER 1h, a LEN no shorter than the payload (a longer one's excess is
ignored), from a downlink, with a sub-address (R202, R204, R205). -/
def LcpHead.fits (h : LcpHead) (payload : Nat) : Bool :=
  h.ver == 1 && decide (payload ≤ h.len) && decide (h.port < 48) && decide (h.sub < 16)

/-- Whether a frame comes from the luminaire bound to its entry: from the MAC learned at binding (R202). -/
def State.lcpBound (s : State) (h : LcpHead) : Bool :=
  let st := s.lumState h.entry
  s.lumEnabled h.entry && (s.lum h.entry).mac == h.mac
    && (st == LumSt.BINDING || st == LumSt.ONLINE || st == LumSt.LOST)

/-- The head of an ACCEPT. -/
def LcpAccept.head (r : LcpAccept) (port sub mac : Nat) : LcpHead := ⟨port, mac, r.ver, r.len, r.seq, sub, r.flags, r.session⟩

/-- Whether LCP accepts a frame (R202, R205): an ANNOUNCE from any MAC of the port, ACCEPT and STATUS from the bound luminaire.
The opcodes of the module's own frames are none that it receives (log entry 199). -/
def State.lcpTakes (s : State) (h : LcpHead) (opcode : Nat) : Bool :=
  match opcode with
  | 0x02 => h.fits 24
  | 0x20 => h.fits 4 && s.lcpBound h
  | 0x21 => h.fits 32 && s.lcpBound h
  | _ => false

/-- LCP_FRAME_DROP: an 88B5h frame of an opcode that LCP does not receive is dropped and counted (R202, R205). -/
def execLcpFrameDrop (s : State) : Host.Outcome State Fault Refusal := s.powered fun s =>
  if s.en Blk.LCP then s.lcpDropFrame else s

/-! ### Announcements (R208 to R210) -/

/-- Whether an announcement matches an entry (R209). -/
def State.announceFits (s : State) (e : Nat) (a : LcpAnnounce) : Bool :=
  let want := s.fld (Reg.LCP_LnMODEL e) 16 16
  (want == 0 || want == a.model)
    && (!s.flag (Reg.LCP_LnCFG e) 1 || tget (fun _ => 0#64) s.lcp.uids e == a.uid)

/-- ANNOUNCE: matched to its entry it is answered by ASSIGN; otherwise the entry is MISMATCH (R208, R209). One for an
entry that is not enabled, or in another state, is ignored. -/
def execAnnounce (a : LcpAnnounce) (s : State) : Host.Outcome State Fault Refusal := s.powered fun s =>
  let h := a.head
  let e := h.entry
  let st := s.lumState e
  if !s.en Blk.LCP then s
  else if !s.lcpTakes h 0x02 then s.lcpDropFrame
  else if !s.lumEnabled e ∨ (st ≠ LumSt.UNBOUND ∧ st ≠ LumSt.LOST) then s
  else
    let s1 := (s.setNum64 (Reg.LCP_LnUID_LO e) a.uid.toNat).setFld (Reg.LCP_LnMODEL e) 0 16 a.model
    if s.announceFits e a then
      let s2 := s1.setLum e { s1.lum e with mac := h.mac }
      (s2.assignLum e)
    else if st = LumSt.UNBOUND then ((s1.setLumState e LumSt.MISMATCH).raiseIrq Blk.LCP 3)
    else s1

/-- An entry becomes ONLINE: adopted the first time in a life, resynchronised later when RESYNC_EN is set (R210), in neither
minimal mode nor standby (R232). Its loss timer starts. -/
def State.bindLum (s : State) (e : Nat) : State :=
  let l := s.lum e
  let s1 := ((s.setLum e { l with everOnline := true, adopting := !l.everOnline, statusClk := s.clk }).setLumState e
    LumSt.ONLINE).raiseIrq Blk.LCP 1
  if l.everOnline ∧ s.flag Reg.LCP_CFG 12 ∧ s.mode ≠ Mode.MINIMAL ∧ s.mode ≠ Mode.STANDBY ∧ !s.overridden e then
    let t := Reg.LCP_LnTARGET e
    s1.queueChange ⟨e, .level, s.fld t 0 14, s.fld t 16 15, s.fld (Reg.LCP_LnDEF e) 0 16, s.chain, true, 3, 0, 0, none,
                    false⟩
  else s1

/-- Whether sequence `a` comes later than `b` in serial arithmetic modulo 2^16 (R214). -/
def seqLater (a b : Nat) : Bool := let d := (a + 65536 - b) % 65536; decide (0 < d) && decide (d < 32768)

/-- The earlier LEVELs of an entry that a later one replaces complete SUPERSEDED (R214, R217). -/
def State.supersede (s : State) (e seq : Nat) : State :=
  (s.lcp.cmds.filter (fun c => c.change.entry == e && c.change.kind == LcpKind.level && c.tx != 0 && seqLater seq c.seq)).foldl
    (fun a c => a.endCmd c St.FAIL_CONFLICT 7 0) s

/-- The open, sent command of an entry with a sequence. -/
def State.cmdOfSeq (s : State) (e seq : Nat) : Option LcpCmd :=
  s.lcp.cmds.find? (fun c => c.change.entry == e && c.seq == seq && c.tx != 0)

/-- An ACCEPT of a command (R214, R215, R217): code 00h accepts it, 01h to 04h end it; the spec gives no other. -/
def State.acceptCmd (s : State) (c : LcpCmd) (code : Nat) : State :=
  match code with
  | 0 =>
    let s1 := s.putCmd { c with accepted := true }
    match c.change.kind with
    | .identify => s1.endCmd c St.OK 0 0
    | .level => s1.supersede c.change.entry c.seq
    | .cap => s1
  | 1 => s.endCmd c St.FAIL_INVALID 8 0
  | 2 => s.endCmd c St.FAIL_BUDGET 9 0
  | 3 => s.endCmd c St.FAIL_DENIED 10 0
  | 4 => s.endCmd c St.FAIL_STATION_LOST 0 0
  | _ => s

/-- ACCEPT: it binds an entry, stops a command's retransmission or refuses it; with CODE SESSION an ONLINE entry binds afresh
(R202, R208, R210, R215). -/
def execAccept (port sub mac seq : Nat) (r : LcpAccept) (s : State) : Host.Outcome State Fault Refusal := s.powered fun s =>
  let h := r.head port sub mac
  let code := r.code
  let e := h.entry
  if !s.en Blk.LCP then s
  else if !s.lcpTakes h 0x20 then s.lcpDropFrame
  else
    let s1 := if code = 0 then s else s.setFld (Reg.LCP_LnSTATE e) 8 4 code
    if s.lumState e = LumSt.BINDING then
      (if code = 0 ∧ seq = (s.lum e).assignSeq then s1.bindLum e else s1)
    else
      let s2 := match s1.cmdOfSeq e seq with
        | none => s1
        | some c => s1.acceptCmd c code
      if code = 4 ∧ s.lumState e = LumSt.ONLINE then s2.assignLum e else s2

/-! ### STATUS (R215 to R220, R226) -/

/-- The lateness of a command in au: the applied time less its apply time when more than 100 µs; a NOW command is never
late (R213, R217, R220). -/
def State.lateness (s : State) (c : LcpCmd) (applied : Nat) : Nat :=
  let d := applied - c.applyNs
  if c.change.now ∨ d ≤ 100000 then 0 else d * 262144 / Nat.max 1 (s.lat.xsPeriod * 5)

/-- What a STATUS means for one open command (R214, R215, R217). -/
def State.confirmCmd (s : State) (r : LcpStatus) (c : LcpCmd) : State :=
  let e := c.change.entry
  if c.tx = 0 then s
  else match c.change.kind with
    | .level =>
      if r.appliedSeq = c.seq then
        if !bitOf r.flags 0 ∧ r.target = c.change.value then
          let late := s.lateness c r.appliedNs
          s.endCmd c (if late = 0 then St.OK else St.OK_LATE) 0 late
        else s
      else if seqLater r.appliedSeq c.seq ∧ !seqLater r.appliedSeq ((s.lum e).nextSeq + 65535) then
        s.endCmd c St.FAIL_CONFLICT 7 0
      else s
    | .cap =>
      if r.cap = c.change.value ∧ (r.cap = 0 ∨ r.power ≤ r.cap) then
        let s1 := (s.endCmd c St.OK 0 0).setFlag (Reg.LCP_LnSTATE e) 5 false
        if r.cap ≠ 0 then s1.setLumGrant e (Nat.min (s1.lum e).grant r.cap) else s1
      else s
    | .identify => s

/-- Adoption: the first STATUS after binding gives LnTARGET and the cap in force (R210). -/
def State.adoptLum (s : State) (e : Nat) (r : LcpStatus) : State :=
  if (s.lum e).adopting then
    let s1 := s.setLum e { s.lum e with adopting := false, targetSet := true }
    let s2 := (s1.setFld (Reg.LCP_LnTARGET e) 0 14 r.target).setFld (Reg.LCP_LnTARGET e) 16 15 r.cct
    s2.holdCap e r.cap
  else s

/-- Whether a LEVEL or POWER_CAP of the entry is open. -/
def State.lumBusy (s : State) (e : Nat) : Bool :=
  s.lcp.cmds.any (fun c => c.change.entry == e && c.change.kind != LcpKind.identify)

/-- The minimal-mode caps of a port (R226): when its ONLINE luminaires report more than MIN_GRANT, each is capped at its
share; a cap that stands already is not sent again. -/
def State.minimalCap (s : State) (p : Nat) : State :=
  let on := (portEntries p).filter s.lumOnline
  let sum := on.foldl (fun n e => n + s.num (Reg.LCP_LnPOWER e)) 0
  if s.mode ≠ Mode.MINIMAL ∨ sum ≤ s.minGrant p then s
  else
    let cap := s.minGrant p / Nat.max 1 on.length
    on.foldl (fun a e => if a.num (Reg.LCP_LnCAP e) = cap then a else a.capChange e cap) s

/-- What a report tells ARB of the luminaire's grant (R171, R184, R219): nothing while a command for it is open or its level
still changes; the reported power once the level stands; a luminaire held below its target by its cap keeps the grant that
the cap left it. -/
def State.reportGrant (s : State) (e : Nat) (r : LcpStatus) : State :=
  if s.lumBusy e ∨ bitOf r.flags 0 ∨ bitOf r.flags 1 then s
  else
    let l := s.lum e
    let g := if !bitOf r.flags 2 then r.power
      else if r.power ≤ r.cap then Nat.max r.power (Nat.min l.grant r.cap) else Nat.max l.grant r.power
    let s1 := s.setLumGrant e g
    s1.setLum e { s1.lum e with confirmed := true }

/-- An accepted STATUS (R216 to R220, R171, R189). -/
def State.takeStatus (s : State) (e : Nat) (r : LcpStatus) : State :=
  let old := s.fld (Reg.LCP_LnSTATE e) 16 16
  let s1 := (s.setNum (Reg.LCP_LnLEVEL e) (r.level % 2 ^ 14 + r.temp % 2 ^ 16 * 2 ^ 16)).setNum (Reg.LCP_LnPOWER e) r.power
  let s2 := (s1.setFld (Reg.LCP_LnSTATE e) 16 16 r.flags).setLum e { s1.lum e with seen := true, statusClk := s.clk }
  let s3 := if bitsOf old 5 3 = bitsOf r.flags 5 3 then s2 else s2.raiseIrq Blk.LCP 6
  let s4 := if bitOf r.flags 8 then (s3.satInc Reg.LCP_UNSYNC_CNT 0 32 1).raiseIrq Blk.LCP 7 else s3
  let s5 := if s.lumState e = LumSt.ONLINE then s4.adoptLum e r else s4
  let s6 := (s5.lcp.cmds.filter (fun c => c.change.entry == e)).foldl (fun a c => a.confirmCmd r c) s5
  let s7 := if s6.num (Reg.LCP_LnCAP e) = r.cap ∧ r.cap ≠ 0 ∧ r.power ≤ r.cap then
      s6.setFlag (Reg.LCP_LnSTATE e) 5 false else s6
  (((s7.reportGrant e r).pubReport e).minimalCap (e / 16))

/-- STATUS: accepted from the MAC learned for its port and sub-address (R202, R216). -/
def execStatus (r : LcpStatus) (s : State) : Host.Outcome State Fault Refusal := s.powered fun s =>
  let h := r.head
  if !s.en Blk.LCP then s
  else if !s.lcpTakes h 0x21 then s.lcpDropFrame
  else s.takeStatus h.entry r

/-! ### Timers (R208, R215, R231) -/

/-- ACCEPT_TIMEOUT: T_ACCEPT has passed since a frame was sent, without an ACCEPT: it is sent again with RETRY, or after
ATTEMPTS transmissions the command fails FAIL_NO_RESPONSE (R215). An ASSIGN is sent again likewise. An ACCEPT of the same
SYS cycle counts (R218). -/
def execAcceptTimeout (entry seq : Nat) (s : State) : Host.Outcome State Fault Refusal :=
  s.powered fun s => s.yielding Rank.EXPIRY (.acceptTimeout entry seq) fun s =>
  let l := s.lum entry
  if s.lumState entry = LumSt.BINDING ∧ l.assignSeq = seq then
    if s.lcpAttempts ≤ l.assignTx ∨ s.clk < l.assignClk + s.lcpAcceptClk then s
    else
      let s1 := (s.setLum entry { l with assignTx := l.assignTx + 1, assignClk := s.clk }).satInc Reg.LCP_RETRY_CNT 0 32 1
      (s1.lcpSend entry 0x03 seq 2 (s1.assignPayload entry))
  else match s.cmdOfSeq entry seq with
    | none => s
    | some c =>
      if c.accepted ∨ s.clk < c.txClk + s.lcpAcceptClk then s
      else if c.tx < s.lcpAttempts then (s.resendCmd c)
      else (s.endCmd c St.FAIL_NO_RESPONSE 0 0)

/-- BINDING_TIMEOUT: ATTEMPTS transmissions of ASSIGN and T_ACCEPT without ACCEPT return the entry to UNBOUND (R208, R218). -/
def execBindingTimeout (entry : Nat) (s : State) : Host.Outcome State Fault Refusal :=
  s.powered fun s => s.yielding Rank.EXPIRY (.bindingTimeout entry) fun s =>
  let l := s.lum entry
  if s.lumState entry = LumSt.BINDING ∧ s.lcpAttempts ≤ l.assignTx ∧ l.assignClk + s.lcpAcceptClk ≤ s.clk then
    (s.setLumState entry LumSt.UNBOUND)
  else s

/-- Whether T_CONFIRM / 2 has passed on TB1 since the expected end of a LEVEL's fade (R215). -/
def State.fadeOver (s : State) (c : LcpCmd) : Bool :=
  decide (c.applyNs + 10000000 * c.change.fade + 500000 * s.lcpConfirm ≤ (s.tb 1).total.toNat)

/-- STATUS_REQ_TIMER: one STATUS_REQ for a LEVEL not confirmed T_CONFIRM / 2 after its fade (R215). -/
def execStatusReqTimer (tag : Nat) (s : State) : Host.Outcome State Fault Refusal := s.powered fun s =>
  match s.lcpCmd tag with
  | none => s
  | some c =>
    if c.asked ∨ c.tx = 0 ∨ c.change.kind ≠ .level ∨ !s.fadeOver c then s
    else ((s.putCmd { c with asked := true }).lcpSend c.change.entry 0x14 c.seq 0 [])

/-- KEEPALIVE_TICK: KEEPALIVE ms without another frame to an ONLINE luminaire (R231). -/
def execKeepaliveTick (entry : Nat) (s : State) : Host.Outcome State Fault Refusal := s.powered fun s =>
  if s.en Blk.LCP ∧ s.lumOnline entry ∧ (s.lum entry).sentClk + s.lcpTick 0 ≤ s.clk then
    (s.lcpSend entry 0x13 (s.lum entry).nextSeq 0 [])
  else s

/-! ### Operations (R227 to R230, R234) -/

/-- Whether an operation's context may address an entry or a group (R230). -/
def State.mayAddressLum (s : State) (ctx e : Nat) : Bool := ctx == 0 || s.lumCtx e == ctx
def State.mayAddressGroup (s : State) (ctx g : Nat) : Bool := ctx == 0 || s.fld (Reg.LCP_GRPg_CFG g) 0 16 == ctx

/-- Form what an operation queued and complete it with its RESULT once all is formed (R234). -/
def State.finishLcpOp (s : State) (tag : Nat) (r : Word) : State :=
  let s1 := { s with lcp := { s.lcp with opWait := s.lcp.opWait ++ [(tag, r)] } }
  ((s1.formQueued s1.lcp.queue.length).endFormed).noteLcp

/-- RESULT of LEVEL, RECALL and OVERRIDE: commands formed, and members without one. -/
def formedResult (formed others : Nat) : Word := BitVec.ofNat 32 (formed % 1024 + others % 1024 * 2 ^ 10)

/-- LEVEL (R234). -/
def execLevel (tag : Nat) (s : State) : Host.Outcome State Fault Refusal := s.powered fun s =>
  match s.activeOp tag Blk.LCP 1 with
  | none => s
  | some x =>
    let w := paramField x.param 0 2
    let level := paramField x.param 2 2
    let cct := paramField x.param 4 2
    let fade := paramField x.param 6 2
    let lead := paramField x.param 8 2
    if s.mode = Mode.MINIMAL then (s.decideOp tag St.FAIL_DENIED 0)
    else if 10000 < level then (s.decideOp tag St.FAIL_INVALID 0)
    else if bitOf w 15 then
      let g := bitsOf w 0 8
      if !s.mayAddressGroup x.ctx g then (s.decideOp tag St.FAIL_DENIED 0)
      else
        let ms := s.members g
        let n := (ms.filter (fun e => s.mayForm e false)).length
        ((s.levelGroup g level cct fade lead 1 x.ctx none s.chain).finishLcpOp tag (formedResult n (ms.length - n)))
    else
      let e := bitsOf w 0 10
      if 768 ≤ e ∨ !s.lumEnabled e then (s.decideOp tag St.FAIL_INVALID 0)
      else if !s.mayAddressLum x.ctx e then (s.decideOp tag St.FAIL_DENIED 0)
      else
        let n := if s.mayForm e false then 1 else 0
        let s1 := s.levelChange ⟨e, .level, level, cct, fade, s.chain + lead * 65536, lead == 0, 1, x.ctx, 0, none, false⟩
        (s1.finishLcpOp tag (formedResult n (1 - n)))

/-- RECALL (R222, R234). -/
def execRecall (tag : Nat) (s : State) : Host.Outcome State Fault Refusal := s.powered fun s =>
  match s.activeOp tag Blk.LCP 2 with
  | none => s
  | some x =>
    let g := paramField x.param 0 1
    let sc := paramField x.param 1 1
    if s.mode = Mode.MINIMAL then (s.decideOp tag St.FAIL_DENIED 0)
    else if 63 < sc then (s.decideOp tag St.FAIL_INVALID 0)
    else if !s.mayAddressGroup x.ctx g then (s.decideOp tag St.FAIL_DENIED 0)
    else
      let ms := s.members g
      let n := (ms.filter (fun e => s.mayForm e false && match s.groupSlot e g with
        | some k => !bitOf (s.sceneWord e k sc) 15
        | none => false)).length
      ((s.recall g sc (paramField x.param 2 2) 1 x.ctx none s.chain).finishLcpOp tag
        (formedResult n (ms.length - n)))

/-- The fade of a hand-over in 10 ms units: the distance over OVR_SLEW, rounded up; 0 without a slew (R228). -/
def State.overrideFade (s : State) (e level : Nat) : Nat :=
  let slew := s.fld Reg.LCP_CFG 16 8
  let d := ((level : Int) - (s.fld (Reg.LCP_LnLEVEL e) 0 14 : Nat)).natAbs
  if slew = 0 then 0 else (d + slew - 1) / slew

/-- The command point of an entry, where LCP_PT_BASE gives one. -/
def State.commandPoint (s : State) (e : Nat) : Option Nat :=
  let b := s.fld Reg.LCP_PT_BASE 0 16
  if b = 0xFFFF then none else some (b + 8 * e)

/-- A hand-over write of the command point with a quality; while the host forces the point it changes nothing (R11, R227). -/
def State.handOver (s : State) (e : Nat) (v : Word) (q : Nat) : State :=
  match s.commandPoint e with
  | none => s
  | some i =>
    let p := s.point i
    if p.type = PtType.NONE ∨ p.forced then s
    else s.setPoint i { p with value := normValue p.type (v.setWidth 64), quality := q, stamp := s.chain32 }

/-- A program value as it stands before an override: nothing where the point was never written (R228). -/
def State.programValue (s : State) (e : Nat) : Option (Word × Nat) :=
  match s.commandPoint e with
  | none => none
  | some i =>
    let p := s.point i
    if p.quality = Q.UNINIT then none else some (p.value.setWidth 32, p.quality)

/-- Take an override at a level, or move one that stands (R227, R228). -/
def State.takeOverride (s : State) (e level ctx : Nat) : State :=
  let s0 := if s.overridden e then s
    else
      let pv := s.programValue e
      let a := s.setLum e { s.lum e with prog := pv }
      match pv with
      | some (v, _) => a.setReg (Reg.LCP_LnPROG e) v
      | none => a
  let s1 := (s0.setFlag (Reg.LCP_LnSTATE e) 3 true).handOver e (realOfRat level 100) Q.FORCED
  let s2 := s1.levelChange ⟨e, .level, level, 0, s.overrideFade e level, s.chain, true, 1, ctx, 0, none, true⟩
  s2.pubLum e

/-- Release an override: the program's value is written and sent, or the luminaire stays where it is (R228). A value
that is no level forms no command (R212). -/
def State.releaseOverride (s : State) (e ctx : Nat) : State :=
  let l := s.lum e
  let s1 := (s.setFlag (Reg.LCP_LnSTATE e) 3 false).setLum e { l with prog := none }
  match l.prog with
  | none =>
    let lv := s.fld (Reg.LCP_LnLEVEL e) 0 14
    let s2 := match s1.commandPoint e with
      | some i =>
        let p := s1.point i
        if p.forced ∨ p.quality ≠ Q.FORCED then s1 else s1.setPoint i { p with quality := Q.STALE, stamp := s.chain32 }
      | none => s1
    (s2.setTarget e lv 0)
  | some (v, q) =>
    let s2 := s1.handOver e v q
    match levelOf v with
    | none => s2.badValue.pubLum e
    | some lv =>
      (s2.levelChange ⟨e, .level, lv, 0, s.overrideFade e lv, s.chain, true, 1, ctx, 0, none, true⟩).pubLum e

/-- OVERRIDE (R227 to R230, R234). -/
def execOverride (tag : Nat) (s : State) : Host.Outcome State Fault Refusal := s.powered fun s =>
  match s.activeOp tag Blk.LCP 3 with
  | none => s
  | some x =>
    let e := paramField x.param 0 2
    let level := paramField x.param 2 2
    if s.mode = Mode.MINIMAL then (s.decideOp tag St.FAIL_DENIED 0)
    else if 768 ≤ e ∨ !s.lumEnabled e ∨ (10000 < level ∧ level ≠ 0xFFFF) ∨ (level = 0xFFFF ∧ !s.overridden e) then
      (s.decideOp tag St.FAIL_INVALID 0)
    else if !s.mayAddressLum x.ctx e then (s.decideOp tag St.FAIL_DENIED 0)
    else
      let s1 := if level = 0xFFFF then s.releaseOverride e x.ctx else s.takeOverride e level x.ctx
      let n := if s1.lcp.queue.any (fun c => c.entry == e && c.kind == LcpKind.level && c.override) then 1 else 0
      (s1.finishLcpOp tag (formedResult n (1 - n)))

/-- IDENTIFY (R234). -/
def execIdentify (tag : Nat) (s : State) : Host.Outcome State Fault Refusal := s.powered fun s =>
  match s.activeOp tag Blk.LCP 4 with
  | none => s
  | some x =>
    let e := paramField x.param 0 2
    if s.mode = Mode.MINIMAL then (s.decideOp tag St.FAIL_DENIED 0)
    else if 768 ≤ e ∨ !s.lumOnline e then (s.decideOp tag St.FAIL_INVALID 0)
    else if !s.mayAddressLum x.ctx e then (s.decideOp tag St.FAIL_DENIED 0)
    else ((s.queueChange ⟨e, .identify, paramField x.param 2 2, 0, 0, s.chain, true, 1, x.ctx, 0, none, true⟩).finishLcpOp
      tag 0)

/-- REDISCOVER: the port's entries bind afresh; ONLINE ones only with FORCE (R208, R234). -/
def execRediscover (tag : Nat) (s : State) : Host.Outcome State Fault Refusal := s.powered fun s =>
  match s.activeOp tag Blk.LCP 5 with
  | none => s
  | some x =>
    let p := paramField x.param 0 1
    let force := bitOf (paramField x.param 1 1) 0
    let es := (portEntries p).filter s.lumEnabled
    if s.mode = Mode.MINIMAL then (s.decideOp tag St.FAIL_DENIED 0)
    else if 47 < p then (s.decideOp tag St.FAIL_INVALID 0)
    else if !es.all (fun e => s.mayAddressLum x.ctx e) then (s.decideOp tag St.FAIL_DENIED 0)
    else
      let s1 := es.foldl (fun a e =>
        if a.lumState e = LumSt.ONLINE ∧ !force then a
        else (a.failEntry e St.FAIL_STATION_LOST).setLumState e LumSt.UNBOUND) s
      (s1.decideOp tag St.OK 0)

/-- A luminaire entry follows the image's EN: enabled ones are UNBOUND, others DISABLED with RELEASE when they were
ONLINE (R208). -/
def State.applyLumEn (s : State) (e : Nat) : State :=
  if s.lumEnabled e then (if s.lumState e = LumSt.DISABLED then s.setLumState e LumSt.UNBOUND else s)
  else if s.lumState e = LumSt.DISABLED then s
  else
    let s1 := if s.lumState e = LumSt.ONLINE then s.lcpSend e 0x15 (s.lum e).nextSeq 0 [] else s
    (s1.failEntry e St.FAIL_STATION_LOST).setLumState e LumSt.DISABLED

end Sys2Proof.Machine
end

