-- ==== Sys2Proof/Machine/LpeCore.lean ====
section
/-! DEFINITION. The loop engine's fixed-point arithmetic, its conversions, the control law, modes, supervision and
traces (R304 to R327). -/

namespace Sys2Proof.Machine

/-! LnSTATE.MODE (R316). -/
namespace LoopMode
abbrev OFF : Nat := 0
abbrev MANUAL : Nat := 1
abbrev AUTO : Nat := 2
abbrev TRACK : Nat := 3
abbrev HOLD : Nat := 4
abbrev FALLBACK : Nat := 5
end LoopMode

/-! ### Arithmetic (R311, R312) -/

/-- A number saturated to Q15, with whether it was. -/
def satQ15 (x : Int) : Int × Bool := let y := clampInt (-32768) 32767 x; (y, decide (y ≠ x))

/-- A sum saturated to the accumulator, with whether it was. -/
def satAcc (x : Int) : Int × Bool := let y := clampInt (-(2 ^ 39 - 1)) (2 ^ 39 - 1) x; (y, decide (y ≠ x))

/-- The accumulator returned to Q15: (acc + 2^14) >> 15, saturated (R311). -/
def accToQ15 (x : Int) : Int × Bool := satQ15 ((x + 2 ^ 14) / 2 ^ 15)

/-- A gain times a Q15 signal, in the accumulator; SHIFT 9 to 15 read as 8 (R312). -/
def gainMul (g : Word) (x : Int) : Int × Bool :=
  satAcc (signed 16 g.toNat * x * 2 ^ Nat.min 8 (bitsOf g.toNat 16 4))

/-- A signed Q15 field of a register. -/
def State.q15 (s : State) (off lo : Nat) : Int := signed 16 (s.fld off lo 16)

/-! ### Conversions (R305, R306) -/

/-- n / d rounded to nearest, half away from zero; `d` not 0. -/
def ratRound (n d : Int) : Int :=
  let q := divHalfUp n.natAbs d.natAbs
  if decide (n < 0) != decide (d < 0) then -(q : Int) else q

/-- A point's value as a ratio: an integer, or a REAL32 number; `none` for NaN and the infinities. -/
def Point.ratio (p : Point) : Option (Int × Nat) :=
  if p.type = PtType.REAL32 then realRat (p.value.setWidth 32) else some (signed 64 p.value.toNat, 1)

/-- Convert a point to Q15 over a range (R305). -/
def toQ15 (p : Point) (lo hi : Word) : Option Int :=
  if p.type = PtType.Q15 then some (signed 16 p.value.toNat)
  else match p.ratio, realRat lo, realRat hi with
    | some (v, vd), some (l, ld), some (h, hd) =>
      -- (v/vd − l/ld) · 32768 / (h/hd − l/ld)
      let num := (v * ld - l * vd) * 32768 * hd
      let den := (h * ld - l * hd) * vd
      if den = 0 then none else some (satQ15 (ratRound num den)).1
    | _, _, _ => none

/-- LO + u × (HI − LO) ÷ 32,768 as a ratio; 0 where the range is not finite, which validation excludes. -/
def fromQ15 (u : Int) (lo hi : Word) : Int × Nat :=
  match realRat lo, realRat hi with
  | some (l, ld), some (h, hd) => (l * hd * 32768 + u * (h * ld - l * hd), ld * hd * 32768)
  | _, _ => (0, 1)

/-- The output as the OUT point's type holds it (R306). -/
def outValue (type : Nat) (u : Int) (lo hi : Word) : Dword :=
  if type = PtType.Q15 then BitVec.ofInt 64 u
  else
    let (n, d) := fromQ15 u lo hi
    if type = PtType.INT32 then BitVec.ofInt 64 (clampInt (-(2 ^ 31)) (2 ^ 31 - 1) (ratRound n d))
    else (realOfRat n d).setWidth 64

/-! ### Loops -/

/-- A loop beside its registers. -/
def State.loop (s : State) (n : Nat) : LoopX := tget (fun _ => LoopX.fresh) s.lpe.loops n

/-- Put a loop. -/
def State.setLoop (s : State) (n : Nat) (x : LoopX) : State :=
  { s with lpe := { s.lpe with loops := tset (fun _ => LoopX.fresh) s.lpe.loops n x } }

/-- The tenant context of a loop (R332). -/
def State.loopCtx (s : State) (n : Nat) : Nat := s.fld (Reg.LPE_LnCFG n) 16 16

/-- The sections' coefficients in force: those a write of B0 latched, else the registers (R315). -/
def State.coefs (s : State) (n k : Nat) : Word × Word × Word :=
  match (s.loop n).coef[k]? with
  | some c => c
  | none => (s.reg (Reg.LPE_LnBQk_W0 n k), s.reg (Reg.LPE_LnBQk_W1 n k), s.reg (Reg.LPE_LnBQk_W2 n k))

/-- One biquad section on an input (R315): output, next state, saturation. Without a state it starts from the steady
state of its present input. -/
def biquad (c : Word × Word × Word) (st : Option BqState) (x : Int) : Int × BqState × Bool :=
  let f := fun (w : Word) (lo : Nat) => signed 16 (bitsOf w.toNat lo 16)
  let b := st.getD ⟨x, x, x, x⟩
  let (acc, s1) := satAcc (f c.1 0 * x + f c.1 16 * b.x1 + f c.2.1 0 * b.x2 - f c.2.1 16 * b.y1 - f c.2.2 0 * b.y2)
  let (y, s2) := satQ15 ((acc + 2 ^ 13) / 2 ^ 14)
  (y, ⟨x, b.x1, y, b.y1⟩, s1 || s2)

/-- The sections of a stage in ascending k (R315): output, states, saturation. -/
def State.runStage (s : State) (n stage : Nat) (x : Int) (bq : List (Option BqState)) :
    Int × List (Option BqState) × Bool :=
  (List.range 4).foldl (fun (a : Int × List (Option BqState) × Bool) k =>
    let c := s.coefs n k
    if bitsOf c.2.2.toNat 16 2 = stage then
      let (y, st, sat) := biquad c (a.2.1.getD k none) a.1
      (y, a.2.1.set k (some st), a.2.2 || sat)
    else a) (x, bq, false)

/-- An input point as the loop reads it: Q15 value and quality; TEN's refusal is counted and reads as FAULT without a
value (R305, R321, R551). -/
def State.loopInput (s : State) (n i : Nat) (lo hi : Word) : Option Int × Nat × State :=
  let c := s.loopCtx n
  if !s.blockMay c i 0 then (none, Q.FAULT, (s.countDenied c).satInc Reg.LPE_DENIED_CNT 0 32 1)
  else match toQ15 (s.pointBefore i) lo hi with
    | some x => (some x, (s.pointBefore i).quality, s)
    | none => (none, Q.FAULT, s)

/-- A value that the spec states nowhere: an input that gives none (R305). -/
def State.freeQ15 (s : State) : Int × State := (signed 16 (Config.freeWord s.free).toNat, s.nextFree)

/-- An input's value; without one a free value. -/
def State.inputOr (s : State) (x : Option Int) : Int × State :=
  match x with
  | some v => (v, s)
  | none => s.freeQ15

/-- An optional input: `dflt` where the point is not used (FFFFh). -/
def State.optInput (s : State) (n off lo : Nat) (rlo rhi : Word) (dflt : Int) : Int × State :=
  let i := s.fld off lo 16
  if i = 0xFFFF then (dflt, s)
  else
    let (x, _, s1) := s.loopInput n i rlo rhi
    s1.inputOr x

/-- Whether the TRK point is active (R304, R317). -/
def State.trkActive (s : State) (n : Nat) : Bool :=
  let i := s.fld (Reg.LPE_LnTRK_PT n) 0 16
  let p := s.pointBefore i
  s.flag (Reg.LPE_LnCFG n) 3 && i != 0xFFFF && s.blockMay (s.loopCtx n) i 0 && p.value != 0
    && (p.quality == Q.GOOD || p.quality == Q.SUBST || p.quality == Q.FORCED)

/-- The request of a loop at a sample (R316): from LnCTL, or from the MODE point whose value outside 0 to 2 is
ignored. A write of the MODE point is a new request; one of the sample's own SYS cycle counts from the next sample
(R320). -/
def State.takeRequest (s : State) (n : Nat) : Nat × State :=
  let x := s.loop n
  if s.flag (Reg.LPE_LnCFG n) 2 then
    let i := s.fld (Reg.LPE_LnMODE_PT n) 0 16
    let p := s.pointBefore i
    if i = 0xFFFF ∨ !s.blockMay (s.loopCtx n) i 0 then (x.mReq, s)
    else
      let ok := decide (p.value.toNat < 3)
      let r := if ok then p.value.toNat else x.mReq
      (r, s.setLoop n { x with mReq := r, mStamp := p.stamp, newReq := x.newReq || (ok && p.stamp != x.mStamp) })
  else match x.asked with
    | some (c, r, m) => if c = s.clk then (r, s.setLoop n { x with newReq := m }) else (s.fld (Reg.LPE_LnCTL n) 0 2, s)
    | none => (s.fld (Reg.LPE_LnCTL n) 0 2, s)

/-- Whether the loop's last request was made in a SYS cycle. -/
def LoopX.askedAt (x : LoopX) (clk : Nat) : Bool := match x.asked with
  | some (c, _, _) => c == clk
  | none => false

/-- Move towards a target by at most a rate; 0 is at once (R318). -/
def slewTo (u target : Int) (rate : Nat) : Int :=
  if rate = 0 then target else u + clampInt (-(rate : Int)) rate (target - u)

/-! ### Traces (R326, R327) -/

/-- What one sample offers a trace: the channels' values in bit order, the mode change, FE's setting, the entry to
HOLD, and PV before and now. -/
structure TraceIn where
  vals : List Int
  modeChange : Bool
  feSet : Bool
  holdEntry : Bool
  pvWas : Int
  pvNow : Int
deriving DecidableEq, Repr

/-- Whether a trigger fires at a sample. -/
def triggers (kind : Nat) (level : Int) (t : TraceIn) : Bool :=
  match kind with
  | 0 => true
  | 1 => t.modeChange
  | 2 => t.feSet
  | 3 => t.holdEntry
  | 4 => decide (t.pvWas < level) && decide (level ≤ t.pvNow)
  | 5 => decide (level < t.pvWas) && decide (t.pvNow ≤ level)
  | _ => false

/-- A trace buffer beside its registers. -/
def State.trace (s : State) (b : Nat) : TraceX := tget (fun _ => ⟨0, 0, none⟩) s.lpe.traces b

/-- Put a trace buffer. -/
def State.setTrace (s : State) (b : Nat) (x : TraceX) : State :=
  { s with lpe := { s.lpe with traces := tset (fun _ => ⟨0, 0, none⟩) s.lpe.traces b x } }

/-- The channels of a mask in ascending bit order. -/
def maskBits (m : Nat) : List Nat := (List.range 8).filter (fun i => bitOf m i)

/-- Record one trace point at the write index and move it round the ring. -/
def State.recordTrace (s : State) (b : Nat) (vals : List Int) : State :=
  let st := Reg.LPE_TRb_STAT b
  let ch := vals.length
  let ring := 4096 / Nat.max 1 ch * ch
  let i := s.fld st 0 12
  let s1 := (List.range ch).foldl (fun a k =>
    a.setFld (Reg.LPE_TRb_DATA b ((i + k) / 2)) (16 * ((i + k) % 2)) 16 (unsigned 16 (vals.getD k 0))) s
  let j := i + ch
  if ring ≤ j then (s1.setFld st 0 12 0).setFlag st 26 true else s1.setFld st 0 12 j

/-- One sample of a loop offered to a buffer armed on it (R327). -/
def State.traceSample (s : State) (b n : Nat) (t : TraceIn) : State :=
  let cfg := Reg.LPE_TRb_CFG b
  if !s.flag cfg 31 ∨ s.fld cfg 0 7 ≠ n then s
  else
    let st := Reg.LPE_TRb_STAT b
    let x := s.trace b
    let rec_ := decide (x.wait = 0)
    let bits := maskBits (s.fld cfg 8 8)
    let ring := 4096 / Nat.max 1 bits.length
    let i := s.fld st 0 12
    let s1 := if rec_ then s.recordTrace b (bits.map (fun k => t.vals.getD k 0)) else s
    let wait := if rec_ then Nat.max 1 (s.fld cfg 16 8) - 1 else x.wait - 1
    let fire := x.post.isNone && triggers (s.fld cfg 24 3) (s.q15 (Reg.LPE_TRb_LEVEL b) 0) t
    let s2 := if fire then
        ((s1.setFld st 12 12 i).setFlag st 24 true).setReg (Reg.LPE_TRb_TSTAMP b) s1.chain32
      else s1
    let post := if fire then some (Nat.min ring x.want)
                else if rec_ then x.post.map (· - 1) else x.post
    let s3 := s2.setTrace b ⟨wait, x.want, post⟩
    if post = some 0 then ((s3.setFlag cfg 31 false).setFlag st 25 true).raiseIrq Blk.LPE 6 else s3

/-! ### One sample (R313 to R325) -/

/-- The sample's inputs after the conversions and stages: SP, PV before and after its stage, FF after its stage, the
error, TRK_VAL and MAN, whether the feedback is lost, the sections' next states and whether anything saturated. -/
structure SampleIn where
  sp : Int
  pvRaw : Int
  pv : Int
  ff : Int
  e : Int
  trk : Int
  man : Int
  lost : Bool
  bq : List (Option BqState)
  sat : Bool
deriving DecidableEq, Repr

/-- Take a loop's inputs at a sample (R305, R309, R313 steps 1 and 2, R321): values from before the writes of the SYS cycle, the
age with them. -/
def State.takeInputs (s : State) (n : Nat) : SampleIn × State :=
  let plo := s.reg (Reg.LPE_LnPV_LO n)
  let phi := s.reg (Reg.LPE_LnPV_HI n)
  let olo := s.reg (Reg.LPE_LnOUT_LO n)
  let ohi := s.reg (Reg.LPE_LnOUT_HI n)
  let i := s.fld (Reg.LPE_LnPV_PT n) 0 16
  let (px, q, s1) := s.loopInput n i plo phi
  let tmo := s.fld (Reg.LPE_LnSUP1 n) 0 8
  let age := (s.chain32 - (s.point i).stamp).toNat
  let lost := px.isNone || q == Q.STALE || q == Q.FAULT || q == Q.UNINIT
    || (tmo != 0 && decide (tmo * (s.fld (Reg.LPE_LnPERIOD n) 0 16 * 1024) < age))
  let (pvRaw, s2) := s1.inputOr px
  let (sp, s3) := s2.optInput n (Reg.LPE_LnPV_PT n) 16 plo phi (s.q15 (Reg.LPE_LnSP n) 0)
  let (ff0, s4) := s3.optInput n (Reg.LPE_LnIO_PT n) 16 olo ohi 0
  let (trk, s5) := s4.optInput n (Reg.LPE_LnTRK_PT n) 16 olo ohi 0
  let (man, s6) := s5.optInput n (Reg.LPE_LnMODE_PT n) 16 olo ohi (s.q15 (Reg.LPE_LnMAN n) 0)
  let (pv, bq1, sat1) := s6.runStage n 1 pvRaw (s6.loop n).bq
  let (ff, bq2, sat2) := s6.runStage n 2 ff0 bq1
  let (e, sat3) := satQ15 (if s.flag (Reg.LPE_LnCFG n) 1 then pv - sp else sp - pv)
  (⟨sp, pvRaw, pv, ff, e, trk, man, lost, bq2, sat1 || sat2 || sat3⟩, s6)

/-- The mode of a sample before the following error is judged (R317, R325), with whether it is a resume. -/
def State.judgeMode (s : State) (n req : Nat) (trk lost frozen : Bool) (resCnt : Nat) : Nat × Bool :=
  let x := s.loop n
  let inHold := x.mode == LoopMode.HOLD || x.mode == LoopMode.FALLBACK
  let need := Nat.max 1 (s.fld (Reg.LPE_LnSUP1 n) 8 8)
  let back := inHold && (if x.cause = 3 then x.newReq else decide (need ≤ resCnt))
  if req = 0 then (LoopMode.OFF, false)
  else if trk then (LoopMode.TRACK, false)
  else if req = 1 then (LoopMode.MANUAL, false)
  else if inHold && !back then (x.mode, false)
  else if lost || frozen then (LoopMode.HOLD, false)
  else (LoopMode.AUTO, back && x.cause != 3)

/-- The filtered derivative (R314). -/
def State.derivative (s : State) (n : Nat) (x : LoopX) (pv : Int) : Int × Bool :=
  match x.pvPrev with
  | none => (0, false)
  | some p =>
    let dv := if s.flag (Reg.LPE_LnCFG n) 1 then pv - p else p - pv
    let (a, s0) := gainMul (s.reg (Reg.LPE_LnKD n)) dv
    let (d, s1) := accToQ15 a
    let al := Nat.min 32768 (s.fld (Reg.LPE_LnDFILT n) 0 16)
    if al = 0 then (d, s0 || s1)
    else
      let (st, s2) := accToQ15 ((al : Int) * (d - x.d))
      let (r, s3) := satQ15 (x.d + st)
      (r, s0 || s1 || s2 || s3)

/-- What the control law gives (R313): u, INT, the limit or saturation and the rate-limit flags. -/
structure LawOut where
  u : Int
  int : Int
  sat : Bool
  rate : Bool
deriving DecidableEq, Repr

/-- The control law at a sample in AUTO that is no entry (R313 steps 3 to 8; BUMPLESS of R330). -/
def State.controlLaw (s : State) (n : Nat) (x : LoopX) (i : SampleIn) (d : Int) : LawOut :=
  let lo := s.q15 (Reg.LPE_LnLIMIT n) 0
  let hi := s.q15 (Reg.LPE_LnLIMIT n) 16
  let clampI := fun (v : Int) => clampInt (lo * 2 ^ 15) (hi * 2 ^ 15) v
  let (p, s0) := gainMul (s.reg (Reg.LPE_LnKP n)) i.e
  let i0 := match x.bump with
    | some k => clampI (x.int + (gainMul k i.e).1 - p)
    | none => x.int
  let (ki, s1) := gainMul (s.reg (Reg.LPE_LnKI n)) i.e
  let i1 := clampI (i0 + ki)
  let (acc, s2) := satAcc (p + i1 + d * 2 ^ 15 + i.ff * 2 ^ 15)
  let (us, s3) := accToQ15 acc
  let ul := clampInt lo hi us
  let rate := s.fld (Reg.LPE_LnRATE n) 0 16
  let u := if rate = 0 then ul else x.u + clampInt (-(rate : Int)) rate (ul - x.u)
  ⟨u, if u = us then i1 else clampI (i1 + (u - us) * 2 ^ 15), s0 || s1 || s2 || s3 || decide (ul ≠ us), decide (u ≠ ul)⟩

/-- INT by back-calculation from an output (R318): (u − P − D − FF) × 2^15, clamped. -/
def State.backCalc (s : State) (n : Nat) (i : SampleIn) (d u : Int) : Int :=
  let lo := s.q15 (Reg.LPE_LnLIMIT n) 0
  let hi := s.q15 (Reg.LPE_LnLIMIT n) 16
  let p := (gainMul (s.reg (Reg.LPE_LnKP n)) i.e).1
  clampInt (lo * 2 ^ 15) (hi * 2 ^ 15) ((u - d - i.ff) * 2 ^ 15 - p)

/-- The present output of a loop that comes from OFF or enters anew: its OUT point's value over the OUT range (R318). -/
def State.presentOut (s : State) (n : Nat) : Int × State :=
  let x := s.loop n
  if x.mode = LoopMode.OFF ∨ x.entry then
    s.inputOr (toQ15 (s.pointBefore (s.fld (Reg.LPE_LnIO_PT n) 0 16)) (s.reg (Reg.LPE_LnOUT_LO n)) (s.reg (Reg.LPE_LnOUT_HI n)))
  else (x.u, s)

/-- Show a loop in its registers after a sample (R331, R333). -/
def State.showLoop (s : State) (n req : Nat) (x : LoopX) (i : SampleIn) (sat rate trk : Bool) : State :=
  let b := fun (v : Bool) (k : Nat) => if v then 2 ^ k else 0
  let hold := x.mode == LoopMode.HOLD
  let inHold := hold || x.mode == LoopMode.FALLBACK
  let left := if inHold ∧ x.cause ≠ 3 then Nat.max 1 (s.fld (Reg.LPE_LnSUP1 n) 8 8) - x.resCnt else 0
  let st := x.mode + req * 16 + x.cause * 64 + b i.lost 8 + b x.frozen 9 + b x.fe 10 + b sat 11 + b rate 12 + b trk 13
    + b x.resumed 14 + left * 65536
  let w := fun (lo hi : Int) => unsigned 16 lo + unsigned 16 hi * 65536
  let s1 := (s.setNum (Reg.LPE_LnSTATE n) st).setNum (Reg.LPE_LnPV n) (w i.pv i.sp)
  let s2 := (s1.setNum (Reg.LPE_LnOUT n) (w x.u i.e)).setNum (Reg.LPE_LnINT n) (unsigned 32 x.int)
  let s3 := s2.setNum (Reg.LPE_LnDTERM n) (w x.d i.ff)
  let rest := if hold then s.fld (Reg.LPE_LnSUP1 n) 16 16 - x.holdCnt else 0
  let s4 := (s3.setNum (Reg.LPE_LnTRAVEL n) (Nat.min 65535 x.travel + rest * 65536)).setNum (Reg.LPE_LnFE_CNT n) x.feCnt
  let s5 := s4.setReg (Reg.LPE_LnSTAMP n) s.chain32
  if sat || rate then s5.satInc (Reg.LPE_LnSAT_CNT n) 0 32 1 else s5

/-- Write the status points of a loop (R307). -/
def State.pubLoop (s : State) (n : Nat) (mode : Nat) (i : SampleIn) : State :=
  let (a, d) := fromQ15 i.sp (s.reg (Reg.LPE_LnPV_LO n)) (s.reg (Reg.LPE_LnPV_HI n))
  let put := fun (t : State) (k : Nat) (v : Dword) => t.pubPoint Reg.LPE_PT_BASE (4 * n + k) v Q.GOOD
  let s1 := put s 0 (BitVec.ofNat 64 mode)
  let s2 := put s1 1 (BitVec.ofNat 64 (s.fld (Reg.LPE_LnSTATE n) 8 8))
  let s3 := put s2 2 ((realOfRat a d).setWidth 64)
  put s3 3 (if mode = LoopMode.AUTO then 0 else 1)

/-- Supervision in AUTO of the frozen feedback (R322): the band's reference, the travel, and whether it is frozen from
now on. -/
def freezeCheck (x : LoopX) (pvRaw u present : Int) (db du : Nat) : LoopX × Bool :=
  match x.pv0 with
  | some p =>
    if (db : Int) < (pvRaw - p).natAbs then ({ x with pv0 := some pvRaw, travel := 0 }, false)
    else
      let t := x.travel + (u - present).natAbs
      if du ≠ 0 ∧ du ≤ t ∧ !x.frozen then ({ x with travel := t, frozen := true, pvFrz := pvRaw }, true)
      else ({ x with travel := t }, false)
  | none => ({ x with pv0 := some pvRaw, travel := 0 }, false)

/-- One sample of a loop (R313 to R325). -/
def State.sampleLoop (s : State) (n : Nat) : State :=
  let (req, s0) := s.takeRequest n
  let (i, s1) := s0.takeInputs n
  let x := s1.loop n
  let trk := s1.trkActive n
  let sup2 := Reg.LPE_LnSUP2 n
  let feReg := Reg.LPE_LnFE n
  -- the feedback (R322, R325)
  let frozen := x.frozen && !(!i.lost && decide ((s1.fld sup2 0 16 : Int) < (i.pvRaw - x.pvFrz).natAbs))
  let valid := !i.lost && !frozen && x.cause != 3
  let inHold := x.mode == LoopMode.HOLD || x.mode == LoopMode.FALLBACK
  let resCnt := if inHold && valid then x.resCnt + 1 else 0
  let (m0, resumed) := s1.judgeMode n req trk i.lost frozen resCnt
  -- the following error (R323)
  let feN := s1.fld feReg 16 14
  let isBig := decide ((s1.fld feReg 0 16 : Int) < i.e.natAbs)
  let feCnt := if m0 = LoopMode.AUTO ∧ feN ≠ 0 ∧ isBig then Nat.min 16383 (x.feCnt + 1) else 0
  let feSet := decide (feN ≠ 0) && decide (feCnt = feN)
  let fe := if m0 = LoopMode.AUTO then decide (feN ≠ 0) && decide (feN ≤ feCnt) else x.fe
  let feTrip := feSet && s1.flag feReg 30
  let m1 := if feTrip then LoopMode.HOLD else m0
  -- HOLD and FALLBACK (R324)
  let enters := m1 == LoopMode.HOLD && (x.mode != LoopMode.HOLD || (x.cause == 3 && x.newReq))
  let holdCnt := if enters then 0 else x.holdCnt + 1
  let m2 := if m1 = LoopMode.HOLD ∧ s1.fld (Reg.LPE_LnSUP1 n) 16 16 ≤ holdCnt ∧ (enters ∨ !valid) then LoopMode.FALLBACK
            else m1
  let stays := m2 == LoopMode.HOLD || m2 == LoopMode.FALLBACK
  let cause := if enters then (if i.lost then 1 else if frozen then 2 else 3) else if stays then x.cause else 0
  -- output (R313, R318, R319)
  let leaves := inHold && !stays
  let x0 := if leaves then { x with pvPrev := none, bq := [none, none, none, none] } else x
  let (i2, s2) := if leaves then (let (a, t) := (s1.setLoop n x0).takeInputs n; ({ a with lost := i.lost }, t)) else (i, s1)
  let (present, s3) := if m2 = LoopMode.OFF then (x.u, s2) else s2.presentOut n
  let x1 := { x0 with u := present }
  let lives := m2 == LoopMode.AUTO || m2 == LoopMode.MANUAL || m2 == LoopMode.TRACK
  let (d, satD) := if lives then s3.derivative n x1 i2.pv else (x.d, false)
  let first := x.mode != LoopMode.AUTO || x.entry
  let manRate := s3.fld (Reg.LPE_LnRATE n) 16 16
  let lo := s3.q15 (Reg.LPE_LnLIMIT n) 0
  let hi := s3.q15 (Reg.LPE_LnLIMIT n) 16
  let r : LawOut :=
    if m2 = LoopMode.AUTO then
      (if first then ⟨present, s3.backCalc n i2 d present, false, false⟩ else s3.controlLaw n x1 i2 d)
    else if m2 = LoopMode.TRACK then
      (let u := clampInt lo hi i2.trk; ⟨u, s3.backCalc n i2 d u, decide (u ≠ i2.trk), false⟩)
    else if m2 = LoopMode.MANUAL then
      (let u := slewTo present i2.man manRate; ⟨u, s3.backCalc n i2 d u, false, false⟩)
    else if m2 = LoopMode.FALLBACK then
      ⟨slewTo present (s3.q15 (Reg.LPE_LnFALLBACK n) 0) manRate, x.int, false, false⟩
    else ⟨present, x.int, false, false⟩
  let x2 : LoopX := { x1 with
    mode := m2, entry := m2 == LoopMode.OFF && x.entry, lastCh := some s.chain, u := r.u, int := r.int, d := d
    pvPrev := if lives then some i2.pv else none
    lastPv := i2.pv, bq := if stays then x.bq else i2.bq, newReq := (s.loop n).askedAt s.clk, frozen := frozen, fe := fe
    feCnt := if m2 = LoopMode.AUTO then feCnt else 0, cause := cause, holdCnt := holdCnt
    resCnt := if stays ∧ !enters then resCnt else 0
    resumed := if m2 = LoopMode.AUTO then (if x.mode = LoopMode.AUTO then x.resumed else resumed) else x.resumed
    bump := if m2 = LoopMode.AUTO then none else x.bump
    pv0 := if m2 = LoopMode.AUTO then x.pv0 else none
    travel := if m2 = LoopMode.AUTO then x.travel else 0 }
  let (x3, froze) := if m2 = LoopMode.AUTO then
      freezeCheck x2 i2.pvRaw r.u present (s3.fld sup2 0 16) (s3.fld sup2 16 16) else (x2, false)
  -- writes, counts and interrupts (R306, R307, R324, R331)
  let isNew := m2 != x.mode
  let db := s3.fld (Reg.LPE_LnFALLBACK n) 16 16
  let doWrite := m2 != LoopMode.OFF && (isNew || (match x.lastOut with
    | some v => decide ((db : Int) < (r.u - v).natAbs)
    | none => true))
  let oi := s3.fld (Reg.LPE_LnIO_PT n) 0 16
  let x4 := if doWrite then { x3 with lastOut := some r.u } else x3
  let sat := i2.sat || satD || r.sat
  let s4 := (s3.setLoop n x4).showLoop n req x4 i2 sat r.rate trk
  let s5 := if doWrite then
      s4.writePoint Blk.LPE oi (outValue (s4.point oi).type r.u (s4.reg (Reg.LPE_LnOUT_LO n)) (s4.reg (Reg.LPE_LnOUT_HI n))) Q.GOOD
    else s4
  let s6 := s5.pubLoop n m2 i2
  let fell := m2 == LoopMode.FALLBACK && x.mode != LoopMode.FALLBACK
  let s7 := if enters then (s6.satInc Reg.LPE_HOLD_CNT 0 32 1).raiseIrq Blk.LPE 1 else s6
  let s8 := if fell then (s7.satInc Reg.LPE_FALLBACK_CNT 0 32 1).raiseIrq Blk.LPE 2 else s7
  let s9 := if resumed && m2 == LoopMode.AUTO then s8.raiseIrq Blk.LPE 3 else s8
  let s10 := if feSet then (s9.satInc Reg.LPE_FE_CNT 0 32 1).raiseIrq Blk.LPE 4 else s9
  let s11 := if froze then s10.raiseIrq Blk.LPE 5 else s10
  let s12 := if isNew then s11.raiseIrq Blk.LPE 7 else s11
  let t : TraceIn := ⟨[i2.sp, i2.pv, r.u, i2.e, (accToQ15 r.int).1, d, i2.ff, i2.pvRaw], isNew, feSet, enters, x.lastPv, i2.pv⟩
  s12.forN 8 fun a b => a.traceSample b n t

/-- SLOT_MAX: the most loops sampled at one chainage and the longest output delay, which R310 bounds and no rule states
(R331). -/
def State.noteSlot (s : State) : State :=
  let k := if s.lpe.slotCh = s.chain then s.lpe.slotN + 1 else 1
  let s1 := { s with lpe := { s.lpe with slotCh := s.chain, slotN := k } }
  let d := (Config.freeWord s1.free).toNat % (1001 + 400 * (k - 1))
  let s2 := s1.nextFree
  let s3 := s2.setFld Reg.LPE_SLOT_MAX 0 7 (Nat.max (s2.fld Reg.LPE_SLOT_MAX 0 7) k)
  s3.setFld Reg.LPE_SLOT_MAX 16 16 (Nat.max (s3.fld Reg.LPE_SLOT_MAX 16 16) d)

/-- Whether a loop's sample chainage is the present one (R308). -/
def State.sampleDue (s : State) (n : Nat) : Bool :=
  let p := s.fld (Reg.LPE_LnPERIOD n) 0 16 * 1024
  let st := s.fld (Reg.LPE_LnPERIOD n) 16 6 * 1024
  decide (p ≠ 0) && decide (((s.chain : Int) - st) % p = 0) && decide ((s.loop n).lastCh ≠ some s.chain)

/-- Whether a loop's feedback would be lost for its age at a sample in the present SYS cycle (R321). -/
def State.tooOld (s : State) (n : Nat) : Bool :=
  let tmo := s.fld (Reg.LPE_LnSUP1 n) 0 8
  tmo != 0 && decide (tmo * (s.fld (Reg.LPE_LnPERIOD n) 0 16 * 1024) < (s.chain32 - (s.point (s.fld (Reg.LPE_LnPV_PT n) 0 16)).stamp).toNat)

/-- The chainage of a loop's next sample after the present one. -/
def State.nextSample (s : State) (n : Nat) : Nat :=
  let p := s.fld (Reg.LPE_LnPERIOD n) 0 16 * 1024
  let st := s.fld (Reg.LPE_LnPERIOD n) 16 6 * 1024
  s.chain + 1 + (((st : Int) - (s.chain + 1 : Nat)) % (Nat.max 1 p : Nat)).toNat

end Sys2Proof.Machine
end

