-- ==== Sys2Proof/Machine/Lpe.lean ====
section
/-! DEFINITION. The commands of LPE: the loop sample, the operations of R330 and the registers with a meaning of their
own (R315, R316). -/

namespace Sys2Proof.Machine

/-- LOOP_SAMPLE: an enabled loop whose sample chainage is the present one samples, in run mode and with LAT_STATE.RUN =
1 (R308, R328). One whose feedback is about to be lost for its age waits for a write of PV in its SYS cycle (R321). -/
def execLoopSample (loop : Nat) (s : State) : Host.Outcome State Fault Refusal := s.powered fun s =>
  if loop < 96 ∧ s.mode = Mode.RUN ∧ s.en Blk.LPE ∧ !s.inSrst Blk.LPE ∧ s.flag Reg.LAT_STATE 3
      ∧ s.flag (Reg.LPE_LnCFG loop) 0 ∧ s.sampleDue loop ∧ !s.sup.pfail then
    (if s.tooOld loop then s.yielding (Rank.SAMPLE loop) (.loopSample loop) fun s => (s.sampleLoop loop).noteSlot
     else (s.sampleLoop loop).noteSlot)
  else s

/-- The refusal of a loop operation (R328, R330). -/
def State.loopRefusal (s : State) (x : Slot) (loop : Nat) : Option Nat :=
  if s.mode = Mode.MINIMAL then some St.FAIL_DENIED
  else if 95 < loop then some St.FAIL_INVALID
  else if x.ctx ≠ 0 ∧ x.ctx ≠ s.loopCtx loop then some St.FAIL_DENIED
  else none

/-- The chainage [31:0] of the sample at which a request takes effect; a loop with EN = 0 has none yet, and what RESULT
holds then is stated nowhere. -/
def State.effectAt (s : State) (loop : Nat) : Word × State :=
  if s.flag (Reg.LPE_LnCFG loop) 0 then (BitVec.ofNat 32 (s.nextSample loop), s)
  else (Config.freeWord s.free, s.nextFree)

/-- A mode request is recorded (R316); the sample of its own SYS cycle still goes by what stood before (R320). -/
def State.requestMode (s : State) (loop req : Nat) : State :=
  let x := s.loop loop
  let was := match x.asked with
    | some (c, r, m) => if c = s.clk then (r, m) else (s.fld (Reg.LPE_LnCTL loop) 0 2, x.newReq)
    | none => (s.fld (Reg.LPE_LnCTL loop) 0 2, x.newReq)
  (s.setFld (Reg.LPE_LnCTL loop) 0 2 req).setLoop loop { x with newReq := true, asked := some (s.clk, was) }

/-- LOOP_MODE (R330). -/
def execLoopMode (tag : Nat) (s : State) : Host.Outcome State Fault Refusal := s.powered fun s =>
  match s.activeOp tag Blk.LPE 1 with
  | none => s
  | some x =>
    let n := paramField x.param 0 1
    let m := paramField x.param 1 1
    match s.loopRefusal x n with
    | some st => (s.decideOp tag st 0)
    | none =>
      if 2 < m then (s.decideOp tag St.FAIL_INVALID 0)
      else if s.flag (Reg.LPE_LnCFG n) 2 then (s.decideOp tag St.FAIL_CONFLICT 0)
      else
        let s1 := if bitOf (paramField x.param 4 1) 0 then s.setFld (Reg.LPE_LnMAN n) 0 16 (paramField x.param 2 2) else s
        let (r, s2) := (s1.requestMode n m).effectAt n
        (s2.decideOp tag St.OK r)

/-- LOOP_TUNE: the gains and the filter are in force together from the next sample, behind one of its own SYS cycle (R330). -/
def execLoopTune (tag : Nat) (s : State) : Host.Outcome State Fault Refusal :=
  s.powered fun s => s.yielding Rank.TUNE (.loopTune tag) fun s =>
  match s.activeOp tag Blk.LPE 2 with
  | none => s
  | some x =>
    let n := paramField x.param 0 1
    match s.loopRefusal x n with
    | some st => (s.decideOp tag st 0)
    | none =>
      let old := s.reg (Reg.LPE_LnKP n)
      let g := fun (k : Nat) => paramField x.param k 4 % 2 ^ 20
      let s1 := ((s.setNum (Reg.LPE_LnKP n) (g 4)).setNum (Reg.LPE_LnKI n) (g 8)).setNum (Reg.LPE_LnKD n) (g 12)
      let s2 := s1.setNum (Reg.LPE_LnDFILT n) (paramField x.param 16 2)
      let s3 := if bitOf (paramField x.param 20 1) 0 then s2.setLoop n { s2.loop n with bump := some old } else s2
      let (r, s4) := s3.effectAt n
      (s4.decideOp tag St.OK r)

/-- The resource of a trace buffer (R65, R326). -/
def traceRes (b : Nat) : Nat := 0x5000 + b

/-- TRACE_ARM (R326, R327, R330): the buffer is claimed for the loop and armed; one LPE holds already is armed anew. -/
def execTraceArm (tag : Nat) (s : State) : Host.Outcome State Fault Refusal := s.powered fun s =>
  match s.activeOp tag Blk.LPE 3 with
  | none => s
  | some x =>
    let b := paramField x.param 0 1
    let n := paramField x.param 1 1
    let mask := paramField x.param 2 1
    let trig := paramField x.param 4 1
    let chs := (maskBits mask).length
    if s.mode = Mode.MINIMAL then (s.decideOp tag St.FAIL_DENIED 0)
    else if 7 < b ∨ 95 < n ∨ chs = 0 ∨ 4 < chs ∨ 5 < trig then (s.decideOp tag St.FAIL_INVALID 0)
    else if x.ctx ≠ 0 ∧ x.ctx ≠ s.loopCtx n then (s.decideOp tag St.FAIL_DENIED 0)
    else
      match (s.unclaim (traceRes b) Blk.LPE).claim ⟨traceRes b, Blk.LPE, 1, n⟩ with
      | .error w => (s.decideOp tag St.FAIL_CONFLICT w)
      | .ok s1 =>
        let dec := Nat.max 1 (paramField x.param 3 1)
        let s2 := s1.setNum (Reg.LPE_TRb_CFG b) (n + mask * 2 ^ 8 + dec * 2 ^ 16 + trig * 2 ^ 24 + 2 ^ 31)
        let s3 := s2.setNum (Reg.LPE_TRb_LEVEL b) (paramField x.param 6 2 + Nat.min 4095 (paramField x.param 8 2) * 2 ^ 16)
        let s4 := ((s3.setNum (Reg.LPE_TRb_STAT b) 0).setNum (Reg.LPE_TRb_TSTAMP b) 0).setTrace b ⟨0, paramField x.param 8 2, none⟩
        let (r, s5) := s4.effectAt n
        (s5.decideOp tag St.OK r)

/-- Stop and release a trace buffer (R326). -/
def State.releaseTrace (s : State) (b : Nat) : State :=
  ((s.unclaim (traceRes b) Blk.LPE).setFlag (Reg.LPE_TRb_CFG b) 31 false).setTrace b ⟨0, 0, none⟩

/-- TRACE_RELEASE (R330). -/
def execTraceRelease (tag : Nat) (s : State) : Host.Outcome State Fault Refusal := s.powered fun s =>
  match s.activeOp tag Blk.LPE 4 with
  | none => s
  | some x =>
    let b := paramField x.param 0 1
    let held := match s.claimOf (traceRes b) with
      | some c => c.block == Blk.LPE
      | none => false
    if s.mode = Mode.MINIMAL then (s.decideOp tag St.FAIL_DENIED 0)
    else if 7 < b ∨ !held then (s.decideOp tag St.FAIL_INVALID 0)
    else if x.ctx ≠ 0 ∧ x.ctx ≠ s.loopCtx (s.fld (Reg.LPE_TRb_CFG b) 0 7) then (s.decideOp tag St.FAIL_DENIED 0)
    else ((s.releaseTrace b).decideOp tag St.OK 0)

/-- A write of LnBQk_W0 latches the section's words for effect together at the next sample, whose state starts anew
(R315). -/
def State.writeBqW0 (s : State) (n k : Nat) (v : Word) : State :=
  let s1 := s.setReg (Reg.LPE_LnBQk_W0 n k) v
  let x := s1.loop n
  let all := (List.range 4).map (fun j => s1.coefs n j)
  let c := all.set k (v, s1.reg (Reg.LPE_LnBQk_W1 n k), s1.reg (Reg.LPE_LnBQk_W2 n k))
  s1.setLoop n { x with coef := c, bq := x.bq.set k none }

/-- The coefficients in force stay while a section's other words are written (R315). -/
def State.pinCoefs (s : State) (n : Nat) : State :=
  let x := s.loop n
  if x.coef = [] then s.setLoop n { x with coef := (List.range 4).map (fun j => s.coefs n j) } else s

/-- A loop whose EN is set enters anew (R308, R314, R315, R318). -/
def State.enterLoop (s : State) (n : Nat) : State :=
  s.setLoop n { s.loop n with entry := true, pvPrev := none, bq := [none, none, none, none] }

/-- A write of LnCTL: MODE_REQ 3 is refused, and a write while MODE_SRC = 1 is ignored (R316, R331). -/
def State.writeModeReq (s : State) (n : Nat) (v : Word) : State :=
  let m := v.toNat % 4
  if s.flag (Reg.LPE_LnCFG n) 2 then s
  else if m = 3 then s.reportErr Blk.LPE St.FAIL_INVALID (BitVec.ofNat 32 (0x1058 + 128 * n))
  else s.requestMode n m

/-- On a return from standby a loop in AUTO enters anew from its OUT point (R328). -/
def State.lpeResume (s : State) : State :=
  s.forN 96 fun a n => if (a.loop n).mode = LoopMode.AUTO then a.setLoop n { a.loop n with entry := true } else a

/-- LPE_STAT: loops enabled, in AUTO, HOLD and FALLBACK (R331). -/
def State.lpeStat (s : State) : Nat :=
  let cnt := fun (p : Nat → Bool) => ((List.range 96).filter p).length
  let md := fun (m n : Nat) => s.flag (Reg.LPE_LnCFG n) 0 && (s.loop n).mode == m
  cnt (fun n => s.flag (Reg.LPE_LnCFG n) 0) + cnt (md LoopMode.AUTO) * 2 ^ 8 + cnt (md LoopMode.HOLD) * 2 ^ 16
    + cnt (md LoopMode.FALLBACK) * 2 ^ 24

end Sys2Proof.Machine
end

