-- ==== Sys2Proof/Machine/Ntu.lean ====
section
/-! DEFINITION. NTU's servos, PTP messages and operations (R452 to R458, R461 to R463, R467), but for the pulse edges that
ask for a Survey. -/

namespace Sys2Proof.Machine

/-! ### Bases (R452 to R457) -/

/-- SOURCE of a base; TB2 is PTP, and in minimal mode TB3 runs FREE (R452, R465). -/
def State.tbSource (s : State) (n : Nat) : Nat :=
  if n = 3 ∧ s.mode = Mode.MINIMAL then 0 else s.fld (Reg.NTU_TBn_CFG n) 0 2

/-- Replace a base. -/
def State.setTb (s : State) (n : Nat) (b : TimeBase) : State := { s with tbs := s.tbs.set n b }

/-- A base's rate in 2^-16 ppm takes effect, within ±500 ppm (R454). -/
def State.setRate (s : State) (n : Nat) (r : Int) : State :=
  let r' := clampInt (-32768000) 32768000 r
  (s.setTb n { s.tb n with rate := r' }).setNum (Reg.NTU_TBn_RATE n) (unsigned 32 r')

/-- A pulse generator's next edge in ns on its base (R462). -/
def State.pgEdge (s : State) (g : Nat) : Int :=
  (tget (fun _ => 0) s.ntu.pgStart g + s.num (Reg.NTU_PGg_INDEX g) * s.num (Reg.NTU_PGg_PERIOD g) : Nat)

/-- INDEX takes a number of the next edge. It shows 32 bits; what it wraps is moved into the start (R463). -/
def State.setPgIndex (s : State) (g k : Nat) : State :=
  let st := tget (fun _ => 0) s.ntu.pgStart g + k / 2 ^ 32 * 2 ^ 32 * s.num (Reg.NTU_PGg_PERIOD g)
  { s.setNum (Reg.NTU_PGg_INDEX g) k with ntu := { s.ntu with pgStart := tput s.ntu.pgStart g st } }

/-- After a step forward the edges passed are skipped (R463). -/
def State.skipEdges (s : State) (n : Nat) : State :=
  s.forN 8 fun a g =>
    let cfg := Reg.NTU_PGg_CFG g
    if !a.flag cfg 0 ∨ a.fld cfg 1 2 ≠ n ∨ (a.tb n).total ≤ a.pgEdge g then a
    else
      let k := (((a.tb n).total - (tget (fun _ => 0) a.ntu.pgStart g : Nat)).toNat + a.num (Reg.NTU_PGg_PERIOD g) - 1)
        / Nat.max 1 (a.num (Reg.NTU_PGg_PERIOD g))
      (a.setPgIndex g k).raiseIrq Blk.NTU 6

/-- A base takes a value; TB3 that follows it goes with it (R457). -/
def State.placeTb (s : State) (n time : Nat) : State :=
  let s1 := s.setTb n { s.tb n with time := time }
  let s2 := if n ≠ 3 ∧ s1.tbSource 3 = 2 ∧ s1.fld (Reg.NTU_TBn_CFG 3) 2 2 = n then
      (s1.setTb 3 { s1.tb 3 with time := ((time : Int) + s1.ntu.tb3Off).toNat }).skipEdges 3
    else s1
  s2.skipEdges n

/-- A step of a base is counted (R454, R467). -/
def State.countStep (s : State) (n : Nat) : State :=
  (s.satInc (Reg.NTU_TBn_STEP_CNT n) 0 32 1).raiseIrq Blk.NTU 2

/-- A base is stepped by a number of ns. -/
def State.stepTb (s : State) (n : Nat) (ns : Int) : State :=
  (s.placeTb n (((s.tb n).time : Int) + ns * (nsUnit : Nat)).toNat).countStep n

/-- SYNC changes (R454, R455). -/
def State.setSync (s : State) (n : Nat) (on : Bool) : State :=
  if s.flag (Reg.NTU_TBn_STAT n) 1 = on then s
  else
    let s1 := (s.setFlag (Reg.NTU_TBn_STAT n) 1 on).raiseIrq Blk.NTU 1
    if on then s1.setFlag (Reg.NTU_TBn_STAT n) 0 true else s1

/-- The consecutive updates that enter and leave SYNC (R454). -/
def State.judgeSync (s : State) (n : Nat) (th : Int) : State :=
  let thr := s.fld (Reg.NTU_TBn_THR n) 0 16
  let a := th.natAbs
  let v := s.servo n
  let v1 := { v with inRun := if a < thr then v.inRun + 1 else 0, outRun := if 4 * thr < a then v.outRun + 1 else 0 }
  let s1 := s.putServo n v1
  if s1.flag (Reg.NTU_TBn_STAT n) 1 then (if 4 ≤ v1.outRun then s1.setSync n false else s1)
  else if 16 ≤ v1.inRun then s1.setSync n true
  else s1

/-- Whether an update steps the base (R454, R457): the first of a base not yet VALID, or the third in a row beyond
STEP_THR, with STEP_EN; TB2 of a worker at its first Sync of a life alone. -/
def State.stepsNow (s : State) (n : Nat) (th : Int) : Bool :=
  let v := s.servo n
  if n = 2 then !v.updated
  else if n = 1 ∨ !s.flag (Reg.NTU_TBn_CFG n) 5 then false
  else (!v.updated && !s.flag (Reg.NTU_TBn_STAT n) 0)
    || (decide (s.fld (Reg.NTU_TBn_THR n) 16 16 * 1000 < th.natAbs) && decide (2 ≤ v.stepRun))

/-- A servo update of a base with offset θ in ns, 2^k updates a second (R454). -/
def State.servoUpdate (s : State) (n : Nat) (th : Int) (k : Nat) : State :=
  let v := s.servo n
  let big := decide (s.fld (Reg.NTU_TBn_THR n) 16 16 * 1000 < th.natAbs)
  let step := s.stepsNow n th
  let s0 := s.setNum (Reg.NTU_TBn_OFFSET n) (unsigned 32 th)
  let v1 := { v with updated := true, stepRun := if step then 0 else if big then v.stepRun + 1 else 0 }
  if step then ((s0.putServo n v1).stepTb n (-th)).judgeSync n th
  else
    let i := v1.integ + (s.fld (Reg.NTU_TBn_SERVO n) 16 16 : Nat) * th
    let ppb2 := -(((s.fld (Reg.NTU_TBn_SERVO n) 0 16 : Nat) * th + i) * (2 ^ k : Nat))
    let s1 := ((s0.putServo n { v1 with integ := i }).setRate n (ppb2 * 2 / 1000)).judgeSync n th
    if s1.flag (Reg.NTU_TBn_STAT n) 1 then
      let v2 := s1.servo n
      let l := ((s1.clk, (s1.tb n).rate) :: v2.rates).filter (fun e => decide (s1.clk ≤ e.1 + 64 * secClk))
      s1.putServo n { v2 with rates := l }
    else s1

/-! ### Roles (R452, R458, R465) -/

/-- Whether a base is master on a port. -/
def State.ptpMaster (s : State) (n p : Nat) : Bool :=
  s.en Blk.NTU && !s.inSrst Blk.NTU && match n with
    | 0 => decide (p < 48) && s.flag (Reg.NTU_TBn_CFG 0) 4 && s.mode != Mode.MINIMAL && s.flag (Reg.FAB_PnCFG p) 0
    | 1 => decide (p < 48)
    | 2 => decide (48 ≤ p) && decide (p < 50) && s.isManager && s.sup.roleStrap != 0 && s.mode != Mode.MINIMAL
    | _ => false

/-- Whether a base takes Sync on a port as a slave: TB0 with SOURCE PTP from the master its BMCA chose, while that announces
itself (announceReceiptTimeout 3), TB2 off the acting manager. -/
def State.ptpSlave (s : State) (n p : Nat) : Bool :=
  s.en Blk.NTU && !s.inSrst Blk.NTU && decide (48 ≤ p) && decide (p < 50) && match n with
    | 0 => s.tbSource 0 == 1 && (match s.ntu.master with
        | some f => f.port == p && decide (s.clk ≤ f.clk + 3 * secClk)
        | none => false)
    | 2 => s.sup.roleStrap != 0 && !s.isManager && s.mode != Mode.MINIMAL
    | _ => false

/-! ### Receiving (R454, R455, R458) -/

/-- An accepted Sync: it ends holdover, and with its origin time gives the offset less the mean path delay. -/
def State.acceptSync (s : State) (n p : Nat) (t2 t1 : Int) : State :=
  let d := t2 - t1
  let st := Reg.NTU_TBn_STAT n
  let v := s.servo n
  let s1 := (s.putServo n { v with syncClk := some s.clk, sync := none, diff := d }).setFlag st 4 (p == 49)
  let s2 := s1.setFlag st 2 false
  s2.servoUpdate n (d - (s2.num (Reg.NTU_TBn_MPD n) : Nat)) (s2.logRate n)

/-- A time of seconds and ns. -/
def nsOf (sec ns : Nat) : Int := (sec * 1000000000 + ns : Nat)

/-- PTP_SYNC_RX: one-step at once; two-step waits for its Follow_Up (R454, R458). -/
def execPtpSyncRx (base port seq : Nat) (twoStep : Bool) (sec ns : Nat) (corr : Int) (s : State) :
    Host.Outcome State Fault Refusal := s.powered fun s =>
  if !s.ptpSlave base port then s
  else
    let t2 := s.rxTime port base
    if twoStep then (s.putServo base { s.servo base with sync := some (seq, t2 - corr) })
    else (s.acceptSync base port (t2 - corr) (nsOf sec ns))

/-- PTP_FOLLOW_UP_RX (R458). -/
def execPtpFollowUpRx (base port seq sec ns : Nat) (corr : Int) (s : State) : Host.Outcome State Fault Refusal := s.powered fun s =>
  if !s.ptpSlave base port then s
  else match (s.servo base).sync with
    | some (q, t2) => if q = seq then (s.acceptSync base port (t2 - corr) (nsOf sec ns)) else s
    | none => s

/-- PTP_DELAY_RESP_RX: half of both spans is the mean path delay (R454). -/
def execPtpDelayRespRx (base port seq sec ns : Nat) (corr : Int) (s : State) : Host.Outcome State Fault Refusal := s.powered fun s =>
  if !s.ptpSlave base port then s
  else match (s.servo base).delay with
    | some (q, t3) =>
      if q ≠ seq then s
      else
        let m := ((s.servo base).diff + (nsOf sec ns - corr - t3)) / 2
        ((s.putServo base { s.servo base with delay := none }).setNum (Reg.NTU_TBn_MPD base) m.toNat)
    | none => s

/-- PTP_DELAY_REQ_RX: as master the receipt time goes back in Delay_Resp (R458). -/
def execPtpDelayReqRx (base port seq sender : Nat) (s : State) : Host.Outcome State Fault Refusal := s.powered fun s =>
  if !s.ptpMaster base port then s
  else
    let t := s.rxTime port base
    (s.ptpSend base port 9 seq false (ptpTime t ++ beBytes 10 sender))

/-- Whether the first of two foreign masters is better: their data in order (R458). -/
def betterMaster : List Nat → List Nat → Bool
  | a :: x, b :: y => if a < b then true else if b < a then false else betterMaster x y
  | _, _ => false

/-- The best foreign master that announced twice and not more than three intervals ago (R458). -/
def State.bmca (s : State) : State :=
  let live := s.ntu.foreign.filter (fun f => decide (2 ≤ f.count) && decide (s.clk ≤ f.clk + 3 * secClk))
  let best := live.foldl (fun m f => match m with
    | some x => if betterMaster (f.data ++ [f.port]) (x.data ++ [x.port]) then some f else some x
    | none => some f) (none : Option Foreign)
  let s1 := { s with ntu := { s.ntu with master := best } }
  match best with
  | none => s1
  | some f =>
    let s2 := s1.setFlag (Reg.NTU_TBn_STAT 0) 4 (f.port == 49)
    if s2.num64 Reg.NTU_GM_ID_LO = f.gm then s2 else (s2.setNum64 Reg.NTU_GM_ID_LO f.gm).raiseIrq Blk.NTU 5

/-- PTP_ANNOUNCE_RX: feeds the BMCA of TB0 on the uplinks and NTU_UTC_OFFSET; TB1 and TB2 ignore it (R453, R458). -/
def execPtpAnnounceRx (base port : Nat) (data : List Nat) (gm : PtpGm) (utc : Nat) (utcValid : Bool) (s : State) :
    Host.Outcome State Fault Refusal := s.powered fun s =>
  if base ≠ 0 ∨ port < 48 ∨ 49 < port ∨ !s.en Blk.NTU ∨ s.inSrst Blk.NTU then s
  else
    let same := fun (f : Foreign) => f.port == port && f.data.getLast? == data.getLast?
    let n := match s.ntu.foreign.find? same with
      | some f => if s.clk ≤ f.clk + 4 * secClk then f.count + 1 else 1
      | none => 1
    let s1 := ({ s with ntu := { s.ntu with
        foreign := s.ntu.foreign.filter (fun f => !same f) ++ [Foreign.mk data gm.identity gm.source port n s.clk] } }).bmca
    let from_ : Bool := match s1.ntu.master with
      | some f => same f
      | none => false
    (if from_ ∧ utcValid then (s1.setFld Reg.NTU_UTC_OFFSET 0 16 utc).setFlag Reg.NTU_UTC_OFFSET 16 true else s1)

/-! ### Sending (R458, R461) -/

/-- The next sequence number of a base. -/
def State.nextSeq (s : State) (n : Nat) : Nat × State :=
  let q := ((s.servo n).txSeq + 1) % 65536
  (q, s.putServo n { s.servo n with txSeq := q })

/-- The key of a message that a base sends at intervals. -/
def ptpKey (base port msg : Nat) : Nat := (msg * 4 + base) * 64 + port

/-- Whether the interval since the last message of a kind has passed (R458). -/
def State.ptpDue (s : State) (base port msg wait : Nat) : Bool :=
  match tfind? s.ntu.sent (ptpKey base port msg) with
  | some c => decide (c + wait ≤ s.clk)
  | none => true

/-- Note the sending. -/
def State.ptpNote (s : State) (base port msg : Nat) : State :=
  { s with ntu := { s.ntu with sent := tput s.ntu.sent (ptpKey base port msg) s.clk } }

/-- PTP_SYNC_TX: a two-step Sync every logSyncInterval, its Follow_Up once it has left; without a free timestamp entry none is
sent (R458, R461). -/
def execPtpSyncTx (base port : Nat) (s : State) : Host.Outcome State Fault Refusal := s.powered fun s =>
  if !s.ptpMaster base port ∨ !s.portPasses port false ∨ !s.ptpDue base port 0 (secClk / 2 ^ s.logRate base) then s
  else if (s.takeTs port).isNone ∧ s.together then s.defer Rank.CLAIMED (.ptpSyncTx base port)
  else
    let (q, s1) := (s.ptpNote base port 0).nextSeq base
    let s2 := s1.setFlag (Reg.NTU_TBn_STAT base) 3 true
    match s2.takeTs port with
    | none => (s2.ptpSend base port 0 q false (ptpTime 0)).loseTs port
    | some s3 => s3.ptpSend base port 0 q true (ptpTime 0)

/-- PTP_DELAY_REQ_TX, every logMinDelayReqInterval, which equals logSyncInterval (R458, R461). -/
def execPtpDelayReqTx (base : Nat) (s : State) : Host.Outcome State Fault Refusal := s.powered fun s =>
  let port := 48 + s.fld (Reg.NTU_TBn_STAT base) 4 1
  if !s.ptpSlave base port ∨ !s.portPasses port false ∨ !s.ptpDue base port 1 (secClk / 2 ^ s.logRate base) then s
  else if (s.takeTs port).isNone ∧ s.together then s.defer Rank.CLAIMED (.ptpDelayReqTx base)
  else
    let (q, s1) := (s.ptpNote base port 1).nextSeq base
    let s2 := s1.putServo base { s1.servo base with delay := none }
    match s2.takeTs port with
    | none => (s2.ptpSend base port 1 q false (ptpTime 0)).loseTs port
    | some s3 => s3.ptpSend base port 1 q true (ptpTime 0)

/-- The data set that TB1 and TB2 announce (R458): priority1 128, clockClass 248; accuracy, variance and priority2 as IEEE
1588-2019 has them for a clock that states none, PRESUMED, log entry 204; timeSource INTERNAL_OSCILLATOR. -/
def ownDataset : List Nat × Nat := ([128, 248, 0xFE, 0xFFFF, 128, Config.uid.toNat, 0], 0xA0)

/-- PTP_ANNOUNCE_TX, every second: TB1 with its own data set, TB0 with the grandmaster's it received, TB2 as the acting
manager's base (R458). -/
def execPtpAnnounceTx (base port : Nat) (s : State) : Host.Outcome State Fault Refusal := s.powered fun s =>
  if !s.ptpMaster base port ∨ !s.portPasses port false ∨ !s.ptpDue base port 11 secClk then s
  else
    let (q, s1) := (s.ptpNote base port 11).nextSeq base
    let (data, source) := match base, s1.ntu.master with
      | 0, some f => (f.data.take 6 ++ [f.data.getD 6 0 + 1], f.source)
      | _, _ => ownDataset
    (s1.setFlag (Reg.NTU_TBn_STAT base) 3 true).ptpSend base port 11 q false
      (ptpTime 0 ++ beBytes 2 (s1.fld Reg.NTU_UTC_OFFSET 0 16) ++ beBytes 1 0 ++ linkBody [1, 1, 1, 2, 1, 8, 2] [] data ++ beBytes 1 source)

/-! ### Following and holdover (R454 to R457) -/

/-- FOLLOW_UPDATE, every 125 ms (R454, R456, R457): TB1 takes TB0's rate while TB0 is SYNC, at most 0.1 ppm per second; TB3
equals the base it follows plus its offset. -/
def execFollowUpdate (base : Nat) (s : State) : Host.Outcome State Fault Refusal := s.powered fun s0 =>
  let due := match tfind? s0.ntu.follow base with
    | some c => decide (c + 125 * msClk ≤ s0.clk)
    | none => true
  let s := { s0 with ntu := { s0.ntu with follow := tput s0.ntu.follow base s0.clk } }
  if s0.tbSource base ≠ 2 ∨ s0.inSrst Blk.NTU ∨ !due then s0
  else if base = 1 then
    if !s.flag (Reg.NTU_TBn_STAT 0) 1 then s
    else
      let r := (s.tb 1).rate
      (s.setRate 1 (r + clampInt (-819) 819 ((s.tb 0).rate - r)))
  else if base = 3 then
    let m := s.fld (Reg.NTU_TBn_CFG 3) 2 2
    let want := (((s.tb m).time : Int) + s.ntu.tb3Off).toNat
    let th := (((s.tb 3).time : Int) - (want : Int)) / (nsUnit : Nat)
    let s1 := ((s.setNum (Reg.NTU_TBn_OFFSET 3) (unsigned 32 th)).placeTb 3 want).setRate 3 (s.tb m).rate
    (s1.judgeSync 3 th)
  else s

/-- PTP_HOLDOVER: three Announce intervals without a Sync, one of the cycle of the expiry among them; the base runs at the
mean rate of its last 64 s in SYNC (R455). -/
def execPtpHoldover (base : Nat) (s : State) : Host.Outcome State Fault Refusal := s.powered fun s =>
  let v := s.servo base
  match v.syncClk with
  | none => s
  | some c =>
    if s.tbSource base ≠ 1 ∨ s.flag (Reg.NTU_TBn_STAT base) 2 ∨ s.clk < c + 3 * secClk then s
    else s.yielding Rank.EXPIRY (.ptpHoldover base) fun s =>
      let l := v.rates.map (·.2)
      let s1 := if l = [] then s else s.setRate base (l.foldl (· + ·) 0 / (l.length : Nat))
      let s2 := (s1.putServo base { v with inRun := 0, outRun := 0, sync := none }).setSync base false
      ((s2.setFlag (Reg.NTU_TBn_STAT base) 2 true).raiseIrq Blk.NTU 3)

/-! ### Operations (R467) -/

/-- Whether TB_SET and TB_ADJ are refused for a base: TB1, TB2, and TB0 with SOURCE PTP while SYNC. -/
def State.tbLocked (s : State) (n : Nat) : Bool :=
  n == 1 || n == 2 || (n == 0 && s.tbSource 0 == 1 && s.flag (Reg.NTU_TBn_STAT 0) 1)

/-- TB_SET (R457, R467). -/
def execTbSet (tag : Nat) (s : State) : Host.Outcome State Fault Refusal := s.powered fun s =>
  match s.activeOp tag Blk.NTU 1 with
  | none => s
  | some x =>
    let n := paramField x.param 0 1
    let time := (paramField x.param 8 8 * 1000000000 + paramField x.param 16 4) * nsUnit
    if 3 < n then (s.decideOp tag St.FAIL_INVALID 0)
    else if s.tbLocked n then (s.decideOp tag St.FAIL_DENIED 0)
    else
      let s1 := if n = 3 ∧ s.tbSource 3 = 2 then
          { s with ntu := { s.ntu with tb3Off := (time : Int) - ((s.tb (s.fld (Reg.NTU_TBn_CFG 3) 2 2)).time : Int) } }
        else s
      (((((s1.placeTb n time).setFlag (Reg.NTU_TBn_STAT n) 0 true).countStep n)).decideOp tag St.OK 0)

/-- The TB_ADJ of a base whose operation is open. -/
def State.adjOf (s : State) (n : Nat) : Option TbAdj :=
  s.ntu.adj.find? (fun a => a.base == n && (s.slot a.tag).st == .active && (s.slot a.tag).ord == a.ord)

/-- A slew ends: its rate is taken off. -/
def State.endAdj (s : State) (a : TbAdj) : State :=
  let s1 := { s with ntu := { s.ntu with adj := s.ntu.adj.filter (fun y => y != a) } }
  s1.setRate a.base ((s1.tb a.base).rate - a.add)

/-- Slews whose operation has ended otherwise stop. -/
def State.dropAdj (s : State) : State :=
  (s.ntu.adj.filter (fun a => !((s.slot a.tag).st == .active && (s.slot a.tag).ord == a.ord))).foldl State.endAdj s

/-- TB_ADJ: a slew at 500 ppm starts (R467). -/
def execTbAdj (tag : Nat) (s : State) : Host.Outcome State Fault Refusal := s.powered fun s =>
  match s.activeOp tag Blk.NTU 2 with
  | none => s
  | some x =>
    let n := paramField x.param 0 1
    let d := signed 32 (paramField x.param 4 4)
    if s.ntu.adj.any (fun a => a.tag == tag && a.ord == x.ord) then s
    else if 3 < n then (s.decideOp tag St.FAIL_INVALID 0)
    else if s.tbLocked n then (s.decideOp tag St.FAIL_DENIED 0)
    else if (s.adjOf n).isSome then (s.decideOp tag St.FAIL_CONFLICT 0)
    else if d = 0 then (s.decideOp tag St.OK 0)
    else
      let s0 := s.dropAdj
      let old := (s0.tb n).rate
      let s1 := s0.setRate n (old + (if d < 0 then -32768000 else 32768000))
      let a : TbAdj := ⟨tag, x.ord, n, s.clk + d.natAbs * 1600, (s1.tb n).rate - old⟩
      { s1 with ntu := { s1.ntu with adj := s1.ntu.adj ++ [a] } }

/-- TB_ADJ_COMPLETE (R467). -/
def execTbAdjComplete (tag : Nat) (s : State) : Host.Outcome State Fault Refusal := s.powered fun s =>
  match s.ntu.adj.find? (fun a => a.tag == tag) with
  | none => s
  | some a =>
    if s.clk < a.endClk ∨ (s.slot tag).ord ≠ a.ord then s else ((s.endAdj a).decideOp tag St.OK 0)

/-- The resources of a pulse generator: itself, and its pad (R462). -/
def pgResources (g target : Nat) : List Nat := (0x3000 + g) :: (if target < 4 then [0x1000 + target] else [])

/-- Claim several resources together, or none (R68, R462). -/
def State.claimAll (s : State) (l : List Claim) : Except Word State :=
  match l with
  | [] => .ok s
  | c :: r => match s.claim c with
    | .error w => .error w
    | .ok s1 => s1.claimAll r

/-- NTU_PG_ENABLE (R462, R463, R467): the edges count from the first after the enable. -/
def execNtuPgEnable (tag : Nat) (s : State) : Host.Outcome State Fault Refusal := s.powered fun s =>
  s.yielding (Rank.CLAIM Blk.NTU 1) (.ntuPgEnable tag) fun s =>
  match s.activeOp tag Blk.NTU 3 with
  | none => s
  | some x =>
    let f := fun (i n : Nat) => paramField x.param i n
    let g := f 0 1
    let n := f 1 1
    let target := f 2 1
    let start := f 8 8 * 1000000000 + f 16 4
    let per := f 20 4
    if 7 < g ∨ 3 < n ∨ (3 < target ∧ target ≠ 0xFF) ∨ per < 100 ∨ per ≤ f 24 4 ∨ s.flag (Reg.NTU_PGg_CFG g) 0 then
      (s.decideOp tag St.FAIL_INVALID 0)
    else if s.mode = Mode.MINIMAL then (s.decideOp tag St.FAIL_DENIED 0)
    else match s.claimAll ((pgResources g target).map (fun r => ⟨r, Blk.NTU, 1, g⟩)) with
      | .error w => (s.decideOp tag St.FAIL_CONFLICT w)
      | .ok s1 =>
        let now := (s1.tb n).total.toNat
        let k := if now < start then 0 else (now - start) / per + 1
        let cfg := 1 + n * 2 + (target % 16) * 16 + f 3 1 % 2 * 256
        let s2 := (((s1.setNum (Reg.NTU_PGg_CFG g) cfg).setNum (Reg.NTU_PGg_START_SEC g) (f 8 4)).setNum
          (Reg.NTU_PGg_START_NS g) (f 16 4)).setNum (Reg.NTU_PGg_PERIOD g) per
        let s3 := s2.setNum (Reg.NTU_PGg_WIDTH g) (f 24 4)
        let s4 := { s3 with ntu := { s3.ntu with pgStart := tput s3.ntu.pgStart g start } }
        ((s4.setPgIndex g k).decideOp tag St.OK 0)

/-- A pulse generator stops and its claims are released. -/
def State.stopNtuPg (s : State) (g : Nat) : State :=
  let t := s.fld (Reg.NTU_PGg_CFG g) 4 4
  if !s.flag (Reg.NTU_PGg_CFG g) 0 then s
  else (pgResources g (if t = 15 then 0xFF else t)).foldl (fun a r => a.unclaim r Blk.NTU) (s.setFlag (Reg.NTU_PGg_CFG g) 0 false)

/-- NTU_PG_DISABLE (R467). -/
def execNtuPgDisable (tag : Nat) (s : State) : Host.Outcome State Fault Refusal := s.powered fun s =>
  match s.activeOp tag Blk.NTU 4 with
  | none => s
  | some x =>
    let g := paramField x.param 0 1
    if 7 < g ∨ !s.flag (Reg.NTU_PGg_CFG g) 0 then (s.decideOp tag St.FAIL_INVALID 0)
    else ((s.stopNtuPg g).decideOp tag St.OK 0)

end Sys2Proof.Machine
end

