-- ==== Sys2Proof/Machine/RtcCore.lean ====
section
/-! DEFINITION. The RTC's own functions: the calendar's checks and roll-over, setting it, the shadows (R521 to R529). -/

namespace Sys2Proof.Machine

/-! RTC_STAT bits (R535). -/
namespace RtcBit
abbrev OSF : Nat := 0
abbrev DATE_INVALID : Nat := 1
abbrev STALE : Nat := 2
abbrev FROZEN : Nat := 3
abbrev VBAT_LOW : Nat := 4
end RtcBit

/-- A bit of RTC_STAT. -/
def State.rtcBit (s : State) (i : Nat) : Bool := s.flag Reg.RTC_STAT i

/-- RTC_CTL.HALT (R524). -/
def State.rtcHalt (s : State) : Bool := s.flag Reg.RTC_CTL 0

/-- Change the RTC. -/
def State.setRtc (s : State) (r : Rtc) : State := { s with rtc := r }

/-- An interrupt of the RTC; while the module is held in reset it signals nothing (R531). -/
def State.rtcIrq (s : State) (bit : Nat) : State := if s.sup.inReset then s else s.raiseIrq Blk.RTC bit

/-- A possible date (R521, R522, R524). -/
def Cal.possible (c : Cal) : Bool :=
  decide (c.sec < 60) && decide (c.min < 60) && decide (c.hour < 24) && decide (1 ≤ c.month) && decide (c.month ≤ 12)
    && decide (2000 ≤ c.year) && decide (c.year ≤ 2999) && decide (1 ≤ c.day) && decide (c.day ≤ monthDays c.year c.month)

/-- The next second, carried through every field (R522). -/
def Cal.next (c : Cal) : Cal :=
  if c.sec < 59 then { c with sec := c.sec + 1 }
  else if c.min < 59 then { c with sec := 0, min := c.min + 1 }
  else if c.hour < 23 then { c with sec := 0, min := 0, hour := c.hour + 1 }
  else if c.day < monthDays c.year c.month then { c with sec := 0, min := 0, hour := 0, day := c.day + 1 }
  else if c.month < 12 then { c with sec := 0, min := 0, hour := 0, day := 1, month := c.month + 1 }
  else ⟨0, 0, 0, 1, 1, c.year + 1⟩

/-- The last second that the calendar holds (R522). -/
def Cal.last : Cal := ⟨59, 59, 23, 31, 12, 2999⟩

/-- A calendar's time in 1/32,768 s since 1970, with the prescaler's count. -/
def rtcTicks (c : Cal) (count : Nat) : Int := (calSeconds c * 32768 + count % 32768 : Nat)

/-- Whether a roll-over of the second is still to come in the present cycle (R524, R526). -/
def State.rollsNow (s : State) : Bool :=
  !s.rtcHalt && s.pending.any fun c => match c with
    | .rtcSecond => true
    | _ => false

/-- HALT sets and keeps the calendar (R522). -/
def State.holdRtc (s : State) : State := (s.setRtc { s.rtc with pend := some s.rtc.cal }).setFlag Reg.RTC_CTL 0 true

/-- A second rolls over (R522). -/
def State.rollRtc (s : State) : State :=
  if s.rtc.cal = Cal.last then (s.holdRtc.setFlag Reg.RTC_STAT RtcBit.DATE_INVALID true).rtcIrq 4
  else (s.setRtc { s.rtc with cal := s.rtc.cal.next, presc := 0 }).rtcIrq 2

/-- HALT sets: the prescaler and the calendar stop, the pending copy starts as the counting values; a roll-over of the same
cycle is completed first (R524). -/
def State.haltRtc (s : State) : State := if s.rollsNow then s.rollRtc.holdRtc else s.holdRtc

/-- A measurement window of R528 starts with the reference's present count: the chainage's cycles or TB0's seconds. -/
def State.startTrim (s : State) : State :=
  s.setRtc { s.rtc with window := match s.fld Reg.RTC_CFG 0 2 with
    | 1 => some (1, s.chain / 65536)
    | 2 => some (2, (s.tb 0).sec)
    | _ => none }

/-- Whether the measurement window has its length: 86,400 nominal seconds of the mains, or 1,024 s of TB0 (R528). -/
def State.trimDue (s : State) : Bool :=
  match s.rtc.window with
  | some (1, c) => decide (c + 86400 * s.nominalHz ≤ s.chain / 65536)
  | some (_, t) => decide (t + 1024 ≤ (s.tb 0).sec)
  | none => false

/-- The calendar takes a value and runs from there: the prescaler restarts, HALT, OSF and DATE_INVALID clear (R524, R525);
the wake counter restarts with a clear of HALT and else counts on across the setting (R531). -/
def State.setCal (s : State) (c : Cal) (count : Nat) : State :=
  let wake := if s.rtcHalt then rtcTicks c 0 else s.rtc.wakeAt + (rtcTicks c 0 - rtcTicks s.rtc.cal count)
  (((s.setRtc { s.rtc with cal := c, presc := 0, pend := none, wakeAt := wake }).setFlag Reg.RTC_CTL 0 false).setFlag Reg.RTC_STAT
    RtcBit.OSF false).setFlag Reg.RTC_STAT RtcBit.DATE_INVALID false

/-- A clear of HALT checks the pending copy as a whole (R524). -/
def State.unhaltRtc (s : State) : State :=
  match s.rtc.pend with
  | none => s
  | some c =>
    if c.possible then s.setCal c 0
    else ((s.setRtc { s.rtc with pend := some s.rtc.cal }).setFlag Reg.RTC_STAT RtcBit.DATE_INVALID true).rtcIrq 4

/-- The calendar as its registers show it: the frozen shadows, the pending copy under HALT, else the counting values;
with SUBSEC (R524, R526). -/
def State.calShown (s : State) : Cal × Nat :=
  match s.rtc.shadow, s.rtc.pend with
  | some (c, n, _), _ => (c, n)
  | none, some c => (c, s.rtc.presc)
  | none, none => (s.rtc.cal, s.rtc.presc)

/-- The calendar register at an offset, if it is one: SUBSEC, SEC, MIN, HOUR, DAY, MONTH, YEAR (R534). -/
def calField (c : Cal) (subsec off : Nat) : Option Nat :=
  if off = Reg.RTC_SUBSEC then some subsec
  else if off = Reg.RTC_SEC then some c.sec
  else if off = Reg.RTC_MIN then some c.min
  else if off = Reg.RTC_HOUR then some c.hour
  else if off = Reg.RTC_DAY then some c.day
  else if off = Reg.RTC_MONTH then some c.month
  else if off = Reg.RTC_YEAR then some c.year
  else none

/-- The first read of a calendar register while the shadows are released freezes all seven together, after a roll-over of
the same cycle; `count` is the prescaler's count at that moment (R526). -/
def State.freezeCal (s : State) (count : Nat) : State :=
  match s.rtc.shadow with
  | some _ => s
  | none =>
    let s1 := if s.rtcHalt then s else s.setRtc { s.rtc with presc := count % 32768 }
    let v := if s.rollsNow then (if s.rtc.cal = Cal.last then (Cal.last, s1.rtc.presc) else (s.rtc.cal.next, 0)) else s1.calShown
    (s1.setRtc { s1.rtc with shadow := some (v.1, v.2, s1.clk) }).setFlag Reg.RTC_STAT RtcBit.FROZEN true

/-- The shadows are released (R526, R533). -/
def State.releaseCal (s : State) : State :=
  (s.setRtc { s.rtc with shadow := none }).setFlag Reg.RTC_STAT RtcBit.FROZEN false

/-- A read of a calendar register: it may freeze the shadows, and a read of YEAR releases them (R526). -/
def State.readCal (s : State) (off count : Nat) : Word × State :=
  let s1 := s.freezeCal count
  let v := (calField s1.calShown.1 s1.calShown.2 off).getD 0
  (BitVec.ofNat 32 v, if off = Reg.RTC_YEAR then s1.releaseCal else s1)

/-- A write of a calendar register goes to the pending copy; it is refused while HALT = 0 (R524). -/
def State.writeCal (s : State) (off v : Nat) : State :=
  match s.rtc.pend with
  | none => s.reportErr Blk.RTC St.FAIL_DENIED (BitVec.ofNat 32 (off % 0x40000))
  | some c =>
    let c1 :=
      if off = Reg.RTC_SEC then { c with sec := v % 64 }
      else if off = Reg.RTC_MIN then { c with min := v % 64 }
      else if off = Reg.RTC_HOUR then { c with hour := v % 32 }
      else if off = Reg.RTC_DAY then { c with day := v % 32 }
      else if off = Reg.RTC_MONTH then { c with month := v % 16 }
      else if off = Reg.RTC_YEAR then { c with year := v % 4096 }
      else c
    s.setRtc { s.rtc with pend := some c1 }

/-- RTC_TRIM as a number: −256 reads as −255 (R534). -/
def State.trim (s : State) : Int := Max.max (-255) (signed 9 (s.fld Reg.RTC_TRIM 0 9))

/-- Set RTC_TRIM within its range (R527). -/
def State.setTrim (s : State) (x : Int) : State := s.setFld Reg.RTC_TRIM 0 9 (unsigned 9 (clampInt (-255) 255 x))

end Sys2Proof.Machine
end

