-- ==== Sys2Proof/Machine/HostView.lean ====
section
/-! DEFINITION. What every register of BAR0 shows at this moment, without the side effects of a read: most stand in
`regs`, the others are computed from the block's own state. -/

namespace Sys2Proof.Machine

/-- The instance whose register of a group is at `off`: the group's offsets as a function of the instance, and how many
there are. -/
def regIdx (f : Nat → Nat) (n off : Nat) : Option Nat :=
  let b := f 0
  let st := f 1 - f 0
  if b ≤ off ∧ (off - b) % st = 0 ∧ (off - b) / st < n then some ((off - b) / st) else none

/-- Word `w` of a number. -/
def wordOf (x w : Nat) : Nat := x / 2 ^ (32 * w) % 2 ^ 32

/-! ### Page 0 (R36, R39) -/

/-- Whether a block is the serving block of an operation whose slot is not FREE (R39). -/
def State.blockBusy (s : State) (b : Nat) : Bool := s.openTags.any (fun t => (s.slot t).block == b)

/-- The lasting conditions among a block's interrupt sources; a source that is a moment reads 0 (R36, R40). -/
def State.rawBit (s : State) (b i : Nat) : Bool :=
  if i = 0 then s.fld (Reg.ERR_CODE b) 0 8 != 0
  else match b with
    | 0x01 => if i ≤ 3 then s.flag Reg.SUP_SUPPLY_STAT i else i == 4 && s.flag Reg.SUP_SUPPLY_STAT 8
    | 0x02 => (i == 1 && (List.range 8).any (fun q => s.flag (Reg.HIF_CQn_STAT q) 0))
        || (i == 2 && (List.range 8).any (fun n => s.flag (Reg.HIF_SQn_STAT n) 0))
    | 0x03 => (i == 1 && decide (s.hostLimit ≤ s.openCount)) || (i == 2 && s.openCount == 512)
        || (i == 3 && !s.opt.lost.isEmpty)
    | 0x06 => (i == 3 && s.rtcBit 0) || (i == 4 && s.rtcBit 1) || (i == 5 && s.rtcBit 2) || (i == 7 && s.rtcBit 4)
    | 0x08 => (i == 5 && (s.flag Reg.PSE_GSTAT 2 || s.flag Reg.PSE_GSTAT 3)) || (i == 6 && s.fld Reg.PSE_DIE_STAT 12 12 != 0)
    | 0x09 => (i == 1 && s.fld Reg.ARB_STATE 0 4 != 0) || (i == 4 && s.flag Reg.ARB_STATE 4)
    | 0x0E => i == 3 && (s.flag Reg.STO_STAT 1 || s.flag Reg.STO_STAT 2)
    | 0x0F => (i == 5 && s.flag Reg.HLK_STAT 11) || (i == 7 && s.flag Reg.HLK_STAT 22)
    | 0x10 => i == 7 && (List.range 4).any s.eventMode
    | 0x11 => (i == 1 && s.flag Reg.DIO_STAT 1) || (i == 2 && s.flag Reg.DIO_STAT 2) || (i == 6 && s.flag Reg.DIO_STAT 4)
        || (i == 7 && s.flag Reg.DIO_STAT 3)
    | 0x13 => i == 5 && (List.range 256).any (fun c => s.flag (Reg.TEN_CTXc_STAT c) 2)
    | _ => false

/-- IRQ_RAW of a block. -/
def State.irqRaw (s : State) (b : Nat) : Nat :=
  (List.range 11).foldl (fun n i => if s.rawBit b i then n + 2 ^ i else n) 0

/-! ### Block registers that are views -/

/-- ms since reset release, until the confirmation stops it (R586). -/
def State.startMs (s : State) : Nat :=
  if s.sup.inReset then 0 else if s.confirmed then s.num Reg.SUP_START_TIME else (s.clk - s.sup.releaseClk) / msClk

/-- A claim table entry: word 0 or 1 (R69). -/
def State.claimWord (s : State) (w : Nat) : Nat :=
  match s.claims[w / 2]? with
  | none => 0
  | some c => if w % 2 = 0 then c.resource % 2 ^ 16 + 2 ^ 31 else c.block % 2 ^ 8 + c.func % 2 ^ 8 * 2 ^ 8 + c.inst % 2 ^ 16 * 2 ^ 16

/-- A start record as its 256 bits (R580). -/
def StartRec.bits (r : StartRec) : Nat :=
  r.start % 2 ^ 32 + r.cycles % 2 ^ 64 * 2 ^ 32 + r.rtcSec % 2 ^ 32 * 2 ^ 96 + r.endCode % 2 ^ 8 * 2 ^ 128
    + r.reason % 2 ^ 8 * 2 ^ 136 + r.count % 2 ^ 8 * 2 ^ 144 + r.flags % 2 ^ 8 * 2 ^ 152 + r.detail.toNat * 2 ^ 160
    + r.detail2.toNat * 2 ^ 192 + r.confirmMs % 2 ^ 32 * 2 ^ 224

/-- SUP's views (R69, R580, R586). -/
def State.viewSup (s : State) (off : Nat) : Nat :=
  if off = Reg.SUP_START_TIME then s.startMs
  else if off = Reg.SUP_SUPPLY_STAT then
    s.num off + (if s.flag Reg.DIO_STAT 0 then 16 else 0) + (if s.flag Reg.PSE_GSTAT 0 then 32 else 0)
      + (if s.rtcBit RtcBit.VBAT_LOW then 64 else 0)
  else match regIdx Reg.SUP_CLAIM 512 off, regIdx Reg.SUP_HIST 256 off with
    | some w, _ => s.claimWord w
    | _, some w => match s.sup.nv.records[w / 8]? with
      | some r => wordOf r.bits (w % 8)
      | none => 0
    | _, _ => s.num off

/-- Completions held for a queue (R61, R63). -/
def State.heldCount (s : State) (q : Nat) : Nat :=
  Nat.min 511 (s.opt.decided.filter (fun t => s.routeOf (s.slot t) == q)).length

/-- The dwords of the PCIe configuration header that the spec gives, by byte offset (R29, R45): the identifiers, the class
code above a revision of 0, the BAR registers, the Interrupt Pin (log entry 197). -/
def State.pciHeader (s : State) (off : Nat) : Option Word :=
  if off = 0x00 then some (BitVec.ofNat 32 (Config.vendorId.toNat + 0x0F48 * 2 ^ 16))
  else if off = 0x08 then some 0x08800000
  else if off = 0x10 then some s.hif.cfg.bar0
  else if off = 0x14 then some s.hif.cfg.bar1
  else if 0x18 ≤ off ∧ off ≤ 0x24 ∧ off % 4 = 0 then some 0
  else if off = 0x3C then some 0
  else none

/-- What a write of a base address register leaves in it (R29): BAR0's low bits are fixed by its size of 32 MiB. -/
def PcieCfg.writeBar (c : PcieCfg) (off : Nat) (v : Word) : PcieCfg :=
  if off = 0x10 then { c with bar0 := (v &&& 0xFE000000) ||| 4 } else if off = 0x14 then { c with bar1 := v } else c

/-- The BAR Indicator Registers of the MSI-X table and of its Pending Bit Array (R46). -/
def msixBir : Nat × Nat := (0, 0)

/-- HIF's views (R63). -/
def State.viewHif (s : State) (off : Nat) : Nat :=
  if off = Reg.HIF_PCI_ID then Config.vendorId.toNat + 0x0F48 * 2 ^ 16
  else if off = Reg.HIF_LINK_STAT then s.num off + (if s.hif.waiting.any (fun w => w.words.isSome) then 2 ^ 9 else 0)
  else match regIdx Reg.HIF_CQn_STAT 8 off with
    | some q => s.num off % 2 + s.heldCount q * 2
    | none => s.num off

/-- The code of a slot's state (R98). -/
def SlotSt.code (x : SlotSt) : Nat :=
  match x with
  | .free => 0
  | .active => 1
  | .decided => 2

/-- OPT's views (R98). -/
def State.viewOpt (s : State) (off : Nat) : Nat :=
  if off = Reg.OPT_INFLIGHT then s.openCount + s.hostOpenCount * 2 ^ 16
  else match regIdx Reg.OPT_TAGt_W0 512 off, regIdx Reg.OPT_TAGt_W1 512 off with
    | some t, _ => let x := s.slot t; x.st.code + x.gen * 2 ^ 2 + x.block % 2 ^ 8 * 2 ^ 16 + x.opcode % 2 ^ 8 * 2 ^ 24
    | _, some t => let x := s.slot t; if x.fromHost then x.cookie.toNat else 0
    | _, _ => s.num off

/-- LAT's views (R110, R113, R131); CHAN reads 7 while no usable image is in force (R132). -/
def State.viewLat (s : State) (off : Nat) : Nat :=
  if off = Reg.LAT_CHAIN_LO then wordOf s.chain 0
  else if off = Reg.LAT_CHAIN_HI then wordOf s.chain 1
  else if off = Reg.LAT_STATE then s.latWord
  else if off = Reg.LAT_SLEW then unsigned 32 s.slewLeft
  else if off = Reg.LAT_REF_CFG ∧ !s.sup.imgOk then putBits (s.num off) 0 3 7
  else match regIdx Reg.LAT_STAKE 32768 off with
    | some w => wordOf (s.stake (w / 8)).bits (w % 8)
    | none => s.num off

/-- ms since the last accepted Sync of a base, saturating (R471). -/
def State.syncAge (s : State) (n : Nat) : Nat :=
  match (s.servo n).syncClk with
  | some c => Nat.min 0xFFFF ((s.clk - c) / msClk)
  | none => 0

/-- NTU's views (R471). -/
def State.viewNtu (s : State) (off : Nat) : Nat :=
  match regIdx Reg.NTU_TBn_STAT 4 off, regIdx Reg.NTU_TBn_SEC_LO 4 off, regIdx Reg.NTU_TBn_SEC_HI 4 off with
  | some n, _, _ => s.num off % 2 ^ 16 + s.syncAge n * 2 ^ 16
  | _, some n, _ => wordOf (s.tb n).sec 0
  | _, _, some n => wordOf (s.tb n).sec 1
  | _, _, _ => match regIdx Reg.NTU_TBn_NS 4 off, regIdx Reg.NTU_TBn_FRAC 4 off with
    | some n, _ => (s.tb n).ns
    | _, some n => (s.tb n).frac
    | _, _ => s.num off

/-- The RTC's views: the calendar, the backup RAM's bytes 0 to 7 and TRIM_RUN (R526, R528, R534, R578). -/
def State.viewRtc (s : State) (off : Nat) : Nat :=
  match calField s.calShown.1 s.calShown.2 off with
  | some v => v
  | none =>
    let src := s.fld Reg.RTC_CFG 0 2
    if off = Reg.RTC_STAT then s.num off + (if s.rtc.window.isSome then 2 ^ 5 else 0)
    else if off = Reg.RTC_CFG then s.num off - (if src = 3 then 3 else 0)
    else if off = Reg.RTC_TRIM then unsigned 9 s.trim
    else if off = Reg.RTC_BKP 0 then leNat (s.counterBytes.take 4)
    else if off = Reg.RTC_BKP 1 then leNat (s.counterBytes.drop 4)
    else s.num off

/-- The block behind an internal endpoint, LCP, HLK or NTU (R436). -/
def endpointBlock (e : Nat) : Nat :=
  match e with
  | 0 => Blk.LCP
  | 1 => Blk.HLK
  | _ => Blk.NTU

/-- FAB's views: the seconds of a block that remain; EN of endpoints 0 to 2 is their block's (R446, R468, R470). -/
def State.viewFab (s : State) (off : Nat) : Nat :=
  match regIdx Reg.FAB_PnSTAT 50 off, regIdx Reg.FAB_EPe_CFG 3 off with
  | some p, _ => match tfind? s.fab.blockClk p with
    | some c => s.num off % 2 ^ 16 + (s.fld off 16 16 - (s.clk - c) / secClk) * 2 ^ 16
    | none => s.num off
  | _, some e => putBits (s.num off) 0 1 (if s.en (endpointBlock e) then 1 else 0)
  | _, _ => s.num off

/-- The words of a reservation view entry (R200). -/
def State.resvWord (s : State) (i w : Nat) : Nat :=
  match tfind? s.arb.resv i with
  | none => 0
  | some r => match w with
    | 0 => r.index % 2 ^ 12 + r.gen % 2 ^ 16 * 2 ^ 16
    | 1 => r.ch % 2 ^ 32
    | 2 => r.held % 2 ^ 32
    | _ => (if r.unheld = 0 then 1 else 2) + r.pool % 2 * 4 + r.unheld % 2 ^ 28 * 16

/-- A pool's quantities as its registers show them (R168, R197): EFF, GRANTED, RESERVED, DRAW and FREE. -/
def State.poolView (s : State) (q : Nat) : List (Nat × Nat) :=
  [(Reg.ARB_PLq_EFF q, s.eff q), (Reg.ARB_PLq_GRANTED q, s.granted q), (Reg.ARB_PLq_RESERVED q, s.reserved q),
   (Reg.ARB_PLq_DRAW q, s.draw q), (Reg.ARB_PLq_FREE q, s.freePool q)]

/-- ARB's views (R193, R197, R200): POLICY_DOWN while service core 1 restarts. -/
def State.viewArb (s : State) (off : Nat) : Nat :=
  match regIdx (Reg.ARB_RESV 0) 4096 off with
  | some w => s.resvWord (w / 4) (w % 4)
  | none =>
    if off = Reg.ARB_STATE then putBits (s.num off) 7 1 (if s.arb.coreDown ∧ s.sup.wdt1 ≠ [] then 1 else 0)
    else if off = Reg.ARB_RESV_USED then s.arb.resv.length
    else if off = Reg.ARB_CAPPED then s.arb.caps.length
    else match (s.poolView 0 ++ s.poolView 1).find? (fun e => e.1 == off) with
      | some e => e.2 % 2 ^ 32
      | none => s.num off

/-- The scene or header word that LCP_SC_SEL selects (R235). -/
def State.sceneData (s : State) : Nat :=
  let x := Reg.LCP_SC_SEL
  if s.flag x 31 then s.sceneHeader (s.fld x 0 8) (s.fld x 12 6)
  else s.sceneWord (s.fld x 0 10) (s.fld x 10 2) (s.fld x 12 6)

/-- LCP's views. -/
def State.viewLcp (s : State) (off : Nat) : Nat := if off = Reg.LCP_SC_DATA then s.sceneData else s.num off

/-- SCN's views: a task's open tracked writes and stake edits (R301). -/
def State.viewScn (s : State) (off : Nat) : Nat :=
  match regIdx Reg.SCN_TnOPEN 16 off with
  | some t => (s.scn.opens.filter (fun o => o.task == t && o.outcome.isNone)).length
  | none => s.num off

/-- EMU's views: the map of context 0 and the pulse rates (R344, R348). -/
def State.viewEmu (s : State) (off : Nat) : Nat :=
  if off = Reg.EMU_TMAPc_W0 0 then s.mapWord 0 0
  else if off = Reg.EMU_TMAPc_W1 0 then s.mapWord 0 1
  else if off = Reg.EMU_TMAPc_W2 0 then s.mapWord 0 2
  else match regIdx Reg.EMU_PIiRATE 16 off with
    | some i => (s.piRate i).toNat
    | none => s.num off

/-- Object operations that a BARRIER holds (R378, R396). -/
def State.barredCount (s : State) : Nat :=
  (s.openTags.filter (fun t => (s.slot t).st == .active && (s.slot t).block == Blk.STO && objectOp (s.slot t).opcode
    && s.barred t)).length

/-- STO's views (R396). -/
def State.viewSto (s : State) (off : Nat) : Nat :=
  if off = Reg.STO_OPEN then (s.openTags.filter (fun t => (s.slot t).block == Blk.STO)).length + s.barredCount * 2 ^ 16
  else if off = Reg.STO_MAPJ_USE then (Config.mapJournalFill s.clk).val
  else match (List.range 16).find? (fun k => off == Reg.STO_CHc_LUNl_ID_LO (k / 8) (k % 8)
      || off == Reg.STO_CHc_LUNl_ID_HI (k / 8) (k % 8)) with
    | some k =>
      if s.fld (Reg.STO_CHc_LUNl_STAT (k / 8) (k % 8)) 0 2 = 0 then 0
      else wordOf (Config.jedecId (k / 8) (k % 8)).toNat (if off = Reg.STO_CHc_LUNl_ID_LO (k / 8) (k % 8) then 0 else 1)
    | none => s.num off

/-- HLK's views: ms since a member's last heartbeat, saturating (R433). -/
def State.viewHlk (s : State) (off : Nat) : Nat :=
  match regIdx Reg.HLK_MBm_AGE 64 off with
  | some m => (match (s.peer m).hbClk with
    | some c => Nat.min 0xFFFF ((s.clk - c) / msClk)
    | none => 0xFFFF) + s.fld off 16 16 * 2 ^ 16
  | none => s.num off

/-- FBC's views: FALLBACK of a channel, cycles since a node's last input frame (R498). -/
def State.viewFbc (s : State) (off : Nat) : Nat :=
  match regIdx Reg.FBC_CHc_STAT 4 off, (List.range 128).find? (fun k => off == Reg.FBC_NDn_STAT (k / 32) (k % 32)) with
  | some c, _ => putBits (s.num off) 4 1 (if s.onBus c && s.eventMode c then 1 else 0)
  | _, some k =>
    if s.fld off 0 2 = 0 then s.num off
    else s.num off % 2 ^ 16 + Nat.min 0xFFFF ((s.chain - (s.canNode (k / 32) (k % 32)).inCh) / 65536) * 2 ^ 16
  | _, _ => s.num off

/-- DIO's views: RETRIES of a channel (R520). -/
def State.viewDio (s : State) (off : Nat) : Nat :=
  match regIdx Reg.DIO_CHcSTAT 24 off with
  | some c => putBits (s.num off) 16 2 (Nat.min 3 (s.shortRetries c).length)
  | none => s.num off

/-- KEY's views: the fixed and derived words (R561). -/
def State.viewKey (s : State) (off : Nat) : Nat :=
  if off = Reg.KEY_UID_LO then wordOf Config.uid.toNat 0
  else if off = Reg.KEY_UID_HI then wordOf Config.uid.toNat 1
  else match regIdx Reg.KEY_DEVPUB 16 off with
    | some w => if s.flag Reg.KEY_LC 24 then wordOf (Config.devPub (derivedKey s.key.otpEpoch 0)).toNat (15 - w) else 0
    | none => s.num off

/-- TEN's views: seconds left in a session; context 0 has only EN, which reads 1 (R563, R564). -/
def State.viewTen (s : State) (off : Nat) : Nat :=
  if off = Reg.TEN_CTXc_CFG 0 then 1
  else match regIdx Reg.TEN_CTXc_SESS_LEFT 256 off with
    | some c => (match tfind? s.ten.sessionEnd c with
      | some e => (e - s.clk + 799999999) / 800000000
      | none => 0)
    | none => s.num off

/-! ### Every register -/

/-- What the register at `off` shows before any masking. -/
def State.viewNum (s : State) (off : Nat) : Nat :=
  let b := off / 0x40000
  let o := off % 0x40000
  if o = 0x00C then s.num off % 2 + (if s.blockBusy b then 2 else 0) + s.fld off 2 2 * 4
  else if o = 0x010 then s.irqRaw b
  else if o < 0x100 then s.num off
  else match b with
    | 0x01 => s.viewSup off
    | 0x02 => s.viewHif off
    | 0x03 => s.viewOpt off
    | 0x04 => s.viewLat off
    | 0x05 => s.viewNtu off
    | 0x06 => s.viewRtc off
    | 0x07 => s.viewFab off
    | 0x09 => s.viewArb off
    | 0x0A => s.viewLcp off
    | 0x0B => s.viewScn off
    | 0x0C => if off = Reg.LPE_STAT then s.lpeStat else s.num off
    | 0x0D => s.viewEmu off
    | 0x0E => s.viewSto off
    | 0x0F => s.viewHlk off
    | 0x10 => s.viewFbc off
    | 0x11 => s.viewDio off
    | 0x12 => s.viewKey off
    | 0x13 => s.viewTen off
    | _ => s.num off

/-- What the register at `off` shows. -/
def State.view (s : State) (off : Nat) : Word := BitVec.ofNat 32 (s.viewNum off)

/-! ### Masked reads (R552) -/

/-- The instance of one of some register groups at `off`. -/
def anyIdx (l : List (Nat → Nat)) (n off : Nat) : Option Nat := l.findSome? (fun f => regIdx f n off)

/-- The context and the mask bit under which a read of the register at `off` returns 0 (R552, R564). -/
def State.maskOf (s : State) (off : Nat) : Option (Nat × Nat) :=
  match off / 0x40000 with
  | 0x08 => match anyIdx [Reg.PSE_PnE_LO, Reg.PSE_PnE_HI] 48 off,
      anyIdx [Reg.PSE_PnV, Reg.PSE_PnIA, Reg.PSE_PnIB, Reg.PSE_PnPWR, Reg.PSE_PnPMAX, Reg.PSE_SNAP_PnPWR] 48 off with
    | some p, _ => some (s.portCtx p, 2)
    | _, some p => some (s.portCtx p, 3)
    | _, _ => none
  | 0x0A => match regIdx Reg.LCP_LnPOWER 768 off, anyIdx [Reg.LCP_LnTARGET, Reg.LCP_LnLEVEL, Reg.LCP_LnPROG] 768 off with
    | some e, _ => some (s.lumCtx e, 3)
    | _, some e => some (s.lumCtx e, 5)
    | _, _ => none
  | 0x0D => (anyIdx [Reg.EMU_PIiCNT_LO, Reg.EMU_PIiCNT_HI, Reg.EMU_PIiRATE, Reg.EMU_PIiLAST] 16 off).map
      (fun i => (s.pulseCtx i, 4))
  | 0x11 => (regIdx Reg.DIO_PIiSTAT 16 off).map (fun i => (s.pulseCtx i, 4))
  | _ => none

/-- Whether a read of the register at `off` is masked (R552). -/
def State.masked (s : State) (off : Nat) : Bool :=
  match s.maskOf off with
  | some (c, bit) => c != 0 && s.flag (Reg.TEN_CTXc_CFG c) bit
  | none => false

end Sys2Proof.Machine
end

