-- ==== Sys2Proof/Machine/Survey.lean ====
section
/-! DEFINITION. Survey (R44, R581 to R585): its sources, the latch of every enabled block's snapshot window, the
interval timers, and the pulse generators of NTU (R462). -/

namespace Sys2Proof.Machine

/-! Survey sources (R581). -/
namespace Srv
abbrev HOST : Nat := 0
abbrev STAKE : Nat := 1
abbrev NTU_PG : Nat := 2
abbrev RTC_WAKE : Nat := 3
abbrev GT : Nat := 4
end Srv

/-- Blocks whose snapshot lies in SYS and latches in the cycle of the edge (R18, R582). -/
def surveySys : List Nat := [Blk.SUP, Blk.OPT, Blk.LAT, Blk.ARB, Blk.LCP, Blk.SCN, Blk.LPE, Blk.HLK, Blk.KEY, Blk.TEN]

/-- Blocks of other domains with the bound of their skew in ns (R18). -/
def surveyOther : List (Nat × Nat) :=
  [(Blk.HIF, 8), (Blk.NTU, 8), (Blk.RTC, 61040), (Blk.FAB, 4), (Blk.PSE, 40), (Blk.EMU, 122), (Blk.STO, 10), (Blk.FBC, 25),
   (Blk.DIO, 25)]

/-- CTRL.SURVEY_EN of a block (R37). -/
def State.surveyEn (s : State) (b : Nat) : Bool := s.flag (Reg.CTRL b) 2

/-- How many of `n` instances satisfy a test. -/
def countN (n : Nat) (p : Nat → Bool) : Nat := ((List.range n).filter p).length

/-- LPE's snapshot words: modes and SAT (R331). -/
def State.lpeSnap (s : State) : List Nat :=
  let md := fun (m : Nat) => countN 96 (fun n => s.flag (Reg.LPE_LnCFG n) 0 && (s.loop n).mode == m)
  [md LoopMode.AUTO + md LoopMode.HOLD * 2 ^ 8 + md LoopMode.FALLBACK * 2 ^ 16 + md LoopMode.TRACK * 2 ^ 24,
   countN 96 (fun n => s.flag (Reg.LPE_LnSTATE n) 11)]

/-- The RTC's snapshot words (R534). -/
def State.rtcSnap (s : State) : List Nat :=
  let c := s.rtc.cal
  [c.day + c.month * 2 ^ 8 + c.year * 2 ^ 16, c.sec + c.min * 2 ^ 8 + c.hour * 2 ^ 16, s.rtc.presc]

/-- What a block's snapshot window holds from 054h on (R131, R164, R197, R235, R301, R331, R361, R396, R433, R468, R471,
R498, R518, R534, R561, R563, R586). HIF and OPT have no words of their own. -/
def State.snapWords (s : State) (b : Nat) : List Nat :=
  match b with
  | 0x01 => [s.num Reg.SUP_VMAIN, s.num Reg.SUP_TEMP, s.num Reg.SUP_MODE]
  | 0x04 => [s.latWord, s.num Reg.LAT_PHASE_ERR, s.num Reg.LAT_STK_USED, s.num Reg.LAT_TBL_GEN]
  | 0x05 => [(s.tb 1).sec, (s.tb 1).ns, (s.tb 2).sec, (s.tb 2).ns, (s.tb 3).sec, (s.tb 3).ns]
  | 0x06 => s.rtcSnap
  | 0x07 => [s.num Reg.FAB_BUF_USED, s.num Reg.FAB_LINK_LO, s.num Reg.FAB_LINK_HI]
  | 0x08 => [s.num Reg.PSE_TOTAL_PWR, s.num Reg.PSE_VPSE, s.num Reg.PSE_PWRON_LO, s.num Reg.PSE_PWRON_HI]
  | 0x09 => [s.granted 0, s.draw 0, s.eff 0, s.granted 1, s.draw 1, s.num Reg.ARB_M1_DC]
  | 0x0A => [s.fld Reg.LCP_STAT 0 10, s.fld Reg.LCP_OPEN 0 10,
      ((List.range 768).map (fun e => s.num (Reg.LCP_LnPOWER e))).foldl (· + ·) 0]
  | 0x0B => [s.num Reg.SCN_CLEAN_CNT, s.num Reg.SCN_LANE_STAT, s.num Reg.SCN_BANK]
  | 0x0C => s.lpeSnap
  | 0x0D => s.emuSnap
  | 0x0E => [s.num (Reg.STO_PLq_FREE 0), s.num (Reg.STO_PLq_FREE 1), s.viewNum Reg.STO_OPEN, s.num Reg.STO_UNREP]
  | 0x0F => [countN 64 s.memberUp, s.unitsHere, s.num Reg.HLK_TERM]
  | 0x10 => [(List.range 4).foldl (fun n c => n + countN 32 (fun k => s.fld (Reg.FBC_NDn_STAT c k) 0 2 == 2) * 2 ^ (8 * c)) 0,
      (List.range 4).foldl (fun n c => n + s.viewNum (Reg.FBC_CHc_STAT c) % 16 * 2 ^ (4 * c)) 0]
  | 0x11 => [s.num Reg.DIO_IN, s.num Reg.DIO_OUT, s.num Reg.DIO_VFIELD]
  | 0x12 => [s.num Reg.KEY_LC]
  | 0x13 => [s.fld Reg.TEN_SESSIONS 0 9]
  | _ => []

/-- The snapshot tables beyond page 0: port power (R164), loop outputs (R331). -/
def State.snapTables (s : State) (b : Nat) : State :=
  match b with
  | 0x08 => s.forN 48 (fun a p => a.setNum (Reg.PSE_SNAP_PnPWR p) (a.num (Reg.PSE_PnPWR p)))
  | 0x0C => s.forN 96 (fun a n =>
      a.setNum (Reg.LPE_SNAP_LnOUT n) (a.fld (Reg.LPE_LnOUT n) 0 16 + a.fld (Reg.LPE_LnPV n) 0 16 * 2 ^ 16))
  | _ => s

/-- One block latches its window: SNAP_SEQ with the skew, the common chainage and TB0, its own words, SNAP_VALID
(R582). -/
def State.latchSnap (s : State) (b skew : Nat) : State :=
  let s1 := (s.setNum (Reg.SNAP_SEQ b) (s.fld Reg.SUP_SURVEY_STAT 0 16 + skew * 2 ^ 16)).setNum64 (Reg.SNAP_CHAINAGE_LO b)
    s.sup.surveyCh
  let s2 := (s1.setNum (Reg.SNAP_TB0_SEC b) s.sup.surveySec).setNum (Reg.SNAP_TB0_NS b) s.sup.surveyNs
  let s3 := (s2.snapWords b).zipIdx.foldl (fun a (e : Nat × Nat) => a.setNum (Reg.SNAP_DATA b e.2) e.1) s2
  let s4 := if b = Blk.EMU then { s3 with emu := { s3.emu with snapAt := s3.sup.surveyClk } } else s3
  (s4.snapTables b).setFlag (Reg.STAT b) 3 true

/-- The Survey completes: the delay of the last latch shows, SURVEY_DONE sets, HOLD keeps it (R582, R583). -/
def State.surveyEnd (s : State) (lat : Nat) : State :=
  let s0 := { s with sup := { s.sup with surveyEndClk := some s.clk } }
  let s1 := (s0.setFlag Reg.SUP_SURVEY_STAT 16 false).setNum Reg.SUP_SURVEY_LAT lat
  let s2 := if s.flag Reg.SUP_SURVEY_CFG 8 then s1.setFlag Reg.SUP_SURVEY_STAT 17 true else s1
  s2.raiseIrq Blk.SUP 5

/-- The Survey edge (R582): SEQ, the record of chainage and TB0, BUSY; every enabled block clears SNAP_VALID and the SYS
blocks latch at once. With none of the others enabled it completes in that cycle. -/
def State.surveyEdge (s : State) (src : Nat) : State :=
  let sq := s.fld Reg.SUP_SURVEY_STAT 0 16 + 1
  let s1 := ((s.setFld Reg.SUP_SURVEY_STAT 0 16 sq).setFlag Reg.SUP_SURVEY_STAT 16 true).setFld Reg.SUP_SURVEY_STAT 18 5
    (2 ^ src)
  let tb := s.tb 0
  let s2 := { s1 with sup := { s1.sup with
    surveyCh := s.chain, surveySec := tb.sec, surveyNs := tb.ns, surveyClk := some s.clk } }
  let s3 := (surveySys ++ surveyOther.map (·.1)).foldl
    (fun a b => if a.surveyEn b then a.setFlag (Reg.STAT b) 3 false else a) s2
  let s4 := surveySys.foldl (fun a b => if a.surveyEn b then a.latchSnap b 0 else a) s3
  if surveyOther.any (fun e => s4.surveyEn e.1) then s4 else s4.surveyEnd 0

/-- A request that raises no Survey is counted (R581, R582). -/
def State.surveyMissed (s : State) : State := s.satInc Reg.SUP_SURVEY_OVR_CNT 0 32 1

/-- A Survey request of a source (R581 to R583), and whether a Survey was raised for it. Another request in the SYS cycle of
the edge joins that Survey; a request under BUSY or HELD, or in the cycle in which BUSY clears, is refused; one from a source
that is not enabled is ignored. -/
def State.surveyRequest (s : State) (src : Nat) : Bool × State :=
  if s.sup.inReset then (false, s)
  else if !s.flag Reg.SUP_SURVEY_CFG src then (false, s.surveyMissed)
  else if s.sup.surveyClk = some s.clk then
    (true, s.setFlag Reg.SUP_SURVEY_STAT (18 + src) true)
  else if s.flag Reg.SUP_SURVEY_STAT 16 ∨ s.flag Reg.SUP_SURVEY_STAT 17 ∨ s.sup.surveyEndClk = some s.clk then (false, s.surveyMissed.raiseIrq Blk.SUP 6)
  else (true, s.surveyEdge src)

/-- SURVEY_DONE (R582): the enabled blocks of other domains have latched, each on its own next edge. `skews` gives their
delays in ns in the order HIF, NTU, RTC, FAB, PSE, EMU, STO, FBC, DIO, held to the bounds of R18; `count` the RTC
prescaler's count at its latch. Without BUSY nothing happens. -/
def execSurveyDone (skews : List Nat) (count : Nat) (s : State) : Host.Outcome State Fault Refusal := s.powered fun s =>
  if !s.flag Reg.SUP_SURVEY_STAT 16 then s
  else
    let s0 := if s.rtcHalt then s else s.setRtc { s.rtc with presc := count % 32768 }
    let l := surveyOther.zipIdx.map (fun (e : (Nat × Nat) × Nat) => (e.1.1, Nat.min e.1.2 (skews.getD e.2 0)))
    let on := l.filter (fun (e : Nat × Nat) => s0.surveyEn e.1)
    let s1 := on.foldl (fun a (e : Nat × Nat) => a.latchSnap e.1 e.2) s0
    let s2 := { s1 with sup := { s1.sup with surveyClk := none } }
    (s2.surveyEnd (on.foldl (fun m (e : Nat × Nat) => Nat.max m e.2) 0))

/-- SURVEY (R585): the operation raises a HOST Survey; RESULT is its SEQ. -/
def execSurvey (tag : Nat) (s : State) : Host.Outcome State Fault Refusal := s.powered fun s =>
  match s.activeOp tag Blk.SUP 3 with
  | none => s
  | some _ =>
    let r := s.surveyRequest Srv.HOST
    if r.1 then (r.2.decideOp tag St.OK (BitVec.ofNat 32 (r.2.fld Reg.SUP_SURVEY_STAT 0 16)))
    else (r.2.decideOp tag St.FAIL_CONFLICT 0)

/-- PERIOD of an interval timer in SYS cycles of 1.25 ns (R584). -/
def State.gtPeriod (s : State) (n : Nat) : Nat := 800 * s.num (Reg.SUP_GTn_PERIOD n)

/-- The clock at which an interval timer was started or last fired. -/
def State.gtSince (s : State) (n : Nat) : Nat := tget (fun _ => 0) s.sup.gtClk n

/-- Set that clock. -/
def State.setGtSince (s : State) (n c : Nat) : State :=
  { s with sup := { s.sup with gtClk := tset (fun _ => 0) s.sup.gtClk n c } }

/-- GT_FIRE: the period of an interval timer has ended; the firing is counted whether or not a Survey is raised (R584). -/
def execGtFire (timer : Nat) (s : State) : Host.Outcome State Fault Refusal := s.powered fun s =>
  let next := s.gtSince timer + s.gtPeriod timer
  if 15 < timer ∨ !s.flag (Reg.SUP_GTn_CFG timer) 0 ∨ s.clk < next then s
  else (((s.setGtSince timer next).wrapInc (Reg.SUP_GTn_CNT timer) 1).surveyRequest Srv.GT).2

/-- An interval timer stops and its claim is released (R584). -/
def State.stopTimer (s : State) (n : Nat) : State :=
  (((s.setGtSince n 0).setNum (Reg.SUP_GTn_CFG n) 0).setNum (Reg.SUP_GTn_PERIOD n) 0).unclaim (0x6000 + n) Blk.SUP

/-- TIMER_SET (R584, R585): a timer that runs already keeps its claim and takes the new period. -/
def execTimerSet (tag : Nat) (s : State) : Host.Outcome State Fault Refusal := s.powered fun s =>
  s.yielding (Rank.CLAIM Blk.SUP 3) (.timerSet tag) fun s =>
  match s.activeOp tag Blk.SUP 4 with
  | none => s
  | some x =>
    let n := paramField x.param 0 1
    let per := paramField x.param 4 4
    let run := fun (a : State) => (((a.setGtSince n a.clk).setNum (Reg.SUP_GTn_CFG n) 1).setNum (Reg.SUP_GTn_PERIOD n) per).decideOp tag St.OK 0
    if 15 < n ∨ (1 ≤ per ∧ per ≤ 9) then (s.decideOp tag St.FAIL_INVALID 0)
    else if per = 0 then
      ((if s.flag (Reg.SUP_GTn_CFG n) 0 then s.stopTimer n else s).decideOp tag St.OK 0)
    else if s.flag (Reg.SUP_GTn_CFG n) 0 then (run s)
    else match s.claim ⟨0x6000 + n, Blk.SUP, 3, n⟩ with
      | .error w => (s.decideOp tag St.FAIL_CONFLICT w)
      | .ok s1 => (run s1)

/-- NTU_PG_EDGE (R462, R463): the time of a generator's next edge has come on its base. A pad is driven for WIDTH, POL
inverting it; without a pad the edge is offered as a Survey request. -/
def execNtuPgEdge (g : Nat) (s : State) : Host.Outcome State Fault Refusal := s.powered fun s =>
  let cfg := Reg.NTU_PGg_CFG g
  if 7 < g ∨ !s.flag cfg 0 ∨ (s.tb (s.fld cfg 1 2)).total < s.pgEdge g then s
  else
    let s1 := s.setPgIndex g (s.num (Reg.NTU_PGg_INDEX g) + 1)
    let pad := s.fld cfg 4 4
    if pad ≤ 3 then (s1.emit (.padPulse (0x1000 + pad) (s.num (Reg.NTU_PGg_WIDTH g)) (!s.flag cfg 8)))
    else (s1.surveyRequest Srv.NTU_PG).2

end Sys2Proof.Machine
end

