-- ==== Sys2Proof/Machine/LatFire.lean ====
section
/-! DEFINITION. The firing of stakes and the acknowledgement of their actions (R114, R121 to R126), and the ZX_OUT pulse
(R128). -/

namespace Sys2Proof.Machine

/-- Whether a stake waits for a tag (R73). -/
def State.stakeWaits (s : State) (i : Nat) : Bool :=
  s.opt.tagWait.any (fun w => match w with
    | .stake j => j == i
    | _ => false)

/-- The stake that fires next: valid, not waiting for a tag, lowest chainage, then lowest index (R121). -/
def State.dueStake (s : State) : Option (Nat × Stake) :=
  (s.validStakes.filter (fun e => !s.stakeWaits e.1)).foldl (fun m e =>
    match m with
    | none => some e
    | some b => if fireBefore e b then some e else some b) none

/-- Whether the engine fires: RUN = 1, LAT enabled and not in soft reset, not in minimal mode (R121, R129, R130). -/
def State.firesOpen (s : State) : Bool :=
  s.flag Reg.LAT_STATE 3 && s.en Blk.LAT && !s.inSrst Blk.LAT && s.mode != Mode.MINIMAL && !s.sup.pfail

/-- Whether a stake's action is aimed at SCN, LPE or a DIO output, which standby denies (R27): a task start, an output, the
command point of an output or a point that an enabled loop reads. -/
def State.aimedDown (s : State) (k : Stake) : Bool :=
  let b := s.fld Reg.DIO_PT_BASE 0 16
  match k.action with
  | 1 => (b != 0xFFFF && decide (b ≤ k.target) && decide (k.target < b + 96) && (k.target - b) % 4 == 1)
      || (List.range 96).any (fun n => s.flag (Reg.LPE_LnCFG n) 0
          && [Reg.LPE_LnPV_PT n, Reg.LPE_LnIO_PT n, Reg.LPE_LnTRK_PT n, Reg.LPE_LnMODE_PT n].any (fun r =>
            s.fld r 0 16 == k.target || s.fld r 16 16 == k.target))
  | 3 => true
  | 5 => true
  | _ => false

/-- The end of a firing operation; an OK_LATE outcome is counted with its lateness in au (R122, R131). -/
def State.endFiring (s : State) (t status : Nat) (r : Word) (late : Nat) : State :=
  let s0 := { s with lat := { s.lat with firings := s.lat.firings.filter (fun f => f.tag != t) } }
  let s1 := if status = St.OK_LATE then
      let a := (s0.satInc Reg.LAT_LATE_CNT 0 32 1).raiseIrq Blk.LAT 5
      if a.num Reg.LAT_MAX_LATE < late then a.setNum Reg.LAT_MAX_LATE (Nat.min late (2 ^ 32 - 1)) else a
    else s0
  s1.decideOp t status r

/-- The firing waits for the acknowledgement of its action. -/
def State.awaitAck (s : State) (f : Firing) : State := { s with lat := { s.lat with firings := s.lat.firings ++ [f] } }

/-- A DIO_SET firing's command; what its reservation holds is granted at once, or released where the channel asks for nothing
(R114, R178, R179). -/
def State.fireDio (s : State) (c : Nat) (v : Bool) (t : Nat) : State :=
  let s1 := s.dioCommand c v (some t)
  if !(s1.chan c).asking then s1.dropTarget 1 c
  else if s1.fieldMa c ≤ (s1.chan c).grant + s1.heldTarget 1 c then s1.decideField c
  else s1

/-- Carry out a firing's action as its owner would (R114): the status where it is known, and the state. MARK completes at
once; with no group points the recall goes to LCP directly. A port switched off is cut behind what coincides with it
(R147, R161). -/
def State.fireAction (s : State) (i : Nat) (k : Stake) (t : Nat) : Option Nat × State :=
  let mark := some (i, k.gen, k.chainage.toNat)
  let gp := s.fld Reg.LCP_GRP_BASE 0 16 + 4 * k.target
  match k.action with
  | 1 => (none, s.writePointBy Blk.LAT k.target k.arg Q.GOOD none mark true k.ctx)
  | 2 =>
    let sc := bitsOf k.arg.toNat 0 6
    let lead := bitsOf k.arg.toNat 8 16
    if s.fld Reg.LCP_GRP_BASE 0 16 = 0xFFFF then (none, s.recall k.target sc lead 2 k.ctx mark s.chain)
    else (none, s.writePointBy Blk.LAT gp (BitVec.ofNat 64 sc) Q.GOOD (some lead) mark true k.ctx)
  | 3 => (none, s.fireDio k.target (bitOf k.arg.toNat 0) t)
  | 4 =>
    if !bitOf k.arg.toNat 0 then
      (none, s.yielding (Rank.CUT 11) (.portCommand k.target) fun a => a.cutPort k.target Off.COMMAND PortSt.DETECT)
    else
      let s1 := (s.enablePort k.target).coverPort k.target
      (if s1.portSt k.target = PortSt.DENIED then some St.FAIL_BUDGET else none, s1)
  | 5 => let (st, s1) := s.eventStart k.target; (if st = St.OK then none else some st, s1)
  | 6 => let (ok, s1) := s.surveyRequest Srv.STAKE; (if ok then none else some St.FAIL_CONFLICT, s1)
  | _ => (some St.OK, s)

/-- One stake fires as the operation of tag `t` (R121 to R125; DESIGN CHOICE, log entry 190: one set before RUN whose chainage
passes before RUN sets fires late under every policy): ARB takes up its reservation, the checks are applied again,
the action is carried out, and the stake moves past the occurrence. A stake pushed more than 1 µs past its chainage is
late. -/
def State.fireStake (s : State) (i : Nat) (k : Stake) (t : Nat) : State :=
  let ref := k.fireAt
  let late := k.pastDue || decide (800 * s.lat.rate < s.lat.pos - ref * 2 ^ 32)
  let last := (k.after s.chain).isNone
  let lag := if late then s.chain - ref else 0
  let r := fireResult i k.rolledTo.isSome last lag
  let okSt := if late then St.OK_LATE else St.OK
  let s1 := if k.rolledTo.isSome then s.takeFeed.satInc Reg.LAT_ROLLED_CNT 0 32 1 else s.takeFeed
  let may := s1.stakeAllowed k.owner k.ctx k && !(s1.mode == Mode.STANDBY && s1.aimedDown k)
  let need := if may then (match s1.stakeNeed k true with
    | some (_, n) => n
    | none => 0) else 0
  let s2 := s1.applyResv i k.gen k.chainage.toNat need
  let s3 :=
    if !may then
      let s' := if s2.ctxMayTarget k.ctx k then s2 else s2.countDenied k.ctx
      s'.endFiring t St.FAIL_DENIED r lag
    else match s2.fireAction i k t with
      | (none, a) => a.awaitAck ⟨t, k.action, k.target, k.arg, okSt, r, lag, false⟩
      | (some st, a) => a.endFiring t (if st = St.OK then okSt else st) r lag
  s3.spendStake i s.chain

/-- STAKE_FIRE: the next stake whose chainage is reached fires as one internal operation; without a free tag it waits
(R73, R121). -/
def execStakeFire (s : State) : Host.Outcome State Fault Refusal := s.powered fun s =>
  if !s.firesOpen then s
  else match s.dueStake with
    | none => s
    | some (i, k) =>
      if s.chain < k.fireAt then s
      else match s.beginInternal Blk.LAT Blk.LAT k.action k.ctx s.stakeTimeout 0 with
        | none => (s.holdForTag (.stake i))
        | some (t, s1) => (s1.fireStake i k t)

/-- What the block that serves a firing's action reports, if it does yet (R114). -/
def State.ackOf (s : State) (f : Firing) : Option Nat :=
  match f.action with
  | 3 =>
    if (s.chan f.target).waiters.contains f.tag ∧ !s.dioHeld f.target then none
    else some (if f.refused then St.FAIL_BUDGET else f.okStatus)
  | 4 =>
    let st := s.portSt f.target
    if !bitOf f.arg.toNat 0 then some f.okStatus
    else if st = PortSt.STAGGER ∨ st = PortSt.INRUSH ∨ st = PortSt.POWERED then some f.okStatus
    else if st = PortSt.DENIED then some St.FAIL_BUDGET
    else if st = PortSt.GRANT_WAIT then none
    else some f.okStatus
  | _ => some f.okStatus

/-- STAKE_ACTION_ACK: the acknowledgement of a firing's action completes it (R114, R122). -/
def execStakeActionAck (tag : Nat) (s : State) : Host.Outcome State Fault Refusal := s.powered fun s =>
  match s.lat.firings.find? (fun f => f.tag == tag) with
  | none => s
  | some f => match s.ackOf f with
    | none => s
    | some st =>
      let s1 := if f.action = 3 then s.setChan f.target { s.chan f.target with
          waiters := (s.chan f.target).waiters.filter (· != tag) }
        else s
      (s1.endFiring tag st f.result f.late)

/-- LAT's claim of the ZX_OUT pad at the setting of EN; a refusal leaves the pad alone (R68, R128). -/
def State.claimZxOut (s : State) : State :=
  if !s.flag Reg.LAT_ZXOUT 16 ∨ s.flag Reg.LAT_STATE 6 then s
  else match s.claim ⟨0x1003, Blk.LAT, 2, 0⟩ with
    | .ok s1 => s1.setFlag Reg.LAT_STATE 6 true
    | .error w => s.reportErr Blk.LAT St.FAIL_CONFLICT w

/-- LAT releases the ZX_OUT pad (R66, R129). -/
def State.releaseZxOut (s : State) : State := (s.unclaim 0x1003 Blk.LAT).setFlag Reg.LAT_STATE 6 false

/-- ZX_OUT_PULSE: the counter stands at LAT_ZXOUT.ANGLE, or with HALF at its opposite: a pulse of WIDTH · 10 µs (R128, R131).
DESIGN CHOICE (log entry 191): a WIDTH of 0 is taken as 1. -/
def execZxOutPulse (s : State) : Host.Outcome State Fault Refusal := s.powered fun s =>
  if s.flag Reg.LAT_STATE 6 ∧ s.flag Reg.LAT_STATE 3 then
    match s.zxPass 24 (s.fld Reg.LAT_ZXOUT 0 16) (s.flag Reg.LAT_ZXOUT 17) with
    | some s1 => s1.emit (.padPulse 0x1003 (10 * Nat.max 1 (s.fld Reg.LAT_ZXOUT 20 8)) (s.flag Reg.LAT_ZXOUT 18))
    | none => s
  else s

end Sys2Proof.Machine
end

