-- ==== Sys2Proof/Machine/ScnLoad.lean ====
section
/-! DEFINITION. LOAD: an image is taken, verified and validated into the inactive bank (R292, R300). -/

namespace Sys2Proof.Machine

/-- The slots whose signature an image needs in the present life-cycle state (R542). -/
def State.imageSlots (s : State) : List Nat :=
  match s.lcState with
  | 0 => [3, 5]
  | 1 => [5]
  | 2 => [5]
  | 3 => [3]
  | _ => []

/-- The SIGNATURE section verifies over everything before it, and VERSION is no lower than the floor of the IMAGE_ID (R271,
R546). -/
def State.imageSigned (s : State) (b : List Byte) : Bool :=
  match (pieces (b.drop 0x100) 16 (fieldAt b 0x10 2)).find? (fun e => fieldAt e 0 1 == 0xFF) with
  | some e =>
    let off := fieldAt e 4 4
    let sig : BitVec 512 := BitVec.ofNat 512 (leNat (((b.drop off).take 64).reverse))
    s.signedBy s.imageSlots (Config.sha256 (b.take off)) sig
      && decide (tget (fun _ => 0) s.key.record.floors (fieldAt b 8 4) ≤ fieldAt b 12 4)
  | none => false

/-- The bytes LOAD reads: LEN bytes of host memory, or of a storage object replaced whole (R300). -/
def State.loadBytes (s : State) (x : Slot) (host : List Byte) : Option (List Byte) :=
  let len := paramField x.param 16 4
  if paramField x.param 0 1 = 0 then some (host.take len)
  else match s.stoObj (paramField x.param 8 8) with
    | some o => match o.body with
      | .whole d _ _ => some (d.take len)
      | _ => none
    | none => none

/-- Another LOAD or EXCHANGE is open, or an exchange is armed (R292). -/
def State.loadBusy (s : State) (t : Nat) : Bool :=
  s.scn.xch.isSome || s.openTags.any fun u =>
    let y := s.slot u
    u != t && y.st == .active && y.block == Blk.SCN && (y.opcode == 1 || y.opcode == 2)
      && decide (y.ord < (s.slot t).ord)

/-- The scan object of a bank (R375). -/
def scanObj (b : Bool) : Nat := objId 0 Blk.SCN (if b then 0x0B else 0x0A)

/-- LOAD (R292, R298, R300). The check code of a refused image and where it lies are open. -/
def execLoad (tag : Nat) (image : List Byte) (s : State) : Host.Outcome State Fault Refusal := s.powered fun s =>
  match s.activeOp tag Blk.SCN 1 with
  | none => s
  | some x =>
    if x.ctx ≠ 0 ∨ s.mode = Mode.MINIMAL then (s.decideOp tag St.FAIL_DENIED 0)
    else if s.loadBusy tag then (s.decideOp tag St.FAIL_CONFLICT 0)
    else if paramField x.param 0 1 = 0 ∧ image.length < paramField x.param 16 4 then s
    else match s.loadBytes x image with
      | none => (s.decideOp tag St.FAIL_INVALID 0)
      | some b =>
        let k := bankOf b
        if !s.imageSigned b then (s.authFail.decideOp tag St.FAIL_DENIED 0)
        else if !headerOk b ∨ !k.valid s.point then
          let s1 := s.nextFree.nextFree.reportErr Blk.SCN St.FAIL_INVALID (Config.freeWord (s.free + 1))
          (s1.decideOp tag St.FAIL_INVALID (Config.freeWord s.free))
        else
          let dst := !s.activeB
          let s1 := ((s.setBank dst (some k.loseRecords)).showBank dst).raiseIrq Blk.SCN 7
          ((s1.stoAsk (.scan tag) (scanObj dst) StoOp.PUT b).decideOp tag St.OK 0)

end Sys2Proof.Machine
end

