-- ==== Sys2Proof/Machine/BlockEnable.lean ====
section
/-! DEFINITION. The setting and clearing of a block's CTRL.EN (R37, R66, R68): what each block does when it is enabled for
the first time after a start or a soft reset. -/

namespace Sys2Proof.Machine

/-- What the image in force gives a register. -/
def State.imgReg (s : State) (off : Nat) : Word := tget regReset s.image off

/-- SCN loads the bank that the image names as active from storage and starts its tasks; `none` when LOAD would refuse
it. An object never written leaves SCN without a program (R298, R299, R571). -/
def State.loadScan (s : State) : Option State :=
  let b := s.sup.imgBankB
  let s1 := s.setFlag Reg.SCN_BANK 0 b
  match s.stoObj (scanObj b) with
  | none => some s1.scnStart
  | some o => match o.body with
    | .whole d _ _ =>
      if !o.damaged && s.imageSigned d && headerOk d && (bankOf d).valid s.point then
        some (((s1.setBank b (some (bankOf d))).showBank b).scnStart)
      else none
    | _ => none

/-- SCN is enabled, the tasks of units running here with it (R416); a bank that is refused after a soft reset is reported
and leaves SCN without a program. -/
def State.enableScn (s : State) : State :=
  match s.loadScan with
  | some s1 => (s1.hlk.hosted.filter (fun h => h.phase == .running)).foldl (fun a h => match a.hlk.infos[h.u]? with
      | some i => a.rouseTask i.task
      | none => a) s1
  | none => s.reportErr Blk.SCN St.FAIL_INVALID 0

/-- The image's pulse generators claim and start (R345, R359). -/
def State.enableGens (s : State) : State :=
  (s.sup.imgClaims.filter (fun c => c.resource / 2 ^ 12 == 4)).foldl (fun a c =>
    let g := c.resource % 2 ^ 12
    let w := (a.imgReg (Reg.EMU_PGgCFG g)).toNat
    match a.startPg g (bitsOf w 8 8) (bitsOf w 16 8) (bitsOf w 24 8) (a.imgReg (Reg.EMU_PGgCONST g)).toNat with
    | .ok a1 => a1
    | .error e => a.reportErr Blk.EMU St.FAIL_CONFLICT e) s

/-- Who HLK is: module number, roles, acting manager, standby and replica peer (R383, R399, R409, R433, R434). -/
def State.hlkIdentity (s : State) : State :=
  let r := s.sup.roleStrap % 4
  let mgr := if r ≤ 1 then s.sup.moduleNum else s.fld Reg.HLK_CFG 16 6
  let sb := if r ≠ 0 ∧ s.flag Reg.HLK_CFG 30 then some (s.fld Reg.HLK_CFG 24 6) else none
  let peer := if r = 0 then none else if r = 1 then sb else some mgr
  let s1 := ((s.setFld Reg.HLK_STAT 0 10 (s.sup.moduleNum % 64 + r * 2 ^ 6 + r * 2 ^ 8))).setFld Reg.HLK_STAT 16 6 mgr
  let s2 := s1.setFld Reg.STO_PEER 0 7 (match peer with
    | some m => m % 64 + 64
    | none => 0)
  let s3 := { s2 with hlk := { s2.hlk with standby := sb, mgrSince := s2.clk, placed := false } }
  if r ≤ 1 then s3 else s3.setMemSt mgr 1

/-- The manager's placement table comes from its object, with its pins alone (R418). -/
def State.loadPins (s : State) : State :=
  match s.stoObj placementObj with
  | some o => match o.damaged, o.body with
    | false, .whole b _ _ => if s.sup.roleStrap = 1 then s.loadTable b false else s
    | _, _ => s
  | none => s

/-- HLK is enabled: it joins afresh (R410, R431). -/
def State.enableHlk (s : State) : State :=
  let s1 := s.hlkIdentity.loadPins
  if 2 ≤ s1.sup.roleStrap then s1.sendJoin else s1

/-- The channels of DIO are claimed by their owners of the image, one that is refused stays disabled (R67, R68), and the
outputs leave safe state (R504, R511, R516). -/
def State.enableDio (s : State) : State :=
  let s1 := (s.sup.imgClaims.filter (fun c => c.resource / 2 ^ 12 == 2)).foldl (fun a c =>
    match a.claimOf c.resource with
    | some o =>
      if o = c then a
      else (a.setFld (Reg.DIO_CHcCFG (c.resource % 2 ^ 12)) 0 2 0).reportErr Blk.DIO St.FAIL_CONFLICT (conflictWord o)
    | none => { a with claims := a.claims ++ [c] }) s
  if s1.maySwitch then s1.leaveSafe else s1

/-- What a block does at its first enable after a start or a soft reset: RTC_CFG takes the image's value (R533), PSE adopts
(R162), ARB prices the window (R195), LCP's entries return to UNBOUND (R233), and so on. -/
def State.enableFresh (s : State) (b : Nat) : State :=
  match b with
  | 0x06 => (s.setReg Reg.RTC_CFG (s.imgReg Reg.RTC_CFG)).startTrim
  | 0x08 => let s1 := if s.mode = Mode.MINIMAL then s.adoptAll else s.adoptAll.applyPortImage; s1.satGaps
  | 0x09 => s.listWindow
  | 0x0A => s.forN 768 State.applyLumEn
  | 0x0B => s.enableScn
  | 0x0D => s.enableGens
  | 0x0F => s.enableHlk
  | 0x11 => s.enableDio
  | _ => s

/-- A block is enabled: at its first enable the outputs whose command points it produces are claimed for it (R66). At each
setting of EN LAT claims ZX_OUT, restores its PERSIST stakes and treats what is past due (R120, R124, R128, R129), the
channels of FBC that are off join the bus (R496, R499), and the field die stores DIO's SAFE values (R511). -/
def State.enableBlock (s : State) (b : Nat) : State :=
  let s1 := s.setFlag (Reg.CTRL b) 0 true
  let due := s1.sup.initDue.contains b
  let s2 := { s1 with sup := { s1.sup with initDue := s1.sup.initDue.filter (· != b) } }
  if b = Blk.LAT then (s2.claimZxOut.restoreStakes).sweepPastDue
  else
    let s3 := if b = Blk.FBC then s2.forN 4 State.joinBus
      else if b = Blk.DIO then { s2.storeSafe with dio := { s2.storeSafe.dio with wdtClk := s2.clk } }
      else s2
    if due then (s3.claimOutputs b).enableFresh b else s3

/-- A block is disabled: it accepts no operation any more; LAT releases ZX_OUT (R37, R66, R128). -/
def State.disableBlock (s : State) (b : Nat) : State :=
  let s1 := s.setFlag (Reg.CTRL b) 0 false
  if b = Blk.LAT then s1.releaseZxOut else s1

end Sys2Proof.Machine
end

