-- ==== Sys2Proof/Machine/Forget.lean ====
section
/-! DEFINITION. How the blocks let go of a tag whose operation OPT has decided: by its timeout, by CANCEL, or by a soft
reset (R74, R95). -/

namespace Sys2Proof.Machine

/-- The number under which a module write goes on whose operation has ended: no tag. -/
def orphan (t : Nat) (u : Nat) : Nat := if u = t then t + 512 else u

/-- A module write whose asking operation has ended goes on for its own sake. -/
def StoFor.forget (w : StoFor) (t : Nat) : StoFor :=
  match w with
  | .stakes u => .stakes (orphan t u)
  | .scenes u => .scenes (orphan t u)
  | .keyRecord u => .keyRecord (orphan t u)
  | .blob u c => .blob (orphan t u) c
  | .scan u => .scan (orphan t u)
  | _ => w

/-- Blocks let go of a tag whose operation has been decided by OPT, so that its next use is not mistaken for it. -/
def State.forgetTag (s : State) (t : Nat) : State :=
  let ask := fun (a : StoAsk) => { a with why := a.why.forget t }
  let s1 := { s with
    lat := { s.lat with
      firings := s.lat.firings.filter (fun f => f.tag != t)
      durWait := s.lat.durWait.map (fun (d : Nat × List Nat) => (orphan t d.1, d.2)) }
    sto := { s.sto with
      asks := s.sto.asks.map (fun (e : Nat × StoAsk) => (e.1, ask e.2)), held := s.sto.held.map ask
      durable := s.sto.durable.map (fun (e : StoFor × Nat) => (e.1.forget t, e.2)) }
    lcp := { s.lcp with
      sceneWait := s.lcp.sceneWait.filter (· != t), opWait := s.lcp.opWait.filter (fun w => w.1 != t) }
    arb := { s.arb with limitsDue := s.arb.limitsDue.map (fun (d : Nat × Nat × Nat × Nat) => (d.1, d.2.1, orphan t d.2.2.1, d.2.2.2)) }
    dio := { s.dio with restoreTags := s.dio.restoreTags.filter (· != t) }
    key := { s.key with
      writes := s.key.writes.map (fun (w : Nat × KeyRec) => (orphan t w.1, w.2))
      blobWrites := s.key.blobWrites.map (fun (w : Nat × Nat × Option KeyBlob) => (orphan t w.1, w.2)) }
    ten := { s.ten with sealTags := s.ten.sealTags.filter (fun e => e.1 != t) }
    scn := { s.scn with xch := s.scn.xch.map (fun (x : Xch) => if x.tag = some t then { x with tag := none } else x) } }
  let s2 := s1.forN 24 fun a c =>
    if (a.chan c).waiters.contains t then a.setChan c { a.chan c with waiters := (a.chan c).waiters.filter (· != t) } else a
  let s3 := s2.forN 4 fun a c =>
    a.setCanCh c { a.canCh c with busOn := (a.canCh c).busOn.filter (fun e => e.1 != t) }
  let s4 := s3.forN s3.hlk.infos.length fun a u =>
    if (a.unitRow u).moveTag = some t then
      { a with hlk := { a.hlk with units := tset (fun _ => UnitRow.fresh) a.hlk.units u { a.unitRow u with moveTag := none } } }
    else a
  ((s4.dropCanTx t).dropAdj).stoSettle

end Sys2Proof.Machine
end

