-- ==== Sys2Proof/Machine/Commit.lean ====
section
/-! DEFINITION. The commit sequence of R567: EMU's FINAL slot, STO's steps (R390), the start counter and the COMPLETE
mark. -/

namespace Sys2Proof.Machine

/-- Steps 1 and 2 of R390 for one job: a program in progress runs to its end, which passes; an erase is reset and its block
is erased again after the restart; a read is lost. -/
def State.commitJob (s : State) (j : NandJob) : State :=
  let s1 := s.dropJob j.id
  match j.what with
  | .copy _ _ => s1.jobPassed j
  | .wordline _ _ _ => s1.jobPassed j
  | .move src => s1.remap src j.block
  | _ => s1

/-- Every job in progress runs out. -/
def State.commitJobs (s : State) : State := s.sto.jobs.foldl State.commitJob s

/-- Step 3 of R390: at most one wordline of buffered records per class and channel, and the pages of buffered JOURNAL
records. -/
def State.commitBuffers (s : State) : State :=
  let s1 := (s.forN 2 fun a c => (a.programWordline Cls.TREND c).programWordline Cls.BULK c).commitJobs
  s1.sto.writes.foldl (fun a w => if w.cls = Cls.JOURNAL then match a.stoWrite w.tag with
    | some x => (a.pumpCopy x 1).commitJobs
    | none => a else a) s1

/-- Step 4 of R390 for a write whose peer has not acknowledged: only CRIT_LOCAL lets it end. -/
def State.commitPeers (s : State) : State :=
  { s with sto := { s.sto with writes := s.sto.writes.map fun (w : StoWrite) =>
      if w.rep = .awaiting then { w with rep := .noPeer } else w } }

/-- What a module write made durable by the sequence gives its block: stakes (R120), a nonce reservation (R557), a record of
the hold ring (R350). -/
def State.commitFor (s : State) (e : StoFor × Nat) : State :=
  if e.2 ≠ St.OK then s
  else match e.1 with
    | .stakes t => match s.lat.durWait.find? (fun d => d.1 == t) with
      | some d => (d.2.foldl State.storeStake s).decideOp t St.OK (s.slot t).result
      | none => s
    | .reserve c => match tfind? s.key.storedBlobs c with
      | some b => { s with key := { s.key with storedBlobs := tput s.key.storedBlobs c { b with reserve := b.reserve + 65536 } } }
      | none => s
    | .record n => { s with emu := { s.emu with ring := s.emu.ring.filter (fun r => r.slot != n) } }
    | _ => s

/-- STO's part of the commit sequence (R390). -/
def State.stoCommit (s : State) : State :=
  let s1 := ((s.commitJobs).commitBuffers).commitPeers.finishWrites
  s1.sto.durable.foldl State.commitFor s1

/-- The commit sequence as far as step `steps` of R567; `us` is its duration. EMU's FINAL slot goes to the next index of the
rotation (R352), once step 7 of the start has restored the accumulators (R353). With the COMPLETE mark of step 5 an end by
PFAIL has code 1, without it code 2 (R568). -/
def State.commit (s : State) (steps us : Nat) : State :=
  let s1 := if 2 ≤ steps ∧ 8 ≤ s.fld Reg.SUP_MODE 4 4 then (s.settleInterval true).writeMirror ((match newestMirror s.emu.mirror with
      | some e => e.1 + 1
      | none => s.chain / 65536) % 64) true
    else s
  let s2 := if 3 ≤ steps then s1.stoCommit else s1
  let s3 := s2.setNv { s2.sup.nv with commitUs := Nat.min us 25000 }
  let s4 := if steps < 5 ∧ s3.sup.nv.endCode = 1 then
      (s3.setNv { s3.sup.nv with endCode := 2 }).setRecord (fun r => { r with endCode := 2 })
    else s3
  { s4 with sup := { s4.sup with commitDue := false } }

end Sys2Proof.Machine
end

