-- ==== Sys2Proof/Machine/Supply.lean ====
section
/-! DEFINITION. Supervision of supplies, temperature and service cores, power failure and the restarts it causes (R24 to
R26, R565 to R569, R597 to R599, R611). -/

namespace Sys2Proof.Machine

/-! Bits of SUP_SUPPLY_STAT (R586). -/
namespace SupBit
abbrev VMAIN_OK : Nat := 0
abbrev VMAIN_LOW : Nat := 1
abbrev VMAIN_HIGH : Nat := 2
abbrev HOLDUP_LOW : Nat := 3
abbrev THERM_WARN : Nat := 8
end SupBit

/-- A supervised condition sets its flag and interrupt bit, or clears the flag. -/
def State.superFlag (s : State) (bit irq : Nat) (set clear : Bool) : State :=
  if set && !s.flag Reg.SUP_SUPPLY_STAT bit then (s.setFlag Reg.SUP_SUPPLY_STAT bit true).raiseIrq Blk.SUP irq
  else if clear then s.setFlag Reg.SUP_SUPPLY_STAT bit false
  else s

/-- A measurement of VMAIN in mV. -/
def State.noteVmain (s : State) (mv : Nat) : State :=
  (s.setNum Reg.SUP_VMAIN mv).setFlag Reg.SUP_SUPPLY_STAT SupBit.VMAIN_OK (decide (10800 ≤ mv) && decide (mv ≤ 13200))

/-- VMAIN_LOW: VMAIN in mV as it stood throughout the last 1 ms (R565). -/
def execVmainLow (mv : Nat) (s : State) : Host.Outcome State Fault Refusal := s.powered fun s =>
  ((s.noteVmain mv).superFlag SupBit.VMAIN_LOW 1 (decide (mv < 10800)) (decide (11000 < mv)))

/-- VMAIN_HIGH: VMAIN in mV as it stood throughout the last 1 ms (R565). -/
def execVmainHigh (mv : Nat) (s : State) : Host.Outcome State Fault Refusal := s.powered fun s =>
  ((s.noteVmain mv).superFlag SupBit.VMAIN_HIGH 2 (decide (13800 < mv)) (decide (mv < 13600)))

/-- PFAIL: VMAIN below 10.2 V for 20 µs (R566 to R568). `steps` is the last step of R567 that ends before the supply is
gone, 6 with rated hold-up; `us` the duration. It takes over a restart's commit that has not run; after it only the time
counts for R570. -/
def execPfail (steps us : Nat) (s : State) : Host.Outcome State Fault Refusal := s.always fun s =>
  let s0 := s.noteVmain (Nat.min (s.num Reg.SUP_VMAIN) 10199)
  if s.sup.inReset then
    let s1 := s0.setNv { s0.sup.nv with pfailClk := some s.clk }
    if s.sup.commitDue then
      (((s1.setNv { s1.sup.nv with endCode := 1 }).setRecord (fun r => { r with endCode := 1 })).commit steps us)
    else s1
  else ((s0.endLife 1).commit steps us)

/-- HOLDUP_LOW: 1 s after the test that ended at the voltage held in SUP_HOLDUP, it is compared with SUP_HOLDUP_MIN, with
VMAIN normal (R565, R599); a minimum of 0 disables it. -/
def execHoldupLow (s : State) : Host.Outcome State Fault Refusal := s.powered fun s =>
  let v := s.num Reg.SUP_HOLDUP
  let m := s.num Reg.SUP_HOLDUP_MIN
  let since : Bool := match s.sup.holdClk with
    | some c => decide (c + 1000 * msClk ≤ s.clk)
    | none => false
  if !since then s else (s.superFlag SupBit.HOLDUP_LOW 3 (s.flag Reg.SUP_SUPPLY_STAT SupBit.VMAIN_OK && decide (v < m)) (decide (m < v)))

/-- HOLDUP_TEST: every 10 s a test of the bank ends at a voltage in mV, which SUP_HOLDUP holds (R599). -/
def execHoldupTest (mv : Nat) (s : State) : Host.Outcome State Fault Refusal := s.powered fun s =>
  let due : Bool := match s.sup.holdClk with
    | some c => decide (c + 10000 * msClk ≤ s.clk)
    | none => true
  if due ∧ s.flag Reg.SUP_SUPPLY_STAT SupBit.VMAIN_OK then
    { s with sup := { s.sup with holdClk := some s.clk } }.setNum Reg.SUP_HOLDUP mv
  else s

/-- A measurement of the junction in 0.1 °C; the highest since the last read is kept (R586). -/
def State.noteTemp (s : State) (t : Int) : State :=
  let s1 := s.setNum Reg.SUP_TEMP (unsigned 32 t)
  if signed 32 (s.num Reg.SUP_TEMP_MAX) < t then s1.setNum Reg.SUP_TEMP_MAX (unsigned 32 t) else s1

/-- THERM_WARN: a measurement of the junction in 0.1 °C (R565). -/
def execThermWarn (temp : Int) (s : State) : Host.Outcome State Fault Refusal := s.powered fun s =>
  ((s.noteTemp temp).superFlag SupBit.THERM_WARN 4 (decide (1050 < temp)) (decide (temp < 1000)))

/-- THERMAL_RESTART: the junction as it stood for 10 ms; above 125 °C the start counter grows with reason THERMAL and the
life ends with code 6 (R565, R569). -/
def execThermalRestart (temp : Int) (s : State) : Host.Outcome State Fault Refusal := s.powered fun s =>
  if temp ≤ 1250 then (s.noteTemp temp) else (((s.noteTemp temp).countStart 8 0 0).endLife 6)

/-- The operations that a service core was serving complete FAIL_RESET (R22, R24). -/
def State.dropCore (s : State) (core : Nat) : State :=
  let mine := fun (x : Slot) => x.st == .active && (if core = 0 then x.block == Blk.STO
    else x.block == Blk.HLK || (x.block == Blk.KEY && (x.opcode == 5 || x.opcode == 6)))
  (s.openTags.foldl (fun a t => if mine (a.slot t) then a.decideOp t St.FAIL_RESET 0 else a) s).stoSettle

/-- A core runs or not; HLK's hardware keeps what core 1 last set for its heartbeats (R24). -/
def State.setCore (s : State) (core : Nat) (up : Bool) : State :=
  if core = 0 then { s with sup := { s.sup with core0Up := up } }
  else { s with arb := { s.arb with coreDown := !up }
                hlk := { s.hlk with told := if up then none else some s.hbTold } }

/-- CORE_WATCHDOG: the watchdog of a service core expires (R24); the third expiry within 600 s restarts the module with
reason WATCHDOG and end code 3 (R26, R568). DESIGN CHOICE (log entry 185): each core's expiries are counted for that core. -/
def execCoreWatchdog (core : Nat) (s : State) : Host.Outcome State Fault Refusal := s.powered fun s =>
  if 1 < core ∨ !s.coreUp core then s
  else
    let l := s.clk :: ((if core = 0 then s.sup.wdt0 else s.sup.wdt1).filter (fun c => decide (s.clk < c + 600 * 1000 * msClk)))
    let s1 := { s with sup := { s.sup with wdt0 := if core = 0 then l else s.sup.wdt0
                                           wdt1 := if core = 0 then s.sup.wdt1 else l
                                           cleanCycle := s.chain / 65536 } }
    let s2 := ((s1.satInc Reg.SUP_CORE_RST_CNT (8 * core) 8 1).raiseIrq Blk.SUP 9)
    if 3 ≤ l.length then ((s2.countStart 5 0 0).endLife 3)
    else ((s2.setCore core false).dropCore core)

/-- CORE_RESTART_DONE: a core that restarts becomes ready; held requests are served from now on, and core 1 prices the
window afresh (R24, R193). A minimal start
without verified firmware keeps both stopped (R579). -/
def execCoreRestartDone (core : Nat) (s : State) : Host.Outcome State Fault Refusal := s.powered fun s =>
  if 1 < core ∨ s.sup.fwFail ∨ !s.coreRestarts core ∨ s.coreUp core then s
  else if core = 1 then ((s.setCore 1 true).listWindow).serveCore 1
  else (s.setCore core true).serveCore core

/-- SYS_RST_PIN: SYS_RST_N has been low for 1 ms; the life ends with code 4 and the module stays in reset while the pad is
low (R568, R611). -/
def execSysRstPin (s : State) : Host.Outcome State Fault Refusal :=
  s.powered fun s => (s.endLife 4)

/-- SUPPLY_OUTPUT_LOW: a supply output has been below 90 % for 10 ms: the module is held in reset, and the start record
shows reason STORAGE_FAIL (R597). Before confirmation the start ends as unconfirmed (R576). -/
def execSupplyOutputLow (s : State) : Host.Outcome State Fault Refusal := s.powered fun s =>
  if s.sup.inReset then s
  else if s.confirmed then ((s.setRecord (fun r => { r with reason := 6 })).endLife 5)
  else (s.unconfirmedRestart 6 0 0)

end Sys2Proof.Machine
end

