-- ==== Sys2Proof/Machine/SupOps.lean ====
section
/-! DEFINITION. SUP's operations on the mode, the start counter and the claims, confirmation, and the progress stamp (R27,
R28, R65 to R68, R574 to R576, R585). -/

namespace Sys2Proof.Machine

/-- SUP_MODE takes a mode and MODE_CHANGE sets; entry to minimal mode clears the SPI's LOCK (R53, R586). -/
def State.enterMode (s : State) (m : Nat) : State :=
  let s1 := (s.setFld Reg.SUP_MODE 0 2 m).raiseIrq Blk.SUP 8
  if m = Mode.MINIMAL then s1.setFlag Reg.HIF_SPI_CTRL 0 false else s1

/-- A start that was taken and has not become a run is not begun in standby (R298). -/
def State.unreadyTasks (s : State) : State :=
  s.forN 16 fun a t => match (a.taskRt t).ready with
    | some _ => (a.setTaskRt t { a.taskRt t with ready := none }).setTaskSt t TaskSt.WAITING
    | none => a

/-- Entry to standby: SCN and LPE stop at their next task boundary, outputs go to their safe states (R27, R298); the acting
manager moves its own units elsewhere (R28). -/
def State.toStandby (s : State) : State :=
  let s1 := ((s.enterMode Mode.STANDBY).unreadyTasks).enterSafe
  s.savePlacement (s1.hostGone s.sup.moduleNum true)

/-- Return to run: each task starts on its grid with RESUMED, loops enter from their OUT points (R298, R328); outputs leave
safe state on the first output phase, and the manager may place instances again (R28). -/
def State.toRun (s : State) : State :=
  let s1 := s.enterMode Mode.RUN
  let s2 := s1.forN 16 fun a t =>
    if (a.taskEntry t).isSome then ((a.setTaskRt t { a.taskRt t with resumed := true }).armNext t).releaseHeld t else a
  s.savePlacement (s2.lpeResume.placeWaiting)

/-- Whether an event of the start sequence was taken in the present SYS cycle (R28). -/
def State.startEvent (s : State) : Bool := s.sup.eventClk == some s.clk

/-- MODE_SET (R28, R585). A request that arrives with an event of the start sequence conflicts with it, also when that event
has ended the life. -/
def execModeSet (tag : Nat) (s : State) : Host.Outcome State Fault Refusal := s.always fun s =>
  match s.activeOp tag Blk.SUP 1 with
  | none => s
  | some x =>
    if s.sup.inReset then (if s.startEvent then s.decideOp tag St.FAIL_CONFLICT 0 else s)
    else s.yielding Rank.MODE (.modeSet tag) fun s =>
      let m := paramField x.param 0 1
      if s.mode = Mode.MINIMAL then (s.decideOp tag St.FAIL_DENIED 0)
      else if 2 < m ∨ m = s.mode then (s.decideOp tag St.FAIL_INVALID 0)
      else if s.mode = Mode.STARTING ∨ s.startEvent then (s.decideOp tag St.FAIL_CONFLICT 0)
      else if m = 0 then (s.toRun.decideOp tag St.OK 0)
      else if m = 1 then (s.toStandby.decideOp tag St.OK 0)
      else
        let s1 := (s.setNv { s.sup.nv with minimalReq := true }).setRecord (fun r => { r with reason := 9 })
        (s1.endLife 4)

/-- RESTART (R585): the module restarts, with the previous image where that is asked for; the operation is reported after
the restart. -/
def execRestart (tag : Nat) (s : State) : Host.Outcome State Fault Refusal := s.powered fun s =>
  match s.activeOp tag Blk.SUP 2 with
  | none => s
  | some x => ((s.setNv { s.sup.nv with previousReq := bitOf (paramField x.param 0 1) 0 }).endLife 4)

/-- COUNT takes 0 (R575, R585). -/
def State.clearCount (s : State) : State := (s.setNv { s.sup.nv with count := 0 }).noteCount

/-- START_CLEAR (R585). -/
def execStartClear (tag : Nat) (s : State) : Host.Outcome State Fault Refusal := s.powered fun s =>
  match s.activeOp tag Blk.SUP 5 with
  | none => s
  | some _ =>
    if s.mode ≠ Mode.MINIMAL then (s.decideOp tag St.FAIL_DENIED 0)
    else (s.clearCount.decideOp tag St.OK 0)

/-- The resources that exist (R65). -/
def resourceExists (r : Nat) : Bool :=
  let n := match r / 2 ^ 12 with
    | 1 => 6
    | 2 => 24
    | 3 => 8
    | 4 => 8
    | 5 => 8
    | 6 => 16
    | _ => 0
  decide (r < 2 ^ 16) && decide (r % 2 ^ 12 < n)

/-- CLAIM: the host claims a resource (R66 to R68, R585). -/
def execClaim (tag : Nat) (s : State) : Host.Outcome State Fault Refusal :=
  s.powered fun s => s.yielding (Rank.CLAIM Blk.HIF 0) (.claim tag) fun s =>
  match s.activeOp tag Blk.SUP 0x20 with
  | none => s
  | some x =>
    let r := paramField x.param 0 2
    if !resourceExists r then (s.decideOp tag St.FAIL_INVALID 0)
    else match s.claim ⟨r, Blk.HIF, 0, 0⟩ with
      | .error w => (s.decideOp tag St.FAIL_CONFLICT w)
      | .ok s1 => (s1.decideOp tag St.OK 0)

/-- RELEASE: the host releases a resource that it holds (R66, R585). -/
def execRelease (tag : Nat) (s : State) : Host.Outcome State Fault Refusal := s.powered fun s =>
  match s.activeOp tag Blk.SUP 0x21 with
  | none => s
  | some x =>
    let r := paramField x.param 0 2
    match s.claimOf r with
    | some c =>
      if c.block = Blk.HIF then ((s.unclaim r Blk.HIF).decideOp tag St.OK 0)
      else (s.decideOp tag St.FAIL_INVALID 0)
    | none => (s.decideOp tag St.FAIL_INVALID 0)

/-- Whether some periodic task is enabled. -/
def State.periodicOn (s : State) : Bool :=
  (List.range 16).any (fun t => match s.taskEntry t with
    | some e => !e.event && s.taskSt t != TaskSt.OFF
    | none => false)

/-- The conditions of R575 beside the time. -/
def State.mayConfirm (s : State) : Bool :=
  s.mode == Mode.RUN && s.sup.imgOk && !s.confirmed
    && (if s.periodicOn then decide (200 ≤ s.num Reg.SCN_CLEAN_CNT)
        else decide (s.sup.cleanCycle + 200 ≤ s.chain / 65536))

/-- START_CONFIRM: the conditions of R575 hold within 120 s of reset release. -/
def execStartConfirm (s : State) : Host.Outcome State Fault Refusal := s.powered fun s =>
  let ms := (s.clk - s.sup.releaseClk) / msClk
  if !s.mayConfirm ∨ 120000 < ms then s
  else
    let s1 := (s.setNum Reg.SUP_START_TIME ms).setFlag Reg.SUP_START_STAT 24 true
    let s2 := s1.clearCount.setRecord (fun r => { r with confirmMs := ms, count := 0, flags := r.flags - r.flags % 2 + 1 })
    ({ s2 with sup := { s2.sup with eventClk := some s2.clk } }.raiseIrq Blk.SUP 7)

/-- CONFIRM_TIMEOUT: a start in run mode that is not confirmed at 120 s ends with reason SCAN_FAULT (R575, R576). A
confirmation due in the same cycle is taken first (R78). -/
def execConfirmTimeout (s : State) : Host.Outcome State Fault Refusal :=
  s.powered fun s => s.yielding Rank.START .confirmTimeout fun s =>
    if s.confirmed ∨ s.mode = Mode.MINIMAL ∨ s.mayConfirm ∨ s.clk < s.sup.releaseClk + 120000 * msClk then s
    else { s with sup := { s.sup with eventClk := some s.clk } }.unconfirmedRestart 4 0 0

/-- PROGRESS_STAMP: every 10 s the cycle count and the RTC seconds are written (R574). -/
def execProgressStamp (s : State) : Host.Outcome State Fault Refusal := s.powered fun s =>
  if s.latSt = LatSt.RESET ∨ s.clk < s.sup.progClk + 10000 * msClk then s
  else { s with sup := { s.sup with progClk := s.clk } }.setNv { s.sup.nv with progCycle := s.chain / 65536, progRtc := calSeconds s.rtc.cal }

end Sys2Proof.Machine
end

