-- ==== Sys2Proof/Machine/SoftReset.lean ====
section
/-! DEFINITION. The soft reset of one block (R38, R95 to R97) with what each block's chapter adds: R129 LAT, R162 PSE, R195
ARB, R233 LCP, R299 SCN, R329 LPE, R359 EMU, R394 STO, R431 HLK, R464 FAB, R465 NTU, R496 FBC, R516 DIO, R533 RTC, R560
KEY and TEN, R585 SUP. -/

namespace Sys2Proof.Machine

/-! ### Steps 1 to 3, by block -/

/-- The firings of LAT that wait for an action end FAIL_RESET (R95 step 3). -/
def State.resetFirings (s : State) (action : Nat) : State :=
  (s.lat.firings.filter (fun f => f.action == action)).foldl (fun a f => a.endFiring f.tag St.FAIL_RESET f.result f.late) s

/-- Remote writes that a transport or a reset gives up (R95, R299, R431, R496). -/
def State.resetRemote (s : State) (p : RemoteWrite → Bool) : State :=
  (s.scn.remote.filter p).foldl (fun a w => a.settleRemote w St.FAIL_RESET) s

/-- LAT: the stake table is cleared, ARB's reservations with it; the counter, its state and RUN stay (R129). -/
def State.resetLat (s : State) : State :=
  let s1 := { s with lat := { s.lat with firings := [], stakes := [], durWait := [], feed := [], restored := false }
                     opt := { s.opt with tagWait := s.opt.tagWait.filter (fun w => match w with
                       | .stake _ => false
                       | _ => true) } }
  let s2 := s1.forN 24 fun a c => a.setChan c { a.chan c with
    waiters := (a.chan c).waiters.filter (fun t => (a.slot t).block == Blk.DIO) }
  ((s2.releaseAllResv).noteStakes).releaseZxOut

/-- NTU: servos return to their start, generators stop, stamps held for host frames are flushed (R465). -/
def State.resetNtu (s : State) : State :=
  let s1 := (s.dropAdj).forN 8 State.stopNtuPg
  let s2 := { s1 with ntu := { Ntu.fresh with pgStart := s1.ntu.pgStart }
                      fab := { s1.fab with queues := s1.fab.queues.map (fun (e : Nat × List QFrame) =>
                                             (e.1, e.2.map fun (q : QFrame) => { q with ptp := none }))
                                           tx := s1.fab.tx.map fun (x : TxOp) => { x with stamp := none, record := none } } }
  s2.fab.tx.foldl (fun a x => a.endTx x.tag) s2

/-- FAB: a plain learning switch until EN is set again; only learned entries are kept (R464). -/
def State.resetFab (s : State) : State :=
  let s1 := s.fab.tx.foldl (fun a x => match x.stamp with
    | some (port, _) => a.freeTs port
    | none => a) s
  let s2 := s1.forN 50 fun a p => if a.flag (Reg.FAB_PnSTAT p) 4 then a.setBlocked p false 0 else a
  ({ s2 with fab := { s2.fab with tx := [], buckets := [], windows := [], dropClk := [], blockClk := []
                                  fdb := s2.fab.fdb.filter (fun e => !e.2.static) } }).noteFdb

/-- PSE: the linked dies enter HOLD, whose energy counts begin; ports keep their power and ARB their grants (R153, R154,
R162). -/
def State.resetPse (s : State) : State :=
  let s1 := s.forN 48 fun a p =>
    let d := a.diePort p
    let a1 := if a.linked p ∧ d.pairs ≠ 0 then a.setDiePort p { d with count := 0, frac := 0, sat := false } else a
    a1.setPortX p { PortX.idle with grant := (a1.portX p).grant }
  let s2 := s1.forN 6 fun a d => if a.dieMode d = 0 then a.setDieMode d 1 else a
  { s2 with pse := { s2.pse with holdFrom := some s.gapFrom } }

/-- ARB: reservations are released; who waits for a decision gets FAIL_RESET (R95, R195). -/
def State.resetArb (s : State) : State :=
  let s1 := (s.lcp.cmds.filter (fun c => !c.granted)).foldl (fun a c => a.endCmd c St.FAIL_RESET 0 0) s
  let s2 := s1.forN 24 fun a c => if (a.chan c).asking then (a.dioAnswer c St.FAIL_RESET).dioUnask c else a
  let s3 := s2.forN 48 fun a p => match (a.portX p).askClk with
    | some _ => (a.endPortOps p 2 St.FAIL_RESET).endPortOps p 3 St.FAIL_RESET
    | none => a
  ({ s3 with arb := { s3.arb with limitsDue := [], m1Hist := [], pwrHist := [], draw0 := [], draw1 := [], calm := 0
                                  outerTicks := 0, overTicks := 0, belowTicks := 0 } }).releaseAllResv

/-- LCP: commands and queued changes are discarded, overrides cleared; the luminaires keep levels, caps and sessions, and
their status points turn STALE (R224, R233). -/
def State.resetLcp (s : State) : State :=
  let s1 := s.lcp.cmds.foldl (fun a c => a.dropFired c.change.stake) s
  let seen := s1.lcp.lums.filter (fun e => e.2.seen)
  let s2 := seen.foldl (fun a e => ((List.range 6).map (8 * e.1 + 2 + ·)).foldl
    (fun b k => b.pubQuality Reg.LCP_PT_BASE k Q.STALE) a) s1
  { s2 with
    opt := { s2.opt with tagWait := s2.opt.tagWait.filter (fun w => match w with
      | .lcpChange _ => false
      | _ => true) }
    lcp := { s2.lcp with
      lums := s2.lcp.lums.map (fun e => (e.1, { Lum.fresh with grant := e.2.grant, gstamp := e.2.gstamp, seen := e.2.seen }))
      changes := [], queue := [], cmds := [], sceneWait := [], opWait := [], discClk := [] } }

/-- SCN: runs end without an output phase, every open write that no station has taken fails, both banks are cleared, and
what the tasks wrote turns STALE (R299). -/
def State.resetScn (s : State) : State :=
  let s1 := s.scn.remote.foldl (fun a w => match w.tag with
    | some t => a.decideOp t St.FAIL_RESET 0
    | none => a) s
  let s2 := s1.scn.written.foldl (fun a i => a.setQuality Blk.SCN i Q.STALE) s1
  { s2 with scn := { Scn.fresh with outs := s2.scn.outs, defaults := s2.scn.defaults, nextWrite := s2.scn.nextWrite } }

/-- LPE: sampling stops; OUT and status points keep their values with quality STALE (R329). -/
def State.resetLpe (s : State) : State :=
  let s1 := s.forN 96 fun a n =>
    if a.flag (Reg.LPE_LnCFG n) 0 then
      (a.setQuality Blk.LPE (a.fld (Reg.LPE_LnIO_PT n) 0 16) Q.STALE).forN 4 fun b k => b.pubQuality Reg.LPE_PT_BASE (4 * n + k) Q.STALE
    else a
  { s1 with lpe := Lpe.fresh }

/-- EMU: the generators stop; the front ends and accumulators run through it (R359). -/
def State.resetEmu (s : State) : State :=
  let s1 := s.forN 8 State.stopPg
  { s1 with emu := { s1.emu with rems := [], busy := [], pgSrc := [] } }

/-- STO: background work stops, writes whose map entry was not written leave their objects as they were (R394). -/
def State.resetSto (s : State) : State :=
  let gone := s.sto.held.map (fun (a : StoAsk) => (a.why, St.FAIL_RESET))
  let s1 := { s with
    opt := { s.opt with tagWait := s.opt.tagWait.filter (fun w => match w with
      | .stoWrite _ => false
      | _ => true) }
    sto := { s.sto with jobs := [], buffer := [], bufClk := [], held := [], durable := s.sto.durable ++ gone } }
  s1.stoSettle.noteSto

/-- HLK: no frame is sent or accepted, hosted units stop at their next task boundary, and the members are not seen any
more (R414, R423, R431). -/
def State.resetHlk (s : State) : State :=
  let s1 := s.resetRemote (fun w => match w.station with
    | .module _ => w.phase == .handed
    | _ => false)
  let s2 := s1.hlk.hosted.foldl (fun a h => a.beginLeaving { h with dest := none }) s1
  let s3 := ((List.range 64).filter s2.memberUp).foldl State.staleModule s2
  let h := s3.hlk
  { s3 with
    opt := { s3.opt with tagWait := s3.opt.tagWait.filter (fun w => match w with
      | .hlkWrite _ => false
      | _ => true) }
    hlk := { Hlk.fresh with counter := h.counter, exports := h.exports, imports := h.imports, dir := h.dir, infos := h.infos
                            hosted := h.hosted, copies := h.copies, proxyOut := h.proxyOut, cps := h.cps, told := h.told, hbSent := h.hbSent } }

/-- FBC: every channel leaves the bus and every pending transmit and open tracked write fails (R496). -/
def State.resetFbc (s : State) : State :=
  let s1 := s.resetRemote (fun w => match w.station with
    | .node _ _ => w.phase == .handed || w.phase == .inFlight || w.phase == .confirming
    | _ => false)
  let s2 := s1.forN 4 fun a c => a.leaveBus c St.FAIL_RESET
  { s2 with fbc := { Fbc.fresh with outMap := s2.fbc.outMap, inMap := s2.fbc.inMap } }

/-- DIO: the field die keeps its outputs at their SAFE values (R516). -/
def State.resetDio (s : State) : State :=
  let s1 := s.enterSafe.forN 24 fun a c => (a.dioAnswer c St.FAIL_RESET).dioUnask c
  { s1 with dio := { s1.dio with
      chans := s1.dio.chans.map (fun e => (e.1, { DioCh.idle with on := e.2.on, grant := e.2.grant }))
      piFilt := [], low := 0, high := 0, overTicks := 0, shed := [], restoreTags := []
      wdtExpired := false, pulses := [], piOn := [], piLimit := [] } }

/-- KEY: the operations of TEN that wait for a load of its cache fail with it (R95 step 3, R549). -/
def State.resetKey (s : State) : State :=
  let waits := s.openTags.filter fun t =>
    let x := s.slot t
    x.st == .active && x.block == Blk.TEN && ((x.opcode == 1 && s.key.missing.contains (paramField x.param 0 1))
      || s.ten.sealTags.any (fun e => e.1 == t && s.key.missing.contains (paramField x.param 0 1)))
  let s1 := { s with ten := { s.ten with sealTags := s.ten.sealTags.filter (fun e => !waits.contains e.1) } }
  waits.foldl (fun a t => a.decideOp t St.FAIL_RESET 0) s1

/-- TEN: every session closes, every bucket is full (R560). -/
def State.resetTen (s : State) : State :=
  let s1 := s.forN 256 State.closeSession
  { s1 with ten := { s1.ten with spent := [], sealTags := [], refilled := [] } }

/-- HIF: rings and queues are disabled; a mailbox operation completes into the history (R97). -/
def State.resetHif (s : State) : State :=
  let s1 := s.disableRings.leaveMbox
  { s1 with hif := { s1.hif with turnRing := 0, turnCount := 0, sinceSignal := [] } }

/-- SUP: the timers stop and the Survey state is cleared; the claim table and supervision stay (R97, R585). -/
def State.resetSup (s : State) : State :=
  let s1 := s.forN 16 State.stopTimer
  { s1 with sup := { s1.sup with surveyClk := none, surveyEndClk := none } }

/-- The block's own part of steps 1 to 3. -/
def State.resetBegin (s : State) (b : Nat) : State :=
  match b with
  | 0x01 => (s.resetFirings 6).resetSup
  | 0x02 => s.resetHif
  | 0x04 => s.resetLat
  | 0x05 => s.resetNtu
  | 0x06 => (s.setRtc { s.rtc with window := none }).releaseCal
  | 0x07 => s.resetFab
  | 0x08 => (s.resetFirings 4).resetPse
  | 0x09 => s.resetArb
  | 0x0A => (s.resetFirings 2).resetLcp
  | 0x0B => (s.resetFirings 5).resetScn
  | 0x0C => s.resetLpe
  | 0x0D => s.resetEmu
  | 0x0E => s.resetSto
  | 0x0F => s.resetHlk
  | 0x10 => s.resetFbc
  | 0x11 => (s.resetFirings 3).resetDio
  | 0x12 => s.resetKey
  | 0x13 => s.resetTen
  | _ => s

/-- A soft reset of OPT waits for no operation and no lost report (R97). -/
def State.srstRefused (s : State) (b : Nat) : Bool :=
  b == Blk.OPT && (s.openCount != 0 || !s.opt.lost.isEmpty)

/-- RESULT of an operation that a soft reset ends: a port's state (R159), the entry of a luminaire command (R217). -/
def State.resetResult (s : State) (t : Nat) : Word :=
  let x := s.slot t
  if x.block = Blk.PSE then s.portResult (paramField x.param 0 1)
  else match s.lcp.cmds.find? (fun c => c.tag == t) with
    | some c => lcpResult c.change.entry 0 0
    | none => 0

/-- A write of 1 to CTRL.SRST takes effect: steps 1 to 3 of R95. -/
def State.softReset (s : State) (b : Nat) : State :=
  if s.srstRefused b then s.reportErr b St.FAIL_DENIED 8
  else
    let s1 := s.setFld (Reg.CTRL b) 0 2 2
    let mine := s1.openTags.filter (fun t => (s1.slot t).st == .active && (s1.slot t).block == b)
    mine.foldl State.forgetTag ((s1.decideBlock b St.FAIL_RESET State.resetResult).resetBegin b)

/-! ### Step 4 -/

/-- Whether a register keeps its value over its block's soft reset (R38 and the chapters of the blocks; log entry 120):
running values that the chapter names, and values that belong to the life, the link or another domain. -/
def keptReg (off : Nat) : Bool :=
  let o := off % 0x40000
  let running := match regRow? off with
    | some r => r.acc == .ro && !r.image && decide (0x100 ≤ o)
    | none => false
  match off / 0x40000 with
  | 0x01 => running && !(off == Reg.SUP_SURVEY_STAT || off == Reg.SUP_SURVEY_LAT || (decide (0x400 ≤ o) && decide (o < 0x500)))
  | 0x02 => off == Reg.HIF_LINK_STAT || decide (0x20000 ≤ o)
  | 0x03 => off == Reg.OPT_START_NUM
  | 0x04 => running && decide (o < 0x168)
  | 0x05 => off == Reg.NTU_UTC_OFFSET || (List.range 4).any (fun n => off == Reg.NTU_TBn_RATE n || off == Reg.NTU_TBn_STAT n)
  | 0x06 => off == Reg.RTC_CTL || off == Reg.RTC_STAT || off == Reg.RTC_TRIM || off == Reg.RTC_WAKE || off == Reg.RTC_WAKE_CNT
      || decide (0x200 ≤ o)
  | 0x07 => off == Reg.FAB_LINK_LO || off == Reg.FAB_LINK_HI || off == Reg.FAB_BUF_USED || off == Reg.FAB_FDB_USED
      || (List.range 50).any (fun p => off == Reg.FAB_PnSTAT p)
  | 0x0D => running && !(decide (0x5000 ≤ o) && decide (o < 0x5080)) && decide (o < 0x7000)
  | 0x0E => running && off != Reg.STO_SCRUB_STAT
  | 0x12 => off == Reg.KEY_LC || off == Reg.KEY_LC_NONCE
  | _ => false

/-- The registers of block `b` return to their reset values, those marked Image to the image's; READY stays (R38, R39). The
image's pulse generators are started by the setting of EN (R359). -/
def State.resetRegs (s : State) (b : Nat) : State :=
  let mine := fun (off : Nat) => off / 0x40000 == b
  let ready := s.fld (Reg.STAT b) 0 1
  let s1 := { s with
    regs := tdrop s.regs (fun off => mine off && !keptReg off)
    latch := tdrop s.latch mine, loLatch := tdrop s.loLatch mine, loPend := tdrop s.loPend mine
    errDetail := tdel s.errDetail b }
  let img := s1.image.filter (fun e => mine e.1 && !(b == Blk.EMU && decide (0x5000 ≤ e.1 % 0x40000) && decide (e.1 % 0x40000 < 0x5080))
    && e.1 != Reg.RTC_CFG)
  (img.foldl (fun a e => a.setReg e.1 e.2) s1).setFld (Reg.STAT b) 0 1 ready

/-- The block's own claims are released (R66). EMU's clock pads stay with their front ends (R359), HIF's claims are the
host's (R66), SUP's table is kept (R97); the channels of DIO are released by their owners but for the host (R516). -/
def State.releaseOwn (s : State) (b : Nat) : State :=
  match b with
  | 0x01 => s
  | 0x02 => s
  | 0x0D => { s with claims := s.claims.filter (fun c => !(c.block == Blk.EMU && c.resource / 2 ^ 12 != 1)) }
  | 0x11 => { s with claims := s.claims.filter (fun c => c.resource / 2 ^ 12 != 2 || c.block == Blk.HIF) }
  | _ => s.unclaimBlock b

/-- What a block shows again of its running values once its registers have returned to reset. -/
def State.resetShow (s : State) (b : Nat) : State :=
  match b with
  | 0x02 => { s with hif := { s.hif with fencePcie := 0, fenceSpi := 0 } }
  | 0x03 => { s with opt := { s.opt with slots := [], lastTag := 511, nextOrd := 0, histDone := [], lostRun := none } }
  | 0x04 => s.noteStakes
  | 0x05 => s.forN 4 fun a n => a.setNum (Reg.NTU_TBn_STAT n) (a.fld (Reg.NTU_TBn_STAT n) 0 1)
  | 0x06 => s.setNum Reg.RTC_STAT (s.fld Reg.RTC_STAT 0 2)
  | 0x08 => s.showDies
  | 0x0A => s.noteLcp
  | 0x0D => s.noteHold
  | 0x0E => s.noteSto
  | 0x11 => s.forN 24 fun a c =>
      if a.dioMode c = 2 then
        (a.setFlag (Reg.DIO_CHcSTAT c) 0 (a.chan (a.dioMaster c)).on).setFlag (Reg.DIO_CHcSTAT c) 6 true
      else a
  | 0x12 => (s.deriveSlots (!s.key.pufDead && s.flag Reg.KEY_LC 24)).loadRecord
  | 0x13 => (s.newChals).forN 255 fun a k => a.setBlob (k + 1) (a.blob (k + 1))
  | _ => s

/-- Step 4 of R95, but for the writes and fences that wait on it. -/
def State.resetEnd (s : State) (b : Nat) : State :=
  let s1 := ((s.resetRegs b).releaseOwn b).resetShow b
  { s1 with sup := { s1.sup with initDue := b :: s1.sup.initDue.filter (· != b) } }

end Sys2Proof.Machine
end

