-- ==== Sys2Proof/Machine/HostWrite.lean ====
section
/-! DEFINITION. What a host register write does once it takes effect: by the register's access type (R34, R35), with the
effects that the chapters give single registers. -/

namespace Sys2Proof.Machine

/-! ### By access type (R34) -/

/-- Whether one of the pairs (offset, dims) has an instance at `off`. -/
def pairFits (l : List (Nat × List (Nat × Nat))) (off : Nat) : Bool :=
  l.any (fun e => decide (e.1 ≤ off) && dimsFit e.2 (off - e.1))

/-- The writable _LO registers (R33): ring and queue bases, VLAN members and untagged sets, endpoint MACs and hashes. -/
def loWritten : List (Nat × List (Nat × Nat)) :=
  [(0x81000, [(32, 8)]), (0x82000, [(32, 8)]), (0x1D0000, [(16, 64)]), (0x1D0008, [(16, 64)]), (0x1C3004, [(32, 5)]),
   (0x1C300C, [(32, 5)])]

/-- Set the writable bits of a register. -/
def State.mergeReg (s : State) (off mask : Nat) (v : Word) : State :=
  let m := BitVec.ofNat 32 mask
  s.setReg off ((s.reg off &&& ~~~m) ||| (v &&& m))

/-- A write of a register that takes its value at once; of a pair, _LO waits for _HI (R33). -/
def State.mergePair (s : State) (off mask : Nat) (v : Word) : State :=
  if pairFits loWritten off then { s with loPend := tput s.loPend off (v &&& BitVec.ofNat 32 mask) }
  else if 4 ≤ off ∧ pairFits loWritten (off - 4) then
    match tfind? s.loPend (off - 4) with
    | some lo => ({ s with loPend := tdel s.loPend (off - 4) }.setReg (off - 4) lo).mergeReg off mask v
    | none => s.mergeReg off mask v
  else s.mergeReg off mask v

/-- A refused write: ERR_INFO holds the register's offset in its block (R35). -/
def State.refuseReg (s : State) (off code : Nat) : State :=
  s.reportErr (off / 0x40000) code (BitVec.ofNat 32 (off % 0x40000))

/-- A write by the register's access type (R34, R35). -/
def State.writeByType (s : State) (r : RegRow) (off : Nat) (v : Word) : State :=
  match r.acc with
  | .rw => s.mergePair off r.wmask v
  | .rwl => if s.en (off / 0x40000) then s.refuseReg off St.FAIL_DENIED else s.mergePair off r.wmask v
  | .w1c => s.setReg off (s.reg off &&& ~~~v)
  | _ => s

/-! ### Page 0 (R36, R37, R41) -/

/-- A write of CTRL: SURVEY_EN, EN unless the block is not READY, and a soft reset where SRST is 1. A soft reset that OPT
refuses makes the whole write ignored (R97). DESIGN CHOICE (log entry 188): where EN is refused the write still takes SURVEY_EN
and SRST. -/
def State.writeCtrl (s : State) (b : Nat) (v : Word) : State :=
  if bitOf v.toNat 1 && s.srstRefused b then s.reportErr b St.FAIL_DENIED 8 else
  let s1 := s.setFlag (Reg.CTRL b) 2 (bitOf v.toNat 2)
  let s2 :=
    if bitOf v.toNat 0 then
      if s1.flag (Reg.STAT b) 0 then (if s1.en b then s1 else s1.enableBlock b)
      else (s1.setFlag (Reg.CTRL b) 0 false).reportErr b St.FAIL_DENIED 8
    else if s1.en b then s1.disableBlock b
    else s1
  if bitOf v.toNat 1 then s2.softReset b else s2

/-- Events set in IRQ_STAT; the vector follows (R36, R41). -/
def State.setIrqs (s : State) (b : Nat) (v : Word) : State :=
  (s.setReg (Reg.IRQ_STAT b) (s.reg (Reg.IRQ_STAT b) ||| (v &&& irqMask b))).irqEdge s b

/-- A write of a page 0 register. -/
def State.writePage0 (s : State) (b off : Nat) (v : Word) : State :=
  if off = Reg.CTRL b then s.writeCtrl b v
  else if off = Reg.IRQ_EN b then (s.setReg off (v &&& irqMask b)).irqEdge s b
  else if off = Reg.IRQ_STAT b then s.setReg off (s.reg off &&& ~~~v)
  else if off = Reg.IRQ_FORCE b then s.setIrqs b v
  else s

/-! ### Registers with an effect of their own -/

/-- An MSI-X table word: a vector unmasked with its pending bit set is sent (R46, R47). -/
def State.writeMsix (s : State) (r : RegRow) (off : Nat) (v : Word) : State :=
  let s1 := s.writeByType r off v
  let k := (off - 0xA0000) / 16
  if off % 16 = 12 ∧ s.flag off 0 ∧ !s1.flag off 0 ∧ s1.flag (Reg.MSIX_PBA (k / 32)) (k % 32) then
    (s1.setFlag (Reg.MSIX_PBA (k / 32)) (k % 32) false).signalVector k
  else s1

/-- HIF's registers (R53 to R56, R61, R63). -/
def State.writeHif (s : State) (rq : Requester) (r : RegRow) (off : Nat) (v : Word) : State :=
  if 0xA0000 ≤ off then s.writeMsix r off v
  else if off = Reg.HIF_SPI_CTRL then (if rq = .pcie then s.setNum off (v.toNat % 2) else s)
  else if off = Reg.HIF_MBOX_GO then s.writeMboxGo v
  else if Reg.HIF_CQ_ROUTE 1 ≤ off ∧ off ≤ Reg.HIF_CQ_ROUTE 19 then
    if 8 < v.toNat % 16 then s.refuseReg off St.FAIL_INVALID else s.setNum off (v.toNat % 16)
  else match regIdx Reg.HIF_SQn_CTRL 8 off, regIdx Reg.HIF_SQn_DB 8 off with
    | some n, _ => s.writeSqCtrl n v
    | _, some n => s.writeDoorbell n v
    | _, _ => match regIdx Reg.HIF_CQn_CTRL 8 off, regIdx Reg.HIF_CQn_HEAD 8 off with
      | some q, _ => s.writeCqCtrl q v
      | _, some q => s.writeCqHead q v
      | _, _ =>
        let ring := (off - 0x81000) / 32
        let queue := (off - 0x82000) / 32
        if 0x81000 ≤ off ∧ off < 0x81100 ∧ off % 32 ≤ 4 ∧ s.flag (Reg.HIF_SQn_CTRL ring) 0 then s
        else if 0x82000 ≤ off ∧ off < 0x82100 ∧ off % 32 ≤ 4 ∧ s.cqEn queue then s
        else s.writeByType r off v

/-- A free value is taken where a command of the RTC with the prescaler's count reaches it as a plain register write. -/
def State.writeRtcCtl (s : State) (v : Word) : State :=
  if bitOf v.toNat 0 then
    if s.rtcHalt then s
    else (s.setRtc { s.rtc with presc := (Config.freeWord s.free).toNat % 32768 }).nextFree.haltRtc
  else s.unhaltRtc

/-- The RTC's registers (R524, R528, R531, R534). -/
def State.writeRtc (s : State) (r : RegRow) (off : Nat) (v : Word) : State :=
  if Reg.RTC_SEC ≤ off ∧ off ≤ Reg.RTC_YEAR then s.writeCal off v.toNat
  else if off = Reg.RTC_CTL then s.writeRtcCtl v
  else if off = Reg.RTC_TRIM then
    if s.fld Reg.RTC_CFG 0 2 = 1 ∨ s.fld Reg.RTC_CFG 0 2 = 2 then s.refuseReg off St.FAIL_DENIED
    else s.setTrim (signed 9 v.toNat)
  else if off = Reg.RTC_CFG then
    let src := s.fld off 0 2
    let s1 := s.writeByType r off v
    if s1.fld off 0 2 = src then s1 else s1.startTrim
  else if off = Reg.RTC_WAKE then
    let s1 := s.writeByType r off v
    (s1.setRtc { s1.rtc with wakeAt := rtcTicks s1.rtc.cal (Config.freeWord s1.free).toNat }).nextFree
  else s.writeByType r off v

/-- FAB's registers (R441, R468 to R470): EN of endpoints 0 to 2 and their MACs are their blocks', PCP 7 of the map reads
as 6. -/
def State.writeFab (s : State) (r : RegRow) (off : Nat) (v : Word) : State :=
  if off = Reg.FAB_PCP_MAP then
    s.setNum off ((List.range 8).foldl (fun n k => n + Nat.min 6 (bitsOf v.toNat (3 * k) 3) * 2 ^ (3 * k)) 0)
  else if off = Reg.FAB_MDIO_CMD then s.writeMdio v
  else match regIdx Reg.FAB_PnCFG 50 off, regIdx Reg.FAB_EPe_CFG 5 off with
    | some p, _ => s.writeFabPort p v
    | _, some e =>
      let mask := if e ≤ 2 then 0x0FFF0000 else if e = 3 then 0x0FFF0007 else 0x0FFF000F
      s.mergeReg off mask v
    | _, _ =>
      if (anyIdx [Reg.FAB_EPe_MAC_LO, Reg.FAB_EPe_MAC_HI] 3 off).isSome then s else s.writeByType r off v

/-- A gain register: a SHIFT above 8 reads as 8 (R312). -/
def gainWord (v : Word) : Word := BitVec.ofNat 32 (bitsOf v.toNat 0 16 + Nat.min 8 (bitsOf v.toNat 16 4) * 2 ^ 16)

/-- LPE's registers (R312, R315, R316, R331). -/
def State.writeLpe (s : State) (r : RegRow) (off : Nat) (v : Word) : State :=
  match regIdx Reg.LPE_LnCTL 96 off, regIdx Reg.LPE_LnLIMIT 96 off with
  | some n, _ => s.writeModeReq n v
  | _, some _ =>
    if signed 16 (bitsOf v.toNat 16 16) < signed 16 (bitsOf v.toNat 0 16) then s.refuseReg off St.FAIL_INVALID
    else s.writeByType r off v
  | _, _ =>
    if (anyIdx [Reg.LPE_LnKP, Reg.LPE_LnKI, Reg.LPE_LnKD] 96 off).isSome then s.writeByType r off (gainWord v) else
    match regIdx Reg.LPE_LnCFG 96 off with
    | some n =>
      let s1 := s.writeByType r off v
      if s1.flag off 0 ∧ !s.flag off 0 then s1.enterLoop n else s1
    | none =>
      let k := (off - Reg.LPE_LnBQk_W0 0 0) / 16
      if off < Reg.LPE_LnBQk_W0 0 0 ∨ 384 ≤ k then s.writeByType r off v
      else if off = Reg.LPE_LnBQk_W0 (k / 4) (k % 4) then s.writeBqW0 (k / 4) (k % 4) v
      else (s.pinCoefs (k / 4)).writeByType r off v

/-- SCN_TnCTL (R302, R291). -/
def State.writeTaskCtl (s : State) (t : Nat) (v : Word) : State :=
  let off := Reg.SCN_TnCTL t
  let was := s.flag off 0
  let s1 := s.setNum off ((v.toNat &&& 0x00FF0006) + (if was then 1 else 0))
  if bitOf v.toNat 0 = was then s1 else s1.setHostEn t (bitOf v.toNat 0)

/-- EMU_MmCFG: EN claims the front end's modulator clock or releases it (R335, R339, R68). -/
def State.writeFeCfg (s : State) (m : Nat) (r : RegRow) (v : Word) : State :=
  let off := Reg.EMU_MmCFG m
  let was := s.flag off 0
  let s1 := s.writeByType r off v
  let now := s1.flag off 0
  if now ∧ !was then
    match s1.claim ⟨0x1004 + m, Blk.EMU, 2, m⟩ with
    | .error w => (s1.setFlag off 0 false).reportErr Blk.EMU St.FAIL_CONFLICT w
    | .ok s2 => (s2.setFlag (Reg.EMU_MmSTAT m) 24 true).setFe m { s2.fe m with since := s2.clk }
  else if was ∧ !now then (s1.setFlag (Reg.EMU_MmSTAT m) 24 false).unclaim (0x1004 + m) Blk.EMU
  else s1

/-- DIO_CHcCFG: a change of MODE releases the channel from the owner it had and claims it for the one it has (R504,
R519); MODE 3 is refused. A claim of the host, LAT or EMU stands. -/
def State.writeDioCfg (s : State) (c : Nat) (r : RegRow) (v : Word) : State :=
  let off := Reg.DIO_CHcCFG c
  if s.en Blk.DIO then s.refuseReg off St.FAIL_DENIED
  else if v.toNat % 4 = 3 then s.refuseReg off St.FAIL_INVALID
  else
    let s1 := match s.dioOwner c with
      | some o => { s with claims := s.claims.filter (fun x => x != o) }
      | none => s
    let s2 := s1.writeByType r off v
    match s2.dioOwner c with
    | none => s2
    | some o => match s2.claimOf (0x2000 + c) with
      | none => { s2 with claims := s2.claims ++ [o] }
      | some h =>
        if s2.dioMode c = 2 ∧ h.standsBy then s2
        else (s2.setFld off 0 2 0).reportErr Blk.DIO St.FAIL_CONFLICT (conflictWord h)

/-- A field-bus channel's registers: RESTRICT acts at once; a channel whose EN clears leaves the bus (R494, R499). -/
def State.writeFbc (s : State) (r : RegRow) (off : Nat) (v : Word) : State :=
  match regIdx Reg.FBC_CHc_CTL 4 off, regIdx Reg.FBC_CHc_CFG 4 off with
  | some c, _ => s.setRestrict c (bitOf v.toNat 0)
  | _, some c =>
    let s1 := s.writeByType r off v
    if s.flag off 0 ∧ !s1.flag off 0 then s1.leaveBus c St.FAIL_RESET else s1
  | _, _ => s.writeByType r off v

/-- The next word of the host-loaded firmware, while the loader waits for one (R572). -/
def State.takeBootWord (s : State) (v : Word) : State :=
  if s.flag Reg.SUP_BOOT_CTL 29 then { s with sup := { s.sup with bootWords := s.sup.bootWords ++ [v] } } else s

/-- SUP's registers (R572, R581, R583). -/
def State.writeSup (s : State) (r : RegRow) (off : Nat) (v : Word) : State :=
  if off = Reg.SUP_SURVEY_NOW then (if bitOf v.toNat 0 then (s.surveyRequest Srv.HOST).2 else s)
  else if off = Reg.SUP_SURVEY_ACK then (if bitOf v.toNat 0 then s.setFlag Reg.SUP_SURVEY_STAT 17 false else s)
  else if off = Reg.SUP_BOOT_DATA then s.takeBootWord v
  else if off = Reg.SUP_BOOT_CTL then s.setFld off 0 24 v.toNat
  else s.writeByType r off v

/-- A write takes effect in its block. -/
def State.writeReg (s : State) (rq : Requester) (r : RegRow) (off : Nat) (v : Word) : State :=
  let b := off / 0x40000
  if off % 0x40000 < 0x100 then s.writePage0 b off v
  else match b with
    | 0x01 => s.writeSup r off v
    | 0x02 => s.writeHif rq r off v
    | 0x03 => if off = Reg.OPT_LOST_CTRL then s.writeLostCtrl v else s.writeByType r off v
    | 0x06 => s.writeRtc r off v
    | 0x07 => s.writeFab r off v
    | 0x08 => match regIdx Reg.PSE_PnCFG 48 off with
      | some p => s.writePortCfg p v
      | none => s.writeByType r off v
    | 0x0A =>
      let s1 := s.writeByType r off v
      match regIdx Reg.LCP_LnCFG 768 off with
      | some e => s1.applyLumEn e
      | none => s1
    | 0x0B => match regIdx Reg.SCN_TnCTL 16 off with
      | some t => s.writeTaskCtl t v
      | none => s.writeByType r off v
    | 0x0C => s.writeLpe r off v
    | 0x0D => match regIdx Reg.EMU_MmCFG 2 off with
      | some m => s.writeFeCfg m r v
      | none => s.writeByType r off v
    | 0x10 => s.writeFbc r off v
    | 0x11 => if off = Reg.DIO_WDT_KICK then (if s.flag Reg.DIO_WDT 9 then s.kickWdt else s)
      else match regIdx Reg.DIO_CHcCFG 24 off with
        | some c => s.writeDioCfg c r v
        | none => s.writeByType r off v
    | 0x13 => if off = Reg.TEN_CTXc_CFG 0 then s else s.writeByType r off v
    | _ => s.writeByType r off v

/-! ### The gates before a block -/

/-- Whether an SPI write to the offset takes effect under LOCK (R53). -/
def spiOpen (off : Nat) : Bool :=
  off / 0x40000 == Blk.SUP || off == Reg.HIF_SPI_CTRL
    || (decide (Reg.HIF_MBOX_DESC 0 ≤ off) && decide (off ≤ Reg.HIF_MBOX_GO))

/-- A write takes the number it has, or a new one, among what waits. -/
def State.numbered (s : State) (seq : Option Nat) : Nat × State :=
  match seq with
  | some n => (n, s)
  | none => (s.hif.nextSeq, { s with hif := { s.hif with nextSeq := s.hif.nextSeq + 1 } })

/-- A write that no fence holds reaches its block: outside the map it is recorded, under LOCK the SPI's is discarded, in a
soft reset it is discarded and counts as taking effect when the reset ends (R31, R53, R91, R95). -/
def State.hostWrite (s : State) (rq : Requester) (off : Nat) (v : Word) (seq : Option Nat) : State :=
  match regRow? off with
  | none => s.noteUnmapped rq off
  | some r =>
    if rq = .spi ∧ s.flag Reg.HIF_SPI_CTRL 0 ∧ !spiOpen off then s.spiError
    else if s.inSrst (off / 0x40000) then
      let (n, s1) := s.numbered seq
      { s1 with hif := { s1.hif with opens := s1.hif.opens ++ [⟨rq, off, n⟩] } }
    else s.writeReg rq r off v

/-- Whether a fence of the requester holds its later writes (R90). -/
def State.fenced (s : State) (rq : Requester) : Bool := s.hif.held.any (fun h => h.rq == rq)

/-- A fence that stands before held writes. -/
def HeldWrite.stands (h : HeldWrite) : Bool := h.off == Reg.HIF_FENCE && h.val == 1

/-- Writes of the requester that its fences hold. -/
def State.heldOf (s : State) (rq : Requester) : List HeldWrite := s.hif.held.filter (fun h => h.rq == rq && !h.stands)

/-- Put a write behind the requester's fences. -/
def State.holdWrite (s : State) (rq : Requester) (off : Nat) (v : Word) (seq : Option Nat) : State :=
  let (n, s1) := s.numbered seq
  { s1 with hif := { s1.hif with held := s1.hif.held ++ [⟨rq, off, v, n⟩] } }

/-- A fence of the requester (R90): its number is taken, and while earlier writes are open it stands before the later
ones. -/
def State.writeFence (s : State) (rq : Requester) (seq : Option Nat) : State :=
  let s1 := s.fence rq
  if s1.writesOpen rq then s1.holdWrite rq Reg.HIF_FENCE 1 seq else s1

/-- A host write of one word: behind a fence it is held, and the 65th of the SPI is discarded (R90); a fence written behind
a fence is held with the value 0. Under LOCK the SPI's fence is discarded (R53). -/
def State.takeNow (s : State) (rq : Requester) (off : Nat) (v : Word) (seq : Option Nat) : State :=
  if s.fenced rq then
    if rq = .spi ∧ 64 ≤ (s.heldOf rq).length then s.spiError
    else s.holdWrite rq off (if off = Reg.HIF_FENCE then 0 else v) seq
  else if off = Reg.HIF_FENCE ∧ !s.inSrst Blk.HIF then
    if rq = .spi ∧ s.flag Reg.HIF_SPI_CTRL 0 then s.spiError else s.writeFence rq seq
  else s.hostWrite rq off v seq

/-- The rank at which a write gives way to what coincides with it: the SPI's behind PCIe's (R52), a claim behind the
releases and in the order of R67, a port's switching off in the order of R147, a soft reset behind the status reports (R78),
and every write behind those of its
requester that wait (R88). -/
def State.writeRank (s : State) (rq : Requester) (off : Nat) (v : Word) : Option Nat :=
  let b := off / 0x40000
  if s.lateWrites rq then some Rank.BEHIND
  else if !s.together then none
  else
    let own := if off % 0x40000 = 8 then
        (if bitOf v.toNat 1 then Rank.SRST else if bitOf v.toNat 0 then Rank.CLAIM b 0 else 0)
      else if (regIdx Reg.EMU_MmCFG 2 off).isSome then Rank.CLAIM b 2
      else if (regIdx Reg.DIO_CHcCFG 24 off).isSome then Rank.CLAIM b 1
      else if (regIdx Reg.PSE_PnCFG 48 off).isSome && !bitOf v.toNat 0 then Rank.CUT 10
      else 0
    if rq = .spi then some (if own = 0 then Rank.SPI else own + 0x80) else if own = 0 then none else some own

/-- A host write of one word arrives. -/
def State.takeWrite (s : State) (rq : Requester) (off : Nat) (v : Word) : State :=
  match s.writeRank rq off v with
  | some k => s.defer k (.write rq off v)
  | none => s.takeNow rq off v none

/-- Once no earlier write of the requester is open, those held move in order (R90). -/
def State.drainWrites (s : State) (rq : Requester) : State :=
  if s.writesOpen rq then s
  else
    let mine := s.heldOf rq
    let s1 := { s with hif := { s.hif with held := s.hif.held.filter (fun h => h.rq != rq) } }
    mine.foldl (fun a h => a.takeNow rq h.off h.val (some h.seq)) s1

/-- Whether a read of the words from `off`, issued before the write numbered `seq`, waits for earlier writes of its
requester: HIF_FENCE for every one, another register for those to its page, and PCIe's for those that wait for credits
(R88, R90, R91). -/
def State.readBlocked (s : State) (rq : Requester) (off words seq : Nat) : Bool :=
  let held := (s.heldOf rq).filter (fun h => decide (h.seq < seq))
  let offs := held.map (·.off) ++ (s.hif.opens.filter (fun e => e.rq == rq && decide (e.seq < seq))).map (·.off)
  (offs.any fun o => (List.range words).any fun k =>
      off + 4 * k == Reg.HIF_FENCE || o / 0x1000 == (off + 4 * k) / 0x1000)
    || (rq == .pcie && decide (64 < held.length))

end Sys2Proof.Machine
end

