-- ==== Sys2Proof/Machine/Rtc.lean ====
section
/-! DEFINITION. The RTC's commands (chapter 17): the calendar, its setting, shadows, trimming, oscillator, supply and
wake. The backup domain runs on while the module is held in reset (R522, R531). -/

namespace Sys2Proof.Machine

/-- RTC_SECOND: the prescaler completes a second (R522, R523). -/
def execRtcSecond (s : State) : Host.Outcome State Fault Refusal := s.always fun s =>
  if s.rtcHalt then s else s.rollRtc

/-- RTC_HALT_SET: a write of RTC_CTL with HALT = 1; `count` is the prescaler's count at which it stops (R524); discarded
in the soft reset (R95). -/
def execRtcHaltSet (count : Nat) (s : State) : Host.Outcome State Fault Refusal := s.powered fun s =>
  if s.rtcHalt ∨ s.inSrst Blk.RTC then s else (s.setRtc { s.rtc with presc := count % 32768 }).haltRtc

/-- RTC_HALT_CLEAR: a write of RTC_CTL with HALT = 0 (R524). -/
def execRtcHaltClear (s : State) : Host.Outcome State Fault Refusal := s.powered fun s =>
  if s.inSrst Blk.RTC then s else s.unhaltRtc

/-- RTC_TB0_SET: a whole second of TB0 with TB0_SET and SYNC; `count` is the prescaler's count at that moment (R525). -/
def execRtcTb0Set (count : Nat) (s : State) : Host.Outcome State Fault Refusal := s.powered fun s =>
  if !s.flag Reg.RTC_CFG 2 ∨ !s.flag (Reg.NTU_TBn_STAT 0) 1 ∨ 1 < (s.tb 0).ns then s
  else
    let t : Int := ((s.tb 0).sec : Int) - signed 16 (s.fld Reg.NTU_UTC_OFFSET 0 16)
    match calOfSeconds t.toNat with
    | none => s
    | some c =>
      let away := (rtcTicks c 0 - rtcTicks s.rtc.cal count).natAbs
      if s.rtcBit RtcBit.OSF ∨ (!s.rtcHalt ∧ 32768 ≤ away) then
        (((s.setCal c count).satInc Reg.RTC_SET_CNT 0 32 1).raiseIrq Blk.RTC 6)
      else s

/-- RTC_SHADOW_FREEZE: a read of SUBSEC, SEC, MIN, HOUR, DAY or MONTH (`field` 0 to 5) freezes the shadows where they are
released, and returns the frozen value (R526). -/
def execRtcShadowFreeze (rq : Requester) (field count : Nat) (s : State) : Host.Outcome State Fault Refusal := s.powered fun s =>
  if 5 < field then s
  else let (v, s1) := s.readCal (Reg.RTC_SUBSEC + 4 * field) count; (s1.emit (.readData rq [v]))

/-- RTC_YEAR_READ: YEAR's frozen value, and the release of the shadows (R526). -/
def execRtcYearRead (rq : Requester) (count : Nat) (s : State) : Host.Outcome State Fault Refusal := s.powered fun s =>
  let (v, s1) := s.readCal Reg.RTC_YEAR count
  (s1.emit (.readData rq [v]))

/-- RTC_SHADOW_TIMEOUT: 500 ms of SYS time since the freeze without a read of YEAR, behind one in its cycle (R526). -/
def execRtcShadowTimeout (s : State) : Host.Outcome State Fault Refusal := s.powered fun s =>
  match s.rtc.shadow with
  | none => s
  | some (_, _, clk) =>
    if s.clk < clk + 500 * msClk then s
    else s.yielding Rank.EXPIRY .rtcShadowTimeout fun s => ((s.releaseCal.setFlag Reg.RTC_STAT RtcBit.STALE true).raiseIrq Blk.RTC 5)

/-- TRIM_WINDOW: a 32 s window starts with the trim that its first ticks take (R527). -/
def execTrimWindow (s : State) : Host.Outcome State Fault Refusal :=
  s.always fun s => (s.setRtc { s.rtc with trimNow := s.trim })

/-- The steps nearest to a measured error in 0.01 ppm, a step being 0.954 ppm, at most 16 (R527, R528). -/
def trimSteps (err : Int) : Int := clampInt (-16) 16 ((20 * err + 954) / 1908)

/-- TRIM_MEASURE: a measurement window ends with its error in 0.01 ppm; `held` tells that the reference was LOCKED, or in
SYNC, throughout; a new window begins (R528). -/
def execTrimMeasure (err : Int) (held : Bool) (s : State) : Host.Outcome State Fault Refusal := s.powered fun s =>
  let now := match s.fld Reg.RTC_CFG 0 2 with
    | 1 => s.fld Reg.LAT_STATE 0 3 == LatSt.LOCKED
    | 2 => s.flag (Reg.NTU_TBn_STAT 0) 1
    | _ => false
  if !s.trimDue then s
  else if !now || !held then s.startTrim
  else ((s.setNum Reg.RTC_TRIM_ERR (unsigned 32 err)).setTrim (s.trim + trimSteps err)).startTrim

/-- OSC_STOP: no crystal edge for 1 ms (R529). -/
def execOscStop (s : State) : Host.Outcome State Fault Refusal := s.always fun s =>
  ((s.setFlag Reg.RTC_STAT RtcBit.OSF true).rtcIrq 3)

/-- The backup domain as its power-up leaves it: the calendar's first value under HALT, OSF, TRIM 0, no wake, backup RAM
all 0 (R529). -/
def State.backupReset (s : State) : State :=
  let s1 := s.setRtc ⟨Cal.first, 0, some Cal.first, none, 0, none, rtcTicks Cal.first 0⟩
  let s2 := [Reg.RTC_TRIM, Reg.RTC_WAKE, Reg.RTC_WAKE_CNT].foldl (fun a r => a.setNum r 0) s1
  let s3 := s2.forN 16 (fun a w => a.setNum (Reg.RTC_BKP w) 0)
  (((s3.setNum Reg.RTC_CTL 1).setNum Reg.RTC_STAT 1)).setNv { s3.sup.nv with bkpBad := true }

/-- BACKUP_POWER_UP: the backup domain powers up, which it does only while VMAIN was absent and the module is held in reset
(R529). -/
def execBackupPowerUp (s : State) : Host.Outcome State Fault Refusal := s.always fun s =>
  if s.sup.inReset then s.backupReset else s

/-- VBAT_CHECK: VBAT in mV (R530). -/
def execVbatCheck (mv : Nat) (s : State) : Host.Outcome State Fault Refusal := s.powered fun s =>
  if mv < 2200 ∧ !s.rtcBit RtcBit.VBAT_LOW then
    ((s.setFlag Reg.RTC_STAT RtcBit.VBAT_LOW true).raiseIrq Blk.RTC 7)
  else if 2400 < mv then (s.setFlag Reg.RTC_STAT RtcBit.VBAT_LOW false)
  else s

/-- RTC_WAKE: PERIOD ticks have passed since the last wake, the write, or the clear of HALT (R531). It comes in
the second in which it falls: before that second nothing happens (log entry 208). -/
def execRtcWake (s : State) : Host.Outcome State Fault Refusal := s.always fun s =>
  let next := s.rtc.wakeAt + 512 * (s.fld Reg.RTC_WAKE 0 20 : Nat)
  if s.fld Reg.RTC_WAKE 0 20 = 0 ∨ s.rtcHalt ∨ rtcTicks s.rtc.cal 32767 < next then s
  else
    let s0 := s.setRtc { s.rtc with wakeAt := next }
    let s1 := s0.satInc Reg.RTC_WAKE_CNT 0 16 1
    if s.sup.inReset then s1 else ((s1.rtcIrq 1).surveyRequest Srv.RTC_WAKE).2

end Sys2Proof.Machine
end

