-- ==== Sys2Proof/Machine/HostRead.lean ====
section
/-! DEFINITION. What a host register read returns, with its side effects: latches of _HI words and of whole entries (R33,
R131), clearing (R34, R43), masking (R552), locks and shadows (R488, R526). -/

namespace Sys2Proof.Machine

/-! ### Latches -/

/-- The _LO registers whose read latches the _HI word (R33): counters and values that the module updates. -/
def loRead : List (Nat × List (Nat × Nat)) :=
  [(0x100100, []), (0x100158, []), (0x10100C, []), (0x20005C, []), (0x200120, []), (0x202010, [(32, 48)]), (0x280114, []),
   (0x288000, [(16, 768)]), (0x2C012C, []), (0x2C1020, [(64, 16)]), (0x34010C, []),
   (0x341300, [(4096, 2), (64, 4), (8, 6)]), (0x344008, [(32, 16)]), (0x380400, [(32, 5)]), (0x381028, [(256, 2), (16, 8)]),
   (0x3C1004, [(32, 64)]), (0x1C0058, []), (0x1C0114, []), (0x1C011C, []), (0x1C0124, []), (0x14010C, []), (0x480104, []),
   (0x4C100C, [(32, 256)]), (0x40110, []), (0x34005C, [(8, 4)])]

/-- Whether a read of the register latches the word above it. -/
def latchesHi (off : Nat) : Bool := off % 0x40000 == 0x44 || pairFits loRead off

/-- An entry that a read of its first word latches: where the first words stand, the first latched word behind it, how many
words, and the end of the group's registers. -/
structure LatchGroup where
  first : Nat
  dims : List (Nat × Nat)
  skip : Nat
  words : Nat
  last : Nat
deriving DecidableEq, Repr

/-- The entries read whole (R131, R151, R200, and the notes under the register tables). -/
def latchGroups : List LatchGroup :=
  [⟨0x10012C, [], 4, 9, 0x100154⟩, ⟨0x120000, [(32, 4096)], 4, 7, 0x140000⟩, ⟨0x202000, [(32, 48)], 4, 7, 0x202600⟩,
   ⟨0x242000, [(16, 1024)], 4, 3, 0x246000⟩, ⟨0x281000, [(32, 768)], 4, 7, 0x287000⟩, ⟨0x2C100C, [(64, 16)], 4, 10, 0x2C1400⟩,
   ⟨0x30105C, [(128, 96)], 4, 7, 0x304000⟩, ⟨0x341200, [(4096, 2), (32, 3)], 4, 7, 0x343000⟩,
   ⟨0x341260, [(4096, 2)], 4, 7, 0x343000⟩, ⟨0x3C1000, [(32, 64)], 4, 6, 0x3C1800⟩, ⟨0x3C4000, [(16, 1024)], 4, 3, 0x3C8000⟩,
   ⟨0x4C1000, [(32, 256)], 4, 7, 0x4C3000⟩, ⟨0x141008, [(256, 4)], 4, 3, 0x141400⟩, ⟨0x441004, [(32, 24)], 8, 4, 0x441300⟩]

/-- The group whose first word stands at `off`. -/
def groupAt (off : Nat) : Option LatchGroup :=
  latchGroups.find? (fun g => decide (g.first ≤ off) && dimsFit g.dims (off - g.first))

/-- A read of a first word: the group's latched copy ends, and the rest of this entry is latched. -/
def State.latchEntry (s : State) (off : Nat) : State :=
  match groupAt off with
  | none => s
  | some g =>
    let s1 := { s with latch := tdrop s.latch (fun k => decide (g.first ≤ k) && decide (k < g.last)) }
    (List.range g.words).foldl (fun a i =>
      let k := off + g.skip + 4 * i
      { a with latch := tput a.latch k (if s.masked k then 0 else s.view k) }) s1

/-- A read of LAT_XS_SEQ ends the latched cross-stamp (R131). -/
def State.endXs (s : State) (off : Nat) : State :=
  if off = Reg.LAT_XS_SEQ then { s with latch := tdrop s.latch (fun k => decide (0x10012C ≤ k) && decide (k < 0x100154)) } else s

/-! ### Clearing -/

/-- What a read leaves in a register that it clears (R34, R98, R535). -/
def State.clearRead (s : State) (r : RegRow) (off : Nat) : State :=
  if off = Reg.OPT_HWM then s.setNum off s.openCount
  else if off = Reg.RTC_STAT then s.setFlag off RtcBit.STALE false
  else match r.acc with
    | .rc => s.setReg off 0
    | _ => s

/-- A read of ERR_CODE: the detail of the code it returns goes to ERR_INFO, code, count and detail clear (R43). -/
def State.readErr (s : State) (b : Nat) : State :=
  let s1 := (s.setReg (Reg.ERR_INFO b) (tget (fun _ => 0) s.errDetail b)).setReg (Reg.ERR_CODE b) 0
  { s1 with errDetail := tdel s1.errDetail b }

/-! ### Locks of the field bus (R488) -/

/-- The receive entry, (channel, number), whose header stands at `off`: 0 to 63 a buffer, 64 the FIFO's front. -/
def rxHeader (off : Nat) : Option (Nat × Nat) :=
  match regIdx Reg.FBC_CHc_RXF_HDR 4 off with
  | some c => some (c, 64)
  | none =>
    let k := (off - 0x410008) / 128
    if 0x410008 ≤ off ∧ (off - 0x410008) % 128 = 0 ∧ k < 256 then some (k / 64, k % 64) else none

/-- A read of a header locks its entry; a read of the locked entry's last word releases it. -/
def State.readLock (s : State) (off : Nat) : State :=
  match rxHeader off with
  | some (c, e) => s.lockEntry c e
  | none => s

/-- A read of the last word of a locked entry releases its lock (R488). -/
def State.readUnlock (s : State) (off : Nat) : State :=
  s.forN 4 fun a c => match (a.canCh c).lock with
    | some (e, _) => if a.lastWord c e = off ∧ rxHeader off = none then a.releaseLock c else a
    | none => a

/-! ### A read -/

/-- The value of a register that no latch holds, and the latches it sets. DESIGN CHOICE (log entry 187): PCIe and SPI share one
latch of a _HI word and of an entry. -/
def State.readLive (s : State) (r : RegRow) (off : Nat) : Word × State :=
  if s.masked off then (0, s.satInc Reg.TEN_MASKED_CNT 0 32 1)
  else
    let v := s.view off
    let s1 := if latchesHi off then { s with loLatch := tput s.loLatch (off + 4) (s.view (off + 4)) } else s
    (v, (s1.latchEntry off).clearRead r off)

/-- A host read of one word: its value and what the read does. `count` is the RTC prescaler's count at that moment. -/
def State.readMapped (s : State) (rq : Requester) (off count : Nat) : Word × State :=
  match regRow? off with
  | none => (0, s.noteUnmapped rq off)
  | some r =>
    if off = Reg.HIF_FENCE then (s.fenceSeq rq, s)
    else if (calField Cal.first 0 off).isSome then s.readCal off count
    else if off % 0x40000 = 0x20 then (s.view off, s.readErr (off / 0x40000))
    else match tfind? s.loLatch off with
      | some v => (v, ({ s with loLatch := tdel s.loLatch off }).clearRead r off)
      | none => match tfind? s.latch off with
        | some v => (v, s.clearRead r off)
        | none =>
          let (v, s1) := (s.readLock off).readLive r off
          (v, (s1.endXs off).readUnlock off)

/-- A host read of one word; over the SPI, HIF_LINK_STAT shows the transaction that reads it (R63). -/
def State.readWord (s : State) (rq : Requester) (off count : Nat) : Word × State :=
  let (v, s1) := s.readMapped rq off count
  (if rq = .spi ∧ off = Reg.HIF_LINK_STAT then BitVec.ofNat 32 (putBits v.toNat 9 1 1) else v, s1)

/-- Words read in ascending order. -/
def State.readWords (s : State) (rq : Requester) (off count n : Nat) : List Word × State :=
  match n with
  | 0 => ([], s)
  | k + 1 =>
    let (v, s1) := s.readWord rq off count
    let (l, s2) := s1.readWords rq (off + 4) count k
    (v :: l, s2)

/-- A host read of one word is answered. -/
def State.readAnswered (s : State) (rq : Requester) (off : Nat) : State :=
  let (v, s1) := s.readWord rq off (Config.freeWord s.free).toNat
  (if (calField Cal.first 0 off).isSome then s1.nextFree else s1).answerRead rq v

/-- A host read of one word: it is answered, or waits for the writes it may not pass (R88, R91). -/
def State.hostRead (s : State) (rq : Requester) (off : Nat) : State :=
  if s.readBlocked rq off 1 s.hif.nextSeq then
    { s with hif := { s.hif with waiting := s.hif.waiting ++ [⟨rq, off, none, 0, false, s.hif.nextSeq⟩] } }
  else s.readAnswered rq off

/-- A host read of one word arrives. -/
def State.readBehind (s : State) (rq : Requester) (off : Nat) : State :=
  s.behind rq (.read rq off) fun s => s.hostRead rq off

/-! ### The management SPI (R49 to R53, R91) -/

/-- A word MSB first. -/
def wordBytes (v : Word) : List Byte := beBytes 4 v.toNat

/-- An SPI READ drives its ready bytes, 01h and the words; one that ends inside a word sets ERR (R50, R51). -/
def State.spiAnswer (s : State) (off words count : Nat) (cut : Bool) (ready : Nat) : State :=
  let (l, s1) := s.readWords .spi off count words
  let s2 := s1.nextFree.emit (.spiBytes (List.replicate ready 0 ++ 1 :: (l.map wordBytes).flatten))
  if cut then s2.spiError else s2

/-- A read that waited is answered. -/
def State.answerWaiting (s : State) (w : WaitRead) : State :=
  match w.words with
  | none => s.readAnswered w.rq w.off
  | some n => s.spiAnswer w.off n w.count w.cut (Config.spiWait s.free).val

/-- The reads whose writes have taken effect are answered, in the order issued (R88, R91). -/
def State.answerReads (s : State) : State :=
  let stay := fun (w : WaitRead) => s.readBlocked w.rq w.off (w.words.getD 1) w.seq
  (s.hif.waiting.filter (fun w => !stay w)).foldl State.answerWaiting
    { s with hif := { s.hif with waiting := s.hif.waiting.filter stay } }

/-- The master abandons an SPI READ that still waits after 64 bytes of 00h; it has had no effect (R50). -/
def State.abandonSpi (s : State) : State :=
  if s.hif.waiting.any (fun w => w.words.isSome) then
    { s with hif := { s.hif with waiting := s.hif.waiting.filter (fun w => w.words.isNone) } }.emit
      (.spiBytes (List.replicate 64 0))
  else s

/-- A READ, WRITE or IDENT begins: ERR tells of the transaction before it no more (R51). -/
def State.startSpi (s : State) : State :=
  let s1 := s.abandonSpi
  { s1 with hif := { s1.hif with spiErr := false } }

end Sys2Proof.Machine
end

