-- ==== Sys2Proof/Machine/HostAccess.lean ====
section
/-! DEFINITION. The host's register accesses as commands: reads and writes of both requesters, the management SPI, fences
and soft resets (chapters 02 and 03), and the writes of single registers that other chapters give a row. -/

namespace Sys2Proof.Machine

/-! ### Writes -/

/-- REG_WRITE: the dwords of one TLP in ascending order; one with byte enables other than 1111b is discarded and counted
(R32, R34). -/
def execRegWrite (rq : Requester) (off : Nat) (data : List (BitVec 4 × Word)) (s : State) :
    Host.Outcome State Fault Refusal := s.powered fun s =>
  ((data.take 16).zipIdx.foldl (fun a (e : (BitVec 4 × Word) × Nat) =>
    if e.1.1 = 0xF then a.takeWrite rq (off + 4 * e.2) e.1.2 else a.satInc Reg.HIF_BADACC_CNT 0 32 1) s)

/-- IRQ_STAT_CLEAR: a bit whose event occurs again in the same cycle stays set (R41). -/
def execIrqStatClear (rq : Requester) (block : Nat) (value recurs : Word) (s : State) : Host.Outcome State Fault Refusal := s.powered fun s =>
  (s.takeWrite rq (Reg.IRQ_STAT block) (value &&& ~~~recurs))

/-- IRQ_FORCE (R36). -/
def execIrqForce (rq : Requester) (block : Nat) (value : Word) (s : State) : Host.Outcome State Fault Refusal := s.powered fun s =>
  (s.takeWrite rq (Reg.IRQ_FORCE block) value)

/-- CTRL_EN (R37). -/
def execCtrlEn (rq : Requester) (block : Nat) (value : Word) (s : State) : Host.Outcome State Fault Refusal := s.powered fun s =>
  (s.takeWrite rq (Reg.CTRL block) value)

/-- SRST: CTRL is written with SRST = 1 and its other bits as they stand (R95). -/
def execSrst (rq : Requester) (block : Nat) (s : State) : Host.Outcome State Fault Refusal := s.powered fun s =>
  (s.takeWrite rq (Reg.CTRL block) ((s.reg (Reg.CTRL block) &&& 5) ||| 2))

/-- SOFT_RESET_COMPLETE: step 4 of R95; the writes discarded in the reset count as having taken effect, so fences behind
them move and reads that waited for them are answered (R88 to R91). -/
def execSoftResetComplete (block : Nat) (s : State) : Host.Outcome State Fault Refusal := s.powered fun s =>
  if !s.inSrst block then s
  else
    let s1 := s.resetEnd block
    let fenced := s1.openIn block && s1.hif.held.any (fun h => h.rq == .pcie && h.stands)
    let s2 := { s1 with hif := { s1.hif with opens := s1.hif.opens.filter (fun e => e.off / 0x40000 != block) } }
    let s3 := if fenced then s2.setReg (Reg.FENCE_SEQ block) s2.hif.fencePcie else s2
    ((s3.drainWrites .pcie).drainWrites .spi).answerReads

/-- UNMAPPED_ACCESS: a read returns 0, a write is discarded, both are recorded (R31). An offset some block
implements is no such access. -/
def execUnmappedAccess (rq : Requester) (off : Nat) (write : Bool) (s : State) : Host.Outcome State Fault Refusal := s.powered fun s =>
  if (regRow? off).isSome then s
  else if write then (s.takeWrite rq off 0)
  else s.readBehind rq off

/-- SPI_LOCK: a write of HIF_SPI_CTRL; LOCK is set from PCIe alone (R53). -/
def execSpiLock (rq : Requester) (value : Word) (s : State) : Host.Outcome State Fault Refusal := s.powered fun s =>
  (s.takeWrite rq Reg.HIF_SPI_CTRL value)

/-- HIF_FENCE: a write of HIF_FENCE; its value is ignored (R90). -/
def execHifFence (rq : Requester) (s : State) : Host.Outcome State Fault Refusal := s.powered fun s =>
  (s.takeWrite rq Reg.HIF_FENCE 0)

/-- SQ_ENABLE (R64): fetching starts from HEAD or stops; descriptors fetched run on. -/
def execSqEnable (rq : Requester) (ring : Nat) (value : Word) (s : State) : Host.Outcome State Fault Refusal := s.powered fun s =>
  if ring < 8 then (s.takeWrite rq (Reg.HIF_SQn_CTRL ring) value) else s

/-- CQ_ENABLE (R55, R64). -/
def execCqEnable (rq : Requester) (queue : Nat) (value : Word) (s : State) : Host.Outcome State Fault Refusal := s.powered fun s =>
  if queue < 8 then (s.takeWrite rq (Reg.HIF_CQn_CTRL queue) value) else s

/-- CQ_HEAD_WRITE (R61). -/
def execCqHeadWrite (rq : Requester) (queue : Nat) (value : Word) (s : State) : Host.Outcome State Fault Refusal := s.powered fun s =>
  if queue < 8 then (s.takeWrite rq (Reg.HIF_CQn_HEAD queue) value) else s

/-- SQ_DOORBELL (R56). -/
def execSqDoorbell (rq : Requester) (ring : Nat) (value : Word) (s : State) : Host.Outcome State Fault Refusal := s.powered fun s =>
  if ring < 8 then (s.takeWrite rq (Reg.HIF_SQn_DB ring) value) else s

/-- MBOX_GO (R54). -/
def execMboxGo (rq : Requester) (value : Word) (s : State) : Host.Outcome State Fault Refusal := s.powered fun s =>
  (s.takeWrite rq Reg.HIF_MBOX_GO value)

/-- LOST_RELEASE (R85). -/
def execLostRelease (rq : Requester) (value : Word) (s : State) : Host.Outcome State Fault Refusal := s.powered fun s =>
  (s.takeWrite rq Reg.OPT_LOST_CTRL value)

/-- PORT_EN_WRITE (R165). -/
def execPortEnWrite (rq : Requester) (port : Nat) (value : Word) (s : State) : Host.Outcome State Fault Refusal := s.powered fun s =>
  if port < 48 then (s.takeWrite rq (Reg.PSE_PnCFG port) value) else s

/-- BIQUAD_W0_WRITE (R315). -/
def execBiquadW0Write (rq : Requester) (loop section_ : Nat) (value : Word) (s : State) :
    Host.Outcome State Fault Refusal := s.powered fun s =>
  if loop < 96 ∧ section_ < 4 then (s.takeWrite rq (Reg.LPE_LnBQk_W0 loop section_) value) else s

/-- MODE_REQ_WRITE (R316). -/
def execModeReqWrite (rq : Requester) (loop : Nat) (value : Word) (s : State) : Host.Outcome State Fault Refusal := s.powered fun s =>
  if loop < 96 then (s.takeWrite rq (Reg.LPE_LnCTL loop) value) else s

/-- FAB_PORT_EN_WRITE (R469). -/
def execFabPortEnWrite (rq : Requester) (port : Nat) (value : Word) (s : State) : Host.Outcome State Fault Refusal := s.powered fun s =>
  if 49 < port then s else (s.takeWrite rq (Reg.FAB_PnCFG port) value)

/-- MDIO_CMD (R468). -/
def execMdioCmd (rq : Requester) (value : Word) (s : State) : Host.Outcome State Fault Refusal := s.powered fun s =>
  (s.takeWrite rq Reg.FAB_MDIO_CMD value)

/-- RESTRICT_WRITE (R494). -/
def execRestrictWrite (rq : Requester) (channel : Nat) (value : Word) (s : State) : Host.Outcome State Fault Refusal := s.powered fun s =>
  if 3 < channel then s else (s.takeWrite rq (Reg.FBC_CHc_CTL channel) value)

/-- WDT_KICK: a write of DIO_WDT_KICK (R510, R518). -/
def execWdtKick (rq : Requester) (s : State) : Host.Outcome State Fault Refusal := s.powered fun s =>
  (s.takeWrite rq Reg.DIO_WDT_KICK 0)

/-- SURVEY_NOW: a write of SUP_SURVEY_NOW with bit 0 set (R581). -/
def execSurveyNow (s : State) : Host.Outcome State Fault Refusal :=
  s.powered fun s => (s.takeWrite .pcie Reg.SUP_SURVEY_NOW 1)

/-- SURVEY_ACK: a write of SUP_SURVEY_ACK with bit 0 set clears HELD (R583). -/
def execSurveyAck (s : State) : Host.Outcome State Fault Refusal :=
  s.powered fun s => (s.takeWrite .pcie Reg.SUP_SURVEY_ACK 1)

/-- BOOT_DATA: the next word of the host-loaded firmware (R572). -/
def execBootData (rq : Requester) (value : Word) (s : State) : Host.Outcome State Fault Refusal := s.powered fun s =>
  (s.takeWrite rq Reg.SUP_BOOT_DATA value)

/-! ### Reads -/

/-- RC_READ (R34). -/
def execRcRead (rq : Requester) (off : Nat) (s : State) : Host.Outcome State Fault Refusal :=
  s.powered fun s => s.readBehind rq off

/-- HI_LATCH_READ (R33). -/
def execHiLatchRead (rq : Requester) (off : Nat) (s : State) : Host.Outcome State Fault Refusal :=
  s.powered fun s => s.readBehind rq off

/-- ENTRY_LATCH_READ (R131). -/
def execEntryLatchRead (rq : Requester) (off : Nat) (s : State) : Host.Outcome State Fault Refusal :=
  s.powered fun s => s.readBehind rq off

/-- ERR_CODE_READ (R43). -/
def execErrCodeRead (rq : Requester) (block : Nat) (s : State) : Host.Outcome State Fault Refusal :=
  s.powered fun s => s.readBehind rq (Reg.ERR_CODE block)

/-- HIF_FENCE_READ: the sequence once every earlier write has taken effect; until then the read waits (R91). -/
def execHifFenceRead (rq : Requester) (s : State) : Host.Outcome State Fault Refusal :=
  s.powered fun s => s.readBehind rq Reg.HIF_FENCE

/-! ### The management SPI (R49 to R53) -/

/-- SPI_READ: ready bytes, 01h and the words; while earlier writes are open a read of HIF_FENCE or of their pages shows 00h
(R49, R50, R88, R91). DESIGN CHOICE (log entry 186): an address that is not dword-aligned is rounded down. -/
def execSpiRead (off : Nat) (words : SpiSpan) (count : Nat) (s : State) : Host.Outcome State Fault Refusal :=
  s.powered fun s => s.behind .spi (.spiRead off words count) fun s =>
    let o := off / 4 * 4
    let s1 := s.startSpi
    if s1.readBlocked .spi o words.words s1.hif.nextSeq then
      { s1 with hif := { s1.hif with waiting := s1.hif.waiting ++ [⟨.spi, o, some words.words, count, words.cut, s1.hif.nextSeq⟩] } }
    else s1.spiAnswer o words.words count words.cut (Config.spiReady s1.free).val

/-- SPI_WRITE: the words in ascending order; one cut short is discarded and sets ERR (R49, R51). -/
def execSpiWrite (off : Nat) (data : List Word) (cut : Bool) (s : State) : Host.Outcome State Fault Refusal := s.powered fun s =>
  let s1 := data.zipIdx.foldl (fun a (e : Word × Nat) => a.takeWrite .spi (off / 4 * 4 + 4 * e.2) e.1) s.startSpi
  (if cut then s1.spiError else s1)

/-- SPI_STATUS: BUSY, ERR, MINIMAL and READY; ERR clears (R51). -/
def execSpiStatus (s : State) : Host.Outcome State Fault Refusal := s.powered fun s =>
  let v := (if s.writesOpen .spi || s.fenced .spi || s.lateWrites .spi then 1 else 0) + (if s.hif.spiErr then 2 else 0)
    + (if s.mode = Mode.MINIMAL then 4 else 0) + (if s.flag (Reg.STAT Blk.SUP) 0 then 8 else 0)
  (s.startSpi.emit (.spiBytes [BitVec.ofNat 8 v]))

/-- SPI_IDENT: SUP_ID (R49). -/
def execSpiIdent (s : State) : Host.Outcome State Fault Refusal := s.powered fun s =>
  (s.startSpi.emit (.spiBytes (wordBytes (s.reg (Reg.ID Blk.SUP)))))

/-- An SPI transaction by its command byte (R49): the address of READ and WRITE, the words written, how many the master clocks
of a READ, whether CS_N rises inside a word; an unlisted byte is no command. -/
def spiCommand (code : Byte) (addr : Nat) (data : List Word) (words count : Nat) (cut : Bool) : Option Instr :=
  if code = 0x0B then some (.spiRead addr ⟨words, cut⟩ count)
  else if code = 0x02 then some (.spiWrite addr data cut)
  else if code = 0x05 then some .spiStatus
  else if code = 0x9F then some .spiIdent
  else none

end Sys2Proof.Machine
end

