-- ==== Sys2Proof/Machine/LcpLate.lean ====
section
/-! DEFINITION. The commands of LCP that reach SCN or STO: LUMINAIRE_LOSS (R208) and SCENE_WRITE (R234). -/

namespace Sys2Proof.Machine

/-- LUMINAIRE_LOSS: LOSS_MISS × REPORT + 500 ms passed without a STATUS: the entry is LOST, its open commands fail, its
points stand STALE, and SCN learns that the station is lost (R208, R280). A STATUS of the same SYS cycle counts (R218). -/
def execLuminaireLoss (entry : Nat) (s : State) : Host.Outcome State Fault Refusal :=
  s.powered fun s => s.yielding Rank.EXPIRY (.luminaireLoss entry) fun s =>
  if !s.en Blk.LCP ∨ 768 ≤ entry ∨ !s.lumOnline entry ∨ s.clk < (s.lum entry).statusClk + s.lcpLossClk then s
  else
    let s1 := (s.failEntry entry St.FAIL_STATION_LOST).setLumState entry LumSt.LOST
    ((s1.raiseIrq Blk.LCP 2).stationLost (.lum entry))

/-- Put a scene word; its reserved bits are 0 (R221). -/
def State.putScene (s : State) (e k sc : Nat) (w : Word) : State :=
  { s with lcp := { s.lcp with
      scenes := tset (fun _ => 0x8000#32) s.lcp.scenes ((e * 4 + k) * 64 + sc) (w &&& 0x7FFFBFFF#32) } }

/-- Put a header word; its reserved bits are 0 (R221). -/
def State.putHeader (s : State) (g sc : Nat) (w : Word) : State :=
  { s with lcp := { s.lcp with headers := tset (fun _ => 0#32) s.lcp.headers (g * 64 + sc) (w &&& 0xFFFF#32) } }

/-- The LCP object of STO that holds scene and header words (R375). -/
def sceneObj : Nat := objId 0 Blk.LCP 1

/-- What SCENE_WRITE makes of its PARAM: the status that refuses it, or the state with the word changed (R212, R221,
R230, R234). -/
def State.sceneWrite (s : State) (x : Slot) : Except Nat State :=
  let i := paramField x.param 0 2
  let k := paramField x.param 2 1
  let sc := paramField x.param 3 1
  let w : Word := BitVec.ofNat 32 (paramField x.param 4 4)
  if s.mode = Mode.MINIMAL then .error St.FAIL_DENIED
  else if 63 < sc then .error St.FAIL_INVALID
  else if k = 0xFF then
    if 255 < i then .error St.FAIL_INVALID
    else if !s.mayAddressGroup x.ctx i then .error St.FAIL_DENIED
    else .ok (s.putHeader i sc w)
  else if 3 < k ∨ 768 ≤ i then .error St.FAIL_INVALID
  else if !s.flag (Reg.LCP_LnCFG i) (8 + k) ∨ 10000 < bitsOf w.toNat 0 14 then .error St.FAIL_INVALID
  else if !s.mayAddressLum x.ctx i then .error St.FAIL_DENIED
  else .ok (s.putScene i k sc w)

/-- SCENE_WRITE: the word changes; with PERSIST the operation completes when the change is durable (R234). -/
def execSceneWrite (tag : Nat) (s : State) : Host.Outcome State Fault Refusal := s.powered fun s =>
  match s.activeOp tag Blk.LCP 6 with
  | none => s
  | some x =>
    if s.lcp.sceneWait.contains tag then s
    else match s.sceneWrite x with
      | .error e => (s.decideOp tag e 0)
      | .ok s1 =>
        if bitOf (paramField x.param 8 1) 0 then
          let s2 := { s1 with lcp := { s1.lcp with sceneWait := s1.lcp.sceneWait ++ [tag] } }
          (s2.stoAsk (.scenes tag) sceneObj StoOp.PUT (s2.stoFree sceneObj))
        else (s1.decideOp tag St.OK 0)

end Sys2Proof.Machine
end

