-- ==== Sys2Proof/Machine/OpEnd.lean ====
section
/-! DEFINITION. How an operation ends from outside its block: by its timeout (R76), by CANCEL before its point of no return
(R80), and how a request that waits for a tag begins (R73). -/

namespace Sys2Proof.Machine

/-! ### Timeouts (R76) -/

/-- The remote write that a tag tracks. -/
def State.remoteByTag (s : State) (t : Nat) : Option RemoteWrite := s.scn.remote.find? (fun w => w.tag == some t)

/-- The code with which an operation of STO times out: a CRITICAL write that waits for a peer under CRIT_LOCAL = 0 with none
up ends FAIL_STATION_LOST (R382). -/
def State.stoTimeoutCode (s : State) (t : Nat) : Nat :=
  match s.stoWrite t with
  | some w => if w.cls = Cls.CRITICAL ∧ !s.critLocal ∧ s.stoPeer.isNone then St.FAIL_STATION_LOST else St.FAIL_TIMEOUT
  | none => St.FAIL_TIMEOUT

/-- An operation ends by its timeout with what its block adds (R74, R160, R217, R225, R265); a firing whose action is
acknowledged by then takes the acknowledgement (R122). -/
def State.timeOut (s : State) (t : Nat) : State :=
  let x := s.slot t
  match s.remoteByTag t, s.lcp.cmds.find? (fun c => c.tag == t) with
  | some w, _ => s.settleRemote w St.FAIL_TIMEOUT
  | _, some c =>
    let e := c.change.entry
    let s1 := s.endCmd c St.FAIL_TIMEOUT 0 0
    match c.change.kind with
    | .cap => (s1.setFlag (Reg.LCP_LnSTATE e) 5 true).raiseIrq Blk.LCP 4
    | _ => s1
  | _, _ =>
    if x.block = Blk.STO then s.decideOp t (s.stoTimeoutCode t) 0
    else if x.block = Blk.PSE then s.decideOp t St.FAIL_TIMEOUT (s.portResult (paramField x.param 0 1))
    else if x.block = Blk.LAT then
      match s.lat.firings.find? (fun f => f.tag == t) with
      | some f => match s.ackOf f with
        | some st => s.endFiring t st f.result f.late
        | none => s.endFiring t St.FAIL_TIMEOUT f.result f.late
      | none => s.decideOp t St.FAIL_TIMEOUT 0
    else s.decideOp t St.FAIL_TIMEOUT 0

/-- OP_TIMEOUT: the timeout of an ACTIVE operation has passed (R74, R76); an event of the same SYS cycle wins (R78). A firing
keeps the RESULT of R122. -/
def execOpTimeout (tag : Nat) (s : State) : Host.Outcome State Fault Refusal :=
  s.powered fun s => s.yielding Rank.EXPIRY (.opTimeout tag) fun s =>
    let x := s.slot tag
    if x.st ≠ .active ∨ s.clk < x.beginClk + x.timeoutMs * msClk then s
    else ((s.timeOut tag).forgetTag tag)

/-! ### CANCEL (R80) -/

/-- Whether the bytes of an open write have begun to reach NAND or MRAM (R376). -/
def State.writeBegun (s : State) (t : Nat) : Bool :=
  match s.stoWrite t with
  | some w => !w.copy1.isEmpty || !w.copy2.isEmpty || s.writeBusy t 1 || s.writeBusy t 2
  | none => false

/-- Starts of frame of an operation's frame (R497). -/
def State.canAttempts (s : State) (t : Nat) : Nat :=
  ((List.range 4).map (fun c =>
    ((((s.canCh c).fifo ++ (s.canCh c).wait).filter (fun e => e.tag == t)).map (fun e => e.attempts)).foldl (· + ·) 0
      + ((List.range 64).map (fun b => if (s.canBuf c b).tag = some t then (s.canBuf c b).attempts else 0)).foldl (· + ·) 0)
    ).foldl (· + ·) 0

/-- The unit whose planned move an operation MOVE waits for. -/
def State.movedUnit (s : State) (t : Nat) : Option Nat :=
  (List.range s.hlk.infos.length).find? (fun u => (s.unitRow u).moveTag == some t)

/-- Whether an ACTIVE operation has a point of no return and has not passed it (R80, R159, R217, R265, R293, R376, R432,
R466, R497). -/
def State.cancellable (s : State) (t : Nat) : Bool :=
  let x := s.slot t
  match s.remoteByTag t, s.lcp.cmds.find? (fun c => c.tag == t) with
  | some w, _ => match w.phase, w.station with
    | .inRun, _ => true
    | .waiting, _ => true
    | .handed, .node _ _ => true
    | _, _ => false
  | _, some c => c.tx == 0
  | _, _ => match x.block, x.opcode with
    | 0x07, 1 => !s.fab.tx.any (fun y => y.tag == t && y.ord == x.ord)
    | 0x07, 2 => true
    | 0x08, 1 => !s.pse.pastReturn.contains x.ord
    | 0x08, 3 => !s.pse.pastReturn.contains x.ord
    | 0x0B, 2 => match s.scn.xch with
      | some y => y.tag != some t || (!y.begun && decide (s.chain < y.x))
      | none => true
    | 0x0E, 1 => !s.writeBegun t
    | 0x0E, 2 => !s.writeBegun t
    | 0x0E, 3 => true
    | 0x0F, 2 => match s.movedUnit t with
      | some u => (s.unitRow u).st == 3 && decide (s.chain < (s.unitRow u).x)
      | none => true
    | 0x10, 1 => s.canAttempts t == 0
    | _, _ => false

/-- A planned move is given up before X: the new host lets the unit go and the old one keeps it (R421, R432). -/
def State.cancelMove (s : State) (u : Nat) : State :=
  match (s.unitRow u).host, s.hlk.infos[u]? with
  | some m, some i =>
    let s1 := if m = s.sup.moduleNum then (s.unbindUnit i).dropHosted u else s.linkSendRel m Al.UNPLACE [i.key, 0, 255] []
    s1.onPlaced u m St.FAIL_CANCELLED
  | _, _ => s

/-- A target is cancelled, with what its block gives up. -/
def State.cancelOp (s : State) (t : Nat) : State :=
  let x := s.slot t
  match s.remoteByTag t, s.lcp.cmds.find? (fun c => c.tag == t) with
  | some w, _ => s.settleRemote w St.FAIL_CANCELLED
  | _, some c => s.endCmd c St.FAIL_CANCELLED 0 0
  | _, _ =>
    if x.block = Blk.SCN then
      let s1 := match s.scn.xch with
        | some y => if y.tag = some t then { s with scn := { s.scn with xch := none } }.setFlag Reg.SCN_BANK 3 false else s
        | none => s
      s1.decideOp t St.FAIL_CANCELLED 0
    else if x.block = Blk.HLK then
      match s.movedUnit t with
      | some u => s.cancelMove u
      | none => s.decideOp t St.FAIL_CANCELLED 0
    else if x.block = Blk.PSE then s.decideOp t St.FAIL_CANCELLED (s.portResult (paramField x.param 0 1))
    else s.decideOp t St.FAIL_CANCELLED 0

/-- CANCEL (R79, R80): RESULT 1 for a target that is cancelled, 0 for one that runs on; a status report of the same SYS cycle
is taken first (R78). -/
def execCancel (tag : Nat) (s : State) : Host.Outcome State Fault Refusal :=
  s.powered fun s => s.yielding Rank.CANCEL (.cancel tag) fun s =>
  match s.activeOp tag Blk.OPT 1 with
  | none => s
  | some x => match s.targetRefusal x with
    | some st => (s.decideOp tag st 0)
    | none =>
      let t := bitsOf (paramField x.param 0 2) 0 9
      if (s.slot t).st = .active ∧ s.cancellable t then
        (((s.cancelOp t).forgetTag t).decideOp tag St.OK 1)
      else (s.decideOp tag St.OK 0)

/-! ### Requests that wait for a tag (R73) -/

/-- The block whose request it is. -/
def TagWait.blk (w : TagWait) : Nat :=
  match w with
  | .stake _ => Blk.LAT
  | .lcpChange _ => Blk.LCP
  | .hlkWrite _ => Blk.HLK
  | .stoWrite _ => Blk.STO

/-- The request that takes a freed tag: of the lowest block ID, and of that block the one that waited longest. -/
def State.nextTagWait (s : State) : Option TagWait :=
  let low := s.opt.tagWait.foldl (fun m w => Nat.min m w.blk) 0xFF
  s.opt.tagWait.find? (fun w => w.blk == low)

/-- TAG_WAIT_RELEASE: a stake is treated as past due (R124), another request begins; behind the internal producers the
mailbox's descriptor that waits (R72). -/
def execTagWaitRelease (s : State) : Host.Outcome State Fault Refusal := s.powered fun s =>
  match s.nextTagWait, s.freeTag with
  | some w, some _ =>
    let s1 := { s with opt := { s.opt with tagWait := s.opt.tagWait.erase w } }
    match w with
    | .stake i => (s1.pastDue i)
    | .lcpChange _ => (s1.formQueued s1.lcp.queue.length)
    | .stoWrite id => match s1.sto.held.find? (fun a => a.id == id) with
      | some a => ({ s1 with sto := { s1.sto with held := s1.sto.held.filter (fun b => b.id != id) } }.beginAsk a)
      | none => s1
    | .hlkWrite id => match s1.hlk.heldOps.find? (fun o => o.id == id) with
      | some o => ({ s1 with hlk := { s1.hlk with heldOps := s1.hlk.heldOps.filter (fun p => p.id != id) } }.serveFor o)
      | none => s1
  | none, some _ => if s.hif.mboxWait ∧ s.mayAccept then s.mboxSubmit else s
  | _, none => s

end Sys2Proof.Machine
end

