-- ==== Sys2Proof/Machine/ScnFlow.lean ====
section
/-! DEFINITION. The scan engine's jumps and function-block calls (R253, R254, R261 to R263). -/

namespace Sys2Proof.Machine

/-- PC + 1 + DISP24, of 24 bits (R241, R253). The run's PC stands after the jump already. -/
def Run.jump (r : Run) (w : Word) : Run := { r with pc := unsigned 24 ((r.pc : Int) + signed 24 (wImm w)) }

/-- JU. -/
def execScnJu (lane : Nat) (s : State) : Host.Outcome State Fault Refusal := s.powered fun s =>
  (s.issueRun 0x90 lane fun _ r w => r.jump w)

/-- JT: jump when CB = 1. -/
def execScnJt (lane : Nat) (s : State) : Host.Outcome State Fault Refusal := s.powered fun s =>
  (s.issueRun 0x91 lane fun _ r w => if r.fr.cb then r.jump w else r)

/-- JF: jump when CB = 0. -/
def execScnJf (lane : Nat) (s : State) : Host.Outcome State Fault Refusal := s.powered fun s =>
  (s.issueRun 0x92 lane fun _ r w => if r.fr.cb then r else r.jump w)

/-- JVS: jump when VS = 1; VS ← 0. -/
def execScnJvs (lane : Nat) (s : State) : Host.Outcome State Fault Refusal := s.powered fun s =>
  (s.issueRun 0x93 lane fun _ r w =>
    let r1 := { r with fr := { r.fr with vs := false } }
    if r.fr.vs then r1.jump w else r1)

/-- LOOP: XR ← XR − 1; jump when XR ≠ 0. -/
def execScnLoop (lane : Nat) (s : State) : Host.Outcome State Fault Refusal := s.powered fun s =>
  (s.issueRun 0x94 lane fun _ r w =>
    let r1 := { r with xr := r.xr - 1 }
    if r1.xr ≠ 0 then r1.jump w else r1)

/-- SELI: TIR ← IB + OFFSET (+ XR), in SPACE 5, 16-byte aligned (R254). -/
def execScnSeli (lane : Nat) (s : State) : Host.Outcome State Fault Refusal := s.powered fun s =>
  (s.issue 0xA0 lane fun s r w =>
    let a := r.effAddr w
    if wSpace w ≠ Sp.D ∨ s.spaceLimit r Sp.D ≤ a then .error ScnFault.ADDRESS
    else if a % 16 ≠ 0 then .error ScnFault.ALIGN
    else .ok (s.putRun { r with tir := r.ib + a }))

/-- The call of FB type `i` on TIR (R262 step 3, R263). -/
def State.callFb (s : State) (r : Run) (i : Nat) : Except Nat State :=
  let k := s.bank r.bankB
  match k.fbTypes[i]? with
  | none => .error ScnFault.TYPE
  | some ty =>
    if k.dataSize < r.tir + 16 ∨ k.dataWord (r.tir + 4) % 65536 ≠ i then .error ScnFault.TYPE
    else if 64 ≤ r.calls.length then .error ScnFault.CALL_OVF
    else if ((s.runEntry r).map (·.lSize)).getD 0 < r.lb + r.fsz + ty.lSize then .error ScnFault.LSTACK_OVF
    else
      let fr : Frame := ⟨r.pc, r.ib, r.lb, r.tir, r.fr, r.base, r.fsz⟩
      .ok (s.putRun { r with calls := fr :: r.calls, ib := r.tir, lb := r.lb + r.fsz, fsz := ty.lSize,
                             base := r.cond.length, fr := { r.fr with en := r.fr.cb }, pc := ty.entry })

/-- CALL (R262). -/
def execScnCall (lane : Nat) (s : State) : Host.Outcome State Fault Refusal := s.powered fun s =>
  (s.issue 0xA1 lane fun s r w => s.callFb r (wImm w))

/-- CALLT: CALL when CB = 1 (R262). -/
def execScnCallt (lane : Nat) (s : State) : Host.Outcome State Fault Refusal := s.powered fun s =>
  (s.issue 0xA2 lane fun s r w => if r.fr.cb then s.callFb r (wImm w) else .ok (s.putRun r))

/-- The return: the frame is popped, EN and CB take the callee's EN, V, Z, N and U come from the callee and VS is the
or of both (R262 step 4); in a task's root it is END (R254). Entries above the base fault NEST (R244). -/
def State.retFb (s : State) (r : Run) : Except Nat State :=
  if r.base < r.cond.length then .error ScnFault.NEST
  else match r.calls with
    | [] => .ok (s.finishRun r)
    | c :: rest =>
      .ok (s.putRun { r with calls := rest, pc := c.pc, ib := c.ib, lb := c.lb, tir := c.tir, base := c.base, fsz := c.fsz,
                             fr := { r.fr with cb := r.fr.en, vs := c.fr.vs || r.fr.vs } })

/-- RET (R262). -/
def execScnRet (lane : Nat) (s : State) : Host.Outcome State Fault Refusal := s.powered fun s =>
  (s.issue 0xA3 lane fun s r _ => s.retFb r)

/-- RETT: RET when CB = 1 (R262). -/
def execScnRett (lane : Nat) (s : State) : Host.Outcome State Fault Refusal := s.powered fun s =>
  (s.issue 0xA4 lane fun s r _ => if r.fr.cb then s.retFb r else .ok (s.putRun r))

end Sys2Proof.Machine
end

