-- ==== Sys2Proof/Machine/ScnLogic.lean ====
section
/-! DEFINITION. The scan engine's logic strings, bit stores and condition stack (R243, R244, R254). Each command issues
the instruction at its lane's PC when that instruction is the command's. -/

namespace Sys2Proof.Machine

/-- A logic instruction with a bit operand: CB ← g CB v (R243). -/
def State.issueBit (s : State) (op lane : Nat) (g : Bool → Bool → Bool) : State :=
  s.issue op lane fun s r w =>
    match s.loadBit r w with
    | .error e => .error e
    | .ok (v, r1, s1) => .ok (s1.putRun { r1 with fr := r1.fr.setCb (g r1.fr.cb v) })

/-- A bit store: `act` says from CB whether it stores, `v` what (R243). -/
def State.issueBitStore (s : State) (op lane : Nat) (act v : Bool → Bool) : State :=
  s.issue op lane fun s r w => keepRun (s.storeBit r w (act r.fr.cb) (v r.fr.cb))

/-- ANDG and ORG: the quality of a P operand is GOOD (R254, R255). -/
def State.issueGood (s : State) (op lane : Nat) (g : Bool → Bool → Bool) : State :=
  s.issue op lane fun s r w =>
    if wSpace w ≠ Sp.P then .error ScnFault.ADDRESS
    else match r.pointOf w false with
      | .error e => .error e
      | .ok (idx, _) =>
        let (q, r1, s1) := s.readPart r idx 1
        .ok (s1.putRun { r1 with fr := r1.fr.setCb (g r1.fr.cb (q == Q.GOOD)) })

/-- ANDS, ORS and XORS pop the top entry above the base (R244). -/
def State.issuePop (s : State) (op lane : Nat) (g : Bool → Bool → Bool) : State :=
  s.issue op lane fun s r _ =>
    match r.cond with
    | p :: rest =>
      if r.cond.length ≤ r.base then .error ScnFault.NEST
      else .ok (s.putRun { r with cond := rest, fr := r.fr.setCb (g p r.fr.cb) })
    | [] => .error ScnFault.NEST

/-- NOP. -/
def execScnNop (lane : Nat) (s : State) : Host.Outcome State Fault Refusal := s.powered fun s =>
  (s.issueRun 0x00 lane fun _ r _ => r)

/-- END: entries above the base fault NEST; the output phase follows (R244, R278). -/
def execScnEnd (lane : Nat) (s : State) : Host.Outcome State Fault Refusal := s.powered fun s =>
  (s.issue 0x01 lane fun s r _ =>
    if r.base < r.cond.length then .error ScnFault.NEST else .ok (s.finishRun r))

/-- TST: CB ← v. -/
def execScnTst (lane : Nat) (s : State) : Host.Outcome State Fault Refusal := s.powered fun s =>
  (s.issueBit 0x10 lane fun _ v => v)

/-- TSTN: CB ← ¬v. -/
def execScnTstn (lane : Nat) (s : State) : Host.Outcome State Fault Refusal := s.powered fun s =>
  (s.issueBit 0x11 lane fun _ v => !v)

/-- AND: CB ← CB ∧ v. -/
def execScnAnd (lane : Nat) (s : State) : Host.Outcome State Fault Refusal := s.powered fun s =>
  (s.issueBit 0x12 lane fun c v => c && v)

/-- ANDN: CB ← CB ∧ ¬v. -/
def execScnAndn (lane : Nat) (s : State) : Host.Outcome State Fault Refusal := s.powered fun s =>
  (s.issueBit 0x13 lane fun c v => c && !v)

/-- OR: CB ← CB ∨ v. -/
def execScnOr (lane : Nat) (s : State) : Host.Outcome State Fault Refusal := s.powered fun s =>
  (s.issueBit 0x14 lane fun c v => c || v)

/-- ORN: CB ← CB ∨ ¬v. -/
def execScnOrn (lane : Nat) (s : State) : Host.Outcome State Fault Refusal := s.powered fun s =>
  (s.issueBit 0x15 lane fun c v => c || !v)

/-- XOR: CB ← CB ⊕ v. -/
def execScnXor (lane : Nat) (s : State) : Host.Outcome State Fault Refusal := s.powered fun s =>
  (s.issueBit 0x16 lane fun c v => c != v)

/-- XORN: CB ← CB ⊕ ¬v. -/
def execScnXorn (lane : Nat) (s : State) : Host.Outcome State Fault Refusal := s.powered fun s =>
  (s.issueBit 0x17 lane fun c v => c != !v)

/-- ANDG: CB ← CB ∧ (quality = GOOD). -/
def execScnAndg (lane : Nat) (s : State) : Host.Outcome State Fault Refusal := s.powered fun s =>
  (s.issueGood 0x18 lane fun c g => c && g)

/-- ORG: CB ← CB ∨ (quality = GOOD). -/
def execScnOrg (lane : Nat) (s : State) : Host.Outcome State Fault Refusal := s.powered fun s =>
  (s.issueGood 0x19 lane fun c g => c || g)

/-- ST: bit ← CB. -/
def execScnSt (lane : Nat) (s : State) : Host.Outcome State Fault Refusal := s.powered fun s =>
  (s.issueBitStore 0x1A lane (fun _ => true) fun c => c)

/-- STS: when CB = 1, bit ← 1. -/
def execScnSts (lane : Nat) (s : State) : Host.Outcome State Fault Refusal := s.powered fun s =>
  (s.issueBitStore 0x1B lane (fun c => c) fun _ => true)

/-- STR: when CB = 1, bit ← 0. -/
def execScnStr (lane : Nat) (s : State) : Host.Outcome State Fault Refusal := s.powered fun s =>
  (s.issueBitStore 0x1C lane (fun c => c) fun _ => false)

/-- NOT: CB ← ¬CB. -/
def execScnNot (lane : Nat) (s : State) : Host.Outcome State Fault Refusal := s.powered fun s =>
  (s.issueRun 0x20 lane fun _ r _ => { r with fr := r.fr.setCb (!r.fr.cb) })

/-- SETC: CB ← 1. -/
def execScnSetc (lane : Nat) (s : State) : Host.Outcome State Fault Refusal := s.powered fun s =>
  (s.issueRun 0x21 lane fun _ r _ => { r with fr := r.fr.setCb true })

/-- CLRC: CB ← 0. -/
def execScnClrc (lane : Nat) (s : State) : Host.Outcome State Fault Refusal := s.powered fun s =>
  (s.issueRun 0x22 lane fun _ r _ => { r with fr := r.fr.setCb false })

/-- PSHC pushes CB; onto 32 entries it faults NEST (R244). -/
def execScnPshc (lane : Nat) (s : State) : Host.Outcome State Fault Refusal := s.powered fun s =>
  (s.issue 0x23 lane fun s r _ =>
    if 32 ≤ r.cond.length then .error ScnFault.NEST else .ok (s.putRun { r with cond := r.fr.cb :: r.cond }))

/-- ANDS: CB ← p ∧ CB. -/
def execScnAnds (lane : Nat) (s : State) : Host.Outcome State Fault Refusal := s.powered fun s =>
  (s.issuePop 0x24 lane fun p c => p && c)

/-- ORS: CB ← p ∨ CB. -/
def execScnOrs (lane : Nat) (s : State) : Host.Outcome State Fault Refusal := s.powered fun s =>
  (s.issuePop 0x25 lane fun p c => p || c)

/-- XORS: CB ← p ⊕ CB. -/
def execScnXors (lane : Nat) (s : State) : Host.Outcome State Fault Refusal := s.powered fun s =>
  (s.issuePop 0x26 lane fun p c => p != c)

/-- CBEN: EN ← CB. -/
def execScnCben (lane : Nat) (s : State) : Host.Outcome State Fault Refusal := s.powered fun s =>
  (s.issueRun 0x27 lane fun _ r _ => { r with fr := { r.fr with en := r.fr.cb } })

/-- ANDE: CB ← CB ∧ EN. -/
def execScnAnde (lane : Nat) (s : State) : Host.Outcome State Fault Refusal := s.powered fun s =>
  (s.issueRun 0x28 lane fun _ r _ => { r with fr := r.fr.setCb (r.fr.cb && r.fr.en) })

end Sys2Proof.Machine
end

