-- ==== Sys2Proof/Machine/ScnRecs.lean ====
section
/-! DEFINITION. The scan engine's timer, counter and edge instructions (R259, R260), CLK and CHN (R252, R254), tracked
writes, fences and stake edits (R264 to R268). -/

namespace Sys2Proof.Machine

/-! ### Records -/

/-- Where a record instruction finds its record: M or D, 16-byte aligned, `n` bytes within the space, of an accepted
TYPE (R255, R259). The answer is whether it lies in M and its byte address there. -/
def State.recordAt (s : State) (r : Run) (w : Word) (n : Nat) (types : List Nat) : Except Nat (Bool × Nat) :=
  let sp := wSpace w
  let a := r.effAddr w
  if sp ≠ Sp.M ∧ sp ≠ Sp.D then .error ScnFault.ADDRESS
  else if s.spaceLimit r sp < a + n then .error ScnFault.ADDRESS
  else if a % 16 ≠ 0 then .error ScnFault.ALIGN
  else if sp = Sp.D ∧ a < 16 then .error ScnFault.READONLY
  else
    let inM := sp == Sp.M
    let abs := if inM then a else r.ib + a
    if types.contains ((s.bank r.bankB).recByte inM (abs + 4)).toNat then .ok (inM, abs) else .error ScnFault.RECORD

/-- The words of a timer, counter or edge record beside KEY and TYPE (R259). -/
structure Prim where
  q : Bool
  inp : Bool
  run : Bool
  unit : Bool
  frac : Nat
  et : Nat
  last : Nat
deriving DecidableEq, Repr

/-- Read a record. -/
def Bank.prim (k : Bank) (inM : Bool) (a : Nat) : Prim :=
  let fl := (k.recByte inM (a + 5)).toNat
  let f := k.recByte inM
  ⟨bitOf fl 0, bitOf fl 1, bitOf fl 2, bitOf fl 3, readLe f (a + 6) 2, readLe f (a + 8) 4, readLe f (a + 12) 4⟩

/-- Write a record; FLAGS [7:4] are 0. -/
def Bank.putPrim (k : Bank) (inM : Bool) (a : Nat) (p : Prim) : Bank :=
  let b := fun (x : Bool) (n : Nat) => if x then n else 0
  let fl := b p.q 1 + b p.inp 2 + b p.run 4 + b p.unit 8
  (((k.putRec inM (a + 5) 1 fl).putRec inM (a + 6) 2 p.frac).putRec inM (a + 8) 4 p.et).putRec inM (a + 12) 4 p.last

/-- The elapsed time after a span: at most PT, with the remainder in FRAC when UNIT = 1 (R260). -/
def Prim.advance (p : Prim) (d pt : Nat) : Prim :=
  if p.unit then { p with et := Nat.min (p.et + (p.frac + d) / 65536) pt, frac := (p.frac + d) % 65536 }
  else { p with et := Nat.min (p.et + d) pt }

/-- An elapsed time that begins anew: no remainder stands. -/
def Prim.zeroEt (p : Prim) : Prim := { p with et := 0, frac := 0 }

/-- TON (R260). -/
def Prim.ton (p : Prim) (i : Bool) (d pt : Nat) : Prim :=
  if i then
    let p1 := if p.run then p.advance d pt else { p.zeroEt with run := true }
    { p1 with q := decide (pt ≤ p1.et) }
  else { p.zeroEt with run := false, q := false }

/-- The end of a running time: Q and RUN clear once ET has reached PT (R260). -/
def Prim.endRun (p : Prim) (pt : Nat) : Prim := if pt ≤ p.et then { p with q := false, run := false } else p

/-- TOF (R260). -/
def Prim.tof (p : Prim) (i : Bool) (d pt : Nat) : Prim :=
  if i then { p.zeroEt with q := true, run := false }
  else if p.inp && p.q then { p.zeroEt with run := true }
  else if p.run then (p.advance d pt).endRun pt
  else p

/-- TP (R260). -/
def Prim.tp (p : Prim) (i : Bool) (d pt : Nat) : Prim :=
  if p.run then (p.advance d pt).endRun pt
  else if i then (if !p.inp && !p.q then { p.zeroEt with q := true, run := true } else p)
  else p.zeroEt

/-- CTU: CV counts a rising input up, saturating; Q ← (CV ≥ PV) (R260). -/
def Prim.ctu (p : Prim) (i : Bool) (pv : Nat) : Prim :=
  let cv := signed 32 p.et
  let c := if i && !p.inp then Min.min (cv + 1) (2 ^ 31 - 1) else cv
  { p with et := unsigned 32 c, q := decide (signed 32 pv ≤ c) }

/-- CTD: CV counts a rising input down, saturating; Q ← (CV ≤ 0) (R260). -/
def Prim.ctd (p : Prim) (i : Bool) : Prim :=
  let cv := signed 32 p.et
  let c := if i && !p.inp then Max.max (cv - 1) (-(2 ^ 31)) else cv
  { p with et := unsigned 32 c, q := decide (c ≤ 0) }

/-- The value pushed after an evaluation: ET unsigned, CV signed (R254). -/
def Prim.pushed (p : Prim) (counter : Bool) : Dword := if counter then sext 32 p.et else BitVec.ofNat 64 p.et

/-- A timer or counter instruction (R260): IN ← i, LAST ← TSTART_LO for a timer, CB ← Q, and ET or CV is pushed. -/
def State.issuePrim (s : State) (op lane type : Nat) (timer : Bool) (g : Prim → Bool → Nat → Nat → Prim) : State :=
  s.issue op lane fun s r w =>
    match s.recordAt r w 16 [type] with
    | .error e => .error e
    | .ok (inM, a) =>
      let k := s.bank r.bankB
      let p := k.prim inM a
      let ts := r.latch.ch % 2 ^ 32
      let d := (ts + 2 ^ 32 - p.last) % 2 ^ 32
      let p1 := g p r.fr.cb d (lowWord r.a1).toNat
      let p2 := { p1 with inp := r.fr.cb, last := if timer then ts else 0 }
      let r1 := (r.push (s.runF r) (p2.pushed (!timer)))
      .ok ((s.setBank r.bankB (some (k.putPrim inM a p2))).putRun { r1 with fr := r1.fr.setCb p2.q })

/-- TON. -/
def execScnTon (lane : Nat) (s : State) : Host.Outcome State Fault Refusal := s.powered fun s =>
  (s.issuePrim 0xB0 lane 0x10 true fun p i d pt => p.ton i d pt)

/-- TOF. -/
def execScnTof (lane : Nat) (s : State) : Host.Outcome State Fault Refusal := s.powered fun s =>
  (s.issuePrim 0xB1 lane 0x11 true fun p i d pt => p.tof i d pt)

/-- TP. -/
def execScnTp (lane : Nat) (s : State) : Host.Outcome State Fault Refusal := s.powered fun s =>
  (s.issuePrim 0xB2 lane 0x12 true fun p i d pt => p.tp i d pt)

/-- CTU. -/
def execScnCtu (lane : Nat) (s : State) : Host.Outcome State Fault Refusal := s.powered fun s =>
  (s.issuePrim 0xB3 lane 0x20 false fun p i _ pv => p.ctu i pv)

/-- CTD. -/
def execScnCtd (lane : Nat) (s : State) : Host.Outcome State Fault Refusal := s.powered fun s =>
  (s.issuePrim 0xB4 lane 0x21 false fun p i _ _ => p.ctd i)

/-- CRES of a record of a type (R260). -/
def Prim.cres (p : Prim) (type pv : Nat) : Prim :=
  if type < 0x20 then { p.zeroEt with q := false, run := false }
  else if type = 0x20 then { p with et := 0, q := false }
  else { p with et := pv, q := decide (signed 32 pv ≤ 0) }

/-- CRES: with CB = 1 the record is reset; IN and CB are unchanged; ET or CV is pushed either way (R254, R260). -/
def execScnCres (lane : Nat) (s : State) : Host.Outcome State Fault Refusal := s.powered fun s =>
  (s.issue 0xB5 lane fun s r w =>
    match s.recordAt r w 16 [0x10, 0x11, 0x12, 0x20, 0x21] with
    | .error e => .error e
    | .ok (inM, a) =>
      let k := s.bank r.bankB
      let type := (k.recByte inM (a + 4)).toNat
      let p := k.prim inM a
      let p1 := if r.fr.cb then p.cres type (lowWord r.a1).toNat else p
      let s1 := if r.fr.cb then s.setBank r.bankB (some (k.putPrim inM a p1)) else s
      .ok (s1.putRun (r.push (s.runF r) (p1.pushed (decide (0x20 ≤ type))))))

/-- An edge instruction: CB ← the edge result, IN ← i (R260). -/
def State.issueEdge (s : State) (op lane type : Nat) (g : Bool → Bool → Bool) : State :=
  s.issue op lane fun s r w =>
    match s.recordAt r w 16 [type] with
    | .error e => .error e
    | .ok (inM, a) =>
      let k := s.bank r.bankB
      let p := k.prim inM a
      .ok ((s.setBank r.bankB (some (k.putPrim inM a { p with inp := r.fr.cb, last := 0 }))).putRun
        { r with fr := r.fr.setCb (g r.fr.cb p.inp) })

/-- EDGEP: i ∧ ¬IN. -/
def execScnEdgep (lane : Nat) (s : State) : Host.Outcome State Fault Refusal := s.powered fun s =>
  (s.issueEdge 0xB6 lane 0x30 fun i n => i && !n)

/-- EDGEN: ¬i ∧ IN. -/
def execScnEdgen (lane : Nat) (s : State) : Host.Outcome State Fault Refusal := s.powered fun s =>
  (s.issueEdge 0xB7 lane 0x31 fun i n => !i && n)

/-! ### The calendar and the chainage -/

/-- The ISO weekday, 1 Monday to 7 Sunday (R252). -/
def isoWeekday (c : Cal) : Nat := (daysSince2000 c + 5) % 7 + 1

/-- The date and time words of CLK (R252). -/
def clkDate (c : Cal) : Nat := c.year * 65536 + c.month * 256 + c.day
def clkTime (c : Cal) : Nat := isoWeekday c * 2 ^ 24 + c.hour * 65536 + c.min * 256 + c.sec

/-- CLK: the counting registers, read twice within one step so that the reads agree; CB ← the calendar is valid
(R252). -/
def execScnClk (lane : Nat) (s : State) : Host.Outcome State Fault Refusal := s.powered fun s =>
  (s.issue 0xC0 lane fun s r _ =>
    let d := clkDate s.rtc.cal
    let t := clkTime s.rtc.cal
    let ok := !(s.flag Reg.RTC_CTL 0) && !(s.flag Reg.RTC_STAT 0) && !(s.flag Reg.RTC_STAT 1)
    let r1 := if s.runF r then { r with a2 := r.a1, a1 := BitVec.ofNat 64 (d * 2 ^ 32 + t) }
              else { r with a1 := BitVec.ofNat 64 d, a2 := BitVec.ofNat 64 t }
    .ok (s.putRun { r1 with fr := r1.fr.setCb ok }))

/-- CHN: the present chainage (R254). -/
def execScnChn (lane : Nat) (s : State) : Host.Outcome State Fault Refusal := s.powered fun s =>
  (s.issue 0xC1 lane fun s r _ =>
    let c := s.chain
    .ok (s.putRun (if s.runF r then { r with a2 := r.a1, a1 := BitVec.ofNat 64 c }
                   else { r with a1 := BitVec.ofNat 64 (c % 2 ^ 32), a2 := BitVec.ofNat 64 (c / 2 ^ 32 % 2 ^ 32) })))

/-! ### Tracked writes, fences and stake edits -/

/-! The issue results of SEND (R264). -/
namespace Res
abbrev ISSUED : Nat := 0
abbrev NO_TAG : Nat := 1
abbrev BUSY : Nat := 2
abbrev NOT_REMOTE : Nat := 3
abbrev DENIED : Nat := 4
abbrev TYPE : Nat := 5
end Res

/-- The station, type and refusal of a SEND's target (R264, R265): a remote output point of the image, or a luminaire's
or group's point of this module. -/
def State.sendTarget (s : State) (r : Run) (gid : Nat) : Except Nat (Station × Nat) :=
  let own := gid / 65536 == s.sup.moduleNum
  let i := gid % 65536
  let c := s.runCtx r
  let found := match s.scn.outs.find? (fun o => o.gid == gid) with
    | some o => some (o.station, o.type, o.task == r.task)
    | none =>
      if own then (s.outStation i).map (fun st => (st, (s.point i).type, (s.point i).producer == .task r.task)) else none
  match found with
  | none => .error Res.NOT_REMOTE
  | some (st, ty, mine) =>
    if !mine ∨ (own ∧ !s.blockMay c i 1) then .error Res.DENIED
    else if (ty = PtType.UINT64 ∨ ty = PtType.ENERGY64) ∧ !s.runF r then .error Res.TYPE
    else .ok (st, ty)

/-- A TIMEOUT of 0 is 500 ms (R264). -/
def recTimeout (t : Nat) : Nat := if t = 0 then 500 else t

/-- An issued record: FLAGS BUSY alone, TAG and GEN (R265, R267). -/
def Bank.putIssued (k : Bank) (inM : Bool) (a tag gen : Nat) : Bank :=
  (k.putRec inM (a + 5) 1 1).putRec inM (a + 12) 2 (tag + gen * 512)

/-- Note a record whose operation is open (R265, R267). -/
def State.openRecord (s : State) (o : OpenRec) : State := { s with scn := { s.scn with opens := s.scn.opens ++ [o] } }

/-- SEND (R265): with CB = 1 a tag is taken and the value of A1 leaves at the output phase in the present epoch;
otherwise CB ← 0 and RES says why. The operation is recorded with the opcode of SEND (R70), and one without a token
of its context completes FAIL_DENIED (R553). -/
def execScnSend (lane : Nat) (s : State) : Host.Outcome State Fault Refusal := s.powered fun s =>
  (s.issue 0xC2 lane fun s r w =>
    match s.recordAt r w 16 [0x40] with
    | .error e => .error e
    | .ok (inM, a) =>
      let k := s.bank r.bankB
      let refuse := fun (res : Nat) => Except.ok
        (((if res = Res.NO_TAG then s.countTagWait else s).setBank r.bankB (some (k.putRec inM (a + 7) 1 res))).putRun
          { r with fr := r.fr.setCb false })
      if !r.fr.cb then .ok (s.putRun r)
      else if bitOf (k.recByte inM (a + 5)).toNat 0 then refuse Res.BUSY
      else
        let gid := readLe (k.recByte inM) (a + 8) 4 % 2 ^ 22
        match s.sendTarget r gid with
        | .error res => refuse res
        | .ok (st, ty) =>
          match s.beginInternal Blk.SCN Blk.SCN 0xC2 (s.runCtx r) (recTimeout (readLe (k.recByte inM) (a + 14) 2)) 0 with
          | none => refuse Res.NO_TAG
          | some (t, s1) =>
            let k1 := (k.putIssued inM a t (s1.slot t).gen).putRec inM (a + 7) 1 Res.ISSUED
            let s2 := s1.setBank r.bankB (some k1)
            let x : OpenRec := ⟨r.task, inM, a, false, t, false, none⟩
            match s2.takeToken (s.runCtx r) with
            | none => .ok ((((s2.openRecord x).countRateDrop (s.runCtx r)).decideOp t St.FAIL_DENIED 0).putRun r)
            | some s3 => .ok (((s3.issueRemote r st gid ty (normValue ty r.a1) r.epoch (some t)).openRecord x).putRun r))

/-- FENCE ends the present epoch (R266). -/
def execScnFence (lane : Nat) (s : State) : Host.Outcome State Fault Refusal := s.powered fun s =>
  (s.issueRun 0xC3 lane fun _ r _ => { r with epoch := r.epoch + 1 })

/-- FENCES ends the present epoch strictly (R266). -/
def execScnFences (lane : Nat) (s : State) : Host.Outcome State Fault Refusal := s.powered fun s =>
  (s.issueRun 0xC4 lane fun _ r _ => { r with strict := r.epoch :: r.strict, epoch := r.epoch + 1 })

/-- What becomes at once of an edit that LAT cannot take: its opcode is unknown, or LAT is in soft reset or off (R37,
R60, R95). -/
def State.latRefusal (s : State) (opcode : Nat) : Option Nat :=
  if opcode = 0 ∨ 4 < opcode then some St.FAIL_INVALID
  else if s.inSrst Blk.LAT then some St.FAIL_RESET
  else if !s.en Blk.LAT then some St.FAIL_DENIED
  else none

/-- STK (R267): with CB = 1 and BUSY = 0 the edit is submitted to LAT at once; with BUSY = 1 or no tag CB ← 0, and OPT counts
the latter (R73); one without a token of its context completes FAIL_DENIED (R553). -/
def execScnStk (lane : Nat) (s : State) : Host.Outcome State Fault Refusal := s.powered fun s =>
  (s.issue 0xC5 lane fun s r w =>
    match s.recordAt r w 64 [0x41] with
    | .error e => .error e
    | .ok (inM, a) =>
      let k := s.bank r.bankB
      let f := k.recByte inM
      let refused := Except.ok (s.putRun { r with fr := r.fr.setCb false })
      if !r.fr.cb then .ok (s.putRun r)
      else if bitOf (f (a + 5)).toNat 0 then refused
      else
        let opcode := (f (a + 7)).toNat
        let param := BitVec.ofNat 384 (readLe f (a + 16) 48)
        match s.beginInternal Blk.SCN Blk.LAT opcode (s.runCtx r) (recTimeout (readLe f (a + 14) 2)) param with
        | none => .ok (s.countTagWait.putRun { r with fr := r.fr.setCb false })
        | some (t, s1) =>
          let s2 := s1.setBank r.bankB (some (k.putIssued inM a t (s1.slot t).gen))
          let s3 := s2.openRecord ⟨r.task, inM, a, true, t, false, none⟩
          let s4 := match s.latRefusal opcode, s3.takeToken (s.runCtx r) with
            | some st, _ => s3.decideOp t st 0
            | none, none => (s3.countRateDrop (s.runCtx r)).decideOp t St.FAIL_DENIED 0
            | none, some s4 => s4
          .ok (s4.putRun r))

end Sys2Proof.Machine
end

