-- ==== Sys2Proof/Machine/ScnWords.lean ====
section
/-! DEFINITION. The scan engine's loads, stores, accumulator arithmetic, conversions and compares (R254, R256,
R257). -/

namespace Sys2Proof.Machine

/-! ### Loads and stores -/

/-- Load `n` bytes and push them, as `x` widens the raw bits (R254). -/
def State.issueLoad (s : State) (op lane n : Nat) (x : Nat → Dword) : State :=
  s.issue op lane fun s r w =>
    match s.loadOp r w n with
    | .error e => .error e
    | .ok (v, r1, s1) => .ok (s1.putRun (r1.push (s.runF r) (x v)))

/-- Store the low `n` bytes of A1. -/
def State.issueStore (s : State) (op lane n : Nat) (x : Run → Dword) : State :=
  s.issue op lane fun s r w => keepRun (s.storeOp r w n (x r))

/-- LB: a byte, zero-extended. -/
def execScnLb (lane : Nat) (s : State) : Host.Outcome State Fault Refusal := s.powered fun s =>
  (s.issueLoad 0x30 lane 1 fun v => BitVec.ofNat 64 v)

/-- LH: a half, sign-extended. -/
def execScnLh (lane : Nat) (s : State) : Host.Outcome State Fault Refusal := s.powered fun s =>
  (s.issueLoad 0x31 lane 2 (sext 16))

/-- LW: a word, sign-extended to 64 bits in Profile F. -/
def execScnLw (lane : Nat) (s : State) : Host.Outcome State Fault Refusal := s.powered fun s =>
  (s.issueLoad 0x32 lane 4 (sext 32))

/-- LD: a double. -/
def execScnLd (lane : Nat) (s : State) : Host.Outcome State Fault Refusal := s.powered fun s =>
  (s.issueLoad 0x33 lane 8 fun v => BitVec.ofNat 64 v)

/-- TB: byte ← A1[7:0]. -/
def execScnTb (lane : Nat) (s : State) : Host.Outcome State Fault Refusal := s.powered fun s =>
  (s.issueStore 0x34 lane 1 (·.a1))

/-- TH: half ← A1[15:0]. -/
def execScnTh (lane : Nat) (s : State) : Host.Outcome State Fault Refusal := s.powered fun s =>
  (s.issueStore 0x35 lane 2 (·.a1))

/-- TW: word ← A1[31:0]. -/
def execScnTw (lane : Nat) (s : State) : Host.Outcome State Fault Refusal := s.powered fun s =>
  (s.issueStore 0x36 lane 4 (·.a1))

/-- TD: double ← A1. -/
def execScnTd (lane : Nat) (s : State) : Host.Outcome State Fault Refusal := s.powered fun s =>
  (s.issueStore 0x37 lane 8 (·.a1))

/-- LA: the effective address, or the index for P (R246, R254). -/
def execScnLa (lane : Nat) (s : State) : Host.Outcome State Fault Refusal := s.powered fun s =>
  (s.issue 0x38 lane fun s r w =>
    if wSpace w = Sp.P then
      match r.pointOf w false with
      | .error e => .error e
      | .ok (idx, _) => .ok (s.putRun (r.push (s.runF r) (BitVec.ofNat 64 idx)))
    else if s.spaceLimit r (wSpace w) ≤ r.effAddr w then .error ScnFault.ADDRESS
    else .ok (s.putRun (r.push (s.runF r) (BitVec.ofNat 64 (r.effAddr w)))))

/-- Load `n` bytes from the target instance and push them. -/
def State.issueLoadTarget (s : State) (op lane n : Nat) (x : Nat → Dword) : State :=
  s.issue op lane fun s r w =>
    match s.loadTarget r w n with
    | .error e => .error e
    | .ok v => .ok (s.putRun (r.push true (x v)))

/-- LDP: a word at TIR + OFFSET, sign-extended. -/
def execScnLdp (lane : Nat) (s : State) : Host.Outcome State Fault Refusal := s.powered fun s =>
  (s.issueLoadTarget 0x39 lane 4 (sext 32))

/-- STP: a word to TIR + OFFSET. -/
def execScnStp (lane : Nat) (s : State) : Host.Outcome State Fault Refusal := s.powered fun s =>
  (s.issue 0x3A lane fun s r w => keepRun (s.storeTarget r w 4 r.a1))

/-- LDPD: a double at TIR + OFFSET. -/
def execScnLdpd (lane : Nat) (s : State) : Host.Outcome State Fault Refusal := s.powered fun s =>
  (s.issueLoadTarget 0x3B lane 8 fun v => BitVec.ofNat 64 v)

/-- STPD: a double to TIR + OFFSET. -/
def execScnStpd (lane : Nat) (s : State) : Host.Outcome State Fault Refusal := s.powered fun s =>
  (s.issue 0x3C lane fun s r w => keepRun (s.storeTarget r w 8 r.a1))

/-- STPB: the bit at TIR + bit address ← CB. -/
def execScnStpb (lane : Nat) (s : State) : Host.Outcome State Fault Refusal := s.powered fun s =>
  (s.issue 0x3D lane fun s r w =>
    let ba := r.effAddr w
    match s.checkTarget r w (ba / 8) 1 true with
    | some e => .error e
    | none =>
      let k := s.bank r.bankB
      let a := r.tir + ba / 8
      .ok ((s.setBank r.bankB (some (k.setData a (setBitOf (k.dataByte a) (ba % 8) r.fr.cb)))).putRun r))

/-- ANDP: CB ← CB ∧ the bit at TIR + bit address. -/
def execScnAndp (lane : Nat) (s : State) : Host.Outcome State Fault Refusal := s.powered fun s =>
  (s.issue 0x3E lane fun s r w =>
    let ba := r.effAddr w
    match s.checkTarget r w (ba / 8) 1 false with
    | some e => .error e
    | none =>
      let v := bitOf ((s.bank r.bankB).dataByte (r.tir + ba / 8)).toNat (ba % 8)
      .ok (s.putRun { r with fr := r.fr.setCb (r.fr.cb && v) }))

/-- LDI: IMM24, sign-extended. -/
def execScnLdi (lane : Nat) (s : State) : Host.Outcome State Fault Refusal := s.powered fun s =>
  (s.issueRun 0x40 lane fun f r w => r.push f (sext 24 (wImm w)))

/-- LXRI: XR ← IMM24, zero-extended. -/
def execScnLxri (lane : Nat) (s : State) : Host.Outcome State Fault Refusal := s.powered fun s =>
  (s.issueRun 0x42 lane fun _ r w => { r with xr := BitVec.ofNat 32 (wImm w) })

/-- LXR: XR ← word. -/
def execScnLxr (lane : Nat) (s : State) : Host.Outcome State Fault Refusal := s.powered fun s =>
  (s.issue 0x43 lane fun s r w =>
    match s.loadOp r w 4 with
    | .error e => .error e
    | .ok (v, r1, s1) => .ok (s1.putRun { r1 with xr := BitVec.ofNat 32 v }))

/-- TXR: word ← XR. -/
def execScnTxr (lane : Nat) (s : State) : Host.Outcome State Fault Refusal := s.powered fun s =>
  (s.issueStore 0x44 lane 4 (fun r => r.xr.setWidth 64))

/-- XRA: push XR. -/
def execScnXra (lane : Nat) (s : State) : Host.Outcome State Fault Refusal := s.powered fun s =>
  (s.issueRun 0x45 lane fun f r _ => r.push f (r.xr.setWidth 64))

/-- AXR: XR ← A1[31:0]. -/
def execScnAxr (lane : Nat) (s : State) : Host.Outcome State Fault Refusal := s.powered fun s =>
  (s.issueRun 0x46 lane fun _ r _ => { r with xr := lowWord r.a1 })

/-! ### Integer arithmetic (R256) -/

/-- An integer result of `w` bits: wrapped, sign-extended to the accumulator, V on overflow or when forced. -/
def Run.intRes (r : Run) (f : Bool) (w : Nat) (x : Int) (v : Bool) : Run :=
  let y := signed w (unsigned w x)
  { r with a1 := accVal f (BitVec.ofInt 64 y), fr := r.fr.ofInt (v || decide (y ≠ x)) y }

/-- A2 and A1 as two's complement of `w` bits. -/
def Run.i1 (r : Run) (w : Nat) : Int := signed w r.a1.toNat
def Run.i2 (r : Run) (w : Nat) : Int := signed w r.a2.toNat

/-- Quotient truncated towards zero; a divisor of 0 gives 0 with V (R256). -/
def Run.divRes (r : Run) (f : Bool) (w : Nat) : Run :=
  if r.i1 w = 0 then r.intRes f w 0 true else r.intRes f w (Int.tdiv (r.i2 w) (r.i1 w)) false

/-- ADDK: A1 + IMM24, INT32 in Profile S, INT64 in Profile F. -/
def execScnAddk (lane : Nat) (s : State) : Host.Outcome State Fault Refusal := s.powered fun s =>
  (s.issueRun 0x41 lane fun f r w =>
    let n := if f then 64 else 32
    r.intRes f n (r.i1 n + signed 24 (wImm w)) false)

/-- ADD: INT32 A2 + A1. -/
def execScnAdd (lane : Nat) (s : State) : Host.Outcome State Fault Refusal := s.powered fun s =>
  (s.issueRun 0x50 lane fun f r _ => r.intRes f 32 (r.i2 32 + r.i1 32) false)

/-- SUB: INT32 A2 − A1. -/
def execScnSub (lane : Nat) (s : State) : Host.Outcome State Fault Refusal := s.powered fun s =>
  (s.issueRun 0x51 lane fun f r _ => r.intRes f 32 (r.i2 32 - r.i1 32) false)

/-- MUL: INT32 A2 × A1, low 32 bits. -/
def execScnMul (lane : Nat) (s : State) : Host.Outcome State Fault Refusal := s.powered fun s =>
  (s.issueRun 0x52 lane fun f r _ => r.intRes f 32 (r.i2 32 * r.i1 32) false)

/-- DIV: INT32 A2 ÷ A1. -/
def execScnDiv (lane : Nat) (s : State) : Host.Outcome State Fault Refusal := s.powered fun s =>
  (s.issueRun 0x53 lane fun f r _ => r.divRes f 32)

/-- MOD: the INT32 remainder, with the sign of the dividend; a divisor of 0 gives 0 with V. -/
def execScnMod (lane : Nat) (s : State) : Host.Outcome State Fault Refusal := s.powered fun s =>
  (s.issueRun 0x54 lane fun f r _ =>
    if r.i1 32 = 0 then r.intRes f 32 0 true else r.intRes f 32 (Int.tmod (r.i2 32) (r.i1 32)) false)

/-- NEG: INT32 −A1. -/
def execScnNeg (lane : Nat) (s : State) : Host.Outcome State Fault Refusal := s.powered fun s =>
  (s.issueRun 0x55 lane fun f r _ => r.intRes f 32 (-(r.i1 32)) false)

/-- ABS: INT32 absolute value. -/
def execScnAbs (lane : Nat) (s : State) : Host.Outcome State Fault Refusal := s.powered fun s =>
  (s.issueRun 0x56 lane fun f r _ => r.intRes f 32 ((r.i1 32).natAbs : Int) false)

/-- ADDL: INT64 A2 + A1. -/
def execScnAddl (lane : Nat) (s : State) : Host.Outcome State Fault Refusal := s.powered fun s =>
  (s.issueRun 0x64 lane fun f r _ => r.intRes f 64 (r.i2 64 + r.i1 64) false)

/-- SUBL: INT64 A2 − A1. -/
def execScnSubl (lane : Nat) (s : State) : Host.Outcome State Fault Refusal := s.powered fun s =>
  (s.issueRun 0x65 lane fun f r _ => r.intRes f 64 (r.i2 64 - r.i1 64) false)

/-- MULL: INT64 A2 × A1, low 64 bits. -/
def execScnMull (lane : Nat) (s : State) : Host.Outcome State Fault Refusal := s.powered fun s =>
  (s.issueRun 0x66 lane fun f r _ => r.intRes f 64 (r.i2 64 * r.i1 64) false)

/-- DIVL: INT64 A2 ÷ A1, signed. -/
def execScnDivl (lane : Nat) (s : State) : Host.Outcome State Fault Refusal := s.powered fun s =>
  (s.issueRun 0x67 lane fun f r _ => r.divRes f 64)

/-- DIVLU: UINT64 A2 ÷ A1; a divisor of 0 gives 0 with V. An unsigned result is never negative. -/
def execScnDivlu (lane : Nat) (s : State) : Host.Outcome State Fault Refusal := s.powered fun s =>
  (s.issueRun 0x68 lane fun _ r _ =>
    let z := decide (r.a1 = 0)
    let q := r.a2.toNat / r.a1.toNat
    { r with a1 := BitVec.ofNat 64 q, fr := r.fr.arith z (decide (q = 0)) false false })

/-! ### REAL32 (R256) -/

/-- A REAL32 result; in Profile F the upper 32 bits of A1 become 0. -/
def Run.realRes (r : Run) (ops : List Word) (x : Word) : Run :=
  { r with a1 := x.setWidth 64, fr := r.fr.ofReal ops x }

/-- A two-operand REAL32 instruction. -/
def State.issueReal2 (s : State) (op lane : Nat) (g : Word → Word → Word) : State :=
  s.issueRun op lane fun _ r _ => r.realRes [lowWord r.a2, lowWord r.a1] (g (lowWord r.a2) (lowWord r.a1))

/-- A one-operand REAL32 instruction. -/
def State.issueReal1 (s : State) (op lane : Nat) (g : Word → Word) : State :=
  s.issueRun op lane fun _ r _ => r.realRes [lowWord r.a1] (g (lowWord r.a1))

/-- ADDR: A2 + A1. -/
def execScnAddr (lane : Nat) (s : State) : Host.Outcome State Fault Refusal := s.powered fun s =>
  (s.issueReal2 0x58 lane realAdd)

/-- SUBR: A2 − A1. -/
def execScnSubr (lane : Nat) (s : State) : Host.Outcome State Fault Refusal := s.powered fun s =>
  (s.issueReal2 0x59 lane realSub)

/-- MULR: A2 × A1. -/
def execScnMulr (lane : Nat) (s : State) : Host.Outcome State Fault Refusal := s.powered fun s =>
  (s.issueReal2 0x5A lane realMul)

/-- DIVR: A2 ÷ A1. -/
def execScnDivr (lane : Nat) (s : State) : Host.Outcome State Fault Refusal := s.powered fun s =>
  (s.issueReal2 0x5B lane realDiv)

/-- NEGR: the sign inverted. -/
def execScnNegr (lane : Nat) (s : State) : Host.Outcome State Fault Refusal := s.powered fun s =>
  (s.issueReal1 0x5C lane realNeg)

/-- ABSR: the sign cleared. -/
def execScnAbsr (lane : Nat) (s : State) : Host.Outcome State Fault Refusal := s.powered fun s =>
  (s.issueReal1 0x5D lane realAbs)

/-- SQRT: the square root of A1. -/
def execScnSqrt (lane : Nat) (s : State) : Host.Outcome State Fault Refusal := s.powered fun s =>
  (s.issueReal1 0x5E lane realSqrt)

/-! ### Q15 (R256) -/

/-- A Q15 result: saturated, with V on saturation. -/
def Run.q15Res (r : Run) (f : Bool) (x : Int) : Run :=
  let y := clampInt (-32768) 32767 x
  { r with a1 := accVal f (BitVec.ofInt 64 y), fr := r.fr.ofInt (decide (y ≠ x)) y }

/-- ADDQ: A2 + A1, saturating. -/
def execScnAddq (lane : Nat) (s : State) : Host.Outcome State Fault Refusal := s.powered fun s =>
  (s.issueRun 0x60 lane fun f r _ => r.q15Res f (r.i2 16 + r.i1 16))

/-- SUBQ: A2 − A1, saturating. -/
def execScnSubq (lane : Nat) (s : State) : Host.Outcome State Fault Refusal := s.powered fun s =>
  (s.issueRun 0x61 lane fun f r _ => r.q15Res f (r.i2 16 - r.i1 16))

/-- MULQ: (A2 × A1 + 16,384) >> 15, saturated. -/
def execScnMulq (lane : Nat) (s : State) : Host.Outcome State Fault Refusal := s.powered fun s =>
  (s.issueRun 0x62 lane fun f r _ => r.q15Res f ((r.i2 16 * r.i1 16 + 16384) / 32768))

/-- NEGQ: −A1, saturating. -/
def execScnNegq (lane : Nat) (s : State) : Host.Outcome State Fault Refusal := s.powered fun s =>
  (s.issueRun 0x63 lane fun f r _ => r.q15Res f (-(r.i1 16)))

/-! ### Bitwise operations and shifts -/

/-- ANDW: bitwise AND, full width. -/
def execScnAndw (lane : Nat) (s : State) : Host.Outcome State Fault Refusal := s.powered fun s =>
  (s.issueRun 0x6A lane fun f r _ => r.setA1 f (r.a2 &&& r.a1))

/-- ORW: bitwise OR. -/
def execScnOrw (lane : Nat) (s : State) : Host.Outcome State Fault Refusal := s.powered fun s =>
  (s.issueRun 0x6B lane fun f r _ => r.setA1 f (r.a2 ||| r.a1))

/-- XORW: bitwise XOR. -/
def execScnXorw (lane : Nat) (s : State) : Host.Outcome State Fault Refusal := s.powered fun s =>
  (s.issueRun 0x6C lane fun f r _ => r.setA1 f (r.a2 ^^^ r.a1))

/-- INVW: bitwise NOT of A1. -/
def execScnInvw (lane : Nat) (s : State) : Host.Outcome State Fault Refusal := s.powered fun s =>
  (s.issueRun 0x6D lane fun f r _ => r.setA1 f (~~~r.a1))

/-- The accumulator width. -/
def accW (f : Bool) : Nat := if f then 64 else 32

/-- A shift's result with its Z, N and U (R256); V is 0. -/
def Run.shiftRes (r : Run) (f : Bool) (x : Nat) : Run :=
  { r with a1 := accVal f (BitVec.ofNat 64 x), fr := r.fr.ofInt false (signed (accW f) x) }

/-- SHL: a count at or above the width gives 0. -/
def execScnShl (lane : Nat) (s : State) : Host.Outcome State Fault Refusal := s.powered fun s =>
  (s.issueRun 0x70 lane fun f r w =>
    r.shiftRes f (if accW f ≤ wCount w then 0 else r.a1.toNat * 2 ^ wCount w % 2 ^ accW f))

/-- SHR: logical; a count at or above the width gives 0. -/
def execScnShr (lane : Nat) (s : State) : Host.Outcome State Fault Refusal := s.powered fun s =>
  (s.issueRun 0x71 lane fun f r w => r.shiftRes f (r.a1.toNat / 2 ^ wCount w))

/-- SAR: arithmetic; a count at or above the width gives the sign fill. -/
def execScnSar (lane : Nat) (s : State) : Host.Outcome State Fault Refusal := s.powered fun s =>
  (s.issueRun 0x72 lane fun f r w => r.shiftRes f (unsigned (accW f) (r.i1 (accW f) / 2 ^ wCount w)))

/-- ROL: rotate left, count mod width. -/
def execScnRol (lane : Nat) (s : State) : Host.Outcome State Fault Refusal := s.powered fun s =>
  (s.issueRun 0x73 lane fun f r w =>
    let c := wCount w % accW f
    let x := r.a1.toNat
    r.setA1 f (BitVec.ofNat 64 (x * 2 ^ c % 2 ^ accW f + x / 2 ^ (accW f - c))))

/-! ### Conversions (R256) -/

/-- ITR: INT32 to REAL32, nearest even. -/
def execScnItr (lane : Nat) (s : State) : Host.Outcome State Fault Refusal := s.powered fun s =>
  (s.issueRun 0x78 lane fun _ r _ => r.realRes [] (roundDyadic (r.i1 32) 0))

/-- A REAL32 value times 2^`k` rounded to nearest even, or a number beyond every format for an infinity; `none` for
NaN. -/
def realRound (a : Word) (k : Int) : Option Int :=
  match realVal a with
  | .nan => none
  | .inf s => some (if s then -(2 ^ 64) else 2 ^ 64)
  | .fin s m e => some (signedMant s (divRne (m * pow2 (e + k)) (pow2 (-(e + k)))))

/-- RTI: REAL32 to INT32, nearest even, saturating with V; NaN gives 0 with V. -/
def execScnRti (lane : Nat) (s : State) : Host.Outcome State Fault Refusal := s.powered fun s =>
  (s.issueRun 0x79 lane fun f r _ =>
    match realRound (lowWord r.a1) 0 with
    | none => r.intRes f 32 0 true
    | some x =>
      let y := clampInt (-(2 ^ 31)) (2 ^ 31 - 1) x
      r.intRes f 32 y (decide (y ≠ x)))

/-- RTQ: round(x × 32,768), saturated. The result and V for a NaN are stated nowhere: free values. -/
def execScnRtq (lane : Nat) (s : State) : Host.Outcome State Fault Refusal := s.powered fun s =>
  (s.issue 0x7A lane fun s r _ =>
    match realRound (lowWord r.a1) 15 with
    | some x => .ok (s.putRun (r.q15Res (s.runF r) x))
    | none =>
      let w := (Config.freeWord s.free).toNat
      let y := signed 16 w
      .ok (s.nextFree.putRun { r with a1 := accVal (s.runF r) (BitVec.ofInt 64 y), fr := r.fr.ofInt (bitOf w 16) y }))

/-- QTR: x ÷ 32,768, exact. -/
def execScnQtr (lane : Nat) (s : State) : Host.Outcome State Fault Refusal := s.powered fun s =>
  (s.issueRun 0x7B lane fun _ r _ => r.realRes [] (roundDyadic (r.i1 16) (-15)))

/-- ITL: sign-extend A1[31:0] to 64 bits. -/
def execScnItl (lane : Nat) (s : State) : Host.Outcome State Fault Refusal := s.powered fun s =>
  (s.issueRun 0x7C lane fun f r _ => r.setA1 f (sext 32 r.a1.toNat))

/-- LTR: INT64 to REAL32, nearest even. -/
def execScnLtr (lane : Nat) (s : State) : Host.Outcome State Fault Refusal := s.powered fun s =>
  (s.issueRun 0x7D lane fun _ r _ => r.realRes [] (roundDyadic (r.i1 64) 0))

/-- SWAP: A1 ↔ A2. -/
def execScnSwap (lane : Nat) (s : State) : Host.Outcome State Fault Refusal := s.powered fun s =>
  (s.issueRun 0x7E lane fun _ r _ => { r with a1 := r.a2, a2 := r.a1 })

/-- DUP: A2 ← A1. -/
def execScnDup (lane : Nat) (s : State) : Host.Outcome State Fault Refusal := s.powered fun s =>
  (s.issueRun 0x7F lane fun _ r _ => { r with a2 := r.a1 })

/-! ### Compares (R257) -/

/-- An integer compare: `x` and `y` are A2 and A1. A condition code above 5 is no instruction. -/
def State.issueCmp (s : State) (op lane : Nat) (x y : Run → Int) : State :=
  s.issue op lane fun s r w =>
    if 5 < wCount w then .error ScnFault.OPCODE
    else .ok (s.putRun { r with fr := (r.fr.cmpInt (x r) (y r)).setCb (condInt (wCount w) (x r) (y r)) })

/-- CMPI: INT32. -/
def execScnCmpi (lane : Nat) (s : State) : Host.Outcome State Fault Refusal := s.powered fun s =>
  (s.issueCmp 0x80 lane (fun r => r.i2 32) (fun r => r.i1 32))

/-- CMPR: REAL32. -/
def execScnCmpr (lane : Nat) (s : State) : Host.Outcome State Fault Refusal := s.powered fun s =>
  (s.issue 0x81 lane fun s r w =>
    if 5 < wCount w then .error ScnFault.OPCODE
    else
      let a := lowWord r.a2
      let b := lowWord r.a1
      .ok (s.putRun { r with fr := (r.fr.cmpReal a b).setCb (condReal (wCount w) a b) }))

/-- CMPL: INT64. -/
def execScnCmpl (lane : Nat) (s : State) : Host.Outcome State Fault Refusal := s.powered fun s =>
  (s.issueCmp 0x82 lane (fun r => r.i2 64) (fun r => r.i1 64))

/-- CMPLU: UINT64. -/
def execScnCmplu (lane : Nat) (s : State) : Host.Outcome State Fault Refusal := s.powered fun s =>
  (s.issueCmp 0x83 lane (fun r => r.a2.toNat) (fun r => r.a1.toNat))

end Sys2Proof.Machine
end

