-- ==== Sys2Proof/Machine/StartImage.lean ====
section
/-! DEFINITION. The configuration image at a start: the module's checks of it (image validation), its claims in the image's
order (R68), and what it gives the machine (R9, R542, R546, R573, R579). -/

namespace Sys2Proof.Machine

/-! ### Validation -/

/-- Every number below `n` satisfies `p`. -/
def allN (n : Nat) (p : Nat → Bool) : Bool := (List.range n).all p

/-- A block's `n` points from the base in a register do not pass FFFFh; FFFFh means none. -/
def State.baseFits (s : State) (reg n : Nat) : Bool :=
  s.fld reg 0 16 == 0xFFFF || decide (s.fld reg 0 16 + n ≤ 65536)

/-- The point ranges of PSE, LCP, LPE, EMU and DIO (R152, R224, R307, R356, R515). -/
def State.basesFit (s : State) : Bool :=
  s.baseFits Reg.PSE_PT_BASE 384 && s.baseFits Reg.LCP_PT_BASE 6144 && s.baseFits Reg.LCP_GRP_BASE 1024
    && s.baseFits Reg.LPE_PT_BASE 384 && s.baseFits Reg.EMU_PT_BASE 80 && s.baseFits Reg.DIO_PT_BASE 98

/-- LAT_REF_CFG.CHAN is not 6 and names a channel of an enabled front end (R131). -/
def State.latFits (s : State) : Bool :=
  let c := s.fld Reg.LAT_REF_CFG 0 3
  c == 7 || (c != 6 && s.flag (Reg.EMU_MmCFG (c / 3)) 0)

/-- The pools' limits stand within what SET_LIMIT takes and EFF_PM within 500 to 1,000 (R134, R196, R197). -/
def State.budgetFits (s : State) : Bool :=
  decide (s.num (Reg.ARB_PLq_LIMIT 0) ≤ 4320000) && decide (s.num (Reg.ARB_PLq_LIMIT 1) ≤ 6000)
    && decide (500 ≤ s.fld Reg.ARB_LOSS_CFG 0 16) && decide (s.fld Reg.ARB_LOSS_CFG 0 16 ≤ 1000)

/-- Curves nowhere decrease and end at 90,000 mW or less; an enabled entry's type has a curve (R174). -/
def State.curvesFit (s : State) (img : CfgImage) : Bool :=
  let given := fun t => (List.range 17).any (fun k => (tfind? img.regs (Reg.ARB_CURVEt_Pk t k)).isSome)
  allN 64 (fun t => allN 16 (fun k => decide (s.num (Reg.ARB_CURVEt_Pk t k) ≤ s.num (Reg.ARB_CURVEt_Pk t (k + 1))))
      && decide (s.num (Reg.ARB_CURVEt_Pk t 16) ≤ 90000))
    && allN 768 (fun e => !s.lumEnabled e || given (s.fld (Reg.LCP_LnCFG e) 2 6))

/-- An entry names a group at most once, and a tenant group holds entries of its context alone (R221, R230). -/
def State.groupsFit (s : State) : Bool :=
  allN 768 fun e =>
    let g := ((List.range 4).filter (fun k => s.flag (Reg.LCP_LnCFG e) (8 + k))).map (fun k => s.fld (Reg.LCP_LnGRP e) (8 * k) 8)
    decide (g.eraseDups.length = g.length)
      && g.all (fun n => let c := s.fld (Reg.LCP_GRPg_CFG n) 0 16; c == 0 || c == s.lumCtx e)

/-- The points a loop names (R331). -/
def State.loopPoints (s : State) (n : Nat) : List Nat :=
  ([Reg.LPE_LnPV_PT n, Reg.LPE_LnIO_PT n, Reg.LPE_LnTRK_PT n, Reg.LPE_LnMODE_PT n].flatMap
    (fun r => [s.fld r 0 16, s.fld r 16 16])).filter (· != 0xFFFF)

/-- An enabled loop's settings (R303, R321, R331): the loop produces its OUT point and names no point of another tenant. -/
def State.loopFits (s : State) (n : Nat) : Bool :=
  let per := s.fld (Reg.LPE_LnPERIOD n) 0 16
  let ctx := s.fld (Reg.LPE_LnCFG n) 16 16
  !s.flag (Reg.LPE_LnCFG n) 0
    || (per != 0 && s.reg (Reg.LPE_LnPV_LO n) != s.reg (Reg.LPE_LnPV_HI n)
      && s.reg (Reg.LPE_LnOUT_LO n) != s.reg (Reg.LPE_LnOUT_HI n)
      && (s.point (s.fld (Reg.LPE_LnIO_PT n) 0 16)).producer == .block Blk.LPE
      && (s.loopPoints n).all (fun i => (s.point i).ctx == 0 || (s.point i).ctx == ctx)
      && decide (s.fld (Reg.LPE_LnSUP1 n) 0 8 * per * 1024 ≤ 2 ^ 31))

/-- A front end's settings (R336, R363, R364): roles, wiring, profiles. -/
def State.frontFits (s : State) (m : Nat) : Bool :=
  let role := s.fld (Reg.EMU_MmCFG m) 1 3
  (role == 0 || (role == 1 && m == 0)) && decide (s.fld (Reg.EMU_MmCFG m) 6 2 ≤ 1)
    && allN 7 (fun c => let p := s.fld (Reg.EMU_MmCHchCFG m c) 0 2; p ≤ 1 || (p == 2 && 3 ≤ c))

/-- No two maps name one source, and none an element of a BULK front end (R348). -/
def State.mapsFit (s : State) : Bool :=
  let words := fun (f : Nat → Nat) (mask : Nat) => (List.range 255).map (fun k => s.num (f (k + 1)) &&& mask)
  let apart := fun (l : List Nat) =>
    (l.foldl (fun (a : Nat × Bool) w => (a.1 ||| w, a.2 && (a.1 &&& w == 0))) (0, true)).2
  let bulk := (if s.fld (Reg.EMU_MmCFG 0) 1 3 = 1 then 0x07 else 0) + (if s.fld (Reg.EMU_MmCFG 1) 1 3 = 1 then 0x70 else 0)
  apart (words Reg.EMU_TMAPc_W0 0xFFFFFFFF) && apart (words Reg.EMU_TMAPc_W1 0xFFFFFFFF)
    && apart (words Reg.EMU_TMAPc_W2 0x77) && (words Reg.EMU_TMAPc_W2 bulk).all (· == 0)

/-- EMU (R344, R347, R362). -/
def State.emuFits (s : State) : Bool :=
  let n := s.fld Reg.EMU_IV_CFG 0 24
  n != 0 && (!s.flag Reg.EMU_IV_CFG 24 || 86400 % n == 0) && s.frontFits 0 && s.frontFits 1 && s.mapsFit
    && allN 16 (fun i => decide (s.fld (Reg.EMU_PIiCFG i) 1 3 ≤ 4))

/-- SOURCE and FOLLOW of the four bases (R452, R472). -/
def State.basesAllowed (s : State) : Bool :=
  let src := fun n => s.fld (Reg.NTU_TBn_CFG n) 0 2
  let fol := fun n => s.fld (Reg.NTU_TBn_CFG n) 2 2
  src 0 != 2 && (src 1 == 0 || (src 1 == 2 && fol 1 == 0)) && src 2 == 1 && src 3 != 1

/-- Some number of time quanta per bit, 8 to 80, divides the FLD clocks of a bit and places the sample point on a quantum
(R474). -/
def bitFits (kbit point : Nat) : Bool :=
  decide (50 ≤ point) && decide (point ≤ 90)
    && (List.range 73).any (fun k => 80000 / kbit % (k + 8) == 0 && (k + 8) * point % 100 == 0)

/-- The nominal and the data rate of a channel in kbit/s; 0 for no data rate (R499). -/
def State.canNominal (s : State) (c : Nat) : Nat := 125 * 2 ^ s.fld (Reg.FBC_CHc_CFG c) 10 2
def State.canData (s : State) (c : Nat) : Nat := [0, 1000, 2000, 4000, 5000].getD (s.fld (Reg.FBC_CHc_CFG c) 12 3) 0

/-- Bits of a frame at the nominal and at the data rate with worst-case stuffing, the intermission included, by ISO 11898-1:
extended, FD, data bytes (PRESUMED, log entry 60). -/
def frameBits (xtd fdf : Bool) (n : Nat) : Nat × Nat :=
  if !fdf then
    let body := (if xtd then 54 else 34) + 8 * n
    (body + (body - 1) / 4 + 13, 0)
  else
    let head := if xtd then 36 else 17
    let body := 5 + 8 * n
    (head + (head - 1) / 4 + 12, body + body / 4 + (if n ≤ 16 then 21 + 6 else 25 + 7) + 1)

/-- The angle in au that a frame takes at most on a channel. -/
def State.frameAu (s : State) (c : Nat) (xtd fdf brs : Bool) (n : Nat) : Nat :=
  let b := frameBits xtd fdf n
  let rate := if fdf && brs && s.canData c != 0 then s.canData c else s.canNominal c
  let ns := b.1 * 1000000 / s.canNominal c + b.2 * 1000000 / rate
  (ns * 65536 * s.nominalHz + 999999999) / 1000000000

/-- The window of a column in au (R481). -/
def State.canWindow (s : State) (c k : Nat) : Nat :=
  let row := 65536 / 2 ^ s.fld (Reg.FBC_CHc_TT c) 0 3
  let ends := if k + 1 < s.fld (Reg.FBC_CHc_TT c) 8 7 then s.fld (Reg.FBC_CHc_COLk c (k + 1)) 0 16 else row
  ends - s.fld (Reg.FBC_CHc_COLk c k) 0 16

/-- A window is long enough for ENABLE and its buffer's longest frame (R482, R483). -/
def State.cellFits (s : State) (c r k : Nat) : Bool :=
  let cell := Reg.FBC_CHc_CELLr_k c r k
  let b := s.fld cell 2 6
  let cfg := Reg.FBC_MBb_CFG c b
  let enable := 16 * Nat.max 1 (s.fld (Reg.FBC_CHc_TMR c) 24 8)
  let sent := s.fld cell 0 2 == 1 || s.fld cell 0 2 == 2
  !sent || (s.flag (Reg.FBC_CHc_CFG c) 3 && k == 0)
    || decide (enable + s.frameAu c (s.flag cfg 3) (s.flag cfg 4) (s.flag cfg 5) (s.fld cfg 6 7) ≤ s.canWindow c k)

/-- A channel of FBC (R474, R482, R498, R499). -/
def State.canFits (s : State) (c : Nat) : Bool :=
  let cfg := Reg.FBC_CHc_CFG c
  !s.flag cfg 0
    || (decide (s.fld (Reg.FBC_CHc_TT c) 0 3 ≤ 4) && decide (s.fld cfg 12 3 ≤ 4) && bitFits (s.canNominal c) (s.fld cfg 16 7)
      && (s.canData c == 0 || bitFits (s.canData c) (s.fld cfg 24 7))
      && (!s.flag cfg 2 || allN (2 ^ s.fld (Reg.FBC_CHc_TT c) 0 3) (fun r =>
            allN (s.fld (Reg.FBC_CHc_TT c) 8 7) (fun k => s.cellFits c r k))))

/-- DIO: modes, paralleled channels, limits of the pulse inputs (R503, R513, R518, R519). -/
def State.dioFits (s : State) : Bool :=
  allN 24 (fun c => s.fld (Reg.DIO_CHcCFG c) 0 2 != 3)
    && allN 6 (fun g => let p := s.fld (Reg.DIO_GRPg_CFG g) 0 2
        p == 0 || (p != 3 && allN 4 (fun k => s.fld (Reg.DIO_CHcCFG (4 * g + k)) 0 2 == 2)))
    && allN 16 (fun i =>
        let l := s.fld (Reg.DIO_PIiCFG i) 4 10
        s.fld (Reg.DIO_PIiCFG i) 0 2 != 3
          && (if s.flag (Reg.DIO_PIiCFG i) 2 then decide (1 ≤ l) && decide (l ≤ 30) else decide (100 ≤ l)))

/-- A range of a context covers no point of another tenant, and with CLEAR only points of the context (R551, R563). -/
def State.rangeFits (s : State) (c r : Nat) : Bool :=
  let w0 := s.num (Reg.TEN_CTXc_RNGr_W0 c r)
  let w1 := s.num (Reg.TEN_CTXc_RNGr_W1 c r)
  let first := bitsOf w0 0 16
  let last := bitsOf w0 16 16
  let inside := s.points.filter (fun e => decide (first ≤ e.1) && decide (e.1 ≤ last))
  !bitOf w1 31
    || (decide (first ≤ last) && inside.all (fun e => e.2.ctx == 0 || e.2.ctx == c)
      && (!bitOf w1 2 || decide ((inside.filter (fun e => e.2.ctx == c)).length = last + 1 - first)))

/-- HLK_CFG.KEY_SLOT has the HLK attribute, where HLK sends frames at all (R539, R399). -/
def State.slotFits (s : State) : Bool :=
  s.sup.roleStrap == 0 || s.flag (Reg.KEY_SLOTs_ATTR (s.fld Reg.HLK_CFG 12 4)) 9

/-- Image validation, whose points have types of R10's table, over a state in which the image's registers and points stand. -/
def State.imageFits (s : State) (img : CfgImage) : Bool :=
  img.points.all (fun e => decide (e.2.type ≤ PtType.ENERGY64)) && s.budgetFits && s.basesFit && s.latFits && s.curvesFit img && s.groupsFit && allN 96 s.loopFits && s.emuFits && s.basesAllowed
    && allN 4 s.canFits && s.dioFits && allN 256 (fun c => allN 64 (s.rangeFits c)) && s.slotFits

/-- The image is signed by a slot of the life-cycle state and its VERSION is no lower than the floor (R542, R546). -/
def State.imageVerified (s : State) (img : CfgImage) : Bool :=
  s.signedBy s.imageSlots img.digest img.sig && decide (tget (fun _ => 0) s.key.record.floors img.id ≤ img.ver)

/-! ### Application -/

/-- Registers that a minimal start takes from the image (R579; LCP's and HLK's own for R27 and R232, log entry 61). -/
def minimalReg (off : Nat) : Bool :=
  match off / 0x40000 with
  | 0x04 => off == Reg.LAT_REF_CFG || off == Reg.LAT_OFFSET || off == Reg.LAT_ZXOUT
  | 0x05 => true
  | 0x08 => decide (0x1000 ≤ off % 0x40000) && off % 0x40 == 0
  | 0x0A => true
  | 0x0D => true
  | 0x0F => true
  | 0x11 => true
  | _ => false

/-- Registers that their block sets itself: RTC_CFG at its enable, pulse generators when they are claimed (R345, R533). -/
def lateReg (off : Nat) : Bool :=
  off == Reg.RTC_CFG
    || (off / 0x40000 == Blk.EMU && decide (0x5000 ≤ off % 0x40000) && decide (off % 0x40000 < 0x5080))

/-- What the image gives the registers marked Image; a minimal start takes SUSTAIN and MIN_GRANT alone of PSE_PnCFG. -/
def imageRegs (img : CfgImage) (minimal : Bool) : Tbl Word :=
  let marked := img.regs.filter (fun e => (match regRow? e.1 with
    | some r => r.image
    | none => false) && (!minimal || minimalReg e.1))
  tcanon regReset (marked.map (fun (e : Nat × Word) =>
    (e.1, if minimal && e.1 / 0x40000 == Blk.PSE then e.2 &&& 0x0000FF04#32 else e.2)))

/-- The registers take the image's values. -/
def State.loadRegs (s : State) (l : Tbl Word) : State :=
  (l.filter (fun e => !lateReg e.1)).foldl (fun a e => a.setReg e.1 e.2) { s with image := l }

/-- Point records as the image configures them: no value, quality UNINIT (R10, R616). -/
def imagePoints (img : CfgImage) : Tbl Point :=
  tcanon (fun _ => Point.unconfigured)
    (img.points.map (fun (e : Nat × Point) => (e.1, { e.2 with value := 0, quality := Q.UNINIT, stamp := 0, forced := false })))

/-- The image in force: its registers and points and what the blocks take from it. -/
def State.loadImage (s : State) (img : CfgImage) (minimal : Bool) : State :=
  let s1 := s.loadRegs (imageRegs img minimal)
  let mine := fun (c : Claim) => c.resource / 2 ^ 12 == 1 || (c.resource / 2 ^ 12 == 2 && c.block == Blk.DIO)
  { s1 with
    points := if minimal then [] else imagePoints img
    sup := { s1.sup with moduleNum := img.moduleNum, imgId := img.id, imgVer := img.ver, imgOk := true
                         imgClaims := if minimal then img.claims.filter mine else img.claims, imgBankB := img.scanB }
    scn := { s1.scn with outs := img.outs, defaults := tsorted img.defaults }
    hlk := { s1.hlk with exports := img.exports, imports := img.imports, dir := tsorted img.dir, infos := img.infos }
    lcp := { s1.lcp with
      uids := tcanon (fun _ => 0#64) img.uids
      scenes := tcanon (fun _ => 0x8000#32) (img.scenes ++ s.lcp.storedScenes)
      headers := tcanon (fun _ => 0#32) (img.headers ++ s.lcp.storedHeaders) }
    fbc := { s1.fbc with outMap := tsorted img.outMap, inMap := tsorted img.inMap }
    sto := { s1.sto with blockBytes0 := img.blockBytes0, blockBytes1 := img.blockBytes1, retryLevels := img.retryLevels } }

/-- One enable of the image claims its resource and acts (R68): a pulse generator starts with its channel, a front end's
clock starts, ZX_OUT is held. -/
def State.claimFeature (s : State) (c : Claim) : Except Word State :=
  let n := c.resource % 2 ^ 12
  match c.resource / 2 ^ 12 with
  | 4 =>
    let w := (s.imgReg (Reg.EMU_PGgCFG n)).toNat
    s.startPg n (bitsOf w 8 8) (bitsOf w 16 8) (bitsOf w 24 8) (s.imgReg (Reg.EMU_PGgCONST n)).toNat
  | 2 => if c.block = Blk.EMU then .ok s else s.claim c
  | 1 => match s.claim c with
    | .error w => .error w
    | .ok s1 =>
      if n = 3 then .ok (s1.setFlag Reg.LAT_STATE 6 true)
      else if n = 4 ∨ n = 5 then
        .ok ((s1.setFlag (Reg.EMU_MmSTAT (n - 4)) 24 true).setFe (n - 4) { FrontEnd.fresh with since := s1.clk })
      else .ok s1
  | _ => s.claim c

/-- The image's enables claim in its order; the first refusal ends it with the conflict word (R68, R571 step 6). -/
def claimImage (l : List Claim) (s : State) : Except Word State :=
  match l with
  | [] => .ok s
  | c :: r => match s.claimFeature c with
    | .error w => .error w
    | .ok s1 => claimImage r s1

end Sys2Proof.Machine
end

