-- ==== Sys2Proof/Machine/StartRun.lean ====
section
/-! DEFINITION. The steps of the start sequence (R83 to R86, R353, R354, R410, R453, R545, R570 to R580), each as a function
of the state that reset release leaves. -/

namespace Sys2Proof.Machine

/-! ### Failure of a step (R571, R576, R579) -/

/-- SUP_MODE shows the present step (R586). -/
def State.atStep (s : State) (n : Nat) : State := s.setFld Reg.SUP_MODE 4 4 n

/-- The present step. -/
def State.step9 (s : State) : Nat := s.fld Reg.SUP_MODE 4 4

/-- Whether backup RAM called for a minimal start at reset release, before step 4 (R579). -/
def State.calledMinimal (s : State) : Bool :=
  !s.sup.nv.bkpBad && (decide (3 ≤ s.sup.nv.count) || s.sup.nv.minimalReq)

/-- START_STAT.MINIMAL: this is a minimal start (R587). -/
def State.minimalStart (s : State) : Bool := s.flag Reg.SUP_START_STAT 25

/-- A step fails: the start ends unconfirmed; an IMAGE_AUTH in RMA and a PUF_FAIL in SCRAPPED set COUNT to 3 at once
(R576). -/
def State.failStart (s : State) (reason : Nat) (detail detail2 : Word) : State :=
  let hopeless := (s.lcState == 3 && reason == 2) || (s.lcState == 4 && reason == 1)
  let s1 := if hopeless then s.setNv { s.sup.nv with count := Nat.max 2 s.sup.nv.count } else s
  s1.unconfirmedRestart reason detail detail2

/-! ### Reset release: what outlives the module's logic (R21, R570, R571 step 1) -/

/-- Backup-domain registers (R529, R531, R534). -/
def backupReg (off : Nat) : Bool :=
  off == Reg.RTC_CTL || off == Reg.RTC_TRIM || off == Reg.RTC_WAKE || off == Reg.RTC_WAKE_CNT
    || (off / 0x40000 == Blk.RTC && decide (0x200 ≤ off % 0x40000))

/-- A block that a program was in progress on is closed, and erased before its reuse (R392). -/
def cutBlocks (jobs : List NandJob) (t : Tbl NandBlock) : Tbl NandBlock :=
  t.map (fun (e : Nat × NandBlock) =>
    if jobs.any (fun j => j.block == e.1 && (match j.what with
      | .read _ _ => false
      | .scrub => false
      | _ => true)) then (e.1, { e.2 with st := .closed }) else e)

/-- STO after a restart: its media and the replicas; what was in progress is gone (R385, R391, R392). -/
def Sto.restarted (x : Sto) : Sto :=
  { Sto.fresh with
    objs := x.objs, blocks := cutBlocks x.jobs x.blocks, blockBytes0 := x.blockBytes0, blockBytes1 := x.blockBytes1
    retryLevels := x.retryLevels, nextId := x.nextId, unrep := x.unrep, pendRep := x.pendRep, replicas := x.replicas }

/-- The status that R83 reports for a slot: its own once decided, else that of the end of its life. -/
def lostStatus (endCode : Nat) (x : Slot) : Nat :=
  if x.st = .decided then x.status else if endCode = 1 ∨ endCode = 2 then St.FAIL_POWER_LOST else St.FAIL_RESET

/-- The lost reports of the slots, in the order of their beginning (R83 to R85). -/
def lostReports (slots : Tbl Slot) (endCode start : Nat) : List LostReport :=
  (sortBy (fun (a b : Nat × Slot) => decide (a.2.ord ≤ b.2.ord)) (slots.filter (fun e => e.2.st != .free))).map fun e =>
    { cookie := if e.2.fromHost then e.2.cookie else 0, tag := e.1
      sq := (match e.2.origin with
        | .ring n => n
        | _ => 0)
      internal := !e.2.fromHost, block := e.2.block, opcode := e.2.opcode, status := lostStatus endCode e.2
      stamp := BitVec.ofNat 32 e.2.stampCh, start := start, shown := false }

/-- Room for `n` more reports in the area of 4,096: the reports of the oldest life go first (R81, R86). `fuel` bounds the
number of lives. -/
def lostRoom (fuel n : Nat) (l : List LostReport) : List LostReport :=
  match fuel, l with
  | 0, _ => l
  | _, [] => []
  | f + 1, r :: rest =>
    if (r :: rest).length + n ≤ 4096 then r :: rest else lostRoom f n (rest.filter (fun x => x.start != r.start))

/-- Whether the newest record of a slot is torn: its writing of at most 1 µs had not ended when the supply was cut without
hold-up (R82, R568). -/
def State.tornSlot (s : State) (torn : List Nat) (t : Nat) : Bool :=
  torn.contains t && s.sup.nv.endCode == 2 && (match s.sup.nv.pfailClk, tfind? s.opt.log t with
    | some c, some l => decide (c < l.clk + msClk / 1000)
    | _, _ => false)

/-- What OPT reads of the slots: the newest record of each with a valid CRC (R81, R82). -/
def State.slotsRead (s : State) (torn : List Nat) : Tbl Slot :=
  (torn.filter (s.tornSlot torn)).foldl (fun l t => tset (fun _ => Slot.unused) l t
    (tget (fun _ => SlotLog.blank) s.opt.log t).older) s.opt.slots

/-- OPT closes the life that ended: each slot that is not FREE becomes a lost report (R83, R86); OPT_LOG_ERR counts the slots
found with one torn record (R98). -/
def State.closeSlots (old : State) (s : State) (torn : List Nat) : State :=
  let new := lostReports (old.slotsRead torn) old.sup.nv.endCode old.sup.nv.startNum
  let kept := lostRoom 4097 new.length (old.opt.lost.map fun (r : LostReport) => { r with shown := false })
  let gone := old.opt.lost.length - kept.length
  let bad := ((List.range 512).filter (old.tornSlot torn)).length
  { ((s.satInc Reg.OPT_LOST_STAT 16 13 gone).setFld Reg.OPT_LOG_ERR 0 10 bad) with opt := { s.opt with lost := kept ++ new } }

/-- The machine at reset release: every register at its reset value, the backup domain and the media as they stood, the
field dies and PSE dies on their own (R21, R48, R153, R511, R570). The straps are sampled. -/
def State.released (s : State) (i : StartIn) : State :=
  let base := State.reset
  let s1 : State := { base with
    pending := s.pending, clk := s.clk, free := s.free, out := s.out
    regs := (s.regs.filter (fun e => backupReg e.1))
    lat := { base.lat with stored := s.lat.stored, dropped := s.lat.dropped }
    sup := { Sup.inReset0 with inReset := false, releaseClk := s.clk, progClk := s.clk, releaseSec := calSeconds s.rtc.cal
                               roleStrap := i.role % 4, bootSrc := i.bootSrc % 2, initDue := (List.range 19).map (· + 1)
                               nv := s.sup.nv }
    key := { Key.blank with storedRecord := s.key.storedRecord, storedBlobs := s.key.storedBlobs
                            pendingRecord := s.key.pendingRecord, otpState := s.key.otpState, otpLeft := s.key.otpLeft
                            otpEpoch := s.key.otpEpoch, pufDead := s.key.pufDead }
    pse := { base.pse with diePorts := s.pse.diePorts, dieMode := s.pse.dieMode, cold := s.pse.cold
                           record := i.tornPorts.foldl dropHalf s.pse.record }
    dio := { base.dio with
      chans := tcanon (fun _ => DioCh.idle) (s.dio.chans.map (fun (e : Nat × DioCh) => (e.1, { DioCh.idle with on := e.2.on })))
      dieSafe := s.dio.dieSafe, dieLost := s.dio.dieLost }
    lcp := { base.lcp with storedScenes := s.lcp.storedScenes, storedHeaders := s.lcp.storedHeaders }
    rtc := { s.rtc with shadow := none }
    emu := { Emu.fresh with mirror := s.emu.mirror, nextSlot := s.emu.nextSlot
                            ring := s.emu.ring.map (fun (r : HoldRec) => { r with writing := false, key := none }) }
    sto := s.sto.restarted }
  let s2 := ((s1.setFld Reg.RTC_STAT 0 2 (s.fld Reg.RTC_STAT 0 2)).setFlag Reg.RTC_STAT RtcBit.VBAT_LOW
    (s.rtcBit RtcBit.VBAT_LOW)).atStep 3
  (((s.closeSlots s2 i.torn).showDies).setFlag (Reg.STAT Blk.SUP) 0 true).setFlag (Reg.STAT Blk.HIF) 0 true

/-! ### Steps 2 and 4 -/

/-- The start counter's bytes: from backup RAM, else from MRAM, else nothing counted (R578). -/
def State.readCounter (s : State) (bkpOk mramOk : Bool) : State :=
  let n := s.sup.nv
  if bkpOk && !n.bkpBad then s
  else if mramOk then (s.setNv { n with bkpBad := true }).setFlag Reg.SUP_START_STAT 27 true
  else s.setNv { n with bkpBad := true, count := 0, reason := 0, minReason := 0, previousReq := false, minimalReq := false }

/-- An object of KEY stands with a version of its own. -/
def State.keepKeyObj (s : State) (c : Nat) : State :=
  match s.stoObj (keyObj c) with
  | some o => s.putObj (keyObj c) (some { o with damaged := false })
  | none => s.putObj (keyObj c) (some ⟨Cls.CRITICAL, 1, 0, .whole (s.stoFree (keyObj c)) [] [], false, false⟩)

/-- Nothing was carried across a transition: the MRAM regions are overwritten, NAND data under the old storage data key are
unreadable, a new storage data key is taken (R543, R544). -/
def State.wipeStores (s : State) : State :=
  let w := fun k => Config.freeDword (s.free + k)
  let k : BitVec 256 := w 0 ++ w 1 ++ w 2 ++ w 3
  let objs := (s.sto.objs.filter (fun e => e.2.cls != Cls.COMMIT)).map (fun (e : Nat × StoObj) => (e.1, { e.2 with damaged := true }))
  let n := s.sup.nv
  { s with
    free := s.free + 4
    key := { s.key with storedRecord := KeyRec.empty k, storedBlobs := [] }
    emu := { s.emu with mirror := [], ring := [] }
    pse := { s.pse with record := [] }
    sto := { s.sto with objs := objs }
    sup := { s.sup with nv := { n with pfailCh := 0, pfailSec := 0, pfailNs := 0, pfailRtc := 0, progCycle := 0, progRtc := 0
                                       formatted := true } } }

/-- A pending record of a transition: taken when OTP holds its target state, else discarded (R544, R545). -/
def State.takePending (s : State) : State :=
  match s.key.pendingRecord with
  | none => s
  | some (dst, carried) =>
    let s1 := { s with key := { s.key with pendingRecord := none } }
    if s1.key.otpState ≠ dst then s1
    else match carried with
      | none => s1.wipeStores
      | some (r, blobs) =>
        let s2 := { s1 with key := { s1.key with storedRecord := r, storedBlobs := blobs } }
        (0 :: blobs.map (fun e => e.1)).foldl State.keepKeyObj s2

/-- KEY reads the life cycle from OTP, reconstructs its root and derives slots 0 to 3; nonce and challenges take new values
(R536, R542, R543, R554). -/
def State.startKey (s : State) (pufOk : Bool) : State :=
  let k := s.key
  let s1 := s.setNum Reg.KEY_LC (k.otpState % 8 + k.otpLeft % 32 * 2 ^ 8 + k.otpEpoch % 256 * 2 ^ 16)
  ((s1.deriveSlots (pufOk && !k.pufDead)).newNonce).newChals

/-- A life that ended by loss of power before its confirmation, with the reset release within 10 s of its PFAIL by the RTC, is
a brownout (R577). -/
def State.brownout (s : State) : Bool :=
  let n := s.sup.nv
  !n.closed && (n.endCode == 1 || n.endCode == 2) && !n.lastConfirmed && decide (s.sup.releaseSec ≤ n.pfailRtc + 10)

/-- Step 4: OPT and SUP close the life that ended and give this one its start number; SUP decides between a run start and a
minimal start (R83, R571, R576 to R580). -/
def State.openLife (s : State) : State :=
  let s1 := if s.brownout then (s.setRecord (fun r => { r with reason := 7 })).countStart 7 0 0 else s
  let n := s1.sup.nv
  let num := n.startNum + 1
  let minimal := decide (3 ≤ n.count) || n.minimalReq
  let why := if n.minimalReq ∧ n.count < 3 then 9 else n.minReason
  let r : StartRec := ⟨num, 0, s.sup.releaseSec, 0, 0, n.count, if minimal then 2 else 0, 0, 0, 0⟩
  let s2 := s1.setNv { n with startNum := num, closed := true, bkpBad := false, minimalReq := false, minReason := why
                              records := (r :: n.records).take 1024 }
  let s3 := ((s2.setNum Reg.SUP_LIFE_LAST (n.endCode % 16 + n.startNum % 2 ^ 16 * 2 ^ 16)).setNum64 Reg.SUP_PFAIL_LO
    n.pfailCh).setNum Reg.SUP_COMMIT_US n.commitUs
  let s4 := (s3.setFld Reg.SUP_START_STAT 16 8 (if minimal then why else 0)).setFlag Reg.SUP_START_STAT 25 minimal
  let s5 := ((s4.noteCount.setNum Reg.OPT_START_NUM (num % 2 ^ 16)).noteLost).atStep 5
  let s6 := s5.setFlag (Reg.STAT Blk.OPT) 0 true
  if s6.opt.lost = [] then s6 else s6.raiseIrq Blk.OPT 3

/-! ### Step 3: firmware (R546, R572) -/

/-- Firmware verifies with slot 3 (R546). -/
def State.firmwareOk (s : State) (f : Firmware) : Bool := s.signedBy [3] f.digest f.sig

/-- The loader waits for a host load (R572). -/
def State.awaitHost (s : State) : State :=
  let s1 := s.setFlag Reg.SUP_BOOT_CTL 29 true
  { s1 with sup := { s1.sup with bootWait := some s1.clk, bootWords := [] } }

/-- Whether the loader still has to load. -/
def State.loading (s : State) : Bool := !s.sup.inReset && s.mode == Mode.STARTING && s.step9 == 3

/-- Step 3 ends: both cores start, or the start fails; when the counter called for a minimal start they stay stopped (R571,
R579). -/
def State.endLoad (s : State) (ok : Bool) (reason : Nat) : State :=
  let s1 := { s.setFlag Reg.SUP_BOOT_CTL 29 false with sup := { s.sup with bootWait := none } }
  if ok then { s1 with sup := { s1.sup with core0Up := true }, arb := { s1.arb with coreDown := false } }.openLife
  else if s1.calledMinimal then { s1 with sup := { s1.sup with fwFail := true } }.openLife
  else s1.failStart reason 0 0

/-! ### Step 5: the map (R366, R392) -/

/-- The LUNs that answered with the profile's ID. -/
def lunsUsed (luns : List LunFound) : List LunFound := luns.filter (fun f => f.matched)

/-- The map stands again: LUNs, blocks of LUNs in use, closed blocks without valid data erased unless NAND is read-only in a
minimal start (R27), MAP_READY (R366, R392). -/
def State.mountMap (s : State) (luns : List LunFound) : State :=
  let s1 := luns.foldl (fun a f => (a.setFld (Reg.STO_CHc_LUNl_STAT f.channel f.lun) 0 2 (if f.matched then 1 else 3)).setNum
    (Reg.STO_CHc_LUNl_BAD f.channel f.lun) f.badBlocks.length) s
  let used := fun (b : NandBlock) => (lunsUsed luns).any (fun f => f.channel == b.channel && f.lun == b.lun)
  let s2 := { s1 with sto := { s1.sto with blocks := s1.sto.blocks.filter (fun e => used e.2) } }
  let dead := if s.minimalStart then [] else
    (s2.sto.blocks.filter (fun e => e.2.st == .closed && s2.validBytes e.1 == 0)).map (fun e => e.1)
  (dead.foldl (fun a b => a.startJob b .erase 0) s2).setFlag Reg.STO_STAT 0 true |>.noteSto

/-! ### Step 6: the image (R573) -/

/-- Whether the stored copies of an image object return it; an object that storage does not hold is no failure of storage. -/
def State.imageLost (s : State) (name : Nat) (img : Option CfgImage) : Bool :=
  match s.stoObj (objId 0 Blk.SUP name) with
  | some o => o.damaged || img.isNone
  | none => false

/-- Try one image: it verifies, passes validation and its enables are claimed; else why not: whether it verified, check code
and conflict word. -/
def State.tryImage (s : State) (img : CfgImage) (minimal : Bool) : Except (Bool × Word × Word) State :=
  if !s.imageVerified img then .error (false, 0, 0)
  else if !(s.loadImage img false).imageFits img then .error (true, Config.freeWord s.free, 0)
  else
    let s1 := s.loadImage img minimal
    match claimImage s1.sup.imgClaims s1 with
    | .error w => .error (true, 0, w)
    | .ok s2 => .ok s2

/-- The images in the order of R573: the present one, then the previous; a start requested with PREVIOUS_IMAGE takes the
previous one first. The flag tells the previous one. -/
def imageOrder (previous : Bool) (cur prev : Option CfgImage) : List (Bool × CfgImage) :=
  let c := cur.toList.map (fun i => (false, i))
  let p := prev.toList.map (fun i => (true, i))
  if previous then p ++ c else c ++ p

/-- The first usable image of a list; else the first validation refusal. -/
def State.firstImage (s : State) (minimal : Bool) (l : List (Bool × CfgImage)) (why : Bool × Word × Word) :
    Except (Bool × Word × Word) State :=
  match l with
  | [] => .error why
  | (old, img) :: r => match s.tryImage img minimal with
    | .ok s1 => .ok (s1.setFlag Reg.SUP_START_STAT 26 old)
    | .error e => s.firstImage minimal r (if why.1 then why else e)

/-! ### Step 7: mirror and adoption (R156, R353, R354) -/

/-- Where the metered part of the previous life ends: at a mirror slot. -/
def MirrorSlot.at (m : MirrorSlot) : GapFrom := ⟨m.start, m.ch, m.tbNs, m.tbOk, m.rtcSec, m.mains⟩

/-- The end of the LOSS span: one cycle later. -/
def GapFrom.cycleLater (a : GapFrom) (hz : Nat) : GapFrom := { a with ch := a.ch + 65536, tbNs := a.tbNs + 1000000000 / hz }

/-- EMU restores its accumulators, pulse counts and generators from a slot, and PSE its port energies (R353). -/
def State.restoreFrom (s : State) (m : MirrorSlot) : State :=
  let s1 := m.acc.foldl (fun a e => a.setEmuAcc (e.1 / 24) (e.1 % 24 / 6) (e.1 % 6) e.2) s
  let s2 := m.ports.foldl (fun a e => a.setNum64 (Reg.PSE_PnE_LO e.1) e.2) s1
  let s3 := m.pulses.foldl (fun a e => a.setNum64 (Reg.EMU_PIiCNT_LO e.1) e.2) s2
  let s4 := m.backs.foldl (fun a e => a.setNum (Reg.EMU_PGgBACKLOG e.1) e.2) s3
  let s5 := ((s4.setNum Reg.EMU_IV_SEQ m.ivSeq).setNum Reg.EMU_MIRROR_SEQ m.seq).setNum64 Reg.EMU_IV_START_LO m.ivStart
  let s6 := { s5 with emu := { s5.emu with rems := m.rems, ivAcc := m.ivAcc, ivPorts := m.ivPorts, ivPulses := m.ivPulses
                                           ivSec := m.ivSec, ivNs := m.ivNs } }
  s6.forN 8 fun a g =>
    if a.flag (Reg.EMU_PGgCFG g) 0 then
      { a with emu := { a.emu with pgSrc := tset (fun _ => 0) a.emu.pgSrc g (a.pgSource (a.fld (Reg.EMU_PGgCFG g) 8 8)) } }
    else a

/-- The interval that was open is closed at the slot's chainage with PARTIAL and GAP (R353). -/
def State.closeInterval (s : State) (m : MirrorSlot) : State :=
  let cs := s.mapContexts
  if 1024 < s.emu.ring.length + cs.length then
    let s1 := (s.satInc Reg.EMU_HOLD_STAT 16 16 1).raiseIrq Blk.EMU 5
    { s1 with emu := { s1.emu with ivMerged := true } }
  else
    let v := s.setFlag (Reg.NTU_TBn_STAT 0) 1 m.tbOk
    let e : IvEnd := ⟨s.clk, m.ch, m.tbNs / 1000000000, m.tbNs % 1000000000, false, m.ports, m.pulses⟩
    let s1 := cs.foldl (fun a c => a.holdRecord c 2
      (v.intervalBytes c true true e)) s
    (s1.wrapInc Reg.EMU_IV_SEQ 1).ivBase e

/-- The LOSS records of a previous life whose newest slot is not FINAL, and the span that follows (R354). -/
def State.lossGaps (s : State) (m : MirrorSlot) : State :=
  let a := m.at
  let b := a.cycleLater s.nominalHz
  let s1 := if m.final then s else s.forN 2 fun x k =>
    if x.flag (Reg.EMU_MmCFG k) 0 then
      x.makeGap 1 (k * 2 ^ 12 + 3) a b (m.growth.getD k 0) (boundOf (x.pRated k) (1000000000 / s.nominalHz)) (x.pRated k == 0) 0
    else x
  { s1 with emu := { s1.emu with offSpan := some (if m.final then a else b) }, pse := { s1.pse with holdFrom := some a } }

/-- Step 7 for EMU: slots with a bad CRC are counted and skipped, the newest good one is restored (R353). -/
def State.restoreEnergy (s : State) (bad : List Nat) : State :=
  let n := (s.emu.mirror.filter (fun e => bad.contains e.1)).length
  let s1 := (s.satInc Reg.EMU_MIRROR_ERR 0 32 n)
  let s2 := { s1 with emu := { s1.emu with mirror := s1.emu.mirror.filter (fun e => !bad.contains e.1) } }
  match newestMirror s2.emu.mirror with
  | none => s2.noteHold
  | some (_, m) => (((s2.restoreFrom m).closeInterval m).lossGaps m).noteHold

/-- Step 7: the mirror first, for the dies' counts add to it; then the ports, whose image settings apply in a run start
(R156, R158, R189). -/
def State.adoptStep (s : State) (bad : List Nat) : State :=
  let s1 := (s.restoreEnergy bad).adoptAll
  let s2 := if s1.minimalStart then s1 else s1.applyPortImage
  let s3 := s2.forN 24 fun a c =>
    if a.dioMode c = 2 then
      (a.setFlag (Reg.DIO_CHcSTAT c) 0 (a.chan (a.dioMaster c)).on).setFlag (Reg.DIO_CHcSTAT c) 6 true
    else a
  let done := [Blk.PSE, Blk.EMU, Blk.HLK, Blk.DIO]
  { s3 with sup := { s3.sup with initDue := s3.sup.initDue.filter (fun b => !done.contains b) } }

/-! ### Step 8: counter, time bases, hierarchy (R410, R453, R574) -/

/-- The cycle count of R574. -/
def State.startCycles (s : State) : Nat :=
  let n := s.sup.nv
  let cm := Nat.max (match newestMirror s.emu.mirror with
    | some (_, m) => m.cycle
    | none => 0) (n.pfailCh / 65536)
  let now := calSeconds s.rtc.cal
  let useRtc := !s.rtcBit RtcBit.OSF && !s.rtcBit RtcBit.DATE_INVALID && !s.rtcHalt && n.progRtc != 0 && decide (n.progRtc ≤ now)
  if n.formatted then 0
  else Nat.max (cm + 1) (if useRtc then n.progCycle + (now - n.progRtc) * s.nominalHz else 0)

/-- All four time bases load the calendar on the PTP timescale; TB1 is VALID (R453). -/
def State.loadBases (s : State) : State :=
  let utc : Int := signed 16 (s.fld Reg.NTU_UTC_OFFSET 0 16)
  let sec := ((calSeconds s.rtc.cal : Int) + utc).toNat
  let b : TimeBase := ⟨sec * 1000000000 * nsUnit, 0⟩
  ({ s with tbs := [b, b, b, b] }).setFlag (Reg.NTU_TBn_STAT 1) 0 true

/-- Whether the worker still waits for WELCOME at step 8 (R410). -/
def State.joinWaits (s : State) : Bool := !s.sup.inReset && s.mode == Mode.STARTING && s.step9 == 8

/-- LAT's counter is loaded with a cycle count; the start record names it (R574, R580). -/
def State.startLat (s : State) (cycles : Nat) (fromMgr : Bool) : State :=
  let s1 := (s.loadCycles cycles).setFlag Reg.SUP_START_STAT 28 fromMgr
  (s1.setRecord (fun r => { r with cycles := cycles, flags := r.flags + if fromMgr then 8 else 0 })).satGaps

/-! ### Step 9 -/

/-- Every block is READY. -/
def State.allReady (s : State) : State := s.forN 19 fun a b => a.setFlag (Reg.STAT (b + 1)) 0 true

/-- Blocks are enabled in ascending ID. -/
def State.enableAll (s : State) (but : List Nat) : State :=
  s.forN 19 fun a b => if but.contains (b + 1) then a else a.enableBlock (b + 1)

/-- The end of the start sequence: the mode becomes run with every block enabled, or minimal; a bank that LOAD refuses fails
it (R571 steps 8 and 9, R579). -/
def State.finishStart (s : State) : State :=
  let s1 := s.allReady
  if s1.minimalStart then
    let s2 := ((s1.setFld Reg.SUP_MODE 0 2 Mode.MINIMAL).enableAll ([Blk.SCN, Blk.LPE, Blk.FBC]
      ++ if s1.flag Reg.STO_STAT 0 then [] else [Blk.STO])).setFlag Reg.STO_STAT 7 true
    (s2.enterMode Mode.MINIMAL).enterSafe
  else if s1.loadScan.isNone then s1.failStart 4 (s1.reg Reg.SCN_FAULT_INFO) (s1.reg Reg.SCN_FAULT_PC)
  else
    let s2 := ((s1.enableAll []).enterMode Mode.RUN).atStep 10
    ({ s2 with sup := { s2.sup with cleanCycle := s2.chain / 65536 } }).leaveSafe

/-- Step 8: NTU loads its bases, HLK joins. A standalone module and a manager load their own count and go on; a worker waits
for WELCOME (R410, R574). -/
def State.joinStep (s : State) : State :=
  let s1 := s.loadBases.atStep 8
  if !s1.sup.imgOk then (s1.startLat s1.startCycles false).finishStart
  else
    let s2 := s1.hlkIdentity.loadPins
    if 2 ≤ s2.sup.roleStrap then ((s2.setFlag (Reg.STAT Blk.HLK) 0 true).setFlag (Reg.CTRL Blk.HLK) 0 true).sendJoin
    else (s2.startLat s2.startCycles false).finishStart

end Sys2Proof.Machine
end

