-- ==== Sys2Proof/Machine/Start.lean ====
section
/-! DEFINITION. The commands of the start sequence: reset release, the loading of firmware, the map, WELCOME (R409, R410,
R570 to R574). -/

namespace Sys2Proof.Machine

/-- Whether reset may be released (R570): VMAIN at 10.8 V, the junction below 100 °C, SYS_RST_N high, every supply output good
(R597, R611), and 100 ms since the last PFAIL. -/
def State.mayRelease (s : State) (p : Supplies) : Bool :=
  s.sup.inReset && decide (10800 ≤ p.vmain) && decide (p.temp < 1000) && p.rstHigh && p.outputsOk
    && (match s.sup.nv.pfailClk with
        | some c => decide (c + 100 * msClk ≤ s.clk)
        | none => true)

/-- RESET_RELEASE: the commit of a life that a restart ended has run (R568); then steps 1 and 2 of R571, and the firmware
source of step 3 (R570, R572). -/
def execResetRelease (pins : Supplies) (start : StartIn) (s : State) : Host.Outcome State Fault Refusal := s.always fun s =>
  if !s.mayRelease pins then s
  else
    let s1 := if s.sup.commitDue then s.commit 6 start.commitUs else s
    let s2 := (((s1.released start).readCounter start.bkpOk start.mramOk).takePending).startKey start.pufOk
    let s3 := (s2.noteVmain pins.vmain).noteTemp pins.temp
    let s4 := if s3.flag Reg.KEY_LC 24 ∨ s3.calledMinimal then s3 else s3.failStart 1 0 0
    (if s4.loading ∧ s4.sup.bootSrc = 1 then s4.awaitHost else s4)

/-- FIRMWARE_LOAD: the first readable copy of the boot area, that of channel 0 first; without a readable one the loader waits
for the host (R572). Without a root key NAND is not read (R579). -/
def execFirmwareLoad (copies : List (Option Firmware)) (s : State) : Host.Outcome State Fault Refusal := s.powered fun s =>
  if !s.loading ∨ s.sup.bootWait.isSome ∨ s.sup.bootSrc = 1 then s
  else match (if s.flag Reg.KEY_LC 24 then copies else []).findSome? id with
    | some f => (s.endLoad (s.firmwareOk f) 2)
    | none => s.awaitHost

/-- BOOT_GO: a write of SUP_BOOT_CTL with GO = 1 while the loader waits: the words loaded are verified, DONE or FAIL follows
(R572). -/
def execBootGo (_rq : Requester) (value : Word) (fw : Firmware) (s : State) : Host.Outcome State Fault Refusal := s.powered fun s =>
  let s1 := s.setFld Reg.SUP_BOOT_CTL 0 24 value.toNat
  if !s.loading ∨ s.sup.bootWait.isNone ∨ !bitOf value.toNat 28 then s1
  else
    let ok := s.firmwareOk fw && decide (value.toNat % 2 ^ 24 ≤ 4 * s.sup.bootWords.length)
    ((s1.setFlag Reg.SUP_BOOT_CTL (if ok then 30 else 31) true).endLoad ok 2)

/-- BOOT_WAIT_TIMEOUT: 60 s without a host load (R572). -/
def execBootWaitTimeout (s : State) : Host.Outcome State Fault Refusal := s.powered fun s =>
  match s.sup.bootWait with
  | none => s
  | some c =>
    if !s.loading ∨ s.sup.bootSrc = 1 ∨ s.clk < c + 60000 * msClk then s else (s.endLoad false 6)

/-- Step 6 with the map in place: KEY's record, the image and its claims; then steps 7 and 8. -/
def State.imageStep (s : State) (cur prev : Option CfgImage) (bad : List Nat) : State :=
  let n := s.sup.nv
  let s1 := ((s.loadRecord.resumeNonces).setNv { n with previousReq := false }).atStep 6
  let l := if s1.flag Reg.KEY_LC 24 then imageOrder n.previousReq cur prev else []
  match s1.firstImage s1.minimalStart l (false, 0, 0) with
  | .ok s2 => ((s2.atStep 7).adoptStep bad).joinStep
  | .error (verified, check, word) =>
    if s1.minimalStart then ((s1.atStep 7).adoptStep bad).joinStep
    else s1.nextFree.failStart (if verified then 3 else 2) check word

/-- MAP_REBUILD: STO identifies its LUNs and rebuilds the map; the images are what storage, or the peer, returns; `bad` are
mirror slots with a bad CRC (R353, R366, R382, R392, R573). What a failed step needs is passed over in a minimal
start (R579). -/
def execMapRebuild (mapOk : Bool) (luns : List LunFound) (cur prev : Option CfgImage) (bad : List Nat) (s : State) :
    Host.Outcome State Fault Refusal := s.powered fun s =>
  if s.sup.inReset ∨ s.mode ≠ Mode.STARTING ∨ s.step9 ≠ 5 then s
  else
    let ok := mapOk && decide (2 ≤ (lunsUsed luns).length) && s.sup.core0Up && s.flag Reg.KEY_LC 24
    let lost := s.imageLost 1 cur && (!s.sup.nv.previousReq || s.imageLost 2 prev)
    if ok then
      let s1 := s.mountMap luns
      if lost ∧ !s.minimalStart then (s1.failStart 6 0 0) else (s1.imageStep cur prev bad)
    else if s.minimalStart then (s.imageStep none none bad)
    else (s.failStart 6 0 0)

/-- WELCOME (R409, R410): the manager's answer binds the pair; one that comes within JOIN_WAIT gives the counter its cycle
count and step 9 follows. -/
def execWelcome (hdr : LinkHdr) (fields : List Nat) (s : State) : Host.Outcome State Fault Refusal := s.powered fun s =>
  match fields with
  | code :: peer :: standby :: _ :: ch :: sec :: ns :: _ :: mgen :: pgen :: _ =>
    (s.receive hdr true fun a =>
      if a.isManager ∨ hdr.src ≠ a.manager then a
      else
        let a1 := a.welcomed hdr code peer standby mgen pgen
        if code = 0 ∧ a1.joinWaits then
          (a1.startLat (wholeCycles (a1.cycleGap ch sec ns + a1.chain)).toNat true).finishStart
        else a1)
  | _ => (if s.linkOpen then s.dropFrame else s)

/-- JOIN_WAIT_TIMEOUT: JOIN_WAIT passes without WELCOME: the worker loads its counter as a standalone module does and goes on
(R410). -/
def execJoinWaitTimeout (s : State) : Host.Outcome State Fault Refusal := s.powered fun s =>
  if s.joinWaits ∧ !s.flag Reg.HLK_STAT 10 then (s.startLat s.startCycles false).finishStart else s

end Sys2Proof.Machine
end

