-- ==== Sys2Proof/Machine/Dispatch.lean ====
section
/-! DEFINITION. The meaning of each command: one arm per constructor, each one direct call of the meaning. -/

namespace Sys2Proof.Machine

def exec (i : Instr) (s : State) : Host.Outcome State Fault Refusal :=
  match i with
  | .regWrite rq off data => Sys2Proof.Machine.execRegWrite rq off data s
  | .rcRead rq off => Sys2Proof.Machine.execRcRead rq off s
  | .hiLatchRead rq off => Sys2Proof.Machine.execHiLatchRead rq off s
  | .entryLatchRead rq off => Sys2Proof.Machine.execEntryLatchRead rq off s
  | .errCodeRead rq block => Sys2Proof.Machine.execErrCodeRead rq block s
  | .irqStatClear rq block value recurs => Sys2Proof.Machine.execIrqStatClear rq block value recurs s
  | .irqForce rq block value => Sys2Proof.Machine.execIrqForce rq block value s
  | .ctrlEn rq block value => Sys2Proof.Machine.execCtrlEn rq block value s
  | .srst rq block => Sys2Proof.Machine.execSrst rq block s
  | .softResetComplete block => Sys2Proof.Machine.execSoftResetComplete block s
  | .unmappedAccess rq off write => Sys2Proof.Machine.execUnmappedAccess rq off write s
  | .longReadAbort bytes => Sys2Proof.Machine.execLongReadAbort bytes s
  | .atomicOp => Sys2Proof.Machine.execAtomicOp s
  | .pcieReset => Sys2Proof.Machine.execPcieReset s
  | .spiRead off words count => Sys2Proof.Machine.execSpiRead off words count s
  | .spiWrite off data cut => Sys2Proof.Machine.execSpiWrite off data cut s
  | .spiStatus => Sys2Proof.Machine.execSpiStatus s
  | .spiIdent => Sys2Proof.Machine.execSpiIdent s
  | .spiLock rq value => Sys2Proof.Machine.execSpiLock rq value s
  | .mboxGo rq value => Sys2Proof.Machine.execMboxGo rq value s
  | .sqDoorbell rq ring value => Sys2Proof.Machine.execSqDoorbell rq ring value s
  | .sqEnable rq ring value => Sys2Proof.Machine.execSqEnable rq ring value s
  | .cqEnable rq queue value => Sys2Proof.Machine.execCqEnable rq queue value s
  | .cqHeadWrite rq queue value => Sys2Proof.Machine.execCqHeadWrite rq queue value s
  | .descriptorFetch desc => Sys2Proof.Machine.execDescriptorFetch desc s
  | .tagWaitRelease => Sys2Proof.Machine.execTagWaitRelease s
  | .opTimeout tag => Sys2Proof.Machine.execOpTimeout tag s
  | .completionWrite route => Sys2Proof.Machine.execCompletionWrite route s
  | .completionAcked tag => Sys2Proof.Machine.execCompletionAcked tag s
  | .cqCoalTimeout queue => Sys2Proof.Machine.execCqCoalTimeout queue s
  | .hifFence rq => Sys2Proof.Machine.execHifFence rq s
  | .hifFenceRead rq => Sys2Proof.Machine.execHifFenceRead rq s
  | .cancel tag => Sys2Proof.Machine.execCancel tag s
  | .query tag => Sys2Proof.Machine.execQuery tag s
  | .lostRelease rq value => Sys2Proof.Machine.execLostRelease rq value s
  | .lostReportWrite => Sys2Proof.Machine.execLostReportWrite s
  | .benchmarkCrossing => Sys2Proof.Machine.execBenchmarkCrossing s
  | .counterCrossStamp => Sys2Proof.Machine.execCounterCrossStamp s
  | .refLoss => Sys2Proof.Machine.execRefLoss s
  | .timebaseNoRef => Sys2Proof.Machine.execTimebaseNoRef s
  | .acquireTimeout => Sys2Proof.Machine.execAcquireTimeout s
  | .holdoverEnd => Sys2Proof.Machine.execHoldoverEnd s
  | .stakeSet tag => Sys2Proof.Machine.execStakeSet tag s
  | .stakeModify tag => Sys2Proof.Machine.execStakeModify tag s
  | .stakeClear tag => Sys2Proof.Machine.execStakeClear tag s
  | .stakeClearOwner tag => Sys2Proof.Machine.execStakeClearOwner tag s
  | .stakeEditDurable tag => Sys2Proof.Machine.execStakeEditDurable tag s
  | .stakeFire => Sys2Proof.Machine.execStakeFire s
  | .stakeActionAck tag => Sys2Proof.Machine.execStakeActionAck tag s
  | .zxEdge channel => Sys2Proof.Machine.execZxEdge channel s
  | .zxOutPulse => Sys2Proof.Machine.execZxOutPulse s
  | .portDetect port => Sys2Proof.Machine.execPortDetect port s
  | .detectionDone port result => Sys2Proof.Machine.execDetectionDone port result s
  | .classifyDone port valid dual clsA clsB type3 autoclass => Sys2Proof.Machine.execClassifyDone port valid dual clsA clsB type3 autoclass s
  | .staggerSlot => Sys2Proof.Machine.execStaggerSlot s
  | .inrushEnd port settled => Sys2Proof.Machine.execInrushEnd port settled s
  | .autoclassMeasure port peak => Sys2Proof.Machine.execAutoclassMeasure port peak s
  | .fastCut port pairset => Sys2Proof.Machine.execFastCut port pairset s
  | .overloadCut port pairset => Sys2Proof.Machine.execOverloadCut port pairset s
  | .limitCut port pairset => Sys2Proof.Machine.execLimitCut port pairset s
  | .mpsLoss port pairset => Sys2Proof.Machine.execMpsLoss port pairset s
  | .errDelayEnd port => Sys2Proof.Machine.execErrDelayEnd port s
  | .vpseHold mv => Sys2Proof.Machine.execVpseHold mv s
  | .vpseHoldEnd mv => Sys2Proof.Machine.execVpseHoldEnd mv s
  | .vpseUvCut mv => Sys2Proof.Machine.execVpseUvCut mv s
  | .vpseOvCut mv => Sys2Proof.Machine.execVpseOvCut mv s
  | .vpseRev => Sys2Proof.Machine.execVpseRev s
  | .vpseResume mv => Sys2Proof.Machine.execVpseResume mv s
  | .dieTemp die temp => Sys2Proof.Machine.execDieTemp die temp s
  | .pseSample vpse ports => Sys2Proof.Machine.execPseSample vpse ports s
  | .adoptionRecordWrite port => Sys2Proof.Machine.execAdoptionRecordWrite port s
  | .dieAutonomous die => Sys2Proof.Machine.execDieAutonomous die s
  | .portOn tag => Sys2Proof.Machine.execPortOn tag s
  | .portOff tag => Sys2Proof.Machine.execPortOff tag s
  | .portCycle tag => Sys2Proof.Machine.execPortCycle tag s
  | .portCycleOffEnd port => Sys2Proof.Machine.execPortCycleOffEnd port s
  | .portClearLock tag => Sys2Proof.Machine.execPortClearLock tag s
  | .portEnWrite rq port value => Sys2Proof.Machine.execPortEnWrite rq port value s
  | .grantEvaluation => Sys2Proof.Machine.execGrantEvaluation s
  | .capChoose => Sys2Proof.Machine.execCapChoose s
  | .softTimeout pool => Sys2Proof.Machine.execSoftTimeout pool s
  | .hardRecheck pool => Sys2Proof.Machine.execHardRecheck pool s
  | .lookaheadEntry index ch => Sys2Proof.Machine.execLookaheadEntry index ch s
  | .stakePrice => Sys2Proof.Machine.execStakePrice s
  | .resvRetry => Sys2Proof.Machine.execResvRetry s
  | .outerCheck => Sys2Proof.Machine.execOuterCheck s
  | .outerMismatch => Sys2Proof.Machine.execOuterMismatch s
  | .outerClear => Sys2Proof.Machine.execOuterClear s
  | .setLimit tag => Sys2Proof.Machine.execSetLimit tag s
  | .price tag => Sys2Proof.Machine.execPrice tag s
  | .commandForm => Sys2Proof.Machine.execCommandForm s
  | .discoverTick port => Sys2Proof.Machine.execDiscoverTick port s
  | .announce a => Sys2Proof.Machine.execAnnounce a s
  | .accept port sub mac seq r => Sys2Proof.Machine.execAccept port sub mac seq r s
  | .status r => Sys2Proof.Machine.execStatus r s
  | .lcpFrameDrop => Sys2Proof.Machine.execLcpFrameDrop s
  | .acceptTimeout entry seq => Sys2Proof.Machine.execAcceptTimeout entry seq s
  | .bindingTimeout entry => Sys2Proof.Machine.execBindingTimeout entry s
  | .statusReqTimer tag => Sys2Proof.Machine.execStatusReqTimer tag s
  | .luminaireLoss entry => Sys2Proof.Machine.execLuminaireLoss entry s
  | .keepaliveTick entry => Sys2Proof.Machine.execKeepaliveTick entry s
  | .level tag => Sys2Proof.Machine.execLevel tag s
  | .recall tag => Sys2Proof.Machine.execRecall tag s
  | .override tag => Sys2Proof.Machine.execOverride tag s
  | .identify tag => Sys2Proof.Machine.execIdentify tag s
  | .rediscover tag => Sys2Proof.Machine.execRediscover tag s
  | .sceneWrite tag => Sys2Proof.Machine.execSceneWrite tag s
  | .taskStartTick task => Sys2Proof.Machine.execTaskStartTick task s
  | .taskDispatch => Sys2Proof.Machine.execTaskDispatch s
  | .epochRelease task => Sys2Proof.Machine.execEpochRelease task s
  | .scnNop lane => Sys2Proof.Machine.execScnNop lane s
  | .scnEnd lane => Sys2Proof.Machine.execScnEnd lane s
  | .scnTst lane => Sys2Proof.Machine.execScnTst lane s
  | .scnTstn lane => Sys2Proof.Machine.execScnTstn lane s
  | .scnAnd lane => Sys2Proof.Machine.execScnAnd lane s
  | .scnAndn lane => Sys2Proof.Machine.execScnAndn lane s
  | .scnOr lane => Sys2Proof.Machine.execScnOr lane s
  | .scnOrn lane => Sys2Proof.Machine.execScnOrn lane s
  | .scnXor lane => Sys2Proof.Machine.execScnXor lane s
  | .scnXorn lane => Sys2Proof.Machine.execScnXorn lane s
  | .scnAndg lane => Sys2Proof.Machine.execScnAndg lane s
  | .scnOrg lane => Sys2Proof.Machine.execScnOrg lane s
  | .scnSt lane => Sys2Proof.Machine.execScnSt lane s
  | .scnSts lane => Sys2Proof.Machine.execScnSts lane s
  | .scnStr lane => Sys2Proof.Machine.execScnStr lane s
  | .scnNot lane => Sys2Proof.Machine.execScnNot lane s
  | .scnSetc lane => Sys2Proof.Machine.execScnSetc lane s
  | .scnClrc lane => Sys2Proof.Machine.execScnClrc lane s
  | .scnPshc lane => Sys2Proof.Machine.execScnPshc lane s
  | .scnAnds lane => Sys2Proof.Machine.execScnAnds lane s
  | .scnOrs lane => Sys2Proof.Machine.execScnOrs lane s
  | .scnXors lane => Sys2Proof.Machine.execScnXors lane s
  | .scnCben lane => Sys2Proof.Machine.execScnCben lane s
  | .scnAnde lane => Sys2Proof.Machine.execScnAnde lane s
  | .scnLb lane => Sys2Proof.Machine.execScnLb lane s
  | .scnLh lane => Sys2Proof.Machine.execScnLh lane s
  | .scnLw lane => Sys2Proof.Machine.execScnLw lane s
  | .scnLd lane => Sys2Proof.Machine.execScnLd lane s
  | .scnTb lane => Sys2Proof.Machine.execScnTb lane s
  | .scnTh lane => Sys2Proof.Machine.execScnTh lane s
  | .scnTw lane => Sys2Proof.Machine.execScnTw lane s
  | .scnTd lane => Sys2Proof.Machine.execScnTd lane s
  | .scnLa lane => Sys2Proof.Machine.execScnLa lane s
  | .scnLdp lane => Sys2Proof.Machine.execScnLdp lane s
  | .scnStp lane => Sys2Proof.Machine.execScnStp lane s
  | .scnLdpd lane => Sys2Proof.Machine.execScnLdpd lane s
  | .scnStpd lane => Sys2Proof.Machine.execScnStpd lane s
  | .scnStpb lane => Sys2Proof.Machine.execScnStpb lane s
  | .scnAndp lane => Sys2Proof.Machine.execScnAndp lane s
  | .scnLdi lane => Sys2Proof.Machine.execScnLdi lane s
  | .scnAddk lane => Sys2Proof.Machine.execScnAddk lane s
  | .scnLxri lane => Sys2Proof.Machine.execScnLxri lane s
  | .scnLxr lane => Sys2Proof.Machine.execScnLxr lane s
  | .scnTxr lane => Sys2Proof.Machine.execScnTxr lane s
  | .scnXra lane => Sys2Proof.Machine.execScnXra lane s
  | .scnAxr lane => Sys2Proof.Machine.execScnAxr lane s
  | .scnAdd lane => Sys2Proof.Machine.execScnAdd lane s
  | .scnSub lane => Sys2Proof.Machine.execScnSub lane s
  | .scnMul lane => Sys2Proof.Machine.execScnMul lane s
  | .scnDiv lane => Sys2Proof.Machine.execScnDiv lane s
  | .scnMod lane => Sys2Proof.Machine.execScnMod lane s
  | .scnNeg lane => Sys2Proof.Machine.execScnNeg lane s
  | .scnAbs lane => Sys2Proof.Machine.execScnAbs lane s
  | .scnAddr lane => Sys2Proof.Machine.execScnAddr lane s
  | .scnSubr lane => Sys2Proof.Machine.execScnSubr lane s
  | .scnMulr lane => Sys2Proof.Machine.execScnMulr lane s
  | .scnDivr lane => Sys2Proof.Machine.execScnDivr lane s
  | .scnNegr lane => Sys2Proof.Machine.execScnNegr lane s
  | .scnAbsr lane => Sys2Proof.Machine.execScnAbsr lane s
  | .scnSqrt lane => Sys2Proof.Machine.execScnSqrt lane s
  | .scnAddq lane => Sys2Proof.Machine.execScnAddq lane s
  | .scnSubq lane => Sys2Proof.Machine.execScnSubq lane s
  | .scnMulq lane => Sys2Proof.Machine.execScnMulq lane s
  | .scnNegq lane => Sys2Proof.Machine.execScnNegq lane s
  | .scnAddl lane => Sys2Proof.Machine.execScnAddl lane s
  | .scnSubl lane => Sys2Proof.Machine.execScnSubl lane s
  | .scnMull lane => Sys2Proof.Machine.execScnMull lane s
  | .scnDivl lane => Sys2Proof.Machine.execScnDivl lane s
  | .scnDivlu lane => Sys2Proof.Machine.execScnDivlu lane s
  | .scnAndw lane => Sys2Proof.Machine.execScnAndw lane s
  | .scnOrw lane => Sys2Proof.Machine.execScnOrw lane s
  | .scnXorw lane => Sys2Proof.Machine.execScnXorw lane s
  | .scnInvw lane => Sys2Proof.Machine.execScnInvw lane s
  | .scnShl lane => Sys2Proof.Machine.execScnShl lane s
  | .scnShr lane => Sys2Proof.Machine.execScnShr lane s
  | .scnSar lane => Sys2Proof.Machine.execScnSar lane s
  | .scnRol lane => Sys2Proof.Machine.execScnRol lane s
  | .scnItr lane => Sys2Proof.Machine.execScnItr lane s
  | .scnRti lane => Sys2Proof.Machine.execScnRti lane s
  | .scnRtq lane => Sys2Proof.Machine.execScnRtq lane s
  | .scnQtr lane => Sys2Proof.Machine.execScnQtr lane s
  | .scnItl lane => Sys2Proof.Machine.execScnItl lane s
  | .scnLtr lane => Sys2Proof.Machine.execScnLtr lane s
  | .scnSwap lane => Sys2Proof.Machine.execScnSwap lane s
  | .scnDup lane => Sys2Proof.Machine.execScnDup lane s
  | .scnCmpi lane => Sys2Proof.Machine.execScnCmpi lane s
  | .scnCmpr lane => Sys2Proof.Machine.execScnCmpr lane s
  | .scnCmpl lane => Sys2Proof.Machine.execScnCmpl lane s
  | .scnCmplu lane => Sys2Proof.Machine.execScnCmplu lane s
  | .scnJu lane => Sys2Proof.Machine.execScnJu lane s
  | .scnJt lane => Sys2Proof.Machine.execScnJt lane s
  | .scnJf lane => Sys2Proof.Machine.execScnJf lane s
  | .scnJvs lane => Sys2Proof.Machine.execScnJvs lane s
  | .scnLoop lane => Sys2Proof.Machine.execScnLoop lane s
  | .scnSeli lane => Sys2Proof.Machine.execScnSeli lane s
  | .scnCall lane => Sys2Proof.Machine.execScnCall lane s
  | .scnCallt lane => Sys2Proof.Machine.execScnCallt lane s
  | .scnRet lane => Sys2Proof.Machine.execScnRet lane s
  | .scnRett lane => Sys2Proof.Machine.execScnRett lane s
  | .scnTon lane => Sys2Proof.Machine.execScnTon lane s
  | .scnTof lane => Sys2Proof.Machine.execScnTof lane s
  | .scnTp lane => Sys2Proof.Machine.execScnTp lane s
  | .scnCtu lane => Sys2Proof.Machine.execScnCtu lane s
  | .scnCtd lane => Sys2Proof.Machine.execScnCtd lane s
  | .scnCres lane => Sys2Proof.Machine.execScnCres lane s
  | .scnEdgep lane => Sys2Proof.Machine.execScnEdgep lane s
  | .scnEdgen lane => Sys2Proof.Machine.execScnEdgen lane s
  | .scnClk lane => Sys2Proof.Machine.execScnClk lane s
  | .scnChn lane => Sys2Proof.Machine.execScnChn lane s
  | .scnSend lane => Sys2Proof.Machine.execScnSend lane s
  | .scnFence lane => Sys2Proof.Machine.execScnFence lane s
  | .scnFences lane => Sys2Proof.Machine.execScnFences lane s
  | .scnStk lane => Sys2Proof.Machine.execScnStk lane s
  | .load tag image => Sys2Proof.Machine.execLoad tag image s
  | .exchange tag => Sys2Proof.Machine.execExchange tag s
  | .exchangeAtX => Sys2Proof.Machine.execExchangeAtX s
  | .exchangeCarryover => Sys2Proof.Machine.execExchangeCarryover s
  | .unload tag => Sys2Proof.Machine.execUnload tag s
  | .taskEn tag => Sys2Proof.Machine.execTaskEn tag s
  | .taskTrigger tag => Sys2Proof.Machine.execTaskTrigger tag s
  | .eventStartRelease task => Sys2Proof.Machine.execEventStartRelease task s
  | .scnFaultClear tag => Sys2Proof.Machine.execScnFaultClear tag s
  | .loopSample loop => Sys2Proof.Machine.execLoopSample loop s
  | .loopMode tag => Sys2Proof.Machine.execLoopMode tag s
  | .loopTune tag => Sys2Proof.Machine.execLoopTune tag s
  | .traceArm tag => Sys2Proof.Machine.execTraceArm tag s
  | .traceRelease tag => Sys2Proof.Machine.execTraceRelease tag s
  | .biquadW0Write rq loop section_ value => Sys2Proof.Machine.execBiquadW0Write rq loop section_ value s
  | .modeReqWrite rq loop value => Sys2Proof.Machine.execModeReqWrite rq loop value s
  | .emuSample m1 m2 => Sys2Proof.Machine.execEmuSample m1 m2 s
  | .channelFault frontEnd channel => Sys2Proof.Machine.execChannelFault frontEnd channel s
  | .phaseReversal frontEnd phase => Sys2Proof.Machine.execPhaseReversal frontEnd phase s
  | .cycleBoundary harmonics => Sys2Proof.Machine.execCycleBoundary harmonics s
  | .recordStored slot => Sys2Proof.Machine.execRecordStored slot s
  | .recordRetry slot => Sys2Proof.Machine.execRecordRetry slot s
  | .pulseCount => Sys2Proof.Machine.execPulseCount s
  | .pulseRateTimeout input => Sys2Proof.Machine.execPulseRateTimeout input s
  | .pgPulse generator => Sys2Proof.Machine.execPgPulse generator s
  | .intervalClose tag => Sys2Proof.Machine.execIntervalClose tag s
  | .emuPgEnable tag => Sys2Proof.Machine.execEmuPgEnable tag s
  | .emuPgDisable tag => Sys2Proof.Machine.execEmuPgDisable tag s
  | .calWrite tag => Sys2Proof.Machine.execCalWrite tag s
  | .accClear tag => Sys2Proof.Machine.execAccClear tag s
  | .put tag data => Sys2Proof.Machine.execPut tag data s
  | .append tag data => Sys2Proof.Machine.execAppend tag data s
  | .get tag => Sys2Proof.Machine.execGet tag s
  | .delete tag => Sys2Proof.Machine.execDelete tag s
  | .barrier tag => Sys2Proof.Machine.execBarrier tag s
  | .flush tag => Sys2Proof.Machine.execFlush tag s
  | .info tag => Sys2Proof.Machine.execInfo tag s
  | .format tag luns => Sys2Proof.Machine.execFormat tag luns s
  | .nandProgramDone job pass => Sys2Proof.Machine.execNandProgramDone job pass s
  | .nandReadDone job corrected soft result => Sys2Proof.Machine.execNandReadDone job corrected soft result s
  | .trendFlush cls channel => Sys2Proof.Machine.execTrendFlush cls channel s
  | .scrubDue block => Sys2Proof.Machine.execScrubDue block s
  | .relocation block => Sys2Proof.Machine.execRelocation block s
  | .staticWearLevel pool => Sys2Proof.Machine.execStaticWearLevel pool s
  | .garbageCollect pool => Sys2Proof.Machine.execGarbageCollect pool s
  | .replicaSync => Sys2Proof.Machine.execReplicaSync s
  | .mapRebuild mapOk luns cur prev bad => Sys2Proof.Machine.execMapRebuild mapOk luns cur prev bad s
  | .heartbeatTx => Sys2Proof.Machine.execHeartbeatTx s
  | .heartbeatRx hdr fields => Sys2Proof.Machine.execHeartbeatRx hdr fields s
  | .memberLoss member => Sys2Proof.Machine.execMemberLoss member s
  | .frameAuthDrop => Sys2Proof.Machine.execFrameAuthDrop s
  | .rtxTimer member => Sys2Proof.Machine.execRtxTimer member s
  | .join hdr fields => Sys2Proof.Machine.execJoin hdr fields s
  | .welcome hdr fields => Sys2Proof.Machine.execWelcome hdr fields s
  | .joinWaitTimeout => Sys2Proof.Machine.execJoinWaitTimeout s
  | .joinRetry => Sys2Proof.Machine.execJoinRetry s
  | .leave hdr fields => Sys2Proof.Machine.execLeave hdr fields s
  | .takeover hdr fields => Sys2Proof.Machine.execTakeover hdr fields s
  | .ack hdr => Sys2Proof.Machine.execAck hdr s
  | .pointUpdate hdr fields => Sys2Proof.Machine.execPointUpdate hdr fields s
  | .alPointWrite hdr fields => Sys2Proof.Machine.execAlPointWrite hdr fields s
  | .pointAck hdr fields => Sys2Proof.Machine.execPointAck hdr fields s
  | .subscribe hdr fields => Sys2Proof.Machine.execSubscribe hdr fields s
  | .unsubscribe hdr fields => Sys2Proof.Machine.execUnsubscribe hdr fields s
  | .stakeEdit hdr fields => Sys2Proof.Machine.execStakeEdit hdr fields s
  | .result hdr fields => Sys2Proof.Machine.execResult hdr fields s
  | .limit hdr fields => Sys2Proof.Machine.execLimit hdr fields s
  | .place hdr fields => Sys2Proof.Machine.execPlace hdr fields s
  | .placed hdr fields => Sys2Proof.Machine.execPlaced hdr fields s
  | .checkpoint hdr fields => Sys2Proof.Machine.execCheckpoint hdr fields s
  | .unplace hdr fields => Sys2Proof.Machine.execUnplace hdr fields s
  | .replicaPut hdr fields => Sys2Proof.Machine.execReplicaPut hdr fields s
  | .replicaAck hdr fields => Sys2Proof.Machine.execReplicaAck hdr fields s
  | .replicaCommit hdr fields => Sys2Proof.Machine.execReplicaCommit hdr fields s
  | .replicaReport hdr fields => Sys2Proof.Machine.execReplicaReport hdr fields s
  | .replicaFetch hdr fields => Sys2Proof.Machine.execReplicaFetch hdr fields s
  | .replicaData hdr fields => Sys2Proof.Machine.execReplicaData hdr fields s
  | .exportSetSend set unit dst => Sys2Proof.Machine.execExportSetSend set unit dst s
  | .importStale src set => Sys2Proof.Machine.execImportStale src set s
  | .placeAll => Sys2Proof.Machine.execPlaceAll s
  | .checkpointTake unit => Sys2Proof.Machine.execCheckpointTake unit s
  | .unitMoveAtX unit => Sys2Proof.Machine.execUnitMoveAtX unit s
  | .moveTimeout unit => Sys2Proof.Machine.execMoveTimeout unit s
  | .isolation => Sys2Proof.Machine.execIsolation s
  | .takeoverDecide => Sys2Proof.Machine.execTakeoverDecide s
  | .takeoverWaitExpire => Sys2Proof.Machine.execTakeoverWaitExpire s
  | .nsRead tag => Sys2Proof.Machine.execNsRead tag s
  | .move tag => Sys2Proof.Machine.execMove tag s
  | .pin tag => Sys2Proof.Machine.execPin tag s
  | .remoteStake tag param => Sys2Proof.Machine.execRemoteStake tag param s
  | .remoteLimit tag => Sys2Proof.Machine.execRemoteLimit tag s
  | .handback tag => Sys2Proof.Machine.execHandback tag s
  | .portFrameRx port frame => Sys2Proof.Machine.execPortFrameRx port frame s
  | .frameTransmit port => Sys2Proof.Machine.execFrameTransmit port s
  | .macAge vid mac => Sys2Proof.Machine.execMacAge vid mac s
  | .portBlock port => Sys2Proof.Machine.execPortBlock port s
  | .portUnblock port => Sys2Proof.Machine.execPortUnblock port s
  | .fabPortEnWrite rq port value => Sys2Proof.Machine.execFabPortEnWrite rq port value s
  | .linkChange port up half speed eee => Sys2Proof.Machine.execLinkChange port up half speed eee s
  | .uplinkModeTry port => Sys2Proof.Machine.execUplinkModeTry port s
  | .lpiEnter port => Sys2Proof.Machine.execLpiEnter port s
  | .lpiHoldoffEnd port => Sys2Proof.Machine.execLpiHoldoffEnd port s
  | .lldpTx port => Sys2Proof.Machine.execLldpTx port s
  | .lldpRx port txTw rxTw => Sys2Proof.Machine.execLldpRx port txTw rxTw s
  | .lldpTimeout port => Sys2Proof.Machine.execLldpTimeout port s
  | .fabFrameTx tag data => Sys2Proof.Machine.execFabFrameTx tag data s
  | .frameRx tag => Sys2Proof.Machine.execFrameRx tag s
  | .fdbAdd tag => Sys2Proof.Machine.execFdbAdd tag s
  | .fdbDel tag => Sys2Proof.Machine.execFdbDel tag s
  | .fdbFlush tag => Sys2Proof.Machine.execFdbFlush tag s
  | .fdbRead tag => Sys2Proof.Machine.execFdbRead tag s
  | .mdioCmd rq value => Sys2Proof.Machine.execMdioCmd rq value s
  | .mdioDone data => Sys2Proof.Machine.execMdioDone data s
  | .ptpSyncRx base port seq twoStep sec ns corr => Sys2Proof.Machine.execPtpSyncRx base port seq twoStep sec ns corr s
  | .ptpFollowUpRx base port seq sec ns corr => Sys2Proof.Machine.execPtpFollowUpRx base port seq sec ns corr s
  | .ptpDelayRespRx base port seq sec ns corr => Sys2Proof.Machine.execPtpDelayRespRx base port seq sec ns corr s
  | .ptpDelayReqRx base port seq sender => Sys2Proof.Machine.execPtpDelayReqRx base port seq sender s
  | .ptpAnnounceRx base port data gm utc utcValid => Sys2Proof.Machine.execPtpAnnounceRx base port data gm utc utcValid s
  | .ptpSyncTx base port => Sys2Proof.Machine.execPtpSyncTx base port s
  | .ptpDelayReqTx base => Sys2Proof.Machine.execPtpDelayReqTx base s
  | .ptpAnnounceTx base port => Sys2Proof.Machine.execPtpAnnounceTx base port s
  | .followUpdate base => Sys2Proof.Machine.execFollowUpdate base s
  | .ptpHoldover base => Sys2Proof.Machine.execPtpHoldover base s
  | .ntuPgEdge generator => Sys2Proof.Machine.execNtuPgEdge generator s
  | .tbSet tag => Sys2Proof.Machine.execTbSet tag s
  | .tbAdj tag => Sys2Proof.Machine.execTbAdj tag s
  | .tbAdjComplete tag => Sys2Proof.Machine.execTbAdjComplete tag s
  | .ntuPgEnable tag => Sys2Proof.Machine.execNtuPgEnable tag s
  | .ntuPgDisable tag => Sys2Proof.Machine.execNtuPgDisable tag s
  | .canFrameRx channel ident xtd fdf brs esi remote data sof => Sys2Proof.Machine.execCanFrameRx channel ident xtd fdf brs esi remote data sof s
  | .canTxDone channel => Sys2Proof.Machine.execCanTxDone channel s
  | .canError channel own clash tecAdd recAdd => Sys2Proof.Machine.execCanError channel own clash tecAdd recAdd s
  | .busoffRecovered channel => Sys2Proof.Machine.execBusoffRecovered channel s
  | .matrixRow channel idle => Sys2Proof.Machine.execMatrixRow channel idle s
  | .ttWindow channel column idle won => Sys2Proof.Machine.execTtWindow channel column idle won s
  | .fbPeriodTx channel => Sys2Proof.Machine.execFbPeriodTx channel s
  | .nodeLoss channel node => Sys2Proof.Machine.execNodeLoss channel node s
  | .swapDetect channel => Sys2Proof.Machine.execSwapDetect channel s
  | .swapWaitEnd channel seen => Sys2Proof.Machine.execSwapWaitEnd channel seen s
  | .mbHdrRead rq channel entry => Sys2Proof.Machine.execMbHdrRead rq channel entry s
  | .mbLastWordRead rq channel entry => Sys2Proof.Machine.execMbLastWordRead rq channel entry s
  | .lockTimeout channel => Sys2Proof.Machine.execLockTimeout channel s
  | .restrictWrite rq channel value => Sys2Proof.Machine.execRestrictWrite rq channel value s
  | .fbcFrameTx tag data => Sys2Proof.Machine.execFbcFrameTx tag data s
  | .busOn tag => Sys2Proof.Machine.execBusOn tag s
  | .dioFilterTick raw pulses => Sys2Proof.Machine.execDioFilterTick raw pulses s
  | .outputCommand channel => Sys2Proof.Machine.execOutputCommand channel s
  | .dioDiagTick chans => Sys2Proof.Machine.execDioDiagTick chans s
  | .shortRetry channel => Sys2Proof.Machine.execShortRetry channel s
  | .logicWdtExpire => Sys2Proof.Machine.execLogicWdtExpire s
  | .wdtKick rq => Sys2Proof.Machine.execWdtKick rq s
  | .fieldDieSafe => Sys2Proof.Machine.execFieldDieSafe s
  | .vfieldSample mv ma => Sys2Proof.Machine.execVfieldSample mv ma s
  | .piStuck input => Sys2Proof.Machine.execPiStuck input s
  | .piSupplyFault input => Sys2Proof.Machine.execPiSupplyFault input s
  | .dioSet tag => Sys2Proof.Machine.execDioSet tag s
  | .dioFaultClear tag => Sys2Proof.Machine.execDioFaultClear tag s
  | .safeClear tag => Sys2Proof.Machine.execSafeClear tag s
  | .restore tag => Sys2Proof.Machine.execRestore tag s
  | .cntClear tag => Sys2Proof.Machine.execCntClear tag s
  | .rtcSecond => Sys2Proof.Machine.execRtcSecond s
  | .rtcHaltSet count => Sys2Proof.Machine.execRtcHaltSet count s
  | .rtcHaltClear => Sys2Proof.Machine.execRtcHaltClear s
  | .rtcTb0Set count => Sys2Proof.Machine.execRtcTb0Set count s
  | .rtcShadowFreeze rq field count => Sys2Proof.Machine.execRtcShadowFreeze rq field count s
  | .rtcYearRead rq count => Sys2Proof.Machine.execRtcYearRead rq count s
  | .rtcShadowTimeout => Sys2Proof.Machine.execRtcShadowTimeout s
  | .trimWindow => Sys2Proof.Machine.execTrimWindow s
  | .trimMeasure err held => Sys2Proof.Machine.execTrimMeasure err held s
  | .oscStop => Sys2Proof.Machine.execOscStop s
  | .backupPowerUp => Sys2Proof.Machine.execBackupPowerUp s
  | .vbatCheck mv => Sys2Proof.Machine.execVbatCheck mv s
  | .rtcWake => Sys2Proof.Machine.execRtcWake s
  | .slotInstall tag key => Sys2Proof.Machine.execSlotInstall tag key s
  | .slotDestroy tag => Sys2Proof.Machine.execSlotDestroy tag s
  | .lcAdvance tag token => Sys2Proof.Machine.execLcAdvance tag token s
  | .attest tag challenge => Sys2Proof.Machine.execAttest tag challenge s
  | .tenantImport tag blob => Sys2Proof.Machine.execTenantImport tag blob s
  | .tenantDestroy tag => Sys2Proof.Machine.execTenantDestroy tag s
  | .setFloor tag => Sys2Proof.Machine.execSetFloor tag s
  | .keyCacheLoad ctx => Sys2Proof.Machine.execKeyCacheLoad ctx s
  | .sealReserveDurable ctx => Sys2Proof.Machine.execSealReserveDurable ctx s
  | .sessionOpen tag => Sys2Proof.Machine.execSessionOpen tag s
  | .sessionClose tag => Sys2Proof.Machine.execSessionClose tag s
  | .sessionExpire ctx => Sys2Proof.Machine.execSessionExpire ctx s
  | .rateRefill ctx => Sys2Proof.Machine.execRateRefill ctx s
  | .sealRead tag indices => Sys2Proof.Machine.execSealRead tag indices s
  | .pointRead tag => Sys2Proof.Machine.execPointRead tag s
  | .pointWrite tag => Sys2Proof.Machine.execPointWrite tag s
  | .pointForce tag => Sys2Proof.Machine.execPointForce tag s
  | .pointRelease tag => Sys2Proof.Machine.execPointRelease tag s
  | .vmainLow mv => Sys2Proof.Machine.execVmainLow mv s
  | .vmainHigh mv => Sys2Proof.Machine.execVmainHigh mv s
  | .pfail steps us => Sys2Proof.Machine.execPfail steps us s
  | .holdupLow => Sys2Proof.Machine.execHoldupLow s
  | .holdupTest mv => Sys2Proof.Machine.execHoldupTest mv s
  | .thermWarn temp => Sys2Proof.Machine.execThermWarn temp s
  | .thermalRestart temp => Sys2Proof.Machine.execThermalRestart temp s
  | .coreWatchdog core => Sys2Proof.Machine.execCoreWatchdog core s
  | .coreRestartDone core => Sys2Proof.Machine.execCoreRestartDone core s
  | .resetRelease pins start => Sys2Proof.Machine.execResetRelease pins start s
  | .firmwareLoad copies => Sys2Proof.Machine.execFirmwareLoad copies s
  | .startConfirm => Sys2Proof.Machine.execStartConfirm s
  | .confirmTimeout => Sys2Proof.Machine.execConfirmTimeout s
  | .progressStamp => Sys2Proof.Machine.execProgressStamp s
  | .sysRstPin => Sys2Proof.Machine.execSysRstPin s
  | .bootData rq value => Sys2Proof.Machine.execBootData rq value s
  | .bootGo rq value fw => Sys2Proof.Machine.execBootGo rq value fw s
  | .surveyNow => Sys2Proof.Machine.execSurveyNow s
  | .surveyDone skews count => Sys2Proof.Machine.execSurveyDone skews count s
  | .surveyAck => Sys2Proof.Machine.execSurveyAck s
  | .gtFire timer => Sys2Proof.Machine.execGtFire timer s
  | .modeSet tag => Sys2Proof.Machine.execModeSet tag s
  | .restart tag => Sys2Proof.Machine.execRestart tag s
  | .survey tag => Sys2Proof.Machine.execSurvey tag s
  | .timerSet tag => Sys2Proof.Machine.execTimerSet tag s
  | .startClear tag => Sys2Proof.Machine.execStartClear tag s
  | .claim tag => Sys2Proof.Machine.execClaim tag s
  | .release tag => Sys2Proof.Machine.execRelease tag s
  | .pcieLinkUp speed width => Sys2Proof.Machine.execPcieLinkUp speed width s
  | .bootWaitTimeout => Sys2Proof.Machine.execBootWaitTimeout s
  | .supplyOutputLow => Sys2Proof.Machine.execSupplyOutputLow s
  | .dieColdPowerUp die => Sys2Proof.Machine.execDieColdPowerUp die s

end Sys2Proof.Machine
end

