-- ==== Sys2Proof/Machine/Pads.lean ====
section
/-! DEFINITION. Levels of the module's own pads that the state determines at every moment (R606, R607, R610 to R612):
functions of the state, for no command changes them alone. -/

namespace Sys2Proof.Machine

/-- PFAIL_N is low from PFAIL until reset is next released (R611). -/
def State.padPfailLow (s : State) : Bool :=
  s.sup.inReset && (match s.sup.nv.pfailClk with
    | some c => decide (s.sup.releaseClk ≤ c)
    | none => false)

/-- FAULT_N is low while the module is held in reset and in minimal mode (R611). -/
def State.padFaultLow (s : State) : Bool := s.sup.inReset || s.mode == Mode.MINIMAL

/-- PHY_RST_N and NAND_WP_N are low in reset (R611). -/
def State.padPhyResetLow (s : State) : Bool := s.sup.inReset

/-- UP_TXDIS of uplink `k` is high in reset and while the uplink port's EN is 0 (R607, R611). -/
def State.padTxDisable (s : State) (k : Nat) : Bool := s.sup.inReset || !s.flag (Reg.FAB_PnCFG (48 + k)) 0

/-- The modulator clock of front end `m` is driven while its resource is claimed (R606, R611). -/
def State.padMetClock (s : State) (m : Nat) : Bool := !s.sup.inReset && (s.claimOf (0x1004 + m)).isSome

/-- An NT_PPS pad without an owner, or in reset, is held low (R610, R611). -/
def State.padPpsHeldLow (s : State) (k : Nat) : Bool := s.sup.inReset || (s.claimOf (0x1000 + k)).isNone

/-- JTAG is open in MANUFACTURE and RMA (R542, R612). -/
def State.jtagOpen (s : State) : Bool := s.key.otpState == 0 || s.key.otpState == 3

/-- The trace port is open in MANUFACTURE, PROVISION and RMA (R542, R612). -/
def State.tracePortOpen (s : State) : Bool := s.key.otpState == 0 || s.key.otpState == 1 || s.key.otpState == 3

end Sys2Proof.Machine
end

