-- ==== Sys2Proof/Machine/Settle.lean ====
section
/-! DEFINITION. What gave way within its SYS cycle takes effect at the end of it (R52, R67, R78, R118, R147; log entry 1). -/

namespace Sys2Proof.Machine

/-- One of them acts. -/
def Late.run (l : Late) (s : State) : Host.Outcome State Fault Refusal :=
  match l with
  | .write rq off v => s.powered fun s => s.takeWrite rq off v
  | .read rq off => s.powered fun s => s.readBehind rq off
  | .spiRead off words count => execSpiRead off words count s
  | .claim t => execClaim t s
  | .stakeSet t => execStakeSet t s
  | .stakeModify t => execStakeModify t s
  | .stakeClear t => execStakeClear t s
  | .stakeClearOwner t => execStakeClearOwner t s
  | .confirmTimeout => execConfirmTimeout s
  | .modeSet t => execModeSet t s
  | .cancel t => execCancel t s
  | .opTimeout t => execOpTimeout t s
  | .refLoss => execRefLoss s
  | .timebaseNoRef => execTimebaseNoRef s
  | .acquireTimeout => execAcquireTimeout s
  | .holdoverEnd => execHoldoverEnd s
  | .fastCut p k => execFastCut p k s
  | .overloadCut p k => execOverloadCut p k s
  | .limitCut p k => execLimitCut p k s
  | .mpsLoss p k => execMpsLoss p k s
  | .inrushEnd p => execInrushEnd p false s
  | .dieTemp d t => execDieTemp d t s
  | .vpseUvCut v => execVpseUvCut v s
  | .vpseOvCut v => execVpseOvCut v s
  | .vpseRev => execVpseRev s
  | .portOff t => execPortOff t s
  | .portCycle t => execPortCycle t s
  | .portCommand p => s.powered fun s => s.cutPort p Off.COMMAND PortSt.DETECT
  | .softTimeout q => execSoftTimeout q s
  | .hardRecheck q => execHardRecheck q s
  | .acceptTimeout e q => execAcceptTimeout e q s
  | .bindingTimeout e => execBindingTimeout e s
  | .luminaireLoss e => execLuminaireLoss e s
  | .grantEvaluation => execGrantEvaluation s
  | .nandProgramDone j p => execNandProgramDone j p s
  | .nandReadDone j c f r => execNandReadDone j c f r s
  | .trendFlush c ch => execTrendFlush c ch s
  | .scrubDue b => execScrubDue b s
  | .relocation b => execRelocation b s
  | .staticWearLevel q => execStaticWearLevel q s
  | .garbageCollect q => execGarbageCollect q s
  | .replicaSync => execReplicaSync s
  | .heartbeatRx h f => execHeartbeatRx h f s
  | .rtxTimer m => execRtxTimer m s
  | .ack h => execAck h s
  | .joinRetry => execJoinRetry s
  | .takeoverDecide => execTakeoverDecide s
  | .takeoverWaitExpire => execTakeoverWaitExpire s
  | .pointUpdate h f => execPointUpdate h f s
  | .pointAck h f => execPointAck h f s
  | .replicaAck h f => execReplicaAck h f s
  | .exportSetSend a u d => execExportSetSend a u d s
  | .importStale a b => execImportStale a b s
  | .placeAll => execPlaceAll s
  | .checkpointTake u => execCheckpointTake u s
  | .moveTimeout u => execMoveTimeout u s
  | .keyCacheLoad c => execKeyCacheLoad c s
  | .taskStartTick t => execTaskStartTick t s
  | .taskTrigger t => execTaskTrigger t s
  | .loopSample n => execLoopSample n s
  | .loopTune t => execLoopTune t s
  | .cycleBoundary h => execCycleBoundary h s
  | .pulseRateTimeout i => execPulseRateTimeout i s
  | .memberLoss m => execMemberLoss m s
  | .isolation => execIsolation s
  | .lpiEnter p => execLpiEnter p s
  | .fabFrameTx t d => execFabFrameTx t d s
  | .ptpSyncTx b p => execPtpSyncTx b p s
  | .ptpDelayReqTx b => execPtpDelayReqTx b s
  | .ptpHoldover b => execPtpHoldover b s
  | .ntuPgEnable t => execNtuPgEnable t s
  | .emuPgEnable t => execEmuPgEnable t s
  | .timerSet t => execTimerSet t s
  | .nodeLoss c n => execNodeLoss c n s
  | .canFrameRx c i x f b e r d t => execCanFrameRx c i x f b e r d t s
  | .logicWdt => execLogicWdtExpire s
  | .rtcShadowTimeout => execRtcShadowTimeout s
  | .tenantImport t b => execTenantImport t b s

end Sys2Proof.Machine
end

