-- ==== Sys2Proof/Machine/Step.lean ====
section
/-! DEFINITION. The step: the command at the front of the queue, or one SYS cycle when none waits. -/

namespace Sys2Proof.Machine

/-- One SYS cycle of 1.25 ns (R18): the clock counts; out of reset the chainage counter and the time bases advance (R101,
R453). What happens at a tick beside these is a command of its own (log entry 1). -/
def State.tick (s : State) : State :=
  if s.sup.inReset then { s with clk := s.clk + 1 }
  else { s with clk := s.clk + 1, lat := s.lat.tick (s.latSt != LatSt.RESET) s.latOffset (s.clk + 1), tbs := s.tbs.map TimeBase.tick }

/-- An outcome with what still waits for the end of the SYS cycle. -/
def withLate (rest : List (Nat × Late)) (o : Host.Outcome State Fault Refusal) : Host.Outcome State Fault Refusal :=
  match o with
  | .next t => .next { t with late := rest }
  | .fault f => .fault f
  | .refused r => .refused r

/-- Take the front command and run it on the state with the queue's rest. On an empty queue what gave way to the commands of
this SYS cycle acts, in its order; with none left one SYS cycle passes. -/
def step (s : State) : Host.Outcome State Fault Refusal :=
  match s.pending with
  | c :: cs => exec c { s with pending := cs }
  | [] => match s.late with
    | [] => .next s.tick
    | (_, l) :: rest => withLate rest (l.run { s with late := [] })

/-- The state with the command that a word spells at the front of its queue; unchanged where it spells none. -/
def State.withFetchWord (s : State) (nbits w : Nat) : State :=
  match decodeTableWord nbits w with
  | some c => { s with pending := c :: s.pending }
  | none => s

end Sys2Proof.Machine
end

