-- ==== Sys2Proof/Safety.lean ====
section
/-! DEFINITION. What counts as a safe run, the invariants that claims name, and the words in which claims say what a
command changes. -/

namespace Sys2Proof.Machine

/-- What the OTP may hold (R543): a state of the life cycle, at most 31 rows, helper data blown exactly in SCRAPPED, and no
row unblown again: rows left and the epoch never sum below 31. -/
def State.OtpInv (s : State) : Prop :=
  s.key.otpState ≤ 4 ∧ (s.key.pufDead = true ↔ s.key.otpState = 4) ∧ s.key.otpLeft ≤ 31
    ∧ 31 ≤ s.key.otpLeft + s.key.otpEpoch

/-! ### What a command changes -/

/-- The parts of the state, each one field of it; the queue and the clock are the step's own. -/
inductive Part where
  | late | coreWait | free | out | regs | image | latch | loLatch | loPend | errDetail | claims | points | notes | opt | hif | lat | sup | key | ten
  | tbs | fab | ntu | pse | arb | lcp | dio | scn | hlk | fbc | rtc | lpe | emu | sto
deriving DecidableEq, Repr

/-- Two states agree on a part. -/
def Part.agree (p : Part) (s t : State) : Prop :=
  match p with
  | .late => t.late = s.late
  | .coreWait => t.coreWait = s.coreWait
  | .free => t.free = s.free
  | .out => t.out = s.out
  | .regs => t.regs = s.regs
  | .image => t.image = s.image
  | .latch => t.latch = s.latch
  | .loLatch => t.loLatch = s.loLatch
  | .loPend => t.loPend = s.loPend
  | .errDetail => t.errDetail = s.errDetail
  | .claims => t.claims = s.claims
  | .points => t.points = s.points
  | .notes => t.notes = s.notes
  | .opt => t.opt = s.opt
  | .hif => t.hif = s.hif
  | .lat => t.lat = s.lat
  | .sup => t.sup = s.sup
  | .key => t.key = s.key
  | .ten => t.ten = s.ten
  | .tbs => t.tbs = s.tbs
  | .fab => t.fab = s.fab
  | .ntu => t.ntu = s.ntu
  | .pse => t.pse = s.pse
  | .arb => t.arb = s.arb
  | .lcp => t.lcp = s.lcp
  | .dio => t.dio = s.dio
  | .scn => t.scn = s.scn
  | .hlk => t.hlk = s.hlk
  | .fbc => t.fbc = s.fbc
  | .rtc => t.rtc = s.rtc
  | .lpe => t.lpe = s.lpe
  | .emu => t.emu = s.emu
  | .sto => t.sto = s.sto

/-- Queue, clock and every part outside `ps` are as they were. -/
def OnlyChanges (ps : List Part) (s t : State) : Prop :=
  t.pending = s.pending ∧ t.clk = s.clk ∧ ∀ p, p ∉ ps → p.agree s t

/-- Every register outside `offs` reads as it did. -/
def OnlyRegs (offs : List Nat) (s t : State) : Prop := ∀ off, off ∉ offs → t.reg off = s.reg off

/-- Every point outside `is` is as it was. -/
def OnlyPoints (is : List Nat) (s t : State) : Prop := ∀ i, i ∉ is → t.point i = s.point i

/-- The registers that an event of block `b` may change: its IRQ_STAT and the pending bits of the vectors (R41, R46). -/
def irqRegs (b : Nat) : List Nat := [Reg.IRQ_STAT b, Reg.MSIX_PBA 0, Reg.MSIX_PBA 1]

/-- The registers that an error of block `b` may change (R42). -/
def errRegs (b : Nat) : List Nat := Reg.ERR_CODE b :: irqRegs b

/-! ### Words for premises and outcomes -/

/-- The module is out of reset (R570). -/
def State.Up (s : State) : Prop := s.sup.inReset = false

/-- No other command falls in the present SYS cycle (log entry 1). -/
def State.Alone (s : State) : Prop := s.pending = [] ∧ s.late = []

/-- A host write of the requester to the offset reaches its block at once: nothing else falls in its SYS cycle, no fence of the
requester holds it, the block is not in soft reset, and LOCK does not discard it (R52, R53, R90, R95). -/
def State.Passes (s : State) (rq : Requester) (off : Nat) : Prop :=
  s.Alone ∧ s.fenced rq = false ∧ s.inSrst (off / 0x40000) = false
    ∧ (rq = .pcie ∨ s.flag Reg.HIF_SPI_CTRL 0 = false ∨ spiOpen off = true)

/-- A host read of the requester of one word is answered at once: it stands behind no write of its requester (R88, R91). -/
def State.Answers (s : State) (rq : Requester) (off : Nat) : Prop :=
  s.lateWrites rq = false ∧ s.readBlocked rq off 1 s.hif.nextSeq = false

/-- What gives way waits in `late` with its rank, and nothing else changes (log entry 1). -/
def State.Defers (s t : State) (rank : Nat) (l : Late) : Prop :=
  t = { s with late := s.late.takeWhile (fun e => decide (e.1 ≤ rank)) ++ (rank, l) :: s.late.dropWhile (fun e => decide (e.1 ≤ rank)) }

/-- The operation of tag `t` has ended with a status and a result (R59, R74). -/
def State.Ended (s : State) (t status : Nat) (result : Word) : Prop :=
  (s.slot t).st = .decided ∧ (s.slot t).status = status ∧ (s.slot t).result = result

/-- The offset of an RC register whose read has no effect beside R34's: no latch, no lock, no load of its own. -/
def plainRc (off : Nat) : Bool :=
  (match regRow? off with
    | some r => r.acc == .rc
    | none => false)
  && off % 0x40000 != 0x20 && !latchesHi off && (groupAt off).isNone && (rxHeader off).isNone && (calField Cal.first 0 off).isNone
  && off != Reg.HIF_FENCE && off != Reg.OPT_HWM && off != Reg.RTC_STAT && off != Reg.LAT_XS_SEQ

/-- No earlier read of the offset holds a latched value for it, and no receive entry of the field bus is locked. -/
def State.Unlatched (s : State) (off : Nat) : Prop :=
  tfind? s.loLatch off = none ∧ tfind? s.latch off = none ∧ ∀ c, (s.canCh c).lock = none

/-- The run `r` of a lane has the word `w` of opcode `op` next, and its image's profile has the opcode (R240, R255). -/
def State.AtInsn (s : State) (lane : Nat) (r : Run) (op : Nat) (w : Word) : Prop :=
  s.runOn lane = some r ∧ (s.bank r.bankB).code[r.pc]? = some w ∧ wOp w = op ∧ (opProfF op = true → s.runF r = true)

/-- A run with the PC past its instruction (R241). -/
def Run.past (r : Run) : Run := { r with pc := r.pc + 1 }

/-- HLK takes a frame of header `h` on a pair whose sequences go on (R403, R405). -/
def State.Takes (s : State) (h : LinkHdr) : Prop :=
  s.linkOpen = true ∧ h.src ≤ 63 ∧ h.src ≠ s.sup.moduleNum ∧ s.arb.coreDown = false ∧ s.num Reg.HLK_TERM ≤ h.term
    ∧ h.sound = true ∧ (s.peer h.src).rxStart = some h.start ∧ (s.peer h.src).rxTop < h.counter ∧ (s.peer h.src).unacked.length ≤ 64

/-- It is the pair's next reliable frame, with nothing held out of order (R405). -/
def State.TakesNext (s : State) (h : LinkHdr) : Prop :=
  s.Takes h ∧ h.seq = (s.peer h.src).rxSeq + 1 ∧ (s.peer h.src).rxHeld = []

/-- FAB's own part, its registers and HLK's frame counter are as they were. -/
def SameFabric (s t : State) : Prop :=
  t.fab = s.fab ∧ t.hlk.counter = s.hlk.counter ∧ ∀ off, off / 0x40000 = Blk.FAB → t.reg off = s.reg off

/-- A frame of HLK's: destination, type, sequence, flags, the acknowledged sequence, and the payload fields (R402). -/
structure LinkSend where
  dst : Nat
  type : Nat
  seq : Nat
  flags : Nat
  ack : Nat
  fields : List Nat
deriving DecidableEq, Repr

/-- Between `s` and `t` HLK sends these frames in this order, and FAB takes nothing else (R401, R441). -/
def State.Sent (s t : State) (l : List LinkSend) : Prop :=
  match l with
  | [] => SameFabric s t
  | f :: r => ∃ a, SameFabric s a ∧ (a.peer f.dst).rxSeq = f.ack ∧
      State.Sent (a.emitLink f.dst f.type f.seq f.flags f.fields) t r

/-- HLK sends one unreliable frame, to a member whose frames it acknowledges as before (R402, R404). -/
def State.SentOne (s t : State) (dst type : Nat) (fields : List Nat) : Prop :=
  s.Sent t [⟨dst, type, 0, 0, (s.peer dst).rxSeq, fields⟩]

/-- The acknowledgement of the reliable frame of header `h` (R405). -/
def ackOfFrame (h : LinkHdr) : LinkSend := ⟨h.src, 0x0F, 0, 0, h.seq, []⟩

/-- The frame of header `h` is taken and acknowledged by the one frame that leaves (R405). -/
def State.Acked (s t : State) (h : LinkHdr) : Prop := (t.peer h.src).rxSeq = h.seq ∧ s.Sent t [ackOfFrame h]

/-- One more reliable frame awaits acknowledgement by `m` (R405). -/
def State.Queued (s t : State) (m type : Nat) (fields ops : List Nat) : Prop :=
  (t.peer m).unacked = (s.peer m).unacked ++ [⟨(s.peer m).txSeq + 1, type, false, fields, ops, s.clk⟩]

/-- The life of `s` has ended with a code: the module is held in reset and its commit is due (R567, R568, R570). -/
def State.LifeEnded (s t : State) (code : Nat) : Prop :=
  t.sup.inReset = true ∧ t.sup.pfail = true ∧ t.sup.commitDue = true ∧ t.sup.nv.endCode = code
    ∧ t.sup.nv.lastConfirmed = s.confirmed

/-- The start counter has grown by one, saturating, with its reason (R576, R578). -/
def State.Counted (s t : State) (reason : Nat) : Prop :=
  t.sup.nv.count = Nat.min 255 (s.sup.nv.count + 1) ∧ t.sup.nv.reason = reason
    ∧ t.fld Reg.SUP_START_STAT 0 8 = Nat.min 255 (s.sup.nv.count + 1) % 256

/-- The commands that give way to what coincides with them, whatever else holds: their rank, and what waits for them (R52, R67,
R78, R147; log entry 1). -/
def givesWay (c : Instr) : Option (Nat × Late) :=
  match c with
  | .vpseRev => some (Rank.CUT 0, .vpseRev)
  | .fastCut p k => some (Rank.CUT 1, .fastCut p k)
  | .limitCut p k => some (Rank.CUT 2, .limitCut p k)
  | .overloadCut p k => some (Rank.CUT 3, .overloadCut p k)
  | .vpseUvCut v => some (Rank.CUT 6, .vpseUvCut v)
  | .vpseOvCut v => some (Rank.CUT 7, .vpseOvCut v)
  | .mpsLoss p k => some (Rank.CUT 8, .mpsLoss p k)
  | .softTimeout q => some (Rank.CUT 9, .softTimeout q)
  | .hardRecheck q => some (Rank.CUT 9, .hardRecheck q)
  | .grantEvaluation => some (Rank.EVAL, .grantEvaluation)
  | .claim t => some (Rank.CLAIM Blk.HIF 0, .claim t)
  | .timerSet t => some (Rank.CLAIM Blk.SUP 3, .timerSet t)
  | .ntuPgEnable t => some (Rank.CLAIM Blk.NTU 1, .ntuPgEnable t)
  | .emuPgEnable t => some (Rank.CLAIM Blk.EMU 1, .emuPgEnable t)
  | .confirmTimeout => some (Rank.START, .confirmTimeout)
  | .loopTune t => some (Rank.TUNE, .loopTune t)
  | .cancel t => some (Rank.CANCEL, .cancel t)
  | .cycleBoundary h => some (Rank.BOUND, .cycleBoundary h)
  | .opTimeout t => some (Rank.EXPIRY, .opTimeout t)
  | .refLoss => some (Rank.EXPIRY, .refLoss)
  | .timebaseNoRef => some (Rank.EXPIRY, .timebaseNoRef)
  | .acquireTimeout => some (Rank.EXPIRY, .acquireTimeout)
  | .holdoverEnd => some (Rank.EXPIRY, .holdoverEnd)
  | .acceptTimeout e q => some (Rank.EXPIRY, .acceptTimeout e q)
  | .bindingTimeout e => some (Rank.EXPIRY, .bindingTimeout e)
  | .luminaireLoss e => some (Rank.EXPIRY, .luminaireLoss e)
  | .taskTrigger t => some (Rank.EXPIRY, .taskTrigger t)
  | _ => none

/-- The commands that are a duty of a service core, with the core (R22, R24). -/
def coreDuty (c : Instr) : Option (Nat × Late) :=
  match c with
  | .nandProgramDone j p => some (0, .nandProgramDone j p)
  | .nandReadDone j k f r => some (0, .nandReadDone j k f r)
  | .trendFlush k ch => some (0, .trendFlush k ch)
  | .scrubDue b => some (0, .scrubDue b)
  | .relocation b => some (0, .relocation b)
  | .staticWearLevel q => some (0, .staticWearLevel q)
  | .garbageCollect q => some (0, .garbageCollect q)
  | .replicaSync => some (0, .replicaSync)
  | .rtxTimer m => some (1, .rtxTimer m)
  | .ack h => some (1, .ack h)
  | .joinRetry => some (1, .joinRetry)
  | .takeoverDecide => some (1, .takeoverDecide)
  | .takeoverWaitExpire => some (1, .takeoverWaitExpire)
  | .pointUpdate h f => some (1, .pointUpdate h f)
  | .pointAck h f => some (1, .pointAck h f)
  | .replicaAck h f => some (1, .replicaAck h f)
  | .exportSetSend a u d => some (1, .exportSetSend a u d)
  | .importStale a b => some (1, .importStale a b)
  | .placeAll => some (1, .placeAll)
  | .checkpointTake u => some (1, .checkpointTake u)
  | .moveTimeout u => some (1, .moveTimeout u)
  | .keyCacheLoad k => some (1, .keyCacheLoad k)
  | _ => none

/-- Whether a command's block lives through reset: the backup domain, the dies, the supervision of the supply and reset
release (R153, R511, R522, R566, R570). -/
def livesInReset (c : Instr) : Bool :=
  match c with
  | .rtcSecond | .rtcWake | .trimWindow | .oscStop | .backupPowerUp => true
  | .vpseUvCut _ | .vpseRev | .pseSample _ _ => true
  | .dieAutonomous _ | .dieColdPowerUp _ | .dieTemp _ _ | .fieldDieSafe => true
  | .fastCut _ _ | .overloadCut _ _ | .limitCut _ _ | .mpsLoss _ _ => true
  | .pfail _ _ | .resetRelease _ _ | .modeSet _ => true
  | _ => false

/-- Nothing that STO has to do is open (R389, R370). -/
def State.StoIdle (s : State) : Prop := s.sto.jobs = [] ∧ s.sto.writes = [] ∧ s.sto.buffer = [] ∧ s.sto.durable = []

end Sys2Proof.Machine
end

