-- ==== Sys2Proof/Certificates/Slice0/Obligations.lean ====
section
/-! DEFINITION. The statements for the provers. Each docstring names the rules of the spec; `Up` is a module out of reset. -/

open Sys2Proof Sys2Proof.Machine

/-! ### The queue and every command -/

/-- A step runs the command at the front of the queue on the state with the queue's rest. -/
def Obligations.StepRunsFrontCommand : Prop :=
  ∀ (c : Instr) (cs : List Instr) (s : State), s.pending = c :: cs → step s = exec c { s with pending := cs }

/-- On an empty queue, with nothing left of the SYS cycle, one SYS cycle of 1.25 ns passes (R18; that the queue decides when is
the model's choice, log entry 1): the clock counts; out of reset the chainage counter and the four time bases advance. What
gave way to the commands of the SYS cycle acts before that, the first of it at each step, and the rest still waits. -/
def Obligations.EmptyQueueLetsOneCyclePass : Prop :=
  ∀ s : State, s.pending = [] →
    (s.late = [] → s.sup.inReset = true → step s = .next { s with clk := s.clk + 1 }) ∧
    (s.late = [] → s.Up → step s = .next { s with
      clk := s.clk + 1, lat := s.lat.tick (s.latSt != LatSt.RESET) s.latOffset (s.clk + 1), tbs := s.tbs.map TimeBase.tick }) ∧
    (∀ k l r, s.late = (k, l) :: r → ∃ t, l.run { s with late := [] } = .next t ∧ step s = .next { t with late := r })

/-- Every command of the table answers a next state in every state; it leaves the queue and the clock alone, and no command but
LC_ADVANCE changes the OTP (R543). -/
def Obligations.EveryCommandAnswersNext : Prop :=
  ∀ (c : Instr) (s : State), ∃ t, exec c s = .next t ∧ t.pending = s.pending ∧ t.clk = s.clk ∧
    ((∀ n k, c ≠ .lcAdvance n k) → t.key.otpState = s.key.otpState ∧ t.key.otpLeft = s.key.otpLeft
      ∧ t.key.otpEpoch = s.key.otpEpoch ∧ t.key.pufDead = s.key.pufDead)

/-! ### Host accesses -/

/-- What lies outside the map or the allowed sizes: a read longer than 8 bytes ends in Completer Abort and reads nothing, an
AtomicOp in Unsupported Request (R32), and the error status shows it (R45); an unimplemented offset reads 0 or its write is
discarded, and address and count are recorded (R31). A host write takes effect by the access type of its register, where no
other rule speaks of it: RW takes the value in its implemented bits and RO is left alone in five blocks, W1C clears the bits
written as 1 in FAB (R34). Reads with an effect. An RC register returns its value and clears (R34); a _LO register latches its
_HI, which the next read of _HI returns (R33); the first word of an entry latches the rest (R131). A write that coincides with
other commands and has to give way to them waits, at its rank, for the end of the SYS cycle: the SPI's behind PCIe's (R52),
one of CTRL with EN or SRST set, and every write behind an earlier one of its requester that waits (R67, R78, R88). With
nothing else in its SYS cycle a write acts at once. Each of these forms completes here, in a next state: regWrite, rcRead,
hiLatchRead, entryLatchRead, unmappedAccess, longReadAbort, atomicOp. -/
def Obligations.HostAccesses : Prop :=
  (∀ s : State, s.Up →
    (∀ n, 8 < n → exec (.longReadAbort n) s = .next ((s.noteAer AerBit.COMPLETER_ABORT).emit .completerAbort)) ∧
    (exec .atomicOp s = .next ((s.noteAer AerBit.UNSUPPORTED_REQUEST).emit .unsupportedRequest)) ∧
    (∀ off, regRow? off = none → s.Answers .pcie off → ∃ t, exec (.unmappedAccess .pcie off false) s = .next t
      ∧ t.out.getLast? = some (.readData .pcie [0])
      ∧ t.num Reg.HIF_UNMAPPED_ADDR = off % 2 ^ 25
      ∧ t.num Reg.HIF_UNMAPPED_CNT = Nat.min (s.num Reg.HIF_UNMAPPED_CNT + 1) (2 ^ 32 - 1)
      ∧ OnlyChanges [.regs, .out] s t ∧ OnlyRegs (Reg.HIF_UNMAPPED_ADDR :: Reg.HIF_UNMAPPED_CNT :: irqRegs Blk.HIF) s t) ∧
    (∀ off, regRow? off = none → s.fenced .pcie = false → off ≠ Reg.HIF_FENCE → s.Alone →
      ∃ t, exec (.unmappedAccess .pcie off true) s = .next t
      ∧ t.num Reg.HIF_UNMAPPED_ADDR = off % 2 ^ 25
      ∧ t.num Reg.HIF_UNMAPPED_CNT = Nat.min (s.num Reg.HIF_UNMAPPED_CNT + 1) (2 ^ 32 - 1)
      ∧ OnlyChanges [.regs, .out] s t ∧ OnlyRegs (Reg.HIF_UNMAPPED_ADDR :: Reg.HIF_UNMAPPED_CNT :: irqRegs Blk.HIF) s t)) ∧
  (∀ (s : State) (rq : Requester) (off : Nat) (r : RegRow) (v : Word), s.Up → s.Passes rq off → regRow? off = some r →
    0x100 ≤ off % 0x40000 →
    (off / 0x40000 ∈ [Blk.LAT, Blk.ARB, Blk.STO, Blk.HLK, Blk.KEY] → r.acc = .rw → exec (.regWrite rq off [(0xF, v)]) s =
      .next (s.setReg off ((s.reg off &&& ~~~(BitVec.ofNat 32 r.wmask)) ||| (v &&& BitVec.ofNat 32 r.wmask)))) ∧
    (off / 0x40000 = Blk.FAB → r.acc = .w1c → exec (.regWrite rq off [(0xF, v)]) s
      = .next (s.setReg off (s.reg off &&& ~~~v))) ∧
    (off / 0x40000 ∈ [Blk.LAT, Blk.ARB, Blk.STO, Blk.HLK, Blk.KEY] → r.acc = .ro →
      exec (.regWrite rq off [(0xF, v)]) s = .next s)) ∧
  (∀ (s : State) (rq : Requester), s.Up →
    (∀ off, plainRc off → s.masked off = false → s.Unlatched off → s.Answers rq off →
      exec (.rcRead rq off) s = .next ((s.setReg off 0).emit (.readData rq [s.view off]))) ∧
    (∀ off, latchesHi off = true → off % 0x40000 ≠ 0x20 → off ≠ Reg.HIF_FENCE → (regRow? off).isSome →
      calField Cal.first 0 off = none → rxHeader off = none → s.masked off = false → s.Unlatched off → s.Answers rq off →
      ∃ t, exec (.hiLatchRead rq off) s = .next t ∧ t.out.getLast? = some (.readData rq [s.view off])
        ∧ tfind? t.loLatch (off + 4) = some (s.view (off + 4))) ∧
    (∀ off v, tfind? s.loLatch off = some v → off % 0x40000 ≠ 0x20 → off ≠ Reg.HIF_FENCE → (regRow? off).isSome →
      calField Cal.first 0 off = none → s.Answers rq off →
      ∃ t, exec (.hiLatchRead rq off) s = .next t ∧ t.out.getLast? = some (.readData rq [v]) ∧ tfind? t.loLatch off = none) ∧
    (∀ off g, groupAt off = some g → latchesHi off = false → off % 0x40000 ≠ 0x20 → off ≠ Reg.HIF_FENCE → (regRow? off).isSome →
      calField Cal.first 0 off = none → rxHeader off = none → s.masked off = false → s.Unlatched off → s.Answers rq off →
      ∃ t, exec (.entryLatchRead rq off) s = .next t ∧ t.out.getLast? = some (.readData rq [s.view off])
        ∧ ∀ i, i < g.words → s.masked (off + g.skip + 4 * i) = false →
            tfind? t.latch (off + g.skip + 4 * i) = some (s.view (off + g.skip + 4 * i)))) ∧
  (∀ (s : State) (rq : Requester) (off : Nat) (v : Word), s.Up →
    (∀ k, s.writeRank rq off v = some k → ∃ t, exec (.regWrite rq off [(0xF, v)]) s = .next t ∧ s.Defers t k (.write rq off v)) ∧
    (s.Alone → s.writeRank rq off v = none) ∧
    (s.lateWrites rq = true → s.writeRank rq off v = some Rank.BEHIND) ∧
    (s.together = true → rq = .spi → (s.writeRank rq off v).any (Rank.SPI ≤ ·) = true) ∧
    (∀ b, s.together = true → off = Reg.CTRL b → v.toNat / 2 % 2 = 1 → (s.writeRank rq off v).any (Rank.SRST ≤ ·) = true))

/-- Page 0 of a block. IRQ_STAT clears the bits written as 1 unless their event occurs again (R41); IRQ_FORCE sets events (R36);
EN enables a block that is READY and disables it (R37), here for a block whose first enable is behind it; a soft reset of KEY
with no operation open sets SRST and clears EN, and at its end EN and SRST read 0 (R95). Step 4 of a soft reset of ARB that no
host write or read waits for: registers at their reset values or the image's, the block's claims released, EN and SRST 0,
READY as before (R95). Each of these forms completes here, in a next state: irqStatClear, irqForce, ctrlEn, srst,
softResetComplete. -/
def Obligations.PageZeroAndSoftReset : Prop :=
  (∀ (s : State) (rq : Requester) (b : Nat), s.Up → 1 ≤ b → b ≤ 19 → s.Passes rq (Reg.CTRL b) →
    (∀ v recurs, exec (.irqStatClear rq b v recurs) s
      = .next (s.setReg (Reg.IRQ_STAT b) (s.reg (Reg.IRQ_STAT b) &&& ~~~(v &&& ~~~recurs)))) ∧
    (∀ v, ∃ t, exec (.irqForce rq b v) s = .next t ∧ t.reg (Reg.IRQ_STAT b) = (s.reg (Reg.IRQ_STAT b) ||| (v &&& irqMask b))
      ∧ OnlyChanges [.regs, .out] s t ∧ OnlyRegs (irqRegs b) s t) ∧
    (∀ v : Word, v.toNat % 4 = 1 → s.flag (Reg.STAT b) 0 = true → b ≠ Blk.LAT → s.sup.initDue.contains b = false →
      ∃ t, exec (.ctrlEn rq b v) s = .next t ∧ t.en b = true
        ∧ OnlyChanges [.regs] s t ∧ OnlyRegs [Reg.CTRL b] s t) ∧
    (∀ v : Word, v.toNat % 4 = 0 → b ≠ Blk.LAT → ∃ t, exec (.ctrlEn rq b v) s = .next t ∧ t.en b = false
        ∧ OnlyChanges [.regs] s t ∧ OnlyRegs [Reg.CTRL b] s t) ∧
    (b = Blk.KEY → s.openTags = [] → (s.en b = true → s.flag (Reg.STAT b) 0 = true) →
      ∃ t, exec (.srst rq b) s = .next t ∧ t.inSrst b = true ∧ t.en b = false
      ∧ OnlyChanges [.regs] s t ∧ OnlyRegs [Reg.CTRL b] s t)) ∧
  (∀ s : State, s.Up → s.inSrst Blk.ARB = true → s.hif.opens = [] → s.hif.held = [] → s.hif.waiting = [] →
    s.image = [] →
    ∃ t, exec (.softResetComplete Blk.ARB) s = .next t ∧ t.inSrst Blk.ARB = false ∧ t.en Blk.ARB = false
      ∧ t.fld (Reg.STAT Blk.ARB) 0 1 = s.fld (Reg.STAT Blk.ARB) 0 1
      ∧ (∀ off, off / 0x40000 = Blk.ARB → off ≠ Reg.STAT Blk.ARB → t.reg off = regReset off)
      ∧ (∀ off, off / 0x40000 ≠ Blk.ARB → t.reg off = s.reg off)
      ∧ (∀ c, c ∈ t.claims ↔ c ∈ s.claims ∧ c.block ≠ Blk.ARB))

/-- A read of ERR_CODE answers it, moves the detail of its CODE to ERR_INFO and clears CODE, COUNT and the detail; an error that
occurs later leaves ERR_INFO alone (R43). Each of these forms completes here, in a next state: errCodeRead. -/
def Obligations.ErrCodeReadMovesDetail : Prop :=
  ∀ (s : State) (rq : Requester) (b : Nat), s.Up → 1 ≤ b → b ≤ 19 →
    (s.Answers rq (Reg.ERR_CODE b) → ∃ t, exec (.errCodeRead rq b) s = .next t ∧ t.out.getLast? = some (.readData rq [s.reg (Reg.ERR_CODE b)])
      ∧ t.reg (Reg.ERR_INFO b) = tget (fun _ => 0) s.errDetail b ∧ t.reg (Reg.ERR_CODE b) = 0
      ∧ tget (fun _ => 0) t.errDetail b = 0
      ∧ OnlyChanges [.regs, .out, .errDetail] s t ∧ OnlyRegs [Reg.ERR_CODE b, Reg.ERR_INFO b] s t) ∧
    (∀ code d, (s.reportErr b code d).reg (Reg.ERR_INFO b) = s.reg (Reg.ERR_INFO b)
      ∧ (s.reportErr b code d).fld (Reg.ERR_CODE b) 0 8 = code % 256
      ∧ tget (fun _ => 0) (s.reportErr b code d).errDetail b = d)

/-! ### The management SPI, fences and the link -/

/-- The management SPI: STATUS answers BUSY, ERR, MINIMAL and READY and clears ERR (R51); IDENT answers SUP_ID; a WRITE of one
word does what a register write of the SPI does, and one cut short sets ERR too (R49, R51); a READ answers ready bytes, 01h
and its word MSB first, and sets ERR where CS_N rises inside the word (R50, R51); LOCK is set from PCIe alone (R53). The
transaction codes are those of R49. Fences: with no earlier write open a fence of PCIe takes the next number and FENCE_SEQ of
every block shows it; a fence of the SPI counts its own sequence; a read of HIF_FENCE then answers the requester's sequence,
and waits while an earlier write is open (R90, R91). Each of these forms completes here, in a next state: spiRead, spiWrite,
spiStatus, spiIdent, spiLock, hifFence, hifFenceRead. -/
def Obligations.SpiAndFences : Prop :=
  (∀ s : State, s.Up →
    (exec .spiStatus s = .next (s.startSpi.emit (.spiBytes [BitVec.ofNat 8
      ((if s.writesOpen .spi || s.fenced .spi || s.lateWrites .spi then 1 else 0) + (if s.hif.spiErr then 2 else 0)
        + (if s.mode = Mode.MINIMAL then 4 else 0) + (if s.flag (Reg.STAT Blk.SUP) 0 then 8 else 0))]))) ∧
    (exec .spiIdent s = .next (s.startSpi.emit (.spiBytes (beBytes 4 (s.num (Reg.ID Blk.SUP)))))) ∧
    (s.startSpi.hif.spiErr = false ∧ s.startSpi.regs = s.regs) ∧
    (∀ off v, off % 4 = 0 → exec (.spiWrite off [v] false) s = exec (.regWrite .spi off [(0xF, v)]) s.startSpi) ∧
    (∀ off v, ∃ t, exec (.spiWrite off [v] true) s = .next t ∧ t.hif.spiErr = true) ∧
    (∀ v, s.Passes .spi (Reg.IRQ_FORCE Blk.SUP) →
      ∃ t, exec (.spiWrite (Reg.IRQ_FORCE Blk.SUP) [v] false) s = .next t
        ∧ t.reg (Reg.IRQ_STAT Blk.SUP) = (s.reg (Reg.IRQ_STAT Blk.SUP) ||| (v &&& irqMask Blk.SUP))
        ∧ OnlyChanges [.regs, .out, .hif] s t ∧ OnlyRegs (irqRegs Blk.SUP) s t) ∧
    (∀ off count cut, plainRc off → off % 4 = 0 → s.masked off = false → s.Unlatched off → s.Answers .spi off →
      s.hif.waiting = [] → ∃ t, exec (.spiRead off ⟨1, cut⟩ count) s = .next t
        ∧ t.out = s.out ++ [.spiBytes (List.replicate (Config.spiReady s.free).val 0 ++ 1 :: beBytes 4 (s.view off).toNat)]
        ∧ t.hif.spiErr = cut ∧ OnlyChanges [.regs, .out, .hif, .free] s t ∧ OnlyRegs [off] s t ∧ t.num off = 0) ∧
    (∀ v : Word, s.Passes .pcie Reg.HIF_SPI_CTRL →
      exec (.spiLock .pcie v) s = .next (s.setNum Reg.HIF_SPI_CTRL (v.toNat % 2))) ∧
    (∀ v, s.Passes .spi Reg.HIF_SPI_CTRL → exec (.spiLock .spi v) s = .next s) ∧
    (∀ addr data words count cut,
      spiCommand 0x0B addr data words count cut = some (.spiRead addr ⟨words, cut⟩ count)
      ∧ spiCommand 0x02 addr data words count cut = some (.spiWrite addr data cut)
      ∧ spiCommand 0x05 addr data words count cut = some .spiStatus
      ∧ spiCommand 0x9F addr data words count cut = some .spiIdent)) ∧
  (∀ s : State, s.Up →
    (s.Passes .pcie Reg.HIF_FENCE → s.hif.opens = [] → ∃ t, exec (.hifFence .pcie) s = .next t
      ∧ t.hif.fencePcie = s.hif.fencePcie + 1 ∧ (∀ k, k < 19 → t.reg (Reg.FENCE_SEQ (k + 1)) = s.hif.fencePcie + 1)
      ∧ OnlyChanges [.regs, .hif] s t ∧ OnlyRegs ((List.range 19).map fun k => Reg.FENCE_SEQ (k + 1)) s t) ∧
    (s.Passes .spi Reg.HIF_FENCE → s.flag Reg.HIF_SPI_CTRL 0 = false → s.hif.opens = [] →
      exec (.hifFence .spi) s = .next { s with hif := { s.hif with fenceSpi := s.hif.fenceSpi + 1 } }) ∧
    (∀ rq, s.Answers rq Reg.HIF_FENCE → ∃ t, exec (.hifFenceRead rq) s = .next t ∧ OnlyChanges [.out] s t
      ∧ t.out = s.out ++ [.readData rq [s.fenceSeq rq]]) ∧
    (∀ rq, s.lateWrites rq = false → s.readBlocked rq Reg.HIF_FENCE 1 s.hif.nextSeq = true → exec (.hifFenceRead rq) s
      = .next { s with hif := { s.hif with waiting := s.hif.waiting ++ [⟨rq, Reg.HIF_FENCE, none, 0, false, s.hif.nextSeq⟩] } }) ∧
    (∀ rq e, e ∈ s.hif.opens → e.rq = rq → e.seq < s.hif.nextSeq → s.readBlocked rq Reg.HIF_FENCE 1 s.hif.nextSeq = true))

/-- The link: when it is up HIF_LINK_STAT shows speed, width and UP (R63); a PCIe reset disables every ring and queue, abandons
the descriptors not fetched and returns the configuration header to its reset values (R48). BAR0 and BAR1 together are one
64-bit memory BAR of 32 MiB: of BAR0 the bits 31 to 25 are writable, of BAR1 all (R29). Rings and queues. Enabling a ring
starts fetching at HEAD (R64); a doorbell moves the tail within the free entries (R56); enabling a queue sets TAIL 0 and PHASE
1 (R55); a HEAD write frees entries (R61). Here with no completion held. Each of these forms completes here, in a next state:
pcieReset, sqDoorbell, sqEnable, cqEnable, cqHeadWrite, pcieLinkUp. -/
def Obligations.LinkRingsAndQueues : Prop :=
  (∀ s : State, s.Up →
    (∀ speed width, 1 ≤ speed → speed ≤ 3 → 1 ≤ width → width ≤ 2 → ∃ t, exec (.pcieLinkUp speed width) s = .next t ∧ t.hif.linkUp = true
      ∧ t.fld Reg.HIF_LINK_STAT 0 9 = speed + width * 16 + 256 ∧ t.flag (Reg.IRQ_STAT Blk.HIF) 3 = true
      ∧ OnlyChanges [.regs, .out, .hif] s t ∧ OnlyRegs (Reg.HIF_LINK_STAT :: irqRegs Blk.HIF) s t) ∧
    (∃ t, exec .pcieReset s = .next t ∧ t.hif.linkUp = false ∧ t.hif.cfg = PcieCfg.reset
      ∧ t.fld Reg.HIF_LINK_STAT 0 9 = 0 ∧ t.opt.tlpWait = [] ∧ t.opt.slots = s.opt.slots
      ∧ (∀ n, n < 8 → t.flag (Reg.HIF_SQn_CTRL n) 0 = false ∧ t.cqEn n = false ∧ t.ringReady n = false)
      ∧ OnlyChanges [.regs, .out, .hif, .opt] s t) ∧
    (∀ (c : PcieCfg) (v : Word), (c.writeBar 0x10 v).bar0.toNat = v.toNat / 2 ^ 25 * 2 ^ 25 + 4
      ∧ (c.writeBar 0x14 v).bar1 = v ∧ ∀ n, n ≠ 0x10 → n ≠ 0x14 → c.writeBar n v = c)) ∧
  (∀ (s : State) (n : Nat) (v : Word), s.Up → n < 8 → s.Passes .pcie Reg.HIF_MBOX_GO →
    (s.num (Reg.HIF_SQn_BASE_LO n) % 2 ^ 14 = 0 → ∃ t, exec (.sqEnable .pcie n v) s = .next t
      ∧ t.flag (Reg.HIF_SQn_CTRL n) 0 = bitOf v.toNat 0 ∧ t.fld (Reg.HIF_SQn_CTRL n) 1 3 = bitsOf v.toNat 1 3
      ∧ OnlyChanges [.regs] s t ∧ OnlyRegs [Reg.HIF_SQn_CTRL n] s t) ∧
    ((v.toNat % 256 + 256 - s.fld (Reg.HIF_SQn_HEAD n) 8 8) % 256
        ≤ 255 - (s.fld (Reg.HIF_SQn_HEAD n) 8 8 + 256 - s.fld (Reg.HIF_SQn_HEAD n) 0 8) % 256 →
      exec (.sqDoorbell .pcie n v) s = .next (s.setFld (Reg.HIF_SQn_HEAD n) 8 8 (v.toNat % 256))) ∧
    (bitOf v.toNat 0 = true → s.cqEn n = false → s.num (Reg.HIF_CQn_BASE_LO n) % 2 ^ 12 = 0 → s.opt.decided = [] →
      ∃ t, exec (.cqEnable .pcie n v) s = .next t ∧ t.cqEn n = true ∧ t.num (Reg.HIF_CQn_TAIL n) = 0x100
        ∧ t.flag (Reg.HIF_CQn_STAT n) 0 = false
        ∧ OnlyChanges [.regs, .hif] s t ∧ OnlyRegs [Reg.HIF_CQn_CTRL n, Reg.HIF_CQn_TAIL n, Reg.HIF_CQn_STAT n] s t) ∧
    (s.opt.decided = [] → ∃ t, exec (.cqHeadWrite .pcie n v) s = .next t
        ∧ t.num (Reg.HIF_CQn_HEAD n) = v.toNat % 256
        ∧ OnlyChanges [.regs] s t ∧ OnlyRegs [Reg.HIF_CQn_HEAD n, Reg.HIF_CQn_STAT n] s t))

/-! ### Operations -/

/-- A descriptor of a block that would run it takes the first free tag above the last one: its slot is ACTIVE with the next
generation (R57, R70, R71), from the ring whose turn it is or from the mailbox when GO is written; a mailbox descriptor that
may not be accepted waits with GO = 1 (R54, R72). Completions. The oldest decided operation that goes to the history alone is
written there and frees its slot (R75, R93); a completion whose TLP is acknowledged frees its slot (R75); the coalescing
timeout signals the queue (R62). Each of these forms completes here, in a next state: mboxGo, descriptorFetch,
completionWrite, completionAcked, cqCoalTimeout. -/
def Obligations.DescriptorsAndCompletions : Prop :=
  (∀ (s : State) (k : Nat), s.Up → s.freeTag = some k → s.mayAccept = true →
    (∀ desc n, s.nextRing = some n → bitsOf desc.toNat 8 8 = Blk.SUP → bitsOf desc.toNat 0 8 = 0x20 →
      bitsOf desc.toNat 64 16 = 0 → s.cqEn (bitsOf desc.toNat 16 3) = true → s.inSrst Blk.SUP = false → s.en Blk.SUP = true →
      ∃ t, exec (.descriptorFetch desc) s = .next t ∧ (t.slot k).st = .active ∧ (t.slot k).block = Blk.SUP
        ∧ (t.slot k).opcode = 0x20 ∧ (t.slot k).gen = ((s.slot k).gen + 1) % 128 ∧ (t.slot k).origin = .ring n
        ∧ t.opt.lastTag = k ∧ t.fld (Reg.HIF_SQn_HEAD n) 0 8 = (s.fld (Reg.HIF_SQn_HEAD n) 0 8 + 1) % 256
        ∧ (∀ u, u ≠ k → t.slot u = s.slot u) ∧ OnlyChanges [.regs, .out, .opt, .hif] s t) ∧
    (s.Passes .pcie Reg.HIF_MBOX_GO → s.flag Reg.HIF_MBOX_GO 0 = false → bitsOf s.mboxDesc.toNat 8 8 = Blk.SUP →
      bitsOf s.mboxDesc.toNat 0 8 = 0x20 → bitsOf s.mboxDesc.toNat 64 16 = 0 → s.inSrst Blk.SUP = false → s.en Blk.SUP = true →
      ∃ t, exec (.mboxGo .pcie 1) s = .next t ∧ (t.slot k).st = .active ∧ (t.slot k).block = Blk.SUP
        ∧ (t.slot k).origin = .mailbox ∧ t.flag Reg.HIF_MBOX_GO 0 = true
        ∧ (∀ u, u ≠ k → t.slot u = s.slot u) ∧ OnlyChanges [.regs, .out, .opt, .hif] s t) ∧
    (∀ a : State, a.Up → a.Passes .pcie Reg.HIF_MBOX_GO → a.flag Reg.HIF_MBOX_GO 0 = false → a.mayAccept = false →
      ∃ t, exec (.mboxGo .pcie 1) a = .next t ∧ t.flag Reg.HIF_MBOX_GO 0 = true ∧ t.hif.mboxWait = true
        ∧ OnlyChanges [.regs, .hif] a t ∧ OnlyRegs [Reg.HIF_MBOX_GO] a t)) ∧
  (∀ s : State, s.Up → s.sup.pfail = false →
    (∀ k, s.headOf 8 = some k → s.opt.histDone.contains k = false → ∃ t, exec (.completionWrite 8) s = .next t
      ∧ (t.slot k).st = .free ∧ k ∉ t.opt.decided ∧ (∀ u, u ≠ k → t.slot u = s.slot u)
      ∧ t.fld Reg.OPT_HIST_HEAD 0 10 = (s.fld Reg.OPT_HIST_HEAD 0 10 + 1) % 1024
      ∧ OnlyChanges [.regs, .opt] s t) ∧
    (∀ k, s.opt.tlpWait.find? (fun e => e % 512 == k) = some k → k < 512 →
      ∃ t, exec (.completionAcked k) s = .next t ∧ (t.slot k).st = .free ∧ t.opt.tlpWait = s.opt.tlpWait.erase k ∧ (∀ u, u ≠ k → t.slot u = s.slot u) ∧ OnlyChanges [.opt] s t) ∧
    (∀ q, s.fld (Reg.HIF_CQn_CTRL q) 16 8 ≠ 0 → tget (fun _ => 0) s.hif.sinceSignal q ≠ 0 →
      ∃ t, exec (.cqCoalTimeout q) s = .next t ∧ tget (fun _ => 0) t.hif.sinceSignal q = 0
        ∧ OnlyChanges [.regs, .out, .hif] s t))

/-- The ends that OPT gives. An operation of SUP past its timeout ends FAIL_TIMEOUT (R76); CANCEL of an operation that has no
point of no return left ends OK with RESULT 0 (R80); QUERY ends OK with the target's state (R79). The operation is not asked
for by another module, and for the timeout no storage work and no slew waits. Lost reports and held requests. A release with
reports held starts on its queue; the oldest report not yet sent is written to the queue and the history, and once its TLP is
acknowledged it is deleted, the last one with DONE (R75, R85, R99); a stake that waited for a tag is past due once one is free
(R73, R124). The commands of `givesWay` that coincide with others wait at their rank for the end of the SYS cycle and change
nothing else; what then waits acts as the command does (R67, R78, R118, R147; the order within a SYS cycle is the spec's, that
commands waiting together share one is the model's choice, log entry 1). An edit of the stake table waits at its editor's
rank. A duty of a service core that SUP restarts waits for the core, once; with a core not started nothing happens (R22, R24,
R579). When the core is ready what waited for it is served in its order, and what then acts is the duty's command. Each of
these forms completes here, in a next state: tagWaitRelease, opTimeout, completionAcked, cancel, query, lostRelease,
lostReportWrite, stakeSet, stakeModify, stakeClear, stakeClearOwner. -/
def Obligations.EndsGivenByOpt : Prop :=
  (∀ (s : State) (k : Nat) (x : Slot), s.Up → tfind? s.hlk.serving k = none →
    ((s.slot k).st = .active → (s.slot k).block = Blk.SUP → s.remoteByTag k = none → s.lcp.cmds.find? (fun c => c.tag == k) = none →
      (s.slot k).beginClk + (s.slot k).timeoutMs * msClk ≤ s.clk →
      s.sto.writes = [] → s.sto.durable = [] → s.sto.waits = [] → s.ntu.adj = [] →
      ∃ t, exec (.opTimeout k) s = .next t ∧ t.Ended k St.FAIL_TIMEOUT 0 ∧ (∀ u, u ≠ k → t.slot u = s.slot u)) ∧
    (s.activeOp k Blk.OPT 1 = some x → s.targetRefusal x = none →
      s.cancellable (bitsOf (paramField x.param 0 2) 0 9) = false →
      ∃ t, exec (.cancel k) s = .next t ∧ t.Ended k St.OK 0 ∧ (∀ u, u ≠ k → t.slot u = s.slot u)
        ∧ OnlyChanges [.opt, .scn, .sto] s t) ∧
    (s.activeOp k Blk.OPT 2 = some x → s.targetRefusal x = none →
      ∃ t, exec (.query k) s = .next t
        ∧ t.Ended k St.OK (s.queryResult (s.slot (bitsOf (paramField x.param 0 2) 0 9)))
        ∧ (∀ u, u ≠ k → t.slot u = s.slot u) ∧ OnlyChanges [.opt, .scn, .sto] s t)) ∧
  (∀ s : State, s.Up →
    (∀ v : Word, s.Passes .pcie Reg.OPT_LOST_CTRL → bitOf v.toNat 8 = true → s.opt.lostRun = none →
      s.cqEn (v.toNat % 8) = true → s.opt.lost ≠ [] → ∃ t, exec (.lostRelease .pcie v) s = .next t
        ∧ t.opt.lostRun = some (v.toNat % 8) ∧ t.fld Reg.OPT_LOST_CTRL 0 3 = v.toNat % 8
        ∧ t.flag Reg.OPT_LOST_CTRL 9 = false ∧ t.opt.lost = s.opt.lost
        ∧ OnlyChanges [.regs, .opt] s t ∧ OnlyRegs [Reg.OPT_LOST_CTRL] s t) ∧
    (∀ q r, s.opt.lostRun = some q → s.opt.lost[s.lostSent]? = some r → s.sup.pfail = false → s.cqEn q = true →
      s.cqFull q = false → ∃ t, exec .lostReportWrite s = .next t ∧ t.opt.lost.length = s.opt.lost.length
        ∧ t.opt.tlpWait = s.opt.tlpWait ++ [512 + r.tag] ∧ t.opt.lostRun = some q ∧ t.opt.slots = s.opt.slots
        ∧ OnlyChanges [.regs, .out, .opt, .hif] s t) ∧
    (∀ r rest k, s.opt.lost = r :: rest → r.tag = k → k < 512 → s.sup.pfail = false →
      s.opt.tlpWait.find? (fun e => e % 512 == k) = some (512 + k) → ∃ t, exec (.completionAcked k) s = .next t
        ∧ t.opt.lost = rest ∧ t.opt.lostRun = (if rest = [] then none else s.opt.lostRun)
        ∧ (rest = [] → s.opt.lostRun.isSome = true → t.flag Reg.OPT_LOST_CTRL 9 = true) ∧ t.opt.slots = s.opt.slots
        ∧ OnlyChanges [.regs, .opt] s t) ∧
    (∀ i k, s.nextTagWait = some (.stake i) → s.freeTag = some k → (s.stake i).valid = true → (s.stake i).late = 0 →
      (s.stake i).chainage.toNat < s.chain →
      exec .tagWaitRelease s = .next (({ s with opt := { s.opt with tagWait := s.opt.tagWait.erase (.stake i) } }.putStake i
        { s.stake i with pastDue := true }).noteStakes))) ∧
  ((∀ (c : Instr) (k : Nat) (l : Late) (s : State), givesWay c = some (k, l) →
    (s.Up → s.together = true → ∃ t, exec c s = .next t ∧ s.Defers t k l) ∧ l.run s = exec c s) ∧
  (∀ (s : State) (n : Nat), s.Up → s.together = true →
    (∃ t, exec (.stakeSet n) s = .next t ∧ s.Defers t (Rank.EDIT (s.slot n).editor) (.stakeSet n)) ∧
    (∃ t, exec (.stakeModify n) s = .next t ∧ s.Defers t (Rank.EDIT (s.slot n).editor) (.stakeModify n)) ∧
    (∃ t, exec (.stakeClear n) s = .next t ∧ s.Defers t (Rank.EDIT (s.slot n).editor) (.stakeClear n)) ∧
    (∃ t, exec (.stakeClearOwner n) s = .next t ∧ s.Defers t (Rank.EDIT (s.slot n).editor) (.stakeClearOwner n)))) ∧
  ((∀ (c : Instr) (core : Nat) (l : Late) (s : State), coreDuty c = some (core, l) →
    (s.Up → s.coreUp core = false → s.coreRestarts core = true → s.coreWait.contains (core, l) = false →
      exec c s = .next { s with coreWait := s.coreWait ++ [(core, l)] }) ∧
    (s.Up → s.coreUp core = false → (s.coreRestarts core = false ∨ s.coreWait.contains (core, l) = true) → exec c s = .next s) ∧
    l.run s = exec c s) ∧
  (∀ (s : State) (core : Nat), (s.serveCore core).coreWait = s.coreWait.filter (fun e => e.1 != core)) ∧
  (∀ (s : State) (core : Nat), s.late = [] →
    (s.serveCore core).late = (s.coreWait.filter (fun e => e.1 == core)).map (fun e => (Rank.CORE, e.2))))

/-! ### LAT -/

/-- A qualified crossing in LOCKED, delivered as it happens: LAT_PERIOD is the length of the cycle since the previous one,
LAT_PHASE_ERR the signed error, and a cross-stamp is recorded (R104, R131, R8). The counter's own cross-stamp at LAT_OFFSET in
a cycle without a qualified crossing: chainage and running bases are recorded, and LAT_XS_SEQ counts (R8, R109). At another
angle, or in a cycle that a crossing stamps, nothing is recorded. The transitions of the timebase without a crossing, each at
its time and after a crossing captured in that SYS cycle (R107). After 1.5 nominal cycles LOCKED or RELOCK loses its reference
and holds for 50 cycles at the mean frequency; a failed acquisition after 10 cycles, an ended holdover and a start without
reference enter SYNTHETIC with an anchor (R106 to R109); before its time none of them does anything. No PERSIST stake is
stored, nothing else falls in the SYS cycle. Each of these forms completes here, in a next state: benchmarkCrossing,
counterCrossStamp, refLoss, timebaseNoRef, acquireTimeout, holdoverEnd. -/
def Obligations.CrossingsAndTransitions : Prop :=
  (∀ (s : State) (vrms : Nat), s.Up → s.emu.crossing = some (s.clk, vrms) → s.latSt = LatSt.LOCKED → s.lat.whole = 0 →
    s.lat.wholeApplied = 0 → s.qualifies vrms = true →
    ∃ t, exec .benchmarkCrossing s = .next t ∧ t.emu.crossing = none ∧ t.latSt = LatSt.LOCKED
      ∧ t.num Reg.LAT_PHASE_ERR = unsigned 32 s.crossErr ∧ t.lat.lastQual = some s.clk
      ∧ (∀ c, s.prevQual = some c → t.num Reg.LAT_PERIOD = (s.clk - c) % 2 ^ 32)
      ∧ t.num Reg.LAT_XS_SEQ = (s.num Reg.LAT_XS_SEQ + 1) % 2 ^ 32
      ∧ t.num64 Reg.LAT_XS_CHAIN_LO = s.chain % 2 ^ 64
      ∧ OnlyChanges [.regs, .lat, .emu] s t) ∧
  (∀ s : State, s.Up → 
    (s.counterStamps = true → s.chain % 65536 = s.latOffset → s.num64 Reg.LAT_XS_CHAIN_LO ≠ s.chain →
    ∃ t, exec .counterCrossStamp s = .next t
    ∧ t.num Reg.LAT_XS_SEQ = (s.num Reg.LAT_XS_SEQ + 1) % 2 ^ 32
    ∧ t.num64 Reg.LAT_XS_CHAIN_LO = s.chain % 2 ^ 64
    ∧ (∀ n, n < 4 → t.num (Reg.LAT_XS_TBn_SEC n) = (s.tb n).sec % 2 ^ 32
        ∧ t.num (Reg.LAT_XS_TBn_NS n) = (s.tb n).ns % 2 ^ 32)
    ∧ t.lat.pos = s.lat.pos ∧ OnlyChanges [.regs, .lat] s t) ∧
    (s.chain % 65536 ≠ s.latOffset → exec .counterCrossStamp s = .next s) ∧
    (s.latSt = LatSt.LOCKED → exec .counterCrossStamp s = .next s)) ∧
  (∀ s : State, s.Up → s.Alone → s.lat.stored = [] → s.emu.crossing = none →
    (∀ c, (s.latSt = LatSt.LOCKED ∨ s.latSt = LatSt.RELOCK) → s.lat.lastQual = some c → s.lossDue c = true →
      ∃ t, exec .refLoss s = .next t ∧ t.latSt = LatSt.HOLDOVER ∧ t.lat.holdCh = s.chain
      ∧ t.flag Reg.LAT_STATE 4 = false ∧ t.num Reg.LAT_SLEW = 0
      ∧ t.lat.rate = rateFor (meanPeriod s.lat.periods s.nominalClk) 0 ∧ OnlyChanges [.regs, .out, .lat] s t) ∧
    (s.latSt = LatSt.RESET → s.lat.started = true → s.lossDue s.lat.startClk = true → ∃ t, exec .timebaseNoRef s = .next t
      ∧ t.latSt = LatSt.SYNTHETIC ∧ t.flag Reg.LAT_STATE 3 = true ∧ t.lat.pos = s.lat.loadedCycles * 65536 * 2 ^ 32
      ∧ OnlyChanges [.regs, .out, .lat] s t) ∧
    (s.latSt = LatSt.ACQUIRE → s.lat.firstCh + 10 * 65536 ≤ s.chain → ∃ t, exec .acquireTimeout s = .next t
      ∧ t.latSt = LatSt.SYNTHETIC
      ∧ t.flag Reg.LAT_STATE 3 = true ∧ t.num64 Reg.LAT_ANCHOR_CHAIN_LO = s.chain % 2 ^ 64
      ∧ t.num Reg.LAT_RELOCK_CNT = Nat.min (s.num Reg.LAT_RELOCK_CNT + 1) (2 ^ 32 - 1)
      ∧ OnlyChanges [.regs, .out, .lat] s t) ∧
    (s.latSt = LatSt.HOLDOVER → s.lat.holdCh + 50 * 65536 ≤ s.chain → ∃ t, exec .holdoverEnd s = .next t
      ∧ t.latSt = LatSt.SYNTHETIC
      ∧ t.num64 Reg.LAT_ANCHOR_CHAIN_LO = s.chain % 2 ^ 64 ∧ t.lat.pos = s.lat.pos ∧ OnlyChanges [.regs, .out, .lat] s t) ∧
    (∀ c, s.lat.lastQual = some c → s.lossDue c = false → exec .refLoss s = .next s) ∧
    (s.lossDue s.lat.startClk = false → exec .timebaseNoRef s = .next s) ∧
    (s.chain < s.lat.firstCh + 10 * 65536 → exec .acquireTimeout s = .next s) ∧
    (s.chain < s.lat.holdCh + 50 * 65536 → exec .holdoverEnd s = .next s))

/-- Edits of the stake table that are not PERSIST, of entries without a DIO channel, by their owner and not past due: SET and
MODIFY write the entry with the next GEN (R113, R116 to R118), CLEAR empties it with the next GEN, CLEAR_OWNER empties every
stake of the owner and context; each ends OK with index and GEN, or the count (R116). A PERSIST edit ends once its change is
durable, and the stored set then follows the table (R120). Each of these forms completes here, in a next state: stakeSet,
stakeModify, stakeClear, stakeClearOwner, stakeEditDurable. -/
def Obligations.StakeEditsTakeEffect : Prop :=
  (∀ (s : State) (k : Nat) (x : Slot), s.Up → s.Alone → tfind? s.hlk.serving k = none → s.mode ≠ Mode.MINIMAL →
    (∀ i, s.activeEdit k 1 = some x → editIndex x = i → i < 0x1000 → (s.stake i).valid = false → editCheck x = false →
      s.entryValid (editEntry x) = true → s.stakeAllowed x.editor x.ctx (editEntry x) = true →
      (editEntry x).action ≠ 3 → (editEntry x).persist = false → s.chain ≤ (editEntry x).chainage.toNat →
      ∃ t, exec (.stakeSet k) s = .next t ∧ t.Ended k St.OK (editResult i (((s.stake i).gen + 1) % 2 ^ 16))
        ∧ t.stake i = { editEntry x with late := s.resolveLate (editEntry x).late, valid := true, owner := x.editor,
                                         ctx := x.ctx, gen := ((s.stake i).gen + 1) % 2 ^ 16 }
        ∧ (∀ j, j ≠ i → t.stake j = s.stake j) ∧ t.num Reg.LAT_TBL_GEN = (s.num Reg.LAT_TBL_GEN + 1) % 2 ^ 32
        ∧ OnlyChanges [.regs, .lat, .opt, .scn, .sto] s t) ∧
    (∀ i, s.activeEdit k 2 = some x → editIndex x = i → i < 0x1000 → (s.stake i).valid = true → editCheck x = false →
      s.entryValid (editEntry x) = true → s.stakeAllowed x.editor x.ctx (editEntry x) = true →
      (s.stake i).owner = x.editor → s.ctxMayTarget x.ctx (s.stake i) = true →
      (editEntry x).action ≠ 3 → (s.stake i).action ≠ 3 → (editEntry x).persist = false → (s.stake i).persist = false →
      s.chain ≤ (editEntry x).chainage.toNat →
      ∃ t, exec (.stakeModify k) s = .next t ∧ t.Ended k St.OK (editResult i (((s.stake i).gen + 1) % 2 ^ 16))
        ∧ t.stake i = { editEntry x with late := s.resolveLate (editEntry x).late, valid := true, owner := x.editor,
                                         ctx := x.ctx, gen := ((s.stake i).gen + 1) % 2 ^ 16 }
        ∧ (∀ j, j ≠ i → t.stake j = s.stake j) ∧ OnlyChanges [.regs, .lat, .opt, .scn, .sto] s t) ∧
    (∀ i, s.activeEdit k 3 = some x → editIndex x = i → i < 0x1000 → (s.stake i).valid = true → editCheck x = false →
      s.mayClear x (s.stake i) = true → (s.stake i).action ≠ 3 → (s.stake i).persist = false →
      ∃ t, exec (.stakeClear k) s = .next t ∧ t.Ended k St.OK (editResult i (((s.stake i).gen + 1) % 2 ^ 16))
        ∧ t.stake i = { Stake.empty with gen := ((s.stake i).gen + 1) % 2 ^ 16 }
        ∧ (∀ j, j ≠ i → t.stake j = s.stake j) ∧ OnlyChanges [.regs, .lat, .opt, .scn, .sto] s t) ∧
    (s.activeEdit k 4 = some x → x.editor = Blk.HIF → x.ctx = 0 → (∀ e, e ∈ s.validStakes → e.2.persist = false) →
      ∃ t, exec (.stakeClearOwner k) s = .next t ∧ (t.slot k).st = .decided ∧ (t.slot k).status = St.OK
        ∧ (∀ i, (t.stake i).valid = true → ¬((t.stake i).owner = paramField x.param 0 1 ∧ (t.stake i).ctx = paramField x.param 2 2))
        ∧ OnlyChanges [.regs, .lat, .opt, .scn, .sto, .claims] s t)) ∧
  (∀ (s : State) (k i : Nat), s.Up → tfind? s.hlk.serving k = none → (s.slot k).st = .active →
    s.lat.durWait.find? (fun e => e.1 == k) = some (k, [i]) → s.stoEnded (.stakes k) = some St.OK →
    ∃ t, exec (.stakeEditDurable k) s = .next t ∧ t.Ended k St.OK (s.slot k).result
      ∧ tfind? t.lat.stored i = (if (s.stake i).valid && (s.stake i).persist then some (s.stake i) else none)
      ∧ (∀ j, t.stake j = s.stake j) ∧ OnlyChanges [.lat, .opt, .scn, .sto] s t)

/-- A MARK stake that fires on time, without period and without a reservation, begins an internal operation that ends OK at once
with its index in RESULT, and its entry is cleared (R121 to R123); an acknowledged POINT_WRITE firing ends (R122); an edge of
ZX goes to the channel that asks for it, once at each passage of its angle, and with HALF at the opposite angle too (R127);
the ZX_OUT pad pulses for WIDTH · 10 µs at each passage of its angle (R128). At another angle neither happens. Each of these
forms completes here, in a next state: stakeFire, stakeActionAck, zxEdge, zxOutPulse. -/
def Obligations.StakesFire : Prop :=
  ∀ s : State, s.Up →
    (∀ i p n, s.firesOpen = true → s.dueStake = some (i, p) → s.stake i = p → p.action = 7 → p.period = 0 →
      p.pastDue = false → p.rolledTo = none → p.chainage.toNat ≤ s.chain →
      s.lat.pos - p.chainage.toNat * 2 ^ 32 ≤ 800 * s.lat.rate → s.freeTag = some n → tfind? s.hlk.serving n = none →
      s.lat.feed = [] → s.arb.resv = [] →
      ∃ t, exec .stakeFire s = .next t ∧ t.Ended n St.OK (fireResult i false true 0)
        ∧ (t.slot n).block = Blk.LAT ∧ (t.slot n).opcode = 7 ∧ t.stake i = { Stake.empty with gen := p.gen }
        ∧ (∀ j, j ≠ i → t.stake j = s.stake j) ∧ (∀ m, m ≠ n → t.slot m = s.slot m)) ∧
    (∀ n f, s.lat.firings.find? (fun g => g.tag == n) = some f → f.tag = n → f.action = 1 → f.okStatus = St.OK →
      (s.slot n).st = .active → tfind? s.hlk.serving n = none →
      ∃ t, exec (.stakeActionAck n) s = .next t ∧ t.Ended n St.OK f.result
        ∧ (∀ m, m ≠ n → t.slot m = s.slot m) ∧ OnlyChanges [.lat, .opt, .scn, .sto] s t) ∧
    (∀ c, c < 24 → s.flag Reg.LAT_STATE 3 = true → s.flag (Reg.DIO_CHcZX c) 16 = true → (s.chan c).waiting = none →
      s.atAngle (s.fld (Reg.DIO_CHcZX c) 0 16) (s.flag (Reg.DIO_CHcZX c) 17) = true → tfind? s.lat.zxCh c ≠ some s.chain →
      exec (.zxEdge c) s = .next ({ s with lat := { s.lat with zxCh := tput s.lat.zxCh c s.chain } }.emit (.zxEdge c))) ∧
    (∀ c, s.atAngle (s.fld (Reg.DIO_CHcZX c) 0 16) (s.flag (Reg.DIO_CHcZX c) 17) = false → exec (.zxEdge c) s = .next s) ∧
    (s.flag Reg.LAT_STATE 6 = true → s.flag Reg.LAT_STATE 3 = true →
      s.atAngle (s.fld Reg.LAT_ZXOUT 0 16) (s.flag Reg.LAT_ZXOUT 17) = true → tfind? s.lat.zxCh 24 ≠ some s.chain →
      exec .zxOutPulse s = .next ({ s with lat := { s.lat with zxCh := tput s.lat.zxCh 24 s.chain } }.emit
        (.padPulse 0x1003 (10 * Nat.max 1 (s.fld Reg.LAT_ZXOUT 20 8)) (s.flag Reg.LAT_ZXOUT 18)))) ∧
    (s.atAngle (s.fld Reg.LAT_ZXOUT 0 16) (s.flag Reg.LAT_ZXOUT 17) = false → exec .zxOutPulse s = .next s)

/-! ### PSE -/

/-- From detection to power: the die starts a detection; a VALID one leads to CLASSIFY; a single-signature class is allocated with
its class events and ARB asked; a slot, at most one per half cycle, starts the inrush of the port whose turn it is; a settled
inrush is POWERED; the Autoclass figure is the peak plus 1,750 mW (R135 to R141, R163). The cuts that a die decides on a
POWERED port of one signature without luminaires: the port goes off into ERR_DELAY with the reason and its grant ends (R143,
R144, R146, R163). Nothing else falls in the SYS cycle, no sample of the port has been taken. Each of these forms completes
here, in a next state: portDetect, detectionDone, classifyDone, staggerSlot, inrushEnd, autoclassMeasure, fastCut,
overloadCut, limitCut, mpsLoss. -/
def Obligations.PortPowersUpAndIsCut : Prop :=
  (∀ (s : State) (p : Nat), s.Up → p < 48 →
    (s.mayDetect p = true → (s.portX p).detDue ≤ s.clk → exec (.portDetect p) s = .next (s.startDetect p)
      ∧ ((s.startDetect p).portX p).detDue = s.clk + 1000 * msClk ∧ (s.startDetect p).out = s.out ++ [.dieCmd p 2 0]) ∧
    (s.clk < (s.portX p).detDue → exec (.portDetect p) s = .next s) ∧
    (s.mayDetect p = true → ∃ t, exec (.detectionDone p 1) s = .next t ∧ t.portSt p = PortSt.CLASSIFY
      ∧ t.fld (Reg.PSE_PnSTAT p) 16 4 = 1 ∧ (t.portX p).detClk = s.clk ∧ OnlyChanges [.regs, .pse] s t
      ∧ OnlyRegs [Reg.PSE_PnSTAT p, Reg.PSE_PWRON_LO, Reg.PSE_PWRON_HI, Reg.PSE_GSTAT] s t) ∧
    (∀ a b type3 auto, a ≤ 8 → s.portSt p = PortSt.CLASSIFY → (s.portX p).keepGrant = false →
      ∃ t, exec (.classifyDone p true false a b type3 auto) s = .next t ∧ t.portSt p = PortSt.GRANT_WAIT
        ∧ t.portClass p = s.allocClass p a ∧ t.num (Reg.PSE_PnALLOC p) = pclass (s.allocClass p a)
        ∧ (t.portX p).askClk = some s.clk ∧ (t.portX p).pairsWant = s.pairsFor p (s.allocClass p a) type3
        ∧ t.num (Reg.PSE_PnPAUTO p) = 0 ∧ t.out = s.out ++ [.dieCmd p 3 (classEvents (s.allocClass p a))]
        ∧ OnlyChanges [.regs, .out, .pse] s t) ∧
    (s.startsHeld = false → s.flag Reg.PSE_STAGGER 8 = false → s.slotFalls.isSome = true → s.startsPerSlot = 1 →
      s.slotStale p = false →
      s.firstPort ((List.range 48).filter (fun q => s.portSt q == PortSt.STAGGER && !s.portBarred q)) = some p →
      ∃ t, exec .staggerSlot s = .next t ∧ t.portSt p = PortSt.INRUSH ∧ (t.diePort p).pairs = (s.portX p).pairsWant
        ∧ t.out = s.out ++ [.dieCmd p 1 (s.portX p).pairsWant] ∧ OnlyChanges [.regs, .out, .pse, .lat] s t) ∧
    (s.slotFalls = none → s.flag Reg.PSE_STAGGER 8 = false → exec .staggerSlot s = .next s) ∧
    (s.portSt p = PortSt.INRUSH → (s.portX p).since + 60 * msClk ≤ s.clk → s.portOps p 1 = [] → s.portOps p 3 = [] →
      ∃ t, exec (.inrushEnd p true) s = .next t ∧ t.portSt p = PortSt.POWERED ∧ (t.portX p).since = s.clk
        ∧ t.flag (Reg.IRQ_STAT Blk.PSE) 1 = true ∧ OnlyChanges [.regs, .out, .pse] s t) ∧
    (∀ peak, s.portSt p = PortSt.POWERED → s.flag (Reg.PSE_PnCFG p) 3 = true → s.flag (Reg.PSE_PnSTAT p) 11 = true →
      (s.portX p).autoDone = false → (s.portX p).since + 1600 * msClk ≤ s.clk → exec (.autoclassMeasure p peak) s
        = .next ((s.setPortX p { s.portX p with autoDone := true }).setNum (Reg.PSE_PnPAUTO p) (peak + 1750)))) ∧
  (∀ (s : State) (p ps reason : Nat) (c : Instr), s.Alone → (s.portX p).sample = none → p < 48 → s.linked p = true → s.portSt p = PortSt.POWERED →
    (s.diePort p).pairs ≠ 0 → (s.diePort p).dual = false → (∀ e, e ∈ portEntries p → s.lumState e = LumSt.DISABLED) →
    (c, reason) ∈ [(.fastCut p ps, Off.FAST_CUT), (.overloadCut p ps, Off.OVERLOAD), (.limitCut p ps, Off.LIMIT),
                   (.mpsLoss p ps, Off.MPS_LOSS)] →
    ∃ t, exec c s = .next t ∧ t.portSt p = PortSt.ERR_DELAY ∧ t.fld (Reg.PSE_PnLAST_OFF p) 0 8 = reason
      ∧ t.reg (Reg.PSE_PnOFF_STAMP p) = s.chain32 ∧ (t.diePort p).pairs = 0 ∧ (t.portX p).grant = 0
      ∧ t.num (Reg.PSE_PnGRANT p) = 0 ∧ OnlyChanges [.regs, .out, .pse] s t)

/-- The bulk supply's conditions show in PSE_GSTAT and hold or cut the ports (R148, R149); the dies go OFF under VPSE_UV and
VPSE_REV (R153); VPSE_REV sets STAT.FAULT. What the dies report and keep: a temperature sets THERM_WARN above 125 °C and bars
the ports above 145 °C (R150); without keep-alive a die holds its SUSTAIN ports and cuts the others (R153); a cold power-up
leaves its ports off (R156); the adoption record follows a port (R155). Each of these forms completes here, in a next state:
vpseHold, vpseHoldEnd, vpseUvCut, vpseOvCut, vpseRev, vpseResume, dieTemp, adoptionRecordWrite, dieAutonomous, dieColdPowerUp. -/
def Obligations.BulkSupplyAndDies : Prop :=
  (∀ (s : State) (mv : Nat), s.Up → mv < 2 ^ 32 →
    (mv < 49000 ∨ 58000 < mv → ∃ t, exec (.vpseHold mv) s = .next t ∧ t.pse.hold = true ∧ t.num Reg.PSE_VPSE = mv
      ∧ t.flag Reg.PSE_GSTAT 1 = true ∧ t.flag Reg.PSE_GSTAT 0 = false ∧ OnlyChanges [.regs, .out, .pse] s t
      ∧ OnlyRegs (Reg.PSE_VPSE :: Reg.PSE_GSTAT :: irqRegs Blk.PSE) s t) ∧
    (51000 ≤ mv → mv ≤ 57000 → ∃ t, exec (.vpseHoldEnd mv) s = .next t ∧ t.pse.hold = false
      ∧ t.flag Reg.PSE_GSTAT 1 = false ∧ t.flag Reg.PSE_GSTAT 0 = !s.pse.vpseCut ∧ OnlyChanges [.regs, .out, .pse] s t
      ∧ OnlyRegs (Reg.PSE_VPSE :: Reg.PSE_GSTAT :: irqRegs Blk.PSE) s t) ∧
    (s.Alone → mv < 44000 → ∃ t, exec (.vpseUvCut mv) s = .next t ∧ t.pse.vpseCut = true ∧ t.flag Reg.PSE_GSTAT 2 = true
      ∧ t.flag Reg.PSE_GSTAT 0 = false ∧ ∀ d, d < 6 → t.dieMode d = 3) ∧
    (s.Alone → 60000 < mv → ∃ t, exec (.vpseOvCut mv) s = .next t ∧ t.pse.vpseCut = true ∧ t.flag Reg.PSE_GSTAT 3 = true
      ∧ t.flag Reg.PSE_GSTAT 0 = false) ∧
    (s.Alone → ∃ t, exec .vpseRev s = .next t ∧ t.pse.vpseCut = true ∧ t.flag Reg.PSE_GSTAT 4 = true
      ∧ t.flag (Reg.STAT Blk.PSE) 2 = true ∧ ∀ d, d < 6 → t.dieMode d = 3) ∧
    (51000 ≤ mv → mv ≤ 57000 → s.pse.vpseCut = true → ∃ t, exec (.vpseResume mv) s = .next t ∧ t.pse.vpseCut = false
      ∧ t.pse.hold = false ∧ t.flag Reg.PSE_GSTAT 0 = true ∧ t.flag Reg.PSE_GSTAT 2 = false
      ∧ t.flag (Reg.STAT Blk.PSE) 2 = false ∧ OnlyChanges [.regs, .out, .pse] s t)) ∧
  (∀ (s : State) (d : Nat), d < 6 →
    (∀ temp : Int, temp ≤ 1450 → ∃ t, exec (.dieTemp d temp) s = .next t
      ∧ t.fld (Reg.PSE_DIEd_TEMP d) 0 16 = unsigned 16 temp ∧ t.flag Reg.PSE_DIE_STAT (12 + d) = decide (1250 < temp)
      ∧ (temp < 1250 → t.flag Reg.PSE_DIE_STAT (18 + d) = false)
      ∧ OnlyChanges [.regs] s t ∧ OnlyRegs [Reg.PSE_DIEd_TEMP d, Reg.PSE_DIE_STAT] s t) ∧
    (∀ temp : Int, 1450 < temp → s.Alone → ∃ t, exec (.dieTemp d temp) s = .next t ∧ t.flag Reg.PSE_DIE_STAT (18 + d) = true) ∧
    (∀ temp : Int, 1450 < temp → s.together = true → ∃ t, exec (.dieTemp d temp) s = .next t
      ∧ s.Defers t (Rank.CUT 5) (.dieTemp d temp)) ∧
    (s.Up → s.dieMode d = 0 → ∃ t, exec (.dieAutonomous d) s = .next t ∧ t.dieMode d = 2
      ∧ (∀ k, k < 8 → (s.diePort (8 * d + k)).pairs ≠ 0 →
          (t.diePort (8 * d + k)).pairs = (if (s.diePort (8 * d + k)).sustain then (s.diePort (8 * d + k)).pairs else 0))
      ∧ OnlyChanges [.regs, .pse] s t ∧ OnlyRegs [Reg.PSE_DIE_STAT] s t) ∧
    (s.dieMode d ≠ 0 → ∃ t, exec (.dieColdPowerUp d) s = .next t ∧ t.dieMode d = 2
      ∧ tget (fun _ => false) t.pse.cold d = true ∧ (∀ k, k < 8 → t.diePort (8 * d + k) = DiePort.off)
      ∧ OnlyChanges [.regs, .pse] s t ∧ OnlyRegs [Reg.PSE_DIE_STAT] s t) ∧
    (∀ p, s.Up → s.pse.recordDue.contains p = true → ∃ t, exec (.adoptionRecordWrite p) s = .next t
      ∧ p ∉ t.pse.recordDue ∧ (∃ h, (t.adoptRec p).newest = some h ∧ h.powered = (s.portSt p == PortSt.POWERED)
        ∧ h.grant = (s.portX p).grant ∧ h.pairs = (s.diePort p).pairs) ∧ OnlyChanges [.pse] s t))

/-- The 1 ms sample of a linked port (here port 0 alone, without measurement points): voltage, currents, power, its maximum and
the energy count, with VPSE and the sum (R151, R152). The operations on a port, and what ends its waits: PORT_ON enables a
disabled port, and ends OK on a POWERED one; PORT_OFF and PORT_CYCLE switch a POWERED port without luminaires off (R159,
R160); CLEAR_LOCK returns it to DETECT; EN written by the host enables (R165); ERR_DELAY ends in DETECT or FAULT_LOCK (R145,
R163). Each of these forms completes here, in a next state: errDelayEnd, pseSample, portOn, portOff, portCycle,
portCycleOffEnd, portClearLock, portEnWrite. -/
def Obligations.PortSamplesAndOperations : Prop :=
  (∀ (s : State) (vpse : Nat) (m : PortMeas), s.Up → s.linked 0 = true → s.fld Reg.PSE_PT_BASE 0 16 = 0xFFFF →
    ((vpse : Int) - (s.pse.limV : Int)).natAbs ≤ 500 →
    ∃ t, exec (.pseSample vpse [m]) s = .next t ∧ t.num (Reg.PSE_PnV 0) = m.v % 2 ^ 32
      ∧ t.num (Reg.PSE_PnIA 0) = m.ia % 2 ^ 32 ∧ t.num (Reg.PSE_PnIB 0) = m.ib % 2 ^ 32
      ∧ t.num (Reg.PSE_PnPWR 0) = m.v * (m.ia + m.ib) / 1000 % 2 ^ 32
      ∧ t.num64 (Reg.PSE_PnE_LO 0) = (s.num64 (Reg.PSE_PnE_LO 0) + ((s.portX 0).eFrac + m.v * (m.ia + m.ib) / 1000) / 360000) % 2 ^ 64
      ∧ t.num Reg.PSE_VPSE = vpse % 2 ^ 32 ∧ t.num Reg.PSE_TOTAL_PWR = m.v * (m.ia + m.ib) / 1000 % 2 ^ 32
      ∧ OnlyChanges [.regs, .pse] s t) ∧
  (∀ (s : State) (k p : Nat) (x : Slot), s.Up → p < 48 → paramField x.param 0 1 = p → tfind? s.hlk.serving k = none →
    (s.activeOp k Blk.PSE 1 = some x → s.mode ≠ Mode.MINIMAL → s.portBusy p = none → s.portSt p = PortSt.DISABLED →
      ∃ t, exec (.portOn k) s = .next t ∧ t.portEn p = true ∧ t.portSt p = PortSt.DETECT ∧ t.slot k = s.slot k
        ∧ OnlyChanges [.regs, .pse] s t) ∧
    (s.activeOp k Blk.PSE 1 = some x → s.mode ≠ Mode.MINIMAL → s.portBusy p = none → s.portSt p = PortSt.POWERED →
      ∃ t, exec (.portOn k) s = .next t ∧ t.Ended k St.OK (s.portResult p) ∧ t.portEn p = true
        ∧ OnlyChanges [.regs, .opt, .scn, .sto] s t ∧ OnlyRegs [Reg.PSE_PnCFG p] s t) ∧
    (s.activeOp k Blk.PSE 2 = some x → bitOf (paramField x.param 1 1) 0 = false → s.portSt p = PortSt.POWERED → s.Alone →
      (∀ e, e ∈ portEntries p → s.lumState e = LumSt.DISABLED) →
      ∃ t, exec (.portOff k) s = .next t ∧ (t.slot k).st = .decided ∧ (t.slot k).status = St.OK
        ∧ t.portSt p = PortSt.DETECT ∧ t.fld (Reg.PSE_PnLAST_OFF p) 0 8 = Off.COMMAND
        ∧ OnlyChanges [.regs, .out, .pse, .opt, .scn, .sto] s t) ∧
    (s.activeOp k Blk.PSE 3 = some x → 1000 ≤ paramField x.param 2 2 → paramField x.param 2 2 ≤ 60000 →
      s.portSt p = PortSt.POWERED → s.Alone → (∀ e, e ∈ portEntries p → s.lumState e = LumSt.DISABLED) →
      ∃ t, exec (.portCycle k) s = .next t ∧ t.slot k = s.slot k ∧ t.portSt p = PortSt.DETECT
        ∧ (t.portX p).cycleEnd = some (s.clk + paramField x.param 2 2 * msClk) ∧ OnlyChanges [.regs, .out, .pse] s t) ∧
    (∀ c, (s.portX p).cycleEnd = some c → c ≤ s.clk →
      exec (.portCycleOffEnd p) s = .next ((s.setPortX p { s.portX p with cycleEnd := none }).startDetect p)) ∧
    (∀ c, (s.portX p).cycleEnd = some c → s.clk < c → exec (.portCycleOffEnd p) s = .next s) ∧
    (s.activeOp k Blk.PSE 4 = some x → s.portSt p = PortSt.FAULT_LOCK →
      ∃ t, exec (.portClearLock k) s = .next t ∧ (t.slot k).st = .decided ∧ (t.slot k).status = St.OK
        ∧ t.portSt p = PortSt.DETECT ∧ t.num (Reg.PSE_PnFAULT_CNT p) = 0 ∧ OnlyChanges [.regs, .pse, .opt, .scn, .sto] s t) ∧
    (∀ v : Word, s.Passes .pcie (Reg.PSE_PnCFG p) → s.en Blk.PSE = true → s.portSt p = PortSt.DISABLED →
      bitOf v.toNat 0 = true → ∃ t, exec (.portEnWrite .pcie p v) s = .next t ∧ t.num (Reg.PSE_PnCFG p) = v.toNat % 2 ^ 16
        ∧ t.portSt p = PortSt.DETECT ∧ OnlyChanges [.regs, .pse] s t) ∧
    (s.portSt p = PortSt.ERR_DELAY → s.portBarred p = false → (s.portX p).since + 1000 * msClk ≤ s.clk → ∃ t, exec (.errDelayEnd p) s = .next t
      ∧ t.portSt p = (if s.locks p then PortSt.FAULT_LOCK else PortSt.DETECT) ∧ OnlyChanges [.regs, .out, .pse] s t))

/-! ### ARB -/

/-- The registers of both pools show its limit, grants, reservations, mean draw and FREE as they stand (R168, R197), and with ARB
disabled an evaluation does nothing (R169). A port of basis FULL that asks alone and fits in FREE of a pool at rest is granted
what PSE_PnALLOC holds and waits for its slot (R137, R169, R170, R172). Over budget. A pool that fits again at its timeout
after 500 ms or its recheck after 20 ms is NORMAL; one that does not is HARD at its timeout, here with nothing left to cut
(R183); a single luminaire is capped no deeper than the overage asks and its floor (R184). Each of these forms completes here,
in a next state: grantEvaluation, capChoose, softTimeout, hardRecheck. -/
def Obligations.PoolsAreEvaluated : Prop :=
  (∀ s : State,
    (∀ q, q < 2 → (s.view (Reg.ARB_PLq_EFF q)).toNat = s.eff q % 2 ^ 32
      ∧ (s.view (Reg.ARB_PLq_GRANTED q)).toNat = s.granted q % 2 ^ 32
      ∧ (s.view (Reg.ARB_PLq_RESERVED q)).toNat = s.reserved q % 2 ^ 32
      ∧ (s.view (Reg.ARB_PLq_DRAW q)).toNat = s.draw q % 2 ^ 32
      ∧ (s.view (Reg.ARB_PLq_FREE q)).toNat = s.freePool q % 2 ^ 32) ∧
    (s.Alone → s.en Blk.ARB = false → exec .grantEvaluation s = .next s)) ∧
  (∀ (s : State) (p : Nat) (a : AskRow), s.Up → s.Alone → p < 48 → s.en Blk.ARB = true → s.lat.feed = [] → s.arb.limitsDue = [] →
    (∀ q, q < 48 → s.portSt q ≠ PortSt.POWERED) → s.arb.resv = [] → s.arb.fired = [] → s.poolSt 0 = 0 → s.poolSt 1 = 0 →
    s.sampleDraw.overBudget 0 = false → s.sampleDraw.overBudget 1 = false → s.sampleDraw.asks = [a] → a.ask = .port p →
    s.basis p = 0 → (s.takePortCfg p).basis p = 0 → s.flag Reg.PSE_STAGGER 8 = false → s.restoreEn = false →
    s.portRefusal p (s.num (Reg.PSE_PnALLOC p)) (s.num (Reg.PSE_PnALLOC p) - (s.portX p).grant) = none →
    ∃ t, exec .grantEvaluation s = .next t ∧ t.portSt p = PortSt.STAGGER
      ∧ (t.portX p).grant = s.num (Reg.PSE_PnALLOC p) ∧ t.num (Reg.PSE_PnGRANT p) = s.num (Reg.PSE_PnALLOC p)
      ∧ (t.portX p).askClk = none ∧ OnlyChanges [.regs, .pse, .arb, .lat] s t) ∧
  (∀ (s : State) (q : Nat), s.Up → s.Alone → q < 2 →
    (s.poolSt q = 1 → 500 ≤ s.num (Reg.ARB_PLq_OVER_MS q) → s.overBudget q = false → ∃ t, exec (.softTimeout q) s = .next t ∧ t.poolSt q = 0
      ∧ t.num (Reg.ARB_PLq_OVER_MS q) = 0 ∧ OnlyChanges [.regs] s t) ∧
    (s.poolSt q = 1 → 500 ≤ s.num (Reg.ARB_PLq_OVER_MS q) → s.overBudget q = true → s.consumers q = [] → ∃ t, exec (.softTimeout q) s = .next t
      ∧ t.poolSt q = 2 ∧ t.flag (Reg.IRQ_STAT Blk.ARB) 2 = true ∧ OnlyChanges [.regs, .out, .arb] s t) ∧
    (s.num (Reg.ARB_PLq_OVER_MS q) < 500 → exec (.softTimeout q) s = .next s) ∧
    (s.poolSt q = 2 → (if q = 0 then s.arb.lastCut0 else s.arb.lastCut1) + 20 * msClk ≤ s.clk → s.overBudget q = false → ∃ t, exec (.hardRecheck q) s = .next t ∧ t.poolSt q = 0
      ∧ t.num (Reg.ARB_PLq_OVER_MS q) = 0 ∧ OnlyChanges [.regs] s t) ∧
    (∀ c need, s.poolSt 0 = 1 → s.arb.coreDown = false → s.capOrder = [c] → s.overage 0 - s.shedDue = need → 0 < need →
      s.floorPrice c.index < c.grant → Nat.max 1 (Nat.max (s.floorPrice c.index) (c.grant - need)) < 2 ^ 32 →
      ∃ t, exec .capChoose s = .next t ∧ c.index ∈ t.arb.caps
        ∧ t.num (Reg.LCP_LnCAP c.index) = Nat.max 1 (Nat.max (s.floorPrice c.index) (c.grant - need))))

/-- Look-ahead. An occurrence that comes into the window is listed to be priced; the oldest listed stake is reserved its need when
that fits (R175 to R177); a SHORT reservation takes the room it finds at a cycle boundary, and at no other angle (R177). The
outer check. Without a feed from M1 it is suspended with its interrupt bit (R192); a sample shows its DC equivalent (R190); an
excess beyond OUTER_TOL for 2 s sets the flag and OUTER_EXCESS, rounded up to 1 W, and 10 s below half of it clear both
(R191). ARB's operations: a limit is noted for the next evaluation and the operation stays open (R167, R196); PRICE ends OK
with the need of the scene's recall (R175, R196). Each of these forms completes here, in a next state: lookaheadEntry,
stakePrice, resvRetry, outerCheck, outerMismatch, outerClear, setLimit, price. -/
def Obligations.LookaheadAndOuterCheck : Prop :=
  (∀ s : State, s.Up → s.lat.feed = [] →
    (∀ i, (s.stake i).valid = true → (s.occurrences (s.stake i)).contains (s.stake i).fireAt = true →
      s.arb.toPrice.contains (i, (s.stake i).gen, (s.stake i).fireAt) = false → s.arb.resv = [] →
      exec (.lookaheadEntry i (s.stake i).fireAt) s
        = .next { s with arb := { s.arb with toPrice := s.arb.toPrice ++ [(i, (s.stake i).gen, (s.stake i).fireAt)] } }) ∧
    (∀ i g c rest q need j, s.arb.toPrice = (i, g, c) :: rest → s.arb.coreDown = false → s.mode ≠ Mode.MINIMAL →
      s.en Blk.ARB = true → (s.stake i).valid = true → (s.stake i).gen = g → s.inWindow c = true →
      s.stakeNeed (s.stake i) false = some (q, need) → 0 < need → need ≤ s.resvRoom q → s.freeResv = some j →
      ∃ t, exec .stakePrice s = .next t ∧ t.arb.toPrice = rest ∧ (∃ r, tfind? t.arb.resv j = some r
        ∧ r.index = i ∧ r.gen = g ∧ r.ch = c ∧ r.pool = q ∧ r.held = need ∧ r.unheld = 0) ∧ OnlyChanges [.regs, .arb] s t) ∧
    (∀ i r, s.arb.resv = [(i, r)] → s.arb.coreDown = false → s.en Blk.ARB = true → 0 < r.unheld →
      s.latSt ≠ LatSt.RESET → s.atAngle 0 false = true → tfind? s.lat.zxCh 27 ≠ some s.chain →
      r.unheld ≤ s.resvRoom r.pool → ∃ t, exec .resvRetry s = .next t
        ∧ tfind? t.arb.resv i = some { r with held := r.held + r.unheld, unheld := 0 } ∧ OnlyChanges [.regs, .arb, .lat] s t) ∧
    (s.atAngle 0 false = false → exec .resvRetry s = .next s)) ∧
  (∀ s : State, s.Up →
    (s.m1Feed = none → s.flag Reg.ARB_STATE 5 = false →
      ∃ t, exec .outerCheck s = .next t ∧ t.flag Reg.ARB_STATE 5 = true ∧ t.flag (Reg.IRQ_STAT Blk.ARB) 7 = true
        ∧ t.arb.overTicks = 0 ∧ OnlyChanges [.regs, .out, .arb] s t) ∧
    (∀ p, s.m1Feed = some p → s.flag Reg.ARB_CFG 1 = false → ∃ t, exec .outerCheck s = .next t
      ∧ t.num Reg.ARB_M1_DC = unsigned 32 (s.m1Dc p) ∧ t.flag Reg.ARB_STATE 5 = false ∧ t.num Reg.ARB_OUTER_EXCESS = 0
      ∧ t.flag Reg.ARB_STATE 4 = false ∧ OnlyChanges [.regs, .arb] s t
      ∧ OnlyRegs [Reg.ARB_STATE, Reg.ARB_M1_DC, Reg.ARB_OUTER_EXCESS] s t) ∧
    (s.outerRuns = true → s.flag Reg.ARB_STATE 4 = false → 2000 ≤ s.arb.overTicks → 0 < s.residual → s.residual.toNat < 2 ^ 31 → ∃ t, exec .outerMismatch s = .next t
      ∧ t.flag Reg.ARB_STATE 4 = true ∧ t.num Reg.ARB_OUTER_EXCESS = (s.residual.toNat + 999) / 1000 * 1000
      ∧ OnlyChanges [.regs, .out, .arb] s t) ∧
    (s.outerRuns = true → s.arb.belowTicks < 10000 → exec .outerClear s = .next s) ∧
    (s.arb.overTicks < 2000 → exec .outerMismatch s = .next s) ∧
    (s.outerRuns = true → 10000 ≤ s.arb.belowTicks → ∃ t, exec .outerClear s = .next t ∧ t.flag Reg.ARB_STATE 4 = false
      ∧ t.num Reg.ARB_OUTER_EXCESS = 0 ∧ OnlyChanges [.regs] s t)) ∧
  (∀ (s : State) (k : Nat) (x : Slot), s.Up → tfind? s.hlk.serving k = none →
    (s.activeOp k Blk.ARB 1 = some x → paramField x.param 0 1 = 0 → x.ctx = 0 → paramField x.param 4 4 ≤ 4320000 →
      exec (.setLimit k) s = .next { s with arb := { s.arb with limitsDue := s.arb.limitsDue ++ [(0, paramField x.param 4 4, k, s.clk)] } }) ∧
    (s.activeOp k Blk.ARB 2 = some x → paramField x.param 0 1 ≤ 1 → paramField x.param 2 1 ≤ 63 → x.ctx = 0 →
      ∃ t, exec (.price k) s = .next t
        ∧ t.Ended k St.OK (BitVec.ofNat 32 (s.recallNeed (paramField x.param 1 1) (paramField x.param 2 1) false))
        ∧ (∀ u, u ≠ k → t.slot u = s.slot u) ∧ OnlyChanges [.opt, .scn, .sto] s t))

/-! ### LCP -/

/-- Binding. DISCOVER goes to a POWERED port with entries to bind, by the port alone and not before its period is over (R203,
R208); an announcement that fits its entry is answered and the entry is BINDING, one that does not is MISMATCH (R208, R209);
the ACCEPT of the ASSIGN makes it ONLINE (R210); an ASSIGN unanswered is sent again, and after ATTEMPTS the entry is UNBOUND
(R208, R215); a frame that LCP does not accept is counted (R202, R205). Reports and timers. An accepted STATUS of an ONLINE
entry without open commands whose level stands shows level, power and flags, and the grant is the reported power (R216, R218,
R171); one of a LOST entry shows the same (R202, R216); KEEPALIVE and STATUS_REQ are sent as frames when their time has come
(R215, R231); an entry that falls silent is LOST, here with no command, lane or remote write open (R208). Each of these forms
completes here, in a next state: discoverTick, announce, accept, status, lcpFrameDrop, acceptTimeout, bindingTimeout,
statusReqTimer, luminaireLoss, keepaliveTick. -/
def Obligations.LuminaireBindingAndReports : Prop :=
  (∀ (s : State) (h : LcpHead) (p k e : Nat), s.Up → p < 48 → k < 16 → e = 16 * p + k → h.port = p → h.sub = k →
    s.en Blk.LCP = true →
    (s.portSt p = PortSt.POWERED → s.probeOf p ≠ 0 → tfind? s.lcp.discClk p = none →
      exec (.discoverTick p) s = .next (({ s with lcp := { s.lcp with discClk := tput s.lcp.discClk p s.clk } }).lcpOut p
        0x0300000088B5 (lcpBytes 0x01 0 0 0 0 (beBytes 2 (s.probeOf p))))) ∧
    (∀ c, s.portSt p = PortSt.POWERED → s.probeOf p ≠ 0 → tfind? s.lcp.discClk p = some c → c + s.lcpTick 16 ≤ s.clk →
      exec (.discoverTick p) s = .next (({ s with lcp := { s.lcp with discClk := tput s.lcp.discClk p s.clk } }).lcpOut p
        0x0300000088B5 (lcpBytes 0x01 0 0 0 0 (beBytes 2 (s.probeOf p))))) ∧
    (∀ a : LcpAnnounce, a.head = h → s.lcpTakes h 0x02 = true → s.lumEnabled e = true →
      s.lumState e = LumSt.UNBOUND → s.announceFits e a = true →
      ∃ t, exec (.announce a) s = .next t ∧ t.lumState e = LumSt.BINDING ∧ (t.lum e).mac = h.mac
        ∧ t.num64 (Reg.LCP_LnUID_LO e) = a.uid.toNat ∧ t.fld (Reg.LCP_LnMODEL e) 0 16 = a.model % 2 ^ 16
        ∧ (t.lum e).session = s.lcp.nextSession % 2 ^ 32
        ∧ OnlyChanges [.regs, .out, .fab, .lcp, .points, .notes] s t) ∧
    (∀ a : LcpAnnounce, a.head = h → s.lcpTakes h 0x02 = true → s.lumEnabled e = true →
      s.lumState e = LumSt.UNBOUND → s.announceFits e a = false →
      ∃ t, exec (.announce a) s = .next t ∧ t.lumState e = LumSt.MISMATCH ∧ (t.lum e) = s.lum e
        ∧ t.flag (Reg.IRQ_STAT Blk.LCP) 3 = true ∧ OnlyChanges [.regs, .out, .points, .notes] s t) ∧
    (∀ r : LcpAccept, r.head p k h.mac = h → r.code = 0 → s.lcpTakes h 0x20 = true → s.lumState e = LumSt.BINDING →
      ∃ t, exec (.accept p k h.mac (s.lum e).assignSeq r) s = .next t ∧ t.lumState e = LumSt.ONLINE
        ∧ OnlyChanges [.regs, .out, .lcp, .points, .notes] s t) ∧
    (s.Alone → s.lumState e = LumSt.BINDING → (s.lum e).assignTx < s.lcpAttempts →
      (s.lum e).assignClk + s.lcpAcceptClk ≤ s.clk →
      ∃ t, exec (.acceptTimeout e (s.lum e).assignSeq) s = .next t ∧ (t.lum e).assignTx = (s.lum e).assignTx + 1
        ∧ t.num Reg.LCP_RETRY_CNT = Nat.min (s.num Reg.LCP_RETRY_CNT + 1) (2 ^ 32 - 1)
        ∧ OnlyChanges [.regs, .out, .fab, .lcp] s t) ∧
    (s.Alone → s.lumState e = LumSt.BINDING → s.lcpAttempts ≤ (s.lum e).assignTx →
      (s.lum e).assignClk + s.lcpAcceptClk ≤ s.clk →
      ∃ t, exec (.bindingTimeout e) s = .next t ∧ t.lumState e = LumSt.UNBOUND ∧ OnlyChanges [.regs, .points, .notes] s t
        ∧ OnlyRegs [Reg.LCP_LnSTATE e, Reg.LCP_STAT] s t) ∧
    (exec .lcpFrameDrop s = .next (s.satInc Reg.LCP_RXERR_CNT 0 32 1)) ∧
    (∀ a : LcpAnnounce, a.head = h → s.lcpTakes h 0x02 = false →
      exec (.announce a) s = .next (s.satInc Reg.LCP_RXERR_CNT 0 32 1)) ∧
    (∀ (r : LcpAccept) (seq : Nat), r.head p k h.mac = h → s.lcpTakes h 0x20 = false →
      exec (.accept p k h.mac seq r) s = .next (s.satInc Reg.LCP_RXERR_CNT 0 32 1)) ∧
    (∀ r : LcpStatus, r.head = h → s.lcpTakes h 0x21 = false →
      exec (.status r) s = .next (s.satInc Reg.LCP_RXERR_CNT 0 32 1)) ∧
    ((h.ver ≠ 1 ∨ h.len < 24) → s.lcpTakes h 0x02 = false) ∧
    ((h.ver ≠ 1 ∨ h.len < 4 ∨ (s.lum e).mac ≠ h.mac) → s.lcpTakes h 0x20 = false) ∧
    ((h.ver ≠ 1 ∨ h.len < 32 ∨ (s.lum e).mac ≠ h.mac) → s.lcpTakes h 0x21 = false)) ∧
  (∀ (s : State) (e : Nat), s.Up → e < 768 → s.en Blk.LCP = true →
    (∀ (h : LcpHead) (r : LcpStatus), r.head = h → h.entry = e → s.lcpTakes h 0x21 = true →
      s.lumState e = LumSt.ONLINE → s.lcp.cmds = [] → (s.lum e).adopting = false → s.mode ≠ Mode.MINIMAL →
      bitsOf r.flags 0 3 = 0 →
      ∃ t, exec (.status r) s = .next t ∧ t.fld (Reg.LCP_LnLEVEL e) 0 14 = r.level % 2 ^ 14
        ∧ t.num (Reg.LCP_LnPOWER e) = r.power % 2 ^ 32 ∧ t.fld (Reg.LCP_LnSTATE e) 16 16 = r.flags % 2 ^ 16
        ∧ (t.lum e).grant = r.power ∧ (t.lum e).statusClk = s.clk ∧ t.lumState e = LumSt.ONLINE
        ∧ OnlyChanges [.regs, .out, .lcp, .points, .notes] s t) ∧
    (∀ (h : LcpHead) (r : LcpStatus), r.head = h → h.entry = e → s.lcpTakes h 0x21 = true →
      s.lumState e = LumSt.LOST → s.lcp.cmds = [] → s.mode ≠ Mode.MINIMAL →
      ∃ t, exec (.status r) s = .next t ∧ t.fld (Reg.LCP_LnLEVEL e) 0 14 = r.level % 2 ^ 14
        ∧ t.num (Reg.LCP_LnPOWER e) = r.power % 2 ^ 32 ∧ t.fld (Reg.LCP_LnSTATE e) 16 16 = r.flags % 2 ^ 16
        ∧ t.lumState e = LumSt.LOST ∧ OnlyChanges [.regs, .out, .lcp, .points, .notes] s t) ∧
    (s.lumOnline e = true → (s.lum e).sentClk + s.lcpTick 0 ≤ s.clk →
      exec (.keepaliveTick e) s = .next (s.lcpSend e 0x13 (s.lum e).nextSeq 0 [])) ∧
    (∀ k c, s.lcpCmd k = some c → c.asked = false → c.tx ≠ 0 → c.change.kind = .level → s.fadeOver c = true →
      exec (.statusReqTimer k) s = .next ((s.putCmd { c with asked := true }).lcpSend c.change.entry 0x14 c.seq 0 [])) ∧
    (s.Alone → s.lumOnline e = true → (s.lum e).statusClk + s.lcpLossClk ≤ s.clk → s.lcp.cmds = [] → s.scn.lanes = [] →
      s.scn.remote = [] →
      ∃ t, exec (.luminaireLoss e) s = .next t ∧ t.lumState e = LumSt.LOST ∧ t.flag (Reg.IRQ_STAT Blk.LCP) 2 = true))

/-- A queued level of an ONLINE luminaire, without raise and of the landlord, becomes a command of its own tag: it is open and its
frame is sent (R211, R16). LCP's operations of the landlord, with nothing queued before. A level, recall or override of a
luminaire that is not ONLINE sets its target and ends OK, counted as without command; an override is shown (R211, R222, R227,
R234); IDENTIFY of an ONLINE one forms its command; REDISCOVER with FORCE returns a port's entries to UNBOUND; SCENE_WRITE
changes its word (R221, R234). Each of these forms completes here, in a next state: commandForm, level, recall, override,
identify, rediscover, sceneWrite. -/
def Obligations.LuminaireCommands : Prop :=
  (∀ (s : State) (c : LcpChange) (n : Nat), s.Up → s.en Blk.LCP = true → s.lcp.changes = [] → s.lcp.queue = [c] →
    s.lcp.cmds = [] → s.lcp.opWait = [] → c.kind = .level → c.ctx = 0 → s.lumOnline c.entry = true → s.freeTag = some n →
    s.sup.pfail = false → s.latSt ≠ LatSt.RESET → s.lumPrice c.entry c.value ≤ (s.lum c.entry).grant →
    ∃ t, exec .commandForm s = .next t ∧ (t.slot n).st = .active ∧ (t.slot n).block = Blk.LCP ∧ (t.slot n).opcode = 0x10
      ∧ t.lcp.queue = [] ∧ (∃ d, t.lcp.cmds = [d] ∧ d.tag = n ∧ d.change = c ∧ d.tx = 1 ∧ d.granted = true)
      ∧ (t.lum c.entry).nextSeq = ((s.lum c.entry).nextSeq + 1) % 65536 ∧ OnlyChanges [.regs, .out, .fab, .opt, .lcp] s t) ∧
  (∀ (s : State) (k e : Nat) (x : Slot), s.Up → tfind? s.hlk.serving k = none → s.mode ≠ Mode.MINIMAL → x.ctx = 0 → e < 768 →
    s.lumEnabled e = true → s.lcp.queue = [] → s.lcp.opWait = [] → s.lcp.cmds = [] →
    (∀ l, s.activeOp k Blk.LCP 1 = some x → paramField x.param 0 2 = e → paramField x.param 2 2 = l → l ≤ 10000 →
      s.lumState e ≠ LumSt.ONLINE → s.overridden e = false →
      ∃ t, exec (.level k) s = .next t ∧ t.Ended k St.OK (formedResult 0 1) ∧ t.fld (Reg.LCP_LnTARGET e) 0 14 = l
        ∧ OnlyChanges [.regs, .opt, .scn, .sto, .lcp, .points, .notes] s t) ∧
    (∀ g j, s.activeOp k Blk.LCP 2 = some x → paramField x.param 0 1 = g → paramField x.param 1 1 ≤ 63 → s.members g = [e] →
      s.groupSlot e g = some j → bitOf (s.sceneWord e j (paramField x.param 1 1)) 15 = false →
      s.lumState e ≠ LumSt.ONLINE → s.overridden e = false →
      ∃ t, exec (.recall k) s = .next t ∧ t.Ended k St.OK (formedResult 0 1)
        ∧ t.fld (Reg.LCP_LnTARGET e) 0 14 = bitsOf (s.sceneWord e j (paramField x.param 1 1)) 0 14
        ∧ OnlyChanges [.regs, .opt, .scn, .sto, .lcp, .points, .notes] s t) ∧
    (∀ l, s.activeOp k Blk.LCP 3 = some x → paramField x.param 0 2 = e → paramField x.param 2 2 = l → l ≤ 10000 →
      s.lumState e ≠ LumSt.ONLINE → s.overridden e = false → s.fld Reg.LCP_PT_BASE 0 16 = 0xFFFF →
      ∃ t, exec (.override k) s = .next t ∧ t.Ended k St.OK (formedResult 0 1) ∧ t.overridden e = true
        ∧ t.fld (Reg.LCP_LnTARGET e) 0 14 = l ∧ OnlyChanges [.regs, .opt, .scn, .sto, .lcp] s t) ∧
    (∀ n, s.activeOp k Blk.LCP 4 = some x → paramField x.param 0 2 = e → s.lumState e = LumSt.ONLINE → s.freeTag = some n →
      s.sup.pfail = false → tfind? s.hlk.serving n = none →
      ∃ t, exec (.identify k) s = .next t ∧ t.Ended k St.OK 0 ∧ (t.slot n).st = .active ∧ (t.slot n).opcode = 0x12
        ∧ (∃ d, t.lcp.cmds = [d] ∧ d.tag = n ∧ d.change.entry = e ∧ d.change.kind = .identify)) ∧
    (∀ p, s.activeOp k Blk.LCP 5 = some x → paramField x.param 0 1 = p → p < 48 → bitOf (paramField x.param 1 1) 0 = true →
      ∃ t, exec (.rediscover k) s = .next t ∧ t.Ended k St.OK 0
        ∧ (∀ d, d ∈ portEntries p → s.lumEnabled d = true → t.lumState d = LumSt.UNBOUND)
        ∧ OnlyChanges [.regs, .opt, .scn, .sto, .lcp, .points, .notes] s t) ∧
    (∀ j sc, s.activeOp k Blk.LCP 6 = some x → s.lcp.sceneWait.contains k = false → paramField x.param 0 2 = e →
      paramField x.param 2 1 = j → j ≤ 3 → paramField x.param 3 1 = sc → sc ≤ 63 → s.flag (Reg.LCP_LnCFG e) (8 + j) = true →
      bitsOf (paramField x.param 4 4) 0 14 ≤ 10000 → bitOf (paramField x.param 8 1) 0 = false →
      ∃ t, exec (.sceneWrite k) s = .next t ∧ t.Ended k St.OK 0
        ∧ t.sceneWord e j sc = (BitVec.ofNat 32 (paramField x.param 4 4) &&& 0x7FFFBFFF#32).toNat
        ∧ (∀ d, t.lum d = s.lum d) ∧ OnlyChanges [.opt, .scn, .sto, .lcp] s t))

/-! ### SCN -/

/-- Logic strings: a bit operand `v` is combined into CB (R243, R254); a point's quality likewise (ANDG, ORG); ST stores CB, STS
and STR store a constant when CB = 1. An operand that may not be accessed faults (R269). CB, EN and the condition stack (R243,
R244, R254): 32 entries fit, a pop stays above the base, else NEST. END ends the run: the lane is free, the task waits and
SCN_TnLAST_EXEC is the time since the start chainage (R278, R287), here with no output touched and no remote write open. Each
of these forms completes here, in a next state: scnNop, scnEnd, scnTst, scnTstn, scnAnd, scnAndn, scnOr, scnOrn, scnXor,
scnXorn, scnAndg, scnOrg, scnSt, scnSts, scnStr, scnNot, scnSetc, scnClrc, scnPshc, scnAnds, scnOrs, scnXors, scnCben,
scnAnde. -/
def Obligations.ConditionLogic : Prop :=
  (∀ (s : State) (lane : Nat) (r : Run) (w : Word), s.Up →
    (∀ v r1 s1, s.loadBit r.past w = .ok (v, r1, s1) →
      (s.AtInsn lane r 0x10 w → exec (.scnTst lane) s = .next (s.guarded (s1.putRun { r1 with fr := { r1.fr with cb := v } }))) ∧
      (s.AtInsn lane r 0x11 w → exec (.scnTstn lane) s = .next (s.guarded (s1.putRun { r1 with fr := { r1.fr with cb := !v } }))) ∧
      (s.AtInsn lane r 0x12 w → exec (.scnAnd lane) s = .next (s.guarded (s1.putRun { r1 with fr := { r1.fr with cb := r1.fr.cb && v } }))) ∧
      (s.AtInsn lane r 0x13 w → exec (.scnAndn lane) s = .next (s.guarded (s1.putRun { r1 with fr := { r1.fr with cb := r1.fr.cb && !v } }))) ∧
      (s.AtInsn lane r 0x14 w → exec (.scnOr lane) s = .next (s.guarded (s1.putRun { r1 with fr := { r1.fr with cb := r1.fr.cb || v } }))) ∧
      (s.AtInsn lane r 0x15 w → exec (.scnOrn lane) s = .next (s.guarded (s1.putRun { r1 with fr := { r1.fr with cb := r1.fr.cb || !v } }))) ∧
      (s.AtInsn lane r 0x16 w → exec (.scnXor lane) s = .next (s.guarded (s1.putRun { r1 with fr := { r1.fr with cb := r1.fr.cb ^^ v } }))) ∧
      (s.AtInsn lane r 0x17 w → exec (.scnXorn lane) s = .next (s.guarded (s1.putRun { r1 with fr := { r1.fr with cb := r1.fr.cb ^^ !v } })))) ∧
    (∀ e, s.loadBit r.past w = .error e → s.AtInsn lane r 0x10 w → exec (.scnTst lane) s = .next (s.guarded (s.runFault r e w))) ∧
    (∀ i p, wSpace w = Sp.P → r.past.pointOf w false = .ok (i, p) → s.blockMay (s.runCtx r.past) i 0 = true →
      (s.AtInsn lane r 0x18 w → exec (.scnAndg lane) s
        = .next (s.putRun { r.past with fr := { r.fr with cb := r.fr.cb && (s.pointFor Blk.SCN i).quality == Q.GOOD } })) ∧
      (s.AtInsn lane r 0x19 w → exec (.scnOrg lane) s
        = .next (s.putRun { r.past with fr := { r.fr with cb := r.fr.cb || (s.pointFor Blk.SCN i).quality == Q.GOOD } }))) ∧
    (∀ r1 s1, (s.AtInsn lane r 0x1A w → s.storeBit r.past w true r.fr.cb = .ok (r1, s1) →
        exec (.scnSt lane) s = .next (s.guarded (s1.putRun r1))) ∧
      (s.AtInsn lane r 0x1B w → s.storeBit r.past w r.fr.cb true = .ok (r1, s1) →
        exec (.scnSts lane) s = .next (s.guarded (s1.putRun r1))) ∧
      (s.AtInsn lane r 0x1C w → s.storeBit r.past w r.fr.cb false = .ok (r1, s1) →
        exec (.scnStr lane) s = .next (s.guarded (s1.putRun r1)))) ∧
    (∀ e, s.storeBit r.past w true r.fr.cb = .error e → s.AtInsn lane r 0x1A w →
      exec (.scnSt lane) s = .next (s.guarded (s.runFault r e w)))) ∧
  (∀ (s : State) (lane : Nat) (r : Run) (w : Word), s.Up →
    (s.AtInsn lane r 0x00 w → exec (.scnNop lane) s = .next (s.putRun r.past)) ∧
    (s.AtInsn lane r 0x20 w → exec (.scnNot lane) s = .next (s.putRun { r.past with fr := { r.fr with cb := !r.fr.cb } })) ∧
    (s.AtInsn lane r 0x21 w → exec (.scnSetc lane) s = .next (s.putRun { r.past with fr := { r.fr with cb := true } })) ∧
    (s.AtInsn lane r 0x22 w → exec (.scnClrc lane) s = .next (s.putRun { r.past with fr := { r.fr with cb := false } })) ∧
    (s.AtInsn lane r 0x27 w → exec (.scnCben lane) s = .next (s.putRun { r.past with fr := { r.fr with en := r.fr.cb } })) ∧
    (s.AtInsn lane r 0x28 w →
      exec (.scnAnde lane) s = .next (s.putRun { r.past with fr := { r.fr with cb := r.fr.cb && r.fr.en } })) ∧
    (s.AtInsn lane r 0x23 w → r.cond.length < 32 → exec (.scnPshc lane) s = .next (s.putRun { r.past with cond := r.fr.cb :: r.cond })) ∧
    (s.AtInsn lane r 0x23 w → 32 ≤ r.cond.length → exec (.scnPshc lane) s = .next (s.guarded (s.runFault r 0x06 w))) ∧
    (∀ p rest, r.cond = p :: rest → r.base ≤ rest.length →
      (s.AtInsn lane r 0x24 w →
        exec (.scnAnds lane) s = .next (s.putRun { r.past with cond := rest, fr := { r.fr with cb := p && r.fr.cb } })) ∧
      (s.AtInsn lane r 0x25 w →
        exec (.scnOrs lane) s = .next (s.putRun { r.past with cond := rest, fr := { r.fr with cb := p || r.fr.cb } })) ∧
      (s.AtInsn lane r 0x26 w →
        exec (.scnXors lane) s = .next (s.putRun { r.past with cond := rest, fr := { r.fr with cb := p ^^ r.fr.cb } }))) ∧
    (r.cond.length ≤ r.base → s.AtInsn lane r 0x24 w → exec (.scnAnds lane) s = .next (s.guarded (s.runFault r 0x06 w))) ∧
    (s.AtInsn lane r 0x01 w → r.base < r.cond.length → exec (.scnEnd lane) s = .next (s.guarded (s.runFault r 0x06 w))) ∧
    (s.AtInsn lane r 0x01 w → r.lane = lane → lane < 4 → r.task < 16 → r.cond.length ≤ r.base → r.touched = [] → s.scn.remote = [] →
      s.dio.safe = false → s.flag Reg.DIO_WDT 8 = false → (s.taskRt r.task).queue = [] → (s.taskRt r.task).held = none →
      (s.taskRt r.task).ovr = false → (s.taskRt r.task).offAfter = false →
      ∃ t, exec (.scnEnd lane) s = .next t ∧ t.runOn lane = none ∧ t.taskSt r.task = TaskSt.WAITING
        ∧ t.num (Reg.SCN_TnLAST_EXEC r.task) = Nat.min (s.chain - r.latch.ch) (2 ^ 32 - 1)
        ∧ t.fld Reg.SCN_LANE_STAT (8 * lane) 8 = 0 ∧ OnlyChanges [.regs, .out, .scn] s t))

/-- Loads push: A2 takes A1 and A1 the operand, widened as the instruction says; stores write A1 or XR; XR instructions; accesses
of the target instance go to TIR (R246, R248, R254). What may not be accessed faults (R269). Each of these forms completes
here, in a next state: scnLb, scnLh, scnLw, scnLd, scnTb, scnTh, scnTw, scnTd, scnLa, scnLdp, scnStp, scnLdpd, scnStpd,
scnStpb, scnAndp, scnLdi, scnLxri, scnLxr, scnTxr, scnXra, scnAxr. -/
def Obligations.LoadsAndStores : Prop :=
  ∀ (s : State) (lane : Nat) (r : Run) (w : Word), s.Up →
    (∀ v r1 s1,
      (s.AtInsn lane r 0x30 w → s.loadOp r.past w 1 = .ok (v, r1, s1) →
        exec (.scnLb lane) s = .next (s.guarded (s1.putRun { r1 with a2 := r1.a1, a1 := accVal (s.runF r) (BitVec.ofNat 64 v) }))) ∧
      (s.AtInsn lane r 0x31 w → s.loadOp r.past w 2 = .ok (v, r1, s1) →
        exec (.scnLh lane) s = .next (s.guarded (s1.putRun { r1 with a2 := r1.a1, a1 := accVal (s.runF r) ((BitVec.ofNat 16 v).signExtend 64) }))) ∧
      (s.AtInsn lane r 0x32 w → s.loadOp r.past w 4 = .ok (v, r1, s1) →
        exec (.scnLw lane) s = .next (s.guarded (s1.putRun { r1 with a2 := r1.a1, a1 := accVal (s.runF r) ((BitVec.ofNat 32 v).signExtend 64) }))) ∧
      (s.AtInsn lane r 0x33 w → s.loadOp r.past w 8 = .ok (v, r1, s1) →
        exec (.scnLd lane) s = .next (s.guarded (s1.putRun { r1 with a2 := r1.a1, a1 := BitVec.ofNat 64 v }))) ∧
      (s.AtInsn lane r 0x43 w → s.loadOp r.past w 4 = .ok (v, r1, s1) →
        exec (.scnLxr lane) s = .next (s.guarded (s1.putRun { r1 with xr := BitVec.ofNat 32 v })))) ∧
    (∀ e, s.AtInsn lane r 0x32 w → s.loadOp r.past w 4 = .error e → exec (.scnLw lane) s = .next (s.guarded (s.runFault r e w))) ∧
    (∀ r1 s1,
      (s.AtInsn lane r 0x34 w → s.storeOp r.past w 1 r.a1 = .ok (r1, s1) → exec (.scnTb lane) s = .next (s.guarded (s1.putRun r1))) ∧
      (s.AtInsn lane r 0x35 w → s.storeOp r.past w 2 r.a1 = .ok (r1, s1) → exec (.scnTh lane) s = .next (s.guarded (s1.putRun r1))) ∧
      (s.AtInsn lane r 0x36 w → s.storeOp r.past w 4 r.a1 = .ok (r1, s1) → exec (.scnTw lane) s = .next (s.guarded (s1.putRun r1))) ∧
      (s.AtInsn lane r 0x37 w → s.storeOp r.past w 8 r.a1 = .ok (r1, s1) → exec (.scnTd lane) s = .next (s.guarded (s1.putRun r1))) ∧
      (s.AtInsn lane r 0x44 w → s.storeOp r.past w 4 (r.xr.setWidth 64) = .ok (r1, s1) →
        exec (.scnTxr lane) s = .next (s.guarded (s1.putRun r1))) ∧
      (s.AtInsn lane r 0x3A w → s.storeTarget r.past w 4 r.a1 = .ok (r1, s1) → exec (.scnStp lane) s = .next (s.guarded (s1.putRun r1))) ∧
      (s.AtInsn lane r 0x3C w → s.storeTarget r.past w 8 r.a1 = .ok (r1, s1) → exec (.scnStpd lane) s = .next (s.guarded (s1.putRun r1)))) ∧
    (∀ e, s.AtInsn lane r 0x36 w → s.storeOp r.past w 4 r.a1 = .error e → exec (.scnTw lane) s = .next (s.guarded (s.runFault r e w))) ∧
    (s.AtInsn lane r 0x38 w → wSpace w ≠ Sp.P → r.effAddr w < s.spaceLimit r.past (wSpace w) →
      exec (.scnLa lane) s = .next (s.putRun { r.past with a2 := r.a1, a1 := accVal (s.runF r) (BitVec.ofNat 64 (r.effAddr w)) })) ∧
    (∀ v, (s.AtInsn lane r 0x39 w → s.loadTarget r.past w 4 = .ok v →
        exec (.scnLdp lane) s = .next (s.putRun { r.past with a2 := r.a1, a1 := (BitVec.ofNat 32 v).signExtend 64 })) ∧
      (s.AtInsn lane r 0x3B w → s.loadTarget r.past w 8 = .ok v →
        exec (.scnLdpd lane) s = .next (s.putRun { r.past with a2 := r.a1, a1 := BitVec.ofNat 64 v }))) ∧
    (∀ e, s.AtInsn lane r 0x39 w → s.loadTarget r.past w 4 = .error e → exec (.scnLdp lane) s = .next (s.guarded (s.runFault r e w))) ∧
    (∀ a b, a = r.tir + r.effAddr w / 8 → b = r.effAddr w % 8 →
      (s.AtInsn lane r 0x3D w → s.checkTarget r.past w (r.effAddr w / 8) 1 true = none →
        exec (.scnStpb lane) s = .next ((s.setBank r.bankB (some ((s.bank r.bankB).setData a
          (setBitOf ((s.bank r.bankB).dataByte a) b r.fr.cb)))).putRun r.past)) ∧
      (s.AtInsn lane r 0x3E w → s.checkTarget r.past w (r.effAddr w / 8) 1 false = none →
        exec (.scnAndp lane) s = .next (s.putRun { r.past with
          fr := { r.fr with cb := r.fr.cb && ((s.bank r.bankB).dataByte a).getLsbD b } }))) ∧
    (s.AtInsn lane r 0x40 w → exec (.scnLdi lane) s
      = .next (s.putRun { r.past with a2 := r.a1, a1 := accVal (s.runF r) ((w.setWidth 24).signExtend 64) })) ∧
    (s.AtInsn lane r 0x42 w → exec (.scnLxri lane) s = .next (s.putRun { r.past with xr := w &&& 0xFFFFFF })) ∧
    (s.AtInsn lane r 0x45 w → exec (.scnXra lane) s
      = .next (s.putRun { r.past with a2 := r.a1, a1 := accVal (s.runF r) (r.xr.setWidth 64) })) ∧
    (s.AtInsn lane r 0x46 w → exec (.scnAxr lane) s = .next (s.putRun { r.past with xr := r.a1.setWidth 32 }))

/-- Accumulator instructions (R239, R254, R256, R257). INT32 and INT64 results wrap with V on overflow and set VS, Z, N and clear
U; a divisor of 0 gives 0 with V; Q15 results saturate with V; REAL32 results set the flags of the result; a compare loads CB
with its condition; bitwise operations, SWAP and DUP leave the flags (the model's choice, log entry 40). Each of these forms
completes here, in a next state: scnAddk, scnAdd, scnSub, scnMul, scnDiv, scnMod, scnNeg, scnAbs, scnAddr, scnSubr, scnMulr,
scnDivr, scnNegr, scnAbsr, scnSqrt, scnAddq, scnSubq, scnMulq, scnNegq, scnAddl, scnSubl, scnMull, scnDivl, scnDivlu, scnAndw,
scnOrw, scnXorw, scnInvw, scnShl, scnShr, scnSar, scnRol, scnItr, scnRti, scnRtq, scnQtr, scnItl, scnLtr, scnSwap, scnDup,
scnCmpi, scnCmpr, scnCmpl, scnCmplu. -/
def Obligations.AccumulatorInstructions : Prop :=
  ∀ (s : State) (lane : Nat) (r : Run) (w : Word) (f : Bool), s.Up → f = s.runF r →
    (∀ n x v, (n = 32 ∨ n = 64) → x = (BitVec.ofInt n x).toInt →
      (r.intRes f n x v).a1 = accVal f (BitVec.ofInt 64 x) ∧ (r.intRes f n x v).fr.v = v
        ∧ (r.intRes f n x v).fr.vs = (r.fr.vs || v) ∧ (r.intRes f n x v).fr.z = decide (x = 0)
        ∧ (r.intRes f n x v).fr.n = decide (x < 0) ∧ (r.intRes f n x v).fr.u = false) ∧
    (∀ n x v, (n = 32 ∨ n = 64) → x ≠ (BitVec.ofInt n x).toInt →
      (r.intRes f n x v).a1 = accVal f ((BitVec.ofInt n x).signExtend 64) ∧ (r.intRes f n x v).fr.v = true) ∧
    (s.AtInsn lane r 0x41 w → exec (.scnAddk lane) s = .next (s.putRun (r.past.intRes f (accW f)
      (r.i1 (accW f) + (w.setWidth 24).toInt) false))) ∧
    (s.AtInsn lane r 0x50 w → exec (.scnAdd lane) s = .next (s.putRun (r.past.intRes f 32 (r.i2 32 + r.i1 32) false))) ∧
    (s.AtInsn lane r 0x51 w → exec (.scnSub lane) s = .next (s.putRun (r.past.intRes f 32 (r.i2 32 - r.i1 32) false))) ∧
    (s.AtInsn lane r 0x52 w → exec (.scnMul lane) s = .next (s.putRun (r.past.intRes f 32 (r.i2 32 * r.i1 32) false))) ∧
    (s.AtInsn lane r 0x53 w → exec (.scnDiv lane) s = .next (s.putRun (if r.i1 32 = 0 then r.past.intRes f 32 0 true
      else r.past.intRes f 32 ((r.i2 32).tdiv (r.i1 32)) false))) ∧
    (s.AtInsn lane r 0x54 w → exec (.scnMod lane) s = .next (s.putRun (if r.i1 32 = 0 then r.past.intRes f 32 0 true
      else r.past.intRes f 32 ((r.i2 32).tmod (r.i1 32)) false))) ∧
    (s.AtInsn lane r 0x55 w → exec (.scnNeg lane) s = .next (s.putRun (r.past.intRes f 32 (-r.i1 32) false))) ∧
    (s.AtInsn lane r 0x56 w → exec (.scnAbs lane) s = .next (s.putRun (r.past.intRes f 32 (if r.i1 32 < 0 then -r.i1 32 else r.i1 32) false))) ∧
    (s.AtInsn lane r 0x64 w → exec (.scnAddl lane) s = .next (s.putRun (r.past.intRes f 64 (r.i2 64 + r.i1 64) false))) ∧
    (s.AtInsn lane r 0x65 w → exec (.scnSubl lane) s = .next (s.putRun (r.past.intRes f 64 (r.i2 64 - r.i1 64) false))) ∧
    (s.AtInsn lane r 0x66 w → exec (.scnMull lane) s = .next (s.putRun (r.past.intRes f 64 (r.i2 64 * r.i1 64) false))) ∧
    (s.AtInsn lane r 0x67 w → exec (.scnDivl lane) s = .next (s.putRun (if r.i1 64 = 0 then r.past.intRes f 64 0 true
      else r.past.intRes f 64 ((r.i2 64).tdiv (r.i1 64)) false))) ∧
    (s.AtInsn lane r 0x68 w → exec (.scnDivlu lane) s = .next (s.putRun { r.past with
      a1 := r.a2 / r.a1, fr := r.fr.arith (r.a1 == 0) (r.a2 / r.a1 == 0) false false })) ∧
    (∀ x, (r.q15Res f x).a1 = accVal f (BitVec.ofInt 64 (max (-32768) (min 32767 x)))
      ∧ (r.q15Res f x).fr.v = (decide (x < -32768) || decide (32767 < x))) ∧
    (s.AtInsn lane r 0x60 w → exec (.scnAddq lane) s = .next (s.putRun (r.past.q15Res f (r.i2 16 + r.i1 16)))) ∧
    (s.AtInsn lane r 0x61 w → exec (.scnSubq lane) s = .next (s.putRun (r.past.q15Res f (r.i2 16 - r.i1 16)))) ∧
    (s.AtInsn lane r 0x62 w → exec (.scnMulq lane) s = .next (s.putRun (r.past.q15Res f ((r.i2 16 * r.i1 16 + 16384) / 2 ^ 15)))) ∧
    (s.AtInsn lane r 0x63 w → exec (.scnNegq lane) s = .next (s.putRun (r.past.q15Res f (-r.i1 16)))) ∧
    (∀ a b : Word, a = r.a2.setWidth 32 → b = r.a1.setWidth 32 →
      (s.AtInsn lane r 0x58 w → exec (.scnAddr lane) s
        = .next (s.putRun { r.past with a1 := (realAdd a b).setWidth 64, fr := r.fr.ofReal [a, b] (realAdd a b) })) ∧
      (s.AtInsn lane r 0x59 w → exec (.scnSubr lane) s
        = .next (s.putRun { r.past with a1 := (realSub a b).setWidth 64, fr := r.fr.ofReal [a, b] (realSub a b) })) ∧
      (s.AtInsn lane r 0x5A w → exec (.scnMulr lane) s
        = .next (s.putRun { r.past with a1 := (realMul a b).setWidth 64, fr := r.fr.ofReal [a, b] (realMul a b) })) ∧
      (s.AtInsn lane r 0x5B w → exec (.scnDivr lane) s
        = .next (s.putRun { r.past with a1 := (realDiv a b).setWidth 64, fr := r.fr.ofReal [a, b] (realDiv a b) })) ∧
      (s.AtInsn lane r 0x5C w → exec (.scnNegr lane) s
        = .next (s.putRun { r.past with a1 := (realNeg b).setWidth 64, fr := r.fr.ofReal [b] (realNeg b) })) ∧
      (s.AtInsn lane r 0x5D w → exec (.scnAbsr lane) s
        = .next (s.putRun { r.past with a1 := (realAbs b).setWidth 64, fr := r.fr.ofReal [b] (realAbs b) })) ∧
      (s.AtInsn lane r 0x5E w → exec (.scnSqrt lane) s
        = .next (s.putRun { r.past with a1 := (realSqrt b).setWidth 64, fr := r.fr.ofReal [b] (realSqrt b) })) ∧
      (s.AtInsn lane r 0x79 w → realRound b 0 = none → exec (.scnRti lane) s = .next (s.putRun (r.past.intRes f 32 0 true))) ∧
      (∀ x, s.AtInsn lane r 0x79 w → realRound b 0 = some x → ∃ q, exec (.scnRti lane) s = .next (s.putRun q)
        ∧ q.a1 = accVal f (BitVec.ofInt 64 (max (-2 ^ 31) (min (2 ^ 31 - 1) x)))
        ∧ q.fr.v = (decide (x < -2 ^ 31) || decide (2 ^ 31 - 1 < x)) ∧ q.pc = r.pc + 1) ∧
      (∀ x, s.AtInsn lane r 0x7A w → realRound b 15 = some x → exec (.scnRtq lane) s = .next (s.putRun (r.past.q15Res f x))) ∧
      (s.AtInsn lane r 0x7A w → realRound b 15 = none → ∃ q, exec (.scnRtq lane) s = .next (s.nextFree.putRun q)
        ∧ q = { r.past with a1 := q.a1, fr := q.fr }) ∧
      (∀ c, c = w.toNat % 64 → c ≤ 5 → s.AtInsn lane r 0x81 w → ∃ q, exec (.scnCmpr lane) s = .next (s.putRun q)
        ∧ q.fr.cb = condReal c a b ∧ q = { r.past with fr := q.fr })) ∧
    (s.AtInsn lane r 0x6A w → exec (.scnAndw lane) s = .next (s.putRun { r.past with a1 := accVal f (r.a2 &&& r.a1) })) ∧
    (s.AtInsn lane r 0x6B w → exec (.scnOrw lane) s = .next (s.putRun { r.past with a1 := accVal f (r.a2 ||| r.a1) })) ∧
    (s.AtInsn lane r 0x6C w → exec (.scnXorw lane) s = .next (s.putRun { r.past with a1 := accVal f (r.a2 ^^^ r.a1) })) ∧
    (s.AtInsn lane r 0x6D w → exec (.scnInvw lane) s = .next (s.putRun { r.past with a1 := accVal f (~~~r.a1) })) ∧
    (∀ n, n = w.toNat % 64 → r.a1 = accVal f r.a1 →
      (s.AtInsn lane r 0x70 w → ∃ q, exec (.scnShl lane) s = .next (s.putRun q) ∧ q.a1 = accVal f (r.a1 <<< n)
        ∧ q.fr.z = decide (q.a1 = 0) ∧ q.fr.n = q.a1.getLsbD (accW f - 1) ∧ q.pc = r.pc + 1) ∧
      (s.AtInsn lane r 0x71 w → ∃ q, exec (.scnShr lane) s = .next (s.putRun q) ∧ q.a1 = r.a1 >>> n
        ∧ q.fr.z = decide (q.a1 = 0) ∧ q.pc = r.pc + 1) ∧
      (s.AtInsn lane r 0x72 w → ∃ q, exec (.scnSar lane) s = .next (s.putRun q)
        ∧ q.a1 = accVal f (BitVec.ofInt 64 (r.i1 (accW f) / 2 ^ n)) ∧ q.fr.n = decide (r.i1 (accW f) < 0) ∧ q.pc = r.pc + 1) ∧
      (s.AtInsn lane r 0x73 w → f = true → exec (.scnRol lane) s = .next (s.putRun { r.past with a1 := r.a1.rotateLeft n })) ∧
      (s.AtInsn lane r 0x73 w → f = false → exec (.scnRol lane) s
        = .next (s.putRun { r.past with a1 := ((r.a1.setWidth 32).rotateLeft n).setWidth 64 }))) ∧
    (s.AtInsn lane r 0x78 w → ∃ q, exec (.scnItr lane) s = .next (s.putRun q)
      ∧ q.a1 = (roundDyadic (r.i1 32) 0).setWidth 64 ∧ q.fr.v = false ∧ q.pc = r.pc + 1) ∧
    (s.AtInsn lane r 0x7B w → ∃ q, exec (.scnQtr lane) s = .next (s.putRun q)
      ∧ q.a1 = (roundDyadic (r.i1 16) (-15)).setWidth 64 ∧ q.fr.v = false ∧ q.pc = r.pc + 1) ∧
    (s.AtInsn lane r 0x7D w → ∃ q, exec (.scnLtr lane) s = .next (s.putRun q)
      ∧ q.a1 = (roundDyadic (r.i1 64) 0).setWidth 64 ∧ q.fr.v = false ∧ q.pc = r.pc + 1) ∧
    (s.AtInsn lane r 0x7C w → exec (.scnItl lane) s = .next (s.putRun { r.past with a1 := (r.a1.setWidth 32).signExtend 64 })) ∧
    (s.AtInsn lane r 0x7E w → exec (.scnSwap lane) s = .next (s.putRun { r.past with a1 := r.a2, a2 := r.a1 })) ∧
    (s.AtInsn lane r 0x7F w → exec (.scnDup lane) s = .next (s.putRun { r.past with a2 := r.a1 })) ∧
    (∀ c, c = w.toNat % 64 → c ≤ 5 →
      (s.AtInsn lane r 0x80 w → exec (.scnCmpi lane) s = .next (s.putRun { r.past with fr := { r.fr with
        cb := condInt c (r.i2 32) (r.i1 32), z := decide (r.i2 32 = r.i1 32), n := decide (r.i2 32 < r.i1 32), u := false } })) ∧
      (s.AtInsn lane r 0x82 w → exec (.scnCmpl lane) s = .next (s.putRun { r.past with fr := { r.fr with
        cb := condInt c (r.i2 64) (r.i1 64), z := decide (r.i2 64 = r.i1 64), n := decide (r.i2 64 < r.i1 64), u := false } })) ∧
      (s.AtInsn lane r 0x83 w → exec (.scnCmplu lane) s = .next (s.putRun { r.past with fr := { r.fr with
        cb := condInt c r.a2.toNat r.a1.toNat, z := decide (r.a2 = r.a1), n := decide (r.a2 < r.a1), u := false } }))) ∧
    (∀ c, c = w.toNat % 64 → 5 < c → s.AtInsn lane r 0x80 w → exec (.scnCmpi lane) s = .next (s.guarded (s.runFault r 0x01 w)))

/-- Jumps and calls (R241, R253, R254, R262, R263). A jump adds DISP24 to the PC of the next instruction; LOOP decrements XR and
jumps while it is not 0; SELI sets TIR; CALL pushes a frame and enters the type's code with EN ← CB; RET pops it, CB taking
the callee's EN and VS the or of both; what a call may not do faults. Each of these forms completes here, in a next state:
scnJu, scnJt, scnJf, scnJvs, scnLoop, scnSeli, scnCall, scnCallt, scnRet, scnRett. -/
def Obligations.JumpsAndCalls : Prop :=
  ∀ (s : State) (lane : Nat) (r : Run) (w : Word) (k : Bank) (dst : Nat), s.Up → k = s.bank r.bankB →
    dst = (BitVec.ofNat 24 (r.pc + 1) + w.setWidth 24).toNat →
    (s.AtInsn lane r 0x90 w → exec (.scnJu lane) s = .next (s.putRun { r with pc := dst })) ∧
    (s.AtInsn lane r 0x91 w → exec (.scnJt lane) s = .next (s.putRun { r with pc := if r.fr.cb then dst else r.pc + 1 })) ∧
    (s.AtInsn lane r 0x92 w → exec (.scnJf lane) s = .next (s.putRun { r with pc := if r.fr.cb then r.pc + 1 else dst })) ∧
    (s.AtInsn lane r 0x93 w → exec (.scnJvs lane) s
      = .next (s.putRun { r with pc := if r.fr.vs then dst else r.pc + 1, fr := { r.fr with vs := false } })) ∧
    (s.AtInsn lane r 0x94 w → exec (.scnLoop lane) s
      = .next (s.putRun { r with pc := if r.xr = 1 then r.pc + 1 else dst, xr := r.xr - 1 })) ∧
    (s.AtInsn lane r 0xA0 w → wSpace w = Sp.D → r.effAddr w < s.spaceLimit r.past Sp.D → r.effAddr w % 16 = 0 →
      exec (.scnSeli lane) s = .next (s.putRun { r.past with tir := r.ib + r.effAddr w })) ∧
    (s.AtInsn lane r 0xA0 w → wSpace w ≠ Sp.D → exec (.scnSeli lane) s = .next (s.guarded (s.runFault r 0x03 w))) ∧
    (∀ i ty q, i = w.toNat % 2 ^ 24 → k.fbTypes[i]? = some ty → r.tir + 16 ≤ k.dataSize → k.dataWord (r.tir + 4) % 65536 = i →
      r.calls.length < 64 → (∀ e, s.runEntry r = some e → r.lb + r.fsz + ty.lSize ≤ e.lSize) → (s.runEntry r).isSome →
      q = { r with
        calls := ⟨r.pc + 1, r.ib, r.lb, r.tir, r.fr, r.base, r.fsz⟩ :: r.calls, ib := r.tir, lb := r.lb + r.fsz,
        fsz := ty.lSize, base := r.cond.length, fr := { r.fr with en := r.fr.cb }, pc := ty.entry } →
      (s.AtInsn lane r 0xA1 w → exec (.scnCall lane) s = .next (s.putRun q)) ∧
      (s.AtInsn lane r 0xA2 w → r.fr.cb = true → exec (.scnCallt lane) s = .next (s.putRun q))) ∧
    (s.AtInsn lane r 0xA2 w → r.fr.cb = false → exec (.scnCallt lane) s = .next (s.putRun r.past)) ∧
    (s.AtInsn lane r 0xA1 w → k.fbTypes[w.toNat % 2 ^ 24]? = none → exec (.scnCall lane) s = .next (s.guarded (s.runFault r 0x09 w))) ∧
    (∀ c rest q, r.calls = c :: rest → r.cond.length ≤ r.base →
      q = { r with
        calls := rest, pc := c.pc, ib := c.ib, lb := c.lb, tir := c.tir,
        base := c.base, fsz := c.fsz, fr := { r.fr with cb := r.fr.en, vs := c.fr.vs || r.fr.vs } } →
      (s.AtInsn lane r 0xA3 w → exec (.scnRet lane) s = .next (s.putRun q)) ∧
      (s.AtInsn lane r 0xA4 w → r.fr.cb = true → exec (.scnRett lane) s = .next (s.putRun q))) ∧
    (s.AtInsn lane r 0xA4 w → r.fr.cb = false → exec (.scnRett lane) s = .next (s.putRun r.past)) ∧
    (s.AtInsn lane r 0xA3 w → r.base < r.cond.length → exec (.scnRet lane) s = .next (s.guarded (s.runFault r 0x06 w))) ∧
    (s.AtInsn lane r 0xA3 w → r.cond.length ≤ r.base → r.calls = [] → exec (.scnRet lane) s = .next (s.guarded (s.finishRun r.past)))

/-- Records (R259, R260): a record of another TYPE faults RECORD; a timer takes its input from CB, its time from the start
chainage and PT from A1, a counter PV from A1; Q goes to CB, ET or CV is pushed; EDGEP and EDGEN give the edge and keep the
input; CRES with CB = 1 resets. TON, CTU and CTD are said whole. Each of these forms completes here, in a next state: scnTon,
scnTof, scnTp, scnCtu, scnCtd, scnCres, scnEdgep, scnEdgen. -/
def Obligations.RecordInstructions : Prop :=
  ∀ (s : State) (lane : Nat) (r : Run) (w : Word) (m : Bool) (a : Nat) (k : Bank) (p : Prim), s.Up → k = s.bank r.bankB →
    p = k.prim m a →
    (∀ e, s.AtInsn lane r 0xB0 w → s.recordAt r.past w 16 [0x10] = .error e →
      exec (.scnTon lane) s = .next (s.guarded (s.runFault r e w))) ∧
    (∀ d pt ts g, ts = r.latch.ch % 2 ^ 32 → d = (ts + 2 ^ 32 - p.last) % 2 ^ 32 → pt = (r.a1.setWidth 32).toNat →
      g = (fun (q : Prim) => (s.setBank r.bankB (some (k.putPrim m a { q with inp := r.fr.cb, last := ts }))).putRun
        { r.past with a2 := r.a1, a1 := accVal (s.runF r) (BitVec.ofNat 64 q.et), fr := { r.fr with cb := q.q } }) →
      (s.AtInsn lane r 0xB0 w → s.recordAt r.past w 16 [0x10] = .ok (m, a) → exec (.scnTon lane) s = .next (g (p.ton r.fr.cb d pt))) ∧
      (s.AtInsn lane r 0xB1 w → s.recordAt r.past w 16 [0x11] = .ok (m, a) → exec (.scnTof lane) s = .next (g (p.tof r.fr.cb d pt))) ∧
      (s.AtInsn lane r 0xB2 w → s.recordAt r.past w 16 [0x12] = .ok (m, a) → exec (.scnTp lane) s = .next (g (p.tp r.fr.cb d pt))) ∧
      (p.ton false d pt = { p with et := 0, frac := 0, run := false, q := false }) ∧
      (p.run = false → p.ton true d pt = { p with et := 0, frac := 0, run := true, q := decide (pt ≤ 0) }) ∧
      (p.run = true → p.unit = false → p.ton true d pt = { p with et := min (p.et + d) pt, q := decide (pt ≤ min (p.et + d) pt) }) ∧
      (p.run = true → p.unit = true → (p.ton true d pt).et = min (p.et + (p.frac + d) / 65536) pt)) ∧
    (∀ pv g, pv = (r.a1.setWidth 32).toInt →
      g = (fun (q : Prim) => (s.setBank r.bankB (some (k.putPrim m a { q with inp := r.fr.cb, last := 0 }))).putRun
        { r.past with a2 := r.a1, a1 := accVal (s.runF r) ((BitVec.ofNat 32 q.et).signExtend 64), fr := { r.fr with cb := q.q } }) →
      (s.AtInsn lane r 0xB3 w → s.recordAt r.past w 16 [0x20] = .ok (m, a) → ∃ q, exec (.scnCtu lane) s = .next (g q)
        ∧ q.q = decide (pv ≤ (BitVec.ofNat 32 q.et).toInt)
        ∧ (BitVec.ofNat 32 q.et).toInt
            = (if r.fr.cb && !p.inp then min ((BitVec.ofNat 32 p.et).toInt + 1) (2 ^ 31 - 1) else (BitVec.ofNat 32 p.et).toInt)) ∧
      (s.AtInsn lane r 0xB4 w → s.recordAt r.past w 16 [0x21] = .ok (m, a) → ∃ q, exec (.scnCtd lane) s = .next (g q)
        ∧ q.q = decide ((BitVec.ofNat 32 q.et).toInt ≤ 0)
        ∧ (BitVec.ofNat 32 q.et).toInt
            = (if r.fr.cb && !p.inp then max ((BitVec.ofNat 32 p.et).toInt - 1) (-2 ^ 31) else (BitVec.ofNat 32 p.et).toInt))) ∧
    (∀ ty, s.AtInsn lane r 0xB5 w → s.recordAt r.past w 16 [0x10, 0x11, 0x12, 0x20, 0x21] = .ok (m, a) →
      ty = (k.recByte m (a + 4)).toNat →
      (r.fr.cb = false → exec (.scnCres lane) s
        = .next (s.putRun (r.past.push (s.runF r) (p.pushed (decide (0x20 ≤ ty)))))) ∧
      (r.fr.cb = true → ty < 0x20 → exec (.scnCres lane) s
        = .next ((s.setBank r.bankB (some (k.putPrim m a { p with et := 0, frac := 0, q := false, run := false }))).putRun
            (r.past.push (s.runF r) 0)))) ∧
    (s.AtInsn lane r 0xB6 w → s.recordAt r.past w 16 [0x30] = .ok (m, a) → exec (.scnEdgep lane) s
      = .next ((s.setBank r.bankB (some (k.putPrim m a { p with inp := r.fr.cb, last := 0 }))).putRun
          { r.past with fr := { r.fr with cb := r.fr.cb && !p.inp } })) ∧
    (s.AtInsn lane r 0xB7 w → s.recordAt r.past w 16 [0x31] = .ok (m, a) → exec (.scnEdgen lane) s
      = .next ((s.setBank r.bankB (some (k.putPrim m a { p with inp := r.fr.cb, last := 0 }))).putRun
          { r.past with fr := { r.fr with cb := !r.fr.cb && p.inp } }))

/-- CLK, CHN, the fences, SEND and STK. CLK reads the calendar and its validity (R252); CHN the chainage; FENCE and FENCES end the
epoch (R266); SEND takes a tag for a remote write that leaves at the output phase, or says in RES why not (R264, R265); STK
submits an edit to LAT at once (R267). Each of these forms completes here, in a next state: scnClk, scnChn, scnSend, scnFence,
scnFences, scnStk. -/
def Obligations.TrackedWritesAndClock : Prop :=
  ∀ (s : State) (lane : Nat) (r : Run) (w : Word) (m : Bool) (a : Nat) (k : Bank), s.Up → k = s.bank r.bankB →
    (∀ ok, ok = (!(s.flag Reg.RTC_CTL 0) && !(s.flag Reg.RTC_STAT 0) && !(s.flag Reg.RTC_STAT 1)) → s.AtInsn lane r 0xC0 w →
      (s.runF r = true → exec (.scnClk lane) s = .next (s.putRun { r.past with
        a2 := r.a1, a1 := BitVec.ofNat 64 (clkDate s.rtc.cal * 2 ^ 32 + clkTime s.rtc.cal), fr := { r.fr with cb := ok } })) ∧
      (s.runF r = false → exec (.scnClk lane) s = .next (s.putRun { r.past with
        a1 := BitVec.ofNat 64 (clkDate s.rtc.cal), a2 := BitVec.ofNat 64 (clkTime s.rtc.cal), fr := { r.fr with cb := ok } }))) ∧
    (s.AtInsn lane r 0xC1 w → s.runF r = true → exec (.scnChn lane) s
      = .next (s.putRun { r.past with a2 := r.a1, a1 := BitVec.ofNat 64 s.chain })) ∧
    (s.AtInsn lane r 0xC1 w → s.runF r = false → exec (.scnChn lane) s
      = .next (s.putRun { r.past with a1 := BitVec.ofNat 64 (s.chain % 2 ^ 32), a2 := BitVec.ofNat 64 (s.chain / 2 ^ 32 % 2 ^ 32) })) ∧
    (s.AtInsn lane r 0xC3 w → exec (.scnFence lane) s = .next (s.putRun { r.past with epoch := r.epoch + 1 })) ∧
    (s.AtInsn lane r 0xC4 w → exec (.scnFences lane) s
      = .next (s.putRun { r.past with epoch := r.epoch + 1, strict := r.epoch :: r.strict })) ∧
    (s.AtInsn lane r 0xC2 w → s.recordAt r.past w 16 [0x40] = .ok (m, a) →
      (r.fr.cb = false → exec (.scnSend lane) s = .next (s.putRun r.past)) ∧
      (r.fr.cb = true → bitOf (k.recByte m (a + 5)).toNat 0 = true → exec (.scnSend lane) s
        = .next ((s.setBank r.bankB (some (k.putRec m (a + 7) 1 2))).putRun { r.past with fr := { r.fr with cb := false } })) ∧
      (∀ gid, r.fr.cb = true → bitOf (k.recByte m (a + 5)).toNat 0 = false →
        gid = readLe (k.recByte m) (a + 8) 4 % 2 ^ 22 →
        (∀ res, s.sendTarget r gid = .error res → exec (.scnSend lane) s
          = .next ((s.setBank r.bankB (some (k.putRec m (a + 7) 1 res))).putRun { r.past with fr := { r.fr with cb := false } })) ∧
        (∀ st ty t s1, s.sendTarget r gid = .ok (st, ty) →
          s.beginInternal Blk.SCN Blk.SCN 0xC2 (s.runCtx r) (recTimeout (readLe (k.recByte m) (a + 14) 2)) 0 = some (t, s1) →
          s.takeToken (s.runCtx r) ≠ none → s.scn.opens = [] → s.scn.remote = [] → r.task < 16 →
          ∃ u, exec (.scnSend lane) s = .next u ∧ u.runOn r.lane = some r.past ∧ (u.slot t).st = .active
            ∧ u.scn.remote = [⟨s.scn.nextWrite, r.task, s.num (Reg.SCN_TnRUNS r.task), r.epoch, st, gid, ty,
                normValue ty r.a1, some t, .inRun, s.chain⟩]
            ∧ (u.bank r.bankB) = (k.putIssued m a t (u.slot t).gen).putRec m (a + 7) 1 0
            ∧ u.scn.opens = [⟨r.task, m, a, false, t, false, none⟩] ∧ u.points = s.points) ∧
        (∀ st ty t s1, s.sendTarget r gid = .ok (st, ty) →
          s.beginInternal Blk.SCN Blk.SCN 0xC2 (s.runCtx r) (recTimeout (readLe (k.recByte m) (a + 14) 2)) 0 = some (t, s1) →
          s.takeToken (s.runCtx r) = none →
          ∃ u, exec (.scnSend lane) s = .next u ∧ u.Ended t St.FAIL_DENIED 0 ∧ u.runOn r.lane = some r.past
            ∧ u.points = s.points) ∧
        (∀ st ty, s.sendTarget r gid = .ok (st, ty) →
          s.beginInternal Blk.SCN Blk.SCN 0xC2 (s.runCtx r) (recTimeout (readLe (k.recByte m) (a + 14) 2)) 0 = none →
          exec (.scnSend lane) s = .next ((s.countTagWait.setBank r.bankB (some (k.putRec m (a + 7) 1 1))).putRun
            { r.past with fr := { r.fr with cb := false } })))) ∧
    (s.AtInsn lane r 0xC5 w → s.recordAt r.past w 64 [0x41] = .ok (m, a) →
      (r.fr.cb = false → exec (.scnStk lane) s = .next (s.putRun r.past)) ∧
      (r.fr.cb = true → bitOf (k.recByte m (a + 5)).toNat 0 = true → exec (.scnStk lane) s
        = .next (s.putRun { r.past with fr := { r.fr with cb := false } })) ∧
      (∀ opc t s1, r.fr.cb = true → bitOf (k.recByte m (a + 5)).toNat 0 = false → opc = (k.recByte m (a + 7)).toNat →
        1 ≤ opc → opc ≤ 4 → s.en Blk.LAT = true → s.inSrst Blk.LAT = false →
        s.beginInternal Blk.SCN Blk.LAT opc (s.runCtx r) (recTimeout (readLe (k.recByte m) (a + 14) 2))
          (BitVec.ofNat 384 (readLe (k.recByte m) (a + 16) 48)) = some (t, s1) →
        s.takeToken (s.runCtx r) ≠ none → s.scn.opens = [] →
        ∃ u, exec (.scnStk lane) s = .next u ∧ u.runOn r.lane = some r.past ∧ (u.slot t).st = .active
          ∧ (u.slot t).block = Blk.LAT ∧ (u.slot t).opcode = opc ∧ u.bank r.bankB = k.putIssued m a t (u.slot t).gen
          ∧ u.scn.opens = [⟨r.task, m, a, true, t, false, none⟩]))

/-- Task events, with no exchange armed. A periodic start latches the inputs and the task is READY, or is skipped and counted at
the end of a SYS cycle in which it still runs (R275, R286); the first ready task begins a run with cleared registers (R241,
R277, R278); a held event start begins once spaced (R276); the next epoch goes to its transport, once the one before is
settled (R266, R280). Online change and SCN's operations of the landlord. EXCHANGE arms at X or now; at X no run begins any
more; with every lane free the state is carried across and the other bank is active (R293 to R295); UNLOAD empties the
inactive bank; TASK_EN, TASK_TRIGGER and FAULT_CLEAR move a task (R276, R291, R300); LOAD takes an image that is signed and
valid, and refuses one that is not signed (R292). Each of these forms completes here, in a next state: taskStartTick,
taskDispatch, epochRelease, load, exchange, exchangeAtX, exchangeCarryover, unload, taskEn, taskTrigger, eventStartRelease,
scnFaultClear. -/
def Obligations.TaskEventsAndOperations : Prop :=
  (∀ (s : State) (n : Nat) (e : TaskEntry), s.Up → n < 16 → s.scnOpen = true → s.scn.xch = none → s.taskEntry n = some e →
    (∀ c, c = s.num64 (Reg.SCN_TnNEXT_LO n) → c ≤ s.chain → e.event = false → e.en = true → s.flag Reg.LAT_STATE 3 = true →
      (s.taskRt n).hold = false →
      (s.taskSt n = TaskSt.WAITING → ∃ t, exec (.taskStartTick n) s = .next t ∧ t.taskSt n = TaskSt.READY
        ∧ (t.taskRt n).ready = some (s.takeLatch n c) ∧ t.num64 (Reg.SCN_TnNEXT_LO n) = (c + e.period) % 2 ^ 64
        ∧ OnlyChanges [.regs, .scn] s t) ∧
      (s.Alone → s.taskSt n = TaskSt.RUNNING → s.fld Reg.SCN_CFG 0 8 = 0 → ∃ t, exec (.taskStartTick n) s = .next t
        ∧ t.taskSt n = TaskSt.RUNNING ∧ t.num (Reg.SCN_TnSKIP_CNT n) = Nat.min (s.num (Reg.SCN_TnSKIP_CNT n) + 1) (2 ^ 32 - 1)
        ∧ t.num64 (Reg.SCN_TnNEXT_LO n) = (c + e.period) % 2 ^ 64 ∧ t.flag (Reg.IRQ_STAT Blk.SCN) 2 = true
        ∧ OnlyChanges [.regs, .out, .scn] s t)) ∧
    (∀ l, s.runOn 0 = none → s.laneTakes 0 = some n → (s.taskRt n).ready = some l → s.scn.opens = [] →
      ∃ t r, exec .taskDispatch s = .next t ∧ t.runOn 0 = some r ∧ r.task = n ∧ r.latch = l ∧ r.bankB = s.activeB
        ∧ r.fr = Fr.zero ∧ r.a1 = 0 ∧ r.a2 = 0 ∧ r.xr = 0 ∧ r.cond = [] ∧ r.calls = []
        ∧ (r.pc, r.ib, r.fsz) = (s.bank s.activeB).taskStart e ∧ t.taskSt n = TaskSt.RUNNING ∧ (t.taskRt n).ready = none
        ∧ t.num (Reg.SCN_TnRUNS n) = (s.num (Reg.SCN_TnRUNS n) + 1) % 2 ^ 32 ∧ OnlyChanges [.regs, .scn] s t) ∧
    (∀ l, (s.taskRt n).held = some l → s.taskSt n = TaskSt.WAITING → s.spaced n = true → (s.taskRt n).hold = false →
      ∃ t, exec (.eventStartRelease n) s = .next t ∧ t.taskSt n = TaskSt.READY ∧ (t.taskRt n).ready = some l
        ∧ (t.taskRt n).held = none ∧ t.flag (Reg.SCN_TnSTAT n) 10 = false ∧ OnlyChanges [.regs, .scn] s t) ∧
    (∀ w m, s.scn.remote = [w] → w.task = n → w.phase = .waiting → w.station = .module m → s.memberUp m = true →
      ∃ t, exec (.epochRelease n) s = .next t ∧ t.scn.remote = [{ w with phase := .handed }]
        ∧ OnlyChanges [.regs, .out, .scn, .hlk] s t) ∧
    (∀ w ws, s.waitingOf n = w :: ws → s.epochOpen w = true → exec (.epochRelease n) s = .next s)) ∧
  (∀ (s : State) (k n : Nat) (x : Slot) (b : Bool), s.Up → tfind? s.hlk.serving k = none → s.mode ≠ Mode.MINIMAL → x.ctx = 0 →
    n < 16 → b = s.activeB →
    (s.activeOp k Blk.SCN 2 = some x → s.scn.xch = none → (if b then s.scn.bankA else s.scn.bankB).isSome = true →
      ∃ t, exec (.exchange k) s = .next t ∧ (t.slot k).st = .active
        ∧ t.scn.xch = some ⟨some k, max (paramField x.param 0 8) s.chain, bitOf (paramField x.param 8 1) 0, false⟩
        ∧ t.flag Reg.SCN_BANK 3 = true ∧ OnlyChanges [.regs, .scn] s t) ∧
    (s.activeOp k Blk.SCN 2 = some x → s.scn.xch = none → (if b then s.scn.bankA else s.scn.bankB) = none →
      ∃ t, exec (.exchange k) s = .next t ∧ t.Ended k St.FAIL_INVALID 0 ∧ OnlyChanges [.opt, .scn] s t) ∧
    (∀ c, s.scn.xch = some c → c.begun = false → c.x ≤ s.chain → ∃ t, exec .exchangeAtX s = .next t
      ∧ t.scn.xch = some { c with begun := true } ∧ t.xchHolds = true ∧ OnlyChanges [.regs, .scn] s t) ∧
    (∀ c new, s.scn.xch = some c → c.begun = true → c.tag = some k → (s.slot k).st = .active → s.scn.lanes = [] →
      (if b then s.scn.bankA else s.scn.bankB) = some new → (∀ e ∈ (s.bank b).tasks, e.outPoints = []) →
      ∃ t, exec .exchangeCarryover s = .next t ∧ t.activeB = !b ∧ t.scn.xch = none
        ∧ t.bank (!b) = (s.bank b).carry new c.keepM ∧ t.flag Reg.SCN_BANK 3 = false ∧ t.num Reg.SCN_CLEAN_CNT = 0
        ∧ t.Ended k St.OK (BitVec.ofNat 32 c.x) ∧ t.flag (Reg.IRQ_STAT Blk.SCN) 5 = true) ∧
    (s.activeOp k Blk.SCN 3 = some x → s.scn.xch = none → ∃ t, exec (.unload k) s = .next t ∧ t.Ended k St.OK 0
      ∧ (if b then t.scn.bankA else t.scn.bankB) = none ∧ (if b then t.scn.bankB else t.scn.bankA) = (if b then s.scn.bankB else s.scn.bankA)
      ∧ OnlyChanges [.regs, .opt, .scn] s t) ∧
    (∀ on, s.activeOp k Blk.SCN 4 = some x → paramField x.param 0 1 = n → bitOf (paramField x.param 1 1) 0 = on →
      ∃ t, exec (.taskEn k) s = .next t ∧ t.Ended k St.OK 0 ∧ t.hostEn n = on
        ∧ (on = false → s.taskSt n = TaskSt.WAITING → t.taskSt n = TaskSt.OFF) ∧ OnlyChanges [.regs, .opt, .scn] s t) ∧
    (∀ e, s.activeOp k Blk.SCN 5 = some x → paramField x.param 0 1 = n → s.taskEntry n = some e → e.ctx = 0 → e.event = true →
      s.hostEn n = true → s.scnOpen = true → s.Alone →
      (s.taskSt n = TaskSt.WAITING → (s.taskRt n).held = none → (s.taskRt n).hold = false → s.spaced n = true →
        ∃ t, exec (.taskTrigger k) s = .next t ∧ t.Ended k St.OK 0 ∧ t.taskSt n = TaskSt.READY
          ∧ (t.taskRt n).ready = some (s.takeLatch n s.chain) ∧ OnlyChanges [.regs, .opt, .scn] s t) ∧
      (s.taskSt n = TaskSt.RUNNING → (s.taskRt n).held.isSome = true →
        ∃ t, exec (.taskTrigger k) s = .next t ∧ t.Ended k St.FAIL_CONFLICT 0
          ∧ t.num (Reg.SCN_TnSKIP_CNT n) = Nat.min (s.num (Reg.SCN_TnSKIP_CNT n) + 1) (2 ^ 32 - 1)
          ∧ OnlyChanges [.regs, .out, .opt, .scn] s t)) ∧
    (s.activeOp k Blk.SCN 6 = some x → paramField x.param 0 1 = n → s.taskSt n = TaskSt.STOPPED → (s.taskRt n).queue = [] →
      (s.taskRt n).held = none → ∃ t, exec (.scnFaultClear k) s = .next t ∧ t.Ended k St.OK 0 ∧ t.taskSt n = TaskSt.WAITING
        ∧ t.fld (Reg.SCN_TnSTAT n) 4 4 = 0 ∧ OnlyChanges [.regs, .opt, .scn] s t) ∧
    (∀ image : List Byte, s.activeOp k Blk.SCN 1 = some x → s.loadBusy k = false → paramField x.param 0 1 = 0 →
      paramField x.param 16 4 = image.length →
      ∃ t, exec (.load k image) s = .next t
        ∧ (s.imageSigned image = true → headerOk image = true → (bankOf image).valid s.point = true →
            t.Ended k St.OK 0 ∧ t.bank (!b) = (bankOf image).loseRecords ∧ t.flag (Reg.IRQ_STAT Blk.SCN) 7 = true)
        ∧ (s.imageSigned image = false → t.Ended k St.FAIL_DENIED 0 ∧ t.scn.bankA = s.scn.bankA ∧ t.scn.bankB = s.scn.bankB
            ∧ OnlyChanges [.regs, .out, .opt, .scn] s t)))

/-! ### LPE -/

/-- A loop samples when its grid reaches the present chainage (R308): the sample is stamped and other loops are left alone; with
MODE_REQ 0 it is OFF; in MANUAL the output moves to MAN by at most the manual rate (R316 to R318); in AUTO without rate limit
the control law's output lies within the limits (R313). LOOP_MODE, LOOP_TUNE, TRACE_ARM and TRACE_RELEASE (R326, R330); writes
of a section's W0 and of LnCTL (R315, R316). Each of these forms completes here, in a next state: loopSample, loopMode,
loopTune, traceArm, traceRelease, biquadW0Write, modeReqWrite. -/
def Obligations.LoopsAndTraces : Prop :=
  ∀ (s : State) (n k : Nat) (x : Slot) (rq : Requester), s.Up → n < 96 → tfind? s.hlk.serving k = none →
    s.mode ≠ Mode.MINIMAL → x.ctx = 0 →
    (s.mode = Mode.RUN → s.en Blk.LPE = true → s.inSrst Blk.LPE = false → s.flag Reg.LAT_STATE 3 = true → s.sup.pfail = false →
      s.flag (Reg.LPE_LnCFG n) 0 = true → s.sampleDue n = true →
      ∃ t, exec (.loopSample n) s = .next t ∧ (t.loop n).lastCh = some s.chain ∧ (∀ m, m ≠ n → t.loop m = s.loop m)
        ∧ OnlyChanges [.free, .out, .regs, .points, .notes, .lcp, .lpe] s t
        ∧ (s.flag (Reg.LPE_LnCFG n) 2 = false → s.fld (Reg.LPE_LnCTL n) 0 2 = 0 → (t.loop n).mode = LoopMode.OFF)
        ∧ (s.flag (Reg.LPE_LnCFG n) 2 = false → s.fld (Reg.LPE_LnCTL n) 0 2 = 1 → s.flag (Reg.LPE_LnCFG n) 3 = false →
            s.fld (Reg.LPE_LnMODE_PT n) 16 16 = 0xFFFF → (s.loop n).mode = LoopMode.MANUAL → (s.loop n).entry = false →
            (t.loop n).mode = LoopMode.MANUAL
              ∧ (t.loop n).u = slewTo (s.loop n).u (s.q15 (Reg.LPE_LnMAN n) 0) (s.fld (Reg.LPE_LnRATE n) 16 16))) ∧
    (∀ y i d, s.fld (Reg.LPE_LnRATE n) 0 16 = 0 → s.q15 (Reg.LPE_LnLIMIT n) 0 ≤ s.q15 (Reg.LPE_LnLIMIT n) 16 →
      s.q15 (Reg.LPE_LnLIMIT n) 0 ≤ (s.controlLaw n y i d).u ∧ (s.controlLaw n y i d).u ≤ s.q15 (Reg.LPE_LnLIMIT n) 16) ∧
    (∀ m, s.activeOp k Blk.LPE 1 = some x → paramField x.param 0 1 = n → paramField x.param 1 1 = m → m ≤ 2 →
      s.flag (Reg.LPE_LnCFG n) 2 = false → s.flag (Reg.LPE_LnCFG n) 0 = true →
      ∃ t, exec (.loopMode k) s = .next t ∧ t.Ended k St.OK (BitVec.ofNat 32 (s.nextSample n)) ∧ t.fld (Reg.LPE_LnCTL n) 0 2 = m
        ∧ (t.loop n).newReq = true ∧ OnlyChanges [.regs, .opt, .scn, .lpe] s t
        ∧ OnlyRegs [Reg.LPE_LnCTL n, Reg.LPE_LnMAN n] s t) ∧
    (s.Alone → s.activeOp k Blk.LPE 2 = some x → paramField x.param 0 1 = n → s.flag (Reg.LPE_LnCFG n) 0 = true →
      ∃ t, exec (.loopTune k) s = .next t ∧ t.Ended k St.OK (BitVec.ofNat 32 (s.nextSample n))
        ∧ t.num (Reg.LPE_LnKP n) = paramField x.param 4 4 % 2 ^ 20 ∧ t.num (Reg.LPE_LnKI n) = paramField x.param 8 4 % 2 ^ 20
        ∧ t.num (Reg.LPE_LnKD n) = paramField x.param 12 4 % 2 ^ 20 ∧ OnlyChanges [.regs, .opt, .scn, .lpe] s t
        ∧ OnlyRegs [Reg.LPE_LnKP n, Reg.LPE_LnKI n, Reg.LPE_LnKD n, Reg.LPE_LnDFILT n] s t) ∧
    (∀ b, s.activeOp k Blk.LPE 3 = some x → paramField x.param 0 1 = b → b ≤ 7 → paramField x.param 1 1 = n →
      1 ≤ (maskBits (paramField x.param 2 1)).length → (maskBits (paramField x.param 2 1)).length ≤ 4 →
      paramField x.param 4 1 ≤ 5 → s.flag (Reg.LPE_LnCFG n) 0 = true →
      (s.claimOf (0x5000 + b) = none → ∃ t, exec (.traceArm k) s = .next t ∧ t.Ended k St.OK (BitVec.ofNat 32 (s.nextSample n))
        ∧ t.flag (Reg.LPE_TRb_CFG b) 31 = true ∧ t.fld (Reg.LPE_TRb_CFG b) 0 7 = n
        ∧ t.claimOf (0x5000 + b) = some ⟨0x5000 + b, Blk.LPE, 1, n⟩ ∧ OnlyChanges [.regs, .opt, .scn, .lpe, .claims] s t) ∧
      (∀ c, s.claimOf (0x5000 + b) = some c → c.block ≠ Blk.LPE → ∃ t, exec (.traceArm k) s = .next t
        ∧ t.Ended k St.FAIL_CONFLICT (conflictWord c) ∧ OnlyChanges [.opt, .scn] s t)) ∧
    (∀ b c, s.activeOp k Blk.LPE 4 = some x → paramField x.param 0 1 = b → b ≤ 7 → s.claims = [c] → c.resource = 0x5000 + b →
      c.block = Blk.LPE → ∃ t, exec (.traceRelease k) s = .next t ∧ t.Ended k St.OK 0 ∧ t.claimOf (0x5000 + b) = none
        ∧ t.flag (Reg.LPE_TRb_CFG b) 31 = false ∧ OnlyChanges [.regs, .opt, .scn, .lpe, .claims] s t) ∧
    (∀ j v, j < 4 → s.Passes rq (Reg.LPE_LnBQk_W0 n j) → ∃ t, exec (.biquadW0Write rq n j v) s = .next t
      ∧ t.coefs n j = (v, s.reg (Reg.LPE_LnBQk_W1 n j), s.reg (Reg.LPE_LnBQk_W2 n j)) ∧ (t.loop n).bq = (s.loop n).bq.set j none
      ∧ OnlyChanges [.regs, .lpe] s t ∧ OnlyRegs [Reg.LPE_LnBQk_W0 n j] s t) ∧
    (∀ v : Word, s.Passes rq (Reg.LPE_LnCTL n) → s.flag (Reg.LPE_LnCFG n) 2 = false →
      (v.toNat % 4 ≠ 3 → ∃ t, exec (.modeReqWrite rq n v) s = .next t ∧ t.fld (Reg.LPE_LnCTL n) 0 2 = v.toNat % 4
        ∧ (t.loop n).newReq = true ∧ OnlyChanges [.regs, .lpe] s t ∧ OnlyRegs [Reg.LPE_LnCTL n] s t) ∧
      (v.toNat % 4 = 3 → ∃ t, exec (.modeReqWrite rq n v) s = .next t ∧ t.fld (Reg.ERR_CODE Blk.LPE) 0 8 = St.FAIL_INVALID
        ∧ OnlyChanges [.regs, .out, .errDetail] s t ∧ OnlyRegs (errRegs Blk.LPE) s t))

/-! ### EMU and STO -/

/-- Metering. A sample enters its front end's sums (R336); an element's energy goes by sign into IMP or EXP and a faulted element
takes none (R338, R342); a channel without transitions is faulted with its elements (R338); 500 cycles of opposite sign set
REV (R338); a passed pulse is counted with its chainage, and RATE_TMO sets the rate to 0 (R344); a generator that owes a pulse
emits one: its channel is driven for WIDTH × 10 ms and rests as long (R346). Each of these forms completes here, in a next
state: emuSample, channelFault, phaseReversal, pulseCount, pulseRateTimeout, pgPulse. -/
def Obligations.EnergySamplesAndPulses : Prop :=
  ∀ (s : State) (m : Nat), s.Up → m < 2 →
    (∀ f, s.feRuns 0 = true → ∃ t, exec (.emuSample (some f) none) s = .next t ∧ (t.fe 0).n = (s.fe 0).n + 1
      ∧ (t.fe 0).last = (List.range 7).map (fun c => clampInt (-(2 ^ 23)) (2 ^ 23) (f.v.getD c 0)) ∧ t.fe 1 = s.fe 1
      ∧ OnlyChanges [.regs, .out, .emu] s t) ∧
    (∀ e p q v, e < 4 → s.elemFault m e = false →
      (s.accumulate m e p q v).emuAcc m e 0 = s.emuAcc m e 0 + max 0 (sampleEnergy p)
        ∧ (s.accumulate m e p q v).emuAcc m e 1 = s.emuAcc m e 1 + max 0 (-sampleEnergy p)
        ∧ (s.accumulate m e p q v).emuAcc m e 2 = s.emuAcc m e 2 + max 0 (sampleEnergy q)
        ∧ (s.accumulate m e p q v).emuAcc m e 3 = s.emuAcc m e 3 + max 0 (-sampleEnergy q)) ∧
    (∀ e p q v, s.elemFault m e = true → s.accumulate m e p q v = s) ∧
    (∀ ch, ch < 7 → s.feRuns m = true → ∃ t, exec (.channelFault m ch) s = .next t ∧ t.flag (Reg.EMU_MmSTAT m) ch = true
      ∧ (∀ e, ch ∈ s.elemChans m e → t.elemFault m e = true) ∧ t.flag (Reg.IRQ_STAT Blk.EMU) 1 = true
      ∧ OnlyChanges [.regs, .out, .emu] s t ∧ OnlyRegs (Reg.EMU_MmSTAT m :: irqRegs Blk.EMU) s t) ∧
    (∀ p, p < 3 → 500 ≤ tget (fun _ => 0) (s.fe m).revRun p →
      exec (.phaseReversal m p) s = .next (s.setFlag (Reg.EMU_MmSTAT m) (16 + p) true)) ∧
    (∀ i ch rest, s.dio.pulses = (i, ch) :: rest → i < 16 → s.flag (Reg.EMU_PIiCFG i) 0 = true →
      ∃ t, exec .pulseCount s = .next t ∧ t.num64 (Reg.EMU_PIiCNT_LO i) = (s.num64 (Reg.EMU_PIiCNT_LO i) + 1) % 2 ^ 64
        ∧ t.num (Reg.EMU_PIiLAST i) = ch % 2 ^ 32 ∧ t.dio.pulses = rest ∧ OnlyChanges [.regs, .dio, .emu] s t
        ∧ OnlyRegs [Reg.EMU_PIiCNT_LO i, Reg.EMU_PIiCNT_LO i + 4, Reg.EMU_PIiLAST i, Reg.EMU_PIiRATE i] s t) ∧
    (∀ i c, s.Alone → i < 16 → tfind? s.emu.pulseAt i = some c → c + s.fld (Reg.EMU_PIiCFG i) 8 8 * 1000 * msClk ≤ s.clk →
      ∃ t, exec (.pulseRateTimeout i) s = .next t ∧ t.reg (Reg.EMU_PIiRATE i) = 0
      ∧ OnlyChanges [.regs, .emu] s t ∧ OnlyRegs [Reg.EMU_PIiRATE i] s t) ∧
    (∀ g till, g < 8 → s.flag (Reg.EMU_PGgCFG g) 0 = true → tfind? s.emu.busy g = none → 0 < s.num (Reg.EMU_PGgBACKLOG g) →
      s.dio.safe = false → s.dio.dieLost = false → s.mode ≠ Mode.MINIMAL →
      till = s.clk + s.fld (Reg.EMU_PGgCFG g) 24 8 * 10 * msClk →
      ∃ t, exec (.pgPulse g) s = .next t ∧ t.num (Reg.EMU_PGgBACKLOG g) = s.num (Reg.EMU_PGgBACKLOG g) - 1
        ∧ t.num (Reg.EMU_PGgEMITTED g) = (s.num (Reg.EMU_PGgEMITTED g) + 1) % 2 ^ 32
        ∧ tfind? t.emu.busy g = some (till, true)) ∧
    (∀ g c till, g < 8 → s.flag (Reg.EMU_PGgCFG g) 0 = true → tfind? s.emu.busy g = some (c, true) → c ≤ s.clk →
      till = s.clk + s.fld (Reg.EMU_PGgCFG g) 24 8 * 10 * msClk →
      ∃ t, exec (.pgPulse g) s = .next t ∧ t.num (Reg.EMU_PGgBACKLOG g) = s.num (Reg.EMU_PGgBACKLOG g)
        ∧ tfind? t.emu.busy g = some (till, false))

/-- Boundaries and records. Every cycle boundary, as the counter passes angle 0, writes one mirror slot with the next sequence
(R352); at an interval's end each context's record enters the hold ring with the interval's SEQ (R347, R349), here with no
front end running; a record leaves the ring once stored, and a failed write is counted and made again, 10 s after the last
(R350). Each of these forms completes here, in a next state: cycleBoundary, recordStored, recordRetry. -/
def Obligations.IntervalsAndRecords : Prop :=
  ∀ (s a : State), s.Up → s.Alone → s.latSt ≠ LatSt.RESET → s.feRuns 0 = false → s.feRuns 1 = false → s.emu.ivWait = none →
    s.dio.pulses = [] →
    (∀ h, s.zxPass 26 0 false = some a → ∃ t, exec (.cycleBoundary h) s = .next t ∧ t.num Reg.EMU_MIRROR_SEQ = (s.num Reg.EMU_MIRROR_SEQ + 1) % 2 ^ 32
      ∧ ∃ x, tfind? t.emu.mirror (s.chain / 65536 % 64) = some x ∧ x.seq = s.num Reg.EMU_MIRROR_SEQ + 1 ∧ x.ch = s.chain
        ∧ x.final = false) ∧
    (∀ h, s.zxPass 26 0 false = some a → s.emu.ivOpen = true → s.emu.ivClose = [] → s.emu.ivMerged = false → s.ivDue.1 = false → s.emu.ring = [] →
      ∃ t, exec (.cycleBoundary h) s = .next t ∧ t.emu.ring = [] ∧ t.num Reg.EMU_IV_SEQ = s.num Reg.EMU_IV_SEQ
        ∧ OnlyChanges [.regs, .points, .notes, .lat, .emu] s t) ∧
    (∀ h, s.zxPass 26 0 false = some a → s.emu.ivOpen = true → s.ivDue.1 = true → s.emu.ring = [] → ∃ t, exec (.cycleBoundary h) s = .next t
      ∧ t.emu.ring.length = s.mapContexts.length ∧ t.num Reg.EMU_IV_SEQ = (s.num Reg.EMU_IV_SEQ + 1) % 2 ^ 32
      ∧ t.num64 Reg.EMU_IV_START_LO = s.chain % 2 ^ 64) ∧
    (∀ n, s.stoEnded (.record n) = some St.OK → ∃ t, exec (.recordStored n) s = .next t
      ∧ t.emu.ring = s.emu.ring.filter (fun r => r.slot != n) ∧ OnlyChanges [.regs, .emu, .sto] s t
      ∧ OnlyRegs [Reg.EMU_HOLD_STAT, Reg.EMU_STAT] s t) ∧
    (∀ n st r k, s.stoEnded (.record n) = some st → st ≠ St.OK → s.emu.ring.find? (fun r => r.slot == n) = some r →
      r.ctx = 0 → r.sealed = none → r.tried + 10000 * msClk ≤ s.clk → s.sup.pfail = false → s.freeTag = some k →
      ∃ t, exec (.recordRetry n) s = .next t
        ∧ t.num Reg.EMU_STORE_RETRY = Nat.min (s.num Reg.EMU_STORE_RETRY + 1) (2 ^ 32 - 1)
        ∧ t.emu.ring.find? (fun r => r.slot == n) = some { r with sealed := some r.data, writing := true, tried := s.clk }
        ∧ (t.slot k).st = .active ∧ (t.slot k).block = Blk.STO ∧ (t.slot k).opcode = StoOp.APPEND
        ∧ OnlyChanges [.regs, .out, .opt, .emu, .sto] s t)

/-- EMU's operations. INTERVAL_CLOSE waits for the boundary (R360); PG_ENABLE claims generator and channel together and starts it,
PG_DISABLE stops it (R345); CAL_WRITE and ACC_CLEAR need a life cycle of MANUFACTURE or DEVELOPMENT (R360, R542). Each of
these forms completes here, in a next state: intervalClose, emuPgEnable, emuPgDisable, calWrite, accClear. -/
def Obligations.MeteringOperations : Prop :=
  ∀ (s : State) (k : Nat) (x : Slot), s.Up → tfind? s.hlk.serving k = none →
    (s.activeOp k Blk.EMU 1 = some x → s.emu.ivClose.contains k = false →
      exec (.intervalClose k) s = .next { s with emu := { s.emu with ivClose := s.emu.ivClose ++ [k] } }) ∧
    (∀ g q c w n, s.Alone → s.activeOp k Blk.EMU 2 = some x → paramField x.param 0 1 = g → paramField x.param 1 1 = q →
      paramField x.param 2 1 = c → paramField x.param 3 1 = w → paramField x.param 4 4 = n → pgValid g q c w n = true →
      s.flag (Reg.EMU_PGgCFG g) 0 = false →
      (s.claimOf (0x4000 + g) = none → s.claimOf (0x2000 + c) = none → ∃ t, exec (.emuPgEnable k) s = .next t
        ∧ t.Ended k St.OK 0 ∧ t.num (Reg.EMU_PGgCFG g) = 1 + q * 2 ^ 8 + c * 2 ^ 16 + w * 2 ^ 24
        ∧ t.num (Reg.EMU_PGgCONST g) = n ∧ t.claimOf (0x4000 + g) = some ⟨0x4000 + g, Blk.EMU, 1, g⟩
        ∧ t.claimOf (0x2000 + c) = some ⟨0x2000 + c, Blk.EMU, 1, g⟩ ∧ OnlyChanges [.regs, .opt, .scn, .claims, .emu] s t) ∧
      (∀ d, s.claimOf (0x4000 + g) = none → s.claimOf (0x2000 + c) = some d → ∃ t, exec (.emuPgEnable k) s = .next t
        ∧ t.Ended k St.FAIL_CONFLICT (conflictWord d) ∧ OnlyChanges [.opt, .scn] s t)) ∧
    (∀ g, s.activeOp k Blk.EMU 3 = some x → paramField x.param 0 1 = g → g < 8 → s.flag (Reg.EMU_PGgCFG g) 0 = true →
      s.emu.busy.contains g = false → ∃ t, exec (.emuPgDisable k) s = .next t ∧ t.Ended k St.OK 0
        ∧ t.flag (Reg.EMU_PGgCFG g) 0 = false ∧ (∀ d ∈ t.claims, d.resource = 0x4000 + g → d.block ≠ Blk.EMU)
        ∧ OnlyChanges [.regs, .opt, .scn, .claims] s t ∧ OnlyRegs [Reg.EMU_PGgCFG g] s t) ∧
    (s.lcService = false → ∀ e, s.activeOp k Blk.EMU e = some x → (e = 4 ∨ e = 5) →
      ∃ t, exec (if e = 4 then .calWrite k else .accClear k) s = .next t ∧ t.Ended k St.FAIL_DENIED 0
        ∧ OnlyChanges [.opt, .scn] s t) ∧
    (∀ m c v, s.lcService = true → s.activeOp k Blk.EMU 4 = some x → paramField x.param 0 1 = m → m < 2 →
      paramField x.param 1 1 = c → c < 7 → paramField x.param 4 4 = v →
      (paramField x.param 2 1 = 0 → ∃ t, exec (.calWrite k) s = .next t ∧ t.Ended k St.OK 0
        ∧ t.fld (Reg.EMU_MmCHchGAIN m c) 0 24 = v % 2 ^ 24 ∧ OnlyRegs [Reg.EMU_MmCHchGAIN m c] s t
        ∧ OnlyChanges [.regs, .opt, .scn] s t) ∧
      (paramField x.param 2 1 = 1 → ∃ t, exec (.calWrite k) s = .next t ∧ t.Ended k St.OK 0
        ∧ t.fld (Reg.EMU_MmCHchPHASE m c) 0 16 = v % 2 ^ 16 ∧ OnlyRegs [Reg.EMU_MmCHchPHASE m c] s t
        ∧ OnlyChanges [.regs, .opt, .scn] s t) ∧
      (paramField x.param 2 1 = 2 → ∃ t, exec (.calWrite k) s = .next t ∧ t.Ended k St.OK 0
        ∧ t.num (Reg.EMU_MmCHchFS m c) = v ∧ OnlyRegs [Reg.EMU_MmCHchFS m c] s t ∧ OnlyChanges [.regs, .opt, .scn] s t)) ∧
    (∀ m, s.lcService = true → s.activeOp k Blk.EMU 5 = some x → paramField x.param 0 1 = m → m < 2 →
      ∃ t, exec (.accClear k) s = .next t ∧ t.Ended k St.OK 0 ∧ (∀ e j, e < 4 → j < 6 → t.emuAcc m e j = 0)
        ∧ t.emu.ring.length = s.emu.ring.length + 4 ∧ OnlyChanges [.regs, .out, .opt, .scn, .emu, .sto] s t) ∧
    (∀ i, s.lcService = true → s.activeOp k Blk.EMU 5 = some x → paramField x.param 0 1 = 0x10 + i → i < 16 →
      ∃ t, exec (.accClear k) s = .next t ∧ t.Ended k St.OK 0 ∧ t.num64 (Reg.EMU_PIiCNT_LO i) = 0
        ∧ t.emu.ring.length = s.emu.ring.length + 1 ∧ OnlyChanges [.regs, .out, .opt, .scn, .emu, .sto] s t)

/-- STO's operations on a mounted map with nothing else open. A PUT of a COMMIT slot and a DELETE of a COMMIT object are durable
at once (R376, R388, R389); an APPEND of a JOURNAL object opens a write (R379, R382); GET and INFO write the host buffer
(R376); BARRIER and FLUSH with nothing before them complete (R378, R379); FORMAT keeps COMMIT objects alone (R395). The
medium, while core 0 runs (R22). A program's end makes a one-block APPEND durable (R370, R389); an erase's end frees the block
and counts it (R371), a failed one makes it bad (R370); a read's end completes its GET, a bad codeword is read again at the
next level (R368); a TREND record past TREND_FLUSH is programmed (R379); background work begins its jobs (R371); a peer that
is back is sent the unreplicated objects (R384). Each of these forms completes here, in a next state: put, append, get,
delete, barrier, flush, info, format, nandProgramDone, nandReadDone, trendFlush, scrubDue, relocation, staticWearLevel,
garbageCollect, replicaSync. -/
def Obligations.StorageAndMedium : Prop :=
  (∀ (s : State) (k : Nat) (x : Slot) (p : StoParam), s.Up → tfind? s.hlk.serving k = none → s.flag Reg.STO_STAT 0 = true →
    s.sup.pfail = false → s.sto.asks = [] → s.sto.writes = [] → s.sto.waits = [] → s.sto.durable = [] → s.sto.reads = [] →
    s.sto.jobs = [] → p = stoParam x → s.stoMustWait k = false →
    (∀ d o n z tb, s.activeOp k Blk.STO 1 = some x → s.writeRefusal x p 1 = none → s.stoObj p.obj = some o → o.cls = 1 →
      o.body = .slots n z tb → p.len = d.length →
      ∃ t, exec (.put k d) s = .next t ∧ t.Ended k St.OK (BitVec.ofNat 32 ((o.ver + 1) % 2 ^ 31))
        ∧ t.stoObj p.obj = some { o with
          ver := o.ver + 1
          body := .slots n z (tput tb p.pos ((tget (fun _ => CommitSlot.mk none none) tb p.pos).put (o.ver + 1) d)) }
        ∧ (∀ i, i ≠ p.obj → t.stoObj i = s.stoObj i) ∧ OnlyChanges [.regs, .out, .opt, .scn, .sto] s t) ∧
    (∀ d, s.activeOp k Blk.STO 2 = some x → s.writeRefusal x p 2 = none → s.stoObj p.obj = none → p.cls = 3 →
      p.len = d.length → d ≠ [] →
      ∃ t w, exec (.append k d) s = .next t ∧ (t.slot k).st = .active ∧ t.stoWrite k = some w ∧ w.obj = p.obj ∧ w.data = d
        ∧ w.op = 2 ∧ t.sto.objs = s.sto.objs ∧ OnlyChanges [.regs, .out, .sto] s t) ∧
    (∀ o b, s.activeOp k Blk.STO 3 = some x → stoAccess x p.obj 3 = true → s.stoObj p.obj = some o → (p.cls = 0 ∨ p.cls = o.cls) →
      getBytes o p.pos p.len = .ok b → o.damaged = false → o.places 1 = [] →
      ∃ t, exec (.get k) s = .next t ∧ t.Ended k St.OK (BitVec.ofNat 32 b.length) ∧ t.out = s.out ++ [.dma p.addr b]
        ∧ t.sto.objs = s.sto.objs ∧ OnlyChanges [.out, .opt, .scn, .sto] s t) ∧
    (s.activeOp k Blk.STO 3 = some x → stoAccess x p.obj 3 = true → s.stoObj p.obj = none →
      ∃ t, exec (.get k) s = .next t ∧ t.Ended k St.FAIL_CONFLICT 0 ∧ OnlyChanges [.opt, .scn, .sto] s t) ∧
    (∀ o, s.activeOp k Blk.STO 4 = some x → stoAccess x p.obj 4 = true → s.stoObj p.obj = some o → o.cls = 1 →
      ∃ t, exec (.delete k) s = .next t ∧ t.Ended k St.OK 0 ∧ t.stoObj p.obj = none
        ∧ (∀ i, i ≠ p.obj → t.stoObj i = s.stoObj i) ∧ OnlyChanges [.regs, .out, .opt, .scn, .sto] s t) ∧
    (s.activeOp k Blk.STO 5 = some x → s.stoEarlier k = [] → ∃ t, exec (.barrier k) s = .next t ∧ t.Ended k St.OK 0
      ∧ OnlyChanges [.opt, .scn, .sto] s t) ∧
    (s.activeOp k Blk.STO 6 = some x → s.stoEarlier k = [] → s.mode ≠ Mode.MINIMAL → s.sto.buffer = [] →
      ∃ t, exec (.flush k) s = .next t ∧ t.Ended k St.OK 0 ∧ OnlyChanges [.opt, .scn, .sto] s t) ∧
    (∀ o, s.activeOp k Blk.STO 7 = some x → stoAccess x p.obj 7 = true → s.stoObj p.obj = some o →
      ∃ t b, exec (.info k) s = .next t ∧ t.Ended k St.OK 64 ∧ t.out = s.out ++ [.dma p.addr b] ∧ b.length = 64
        ∧ OnlyChanges [.out, .opt, .scn, .sto] s t) ∧
    (∀ l, s.activeOp k Blk.STO 8 = some x → x.ctx = 0 → s.mode ≠ Mode.MINIMAL → s.fld Reg.KEY_LC 0 3 ≤ 1 → s.openTags = [k] →
      ∃ t, exec (.format k l) s = .next t
        ∧ t.Ended k St.OK (BitVec.ofNat 32 (t.sto.blocks.filter (fun e => e.2.st != .bad)).length)
        ∧ t.sto.objs = s.sto.objs.filter (fun e => e.2.cls == 1) ∧ t.sto.jobs = [])) ∧
  (∀ (s : State) (j : NandJob) (b : Nat), s.Up → s.coreUp 0 = true → s.sto.asks = [] → s.sto.waits = [] → s.sto.durable = [] → b = j.block →
    (∀ k w, s.sto.jobs = [j] → j.what = .copy k 1 → s.sto.writes = [w] → w.tag = k → w.cls = 3 → w.op = 2 → w.rep = .none →
      w.left1 = j.bytes → w.left2 = 0 → w.copy1 = [] → (s.slot k).st = .active → (s.slot k).gen = w.gen →
      (s.slot k).block = Blk.STO → tfind? s.hlk.serving k = none → s.stoObj w.obj = none → s.sto.buffer = [] →
      ∃ t, exec (.nandProgramDone j.id true) s = .next t ∧ t.Ended k St.OK 0 ∧ t.sto.jobs = [] ∧ t.sto.writes = []
        ∧ t.stoObj w.obj = some ⟨3, 1, w.limit, .records [⟨0, s.chain, w.data, [b]⟩] 0 1, false, false⟩) ∧
    (s.sto.jobs = [j] → j.what = .erase → s.sto.writes = [] → s.sto.buffer = [] →
      (s.num (Reg.STO_PLq_RATED_PE (s.nblock b).pool) = 0 → ∃ t, exec (.nandProgramDone j.id true) s = .next t
        ∧ t.nblock b = { s.nblock b with ec := (s.nblock b).ec + 1, st := .free, used := 0, reads := 0, worn := false }
        ∧ t.sto.jobs = [] ∧ OnlyChanges [.regs, .out, .sto] s t) ∧
      (s.sto.blocks = [(b, s.nblock b)] → (s.nblock b).st ≠ .spare → ∃ t, exec (.nandProgramDone j.id false) s = .next t
        ∧ (t.nblock b).st = .bad ∧ t.num Reg.STO_MEDIAFAIL_CNT = Nat.min (s.num Reg.STO_MEDIAFAIL_CNT + 1) (2 ^ 32 - 1)
        ∧ OnlyChanges [.regs, .out, .sto] s t)) ∧
    (∀ k x o d, s.sto.jobs = [j] → j.what = .read k 1 → s.sto.writes = [] → s.sto.reads = [⟨k, (s.slot k).gen, 1, false⟩] →
      s.slot k = x → x.st = .active → x.block = Blk.STO → tfind? s.hlk.serving k = none →
      s.stoObj (stoParam x).obj = some o → getBytes o (stoParam x).pos (stoParam x).len = .ok d →
      ∃ t, exec (.nandReadDone j.id [] false .good) s = .next t ∧ t.Ended k St.OK (BitVec.ofNat 32 d.length)
        ∧ t.out.contains (.dma (stoParam x).addr d) = true ∧ t.sto.reads = []) ∧
    (∀ k, s.sto.jobs = [j] → j.what = .read k 1 → j.attempt < s.sto.retryLevels →
      ∃ t, exec (.nandReadDone j.id [] false .bad) s = .next t ∧ t.sto.jobs = [{ j with attempt := j.attempt + 1 }]
        ∧ OnlyChanges [.regs, .sto] s t) ∧
    (∀ c, s.mode ≠ Mode.MINIMAL → s.fld Reg.STO_CFG 8 8 = 0 → tfind? s.sto.bufClk 8 = some c → c + 1000 * msClk ≤ s.clk →
      tget (fun _ => []) s.sto.buffer 8 ≠ [] →
      s.takingBlock 4 (fun k => k / 8 == 0 && s.lunUsable (k / 8) (k % 8)) = some b →
      ∃ t p, exec (.trendFlush 4 0) s = .next t
        ∧ t.sto.jobs = s.sto.jobs ++ [⟨s.sto.nextId, b, .wordline 4 0 p, wordlineBytes, 0⟩]) ∧
    (s.flag Reg.STO_STAT 0 = true → s.en Blk.STO = true → s.validBytes b ≠ 0 → (s.nblock b).day + s.scrubDays ≤ s.today →
      s.sto.jobs = [] → ∃ t, exec (.scrubDue b) s = .next t ∧ t.sto.jobs = [⟨s.sto.nextId, b, .scrub, 0, 0⟩]
        ∧ t.flag Reg.STO_STAT 4 = true ∧ OnlyChanges [.regs, .out, .sto] s t) ∧
    (s.mode ≠ Mode.MINIMAL → s.en Blk.STO = true → s.sto.jobs = [] → s.validBytes b = 0 → (s.nblock b).st = .closed →
      ((s.nblock b).worn = true → ∃ t, exec (.relocation b) s = .next t ∧ t.sto.jobs = [⟨s.sto.nextId, b, .erase, 0, 0⟩]
        ∧ OnlyChanges [.regs, .out, .sto] s t) ∧
      (∀ q, q < 2 → s.sto.blocks = [(b, s.nblock b)] → (s.nblock b).pool = q → 0 < s.blockBytes q →
        100 * s.num (Reg.STO_PLq_FREE q) < s.gcFree →
        ∃ t, exec (.garbageCollect q) s = .next t ∧ t.sto.jobs = [⟨s.sto.nextId, b, .erase, 0, 0⟩]
          ∧ t.flag Reg.STO_STAT 5 = true ∧ OnlyChanges [.regs, .out, .sto] s t)) ∧
    (∀ q c, q < 2 → s.mode ≠ Mode.MINIMAL → s.en Blk.STO = true → s.sto.jobs = [] → b < c →
      s.sto.blocks = [(b, s.nblock b), (c, s.nblock c)] → (s.nblock b).pool = q → (s.nblock c).pool = q →
      (s.nblock b).st = .closed → (s.nblock c).st = .free → s.validBytes b ≠ 0 →
      s.num (Reg.STO_PLq_EC_MIN q) + 200 < s.num (Reg.STO_PLq_EC_MAX q) →
      ∃ t, exec (.staticWearLevel q) s = .next t ∧ t.num Reg.STO_WL_CNT = Nat.min (s.num Reg.STO_WL_CNT + 1) (2 ^ 32 - 1)
        ∧ t.sto.jobs = [⟨s.sto.nextId, c, .move b, Nat.min (s.validBytes b) (s.blockBytes q), 0⟩]
        ∧ t.flag Reg.STO_STAT 6 = true) ∧
    (∀ m id o d, s.stoPeer = some m → s.peerUp = true → s.mode ≠ Mode.MINIMAL → s.sto.unrep = [id] → s.sto.writes = [] →
      s.stoObj id = some o → (∃ c1 c2, o.body = .whole d c1 c2) → d.length ≤ 1416 →
      ∃ t, exec .replicaSync s = .next t ∧ t.flag Reg.STO_STAT 3 = true ∧ (t.peer m).txSeq = (s.peer m).txSeq + 1
        ∧ OnlyChanges [.regs, .out, .fab, .hlk] s t))

/-! ### HLK -/

/-- Members. Heartbeats show their sender (R406, R407); 350 ms without one is a loss (R408, R409); a JOIN is taken in or refused
(R404, R409); WELCOME binds the pair (R409, R410); a worker without WELCOME tries again and at the end starts alone (R410);
LEAVE ends a membership (R409); acknowledged frames are freed and the others sent again (R405); a frame that does not
authenticate or repeats a counter is dropped and counted (R403); a worker without manager and majority is isolated (R423). The
manager's role. TAKEOVER from the configured standby with a higher TERM makes it the manager (R426, R427); a standby whose
manager is lost takes over with a majority and not without (R425, R426); HANDBACK names the strap manager (R427). Each of
these forms completes here, in a next state: heartbeatTx, heartbeatRx, memberLoss, frameAuthDrop, rtxTimer, join, welcome,
joinWaitTimeout, joinRetry, leave, takeover, ack, isolation, takeoverDecide, takeoverWaitExpire, handback. -/
def Obligations.MembersAndManager : Prop :=
  (∀ (s : State) (h : LinkHdr), s.Up →
    (∀ n l, n = (s.tb 2).time / (100000000 * nsUnit) → s.hlk.hbSent ≠ some n →
      (s.tb 2).time % (100000000 * nsUnit) ≤ 1000000 * nsUnit → s.linkOpen = true →
      (s.coreUp 1 = true → l = s.hbTold) → (s.coreUp 1 = false → s.hlk.told = some l) →
      ∃ t, exec .heartbeatTx s = .next t ∧ t.hlk.hbSent = some n
        ∧ s.SentOne t 0xFF 0x01 (l.take 4 ++ [s.chain, (s.tb 2).sec, (s.tb 2).ns] ++ l.drop 4 ++ [0])
        ∧ OnlyChanges [.free, .out, .regs, .fab, .hlk] s t) ∧
    (s.hbTold.length = 8 ∧ s.hbTold.getD 1 0 = s.mode ∧ s.hbTold.getD 3 0 = s.latSt
      ∧ s.hbTold.getD 5 0 = s.num Reg.HLK_MEMBER_GEN ∧ s.hbTold.getD 6 0 = s.num Reg.HLK_PLACE_GEN) ∧
    (∀ l, s.linkOpen = true → h.src ≤ 63 → h.src ≠ s.sup.moduleNum → (s.peer h.src).admits h = true →
      s.coreUp 1 = false → s.coreRestarts 1 = true → s.coreWait = [] →
      ∃ t, exec (.heartbeatRx h l) s = .next t ∧ (t.peer h.src).hbClk = some s.clk
        ∧ t.coreWait = [(1, .heartbeatRx h l)] ∧ OnlyChanges [.coreWait, .regs, .hlk] s t
        ∧ OnlyRegs [Reg.HLK_MBm_TX h.src] s t) ∧
    (∀ role flags g ch sec ns a b r, s.Takes h → s.isManager = false → h.src ≠ s.manager → role / 4 % 4 ≠ 1 →
      s.memSt h.src = 2 → bitOf flags 1 = false →
      ∃ t, exec (.heartbeatRx h (role :: Mode.RUN :: flags :: g :: ch :: sec :: ns :: 0 :: a :: b :: r)) s = .next t
        ∧ (t.peer h.src).hbClk = some s.clk ∧ (t.peer h.src).via = some (h.mac, 48 + h.uplink % 2) ∧ t.memSt h.src = 2 ∧ t.fld (Reg.HLK_MBm_STAT h.src) 3 2 = Mode.RUN
        ∧ t.num (Reg.HLK_MBm_CHAIN h.src) = ch % 2 ^ 32 ∧ OnlyChanges [.regs, .hlk] s t ∧ OnlyRegs [Reg.HLK_MBm_STAT h.src,
          Reg.HLK_MBm_AGE h.src, Reg.HLK_MBm_START h.src, Reg.HLK_MBm_CHAIN h.src, Reg.HLK_MBm_TX h.src] s t) ∧
    (∀ m c, s.Alone → s.linkOpen = true → m ≤ 63 → s.memSt m = 2 → (s.peer m).hbClk = some c → c + lossClk ≤ s.clk →
      s.isManager = false → m ≠ s.manager → (s.peer m).unacked = [] → s.hlk.imports = [] → s.hlk.hosted = [] →
      s.scn.lanes = [] → s.scn.remote = [] → s.stoPeer ≠ some m →
      ∃ t, exec (.memberLoss m) s = .next t ∧ t.memSt m = 3 ∧ t.flag (Reg.IRQ_STAT Blk.HLK) 1 = true
        ∧ t.num Reg.HLK_LOSS_CNT = Nat.min (s.num Reg.HLK_LOSS_CNT + 1) (2 ^ 32 - 1) ∧ OnlyChanges [.regs, .out, .fab, .hlk] s t) ∧
    (s.linkOpen = true → ∃ t, exec .frameAuthDrop s = .next t ∧ t.flag (Reg.IRQ_STAT Blk.HLK) 6 = true
      ∧ t.num Reg.HLK_AUTH_FAIL_CNT = Nat.min (s.num Reg.HLK_AUTH_FAIL_CNT + 1) (2 ^ 32 - 1)
      ∧ OnlyChanges [.regs, .out] s t ∧ OnlyRegs (Reg.HLK_AUTH_FAIL_CNT :: irqRegs Blk.HLK) s t) ∧
    (∀ ok ver type len, (ok = false ∨ ver ≠ 1 ∨ type = 0x06 ∨ (type = 0x01 ∧ len < 52)) → badFrame ok ver type len = true) ∧
    (badFrame h.tagOk h.ver h.type h.len = true → (s.peer h.src).admits h = false) ∧
    (∀ m f, s.coreUp 1 = true → s.linkOpen = true → (s.peer m).unacked = [f] → f.sent + s.rtxClk ≤ s.clk →
      ∃ t, exec (.rtxTimer m) s = .next t
        ∧ s.Sent t [⟨m, f.type, f.seq, relFlags true f.more, (s.peer m).rxSeq, f.fields⟩]
        ∧ (t.peer m).unacked = [{ f with sent := s.clk }]
        ∧ t.num Reg.HLK_RTX_CNT = Nat.min (s.num Reg.HLK_RTX_CNT + 1) (2 ^ 32 - 1)
        ∧ OnlyChanges [.regs, .out, .fab, .hlk] s t) ∧
    (∀ f, s.Takes h → (s.peer h.src).unacked = [f] → f.seq ≤ h.ack → ∃ t, exec (.ack h) s = .next t
      ∧ (t.peer h.src).unacked = [] ∧ OnlyChanges [.regs, .hlk] s t ∧ OnlyRegs [Reg.HLK_MBm_TX h.src] s t) ∧
    (s.linkOpen = true → h.src ≤ 63 → h.src ≠ s.sup.moduleNum → s.arb.coreDown = false → (s.peer h.src).admits h = false →
      exec (.ack h) s = .next s.dropFrame) ∧
    (∀ a mode start uid b c e r code, s.Takes h → s.isManager = true → s.joinCode h.src start uid = code →
      s.memSt h.src ≠ 2 → s.memSt h.src ≠ 4 → s.hlk.infos = [] →
      (code = 0 → s.memSt h.src ≠ 3 → ∃ t, exec (.join h (a :: mode :: start :: uid :: b :: c :: e :: r)) s = .next t ∧ t.memSt h.src = 2
        ∧ t.num Reg.HLK_MEMBER_GEN = (s.num Reg.HLK_MEMBER_GEN + 1) % 2 ^ 32
        ∧ (s.memSt h.src = 0 → t.flag (Reg.IRQ_STAT Blk.HLK) 2 = true)
        ∧ s.Sent t [⟨h.src, 0x03, 1, 1, 0, [0, s.sup.moduleNum, s.hlk.standby.getD 255, 0, s.chain, (s.tb 2).sec, (s.tb 2).ns, 0,
          t.num Reg.HLK_MEMBER_GEN, s.num Reg.HLK_PLACE_GEN, 0]⟩] ∧ OnlyChanges [.regs, .out, .fab, .hlk] s t) ∧
      (code ≠ 0 → ∃ t, exec (.join h (a :: mode :: start :: uid :: b :: c :: e :: r)) s = .next t ∧ t.memSt h.src = 5
        ∧ t.fld (Reg.HLK_MBm_STAT h.src) 8 8 = code
        ∧ s.Sent t [⟨h.src, 0x03, 1, 1, 0, [code, s.sup.moduleNum, s.hlk.standby.getD 255, 0, s.chain, (s.tb 2).sec, (s.tb 2).ns, 0,
          s.num Reg.HLK_MEMBER_GEN, s.num Reg.HLK_PLACE_GEN, 0]⟩] ∧ OnlyChanges [.regs, .out, .fab, .hlk] s t)) ∧
    (∀ a mode start uid b c e r, s.Takes h → s.isManager = true → s.joinCode h.src start uid = 0 → s.memSt h.src = 3 →
      s.heard h.src = false → s.hlk.infos = [] →
      ∃ t, exec (.join h (a :: mode :: start :: uid :: b :: c :: e :: r)) s = .next t ∧ t.memSt h.src = 3
        ∧ (t.peer h.src).joined = true ∧ OnlyChanges [.regs, .out, .fab, .hlk] s t) ∧
    (∀ peer standby a ch sec ns b mgen pgen r, s.Takes h → s.isManager = false → h.src = s.manager → s.joinWaits = false →
      s.sto.objs = [] → ∃ t, exec (.welcome h (0 :: peer :: standby :: a :: ch :: sec :: ns :: b :: mgen :: pgen :: r)) s = .next t
        ∧ t.memSt h.src = 2 ∧ t.num Reg.HLK_TERM = h.term % 2 ^ 32 ∧ t.flag Reg.HLK_STAT 10 = true
        ∧ t.num Reg.HLK_MEMBER_GEN = mgen % 2 ^ 32 ∧ t.num Reg.HLK_PLACE_GEN = pgen % 2 ^ 32
        ∧ t.stoPeer = (if peer < 64 then some peer else none) ∧ t.hlk.standby = moduleOf standby
        ∧ s.Sent t [⟨h.src, 0x43, 1, 1, h.seq, []⟩, ackOfFrame h]
        ∧ OnlyChanges [.regs, .out, .fab, .hlk] s t) ∧
    (s.joinWaits = true → s.flag Reg.HLK_STAT 10 = false →
      exec .joinWaitTimeout s = .next (s.guarded (s.startLat s.startCycles false).finishStart)
        ∧ (s.latSt = LatSt.RESET → (s.startLat s.startCycles false).lat.pos = s.startCycles * 65536 * 2 ^ 32)) ∧
    (s.coreUp 1 = true → s.linkOpen = true → s.isManager = false → s.flag Reg.HLK_STAT 10 = false → s.hlk.joinClk + 1000 * msClk ≤ s.clk →
      s.memSt s.manager ≠ 2 → ∃ t, exec .joinRetry s = .next t ∧ t.memSt s.manager = 1 ∧ t.hlk.joinClk = s.clk
        ∧ s.Sent t [⟨s.manager, 0x02, 1, 1, 0, [s.sup.roleStrap, s.mode, s.num Reg.OPT_START_NUM % 2 ^ 16, Config.uid.toNat, s.sup.imgId,
          s.sup.imgVer, 0]⟩] ∧ OnlyChanges [.regs, .out, .fab, .hlk] s t) ∧
    (∀ a r, s.TakesNext h → s.isManager = true → s.memSt h.src = 2 → (s.peer h.src).unacked = [] → s.hlk.infos = [] →
      s.hlk.imports = [] → s.hlk.hosted = [] → s.scn.lanes = [] → s.scn.remote = [] → s.stoPeer ≠ some h.src →
      ∃ t, exec (.leave h (a :: r)) s = .next t ∧ t.memSt h.src = 3 ∧ s.Acked t h ∧ t.flag (Reg.IRQ_STAT Blk.HLK) 1 = true
        ∧ OnlyChanges [.regs, .out, .fab, .hlk] s t) ∧
    (s.Alone → s.linkOpen = true → s.isManager = false → s.mgrSeen = false → 2 * (s.others.filter s.heard).length ≤ s.others.length →
      s.hlk.hosted = [] → s.flag Reg.HLK_STAT 11 = false →
      exec .isolation s = .next ((s.setFlag Reg.HLK_STAT 11 true).raiseIrq Blk.HLK 5))) ∧
  (∀ (s : State) (h : LinkHdr), s.Up →
    (∀ term prev standby r, s.Takes h → s.isManager = false → s.flag Reg.HLK_CFG 30 = true → h.src = s.fld Reg.HLK_CFG 24 6 →
      s.num Reg.HLK_TERM < term → prev ≠ h.src → ∃ t, exec (.takeover h (term :: prev :: standby :: r)) s = .next t
        ∧ t.manager = h.src ∧ t.num Reg.HLK_TERM = term % 2 ^ 32 ∧ t.stoPeer = some h.src ∧ t.hlk.standby = moduleOf standby
        ∧ t.hlk.mgrClk = some s.clk ∧ s.Acked t h ∧ t.isManager = false
        ∧ t.flag (Reg.IRQ_STAT Blk.HLK) 3 = true ∧ OnlyChanges [.regs, .out, .fab, .hlk] s t) ∧
    (∀ term prev standby r, s.Takes h → term ≤ s.num Reg.HLK_TERM →
      ∃ t, exec (.takeover h (term :: prev :: standby :: r)) s = .next t ∧ t.manager = s.manager
        ∧ t.num Reg.HLK_TERM = s.num Reg.HLK_TERM ∧ OnlyChanges [.regs, .hlk] s t ∧ OnlyRegs [Reg.HLK_MBm_TX h.src] s t) ∧
    (∀ c m, s.coreUp 1 = true → s.hlk.tkSince = some c → s.linkOpen = true → s.fld Reg.HLK_STAT 8 2 = 3 → s.flag Reg.HLK_STAT 12 = true →
      s.mode = Mode.RUN → s.memSt s.manager = 3 → s.heard s.manager = false → s.majority c = true →
      s.clk ≤ c + s.takeoverWait → s.hlk.infos = [] → s.others.filter s.memberUp = [m] → s.sup.moduleNum < 64 →
      ∃ t, exec .takeoverDecide s = .next t ∧ t.isManager = true ∧ t.manager = s.sup.moduleNum
        ∧ t.num Reg.HLK_TERM = (s.num Reg.HLK_TERM + 1) % 2 ^ 32 ∧ t.stoPeer = none ∧ t.hlk.placed = true
        ∧ t.hlk.standby = none ∧ t.flag (Reg.IRQ_STAT Blk.HLK) 3 = true
        ∧ s.Sent t [⟨m, 0x05, 1, 1, (s.peer m).rxSeq, [s.num Reg.HLK_TERM + 1, s.manager, 255, 0]⟩] ∧ OnlyChanges [.regs, .out, .fab, .hlk] s t) ∧
    (∀ c, s.Alone → s.coreUp 1 = true → s.hlk.tkSince = some c → c + s.takeoverWait ≤ s.clk → s.majority c = false →
      exec .takeoverWaitExpire s = .next { s with hlk := { s.hlk with tkSince := none } }) ∧
    (∀ k x m, tfind? s.hlk.serving k = none → s.activeOp k Blk.HLK 6 = some x → s.hlk.asked.contains x.ord = false →
      (s.isManager = false → ∃ t, exec (.handback k) s = .next t ∧ t.Ended k St.FAIL_DENIED 0 ∧ OnlyChanges [.opt, .scn] s t) ∧
      (s.isManager = true → s.sup.roleStrap ≠ 0 → x.ctx = 0 → m = s.fld Reg.HLK_CFG 16 6 → s.linkOpen = true →
        (s.memberUp m = false → ∃ t, exec (.handback k) s = .next t ∧ t.Ended k St.FAIL_STATION_LOST 0
          ∧ OnlyChanges [.opt, .scn] s t) ∧
        (s.others.filter s.memberUp = [m] → ∃ t, exec (.handback k) s = .next t ∧ t.manager = m
          ∧ t.fld Reg.HLK_STAT 8 2 = 3 ∧ t.num Reg.HLK_TERM = (s.num Reg.HLK_TERM + 1) % 2 ^ 32 ∧ t.hlk.handback = some k
          ∧ s.Sent t [⟨m, 0x05, 1, 1, (s.peer m).rxSeq, [s.num Reg.HLK_TERM + 1, s.sup.moduleNum, s.sup.moduleNum, 0]⟩] ∧ (t.slot k) = s.slot k
          ∧ OnlyChanges [.regs, .out, .fab, .hlk] s t))))

/-- Points across modules. A record of a set is kept whole with its qualities (R413); a write by a module that is not the point's
producer is refused, its producer's takes effect, and both are acknowledged (R415); the acknowledgement settles the write
(R415); subscriptions come and go (R417); a set is sent at its period and to its host's slots (R412, R417); a set without
records turns STALE (R414); NS_READ answers a record (R414, R432). Each of these forms completes here, in a next state:
pointUpdate, alPointWrite, pointAck, subscribe, unsubscribe, exportSetSend, importStale, nsRead. -/
def Obligations.PointsAcrossModules : Prop :=
  ∀ (s : State) (h : LinkHdr), s.Up →
    (∀ x set i j ch a u q ty v r, s.Takes h → s.isManager = false → s.hlk.imports = [x] → x.src = h.src → x.set = set →
      Q.known q = true → set ≠ 0xFFFF → x.map = [(i, j)] → s.copiesOf j = [] → (s.point j).type ≠ PtType.NONE → (s.point j).forced = false → s.pointNote j = none →
      ∃ t, exec (.pointUpdate h (set :: 1 :: ch :: a :: u :: i :: q :: ty :: v :: r)) s = .next t
        ∧ (t.point j).value = normValue (s.point j).type (BitVec.ofNat 64 v) ∧ (t.point j).quality = q
        ∧ (t.point j).stamp = s.chain32 ∧ t.hlk.imports = [{ x with clk := s.clk, stale := false }]
        ∧ OnlyPoints [j] s t ∧ OnlyChanges [.regs, .points, .notes, .hlk] s t ∧ OnlyRegs [Reg.HLK_MBm_TX h.src] s t) ∧
    (∀ i ty a tg ctx v r, s.TakesNext h →
      ((s.point i).producer ≠ .module h.src → ∃ t, exec (.alPointWrite h (i :: ty :: a :: tg :: ctx :: v :: r)) s = .next t
        ∧ s.Sent t [⟨h.src, 0x12, 0, 0, h.seq, [tg, St.FAIL_DENIED, 0, s.chain % 2 ^ 32]⟩, ackOfFrame h]
        ∧ (t.peer h.src).rxSeq = h.seq ∧ OnlyChanges [.regs, .out, .fab, .hlk] s t) ∧
      ((s.point i).producer = .module h.src → s.blockMay ctx i 1 = true → ty = (s.point i).type → ty ≠ PtType.NONE →
        (s.point i).forced = false → s.pointNote i = none → s.copiesOf i = [] → s.overrideOf i = none → s.lcpPoint i = false →
        tfind? s.fbc.outMap i = none → ∃ t, exec (.alPointWrite h (i :: ty :: a :: tg :: ctx :: v :: r)) s = .next t
          ∧ s.Sent t [⟨h.src, 0x12, 0, 0, h.seq, [tg, St.OK, 0, s.chain % 2 ^ 32]⟩, ackOfFrame h]
          ∧ (t.point i).value = normValue ty (BitVec.ofNat 64 v) ∧ (t.point i).quality = Q.GOOD
          ∧ OnlyPoints [i] s t ∧ OnlyChanges [.regs, .out, .fab, .points, .notes, .hlk] s t)) ∧
    (∀ w k r, s.Takes h → s.scn.remote = [w] → w.station = .module h.src → w.phase = .handed → w.tag = some k →
      (s.slot k).st = .active → (s.slot k).block ≠ Blk.STO → tfind? s.hlk.serving k = none →
      ∃ t, exec (.pointAck h ((k + (s.slot k).gen * 512) :: St.OK :: r)) s = .next t ∧ t.scn.remote = [] ∧ t.Ended k St.OK 0
        ∧ OnlyChanges [.regs, .opt, .scn, .hlk] s t) ∧
    (∀ u a l, s.TakesNext h → s.hlk.subs = [] → ∃ t, exec (.subscribe h (u :: l.length :: a :: l)) s = .next t
      ∧ t.hlk.subs = [⟨h.src, u, l, 0, none, []⟩] ∧ s.Acked t h ∧ OnlyChanges [.regs, .out, .fab, .hlk] s t) ∧
    (∀ u r, s.TakesNext h → ∃ t, exec (.unsubscribe h (u :: r)) s = .next t
      ∧ (∀ x, x ∈ t.hlk.subs ↔ x ∈ s.hlk.subs ∧ ¬(x.dst = h.src ∧ x.unit = u)) ∧ s.Acked t h
      ∧ OnlyChanges [.regs, .out, .fab, .hlk] s t) ∧
    (∀ x set u d, s.coreUp 1 = true → s.linkOpen = true → s.chain % 65536 = 0 → s.hlk.exports = [x] → x.set = set → set ≠ 0xFFFF →
      x.cycle ≠ some (s.chain / 65536) → s.chain / 65536 % Nat.max 1 x.period = 0 → x.subs = [] → s.manager ≠ s.sup.moduleNum →
      ∃ t, exec (.exportSetSend set u d) s = .next t
        ∧ s.SentOne t s.manager 0x10 ([set, x.points.length, s.chain, x.seq + 1, 0] ++ s.pointEntries x.points)
        ∧ t.hlk.exports = [{ x with seq := x.seq + 1, cycle := some (s.chain / 65536), last := s.latchPoints x.points }]
        ∧ OnlyChanges [.regs, .out, .fab, .hlk] s t) ∧
    (∀ y u d, s.coreUp 1 = true → s.linkOpen = true → s.chain % 65536 = 0 → s.hlk.subs = [y] → y.unit = u → y.dst = d → y.idxs ≠ [] → y.idxs.length ≤ 118 →
      y.cycle ≠ some (s.chain / 65536) → ∃ t, exec (.exportSetSend 0xFFFF u d) s = .next t
        ∧ s.SentOne t d 0x10 ([0xFFFF, y.idxs.length, s.chain, y.seq + 1, u] ++ s.pointEntries y.idxs)
        ∧ t.hlk.subs = [{ y with seq := y.seq + 1, cycle := some (s.chain / 65536), last := s.latchPoints y.idxs }]
        ∧ OnlyChanges [.regs, .out, .fab, .hlk] s t) ∧
    (∀ x i j, s.Alone → s.coreUp 1 = true → s.hlk.imports = [x] → x.map = [(i, j)] → x.stale = false → x.clk + 3 * x.period * s.nominalClk + lossClk ≤ s.clk →
      s.copiesOf j = [] → (s.point j).type ≠ PtType.NONE → (s.point j).forced = false → s.pointNote j = none →
      ∃ t, exec (.importStale x.src x.set) s = .next t ∧ (t.point j).quality = Q.STALE
        ∧ t.hlk.imports = [{ x with stale := true }] ∧ OnlyPoints [j] s t ∧ OnlyChanges [.points, .notes, .hlk] s t) ∧
    (∀ k x g dc, tfind? s.hlk.serving k = none → s.activeOp k Blk.HLK 1 = some x → s.hlk.asked.contains x.ord = false →
      s.isManager = true → s.sup.roleStrap ≠ 0 → g = paramField x.param 0 4 % 2 ^ 22 →
      (tfind? s.hlk.dir g = none → ∃ t, exec (.nsRead k) s = .next t ∧ t.Ended k St.FAIL_INVALID 0
        ∧ OnlyChanges [.opt, .scn] s t) ∧
      (tfind? s.hlk.dir g = some dc → g / 65536 = s.sup.moduleNum → s.hostMayRead x.ctx (g % 65536) = true →
        ∃ t p, p = s.pointFor Blk.HIF (g % 65536) ∧ exec (.nsRead k) s = .next t ∧ t.Ended k St.OK 0
          ∧ t.out = s.out ++ [.dma (paramField x.param 8 8) (recordBytes p.value p.quality p.type p.ctx p.stamp)]
          ∧ OnlyChanges [.out, .fab, .opt, .scn] s t) ∧
      (∀ v q z st, tfind? s.hlk.dir g = some dc → g / 65536 ≠ s.sup.moduleNum → x.ctx = 0 → dc / 256 = 0 →
        tfind? s.hlk.mirror g = some (v, q, z, st) → ∃ t, exec (.nsRead k) s = .next t ∧ t.Ended k St.OK 0
          ∧ t.out = s.out ++ [.dma (paramField x.param 8 8)
            (recordBytes v (if s.memberUp (g / 65536) then q else Q.STALE) (dc % 256) 0 st)]
          ∧ OnlyChanges [.out, .fab, .opt, .scn] s t))

/-- Operations for other modules. One asked for by the manager begins here with its context and answers with RESULT, one from
another module is refused FAIL_DENIED (R428, R429); RESULT completes the manager's operation (R428); the manager's
REMOTE_STAKE and REMOTE_LIMIT go to a target that is UP, fail on a lost one and on one in MISMATCH (R411, R428, R429). Each of
these forms completes here, in a next state: stakeEdit, result, limit, remoteStake, remoteLimit. -/
def Obligations.OperationsForOtherModules : Prop :=
  ∀ (s : State) (h : LinkHdr), s.Up →
    (∀ op a tg ctx b p r, s.TakesNext h →
      (h.src ≠ s.manager → (s.peer h.src).unacked = [] → ∃ t, exec (.stakeEdit h (op :: a :: tg :: ctx :: b :: p :: r)) s = .next t
        ∧ s.Queued t h.src 0x21 [tg, St.FAIL_DENIED, 0, 0] []
        ∧ s.Sent t [⟨h.src, 0x21, (s.peer h.src).txSeq + 1, 1, h.seq, [tg, St.FAIL_DENIED, 0, 0]⟩, ackOfFrame h]
        ∧ (t.peer h.src).rxSeq = h.seq ∧ OnlyChanges [.regs, .out, .fab, .hlk] s t) ∧
      (∀ k, h.src = s.manager → s.isManager = false → s.freeTag = some k → s.blockRefusal Blk.LAT op = none →
        ∃ t, exec (.stakeEdit h (op :: a :: tg :: ctx :: b :: p :: r)) s = .next t ∧ (t.slot k).st = .active
          ∧ (t.slot k).block = Blk.LAT ∧ (t.slot k).opcode = op ∧ (t.slot k).ctx = ctx ∧ (t.slot k).param = BitVec.ofNat 384 p
          ∧ tfind? t.hlk.serving k = some (h.src, tg) ∧ s.Acked t h ∧ OnlyChanges [.regs, .out, .fab, .opt, .hlk] s t)) ∧
    (∀ tg pool a lim r, s.TakesNext h →
      (h.src ≠ s.manager → (s.peer h.src).unacked = [] → ∃ t, exec (.limit h (tg :: pool :: a :: lim :: r)) s = .next t
        ∧ s.Queued t h.src 0x21 [tg, St.FAIL_DENIED, 0, 0] []
        ∧ s.Sent t [⟨h.src, 0x21, (s.peer h.src).txSeq + 1, 1, h.seq, [tg, St.FAIL_DENIED, 0, 0]⟩, ackOfFrame h]
        ∧ (t.peer h.src).rxSeq = h.seq ∧ OnlyChanges [.regs, .out, .fab, .hlk] s t) ∧
      (∀ k, h.src = s.manager → s.isManager = false → s.freeTag = some k → s.blockRefusal Blk.ARB 1 = none →
        ∃ t, exec (.limit h (tg :: pool :: a :: lim :: r)) s = .next t ∧ (t.slot k).st = .active
          ∧ (t.slot k).block = Blk.ARB ∧ (t.slot k).opcode = 1 ∧ (t.slot k).ctx = 0
          ∧ (t.slot k).param = BitVec.ofNat 384 (pool % 256 + lim * 2 ^ 32)
          ∧ tfind? t.hlk.serving k = some (h.src, tg) ∧ s.Acked t h ∧ OnlyChanges [.regs, .out, .fab, .opt, .hlk] s t)) ∧
    (∀ k st a v r, s.TakesNext h → k < 512 → (s.slot k).st = .active → (s.slot k).block = Blk.HLK →
      ((s.slot k).opcode = 4 ∨ (s.slot k).opcode = 5) → tfind? s.hlk.serving k = none →
      ∃ t, exec (.result h ((k + (s.slot k).gen * 512) :: st :: a :: v :: r)) s = .next t ∧ t.Ended k st (BitVec.ofNat 32 v)
        ∧ s.Acked t h ∧ OnlyChanges [.regs, .out, .fab, .opt, .scn, .hlk] s t) ∧
    (∀ k x e m, tfind? s.hlk.serving k = none → (e = 4 ∨ e = 5) → s.activeOp k Blk.HLK e = some x →
      s.hlk.asked.contains x.ord = false → m = paramField x.param 0 1 →
      (s.isManager = false → ∃ t, exec (if e = 4 then .remoteStake k x.param else .remoteLimit k) s = .next t
        ∧ t.Ended k St.FAIL_DENIED 0 ∧ OnlyChanges [.opt, .scn] s t) ∧
      (s.isManager = true → s.sup.roleStrap ≠ 0 → x.ctx = 0 → m ≤ 63 → s.memSt m ≠ 2 →
        ∃ t, exec (if e = 4 then .remoteStake k x.param else .remoteLimit k) s = .next t
          ∧ t.Ended k (if s.memSt m = 4 then St.FAIL_CONFLICT else St.FAIL_STATION_LOST) 0 ∧ OnlyChanges [.opt, .scn] s t) ∧
      (s.isManager = true → s.sup.roleStrap ≠ 0 → x.ctx = 0 → m ≤ 63 → s.memSt m = 2 → s.linkOpen = true →
        (s.peer m).unacked.length < 64 →
        (e = 4 → ∀ p, ∃ t, exec (.remoteStake k p) s = .next t ∧ s.Sent t [⟨m, 0x20, (s.peer m).txSeq + 1, 1, (s.peer m).rxSeq,
            [paramField x.param 1 1, 0, k + x.gen * 512, 0, 0, p.toNat]⟩]
          ∧ s.Queued t m 0x20 [paramField x.param 1 1, 0, k + x.gen * 512, 0, 0, p.toNat] [k]
          ∧ OnlyChanges [.regs, .out, .fab, .hlk] s t) ∧
        (e = 5 → ∃ t, exec (.remoteLimit k) s = .next t
          ∧ s.Queued t m 0x22 [k + x.gen * 512, paramField x.param 1 1, 0, paramField x.param 4 4] [k]
          ∧ OnlyChanges [.regs, .out, .fab, .hlk] s t)))

/-- Placement. A planned move begins with PLACE to the new host and UNPLACE to the old one at an X ten cycles ahead (R421); the
new host binds, holds its starts from X on and gives up 200 ms later (R421); the old one leaves at X (R421); PLACED completes
the MOVE (R421); a checkpoint is taken once a second, sent, and kept when it is whole and its CRC-32 fits (R419); a pin is
recorded (R418). Replicas and the first placement. A replica is kept pending and acknowledged, promoted by its commit or by a
report, sent back when it is fetched (R384 to R386); placement begins once every member is UP (R418), here with no unit to
place. Each of these forms completes here, in a next state: place, placed, checkpoint, unplace, replicaPut, replicaAck,
replicaCommit, replicaReport, replicaFetch, replicaData, placeAll, checkpointTake, unitMoveAtX, moveTimeout, move, pin. -/
def Obligations.UnitsAndReplicas : Prop :=
  (∀ (s : State) (h : LinkHdr) (u j : Nat) (i : UnitInfo), s.Up → s.linkOpen = true → s.unitOf u = some j → s.hlk.infos[j]? = some i →
    (∀ a b x cp gen r, s.TakesNext h → h.src = s.manager → s.isManager = false → (s.unitRoot i).isSome = true →
      s.hostedAt j = none → s.slotsOf i = [] → x ≠ 0 → ∃ t, exec (.place h (u :: a :: b :: x :: cp :: gen :: r)) s = .next t
        ∧ t.hostedAt j = some ⟨j, .bound, x, gen, none, ((tfind? s.hlk.cps u).map (·.seq)).getD 0, 0, 0⟩ ∧ s.Acked t h
        ∧ t.num Reg.HLK_PLACE_GEN = gen % 2 ^ 32 ∧ OnlyChanges [.regs, .out, .fab, .hlk] s t) ∧
    (∀ n a b x cp gen r, s.TakesNext h → h.src = s.manager → s.isManager = false → s.unitOf n = none → (s.peer h.src).unacked = [] →
      ∃ t, exec (.place h (n :: a :: b :: x :: cp :: gen :: r)) s = .next t ∧ s.Queued t h.src 0x31 [n, St.FAIL_INVALID, 0, gen] []
        ∧ s.Sent t [⟨h.src, 0x31, (s.peer h.src).txSeq + 1, 1, h.seq, [n, St.FAIL_INVALID, 0, gen]⟩, ackOfFrame h] ∧ OnlyChanges [.regs, .out, .fab, .hlk] s t) ∧
    (∀ k a r, s.TakesNext h → s.isManager = true → (s.unitRow j).host = some h.src → (s.unitRow j).st = 3 →
      (s.unitRow j).moveTag = some k → (s.slot k).st = .active → (s.slot k).block = Blk.HLK → tfind? s.hlk.serving k = none →
      ∃ t, exec (.placed h (u :: St.OK :: a :: r)) s = .next t ∧ t.Ended k St.OK 0
        ∧ t.unitRow j = { s.unitRow j with st := 2, old := none, moveTag := none } ∧ t.flag (Reg.IRQ_STAT Blk.HLK) 4 = true
        ∧ t.num Reg.HLK_MOVE_CNT = Nat.min (s.num Reg.HLK_MOVE_CNT + 1) (2 ^ 32 - 1) ∧ s.Acked t h
        ∧ OnlyChanges [.regs, .out, .fab, .opt, .scn, .hlk] s t) ∧
    (∀ x d e r, s.TakesNext h → h.src = s.manager → s.isManager = false → s.hostedAt j = some e → x ≠ 0 →
      ∃ t, exec (.unplace h (u :: x :: d :: r)) s = .next t ∧ t.hostedAt j = some { e with x := x, dest := moduleOf d }
        ∧ s.Acked t h ∧ OnlyChanges [.regs, .out, .fab, .hlk] s t) ∧
    (∀ n seq ch crc a d, s.TakesNext h → s.hlk.cpParts = [] → s.hlk.cps = [] → s.unitOf n = none → d.length ≤ 2 ^ 28 →
      (crc32 (d.map (BitVec.ofNat 8)) = crc → ∃ t, exec (.checkpoint h (n :: seq :: ch :: d.length :: 0 :: crc :: a :: d)) s = .next t
        ∧ t.hlk.cps = [(n, ⟨n, seq, ch, d.length, crc, d.map (BitVec.ofNat 8)⟩)] ∧ t.fld Reg.HLK_CP_STORE 16 16 = 1 ∧ s.Acked t h
        ∧ OnlyChanges [.regs, .out, .fab, .hlk] s t) ∧
      (crc32 (d.map (BitVec.ofNat 8)) ≠ crc → ∃ t, exec (.checkpoint h (n :: seq :: ch :: d.length :: 0 :: crc :: a :: d)) s = .next t
        ∧ t.hlk.cps = [] ∧ t.hlk.cpParts = [] ∧ s.Acked t h ∧ OnlyChanges [.regs, .out, .fab, .hlk] s t)) ∧
    (∀ e c m, s.coreUp 1 = true → s.hostedAt j = some e → e.phase = .running → s.taskBusy i.task = false → e.sec ≠ (s.tb 2).sec → s.makeCp i e = some c →
      s.holders = [m] → m ≤ 63 → c.data.length ≤ 1408 → ∃ t, exec (.checkpointTake j) s = .next t
        ∧ t.hostedAt j = some { e with seq := c.seq, sec := (s.tb 2).sec } ∧ t.num (Reg.HLK_Uu_CP_SEQ j) = c.seq % 2 ^ 32
        ∧ t.num (Reg.HLK_Uu_CP_CHAIN j) = c.ch % 2 ^ 32
        ∧ s.Queued t m 0x32 ([c.key, c.seq, c.ch, c.data.length, 0, crc32 c.data, 0] ++ c.data.map BitVec.toNat) []
        ∧ OnlyChanges [.regs, .out, .fab, .hlk] s t) ∧
    (∀ e, s.hostedAt j = some e → e.x ≠ 0 → e.x ≤ s.chain →
      (e.phase = .bound → (s.unitRoot i).isSome = true → ∃ t, exec (.unitMoveAtX j) s = .next t
        ∧ t.hostedAt j = some { e with phase := .held, xClk := s.clk }) ∧
      (e.phase = .running → s.taskBusy i.task = true → ∃ t, exec (.unitMoveAtX j) s = .next t
        ∧ t.hostedAt j = some { e with phase := .leaving } ∧ (t.taskRt i.task).dormant = true
        ∧ OnlyChanges [.regs, .scn, .hlk] s t)) ∧
    (∀ e, s.Alone → s.coreUp 1 = true → s.hostedAt j = some e → e.phase = .held → e.xClk + 200 * msClk ≤ s.clk → s.isManager = false → s.slotsOf i = [] →
      s.taskBusy i.task = false → ∃ t, exec (.moveTimeout j) s = .next t ∧ t.hostedAt j = none
        ∧ s.Queued t s.manager 0x31 [i.key, St.FAIL_TIMEOUT, 0, e.gen] []) ∧
    (∀ k x r m, tfind? s.hlk.serving k = none → s.activeOp k Blk.HLK 2 = some x → s.hlk.asked.contains x.ord = false →
      paramField x.param 0 4 = u → m = paramField x.param 4 1 → r = s.unitRow j →
      (s.isManager = false → ∃ t, exec (.move k) s = .next t ∧ t.Ended k St.FAIL_DENIED 0 ∧ OnlyChanges [.opt, .scn] s t) ∧
      (s.isManager = true → s.sup.roleStrap ≠ 0 → x.ctx = 0 →
        (s.candidate i m = false → ∃ t, exec (.move k) s = .next t ∧ t.Ended k St.FAIL_INVALID 0 ∧ OnlyChanges [.opt, .scn] s t) ∧
        (s.candidate i m = true → r.host = some m → r.st = 2 → ∃ t, exec (.move k) s = .next t ∧ t.Ended k St.OK 0
          ∧ OnlyChanges [.opt, .scn] s t) ∧
        (s.candidate i m = true → r.st = 3 → ∃ t, exec (.move k) s = .next t ∧ t.Ended k St.FAIL_CONFLICT 0
          ∧ OnlyChanges [.opt, .scn] s t) ∧
        (∀ o X, s.candidate i m = true → r.host = some o → r.st = 2 → o ≠ m → o ≠ s.sup.moduleNum → m ≠ s.sup.moduleNum →
          X = s.chain + 10 * 65536 → ∃ t, exec (.move k) s = .next t
            ∧ t.unitRow j = { r with host := some m, st := 3, old := some o, x := X, moveTag := some k }
            ∧ t.num Reg.HLK_PLACE_GEN = (s.num Reg.HLK_PLACE_GEN + 1) % 2 ^ 32
            ∧ s.Queued t m 0x30 [i.key, i.task, 0, X, 0xFFFFFFFF, t.num Reg.HLK_PLACE_GEN] []
            ∧ s.Queued t o 0x33 [i.key, X, m] [] ∧ (t.slot k) = s.slot k))) ∧
    (∀ k x p hst, tfind? s.hlk.serving k = none → s.activeOp k Blk.HLK 3 = some x → s.hlk.asked.contains x.ord = false →
      s.isManager = true → s.sup.roleStrap ≠ 0 → x.ctx = 0 → paramField x.param 0 4 = u → p = moduleOf (paramField x.param 4 1) →
      (s.unitRow j).host = some hst → (p = none ∨ p = some hst) → ∃ t, exec (.pin k) s = .next t
        ∧ t.unitRow j = { s.unitRow j with pin := p } ∧ t.Ended k St.OK 0)) ∧
  (∀ (s : State) (h : LinkHdr) (obj ver : Nat), s.Up →
    (∀ a d, s.TakesNext h → s.sto.parts = [] → d.length < 0xFFFFFFFF → ∃ t,
      exec (.replicaPut h (obj :: ver :: d.length :: 0 :: a :: d)) s = .next t
        ∧ t.sto.pendRep = dropReplica s.sto.pendRep h.src obj ++ [⟨h.src, obj, ver, some (d.map (BitVec.ofNat 8))⟩]
        ∧ s.Sent t [⟨h.src, 0x41, 0, 0, h.seq, [obj, ver, St.OK, 0]⟩, ackOfFrame h] ∧ (t.peer h.src).rxSeq = h.seq
        ∧ OnlyChanges [.regs, .out, .fab, .hlk, .sto] s t) ∧
    (∀ o r, s.Takes h → s.stoPeer = some h.src → s.sto.writes = [] → s.stoObj obj = some o → o.ver = ver → s.sto.unrep = [obj] →
      (s.peer h.src).unacked = [] → ∃ t, exec (.replicaAck h (obj :: ver :: St.OK :: r)) s = .next t ∧ t.sto.unrep = []
        ∧ t.stoObj obj = some { o with localOnly := false } ∧ s.Queued t h.src 0x42 [obj, ver] []
        ∧ t.flag Reg.STO_STAT 3 = false ∧ t.flag (Reg.IRQ_STAT Blk.STO) 5 = true
        ∧ OnlyChanges [.regs, .out, .fab, .hlk, .sto] s t) ∧
    (∀ b r, s.TakesNext h → s.sto.pendRep = [⟨h.src, obj, ver, some b⟩] → s.sto.replicas = [] →
      ∃ t, exec (.replicaCommit h (obj :: ver :: r)) s = .next t ∧ t.sto.replicas = [⟨h.src, obj, ver, some b⟩]
        ∧ t.sto.pendRep = [] ∧ s.Acked t h ∧ OnlyChanges [.regs, .out, .fab, .hlk, .sto] s t) ∧
    (∀ b o2 v2 d2, s.TakesNext h → h.more = false → o2 ≠ obj → s.sto.replicas = [] →
      s.sto.pendRep = [⟨h.src, obj, ver, some b⟩, ⟨h.src, o2, v2, d2⟩] →
      ∃ t, exec (.replicaReport h [obj, ver]) s = .next t ∧ t.sto.replicas = [⟨h.src, obj, ver, some b⟩]
        ∧ t.sto.pendRep = [] ∧ s.Acked t h ∧ OnlyChanges [.regs, .out, .fab, .hlk, .sto] s t) ∧
    (∀ b r, s.TakesNext h → (s.peer h.src).unacked = [] →
      (s.sto.replicas = [⟨h.src, obj, ver, some b⟩] → b.length ≤ 1416 →
        ∃ t, exec (.replicaFetch h (obj :: ver :: r)) s = .next t
          ∧ s.Queued t h.src 0x45 ([obj, ver, b.length, 0, 0] ++ b.map BitVec.toNat) []
          ∧ s.Sent t [⟨h.src, 0x45, (s.peer h.src).txSeq + 1, 1, h.seq, ([obj, ver, b.length, 0, 0] ++ b.map BitVec.toNat)⟩, ackOfFrame h]
          ∧ (t.peer h.src).rxSeq = h.seq
          ∧ OnlyChanges [.regs, .out, .fab, .hlk] s t) ∧
      (s.sto.replicas = [] → ∃ t, exec (.replicaFetch h (obj :: ver :: r)) s = .next t
        ∧ s.Queued t h.src 0x45 [obj, ver, 0xFFFFFFFF, 0, 0] []
          ∧ s.Sent t [⟨h.src, 0x45, (s.peer h.src).txSeq + 1, 1, h.seq, [obj, ver, 0xFFFFFFFF, 0, 0]⟩, ackOfFrame h]
          ∧ (t.peer h.src).rxSeq = h.seq ∧ OnlyChanges [.regs, .out, .fab, .hlk] s t)) ∧
    (∀ o old c1 c2 a d, s.TakesNext h → s.stoPeer = some h.src → s.sto.parts = [] → s.sto.reads = [] → d.length < 0xFFFFFFFF →
      s.stoObj obj = some o → o.body = .whole old c1 c2 → ∃ t,
        exec (.replicaData h (obj :: ver :: d.length :: 0 :: a :: d)) s = .next t
          ∧ t.stoObj obj = some { o with damaged := false, body := .whole (d.map (BitVec.ofNat 8)) c1 c2 }
          ∧ t.num Reg.STO_REPLICA_FETCH_CNT = Nat.min (s.num Reg.STO_REPLICA_FETCH_CNT + 1) (2 ^ 32 - 1) ∧ s.Acked t h
          ∧ OnlyChanges [.regs, .out, .fab, .hlk, .sto] s t) ∧
    (s.coreUp 1 = true → s.linkOpen = true → s.isManager = true → s.hlk.placed = false → s.others.all s.memberUp = true → s.hlk.infos = [] →
      exec .placeAll s = .next { s with hlk := { s.hlk with placed := true } }))

/-! ### FAB and NTU -/

/-- Forwarding. A frame with a bad FCS is counted and dropped (R449), a management frame from the wrong side too (R441); a known
unicast frame is learned and queued at its port in its class (R438, R439, R441, R442); a storm drop is counted (R445); the
head of the highest class leaves (R443); an entry ages out (R439); drops in HOLD windows block a port, BLOCK_TIME or a write
of EN ends that (R446, R469). Links. LINK_CHANGE shows link and speed and counts a loss (R437, R449); an uplink in auto mode
tries the other mode (R437); LPI begins after IDLE and ends HOLDOFF after a frame (R450); LLDP gives the Tw in use and its
timeout takes it back (R451); an MDIO transaction sets BUSY, is refused while BUSY, and its end gives the data (R468). Each of
these forms completes here, in a next state: portFrameRx, frameTransmit, macAge, portBlock, portUnblock, fabPortEnWrite,
linkChange, uplinkModeTry, lpiEnter, lpiHoldoffEnd, lldpTx, lldpRx, lldpTimeout, mdioCmd, mdioDone. -/
def Obligations.ForwardingAndLinks : Prop :=
  (∀ (s : State) (p : Nat) (f : EthFrame), s.Up → p < 50 → s.flag (Reg.FAB_PnSTAT p) 0 = true → s.flag (Reg.FAB_PnSTAT p) 3 = false →
    s.flag (Reg.FAB_PnCFG p) 0 = true →
    (f.fcsOk = false → 64 ≤ f.len → f.len ≤ s.maxFrame → ∃ t, exec (.portFrameRx p f) s = .next t
      ∧ t.num (Reg.FAB_PnCNTk p 4) = (s.num (Reg.FAB_PnCNTk p 4) + 1) % 2 ^ 32
      ∧ t.num (Reg.FAB_PnCNTk p 0) = (s.num (Reg.FAB_PnCNTk p 0) + f.len) % 2 ^ 32 ∧ OnlyChanges [.regs, .out] s t) ∧
    (s.goodFrame f = true → f.etype = 0x88B5 → 48 ≤ p → ∃ t, exec (.portFrameRx p f) s = .next t
      ∧ t.num (Reg.FAB_PnCNTk p 19) = (s.num (Reg.FAB_PnCNTk p 19) + 1) % 2 ^ 32
      ∧ (s.en Blk.LCP = true → t.num Reg.LCP_RXERR_CNT = Nat.min (s.num Reg.LCP_RXERR_CNT + 1) (2 ^ 32 - 1))
      ∧ OnlyChanges [.regs, .out] s t) ∧
    (∀ ep fr, ep < 5 → fr.len ≤ 2048 → s.fab.queues = [] → s.flag (Reg.FAB_PnSTAT p) 6 = false →
      (s.sendInternal ep none [p] fr).fabQueue p 7 = [⟨s.fab.nextId, fr, 50 + ep, true, none, none⟩]
        ∧ OnlyChanges [.regs, .fab] s (s.sendInternal ep none [p] fr)) ∧
    (∀ vid pcp q c, s.goodFrame f = true → s.plainSwitch = false → s.flag (Reg.FAB_PnSTAT p) 4 = false → f.etype ≠ 0x8808 →
      mgmtFrom f.etype p = none → f.tag = none → vid = fixVid (s.fld (Reg.FAB_PnCFG p) 16 12) →
      pcp = s.fld (Reg.FAB_PnCFG p) 28 3 → c = s.pcpClass pcp → s.vlanPass p vid f = true →
      (s.fdbAt vid f.src = none → (s.bucketOf vid f.src).length < 4 → s.flag Reg.FAB_CFG 16 = true →
        s.flag (Reg.FAB_PnCFG p) 1 = true → isGroup f.src = false → f.dst ≠ f.src → f.dst ≠ bcast → isGroup f.dst = false →
        (s.fdbAt vid f.dst).isSome = true → s.fab.queues = [] → s.flag (Reg.FAB_EPe_CFG 3) 0 = false →
        s.flag (Reg.FAB_EPe_CFG 4) 0 = false → s.egressPorts p vid f = [q] → s.portPasses q true = true → q < 50 →
        ∃ t, exec (.portFrameRx p f) s = .next t ∧ t.fdbAt vid f.src = some ⟨false, 2 ^ p, s.clk⟩
          ∧ t.fab.queues = [(8 * q + c, [⟨s.fab.nextId, s.retag q vid pcp false f, p, false, none, none⟩])]
          ∧ t.num (Reg.FAB_PnCNTk p 17) = (s.num (Reg.FAB_PnCNTk p 17) + 1) % 2 ^ 32 ∧ OnlyChanges [.regs, .out, .fab] s t) ∧
      (∀ rate burst, f.dst = bcast → s.fdbAt vid f.src = none → rate = s.fld (Reg.FAB_PnSTORM_BC p) 0 20 → rate ≠ 0 →
        burst = Nat.max 1 (s.fld (Reg.FAB_PnSTORM_BC p) 20 12) → s.takeBucket (4 * p) rate burst 1 = none →
        ∃ t, exec (.portFrameRx p f) s = .next t ∧ t.num (Reg.FAB_PnCNTk p 21) = (s.num (Reg.FAB_PnCNTk p 21) + 1) % 2 ^ 32
          ∧ t.fab.queues = s.fab.queues ∧ t.fab.fdb = s.fab.fdb ∧ OnlyChanges [.regs, .out, .fab] s t)) ∧
    (∀ c q rest, s.nextClass p = some c → s.fabQueue p c = q :: rest → q.op = none → q.ptp = none → tget (fun _ => 0) s.fab.wakeClk p ≤ s.clk →
      ∃ t, exec (.frameTransmit p) s = .next t ∧ t.out.getLast? = some (.ethFrame p q.frame) ∧ t.fabQueue p c = rest
        ∧ t.num (Reg.FAB_PnCNTk p 27) = (s.num (Reg.FAB_PnCNTk p 27) + 1) % 2 ^ 32 ∧ OnlyChanges [.regs, .out, .fab] s t) ∧
    (∀ vid mac e, s.fdbAt vid mac = some e → (e.static = false → s.fld Reg.FAB_CFG 24 8 ≠ 0 →
      e.clk + s.fld Reg.FAB_CFG 24 8 * 10 * secClk ≤ s.clk → ∃ t, exec (.macAge vid mac) s = .next t ∧ t.fdbAt vid mac = none
        ∧ (∀ k, k ≠ fdbKey vid mac → tfind? t.fab.fdb k = tfind? s.fab.fdb k) ∧ OnlyChanges [.regs, .fab] s t
        ∧ OnlyRegs [Reg.FAB_FDB_USED] s t) ∧
      (e.static = true → exec (.macAge vid mac) s = .next s)) ∧
    (∀ w run, s.plainSwitch = false → s.flag (Reg.FAB_PnSTORM_ACT p) 0 = true → tfind? s.fab.windows p = some (w, run) →
      Nat.max 1 (s.fld (Reg.FAB_PnSTORM_ACT p) 8 8) ≤ run → w < s.clk / (10 * msClk) → s.flag (Reg.FAB_PnSTAT p) 4 = false →
      ∃ t, exec (.portBlock p) s = .next t ∧ t.flag (Reg.FAB_PnSTAT p) 4 = true
        ∧ t.fld (Reg.FAB_PnSTAT p) 16 16 = s.fld (Reg.FAB_PnSTORM_ACT p) 16 16
        ∧ t.flag (if p < 32 then Reg.FAB_BLOCKED_LO else Reg.FAB_BLOCKED_HI) (p % 32) = true
        ∧ t.flag (Reg.IRQ_STAT Blk.FAB) 4 = true ∧ OnlyChanges [.regs, .out, .fab] s t) ∧
    (∀ c n, tfind? s.fab.blockClk p = some c → n = s.fld (Reg.FAB_PnSTAT p) 16 16 → n ≠ 0 → c + n * secClk ≤ s.clk →
      ∃ t, exec (.portUnblock p) s = .next t ∧ t.flag (Reg.FAB_PnSTAT p) 4 = false ∧ t.fld (Reg.FAB_PnSTAT p) 16 16 = 0
        ∧ OnlyChanges [.regs, .fab] s t) ∧
    (∀ rq v, s.Passes rq (Reg.FAB_PnCFG p) → ∃ t, exec (.fabPortEnWrite rq p v) s = .next t
      ∧ t.flag (Reg.FAB_PnCFG p) 0 = bitOf v.toNat 0 ∧ t.flag (Reg.FAB_PnSTAT p) 4 = false
      ∧ t.fld (Reg.FAB_PnCFG p) 16 12 = fixVid (bitsOf v.toNat 16 12) ∧ OnlyChanges [.regs, .fab] s t)) ∧
  (∀ (s : State) (p : Nat), s.Up → p < 48 →
    (∀ sp eee, sp < 4 → s.flag (Reg.FAB_PnSTAT p) 0 = false → ∃ t, exec (.linkChange p true false sp eee) s = .next t
      ∧ t.flag (Reg.FAB_PnSTAT p) 0 = true ∧ t.fld (Reg.FAB_PnSTAT p) 1 2 = sp ∧ t.flag (Reg.FAB_PnSTAT p) 3 = false
      ∧ t.flag (if p < 32 then Reg.FAB_LINK_LO else Reg.FAB_LINK_HI) (p % 32) = true
      ∧ t.flag (Reg.IRQ_STAT Blk.FAB) 1 = true ∧ OnlyChanges [.regs, .out, .fab] s t) ∧
    (∀ sp eee, s.flag (Reg.FAB_PnSTAT p) 0 = true → s.fab.queues = [] → ∃ t, exec (.linkChange p false false sp eee) s = .next t
      ∧ t.flag (Reg.FAB_PnSTAT p) 0 = false ∧ t.fld (Reg.FAB_PnSTAT p) 1 2 = 0
      ∧ t.num (Reg.FAB_PnCNTk p 39) = (s.num (Reg.FAB_PnCNTk p 39) + 1) % 2 ^ 32 ∧ t.flag (Reg.FAB_PnSTAT p) 5 = false
      ∧ OnlyChanges [.regs, .out, .fab] s t) ∧
    (∀ u m c, (u = 48 ∨ u = 49) → s.flag (Reg.FAB_PnSTAT u) 0 = false → s.fld (Reg.FAB_PnCFG u) 8 2 = 0 →
      tfind? s.fab.pcs u = some (m, c) → c + 500 * msClk ≤ s.clk →
      exec (.uplinkModeTry u) s = .next { s with fab := { s.fab with pcs := tput s.fab.pcs u (3 - m, s.clk) } }) ∧
    (s.flag (Reg.FAB_PnSTAT p) 5 = true → s.flag (Reg.FAB_PnSTAT p) 6 = false → (∀ c, c < 8 → s.fabQueue p c = []) →
      tget (fun _ => 0) s.fab.idleClk p + s.fld (Reg.FAB_PnEEE p) 8 8 * 800 ≤ s.clk → s.Alone → ∃ t, exec (.lpiEnter p) s = .next t
        ∧ t.flag (Reg.FAB_PnSTAT p) 6 = true ∧ t.num (Reg.FAB_PnCNTk p 35) = (s.num (Reg.FAB_PnCNTk p 35) + 1) % 2 ^ 32
        ∧ tfind? t.fab.lpiClk p = some s.clk ∧ OnlyChanges [.regs, .out, .fab] s t) ∧
    (∀ c, tfind? s.fab.waitClk p = some c → c + s.fld (Reg.FAB_PnEEE p) 16 8 * 800 ≤ s.clk → s.flag (Reg.FAB_PnSTAT p) 6 = true →
      ∃ t, exec (.lpiHoldoffEnd p) s = .next t ∧ t.flag (Reg.FAB_PnSTAT p) 6 = false ∧ tfind? t.fab.waitClk p = none
        ∧ tfind? t.fab.wakeClk p = some (s.clk + s.fld (Reg.FAB_PnEEE_TW p) 0 16 * 80) ∧ OnlyChanges [.regs, .out, .fab] s t) ∧
    (∀ tw, s.flag (Reg.FAB_PnEEE p) 1 = true → s.portPasses p true = true → s.fab.queues = [] →
      tw = (s.fld (Reg.FAB_PnEEE_TW p) 0 16 + 9) / 10 →
      (tfind? s.fab.lldpSent p = none → ∃ t, exec (.lldpTx p) s = .next t ∧ tfind? t.fab.lldpSent p = some (s.clk, tw)
        ∧ t.fab.queues = [(8 * p + 6, [⟨s.fab.nextId, s.lldpFrame p tw, 54, false, none, none⟩])]
        ∧ OnlyChanges [.regs, .fab] s t) ∧
      (∀ c, tfind? s.fab.lldpSent p = some (c, tw) → s.clk < c + 30 * secClk → exec (.lldpTx p) s = .next s)) ∧
    (∀ tx rx, s.flag (Reg.FAB_PnEEE p) 1 = true → ∃ t, exec (.lldpRx p tx rx) s = .next t
      ∧ t.fld (Reg.FAB_PnEEE_TW p) 16 16 = Nat.min 65535 (10 * rx)
      ∧ t.fld (Reg.FAB_PnEEE_TW p) 0 16 = Nat.max (s.twSys p) (Nat.min 65535 (10 * rx)) ∧ tfind? t.fab.lldpClk p = some s.clk
      ∧ OnlyChanges [.regs, .out, .fab] s t) ∧
    (∀ c, tfind? s.fab.lldpClk p = some c → c + 120 * secClk ≤ s.clk → ∃ t, exec (.lldpTimeout p) s = .next t
      ∧ t.fld (Reg.FAB_PnEEE_TW p) 0 16 = s.twSys p ∧ tfind? t.fab.lldpClk p = none ∧ OnlyChanges [.regs, .out, .fab] s t) ∧
    (∀ rq v, s.Passes rq Reg.FAB_MDIO_CMD → s.flag Reg.FAB_MDIO_DATA 16 = false → bitsOf v.toNat 10 3 < 5 →
      ∃ t, exec (.mdioCmd rq v) s = .next t ∧ t.out = s.out ++ [.mdio v.toNat] ∧ t.flag Reg.FAB_MDIO_DATA 16 = true
        ∧ t.num Reg.FAB_MDIO_CMD = v.toNat &&& 0xFFFF1FFF ∧ OnlyChanges [.regs, .out] s t
        ∧ OnlyRegs [Reg.FAB_MDIO_CMD, Reg.FAB_MDIO_DATA] s t) ∧
    (∀ rq v, s.Passes rq Reg.FAB_MDIO_CMD → s.flag Reg.FAB_MDIO_DATA 16 = true → ∃ t, exec (.mdioCmd rq v) s = .next t
      ∧ t.reg Reg.FAB_MDIO_CMD = s.reg Reg.FAB_MDIO_CMD ∧ t.fld (Reg.ERR_CODE Blk.FAB) 0 8 = St.FAIL_CONFLICT) ∧
    (∀ d, s.flag Reg.FAB_MDIO_DATA 16 = true → ∃ t, exec (.mdioDone d) s = .next t ∧ t.flag Reg.FAB_MDIO_DATA 16 = false
      ∧ (s.fld Reg.FAB_MDIO_CMD 10 3 = 0 → t.fld Reg.FAB_MDIO_DATA 0 16 = d % 65536)
      ∧ (s.fld Reg.FAB_MDIO_CMD 10 3 = 1 → t.fld Reg.FAB_MDIO_DATA 0 16 = s.fld Reg.FAB_MDIO_DATA 0 16)
      ∧ OnlyChanges [.regs] s t ∧ OnlyRegs [Reg.FAB_MDIO_DATA] s t))

/-- FAB's operations (R466). FRAME_TX queues the frame and completes once it has left, a disabled endpoint and a management
EtherType are refused; FRAME_RX waits for a frame and completes with it (R448); the FDB operations put, delete, flush and read
entries (R439). Each of these forms completes here, in a next state: frameTransmit, fabFrameTx, frameRx, fdbAdd, fdbDel,
fdbFlush, fdbRead. -/
def Obligations.FabricOperations : Prop :=
  ∀ (s : State) (k : Nat) (x : Slot), s.Up → tfind? s.hlk.serving k = none →
    (∀ d f vid q c, s.activeOp k Blk.FAB 1 = some x → paramField x.param 0 1 = 3 → d.length = paramField x.param 16 2 →
      60 ≤ d.length → d.length ≤ s.maxFrame - 4 → bitOf (paramField x.param 1 1) 0 = false → s.fab.tx = [] →
      s.txWaits k 3 = false → f = hostFrame d →
      (s.flag (Reg.FAB_EPe_CFG 3) 0 = false → ∃ t, exec (.fabFrameTx k d) s = .next t ∧ t.Ended k St.FAIL_DENIED 0
        ∧ OnlyChanges [.opt, .scn] s t) ∧
      (s.flag (Reg.FAB_EPe_CFG 3) 0 = true → (mgmtFrom f.etype 0).isSome = true → ∃ t, exec (.fabFrameTx k d) s = .next t
        ∧ t.Ended k St.FAIL_DENIED 0 ∧ t.num (Reg.FAB_EPe_DROP 3) = Nat.min (s.num (Reg.FAB_EPe_DROP 3) + 1) (2 ^ 32 - 1)
        ∧ OnlyChanges [.regs, .opt, .scn] s t) ∧
      (s.flag (Reg.FAB_EPe_CFG 3) 0 = true → s.flag (Reg.FAB_EPe_CFG 4) 0 = false → mgmtFrom f.etype 0 = none → f.tag = none →
        vid = fixVid (s.fld (Reg.FAB_EPe_CFG 3) 16 12) → c = s.pcpClass 0 → s.egressPorts 53 vid f = [q] →
        s.portPasses q true = true → s.fab.queues = [] → ∃ t, exec (.fabFrameTx k d) s = .next t
          ∧ t.fab.queues = [(8 * q + c, [⟨s.fab.nextId, s.retag q vid 0 false f, 53, false, some k, none⟩])]
          ∧ t.fab.tx = [⟨k, x.ord, [q], 0, 0, none, none⟩] ∧ t.slot k = s.slot k ∧ OnlyChanges [.regs, .fab] s t)) ∧
    (∀ (p c : Nat) (fr : Nat × EthFrame) (r : Bool), p < 50 → s.activeOp k Blk.FAB 1 = some x → bitOf (paramField x.param 1 1) 0 = false →
      s.nextClass p = some c →
      s.fabQueue p c = [⟨fr.1, fr.2, 53, r, some k, none⟩] → s.fab.tx = [⟨k, x.ord, [p], 0, 0, none, none⟩] →
      tget (fun _ => 0) s.fab.wakeClk p ≤ s.clk → ∃ t, exec (.frameTransmit p) s = .next t ∧ t.Ended k St.OK 1 ∧ t.fab.tx = []
        ∧ OnlyChanges [.regs, .out, .opt, .scn, .fab] s t) ∧
    (s.activeOp k Blk.FAB 2 = some x → (paramField x.param 0 1 = 3 ∨ paramField x.param 0 1 = 4) →
      s.maxFrame + 16 ≤ paramField x.param 16 2 → k < 512 →
      exec (.frameRx k) s = .next s ∧ k ∈ s.postedRx (paramField x.param 0 1)) ∧
    (∀ e p f l, p < 50 → s.postedRx e = k :: l → (s.slot k).st = .active → (s.slot k).block = Blk.FAB →
      (s.toEndpoint e p f).Ended k St.OK (BitVec.ofNat 32 (f.bytes.length % 65536 + p * 65536))) ∧
    (∀ vid mac, mac = beNat (leBytes 6 (paramField x.param 0 6)) → vid = paramField x.param 6 2 →
      (s.activeOp k Blk.FAB 3 = some x → (s.bucketOf vid mac).length < 4 → ∃ t, exec (.fdbAdd k) s = .next t
        ∧ t.fdbAt vid mac = some ⟨true, paramField x.param 8 8 % 2 ^ 55, s.clk⟩ ∧ t.Ended k St.OK 0
        ∧ (∀ j, j ≠ fdbKey vid mac → tfind? t.fab.fdb j = tfind? s.fab.fdb j) ∧ OnlyChanges [.regs, .opt, .scn, .fab] s t) ∧
      (s.activeOp k Blk.FAB 3 = some x → s.fdbAt vid mac = none → 4 ≤ (s.bucketOf vid mac).length →
        (∀ e ∈ s.bucketOf vid mac, e.2.static = true) → ∃ t, exec (.fdbAdd k) s = .next t ∧ t.Ended k St.FAIL_CONFLICT 0
          ∧ OnlyChanges [.opt, .scn] s t) ∧
      (s.activeOp k Blk.FAB 4 = some x → (s.fdbAt vid mac).isSome = true → ∃ t, exec (.fdbDel k) s = .next t
        ∧ t.fdbAt vid mac = none ∧ t.Ended k St.OK 0 ∧ (∀ j, j ≠ fdbKey vid mac → tfind? t.fab.fdb j = tfind? s.fab.fdb j)
        ∧ OnlyChanges [.regs, .opt, .scn, .fab] s t) ∧
      (s.activeOp k Blk.FAB 4 = some x → s.fdbAt vid mac = none → ∃ t, exec (.fdbDel k) s = .next t ∧ t.Ended k St.FAIL_INVALID 0
        ∧ OnlyChanges [.opt, .scn] s t)) ∧
    (s.activeOp k Blk.FAB 5 = some x → paramField x.param 0 1 = 0xFF → bitOf (paramField x.param 1 1) 0 = true →
      ∃ t, exec (.fdbFlush k) s = .next t ∧ t.fab.fdb = [] ∧ t.Ended k St.OK (BitVec.ofNat 32 s.fab.fdb.length)
        ∧ t.num Reg.FAB_FDB_USED = 0 ∧ OnlyChanges [.regs, .opt, .scn, .fab] s t) ∧
    (∀ l, s.activeOp k Blk.FAB 6 = some x → l = s.fab.fdb.take (paramField x.param 16 4) → ∃ t, exec (.fdbRead k) s = .next t
      ∧ t.Ended k St.OK (BitVec.ofNat 32 l.length) ∧ t.out = s.out ++ [.dma (paramField x.param 8 8) ((l.map fdbBytes).flatten)]
      ∧ OnlyChanges [.out, .opt, .scn] s t)

/-- PTP. A slave's Sync gives an offset less the mean path delay at once or with its Follow_Up, and the servo's rate or a step
(R454, R458); a delay response gives the mean path delay (R454); a master answers delay requests and sends Sync, Follow_Up and
Announce, without a timestamp entry no Follow_Up (R458, R461); the second Announce of a sender within four seconds makes it
TB0's master (R458). A timed message takes a timestamp entry and gives it back when it leaves (R459 to R461). Each of these
forms completes here, in a next state: frameTransmit, ptpSyncRx, ptpFollowUpRx, ptpDelayRespRx, ptpDelayReqRx, ptpAnnounceRx,
ptpSyncTx, ptpDelayReqTx, ptpAnnounceTx. -/
def Obligations.PtpMessages : Prop :=
  ∀ (s : State) (b p : Nat), s.Up → s.tbs.length = 4 →
    (∀ seq sec ns corr, s.ptpSlave b p = true →
      (exec (.ptpSyncRx b p seq true sec ns corr) s
        = .next (s.putServo b { s.servo b with sync := some (seq, s.rxTime p b - corr) })) ∧
      (exec (.ptpSyncRx b p seq false sec ns corr) s = .next (s.guarded (s.acceptSync b p (s.rxTime p b - corr) (nsOf sec ns)))) ∧
      (∀ t2, (s.servo b).sync = some (seq, t2) →
        exec (.ptpFollowUpRx b p seq sec ns corr) s = .next (s.guarded (s.acceptSync b p (t2 - corr) (nsOf sec ns)))) ∧
      (∀ q t2, (s.servo b).sync = some (q, t2) → q ≠ seq → exec (.ptpFollowUpRx b p seq sec ns corr) s = .next s) ∧
      (∀ t3, (s.servo b).delay = some (seq, t3) → exec (.ptpDelayRespRx b p seq sec ns corr) s
        = .next ((s.putServo b { s.servo b with delay := none }).setNum (Reg.NTU_TBn_MPD b)
          (((s.servo b).diff + (nsOf sec ns - corr - t3)) / 2).toNat))) ∧
    (∀ t2 t1 th i u, (b = 0 ∨ b = 2) → th = t2 - t1 - (s.num (Reg.NTU_TBn_MPD b) : Int) → u = s.acceptSync b p t2 t1 →
      u.num (Reg.NTU_TBn_OFFSET b) = unsigned 32 th ∧ (u.servo b).syncClk = some s.clk ∧ (u.servo b).sync = none
      ∧ u.flag (Reg.NTU_TBn_STAT b) 2 = false ∧ u.flag (Reg.NTU_TBn_STAT b) 4 = (p == 49)
      ∧ (s.stepsNow b th = false → i = (s.servo b).integ + (s.fld (Reg.NTU_TBn_SERVO b) 16 16 : Int) * th →
        (u.servo b).integ = i ∧ (u.tb b).rate = clampInt (-32768000) 32768000
          (-(((s.fld (Reg.NTU_TBn_SERVO b) 0 16 : Int) * th + i) * (2 ^ s.logRate b : Nat)) * 2 / 1000))
      ∧ (s.stepsNow b th = true → (u.tb b).time = (((s.tb b).time : Int) - th * (nsUnit : Nat)).toNat
        ∧ u.num (Reg.NTU_TBn_STEP_CNT b) = Nat.min (s.num (Reg.NTU_TBn_STEP_CNT b) + 1) (2 ^ 32 - 1)
        ∧ u.flag (Reg.IRQ_STAT Blk.NTU) 2 = true)) ∧
    (∀ seq sender, s.ptpMaster b p = true → exec (.ptpDelayReqRx b p seq sender) s
      = .next (s.ptpSend b p 9 seq false (ptpTime (s.rxTime p b) ++ beBytes 10 sender))) ∧
    (∀ q, s.ptpMaster b p = true → s.portPasses p false = true → q = ((s.servo b).txSeq + 1) % 65536 →
      s.fab.queues = [] → s.flag (Reg.FAB_PnSTAT p) 6 = false →
      (s.ptpDue b p 0 (secClk / 2 ^ s.logRate b) = true → (s.takeTs p).isSome = true → ∃ t fr, exec (.ptpSyncTx b p) s = .next t
        ∧ t.flag (Reg.NTU_TBn_STAT b) 3 = true ∧ t.fabQueue p 7 = [⟨s.fab.nextId, fr, 52, true, none, some (b, 0, q)⟩]
        ∧ fr.etype = 0x88F7 ∧ (t.servo b).txSeq = q ∧ tfind? t.ntu.sent (ptpKey b p 0) = some s.clk
        ∧ t.ptpDue b p 0 (secClk / 2 ^ s.logRate b) = false ∧ t.takeTs p ≠ s.takeTs p
        ∧ OnlyChanges [.regs, .fab, .ntu] s t) ∧
      (s.ptpDue b p 0 (secClk / 2 ^ s.logRate b) = true → s.takeTs p = none → s.Alone → ∃ t fr, exec (.ptpSyncTx b p) s = .next t
        ∧ t.fabQueue p 7 = [⟨s.fab.nextId, fr, 52, true, none, none⟩] ∧ t.flag (Reg.IRQ_STAT Blk.NTU) 4 = true
        ∧ t.num Reg.NTU_TSQ_LOST_CNT = Nat.min (s.num Reg.NTU_TSQ_LOST_CNT + 1) (2 ^ 32 - 1)
        ∧ OnlyChanges [.regs, .out, .fab, .ntu] s t) ∧
      (b = 1 → s.ptpDue b p 11 secClk = true → ∃ t fr, exec (.ptpAnnounceTx b p) s = .next t
        ∧ t.fabQueue p 7 = [⟨s.fab.nextId, fr, 52, true, none, none⟩] ∧ fr.dst = 0x011B19000000
        ∧ (fr.data.drop 34).take 24 = ptpTime 0 ++ beBytes 2 (s.fld Reg.NTU_UTC_OFFSET 0 16) ++ [0, 128, 248, 0xFE, 0xFF, 0xFF, 128]
          ++ beBytes 5 (Config.uid.toNat / 2 ^ 24) ∧ OnlyChanges [.regs, .fab, .ntu] s t)) ∧
    (∀ q, p = 48 + s.fld (Reg.NTU_TBn_STAT b) 4 1 → s.ptpSlave b p = true → s.portPasses p false = true →
      s.ptpDue b p 1 (secClk / 2 ^ s.logRate b) = true → s.fab.queues = [] → s.flag (Reg.FAB_PnSTAT p) 6 = false →
      q = ((s.servo b).txSeq + 1) % 65536 → (s.takeTs p).isSome = true → ∃ t fr, exec (.ptpDelayReqTx b) s = .next t
        ∧ (t.servo b).delay = none ∧ (t.servo b).txSeq = q ∧ t.fabQueue p 7 = [⟨s.fab.nextId, fr, 52, true, none, some (b, 1, q)⟩]
        ∧ OnlyChanges [.regs, .fab, .ntu] s t) ∧
    (∀ fr r q, p < 50 → b < 3 → s.nextClass p = some 7 → s.fabQueue p 7 = [⟨s.fab.nextId, fr, 52, r, none, some (b, 1, q)⟩] →
      tget (fun _ => 0) s.fab.wakeClk p ≤ s.clk → ∃ t, exec (.frameTransmit p) s = .next t
        ∧ (t.servo b).delay = some (q, s.txTime p b) ∧ .ethFrame p fr ∈ t.out
        ∧ t.fld Reg.NTU_TSQ_USED (tsqOf p).1 (tsqOf p).2.1 = s.fld Reg.NTU_TSQ_USED (tsqOf p).1 (tsqOf p).2.1 - 1
        ∧ OnlyChanges [.regs, .out, .fab, .ntu] s t) ∧
    (∀ data gm src utc v, (p = 48 ∨ p = 49) → s.en Blk.NTU = true → s.inSrst Blk.NTU = false →
      (s.ntu.foreign = [] → ∃ t, exec (.ptpAnnounceRx 0 p data ⟨gm, src⟩ utc v) s = .next t
        ∧ t.ntu.foreign = [⟨data, gm, src, p, 1, s.clk⟩] ∧ t.ntu.master = none ∧ OnlyChanges [.ntu] s t) ∧
      (∀ f, s.ntu.foreign = [f] → f.port = p → f.data.getLast? = data.getLast? → s.clk ≤ f.clk + 4 * secClk → 1 ≤ f.count →
        gm < 2 ^ 64 → ∃ t, exec (.ptpAnnounceRx 0 p data ⟨gm, src⟩ utc true) s = .next t
          ∧ t.ntu.master = some ⟨data, gm, src, p, f.count + 1, s.clk⟩ ∧ t.num64 Reg.NTU_GM_ID_LO = gm
          ∧ t.fld Reg.NTU_UTC_OFFSET 0 16 = utc % 65536 ∧ t.flag Reg.NTU_UTC_OFFSET 16 = true
          ∧ t.flag (Reg.NTU_TBn_STAT 0) 4 = (p == 49) ∧ (s.num64 Reg.NTU_GM_ID_LO ≠ gm → t.flag (Reg.IRQ_STAT Blk.NTU) 5 = true)
          ∧ OnlyChanges [.regs, .out, .ntu] s t))

/-- Bases and pulse generators. TB1 follows TB0's rate in steps of 0.1 ppm and TB3 keeps its offset (R456, R457); holdover runs on
the mean rate (R455); TB_SET steps a base and TB_ADJ slews it, both refused where the base is locked (R467); a generator
claims its resources together, gives its pulses and stops (R462, R463, R467). Each of these forms completes here, in a next
state: followUpdate, ptpHoldover, ntuPgEdge, tbSet, tbAdj, tbAdjComplete, ntuPgEnable, ntuPgDisable. -/
def Obligations.BasesAndGenerators : Prop :=
  ∀ s : State, s.Up → s.tbs.length = 4 → s.inSrst Blk.NTU = false →
    (∀ r, s.tbSource 1 = 2 → s.flag (Reg.NTU_TBn_STAT 0) 1 = true →
      tfind? s.ntu.follow 1 = none →
      r = clampInt (-32768000) 32768000 ((s.tb 1).rate + clampInt (-819) 819 ((s.tb 0).rate - (s.tb 1).rate)) →
      ∃ t, exec (.followUpdate 1) s = .next t ∧ (t.tb 1).rate = r ∧ (t.tb 1).time = (s.tb 1).time ∧ t.tb 0 = s.tb 0
        ∧ t.num (Reg.NTU_TBn_RATE 1) = unsigned 32 r ∧ tfind? t.ntu.follow 1 = some s.clk
        ∧ OnlyChanges [.regs, .tbs, .ntu] s t ∧ OnlyRegs [Reg.NTU_TBn_RATE 1] s t) ∧
    (∀ m, s.tbSource 3 = 2 → m = s.fld (Reg.NTU_TBn_CFG 3) 2 2 → m ≠ 3 →
      (∀ c, tfind? s.ntu.follow 3 = some c → c + 125 * msClk ≤ s.clk) → ∃ t, exec (.followUpdate 3) s = .next t
      ∧ (t.tb 3).time = (((s.tb m).time : Int) + s.ntu.tb3Off).toNat
      ∧ (t.tb 3).rate = clampInt (-32768000) 32768000 (s.tb m).rate ∧ t.tb m = s.tb m ∧ OnlyChanges [.regs, .out, .ntu, .tbs] s t) ∧
    (∀ b c c1 r, b < 3 → (s.servo b).syncClk = some c → s.tbSource b = 1 → s.flag (Reg.NTU_TBn_STAT b) 2 = false →
      c + 3 * secClk ≤ s.clk → (s.servo b).rates = [(c1, r)] → s.Alone → ∃ t, exec (.ptpHoldover b) s = .next t
        ∧ t.flag (Reg.NTU_TBn_STAT b) 2 = true ∧ t.flag (Reg.NTU_TBn_STAT b) 1 = false
        ∧ (t.tb b).rate = clampInt (-32768000) 32768000 r ∧ t.flag (Reg.IRQ_STAT Blk.NTU) 3 = true
        ∧ OnlyChanges [.regs, .out, .ntu, .tbs] s t) ∧
    (∀ g, g < 8 → s.flag (Reg.NTU_PGg_CFG g) 0 = true → s.pgEdge g ≤ (s.tb (s.fld (Reg.NTU_PGg_CFG g) 1 2)).total →
      s.fld (Reg.NTU_PGg_CFG g) 4 4 ≤ 3 → ∃ t, exec (.ntuPgEdge g) s = .next t
        ∧ t.num (Reg.NTU_PGg_INDEX g) = (s.num (Reg.NTU_PGg_INDEX g) + 1) % 2 ^ 32
        ∧ t.out = s.out ++ [.padPulse (0x1000 + s.fld (Reg.NTU_PGg_CFG g) 4 4) (s.num (Reg.NTU_PGg_WIDTH g))
          (!s.flag (Reg.NTU_PGg_CFG g) 8)]
        ∧ OnlyChanges [.regs, .out, .ntu] s t ∧ OnlyRegs [Reg.NTU_PGg_INDEX g] s t) ∧
    (∀ k x n, tfind? s.hlk.serving k = none → n = paramField x.param 0 1 → n ≤ 3 →
      (∀ op, (op = 1 ∨ op = 2) → s.activeOp k Blk.NTU op = some x → s.tbLocked n = true → s.ntu.adj = [] →
        ∃ t, exec (if op = 1 then .tbSet k else .tbAdj k) s = .next t ∧ t.Ended k St.FAIL_DENIED 0
          ∧ OnlyChanges [.opt, .scn] s t) ∧
      (s.activeOp k Blk.NTU 1 = some x → s.tbLocked n = false → s.tbSource 3 ≠ 2 → ∃ t, exec (.tbSet k) s = .next t
        ∧ t.Ended k St.OK 0 ∧ (t.tb n).time = (paramField x.param 8 8 * 1000000000 + paramField x.param 16 4) * nsUnit
        ∧ t.flag (Reg.NTU_TBn_STAT n) 0 = true
        ∧ t.num (Reg.NTU_TBn_STEP_CNT n) = Nat.min (s.num (Reg.NTU_TBn_STEP_CNT n) + 1) (2 ^ 32 - 1)
        ∧ OnlyChanges [.regs, .out, .opt, .scn, .ntu, .tbs] s t) ∧
      (∀ d r, s.activeOp k Blk.NTU 2 = some x → s.tbLocked n = false → s.ntu.adj = [] → d = signed 32 (paramField x.param 4 4) →
        (d = 0 → ∃ t, exec (.tbAdj k) s = .next t ∧ t.Ended k St.OK 0 ∧ OnlyChanges [.opt, .scn] s t) ∧
        (d ≠ 0 → r = clampInt (-32768000) 32768000 ((s.tb n).rate + (if d < 0 then -32768000 else 32768000)) →
          ∃ t, exec (.tbAdj k) s = .next t ∧ (t.tb n).rate = r ∧ t.slot k = s.slot k
            ∧ t.ntu.adj = [⟨k, x.ord, n, s.clk + d.natAbs * 1600, r - (s.tb n).rate⟩]
            ∧ OnlyChanges [.regs, .ntu, .tbs] s t ∧ OnlyRegs [Reg.NTU_TBn_RATE n] s t))) ∧
    (∀ a k, s.ntu.adj = [a] → a.tag = k → a.base < 4 → a.endClk ≤ s.clk → (s.slot k).ord = a.ord → (s.slot k).st = .active →
      (s.slot k).block = Blk.NTU → tfind? s.hlk.serving k = none → ∃ t, exec (.tbAdjComplete k) s = .next t
        ∧ t.Ended k St.OK 0 ∧ t.ntu.adj = [] ∧ (t.tb a.base).rate = clampInt (-32768000) 32768000 ((s.tb a.base).rate - a.add)
        ∧ OnlyChanges [.regs, .opt, .scn, .ntu, .tbs] s t) ∧
    (∀ k x g n st per w, tfind? s.hlk.serving k = none → s.activeOp k Blk.NTU 3 = some x → g = paramField x.param 0 1 →
      n = paramField x.param 1 1 → paramField x.param 2 1 = 0xFF → paramField x.param 3 1 = 0 →
      st = paramField x.param 8 8 * 1000000000 + paramField x.param 16 4 → per = paramField x.param 20 4 →
      w = paramField x.param 24 4 → g ≤ 7 → n ≤ 3 → 100 ≤ per → w < per → s.flag (Reg.NTU_PGg_CFG g) 0 = false →
      s.mode ≠ Mode.MINIMAL → s.Alone →
      (s.claimOf (0x3000 + g) = none → (s.tb n).total.toNat < st → ∃ t, exec (.ntuPgEnable k) s = .next t ∧ t.Ended k St.OK 0
        ∧ t.claims = s.claims ++ [⟨0x3000 + g, Blk.NTU, 1, g⟩] ∧ t.num (Reg.NTU_PGg_CFG g) = 1 + n * 2 + 15 * 16
        ∧ t.num (Reg.NTU_PGg_PERIOD g) = per ∧ t.num (Reg.NTU_PGg_WIDTH g) = w ∧ t.num (Reg.NTU_PGg_INDEX g) = 0
        ∧ t.pgEdge g = st ∧ OnlyChanges [.regs, .claims, .opt, .scn, .ntu] s t) ∧
      (∀ d, s.claimOf (0x3000 + g) = some d → ∃ t, exec (.ntuPgEnable k) s = .next t
        ∧ t.Ended k St.FAIL_CONFLICT (conflictWord d) ∧ OnlyChanges [.opt, .scn] s t)) ∧
    (∀ k x g, tfind? s.hlk.serving k = none → s.activeOp k Blk.NTU 4 = some x → g = paramField x.param 0 1 → g ≤ 7 →
      s.flag (Reg.NTU_PGg_CFG g) 0 = true → ∃ t, exec (.ntuPgDisable k) s = .next t ∧ t.Ended k St.OK 0
        ∧ t.flag (Reg.NTU_PGg_CFG g) 0 = false ∧ (∀ d ∈ t.claims, d.resource = 0x3000 + g → d.block ≠ Blk.NTU)
        ∧ OnlyChanges [.regs, .claims, .opt, .scn] s t ∧ OnlyRegs [Reg.NTU_PGg_CFG g] s t)

/-! ### FBC -/

/-- Receiving. A remote frame is counted (R473); a data frame goes to the lowest matching buffer, or through the filter to the
FIFO, which counts what it has no room for (R487); a locked buffer takes it in its shadow (R489); a node's record writes its
points and the node is UP (R477, R480); a header read locks its entry, the read of the last word or LOCK_TMO ends that (R488).
Sending. FRAME_TX enters the FIFO or a buffer, or is refused (R486, R497); an acknowledged frame completes it with its
attempts and its start of frame (R497); a row sends its reference message or counts a miss (R483, R485); in event mode the one
pending buffer is sent, a frame that loses stays pending (R482, R485); its window sends a scheduled buffer (R482); FB_PERIOD
makes the cyclic buffers pending (R485). Each of these forms completes here, in a next state: canFrameRx, canTxDone,
matrixRow, ttWindow, fbPeriodTx, mbHdrRead, mbLastWordRead, lockTimeout, fbcFrameTx. -/
def Obligations.FieldBusFrames : Prop :=
  (∀ (s : State) (c b : Nat), s.Up → c ≤ 3 → b < 64 →
    (∀ id xtd fdf brs esi d sof, s.onBus c = true → s.fld (Reg.FBC_CHc_ERR c) 9 8 = 0 →
      ((s.canCh c).lock = none ∨ s.Alone) → exec (.canFrameRx c id xtd fdf brs esi true d sof) s = .next (s.satInc (Reg.FBC_CHc_RXERR_CNT c) 0 32 1)) ∧
    (∀ id xtd fdf brs esi d sof f, s.onBus c = true → s.fld (Reg.FBC_CHc_ERR c) 9 8 = 0 →
      (fdf = false ∨ s.flag (Reg.FBC_CHc_CFG c) 1 = true) → d.length ≤ 64 → f = CanFrame.mk id xtd fdf brs d →
      ((s.canCh c).lock = none ∨ s.Alone) →
      (s.rxBuffer c f = some b → (s.canCh c).lock = none → (∀ n, n < 32 → s.nodeEn c n = false) →
        ∃ t, exec (.canFrameRx c id xtd fdf brs esi false d sof) s = .next t ∧ t.flag (Reg.FBC_MBb_HDR c b) 16 = true
          ∧ t.fld (Reg.FBC_MBb_HDR c b) 0 7 = d.length ∧ t.num (Reg.FBC_MBb_STAMP c b) = sof % 2 ^ 32
          ∧ (∀ w, w < 16 → t.num (Reg.FBC_MBb_DATA c b w) = leNat ((d.drop (4 * w)).take 4)) ∧ OnlyChanges [.regs] s t) ∧
      (∀ cl, s.rxBuffer c f = some b → (s.canCh c).lock = some (b, cl) → (s.canBuf c b).shadow = none →
        (∀ n, n < 32 → s.nodeEn c n = false) → exec (.canFrameRx c id xtd fdf brs esi false d sof) s
          = .next (s.setCanBuf c b { s.canBuf c b with shadow := some ⟨f, esi, sof % 2 ^ 32⟩ })) ∧
      (∀ n i g, s.rxBuffer c f = some b → (s.canCh c).lock = none → n < 32 → s.nodeEn c n = true →
        (∀ m, m < 32 → m ≠ n → s.nodeEn c m = false) → s.flag (Reg.FBC_NDn_CFG c n) 7 = true → s.fld (Reg.FBC_NDn_CFG c n) 1 6 = b →
        s.flag (Reg.FBC_NDn_CFG c n) 15 = false → s.fbc.inMap = [(i, g)] → g.channel = c → g.node = n →
        (s.point i).type ≠ PtType.NONE → (s.point i).forced = false → s.pointNote i = none → s.copiesOf i = [] → s.overrideOf i = none →
        s.lcpPoint i = false → ∃ t, exec (.canFrameRx c id xtd fdf brs esi false d sof) s = .next t
          ∧ (t.point i).value = normValue (s.point i).type (BitVec.ofNat 64 (recField d g)) ∧ (t.point i).quality = Q.GOOD
          ∧ t.fld (Reg.FBC_NDn_STAT c n) 0 2 = NdSt.UP ∧ OnlyPoints [i] s t ∧ OnlyChanges [.regs, .out, .points, .notes, .fbc] s t) ∧
      (s.rxBuffer c f = none → s.rxFilter c f = true →
        ((s.canCh c).rx = [] → ∃ t, exec (.canFrameRx c id xtd fdf brs esi false d sof) s = .next t
          ∧ (t.canCh c).rx = [⟨f, esi, sof % 2 ^ 32⟩] ∧ t.flag (Reg.FBC_CHc_RXF_HDR c) 16 = true
          ∧ t.fld (Reg.FBC_CHc_FIFO_STAT c) 16 7 = 1 ∧ OnlyChanges [.regs, .fbc] s t) ∧
        (64 ≤ (s.canCh c).rx.length → ∃ t, exec (.canFrameRx c id xtd fdf brs esi false d sof) s = .next t
          ∧ t.num (Reg.FBC_CHc_RXOVR_CNT c) = Nat.min (s.num (Reg.FBC_CHc_RXOVR_CNT c) + 1) (2 ^ 32 - 1)
          ∧ t.flag (Reg.IRQ_STAT Blk.FBC) 8 = true ∧ OnlyChanges [.regs, .out] s t)) ∧
      (s.rxBuffer c f = none → s.rxFilter c f = false →
        exec (.canFrameRx c id xtd fdf brs esi false d sof) s = .next s)) ∧
    (∀ rq, (s.canCh c).lock = none → s.flag (Reg.FBC_MBb_CFG c b) 0 = true → s.flag (Reg.FBC_MBb_CFG c b) 1 = false →
      ∃ t, exec (.mbHdrRead rq c b) s = .next t ∧ (t.canCh c).lock = some (b, s.clk) ∧ t.flag (Reg.FBC_MBb_HDR c b) 18 = true
        ∧ t.out = s.out ++ [.readData rq [t.reg (Reg.FBC_MBb_HDR c b)]] ∧ OnlyChanges [.regs, .out, .fbc] s t
        ∧ OnlyRegs [Reg.FBC_MBb_HDR c b] s t) ∧
    (∀ rq cl, (s.canCh c).lock = some (b, cl) → (s.canBuf c b).shadow = none → ∃ t, exec (.mbLastWordRead rq c b) s = .next t
      ∧ (t.canCh c).lock = none ∧ t.fld (Reg.FBC_MBb_HDR c b) 16 3 = 0 ∧ t.out = s.out ++ [.readData rq [s.reg (s.lastWord c b)]]
      ∧ OnlyChanges [.regs, .out, .fbc] s t ∧ OnlyRegs [Reg.FBC_MBb_HDR c b] s t) ∧
    (∀ rq cl x l, (s.canCh c).lock = some (64, cl) → (s.canCh c).rx = x :: l → ∃ t, exec (.mbLastWordRead rq c 64) s = .next t
      ∧ (t.canCh c).rx = l ∧ (t.canCh c).lock = none ∧ OnlyChanges [.regs, .out, .fbc] s t) ∧
    (∀ cl, s.fld (Reg.FBC_CHc_TMR c) 16 8 = 0 → (s.canCh c).lock = some (b, cl) → cl + 80000 ≤ s.clk → (s.canBuf c b).shadow = none →
      ∃ t, exec (.lockTimeout c) s = .next t ∧ (t.canCh c).lock = none ∧ t.flag (Reg.FBC_MBb_HDR c b) 18 = false
        ∧ t.num (Reg.FBC_CHc_LOCKTMO_CNT c) = Nat.min (s.num (Reg.FBC_CHc_LOCKTMO_CNT c) + 1) (2 ^ 32 - 1)
        ∧ OnlyChanges [.regs, .fbc] s t)) ∧
  (∀ (s : State) (c b : Nat), s.Up → c ≤ 3 → b < 64 →
    (∀ k x n id d f w, s.activeOp k Blk.FBC 1 = some x → tfind? s.hlk.serving k = none → paramField x.param 0 1 = c →
      paramField x.param 2 1 = n → id = paramField x.param 4 4 → bitOf (paramField x.param 3 1) 0 = true → w.length = n → x.ctx = 0 →
      d = w → f = CanFrame.mk (bitsOf id 0 29) (bitOf id 29) (bitOf id 30) (bitOf id 31) d → s.fbc.bufs = [] →
      (s.canCh c).fifo = [] → (s.canCh c).wait = [] → s.flag (Reg.FBC_CHc_CFG c) 0 = true →
      (s.mode = Mode.MINIMAL → ∃ t, exec (.fbcFrameTx k w) s = .next t ∧ t.Ended k St.FAIL_DENIED 0 ∧ OnlyChanges [.opt, .scn] s t) ∧
      (s.mode ≠ Mode.MINIMAL → canLength n = false → ∃ t, exec (.fbcFrameTx k w) s = .next t ∧ t.Ended k St.FAIL_INVALID 0
        ∧ OnlyChanges [.opt, .scn] s t) ∧
      (s.mode ≠ Mode.MINIMAL → n ≤ 8 → f.brs = false → paramField x.param 1 1 = 0xFF →
        (s.canSt c = CanSt.BUS_OFF → ∃ t, exec (.fbcFrameTx k w) s = .next t ∧ t.Ended k St.FAIL_BUS_OFF 0
          ∧ OnlyChanges [.opt, .scn] s t) ∧
        (s.canSt c ≠ CanSt.BUS_OFF → ∃ t, exec (.fbcFrameTx k w) s = .next t ∧ (t.canCh c).fifo = [⟨k, f, 0, 0⟩]
          ∧ t.fld (Reg.FBC_CHc_FIFO_STAT c) 0 6 = 1 ∧ OnlyChanges [.regs, .fbc] s t)) ∧
      (s.mode ≠ Mode.MINIMAL → n ≤ 8 → f.brs = false → paramField x.param 1 1 = b → s.canSt c ≠ CanSt.BUS_OFF → s.isTx c b = true →
        s.nodeOfTx c b = none →
        (s.bufPending c b = true → ∃ t, exec (.fbcFrameTx k w) s = .next t ∧ t.Ended k St.FAIL_CONFLICT 0
          ∧ OnlyChanges [.opt, .scn] s t) ∧
        (s.bufPending c b = false → ∃ t, exec (.fbcFrameTx k w) s = .next t ∧ t.bufPending c b = true
          ∧ t.canBuf c b = ⟨some k, some f, 0, 0, false, none, none⟩ ∧ t.fld (Reg.FBC_MBb_HDR c b) 0 7 = n
          ∧ OnlyChanges [.regs, .fbc] s t))) ∧
    (∀ k fr sof, s.canSt c = CanSt.ACTIVE → s.fld (Reg.FBC_CHc_ERR c) 0 9 = 0 → s.fld (Reg.FBC_CHc_ERR c) 9 8 = 0 →
      (s.slot k).st = .active → (s.slot k).block = Blk.FBC → tfind? s.hlk.serving k = none →
      ((s.canCh c).fly = some ⟨b, fr, sof, [], none⟩ → (s.canBuf c b).tag = some k → (s.canBuf c b).newer = false →
        s.nodeOfTx c b = none → ∃ t, exec (.canTxDone c) s = .next t
          ∧ t.Ended k St.OK (BitVec.ofNat 32 (Nat.min 255 (s.canBuf c b).attempts + sof % 65536 * 65536))
          ∧ (t.canCh c).fly = none ∧ t.bufPending c b = false ∧ (t.canBuf c b).tag = none
          ∧ OnlyChanges [.regs, .opt, .scn, .fbc] s t) ∧
      (∀ f a cl, (s.canCh c).fly = some ⟨64, fr, sof, [k], none⟩ → (s.canCh c).fifo = [⟨k, f, a, cl⟩] → (s.canCh c).wait = [] →
        ∃ t, exec (.canTxDone c) s = .next t
          ∧ t.Ended k St.OK (BitVec.ofNat 32 (Nat.min 255 a + sof % 65536 * 65536)) ∧ (t.canCh c).fifo = []
          ∧ (t.canCh c).fly = none ∧ OnlyChanges [.regs, .opt, .scn, .fbc] s t)) ∧
    (∀ len row, s.onBus c = true → s.flag (Reg.FBC_CHc_CFG c) 2 = true → s.flag (Reg.FBC_CHc_CFG c) 3 = true →
      s.flag Reg.LAT_STATE 3 = true → len = 65536 / s.canRows c → (s.canCh c).rowAt < s.chain - s.canAngle c % len →
      row = s.canAngle c / len →
      (s.maySend c = true → s.mode = Mode.RUN → ∃ t, exec (.matrixRow c true) s = .next t
        ∧ t.out = s.out ++ [.canFrame c (s.fld (Reg.FBC_CHc_REF c) 0 11) 0
          (BitVec.ofNat 8 row :: beBytes 4 (s.chain / 65536 % 2 ^ 32))]
        ∧ t.fld (Reg.FBC_CHc_STAT c) 8 4 = row ∧ (t.canCh c).missRun = 0
        ∧ (t.canCh c).fly = some ⟨65, false, s.chain, [], none⟩ ∧ OnlyChanges [.regs, .out, .fbc] s t) ∧
      (∃ t, exec (.matrixRow c false) s = .next t ∧ (t.canCh c).missRun = (s.canCh c).missRun + 1
        ∧ t.num (Reg.FBC_CHc_REFMISS_CNT c) = Nat.min (s.num (Reg.FBC_CHc_REFMISS_CNT c) + 1) (2 ^ 32 - 1)
        ∧ t.fld (Reg.FBC_CHc_STAT c) 8 4 = row ∧ OnlyChanges [.regs, .out, .fbc] s t)) ∧
    (∀ col f h, s.maySend c = true → f = s.bufFrame c b → s.nodeOfTx c b = none → s.bufMay c b = true → s.bufPending c b = true →
      s.handedNow c b = none →
      h = (if f.xtd then 1 else 0) + (if f.fdf then 2 else 0) + (if f.brs then 4 else 0) →
      (s.flag (Reg.FBC_CHc_CFG c) 2 = false → s.flag (Reg.FBC_CHc_STAT c) 4 = true → (s.canCh c).fifo = [] →
        (∀ j, j < 64 → j ≠ b → s.bufPending c j = false) →
        (∃ t, exec (.ttWindow c col true true) s = .next t ∧ t.out = s.out ++ [.canFrame c f.ident h f.data]
          ∧ (t.canCh c).fly = some ⟨b, true, s.chain, [], none⟩ ∧ (t.canBuf c b).attempts = (s.canBuf c b).attempts + 1
          ∧ t.num (Reg.FBC_MBb_STAMP c b) = s.chain % 2 ^ 32 ∧ OnlyChanges [.regs, .out, .fbc] s t) ∧
        (∃ t, exec (.ttWindow c col true false) s = .next t ∧ (t.canCh c).fly = none ∧ t.bufPending c b = true
          ∧ OnlyChanges [.regs, .out, .fbc] s t)) ∧
      (∀ start w, s.eventMode c = false → s.flag (Reg.FBC_CHc_CFG c) 3 = false →
        start = (s.canCh c).rowAt + s.fld (Reg.FBC_CHc_COLk c col) 0 16 → col < s.fld (Reg.FBC_CHc_TT c) 8 7 → start ≤ s.chain →
        s.chain ≤ start + s.canEnable c → w = s.num (Reg.FBC_CHc_CELLr_k c (s.fld (Reg.FBC_CHc_STAT c) 8 4) col) →
        bitsOf w 0 2 = 1 → bitsOf w 2 6 = b → ∃ t, exec (.ttWindow c col true true) s = .next t
          ∧ t.out = s.out ++ [.canFrame c f.ident h f.data] ∧ (t.canCh c).fly = some ⟨b, false, s.chain, [], none⟩
          ∧ t.fld (Reg.FBC_CHc_STAT c) 12 6 = col % 64 ∧ OnlyChanges [.regs, .out, .fbc] s t)) ∧
    (∀ p, s.onBus c = true → s.eventMode c = true → s.mode = Mode.RUN → p = s.fld (Reg.FBC_CHc_TMR c) 8 8 → p ≠ 0 →
      (s.canCh c).perClk + msClk * p ≤ s.clk → ∃ t, exec (.fbPeriodTx c) s = .next t ∧ (t.canCh c).perClk = s.clk
        ∧ (∀ j, j < 64 → t.bufPending c j = (s.bufPending c j || (s.isTx c j && s.flag (Reg.FBC_MBb_CFG c j) 2)))
        ∧ OnlyChanges [.regs, .out, .fbc] s t))

/-- Errors, bus-off and nodes. Errors move the counters and the state (R491), beyond 255 the channel is bus-off (R492); recovery
makes it error active and completes BUS_ON (R493, R497); a write of RESTRICT sets restricted operation (R494); a node silent
for LOSS_TMO cycles is LOST with its points STALE (R480); inverted polarity is corrected and the wait of SWAP_AUTO ends (R475,
R476). Each of these forms completes here, in a next state: canError, busoffRecovered, nodeLoss, swapDetect, swapWaitEnd,
restrictWrite, busOn. -/
def Obligations.FieldBusErrorsAndNodes : Prop :=
  ∀ (s : State) (c : Nat), s.Up → c ≤ 3 →
    (∀ tec rc ta ra, s.canSt c = CanSt.ACTIVE → s.flag (Reg.FBC_CHc_STAT c) 3 = false → tec = s.fld (Reg.FBC_CHc_ERR c) 0 9 + ta →
      rc = s.fld (Reg.FBC_CHc_ERR c) 9 8 + ra →
      (tec < 128 → rc < 96 → ∃ t, exec (.canError c false false ta ra) s = .next t ∧ t.fld (Reg.FBC_CHc_ERR c) 0 9 = tec
        ∧ t.fld (Reg.FBC_CHc_ERR c) 9 8 = rc ∧ t.canSt c = CanSt.ACTIVE
        ∧ t.num (Reg.FBC_CHc_RXERR_CNT c) = Nat.min (s.num (Reg.FBC_CHc_RXERR_CNT c) + 1) (2 ^ 32 - 1)
        ∧ OnlyChanges [.regs] s t ∧ OnlyRegs [Reg.FBC_CHc_ERR c, Reg.FBC_CHc_RXERR_CNT c] s t) ∧
      (128 ≤ tec → tec ≤ 255 → s.flag (Reg.FBC_CHc_CFG c) 4 = false → ∃ t, exec (.canError c false false ta ra) s = .next t
        ∧ t.canSt c = CanSt.PASSIVE ∧ t.fld (Reg.FBC_CHc_ERR c) 0 9 = tec ∧ t.flag (Reg.IRQ_STAT Blk.FBC) 1 = true
        ∧ OnlyChanges [.regs, .out] s t) ∧
      (255 < tec → s.fbc.bufs = [] → (s.canCh c).fifo = [] → (s.canCh c).wait = [] → (∀ n, n < 32 → s.nodeEn c n = false) →
        ∃ t, exec (.canError c false false ta ra) s = .next t ∧ t.canSt c = CanSt.BUS_OFF
          ∧ t.num (Reg.FBC_CHc_BUSOFF_CNT c) = Nat.min (s.num (Reg.FBC_CHc_BUSOFF_CNT c) + 1) (2 ^ 32 - 1)
          ∧ t.flag (Reg.IRQ_STAT Blk.FBC) 2 = true ∧ (∀ j, j < 64 → s.isTx c j = true → t.bufPending c j = false)
          ∧ OnlyChanges [.regs, .out, .fbc] s t)) ∧
    (∀ k e, s.canSt c = CanSt.BUS_OFF → s.flag (Reg.FBC_CHc_STAT c) 2 = true → (s.canCh c).busOn = [(k, e)] →
      (s.slot k).st = .active → (s.slot k).block = Blk.FBC → tfind? s.hlk.serving k = none →
      ∃ t, exec (.busoffRecovered c) s = .next t ∧ t.canSt c = CanSt.ACTIVE ∧ t.fld (Reg.FBC_CHc_ERR c) 0 17 = 0
        ∧ t.flag (Reg.FBC_CHc_STAT c) 2 = false ∧ t.Ended k St.OK e ∧ (t.canCh c).busOn = [] ∧ (t.canCh c).onClk = s.clk
        ∧ OnlyChanges [.regs, .out, .opt, .scn, .fbc] s t) ∧
    (∀ k x, s.activeOp k Blk.FBC 2 = some x → tfind? s.hlk.serving k = none → paramField x.param 0 1 = c → x.ctx = 0 →
      s.mode ≠ Mode.MINIMAL → s.flag (Reg.FBC_CHc_CFG c) 0 = true → (s.canCh c).busOn = [] →
      (s.canSt c = CanSt.BUS_OFF → ∃ t, exec (.busOn k) s = .next t ∧ t.flag (Reg.FBC_CHc_STAT c) 2 = true
        ∧ t.flag (Reg.FBC_CHc_STAT c) 6 = false
        ∧ (t.canCh c).busOn = [(k, BitVec.ofNat 32 (s.num (Reg.FBC_CHc_ERR c) % 2 ^ 17))] ∧ OnlyChanges [.regs, .fbc] s t
        ∧ OnlyRegs [Reg.FBC_CHc_STAT c] s t) ∧
      (s.canSt c ≠ CanSt.BUS_OFF → ∃ t, exec (.busOn k) s = .next t ∧ t.Ended k St.FAIL_INVALID 0
        ∧ OnlyChanges [.opt, .scn] s t)) ∧
    (∀ rq v, s.Passes rq (Reg.FBC_CHc_CTL c) → ∃ t, exec (.restrictWrite rq c v) s = .next t
      ∧ t.flag (Reg.FBC_CHc_CTL c) 0 = bitOf v.toNat 0 ∧ t.flag (Reg.FBC_CHc_STAT c) 3 = bitOf v.toNat 0
      ∧ OnlyChanges [.regs] s t ∧ OnlyRegs [Reg.FBC_CHc_CTL c, Reg.FBC_CHc_STAT c] s t) ∧
    (∀ n i g, n ≤ 31 → s.nodeEn c n = true → s.fld (Reg.FBC_NDn_STAT c n) 0 2 = NdSt.UP → s.fld (Reg.FBC_NDn_CFG c n) 16 16 ≠ 0 →
      (s.canNode c n).inCh + 65536 * s.fld (Reg.FBC_NDn_CFG c n) 16 16 ≤ s.chain → s.fbc.inMap = [(i, g)] → g.channel = c →
      g.node = n → s.scn.lanes = [] → s.scn.remote = [] → s.flag (Reg.FBC_NDn_CFG c n) 14 = false → s.copiesOf i = [] →
      (s.point i).type ≠ PtType.NONE → (s.point i).forced = false → s.pointNote i = none → s.Alone → ∃ t, exec (.nodeLoss c n) s = .next t
        ∧ t.fld (Reg.FBC_NDn_STAT c n) 0 2 = NdSt.LOST ∧ (t.point i).quality = Q.STALE ∧ OnlyPoints [i] s t
        ∧ t.flag (Reg.IRQ_STAT Blk.FBC) 4 = true ∧ OnlyChanges [.regs, .out, .points, .notes, .fbc] s t) ∧
    (s.onBus c = true → s.flag (Reg.FBC_CHc_CFG c) 6 = true → ∃ t, exec (.swapDetect c) s = .next t
      ∧ t.flag (Reg.FBC_CHc_STAT c) 5 = true ∧ (t.canCh c).swapWait = none ∧ t.flag (Reg.IRQ_STAT Blk.FBC) 6 = true
      ∧ OnlyChanges [.regs, .out, .fbc] s t) ∧
    (∀ w, (s.canCh c).swapWait = some w → w + 100 * msClk ≤ s.clk →
      exec (.swapWaitEnd c false) s = .next (s.setCanCh c { s.canCh c with swapWait := none }))

/-! ### DIO and RTC -/

/-- Inputs and commands. Each tick of 10 µs steps every filter, counts the rising edges of inputs and gives those of pulse inputs
to EMU (R505, R506, R513); an owner's command switches at once, asks ARB first or is kept while the output is held (R507); a
waiting command switches at its zero-crossing edge (R508); DIO_SET commands a host's claim and no other (R517); pulse inputs
show STUCK and FAULT (R514). The points of DIO are off here (base FFFFh). Each of these forms completes here, in a next state:
zxEdge, dioFilterTick, outputCommand, piStuck, piSupplyFault, dioSet. -/
def Obligations.InputsAndCommands : Prop :=
  ∀ s : State, s.Up → s.en Blk.DIO = true →
    (s.fld Reg.DIO_PT_BASE 0 16 = 0xFFFF → s.flag Reg.DIO_STAT 3 = false → ∀ raw pul, ∃ t,
      exec (.dioFilterTick raw pul) s = .next t ∧
      (∀ c r, c < 24 → s.dioMode c = 1 → r = filterStep (s.fld (Reg.DIO_CHcFILT c) 0 10) (s.chan c).filt
          (s.flag (Reg.DIO_CHcSTAT c) 0) (raw.getLsbD c) →
        (t.chan c).filt = r.1 ∧ t.flag (Reg.DIO_CHcSTAT c) 0 = r.2 ∧ t.num (Reg.DIO_CHcCNT c) = (s.num (Reg.DIO_CHcCNT c)
          + (if r.2 && !s.flag (Reg.DIO_CHcSTAT c) 0 then 1 else 0)) % 2 ^ 32) ∧
      (∀ c, c < 24 → s.dioMode c ≠ 1 → t.chan c = s.chan c) ∧
      t.dio.pulses = s.dio.pulses ++ ((List.range 16).filter (fun i => (filterStep (s.fld (Reg.DIO_PIiCFG i) 4 10)
          (tget (fun _ => 0) s.dio.piFilt i) (s.flag (Reg.DIO_PIiSTAT i) 0) (pul.getLsbD i)).2
          && !s.flag (Reg.DIO_PIiSTAT i) 0)).map (fun i => (i, s.chain)) ∧
      OnlyChanges [.regs, .dio] s t) ∧
    (∀ c b k p x, c < 24 → b = s.fld Reg.DIO_PT_BASE 0 16 → b ≠ 0xFFFF → s.dioMode c = 2 → s.dioMaster c = c → s.dioSet c = [c] →
      s.claimOf (0x2000 + c) = some k → p = s.pointFor Blk.DIO (b + 4 * c + 1) → p.value ≠ 0 → p.quality ≠ Q.UNINIT → x = s.chan c →
      x.waiters = [] → s.flag (Reg.DIO_CHcZX c) 16 = false → k.block ≠ Blk.LAT → k.block ≠ Blk.EMU → k.block ≠ Blk.HIF →
      (s.dioHeld c = true → exec (.outputCommand c) s = .next (s.setChan c { x with cmd := some true })) ∧
      (s.dioHeld c = false → s.fieldMa c = 0 → ∃ t, exec (.outputCommand c) s = .next t ∧ t.out = s.out ++ [.dioOut c true]
        ∧ t.flag (Reg.DIO_CHcSTAT c) 0 = true ∧ (t.chan c).on = true ∧ OnlyChanges [.regs, .out, .points, .notes, .dio] s t) ∧
      (s.dioHeld c = false → s.fieldMa c ≠ 0 → x.grant = 0 → s.arb.fieldAsks = [] → ∃ t, exec (.outputCommand c) s = .next t
        ∧ t.arb.fieldAsks = [⟨c, s.clk⟩] ∧ (t.chan c).asking = true ∧ (t.chan c).on = x.on ∧ OnlyChanges [.arb, .dio] s t)) ∧
    (∀ c s0, c < 24 → s.flag Reg.LAT_STATE 3 = true → s.flag (Reg.DIO_CHcZX c) 16 = true → s.dioSet c = [c] →
      (s.chain % 65536 ≠ s.fld (Reg.DIO_CHcZX c) 0 16 → s.flag (Reg.DIO_CHcZX c) 17 = false → exec (.zxEdge c) s = .next s) ∧
      (s.zxPass c (s.fld (Reg.DIO_CHcZX c) 0 16) (s.flag (Reg.DIO_CHcZX c) 17) = some s0 → OnlyChanges [.lat] s s0 ∧
        ((s.chan c).waiting = none → exec (.zxEdge c) s = .next (s0.emit (.zxEdge c)) ∧ exec (.zxEdge c) s0 = .next s0) ∧
        (∀ v, (s.chan c).waiting = some v → (s.chan c).takenClk / 10 ≠ s.clk / 10 → ∃ t, exec (.zxEdge c) s = .next t
          ∧ t.out = s.out ++ [.zxEdge c, .dioOut c v] ∧ t.flag (Reg.DIO_CHcSTAT c) 0 = v ∧ (t.chan c).waiting = none
          ∧ t.flag (Reg.DIO_CHcSTAT c) 10 = false ∧ OnlyChanges [.regs, .out, .points, .notes, .lat, .dio] s t))) ∧
    (∀ k x c v d, s.activeOp k Blk.DIO 1 = some x → tfind? s.hlk.serving k = none → c = paramField x.param 0 1 →
      v = bitOf (paramField x.param 1 1) 0 → x.ctx = 0 →
      (s.mode = Mode.MINIMAL → ∃ t, exec (.dioSet k) s = .next t ∧ t.Ended k St.FAIL_DENIED 0 ∧ OnlyChanges [.opt, .scn] s t) ∧
      (s.mode ≠ Mode.MINIMAL → c < 24 → s.dioMode c = 2 → s.dioMaster c = c → s.claimOf (0x2000 + c) = some d →
        (d.block ≠ Blk.HIF → ∃ t, exec (.dioSet k) s = .next t ∧ t.Ended k St.FAIL_CONFLICT (conflictWord d)
          ∧ OnlyChanges [.opt, .scn] s t) ∧
        (d.block = Blk.HIF → s.dioHeld c = false → s.dioSet c = [c] → (s.chan c).waiters = [] → s.flag (Reg.DIO_CHcZX c) 16 = false →
          (v = false ∨ s.fieldMa c = 0) → ∃ t, exec (.dioSet k) s = .next t ∧ t.Ended k St.OK 0
            ∧ t.out = s.out ++ [.dioOut c v] ∧ t.flag (Reg.DIO_CHcSTAT c) 0 = v
            ∧ OnlyChanges [.regs, .out, .points, .notes, .opt, .scn, .arb, .dio] s t))) ∧
    (∀ i, i < 16 →
      (s.fld (Reg.DIO_PIiCFG i) 16 8 ≠ 0 → s.flag (Reg.DIO_PIiSTAT i) 0 = true → s.flag (Reg.DIO_PIiSTAT i) 2 = false →
        tget (fun _ => 0) s.dio.piOn i + s.fld (Reg.DIO_PIiCFG i) 16 8 * 1000 * msClk < s.clk → ∃ t, exec (.piStuck i) s = .next t
        ∧ t.flag (Reg.DIO_PIiSTAT i) 2 = true ∧ t.flag (Reg.IRQ_STAT Blk.DIO) 10 = true ∧ OnlyChanges [.regs, .out] s t
        ∧ OnlyRegs (Reg.DIO_PIiSTAT i :: irqRegs Blk.DIO) s t) ∧
      (s.fld (Reg.DIO_PIiCFG i) 0 2 ≤ 1 → s.flag (Reg.DIO_PIiSTAT i) 1 = false → 1000000 ≤ tget (fun _ => 0) s.dio.piLimit i →
        ∃ t, exec (.piSupplyFault i) s = .next t
        ∧ t.flag (Reg.DIO_PIiSTAT i) 1 = true ∧ t.flag (Reg.IRQ_STAT Blk.DIO) 10 = true ∧ OnlyChanges [.regs, .out] s t
        ∧ OnlyRegs (Reg.DIO_PIiSTAT i :: irqRegs Blk.DIO) s t))

/-- The filter of an input (R505): at each tick its counter rises or falls by one between 0 and LIMIT; its state becomes 1 at
LIMIT and 0 at 0; LIMIT = 0 takes the raw input; a write of LIMIT leaves the counter. The supply is not reversed. Each of
these forms completes here, in a next state: regWrite, dioFilterTick. -/
def Obligations.InputFilterCounts : Prop :=
  ∀ (s : State) (c l : Nat), s.Up → c < 24 → l = s.fld (Reg.DIO_CHcFILT c) 0 10 →
    (∀ raw pul, s.en Blk.DIO = true → s.dioMode c = 1 → s.flag Reg.DIO_STAT 3 = false →
      ∃ t, exec (.dioFilterTick raw pul) s = .next t
        ∧ (l = 0 → t.flag (Reg.DIO_CHcSTAT c) 0 = raw.getLsbD c)
        ∧ (0 < l → raw.getLsbD c = true → (t.chan c).filt = Nat.min l ((s.chan c).filt + 1))
        ∧ (0 < l → raw.getLsbD c = false → (t.chan c).filt = Nat.min l ((s.chan c).filt - 1))
        ∧ (0 < l → t.flag (Reg.DIO_CHcSTAT c) 0
            = (if (t.chan c).filt = l then true else if (t.chan c).filt = 0 then false else s.flag (Reg.DIO_CHcSTAT c) 0))
        ∧ OnlyChanges [.regs, .points, .notes, .out, .dio] s t) ∧
    (∀ rq v, s.Passes rq (Reg.DIO_CHcFILT c) → s.en Blk.DIO = false →
      ∃ t, exec (.regWrite rq (Reg.DIO_CHcFILT c) [(0xF, v)]) s = .next t ∧ t.fld (Reg.DIO_CHcFILT c) 0 10 = v.toNat % 1024
        ∧ (t.chan c).filt = (s.chan c).filt ∧ OnlyChanges [.regs] s t ∧ OnlyRegs [Reg.DIO_CHcFILT c] s t)

/-- Protection. A short of 20 ticks switches its output off and latches it, and a RETRY channel is switched on again a second
later (R509); the logic watchdog puts every output at its SAFE value, a kick restarts it (R510), the field die does so alone
(R511); a low supply warns, then sheds group after group, and restores them in reverse (R512); FAULT_CLEAR, SAFE_CLEAR,
RESTORE and CNT_CLEAR do what R517 says. Each of these forms completes here, in a next state: dioDiagTick, shortRetry,
logicWdtExpire, wdtKick, fieldDieSafe, vfieldSample, dioFaultClear, safeClear, restore, cntClear. -/
def Obligations.OutputProtection : Prop :=
  ∀ s : State, s.Up → s.en Blk.DIO = true →
    (∀ m x, s.dioMode 0 = 2 → s.dioMaster 0 = 0 → s.dioSet 0 = [0] → x = s.chan 0 → x.on = true → m.limit = true → 19 ≤ x.limTicks →
      s.flag (Reg.DIO_CHcCFG 0) 5 = false → ∃ t, exec (.dioDiagTick ⟨[m], []⟩) s = .next t ∧ (t.chan 0).on = false
        ∧ t.flag (Reg.DIO_CHcSTAT 0) 0 = false ∧ t.flag (Reg.DIO_CHcSTAT 0) 2 = true ∧ t.flag (Reg.DIO_CHcSTAT 0) 9 = true
        ∧ (t.chan 0).grant = 0 ∧ t.flag (Reg.IRQ_STAT Blk.DIO) 4 = true ∧ t.num (Reg.DIO_CHcI 0) = m.ma % 2 ^ 32
        ∧ OnlyChanges [.regs, .out, .points, .notes, .arb, .dio] s t) ∧
    (∀ ma, ∃ t, exec (.dioDiagTick ⟨[], [(ma, true)]⟩) s = .next t ∧ t.fld (Reg.DIO_PIiSTAT 0) 16 16 = Nat.min 0xFFFF ma
      ∧ tget (fun _ => 0) t.dio.piLimit 0 = tget (fun _ => 0) s.dio.piLimit 0 + 1 ∧ OnlyChanges [.regs, .dio] s t) ∧
    (∀ c x, c < 24 → x = s.chan c → x.retryDue = true → x.cutClk + 1000 * msClk ≤ s.clk → s.dio.safe = false → s.dio.dieLost = false →
      s.dio.shed.contains (c / 4) = false → s.flag Reg.DIO_STAT 3 = false → s.flag (Reg.DIO_CHcSTAT c) 9 = false → x.cmd = some true →
      s.fieldMa c = 0 → s.flag (Reg.DIO_CHcZX c) 16 = false → x.waiters = [] → s.dioSet c = [c] →
      ∃ t, exec (.shortRetry c) s = .next t ∧ (t.chan c).on = true ∧ t.flag (Reg.DIO_CHcSTAT c) 2 = false
        ∧ (t.chan c).retryDue = false ∧ (t.chan c).retries = s.clk :: s.shortRetries c
        ∧ t.out = s.out ++ [.dioOut c true] ∧ OnlyChanges [.regs, .out, .points, .notes, .dio] s t) ∧
    (s.fld Reg.DIO_WDT 0 8 ≠ 0 → s.dio.wdtExpired = false → s.dio.wdtClk + s.fld Reg.DIO_WDT 0 8 * 10 * msClk ≤ s.clk → s.Alone →
      ∃ t, exec .logicWdtExpire s = .next t ∧ t.dio.safe = true ∧ t.dio.wdtExpired = true
      ∧ t.flag Reg.DIO_STAT 4 = true ∧ t.flag (Reg.IRQ_STAT Blk.DIO) 6 = true
      ∧ (∀ c, c < 24 → s.dioMode c = 2 → s.dioMaster c = c → t.flag (Reg.DIO_CHcSTAT c) 6 = true
        ∧ (s.dioSafeValue c = 0 → (t.chan c).on = false) ∧ (s.dioSafeValue c = 1 → (t.chan c).on = true)
        ∧ (s.dioSafeValue c = 2 → (t.chan c).on = (s.chan c).on))
      ∧ OnlyChanges [.regs, .out, .points, .notes, .arb, .dio] s t) ∧
    (∀ rq, s.Passes rq Reg.DIO_WDT_KICK →
      (s.flag Reg.DIO_WDT 9 = true → s.dio.safe = false →
        exec (.wdtKick rq) s = .next { s with dio := { s.dio with wdtExpired := false, wdtClk := s.clk } }) ∧
      (s.flag Reg.DIO_WDT 9 = false → exec (.wdtKick rq) s = .next s)) ∧
    (∀ c, c < 24 → s.dio.dieSafe = [(c, 0)] → s.dioMaster c = c → ∃ t, exec .fieldDieSafe s = .next t ∧ t.dio.safe = true
      ∧ t.dio.dieLost = true ∧ (t.chan c).on = false ∧ OnlyChanges [.regs, .out, .points, .notes, .dio] s t) ∧
    (∀ mv : Int, 0 ≤ mv → s.flag Reg.DIO_STAT 3 = false → s.fld Reg.DIO_PT_BASE 0 16 = 0xFFFF →
      (19600 < mv → mv < 100000 → s.dio.shed = [] → s.dio.restoreTags = [] → ∃ t, exec (.vfieldSample mv none) s = .next t
        ∧ t.num Reg.DIO_VFIELD = mv.toNat ∧ t.flag Reg.DIO_STAT 0 = true ∧ t.flag Reg.DIO_STAT 1 = false ∧ t.dio.low = 0
        ∧ OnlyChanges [.regs, .dio] s t ∧ OnlyRegs [Reg.DIO_VFIELD, Reg.DIO_STAT] s t) ∧
      (mv < 19200 → 18000 ≤ mv → s.flag Reg.DIO_STAT 1 = false → ∃ t, exec (.vfieldSample mv none) s = .next t
        ∧ t.flag Reg.DIO_STAT 1 = true ∧ t.flag Reg.DIO_STAT 0 = false ∧ t.flag (Reg.IRQ_STAT Blk.DIO) 1 = true
        ∧ t.dio.shed = s.dio.shed ∧ OnlyChanges [.regs, .out, .dio] s t) ∧
      (∀ g, mv < 18000 → s.dio.low = 101 → s.nextShed = some g → ∃ t, exec (.vfieldSample mv none) s = .next t
        ∧ t.dio.shed = s.dio.shed ++ [g] ∧ t.flag (Reg.IRQ_STAT Blk.DIO) 2 = true ∧ t.flag Reg.DIO_STAT 2 = true
        ∧ t.num Reg.DIO_SHED_CNT = Nat.min (s.num Reg.DIO_SHED_CNT + 1) (2 ^ 32 - 1)
        ∧ (∀ j, j < 4 → s.dioMode (4 * g + j) = 2 → t.flag (Reg.DIO_CHcSTAT (4 * g + j)) 7 = true)
        ∧ OnlyChanges [.regs, .out, .points, .notes, .arb, .dio] s t) ∧
      (∀ g, 20000 < mv → s.dio.high = 999 → s.dio.shed = [g] → s.dio.restoreTags = [] → s.flag Reg.DIO_SAG_CFG 0 = true →
        ∃ t, exec (.vfieldSample mv none) s = .next t ∧ t.dio.shed = [] ∧ t.flag (Reg.IRQ_STAT Blk.DIO) 3 = true
          ∧ t.flag Reg.DIO_STAT 2 = false)) ∧
    (∀ k x c, tfind? s.hlk.serving k = none → c = paramField x.param 0 1 → x.ctx = 0 → s.mode ≠ Mode.MINIMAL →
      (s.activeOp k Blk.DIO 2 = some x → c < 24 → s.flag (Reg.DIO_CHcSTAT c) 9 = true → ∃ t, exec (.dioFaultClear k) s = .next t
        ∧ t.Ended k St.OK 0 ∧ t.flag (Reg.DIO_CHcSTAT c) 9 = false ∧ t.flag (Reg.DIO_CHcSTAT c) 2 = false
        ∧ (t.chan c).retries = [] ∧ OnlyChanges [.regs, .points, .notes, .opt, .scn, .dio] s t) ∧
      (s.activeOp k Blk.DIO 2 = some x → c < 24 → s.flag (Reg.DIO_CHcSTAT c) 9 = false → ∃ t, exec (.dioFaultClear k) s = .next t
        ∧ t.Ended k St.FAIL_INVALID 0 ∧ OnlyChanges [.opt, .scn] s t) ∧
      (s.activeOp k Blk.DIO 3 = some x → s.mode = Mode.RUN → s.dio.wdtExpired = false → ∃ t, exec (.safeClear k) s = .next t
        ∧ t.Ended k St.OK 0 ∧ t.dio.safe = false ∧ t.dio.dieLost = false ∧ t.flag Reg.DIO_STAT 4 = false) ∧
      (s.activeOp k Blk.DIO 3 = some x → s.mode = Mode.RUN → s.dio.wdtExpired = true → s.fld Reg.DIO_WDT 0 8 ≠ 0 →
        ∃ t, exec (.safeClear k) s = .next t ∧ t.Ended k St.FAIL_INVALID 0 ∧ OnlyChanges [.opt, .scn] s t) ∧
      (s.activeOp k Blk.DIO 4 = some x → signed 32 (s.num Reg.DIO_VFIELD) ≤ 20000 → ∃ t, exec (.restore k) s = .next t
        ∧ t.Ended k St.FAIL_CONFLICT 0 ∧ OnlyChanges [.opt, .scn] s t) ∧
      (s.activeOp k Blk.DIO 4 = some x → 20000 < signed 32 (s.num Reg.DIO_VFIELD) →
        (s.dio.shed = [] → ∃ t, exec (.restore k) s = .next t ∧ t.Ended k St.OK 0 ∧ OnlyChanges [.opt, .scn] s t) ∧
        (s.dio.shed ≠ [] → exec (.restore k) s
          = .next { s with dio := { s.dio with restoreTags := s.dio.restoreTags ++ [k], high := 0 } })) ∧
      (s.activeOp k Blk.DIO 5 = some x → bitOf (paramField x.param 1 1) 0 = false → c < 24 → ∃ t, exec (.cntClear k) s = .next t
        ∧ t.Ended k St.OK 0 ∧ t.num (Reg.DIO_CHcCNT c) = 0 ∧ OnlyChanges [.regs, .points, .notes, .opt, .scn] s t
        ∧ OnlyRegs [Reg.DIO_CHcCNT c] s t) ∧
      (s.activeOp k Blk.DIO 5 = some x → bitOf (paramField x.param 1 1) 0 = true → c < 16 →
        (s.lcService = false → ∃ t, exec (.cntClear k) s = .next t ∧ t.Ended k St.FAIL_DENIED 0 ∧ OnlyChanges [.opt, .scn] s t) ∧
        (s.lcService = true → ∃ t, exec (.cntClear k) s = .next t ∧ t.Ended k St.OK 0 ∧ t.num64 (Reg.EMU_PIiCNT_LO c) = 0
          ∧ t.emu.ring.length = s.emu.ring.length + 1 ∧ OnlyChanges [.regs, .out, .opt, .scn, .emu, .sto] s t)))

/-- The calendar's roll-over (R522): February by the Gregorian rule; a second carries through every field, so that the seconds
since 1970 rise by one and 2099 ends in 2100; after the last second of 2999 HALT and DATE_INVALID set and the value stays.
Each of these forms completes here, in a next state: rtcSecond. -/
def Obligations.CalendarRollsOver : Prop :=
  (∀ y, monthDays y 2 = if (y % 4 = 0 ∧ y % 100 ≠ 0) ∨ y % 400 = 0 then 29 else 28) ∧
  ∀ s : State, s.rtcHalt = false →
    (s.rtc.cal.possible = true → s.rtc.cal ≠ Cal.last → ∃ t, exec .rtcSecond s = .next t ∧ t.rtc.cal.possible = true
      ∧ calSeconds t.rtc.cal = calSeconds s.rtc.cal + 1 ∧ (s.Up → t.flag (Reg.IRQ_STAT Blk.RTC) 2 = true)
      ∧ (s.rtc.cal = ⟨59, 59, 23, 31, 12, 2099⟩ → t.rtc.cal = ⟨0, 0, 0, 1, 1, 2100⟩)
      ∧ OnlyChanges [.regs, .out, .rtc] s t ∧ OnlyRegs (irqRegs Blk.RTC) s t) ∧
    (s.rtc.cal = ⟨59, 59, 23, 31, 12, 2999⟩ → ∃ t, exec .rtcSecond s = .next t ∧ t.rtc.cal = s.rtc.cal ∧ t.rtcHalt = true
      ∧ t.rtcBit RtcBit.DATE_INVALID = true ∧ OnlyChanges [.regs, .out, .rtc] s t)

/-- The calendar carries through every field: the second after a possible date is the next second and possible, up to the last one
it holds, and a count of seconds since 1970 names the date it came from (R521, R522, R525). -/
def Obligations.CalendarCarries : Prop :=
  ∀ c : Cal, c.possible = true → calOfSeconds (calSeconds c) = some c ∧
    (c ≠ Cal.last → c.next.possible = true ∧ calSeconds c.next = calSeconds c + 1)

/-- The RTC. HALT opens the pending copy and its end checks it (R524); TB0 sets it when it is off by a second or OSF stands
(R525); the shadows freeze together, YEAR or 500 ms release them (R526); trimming, the oscillator, VBAT and the wake do what
R527 to R531 say. Each of these forms completes here, in a next state: rtcHaltSet, rtcHaltClear, rtcTb0Set, rtcShadowFreeze,
rtcYearRead, rtcShadowTimeout, trimWindow, trimMeasure, oscStop, backupPowerUp, vbatCheck, rtcWake. -/
def Obligations.RealTimeClock : Prop :=
  ∀ s : State,
    (exec .trimWindow s = .next { s with rtc := { s.rtc with trimNow := s.trim } }) ∧
    (∃ t, exec .oscStop s = .next t ∧ t.rtcBit RtcBit.OSF = true ∧ (s.Up → t.flag (Reg.IRQ_STAT Blk.RTC) 3 = true)
      ∧ OnlyChanges [.regs, .out] s t ∧ OnlyRegs (Reg.RTC_STAT :: irqRegs Blk.RTC) s t) ∧
    (s.sup.inReset = true → ∃ t, exec .backupPowerUp s = .next t
      ∧ t.rtc = ⟨⟨0, 0, 0, 1, 1, 2000⟩, 0, some ⟨0, 0, 0, 1, 1, 2000⟩, none, 0, none, rtcTicks ⟨0, 0, 0, 1, 1, 2000⟩ 0⟩
      ∧ t.rtcHalt = true ∧ t.rtcBit RtcBit.OSF = true ∧ t.trim = 0 ∧ (∀ w, w < 16 → t.num (Reg.RTC_BKP w) = 0)
      ∧ t.num Reg.RTC_WAKE = 0 ∧ OnlyChanges [.regs, .sup, .rtc] s t) ∧
    (s.fld Reg.RTC_WAKE 0 20 ≠ 0 → s.rtcHalt = false →
      (s.rtc.wakeAt + 512 * s.fld Reg.RTC_WAKE 0 20 ≤ rtcTicks s.rtc.cal 32767 → ∃ t, exec .rtcWake s = .next t
        ∧ t.fld Reg.RTC_WAKE_CNT 0 16 = Nat.min (s.fld Reg.RTC_WAKE_CNT 0 16 + 1) 65535
        ∧ t.rtc.wakeAt = s.rtc.wakeAt + 512 * s.fld Reg.RTC_WAKE 0 20
        ∧ (s.Up → t.flag (Reg.IRQ_STAT Blk.RTC) 1 = true) ∧ (s.sup.inReset = true → OnlyChanges [.regs, .rtc] s t)) ∧
      (rtcTicks s.rtc.cal 32767 < s.rtc.wakeAt + 512 * s.fld Reg.RTC_WAKE 0 20 → exec .rtcWake s = .next s)) ∧
    (s.Up →
      (∀ n, s.rtcHalt = false → s.inSrst Blk.RTC = false → s.rollsNow = false → ∃ t, exec (.rtcHaltSet n) s = .next t ∧ t.rtcHalt = true
        ∧ t.rtc = { s.rtc with presc := n % 32768, pend := some s.rtc.cal } ∧ OnlyChanges [.regs, .rtc] s t
        ∧ OnlyRegs [Reg.RTC_CTL] s t) ∧
      (∀ c, s.inSrst Blk.RTC = false → s.rtc.pend = some c →
        (c.possible = true → ∃ t, exec .rtcHaltClear s = .next t ∧ t.rtc.cal = c ∧ t.rtc.presc = 0 ∧ t.rtc.pend = none
          ∧ (s.rtcHalt = true → t.rtc.wakeAt = rtcTicks c 0)
          ∧ t.rtcHalt = false ∧ t.rtcBit RtcBit.OSF = false ∧ t.rtcBit RtcBit.DATE_INVALID = false
          ∧ OnlyChanges [.regs, .rtc] s t ∧ OnlyRegs [Reg.RTC_CTL, Reg.RTC_STAT] s t) ∧
        (c.possible = false → ∃ t, exec .rtcHaltClear s = .next t ∧ t.rtc.cal = s.rtc.cal ∧ t.rtc.pend = some s.rtc.cal
          ∧ t.rtcHalt = s.rtcHalt ∧ t.rtcBit RtcBit.DATE_INVALID = true ∧ t.flag (Reg.IRQ_STAT Blk.RTC) 4 = true
          ∧ OnlyChanges [.regs, .out, .rtc] s t)) ∧
      (∀ n c tt, s.flag Reg.RTC_CFG 2 = true → s.flag (Reg.NTU_TBn_STAT 0) 1 = true → (s.tb 0).ns ≤ 1 →
        tt = ((s.tb 0).sec : Int) - signed 16 (s.fld Reg.NTU_UTC_OFFSET 0 16) → calOfSeconds tt.toNat = some c →
        (s.rtcBit RtcBit.OSF = true → ∃ t, exec (.rtcTb0Set n) s = .next t ∧ t.rtc.cal = c ∧ t.rtcBit RtcBit.OSF = false
          ∧ t.num Reg.RTC_SET_CNT = Nat.min (s.num Reg.RTC_SET_CNT + 1) (2 ^ 32 - 1) ∧ t.flag (Reg.IRQ_STAT Blk.RTC) 6 = true
          ∧ OnlyChanges [.regs, .out, .rtc] s t) ∧
        (s.rtcBit RtcBit.OSF = false → (rtcTicks c 0 - rtcTicks s.rtc.cal n).natAbs < 32768 →
          exec (.rtcTb0Set n) s = .next s)) ∧
      (∀ rq n, s.rtc.shadow = none → s.rtc.pend = none → s.rtcHalt = false → s.rollsNow = false →
        (∃ t, exec (.rtcShadowFreeze rq 1 n) s = .next t ∧ t.out = s.out ++ [.readData rq [BitVec.ofNat 32 s.rtc.cal.sec]]
          ∧ t.rtc.shadow = some (s.rtc.cal, n % 32768, s.clk) ∧ t.rtcBit RtcBit.FROZEN = true
          ∧ OnlyChanges [.regs, .out, .rtc] s t) ∧
        (∃ t, exec (.rtcYearRead rq n) s = .next t ∧ t.out = s.out ++ [.readData rq [BitVec.ofNat 32 s.rtc.cal.year]]
          ∧ t.rtc.shadow = none ∧ t.rtcBit RtcBit.FROZEN = false ∧ OnlyChanges [.regs, .out, .rtc] s t)) ∧
      (∀ rq c n k, s.rtc.shadow = some (c, n, k) →
        (∀ m, exec (.rtcShadowFreeze rq 5 m) s = .next (s.emit (.readData rq [BitVec.ofNat 32 c.month]))) ∧
        (∀ m, ∃ t, exec (.rtcYearRead rq m) s = .next t ∧ t.out = s.out ++ [.readData rq [BitVec.ofNat 32 c.year]]
          ∧ t.rtc.shadow = none ∧ OnlyChanges [.regs, .out, .rtc] s t) ∧
        (k + 500 * msClk ≤ s.clk → s.Alone → ∃ t, exec .rtcShadowTimeout s = .next t ∧ t.rtc.shadow = none
          ∧ t.rtcBit RtcBit.STALE = true ∧ t.rtcBit RtcBit.FROZEN = false ∧ t.flag (Reg.IRQ_STAT Blk.RTC) 5 = true
          ∧ OnlyChanges [.regs, .out, .rtc] s t)) ∧
      (∀ e, s.fld Reg.RTC_CFG 0 2 = 2 → s.flag (Reg.NTU_TBn_STAT 0) 1 = true → s.trimDue = true → ∃ t, exec (.trimMeasure e true) s = .next t
        ∧ t.num Reg.RTC_TRIM_ERR = unsigned 32 e ∧ t.trim = clampInt (-255) 255 (s.trim + trimSteps e)
        ∧ t.rtc = { s.rtc with window := some (2, (s.tb 0).sec) } ∧ OnlyChanges [.regs, .rtc] s t
        ∧ OnlyRegs [Reg.RTC_TRIM_ERR, Reg.RTC_TRIM] s t) ∧
      (∀ e, s.trimDue = false → exec (.trimMeasure e true) s = .next s) ∧
      (∀ mv, (mv < 2200 → s.rtcBit RtcBit.VBAT_LOW = false → ∃ t, exec (.vbatCheck mv) s = .next t
          ∧ t.rtcBit RtcBit.VBAT_LOW = true ∧ t.flag (Reg.IRQ_STAT Blk.RTC) 7 = true ∧ OnlyChanges [.regs, .out] s t) ∧
        (2400 < mv → ∃ t, exec (.vbatCheck mv) s = .next t ∧ t.rtcBit RtcBit.VBAT_LOW = false ∧ OnlyChanges [.regs] s t)
        ∧ (2200 ≤ mv → mv ≤ 2400 → exec (.vbatCheck mv) s = .next s)))

/-! ### KEY and TEN -/

/-- KEY's slots, record and life cycle. A key installed in clear stands in its slot with its attributes and a new generation, and
the record is written; a locked slot is refused (R538, R558, R562). ATTEST signs UID, KEY_LC and the challenge with slot 0;
SET_FLOOR raises a floor up to the running VERSION (R546). A good token blows one OTP row and ends the life with code 7; any
other is denied and counted; the nonce is new either way (R543, R544). The signatures are uninterpreted (log entry 5). Each of
these forms completes here, in a next state: slotInstall, slotDestroy, lcAdvance, attest, setFloor. -/
def Obligations.SlotsAndLifeCycle : Prop :=
  ∀ (s : State) (k : Nat) (x : Slot), s.Up → tfind? s.hlk.serving k = none →
    (∀ n a key j, s.activeOp k Blk.KEY 1 = some x → n = paramField x.param 0 1 → paramField x.param 1 1 = 0 →
      a = paramField x.param 2 2 → 6 ≤ n → n ≤ 15 → a < 2 ^ 10 → bitOf a 8 = false →
      (s.lcState < 2 → s.flag (Reg.KEY_SLOTs_ATTR n) 4 = false → 32 ≤ key.length → s.sup.pfail = false → s.freeTag = some j →
        ∃ t, exec (.slotInstall k key) s = .next t ∧ t.num (Reg.KEY_SLOTs_ATTR n) = 1 + (a &&& 0x3F8)
          ∧ t.num (Reg.KEY_SLOTs_GEN n) = (s.fld (Reg.KEY_SLOTs_GEN n) 0 16 + 1) % 2 ^ 16
          ∧ tfind? t.key.record.secrets n = some (BitVec.ofNat 512 (leNat (key.take 32).reverse))
          ∧ t.key.writes = s.key.writes ++ [(k, t.key.record)] ∧ t.flag (Reg.IRQ_STAT Blk.KEY) 2 = true
          ∧ (t.slot k).st = .active ∧ (t.slot j).st = .active ∧ (t.slot j).block = Blk.STO ∧ (t.slot j).opcode = StoOp.PUT
          ∧ OnlyChanges [.regs, .out, .opt, .key, .sto] s t) ∧
      (2 ≤ s.lcState ∨ s.flag (Reg.KEY_SLOTs_ATTR n) 4 = true → ∃ t, exec (.slotInstall k key) s = .next t
        ∧ t.Ended k St.FAIL_DENIED 0 ∧ OnlyChanges [.opt, .scn] s t)) ∧
    (∀ n j, s.activeOp k Blk.KEY 2 = some x → n = paramField x.param 0 1 → 4 ≤ n → n ≤ 15 →
      (s.flag (Reg.KEY_SLOTs_ATTR n) 4 = false → s.sup.pfail = false → s.freeTag = some j →
        ∃ t, exec (.slotDestroy k) s = .next t ∧ t.reg (Reg.KEY_SLOTs_ATTR n) = 0 ∧ t.reg (Reg.KEY_SLOTs_KCV n) = 0
          ∧ t.reg (Reg.KEY_SLOTs_GEN n) = s.reg (Reg.KEY_SLOTs_GEN n) ∧ tfind? t.key.record.secrets n = none
          ∧ (t.slot k).st = .active ∧ (t.slot j).block = Blk.STO ∧ OnlyChanges [.regs, .out, .opt, .key, .sto] s t) ∧
      (s.flag (Reg.KEY_SLOTs_ATTR n) 4 = true → ∃ t, exec (.slotDestroy k) s = .next t ∧ t.Ended k St.FAIL_DENIED 0
        ∧ OnlyChanges [.opt, .scn] s t)) ∧
    (∀ ch, s.activeOp k Blk.KEY 4 = some x → 32 ≤ ch.length → s.flag Reg.KEY_LC 24 = true → ∃ t, exec (.attest k ch) s = .next t
      ∧ t.Ended k St.OK 0 ∧ t.out = s.out ++ [.dma (paramField x.param 8 8 + 32) (beBytes 64
        (Config.ecdsaSign (derivedKey s.key.otpEpoch 0) s.free (Config.sha256 (uidBytes ++ beBytes 4 (s.num Reg.KEY_LC) ++ ch.take 32))).toNat)]
      ∧ OnlyChanges [.free, .out, .opt, .scn] s t) ∧
    (∀ id f j, s.activeOp k Blk.KEY 7 = some x → id = paramField x.param 0 4 → f = paramField x.param 4 4 → s.sup.imgOk = true →
      s.sup.imgId = id →
      (f ≤ s.sup.imgVer → s.sup.pfail = false → s.freeTag = some j → ∃ t, exec (.setFloor k) s = .next t
        ∧ tget (fun _ => 0) t.key.record.floors id = max (tget (fun _ => 0) s.key.record.floors id) f
        ∧ t.key.writes = s.key.writes ++ [(k, t.key.record)] ∧ (t.slot k).st = .active ∧ (t.slot j).block = Blk.STO
        ∧ OnlyChanges [.regs, .out, .opt, .key, .sto] s t) ∧
      (s.sup.imgVer < f → ∃ t, exec (.setFloor k) s = .next t ∧ t.Ended k St.FAIL_INVALID 0 ∧ OnlyChanges [.opt, .scn] s t)) ∧
    (∀ d l w, s.activeOp k Blk.KEY 3 = some x → d = paramField x.param 0 1 → l = lcSlots s.lcState d →
      (l ≠ [] → s.key.otpLeft ≠ 0 ∨ d = 4 →
        ∃ t, exec (.lcAdvance k w) s = .next t ∧ t.reg Reg.KEY_LC_NONCE = Config.freeWord s.free ∧
          (s.signedBy l (s.tokenDigest d) w = true → t.key.otpState = d ∧ t.key.otpLeft = s.key.otpLeft - 1
            ∧ t.key.otpEpoch = s.key.otpEpoch + 1 ∧ t.key.pendingRecord = some (d, s.carried d) ∧ t.sup.inReset = true
            ∧ (s.lifeBegun = true → t.sup.nv.endCode = 7) ∧ (t.slot k).st = .active
            ∧ OnlyChanges [.free, .regs, .sup, .key] s t) ∧
          (s.signedBy l (s.tokenDigest d) w = false → t.Ended k St.FAIL_DENIED 0
            ∧ t.num Reg.KEY_AUTH_FAIL_CNT = Nat.min (s.num Reg.KEY_AUTH_FAIL_CNT + 1) (2 ^ 32 - 1)
            ∧ t.flag (Reg.IRQ_STAT Blk.KEY) 1 = true ∧ OnlyChanges [.free, .regs, .out, .opt, .scn] s t)) ∧
      (l = [] ∨ s.key.otpLeft = 0 ∧ d ≠ 4 → ∃ t, exec (.lcAdvance k w) s = .next t ∧ t.Ended k St.FAIL_DENIED 0
        ∧ t.reg Reg.KEY_LC_NONCE = Config.freeWord s.free ∧ OnlyChanges [.free, .regs, .opt, .scn] s t
        ∧ OnlyRegs [Reg.KEY_LC_NONCE] s t))

/-- Tenant keys and sessions. A first key comes wrapped under slot 4 with KEY_GEN 0, a rotation under the present key increments
KEY_GEN, both end the session; TENANT_DESTROY removes key, cache entry and session (R547, R549, R558). The cache takes a
missed context, evicting the least recently used one without a session (R549). A session opens on the right tag for at most
SESSION_MAX, takes a new challenge, and ends after D seconds (R554, R559); a refill returns the tokens due by then (R553).
Each of these forms completes here, in a next state: tenantImport, tenantDestroy, keyCacheLoad, sessionOpen, sessionClose,
sessionExpire, rateRefill. -/
def Obligations.TenantKeysAndSessions : Prop :=
  ∀ (s : State) (k : Nat) (x : Slot) (c : Nat), s.Up → tfind? s.hlk.serving k = none → 1 ≤ c → c ≤ 255 →
    (∀ b j, s.activeOp k Blk.KEY 5 = some x → c = paramField x.param 0 1 → x.ctx = 0 ∨ x.ctx = c →
      s.lcState = 1 ∨ s.lcState = 2 → 40 ≤ b.length → s.sup.pfail = false → s.freeTag = some j →
      (paramField x.param 1 1 = 0 → s.blob c = none → ∃ t, exec (.tenantImport k b) s = .next t ∧
        (∀ key, s.unwrapSlot 4 (b.take 40) = some key → t.blob c = some ⟨key, 0, 0⟩ ∧ t.flag (Reg.TEN_CTXc_STAT c) 0 = true
          ∧ t.flag (Reg.IRQ_STAT Blk.KEY) 3 = true ∧ (t.slot k).st = .active ∧ (t.slot j).block = Blk.STO
          ∧ (t.slot j).opcode = StoOp.PUT ∧ OnlyChanges [.regs, .out, .opt, .key, .ten, .sto] s t) ∧
        (s.unwrapSlot 4 (b.take 40) = none → t.Ended k St.FAIL_INVALID 0
          ∧ t.num Reg.KEY_AUTH_FAIL_CNT = Nat.min (s.num Reg.KEY_AUTH_FAIL_CNT + 1) (2 ^ 32 - 1)
          ∧ OnlyChanges [.regs, .out, .opt, .scn] s t)) ∧
      (∀ o, paramField x.param 1 1 = 1 → s.blob c = some o → s.Alone → ∃ t, exec (.tenantImport k b) s = .next t ∧
        (∀ key, Config.kwUnwrap o.key (b.take 40) = some key → t.blob c = some ⟨key, (o.gen + 1) % 2 ^ 16, o.reserve⟩
          ∧ t.fld (Reg.TEN_CTXc_STAT c) 16 16 = (o.gen + 1) % 2 ^ 16 ∧ t.flag (Reg.TEN_CTXc_STAT c) 1 = false
          ∧ (t.slot k).st = .active ∧ (t.slot j).opcode = StoOp.PUT ∧ OnlyChanges [.regs, .out, .opt, .key, .ten, .sto] s t) ∧
        (Config.kwUnwrap o.key (b.take 40) = none → t.Ended k St.FAIL_INVALID 0
          ∧ OnlyChanges [.regs, .out, .opt, .scn] s t)) ∧
      (paramField x.param 1 1 = 0 → (s.blob c).isSome = true → ∃ t, exec (.tenantImport k b) s = .next t
        ∧ t.Ended k St.FAIL_CONFLICT 0 ∧ OnlyChanges [.opt, .scn] s t)) ∧
    (s.activeOp k Blk.KEY 6 = some x → c = paramField x.param 0 1 →
      (∀ o j, s.blob c = some o → s.sup.pfail = false → s.freeTag = some j → ∃ t, exec (.tenantDestroy k) s = .next t
        ∧ t.blob c = none ∧ t.flag (Reg.TEN_CTXc_STAT c) 0 = false ∧ t.flag (Reg.TEN_CTXc_STAT c) 1 = false
        ∧ t.key.cache.contains c = false ∧ (t.slot k).st = .active ∧ (t.slot j).opcode = StoOp.DELETE
        ∧ OnlyChanges [.regs, .out, .opt, .key, .ten, .sto] s t) ∧
      (s.blob c = none → ∃ t, exec (.tenantDestroy k) s = .next t ∧ t.Ended k St.FAIL_INVALID 0 ∧ OnlyChanges [.opt, .scn] s t)) ∧
    (∀ o, s.key.missing.contains c = true → s.arb.coreDown = false → s.blob c = some o → s.key.cache.contains c = false →
      s.ten.sealTags = [] → s.emu.ring = [] →
      (s.key.cache.length < 32 → ∃ t, exec (.keyCacheLoad c) s = .next t ∧ t.key.cache = s.key.cache ++ [c]
        ∧ t.key.missing.contains c = false ∧ t.fld Reg.KEY_CACHE_STAT 0 6 = s.key.cache.length + 1
        ∧ OnlyChanges [.regs, .key] s t) ∧
      (∀ e, s.key.cache.length = 32 → s.key.cache.find? (fun e => !s.flag (Reg.TEN_CTXc_STAT e) 1) = some e →
        ∃ t, exec (.keyCacheLoad c) s = .next t ∧ t.key.cache = s.key.cache.filter (· != e) ++ [c]
          ∧ OnlyChanges [.regs, .key] s t) ∧
      (32 ≤ s.key.cache.length → s.key.cache.find? (fun e => !s.flag (Reg.TEN_CTXc_STAT e) 1) = none →
        exec (.keyCacheLoad c) s = .next s)) ∧
    (∀ o d, s.activeOp k Blk.TEN 1 = some x → c = paramField x.param 0 1 → d = paramField x.param 2 2 → s.mode ≠ Mode.MINIMAL →
      s.blob c = some o → s.key.cache.contains c = true →
      ∃ t, exec (.sessionOpen k) s = .next t ∧ t.num64 (Reg.TEN_CTXc_CHAL_LO c) = (Config.freeDword s.free).toNat ∧
        (d ≤ s.sessionMax c → s.sessionTag o c d = BitVec.ofNat 128 (paramField x.param 16 16) →
          t.Ended k St.OK (BitVec.ofNat 32 d) ∧ t.flag (Reg.TEN_CTXc_STAT c) 1 = true ∧ t.num (Reg.TEN_CTXc_SESS_LEFT c) = d
          ∧ tfind? t.ten.sessionEnd c = some (s.clk + d * 800000000) ∧ t.flag (Reg.IRQ_STAT Blk.TEN) 3 = true
          ∧ OnlyChanges [.free, .regs, .out, .opt, .scn, .key, .ten] s t) ∧
        (s.sessionMax c < d ∨ s.sessionTag o c d ≠ BitVec.ofNat 128 (paramField x.param 16 16) → t.Ended k St.FAIL_DENIED 0
          ∧ t.reg (Reg.TEN_CTXc_STAT c) = s.reg (Reg.TEN_CTXc_STAT c) ∧ OnlyChanges [.free, .regs, .out, .opt, .scn] s t)) ∧
    (s.activeOp k Blk.TEN 2 = some x → c = paramField x.param 0 1 → s.mode ≠ Mode.MINIMAL →
      (s.flag (Reg.TEN_CTXc_STAT c) 1 = true → ∃ t, exec (.sessionClose k) s = .next t ∧ t.Ended k St.OK 0
        ∧ t.flag (Reg.TEN_CTXc_STAT c) 1 = false ∧ t.num (Reg.TEN_CTXc_SESS_LEFT c) = 0 ∧ t.flag (Reg.IRQ_STAT Blk.TEN) 4 = true
        ∧ OnlyChanges [.regs, .out, .opt, .scn, .ten] s t) ∧
      (s.flag (Reg.TEN_CTXc_STAT c) 1 = false → ∃ t, exec (.sessionClose k) s = .next t ∧ t.Ended k St.FAIL_INVALID 0
        ∧ OnlyChanges [.opt, .scn] s t)) ∧
    (∀ e, tfind? s.ten.sessionEnd c = some e →
      (s.clk < e → exec (.sessionExpire c) s = .next s) ∧
      (e ≤ s.clk → s.flag (Reg.TEN_CTXc_STAT c) 1 = true → ∃ t, exec (.sessionExpire c) s = .next t
        ∧ t.flag (Reg.TEN_CTXc_STAT c) 1 = false ∧ tfind? t.ten.sessionEnd c = none ∧ t.flag (Reg.IRQ_STAT Blk.TEN) 4 = true
        ∧ OnlyChanges [.regs, .out, .ten] s t)) ∧
    (∀ n, n = (s.clk - tget (fun _ => 0) s.ten.refilled c) * s.fld (Reg.TEN_CTXc_RATE c) 0 16 / 800000000 → n ≠ 0 →
      tget (fun _ => 0) s.ten.spent c ≠ 0 → ∃ t, exec (.rateRefill c) s = .next t
        ∧ tget (fun _ => 0) t.ten.spent c = tget (fun _ => 0) s.ten.spent c - n ∧ tget (fun _ => 0) t.ten.refilled c ≤ s.clk
        ∧ OnlyChanges [.ten] s t)

/-- Seals and points. A seal uses its context's counter once, below the reservation; at the reservation it waits for R + 65,536 to
be durable, and a failed write is made again (R555 to R557, R559). The host reads a point under R551, writes one whose
producer it is, and forces or releases one in context 0 alone; a forced point keeps its value (R11, R617). Each of these forms
completes here, in a next state: sealReserveDurable, sealRead, pointRead, pointWrite, pointForce, pointRelease. -/
def Obligations.SealsAndPoints : Prop :=
  ∀ (s : State) (k : Nat) (x : Slot), s.Up → tfind? s.hlk.serving k = none →
    (∀ c n l o, s.activeOp k Blk.TEN 3 = some x → c = paramField x.param 0 1 → n = paramField x.param 2 2 → c ≠ 0 →
      x.ctx = 0 ∨ x.ctx = c → 1 ≤ n → n ≤ 64 → n = l.length → s.mode ≠ Mode.MINIMAL → s.inSrst Blk.TEN = false →
      s.blob c = some o → s.key.cache.contains c = true →
      ((∀ i, i ∈ l → (s.point i).ctx = c) →
        (∀ b, s.nonceOf c + 1 < s.reserveOf c →
          b = envelope o 1 c (s.nonceOf c) ((l.map (fun i => pointBytes (s.pointFor Blk.HIF i))).flatten) →
          ∃ t, exec (.sealRead k l) s = .next t ∧ t.Ended k St.OK (BitVec.ofNat 32 b.length)
            ∧ t.out = s.out ++ [.dma (paramField x.param 16 8) b] ∧ t.nonceOf c = s.nonceOf c + 1
            ∧ OnlyChanges [.regs, .out, .opt, .scn, .key, .ten] s t) ∧
        (∀ j, s.reserveOf c ≤ s.nonceOf c → s.ten.raising.contains c = false → s.ten.sealTags = [] → s.sup.pfail = false →
          s.freeTag = some j → ∃ t, exec (.sealRead k l) s = .next t ∧ t.flag (Reg.TEN_CTXc_STAT c) 2 = true
            ∧ t.ten.sealTags = [(k, l, some o)] ∧ t.ten.raising = s.ten.raising ++ [c] ∧ t.nonceOf c = s.nonceOf c
            ∧ (t.slot k).st = .active ∧ (t.slot j).block = Blk.STO ∧ (t.slot j).opcode = StoOp.PUT
            ∧ OnlyChanges [.regs, .out, .opt, .ten, .sto] s t)) ∧
      (∀ i, i ∈ l → (s.point i).ctx ≠ c → ∃ t, exec (.sealRead k l) s = .next t ∧ t.Ended k St.FAIL_DENIED 0
        ∧ t.num Reg.TEN_DENIED_CNT = Nat.min (s.num Reg.TEN_DENIED_CNT + 1) (2 ^ 32 - 1)
        ∧ OnlyChanges [.regs, .out, .opt, .scn] s t)) ∧
    (∀ c st o, s.stoEnded (.reserve c) = some st → s.blob c = some o → 1 ≤ c → c ≤ 255 →
      (st = St.OK → s.ten.sealTags = [] → s.emu.ring = [] → ∃ t, exec (.sealReserveDurable c) s = .next t
        ∧ t.reserveOf c = s.reserveOf c + 65536 ∧ t.nonceOf c = s.nonceOf c ∧ t.ten.raising.contains c = false
        ∧ t.flag (Reg.TEN_CTXc_STAT c) 2 = false ∧ OnlyChanges [.regs, .key, .ten, .sto] s t
        ∧ OnlyRegs [Reg.TEN_CTXc_STAT c] s t) ∧
      (∀ j, st ≠ St.OK → s.sup.pfail = false → s.freeTag = some j → ∃ t, exec (.sealReserveDurable c) s = .next t
        ∧ t.reserveOf c = s.reserveOf c ∧ t.ten.raising.contains c = true ∧ (t.slot j).st = .active
        ∧ (t.slot j).block = Blk.STO ∧ OnlyChanges [.regs, .out, .opt, .ten, .sto] s t)) ∧
    (∀ i p, i = paramField x.param 0 2 → p = s.point i →
      (s.activeOp k Blk.TEN 4 = some x →
        (s.hostMayRead x.ctx i = true → ∃ t, exec (.pointRead k) s = .next t ∧ t.Ended k St.OK 0
          ∧ t.out = s.out ++ [.dma (paramField x.param 8 8) (pointBytes (s.pointFor Blk.HIF i))] ∧ OnlyChanges [.out, .opt, .scn] s t) ∧
        (s.hostMayRead x.ctx i = false → ∃ t, exec (.pointRead k) s = .next t ∧ t.Ended k St.FAIL_DENIED 0
          ∧ t.num Reg.TEN_DENIED_CNT = Nat.min (s.num Reg.TEN_DENIED_CNT + 1) (2 ^ 32 - 1)
          ∧ OnlyChanges [.regs, .out, .opt, .scn] s t)) ∧
      (s.activeOp k Blk.TEN 5 = some x → p.type ≠ PtType.NONE →
        (p.producer = .host → s.hostMayWrite x.ctx i = true → s.lcpPoint i = false → s.copiesOf i = [] →
          s.pointNote i = none →
          ∃ t, exec (.pointWrite k) s = .next t ∧ t.Ended k St.OK s.chain32
            ∧ t.point i = (if p.forced = true then p else { p with
              value := normValue p.type (BitVec.ofNat 64 (paramField x.param 8 8)), quality := Q.GOOD, stamp := s.chain32 })
            ∧ OnlyChanges [.points, .notes, .opt, .scn] s t ∧ OnlyPoints [i] s t) ∧
        (p.producer ≠ .host → ∃ t, exec (.pointWrite k) s = .next t ∧ t.Ended k St.FAIL_DENIED 0
          ∧ OnlyChanges [.opt, .scn] s t)) ∧
      (s.activeOp k Blk.TEN 6 = some x →
        (x.ctx = 0 → p.type ≠ PtType.NONE → s.lcpPoint i = false → ∃ t, exec (.pointForce k) s = .next t
          ∧ t.Ended k St.OK s.chain32 ∧ t.point i = { p with
            value := normValue p.type (BitVec.ofNat 64 (paramField x.param 8 8)), quality := Q.FORCED, stamp := s.chain32, forced := true }
          ∧ OnlyChanges [.points, .notes, .opt, .scn] s t ∧ OnlyPoints [i] s t) ∧
        (x.ctx ≠ 0 → ∃ t, exec (.pointForce k) s = .next t ∧ t.Ended k St.FAIL_DENIED 0 ∧ OnlyChanges [.opt, .scn] s t)) ∧
      (s.activeOp k Blk.TEN 7 = some x → x.ctx = 0 →
        (p.forced = true → s.pointNote i = none → ∃ t, exec (.pointRelease k) s = .next t ∧ t.Ended k St.OK s.chain32
          ∧ t.point i = { p with quality := Q.STALE, stamp := s.chain32, forced := false }
          ∧ OnlyChanges [.points, .notes, .opt, .scn] s t ∧ OnlyPoints [i] s t) ∧
        (p.forced = false → ∃ t, exec (.pointRelease k) s = .next t ∧ t.Ended k St.FAIL_INVALID 0
          ∧ OnlyChanges [.opt, .scn] s t)))

/-! ### SUP -/

/-- The supervision of R565. A condition sets its flag and interrupt bit, and clears it past its own threshold; SUP_HOLDUP holds
the end voltage of a test (R599). A core watchdog stops its core and the third in 600 s restarts with code 3 (R24, R26); 125
°C counts THERMAL and ends the life with code 6 (R569); SYS_RST_N ends it with code 4 (R611), a failed output with code 5
(R597). Each of these forms completes here, in a next state: vmainLow, vmainHigh, holdupLow, holdupTest, thermWarn,
thermalRestart, coreWatchdog, coreRestartDone, sysRstPin, supplyOutputLow. -/
def Obligations.SuppliesAndCores : Prop :=
  ∀ s : State, s.Up →
    (∀ mv, mv < 2 ^ 32 →
      (mv < 10800 → s.flag Reg.SUP_SUPPLY_STAT 1 = false → ∃ t, exec (.vmainLow mv) s = .next t ∧ t.num Reg.SUP_VMAIN = mv
        ∧ t.flag Reg.SUP_SUPPLY_STAT 1 = true ∧ t.flag Reg.SUP_SUPPLY_STAT 0 = false ∧ t.flag (Reg.IRQ_STAT Blk.SUP) 1 = true
        ∧ OnlyChanges [.regs, .out] s t ∧ OnlyRegs (Reg.SUP_VMAIN :: Reg.SUP_SUPPLY_STAT :: irqRegs Blk.SUP) s t) ∧
      (11000 < mv → ∃ t, exec (.vmainLow mv) s = .next t ∧ t.num Reg.SUP_VMAIN = mv ∧ t.flag Reg.SUP_SUPPLY_STAT 1 = false
        ∧ OnlyChanges [.regs] s t ∧ OnlyRegs [Reg.SUP_VMAIN, Reg.SUP_SUPPLY_STAT] s t) ∧
      (10800 ≤ mv → mv ≤ 11000 → ∃ t, exec (.vmainLow mv) s = .next t ∧ t.num Reg.SUP_VMAIN = mv
        ∧ t.flag Reg.SUP_SUPPLY_STAT 1 = s.flag Reg.SUP_SUPPLY_STAT 1 ∧ t.flag Reg.SUP_SUPPLY_STAT 0 = true) ∧
      (13800 < mv → s.flag Reg.SUP_SUPPLY_STAT 2 = false → ∃ t, exec (.vmainHigh mv) s = .next t
        ∧ t.flag Reg.SUP_SUPPLY_STAT 2 = true ∧ t.flag (Reg.IRQ_STAT Blk.SUP) 2 = true ∧ OnlyChanges [.regs, .out] s t
        ∧ OnlyRegs (Reg.SUP_VMAIN :: Reg.SUP_SUPPLY_STAT :: irqRegs Blk.SUP) s t) ∧
      (mv < 13600 → ∃ t, exec (.vmainHigh mv) s = .next t ∧ t.flag Reg.SUP_SUPPLY_STAT 2 = false ∧ OnlyChanges [.regs] s t) ∧
      (s.flag Reg.SUP_SUPPLY_STAT 0 = true →
        ((∀ c, s.sup.holdClk = some c → c + 10000 * msClk ≤ s.clk) → ∃ t, exec (.holdupTest mv) s = .next t
          ∧ t.num Reg.SUP_HOLDUP = mv ∧ t.sup.holdClk = some s.clk ∧ OnlyChanges [.regs, .sup] s t
          ∧ OnlyRegs [Reg.SUP_HOLDUP] s t) ∧
        (∀ c, s.sup.holdClk = some c → s.clk < c + 10000 * msClk → exec (.holdupTest mv) s = .next s))) ∧
    (∀ c, s.sup.holdClk = some c → c + 1000 * msClk ≤ s.clk →
      (s.flag Reg.SUP_SUPPLY_STAT 0 = true → s.num Reg.SUP_HOLDUP < s.num Reg.SUP_HOLDUP_MIN → s.flag Reg.SUP_SUPPLY_STAT 3 = false →
        ∃ t, exec .holdupLow s = .next t ∧ t.flag Reg.SUP_SUPPLY_STAT 3 = true ∧ t.flag (Reg.IRQ_STAT Blk.SUP) 3 = true
          ∧ OnlyChanges [.regs, .out] s t ∧ OnlyRegs (Reg.SUP_SUPPLY_STAT :: irqRegs Blk.SUP) s t) ∧
      (s.num Reg.SUP_HOLDUP_MIN < s.num Reg.SUP_HOLDUP →
        exec .holdupLow s = .next (s.setFlag Reg.SUP_SUPPLY_STAT 3 false))) ∧
    (∀ c : Int, -1000 ≤ c → c ≤ 2000 →
      (1050 < c → s.flag Reg.SUP_SUPPLY_STAT 8 = false → ∃ t, exec (.thermWarn c) s = .next t
        ∧ t.flag Reg.SUP_SUPPLY_STAT 8 = true ∧ t.flag (Reg.IRQ_STAT Blk.SUP) 4 = true ∧ t.num Reg.SUP_TEMP = unsigned 32 c
        ∧ signed 32 (t.num Reg.SUP_TEMP_MAX) = max c (signed 32 (s.num Reg.SUP_TEMP_MAX)) ∧ OnlyChanges [.regs, .out] s t) ∧
      (c < 1000 → ∃ t, exec (.thermWarn c) s = .next t ∧ t.flag Reg.SUP_SUPPLY_STAT 8 = false ∧ OnlyChanges [.regs] s t) ∧
      (c ≤ 1250 → ∃ t, exec (.thermalRestart c) s = .next t ∧ t.num Reg.SUP_TEMP = unsigned 32 c ∧ OnlyChanges [.regs] s t) ∧
      (1250 < c → s.lifeBegun = true → ∃ t, exec (.thermalRestart c) s = .next t ∧ s.LifeEnded t 6 ∧ s.Counted t 8
        ∧ OnlyChanges [.regs, .sup] s t)) ∧
    (s.arb.coreDown = false → s.openTags = [] → s.StoIdle → s.sto.waits = [] → s.sto.reads = [] → (∃ t,
      exec (.coreWatchdog 1) s = .next t ∧ t.fld Reg.SUP_CORE_RST_CNT 8 8 = Nat.min 255 (s.fld Reg.SUP_CORE_RST_CNT 8 8 + 1)
        ∧ t.flag (Reg.IRQ_STAT Blk.SUP) 9 = true ∧ (s.sup.wdt1 = [] → t.sup.inReset = false ∧ t.arb.coreDown = true
          ∧ t.sup.wdt1 = [s.clk] ∧ t.hlk.told = some s.hbTold ∧ OnlyChanges [.regs, .out, .sup, .arb, .hlk, .sto] s t))) ∧
    (∀ a b, s.sup.core0Up = true → s.sup.wdt0 = [a, b] → s.clk < a + 480000000000 → s.clk < b + 480000000000 →
      s.lifeBegun = true → ∃ t, exec (.coreWatchdog 0) s = .next t ∧ s.LifeEnded t 3 ∧ s.Counted t 5
        ∧ OnlyChanges [.regs, .out, .sup] s t) ∧
    (s.sup.fwFail = false → s.coreWait = [] →
      (s.sup.wdt0 ≠ [] → s.sup.core0Up = false →
        exec (.coreRestartDone 0) s = .next { s with sup := { s.sup with core0Up := true } }) ∧
      (∀ l, s.sup.wdt0 ≠ [] → s.sup.core0Up = false → s.late = [] → ∃ t,
        exec (.coreRestartDone 0) { s with coreWait := [(0, l)] } = .next t ∧ t.late = [(Rank.CORE, l)] ∧ t.coreWait = []) ∧
      (s.sup.wdt1 ≠ [] → s.arb.coreDown = true → ∃ t, exec (.coreRestartDone 1) s = .next t ∧ t.arb.coreDown = false
        ∧ t.hlk.told = none ∧ t.sup = s.sup ∧ t.late = s.late)) ∧
    (s.lifeBegun = true →
      (∃ t, exec .sysRstPin s = .next t ∧ s.LifeEnded t 4 ∧ t.sup.nv.count = s.sup.nv.count ∧ OnlyChanges [.sup] s t) ∧
      (s.confirmed = false → ∃ t, exec .supplyOutputLow s = .next t ∧ s.LifeEnded t 5 ∧ s.Counted t 6
        ∧ OnlyChanges [.regs, .sup] s t) ∧
      (s.confirmed = true → ∃ t, exec .supplyOutputLow s = .next t ∧ s.LifeEnded t 5 ∧ t.sup.nv.count = s.sup.nv.count
        ∧ OnlyChanges [.sup] s t))

/-- PFAIL. The record names chainage, TB0 and RTC of its instant and the life ends, with code 1 when the COMPLETE mark of step 5
was written and code 2 without it (R567, R568); EMU's FINAL slot is written in step 2 (R352). In reset it only restarts the
100 ms of R570. Each of these forms completes here, in a next state: pfail. -/
def Obligations.PowerFailureCommits : Prop :=
  ∀ (s : State) (us : Nat),
    (s.Up → s.lifeBegun = true → ∃ t, exec (.pfail 0 us) s = .next t ∧ t.sup.inReset = true ∧ t.sup.pfail = true
      ∧ t.sup.nv.endCode = 2 ∧ t.sup.nv.pfailClk = some s.clk ∧ t.sup.nv.pfailRtc = calSeconds s.rtc.cal
      ∧ (s.latSt ≠ LatSt.RESET → t.sup.nv.pfailCh = s.chain) ∧ t.sup.nv.commitUs = Nat.min us 25000 ∧ t.sup.commitDue = false
      ∧ t.sup.nv.count = s.sup.nv.count ∧ OnlyChanges [.regs, .sup] s t
      ∧ OnlyRegs [Reg.SUP_VMAIN, Reg.SUP_SUPPLY_STAT] s t) ∧
    (s.Up → s.lifeBegun = true → 8 ≤ s.fld Reg.SUP_MODE 4 4 → ∃ t, exec (.pfail 2 us) s = .next t ∧ t.sup.nv.endCode = 2
      ∧ (∃ i m, tfind? t.emu.mirror i = some m ∧ m.final = true ∧ m.ch = s.chain ∧ m.seq = s.num Reg.EMU_MIRROR_SEQ + 1)
      ∧ OnlyChanges [.regs, .sup, .emu] s t) ∧
    (s.Up → s.lifeBegun = true → s.StoIdle → ∀ n, 5 ≤ n → ∃ t, exec (.pfail n us) s = .next t ∧ t.sup.inReset = true
      ∧ t.sup.nv.endCode = 1 ∧ t.sup.commitDue = false) ∧
    (s.sup.inReset = true → s.sup.commitDue = false → ∃ t, exec (.pfail 6 us) s = .next t
      ∧ t.sup.nv = { s.sup.nv with pfailClk := some s.clk } ∧ OnlyChanges [.regs, .sup] s t)

/-- The start. Reset is released only when R570 allows it; then the straps are sampled, KEY has its root and the firmware is
awaited (R571, R572). A good copy starts both cores and opens the next life, a bad one ends the start unconfirmed, no copy
waits for the host (R576); a host load is verified at GO, and 60 s without one fail with STORAGE_FAIL. The map shows every LUN
and MAP_READY before the image is tried in the order of R573; without a map the start fails. Each of these forms completes
here, in a next state: mapRebuild, resetRelease, firmwareLoad, bootData, bootGo, bootWaitTimeout. -/
def Obligations.StartSteps : Prop :=
  ∀ s : State,
    (∀ p i, s.mayRelease p = false → exec (.resetRelease p i) s = .next s) ∧
    (∀ p i, s.mayRelease p = true → s.sup.commitDue = false → s.key.pendingRecord = none → s.key.pufDead = false →
      s.sup.nv.bkpBad = false → i.pufOk = true → i.bkpOk = true → ∃ t, exec (.resetRelease p i) s = .next t ∧ t.Up
        ∧ t.mode = Mode.STARTING ∧ t.step9 = 3 ∧ t.sup.releaseClk = s.clk ∧ t.sup.roleStrap = i.role % 4
        ∧ t.flag Reg.KEY_LC 24 = true ∧ t.flag (Reg.STAT Blk.SUP) 0 = true ∧ t.flag (Reg.STAT Blk.HIF) 0 = true
        ∧ (i.bootSrc % 2 = 1 → t.flag Reg.SUP_BOOT_CTL 29 = true ∧ t.sup.bootWait = some s.clk)
        ∧ t.openTags = [] ∧ t.claims = [] ∧ t.points = [] ∧ t.out = s.out ∧ t.pse.diePorts = s.pse.diePorts) ∧
    (s.loading = true →
      (∀ f r, s.sup.bootWait = none → s.sup.bootSrc = 0 → s.flag Reg.KEY_LC 24 = true →
        s.brownout = false → ∃ t, exec (.firmwareLoad (some f :: r)) s = .next t ∧ OnlyChanges [.regs, .out, .sup, .arb] s t ∧
          (s.firmwareOk f = true → t.Up ∧ t.sup.core0Up = true ∧ t.arb.coreDown = false ∧ t.step9 = 5
            ∧ t.sup.nv.startNum = s.sup.nv.startNum + 1 ∧ t.num Reg.OPT_START_NUM = (s.sup.nv.startNum + 1) % 2 ^ 16
            ∧ t.minimalStart = (decide (3 ≤ s.sup.nv.count) || s.sup.nv.minimalReq) ∧ t.sup.nv.closed = true) ∧
          (s.firmwareOk f = false → s.calledMinimal = false → s.lcState ≠ 3 → t.sup.inReset = true ∧ s.Counted t 2
            ∧ t.sup.commitDue = false)) ∧
      (∀ l, s.sup.bootWait = none → s.sup.bootSrc = 0 → (∀ c, c ∈ l → c = none) → ∃ t, exec (.firmwareLoad l) s = .next t
        ∧ t.flag Reg.SUP_BOOT_CTL 29 = true ∧ t.sup.bootWait = some s.clk ∧ OnlyChanges [.regs, .sup] s t
        ∧ OnlyRegs [Reg.SUP_BOOT_CTL] s t) ∧
      (∀ rq w, s.flag Reg.SUP_BOOT_CTL 29 = true → s.Passes rq Reg.SUP_BOOT_DATA →
        exec (.bootData rq w) s = .next { s with sup := { s.sup with bootWords := s.sup.bootWords ++ [w] } }) ∧
      (∀ rq w f c, s.sup.bootWait = some c → bitOf w.toNat 28 = true → w.toNat % 2 ^ 24 ≤ 4 * s.sup.bootWords.length →
        s.brownout = false → ∃ t, exec (.bootGo rq w f) s = .next t ∧ OnlyChanges [.regs, .out, .sup, .arb] s t ∧
          t.flag Reg.SUP_BOOT_CTL 29 = false ∧
          (s.firmwareOk f = true → t.Up ∧ t.flag Reg.SUP_BOOT_CTL 30 = true ∧ t.sup.core0Up = true ∧ t.step9 = 5) ∧
          (s.firmwareOk f = false → s.calledMinimal = false → s.lcState ≠ 3 → t.flag Reg.SUP_BOOT_CTL 31 = true
            ∧ t.sup.inReset = true ∧ s.Counted t 2)) ∧
      (∀ c, s.sup.bootWait = some c → s.sup.bootSrc = 0 →
        (s.clk < c + 60000 * msClk → exec .bootWaitTimeout s = .next s) ∧
        (c + 60000 * msClk ≤ s.clk → s.calledMinimal = false → ∃ t, exec .bootWaitTimeout s = .next t ∧ t.sup.inReset = true
          ∧ s.Counted t 6 ∧ OnlyChanges [.regs, .sup] s t))) ∧
    (∀ l cur prev bad, s.Up → s.mode = Mode.STARTING → s.step9 = 5 →
      ((lunsUsed l).length ≥ 2 → s.sup.core0Up = true → s.flag Reg.KEY_LC 24 = true → s.imageLost 1 cur = false →
        exec (.mapRebuild true l cur prev bad) s = .next (s.guarded ((s.mountMap l).imageStep cur prev bad))
        ∧ (s.mountMap l).flag Reg.STO_STAT 0 = true
        ∧ (∀ f, f ∈ l → f.channel < 2 → f.lun < 8 → (∀ g, g ∈ l → g.channel < 2 ∧ g.lun < 8) →
          (∀ g, g ∈ l → g.channel = f.channel → g.lun = f.lun → g = f) →
          (s.mountMap l).fld (Reg.STO_CHc_LUNl_STAT f.channel f.lun) 0 2 = (if f.matched then 1 else 3))) ∧
      (s.minimalStart = false → ∃ t, exec (.mapRebuild false l cur prev bad) s = .next t ∧ s.LifeEnded t 5 ∧ s.Counted t 6
        ∧ OnlyChanges [.regs, .sup] s t))

/-- Confirmation and the operations on the mode. The conditions of R575 within 120 s clear the counter; without them the start
ends as unconfirmed with SCAN_FAULT. A stamp is written every 10 s (R574). MODE_SET enters standby and run, and restarts for
minimal; RESTART restarts; START_CLEAR works in minimal mode alone (R28, R585). Each of these forms completes here, in a next
state: startConfirm, confirmTimeout, progressStamp, modeSet, restart, startClear. -/
def Obligations.ConfirmationAndModes : Prop :=
  ∀ s : State, s.Up →
    (∀ n, n = (s.clk - s.sup.releaseClk) / msClk → s.mayConfirm = true → n ≤ 120000 → ∃ t, exec .startConfirm s = .next t
      ∧ t.confirmed = true ∧ t.num Reg.SUP_START_TIME = n ∧ t.sup.nv.count = 0 ∧ t.fld Reg.SUP_START_STAT 0 8 = 0
      ∧ t.flag (Reg.IRQ_STAT Blk.SUP) 7 = true ∧ OnlyChanges [.regs, .out, .sup] s t
      ∧ OnlyRegs (Reg.SUP_START_TIME :: Reg.SUP_START_STAT :: irqRegs Blk.SUP) s t) ∧
    (s.mode = Mode.RUN → s.mayConfirm = false → s.confirmed = false → s.sup.releaseClk + 120000 * msClk ≤ s.clk →
      s.Alone → ∃ t, exec .confirmTimeout s = .next t ∧ s.LifeEnded t 5 ∧ s.Counted t 4 ∧ OnlyChanges [.regs, .sup] s t) ∧
    (s.confirmed = true → s.Alone → exec .confirmTimeout s = .next s) ∧
    (s.latSt ≠ LatSt.RESET →
      (s.sup.progClk + 10000 * msClk ≤ s.clk → ∃ t, exec .progressStamp s = .next t ∧ t.sup.progClk = s.clk
        ∧ t.sup.nv = { s.sup.nv with progCycle := s.chain / 65536, progRtc := calSeconds s.rtc.cal } ∧ OnlyChanges [.sup] s t) ∧
      (s.clk < s.sup.progClk + 10000 * msClk → exec .progressStamp s = .next s)) ∧
    (∀ k x, tfind? s.hlk.serving k = none →
      (∀ m, s.activeOp k Blk.SUP 1 = some x → m = paramField x.param 0 1 → s.Alone → s.startEvent = false →
        (s.mode = Mode.RUN → m = 1 → ∃ t, exec (.modeSet k) s = .next t ∧ t.mode = Mode.STANDBY ∧ t.Ended k St.OK 0
          ∧ t.flag (Reg.IRQ_STAT Blk.SUP) 8 = true ∧ t.dio.safe = true) ∧
        (s.mode = Mode.STANDBY → m = 0 → exec (.modeSet k) s = .next (s.guarded (s.toRun.decideOp k St.OK 0))
          ∧ (s.enterMode Mode.RUN).mode = Mode.RUN ∧ (s.enterMode Mode.RUN).flag (Reg.IRQ_STAT Blk.SUP) 8 = true) ∧
        (s.mode < 2 → m = 2 → ∃ t, exec (.modeSet k) s = .next t ∧ s.LifeEnded t 4 ∧ t.sup.nv.minimalReq = true
          ∧ t.sup.nv.count = s.sup.nv.count ∧ (t.slot k).st = .active ∧ OnlyChanges [.sup] s t) ∧
        (s.mode < 2 → m = s.mode → ∃ t, exec (.modeSet k) s = .next t ∧ t.Ended k St.FAIL_INVALID 0
          ∧ OnlyChanges [.opt, .scn] s t) ∧
        (s.mode = Mode.MINIMAL → ∃ t, exec (.modeSet k) s = .next t ∧ t.Ended k St.FAIL_DENIED 0
          ∧ OnlyChanges [.opt, .scn] s t)) ∧
      (s.activeOp k Blk.SUP 2 = some x → s.lifeBegun = true → ∃ t, exec (.restart k) s = .next t ∧ s.LifeEnded t 4
        ∧ t.sup.nv.previousReq = bitOf (paramField x.param 0 1) 0 ∧ (t.slot k).st = .active ∧ OnlyChanges [.sup] s t) ∧
      (s.activeOp k Blk.SUP 5 = some x →
        (s.mode = Mode.MINIMAL → ∃ t, exec (.startClear k) s = .next t ∧ t.Ended k St.OK 0 ∧ t.sup.nv.count = 0
          ∧ t.fld Reg.SUP_START_STAT 0 8 = 0 ∧ OnlyChanges [.regs, .sup, .opt, .scn] s t
          ∧ OnlyRegs [Reg.SUP_START_STAT] s t) ∧
        (s.mode ≠ Mode.MINIMAL → ∃ t, exec (.startClear k) s = .next t ∧ t.Ended k St.FAIL_DENIED 0
          ∧ OnlyChanges [.opt, .scn] s t)))

/-- Claims of the host and the interval timers. CLAIM takes a free resource and is refused with the owner's conflict word
otherwise, RELEASE gives back what the host holds (R66 to R68, R585); TIMER_SET claims and starts a timer, a PERIOD of 0 stops
and releases it, and every firing is counted (R584). Each of these forms completes here, in a next state: gtFire, timerSet,
claim, release. -/
def Obligations.ClaimsAndTimers : Prop :=
  ∀ s : State, s.Up →
    (∀ k x r, tfind? s.hlk.serving k = none → r = paramField x.param 0 2 →
      (s.activeOp k Blk.SUP 0x20 = some x → resourceExists r = true → s.Alone →
        (s.claimOf r = none → ∃ t, exec (.claim k) s = .next t ∧ t.Ended k St.OK 0
          ∧ t.claims = s.claims ++ [⟨r, Blk.HIF, 0, 0⟩] ∧ OnlyChanges [.claims, .opt, .scn] s t) ∧
        (∀ d, s.claimOf r = some d → ∃ t, exec (.claim k) s = .next t ∧ t.Ended k St.FAIL_CONFLICT (conflictWord d)
          ∧ OnlyChanges [.opt, .scn] s t)) ∧
      (s.activeOp k Blk.SUP 0x21 = some x → ∀ d, s.claimOf r = some d →
        (d.block = Blk.HIF → ∃ t, exec (.release k) s = .next t ∧ t.Ended k St.OK 0
          ∧ t.claims = s.claims.filter (fun c => !(c.resource == r && c.block == Blk.HIF))
          ∧ OnlyChanges [.claims, .opt, .scn] s t) ∧
        (d.block ≠ Blk.HIF → ∃ t, exec (.release k) s = .next t ∧ t.Ended k St.FAIL_INVALID 0
          ∧ OnlyChanges [.opt, .scn] s t))) ∧
    (∀ k x n p, tfind? s.hlk.serving k = none → s.activeOp k Blk.SUP 4 = some x → n = paramField x.param 0 1 →
      p = paramField x.param 4 4 → n ≤ 15 → s.Alone →
      (1 ≤ p → p ≤ 9 → ∃ t, exec (.timerSet k) s = .next t ∧ t.Ended k St.FAIL_INVALID 0 ∧ OnlyChanges [.opt, .scn] s t) ∧
      (10 ≤ p → s.flag (Reg.SUP_GTn_CFG n) 0 = false → s.claimOf (0x6000 + n) = none → ∃ t, exec (.timerSet k) s = .next t
        ∧ t.Ended k St.OK 0 ∧ t.flag (Reg.SUP_GTn_CFG n) 0 = true ∧ t.num (Reg.SUP_GTn_PERIOD n) = p
        ∧ t.claims = s.claims ++ [⟨0x6000 + n, Blk.SUP, 3, n⟩] ∧ t.gtSince n = s.clk
        ∧ OnlyChanges [.regs, .claims, .sup, .opt, .scn] s t ∧ OnlyRegs [Reg.SUP_GTn_CFG n, Reg.SUP_GTn_PERIOD n] s t) ∧
      (∀ d, 10 ≤ p → s.flag (Reg.SUP_GTn_CFG n) 0 = false → s.claimOf (0x6000 + n) = some d → ∃ t, exec (.timerSet k) s = .next t
        ∧ t.Ended k St.FAIL_CONFLICT (conflictWord d) ∧ OnlyChanges [.opt, .scn] s t) ∧
      (p = 0 → s.flag (Reg.SUP_GTn_CFG n) 0 = true → ∃ t, exec (.timerSet k) s = .next t ∧ t.Ended k St.OK 0
        ∧ t.flag (Reg.SUP_GTn_CFG n) 0 = false
        ∧ t.claims = s.claims.filter (fun c => !(c.resource == 0x6000 + n && c.block == Blk.SUP))
        ∧ OnlyChanges [.regs, .claims, .sup, .opt, .scn] s t)) ∧
    (∀ n, n ≤ 15 → s.flag (Reg.SUP_GTn_CFG n) 0 = true → s.gtSince n + 800 * s.num (Reg.SUP_GTn_PERIOD n) ≤ s.clk →
      (s.flag Reg.SUP_SURVEY_CFG 4 = false → ∃ t, exec (.gtFire n) s = .next t
        ∧ t.num (Reg.SUP_GTn_CNT n) = (s.num (Reg.SUP_GTn_CNT n) + 1) % 2 ^ 32
        ∧ t.num Reg.SUP_SURVEY_OVR_CNT = Nat.min (s.num Reg.SUP_SURVEY_OVR_CNT + 1) (2 ^ 32 - 1)
        ∧ t.gtSince n = s.gtSince n + 800 * s.num (Reg.SUP_GTn_PERIOD n)
        ∧ OnlyChanges [.regs, .sup] s t ∧ OnlyRegs [Reg.SUP_GTn_CNT n, Reg.SUP_SURVEY_OVR_CNT] s t) ∧
      (s.flag Reg.SUP_SURVEY_CFG 4 = true → s.sup.surveyClk = none → s.flag Reg.SUP_SURVEY_STAT 16 = false →
        s.flag Reg.SUP_SURVEY_STAT 17 = false → s.sup.surveyEndClk ≠ some s.clk → (∀ b, b ≤ 19 → s.surveyEn b = false) → ∃ t, exec (.gtFire n) s = .next t
          ∧ t.num (Reg.SUP_GTn_CNT n) = (s.num (Reg.SUP_GTn_CNT n) + 1) % 2 ^ 32 ∧ t.fld Reg.SUP_SURVEY_STAT 18 5 = 16
          ∧ t.fld Reg.SUP_SURVEY_STAT 0 16 = (s.fld Reg.SUP_SURVEY_STAT 0 16 + 1) % 2 ^ 16
          ∧ OnlyChanges [.regs, .out, .sup] s t))

/-- Survey. A request of an enabled source that meets neither BUSY nor HELD is one edge: SEQ, its source, chainage and TB0, BUSY
while a block of another domain is to latch, and every enabled SYS block latches its window with that SEQ (R582); a refused
one is counted. The last latch clears BUSY, shows its delay and sets SURVEY_DONE, and HELD under HOLD until the host's ACK
(R583). The operation answers SEQ or FAIL_CONFLICT (R585). Each of these forms completes here, in a next state: surveyNow,
surveyDone, surveyAck, survey. -/
def Obligations.SurveyLatchesTheModule : Prop :=
  ∀ (s : State) (q : Nat), s.Up → q = (s.fld Reg.SUP_SURVEY_STAT 0 16 + 1) % 2 ^ 16 →
    (s.flag Reg.SUP_SURVEY_CFG 0 = true → s.sup.surveyClk ≠ some s.clk → s.flag Reg.SUP_SURVEY_STAT 16 = false →
      s.flag Reg.SUP_SURVEY_STAT 17 = false → s.sup.surveyEndClk ≠ some s.clk →
      (s.Passes .pcie Reg.SUP_SURVEY_NOW → ∃ t, exec .surveyNow s = .next t ∧ t.fld Reg.SUP_SURVEY_STAT 0 16 = q
        ∧ t.fld Reg.SUP_SURVEY_STAT 18 5 = 1 ∧ t.sup.surveyCh = s.chain ∧ t.sup.surveyClk = some s.clk
        ∧ t.flag Reg.SUP_SURVEY_STAT 16 = surveyOther.any (fun e => s.surveyEn e.1)
        ∧ (∀ b, b ∈ surveySys → s.surveyEn b = true → t.flag (Reg.STAT b) 3 = true ∧ t.num (Reg.SNAP_SEQ b) = q)
        ∧ (∀ b, b ∈ surveyOther.map (·.1) → s.surveyEn b = true → t.flag (Reg.STAT b) 3 = false)
        ∧ OnlyChanges [.regs, .out, .sup] s t) ∧
      (∀ k x, tfind? s.hlk.serving k = none → s.activeOp k Blk.SUP 3 = some x → ∃ t, exec (.survey k) s = .next t
        ∧ t.Ended k St.OK (BitVec.ofNat 32 q) ∧ t.fld Reg.SUP_SURVEY_STAT 0 16 = q
        ∧ OnlyChanges [.regs, .out, .sup, .opt, .scn] s t)) ∧
    (s.flag Reg.SUP_SURVEY_CFG 0 = true → s.sup.surveyClk ≠ some s.clk → s.flag Reg.SUP_SURVEY_STAT 16 = true →
      (s.Passes .pcie Reg.SUP_SURVEY_NOW → ∃ t, exec .surveyNow s = .next t ∧ t.flag (Reg.IRQ_STAT Blk.SUP) 6 = true
        ∧ t.num Reg.SUP_SURVEY_OVR_CNT = Nat.min (s.num Reg.SUP_SURVEY_OVR_CNT + 1) (2 ^ 32 - 1)
        ∧ OnlyChanges [.regs, .out] s t ∧ OnlyRegs (Reg.SUP_SURVEY_OVR_CNT :: irqRegs Blk.SUP) s t) ∧
      (∀ k x, tfind? s.hlk.serving k = none → s.activeOp k Blk.SUP 3 = some x → ∃ t, exec (.survey k) s = .next t
        ∧ t.Ended k St.FAIL_CONFLICT 0 ∧ OnlyChanges [.regs, .out, .opt, .scn] s t)) ∧
    (s.flag Reg.SUP_SURVEY_CFG 0 = false → s.Passes .pcie Reg.SUP_SURVEY_NOW → ∃ t, exec .surveyNow s = .next t
      ∧ t.num Reg.SUP_SURVEY_OVR_CNT = Nat.min (s.num Reg.SUP_SURVEY_OVR_CNT + 1) (2 ^ 32 - 1)
      ∧ OnlyChanges [.regs] s t ∧ OnlyRegs [Reg.SUP_SURVEY_OVR_CNT] s t) ∧
    (s.Passes .pcie Reg.SUP_SURVEY_ACK → exec .surveyAck s = .next (s.setFlag Reg.SUP_SURVEY_STAT 17 false)) ∧
    (∀ l n, s.flag Reg.SUP_SURVEY_STAT 16 = true → ∃ t, exec (.surveyDone l n) s = .next t
      ∧ t.flag Reg.SUP_SURVEY_STAT 16 = false ∧ t.sup.surveyClk = none ∧ t.flag (Reg.IRQ_STAT Blk.SUP) 5 = true
      ∧ t.flag Reg.SUP_SURVEY_STAT 17 = (s.flag Reg.SUP_SURVEY_CFG 8 || s.flag Reg.SUP_SURVEY_STAT 17)
      ∧ (∀ b m, (b, m) ∈ surveyOther → s.surveyEn b = true → t.flag (Reg.STAT b) 3 = true
        ∧ t.num (Reg.SNAP_SEQ b) % 2 ^ 16 = s.fld Reg.SUP_SURVEY_STAT 0 16)
      ∧ ((∀ e, e ∈ surveyOther → s.surveyEn e.1 = (e.1 == Blk.HIF)) → t.num Reg.SUP_SURVEY_LAT = Nat.min 8 (l.getD 0 0))
      ∧ OnlyChanges [.regs, .out, .sup, .emu, .rtc] s t)

/-! ### The whole machine -/

/-- While the module is held in reset, no command changes anything but those of the backup domain, the dies and the supply (R570,
R611). -/
def Obligations.HeldInResetNothingHappens : Prop :=
  ∀ (c : Instr) (s : State), s.sup.inReset = true → livesInReset c = false → exec c s = .next s

/-- What the OTP may hold, kept by every step (R543): a state of the life cycle, SCRAPPED exactly with dead helper data, and rows
that are never unblown. -/
def Obligations.OtpOnlyMovesForward : Prop :=
  ∀ s t : State, s.OtpInv → step s = .next t →
    t.OtpInv ∧ s.key.otpEpoch ≤ t.key.otpEpoch ∧ t.key.otpLeft ≤ s.key.otpLeft
      ∧ (s.key.otpState = 4 → t.key.otpState = 4)

/-- At power-on no interrupt is enabled and no ring runs, the module is held in reset and starting (R570), DATE_INVALID and OSF
stand as a power-up of the backup domain leaves them (R529), and the OTP holds what R543 allows. -/
def Obligations.ResetIsHeldAndLawful : Prop :=
  State.reset.OtpInv ∧ State.reset.sup.inReset = true ∧ State.reset.mode = Mode.STARTING ∧ State.reset.pending = []
    ∧ State.reset.rtcBit RtcBit.OSF = true ∧ State.reset.rtcHalt = true
    ∧ (∀ b, b < 20 → State.reset.reg (Reg.IRQ_EN b) = 0 ∧ State.reset.reg (Reg.IRQ_STAT b) = 0 ∧ State.reset.en b = false)
end

