-- ==== Sys2Proof/Laws/Bits.lean ====
section
/-! SUPPORT. What a bit field reads after a field is written. -/

namespace Sys2Proof.Machine

theorem bitsOf_lt (x lo w : Nat) : bitsOf x lo w < 2 ^ w := Nat.mod_lt _ (Nat.two_pow_pos w)

theorem bitsOf_mul_le (x lo w : Nat) : bitsOf x lo w * 2 ^ lo ≤ x :=
  Nat.le_trans (Nat.mul_le_mul_right _ (Nat.mod_le _ _)) (Nat.div_mul_le_self x (2 ^ lo))

/-- A number is the part above a field, the field, and the part below. -/
theorem bits_split (x lo w : Nat) :
    x = x / 2 ^ (lo + w) * 2 ^ (lo + w) + bitsOf x lo w * 2 ^ lo + x % 2 ^ lo := by
  have h1 := Nat.div_add_mod x (2 ^ lo)
  have h2 := Nat.div_add_mod (x / 2 ^ lo) (2 ^ w)
  rw [Nat.div_div_eq_div_mul, ← Nat.pow_add] at h2
  unfold bitsOf
  rw [Nat.pow_add]
  calc x = 2 ^ lo * (x / 2 ^ lo) + x % 2 ^ lo := h1.symm
    _ = 2 ^ lo * (2 ^ w * (x / 2 ^ (lo + w)) + x / 2 ^ lo % 2 ^ w) + x % 2 ^ lo := by rw [h2]
    _ = _ := by rw [Nat.pow_add]; ring

theorem putBits_eq (x lo w v : Nat) :
    putBits x lo w v = x / 2 ^ (lo + w) * 2 ^ (lo + w) + v % 2 ^ w * 2 ^ lo + x % 2 ^ lo := by
  have h := bits_split x lo w
  unfold putBits
  omega

/-- A field reads what was written to it. -/
theorem bitsOf_putBits_same (x lo w v : Nat) : bitsOf (putBits x lo w v) lo w = v % 2 ^ w := by
  rw [putBits_eq]
  unfold bitsOf
  have hp := Nat.two_pow_pos lo
  have e : x / 2 ^ (lo + w) * 2 ^ (lo + w) + v % 2 ^ w * 2 ^ lo + x % 2 ^ lo
      = (x / 2 ^ (lo + w) * 2 ^ w + v % 2 ^ w) * 2 ^ lo + x % 2 ^ lo := by rw [Nat.pow_add]; ring
  rw [e, Nat.mul_comm, Nat.mul_add_div hp, Nat.div_eq_of_lt (Nat.mod_lt _ hp), Nat.add_zero, Nat.mul_comm,
    Nat.mul_add_mod, Nat.mod_mod]

/-- Writing a field of a 32-bit number leaves it within 32 bits. -/
theorem putBits_lt (x lo w v n : Nat) (h : lo + w ≤ n) (hx : x < 2 ^ n) : putBits x lo w v < 2 ^ n := by
  rw [putBits_eq]
  have hv : v % 2 ^ w + 1 ≤ 2 ^ w := Nat.mod_lt _ (Nat.two_pow_pos w)
  have hl : x % 2 ^ lo < 2 ^ lo := Nat.mod_lt _ (Nat.two_pow_pos lo)
  have hs : n = lo + w + (n - (lo + w)) := by omega
  have hq : x / 2 ^ (lo + w) + 1 ≤ 2 ^ (n - (lo + w)) := by
    apply (Nat.div_lt_iff_lt_mul (Nat.two_pow_pos _)).2
    rw [← Nat.pow_add, Nat.add_comm, ← hs]; exact hx
  have h1 : (v % 2 ^ w + 1) * 2 ^ lo ≤ 2 ^ w * 2 ^ lo := Nat.mul_le_mul_right _ hv
  have h2 : (x / 2 ^ (lo + w) + 1) * 2 ^ (lo + w) ≤ 2 ^ (n - (lo + w)) * 2 ^ (lo + w) := Nat.mul_le_mul_right _ hq
  have e1 : 2 ^ (n - (lo + w)) * 2 ^ (lo + w) = 2 ^ n := by rw [← Nat.pow_add]; congr 1; omega
  have e2 : 2 ^ w * 2 ^ lo = 2 ^ (lo + w) := by rw [← Nat.pow_add]; congr 1; omega
  rw [e1] at h2
  rw [e2] at h1
  rw [Nat.add_mul, Nat.one_mul] at h1 h2
  omega

/-- A field above or below the one written keeps its value. -/
theorem bitsOf_putBits_other (x lo w v lo' w' : Nat) (h : lo + w ≤ lo' ∨ lo' + w' ≤ lo) :
    bitsOf (putBits x lo w v) lo' w' = bitsOf x lo' w' := by
  rw [putBits_eq]
  rcases h with h | h
  · have hb : v % 2 ^ w * 2 ^ lo + x % 2 ^ lo < 2 ^ (lo + w) := by
      have hv : v % 2 ^ w + 1 ≤ 2 ^ w := Nat.mod_lt _ (Nat.two_pow_pos w)
      have hl : x % 2 ^ lo < 2 ^ lo := Nat.mod_lt _ (Nat.two_pow_pos lo)
      have h1 : (v % 2 ^ w + 1) * 2 ^ lo ≤ 2 ^ w * 2 ^ lo := Nat.mul_le_mul_right _ hv
      have e2 : 2 ^ w * 2 ^ lo = 2 ^ (lo + w) := by rw [← Nat.pow_add]; congr 1; omega
      rw [e2, Nat.add_mul, Nat.one_mul] at h1
      omega
    have hs : lo' = lo + w + (lo' - (lo + w)) := by omega
    have hd : ∀ y, y / 2 ^ lo' = y / 2 ^ (lo + w) / 2 ^ (lo' - (lo + w)) := by
      intro y; rw [Nat.div_div_eq_div_mul, ← Nat.pow_add, ← hs]
    unfold bitsOf
    rw [hd, hd x, Nat.add_assoc, Nat.mul_comm (x / _), Nat.mul_add_div (Nat.two_pow_pos _), Nat.div_eq_of_lt hb, Nat.add_zero]
  · unfold bitsOf
    have key : ∀ y, y / 2 ^ lo' % 2 ^ w' = y % 2 ^ lo / 2 ^ lo' % 2 ^ w' := by
      intro y
      have hs : lo = lo' + w' + (lo - (lo' + w')) := by omega
      conv_rhs => rw [hs, Nat.add_assoc, Nat.pow_add 2 lo', Nat.mod_mul_right_div_self, Nat.pow_add]
      rw [Nat.mod_mul_right_mod]
    rw [key, key x]
    congr 2
    have hs : lo + w = lo + w := rfl
    rw [Nat.pow_add]
    have e : x / (2 ^ lo * 2 ^ w) * (2 ^ lo * 2 ^ w) + v % 2 ^ w * 2 ^ lo + x % 2 ^ lo
        = 2 ^ lo * (x / (2 ^ lo * 2 ^ w) * 2 ^ w + v % 2 ^ w) + x % 2 ^ lo := by ring
    rw [e, Nat.mul_add_mod, Nat.mod_mod]

end Sys2Proof.Machine
end

