-- ==== Sys2Proof/Laws/Tbl.lean ====
section
/-! SUPPORT. Reads after writes of the sparse tables, and that every write keeps the canonical form. -/

namespace Sys2Proof.Machine

variable {α : Type}

theorem tget_tput (d : Nat → α) (t : Tbl α) (k j : Nat) (v : α) :
    tget d (tput t k v) j = if k = j then v else tget d t j := by
  induction t with
  | nil => by_cases h : k = j <;> simp [tput, tget, h]
  | cons e r ih =>
    obtain ⟨i, w⟩ := e
    by_cases h1 : k < i
    · rw [tput, if_pos h1]; simp [tget]
    · by_cases h2 : k = i
      · subst h2; by_cases h : k = j <;> simp [tput, tget, h]
      · by_cases h : i = j
        · subst h; simp [tput, tget, h1, h2]
        · simp [tput, tget, h1, h2, h, ih]

theorem tget_tdel (d : Nat → α) (t : Tbl α) (k j : Nat) :
    tget d (tdel t k) j = if k = j then d j else tget d t j := by
  induction t with
  | nil => simp [tdel, tget]
  | cons e r ih =>
    obtain ⟨i, w⟩ := e
    unfold tdel at ih ⊢
    by_cases h : i = k
    · subst h; by_cases h' : i = j
      · subst h'; simp at ih; simp [ih]
      · simp [h'] at ih; simp [tget, ih, h']
    · by_cases h' : i = j
      · subst h'; simp [tget, h, Ne.symm h]
      · simp [tget, h, h', ih]

/-- A read after a write: the value at its key, every other key as before. -/
theorem tget_tset [DecidableEq α] (d : Nat → α) (t : Tbl α) (k j : Nat) (v : α) :
    tget d (tset d t k v) j = if k = j then v else tget d t j := by
  unfold tset
  split
  · next h => rw [tget_tdel]; split
              · next h' => subst h'; exact h.symm
              · rfl
  · exact tget_tput d t k j v

theorem tfind?_tput (t : Tbl α) (k j : Nat) (v : α) :
    tfind? (tput t k v) j = if k = j then some v else tfind? t j := by
  induction t with
  | nil => by_cases h : k = j <;> simp [tput, tfind?, h]
  | cons e r ih =>
    obtain ⟨i, w⟩ := e
    by_cases h1 : k < i
    · rw [tput, if_pos h1]; simp [tfind?]
    · by_cases h2 : k = i
      · subst h2; by_cases h : k = j <;> simp [tput, tfind?, h]
      · by_cases h : i = j
        · subst h; simp [tput, tfind?, h1, h2]
        · simp [tput, tfind?, h1, h2, h, ih]

theorem tfind?_tdel (t : Tbl α) (k j : Nat) :
    tfind? (tdel t k) j = if k = j then none else tfind? t j := by
  induction t with
  | nil => simp [tdel, tfind?]
  | cons e r ih =>
    obtain ⟨i, w⟩ := e
    unfold tdel at ih ⊢
    by_cases h : i = k
    · subst h; by_cases h' : i = j
      · subst h'; simp at ih; simp [tfind?, ih]
      · simp [h'] at ih; simp [tfind?, ih, h']
    · by_cases h' : i = j
      · subst h'; simp [tfind?, h, Ne.symm h]
      · simp [tfind?, h, h', ih]

theorem risingFrom_mono (lo lo' : Nat) (t : Tbl α) (h : lo ≤ lo') (ht : risingFrom lo' t = true) :
    risingFrom lo t = true := by
  cases t with
  | nil => rfl
  | cons e r =>
    simp only [risingFrom, Bool.and_eq_true, decide_eq_true_eq] at ht ⊢
    exact ⟨Nat.le_trans h ht.1, ht.2⟩

theorem risingFrom_tput (t : Tbl α) (lo k : Nat) (v : α) (hk : lo ≤ k) (h : risingFrom lo t = true) :
    risingFrom lo (tput t k v) = true := by
  induction t generalizing lo with
  | nil => simp [tput, risingFrom, hk]
  | cons e r ih =>
    obtain ⟨i, w⟩ := e
    simp only [risingFrom, Bool.and_eq_true, decide_eq_true_eq] at h
    unfold tput
    split
    · next h1 => simp only [risingFrom, Bool.and_eq_true, decide_eq_true_eq]; exact ⟨hk, by omega, h.2⟩
    · split
      · next h1 h2 => subst h2; simp only [risingFrom, Bool.and_eq_true, decide_eq_true_eq]; exact ⟨hk, h.2⟩
      · next h1 h2 =>
        simp only [risingFrom, Bool.and_eq_true, decide_eq_true_eq]
        exact ⟨h.1, ih (i + 1) (by omega) h.2⟩

theorem risingFrom_filter (t : Tbl α) (p : Nat × α → Bool) (lo : Nat) (h : risingFrom lo t = true) :
    risingFrom lo (t.filter p) = true := by
  induction t generalizing lo with
  | nil => rfl
  | cons e r ih =>
    obtain ⟨i, w⟩ := e
    simp only [risingFrom, Bool.and_eq_true, decide_eq_true_eq] at h
    rw [List.filter_cons]
    split
    · simp only [risingFrom, Bool.and_eq_true, decide_eq_true_eq]; exact ⟨h.1, ih _ h.2⟩
    · exact risingFrom_mono lo (i + 1) _ (by omega) (ih _ h.2)

theorem mem_tput (t : Tbl α) (k : Nat) (v : α) (e : Nat × α) (h : e ∈ tput t k v) : e = (k, v) ∨ e ∈ t := by
  induction t with
  | nil => simp only [tput, List.mem_singleton] at h; exact .inl h
  | cons f r ih =>
    obtain ⟨i, w⟩ := f
    unfold tput at h
    split at h
    · simpa using h
    · split at h
      · rcases List.mem_cons.1 h with h | h
        · exact .inl h
        · exact .inr (List.mem_cons_of_mem _ h)
      · rcases List.mem_cons.1 h with h | h
        · exact .inr (h ▸ List.mem_cons_self)
        · rcases ih h with h | h
          · exact .inl h
          · exact .inr (List.mem_cons_of_mem _ h)

/-- A write keeps the canonical form. -/
theorem twf_tset [DecidableEq α] (d : Nat → α) (t : Tbl α) (k : Nat) (v : α) (h : twf d t = true) :
    twf d (tset d t k v) = true := by
  unfold twf at h ⊢
  rw [Bool.and_eq_true] at h ⊢
  unfold tset
  split
  · exact ⟨risingFrom_filter t _ 0 h.1,
      List.all_eq_true.2 fun e he => List.all_eq_true.1 h.2 e (List.mem_filter.1 he).1⟩
  · next hv =>
    refine ⟨risingFrom_tput t 0 k v (Nat.zero_le k) h.1, List.all_eq_true.2 fun e he => ?_⟩
    rcases mem_tput t k v e he with rfl | he
    · exact decide_eq_true hv
    · exact List.all_eq_true.1 h.2 e he

/-- Dropping entries keeps the canonical form. -/
theorem twf_tdrop [DecidableEq α] (d : Nat → α) (t : Tbl α) (p : Nat → Bool) (h : twf d t = true) :
    twf d (tdrop t p) = true := by
  unfold twf at h ⊢
  rw [Bool.and_eq_true] at h ⊢
  exact ⟨risingFrom_filter t _ 0 h.1,
    List.all_eq_true.2 fun e he => List.all_eq_true.1 h.2 e (List.mem_filter.1 he).1⟩

end Sys2Proof.Machine
end

