-- ==== Sys2Proof/Laws/State.lean ====
section
/-! SUPPORT. What each basic update leaves unchanged, field by field, and what registers, points, claims and slots read after
a write. -/

namespace Sys2Proof.Machine

@[simp] theorem State.setReg_pending (s : State) (off : Nat) (v : Word) : (s.setReg off v).pending = s.pending := rfl
@[simp] theorem State.setReg_late (s : State) (off : Nat) (v : Word) : (s.setReg off v).late = s.late := rfl
@[simp] theorem State.setReg_coreWait (s : State) (off : Nat) (v : Word) : (s.setReg off v).coreWait = s.coreWait := rfl
@[simp] theorem State.setReg_clk (s : State) (off : Nat) (v : Word) : (s.setReg off v).clk = s.clk := rfl
@[simp] theorem State.setReg_free (s : State) (off : Nat) (v : Word) : (s.setReg off v).free = s.free := rfl
@[simp] theorem State.setReg_out (s : State) (off : Nat) (v : Word) : (s.setReg off v).out = s.out := rfl
@[simp] theorem State.setReg_image (s : State) (off : Nat) (v : Word) : (s.setReg off v).image = s.image := rfl
@[simp] theorem State.setReg_latch (s : State) (off : Nat) (v : Word) : (s.setReg off v).latch = s.latch := rfl
@[simp] theorem State.setReg_loLatch (s : State) (off : Nat) (v : Word) : (s.setReg off v).loLatch = s.loLatch := rfl
@[simp] theorem State.setReg_loPend (s : State) (off : Nat) (v : Word) : (s.setReg off v).loPend = s.loPend := rfl
@[simp] theorem State.setReg_errDetail (s : State) (off : Nat) (v : Word) : (s.setReg off v).errDetail = s.errDetail := rfl
@[simp] theorem State.setReg_claims (s : State) (off : Nat) (v : Word) : (s.setReg off v).claims = s.claims := rfl
@[simp] theorem State.setReg_points (s : State) (off : Nat) (v : Word) : (s.setReg off v).points = s.points := rfl
@[simp] theorem State.setReg_notes (s : State) (off : Nat) (v : Word) : (s.setReg off v).notes = s.notes := rfl
@[simp] theorem State.setReg_opt (s : State) (off : Nat) (v : Word) : (s.setReg off v).opt = s.opt := rfl
@[simp] theorem State.setReg_hif (s : State) (off : Nat) (v : Word) : (s.setReg off v).hif = s.hif := rfl
@[simp] theorem State.setReg_lat (s : State) (off : Nat) (v : Word) : (s.setReg off v).lat = s.lat := rfl
@[simp] theorem State.setReg_sup (s : State) (off : Nat) (v : Word) : (s.setReg off v).sup = s.sup := rfl
@[simp] theorem State.setReg_key (s : State) (off : Nat) (v : Word) : (s.setReg off v).key = s.key := rfl
@[simp] theorem State.setReg_ten (s : State) (off : Nat) (v : Word) : (s.setReg off v).ten = s.ten := rfl
@[simp] theorem State.setReg_tbs (s : State) (off : Nat) (v : Word) : (s.setReg off v).tbs = s.tbs := rfl
@[simp] theorem State.setReg_fab (s : State) (off : Nat) (v : Word) : (s.setReg off v).fab = s.fab := rfl
@[simp] theorem State.setReg_ntu (s : State) (off : Nat) (v : Word) : (s.setReg off v).ntu = s.ntu := rfl
@[simp] theorem State.setReg_pse (s : State) (off : Nat) (v : Word) : (s.setReg off v).pse = s.pse := rfl
@[simp] theorem State.setReg_arb (s : State) (off : Nat) (v : Word) : (s.setReg off v).arb = s.arb := rfl
@[simp] theorem State.setReg_lcp (s : State) (off : Nat) (v : Word) : (s.setReg off v).lcp = s.lcp := rfl
@[simp] theorem State.setReg_dio (s : State) (off : Nat) (v : Word) : (s.setReg off v).dio = s.dio := rfl
@[simp] theorem State.setReg_scn (s : State) (off : Nat) (v : Word) : (s.setReg off v).scn = s.scn := rfl
@[simp] theorem State.setReg_hlk (s : State) (off : Nat) (v : Word) : (s.setReg off v).hlk = s.hlk := rfl
@[simp] theorem State.setReg_fbc (s : State) (off : Nat) (v : Word) : (s.setReg off v).fbc = s.fbc := rfl
@[simp] theorem State.setReg_rtc (s : State) (off : Nat) (v : Word) : (s.setReg off v).rtc = s.rtc := rfl
@[simp] theorem State.setReg_lpe (s : State) (off : Nat) (v : Word) : (s.setReg off v).lpe = s.lpe := rfl
@[simp] theorem State.setReg_emu (s : State) (off : Nat) (v : Word) : (s.setReg off v).emu = s.emu := rfl
@[simp] theorem State.setReg_sto (s : State) (off : Nat) (v : Word) : (s.setReg off v).sto = s.sto := rfl

@[simp] theorem State.setFld_pending (s : State) (off lo w v : Nat) : (s.setFld off lo w v).pending = s.pending := rfl
@[simp] theorem State.setFld_late (s : State) (off lo w v : Nat) : (s.setFld off lo w v).late = s.late := rfl
@[simp] theorem State.setFld_coreWait (s : State) (off lo w v : Nat) : (s.setFld off lo w v).coreWait = s.coreWait := rfl
@[simp] theorem State.setFld_clk (s : State) (off lo w v : Nat) : (s.setFld off lo w v).clk = s.clk := rfl
@[simp] theorem State.setFld_free (s : State) (off lo w v : Nat) : (s.setFld off lo w v).free = s.free := rfl
@[simp] theorem State.setFld_out (s : State) (off lo w v : Nat) : (s.setFld off lo w v).out = s.out := rfl
@[simp] theorem State.setFld_image (s : State) (off lo w v : Nat) : (s.setFld off lo w v).image = s.image := rfl
@[simp] theorem State.setFld_latch (s : State) (off lo w v : Nat) : (s.setFld off lo w v).latch = s.latch := rfl
@[simp] theorem State.setFld_loLatch (s : State) (off lo w v : Nat) : (s.setFld off lo w v).loLatch = s.loLatch := rfl
@[simp] theorem State.setFld_loPend (s : State) (off lo w v : Nat) : (s.setFld off lo w v).loPend = s.loPend := rfl
@[simp] theorem State.setFld_errDetail (s : State) (off lo w v : Nat) : (s.setFld off lo w v).errDetail = s.errDetail := rfl
@[simp] theorem State.setFld_claims (s : State) (off lo w v : Nat) : (s.setFld off lo w v).claims = s.claims := rfl
@[simp] theorem State.setFld_points (s : State) (off lo w v : Nat) : (s.setFld off lo w v).points = s.points := rfl
@[simp] theorem State.setFld_notes (s : State) (off lo w v : Nat) : (s.setFld off lo w v).notes = s.notes := rfl
@[simp] theorem State.setFld_opt (s : State) (off lo w v : Nat) : (s.setFld off lo w v).opt = s.opt := rfl
@[simp] theorem State.setFld_hif (s : State) (off lo w v : Nat) : (s.setFld off lo w v).hif = s.hif := rfl
@[simp] theorem State.setFld_lat (s : State) (off lo w v : Nat) : (s.setFld off lo w v).lat = s.lat := rfl
@[simp] theorem State.setFld_sup (s : State) (off lo w v : Nat) : (s.setFld off lo w v).sup = s.sup := rfl
@[simp] theorem State.setFld_key (s : State) (off lo w v : Nat) : (s.setFld off lo w v).key = s.key := rfl
@[simp] theorem State.setFld_ten (s : State) (off lo w v : Nat) : (s.setFld off lo w v).ten = s.ten := rfl
@[simp] theorem State.setFld_tbs (s : State) (off lo w v : Nat) : (s.setFld off lo w v).tbs = s.tbs := rfl
@[simp] theorem State.setFld_fab (s : State) (off lo w v : Nat) : (s.setFld off lo w v).fab = s.fab := rfl
@[simp] theorem State.setFld_ntu (s : State) (off lo w v : Nat) : (s.setFld off lo w v).ntu = s.ntu := rfl
@[simp] theorem State.setFld_pse (s : State) (off lo w v : Nat) : (s.setFld off lo w v).pse = s.pse := rfl
@[simp] theorem State.setFld_arb (s : State) (off lo w v : Nat) : (s.setFld off lo w v).arb = s.arb := rfl
@[simp] theorem State.setFld_lcp (s : State) (off lo w v : Nat) : (s.setFld off lo w v).lcp = s.lcp := rfl
@[simp] theorem State.setFld_dio (s : State) (off lo w v : Nat) : (s.setFld off lo w v).dio = s.dio := rfl
@[simp] theorem State.setFld_scn (s : State) (off lo w v : Nat) : (s.setFld off lo w v).scn = s.scn := rfl
@[simp] theorem State.setFld_hlk (s : State) (off lo w v : Nat) : (s.setFld off lo w v).hlk = s.hlk := rfl
@[simp] theorem State.setFld_fbc (s : State) (off lo w v : Nat) : (s.setFld off lo w v).fbc = s.fbc := rfl
@[simp] theorem State.setFld_rtc (s : State) (off lo w v : Nat) : (s.setFld off lo w v).rtc = s.rtc := rfl
@[simp] theorem State.setFld_lpe (s : State) (off lo w v : Nat) : (s.setFld off lo w v).lpe = s.lpe := rfl
@[simp] theorem State.setFld_emu (s : State) (off lo w v : Nat) : (s.setFld off lo w v).emu = s.emu := rfl
@[simp] theorem State.setFld_sto (s : State) (off lo w v : Nat) : (s.setFld off lo w v).sto = s.sto := rfl

@[simp] theorem State.setFlag_pending (s : State) (off i : Nat) (b : Bool) : (s.setFlag off i b).pending = s.pending := rfl
@[simp] theorem State.setFlag_late (s : State) (off i : Nat) (b : Bool) : (s.setFlag off i b).late = s.late := rfl
@[simp] theorem State.setFlag_coreWait (s : State) (off i : Nat) (b : Bool) : (s.setFlag off i b).coreWait = s.coreWait := rfl
@[simp] theorem State.setFlag_clk (s : State) (off i : Nat) (b : Bool) : (s.setFlag off i b).clk = s.clk := rfl
@[simp] theorem State.setFlag_free (s : State) (off i : Nat) (b : Bool) : (s.setFlag off i b).free = s.free := rfl
@[simp] theorem State.setFlag_out (s : State) (off i : Nat) (b : Bool) : (s.setFlag off i b).out = s.out := rfl
@[simp] theorem State.setFlag_image (s : State) (off i : Nat) (b : Bool) : (s.setFlag off i b).image = s.image := rfl
@[simp] theorem State.setFlag_latch (s : State) (off i : Nat) (b : Bool) : (s.setFlag off i b).latch = s.latch := rfl
@[simp] theorem State.setFlag_loLatch (s : State) (off i : Nat) (b : Bool) : (s.setFlag off i b).loLatch = s.loLatch := rfl
@[simp] theorem State.setFlag_loPend (s : State) (off i : Nat) (b : Bool) : (s.setFlag off i b).loPend = s.loPend := rfl
@[simp] theorem State.setFlag_errDetail (s : State) (off i : Nat) (b : Bool) : (s.setFlag off i b).errDetail = s.errDetail := rfl
@[simp] theorem State.setFlag_claims (s : State) (off i : Nat) (b : Bool) : (s.setFlag off i b).claims = s.claims := rfl
@[simp] theorem State.setFlag_points (s : State) (off i : Nat) (b : Bool) : (s.setFlag off i b).points = s.points := rfl
@[simp] theorem State.setFlag_notes (s : State) (off i : Nat) (b : Bool) : (s.setFlag off i b).notes = s.notes := rfl
@[simp] theorem State.setFlag_opt (s : State) (off i : Nat) (b : Bool) : (s.setFlag off i b).opt = s.opt := rfl
@[simp] theorem State.setFlag_hif (s : State) (off i : Nat) (b : Bool) : (s.setFlag off i b).hif = s.hif := rfl
@[simp] theorem State.setFlag_lat (s : State) (off i : Nat) (b : Bool) : (s.setFlag off i b).lat = s.lat := rfl
@[simp] theorem State.setFlag_sup (s : State) (off i : Nat) (b : Bool) : (s.setFlag off i b).sup = s.sup := rfl
@[simp] theorem State.setFlag_key (s : State) (off i : Nat) (b : Bool) : (s.setFlag off i b).key = s.key := rfl
@[simp] theorem State.setFlag_ten (s : State) (off i : Nat) (b : Bool) : (s.setFlag off i b).ten = s.ten := rfl
@[simp] theorem State.setFlag_tbs (s : State) (off i : Nat) (b : Bool) : (s.setFlag off i b).tbs = s.tbs := rfl
@[simp] theorem State.setFlag_fab (s : State) (off i : Nat) (b : Bool) : (s.setFlag off i b).fab = s.fab := rfl
@[simp] theorem State.setFlag_ntu (s : State) (off i : Nat) (b : Bool) : (s.setFlag off i b).ntu = s.ntu := rfl
@[simp] theorem State.setFlag_pse (s : State) (off i : Nat) (b : Bool) : (s.setFlag off i b).pse = s.pse := rfl
@[simp] theorem State.setFlag_arb (s : State) (off i : Nat) (b : Bool) : (s.setFlag off i b).arb = s.arb := rfl
@[simp] theorem State.setFlag_lcp (s : State) (off i : Nat) (b : Bool) : (s.setFlag off i b).lcp = s.lcp := rfl
@[simp] theorem State.setFlag_dio (s : State) (off i : Nat) (b : Bool) : (s.setFlag off i b).dio = s.dio := rfl
@[simp] theorem State.setFlag_scn (s : State) (off i : Nat) (b : Bool) : (s.setFlag off i b).scn = s.scn := rfl
@[simp] theorem State.setFlag_hlk (s : State) (off i : Nat) (b : Bool) : (s.setFlag off i b).hlk = s.hlk := rfl
@[simp] theorem State.setFlag_fbc (s : State) (off i : Nat) (b : Bool) : (s.setFlag off i b).fbc = s.fbc := rfl
@[simp] theorem State.setFlag_rtc (s : State) (off i : Nat) (b : Bool) : (s.setFlag off i b).rtc = s.rtc := rfl
@[simp] theorem State.setFlag_lpe (s : State) (off i : Nat) (b : Bool) : (s.setFlag off i b).lpe = s.lpe := rfl
@[simp] theorem State.setFlag_emu (s : State) (off i : Nat) (b : Bool) : (s.setFlag off i b).emu = s.emu := rfl
@[simp] theorem State.setFlag_sto (s : State) (off i : Nat) (b : Bool) : (s.setFlag off i b).sto = s.sto := rfl

@[simp] theorem State.setNum_pending (s : State) (off v : Nat) : (s.setNum off v).pending = s.pending := rfl
@[simp] theorem State.setNum_late (s : State) (off v : Nat) : (s.setNum off v).late = s.late := rfl
@[simp] theorem State.setNum_coreWait (s : State) (off v : Nat) : (s.setNum off v).coreWait = s.coreWait := rfl
@[simp] theorem State.setNum_clk (s : State) (off v : Nat) : (s.setNum off v).clk = s.clk := rfl
@[simp] theorem State.setNum_free (s : State) (off v : Nat) : (s.setNum off v).free = s.free := rfl
@[simp] theorem State.setNum_out (s : State) (off v : Nat) : (s.setNum off v).out = s.out := rfl
@[simp] theorem State.setNum_image (s : State) (off v : Nat) : (s.setNum off v).image = s.image := rfl
@[simp] theorem State.setNum_latch (s : State) (off v : Nat) : (s.setNum off v).latch = s.latch := rfl
@[simp] theorem State.setNum_loLatch (s : State) (off v : Nat) : (s.setNum off v).loLatch = s.loLatch := rfl
@[simp] theorem State.setNum_loPend (s : State) (off v : Nat) : (s.setNum off v).loPend = s.loPend := rfl
@[simp] theorem State.setNum_errDetail (s : State) (off v : Nat) : (s.setNum off v).errDetail = s.errDetail := rfl
@[simp] theorem State.setNum_claims (s : State) (off v : Nat) : (s.setNum off v).claims = s.claims := rfl
@[simp] theorem State.setNum_points (s : State) (off v : Nat) : (s.setNum off v).points = s.points := rfl
@[simp] theorem State.setNum_notes (s : State) (off v : Nat) : (s.setNum off v).notes = s.notes := rfl
@[simp] theorem State.setNum_opt (s : State) (off v : Nat) : (s.setNum off v).opt = s.opt := rfl
@[simp] theorem State.setNum_hif (s : State) (off v : Nat) : (s.setNum off v).hif = s.hif := rfl
@[simp] theorem State.setNum_lat (s : State) (off v : Nat) : (s.setNum off v).lat = s.lat := rfl
@[simp] theorem State.setNum_sup (s : State) (off v : Nat) : (s.setNum off v).sup = s.sup := rfl
@[simp] theorem State.setNum_key (s : State) (off v : Nat) : (s.setNum off v).key = s.key := rfl
@[simp] theorem State.setNum_ten (s : State) (off v : Nat) : (s.setNum off v).ten = s.ten := rfl
@[simp] theorem State.setNum_tbs (s : State) (off v : Nat) : (s.setNum off v).tbs = s.tbs := rfl
@[simp] theorem State.setNum_fab (s : State) (off v : Nat) : (s.setNum off v).fab = s.fab := rfl
@[simp] theorem State.setNum_ntu (s : State) (off v : Nat) : (s.setNum off v).ntu = s.ntu := rfl
@[simp] theorem State.setNum_pse (s : State) (off v : Nat) : (s.setNum off v).pse = s.pse := rfl
@[simp] theorem State.setNum_arb (s : State) (off v : Nat) : (s.setNum off v).arb = s.arb := rfl
@[simp] theorem State.setNum_lcp (s : State) (off v : Nat) : (s.setNum off v).lcp = s.lcp := rfl
@[simp] theorem State.setNum_dio (s : State) (off v : Nat) : (s.setNum off v).dio = s.dio := rfl
@[simp] theorem State.setNum_scn (s : State) (off v : Nat) : (s.setNum off v).scn = s.scn := rfl
@[simp] theorem State.setNum_hlk (s : State) (off v : Nat) : (s.setNum off v).hlk = s.hlk := rfl
@[simp] theorem State.setNum_fbc (s : State) (off v : Nat) : (s.setNum off v).fbc = s.fbc := rfl
@[simp] theorem State.setNum_rtc (s : State) (off v : Nat) : (s.setNum off v).rtc = s.rtc := rfl
@[simp] theorem State.setNum_lpe (s : State) (off v : Nat) : (s.setNum off v).lpe = s.lpe := rfl
@[simp] theorem State.setNum_emu (s : State) (off v : Nat) : (s.setNum off v).emu = s.emu := rfl
@[simp] theorem State.setNum_sto (s : State) (off v : Nat) : (s.setNum off v).sto = s.sto := rfl

@[simp] theorem State.satInc_pending (s : State) (off lo w n : Nat) : (s.satInc off lo w n).pending = s.pending := rfl
@[simp] theorem State.satInc_late (s : State) (off lo w n : Nat) : (s.satInc off lo w n).late = s.late := rfl
@[simp] theorem State.satInc_coreWait (s : State) (off lo w n : Nat) : (s.satInc off lo w n).coreWait = s.coreWait := rfl
@[simp] theorem State.satInc_clk (s : State) (off lo w n : Nat) : (s.satInc off lo w n).clk = s.clk := rfl
@[simp] theorem State.satInc_free (s : State) (off lo w n : Nat) : (s.satInc off lo w n).free = s.free := rfl
@[simp] theorem State.satInc_out (s : State) (off lo w n : Nat) : (s.satInc off lo w n).out = s.out := rfl
@[simp] theorem State.satInc_image (s : State) (off lo w n : Nat) : (s.satInc off lo w n).image = s.image := rfl
@[simp] theorem State.satInc_latch (s : State) (off lo w n : Nat) : (s.satInc off lo w n).latch = s.latch := rfl
@[simp] theorem State.satInc_loLatch (s : State) (off lo w n : Nat) : (s.satInc off lo w n).loLatch = s.loLatch := rfl
@[simp] theorem State.satInc_loPend (s : State) (off lo w n : Nat) : (s.satInc off lo w n).loPend = s.loPend := rfl
@[simp] theorem State.satInc_errDetail (s : State) (off lo w n : Nat) : (s.satInc off lo w n).errDetail = s.errDetail := rfl
@[simp] theorem State.satInc_claims (s : State) (off lo w n : Nat) : (s.satInc off lo w n).claims = s.claims := rfl
@[simp] theorem State.satInc_points (s : State) (off lo w n : Nat) : (s.satInc off lo w n).points = s.points := rfl
@[simp] theorem State.satInc_notes (s : State) (off lo w n : Nat) : (s.satInc off lo w n).notes = s.notes := rfl
@[simp] theorem State.satInc_opt (s : State) (off lo w n : Nat) : (s.satInc off lo w n).opt = s.opt := rfl
@[simp] theorem State.satInc_hif (s : State) (off lo w n : Nat) : (s.satInc off lo w n).hif = s.hif := rfl
@[simp] theorem State.satInc_lat (s : State) (off lo w n : Nat) : (s.satInc off lo w n).lat = s.lat := rfl
@[simp] theorem State.satInc_sup (s : State) (off lo w n : Nat) : (s.satInc off lo w n).sup = s.sup := rfl
@[simp] theorem State.satInc_key (s : State) (off lo w n : Nat) : (s.satInc off lo w n).key = s.key := rfl
@[simp] theorem State.satInc_ten (s : State) (off lo w n : Nat) : (s.satInc off lo w n).ten = s.ten := rfl
@[simp] theorem State.satInc_tbs (s : State) (off lo w n : Nat) : (s.satInc off lo w n).tbs = s.tbs := rfl
@[simp] theorem State.satInc_fab (s : State) (off lo w n : Nat) : (s.satInc off lo w n).fab = s.fab := rfl
@[simp] theorem State.satInc_ntu (s : State) (off lo w n : Nat) : (s.satInc off lo w n).ntu = s.ntu := rfl
@[simp] theorem State.satInc_pse (s : State) (off lo w n : Nat) : (s.satInc off lo w n).pse = s.pse := rfl
@[simp] theorem State.satInc_arb (s : State) (off lo w n : Nat) : (s.satInc off lo w n).arb = s.arb := rfl
@[simp] theorem State.satInc_lcp (s : State) (off lo w n : Nat) : (s.satInc off lo w n).lcp = s.lcp := rfl
@[simp] theorem State.satInc_dio (s : State) (off lo w n : Nat) : (s.satInc off lo w n).dio = s.dio := rfl
@[simp] theorem State.satInc_scn (s : State) (off lo w n : Nat) : (s.satInc off lo w n).scn = s.scn := rfl
@[simp] theorem State.satInc_hlk (s : State) (off lo w n : Nat) : (s.satInc off lo w n).hlk = s.hlk := rfl
@[simp] theorem State.satInc_fbc (s : State) (off lo w n : Nat) : (s.satInc off lo w n).fbc = s.fbc := rfl
@[simp] theorem State.satInc_rtc (s : State) (off lo w n : Nat) : (s.satInc off lo w n).rtc = s.rtc := rfl
@[simp] theorem State.satInc_lpe (s : State) (off lo w n : Nat) : (s.satInc off lo w n).lpe = s.lpe := rfl
@[simp] theorem State.satInc_emu (s : State) (off lo w n : Nat) : (s.satInc off lo w n).emu = s.emu := rfl
@[simp] theorem State.satInc_sto (s : State) (off lo w n : Nat) : (s.satInc off lo w n).sto = s.sto := rfl

@[simp] theorem State.wrapInc_pending (s : State) (off n : Nat) : (s.wrapInc off n).pending = s.pending := rfl
@[simp] theorem State.wrapInc_late (s : State) (off n : Nat) : (s.wrapInc off n).late = s.late := rfl
@[simp] theorem State.wrapInc_coreWait (s : State) (off n : Nat) : (s.wrapInc off n).coreWait = s.coreWait := rfl
@[simp] theorem State.wrapInc_clk (s : State) (off n : Nat) : (s.wrapInc off n).clk = s.clk := rfl
@[simp] theorem State.wrapInc_free (s : State) (off n : Nat) : (s.wrapInc off n).free = s.free := rfl
@[simp] theorem State.wrapInc_out (s : State) (off n : Nat) : (s.wrapInc off n).out = s.out := rfl
@[simp] theorem State.wrapInc_image (s : State) (off n : Nat) : (s.wrapInc off n).image = s.image := rfl
@[simp] theorem State.wrapInc_latch (s : State) (off n : Nat) : (s.wrapInc off n).latch = s.latch := rfl
@[simp] theorem State.wrapInc_loLatch (s : State) (off n : Nat) : (s.wrapInc off n).loLatch = s.loLatch := rfl
@[simp] theorem State.wrapInc_loPend (s : State) (off n : Nat) : (s.wrapInc off n).loPend = s.loPend := rfl
@[simp] theorem State.wrapInc_errDetail (s : State) (off n : Nat) : (s.wrapInc off n).errDetail = s.errDetail := rfl
@[simp] theorem State.wrapInc_claims (s : State) (off n : Nat) : (s.wrapInc off n).claims = s.claims := rfl
@[simp] theorem State.wrapInc_points (s : State) (off n : Nat) : (s.wrapInc off n).points = s.points := rfl
@[simp] theorem State.wrapInc_notes (s : State) (off n : Nat) : (s.wrapInc off n).notes = s.notes := rfl
@[simp] theorem State.wrapInc_opt (s : State) (off n : Nat) : (s.wrapInc off n).opt = s.opt := rfl
@[simp] theorem State.wrapInc_hif (s : State) (off n : Nat) : (s.wrapInc off n).hif = s.hif := rfl
@[simp] theorem State.wrapInc_lat (s : State) (off n : Nat) : (s.wrapInc off n).lat = s.lat := rfl
@[simp] theorem State.wrapInc_sup (s : State) (off n : Nat) : (s.wrapInc off n).sup = s.sup := rfl
@[simp] theorem State.wrapInc_key (s : State) (off n : Nat) : (s.wrapInc off n).key = s.key := rfl
@[simp] theorem State.wrapInc_ten (s : State) (off n : Nat) : (s.wrapInc off n).ten = s.ten := rfl
@[simp] theorem State.wrapInc_tbs (s : State) (off n : Nat) : (s.wrapInc off n).tbs = s.tbs := rfl
@[simp] theorem State.wrapInc_fab (s : State) (off n : Nat) : (s.wrapInc off n).fab = s.fab := rfl
@[simp] theorem State.wrapInc_ntu (s : State) (off n : Nat) : (s.wrapInc off n).ntu = s.ntu := rfl
@[simp] theorem State.wrapInc_pse (s : State) (off n : Nat) : (s.wrapInc off n).pse = s.pse := rfl
@[simp] theorem State.wrapInc_arb (s : State) (off n : Nat) : (s.wrapInc off n).arb = s.arb := rfl
@[simp] theorem State.wrapInc_lcp (s : State) (off n : Nat) : (s.wrapInc off n).lcp = s.lcp := rfl
@[simp] theorem State.wrapInc_dio (s : State) (off n : Nat) : (s.wrapInc off n).dio = s.dio := rfl
@[simp] theorem State.wrapInc_scn (s : State) (off n : Nat) : (s.wrapInc off n).scn = s.scn := rfl
@[simp] theorem State.wrapInc_hlk (s : State) (off n : Nat) : (s.wrapInc off n).hlk = s.hlk := rfl
@[simp] theorem State.wrapInc_fbc (s : State) (off n : Nat) : (s.wrapInc off n).fbc = s.fbc := rfl
@[simp] theorem State.wrapInc_rtc (s : State) (off n : Nat) : (s.wrapInc off n).rtc = s.rtc := rfl
@[simp] theorem State.wrapInc_lpe (s : State) (off n : Nat) : (s.wrapInc off n).lpe = s.lpe := rfl
@[simp] theorem State.wrapInc_emu (s : State) (off n : Nat) : (s.wrapInc off n).emu = s.emu := rfl
@[simp] theorem State.wrapInc_sto (s : State) (off n : Nat) : (s.wrapInc off n).sto = s.sto := rfl

@[simp] theorem State.setNum64_pending (s : State) (lo v : Nat) : (s.setNum64 lo v).pending = s.pending := rfl
@[simp] theorem State.setNum64_late (s : State) (lo v : Nat) : (s.setNum64 lo v).late = s.late := rfl
@[simp] theorem State.setNum64_coreWait (s : State) (lo v : Nat) : (s.setNum64 lo v).coreWait = s.coreWait := rfl
@[simp] theorem State.setNum64_clk (s : State) (lo v : Nat) : (s.setNum64 lo v).clk = s.clk := rfl
@[simp] theorem State.setNum64_free (s : State) (lo v : Nat) : (s.setNum64 lo v).free = s.free := rfl
@[simp] theorem State.setNum64_out (s : State) (lo v : Nat) : (s.setNum64 lo v).out = s.out := rfl
@[simp] theorem State.setNum64_image (s : State) (lo v : Nat) : (s.setNum64 lo v).image = s.image := rfl
@[simp] theorem State.setNum64_latch (s : State) (lo v : Nat) : (s.setNum64 lo v).latch = s.latch := rfl
@[simp] theorem State.setNum64_loLatch (s : State) (lo v : Nat) : (s.setNum64 lo v).loLatch = s.loLatch := rfl
@[simp] theorem State.setNum64_loPend (s : State) (lo v : Nat) : (s.setNum64 lo v).loPend = s.loPend := rfl
@[simp] theorem State.setNum64_errDetail (s : State) (lo v : Nat) : (s.setNum64 lo v).errDetail = s.errDetail := rfl
@[simp] theorem State.setNum64_claims (s : State) (lo v : Nat) : (s.setNum64 lo v).claims = s.claims := rfl
@[simp] theorem State.setNum64_points (s : State) (lo v : Nat) : (s.setNum64 lo v).points = s.points := rfl
@[simp] theorem State.setNum64_notes (s : State) (lo v : Nat) : (s.setNum64 lo v).notes = s.notes := rfl
@[simp] theorem State.setNum64_opt (s : State) (lo v : Nat) : (s.setNum64 lo v).opt = s.opt := rfl
@[simp] theorem State.setNum64_hif (s : State) (lo v : Nat) : (s.setNum64 lo v).hif = s.hif := rfl
@[simp] theorem State.setNum64_lat (s : State) (lo v : Nat) : (s.setNum64 lo v).lat = s.lat := rfl
@[simp] theorem State.setNum64_sup (s : State) (lo v : Nat) : (s.setNum64 lo v).sup = s.sup := rfl
@[simp] theorem State.setNum64_key (s : State) (lo v : Nat) : (s.setNum64 lo v).key = s.key := rfl
@[simp] theorem State.setNum64_ten (s : State) (lo v : Nat) : (s.setNum64 lo v).ten = s.ten := rfl
@[simp] theorem State.setNum64_tbs (s : State) (lo v : Nat) : (s.setNum64 lo v).tbs = s.tbs := rfl
@[simp] theorem State.setNum64_fab (s : State) (lo v : Nat) : (s.setNum64 lo v).fab = s.fab := rfl
@[simp] theorem State.setNum64_ntu (s : State) (lo v : Nat) : (s.setNum64 lo v).ntu = s.ntu := rfl
@[simp] theorem State.setNum64_pse (s : State) (lo v : Nat) : (s.setNum64 lo v).pse = s.pse := rfl
@[simp] theorem State.setNum64_arb (s : State) (lo v : Nat) : (s.setNum64 lo v).arb = s.arb := rfl
@[simp] theorem State.setNum64_lcp (s : State) (lo v : Nat) : (s.setNum64 lo v).lcp = s.lcp := rfl
@[simp] theorem State.setNum64_dio (s : State) (lo v : Nat) : (s.setNum64 lo v).dio = s.dio := rfl
@[simp] theorem State.setNum64_scn (s : State) (lo v : Nat) : (s.setNum64 lo v).scn = s.scn := rfl
@[simp] theorem State.setNum64_hlk (s : State) (lo v : Nat) : (s.setNum64 lo v).hlk = s.hlk := rfl
@[simp] theorem State.setNum64_fbc (s : State) (lo v : Nat) : (s.setNum64 lo v).fbc = s.fbc := rfl
@[simp] theorem State.setNum64_rtc (s : State) (lo v : Nat) : (s.setNum64 lo v).rtc = s.rtc := rfl
@[simp] theorem State.setNum64_lpe (s : State) (lo v : Nat) : (s.setNum64 lo v).lpe = s.lpe := rfl
@[simp] theorem State.setNum64_emu (s : State) (lo v : Nat) : (s.setNum64 lo v).emu = s.emu := rfl
@[simp] theorem State.setNum64_sto (s : State) (lo v : Nat) : (s.setNum64 lo v).sto = s.sto := rfl

@[simp] theorem State.emit_pending (s : State) (o : Output) : (s.emit o).pending = s.pending := rfl
@[simp] theorem State.emit_late (s : State) (o : Output) : (s.emit o).late = s.late := rfl
@[simp] theorem State.emit_coreWait (s : State) (o : Output) : (s.emit o).coreWait = s.coreWait := rfl
@[simp] theorem State.emit_clk (s : State) (o : Output) : (s.emit o).clk = s.clk := rfl
@[simp] theorem State.emit_free (s : State) (o : Output) : (s.emit o).free = s.free := rfl
@[simp] theorem State.emit_regs (s : State) (o : Output) : (s.emit o).regs = s.regs := rfl
@[simp] theorem State.emit_image (s : State) (o : Output) : (s.emit o).image = s.image := rfl
@[simp] theorem State.emit_latch (s : State) (o : Output) : (s.emit o).latch = s.latch := rfl
@[simp] theorem State.emit_loLatch (s : State) (o : Output) : (s.emit o).loLatch = s.loLatch := rfl
@[simp] theorem State.emit_loPend (s : State) (o : Output) : (s.emit o).loPend = s.loPend := rfl
@[simp] theorem State.emit_errDetail (s : State) (o : Output) : (s.emit o).errDetail = s.errDetail := rfl
@[simp] theorem State.emit_claims (s : State) (o : Output) : (s.emit o).claims = s.claims := rfl
@[simp] theorem State.emit_points (s : State) (o : Output) : (s.emit o).points = s.points := rfl
@[simp] theorem State.emit_notes (s : State) (o : Output) : (s.emit o).notes = s.notes := rfl
@[simp] theorem State.emit_opt (s : State) (o : Output) : (s.emit o).opt = s.opt := rfl
@[simp] theorem State.emit_hif (s : State) (o : Output) : (s.emit o).hif = s.hif := rfl
@[simp] theorem State.emit_lat (s : State) (o : Output) : (s.emit o).lat = s.lat := rfl
@[simp] theorem State.emit_sup (s : State) (o : Output) : (s.emit o).sup = s.sup := rfl
@[simp] theorem State.emit_key (s : State) (o : Output) : (s.emit o).key = s.key := rfl
@[simp] theorem State.emit_ten (s : State) (o : Output) : (s.emit o).ten = s.ten := rfl
@[simp] theorem State.emit_tbs (s : State) (o : Output) : (s.emit o).tbs = s.tbs := rfl
@[simp] theorem State.emit_fab (s : State) (o : Output) : (s.emit o).fab = s.fab := rfl
@[simp] theorem State.emit_ntu (s : State) (o : Output) : (s.emit o).ntu = s.ntu := rfl
@[simp] theorem State.emit_pse (s : State) (o : Output) : (s.emit o).pse = s.pse := rfl
@[simp] theorem State.emit_arb (s : State) (o : Output) : (s.emit o).arb = s.arb := rfl
@[simp] theorem State.emit_lcp (s : State) (o : Output) : (s.emit o).lcp = s.lcp := rfl
@[simp] theorem State.emit_dio (s : State) (o : Output) : (s.emit o).dio = s.dio := rfl
@[simp] theorem State.emit_scn (s : State) (o : Output) : (s.emit o).scn = s.scn := rfl
@[simp] theorem State.emit_hlk (s : State) (o : Output) : (s.emit o).hlk = s.hlk := rfl
@[simp] theorem State.emit_fbc (s : State) (o : Output) : (s.emit o).fbc = s.fbc := rfl
@[simp] theorem State.emit_rtc (s : State) (o : Output) : (s.emit o).rtc = s.rtc := rfl
@[simp] theorem State.emit_lpe (s : State) (o : Output) : (s.emit o).lpe = s.lpe := rfl
@[simp] theorem State.emit_emu (s : State) (o : Output) : (s.emit o).emu = s.emu := rfl
@[simp] theorem State.emit_sto (s : State) (o : Output) : (s.emit o).sto = s.sto := rfl

@[simp] theorem State.nextFree_pending (s : State) : (s.nextFree).pending = s.pending := rfl
@[simp] theorem State.nextFree_late (s : State) : (s.nextFree).late = s.late := rfl
@[simp] theorem State.nextFree_coreWait (s : State) : (s.nextFree).coreWait = s.coreWait := rfl
@[simp] theorem State.nextFree_clk (s : State) : (s.nextFree).clk = s.clk := rfl
@[simp] theorem State.nextFree_out (s : State) : (s.nextFree).out = s.out := rfl
@[simp] theorem State.nextFree_regs (s : State) : (s.nextFree).regs = s.regs := rfl
@[simp] theorem State.nextFree_image (s : State) : (s.nextFree).image = s.image := rfl
@[simp] theorem State.nextFree_latch (s : State) : (s.nextFree).latch = s.latch := rfl
@[simp] theorem State.nextFree_loLatch (s : State) : (s.nextFree).loLatch = s.loLatch := rfl
@[simp] theorem State.nextFree_loPend (s : State) : (s.nextFree).loPend = s.loPend := rfl
@[simp] theorem State.nextFree_errDetail (s : State) : (s.nextFree).errDetail = s.errDetail := rfl
@[simp] theorem State.nextFree_claims (s : State) : (s.nextFree).claims = s.claims := rfl
@[simp] theorem State.nextFree_points (s : State) : (s.nextFree).points = s.points := rfl
@[simp] theorem State.nextFree_notes (s : State) : (s.nextFree).notes = s.notes := rfl
@[simp] theorem State.nextFree_opt (s : State) : (s.nextFree).opt = s.opt := rfl
@[simp] theorem State.nextFree_hif (s : State) : (s.nextFree).hif = s.hif := rfl
@[simp] theorem State.nextFree_lat (s : State) : (s.nextFree).lat = s.lat := rfl
@[simp] theorem State.nextFree_sup (s : State) : (s.nextFree).sup = s.sup := rfl
@[simp] theorem State.nextFree_key (s : State) : (s.nextFree).key = s.key := rfl
@[simp] theorem State.nextFree_ten (s : State) : (s.nextFree).ten = s.ten := rfl
@[simp] theorem State.nextFree_tbs (s : State) : (s.nextFree).tbs = s.tbs := rfl
@[simp] theorem State.nextFree_fab (s : State) : (s.nextFree).fab = s.fab := rfl
@[simp] theorem State.nextFree_ntu (s : State) : (s.nextFree).ntu = s.ntu := rfl
@[simp] theorem State.nextFree_pse (s : State) : (s.nextFree).pse = s.pse := rfl
@[simp] theorem State.nextFree_arb (s : State) : (s.nextFree).arb = s.arb := rfl
@[simp] theorem State.nextFree_lcp (s : State) : (s.nextFree).lcp = s.lcp := rfl
@[simp] theorem State.nextFree_dio (s : State) : (s.nextFree).dio = s.dio := rfl
@[simp] theorem State.nextFree_scn (s : State) : (s.nextFree).scn = s.scn := rfl
@[simp] theorem State.nextFree_hlk (s : State) : (s.nextFree).hlk = s.hlk := rfl
@[simp] theorem State.nextFree_fbc (s : State) : (s.nextFree).fbc = s.fbc := rfl
@[simp] theorem State.nextFree_rtc (s : State) : (s.nextFree).rtc = s.rtc := rfl
@[simp] theorem State.nextFree_lpe (s : State) : (s.nextFree).lpe = s.lpe := rfl
@[simp] theorem State.nextFree_emu (s : State) : (s.nextFree).emu = s.emu := rfl
@[simp] theorem State.nextFree_sto (s : State) : (s.nextFree).sto = s.sto := rfl

@[simp] theorem State.setPoint_pending (s : State) (i : Nat) (p : Point) : (s.setPoint i p).pending = s.pending := rfl
@[simp] theorem State.setPoint_late (s : State) (i : Nat) (p : Point) : (s.setPoint i p).late = s.late := rfl
@[simp] theorem State.setPoint_coreWait (s : State) (i : Nat) (p : Point) : (s.setPoint i p).coreWait = s.coreWait := rfl
@[simp] theorem State.setPoint_clk (s : State) (i : Nat) (p : Point) : (s.setPoint i p).clk = s.clk := rfl
@[simp] theorem State.setPoint_free (s : State) (i : Nat) (p : Point) : (s.setPoint i p).free = s.free := rfl
@[simp] theorem State.setPoint_out (s : State) (i : Nat) (p : Point) : (s.setPoint i p).out = s.out := rfl
@[simp] theorem State.setPoint_regs (s : State) (i : Nat) (p : Point) : (s.setPoint i p).regs = s.regs := rfl
@[simp] theorem State.setPoint_image (s : State) (i : Nat) (p : Point) : (s.setPoint i p).image = s.image := rfl
@[simp] theorem State.setPoint_latch (s : State) (i : Nat) (p : Point) : (s.setPoint i p).latch = s.latch := rfl
@[simp] theorem State.setPoint_loLatch (s : State) (i : Nat) (p : Point) : (s.setPoint i p).loLatch = s.loLatch := rfl
@[simp] theorem State.setPoint_loPend (s : State) (i : Nat) (p : Point) : (s.setPoint i p).loPend = s.loPend := rfl
@[simp] theorem State.setPoint_errDetail (s : State) (i : Nat) (p : Point) : (s.setPoint i p).errDetail = s.errDetail := rfl
@[simp] theorem State.setPoint_claims (s : State) (i : Nat) (p : Point) : (s.setPoint i p).claims = s.claims := rfl
@[simp] theorem State.setPoint_notes (s : State) (i : Nat) (p : Point) : (s.setPoint i p).notes = s.notes := rfl
@[simp] theorem State.setPoint_opt (s : State) (i : Nat) (p : Point) : (s.setPoint i p).opt = s.opt := rfl
@[simp] theorem State.setPoint_hif (s : State) (i : Nat) (p : Point) : (s.setPoint i p).hif = s.hif := rfl
@[simp] theorem State.setPoint_lat (s : State) (i : Nat) (p : Point) : (s.setPoint i p).lat = s.lat := rfl
@[simp] theorem State.setPoint_sup (s : State) (i : Nat) (p : Point) : (s.setPoint i p).sup = s.sup := rfl
@[simp] theorem State.setPoint_key (s : State) (i : Nat) (p : Point) : (s.setPoint i p).key = s.key := rfl
@[simp] theorem State.setPoint_ten (s : State) (i : Nat) (p : Point) : (s.setPoint i p).ten = s.ten := rfl
@[simp] theorem State.setPoint_tbs (s : State) (i : Nat) (p : Point) : (s.setPoint i p).tbs = s.tbs := rfl
@[simp] theorem State.setPoint_fab (s : State) (i : Nat) (p : Point) : (s.setPoint i p).fab = s.fab := rfl
@[simp] theorem State.setPoint_ntu (s : State) (i : Nat) (p : Point) : (s.setPoint i p).ntu = s.ntu := rfl
@[simp] theorem State.setPoint_pse (s : State) (i : Nat) (p : Point) : (s.setPoint i p).pse = s.pse := rfl
@[simp] theorem State.setPoint_arb (s : State) (i : Nat) (p : Point) : (s.setPoint i p).arb = s.arb := rfl
@[simp] theorem State.setPoint_lcp (s : State) (i : Nat) (p : Point) : (s.setPoint i p).lcp = s.lcp := rfl
@[simp] theorem State.setPoint_dio (s : State) (i : Nat) (p : Point) : (s.setPoint i p).dio = s.dio := rfl
@[simp] theorem State.setPoint_scn (s : State) (i : Nat) (p : Point) : (s.setPoint i p).scn = s.scn := rfl
@[simp] theorem State.setPoint_hlk (s : State) (i : Nat) (p : Point) : (s.setPoint i p).hlk = s.hlk := rfl
@[simp] theorem State.setPoint_fbc (s : State) (i : Nat) (p : Point) : (s.setPoint i p).fbc = s.fbc := rfl
@[simp] theorem State.setPoint_rtc (s : State) (i : Nat) (p : Point) : (s.setPoint i p).rtc = s.rtc := rfl
@[simp] theorem State.setPoint_lpe (s : State) (i : Nat) (p : Point) : (s.setPoint i p).lpe = s.lpe := rfl
@[simp] theorem State.setPoint_emu (s : State) (i : Nat) (p : Point) : (s.setPoint i p).emu = s.emu := rfl
@[simp] theorem State.setPoint_sto (s : State) (i : Nat) (p : Point) : (s.setPoint i p).sto = s.sto := rfl

@[simp] theorem State.setLum_pending (s : State) (e : Nat) (l : Lum) : (s.setLum e l).pending = s.pending := rfl
@[simp] theorem State.setLum_late (s : State) (e : Nat) (l : Lum) : (s.setLum e l).late = s.late := rfl
@[simp] theorem State.setLum_coreWait (s : State) (e : Nat) (l : Lum) : (s.setLum e l).coreWait = s.coreWait := rfl
@[simp] theorem State.setLum_clk (s : State) (e : Nat) (l : Lum) : (s.setLum e l).clk = s.clk := rfl
@[simp] theorem State.setLum_free (s : State) (e : Nat) (l : Lum) : (s.setLum e l).free = s.free := rfl
@[simp] theorem State.setLum_out (s : State) (e : Nat) (l : Lum) : (s.setLum e l).out = s.out := rfl
@[simp] theorem State.setLum_regs (s : State) (e : Nat) (l : Lum) : (s.setLum e l).regs = s.regs := rfl
@[simp] theorem State.setLum_image (s : State) (e : Nat) (l : Lum) : (s.setLum e l).image = s.image := rfl
@[simp] theorem State.setLum_latch (s : State) (e : Nat) (l : Lum) : (s.setLum e l).latch = s.latch := rfl
@[simp] theorem State.setLum_loLatch (s : State) (e : Nat) (l : Lum) : (s.setLum e l).loLatch = s.loLatch := rfl
@[simp] theorem State.setLum_loPend (s : State) (e : Nat) (l : Lum) : (s.setLum e l).loPend = s.loPend := rfl
@[simp] theorem State.setLum_errDetail (s : State) (e : Nat) (l : Lum) : (s.setLum e l).errDetail = s.errDetail := rfl
@[simp] theorem State.setLum_claims (s : State) (e : Nat) (l : Lum) : (s.setLum e l).claims = s.claims := rfl
@[simp] theorem State.setLum_points (s : State) (e : Nat) (l : Lum) : (s.setLum e l).points = s.points := rfl
@[simp] theorem State.setLum_notes (s : State) (e : Nat) (l : Lum) : (s.setLum e l).notes = s.notes := rfl
@[simp] theorem State.setLum_opt (s : State) (e : Nat) (l : Lum) : (s.setLum e l).opt = s.opt := rfl
@[simp] theorem State.setLum_hif (s : State) (e : Nat) (l : Lum) : (s.setLum e l).hif = s.hif := rfl
@[simp] theorem State.setLum_lat (s : State) (e : Nat) (l : Lum) : (s.setLum e l).lat = s.lat := rfl
@[simp] theorem State.setLum_sup (s : State) (e : Nat) (l : Lum) : (s.setLum e l).sup = s.sup := rfl
@[simp] theorem State.setLum_key (s : State) (e : Nat) (l : Lum) : (s.setLum e l).key = s.key := rfl
@[simp] theorem State.setLum_ten (s : State) (e : Nat) (l : Lum) : (s.setLum e l).ten = s.ten := rfl
@[simp] theorem State.setLum_tbs (s : State) (e : Nat) (l : Lum) : (s.setLum e l).tbs = s.tbs := rfl
@[simp] theorem State.setLum_fab (s : State) (e : Nat) (l : Lum) : (s.setLum e l).fab = s.fab := rfl
@[simp] theorem State.setLum_ntu (s : State) (e : Nat) (l : Lum) : (s.setLum e l).ntu = s.ntu := rfl
@[simp] theorem State.setLum_pse (s : State) (e : Nat) (l : Lum) : (s.setLum e l).pse = s.pse := rfl
@[simp] theorem State.setLum_arb (s : State) (e : Nat) (l : Lum) : (s.setLum e l).arb = s.arb := rfl
@[simp] theorem State.setLum_dio (s : State) (e : Nat) (l : Lum) : (s.setLum e l).dio = s.dio := rfl
@[simp] theorem State.setLum_scn (s : State) (e : Nat) (l : Lum) : (s.setLum e l).scn = s.scn := rfl
@[simp] theorem State.setLum_hlk (s : State) (e : Nat) (l : Lum) : (s.setLum e l).hlk = s.hlk := rfl
@[simp] theorem State.setLum_fbc (s : State) (e : Nat) (l : Lum) : (s.setLum e l).fbc = s.fbc := rfl
@[simp] theorem State.setLum_rtc (s : State) (e : Nat) (l : Lum) : (s.setLum e l).rtc = s.rtc := rfl
@[simp] theorem State.setLum_lpe (s : State) (e : Nat) (l : Lum) : (s.setLum e l).lpe = s.lpe := rfl
@[simp] theorem State.setLum_emu (s : State) (e : Nat) (l : Lum) : (s.setLum e l).emu = s.emu := rfl
@[simp] theorem State.setLum_sto (s : State) (e : Nat) (l : Lum) : (s.setLum e l).sto = s.sto := rfl

@[simp] theorem State.setSlot_pending (s : State) (t : Nat) (x : Slot) : (s.setSlot t x).pending = s.pending := rfl
@[simp] theorem State.setSlot_late (s : State) (t : Nat) (x : Slot) : (s.setSlot t x).late = s.late := rfl
@[simp] theorem State.setSlot_coreWait (s : State) (t : Nat) (x : Slot) : (s.setSlot t x).coreWait = s.coreWait := rfl
@[simp] theorem State.setSlot_clk (s : State) (t : Nat) (x : Slot) : (s.setSlot t x).clk = s.clk := rfl
@[simp] theorem State.setSlot_free (s : State) (t : Nat) (x : Slot) : (s.setSlot t x).free = s.free := rfl
@[simp] theorem State.setSlot_out (s : State) (t : Nat) (x : Slot) : (s.setSlot t x).out = s.out := rfl
@[simp] theorem State.setSlot_regs (s : State) (t : Nat) (x : Slot) : (s.setSlot t x).regs = s.regs := rfl
@[simp] theorem State.setSlot_image (s : State) (t : Nat) (x : Slot) : (s.setSlot t x).image = s.image := rfl
@[simp] theorem State.setSlot_latch (s : State) (t : Nat) (x : Slot) : (s.setSlot t x).latch = s.latch := rfl
@[simp] theorem State.setSlot_loLatch (s : State) (t : Nat) (x : Slot) : (s.setSlot t x).loLatch = s.loLatch := rfl
@[simp] theorem State.setSlot_loPend (s : State) (t : Nat) (x : Slot) : (s.setSlot t x).loPend = s.loPend := rfl
@[simp] theorem State.setSlot_errDetail (s : State) (t : Nat) (x : Slot) : (s.setSlot t x).errDetail = s.errDetail := rfl
@[simp] theorem State.setSlot_claims (s : State) (t : Nat) (x : Slot) : (s.setSlot t x).claims = s.claims := rfl
@[simp] theorem State.setSlot_points (s : State) (t : Nat) (x : Slot) : (s.setSlot t x).points = s.points := rfl
@[simp] theorem State.setSlot_notes (s : State) (t : Nat) (x : Slot) : (s.setSlot t x).notes = s.notes := rfl
@[simp] theorem State.setSlot_hif (s : State) (t : Nat) (x : Slot) : (s.setSlot t x).hif = s.hif := rfl
@[simp] theorem State.setSlot_lat (s : State) (t : Nat) (x : Slot) : (s.setSlot t x).lat = s.lat := rfl
@[simp] theorem State.setSlot_sup (s : State) (t : Nat) (x : Slot) : (s.setSlot t x).sup = s.sup := rfl
@[simp] theorem State.setSlot_key (s : State) (t : Nat) (x : Slot) : (s.setSlot t x).key = s.key := rfl
@[simp] theorem State.setSlot_ten (s : State) (t : Nat) (x : Slot) : (s.setSlot t x).ten = s.ten := rfl
@[simp] theorem State.setSlot_tbs (s : State) (t : Nat) (x : Slot) : (s.setSlot t x).tbs = s.tbs := rfl
@[simp] theorem State.setSlot_fab (s : State) (t : Nat) (x : Slot) : (s.setSlot t x).fab = s.fab := rfl
@[simp] theorem State.setSlot_ntu (s : State) (t : Nat) (x : Slot) : (s.setSlot t x).ntu = s.ntu := rfl
@[simp] theorem State.setSlot_pse (s : State) (t : Nat) (x : Slot) : (s.setSlot t x).pse = s.pse := rfl
@[simp] theorem State.setSlot_arb (s : State) (t : Nat) (x : Slot) : (s.setSlot t x).arb = s.arb := rfl
@[simp] theorem State.setSlot_lcp (s : State) (t : Nat) (x : Slot) : (s.setSlot t x).lcp = s.lcp := rfl
@[simp] theorem State.setSlot_dio (s : State) (t : Nat) (x : Slot) : (s.setSlot t x).dio = s.dio := rfl
@[simp] theorem State.setSlot_scn (s : State) (t : Nat) (x : Slot) : (s.setSlot t x).scn = s.scn := rfl
@[simp] theorem State.setSlot_hlk (s : State) (t : Nat) (x : Slot) : (s.setSlot t x).hlk = s.hlk := rfl
@[simp] theorem State.setSlot_fbc (s : State) (t : Nat) (x : Slot) : (s.setSlot t x).fbc = s.fbc := rfl
@[simp] theorem State.setSlot_rtc (s : State) (t : Nat) (x : Slot) : (s.setSlot t x).rtc = s.rtc := rfl
@[simp] theorem State.setSlot_lpe (s : State) (t : Nat) (x : Slot) : (s.setSlot t x).lpe = s.lpe := rfl
@[simp] theorem State.setSlot_emu (s : State) (t : Nat) (x : Slot) : (s.setSlot t x).emu = s.emu := rfl
@[simp] theorem State.setSlot_sto (s : State) (t : Nat) (x : Slot) : (s.setSlot t x).sto = s.sto := rfl

@[simp] theorem State.freeSlot_pending (s : State) (t : Nat) : (s.freeSlot t).pending = s.pending := rfl
@[simp] theorem State.freeSlot_late (s : State) (t : Nat) : (s.freeSlot t).late = s.late := rfl
@[simp] theorem State.freeSlot_coreWait (s : State) (t : Nat) : (s.freeSlot t).coreWait = s.coreWait := rfl
@[simp] theorem State.freeSlot_clk (s : State) (t : Nat) : (s.freeSlot t).clk = s.clk := rfl
@[simp] theorem State.freeSlot_free (s : State) (t : Nat) : (s.freeSlot t).free = s.free := rfl
@[simp] theorem State.freeSlot_out (s : State) (t : Nat) : (s.freeSlot t).out = s.out := rfl
@[simp] theorem State.freeSlot_regs (s : State) (t : Nat) : (s.freeSlot t).regs = s.regs := rfl
@[simp] theorem State.freeSlot_image (s : State) (t : Nat) : (s.freeSlot t).image = s.image := rfl
@[simp] theorem State.freeSlot_latch (s : State) (t : Nat) : (s.freeSlot t).latch = s.latch := rfl
@[simp] theorem State.freeSlot_loLatch (s : State) (t : Nat) : (s.freeSlot t).loLatch = s.loLatch := rfl
@[simp] theorem State.freeSlot_loPend (s : State) (t : Nat) : (s.freeSlot t).loPend = s.loPend := rfl
@[simp] theorem State.freeSlot_errDetail (s : State) (t : Nat) : (s.freeSlot t).errDetail = s.errDetail := rfl
@[simp] theorem State.freeSlot_claims (s : State) (t : Nat) : (s.freeSlot t).claims = s.claims := rfl
@[simp] theorem State.freeSlot_points (s : State) (t : Nat) : (s.freeSlot t).points = s.points := rfl
@[simp] theorem State.freeSlot_notes (s : State) (t : Nat) : (s.freeSlot t).notes = s.notes := rfl
@[simp] theorem State.freeSlot_hif (s : State) (t : Nat) : (s.freeSlot t).hif = s.hif := rfl
@[simp] theorem State.freeSlot_lat (s : State) (t : Nat) : (s.freeSlot t).lat = s.lat := rfl
@[simp] theorem State.freeSlot_sup (s : State) (t : Nat) : (s.freeSlot t).sup = s.sup := rfl
@[simp] theorem State.freeSlot_key (s : State) (t : Nat) : (s.freeSlot t).key = s.key := rfl
@[simp] theorem State.freeSlot_ten (s : State) (t : Nat) : (s.freeSlot t).ten = s.ten := rfl
@[simp] theorem State.freeSlot_tbs (s : State) (t : Nat) : (s.freeSlot t).tbs = s.tbs := rfl
@[simp] theorem State.freeSlot_fab (s : State) (t : Nat) : (s.freeSlot t).fab = s.fab := rfl
@[simp] theorem State.freeSlot_ntu (s : State) (t : Nat) : (s.freeSlot t).ntu = s.ntu := rfl
@[simp] theorem State.freeSlot_pse (s : State) (t : Nat) : (s.freeSlot t).pse = s.pse := rfl
@[simp] theorem State.freeSlot_arb (s : State) (t : Nat) : (s.freeSlot t).arb = s.arb := rfl
@[simp] theorem State.freeSlot_lcp (s : State) (t : Nat) : (s.freeSlot t).lcp = s.lcp := rfl
@[simp] theorem State.freeSlot_dio (s : State) (t : Nat) : (s.freeSlot t).dio = s.dio := rfl
@[simp] theorem State.freeSlot_scn (s : State) (t : Nat) : (s.freeSlot t).scn = s.scn := rfl
@[simp] theorem State.freeSlot_hlk (s : State) (t : Nat) : (s.freeSlot t).hlk = s.hlk := rfl
@[simp] theorem State.freeSlot_fbc (s : State) (t : Nat) : (s.freeSlot t).fbc = s.fbc := rfl
@[simp] theorem State.freeSlot_rtc (s : State) (t : Nat) : (s.freeSlot t).rtc = s.rtc := rfl
@[simp] theorem State.freeSlot_lpe (s : State) (t : Nat) : (s.freeSlot t).lpe = s.lpe := rfl
@[simp] theorem State.freeSlot_emu (s : State) (t : Nat) : (s.freeSlot t).emu = s.emu := rfl
@[simp] theorem State.freeSlot_sto (s : State) (t : Nat) : (s.freeSlot t).sto = s.sto := rfl

@[simp] theorem State.recordSlot_pending (s : State) (t : Nat) (x : Slot) : (s.recordSlot t x).pending = s.pending := rfl
@[simp] theorem State.recordSlot_late (s : State) (t : Nat) (x : Slot) : (s.recordSlot t x).late = s.late := rfl
@[simp] theorem State.recordSlot_coreWait (s : State) (t : Nat) (x : Slot) : (s.recordSlot t x).coreWait = s.coreWait := rfl
@[simp] theorem State.recordSlot_clk (s : State) (t : Nat) (x : Slot) : (s.recordSlot t x).clk = s.clk := rfl
@[simp] theorem State.recordSlot_free (s : State) (t : Nat) (x : Slot) : (s.recordSlot t x).free = s.free := rfl
@[simp] theorem State.recordSlot_out (s : State) (t : Nat) (x : Slot) : (s.recordSlot t x).out = s.out := rfl
@[simp] theorem State.recordSlot_regs (s : State) (t : Nat) (x : Slot) : (s.recordSlot t x).regs = s.regs := rfl
@[simp] theorem State.recordSlot_image (s : State) (t : Nat) (x : Slot) : (s.recordSlot t x).image = s.image := rfl
@[simp] theorem State.recordSlot_latch (s : State) (t : Nat) (x : Slot) : (s.recordSlot t x).latch = s.latch := rfl
@[simp] theorem State.recordSlot_loLatch (s : State) (t : Nat) (x : Slot) : (s.recordSlot t x).loLatch = s.loLatch := rfl
@[simp] theorem State.recordSlot_loPend (s : State) (t : Nat) (x : Slot) : (s.recordSlot t x).loPend = s.loPend := rfl
@[simp] theorem State.recordSlot_errDetail (s : State) (t : Nat) (x : Slot) : (s.recordSlot t x).errDetail = s.errDetail := rfl
@[simp] theorem State.recordSlot_claims (s : State) (t : Nat) (x : Slot) : (s.recordSlot t x).claims = s.claims := rfl
@[simp] theorem State.recordSlot_points (s : State) (t : Nat) (x : Slot) : (s.recordSlot t x).points = s.points := rfl
@[simp] theorem State.recordSlot_notes (s : State) (t : Nat) (x : Slot) : (s.recordSlot t x).notes = s.notes := rfl
@[simp] theorem State.recordSlot_hif (s : State) (t : Nat) (x : Slot) : (s.recordSlot t x).hif = s.hif := rfl
@[simp] theorem State.recordSlot_lat (s : State) (t : Nat) (x : Slot) : (s.recordSlot t x).lat = s.lat := rfl
@[simp] theorem State.recordSlot_sup (s : State) (t : Nat) (x : Slot) : (s.recordSlot t x).sup = s.sup := rfl
@[simp] theorem State.recordSlot_key (s : State) (t : Nat) (x : Slot) : (s.recordSlot t x).key = s.key := rfl
@[simp] theorem State.recordSlot_ten (s : State) (t : Nat) (x : Slot) : (s.recordSlot t x).ten = s.ten := rfl
@[simp] theorem State.recordSlot_tbs (s : State) (t : Nat) (x : Slot) : (s.recordSlot t x).tbs = s.tbs := rfl
@[simp] theorem State.recordSlot_fab (s : State) (t : Nat) (x : Slot) : (s.recordSlot t x).fab = s.fab := rfl
@[simp] theorem State.recordSlot_ntu (s : State) (t : Nat) (x : Slot) : (s.recordSlot t x).ntu = s.ntu := rfl
@[simp] theorem State.recordSlot_pse (s : State) (t : Nat) (x : Slot) : (s.recordSlot t x).pse = s.pse := rfl
@[simp] theorem State.recordSlot_arb (s : State) (t : Nat) (x : Slot) : (s.recordSlot t x).arb = s.arb := rfl
@[simp] theorem State.recordSlot_lcp (s : State) (t : Nat) (x : Slot) : (s.recordSlot t x).lcp = s.lcp := rfl
@[simp] theorem State.recordSlot_dio (s : State) (t : Nat) (x : Slot) : (s.recordSlot t x).dio = s.dio := rfl
@[simp] theorem State.recordSlot_scn (s : State) (t : Nat) (x : Slot) : (s.recordSlot t x).scn = s.scn := rfl
@[simp] theorem State.recordSlot_hlk (s : State) (t : Nat) (x : Slot) : (s.recordSlot t x).hlk = s.hlk := rfl
@[simp] theorem State.recordSlot_fbc (s : State) (t : Nat) (x : Slot) : (s.recordSlot t x).fbc = s.fbc := rfl
@[simp] theorem State.recordSlot_rtc (s : State) (t : Nat) (x : Slot) : (s.recordSlot t x).rtc = s.rtc := rfl
@[simp] theorem State.recordSlot_lpe (s : State) (t : Nat) (x : Slot) : (s.recordSlot t x).lpe = s.lpe := rfl
@[simp] theorem State.recordSlot_emu (s : State) (t : Nat) (x : Slot) : (s.recordSlot t x).emu = s.emu := rfl
@[simp] theorem State.recordSlot_sto (s : State) (t : Nat) (x : Slot) : (s.recordSlot t x).sto = s.sto := rfl

@[simp] theorem State.noteBuf_pending (s : State) : (s.noteBuf).pending = s.pending := rfl
@[simp] theorem State.noteBuf_late (s : State) : (s.noteBuf).late = s.late := rfl
@[simp] theorem State.noteBuf_coreWait (s : State) : (s.noteBuf).coreWait = s.coreWait := rfl
@[simp] theorem State.noteBuf_clk (s : State) : (s.noteBuf).clk = s.clk := rfl
@[simp] theorem State.noteBuf_free (s : State) : (s.noteBuf).free = s.free := rfl
@[simp] theorem State.noteBuf_out (s : State) : (s.noteBuf).out = s.out := rfl
@[simp] theorem State.noteBuf_image (s : State) : (s.noteBuf).image = s.image := rfl
@[simp] theorem State.noteBuf_latch (s : State) : (s.noteBuf).latch = s.latch := rfl
@[simp] theorem State.noteBuf_loLatch (s : State) : (s.noteBuf).loLatch = s.loLatch := rfl
@[simp] theorem State.noteBuf_loPend (s : State) : (s.noteBuf).loPend = s.loPend := rfl
@[simp] theorem State.noteBuf_errDetail (s : State) : (s.noteBuf).errDetail = s.errDetail := rfl
@[simp] theorem State.noteBuf_claims (s : State) : (s.noteBuf).claims = s.claims := rfl
@[simp] theorem State.noteBuf_points (s : State) : (s.noteBuf).points = s.points := rfl
@[simp] theorem State.noteBuf_notes (s : State) : (s.noteBuf).notes = s.notes := rfl
@[simp] theorem State.noteBuf_opt (s : State) : (s.noteBuf).opt = s.opt := rfl
@[simp] theorem State.noteBuf_hif (s : State) : (s.noteBuf).hif = s.hif := rfl
@[simp] theorem State.noteBuf_lat (s : State) : (s.noteBuf).lat = s.lat := rfl
@[simp] theorem State.noteBuf_sup (s : State) : (s.noteBuf).sup = s.sup := rfl
@[simp] theorem State.noteBuf_key (s : State) : (s.noteBuf).key = s.key := rfl
@[simp] theorem State.noteBuf_ten (s : State) : (s.noteBuf).ten = s.ten := rfl
@[simp] theorem State.noteBuf_tbs (s : State) : (s.noteBuf).tbs = s.tbs := rfl
@[simp] theorem State.noteBuf_fab (s : State) : (s.noteBuf).fab = s.fab := rfl
@[simp] theorem State.noteBuf_ntu (s : State) : (s.noteBuf).ntu = s.ntu := rfl
@[simp] theorem State.noteBuf_pse (s : State) : (s.noteBuf).pse = s.pse := rfl
@[simp] theorem State.noteBuf_arb (s : State) : (s.noteBuf).arb = s.arb := rfl
@[simp] theorem State.noteBuf_lcp (s : State) : (s.noteBuf).lcp = s.lcp := rfl
@[simp] theorem State.noteBuf_dio (s : State) : (s.noteBuf).dio = s.dio := rfl
@[simp] theorem State.noteBuf_scn (s : State) : (s.noteBuf).scn = s.scn := rfl
@[simp] theorem State.noteBuf_hlk (s : State) : (s.noteBuf).hlk = s.hlk := rfl
@[simp] theorem State.noteBuf_fbc (s : State) : (s.noteBuf).fbc = s.fbc := rfl
@[simp] theorem State.noteBuf_rtc (s : State) : (s.noteBuf).rtc = s.rtc := rfl
@[simp] theorem State.noteBuf_lpe (s : State) : (s.noteBuf).lpe = s.lpe := rfl
@[simp] theorem State.noteBuf_emu (s : State) : (s.noteBuf).emu = s.emu := rfl
@[simp] theorem State.noteBuf_sto (s : State) : (s.noteBuf).sto = s.sto := rfl

@[simp] theorem State.setQueue_pending (s : State) (p c : Nat) (l : List QFrame) : (s.setQueue p c l).pending = s.pending := rfl
@[simp] theorem State.setQueue_late (s : State) (p c : Nat) (l : List QFrame) : (s.setQueue p c l).late = s.late := rfl
@[simp] theorem State.setQueue_coreWait (s : State) (p c : Nat) (l : List QFrame) : (s.setQueue p c l).coreWait = s.coreWait := rfl
@[simp] theorem State.setQueue_clk (s : State) (p c : Nat) (l : List QFrame) : (s.setQueue p c l).clk = s.clk := rfl
@[simp] theorem State.setQueue_free (s : State) (p c : Nat) (l : List QFrame) : (s.setQueue p c l).free = s.free := rfl
@[simp] theorem State.setQueue_out (s : State) (p c : Nat) (l : List QFrame) : (s.setQueue p c l).out = s.out := rfl
@[simp] theorem State.setQueue_regs (s : State) (p c : Nat) (l : List QFrame) : (s.setQueue p c l).regs = s.regs := rfl
@[simp] theorem State.setQueue_image (s : State) (p c : Nat) (l : List QFrame) : (s.setQueue p c l).image = s.image := rfl
@[simp] theorem State.setQueue_latch (s : State) (p c : Nat) (l : List QFrame) : (s.setQueue p c l).latch = s.latch := rfl
@[simp] theorem State.setQueue_loLatch (s : State) (p c : Nat) (l : List QFrame) : (s.setQueue p c l).loLatch = s.loLatch := rfl
@[simp] theorem State.setQueue_loPend (s : State) (p c : Nat) (l : List QFrame) : (s.setQueue p c l).loPend = s.loPend := rfl
@[simp] theorem State.setQueue_errDetail (s : State) (p c : Nat) (l : List QFrame) : (s.setQueue p c l).errDetail = s.errDetail := rfl
@[simp] theorem State.setQueue_claims (s : State) (p c : Nat) (l : List QFrame) : (s.setQueue p c l).claims = s.claims := rfl
@[simp] theorem State.setQueue_points (s : State) (p c : Nat) (l : List QFrame) : (s.setQueue p c l).points = s.points := rfl
@[simp] theorem State.setQueue_notes (s : State) (p c : Nat) (l : List QFrame) : (s.setQueue p c l).notes = s.notes := rfl
@[simp] theorem State.setQueue_opt (s : State) (p c : Nat) (l : List QFrame) : (s.setQueue p c l).opt = s.opt := rfl
@[simp] theorem State.setQueue_hif (s : State) (p c : Nat) (l : List QFrame) : (s.setQueue p c l).hif = s.hif := rfl
@[simp] theorem State.setQueue_lat (s : State) (p c : Nat) (l : List QFrame) : (s.setQueue p c l).lat = s.lat := rfl
@[simp] theorem State.setQueue_sup (s : State) (p c : Nat) (l : List QFrame) : (s.setQueue p c l).sup = s.sup := rfl
@[simp] theorem State.setQueue_key (s : State) (p c : Nat) (l : List QFrame) : (s.setQueue p c l).key = s.key := rfl
@[simp] theorem State.setQueue_ten (s : State) (p c : Nat) (l : List QFrame) : (s.setQueue p c l).ten = s.ten := rfl
@[simp] theorem State.setQueue_tbs (s : State) (p c : Nat) (l : List QFrame) : (s.setQueue p c l).tbs = s.tbs := rfl
@[simp] theorem State.setQueue_ntu (s : State) (p c : Nat) (l : List QFrame) : (s.setQueue p c l).ntu = s.ntu := rfl
@[simp] theorem State.setQueue_pse (s : State) (p c : Nat) (l : List QFrame) : (s.setQueue p c l).pse = s.pse := rfl
@[simp] theorem State.setQueue_arb (s : State) (p c : Nat) (l : List QFrame) : (s.setQueue p c l).arb = s.arb := rfl
@[simp] theorem State.setQueue_lcp (s : State) (p c : Nat) (l : List QFrame) : (s.setQueue p c l).lcp = s.lcp := rfl
@[simp] theorem State.setQueue_dio (s : State) (p c : Nat) (l : List QFrame) : (s.setQueue p c l).dio = s.dio := rfl
@[simp] theorem State.setQueue_scn (s : State) (p c : Nat) (l : List QFrame) : (s.setQueue p c l).scn = s.scn := rfl
@[simp] theorem State.setQueue_hlk (s : State) (p c : Nat) (l : List QFrame) : (s.setQueue p c l).hlk = s.hlk := rfl
@[simp] theorem State.setQueue_fbc (s : State) (p c : Nat) (l : List QFrame) : (s.setQueue p c l).fbc = s.fbc := rfl
@[simp] theorem State.setQueue_rtc (s : State) (p c : Nat) (l : List QFrame) : (s.setQueue p c l).rtc = s.rtc := rfl
@[simp] theorem State.setQueue_lpe (s : State) (p c : Nat) (l : List QFrame) : (s.setQueue p c l).lpe = s.lpe := rfl
@[simp] theorem State.setQueue_emu (s : State) (p c : Nat) (l : List QFrame) : (s.setQueue p c l).emu = s.emu := rfl
@[simp] theorem State.setQueue_sto (s : State) (p c : Nat) (l : List QFrame) : (s.setQueue p c l).sto = s.sto := rfl

@[simp] theorem State.notePoint_pending (s : State) (o i : Nat) (v : Dword) (q : Nat) : (s.notePoint o i v q).pending = s.pending := rfl
@[simp] theorem State.notePoint_late (s : State) (o i : Nat) (v : Dword) (q : Nat) : (s.notePoint o i v q).late = s.late := rfl
@[simp] theorem State.notePoint_coreWait (s : State) (o i : Nat) (v : Dword) (q : Nat) : (s.notePoint o i v q).coreWait = s.coreWait := rfl
@[simp] theorem State.notePoint_clk (s : State) (o i : Nat) (v : Dword) (q : Nat) : (s.notePoint o i v q).clk = s.clk := rfl
@[simp] theorem State.notePoint_free (s : State) (o i : Nat) (v : Dword) (q : Nat) : (s.notePoint o i v q).free = s.free := rfl
@[simp] theorem State.notePoint_out (s : State) (o i : Nat) (v : Dword) (q : Nat) : (s.notePoint o i v q).out = s.out := rfl
@[simp] theorem State.notePoint_regs (s : State) (o i : Nat) (v : Dword) (q : Nat) : (s.notePoint o i v q).regs = s.regs := rfl
@[simp] theorem State.notePoint_image (s : State) (o i : Nat) (v : Dword) (q : Nat) : (s.notePoint o i v q).image = s.image := rfl
@[simp] theorem State.notePoint_latch (s : State) (o i : Nat) (v : Dword) (q : Nat) : (s.notePoint o i v q).latch = s.latch := rfl
@[simp] theorem State.notePoint_loLatch (s : State) (o i : Nat) (v : Dword) (q : Nat) : (s.notePoint o i v q).loLatch = s.loLatch := rfl
@[simp] theorem State.notePoint_loPend (s : State) (o i : Nat) (v : Dword) (q : Nat) : (s.notePoint o i v q).loPend = s.loPend := rfl
@[simp] theorem State.notePoint_errDetail (s : State) (o i : Nat) (v : Dword) (q : Nat) : (s.notePoint o i v q).errDetail = s.errDetail := rfl
@[simp] theorem State.notePoint_claims (s : State) (o i : Nat) (v : Dword) (q : Nat) : (s.notePoint o i v q).claims = s.claims := rfl
@[simp] theorem State.notePoint_points (s : State) (o i : Nat) (v : Dword) (q : Nat) : (s.notePoint o i v q).points = s.points := rfl
@[simp] theorem State.notePoint_opt (s : State) (o i : Nat) (v : Dword) (q : Nat) : (s.notePoint o i v q).opt = s.opt := rfl
@[simp] theorem State.notePoint_hif (s : State) (o i : Nat) (v : Dword) (q : Nat) : (s.notePoint o i v q).hif = s.hif := rfl
@[simp] theorem State.notePoint_lat (s : State) (o i : Nat) (v : Dword) (q : Nat) : (s.notePoint o i v q).lat = s.lat := rfl
@[simp] theorem State.notePoint_sup (s : State) (o i : Nat) (v : Dword) (q : Nat) : (s.notePoint o i v q).sup = s.sup := rfl
@[simp] theorem State.notePoint_key (s : State) (o i : Nat) (v : Dword) (q : Nat) : (s.notePoint o i v q).key = s.key := rfl
@[simp] theorem State.notePoint_ten (s : State) (o i : Nat) (v : Dword) (q : Nat) : (s.notePoint o i v q).ten = s.ten := rfl
@[simp] theorem State.notePoint_tbs (s : State) (o i : Nat) (v : Dword) (q : Nat) : (s.notePoint o i v q).tbs = s.tbs := rfl
@[simp] theorem State.notePoint_fab (s : State) (o i : Nat) (v : Dword) (q : Nat) : (s.notePoint o i v q).fab = s.fab := rfl
@[simp] theorem State.notePoint_ntu (s : State) (o i : Nat) (v : Dword) (q : Nat) : (s.notePoint o i v q).ntu = s.ntu := rfl
@[simp] theorem State.notePoint_pse (s : State) (o i : Nat) (v : Dword) (q : Nat) : (s.notePoint o i v q).pse = s.pse := rfl
@[simp] theorem State.notePoint_arb (s : State) (o i : Nat) (v : Dword) (q : Nat) : (s.notePoint o i v q).arb = s.arb := rfl
@[simp] theorem State.notePoint_lcp (s : State) (o i : Nat) (v : Dword) (q : Nat) : (s.notePoint o i v q).lcp = s.lcp := rfl
@[simp] theorem State.notePoint_dio (s : State) (o i : Nat) (v : Dword) (q : Nat) : (s.notePoint o i v q).dio = s.dio := rfl
@[simp] theorem State.notePoint_scn (s : State) (o i : Nat) (v : Dword) (q : Nat) : (s.notePoint o i v q).scn = s.scn := rfl
@[simp] theorem State.notePoint_hlk (s : State) (o i : Nat) (v : Dword) (q : Nat) : (s.notePoint o i v q).hlk = s.hlk := rfl
@[simp] theorem State.notePoint_fbc (s : State) (o i : Nat) (v : Dword) (q : Nat) : (s.notePoint o i v q).fbc = s.fbc := rfl
@[simp] theorem State.notePoint_rtc (s : State) (o i : Nat) (v : Dword) (q : Nat) : (s.notePoint o i v q).rtc = s.rtc := rfl
@[simp] theorem State.notePoint_lpe (s : State) (o i : Nat) (v : Dword) (q : Nat) : (s.notePoint o i v q).lpe = s.lpe := rfl
@[simp] theorem State.notePoint_emu (s : State) (o i : Nat) (v : Dword) (q : Nat) : (s.notePoint o i v q).emu = s.emu := rfl
@[simp] theorem State.notePoint_sto (s : State) (o i : Nat) (v : Dword) (q : Nat) : (s.notePoint o i v q).sto = s.sto := rfl

@[simp] theorem State.unclaim_pending (s : State) (r b : Nat) : (s.unclaim r b).pending = s.pending := rfl
@[simp] theorem State.unclaim_late (s : State) (r b : Nat) : (s.unclaim r b).late = s.late := rfl
@[simp] theorem State.unclaim_coreWait (s : State) (r b : Nat) : (s.unclaim r b).coreWait = s.coreWait := rfl
@[simp] theorem State.unclaim_clk (s : State) (r b : Nat) : (s.unclaim r b).clk = s.clk := rfl
@[simp] theorem State.unclaim_free (s : State) (r b : Nat) : (s.unclaim r b).free = s.free := rfl
@[simp] theorem State.unclaim_out (s : State) (r b : Nat) : (s.unclaim r b).out = s.out := rfl
@[simp] theorem State.unclaim_regs (s : State) (r b : Nat) : (s.unclaim r b).regs = s.regs := rfl
@[simp] theorem State.unclaim_image (s : State) (r b : Nat) : (s.unclaim r b).image = s.image := rfl
@[simp] theorem State.unclaim_latch (s : State) (r b : Nat) : (s.unclaim r b).latch = s.latch := rfl
@[simp] theorem State.unclaim_loLatch (s : State) (r b : Nat) : (s.unclaim r b).loLatch = s.loLatch := rfl
@[simp] theorem State.unclaim_loPend (s : State) (r b : Nat) : (s.unclaim r b).loPend = s.loPend := rfl
@[simp] theorem State.unclaim_errDetail (s : State) (r b : Nat) : (s.unclaim r b).errDetail = s.errDetail := rfl
@[simp] theorem State.unclaim_points (s : State) (r b : Nat) : (s.unclaim r b).points = s.points := rfl
@[simp] theorem State.unclaim_notes (s : State) (r b : Nat) : (s.unclaim r b).notes = s.notes := rfl
@[simp] theorem State.unclaim_opt (s : State) (r b : Nat) : (s.unclaim r b).opt = s.opt := rfl
@[simp] theorem State.unclaim_hif (s : State) (r b : Nat) : (s.unclaim r b).hif = s.hif := rfl
@[simp] theorem State.unclaim_lat (s : State) (r b : Nat) : (s.unclaim r b).lat = s.lat := rfl
@[simp] theorem State.unclaim_sup (s : State) (r b : Nat) : (s.unclaim r b).sup = s.sup := rfl
@[simp] theorem State.unclaim_key (s : State) (r b : Nat) : (s.unclaim r b).key = s.key := rfl
@[simp] theorem State.unclaim_ten (s : State) (r b : Nat) : (s.unclaim r b).ten = s.ten := rfl
@[simp] theorem State.unclaim_tbs (s : State) (r b : Nat) : (s.unclaim r b).tbs = s.tbs := rfl
@[simp] theorem State.unclaim_fab (s : State) (r b : Nat) : (s.unclaim r b).fab = s.fab := rfl
@[simp] theorem State.unclaim_ntu (s : State) (r b : Nat) : (s.unclaim r b).ntu = s.ntu := rfl
@[simp] theorem State.unclaim_pse (s : State) (r b : Nat) : (s.unclaim r b).pse = s.pse := rfl
@[simp] theorem State.unclaim_arb (s : State) (r b : Nat) : (s.unclaim r b).arb = s.arb := rfl
@[simp] theorem State.unclaim_lcp (s : State) (r b : Nat) : (s.unclaim r b).lcp = s.lcp := rfl
@[simp] theorem State.unclaim_dio (s : State) (r b : Nat) : (s.unclaim r b).dio = s.dio := rfl
@[simp] theorem State.unclaim_scn (s : State) (r b : Nat) : (s.unclaim r b).scn = s.scn := rfl
@[simp] theorem State.unclaim_hlk (s : State) (r b : Nat) : (s.unclaim r b).hlk = s.hlk := rfl
@[simp] theorem State.unclaim_fbc (s : State) (r b : Nat) : (s.unclaim r b).fbc = s.fbc := rfl
@[simp] theorem State.unclaim_rtc (s : State) (r b : Nat) : (s.unclaim r b).rtc = s.rtc := rfl
@[simp] theorem State.unclaim_lpe (s : State) (r b : Nat) : (s.unclaim r b).lpe = s.lpe := rfl
@[simp] theorem State.unclaim_emu (s : State) (r b : Nat) : (s.unclaim r b).emu = s.emu := rfl
@[simp] theorem State.unclaim_sto (s : State) (r b : Nat) : (s.unclaim r b).sto = s.sto := rfl

@[simp] theorem State.unclaimBlock_pending (s : State) (b : Nat) : (s.unclaimBlock b).pending = s.pending := rfl
@[simp] theorem State.unclaimBlock_late (s : State) (b : Nat) : (s.unclaimBlock b).late = s.late := rfl
@[simp] theorem State.unclaimBlock_coreWait (s : State) (b : Nat) : (s.unclaimBlock b).coreWait = s.coreWait := rfl
@[simp] theorem State.unclaimBlock_clk (s : State) (b : Nat) : (s.unclaimBlock b).clk = s.clk := rfl
@[simp] theorem State.unclaimBlock_free (s : State) (b : Nat) : (s.unclaimBlock b).free = s.free := rfl
@[simp] theorem State.unclaimBlock_out (s : State) (b : Nat) : (s.unclaimBlock b).out = s.out := rfl
@[simp] theorem State.unclaimBlock_regs (s : State) (b : Nat) : (s.unclaimBlock b).regs = s.regs := rfl
@[simp] theorem State.unclaimBlock_image (s : State) (b : Nat) : (s.unclaimBlock b).image = s.image := rfl
@[simp] theorem State.unclaimBlock_latch (s : State) (b : Nat) : (s.unclaimBlock b).latch = s.latch := rfl
@[simp] theorem State.unclaimBlock_loLatch (s : State) (b : Nat) : (s.unclaimBlock b).loLatch = s.loLatch := rfl
@[simp] theorem State.unclaimBlock_loPend (s : State) (b : Nat) : (s.unclaimBlock b).loPend = s.loPend := rfl
@[simp] theorem State.unclaimBlock_errDetail (s : State) (b : Nat) : (s.unclaimBlock b).errDetail = s.errDetail := rfl
@[simp] theorem State.unclaimBlock_points (s : State) (b : Nat) : (s.unclaimBlock b).points = s.points := rfl
@[simp] theorem State.unclaimBlock_notes (s : State) (b : Nat) : (s.unclaimBlock b).notes = s.notes := rfl
@[simp] theorem State.unclaimBlock_opt (s : State) (b : Nat) : (s.unclaimBlock b).opt = s.opt := rfl
@[simp] theorem State.unclaimBlock_hif (s : State) (b : Nat) : (s.unclaimBlock b).hif = s.hif := rfl
@[simp] theorem State.unclaimBlock_lat (s : State) (b : Nat) : (s.unclaimBlock b).lat = s.lat := rfl
@[simp] theorem State.unclaimBlock_sup (s : State) (b : Nat) : (s.unclaimBlock b).sup = s.sup := rfl
@[simp] theorem State.unclaimBlock_key (s : State) (b : Nat) : (s.unclaimBlock b).key = s.key := rfl
@[simp] theorem State.unclaimBlock_ten (s : State) (b : Nat) : (s.unclaimBlock b).ten = s.ten := rfl
@[simp] theorem State.unclaimBlock_tbs (s : State) (b : Nat) : (s.unclaimBlock b).tbs = s.tbs := rfl
@[simp] theorem State.unclaimBlock_fab (s : State) (b : Nat) : (s.unclaimBlock b).fab = s.fab := rfl
@[simp] theorem State.unclaimBlock_ntu (s : State) (b : Nat) : (s.unclaimBlock b).ntu = s.ntu := rfl
@[simp] theorem State.unclaimBlock_pse (s : State) (b : Nat) : (s.unclaimBlock b).pse = s.pse := rfl
@[simp] theorem State.unclaimBlock_arb (s : State) (b : Nat) : (s.unclaimBlock b).arb = s.arb := rfl
@[simp] theorem State.unclaimBlock_lcp (s : State) (b : Nat) : (s.unclaimBlock b).lcp = s.lcp := rfl
@[simp] theorem State.unclaimBlock_dio (s : State) (b : Nat) : (s.unclaimBlock b).dio = s.dio := rfl
@[simp] theorem State.unclaimBlock_scn (s : State) (b : Nat) : (s.unclaimBlock b).scn = s.scn := rfl
@[simp] theorem State.unclaimBlock_hlk (s : State) (b : Nat) : (s.unclaimBlock b).hlk = s.hlk := rfl
@[simp] theorem State.unclaimBlock_fbc (s : State) (b : Nat) : (s.unclaimBlock b).fbc = s.fbc := rfl
@[simp] theorem State.unclaimBlock_rtc (s : State) (b : Nat) : (s.unclaimBlock b).rtc = s.rtc := rfl
@[simp] theorem State.unclaimBlock_lpe (s : State) (b : Nat) : (s.unclaimBlock b).lpe = s.lpe := rfl
@[simp] theorem State.unclaimBlock_emu (s : State) (b : Nat) : (s.unclaimBlock b).emu = s.emu := rfl
@[simp] theorem State.unclaimBlock_sto (s : State) (b : Nat) : (s.unclaimBlock b).sto = s.sto := rfl

/-! ### Registers -/

/-- A register reads what was written to it; every other keeps its value. -/
theorem State.setReg_reg (s : State) (off off' : Nat) (v : Word) :
    (s.setReg off v).reg off' = if off = off' then v else s.reg off' := tget_tset regReset s.regs off off' v

@[simp] theorem State.setReg_reg_same (s : State) (off : Nat) (v : Word) : (s.setReg off v).reg off = v := by
  rw [State.setReg_reg, if_pos rfl]

theorem State.setReg_reg_other (s : State) (off off' : Nat) (v : Word) (h : off ≠ off') :
    (s.setReg off v).reg off' = s.reg off' := by rw [State.setReg_reg, if_neg h]

theorem State.setFld_reg_other (s : State) (off lo w v off' : Nat) (h : off ≠ off') :
    (s.setFld off lo w v).reg off' = s.reg off' := State.setReg_reg_other s off off' _ h

theorem State.setFlag_reg_other (s : State) (off i off' : Nat) (b : Bool) (h : off ≠ off') :
    (s.setFlag off i b).reg off' = s.reg off' := State.setReg_reg_other s off off' _ h

theorem State.setNum_reg_other (s : State) (off v off' : Nat) (h : off ≠ off') :
    (s.setNum off v).reg off' = s.reg off' := State.setReg_reg_other s off off' _ h

theorem State.satInc_reg_other (s : State) (off lo w n off' : Nat) (h : off ≠ off') :
    (s.satInc off lo w n).reg off' = s.reg off' := State.setReg_reg_other s off off' _ h

/-- The register as a number after one of its fields is written. -/
theorem State.setFld_num (s : State) (off lo w v : Nat) (h : lo + w ≤ 32) :
    (s.setFld off lo w v).num off = putBits (s.num off) lo w v := by
  unfold State.num State.setFld
  rw [State.setReg_reg_same, BitVec.toNat_ofNat]
  exact Nat.mod_eq_of_lt (putBits_lt _ _ _ _ 32 h (s.reg off).isLt)

/-- A field reads what was written to it. -/
theorem State.setFld_fld_same (s : State) (off lo w v : Nat) (h : lo + w ≤ 32) :
    (s.setFld off lo w v).fld off lo w = v % 2 ^ w := by
  have e := s.setFld_num off lo w v h
  unfold State.num at e
  unfold State.fld
  rw [e]
  exact bitsOf_putBits_same _ _ _ _

/-- Another field of the same register keeps its value. -/
theorem State.setFld_fld_other (s : State) (off lo w v lo' w' : Nat) (h : lo + w ≤ 32)
    (hd : lo + w ≤ lo' ∨ lo' + w' ≤ lo) : (s.setFld off lo w v).fld off lo' w' = s.fld off lo' w' := by
  have e := s.setFld_num off lo w v h
  unfold State.num at e
  unfold State.fld
  rw [e]
  exact bitsOf_putBits_other _ _ _ _ _ _ hd

theorem State.setFld_fld_reg (s : State) (off lo w v off' lo' w' : Nat) (h : off ≠ off') :
    (s.setFld off lo w v).fld off' lo' w' = s.fld off' lo' w' := by
  unfold State.fld; rw [State.setFld_reg_other _ _ _ _ _ _ h]

/-- A flag reads what was written to it. -/
theorem State.setFlag_flag_same (s : State) (off i : Nat) (b : Bool) (h : i < 32) :
    (s.setFlag off i b).flag off i = b := by
  unfold State.flag State.setFlag
  rw [State.setFld_fld_same _ _ _ _ _ (by omega)]
  cases b <;> rfl

theorem State.setFlag_flag_other (s : State) (off i j : Nat) (b : Bool) (h : i < 32) (hd : i ≠ j) :
    (s.setFlag off i b).flag off j = s.flag off j := by
  unfold State.flag State.setFlag
  rw [State.setFld_fld_other _ _ _ _ _ _ _ (by omega) (by omega)]

theorem State.setFlag_flag_reg (s : State) (off i off' j : Nat) (b : Bool) (h : off ≠ off') :
    (s.setFlag off i b).flag off' j = s.flag off' j := by
  unfold State.flag State.setFlag; rw [State.setFld_fld_reg _ _ _ _ _ _ _ _ h]

theorem State.setNum_num_same (s : State) (off v : Nat) : (s.setNum off v).num off = v % 2 ^ 32 := by
  unfold State.num State.setNum; rw [State.setReg_reg_same]; exact BitVec.toNat_ofNat v 32

/-! ### Points, luminaires, slots, claims -/

theorem State.setPoint_point (s : State) (i j : Nat) (p : Point) :
    (s.setPoint i p).point j = if i = j then p else s.point j := tget_tset _ s.points i j p

theorem State.setLum_lum (s : State) (e f : Nat) (l : Lum) :
    (s.setLum e l).lum f = if e = f then l else s.lum f := tget_tset _ s.lcp.lums e f l

theorem State.setSlot_slot (s : State) (t u : Nat) (x : Slot) :
    (s.setSlot t x).slot u = if t = u then x else s.slot u := tget_tset _ s.opt.slots t u x

theorem State.setSlot_slot_same (s : State) (t : Nat) (x : Slot) : (s.setSlot t x).slot t = x := by
  rw [State.setSlot_slot, if_pos rfl]

/-- Releasing a resource ends its claim and no other. -/
theorem State.unclaim_mem (s : State) (r b : Nat) (c : Claim) :
    c ∈ (s.unclaim r b).claims ↔ c ∈ s.claims ∧ ¬(c.resource = r ∧ c.block = b) := by
  simp [State.unclaim]
  intro _; tauto

/-! ### The same for records of other parts -/

theorem State.reg_congr (s t : State) (h : t.regs = s.regs) (off : Nat) : t.reg off = s.reg off := by
  unfold State.reg; rw [h]

theorem State.slot_congr (s t : State) (h : t.opt.slots = s.opt.slots) (k : Nat) : t.slot k = s.slot k := by
  unfold State.slot; rw [h]

/-! ### Interrupts and errors: registers, outputs and the error detail alone -/

/-- Signalling a vector changes registers and outputs alone. -/
theorem State.signalVector_eq (s : State) (v : Nat) :
    ∃ r o, s.signalVector v = { s with regs := r, out := o } := by
  unfold State.signalVector
  split
  · exact ⟨s.regs, _, rfl⟩
  · exact ⟨_, s.out, rfl⟩

theorem State.irqEdge_eq (s s0 : State) (b : Nat) : ∃ r o, s.irqEdge s0 b = { s with regs := r, out := o } := by
  unfold State.irqEdge
  split
  · exact s.signalVector_eq _
  · exact ⟨s.regs, s.out, rfl⟩

/-- An event changes registers and outputs alone (R41). -/
theorem State.raiseIrq_eq (s : State) (b bit : Nat) : ∃ r o, s.raiseIrq b bit = { s with regs := r, out := o } := by
  unfold State.raiseIrq
  obtain ⟨r, o, h⟩ := (s.setFlag (Reg.IRQ_STAT b) bit true).irqEdge_eq s b
  exact ⟨r, o, h⟩

/-- An error changes registers, outputs and the error detail alone (R42). -/
theorem State.reportErr_eq (s : State) (b code : Nat) (d : Word) :
    ∃ r o e, s.reportErr b code d = { s with regs := r, out := o, errDetail := e } := by
  unfold State.reportErr
  generalize hs : (s.setFld (Reg.ERR_CODE b) 0 8 code).satInc (Reg.ERR_CODE b) 8 8 1 = s1
  have h1 : s1 = { s with regs := s1.regs } := by rw [← hs]; rfl
  obtain ⟨r, o, h⟩ := State.raiseIrq_eq { s1 with errDetail := tset (fun _ => 0) s1.errDetail b d } b 0
  refine ⟨r, o, tset (fun _ => 0) s1.errDetail b d, ?_⟩
  simp only [h]
  rw [h1]

/-- Counting a refusal changes registers and outputs alone (R551). -/
theorem State.countDenied_eq (s : State) (c : Nat) : ∃ r o, s.countDenied c = { s with regs := r, out := o } := by
  unfold State.countDenied
  obtain ⟨r, o, h⟩ := State.raiseIrq_eq _ Blk.TEN 1
  exact ⟨r, o, h⟩

/-- Opening a slot is noted in registers and outputs alone (R98). -/
theorem State.noteOpen_eq (s : State) : ∃ r o, s.noteOpen = { s with regs := r, out := o } := by
  have hf : ∀ (a : State) (b bit : Nat) (c : Prop) [Decidable c], (∃ r o, a = { s with regs := r, out := o }) →
      ∃ r o, (if c then a.raiseIrq b bit else a) = { s with regs := r, out := o } := by
    intro a b bit c _ ⟨r, o, h⟩
    split
    · obtain ⟨r', o', h'⟩ := a.raiseIrq_eq b bit
      exact ⟨r', o', by rw [h', h]⟩
    · exact ⟨r, o, h⟩
  unfold State.noteOpen
  simp only
  apply hf
  apply hf
  split
  · exact ⟨_, s.out, rfl⟩
  · exact ⟨s.regs, s.out, rfl⟩

/-! ### Operations -/

/-- A new record of a slot changes OPT's own part alone (R81). -/
theorem State.recordSlot_eq (s : State) (t : Nat) (x : Slot) :
    s.recordSlot t x = { s with opt := (s.recordSlot t x).opt } := rfl

/-- The slot written, and every other as it was. -/
theorem State.recordSlot_slot (s : State) (t u : Nat) (x : Slot) :
    (s.recordSlot t x).slot u = if t = u then x else s.slot u := s.setSlot_slot t u x

/-- An operation begins on a free tag: registers, outputs and OPT's own part alone change (R71, R98). -/
theorem State.beginAt_eq (s : State) (t : Nat) (x : Slot) :
    ∃ r o, s.beginAt t x = { s with regs := r, out := o, opt := { (s.recordSlot t { x with
      st := .active, gen := ((s.slot t).gen + 1) % 128, beginClk := s.clk, beginCh := s.chain, stampCh := s.chain,
      ord := s.opt.nextOrd }).opt with lastTag := t, nextOrd := s.opt.nextOrd + 1 } } := by
  unfold State.beginAt
  simp only
  obtain ⟨r, o, h⟩ := State.noteOpen_eq _
  exact ⟨r, o, h⟩

/-! ### Frames into the fabric: registers, outputs and FAB's own part alone -/

/-- Two changes of registers, outputs and FAB's part are one. -/
theorem State.fab_trans {s t u : State} (h1 : ∃ r o f, t = { s with regs := r, out := o, fab := f })
    (h2 : ∃ r o f, u = { t with regs := r, out := o, fab := f }) : ∃ r o f, u = { s with regs := r, out := o, fab := f } := by
  obtain ⟨r, o, f, rfl⟩ := h1
  obtain ⟨r', o', f', rfl⟩ := h2
  exact ⟨r', o', f', rfl⟩

theorem State.cnt_eq (s : State) (p k n : Nat) : ∃ r o f, s.cnt p k n = { s with regs := r, out := o, fab := f } := by
  unfold State.cnt
  simp only
  split
  · obtain ⟨r, o, h⟩ := State.raiseIrq_eq
      ((s.wrapInc (Reg.FAB_PnCNTk p k) n).setFlag (if p < 32 then Reg.FAB_HALF_LO else Reg.FAB_HALF_HI) (p % 32) true)
      Blk.FAB 2
    exact ⟨r, o, s.fab, h⟩
  · exact ⟨_, s.out, s.fab, rfl⟩

theorem State.noteTxPort_eq (s : State) (op : Option Nat) (p : Nat) (b : Bool) :
    ∃ r o f, s.noteTxPort op p b = { s with regs := r, out := o, fab := f } := by
  unfold State.noteTxPort
  split
  · exact ⟨s.regs, s.out, s.fab, rfl⟩
  · exact ⟨s.regs, s.out, _, rfl⟩

theorem State.noteQueued_eq (s : State) (p : Nat) : ∃ r o f, s.noteQueued p = { s with regs := r, out := o, fab := f } := by
  unfold State.noteQueued
  simp only
  split
  · exact ⟨s.regs, s.out, _, rfl⟩
  · exact ⟨s.regs, s.out, _, rfl⟩

theorem State.endLpi_eq (s : State) (p : Nat) : ∃ r o f, s.endLpi p = { s with regs := r, out := o, fab := f } := by
  unfold State.endLpi
  split
  · exact ⟨s.regs, s.out, s.fab, rfl⟩
  · obtain ⟨r, o, f, h⟩ := (s.setFlag (Reg.FAB_PnSTAT p) 6 false).cnt_eq p 36 ((s.clk - tget (fun _ => 0) s.fab.lpiClk p) / 800)
    simp only
    rw [h]
    exact ⟨r, o, _, rfl⟩

/-- Queueing a frame changes registers, outputs and FAB's own part alone (R442). -/
theorem State.enqueue_eq (s : State) (p cls : Nat) (q : QFrame) :
    ∃ r o f, s.enqueue p cls q = { s with regs := r, out := o, fab := f } := by
  unfold State.enqueue
  simp only
  split
  · exact s.noteTxPort_eq _ _ _
  · split
    · exact State.fab_trans (s.cnt_eq p 32 1) (State.noteTxPort_eq _ _ _ _)
    · have h := State.fab_trans ⟨s.regs, s.out, _, rfl⟩ ((s.setQueue p cls (s.fabQueue p cls ++ [q])).noteQueued_eq p)
      split
      · exact State.fab_trans h (State.endLpi_eq _ p)
      · exact h

/-- Forwarding a frame changes registers, outputs and FAB's own part alone. -/
theorem State.forward_eq (s : State) (i vid pcp cls : Nat) (keep rs : Bool) (op : Option Nat) (ptp : Option (Nat × Nat × Nat))
    (ports : List Nat) (f : EthFrame) :
    ∃ r o f', s.forward i vid pcp cls keep rs op ptp ports f = { s with regs := r, out := o, fab := f' } := by
  unfold State.forward
  simp only
  generalize hs : ({ s with fab := { s.fab with nextId := s.fab.nextId + 1 } } : State) = s1
  have h0 : ∃ r o f', s1 = { s with regs := r, out := o, fab := f' } := ⟨s.regs, s.out, _, hs.symm⟩
  clear hs
  have h1 : ∀ (l : List Nat) (a : State), (∃ r o f', a = { s with regs := r, out := o, fab := f' }) →
      ∃ r o f', l.foldl (fun a p => a.enqueue p cls ⟨s.fab.nextId, a.retag p vid pcp keep f, i, rs, op, ptp⟩) a
        = { s with regs := r, out := o, fab := f' } := by
    intro l
    induction l with
    | nil => exact fun a h => h
    | cons p r ih => exact fun a h => ih _ (State.fab_trans h (State.enqueue_eq _ _ _ _))
  exact State.fab_trans (h1 ports s1 h0) ⟨_, _, _, rfl⟩

/-- A frame of an internal endpoint changes registers, outputs and FAB's own part alone. -/
theorem State.sendInternal_eq (s : State) (ep : Nat) (ptp : Option (Nat × Nat × Nat)) (ports : List Nat) (f : EthFrame) :
    ∃ r o f', s.sendInternal ep ptp ports f = { s with regs := r, out := o, fab := f' } := by
  unfold State.sendInternal
  split
  · exact ⟨_, s.out, s.fab, rfl⟩
  · exact s.forward_eq _ _ _ _ _ _ _ _ _ _

/-- A frame to other modules changes registers, outputs, FAB's queues and HLK's part alone (R401). -/
theorem State.emitLink_eq (s : State) (dst type seq flags : Nat) (fields : List Nat) :
    ∃ r o f h, s.emitLink dst type seq flags fields = { s with regs := r, out := o, fab := f, hlk := h } := by
  unfold State.emitLink
  simp only
  obtain ⟨r, o, f, h⟩ := State.sendInternal_eq { s with hlk := { s.hlk with counter := s.hlk.counter + 1 } } 1 none _ _
  exact ⟨r, o, f, _, h⟩

theorem State.linkSend_eq (s : State) (dst type : Nat) (fields : List Nat) :
    ∃ r o f h, s.linkSend dst type fields = { s with regs := r, out := o, fab := f, hlk := h } := by
  unfold State.linkSend
  split
  · exact s.emitLink_eq _ _ _ _ _
  · exact ⟨s.regs, s.out, s.fab, s.hlk, rfl⟩

/-- A frame that leaves changes registers, outputs, FAB's queues and HLK's part alone. -/
theorem State.linkSendPart_eq (s : State) (dst type : Nat) (more : Bool) (fields ops : List Nat) :
    ∃ r o f h, s.linkSendPart dst type more fields ops = { s with regs := r, out := o, fab := f, hlk := h } := by
  unfold State.linkSendPart
  split
  · simp only
    generalize hs : s.setPeer dst _ = s1
    have h0 : ∃ r o f h, s1 = { s with regs := r, out := o, fab := f, hlk := h } := ⟨_, _, _, _, hs.symm⟩
    clear hs
    obtain ⟨r, o, f, h, rfl⟩ := h0
    split
    · obtain ⟨r', o', f', h', e⟩ := State.emitLink_eq { s with regs := r, out := o, fab := f, hlk := h } dst type
        ((s.peer dst).txSeq + 1) (relFlags false more) fields
      exact ⟨r', o', f', h', e⟩
    · exact ⟨r, o, f, h, rfl⟩
  · exact ⟨s.regs, s.out, s.fab, s.hlk, rfl⟩

theorem State.linkSendRel_eq (s : State) (dst type : Nat) (fields ops : List Nat) :
    ∃ r o f h, s.linkSendRel dst type fields ops = { s with regs := r, out := o, fab := f, hlk := h } :=
  s.linkSendPart_eq dst type false fields ops

/-- The answer to another module changes registers, outputs, FAB's queues and HLK's part alone. -/
theorem State.answerRemote_eq (s : State) (t status : Nat) (result : Word) :
    ∃ r o f h, s.answerRemote t status result = { s with regs := r, out := o, fab := f, hlk := h } := by
  unfold State.answerRemote
  split
  · obtain ⟨r, o, f, h, e⟩ := State.linkSendRel_eq
      { s with hlk := { s.hlk with serving := tdel s.hlk.serving t } } _ 0x21 [_, status, 0, result.toNat] []
    exact ⟨r, o, f, h, e⟩
  · exact ⟨s.regs, s.out, s.fab, s.hlk, rfl⟩

/-- What a decision writes into its slot (R74). -/
def decidedSlot (x : Slot) (status : Nat) (result : Word) (ch : Nat) : Slot :=
  { x with st := .decided, status := status, result := result, stampCh := ch }

/-- The state of a decision before the answer to another module (R74, R82). -/
def State.decidedOwn (s : State) (t status : Nat) (result : Word) : State :=
  { s with
    opt := { (s.recordSlot t (decidedSlot (s.slot t) status result s.chain)).opt with decided := s.opt.decided ++ [t] }
    scn := s.scn.noteOutcome t status result s.clk
    sto := if (s.slot t).block = Blk.STO then s.sto.noteDecided t status else s.sto }

/-- The end of an ACTIVE operation: its slot is decided, and outside OPT, SCN's and STO's books, HLK's answer with its frame,
registers and outputs nothing changes (R74, R82). -/
theorem State.decideOp_eq (s : State) (t status : Nat) (result : Word) (h : (s.slot t).st = .active) :
    ∃ r o f k, s.decideOp t status result =
      { s.decidedOwn t status result with regs := r, out := o, fab := f, hlk := k } := by
  unfold State.decideOp
  simp only [h, if_true]
  exact State.answerRemote_eq (s.decidedOwn t status result) t status result

/-- A slot that is not ACTIVE keeps its own status (R74). -/
theorem State.decideOp_of_not_active (s : State) (t status : Nat) (result : Word) (h : (s.slot t).st ≠ .active) :
    s.decideOp t status result = s := by
  unfold State.decideOp; simp only [h, if_false]

/-- The decided slot, and every other as it was. -/
theorem State.decideOp_slot (s : State) (t u status : Nat) (result : Word) (h : (s.slot t).st = .active) :
    (s.decideOp t status result).slot u =
      if t = u then decidedSlot (s.slot t) status result s.chain else s.slot u := by
  obtain ⟨r, o, f, k, e⟩ := s.decideOp_eq t status result h
  rw [e]
  exact s.recordSlot_slot t u (decidedSlot (s.slot t) status result s.chain)

/-! ### What every command keeps -/

theorem State.guarded_pending (s t : State) : (s.guarded t).pending = s.pending := rfl
theorem State.guarded_clk (s t : State) : (s.guarded t).clk = s.clk := rfl

/-- A command of the module's logic on a module out of reset. -/
theorem State.powered_run (s : State) (f : State → State) (h : s.sup.inReset = false) :
    s.powered f = .next (s.guarded (f s)) := by
  simp [State.powered, h]

/-- While the module is held in reset such a command changes nothing (R570). -/
theorem State.powered_held (s : State) (f : State → State) (h : s.sup.inReset = true) : s.powered f = .next s := by
  simp [State.powered, h]

/-- Where the meaning keeps the queue, the clock and the OTP of its own, the guard adds nothing. -/
theorem State.guarded_eq (s t : State) (hp : t.pending = s.pending) (hc : t.clk = s.clk)
    (h1 : t.key.otpState = s.key.otpState) (h2 : t.key.otpLeft = s.key.otpLeft) (h3 : t.key.otpEpoch = s.key.otpEpoch)
    (h4 : t.key.pufDead = s.key.pufDead) : s.guarded t = t := by
  unfold State.guarded
  rw [← hp, ← hc, ← h1, ← h2, ← h3, ← h4]

end Sys2Proof.Machine
end

