-- ==== Sys2Proof/Laws/Exec.lean ====
section
/-! SUPPORT. What `exec` does with each command, one equation per command, and the three ways a command can act. -/

namespace Sys2Proof.Machine

@[simp] theorem exec_regWrite (rq : _) (off : _) (data : _) (s : State) : exec (.regWrite rq off data) s = execRegWrite rq off data s := rfl
@[simp] theorem exec_rcRead (rq : _) (off : _) (s : State) : exec (.rcRead rq off) s = execRcRead rq off s := rfl
@[simp] theorem exec_hiLatchRead (rq : _) (off : _) (s : State) : exec (.hiLatchRead rq off) s = execHiLatchRead rq off s := rfl
@[simp] theorem exec_entryLatchRead (rq : _) (off : _) (s : State) : exec (.entryLatchRead rq off) s = execEntryLatchRead rq off s := rfl
@[simp] theorem exec_errCodeRead (rq : _) (block : _) (s : State) : exec (.errCodeRead rq block) s = execErrCodeRead rq block s := rfl
@[simp] theorem exec_irqStatClear (rq : _) (block : _) (value : _) (recurs : _) (s : State) : exec (.irqStatClear rq block value recurs) s = execIrqStatClear rq block value recurs s := rfl
@[simp] theorem exec_irqForce (rq : _) (block : _) (value : _) (s : State) : exec (.irqForce rq block value) s = execIrqForce rq block value s := rfl
@[simp] theorem exec_ctrlEn (rq : _) (block : _) (value : _) (s : State) : exec (.ctrlEn rq block value) s = execCtrlEn rq block value s := rfl
@[simp] theorem exec_srst (rq : _) (block : _) (s : State) : exec (.srst rq block) s = execSrst rq block s := rfl
@[simp] theorem exec_softResetComplete (block : _) (s : State) : exec (.softResetComplete block) s = execSoftResetComplete block s := rfl
@[simp] theorem exec_unmappedAccess (rq : _) (off : _) (write : _) (s : State) : exec (.unmappedAccess rq off write) s = execUnmappedAccess rq off write s := rfl
@[simp] theorem exec_longReadAbort (bytes : _) (s : State) : exec (.longReadAbort bytes) s = execLongReadAbort bytes s := rfl
@[simp] theorem exec_atomicOp (s : State) : exec (.atomicOp) s = execAtomicOp s := rfl
@[simp] theorem exec_pcieReset (s : State) : exec (.pcieReset) s = execPcieReset s := rfl
@[simp] theorem exec_spiRead (off : _) (words : _) (count : _) (s : State) : exec (.spiRead off words count) s = execSpiRead off words count s := rfl
@[simp] theorem exec_spiWrite (off : _) (data : _) (cut : _) (s : State) : exec (.spiWrite off data cut) s = execSpiWrite off data cut s := rfl
@[simp] theorem exec_spiStatus (s : State) : exec (.spiStatus) s = execSpiStatus s := rfl
@[simp] theorem exec_spiIdent (s : State) : exec (.spiIdent) s = execSpiIdent s := rfl
@[simp] theorem exec_spiLock (rq : _) (value : _) (s : State) : exec (.spiLock rq value) s = execSpiLock rq value s := rfl
@[simp] theorem exec_mboxGo (rq : _) (value : _) (s : State) : exec (.mboxGo rq value) s = execMboxGo rq value s := rfl
@[simp] theorem exec_sqDoorbell (rq : _) (ring : _) (value : _) (s : State) : exec (.sqDoorbell rq ring value) s = execSqDoorbell rq ring value s := rfl
@[simp] theorem exec_sqEnable (rq : _) (ring : _) (value : _) (s : State) : exec (.sqEnable rq ring value) s = execSqEnable rq ring value s := rfl
@[simp] theorem exec_cqEnable (rq : _) (queue : _) (value : _) (s : State) : exec (.cqEnable rq queue value) s = execCqEnable rq queue value s := rfl
@[simp] theorem exec_cqHeadWrite (rq : _) (queue : _) (value : _) (s : State) : exec (.cqHeadWrite rq queue value) s = execCqHeadWrite rq queue value s := rfl
@[simp] theorem exec_descriptorFetch (desc : _) (s : State) : exec (.descriptorFetch desc) s = execDescriptorFetch desc s := rfl
@[simp] theorem exec_tagWaitRelease (s : State) : exec (.tagWaitRelease) s = execTagWaitRelease s := rfl
@[simp] theorem exec_opTimeout (tag : _) (s : State) : exec (.opTimeout tag) s = execOpTimeout tag s := rfl
@[simp] theorem exec_completionWrite (route : _) (s : State) : exec (.completionWrite route) s = execCompletionWrite route s := rfl
@[simp] theorem exec_completionAcked (tag : _) (s : State) : exec (.completionAcked tag) s = execCompletionAcked tag s := rfl
@[simp] theorem exec_cqCoalTimeout (queue : _) (s : State) : exec (.cqCoalTimeout queue) s = execCqCoalTimeout queue s := rfl
@[simp] theorem exec_hifFence (rq : _) (s : State) : exec (.hifFence rq) s = execHifFence rq s := rfl
@[simp] theorem exec_hifFenceRead (rq : _) (s : State) : exec (.hifFenceRead rq) s = execHifFenceRead rq s := rfl
@[simp] theorem exec_cancel (tag : _) (s : State) : exec (.cancel tag) s = execCancel tag s := rfl
@[simp] theorem exec_query (tag : _) (s : State) : exec (.query tag) s = execQuery tag s := rfl
@[simp] theorem exec_lostRelease (rq : _) (value : _) (s : State) : exec (.lostRelease rq value) s = execLostRelease rq value s := rfl
@[simp] theorem exec_lostReportWrite (s : State) : exec (.lostReportWrite) s = execLostReportWrite s := rfl
@[simp] theorem exec_benchmarkCrossing (s : State) : exec (.benchmarkCrossing) s = execBenchmarkCrossing s := rfl
@[simp] theorem exec_counterCrossStamp (s : State) : exec (.counterCrossStamp) s = execCounterCrossStamp s := rfl
@[simp] theorem exec_refLoss (s : State) : exec (.refLoss) s = execRefLoss s := rfl
@[simp] theorem exec_timebaseNoRef (s : State) : exec (.timebaseNoRef) s = execTimebaseNoRef s := rfl
@[simp] theorem exec_acquireTimeout (s : State) : exec (.acquireTimeout) s = execAcquireTimeout s := rfl
@[simp] theorem exec_holdoverEnd (s : State) : exec (.holdoverEnd) s = execHoldoverEnd s := rfl
@[simp] theorem exec_stakeSet (tag : _) (s : State) : exec (.stakeSet tag) s = execStakeSet tag s := rfl
@[simp] theorem exec_stakeModify (tag : _) (s : State) : exec (.stakeModify tag) s = execStakeModify tag s := rfl
@[simp] theorem exec_stakeClear (tag : _) (s : State) : exec (.stakeClear tag) s = execStakeClear tag s := rfl
@[simp] theorem exec_stakeClearOwner (tag : _) (s : State) : exec (.stakeClearOwner tag) s = execStakeClearOwner tag s := rfl
@[simp] theorem exec_stakeEditDurable (tag : _) (s : State) : exec (.stakeEditDurable tag) s = execStakeEditDurable tag s := rfl
@[simp] theorem exec_stakeFire (s : State) : exec (.stakeFire) s = execStakeFire s := rfl
@[simp] theorem exec_stakeActionAck (tag : _) (s : State) : exec (.stakeActionAck tag) s = execStakeActionAck tag s := rfl
@[simp] theorem exec_zxEdge (channel : _) (s : State) : exec (.zxEdge channel) s = execZxEdge channel s := rfl
@[simp] theorem exec_zxOutPulse (s : State) : exec (.zxOutPulse) s = execZxOutPulse s := rfl
@[simp] theorem exec_portDetect (port : _) (s : State) : exec (.portDetect port) s = execPortDetect port s := rfl
@[simp] theorem exec_detectionDone (port : _) (result : _) (s : State) : exec (.detectionDone port result) s = execDetectionDone port result s := rfl
@[simp] theorem exec_classifyDone (port : _) (valid : _) (dual : _) (clsA : _) (clsB : _) (type3 : _) (autoclass : _) (s : State) : exec (.classifyDone port valid dual clsA clsB type3 autoclass) s = execClassifyDone port valid dual clsA clsB type3 autoclass s := rfl
@[simp] theorem exec_staggerSlot (s : State) : exec (.staggerSlot) s = execStaggerSlot s := rfl
@[simp] theorem exec_inrushEnd (port : _) (settled : _) (s : State) : exec (.inrushEnd port settled) s = execInrushEnd port settled s := rfl
@[simp] theorem exec_autoclassMeasure (port : _) (peak : _) (s : State) : exec (.autoclassMeasure port peak) s = execAutoclassMeasure port peak s := rfl
@[simp] theorem exec_fastCut (port : _) (pairset : _) (s : State) : exec (.fastCut port pairset) s = execFastCut port pairset s := rfl
@[simp] theorem exec_overloadCut (port : _) (pairset : _) (s : State) : exec (.overloadCut port pairset) s = execOverloadCut port pairset s := rfl
@[simp] theorem exec_limitCut (port : _) (pairset : _) (s : State) : exec (.limitCut port pairset) s = execLimitCut port pairset s := rfl
@[simp] theorem exec_mpsLoss (port : _) (pairset : _) (s : State) : exec (.mpsLoss port pairset) s = execMpsLoss port pairset s := rfl
@[simp] theorem exec_errDelayEnd (port : _) (s : State) : exec (.errDelayEnd port) s = execErrDelayEnd port s := rfl
@[simp] theorem exec_vpseHold (mv : _) (s : State) : exec (.vpseHold mv) s = execVpseHold mv s := rfl
@[simp] theorem exec_vpseHoldEnd (mv : _) (s : State) : exec (.vpseHoldEnd mv) s = execVpseHoldEnd mv s := rfl
@[simp] theorem exec_vpseUvCut (mv : _) (s : State) : exec (.vpseUvCut mv) s = execVpseUvCut mv s := rfl
@[simp] theorem exec_vpseOvCut (mv : _) (s : State) : exec (.vpseOvCut mv) s = execVpseOvCut mv s := rfl
@[simp] theorem exec_vpseRev (s : State) : exec (.vpseRev) s = execVpseRev s := rfl
@[simp] theorem exec_vpseResume (mv : _) (s : State) : exec (.vpseResume mv) s = execVpseResume mv s := rfl
@[simp] theorem exec_dieTemp (die : _) (temp : _) (s : State) : exec (.dieTemp die temp) s = execDieTemp die temp s := rfl
@[simp] theorem exec_pseSample (vpse : _) (ports : _) (s : State) : exec (.pseSample vpse ports) s = execPseSample vpse ports s := rfl
@[simp] theorem exec_adoptionRecordWrite (port : _) (s : State) : exec (.adoptionRecordWrite port) s = execAdoptionRecordWrite port s := rfl
@[simp] theorem exec_dieAutonomous (die : _) (s : State) : exec (.dieAutonomous die) s = execDieAutonomous die s := rfl
@[simp] theorem exec_portOn (tag : _) (s : State) : exec (.portOn tag) s = execPortOn tag s := rfl
@[simp] theorem exec_portOff (tag : _) (s : State) : exec (.portOff tag) s = execPortOff tag s := rfl
@[simp] theorem exec_portCycle (tag : _) (s : State) : exec (.portCycle tag) s = execPortCycle tag s := rfl
@[simp] theorem exec_portCycleOffEnd (port : _) (s : State) : exec (.portCycleOffEnd port) s = execPortCycleOffEnd port s := rfl
@[simp] theorem exec_portClearLock (tag : _) (s : State) : exec (.portClearLock tag) s = execPortClearLock tag s := rfl
@[simp] theorem exec_portEnWrite (rq : _) (port : _) (value : _) (s : State) : exec (.portEnWrite rq port value) s = execPortEnWrite rq port value s := rfl
@[simp] theorem exec_grantEvaluation (s : State) : exec (.grantEvaluation) s = execGrantEvaluation s := rfl
@[simp] theorem exec_capChoose (s : State) : exec (.capChoose) s = execCapChoose s := rfl
@[simp] theorem exec_softTimeout (pool : _) (s : State) : exec (.softTimeout pool) s = execSoftTimeout pool s := rfl
@[simp] theorem exec_hardRecheck (pool : _) (s : State) : exec (.hardRecheck pool) s = execHardRecheck pool s := rfl
@[simp] theorem exec_lookaheadEntry (index : _) (ch : _) (s : State) : exec (.lookaheadEntry index ch) s = execLookaheadEntry index ch s := rfl
@[simp] theorem exec_stakePrice (s : State) : exec (.stakePrice) s = execStakePrice s := rfl
@[simp] theorem exec_resvRetry (s : State) : exec (.resvRetry) s = execResvRetry s := rfl
@[simp] theorem exec_outerCheck (s : State) : exec (.outerCheck) s = execOuterCheck s := rfl
@[simp] theorem exec_outerMismatch (s : State) : exec (.outerMismatch) s = execOuterMismatch s := rfl
@[simp] theorem exec_outerClear (s : State) : exec (.outerClear) s = execOuterClear s := rfl
@[simp] theorem exec_setLimit (tag : _) (s : State) : exec (.setLimit tag) s = execSetLimit tag s := rfl
@[simp] theorem exec_price (tag : _) (s : State) : exec (.price tag) s = execPrice tag s := rfl
@[simp] theorem exec_commandForm (s : State) : exec (.commandForm) s = execCommandForm s := rfl
@[simp] theorem exec_discoverTick (port : _) (s : State) : exec (.discoverTick port) s = execDiscoverTick port s := rfl
@[simp] theorem exec_announce (a : _) (s : State) : exec (.announce a) s = execAnnounce a s := rfl
@[simp] theorem exec_accept (port : _) (sub : _) (mac : _) (seq : _) (r : _) (s : State) : exec (.accept port sub mac seq r) s = execAccept port sub mac seq r s := rfl
@[simp] theorem exec_status (r : _) (s : State) : exec (.status r) s = execStatus r s := rfl
@[simp] theorem exec_lcpFrameDrop (s : State) : exec (.lcpFrameDrop) s = execLcpFrameDrop s := rfl
@[simp] theorem exec_acceptTimeout (entry : _) (seq : _) (s : State) : exec (.acceptTimeout entry seq) s = execAcceptTimeout entry seq s := rfl
@[simp] theorem exec_bindingTimeout (entry : _) (s : State) : exec (.bindingTimeout entry) s = execBindingTimeout entry s := rfl
@[simp] theorem exec_statusReqTimer (tag : _) (s : State) : exec (.statusReqTimer tag) s = execStatusReqTimer tag s := rfl
@[simp] theorem exec_luminaireLoss (entry : _) (s : State) : exec (.luminaireLoss entry) s = execLuminaireLoss entry s := rfl
@[simp] theorem exec_keepaliveTick (entry : _) (s : State) : exec (.keepaliveTick entry) s = execKeepaliveTick entry s := rfl
@[simp] theorem exec_level (tag : _) (s : State) : exec (.level tag) s = execLevel tag s := rfl
@[simp] theorem exec_recall (tag : _) (s : State) : exec (.recall tag) s = execRecall tag s := rfl
@[simp] theorem exec_override (tag : _) (s : State) : exec (.override tag) s = execOverride tag s := rfl
@[simp] theorem exec_identify (tag : _) (s : State) : exec (.identify tag) s = execIdentify tag s := rfl
@[simp] theorem exec_rediscover (tag : _) (s : State) : exec (.rediscover tag) s = execRediscover tag s := rfl
@[simp] theorem exec_sceneWrite (tag : _) (s : State) : exec (.sceneWrite tag) s = execSceneWrite tag s := rfl
@[simp] theorem exec_taskStartTick (task : _) (s : State) : exec (.taskStartTick task) s = execTaskStartTick task s := rfl
@[simp] theorem exec_taskDispatch (s : State) : exec (.taskDispatch) s = execTaskDispatch s := rfl
@[simp] theorem exec_epochRelease (task : _) (s : State) : exec (.epochRelease task) s = execEpochRelease task s := rfl
@[simp] theorem exec_scnNop (lane : _) (s : State) : exec (.scnNop lane) s = execScnNop lane s := rfl
@[simp] theorem exec_scnEnd (lane : _) (s : State) : exec (.scnEnd lane) s = execScnEnd lane s := rfl
@[simp] theorem exec_scnTst (lane : _) (s : State) : exec (.scnTst lane) s = execScnTst lane s := rfl
@[simp] theorem exec_scnTstn (lane : _) (s : State) : exec (.scnTstn lane) s = execScnTstn lane s := rfl
@[simp] theorem exec_scnAnd (lane : _) (s : State) : exec (.scnAnd lane) s = execScnAnd lane s := rfl
@[simp] theorem exec_scnAndn (lane : _) (s : State) : exec (.scnAndn lane) s = execScnAndn lane s := rfl
@[simp] theorem exec_scnOr (lane : _) (s : State) : exec (.scnOr lane) s = execScnOr lane s := rfl
@[simp] theorem exec_scnOrn (lane : _) (s : State) : exec (.scnOrn lane) s = execScnOrn lane s := rfl
@[simp] theorem exec_scnXor (lane : _) (s : State) : exec (.scnXor lane) s = execScnXor lane s := rfl
@[simp] theorem exec_scnXorn (lane : _) (s : State) : exec (.scnXorn lane) s = execScnXorn lane s := rfl
@[simp] theorem exec_scnAndg (lane : _) (s : State) : exec (.scnAndg lane) s = execScnAndg lane s := rfl
@[simp] theorem exec_scnOrg (lane : _) (s : State) : exec (.scnOrg lane) s = execScnOrg lane s := rfl
@[simp] theorem exec_scnSt (lane : _) (s : State) : exec (.scnSt lane) s = execScnSt lane s := rfl
@[simp] theorem exec_scnSts (lane : _) (s : State) : exec (.scnSts lane) s = execScnSts lane s := rfl
@[simp] theorem exec_scnStr (lane : _) (s : State) : exec (.scnStr lane) s = execScnStr lane s := rfl
@[simp] theorem exec_scnNot (lane : _) (s : State) : exec (.scnNot lane) s = execScnNot lane s := rfl
@[simp] theorem exec_scnSetc (lane : _) (s : State) : exec (.scnSetc lane) s = execScnSetc lane s := rfl
@[simp] theorem exec_scnClrc (lane : _) (s : State) : exec (.scnClrc lane) s = execScnClrc lane s := rfl
@[simp] theorem exec_scnPshc (lane : _) (s : State) : exec (.scnPshc lane) s = execScnPshc lane s := rfl
@[simp] theorem exec_scnAnds (lane : _) (s : State) : exec (.scnAnds lane) s = execScnAnds lane s := rfl
@[simp] theorem exec_scnOrs (lane : _) (s : State) : exec (.scnOrs lane) s = execScnOrs lane s := rfl
@[simp] theorem exec_scnXors (lane : _) (s : State) : exec (.scnXors lane) s = execScnXors lane s := rfl
@[simp] theorem exec_scnCben (lane : _) (s : State) : exec (.scnCben lane) s = execScnCben lane s := rfl
@[simp] theorem exec_scnAnde (lane : _) (s : State) : exec (.scnAnde lane) s = execScnAnde lane s := rfl
@[simp] theorem exec_scnLb (lane : _) (s : State) : exec (.scnLb lane) s = execScnLb lane s := rfl
@[simp] theorem exec_scnLh (lane : _) (s : State) : exec (.scnLh lane) s = execScnLh lane s := rfl
@[simp] theorem exec_scnLw (lane : _) (s : State) : exec (.scnLw lane) s = execScnLw lane s := rfl
@[simp] theorem exec_scnLd (lane : _) (s : State) : exec (.scnLd lane) s = execScnLd lane s := rfl
@[simp] theorem exec_scnTb (lane : _) (s : State) : exec (.scnTb lane) s = execScnTb lane s := rfl
@[simp] theorem exec_scnTh (lane : _) (s : State) : exec (.scnTh lane) s = execScnTh lane s := rfl
@[simp] theorem exec_scnTw (lane : _) (s : State) : exec (.scnTw lane) s = execScnTw lane s := rfl
@[simp] theorem exec_scnTd (lane : _) (s : State) : exec (.scnTd lane) s = execScnTd lane s := rfl
@[simp] theorem exec_scnLa (lane : _) (s : State) : exec (.scnLa lane) s = execScnLa lane s := rfl
@[simp] theorem exec_scnLdp (lane : _) (s : State) : exec (.scnLdp lane) s = execScnLdp lane s := rfl
@[simp] theorem exec_scnStp (lane : _) (s : State) : exec (.scnStp lane) s = execScnStp lane s := rfl
@[simp] theorem exec_scnLdpd (lane : _) (s : State) : exec (.scnLdpd lane) s = execScnLdpd lane s := rfl
@[simp] theorem exec_scnStpd (lane : _) (s : State) : exec (.scnStpd lane) s = execScnStpd lane s := rfl
@[simp] theorem exec_scnStpb (lane : _) (s : State) : exec (.scnStpb lane) s = execScnStpb lane s := rfl
@[simp] theorem exec_scnAndp (lane : _) (s : State) : exec (.scnAndp lane) s = execScnAndp lane s := rfl
@[simp] theorem exec_scnLdi (lane : _) (s : State) : exec (.scnLdi lane) s = execScnLdi lane s := rfl
@[simp] theorem exec_scnAddk (lane : _) (s : State) : exec (.scnAddk lane) s = execScnAddk lane s := rfl
@[simp] theorem exec_scnLxri (lane : _) (s : State) : exec (.scnLxri lane) s = execScnLxri lane s := rfl
@[simp] theorem exec_scnLxr (lane : _) (s : State) : exec (.scnLxr lane) s = execScnLxr lane s := rfl
@[simp] theorem exec_scnTxr (lane : _) (s : State) : exec (.scnTxr lane) s = execScnTxr lane s := rfl
@[simp] theorem exec_scnXra (lane : _) (s : State) : exec (.scnXra lane) s = execScnXra lane s := rfl
@[simp] theorem exec_scnAxr (lane : _) (s : State) : exec (.scnAxr lane) s = execScnAxr lane s := rfl
@[simp] theorem exec_scnAdd (lane : _) (s : State) : exec (.scnAdd lane) s = execScnAdd lane s := rfl
@[simp] theorem exec_scnSub (lane : _) (s : State) : exec (.scnSub lane) s = execScnSub lane s := rfl
@[simp] theorem exec_scnMul (lane : _) (s : State) : exec (.scnMul lane) s = execScnMul lane s := rfl
@[simp] theorem exec_scnDiv (lane : _) (s : State) : exec (.scnDiv lane) s = execScnDiv lane s := rfl
@[simp] theorem exec_scnMod (lane : _) (s : State) : exec (.scnMod lane) s = execScnMod lane s := rfl
@[simp] theorem exec_scnNeg (lane : _) (s : State) : exec (.scnNeg lane) s = execScnNeg lane s := rfl
@[simp] theorem exec_scnAbs (lane : _) (s : State) : exec (.scnAbs lane) s = execScnAbs lane s := rfl
@[simp] theorem exec_scnAddr (lane : _) (s : State) : exec (.scnAddr lane) s = execScnAddr lane s := rfl
@[simp] theorem exec_scnSubr (lane : _) (s : State) : exec (.scnSubr lane) s = execScnSubr lane s := rfl
@[simp] theorem exec_scnMulr (lane : _) (s : State) : exec (.scnMulr lane) s = execScnMulr lane s := rfl
@[simp] theorem exec_scnDivr (lane : _) (s : State) : exec (.scnDivr lane) s = execScnDivr lane s := rfl
@[simp] theorem exec_scnNegr (lane : _) (s : State) : exec (.scnNegr lane) s = execScnNegr lane s := rfl
@[simp] theorem exec_scnAbsr (lane : _) (s : State) : exec (.scnAbsr lane) s = execScnAbsr lane s := rfl
@[simp] theorem exec_scnSqrt (lane : _) (s : State) : exec (.scnSqrt lane) s = execScnSqrt lane s := rfl
@[simp] theorem exec_scnAddq (lane : _) (s : State) : exec (.scnAddq lane) s = execScnAddq lane s := rfl
@[simp] theorem exec_scnSubq (lane : _) (s : State) : exec (.scnSubq lane) s = execScnSubq lane s := rfl
@[simp] theorem exec_scnMulq (lane : _) (s : State) : exec (.scnMulq lane) s = execScnMulq lane s := rfl
@[simp] theorem exec_scnNegq (lane : _) (s : State) : exec (.scnNegq lane) s = execScnNegq lane s := rfl
@[simp] theorem exec_scnAddl (lane : _) (s : State) : exec (.scnAddl lane) s = execScnAddl lane s := rfl
@[simp] theorem exec_scnSubl (lane : _) (s : State) : exec (.scnSubl lane) s = execScnSubl lane s := rfl
@[simp] theorem exec_scnMull (lane : _) (s : State) : exec (.scnMull lane) s = execScnMull lane s := rfl
@[simp] theorem exec_scnDivl (lane : _) (s : State) : exec (.scnDivl lane) s = execScnDivl lane s := rfl
@[simp] theorem exec_scnDivlu (lane : _) (s : State) : exec (.scnDivlu lane) s = execScnDivlu lane s := rfl
@[simp] theorem exec_scnAndw (lane : _) (s : State) : exec (.scnAndw lane) s = execScnAndw lane s := rfl
@[simp] theorem exec_scnOrw (lane : _) (s : State) : exec (.scnOrw lane) s = execScnOrw lane s := rfl
@[simp] theorem exec_scnXorw (lane : _) (s : State) : exec (.scnXorw lane) s = execScnXorw lane s := rfl
@[simp] theorem exec_scnInvw (lane : _) (s : State) : exec (.scnInvw lane) s = execScnInvw lane s := rfl
@[simp] theorem exec_scnShl (lane : _) (s : State) : exec (.scnShl lane) s = execScnShl lane s := rfl
@[simp] theorem exec_scnShr (lane : _) (s : State) : exec (.scnShr lane) s = execScnShr lane s := rfl
@[simp] theorem exec_scnSar (lane : _) (s : State) : exec (.scnSar lane) s = execScnSar lane s := rfl
@[simp] theorem exec_scnRol (lane : _) (s : State) : exec (.scnRol lane) s = execScnRol lane s := rfl
@[simp] theorem exec_scnItr (lane : _) (s : State) : exec (.scnItr lane) s = execScnItr lane s := rfl
@[simp] theorem exec_scnRti (lane : _) (s : State) : exec (.scnRti lane) s = execScnRti lane s := rfl
@[simp] theorem exec_scnRtq (lane : _) (s : State) : exec (.scnRtq lane) s = execScnRtq lane s := rfl
@[simp] theorem exec_scnQtr (lane : _) (s : State) : exec (.scnQtr lane) s = execScnQtr lane s := rfl
@[simp] theorem exec_scnItl (lane : _) (s : State) : exec (.scnItl lane) s = execScnItl lane s := rfl
@[simp] theorem exec_scnLtr (lane : _) (s : State) : exec (.scnLtr lane) s = execScnLtr lane s := rfl
@[simp] theorem exec_scnSwap (lane : _) (s : State) : exec (.scnSwap lane) s = execScnSwap lane s := rfl
@[simp] theorem exec_scnDup (lane : _) (s : State) : exec (.scnDup lane) s = execScnDup lane s := rfl
@[simp] theorem exec_scnCmpi (lane : _) (s : State) : exec (.scnCmpi lane) s = execScnCmpi lane s := rfl
@[simp] theorem exec_scnCmpr (lane : _) (s : State) : exec (.scnCmpr lane) s = execScnCmpr lane s := rfl
@[simp] theorem exec_scnCmpl (lane : _) (s : State) : exec (.scnCmpl lane) s = execScnCmpl lane s := rfl
@[simp] theorem exec_scnCmplu (lane : _) (s : State) : exec (.scnCmplu lane) s = execScnCmplu lane s := rfl
@[simp] theorem exec_scnJu (lane : _) (s : State) : exec (.scnJu lane) s = execScnJu lane s := rfl
@[simp] theorem exec_scnJt (lane : _) (s : State) : exec (.scnJt lane) s = execScnJt lane s := rfl
@[simp] theorem exec_scnJf (lane : _) (s : State) : exec (.scnJf lane) s = execScnJf lane s := rfl
@[simp] theorem exec_scnJvs (lane : _) (s : State) : exec (.scnJvs lane) s = execScnJvs lane s := rfl
@[simp] theorem exec_scnLoop (lane : _) (s : State) : exec (.scnLoop lane) s = execScnLoop lane s := rfl
@[simp] theorem exec_scnSeli (lane : _) (s : State) : exec (.scnSeli lane) s = execScnSeli lane s := rfl
@[simp] theorem exec_scnCall (lane : _) (s : State) : exec (.scnCall lane) s = execScnCall lane s := rfl
@[simp] theorem exec_scnCallt (lane : _) (s : State) : exec (.scnCallt lane) s = execScnCallt lane s := rfl
@[simp] theorem exec_scnRet (lane : _) (s : State) : exec (.scnRet lane) s = execScnRet lane s := rfl
@[simp] theorem exec_scnRett (lane : _) (s : State) : exec (.scnRett lane) s = execScnRett lane s := rfl
@[simp] theorem exec_scnTon (lane : _) (s : State) : exec (.scnTon lane) s = execScnTon lane s := rfl
@[simp] theorem exec_scnTof (lane : _) (s : State) : exec (.scnTof lane) s = execScnTof lane s := rfl
@[simp] theorem exec_scnTp (lane : _) (s : State) : exec (.scnTp lane) s = execScnTp lane s := rfl
@[simp] theorem exec_scnCtu (lane : _) (s : State) : exec (.scnCtu lane) s = execScnCtu lane s := rfl
@[simp] theorem exec_scnCtd (lane : _) (s : State) : exec (.scnCtd lane) s = execScnCtd lane s := rfl
@[simp] theorem exec_scnCres (lane : _) (s : State) : exec (.scnCres lane) s = execScnCres lane s := rfl
@[simp] theorem exec_scnEdgep (lane : _) (s : State) : exec (.scnEdgep lane) s = execScnEdgep lane s := rfl
@[simp] theorem exec_scnEdgen (lane : _) (s : State) : exec (.scnEdgen lane) s = execScnEdgen lane s := rfl
@[simp] theorem exec_scnClk (lane : _) (s : State) : exec (.scnClk lane) s = execScnClk lane s := rfl
@[simp] theorem exec_scnChn (lane : _) (s : State) : exec (.scnChn lane) s = execScnChn lane s := rfl
@[simp] theorem exec_scnSend (lane : _) (s : State) : exec (.scnSend lane) s = execScnSend lane s := rfl
@[simp] theorem exec_scnFence (lane : _) (s : State) : exec (.scnFence lane) s = execScnFence lane s := rfl
@[simp] theorem exec_scnFences (lane : _) (s : State) : exec (.scnFences lane) s = execScnFences lane s := rfl
@[simp] theorem exec_scnStk (lane : _) (s : State) : exec (.scnStk lane) s = execScnStk lane s := rfl
@[simp] theorem exec_load (tag : _) (image : _) (s : State) : exec (.load tag image) s = execLoad tag image s := rfl
@[simp] theorem exec_exchange (tag : _) (s : State) : exec (.exchange tag) s = execExchange tag s := rfl
@[simp] theorem exec_exchangeAtX (s : State) : exec (.exchangeAtX) s = execExchangeAtX s := rfl
@[simp] theorem exec_exchangeCarryover (s : State) : exec (.exchangeCarryover) s = execExchangeCarryover s := rfl
@[simp] theorem exec_unload (tag : _) (s : State) : exec (.unload tag) s = execUnload tag s := rfl
@[simp] theorem exec_taskEn (tag : _) (s : State) : exec (.taskEn tag) s = execTaskEn tag s := rfl
@[simp] theorem exec_taskTrigger (tag : _) (s : State) : exec (.taskTrigger tag) s = execTaskTrigger tag s := rfl
@[simp] theorem exec_eventStartRelease (task : _) (s : State) : exec (.eventStartRelease task) s = execEventStartRelease task s := rfl
@[simp] theorem exec_scnFaultClear (tag : _) (s : State) : exec (.scnFaultClear tag) s = execScnFaultClear tag s := rfl
@[simp] theorem exec_loopSample (loop : _) (s : State) : exec (.loopSample loop) s = execLoopSample loop s := rfl
@[simp] theorem exec_loopMode (tag : _) (s : State) : exec (.loopMode tag) s = execLoopMode tag s := rfl
@[simp] theorem exec_loopTune (tag : _) (s : State) : exec (.loopTune tag) s = execLoopTune tag s := rfl
@[simp] theorem exec_traceArm (tag : _) (s : State) : exec (.traceArm tag) s = execTraceArm tag s := rfl
@[simp] theorem exec_traceRelease (tag : _) (s : State) : exec (.traceRelease tag) s = execTraceRelease tag s := rfl
@[simp] theorem exec_biquadW0Write (rq : _) (loop : _) (section_ : _) (value : _) (s : State) : exec (.biquadW0Write rq loop section_ value) s = execBiquadW0Write rq loop section_ value s := rfl
@[simp] theorem exec_modeReqWrite (rq : _) (loop : _) (value : _) (s : State) : exec (.modeReqWrite rq loop value) s = execModeReqWrite rq loop value s := rfl
@[simp] theorem exec_emuSample (m1 : _) (m2 : _) (s : State) : exec (.emuSample m1 m2) s = execEmuSample m1 m2 s := rfl
@[simp] theorem exec_channelFault (frontEnd : _) (channel : _) (s : State) : exec (.channelFault frontEnd channel) s = execChannelFault frontEnd channel s := rfl
@[simp] theorem exec_phaseReversal (frontEnd : _) (phase : _) (s : State) : exec (.phaseReversal frontEnd phase) s = execPhaseReversal frontEnd phase s := rfl
@[simp] theorem exec_cycleBoundary (harmonics : _) (s : State) : exec (.cycleBoundary harmonics) s = execCycleBoundary harmonics s := rfl
@[simp] theorem exec_recordStored (slot : _) (s : State) : exec (.recordStored slot) s = execRecordStored slot s := rfl
@[simp] theorem exec_recordRetry (slot : _) (s : State) : exec (.recordRetry slot) s = execRecordRetry slot s := rfl
@[simp] theorem exec_pulseCount (s : State) : exec (.pulseCount) s = execPulseCount s := rfl
@[simp] theorem exec_pulseRateTimeout (input : _) (s : State) : exec (.pulseRateTimeout input) s = execPulseRateTimeout input s := rfl
@[simp] theorem exec_pgPulse (generator : _) (s : State) : exec (.pgPulse generator) s = execPgPulse generator s := rfl
@[simp] theorem exec_intervalClose (tag : _) (s : State) : exec (.intervalClose tag) s = execIntervalClose tag s := rfl
@[simp] theorem exec_emuPgEnable (tag : _) (s : State) : exec (.emuPgEnable tag) s = execEmuPgEnable tag s := rfl
@[simp] theorem exec_emuPgDisable (tag : _) (s : State) : exec (.emuPgDisable tag) s = execEmuPgDisable tag s := rfl
@[simp] theorem exec_calWrite (tag : _) (s : State) : exec (.calWrite tag) s = execCalWrite tag s := rfl
@[simp] theorem exec_accClear (tag : _) (s : State) : exec (.accClear tag) s = execAccClear tag s := rfl
@[simp] theorem exec_put (tag : _) (data : _) (s : State) : exec (.put tag data) s = execPut tag data s := rfl
@[simp] theorem exec_append (tag : _) (data : _) (s : State) : exec (.append tag data) s = execAppend tag data s := rfl
@[simp] theorem exec_get (tag : _) (s : State) : exec (.get tag) s = execGet tag s := rfl
@[simp] theorem exec_delete (tag : _) (s : State) : exec (.delete tag) s = execDelete tag s := rfl
@[simp] theorem exec_barrier (tag : _) (s : State) : exec (.barrier tag) s = execBarrier tag s := rfl
@[simp] theorem exec_flush (tag : _) (s : State) : exec (.flush tag) s = execFlush tag s := rfl
@[simp] theorem exec_info (tag : _) (s : State) : exec (.info tag) s = execInfo tag s := rfl
@[simp] theorem exec_format (tag : _) (luns : _) (s : State) : exec (.format tag luns) s = execFormat tag luns s := rfl
@[simp] theorem exec_nandProgramDone (job : _) (pass : _) (s : State) : exec (.nandProgramDone job pass) s = execNandProgramDone job pass s := rfl
@[simp] theorem exec_nandReadDone (job : _) (corrected : _) (soft : _) (result : _) (s : State) : exec (.nandReadDone job corrected soft result) s = execNandReadDone job corrected soft result s := rfl
@[simp] theorem exec_trendFlush (cls : _) (channel : _) (s : State) : exec (.trendFlush cls channel) s = execTrendFlush cls channel s := rfl
@[simp] theorem exec_scrubDue (block : _) (s : State) : exec (.scrubDue block) s = execScrubDue block s := rfl
@[simp] theorem exec_relocation (block : _) (s : State) : exec (.relocation block) s = execRelocation block s := rfl
@[simp] theorem exec_staticWearLevel (pool : _) (s : State) : exec (.staticWearLevel pool) s = execStaticWearLevel pool s := rfl
@[simp] theorem exec_garbageCollect (pool : _) (s : State) : exec (.garbageCollect pool) s = execGarbageCollect pool s := rfl
@[simp] theorem exec_replicaSync (s : State) : exec (.replicaSync) s = execReplicaSync s := rfl
@[simp] theorem exec_mapRebuild (mapOk : _) (luns : _) (cur : _) (prev : _) (bad : _) (s : State) : exec (.mapRebuild mapOk luns cur prev bad) s = execMapRebuild mapOk luns cur prev bad s := rfl
@[simp] theorem exec_heartbeatTx (s : State) : exec (.heartbeatTx) s = execHeartbeatTx s := rfl
@[simp] theorem exec_heartbeatRx (hdr : _) (fields : _) (s : State) : exec (.heartbeatRx hdr fields) s = execHeartbeatRx hdr fields s := rfl
@[simp] theorem exec_memberLoss (member : _) (s : State) : exec (.memberLoss member) s = execMemberLoss member s := rfl
@[simp] theorem exec_frameAuthDrop (s : State) : exec (.frameAuthDrop) s = execFrameAuthDrop s := rfl
@[simp] theorem exec_rtxTimer (member : _) (s : State) : exec (.rtxTimer member) s = execRtxTimer member s := rfl
@[simp] theorem exec_join (hdr : _) (fields : _) (s : State) : exec (.join hdr fields) s = execJoin hdr fields s := rfl
@[simp] theorem exec_welcome (hdr : _) (fields : _) (s : State) : exec (.welcome hdr fields) s = execWelcome hdr fields s := rfl
@[simp] theorem exec_joinWaitTimeout (s : State) : exec (.joinWaitTimeout) s = execJoinWaitTimeout s := rfl
@[simp] theorem exec_joinRetry (s : State) : exec (.joinRetry) s = execJoinRetry s := rfl
@[simp] theorem exec_leave (hdr : _) (fields : _) (s : State) : exec (.leave hdr fields) s = execLeave hdr fields s := rfl
@[simp] theorem exec_takeover (hdr : _) (fields : _) (s : State) : exec (.takeover hdr fields) s = execTakeover hdr fields s := rfl
@[simp] theorem exec_ack (hdr : _) (s : State) : exec (.ack hdr) s = execAck hdr s := rfl
@[simp] theorem exec_pointUpdate (hdr : _) (fields : _) (s : State) : exec (.pointUpdate hdr fields) s = execPointUpdate hdr fields s := rfl
@[simp] theorem exec_alPointWrite (hdr : _) (fields : _) (s : State) : exec (.alPointWrite hdr fields) s = execAlPointWrite hdr fields s := rfl
@[simp] theorem exec_pointAck (hdr : _) (fields : _) (s : State) : exec (.pointAck hdr fields) s = execPointAck hdr fields s := rfl
@[simp] theorem exec_subscribe (hdr : _) (fields : _) (s : State) : exec (.subscribe hdr fields) s = execSubscribe hdr fields s := rfl
@[simp] theorem exec_unsubscribe (hdr : _) (fields : _) (s : State) : exec (.unsubscribe hdr fields) s = execUnsubscribe hdr fields s := rfl
@[simp] theorem exec_stakeEdit (hdr : _) (fields : _) (s : State) : exec (.stakeEdit hdr fields) s = execStakeEdit hdr fields s := rfl
@[simp] theorem exec_result (hdr : _) (fields : _) (s : State) : exec (.result hdr fields) s = execResult hdr fields s := rfl
@[simp] theorem exec_limit (hdr : _) (fields : _) (s : State) : exec (.limit hdr fields) s = execLimit hdr fields s := rfl
@[simp] theorem exec_place (hdr : _) (fields : _) (s : State) : exec (.place hdr fields) s = execPlace hdr fields s := rfl
@[simp] theorem exec_placed (hdr : _) (fields : _) (s : State) : exec (.placed hdr fields) s = execPlaced hdr fields s := rfl
@[simp] theorem exec_checkpoint (hdr : _) (fields : _) (s : State) : exec (.checkpoint hdr fields) s = execCheckpoint hdr fields s := rfl
@[simp] theorem exec_unplace (hdr : _) (fields : _) (s : State) : exec (.unplace hdr fields) s = execUnplace hdr fields s := rfl
@[simp] theorem exec_replicaPut (hdr : _) (fields : _) (s : State) : exec (.replicaPut hdr fields) s = execReplicaPut hdr fields s := rfl
@[simp] theorem exec_replicaAck (hdr : _) (fields : _) (s : State) : exec (.replicaAck hdr fields) s = execReplicaAck hdr fields s := rfl
@[simp] theorem exec_replicaCommit (hdr : _) (fields : _) (s : State) : exec (.replicaCommit hdr fields) s = execReplicaCommit hdr fields s := rfl
@[simp] theorem exec_replicaReport (hdr : _) (fields : _) (s : State) : exec (.replicaReport hdr fields) s = execReplicaReport hdr fields s := rfl
@[simp] theorem exec_replicaFetch (hdr : _) (fields : _) (s : State) : exec (.replicaFetch hdr fields) s = execReplicaFetch hdr fields s := rfl
@[simp] theorem exec_replicaData (hdr : _) (fields : _) (s : State) : exec (.replicaData hdr fields) s = execReplicaData hdr fields s := rfl
@[simp] theorem exec_exportSetSend (set : _) (unit : _) (dst : _) (s : State) : exec (.exportSetSend set unit dst) s = execExportSetSend set unit dst s := rfl
@[simp] theorem exec_importStale (src : _) (set : _) (s : State) : exec (.importStale src set) s = execImportStale src set s := rfl
@[simp] theorem exec_placeAll (s : State) : exec (.placeAll) s = execPlaceAll s := rfl
@[simp] theorem exec_checkpointTake (unit : _) (s : State) : exec (.checkpointTake unit) s = execCheckpointTake unit s := rfl
@[simp] theorem exec_unitMoveAtX (unit : _) (s : State) : exec (.unitMoveAtX unit) s = execUnitMoveAtX unit s := rfl
@[simp] theorem exec_moveTimeout (unit : _) (s : State) : exec (.moveTimeout unit) s = execMoveTimeout unit s := rfl
@[simp] theorem exec_isolation (s : State) : exec (.isolation) s = execIsolation s := rfl
@[simp] theorem exec_takeoverDecide (s : State) : exec (.takeoverDecide) s = execTakeoverDecide s := rfl
@[simp] theorem exec_takeoverWaitExpire (s : State) : exec (.takeoverWaitExpire) s = execTakeoverWaitExpire s := rfl
@[simp] theorem exec_nsRead (tag : _) (s : State) : exec (.nsRead tag) s = execNsRead tag s := rfl
@[simp] theorem exec_move (tag : _) (s : State) : exec (.move tag) s = execMove tag s := rfl
@[simp] theorem exec_pin (tag : _) (s : State) : exec (.pin tag) s = execPin tag s := rfl
@[simp] theorem exec_remoteStake (tag : _) (param : _) (s : State) : exec (.remoteStake tag param) s = execRemoteStake tag param s := rfl
@[simp] theorem exec_remoteLimit (tag : _) (s : State) : exec (.remoteLimit tag) s = execRemoteLimit tag s := rfl
@[simp] theorem exec_handback (tag : _) (s : State) : exec (.handback tag) s = execHandback tag s := rfl
@[simp] theorem exec_portFrameRx (port : _) (frame : _) (s : State) : exec (.portFrameRx port frame) s = execPortFrameRx port frame s := rfl
@[simp] theorem exec_frameTransmit (port : _) (s : State) : exec (.frameTransmit port) s = execFrameTransmit port s := rfl
@[simp] theorem exec_macAge (vid : _) (mac : _) (s : State) : exec (.macAge vid mac) s = execMacAge vid mac s := rfl
@[simp] theorem exec_portBlock (port : _) (s : State) : exec (.portBlock port) s = execPortBlock port s := rfl
@[simp] theorem exec_portUnblock (port : _) (s : State) : exec (.portUnblock port) s = execPortUnblock port s := rfl
@[simp] theorem exec_fabPortEnWrite (rq : _) (port : _) (value : _) (s : State) : exec (.fabPortEnWrite rq port value) s = execFabPortEnWrite rq port value s := rfl
@[simp] theorem exec_linkChange (port : _) (up : _) (half : _) (speed : _) (eee : _) (s : State) : exec (.linkChange port up half speed eee) s = execLinkChange port up half speed eee s := rfl
@[simp] theorem exec_uplinkModeTry (port : _) (s : State) : exec (.uplinkModeTry port) s = execUplinkModeTry port s := rfl
@[simp] theorem exec_lpiEnter (port : _) (s : State) : exec (.lpiEnter port) s = execLpiEnter port s := rfl
@[simp] theorem exec_lpiHoldoffEnd (port : _) (s : State) : exec (.lpiHoldoffEnd port) s = execLpiHoldoffEnd port s := rfl
@[simp] theorem exec_lldpTx (port : _) (s : State) : exec (.lldpTx port) s = execLldpTx port s := rfl
@[simp] theorem exec_lldpRx (port : _) (txTw : _) (rxTw : _) (s : State) : exec (.lldpRx port txTw rxTw) s = execLldpRx port txTw rxTw s := rfl
@[simp] theorem exec_lldpTimeout (port : _) (s : State) : exec (.lldpTimeout port) s = execLldpTimeout port s := rfl
@[simp] theorem exec_fabFrameTx (tag : _) (data : _) (s : State) : exec (.fabFrameTx tag data) s = execFabFrameTx tag data s := rfl
@[simp] theorem exec_frameRx (tag : _) (s : State) : exec (.frameRx tag) s = execFrameRx tag s := rfl
@[simp] theorem exec_fdbAdd (tag : _) (s : State) : exec (.fdbAdd tag) s = execFdbAdd tag s := rfl
@[simp] theorem exec_fdbDel (tag : _) (s : State) : exec (.fdbDel tag) s = execFdbDel tag s := rfl
@[simp] theorem exec_fdbFlush (tag : _) (s : State) : exec (.fdbFlush tag) s = execFdbFlush tag s := rfl
@[simp] theorem exec_fdbRead (tag : _) (s : State) : exec (.fdbRead tag) s = execFdbRead tag s := rfl
@[simp] theorem exec_mdioCmd (rq : _) (value : _) (s : State) : exec (.mdioCmd rq value) s = execMdioCmd rq value s := rfl
@[simp] theorem exec_mdioDone (data : _) (s : State) : exec (.mdioDone data) s = execMdioDone data s := rfl
@[simp] theorem exec_ptpSyncRx (base : _) (port : _) (seq : _) (twoStep : _) (sec : _) (ns : _) (corr : _) (s : State) : exec (.ptpSyncRx base port seq twoStep sec ns corr) s = execPtpSyncRx base port seq twoStep sec ns corr s := rfl
@[simp] theorem exec_ptpFollowUpRx (base : _) (port : _) (seq : _) (sec : _) (ns : _) (corr : _) (s : State) : exec (.ptpFollowUpRx base port seq sec ns corr) s = execPtpFollowUpRx base port seq sec ns corr s := rfl
@[simp] theorem exec_ptpDelayRespRx (base : _) (port : _) (seq : _) (sec : _) (ns : _) (corr : _) (s : State) : exec (.ptpDelayRespRx base port seq sec ns corr) s = execPtpDelayRespRx base port seq sec ns corr s := rfl
@[simp] theorem exec_ptpDelayReqRx (base : _) (port : _) (seq : _) (sender : _) (s : State) : exec (.ptpDelayReqRx base port seq sender) s = execPtpDelayReqRx base port seq sender s := rfl
@[simp] theorem exec_ptpAnnounceRx (base : _) (port : _) (data : _) (gm : _) (utc : _) (utcValid : _) (s : State) : exec (.ptpAnnounceRx base port data gm utc utcValid) s = execPtpAnnounceRx base port data gm utc utcValid s := rfl
@[simp] theorem exec_ptpSyncTx (base : _) (port : _) (s : State) : exec (.ptpSyncTx base port) s = execPtpSyncTx base port s := rfl
@[simp] theorem exec_ptpDelayReqTx (base : _) (s : State) : exec (.ptpDelayReqTx base) s = execPtpDelayReqTx base s := rfl
@[simp] theorem exec_ptpAnnounceTx (base : _) (port : _) (s : State) : exec (.ptpAnnounceTx base port) s = execPtpAnnounceTx base port s := rfl
@[simp] theorem exec_followUpdate (base : _) (s : State) : exec (.followUpdate base) s = execFollowUpdate base s := rfl
@[simp] theorem exec_ptpHoldover (base : _) (s : State) : exec (.ptpHoldover base) s = execPtpHoldover base s := rfl
@[simp] theorem exec_ntuPgEdge (generator : _) (s : State) : exec (.ntuPgEdge generator) s = execNtuPgEdge generator s := rfl
@[simp] theorem exec_tbSet (tag : _) (s : State) : exec (.tbSet tag) s = execTbSet tag s := rfl
@[simp] theorem exec_tbAdj (tag : _) (s : State) : exec (.tbAdj tag) s = execTbAdj tag s := rfl
@[simp] theorem exec_tbAdjComplete (tag : _) (s : State) : exec (.tbAdjComplete tag) s = execTbAdjComplete tag s := rfl
@[simp] theorem exec_ntuPgEnable (tag : _) (s : State) : exec (.ntuPgEnable tag) s = execNtuPgEnable tag s := rfl
@[simp] theorem exec_ntuPgDisable (tag : _) (s : State) : exec (.ntuPgDisable tag) s = execNtuPgDisable tag s := rfl
@[simp] theorem exec_canFrameRx (channel : _) (ident : _) (xtd : _) (fdf : _) (brs : _) (esi : _) (remote : _) (data : _) (sof : _) (s : State) : exec (.canFrameRx channel ident xtd fdf brs esi remote data sof) s = execCanFrameRx channel ident xtd fdf brs esi remote data sof s := rfl
@[simp] theorem exec_canTxDone (channel : _) (s : State) : exec (.canTxDone channel) s = execCanTxDone channel s := rfl
@[simp] theorem exec_canError (channel : _) (own : _) (clash : _) (tecAdd : _) (recAdd : _) (s : State) : exec (.canError channel own clash tecAdd recAdd) s = execCanError channel own clash tecAdd recAdd s := rfl
@[simp] theorem exec_busoffRecovered (channel : _) (s : State) : exec (.busoffRecovered channel) s = execBusoffRecovered channel s := rfl
@[simp] theorem exec_matrixRow (channel : _) (idle : _) (s : State) : exec (.matrixRow channel idle) s = execMatrixRow channel idle s := rfl
@[simp] theorem exec_ttWindow (channel : _) (column : _) (idle : _) (won : _) (s : State) : exec (.ttWindow channel column idle won) s = execTtWindow channel column idle won s := rfl
@[simp] theorem exec_fbPeriodTx (channel : _) (s : State) : exec (.fbPeriodTx channel) s = execFbPeriodTx channel s := rfl
@[simp] theorem exec_nodeLoss (channel : _) (node : _) (s : State) : exec (.nodeLoss channel node) s = execNodeLoss channel node s := rfl
@[simp] theorem exec_swapDetect (channel : _) (s : State) : exec (.swapDetect channel) s = execSwapDetect channel s := rfl
@[simp] theorem exec_swapWaitEnd (channel : _) (seen : _) (s : State) : exec (.swapWaitEnd channel seen) s = execSwapWaitEnd channel seen s := rfl
@[simp] theorem exec_mbHdrRead (rq : _) (channel : _) (entry : _) (s : State) : exec (.mbHdrRead rq channel entry) s = execMbHdrRead rq channel entry s := rfl
@[simp] theorem exec_mbLastWordRead (rq : _) (channel : _) (entry : _) (s : State) : exec (.mbLastWordRead rq channel entry) s = execMbLastWordRead rq channel entry s := rfl
@[simp] theorem exec_lockTimeout (channel : _) (s : State) : exec (.lockTimeout channel) s = execLockTimeout channel s := rfl
@[simp] theorem exec_restrictWrite (rq : _) (channel : _) (value : _) (s : State) : exec (.restrictWrite rq channel value) s = execRestrictWrite rq channel value s := rfl
@[simp] theorem exec_fbcFrameTx (tag : _) (data : _) (s : State) : exec (.fbcFrameTx tag data) s = execFbcFrameTx tag data s := rfl
@[simp] theorem exec_busOn (tag : _) (s : State) : exec (.busOn tag) s = execBusOn tag s := rfl
@[simp] theorem exec_dioFilterTick (raw : _) (pulses : _) (s : State) : exec (.dioFilterTick raw pulses) s = execDioFilterTick raw pulses s := rfl
@[simp] theorem exec_outputCommand (channel : _) (s : State) : exec (.outputCommand channel) s = execOutputCommand channel s := rfl
@[simp] theorem exec_dioDiagTick (chans : _) (s : State) : exec (.dioDiagTick chans) s = execDioDiagTick chans s := rfl
@[simp] theorem exec_shortRetry (channel : _) (s : State) : exec (.shortRetry channel) s = execShortRetry channel s := rfl
@[simp] theorem exec_logicWdtExpire (s : State) : exec (.logicWdtExpire) s = execLogicWdtExpire s := rfl
@[simp] theorem exec_wdtKick (rq : _) (s : State) : exec (.wdtKick rq) s = execWdtKick rq s := rfl
@[simp] theorem exec_fieldDieSafe (s : State) : exec (.fieldDieSafe) s = execFieldDieSafe s := rfl
@[simp] theorem exec_vfieldSample (mv : _) (ma : _) (s : State) : exec (.vfieldSample mv ma) s = execVfieldSample mv ma s := rfl
@[simp] theorem exec_piStuck (input : _) (s : State) : exec (.piStuck input) s = execPiStuck input s := rfl
@[simp] theorem exec_piSupplyFault (input : _) (s : State) : exec (.piSupplyFault input) s = execPiSupplyFault input s := rfl
@[simp] theorem exec_dioSet (tag : _) (s : State) : exec (.dioSet tag) s = execDioSet tag s := rfl
@[simp] theorem exec_dioFaultClear (tag : _) (s : State) : exec (.dioFaultClear tag) s = execDioFaultClear tag s := rfl
@[simp] theorem exec_safeClear (tag : _) (s : State) : exec (.safeClear tag) s = execSafeClear tag s := rfl
@[simp] theorem exec_restore (tag : _) (s : State) : exec (.restore tag) s = execRestore tag s := rfl
@[simp] theorem exec_cntClear (tag : _) (s : State) : exec (.cntClear tag) s = execCntClear tag s := rfl
@[simp] theorem exec_rtcSecond (s : State) : exec (.rtcSecond) s = execRtcSecond s := rfl
@[simp] theorem exec_rtcHaltSet (count : _) (s : State) : exec (.rtcHaltSet count) s = execRtcHaltSet count s := rfl
@[simp] theorem exec_rtcHaltClear (s : State) : exec (.rtcHaltClear) s = execRtcHaltClear s := rfl
@[simp] theorem exec_rtcTb0Set (count : _) (s : State) : exec (.rtcTb0Set count) s = execRtcTb0Set count s := rfl
@[simp] theorem exec_rtcShadowFreeze (rq : _) (field : _) (count : _) (s : State) : exec (.rtcShadowFreeze rq field count) s = execRtcShadowFreeze rq field count s := rfl
@[simp] theorem exec_rtcYearRead (rq : _) (count : _) (s : State) : exec (.rtcYearRead rq count) s = execRtcYearRead rq count s := rfl
@[simp] theorem exec_rtcShadowTimeout (s : State) : exec (.rtcShadowTimeout) s = execRtcShadowTimeout s := rfl
@[simp] theorem exec_trimWindow (s : State) : exec (.trimWindow) s = execTrimWindow s := rfl
@[simp] theorem exec_trimMeasure (err : _) (held : _) (s : State) : exec (.trimMeasure err held) s = execTrimMeasure err held s := rfl
@[simp] theorem exec_oscStop (s : State) : exec (.oscStop) s = execOscStop s := rfl
@[simp] theorem exec_backupPowerUp (s : State) : exec (.backupPowerUp) s = execBackupPowerUp s := rfl
@[simp] theorem exec_vbatCheck (mv : _) (s : State) : exec (.vbatCheck mv) s = execVbatCheck mv s := rfl
@[simp] theorem exec_rtcWake (s : State) : exec (.rtcWake) s = execRtcWake s := rfl
@[simp] theorem exec_slotInstall (tag : _) (key : _) (s : State) : exec (.slotInstall tag key) s = execSlotInstall tag key s := rfl
@[simp] theorem exec_slotDestroy (tag : _) (s : State) : exec (.slotDestroy tag) s = execSlotDestroy tag s := rfl
@[simp] theorem exec_lcAdvance (tag : _) (token : _) (s : State) : exec (.lcAdvance tag token) s = execLcAdvance tag token s := rfl
@[simp] theorem exec_attest (tag : _) (challenge : _) (s : State) : exec (.attest tag challenge) s = execAttest tag challenge s := rfl
@[simp] theorem exec_tenantImport (tag : _) (blob : _) (s : State) : exec (.tenantImport tag blob) s = execTenantImport tag blob s := rfl
@[simp] theorem exec_tenantDestroy (tag : _) (s : State) : exec (.tenantDestroy tag) s = execTenantDestroy tag s := rfl
@[simp] theorem exec_setFloor (tag : _) (s : State) : exec (.setFloor tag) s = execSetFloor tag s := rfl
@[simp] theorem exec_keyCacheLoad (ctx : _) (s : State) : exec (.keyCacheLoad ctx) s = execKeyCacheLoad ctx s := rfl
@[simp] theorem exec_sealReserveDurable (ctx : _) (s : State) : exec (.sealReserveDurable ctx) s = execSealReserveDurable ctx s := rfl
@[simp] theorem exec_sessionOpen (tag : _) (s : State) : exec (.sessionOpen tag) s = execSessionOpen tag s := rfl
@[simp] theorem exec_sessionClose (tag : _) (s : State) : exec (.sessionClose tag) s = execSessionClose tag s := rfl
@[simp] theorem exec_sessionExpire (ctx : _) (s : State) : exec (.sessionExpire ctx) s = execSessionExpire ctx s := rfl
@[simp] theorem exec_rateRefill (ctx : _) (s : State) : exec (.rateRefill ctx) s = execRateRefill ctx s := rfl
@[simp] theorem exec_sealRead (tag : _) (indices : _) (s : State) : exec (.sealRead tag indices) s = execSealRead tag indices s := rfl
@[simp] theorem exec_pointRead (tag : _) (s : State) : exec (.pointRead tag) s = execPointRead tag s := rfl
@[simp] theorem exec_pointWrite (tag : _) (s : State) : exec (.pointWrite tag) s = execPointWrite tag s := rfl
@[simp] theorem exec_pointForce (tag : _) (s : State) : exec (.pointForce tag) s = execPointForce tag s := rfl
@[simp] theorem exec_pointRelease (tag : _) (s : State) : exec (.pointRelease tag) s = execPointRelease tag s := rfl
@[simp] theorem exec_vmainLow (mv : _) (s : State) : exec (.vmainLow mv) s = execVmainLow mv s := rfl
@[simp] theorem exec_vmainHigh (mv : _) (s : State) : exec (.vmainHigh mv) s = execVmainHigh mv s := rfl
@[simp] theorem exec_pfail (steps : _) (us : _) (s : State) : exec (.pfail steps us) s = execPfail steps us s := rfl
@[simp] theorem exec_holdupLow (s : State) : exec (.holdupLow) s = execHoldupLow s := rfl
@[simp] theorem exec_holdupTest (mv : _) (s : State) : exec (.holdupTest mv) s = execHoldupTest mv s := rfl
@[simp] theorem exec_thermWarn (temp : _) (s : State) : exec (.thermWarn temp) s = execThermWarn temp s := rfl
@[simp] theorem exec_thermalRestart (temp : _) (s : State) : exec (.thermalRestart temp) s = execThermalRestart temp s := rfl
@[simp] theorem exec_coreWatchdog (core : _) (s : State) : exec (.coreWatchdog core) s = execCoreWatchdog core s := rfl
@[simp] theorem exec_coreRestartDone (core : _) (s : State) : exec (.coreRestartDone core) s = execCoreRestartDone core s := rfl
@[simp] theorem exec_resetRelease (pins : _) (start : _) (s : State) : exec (.resetRelease pins start) s = execResetRelease pins start s := rfl
@[simp] theorem exec_firmwareLoad (copies : _) (s : State) : exec (.firmwareLoad copies) s = execFirmwareLoad copies s := rfl
@[simp] theorem exec_startConfirm (s : State) : exec (.startConfirm) s = execStartConfirm s := rfl
@[simp] theorem exec_confirmTimeout (s : State) : exec (.confirmTimeout) s = execConfirmTimeout s := rfl
@[simp] theorem exec_progressStamp (s : State) : exec (.progressStamp) s = execProgressStamp s := rfl
@[simp] theorem exec_sysRstPin (s : State) : exec (.sysRstPin) s = execSysRstPin s := rfl
@[simp] theorem exec_bootData (rq : _) (value : _) (s : State) : exec (.bootData rq value) s = execBootData rq value s := rfl
@[simp] theorem exec_bootGo (rq : _) (value : _) (fw : _) (s : State) : exec (.bootGo rq value fw) s = execBootGo rq value fw s := rfl
@[simp] theorem exec_surveyNow (s : State) : exec (.surveyNow) s = execSurveyNow s := rfl
@[simp] theorem exec_surveyDone (skews : _) (count : _) (s : State) : exec (.surveyDone skews count) s = execSurveyDone skews count s := rfl
@[simp] theorem exec_surveyAck (s : State) : exec (.surveyAck) s = execSurveyAck s := rfl
@[simp] theorem exec_gtFire (timer : _) (s : State) : exec (.gtFire timer) s = execGtFire timer s := rfl
@[simp] theorem exec_modeSet (tag : _) (s : State) : exec (.modeSet tag) s = execModeSet tag s := rfl
@[simp] theorem exec_restart (tag : _) (s : State) : exec (.restart tag) s = execRestart tag s := rfl
@[simp] theorem exec_survey (tag : _) (s : State) : exec (.survey tag) s = execSurvey tag s := rfl
@[simp] theorem exec_timerSet (tag : _) (s : State) : exec (.timerSet tag) s = execTimerSet tag s := rfl
@[simp] theorem exec_startClear (tag : _) (s : State) : exec (.startClear tag) s = execStartClear tag s := rfl
@[simp] theorem exec_claim (tag : _) (s : State) : exec (.claim tag) s = execClaim tag s := rfl
@[simp] theorem exec_release (tag : _) (s : State) : exec (.release tag) s = execRelease tag s := rfl
@[simp] theorem exec_pcieLinkUp (speed : _) (width : _) (s : State) : exec (.pcieLinkUp speed width) s = execPcieLinkUp speed width s := rfl
@[simp] theorem exec_bootWaitTimeout (s : State) : exec (.bootWaitTimeout) s = execBootWaitTimeout s := rfl
@[simp] theorem exec_supplyOutputLow (s : State) : exec (.supplyOutputLow) s = execSupplyOutputLow s := rfl
@[simp] theorem exec_dieColdPowerUp (die : _) (s : State) : exec (.dieColdPowerUp die) s = execDieColdPowerUp die s := rfl

/-- A command acts on the module out of reset, or through reset, or is LC_ADVANCE. -/
theorem exec_cases (c : Instr) (s : State) :
    (∃ f, exec c s = s.powered f) ∨ (∃ f, exec c s = s.always f) ∨ ∃ n k, c = .lcAdvance n k :=
  match c with
  | .regWrite rq off data => .inl ⟨_, exec_regWrite rq off data s⟩
  | .rcRead rq off => .inl ⟨_, exec_rcRead rq off s⟩
  | .hiLatchRead rq off => .inl ⟨_, exec_hiLatchRead rq off s⟩
  | .entryLatchRead rq off => .inl ⟨_, exec_entryLatchRead rq off s⟩
  | .errCodeRead rq block => .inl ⟨_, exec_errCodeRead rq block s⟩
  | .irqStatClear rq block value recurs => .inl ⟨_, exec_irqStatClear rq block value recurs s⟩
  | .irqForce rq block value => .inl ⟨_, exec_irqForce rq block value s⟩
  | .ctrlEn rq block value => .inl ⟨_, exec_ctrlEn rq block value s⟩
  | .srst rq block => .inl ⟨_, exec_srst rq block s⟩
  | .softResetComplete block => .inl ⟨_, exec_softResetComplete block s⟩
  | .unmappedAccess rq off write => .inl ⟨_, exec_unmappedAccess rq off write s⟩
  | .longReadAbort bytes => .inl ⟨_, exec_longReadAbort bytes s⟩
  | .atomicOp => .inl ⟨_, exec_atomicOp s⟩
  | .pcieReset => .inl ⟨_, exec_pcieReset s⟩
  | .spiRead off words count => .inl ⟨_, exec_spiRead off words count s⟩
  | .spiWrite off data cut => .inl ⟨_, exec_spiWrite off data cut s⟩
  | .spiStatus => .inl ⟨_, exec_spiStatus s⟩
  | .spiIdent => .inl ⟨_, exec_spiIdent s⟩
  | .spiLock rq value => .inl ⟨_, exec_spiLock rq value s⟩
  | .mboxGo rq value => .inl ⟨_, exec_mboxGo rq value s⟩
  | .sqDoorbell rq ring value => .inl ⟨_, exec_sqDoorbell rq ring value s⟩
  | .sqEnable rq ring value => .inl ⟨_, exec_sqEnable rq ring value s⟩
  | .cqEnable rq queue value => .inl ⟨_, exec_cqEnable rq queue value s⟩
  | .cqHeadWrite rq queue value => .inl ⟨_, exec_cqHeadWrite rq queue value s⟩
  | .descriptorFetch desc => .inl ⟨_, exec_descriptorFetch desc s⟩
  | .tagWaitRelease => .inl ⟨_, exec_tagWaitRelease s⟩
  | .opTimeout tag => .inl ⟨_, exec_opTimeout tag s⟩
  | .completionWrite route => .inl ⟨_, exec_completionWrite route s⟩
  | .completionAcked tag => .inl ⟨_, exec_completionAcked tag s⟩
  | .cqCoalTimeout queue => .inl ⟨_, exec_cqCoalTimeout queue s⟩
  | .hifFence rq => .inl ⟨_, exec_hifFence rq s⟩
  | .hifFenceRead rq => .inl ⟨_, exec_hifFenceRead rq s⟩
  | .cancel tag => .inl ⟨_, exec_cancel tag s⟩
  | .query tag => .inl ⟨_, exec_query tag s⟩
  | .lostRelease rq value => .inl ⟨_, exec_lostRelease rq value s⟩
  | .lostReportWrite => .inl ⟨_, exec_lostReportWrite s⟩
  | .benchmarkCrossing => .inl ⟨_, exec_benchmarkCrossing s⟩
  | .counterCrossStamp => .inl ⟨_, exec_counterCrossStamp s⟩
  | .refLoss => .inl ⟨_, exec_refLoss s⟩
  | .timebaseNoRef => .inl ⟨_, exec_timebaseNoRef s⟩
  | .acquireTimeout => .inl ⟨_, exec_acquireTimeout s⟩
  | .holdoverEnd => .inl ⟨_, exec_holdoverEnd s⟩
  | .stakeSet tag => .inl ⟨_, exec_stakeSet tag s⟩
  | .stakeModify tag => .inl ⟨_, exec_stakeModify tag s⟩
  | .stakeClear tag => .inl ⟨_, exec_stakeClear tag s⟩
  | .stakeClearOwner tag => .inl ⟨_, exec_stakeClearOwner tag s⟩
  | .stakeEditDurable tag => .inl ⟨_, exec_stakeEditDurable tag s⟩
  | .stakeFire => .inl ⟨_, exec_stakeFire s⟩
  | .stakeActionAck tag => .inl ⟨_, exec_stakeActionAck tag s⟩
  | .zxEdge channel => .inl ⟨_, exec_zxEdge channel s⟩
  | .zxOutPulse => .inl ⟨_, exec_zxOutPulse s⟩
  | .portDetect port => .inl ⟨_, exec_portDetect port s⟩
  | .detectionDone port result => .inl ⟨_, exec_detectionDone port result s⟩
  | .classifyDone port valid dual clsA clsB type3 autoclass => .inl ⟨_, exec_classifyDone port valid dual clsA clsB type3 autoclass s⟩
  | .staggerSlot => .inl ⟨_, exec_staggerSlot s⟩
  | .inrushEnd port settled => .inl ⟨_, exec_inrushEnd port settled s⟩
  | .autoclassMeasure port peak => .inl ⟨_, exec_autoclassMeasure port peak s⟩
  | .fastCut port pairset => .inr (.inl ⟨_, exec_fastCut port pairset s⟩)
  | .overloadCut port pairset => .inr (.inl ⟨_, exec_overloadCut port pairset s⟩)
  | .limitCut port pairset => .inr (.inl ⟨_, exec_limitCut port pairset s⟩)
  | .mpsLoss port pairset => .inr (.inl ⟨_, exec_mpsLoss port pairset s⟩)
  | .errDelayEnd port => .inl ⟨_, exec_errDelayEnd port s⟩
  | .vpseHold mv => .inl ⟨_, exec_vpseHold mv s⟩
  | .vpseHoldEnd mv => .inl ⟨_, exec_vpseHoldEnd mv s⟩
  | .vpseUvCut mv => .inr (.inl ⟨_, exec_vpseUvCut mv s⟩)
  | .vpseOvCut mv => .inl ⟨_, exec_vpseOvCut mv s⟩
  | .vpseRev => .inr (.inl ⟨_, exec_vpseRev s⟩)
  | .vpseResume mv => .inl ⟨_, exec_vpseResume mv s⟩
  | .dieTemp die temp => .inr (.inl ⟨_, exec_dieTemp die temp s⟩)
  | .pseSample vpse ports => .inr (.inl ⟨_, exec_pseSample vpse ports s⟩)
  | .adoptionRecordWrite port => .inl ⟨_, exec_adoptionRecordWrite port s⟩
  | .dieAutonomous die => .inr (.inl ⟨_, exec_dieAutonomous die s⟩)
  | .portOn tag => .inl ⟨_, exec_portOn tag s⟩
  | .portOff tag => .inl ⟨_, exec_portOff tag s⟩
  | .portCycle tag => .inl ⟨_, exec_portCycle tag s⟩
  | .portCycleOffEnd port => .inl ⟨_, exec_portCycleOffEnd port s⟩
  | .portClearLock tag => .inl ⟨_, exec_portClearLock tag s⟩
  | .portEnWrite rq port value => .inl ⟨_, exec_portEnWrite rq port value s⟩
  | .grantEvaluation => .inl ⟨_, exec_grantEvaluation s⟩
  | .capChoose => .inl ⟨_, exec_capChoose s⟩
  | .softTimeout pool => .inl ⟨_, exec_softTimeout pool s⟩
  | .hardRecheck pool => .inl ⟨_, exec_hardRecheck pool s⟩
  | .lookaheadEntry index ch => .inl ⟨_, exec_lookaheadEntry index ch s⟩
  | .stakePrice => .inl ⟨_, exec_stakePrice s⟩
  | .resvRetry => .inl ⟨_, exec_resvRetry s⟩
  | .outerCheck => .inl ⟨_, exec_outerCheck s⟩
  | .outerMismatch => .inl ⟨_, exec_outerMismatch s⟩
  | .outerClear => .inl ⟨_, exec_outerClear s⟩
  | .setLimit tag => .inl ⟨_, exec_setLimit tag s⟩
  | .price tag => .inl ⟨_, exec_price tag s⟩
  | .commandForm => .inl ⟨_, exec_commandForm s⟩
  | .discoverTick port => .inl ⟨_, exec_discoverTick port s⟩
  | .announce a => .inl ⟨_, exec_announce a s⟩
  | .accept port sub mac seq r => .inl ⟨_, exec_accept port sub mac seq r s⟩
  | .status r => .inl ⟨_, exec_status r s⟩
  | .lcpFrameDrop => .inl ⟨_, exec_lcpFrameDrop s⟩
  | .acceptTimeout entry seq => .inl ⟨_, exec_acceptTimeout entry seq s⟩
  | .bindingTimeout entry => .inl ⟨_, exec_bindingTimeout entry s⟩
  | .statusReqTimer tag => .inl ⟨_, exec_statusReqTimer tag s⟩
  | .luminaireLoss entry => .inl ⟨_, exec_luminaireLoss entry s⟩
  | .keepaliveTick entry => .inl ⟨_, exec_keepaliveTick entry s⟩
  | .level tag => .inl ⟨_, exec_level tag s⟩
  | .recall tag => .inl ⟨_, exec_recall tag s⟩
  | .override tag => .inl ⟨_, exec_override tag s⟩
  | .identify tag => .inl ⟨_, exec_identify tag s⟩
  | .rediscover tag => .inl ⟨_, exec_rediscover tag s⟩
  | .sceneWrite tag => .inl ⟨_, exec_sceneWrite tag s⟩
  | .taskStartTick task => .inl ⟨_, exec_taskStartTick task s⟩
  | .taskDispatch => .inl ⟨_, exec_taskDispatch s⟩
  | .epochRelease task => .inl ⟨_, exec_epochRelease task s⟩
  | .scnNop lane => .inl ⟨_, exec_scnNop lane s⟩
  | .scnEnd lane => .inl ⟨_, exec_scnEnd lane s⟩
  | .scnTst lane => .inl ⟨_, exec_scnTst lane s⟩
  | .scnTstn lane => .inl ⟨_, exec_scnTstn lane s⟩
  | .scnAnd lane => .inl ⟨_, exec_scnAnd lane s⟩
  | .scnAndn lane => .inl ⟨_, exec_scnAndn lane s⟩
  | .scnOr lane => .inl ⟨_, exec_scnOr lane s⟩
  | .scnOrn lane => .inl ⟨_, exec_scnOrn lane s⟩
  | .scnXor lane => .inl ⟨_, exec_scnXor lane s⟩
  | .scnXorn lane => .inl ⟨_, exec_scnXorn lane s⟩
  | .scnAndg lane => .inl ⟨_, exec_scnAndg lane s⟩
  | .scnOrg lane => .inl ⟨_, exec_scnOrg lane s⟩
  | .scnSt lane => .inl ⟨_, exec_scnSt lane s⟩
  | .scnSts lane => .inl ⟨_, exec_scnSts lane s⟩
  | .scnStr lane => .inl ⟨_, exec_scnStr lane s⟩
  | .scnNot lane => .inl ⟨_, exec_scnNot lane s⟩
  | .scnSetc lane => .inl ⟨_, exec_scnSetc lane s⟩
  | .scnClrc lane => .inl ⟨_, exec_scnClrc lane s⟩
  | .scnPshc lane => .inl ⟨_, exec_scnPshc lane s⟩
  | .scnAnds lane => .inl ⟨_, exec_scnAnds lane s⟩
  | .scnOrs lane => .inl ⟨_, exec_scnOrs lane s⟩
  | .scnXors lane => .inl ⟨_, exec_scnXors lane s⟩
  | .scnCben lane => .inl ⟨_, exec_scnCben lane s⟩
  | .scnAnde lane => .inl ⟨_, exec_scnAnde lane s⟩
  | .scnLb lane => .inl ⟨_, exec_scnLb lane s⟩
  | .scnLh lane => .inl ⟨_, exec_scnLh lane s⟩
  | .scnLw lane => .inl ⟨_, exec_scnLw lane s⟩
  | .scnLd lane => .inl ⟨_, exec_scnLd lane s⟩
  | .scnTb lane => .inl ⟨_, exec_scnTb lane s⟩
  | .scnTh lane => .inl ⟨_, exec_scnTh lane s⟩
  | .scnTw lane => .inl ⟨_, exec_scnTw lane s⟩
  | .scnTd lane => .inl ⟨_, exec_scnTd lane s⟩
  | .scnLa lane => .inl ⟨_, exec_scnLa lane s⟩
  | .scnLdp lane => .inl ⟨_, exec_scnLdp lane s⟩
  | .scnStp lane => .inl ⟨_, exec_scnStp lane s⟩
  | .scnLdpd lane => .inl ⟨_, exec_scnLdpd lane s⟩
  | .scnStpd lane => .inl ⟨_, exec_scnStpd lane s⟩
  | .scnStpb lane => .inl ⟨_, exec_scnStpb lane s⟩
  | .scnAndp lane => .inl ⟨_, exec_scnAndp lane s⟩
  | .scnLdi lane => .inl ⟨_, exec_scnLdi lane s⟩
  | .scnAddk lane => .inl ⟨_, exec_scnAddk lane s⟩
  | .scnLxri lane => .inl ⟨_, exec_scnLxri lane s⟩
  | .scnLxr lane => .inl ⟨_, exec_scnLxr lane s⟩
  | .scnTxr lane => .inl ⟨_, exec_scnTxr lane s⟩
  | .scnXra lane => .inl ⟨_, exec_scnXra lane s⟩
  | .scnAxr lane => .inl ⟨_, exec_scnAxr lane s⟩
  | .scnAdd lane => .inl ⟨_, exec_scnAdd lane s⟩
  | .scnSub lane => .inl ⟨_, exec_scnSub lane s⟩
  | .scnMul lane => .inl ⟨_, exec_scnMul lane s⟩
  | .scnDiv lane => .inl ⟨_, exec_scnDiv lane s⟩
  | .scnMod lane => .inl ⟨_, exec_scnMod lane s⟩
  | .scnNeg lane => .inl ⟨_, exec_scnNeg lane s⟩
  | .scnAbs lane => .inl ⟨_, exec_scnAbs lane s⟩
  | .scnAddr lane => .inl ⟨_, exec_scnAddr lane s⟩
  | .scnSubr lane => .inl ⟨_, exec_scnSubr lane s⟩
  | .scnMulr lane => .inl ⟨_, exec_scnMulr lane s⟩
  | .scnDivr lane => .inl ⟨_, exec_scnDivr lane s⟩
  | .scnNegr lane => .inl ⟨_, exec_scnNegr lane s⟩
  | .scnAbsr lane => .inl ⟨_, exec_scnAbsr lane s⟩
  | .scnSqrt lane => .inl ⟨_, exec_scnSqrt lane s⟩
  | .scnAddq lane => .inl ⟨_, exec_scnAddq lane s⟩
  | .scnSubq lane => .inl ⟨_, exec_scnSubq lane s⟩
  | .scnMulq lane => .inl ⟨_, exec_scnMulq lane s⟩
  | .scnNegq lane => .inl ⟨_, exec_scnNegq lane s⟩
  | .scnAddl lane => .inl ⟨_, exec_scnAddl lane s⟩
  | .scnSubl lane => .inl ⟨_, exec_scnSubl lane s⟩
  | .scnMull lane => .inl ⟨_, exec_scnMull lane s⟩
  | .scnDivl lane => .inl ⟨_, exec_scnDivl lane s⟩
  | .scnDivlu lane => .inl ⟨_, exec_scnDivlu lane s⟩
  | .scnAndw lane => .inl ⟨_, exec_scnAndw lane s⟩
  | .scnOrw lane => .inl ⟨_, exec_scnOrw lane s⟩
  | .scnXorw lane => .inl ⟨_, exec_scnXorw lane s⟩
  | .scnInvw lane => .inl ⟨_, exec_scnInvw lane s⟩
  | .scnShl lane => .inl ⟨_, exec_scnShl lane s⟩
  | .scnShr lane => .inl ⟨_, exec_scnShr lane s⟩
  | .scnSar lane => .inl ⟨_, exec_scnSar lane s⟩
  | .scnRol lane => .inl ⟨_, exec_scnRol lane s⟩
  | .scnItr lane => .inl ⟨_, exec_scnItr lane s⟩
  | .scnRti lane => .inl ⟨_, exec_scnRti lane s⟩
  | .scnRtq lane => .inl ⟨_, exec_scnRtq lane s⟩
  | .scnQtr lane => .inl ⟨_, exec_scnQtr lane s⟩
  | .scnItl lane => .inl ⟨_, exec_scnItl lane s⟩
  | .scnLtr lane => .inl ⟨_, exec_scnLtr lane s⟩
  | .scnSwap lane => .inl ⟨_, exec_scnSwap lane s⟩
  | .scnDup lane => .inl ⟨_, exec_scnDup lane s⟩
  | .scnCmpi lane => .inl ⟨_, exec_scnCmpi lane s⟩
  | .scnCmpr lane => .inl ⟨_, exec_scnCmpr lane s⟩
  | .scnCmpl lane => .inl ⟨_, exec_scnCmpl lane s⟩
  | .scnCmplu lane => .inl ⟨_, exec_scnCmplu lane s⟩
  | .scnJu lane => .inl ⟨_, exec_scnJu lane s⟩
  | .scnJt lane => .inl ⟨_, exec_scnJt lane s⟩
  | .scnJf lane => .inl ⟨_, exec_scnJf lane s⟩
  | .scnJvs lane => .inl ⟨_, exec_scnJvs lane s⟩
  | .scnLoop lane => .inl ⟨_, exec_scnLoop lane s⟩
  | .scnSeli lane => .inl ⟨_, exec_scnSeli lane s⟩
  | .scnCall lane => .inl ⟨_, exec_scnCall lane s⟩
  | .scnCallt lane => .inl ⟨_, exec_scnCallt lane s⟩
  | .scnRet lane => .inl ⟨_, exec_scnRet lane s⟩
  | .scnRett lane => .inl ⟨_, exec_scnRett lane s⟩
  | .scnTon lane => .inl ⟨_, exec_scnTon lane s⟩
  | .scnTof lane => .inl ⟨_, exec_scnTof lane s⟩
  | .scnTp lane => .inl ⟨_, exec_scnTp lane s⟩
  | .scnCtu lane => .inl ⟨_, exec_scnCtu lane s⟩
  | .scnCtd lane => .inl ⟨_, exec_scnCtd lane s⟩
  | .scnCres lane => .inl ⟨_, exec_scnCres lane s⟩
  | .scnEdgep lane => .inl ⟨_, exec_scnEdgep lane s⟩
  | .scnEdgen lane => .inl ⟨_, exec_scnEdgen lane s⟩
  | .scnClk lane => .inl ⟨_, exec_scnClk lane s⟩
  | .scnChn lane => .inl ⟨_, exec_scnChn lane s⟩
  | .scnSend lane => .inl ⟨_, exec_scnSend lane s⟩
  | .scnFence lane => .inl ⟨_, exec_scnFence lane s⟩
  | .scnFences lane => .inl ⟨_, exec_scnFences lane s⟩
  | .scnStk lane => .inl ⟨_, exec_scnStk lane s⟩
  | .load tag image => .inl ⟨_, exec_load tag image s⟩
  | .exchange tag => .inl ⟨_, exec_exchange tag s⟩
  | .exchangeAtX => .inl ⟨_, exec_exchangeAtX s⟩
  | .exchangeCarryover => .inl ⟨_, exec_exchangeCarryover s⟩
  | .unload tag => .inl ⟨_, exec_unload tag s⟩
  | .taskEn tag => .inl ⟨_, exec_taskEn tag s⟩
  | .taskTrigger tag => .inl ⟨_, exec_taskTrigger tag s⟩
  | .eventStartRelease task => .inl ⟨_, exec_eventStartRelease task s⟩
  | .scnFaultClear tag => .inl ⟨_, exec_scnFaultClear tag s⟩
  | .loopSample loop => .inl ⟨_, exec_loopSample loop s⟩
  | .loopMode tag => .inl ⟨_, exec_loopMode tag s⟩
  | .loopTune tag => .inl ⟨_, exec_loopTune tag s⟩
  | .traceArm tag => .inl ⟨_, exec_traceArm tag s⟩
  | .traceRelease tag => .inl ⟨_, exec_traceRelease tag s⟩
  | .biquadW0Write rq loop section_ value => .inl ⟨_, exec_biquadW0Write rq loop section_ value s⟩
  | .modeReqWrite rq loop value => .inl ⟨_, exec_modeReqWrite rq loop value s⟩
  | .emuSample m1 m2 => .inl ⟨_, exec_emuSample m1 m2 s⟩
  | .channelFault frontEnd channel => .inl ⟨_, exec_channelFault frontEnd channel s⟩
  | .phaseReversal frontEnd phase => .inl ⟨_, exec_phaseReversal frontEnd phase s⟩
  | .cycleBoundary harmonics => .inl ⟨_, exec_cycleBoundary harmonics s⟩
  | .recordStored slot => .inl ⟨_, exec_recordStored slot s⟩
  | .recordRetry slot => .inl ⟨_, exec_recordRetry slot s⟩
  | .pulseCount => .inl ⟨_, exec_pulseCount s⟩
  | .pulseRateTimeout input => .inl ⟨_, exec_pulseRateTimeout input s⟩
  | .pgPulse generator => .inl ⟨_, exec_pgPulse generator s⟩
  | .intervalClose tag => .inl ⟨_, exec_intervalClose tag s⟩
  | .emuPgEnable tag => .inl ⟨_, exec_emuPgEnable tag s⟩
  | .emuPgDisable tag => .inl ⟨_, exec_emuPgDisable tag s⟩
  | .calWrite tag => .inl ⟨_, exec_calWrite tag s⟩
  | .accClear tag => .inl ⟨_, exec_accClear tag s⟩
  | .put tag data => .inl ⟨_, exec_put tag data s⟩
  | .append tag data => .inl ⟨_, exec_append tag data s⟩
  | .get tag => .inl ⟨_, exec_get tag s⟩
  | .delete tag => .inl ⟨_, exec_delete tag s⟩
  | .barrier tag => .inl ⟨_, exec_barrier tag s⟩
  | .flush tag => .inl ⟨_, exec_flush tag s⟩
  | .info tag => .inl ⟨_, exec_info tag s⟩
  | .format tag luns => .inl ⟨_, exec_format tag luns s⟩
  | .nandProgramDone job pass => .inl ⟨_, exec_nandProgramDone job pass s⟩
  | .nandReadDone job corrected soft result => .inl ⟨_, exec_nandReadDone job corrected soft result s⟩
  | .trendFlush cls channel => .inl ⟨_, exec_trendFlush cls channel s⟩
  | .scrubDue block => .inl ⟨_, exec_scrubDue block s⟩
  | .relocation block => .inl ⟨_, exec_relocation block s⟩
  | .staticWearLevel pool => .inl ⟨_, exec_staticWearLevel pool s⟩
  | .garbageCollect pool => .inl ⟨_, exec_garbageCollect pool s⟩
  | .replicaSync => .inl ⟨_, exec_replicaSync s⟩
  | .mapRebuild mapOk luns cur prev bad => .inl ⟨_, exec_mapRebuild mapOk luns cur prev bad s⟩
  | .heartbeatTx => .inl ⟨_, exec_heartbeatTx s⟩
  | .heartbeatRx hdr fields => .inl ⟨_, exec_heartbeatRx hdr fields s⟩
  | .memberLoss member => .inl ⟨_, exec_memberLoss member s⟩
  | .frameAuthDrop => .inl ⟨_, exec_frameAuthDrop s⟩
  | .rtxTimer member => .inl ⟨_, exec_rtxTimer member s⟩
  | .join hdr fields => .inl ⟨_, exec_join hdr fields s⟩
  | .welcome hdr fields => .inl ⟨_, exec_welcome hdr fields s⟩
  | .joinWaitTimeout => .inl ⟨_, exec_joinWaitTimeout s⟩
  | .joinRetry => .inl ⟨_, exec_joinRetry s⟩
  | .leave hdr fields => .inl ⟨_, exec_leave hdr fields s⟩
  | .takeover hdr fields => .inl ⟨_, exec_takeover hdr fields s⟩
  | .ack hdr => .inl ⟨_, exec_ack hdr s⟩
  | .pointUpdate hdr fields => .inl ⟨_, exec_pointUpdate hdr fields s⟩
  | .alPointWrite hdr fields => .inl ⟨_, exec_alPointWrite hdr fields s⟩
  | .pointAck hdr fields => .inl ⟨_, exec_pointAck hdr fields s⟩
  | .subscribe hdr fields => .inl ⟨_, exec_subscribe hdr fields s⟩
  | .unsubscribe hdr fields => .inl ⟨_, exec_unsubscribe hdr fields s⟩
  | .stakeEdit hdr fields => .inl ⟨_, exec_stakeEdit hdr fields s⟩
  | .result hdr fields => .inl ⟨_, exec_result hdr fields s⟩
  | .limit hdr fields => .inl ⟨_, exec_limit hdr fields s⟩
  | .place hdr fields => .inl ⟨_, exec_place hdr fields s⟩
  | .placed hdr fields => .inl ⟨_, exec_placed hdr fields s⟩
  | .checkpoint hdr fields => .inl ⟨_, exec_checkpoint hdr fields s⟩
  | .unplace hdr fields => .inl ⟨_, exec_unplace hdr fields s⟩
  | .replicaPut hdr fields => .inl ⟨_, exec_replicaPut hdr fields s⟩
  | .replicaAck hdr fields => .inl ⟨_, exec_replicaAck hdr fields s⟩
  | .replicaCommit hdr fields => .inl ⟨_, exec_replicaCommit hdr fields s⟩
  | .replicaReport hdr fields => .inl ⟨_, exec_replicaReport hdr fields s⟩
  | .replicaFetch hdr fields => .inl ⟨_, exec_replicaFetch hdr fields s⟩
  | .replicaData hdr fields => .inl ⟨_, exec_replicaData hdr fields s⟩
  | .exportSetSend set unit dst => .inl ⟨_, exec_exportSetSend set unit dst s⟩
  | .importStale src set => .inl ⟨_, exec_importStale src set s⟩
  | .placeAll => .inl ⟨_, exec_placeAll s⟩
  | .checkpointTake unit => .inl ⟨_, exec_checkpointTake unit s⟩
  | .unitMoveAtX unit => .inl ⟨_, exec_unitMoveAtX unit s⟩
  | .moveTimeout unit => .inl ⟨_, exec_moveTimeout unit s⟩
  | .isolation => .inl ⟨_, exec_isolation s⟩
  | .takeoverDecide => .inl ⟨_, exec_takeoverDecide s⟩
  | .takeoverWaitExpire => .inl ⟨_, exec_takeoverWaitExpire s⟩
  | .nsRead tag => .inl ⟨_, exec_nsRead tag s⟩
  | .move tag => .inl ⟨_, exec_move tag s⟩
  | .pin tag => .inl ⟨_, exec_pin tag s⟩
  | .remoteStake tag param => .inl ⟨_, exec_remoteStake tag param s⟩
  | .remoteLimit tag => .inl ⟨_, exec_remoteLimit tag s⟩
  | .handback tag => .inl ⟨_, exec_handback tag s⟩
  | .portFrameRx port frame => .inl ⟨_, exec_portFrameRx port frame s⟩
  | .frameTransmit port => .inl ⟨_, exec_frameTransmit port s⟩
  | .macAge vid mac => .inl ⟨_, exec_macAge vid mac s⟩
  | .portBlock port => .inl ⟨_, exec_portBlock port s⟩
  | .portUnblock port => .inl ⟨_, exec_portUnblock port s⟩
  | .fabPortEnWrite rq port value => .inl ⟨_, exec_fabPortEnWrite rq port value s⟩
  | .linkChange port up half speed eee => .inl ⟨_, exec_linkChange port up half speed eee s⟩
  | .uplinkModeTry port => .inl ⟨_, exec_uplinkModeTry port s⟩
  | .lpiEnter port => .inl ⟨_, exec_lpiEnter port s⟩
  | .lpiHoldoffEnd port => .inl ⟨_, exec_lpiHoldoffEnd port s⟩
  | .lldpTx port => .inl ⟨_, exec_lldpTx port s⟩
  | .lldpRx port txTw rxTw => .inl ⟨_, exec_lldpRx port txTw rxTw s⟩
  | .lldpTimeout port => .inl ⟨_, exec_lldpTimeout port s⟩
  | .fabFrameTx tag data => .inl ⟨_, exec_fabFrameTx tag data s⟩
  | .frameRx tag => .inl ⟨_, exec_frameRx tag s⟩
  | .fdbAdd tag => .inl ⟨_, exec_fdbAdd tag s⟩
  | .fdbDel tag => .inl ⟨_, exec_fdbDel tag s⟩
  | .fdbFlush tag => .inl ⟨_, exec_fdbFlush tag s⟩
  | .fdbRead tag => .inl ⟨_, exec_fdbRead tag s⟩
  | .mdioCmd rq value => .inl ⟨_, exec_mdioCmd rq value s⟩
  | .mdioDone data => .inl ⟨_, exec_mdioDone data s⟩
  | .ptpSyncRx base port seq twoStep sec ns corr => .inl ⟨_, exec_ptpSyncRx base port seq twoStep sec ns corr s⟩
  | .ptpFollowUpRx base port seq sec ns corr => .inl ⟨_, exec_ptpFollowUpRx base port seq sec ns corr s⟩
  | .ptpDelayRespRx base port seq sec ns corr => .inl ⟨_, exec_ptpDelayRespRx base port seq sec ns corr s⟩
  | .ptpDelayReqRx base port seq sender => .inl ⟨_, exec_ptpDelayReqRx base port seq sender s⟩
  | .ptpAnnounceRx base port data gm utc utcValid => .inl ⟨_, exec_ptpAnnounceRx base port data gm utc utcValid s⟩
  | .ptpSyncTx base port => .inl ⟨_, exec_ptpSyncTx base port s⟩
  | .ptpDelayReqTx base => .inl ⟨_, exec_ptpDelayReqTx base s⟩
  | .ptpAnnounceTx base port => .inl ⟨_, exec_ptpAnnounceTx base port s⟩
  | .followUpdate base => .inl ⟨_, exec_followUpdate base s⟩
  | .ptpHoldover base => .inl ⟨_, exec_ptpHoldover base s⟩
  | .ntuPgEdge generator => .inl ⟨_, exec_ntuPgEdge generator s⟩
  | .tbSet tag => .inl ⟨_, exec_tbSet tag s⟩
  | .tbAdj tag => .inl ⟨_, exec_tbAdj tag s⟩
  | .tbAdjComplete tag => .inl ⟨_, exec_tbAdjComplete tag s⟩
  | .ntuPgEnable tag => .inl ⟨_, exec_ntuPgEnable tag s⟩
  | .ntuPgDisable tag => .inl ⟨_, exec_ntuPgDisable tag s⟩
  | .canFrameRx channel ident xtd fdf brs esi remote data sof => .inl ⟨_, exec_canFrameRx channel ident xtd fdf brs esi remote data sof s⟩
  | .canTxDone channel => .inl ⟨_, exec_canTxDone channel s⟩
  | .canError channel own clash tecAdd recAdd => .inl ⟨_, exec_canError channel own clash tecAdd recAdd s⟩
  | .busoffRecovered channel => .inl ⟨_, exec_busoffRecovered channel s⟩
  | .matrixRow channel idle => .inl ⟨_, exec_matrixRow channel idle s⟩
  | .ttWindow channel column idle won => .inl ⟨_, exec_ttWindow channel column idle won s⟩
  | .fbPeriodTx channel => .inl ⟨_, exec_fbPeriodTx channel s⟩
  | .nodeLoss channel node => .inl ⟨_, exec_nodeLoss channel node s⟩
  | .swapDetect channel => .inl ⟨_, exec_swapDetect channel s⟩
  | .swapWaitEnd channel seen => .inl ⟨_, exec_swapWaitEnd channel seen s⟩
  | .mbHdrRead rq channel entry => .inl ⟨_, exec_mbHdrRead rq channel entry s⟩
  | .mbLastWordRead rq channel entry => .inl ⟨_, exec_mbLastWordRead rq channel entry s⟩
  | .lockTimeout channel => .inl ⟨_, exec_lockTimeout channel s⟩
  | .restrictWrite rq channel value => .inl ⟨_, exec_restrictWrite rq channel value s⟩
  | .fbcFrameTx tag data => .inl ⟨_, exec_fbcFrameTx tag data s⟩
  | .busOn tag => .inl ⟨_, exec_busOn tag s⟩
  | .dioFilterTick raw pulses => .inl ⟨_, exec_dioFilterTick raw pulses s⟩
  | .outputCommand channel => .inl ⟨_, exec_outputCommand channel s⟩
  | .dioDiagTick chans => .inl ⟨_, exec_dioDiagTick chans s⟩
  | .shortRetry channel => .inl ⟨_, exec_shortRetry channel s⟩
  | .logicWdtExpire => .inl ⟨_, exec_logicWdtExpire s⟩
  | .wdtKick rq => .inl ⟨_, exec_wdtKick rq s⟩
  | .fieldDieSafe => .inr (.inl ⟨_, exec_fieldDieSafe s⟩)
  | .vfieldSample mv ma => .inl ⟨_, exec_vfieldSample mv ma s⟩
  | .piStuck input => .inl ⟨_, exec_piStuck input s⟩
  | .piSupplyFault input => .inl ⟨_, exec_piSupplyFault input s⟩
  | .dioSet tag => .inl ⟨_, exec_dioSet tag s⟩
  | .dioFaultClear tag => .inl ⟨_, exec_dioFaultClear tag s⟩
  | .safeClear tag => .inl ⟨_, exec_safeClear tag s⟩
  | .restore tag => .inl ⟨_, exec_restore tag s⟩
  | .cntClear tag => .inl ⟨_, exec_cntClear tag s⟩
  | .rtcSecond => .inr (.inl ⟨_, exec_rtcSecond s⟩)
  | .rtcHaltSet count => .inl ⟨_, exec_rtcHaltSet count s⟩
  | .rtcHaltClear => .inl ⟨_, exec_rtcHaltClear s⟩
  | .rtcTb0Set count => .inl ⟨_, exec_rtcTb0Set count s⟩
  | .rtcShadowFreeze rq field count => .inl ⟨_, exec_rtcShadowFreeze rq field count s⟩
  | .rtcYearRead rq count => .inl ⟨_, exec_rtcYearRead rq count s⟩
  | .rtcShadowTimeout => .inl ⟨_, exec_rtcShadowTimeout s⟩
  | .trimWindow => .inr (.inl ⟨_, exec_trimWindow s⟩)
  | .trimMeasure err held => .inl ⟨_, exec_trimMeasure err held s⟩
  | .oscStop => .inr (.inl ⟨_, exec_oscStop s⟩)
  | .backupPowerUp => .inr (.inl ⟨_, exec_backupPowerUp s⟩)
  | .vbatCheck mv => .inl ⟨_, exec_vbatCheck mv s⟩
  | .rtcWake => .inr (.inl ⟨_, exec_rtcWake s⟩)
  | .slotInstall tag key => .inl ⟨_, exec_slotInstall tag key s⟩
  | .slotDestroy tag => .inl ⟨_, exec_slotDestroy tag s⟩
  | .lcAdvance tag token => .inr (.inr ⟨_, _, rfl⟩)
  | .attest tag challenge => .inl ⟨_, exec_attest tag challenge s⟩
  | .tenantImport tag blob => .inl ⟨_, exec_tenantImport tag blob s⟩
  | .tenantDestroy tag => .inl ⟨_, exec_tenantDestroy tag s⟩
  | .setFloor tag => .inl ⟨_, exec_setFloor tag s⟩
  | .keyCacheLoad ctx => .inl ⟨_, exec_keyCacheLoad ctx s⟩
  | .sealReserveDurable ctx => .inl ⟨_, exec_sealReserveDurable ctx s⟩
  | .sessionOpen tag => .inl ⟨_, exec_sessionOpen tag s⟩
  | .sessionClose tag => .inl ⟨_, exec_sessionClose tag s⟩
  | .sessionExpire ctx => .inl ⟨_, exec_sessionExpire ctx s⟩
  | .rateRefill ctx => .inl ⟨_, exec_rateRefill ctx s⟩
  | .sealRead tag indices => .inl ⟨_, exec_sealRead tag indices s⟩
  | .pointRead tag => .inl ⟨_, exec_pointRead tag s⟩
  | .pointWrite tag => .inl ⟨_, exec_pointWrite tag s⟩
  | .pointForce tag => .inl ⟨_, exec_pointForce tag s⟩
  | .pointRelease tag => .inl ⟨_, exec_pointRelease tag s⟩
  | .vmainLow mv => .inl ⟨_, exec_vmainLow mv s⟩
  | .vmainHigh mv => .inl ⟨_, exec_vmainHigh mv s⟩
  | .pfail steps us => .inr (.inl ⟨_, exec_pfail steps us s⟩)
  | .holdupLow => .inl ⟨_, exec_holdupLow s⟩
  | .holdupTest mv => .inl ⟨_, exec_holdupTest mv s⟩
  | .thermWarn temp => .inl ⟨_, exec_thermWarn temp s⟩
  | .thermalRestart temp => .inl ⟨_, exec_thermalRestart temp s⟩
  | .coreWatchdog core => .inl ⟨_, exec_coreWatchdog core s⟩
  | .coreRestartDone core => .inl ⟨_, exec_coreRestartDone core s⟩
  | .resetRelease pins start => .inr (.inl ⟨_, exec_resetRelease pins start s⟩)
  | .firmwareLoad copies => .inl ⟨_, exec_firmwareLoad copies s⟩
  | .startConfirm => .inl ⟨_, exec_startConfirm s⟩
  | .confirmTimeout => .inl ⟨_, exec_confirmTimeout s⟩
  | .progressStamp => .inl ⟨_, exec_progressStamp s⟩
  | .sysRstPin => .inl ⟨_, exec_sysRstPin s⟩
  | .bootData rq value => .inl ⟨_, exec_bootData rq value s⟩
  | .bootGo rq value fw => .inl ⟨_, exec_bootGo rq value fw s⟩
  | .surveyNow => .inl ⟨_, exec_surveyNow s⟩
  | .surveyDone skews count => .inl ⟨_, exec_surveyDone skews count s⟩
  | .surveyAck => .inl ⟨_, exec_surveyAck s⟩
  | .gtFire timer => .inl ⟨_, exec_gtFire timer s⟩
  | .modeSet tag => .inr (.inl ⟨_, exec_modeSet tag s⟩)
  | .restart tag => .inl ⟨_, exec_restart tag s⟩
  | .survey tag => .inl ⟨_, exec_survey tag s⟩
  | .timerSet tag => .inl ⟨_, exec_timerSet tag s⟩
  | .startClear tag => .inl ⟨_, exec_startClear tag s⟩
  | .claim tag => .inl ⟨_, exec_claim tag s⟩
  | .release tag => .inl ⟨_, exec_release tag s⟩
  | .pcieLinkUp speed width => .inl ⟨_, exec_pcieLinkUp speed width s⟩
  | .bootWaitTimeout => .inl ⟨_, exec_bootWaitTimeout s⟩
  | .supplyOutputLow => .inl ⟨_, exec_supplyOutputLow s⟩
  | .dieColdPowerUp die => .inr (.inl ⟨_, exec_dieColdPowerUp die s⟩)

end Sys2Proof.Machine
end

