-- ==== Sys2Proof/Laws/Fields.lean ====
section
/-! SUPPORT. What the shared operations with branches leave unchanged, field by field. -/

namespace Sys2Proof.Machine

/-- The end of an operation touches registers, outputs and the books of FAB, HLK, OPT, SCN and STO alone. -/
theorem State.decideOp_some (s : State) (t status : Nat) (result : Word) :
    ∃ r o f k p c t', s.decideOp t status result =
      { s with regs := r, out := o, fab := f, hlk := k, opt := p, scn := c, sto := t' } := by
  by_cases h : (s.slot t).st = .active
  · obtain ⟨r, o, f, k, e⟩ := s.decideOp_eq t status result h
    exact ⟨r, o, f, k, _, _, _, e⟩
  · exact ⟨s.regs, s.out, s.fab, s.hlk, s.opt, s.scn, s.sto, s.decideOp_of_not_active t status result h⟩

/-- A stored value changes points and the notes of them alone (R12). -/
theorem State.storeOne_eq (s : State) (o i : Nat) (v : Dword) (q : Nat) :
    ∃ p n, s.storeOne o i v q = { s with points := p, notes := n } := by
  unfold State.storeOne
  simp only
  split
  · exact ⟨s.points, s.notes, rfl⟩
  · split <;> split <;> exact ⟨_, _, rfl⟩

theorem State.storePoint_eq (s : State) (o i : Nat) (v : Dword) (q : Nat) :
    ∃ p n, s.storePoint o i v q = { s with points := p, notes := n } := by
  unfold State.storePoint
  generalize s.copiesOf i = l
  obtain ⟨p, n, h⟩ := s.storeOne_eq o i v q
  rw [h]
  clear h
  induction l generalizing p n with
  | nil => exact ⟨p, n, rfl⟩
  | cons j r ih =>
    obtain ⟨p', n', h'⟩ := State.storeOne_eq { s with points := p, notes := n } o j v q
    rw [List.foldl_cons, h']
    exact ih p' n'

theorem State.setQuality_eq (s : State) (o i q : Nat) : ∃ p n, s.setQuality o i q = { s with points := p, notes := n } :=
  s.storePoint_eq o i _ q

theorem State.pubPoint_eq (s : State) (b k : Nat) (v : Dword) (q : Nat) :
    ∃ p n, s.pubPoint b k v q = { s with points := p, notes := n } := by
  unfold State.pubPoint
  simp only
  split
  · exact ⟨s.points, s.notes, rfl⟩
  · exact s.storePoint_eq _ _ v q

theorem State.pubQuality_eq (s : State) (b k q : Nat) : ∃ p n, s.pubQuality b k q = { s with points := p, notes := n } := by
  unfold State.pubQuality
  simp only
  split
  · exact ⟨s.points, s.notes, rfl⟩
  · exact s.setQuality_eq _ _ q

@[simp] theorem State.signalVector_pending (s : State) (v : Nat) : (s.signalVector v).pending = s.pending := by
  obtain ⟨_, _, h⟩ := s.signalVector_eq v; rw [h]
@[simp] theorem State.signalVector_late (s : State) (v : Nat) : (s.signalVector v).late = s.late := by
  obtain ⟨_, _, h⟩ := s.signalVector_eq v; rw [h]
@[simp] theorem State.signalVector_coreWait (s : State) (v : Nat) : (s.signalVector v).coreWait = s.coreWait := by
  obtain ⟨_, _, h⟩ := s.signalVector_eq v; rw [h]
@[simp] theorem State.signalVector_clk (s : State) (v : Nat) : (s.signalVector v).clk = s.clk := by
  obtain ⟨_, _, h⟩ := s.signalVector_eq v; rw [h]
@[simp] theorem State.signalVector_free (s : State) (v : Nat) : (s.signalVector v).free = s.free := by
  obtain ⟨_, _, h⟩ := s.signalVector_eq v; rw [h]
@[simp] theorem State.signalVector_image (s : State) (v : Nat) : (s.signalVector v).image = s.image := by
  obtain ⟨_, _, h⟩ := s.signalVector_eq v; rw [h]
@[simp] theorem State.signalVector_latch (s : State) (v : Nat) : (s.signalVector v).latch = s.latch := by
  obtain ⟨_, _, h⟩ := s.signalVector_eq v; rw [h]
@[simp] theorem State.signalVector_loLatch (s : State) (v : Nat) : (s.signalVector v).loLatch = s.loLatch := by
  obtain ⟨_, _, h⟩ := s.signalVector_eq v; rw [h]
@[simp] theorem State.signalVector_loPend (s : State) (v : Nat) : (s.signalVector v).loPend = s.loPend := by
  obtain ⟨_, _, h⟩ := s.signalVector_eq v; rw [h]
@[simp] theorem State.signalVector_errDetail (s : State) (v : Nat) : (s.signalVector v).errDetail = s.errDetail := by
  obtain ⟨_, _, h⟩ := s.signalVector_eq v; rw [h]
@[simp] theorem State.signalVector_claims (s : State) (v : Nat) : (s.signalVector v).claims = s.claims := by
  obtain ⟨_, _, h⟩ := s.signalVector_eq v; rw [h]
@[simp] theorem State.signalVector_points (s : State) (v : Nat) : (s.signalVector v).points = s.points := by
  obtain ⟨_, _, h⟩ := s.signalVector_eq v; rw [h]
@[simp] theorem State.signalVector_notes (s : State) (v : Nat) : (s.signalVector v).notes = s.notes := by
  obtain ⟨_, _, h⟩ := s.signalVector_eq v; rw [h]
@[simp] theorem State.signalVector_opt (s : State) (v : Nat) : (s.signalVector v).opt = s.opt := by
  obtain ⟨_, _, h⟩ := s.signalVector_eq v; rw [h]
@[simp] theorem State.signalVector_hif (s : State) (v : Nat) : (s.signalVector v).hif = s.hif := by
  obtain ⟨_, _, h⟩ := s.signalVector_eq v; rw [h]
@[simp] theorem State.signalVector_lat (s : State) (v : Nat) : (s.signalVector v).lat = s.lat := by
  obtain ⟨_, _, h⟩ := s.signalVector_eq v; rw [h]
@[simp] theorem State.signalVector_sup (s : State) (v : Nat) : (s.signalVector v).sup = s.sup := by
  obtain ⟨_, _, h⟩ := s.signalVector_eq v; rw [h]
@[simp] theorem State.signalVector_key (s : State) (v : Nat) : (s.signalVector v).key = s.key := by
  obtain ⟨_, _, h⟩ := s.signalVector_eq v; rw [h]
@[simp] theorem State.signalVector_ten (s : State) (v : Nat) : (s.signalVector v).ten = s.ten := by
  obtain ⟨_, _, h⟩ := s.signalVector_eq v; rw [h]
@[simp] theorem State.signalVector_tbs (s : State) (v : Nat) : (s.signalVector v).tbs = s.tbs := by
  obtain ⟨_, _, h⟩ := s.signalVector_eq v; rw [h]
@[simp] theorem State.signalVector_fab (s : State) (v : Nat) : (s.signalVector v).fab = s.fab := by
  obtain ⟨_, _, h⟩ := s.signalVector_eq v; rw [h]
@[simp] theorem State.signalVector_ntu (s : State) (v : Nat) : (s.signalVector v).ntu = s.ntu := by
  obtain ⟨_, _, h⟩ := s.signalVector_eq v; rw [h]
@[simp] theorem State.signalVector_pse (s : State) (v : Nat) : (s.signalVector v).pse = s.pse := by
  obtain ⟨_, _, h⟩ := s.signalVector_eq v; rw [h]
@[simp] theorem State.signalVector_arb (s : State) (v : Nat) : (s.signalVector v).arb = s.arb := by
  obtain ⟨_, _, h⟩ := s.signalVector_eq v; rw [h]
@[simp] theorem State.signalVector_lcp (s : State) (v : Nat) : (s.signalVector v).lcp = s.lcp := by
  obtain ⟨_, _, h⟩ := s.signalVector_eq v; rw [h]
@[simp] theorem State.signalVector_dio (s : State) (v : Nat) : (s.signalVector v).dio = s.dio := by
  obtain ⟨_, _, h⟩ := s.signalVector_eq v; rw [h]
@[simp] theorem State.signalVector_scn (s : State) (v : Nat) : (s.signalVector v).scn = s.scn := by
  obtain ⟨_, _, h⟩ := s.signalVector_eq v; rw [h]
@[simp] theorem State.signalVector_hlk (s : State) (v : Nat) : (s.signalVector v).hlk = s.hlk := by
  obtain ⟨_, _, h⟩ := s.signalVector_eq v; rw [h]
@[simp] theorem State.signalVector_fbc (s : State) (v : Nat) : (s.signalVector v).fbc = s.fbc := by
  obtain ⟨_, _, h⟩ := s.signalVector_eq v; rw [h]
@[simp] theorem State.signalVector_rtc (s : State) (v : Nat) : (s.signalVector v).rtc = s.rtc := by
  obtain ⟨_, _, h⟩ := s.signalVector_eq v; rw [h]
@[simp] theorem State.signalVector_lpe (s : State) (v : Nat) : (s.signalVector v).lpe = s.lpe := by
  obtain ⟨_, _, h⟩ := s.signalVector_eq v; rw [h]
@[simp] theorem State.signalVector_emu (s : State) (v : Nat) : (s.signalVector v).emu = s.emu := by
  obtain ⟨_, _, h⟩ := s.signalVector_eq v; rw [h]
@[simp] theorem State.signalVector_sto (s : State) (v : Nat) : (s.signalVector v).sto = s.sto := by
  obtain ⟨_, _, h⟩ := s.signalVector_eq v; rw [h]

@[simp] theorem State.irqEdge_pending (s : State) (s0 : State) (b : Nat) : (s.irqEdge s0 b).pending = s.pending := by
  obtain ⟨_, _, h⟩ := s.irqEdge_eq s0 b; rw [h]
@[simp] theorem State.irqEdge_late (s : State) (s0 : State) (b : Nat) : (s.irqEdge s0 b).late = s.late := by
  obtain ⟨_, _, h⟩ := s.irqEdge_eq s0 b; rw [h]
@[simp] theorem State.irqEdge_coreWait (s : State) (s0 : State) (b : Nat) : (s.irqEdge s0 b).coreWait = s.coreWait := by
  obtain ⟨_, _, h⟩ := s.irqEdge_eq s0 b; rw [h]
@[simp] theorem State.irqEdge_clk (s : State) (s0 : State) (b : Nat) : (s.irqEdge s0 b).clk = s.clk := by
  obtain ⟨_, _, h⟩ := s.irqEdge_eq s0 b; rw [h]
@[simp] theorem State.irqEdge_free (s : State) (s0 : State) (b : Nat) : (s.irqEdge s0 b).free = s.free := by
  obtain ⟨_, _, h⟩ := s.irqEdge_eq s0 b; rw [h]
@[simp] theorem State.irqEdge_image (s : State) (s0 : State) (b : Nat) : (s.irqEdge s0 b).image = s.image := by
  obtain ⟨_, _, h⟩ := s.irqEdge_eq s0 b; rw [h]
@[simp] theorem State.irqEdge_latch (s : State) (s0 : State) (b : Nat) : (s.irqEdge s0 b).latch = s.latch := by
  obtain ⟨_, _, h⟩ := s.irqEdge_eq s0 b; rw [h]
@[simp] theorem State.irqEdge_loLatch (s : State) (s0 : State) (b : Nat) : (s.irqEdge s0 b).loLatch = s.loLatch := by
  obtain ⟨_, _, h⟩ := s.irqEdge_eq s0 b; rw [h]
@[simp] theorem State.irqEdge_loPend (s : State) (s0 : State) (b : Nat) : (s.irqEdge s0 b).loPend = s.loPend := by
  obtain ⟨_, _, h⟩ := s.irqEdge_eq s0 b; rw [h]
@[simp] theorem State.irqEdge_errDetail (s : State) (s0 : State) (b : Nat) : (s.irqEdge s0 b).errDetail = s.errDetail := by
  obtain ⟨_, _, h⟩ := s.irqEdge_eq s0 b; rw [h]
@[simp] theorem State.irqEdge_claims (s : State) (s0 : State) (b : Nat) : (s.irqEdge s0 b).claims = s.claims := by
  obtain ⟨_, _, h⟩ := s.irqEdge_eq s0 b; rw [h]
@[simp] theorem State.irqEdge_points (s : State) (s0 : State) (b : Nat) : (s.irqEdge s0 b).points = s.points := by
  obtain ⟨_, _, h⟩ := s.irqEdge_eq s0 b; rw [h]
@[simp] theorem State.irqEdge_notes (s : State) (s0 : State) (b : Nat) : (s.irqEdge s0 b).notes = s.notes := by
  obtain ⟨_, _, h⟩ := s.irqEdge_eq s0 b; rw [h]
@[simp] theorem State.irqEdge_opt (s : State) (s0 : State) (b : Nat) : (s.irqEdge s0 b).opt = s.opt := by
  obtain ⟨_, _, h⟩ := s.irqEdge_eq s0 b; rw [h]
@[simp] theorem State.irqEdge_hif (s : State) (s0 : State) (b : Nat) : (s.irqEdge s0 b).hif = s.hif := by
  obtain ⟨_, _, h⟩ := s.irqEdge_eq s0 b; rw [h]
@[simp] theorem State.irqEdge_lat (s : State) (s0 : State) (b : Nat) : (s.irqEdge s0 b).lat = s.lat := by
  obtain ⟨_, _, h⟩ := s.irqEdge_eq s0 b; rw [h]
@[simp] theorem State.irqEdge_sup (s : State) (s0 : State) (b : Nat) : (s.irqEdge s0 b).sup = s.sup := by
  obtain ⟨_, _, h⟩ := s.irqEdge_eq s0 b; rw [h]
@[simp] theorem State.irqEdge_key (s : State) (s0 : State) (b : Nat) : (s.irqEdge s0 b).key = s.key := by
  obtain ⟨_, _, h⟩ := s.irqEdge_eq s0 b; rw [h]
@[simp] theorem State.irqEdge_ten (s : State) (s0 : State) (b : Nat) : (s.irqEdge s0 b).ten = s.ten := by
  obtain ⟨_, _, h⟩ := s.irqEdge_eq s0 b; rw [h]
@[simp] theorem State.irqEdge_tbs (s : State) (s0 : State) (b : Nat) : (s.irqEdge s0 b).tbs = s.tbs := by
  obtain ⟨_, _, h⟩ := s.irqEdge_eq s0 b; rw [h]
@[simp] theorem State.irqEdge_fab (s : State) (s0 : State) (b : Nat) : (s.irqEdge s0 b).fab = s.fab := by
  obtain ⟨_, _, h⟩ := s.irqEdge_eq s0 b; rw [h]
@[simp] theorem State.irqEdge_ntu (s : State) (s0 : State) (b : Nat) : (s.irqEdge s0 b).ntu = s.ntu := by
  obtain ⟨_, _, h⟩ := s.irqEdge_eq s0 b; rw [h]
@[simp] theorem State.irqEdge_pse (s : State) (s0 : State) (b : Nat) : (s.irqEdge s0 b).pse = s.pse := by
  obtain ⟨_, _, h⟩ := s.irqEdge_eq s0 b; rw [h]
@[simp] theorem State.irqEdge_arb (s : State) (s0 : State) (b : Nat) : (s.irqEdge s0 b).arb = s.arb := by
  obtain ⟨_, _, h⟩ := s.irqEdge_eq s0 b; rw [h]
@[simp] theorem State.irqEdge_lcp (s : State) (s0 : State) (b : Nat) : (s.irqEdge s0 b).lcp = s.lcp := by
  obtain ⟨_, _, h⟩ := s.irqEdge_eq s0 b; rw [h]
@[simp] theorem State.irqEdge_dio (s : State) (s0 : State) (b : Nat) : (s.irqEdge s0 b).dio = s.dio := by
  obtain ⟨_, _, h⟩ := s.irqEdge_eq s0 b; rw [h]
@[simp] theorem State.irqEdge_scn (s : State) (s0 : State) (b : Nat) : (s.irqEdge s0 b).scn = s.scn := by
  obtain ⟨_, _, h⟩ := s.irqEdge_eq s0 b; rw [h]
@[simp] theorem State.irqEdge_hlk (s : State) (s0 : State) (b : Nat) : (s.irqEdge s0 b).hlk = s.hlk := by
  obtain ⟨_, _, h⟩ := s.irqEdge_eq s0 b; rw [h]
@[simp] theorem State.irqEdge_fbc (s : State) (s0 : State) (b : Nat) : (s.irqEdge s0 b).fbc = s.fbc := by
  obtain ⟨_, _, h⟩ := s.irqEdge_eq s0 b; rw [h]
@[simp] theorem State.irqEdge_rtc (s : State) (s0 : State) (b : Nat) : (s.irqEdge s0 b).rtc = s.rtc := by
  obtain ⟨_, _, h⟩ := s.irqEdge_eq s0 b; rw [h]
@[simp] theorem State.irqEdge_lpe (s : State) (s0 : State) (b : Nat) : (s.irqEdge s0 b).lpe = s.lpe := by
  obtain ⟨_, _, h⟩ := s.irqEdge_eq s0 b; rw [h]
@[simp] theorem State.irqEdge_emu (s : State) (s0 : State) (b : Nat) : (s.irqEdge s0 b).emu = s.emu := by
  obtain ⟨_, _, h⟩ := s.irqEdge_eq s0 b; rw [h]
@[simp] theorem State.irqEdge_sto (s : State) (s0 : State) (b : Nat) : (s.irqEdge s0 b).sto = s.sto := by
  obtain ⟨_, _, h⟩ := s.irqEdge_eq s0 b; rw [h]

@[simp] theorem State.raiseIrq_pending (s : State) (b bit : Nat) : (s.raiseIrq b bit).pending = s.pending := by
  obtain ⟨_, _, h⟩ := s.raiseIrq_eq b bit; rw [h]
@[simp] theorem State.raiseIrq_late (s : State) (b bit : Nat) : (s.raiseIrq b bit).late = s.late := by
  obtain ⟨_, _, h⟩ := s.raiseIrq_eq b bit; rw [h]
@[simp] theorem State.raiseIrq_coreWait (s : State) (b bit : Nat) : (s.raiseIrq b bit).coreWait = s.coreWait := by
  obtain ⟨_, _, h⟩ := s.raiseIrq_eq b bit; rw [h]
@[simp] theorem State.raiseIrq_clk (s : State) (b bit : Nat) : (s.raiseIrq b bit).clk = s.clk := by
  obtain ⟨_, _, h⟩ := s.raiseIrq_eq b bit; rw [h]
@[simp] theorem State.raiseIrq_free (s : State) (b bit : Nat) : (s.raiseIrq b bit).free = s.free := by
  obtain ⟨_, _, h⟩ := s.raiseIrq_eq b bit; rw [h]
@[simp] theorem State.raiseIrq_image (s : State) (b bit : Nat) : (s.raiseIrq b bit).image = s.image := by
  obtain ⟨_, _, h⟩ := s.raiseIrq_eq b bit; rw [h]
@[simp] theorem State.raiseIrq_latch (s : State) (b bit : Nat) : (s.raiseIrq b bit).latch = s.latch := by
  obtain ⟨_, _, h⟩ := s.raiseIrq_eq b bit; rw [h]
@[simp] theorem State.raiseIrq_loLatch (s : State) (b bit : Nat) : (s.raiseIrq b bit).loLatch = s.loLatch := by
  obtain ⟨_, _, h⟩ := s.raiseIrq_eq b bit; rw [h]
@[simp] theorem State.raiseIrq_loPend (s : State) (b bit : Nat) : (s.raiseIrq b bit).loPend = s.loPend := by
  obtain ⟨_, _, h⟩ := s.raiseIrq_eq b bit; rw [h]
@[simp] theorem State.raiseIrq_errDetail (s : State) (b bit : Nat) : (s.raiseIrq b bit).errDetail = s.errDetail := by
  obtain ⟨_, _, h⟩ := s.raiseIrq_eq b bit; rw [h]
@[simp] theorem State.raiseIrq_claims (s : State) (b bit : Nat) : (s.raiseIrq b bit).claims = s.claims := by
  obtain ⟨_, _, h⟩ := s.raiseIrq_eq b bit; rw [h]
@[simp] theorem State.raiseIrq_points (s : State) (b bit : Nat) : (s.raiseIrq b bit).points = s.points := by
  obtain ⟨_, _, h⟩ := s.raiseIrq_eq b bit; rw [h]
@[simp] theorem State.raiseIrq_notes (s : State) (b bit : Nat) : (s.raiseIrq b bit).notes = s.notes := by
  obtain ⟨_, _, h⟩ := s.raiseIrq_eq b bit; rw [h]
@[simp] theorem State.raiseIrq_opt (s : State) (b bit : Nat) : (s.raiseIrq b bit).opt = s.opt := by
  obtain ⟨_, _, h⟩ := s.raiseIrq_eq b bit; rw [h]
@[simp] theorem State.raiseIrq_hif (s : State) (b bit : Nat) : (s.raiseIrq b bit).hif = s.hif := by
  obtain ⟨_, _, h⟩ := s.raiseIrq_eq b bit; rw [h]
@[simp] theorem State.raiseIrq_lat (s : State) (b bit : Nat) : (s.raiseIrq b bit).lat = s.lat := by
  obtain ⟨_, _, h⟩ := s.raiseIrq_eq b bit; rw [h]
@[simp] theorem State.raiseIrq_sup (s : State) (b bit : Nat) : (s.raiseIrq b bit).sup = s.sup := by
  obtain ⟨_, _, h⟩ := s.raiseIrq_eq b bit; rw [h]
@[simp] theorem State.raiseIrq_key (s : State) (b bit : Nat) : (s.raiseIrq b bit).key = s.key := by
  obtain ⟨_, _, h⟩ := s.raiseIrq_eq b bit; rw [h]
@[simp] theorem State.raiseIrq_ten (s : State) (b bit : Nat) : (s.raiseIrq b bit).ten = s.ten := by
  obtain ⟨_, _, h⟩ := s.raiseIrq_eq b bit; rw [h]
@[simp] theorem State.raiseIrq_tbs (s : State) (b bit : Nat) : (s.raiseIrq b bit).tbs = s.tbs := by
  obtain ⟨_, _, h⟩ := s.raiseIrq_eq b bit; rw [h]
@[simp] theorem State.raiseIrq_fab (s : State) (b bit : Nat) : (s.raiseIrq b bit).fab = s.fab := by
  obtain ⟨_, _, h⟩ := s.raiseIrq_eq b bit; rw [h]
@[simp] theorem State.raiseIrq_ntu (s : State) (b bit : Nat) : (s.raiseIrq b bit).ntu = s.ntu := by
  obtain ⟨_, _, h⟩ := s.raiseIrq_eq b bit; rw [h]
@[simp] theorem State.raiseIrq_pse (s : State) (b bit : Nat) : (s.raiseIrq b bit).pse = s.pse := by
  obtain ⟨_, _, h⟩ := s.raiseIrq_eq b bit; rw [h]
@[simp] theorem State.raiseIrq_arb (s : State) (b bit : Nat) : (s.raiseIrq b bit).arb = s.arb := by
  obtain ⟨_, _, h⟩ := s.raiseIrq_eq b bit; rw [h]
@[simp] theorem State.raiseIrq_lcp (s : State) (b bit : Nat) : (s.raiseIrq b bit).lcp = s.lcp := by
  obtain ⟨_, _, h⟩ := s.raiseIrq_eq b bit; rw [h]
@[simp] theorem State.raiseIrq_dio (s : State) (b bit : Nat) : (s.raiseIrq b bit).dio = s.dio := by
  obtain ⟨_, _, h⟩ := s.raiseIrq_eq b bit; rw [h]
@[simp] theorem State.raiseIrq_scn (s : State) (b bit : Nat) : (s.raiseIrq b bit).scn = s.scn := by
  obtain ⟨_, _, h⟩ := s.raiseIrq_eq b bit; rw [h]
@[simp] theorem State.raiseIrq_hlk (s : State) (b bit : Nat) : (s.raiseIrq b bit).hlk = s.hlk := by
  obtain ⟨_, _, h⟩ := s.raiseIrq_eq b bit; rw [h]
@[simp] theorem State.raiseIrq_fbc (s : State) (b bit : Nat) : (s.raiseIrq b bit).fbc = s.fbc := by
  obtain ⟨_, _, h⟩ := s.raiseIrq_eq b bit; rw [h]
@[simp] theorem State.raiseIrq_rtc (s : State) (b bit : Nat) : (s.raiseIrq b bit).rtc = s.rtc := by
  obtain ⟨_, _, h⟩ := s.raiseIrq_eq b bit; rw [h]
@[simp] theorem State.raiseIrq_lpe (s : State) (b bit : Nat) : (s.raiseIrq b bit).lpe = s.lpe := by
  obtain ⟨_, _, h⟩ := s.raiseIrq_eq b bit; rw [h]
@[simp] theorem State.raiseIrq_emu (s : State) (b bit : Nat) : (s.raiseIrq b bit).emu = s.emu := by
  obtain ⟨_, _, h⟩ := s.raiseIrq_eq b bit; rw [h]
@[simp] theorem State.raiseIrq_sto (s : State) (b bit : Nat) : (s.raiseIrq b bit).sto = s.sto := by
  obtain ⟨_, _, h⟩ := s.raiseIrq_eq b bit; rw [h]

@[simp] theorem State.reportErr_pending (s : State) (b code : Nat) (d : Word) : (s.reportErr b code d).pending = s.pending := by
  obtain ⟨_, _, _, h⟩ := s.reportErr_eq b code d; rw [h]
@[simp] theorem State.reportErr_late (s : State) (b code : Nat) (d : Word) : (s.reportErr b code d).late = s.late := by
  obtain ⟨_, _, _, h⟩ := s.reportErr_eq b code d; rw [h]
@[simp] theorem State.reportErr_coreWait (s : State) (b code : Nat) (d : Word) : (s.reportErr b code d).coreWait = s.coreWait := by
  obtain ⟨_, _, _, h⟩ := s.reportErr_eq b code d; rw [h]
@[simp] theorem State.reportErr_clk (s : State) (b code : Nat) (d : Word) : (s.reportErr b code d).clk = s.clk := by
  obtain ⟨_, _, _, h⟩ := s.reportErr_eq b code d; rw [h]
@[simp] theorem State.reportErr_free (s : State) (b code : Nat) (d : Word) : (s.reportErr b code d).free = s.free := by
  obtain ⟨_, _, _, h⟩ := s.reportErr_eq b code d; rw [h]
@[simp] theorem State.reportErr_image (s : State) (b code : Nat) (d : Word) : (s.reportErr b code d).image = s.image := by
  obtain ⟨_, _, _, h⟩ := s.reportErr_eq b code d; rw [h]
@[simp] theorem State.reportErr_latch (s : State) (b code : Nat) (d : Word) : (s.reportErr b code d).latch = s.latch := by
  obtain ⟨_, _, _, h⟩ := s.reportErr_eq b code d; rw [h]
@[simp] theorem State.reportErr_loLatch (s : State) (b code : Nat) (d : Word) : (s.reportErr b code d).loLatch = s.loLatch := by
  obtain ⟨_, _, _, h⟩ := s.reportErr_eq b code d; rw [h]
@[simp] theorem State.reportErr_loPend (s : State) (b code : Nat) (d : Word) : (s.reportErr b code d).loPend = s.loPend := by
  obtain ⟨_, _, _, h⟩ := s.reportErr_eq b code d; rw [h]
@[simp] theorem State.reportErr_claims (s : State) (b code : Nat) (d : Word) : (s.reportErr b code d).claims = s.claims := by
  obtain ⟨_, _, _, h⟩ := s.reportErr_eq b code d; rw [h]
@[simp] theorem State.reportErr_points (s : State) (b code : Nat) (d : Word) : (s.reportErr b code d).points = s.points := by
  obtain ⟨_, _, _, h⟩ := s.reportErr_eq b code d; rw [h]
@[simp] theorem State.reportErr_notes (s : State) (b code : Nat) (d : Word) : (s.reportErr b code d).notes = s.notes := by
  obtain ⟨_, _, _, h⟩ := s.reportErr_eq b code d; rw [h]
@[simp] theorem State.reportErr_opt (s : State) (b code : Nat) (d : Word) : (s.reportErr b code d).opt = s.opt := by
  obtain ⟨_, _, _, h⟩ := s.reportErr_eq b code d; rw [h]
@[simp] theorem State.reportErr_hif (s : State) (b code : Nat) (d : Word) : (s.reportErr b code d).hif = s.hif := by
  obtain ⟨_, _, _, h⟩ := s.reportErr_eq b code d; rw [h]
@[simp] theorem State.reportErr_lat (s : State) (b code : Nat) (d : Word) : (s.reportErr b code d).lat = s.lat := by
  obtain ⟨_, _, _, h⟩ := s.reportErr_eq b code d; rw [h]
@[simp] theorem State.reportErr_sup (s : State) (b code : Nat) (d : Word) : (s.reportErr b code d).sup = s.sup := by
  obtain ⟨_, _, _, h⟩ := s.reportErr_eq b code d; rw [h]
@[simp] theorem State.reportErr_key (s : State) (b code : Nat) (d : Word) : (s.reportErr b code d).key = s.key := by
  obtain ⟨_, _, _, h⟩ := s.reportErr_eq b code d; rw [h]
@[simp] theorem State.reportErr_ten (s : State) (b code : Nat) (d : Word) : (s.reportErr b code d).ten = s.ten := by
  obtain ⟨_, _, _, h⟩ := s.reportErr_eq b code d; rw [h]
@[simp] theorem State.reportErr_tbs (s : State) (b code : Nat) (d : Word) : (s.reportErr b code d).tbs = s.tbs := by
  obtain ⟨_, _, _, h⟩ := s.reportErr_eq b code d; rw [h]
@[simp] theorem State.reportErr_fab (s : State) (b code : Nat) (d : Word) : (s.reportErr b code d).fab = s.fab := by
  obtain ⟨_, _, _, h⟩ := s.reportErr_eq b code d; rw [h]
@[simp] theorem State.reportErr_ntu (s : State) (b code : Nat) (d : Word) : (s.reportErr b code d).ntu = s.ntu := by
  obtain ⟨_, _, _, h⟩ := s.reportErr_eq b code d; rw [h]
@[simp] theorem State.reportErr_pse (s : State) (b code : Nat) (d : Word) : (s.reportErr b code d).pse = s.pse := by
  obtain ⟨_, _, _, h⟩ := s.reportErr_eq b code d; rw [h]
@[simp] theorem State.reportErr_arb (s : State) (b code : Nat) (d : Word) : (s.reportErr b code d).arb = s.arb := by
  obtain ⟨_, _, _, h⟩ := s.reportErr_eq b code d; rw [h]
@[simp] theorem State.reportErr_lcp (s : State) (b code : Nat) (d : Word) : (s.reportErr b code d).lcp = s.lcp := by
  obtain ⟨_, _, _, h⟩ := s.reportErr_eq b code d; rw [h]
@[simp] theorem State.reportErr_dio (s : State) (b code : Nat) (d : Word) : (s.reportErr b code d).dio = s.dio := by
  obtain ⟨_, _, _, h⟩ := s.reportErr_eq b code d; rw [h]
@[simp] theorem State.reportErr_scn (s : State) (b code : Nat) (d : Word) : (s.reportErr b code d).scn = s.scn := by
  obtain ⟨_, _, _, h⟩ := s.reportErr_eq b code d; rw [h]
@[simp] theorem State.reportErr_hlk (s : State) (b code : Nat) (d : Word) : (s.reportErr b code d).hlk = s.hlk := by
  obtain ⟨_, _, _, h⟩ := s.reportErr_eq b code d; rw [h]
@[simp] theorem State.reportErr_fbc (s : State) (b code : Nat) (d : Word) : (s.reportErr b code d).fbc = s.fbc := by
  obtain ⟨_, _, _, h⟩ := s.reportErr_eq b code d; rw [h]
@[simp] theorem State.reportErr_rtc (s : State) (b code : Nat) (d : Word) : (s.reportErr b code d).rtc = s.rtc := by
  obtain ⟨_, _, _, h⟩ := s.reportErr_eq b code d; rw [h]
@[simp] theorem State.reportErr_lpe (s : State) (b code : Nat) (d : Word) : (s.reportErr b code d).lpe = s.lpe := by
  obtain ⟨_, _, _, h⟩ := s.reportErr_eq b code d; rw [h]
@[simp] theorem State.reportErr_emu (s : State) (b code : Nat) (d : Word) : (s.reportErr b code d).emu = s.emu := by
  obtain ⟨_, _, _, h⟩ := s.reportErr_eq b code d; rw [h]
@[simp] theorem State.reportErr_sto (s : State) (b code : Nat) (d : Word) : (s.reportErr b code d).sto = s.sto := by
  obtain ⟨_, _, _, h⟩ := s.reportErr_eq b code d; rw [h]

@[simp] theorem State.countDenied_pending (s : State) (c : Nat) : (s.countDenied c).pending = s.pending := by
  obtain ⟨_, _, h⟩ := s.countDenied_eq c; rw [h]
@[simp] theorem State.countDenied_late (s : State) (c : Nat) : (s.countDenied c).late = s.late := by
  obtain ⟨_, _, h⟩ := s.countDenied_eq c; rw [h]
@[simp] theorem State.countDenied_coreWait (s : State) (c : Nat) : (s.countDenied c).coreWait = s.coreWait := by
  obtain ⟨_, _, h⟩ := s.countDenied_eq c; rw [h]
@[simp] theorem State.countDenied_clk (s : State) (c : Nat) : (s.countDenied c).clk = s.clk := by
  obtain ⟨_, _, h⟩ := s.countDenied_eq c; rw [h]
@[simp] theorem State.countDenied_free (s : State) (c : Nat) : (s.countDenied c).free = s.free := by
  obtain ⟨_, _, h⟩ := s.countDenied_eq c; rw [h]
@[simp] theorem State.countDenied_image (s : State) (c : Nat) : (s.countDenied c).image = s.image := by
  obtain ⟨_, _, h⟩ := s.countDenied_eq c; rw [h]
@[simp] theorem State.countDenied_latch (s : State) (c : Nat) : (s.countDenied c).latch = s.latch := by
  obtain ⟨_, _, h⟩ := s.countDenied_eq c; rw [h]
@[simp] theorem State.countDenied_loLatch (s : State) (c : Nat) : (s.countDenied c).loLatch = s.loLatch := by
  obtain ⟨_, _, h⟩ := s.countDenied_eq c; rw [h]
@[simp] theorem State.countDenied_loPend (s : State) (c : Nat) : (s.countDenied c).loPend = s.loPend := by
  obtain ⟨_, _, h⟩ := s.countDenied_eq c; rw [h]
@[simp] theorem State.countDenied_errDetail (s : State) (c : Nat) : (s.countDenied c).errDetail = s.errDetail := by
  obtain ⟨_, _, h⟩ := s.countDenied_eq c; rw [h]
@[simp] theorem State.countDenied_claims (s : State) (c : Nat) : (s.countDenied c).claims = s.claims := by
  obtain ⟨_, _, h⟩ := s.countDenied_eq c; rw [h]
@[simp] theorem State.countDenied_points (s : State) (c : Nat) : (s.countDenied c).points = s.points := by
  obtain ⟨_, _, h⟩ := s.countDenied_eq c; rw [h]
@[simp] theorem State.countDenied_notes (s : State) (c : Nat) : (s.countDenied c).notes = s.notes := by
  obtain ⟨_, _, h⟩ := s.countDenied_eq c; rw [h]
@[simp] theorem State.countDenied_opt (s : State) (c : Nat) : (s.countDenied c).opt = s.opt := by
  obtain ⟨_, _, h⟩ := s.countDenied_eq c; rw [h]
@[simp] theorem State.countDenied_hif (s : State) (c : Nat) : (s.countDenied c).hif = s.hif := by
  obtain ⟨_, _, h⟩ := s.countDenied_eq c; rw [h]
@[simp] theorem State.countDenied_lat (s : State) (c : Nat) : (s.countDenied c).lat = s.lat := by
  obtain ⟨_, _, h⟩ := s.countDenied_eq c; rw [h]
@[simp] theorem State.countDenied_sup (s : State) (c : Nat) : (s.countDenied c).sup = s.sup := by
  obtain ⟨_, _, h⟩ := s.countDenied_eq c; rw [h]
@[simp] theorem State.countDenied_key (s : State) (c : Nat) : (s.countDenied c).key = s.key := by
  obtain ⟨_, _, h⟩ := s.countDenied_eq c; rw [h]
@[simp] theorem State.countDenied_ten (s : State) (c : Nat) : (s.countDenied c).ten = s.ten := by
  obtain ⟨_, _, h⟩ := s.countDenied_eq c; rw [h]
@[simp] theorem State.countDenied_tbs (s : State) (c : Nat) : (s.countDenied c).tbs = s.tbs := by
  obtain ⟨_, _, h⟩ := s.countDenied_eq c; rw [h]
@[simp] theorem State.countDenied_fab (s : State) (c : Nat) : (s.countDenied c).fab = s.fab := by
  obtain ⟨_, _, h⟩ := s.countDenied_eq c; rw [h]
@[simp] theorem State.countDenied_ntu (s : State) (c : Nat) : (s.countDenied c).ntu = s.ntu := by
  obtain ⟨_, _, h⟩ := s.countDenied_eq c; rw [h]
@[simp] theorem State.countDenied_pse (s : State) (c : Nat) : (s.countDenied c).pse = s.pse := by
  obtain ⟨_, _, h⟩ := s.countDenied_eq c; rw [h]
@[simp] theorem State.countDenied_arb (s : State) (c : Nat) : (s.countDenied c).arb = s.arb := by
  obtain ⟨_, _, h⟩ := s.countDenied_eq c; rw [h]
@[simp] theorem State.countDenied_lcp (s : State) (c : Nat) : (s.countDenied c).lcp = s.lcp := by
  obtain ⟨_, _, h⟩ := s.countDenied_eq c; rw [h]
@[simp] theorem State.countDenied_dio (s : State) (c : Nat) : (s.countDenied c).dio = s.dio := by
  obtain ⟨_, _, h⟩ := s.countDenied_eq c; rw [h]
@[simp] theorem State.countDenied_scn (s : State) (c : Nat) : (s.countDenied c).scn = s.scn := by
  obtain ⟨_, _, h⟩ := s.countDenied_eq c; rw [h]
@[simp] theorem State.countDenied_hlk (s : State) (c : Nat) : (s.countDenied c).hlk = s.hlk := by
  obtain ⟨_, _, h⟩ := s.countDenied_eq c; rw [h]
@[simp] theorem State.countDenied_fbc (s : State) (c : Nat) : (s.countDenied c).fbc = s.fbc := by
  obtain ⟨_, _, h⟩ := s.countDenied_eq c; rw [h]
@[simp] theorem State.countDenied_rtc (s : State) (c : Nat) : (s.countDenied c).rtc = s.rtc := by
  obtain ⟨_, _, h⟩ := s.countDenied_eq c; rw [h]
@[simp] theorem State.countDenied_lpe (s : State) (c : Nat) : (s.countDenied c).lpe = s.lpe := by
  obtain ⟨_, _, h⟩ := s.countDenied_eq c; rw [h]
@[simp] theorem State.countDenied_emu (s : State) (c : Nat) : (s.countDenied c).emu = s.emu := by
  obtain ⟨_, _, h⟩ := s.countDenied_eq c; rw [h]
@[simp] theorem State.countDenied_sto (s : State) (c : Nat) : (s.countDenied c).sto = s.sto := by
  obtain ⟨_, _, h⟩ := s.countDenied_eq c; rw [h]

@[simp] theorem State.noteOpen_pending (s : State) : (s.noteOpen).pending = s.pending := by
  obtain ⟨_, _, h⟩ := s.noteOpen_eq; rw [h]
@[simp] theorem State.noteOpen_late (s : State) : (s.noteOpen).late = s.late := by
  obtain ⟨_, _, h⟩ := s.noteOpen_eq; rw [h]
@[simp] theorem State.noteOpen_coreWait (s : State) : (s.noteOpen).coreWait = s.coreWait := by
  obtain ⟨_, _, h⟩ := s.noteOpen_eq; rw [h]
@[simp] theorem State.noteOpen_clk (s : State) : (s.noteOpen).clk = s.clk := by
  obtain ⟨_, _, h⟩ := s.noteOpen_eq; rw [h]
@[simp] theorem State.noteOpen_free (s : State) : (s.noteOpen).free = s.free := by
  obtain ⟨_, _, h⟩ := s.noteOpen_eq; rw [h]
@[simp] theorem State.noteOpen_image (s : State) : (s.noteOpen).image = s.image := by
  obtain ⟨_, _, h⟩ := s.noteOpen_eq; rw [h]
@[simp] theorem State.noteOpen_latch (s : State) : (s.noteOpen).latch = s.latch := by
  obtain ⟨_, _, h⟩ := s.noteOpen_eq; rw [h]
@[simp] theorem State.noteOpen_loLatch (s : State) : (s.noteOpen).loLatch = s.loLatch := by
  obtain ⟨_, _, h⟩ := s.noteOpen_eq; rw [h]
@[simp] theorem State.noteOpen_loPend (s : State) : (s.noteOpen).loPend = s.loPend := by
  obtain ⟨_, _, h⟩ := s.noteOpen_eq; rw [h]
@[simp] theorem State.noteOpen_errDetail (s : State) : (s.noteOpen).errDetail = s.errDetail := by
  obtain ⟨_, _, h⟩ := s.noteOpen_eq; rw [h]
@[simp] theorem State.noteOpen_claims (s : State) : (s.noteOpen).claims = s.claims := by
  obtain ⟨_, _, h⟩ := s.noteOpen_eq; rw [h]
@[simp] theorem State.noteOpen_points (s : State) : (s.noteOpen).points = s.points := by
  obtain ⟨_, _, h⟩ := s.noteOpen_eq; rw [h]
@[simp] theorem State.noteOpen_notes (s : State) : (s.noteOpen).notes = s.notes := by
  obtain ⟨_, _, h⟩ := s.noteOpen_eq; rw [h]
@[simp] theorem State.noteOpen_opt (s : State) : (s.noteOpen).opt = s.opt := by
  obtain ⟨_, _, h⟩ := s.noteOpen_eq; rw [h]
@[simp] theorem State.noteOpen_hif (s : State) : (s.noteOpen).hif = s.hif := by
  obtain ⟨_, _, h⟩ := s.noteOpen_eq; rw [h]
@[simp] theorem State.noteOpen_lat (s : State) : (s.noteOpen).lat = s.lat := by
  obtain ⟨_, _, h⟩ := s.noteOpen_eq; rw [h]
@[simp] theorem State.noteOpen_sup (s : State) : (s.noteOpen).sup = s.sup := by
  obtain ⟨_, _, h⟩ := s.noteOpen_eq; rw [h]
@[simp] theorem State.noteOpen_key (s : State) : (s.noteOpen).key = s.key := by
  obtain ⟨_, _, h⟩ := s.noteOpen_eq; rw [h]
@[simp] theorem State.noteOpen_ten (s : State) : (s.noteOpen).ten = s.ten := by
  obtain ⟨_, _, h⟩ := s.noteOpen_eq; rw [h]
@[simp] theorem State.noteOpen_tbs (s : State) : (s.noteOpen).tbs = s.tbs := by
  obtain ⟨_, _, h⟩ := s.noteOpen_eq; rw [h]
@[simp] theorem State.noteOpen_fab (s : State) : (s.noteOpen).fab = s.fab := by
  obtain ⟨_, _, h⟩ := s.noteOpen_eq; rw [h]
@[simp] theorem State.noteOpen_ntu (s : State) : (s.noteOpen).ntu = s.ntu := by
  obtain ⟨_, _, h⟩ := s.noteOpen_eq; rw [h]
@[simp] theorem State.noteOpen_pse (s : State) : (s.noteOpen).pse = s.pse := by
  obtain ⟨_, _, h⟩ := s.noteOpen_eq; rw [h]
@[simp] theorem State.noteOpen_arb (s : State) : (s.noteOpen).arb = s.arb := by
  obtain ⟨_, _, h⟩ := s.noteOpen_eq; rw [h]
@[simp] theorem State.noteOpen_lcp (s : State) : (s.noteOpen).lcp = s.lcp := by
  obtain ⟨_, _, h⟩ := s.noteOpen_eq; rw [h]
@[simp] theorem State.noteOpen_dio (s : State) : (s.noteOpen).dio = s.dio := by
  obtain ⟨_, _, h⟩ := s.noteOpen_eq; rw [h]
@[simp] theorem State.noteOpen_scn (s : State) : (s.noteOpen).scn = s.scn := by
  obtain ⟨_, _, h⟩ := s.noteOpen_eq; rw [h]
@[simp] theorem State.noteOpen_hlk (s : State) : (s.noteOpen).hlk = s.hlk := by
  obtain ⟨_, _, h⟩ := s.noteOpen_eq; rw [h]
@[simp] theorem State.noteOpen_fbc (s : State) : (s.noteOpen).fbc = s.fbc := by
  obtain ⟨_, _, h⟩ := s.noteOpen_eq; rw [h]
@[simp] theorem State.noteOpen_rtc (s : State) : (s.noteOpen).rtc = s.rtc := by
  obtain ⟨_, _, h⟩ := s.noteOpen_eq; rw [h]
@[simp] theorem State.noteOpen_lpe (s : State) : (s.noteOpen).lpe = s.lpe := by
  obtain ⟨_, _, h⟩ := s.noteOpen_eq; rw [h]
@[simp] theorem State.noteOpen_emu (s : State) : (s.noteOpen).emu = s.emu := by
  obtain ⟨_, _, h⟩ := s.noteOpen_eq; rw [h]
@[simp] theorem State.noteOpen_sto (s : State) : (s.noteOpen).sto = s.sto := by
  obtain ⟨_, _, h⟩ := s.noteOpen_eq; rw [h]

@[simp] theorem State.beginAt_pending (s : State) (t : Nat) (x : Slot) : (s.beginAt t x).pending = s.pending := by
  obtain ⟨_, _, h⟩ := s.beginAt_eq t x; rw [h]
@[simp] theorem State.beginAt_late (s : State) (t : Nat) (x : Slot) : (s.beginAt t x).late = s.late := by
  obtain ⟨_, _, h⟩ := s.beginAt_eq t x; rw [h]
@[simp] theorem State.beginAt_coreWait (s : State) (t : Nat) (x : Slot) : (s.beginAt t x).coreWait = s.coreWait := by
  obtain ⟨_, _, h⟩ := s.beginAt_eq t x; rw [h]
@[simp] theorem State.beginAt_clk (s : State) (t : Nat) (x : Slot) : (s.beginAt t x).clk = s.clk := by
  obtain ⟨_, _, h⟩ := s.beginAt_eq t x; rw [h]
@[simp] theorem State.beginAt_free (s : State) (t : Nat) (x : Slot) : (s.beginAt t x).free = s.free := by
  obtain ⟨_, _, h⟩ := s.beginAt_eq t x; rw [h]
@[simp] theorem State.beginAt_image (s : State) (t : Nat) (x : Slot) : (s.beginAt t x).image = s.image := by
  obtain ⟨_, _, h⟩ := s.beginAt_eq t x; rw [h]
@[simp] theorem State.beginAt_latch (s : State) (t : Nat) (x : Slot) : (s.beginAt t x).latch = s.latch := by
  obtain ⟨_, _, h⟩ := s.beginAt_eq t x; rw [h]
@[simp] theorem State.beginAt_loLatch (s : State) (t : Nat) (x : Slot) : (s.beginAt t x).loLatch = s.loLatch := by
  obtain ⟨_, _, h⟩ := s.beginAt_eq t x; rw [h]
@[simp] theorem State.beginAt_loPend (s : State) (t : Nat) (x : Slot) : (s.beginAt t x).loPend = s.loPend := by
  obtain ⟨_, _, h⟩ := s.beginAt_eq t x; rw [h]
@[simp] theorem State.beginAt_errDetail (s : State) (t : Nat) (x : Slot) : (s.beginAt t x).errDetail = s.errDetail := by
  obtain ⟨_, _, h⟩ := s.beginAt_eq t x; rw [h]
@[simp] theorem State.beginAt_claims (s : State) (t : Nat) (x : Slot) : (s.beginAt t x).claims = s.claims := by
  obtain ⟨_, _, h⟩ := s.beginAt_eq t x; rw [h]
@[simp] theorem State.beginAt_points (s : State) (t : Nat) (x : Slot) : (s.beginAt t x).points = s.points := by
  obtain ⟨_, _, h⟩ := s.beginAt_eq t x; rw [h]
@[simp] theorem State.beginAt_notes (s : State) (t : Nat) (x : Slot) : (s.beginAt t x).notes = s.notes := by
  obtain ⟨_, _, h⟩ := s.beginAt_eq t x; rw [h]
@[simp] theorem State.beginAt_hif (s : State) (t : Nat) (x : Slot) : (s.beginAt t x).hif = s.hif := by
  obtain ⟨_, _, h⟩ := s.beginAt_eq t x; rw [h]
@[simp] theorem State.beginAt_lat (s : State) (t : Nat) (x : Slot) : (s.beginAt t x).lat = s.lat := by
  obtain ⟨_, _, h⟩ := s.beginAt_eq t x; rw [h]
@[simp] theorem State.beginAt_sup (s : State) (t : Nat) (x : Slot) : (s.beginAt t x).sup = s.sup := by
  obtain ⟨_, _, h⟩ := s.beginAt_eq t x; rw [h]
@[simp] theorem State.beginAt_key (s : State) (t : Nat) (x : Slot) : (s.beginAt t x).key = s.key := by
  obtain ⟨_, _, h⟩ := s.beginAt_eq t x; rw [h]
@[simp] theorem State.beginAt_ten (s : State) (t : Nat) (x : Slot) : (s.beginAt t x).ten = s.ten := by
  obtain ⟨_, _, h⟩ := s.beginAt_eq t x; rw [h]
@[simp] theorem State.beginAt_tbs (s : State) (t : Nat) (x : Slot) : (s.beginAt t x).tbs = s.tbs := by
  obtain ⟨_, _, h⟩ := s.beginAt_eq t x; rw [h]
@[simp] theorem State.beginAt_fab (s : State) (t : Nat) (x : Slot) : (s.beginAt t x).fab = s.fab := by
  obtain ⟨_, _, h⟩ := s.beginAt_eq t x; rw [h]
@[simp] theorem State.beginAt_ntu (s : State) (t : Nat) (x : Slot) : (s.beginAt t x).ntu = s.ntu := by
  obtain ⟨_, _, h⟩ := s.beginAt_eq t x; rw [h]
@[simp] theorem State.beginAt_pse (s : State) (t : Nat) (x : Slot) : (s.beginAt t x).pse = s.pse := by
  obtain ⟨_, _, h⟩ := s.beginAt_eq t x; rw [h]
@[simp] theorem State.beginAt_arb (s : State) (t : Nat) (x : Slot) : (s.beginAt t x).arb = s.arb := by
  obtain ⟨_, _, h⟩ := s.beginAt_eq t x; rw [h]
@[simp] theorem State.beginAt_lcp (s : State) (t : Nat) (x : Slot) : (s.beginAt t x).lcp = s.lcp := by
  obtain ⟨_, _, h⟩ := s.beginAt_eq t x; rw [h]
@[simp] theorem State.beginAt_dio (s : State) (t : Nat) (x : Slot) : (s.beginAt t x).dio = s.dio := by
  obtain ⟨_, _, h⟩ := s.beginAt_eq t x; rw [h]
@[simp] theorem State.beginAt_scn (s : State) (t : Nat) (x : Slot) : (s.beginAt t x).scn = s.scn := by
  obtain ⟨_, _, h⟩ := s.beginAt_eq t x; rw [h]
@[simp] theorem State.beginAt_hlk (s : State) (t : Nat) (x : Slot) : (s.beginAt t x).hlk = s.hlk := by
  obtain ⟨_, _, h⟩ := s.beginAt_eq t x; rw [h]
@[simp] theorem State.beginAt_fbc (s : State) (t : Nat) (x : Slot) : (s.beginAt t x).fbc = s.fbc := by
  obtain ⟨_, _, h⟩ := s.beginAt_eq t x; rw [h]
@[simp] theorem State.beginAt_rtc (s : State) (t : Nat) (x : Slot) : (s.beginAt t x).rtc = s.rtc := by
  obtain ⟨_, _, h⟩ := s.beginAt_eq t x; rw [h]
@[simp] theorem State.beginAt_lpe (s : State) (t : Nat) (x : Slot) : (s.beginAt t x).lpe = s.lpe := by
  obtain ⟨_, _, h⟩ := s.beginAt_eq t x; rw [h]
@[simp] theorem State.beginAt_emu (s : State) (t : Nat) (x : Slot) : (s.beginAt t x).emu = s.emu := by
  obtain ⟨_, _, h⟩ := s.beginAt_eq t x; rw [h]
@[simp] theorem State.beginAt_sto (s : State) (t : Nat) (x : Slot) : (s.beginAt t x).sto = s.sto := by
  obtain ⟨_, _, h⟩ := s.beginAt_eq t x; rw [h]

@[simp] theorem State.cnt_pending (s : State) (p k n : Nat) : (s.cnt p k n).pending = s.pending := by
  obtain ⟨_, _, _, h⟩ := s.cnt_eq p k n; rw [h]
@[simp] theorem State.cnt_late (s : State) (p k n : Nat) : (s.cnt p k n).late = s.late := by
  obtain ⟨_, _, _, h⟩ := s.cnt_eq p k n; rw [h]
@[simp] theorem State.cnt_coreWait (s : State) (p k n : Nat) : (s.cnt p k n).coreWait = s.coreWait := by
  obtain ⟨_, _, _, h⟩ := s.cnt_eq p k n; rw [h]
@[simp] theorem State.cnt_clk (s : State) (p k n : Nat) : (s.cnt p k n).clk = s.clk := by
  obtain ⟨_, _, _, h⟩ := s.cnt_eq p k n; rw [h]
@[simp] theorem State.cnt_free (s : State) (p k n : Nat) : (s.cnt p k n).free = s.free := by
  obtain ⟨_, _, _, h⟩ := s.cnt_eq p k n; rw [h]
@[simp] theorem State.cnt_image (s : State) (p k n : Nat) : (s.cnt p k n).image = s.image := by
  obtain ⟨_, _, _, h⟩ := s.cnt_eq p k n; rw [h]
@[simp] theorem State.cnt_latch (s : State) (p k n : Nat) : (s.cnt p k n).latch = s.latch := by
  obtain ⟨_, _, _, h⟩ := s.cnt_eq p k n; rw [h]
@[simp] theorem State.cnt_loLatch (s : State) (p k n : Nat) : (s.cnt p k n).loLatch = s.loLatch := by
  obtain ⟨_, _, _, h⟩ := s.cnt_eq p k n; rw [h]
@[simp] theorem State.cnt_loPend (s : State) (p k n : Nat) : (s.cnt p k n).loPend = s.loPend := by
  obtain ⟨_, _, _, h⟩ := s.cnt_eq p k n; rw [h]
@[simp] theorem State.cnt_errDetail (s : State) (p k n : Nat) : (s.cnt p k n).errDetail = s.errDetail := by
  obtain ⟨_, _, _, h⟩ := s.cnt_eq p k n; rw [h]
@[simp] theorem State.cnt_claims (s : State) (p k n : Nat) : (s.cnt p k n).claims = s.claims := by
  obtain ⟨_, _, _, h⟩ := s.cnt_eq p k n; rw [h]
@[simp] theorem State.cnt_points (s : State) (p k n : Nat) : (s.cnt p k n).points = s.points := by
  obtain ⟨_, _, _, h⟩ := s.cnt_eq p k n; rw [h]
@[simp] theorem State.cnt_notes (s : State) (p k n : Nat) : (s.cnt p k n).notes = s.notes := by
  obtain ⟨_, _, _, h⟩ := s.cnt_eq p k n; rw [h]
@[simp] theorem State.cnt_opt (s : State) (p k n : Nat) : (s.cnt p k n).opt = s.opt := by
  obtain ⟨_, _, _, h⟩ := s.cnt_eq p k n; rw [h]
@[simp] theorem State.cnt_hif (s : State) (p k n : Nat) : (s.cnt p k n).hif = s.hif := by
  obtain ⟨_, _, _, h⟩ := s.cnt_eq p k n; rw [h]
@[simp] theorem State.cnt_lat (s : State) (p k n : Nat) : (s.cnt p k n).lat = s.lat := by
  obtain ⟨_, _, _, h⟩ := s.cnt_eq p k n; rw [h]
@[simp] theorem State.cnt_sup (s : State) (p k n : Nat) : (s.cnt p k n).sup = s.sup := by
  obtain ⟨_, _, _, h⟩ := s.cnt_eq p k n; rw [h]
@[simp] theorem State.cnt_key (s : State) (p k n : Nat) : (s.cnt p k n).key = s.key := by
  obtain ⟨_, _, _, h⟩ := s.cnt_eq p k n; rw [h]
@[simp] theorem State.cnt_ten (s : State) (p k n : Nat) : (s.cnt p k n).ten = s.ten := by
  obtain ⟨_, _, _, h⟩ := s.cnt_eq p k n; rw [h]
@[simp] theorem State.cnt_tbs (s : State) (p k n : Nat) : (s.cnt p k n).tbs = s.tbs := by
  obtain ⟨_, _, _, h⟩ := s.cnt_eq p k n; rw [h]
@[simp] theorem State.cnt_ntu (s : State) (p k n : Nat) : (s.cnt p k n).ntu = s.ntu := by
  obtain ⟨_, _, _, h⟩ := s.cnt_eq p k n; rw [h]
@[simp] theorem State.cnt_pse (s : State) (p k n : Nat) : (s.cnt p k n).pse = s.pse := by
  obtain ⟨_, _, _, h⟩ := s.cnt_eq p k n; rw [h]
@[simp] theorem State.cnt_arb (s : State) (p k n : Nat) : (s.cnt p k n).arb = s.arb := by
  obtain ⟨_, _, _, h⟩ := s.cnt_eq p k n; rw [h]
@[simp] theorem State.cnt_lcp (s : State) (p k n : Nat) : (s.cnt p k n).lcp = s.lcp := by
  obtain ⟨_, _, _, h⟩ := s.cnt_eq p k n; rw [h]
@[simp] theorem State.cnt_dio (s : State) (p k n : Nat) : (s.cnt p k n).dio = s.dio := by
  obtain ⟨_, _, _, h⟩ := s.cnt_eq p k n; rw [h]
@[simp] theorem State.cnt_scn (s : State) (p k n : Nat) : (s.cnt p k n).scn = s.scn := by
  obtain ⟨_, _, _, h⟩ := s.cnt_eq p k n; rw [h]
@[simp] theorem State.cnt_hlk (s : State) (p k n : Nat) : (s.cnt p k n).hlk = s.hlk := by
  obtain ⟨_, _, _, h⟩ := s.cnt_eq p k n; rw [h]
@[simp] theorem State.cnt_fbc (s : State) (p k n : Nat) : (s.cnt p k n).fbc = s.fbc := by
  obtain ⟨_, _, _, h⟩ := s.cnt_eq p k n; rw [h]
@[simp] theorem State.cnt_rtc (s : State) (p k n : Nat) : (s.cnt p k n).rtc = s.rtc := by
  obtain ⟨_, _, _, h⟩ := s.cnt_eq p k n; rw [h]
@[simp] theorem State.cnt_lpe (s : State) (p k n : Nat) : (s.cnt p k n).lpe = s.lpe := by
  obtain ⟨_, _, _, h⟩ := s.cnt_eq p k n; rw [h]
@[simp] theorem State.cnt_emu (s : State) (p k n : Nat) : (s.cnt p k n).emu = s.emu := by
  obtain ⟨_, _, _, h⟩ := s.cnt_eq p k n; rw [h]
@[simp] theorem State.cnt_sto (s : State) (p k n : Nat) : (s.cnt p k n).sto = s.sto := by
  obtain ⟨_, _, _, h⟩ := s.cnt_eq p k n; rw [h]

@[simp] theorem State.enqueue_pending (s : State) (p cls : Nat) (q : QFrame) : (s.enqueue p cls q).pending = s.pending := by
  obtain ⟨_, _, _, h⟩ := s.enqueue_eq p cls q; rw [h]
@[simp] theorem State.enqueue_late (s : State) (p cls : Nat) (q : QFrame) : (s.enqueue p cls q).late = s.late := by
  obtain ⟨_, _, _, h⟩ := s.enqueue_eq p cls q; rw [h]
@[simp] theorem State.enqueue_coreWait (s : State) (p cls : Nat) (q : QFrame) : (s.enqueue p cls q).coreWait = s.coreWait := by
  obtain ⟨_, _, _, h⟩ := s.enqueue_eq p cls q; rw [h]
@[simp] theorem State.enqueue_clk (s : State) (p cls : Nat) (q : QFrame) : (s.enqueue p cls q).clk = s.clk := by
  obtain ⟨_, _, _, h⟩ := s.enqueue_eq p cls q; rw [h]
@[simp] theorem State.enqueue_free (s : State) (p cls : Nat) (q : QFrame) : (s.enqueue p cls q).free = s.free := by
  obtain ⟨_, _, _, h⟩ := s.enqueue_eq p cls q; rw [h]
@[simp] theorem State.enqueue_image (s : State) (p cls : Nat) (q : QFrame) : (s.enqueue p cls q).image = s.image := by
  obtain ⟨_, _, _, h⟩ := s.enqueue_eq p cls q; rw [h]
@[simp] theorem State.enqueue_latch (s : State) (p cls : Nat) (q : QFrame) : (s.enqueue p cls q).latch = s.latch := by
  obtain ⟨_, _, _, h⟩ := s.enqueue_eq p cls q; rw [h]
@[simp] theorem State.enqueue_loLatch (s : State) (p cls : Nat) (q : QFrame) : (s.enqueue p cls q).loLatch = s.loLatch := by
  obtain ⟨_, _, _, h⟩ := s.enqueue_eq p cls q; rw [h]
@[simp] theorem State.enqueue_loPend (s : State) (p cls : Nat) (q : QFrame) : (s.enqueue p cls q).loPend = s.loPend := by
  obtain ⟨_, _, _, h⟩ := s.enqueue_eq p cls q; rw [h]
@[simp] theorem State.enqueue_errDetail (s : State) (p cls : Nat) (q : QFrame) : (s.enqueue p cls q).errDetail = s.errDetail := by
  obtain ⟨_, _, _, h⟩ := s.enqueue_eq p cls q; rw [h]
@[simp] theorem State.enqueue_claims (s : State) (p cls : Nat) (q : QFrame) : (s.enqueue p cls q).claims = s.claims := by
  obtain ⟨_, _, _, h⟩ := s.enqueue_eq p cls q; rw [h]
@[simp] theorem State.enqueue_points (s : State) (p cls : Nat) (q : QFrame) : (s.enqueue p cls q).points = s.points := by
  obtain ⟨_, _, _, h⟩ := s.enqueue_eq p cls q; rw [h]
@[simp] theorem State.enqueue_notes (s : State) (p cls : Nat) (q : QFrame) : (s.enqueue p cls q).notes = s.notes := by
  obtain ⟨_, _, _, h⟩ := s.enqueue_eq p cls q; rw [h]
@[simp] theorem State.enqueue_opt (s : State) (p cls : Nat) (q : QFrame) : (s.enqueue p cls q).opt = s.opt := by
  obtain ⟨_, _, _, h⟩ := s.enqueue_eq p cls q; rw [h]
@[simp] theorem State.enqueue_hif (s : State) (p cls : Nat) (q : QFrame) : (s.enqueue p cls q).hif = s.hif := by
  obtain ⟨_, _, _, h⟩ := s.enqueue_eq p cls q; rw [h]
@[simp] theorem State.enqueue_lat (s : State) (p cls : Nat) (q : QFrame) : (s.enqueue p cls q).lat = s.lat := by
  obtain ⟨_, _, _, h⟩ := s.enqueue_eq p cls q; rw [h]
@[simp] theorem State.enqueue_sup (s : State) (p cls : Nat) (q : QFrame) : (s.enqueue p cls q).sup = s.sup := by
  obtain ⟨_, _, _, h⟩ := s.enqueue_eq p cls q; rw [h]
@[simp] theorem State.enqueue_key (s : State) (p cls : Nat) (q : QFrame) : (s.enqueue p cls q).key = s.key := by
  obtain ⟨_, _, _, h⟩ := s.enqueue_eq p cls q; rw [h]
@[simp] theorem State.enqueue_ten (s : State) (p cls : Nat) (q : QFrame) : (s.enqueue p cls q).ten = s.ten := by
  obtain ⟨_, _, _, h⟩ := s.enqueue_eq p cls q; rw [h]
@[simp] theorem State.enqueue_tbs (s : State) (p cls : Nat) (q : QFrame) : (s.enqueue p cls q).tbs = s.tbs := by
  obtain ⟨_, _, _, h⟩ := s.enqueue_eq p cls q; rw [h]
@[simp] theorem State.enqueue_ntu (s : State) (p cls : Nat) (q : QFrame) : (s.enqueue p cls q).ntu = s.ntu := by
  obtain ⟨_, _, _, h⟩ := s.enqueue_eq p cls q; rw [h]
@[simp] theorem State.enqueue_pse (s : State) (p cls : Nat) (q : QFrame) : (s.enqueue p cls q).pse = s.pse := by
  obtain ⟨_, _, _, h⟩ := s.enqueue_eq p cls q; rw [h]
@[simp] theorem State.enqueue_arb (s : State) (p cls : Nat) (q : QFrame) : (s.enqueue p cls q).arb = s.arb := by
  obtain ⟨_, _, _, h⟩ := s.enqueue_eq p cls q; rw [h]
@[simp] theorem State.enqueue_lcp (s : State) (p cls : Nat) (q : QFrame) : (s.enqueue p cls q).lcp = s.lcp := by
  obtain ⟨_, _, _, h⟩ := s.enqueue_eq p cls q; rw [h]
@[simp] theorem State.enqueue_dio (s : State) (p cls : Nat) (q : QFrame) : (s.enqueue p cls q).dio = s.dio := by
  obtain ⟨_, _, _, h⟩ := s.enqueue_eq p cls q; rw [h]
@[simp] theorem State.enqueue_scn (s : State) (p cls : Nat) (q : QFrame) : (s.enqueue p cls q).scn = s.scn := by
  obtain ⟨_, _, _, h⟩ := s.enqueue_eq p cls q; rw [h]
@[simp] theorem State.enqueue_hlk (s : State) (p cls : Nat) (q : QFrame) : (s.enqueue p cls q).hlk = s.hlk := by
  obtain ⟨_, _, _, h⟩ := s.enqueue_eq p cls q; rw [h]
@[simp] theorem State.enqueue_fbc (s : State) (p cls : Nat) (q : QFrame) : (s.enqueue p cls q).fbc = s.fbc := by
  obtain ⟨_, _, _, h⟩ := s.enqueue_eq p cls q; rw [h]
@[simp] theorem State.enqueue_rtc (s : State) (p cls : Nat) (q : QFrame) : (s.enqueue p cls q).rtc = s.rtc := by
  obtain ⟨_, _, _, h⟩ := s.enqueue_eq p cls q; rw [h]
@[simp] theorem State.enqueue_lpe (s : State) (p cls : Nat) (q : QFrame) : (s.enqueue p cls q).lpe = s.lpe := by
  obtain ⟨_, _, _, h⟩ := s.enqueue_eq p cls q; rw [h]
@[simp] theorem State.enqueue_emu (s : State) (p cls : Nat) (q : QFrame) : (s.enqueue p cls q).emu = s.emu := by
  obtain ⟨_, _, _, h⟩ := s.enqueue_eq p cls q; rw [h]
@[simp] theorem State.enqueue_sto (s : State) (p cls : Nat) (q : QFrame) : (s.enqueue p cls q).sto = s.sto := by
  obtain ⟨_, _, _, h⟩ := s.enqueue_eq p cls q; rw [h]

@[simp] theorem State.sendInternal_pending (s : State) (ep : Nat) (ptp : Option (Nat × Nat × Nat)) (ports : List Nat) (f : EthFrame) : (s.sendInternal ep ptp ports f).pending = s.pending := by
  obtain ⟨_, _, _, h⟩ := s.sendInternal_eq ep ptp ports f; rw [h]
@[simp] theorem State.sendInternal_late (s : State) (ep : Nat) (ptp : Option (Nat × Nat × Nat)) (ports : List Nat) (f : EthFrame) : (s.sendInternal ep ptp ports f).late = s.late := by
  obtain ⟨_, _, _, h⟩ := s.sendInternal_eq ep ptp ports f; rw [h]
@[simp] theorem State.sendInternal_coreWait (s : State) (ep : Nat) (ptp : Option (Nat × Nat × Nat)) (ports : List Nat) (f : EthFrame) : (s.sendInternal ep ptp ports f).coreWait = s.coreWait := by
  obtain ⟨_, _, _, h⟩ := s.sendInternal_eq ep ptp ports f; rw [h]
@[simp] theorem State.sendInternal_clk (s : State) (ep : Nat) (ptp : Option (Nat × Nat × Nat)) (ports : List Nat) (f : EthFrame) : (s.sendInternal ep ptp ports f).clk = s.clk := by
  obtain ⟨_, _, _, h⟩ := s.sendInternal_eq ep ptp ports f; rw [h]
@[simp] theorem State.sendInternal_free (s : State) (ep : Nat) (ptp : Option (Nat × Nat × Nat)) (ports : List Nat) (f : EthFrame) : (s.sendInternal ep ptp ports f).free = s.free := by
  obtain ⟨_, _, _, h⟩ := s.sendInternal_eq ep ptp ports f; rw [h]
@[simp] theorem State.sendInternal_image (s : State) (ep : Nat) (ptp : Option (Nat × Nat × Nat)) (ports : List Nat) (f : EthFrame) : (s.sendInternal ep ptp ports f).image = s.image := by
  obtain ⟨_, _, _, h⟩ := s.sendInternal_eq ep ptp ports f; rw [h]
@[simp] theorem State.sendInternal_latch (s : State) (ep : Nat) (ptp : Option (Nat × Nat × Nat)) (ports : List Nat) (f : EthFrame) : (s.sendInternal ep ptp ports f).latch = s.latch := by
  obtain ⟨_, _, _, h⟩ := s.sendInternal_eq ep ptp ports f; rw [h]
@[simp] theorem State.sendInternal_loLatch (s : State) (ep : Nat) (ptp : Option (Nat × Nat × Nat)) (ports : List Nat) (f : EthFrame) : (s.sendInternal ep ptp ports f).loLatch = s.loLatch := by
  obtain ⟨_, _, _, h⟩ := s.sendInternal_eq ep ptp ports f; rw [h]
@[simp] theorem State.sendInternal_loPend (s : State) (ep : Nat) (ptp : Option (Nat × Nat × Nat)) (ports : List Nat) (f : EthFrame) : (s.sendInternal ep ptp ports f).loPend = s.loPend := by
  obtain ⟨_, _, _, h⟩ := s.sendInternal_eq ep ptp ports f; rw [h]
@[simp] theorem State.sendInternal_errDetail (s : State) (ep : Nat) (ptp : Option (Nat × Nat × Nat)) (ports : List Nat) (f : EthFrame) : (s.sendInternal ep ptp ports f).errDetail = s.errDetail := by
  obtain ⟨_, _, _, h⟩ := s.sendInternal_eq ep ptp ports f; rw [h]
@[simp] theorem State.sendInternal_claims (s : State) (ep : Nat) (ptp : Option (Nat × Nat × Nat)) (ports : List Nat) (f : EthFrame) : (s.sendInternal ep ptp ports f).claims = s.claims := by
  obtain ⟨_, _, _, h⟩ := s.sendInternal_eq ep ptp ports f; rw [h]
@[simp] theorem State.sendInternal_points (s : State) (ep : Nat) (ptp : Option (Nat × Nat × Nat)) (ports : List Nat) (f : EthFrame) : (s.sendInternal ep ptp ports f).points = s.points := by
  obtain ⟨_, _, _, h⟩ := s.sendInternal_eq ep ptp ports f; rw [h]
@[simp] theorem State.sendInternal_notes (s : State) (ep : Nat) (ptp : Option (Nat × Nat × Nat)) (ports : List Nat) (f : EthFrame) : (s.sendInternal ep ptp ports f).notes = s.notes := by
  obtain ⟨_, _, _, h⟩ := s.sendInternal_eq ep ptp ports f; rw [h]
@[simp] theorem State.sendInternal_opt (s : State) (ep : Nat) (ptp : Option (Nat × Nat × Nat)) (ports : List Nat) (f : EthFrame) : (s.sendInternal ep ptp ports f).opt = s.opt := by
  obtain ⟨_, _, _, h⟩ := s.sendInternal_eq ep ptp ports f; rw [h]
@[simp] theorem State.sendInternal_hif (s : State) (ep : Nat) (ptp : Option (Nat × Nat × Nat)) (ports : List Nat) (f : EthFrame) : (s.sendInternal ep ptp ports f).hif = s.hif := by
  obtain ⟨_, _, _, h⟩ := s.sendInternal_eq ep ptp ports f; rw [h]
@[simp] theorem State.sendInternal_lat (s : State) (ep : Nat) (ptp : Option (Nat × Nat × Nat)) (ports : List Nat) (f : EthFrame) : (s.sendInternal ep ptp ports f).lat = s.lat := by
  obtain ⟨_, _, _, h⟩ := s.sendInternal_eq ep ptp ports f; rw [h]
@[simp] theorem State.sendInternal_sup (s : State) (ep : Nat) (ptp : Option (Nat × Nat × Nat)) (ports : List Nat) (f : EthFrame) : (s.sendInternal ep ptp ports f).sup = s.sup := by
  obtain ⟨_, _, _, h⟩ := s.sendInternal_eq ep ptp ports f; rw [h]
@[simp] theorem State.sendInternal_key (s : State) (ep : Nat) (ptp : Option (Nat × Nat × Nat)) (ports : List Nat) (f : EthFrame) : (s.sendInternal ep ptp ports f).key = s.key := by
  obtain ⟨_, _, _, h⟩ := s.sendInternal_eq ep ptp ports f; rw [h]
@[simp] theorem State.sendInternal_ten (s : State) (ep : Nat) (ptp : Option (Nat × Nat × Nat)) (ports : List Nat) (f : EthFrame) : (s.sendInternal ep ptp ports f).ten = s.ten := by
  obtain ⟨_, _, _, h⟩ := s.sendInternal_eq ep ptp ports f; rw [h]
@[simp] theorem State.sendInternal_tbs (s : State) (ep : Nat) (ptp : Option (Nat × Nat × Nat)) (ports : List Nat) (f : EthFrame) : (s.sendInternal ep ptp ports f).tbs = s.tbs := by
  obtain ⟨_, _, _, h⟩ := s.sendInternal_eq ep ptp ports f; rw [h]
@[simp] theorem State.sendInternal_ntu (s : State) (ep : Nat) (ptp : Option (Nat × Nat × Nat)) (ports : List Nat) (f : EthFrame) : (s.sendInternal ep ptp ports f).ntu = s.ntu := by
  obtain ⟨_, _, _, h⟩ := s.sendInternal_eq ep ptp ports f; rw [h]
@[simp] theorem State.sendInternal_pse (s : State) (ep : Nat) (ptp : Option (Nat × Nat × Nat)) (ports : List Nat) (f : EthFrame) : (s.sendInternal ep ptp ports f).pse = s.pse := by
  obtain ⟨_, _, _, h⟩ := s.sendInternal_eq ep ptp ports f; rw [h]
@[simp] theorem State.sendInternal_arb (s : State) (ep : Nat) (ptp : Option (Nat × Nat × Nat)) (ports : List Nat) (f : EthFrame) : (s.sendInternal ep ptp ports f).arb = s.arb := by
  obtain ⟨_, _, _, h⟩ := s.sendInternal_eq ep ptp ports f; rw [h]
@[simp] theorem State.sendInternal_lcp (s : State) (ep : Nat) (ptp : Option (Nat × Nat × Nat)) (ports : List Nat) (f : EthFrame) : (s.sendInternal ep ptp ports f).lcp = s.lcp := by
  obtain ⟨_, _, _, h⟩ := s.sendInternal_eq ep ptp ports f; rw [h]
@[simp] theorem State.sendInternal_dio (s : State) (ep : Nat) (ptp : Option (Nat × Nat × Nat)) (ports : List Nat) (f : EthFrame) : (s.sendInternal ep ptp ports f).dio = s.dio := by
  obtain ⟨_, _, _, h⟩ := s.sendInternal_eq ep ptp ports f; rw [h]
@[simp] theorem State.sendInternal_scn (s : State) (ep : Nat) (ptp : Option (Nat × Nat × Nat)) (ports : List Nat) (f : EthFrame) : (s.sendInternal ep ptp ports f).scn = s.scn := by
  obtain ⟨_, _, _, h⟩ := s.sendInternal_eq ep ptp ports f; rw [h]
@[simp] theorem State.sendInternal_hlk (s : State) (ep : Nat) (ptp : Option (Nat × Nat × Nat)) (ports : List Nat) (f : EthFrame) : (s.sendInternal ep ptp ports f).hlk = s.hlk := by
  obtain ⟨_, _, _, h⟩ := s.sendInternal_eq ep ptp ports f; rw [h]
@[simp] theorem State.sendInternal_fbc (s : State) (ep : Nat) (ptp : Option (Nat × Nat × Nat)) (ports : List Nat) (f : EthFrame) : (s.sendInternal ep ptp ports f).fbc = s.fbc := by
  obtain ⟨_, _, _, h⟩ := s.sendInternal_eq ep ptp ports f; rw [h]
@[simp] theorem State.sendInternal_rtc (s : State) (ep : Nat) (ptp : Option (Nat × Nat × Nat)) (ports : List Nat) (f : EthFrame) : (s.sendInternal ep ptp ports f).rtc = s.rtc := by
  obtain ⟨_, _, _, h⟩ := s.sendInternal_eq ep ptp ports f; rw [h]
@[simp] theorem State.sendInternal_lpe (s : State) (ep : Nat) (ptp : Option (Nat × Nat × Nat)) (ports : List Nat) (f : EthFrame) : (s.sendInternal ep ptp ports f).lpe = s.lpe := by
  obtain ⟨_, _, _, h⟩ := s.sendInternal_eq ep ptp ports f; rw [h]
@[simp] theorem State.sendInternal_emu (s : State) (ep : Nat) (ptp : Option (Nat × Nat × Nat)) (ports : List Nat) (f : EthFrame) : (s.sendInternal ep ptp ports f).emu = s.emu := by
  obtain ⟨_, _, _, h⟩ := s.sendInternal_eq ep ptp ports f; rw [h]
@[simp] theorem State.sendInternal_sto (s : State) (ep : Nat) (ptp : Option (Nat × Nat × Nat)) (ports : List Nat) (f : EthFrame) : (s.sendInternal ep ptp ports f).sto = s.sto := by
  obtain ⟨_, _, _, h⟩ := s.sendInternal_eq ep ptp ports f; rw [h]

@[simp] theorem State.emitLink_pending (s : State) (dst type seq flags : Nat) (fields : List Nat) : (s.emitLink dst type seq flags fields).pending = s.pending := by
  obtain ⟨_, _, _, _, h⟩ := s.emitLink_eq dst type seq flags fields; rw [h]
@[simp] theorem State.emitLink_late (s : State) (dst type seq flags : Nat) (fields : List Nat) : (s.emitLink dst type seq flags fields).late = s.late := by
  obtain ⟨_, _, _, _, h⟩ := s.emitLink_eq dst type seq flags fields; rw [h]
@[simp] theorem State.emitLink_coreWait (s : State) (dst type seq flags : Nat) (fields : List Nat) : (s.emitLink dst type seq flags fields).coreWait = s.coreWait := by
  obtain ⟨_, _, _, _, h⟩ := s.emitLink_eq dst type seq flags fields; rw [h]
@[simp] theorem State.emitLink_clk (s : State) (dst type seq flags : Nat) (fields : List Nat) : (s.emitLink dst type seq flags fields).clk = s.clk := by
  obtain ⟨_, _, _, _, h⟩ := s.emitLink_eq dst type seq flags fields; rw [h]
@[simp] theorem State.emitLink_free (s : State) (dst type seq flags : Nat) (fields : List Nat) : (s.emitLink dst type seq flags fields).free = s.free := by
  obtain ⟨_, _, _, _, h⟩ := s.emitLink_eq dst type seq flags fields; rw [h]
@[simp] theorem State.emitLink_image (s : State) (dst type seq flags : Nat) (fields : List Nat) : (s.emitLink dst type seq flags fields).image = s.image := by
  obtain ⟨_, _, _, _, h⟩ := s.emitLink_eq dst type seq flags fields; rw [h]
@[simp] theorem State.emitLink_latch (s : State) (dst type seq flags : Nat) (fields : List Nat) : (s.emitLink dst type seq flags fields).latch = s.latch := by
  obtain ⟨_, _, _, _, h⟩ := s.emitLink_eq dst type seq flags fields; rw [h]
@[simp] theorem State.emitLink_loLatch (s : State) (dst type seq flags : Nat) (fields : List Nat) : (s.emitLink dst type seq flags fields).loLatch = s.loLatch := by
  obtain ⟨_, _, _, _, h⟩ := s.emitLink_eq dst type seq flags fields; rw [h]
@[simp] theorem State.emitLink_loPend (s : State) (dst type seq flags : Nat) (fields : List Nat) : (s.emitLink dst type seq flags fields).loPend = s.loPend := by
  obtain ⟨_, _, _, _, h⟩ := s.emitLink_eq dst type seq flags fields; rw [h]
@[simp] theorem State.emitLink_errDetail (s : State) (dst type seq flags : Nat) (fields : List Nat) : (s.emitLink dst type seq flags fields).errDetail = s.errDetail := by
  obtain ⟨_, _, _, _, h⟩ := s.emitLink_eq dst type seq flags fields; rw [h]
@[simp] theorem State.emitLink_claims (s : State) (dst type seq flags : Nat) (fields : List Nat) : (s.emitLink dst type seq flags fields).claims = s.claims := by
  obtain ⟨_, _, _, _, h⟩ := s.emitLink_eq dst type seq flags fields; rw [h]
@[simp] theorem State.emitLink_points (s : State) (dst type seq flags : Nat) (fields : List Nat) : (s.emitLink dst type seq flags fields).points = s.points := by
  obtain ⟨_, _, _, _, h⟩ := s.emitLink_eq dst type seq flags fields; rw [h]
@[simp] theorem State.emitLink_notes (s : State) (dst type seq flags : Nat) (fields : List Nat) : (s.emitLink dst type seq flags fields).notes = s.notes := by
  obtain ⟨_, _, _, _, h⟩ := s.emitLink_eq dst type seq flags fields; rw [h]
@[simp] theorem State.emitLink_opt (s : State) (dst type seq flags : Nat) (fields : List Nat) : (s.emitLink dst type seq flags fields).opt = s.opt := by
  obtain ⟨_, _, _, _, h⟩ := s.emitLink_eq dst type seq flags fields; rw [h]
@[simp] theorem State.emitLink_hif (s : State) (dst type seq flags : Nat) (fields : List Nat) : (s.emitLink dst type seq flags fields).hif = s.hif := by
  obtain ⟨_, _, _, _, h⟩ := s.emitLink_eq dst type seq flags fields; rw [h]
@[simp] theorem State.emitLink_lat (s : State) (dst type seq flags : Nat) (fields : List Nat) : (s.emitLink dst type seq flags fields).lat = s.lat := by
  obtain ⟨_, _, _, _, h⟩ := s.emitLink_eq dst type seq flags fields; rw [h]
@[simp] theorem State.emitLink_sup (s : State) (dst type seq flags : Nat) (fields : List Nat) : (s.emitLink dst type seq flags fields).sup = s.sup := by
  obtain ⟨_, _, _, _, h⟩ := s.emitLink_eq dst type seq flags fields; rw [h]
@[simp] theorem State.emitLink_key (s : State) (dst type seq flags : Nat) (fields : List Nat) : (s.emitLink dst type seq flags fields).key = s.key := by
  obtain ⟨_, _, _, _, h⟩ := s.emitLink_eq dst type seq flags fields; rw [h]
@[simp] theorem State.emitLink_ten (s : State) (dst type seq flags : Nat) (fields : List Nat) : (s.emitLink dst type seq flags fields).ten = s.ten := by
  obtain ⟨_, _, _, _, h⟩ := s.emitLink_eq dst type seq flags fields; rw [h]
@[simp] theorem State.emitLink_tbs (s : State) (dst type seq flags : Nat) (fields : List Nat) : (s.emitLink dst type seq flags fields).tbs = s.tbs := by
  obtain ⟨_, _, _, _, h⟩ := s.emitLink_eq dst type seq flags fields; rw [h]
@[simp] theorem State.emitLink_ntu (s : State) (dst type seq flags : Nat) (fields : List Nat) : (s.emitLink dst type seq flags fields).ntu = s.ntu := by
  obtain ⟨_, _, _, _, h⟩ := s.emitLink_eq dst type seq flags fields; rw [h]
@[simp] theorem State.emitLink_pse (s : State) (dst type seq flags : Nat) (fields : List Nat) : (s.emitLink dst type seq flags fields).pse = s.pse := by
  obtain ⟨_, _, _, _, h⟩ := s.emitLink_eq dst type seq flags fields; rw [h]
@[simp] theorem State.emitLink_arb (s : State) (dst type seq flags : Nat) (fields : List Nat) : (s.emitLink dst type seq flags fields).arb = s.arb := by
  obtain ⟨_, _, _, _, h⟩ := s.emitLink_eq dst type seq flags fields; rw [h]
@[simp] theorem State.emitLink_lcp (s : State) (dst type seq flags : Nat) (fields : List Nat) : (s.emitLink dst type seq flags fields).lcp = s.lcp := by
  obtain ⟨_, _, _, _, h⟩ := s.emitLink_eq dst type seq flags fields; rw [h]
@[simp] theorem State.emitLink_dio (s : State) (dst type seq flags : Nat) (fields : List Nat) : (s.emitLink dst type seq flags fields).dio = s.dio := by
  obtain ⟨_, _, _, _, h⟩ := s.emitLink_eq dst type seq flags fields; rw [h]
@[simp] theorem State.emitLink_scn (s : State) (dst type seq flags : Nat) (fields : List Nat) : (s.emitLink dst type seq flags fields).scn = s.scn := by
  obtain ⟨_, _, _, _, h⟩ := s.emitLink_eq dst type seq flags fields; rw [h]
@[simp] theorem State.emitLink_fbc (s : State) (dst type seq flags : Nat) (fields : List Nat) : (s.emitLink dst type seq flags fields).fbc = s.fbc := by
  obtain ⟨_, _, _, _, h⟩ := s.emitLink_eq dst type seq flags fields; rw [h]
@[simp] theorem State.emitLink_rtc (s : State) (dst type seq flags : Nat) (fields : List Nat) : (s.emitLink dst type seq flags fields).rtc = s.rtc := by
  obtain ⟨_, _, _, _, h⟩ := s.emitLink_eq dst type seq flags fields; rw [h]
@[simp] theorem State.emitLink_lpe (s : State) (dst type seq flags : Nat) (fields : List Nat) : (s.emitLink dst type seq flags fields).lpe = s.lpe := by
  obtain ⟨_, _, _, _, h⟩ := s.emitLink_eq dst type seq flags fields; rw [h]
@[simp] theorem State.emitLink_emu (s : State) (dst type seq flags : Nat) (fields : List Nat) : (s.emitLink dst type seq flags fields).emu = s.emu := by
  obtain ⟨_, _, _, _, h⟩ := s.emitLink_eq dst type seq flags fields; rw [h]
@[simp] theorem State.emitLink_sto (s : State) (dst type seq flags : Nat) (fields : List Nat) : (s.emitLink dst type seq flags fields).sto = s.sto := by
  obtain ⟨_, _, _, _, h⟩ := s.emitLink_eq dst type seq flags fields; rw [h]

@[simp] theorem State.linkSendPart_pending (s : State) (dst type : Nat) (more : Bool) (fields ops : List Nat) : (s.linkSendPart dst type more fields ops).pending = s.pending := by
  obtain ⟨_, _, _, _, h⟩ := s.linkSendPart_eq dst type more fields ops; rw [h]
@[simp] theorem State.linkSendPart_late (s : State) (dst type : Nat) (more : Bool) (fields ops : List Nat) : (s.linkSendPart dst type more fields ops).late = s.late := by
  obtain ⟨_, _, _, _, h⟩ := s.linkSendPart_eq dst type more fields ops; rw [h]
@[simp] theorem State.linkSendPart_coreWait (s : State) (dst type : Nat) (more : Bool) (fields ops : List Nat) : (s.linkSendPart dst type more fields ops).coreWait = s.coreWait := by
  obtain ⟨_, _, _, _, h⟩ := s.linkSendPart_eq dst type more fields ops; rw [h]
@[simp] theorem State.linkSendPart_clk (s : State) (dst type : Nat) (more : Bool) (fields ops : List Nat) : (s.linkSendPart dst type more fields ops).clk = s.clk := by
  obtain ⟨_, _, _, _, h⟩ := s.linkSendPart_eq dst type more fields ops; rw [h]
@[simp] theorem State.linkSendPart_free (s : State) (dst type : Nat) (more : Bool) (fields ops : List Nat) : (s.linkSendPart dst type more fields ops).free = s.free := by
  obtain ⟨_, _, _, _, h⟩ := s.linkSendPart_eq dst type more fields ops; rw [h]
@[simp] theorem State.linkSendPart_image (s : State) (dst type : Nat) (more : Bool) (fields ops : List Nat) : (s.linkSendPart dst type more fields ops).image = s.image := by
  obtain ⟨_, _, _, _, h⟩ := s.linkSendPart_eq dst type more fields ops; rw [h]
@[simp] theorem State.linkSendPart_latch (s : State) (dst type : Nat) (more : Bool) (fields ops : List Nat) : (s.linkSendPart dst type more fields ops).latch = s.latch := by
  obtain ⟨_, _, _, _, h⟩ := s.linkSendPart_eq dst type more fields ops; rw [h]
@[simp] theorem State.linkSendPart_loLatch (s : State) (dst type : Nat) (more : Bool) (fields ops : List Nat) : (s.linkSendPart dst type more fields ops).loLatch = s.loLatch := by
  obtain ⟨_, _, _, _, h⟩ := s.linkSendPart_eq dst type more fields ops; rw [h]
@[simp] theorem State.linkSendPart_loPend (s : State) (dst type : Nat) (more : Bool) (fields ops : List Nat) : (s.linkSendPart dst type more fields ops).loPend = s.loPend := by
  obtain ⟨_, _, _, _, h⟩ := s.linkSendPart_eq dst type more fields ops; rw [h]
@[simp] theorem State.linkSendPart_errDetail (s : State) (dst type : Nat) (more : Bool) (fields ops : List Nat) : (s.linkSendPart dst type more fields ops).errDetail = s.errDetail := by
  obtain ⟨_, _, _, _, h⟩ := s.linkSendPart_eq dst type more fields ops; rw [h]
@[simp] theorem State.linkSendPart_claims (s : State) (dst type : Nat) (more : Bool) (fields ops : List Nat) : (s.linkSendPart dst type more fields ops).claims = s.claims := by
  obtain ⟨_, _, _, _, h⟩ := s.linkSendPart_eq dst type more fields ops; rw [h]
@[simp] theorem State.linkSendPart_points (s : State) (dst type : Nat) (more : Bool) (fields ops : List Nat) : (s.linkSendPart dst type more fields ops).points = s.points := by
  obtain ⟨_, _, _, _, h⟩ := s.linkSendPart_eq dst type more fields ops; rw [h]
@[simp] theorem State.linkSendPart_notes (s : State) (dst type : Nat) (more : Bool) (fields ops : List Nat) : (s.linkSendPart dst type more fields ops).notes = s.notes := by
  obtain ⟨_, _, _, _, h⟩ := s.linkSendPart_eq dst type more fields ops; rw [h]
@[simp] theorem State.linkSendPart_opt (s : State) (dst type : Nat) (more : Bool) (fields ops : List Nat) : (s.linkSendPart dst type more fields ops).opt = s.opt := by
  obtain ⟨_, _, _, _, h⟩ := s.linkSendPart_eq dst type more fields ops; rw [h]
@[simp] theorem State.linkSendPart_hif (s : State) (dst type : Nat) (more : Bool) (fields ops : List Nat) : (s.linkSendPart dst type more fields ops).hif = s.hif := by
  obtain ⟨_, _, _, _, h⟩ := s.linkSendPart_eq dst type more fields ops; rw [h]
@[simp] theorem State.linkSendPart_lat (s : State) (dst type : Nat) (more : Bool) (fields ops : List Nat) : (s.linkSendPart dst type more fields ops).lat = s.lat := by
  obtain ⟨_, _, _, _, h⟩ := s.linkSendPart_eq dst type more fields ops; rw [h]
@[simp] theorem State.linkSendPart_sup (s : State) (dst type : Nat) (more : Bool) (fields ops : List Nat) : (s.linkSendPart dst type more fields ops).sup = s.sup := by
  obtain ⟨_, _, _, _, h⟩ := s.linkSendPart_eq dst type more fields ops; rw [h]
@[simp] theorem State.linkSendPart_key (s : State) (dst type : Nat) (more : Bool) (fields ops : List Nat) : (s.linkSendPart dst type more fields ops).key = s.key := by
  obtain ⟨_, _, _, _, h⟩ := s.linkSendPart_eq dst type more fields ops; rw [h]
@[simp] theorem State.linkSendPart_ten (s : State) (dst type : Nat) (more : Bool) (fields ops : List Nat) : (s.linkSendPart dst type more fields ops).ten = s.ten := by
  obtain ⟨_, _, _, _, h⟩ := s.linkSendPart_eq dst type more fields ops; rw [h]
@[simp] theorem State.linkSendPart_tbs (s : State) (dst type : Nat) (more : Bool) (fields ops : List Nat) : (s.linkSendPart dst type more fields ops).tbs = s.tbs := by
  obtain ⟨_, _, _, _, h⟩ := s.linkSendPart_eq dst type more fields ops; rw [h]
@[simp] theorem State.linkSendPart_ntu (s : State) (dst type : Nat) (more : Bool) (fields ops : List Nat) : (s.linkSendPart dst type more fields ops).ntu = s.ntu := by
  obtain ⟨_, _, _, _, h⟩ := s.linkSendPart_eq dst type more fields ops; rw [h]
@[simp] theorem State.linkSendPart_pse (s : State) (dst type : Nat) (more : Bool) (fields ops : List Nat) : (s.linkSendPart dst type more fields ops).pse = s.pse := by
  obtain ⟨_, _, _, _, h⟩ := s.linkSendPart_eq dst type more fields ops; rw [h]
@[simp] theorem State.linkSendPart_arb (s : State) (dst type : Nat) (more : Bool) (fields ops : List Nat) : (s.linkSendPart dst type more fields ops).arb = s.arb := by
  obtain ⟨_, _, _, _, h⟩ := s.linkSendPart_eq dst type more fields ops; rw [h]
@[simp] theorem State.linkSendPart_lcp (s : State) (dst type : Nat) (more : Bool) (fields ops : List Nat) : (s.linkSendPart dst type more fields ops).lcp = s.lcp := by
  obtain ⟨_, _, _, _, h⟩ := s.linkSendPart_eq dst type more fields ops; rw [h]
@[simp] theorem State.linkSendPart_dio (s : State) (dst type : Nat) (more : Bool) (fields ops : List Nat) : (s.linkSendPart dst type more fields ops).dio = s.dio := by
  obtain ⟨_, _, _, _, h⟩ := s.linkSendPart_eq dst type more fields ops; rw [h]
@[simp] theorem State.linkSendPart_scn (s : State) (dst type : Nat) (more : Bool) (fields ops : List Nat) : (s.linkSendPart dst type more fields ops).scn = s.scn := by
  obtain ⟨_, _, _, _, h⟩ := s.linkSendPart_eq dst type more fields ops; rw [h]
@[simp] theorem State.linkSendPart_fbc (s : State) (dst type : Nat) (more : Bool) (fields ops : List Nat) : (s.linkSendPart dst type more fields ops).fbc = s.fbc := by
  obtain ⟨_, _, _, _, h⟩ := s.linkSendPart_eq dst type more fields ops; rw [h]
@[simp] theorem State.linkSendPart_rtc (s : State) (dst type : Nat) (more : Bool) (fields ops : List Nat) : (s.linkSendPart dst type more fields ops).rtc = s.rtc := by
  obtain ⟨_, _, _, _, h⟩ := s.linkSendPart_eq dst type more fields ops; rw [h]
@[simp] theorem State.linkSendPart_lpe (s : State) (dst type : Nat) (more : Bool) (fields ops : List Nat) : (s.linkSendPart dst type more fields ops).lpe = s.lpe := by
  obtain ⟨_, _, _, _, h⟩ := s.linkSendPart_eq dst type more fields ops; rw [h]
@[simp] theorem State.linkSendPart_emu (s : State) (dst type : Nat) (more : Bool) (fields ops : List Nat) : (s.linkSendPart dst type more fields ops).emu = s.emu := by
  obtain ⟨_, _, _, _, h⟩ := s.linkSendPart_eq dst type more fields ops; rw [h]
@[simp] theorem State.linkSendPart_sto (s : State) (dst type : Nat) (more : Bool) (fields ops : List Nat) : (s.linkSendPart dst type more fields ops).sto = s.sto := by
  obtain ⟨_, _, _, _, h⟩ := s.linkSendPart_eq dst type more fields ops; rw [h]

@[simp] theorem State.linkSendRel_pending (s : State) (dst type : Nat) (fields ops : List Nat) : (s.linkSendRel dst type fields ops).pending = s.pending := by
  obtain ⟨_, _, _, _, h⟩ := s.linkSendRel_eq dst type fields ops; rw [h]
@[simp] theorem State.linkSendRel_late (s : State) (dst type : Nat) (fields ops : List Nat) : (s.linkSendRel dst type fields ops).late = s.late := by
  obtain ⟨_, _, _, _, h⟩ := s.linkSendRel_eq dst type fields ops; rw [h]
@[simp] theorem State.linkSendRel_coreWait (s : State) (dst type : Nat) (fields ops : List Nat) : (s.linkSendRel dst type fields ops).coreWait = s.coreWait := by
  obtain ⟨_, _, _, _, h⟩ := s.linkSendRel_eq dst type fields ops; rw [h]
@[simp] theorem State.linkSendRel_clk (s : State) (dst type : Nat) (fields ops : List Nat) : (s.linkSendRel dst type fields ops).clk = s.clk := by
  obtain ⟨_, _, _, _, h⟩ := s.linkSendRel_eq dst type fields ops; rw [h]
@[simp] theorem State.linkSendRel_free (s : State) (dst type : Nat) (fields ops : List Nat) : (s.linkSendRel dst type fields ops).free = s.free := by
  obtain ⟨_, _, _, _, h⟩ := s.linkSendRel_eq dst type fields ops; rw [h]
@[simp] theorem State.linkSendRel_image (s : State) (dst type : Nat) (fields ops : List Nat) : (s.linkSendRel dst type fields ops).image = s.image := by
  obtain ⟨_, _, _, _, h⟩ := s.linkSendRel_eq dst type fields ops; rw [h]
@[simp] theorem State.linkSendRel_latch (s : State) (dst type : Nat) (fields ops : List Nat) : (s.linkSendRel dst type fields ops).latch = s.latch := by
  obtain ⟨_, _, _, _, h⟩ := s.linkSendRel_eq dst type fields ops; rw [h]
@[simp] theorem State.linkSendRel_loLatch (s : State) (dst type : Nat) (fields ops : List Nat) : (s.linkSendRel dst type fields ops).loLatch = s.loLatch := by
  obtain ⟨_, _, _, _, h⟩ := s.linkSendRel_eq dst type fields ops; rw [h]
@[simp] theorem State.linkSendRel_loPend (s : State) (dst type : Nat) (fields ops : List Nat) : (s.linkSendRel dst type fields ops).loPend = s.loPend := by
  obtain ⟨_, _, _, _, h⟩ := s.linkSendRel_eq dst type fields ops; rw [h]
@[simp] theorem State.linkSendRel_errDetail (s : State) (dst type : Nat) (fields ops : List Nat) : (s.linkSendRel dst type fields ops).errDetail = s.errDetail := by
  obtain ⟨_, _, _, _, h⟩ := s.linkSendRel_eq dst type fields ops; rw [h]
@[simp] theorem State.linkSendRel_claims (s : State) (dst type : Nat) (fields ops : List Nat) : (s.linkSendRel dst type fields ops).claims = s.claims := by
  obtain ⟨_, _, _, _, h⟩ := s.linkSendRel_eq dst type fields ops; rw [h]
@[simp] theorem State.linkSendRel_points (s : State) (dst type : Nat) (fields ops : List Nat) : (s.linkSendRel dst type fields ops).points = s.points := by
  obtain ⟨_, _, _, _, h⟩ := s.linkSendRel_eq dst type fields ops; rw [h]
@[simp] theorem State.linkSendRel_notes (s : State) (dst type : Nat) (fields ops : List Nat) : (s.linkSendRel dst type fields ops).notes = s.notes := by
  obtain ⟨_, _, _, _, h⟩ := s.linkSendRel_eq dst type fields ops; rw [h]
@[simp] theorem State.linkSendRel_opt (s : State) (dst type : Nat) (fields ops : List Nat) : (s.linkSendRel dst type fields ops).opt = s.opt := by
  obtain ⟨_, _, _, _, h⟩ := s.linkSendRel_eq dst type fields ops; rw [h]
@[simp] theorem State.linkSendRel_hif (s : State) (dst type : Nat) (fields ops : List Nat) : (s.linkSendRel dst type fields ops).hif = s.hif := by
  obtain ⟨_, _, _, _, h⟩ := s.linkSendRel_eq dst type fields ops; rw [h]
@[simp] theorem State.linkSendRel_lat (s : State) (dst type : Nat) (fields ops : List Nat) : (s.linkSendRel dst type fields ops).lat = s.lat := by
  obtain ⟨_, _, _, _, h⟩ := s.linkSendRel_eq dst type fields ops; rw [h]
@[simp] theorem State.linkSendRel_sup (s : State) (dst type : Nat) (fields ops : List Nat) : (s.linkSendRel dst type fields ops).sup = s.sup := by
  obtain ⟨_, _, _, _, h⟩ := s.linkSendRel_eq dst type fields ops; rw [h]
@[simp] theorem State.linkSendRel_key (s : State) (dst type : Nat) (fields ops : List Nat) : (s.linkSendRel dst type fields ops).key = s.key := by
  obtain ⟨_, _, _, _, h⟩ := s.linkSendRel_eq dst type fields ops; rw [h]
@[simp] theorem State.linkSendRel_ten (s : State) (dst type : Nat) (fields ops : List Nat) : (s.linkSendRel dst type fields ops).ten = s.ten := by
  obtain ⟨_, _, _, _, h⟩ := s.linkSendRel_eq dst type fields ops; rw [h]
@[simp] theorem State.linkSendRel_tbs (s : State) (dst type : Nat) (fields ops : List Nat) : (s.linkSendRel dst type fields ops).tbs = s.tbs := by
  obtain ⟨_, _, _, _, h⟩ := s.linkSendRel_eq dst type fields ops; rw [h]
@[simp] theorem State.linkSendRel_ntu (s : State) (dst type : Nat) (fields ops : List Nat) : (s.linkSendRel dst type fields ops).ntu = s.ntu := by
  obtain ⟨_, _, _, _, h⟩ := s.linkSendRel_eq dst type fields ops; rw [h]
@[simp] theorem State.linkSendRel_pse (s : State) (dst type : Nat) (fields ops : List Nat) : (s.linkSendRel dst type fields ops).pse = s.pse := by
  obtain ⟨_, _, _, _, h⟩ := s.linkSendRel_eq dst type fields ops; rw [h]
@[simp] theorem State.linkSendRel_arb (s : State) (dst type : Nat) (fields ops : List Nat) : (s.linkSendRel dst type fields ops).arb = s.arb := by
  obtain ⟨_, _, _, _, h⟩ := s.linkSendRel_eq dst type fields ops; rw [h]
@[simp] theorem State.linkSendRel_lcp (s : State) (dst type : Nat) (fields ops : List Nat) : (s.linkSendRel dst type fields ops).lcp = s.lcp := by
  obtain ⟨_, _, _, _, h⟩ := s.linkSendRel_eq dst type fields ops; rw [h]
@[simp] theorem State.linkSendRel_dio (s : State) (dst type : Nat) (fields ops : List Nat) : (s.linkSendRel dst type fields ops).dio = s.dio := by
  obtain ⟨_, _, _, _, h⟩ := s.linkSendRel_eq dst type fields ops; rw [h]
@[simp] theorem State.linkSendRel_scn (s : State) (dst type : Nat) (fields ops : List Nat) : (s.linkSendRel dst type fields ops).scn = s.scn := by
  obtain ⟨_, _, _, _, h⟩ := s.linkSendRel_eq dst type fields ops; rw [h]
@[simp] theorem State.linkSendRel_fbc (s : State) (dst type : Nat) (fields ops : List Nat) : (s.linkSendRel dst type fields ops).fbc = s.fbc := by
  obtain ⟨_, _, _, _, h⟩ := s.linkSendRel_eq dst type fields ops; rw [h]
@[simp] theorem State.linkSendRel_rtc (s : State) (dst type : Nat) (fields ops : List Nat) : (s.linkSendRel dst type fields ops).rtc = s.rtc := by
  obtain ⟨_, _, _, _, h⟩ := s.linkSendRel_eq dst type fields ops; rw [h]
@[simp] theorem State.linkSendRel_lpe (s : State) (dst type : Nat) (fields ops : List Nat) : (s.linkSendRel dst type fields ops).lpe = s.lpe := by
  obtain ⟨_, _, _, _, h⟩ := s.linkSendRel_eq dst type fields ops; rw [h]
@[simp] theorem State.linkSendRel_emu (s : State) (dst type : Nat) (fields ops : List Nat) : (s.linkSendRel dst type fields ops).emu = s.emu := by
  obtain ⟨_, _, _, _, h⟩ := s.linkSendRel_eq dst type fields ops; rw [h]
@[simp] theorem State.linkSendRel_sto (s : State) (dst type : Nat) (fields ops : List Nat) : (s.linkSendRel dst type fields ops).sto = s.sto := by
  obtain ⟨_, _, _, _, h⟩ := s.linkSendRel_eq dst type fields ops; rw [h]

@[simp] theorem State.linkSend_pending (s : State) (dst type : Nat) (fields : List Nat) : (s.linkSend dst type fields).pending = s.pending := by
  obtain ⟨_, _, _, _, h⟩ := s.linkSend_eq dst type fields; rw [h]
@[simp] theorem State.linkSend_late (s : State) (dst type : Nat) (fields : List Nat) : (s.linkSend dst type fields).late = s.late := by
  obtain ⟨_, _, _, _, h⟩ := s.linkSend_eq dst type fields; rw [h]
@[simp] theorem State.linkSend_coreWait (s : State) (dst type : Nat) (fields : List Nat) : (s.linkSend dst type fields).coreWait = s.coreWait := by
  obtain ⟨_, _, _, _, h⟩ := s.linkSend_eq dst type fields; rw [h]
@[simp] theorem State.linkSend_clk (s : State) (dst type : Nat) (fields : List Nat) : (s.linkSend dst type fields).clk = s.clk := by
  obtain ⟨_, _, _, _, h⟩ := s.linkSend_eq dst type fields; rw [h]
@[simp] theorem State.linkSend_free (s : State) (dst type : Nat) (fields : List Nat) : (s.linkSend dst type fields).free = s.free := by
  obtain ⟨_, _, _, _, h⟩ := s.linkSend_eq dst type fields; rw [h]
@[simp] theorem State.linkSend_image (s : State) (dst type : Nat) (fields : List Nat) : (s.linkSend dst type fields).image = s.image := by
  obtain ⟨_, _, _, _, h⟩ := s.linkSend_eq dst type fields; rw [h]
@[simp] theorem State.linkSend_latch (s : State) (dst type : Nat) (fields : List Nat) : (s.linkSend dst type fields).latch = s.latch := by
  obtain ⟨_, _, _, _, h⟩ := s.linkSend_eq dst type fields; rw [h]
@[simp] theorem State.linkSend_loLatch (s : State) (dst type : Nat) (fields : List Nat) : (s.linkSend dst type fields).loLatch = s.loLatch := by
  obtain ⟨_, _, _, _, h⟩ := s.linkSend_eq dst type fields; rw [h]
@[simp] theorem State.linkSend_loPend (s : State) (dst type : Nat) (fields : List Nat) : (s.linkSend dst type fields).loPend = s.loPend := by
  obtain ⟨_, _, _, _, h⟩ := s.linkSend_eq dst type fields; rw [h]
@[simp] theorem State.linkSend_errDetail (s : State) (dst type : Nat) (fields : List Nat) : (s.linkSend dst type fields).errDetail = s.errDetail := by
  obtain ⟨_, _, _, _, h⟩ := s.linkSend_eq dst type fields; rw [h]
@[simp] theorem State.linkSend_claims (s : State) (dst type : Nat) (fields : List Nat) : (s.linkSend dst type fields).claims = s.claims := by
  obtain ⟨_, _, _, _, h⟩ := s.linkSend_eq dst type fields; rw [h]
@[simp] theorem State.linkSend_points (s : State) (dst type : Nat) (fields : List Nat) : (s.linkSend dst type fields).points = s.points := by
  obtain ⟨_, _, _, _, h⟩ := s.linkSend_eq dst type fields; rw [h]
@[simp] theorem State.linkSend_notes (s : State) (dst type : Nat) (fields : List Nat) : (s.linkSend dst type fields).notes = s.notes := by
  obtain ⟨_, _, _, _, h⟩ := s.linkSend_eq dst type fields; rw [h]
@[simp] theorem State.linkSend_opt (s : State) (dst type : Nat) (fields : List Nat) : (s.linkSend dst type fields).opt = s.opt := by
  obtain ⟨_, _, _, _, h⟩ := s.linkSend_eq dst type fields; rw [h]
@[simp] theorem State.linkSend_hif (s : State) (dst type : Nat) (fields : List Nat) : (s.linkSend dst type fields).hif = s.hif := by
  obtain ⟨_, _, _, _, h⟩ := s.linkSend_eq dst type fields; rw [h]
@[simp] theorem State.linkSend_lat (s : State) (dst type : Nat) (fields : List Nat) : (s.linkSend dst type fields).lat = s.lat := by
  obtain ⟨_, _, _, _, h⟩ := s.linkSend_eq dst type fields; rw [h]
@[simp] theorem State.linkSend_sup (s : State) (dst type : Nat) (fields : List Nat) : (s.linkSend dst type fields).sup = s.sup := by
  obtain ⟨_, _, _, _, h⟩ := s.linkSend_eq dst type fields; rw [h]
@[simp] theorem State.linkSend_key (s : State) (dst type : Nat) (fields : List Nat) : (s.linkSend dst type fields).key = s.key := by
  obtain ⟨_, _, _, _, h⟩ := s.linkSend_eq dst type fields; rw [h]
@[simp] theorem State.linkSend_ten (s : State) (dst type : Nat) (fields : List Nat) : (s.linkSend dst type fields).ten = s.ten := by
  obtain ⟨_, _, _, _, h⟩ := s.linkSend_eq dst type fields; rw [h]
@[simp] theorem State.linkSend_tbs (s : State) (dst type : Nat) (fields : List Nat) : (s.linkSend dst type fields).tbs = s.tbs := by
  obtain ⟨_, _, _, _, h⟩ := s.linkSend_eq dst type fields; rw [h]
@[simp] theorem State.linkSend_ntu (s : State) (dst type : Nat) (fields : List Nat) : (s.linkSend dst type fields).ntu = s.ntu := by
  obtain ⟨_, _, _, _, h⟩ := s.linkSend_eq dst type fields; rw [h]
@[simp] theorem State.linkSend_pse (s : State) (dst type : Nat) (fields : List Nat) : (s.linkSend dst type fields).pse = s.pse := by
  obtain ⟨_, _, _, _, h⟩ := s.linkSend_eq dst type fields; rw [h]
@[simp] theorem State.linkSend_arb (s : State) (dst type : Nat) (fields : List Nat) : (s.linkSend dst type fields).arb = s.arb := by
  obtain ⟨_, _, _, _, h⟩ := s.linkSend_eq dst type fields; rw [h]
@[simp] theorem State.linkSend_lcp (s : State) (dst type : Nat) (fields : List Nat) : (s.linkSend dst type fields).lcp = s.lcp := by
  obtain ⟨_, _, _, _, h⟩ := s.linkSend_eq dst type fields; rw [h]
@[simp] theorem State.linkSend_dio (s : State) (dst type : Nat) (fields : List Nat) : (s.linkSend dst type fields).dio = s.dio := by
  obtain ⟨_, _, _, _, h⟩ := s.linkSend_eq dst type fields; rw [h]
@[simp] theorem State.linkSend_scn (s : State) (dst type : Nat) (fields : List Nat) : (s.linkSend dst type fields).scn = s.scn := by
  obtain ⟨_, _, _, _, h⟩ := s.linkSend_eq dst type fields; rw [h]
@[simp] theorem State.linkSend_fbc (s : State) (dst type : Nat) (fields : List Nat) : (s.linkSend dst type fields).fbc = s.fbc := by
  obtain ⟨_, _, _, _, h⟩ := s.linkSend_eq dst type fields; rw [h]
@[simp] theorem State.linkSend_rtc (s : State) (dst type : Nat) (fields : List Nat) : (s.linkSend dst type fields).rtc = s.rtc := by
  obtain ⟨_, _, _, _, h⟩ := s.linkSend_eq dst type fields; rw [h]
@[simp] theorem State.linkSend_lpe (s : State) (dst type : Nat) (fields : List Nat) : (s.linkSend dst type fields).lpe = s.lpe := by
  obtain ⟨_, _, _, _, h⟩ := s.linkSend_eq dst type fields; rw [h]
@[simp] theorem State.linkSend_emu (s : State) (dst type : Nat) (fields : List Nat) : (s.linkSend dst type fields).emu = s.emu := by
  obtain ⟨_, _, _, _, h⟩ := s.linkSend_eq dst type fields; rw [h]
@[simp] theorem State.linkSend_sto (s : State) (dst type : Nat) (fields : List Nat) : (s.linkSend dst type fields).sto = s.sto := by
  obtain ⟨_, _, _, _, h⟩ := s.linkSend_eq dst type fields; rw [h]

@[simp] theorem State.answerRemote_pending (s : State) (t status : Nat) (result : Word) : (s.answerRemote t status result).pending = s.pending := by
  obtain ⟨_, _, _, _, h⟩ := s.answerRemote_eq t status result; rw [h]
@[simp] theorem State.answerRemote_late (s : State) (t status : Nat) (result : Word) : (s.answerRemote t status result).late = s.late := by
  obtain ⟨_, _, _, _, h⟩ := s.answerRemote_eq t status result; rw [h]
@[simp] theorem State.answerRemote_coreWait (s : State) (t status : Nat) (result : Word) : (s.answerRemote t status result).coreWait = s.coreWait := by
  obtain ⟨_, _, _, _, h⟩ := s.answerRemote_eq t status result; rw [h]
@[simp] theorem State.answerRemote_clk (s : State) (t status : Nat) (result : Word) : (s.answerRemote t status result).clk = s.clk := by
  obtain ⟨_, _, _, _, h⟩ := s.answerRemote_eq t status result; rw [h]
@[simp] theorem State.answerRemote_free (s : State) (t status : Nat) (result : Word) : (s.answerRemote t status result).free = s.free := by
  obtain ⟨_, _, _, _, h⟩ := s.answerRemote_eq t status result; rw [h]
@[simp] theorem State.answerRemote_image (s : State) (t status : Nat) (result : Word) : (s.answerRemote t status result).image = s.image := by
  obtain ⟨_, _, _, _, h⟩ := s.answerRemote_eq t status result; rw [h]
@[simp] theorem State.answerRemote_latch (s : State) (t status : Nat) (result : Word) : (s.answerRemote t status result).latch = s.latch := by
  obtain ⟨_, _, _, _, h⟩ := s.answerRemote_eq t status result; rw [h]
@[simp] theorem State.answerRemote_loLatch (s : State) (t status : Nat) (result : Word) : (s.answerRemote t status result).loLatch = s.loLatch := by
  obtain ⟨_, _, _, _, h⟩ := s.answerRemote_eq t status result; rw [h]
@[simp] theorem State.answerRemote_loPend (s : State) (t status : Nat) (result : Word) : (s.answerRemote t status result).loPend = s.loPend := by
  obtain ⟨_, _, _, _, h⟩ := s.answerRemote_eq t status result; rw [h]
@[simp] theorem State.answerRemote_errDetail (s : State) (t status : Nat) (result : Word) : (s.answerRemote t status result).errDetail = s.errDetail := by
  obtain ⟨_, _, _, _, h⟩ := s.answerRemote_eq t status result; rw [h]
@[simp] theorem State.answerRemote_claims (s : State) (t status : Nat) (result : Word) : (s.answerRemote t status result).claims = s.claims := by
  obtain ⟨_, _, _, _, h⟩ := s.answerRemote_eq t status result; rw [h]
@[simp] theorem State.answerRemote_points (s : State) (t status : Nat) (result : Word) : (s.answerRemote t status result).points = s.points := by
  obtain ⟨_, _, _, _, h⟩ := s.answerRemote_eq t status result; rw [h]
@[simp] theorem State.answerRemote_notes (s : State) (t status : Nat) (result : Word) : (s.answerRemote t status result).notes = s.notes := by
  obtain ⟨_, _, _, _, h⟩ := s.answerRemote_eq t status result; rw [h]
@[simp] theorem State.answerRemote_opt (s : State) (t status : Nat) (result : Word) : (s.answerRemote t status result).opt = s.opt := by
  obtain ⟨_, _, _, _, h⟩ := s.answerRemote_eq t status result; rw [h]
@[simp] theorem State.answerRemote_hif (s : State) (t status : Nat) (result : Word) : (s.answerRemote t status result).hif = s.hif := by
  obtain ⟨_, _, _, _, h⟩ := s.answerRemote_eq t status result; rw [h]
@[simp] theorem State.answerRemote_lat (s : State) (t status : Nat) (result : Word) : (s.answerRemote t status result).lat = s.lat := by
  obtain ⟨_, _, _, _, h⟩ := s.answerRemote_eq t status result; rw [h]
@[simp] theorem State.answerRemote_sup (s : State) (t status : Nat) (result : Word) : (s.answerRemote t status result).sup = s.sup := by
  obtain ⟨_, _, _, _, h⟩ := s.answerRemote_eq t status result; rw [h]
@[simp] theorem State.answerRemote_key (s : State) (t status : Nat) (result : Word) : (s.answerRemote t status result).key = s.key := by
  obtain ⟨_, _, _, _, h⟩ := s.answerRemote_eq t status result; rw [h]
@[simp] theorem State.answerRemote_ten (s : State) (t status : Nat) (result : Word) : (s.answerRemote t status result).ten = s.ten := by
  obtain ⟨_, _, _, _, h⟩ := s.answerRemote_eq t status result; rw [h]
@[simp] theorem State.answerRemote_tbs (s : State) (t status : Nat) (result : Word) : (s.answerRemote t status result).tbs = s.tbs := by
  obtain ⟨_, _, _, _, h⟩ := s.answerRemote_eq t status result; rw [h]
@[simp] theorem State.answerRemote_ntu (s : State) (t status : Nat) (result : Word) : (s.answerRemote t status result).ntu = s.ntu := by
  obtain ⟨_, _, _, _, h⟩ := s.answerRemote_eq t status result; rw [h]
@[simp] theorem State.answerRemote_pse (s : State) (t status : Nat) (result : Word) : (s.answerRemote t status result).pse = s.pse := by
  obtain ⟨_, _, _, _, h⟩ := s.answerRemote_eq t status result; rw [h]
@[simp] theorem State.answerRemote_arb (s : State) (t status : Nat) (result : Word) : (s.answerRemote t status result).arb = s.arb := by
  obtain ⟨_, _, _, _, h⟩ := s.answerRemote_eq t status result; rw [h]
@[simp] theorem State.answerRemote_lcp (s : State) (t status : Nat) (result : Word) : (s.answerRemote t status result).lcp = s.lcp := by
  obtain ⟨_, _, _, _, h⟩ := s.answerRemote_eq t status result; rw [h]
@[simp] theorem State.answerRemote_dio (s : State) (t status : Nat) (result : Word) : (s.answerRemote t status result).dio = s.dio := by
  obtain ⟨_, _, _, _, h⟩ := s.answerRemote_eq t status result; rw [h]
@[simp] theorem State.answerRemote_scn (s : State) (t status : Nat) (result : Word) : (s.answerRemote t status result).scn = s.scn := by
  obtain ⟨_, _, _, _, h⟩ := s.answerRemote_eq t status result; rw [h]
@[simp] theorem State.answerRemote_fbc (s : State) (t status : Nat) (result : Word) : (s.answerRemote t status result).fbc = s.fbc := by
  obtain ⟨_, _, _, _, h⟩ := s.answerRemote_eq t status result; rw [h]
@[simp] theorem State.answerRemote_rtc (s : State) (t status : Nat) (result : Word) : (s.answerRemote t status result).rtc = s.rtc := by
  obtain ⟨_, _, _, _, h⟩ := s.answerRemote_eq t status result; rw [h]
@[simp] theorem State.answerRemote_lpe (s : State) (t status : Nat) (result : Word) : (s.answerRemote t status result).lpe = s.lpe := by
  obtain ⟨_, _, _, _, h⟩ := s.answerRemote_eq t status result; rw [h]
@[simp] theorem State.answerRemote_emu (s : State) (t status : Nat) (result : Word) : (s.answerRemote t status result).emu = s.emu := by
  obtain ⟨_, _, _, _, h⟩ := s.answerRemote_eq t status result; rw [h]
@[simp] theorem State.answerRemote_sto (s : State) (t status : Nat) (result : Word) : (s.answerRemote t status result).sto = s.sto := by
  obtain ⟨_, _, _, _, h⟩ := s.answerRemote_eq t status result; rw [h]

@[simp] theorem State.decideOp_pending (s : State) (t status : Nat) (result : Word) : (s.decideOp t status result).pending = s.pending := by
  obtain ⟨_, _, _, _, _, _, _, h⟩ := s.decideOp_some t status result; rw [h]
@[simp] theorem State.decideOp_late (s : State) (t status : Nat) (result : Word) : (s.decideOp t status result).late = s.late := by
  obtain ⟨_, _, _, _, _, _, _, h⟩ := s.decideOp_some t status result; rw [h]
@[simp] theorem State.decideOp_coreWait (s : State) (t status : Nat) (result : Word) : (s.decideOp t status result).coreWait = s.coreWait := by
  obtain ⟨_, _, _, _, _, _, _, h⟩ := s.decideOp_some t status result; rw [h]
@[simp] theorem State.decideOp_clk (s : State) (t status : Nat) (result : Word) : (s.decideOp t status result).clk = s.clk := by
  obtain ⟨_, _, _, _, _, _, _, h⟩ := s.decideOp_some t status result; rw [h]
@[simp] theorem State.decideOp_free (s : State) (t status : Nat) (result : Word) : (s.decideOp t status result).free = s.free := by
  obtain ⟨_, _, _, _, _, _, _, h⟩ := s.decideOp_some t status result; rw [h]
@[simp] theorem State.decideOp_image (s : State) (t status : Nat) (result : Word) : (s.decideOp t status result).image = s.image := by
  obtain ⟨_, _, _, _, _, _, _, h⟩ := s.decideOp_some t status result; rw [h]
@[simp] theorem State.decideOp_latch (s : State) (t status : Nat) (result : Word) : (s.decideOp t status result).latch = s.latch := by
  obtain ⟨_, _, _, _, _, _, _, h⟩ := s.decideOp_some t status result; rw [h]
@[simp] theorem State.decideOp_loLatch (s : State) (t status : Nat) (result : Word) : (s.decideOp t status result).loLatch = s.loLatch := by
  obtain ⟨_, _, _, _, _, _, _, h⟩ := s.decideOp_some t status result; rw [h]
@[simp] theorem State.decideOp_loPend (s : State) (t status : Nat) (result : Word) : (s.decideOp t status result).loPend = s.loPend := by
  obtain ⟨_, _, _, _, _, _, _, h⟩ := s.decideOp_some t status result; rw [h]
@[simp] theorem State.decideOp_errDetail (s : State) (t status : Nat) (result : Word) : (s.decideOp t status result).errDetail = s.errDetail := by
  obtain ⟨_, _, _, _, _, _, _, h⟩ := s.decideOp_some t status result; rw [h]
@[simp] theorem State.decideOp_claims (s : State) (t status : Nat) (result : Word) : (s.decideOp t status result).claims = s.claims := by
  obtain ⟨_, _, _, _, _, _, _, h⟩ := s.decideOp_some t status result; rw [h]
@[simp] theorem State.decideOp_points (s : State) (t status : Nat) (result : Word) : (s.decideOp t status result).points = s.points := by
  obtain ⟨_, _, _, _, _, _, _, h⟩ := s.decideOp_some t status result; rw [h]
@[simp] theorem State.decideOp_notes (s : State) (t status : Nat) (result : Word) : (s.decideOp t status result).notes = s.notes := by
  obtain ⟨_, _, _, _, _, _, _, h⟩ := s.decideOp_some t status result; rw [h]
@[simp] theorem State.decideOp_hif (s : State) (t status : Nat) (result : Word) : (s.decideOp t status result).hif = s.hif := by
  obtain ⟨_, _, _, _, _, _, _, h⟩ := s.decideOp_some t status result; rw [h]
@[simp] theorem State.decideOp_lat (s : State) (t status : Nat) (result : Word) : (s.decideOp t status result).lat = s.lat := by
  obtain ⟨_, _, _, _, _, _, _, h⟩ := s.decideOp_some t status result; rw [h]
@[simp] theorem State.decideOp_sup (s : State) (t status : Nat) (result : Word) : (s.decideOp t status result).sup = s.sup := by
  obtain ⟨_, _, _, _, _, _, _, h⟩ := s.decideOp_some t status result; rw [h]
@[simp] theorem State.decideOp_key (s : State) (t status : Nat) (result : Word) : (s.decideOp t status result).key = s.key := by
  obtain ⟨_, _, _, _, _, _, _, h⟩ := s.decideOp_some t status result; rw [h]
@[simp] theorem State.decideOp_ten (s : State) (t status : Nat) (result : Word) : (s.decideOp t status result).ten = s.ten := by
  obtain ⟨_, _, _, _, _, _, _, h⟩ := s.decideOp_some t status result; rw [h]
@[simp] theorem State.decideOp_tbs (s : State) (t status : Nat) (result : Word) : (s.decideOp t status result).tbs = s.tbs := by
  obtain ⟨_, _, _, _, _, _, _, h⟩ := s.decideOp_some t status result; rw [h]
@[simp] theorem State.decideOp_ntu (s : State) (t status : Nat) (result : Word) : (s.decideOp t status result).ntu = s.ntu := by
  obtain ⟨_, _, _, _, _, _, _, h⟩ := s.decideOp_some t status result; rw [h]
@[simp] theorem State.decideOp_pse (s : State) (t status : Nat) (result : Word) : (s.decideOp t status result).pse = s.pse := by
  obtain ⟨_, _, _, _, _, _, _, h⟩ := s.decideOp_some t status result; rw [h]
@[simp] theorem State.decideOp_arb (s : State) (t status : Nat) (result : Word) : (s.decideOp t status result).arb = s.arb := by
  obtain ⟨_, _, _, _, _, _, _, h⟩ := s.decideOp_some t status result; rw [h]
@[simp] theorem State.decideOp_lcp (s : State) (t status : Nat) (result : Word) : (s.decideOp t status result).lcp = s.lcp := by
  obtain ⟨_, _, _, _, _, _, _, h⟩ := s.decideOp_some t status result; rw [h]
@[simp] theorem State.decideOp_dio (s : State) (t status : Nat) (result : Word) : (s.decideOp t status result).dio = s.dio := by
  obtain ⟨_, _, _, _, _, _, _, h⟩ := s.decideOp_some t status result; rw [h]
@[simp] theorem State.decideOp_fbc (s : State) (t status : Nat) (result : Word) : (s.decideOp t status result).fbc = s.fbc := by
  obtain ⟨_, _, _, _, _, _, _, h⟩ := s.decideOp_some t status result; rw [h]
@[simp] theorem State.decideOp_rtc (s : State) (t status : Nat) (result : Word) : (s.decideOp t status result).rtc = s.rtc := by
  obtain ⟨_, _, _, _, _, _, _, h⟩ := s.decideOp_some t status result; rw [h]
@[simp] theorem State.decideOp_lpe (s : State) (t status : Nat) (result : Word) : (s.decideOp t status result).lpe = s.lpe := by
  obtain ⟨_, _, _, _, _, _, _, h⟩ := s.decideOp_some t status result; rw [h]
@[simp] theorem State.decideOp_emu (s : State) (t status : Nat) (result : Word) : (s.decideOp t status result).emu = s.emu := by
  obtain ⟨_, _, _, _, _, _, _, h⟩ := s.decideOp_some t status result; rw [h]

@[simp] theorem State.storeOne_pending (s : State) (o i : Nat) (v : Dword) (q : Nat) : (s.storeOne o i v q).pending = s.pending := by
  obtain ⟨_, _, h⟩ := s.storeOne_eq o i v q; rw [h]
@[simp] theorem State.storeOne_late (s : State) (o i : Nat) (v : Dword) (q : Nat) : (s.storeOne o i v q).late = s.late := by
  obtain ⟨_, _, h⟩ := s.storeOne_eq o i v q; rw [h]
@[simp] theorem State.storeOne_coreWait (s : State) (o i : Nat) (v : Dword) (q : Nat) : (s.storeOne o i v q).coreWait = s.coreWait := by
  obtain ⟨_, _, h⟩ := s.storeOne_eq o i v q; rw [h]
@[simp] theorem State.storeOne_clk (s : State) (o i : Nat) (v : Dword) (q : Nat) : (s.storeOne o i v q).clk = s.clk := by
  obtain ⟨_, _, h⟩ := s.storeOne_eq o i v q; rw [h]
@[simp] theorem State.storeOne_free (s : State) (o i : Nat) (v : Dword) (q : Nat) : (s.storeOne o i v q).free = s.free := by
  obtain ⟨_, _, h⟩ := s.storeOne_eq o i v q; rw [h]
@[simp] theorem State.storeOne_out (s : State) (o i : Nat) (v : Dword) (q : Nat) : (s.storeOne o i v q).out = s.out := by
  obtain ⟨_, _, h⟩ := s.storeOne_eq o i v q; rw [h]
@[simp] theorem State.storeOne_regs (s : State) (o i : Nat) (v : Dword) (q : Nat) : (s.storeOne o i v q).regs = s.regs := by
  obtain ⟨_, _, h⟩ := s.storeOne_eq o i v q; rw [h]
@[simp] theorem State.storeOne_image (s : State) (o i : Nat) (v : Dword) (q : Nat) : (s.storeOne o i v q).image = s.image := by
  obtain ⟨_, _, h⟩ := s.storeOne_eq o i v q; rw [h]
@[simp] theorem State.storeOne_latch (s : State) (o i : Nat) (v : Dword) (q : Nat) : (s.storeOne o i v q).latch = s.latch := by
  obtain ⟨_, _, h⟩ := s.storeOne_eq o i v q; rw [h]
@[simp] theorem State.storeOne_loLatch (s : State) (o i : Nat) (v : Dword) (q : Nat) : (s.storeOne o i v q).loLatch = s.loLatch := by
  obtain ⟨_, _, h⟩ := s.storeOne_eq o i v q; rw [h]
@[simp] theorem State.storeOne_loPend (s : State) (o i : Nat) (v : Dword) (q : Nat) : (s.storeOne o i v q).loPend = s.loPend := by
  obtain ⟨_, _, h⟩ := s.storeOne_eq o i v q; rw [h]
@[simp] theorem State.storeOne_errDetail (s : State) (o i : Nat) (v : Dword) (q : Nat) : (s.storeOne o i v q).errDetail = s.errDetail := by
  obtain ⟨_, _, h⟩ := s.storeOne_eq o i v q; rw [h]
@[simp] theorem State.storeOne_claims (s : State) (o i : Nat) (v : Dword) (q : Nat) : (s.storeOne o i v q).claims = s.claims := by
  obtain ⟨_, _, h⟩ := s.storeOne_eq o i v q; rw [h]
@[simp] theorem State.storeOne_opt (s : State) (o i : Nat) (v : Dword) (q : Nat) : (s.storeOne o i v q).opt = s.opt := by
  obtain ⟨_, _, h⟩ := s.storeOne_eq o i v q; rw [h]
@[simp] theorem State.storeOne_hif (s : State) (o i : Nat) (v : Dword) (q : Nat) : (s.storeOne o i v q).hif = s.hif := by
  obtain ⟨_, _, h⟩ := s.storeOne_eq o i v q; rw [h]
@[simp] theorem State.storeOne_lat (s : State) (o i : Nat) (v : Dword) (q : Nat) : (s.storeOne o i v q).lat = s.lat := by
  obtain ⟨_, _, h⟩ := s.storeOne_eq o i v q; rw [h]
@[simp] theorem State.storeOne_sup (s : State) (o i : Nat) (v : Dword) (q : Nat) : (s.storeOne o i v q).sup = s.sup := by
  obtain ⟨_, _, h⟩ := s.storeOne_eq o i v q; rw [h]
@[simp] theorem State.storeOne_key (s : State) (o i : Nat) (v : Dword) (q : Nat) : (s.storeOne o i v q).key = s.key := by
  obtain ⟨_, _, h⟩ := s.storeOne_eq o i v q; rw [h]
@[simp] theorem State.storeOne_ten (s : State) (o i : Nat) (v : Dword) (q : Nat) : (s.storeOne o i v q).ten = s.ten := by
  obtain ⟨_, _, h⟩ := s.storeOne_eq o i v q; rw [h]
@[simp] theorem State.storeOne_tbs (s : State) (o i : Nat) (v : Dword) (q : Nat) : (s.storeOne o i v q).tbs = s.tbs := by
  obtain ⟨_, _, h⟩ := s.storeOne_eq o i v q; rw [h]
@[simp] theorem State.storeOne_fab (s : State) (o i : Nat) (v : Dword) (q : Nat) : (s.storeOne o i v q).fab = s.fab := by
  obtain ⟨_, _, h⟩ := s.storeOne_eq o i v q; rw [h]
@[simp] theorem State.storeOne_ntu (s : State) (o i : Nat) (v : Dword) (q : Nat) : (s.storeOne o i v q).ntu = s.ntu := by
  obtain ⟨_, _, h⟩ := s.storeOne_eq o i v q; rw [h]
@[simp] theorem State.storeOne_pse (s : State) (o i : Nat) (v : Dword) (q : Nat) : (s.storeOne o i v q).pse = s.pse := by
  obtain ⟨_, _, h⟩ := s.storeOne_eq o i v q; rw [h]
@[simp] theorem State.storeOne_arb (s : State) (o i : Nat) (v : Dword) (q : Nat) : (s.storeOne o i v q).arb = s.arb := by
  obtain ⟨_, _, h⟩ := s.storeOne_eq o i v q; rw [h]
@[simp] theorem State.storeOne_lcp (s : State) (o i : Nat) (v : Dword) (q : Nat) : (s.storeOne o i v q).lcp = s.lcp := by
  obtain ⟨_, _, h⟩ := s.storeOne_eq o i v q; rw [h]
@[simp] theorem State.storeOne_dio (s : State) (o i : Nat) (v : Dword) (q : Nat) : (s.storeOne o i v q).dio = s.dio := by
  obtain ⟨_, _, h⟩ := s.storeOne_eq o i v q; rw [h]
@[simp] theorem State.storeOne_scn (s : State) (o i : Nat) (v : Dword) (q : Nat) : (s.storeOne o i v q).scn = s.scn := by
  obtain ⟨_, _, h⟩ := s.storeOne_eq o i v q; rw [h]
@[simp] theorem State.storeOne_hlk (s : State) (o i : Nat) (v : Dword) (q : Nat) : (s.storeOne o i v q).hlk = s.hlk := by
  obtain ⟨_, _, h⟩ := s.storeOne_eq o i v q; rw [h]
@[simp] theorem State.storeOne_fbc (s : State) (o i : Nat) (v : Dword) (q : Nat) : (s.storeOne o i v q).fbc = s.fbc := by
  obtain ⟨_, _, h⟩ := s.storeOne_eq o i v q; rw [h]
@[simp] theorem State.storeOne_rtc (s : State) (o i : Nat) (v : Dword) (q : Nat) : (s.storeOne o i v q).rtc = s.rtc := by
  obtain ⟨_, _, h⟩ := s.storeOne_eq o i v q; rw [h]
@[simp] theorem State.storeOne_lpe (s : State) (o i : Nat) (v : Dword) (q : Nat) : (s.storeOne o i v q).lpe = s.lpe := by
  obtain ⟨_, _, h⟩ := s.storeOne_eq o i v q; rw [h]
@[simp] theorem State.storeOne_emu (s : State) (o i : Nat) (v : Dword) (q : Nat) : (s.storeOne o i v q).emu = s.emu := by
  obtain ⟨_, _, h⟩ := s.storeOne_eq o i v q; rw [h]
@[simp] theorem State.storeOne_sto (s : State) (o i : Nat) (v : Dword) (q : Nat) : (s.storeOne o i v q).sto = s.sto := by
  obtain ⟨_, _, h⟩ := s.storeOne_eq o i v q; rw [h]

@[simp] theorem State.storePoint_pending (s : State) (o i : Nat) (v : Dword) (q : Nat) : (s.storePoint o i v q).pending = s.pending := by
  obtain ⟨_, _, h⟩ := s.storePoint_eq o i v q; rw [h]
@[simp] theorem State.storePoint_late (s : State) (o i : Nat) (v : Dword) (q : Nat) : (s.storePoint o i v q).late = s.late := by
  obtain ⟨_, _, h⟩ := s.storePoint_eq o i v q; rw [h]
@[simp] theorem State.storePoint_coreWait (s : State) (o i : Nat) (v : Dword) (q : Nat) : (s.storePoint o i v q).coreWait = s.coreWait := by
  obtain ⟨_, _, h⟩ := s.storePoint_eq o i v q; rw [h]
@[simp] theorem State.storePoint_clk (s : State) (o i : Nat) (v : Dword) (q : Nat) : (s.storePoint o i v q).clk = s.clk := by
  obtain ⟨_, _, h⟩ := s.storePoint_eq o i v q; rw [h]
@[simp] theorem State.storePoint_free (s : State) (o i : Nat) (v : Dword) (q : Nat) : (s.storePoint o i v q).free = s.free := by
  obtain ⟨_, _, h⟩ := s.storePoint_eq o i v q; rw [h]
@[simp] theorem State.storePoint_out (s : State) (o i : Nat) (v : Dword) (q : Nat) : (s.storePoint o i v q).out = s.out := by
  obtain ⟨_, _, h⟩ := s.storePoint_eq o i v q; rw [h]
@[simp] theorem State.storePoint_regs (s : State) (o i : Nat) (v : Dword) (q : Nat) : (s.storePoint o i v q).regs = s.regs := by
  obtain ⟨_, _, h⟩ := s.storePoint_eq o i v q; rw [h]
@[simp] theorem State.storePoint_image (s : State) (o i : Nat) (v : Dword) (q : Nat) : (s.storePoint o i v q).image = s.image := by
  obtain ⟨_, _, h⟩ := s.storePoint_eq o i v q; rw [h]
@[simp] theorem State.storePoint_latch (s : State) (o i : Nat) (v : Dword) (q : Nat) : (s.storePoint o i v q).latch = s.latch := by
  obtain ⟨_, _, h⟩ := s.storePoint_eq o i v q; rw [h]
@[simp] theorem State.storePoint_loLatch (s : State) (o i : Nat) (v : Dword) (q : Nat) : (s.storePoint o i v q).loLatch = s.loLatch := by
  obtain ⟨_, _, h⟩ := s.storePoint_eq o i v q; rw [h]
@[simp] theorem State.storePoint_loPend (s : State) (o i : Nat) (v : Dword) (q : Nat) : (s.storePoint o i v q).loPend = s.loPend := by
  obtain ⟨_, _, h⟩ := s.storePoint_eq o i v q; rw [h]
@[simp] theorem State.storePoint_errDetail (s : State) (o i : Nat) (v : Dword) (q : Nat) : (s.storePoint o i v q).errDetail = s.errDetail := by
  obtain ⟨_, _, h⟩ := s.storePoint_eq o i v q; rw [h]
@[simp] theorem State.storePoint_claims (s : State) (o i : Nat) (v : Dword) (q : Nat) : (s.storePoint o i v q).claims = s.claims := by
  obtain ⟨_, _, h⟩ := s.storePoint_eq o i v q; rw [h]
@[simp] theorem State.storePoint_opt (s : State) (o i : Nat) (v : Dword) (q : Nat) : (s.storePoint o i v q).opt = s.opt := by
  obtain ⟨_, _, h⟩ := s.storePoint_eq o i v q; rw [h]
@[simp] theorem State.storePoint_hif (s : State) (o i : Nat) (v : Dword) (q : Nat) : (s.storePoint o i v q).hif = s.hif := by
  obtain ⟨_, _, h⟩ := s.storePoint_eq o i v q; rw [h]
@[simp] theorem State.storePoint_lat (s : State) (o i : Nat) (v : Dword) (q : Nat) : (s.storePoint o i v q).lat = s.lat := by
  obtain ⟨_, _, h⟩ := s.storePoint_eq o i v q; rw [h]
@[simp] theorem State.storePoint_sup (s : State) (o i : Nat) (v : Dword) (q : Nat) : (s.storePoint o i v q).sup = s.sup := by
  obtain ⟨_, _, h⟩ := s.storePoint_eq o i v q; rw [h]
@[simp] theorem State.storePoint_key (s : State) (o i : Nat) (v : Dword) (q : Nat) : (s.storePoint o i v q).key = s.key := by
  obtain ⟨_, _, h⟩ := s.storePoint_eq o i v q; rw [h]
@[simp] theorem State.storePoint_ten (s : State) (o i : Nat) (v : Dword) (q : Nat) : (s.storePoint o i v q).ten = s.ten := by
  obtain ⟨_, _, h⟩ := s.storePoint_eq o i v q; rw [h]
@[simp] theorem State.storePoint_tbs (s : State) (o i : Nat) (v : Dword) (q : Nat) : (s.storePoint o i v q).tbs = s.tbs := by
  obtain ⟨_, _, h⟩ := s.storePoint_eq o i v q; rw [h]
@[simp] theorem State.storePoint_fab (s : State) (o i : Nat) (v : Dword) (q : Nat) : (s.storePoint o i v q).fab = s.fab := by
  obtain ⟨_, _, h⟩ := s.storePoint_eq o i v q; rw [h]
@[simp] theorem State.storePoint_ntu (s : State) (o i : Nat) (v : Dword) (q : Nat) : (s.storePoint o i v q).ntu = s.ntu := by
  obtain ⟨_, _, h⟩ := s.storePoint_eq o i v q; rw [h]
@[simp] theorem State.storePoint_pse (s : State) (o i : Nat) (v : Dword) (q : Nat) : (s.storePoint o i v q).pse = s.pse := by
  obtain ⟨_, _, h⟩ := s.storePoint_eq o i v q; rw [h]
@[simp] theorem State.storePoint_arb (s : State) (o i : Nat) (v : Dword) (q : Nat) : (s.storePoint o i v q).arb = s.arb := by
  obtain ⟨_, _, h⟩ := s.storePoint_eq o i v q; rw [h]
@[simp] theorem State.storePoint_lcp (s : State) (o i : Nat) (v : Dword) (q : Nat) : (s.storePoint o i v q).lcp = s.lcp := by
  obtain ⟨_, _, h⟩ := s.storePoint_eq o i v q; rw [h]
@[simp] theorem State.storePoint_dio (s : State) (o i : Nat) (v : Dword) (q : Nat) : (s.storePoint o i v q).dio = s.dio := by
  obtain ⟨_, _, h⟩ := s.storePoint_eq o i v q; rw [h]
@[simp] theorem State.storePoint_scn (s : State) (o i : Nat) (v : Dword) (q : Nat) : (s.storePoint o i v q).scn = s.scn := by
  obtain ⟨_, _, h⟩ := s.storePoint_eq o i v q; rw [h]
@[simp] theorem State.storePoint_hlk (s : State) (o i : Nat) (v : Dword) (q : Nat) : (s.storePoint o i v q).hlk = s.hlk := by
  obtain ⟨_, _, h⟩ := s.storePoint_eq o i v q; rw [h]
@[simp] theorem State.storePoint_fbc (s : State) (o i : Nat) (v : Dword) (q : Nat) : (s.storePoint o i v q).fbc = s.fbc := by
  obtain ⟨_, _, h⟩ := s.storePoint_eq o i v q; rw [h]
@[simp] theorem State.storePoint_rtc (s : State) (o i : Nat) (v : Dword) (q : Nat) : (s.storePoint o i v q).rtc = s.rtc := by
  obtain ⟨_, _, h⟩ := s.storePoint_eq o i v q; rw [h]
@[simp] theorem State.storePoint_lpe (s : State) (o i : Nat) (v : Dword) (q : Nat) : (s.storePoint o i v q).lpe = s.lpe := by
  obtain ⟨_, _, h⟩ := s.storePoint_eq o i v q; rw [h]
@[simp] theorem State.storePoint_emu (s : State) (o i : Nat) (v : Dword) (q : Nat) : (s.storePoint o i v q).emu = s.emu := by
  obtain ⟨_, _, h⟩ := s.storePoint_eq o i v q; rw [h]
@[simp] theorem State.storePoint_sto (s : State) (o i : Nat) (v : Dword) (q : Nat) : (s.storePoint o i v q).sto = s.sto := by
  obtain ⟨_, _, h⟩ := s.storePoint_eq o i v q; rw [h]

@[simp] theorem State.setQuality_pending (s : State) (o i q : Nat) : (s.setQuality o i q).pending = s.pending := by
  obtain ⟨_, _, h⟩ := s.setQuality_eq o i q; rw [h]
@[simp] theorem State.setQuality_late (s : State) (o i q : Nat) : (s.setQuality o i q).late = s.late := by
  obtain ⟨_, _, h⟩ := s.setQuality_eq o i q; rw [h]
@[simp] theorem State.setQuality_coreWait (s : State) (o i q : Nat) : (s.setQuality o i q).coreWait = s.coreWait := by
  obtain ⟨_, _, h⟩ := s.setQuality_eq o i q; rw [h]
@[simp] theorem State.setQuality_clk (s : State) (o i q : Nat) : (s.setQuality o i q).clk = s.clk := by
  obtain ⟨_, _, h⟩ := s.setQuality_eq o i q; rw [h]
@[simp] theorem State.setQuality_free (s : State) (o i q : Nat) : (s.setQuality o i q).free = s.free := by
  obtain ⟨_, _, h⟩ := s.setQuality_eq o i q; rw [h]
@[simp] theorem State.setQuality_out (s : State) (o i q : Nat) : (s.setQuality o i q).out = s.out := by
  obtain ⟨_, _, h⟩ := s.setQuality_eq o i q; rw [h]
@[simp] theorem State.setQuality_regs (s : State) (o i q : Nat) : (s.setQuality o i q).regs = s.regs := by
  obtain ⟨_, _, h⟩ := s.setQuality_eq o i q; rw [h]
@[simp] theorem State.setQuality_image (s : State) (o i q : Nat) : (s.setQuality o i q).image = s.image := by
  obtain ⟨_, _, h⟩ := s.setQuality_eq o i q; rw [h]
@[simp] theorem State.setQuality_latch (s : State) (o i q : Nat) : (s.setQuality o i q).latch = s.latch := by
  obtain ⟨_, _, h⟩ := s.setQuality_eq o i q; rw [h]
@[simp] theorem State.setQuality_loLatch (s : State) (o i q : Nat) : (s.setQuality o i q).loLatch = s.loLatch := by
  obtain ⟨_, _, h⟩ := s.setQuality_eq o i q; rw [h]
@[simp] theorem State.setQuality_loPend (s : State) (o i q : Nat) : (s.setQuality o i q).loPend = s.loPend := by
  obtain ⟨_, _, h⟩ := s.setQuality_eq o i q; rw [h]
@[simp] theorem State.setQuality_errDetail (s : State) (o i q : Nat) : (s.setQuality o i q).errDetail = s.errDetail := by
  obtain ⟨_, _, h⟩ := s.setQuality_eq o i q; rw [h]
@[simp] theorem State.setQuality_claims (s : State) (o i q : Nat) : (s.setQuality o i q).claims = s.claims := by
  obtain ⟨_, _, h⟩ := s.setQuality_eq o i q; rw [h]
@[simp] theorem State.setQuality_opt (s : State) (o i q : Nat) : (s.setQuality o i q).opt = s.opt := by
  obtain ⟨_, _, h⟩ := s.setQuality_eq o i q; rw [h]
@[simp] theorem State.setQuality_hif (s : State) (o i q : Nat) : (s.setQuality o i q).hif = s.hif := by
  obtain ⟨_, _, h⟩ := s.setQuality_eq o i q; rw [h]
@[simp] theorem State.setQuality_lat (s : State) (o i q : Nat) : (s.setQuality o i q).lat = s.lat := by
  obtain ⟨_, _, h⟩ := s.setQuality_eq o i q; rw [h]
@[simp] theorem State.setQuality_sup (s : State) (o i q : Nat) : (s.setQuality o i q).sup = s.sup := by
  obtain ⟨_, _, h⟩ := s.setQuality_eq o i q; rw [h]
@[simp] theorem State.setQuality_key (s : State) (o i q : Nat) : (s.setQuality o i q).key = s.key := by
  obtain ⟨_, _, h⟩ := s.setQuality_eq o i q; rw [h]
@[simp] theorem State.setQuality_ten (s : State) (o i q : Nat) : (s.setQuality o i q).ten = s.ten := by
  obtain ⟨_, _, h⟩ := s.setQuality_eq o i q; rw [h]
@[simp] theorem State.setQuality_tbs (s : State) (o i q : Nat) : (s.setQuality o i q).tbs = s.tbs := by
  obtain ⟨_, _, h⟩ := s.setQuality_eq o i q; rw [h]
@[simp] theorem State.setQuality_fab (s : State) (o i q : Nat) : (s.setQuality o i q).fab = s.fab := by
  obtain ⟨_, _, h⟩ := s.setQuality_eq o i q; rw [h]
@[simp] theorem State.setQuality_ntu (s : State) (o i q : Nat) : (s.setQuality o i q).ntu = s.ntu := by
  obtain ⟨_, _, h⟩ := s.setQuality_eq o i q; rw [h]
@[simp] theorem State.setQuality_pse (s : State) (o i q : Nat) : (s.setQuality o i q).pse = s.pse := by
  obtain ⟨_, _, h⟩ := s.setQuality_eq o i q; rw [h]
@[simp] theorem State.setQuality_arb (s : State) (o i q : Nat) : (s.setQuality o i q).arb = s.arb := by
  obtain ⟨_, _, h⟩ := s.setQuality_eq o i q; rw [h]
@[simp] theorem State.setQuality_lcp (s : State) (o i q : Nat) : (s.setQuality o i q).lcp = s.lcp := by
  obtain ⟨_, _, h⟩ := s.setQuality_eq o i q; rw [h]
@[simp] theorem State.setQuality_dio (s : State) (o i q : Nat) : (s.setQuality o i q).dio = s.dio := by
  obtain ⟨_, _, h⟩ := s.setQuality_eq o i q; rw [h]
@[simp] theorem State.setQuality_scn (s : State) (o i q : Nat) : (s.setQuality o i q).scn = s.scn := by
  obtain ⟨_, _, h⟩ := s.setQuality_eq o i q; rw [h]
@[simp] theorem State.setQuality_hlk (s : State) (o i q : Nat) : (s.setQuality o i q).hlk = s.hlk := by
  obtain ⟨_, _, h⟩ := s.setQuality_eq o i q; rw [h]
@[simp] theorem State.setQuality_fbc (s : State) (o i q : Nat) : (s.setQuality o i q).fbc = s.fbc := by
  obtain ⟨_, _, h⟩ := s.setQuality_eq o i q; rw [h]
@[simp] theorem State.setQuality_rtc (s : State) (o i q : Nat) : (s.setQuality o i q).rtc = s.rtc := by
  obtain ⟨_, _, h⟩ := s.setQuality_eq o i q; rw [h]
@[simp] theorem State.setQuality_lpe (s : State) (o i q : Nat) : (s.setQuality o i q).lpe = s.lpe := by
  obtain ⟨_, _, h⟩ := s.setQuality_eq o i q; rw [h]
@[simp] theorem State.setQuality_emu (s : State) (o i q : Nat) : (s.setQuality o i q).emu = s.emu := by
  obtain ⟨_, _, h⟩ := s.setQuality_eq o i q; rw [h]
@[simp] theorem State.setQuality_sto (s : State) (o i q : Nat) : (s.setQuality o i q).sto = s.sto := by
  obtain ⟨_, _, h⟩ := s.setQuality_eq o i q; rw [h]

@[simp] theorem State.pubPoint_pending (s : State) (baseReg k : Nat) (v : Dword) (q : Nat) : (s.pubPoint baseReg k v q).pending = s.pending := by
  obtain ⟨_, _, h⟩ := s.pubPoint_eq baseReg k v q; rw [h]
@[simp] theorem State.pubPoint_late (s : State) (baseReg k : Nat) (v : Dword) (q : Nat) : (s.pubPoint baseReg k v q).late = s.late := by
  obtain ⟨_, _, h⟩ := s.pubPoint_eq baseReg k v q; rw [h]
@[simp] theorem State.pubPoint_coreWait (s : State) (baseReg k : Nat) (v : Dword) (q : Nat) : (s.pubPoint baseReg k v q).coreWait = s.coreWait := by
  obtain ⟨_, _, h⟩ := s.pubPoint_eq baseReg k v q; rw [h]
@[simp] theorem State.pubPoint_clk (s : State) (baseReg k : Nat) (v : Dword) (q : Nat) : (s.pubPoint baseReg k v q).clk = s.clk := by
  obtain ⟨_, _, h⟩ := s.pubPoint_eq baseReg k v q; rw [h]
@[simp] theorem State.pubPoint_free (s : State) (baseReg k : Nat) (v : Dword) (q : Nat) : (s.pubPoint baseReg k v q).free = s.free := by
  obtain ⟨_, _, h⟩ := s.pubPoint_eq baseReg k v q; rw [h]
@[simp] theorem State.pubPoint_out (s : State) (baseReg k : Nat) (v : Dword) (q : Nat) : (s.pubPoint baseReg k v q).out = s.out := by
  obtain ⟨_, _, h⟩ := s.pubPoint_eq baseReg k v q; rw [h]
@[simp] theorem State.pubPoint_regs (s : State) (baseReg k : Nat) (v : Dword) (q : Nat) : (s.pubPoint baseReg k v q).regs = s.regs := by
  obtain ⟨_, _, h⟩ := s.pubPoint_eq baseReg k v q; rw [h]
@[simp] theorem State.pubPoint_image (s : State) (baseReg k : Nat) (v : Dword) (q : Nat) : (s.pubPoint baseReg k v q).image = s.image := by
  obtain ⟨_, _, h⟩ := s.pubPoint_eq baseReg k v q; rw [h]
@[simp] theorem State.pubPoint_latch (s : State) (baseReg k : Nat) (v : Dword) (q : Nat) : (s.pubPoint baseReg k v q).latch = s.latch := by
  obtain ⟨_, _, h⟩ := s.pubPoint_eq baseReg k v q; rw [h]
@[simp] theorem State.pubPoint_loLatch (s : State) (baseReg k : Nat) (v : Dword) (q : Nat) : (s.pubPoint baseReg k v q).loLatch = s.loLatch := by
  obtain ⟨_, _, h⟩ := s.pubPoint_eq baseReg k v q; rw [h]
@[simp] theorem State.pubPoint_loPend (s : State) (baseReg k : Nat) (v : Dword) (q : Nat) : (s.pubPoint baseReg k v q).loPend = s.loPend := by
  obtain ⟨_, _, h⟩ := s.pubPoint_eq baseReg k v q; rw [h]
@[simp] theorem State.pubPoint_errDetail (s : State) (baseReg k : Nat) (v : Dword) (q : Nat) : (s.pubPoint baseReg k v q).errDetail = s.errDetail := by
  obtain ⟨_, _, h⟩ := s.pubPoint_eq baseReg k v q; rw [h]
@[simp] theorem State.pubPoint_claims (s : State) (baseReg k : Nat) (v : Dword) (q : Nat) : (s.pubPoint baseReg k v q).claims = s.claims := by
  obtain ⟨_, _, h⟩ := s.pubPoint_eq baseReg k v q; rw [h]
@[simp] theorem State.pubPoint_opt (s : State) (baseReg k : Nat) (v : Dword) (q : Nat) : (s.pubPoint baseReg k v q).opt = s.opt := by
  obtain ⟨_, _, h⟩ := s.pubPoint_eq baseReg k v q; rw [h]
@[simp] theorem State.pubPoint_hif (s : State) (baseReg k : Nat) (v : Dword) (q : Nat) : (s.pubPoint baseReg k v q).hif = s.hif := by
  obtain ⟨_, _, h⟩ := s.pubPoint_eq baseReg k v q; rw [h]
@[simp] theorem State.pubPoint_lat (s : State) (baseReg k : Nat) (v : Dword) (q : Nat) : (s.pubPoint baseReg k v q).lat = s.lat := by
  obtain ⟨_, _, h⟩ := s.pubPoint_eq baseReg k v q; rw [h]
@[simp] theorem State.pubPoint_sup (s : State) (baseReg k : Nat) (v : Dword) (q : Nat) : (s.pubPoint baseReg k v q).sup = s.sup := by
  obtain ⟨_, _, h⟩ := s.pubPoint_eq baseReg k v q; rw [h]
@[simp] theorem State.pubPoint_key (s : State) (baseReg k : Nat) (v : Dword) (q : Nat) : (s.pubPoint baseReg k v q).key = s.key := by
  obtain ⟨_, _, h⟩ := s.pubPoint_eq baseReg k v q; rw [h]
@[simp] theorem State.pubPoint_ten (s : State) (baseReg k : Nat) (v : Dword) (q : Nat) : (s.pubPoint baseReg k v q).ten = s.ten := by
  obtain ⟨_, _, h⟩ := s.pubPoint_eq baseReg k v q; rw [h]
@[simp] theorem State.pubPoint_tbs (s : State) (baseReg k : Nat) (v : Dword) (q : Nat) : (s.pubPoint baseReg k v q).tbs = s.tbs := by
  obtain ⟨_, _, h⟩ := s.pubPoint_eq baseReg k v q; rw [h]
@[simp] theorem State.pubPoint_fab (s : State) (baseReg k : Nat) (v : Dword) (q : Nat) : (s.pubPoint baseReg k v q).fab = s.fab := by
  obtain ⟨_, _, h⟩ := s.pubPoint_eq baseReg k v q; rw [h]
@[simp] theorem State.pubPoint_ntu (s : State) (baseReg k : Nat) (v : Dword) (q : Nat) : (s.pubPoint baseReg k v q).ntu = s.ntu := by
  obtain ⟨_, _, h⟩ := s.pubPoint_eq baseReg k v q; rw [h]
@[simp] theorem State.pubPoint_pse (s : State) (baseReg k : Nat) (v : Dword) (q : Nat) : (s.pubPoint baseReg k v q).pse = s.pse := by
  obtain ⟨_, _, h⟩ := s.pubPoint_eq baseReg k v q; rw [h]
@[simp] theorem State.pubPoint_arb (s : State) (baseReg k : Nat) (v : Dword) (q : Nat) : (s.pubPoint baseReg k v q).arb = s.arb := by
  obtain ⟨_, _, h⟩ := s.pubPoint_eq baseReg k v q; rw [h]
@[simp] theorem State.pubPoint_lcp (s : State) (baseReg k : Nat) (v : Dword) (q : Nat) : (s.pubPoint baseReg k v q).lcp = s.lcp := by
  obtain ⟨_, _, h⟩ := s.pubPoint_eq baseReg k v q; rw [h]
@[simp] theorem State.pubPoint_dio (s : State) (baseReg k : Nat) (v : Dword) (q : Nat) : (s.pubPoint baseReg k v q).dio = s.dio := by
  obtain ⟨_, _, h⟩ := s.pubPoint_eq baseReg k v q; rw [h]
@[simp] theorem State.pubPoint_scn (s : State) (baseReg k : Nat) (v : Dword) (q : Nat) : (s.pubPoint baseReg k v q).scn = s.scn := by
  obtain ⟨_, _, h⟩ := s.pubPoint_eq baseReg k v q; rw [h]
@[simp] theorem State.pubPoint_hlk (s : State) (baseReg k : Nat) (v : Dword) (q : Nat) : (s.pubPoint baseReg k v q).hlk = s.hlk := by
  obtain ⟨_, _, h⟩ := s.pubPoint_eq baseReg k v q; rw [h]
@[simp] theorem State.pubPoint_fbc (s : State) (baseReg k : Nat) (v : Dword) (q : Nat) : (s.pubPoint baseReg k v q).fbc = s.fbc := by
  obtain ⟨_, _, h⟩ := s.pubPoint_eq baseReg k v q; rw [h]
@[simp] theorem State.pubPoint_rtc (s : State) (baseReg k : Nat) (v : Dword) (q : Nat) : (s.pubPoint baseReg k v q).rtc = s.rtc := by
  obtain ⟨_, _, h⟩ := s.pubPoint_eq baseReg k v q; rw [h]
@[simp] theorem State.pubPoint_lpe (s : State) (baseReg k : Nat) (v : Dword) (q : Nat) : (s.pubPoint baseReg k v q).lpe = s.lpe := by
  obtain ⟨_, _, h⟩ := s.pubPoint_eq baseReg k v q; rw [h]
@[simp] theorem State.pubPoint_emu (s : State) (baseReg k : Nat) (v : Dword) (q : Nat) : (s.pubPoint baseReg k v q).emu = s.emu := by
  obtain ⟨_, _, h⟩ := s.pubPoint_eq baseReg k v q; rw [h]
@[simp] theorem State.pubPoint_sto (s : State) (baseReg k : Nat) (v : Dword) (q : Nat) : (s.pubPoint baseReg k v q).sto = s.sto := by
  obtain ⟨_, _, h⟩ := s.pubPoint_eq baseReg k v q; rw [h]

@[simp] theorem State.pubQuality_pending (s : State) (baseReg k q : Nat) : (s.pubQuality baseReg k q).pending = s.pending := by
  obtain ⟨_, _, h⟩ := s.pubQuality_eq baseReg k q; rw [h]
@[simp] theorem State.pubQuality_late (s : State) (baseReg k q : Nat) : (s.pubQuality baseReg k q).late = s.late := by
  obtain ⟨_, _, h⟩ := s.pubQuality_eq baseReg k q; rw [h]
@[simp] theorem State.pubQuality_coreWait (s : State) (baseReg k q : Nat) : (s.pubQuality baseReg k q).coreWait = s.coreWait := by
  obtain ⟨_, _, h⟩ := s.pubQuality_eq baseReg k q; rw [h]
@[simp] theorem State.pubQuality_clk (s : State) (baseReg k q : Nat) : (s.pubQuality baseReg k q).clk = s.clk := by
  obtain ⟨_, _, h⟩ := s.pubQuality_eq baseReg k q; rw [h]
@[simp] theorem State.pubQuality_free (s : State) (baseReg k q : Nat) : (s.pubQuality baseReg k q).free = s.free := by
  obtain ⟨_, _, h⟩ := s.pubQuality_eq baseReg k q; rw [h]
@[simp] theorem State.pubQuality_out (s : State) (baseReg k q : Nat) : (s.pubQuality baseReg k q).out = s.out := by
  obtain ⟨_, _, h⟩ := s.pubQuality_eq baseReg k q; rw [h]
@[simp] theorem State.pubQuality_regs (s : State) (baseReg k q : Nat) : (s.pubQuality baseReg k q).regs = s.regs := by
  obtain ⟨_, _, h⟩ := s.pubQuality_eq baseReg k q; rw [h]
@[simp] theorem State.pubQuality_image (s : State) (baseReg k q : Nat) : (s.pubQuality baseReg k q).image = s.image := by
  obtain ⟨_, _, h⟩ := s.pubQuality_eq baseReg k q; rw [h]
@[simp] theorem State.pubQuality_latch (s : State) (baseReg k q : Nat) : (s.pubQuality baseReg k q).latch = s.latch := by
  obtain ⟨_, _, h⟩ := s.pubQuality_eq baseReg k q; rw [h]
@[simp] theorem State.pubQuality_loLatch (s : State) (baseReg k q : Nat) : (s.pubQuality baseReg k q).loLatch = s.loLatch := by
  obtain ⟨_, _, h⟩ := s.pubQuality_eq baseReg k q; rw [h]
@[simp] theorem State.pubQuality_loPend (s : State) (baseReg k q : Nat) : (s.pubQuality baseReg k q).loPend = s.loPend := by
  obtain ⟨_, _, h⟩ := s.pubQuality_eq baseReg k q; rw [h]
@[simp] theorem State.pubQuality_errDetail (s : State) (baseReg k q : Nat) : (s.pubQuality baseReg k q).errDetail = s.errDetail := by
  obtain ⟨_, _, h⟩ := s.pubQuality_eq baseReg k q; rw [h]
@[simp] theorem State.pubQuality_claims (s : State) (baseReg k q : Nat) : (s.pubQuality baseReg k q).claims = s.claims := by
  obtain ⟨_, _, h⟩ := s.pubQuality_eq baseReg k q; rw [h]
@[simp] theorem State.pubQuality_opt (s : State) (baseReg k q : Nat) : (s.pubQuality baseReg k q).opt = s.opt := by
  obtain ⟨_, _, h⟩ := s.pubQuality_eq baseReg k q; rw [h]
@[simp] theorem State.pubQuality_hif (s : State) (baseReg k q : Nat) : (s.pubQuality baseReg k q).hif = s.hif := by
  obtain ⟨_, _, h⟩ := s.pubQuality_eq baseReg k q; rw [h]
@[simp] theorem State.pubQuality_lat (s : State) (baseReg k q : Nat) : (s.pubQuality baseReg k q).lat = s.lat := by
  obtain ⟨_, _, h⟩ := s.pubQuality_eq baseReg k q; rw [h]
@[simp] theorem State.pubQuality_sup (s : State) (baseReg k q : Nat) : (s.pubQuality baseReg k q).sup = s.sup := by
  obtain ⟨_, _, h⟩ := s.pubQuality_eq baseReg k q; rw [h]
@[simp] theorem State.pubQuality_key (s : State) (baseReg k q : Nat) : (s.pubQuality baseReg k q).key = s.key := by
  obtain ⟨_, _, h⟩ := s.pubQuality_eq baseReg k q; rw [h]
@[simp] theorem State.pubQuality_ten (s : State) (baseReg k q : Nat) : (s.pubQuality baseReg k q).ten = s.ten := by
  obtain ⟨_, _, h⟩ := s.pubQuality_eq baseReg k q; rw [h]
@[simp] theorem State.pubQuality_tbs (s : State) (baseReg k q : Nat) : (s.pubQuality baseReg k q).tbs = s.tbs := by
  obtain ⟨_, _, h⟩ := s.pubQuality_eq baseReg k q; rw [h]
@[simp] theorem State.pubQuality_fab (s : State) (baseReg k q : Nat) : (s.pubQuality baseReg k q).fab = s.fab := by
  obtain ⟨_, _, h⟩ := s.pubQuality_eq baseReg k q; rw [h]
@[simp] theorem State.pubQuality_ntu (s : State) (baseReg k q : Nat) : (s.pubQuality baseReg k q).ntu = s.ntu := by
  obtain ⟨_, _, h⟩ := s.pubQuality_eq baseReg k q; rw [h]
@[simp] theorem State.pubQuality_pse (s : State) (baseReg k q : Nat) : (s.pubQuality baseReg k q).pse = s.pse := by
  obtain ⟨_, _, h⟩ := s.pubQuality_eq baseReg k q; rw [h]
@[simp] theorem State.pubQuality_arb (s : State) (baseReg k q : Nat) : (s.pubQuality baseReg k q).arb = s.arb := by
  obtain ⟨_, _, h⟩ := s.pubQuality_eq baseReg k q; rw [h]
@[simp] theorem State.pubQuality_lcp (s : State) (baseReg k q : Nat) : (s.pubQuality baseReg k q).lcp = s.lcp := by
  obtain ⟨_, _, h⟩ := s.pubQuality_eq baseReg k q; rw [h]
@[simp] theorem State.pubQuality_dio (s : State) (baseReg k q : Nat) : (s.pubQuality baseReg k q).dio = s.dio := by
  obtain ⟨_, _, h⟩ := s.pubQuality_eq baseReg k q; rw [h]
@[simp] theorem State.pubQuality_scn (s : State) (baseReg k q : Nat) : (s.pubQuality baseReg k q).scn = s.scn := by
  obtain ⟨_, _, h⟩ := s.pubQuality_eq baseReg k q; rw [h]
@[simp] theorem State.pubQuality_hlk (s : State) (baseReg k q : Nat) : (s.pubQuality baseReg k q).hlk = s.hlk := by
  obtain ⟨_, _, h⟩ := s.pubQuality_eq baseReg k q; rw [h]
@[simp] theorem State.pubQuality_fbc (s : State) (baseReg k q : Nat) : (s.pubQuality baseReg k q).fbc = s.fbc := by
  obtain ⟨_, _, h⟩ := s.pubQuality_eq baseReg k q; rw [h]
@[simp] theorem State.pubQuality_rtc (s : State) (baseReg k q : Nat) : (s.pubQuality baseReg k q).rtc = s.rtc := by
  obtain ⟨_, _, h⟩ := s.pubQuality_eq baseReg k q; rw [h]
@[simp] theorem State.pubQuality_lpe (s : State) (baseReg k q : Nat) : (s.pubQuality baseReg k q).lpe = s.lpe := by
  obtain ⟨_, _, h⟩ := s.pubQuality_eq baseReg k q; rw [h]
@[simp] theorem State.pubQuality_emu (s : State) (baseReg k q : Nat) : (s.pubQuality baseReg k q).emu = s.emu := by
  obtain ⟨_, _, h⟩ := s.pubQuality_eq baseReg k q; rw [h]
@[simp] theorem State.pubQuality_sto (s : State) (baseReg k q : Nat) : (s.pubQuality baseReg k q).sto = s.sto := by
  obtain ⟨_, _, h⟩ := s.pubQuality_eq baseReg k q; rw [h]

@[simp] theorem State.setPeer_pending (s : State) (m : Nat) (p : Peer) : (s.setPeer m p).pending = s.pending := rfl
@[simp] theorem State.setPeer_late (s : State) (m : Nat) (p : Peer) : (s.setPeer m p).late = s.late := rfl
@[simp] theorem State.setPeer_coreWait (s : State) (m : Nat) (p : Peer) : (s.setPeer m p).coreWait = s.coreWait := rfl
@[simp] theorem State.setPeer_clk (s : State) (m : Nat) (p : Peer) : (s.setPeer m p).clk = s.clk := rfl
@[simp] theorem State.setPeer_free (s : State) (m : Nat) (p : Peer) : (s.setPeer m p).free = s.free := rfl
@[simp] theorem State.setPeer_out (s : State) (m : Nat) (p : Peer) : (s.setPeer m p).out = s.out := rfl
@[simp] theorem State.setPeer_image (s : State) (m : Nat) (p : Peer) : (s.setPeer m p).image = s.image := rfl
@[simp] theorem State.setPeer_latch (s : State) (m : Nat) (p : Peer) : (s.setPeer m p).latch = s.latch := rfl
@[simp] theorem State.setPeer_loLatch (s : State) (m : Nat) (p : Peer) : (s.setPeer m p).loLatch = s.loLatch := rfl
@[simp] theorem State.setPeer_loPend (s : State) (m : Nat) (p : Peer) : (s.setPeer m p).loPend = s.loPend := rfl
@[simp] theorem State.setPeer_errDetail (s : State) (m : Nat) (p : Peer) : (s.setPeer m p).errDetail = s.errDetail := rfl
@[simp] theorem State.setPeer_claims (s : State) (m : Nat) (p : Peer) : (s.setPeer m p).claims = s.claims := rfl
@[simp] theorem State.setPeer_points (s : State) (m : Nat) (p : Peer) : (s.setPeer m p).points = s.points := rfl
@[simp] theorem State.setPeer_notes (s : State) (m : Nat) (p : Peer) : (s.setPeer m p).notes = s.notes := rfl
@[simp] theorem State.setPeer_opt (s : State) (m : Nat) (p : Peer) : (s.setPeer m p).opt = s.opt := rfl
@[simp] theorem State.setPeer_hif (s : State) (m : Nat) (p : Peer) : (s.setPeer m p).hif = s.hif := rfl
@[simp] theorem State.setPeer_lat (s : State) (m : Nat) (p : Peer) : (s.setPeer m p).lat = s.lat := rfl
@[simp] theorem State.setPeer_sup (s : State) (m : Nat) (p : Peer) : (s.setPeer m p).sup = s.sup := rfl
@[simp] theorem State.setPeer_key (s : State) (m : Nat) (p : Peer) : (s.setPeer m p).key = s.key := rfl
@[simp] theorem State.setPeer_ten (s : State) (m : Nat) (p : Peer) : (s.setPeer m p).ten = s.ten := rfl
@[simp] theorem State.setPeer_tbs (s : State) (m : Nat) (p : Peer) : (s.setPeer m p).tbs = s.tbs := rfl
@[simp] theorem State.setPeer_fab (s : State) (m : Nat) (p : Peer) : (s.setPeer m p).fab = s.fab := rfl
@[simp] theorem State.setPeer_ntu (s : State) (m : Nat) (p : Peer) : (s.setPeer m p).ntu = s.ntu := rfl
@[simp] theorem State.setPeer_pse (s : State) (m : Nat) (p : Peer) : (s.setPeer m p).pse = s.pse := rfl
@[simp] theorem State.setPeer_arb (s : State) (m : Nat) (p : Peer) : (s.setPeer m p).arb = s.arb := rfl
@[simp] theorem State.setPeer_lcp (s : State) (m : Nat) (p : Peer) : (s.setPeer m p).lcp = s.lcp := rfl
@[simp] theorem State.setPeer_dio (s : State) (m : Nat) (p : Peer) : (s.setPeer m p).dio = s.dio := rfl
@[simp] theorem State.setPeer_scn (s : State) (m : Nat) (p : Peer) : (s.setPeer m p).scn = s.scn := rfl
@[simp] theorem State.setPeer_fbc (s : State) (m : Nat) (p : Peer) : (s.setPeer m p).fbc = s.fbc := rfl
@[simp] theorem State.setPeer_rtc (s : State) (m : Nat) (p : Peer) : (s.setPeer m p).rtc = s.rtc := rfl
@[simp] theorem State.setPeer_lpe (s : State) (m : Nat) (p : Peer) : (s.setPeer m p).lpe = s.lpe := rfl
@[simp] theorem State.setPeer_emu (s : State) (m : Nat) (p : Peer) : (s.setPeer m p).emu = s.emu := rfl
@[simp] theorem State.setPeer_sto (s : State) (m : Nat) (p : Peer) : (s.setPeer m p).sto = s.sto := rfl

/-! ### Registers -/

/-- Beside a block's IRQ_STAT and the pending bits an event changes no register (R41, R46). -/
theorem State.raiseIrq_reg_other (s : State) (b bit off : Nat) (h0 : Reg.IRQ_STAT b ≠ off) (h1 : Reg.MSIX_PBA 0 ≠ off)
    (h2 : Reg.MSIX_PBA 1 ≠ off) : (s.raiseIrq b bit).reg off = s.reg off := by
  have key : ∀ v : Nat, v < 64 → Reg.MSIX_PBA (v / 32) ≠ off := by
    intro v hv
    rcases (show v / 32 = 0 ∨ v / 32 = 1 by omega) with h | h <;> rw [h]
    · exact h1
    · exact h2
  have hv : ∀ a : State, a.fld (Reg.HIF_BLKVEC b) 0 6 < 64 := fun a => bitsOf_lt _ 0 6
  unfold State.raiseIrq State.irqEdge State.signalVector
  split
  · split
    · exact State.setFlag_reg_other _ _ _ _ _ h0
    · rw [State.setFlag_reg_other _ _ _ _ _ (key _ (hv _))]
      exact State.setFlag_reg_other _ _ _ _ _ h0
  · exact State.setFlag_reg_other _ _ _ _ _ h0

/-- Beside ERR_CODE and what its event changes an error changes no register (R42). -/
theorem State.reportErr_reg_other (s : State) (b code off : Nat) (d : Word) (he : Reg.ERR_CODE b ≠ off)
    (h0 : Reg.IRQ_STAT b ≠ off) (h1 : Reg.MSIX_PBA 0 ≠ off) (h2 : Reg.MSIX_PBA 1 ≠ off) :
    (s.reportErr b code d).reg off = s.reg off := by
  unfold State.reportErr
  simp only
  rw [State.raiseIrq_reg_other _ b 0 off h0 h1 h2]
  refine (State.reg_congr ((s.setFld (Reg.ERR_CODE b) 0 8 code).satInc (Reg.ERR_CODE b) 8 8 1) _ rfl off).trans ?_
  rw [State.satInc_reg_other _ _ _ _ _ _ he, State.setFld_reg_other _ _ _ _ _ _ he]

/-! ### Ends of operations that this module asked for -/

/-- Without another module that waits for it, the end of an ACTIVE operation is a record of OPT, SCN and STO. -/
theorem State.decideOp_own (s : State) (t status : Nat) (result : Word) (h : (s.slot t).st = .active)
    (hs : tfind? s.hlk.serving t = none) : s.decideOp t status result = s.decidedOwn t status result := by
  unfold State.decideOp State.answerRemote
  simp only [h, if_true]
  simp only [hs, State.recordSlot, State.setSlot]
  rfl

/-- What an active operation of a block is. -/
theorem State.activeOp_some (s : State) (t b o : Nat) (x : Slot) (h : s.activeOp t b o = some x) :
    x = s.slot t ∧ x.st = .active ∧ x.block = b ∧ x.opcode = o ∧ s.coreServes b o = true := by
  unfold State.activeOp at h
  simp only at h
  split at h
  · next hc => cases h; exact ⟨rfl, hc.1, hc.2.1, hc.2.2.1, hc.2.2.2⟩
  · cases h

end Sys2Proof.Machine
end

