-- ==== Sys2Proof/WellFormed.lean ====
section
/-! DEFINITION. Which commands are well formed: every operand within what the module has of its kind (512 tags, 48 ports, 768
luminaire entries, and so on). The meanings do not rest on it: an event of a unit that does not exist changes nothing. -/

namespace Sys2Proof

/-- A command whose operands name what the module has. -/
def Instr.wf (i : Instr) : Bool :=
  match i with
  | .regWrite _ off _ => decide (off < 0x2000000)
  | .rcRead _ off => decide (off < 0x2000000)
  | .hiLatchRead _ off => decide (off < 0x2000000)
  | .entryLatchRead _ off => decide (off < 0x2000000)
  | .errCodeRead _ block => decide (block < 32)
  | .irqStatClear _ block _ _ => decide (block < 32)
  | .irqForce _ block _ => decide (block < 32)
  | .ctrlEn _ block _ => decide (block < 32)
  | .srst _ block => decide (block < 32)
  | .softResetComplete block => decide (block < 32)
  | .unmappedAccess _ off _ => decide (off < 0x2000000)
  | .longReadAbort _ => true
  | .atomicOp => true
  | .pcieReset => true
  | .spiRead off _ _ => decide (off < 0x2000000)
  | .spiWrite off _ _ => decide (off < 0x2000000)
  | .spiStatus => true
  | .spiIdent => true
  | .spiLock _ _ => true
  | .mboxGo _ _ => true
  | .sqDoorbell _ ring _ => decide (ring < 8)
  | .sqEnable _ ring _ => decide (ring < 8)
  | .cqEnable _ queue _ => decide (queue < 8)
  | .cqHeadWrite _ queue _ => decide (queue < 8)
  | .descriptorFetch _ => true
  | .tagWaitRelease => true
  | .opTimeout tag => decide (tag < 512)
  | .completionWrite route => decide (route < 10)
  | .completionAcked tag => decide (tag < 512)
  | .cqCoalTimeout queue => decide (queue < 8)
  | .hifFence _ => true
  | .hifFenceRead _ => true
  | .cancel tag => decide (tag < 512)
  | .query tag => decide (tag < 512)
  | .lostRelease _ _ => true
  | .lostReportWrite => true
  | .benchmarkCrossing => true
  | .counterCrossStamp => true
  | .refLoss => true
  | .timebaseNoRef => true
  | .acquireTimeout => true
  | .holdoverEnd => true
  | .stakeSet tag => decide (tag < 512)
  | .stakeModify tag => decide (tag < 512)
  | .stakeClear tag => decide (tag < 512)
  | .stakeClearOwner tag => decide (tag < 512)
  | .stakeEditDurable tag => decide (tag < 512)
  | .stakeFire => true
  | .stakeActionAck tag => decide (tag < 512)
  | .zxEdge channel => decide (channel < 24)
  | .zxOutPulse => true
  | .portDetect port => decide (port < 48)
  | .detectionDone port _ => decide (port < 48)
  | .classifyDone port _ _ _ _ _ _ => decide (port < 48)
  | .staggerSlot => true
  | .inrushEnd port _ => decide (port < 48)
  | .autoclassMeasure port _ => decide (port < 48)
  | .fastCut port pairset => decide (port < 48) && decide (1 ≤ pairset) && decide (pairset ≤ 3)
  | .overloadCut port pairset => decide (port < 48) && decide (1 ≤ pairset) && decide (pairset ≤ 3)
  | .limitCut port pairset => decide (port < 48) && decide (1 ≤ pairset) && decide (pairset ≤ 3)
  | .mpsLoss port pairset => decide (port < 48) && decide (1 ≤ pairset) && decide (pairset ≤ 3)
  | .errDelayEnd port => decide (port < 48)
  | .vpseHold _ => true
  | .vpseHoldEnd _ => true
  | .vpseUvCut _ => true
  | .vpseOvCut _ => true
  | .vpseRev => true
  | .vpseResume _ => true
  | .dieTemp die _ => decide (die < 6)
  | .pseSample _ _ => true
  | .adoptionRecordWrite port => decide (port < 48)
  | .dieAutonomous die => decide (die < 6)
  | .portOn tag => decide (tag < 512)
  | .portOff tag => decide (tag < 512)
  | .portCycle tag => decide (tag < 512)
  | .portCycleOffEnd port => decide (port < 48)
  | .portClearLock tag => decide (tag < 512)
  | .portEnWrite _ port _ => decide (port < 48)
  | .grantEvaluation => true
  | .capChoose => true
  | .softTimeout pool => decide (pool < 2)
  | .hardRecheck pool => decide (pool < 2)
  | .lookaheadEntry index _ => decide (index < 4096)
  | .stakePrice => true
  | .resvRetry => true
  | .outerCheck => true
  | .outerMismatch => true
  | .outerClear => true
  | .setLimit tag => decide (tag < 512)
  | .price tag => decide (tag < 512)
  | .commandForm => true
  | .discoverTick port => decide (port < 48)
  | .announce a => decide (a.head.port < 48) && decide (a.head.mac < 2 ^ 48)
  | .accept port _ mac _ _ => decide (port < 48) && decide (mac < 2 ^ 48)
  | .status r => decide (r.head.port < 48) && decide (r.head.mac < 2 ^ 48)
  | .lcpFrameDrop => true
  | .acceptTimeout entry _ => decide (entry < 768)
  | .bindingTimeout entry => decide (entry < 768)
  | .statusReqTimer tag => decide (tag < 512)
  | .luminaireLoss entry => decide (entry < 768)
  | .keepaliveTick entry => decide (entry < 768)
  | .level tag => decide (tag < 512)
  | .recall tag => decide (tag < 512)
  | .override tag => decide (tag < 512)
  | .identify tag => decide (tag < 512)
  | .rediscover tag => decide (tag < 512)
  | .sceneWrite tag => decide (tag < 512)
  | .taskStartTick task => decide (task < 16)
  | .taskDispatch => true
  | .epochRelease task => decide (task < 16)
  | .scnNop lane => decide (lane < 4)
  | .scnEnd lane => decide (lane < 4)
  | .scnTst lane => decide (lane < 4)
  | .scnTstn lane => decide (lane < 4)
  | .scnAnd lane => decide (lane < 4)
  | .scnAndn lane => decide (lane < 4)
  | .scnOr lane => decide (lane < 4)
  | .scnOrn lane => decide (lane < 4)
  | .scnXor lane => decide (lane < 4)
  | .scnXorn lane => decide (lane < 4)
  | .scnAndg lane => decide (lane < 4)
  | .scnOrg lane => decide (lane < 4)
  | .scnSt lane => decide (lane < 4)
  | .scnSts lane => decide (lane < 4)
  | .scnStr lane => decide (lane < 4)
  | .scnNot lane => decide (lane < 4)
  | .scnSetc lane => decide (lane < 4)
  | .scnClrc lane => decide (lane < 4)
  | .scnPshc lane => decide (lane < 4)
  | .scnAnds lane => decide (lane < 4)
  | .scnOrs lane => decide (lane < 4)
  | .scnXors lane => decide (lane < 4)
  | .scnCben lane => decide (lane < 4)
  | .scnAnde lane => decide (lane < 4)
  | .scnLb lane => decide (lane < 4)
  | .scnLh lane => decide (lane < 4)
  | .scnLw lane => decide (lane < 4)
  | .scnLd lane => decide (lane < 4)
  | .scnTb lane => decide (lane < 4)
  | .scnTh lane => decide (lane < 4)
  | .scnTw lane => decide (lane < 4)
  | .scnTd lane => decide (lane < 4)
  | .scnLa lane => decide (lane < 4)
  | .scnLdp lane => decide (lane < 4)
  | .scnStp lane => decide (lane < 4)
  | .scnLdpd lane => decide (lane < 4)
  | .scnStpd lane => decide (lane < 4)
  | .scnStpb lane => decide (lane < 4)
  | .scnAndp lane => decide (lane < 4)
  | .scnLdi lane => decide (lane < 4)
  | .scnAddk lane => decide (lane < 4)
  | .scnLxri lane => decide (lane < 4)
  | .scnLxr lane => decide (lane < 4)
  | .scnTxr lane => decide (lane < 4)
  | .scnXra lane => decide (lane < 4)
  | .scnAxr lane => decide (lane < 4)
  | .scnAdd lane => decide (lane < 4)
  | .scnSub lane => decide (lane < 4)
  | .scnMul lane => decide (lane < 4)
  | .scnDiv lane => decide (lane < 4)
  | .scnMod lane => decide (lane < 4)
  | .scnNeg lane => decide (lane < 4)
  | .scnAbs lane => decide (lane < 4)
  | .scnAddr lane => decide (lane < 4)
  | .scnSubr lane => decide (lane < 4)
  | .scnMulr lane => decide (lane < 4)
  | .scnDivr lane => decide (lane < 4)
  | .scnNegr lane => decide (lane < 4)
  | .scnAbsr lane => decide (lane < 4)
  | .scnSqrt lane => decide (lane < 4)
  | .scnAddq lane => decide (lane < 4)
  | .scnSubq lane => decide (lane < 4)
  | .scnMulq lane => decide (lane < 4)
  | .scnNegq lane => decide (lane < 4)
  | .scnAddl lane => decide (lane < 4)
  | .scnSubl lane => decide (lane < 4)
  | .scnMull lane => decide (lane < 4)
  | .scnDivl lane => decide (lane < 4)
  | .scnDivlu lane => decide (lane < 4)
  | .scnAndw lane => decide (lane < 4)
  | .scnOrw lane => decide (lane < 4)
  | .scnXorw lane => decide (lane < 4)
  | .scnInvw lane => decide (lane < 4)
  | .scnShl lane => decide (lane < 4)
  | .scnShr lane => decide (lane < 4)
  | .scnSar lane => decide (lane < 4)
  | .scnRol lane => decide (lane < 4)
  | .scnItr lane => decide (lane < 4)
  | .scnRti lane => decide (lane < 4)
  | .scnRtq lane => decide (lane < 4)
  | .scnQtr lane => decide (lane < 4)
  | .scnItl lane => decide (lane < 4)
  | .scnLtr lane => decide (lane < 4)
  | .scnSwap lane => decide (lane < 4)
  | .scnDup lane => decide (lane < 4)
  | .scnCmpi lane => decide (lane < 4)
  | .scnCmpr lane => decide (lane < 4)
  | .scnCmpl lane => decide (lane < 4)
  | .scnCmplu lane => decide (lane < 4)
  | .scnJu lane => decide (lane < 4)
  | .scnJt lane => decide (lane < 4)
  | .scnJf lane => decide (lane < 4)
  | .scnJvs lane => decide (lane < 4)
  | .scnLoop lane => decide (lane < 4)
  | .scnSeli lane => decide (lane < 4)
  | .scnCall lane => decide (lane < 4)
  | .scnCallt lane => decide (lane < 4)
  | .scnRet lane => decide (lane < 4)
  | .scnRett lane => decide (lane < 4)
  | .scnTon lane => decide (lane < 4)
  | .scnTof lane => decide (lane < 4)
  | .scnTp lane => decide (lane < 4)
  | .scnCtu lane => decide (lane < 4)
  | .scnCtd lane => decide (lane < 4)
  | .scnCres lane => decide (lane < 4)
  | .scnEdgep lane => decide (lane < 4)
  | .scnEdgen lane => decide (lane < 4)
  | .scnClk lane => decide (lane < 4)
  | .scnChn lane => decide (lane < 4)
  | .scnSend lane => decide (lane < 4)
  | .scnFence lane => decide (lane < 4)
  | .scnFences lane => decide (lane < 4)
  | .scnStk lane => decide (lane < 4)
  | .load tag _ => decide (tag < 512)
  | .exchange tag => decide (tag < 512)
  | .exchangeAtX => true
  | .exchangeCarryover => true
  | .unload tag => decide (tag < 512)
  | .taskEn tag => decide (tag < 512)
  | .taskTrigger tag => decide (tag < 512)
  | .eventStartRelease task => decide (task < 16)
  | .scnFaultClear tag => decide (tag < 512)
  | .loopSample loop => decide (loop < 96)
  | .loopMode tag => decide (tag < 512)
  | .loopTune tag => decide (tag < 512)
  | .traceArm tag => decide (tag < 512)
  | .traceRelease tag => decide (tag < 512)
  | .biquadW0Write _ loop section_ _ => decide (loop < 96) && decide (section_ < 4)
  | .modeReqWrite _ loop _ => decide (loop < 96)
  | .emuSample _ _ => true
  | .channelFault frontEnd channel => decide (frontEnd < 2) && decide (channel < 7)
  | .phaseReversal frontEnd phase => decide (frontEnd < 2) && decide (phase < 3)
  | .cycleBoundary _ => true
  | .recordStored slot => decide (slot < 1024)
  | .recordRetry slot => decide (slot < 1024)
  | .pulseCount => true
  | .pulseRateTimeout input => decide (input < 16)
  | .pgPulse generator => decide (generator < 8)
  | .intervalClose tag => decide (tag < 512)
  | .emuPgEnable tag => decide (tag < 512)
  | .emuPgDisable tag => decide (tag < 512)
  | .calWrite tag => decide (tag < 512)
  | .accClear tag => decide (tag < 512)
  | .put tag _ => decide (tag < 512)
  | .append tag _ => decide (tag < 512)
  | .get tag => decide (tag < 512)
  | .delete tag => decide (tag < 512)
  | .barrier tag => decide (tag < 512)
  | .flush tag => decide (tag < 512)
  | .info tag => decide (tag < 512)
  | .format tag _ => decide (tag < 512)
  | .nandProgramDone _ _ => true
  | .nandReadDone _ _ _ _ => true
  | .trendFlush _ channel => decide (channel < 2)
  | .scrubDue _ => true
  | .relocation _ => true
  | .staticWearLevel pool => decide (pool < 2)
  | .garbageCollect pool => decide (pool < 2)
  | .replicaSync => true
  | .mapRebuild _ _ _ _ _ => true
  | .heartbeatTx => true
  | .heartbeatRx hdr _ => decide (hdr.src < 64)
  | .memberLoss member => decide (member < 64)
  | .frameAuthDrop => true
  | .rtxTimer member => decide (member < 64)
  | .join hdr _ => decide (hdr.src < 64)
  | .welcome hdr _ => decide (hdr.src < 64)
  | .joinWaitTimeout => true
  | .joinRetry => true
  | .leave hdr _ => decide (hdr.src < 64)
  | .takeover hdr _ => decide (hdr.src < 64)
  | .ack hdr => decide (hdr.src < 64)
  | .pointUpdate hdr _ => decide (hdr.src < 64)
  | .alPointWrite hdr _ => decide (hdr.src < 64)
  | .pointAck hdr _ => decide (hdr.src < 64)
  | .subscribe hdr _ => decide (hdr.src < 64)
  | .unsubscribe hdr _ => decide (hdr.src < 64)
  | .stakeEdit hdr _ => decide (hdr.src < 64)
  | .result hdr _ => decide (hdr.src < 64)
  | .limit hdr _ => decide (hdr.src < 64)
  | .place hdr _ => decide (hdr.src < 64)
  | .placed hdr _ => decide (hdr.src < 64)
  | .checkpoint hdr _ => decide (hdr.src < 64)
  | .unplace hdr _ => decide (hdr.src < 64)
  | .replicaPut hdr _ => decide (hdr.src < 64)
  | .replicaAck hdr _ => decide (hdr.src < 64)
  | .replicaCommit hdr _ => decide (hdr.src < 64)
  | .replicaReport hdr _ => decide (hdr.src < 64)
  | .replicaFetch hdr _ => decide (hdr.src < 64)
  | .replicaData hdr _ => decide (hdr.src < 64)
  | .exportSetSend _ _ dst => decide (dst < 256)
  | .importStale src _ => decide (src < 64)
  | .placeAll => true
  | .checkpointTake _ => true
  | .unitMoveAtX _ => true
  | .moveTimeout _ => true
  | .isolation => true
  | .takeoverDecide => true
  | .takeoverWaitExpire => true
  | .nsRead tag => decide (tag < 512)
  | .move tag => decide (tag < 512)
  | .pin tag => decide (tag < 512)
  | .remoteStake tag _ => decide (tag < 512)
  | .remoteLimit tag => decide (tag < 512)
  | .handback tag => decide (tag < 512)
  | .portFrameRx port _ => decide (port < 55)
  | .frameTransmit port => decide (port < 50)
  | .macAge vid mac => decide (vid < 4096) && decide (mac < 2 ^ 48)
  | .portBlock port => decide (port < 50)
  | .portUnblock port => decide (port < 50)
  | .fabPortEnWrite _ port _ => decide (port < 50)
  | .linkChange port _ _ _ _ => decide (port < 50)
  | .uplinkModeTry port => decide (port < 50)
  | .lpiEnter port => decide (port < 50)
  | .lpiHoldoffEnd port => decide (port < 50)
  | .lldpTx port => decide (port < 50)
  | .lldpRx port _ _ => decide (port < 50)
  | .lldpTimeout port => decide (port < 50)
  | .fabFrameTx tag _ => decide (tag < 512)
  | .frameRx tag => decide (tag < 512)
  | .fdbAdd tag => decide (tag < 512)
  | .fdbDel tag => decide (tag < 512)
  | .fdbFlush tag => decide (tag < 512)
  | .fdbRead tag => decide (tag < 512)
  | .mdioCmd _ _ => true
  | .mdioDone _ => true
  | .ptpSyncRx base port _ _ _ _ _ => decide (base < 4) && decide (port < 50)
  | .ptpFollowUpRx base port _ _ _ _ => decide (base < 4) && decide (port < 50)
  | .ptpDelayRespRx base port _ _ _ _ => decide (base < 4) && decide (port < 50)
  | .ptpDelayReqRx base port _ _ => decide (base < 4) && decide (port < 50)
  | .ptpAnnounceRx base port _ _ _ _ => decide (base < 4) && decide (port < 50)
  | .ptpSyncTx base port => decide (base < 4) && decide (port < 50)
  | .ptpDelayReqTx base => decide (base < 4)
  | .ptpAnnounceTx base port => decide (base < 4) && decide (port < 50)
  | .followUpdate base => decide (base < 4)
  | .ptpHoldover base => decide (base < 4)
  | .ntuPgEdge generator => decide (generator < 8)
  | .tbSet tag => decide (tag < 512)
  | .tbAdj tag => decide (tag < 512)
  | .tbAdjComplete tag => decide (tag < 512)
  | .ntuPgEnable tag => decide (tag < 512)
  | .ntuPgDisable tag => decide (tag < 512)
  | .canFrameRx channel _ _ _ _ _ _ _ _ => decide (channel < 4)
  | .canTxDone channel => decide (channel < 4)
  | .canError channel _ _ _ _ => decide (channel < 4)
  | .busoffRecovered channel => decide (channel < 4)
  | .matrixRow channel _ => decide (channel < 4)
  | .ttWindow channel column _ _ => decide (channel < 4) && decide (column < 64)
  | .fbPeriodTx channel => decide (channel < 4)
  | .nodeLoss channel node => decide (channel < 4) && decide (node < 32)
  | .swapDetect channel => decide (channel < 4)
  | .swapWaitEnd channel _ => decide (channel < 4)
  | .mbHdrRead _ channel entry => decide (channel < 4) && decide (entry < 65)
  | .mbLastWordRead _ channel entry => decide (channel < 4) && decide (entry < 65)
  | .lockTimeout channel => decide (channel < 4)
  | .restrictWrite _ channel _ => decide (channel < 4)
  | .fbcFrameTx tag _ => decide (tag < 512)
  | .busOn tag => decide (tag < 512)
  | .dioFilterTick _ _ => true
  | .outputCommand channel => decide (channel < 24)
  | .dioDiagTick _ => true
  | .shortRetry channel => decide (channel < 24)
  | .logicWdtExpire => true
  | .wdtKick _ => true
  | .fieldDieSafe => true
  | .vfieldSample _ _ => true
  | .piStuck input => decide (input < 16)
  | .piSupplyFault input => decide (input < 16)
  | .dioSet tag => decide (tag < 512)
  | .dioFaultClear tag => decide (tag < 512)
  | .safeClear tag => decide (tag < 512)
  | .restore tag => decide (tag < 512)
  | .cntClear tag => decide (tag < 512)
  | .rtcSecond => true
  | .rtcHaltSet _ => true
  | .rtcHaltClear => true
  | .rtcTb0Set _ => true
  | .rtcShadowFreeze _ field _ => decide (field < 6)
  | .rtcYearRead _ _ => true
  | .rtcShadowTimeout => true
  | .trimWindow => true
  | .trimMeasure _ _ => true
  | .oscStop => true
  | .backupPowerUp => true
  | .vbatCheck _ => true
  | .rtcWake => true
  | .slotInstall tag _ => decide (tag < 512)
  | .slotDestroy tag => decide (tag < 512)
  | .lcAdvance tag _ => decide (tag < 512)
  | .attest tag _ => decide (tag < 512)
  | .tenantImport tag _ => decide (tag < 512)
  | .tenantDestroy tag => decide (tag < 512)
  | .setFloor tag => decide (tag < 512)
  | .keyCacheLoad ctx => decide (ctx < 256)
  | .sealReserveDurable ctx => decide (ctx < 256)
  | .sessionOpen tag => decide (tag < 512)
  | .sessionClose tag => decide (tag < 512)
  | .sessionExpire ctx => decide (ctx < 256)
  | .rateRefill ctx => decide (ctx < 256)
  | .sealRead tag _ => decide (tag < 512)
  | .pointRead tag => decide (tag < 512)
  | .pointWrite tag => decide (tag < 512)
  | .pointForce tag => decide (tag < 512)
  | .pointRelease tag => decide (tag < 512)
  | .vmainLow _ => true
  | .vmainHigh _ => true
  | .pfail _ _ => true
  | .holdupLow => true
  | .holdupTest _ => true
  | .thermWarn _ => true
  | .thermalRestart _ => true
  | .coreWatchdog core => decide (core < 2)
  | .coreRestartDone core => decide (core < 2)
  | .resetRelease _ _ => true
  | .firmwareLoad _ => true
  | .startConfirm => true
  | .confirmTimeout => true
  | .progressStamp => true
  | .sysRstPin => true
  | .bootData _ _ => true
  | .bootGo _ _ _ => true
  | .surveyNow => true
  | .surveyDone _ _ => true
  | .surveyAck => true
  | .gtFire timer => decide (timer < 16)
  | .modeSet tag => decide (tag < 512)
  | .restart tag => decide (tag < 512)
  | .survey tag => decide (tag < 512)
  | .timerSet tag => decide (tag < 512)
  | .startClear tag => decide (tag < 512)
  | .claim tag => decide (tag < 512)
  | .release tag => decide (tag < 512)
  | .pcieLinkUp _ _ => true
  | .bootWaitTimeout => true
  | .supplyOutputLow => true
  | .dieColdPowerUp die => decide (die < 6)

end Sys2Proof
end

