-- ==== Sys2Proof/Tests/Slice0.lean ====
section
/-! SUPPORT. The model's own tests: ill-formed terms that WellFormed refuses, values that the spec works out, and for every
clause of every statement a state and operands that meet all of its hypotheses together. -/

namespace Sys2Proof.Tests

open Sys2Proof Sys2Proof.Machine

set_option maxRecDepth 100000

/-! ### What WellFormed refuses: for each check a term that breaks it alone -/

/-- A link header of a module. -/
def hdrFrom (src : Nat) : LinkHdr := ⟨src, 1, 1, 1, 1, 0, false, 0, 0, true, 1, 0x0F, 0⟩

/-- The head of a luminaire frame from a port and a MAC. -/
def headAt (port mac : Nat) : LcpHead := ⟨port, mac, 1, 0, 0, 0, 0, 0⟩

/-- The scan engine has four lanes (R241). -/
theorem test_wf_refuses_lanes_0 : ∀ i ∈ ([
  .scnNop 4, .scnEnd 4, .scnTst 4, .scnTstn 4, .scnAnd 4, .scnAndn 4, .scnOr 4, .scnOrn 4, .scnXor 4, .scnXorn 4, .scnAndg 4,
   .scnOrg 4, .scnSt 4, .scnSts 4, .scnStr 4, .scnNot 4, .scnSetc 4, .scnClrc 4, .scnPshc 4, .scnAnds 4, .scnOrs 4,
   .scnXors 4, .scnCben 4, .scnAnde 4, .scnLb 4, .scnLh 4, .scnLw 4, .scnLd 4, .scnTb 4, .scnTh 4, .scnTw 4, .scnTd 4,
   .scnLa 4, .scnLdp 4, .scnStp 4, .scnLdpd 4, .scnStpd 4, .scnStpb 4, .scnAndp 4, .scnLdi 4] : List Instr), i.wf = false := by decide

/-- The scan engine has four lanes (R241). -/
theorem test_wf_refuses_lanes_1 : ∀ i ∈ ([
  .scnAddk 4, .scnLxri 4, .scnLxr 4, .scnTxr 4, .scnXra 4, .scnAxr 4, .scnAdd 4, .scnSub 4, .scnMul 4, .scnDiv 4, .scnMod 4,
   .scnNeg 4, .scnAbs 4, .scnAddr 4, .scnSubr 4, .scnMulr 4, .scnDivr 4, .scnNegr 4, .scnAbsr 4, .scnSqrt 4, .scnAddq 4,
   .scnSubq 4, .scnMulq 4, .scnNegq 4, .scnAddl 4, .scnSubl 4, .scnMull 4, .scnDivl 4, .scnDivlu 4, .scnAndw 4, .scnOrw 4,
   .scnXorw 4, .scnInvw 4, .scnShl 4, .scnShr 4, .scnSar 4, .scnRol 4, .scnItr 4, .scnRti 4, .scnRtq 4] : List Instr), i.wf = false := by decide

/-- The scan engine has four lanes (R241). -/
theorem test_wf_refuses_lanes_2 : ∀ i ∈ ([
  .scnQtr 4, .scnItl 4, .scnLtr 4, .scnSwap 4, .scnDup 4, .scnCmpi 4, .scnCmpr 4, .scnCmpl 4, .scnCmplu 4, .scnJu 4,
   .scnJt 4, .scnJf 4, .scnJvs 4, .scnLoop 4, .scnSeli 4, .scnCall 4, .scnCallt 4, .scnRet 4, .scnRett 4, .scnTon 4,
   .scnTof 4, .scnTp 4, .scnCtu 4, .scnCtd 4, .scnCres 4, .scnEdgep 4, .scnEdgen 4, .scnClk 4, .scnChn 4, .scnSend 4,
   .scnFence 4, .scnFences 4, .scnStk 4, .scnFaultClear 512] : List Instr), i.wf = false := by decide

/-- There are 512 tags (R70). -/
theorem test_wf_refuses_tags_0 : ∀ i ∈ ([
  .opTimeout 512, .completionAcked 512, .cancel 512, .query 512, .stakeSet 512, .stakeModify 512, .stakeClear 512,
   .stakeClearOwner 512, .stakeEditDurable 512, .stakeActionAck 512, .portOn 512, .portOff 512, .portCycle 512,
   .portClearLock 512, .setLimit 512, .price 512, .statusReqTimer 512, .level 512, .recall 512, .override 512, .identify 512,
   .rediscover 512, .sceneWrite 512, .exchange 512, .unload 512, .taskEn 512, .taskTrigger 512, .scnFaultClear 512,
   .loopMode 512, .loopTune 512, .traceArm 512, .traceRelease 512, .intervalClose 512, .emuPgEnable 512, .emuPgDisable 512,
   .calWrite 512, .accClear 512, .get 512, .delete 512, .barrier 512] : List Instr), i.wf = false := by decide

/-- There are 512 tags (R70). -/
theorem test_wf_refuses_tags_1 : ∀ i ∈ ([
  .flush 512, .info 512, .nsRead 512, .move 512, .pin 512, .remoteLimit 512, .handback 512, .frameRx 512, .fdbAdd 512,
   .fdbDel 512, .fdbFlush 512, .fdbRead 512, .tbSet 512, .tbAdj 512, .tbAdjComplete 512, .ntuPgEnable 512, .ntuPgDisable 512,
   .busOn 512, .dioSet 512, .dioFaultClear 512, .safeClear 512, .restore 512, .cntClear 512, .slotDestroy 512,
   .tenantDestroy 512, .setFloor 512, .sessionOpen 512, .sessionClose 512, .pointRead 512, .pointWrite 512, .pointForce 512,
   .pointRelease 512, .modeSet 512, .restart 512, .survey 512, .timerSet 512, .startClear 512, .claim 512, .release 512] : List Instr), i.wf = false := by decide

/-- A hierarchy has 64 members (R399). -/
theorem test_wf_refuses_members : ∀ i ∈ ([
  .heartbeatRx (hdrFrom 64) [], .join (hdrFrom 64) [], .welcome (hdrFrom 64) [], .leave (hdrFrom 64) [],
   .takeover (hdrFrom 64) [], .ack (hdrFrom 64), .pointUpdate (hdrFrom 64) [], .alPointWrite (hdrFrom 64) [],
   .pointAck (hdrFrom 64) [], .subscribe (hdrFrom 64) [], .unsubscribe (hdrFrom 64) [], .stakeEdit (hdrFrom 64) [],
   .result (hdrFrom 64) [], .limit (hdrFrom 64) [], .place (hdrFrom 64) [], .placed (hdrFrom 64) [],
   .checkpoint (hdrFrom 64) [], .unplace (hdrFrom 64) [], .replicaPut (hdrFrom 64) [], .replicaAck (hdrFrom 64) [],
   .replicaCommit (hdrFrom 64) [], .replicaReport (hdrFrom 64) [], .replicaFetch (hdrFrom 64) [], .replicaData (hdrFrom 64) []] : List Instr), i.wf = false := by decide

/-- Operands beyond what the module has of their kind. -/
theorem test_wf_refuses_numbers_0 : ∀ i ∈ ([
  .regWrite .pcie 0x2000000 [], .rcRead .pcie 0x2000000, .hiLatchRead .pcie 0x2000000, .entryLatchRead .pcie 0x2000000,
   .errCodeRead .pcie 32, .irqStatClear .pcie 32 0 0, .irqForce .pcie 32 0, .ctrlEn .pcie 32 0, .srst .pcie 32,
   .softResetComplete 32, .unmappedAccess .pcie 0x2000000 false, .spiRead 0x2000000 (⟨1, false⟩) 0,
   .spiWrite 0x2000000 [] false, .sqDoorbell .pcie 8 0, .sqEnable .pcie 8 0, .cqEnable .pcie 8 0, .cqHeadWrite .pcie 8 0,
   .completionWrite 10, .cqCoalTimeout 8, .zxEdge 24, .portDetect 48, .detectionDone 48 0,
   .classifyDone 48 false false 0 0 false false, .inrushEnd 48 false, .autoclassMeasure 48 0, .fastCut 48 1, .fastCut 0 0,
   .fastCut 0 4, .overloadCut 48 1, .overloadCut 0 0] : List Instr), i.wf = false := by decide

/-- Operands beyond what the module has of their kind. -/
theorem test_wf_refuses_numbers_1 : ∀ i ∈ ([
  .overloadCut 0 4, .limitCut 48 1, .limitCut 0 0, .limitCut 0 4, .mpsLoss 48 1, .mpsLoss 0 0, .mpsLoss 0 4, .errDelayEnd 48,
   .dieTemp 6 0, .adoptionRecordWrite 48, .dieAutonomous 6, .portCycleOffEnd 48, .portEnWrite .pcie 48 0, .softTimeout 2,
   .hardRecheck 2, .lookaheadEntry 4096 0, .discoverTick 48, .announce (⟨headAt 48 0, 0, 0, 0, 0, 0, 0⟩),
   .announce (⟨headAt 0 (2 ^ 48), 0, 0, 0, 0, 0, 0⟩), .accept 48 0 0 0 (⟨0, 1, 4, 0, 0, 0⟩),
   .accept 0 0 (2 ^ 48) 0 (⟨0, 1, 4, 0, 0, 0⟩), .status (⟨headAt 48 0, 0, 0, 0, 0, 0, 0, 0, 0, 0, 0⟩),
   .status (⟨headAt 0 (2 ^ 48), 0, 0, 0, 0, 0, 0, 0, 0, 0, 0⟩), .acceptTimeout 768 0, .bindingTimeout 768,
   .luminaireLoss 768, .keepaliveTick 768, .taskStartTick 16, .epochRelease 16, .load 512 []] : List Instr), i.wf = false := by decide

/-- Operands beyond what the module has of their kind. -/
theorem test_wf_refuses_numbers_2 : ∀ i ∈ ([
  .eventStartRelease 16, .loopSample 96, .biquadW0Write .pcie 96 0 0, .biquadW0Write .pcie 0 4 0, .modeReqWrite .pcie 96 0,
   .channelFault 2 0, .channelFault 0 7, .phaseReversal 2 0, .phaseReversal 0 3, .recordStored 1024, .recordRetry 1024,
   .pulseRateTimeout 16, .pgPulse 8, .put 512 [], .append 512 [], .format 512 [], .trendFlush 0 2, .staticWearLevel 2,
   .garbageCollect 2, .memberLoss 64, .rtxTimer 64, .exportSetSend 0 0 256, .importStale 64 0, .remoteStake 512 0,
   .portFrameRx 55 (⟨0, 0, none, 0, [], 64, true⟩), .frameTransmit 50, .macAge 4096 0, .macAge 0 (2 ^ 48), .portBlock 50,
   .portUnblock 50] : List Instr), i.wf = false := by decide

/-- Operands beyond what the module has of their kind. -/
theorem test_wf_refuses_numbers_3 : ∀ i ∈ ([
  .fabPortEnWrite .pcie 50 0, .linkChange 50 false false 0 false, .uplinkModeTry 50, .lpiEnter 50, .lpiHoldoffEnd 50,
   .lldpTx 50, .lldpRx 50 0 0, .lldpTimeout 50, .fabFrameTx 512 [], .ptpSyncRx 4 0 0 false 0 0 0,
   .ptpSyncRx 0 50 0 false 0 0 0, .ptpFollowUpRx 4 0 0 0 0 0, .ptpFollowUpRx 0 50 0 0 0 0, .ptpDelayRespRx 4 0 0 0 0 0,
   .ptpDelayRespRx 0 50 0 0 0 0, .ptpDelayReqRx 4 0 0 0, .ptpDelayReqRx 0 50 0 0, .ptpAnnounceRx 4 0 [] (⟨0, 0⟩) 0 false,
   .ptpAnnounceRx 0 50 [] (⟨0, 0⟩) 0 false, .ptpSyncTx 4 0, .ptpSyncTx 0 50, .ptpDelayReqTx 4, .ptpAnnounceTx 4 0,
   .ptpAnnounceTx 0 50, .followUpdate 4, .ptpHoldover 4, .ntuPgEdge 8, .canFrameRx 4 0 false false false false false [] 0,
   .canTxDone 4, .canError 4 false false 0 0] : List Instr), i.wf = false := by decide

/-- Operands beyond what the module has of their kind. -/
theorem test_wf_refuses_numbers_4 : ∀ i ∈ ([
  .busoffRecovered 4, .matrixRow 4 false, .ttWindow 4 0 false false, .ttWindow 0 64 false false, .fbPeriodTx 4,
   .nodeLoss 4 0, .nodeLoss 0 32, .swapDetect 4, .swapWaitEnd 4 false, .mbHdrRead .pcie 4 0, .mbHdrRead .pcie 0 65,
   .mbLastWordRead .pcie 4 0, .mbLastWordRead .pcie 0 65, .lockTimeout 4, .restrictWrite .pcie 4 0, .fbcFrameTx 512 [],
   .outputCommand 24, .shortRetry 24, .piStuck 16, .piSupplyFault 16, .rtcShadowFreeze .pcie 6 0, .slotInstall 512 [],
   .lcAdvance 512 0, .attest 512 [], .tenantImport 512 [], .keyCacheLoad 256, .sealReserveDurable 256, .sessionExpire 256,
   .rateRefill 256, .sealRead 512 []] : List Instr), i.wf = false := by decide

/-- Operands beyond what the module has of their kind. -/
theorem test_wf_refuses_numbers_5 : ∀ i ∈ ([
  .coreWatchdog 2, .coreRestartDone 2, .gtFire 16, .dieColdPowerUp 6] : List Instr), i.wf = false := by decide

/-! ### Values that the spec works out -/

/-- The check value of CRC-32/ISO-HDLC over the digits 1 to 9 (log entry 140). -/
theorem test_crc32 : crc32 ((List.range 9).map fun k => BitVec.ofNat 8 (0x31 + k)) = 0xCBF43926 := by decide

/-- Chapter 04, three past-due stakes: 123h fires 15,537 au late, 125h rolled. -/
theorem test_fire_result : fireResult 0x123 false true 15537 = 0x0F2C6123 ∧ fireResult 0x125 true true 0 = 0x00003125 := by
  decide

/-- The same example: the occurrence of 125h moves to the same angle of the present cycle. -/
theorem test_roll : rollTo (1204400 * 65536 + 10000) (1204399 * 65536 + 60000) = 1204400 * 65536 + 60000 := by decide

/-- Chapter 17: a leap-day midnight, and the years without one. -/
theorem test_leap_day : Cal.next ⟨59, 59, 23, 28, 2, 2028⟩ = ⟨0, 0, 0, 29, 2, 2028⟩
    ∧ Cal.possible ⟨0, 0, 0, 29, 2, 2027⟩ = false ∧ Cal.next ⟨59, 59, 23, 28, 2, 2100⟩ = ⟨0, 0, 0, 1, 3, 2100⟩ := by decide

/-- R522: the turn of a century. -/
theorem test_turn_of_century : Cal.next ⟨59, 59, 23, 31, 12, 2099⟩ = ⟨0, 0, 0, 1, 1, 2100⟩ := by decide

/-- Chapter 06: at 30 % the type-2 luminaire costs 17,400 mW, at 100 % 60,000. -/
theorem test_curve_price :
    let s := ((State.reset.setNum (Reg.ARB_CURVEt_Pk 2 4) 15000).setNum (Reg.ARB_CURVEt_Pk 2 5) 18000).setNum
      (Reg.ARB_CURVEt_Pk 2 16) 60000
    s.curvePrice 2 3000 = 17400 ∧ s.curvePrice 2 10000 = 60000 := by decide +kernel

/-- The same example: the reservation view entry of stake 2A0h. -/
theorem test_resv_view :
    let s := { State.reset with arb := { State.reset.arb with resv := [(0, ⟨0x2A0, 1, 1310050 * 65536, 0, 0, 681600, 0, 0⟩)] } }
    (List.range 4).map (s.resvWord 0) = [0x000102A0, 0xFD620000, 0, 0x00A66802] := by decide +kernel

/-- R142: a class 4 port with a grant of 30 W at 54 V on one pairset, and the floor of 60 mA. -/
theorem test_icut : icutOf 30000 54000 1 4 = 583 ∧ icutOf 1000 54000 1 1 = 60 := by decide

/-! ### After reset, and the step -/

/-- The module is held in reset, nothing waits, and the last tag is 511. -/
theorem test_reset : State.reset.sup.inReset = true ∧ State.reset.pending = [] ∧ State.reset.late = [] ∧ State.reset.opt.lastTag = 511 := by
  decide

/-- On an empty queue one cycle passes. -/
theorem test_step_tick : step State.reset = .next { State.reset with clk := 1 } := rfl

/-- The front command runs and leaves the queue. -/
theorem test_step_front : step { State.reset with pending := [.vpseRev] } = exec .vpseRev State.reset := rfl

/-- No row of the table gives bits. -/
theorem test_decode_none : decodeTableWord 32 0 = none ∧ State.reset.withFetchWord 32 0 = State.reset := by decide +kernel

/-! ### States that the witnesses share -/

/-- The module out of reset in run mode, its cores up. -/
def up0 : State :=
  ({ State.reset with
    sup := { State.reset.sup with inReset := false, core0Up := true }
    arb := { State.reset.arb with coreDown := false } }).setFld Reg.SUP_MODE 0 2 Mode.RUN
/-- A parameter block: fields of (byte offset, bytes, value). -/
def pb (l : List (Nat × Nat × Nat)) : BitVec 384 :=
  l.foldl (fun p e => p ||| BitVec.ofNat 384 (e.2.2 % 2 ^ (8 * e.2.1) * 2 ^ (8 * e.1))) 0
/-- An ACTIVE operation in a slot. -/
def mkOp (block opcode ctx : Nat) (l : List (Nat × Nat × Nat)) : Slot :=
  { Slot.unused with st := .active, block := block, opcode := opcode, ctx := ctx, param := pb l, timeoutMs := 1000 }
def withOp (s : State) (t : Nat) (x : Slot) : State := s.setSlot t x
/-- Another command waits with the state's own. -/
def busy (s : State) : State := { s with pending := .spiIdent :: s.pending }
/-- Something gave way in the present cycle. -/
def later (s : State) : State := { s with late := s.late ++ [(0x70000, .vpseRev)] }
/-- The service cores are down. -/
def coreless (s : State) : State :=
  { s with sup := { s.sup with core0Up := false }, arb := { s.arb with coreDown := true } }
/-- Each state as it is and with each of these. -/
def expandS (l : List State) : List State := l ++ l.map busy ++ l.map later ++ l.map coreless
/-- The error of a result that is one. -/
def errOf {ε α : Type} [Inhabited ε] : Except ε α → ε
  | .error e => e
  | .ok _ => default
/-- A run on lane 2 of task 5. -/
def rn (cb : Bool) : Run := { lane := 2, task := 5, bankB := false, latch := ⟨7,0,[],0,0⟩, fr := {Fr.zero with cb := cb, en := true}, a1 := 0x1122334455667788, a2 := 3, xr := 2, pc := 0, ib := 0, tir := 0, lb := 0, fsz := 32, cond := [], base := 0, calls := [], touched := [], epoch := 0, strict := [], lost := [], denied := 0, flags := 0, lastExec := 0, tbSec := 0, tbNs := 0 }
def wd (op rest : Nat) : Word := BitVec.ofNat 32 (op * 2^24 + rest)
def ms (sp : Nat) (x off : Nat) : Nat := sp * 2^21 + x * 2^20 + off
def te : TaskEntry := ⟨5,true,false,3,2,4,0,0,0,64,0,16,16,[]⟩
def bk (code : List Word) : Bank := { Bank.empty with profF := true, id := 9, code := code, konst := (List.range 64).map (BitVec.ofNat 8), tasks := [te], mSize := 64, dataSize := 64, dataInit := (List.range 64).map (fun i => if 8 ≤ i ∧ i < 12 then (if i = 8 then 64 else 0) else BitVec.ofNat 8 (255 - i)), mInit := (List.range 64).map (fun i => BitVec.ofNat 8 (i*3)) }
def sr (r : Run) (code : List Word) : State :=
  { up0 with scn := { up0.scn with bankA := some (bk code), lanes := [(2, r)] } }

def hh : LinkHdr := ⟨9,4,10,5,1,0,false,1,0xABC,true,1,0x0F,0⟩
def st2 (s : State) (m n : Nat) : State := s.setFld (Reg.HLK_MBm_STAT m) 0 3 n
def pr (s : State) (m : Nat) (p : Peer) : State := {s with hlk := {s.hlk with peers := tput s.hlk.peers m p}}
def p9 : Peer := {Peer.fresh with rxStart := some 4}
def base : State := pr ({((up0.setFlag (Reg.CTRL Blk.HLK) 0 true).setNum (Reg.KEY_SLOTs_ATTR 0) 0x201).setNum Reg.HLK_TERM 5 with clk := 300000000, sup := {up0.sup with roleStrap := 1, moduleNum := 2, imgId := 77, imgVer := 3}}) 9 p9
/-- a worker under manager 9 -/
def wk : State := st2 ((base.setFld Reg.HLK_STAT 8 2 2).setFld Reg.HLK_STAT 16 6 9) 9 2
/-- the acting manager -/
def mg : State := (base.setFld Reg.HLK_STAT 8 2 1).setFld Reg.HLK_STAT 16 6 2
/-- Core 1 restarts: it has restarted before. -/
def restarting : State :=
  { up0 with sup := { up0.sup with wdt1 := [1] }, arb := { up0.arb with coreDown := true } }
/-- A module whose helper data is blown. -/
def scrapped : State := { State.reset with key := { State.reset.key with otpState := 4, pufDead := true } }

/-! ### Statements over every command -/

theorem witness_StepRunsFrontCommand : ∃ (c : Instr) (cs : List Instr) (s : State), s.pending = c :: cs :=
  ⟨.vpseRev, [.spiIdent], { State.reset with pending := [.vpseRev, .spiIdent] }, rfl⟩

theorem witness_EmptyQueueLetsOneCyclePass :
    (∃ s : State, s.pending = [] ∧ s.late = [] ∧ s.sup.inReset = true) ∧
    (∃ s : State, s.pending = [] ∧ s.late = [] ∧ s.Up) ∧
    (∃ (s : State) (k : Nat) (l : Late) (r : List (Nat × Late)), s.pending = [] ∧ s.late = (k, l) :: r) :=
  ⟨⟨State.reset, by decide +kernel⟩, ⟨up0, by unfold State.Up; decide +kernel⟩,
   ⟨{ State.reset with late := [(Rank.EXPIRY, .refLoss)] }, Rank.EXPIRY, .refLoss, [], rfl, rfl⟩⟩

theorem witness_EveryCommandAnswersNext : ∃ c : Instr, ∀ n k, c ≠ .lcAdvance n k :=
  ⟨.vpseRev, fun _ _ h => Instr.noConfusion h⟩

/-- The last second of 2999 and the leap day of 2000. -/
theorem witness_CalendarCarries :
    (∃ c : Cal, c.possible = true) ∧ (∃ c : Cal, c.possible = true ∧ c ≠ Cal.last) :=
  ⟨⟨Cal.last, by decide⟩, ⟨⟨59, 59, 23, 29, 2, 2000⟩, by decide⟩⟩

/-- The clauses of `EndsGivenByOpt` on commands that coincide. -/
theorem witness_CoincidingCommands :
    (∃ (c : Instr) (k : Nat) (l : Late) (s : State), givesWay c = some (k, l) ∧ s.Up ∧ s.together = true) ∧
    (∃ s : State, s.Up ∧ s.together = true) :=
  ⟨⟨.grantEvaluation, Rank.EVAL, .grantEvaluation, busy up0, rfl, by unfold State.Up; decide +kernel⟩,
   ⟨later up0, by unfold State.Up; decide +kernel⟩⟩

/-- Its clauses on the duties of the service cores. -/
theorem witness_CoreDuties :
    (∃ (c : Instr) (core : Nat) (l : Late) (s : State), coreDuty c = some (core, l) ∧ s.Up ∧ s.coreUp core = false
      ∧ s.coreRestarts core = true ∧ s.coreWait.contains (core, l) = false) ∧
    (∃ (c : Instr) (core : Nat) (l : Late) (s : State), coreDuty c = some (core, l) ∧ s.Up ∧ s.coreUp core = false
      ∧ s.coreRestarts core = false) ∧
    (∃ (c : Instr) (core : Nat) (l : Late) (s : State), coreDuty c = some (core, l) ∧ s.Up ∧ s.coreUp core = false
      ∧ s.coreRestarts core = true ∧ s.coreWait.contains (core, l) = true) ∧
    (∃ (s : State) (core : Nat), s.late = [] ∧ s.coreUp core = false) :=
  ⟨⟨.placeAll, 1, .placeAll, restarting, rfl, by unfold State.Up; decide +kernel⟩,
   ⟨.replicaSync, 0, .replicaSync, coreless up0, rfl, by unfold State.Up; decide +kernel⟩,
   ⟨.placeAll, 1, .placeAll, { restarting with coreWait := [(1, .placeAll)] }, rfl, by unfold State.Up; decide +kernel⟩,
   ⟨coreless up0, 1, by decide +kernel⟩⟩

theorem witness_HeldInResetNothingHappens : ∃ (c : Instr) (s : State), s.sup.inReset = true ∧ livesInReset c = false :=
  ⟨.spiIdent, State.reset, by decide +kernel, rfl⟩

/-- A module in use and one scrapped. -/
theorem witness_OtpOnlyMovesForward :
    (∃ s t : State, s.OtpInv ∧ step s = .next t) ∧
    (∃ s t : State, s.OtpInv ∧ step s = .next t ∧ s.key.otpState = 4) :=
  ⟨⟨State.reset, _, by unfold State.OtpInv; decide +kernel, rfl⟩,
   ⟨scrapped, _, by unfold State.OtpInv; decide +kernel, rfl, by decide +kernel⟩⟩

/-! ### Accesses -/

namespace Accesses

namespace EmptyQueueLetsOneCyclePass
/-- A state and operands for each clause of `EmptyQueueLetsOneCyclePass`. -/
theorem witness_EmptyQueueLetsOneCyclePass :
    (∃ s : State, s.pending = [] ∧ s.late = [] ∧ s.sup.inReset = true) ∧
    (∃ s : State, s.pending = [] ∧ s.late = [] ∧ s.Up) ∧
    (∃ s : State, ∃ k : Nat, ∃ l : Late, ∃ r : List (Nat × Late), s.pending = [] ∧ s.late = (k, l) :: r) :=
  ⟨⟨State.reset, by decide +kernel⟩,
   ⟨up0, by unfold State.Up; decide +kernel⟩,
   ⟨{up0 with late := [(0x20000,.vpseRev),(0x30000,.vpseRev)]}, 0x20000, .vpseRev, [(0x30000,.vpseRev)], by decide +kernel⟩⟩
end EmptyQueueLetsOneCyclePass

namespace AccessesOutsideTheMap
/-- A state and operands for each clause of `HostAccesses`. -/
theorem witness_AccessesOutsideTheMap :
    (∃ s : State, ∃ n : Nat, s.Up ∧ 8 < n) ∧
    (∃ s : State, s.Up) ∧
    (∃ s : State, ∃ off : Nat, s.Up ∧ regRow? off = none ∧ s.Answers .pcie off) ∧
    (∃ s : State, ∃ off : Nat, s.Up ∧ regRow? off = none ∧ s.fenced .pcie = false ∧ off ≠ Reg.HIF_FENCE ∧ s.Alone) :=
  ⟨⟨up0, 9, by unfold State.Up; decide +kernel⟩,
   ⟨up0, by unfold State.Up; decide +kernel⟩,
   ⟨up0, 0, by unfold State.Up State.Answers; decide +kernel⟩,
   ⟨up0, 0, by unfold State.Up State.Alone; decide +kernel⟩⟩
end AccessesOutsideTheMap

namespace CoincidingWritesGiveWay
def wv0 : Nat := (({up0 with pending := [.vpseRev]}).writeRank (.pcie) (8) (1)).get (by decide +kernel)
/-- A state and operands for each clause of `HostAccesses`. -/
theorem witness_CoincidingWritesGiveWay :
    (∃ s : State, ∃ rq : Requester, ∃ off : Nat, ∃ v : Word, ∃ k : Nat, s.Up ∧ s.writeRank rq off v = some k) ∧
    (∃ s : State, s.Up ∧ s.Alone) ∧
    (∃ s : State, ∃ rq : Requester, s.Up ∧ s.lateWrites rq = true) ∧
    (∃ s : State, ∃ rq : Requester, s.Up ∧ s.together = true ∧ rq = .spi) ∧
    (∃ s : State, ∃ off : Nat, ∃ v : Word, ∃ b : Nat, s.Up ∧ s.together = true ∧ off = Reg.CTRL b ∧ v.toNat / 2 % 2 = 1) :=
  ⟨⟨{up0 with pending := [.vpseRev]}, .pcie, 8, 1, wv0, by unfold State.Up; decide +kernel, (Option.some_get _).symm⟩,
   ⟨up0, by unfold State.Up State.Alone; decide +kernel⟩,
   ⟨{up0 with late := [(0x100,.write .spi 8 8)]}, .spi, by unfold State.Up; decide +kernel⟩,
   ⟨{up0 with pending := [.vpseRev]}, .spi, by unfold State.Up; decide +kernel⟩,
   ⟨{up0 with pending := [.vpseRev]}, 0x1C0008, 2, 7, by unfold State.Up; decide +kernel⟩⟩
end CoincidingWritesGiveWay

namespace WriteFollowsAccessType
def offs : List Nat := [Reg.LAT_OFFSET,Reg.KEY_LC,Reg.ARB_M1_DC,Reg.ARB_CURVEt_Pk 3 4, Reg.HLK_CFG, Reg.STO_STAT, Reg.LAT_STATE,0x1001B0,0x480104,0x3C0108,0x3C1000+64*3,0x1C0044,1835300,1835304] ++ [1052672, 1314852, 1314856, 1315108, 1315112, 1315364]
def wv0 : Nat := ((offs : List (Nat))[14]?).get (by decide +kernel)
def wv1 : RegRow := ((offs.filterMap regRow? : List (RegRow))[13]?).get (by decide +kernel)
def wv2 : Nat := ((offs : List (Nat))[12]?).get (by decide +kernel)
def wv3 : RegRow := ((offs.filterMap regRow? : List (RegRow))[11]?).get (by decide +kernel)
def wv4 : Nat := ((offs : List (Nat))[0]?).get (by decide +kernel)
def wv5 : RegRow := ((offs.filterMap regRow? : List (RegRow))[0]?).get (by decide +kernel)
/-- A state and operands for each clause of `HostAccesses`. -/
theorem witness_WriteFollowsAccessType :
    (∃ s : State, ∃ rq : Requester, ∃ off : Nat, ∃ r : RegRow, s.Up ∧ s.Passes rq off ∧ regRow? off = some r ∧ 0x100 ≤ off %
      0x40000 ∧ off / 0x40000 ∈ [Blk.LAT, Blk.ARB, Blk.STO, Blk.HLK, Blk.KEY] ∧ r.acc = .rw) ∧
    (∃ s : State, ∃ rq : Requester, ∃ off : Nat, ∃ r : RegRow, s.Up ∧ s.Passes rq off ∧ regRow? off = some r ∧ 0x100 ≤ off %
      0x40000 ∧ off / 0x40000 = Blk.FAB ∧ r.acc = .w1c) ∧
    (∃ s : State, ∃ rq : Requester, ∃ off : Nat, ∃ r : RegRow, s.Up ∧ s.Passes rq off ∧ regRow? off = some r ∧ 0x100 ≤ off %
      0x40000 ∧ off / 0x40000 ∈ [Blk.LAT, Blk.ARB, Blk.STO, Blk.HLK, Blk.KEY] ∧ r.acc = .ro) :=
  ⟨⟨up0, .pcie, wv0, wv1, by unfold State.Up State.Passes State.Alone; decide +kernel⟩,
   ⟨up0, .pcie, wv2, wv3, by unfold State.Up State.Passes State.Alone; decide +kernel⟩,
   ⟨up0, .pcie, wv4, wv5, by unfold State.Up State.Passes State.Alone; decide +kernel⟩⟩
end WriteFollowsAccessType

namespace ReadsWithAnEffect
def offsR : List Nat := [1,7,19,262448,262676,786700,0x10012C,0x120000,0x440110,0x441004,0x281000,0x40110,0x13F000,0x101008,0x480110, 0x202000,0x4C1000,0x340104,0x1C0044,0x202624]
def Ss : List State := let s := offsR.foldl (fun a o => if o > 100 then a.setNum o (o+7) else a) up0; [s, (s.setNum (Reg.ERR_CODE 7) 0x305), {s with loLatch := (offsR.map (fun o => (o+4, 9#32))).foldl (fun t e => tput t e.1 e.2) []}]
def wv0 : State := ((Ss : List (State))[0]?).get (by decide +kernel)
def wv1 : Nat := ((offsR ++ offsR.map (·+4) : List (Nat))[3]?).get (by decide +kernel)
def wv2 : Nat := ((offsR ++ offsR.map (·+4) : List (Nat))[11]?).get (by decide +kernel)
def wv3 : State := ((Ss : List (State))[2]?).get (by decide +kernel)
def wv4 : Nat := ((offsR ++ offsR.map (·+4) : List (Nat))[23]?).get (by decide +kernel)
def wv5 : Word := (tfind? wv3.loLatch wv4).get (by decide +kernel)
def wv6 : Nat := ((offsR ++ offsR.map (·+4) : List (Nat))[6]?).get (by decide +kernel)
def wv7 : LatchGroup := (groupAt wv6).get (by decide +kernel)
/-- A state and operands for each clause of `HostAccesses`. -/
theorem witness_ReadsWithAnEffect :
    (∃ s : State, ∃ rq : Requester, ∃ off : Nat, s.Up ∧ plainRc off ∧ s.masked off = false ∧ s.Unlatched off ∧ s.Answers rq
      off) ∧
    (∃ s : State, ∃ rq : Requester, ∃ off : Nat, s.Up ∧ latchesHi off = true ∧ off % 0x40000 ≠ 0x20 ∧ off ≠ Reg.HIF_FENCE ∧
      (regRow? off).isSome ∧ calField Cal.first 0 off = none ∧ rxHeader off = none ∧ s.masked off = false ∧ s.Unlatched off ∧
      s.Answers rq off) ∧
    (∃ s : State, ∃ rq : Requester, ∃ off : Nat, ∃ v : Word, s.Up ∧ tfind? s.loLatch off = some v ∧ off % 0x40000 ≠ 0x20 ∧ off
      ≠ Reg.HIF_FENCE ∧ (regRow? off).isSome ∧ calField Cal.first 0 off = none ∧ s.Answers rq off) ∧
    (∃ s : State, ∃ rq : Requester, ∃ off : Nat, ∃ g : LatchGroup, s.Up ∧ groupAt off = some g ∧ latchesHi off = false ∧ off %
      0x40000 ≠ 0x20 ∧ off ≠ Reg.HIF_FENCE ∧ (regRow? off).isSome ∧ calField Cal.first 0 off = none ∧ rxHeader off = none ∧
      s.masked off = false ∧ s.Unlatched off ∧ s.Answers rq off) :=
  ⟨⟨wv0, .pcie, wv1, by unfold State.Up; decide +kernel, by decide +kernel, by decide +kernel, ⟨by decide +kernel, by
     decide +kernel, fun _ => rfl⟩, by unfold State.Answers; decide +kernel⟩,
   ⟨wv0, .pcie, wv2, by unfold State.Up; decide +kernel, by decide +kernel, by decide +kernel, by decide +kernel, by
     decide +kernel, by decide +kernel, by decide +kernel, by decide +kernel, ⟨by decide +kernel, by decide +kernel, fun _ =>
     rfl⟩, by unfold State.Answers; decide +kernel⟩,
   ⟨wv3, .pcie, wv4, wv5, by unfold State.Up; decide +kernel, (Option.some_get _).symm, by decide +kernel, by decide +kernel,
     by decide +kernel, by decide +kernel, by unfold State.Answers; decide +kernel⟩,
   ⟨wv0, .pcie, wv6, wv7, by unfold State.Up; decide +kernel, (Option.some_get _).symm, by decide +kernel, by decide +kernel,
     by decide +kernel, by decide +kernel, by decide +kernel, by decide +kernel, by decide +kernel, ⟨by decide +kernel, by
     decide +kernel, fun _ => rfl⟩, by unfold State.Answers; decide +kernel⟩⟩
end ReadsWithAnEffect

namespace PageZeroCommands
/-- A state and operands for each clause of `PageZeroAndSoftReset`. -/
theorem witness_PageZeroCommands :
    (∃ s : State, ∃ rq : Requester, ∃ b : Nat, s.Up ∧ 1 ≤ b ∧ b ≤ 19 ∧ s.Passes rq (Reg.CTRL b)) ∧
    (∃ s : State, ∃ rq : Requester, ∃ b : Nat, ∃ v : Word, s.Up ∧ 1 ≤ b ∧ b ≤ 19 ∧ s.Passes rq (Reg.CTRL b) ∧ v.toNat % 4 = 1
      ∧ s.flag (Reg.STAT b) 0 = true ∧ b ≠ Blk.LAT ∧ s.sup.initDue.contains b = false) ∧
    (∃ s : State, ∃ rq : Requester, ∃ b : Nat, ∃ v : Word, s.Up ∧ 1 ≤ b ∧ b ≤ 19 ∧ s.Passes rq (Reg.CTRL b) ∧ v.toNat % 4 = 0
      ∧ b ≠ Blk.LAT) ∧
    (∃ s : State, ∃ rq : Requester, ∃ b : Nat, s.Up ∧ 1 ≤ b ∧ b ≤ 19 ∧ s.Passes rq (Reg.CTRL b) ∧ b = Blk.KEY ∧ s.openTags =
      [] ∧ (s.en b = true → s.flag (Reg.STAT b) 0 = true)) :=
  ⟨⟨up0, .pcie, 1, by unfold State.Up State.Passes State.Alone; decide +kernel⟩,
   ⟨(up0.setNum (Reg.STAT 7) 1).setNum (Reg.IRQ_STAT 7) 0xFF, .pcie, 7, 1,
     by unfold State.Up State.Passes State.Alone; decide +kernel⟩,
   ⟨up0, .pcie, 1, 0, by unfold State.Up State.Passes State.Alone; decide +kernel⟩,
   ⟨up0, .pcie, 18, by unfold State.Up State.Passes State.Alone; decide +kernel⟩⟩
end PageZeroCommands

namespace SoftResetReturnsRegisters
def ss : State := {((up0.setNum (Reg.CTRL Blk.ARB) 2).setNum (Reg.ARB_CURVEt_Pk 3 4) 77).setNum (Reg.STAT Blk.ARB) 0xB with claims := [⟨0x2000,Blk.ARB,0,0⟩,⟨0x2001,Blk.DIO,0,0⟩]}
/-- A state and operands for each clause of `PageZeroAndSoftReset`. -/
theorem witness_SoftResetReturnsRegisters :
    ∃ s : State, s.Up ∧ s.inSrst Blk.ARB = true ∧ s.hif.opens = [] ∧ s.hif.held = [] ∧ s.hif.waiting = [] ∧ s.image = [] :=
  ⟨ss, by unfold State.Up; decide +kernel⟩
end SoftResetReturnsRegisters

end Accesses

/-! ### Operations -/

namespace Operations

def dsc : BitVec 512 := BitVec.ofNat 512 (0x20 + 1*2^8 + 3*2^16)

namespace ManagementSpi
def offs : List Nat := [262448,262676,0x7FFFFFC,0x3FFFFF0,Reg.IRQ_FORCE 1,524560]
def wv0 : Nat := ((offs ++ [1] : List (Nat))[0]?).get (by decide +kernel)
/-- A state and operands for each clause of `SpiAndFences`. -/
theorem witness_ManagementSpi :
    (∃ s : State, s.Up) ∧
    (∃ s : State, ∃ off : Nat, s.Up ∧ off % 4 = 0) ∧
    (∃ s : State, s.Up ∧ s.Passes .spi (Reg.IRQ_FORCE Blk.SUP)) ∧
    (∃ s : State, ∃ off : Nat, s.Up ∧ plainRc off ∧ off % 4 = 0 ∧ s.masked off = false ∧ s.Unlatched off ∧ s.Answers .spi off
      ∧ s.hif.waiting = []) ∧
    (∃ s : State, s.Up ∧ s.Passes .pcie Reg.HIF_SPI_CTRL) ∧
    (∃ s : State, s.Up ∧ s.Passes .spi Reg.HIF_SPI_CTRL) :=
  ⟨⟨up0, by unfold State.Up; decide +kernel⟩,
   ⟨up0, wv0, by unfold State.Up; decide +kernel⟩,
   ⟨up0, by unfold State.Up State.Passes State.Alone; decide +kernel⟩,
   ⟨up0, wv0, by unfold State.Up; decide +kernel, by decide +kernel, by decide +kernel, by decide +kernel, ⟨by decide +kernel,
     by decide +kernel, fun _ => rfl⟩, by unfold State.Answers; decide +kernel, by decide +kernel⟩,
   ⟨up0, by unfold State.Up State.Passes State.Alone; decide +kernel⟩,
   ⟨up0, by unfold State.Up State.Passes State.Alone; decide +kernel⟩⟩
end ManagementSpi

namespace FencesNumberTheWrites
def h : State := {up0 with hif := {up0.hif with held := [⟨.pcie,Reg.LAT_OFFSET,3,0⟩,⟨.spi,Reg.LAT_OFFSET,3,0⟩], nextSeq := 4, fencePcie := 0xFFFFFFFF}}
/-- A state and operands for each clause of `SpiAndFences`. -/
theorem witness_FencesNumberTheWrites :
    (∃ s : State, s.Up ∧ s.Passes .pcie Reg.HIF_FENCE ∧ s.hif.opens = []) ∧
    (∃ s : State, s.Up ∧ s.Passes .spi Reg.HIF_FENCE ∧ s.flag Reg.HIF_SPI_CTRL 0 = false ∧ s.hif.opens = []) ∧
    (∃ s : State, ∃ rq : Requester, s.Up ∧ s.Answers rq Reg.HIF_FENCE) ∧
    (∃ s : State, ∃ rq : Requester, s.Up ∧ s.lateWrites rq = false ∧ s.readBlocked rq Reg.HIF_FENCE 1 s.hif.nextSeq = true) ∧
    (∃ s : State, ∃ rq : Requester, ∃ e : OpenWrite, s.Up ∧ e ∈ s.hif.opens ∧ e.rq = rq ∧ e.seq < s.hif.nextSeq) :=
  ⟨⟨up0, by unfold State.Up State.Passes State.Alone; decide +kernel⟩,
   ⟨up0, by unfold State.Up State.Passes State.Alone; decide +kernel⟩,
   ⟨up0, .pcie, by unfold State.Up State.Answers; decide +kernel⟩,
   ⟨h, .pcie, by unfold State.Up; decide +kernel⟩,
   ⟨{up0 with hif := {up0.hif with opens := [⟨.spi,7,3⟩,⟨.pcie,7,2⟩], nextSeq := 4, fencePcie := 0xFFFFFFFF}}, .pcie,
     ⟨.pcie,7,2⟩, by unfold State.Up; decide +kernel⟩⟩
end FencesNumberTheWrites

namespace PcieLinkUpAndReset
def h : State := {(up0.setNum (Reg.HIF_SQn_CTRL 3) 1).setNum (Reg.HIF_CQn_CTRL 3) 1 with hif := {up0.hif with linkUp := true, cfg := {up0.hif.cfg with bar0 := 77}}, opt := {up0.opt with slots := [(3,mkOp 1 2 0 [])]}}
/-- A state and operands for each clause of `LinkRingsAndQueues`. -/
theorem witness_PcieLinkUpAndReset :
    (∃ s : State, ∃ speed : Nat, ∃ width : Nat, s.Up ∧ 1 ≤ speed ∧ speed ≤ 3 ∧ 1 ≤ width ∧ width ≤ 2) ∧
    (∃ s : State, s.Up) ∧
    (∃ s : State, ∃ n : Nat, s.Up ∧ n ≠ 0x10 ∧ n ≠ 0x14) :=
  ⟨⟨up0, 1, 1, by unfold State.Up; decide +kernel⟩,
   ⟨up0, by unfold State.Up; decide +kernel⟩,
   ⟨up0, 0, by unfold State.Up; decide +kernel⟩⟩
end PcieLinkUpAndReset

namespace RingAndQueueRegisters
def h : State := ((up0.setNum (Reg.HIF_SQn_HEAD 3) 0xFF02).setNum (Reg.HIF_CQn_TAIL 3) 0x7).setNum (Reg.HIF_CQn_HEAD 7) 0x7
/-- A state and operands for each clause of `LinkRingsAndQueues`. -/
theorem witness_RingAndQueueRegisters :
    (∃ s : State, ∃ n : Nat, s.Up ∧ n < 8 ∧ s.Passes .pcie Reg.HIF_MBOX_GO ∧ s.num (Reg.HIF_SQn_BASE_LO n) % 2 ^ 14 = 0) ∧
    (∃ s : State, ∃ n : Nat, ∃ v : Word, s.Up ∧ n < 8 ∧ s.Passes .pcie Reg.HIF_MBOX_GO ∧ (v.toNat % 256 + 256 - s.fld
      (Reg.HIF_SQn_HEAD n) 8 8) % 256 ≤ 255 - (s.fld (Reg.HIF_SQn_HEAD n) 8 8 + 256 - s.fld (Reg.HIF_SQn_HEAD n) 0 8) % 256) ∧
    (∃ s : State, ∃ n : Nat, ∃ v : Word, s.Up ∧ n < 8 ∧ s.Passes .pcie Reg.HIF_MBOX_GO ∧ bitOf v.toNat 0 = true ∧ s.cqEn n =
      false ∧ s.num (Reg.HIF_CQn_BASE_LO n) % 2 ^ 12 = 0 ∧ s.opt.decided = []) ∧
    (∃ s : State, ∃ n : Nat, s.Up ∧ n < 8 ∧ s.Passes .pcie Reg.HIF_MBOX_GO ∧ s.opt.decided = []) :=
  ⟨⟨up0, 0, by unfold State.Up State.Passes State.Alone; decide +kernel⟩,
   ⟨up0, 0, 0, by unfold State.Up State.Passes State.Alone; decide +kernel⟩,
   ⟨up0, 0, 1, by unfold State.Up State.Passes State.Alone; decide +kernel⟩,
   ⟨up0, 0, by unfold State.Up State.Passes State.Alone; decide +kernel⟩⟩
end RingAndQueueRegisters

namespace DescriptorBeginsOperation
def h : State := {((up0.setNum (Reg.HIF_SQn_CTRL 3) 1).setNum (Reg.HIF_SQn_HEAD 3) 0x01FF).setNum (Reg.HIF_CQn_CTRL 3) 1 with hif := {up0.hif with linkUp := true, turnRing := 3}, opt := {up0.opt with lastTag := 4, slots := [(5,mkOp 1 2 0 [])]}}
def h1 : State := h.setNum (Reg.CTRL 1) 1
def h2 : State := {h1.setNum (Reg.HIF_MBOX_DESC 0) 0x00030120 with hif := {h1.hif with linkUp := false}}
def wv0 : Nat := ((h1).nextRing).get (by decide +kernel)
/-- A state and operands for each clause of `DescriptorsAndCompletions`. -/
theorem witness_DescriptorBeginsOperation :
    (∃ s : State, ∃ k : Nat, ∃ desc : BitVec 512, ∃ n : Nat, s.Up ∧ s.freeTag = some k ∧ s.mayAccept = true ∧ s.nextRing =
      some n ∧ bitsOf desc.toNat 8 8 = Blk.SUP ∧ bitsOf desc.toNat 0 8 = 0x20 ∧ bitsOf desc.toNat 64 16 = 0 ∧ s.cqEn (bitsOf
      desc.toNat 16 3) = true ∧ s.inSrst Blk.SUP = false ∧ s.en Blk.SUP = true) ∧
    (∃ s : State, ∃ k : Nat, s.Up ∧ s.freeTag = some k ∧ s.mayAccept = true ∧ s.Passes .pcie Reg.HIF_MBOX_GO ∧ s.flag
      Reg.HIF_MBOX_GO 0 = false ∧ bitsOf s.mboxDesc.toNat 8 8 = Blk.SUP ∧ bitsOf s.mboxDesc.toNat 0 8 = 0x20 ∧ bitsOf
      s.mboxDesc.toNat 64 16 = 0 ∧ s.inSrst Blk.SUP = false ∧ s.en Blk.SUP = true) ∧
    (∃ s : State, ∃ k : Nat, ∃ a : State, s.Up ∧ s.freeTag = some k ∧ s.mayAccept = true ∧ a.Up ∧ a.Passes .pcie
      Reg.HIF_MBOX_GO ∧ a.flag Reg.HIF_MBOX_GO 0 = false ∧ a.mayAccept = false) :=
  ⟨⟨h1, 6, dsc, wv0, by unfold State.Up; decide +kernel, by decide +kernel, by decide +kernel, (Option.some_get _).symm, by
     decide +kernel, by decide +kernel, by decide +kernel, by decide +kernel, by decide +kernel, by decide +kernel⟩,
   ⟨h2, 6, by unfold State.Up State.Passes State.Alone; decide +kernel⟩,
   ⟨h1, 6, {h2 with sup := {h2.sup with pfail := true}}, by unfold State.Up State.Passes State.Alone; decide +kernel⟩⟩
end DescriptorBeginsOperation

namespace CompletionsFreeSlots
def d : Slot := {mkOp 1 2 0 [] with st := .decided}
def d2 : Slot := {mkOp 1 2 0 [] with st := .decided, cq := some 3, origin := .ring 3}
def h : State := {((up0.setNum (Reg.HIF_CQn_CTRL 3) 0x050001).setNum (Reg.HIF_CQ_ROUTE 1) 8).setNum Reg.OPT_HIST_HEAD 1023 with hif := {up0.hif with linkUp := true, sinceSignal := [(3,2)]}, opt := {up0.opt with slots := [(5,d),(6,d2)], decided := [5], tlpWait := [6]}}
def wv0 : Nat := ((h).headOf 8).get (by decide +kernel)
/-- A state and operands for each clause of `DescriptorsAndCompletions`. -/
theorem witness_CompletionsFreeSlots :
    (∃ s : State, ∃ k : Nat, s.Up ∧ s.sup.pfail = false ∧ s.headOf 8 = some k ∧ s.opt.histDone.contains k = false) ∧
    (∃ s : State, ∃ k : Nat, s.Up ∧ s.sup.pfail = false ∧ s.opt.tlpWait.find? (fun e => e % 512 == k) = some k ∧ k < 512) ∧
    (∃ s : State, ∃ q : Nat, s.Up ∧ s.sup.pfail = false ∧ s.fld (Reg.HIF_CQn_CTRL q) 16 8 ≠ 0 ∧ tget (fun _ => 0)
      s.hif.sinceSignal q ≠ 0) :=
  ⟨⟨h, wv0, by unfold State.Up; decide +kernel, by decide +kernel, (Option.some_get _).symm, by decide +kernel⟩,
   ⟨h, 6, by unfold State.Up; decide +kernel⟩,
   ⟨h, 3, by unfold State.Up; decide +kernel⟩⟩
end CompletionsFreeSlots

namespace TimeoutCancelAndQuery
def d : Slot := mkOp 1 2 0 []
def o1 : Slot := mkOp Blk.OPT 1 0 [(0,2,5)]
def o2 : Slot := mkOp Blk.OPT 2 0 [(0,2,5)]
def h : State := {up0 with clk := 800000000, opt := {up0.opt with slots := [(5,d),(6,o1),(7,o2)]}}
/-- A state and operands for each clause of `EndsGivenByOpt`. -/
theorem witness_TimeoutCancelAndQuery :
    (∃ s : State, ∃ k : Nat, s.Up ∧ tfind? s.hlk.serving k = none ∧ (s.slot k).st = .active ∧ (s.slot k).block = Blk.SUP ∧
      s.remoteByTag k = none ∧ s.lcp.cmds.find? (fun c => c.tag == k) = none ∧ (s.slot k).beginClk + (s.slot k).timeoutMs *
      msClk ≤ s.clk ∧ s.sto.writes = [] ∧ s.sto.durable = [] ∧ s.sto.waits = [] ∧ s.ntu.adj = []) ∧
    (∃ s : State, ∃ k : Nat, ∃ x : Slot, s.Up ∧ tfind? s.hlk.serving k = none ∧ s.activeOp k Blk.OPT 1 = some x ∧
      s.targetRefusal x = none ∧ s.cancellable (bitsOf (paramField x.param 0 2) 0 9) = false) ∧
    (∃ s : State, ∃ k : Nat, ∃ x : Slot, s.Up ∧ tfind? s.hlk.serving k = none ∧ s.activeOp k Blk.OPT 2 = some x ∧
      s.targetRefusal x = none) :=
  ⟨⟨h, 5, by unfold State.Up; decide +kernel⟩,
   ⟨h, 6, o1, by unfold State.Up; decide +kernel⟩,
   ⟨h, 7, o2, by unfold State.Up; decide +kernel⟩⟩
end TimeoutCancelAndQuery

namespace LostReportsAndTagWaits
def lr : LostReport := ⟨1,2,3,false,4,5,6,7,8,false⟩
def h0 : State := {(up0.setNum (Reg.HIF_CQn_CTRL 3) 1) with hif := {up0.hif with linkUp := true}, opt := {up0.opt with lost := [lr]}}
def ha (r : List LostReport): State := {h0 with opt := {h0.opt with tlpWait := [9,512+lr.tag,513], lost := [lr]++r, lostRun := some 3}}
def h (r : List LostReport): State := {h0 with opt := {h0.opt with lost := [lr]++r, lostRun := some 3}}
def w : State := {up0 with lat := {up0.lat with pos := 2^50, stakes := [(7,{Stake.empty with valid := true, chainage := 5})]}, opt := {up0.opt with tagWait := [.lcpChange 3, .stake 7]}}
/-- A state and operands for each clause of `EndsGivenByOpt`. -/
theorem witness_LostReportsAndTagWaits :
    (∃ s : State, ∃ v : Word, s.Up ∧ s.Passes .pcie Reg.OPT_LOST_CTRL ∧ bitOf v.toNat 8 = true ∧ s.opt.lostRun = none ∧ s.cqEn
      (v.toNat % 8) = true ∧ s.opt.lost ≠ []) ∧
    (∃ s : State, ∃ q : Nat, ∃ r : LostReport, s.Up ∧ s.opt.lostRun = some q ∧ s.opt.lost[s.lostSent]? = some r ∧ s.sup.pfail
      = false ∧ s.cqEn q = true ∧ s.cqFull q = false) ∧
    (∃ s : State, ∃ r : LostReport, ∃ rest : List LostReport, ∃ k : Nat, s.Up ∧ s.opt.lost = r :: rest ∧ r.tag = k ∧ k < 512 ∧
      s.sup.pfail = false ∧ s.opt.tlpWait.find? (fun e => e % 512 == k) = some (512 + k)) ∧
    (∃ s : State, ∃ i : Nat, ∃ k : Nat, s.Up ∧ s.nextTagWait = some (.stake i) ∧ s.freeTag = some k ∧ (s.stake i).valid = true
      ∧ (s.stake i).late = 0 ∧ (s.stake i).chainage.toNat < s.chain) :=
  ⟨⟨h0, 0x103, by unfold State.Up State.Passes State.Alone; decide +kernel⟩,
   ⟨h [lr], 3, lr, by unfold State.Up; decide +kernel⟩,
   ⟨ha [], lr, [], 2, by unfold State.Up; decide +kernel⟩,
   ⟨w, 7, 0, by unfold State.Up; decide +kernel⟩⟩
end LostReportsAndTagWaits

end Operations

/-! ### Lat -/

namespace Lat

def lt (s : State) (n : Nat) : State := s.setFld Reg.LAT_STATE 0 3 n

namespace BenchmarkInLockedMeasures
def b : State := {(lt up0 LatSt.LOCKED) with clk := 40000000, lat := {up0.lat with pos := 2^32*65536*7, lastQual := some 24000000, periods := [16000000]}, emu := {up0.emu with crossing := some (40000000,230)}}
def b2 : State := {b with lat := {b.lat with lastQual := none}}
/-- A state and operands for each clause of `CrossingsAndTransitions`. -/
theorem witness_BenchmarkInLockedMeasures :
    ∃ s : State, ∃ vrms : Nat, s.Up ∧ s.emu.crossing = some (s.clk, vrms) ∧ s.latSt = LatSt.LOCKED ∧ s.lat.whole = 0 ∧
      s.lat.wholeApplied = 0 ∧ s.qualifies vrms = true :=
  ⟨b, 230, by unfold State.Up; decide +kernel⟩
end BenchmarkInLockedMeasures

namespace CounterCrossStampRecords
/-- A state and operands for each clause of `CrossingsAndTransitions`. -/
theorem witness_CounterCrossStampRecords :
    (∃ s : State, s.Up ∧ s.counterStamps = true ∧ s.chain % 65536 = s.latOffset ∧ s.num64 Reg.LAT_XS_CHAIN_LO ≠ s.chain) ∧
    (∃ s : State, s.Up ∧ s.chain % 65536 ≠ s.latOffset) ∧
    (∃ s : State, s.Up ∧ s.latSt = LatSt.LOCKED) :=
  ⟨⟨{((lt up0 LatSt.SYNTHETIC)) with lat := {up0.lat with pos := 2^80}}, by unfold State.Up; decide +kernel⟩,
   ⟨{((lt up0 LatSt.SYNTHETIC)) with lat := {up0.lat with pos := 2^80+2^40}}, by unfold State.Up; decide +kernel⟩,
   ⟨(lt up0 LatSt.LOCKED).setNum Reg.LAT_XS_SEQ 0xFFFFFFFF, by unfold State.Up; decide +kernel⟩⟩
end CounterCrossStampRecords

namespace TimebaseTransitions
def b (n : Nat) : State := {(lt up0 n) with clk := 99999999, lat := {up0.lat with pos := 2^60, started := true, loadedCycles := 77, periods := [16000001,15999999]}}
def wv0 : State := ((let l := [b 0, b 1,b 2, b 3, b 4, b 5]; l ++ l.map (fun s =>
  {s with lat := {s.lat with lastQual := some 1, startClk := 3}}) ++ l.map (fun s =>
  {s with lat := {s.lat with lastQual := some 99999990, startClk := 99999990, firstCh := s.chain - 3,holdCh := s.chain - 7}})
  : List (State))[8]?).get (by decide +kernel)
def wv1 : State := ((let l := [b 0, b 1,b 2, b 3, b 4, b 5]; l ++ l.map (fun s =>
  {s with lat := {s.lat with lastQual := some 1, startClk := 3}}) ++ l.map (fun s =>
  {s with lat := {s.lat with lastQual := some 99999990, startClk := 99999990, firstCh := s.chain - 3,holdCh := s.chain - 7}})
  : List (State))[0]?).get (by decide +kernel)
def wv2 : State := ((let l := [b 0, b 1,b 2, b 3, b 4, b 5]; l ++ l.map (fun s =>
  {s with lat := {s.lat with lastQual := some 1, startClk := 3}}) ++ l.map (fun s =>
  {s with lat := {s.lat with lastQual := some 99999990, startClk := 99999990, firstCh := s.chain - 3,holdCh := s.chain - 7}})
  : List (State))[1]?).get (by decide +kernel)
def wv3 : State := ((let l := [b 0, b 1,b 2, b 3, b 4, b 5]; l ++ l.map (fun s =>
  {s with lat := {s.lat with lastQual := some 1, startClk := 3}}) ++ l.map (fun s =>
  {s with lat := {s.lat with lastQual := some 99999990, startClk := 99999990, firstCh := s.chain - 3,holdCh := s.chain - 7}})
  : List (State))[3]?).get (by decide +kernel)
def wv4 : State := ((let l := [b 0, b 1,b 2, b 3, b 4, b 5]; l ++ l.map (fun s =>
  {s with lat := {s.lat with lastQual := some 1, startClk := 3}}) ++ l.map (fun s =>
  {s with lat := {s.lat with lastQual := some 99999990, startClk := 99999990, firstCh := s.chain - 3,holdCh := s.chain - 7}})
  : List (State))[12]?).get (by decide +kernel)
def wv5 : Nat := (wv4.lat.lastQual).get (by decide +kernel)
/-- A state and operands for each clause of `CrossingsAndTransitions`. -/
theorem witness_TimebaseTransitions :
    (∃ s : State, ∃ c : Nat, s.Up ∧ s.Alone ∧ s.lat.stored = [] ∧ s.emu.crossing = none ∧ (s.latSt = LatSt.LOCKED ∨ s.latSt =
      LatSt.RELOCK) ∧ s.lat.lastQual = some c ∧ s.lossDue c = true) ∧
    (∃ s : State, s.Up ∧ s.Alone ∧ s.lat.stored = [] ∧ s.emu.crossing = none ∧ s.latSt = LatSt.RESET ∧ s.lat.started = true ∧
      s.lossDue s.lat.startClk = true) ∧
    (∃ s : State, s.Up ∧ s.Alone ∧ s.lat.stored = [] ∧ s.emu.crossing = none ∧ s.latSt = LatSt.ACQUIRE ∧ s.lat.firstCh + 10 *
      65536 ≤ s.chain) ∧
    (∃ s : State, s.Up ∧ s.Alone ∧ s.lat.stored = [] ∧ s.emu.crossing = none ∧ s.latSt = LatSt.HOLDOVER ∧ s.lat.holdCh + 50 *
      65536 ≤ s.chain) ∧
    (∃ s : State, ∃ c : Nat, s.Up ∧ s.Alone ∧ s.lat.stored = [] ∧ s.emu.crossing = none ∧ s.lat.lastQual = some c ∧ s.lossDue
      c = false) ∧
    (∃ s : State, s.Up ∧ s.Alone ∧ s.lat.stored = [] ∧ s.emu.crossing = none ∧ s.lossDue s.lat.startClk = false) ∧
    (∃ s : State, s.Up ∧ s.Alone ∧ s.lat.stored = [] ∧ s.emu.crossing = none ∧ s.chain < s.lat.firstCh + 10 * 65536) ∧
    (∃ s : State, s.Up ∧ s.Alone ∧ s.lat.stored = [] ∧ s.emu.crossing = none ∧ s.chain < s.lat.holdCh + 50 * 65536) :=
  ⟨⟨wv0, 1, by unfold State.Up State.Alone; decide +kernel⟩,
   ⟨wv1, by unfold State.Up State.Alone; decide +kernel⟩,
   ⟨wv2, by unfold State.Up State.Alone; decide +kernel⟩,
   ⟨wv3, by unfold State.Up State.Alone; decide +kernel⟩,
   ⟨wv4, wv5, by unfold State.Up; decide +kernel, by unfold State.Alone; decide +kernel, by decide +kernel, by decide +kernel,
     (Option.some_get _).symm, by decide +kernel⟩,
   ⟨wv4, by unfold State.Up State.Alone; decide +kernel⟩,
   ⟨wv4, by unfold State.Up State.Alone; decide +kernel⟩,
   ⟨wv4, by unfold State.Up State.Alone; decide +kernel⟩⟩
end TimebaseTransitions

namespace StakeEdits
def mk (o c : Nat) (l : List (Nat × Nat × Nat)) : Slot := {mkOp Blk.LAT o c l with origin := .mailbox}
def x1 : Slot := mk 1 0 [(0,2,4095),(16,8,1000000),(24,1,7),(25,1,3)]
def x1t : Slot := mk 1 5 [(0,2,0),(16,8,1000000),(24,1,1),(38,2,9),(40,8,1)]
def x2 : Slot := mk 2 0 [(0,2,4095),(16,8,1000000),(24,1,6),(25,1,1),(32,4,1024),(36,2,0xFFFF)]
def x3 : Slot := mk 3 0 [(0,2,4095)]
def x4 : Slot := mk 4 0 [(0,1,0x0F),(2,2,3)]
def b : State := {up0.setPoint 9 ⟨0,Q.GOOD,1,5,0,.host,false⟩ with lat := {up0.lat with pos := 2^32*5}}
def st : Stake := {Stake.empty with valid := true, owner := 2, gen := 0xFFFF, chainage := 999, action := 7}
def b2 : State := {b with lat := {b.lat with stakes := [(7,{st with owner := 0xF, ctx := 3}),(8,{st with owner := 0xF, ctx := 2}),(9,{st with owner := 0xF, ctx := 3, action := 3, target := 4}),(4095,st)]}, claims := [⟨0x2004,Blk.LAT,1,9⟩]}
def Ss : List State := [withOp b 3 x1, withOp b 3 x1t, withOp b2 3 x2, withOp b2 3 x3, withOp b2 3 x4]
def wv0 : State := ((Ss : List (State))[0]?).get (by decide +kernel)
def wv1 : State := ((Ss : List (State))[2]?).get (by decide +kernel)
def wv2 : State := ((Ss : List (State))[3]?).get (by decide +kernel)
def wv3 : State := ((Ss : List (State))[4]?).get (by decide +kernel)
/-- A state and operands for each clause of `StakeEditsTakeEffect`. -/
theorem witness_StakeEdits :
    (∃ s : State, ∃ k : Nat, ∃ x : Slot, ∃ i : Nat, s.Up ∧ s.Alone ∧ tfind? s.hlk.serving k = none ∧ s.mode ≠ Mode.MINIMAL ∧
      s.activeEdit k 1 = some x ∧ editIndex x = i ∧ i < 0x1000 ∧ (s.stake i).valid = false ∧ editCheck x = false ∧
      s.entryValid (editEntry x) = true ∧ s.stakeAllowed x.editor x.ctx (editEntry x) = true ∧ (editEntry x).action ≠ 3 ∧
      (editEntry x).persist = false ∧ s.chain ≤ (editEntry x).chainage.toNat) ∧
    (∃ s : State, ∃ k : Nat, ∃ x : Slot, ∃ i : Nat, s.Up ∧ s.Alone ∧ tfind? s.hlk.serving k = none ∧ s.mode ≠ Mode.MINIMAL ∧
      s.activeEdit k 2 = some x ∧ editIndex x = i ∧ i < 0x1000 ∧ (s.stake i).valid = true ∧ editCheck x = false ∧ s.entryValid
      (editEntry x) = true ∧ s.stakeAllowed x.editor x.ctx (editEntry x) = true ∧ (s.stake i).owner = x.editor ∧
      s.ctxMayTarget x.ctx (s.stake i) = true ∧ (editEntry x).action ≠ 3 ∧ (s.stake i).action ≠ 3 ∧ (editEntry x).persist =
      false ∧ (s.stake i).persist = false ∧ s.chain ≤ (editEntry x).chainage.toNat) ∧
    (∃ s : State, ∃ k : Nat, ∃ x : Slot, ∃ i : Nat, s.Up ∧ s.Alone ∧ tfind? s.hlk.serving k = none ∧ s.mode ≠ Mode.MINIMAL ∧
      s.activeEdit k 3 = some x ∧ editIndex x = i ∧ i < 0x1000 ∧ (s.stake i).valid = true ∧ editCheck x = false ∧ s.mayClear x
      (s.stake i) = true ∧ (s.stake i).action ≠ 3 ∧ (s.stake i).persist = false) ∧
    (∃ s : State, ∃ k : Nat, ∃ x : Slot, s.Up ∧ s.Alone ∧ tfind? s.hlk.serving k = none ∧ s.mode ≠ Mode.MINIMAL ∧ s.activeEdit
      k 4 = some x ∧ x.editor = Blk.HIF ∧ x.ctx = 0 ∧ (∀ e, e ∈ s.validStakes → e.2.persist = false)) :=
  ⟨⟨wv0, 3, x1, 4095, by unfold State.Up State.Alone; decide +kernel⟩,
   ⟨wv1, 3, x2, 4095, by unfold State.Up State.Alone; decide +kernel⟩,
   ⟨wv2, 3, x3, 4095, by unfold State.Up State.Alone; decide +kernel⟩,
   ⟨wv3, 3, x4, by unfold State.Up State.Alone; decide +kernel⟩⟩
end StakeEdits

namespace PersistEditEndsDurable
def st : Stake := {Stake.empty with valid := true, owner := 2, gen := 0xFFFF, chainage := 999, action := 7, persist := true}
def b : State := {withOp up0 3 {mkOp Blk.LAT 1 0 [] with result := 55} with lat := {up0.lat with stakes := [(8,st)], stored := [(7,st)], durWait := [(3,[8])]}, sto := {up0.sto with durable := [(.stakes 3, 0)]}}
def b2 : State := {b with lat := {b.lat with stakes := [(8,{st with persist := false})], stored := [(8,st)]}}
/-- A state and operands for each clause of `StakeEditsTakeEffect`. -/
theorem witness_PersistEditEndsDurable :
    ∃ s : State, ∃ k : Nat, ∃ i : Nat, s.Up ∧ tfind? s.hlk.serving k = none ∧ (s.slot k).st = .active ∧ s.lat.durWait.find?
      (fun e => e.1 == k) = some (k, [i]) ∧ s.stoEnded (.stakes k) = some St.OK :=
  ⟨b, 3, 8, by unfold State.Up; decide +kernel⟩
end PersistEditEndsDurable

namespace StakesFire
def st : Stake := {Stake.empty with valid := true, owner := 2, gen := 0xFFFF, chainage := 1000000, action := 7}
def b : State := {((lt up0 LatSt.LOCKED).setFlag (Reg.CTRL Blk.LAT) 0 true).setFlag Reg.LAT_STATE 3 true |>.setFlag Reg.LAT_STATE 6 true with lat := {up0.lat with pos := 2^32*1000000 + 700*rateFor 16000000 0, rate := rateFor 16000000 0, stakes := [(8,st)]}}
def b0 : State := {b with lat := {b.lat with pos := 2^32*1000000}, opt := {b.opt with lastTag := 2}}
def f : Firing := ⟨3,1,9,1,0,77,0,false⟩
def b2 : State := {withOp up0 3 (mkOp Blk.LAT 1 0 []) with lat := {up0.lat with firings := [f]}}
def b3 : State := b.setFlag (Reg.DIO_CHcZX 23) 16 true
def wv0 : Firing := ((b2).lat.firings.find? (fun g => g.tag == (3))).get (by decide +kernel)
/-- A state and operands for each clause of `StakesFire`. -/
theorem witness_StakesFire :
    (∃ s : State, ∃ i : Nat, ∃ p : Stake, ∃ n : Nat, s.Up ∧ s.firesOpen = true ∧ s.dueStake = some (i, p) ∧ s.stake i = p ∧
      p.action = 7 ∧ p.period = 0 ∧ p.pastDue = false ∧ p.rolledTo = none ∧ p.chainage.toNat ≤ s.chain ∧ s.lat.pos -
      p.chainage.toNat * 2 ^ 32 ≤ 800 * s.lat.rate ∧ s.freeTag = some n ∧ tfind? s.hlk.serving n = none ∧ s.lat.feed = [] ∧
      s.arb.resv = []) ∧
    (∃ s : State, ∃ n : Nat, ∃ f : Firing, s.Up ∧ s.lat.firings.find? (fun g => g.tag == n) = some f ∧ f.tag = n ∧ f.action =
      1 ∧ f.okStatus = St.OK ∧ (s.slot n).st = .active ∧ tfind? s.hlk.serving n = none) ∧
    (∃ s : State, ∃ c : Nat, s.Up ∧ c < 24 ∧ s.flag Reg.LAT_STATE 3 = true ∧ s.flag (Reg.DIO_CHcZX c) 16 = true ∧ (s.chan
      c).waiting = none ∧ s.atAngle (s.fld (Reg.DIO_CHcZX c) 0 16) (s.flag (Reg.DIO_CHcZX c) 17) = true ∧ tfind? s.lat.zxCh c
      ≠ some s.chain) ∧
    (∃ s : State, ∃ c : Nat, s.Up ∧ s.atAngle (s.fld (Reg.DIO_CHcZX c) 0 16) (s.flag (Reg.DIO_CHcZX c) 17) = false) ∧
    (∃ s : State, s.Up ∧ s.flag Reg.LAT_STATE 6 = true ∧ s.flag Reg.LAT_STATE 3 = true ∧ s.atAngle (s.fld Reg.LAT_ZXOUT 0 16)
      (s.flag Reg.LAT_ZXOUT 17) = true ∧ tfind? s.lat.zxCh 24 ≠ some s.chain) ∧
    (∃ s : State, s.Up ∧ s.atAngle (s.fld Reg.LAT_ZXOUT 0 16) (s.flag Reg.LAT_ZXOUT 17) = false) :=
  ⟨⟨b, 8, st, 0, by unfold State.Up; decide +kernel⟩,
   ⟨b2, 3, wv0, by unfold State.Up; decide +kernel, (Option.some_get _).symm, by decide +kernel, by decide +kernel, by
     decide +kernel, by decide +kernel, by decide +kernel⟩,
   ⟨{b3 with lat := {b3.lat with pos := 2^32*65536}}, 23, by unfold State.Up; decide +kernel⟩,
   ⟨b, 0, by unfold State.Up; decide +kernel⟩,
   ⟨{b3 with lat := {b3.lat with pos := 2^32*65536}}, by unfold State.Up; decide +kernel⟩,
   ⟨b, by unfold State.Up; decide +kernel⟩⟩
end StakesFire

end Lat

/-! ### Pse -/

namespace Pse

def ps (s : State) (p n : Nat) : State := s.setFld (Reg.PSE_PnSTAT p) 0 4 n
def pw (s : State) (p : Nat) : State := ((s.setPortSt p PortSt.POWERED).setDiePort p {DiePort.off with pairs := 3, cls := 4}).setPortX p {PortX.idle with grant := 30000}

namespace PortComesUp
def b (p : Nat) : State := {(up0.setFlag (Reg.CTRL Blk.PSE) 0 true).setFlag (Reg.PSE_PnCFG p) 0 true with clk := 3000000000}
def Ss : List State := [{b 0 with pse := {(b 0).pse with slotClk := some 2999999999}}, (b 0).setPortX 0 {PortX.idle with detDue := 3000000001},ps (b 0) 0 1, ps (b 47) 47 1, ps (b 5) 5 2, ps (((b 5).setNum Reg.PSE_STAGGER 0xF1 |>.setFld Reg.PSE_STAGGER 0 4 1).setPortX 5 {PortX.idle with pairsWant := 3, detClk := 3000000000-5}) 5 5, ps (b 5) 5 6, (pw (b 5) 5).setNum (Reg.PSE_PnCFG 5) 9 |>.setFlag (Reg.PSE_PnSTAT 5) 11 true]
def wv0 : State := ((Ss : List (State))[2]?).get (by decide +kernel)
def wv1 : State := ((Ss : List (State))[1]?).get (by decide +kernel)
def wv2 : State := ((Ss : List (State))[4]?).get (by decide +kernel)
def wv3 : State := ((Ss : List (State))[5]?).get (by decide +kernel)
def wv4 : State := ((Ss : List (State))[0]?).get (by decide +kernel)
def wv5 : State := ((Ss : List (State))[6]?).get (by decide +kernel)
def wv6 : State := ((Ss : List (State))[7]?).get (by decide +kernel)
/-- A state and operands for each clause of `PortPowersUpAndIsCut`. -/
theorem witness_PortComesUp :
    (∃ s : State, ∃ p : Nat, s.Up ∧ p < 48 ∧ s.mayDetect p = true ∧ (s.portX p).detDue ≤ s.clk) ∧
    (∃ s : State, ∃ p : Nat, s.Up ∧ p < 48 ∧ s.clk < (s.portX p).detDue) ∧
    (∃ s : State, ∃ p : Nat, s.Up ∧ p < 48 ∧ s.mayDetect p = true) ∧
    (∃ s : State, ∃ p : Nat, ∃ a : Nat, s.Up ∧ p < 48 ∧ a ≤ 8 ∧ s.portSt p = PortSt.CLASSIFY ∧ (s.portX p).keepGrant = false) ∧
    (∃ s : State, ∃ p : Nat, s.Up ∧ p < 48 ∧ s.startsHeld = false ∧ s.flag Reg.PSE_STAGGER 8 = false ∧ s.slotFalls.isSome =
      true ∧ s.startsPerSlot = 1 ∧ s.slotStale p = false ∧ s.firstPort ((List.range 48).filter (fun q => s.portSt q ==
      PortSt.STAGGER && !s.portBarred q)) = some p) ∧
    (∃ s : State, ∃ p : Nat, s.Up ∧ p < 48 ∧ s.slotFalls = none ∧ s.flag Reg.PSE_STAGGER 8 = false) ∧
    (∃ s : State, ∃ p : Nat, s.Up ∧ p < 48 ∧ s.portSt p = PortSt.INRUSH ∧ (s.portX p).since + 60 * msClk ≤ s.clk ∧ s.portOps p
      1 = [] ∧ s.portOps p 3 = []) ∧
    (∃ s : State, ∃ p : Nat, s.Up ∧ p < 48 ∧ s.portSt p = PortSt.POWERED ∧ s.flag (Reg.PSE_PnCFG p) 3 = true ∧ s.flag
      (Reg.PSE_PnSTAT p) 11 = true ∧ (s.portX p).autoDone = false ∧ (s.portX p).since + 1600 * msClk ≤ s.clk) :=
  ⟨⟨wv0, 0, by unfold State.Up; decide +kernel⟩,
   ⟨wv1, 0, by unfold State.Up; decide +kernel⟩,
   ⟨wv0, 0, by unfold State.Up; decide +kernel⟩,
   ⟨wv2, 5, 0, by unfold State.Up; decide +kernel⟩,
   ⟨wv3, 5, by unfold State.Up; decide +kernel⟩,
   ⟨wv4, 0, by unfold State.Up; decide +kernel⟩,
   ⟨wv5, 5, by unfold State.Up; decide +kernel⟩,
   ⟨wv6, 5, by unfold State.Up; decide +kernel⟩⟩
end PortComesUp

namespace DieCutsEndInErrDelay
/-- A state and operands for each clause of `PortPowersUpAndIsCut`. -/
theorem witness_DieCutsEndInErrDelay :
    ∃ s : State, ∃ p : Nat, s.Alone ∧ (s.portX p).sample = none ∧ p < 48 ∧ s.linked p = true ∧ s.portSt p = PortSt.POWERED ∧
      (s.diePort p).pairs ≠ 0 ∧ (s.diePort p).dual = false ∧ (∀ e, e ∈ portEntries p → s.lumState e = LumSt.DISABLED) :=
  ⟨pw up0 0, 0, by unfold State.Alone; decide +kernel⟩
end DieCutsEndInErrDelay

namespace BulkSupplyConditions
def b : State := pw (pw up0 0) 47
/-- A state and operands for each clause of `BulkSupplyAndDies`. -/
theorem witness_BulkSupplyConditions :
    (∃ s : State, ∃ mv : Nat, s.Up ∧ mv < 2 ^ 32 ∧ (mv < 49000 ∨ 58000 < mv)) ∧
    (∃ s : State, ∃ mv : Nat, s.Up ∧ mv < 2 ^ 32 ∧ 51000 ≤ mv ∧ mv ≤ 57000) ∧
    (∃ s : State, ∃ mv : Nat, s.Up ∧ mv < 2 ^ 32 ∧ s.Alone ∧ mv < 44000) ∧
    (∃ s : State, ∃ mv : Nat, s.Up ∧ mv < 2 ^ 32 ∧ s.Alone ∧ 60000 < mv) ∧
    (∃ s : State, ∃ mv : Nat, s.Up ∧ mv < 2 ^ 32 ∧ s.Alone) ∧
    (∃ s : State, ∃ mv : Nat, s.Up ∧ mv < 2 ^ 32 ∧ 51000 ≤ mv ∧ mv ≤ 57000 ∧ s.pse.vpseCut = true) :=
  ⟨⟨up0, 0, by unfold State.Up; decide +kernel⟩,
   ⟨up0, 51000, by unfold State.Up; decide +kernel⟩,
   ⟨up0, 0, by unfold State.Up State.Alone; decide +kernel⟩,
   ⟨up0, 60001, by unfold State.Up State.Alone; decide +kernel⟩,
   ⟨up0, 0, by unfold State.Up State.Alone; decide +kernel⟩,
   ⟨{b with pse := {b.pse with vpseCut := true}}, 51000, by unfold State.Up; decide +kernel⟩⟩
end BulkSupplyConditions

namespace DiesReportAndHold
def b : State := (pw (pw up0 0) 47).setFlag (Reg.PSE_PnCFG 47) 2 true
def Ss : List State := [up0,b,b.setDieMode 5 2, (b.setDieMode 0 3).setNum Reg.PSE_DIE_STAT 0xFFFFFF]
def wv0 : State := ((expandS (Ss) : List (State))[0]?).get (by decide +kernel)
def wv1 : State := ((expandS (Ss) : List (State))[4]?).get (by decide +kernel)
def wv2 : State := ((expandS (Ss) : List (State))[2]?).get (by decide +kernel)
def wv3 : State := ((expandS (Ss) : List (State))[1]?).get (by decide +kernel)
/-- A state and operands for each clause of `BulkSupplyAndDies`. -/
theorem witness_DiesReportAndHold :
    (∃ d : Nat, ∃ temp : Int, d < 6 ∧ temp ≤ 1450) ∧
    (∃ s : State, ∃ d : Nat, ∃ temp : Int, d < 6 ∧ 1450 < temp ∧ s.Alone) ∧
    (∃ s : State, ∃ d : Nat, ∃ temp : Int, d < 6 ∧ 1450 < temp ∧ s.together = true) ∧
    (∃ s : State, ∃ d : Nat, d < 6 ∧ s.Up ∧ s.dieMode d = 0) ∧
    (∃ s : State, ∃ d : Nat, d < 6 ∧ s.dieMode d ≠ 0) ∧
    (∃ s : State, ∃ d : Nat, ∃ p : Nat, d < 6 ∧ s.Up ∧ s.pse.recordDue.contains p = true) :=
  ⟨⟨0, -100, by decide +kernel⟩,
   ⟨wv0, 0, 1451, by unfold State.Alone; decide +kernel⟩,
   ⟨wv1, 0, 1451, by decide +kernel⟩,
   ⟨wv0, 0, by unfold State.Up; decide +kernel⟩,
   ⟨wv2, 5, by decide +kernel⟩,
   ⟨wv3, 0, 0, by unfold State.Up; decide +kernel⟩⟩
end DiesReportAndHold

namespace PortSampleMeasures
/-- A state and operands for each clause of `PortSamplesAndOperations`. -/
theorem witness_PortSampleMeasures :
    ∃ s : State, ∃ vpse : Nat, s.Up ∧ s.linked 0 = true ∧ s.fld Reg.PSE_PT_BASE 0 16 = 0xFFFF ∧ ((vpse : Int) - (s.pse.limV :
      Int)).natAbs ≤ 500 :=
  ⟨{(pw up0 0).setNum Reg.PSE_PT_BASE 0xFFFF with pse := {(pw up0 0).pse with limV := 500}}, 0,
    by unfold State.Up; decide +kernel⟩
end PortSampleMeasures

namespace PortOperations
def o (n p : Nat) (l : List (Nat × Nat × Nat)): Slot := mkOp Blk.PSE n 0 ([(0,1,p)]++l)
def x1 : Slot := o 1 5 []
def x2 : Slot := o 2 5 []
def x3 : Slot := o 3 5 [(2,2,1000)]
def x4 : Slot := o 4 5 []
def P : State := pw up0 5
def Ss : List State := [withOp up0 3 x1, withOp P 3 x1, withOp P 3 x2, withOp P 3 x3, P.setPortX 5 {PortX.idle with cycleEnd := some 0},P.setPortX 5 {PortX.idle with cycleEnd := some 7000000000}, withOp (ps up0 5 9) 3 x4, up0.setFlag (Reg.CTRL Blk.PSE) 0 true, ps (up0.setFlag (Reg.PSE_PnCFG 5) 0 true) 5 8, ps ((up0.setFlag (Reg.PSE_PnCFG 5) 0 true).setPortX 5 {PortX.idle with cuts := [0,0,0]}) 5 8 ].map (fun s => {s with clk := 3000000000})
def wv0 : State := ((Ss : List (State))[0]?).get (by decide +kernel)
def wv1 : State := ((Ss : List (State))[1]?).get (by decide +kernel)
def wv2 : State := ((Ss : List (State))[2]?).get (by decide +kernel)
def wv3 : State := ((Ss : List (State))[3]?).get (by decide +kernel)
def wv4 : State := ((Ss : List (State))[4]?).get (by decide +kernel)
def wv5 : Nat := ((wv4.portX (5)).cycleEnd).get (by decide +kernel)
def wv6 : State := ((Ss : List (State))[5]?).get (by decide +kernel)
def wv7 : Nat := ((wv6.portX (5)).cycleEnd).get (by decide +kernel)
def wv8 : State := ((Ss : List (State))[6]?).get (by decide +kernel)
def wv9 : State := ((Ss : List (State))[7]?).get (by decide +kernel)
def wv10 : State := ((Ss : List (State))[8]?).get (by decide +kernel)
/-- A state and operands for each clause of `PortSamplesAndOperations`. -/
theorem witness_PortOperations :
    (∃ s : State, ∃ k : Nat, ∃ p : Nat, ∃ x : Slot, s.Up ∧ p < 48 ∧ paramField x.param 0 1 = p ∧ tfind? s.hlk.serving k = none
      ∧ s.activeOp k Blk.PSE 1 = some x ∧ s.mode ≠ Mode.MINIMAL ∧ s.portBusy p = none ∧ s.portSt p = PortSt.DISABLED) ∧
    (∃ s : State, ∃ k : Nat, ∃ p : Nat, ∃ x : Slot, s.Up ∧ p < 48 ∧ paramField x.param 0 1 = p ∧ tfind? s.hlk.serving k = none
      ∧ s.activeOp k Blk.PSE 1 = some x ∧ s.mode ≠ Mode.MINIMAL ∧ s.portBusy p = none ∧ s.portSt p = PortSt.POWERED) ∧
    (∃ s : State, ∃ k : Nat, ∃ p : Nat, ∃ x : Slot, s.Up ∧ p < 48 ∧ paramField x.param 0 1 = p ∧ tfind? s.hlk.serving k = none
      ∧ s.activeOp k Blk.PSE 2 = some x ∧ bitOf (paramField x.param 1 1) 0 = false ∧ s.portSt p = PortSt.POWERED ∧ s.Alone ∧
      (∀ e, e ∈ portEntries p → s.lumState e = LumSt.DISABLED)) ∧
    (∃ s : State, ∃ k : Nat, ∃ p : Nat, ∃ x : Slot, s.Up ∧ p < 48 ∧ paramField x.param 0 1 = p ∧ tfind? s.hlk.serving k = none
      ∧ s.activeOp k Blk.PSE 3 = some x ∧ 1000 ≤ paramField x.param 2 2 ∧ paramField x.param 2 2 ≤ 60000 ∧ s.portSt p =
      PortSt.POWERED ∧ s.Alone ∧ (∀ e, e ∈ portEntries p → s.lumState e = LumSt.DISABLED)) ∧
    (∃ s : State, ∃ k : Nat, ∃ p : Nat, ∃ x : Slot, ∃ c : Nat, s.Up ∧ p < 48 ∧ paramField x.param 0 1 = p ∧ tfind?
      s.hlk.serving k = none ∧ (s.portX p).cycleEnd = some c ∧ c ≤ s.clk) ∧
    (∃ s : State, ∃ k : Nat, ∃ p : Nat, ∃ x : Slot, ∃ c : Nat, s.Up ∧ p < 48 ∧ paramField x.param 0 1 = p ∧ tfind?
      s.hlk.serving k = none ∧ (s.portX p).cycleEnd = some c ∧ s.clk < c) ∧
    (∃ s : State, ∃ k : Nat, ∃ p : Nat, ∃ x : Slot, s.Up ∧ p < 48 ∧ paramField x.param 0 1 = p ∧ tfind? s.hlk.serving k = none
      ∧ s.activeOp k Blk.PSE 4 = some x ∧ s.portSt p = PortSt.FAULT_LOCK) ∧
    (∃ s : State, ∃ k : Nat, ∃ p : Nat, ∃ x : Slot, ∃ v : Word, s.Up ∧ p < 48 ∧ paramField x.param 0 1 = p ∧ tfind?
      s.hlk.serving k = none ∧ s.Passes .pcie (Reg.PSE_PnCFG p) ∧ s.en Blk.PSE = true ∧ s.portSt p = PortSt.DISABLED ∧ bitOf
      v.toNat 0 = true) ∧
    (∃ s : State, ∃ k : Nat, ∃ p : Nat, ∃ x : Slot, s.Up ∧ p < 48 ∧ paramField x.param 0 1 = p ∧ tfind? s.hlk.serving k = none
      ∧ s.portSt p = PortSt.ERR_DELAY ∧ s.portBarred p = false ∧ (s.portX p).since + 1000 * msClk ≤ s.clk) :=
  ⟨⟨wv0, 3, 5, x1, by unfold State.Up; decide +kernel⟩,
   ⟨wv1, 3, 5, x1, by unfold State.Up; decide +kernel⟩,
   ⟨wv2, 3, 5, x2, by unfold State.Up State.Alone; decide +kernel⟩,
   ⟨wv3, 3, 5, x3, by unfold State.Up State.Alone; decide +kernel⟩,
   ⟨wv4, 3, 5, x1, wv5, by unfold State.Up; decide +kernel, by decide +kernel, by decide +kernel, by decide +kernel,
     (Option.some_get _).symm, by decide +kernel⟩,
   ⟨wv6, 3, 5, x1, wv7, by unfold State.Up; decide +kernel, by decide +kernel, by decide +kernel, by decide +kernel,
     (Option.some_get _).symm, by decide +kernel⟩,
   ⟨wv8, 3, 5, x4, by unfold State.Up; decide +kernel⟩,
   ⟨wv9, 3, 5, x1, 1, by unfold State.Up State.Passes State.Alone; decide +kernel⟩,
   ⟨wv10, 3, 5, x1, by unfold State.Up; decide +kernel⟩⟩
end PortOperations

end Pse

/-! ### Arb -/

namespace Arb

def ae : State := up0.setFlag (Reg.CTRL Blk.ARB) 0 true
def alloc (s : State) (p n : Nat) : State := s.setNum (Reg.PSE_PnALLOC p) n
def lumOn (s : State) (e t : Nat) : State := ((s.setFlag (Reg.LCP_LnCFG e) 0 true).setFld (Reg.LCP_LnCFG e) 2 6 t)

namespace EvaluationShowsPools
def b1 : State := {ae.setNum Reg.PSE_TOTAL_PWR 99999 with arb := {ae.arb with limitsDue := [(1,5000,7,0)], resv := [(3,⟨1,1,9,0,500,3,1,0xFFFF⟩)]}, dio := {ae.dio with chans := [(2,{DioCh.idle with grant := 40})]}}
/-- A state and operands for each clause of `PoolsAreEvaluated`. -/
theorem witness_EvaluationShowsPools :
    (∃ q : Nat, q < 2) ∧
    (∃ s : State, s.Alone ∧ s.en Blk.ARB = false) :=
  ⟨⟨0, by decide +kernel⟩,
   ⟨up0, by unfold State.Alone; decide +kernel⟩⟩
end EvaluationShowsPools

namespace FittingPortIsGranted
def ar (p c : Nat) : AskRow := ⟨.port p, 3, c, Blk.PSE, p⟩
def b (p : Nat) : State := ((((alloc (ae.setNum (Reg.ARB_PLq_LIMIT 0) 30000) p 30000).setFld (Reg.ARB_PnCFG p) 4 3 3).setFld (Reg.ARB_PnCFG p) 0 2 0).setPortSt p PortSt.GRANT_WAIT |>.setPortX p {PortX.idle with askClk := some 5, pairsWant := 3}).setFlag Reg.PSE_STAGGER 8 false |>.setFlag Reg.ARB_CFG 2 false
/-- A state and operands for each clause of `PoolsAreEvaluated`. -/
theorem witness_FittingPortIsGranted :
    ∃ s : State, ∃ p : Nat, ∃ a : AskRow, s.Up ∧ s.Alone ∧ p < 48 ∧ s.en Blk.ARB = true ∧ s.lat.feed = [] ∧ s.arb.limitsDue =
      [] ∧ (∀ q, q < 48 → s.portSt q ≠ PortSt.POWERED) ∧ s.arb.resv = [] ∧ s.arb.fired = [] ∧ s.poolSt 0 = 0 ∧ s.poolSt 1 = 0
      ∧ s.sampleDraw.overBudget 0 = false ∧ s.sampleDraw.overBudget 1 = false ∧ s.sampleDraw.asks = [a] ∧ a.ask = .port p ∧
      s.basis p = 0 ∧ (s.takePortCfg p).basis p = 0 ∧ s.flag Reg.PSE_STAGGER 8 = false ∧ s.restoreEn = false ∧ s.portRefusal p
      (s.num (Reg.PSE_PnALLOC p)) (s.num (Reg.PSE_PnALLOC p) - (s.portX p).grant) = none :=
  ⟨b 0, 0, ar 0 5, by unfold State.Up State.Alone; decide +kernel⟩
end FittingPortIsGranted

namespace OverBudgetStates
def so (q n : Nat) : State := {(ae.setPoolSt q n).setNum (Reg.ARB_PLq_OVER_MS q) 577 with clk := 100000000}
def ov (s : State) (q : Nat) : State := s.setNum (Reg.ARB_PLq_LIMIT q) 0 |> fun s => {s with arb := {s.arb with draw0 := [5], draw1 := [5]}}
def cp : State := let s := ((lumOn (so 0 1) 17 2).setLum 17 {Lum.fresh with grant := 30000}).setPortX 1 {PortX.idle with grant := 30000}
  (s.setFld (Reg.ARB_PnCFG 1) 0 2 2).setNum (Reg.ARB_PLq_LIMIT 0) 12000
def cs : Consumer := match cp.capOrder with | [c] => c | _ => ⟨0,0,0,0,0⟩
/-- A state and operands for each clause of `PoolsAreEvaluated`. -/
theorem witness_OverBudgetStates :
    (∃ s : State, ∃ q : Nat, s.Up ∧ s.Alone ∧ q < 2 ∧ s.poolSt q = 1 ∧ 500 ≤ s.num (Reg.ARB_PLq_OVER_MS q) ∧ s.overBudget q =
      false) ∧
    (∃ s : State, ∃ q : Nat, s.Up ∧ s.Alone ∧ q < 2 ∧ s.poolSt q = 1 ∧ 500 ≤ s.num (Reg.ARB_PLq_OVER_MS q) ∧ s.overBudget q =
      true ∧ s.consumers q = []) ∧
    (∃ s : State, ∃ q : Nat, s.Up ∧ s.Alone ∧ q < 2 ∧ s.num (Reg.ARB_PLq_OVER_MS q) < 500) ∧
    (∃ s : State, ∃ q : Nat, s.Up ∧ s.Alone ∧ q < 2 ∧ s.poolSt q = 2 ∧ (if q = 0 then s.arb.lastCut0 else s.arb.lastCut1) + 20
      * msClk ≤ s.clk ∧ s.overBudget q = false) ∧
    (∃ s : State, ∃ q : Nat, ∃ c : Consumer, ∃ need : Nat, s.Up ∧ s.Alone ∧ q < 2 ∧ s.poolSt 0 = 1 ∧ s.arb.coreDown = false ∧
      s.capOrder = [c] ∧ s.overage 0 - s.shedDue = need ∧ 0 < need ∧ s.floorPrice c.index < c.grant ∧ Nat.max 1 (Nat.max
      (s.floorPrice c.index) (c.grant - need)) < 2 ^ 32) :=
  ⟨⟨so 0 1, 0, by unfold State.Up State.Alone; decide +kernel⟩,
   ⟨ov (so 0 1) 0, 0, by unfold State.Up State.Alone; decide +kernel⟩,
   ⟨so 0 1, 1, by unfold State.Up State.Alone; decide +kernel⟩,
   ⟨so 0 2, 0, by unfold State.Up State.Alone; decide +kernel⟩,
   ⟨cp, 0, cs, cp.overage 0, by unfold State.Up State.Alone; decide +kernel⟩⟩
end OverBudgetStates

namespace LookaheadReserves
def st : Stake := {Stake.empty with valid := true, gen := 5, owner := 2, action := 4, target := 3, arg := 1}
def b : State := {(alloc ((ae.setFld Reg.LAT_STATE 0 3 2).setNum (Reg.ARB_PLq_LIMIT 0) 50000) 3 30000).setFld Reg.ARB_CFG 8 8 10 with arb := {ae.arb with coreDown := false}, lat := {ae.lat with pos := 2^32*65536, stakes := [(7,{st with chainage := 65536}),(8,{st with chainage := 65536*11}),(9,{st with chainage := 65536*11+1})]}}
def b2 : State := {b with arb := {b.arb with toPrice := [(8,5,65536*11),(1,1,1)]}}
def rr : Resv := ⟨8,5,65536*11,0,100,900,0,3⟩
def b3 : State := {b with arb := {b.arb with resv := [(2,rr)]}}
/-- A state and operands for each clause of `LookaheadAndOuterCheck`. -/
theorem witness_LookaheadReserves :
    (∃ s : State, ∃ i : Nat, s.Up ∧ s.lat.feed = [] ∧ (s.stake i).valid = true ∧ (s.occurrences (s.stake i)).contains (s.stake
      i).fireAt = true ∧ s.arb.toPrice.contains (i, (s.stake i).gen, (s.stake i).fireAt) = false ∧ s.arb.resv = []) ∧
    (∃ s : State, ∃ i : Nat, ∃ g : Nat, ∃ c : Nat, ∃ rest : List (Nat × Nat × Nat), ∃ q : Nat, ∃ need : Nat, ∃ j : Nat, s.Up ∧
      s.lat.feed = [] ∧ s.arb.toPrice = (i, g, c) :: rest ∧ s.arb.coreDown = false ∧ s.mode ≠ Mode.MINIMAL ∧ s.en Blk.ARB =
      true ∧ (s.stake i).valid = true ∧ (s.stake i).gen = g ∧ s.inWindow c = true ∧ s.stakeNeed (s.stake i) false = some (q,
      need) ∧ 0 < need ∧ need ≤ s.resvRoom q ∧ s.freeResv = some j) ∧
    (∃ s : State, ∃ i : Nat, ∃ r : Resv, s.Up ∧ s.lat.feed = [] ∧ s.arb.resv = [(i, r)] ∧ s.arb.coreDown = false ∧ s.en
      Blk.ARB = true ∧ 0 < r.unheld ∧ s.latSt ≠ LatSt.RESET ∧ s.atAngle 0 false = true ∧ tfind? s.lat.zxCh 27 ≠ some s.chain ∧
      r.unheld ≤ s.resvRoom r.pool) ∧
    (∃ s : State, s.Up ∧ s.lat.feed = [] ∧ s.atAngle 0 false = false) :=
  ⟨⟨b, 7, by unfold State.Up; decide +kernel⟩,
   ⟨b2, 8, 5, 65536*11, [(1,1,1)], 0, ((b2.stakeNeed (b2.stake 8) false).map (·.2)).getD 1, 0,
     by unfold State.Up; decide +kernel⟩,
   ⟨b3, 2, rr, by unfold State.Up; decide +kernel⟩,
   ⟨{b with lat := {b.lat with pos := 2^32*65537}}, by unfold State.Up; decide +kernel⟩⟩
end LookaheadReserves

namespace OuterCheck
def m (tot : List Int) (s : State) : State := {((s.setFlag (Reg.EMU_MmSTAT 0) 24 true).setFld (Reg.EMU_MmCFG 0) 1 3 1) with emu := {s.emu with fe := [(0,{FrontEnd.fresh with totals := tot})]}}
def d : State := {ae.setFlag Reg.ARB_CFG 1 true with arb := {ae.arb with m1Hist := [9000], pwrHist := [0]}}
def wv0 : Int := ((ae.setFlag Reg.ARB_CFG 1 false |> m [5000000000000,3000000000000]).m1Feed).get (by decide +kernel)
/-- A state and operands for each clause of `LookaheadAndOuterCheck`. -/
theorem witness_OuterCheck :
    (∃ s : State, s.Up ∧ s.m1Feed = none ∧ s.flag Reg.ARB_STATE 5 = false) ∧
    (∃ s : State, ∃ p : Int, s.Up ∧ s.m1Feed = some p ∧ s.flag Reg.ARB_CFG 1 = false) ∧
    (∃ s : State, s.Up ∧ s.outerRuns = true ∧ s.flag Reg.ARB_STATE 4 = false ∧ 2000 ≤ s.arb.overTicks ∧ 0 < s.residual ∧
      s.residual.toNat < 2 ^ 31) ∧
    (∃ s : State, s.Up ∧ s.outerRuns = true ∧ s.arb.belowTicks < 10000) ∧
    (∃ s : State, s.Up ∧ s.arb.overTicks < 2000) ∧
    (∃ s : State, s.Up ∧ s.outerRuns = true ∧ 10000 ≤ s.arb.belowTicks) :=
  ⟨⟨ae, by unfold State.Up; decide +kernel⟩,
   ⟨ae.setFlag Reg.ARB_CFG 1 false |> m [5000000000000,3000000000000], wv0, by unfold State.Up; decide +kernel,
     (Option.some_get _).symm, by decide +kernel⟩,
   ⟨{d.setFld Reg.ARB_OUTER_TOL 0 16 8 with arb := {d.arb with overTicks := 2000}}, by unfold State.Up; decide +kernel⟩,
   ⟨d.setFld Reg.ARB_OUTER_TOL 0 16 8, by unfold State.Up; decide +kernel⟩,
   ⟨ae, by unfold State.Up; decide +kernel⟩,
   ⟨{d.setFld Reg.ARB_OUTER_TOL 0 16 8 with arb := {d.arb with belowTicks := 10000}}, by unfold State.Up; decide +kernel⟩⟩
end OuterCheck

namespace ArbOperations
def x1 : Slot := mkOp Blk.ARB 1 0 [(0,1,0),(4,4,4320000)]
def x2 : Slot := mkOp Blk.ARB 2 0 [(0,1,1),(1,1,255),(2,1,63)]
/-- A state and operands for each clause of `LookaheadAndOuterCheck`. -/
theorem witness_ArbOperations :
    (∃ s : State, ∃ k : Nat, ∃ x : Slot, s.Up ∧ tfind? s.hlk.serving k = none ∧ s.activeOp k Blk.ARB 1 = some x ∧ paramField
      x.param 0 1 = 0 ∧ x.ctx = 0 ∧ paramField x.param 4 4 ≤ 4320000) ∧
    (∃ s : State, ∃ k : Nat, ∃ x : Slot, s.Up ∧ tfind? s.hlk.serving k = none ∧ s.activeOp k Blk.ARB 2 = some x ∧ paramField
      x.param 0 1 ≤ 1 ∧ paramField x.param 2 1 ≤ 63 ∧ x.ctx = 0) :=
  ⟨⟨withOp ae 3 x1, 3, x1, by unfold State.Up; decide +kernel⟩,
   ⟨withOp ae 3 x2, 3, x2, by unfold State.Up; decide +kernel⟩⟩
end ArbOperations

end Arb

/-! ### Lcp -/

namespace Lcp

def le : State := up0.setFlag (Reg.CTRL Blk.LCP) 0 true
def lumOn (s : State) (e t : Nat) : State := ((s.setFlag (Reg.LCP_LnCFG e) 0 true).setFld (Reg.LCP_LnCFG e) 2 6 t)
def lst (s : State) (e n : Nat) : State := (lumOn s e 1).setLumState e n
def h1 : LcpHead := ⟨47,9,1,40,3,15,0,0⟩
def stt : LcpStatus := ⟨h1,0,0,5000,0,0,0,33000,0,0x20,0⟩
def h0 : LcpHead := ⟨0,9,1,40,3,0,0,0⟩
def chg (e : Nat) : LcpChange := ⟨e,.level,0,0,0,0,true,0,0,0,none,false⟩
def cm : LcpCmd := ⟨5,chg 767,7,0,0,true,1,0,false,false,0⟩

namespace LuminaireBinding
def a1 : LcpAnnounce := ⟨h1,0xFFFFFFFF12345678,77,1,2,3,4⟩
/-- An ACCEPT with CODE 0. -/
def r1 : LcpAccept := ⟨0,1,40,3,0,0⟩
def b1 : State := lst le 767 1
def b2 : State := (lst le 0 1).setFld (Reg.LCP_LnMODEL 0) 16 16 78
def b3 (n : Nat): State := (lst le 767 2).setLum 767 {Lum.fresh with mac := 9, assignTx := n, assignSeq := 4}
/-- A state and operands for each clause of `LuminaireBindingAndReports`. -/
theorem witness_LuminaireBinding :
    (∃ s : State, ∃ h : LcpHead, ∃ p : Nat, ∃ k : Nat, ∃ e : Nat, s.Up ∧ p < 48 ∧ k < 16 ∧ e = 16 * p + k ∧ h.port = p ∧ h.sub
      = k ∧ s.en Blk.LCP = true ∧ s.portSt p = PortSt.POWERED ∧ s.probeOf p ≠ 0 ∧ tfind? s.lcp.discClk p = none) ∧
    (∃ s : State, ∃ h : LcpHead, ∃ p : Nat, ∃ k : Nat, ∃ e : Nat, ∃ c : Nat, s.Up ∧ p < 48 ∧ k < 16 ∧ e = 16 * p + k ∧ h.port
      = p ∧ h.sub = k ∧ s.en Blk.LCP = true ∧ s.portSt p = PortSt.POWERED ∧ s.probeOf p ≠ 0 ∧ tfind? s.lcp.discClk p = some c
      ∧ c + s.lcpTick 16 ≤ s.clk) ∧
    (∃ s : State, ∃ h : LcpHead, ∃ p : Nat, ∃ k : Nat, ∃ e : Nat, ∃ a : LcpAnnounce, s.Up ∧ p < 48 ∧ k < 16 ∧ e = 16 * p + k ∧
      h.port = p ∧ h.sub = k ∧ s.en Blk.LCP = true ∧ a.head = h ∧ s.lcpTakes h 0x02 = true ∧ s.lumEnabled e = true ∧ s.lumState e =
      LumSt.UNBOUND ∧ s.announceFits e a = true) ∧
    (∃ s : State, ∃ h : LcpHead, ∃ p : Nat, ∃ k : Nat, ∃ e : Nat, ∃ a : LcpAnnounce, s.Up ∧ p < 48 ∧ k < 16 ∧ e = 16 * p + k ∧
      h.port = p ∧ h.sub = k ∧ s.en Blk.LCP = true ∧ a.head = h ∧ s.lcpTakes h 0x02 = true ∧ s.lumEnabled e = true ∧ s.lumState e =
      LumSt.UNBOUND ∧ s.announceFits e a = false) ∧
    (∃ s : State, ∃ h : LcpHead, ∃ p : Nat, ∃ k : Nat, ∃ e : Nat, ∃ r : LcpAccept, s.Up ∧ p < 48 ∧ k < 16 ∧ e = 16 * p + k ∧
      h.port = p ∧ h.sub = k ∧ s.en Blk.LCP = true ∧ r.head p k h.mac = h ∧ r.code = 0 ∧ s.lcpTakes h 0x20 = true ∧
      s.lumState e = LumSt.BINDING) ∧
    (∃ s : State, ∃ h : LcpHead, ∃ p : Nat, ∃ k : Nat, ∃ e : Nat, s.Up ∧ p < 48 ∧ k < 16 ∧ e = 16 * p + k ∧ h.port = p ∧ h.sub
      = k ∧ s.en Blk.LCP = true ∧ s.Alone ∧ s.lumState e = LumSt.BINDING ∧ (s.lum e).assignTx < s.lcpAttempts ∧ (s.lum
      e).assignClk + s.lcpAcceptClk ≤ s.clk) ∧
    (∃ s : State, ∃ h : LcpHead, ∃ p : Nat, ∃ k : Nat, ∃ e : Nat, s.Up ∧ p < 48 ∧ k < 16 ∧ e = 16 * p + k ∧ h.port = p ∧ h.sub
      = k ∧ s.en Blk.LCP = true ∧ s.Alone ∧ s.lumState e = LumSt.BINDING ∧ s.lcpAttempts ≤ (s.lum e).assignTx ∧ (s.lum
      e).assignClk + s.lcpAcceptClk ≤ s.clk) ∧
    (∃ s : State, ∃ h : LcpHead, ∃ p : Nat, ∃ k : Nat, ∃ e : Nat, s.Up ∧ p < 48 ∧ k < 16 ∧ e = 16 * p + k ∧ h.port
      = p ∧ h.sub = k ∧ s.en Blk.LCP = true) ∧
    (∃ s : State, ∃ h : LcpHead, ∃ p : Nat, ∃ k : Nat, ∃ e : Nat, ∃ a : LcpAnnounce, s.Up ∧ p < 48 ∧ k < 16 ∧ e = 16 * p + k ∧ h.port
      = p ∧ h.sub = k ∧ s.en Blk.LCP = true ∧ a.head = h ∧ s.lcpTakes h 0x02 = false) ∧
    (∃ s : State, ∃ h : LcpHead, ∃ p : Nat, ∃ k : Nat, ∃ e : Nat, ∃ r : LcpAccept, s.Up ∧ p < 48 ∧ k < 16 ∧ e = 16 * p + k ∧ h.port
      = p ∧ h.sub = k ∧ s.en Blk.LCP = true ∧ r.head p k h.mac = h ∧ s.lcpTakes h 0x20 = false) ∧
    (∃ s : State, ∃ h : LcpHead, ∃ p : Nat, ∃ k : Nat, ∃ e : Nat, ∃ r : LcpStatus, s.Up ∧ p < 48 ∧ k < 16 ∧ e = 16 * p + k ∧ h.port
      = p ∧ h.sub = k ∧ s.en Blk.LCP = true ∧ r.head = h ∧ s.lcpTakes h 0x21 = false) ∧
    (∃ s : State, ∃ h : LcpHead, ∃ p : Nat, ∃ k : Nat, ∃ e : Nat, s.Up ∧ p < 48 ∧ k < 16 ∧ e = 16 * p + k ∧ h.port = p ∧ h.sub
      = k ∧ s.en Blk.LCP = true ∧ (h.ver ≠ 1 ∨ h.len < 24)) ∧
    (∃ s : State, ∃ h : LcpHead, ∃ p : Nat, ∃ k : Nat, ∃ e : Nat, s.Up ∧ p < 48 ∧ k < 16 ∧ e = 16 * p + k ∧ h.port = p ∧ h.sub
      = k ∧ s.en Blk.LCP = true ∧ (h.ver ≠ 1 ∨ h.len < 4 ∨ (s.lum e).mac ≠ h.mac)) ∧
    (∃ s : State, ∃ h : LcpHead, ∃ p : Nat, ∃ k : Nat, ∃ e : Nat, s.Up ∧ p < 48 ∧ k < 16 ∧ e = 16 * p + k ∧ h.port = p ∧ h.sub
      = k ∧ s.en Blk.LCP = true ∧ (h.ver ≠ 1 ∨ h.len < 32 ∨ (s.lum e).mac ≠ h.mac)) :=
  ⟨⟨b1.setPortSt 47 PortSt.POWERED, h1, 47, 15, 767, by unfold State.Up; decide +kernel⟩,
   ⟨{b1.setPortSt 47 PortSt.POWERED with clk := 2^40, lcp := {b1.lcp with discClk := [(47,0)]}}, h1, 47, 15, 767, 0,
     by unfold State.Up; decide +kernel⟩,
   ⟨b1.setPortSt 47 PortSt.POWERED, h1, 47, 15, 767, a1, by unfold State.Up; decide +kernel⟩,
   ⟨b2, h0, 0, 0, 0, { a1 with head := h0 }, by unfold State.Up; decide +kernel⟩,
   ⟨{b3 1 with clk := 16000000}, h1, 47, 15, 767, r1, by unfold State.Up; decide +kernel⟩,
   ⟨{b3 1 with clk := 16000000}, h1, 47, 15, 767, by unfold State.Up State.Alone; decide +kernel⟩,
   ⟨{b3 8 with clk := 16000000}, h1, 47, 15, 767, by unfold State.Up State.Alone; decide +kernel⟩,
   ⟨b1.setPortSt 47 PortSt.POWERED, h1, 47, 15, 767, by unfold State.Up; decide +kernel⟩,
   ⟨b1.setPortSt 47 PortSt.POWERED, {h1 with ver := 0}, 47, 15, 767, { a1 with head := {h1 with ver := 0} },
     by unfold State.Up; decide +kernel⟩,
   ⟨b1.setPortSt 47 PortSt.POWERED, h1, 47, 15, 767, r1, by unfold State.Up; decide +kernel⟩,
   ⟨b1.setPortSt 47 PortSt.POWERED, h1, 47, 15, 767, stt, by unfold State.Up; decide +kernel⟩,
   ⟨b1.setPortSt 47 PortSt.POWERED, {h1 with ver := 0}, 47, 15, 767, by unfold State.Up; decide +kernel⟩,
   ⟨b1.setPortSt 47 PortSt.POWERED, h1, 47, 15, 767, by unfold State.Up; decide +kernel⟩,
   ⟨b1.setPortSt 47 PortSt.POWERED, h1, 47, 15, 767, by unfold State.Up; decide +kernel⟩⟩
end LuminaireBinding

namespace LuminaireReports
def b : State := (lst le 767 3).setLum 767 {Lum.fresh with mac := 9, grant := 50000, nextSeq := 65535}
def wv0 : LcpCmd := (({b with tbs := [⟨0,0⟩,⟨2^90,0⟩], lcp := {b.lcp with cmds := [cm]}}).lcpCmd (5)).get (by decide +kernel)
/-- A state and operands for each clause of `LuminaireBindingAndReports`. -/
theorem witness_LuminaireReports :
    (∃ s : State, ∃ e : Nat, ∃ h : LcpHead, ∃ r : LcpStatus, s.Up ∧ e < 768 ∧ s.en Blk.LCP = true ∧ r.head = h ∧ h.entry = e ∧ s.lcpTakes h
      0x21 = true ∧ s.lumState e = LumSt.ONLINE ∧ s.lcp.cmds = [] ∧ (s.lum e).adopting = false ∧ s.mode ≠ Mode.MINIMAL ∧
      bitsOf r.flags 0 3 = 0) ∧
    (∃ s : State, ∃ e : Nat, ∃ h : LcpHead, ∃ r : LcpStatus, s.Up ∧ e < 768 ∧ s.en Blk.LCP = true ∧ r.head = h ∧ h.entry = e ∧ s.lcpTakes h 0x21 = true ∧
      s.lumState e = LumSt.LOST ∧ s.lcp.cmds = [] ∧ s.mode ≠ Mode.MINIMAL) ∧
    (∃ s : State, ∃ e : Nat, s.Up ∧ e < 768 ∧ s.en Blk.LCP = true ∧ s.lumOnline e = true ∧ (s.lum e).sentClk + s.lcpTick 0 ≤
      s.clk) ∧
    (∃ s : State, ∃ e : Nat, ∃ k : Nat, ∃ c : LcpCmd, s.Up ∧ e < 768 ∧ s.en Blk.LCP = true ∧ s.lcpCmd k = some c ∧ c.asked =
      false ∧ c.tx ≠ 0 ∧ c.change.kind = .level ∧ s.fadeOver c = true) ∧
    (∃ s : State, ∃ e : Nat, s.Up ∧ e < 768 ∧ s.en Blk.LCP = true ∧ s.Alone ∧ s.lumOnline e = true ∧ (s.lum e).statusClk +
      s.lcpLossClk ≤ s.clk ∧ s.lcp.cmds = [] ∧ s.scn.lanes = [] ∧ s.scn.remote = []) :=
  ⟨⟨{b with clk := 2^40}, 767, h1, stt, by unfold State.Up; decide +kernel⟩,
   ⟨{lst b 767 4 with clk := 5}, 767, h1, stt, by unfold State.Up; decide +kernel⟩,
   ⟨{b with clk := 2^40}, 767, by unfold State.Up; decide +kernel⟩,
   ⟨{b with tbs := [⟨0,0⟩,⟨2^90,0⟩], lcp := {b.lcp with cmds := [cm]}}, 0, 5, wv0, by unfold State.Up; decide +kernel, by
     decide +kernel, by decide +kernel, (Option.some_get _).symm, by decide +kernel, by decide +kernel, by decide +kernel, by
     decide +kernel⟩,
   ⟨{b with clk := 2^40}, 767, by unfold State.Up State.Alone; decide +kernel⟩⟩
end LuminaireReports

namespace QueuedLevelIsFormed
def b : State := (lst le 767 3).setLum 767 {Lum.fresh with mac := 9, grant := 50000, nextSeq := 65535}
def b1 : State := {(b.setFld Reg.LAT_STATE 0 3 2) with lcp := {b.lcp with queue := [chg 767]}}
/-- A state and operands for each clause of `LuminaireCommands`. -/
theorem witness_QueuedLevelIsFormed :
    ∃ s : State, ∃ c : LcpChange, ∃ n : Nat, s.Up ∧ s.en Blk.LCP = true ∧ s.lcp.changes = [] ∧ s.lcp.queue = [c] ∧ s.lcp.cmds
      = [] ∧ s.lcp.opWait = [] ∧ c.kind = .level ∧ c.ctx = 0 ∧ s.lumOnline c.entry = true ∧ s.freeTag = some n ∧ s.sup.pfail =
      false ∧ s.latSt ≠ LatSt.RESET ∧ s.lumPrice c.entry c.value ≤ (s.lum c.entry).grant :=
  ⟨b1, chg 767, 0, by unfold State.Up; decide +kernel⟩
end QueuedLevelIsFormed

namespace LcpOperations
def o (n : Nat) (l : List (Nat × Nat × Nat)) : Slot := mkOp Blk.LCP n 0 l
def x1 := o 1 [(0,2,767),(2,2,10000)]
def x2 := o 2 [(0,1,9),(1,1,63)]
def x3 := o 3 [(0,2,767),(2,2,10000)]
def x4 := o 4 [(0,2,767),(2,2,10)]
def x5 := o 5 [(0,1,47),(1,1,1)]
def x6 := o 6 [(0,2,767),(2,1,3),(3,1,63),(4,4,0xFFFF2710)]
def b (n : Nat) : State := (((lst le 767 n).setFlag (Reg.LCP_LnCFG 767) (8+3) true).setFld (Reg.LCP_LnGRP 767) 24 8 9).setNum Reg.LCP_PT_BASE 0xFFFFFFFF
def sc (s : State) : State := {s with lcp := {s.lcp with scenes := [((767*4+3)*64+63, 0x1234#32)]}}
/-- A state and operands for each clause of `LuminaireCommands`. -/
theorem witness_LcpOperations :
    (∃ s : State, ∃ k : Nat, ∃ e : Nat, ∃ x : Slot, ∃ l : Nat, s.Up ∧ tfind? s.hlk.serving k = none ∧ s.mode ≠ Mode.MINIMAL ∧
      x.ctx = 0 ∧ e < 768 ∧ s.lumEnabled e = true ∧ s.lcp.queue = [] ∧ s.lcp.opWait = [] ∧ s.lcp.cmds = [] ∧ s.activeOp k
      Blk.LCP 1 = some x ∧ paramField x.param 0 2 = e ∧ paramField x.param 2 2 = l ∧ l ≤ 10000 ∧ s.lumState e ≠ LumSt.ONLINE ∧
      s.overridden e = false) ∧
    (∃ s : State, ∃ k : Nat, ∃ e : Nat, ∃ x : Slot, ∃ g : Nat, ∃ j : Nat, s.Up ∧ tfind? s.hlk.serving k = none ∧ s.mode ≠
      Mode.MINIMAL ∧ x.ctx = 0 ∧ e < 768 ∧ s.lumEnabled e = true ∧ s.lcp.queue = [] ∧ s.lcp.opWait = [] ∧ s.lcp.cmds = [] ∧
      s.activeOp k Blk.LCP 2 = some x ∧ paramField x.param 0 1 = g ∧ paramField x.param 1 1 ≤ 63 ∧ s.members g = [e] ∧
      s.groupSlot e g = some j ∧ bitOf (s.sceneWord e j (paramField x.param 1 1)) 15 = false ∧ s.lumState e ≠ LumSt.ONLINE ∧
      s.overridden e = false) ∧
    (∃ s : State, ∃ k : Nat, ∃ e : Nat, ∃ x : Slot, ∃ l : Nat, s.Up ∧ tfind? s.hlk.serving k = none ∧ s.mode ≠ Mode.MINIMAL ∧
      x.ctx = 0 ∧ e < 768 ∧ s.lumEnabled e = true ∧ s.lcp.queue = [] ∧ s.lcp.opWait = [] ∧ s.lcp.cmds = [] ∧ s.activeOp k
      Blk.LCP 3 = some x ∧ paramField x.param 0 2 = e ∧ paramField x.param 2 2 = l ∧ l ≤ 10000 ∧ s.lumState e ≠ LumSt.ONLINE ∧
      s.overridden e = false ∧ s.fld Reg.LCP_PT_BASE 0 16 = 0xFFFF) ∧
    (∃ s : State, ∃ k : Nat, ∃ e : Nat, ∃ x : Slot, ∃ n : Nat, s.Up ∧ tfind? s.hlk.serving k = none ∧ s.mode ≠ Mode.MINIMAL ∧
      x.ctx = 0 ∧ e < 768 ∧ s.lumEnabled e = true ∧ s.lcp.queue = [] ∧ s.lcp.opWait = [] ∧ s.lcp.cmds = [] ∧ s.activeOp k
      Blk.LCP 4 = some x ∧ paramField x.param 0 2 = e ∧ s.lumState e = LumSt.ONLINE ∧ s.freeTag = some n ∧ s.sup.pfail = false
      ∧ tfind? s.hlk.serving n = none) ∧
    (∃ s : State, ∃ k : Nat, ∃ e : Nat, ∃ x : Slot, ∃ p : Nat, s.Up ∧ tfind? s.hlk.serving k = none ∧ s.mode ≠ Mode.MINIMAL ∧
      x.ctx = 0 ∧ e < 768 ∧ s.lumEnabled e = true ∧ s.lcp.queue = [] ∧ s.lcp.opWait = [] ∧ s.lcp.cmds = [] ∧ s.activeOp k
      Blk.LCP 5 = some x ∧ paramField x.param 0 1 = p ∧ p < 48 ∧ bitOf (paramField x.param 1 1) 0 = true) ∧
    (∃ s : State, ∃ k : Nat, ∃ e : Nat, ∃ x : Slot, ∃ j : Nat, ∃ sc : Nat, s.Up ∧ tfind? s.hlk.serving k = none ∧ s.mode ≠
      Mode.MINIMAL ∧ x.ctx = 0 ∧ e < 768 ∧ s.lumEnabled e = true ∧ s.lcp.queue = [] ∧ s.lcp.opWait = [] ∧ s.lcp.cmds = [] ∧
      s.activeOp k Blk.LCP 6 = some x ∧ s.lcp.sceneWait.contains k = false ∧ paramField x.param 0 2 = e ∧ paramField x.param 2
      1 = j ∧ j ≤ 3 ∧ paramField x.param 3 1 = sc ∧ sc ≤ 63 ∧ s.flag (Reg.LCP_LnCFG e) (8 + j) = true ∧ bitsOf (paramField
      x.param 4 4) 0 14 ≤ 10000 ∧ bitOf (paramField x.param 8 1) 0 = false) :=
  ⟨⟨withOp (b 1) 3 x1, 3, 767, x1, 10000, by unfold State.Up; decide +kernel⟩,
   ⟨withOp (sc (b 1)) 3 x2, 3, 767, x2, 9, 3, by unfold State.Up; decide +kernel⟩,
   ⟨withOp (b 4) 3 x3, 3, 767, x3, 10000, by unfold State.Up; decide +kernel⟩,
   ⟨withOp (b 3) 3 x4, 3, 767, x4, 0, by unfold State.Up; decide +kernel⟩,
   ⟨withOp (b 2) 3 x5, 3, 767, x5, 47, by unfold State.Up; decide +kernel⟩,
   ⟨withOp (b 1) 3 x6, 3, 767, x6, 3, 63, by unfold State.Up; decide +kernel⟩⟩
end LcpOperations

end Lcp

/-! ### ScnLogic -/

namespace ScnLogic

namespace LogicStrings
def ws : List Word := ([0x10,0x11,0x12,0x13,0x14,0x15,0x16,0x17,0x1A,0x1B,0x1C].flatMap fun o => [wd o (ms 2 0 9), wd o (ms 2 1 511), wd o (ms 2 0 512), wd o (ms 5 0 7), wd o (ms 1 0 33)]) ++ [wd 0x18 (ms 3 0 7), wd 0x19 (ms 3 1 65533), wd 0x19 (ms 3 1 65534)]
def Ss : List State := ws.flatMap fun w => [sr (rn true) [w], {sr (rn false) [w] with points := [(7,⟨0,Q.GOOD,1,5,0,.host,false⟩)]}]
def wv0 : State := ((Ss : List (State))[0]?).get (by decide +kernel)
def wv1 : Word := ((ws : List (Word))[0]?).get (by decide +kernel)
def wv2 : Bool := ((wv0.loadBit (rn true).past wv1).toOption.get (by decide +kernel)).1
def wv3 : Run := ((wv0.loadBit (rn true).past wv1).toOption.get (by decide +kernel)).2.1
def wv4 : State := ((wv0.loadBit (rn true).past wv1).toOption.get (by decide +kernel)).2.2
def wv5 : State := ((Ss : List (State))[10]?).get (by decide +kernel)
def wv6 : Word := ((ws : List (Word))[5]?).get (by decide +kernel)
def wv7 : Bool := ((wv5.loadBit (rn true).past wv6).toOption.get (by decide +kernel)).1
def wv8 : Run := ((wv5.loadBit (rn true).past wv6).toOption.get (by decide +kernel)).2.1
def wv9 : State := ((wv5.loadBit (rn true).past wv6).toOption.get (by decide +kernel)).2.2
def wv10 : State := ((Ss : List (State))[20]?).get (by decide +kernel)
def wv11 : Word := ((ws : List (Word))[10]?).get (by decide +kernel)
def wv12 : Bool := ((wv10.loadBit (rn true).past wv11).toOption.get (by decide +kernel)).1
def wv13 : Run := ((wv10.loadBit (rn true).past wv11).toOption.get (by decide +kernel)).2.1
def wv14 : State := ((wv10.loadBit (rn true).past wv11).toOption.get (by decide +kernel)).2.2
def wv15 : State := ((Ss : List (State))[30]?).get (by decide +kernel)
def wv16 : Word := ((ws : List (Word))[15]?).get (by decide +kernel)
def wv17 : Bool := ((wv15.loadBit (rn true).past wv16).toOption.get (by decide +kernel)).1
def wv18 : Run := ((wv15.loadBit (rn true).past wv16).toOption.get (by decide +kernel)).2.1
def wv19 : State := ((wv15.loadBit (rn true).past wv16).toOption.get (by decide +kernel)).2.2
def wv20 : State := ((Ss : List (State))[40]?).get (by decide +kernel)
def wv21 : Word := ((ws : List (Word))[20]?).get (by decide +kernel)
def wv22 : Bool := ((wv20.loadBit (rn true).past wv21).toOption.get (by decide +kernel)).1
def wv23 : Run := ((wv20.loadBit (rn true).past wv21).toOption.get (by decide +kernel)).2.1
def wv24 : State := ((wv20.loadBit (rn true).past wv21).toOption.get (by decide +kernel)).2.2
def wv25 : State := ((Ss : List (State))[50]?).get (by decide +kernel)
def wv26 : Word := ((ws : List (Word))[25]?).get (by decide +kernel)
def wv27 : Bool := ((wv25.loadBit (rn true).past wv26).toOption.get (by decide +kernel)).1
def wv28 : Run := ((wv25.loadBit (rn true).past wv26).toOption.get (by decide +kernel)).2.1
def wv29 : State := ((wv25.loadBit (rn true).past wv26).toOption.get (by decide +kernel)).2.2
def wv30 : State := ((Ss : List (State))[60]?).get (by decide +kernel)
def wv31 : Word := ((ws : List (Word))[30]?).get (by decide +kernel)
def wv32 : Bool := ((wv30.loadBit (rn true).past wv31).toOption.get (by decide +kernel)).1
def wv33 : Run := ((wv30.loadBit (rn true).past wv31).toOption.get (by decide +kernel)).2.1
def wv34 : State := ((wv30.loadBit (rn true).past wv31).toOption.get (by decide +kernel)).2.2
def wv35 : State := ((Ss : List (State))[70]?).get (by decide +kernel)
def wv36 : Word := ((ws : List (Word))[35]?).get (by decide +kernel)
def wv37 : Bool := ((wv35.loadBit (rn true).past wv36).toOption.get (by decide +kernel)).1
def wv38 : Run := ((wv35.loadBit (rn true).past wv36).toOption.get (by decide +kernel)).2.1
def wv39 : State := ((wv35.loadBit (rn true).past wv36).toOption.get (by decide +kernel)).2.2
def wv40 : State := ((Ss : List (State))[2]?).get (by decide +kernel)
def wv41 : Word := ((ws : List (Word))[1]?).get (by decide +kernel)
def wv42 : State := ((Ss : List (State))[110]?).get (by decide +kernel)
def wv43 : Word := ((ws : List (Word))[55]?).get (by decide +kernel)
def wv44 : Nat := (((rn true).past.pointOf wv43 false).toOption.get (by decide +kernel)).1
def wv45 : Nat := (((rn true).past.pointOf wv43 false).toOption.get (by decide +kernel)).2
def wv46 : State := ((Ss : List (State))[112]?).get (by decide +kernel)
def wv47 : Word := ((ws : List (Word))[56]?).get (by decide +kernel)
def wv48 : Nat := (((rn true).past.pointOf wv47 false).toOption.get (by decide +kernel)).1
def wv49 : Nat := (((rn true).past.pointOf wv47 false).toOption.get (by decide +kernel)).2
def wv50 : State := ((Ss : List (State))[80]?).get (by decide +kernel)
def wv51 : Word := ((ws : List (Word))[40]?).get (by decide +kernel)
def wv52 : Run := ((wv50.storeBit (rn true).past wv51 true (rn true).fr.cb).toOption.get (by decide +kernel)).1
def wv53 : State := ((wv50.storeBit (rn true).past wv51 true (rn true).fr.cb).toOption.get (by decide +kernel)).2
def wv54 : State := ((Ss : List (State))[90]?).get (by decide +kernel)
def wv55 : Word := ((ws : List (Word))[45]?).get (by decide +kernel)
def wv56 : Run := ((wv54.storeBit (rn true).past wv55 (rn true).fr.cb true).toOption.get (by decide +kernel)).1
def wv57 : State := ((wv54.storeBit (rn true).past wv55 (rn true).fr.cb true).toOption.get (by decide +kernel)).2
def wv58 : State := ((Ss : List (State))[100]?).get (by decide +kernel)
def wv59 : Word := ((ws : List (Word))[50]?).get (by decide +kernel)
def wv60 : Run := ((wv58.storeBit (rn true).past wv59 (rn true).fr.cb false).toOption.get (by decide +kernel)).1
def wv61 : State := ((wv58.storeBit (rn true).past wv59 (rn true).fr.cb false).toOption.get (by decide +kernel)).2
def wv62 : State := ((Ss : List (State))[82]?).get (by decide +kernel)
def wv63 : Word := ((ws : List (Word))[41]?).get (by decide +kernel)
/-- A state and operands for each clause of `ConditionLogic`. -/
theorem witness_LogicStrings_0 :
    (∃ s : State, ∃ lane : Nat, ∃ r : Run, ∃ w : Word, ∃ v : Bool, ∃ r1 : Run, ∃ s1 : State, s.Up ∧ s.loadBit r.past w = .ok
      (v, r1, s1) ∧ s.AtInsn lane r 0x10 w) ∧
    (∃ s : State, ∃ lane : Nat, ∃ r : Run, ∃ w : Word, ∃ v : Bool, ∃ r1 : Run, ∃ s1 : State, s.Up ∧ s.loadBit r.past w = .ok
      (v, r1, s1) ∧ s.AtInsn lane r 0x11 w) ∧
    (∃ s : State, ∃ lane : Nat, ∃ r : Run, ∃ w : Word, ∃ v : Bool, ∃ r1 : Run, ∃ s1 : State, s.Up ∧ s.loadBit r.past w = .ok
      (v, r1, s1) ∧ s.AtInsn lane r 0x12 w) ∧
    (∃ s : State, ∃ lane : Nat, ∃ r : Run, ∃ w : Word, ∃ v : Bool, ∃ r1 : Run, ∃ s1 : State, s.Up ∧ s.loadBit r.past w = .ok
      (v, r1, s1) ∧ s.AtInsn lane r 0x13 w) ∧
    (∃ s : State, ∃ lane : Nat, ∃ r : Run, ∃ w : Word, ∃ v : Bool, ∃ r1 : Run, ∃ s1 : State, s.Up ∧ s.loadBit r.past w = .ok
      (v, r1, s1) ∧ s.AtInsn lane r 0x14 w) ∧
    (∃ s : State, ∃ lane : Nat, ∃ r : Run, ∃ w : Word, ∃ v : Bool, ∃ r1 : Run, ∃ s1 : State, s.Up ∧ s.loadBit r.past w = .ok
      (v, r1, s1) ∧ s.AtInsn lane r 0x15 w) ∧
    (∃ s : State, ∃ lane : Nat, ∃ r : Run, ∃ w : Word, ∃ v : Bool, ∃ r1 : Run, ∃ s1 : State, s.Up ∧ s.loadBit r.past w = .ok
      (v, r1, s1) ∧ s.AtInsn lane r 0x16 w) ∧
    (∃ s : State, ∃ lane : Nat, ∃ r : Run, ∃ w : Word, ∃ v : Bool, ∃ r1 : Run, ∃ s1 : State, s.Up ∧ s.loadBit r.past w = .ok
      (v, r1, s1) ∧ s.AtInsn lane r 0x17 w) ∧
    (∃ s : State, ∃ lane : Nat, ∃ r : Run, ∃ w : Word, ∃ e : Nat, s.Up ∧ s.loadBit r.past w = .error e ∧ s.AtInsn lane r 0x10
      w) ∧
    (∃ s : State, ∃ lane : Nat, ∃ r : Run, ∃ w : Word, ∃ i : Nat, ∃ p : Nat, s.Up ∧ wSpace w = Sp.P ∧ r.past.pointOf w false =
      .ok (i, p) ∧ s.blockMay (s.runCtx r.past) i 0 = true ∧ s.AtInsn lane r 0x18 w) ∧
    (∃ s : State, ∃ lane : Nat, ∃ r : Run, ∃ w : Word, ∃ i : Nat, ∃ p : Nat, s.Up ∧ wSpace w = Sp.P ∧ r.past.pointOf w false =
      .ok (i, p) ∧ s.blockMay (s.runCtx r.past) i 0 = true ∧ s.AtInsn lane r 0x19 w) ∧
    (∃ s : State, ∃ lane : Nat, ∃ r : Run, ∃ w : Word, ∃ r1 : Run, ∃ s1 : State, s.Up ∧ s.AtInsn lane r 0x1A w ∧ s.storeBit
      r.past w true r.fr.cb = .ok (r1, s1)) :=
  ⟨⟨wv0, 2, rn true, wv1, wv2, wv3, wv4, by unfold State.Up State.AtInsn; decide +kernel⟩,
   ⟨wv5, 2, rn true, wv6, wv7, wv8, wv9, by unfold State.Up State.AtInsn; decide +kernel⟩,
   ⟨wv10, 2, rn true, wv11, wv12, wv13, wv14, by unfold State.Up State.AtInsn; decide +kernel⟩,
   ⟨wv15, 2, rn true, wv16, wv17, wv18, wv19, by unfold State.Up State.AtInsn; decide +kernel⟩,
   ⟨wv20, 2, rn true, wv21, wv22, wv23, wv24, by unfold State.Up State.AtInsn; decide +kernel⟩,
   ⟨wv25, 2, rn true, wv26, wv27, wv28, wv29, by unfold State.Up State.AtInsn; decide +kernel⟩,
   ⟨wv30, 2, rn true, wv31, wv32, wv33, wv34, by unfold State.Up State.AtInsn; decide +kernel⟩,
   ⟨wv35, 2, rn true, wv36, wv37, wv38, wv39, by unfold State.Up State.AtInsn; decide +kernel⟩,
   ⟨wv40, 2, rn true, wv41, errOf (wv40.loadBit (rn true).past wv41), by unfold State.Up State.AtInsn; decide +kernel⟩,
   ⟨wv42, 2, rn true, wv43, wv44, wv45, by unfold State.Up State.AtInsn; decide +kernel⟩,
   ⟨wv46, 2, rn true, wv47, wv48, wv49, by unfold State.Up State.AtInsn; decide +kernel⟩,
   ⟨wv50, 2, rn true, wv51, wv52, wv53, by unfold State.Up State.AtInsn; decide +kernel⟩⟩
/-- A state and operands for each clause of `ConditionLogic`. -/
theorem witness_LogicStrings_1 :
    (∃ s : State, ∃ lane : Nat, ∃ r : Run, ∃ w : Word, ∃ r1 : Run, ∃ s1 : State, s.Up ∧ s.AtInsn lane r 0x1B w ∧ s.storeBit
      r.past w r.fr.cb true = .ok (r1, s1)) ∧
    (∃ s : State, ∃ lane : Nat, ∃ r : Run, ∃ w : Word, ∃ r1 : Run, ∃ s1 : State, s.Up ∧ s.AtInsn lane r 0x1C w ∧ s.storeBit
      r.past w r.fr.cb false = .ok (r1, s1)) ∧
    (∃ s : State, ∃ lane : Nat, ∃ r : Run, ∃ w : Word, ∃ e : Nat, s.Up ∧ s.storeBit r.past w true r.fr.cb = .error e ∧
      s.AtInsn lane r 0x1A w) :=
  ⟨⟨wv54, 2, rn true, wv55, wv56, wv57, by unfold State.Up State.AtInsn; decide +kernel⟩,
   ⟨wv58, 2, rn true, wv59, wv60, wv61, by unfold State.Up State.AtInsn; decide +kernel⟩,
   ⟨wv62, 2, rn true, wv63, errOf (wv62.storeBit (rn true).past wv63 true (rn true).fr.cb),
     by unfold State.Up State.AtInsn; decide +kernel⟩⟩
end LogicStrings

namespace ConditionStackAndEnd
def ws : List Word := [wd 0 0, wd 0x20 0, wd 0x21 0, wd 0x22 0, wd 0x27 0, wd 0x28 0, wd 0x23 0, wd 0x24 0, wd 0x25 0, wd 0x26 0, wd 1 0]
def rs : List Run := [rn true, {rn false with cond := [true]}, {rn false with cond := List.replicate 32 true, base := 31}, {rn true with cond := List.replicate 31 true, base := 31}]
def Ss : List State := ws.flatMap fun w => rs.map fun r => let s := sr r [w]; {s with clk := 99, lat := {s.lat with pos := 2^32*1000}, dio := {s.dio with safe := false}}
def wv0 : State := ((Ss : List (State))[0]?).get (by decide +kernel)
def wv1 : Run := ((rs : List (Run))[0]?).get (by decide +kernel)
def wv2 : Word := ((ws : List (Word))[0]?).get (by decide +kernel)
def wv3 : State := ((Ss : List (State))[4]?).get (by decide +kernel)
def wv4 : Word := ((ws : List (Word))[1]?).get (by decide +kernel)
def wv5 : State := ((Ss : List (State))[8]?).get (by decide +kernel)
def wv6 : Word := ((ws : List (Word))[2]?).get (by decide +kernel)
def wv7 : State := ((Ss : List (State))[12]?).get (by decide +kernel)
def wv8 : Word := ((ws : List (Word))[3]?).get (by decide +kernel)
def wv9 : State := ((Ss : List (State))[16]?).get (by decide +kernel)
def wv10 : Word := ((ws : List (Word))[4]?).get (by decide +kernel)
def wv11 : State := ((Ss : List (State))[20]?).get (by decide +kernel)
def wv12 : Word := ((ws : List (Word))[5]?).get (by decide +kernel)
def wv13 : State := ((Ss : List (State))[24]?).get (by decide +kernel)
def wv14 : Word := ((ws : List (Word))[6]?).get (by decide +kernel)
def wv15 : State := ((Ss : List (State))[26]?).get (by decide +kernel)
def wv16 : Run := ((rs : List (Run))[2]?).get (by decide +kernel)
def wv17 : State := ((Ss : List (State))[29]?).get (by decide +kernel)
def wv18 : Run := ((rs : List (Run))[1]?).get (by decide +kernel)
def wv19 : Word := ((ws : List (Word))[7]?).get (by decide +kernel)
def wv20 : List Bool := ((rs.map (fun r => r.cond.tail) : List (List Bool))[0]?).get (by decide +kernel)
def wv21 : State := ((Ss : List (State))[33]?).get (by decide +kernel)
def wv22 : Word := ((ws : List (Word))[8]?).get (by decide +kernel)
def wv23 : State := ((Ss : List (State))[37]?).get (by decide +kernel)
def wv24 : Word := ((ws : List (Word))[9]?).get (by decide +kernel)
def wv25 : State := ((Ss : List (State))[28]?).get (by decide +kernel)
def wv26 : State := ((Ss : List (State))[41]?).get (by decide +kernel)
def wv27 : Word := ((ws : List (Word))[10]?).get (by decide +kernel)
def wv28 : State := ((Ss : List (State))[40]?).get (by decide +kernel)
/-- A state and operands for each clause of `ConditionLogic`. -/
theorem witness_ConditionStackAndEnd_0 :
    (∃ s : State, ∃ lane : Nat, ∃ r : Run, ∃ w : Word, s.Up ∧ s.AtInsn lane r 0x00 w) ∧
    (∃ s : State, ∃ lane : Nat, ∃ r : Run, ∃ w : Word, s.Up ∧ s.AtInsn lane r 0x20 w) ∧
    (∃ s : State, ∃ lane : Nat, ∃ r : Run, ∃ w : Word, s.Up ∧ s.AtInsn lane r 0x21 w) ∧
    (∃ s : State, ∃ lane : Nat, ∃ r : Run, ∃ w : Word, s.Up ∧ s.AtInsn lane r 0x22 w) ∧
    (∃ s : State, ∃ lane : Nat, ∃ r : Run, ∃ w : Word, s.Up ∧ s.AtInsn lane r 0x27 w) ∧
    (∃ s : State, ∃ lane : Nat, ∃ r : Run, ∃ w : Word, s.Up ∧ s.AtInsn lane r 0x28 w) ∧
    (∃ s : State, ∃ lane : Nat, ∃ r : Run, ∃ w : Word, s.Up ∧ s.AtInsn lane r 0x23 w ∧ r.cond.length < 32) ∧
    (∃ s : State, ∃ lane : Nat, ∃ r : Run, ∃ w : Word, s.Up ∧ s.AtInsn lane r 0x23 w ∧ 32 ≤ r.cond.length) ∧
    (∃ s : State, ∃ lane : Nat, ∃ r : Run, ∃ w : Word, ∃ p : Bool, ∃ rest : List Bool, s.Up ∧ r.cond = p :: rest ∧ r.base ≤
      rest.length ∧ s.AtInsn lane r 0x24 w) ∧
    (∃ s : State, ∃ lane : Nat, ∃ r : Run, ∃ w : Word, ∃ p : Bool, ∃ rest : List Bool, s.Up ∧ r.cond = p :: rest ∧ r.base ≤
      rest.length ∧ s.AtInsn lane r 0x25 w) ∧
    (∃ s : State, ∃ lane : Nat, ∃ r : Run, ∃ w : Word, ∃ p : Bool, ∃ rest : List Bool, s.Up ∧ r.cond = p :: rest ∧ r.base ≤
      rest.length ∧ s.AtInsn lane r 0x26 w) ∧
    (∃ s : State, ∃ lane : Nat, ∃ r : Run, ∃ w : Word, s.Up ∧ r.cond.length ≤ r.base ∧ s.AtInsn lane r 0x24 w) :=
  ⟨⟨wv0, 2, wv1, wv2, by unfold State.Up State.AtInsn; decide +kernel⟩,
   ⟨wv3, 2, wv1, wv4, by unfold State.Up State.AtInsn; decide +kernel⟩,
   ⟨wv5, 2, wv1, wv6, by unfold State.Up State.AtInsn; decide +kernel⟩,
   ⟨wv7, 2, wv1, wv8, by unfold State.Up State.AtInsn; decide +kernel⟩,
   ⟨wv9, 2, wv1, wv10, by unfold State.Up State.AtInsn; decide +kernel⟩,
   ⟨wv11, 2, wv1, wv12, by unfold State.Up State.AtInsn; decide +kernel⟩,
   ⟨wv13, 2, wv1, wv14, by unfold State.Up State.AtInsn; decide +kernel⟩,
   ⟨wv15, 2, wv16, wv14, by unfold State.Up State.AtInsn; decide +kernel⟩,
   ⟨wv17, 2, wv18, wv19, true, wv20, by unfold State.Up State.AtInsn; decide +kernel⟩,
   ⟨wv21, 2, wv18, wv22, true, wv20, by unfold State.Up State.AtInsn; decide +kernel⟩,
   ⟨wv23, 2, wv18, wv24, true, wv20, by unfold State.Up State.AtInsn; decide +kernel⟩,
   ⟨wv25, 2, wv1, wv19, by unfold State.Up State.AtInsn; decide +kernel⟩⟩
/-- A state and operands for each clause of `ConditionLogic`. -/
theorem witness_ConditionStackAndEnd_1 :
    (∃ s : State, ∃ lane : Nat, ∃ r : Run, ∃ w : Word, s.Up ∧ s.AtInsn lane r 0x01 w ∧ r.base < r.cond.length) ∧
    (∃ s : State, ∃ lane : Nat, ∃ r : Run, ∃ w : Word, s.Up ∧ s.AtInsn lane r 0x01 w ∧ r.lane = lane ∧ lane < 4 ∧ r.task < 16
      ∧ r.cond.length ≤ r.base ∧ r.touched = [] ∧ s.scn.remote = [] ∧ s.dio.safe = false ∧ s.flag Reg.DIO_WDT 8 = false ∧
      (s.taskRt r.task).queue = [] ∧ (s.taskRt r.task).held = none ∧ (s.taskRt r.task).ovr = false ∧ (s.taskRt
      r.task).offAfter = false) :=
  ⟨⟨wv26, 2, wv18, wv27, by unfold State.Up State.AtInsn; decide +kernel⟩,
   ⟨wv28, 2, wv1, wv27, by unfold State.Up State.AtInsn; decide +kernel⟩⟩
end ConditionStackAndEnd

namespace LoadsAndStores
def ops : List Nat := [0x30,0x31,0x32,0x33,0x43,0x34,0x35,0x36,0x37,0x44,0x3A,0x3C,0x38,0x39,0x3B,0x3D,0x3E]
def ws : List Word := (ops.flatMap fun o => [wd o (ms 2 0 56), wd o (ms 5 1 30), wd o (ms 5 0 56), wd o (ms 5 0 60), wd o (ms 7 0 8), wd o (ms 3 0 7), wd o (ms 5 0 500)]) ++ [wd 0x40 0xFFFFFF, wd 0x42 0xFFFFFF, wd 0x45 0, wd 0x46 0]
def Ss : List State := ws.map fun w => {sr (rn true) [w] with points := [(7,⟨5,Q.GOOD,2,5,0,.task 5,false⟩)]}
def wv0 : State := ((Ss : List (State))[0]?).get (by decide +kernel)
def wv1 : Word := ((ws : List (Word))[0]?).get (by decide +kernel)
def wv2 : Nat := ((wv0.loadOp (rn true).past wv1 1).toOption.get (by decide +kernel)).1
def wv3 : Run := ((wv0.loadOp (rn true).past wv1 1).toOption.get (by decide +kernel)).2.1
def wv4 : State := ((wv0.loadOp (rn true).past wv1 1).toOption.get (by decide +kernel)).2.2
def wv5 : State := ((Ss : List (State))[7]?).get (by decide +kernel)
def wv6 : Word := ((ws : List (Word))[7]?).get (by decide +kernel)
def wv7 : Nat := ((wv5.loadOp (rn true).past wv6 2).toOption.get (by decide +kernel)).1
def wv8 : Run := ((wv5.loadOp (rn true).past wv6 2).toOption.get (by decide +kernel)).2.1
def wv9 : State := ((wv5.loadOp (rn true).past wv6 2).toOption.get (by decide +kernel)).2.2
def wv10 : State := ((Ss : List (State))[14]?).get (by decide +kernel)
def wv11 : Word := ((ws : List (Word))[14]?).get (by decide +kernel)
def wv12 : Nat := ((wv10.loadOp (rn true).past wv11 4).toOption.get (by decide +kernel)).1
def wv13 : Run := ((wv10.loadOp (rn true).past wv11 4).toOption.get (by decide +kernel)).2.1
def wv14 : State := ((wv10.loadOp (rn true).past wv11 4).toOption.get (by decide +kernel)).2.2
def wv15 : State := ((Ss : List (State))[21]?).get (by decide +kernel)
def wv16 : Word := ((ws : List (Word))[21]?).get (by decide +kernel)
def wv17 : Nat := ((wv15.loadOp (rn true).past wv16 8).toOption.get (by decide +kernel)).1
def wv18 : Run := ((wv15.loadOp (rn true).past wv16 8).toOption.get (by decide +kernel)).2.1
def wv19 : State := ((wv15.loadOp (rn true).past wv16 8).toOption.get (by decide +kernel)).2.2
def wv20 : State := ((Ss : List (State))[28]?).get (by decide +kernel)
def wv21 : Word := ((ws : List (Word))[28]?).get (by decide +kernel)
def wv22 : Nat := ((wv20.loadOp (rn true).past wv21 4).toOption.get (by decide +kernel)).1
def wv23 : Run := ((wv20.loadOp (rn true).past wv21 4).toOption.get (by decide +kernel)).2.1
def wv24 : State := ((wv20.loadOp (rn true).past wv21 4).toOption.get (by decide +kernel)).2.2
def wv25 : State := ((Ss : List (State))[20]?).get (by decide +kernel)
def wv26 : Word := ((ws : List (Word))[20]?).get (by decide +kernel)
def wv27 : State := ((Ss : List (State))[35]?).get (by decide +kernel)
def wv28 : Word := ((ws : List (Word))[35]?).get (by decide +kernel)
def wv29 : Run := ((wv27.storeOp (rn true).past wv28 1 (rn true).a1).toOption.get (by decide +kernel)).1
def wv30 : State := ((wv27.storeOp (rn true).past wv28 1 (rn true).a1).toOption.get (by decide +kernel)).2
def wv31 : State := ((Ss : List (State))[42]?).get (by decide +kernel)
def wv32 : Word := ((ws : List (Word))[42]?).get (by decide +kernel)
def wv33 : Run := ((wv31.storeOp (rn true).past wv32 2 (rn true).a1).toOption.get (by decide +kernel)).1
def wv34 : State := ((wv31.storeOp (rn true).past wv32 2 (rn true).a1).toOption.get (by decide +kernel)).2
def wv35 : State := ((Ss : List (State))[49]?).get (by decide +kernel)
def wv36 : Word := ((ws : List (Word))[49]?).get (by decide +kernel)
def wv37 : Run := ((wv35.storeOp (rn true).past wv36 4 (rn true).a1).toOption.get (by decide +kernel)).1
def wv38 : State := ((wv35.storeOp (rn true).past wv36 4 (rn true).a1).toOption.get (by decide +kernel)).2
def wv39 : State := ((Ss : List (State))[56]?).get (by decide +kernel)
def wv40 : Word := ((ws : List (Word))[56]?).get (by decide +kernel)
def wv41 : Run := ((wv39.storeOp (rn true).past wv40 8 (rn true).a1).toOption.get (by decide +kernel)).1
def wv42 : State := ((wv39.storeOp (rn true).past wv40 8 (rn true).a1).toOption.get (by decide +kernel)).2
def wv43 : State := ((Ss : List (State))[63]?).get (by decide +kernel)
def wv44 : Word := ((ws : List (Word))[63]?).get (by decide +kernel)
def wv45 : Run := ((wv43.storeOp (rn true).past wv44 4 ((rn true).xr.setWidth 64)).toOption.get (by decide +kernel)).1
def wv46 : State := ((wv43.storeOp (rn true).past wv44 4 ((rn true).xr.setWidth 64)).toOption.get (by decide +kernel)).2
def wv47 : State := ((Ss : List (State))[71]?).get (by decide +kernel)
def wv48 : Word := ((ws : List (Word))[71]?).get (by decide +kernel)
def wv49 : Run := ((wv47.storeTarget (rn true).past wv48 4 (rn true).a1).toOption.get (by decide +kernel)).1
def wv50 : State := ((wv47.storeTarget (rn true).past wv48 4 (rn true).a1).toOption.get (by decide +kernel)).2
def wv51 : State := ((Ss : List (State))[78]?).get (by decide +kernel)
def wv52 : Word := ((ws : List (Word))[78]?).get (by decide +kernel)
def wv53 : Run := ((wv51.storeTarget (rn true).past wv52 8 (rn true).a1).toOption.get (by decide +kernel)).1
def wv54 : State := ((wv51.storeTarget (rn true).past wv52 8 (rn true).a1).toOption.get (by decide +kernel)).2
def wv55 : State := ((Ss : List (State))[53]?).get (by decide +kernel)
def wv56 : Word := ((ws : List (Word))[53]?).get (by decide +kernel)
def wv57 : State := ((Ss : List (State))[84]?).get (by decide +kernel)
def wv58 : Word := ((ws : List (Word))[84]?).get (by decide +kernel)
def wv59 : State := ((Ss : List (State))[92]?).get (by decide +kernel)
def wv60 : Word := ((ws : List (Word))[92]?).get (by decide +kernel)
def wv61 : Nat := ((wv59.loadTarget (rn true).past wv60 4).toOption.get (by decide +kernel))
def wv62 : State := ((Ss : List (State))[99]?).get (by decide +kernel)
def wv63 : Word := ((ws : List (Word))[99]?).get (by decide +kernel)
def wv64 : Nat := ((wv62.loadTarget (rn true).past wv63 8).toOption.get (by decide +kernel))
def wv65 : State := ((Ss : List (State))[91]?).get (by decide +kernel)
def wv66 : Word := ((ws : List (Word))[91]?).get (by decide +kernel)
def wv67 : State := ((Ss : List (State))[111]?).get (by decide +kernel)
def wv68 : Word := ((ws : List (Word))[111]?).get (by decide +kernel)
def wv69 : State := ((Ss : List (State))[113]?).get (by decide +kernel)
def wv70 : Word := ((ws : List (Word))[113]?).get (by decide +kernel)
def wv71 : State := ((Ss : List (State))[119]?).get (by decide +kernel)
def wv72 : Word := ((ws : List (Word))[119]?).get (by decide +kernel)
def wv73 : State := ((Ss : List (State))[120]?).get (by decide +kernel)
def wv74 : Word := ((ws : List (Word))[120]?).get (by decide +kernel)
def wv75 : State := ((Ss : List (State))[121]?).get (by decide +kernel)
def wv76 : Word := ((ws : List (Word))[121]?).get (by decide +kernel)
def wv77 : State := ((Ss : List (State))[122]?).get (by decide +kernel)
def wv78 : Word := ((ws : List (Word))[122]?).get (by decide +kernel)
/-- A state and operands for each clause of `LoadsAndStores`. -/
theorem witness_LoadsAndStores_0 :
    (∃ s : State, ∃ lane : Nat, ∃ r : Run, ∃ w : Word, ∃ v : Nat, ∃ r1 : Run, ∃ s1 : State, s.Up ∧ s.AtInsn lane r 0x30 w ∧
      s.loadOp r.past w 1 = .ok (v, r1, s1)) ∧
    (∃ s : State, ∃ lane : Nat, ∃ r : Run, ∃ w : Word, ∃ v : Nat, ∃ r1 : Run, ∃ s1 : State, s.Up ∧ s.AtInsn lane r 0x31 w ∧
      s.loadOp r.past w 2 = .ok (v, r1, s1)) ∧
    (∃ s : State, ∃ lane : Nat, ∃ r : Run, ∃ w : Word, ∃ v : Nat, ∃ r1 : Run, ∃ s1 : State, s.Up ∧ s.AtInsn lane r 0x32 w ∧
      s.loadOp r.past w 4 = .ok (v, r1, s1)) ∧
    (∃ s : State, ∃ lane : Nat, ∃ r : Run, ∃ w : Word, ∃ v : Nat, ∃ r1 : Run, ∃ s1 : State, s.Up ∧ s.AtInsn lane r 0x33 w ∧
      s.loadOp r.past w 8 = .ok (v, r1, s1)) ∧
    (∃ s : State, ∃ lane : Nat, ∃ r : Run, ∃ w : Word, ∃ v : Nat, ∃ r1 : Run, ∃ s1 : State, s.Up ∧ s.AtInsn lane r 0x43 w ∧
      s.loadOp r.past w 4 = .ok (v, r1, s1)) ∧
    (∃ s : State, ∃ lane : Nat, ∃ r : Run, ∃ w : Word, ∃ e : Nat, s.Up ∧ s.AtInsn lane r 0x32 w ∧ s.loadOp r.past w 4 = .error
      e) ∧
    (∃ s : State, ∃ lane : Nat, ∃ r : Run, ∃ w : Word, ∃ r1 : Run, ∃ s1 : State, s.Up ∧ s.AtInsn lane r 0x34 w ∧ s.storeOp
      r.past w 1 r.a1 = .ok (r1, s1)) ∧
    (∃ s : State, ∃ lane : Nat, ∃ r : Run, ∃ w : Word, ∃ r1 : Run, ∃ s1 : State, s.Up ∧ s.AtInsn lane r 0x35 w ∧ s.storeOp
      r.past w 2 r.a1 = .ok (r1, s1)) ∧
    (∃ s : State, ∃ lane : Nat, ∃ r : Run, ∃ w : Word, ∃ r1 : Run, ∃ s1 : State, s.Up ∧ s.AtInsn lane r 0x36 w ∧ s.storeOp
      r.past w 4 r.a1 = .ok (r1, s1)) ∧
    (∃ s : State, ∃ lane : Nat, ∃ r : Run, ∃ w : Word, ∃ r1 : Run, ∃ s1 : State, s.Up ∧ s.AtInsn lane r 0x37 w ∧ s.storeOp
      r.past w 8 r.a1 = .ok (r1, s1)) ∧
    (∃ s : State, ∃ lane : Nat, ∃ r : Run, ∃ w : Word, ∃ r1 : Run, ∃ s1 : State, s.Up ∧ s.AtInsn lane r 0x44 w ∧ s.storeOp
      r.past w 4 (r.xr.setWidth 64) = .ok (r1, s1)) ∧
    (∃ s : State, ∃ lane : Nat, ∃ r : Run, ∃ w : Word, ∃ r1 : Run, ∃ s1 : State, s.Up ∧ s.AtInsn lane r 0x3A w ∧ s.storeTarget
      r.past w 4 r.a1 = .ok (r1, s1)) :=
  ⟨⟨wv0, 2, rn true, wv1, wv2, wv3, wv4, by unfold State.Up State.AtInsn; decide +kernel⟩,
   ⟨wv5, 2, rn true, wv6, wv7, wv8, wv9, by unfold State.Up State.AtInsn; decide +kernel⟩,
   ⟨wv10, 2, rn true, wv11, wv12, wv13, wv14, by unfold State.Up State.AtInsn; decide +kernel⟩,
   ⟨wv15, 2, rn true, wv16, wv17, wv18, wv19, by unfold State.Up State.AtInsn; decide +kernel⟩,
   ⟨wv20, 2, rn true, wv21, wv22, wv23, wv24, by unfold State.Up State.AtInsn; decide +kernel⟩,
   ⟨wv25, 2, rn true, wv26, errOf (wv25.loadOp (rn true).past wv26 4), by unfold State.Up State.AtInsn; decide +kernel⟩,
   ⟨wv27, 2, rn true, wv28, wv29, wv30, by unfold State.Up State.AtInsn; decide +kernel⟩,
   ⟨wv31, 2, rn true, wv32, wv33, wv34, by unfold State.Up State.AtInsn; decide +kernel⟩,
   ⟨wv35, 2, rn true, wv36, wv37, wv38, by unfold State.Up State.AtInsn; decide +kernel⟩,
   ⟨wv39, 2, rn true, wv40, wv41, wv42, by unfold State.Up State.AtInsn; decide +kernel⟩,
   ⟨wv43, 2, rn true, wv44, wv45, wv46, by unfold State.Up State.AtInsn; decide +kernel⟩,
   ⟨wv47, 2, rn true, wv48, wv49, wv50, by unfold State.Up State.AtInsn; decide +kernel⟩⟩
/-- A state and operands for each clause of `LoadsAndStores`. -/
theorem witness_LoadsAndStores_1 :
    (∃ s : State, ∃ lane : Nat, ∃ r : Run, ∃ w : Word, ∃ r1 : Run, ∃ s1 : State, s.Up ∧ s.AtInsn lane r 0x3C w ∧ s.storeTarget
      r.past w 8 r.a1 = .ok (r1, s1)) ∧
    (∃ s : State, ∃ lane : Nat, ∃ r : Run, ∃ w : Word, ∃ e : Nat, s.Up ∧ s.AtInsn lane r 0x36 w ∧ s.storeOp r.past w 4 r.a1 =
      .error e) ∧
    (∃ s : State, ∃ lane : Nat, ∃ r : Run, ∃ w : Word, s.Up ∧ s.AtInsn lane r 0x38 w ∧ wSpace w ≠ Sp.P ∧ r.effAddr w <
      s.spaceLimit r.past (wSpace w)) ∧
    (∃ s : State, ∃ lane : Nat, ∃ r : Run, ∃ w : Word, ∃ v : Nat, s.Up ∧ s.AtInsn lane r 0x39 w ∧ s.loadTarget r.past w 4 =
      .ok v) ∧
    (∃ s : State, ∃ lane : Nat, ∃ r : Run, ∃ w : Word, ∃ v : Nat, s.Up ∧ s.AtInsn lane r 0x3B w ∧ s.loadTarget r.past w 8 =
      .ok v) ∧
    (∃ s : State, ∃ lane : Nat, ∃ r : Run, ∃ w : Word, ∃ e : Nat, s.Up ∧ s.AtInsn lane r 0x39 w ∧ s.loadTarget r.past w 4 =
      .error e) ∧
    (∃ s : State, ∃ lane : Nat, ∃ r : Run, ∃ w : Word, ∃ a : Nat, ∃ b : Nat, s.Up ∧ a = r.tir + r.effAddr w / 8 ∧ b =
      r.effAddr w % 8 ∧ s.AtInsn lane r 0x3D w ∧ s.checkTarget r.past w (r.effAddr w / 8) 1 true = none) ∧
    (∃ s : State, ∃ lane : Nat, ∃ r : Run, ∃ w : Word, ∃ a : Nat, ∃ b : Nat, s.Up ∧ a = r.tir + r.effAddr w / 8 ∧ b =
      r.effAddr w % 8 ∧ s.AtInsn lane r 0x3E w ∧ s.checkTarget r.past w (r.effAddr w / 8) 1 false = none) ∧
    (∃ s : State, ∃ lane : Nat, ∃ r : Run, ∃ w : Word, s.Up ∧ s.AtInsn lane r 0x40 w) ∧
    (∃ s : State, ∃ lane : Nat, ∃ r : Run, ∃ w : Word, s.Up ∧ s.AtInsn lane r 0x42 w) ∧
    (∃ s : State, ∃ lane : Nat, ∃ r : Run, ∃ w : Word, s.Up ∧ s.AtInsn lane r 0x45 w) ∧
    (∃ s : State, ∃ lane : Nat, ∃ r : Run, ∃ w : Word, s.Up ∧ s.AtInsn lane r 0x46 w) :=
  ⟨⟨wv51, 2, rn true, wv52, wv53, wv54, by unfold State.Up State.AtInsn; decide +kernel⟩,
   ⟨wv55, 2, rn true, wv56, errOf (wv55.storeOp (rn true).past wv56 4 (rn true).a1),
     by unfold State.Up State.AtInsn; decide +kernel⟩,
   ⟨wv57, 2, rn true, wv58, by unfold State.Up State.AtInsn; decide +kernel⟩,
   ⟨wv59, 2, rn true, wv60, wv61, by unfold State.Up State.AtInsn; decide +kernel⟩,
   ⟨wv62, 2, rn true, wv63, wv64, by unfold State.Up State.AtInsn; decide +kernel⟩,
   ⟨wv65, 2, rn true, wv66, errOf (wv65.loadTarget (rn true).past wv66 4), by unfold State.Up State.AtInsn; decide +kernel⟩,
   ⟨wv67, 2, rn true, wv68, 62, 4, by unfold State.Up State.AtInsn; decide +kernel⟩,
   ⟨wv69, 2, rn true, wv70, 4, 0, by unfold State.Up State.AtInsn; decide +kernel⟩,
   ⟨wv71, 2, rn true, wv72, by unfold State.Up State.AtInsn; decide +kernel⟩,
   ⟨wv73, 2, rn true, wv74, by unfold State.Up State.AtInsn; decide +kernel⟩,
   ⟨wv75, 2, rn true, wv76, by unfold State.Up State.AtInsn; decide +kernel⟩,
   ⟨wv77, 2, rn true, wv78, by unfold State.Up State.AtInsn; decide +kernel⟩⟩
end LoadsAndStores

end ScnLogic

/-! ### ScnWords -/

namespace ScnWords

namespace AccumulatorInstructions
def ops : List Nat := [0x41]++(List.range' 0x50 7)++(List.range' 0x64 5)++(List.range' 0x60 4)++(List.range' 0x58 7)++(List.range' 0x6A 4)++(List.range' 0x70 4)++(List.range' 0x78 8)++(List.range' 0x80 4)
def ws : List Word := (ops.map fun o => wd o 0xFFFFC3) ++ [wd 0x80 6, wd 0x70 63, wd 0x72 63,wd 0x81 0]
def rs : List Run := [rn true, {rn true with a1 := 0x3FC00000, a2 := 0xC0400000}, {rn true with a1 := 0xFFFFFFFFFFFFFFFF, a2 := 0x8000000000000000}, {rn true with a1 := 0, a2 := 5},{rn true with a1 := 0xFFC00000, a2 := 0x7F800000},{rn true with a1 := 0xFFFFFFFF80000000, a2 := 0xFFFFFFFF7FFFFFFF}]
def st (r : Run) (w : Word) (f : Bool) : State := let s := sr r [w]; {s with scn := {s.scn with bankA := some {bk [w] with profF := f}}}
def rS (r : Run) : Run := {r with a1 := accVal false r.a1, a2 := accVal false r.a2}
def Ss : List State := ws.flatMap fun w => (rs.map fun r => st r w true) ++ (rs.map fun r => st (rS r) w false)
def wv0 : State := ((Ss : List (State))[0]?).get (by decide +kernel)
def wv1 : Run := (wv0.runOn (2)).get (by decide +kernel)
def wv2 : Word := ((wv0.bank wv1.bankB).code[wv1.pc]?).get (by decide +kernel)
def wv3 : State := ((Ss : List (State))[12]?).get (by decide +kernel)
def wv4 : Run := (wv3.runOn (2)).get (by decide +kernel)
def wv5 : Word := ((wv3.bank wv4.bankB).code[wv4.pc]?).get (by decide +kernel)
def wv6 : State := ((Ss : List (State))[24]?).get (by decide +kernel)
def wv7 : Run := (wv6.runOn (2)).get (by decide +kernel)
def wv8 : Word := ((wv6.bank wv7.bankB).code[wv7.pc]?).get (by decide +kernel)
def wv9 : State := ((Ss : List (State))[36]?).get (by decide +kernel)
def wv10 : Run := (wv9.runOn (2)).get (by decide +kernel)
def wv11 : Word := ((wv9.bank wv10.bankB).code[wv10.pc]?).get (by decide +kernel)
def wv12 : State := ((Ss : List (State))[48]?).get (by decide +kernel)
def wv13 : Run := (wv12.runOn (2)).get (by decide +kernel)
def wv14 : Word := ((wv12.bank wv13.bankB).code[wv13.pc]?).get (by decide +kernel)
def wv15 : State := ((Ss : List (State))[60]?).get (by decide +kernel)
def wv16 : Run := (wv15.runOn (2)).get (by decide +kernel)
def wv17 : Word := ((wv15.bank wv16.bankB).code[wv16.pc]?).get (by decide +kernel)
def wv18 : State := ((Ss : List (State))[72]?).get (by decide +kernel)
def wv19 : Run := (wv18.runOn (2)).get (by decide +kernel)
def wv20 : Word := ((wv18.bank wv19.bankB).code[wv19.pc]?).get (by decide +kernel)
def wv21 : State := ((Ss : List (State))[84]?).get (by decide +kernel)
def wv22 : Run := (wv21.runOn (2)).get (by decide +kernel)
def wv23 : Word := ((wv21.bank wv22.bankB).code[wv22.pc]?).get (by decide +kernel)
def wv24 : State := ((Ss : List (State))[96]?).get (by decide +kernel)
def wv25 : Run := (wv24.runOn (2)).get (by decide +kernel)
def wv26 : Word := ((wv24.bank wv25.bankB).code[wv25.pc]?).get (by decide +kernel)
def wv27 : State := ((Ss : List (State))[108]?).get (by decide +kernel)
def wv28 : Run := (wv27.runOn (2)).get (by decide +kernel)
def wv29 : Word := ((wv27.bank wv28.bankB).code[wv28.pc]?).get (by decide +kernel)
def wv30 : State := ((Ss : List (State))[120]?).get (by decide +kernel)
def wv31 : Run := (wv30.runOn (2)).get (by decide +kernel)
def wv32 : Word := ((wv30.bank wv31.bankB).code[wv31.pc]?).get (by decide +kernel)
def wv33 : State := ((Ss : List (State))[132]?).get (by decide +kernel)
def wv34 : Run := (wv33.runOn (2)).get (by decide +kernel)
def wv35 : Word := ((wv33.bank wv34.bankB).code[wv34.pc]?).get (by decide +kernel)
def wv36 : State := ((Ss : List (State))[144]?).get (by decide +kernel)
def wv37 : Run := (wv36.runOn (2)).get (by decide +kernel)
def wv38 : Word := ((wv36.bank wv37.bankB).code[wv37.pc]?).get (by decide +kernel)
def wv39 : State := ((Ss : List (State))[156]?).get (by decide +kernel)
def wv40 : Run := (wv39.runOn (2)).get (by decide +kernel)
def wv41 : Word := ((wv39.bank wv40.bankB).code[wv40.pc]?).get (by decide +kernel)
def wv42 : State := ((Ss : List (State))[168]?).get (by decide +kernel)
def wv43 : Run := (wv42.runOn (2)).get (by decide +kernel)
def wv44 : Word := ((wv42.bank wv43.bankB).code[wv43.pc]?).get (by decide +kernel)
def wv45 : State := ((Ss : List (State))[180]?).get (by decide +kernel)
def wv46 : Run := (wv45.runOn (2)).get (by decide +kernel)
def wv47 : Word := ((wv45.bank wv46.bankB).code[wv46.pc]?).get (by decide +kernel)
def wv48 : State := ((Ss : List (State))[192]?).get (by decide +kernel)
def wv49 : Run := (wv48.runOn (2)).get (by decide +kernel)
def wv50 : Word := ((wv48.bank wv49.bankB).code[wv49.pc]?).get (by decide +kernel)
def wv51 : State := ((Ss : List (State))[204]?).get (by decide +kernel)
def wv52 : Run := (wv51.runOn (2)).get (by decide +kernel)
def wv53 : Word := ((wv51.bank wv52.bankB).code[wv52.pc]?).get (by decide +kernel)
def wv54 : State := ((Ss : List (State))[216]?).get (by decide +kernel)
def wv55 : Run := (wv54.runOn (2)).get (by decide +kernel)
def wv56 : Word := ((wv54.bank wv55.bankB).code[wv55.pc]?).get (by decide +kernel)
def wv57 : State := ((Ss : List (State))[228]?).get (by decide +kernel)
def wv58 : Run := (wv57.runOn (2)).get (by decide +kernel)
def wv59 : Word := ((wv57.bank wv58.bankB).code[wv58.pc]?).get (by decide +kernel)
def wv60 : State := ((Ss : List (State))[240]?).get (by decide +kernel)
def wv61 : Run := (wv60.runOn (2)).get (by decide +kernel)
def wv62 : Word := ((wv60.bank wv61.bankB).code[wv61.pc]?).get (by decide +kernel)
def wv63 : State := ((Ss : List (State))[252]?).get (by decide +kernel)
def wv64 : Run := (wv63.runOn (2)).get (by decide +kernel)
def wv65 : Word := ((wv63.bank wv64.bankB).code[wv64.pc]?).get (by decide +kernel)
def wv66 : State := ((Ss : List (State))[264]?).get (by decide +kernel)
def wv67 : Run := (wv66.runOn (2)).get (by decide +kernel)
def wv68 : Word := ((wv66.bank wv67.bankB).code[wv67.pc]?).get (by decide +kernel)
def wv69 : State := ((Ss : List (State))[276]?).get (by decide +kernel)
def wv70 : Run := (wv69.runOn (2)).get (by decide +kernel)
def wv71 : Word := ((wv69.bank wv70.bankB).code[wv70.pc]?).get (by decide +kernel)
def wv72 : State := ((Ss : List (State))[398]?).get (by decide +kernel)
def wv73 : Run := (wv72.runOn (2)).get (by decide +kernel)
def wv74 : Word := ((wv72.bank wv73.bankB).code[wv73.pc]?).get (by decide +kernel)
def wv75 : State := ((Ss : List (State))[396]?).get (by decide +kernel)
def wv76 : Run := (wv75.runOn (2)).get (by decide +kernel)
def wv77 : Word := ((wv75.bank wv76.bankB).code[wv76.pc]?).get (by decide +kernel)
def wv78 : Int := (realRound ((wv76.a1.setWidth 32)) 0).get (by decide +kernel)
def wv79 : State := ((Ss : List (State))[408]?).get (by decide +kernel)
def wv80 : Run := (wv79.runOn (2)).get (by decide +kernel)
def wv81 : Word := ((wv79.bank wv80.bankB).code[wv80.pc]?).get (by decide +kernel)
def wv82 : Int := (realRound ((wv80.a1.setWidth 32)) 15).get (by decide +kernel)
def wv83 : State := ((Ss : List (State))[410]?).get (by decide +kernel)
def wv84 : Run := (wv83.runOn (2)).get (by decide +kernel)
def wv85 : Word := ((wv83.bank wv84.bankB).code[wv84.pc]?).get (by decide +kernel)
def wv86 : State := ((Ss : List (State))[492]?).get (by decide +kernel)
def wv87 : Run := (wv86.runOn (2)).get (by decide +kernel)
def wv88 : Word := ((wv86.bank wv87.bankB).code[wv87.pc]?).get (by decide +kernel)
def wv89 : State := ((Ss : List (State))[288]?).get (by decide +kernel)
def wv90 : Run := (wv89.runOn (2)).get (by decide +kernel)
def wv91 : Word := ((wv89.bank wv90.bankB).code[wv90.pc]?).get (by decide +kernel)
def wv92 : State := ((Ss : List (State))[300]?).get (by decide +kernel)
def wv93 : Run := (wv92.runOn (2)).get (by decide +kernel)
def wv94 : Word := ((wv92.bank wv93.bankB).code[wv93.pc]?).get (by decide +kernel)
def wv95 : State := ((Ss : List (State))[312]?).get (by decide +kernel)
def wv96 : Run := (wv95.runOn (2)).get (by decide +kernel)
def wv97 : Word := ((wv95.bank wv96.bankB).code[wv96.pc]?).get (by decide +kernel)
def wv98 : State := ((Ss : List (State))[324]?).get (by decide +kernel)
def wv99 : Run := (wv98.runOn (2)).get (by decide +kernel)
def wv100 : Word := ((wv98.bank wv99.bankB).code[wv99.pc]?).get (by decide +kernel)
def wv101 : State := ((Ss : List (State))[336]?).get (by decide +kernel)
def wv102 : Run := (wv101.runOn (2)).get (by decide +kernel)
def wv103 : Word := ((wv101.bank wv102.bankB).code[wv102.pc]?).get (by decide +kernel)
def wv104 : State := ((Ss : List (State))[348]?).get (by decide +kernel)
def wv105 : Run := (wv104.runOn (2)).get (by decide +kernel)
def wv106 : Word := ((wv104.bank wv105.bankB).code[wv105.pc]?).get (by decide +kernel)
def wv107 : State := ((Ss : List (State))[360]?).get (by decide +kernel)
def wv108 : Run := (wv107.runOn (2)).get (by decide +kernel)
def wv109 : Word := ((wv107.bank wv108.bankB).code[wv108.pc]?).get (by decide +kernel)
def wv110 : State := ((Ss : List (State))[372]?).get (by decide +kernel)
def wv111 : Run := (wv110.runOn (2)).get (by decide +kernel)
def wv112 : Word := ((wv110.bank wv111.bankB).code[wv111.pc]?).get (by decide +kernel)
def wv113 : State := ((Ss : List (State))[378]?).get (by decide +kernel)
def wv114 : Run := (wv113.runOn (2)).get (by decide +kernel)
def wv115 : Word := ((wv113.bank wv114.bankB).code[wv114.pc]?).get (by decide +kernel)
def wv116 : State := ((Ss : List (State))[384]?).get (by decide +kernel)
def wv117 : Run := (wv116.runOn (2)).get (by decide +kernel)
def wv118 : Word := ((wv116.bank wv117.bankB).code[wv117.pc]?).get (by decide +kernel)
def wv119 : State := ((Ss : List (State))[420]?).get (by decide +kernel)
def wv120 : Run := (wv119.runOn (2)).get (by decide +kernel)
def wv121 : Word := ((wv119.bank wv120.bankB).code[wv120.pc]?).get (by decide +kernel)
def wv122 : State := ((Ss : List (State))[444]?).get (by decide +kernel)
def wv123 : Run := (wv122.runOn (2)).get (by decide +kernel)
def wv124 : Word := ((wv122.bank wv123.bankB).code[wv123.pc]?).get (by decide +kernel)
def wv125 : State := ((Ss : List (State))[432]?).get (by decide +kernel)
def wv126 : Run := (wv125.runOn (2)).get (by decide +kernel)
def wv127 : Word := ((wv125.bank wv126.bankB).code[wv126.pc]?).get (by decide +kernel)
def wv128 : State := ((Ss : List (State))[456]?).get (by decide +kernel)
def wv129 : Run := (wv128.runOn (2)).get (by decide +kernel)
def wv130 : Word := ((wv128.bank wv129.bankB).code[wv129.pc]?).get (by decide +kernel)
def wv131 : State := ((Ss : List (State))[468]?).get (by decide +kernel)
def wv132 : Run := (wv131.runOn (2)).get (by decide +kernel)
def wv133 : Word := ((wv131.bank wv132.bankB).code[wv132.pc]?).get (by decide +kernel)
def wv134 : State := ((Ss : List (State))[480]?).get (by decide +kernel)
def wv135 : Run := (wv134.runOn (2)).get (by decide +kernel)
def wv136 : Word := ((wv134.bank wv135.bankB).code[wv135.pc]?).get (by decide +kernel)
def wv137 : State := ((Ss : List (State))[504]?).get (by decide +kernel)
def wv138 : Run := (wv137.runOn (2)).get (by decide +kernel)
def wv139 : Word := ((wv137.bank wv138.bankB).code[wv138.pc]?).get (by decide +kernel)
def wv140 : State := ((Ss : List (State))[516]?).get (by decide +kernel)
def wv141 : Run := (wv140.runOn (2)).get (by decide +kernel)
def wv142 : Word := ((wv140.bank wv141.bankB).code[wv141.pc]?).get (by decide +kernel)
def wv143 : State := ((Ss : List (State))[528]?).get (by decide +kernel)
def wv144 : Run := (wv143.runOn (2)).get (by decide +kernel)
def wv145 : Word := ((wv143.bank wv144.bankB).code[wv144.pc]?).get (by decide +kernel)
/-- A state and operands for each clause of `AccumulatorInstructions`. -/
theorem witness_AccumulatorInstructions_0 :
    (∃ s : State, ∃ lane : Nat, ∃ r : Run, ∃ w : Word, ∃ f : Bool, ∃ n : Nat, ∃ x : Int, s.Up ∧ s.runOn lane = some r ∧
      (s.bank r.bankB).code[r.pc]? = some w ∧ f = s.runF r ∧ (n = 32 ∨ n = 64) ∧ x = (BitVec.ofInt n x).toInt) ∧
    (∃ s : State, ∃ lane : Nat, ∃ r : Run, ∃ w : Word, ∃ f : Bool, ∃ n : Nat, ∃ x : Int, s.Up ∧ s.runOn lane = some r ∧
      (s.bank r.bankB).code[r.pc]? = some w ∧ f = s.runF r ∧ (n = 32 ∨ n = 64) ∧ x ≠ (BitVec.ofInt n x).toInt) ∧
    (∃ s : State, ∃ lane : Nat, ∃ r : Run, ∃ w : Word, ∃ f : Bool, s.Up ∧ s.runOn lane = some r ∧ (s.bank r.bankB).code[r.pc]?
      = some w ∧ f = s.runF r ∧ s.AtInsn lane r 0x41 w) ∧
    (∃ s : State, ∃ lane : Nat, ∃ r : Run, ∃ w : Word, ∃ f : Bool, s.Up ∧ s.runOn lane = some r ∧ (s.bank r.bankB).code[r.pc]?
      = some w ∧ f = s.runF r ∧ s.AtInsn lane r 0x50 w) ∧
    (∃ s : State, ∃ lane : Nat, ∃ r : Run, ∃ w : Word, ∃ f : Bool, s.Up ∧ s.runOn lane = some r ∧ (s.bank r.bankB).code[r.pc]?
      = some w ∧ f = s.runF r ∧ s.AtInsn lane r 0x51 w) ∧
    (∃ s : State, ∃ lane : Nat, ∃ r : Run, ∃ w : Word, ∃ f : Bool, s.Up ∧ s.runOn lane = some r ∧ (s.bank r.bankB).code[r.pc]?
      = some w ∧ f = s.runF r ∧ s.AtInsn lane r 0x52 w) ∧
    (∃ s : State, ∃ lane : Nat, ∃ r : Run, ∃ w : Word, ∃ f : Bool, s.Up ∧ s.runOn lane = some r ∧ (s.bank r.bankB).code[r.pc]?
      = some w ∧ f = s.runF r ∧ s.AtInsn lane r 0x53 w) ∧
    (∃ s : State, ∃ lane : Nat, ∃ r : Run, ∃ w : Word, ∃ f : Bool, s.Up ∧ s.runOn lane = some r ∧ (s.bank r.bankB).code[r.pc]?
      = some w ∧ f = s.runF r ∧ s.AtInsn lane r 0x54 w) ∧
    (∃ s : State, ∃ lane : Nat, ∃ r : Run, ∃ w : Word, ∃ f : Bool, s.Up ∧ s.runOn lane = some r ∧ (s.bank r.bankB).code[r.pc]?
      = some w ∧ f = s.runF r ∧ s.AtInsn lane r 0x55 w) ∧
    (∃ s : State, ∃ lane : Nat, ∃ r : Run, ∃ w : Word, ∃ f : Bool, s.Up ∧ s.runOn lane = some r ∧ (s.bank r.bankB).code[r.pc]?
      = some w ∧ f = s.runF r ∧ s.AtInsn lane r 0x56 w) ∧
    (∃ s : State, ∃ lane : Nat, ∃ r : Run, ∃ w : Word, ∃ f : Bool, s.Up ∧ s.runOn lane = some r ∧ (s.bank r.bankB).code[r.pc]?
      = some w ∧ f = s.runF r ∧ s.AtInsn lane r 0x64 w) ∧
    (∃ s : State, ∃ lane : Nat, ∃ r : Run, ∃ w : Word, ∃ f : Bool, s.Up ∧ s.runOn lane = some r ∧ (s.bank r.bankB).code[r.pc]?
      = some w ∧ f = s.runF r ∧ s.AtInsn lane r 0x65 w) :=
  ⟨⟨wv0, 2, wv1, wv2, (wv0.runF wv1), 32, 0, by unfold State.Up; decide +kernel, (Option.some_get _).symm, (Option.some_get
     _).symm, rfl, by decide +kernel, by decide +kernel⟩,
   ⟨wv0, 2, wv1, wv2, (wv0.runF wv1), 32, 2^31, by unfold State.Up; decide +kernel, (Option.some_get _).symm, (Option.some_get
     _).symm, rfl, by decide +kernel, by decide +kernel⟩,
   ⟨wv0, 2, wv1, wv2, (wv0.runF wv1), by unfold State.Up; decide +kernel, (Option.some_get _).symm, (Option.some_get _).symm,
     rfl, by unfold State.AtInsn; decide +kernel⟩,
   ⟨wv3, 2, wv4, wv5, (wv3.runF wv4), by unfold State.Up; decide +kernel, (Option.some_get _).symm, (Option.some_get _).symm,
     rfl, by unfold State.AtInsn; decide +kernel⟩,
   ⟨wv6, 2, wv7, wv8, (wv6.runF wv7), by unfold State.Up; decide +kernel, (Option.some_get _).symm, (Option.some_get _).symm,
     rfl, by unfold State.AtInsn; decide +kernel⟩,
   ⟨wv9, 2, wv10, wv11, (wv9.runF wv10), by unfold State.Up; decide +kernel, (Option.some_get _).symm, (Option.some_get
     _).symm, rfl, by unfold State.AtInsn; decide +kernel⟩,
   ⟨wv12, 2, wv13, wv14, (wv12.runF wv13), by unfold State.Up; decide +kernel, (Option.some_get _).symm, (Option.some_get
     _).symm, rfl, by unfold State.AtInsn; decide +kernel⟩,
   ⟨wv15, 2, wv16, wv17, (wv15.runF wv16), by unfold State.Up; decide +kernel, (Option.some_get _).symm, (Option.some_get
     _).symm, rfl, by unfold State.AtInsn; decide +kernel⟩,
   ⟨wv18, 2, wv19, wv20, (wv18.runF wv19), by unfold State.Up; decide +kernel, (Option.some_get _).symm, (Option.some_get
     _).symm, rfl, by unfold State.AtInsn; decide +kernel⟩,
   ⟨wv21, 2, wv22, wv23, (wv21.runF wv22), by unfold State.Up; decide +kernel, (Option.some_get _).symm, (Option.some_get
     _).symm, rfl, by unfold State.AtInsn; decide +kernel⟩,
   ⟨wv24, 2, wv25, wv26, (wv24.runF wv25), by unfold State.Up; decide +kernel, (Option.some_get _).symm, (Option.some_get
     _).symm, rfl, by unfold State.AtInsn; decide +kernel⟩,
   ⟨wv27, 2, wv28, wv29, (wv27.runF wv28), by unfold State.Up; decide +kernel, (Option.some_get _).symm, (Option.some_get
     _).symm, rfl, by unfold State.AtInsn; decide +kernel⟩⟩
/-- A state and operands for each clause of `AccumulatorInstructions`. -/
theorem witness_AccumulatorInstructions_1 :
    (∃ s : State, ∃ lane : Nat, ∃ r : Run, ∃ w : Word, ∃ f : Bool, s.Up ∧ s.runOn lane = some r ∧ (s.bank r.bankB).code[r.pc]?
      = some w ∧ f = s.runF r ∧ s.AtInsn lane r 0x66 w) ∧
    (∃ s : State, ∃ lane : Nat, ∃ r : Run, ∃ w : Word, ∃ f : Bool, s.Up ∧ s.runOn lane = some r ∧ (s.bank r.bankB).code[r.pc]?
      = some w ∧ f = s.runF r ∧ s.AtInsn lane r 0x67 w) ∧
    (∃ s : State, ∃ lane : Nat, ∃ r : Run, ∃ w : Word, ∃ f : Bool, s.Up ∧ s.runOn lane = some r ∧ (s.bank r.bankB).code[r.pc]?
      = some w ∧ f = s.runF r ∧ s.AtInsn lane r 0x68 w) ∧
    (∃ s : State, ∃ lane : Nat, ∃ r : Run, ∃ w : Word, ∃ f : Bool, s.Up ∧ s.runOn lane = some r ∧ (s.bank r.bankB).code[r.pc]?
      = some w ∧ f = s.runF r) ∧
    (∃ s : State, ∃ lane : Nat, ∃ r : Run, ∃ w : Word, ∃ f : Bool, s.Up ∧ s.runOn lane = some r ∧ (s.bank r.bankB).code[r.pc]?
      = some w ∧ f = s.runF r ∧ s.AtInsn lane r 0x60 w) ∧
    (∃ s : State, ∃ lane : Nat, ∃ r : Run, ∃ w : Word, ∃ f : Bool, s.Up ∧ s.runOn lane = some r ∧ (s.bank r.bankB).code[r.pc]?
      = some w ∧ f = s.runF r ∧ s.AtInsn lane r 0x61 w) ∧
    (∃ s : State, ∃ lane : Nat, ∃ r : Run, ∃ w : Word, ∃ f : Bool, s.Up ∧ s.runOn lane = some r ∧ (s.bank r.bankB).code[r.pc]?
      = some w ∧ f = s.runF r ∧ s.AtInsn lane r 0x62 w) ∧
    (∃ s : State, ∃ lane : Nat, ∃ r : Run, ∃ w : Word, ∃ f : Bool, s.Up ∧ s.runOn lane = some r ∧ (s.bank r.bankB).code[r.pc]?
      = some w ∧ f = s.runF r ∧ s.AtInsn lane r 0x63 w) ∧
    (∃ s : State, ∃ lane : Nat, ∃ r : Run, ∃ w : Word, ∃ f : Bool, ∃ a : Word, ∃ b : Word, s.Up ∧ s.runOn lane = some r ∧
      (s.bank r.bankB).code[r.pc]? = some w ∧ f = s.runF r ∧ a = r.a2.setWidth 32 ∧ b = r.a1.setWidth 32 ∧ s.AtInsn lane r
      0x58 w) ∧
    (∃ s : State, ∃ lane : Nat, ∃ r : Run, ∃ w : Word, ∃ f : Bool, ∃ a : Word, ∃ b : Word, s.Up ∧ s.runOn lane = some r ∧
      (s.bank r.bankB).code[r.pc]? = some w ∧ f = s.runF r ∧ a = r.a2.setWidth 32 ∧ b = r.a1.setWidth 32 ∧ s.AtInsn lane r
      0x59 w) ∧
    (∃ s : State, ∃ lane : Nat, ∃ r : Run, ∃ w : Word, ∃ f : Bool, ∃ a : Word, ∃ b : Word, s.Up ∧ s.runOn lane = some r ∧
      (s.bank r.bankB).code[r.pc]? = some w ∧ f = s.runF r ∧ a = r.a2.setWidth 32 ∧ b = r.a1.setWidth 32 ∧ s.AtInsn lane r
      0x5A w) ∧
    (∃ s : State, ∃ lane : Nat, ∃ r : Run, ∃ w : Word, ∃ f : Bool, ∃ a : Word, ∃ b : Word, s.Up ∧ s.runOn lane = some r ∧
      (s.bank r.bankB).code[r.pc]? = some w ∧ f = s.runF r ∧ a = r.a2.setWidth 32 ∧ b = r.a1.setWidth 32 ∧ s.AtInsn lane r
      0x5B w) :=
  ⟨⟨wv30, 2, wv31, wv32, (wv30.runF wv31), by unfold State.Up; decide +kernel, (Option.some_get _).symm, (Option.some_get
     _).symm, rfl, by unfold State.AtInsn; decide +kernel⟩,
   ⟨wv33, 2, wv34, wv35, (wv33.runF wv34), by unfold State.Up; decide +kernel, (Option.some_get _).symm, (Option.some_get
     _).symm, rfl, by unfold State.AtInsn; decide +kernel⟩,
   ⟨wv36, 2, wv37, wv38, (wv36.runF wv37), by unfold State.Up; decide +kernel, (Option.some_get _).symm, (Option.some_get
     _).symm, rfl, by unfold State.AtInsn; decide +kernel⟩,
   ⟨wv0, 2, wv1, wv2, (wv0.runF wv1), by unfold State.Up; decide +kernel, (Option.some_get _).symm, (Option.some_get _).symm,
     rfl⟩,
   ⟨wv39, 2, wv40, wv41, (wv39.runF wv40), by unfold State.Up; decide +kernel, (Option.some_get _).symm, (Option.some_get
     _).symm, rfl, by unfold State.AtInsn; decide +kernel⟩,
   ⟨wv42, 2, wv43, wv44, (wv42.runF wv43), by unfold State.Up; decide +kernel, (Option.some_get _).symm, (Option.some_get
     _).symm, rfl, by unfold State.AtInsn; decide +kernel⟩,
   ⟨wv45, 2, wv46, wv47, (wv45.runF wv46), by unfold State.Up; decide +kernel, (Option.some_get _).symm, (Option.some_get
     _).symm, rfl, by unfold State.AtInsn; decide +kernel⟩,
   ⟨wv48, 2, wv49, wv50, (wv48.runF wv49), by unfold State.Up; decide +kernel, (Option.some_get _).symm, (Option.some_get
     _).symm, rfl, by unfold State.AtInsn; decide +kernel⟩,
   ⟨wv51, 2, wv52, wv53, (wv51.runF wv52), (wv52.a2.setWidth 32), (wv52.a1.setWidth 32), by unfold State.Up; decide +kernel,
     (Option.some_get _).symm, (Option.some_get _).symm, rfl, rfl, rfl, by unfold State.AtInsn; decide +kernel⟩,
   ⟨wv54, 2, wv55, wv56, (wv54.runF wv55), (wv55.a2.setWidth 32), (wv55.a1.setWidth 32), by unfold State.Up; decide +kernel,
     (Option.some_get _).symm, (Option.some_get _).symm, rfl, rfl, rfl, by unfold State.AtInsn; decide +kernel⟩,
   ⟨wv57, 2, wv58, wv59, (wv57.runF wv58), (wv58.a2.setWidth 32), (wv58.a1.setWidth 32), by unfold State.Up; decide +kernel,
     (Option.some_get _).symm, (Option.some_get _).symm, rfl, rfl, rfl, by unfold State.AtInsn; decide +kernel⟩,
   ⟨wv60, 2, wv61, wv62, (wv60.runF wv61), (wv61.a2.setWidth 32), (wv61.a1.setWidth 32), by unfold State.Up; decide +kernel,
     (Option.some_get _).symm, (Option.some_get _).symm, rfl, rfl, rfl, by unfold State.AtInsn; decide +kernel⟩⟩
/-- A state and operands for each clause of `AccumulatorInstructions`. -/
theorem witness_AccumulatorInstructions_2 :
    (∃ s : State, ∃ lane : Nat, ∃ r : Run, ∃ w : Word, ∃ f : Bool, ∃ a : Word, ∃ b : Word, s.Up ∧ s.runOn lane = some r ∧
      (s.bank r.bankB).code[r.pc]? = some w ∧ f = s.runF r ∧ a = r.a2.setWidth 32 ∧ b = r.a1.setWidth 32 ∧ s.AtInsn lane r
      0x5C w) ∧
    (∃ s : State, ∃ lane : Nat, ∃ r : Run, ∃ w : Word, ∃ f : Bool, ∃ a : Word, ∃ b : Word, s.Up ∧ s.runOn lane = some r ∧
      (s.bank r.bankB).code[r.pc]? = some w ∧ f = s.runF r ∧ a = r.a2.setWidth 32 ∧ b = r.a1.setWidth 32 ∧ s.AtInsn lane r
      0x5D w) ∧
    (∃ s : State, ∃ lane : Nat, ∃ r : Run, ∃ w : Word, ∃ f : Bool, ∃ a : Word, ∃ b : Word, s.Up ∧ s.runOn lane = some r ∧
      (s.bank r.bankB).code[r.pc]? = some w ∧ f = s.runF r ∧ a = r.a2.setWidth 32 ∧ b = r.a1.setWidth 32 ∧ s.AtInsn lane r
      0x5E w) ∧
    (∃ s : State, ∃ lane : Nat, ∃ r : Run, ∃ w : Word, ∃ f : Bool, ∃ a : Word, ∃ b : Word, s.Up ∧ s.runOn lane = some r ∧
      (s.bank r.bankB).code[r.pc]? = some w ∧ f = s.runF r ∧ a = r.a2.setWidth 32 ∧ b = r.a1.setWidth 32 ∧ s.AtInsn lane r
      0x79 w ∧ realRound b 0 = none) ∧
    (∃ s : State, ∃ lane : Nat, ∃ r : Run, ∃ w : Word, ∃ f : Bool, ∃ a : Word, ∃ b : Word, ∃ x : Int, s.Up ∧ s.runOn lane =
      some r ∧ (s.bank r.bankB).code[r.pc]? = some w ∧ f = s.runF r ∧ a = r.a2.setWidth 32 ∧ b = r.a1.setWidth 32 ∧ s.AtInsn
      lane r 0x79 w ∧ realRound b 0 = some x) ∧
    (∃ s : State, ∃ lane : Nat, ∃ r : Run, ∃ w : Word, ∃ f : Bool, ∃ a : Word, ∃ b : Word, ∃ x : Int, s.Up ∧ s.runOn lane =
      some r ∧ (s.bank r.bankB).code[r.pc]? = some w ∧ f = s.runF r ∧ a = r.a2.setWidth 32 ∧ b = r.a1.setWidth 32 ∧ s.AtInsn
      lane r 0x7A w ∧ realRound b 15 = some x) ∧
    (∃ s : State, ∃ lane : Nat, ∃ r : Run, ∃ w : Word, ∃ f : Bool, ∃ a : Word, ∃ b : Word, s.Up ∧ s.runOn lane = some r ∧
      (s.bank r.bankB).code[r.pc]? = some w ∧ f = s.runF r ∧ a = r.a2.setWidth 32 ∧ b = r.a1.setWidth 32 ∧ s.AtInsn lane r
      0x7A w ∧ realRound b 15 = none) ∧
    (∃ s : State, ∃ lane : Nat, ∃ r : Run, ∃ w : Word, ∃ f : Bool, ∃ a : Word, ∃ b : Word, ∃ c : Nat, s.Up ∧ s.runOn lane =
      some r ∧ (s.bank r.bankB).code[r.pc]? = some w ∧ f = s.runF r ∧ a = r.a2.setWidth 32 ∧ b = r.a1.setWidth 32 ∧ c =
      w.toNat % 64 ∧ c ≤ 5 ∧ s.AtInsn lane r 0x81 w) ∧
    (∃ s : State, ∃ lane : Nat, ∃ r : Run, ∃ w : Word, ∃ f : Bool, s.Up ∧ s.runOn lane = some r ∧ (s.bank r.bankB).code[r.pc]?
      = some w ∧ f = s.runF r ∧ s.AtInsn lane r 0x6A w) ∧
    (∃ s : State, ∃ lane : Nat, ∃ r : Run, ∃ w : Word, ∃ f : Bool, s.Up ∧ s.runOn lane = some r ∧ (s.bank r.bankB).code[r.pc]?
      = some w ∧ f = s.runF r ∧ s.AtInsn lane r 0x6B w) ∧
    (∃ s : State, ∃ lane : Nat, ∃ r : Run, ∃ w : Word, ∃ f : Bool, s.Up ∧ s.runOn lane = some r ∧ (s.bank r.bankB).code[r.pc]?
      = some w ∧ f = s.runF r ∧ s.AtInsn lane r 0x6C w) ∧
    (∃ s : State, ∃ lane : Nat, ∃ r : Run, ∃ w : Word, ∃ f : Bool, s.Up ∧ s.runOn lane = some r ∧ (s.bank r.bankB).code[r.pc]?
      = some w ∧ f = s.runF r ∧ s.AtInsn lane r 0x6D w) :=
  ⟨⟨wv63, 2, wv64, wv65, (wv63.runF wv64), (wv64.a2.setWidth 32), (wv64.a1.setWidth 32), by unfold State.Up; decide +kernel,
     (Option.some_get _).symm, (Option.some_get _).symm, rfl, rfl, rfl, by unfold State.AtInsn; decide +kernel⟩,
   ⟨wv66, 2, wv67, wv68, (wv66.runF wv67), (wv67.a2.setWidth 32), (wv67.a1.setWidth 32), by unfold State.Up; decide +kernel,
     (Option.some_get _).symm, (Option.some_get _).symm, rfl, rfl, rfl, by unfold State.AtInsn; decide +kernel⟩,
   ⟨wv69, 2, wv70, wv71, (wv69.runF wv70), (wv70.a2.setWidth 32), (wv70.a1.setWidth 32), by unfold State.Up; decide +kernel,
     (Option.some_get _).symm, (Option.some_get _).symm, rfl, rfl, rfl, by unfold State.AtInsn; decide +kernel⟩,
   ⟨wv72, 2, wv73, wv74, (wv72.runF wv73), (wv73.a2.setWidth 32), (wv73.a1.setWidth 32), by unfold State.Up; decide +kernel,
     (Option.some_get _).symm, (Option.some_get _).symm, rfl, rfl, rfl, by unfold State.AtInsn; decide +kernel, by
     decide +kernel⟩,
   ⟨wv75, 2, wv76, wv77, (wv75.runF wv76), (wv76.a2.setWidth 32), (wv76.a1.setWidth 32), wv78,
     by unfold State.Up; decide +kernel, (Option.some_get _).symm, (Option.some_get _).symm, rfl, rfl, rfl,
     by unfold State.AtInsn; decide +kernel, (Option.some_get _).symm⟩,
   ⟨wv79, 2, wv80, wv81, (wv79.runF wv80), (wv80.a2.setWidth 32), (wv80.a1.setWidth 32), wv82,
     by unfold State.Up; decide +kernel, (Option.some_get _).symm, (Option.some_get _).symm, rfl, rfl, rfl,
     by unfold State.AtInsn; decide +kernel, (Option.some_get _).symm⟩,
   ⟨wv83, 2, wv84, wv85, (wv83.runF wv84), (wv84.a2.setWidth 32), (wv84.a1.setWidth 32), by unfold State.Up; decide +kernel,
     (Option.some_get _).symm, (Option.some_get _).symm, rfl, rfl, rfl, by unfold State.AtInsn; decide +kernel, by
     decide +kernel⟩,
   ⟨wv86, 2, wv87, wv88, (wv86.runF wv87), (wv87.a2.setWidth 32), (wv87.a1.setWidth 32), (wv88.toNat % 64),
     by unfold State.Up; decide +kernel, (Option.some_get _).symm, (Option.some_get _).symm, rfl, rfl, rfl, rfl, by
     decide +kernel, by unfold State.AtInsn; decide +kernel⟩,
   ⟨wv89, 2, wv90, wv91, (wv89.runF wv90), by unfold State.Up; decide +kernel, (Option.some_get _).symm, (Option.some_get
     _).symm, rfl, by unfold State.AtInsn; decide +kernel⟩,
   ⟨wv92, 2, wv93, wv94, (wv92.runF wv93), by unfold State.Up; decide +kernel, (Option.some_get _).symm, (Option.some_get
     _).symm, rfl, by unfold State.AtInsn; decide +kernel⟩,
   ⟨wv95, 2, wv96, wv97, (wv95.runF wv96), by unfold State.Up; decide +kernel, (Option.some_get _).symm, (Option.some_get
     _).symm, rfl, by unfold State.AtInsn; decide +kernel⟩,
   ⟨wv98, 2, wv99, wv100, (wv98.runF wv99), by unfold State.Up; decide +kernel, (Option.some_get _).symm, (Option.some_get
     _).symm, rfl, by unfold State.AtInsn; decide +kernel⟩⟩
/-- A state and operands for each clause of `AccumulatorInstructions`. -/
theorem witness_AccumulatorInstructions_3 :
    (∃ s : State, ∃ lane : Nat, ∃ r : Run, ∃ w : Word, ∃ f : Bool, ∃ n : Nat, s.Up ∧ s.runOn lane = some r ∧ (s.bank
      r.bankB).code[r.pc]? = some w ∧ f = s.runF r ∧ n = w.toNat % 64 ∧ r.a1 = accVal f r.a1 ∧ s.AtInsn lane r 0x70 w) ∧
    (∃ s : State, ∃ lane : Nat, ∃ r : Run, ∃ w : Word, ∃ f : Bool, ∃ n : Nat, s.Up ∧ s.runOn lane = some r ∧ (s.bank
      r.bankB).code[r.pc]? = some w ∧ f = s.runF r ∧ n = w.toNat % 64 ∧ r.a1 = accVal f r.a1 ∧ s.AtInsn lane r 0x71 w) ∧
    (∃ s : State, ∃ lane : Nat, ∃ r : Run, ∃ w : Word, ∃ f : Bool, ∃ n : Nat, s.Up ∧ s.runOn lane = some r ∧ (s.bank
      r.bankB).code[r.pc]? = some w ∧ f = s.runF r ∧ n = w.toNat % 64 ∧ r.a1 = accVal f r.a1 ∧ s.AtInsn lane r 0x72 w) ∧
    (∃ s : State, ∃ lane : Nat, ∃ r : Run, ∃ w : Word, ∃ f : Bool, ∃ n : Nat, s.Up ∧ s.runOn lane = some r ∧ (s.bank
      r.bankB).code[r.pc]? = some w ∧ f = s.runF r ∧ n = w.toNat % 64 ∧ r.a1 = accVal f r.a1 ∧ s.AtInsn lane r 0x73 w ∧ f =
      true) ∧
    (∃ s : State, ∃ lane : Nat, ∃ r : Run, ∃ w : Word, ∃ f : Bool, ∃ n : Nat, s.Up ∧ s.runOn lane = some r ∧ (s.bank
      r.bankB).code[r.pc]? = some w ∧ f = s.runF r ∧ n = w.toNat % 64 ∧ r.a1 = accVal f r.a1 ∧ s.AtInsn lane r 0x73 w ∧ f =
      false) ∧
    (∃ s : State, ∃ lane : Nat, ∃ r : Run, ∃ w : Word, ∃ f : Bool, s.Up ∧ s.runOn lane = some r ∧ (s.bank r.bankB).code[r.pc]?
      = some w ∧ f = s.runF r ∧ s.AtInsn lane r 0x78 w) ∧
    (∃ s : State, ∃ lane : Nat, ∃ r : Run, ∃ w : Word, ∃ f : Bool, s.Up ∧ s.runOn lane = some r ∧ (s.bank r.bankB).code[r.pc]?
      = some w ∧ f = s.runF r ∧ s.AtInsn lane r 0x7B w) ∧
    (∃ s : State, ∃ lane : Nat, ∃ r : Run, ∃ w : Word, ∃ f : Bool, s.Up ∧ s.runOn lane = some r ∧ (s.bank r.bankB).code[r.pc]?
      = some w ∧ f = s.runF r ∧ s.AtInsn lane r 0x7D w) ∧
    (∃ s : State, ∃ lane : Nat, ∃ r : Run, ∃ w : Word, ∃ f : Bool, s.Up ∧ s.runOn lane = some r ∧ (s.bank r.bankB).code[r.pc]?
      = some w ∧ f = s.runF r ∧ s.AtInsn lane r 0x7C w) ∧
    (∃ s : State, ∃ lane : Nat, ∃ r : Run, ∃ w : Word, ∃ f : Bool, s.Up ∧ s.runOn lane = some r ∧ (s.bank r.bankB).code[r.pc]?
      = some w ∧ f = s.runF r ∧ s.AtInsn lane r 0x7E w) ∧
    (∃ s : State, ∃ lane : Nat, ∃ r : Run, ∃ w : Word, ∃ f : Bool, s.Up ∧ s.runOn lane = some r ∧ (s.bank r.bankB).code[r.pc]?
      = some w ∧ f = s.runF r ∧ s.AtInsn lane r 0x7F w) ∧
    (∃ s : State, ∃ lane : Nat, ∃ r : Run, ∃ w : Word, ∃ f : Bool, ∃ c : Nat, s.Up ∧ s.runOn lane = some r ∧ (s.bank
      r.bankB).code[r.pc]? = some w ∧ f = s.runF r ∧ c = w.toNat % 64 ∧ c ≤ 5 ∧ s.AtInsn lane r 0x80 w) :=
  ⟨⟨wv101, 2, wv102, wv103, (wv101.runF wv102), (wv103.toNat % 64), by unfold State.Up; decide +kernel, (Option.some_get
     _).symm, (Option.some_get _).symm, rfl, rfl, by decide +kernel, by unfold State.AtInsn; decide +kernel⟩,
   ⟨wv104, 2, wv105, wv106, (wv104.runF wv105), (wv106.toNat % 64), by unfold State.Up; decide +kernel, (Option.some_get
     _).symm, (Option.some_get _).symm, rfl, rfl, by decide +kernel, by unfold State.AtInsn; decide +kernel⟩,
   ⟨wv107, 2, wv108, wv109, (wv107.runF wv108), (wv109.toNat % 64), by unfold State.Up; decide +kernel, (Option.some_get
     _).symm, (Option.some_get _).symm, rfl, rfl, by decide +kernel, by unfold State.AtInsn; decide +kernel⟩,
   ⟨wv110, 2, wv111, wv112, (wv110.runF wv111), (wv112.toNat % 64), by unfold State.Up; decide +kernel, (Option.some_get
     _).symm, (Option.some_get _).symm, rfl, rfl, by decide +kernel, by unfold State.AtInsn; decide +kernel, by
     decide +kernel⟩,
   ⟨wv113, 2, wv114, wv115, (wv113.runF wv114), (wv115.toNat % 64), by unfold State.Up; decide +kernel, (Option.some_get
     _).symm, (Option.some_get _).symm, rfl, rfl, by decide +kernel, by unfold State.AtInsn; decide +kernel, by
     decide +kernel⟩,
   ⟨wv116, 2, wv117, wv118, (wv116.runF wv117), by unfold State.Up; decide +kernel, (Option.some_get _).symm, (Option.some_get
     _).symm, rfl, by unfold State.AtInsn; decide +kernel⟩,
   ⟨wv119, 2, wv120, wv121, (wv119.runF wv120), by unfold State.Up; decide +kernel, (Option.some_get _).symm, (Option.some_get
     _).symm, rfl, by unfold State.AtInsn; decide +kernel⟩,
   ⟨wv122, 2, wv123, wv124, (wv122.runF wv123), by unfold State.Up; decide +kernel, (Option.some_get _).symm, (Option.some_get
     _).symm, rfl, by unfold State.AtInsn; decide +kernel⟩,
   ⟨wv125, 2, wv126, wv127, (wv125.runF wv126), by unfold State.Up; decide +kernel, (Option.some_get _).symm, (Option.some_get
     _).symm, rfl, by unfold State.AtInsn; decide +kernel⟩,
   ⟨wv128, 2, wv129, wv130, (wv128.runF wv129), by unfold State.Up; decide +kernel, (Option.some_get _).symm, (Option.some_get
     _).symm, rfl, by unfold State.AtInsn; decide +kernel⟩,
   ⟨wv131, 2, wv132, wv133, (wv131.runF wv132), by unfold State.Up; decide +kernel, (Option.some_get _).symm, (Option.some_get
     _).symm, rfl, by unfold State.AtInsn; decide +kernel⟩,
   ⟨wv134, 2, wv135, wv136, (wv134.runF wv135), (wv136.toNat % 64), by unfold State.Up; decide +kernel, (Option.some_get
     _).symm, (Option.some_get _).symm, rfl, rfl, by decide +kernel, by unfold State.AtInsn; decide +kernel⟩⟩
/-- A state and operands for each clause of `AccumulatorInstructions`. -/
theorem witness_AccumulatorInstructions_4 :
    (∃ s : State, ∃ lane : Nat, ∃ r : Run, ∃ w : Word, ∃ f : Bool, ∃ c : Nat, s.Up ∧ s.runOn lane = some r ∧ (s.bank
      r.bankB).code[r.pc]? = some w ∧ f = s.runF r ∧ c = w.toNat % 64 ∧ c ≤ 5 ∧ s.AtInsn lane r 0x82 w) ∧
    (∃ s : State, ∃ lane : Nat, ∃ r : Run, ∃ w : Word, ∃ f : Bool, ∃ c : Nat, s.Up ∧ s.runOn lane = some r ∧ (s.bank
      r.bankB).code[r.pc]? = some w ∧ f = s.runF r ∧ c = w.toNat % 64 ∧ c ≤ 5 ∧ s.AtInsn lane r 0x83 w) ∧
    (∃ s : State, ∃ lane : Nat, ∃ r : Run, ∃ w : Word, ∃ f : Bool, ∃ c : Nat, s.Up ∧ s.runOn lane = some r ∧ (s.bank
      r.bankB).code[r.pc]? = some w ∧ f = s.runF r ∧ c = w.toNat % 64 ∧ 5 < c ∧ s.AtInsn lane r 0x80 w) :=
  ⟨⟨wv137, 2, wv138, wv139, (wv137.runF wv138), (wv139.toNat % 64), by unfold State.Up; decide +kernel, (Option.some_get
     _).symm, (Option.some_get _).symm, rfl, rfl, by decide +kernel, by unfold State.AtInsn; decide +kernel⟩,
   ⟨wv140, 2, wv141, wv142, (wv140.runF wv141), (wv142.toNat % 64), by unfold State.Up; decide +kernel, (Option.some_get
     _).symm, (Option.some_get _).symm, rfl, rfl, by decide +kernel, by unfold State.AtInsn; decide +kernel⟩,
   ⟨wv143, 2, wv144, wv145, (wv143.runF wv144), (wv145.toNat % 64), by unfold State.Up; decide +kernel, (Option.some_get
     _).symm, (Option.some_get _).symm, rfl, rfl, by decide +kernel, by unfold State.AtInsn; decide +kernel⟩⟩
end AccumulatorInstructions

namespace JumpsAndCalls
def ops : List Nat := (List.range' 0x90 5)++(List.range' 0xA0 5)
def ws : List Word := (ops.map fun o => wd o 0xFFFFFF) ++ (ops.map fun o => wd o 0x5) ++ [wd 0xA1 0, wd 0xA2 0, wd 0xA0 (ms 5 0 48), wd 0xA0 (ms 5 1 62)]
def fr1 : Frame := ⟨3,0,0,16,{Fr.zero with en := true, vs := true},0,8⟩
def rs : List Run := [{rn true with xr := 1}, {rn false with fr := {Fr.zero with vs := true}}, {rn true with calls := [fr1], cond := [true], base := 1}, {rn true with cond := [true], base := 0},{rn true with calls := [fr1]} ]
def st (r : Run) (w : Word) : State := let s := sr r [w]; {s with scn := {s.scn with bankA := some {bk [w] with fbTypes := [⟨7,16,32,0⟩], dataInit := (bk []).dataInit.mapIdx (fun i x => if i = 4 ∨ i = 5 then 0 else x)}}}
def Ss : List State := ws.flatMap fun w => (rs.map fun r => st r w)
def wv0 : State := ((Ss : List (State))[0]?).get (by decide +kernel)
def wv1 : Run := ((rs : List (Run))[0]?).get (by decide +kernel)
def wv2 : Word := ((ws : List (Word))[0]?).get (by decide +kernel)
def wv3 : State := ((Ss : List (State))[5]?).get (by decide +kernel)
def wv4 : Word := ((ws : List (Word))[1]?).get (by decide +kernel)
def wv5 : State := ((Ss : List (State))[10]?).get (by decide +kernel)
def wv6 : Word := ((ws : List (Word))[2]?).get (by decide +kernel)
def wv7 : State := ((Ss : List (State))[15]?).get (by decide +kernel)
def wv8 : Word := ((ws : List (Word))[3]?).get (by decide +kernel)
def wv9 : State := ((Ss : List (State))[20]?).get (by decide +kernel)
def wv10 : Word := ((ws : List (Word))[4]?).get (by decide +kernel)
def wv11 : State := ((Ss : List (State))[110]?).get (by decide +kernel)
def wv12 : Word := ((ws : List (Word))[22]?).get (by decide +kernel)
def wv13 : State := ((Ss : List (State))[25]?).get (by decide +kernel)
def wv14 : Word := ((ws : List (Word))[5]?).get (by decide +kernel)
def wv15 : State := ((Ss : List (State))[100]?).get (by decide +kernel)
def wv16 : Word := ((ws : List (Word))[20]?).get (by decide +kernel)
def wv17 : FbType := (((wv15.bank wv1.bankB)).fbTypes[((wv16.toNat % 2 ^ 24))]?).get (by decide +kernel)
def wv18 : State := ((Ss : List (State))[105]?).get (by decide +kernel)
def wv19 : Word := ((ws : List (Word))[21]?).get (by decide +kernel)
def wv20 : FbType := (((wv18.bank wv1.bankB)).fbTypes[((wv19.toNat % 2 ^ 24))]?).get (by decide +kernel)
def wv21 : State := ((Ss : List (State))[36]?).get (by decide +kernel)
def wv22 : Run := ((rs : List (Run))[1]?).get (by decide +kernel)
def wv23 : Word := ((ws : List (Word))[7]?).get (by decide +kernel)
def wv24 : State := ((Ss : List (State))[30]?).get (by decide +kernel)
def wv25 : Word := ((ws : List (Word))[6]?).get (by decide +kernel)
def wv26 : State := ((Ss : List (State))[42]?).get (by decide +kernel)
def wv27 : Run := ((rs : List (Run))[2]?).get (by decide +kernel)
def wv28 : Word := ((ws : List (Word))[8]?).get (by decide +kernel)
def wv29 : State := ((Ss : List (State))[47]?).get (by decide +kernel)
def wv30 : Word := ((ws : List (Word))[9]?).get (by decide +kernel)
def wv31 : State := ((Ss : List (State))[46]?).get (by decide +kernel)
def wv32 : State := ((Ss : List (State))[43]?).get (by decide +kernel)
def wv33 : Run := ((rs : List (Run))[3]?).get (by decide +kernel)
def wv34 : State := ((Ss : List (State))[40]?).get (by decide +kernel)
/-- A state and operands for each clause of `JumpsAndCalls`. -/
theorem witness_JumpsAndCalls_0 :
    (∃ s : State, ∃ lane : Nat, ∃ r : Run, ∃ w : Word, ∃ k : Bank, ∃ dst : Nat, s.Up ∧ k = s.bank r.bankB ∧ dst =
      (BitVec.ofNat 24 (r.pc + 1) + w.setWidth 24).toNat ∧ s.AtInsn lane r 0x90 w) ∧
    (∃ s : State, ∃ lane : Nat, ∃ r : Run, ∃ w : Word, ∃ k : Bank, ∃ dst : Nat, s.Up ∧ k = s.bank r.bankB ∧ dst =
      (BitVec.ofNat 24 (r.pc + 1) + w.setWidth 24).toNat ∧ s.AtInsn lane r 0x91 w) ∧
    (∃ s : State, ∃ lane : Nat, ∃ r : Run, ∃ w : Word, ∃ k : Bank, ∃ dst : Nat, s.Up ∧ k = s.bank r.bankB ∧ dst =
      (BitVec.ofNat 24 (r.pc + 1) + w.setWidth 24).toNat ∧ s.AtInsn lane r 0x92 w) ∧
    (∃ s : State, ∃ lane : Nat, ∃ r : Run, ∃ w : Word, ∃ k : Bank, ∃ dst : Nat, s.Up ∧ k = s.bank r.bankB ∧ dst =
      (BitVec.ofNat 24 (r.pc + 1) + w.setWidth 24).toNat ∧ s.AtInsn lane r 0x93 w) ∧
    (∃ s : State, ∃ lane : Nat, ∃ r : Run, ∃ w : Word, ∃ k : Bank, ∃ dst : Nat, s.Up ∧ k = s.bank r.bankB ∧ dst =
      (BitVec.ofNat 24 (r.pc + 1) + w.setWidth 24).toNat ∧ s.AtInsn lane r 0x94 w) ∧
    (∃ s : State, ∃ lane : Nat, ∃ r : Run, ∃ w : Word, ∃ k : Bank, ∃ dst : Nat, s.Up ∧ k = s.bank r.bankB ∧ dst =
      (BitVec.ofNat 24 (r.pc + 1) + w.setWidth 24).toNat ∧ s.AtInsn lane r 0xA0 w ∧ wSpace w = Sp.D ∧ r.effAddr w <
      s.spaceLimit r.past Sp.D ∧ r.effAddr w % 16 = 0) ∧
    (∃ s : State, ∃ lane : Nat, ∃ r : Run, ∃ w : Word, ∃ k : Bank, ∃ dst : Nat, s.Up ∧ k = s.bank r.bankB ∧ dst =
      (BitVec.ofNat 24 (r.pc + 1) + w.setWidth 24).toNat ∧ s.AtInsn lane r 0xA0 w ∧ wSpace w ≠ Sp.D) ∧
    (∃ s : State, ∃ lane : Nat, ∃ r : Run, ∃ w : Word, ∃ k : Bank, ∃ dst : Nat, ∃ i : Nat, ∃ ty : FbType, ∃ q : Run, s.Up ∧ k
      = s.bank r.bankB ∧ dst = (BitVec.ofNat 24 (r.pc + 1) + w.setWidth 24).toNat ∧ i = w.toNat % 2 ^ 24 ∧ k.fbTypes[i]? =
      some ty ∧ r.tir + 16 ≤ k.dataSize ∧ k.dataWord (r.tir + 4) % 65536 = i ∧ r.calls.length < 64 ∧ (∀ e, s.runEntry r = some
      e → r.lb + r.fsz + ty.lSize ≤ e.lSize) ∧ (s.runEntry r).isSome ∧ q =
      { r with calls := ⟨r.pc + 1, r.ib, r.lb, r.tir, r.fr, r.base, r.fsz⟩ :: r.calls, ib := r.tir, lb := r.lb + r.fsz, fsz := ty.lSize, base := r.cond.length, fr := { r.fr with en := r.fr.cb }, pc := ty.entry }
      ∧ s.AtInsn lane r 0xA1 w) ∧
    (∃ s : State, ∃ lane : Nat, ∃ r : Run, ∃ w : Word, ∃ k : Bank, ∃ dst : Nat, ∃ i : Nat, ∃ ty : FbType, ∃ q : Run, s.Up ∧ k
      = s.bank r.bankB ∧ dst = (BitVec.ofNat 24 (r.pc + 1) + w.setWidth 24).toNat ∧ i = w.toNat % 2 ^ 24 ∧ k.fbTypes[i]? =
      some ty ∧ r.tir + 16 ≤ k.dataSize ∧ k.dataWord (r.tir + 4) % 65536 = i ∧ r.calls.length < 64 ∧ (∀ e, s.runEntry r = some
      e → r.lb + r.fsz + ty.lSize ≤ e.lSize) ∧ (s.runEntry r).isSome ∧ q =
      { r with calls := ⟨r.pc + 1, r.ib, r.lb, r.tir, r.fr, r.base, r.fsz⟩ :: r.calls, ib := r.tir, lb := r.lb + r.fsz, fsz := ty.lSize, base := r.cond.length, fr := { r.fr with en := r.fr.cb }, pc := ty.entry }
      ∧ s.AtInsn lane r 0xA2 w ∧ r.fr.cb = true) ∧
    (∃ s : State, ∃ lane : Nat, ∃ r : Run, ∃ w : Word, ∃ k : Bank, ∃ dst : Nat, s.Up ∧ k = s.bank r.bankB ∧ dst =
      (BitVec.ofNat 24 (r.pc + 1) + w.setWidth 24).toNat ∧ s.AtInsn lane r 0xA2 w ∧ r.fr.cb = false) ∧
    (∃ s : State, ∃ lane : Nat, ∃ r : Run, ∃ w : Word, ∃ k : Bank, ∃ dst : Nat, s.Up ∧ k = s.bank r.bankB ∧ dst =
      (BitVec.ofNat 24 (r.pc + 1) + w.setWidth 24).toNat ∧ s.AtInsn lane r 0xA1 w ∧ k.fbTypes[w.toNat % 2 ^ 24]? = none) ∧
    (∃ s : State, ∃ lane : Nat, ∃ r : Run, ∃ w : Word, ∃ k : Bank, ∃ dst : Nat, ∃ c : Frame, ∃ rest : List Frame, ∃ q : Run,
      s.Up ∧ k = s.bank r.bankB ∧ dst = (BitVec.ofNat 24 (r.pc + 1) + w.setWidth 24).toNat ∧ r.calls = c :: rest ∧
      r.cond.length ≤ r.base ∧ q =
      { r with calls := rest, pc := c.pc, ib := c.ib, lb := c.lb, tir := c.tir, base := c.base, fsz := c.fsz, fr := { r.fr with cb := r.fr.en, vs := c.fr.vs || r.fr.vs } }
      ∧ s.AtInsn lane r 0xA3 w) :=
  ⟨⟨wv0, 2, wv1, wv2, (wv0.bank wv1.bankB), ((BitVec.ofNat 24 (wv1.pc + 1) + wv2.setWidth 24).toNat),
     by unfold State.Up State.AtInsn; decide +kernel⟩,
   ⟨wv3, 2, wv1, wv4, (wv3.bank wv1.bankB), ((BitVec.ofNat 24 (wv1.pc + 1) + wv4.setWidth 24).toNat),
     by unfold State.Up State.AtInsn; decide +kernel⟩,
   ⟨wv5, 2, wv1, wv6, (wv5.bank wv1.bankB), ((BitVec.ofNat 24 (wv1.pc + 1) + wv6.setWidth 24).toNat),
     by unfold State.Up State.AtInsn; decide +kernel⟩,
   ⟨wv7, 2, wv1, wv8, (wv7.bank wv1.bankB), ((BitVec.ofNat 24 (wv1.pc + 1) + wv8.setWidth 24).toNat),
     by unfold State.Up State.AtInsn; decide +kernel⟩,
   ⟨wv9, 2, wv1, wv10, (wv9.bank wv1.bankB), ((BitVec.ofNat 24 (wv1.pc + 1) + wv10.setWidth 24).toNat),
     by unfold State.Up State.AtInsn; decide +kernel⟩,
   ⟨wv11, 2, wv1, wv12, (wv11.bank wv1.bankB), ((BitVec.ofNat 24 (wv1.pc + 1) + wv12.setWidth 24).toNat),
     by unfold State.Up State.AtInsn; decide +kernel⟩,
   ⟨wv13, 2, wv1, wv14, (wv13.bank wv1.bankB), ((BitVec.ofNat 24 (wv1.pc + 1) + wv14.setWidth 24).toNat),
     by unfold State.Up State.AtInsn; decide +kernel⟩,
   ⟨wv15, 2, wv1, wv16, ((wv15).bank (wv1).bankB), ((BitVec.ofNat 24 ((wv1).pc + 1) + (wv16).setWidth 24).toNat), ((wv16).toNat % 2 ^ 24), wv17, ({ (wv1) with
        calls := ⟨(wv1).pc + 1, (wv1).ib, (wv1).lb, (wv1).tir, (wv1).fr, (wv1).base, (wv1).fsz⟩ :: (wv1).calls, ib := (wv1).tir, lb := (wv1).lb + (wv1).fsz,
        fsz := (wv17).lSize, base := (wv1).cond.length, fr := { (wv1).fr with en := (wv1).fr.cb }, pc := (wv17).entry }), by unfold State.Up; decide +kernel, rfl, rfl, rfl, (Option.some_get _).symm, by decide +kernel, by decide +kernel, by decide +kernel, by decide +kernel, by decide +kernel, rfl, by unfold State.AtInsn; decide +kernel⟩,
   ⟨wv18, 2, wv1, wv19, ((wv18).bank (wv1).bankB), ((BitVec.ofNat 24 ((wv1).pc + 1) + (wv19).setWidth 24).toNat), ((wv19).toNat % 2 ^ 24), wv20, ({ (wv1) with
        calls := ⟨(wv1).pc + 1, (wv1).ib, (wv1).lb, (wv1).tir, (wv1).fr, (wv1).base, (wv1).fsz⟩ :: (wv1).calls, ib := (wv1).tir, lb := (wv1).lb + (wv1).fsz,
        fsz := (wv20).lSize, base := (wv1).cond.length, fr := { (wv1).fr with en := (wv1).fr.cb }, pc := (wv20).entry }), by unfold State.Up; decide +kernel, rfl, rfl, rfl, (Option.some_get _).symm, by decide +kernel, by decide +kernel, by decide +kernel, by decide +kernel, by decide +kernel, rfl, by unfold State.AtInsn; decide +kernel, by decide +kernel⟩,
   ⟨wv21, 2, wv22, wv23, (wv21.bank wv22.bankB), ((BitVec.ofNat 24 (wv22.pc + 1) + wv23.setWidth 24).toNat),
     by unfold State.Up State.AtInsn; decide +kernel⟩,
   ⟨wv24, 2, wv1, wv25, (wv24.bank wv1.bankB), ((BitVec.ofNat 24 (wv1.pc + 1) + wv25.setWidth 24).toNat),
     by unfold State.Up State.AtInsn; decide +kernel⟩,
   ⟨wv26, 2, wv27, wv28, ((wv26).bank (wv27).bankB), ((BitVec.ofNat 24 ((wv27).pc + 1) + (wv28).setWidth 24).toNat), fr1, [], ({ (wv27) with
        calls := ([]), pc := (fr1).pc, ib := (fr1).ib, lb := (fr1).lb, tir := (fr1).tir,
        base := (fr1).base, fsz := (fr1).fsz, fr := { (wv27).fr with cb := (wv27).fr.en, vs := (fr1).fr.vs || (wv27).fr.vs } }), by unfold State.Up State.AtInsn; decide +kernel⟩⟩
/-- A state and operands for each clause of `JumpsAndCalls`. -/
theorem witness_JumpsAndCalls_1 :
    (∃ s : State, ∃ lane : Nat, ∃ r : Run, ∃ w : Word, ∃ k : Bank, ∃ dst : Nat, ∃ c : Frame, ∃ rest : List Frame, ∃ q : Run,
      s.Up ∧ k = s.bank r.bankB ∧ dst = (BitVec.ofNat 24 (r.pc + 1) + w.setWidth 24).toNat ∧ r.calls = c :: rest ∧
      r.cond.length ≤ r.base ∧ q =
      { r with calls := rest, pc := c.pc, ib := c.ib, lb := c.lb, tir := c.tir, base := c.base, fsz := c.fsz, fr := { r.fr with cb := r.fr.en, vs := c.fr.vs || r.fr.vs } }
      ∧ s.AtInsn lane r 0xA4 w ∧ r.fr.cb = true) ∧
    (∃ s : State, ∃ lane : Nat, ∃ r : Run, ∃ w : Word, ∃ k : Bank, ∃ dst : Nat, s.Up ∧ k = s.bank r.bankB ∧ dst =
      (BitVec.ofNat 24 (r.pc + 1) + w.setWidth 24).toNat ∧ s.AtInsn lane r 0xA4 w ∧ r.fr.cb = false) ∧
    (∃ s : State, ∃ lane : Nat, ∃ r : Run, ∃ w : Word, ∃ k : Bank, ∃ dst : Nat, s.Up ∧ k = s.bank r.bankB ∧ dst =
      (BitVec.ofNat 24 (r.pc + 1) + w.setWidth 24).toNat ∧ s.AtInsn lane r 0xA3 w ∧ r.base < r.cond.length) ∧
    (∃ s : State, ∃ lane : Nat, ∃ r : Run, ∃ w : Word, ∃ k : Bank, ∃ dst : Nat, s.Up ∧ k = s.bank r.bankB ∧ dst =
      (BitVec.ofNat 24 (r.pc + 1) + w.setWidth 24).toNat ∧ s.AtInsn lane r 0xA3 w ∧ r.cond.length ≤ r.base ∧ r.calls = []) :=
  ⟨⟨wv29, 2, wv27, wv30, ((wv29).bank (wv27).bankB), ((BitVec.ofNat 24 ((wv27).pc + 1) + (wv30).setWidth 24).toNat), fr1, [], ({ (wv27) with
        calls := ([]), pc := (fr1).pc, ib := (fr1).ib, lb := (fr1).lb, tir := (fr1).tir,
        base := (fr1).base, fsz := (fr1).fsz, fr := { (wv27).fr with cb := (wv27).fr.en, vs := (fr1).fr.vs || (wv27).fr.vs } }), by unfold State.Up State.AtInsn; decide +kernel⟩,
   ⟨wv31, 2, wv22, wv30, (wv31.bank wv22.bankB), ((BitVec.ofNat 24 (wv22.pc + 1) + wv30.setWidth 24).toNat),
     by unfold State.Up State.AtInsn; decide +kernel⟩,
   ⟨wv32, 2, wv33, wv28, (wv32.bank wv33.bankB), ((BitVec.ofNat 24 (wv33.pc + 1) + wv28.setWidth 24).toNat),
     by unfold State.Up State.AtInsn; decide +kernel⟩,
   ⟨wv34, 2, wv1, wv28, (wv34.bank wv1.bankB), ((BitVec.ofNat 24 (wv1.pc + 1) + wv28.setWidth 24).toNat),
     by unfold State.Up State.AtInsn; decide +kernel⟩⟩
end JumpsAndCalls

namespace RecordInstructions
def ops : List Nat := (List.range' 0xB0 8)
def ws : List Word := ops.flatMap fun o => [wd o (ms 2 0 16), wd o (ms 2 0 17)]
def rs : List Run := [{rn true with a1 := 5},{rn false with a1 := 0xFFFFFFFF}]
def rec (ty fl : Nat) : List Byte := ((List.range 16).map fun _ => 0#8) ++ [1,2,3,4,BitVec.ofNat 8 ty,BitVec.ofNat 8 fl,0xFF,0xFF,3,0,0,0,9,0,0,0].map (BitVec.ofNat 8 ·.toNat)
def st (r : Run) (w : Word) (ty fl : Nat) : State := let s := sr {r with latch := {r.latch with ch := 11}} [w]; {s with scn := {s.scn with bankA := some {bk [w] with mInit := rec ty fl}}}
def Ss : List State := (List.range 8).flatMap fun i => rs.flatMap fun r => (if i = 5 then [0x10,0x20,0x21,0x30] else [[0x10,0x11,0x12,0x20,0x21,0,0x30,0x31].getD i 0]).flatMap fun ty => [0,2,4,6,7,12,15].flatMap fun fl => [st r (wd (0xB0+i) (ms 2 0 16)) ty fl, st r (wd (0xB0+i) (ms 2 0 16)) 0x40 fl]
def wv0 : State := ((Ss : List (State))[1]?).get (by decide +kernel)
def wv1 : Run := ((rs.map fun r => {r with latch := {r.latch with ch := 11}} : List (Run))[0]?).get (by decide +kernel)
def wv2 : Word := ((ws : List (Word))[0]?).get (by decide +kernel)
def wv3 : State := ((Ss : List (State))[0]?).get (by decide +kernel)
def wv4 : State := ((Ss : List (State))[28]?).get (by decide +kernel)
def wv5 : Word := ((ws : List (Word))[2]?).get (by decide +kernel)
def wv6 : State := ((Ss : List (State))[56]?).get (by decide +kernel)
def wv7 : Word := ((ws : List (Word))[4]?).get (by decide +kernel)
def wv8 : State := ((Ss : List (State))[4]?).get (by decide +kernel)
def wv9 : State := ((Ss : List (State))[10]?).get (by decide +kernel)
def wv10 : State := ((Ss : List (State))[84]?).get (by decide +kernel)
def wv11 : Word := ((ws : List (Word))[6]?).get (by decide +kernel)
def wv12 : State := ((Ss : List (State))[112]?).get (by decide +kernel)
def wv13 : Word := ((ws : List (Word))[8]?).get (by decide +kernel)
def wv14 : State := ((Ss : List (State))[196]?).get (by decide +kernel)
def wv15 : Run := ((rs.map fun r => {r with latch := {r.latch with ch := 11}} : List (Run))[1]?).get (by decide +kernel)
def wv16 : Word := ((ws : List (Word))[10]?).get (by decide +kernel)
def wv17 : State := ((Ss : List (State))[140]?).get (by decide +kernel)
def wv18 : State := ((Ss : List (State))[252]?).get (by decide +kernel)
def wv19 : Word := ((ws : List (Word))[12]?).get (by decide +kernel)
def wv20 : State := ((Ss : List (State))[280]?).get (by decide +kernel)
def wv21 : Word := ((ws : List (Word))[14]?).get (by decide +kernel)
/-- A state and operands for each clause of `RecordInstructions`. -/
theorem witness_RecordInstructions_0 :
    (∃ s : State, ∃ lane : Nat, ∃ r : Run, ∃ w : Word, ∃ m : Bool, ∃ a : Nat, ∃ k : Bank, ∃ p : Prim, ∃ e : Nat, s.Up ∧ k =
      s.bank r.bankB ∧ p = k.prim m a ∧ s.AtInsn lane r 0xB0 w ∧ s.recordAt r.past w 16 [0x10] = .error e) ∧
    (∃ s : State, ∃ lane : Nat, ∃ r : Run, ∃ w : Word, ∃ m : Bool, ∃ a : Nat, ∃ k : Bank, ∃ p : Prim, ∃ ts : Nat, ∃ d : Nat, ∃
      pt : Nat, ∃ g : Prim → State, s.Up ∧ k = s.bank r.bankB ∧ p = k.prim m a ∧ ts = r.latch.ch % 2 ^ 32 ∧ d = (ts + 2 ^ 32 -
      p.last) % 2 ^ 32 ∧ pt = (r.a1.setWidth 32).toNat ∧ g = (fun (q : Prim) => (s.setBank r.bankB (some (k.putPrim m a
      { q with inp := r.fr.cb, last := ts }))).putRun
      { r.past with a2 := r.a1, a1 := accVal (s.runF r) (BitVec.ofNat 64 q.et), fr := { r.fr with cb := q.q } }) ∧ s.AtInsn
      lane r 0xB0 w ∧ s.recordAt r.past w 16 [0x10] = .ok (m, a)) ∧
    (∃ s : State, ∃ lane : Nat, ∃ r : Run, ∃ w : Word, ∃ m : Bool, ∃ a : Nat, ∃ k : Bank, ∃ p : Prim, ∃ ts : Nat, ∃ d : Nat, ∃
      pt : Nat, ∃ g : Prim → State, s.Up ∧ k = s.bank r.bankB ∧ p = k.prim m a ∧ ts = r.latch.ch % 2 ^ 32 ∧ d = (ts + 2 ^ 32 -
      p.last) % 2 ^ 32 ∧ pt = (r.a1.setWidth 32).toNat ∧ g = (fun (q : Prim) => (s.setBank r.bankB (some (k.putPrim m a
      { q with inp := r.fr.cb, last := ts }))).putRun
      { r.past with a2 := r.a1, a1 := accVal (s.runF r) (BitVec.ofNat 64 q.et), fr := { r.fr with cb := q.q } }) ∧ s.AtInsn
      lane r 0xB1 w ∧ s.recordAt r.past w 16 [0x11] = .ok (m, a)) ∧
    (∃ s : State, ∃ lane : Nat, ∃ r : Run, ∃ w : Word, ∃ m : Bool, ∃ a : Nat, ∃ k : Bank, ∃ p : Prim, ∃ ts : Nat, ∃ d : Nat, ∃
      pt : Nat, ∃ g : Prim → State, s.Up ∧ k = s.bank r.bankB ∧ p = k.prim m a ∧ ts = r.latch.ch % 2 ^ 32 ∧ d = (ts + 2 ^ 32 -
      p.last) % 2 ^ 32 ∧ pt = (r.a1.setWidth 32).toNat ∧ g = (fun (q : Prim) => (s.setBank r.bankB (some (k.putPrim m a
      { q with inp := r.fr.cb, last := ts }))).putRun
      { r.past with a2 := r.a1, a1 := accVal (s.runF r) (BitVec.ofNat 64 q.et), fr := { r.fr with cb := q.q } }) ∧ s.AtInsn
      lane r 0xB2 w ∧ s.recordAt r.past w 16 [0x12] = .ok (m, a)) ∧
    (∃ s : State, ∃ r : Run, ∃ m : Bool, ∃ a : Nat, ∃ k : Bank, ∃ p : Prim, ∃ ts : Nat, ∃ d : Nat, ∃ pt : Nat, ∃ g : Prim →
      State, s.Up ∧ k = s.bank r.bankB ∧ p = k.prim m a ∧ ts = r.latch.ch % 2 ^ 32 ∧ d = (ts + 2 ^ 32 - p.last) % 2 ^ 32 ∧ pt
      = (r.a1.setWidth 32).toNat ∧ g = (fun (q : Prim) => (s.setBank r.bankB (some (k.putPrim m a
      { q with inp := r.fr.cb, last := ts }))).putRun
      { r.past with a2 := r.a1, a1 := accVal (s.runF r) (BitVec.ofNat 64 q.et), fr := { r.fr with cb := q.q } })) ∧
    (∃ s : State, ∃ r : Run, ∃ m : Bool, ∃ a : Nat, ∃ k : Bank, ∃ p : Prim, ∃ ts : Nat, ∃ d : Nat, ∃ pt : Nat, ∃ g : Prim →
      State, s.Up ∧ k = s.bank r.bankB ∧ p = k.prim m a ∧ ts = r.latch.ch % 2 ^ 32 ∧ d = (ts + 2 ^ 32 - p.last) % 2 ^ 32 ∧ pt
      = (r.a1.setWidth 32).toNat ∧ g = (fun (q : Prim) => (s.setBank r.bankB (some (k.putPrim m a
      { q with inp := r.fr.cb, last := ts }))).putRun
      { r.past with a2 := r.a1, a1 := accVal (s.runF r) (BitVec.ofNat 64 q.et), fr := { r.fr with cb := q.q } }) ∧ p.run =
      false) ∧
    (∃ s : State, ∃ r : Run, ∃ m : Bool, ∃ a : Nat, ∃ k : Bank, ∃ p : Prim, ∃ ts : Nat, ∃ d : Nat, ∃ pt : Nat, ∃ g : Prim →
      State, s.Up ∧ k = s.bank r.bankB ∧ p = k.prim m a ∧ ts = r.latch.ch % 2 ^ 32 ∧ d = (ts + 2 ^ 32 - p.last) % 2 ^ 32 ∧ pt
      = (r.a1.setWidth 32).toNat ∧ g = (fun (q : Prim) => (s.setBank r.bankB (some (k.putPrim m a
      { q with inp := r.fr.cb, last := ts }))).putRun
      { r.past with a2 := r.a1, a1 := accVal (s.runF r) (BitVec.ofNat 64 q.et), fr := { r.fr with cb := q.q } }) ∧ p.run =
      true ∧ p.unit = false) ∧
    (∃ s : State, ∃ r : Run, ∃ m : Bool, ∃ a : Nat, ∃ k : Bank, ∃ p : Prim, ∃ ts : Nat, ∃ d : Nat, ∃ pt : Nat, ∃ g : Prim →
      State, s.Up ∧ k = s.bank r.bankB ∧ p = k.prim m a ∧ ts = r.latch.ch % 2 ^ 32 ∧ d = (ts + 2 ^ 32 - p.last) % 2 ^ 32 ∧ pt
      = (r.a1.setWidth 32).toNat ∧ g = (fun (q : Prim) => (s.setBank r.bankB (some (k.putPrim m a
      { q with inp := r.fr.cb, last := ts }))).putRun
      { r.past with a2 := r.a1, a1 := accVal (s.runF r) (BitVec.ofNat 64 q.et), fr := { r.fr with cb := q.q } }) ∧ p.run =
      true ∧ p.unit = true) ∧
    (∃ s : State, ∃ lane : Nat, ∃ r : Run, ∃ w : Word, ∃ m : Bool, ∃ a : Nat, ∃ k : Bank, ∃ p : Prim, ∃ pv : Int, ∃ g : Prim →
      State, s.Up ∧ k = s.bank r.bankB ∧ p = k.prim m a ∧ pv = (r.a1.setWidth 32).toInt ∧ g = (fun (q : Prim) => (s.setBank
      r.bankB (some (k.putPrim m a { q with inp := r.fr.cb, last := 0 }))).putRun
      { r.past with a2 := r.a1, a1 := accVal (s.runF r) ((BitVec.ofNat 32 q.et).signExtend 64), fr := { r.fr with cb := q.q } })
      ∧ s.AtInsn lane r 0xB3 w ∧ s.recordAt r.past w 16 [0x20] = .ok (m, a)) ∧
    (∃ s : State, ∃ lane : Nat, ∃ r : Run, ∃ w : Word, ∃ m : Bool, ∃ a : Nat, ∃ k : Bank, ∃ p : Prim, ∃ pv : Int, ∃ g : Prim →
      State, s.Up ∧ k = s.bank r.bankB ∧ p = k.prim m a ∧ pv = (r.a1.setWidth 32).toInt ∧ g = (fun (q : Prim) => (s.setBank
      r.bankB (some (k.putPrim m a { q with inp := r.fr.cb, last := 0 }))).putRun
      { r.past with a2 := r.a1, a1 := accVal (s.runF r) ((BitVec.ofNat 32 q.et).signExtend 64), fr := { r.fr with cb := q.q } })
      ∧ s.AtInsn lane r 0xB4 w ∧ s.recordAt r.past w 16 [0x21] = .ok (m, a)) ∧
    (∃ s : State, ∃ lane : Nat, ∃ r : Run, ∃ w : Word, ∃ m : Bool, ∃ a : Nat, ∃ k : Bank, ∃ p : Prim, ∃ ty : Nat, s.Up ∧ k =
      s.bank r.bankB ∧ p = k.prim m a ∧ s.AtInsn lane r 0xB5 w ∧ s.recordAt r.past w 16 [0x10, 0x11, 0x12, 0x20, 0x21] = .ok
      (m, a) ∧ ty = (k.recByte m (a + 4)).toNat ∧ r.fr.cb = false) ∧
    (∃ s : State, ∃ lane : Nat, ∃ r : Run, ∃ w : Word, ∃ m : Bool, ∃ a : Nat, ∃ k : Bank, ∃ p : Prim, ∃ ty : Nat, s.Up ∧ k =
      s.bank r.bankB ∧ p = k.prim m a ∧ s.AtInsn lane r 0xB5 w ∧ s.recordAt r.past w 16 [0x10, 0x11, 0x12, 0x20, 0x21] = .ok
      (m, a) ∧ ty = (k.recByte m (a + 4)).toNat ∧ r.fr.cb = true ∧ ty < 0x20) :=
  ⟨⟨wv0, 2, wv1, wv2, true, 2, (wv0.bank wv1.bankB), (((wv0.bank wv1.bankB)).prim (true) (2)), errOf (wv0.recordAt wv1.past
     wv2 16 [0x10]), by unfold State.Up State.AtInsn; decide +kernel⟩,
   ⟨wv3, 2, wv1, wv2, true, 16, ((wv3).bank (wv1).bankB), ((((wv3).bank (wv1).bankB)).prim (true) (16)), ((wv1).latch.ch % 2 ^ 32), (((((wv1).latch.ch % 2 ^ 32)) + 2 ^ 32 - (((((wv3).bank (wv1).bankB)).prim (true) (16))).last) % 2 ^ 32), (((wv1).a1.setWidth 32).toNat), ((fun (q : Prim) => ((wv3).setBank (wv1).bankB (some ((((wv3).bank (wv1).bankB)).putPrim (true) (16) { q with inp := (wv1).fr.cb, last := (((wv1).latch.ch % 2 ^ 32)) }))).putRun
        { (wv1).past with a2 := (wv1).a1, a1 := accVal ((wv3).runF (wv1)) (BitVec.ofNat 64 q.et), fr := { (wv1).fr with cb := q.q } })), by unfold State.Up; decide +kernel, rfl, rfl, rfl, rfl, rfl, rfl, by unfold State.AtInsn; decide +kernel, by decide +kernel⟩,
   ⟨wv4, 2, wv1, wv5, true, 16, ((wv4).bank (wv1).bankB), ((((wv4).bank (wv1).bankB)).prim (true) (16)), ((wv1).latch.ch % 2 ^ 32), (((((wv1).latch.ch % 2 ^ 32)) + 2 ^ 32 - (((((wv4).bank (wv1).bankB)).prim (true) (16))).last) % 2 ^ 32), (((wv1).a1.setWidth 32).toNat), ((fun (q : Prim) => ((wv4).setBank (wv1).bankB (some ((((wv4).bank (wv1).bankB)).putPrim (true) (16) { q with inp := (wv1).fr.cb, last := (((wv1).latch.ch % 2 ^ 32)) }))).putRun
        { (wv1).past with a2 := (wv1).a1, a1 := accVal ((wv4).runF (wv1)) (BitVec.ofNat 64 q.et), fr := { (wv1).fr with cb := q.q } })), by unfold State.Up; decide +kernel, rfl, rfl, rfl, rfl, rfl, rfl, by unfold State.AtInsn; decide +kernel, by decide +kernel⟩,
   ⟨wv6, 2, wv1, wv7, true, 16, ((wv6).bank (wv1).bankB), ((((wv6).bank (wv1).bankB)).prim (true) (16)), ((wv1).latch.ch % 2 ^ 32), (((((wv1).latch.ch % 2 ^ 32)) + 2 ^ 32 - (((((wv6).bank (wv1).bankB)).prim (true) (16))).last) % 2 ^ 32), (((wv1).a1.setWidth 32).toNat), ((fun (q : Prim) => ((wv6).setBank (wv1).bankB (some ((((wv6).bank (wv1).bankB)).putPrim (true) (16) { q with inp := (wv1).fr.cb, last := (((wv1).latch.ch % 2 ^ 32)) }))).putRun
        { (wv1).past with a2 := (wv1).a1, a1 := accVal ((wv6).runF (wv1)) (BitVec.ofNat 64 q.et), fr := { (wv1).fr with cb := q.q } })), by unfold State.Up; decide +kernel, rfl, rfl, rfl, rfl, rfl, rfl, by unfold State.AtInsn; decide +kernel, by decide +kernel⟩,
   ⟨wv3, wv1, true, 2, ((wv3).bank (wv1).bankB), ((((wv3).bank (wv1).bankB)).prim (true) (2)), ((wv1).latch.ch % 2 ^ 32), (((((wv1).latch.ch % 2 ^ 32)) + 2 ^ 32 - (((((wv3).bank (wv1).bankB)).prim (true) (2))).last) % 2 ^ 32), (((wv1).a1.setWidth 32).toNat), ((fun (q : Prim) => ((wv3).setBank (wv1).bankB (some ((((wv3).bank (wv1).bankB)).putPrim (true) (2) { q with inp := (wv1).fr.cb, last := (((wv1).latch.ch % 2 ^ 32)) }))).putRun
        { (wv1).past with a2 := (wv1).a1, a1 := accVal ((wv3).runF (wv1)) (BitVec.ofNat 64 q.et), fr := { (wv1).fr with cb := q.q } })), by unfold State.Up; decide +kernel, rfl, rfl, rfl, rfl, rfl, rfl⟩,
   ⟨wv3, wv1, true, 2, ((wv3).bank (wv1).bankB), ((((wv3).bank (wv1).bankB)).prim (true) (2)), ((wv1).latch.ch % 2 ^ 32), (((((wv1).latch.ch % 2 ^ 32)) + 2 ^ 32 - (((((wv3).bank (wv1).bankB)).prim (true) (2))).last) % 2 ^ 32), (((wv1).a1.setWidth 32).toNat), ((fun (q : Prim) => ((wv3).setBank (wv1).bankB (some ((((wv3).bank (wv1).bankB)).putPrim (true) (2) { q with inp := (wv1).fr.cb, last := (((wv1).latch.ch % 2 ^ 32)) }))).putRun
        { (wv1).past with a2 := (wv1).a1, a1 := accVal ((wv3).runF (wv1)) (BitVec.ofNat 64 q.et), fr := { (wv1).fr with cb := q.q } })), by unfold State.Up; decide +kernel, rfl, rfl, rfl, rfl, rfl, rfl, by decide +kernel⟩,
   ⟨wv8, wv1, true, 16, ((wv8).bank (wv1).bankB), ((((wv8).bank (wv1).bankB)).prim (true) (16)), ((wv1).latch.ch % 2 ^ 32), (((((wv1).latch.ch % 2 ^ 32)) + 2 ^ 32 - (((((wv8).bank (wv1).bankB)).prim (true) (16))).last) % 2 ^ 32), (((wv1).a1.setWidth 32).toNat), ((fun (q : Prim) => ((wv8).setBank (wv1).bankB (some ((((wv8).bank (wv1).bankB)).putPrim (true) (16) { q with inp := (wv1).fr.cb, last := (((wv1).latch.ch % 2 ^ 32)) }))).putRun
        { (wv1).past with a2 := (wv1).a1, a1 := accVal ((wv8).runF (wv1)) (BitVec.ofNat 64 q.et), fr := { (wv1).fr with cb := q.q } })), by unfold State.Up; decide +kernel, rfl, rfl, rfl, rfl, rfl, rfl, by decide +kernel, by decide +kernel⟩,
   ⟨wv9, wv1, true, 16, ((wv9).bank (wv1).bankB), ((((wv9).bank (wv1).bankB)).prim (true) (16)), ((wv1).latch.ch % 2 ^ 32), (((((wv1).latch.ch % 2 ^ 32)) + 2 ^ 32 - (((((wv9).bank (wv1).bankB)).prim (true) (16))).last) % 2 ^ 32), (((wv1).a1.setWidth 32).toNat), ((fun (q : Prim) => ((wv9).setBank (wv1).bankB (some ((((wv9).bank (wv1).bankB)).putPrim (true) (16) { q with inp := (wv1).fr.cb, last := (((wv1).latch.ch % 2 ^ 32)) }))).putRun
        { (wv1).past with a2 := (wv1).a1, a1 := accVal ((wv9).runF (wv1)) (BitVec.ofNat 64 q.et), fr := { (wv1).fr with cb := q.q } })), by unfold State.Up; decide +kernel, rfl, rfl, rfl, rfl, rfl, rfl, by decide +kernel, by decide +kernel⟩,
   ⟨wv10, 2, wv1, wv11, true, 16, ((wv10).bank (wv1).bankB), ((((wv10).bank (wv1).bankB)).prim (true) (16)), (((wv1).a1.setWidth 32).toInt), ((fun (q : Prim) => ((wv10).setBank (wv1).bankB (some ((((wv10).bank (wv1).bankB)).putPrim (true) (16) { q with inp := (wv1).fr.cb, last := 0 }))).putRun
        { (wv1).past with a2 := (wv1).a1, a1 := accVal ((wv10).runF (wv1)) ((BitVec.ofNat 32 q.et).signExtend 64), fr := { (wv1).fr with cb := q.q } })), by unfold State.Up; decide +kernel, rfl, rfl, rfl, rfl, by unfold State.AtInsn; decide +kernel, by decide +kernel⟩,
   ⟨wv12, 2, wv1, wv13, true, 16, ((wv12).bank (wv1).bankB), ((((wv12).bank (wv1).bankB)).prim (true) (16)), (((wv1).a1.setWidth 32).toInt), ((fun (q : Prim) => ((wv12).setBank (wv1).bankB (some ((((wv12).bank (wv1).bankB)).putPrim (true) (16) { q with inp := (wv1).fr.cb, last := 0 }))).putRun
        { (wv1).past with a2 := (wv1).a1, a1 := accVal ((wv12).runF (wv1)) ((BitVec.ofNat 32 q.et).signExtend 64), fr := { (wv1).fr with cb := q.q } })), by unfold State.Up; decide +kernel, rfl, rfl, rfl, rfl, by unfold State.AtInsn; decide +kernel, by decide +kernel⟩,
   ⟨wv14, 2, wv15, wv16, true, 16, (wv14.bank wv15.bankB), (((wv14.bank wv15.bankB)).prim (true) (16)), ((((wv14.bank
     wv15.bankB)).recByte (true) ((16) + 4)).toNat), by unfold State.Up State.AtInsn; decide +kernel⟩,
   ⟨wv17, 2, wv1, wv16, true, 16, (wv17.bank wv1.bankB), (((wv17.bank wv1.bankB)).prim (true) (16)), ((((wv17.bank
     wv1.bankB)).recByte (true) ((16) + 4)).toNat), by unfold State.Up State.AtInsn; decide +kernel⟩⟩
/-- A state and operands for each clause of `RecordInstructions`. -/
theorem witness_RecordInstructions_1 :
    (∃ s : State, ∃ lane : Nat, ∃ r : Run, ∃ w : Word, ∃ m : Bool, ∃ a : Nat, ∃ k : Bank, ∃ p : Prim, s.Up ∧ k = s.bank
      r.bankB ∧ p = k.prim m a ∧ s.AtInsn lane r 0xB6 w ∧ s.recordAt r.past w 16 [0x30] = .ok (m, a)) ∧
    (∃ s : State, ∃ lane : Nat, ∃ r : Run, ∃ w : Word, ∃ m : Bool, ∃ a : Nat, ∃ k : Bank, ∃ p : Prim, s.Up ∧ k = s.bank
      r.bankB ∧ p = k.prim m a ∧ s.AtInsn lane r 0xB7 w ∧ s.recordAt r.past w 16 [0x31] = .ok (m, a)) :=
  ⟨⟨wv18, 2, wv1, wv19, true, 16, (wv18.bank wv1.bankB), (((wv18.bank wv1.bankB)).prim (true) (16)),
     by unfold State.Up State.AtInsn; decide +kernel⟩,
   ⟨wv20, 2, wv1, wv21, true, 16, (wv20.bank wv1.bankB), (((wv20.bank wv1.bankB)).prim (true) (16)),
     by unfold State.Up State.AtInsn; decide +kernel⟩⟩
end RecordInstructions

namespace TrackedWritesAndClock
def ws : List Word := [wd 0xC0 0, wd 0xC1 0, wd 0xC2 (ms 2 0 16),wd 0xC3 0,wd 0xC4 0,wd 0xC5 (ms 2 0 0)]
def rs : List Run := [rn true,rn false]
def rec (ty fl opc gid : Nat) : List Byte := ((List.range 16).map fun _ => 0#8) ++ [1,2,3,4,ty,fl,0,opc,gid%256,gid/256%256,gid/65536,0,0,0,0,0].map (BitVec.ofNat 8)
def rec5 (ty fl opc : Nat) : List Byte := ([1,2,3,4,ty,fl,0,opc]++List.range 56).map (BitVec.ofNat 8)
def st (r : Run) (w : Word) (f : Bool) (b : List Byte): State := let s := sr r [w]; {(s.setFlag (Reg.CTRL Blk.LAT) 0 true) with points := [(7,⟨0,Q.GOOD,2,5,0,.task 5,false⟩)], scn := {s.scn with outs := [⟨70007,.node 1 3,2,5⟩,⟨70008,.node 1 3,2,6⟩], bankA := some {bk [w] with profF := f, mInit := b}}}
def Ss : List State := rs.flatMap fun r => [true,false].flatMap fun f => (ws.map fun w => st r w f []) ++ [0,1].flatMap fun fl => [st r (wd 0xC2 (ms 2 0 16)) f (rec 0x40 fl 0 70007), st r (wd 0xC2 (ms 2 0 16)) f (rec 0x40 fl 0 70008),st r (wd 0xC2 (ms 2 0 16)) f (rec 0x40 fl 0 7), st r (wd 0xC5 (ms 2 0 0)) f (rec5 0x41 fl 4)] ++ (let z := st r (wd 0xC2 (ms 2 0 16)) f (rec 0x40 0 0 70007); [{z with sup := {z.sup with pfail := true}}, {(z.setNum (Reg.TEN_CTXc_RATE 3) 0x10001) with ten := {z.ten with spent := [(3,1)]}, scn := {z.scn with bankA := some {bk [wd 0xC2 (ms 2 0 16)] with profF := f, mInit := rec 0x40 0 0 70007, tasks := [{te with ctx := 3}]}}}])
def wv0 : State := ((Ss : List (State))[0]?).get (by decide +kernel)
def wv1 : Run := ((rs : List (Run))[0]?).get (by decide +kernel)
def wv2 : Word := ((ws : List (Word))[0]?).get (by decide +kernel)
def wv3 : State := ((Ss : List (State))[18]?).get (by decide +kernel)
def wv4 : State := ((Ss : List (State))[1]?).get (by decide +kernel)
def wv5 : Word := ((ws : List (Word))[1]?).get (by decide +kernel)
def wv6 : State := ((Ss : List (State))[19]?).get (by decide +kernel)
def wv7 : State := ((Ss : List (State))[3]?).get (by decide +kernel)
def wv8 : Word := ((ws : List (Word))[3]?).get (by decide +kernel)
def wv9 : State := ((Ss : List (State))[4]?).get (by decide +kernel)
def wv10 : Word := ((ws : List (Word))[4]?).get (by decide +kernel)
def wv11 : State := ((Ss : List (State))[42]?).get (by decide +kernel)
def wv12 : Run := ((rs : List (Run))[1]?).get (by decide +kernel)
def wv13 : Word := ((ws : List (Word))[2]?).get (by decide +kernel)
def wv14 : State := ((Ss : List (State))[12]?).get (by decide +kernel)
def wv15 : State := ((Ss : List (State))[7]?).get (by decide +kernel)
def wv16 : State := ((Ss : List (State))[6]?).get (by decide +kernel)
def wv17 : Station := ((wv16.sendTarget wv1 ((readLe (((wv16.bank wv1.bankB)).recByte (true)) ((16) + 8) 4 % 2 ^
  22))).toOption.get (by decide +kernel)).1
def wv18 : Nat := ((wv16.sendTarget wv1 ((readLe (((wv16.bank wv1.bankB)).recByte (true)) ((16) + 8) 4 % 2 ^
  22))).toOption.get (by decide +kernel)).2
def wv19 : Nat × State := (wv16.beginInternal Blk.SCN Blk.SCN 0xC2 (wv16.runCtx wv1) (recTimeout (readLe (((wv16.bank
  wv1.bankB)).recByte (true)) ((16) + 14) 2)) 0).get (by decide +kernel)
def wv20 : State := ((Ss : List (State))[11]?).get (by decide +kernel)
def wv21 : Station := ((wv20.sendTarget wv1 ((readLe (((wv20.bank wv1.bankB)).recByte (true)) ((16) + 8) 4 % 2 ^
  22))).toOption.get (by decide +kernel)).1
def wv22 : Nat := ((wv20.sendTarget wv1 ((readLe (((wv20.bank wv1.bankB)).recByte (true)) ((16) + 8) 4 % 2 ^
  22))).toOption.get (by decide +kernel)).2
def wv23 : Nat × State := (wv20.beginInternal Blk.SCN Blk.SCN 0xC2 (wv20.runCtx wv1) (recTimeout (readLe (((wv20.bank
  wv1.bankB)).recByte (true)) ((16) + 14) 2)) 0).get (by decide +kernel)
def wv24 : State := ((Ss : List (State))[10]?).get (by decide +kernel)
def wv25 : Station := ((wv24.sendTarget wv1 ((readLe (((wv24.bank wv1.bankB)).recByte (true)) ((16) + 8) 4 % 2 ^
  22))).toOption.get (by decide +kernel)).1
def wv26 : Nat := ((wv24.sendTarget wv1 ((readLe (((wv24.bank wv1.bankB)).recByte (true)) ((16) + 8) 4 % 2 ^
  22))).toOption.get (by decide +kernel)).2
def wv27 : State := ((Ss : List (State))[45]?).get (by decide +kernel)
def wv28 : Word := ((ws : List (Word))[5]?).get (by decide +kernel)
def wv29 : State := ((Ss : List (State))[15]?).get (by decide +kernel)
def wv30 : State := ((Ss : List (State))[9]?).get (by decide +kernel)
def wv31 : Nat × State := ((wv30).beginInternal Blk.SCN Blk.LAT ((((((wv30).bank (wv1).bankB)).recByte (true) ((0) + 7)).toNat)) ((wv30).runCtx (wv1)) (recTimeout (readLe ((((wv30).bank (wv1).bankB)).recByte (true)) ((0) + 14) 2))
          (BitVec.ofNat 384 (readLe ((((wv30).bank (wv1).bankB)).recByte (true)) ((0) + 16) 48))).get (by decide +kernel)
/-- A state and operands for each clause of `TrackedWritesAndClock`. -/
theorem witness_TrackedWritesAndClock_0 :
    (∃ s : State, ∃ lane : Nat, ∃ r : Run, ∃ w : Word, ∃ k : Bank, ∃ ok : Bool, s.Up ∧ k = s.bank r.bankB ∧ ok = (!(s.flag
      Reg.RTC_CTL 0) && !(s.flag Reg.RTC_STAT 0) && !(s.flag Reg.RTC_STAT 1)) ∧ s.AtInsn lane r 0xC0 w ∧ s.runF r = true) ∧
    (∃ s : State, ∃ lane : Nat, ∃ r : Run, ∃ w : Word, ∃ k : Bank, ∃ ok : Bool, s.Up ∧ k = s.bank r.bankB ∧ ok = (!(s.flag
      Reg.RTC_CTL 0) && !(s.flag Reg.RTC_STAT 0) && !(s.flag Reg.RTC_STAT 1)) ∧ s.AtInsn lane r 0xC0 w ∧ s.runF r = false) ∧
    (∃ s : State, ∃ lane : Nat, ∃ r : Run, ∃ w : Word, ∃ k : Bank, s.Up ∧ k = s.bank r.bankB ∧ s.AtInsn lane r 0xC1 w ∧ s.runF
      r = true) ∧
    (∃ s : State, ∃ lane : Nat, ∃ r : Run, ∃ w : Word, ∃ k : Bank, s.Up ∧ k = s.bank r.bankB ∧ s.AtInsn lane r 0xC1 w ∧ s.runF
      r = false) ∧
    (∃ s : State, ∃ lane : Nat, ∃ r : Run, ∃ w : Word, ∃ k : Bank, s.Up ∧ k = s.bank r.bankB ∧ s.AtInsn lane r 0xC3 w) ∧
    (∃ s : State, ∃ lane : Nat, ∃ r : Run, ∃ w : Word, ∃ k : Bank, s.Up ∧ k = s.bank r.bankB ∧ s.AtInsn lane r 0xC4 w) ∧
    (∃ s : State, ∃ lane : Nat, ∃ r : Run, ∃ w : Word, ∃ m : Bool, ∃ a : Nat, ∃ k : Bank, s.Up ∧ k = s.bank r.bankB ∧ s.AtInsn
      lane r 0xC2 w ∧ s.recordAt r.past w 16 [0x40] = .ok (m, a) ∧ r.fr.cb = false) ∧
    (∃ s : State, ∃ lane : Nat, ∃ r : Run, ∃ w : Word, ∃ m : Bool, ∃ a : Nat, ∃ k : Bank, s.Up ∧ k = s.bank r.bankB ∧ s.AtInsn
      lane r 0xC2 w ∧ s.recordAt r.past w 16 [0x40] = .ok (m, a) ∧ r.fr.cb = true ∧ bitOf (k.recByte m (a + 5)).toNat 0 =
      true) ∧
    (∃ s : State, ∃ lane : Nat, ∃ r : Run, ∃ w : Word, ∃ m : Bool, ∃ a : Nat, ∃ k : Bank, ∃ gid : Nat, ∃ res : Nat, s.Up ∧ k =
      s.bank r.bankB ∧ s.AtInsn lane r 0xC2 w ∧ s.recordAt r.past w 16 [0x40] = .ok (m, a) ∧ r.fr.cb = true ∧ bitOf (k.recByte
      m (a + 5)).toNat 0 = false ∧ gid = readLe (k.recByte m) (a + 8) 4 % 2 ^ 22 ∧ s.sendTarget r gid = .error res) ∧
    (∃ s : State, ∃ lane : Nat, ∃ r : Run, ∃ w : Word, ∃ m : Bool, ∃ a : Nat, ∃ k : Bank, ∃ gid : Nat, ∃ st : Station, ∃ ty :
      Nat, ∃ ts : Nat × State, ∃ t : Nat, s.Up ∧ k = s.bank r.bankB ∧ s.AtInsn lane r 0xC2 w ∧ s.recordAt r.past w 16 [0x40] =
      .ok (m, a) ∧ r.fr.cb = true ∧ bitOf (k.recByte m (a + 5)).toNat 0 = false ∧ gid = readLe (k.recByte m) (a + 8) 4 % 2 ^
      22 ∧ s.sendTarget r gid = .ok (st, ty) ∧ s.beginInternal Blk.SCN Blk.SCN 0xC2 (s.runCtx r) (recTimeout (readLe
      (k.recByte m) (a + 14) 2)) 0 = some ts ∧ t = ts.1 ∧ s.takeToken (s.runCtx r) ≠ none ∧ s.scn.opens = [] ∧ s.scn.remote =
      [] ∧ r.task < 16) ∧
    (∃ s : State, ∃ lane : Nat, ∃ r : Run, ∃ w : Word, ∃ m : Bool, ∃ a : Nat, ∃ k : Bank, ∃ gid : Nat, ∃ st : Station, ∃ ty :
      Nat, ∃ ts : Nat × State, ∃ t : Nat, s.Up ∧ k = s.bank r.bankB ∧ s.AtInsn lane r 0xC2 w ∧ s.recordAt r.past w 16 [0x40] =
      .ok (m, a) ∧ r.fr.cb = true ∧ bitOf (k.recByte m (a + 5)).toNat 0 = false ∧ gid = readLe (k.recByte m) (a + 8) 4 % 2 ^
      22 ∧ s.sendTarget r gid = .ok (st, ty) ∧ s.beginInternal Blk.SCN Blk.SCN 0xC2 (s.runCtx r) (recTimeout (readLe
      (k.recByte m) (a + 14) 2)) 0 = some ts ∧ t = ts.1 ∧ s.takeToken (s.runCtx r) = none) ∧
    (∃ s : State, ∃ lane : Nat, ∃ r : Run, ∃ w : Word, ∃ m : Bool, ∃ a : Nat, ∃ k : Bank, ∃ gid : Nat, ∃ st : Station, ∃ ty :
      Nat, s.Up ∧ k = s.bank r.bankB ∧ s.AtInsn lane r 0xC2 w ∧ s.recordAt r.past w 16 [0x40] = .ok (m, a) ∧ r.fr.cb = true ∧
      bitOf (k.recByte m (a + 5)).toNat 0 = false ∧ gid = readLe (k.recByte m) (a + 8) 4 % 2 ^ 22 ∧ s.sendTarget r gid = .ok
      (st, ty) ∧ s.beginInternal Blk.SCN Blk.SCN 0xC2 (s.runCtx r) (recTimeout (readLe (k.recByte m) (a + 14) 2)) 0 = none) :=
  ⟨⟨wv0, 2, wv1, wv2, (wv0.bank wv1.bankB), ((!(wv0.flag Reg.RTC_CTL 0) && !(wv0.flag Reg.RTC_STAT 0) && !(wv0.flag
     Reg.RTC_STAT 1))), by unfold State.Up State.AtInsn; decide +kernel⟩,
   ⟨wv3, 2, wv1, wv2, (wv3.bank wv1.bankB), ((!(wv3.flag Reg.RTC_CTL 0) && !(wv3.flag Reg.RTC_STAT 0) && !(wv3.flag
     Reg.RTC_STAT 1))), by unfold State.Up State.AtInsn; decide +kernel⟩,
   ⟨wv4, 2, wv1, wv5, (wv4.bank wv1.bankB), by unfold State.Up State.AtInsn; decide +kernel⟩,
   ⟨wv6, 2, wv1, wv5, (wv6.bank wv1.bankB), by unfold State.Up State.AtInsn; decide +kernel⟩,
   ⟨wv7, 2, wv1, wv8, (wv7.bank wv1.bankB), by unfold State.Up State.AtInsn; decide +kernel⟩,
   ⟨wv9, 2, wv1, wv10, (wv9.bank wv1.bankB), by unfold State.Up State.AtInsn; decide +kernel⟩,
   ⟨wv11, 2, wv12, wv13, true, 16, (wv11.bank wv12.bankB), by unfold State.Up State.AtInsn; decide +kernel⟩,
   ⟨wv14, 2, wv1, wv13, true, 16, (wv14.bank wv1.bankB), by unfold State.Up State.AtInsn; decide +kernel⟩,
   ⟨wv15, 2, wv1, wv13, true, 16, (wv15.bank wv1.bankB), (readLe (((wv15.bank wv1.bankB)).recByte (true)) ((16) + 8) 4 % 2 ^
     22), errOf (wv15.sendTarget wv1 ((readLe (((wv15.bank wv1.bankB)).recByte (true)) ((16) + 8) 4 % 2 ^ 22))),
     by unfold State.Up State.AtInsn; decide +kernel⟩,
   ⟨wv16, 2, wv1, wv13, true, 16, (wv16.bank wv1.bankB), (readLe (((wv16.bank wv1.bankB)).recByte (true)) ((16) + 8) 4 % 2 ^
     22), wv17, wv18, wv19, (wv19.1), by unfold State.Up; decide +kernel, rfl, by unfold State.AtInsn; decide +kernel, by
     decide +kernel, by decide +kernel, by decide +kernel, rfl, by decide +kernel, (Option.some_get _).symm, rfl, by
     decide +kernel, by decide +kernel, by decide +kernel, by decide +kernel⟩,
   ⟨wv20, 2, wv1, wv13, true, 16, (wv20.bank wv1.bankB), (readLe (((wv20.bank wv1.bankB)).recByte (true)) ((16) + 8) 4 % 2 ^
     22), wv21, wv22, wv23, (wv23.1), by unfold State.Up; decide +kernel, rfl, by unfold State.AtInsn; decide +kernel, by
     decide +kernel, by decide +kernel, by decide +kernel, rfl, by decide +kernel, (Option.some_get _).symm, rfl, by
     decide +kernel⟩,
   ⟨wv24, 2, wv1, wv13, true, 16, (wv24.bank wv1.bankB), (readLe (((wv24.bank wv1.bankB)).recByte (true)) ((16) + 8) 4 % 2 ^
     22), wv25, wv26, by unfold State.Up State.AtInsn; decide +kernel⟩⟩
/-- A state and operands for each clause of `TrackedWritesAndClock`. -/
theorem witness_TrackedWritesAndClock_1 :
    (∃ s : State, ∃ lane : Nat, ∃ r : Run, ∃ w : Word, ∃ m : Bool, ∃ a : Nat, ∃ k : Bank, s.Up ∧ k = s.bank r.bankB ∧ s.AtInsn
      lane r 0xC5 w ∧ s.recordAt r.past w 64 [0x41] = .ok (m, a) ∧ r.fr.cb = false) ∧
    (∃ s : State, ∃ lane : Nat, ∃ r : Run, ∃ w : Word, ∃ m : Bool, ∃ a : Nat, ∃ k : Bank, s.Up ∧ k = s.bank r.bankB ∧ s.AtInsn
      lane r 0xC5 w ∧ s.recordAt r.past w 64 [0x41] = .ok (m, a) ∧ r.fr.cb = true ∧ bitOf (k.recByte m (a + 5)).toNat 0 =
      true) ∧
    (∃ s : State, ∃ lane : Nat, ∃ r : Run, ∃ w : Word, ∃ m : Bool, ∃ a : Nat, ∃ k : Bank, ∃ opc : Nat, ∃ ts : Nat × State, ∃ t
      : Nat, s.Up ∧ k = s.bank r.bankB ∧ s.AtInsn lane r 0xC5 w ∧ s.recordAt r.past w 64 [0x41] = .ok (m, a) ∧ r.fr.cb = true
      ∧ bitOf (k.recByte m (a + 5)).toNat 0 = false ∧ opc = (k.recByte m (a + 7)).toNat ∧ 1 ≤ opc ∧ opc ≤ 4 ∧ s.en Blk.LAT =
      true ∧ s.inSrst Blk.LAT = false ∧ s.beginInternal Blk.SCN Blk.LAT opc (s.runCtx r) (recTimeout (readLe (k.recByte m) (a
      + 14) 2)) (BitVec.ofNat 384 (readLe (k.recByte m) (a + 16) 48)) = some ts ∧ t = ts.1 ∧ s.takeToken (s.runCtx r) ≠ none ∧
      s.scn.opens = []) :=
  ⟨⟨wv27, 2, wv12, wv28, true, 0, (wv27.bank wv12.bankB), by unfold State.Up State.AtInsn; decide +kernel⟩,
   ⟨wv29, 2, wv1, wv28, true, 0, (wv29.bank wv1.bankB), by unfold State.Up State.AtInsn; decide +kernel⟩,
   ⟨wv30, 2, wv1, wv28, true, 0, (wv30.bank wv1.bankB), ((((wv30.bank wv1.bankB)).recByte (true) ((0) + 7)).toNat), wv31,
     (wv31.1), by unfold State.Up; decide +kernel, rfl, by unfold State.AtInsn; decide +kernel, by decide +kernel, by
     decide +kernel, by decide +kernel, rfl, by decide +kernel, by decide +kernel, by decide +kernel, by decide +kernel,
     (Option.some_get _).symm, rfl, by decide +kernel, by decide +kernel⟩⟩
end TrackedWritesAndClock

end ScnWords

/-! ### ScnTasks -/

namespace ScnTasks

def le (n v : Nat) : List Byte := (List.range n).map fun i => BitVec.ofNat 8 (v / 256^i)

namespace TaskEvents
def ll : StartLatch := ⟨7,0,[],0,0⟩
def wr (p : WritePhase) : RemoteWrite := ⟨3,5,1,0,.module 9,70007,2,5,none,p,0⟩
def b (ev : Bool) (x : TaskRt) (st : Nat) : State := let s := sr (rn true) []; ({s.setTaskSt 5 st with clk := 99, scn := {s.scn with tasks := [(5,x)], lanes := [], bankA := some {bk [] with insts := [⟨1,0,false,16,none⟩], tasks := [{te with event := ev, lane := 0xFF}]}}, lat := {s.lat with pos := 2^32*1000}}).setFlag Reg.LAT_STATE 3 true |>.setFlag (Reg.CTRL Blk.SCN) 0 true
def Ss : List State := [b false TaskRt.fresh 1, (b false TaskRt.fresh 3).setFld Reg.SCN_CFG 0 8 0, b false {TaskRt.fresh with ready := some ll} 2, b true {TaskRt.fresh with held := some ll} 1] ++ [{b false TaskRt.fresh 1 with scn := {(b false TaskRt.fresh 1).scn with remote := [wr .waiting]}}, {b false TaskRt.fresh 1 with scn := {(b false TaskRt.fresh 1).scn with remote := [wr .waiting, wr .handed]}}].map fun s => s.setFld (Reg.HLK_MBm_STAT 9) 0 3 2
def wv0 : State := ((Ss : List (State))[0]?).get (by decide +kernel)
def wv1 : TaskEntry := (wv0.taskEntry (5)).get (by decide +kernel)
def wv2 : State := ((Ss : List (State))[1]?).get (by decide +kernel)
def wv3 : TaskEntry := (wv2.taskEntry (5)).get (by decide +kernel)
def wv4 : State := ((Ss : List (State))[2]?).get (by decide +kernel)
def wv5 : TaskEntry := (wv4.taskEntry (5)).get (by decide +kernel)
def wv6 : State := ((Ss : List (State))[3]?).get (by decide +kernel)
def wv7 : TaskEntry := (wv6.taskEntry (5)).get (by decide +kernel)
def wv8 : StartLatch := ((wv6.taskRt (5)).held).get (by decide +kernel)
def wv9 : State := ((Ss : List (State))[4]?).get (by decide +kernel)
def wv10 : TaskEntry := (wv9.taskEntry (5)).get (by decide +kernel)
def wv11 : State := ((Ss : List (State))[5]?).get (by decide +kernel)
def wv12 : TaskEntry := (wv11.taskEntry (5)).get (by decide +kernel)
/-- A state and operands for each clause of `TaskEventsAndOperations`. -/
theorem witness_TaskEvents :
    (∃ s : State, ∃ n : Nat, ∃ e : TaskEntry, ∃ c : Nat, s.Up ∧ n < 16 ∧ s.scnOpen = true ∧ s.scn.xch = none ∧ s.taskEntry n =
      some e ∧ c = s.num64 (Reg.SCN_TnNEXT_LO n) ∧ c ≤ s.chain ∧ e.event = false ∧ e.en = true ∧ s.flag Reg.LAT_STATE 3 = true
      ∧ (s.taskRt n).hold = false ∧ s.taskSt n = TaskSt.WAITING) ∧
    (∃ s : State, ∃ n : Nat, ∃ e : TaskEntry, ∃ c : Nat, s.Up ∧ n < 16 ∧ s.scnOpen = true ∧ s.scn.xch = none ∧ s.taskEntry n =
      some e ∧ c = s.num64 (Reg.SCN_TnNEXT_LO n) ∧ c ≤ s.chain ∧ e.event = false ∧ e.en = true ∧ s.flag Reg.LAT_STATE 3 = true
      ∧ (s.taskRt n).hold = false ∧ s.Alone ∧ s.taskSt n = TaskSt.RUNNING ∧ s.fld Reg.SCN_CFG 0 8 = 0) ∧
    (∃ s : State, ∃ n : Nat, ∃ e : TaskEntry, ∃ l : StartLatch, s.Up ∧ n < 16 ∧ s.scnOpen = true ∧ s.scn.xch = none ∧
      s.taskEntry n = some e ∧ s.runOn 0 = none ∧ s.laneTakes 0 = some n ∧ (s.taskRt n).ready = some l ∧ s.scn.opens = []) ∧
    (∃ s : State, ∃ n : Nat, ∃ e : TaskEntry, ∃ l : StartLatch, s.Up ∧ n < 16 ∧ s.scnOpen = true ∧ s.scn.xch = none ∧
      s.taskEntry n = some e ∧ (s.taskRt n).held = some l ∧ s.taskSt n = TaskSt.WAITING ∧ s.spaced n = true ∧ (s.taskRt
      n).hold = false) ∧
    (∃ s : State, ∃ n : Nat, ∃ e : TaskEntry, ∃ w : RemoteWrite, ∃ m : Nat, s.Up ∧ n < 16 ∧ s.scnOpen = true ∧ s.scn.xch =
      none ∧ s.taskEntry n = some e ∧ s.scn.remote = [w] ∧ w.task = n ∧ w.phase = .waiting ∧ w.station = .module m ∧
      s.memberUp m = true) ∧
    (∃ s : State, ∃ n : Nat, ∃ e : TaskEntry, ∃ w : RemoteWrite, ∃ ws : List RemoteWrite, s.Up ∧ n < 16 ∧ s.scnOpen = true ∧
      s.scn.xch = none ∧ s.taskEntry n = some e ∧ s.waitingOf n = w :: ws ∧ s.epochOpen w = true) :=
  ⟨⟨wv0, 5, wv1, (wv0.num64 (Reg.SCN_TnNEXT_LO (5))), by unfold State.Up; decide +kernel, by decide +kernel, by
     decide +kernel, by decide +kernel, (Option.some_get _).symm, rfl, by decide +kernel, by decide +kernel, by
     decide +kernel, by decide +kernel, by decide +kernel, by decide +kernel⟩,
   ⟨wv2, 5, wv3, (wv2.num64 (Reg.SCN_TnNEXT_LO (5))), by unfold State.Up; decide +kernel, by decide +kernel, by
     decide +kernel, by decide +kernel, (Option.some_get _).symm, rfl, by decide +kernel, by decide +kernel, by
     decide +kernel, by decide +kernel, by decide +kernel, by unfold State.Alone; decide +kernel, by decide +kernel, by
     decide +kernel⟩,
   ⟨wv4, 5, wv5, ll, by unfold State.Up; decide +kernel, by decide +kernel, by decide +kernel, by decide +kernel,
     (Option.some_get _).symm, by decide +kernel, by decide +kernel, by decide +kernel, by decide +kernel⟩,
   ⟨wv6, 5, wv7, wv8, by unfold State.Up; decide +kernel, by decide +kernel, by decide +kernel, by decide +kernel,
     (Option.some_get _).symm, (Option.some_get _).symm, by decide +kernel, by decide +kernel, by decide +kernel⟩,
   ⟨wv9, 5, wv10, wr .waiting, 9, by unfold State.Up; decide +kernel, by decide +kernel, by decide +kernel, by decide +kernel,
     (Option.some_get _).symm, by decide +kernel, by decide +kernel, by decide +kernel, by decide +kernel, by decide +kernel⟩,
   ⟨wv11, 5, wv12, wr .waiting, [], by unfold State.Up; decide +kernel, by decide +kernel, by decide +kernel, by
     decide +kernel, (Option.some_get _).symm, by decide +kernel, by decide +kernel⟩⟩
end TaskEvents

namespace ExchangeAndTaskOperations
def o (n : Nat) (l : List (Nat × Nat × Nat)) : Slot := mkOp Blk.SCN n 0 l
def x2 := o 2 [(0,8,5000),(8,1,1)]
def x3 := o 3 []
def x4 := o 4 [(0,1,5),(1,1,0)]
def x4b := o 4 [(0,1,5),(1,1,1)]
def x5 := o 5 [(0,1,5)]
def x6 := o 6 [(0,1,5)]
def im0 (sig : Nat) (dig : List Byte) : List Byte :=
  le 4 0x4B535544 ++ le 2 2 ++ [0x53,2] ++ le 4 9 ++ le 4 1 ++ le 2 5 ++ le 2 1 ++ le 4 0 ++ le 4 1 ++ le 4 4 ++ le 4 16 ++ le 4 0 ++ le 8 0 ++ dig ++ le 176 0
  ++ (le 4 1 ++ le 4 0x150 ++ le 4 4 ++ le 4 0) ++ (le 4 3 ++ le 4 0x154 ++ le 4 32 ++ le 4 0) ++ (le 4 5 ++ le 4 0x174 ++ le 4 16 ++ le 4 0) ++ (le 4 6 ++ le 4 0x184 ++ le 4 16 ++ le 4 0) ++ (le 4 0xFF ++ le 4 0x194 ++ le 4 64 ++ le 4 0)
  ++ le 4 0x01000000 ++ ([5,1,3,0] ++ le 4 2048 ++ le 2 0 ++ le 2 0 ++ le 4 0 ++ le 3 0 ++ [50] ++ le 12 0) ++ (le 4 1 ++ le 2 0xFFFF ++ le 2 0 ++ le 4 0 ++ le 4 0xFFFFFFFF) ++ (le 4 1 ++ le 4 0xFFFF ++ le 4 16 ++ le 4 0) ++ le 63 0 ++ [BitVec.ofNat 8 sig]
def body : List Byte := ((im0 0 (le 32 0)).drop 0x150).take 68
def im (sig : Nat) : List Byte := im0 sig (beBytes 32 (Config.sha256 body).toNat)
def x1 := o 1 [(0,1,0),(16,4,(im 1).length)]
def xc (bg : Bool) : Xch := ⟨some 3,900,true,bg⟩
def b (ev : Bool) (x : TaskRt) (st : Nat) (ab : Bool) : State := let s := sr (rn true) []; ({s.setTaskSt 5 st with clk := 99, scn := {s.scn with tasks := [(5,x)], lanes := [], bankA := some {bk [] with tasks := [{te with event := ev}]}, bankB := if ab then some {bk [] with tasks := [te], id := 10} else none}, lat := {s.lat with pos := 2^32*1000}}).setFlag Reg.LAT_STATE 3 true |>.setFlag (Reg.CTRL Blk.SCN) 0 true |>.setFlag (Reg.SCN_TnCTL 5) 0 true
def wx (s : State) (bg : Bool) : State := {s with scn := {s.scn with xch := some (xc bg)}}
def bb := b false TaskRt.fresh 1 true
def Ss : List State := [withOp bb 3 x2, withOp (b false TaskRt.fresh 1 false) 3 x2, wx bb false, withOp (wx bb true) 3 x2, withOp bb 3 x3, withOp bb 3 x4, withOp (b false TaskRt.fresh 0 true) 3 x4b, withOp (b true TaskRt.fresh 1 true) 3 x5, withOp (b true {TaskRt.fresh with held := some ⟨7,0,[],0,0⟩} 3 true) 3 x5, withOp (b false TaskRt.fresh 5 true) 3 x6, withOp bb 3 x1]
def wv0 : State := ((Ss : List (State))[0]?).get (by decide +kernel)
def wv1 : State := ((Ss : List (State))[1]?).get (by decide +kernel)
def wv2 : State := ((Ss : List (State))[2]?).get (by decide +kernel)
def wv3 : Xch := (wv2.scn.xch).get (by decide +kernel)
def wv4 : State := ((Ss : List (State))[3]?).get (by decide +kernel)
def wv5 : Xch := (wv4.scn.xch).get (by decide +kernel)
def wv6 : Bank := ((if (false) then wv4.scn.bankA else wv4.scn.bankB)).get (by decide +kernel)
def wv7 : State := ((Ss : List (State))[4]?).get (by decide +kernel)
def wv8 : State := ((Ss : List (State))[5]?).get (by decide +kernel)
def wv9 : State := ((Ss : List (State))[7]?).get (by decide +kernel)
def wv10 : TaskEntry := (wv9.taskEntry (5)).get (by decide +kernel)
def wv11 : State := ((Ss : List (State))[8]?).get (by decide +kernel)
def wv12 : TaskEntry := (wv11.taskEntry (5)).get (by decide +kernel)
def wv13 : State := ((Ss : List (State))[9]?).get (by decide +kernel)
def wv14 : State := ((Ss : List (State))[10]?).get (by decide +kernel)
/-- A state and operands for each clause of `TaskEventsAndOperations`. -/
theorem witness_ExchangeAndTaskOperations :
    (∃ s : State, ∃ k : Nat, ∃ n : Nat, ∃ x : Slot, ∃ b : Bool, s.Up ∧ tfind? s.hlk.serving k = none ∧ s.mode ≠ Mode.MINIMAL ∧
      x.ctx = 0 ∧ n < 16 ∧ b = s.activeB ∧ s.activeOp k Blk.SCN 2 = some x ∧ s.scn.xch = none ∧ (if b then s.scn.bankA else
      s.scn.bankB).isSome = true) ∧
    (∃ s : State, ∃ k : Nat, ∃ n : Nat, ∃ x : Slot, ∃ b : Bool, s.Up ∧ tfind? s.hlk.serving k = none ∧ s.mode ≠ Mode.MINIMAL ∧
      x.ctx = 0 ∧ n < 16 ∧ b = s.activeB ∧ s.activeOp k Blk.SCN 2 = some x ∧ s.scn.xch = none ∧ (if b then s.scn.bankA else
      s.scn.bankB) = none) ∧
    (∃ s : State, ∃ k : Nat, ∃ n : Nat, ∃ x : Slot, ∃ b : Bool, ∃ c : Xch, s.Up ∧ tfind? s.hlk.serving k = none ∧ s.mode ≠
      Mode.MINIMAL ∧ x.ctx = 0 ∧ n < 16 ∧ b = s.activeB ∧ s.scn.xch = some c ∧ c.begun = false ∧ c.x ≤ s.chain) ∧
    (∃ s : State, ∃ k : Nat, ∃ n : Nat, ∃ x : Slot, ∃ b : Bool, ∃ c : Xch, ∃ new : Bank, s.Up ∧ tfind? s.hlk.serving k = none
      ∧ s.mode ≠ Mode.MINIMAL ∧ x.ctx = 0 ∧ n < 16 ∧ b = s.activeB ∧ s.scn.xch = some c ∧ c.begun = true ∧ c.tag = some k ∧
      (s.slot k).st = .active ∧ s.scn.lanes = [] ∧ (if b then s.scn.bankA else s.scn.bankB) = some new ∧ (∀ e ∈ (s.bank
      b).tasks, e.outPoints = [])) ∧
    (∃ s : State, ∃ k : Nat, ∃ n : Nat, ∃ x : Slot, ∃ b : Bool, s.Up ∧ tfind? s.hlk.serving k = none ∧ s.mode ≠ Mode.MINIMAL ∧
      x.ctx = 0 ∧ n < 16 ∧ b = s.activeB ∧ s.activeOp k Blk.SCN 3 = some x ∧ s.scn.xch = none) ∧
    (∃ s : State, ∃ k : Nat, ∃ n : Nat, ∃ x : Slot, ∃ b : Bool, ∃ on : Bool, s.Up ∧ tfind? s.hlk.serving k = none ∧ s.mode ≠
      Mode.MINIMAL ∧ x.ctx = 0 ∧ n < 16 ∧ b = s.activeB ∧ s.activeOp k Blk.SCN 4 = some x ∧ paramField x.param 0 1 = n ∧ bitOf
      (paramField x.param 1 1) 0 = on) ∧
    (∃ s : State, ∃ k : Nat, ∃ n : Nat, ∃ x : Slot, ∃ b : Bool, ∃ e : TaskEntry, s.Up ∧ tfind? s.hlk.serving k = none ∧ s.mode
      ≠ Mode.MINIMAL ∧ x.ctx = 0 ∧ n < 16 ∧ b = s.activeB ∧ s.activeOp k Blk.SCN 5 = some x ∧ paramField x.param 0 1 = n ∧
      s.taskEntry n = some e ∧ e.ctx = 0 ∧ e.event = true ∧ s.hostEn n = true ∧ s.scnOpen = true ∧ s.Alone ∧ s.taskSt n =
      TaskSt.WAITING ∧ (s.taskRt n).held = none ∧ (s.taskRt n).hold = false ∧ s.spaced n = true) ∧
    (∃ s : State, ∃ k : Nat, ∃ n : Nat, ∃ x : Slot, ∃ b : Bool, ∃ e : TaskEntry, s.Up ∧ tfind? s.hlk.serving k = none ∧ s.mode
      ≠ Mode.MINIMAL ∧ x.ctx = 0 ∧ n < 16 ∧ b = s.activeB ∧ s.activeOp k Blk.SCN 5 = some x ∧ paramField x.param 0 1 = n ∧
      s.taskEntry n = some e ∧ e.ctx = 0 ∧ e.event = true ∧ s.hostEn n = true ∧ s.scnOpen = true ∧ s.Alone ∧ s.taskSt n =
      TaskSt.RUNNING ∧ (s.taskRt n).held.isSome = true) ∧
    (∃ s : State, ∃ k : Nat, ∃ n : Nat, ∃ x : Slot, ∃ b : Bool, s.Up ∧ tfind? s.hlk.serving k = none ∧ s.mode ≠ Mode.MINIMAL ∧
      x.ctx = 0 ∧ n < 16 ∧ b = s.activeB ∧ s.activeOp k Blk.SCN 6 = some x ∧ paramField x.param 0 1 = n ∧ s.taskSt n =
      TaskSt.STOPPED ∧ (s.taskRt n).queue = [] ∧ (s.taskRt n).held = none) ∧
    (∃ s : State, ∃ k : Nat, ∃ n : Nat, ∃ x : Slot, ∃ b : Bool, ∃ image : List Byte, s.Up ∧ tfind? s.hlk.serving k = none ∧
      s.mode ≠ Mode.MINIMAL ∧ x.ctx = 0 ∧ n < 16 ∧ b = s.activeB ∧ s.activeOp k Blk.SCN 1 = some x ∧ s.loadBusy k = false ∧
      paramField x.param 0 1 = 0 ∧ paramField x.param 16 4 = image.length) :=
  ⟨⟨wv0, 3, 3, x2, false, by unfold State.Up; decide +kernel⟩,
   ⟨wv1, 3, 3, x2, false, by unfold State.Up; decide +kernel⟩,
   ⟨wv2, 3, 3, x1, false, wv3, by unfold State.Up; decide +kernel, by decide +kernel, by decide +kernel, by decide +kernel, by
     decide +kernel, by decide +kernel, (Option.some_get _).symm, by decide +kernel, by decide +kernel⟩,
   ⟨wv4, 3, 3, x1, false, wv5, wv6, by unfold State.Up; decide +kernel, by decide +kernel, by decide +kernel, by
     decide +kernel, by decide +kernel, by decide +kernel, (Option.some_get _).symm, by decide +kernel, by decide +kernel, by
     decide +kernel, by decide +kernel, (Option.some_get _).symm, by decide +kernel⟩,
   ⟨wv7, 3, 3, x3, false, by unfold State.Up; decide +kernel⟩,
   ⟨wv8, 3, 5, x4, false, false, by unfold State.Up; decide +kernel⟩,
   ⟨wv9, 3, 5, x5, false, wv10, by unfold State.Up; decide +kernel, by decide +kernel, by decide +kernel, by decide +kernel,
     by decide +kernel, by decide +kernel, by decide +kernel, by decide +kernel, (Option.some_get _).symm, by decide +kernel,
     by decide +kernel, by decide +kernel, by decide +kernel, by unfold State.Alone; decide +kernel, by decide +kernel, by
     decide +kernel, by decide +kernel, by decide +kernel⟩,
   ⟨wv11, 3, 5, x5, false, wv12, by unfold State.Up; decide +kernel, by decide +kernel, by decide +kernel, by decide +kernel,
     by decide +kernel, by decide +kernel, by decide +kernel, by decide +kernel, (Option.some_get _).symm, by decide +kernel,
     by decide +kernel, by decide +kernel, by decide +kernel, by unfold State.Alone; decide +kernel, by decide +kernel, by
     decide +kernel⟩,
   ⟨wv13, 3, 5, x6, false, by unfold State.Up; decide +kernel⟩,
   ⟨wv14, 3, 3, x1, false, im 1, by unfold State.Up; decide +kernel⟩⟩
end ExchangeAndTaskOperations

namespace LoopsAndTraces
def o (n : Nat) (l : List (Nat × Nat × Nat)) : Slot := mkOp Blk.LPE n 0 l
def x1 := o 1 [(0,1,95),(1,1,2)]
def x2 := o 2 [(0,1,95),(4,4,0xFFFFFFFF),(8,4,7),(12,4,9)]
def x3 := o 3 [(0,1,7),(1,1,95),(2,1,0xF0),(4,1,5)]
def x4 := o 4 [(0,1,7)]
def cl : Claim := ⟨0x5007,Blk.LPE,1,95⟩
def ch : Claim := ⟨0x5007,Blk.HIF,1,95⟩
def b : State := ({(up0.setFlag Reg.LAT_STATE 3 true |>.setFlag (Reg.CTRL Blk.LPE) 0 true) with lat := {up0.lat with pos := 2^32*4096}}).setFlag (Reg.LPE_LnCFG 95) 0 true |>.setNum (Reg.LPE_LnPERIOD 95) 1 |>.setNum (Reg.LPE_LnLIMIT 95) 0x7FFF8000
def lpp (s : State) : State := {s.setFld (Reg.LPE_LnCTL 95) 0 2 1 |>.setNum (Reg.LPE_LnMAN 95) 0x4000 |>.setNum (Reg.LPE_LnRATE 95) (100*65536) |>.setNum (Reg.LPE_LnMODE_PT 95) 0xFFFF0000 with lpe := {s.lpe with loops := [(95,{LoopX.fresh with mode := LoopMode.MANUAL, entry := false})]}}
def Ss : List State := [b, lpp b, withOp b 3 x1, withOp b 3 x2, withOp b 3 x3, {withOp b 3 x3 with claims := [ch]}, {withOp b 3 x4 with claims := [cl]}]
def wv0 : State := ((Ss : List (State))[0]?).get (by decide +kernel)
def wv1 : State := ((Ss : List (State))[2]?).get (by decide +kernel)
def wv2 : State := ((Ss : List (State))[3]?).get (by decide +kernel)
def wv3 : State := ((Ss : List (State))[4]?).get (by decide +kernel)
def wv4 : State := ((Ss : List (State))[5]?).get (by decide +kernel)
def wv5 : Claim := (wv4.claimOf (0x5000 + (7))).get (by decide +kernel)
def wv6 : State := ((Ss : List (State))[6]?).get (by decide +kernel)
/-- A state and operands for each clause of `LoopsAndTraces`. -/
theorem witness_LoopsAndTraces :
    (∃ s : State, ∃ n : Nat, ∃ k : Nat, ∃ x : Slot, s.Up ∧ n < 96 ∧ tfind? s.hlk.serving k = none ∧ s.mode ≠ Mode.MINIMAL ∧
      x.ctx = 0 ∧ s.mode = Mode.RUN ∧ s.en Blk.LPE = true ∧ s.inSrst Blk.LPE = false ∧ s.flag Reg.LAT_STATE 3 = true ∧
      s.sup.pfail = false ∧ s.flag (Reg.LPE_LnCFG n) 0 = true ∧ s.sampleDue n = true) ∧
    (∃ s : State, ∃ n : Nat, ∃ k : Nat, ∃ x : Slot, s.Up ∧ n < 96 ∧ tfind? s.hlk.serving k = none ∧ s.mode ≠ Mode.MINIMAL ∧
      x.ctx = 0 ∧ s.fld (Reg.LPE_LnRATE n) 0 16 = 0 ∧ s.q15 (Reg.LPE_LnLIMIT n) 0 ≤ s.q15 (Reg.LPE_LnLIMIT n) 16) ∧
    (∃ s : State, ∃ n : Nat, ∃ k : Nat, ∃ x : Slot, ∃ m : Nat, s.Up ∧ n < 96 ∧ tfind? s.hlk.serving k = none ∧ s.mode ≠
      Mode.MINIMAL ∧ x.ctx = 0 ∧ s.activeOp k Blk.LPE 1 = some x ∧ paramField x.param 0 1 = n ∧ paramField x.param 1 1 = m ∧ m
      ≤ 2 ∧ s.flag (Reg.LPE_LnCFG n) 2 = false ∧ s.flag (Reg.LPE_LnCFG n) 0 = true) ∧
    (∃ s : State, ∃ n : Nat, ∃ k : Nat, ∃ x : Slot, s.Up ∧ n < 96 ∧ tfind? s.hlk.serving k = none ∧ s.mode ≠ Mode.MINIMAL ∧
      x.ctx = 0 ∧ s.Alone ∧ s.activeOp k Blk.LPE 2 = some x ∧ paramField x.param 0 1 = n ∧ s.flag (Reg.LPE_LnCFG n) 0 = true) ∧
    (∃ s : State, ∃ n : Nat, ∃ k : Nat, ∃ x : Slot, ∃ b : Nat, s.Up ∧ n < 96 ∧ tfind? s.hlk.serving k = none ∧ s.mode ≠
      Mode.MINIMAL ∧ x.ctx = 0 ∧ s.activeOp k Blk.LPE 3 = some x ∧ paramField x.param 0 1 = b ∧ b ≤ 7 ∧ paramField x.param 1 1
      = n ∧ 1 ≤ (maskBits (paramField x.param 2 1)).length ∧ (maskBits (paramField x.param 2 1)).length ≤ 4 ∧ paramField
      x.param 4 1 ≤ 5 ∧ s.flag (Reg.LPE_LnCFG n) 0 = true ∧ s.claimOf (0x5000 + b) = none) ∧
    (∃ s : State, ∃ n : Nat, ∃ k : Nat, ∃ x : Slot, ∃ b : Nat, ∃ c : Claim, s.Up ∧ n < 96 ∧ tfind? s.hlk.serving k = none ∧
      s.mode ≠ Mode.MINIMAL ∧ x.ctx = 0 ∧ s.activeOp k Blk.LPE 3 = some x ∧ paramField x.param 0 1 = b ∧ b ≤ 7 ∧ paramField
      x.param 1 1 = n ∧ 1 ≤ (maskBits (paramField x.param 2 1)).length ∧ (maskBits (paramField x.param 2 1)).length ≤ 4 ∧
      paramField x.param 4 1 ≤ 5 ∧ s.flag (Reg.LPE_LnCFG n) 0 = true ∧ s.claimOf (0x5000 + b) = some c ∧ c.block ≠ Blk.LPE) ∧
    (∃ s : State, ∃ n : Nat, ∃ k : Nat, ∃ x : Slot, ∃ b : Nat, ∃ c : Claim, s.Up ∧ n < 96 ∧ tfind? s.hlk.serving k = none ∧
      s.mode ≠ Mode.MINIMAL ∧ x.ctx = 0 ∧ s.activeOp k Blk.LPE 4 = some x ∧ paramField x.param 0 1 = b ∧ b ≤ 7 ∧ s.claims =
      [c] ∧ c.resource = 0x5000 + b ∧ c.block = Blk.LPE) ∧
    (∃ s : State, ∃ n : Nat, ∃ k : Nat, ∃ x : Slot, ∃ rq : Requester, ∃ j : Nat, s.Up ∧ n < 96 ∧ tfind? s.hlk.serving k = none
      ∧ s.mode ≠ Mode.MINIMAL ∧ x.ctx = 0 ∧ j < 4 ∧ s.Passes rq (Reg.LPE_LnBQk_W0 n j)) ∧
    (∃ s : State, ∃ n : Nat, ∃ k : Nat, ∃ x : Slot, ∃ rq : Requester, ∃ v : Word, s.Up ∧ n < 96 ∧ tfind? s.hlk.serving k =
      none ∧ s.mode ≠ Mode.MINIMAL ∧ x.ctx = 0 ∧ s.Passes rq (Reg.LPE_LnCTL n) ∧ s.flag (Reg.LPE_LnCFG n) 2 = false ∧ v.toNat
      % 4 ≠ 3) ∧
    (∃ s : State, ∃ n : Nat, ∃ k : Nat, ∃ x : Slot, ∃ rq : Requester, ∃ v : Word, s.Up ∧ n < 96 ∧ tfind? s.hlk.serving k =
      none ∧ s.mode ≠ Mode.MINIMAL ∧ x.ctx = 0 ∧ s.Passes rq (Reg.LPE_LnCTL n) ∧ s.flag (Reg.LPE_LnCFG n) 2 = false ∧ v.toNat
      % 4 = 3) :=
  ⟨⟨wv0, 95, 3, x1, by unfold State.Up; decide +kernel⟩,
   ⟨wv0, 3, 3, x1, by unfold State.Up; decide +kernel⟩,
   ⟨wv1, 95, 3, x1, 2, by unfold State.Up; decide +kernel⟩,
   ⟨wv2, 95, 3, x2, by unfold State.Up State.Alone; decide +kernel⟩,
   ⟨wv3, 95, 3, x3, 7, by unfold State.Up; decide +kernel⟩,
   ⟨wv4, 95, 3, x3, 7, wv5, by unfold State.Up; decide +kernel, by decide +kernel, by decide +kernel, by decide +kernel, by
     decide +kernel, by decide +kernel, by decide +kernel, by decide +kernel, by decide +kernel, by decide +kernel, by
     decide +kernel, by decide +kernel, by decide +kernel, (Option.some_get _).symm, by decide +kernel⟩,
   ⟨wv6, 3, 3, x4, 7, cl, by unfold State.Up; decide +kernel⟩,
   ⟨wv0, 3, 3, x1, .pcie, 3, by unfold State.Up State.Passes State.Alone; decide +kernel⟩,
   ⟨wv0, 3, 3, x1, .pcie, 0, by unfold State.Up State.Passes State.Alone; decide +kernel⟩,
   ⟨wv0, 3, 3, x1, .pcie, 3, by unfold State.Up State.Passes State.Alone; decide +kernel⟩⟩
end LoopsAndTraces

end ScnTasks

/-! ### EmuSto -/

namespace EmuSto

def ring (s : State) (l : List HoldRec) : State := {s with emu := {s.emu with ring := l}}

namespace EnergySamplesAndPulses
def run (s : State) (m : Nat) : State := (s.setFlag (Reg.EMU_MmSTAT m) 24 true).setFlag (Reg.CTRL Blk.EMU) 0 true
def fr : EmuFrame := ⟨[2^23+5,-2^23-9,7],[1,2,3]⟩
def b : State := {run (run up0 0) 1 with emu := {up0.emu with fe := [(1,{FrontEnd.fresh with revRun := [(2,500)]})]}}
def bp : State := {(run up0 0).setFlag (Reg.EMU_PIiCFG 15) 0 true |>.setNum64 (Reg.EMU_PIiCNT_LO 15) (2^64-1) with dio := {up0.dio with pulses := [(15,77),(1,7)]}}
def bg : State := {(run up0 0).setFlag (Reg.EMU_PGgCFG 7) 0 true |>.setNum (Reg.EMU_PGgBACKLOG 7) 2 with dio := {up0.dio with safe := false}}
def wv0 : Nat := (tfind? ({bg with clk := 1, emu := {bg.emu with busy := [(7,(1,true))], pulseAt := [(15,0)]}}).emu.pulseAt
  (15)).get (by decide +kernel)
/-- A state and operands for each clause of `EnergySamplesAndPulses`. -/
theorem witness_EnergySamplesAndPulses :
    (∃ s : State, ∃ m : Nat, s.Up ∧ m < 2 ∧ s.feRuns 0 = true) ∧
    (∃ s : State, ∃ m : Nat, ∃ e : Nat, s.Up ∧ m < 2 ∧ e < 4 ∧ s.elemFault m e = false) ∧
    (∃ s : State, ∃ m : Nat, ∃ e : Nat, s.Up ∧ m < 2 ∧ s.elemFault m e = true) ∧
    (∃ s : State, ∃ m : Nat, ∃ ch : Nat, s.Up ∧ m < 2 ∧ ch < 7 ∧ s.feRuns m = true) ∧
    (∃ s : State, ∃ m : Nat, ∃ p : Nat, s.Up ∧ m < 2 ∧ p < 3 ∧ 500 ≤ tget (fun _ => 0) (s.fe m).revRun p) ∧
    (∃ s : State, ∃ m : Nat, ∃ i : Nat, ∃ ch : Nat, ∃ rest : List (Nat × Nat), s.Up ∧ m < 2 ∧ s.dio.pulses = (i, ch) :: rest ∧
      i < 16 ∧ s.flag (Reg.EMU_PIiCFG i) 0 = true) ∧
    (∃ s : State, ∃ m : Nat, ∃ i : Nat, ∃ c : Nat, s.Up ∧ m < 2 ∧ s.Alone ∧ i < 16 ∧ tfind? s.emu.pulseAt i = some c ∧ c +
      s.fld (Reg.EMU_PIiCFG i) 8 8 * 1000 * msClk ≤ s.clk) ∧
    (∃ s : State, ∃ m : Nat, ∃ g : Nat, ∃ till : Nat, s.Up ∧ m < 2 ∧ g < 8 ∧ s.flag (Reg.EMU_PGgCFG g) 0 = true ∧ tfind?
      s.emu.busy g = none ∧ 0 < s.num (Reg.EMU_PGgBACKLOG g) ∧ s.dio.safe = false ∧ s.dio.dieLost = false ∧ s.mode ≠
      Mode.MINIMAL ∧ till = s.clk + s.fld (Reg.EMU_PGgCFG g) 24 8 * 10 * msClk) ∧
    (∃ s : State, ∃ m : Nat, ∃ g : Nat, ∃ c : Nat, ∃ till : Nat, s.Up ∧ m < 2 ∧ g < 8 ∧ s.flag (Reg.EMU_PGgCFG g) 0 = true ∧
      tfind? s.emu.busy g = some (c, true) ∧ c ≤ s.clk ∧ till = s.clk + s.fld (Reg.EMU_PGgCFG g) 24 8 * 10 * msClk) :=
  ⟨⟨b, 0, by unfold State.Up; decide +kernel⟩,
   ⟨b, 0, 0, by unfold State.Up; decide +kernel⟩,
   ⟨b.setFlag (Reg.EMU_MmSTAT 1) 4 true, 1, 1, by unfold State.Up; decide +kernel⟩,
   ⟨b, 0, 0, by unfold State.Up; decide +kernel⟩,
   ⟨b, 1, 2, by unfold State.Up; decide +kernel⟩,
   ⟨bp, 0, 15, 77, [(1,7)], by unfold State.Up; decide +kernel⟩,
   ⟨{bg with clk := 1, emu := {bg.emu with busy := [(7,(1,true))], pulseAt := [(15,0)]}}, 0, 15, wv0,
     by unfold State.Up; decide +kernel, by decide +kernel, by unfold State.Alone; decide +kernel, by decide +kernel,
     (Option.some_get _).symm, by decide +kernel⟩,
   ⟨bg, 0, 7, ((bg).clk + (bg).fld (Reg.EMU_PGgCFG (7)) 24 8 * 10 * msClk), by unfold State.Up; decide +kernel⟩,
   ⟨{bg with clk := 1, emu := {bg.emu with busy := [(7,(1,true))], pulseAt := [(15,0)]}}, 0, 7, 1,
     (({bg with clk := 1, emu := {bg.emu with busy := [(7,(1,true))], pulseAt := [(15,0)]}}).clk +
     ({bg with clk := 1, emu := {bg.emu with busy := [(7,(1,true))], pulseAt := [(15,0)]}}).fld (Reg.EMU_PGgCFG (7)) 24 8 * 10
     * msClk), by unfold State.Up; decide +kernel⟩⟩
end EnergySamplesAndPulses

namespace IntervalsAndRecords
def b : State := {up0.setFld Reg.LAT_STATE 0 3 LatSt.LOCKED |>.setNum Reg.EMU_MIRROR_SEQ 0xFFFFFFFF with clk := 99, lat := {up0.lat with pos := 2^32*65536*77}}
def b2 : State := {b.setNum Reg.EMU_IV_CFG 10 with emu := {b.emu with ivOpen := true}}
def b3 : State := {b.setNum Reg.EMU_IV_CFG 7 |>.setNum Reg.EMU_IV_SEQ 0xFFFFFFFF with emu := {b.emu with ivOpen := true}}
def hr (n : Nat) : HoldRec := ⟨n,0,2,[1,2,3],none,true,5,none⟩
def b4 : State := {ring b [hr 4, hr 5] with sto := {b.sto with durable := [(.record 4,0)]}}
def b5 : State := {{ring b [hr 4, hr 5] with sto := {b.sto with durable := [(.record 4,0x16)]}} with clk := 2^40}
def wv0 : State := ((b).zxPass 26 0 false).get (by decide +kernel)
def wv1 : State := ((b2).zxPass 26 0 false).get (by decide +kernel)
def wv2 : State := ((b3).zxPass 26 0 false).get (by decide +kernel)
def wv3 : Nat := ((b5).stoEnded (.record (4))).get (by decide +kernel)
def wv4 : HoldRec := ((b5).emu.ring.find? (fun r => r.slot == (4))).get (by decide +kernel)
def wv5 : Nat := ((b5).freeTag).get (by decide +kernel)
/-- A state and operands for each clause of `IntervalsAndRecords`. -/
theorem witness_IntervalsAndRecords :
    (∃ s : State, ∃ a : State, s.Up ∧ s.Alone ∧ s.latSt ≠ LatSt.RESET ∧ s.feRuns 0 = false ∧ s.feRuns 1 = false ∧ s.emu.ivWait
      = none ∧ s.dio.pulses = [] ∧ s.zxPass 26 0 false = some a) ∧
    (∃ s : State, ∃ a : State, s.Up ∧ s.Alone ∧ s.latSt ≠ LatSt.RESET ∧ s.feRuns 0 = false ∧ s.feRuns 1 = false ∧ s.emu.ivWait
      = none ∧ s.dio.pulses = [] ∧ s.zxPass 26 0 false = some a ∧ s.emu.ivOpen = true ∧ s.emu.ivClose = [] ∧ s.emu.ivMerged =
      false ∧ s.ivDue.1 = false ∧ s.emu.ring = []) ∧
    (∃ s : State, ∃ a : State, s.Up ∧ s.Alone ∧ s.latSt ≠ LatSt.RESET ∧ s.feRuns 0 = false ∧ s.feRuns 1 = false ∧ s.emu.ivWait
      = none ∧ s.dio.pulses = [] ∧ s.zxPass 26 0 false = some a ∧ s.emu.ivOpen = true ∧ s.ivDue.1 = true ∧ s.emu.ring = []) ∧
    (∃ s : State, ∃ n : Nat, s.Up ∧ s.Alone ∧ s.latSt ≠ LatSt.RESET ∧ s.feRuns 0 = false ∧ s.feRuns 1 = false ∧ s.emu.ivWait =
      none ∧ s.dio.pulses = [] ∧ s.stoEnded (.record n) = some St.OK) ∧
    (∃ s : State, ∃ n : Nat, ∃ st : Nat, ∃ r : HoldRec, ∃ k : Nat, s.Up ∧ s.Alone ∧ s.latSt ≠ LatSt.RESET ∧ s.feRuns 0 = false
      ∧ s.feRuns 1 = false ∧ s.emu.ivWait = none ∧ s.dio.pulses = [] ∧ s.stoEnded (.record n) = some st ∧ st ≠ St.OK ∧
      s.emu.ring.find? (fun r => r.slot == n) = some r ∧ r.ctx = 0 ∧ r.sealed = none ∧ r.tried + 10000 * msClk ≤ s.clk ∧
      s.sup.pfail = false ∧ s.freeTag = some k) :=
  ⟨⟨b, wv0, by unfold State.Up; decide +kernel, by unfold State.Alone; decide +kernel, by decide +kernel, by decide +kernel,
     by decide +kernel, by decide +kernel, by decide +kernel, (Option.some_get _).symm⟩,
   ⟨b2, wv1, by unfold State.Up; decide +kernel, by unfold State.Alone; decide +kernel, by decide +kernel, by decide +kernel,
     by decide +kernel, by decide +kernel, by decide +kernel, (Option.some_get _).symm, by decide +kernel, by decide +kernel,
     by decide +kernel, by decide +kernel, by decide +kernel⟩,
   ⟨b3, wv2, by unfold State.Up; decide +kernel, by unfold State.Alone; decide +kernel, by decide +kernel, by decide +kernel,
     by decide +kernel, by decide +kernel, by decide +kernel, (Option.some_get _).symm, by decide +kernel, by decide +kernel,
     by decide +kernel⟩,
   ⟨b4, 4, by unfold State.Up State.Alone; decide +kernel⟩,
   ⟨b5, 4, wv3, wv4, wv5, by unfold State.Up; decide +kernel, by unfold State.Alone; decide +kernel, by decide +kernel, by
     decide +kernel, by decide +kernel, by decide +kernel, by decide +kernel, (Option.some_get _).symm, by decide +kernel,
     (Option.some_get _).symm, by decide +kernel, by decide +kernel, by decide +kernel, by decide +kernel, (Option.some_get
     _).symm⟩⟩
end IntervalsAndRecords

namespace MeteringOperations
def o (n : Nat) (l : List (Nat × Nat × Nat)) : Slot := mkOp Blk.EMU n 0 l
def x1 := o 1 []
def x2 := o 2 [(0,1,7),(1,1,0x84),(2,1,23),(3,1,3),(4,4,1000000)]
def x3 := o 3 [(0,1,7)]
def x4 (m : Nat) := o 4 [(0,1,1),(1,1,6),(2,1,m),(4,4,0xFFFFFFFF)]
def x5 (n : Nat) := o 5 [(0,1,n)]
def cl : Claim := ⟨0x4007,Blk.EMU,1,7⟩
def b : State := up0
def bd : State := {withOp b 3 x2 with claims := [⟨0x2017,Blk.HIF,0,9⟩]}
def bl : State := b.setFld Reg.KEY_LC 0 3 2
def wv0 : Claim := ((bd).claimOf (0x2000 + ((paramField (x2).param 2 1)))).get (by decide +kernel)
/-- A state and operands for each clause of `MeteringOperations`. -/
theorem witness_MeteringOperations :
    (∃ s : State, ∃ k : Nat, ∃ x : Slot, s.Up ∧ tfind? s.hlk.serving k = none ∧ s.activeOp k Blk.EMU 1 = some x ∧
      s.emu.ivClose.contains k = false) ∧
    (∃ s : State, ∃ k : Nat, ∃ x : Slot, ∃ g : Nat, ∃ q : Nat, ∃ c : Nat, ∃ w : Nat, ∃ n : Nat, s.Up ∧ tfind? s.hlk.serving k
      = none ∧ s.Alone ∧ s.activeOp k Blk.EMU 2 = some x ∧ g = paramField x.param 0 1 ∧ q = paramField x.param 1 1 ∧ c =
      paramField x.param 2 1 ∧ w = paramField x.param 3 1 ∧ n = paramField x.param 4 4 ∧ pgValid g q c w n = true ∧ s.flag
      (Reg.EMU_PGgCFG g) 0 = false ∧ s.claimOf (0x4000 + g) = none ∧ s.claimOf (0x2000 + c) = none) ∧
    (∃ s : State, ∃ k : Nat, ∃ x : Slot, ∃ g : Nat, ∃ q : Nat, ∃ c : Nat, ∃ w : Nat, ∃ n : Nat, ∃ d : Claim, s.Up ∧ tfind?
      s.hlk.serving k = none ∧ s.Alone ∧ s.activeOp k Blk.EMU 2 = some x ∧ g = paramField x.param 0 1 ∧ q = paramField x.param
      1 1 ∧ c = paramField x.param 2 1 ∧ w = paramField x.param 3 1 ∧ n = paramField x.param 4 4 ∧ pgValid g q c w n = true ∧
      s.flag (Reg.EMU_PGgCFG g) 0 = false ∧ s.claimOf (0x4000 + g) = none ∧ s.claimOf (0x2000 + c) = some d) ∧
    (∃ s : State, ∃ k : Nat, ∃ x : Slot, ∃ g : Nat, s.Up ∧ tfind? s.hlk.serving k = none ∧ s.activeOp k Blk.EMU 3 = some x ∧
      paramField x.param 0 1 = g ∧ g < 8 ∧ s.flag (Reg.EMU_PGgCFG g) 0 = true ∧ s.emu.busy.contains g = false) ∧
    (∃ s : State, ∃ k : Nat, ∃ x : Slot, ∃ e : Nat, s.Up ∧ tfind? s.hlk.serving k = none ∧ s.lcService = false ∧ s.activeOp k
      Blk.EMU e = some x ∧ (e = 4 ∨ e = 5)) ∧
    (∃ s : State, ∃ k : Nat, ∃ x : Slot, ∃ m : Nat, ∃ c : Nat, ∃ v : Nat, s.Up ∧ tfind? s.hlk.serving k = none ∧ s.lcService =
      true ∧ s.activeOp k Blk.EMU 4 = some x ∧ paramField x.param 0 1 = m ∧ m < 2 ∧ paramField x.param 1 1 = c ∧ c < 7 ∧ v =
      paramField x.param 4 4 ∧ paramField x.param 2 1 = 0) ∧
    (∃ s : State, ∃ k : Nat, ∃ x : Slot, ∃ m : Nat, ∃ c : Nat, ∃ v : Nat, s.Up ∧ tfind? s.hlk.serving k = none ∧ s.lcService =
      true ∧ s.activeOp k Blk.EMU 4 = some x ∧ paramField x.param 0 1 = m ∧ m < 2 ∧ paramField x.param 1 1 = c ∧ c < 7 ∧ v =
      paramField x.param 4 4 ∧ paramField x.param 2 1 = 1) ∧
    (∃ s : State, ∃ k : Nat, ∃ x : Slot, ∃ m : Nat, ∃ c : Nat, ∃ v : Nat, s.Up ∧ tfind? s.hlk.serving k = none ∧ s.lcService =
      true ∧ s.activeOp k Blk.EMU 4 = some x ∧ paramField x.param 0 1 = m ∧ m < 2 ∧ paramField x.param 1 1 = c ∧ c < 7 ∧ v =
      paramField x.param 4 4 ∧ paramField x.param 2 1 = 2) ∧
    (∃ s : State, ∃ k : Nat, ∃ x : Slot, ∃ m : Nat, s.Up ∧ tfind? s.hlk.serving k = none ∧ s.lcService = true ∧ s.activeOp k
      Blk.EMU 5 = some x ∧ paramField x.param 0 1 = m ∧ m < 2) ∧
    (∃ s : State, ∃ k : Nat, ∃ x : Slot, ∃ i : Nat, s.Up ∧ tfind? s.hlk.serving k = none ∧ s.lcService = true ∧ s.activeOp k
      Blk.EMU 5 = some x ∧ paramField x.param 0 1 = 0x10 + i ∧ i < 16) :=
  ⟨⟨withOp b 3 x1, 3, x1, by unfold State.Up; decide +kernel⟩,
   ⟨withOp b 3 x2, 3, x2, (paramField (x2).param 0 1), (paramField (x2).param 1 1), (paramField (x2).param 2 1), (paramField
     (x2).param 3 1), (paramField (x2).param 4 4), by unfold State.Up State.Alone; decide +kernel⟩,
   ⟨bd, 3, x2, (paramField (x2).param 0 1), (paramField (x2).param 1 1), (paramField (x2).param 2 1), (paramField (x2).param 3
     1), (paramField (x2).param 4 4), wv0, by unfold State.Up; decide +kernel, by decide +kernel,
     by unfold State.Alone; decide +kernel, by decide +kernel, rfl, rfl, rfl, rfl, rfl, by decide +kernel, by decide +kernel,
     by decide +kernel, (Option.some_get _).symm⟩,
   ⟨{withOp (b.setFlag (Reg.EMU_PGgCFG 7) 0 true) 3 x3 with claims := [cl]}, 3, x3, 7, by unfold State.Up; decide +kernel⟩,
   ⟨withOp bl 3 (x4 0), 3, x4 0, 4, by unfold State.Up; decide +kernel⟩,
   ⟨withOp b 3 (x4 0), 3, x4 0, 1, 6, (paramField (x4 0).param 4 4), by unfold State.Up; decide +kernel⟩,
   ⟨withOp b 3 (x4 1), 3, x4 1, 1, 6, (paramField (x4 1).param 4 4), by unfold State.Up; decide +kernel⟩,
   ⟨withOp b 3 (x4 2), 3, x4 2, 1, 6, (paramField (x4 2).param 4 4), by unfold State.Up; decide +kernel⟩,
   ⟨withOp b 3 (x5 1), 3, x5 1, 1, by unfold State.Up; decide +kernel⟩,
   ⟨withOp b 3 (x5 0x1F), 3, x5 0x1F, 15, by unfold State.Up; decide +kernel⟩⟩
end MeteringOperations

namespace StorageOperations
def oid : Nat := objId 0 2 77
def o (n : Nat) (l : List (Nat × Nat × Nat)) : Slot := {mkOp Blk.STO n 0 ([(0,8,oid),(8,8,0x1000)]++l) with origin := .mailbox}
def x1 := o 1 [(16,4,3),(20,4,1)]
def x2 := o 2 [(16,4,3),(24,1,3)]
def x3 := o 3 [(16,4,99),(20,4,1)]
def x4 := o 4 []
def x5 := o 5 []
def x6 := o 6 []
def x7 := o 7 []
def x8 := o 8 []
def tb0 : Tbl CommitSlot := [(1,⟨some ⟨1,1,[9,9]⟩,some ⟨2,2,[8,7]⟩⟩)]
def ob1 : StoObj := ⟨1,5,64,.slots 2 16 tb0,false,false⟩
def b : State := {(up0.setFlag Reg.STO_STAT 0 true).setFlag (Reg.CTRL Blk.STO) 0 true with sto := {up0.sto with objs := [(oid,ob1)], blocks := [(3,⟨0,0,0,0,.free,0,0,0,false⟩),(4,⟨0,0,0,0,.bad,0,0,0,false⟩)], blockBytes0 := 1000}}
def be : State := ({b with sto := {b.sto with objs := []}}).setFld (Reg.STO_CHc_LUNl_STAT 0 0) 0 2 1 |>.setNum (Reg.STO_PLq_FREE 0) 1
def wv0 : StoObj := ((withOp b 3 x1).stoObj ((stoParam (x1))).obj).get (by decide +kernel)
def wv1 : StoObj := ((withOp b 3 x3).stoObj ((stoParam (x3))).obj).get (by decide +kernel)
def wv2 : List Byte := ((getBytes wv1 ((stoParam (x3))).pos ((stoParam (x3))).len).toOption.get (by decide +kernel))
def wv3 : StoObj := ((withOp b 3 x4).stoObj ((stoParam (x4))).obj).get (by decide +kernel)
def wv4 : StoObj := ((withOp b 3 x7).stoObj ((stoParam (x7))).obj).get (by decide +kernel)
/-- A state and operands for each clause of `StorageAndMedium`. -/
theorem witness_StorageOperations :
    (∃ s : State, ∃ k : Nat, ∃ x : Slot, ∃ p : StoParam, ∃ d : List Byte, ∃ n : Nat, ∃ z : Nat, ∃ tb : Tbl CommitSlot, ∃ o :
      StoObj, s.Up ∧ tfind? s.hlk.serving k = none ∧ s.flag Reg.STO_STAT 0 = true ∧ s.sup.pfail = false ∧ s.sto.asks = [] ∧
      s.sto.writes = [] ∧ s.sto.waits = [] ∧ s.sto.durable = [] ∧ s.sto.reads = [] ∧ s.sto.jobs = [] ∧ p = stoParam x ∧
      s.stoMustWait k = false ∧ s.activeOp k Blk.STO 1 = some x ∧ s.writeRefusal x p 1 = none ∧ s.stoObj p.obj = some o ∧
      o.cls = 1 ∧ o.body = .slots n z tb ∧ p.len = d.length) ∧
    (∃ s : State, ∃ k : Nat, ∃ x : Slot, ∃ p : StoParam, ∃ d : List Byte, s.Up ∧ tfind? s.hlk.serving k = none ∧ s.flag
      Reg.STO_STAT 0 = true ∧ s.sup.pfail = false ∧ s.sto.asks = [] ∧ s.sto.writes = [] ∧ s.sto.waits = [] ∧ s.sto.durable =
      [] ∧ s.sto.reads = [] ∧ s.sto.jobs = [] ∧ p = stoParam x ∧ s.stoMustWait k = false ∧ s.activeOp k Blk.STO 2 = some x ∧
      s.writeRefusal x p 2 = none ∧ s.stoObj p.obj = none ∧ p.cls = 3 ∧ p.len = d.length ∧ d ≠ []) ∧
    (∃ s : State, ∃ k : Nat, ∃ x : Slot, ∃ p : StoParam, ∃ o : StoObj, ∃ b : List Byte, s.Up ∧ tfind? s.hlk.serving k = none ∧
      s.flag Reg.STO_STAT 0 = true ∧ s.sup.pfail = false ∧ s.sto.asks = [] ∧ s.sto.writes = [] ∧ s.sto.waits = [] ∧
      s.sto.durable = [] ∧ s.sto.reads = [] ∧ s.sto.jobs = [] ∧ p = stoParam x ∧ s.stoMustWait k = false ∧ s.activeOp k
      Blk.STO 3 = some x ∧ stoAccess x p.obj 3 = true ∧ s.stoObj p.obj = some o ∧ (p.cls = 0 ∨ p.cls = o.cls) ∧ getBytes o
      p.pos p.len = .ok b ∧ o.damaged = false ∧ o.places 1 = []) ∧
    (∃ s : State, ∃ k : Nat, ∃ x : Slot, ∃ p : StoParam, s.Up ∧ tfind? s.hlk.serving k = none ∧ s.flag Reg.STO_STAT 0 = true ∧
      s.sup.pfail = false ∧ s.sto.asks = [] ∧ s.sto.writes = [] ∧ s.sto.waits = [] ∧ s.sto.durable = [] ∧ s.sto.reads = [] ∧
      s.sto.jobs = [] ∧ p = stoParam x ∧ s.stoMustWait k = false ∧ s.activeOp k Blk.STO 3 = some x ∧ stoAccess x p.obj 3 =
      true ∧ s.stoObj p.obj = none) ∧
    (∃ s : State, ∃ k : Nat, ∃ x : Slot, ∃ p : StoParam, ∃ o : StoObj, s.Up ∧ tfind? s.hlk.serving k = none ∧ s.flag
      Reg.STO_STAT 0 = true ∧ s.sup.pfail = false ∧ s.sto.asks = [] ∧ s.sto.writes = [] ∧ s.sto.waits = [] ∧ s.sto.durable =
      [] ∧ s.sto.reads = [] ∧ s.sto.jobs = [] ∧ p = stoParam x ∧ s.stoMustWait k = false ∧ s.activeOp k Blk.STO 4 = some x ∧
      stoAccess x p.obj 4 = true ∧ s.stoObj p.obj = some o ∧ o.cls = 1) ∧
    (∃ s : State, ∃ k : Nat, ∃ x : Slot, ∃ p : StoParam, s.Up ∧ tfind? s.hlk.serving k = none ∧ s.flag Reg.STO_STAT 0 = true ∧
      s.sup.pfail = false ∧ s.sto.asks = [] ∧ s.sto.writes = [] ∧ s.sto.waits = [] ∧ s.sto.durable = [] ∧ s.sto.reads = [] ∧
      s.sto.jobs = [] ∧ p = stoParam x ∧ s.stoMustWait k = false ∧ s.activeOp k Blk.STO 5 = some x ∧ s.stoEarlier k = []) ∧
    (∃ s : State, ∃ k : Nat, ∃ x : Slot, ∃ p : StoParam, s.Up ∧ tfind? s.hlk.serving k = none ∧ s.flag Reg.STO_STAT 0 = true ∧
      s.sup.pfail = false ∧ s.sto.asks = [] ∧ s.sto.writes = [] ∧ s.sto.waits = [] ∧ s.sto.durable = [] ∧ s.sto.reads = [] ∧
      s.sto.jobs = [] ∧ p = stoParam x ∧ s.stoMustWait k = false ∧ s.activeOp k Blk.STO 6 = some x ∧ s.stoEarlier k = [] ∧
      s.mode ≠ Mode.MINIMAL ∧ s.sto.buffer = []) ∧
    (∃ s : State, ∃ k : Nat, ∃ x : Slot, ∃ p : StoParam, ∃ o : StoObj, s.Up ∧ tfind? s.hlk.serving k = none ∧ s.flag
      Reg.STO_STAT 0 = true ∧ s.sup.pfail = false ∧ s.sto.asks = [] ∧ s.sto.writes = [] ∧ s.sto.waits = [] ∧ s.sto.durable =
      [] ∧ s.sto.reads = [] ∧ s.sto.jobs = [] ∧ p = stoParam x ∧ s.stoMustWait k = false ∧ s.activeOp k Blk.STO 7 = some x ∧
      stoAccess x p.obj 7 = true ∧ s.stoObj p.obj = some o) ∧
    (∃ s : State, ∃ k : Nat, ∃ x : Slot, ∃ p : StoParam, s.Up ∧ tfind? s.hlk.serving k = none ∧ s.flag Reg.STO_STAT 0 = true ∧
      s.sup.pfail = false ∧ s.sto.asks = [] ∧ s.sto.writes = [] ∧ s.sto.waits = [] ∧ s.sto.durable = [] ∧ s.sto.reads = [] ∧
      s.sto.jobs = [] ∧ p = stoParam x ∧ s.stoMustWait k = false ∧ s.activeOp k Blk.STO 8 = some x ∧ x.ctx = 0 ∧ s.mode ≠
      Mode.MINIMAL ∧ s.fld Reg.KEY_LC 0 3 ≤ 1 ∧ s.openTags = [k]) :=
  ⟨⟨withOp b 3 x1, 3, x1, (stoParam (x1)), [1,2,3], 2, 16, tb0, wv0, by unfold State.Up; decide +kernel, by decide +kernel, by
     decide +kernel, by decide +kernel, by decide +kernel, by decide +kernel, by decide +kernel, by decide +kernel, by
     decide +kernel, by decide +kernel, rfl, by decide +kernel, by decide +kernel, by decide +kernel, (Option.some_get
     _).symm, by decide +kernel, by decide +kernel, by decide +kernel⟩,
   ⟨withOp be 3 x2, 3, x2, (stoParam (x2)), [1,2,3], by unfold State.Up; decide +kernel⟩,
   ⟨withOp b 3 x3, 3, x3, (stoParam (x3)), wv1, wv2, by unfold State.Up; decide +kernel, by decide +kernel, by decide +kernel,
     by decide +kernel, by decide +kernel, by decide +kernel, by decide +kernel, by decide +kernel, by decide +kernel, by
     decide +kernel, rfl, by decide +kernel, by decide +kernel, by decide +kernel, (Option.some_get _).symm, by
     decide +kernel, by decide +kernel, by decide +kernel, by decide +kernel⟩,
   ⟨withOp be 3 x3, 3, x3, (stoParam (x3)), by unfold State.Up; decide +kernel⟩,
   ⟨withOp b 3 x4, 3, x4, (stoParam (x4)), wv3, by unfold State.Up; decide +kernel, by decide +kernel, by decide +kernel, by
     decide +kernel, by decide +kernel, by decide +kernel, by decide +kernel, by decide +kernel, by decide +kernel, by
     decide +kernel, rfl, by decide +kernel, by decide +kernel, by decide +kernel, (Option.some_get _).symm, by
     decide +kernel⟩,
   ⟨withOp b 3 x5, 3, x5, (stoParam (x5)), by unfold State.Up; decide +kernel⟩,
   ⟨withOp b 3 x6, 3, x6, (stoParam (x6)), by unfold State.Up; decide +kernel⟩,
   ⟨withOp b 3 x7, 3, x7, (stoParam (x7)), wv4, by unfold State.Up; decide +kernel, by decide +kernel, by decide +kernel, by
     decide +kernel, by decide +kernel, by decide +kernel, by decide +kernel, by decide +kernel, by decide +kernel, by
     decide +kernel, rfl, by decide +kernel, by decide +kernel, by decide +kernel, (Option.some_get _).symm⟩,
   ⟨withOp b 3 x8, 3, x8, (stoParam (x8)), by unfold State.Up; decide +kernel⟩⟩
end StorageOperations

namespace NandWork
def oid : Nat := objId 0 2 77
def j1 : NandJob := ⟨7,3,.copy 3 1,3,0⟩
def j2 : NandJob := ⟨7,3,.erase,0,0⟩
def j3 : NandJob := ⟨7,3,.read 3 1,0,0⟩
def w1 : StoWrite := ⟨3,0,oid,3,2,64,1,[1,2,3],3,0,0,0,[],[],.none,none⟩
def ob1 : StoObj := ⟨1,5,64,.slots 2 16 [(1,⟨some ⟨1,1,[9,9]⟩,none⟩)],false,false⟩
def obw : StoObj := ⟨2,5,64,.whole [1,2,3] [] [],false,false⟩
def obv : StoObj := ⟨2,5,64,.whole [1,2,3] [3] [],false,false⟩
def xr : Slot := {mkOp Blk.STO 3 0 ([(0,8,oid),(8,8,0x1000),(16,4,9),(20,4,1)]) with origin := .mailbox}
def xa : Slot := {mkOp Blk.STO 2 0 ([(0,8,oid),(8,8,0x1000),(16,4,3)]) with origin := .mailbox}
def blk (st : BlockSt) : NandBlock := ⟨0,0,0,5,st,0,0,0,false⟩
def b : State := {(up0.setFlag Reg.STO_STAT 0 true).setFlag (Reg.CTRL Blk.STO) 0 true |>.setFld (Reg.STO_CHc_LUNl_STAT 0 0) 0 2 1 |>.setFld Reg.STO_CFG 24 5 20 with sto := {up0.sto with retryLevels := 2, blocks := [(3,blk (.taking 3))], blockBytes0 := 1000}}
def j (s : State) (l : List NandJob) : State := {s with sto := {s.sto with jobs := l}}
def s1 : State := {withOp (j b [j1]) 3 xa with sto := {(j b [j1]).sto with writes := [w1]}}
def s3 : State := {withOp (j b [j3]) 3 xr with sto := {(j b [j3]).sto with reads := [⟨3,0,1,false⟩], objs := [(oid,ob1)]}}
def s4 : State := {b with clk := 1000*msClk+5, sto := {b.sto with blocks := [(3,{blk (.taking 4) with pool := 1})], blockBytes1 := 100000, bufClk := [(8,5)], buffer := [(8,[(3,77)])]}}
def s5 : State := {b with sto := {b.sto with objs := [(oid,obv)], blocks := [(3,blk .closed)]}, rtc := {b.rtc with cal := {b.rtc.cal with year := 2026}}}
def s6 : State := {b with sto := {b.sto with blocks := [(3,{blk .closed with worn := true})]}}
def s7 : State := {s5 with sto := {s5.sto with blocks := [(3,blk .closed),(4,{blk .free with ec := 300})]}}
def s7b : State := (s7.setNum (Reg.STO_PLq_EC_MIN 0) 5).setNum (Reg.STO_PLq_EC_MAX 0) 300
def s8 : State := {(((b.setNum Reg.STO_PEER (64+9)).setNum (Reg.KEY_SLOTs_ATTR 0) 0x201).setFld (Reg.HLK_MBm_STAT 9) 0 3 2 |>.setFlag (Reg.CTRL Blk.HLK) 0 true) with sup := {b.sup with roleStrap := 1}, sto := {b.sto with objs := [(oid,obw)], unrep := [oid]}}
def wv0 : StoObj := ((s3).stoObj (stoParam (((s3).slot (3)))).obj).get (by decide +kernel)
def wv1 : List Byte := ((getBytes wv0 (stoParam (((s3).slot (3)))).pos (stoParam (((s3).slot (3)))).len).toOption.get (by
  decide +kernel))
def wv2 : Nat := (tfind? (s4).sto.bufClk 8).get (by decide +kernel)
def wv3 : Nat := ((s8).stoPeer).get (by decide +kernel)
def wv4 : StoObj := ((s8).stoObj (oid)).get (by decide +kernel)
/-- A state and operands for each clause of `StorageAndMedium`. -/
theorem witness_NandWork :
    (∃ s : State, ∃ j : NandJob, ∃ b : Nat, ∃ k : Nat, ∃ w : StoWrite, s.Up ∧ s.coreUp 0 = true ∧ s.sto.asks = [] ∧
      s.sto.waits = [] ∧ s.sto.durable = [] ∧ b = j.block ∧ s.sto.jobs = [j] ∧ j.what = .copy k 1 ∧ s.sto.writes = [w] ∧ w.tag
      = k ∧ w.cls = 3 ∧ w.op = 2 ∧ w.rep = .none ∧ w.left1 = j.bytes ∧ w.left2 = 0 ∧ w.copy1 = [] ∧ (s.slot k).st = .active ∧
      (s.slot k).gen = w.gen ∧ (s.slot k).block = Blk.STO ∧ tfind? s.hlk.serving k = none ∧ s.stoObj w.obj = none ∧
      s.sto.buffer = []) ∧
    (∃ s : State, ∃ j : NandJob, ∃ b : Nat, s.Up ∧ s.coreUp 0 = true ∧ s.sto.asks = [] ∧ s.sto.waits = [] ∧ s.sto.durable = []
      ∧ b = j.block ∧ s.sto.jobs = [j] ∧ j.what = .erase ∧ s.sto.writes = [] ∧ s.sto.buffer = [] ∧ s.num (Reg.STO_PLq_RATED_PE
      (s.nblock b).pool) = 0) ∧
    (∃ s : State, ∃ j : NandJob, ∃ b : Nat, s.Up ∧ s.coreUp 0 = true ∧ s.sto.asks = [] ∧ s.sto.waits = [] ∧ s.sto.durable = []
      ∧ b = j.block ∧ s.sto.jobs = [j] ∧ j.what = .erase ∧ s.sto.writes = [] ∧ s.sto.buffer = [] ∧ s.sto.blocks = [(b,
      s.nblock b)] ∧ (s.nblock b).st ≠ .spare) ∧
    (∃ s : State, ∃ j : NandJob, ∃ b : Nat, ∃ k : Nat, ∃ x : Slot, ∃ o : StoObj, ∃ d : List Byte, s.Up ∧ s.coreUp 0 = true ∧
      s.sto.asks = [] ∧ s.sto.waits = [] ∧ s.sto.durable = [] ∧ b = j.block ∧ s.sto.jobs = [j] ∧ j.what = .read k 1 ∧
      s.sto.writes = [] ∧ s.sto.reads = [⟨k, (s.slot k).gen, 1, false⟩] ∧ x = s.slot k ∧ x.st = .active ∧ x.block = Blk.STO ∧
      tfind? s.hlk.serving k = none ∧ s.stoObj (stoParam x).obj = some o ∧ getBytes o (stoParam x).pos (stoParam x).len = .ok
      d) ∧
    (∃ s : State, ∃ j : NandJob, ∃ b : Nat, ∃ k : Nat, s.Up ∧ s.coreUp 0 = true ∧ s.sto.asks = [] ∧ s.sto.waits = [] ∧
      s.sto.durable = [] ∧ b = j.block ∧ s.sto.jobs = [j] ∧ j.what = .read k 1 ∧ j.attempt < s.sto.retryLevels) ∧
    (∃ s : State, ∃ j : NandJob, ∃ b : Nat, ∃ c : Nat, s.Up ∧ s.coreUp 0 = true ∧ s.sto.asks = [] ∧ s.sto.waits = [] ∧
      s.sto.durable = [] ∧ b = j.block ∧ s.mode ≠ Mode.MINIMAL ∧ s.fld Reg.STO_CFG 8 8 = 0 ∧ tfind? s.sto.bufClk 8 = some c ∧
      c + 1000 * msClk ≤ s.clk ∧ tget (fun _ => []) s.sto.buffer 8 ≠ [] ∧ s.takingBlock 4 (fun k => k / 8 == 0 && s.lunUsable
      (k / 8) (k % 8)) = some b) ∧
    (∃ s : State, ∃ j : NandJob, ∃ b : Nat, s.Up ∧ s.coreUp 0 = true ∧ s.sto.asks = [] ∧ s.sto.waits = [] ∧ s.sto.durable = []
      ∧ b = j.block ∧ s.flag Reg.STO_STAT 0 = true ∧ s.en Blk.STO = true ∧ s.validBytes b ≠ 0 ∧ (s.nblock b).day + s.scrubDays
      ≤ s.today ∧ s.sto.jobs = []) ∧
    (∃ s : State, ∃ j : NandJob, ∃ b : Nat, s.Up ∧ s.coreUp 0 = true ∧ s.sto.asks = [] ∧ s.sto.waits = [] ∧ s.sto.durable = []
      ∧ b = j.block ∧ s.mode ≠ Mode.MINIMAL ∧ s.en Blk.STO = true ∧ s.sto.jobs = [] ∧ s.validBytes b = 0 ∧ (s.nblock b).st =
      .closed ∧ (s.nblock b).worn = true) ∧
    (∃ s : State, ∃ j : NandJob, ∃ b : Nat, ∃ q : Nat, s.Up ∧ s.coreUp 0 = true ∧ s.sto.asks = [] ∧ s.sto.waits = [] ∧
      s.sto.durable = [] ∧ b = j.block ∧ s.mode ≠ Mode.MINIMAL ∧ s.en Blk.STO = true ∧ s.sto.jobs = [] ∧ s.validBytes b = 0 ∧
      (s.nblock b).st = .closed ∧ q < 2 ∧ s.sto.blocks = [(b, s.nblock b)] ∧ (s.nblock b).pool = q ∧ 0 < s.blockBytes q ∧ 100
      * s.num (Reg.STO_PLq_FREE q) < s.gcFree) ∧
    (∃ s : State, ∃ j : NandJob, ∃ b : Nat, ∃ q : Nat, ∃ c : Nat, s.Up ∧ s.coreUp 0 = true ∧ s.sto.asks = [] ∧ s.sto.waits =
      [] ∧ s.sto.durable = [] ∧ b = j.block ∧ q < 2 ∧ s.mode ≠ Mode.MINIMAL ∧ s.en Blk.STO = true ∧ s.sto.jobs = [] ∧ b < c ∧
      s.sto.blocks = [(b, s.nblock b), (c, s.nblock c)] ∧ (s.nblock b).pool = q ∧ (s.nblock c).pool = q ∧ (s.nblock b).st =
      .closed ∧ (s.nblock c).st = .free ∧ s.validBytes b ≠ 0 ∧ s.num (Reg.STO_PLq_EC_MIN q) + 200 < s.num (Reg.STO_PLq_EC_MAX
      q)) ∧
    (∃ s : State, ∃ j : NandJob, ∃ b : Nat, ∃ m : Nat, ∃ id : Nat, ∃ d : List Byte, ∃ o : StoObj, s.Up ∧ s.coreUp 0 = true ∧
      s.sto.asks = [] ∧ s.sto.waits = [] ∧ s.sto.durable = [] ∧ b = j.block ∧ s.stoPeer = some m ∧ s.peerUp = true ∧ s.mode ≠
      Mode.MINIMAL ∧ s.sto.unrep = [id] ∧ s.sto.writes = [] ∧ s.stoObj id = some o ∧ o.body = .whole d [] [] ∧ d.length ≤
      1416) :=
  ⟨⟨s1, j1, ((j1).block), 3, w1, by unfold State.Up; decide +kernel⟩,
   ⟨j b [j2], j2, ((j2).block), by unfold State.Up; decide +kernel⟩,
   ⟨j b [j2], j2, ((j2).block), by unfold State.Up; decide +kernel⟩,
   ⟨s3, j3, ((j3).block), 3, ((s3).slot (3)), wv0, wv1, by unfold State.Up; decide +kernel, by decide +kernel, by
     decide +kernel, by decide +kernel, by decide +kernel, rfl, by decide +kernel, by decide +kernel, by decide +kernel, by
     decide +kernel, rfl, by decide +kernel, by decide +kernel, by decide +kernel, (Option.some_get _).symm, by
     decide +kernel⟩,
   ⟨s3, j3, ((j3).block), 3, by unfold State.Up; decide +kernel⟩,
   ⟨s4, j1, ((j1).block), wv2, by unfold State.Up; decide +kernel, by decide +kernel, by decide +kernel, by decide +kernel, by
     decide +kernel, rfl, by decide +kernel, by decide +kernel, (Option.some_get _).symm, by decide +kernel, by
     decide +kernel, by decide +kernel⟩,
   ⟨s5, j1, ((j1).block), by unfold State.Up; decide +kernel⟩,
   ⟨s6, j1, ((j1).block), by unfold State.Up; decide +kernel⟩,
   ⟨{s5 with sto := {s5.sto with objs := []}}, j1, ((j1).block), 0, by unfold State.Up; decide +kernel⟩,
   ⟨s7b, j1, ((j1).block), 0, 4, by unfold State.Up; decide +kernel⟩,
   ⟨s8, j1, ((j1).block), wv3, oid, [1,2,3], wv4, by unfold State.Up; decide +kernel, by decide +kernel, by decide +kernel, by
     decide +kernel, by decide +kernel, rfl, (Option.some_get _).symm, by decide +kernel, by decide +kernel, by
     decide +kernel, by decide +kernel, (Option.some_get _).symm, by decide +kernel, by decide +kernel⟩⟩
end NandWork

end EmuSto

/-! ### Hlk -/

namespace Hlk

namespace MembersComeAndGo
def f1 : LinkFrame := ⟨7,0x20,true,[1,2],[3],5⟩
def w3 : State := pr wk 3 {Peer.fresh with rxStart := some 4, hbClk := some 0}
def jn (s : State) : State := s.setNum64 (Reg.HLK_MBm_UID_LO 9) 4444
def up3 (s : State) : State := st2 s 3 2
def h3 : LinkHdr := {hh with src := 3}
def dn (s : State) : State := {s with arb := {s.arb with coreDown := true}, sup := {s.sup with wdt1 := [5]}, hlk := {s.hlk with told := some [1,2,3,4,5,6,7,8]}}
def Ss : List State := [dn wk, st2 (jn mg) 9 3, wk, up3 w3, pr wk 9 {p9 with unacked := [f1]}, pr wk 9 {p9 with rxTop := 80}, jn mg, mg, st2 (mg) 9 5, jn (st2 mg 9 1), st2 wk 9 1, wk.setFld Reg.SUP_MODE 0 2 Mode.STARTING |>.setFld Reg.SUP_MODE 4 4 8, {st2 wk 9 1 with hlk := {wk.hlk with joinClk := 0}, clk := 1000*msClk}, st2 mg 9 2]
def Hs : List LinkHdr := [hh, h3, {hh with ack := 7, seq := 0}]
def wv0 : State := ((Ss : List (State))[0]?).get (by decide +kernel)
def wv1 : LinkHdr := ((Hs : List (LinkHdr))[0]?).get (by decide +kernel)
def wv2 : State := ((Ss : List (State))[3]?).get (by decide +kernel)
def wv3 : LinkHdr := ((Hs : List (LinkHdr))[1]?).get (by decide +kernel)
def wv4 : Nat := ((wv2.peer (3)).hbClk).get (by decide +kernel)
def wv5 : State := ((Ss : List (State))[4]?).get (by decide +kernel)
def wv6 : LinkHdr := ((Hs : List (LinkHdr))[2]?).get (by decide +kernel)
def wv7 : State := ((Ss : List (State))[5]?).get (by decide +kernel)
def wv8 : State := ((Ss : List (State))[6]?).get (by decide +kernel)
def wv9 : State := ((Ss : List (State))[7]?).get (by decide +kernel)
def wv10 : State := ((Ss : List (State))[1]?).get (by decide +kernel)
def wv11 : State := ((Ss : List (State))[2]?).get (by decide +kernel)
def wv12 : State := ((Ss : List (State))[11]?).get (by decide +kernel)
def wv13 : State := ((Ss : List (State))[12]?).get (by decide +kernel)
def wv14 : State := ((Ss : List (State))[13]?).get (by decide +kernel)
/-- A state and operands for each clause of `MembersAndManager`. -/
theorem witness_MembersComeAndGo_0 :
    (∃ s : State, ∃ n : Nat, ∃ l : List Nat, s.Up ∧ n = (s.tb 2).time / (100000000 * nsUnit) ∧ s.hlk.hbSent ≠ some n ∧ (s.tb
      2).time % (100000000 * nsUnit) ≤ 1000000 * nsUnit ∧ s.linkOpen = true ∧ l = (if s.coreUp 1 then s.hbTold else
      s.hlk.told.getD []) ∧ (s.coreUp 1 = false → s.hlk.told.isSome = true)) ∧
    (∃ s : State, s.Up) ∧
    (∃ s : State, ∃ h : LinkHdr, s.Up ∧ s.linkOpen = true ∧ h.src ≤ 63 ∧ h.src ≠ s.sup.moduleNum ∧ (s.peer h.src).admits h =
      true ∧ s.coreUp 1 = false ∧ s.coreRestarts 1 = true ∧ s.coreWait = []) ∧
    (∃ s : State, ∃ h : LinkHdr, s.Up ∧ s.Takes h ∧ s.isManager = false ∧ h.src ≠ s.manager ∧ 8 / 4 % 4 ≠ 1 ∧ s.memSt h.src =
      2 ∧ bitOf 5 1 = false) ∧
    (∃ s : State, ∃ m : Nat, ∃ c : Nat, s.Up ∧ s.Alone ∧ s.linkOpen = true ∧ m ≤ 63 ∧ s.memSt m = 2 ∧ (s.peer m).hbClk = some
      c ∧ c + lossClk ≤ s.clk ∧ s.isManager = false ∧ m ≠ s.manager ∧ (s.peer m).unacked = [] ∧ s.hlk.imports = [] ∧
      s.hlk.hosted = [] ∧ s.scn.lanes = [] ∧ s.scn.remote = [] ∧ s.stoPeer ≠ some m) ∧
    (∃ s : State, s.Up ∧ s.linkOpen = true) ∧
    (∃ s : State, ∃ ok : Bool, ∃ ver : Nat, ∃ type : Nat, ∃ len : Nat, s.Up ∧ (ok = false ∨ ver ≠ 1 ∨ type = 0x06 ∨ (type =
      0x01 ∧ len < 52))) ∧
    (∃ s : State, ∃ h : LinkHdr, s.Up ∧ badFrame h.tagOk h.ver h.type h.len = true) ∧
    (∃ s : State, ∃ m : Nat, ∃ f : LinkFrame, s.Up ∧ s.coreUp 1 = true ∧ s.linkOpen = true ∧ (s.peer m).unacked = [f] ∧ f.sent
      + s.rtxClk ≤ s.clk) ∧
    (∃ s : State, ∃ h : LinkHdr, ∃ f : LinkFrame, s.Up ∧ s.Takes h ∧ (s.peer h.src).unacked = [f] ∧ f.seq ≤ h.ack) ∧
    (∃ s : State, ∃ h : LinkHdr, s.Up ∧ s.linkOpen = true ∧ h.src ≤ 63 ∧ h.src ≠ s.sup.moduleNum ∧ s.arb.coreDown = false ∧
      (s.peer h.src).admits h = false) ∧
    (∃ s : State, ∃ h : LinkHdr, s.Up ∧ s.Takes h ∧ s.isManager = true ∧ s.joinCode h.src 33 4444 = (s.joinCode h.src 33 4444)
      ∧ s.memSt h.src ≠ 2 ∧ s.memSt h.src ≠ 4 ∧ s.hlk.infos = [] ∧ (s.joinCode h.src 33 4444) = 0 ∧ s.memSt h.src ≠ 3) ∧
    (∃ s : State, ∃ h : LinkHdr, s.Up ∧ s.Takes h ∧ s.isManager = true ∧ s.joinCode h.src 33 4444 = (s.joinCode h.src 33 4444)
      ∧ s.memSt h.src ≠ 2 ∧ s.memSt h.src ≠ 4 ∧ s.hlk.infos = [] ∧ (s.joinCode h.src 33 4444) ≠ 0) :=
  ⟨⟨wv0, ((wv0.tb 2).time / (100000000 * nsUnit)), ((if wv0.coreUp 1 then wv0.hbTold else wv0.hlk.told.getD [])),
     by unfold State.Up; decide +kernel⟩,
   ⟨wv0, by unfold State.Up; decide +kernel⟩,
   ⟨wv0, wv1, by unfold State.Up; decide +kernel⟩,
   ⟨wv2, wv3, by unfold State.Up State.Takes; decide +kernel⟩,
   ⟨wv2, 3, wv4, by unfold State.Up; decide +kernel, by unfold State.Alone; decide +kernel, by decide +kernel, by
     decide +kernel, by decide +kernel, (Option.some_get _).symm, by decide +kernel, by decide +kernel, by decide +kernel, by
     decide +kernel, by decide +kernel, by decide +kernel, by decide +kernel, by decide +kernel, by decide +kernel⟩,
   ⟨wv0, by unfold State.Up; decide +kernel⟩,
   ⟨wv0, true, 3, 3, 3, by unfold State.Up; decide +kernel⟩,
   ⟨wv0, { hh with tagOk := false }, by unfold State.Up; decide +kernel⟩,
   ⟨wv5, 9, f1, by unfold State.Up; decide +kernel⟩,
   ⟨wv5, wv6, f1, by unfold State.Up State.Takes; decide +kernel⟩,
   ⟨wv7, wv1, by unfold State.Up; decide +kernel⟩,
   ⟨wv8, wv1, by unfold State.Up State.Takes; decide +kernel⟩,
   ⟨wv9, wv1, by unfold State.Up State.Takes; decide +kernel⟩⟩
/-- A state and operands for each clause of `MembersAndManager`. -/
theorem witness_MembersComeAndGo_1 :
    (∃ s : State, ∃ h : LinkHdr, s.Up ∧ s.Takes h ∧ s.isManager = true ∧ s.joinCode h.src 33 4444 = 0 ∧ s.memSt h.src = 3 ∧
      s.heard h.src = false ∧ s.hlk.infos = []) ∧
    (∃ s : State, ∃ h : LinkHdr, s.Up ∧ s.Takes h ∧ s.isManager = false ∧ h.src = s.manager ∧ s.joinWaits = false ∧ s.sto.objs
      = []) ∧
    (∃ s : State, s.Up ∧ s.joinWaits = true ∧ s.flag Reg.HLK_STAT 10 = false) ∧
    (∃ s : State, s.Up ∧ s.joinWaits = true ∧ s.flag Reg.HLK_STAT 10 = false ∧ s.latSt = LatSt.RESET) ∧
    (∃ s : State, s.Up ∧ s.coreUp 1 = true ∧ s.linkOpen = true ∧ s.isManager = false ∧ s.flag Reg.HLK_STAT 10 = false ∧
      s.hlk.joinClk + 1000 * msClk ≤ s.clk ∧ s.memSt s.manager ≠ 2) ∧
    (∃ s : State, ∃ h : LinkHdr, s.Up ∧ s.TakesNext h ∧ s.isManager = true ∧ s.memSt h.src = 2 ∧ (s.peer h.src).unacked = [] ∧
      s.hlk.infos = [] ∧ s.hlk.imports = [] ∧ s.hlk.hosted = [] ∧ s.scn.lanes = [] ∧ s.scn.remote = [] ∧ s.stoPeer ≠ some
      h.src) ∧
    (∃ s : State, s.Up ∧ s.Alone ∧ s.linkOpen = true ∧ s.isManager = false ∧ s.mgrSeen = false ∧ 2 * (s.others.filter
      s.heard).length ≤ s.others.length ∧ s.hlk.hosted = [] ∧ s.flag Reg.HLK_STAT 11 = false) :=
  ⟨⟨wv10, wv1, by unfold State.Up State.Takes; decide +kernel⟩,
   ⟨wv11, wv1, by unfold State.Up State.Takes; decide +kernel⟩,
   ⟨wv12, by unfold State.Up; decide +kernel⟩,
   ⟨wv12, by unfold State.Up; decide +kernel⟩,
   ⟨wv13, by unfold State.Up; decide +kernel⟩,
   ⟨wv14, wv1, by unfold State.Up State.TakesNext State.Takes; decide +kernel⟩,
   ⟨wv0, by unfold State.Up State.Alone; decide +kernel⟩⟩
end MembersComeAndGo

namespace ManagerRoleMoves
def x6 : Slot := mkOp Blk.HLK 6 0 []
def cf (s : State) : State := (s.setFlag Reg.HLK_CFG 30 true).setFld Reg.HLK_CFG 24 6 9 |>.setFld Reg.HLK_CFG 16 6 3
def tk (s : State) : State := {(st2 (s.setFld Reg.HLK_STAT 8 2 3 |>.setFlag Reg.HLK_STAT 12 true |>.setNum Reg.HLK_TERM 0xFFFFFFFF |>.setFld Reg.HLK_STAT 16 6 9) 9 3) with hlk := {s.hlk with tkSince := some s.clk}}
def t1 : State := pr (st2 (tk wk) 4 2) 4 {Peer.fresh with hbClk := some wk.clk}
def t2 : State := {st2 (tk wk) 4 2 with clk := 600*msClk + wk.clk}
def Ss : List State := [cf wk, (cf wk).setFld Reg.HLK_STAT 16 6 3, t1, t2, withOp wk 3 x6, withOp (cf mg) 3 x6, withOp (st2 (cf mg) 3 2) 3 x6]
def wv0 : State := ((Ss : List (State))[0]?).get (by decide +kernel)
def wv1 : State := ((Ss : List (State))[2]?).get (by decide +kernel)
def wv2 : Nat := (wv1.hlk.tkSince).get (by decide +kernel)
def wv3 : State := ((Ss : List (State))[3]?).get (by decide +kernel)
def wv4 : Nat := (wv3.hlk.tkSince).get (by decide +kernel)
def wv5 : State := ((Ss : List (State))[4]?).get (by decide +kernel)
def wv6 : Slot := (wv5.activeOp (3) Blk.HLK 6).get (by decide +kernel)
def wv7 : State := ((Ss : List (State))[5]?).get (by decide +kernel)
def wv8 : Slot := (wv7.activeOp (3) Blk.HLK 6).get (by decide +kernel)
def wv9 : State := ((Ss : List (State))[6]?).get (by decide +kernel)
def wv10 : Slot := (wv9.activeOp (3) Blk.HLK 6).get (by decide +kernel)
/-- A state and operands for each clause of `MembersAndManager`. -/
theorem witness_ManagerRoleMoves :
    (∃ s : State, ∃ h : LinkHdr, s.Up ∧ s.Takes h ∧ s.isManager = false ∧ s.flag Reg.HLK_CFG 30 = true ∧ h.src = s.fld
      Reg.HLK_CFG 24 6 ∧ s.num Reg.HLK_TERM < 6 ∧ 3 ≠ h.src) ∧
    (∃ s : State, ∃ h : LinkHdr, s.Up ∧ s.Takes h ∧ 5 ≤ s.num Reg.HLK_TERM) ∧
    (∃ s : State, ∃ m : Nat, ∃ c : Nat, s.Up ∧ s.coreUp 1 = true ∧ s.hlk.tkSince = some c ∧ s.linkOpen = true ∧ s.fld
      Reg.HLK_STAT 8 2 = 3 ∧ s.flag Reg.HLK_STAT 12 = true ∧ s.mode = Mode.RUN ∧ s.memSt s.manager = 3 ∧ s.heard s.manager =
      false ∧ s.majority c = true ∧ s.clk ≤ c + s.takeoverWait ∧ s.hlk.infos = [] ∧ s.others.filter s.memberUp = [m] ∧
      s.sup.moduleNum < 64) ∧
    (∃ s : State, ∃ c : Nat, s.Up ∧ s.Alone ∧ s.coreUp 1 = true ∧ s.hlk.tkSince = some c ∧ c + s.takeoverWait ≤ s.clk ∧
      s.majority c = false) ∧
    (∃ s : State, ∃ k : Nat, ∃ x : Slot, s.Up ∧ tfind? s.hlk.serving k = none ∧ s.activeOp k Blk.HLK 6 = some x ∧
      s.hlk.asked.contains x.ord = false ∧ s.isManager = false) ∧
    (∃ s : State, ∃ k : Nat, ∃ m : Nat, ∃ x : Slot, s.Up ∧ tfind? s.hlk.serving k = none ∧ s.activeOp k Blk.HLK 6 = some x ∧
      s.hlk.asked.contains x.ord = false ∧ s.isManager = true ∧ s.sup.roleStrap ≠ 0 ∧ x.ctx = 0 ∧ m = s.fld Reg.HLK_CFG 16 6 ∧
      s.linkOpen = true ∧ s.memberUp m = false) ∧
    (∃ s : State, ∃ k : Nat, ∃ m : Nat, ∃ x : Slot, s.Up ∧ tfind? s.hlk.serving k = none ∧ s.activeOp k Blk.HLK 6 = some x ∧
      s.hlk.asked.contains x.ord = false ∧ s.isManager = true ∧ s.sup.roleStrap ≠ 0 ∧ x.ctx = 0 ∧ m = s.fld Reg.HLK_CFG 16 6 ∧
      s.linkOpen = true ∧ s.others.filter s.memberUp = [m]) :=
  ⟨⟨wv0, hh, by unfold State.Up State.Takes; decide +kernel⟩,
   ⟨wv0, hh, by unfold State.Up State.Takes; decide +kernel⟩,
   ⟨wv1, 4, wv2, by unfold State.Up; decide +kernel, by decide +kernel, (Option.some_get _).symm, by decide +kernel, by
     decide +kernel, by decide +kernel, by decide +kernel, by decide +kernel, by decide +kernel, by decide +kernel, by
     decide +kernel, by decide +kernel, by decide +kernel, by decide +kernel⟩,
   ⟨wv3, wv4, by unfold State.Up; decide +kernel, by unfold State.Alone; decide +kernel, by decide +kernel, (Option.some_get
     _).symm, by decide +kernel, by decide +kernel⟩,
   ⟨wv5, 3, wv6, by unfold State.Up; decide +kernel, by decide +kernel, (Option.some_get _).symm, by decide +kernel, by
     decide +kernel⟩,
   ⟨wv7, 3, 3, wv8, by unfold State.Up; decide +kernel, by decide +kernel, (Option.some_get _).symm, by decide +kernel, by
     decide +kernel, by decide +kernel, by decide +kernel, by decide +kernel, by decide +kernel, by decide +kernel⟩,
   ⟨wv9, 3, 3, wv10, by unfold State.Up; decide +kernel, by decide +kernel, (Option.some_get _).symm, by decide +kernel, by
     decide +kernel, by decide +kernel, by decide +kernel, by decide +kernel, by decide +kernel, by decide +kernel⟩⟩
end ManagerRoleMoves

namespace PointsAcrossModules
def im : ImportSet := ⟨9,3,2,[(40,7)],0,false⟩
def ex : ExportSet := ⟨3,1,false,[7],[],8,none,[]⟩
def us : UnitSub := ⟨9,5,[7],4,none,[]⟩
def wr : RemoteWrite := ⟨3,5,1,0,.module 9,70007,2,5,some 3,.handed,0⟩
def pt (p : Producer) (s : State) : State := {(s.setNum Reg.LCP_PT_BASE 0xFFFFFFFF).setNum Reg.LCP_GRP_BASE 0xFFFFFFFF with points := [(7,⟨0,Q.GOOD,2,0,0,p,false⟩)]}
def hk (s : State) (f : Hlk → Hlk) : State := {s with hlk := f s.hlk}
def ops (g : Nat) : Slot := mkOp Blk.HLK 1 0 [(0,4,g),(8,8,0x4000)]
def mgd (s : State) : State := hk (pt .host s) fun h => {h with dir := [(2*65536+7, 2),(9*65536+8,3)], mirror := [(9*65536+8,(77,0,3,5))]}
def Ss : List State := [hk (pt .host wk |>.setFld Reg.HLK_STAT 16 6 4) fun h => {h with imports := [im]}, pt .host wk, pt (.module 9) wk, {withOp wk 3 (mkOp Blk.HLK 4 0 []) with scn := {wk.scn with remote := [wr]}}, hk wk (fun h => {h with subs := [us,{us with unit := 6}]}), hk (pt .host wk) (fun h => {h with exports := [ex]}), hk (pt .host wk) (fun h => {h with subs := [us]}), {hk (pt .host wk) (fun h => {h with imports := [im]}) with clk := 10^12}, withOp (mgd mg) 3 (ops 5), withOp (mgd mg) 3 (ops (2*65536+7)), withOp (mgd mg) 3 (ops (9*65536+8)), withOp (st2 (mgd mg) 9 2) 3 (ops (9*65536+8))]
def wv0 : State := ((Ss : List (State))[0]?).get (by decide +kernel)
def wv1 : State := ((Ss : List (State))[2]?).get (by decide +kernel)
def wv2 : State := ((Ss : List (State))[3]?).get (by decide +kernel)
def wv3 : State := ((Ss : List (State))[5]?).get (by decide +kernel)
def wv4 : State := ((Ss : List (State))[6]?).get (by decide +kernel)
def wv5 : State := ((Ss : List (State))[7]?).get (by decide +kernel)
def wv6 : State := ((Ss : List (State))[8]?).get (by decide +kernel)
def wv7 : Slot := (wv6.activeOp (3) Blk.HLK 1).get (by decide +kernel)
def wv8 : State := ((Ss : List (State))[9]?).get (by decide +kernel)
def wv9 : Slot := (wv8.activeOp (3) Blk.HLK 1).get (by decide +kernel)
def wv10 : Nat := (tfind? wv8.hlk.dir ((paramField wv9.param 0 4 % 2 ^ 22))).get (by decide +kernel)
def wv11 : State := ((Ss : List (State))[10]?).get (by decide +kernel)
def wv12 : Slot := (wv11.activeOp (3) Blk.HLK 1).get (by decide +kernel)
def wv13 : Nat := (tfind? wv11.hlk.dir ((paramField wv12.param 0 4 % 2 ^ 22))).get (by decide +kernel)
def wv14 : Dword × Nat × Nat × Word := (tfind? wv11.hlk.mirror ((paramField wv12.param 0 4 % 2 ^ 22))).get (by decide +kernel)
/-- A state and operands for each clause of `PointsAcrossModules`. -/
theorem witness_PointsAcrossModules :
    (∃ s : State, ∃ h : LinkHdr, ∃ x : ImportSet, s.Up ∧ s.Takes h ∧ s.isManager = false ∧ s.hlk.imports = [x] ∧ x.src = h.src
      ∧ x.set = 3 ∧ Q.known 0 = true ∧ 3 ≠ 0xFFFF ∧ x.map = [(40, 7)] ∧ s.copiesOf 7 = [] ∧ (s.point 7).type ≠ PtType.NONE ∧
      (s.point 7).forced = false ∧ s.pointNote 7 = none) ∧
    (∃ s : State, ∃ h : LinkHdr, s.Up ∧ s.TakesNext h ∧ (s.point 7).producer ≠ .module h.src) ∧
    (∃ s : State, ∃ h : LinkHdr, s.Up ∧ s.TakesNext h ∧ (s.point 7).producer = .module h.src ∧ s.blockMay 0 7 1 = true ∧ 2 =
      (s.point 7).type ∧ 2 ≠ PtType.NONE ∧ (s.point 7).forced = false ∧ s.pointNote 7 = none ∧ s.copiesOf 7 = [] ∧
      s.overrideOf 7 = none ∧ s.lcpPoint 7 = false ∧ tfind? s.fbc.outMap 7 = none) ∧
    (∃ s : State, ∃ h : LinkHdr, ∃ w : RemoteWrite, s.Up ∧ s.Takes h ∧ s.scn.remote = [w] ∧ w.station = .module h.src ∧
      w.phase = .handed ∧ w.tag = some 3 ∧ (s.slot 3).st = .active ∧ (s.slot 3).block ≠ Blk.STO ∧ tfind? s.hlk.serving 3 =
      none) ∧
    (∃ s : State, ∃ h : LinkHdr, s.Up ∧ s.TakesNext h ∧ s.hlk.subs = []) ∧
    (∃ s : State, ∃ h : LinkHdr, s.Up ∧ s.TakesNext h) ∧
    (∃ s : State, ∃ x : ExportSet, s.Up ∧ s.coreUp 1 = true ∧ s.linkOpen = true ∧ s.chain % 65536 = 0 ∧ s.hlk.exports = [x] ∧
      x.set = 3 ∧ 3 ≠ 0xFFFF ∧ x.cycle ≠ some (s.chain / 65536) ∧ s.chain / 65536 % Nat.max 1 x.period = 0 ∧ x.subs = [] ∧
      s.manager ≠ s.sup.moduleNum) ∧
    (∃ s : State, ∃ y : UnitSub, s.Up ∧ s.coreUp 1 = true ∧ s.linkOpen = true ∧ s.chain % 65536 = 0 ∧ s.hlk.subs = [y] ∧
      y.unit = 5 ∧ y.dst = 9 ∧ y.idxs ≠ [] ∧ y.idxs.length ≤ 118 ∧ y.cycle ≠ some (s.chain / 65536)) ∧
    (∃ s : State, ∃ x : ImportSet, s.Up ∧ s.Alone ∧ s.coreUp 1 = true ∧ s.hlk.imports = [x] ∧ x.map = [(40, 7)] ∧ x.stale =
      false ∧ x.clk + 3 * x.period * s.nominalClk + lossClk ≤ s.clk ∧ s.copiesOf 7 = [] ∧ (s.point 7).type ≠ PtType.NONE ∧
      (s.point 7).forced = false ∧ s.pointNote 7 = none) ∧
    (∃ s : State, ∃ k : Nat, ∃ x : Slot, ∃ g : Nat, s.Up ∧ tfind? s.hlk.serving k = none ∧ s.activeOp k Blk.HLK 1 = some x ∧
      s.hlk.asked.contains x.ord = false ∧ s.isManager = true ∧ s.sup.roleStrap ≠ 0 ∧ g = paramField x.param 0 4 % 2 ^ 22 ∧
      tfind? s.hlk.dir g = none) ∧
    (∃ s : State, ∃ k : Nat, ∃ x : Slot, ∃ g : Nat, ∃ dc : Nat, s.Up ∧ tfind? s.hlk.serving k = none ∧ s.activeOp k Blk.HLK 1
      = some x ∧ s.hlk.asked.contains x.ord = false ∧ s.isManager = true ∧ s.sup.roleStrap ≠ 0 ∧ g = paramField x.param 0 4 %
      2 ^ 22 ∧ tfind? s.hlk.dir g = some dc ∧ g / 65536 = s.sup.moduleNum ∧ s.hostMayRead x.ctx (g % 65536) = true) ∧
    (∃ s : State, ∃ k : Nat, ∃ x : Slot, ∃ g : Nat, ∃ dc : Nat, ∃ mm : Dword × Nat × Nat × Word, s.Up ∧ tfind? s.hlk.serving k
      = none ∧ s.activeOp k Blk.HLK 1 = some x ∧ s.hlk.asked.contains x.ord = false ∧ s.isManager = true ∧ s.sup.roleStrap ≠ 0
      ∧ g = paramField x.param 0 4 % 2 ^ 22 ∧ tfind? s.hlk.dir g = some dc ∧ g / 65536 ≠ s.sup.moduleNum ∧ x.ctx = 0 ∧ dc /
      256 = 0 ∧ tfind? s.hlk.mirror g = some mm) :=
  ⟨⟨wv0, hh, im, by unfold State.Up State.Takes; decide +kernel⟩,
   ⟨wv0, hh, by unfold State.Up State.TakesNext State.Takes; decide +kernel⟩,
   ⟨wv1, hh, by unfold State.Up State.TakesNext State.Takes; decide +kernel⟩,
   ⟨wv2, hh, wr, by unfold State.Up State.Takes; decide +kernel⟩,
   ⟨wv0, hh, by unfold State.Up State.TakesNext State.Takes; decide +kernel⟩,
   ⟨wv0, hh, by unfold State.Up State.TakesNext State.Takes; decide +kernel⟩,
   ⟨wv3, ex, by unfold State.Up; decide +kernel⟩,
   ⟨wv4, us, by unfold State.Up; decide +kernel⟩,
   ⟨wv5, im, by unfold State.Up State.Alone; decide +kernel⟩,
   ⟨wv6, 3, wv7, (paramField wv7.param 0 4 % 2 ^ 22), by unfold State.Up; decide +kernel, by decide +kernel, (Option.some_get
     _).symm, by decide +kernel, by decide +kernel, by decide +kernel, rfl, by decide +kernel⟩,
   ⟨wv8, 3, wv9, (paramField wv9.param 0 4 % 2 ^ 22), wv10, by unfold State.Up; decide +kernel, by decide +kernel,
     (Option.some_get _).symm, by decide +kernel, by decide +kernel, by decide +kernel, rfl, (Option.some_get _).symm, by
     decide +kernel, by decide +kernel⟩,
   ⟨wv11, 3, wv12, (paramField wv12.param 0 4 % 2 ^ 22), wv13, wv14, by unfold State.Up; decide +kernel, by decide +kernel,
     (Option.some_get _).symm, by decide +kernel, by decide +kernel, by decide +kernel, rfl, (Option.some_get _).symm, by
     decide +kernel, by decide +kernel, by decide +kernel, (Option.some_get _).symm⟩⟩
end PointsAcrossModules

namespace OperationsForOtherModules
def x4 : Slot := mkOp Blk.HLK 4 0 [(0,1,9),(1,1,3)]
def x5 : Slot := mkOp Blk.HLK 5 0 [(0,1,9),(1,1,1),(4,4,5000)]
def e (s : State) : State := (s.setFlag (Reg.CTRL Blk.LAT) 0 true).setFlag (Reg.CTRL Blk.ARB) 0 true
def Ss : List State := [wk, wk.setFld Reg.HLK_STAT 16 6 4, e wk, withOp wk 3 x4, withOp wk 3 x5, withOp mg 3 x4, withOp mg 3 x5, withOp (st2 mg 9 4) 3 x5, withOp (st2 mg 9 2) 3 x4, withOp (st2 mg 9 2) 3 x5]
def wv0 : State := ((Ss : List (State))[1]?).get (by decide +kernel)
def wv1 : State := ((Ss : List (State))[2]?).get (by decide +kernel)
def wv2 : Nat := (wv1.freeTag).get (by decide +kernel)
def wv3 : State := ((Ss : List (State))[3]?).get (by decide +kernel)
def wv4 : Slot := (wv3.activeOp (3) Blk.HLK (4)).get (by decide +kernel)
def wv5 : State := ((Ss : List (State))[5]?).get (by decide +kernel)
def wv6 : Slot := (wv5.activeOp (3) Blk.HLK (4)).get (by decide +kernel)
def wv7 : State := ((Ss : List (State))[8]?).get (by decide +kernel)
def wv8 : Slot := (wv7.activeOp (3) Blk.HLK (4)).get (by decide +kernel)
def wv9 : State := ((Ss : List (State))[9]?).get (by decide +kernel)
def wv10 : Slot := (wv9.activeOp (3) Blk.HLK (5)).get (by decide +kernel)
/-- A state and operands for each clause of `OperationsForOtherModules`. -/
theorem witness_OperationsForOtherModules :
    (∃ s : State, ∃ h : LinkHdr, s.Up ∧ s.TakesNext h ∧ h.src ≠ s.manager ∧ (s.peer h.src).unacked = []) ∧
    (∃ s : State, ∃ h : LinkHdr, ∃ k : Nat, s.Up ∧ s.TakesNext h ∧ h.src = s.manager ∧ s.isManager = false ∧ s.freeTag = some
      k ∧ s.blockRefusal Blk.LAT 4 = none) ∧
    (∃ s : State, ∃ h : LinkHdr, s.Up ∧ s.TakesNext h ∧ h.src ≠ s.manager ∧ (s.peer h.src).unacked = []) ∧
    (∃ s : State, ∃ h : LinkHdr, ∃ k : Nat, s.Up ∧ s.TakesNext h ∧ h.src = s.manager ∧ s.isManager = false ∧ s.freeTag = some
      k ∧ s.blockRefusal Blk.ARB 1 = none) ∧
    (∃ s : State, ∃ h : LinkHdr, s.Up ∧ s.TakesNext h ∧ 3 < 512 ∧ (s.slot 3).st = .active ∧ (s.slot 3).block = Blk.HLK ∧
      ((s.slot 3).opcode = 4 ∨ (s.slot 3).opcode = 5) ∧ tfind? s.hlk.serving 3 = none) ∧
    (∃ s : State, ∃ k : Nat, ∃ e : Nat, ∃ x : Slot, ∃ m : Nat, s.Up ∧ tfind? s.hlk.serving k = none ∧ (e = 4 ∨ e = 5) ∧
      s.activeOp k Blk.HLK e = some x ∧ s.hlk.asked.contains x.ord = false ∧ m = paramField x.param 0 1 ∧ s.isManager = false) ∧
    (∃ s : State, ∃ k : Nat, ∃ e : Nat, ∃ x : Slot, ∃ m : Nat, s.Up ∧ tfind? s.hlk.serving k = none ∧ (e = 4 ∨ e = 5) ∧
      s.activeOp k Blk.HLK e = some x ∧ s.hlk.asked.contains x.ord = false ∧ m = paramField x.param 0 1 ∧ s.isManager = true ∧
      s.sup.roleStrap ≠ 0 ∧ x.ctx = 0 ∧ m ≤ 63 ∧ s.memSt m ≠ 2) ∧
    (∃ s : State, ∃ k : Nat, ∃ e : Nat, ∃ x : Slot, ∃ m : Nat, s.Up ∧ tfind? s.hlk.serving k = none ∧ (e = 4 ∨ e = 5) ∧
      s.activeOp k Blk.HLK e = some x ∧ s.hlk.asked.contains x.ord = false ∧ m = paramField x.param 0 1 ∧ s.isManager = true ∧
      s.sup.roleStrap ≠ 0 ∧ x.ctx = 0 ∧ m ≤ 63 ∧ s.memSt m = 2 ∧ s.linkOpen = true ∧ (s.peer m).unacked.length < 64 ∧ e = 4) ∧
    (∃ s : State, ∃ k : Nat, ∃ e : Nat, ∃ x : Slot, ∃ m : Nat, s.Up ∧ tfind? s.hlk.serving k = none ∧ (e = 4 ∨ e = 5) ∧
      s.activeOp k Blk.HLK e = some x ∧ s.hlk.asked.contains x.ord = false ∧ m = paramField x.param 0 1 ∧ s.isManager = true ∧
      s.sup.roleStrap ≠ 0 ∧ x.ctx = 0 ∧ m ≤ 63 ∧ s.memSt m = 2 ∧ s.linkOpen = true ∧ (s.peer m).unacked.length < 64 ∧ e = 5) :=
  ⟨⟨wv0, hh, by unfold State.Up State.TakesNext State.Takes; decide +kernel⟩,
   ⟨wv1, hh, wv2, by unfold State.Up; decide +kernel, by unfold State.TakesNext State.Takes; decide +kernel, by
     decide +kernel, by decide +kernel, (Option.some_get _).symm, by decide +kernel⟩,
   ⟨wv0, hh, by unfold State.Up State.TakesNext State.Takes; decide +kernel⟩,
   ⟨wv1, hh, wv2, by unfold State.Up; decide +kernel, by unfold State.TakesNext State.Takes; decide +kernel, by
     decide +kernel, by decide +kernel, (Option.some_get _).symm, by decide +kernel⟩,
   ⟨wv3, hh, by unfold State.Up State.TakesNext State.Takes; decide +kernel⟩,
   ⟨wv3, 3, 4, wv4, (paramField wv4.param 0 1), by unfold State.Up; decide +kernel, by decide +kernel, by decide +kernel,
     (Option.some_get _).symm, by decide +kernel, rfl, by decide +kernel⟩,
   ⟨wv5, 3, 4, wv6, (paramField wv6.param 0 1), by unfold State.Up; decide +kernel, by decide +kernel, by decide +kernel,
     (Option.some_get _).symm, by decide +kernel, rfl, by decide +kernel, by decide +kernel, by decide +kernel, by
     decide +kernel, by decide +kernel⟩,
   ⟨wv7, 3, 4, wv8, (paramField wv8.param 0 1), by unfold State.Up; decide +kernel, by decide +kernel, by decide +kernel,
     (Option.some_get _).symm, by decide +kernel, rfl, by decide +kernel, by decide +kernel, by decide +kernel, by
     decide +kernel, by decide +kernel, by decide +kernel, by decide +kernel, by decide +kernel⟩,
   ⟨wv9, 3, 5, wv10, (paramField wv10.param 0 1), by unfold State.Up; decide +kernel, by decide +kernel, by decide +kernel,
     (Option.some_get _).symm, by decide +kernel, rfl, by decide +kernel, by decide +kernel, by decide +kernel, by
     decide +kernel, by decide +kernel, by decide +kernel, by decide +kernel, by decide +kernel⟩⟩
end OperationsForOtherModules

namespace UnitsMove
def ui : UnitInfo := ⟨0x1234,0,5,[2,9,11],[]⟩
def ho (p : HostPhase) (x : Nat) : Hosted := ⟨0,p,x,7,none,3,0,0⟩
def kb : Bank := {bk [] with tasks := [{te with entry := 0}], insts := [⟨0x1234,0,true,0,none⟩], fbTypes := [⟨0,16,0,0⟩]}
def u (s : State) (rt : TaskRt) (h : List Hosted) : State := {s with lat := {s.lat with pos := 2^32*1000}, tbs := s.tbs.set 2 ⟨(2^32*10^6)*(10^9*77),0⟩, scn := {s.scn with bankA := some kb, tasks := [(5,rt)]}, hlk := {s.hlk with infos := [ui], hosted := h}}
def rw (s : State) (r : UnitRow) : State := {s with hlk := {s.hlk with units := [(0,r)]}}
def r0 : UnitRow := {UnitRow.fresh with host := some 9, st := 3, moveTag := some 3}
def r2 : UnitRow := {UnitRow.fresh with host := some 9, st := 2}
def mv (m : Nat) : Slot := mkOp Blk.HLK 2 0 [(0,4,0x1234),(4,1,m)]
def pn (m : Nat) : Slot := mkOp Blk.HLK 3 0 [(0,4,0x1234),(4,1,m)]
def F := TaskRt.fresh
def mga : State := st2 (st2 (u mg F []) 9 2) 11 2
def sb (s : State) : State := (s.setNum Reg.STO_PEER (64+9))
def Ss : List State := [u wk F [], {withOp (rw (u mg F []) r0) 3 (mv 9) with key := mg.key}, u wk F [ho .running 0], sb (u wk {F with lastStart := some 700} [ho .running 0]), u wk F [ho .bound 1000], (u wk F [ho .running 999]).setTaskSt 5 TaskSt.RUNNING, {u wk F [ho .held 900] with clk := 300*msClk}, withOp (u wk F []) 3 (mv 9), withOp (rw (mga) r2) 3 (mv 12), withOp (rw mga r2) 3 (mv 9), withOp (rw mga r0) 3 (mv 11), withOp (rw mga r2) 3 (mv 11), withOp (rw mga r2) 3 (pn 9), withOp (rw mga r2) 3 (pn 255)]
def wv0 : State := ((Ss : List (State))[0]?).get (by decide +kernel)
def wv1 : Nat := (wv0.unitOf (0x1234)).get (by decide +kernel)
def wv2 : UnitInfo := (wv0.hlk.infos[wv1]?).get (by decide +kernel)
def wv3 : State := ((Ss : List (State))[1]?).get (by decide +kernel)
def wv4 : Nat := (wv3.unitOf (0x1234)).get (by decide +kernel)
def wv5 : UnitInfo := (wv3.hlk.infos[wv4]?).get (by decide +kernel)
def wv6 : State := ((Ss : List (State))[2]?).get (by decide +kernel)
def wv7 : Nat := (wv6.unitOf (0x1234)).get (by decide +kernel)
def wv8 : UnitInfo := (wv6.hlk.infos[wv7]?).get (by decide +kernel)
def wv9 : Hosted := (wv6.hostedAt wv7).get (by decide +kernel)
def wv10 : State := ((Ss : List (State))[3]?).get (by decide +kernel)
def wv11 : Nat := (wv10.unitOf (0x1234)).get (by decide +kernel)
def wv12 : UnitInfo := (wv10.hlk.infos[wv11]?).get (by decide +kernel)
def wv13 : Hosted := (wv10.hostedAt wv11).get (by decide +kernel)
def wv14 : Checkpoint := (wv10.makeCp wv12 wv13).get (by decide +kernel)
def wv15 : State := ((Ss : List (State))[4]?).get (by decide +kernel)
def wv16 : Nat := (wv15.unitOf (0x1234)).get (by decide +kernel)
def wv17 : UnitInfo := (wv15.hlk.infos[wv16]?).get (by decide +kernel)
def wv18 : Hosted := (wv15.hostedAt wv16).get (by decide +kernel)
def wv19 : State := ((Ss : List (State))[5]?).get (by decide +kernel)
def wv20 : Nat := (wv19.unitOf (0x1234)).get (by decide +kernel)
def wv21 : UnitInfo := (wv19.hlk.infos[wv20]?).get (by decide +kernel)
def wv22 : Hosted := (wv19.hostedAt wv20).get (by decide +kernel)
def wv23 : State := ((Ss : List (State))[6]?).get (by decide +kernel)
def wv24 : Nat := (wv23.unitOf (0x1234)).get (by decide +kernel)
def wv25 : UnitInfo := (wv23.hlk.infos[wv24]?).get (by decide +kernel)
def wv26 : Hosted := (wv23.hostedAt wv24).get (by decide +kernel)
def wv27 : State := ((Ss : List (State))[7]?).get (by decide +kernel)
def wv28 : Nat := (wv27.unitOf (0x1234)).get (by decide +kernel)
def wv29 : UnitInfo := (wv27.hlk.infos[wv28]?).get (by decide +kernel)
def wv30 : Slot := (wv27.activeOp (3) Blk.HLK 2).get (by decide +kernel)
def wv31 : Slot := (wv3.activeOp (3) Blk.HLK 2).get (by decide +kernel)
def wv32 : State := ((Ss : List (State))[9]?).get (by decide +kernel)
def wv33 : Nat := (wv32.unitOf (0x1234)).get (by decide +kernel)
def wv34 : UnitInfo := (wv32.hlk.infos[wv33]?).get (by decide +kernel)
def wv35 : Slot := (wv32.activeOp (3) Blk.HLK 2).get (by decide +kernel)
def wv36 : State := ((Ss : List (State))[10]?).get (by decide +kernel)
def wv37 : Nat := (wv36.unitOf (0x1234)).get (by decide +kernel)
def wv38 : UnitInfo := (wv36.hlk.infos[wv37]?).get (by decide +kernel)
def wv39 : Slot := (wv36.activeOp (3) Blk.HLK 2).get (by decide +kernel)
def wv40 : State := ((Ss : List (State))[11]?).get (by decide +kernel)
def wv41 : Nat := (wv40.unitOf (0x1234)).get (by decide +kernel)
def wv42 : UnitInfo := (wv40.hlk.infos[wv41]?).get (by decide +kernel)
def wv43 : Slot := (wv40.activeOp (3) Blk.HLK 2).get (by decide +kernel)
def wv44 : State := ((Ss : List (State))[12]?).get (by decide +kernel)
def wv45 : Nat := (wv44.unitOf (0x1234)).get (by decide +kernel)
def wv46 : UnitInfo := (wv44.hlk.infos[wv45]?).get (by decide +kernel)
def wv47 : Slot := (wv44.activeOp (3) Blk.HLK 3).get (by decide +kernel)
def wv48 : Nat := ((wv44.unitRow wv45).host).get (by decide +kernel)
/-- A state and operands for each clause of `UnitsAndReplicas`. -/
theorem witness_UnitsMove_0 :
    (∃ s : State, ∃ h : LinkHdr, ∃ u : Nat, ∃ j : Nat, ∃ i : UnitInfo, s.Up ∧ s.linkOpen = true ∧ s.unitOf u = some j ∧
      s.hlk.infos[j]? = some i ∧ s.TakesNext h ∧ h.src = s.manager ∧ s.isManager = false ∧ (s.unitRoot i).isSome = true ∧
      s.hostedAt j = none ∧ s.slotsOf i = [] ∧ 900 ≠ 0) ∧
    (∃ s : State, ∃ h : LinkHdr, ∃ u : Nat, ∃ j : Nat, ∃ i : UnitInfo, s.Up ∧ s.linkOpen = true ∧ s.unitOf u = some j ∧
      s.hlk.infos[j]? = some i ∧ s.TakesNext h ∧ h.src = s.manager ∧ s.isManager = false ∧ s.unitOf 999 = none ∧ (s.peer
      h.src).unacked = []) ∧
    (∃ s : State, ∃ h : LinkHdr, ∃ u : Nat, ∃ j : Nat, ∃ i : UnitInfo, s.Up ∧ s.linkOpen = true ∧ s.unitOf u = some j ∧
      s.hlk.infos[j]? = some i ∧ s.TakesNext h ∧ s.isManager = true ∧ (s.unitRow j).host = some h.src ∧ (s.unitRow j).st = 3 ∧
      (s.unitRow j).moveTag = some 3 ∧ (s.slot 3).st = .active ∧ (s.slot 3).block = Blk.HLK ∧ tfind? s.hlk.serving 3 = none) ∧
    (∃ s : State, ∃ h : LinkHdr, ∃ u : Nat, ∃ j : Nat, ∃ i : UnitInfo, ∃ e : Hosted, s.Up ∧ s.linkOpen = true ∧ s.unitOf u =
      some j ∧ s.hlk.infos[j]? = some i ∧ s.TakesNext h ∧ h.src = s.manager ∧ s.isManager = false ∧ s.hostedAt j = some e ∧
      901 ≠ 0) ∧
    (∃ s : State, ∃ h : LinkHdr, ∃ u : Nat, ∃ j : Nat, ∃ i : UnitInfo, ∃ crc : Nat, s.Up ∧ s.linkOpen = true ∧ s.unitOf u =
      some j ∧ s.hlk.infos[j]? = some i ∧ s.TakesNext h ∧ s.hlk.cpParts = [] ∧ s.hlk.cps = [] ∧ s.unitOf 999 = none ∧
      [1,2,3].length ≤ 2 ^ 28 ∧ crc32 ([1,2,3].map (BitVec.ofNat 8)) = crc) ∧
    (∃ s : State, ∃ h : LinkHdr, ∃ u : Nat, ∃ j : Nat, ∃ i : UnitInfo, ∃ crc : Nat, s.Up ∧ s.linkOpen = true ∧ s.unitOf u =
      some j ∧ s.hlk.infos[j]? = some i ∧ s.TakesNext h ∧ s.hlk.cpParts = [] ∧ s.hlk.cps = [] ∧ s.unitOf 999 = none ∧
      [1,2,3].length ≤ 2 ^ 28 ∧ crc32 ([1,2,3].map (BitVec.ofNat 8)) ≠ crc) ∧
    (∃ s : State, ∃ u : Nat, ∃ j : Nat, ∃ i : UnitInfo, ∃ m : Nat, ∃ e : Hosted, ∃ c : Checkpoint, s.Up ∧ s.linkOpen = true ∧
      s.unitOf u = some j ∧ s.hlk.infos[j]? = some i ∧ s.coreUp 1 = true ∧ s.hostedAt j = some e ∧ e.phase = .running ∧
      s.taskBusy i.task = false ∧ e.sec ≠ (s.tb 2).sec ∧ s.makeCp i e = some c ∧ s.holders = [m] ∧ m ≤ 63 ∧ c.data.length ≤
      1408) ∧
    (∃ s : State, ∃ u : Nat, ∃ j : Nat, ∃ i : UnitInfo, ∃ e : Hosted, s.Up ∧ s.linkOpen = true ∧ s.unitOf u = some j ∧
      s.hlk.infos[j]? = some i ∧ s.hostedAt j = some e ∧ e.x ≠ 0 ∧ e.x ≤ s.chain ∧ e.phase = .bound ∧ (s.unitRoot i).isSome =
      true) ∧
    (∃ s : State, ∃ u : Nat, ∃ j : Nat, ∃ i : UnitInfo, ∃ e : Hosted, s.Up ∧ s.linkOpen = true ∧ s.unitOf u = some j ∧
      s.hlk.infos[j]? = some i ∧ s.hostedAt j = some e ∧ e.x ≠ 0 ∧ e.x ≤ s.chain ∧ e.phase = .running ∧ s.taskBusy i.task =
      true) ∧
    (∃ s : State, ∃ u : Nat, ∃ j : Nat, ∃ i : UnitInfo, ∃ e : Hosted, s.Up ∧ s.linkOpen = true ∧ s.unitOf u = some j ∧
      s.hlk.infos[j]? = some i ∧ s.Alone ∧ s.coreUp 1 = true ∧ s.hostedAt j = some e ∧ e.phase = .held ∧ e.xClk + 200 * msClk
      ≤ s.clk ∧ s.isManager = false ∧ s.slotsOf i = [] ∧ s.taskBusy i.task = false) ∧
    (∃ s : State, ∃ u : Nat, ∃ j : Nat, ∃ i : UnitInfo, ∃ k : Nat, ∃ x : Slot, ∃ m : Nat, ∃ r : UnitRow, s.Up ∧ s.linkOpen =
      true ∧ s.unitOf u = some j ∧ s.hlk.infos[j]? = some i ∧ tfind? s.hlk.serving k = none ∧ s.activeOp k Blk.HLK 2 = some x
      ∧ s.hlk.asked.contains x.ord = false ∧ paramField x.param 0 4 = u ∧ m = paramField x.param 4 1 ∧ r = s.unitRow j ∧
      s.isManager = false) ∧
    (∃ s : State, ∃ u : Nat, ∃ j : Nat, ∃ i : UnitInfo, ∃ k : Nat, ∃ x : Slot, ∃ m : Nat, ∃ r : UnitRow, s.Up ∧ s.linkOpen =
      true ∧ s.unitOf u = some j ∧ s.hlk.infos[j]? = some i ∧ tfind? s.hlk.serving k = none ∧ s.activeOp k Blk.HLK 2 = some x
      ∧ s.hlk.asked.contains x.ord = false ∧ paramField x.param 0 4 = u ∧ m = paramField x.param 4 1 ∧ r = s.unitRow j ∧
      s.isManager = true ∧ s.sup.roleStrap ≠ 0 ∧ x.ctx = 0 ∧ s.candidate i m = false) :=
  ⟨⟨wv0, hh, 0x1234, wv1, wv2, by unfold State.Up; decide +kernel, by decide +kernel, (Option.some_get _).symm,
     (Option.some_get _).symm, by unfold State.TakesNext State.Takes; decide +kernel, by decide +kernel, by decide +kernel, by
     decide +kernel, by decide +kernel, by decide +kernel, by decide +kernel⟩,
   ⟨wv0, hh, 0x1234, wv1, wv2, by unfold State.Up; decide +kernel, by decide +kernel, (Option.some_get _).symm,
     (Option.some_get _).symm, by unfold State.TakesNext State.Takes; decide +kernel, by decide +kernel, by decide +kernel, by
     decide +kernel, by decide +kernel⟩,
   ⟨wv3, hh, 0x1234, wv4, wv5, by unfold State.Up; decide +kernel, by decide +kernel, (Option.some_get _).symm,
     (Option.some_get _).symm, by unfold State.TakesNext State.Takes; decide +kernel, by decide +kernel, by decide +kernel, by
     decide +kernel, by decide +kernel, by decide +kernel, by decide +kernel, by decide +kernel⟩,
   ⟨wv6, hh, 0x1234, wv7, wv8, wv9, by unfold State.Up; decide +kernel, by decide +kernel, (Option.some_get _).symm,
     (Option.some_get _).symm, by unfold State.TakesNext State.Takes; decide +kernel, by decide +kernel, by decide +kernel,
     (Option.some_get _).symm, by decide +kernel⟩,
   ⟨wv0, hh, 0x1234, wv1, wv2, (crc32 ([1,2,3].map (BitVec.ofNat 8))), by unfold State.Up; decide +kernel, by decide +kernel,
     (Option.some_get _).symm, (Option.some_get _).symm, by unfold State.TakesNext State.Takes; decide +kernel, by
     decide +kernel, by decide +kernel, by decide +kernel, by decide +kernel, by decide +kernel⟩,
   ⟨wv0, hh, 0x1234, wv1, wv2, 0x1234, by unfold State.Up; decide +kernel, by decide +kernel, (Option.some_get _).symm,
     (Option.some_get _).symm, by unfold State.TakesNext State.Takes; decide +kernel, by decide +kernel, by decide +kernel, by
     decide +kernel, by decide +kernel, by decide +kernel⟩,
   ⟨wv10, 0x1234, wv11, wv12, 9, wv13, wv14, by unfold State.Up; decide +kernel, by decide +kernel, (Option.some_get _).symm,
     (Option.some_get _).symm, by decide +kernel, (Option.some_get _).symm, by decide +kernel, by decide +kernel, by
     decide +kernel, (Option.some_get _).symm, by decide +kernel, by decide +kernel, by decide +kernel⟩,
   ⟨wv15, 0x1234, wv16, wv17, wv18, by unfold State.Up; decide +kernel, by decide +kernel, (Option.some_get _).symm,
     (Option.some_get _).symm, (Option.some_get _).symm, by decide +kernel, by decide +kernel, by decide +kernel, by
     decide +kernel⟩,
   ⟨wv19, 0x1234, wv20, wv21, wv22, by unfold State.Up; decide +kernel, by decide +kernel, (Option.some_get _).symm,
     (Option.some_get _).symm, (Option.some_get _).symm, by decide +kernel, by decide +kernel, by decide +kernel, by
     decide +kernel⟩,
   ⟨wv23, 0x1234, wv24, wv25, wv26, by unfold State.Up; decide +kernel, by decide +kernel, (Option.some_get _).symm,
     (Option.some_get _).symm, by unfold State.Alone; decide +kernel, by decide +kernel, (Option.some_get _).symm, by
     decide +kernel, by decide +kernel, by decide +kernel, by decide +kernel, by decide +kernel⟩,
   ⟨wv27, 0x1234, wv28, wv29, 3, wv30, (paramField wv30.param 4 1), (wv27.unitRow wv28), by unfold State.Up; decide +kernel,
     by decide +kernel, (Option.some_get _).symm, (Option.some_get _).symm, by decide +kernel, (Option.some_get _).symm, by
     decide +kernel, by decide +kernel, rfl, rfl, by decide +kernel⟩,
   ⟨wv3, 0x1234, wv4, wv5, 3, wv31, (paramField wv31.param 4 1), (wv3.unitRow wv4), by unfold State.Up; decide +kernel, by
     decide +kernel, (Option.some_get _).symm, (Option.some_get _).symm, by decide +kernel, (Option.some_get _).symm, by
     decide +kernel, by decide +kernel, rfl, rfl, by decide +kernel, by decide +kernel, by decide +kernel, by decide +kernel⟩⟩
/-- A state and operands for each clause of `UnitsAndReplicas`. -/
theorem witness_UnitsMove_1 :
    (∃ s : State, ∃ u : Nat, ∃ j : Nat, ∃ i : UnitInfo, ∃ k : Nat, ∃ x : Slot, ∃ m : Nat, ∃ r : UnitRow, s.Up ∧ s.linkOpen =
      true ∧ s.unitOf u = some j ∧ s.hlk.infos[j]? = some i ∧ tfind? s.hlk.serving k = none ∧ s.activeOp k Blk.HLK 2 = some x
      ∧ s.hlk.asked.contains x.ord = false ∧ paramField x.param 0 4 = u ∧ m = paramField x.param 4 1 ∧ r = s.unitRow j ∧
      s.isManager = true ∧ s.sup.roleStrap ≠ 0 ∧ x.ctx = 0 ∧ s.candidate i m = true ∧ r.host = some m ∧ r.st = 2) ∧
    (∃ s : State, ∃ u : Nat, ∃ j : Nat, ∃ i : UnitInfo, ∃ k : Nat, ∃ x : Slot, ∃ m : Nat, ∃ r : UnitRow, s.Up ∧ s.linkOpen =
      true ∧ s.unitOf u = some j ∧ s.hlk.infos[j]? = some i ∧ tfind? s.hlk.serving k = none ∧ s.activeOp k Blk.HLK 2 = some x
      ∧ s.hlk.asked.contains x.ord = false ∧ paramField x.param 0 4 = u ∧ m = paramField x.param 4 1 ∧ r = s.unitRow j ∧
      s.isManager = true ∧ s.sup.roleStrap ≠ 0 ∧ x.ctx = 0 ∧ s.candidate i m = true ∧ r.st = 3) ∧
    (∃ s : State, ∃ u : Nat, ∃ j : Nat, ∃ i : UnitInfo, ∃ k : Nat, ∃ x : Slot, ∃ m : Nat, ∃ r : UnitRow, ∃ o : Nat, ∃ X : Nat,
      s.Up ∧ s.linkOpen = true ∧ s.unitOf u = some j ∧ s.hlk.infos[j]? = some i ∧ tfind? s.hlk.serving k = none ∧ s.activeOp k
      Blk.HLK 2 = some x ∧ s.hlk.asked.contains x.ord = false ∧ paramField x.param 0 4 = u ∧ m = paramField x.param 4 1 ∧ r =
      s.unitRow j ∧ s.isManager = true ∧ s.sup.roleStrap ≠ 0 ∧ x.ctx = 0 ∧ s.candidate i m = true ∧ r.host = some o ∧ r.st = 2
      ∧ o ≠ m ∧ o ≠ s.sup.moduleNum ∧ m ≠ s.sup.moduleNum ∧ X = s.chain + 10 * 65536) ∧
    (∃ s : State, ∃ u : Nat, ∃ j : Nat, ∃ i : UnitInfo, ∃ k : Nat, ∃ x : Slot, ∃ p : Option Nat, ∃ hst : Nat, s.Up ∧
      s.linkOpen = true ∧ s.unitOf u = some j ∧ s.hlk.infos[j]? = some i ∧ tfind? s.hlk.serving k = none ∧ s.activeOp k
      Blk.HLK 3 = some x ∧ s.hlk.asked.contains x.ord = false ∧ s.isManager = true ∧ s.sup.roleStrap ≠ 0 ∧ x.ctx = 0 ∧
      paramField x.param 0 4 = u ∧ p = moduleOf (paramField x.param 4 1) ∧ (s.unitRow j).host = some hst ∧ (p = none ∨ p =
      some hst)) :=
  ⟨⟨wv32, 0x1234, wv33, wv34, 3, wv35, (paramField wv35.param 4 1), (wv32.unitRow wv33), by unfold State.Up; decide +kernel,
     by decide +kernel, (Option.some_get _).symm, (Option.some_get _).symm, by decide +kernel, (Option.some_get _).symm, by
     decide +kernel, by decide +kernel, rfl, rfl, by decide +kernel, by decide +kernel, by decide +kernel, by decide +kernel,
     by decide +kernel, by decide +kernel⟩,
   ⟨wv36, 0x1234, wv37, wv38, 3, wv39, (paramField wv39.param 4 1), (wv36.unitRow wv37), by unfold State.Up; decide +kernel,
     by decide +kernel, (Option.some_get _).symm, (Option.some_get _).symm, by decide +kernel, (Option.some_get _).symm, by
     decide +kernel, by decide +kernel, rfl, rfl, by decide +kernel, by decide +kernel, by decide +kernel, by decide +kernel,
     by decide +kernel⟩,
   ⟨wv40, 0x1234, wv41, wv42, 3, wv43, (paramField wv43.param 4 1), (wv40.unitRow wv41), 9, (wv40.chain + 10 * 65536),
     by unfold State.Up; decide +kernel, by decide +kernel, (Option.some_get _).symm, (Option.some_get _).symm, by
     decide +kernel, (Option.some_get _).symm, by decide +kernel, by decide +kernel, rfl, rfl, by decide +kernel, by
     decide +kernel, by decide +kernel, by decide +kernel, by decide +kernel, by decide +kernel, by decide +kernel, by
     decide +kernel, by decide +kernel, rfl⟩,
   ⟨wv44, 0x1234, wv45, wv46, 3, wv47, (moduleOf (paramField wv47.param 4 1)), wv48, by unfold State.Up; decide +kernel, by
     decide +kernel, (Option.some_get _).symm, (Option.some_get _).symm, by decide +kernel, (Option.some_get _).symm, by
     decide +kernel, by decide +kernel, by decide +kernel, by decide +kernel, by decide +kernel, rfl, (Option.some_get
     _).symm, by decide +kernel⟩⟩
end UnitsMove

namespace ReplicasAreKept
def hk (s : State) (f : Sto → Sto) : State := {s with sto := f s.sto}
def pe : State := wk.setNum Reg.STO_PEER (64+9)
def ob : StoObj := ⟨2,6,64,.whole [1] [] [],true,true⟩
def r1 : Replica := ⟨9,5,6,some [7,8]⟩
def Ss : List State := [wk, hk wk (fun s => {s with pendRep := [⟨9,5,5,none⟩, ⟨9,4,4,none⟩]}), hk pe (fun s => {s with objs := [(5,ob)], unrep := [5]}) |>.setFlag Reg.STO_STAT 3 true, hk wk (fun s => {s with pendRep := [r1]}), hk wk (fun s => {s with pendRep := [r1,⟨9,999,3,none⟩]}), hk wk (fun s => {s with replicas := [r1]}), hk pe (fun s => {s with objs := [(5,ob)]}), mg]
def wv0 : State := ((Ss : List (State))[0]?).get (by decide +kernel)
def wv1 : State := ((Ss : List (State))[2]?).get (by decide +kernel)
def wv2 : StoObj := (wv1.stoObj (5)).get (by decide +kernel)
def wv3 : State := ((Ss : List (State))[3]?).get (by decide +kernel)
def wv4 : State := ((Ss : List (State))[4]?).get (by decide +kernel)
def wv5 : State := ((Ss : List (State))[5]?).get (by decide +kernel)
def wv6 : State := ((Ss : List (State))[7]?).get (by decide +kernel)
/-- A state and operands for each clause of `UnitsAndReplicas`. -/
theorem witness_ReplicasAreKept :
    (∃ s : State, ∃ h : LinkHdr, s.Up ∧ s.TakesNext h ∧ s.sto.parts = [] ∧ [1,2,3].length < 0xFFFFFFFF) ∧
    (∃ s : State, ∃ h : LinkHdr, ∃ obj : Nat, ∃ ver : Nat, ∃ o : StoObj, s.Up ∧ s.Takes h ∧ s.stoPeer = some h.src ∧
      s.sto.writes = [] ∧ s.stoObj obj = some o ∧ o.ver = ver ∧ s.sto.unrep = [obj] ∧ (s.peer h.src).unacked = []) ∧
    (∃ s : State, ∃ h : LinkHdr, ∃ obj : Nat, ∃ ver : Nat, s.Up ∧ s.TakesNext h ∧ s.sto.pendRep = [⟨h.src, obj, ver, some
      ([7,8] : List Byte)⟩] ∧ s.sto.replicas = []) ∧
    (∃ s : State, ∃ h : LinkHdr, ∃ obj : Nat, ∃ ver : Nat, s.Up ∧ s.TakesNext h ∧ h.more = false ∧ 999 ≠ obj ∧ s.sto.replicas
      = [] ∧ s.sto.pendRep = [⟨h.src, obj, ver, some [7,8]⟩, ⟨h.src, 999, 3, none⟩]) ∧
    (∃ s : State, ∃ h : LinkHdr, ∃ obj : Nat, ∃ ver : Nat, s.Up ∧ s.TakesNext h ∧ (s.peer h.src).unacked = [] ∧ s.sto.replicas
      = [⟨h.src, obj, ver, some ([7,8] : List Byte)⟩] ∧ ([7,8] : List Byte).length ≤ 1416) ∧
    (∃ s : State, ∃ h : LinkHdr, s.Up ∧ s.TakesNext h ∧ (s.peer h.src).unacked = [] ∧ s.sto.replicas = []) ∧
    (∃ s : State, ∃ h : LinkHdr, ∃ obj : Nat, ∃ o : StoObj, s.Up ∧ s.TakesNext h ∧ s.stoPeer = some h.src ∧ s.sto.parts = [] ∧
      s.sto.reads = [] ∧ [4,5].length < 0xFFFFFFFF ∧ s.stoObj obj = some o ∧ o.body = .whole [1] [] []) ∧
    (∃ s : State, s.Up ∧ s.coreUp 1 = true ∧ s.linkOpen = true ∧ s.isManager = true ∧ s.hlk.placed = false ∧ s.others.all
      s.memberUp = true ∧ s.hlk.infos = []) :=
  ⟨⟨wv0, hh, by unfold State.Up State.TakesNext State.Takes; decide +kernel⟩,
   ⟨wv1, hh, 5, 6, wv2, by unfold State.Up; decide +kernel, by unfold State.Takes; decide +kernel, by decide +kernel, by
     decide +kernel, (Option.some_get _).symm, by decide +kernel, by decide +kernel, by decide +kernel⟩,
   ⟨wv3, hh, 5, 6, by unfold State.Up State.TakesNext State.Takes; decide +kernel⟩,
   ⟨wv4, hh, 5, 6, by unfold State.Up State.TakesNext State.Takes; decide +kernel⟩,
   ⟨wv5, hh, 5, 6, by unfold State.Up State.TakesNext State.Takes; decide +kernel⟩,
   ⟨wv0, hh, by unfold State.Up State.TakesNext State.Takes; decide +kernel⟩,
   ⟨wv1, hh, 5, wv2, by unfold State.Up; decide +kernel, by unfold State.TakesNext State.Takes; decide +kernel, by
     decide +kernel, by decide +kernel, by decide +kernel, by decide +kernel, (Option.some_get _).symm, by decide +kernel⟩,
   ⟨wv6, by unfold State.Up; decide +kernel⟩⟩
end ReplicasAreKept

end Hlk

/-! ### FabNtu -/

namespace FabNtu

def ff (dst src et : Nat) (ok : Bool) : EthFrame := ⟨dst,src,none,et,List.replicate 46 7,64,ok⟩
def fa : State := {up0.setFlag (Reg.CTRL Blk.FAB) 0 true with clk := 10^13}
def port (s : State) (p : Nat) : State := ((s.setFlag (Reg.FAB_PnSTAT p) 0 true).setFlag (Reg.FAB_PnSTAT p) 3 false).setFlag (Reg.FAB_PnCFG p) 0 true |>.setFlag (Reg.FAB_PnCFG p) 1 true
def fb (s : State) (f : Fab → Fab) : State := {s with fab := f s.fab}

namespace FabricForwards
def q1 : QFrame := ⟨3, ff 1 2 0x800 true, 5, false, none, none⟩
def A : Nat := 0x11
def B : Nat := 0x22
def v1 (s : State) (p : Nat) : State := (s.setNum (Reg.FAB_VLANv_MBR_LO 1) (2^5 + 2^20)).setNum (Reg.FAB_PnCFG p) (3 + 1*65536 + 5*2^28) |>.setFlag Reg.FAB_CFG 16 true
def fw (s : State) : State := fb s fun x => {x with fdb := [(fdbKey 1 B, ⟨false,2^20,10^13⟩)]}
def old (st : Bool) : State := fb (port fa 5) fun x => {x with fdb := [(fdbKey 1 B, ⟨st,2^20,0⟩),(fdbKey 1 A,⟨true,1,0⟩)]}
def sb (s : State) : State := fb (s.setNum (Reg.FAB_PnSTORM_BC 5) (1 + 2^20)) fun x => {x with buckets := [(20,⟨secClk,10^13⟩)]}
def Ss : List State := [port fa 5, port fa 49, (port fa 49).setFlag (Reg.CTRL Blk.LCP) 0 true, fw (v1 (port (port fa 20) 5) 5), sb (v1 (port fa 5) 5), fb (port fa 5) (fun x => {x with queues := [(8*5+3,[q1])]}), (old false).setFld Reg.FAB_CFG 24 8 30, (old true), fb ((port fa 5).setNum (Reg.FAB_PnSTORM_ACT 5) (1+ 2*256+ 99*65536)) (fun x => {x with windows := [(5,(7,2))]}), fb ((port fa 5).setNum (Reg.FAB_PnSTAT 5) (17+ 99*65536)) (fun x => {x with blockClk := [(5,0)]})]
def wv0 : State := ((Ss : List (State))[0]?).get (by decide +kernel)
def wv1 : State := ((Ss : List (State))[1]?).get (by decide +kernel)
def wv2 : State := ((Ss : List (State))[3]?).get (by decide +kernel)
def wv3 : State := ((Ss : List (State))[4]?).get (by decide +kernel)
def wv4 : State := ((Ss : List (State))[5]?).get (by decide +kernel)
def wv5 : Nat := (wv4.nextClass (5)).get (by decide +kernel)
def wv6 : State := ((Ss : List (State))[6]?).get (by decide +kernel)
def wv7 : FdbEntry := (wv6.fdbAt (1) (B)).get (by decide +kernel)
def wv8 : State := ((Ss : List (State))[7]?).get (by decide +kernel)
def wv9 : FdbEntry := (wv8.fdbAt (1) (B)).get (by decide +kernel)
def wv10 : State := ((Ss : List (State))[8]?).get (by decide +kernel)
def wv11 : Nat × Nat := (tfind? wv10.fab.windows (5)).get (by decide +kernel)
def wv12 : State := ((Ss : List (State))[9]?).get (by decide +kernel)
def wv13 : Nat := (tfind? wv12.fab.blockClk (5)).get (by decide +kernel)
/-- A state and operands for each clause of `ForwardingAndLinks`. -/
theorem witness_FabricForwards :
    (∃ s : State, ∃ p : Nat, ∃ f : EthFrame, s.Up ∧ p < 50 ∧ s.flag (Reg.FAB_PnSTAT p) 0 = true ∧ s.flag (Reg.FAB_PnSTAT p) 3
      = false ∧ s.flag (Reg.FAB_PnCFG p) 0 = true ∧ f.fcsOk = false ∧ 64 ≤ f.len ∧ f.len ≤ s.maxFrame) ∧
    (∃ s : State, ∃ p : Nat, ∃ f : EthFrame, s.Up ∧ p < 50 ∧ s.flag (Reg.FAB_PnSTAT p) 0 = true ∧ s.flag (Reg.FAB_PnSTAT p) 3
      = false ∧ s.flag (Reg.FAB_PnCFG p) 0 = true ∧ s.goodFrame f = true ∧ f.etype = 0x88B5 ∧ 48 ≤ p) ∧
    (∃ s : State, ∃ p : Nat, ∃ ep : Nat, ∃ fr : EthFrame, s.Up ∧ p < 50 ∧ s.flag (Reg.FAB_PnSTAT p) 0 = true ∧ s.flag
      (Reg.FAB_PnSTAT p) 3 = false ∧ s.flag (Reg.FAB_PnCFG p) 0 = true ∧ ep < 5 ∧ fr.len ≤ 2048 ∧ s.fab.queues = [] ∧ s.flag
      (Reg.FAB_PnSTAT p) 6 = false) ∧
    (∃ s : State, ∃ p : Nat, ∃ f : EthFrame, ∃ q : Nat, ∃ vid : Nat, ∃ pcp : Nat, ∃ c : Nat, s.Up ∧ p < 50 ∧ s.flag
      (Reg.FAB_PnSTAT p) 0 = true ∧ s.flag (Reg.FAB_PnSTAT p) 3 = false ∧ s.flag (Reg.FAB_PnCFG p) 0 = true ∧ s.goodFrame f =
      true ∧ s.plainSwitch = false ∧ s.flag (Reg.FAB_PnSTAT p) 4 = false ∧ f.etype ≠ 0x8808 ∧ mgmtFrom f.etype p = none ∧
      f.tag = none ∧ vid = fixVid (s.fld (Reg.FAB_PnCFG p) 16 12) ∧ pcp = s.fld (Reg.FAB_PnCFG p) 28 3 ∧ c = s.pcpClass pcp ∧
      s.vlanPass p vid f = true ∧ s.fdbAt vid f.src = none ∧ (s.bucketOf vid f.src).length < 4 ∧ s.flag Reg.FAB_CFG 16 = true
      ∧ s.flag (Reg.FAB_PnCFG p) 1 = true ∧ isGroup f.src = false ∧ f.dst ≠ f.src ∧ f.dst ≠ bcast ∧ isGroup f.dst = false ∧
      (s.fdbAt vid f.dst).isSome = true ∧ s.fab.queues = [] ∧ s.flag (Reg.FAB_EPe_CFG 3) 0 = false ∧ s.flag (Reg.FAB_EPe_CFG
      4) 0 = false ∧ s.egressPorts p vid f = [q] ∧ s.portPasses q true = true ∧ q < 50) ∧
    (∃ s : State, ∃ p : Nat, ∃ f : EthFrame, ∃ vid : Nat, ∃ pcp : Nat, ∃ c : Nat, ∃ rate : Nat, ∃ burst : Nat, s.Up ∧ p < 50 ∧
      s.flag (Reg.FAB_PnSTAT p) 0 = true ∧ s.flag (Reg.FAB_PnSTAT p) 3 = false ∧ s.flag (Reg.FAB_PnCFG p) 0 = true ∧
      s.goodFrame f = true ∧ s.plainSwitch = false ∧ s.flag (Reg.FAB_PnSTAT p) 4 = false ∧ f.etype ≠ 0x8808 ∧ mgmtFrom f.etype
      p = none ∧ f.tag = none ∧ vid = fixVid (s.fld (Reg.FAB_PnCFG p) 16 12) ∧ pcp = s.fld (Reg.FAB_PnCFG p) 28 3 ∧ c =
      s.pcpClass pcp ∧ s.vlanPass p vid f = true ∧ f.dst = bcast ∧ s.fdbAt vid f.src = none ∧ rate = s.fld (Reg.FAB_PnSTORM_BC
      p) 0 20 ∧ rate ≠ 0 ∧ burst = Nat.max 1 (s.fld (Reg.FAB_PnSTORM_BC p) 20 12) ∧ s.takeBucket (4 * p) rate burst 1 = none) ∧
    (∃ s : State, ∃ p : Nat, ∃ q : QFrame, ∃ rest : List QFrame, ∃ c : Nat, s.Up ∧ p < 50 ∧ s.flag (Reg.FAB_PnSTAT p) 0 = true
      ∧ s.flag (Reg.FAB_PnSTAT p) 3 = false ∧ s.flag (Reg.FAB_PnCFG p) 0 = true ∧ s.nextClass p = some c ∧ s.fabQueue p c = q
      :: rest ∧ q.op = none ∧ q.ptp = none ∧ tget (fun _ => 0) s.fab.wakeClk p ≤ s.clk) ∧
    (∃ s : State, ∃ p : Nat, ∃ vid : Nat, ∃ mac : Nat, ∃ e : FdbEntry, s.Up ∧ p < 50 ∧ s.flag (Reg.FAB_PnSTAT p) 0 = true ∧
      s.flag (Reg.FAB_PnSTAT p) 3 = false ∧ s.flag (Reg.FAB_PnCFG p) 0 = true ∧ s.fdbAt vid mac = some e ∧ e.static = false ∧
      s.fld Reg.FAB_CFG 24 8 ≠ 0 ∧ e.clk + s.fld Reg.FAB_CFG 24 8 * 10 * secClk ≤ s.clk) ∧
    (∃ s : State, ∃ p : Nat, ∃ vid : Nat, ∃ mac : Nat, ∃ e : FdbEntry, s.Up ∧ p < 50 ∧ s.flag (Reg.FAB_PnSTAT p) 0 = true ∧
      s.flag (Reg.FAB_PnSTAT p) 3 = false ∧ s.flag (Reg.FAB_PnCFG p) 0 = true ∧ s.fdbAt vid mac = some e ∧ e.static = true) ∧
    (∃ s : State, ∃ p : Nat, ∃ wr : Nat × Nat, ∃ run : Nat, ∃ w : Nat, s.Up ∧ p < 50 ∧ s.flag (Reg.FAB_PnSTAT p) 0 = true ∧
      s.flag (Reg.FAB_PnSTAT p) 3 = false ∧ s.flag (Reg.FAB_PnCFG p) 0 = true ∧ s.plainSwitch = false ∧ s.flag
      (Reg.FAB_PnSTORM_ACT p) 0 = true ∧ tfind? s.fab.windows p = some wr ∧ run = wr.2 ∧ w = wr.1 ∧ Nat.max 1 (s.fld
      (Reg.FAB_PnSTORM_ACT p) 8 8) ≤ run ∧ w < s.clk / (10 * msClk) ∧ s.flag (Reg.FAB_PnSTAT p) 4 = false) ∧
    (∃ s : State, ∃ p : Nat, ∃ c : Nat, ∃ n : Nat, s.Up ∧ p < 50 ∧ s.flag (Reg.FAB_PnSTAT p) 0 = true ∧ s.flag (Reg.FAB_PnSTAT
      p) 3 = false ∧ s.flag (Reg.FAB_PnCFG p) 0 = true ∧ tfind? s.fab.blockClk p = some c ∧ n = s.fld (Reg.FAB_PnSTAT p) 16 16
      ∧ n ≠ 0 ∧ c + n * secClk ≤ s.clk) ∧
    (∃ s : State, ∃ p : Nat, ∃ rq : Requester, s.Up ∧ p < 50 ∧ s.flag (Reg.FAB_PnSTAT p) 0 = true ∧ s.flag (Reg.FAB_PnSTAT p)
      3 = false ∧ s.flag (Reg.FAB_PnCFG p) 0 = true ∧ s.Passes rq (Reg.FAB_PnCFG p)) :=
  ⟨⟨wv0, 5, ff 1 2 0x800 false, by unfold State.Up; decide +kernel⟩,
   ⟨wv1, 49, ff 1 2 0x88B5 true, by unfold State.Up; decide +kernel⟩,
   ⟨wv0, 5, 1, ff 1 2 0x800 false, by unfold State.Up; decide +kernel⟩,
   ⟨wv2, 5, ff B A 0x800 true, 20, (fixVid (wv2.fld (Reg.FAB_PnCFG (5)) 16 12)), (wv2.fld (Reg.FAB_PnCFG (5)) 28 3),
     (wv2.pcpClass ((wv2.fld (Reg.FAB_PnCFG (5)) 28 3))), by unfold State.Up; decide +kernel, by decide +kernel, by
     decide +kernel, by decide +kernel, by decide +kernel, by decide +kernel, by decide +kernel, by decide +kernel, by
     decide +kernel, by decide +kernel, by decide +kernel, rfl, rfl, rfl, by decide +kernel, by decide +kernel,
     by unfold State.bucketOf; exact lt_of_le_of_lt (List.length_filter_le _ _) (by decide +kernel), by decide +kernel, by
     decide +kernel, by decide +kernel, by decide +kernel, by decide +kernel, by decide +kernel, by decide +kernel, by
     decide +kernel, by decide +kernel, by decide +kernel, by decide +kernel, by decide +kernel, by decide +kernel⟩,
   ⟨wv3, 5, ff bcast A 0x800 true, (fixVid (wv3.fld (Reg.FAB_PnCFG (5)) 16 12)), (wv3.fld (Reg.FAB_PnCFG (5)) 28 3),
     (wv3.pcpClass ((wv3.fld (Reg.FAB_PnCFG (5)) 28 3))), (wv3.fld (Reg.FAB_PnSTORM_BC (5)) 0 20), (Nat.max 1 (wv3.fld
     (Reg.FAB_PnSTORM_BC (5)) 20 12)), by unfold State.Up; decide +kernel⟩,
   ⟨wv4, 5, q1, [], wv5, by unfold State.Up; decide +kernel, by decide +kernel, by decide +kernel, by decide +kernel, by
     decide +kernel, (Option.some_get _).symm, by decide +kernel, by decide +kernel, by decide +kernel, by decide +kernel⟩,
   ⟨wv6, 5, 1, B, wv7, by unfold State.Up; decide +kernel, by decide +kernel, by decide +kernel, by decide +kernel, by
     decide +kernel, (Option.some_get _).symm, by decide +kernel, by decide +kernel, by decide +kernel⟩,
   ⟨wv8, 5, 1, B, wv9, by unfold State.Up; decide +kernel, by decide +kernel, by decide +kernel, by decide +kernel, by
     decide +kernel, (Option.some_get _).symm, by decide +kernel⟩,
   ⟨wv10, 5, wv11, (wv11.2), (wv11.1), by unfold State.Up; decide +kernel, by decide +kernel, by decide +kernel, by
     decide +kernel, by decide +kernel, by decide +kernel, by decide +kernel, (Option.some_get _).symm, rfl, rfl, by
     decide +kernel, by decide +kernel, by decide +kernel⟩,
   ⟨wv12, 5, wv13, (wv12.fld (Reg.FAB_PnSTAT (5)) 16 16), by unfold State.Up; decide +kernel, by decide +kernel, by
     decide +kernel, by decide +kernel, by decide +kernel, (Option.some_get _).symm, rfl, by decide +kernel, by
     decide +kernel⟩,
   ⟨wv0, 5, .pcie, by unfold State.Up State.Passes State.Alone; decide +kernel⟩⟩
end FabricForwards

namespace LinksAndLpi
def md (s : State) : State := s.setFlag Reg.FAB_MDIO_DATA 16 true
def Ss : List State := [fa, port fa 5, (port fa 5).setNum (Reg.FAB_PnEEE 5) 3, (fb (port fa 5) (fun x => {x with lldpSent := [(5,(10^13-1,0))]})).setNum (Reg.FAB_PnEEE 5) 3, fb fa (fun x => {x with pcs := [(49,(2,0))]}), (port fa 5).setNum (Reg.FAB_PnSTAT 5) 0x23 |>.setNum (Reg.FAB_PnEEE 5) 0x01010103, fb ((port fa 5).setNum (Reg.FAB_PnSTAT 5) 0x63 |>.setNum (Reg.FAB_PnEEE 5) 0x01010103) (fun x => {x with waitClk := [(5,0)], lpiClk := [(5,0)]}), fb ((port fa 5).setNum (Reg.FAB_PnEEE 5) 0x01010103) (fun x => {x with lldpClk := [(5,0)]}), md fa, (md fa).setNum Reg.FAB_MDIO_CMD 0x400]
def wv0 : State := ((Ss : List (State))[0]?).get (by decide +kernel)
def wv1 : State := ((Ss : List (State))[1]?).get (by decide +kernel)
def wv2 : State := ((Ss : List (State))[4]?).get (by decide +kernel)
def wv3 : Nat × Nat := (tfind? wv2.fab.pcs (49)).get (by decide +kernel)
def wv4 : State := ((Ss : List (State))[5]?).get (by decide +kernel)
def wv5 : State := ((Ss : List (State))[6]?).get (by decide +kernel)
def wv6 : Nat := (tfind? wv5.fab.waitClk (5)).get (by decide +kernel)
def wv7 : State := ((Ss : List (State))[2]?).get (by decide +kernel)
def wv8 : State := ((Ss : List (State))[3]?).get (by decide +kernel)
def wv9 : State := ((Ss : List (State))[7]?).get (by decide +kernel)
def wv10 : Nat := (tfind? wv9.fab.lldpClk (5)).get (by decide +kernel)
def wv11 : State := ((Ss : List (State))[8]?).get (by decide +kernel)
/-- A state and operands for each clause of `ForwardingAndLinks`. -/
theorem witness_LinksAndLpi :
    (∃ s : State, ∃ p : Nat, ∃ sp : Nat, s.Up ∧ p < 48 ∧ sp < 4 ∧ s.flag (Reg.FAB_PnSTAT p) 0 = false) ∧
    (∃ s : State, ∃ p : Nat, s.Up ∧ p < 48 ∧ s.flag (Reg.FAB_PnSTAT p) 0 = true ∧ s.fab.queues = []) ∧
    (∃ s : State, ∃ p : Nat, ∃ u : Nat, ∃ mc : Nat × Nat, ∃ m : Nat, ∃ c : Nat, s.Up ∧ p < 48 ∧ (u = 48 ∨ u = 49) ∧ s.flag
      (Reg.FAB_PnSTAT u) 0 = false ∧ s.fld (Reg.FAB_PnCFG u) 8 2 = 0 ∧ tfind? s.fab.pcs u = some mc ∧ m = mc.1 ∧ c = mc.2 ∧ c
      + 500 * msClk ≤ s.clk) ∧
    (∃ s : State, ∃ p : Nat, s.Up ∧ p < 48 ∧ s.flag (Reg.FAB_PnSTAT p) 5 = true ∧ s.flag (Reg.FAB_PnSTAT p) 6 = false ∧
      (List.range 8).all (fun c => s.fabQueue p c == []) = true ∧ tget (fun _ => 0) s.fab.idleClk p + s.fld (Reg.FAB_PnEEE p)
      8 8 * 800 ≤ s.clk ∧ s.Alone) ∧
    (∃ s : State, ∃ p : Nat, ∃ c : Nat, s.Up ∧ p < 48 ∧ tfind? s.fab.waitClk p = some c ∧ c + s.fld (Reg.FAB_PnEEE p) 16 8 *
      800 ≤ s.clk ∧ s.flag (Reg.FAB_PnSTAT p) 6 = true) ∧
    (∃ s : State, ∃ p : Nat, ∃ tw : Nat, s.Up ∧ p < 48 ∧ s.flag (Reg.FAB_PnEEE p) 1 = true ∧ s.portPasses p true = true ∧
      s.fab.queues = [] ∧ tw = (s.fld (Reg.FAB_PnEEE_TW p) 0 16 + 9) / 10 ∧ tfind? s.fab.lldpSent p = none) ∧
    (∃ s : State, ∃ p : Nat, ∃ tw : Nat, ∃ c : Nat, s.Up ∧ p < 48 ∧ s.flag (Reg.FAB_PnEEE p) 1 = true ∧ s.portPasses p true =
      true ∧ s.fab.queues = [] ∧ tw = (s.fld (Reg.FAB_PnEEE_TW p) 0 16 + 9) / 10 ∧ tfind? s.fab.lldpSent p = some (c, tw) ∧
      s.clk < c + 30 * secClk) ∧
    (∃ s : State, ∃ p : Nat, s.Up ∧ p < 48 ∧ s.flag (Reg.FAB_PnEEE p) 1 = true) ∧
    (∃ s : State, ∃ p : Nat, ∃ c : Nat, s.Up ∧ p < 48 ∧ tfind? s.fab.lldpClk p = some c ∧ c + 120 * secClk ≤ s.clk) ∧
    (∃ s : State, ∃ p : Nat, ∃ rq : Requester, ∃ v : Word, s.Up ∧ p < 48 ∧ s.Passes rq Reg.FAB_MDIO_CMD ∧ s.flag
      Reg.FAB_MDIO_DATA 16 = false ∧ bitsOf v.toNat 10 3 < 5) ∧
    (∃ s : State, ∃ p : Nat, ∃ rq : Requester, s.Up ∧ p < 48 ∧ s.Passes rq Reg.FAB_MDIO_CMD ∧ s.flag Reg.FAB_MDIO_DATA 16 =
      true) ∧
    (∃ s : State, ∃ p : Nat, s.Up ∧ p < 48 ∧ s.flag Reg.FAB_MDIO_DATA 16 = true) :=
  ⟨⟨wv0, 5, 3, by unfold State.Up; decide +kernel⟩,
   ⟨wv1, 5, by unfold State.Up; decide +kernel⟩,
   ⟨wv2, 5, 49, wv3, (wv3.1), (wv3.2), by unfold State.Up; decide +kernel, by decide +kernel, by decide +kernel, by
     decide +kernel, by decide +kernel, (Option.some_get _).symm, rfl, rfl, by decide +kernel⟩,
   ⟨wv4, 5, by unfold State.Up State.Alone; decide +kernel⟩,
   ⟨wv5, 5, wv6, by unfold State.Up; decide +kernel, by decide +kernel, (Option.some_get _).symm, by decide +kernel, by
     decide +kernel⟩,
   ⟨wv7, 5, ((wv7.fld (Reg.FAB_PnEEE_TW (5)) 0 16 + 9) / 10), by unfold State.Up; decide +kernel⟩,
   ⟨wv8, 5, ((wv8.fld (Reg.FAB_PnEEE_TW (5)) 0 16 + 9) / 10), 10^13-1, by unfold State.Up; decide +kernel⟩,
   ⟨wv7, 5, by unfold State.Up; decide +kernel⟩,
   ⟨wv9, 5, wv10, by unfold State.Up; decide +kernel, by decide +kernel, (Option.some_get _).symm, by decide +kernel⟩,
   ⟨wv0, 5, .pcie, 0x400, by unfold State.Up State.Passes State.Alone; decide +kernel⟩,
   ⟨wv11, 5, .pcie, by unfold State.Up State.Passes State.Alone; decide +kernel⟩,
   ⟨wv11, 5, by unfold State.Up; decide +kernel⟩⟩
end LinksAndLpi

namespace FabricOperations
def o (n : Nat) (l : List (Nat × Nat × Nat)) : Slot := mkOp Blk.FAB n 0 l
def dd (et : List Nat) : List Byte := (List.range 12 ++ et ++ List.replicate 46 9).map (BitVec.ofNat 8)
def x1 := o 1 [(0,1,3),(16,2,60)]
def x2 := o 2 [(0,1,4),(16,2,9999)]
def mac6 : Nat := 0x0100000002
def x3 := o 3 [(0,6,mac6),(6,2,4094),(8,8,0xFFFFFFFFFFFFFFFF)]
def x4 := o 4 [(0,6,mac6),(6,2,4094)]
def x5 := o 5 [(0,1,0xFF),(1,1,1)]
def x6 := o 6 [(8,8,0x4000),(16,4,1)]
def M := beNat (leBytes 6 mac6)
def e3 (s : State) : State := s.setFlag (Reg.FAB_EPe_CFG 3) 0 true
def vl (s : State) : State := (port s 20).setNum (Reg.FAB_VLANv_MBR_LO 1) (2^20)
def ent (l : List Nat) (st : Bool) (s : State) : State := fb s fun x => {x with fdb := l.map fun m => (fdbKey 4094 m, ⟨st,2^20,0⟩)}
def tx (s : State) : State := fb s fun x => {x with queues := [(8*20+3,[⟨7, ff 1 2 0x800 true, 53, false, some 3, none⟩])], tx := [⟨3,0,[20],0,0,none,none⟩]}
def Ss : List State := [withOp fa 3 x1, withOp (e3 fa) 3 x1, withOp (vl (e3 fa)) 3 x1, tx (withOp (vl (e3 fa)) 3 x1), withOp fa 3 x2, withOp fa 3 x3, withOp (ent (((List.range 60000).map (fun i => i+1)).filter (fun m => Config.fdbHash 4094 m % 4096 == Config.fdbHash 4094 M % 4096) |>.take 4) true fa) 3 x3, withOp (ent [M,5] true fa) 3 x4, withOp fa 3 x4, withOp (ent [M,5] true fa) 3 x5, withOp (ent [M,5] true fa) 3 x6]
def wv0 : State := ((Ss : List (State))[0]?).get (by decide +kernel)
def wv1 : State := ((Ss : List (State))[1]?).get (by decide +kernel)
def wv2 : State := ((Ss : List (State))[2]?).get (by decide +kernel)
def wv3 : State := ((Ss : List (State))[3]?).get (by decide +kernel)
def wv4 : State := ((Ss : List (State))[4]?).get (by decide +kernel)
def wv5 : State := ((Ss : List (State))[5]?).get (by decide +kernel)
def wv6 : State := ((Ss : List (State))[6]?).get (by decide +kernel)
def wv7 : State := ((Ss : List (State))[7]?).get (by decide +kernel)
def wv8 : State := ((Ss : List (State))[8]?).get (by decide +kernel)
def wv9 : State := ((Ss : List (State))[9]?).get (by decide +kernel)
def wv10 : State := ((Ss : List (State))[10]?).get (by decide +kernel)
/-- A state and operands for each clause of `FabricOperations`. -/
theorem witness_FabricOperations :
    (∃ s : State, ∃ k : Nat, ∃ x : Slot, ∃ d : List Byte, ∃ f : EthFrame, s.Up ∧ tfind? s.hlk.serving k = none ∧ s.activeOp k
      Blk.FAB 1 = some x ∧ paramField x.param 0 1 = 3 ∧ d.length = paramField x.param 16 2 ∧ 60 ≤ d.length ∧ d.length ≤
      s.maxFrame - 4 ∧ bitOf (paramField x.param 1 1) 0 = false ∧ s.fab.tx = [] ∧ s.txWaits k 3 = false ∧ f = hostFrame d ∧
      s.flag (Reg.FAB_EPe_CFG 3) 0 = false) ∧
    (∃ s : State, ∃ k : Nat, ∃ x : Slot, ∃ d : List Byte, ∃ f : EthFrame, s.Up ∧ tfind? s.hlk.serving k = none ∧ s.activeOp k
      Blk.FAB 1 = some x ∧ paramField x.param 0 1 = 3 ∧ d.length = paramField x.param 16 2 ∧ 60 ≤ d.length ∧ d.length ≤
      s.maxFrame - 4 ∧ bitOf (paramField x.param 1 1) 0 = false ∧ s.fab.tx = [] ∧ s.txWaits k 3 = false ∧ f = hostFrame d ∧
      s.flag (Reg.FAB_EPe_CFG 3) 0 = true ∧ (mgmtFrom f.etype 0).isSome = true) ∧
    (∃ s : State, ∃ k : Nat, ∃ x : Slot, ∃ d : List Byte, ∃ q : Nat, ∃ f : EthFrame, ∃ vid : Nat, ∃ c : Nat, s.Up ∧ tfind?
      s.hlk.serving k = none ∧ s.activeOp k Blk.FAB 1 = some x ∧ paramField x.param 0 1 = 3 ∧ d.length = paramField x.param 16
      2 ∧ 60 ≤ d.length ∧ d.length ≤ s.maxFrame - 4 ∧ bitOf (paramField x.param 1 1) 0 = false ∧ s.fab.tx = [] ∧ s.txWaits k 3
      = false ∧ f = hostFrame d ∧ s.flag (Reg.FAB_EPe_CFG 3) 0 = true ∧ s.flag (Reg.FAB_EPe_CFG 4) 0 = false ∧ mgmtFrom
      f.etype 0 = none ∧ f.tag = none ∧ vid = fixVid (s.fld (Reg.FAB_EPe_CFG 3) 16 12) ∧ c = s.pcpClass 0 ∧ s.egressPorts 53
      vid f = [q] ∧ s.portPasses q true = true ∧ s.fab.queues = []) ∧
    (∃ s : State, ∃ k : Nat, ∃ x : Slot, ∃ p : Nat, ∃ c : Nat, ∃ fr : Nat × EthFrame, ∃ r : Bool, s.Up ∧ tfind? s.hlk.serving
      k = none ∧ p < 50 ∧ s.activeOp k Blk.FAB 1 = some x ∧ bitOf (paramField x.param 1 1) 0 = false ∧ s.nextClass p = some c
      ∧ s.fabQueue p c = [⟨fr.1, fr.2, 53, r, some k, none⟩] ∧ s.fab.tx = [⟨k, x.ord, [p], 0, 0, none, none⟩] ∧ tget (fun _ =>
      0) s.fab.wakeClk p ≤ s.clk) ∧
    (∃ s : State, ∃ k : Nat, ∃ x : Slot, s.Up ∧ tfind? s.hlk.serving k = none ∧ s.activeOp k Blk.FAB 2 = some x ∧ (paramField
      x.param 0 1 = 3 ∨ paramField x.param 0 1 = 4) ∧ s.maxFrame + 16 ≤ paramField x.param 16 2 ∧ k < 512) ∧
    (∃ s : State, ∃ k : Nat, ∃ e : Nat, ∃ p : Nat, ∃ l : List Nat, s.Up ∧ tfind? s.hlk.serving k = none ∧ p < 50 ∧ s.postedRx
      e = k :: l ∧ (s.slot k).st = .active ∧ (s.slot k).block = Blk.FAB) ∧
    (∃ s : State, ∃ k : Nat, ∃ x : Slot, ∃ mac : Nat, ∃ vid : Nat, s.Up ∧ tfind? s.hlk.serving k = none ∧ mac = beNat (leBytes
      6 (paramField x.param 0 6)) ∧ vid = paramField x.param 6 2 ∧ s.activeOp k Blk.FAB 3 = some x ∧ (s.bucketOf vid
      mac).length < 4) ∧
    (∃ s : State, ∃ k : Nat, ∃ x : Slot, ∃ mac : Nat, ∃ vid : Nat, s.Up ∧ tfind? s.hlk.serving k = none ∧ mac = beNat (leBytes
      6 (paramField x.param 0 6)) ∧ vid = paramField x.param 6 2 ∧ s.activeOp k Blk.FAB 4 = some x ∧ (s.fdbAt vid mac).isSome
      = true) ∧
    (∃ s : State, ∃ k : Nat, ∃ x : Slot, ∃ mac : Nat, ∃ vid : Nat, s.Up ∧ tfind? s.hlk.serving k = none ∧ mac = beNat (leBytes
      6 (paramField x.param 0 6)) ∧ vid = paramField x.param 6 2 ∧ s.activeOp k Blk.FAB 4 = some x ∧ s.fdbAt vid mac = none) ∧
    (∃ s : State, ∃ k : Nat, ∃ x : Slot, s.Up ∧ tfind? s.hlk.serving k = none ∧ s.activeOp k Blk.FAB 5 = some x ∧ paramField
      x.param 0 1 = 0xFF ∧ bitOf (paramField x.param 1 1) 0 = true) ∧
    (∃ s : State, ∃ k : Nat, ∃ x : Slot, ∃ l : List (Nat × FdbEntry), s.Up ∧ tfind? s.hlk.serving k = none ∧ s.activeOp k
      Blk.FAB 6 = some x ∧ l = s.fab.fdb.take (paramField x.param 16 4)) :=
  ⟨⟨wv0, 3, x1, dd [8,0], (hostFrame (dd [8,0])), by unfold State.Up; decide +kernel⟩,
   ⟨wv1, 3, x1, dd [0x88,0xB5], (hostFrame (dd [0x88,0xB5])), by unfold State.Up; decide +kernel⟩,
   ⟨wv2, 3, x1, dd [8,0], 20, (hostFrame (dd [8,0])), (fixVid (wv2.fld (Reg.FAB_EPe_CFG 3) 16 12)), (wv2.pcpClass 0),
     by unfold State.Up; decide +kernel⟩,
   ⟨wv3, 3, x1, 20, 3, (7,ff 1 2 0x800 true), false, by unfold State.Up; decide +kernel⟩,
   ⟨wv4, 3, x2, by unfold State.Up; decide +kernel⟩,
   ⟨wv4, 3, 4, 3, [], by unfold State.Up; decide +kernel⟩,
   ⟨wv5, 3, x3, (beNat (leBytes 6 (paramField (x3).param 0 6))), (paramField (x3).param 6 2),
     by unfold State.Up; decide +kernel⟩,
   ⟨wv7, 3, x4, (beNat (leBytes 6 (paramField (x4).param 0 6))), (paramField (x4).param 6 2),
     by unfold State.Up; decide +kernel⟩,
   ⟨wv8, 3, x4, (beNat (leBytes 6 (paramField (x4).param 0 6))), (paramField (x4).param 6 2),
     by unfold State.Up; decide +kernel⟩,
   ⟨wv9, 3, x5, by unfold State.Up; decide +kernel⟩,
   ⟨wv10, 3, x6, (wv10.fab.fdb.take (paramField (x6).param 16 4)), by unfold State.Up; decide +kernel⟩⟩
end FabricOperations

namespace PtpMessages
def nt (s : State) : State := (s.setFlag (Reg.CTRL Blk.NTU) 0 true)
def sv (s : State) (b : Nat) (x : Servo) : State := {s with ntu := {s.ntu with servos := [(b,x)]}}
def on (s : State) : State := {((s.setFlag (Reg.CTRL Blk.NTU) 0 true).setFld (Reg.NTU_TBn_CFG 0) 0 2 1).setFld (Reg.NTU_TBn_CFG 2) 0 2 1 with clk := 10^10, sup := {s.sup with roleStrap := 1}, tbs := s.tbs.map fun _ => ⟨(10^10)*nsUnit,3⟩, ntu := {s.ntu with master := some ⟨[0],9,0,49,2,10^10⟩}}
def mst (s : State) : State := (s.setFlag (Reg.FAB_PnSTAT 5) 0 true).setFlag (Reg.FAB_PnCFG 5) 0 true |>.setFlag (Reg.NTU_TBn_CFG 0) 4 true
def full (s : State) : State := s.setNum Reg.NTU_TSQ_USED 0xFFFFFFFF
def fo : Foreign := ⟨[5,9],7,1,48,1,10^10⟩
def tq (s : State) : State := fb (s.setNum Reg.NTU_TSQ_USED 0x20101) fun x => {x with queues := [(47,[⟨0,ff 1 2 0x800 true,52,true,none,some (1,1,77)⟩])]}
def Ns : List Nat := [0,1,2,5,49,77,48,78]
def Ss : List State := [on up0, sv (on up0) 0 {Servo.fresh with sync := some (77, 10^10), delay := some (77, 10^10)}, sv (on up0) 2 {Servo.fresh with sync := some (78, 10^10), updated := true, integ := 5}, (on up0).setFlag (Reg.NTU_TBn_CFG 0) 5 true, tq (mst (on up0)), mst (on up0), full (mst (on up0)), (((on up0).setFlag (Reg.FAB_PnSTAT 49) 0 true).setFlag (Reg.FAB_PnCFG 49) 0 true).setFlag (Reg.NTU_TBn_STAT 0) 4 true, {on up0 with ntu := {(on up0).ntu with master := none, foreign := [fo]}}]
def wv0 : State := ((Ss : List (State))[0]?).get (by decide +kernel)
def wv1 : Nat := ((Ns : List (Nat))[0]?).get (by decide +kernel)
def wv2 : Nat := ((Ns : List (Nat))[4]?).get (by decide +kernel)
def wv3 : State := ((Ss : List (State))[1]?).get (by decide +kernel)
def wv4 : State := ((Ss : List (State))[2]?).get (by decide +kernel)
def wv5 : Nat := ((Ns : List (Nat))[2]?).get (by decide +kernel)
def wv6 : Nat := ((Ns : List (Nat))[7]?).get (by decide +kernel)
def wv7 : Nat := ((Ns : List (Nat))[1]?).get (by decide +kernel)
def wv8 : State := ((Ss : List (State))[5]?).get (by decide +kernel)
def wv9 : Nat := ((Ns : List (Nat))[3]?).get (by decide +kernel)
def wv10 : State := ((Ss : List (State))[6]?).get (by decide +kernel)
def wv11 : State := ((Ss : List (State))[7]?).get (by decide +kernel)
def wv12 : State := ((Ss : List (State))[4]?).get (by decide +kernel)
def wv13 : Nat := ((Ns : List (Nat))[5]?).get (by decide +kernel)
def wv14 : State := ((Ss : List (State))[8]?).get (by decide +kernel)
def wv15 : Nat := ((Ns : List (Nat))[6]?).get (by decide +kernel)
/-- A state and operands for each clause of `PtpMessages`. -/
theorem witness_PtpMessages_0 :
    (∃ s : State, ∃ b : Nat, ∃ p : Nat, s.Up ∧ s.tbs.length = 4 ∧ s.ptpSlave b p = true) ∧
    (∃ s : State, ∃ b : Nat, ∃ p : Nat, ∃ t2 : Int, s.Up ∧ s.tbs.length = 4 ∧ s.ptpSlave b p = true ∧ (s.servo b).sync = some
      (77, t2)) ∧
    (∃ s : State, ∃ b : Nat, ∃ p : Nat, ∃ q : Nat, ∃ t2 : Int, s.Up ∧ s.tbs.length = 4 ∧ s.ptpSlave b p = true ∧ (s.servo
      b).sync = some (q, t2) ∧ q ≠ 77) ∧
    (∃ s : State, ∃ b : Nat, ∃ p : Nat, ∃ t3 : Int, s.Up ∧ s.tbs.length = 4 ∧ s.ptpSlave b p = true ∧ (s.servo b).delay = some
      (77, t3)) ∧
    (∃ s : State, ∃ b : Nat, ∃ p : Nat, ∃ t2 : Int, ∃ t1 : Int, ∃ th : Int, ∃ u : State, s.Up ∧ s.tbs.length = 4 ∧ (b = 0 ∨ b
      = 2) ∧ th = t2 - t1 - (s.num (Reg.NTU_TBn_MPD b) : Int) ∧ u = s.acceptSync b p t2 t1) ∧
    (∃ s : State, ∃ b : Nat, ∃ p : Nat, ∃ t2 : Int, ∃ t1 : Int, ∃ th : Int, ∃ u : State, ∃ i : Int, s.Up ∧ s.tbs.length = 4 ∧
      (b = 0 ∨ b = 2) ∧ th = t2 - t1 - (s.num (Reg.NTU_TBn_MPD b) : Int) ∧ u = s.acceptSync b p t2 t1 ∧ s.stepsNow b th =
      false ∧ i = (s.servo b).integ + (s.fld (Reg.NTU_TBn_SERVO b) 16 16 : Int) * th) ∧
    (∃ s : State, ∃ b : Nat, ∃ p : Nat, ∃ t2 : Int, ∃ t1 : Int, ∃ th : Int, ∃ u : State, s.Up ∧ s.tbs.length = 4 ∧ (b = 0 ∨ b
      = 2) ∧ th = t2 - t1 - (s.num (Reg.NTU_TBn_MPD b) : Int) ∧ u = s.acceptSync b p t2 t1 ∧ s.stepsNow b th = true) ∧
    (∃ s : State, ∃ b : Nat, ∃ p : Nat, s.Up ∧ s.tbs.length = 4 ∧ s.ptpMaster b p = true) ∧
    (∃ s : State, ∃ b : Nat, ∃ p : Nat, ∃ q : Nat, s.Up ∧ s.tbs.length = 4 ∧ s.ptpMaster b p = true ∧ s.portPasses p false =
      true ∧ q = ((s.servo b).txSeq + 1) % 65536 ∧ s.fab.queues = [] ∧ s.flag (Reg.FAB_PnSTAT p) 6 = false ∧ s.ptpDue b p 0
      (secClk / 2 ^ s.logRate b) = true ∧ (s.takeTs p).isSome = true) ∧
    (∃ s : State, ∃ b : Nat, ∃ p : Nat, ∃ q : Nat, s.Up ∧ s.tbs.length = 4 ∧ s.ptpMaster b p = true ∧ s.portPasses p false =
      true ∧ q = ((s.servo b).txSeq + 1) % 65536 ∧ s.fab.queues = [] ∧ s.flag (Reg.FAB_PnSTAT p) 6 = false ∧ s.ptpDue b p 0
      (secClk / 2 ^ s.logRate b) = true ∧ s.takeTs p = none ∧ s.Alone) ∧
    (∃ s : State, ∃ b : Nat, ∃ p : Nat, ∃ q : Nat, s.Up ∧ s.tbs.length = 4 ∧ s.ptpMaster b p = true ∧ s.portPasses p false =
      true ∧ q = ((s.servo b).txSeq + 1) % 65536 ∧ s.fab.queues = [] ∧ s.flag (Reg.FAB_PnSTAT p) 6 = false ∧ b = 1 ∧ s.ptpDue
      b p 11 secClk = true) ∧
    (∃ s : State, ∃ b : Nat, ∃ p : Nat, ∃ q : Nat, s.Up ∧ s.tbs.length = 4 ∧ p = 48 + s.fld (Reg.NTU_TBn_STAT b) 4 1 ∧
      s.ptpSlave b p = true ∧ s.portPasses p false = true ∧ s.ptpDue b p 1 (secClk / 2 ^ s.logRate b) = true ∧ s.fab.queues =
      [] ∧ s.flag (Reg.FAB_PnSTAT p) 6 = false ∧ q = ((s.servo b).txSeq + 1) % 65536 ∧ (s.takeTs p).isSome = true) :=
  ⟨⟨wv0, wv1, wv2, by unfold State.Up; decide +kernel⟩,
   ⟨wv3, wv1, wv2, 10^10, by unfold State.Up; decide +kernel⟩,
   ⟨wv4, wv5, wv2, wv6, 10^10, by unfold State.Up; decide +kernel⟩,
   ⟨wv3, wv1, wv2, 10^10, by unfold State.Up; decide +kernel⟩,
   ⟨wv0, wv1, wv1, 10^10+5, 10^10+5, ((10^10+5) - (10^10+5) - (wv0.num (Reg.NTU_TBn_MPD wv1) : Int)), (wv0.acceptSync wv1 wv1
     (10^10+5) (10^10+5)), by unfold State.Up; decide +kernel⟩,
   ⟨wv0, wv1, wv1, 10^10+5, 10^10+5, ((10^10+5) - (10^10+5) - (wv0.num (Reg.NTU_TBn_MPD wv1) : Int)), (wv0.acceptSync wv1 wv1
     (10^10+5) (10^10+5)), ((wv0.servo wv1).integ + (wv0.fld (Reg.NTU_TBn_SERVO wv1) 16 16 : Int) * (((10^10+5) - (10^10+5) -
     (wv0.num (Reg.NTU_TBn_MPD wv1) : Int)))), by unfold State.Up; decide +kernel⟩,
   ⟨wv0, wv5, wv1, 10^10+5, 10^10+5, ((10^10+5) - (10^10+5) - (wv0.num (Reg.NTU_TBn_MPD wv5) : Int)), (wv0.acceptSync wv5 wv1
     (10^10+5) (10^10+5)), by unfold State.Up; decide +kernel⟩,
   ⟨wv0, wv7, wv1, by unfold State.Up; decide +kernel⟩,
   ⟨wv8, wv1, wv9, (((wv8.servo wv1).txSeq + 1) % 65536), by unfold State.Up; decide +kernel⟩,
   ⟨wv10, wv1, wv9, (((wv10.servo wv1).txSeq + 1) % 65536), by unfold State.Up State.Alone; decide +kernel⟩,
   ⟨wv8, wv7, wv9, (((wv8.servo wv7).txSeq + 1) % 65536), by unfold State.Up; decide +kernel⟩,
   ⟨wv11, wv1, wv2, (((wv11.servo wv1).txSeq + 1) % 65536), by unfold State.Up; decide +kernel⟩⟩
/-- A state and operands for each clause of `PtpMessages`. -/
theorem witness_PtpMessages_1 :
    (∃ s : State, ∃ b : Nat, ∃ p : Nat, ∃ fr : EthFrame, ∃ r : Bool, ∃ q : Nat, s.Up ∧ s.tbs.length = 4 ∧ p < 50 ∧ b < 3 ∧
      s.nextClass p = some 7 ∧ s.fabQueue p 7 = [⟨s.fab.nextId, fr, 52, r, none, some (b, 1, q)⟩] ∧ tget (fun _ => 0)
      s.fab.wakeClk p ≤ s.clk) ∧
    (∃ s : State, ∃ p : Nat, ∃ src : Nat, s.Up ∧ s.tbs.length = 4 ∧ src = 0xA0 ∧ (p = 48 ∨ p = 49) ∧ s.en Blk.NTU = true ∧
      s.inSrst Blk.NTU = false ∧ s.ntu.foreign = []) ∧
    (∃ s : State, ∃ p : Nat, ∃ data : List Nat, ∃ gm : Nat, ∃ src : Nat, ∃ f : Foreign, s.Up ∧ s.tbs.length = 4 ∧ src = 0xA0 ∧
      (p = 48 ∨ p = 49) ∧ s.en Blk.NTU = true ∧ s.inSrst Blk.NTU = false ∧ s.ntu.foreign = [f] ∧ f.port = p ∧ f.data.getLast?
      = data.getLast? ∧ s.clk ≤ f.clk + 4 * secClk ∧ 1 ≤ f.count ∧ gm < 2 ^ 64) :=
  ⟨⟨wv12, wv7, wv9, ff 1 2 0x800 true, true, wv13, by unfold State.Up; decide +kernel⟩,
   ⟨wv0, wv2, (0xA0), by unfold State.Up; decide +kernel⟩,
   ⟨wv14, wv15, [1,2,3,9], wv1, (0xA0), fo, by unfold State.Up; decide +kernel⟩⟩
end PtpMessages

namespace BasesAndGenerators
def nt (s : State) : State := (s.setFlag (Reg.CTRL Blk.NTU) 0 true)
def on (s : State) : State := {(s.setFlag (Reg.CTRL Blk.NTU) 0 true) with clk := 10^10, tbs := s.tbs.map fun _ => ⟨(10^10)*nsUnit,3⟩}
def o (n : Nat) (l : List (Nat × Nat × Nat)) : Slot := mkOp Blk.NTU n 0 l
def x1 := o 1 [(0,1,3),(8,8,77),(16,4,999)]
def x1b := o 1 [(0,1,1),(8,8,77),(16,4,999)]
def x2b := o 2 [(0,1,1),(4,4,0xFFFFFFFF)]
def x2 := o 2 [(0,1,3),(4,4,0xFFFFFFFF)]
def x2z := o 2 [(0,1,3)]
def x3 := o 3 [(0,1,7),(1,1,3),(2,1,0xFF),(8,8,77),(16,4,5),(20,4,100),(24,4,99)]
def x4 := o 4 [(0,1,7)]
def Xs : List Slot := [x1,x1b,x2,x2b,x2z,x3,x4]
def cl : Claim := ⟨0x3007,Blk.NTU,1,7⟩
def ad : TbAdj := ⟨3,0,3,5,77⟩
def As : List TbAdj := [ad]
def Ns : List Nat := [0,1,3,7,2]
def sv (s : State) (b : Nat) (x : Servo) : State := {s with ntu := {s.ntu with servos := [(b,x)]}}
def Ss : List State := [((on up0).setFld (Reg.NTU_TBn_CFG 1) 0 2 2).setFlag (Reg.NTU_TBn_STAT 0) 1 true |> fun s => {s with tbs := s.tbs.set 0 ⟨0,100000⟩}, (on up0).setFld (Reg.NTU_TBn_CFG 3) 0 2 2 |>.setFld (Reg.NTU_TBn_CFG 3) 2 2 2 |> fun s => {s with ntu := {s.ntu with tb3Off := -55}}, sv ((on up0).setFld (Reg.NTU_TBn_CFG 0) 0 2 1) 0 {Servo.fresh with syncClk := some 0, rates := [(3,-77)]}, ((on up0).setNum (Reg.NTU_PGg_CFG 7) 0x137 |>.setNum (Reg.NTU_PGg_WIDTH 7) 9), withOp (on up0) 3 x1, withOp (on up0) 3 x1b, withOp (on up0) 3 x2b,withOp (on up0) 3 x2,withOp (on up0) 3 x2z, {withOp (on up0) 3 x2 with ntu := {up0.ntu with adj := [ad]}}, withOp (on up0) 3 x3, {withOp (on up0) 3 x3 with claims := [cl]}, {withOp ((on up0).setFlag (Reg.NTU_PGg_CFG 7) 0 true) 3 x4 with claims := [cl]}]
def wv0 : State := ((Ss : List (State))[0]?).get (by decide +kernel)
def wv1 : State := ((Ss : List (State))[1]?).get (by decide +kernel)
def wv2 : State := ((Ss : List (State))[2]?).get (by decide +kernel)
def wv3 : Nat := ((Ns : List (Nat))[0]?).get (by decide +kernel)
def wv4 : Nat := ((Ns : List (Nat))[2]?).get (by decide +kernel)
def wv5 : Nat := ((wv2.servo wv3).syncClk).get (by decide +kernel)
def wv6 : State := ((Ss : List (State))[3]?).get (by decide +kernel)
def wv7 : Nat := ((Ns : List (Nat))[3]?).get (by decide +kernel)
def wv8 : State := ((Ss : List (State))[5]?).get (by decide +kernel)
def wv9 : Slot := ((Xs : List (Slot))[1]?).get (by decide +kernel)
def wv10 : Nat := ((Ns : List (Nat))[1]?).get (by decide +kernel)
def wv11 : State := ((Ss : List (State))[4]?).get (by decide +kernel)
def wv12 : Slot := ((Xs : List (Slot))[0]?).get (by decide +kernel)
def wv13 : State := ((Ss : List (State))[8]?).get (by decide +kernel)
def wv14 : Slot := ((Xs : List (Slot))[4]?).get (by decide +kernel)
def wv15 : State := ((Ss : List (State))[7]?).get (by decide +kernel)
def wv16 : Slot := ((Xs : List (Slot))[2]?).get (by decide +kernel)
def wv17 : State := ((Ss : List (State))[9]?).get (by decide +kernel)
def wv18 : TbAdj := ((As : List (TbAdj))[0]?).get (by decide +kernel)
def wv19 : State := ((Ss : List (State))[10]?).get (by decide +kernel)
def wv20 : Slot := (wv19.activeOp wv4 Blk.NTU 3).get (by decide +kernel)
def wv21 : State := ((Ss : List (State))[11]?).get (by decide +kernel)
def wv22 : Slot := (wv21.activeOp wv4 Blk.NTU 3).get (by decide +kernel)
def wv23 : Claim := (wv21.claimOf (0x3000 + ((paramField wv22.param 0 1)))).get (by decide +kernel)
def wv24 : State := ((Ss : List (State))[12]?).get (by decide +kernel)
def wv25 : Slot := (wv24.activeOp wv4 Blk.NTU 4).get (by decide +kernel)
/-- A state and operands for each clause of `BasesAndGenerators`. -/
theorem witness_BasesAndGenerators :
    (∃ s : State, ∃ r : Int, s.Up ∧ s.tbs.length = 4 ∧ s.inSrst Blk.NTU = false ∧ s.tbSource 1 = 2 ∧ s.flag (Reg.NTU_TBn_STAT
      0) 1 = true ∧ tfind? s.ntu.follow 1 = none ∧ r = clampInt (-32768000) 32768000 ((s.tb 1).rate + clampInt (-819) 819
      ((s.tb 0).rate - (s.tb 1).rate))) ∧
    (∃ s : State, ∃ m : Nat, s.Up ∧ s.tbs.length = 4 ∧ s.inSrst Blk.NTU = false ∧ s.tbSource 3 = 2 ∧ m = s.fld
      (Reg.NTU_TBn_CFG 3) 2 2 ∧ m ≠ 3 ∧ (∀ c, tfind? s.ntu.follow 3 = some c → c + 125 * msClk ≤ s.clk)) ∧
    (∃ s : State, ∃ b : Nat, ∃ c1 : Nat, ∃ r : Int, ∃ c : Nat, s.Up ∧ s.tbs.length = 4 ∧ s.inSrst Blk.NTU = false ∧ b < 3 ∧
      (s.servo b).syncClk = some c ∧ s.tbSource b = 1 ∧ s.flag (Reg.NTU_TBn_STAT b) 2 = false ∧ c + 3 * secClk ≤ s.clk ∧
      (s.servo b).rates = [(c1, r)] ∧ s.Alone) ∧
    (∃ s : State, ∃ g : Nat, s.Up ∧ s.tbs.length = 4 ∧ s.inSrst Blk.NTU = false ∧ g < 8 ∧ s.flag (Reg.NTU_PGg_CFG g) 0 = true
      ∧ s.pgEdge g ≤ (s.tb (s.fld (Reg.NTU_PGg_CFG g) 1 2)).total ∧ s.fld (Reg.NTU_PGg_CFG g) 4 4 ≤ 3) ∧
    (∃ s : State, ∃ k : Nat, ∃ x : Slot, ∃ n : Nat, ∃ op : Nat, s.Up ∧ s.tbs.length = 4 ∧ s.inSrst Blk.NTU = false ∧ tfind?
      s.hlk.serving k = none ∧ n = paramField x.param 0 1 ∧ n ≤ 3 ∧ (op = 1 ∨ op = 2) ∧ s.activeOp k Blk.NTU op = some x ∧
      s.tbLocked n = true ∧ s.ntu.adj = []) ∧
    (∃ s : State, ∃ k : Nat, ∃ x : Slot, ∃ n : Nat, s.Up ∧ s.tbs.length = 4 ∧ s.inSrst Blk.NTU = false ∧ tfind? s.hlk.serving
      k = none ∧ n = paramField x.param 0 1 ∧ n ≤ 3 ∧ s.activeOp k Blk.NTU 1 = some x ∧ s.tbLocked n = false ∧ s.tbSource 3 ≠
      2) ∧
    (∃ s : State, ∃ k : Nat, ∃ x : Slot, ∃ n : Nat, ∃ d : Int, s.Up ∧ s.tbs.length = 4 ∧ s.inSrst Blk.NTU = false ∧ tfind?
      s.hlk.serving k = none ∧ n = paramField x.param 0 1 ∧ n ≤ 3 ∧ s.activeOp k Blk.NTU 2 = some x ∧ s.tbLocked n = false ∧
      s.ntu.adj = [] ∧ d = signed 32 (paramField x.param 4 4) ∧ d = 0) ∧
    (∃ s : State, ∃ k : Nat, ∃ x : Slot, ∃ n : Nat, ∃ d : Int, ∃ r : Int, s.Up ∧ s.tbs.length = 4 ∧ s.inSrst Blk.NTU = false ∧
      tfind? s.hlk.serving k = none ∧ n = paramField x.param 0 1 ∧ n ≤ 3 ∧ s.activeOp k Blk.NTU 2 = some x ∧ s.tbLocked n =
      false ∧ s.ntu.adj = [] ∧ d = signed 32 (paramField x.param 4 4) ∧ d ≠ 0 ∧ r = clampInt (-32768000) 32768000 ((s.tb
      n).rate + (if d < 0 then -32768000 else 32768000))) ∧
    (∃ s : State, ∃ a : TbAdj, ∃ k : Nat, s.Up ∧ s.tbs.length = 4 ∧ s.inSrst Blk.NTU = false ∧ s.ntu.adj = [a] ∧ a.tag = k ∧
      a.base < 4 ∧ a.endClk ≤ s.clk ∧ (s.slot k).ord = a.ord ∧ (s.slot k).st = .active ∧ (s.slot k).block = Blk.NTU ∧ tfind?
      s.hlk.serving k = none) ∧
    (∃ s : State, ∃ k : Nat, ∃ x : Slot, ∃ g : Nat, ∃ n : Nat, ∃ st : Nat, ∃ per : Nat, ∃ w : Nat, s.Up ∧ s.tbs.length = 4 ∧
      s.inSrst Blk.NTU = false ∧ tfind? s.hlk.serving k = none ∧ s.activeOp k Blk.NTU 3 = some x ∧ g = paramField x.param 0 1
      ∧ n = paramField x.param 1 1 ∧ paramField x.param 2 1 = 0xFF ∧ paramField x.param 3 1 = 0 ∧ st = paramField x.param 8 8
      * 1000000000 + paramField x.param 16 4 ∧ per = paramField x.param 20 4 ∧ w = paramField x.param 24 4 ∧ g ≤ 7 ∧ n ≤ 3 ∧
      100 ≤ per ∧ w < per ∧ s.flag (Reg.NTU_PGg_CFG g) 0 = false ∧ s.mode ≠ Mode.MINIMAL ∧ s.Alone ∧ s.claimOf (0x3000 + g) =
      none ∧ (s.tb n).total.toNat < st) ∧
    (∃ s : State, ∃ k : Nat, ∃ x : Slot, ∃ g : Nat, ∃ n : Nat, ∃ st : Nat, ∃ per : Nat, ∃ w : Nat, ∃ d : Claim, s.Up ∧
      s.tbs.length = 4 ∧ s.inSrst Blk.NTU = false ∧ tfind? s.hlk.serving k = none ∧ s.activeOp k Blk.NTU 3 = some x ∧ g =
      paramField x.param 0 1 ∧ n = paramField x.param 1 1 ∧ paramField x.param 2 1 = 0xFF ∧ paramField x.param 3 1 = 0 ∧ st =
      paramField x.param 8 8 * 1000000000 + paramField x.param 16 4 ∧ per = paramField x.param 20 4 ∧ w = paramField x.param
      24 4 ∧ g ≤ 7 ∧ n ≤ 3 ∧ 100 ≤ per ∧ w < per ∧ s.flag (Reg.NTU_PGg_CFG g) 0 = false ∧ s.mode ≠ Mode.MINIMAL ∧ s.Alone ∧
      s.claimOf (0x3000 + g) = some d) ∧
    (∃ s : State, ∃ k : Nat, ∃ x : Slot, ∃ g : Nat, s.Up ∧ s.tbs.length = 4 ∧ s.inSrst Blk.NTU = false ∧ tfind? s.hlk.serving
      k = none ∧ s.activeOp k Blk.NTU 4 = some x ∧ g = paramField x.param 0 1 ∧ g ≤ 7 ∧ s.flag (Reg.NTU_PGg_CFG g) 0 = true) :=
  ⟨⟨wv0, (clampInt (-32768000) 32768000 ((wv0.tb 1).rate + clampInt (-819) 819 ((wv0.tb 0).rate - (wv0.tb 1).rate))),
     by unfold State.Up; decide +kernel⟩,
   ⟨wv1, (wv1.fld (Reg.NTU_TBn_CFG 3) 2 2), by unfold State.Up; decide +kernel⟩,
   ⟨wv2, wv3, wv4, -77, wv5, by unfold State.Up; decide +kernel, by decide +kernel, by decide +kernel, by decide +kernel,
     (Option.some_get _).symm, by decide +kernel, by decide +kernel, by decide +kernel, by decide +kernel,
     by unfold State.Alone; decide +kernel⟩,
   ⟨wv6, wv7, by unfold State.Up; decide +kernel⟩,
   ⟨wv8, wv4, wv9, (paramField wv9.param 0 1), wv10, by unfold State.Up; decide +kernel⟩,
   ⟨wv11, wv4, wv12, (paramField wv12.param 0 1), by unfold State.Up; decide +kernel⟩,
   ⟨wv13, wv4, wv14, (paramField wv14.param 0 1), (signed 32 (paramField wv14.param 4 4)), by unfold State.Up; decide +kernel⟩,
   ⟨wv15, wv4, wv16, (paramField wv16.param 0 1), (signed 32 (paramField wv16.param 4 4)), (clampInt (-32768000) 32768000
     ((wv15.tb ((paramField wv16.param 0 1))).rate + (if ((signed 32 (paramField wv16.param 4 4))) < 0 then -32768000 else
     32768000))), by unfold State.Up; decide +kernel⟩,
   ⟨wv17, wv18, wv4, by unfold State.Up; decide +kernel⟩,
   ⟨wv19, wv4, wv20, (paramField wv20.param 0 1), (paramField wv20.param 1 1), (paramField wv20.param 8 8 * 1000000000 +
     paramField wv20.param 16 4), (paramField wv20.param 20 4), (paramField wv20.param 24 4),
     by unfold State.Up; decide +kernel, by decide +kernel, by decide +kernel, by decide +kernel, (Option.some_get _).symm,
     rfl, rfl, by decide +kernel, by decide +kernel, rfl, rfl, rfl, by decide +kernel, by decide +kernel, by decide +kernel,
     by decide +kernel, by decide +kernel, by decide +kernel, by unfold State.Alone; decide +kernel, by decide +kernel, by
     decide +kernel⟩,
   ⟨wv21, wv4, wv22, (paramField wv22.param 0 1), (paramField wv22.param 1 1), (paramField wv22.param 8 8 * 1000000000 +
     paramField wv22.param 16 4), (paramField wv22.param 20 4), (paramField wv22.param 24 4), wv23,
     by unfold State.Up; decide +kernel, by decide +kernel, by decide +kernel, by decide +kernel, (Option.some_get _).symm,
     rfl, rfl, by decide +kernel, by decide +kernel, rfl, rfl, rfl, by decide +kernel, by decide +kernel, by decide +kernel,
     by decide +kernel, by decide +kernel, by decide +kernel, by unfold State.Alone; decide +kernel, (Option.some_get _).symm⟩,
   ⟨wv24, wv4, wv25, (paramField wv25.param 0 1), by unfold State.Up; decide +kernel, by decide +kernel, by decide +kernel, by
     decide +kernel, (Option.some_get _).symm, rfl, by decide +kernel, by decide +kernel⟩⟩
end BasesAndGenerators

end FabNtu

/-! ### Fbc -/

namespace Fbc

def nf : NodeField := ⟨3,5,4,0,2⟩
def act (s : State) : State := s.setFld (Reg.FBC_CHc_STAT 3) 0 2 1 |>.setFlag (Reg.FBC_CHc_CFG 3) 0 true
def w0 : State := act ({up0.setFlag (Reg.CTRL Blk.FBC) 0 true with clk := 10^13, lat := {up0.lat with pos := 2^32*(10^7+77)}})
def fm (s : State) (f : Fbc → Fbc) : State := {s with fbc := f s.fbc}
def ch (s : State) (f : CanCh → CanCh) : State := s.setCanCh 3 (f (s.canCh 3))
def rxb (s : State) : State := (s.setNum (Reg.FBC_MBb_CFG 3 63) 1).setNum (Reg.FBC_MBb_ID 3 63) 5
def txb (s : State) : State := (s.setNum (Reg.FBC_MBb_CFG 3 63) (3 + 4 + 2*64)).setNum (Reg.FBC_MBb_ID 3 63) 5
def bs : List Byte := (List.range 10).map (BitVec.ofNat 8 ·)
def pe : State := w0.setFlag (Reg.FBC_MBb_HDR 3 63) 19 true
def nd (s : State) : State := fm ((s.setNum (Reg.FBC_NDn_CFG 3 5) (1 + 63*2+128 + 65536*7))) fun x => {x with inMap := [(5,nf)]}
def pt (s : State) : State := s.setPoint 5 {s.point 5 with type := PtType.BOOL+3, quality := Q.GOOD}

namespace FieldBusReceives
def lk (e : Nat) (s : State) : State := (ch s fun x => {x with lock := some (e,5)})
def rx1 : CanRx := ⟨⟨5,false,false,false,[1]⟩,false,3⟩
def Ss : List State := [w0, rxb w0, lk 63 (rxb w0), ((pt (nd (rxb w0))).setNum Reg.LCP_PT_BASE 0xFFFF).setNum Reg.LCP_GRP_BASE 0xFFFF, ch w0 (fun x => {x with rx := List.replicate 64 rx1}), w0.setFld (Reg.FBC_CHc_RXF_MASK 3) 0 29 0x1FFFFFFF, lk 64 (ch w0 fun x => {x with rx := [rx1,rx1]}), lk 64 (ch w0 fun x => {x with rx := [rx1]})]
def wv0 : State := ((Ss : List (State))[0]?).get (by decide +kernel)
def wv1 : State := ((Ss : List (State))[1]?).get (by decide +kernel)
def wv2 : State := ((Ss : List (State))[2]?).get (by decide +kernel)
def wv3 : State := ((Ss : List (State))[3]?).get (by decide +kernel)
def wv4 : State := ((Ss : List (State))[4]?).get (by decide +kernel)
def wv5 : State := ((Ss : List (State))[5]?).get (by decide +kernel)
def wv6 : State := ((Ss : List (State))[6]?).get (by decide +kernel)
/-- A state and operands for each clause of `FieldBusFrames`. -/
theorem witness_FieldBusReceives :
    (∃ s : State, ∃ c : Nat, ∃ b : Nat, s.Up ∧ c ≤ 3 ∧ b < 64 ∧ s.onBus c = true ∧ s.fld (Reg.FBC_CHc_ERR c) 9 8 = 0 ∧
      ((s.canCh c).lock = none ∨ s.Alone)) ∧
    (∃ s : State, ∃ c : Nat, ∃ b : Nat, ∃ id : Nat, ∃ xtd : Bool, ∃ fdf : Bool, ∃ brs : Bool, ∃ d : List Byte, ∃ f : CanFrame,
      s.Up ∧ c ≤ 3 ∧ b < 64 ∧ s.onBus c = true ∧ s.fld (Reg.FBC_CHc_ERR c) 9 8 = 0 ∧ (fdf = false ∨ s.flag (Reg.FBC_CHc_CFG c)
      1 = true) ∧ d.length ≤ 64 ∧ f = CanFrame.mk id xtd fdf brs d ∧ ((s.canCh c).lock = none ∨ s.Alone) ∧ s.rxBuffer c f =
      some b ∧ (s.canCh c).lock = none ∧ (∀ n, n < 32 → s.nodeEn c n = false)) ∧
    (∃ s : State, ∃ c : Nat, ∃ b : Nat, ∃ id : Nat, ∃ xtd : Bool, ∃ fdf : Bool, ∃ brs : Bool, ∃ d : List Byte, ∃ f : CanFrame,
      ∃ cl : Nat, s.Up ∧ c ≤ 3 ∧ b < 64 ∧ s.onBus c = true ∧ s.fld (Reg.FBC_CHc_ERR c) 9 8 = 0 ∧ (fdf = false ∨ s.flag
      (Reg.FBC_CHc_CFG c) 1 = true) ∧ d.length ≤ 64 ∧ f = CanFrame.mk id xtd fdf brs d ∧ ((s.canCh c).lock = none ∨ s.Alone) ∧
      s.rxBuffer c f = some b ∧ (s.canCh c).lock = some (b, cl) ∧ (s.canBuf c b).shadow = none ∧ (∀ n, n < 32 → s.nodeEn c n =
      false)) ∧
    (∃ s : State, ∃ c : Nat, ∃ b : Nat, ∃ id : Nat, ∃ xtd : Bool, ∃ fdf : Bool, ∃ brs : Bool, ∃ d : List Byte, ∃ f : CanFrame,
      ∃ n : Nat, ∃ i : Nat, ∃ g : NodeField, s.Up ∧ c ≤ 3 ∧ b < 64 ∧ s.onBus c = true ∧ s.fld (Reg.FBC_CHc_ERR c) 9 8 = 0 ∧
      (fdf = false ∨ s.flag (Reg.FBC_CHc_CFG c) 1 = true) ∧ d.length ≤ 64 ∧ f = CanFrame.mk id xtd fdf brs d ∧ ((s.canCh
      c).lock = none ∨ s.Alone) ∧ s.rxBuffer c f = some b ∧ (s.canCh c).lock = none ∧ n < 32 ∧ s.nodeEn c n = true ∧ (∀ m, m <
      32 → m ≠ n → s.nodeEn c m = false) ∧ s.flag (Reg.FBC_NDn_CFG c n) 7 = true ∧ s.fld (Reg.FBC_NDn_CFG c n) 1 6 = b ∧
      s.flag (Reg.FBC_NDn_CFG c n) 15 = false ∧ s.fbc.inMap = [(i, g)] ∧ g.channel = c ∧ g.node = n ∧ (s.point i).type ≠
      PtType.NONE ∧ (s.point i).forced = false ∧ s.pointNote i = none ∧ s.copiesOf i = [] ∧ s.overrideOf i = none ∧ s.lcpPoint
      i = false) ∧
    (∃ s : State, ∃ c : Nat, ∃ b : Nat, ∃ id : Nat, ∃ xtd : Bool, ∃ fdf : Bool, ∃ brs : Bool, ∃ d : List Byte, ∃ f : CanFrame,
      s.Up ∧ c ≤ 3 ∧ b < 64 ∧ s.onBus c = true ∧ s.fld (Reg.FBC_CHc_ERR c) 9 8 = 0 ∧ (fdf = false ∨ s.flag (Reg.FBC_CHc_CFG c)
      1 = true) ∧ d.length ≤ 64 ∧ f = CanFrame.mk id xtd fdf brs d ∧ ((s.canCh c).lock = none ∨ s.Alone) ∧ s.rxBuffer c f =
      none ∧ s.rxFilter c f = true ∧ (s.canCh c).rx = []) ∧
    (∃ s : State, ∃ c : Nat, ∃ b : Nat, ∃ id : Nat, ∃ xtd : Bool, ∃ fdf : Bool, ∃ brs : Bool, ∃ d : List Byte, ∃ f : CanFrame,
      s.Up ∧ c ≤ 3 ∧ b < 64 ∧ s.onBus c = true ∧ s.fld (Reg.FBC_CHc_ERR c) 9 8 = 0 ∧ (fdf = false ∨ s.flag (Reg.FBC_CHc_CFG c)
      1 = true) ∧ d.length ≤ 64 ∧ f = CanFrame.mk id xtd fdf brs d ∧ ((s.canCh c).lock = none ∨ s.Alone) ∧ s.rxBuffer c f =
      none ∧ s.rxFilter c f = true ∧ 64 ≤ (s.canCh c).rx.length) ∧
    (∃ s : State, ∃ c : Nat, ∃ b : Nat, ∃ id : Nat, ∃ xtd : Bool, ∃ fdf : Bool, ∃ brs : Bool, ∃ d : List Byte, ∃ f : CanFrame,
      s.Up ∧ c ≤ 3 ∧ b < 64 ∧ s.onBus c = true ∧ s.fld (Reg.FBC_CHc_ERR c) 9 8 = 0 ∧ (fdf = false ∨ s.flag (Reg.FBC_CHc_CFG c)
      1 = true) ∧ d.length ≤ 64 ∧ f = CanFrame.mk id xtd fdf brs d ∧ ((s.canCh c).lock = none ∨ s.Alone) ∧ s.rxBuffer c f =
      none ∧ s.rxFilter c f = false) ∧
    (∃ s : State, ∃ c : Nat, ∃ b : Nat, s.Up ∧ c ≤ 3 ∧ b < 64 ∧ (s.canCh c).lock = none ∧ s.flag (Reg.FBC_MBb_CFG c b) 0 =
      true ∧ s.flag (Reg.FBC_MBb_CFG c b) 1 = false) ∧
    (∃ s : State, ∃ c : Nat, ∃ b : Nat, ∃ cl : Nat, s.Up ∧ c ≤ 3 ∧ b < 64 ∧ (s.canCh c).lock = some (b, cl) ∧ (s.canBuf c
      b).shadow = none) ∧
    (∃ s : State, ∃ c : Nat, ∃ b : Nat, ∃ cl : Nat, ∃ x : CanRx, ∃ l : List CanRx, s.Up ∧ c ≤ 3 ∧ b < 64 ∧ (s.canCh c).lock =
      some (64, cl) ∧ (s.canCh c).rx = x :: l) ∧
    (∃ s : State, ∃ c : Nat, ∃ b : Nat, ∃ cl : Nat, s.Up ∧ c ≤ 3 ∧ b < 64 ∧ s.fld (Reg.FBC_CHc_TMR c) 16 8 = 0 ∧ (s.canCh
      c).lock = some (b, cl) ∧ cl + 80000 ≤ s.clk ∧ (s.canBuf c b).shadow = none) :=
  ⟨⟨wv0, 3, 3, by unfold State.Up State.Alone; decide +kernel⟩,
   ⟨wv1, 3, 63, 5, false, false, true, bs, (CanFrame.mk (5) (false) (false) (true) (bs)),
     by unfold State.Up State.Alone; decide +kernel⟩,
   ⟨wv2, 3, 63, 5, false, false, true, bs, (CanFrame.mk (5) (false) (false) (true) (bs)), 5,
     by unfold State.Up State.Alone; decide +kernel⟩,
   ⟨wv3, 3, 63, 5, false, false, true, bs, (CanFrame.mk (5) (false) (false) (true) (bs)), 5, 5, nf,
     by unfold State.Up State.Alone; decide +kernel⟩,
   ⟨wv0, 3, 3, 3, true, false, true, bs, (CanFrame.mk (3) (true) (false) (true) (bs)),
     by unfold State.Up State.Alone; decide +kernel⟩,
   ⟨wv4, 3, 3, 3, true, false, true, bs, (CanFrame.mk (3) (true) (false) (true) (bs)),
     by unfold State.Up State.Alone; decide +kernel⟩,
   ⟨wv5, 3, 3, 3, true, false, true, bs, (CanFrame.mk (3) (true) (false) (true) (bs)),
     by unfold State.Up State.Alone; decide +kernel⟩,
   ⟨wv1, 3, 63, by unfold State.Up; decide +kernel⟩,
   ⟨wv2, 3, 63, 5, by unfold State.Up; decide +kernel⟩,
   ⟨wv6, 3, 3, 5, rx1, [rx1], by unfold State.Up; decide +kernel⟩,
   ⟨wv2, 3, 63, 5, by unfold State.Up; decide +kernel⟩⟩
end FieldBusReceives

namespace FieldBusSends
def xx (n b : Nat) : Slot := mkOp Blk.FBC 1 0 [(0,1,3),(1,1,b),(2,1,n),(3,1,1),(4,4,5+2^29)]
def o (s : State) (n b : Nat) : State := withOp s 5 (xx n b)
def fl (s : State) (src : Nat) (l : List Nat) : State := ch (withOp s 5 (xx 3 63)) fun x => {x with fly := some ⟨src,true,5,l,none⟩}
def f0 : CanFrame := ⟨5,false,false,false,bs⟩
def mxx : State := ((w0.setNum (Reg.FBC_CHc_CFG 3) 13).setFlag Reg.LAT_STATE 3 true).setNum (Reg.FBC_CHc_TT 3) (3+256*5+65536*77)
def pend (s : State) : State := (txb s).setFlag (Reg.FBC_MBb_HDR 3 63) 19 true
def sched : State := ch (pend ((((w0.setNum (Reg.FBC_CHc_CFG 3) 5).setFlag Reg.LAT_STATE 3 true).setNum (Reg.FBC_CHc_TT 3) (3+256*7)).setNum (Reg.FBC_CHc_CELLr_k 3 0 5) (1+4*63))) fun x => {x with rowAt := 10^7+77-8}
def Ss : List State := [o (w0.setFld Reg.SUP_MODE 0 2 Mode.MINIMAL) 8 255, o w0 9 255, o w0 8 255, o (w0.setFld (Reg.FBC_CHc_STAT 3) 0 2 3) 8 255, o (txb w0) 3 63, o (pend w0) 3 63,
 (fl (pend w0) 63 []).setCanBuf 3 63 ⟨some 5,some f0,3,0,false,none,none⟩, ch (fl w0 64 [5]) (fun x => {x with fifo := [⟨5,f0,3,5⟩]}), mxx, (pend w0).setFlag (Reg.FBC_CHc_STAT 3) 4 true, sched, (txb w0).setFld (Reg.FBC_CHc_TMR 3) 8 8 5]
def wv0 : State := ((Ss : List (State))[0]?).get (by decide +kernel)
def wv1 : Slot := (wv0.activeOp (5) Blk.FBC 1).get (by decide +kernel)
def wv2 : State := ((Ss : List (State))[1]?).get (by decide +kernel)
def wv3 : Slot := (wv2.activeOp (5) Blk.FBC 1).get (by decide +kernel)
def wv4 : State := ((Ss : List (State))[3]?).get (by decide +kernel)
def wv5 : Slot := (wv4.activeOp (5) Blk.FBC 1).get (by decide +kernel)
def wv6 : State := ((Ss : List (State))[2]?).get (by decide +kernel)
def wv7 : Slot := (wv6.activeOp (5) Blk.FBC 1).get (by decide +kernel)
def wv8 : State := ((Ss : List (State))[5]?).get (by decide +kernel)
def wv9 : Slot := (wv8.activeOp (5) Blk.FBC 1).get (by decide +kernel)
def wv10 : State := ((Ss : List (State))[4]?).get (by decide +kernel)
def wv11 : Slot := (wv10.activeOp (5) Blk.FBC 1).get (by decide +kernel)
def wv12 : State := ((Ss : List (State))[6]?).get (by decide +kernel)
def wv13 : State := ((Ss : List (State))[7]?).get (by decide +kernel)
def wv14 : State := ((Ss : List (State))[8]?).get (by decide +kernel)
def wv15 : State := ((Ss : List (State))[9]?).get (by decide +kernel)
def wv16 : State := ((Ss : List (State))[10]?).get (by decide +kernel)
def wv17 : State := ((Ss : List (State))[11]?).get (by decide +kernel)
/-- A state and operands for each clause of `FieldBusFrames`. -/
theorem witness_FieldBusSends_0 :
    (∃ s : State, ∃ c : Nat, ∃ b : Nat, ∃ k : Nat, ∃ w : List Byte, ∃ x : Slot, ∃ n : Nat, ∃ id : Nat, ∃ d : List Byte, ∃ f :
      CanFrame, s.Up ∧ c ≤ 3 ∧ b < 64 ∧ s.activeOp k Blk.FBC 1 = some x ∧ tfind? s.hlk.serving k = none ∧ paramField x.param 0
      1 = c ∧ n = paramField x.param 2 1 ∧ id = paramField x.param 4 4 ∧ bitOf (paramField x.param 3 1) 0 = true ∧ w.length =
      n ∧ x.ctx = 0 ∧ d = w ∧ f = CanFrame.mk (bitsOf id 0 29) (bitOf id 29) (bitOf id 30) (bitOf id 31) d ∧ s.fbc.bufs = [] ∧
      (s.canCh c).fifo = [] ∧ (s.canCh c).wait = [] ∧ s.flag (Reg.FBC_CHc_CFG c) 0 = true ∧ s.mode = Mode.MINIMAL) ∧
    (∃ s : State, ∃ c : Nat, ∃ b : Nat, ∃ k : Nat, ∃ w : List Byte, ∃ x : Slot, ∃ n : Nat, ∃ id : Nat, ∃ d : List Byte, ∃ f :
      CanFrame, s.Up ∧ c ≤ 3 ∧ b < 64 ∧ s.activeOp k Blk.FBC 1 = some x ∧ tfind? s.hlk.serving k = none ∧ paramField x.param 0
      1 = c ∧ n = paramField x.param 2 1 ∧ id = paramField x.param 4 4 ∧ bitOf (paramField x.param 3 1) 0 = true ∧ w.length =
      n ∧ x.ctx = 0 ∧ d = w ∧ f = CanFrame.mk (bitsOf id 0 29) (bitOf id 29) (bitOf id 30) (bitOf id 31) d ∧ s.fbc.bufs = [] ∧
      (s.canCh c).fifo = [] ∧ (s.canCh c).wait = [] ∧ s.flag (Reg.FBC_CHc_CFG c) 0 = true ∧ s.mode ≠ Mode.MINIMAL ∧ canLength
      n = false) ∧
    (∃ s : State, ∃ c : Nat, ∃ b : Nat, ∃ k : Nat, ∃ w : List Byte, ∃ x : Slot, ∃ n : Nat, ∃ id : Nat, ∃ d : List Byte, ∃ f :
      CanFrame, s.Up ∧ c ≤ 3 ∧ b < 64 ∧ s.activeOp k Blk.FBC 1 = some x ∧ tfind? s.hlk.serving k = none ∧ paramField x.param 0
      1 = c ∧ n = paramField x.param 2 1 ∧ id = paramField x.param 4 4 ∧ bitOf (paramField x.param 3 1) 0 = true ∧ w.length =
      n ∧ x.ctx = 0 ∧ d = w ∧ f = CanFrame.mk (bitsOf id 0 29) (bitOf id 29) (bitOf id 30) (bitOf id 31) d ∧ s.fbc.bufs = [] ∧
      (s.canCh c).fifo = [] ∧ (s.canCh c).wait = [] ∧ s.flag (Reg.FBC_CHc_CFG c) 0 = true ∧ s.mode ≠ Mode.MINIMAL ∧ n ≤ 8 ∧
      f.brs = false ∧ paramField x.param 1 1 = 0xFF ∧ s.canSt c = CanSt.BUS_OFF) ∧
    (∃ s : State, ∃ c : Nat, ∃ b : Nat, ∃ k : Nat, ∃ w : List Byte, ∃ x : Slot, ∃ n : Nat, ∃ id : Nat, ∃ d : List Byte, ∃ f :
      CanFrame, s.Up ∧ c ≤ 3 ∧ b < 64 ∧ s.activeOp k Blk.FBC 1 = some x ∧ tfind? s.hlk.serving k = none ∧ paramField x.param 0
      1 = c ∧ n = paramField x.param 2 1 ∧ id = paramField x.param 4 4 ∧ bitOf (paramField x.param 3 1) 0 = true ∧ w.length =
      n ∧ x.ctx = 0 ∧ d = w ∧ f = CanFrame.mk (bitsOf id 0 29) (bitOf id 29) (bitOf id 30) (bitOf id 31) d ∧ s.fbc.bufs = [] ∧
      (s.canCh c).fifo = [] ∧ (s.canCh c).wait = [] ∧ s.flag (Reg.FBC_CHc_CFG c) 0 = true ∧ s.mode ≠ Mode.MINIMAL ∧ n ≤ 8 ∧
      f.brs = false ∧ paramField x.param 1 1 = 0xFF ∧ s.canSt c ≠ CanSt.BUS_OFF) ∧
    (∃ s : State, ∃ c : Nat, ∃ b : Nat, ∃ k : Nat, ∃ w : List Byte, ∃ x : Slot, ∃ n : Nat, ∃ id : Nat, ∃ d : List Byte, ∃ f :
      CanFrame, s.Up ∧ c ≤ 3 ∧ b < 64 ∧ s.activeOp k Blk.FBC 1 = some x ∧ tfind? s.hlk.serving k = none ∧ paramField x.param 0
      1 = c ∧ n = paramField x.param 2 1 ∧ id = paramField x.param 4 4 ∧ bitOf (paramField x.param 3 1) 0 = true ∧ w.length =
      n ∧ x.ctx = 0 ∧ d = w ∧ f = CanFrame.mk (bitsOf id 0 29) (bitOf id 29) (bitOf id 30) (bitOf id 31) d ∧ s.fbc.bufs = [] ∧
      (s.canCh c).fifo = [] ∧ (s.canCh c).wait = [] ∧ s.flag (Reg.FBC_CHc_CFG c) 0 = true ∧ s.mode ≠ Mode.MINIMAL ∧ n ≤ 8 ∧
      f.brs = false ∧ paramField x.param 1 1 = b ∧ s.canSt c ≠ CanSt.BUS_OFF ∧ s.isTx c b = true ∧ s.nodeOfTx c b = none ∧
      s.bufPending c b = true) ∧
    (∃ s : State, ∃ c : Nat, ∃ b : Nat, ∃ k : Nat, ∃ w : List Byte, ∃ x : Slot, ∃ n : Nat, ∃ id : Nat, ∃ d : List Byte, ∃ f :
      CanFrame, s.Up ∧ c ≤ 3 ∧ b < 64 ∧ s.activeOp k Blk.FBC 1 = some x ∧ tfind? s.hlk.serving k = none ∧ paramField x.param 0
      1 = c ∧ n = paramField x.param 2 1 ∧ id = paramField x.param 4 4 ∧ bitOf (paramField x.param 3 1) 0 = true ∧ w.length =
      n ∧ x.ctx = 0 ∧ d = w ∧ f = CanFrame.mk (bitsOf id 0 29) (bitOf id 29) (bitOf id 30) (bitOf id 31) d ∧ s.fbc.bufs = [] ∧
      (s.canCh c).fifo = [] ∧ (s.canCh c).wait = [] ∧ s.flag (Reg.FBC_CHc_CFG c) 0 = true ∧ s.mode ≠ Mode.MINIMAL ∧ n ≤ 8 ∧
      f.brs = false ∧ paramField x.param 1 1 = b ∧ s.canSt c ≠ CanSt.BUS_OFF ∧ s.isTx c b = true ∧ s.nodeOfTx c b = none ∧
      s.bufPending c b = false) ∧
    (∃ s : State, ∃ c : Nat, ∃ b : Nat, ∃ k : Nat, ∃ fr : Bool, ∃ sof : Nat, s.Up ∧ c ≤ 3 ∧ b < 64 ∧ s.canSt c = CanSt.ACTIVE
      ∧ s.fld (Reg.FBC_CHc_ERR c) 0 9 = 0 ∧ s.fld (Reg.FBC_CHc_ERR c) 9 8 = 0 ∧ (s.slot k).st = .active ∧ (s.slot k).block =
      Blk.FBC ∧ tfind? s.hlk.serving k = none ∧ (s.canCh c).fly = some ⟨b, fr, sof, [], none⟩ ∧ (s.canBuf c b).tag = some k ∧
      (s.canBuf c b).newer = false ∧ s.nodeOfTx c b = none) ∧
    (∃ s : State, ∃ c : Nat, ∃ b : Nat, ∃ k : Nat, ∃ fr : Bool, ∃ sof : Nat, ∃ f : CanFrame, ∃ a : Nat, ∃ cl : Nat, s.Up ∧ c ≤
      3 ∧ b < 64 ∧ s.canSt c = CanSt.ACTIVE ∧ s.fld (Reg.FBC_CHc_ERR c) 0 9 = 0 ∧ s.fld (Reg.FBC_CHc_ERR c) 9 8 = 0 ∧ (s.slot
      k).st = .active ∧ (s.slot k).block = Blk.FBC ∧ tfind? s.hlk.serving k = none ∧ (s.canCh c).fly = some ⟨64, fr, sof, [k],
      none⟩ ∧ (s.canCh c).fifo = [⟨k, f, a, cl⟩] ∧ (s.canCh c).wait = []) ∧
    (∃ s : State, ∃ c : Nat, ∃ b : Nat, ∃ len : Nat, ∃ row : Nat, s.Up ∧ c ≤ 3 ∧ b < 64 ∧ s.onBus c = true ∧ s.flag
      (Reg.FBC_CHc_CFG c) 2 = true ∧ s.flag (Reg.FBC_CHc_CFG c) 3 = true ∧ s.flag Reg.LAT_STATE 3 = true ∧ len = 65536 /
      s.canRows c ∧ (s.canCh c).rowAt < s.chain - s.canAngle c % len ∧ row = s.canAngle c / len ∧ s.maySend c = true ∧ s.mode
      = Mode.RUN) ∧
    (∃ s : State, ∃ c : Nat, ∃ b : Nat, ∃ len : Nat, ∃ row : Nat, s.Up ∧ c ≤ 3 ∧ b < 64 ∧ s.onBus c = true ∧ s.flag
      (Reg.FBC_CHc_CFG c) 2 = true ∧ s.flag (Reg.FBC_CHc_CFG c) 3 = true ∧ s.flag Reg.LAT_STATE 3 = true ∧ len = 65536 /
      s.canRows c ∧ (s.canCh c).rowAt < s.chain - s.canAngle c % len ∧ row = s.canAngle c / len) ∧
    (∃ s : State, ∃ c : Nat, ∃ b : Nat, ∃ f : CanFrame, ∃ h : Nat, s.Up ∧ c ≤ 3 ∧ b < 64 ∧ s.maySend c = true ∧ f = s.bufFrame
      c b ∧ s.nodeOfTx c b = none ∧ s.bufMay c b = true ∧ s.bufPending c b = true ∧ s.handedNow c b = none ∧ h = (if f.xtd
      then 1 else 0) + (if f.fdf then 2 else 0) + (if f.brs then 4 else 0) ∧ s.flag (Reg.FBC_CHc_CFG c) 2 = false ∧ s.flag
      (Reg.FBC_CHc_STAT c) 4 = true ∧ (s.canCh c).fifo = [] ∧ (∀ j, j < 64 → j ≠ b → s.bufPending c j = false)) ∧
    (∃ s : State, ∃ c : Nat, ∃ b : Nat, ∃ col : Nat, ∃ f : CanFrame, ∃ h : Nat, ∃ start : Nat, ∃ w : Nat, s.Up ∧ c ≤ 3 ∧ b <
      64 ∧ s.maySend c = true ∧ f = s.bufFrame c b ∧ s.nodeOfTx c b = none ∧ s.bufMay c b = true ∧ s.bufPending c b = true ∧
      s.handedNow c b = none ∧ h = (if f.xtd then 1 else 0) + (if f.fdf then 2 else 0) + (if f.brs then 4 else 0) ∧
      s.eventMode c = false ∧ s.flag (Reg.FBC_CHc_CFG c) 3 = false ∧ start = (s.canCh c).rowAt + s.fld (Reg.FBC_CHc_COLk c
      col) 0 16 ∧ col < s.fld (Reg.FBC_CHc_TT c) 8 7 ∧ start ≤ s.chain ∧ s.chain ≤ start + s.canEnable c ∧ w = s.num
      (Reg.FBC_CHc_CELLr_k c (s.fld (Reg.FBC_CHc_STAT c) 8 4) col) ∧ bitsOf w 0 2 = 1 ∧ bitsOf w 2 6 = b) :=
  ⟨⟨wv0, 3, 3, 5, (List.range 8).map (BitVec.ofNat 8), wv1, (paramField wv1.param 2 1), (paramField wv1.param 4 4),
     (((List.range 8).map (BitVec.ofNat 8))), (CanFrame.mk (bitsOf ((paramField wv1.param 4 4)) 0 29) (bitOf ((paramField
     wv1.param 4 4)) 29) (bitOf ((paramField wv1.param 4 4)) 30) (bitOf ((paramField wv1.param 4 4)) 31) ((((List.range 8).map
     (BitVec.ofNat 8))))), by unfold State.Up; decide +kernel, by decide +kernel, by decide +kernel, (Option.some_get _).symm,
     by decide +kernel, by decide +kernel, rfl, rfl, by decide +kernel, by decide +kernel, by decide +kernel, rfl, rfl, by
     decide +kernel, by decide +kernel, by decide +kernel, by decide +kernel, by decide +kernel⟩,
   ⟨wv2, 3, 3, 5, (List.range 9).map (BitVec.ofNat 8), wv3, (paramField wv3.param 2 1), (paramField wv3.param 4 4),
     (((List.range 9).map (BitVec.ofNat 8))), (CanFrame.mk (bitsOf ((paramField wv3.param 4 4)) 0 29) (bitOf ((paramField
     wv3.param 4 4)) 29) (bitOf ((paramField wv3.param 4 4)) 30) (bitOf ((paramField wv3.param 4 4)) 31) ((((List.range 9).map
     (BitVec.ofNat 8))))), by unfold State.Up; decide +kernel, by decide +kernel, by decide +kernel, (Option.some_get _).symm,
     by decide +kernel, by decide +kernel, rfl, rfl, by decide +kernel, by decide +kernel, by decide +kernel, rfl, rfl, by
     decide +kernel, by decide +kernel, by decide +kernel, by decide +kernel, by decide +kernel, by decide +kernel⟩,
   ⟨wv4, 3, 3, 5, (List.range 8).map (BitVec.ofNat 8), wv5, (paramField wv5.param 2 1), (paramField wv5.param 4 4),
     (((List.range 8).map (BitVec.ofNat 8))), (CanFrame.mk (bitsOf ((paramField wv5.param 4 4)) 0 29) (bitOf ((paramField
     wv5.param 4 4)) 29) (bitOf ((paramField wv5.param 4 4)) 30) (bitOf ((paramField wv5.param 4 4)) 31) ((((List.range 8).map
     (BitVec.ofNat 8))))), by unfold State.Up; decide +kernel, by decide +kernel, by decide +kernel, (Option.some_get _).symm,
     by decide +kernel, by decide +kernel, rfl, rfl, by decide +kernel, by decide +kernel, by decide +kernel, rfl, rfl, by
     decide +kernel, by decide +kernel, by decide +kernel, by decide +kernel, by decide +kernel, by decide +kernel, by
     decide +kernel, by decide +kernel, by decide +kernel⟩,
   ⟨wv6, 3, 3, 5, (List.range 8).map (BitVec.ofNat 8), wv7, (paramField wv7.param 2 1), (paramField wv7.param 4 4),
     (((List.range 8).map (BitVec.ofNat 8))), (CanFrame.mk (bitsOf ((paramField wv7.param 4 4)) 0 29) (bitOf ((paramField
     wv7.param 4 4)) 29) (bitOf ((paramField wv7.param 4 4)) 30) (bitOf ((paramField wv7.param 4 4)) 31) ((((List.range 8).map
     (BitVec.ofNat 8))))), by unfold State.Up; decide +kernel, by decide +kernel, by decide +kernel, (Option.some_get _).symm,
     by decide +kernel, by decide +kernel, rfl, rfl, by decide +kernel, by decide +kernel, by decide +kernel, rfl, rfl, by
     decide +kernel, by decide +kernel, by decide +kernel, by decide +kernel, by decide +kernel, by decide +kernel, by
     decide +kernel, by decide +kernel, by decide +kernel⟩,
   ⟨wv8, 3, 63, 5, [1,2,3], wv9, (paramField wv9.param 2 1), (paramField wv9.param 4 4), (([1,2,3])), (CanFrame.mk (bitsOf
     ((paramField wv9.param 4 4)) 0 29) (bitOf ((paramField wv9.param 4 4)) 29) (bitOf ((paramField wv9.param 4 4)) 30) (bitOf
     ((paramField wv9.param 4 4)) 31) ((([1,2,3])))), by unfold State.Up; decide +kernel, by decide +kernel, by
     decide +kernel, (Option.some_get _).symm, by decide +kernel, by decide +kernel, rfl, rfl, by decide +kernel, by
     decide +kernel, by decide +kernel, rfl, rfl, by decide +kernel, by decide +kernel, by decide +kernel, by decide +kernel,
     by decide +kernel, by decide +kernel, by decide +kernel, by decide +kernel, by decide +kernel, by decide +kernel, by
     decide +kernel, by decide +kernel⟩,
   ⟨wv10, 3, 63, 5, [1,2,3], wv11, (paramField wv11.param 2 1), (paramField wv11.param 4 4), (([1,2,3])), (CanFrame.mk (bitsOf
     ((paramField wv11.param 4 4)) 0 29) (bitOf ((paramField wv11.param 4 4)) 29) (bitOf ((paramField wv11.param 4 4)) 30)
     (bitOf ((paramField wv11.param 4 4)) 31) ((([1,2,3])))), by unfold State.Up; decide +kernel, by decide +kernel, by
     decide +kernel, (Option.some_get _).symm, by decide +kernel, by decide +kernel, rfl, rfl, by decide +kernel, by
     decide +kernel, by decide +kernel, rfl, rfl, by decide +kernel, by decide +kernel, by decide +kernel, by decide +kernel,
     by decide +kernel, by decide +kernel, by decide +kernel, by decide +kernel, by decide +kernel, by decide +kernel, by
     decide +kernel, by decide +kernel⟩,
   ⟨wv12, 3, 63, 5, true, 5, by unfold State.Up; decide +kernel⟩,
   ⟨wv13, 3, 3, 5, true, 5, f0, 3, 5, by unfold State.Up; decide +kernel⟩,
   ⟨wv14, 3, 3, (65536 / wv14.canRows (3)), (wv14.canAngle (3) / ((65536 / wv14.canRows (3)))),
     by unfold State.Up; decide +kernel⟩,
   ⟨wv14, 3, 3, (65536 / wv14.canRows (3)), (wv14.canAngle (3) / ((65536 / wv14.canRows (3)))),
     by unfold State.Up; decide +kernel⟩,
   ⟨wv15, 3, 63, (wv15.bufFrame (3) (63)), ((if ((wv15.bufFrame (3) (63))).xtd then 1 else 0) + (if ((wv15.bufFrame (3)
     (63))).fdf then 2 else 0) + (if ((wv15.bufFrame (3) (63))).brs then 4 else 0)), by unfold State.Up; decide +kernel⟩,
   ⟨wv16, 3, 63, 5, (wv16.bufFrame (3) (63)), ((if ((wv16.bufFrame (3) (63))).xtd then 1 else 0) + (if ((wv16.bufFrame (3)
     (63))).fdf then 2 else 0) + (if ((wv16.bufFrame (3) (63))).brs then 4 else 0)), ((wv16.canCh (3)).rowAt + wv16.fld
     (Reg.FBC_CHc_COLk (3) (5)) 0 16), (wv16.num (Reg.FBC_CHc_CELLr_k (3) (wv16.fld (Reg.FBC_CHc_STAT (3)) 8 4) (5))),
     by unfold State.Up; decide +kernel⟩⟩
/-- A state and operands for each clause of `FieldBusFrames`. -/
theorem witness_FieldBusSends_1 :
    ∃ s : State, ∃ c : Nat, ∃ b : Nat, ∃ p : Nat, s.Up ∧ c ≤ 3 ∧ b < 64 ∧ s.onBus c = true ∧ s.eventMode c = true ∧ s.mode =
      Mode.RUN ∧ p = s.fld (Reg.FBC_CHc_TMR c) 8 8 ∧ p ≠ 0 ∧ (s.canCh c).perClk + msClk * p ≤ s.clk :=
  ⟨wv17, 3, 3, (wv17.fld (Reg.FBC_CHc_TMR (3)) 8 8), by unfold State.Up; decide +kernel⟩
end FieldBusSends

namespace FieldBusErrorsAndNodes
def bo : State := w0.setFld (Reg.FBC_CHc_STAT 3) 0 2 3
def x2 : Slot := mkOp Blk.FBC 2 0 [(0,1,3)]
def bon : State := ch (withOp (bo.setFlag (Reg.FBC_CHc_STAT 3) 2 true) 5 x2) fun x => {x with busOn := [(5,0x1234)]}
def up (s : State) : State := pt (nd (s.setFld (Reg.FBC_NDn_STAT 3 5) 0 2 2))
def Ss : List State := [w0, (txb w0).setNum (Reg.FBC_CHc_ERR 3) (120+ 95*512), bon, withOp bo 5 x2, withOp w0 5 x2, up w0, w0.setFlag (Reg.FBC_CHc_CFG 3) 6 true, ch w0 (fun x => {x with swapWait := some 5})]
def wv0 : State := ((Ss : List (State))[0]?).get (by decide +kernel)
def wv1 : State := ((Ss : List (State))[1]?).get (by decide +kernel)
def wv2 : State := ((Ss : List (State))[2]?).get (by decide +kernel)
def wv3 : State := ((Ss : List (State))[3]?).get (by decide +kernel)
def wv4 : Slot := (wv3.activeOp (5) Blk.FBC 2).get (by decide +kernel)
def wv5 : State := ((Ss : List (State))[4]?).get (by decide +kernel)
def wv6 : Slot := (wv5.activeOp (5) Blk.FBC 2).get (by decide +kernel)
def wv7 : State := ((Ss : List (State))[5]?).get (by decide +kernel)
def wv8 : State := ((Ss : List (State))[6]?).get (by decide +kernel)
def wv9 : State := ((Ss : List (State))[7]?).get (by decide +kernel)
def wv10 : Nat := ((wv9.canCh (3)).swapWait).get (by decide +kernel)
/-- A state and operands for each clause of `FieldBusErrorsAndNodes`. -/
theorem witness_FieldBusErrorsAndNodes :
    (∃ s : State, ∃ c : Nat, ∃ ta : Nat, ∃ ra : Nat, ∃ tec : Nat, ∃ rc : Nat, s.Up ∧ c ≤ 3 ∧ s.canSt c = CanSt.ACTIVE ∧ s.flag
      (Reg.FBC_CHc_STAT c) 3 = false ∧ tec = s.fld (Reg.FBC_CHc_ERR c) 0 9 + ta ∧ rc = s.fld (Reg.FBC_CHc_ERR c) 9 8 + ra ∧
      tec < 128 ∧ rc < 96) ∧
    (∃ s : State, ∃ c : Nat, ∃ ta : Nat, ∃ ra : Nat, ∃ tec : Nat, ∃ rc : Nat, s.Up ∧ c ≤ 3 ∧ s.canSt c = CanSt.ACTIVE ∧ s.flag
      (Reg.FBC_CHc_STAT c) 3 = false ∧ tec = s.fld (Reg.FBC_CHc_ERR c) 0 9 + ta ∧ rc = s.fld (Reg.FBC_CHc_ERR c) 9 8 + ra ∧
      128 ≤ tec ∧ tec ≤ 255 ∧ s.flag (Reg.FBC_CHc_CFG c) 4 = false) ∧
    (∃ s : State, ∃ c : Nat, ∃ ta : Nat, ∃ ra : Nat, ∃ tec : Nat, ∃ rc : Nat, s.Up ∧ c ≤ 3 ∧ s.canSt c = CanSt.ACTIVE ∧ s.flag
      (Reg.FBC_CHc_STAT c) 3 = false ∧ tec = s.fld (Reg.FBC_CHc_ERR c) 0 9 + ta ∧ rc = s.fld (Reg.FBC_CHc_ERR c) 9 8 + ra ∧
      255 < tec ∧ s.fbc.bufs = [] ∧ (s.canCh c).fifo = [] ∧ (s.canCh c).wait = [] ∧ (∀ n, n < 32 → s.nodeEn c n = false)) ∧
    (∃ s : State, ∃ c : Nat, ∃ k : Nat, ∃ e : Word, s.Up ∧ c ≤ 3 ∧ s.canSt c = CanSt.BUS_OFF ∧ s.flag (Reg.FBC_CHc_STAT c) 2 =
      true ∧ (s.canCh c).busOn = [(k, e)] ∧ (s.slot k).st = .active ∧ (s.slot k).block = Blk.FBC ∧ tfind? s.hlk.serving k =
      none) ∧
    (∃ s : State, ∃ c : Nat, ∃ k : Nat, ∃ x : Slot, s.Up ∧ c ≤ 3 ∧ s.activeOp k Blk.FBC 2 = some x ∧ tfind? s.hlk.serving k =
      none ∧ paramField x.param 0 1 = c ∧ x.ctx = 0 ∧ s.mode ≠ Mode.MINIMAL ∧ s.flag (Reg.FBC_CHc_CFG c) 0 = true ∧ (s.canCh
      c).busOn = [] ∧ s.canSt c = CanSt.BUS_OFF) ∧
    (∃ s : State, ∃ c : Nat, ∃ k : Nat, ∃ x : Slot, s.Up ∧ c ≤ 3 ∧ s.activeOp k Blk.FBC 2 = some x ∧ tfind? s.hlk.serving k =
      none ∧ paramField x.param 0 1 = c ∧ x.ctx = 0 ∧ s.mode ≠ Mode.MINIMAL ∧ s.flag (Reg.FBC_CHc_CFG c) 0 = true ∧ (s.canCh
      c).busOn = [] ∧ s.canSt c ≠ CanSt.BUS_OFF) ∧
    (∃ s : State, ∃ c : Nat, ∃ rq : Requester, s.Up ∧ c ≤ 3 ∧ s.Passes rq (Reg.FBC_CHc_CTL c)) ∧
    (∃ s : State, ∃ c : Nat, ∃ n : Nat, ∃ i : Nat, ∃ g : NodeField, s.Up ∧ c ≤ 3 ∧ n ≤ 31 ∧ s.nodeEn c n = true ∧ s.fld
      (Reg.FBC_NDn_STAT c n) 0 2 = NdSt.UP ∧ s.fld (Reg.FBC_NDn_CFG c n) 16 16 ≠ 0 ∧ (s.canNode c n).inCh + 65536 * s.fld
      (Reg.FBC_NDn_CFG c n) 16 16 ≤ s.chain ∧ s.fbc.inMap = [(i, g)] ∧ g.channel = c ∧ g.node = n ∧ s.scn.lanes = [] ∧
      s.scn.remote = [] ∧ s.flag (Reg.FBC_NDn_CFG c n) 14 = false ∧ s.copiesOf i = [] ∧ (s.point i).type ≠ PtType.NONE ∧
      (s.point i).forced = false ∧ s.pointNote i = none ∧ s.Alone) ∧
    (∃ s : State, ∃ c : Nat, s.Up ∧ c ≤ 3 ∧ s.onBus c = true ∧ s.flag (Reg.FBC_CHc_CFG c) 6 = true) ∧
    (∃ s : State, ∃ c : Nat, ∃ w : Nat, s.Up ∧ c ≤ 3 ∧ (s.canCh c).swapWait = some w ∧ w + 100 * msClk ≤ s.clk) :=
  ⟨⟨wv0, 3, 3, 3, (wv0.fld (Reg.FBC_CHc_ERR (3)) 0 9 + (3)), (wv0.fld (Reg.FBC_CHc_ERR (3)) 9 8 + (3)),
     by unfold State.Up; decide +kernel⟩,
   ⟨wv0, 3, 136, 3, (wv0.fld (Reg.FBC_CHc_ERR (3)) 0 9 + (136)), (wv0.fld (Reg.FBC_CHc_ERR (3)) 9 8 + (3)),
     by unfold State.Up; decide +kernel⟩,
   ⟨wv1, 3, 136, 3, (wv1.fld (Reg.FBC_CHc_ERR (3)) 0 9 + (136)), (wv1.fld (Reg.FBC_CHc_ERR (3)) 9 8 + (3)),
     by unfold State.Up; decide +kernel⟩,
   ⟨wv2, 3, 5, 0x1234, by unfold State.Up; decide +kernel⟩,
   ⟨wv3, 3, 5, wv4, by unfold State.Up; decide +kernel, by decide +kernel, (Option.some_get _).symm, by decide +kernel, by
     decide +kernel, by decide +kernel, by decide +kernel, by decide +kernel, by decide +kernel, by decide +kernel⟩,
   ⟨wv5, 3, 5, wv6, by unfold State.Up; decide +kernel, by decide +kernel, (Option.some_get _).symm, by decide +kernel, by
     decide +kernel, by decide +kernel, by decide +kernel, by decide +kernel, by decide +kernel, by decide +kernel⟩,
   ⟨wv0, 3, .pcie, by unfold State.Up State.Passes State.Alone; decide +kernel⟩,
   ⟨wv7, 3, 5, 5, nf, by unfold State.Up State.Alone; decide +kernel⟩,
   ⟨wv8, 3, by unfold State.Up; decide +kernel⟩,
   ⟨wv9, 3, wv10, by unfold State.Up; decide +kernel, by decide +kernel, (Option.some_get _).symm, by decide +kernel⟩⟩
end FieldBusErrorsAndNodes

end Fbc

/-! ### DioRtc -/

namespace DioRtc

def w0 : State := {up0.setFlag (Reg.CTRL Blk.DIO) 0 true with clk := 10^13, lat := {up0.lat with pos := 2^32*(10^7+77)}}
def pof (s : State) : State := s.setNum Reg.DIO_PT_BASE 0xFFFF
def dm (s : State) (f : Dio → Dio) : State := {s with dio := f s.dio}
def ch (n : Nat) (s : State) (f : DioCh → DioCh) : State := s.setChan n (f (s.chan n))
def outp (s : State) : State := (s.setNum (Reg.DIO_CHcCFG 23) 2).setNum (Reg.DIO_CHcCFG 0) 2

namespace InputsAndCommands
def pb1 (s : State) : State := (outp s).setNum Reg.DIO_PT_BASE 1000
def clm (b : Nat) (s : State) : State := {s with claims := [⟨0x2017,b,3,1⟩]}
def pv (s : State) : State := s.setPoint 1093 {s.point 1093 with type := 4, value := 7, quality := Q.GOOD}
def ip : State := (pof w0).setNum (Reg.DIO_CHcCFG 23) 1 |>.setNum (Reg.DIO_CHcCFG 5) 1 |>.setNum (Reg.DIO_CHcFILT 5) 3 |>.setNum (Reg.DIO_PIiCFG 15) 16 |>.setNum (Reg.DIO_CHcCNT 5) 0xFFFFFFFF
def ip2 : State := ch 5 ip fun x => {x with filt := 2}
def rz (s : State) : State := (s.setFlag Reg.LAT_STATE 3 true).setFlag (Reg.DIO_CHcZX 23) 16 true
def zz (s : State) : State := s.setFld (Reg.DIO_CHcZX 23) 0 16 (s.chain % 65536)
def xd (v : Nat) : Slot := mkOp Blk.DIO 1 0 [(0,1,23),(1,1,v)]
def o (v : Nat) (s : State) : State := withOp s 3 (xd v)
def sf (s : State) : State := dm s fun d => {d with safe := true}
def un (s : State) : State := dm s fun d => {d with safe := false}
def Ss : List State := [ip, ip2, ip2.setFlag (Reg.DIO_CHcSTAT 5) 0 true, sf (clm 12 (pv (pb1 w0))), un (clm 12 (pv (pb1 w0))), un (clm 12 (pv (pb1 w0))) |>.setNum (Reg.ARB_FCcCFG 23) 500, rz w0, zz (rz (w0.setFlag (Reg.DIO_CHcZX 23) 16 true)), ch 23 (zz (rz (outp w0))) (fun x => {x with waiting := some true}), o 1 w0 |>.setFld Reg.SUP_MODE 0 2 Mode.MINIMAL, o 1 (un (clm 12 (pb1 w0))), o 1 (un (clm Blk.HIF (pb1 w0))), o 0 (un (clm Blk.HIF (pb1 w0))), (w0.setNum (Reg.DIO_PIiCFG 15) (5*65536+1)).setFlag (Reg.DIO_PIiSTAT 15) 0 true, {w0 with dio := {w0.dio with piLimit := [(15,1000000)]}}]
def wv0 : State := ((Ss : List (State))[0]?).get (by decide +kernel)
def wv1 : State := ((Ss : List (State))[3]?).get (by decide +kernel)
def wv2 : Claim := (wv1.claimOf (0x2000 + (23))).get (by decide +kernel)
def wv3 : State := ((Ss : List (State))[4]?).get (by decide +kernel)
def wv4 : Claim := (wv3.claimOf (0x2000 + (23))).get (by decide +kernel)
def wv5 : State := ((Ss : List (State))[5]?).get (by decide +kernel)
def wv6 : Claim := (wv5.claimOf (0x2000 + (23))).get (by decide +kernel)
def wv7 : State := ((Ss : List (State))[6]?).get (by decide +kernel)
def wv8 : State := ((Ss : List (State))[7]?).get (by decide +kernel)
def wv9 : State := (wv8.zxPass (23) (wv8.fld (Reg.DIO_CHcZX (23)) 0 16) (wv8.flag (Reg.DIO_CHcZX (23)) 17)).get (by
  decide +kernel)
def wv10 : State := ((Ss : List (State))[8]?).get (by decide +kernel)
def wv11 : State := (wv10.zxPass (23) (wv10.fld (Reg.DIO_CHcZX (23)) 0 16) (wv10.flag (Reg.DIO_CHcZX (23)) 17)).get (by
  decide +kernel)
def wv12 : Bool := ((wv10.chan (23)).waiting).get (by decide +kernel)
def wv13 : State := ((Ss : List (State))[9]?).get (by decide +kernel)
def wv14 : Slot := (wv13.activeOp (3) Blk.DIO 1).get (by decide +kernel)
def wv15 : State := ((Ss : List (State))[10]?).get (by decide +kernel)
def wv16 : Slot := (wv15.activeOp (3) Blk.DIO 1).get (by decide +kernel)
def wv17 : Claim := (wv15.claimOf (0x2000 + ((paramField wv16.param 0 1)))).get (by decide +kernel)
def wv18 : State := ((Ss : List (State))[11]?).get (by decide +kernel)
def wv19 : Slot := (wv18.activeOp (3) Blk.DIO 1).get (by decide +kernel)
def wv20 : Claim := (wv18.claimOf (0x2000 + ((paramField wv19.param 0 1)))).get (by decide +kernel)
def wv21 : State := ((Ss : List (State))[13]?).get (by decide +kernel)
def wv22 : State := ((Ss : List (State))[14]?).get (by decide +kernel)
/-- A state and operands for each clause of `InputsAndCommands`. -/
theorem witness_InputsAndCommands_0 :
    (∃ s : State, s.Up ∧ s.en Blk.DIO = true ∧ s.fld Reg.DIO_PT_BASE 0 16 = 0xFFFF ∧ s.flag Reg.DIO_STAT 3 = false) ∧
    (∃ s : State, ∃ c : Nat, ∃ b : Nat, ∃ k : Claim, ∃ p : Point, ∃ x : DioCh, s.Up ∧ s.en Blk.DIO = true ∧ c < 24 ∧ b = s.fld
      Reg.DIO_PT_BASE 0 16 ∧ b ≠ 0xFFFF ∧ s.dioMode c = 2 ∧ s.dioMaster c = c ∧ s.dioSet c = [c] ∧ s.claimOf (0x2000 + c) =
      some k ∧ p = s.pointFor Blk.DIO (b + 4 * c + 1) ∧ p.value ≠ 0 ∧ p.quality ≠ Q.UNINIT ∧ x = s.chan c ∧ x.waiters = [] ∧
      s.flag (Reg.DIO_CHcZX c) 16 = false ∧ k.block ≠ Blk.LAT ∧ k.block ≠ Blk.EMU ∧ k.block ≠ Blk.HIF ∧ s.dioHeld c = true) ∧
    (∃ s : State, ∃ c : Nat, ∃ b : Nat, ∃ k : Claim, ∃ p : Point, ∃ x : DioCh, s.Up ∧ s.en Blk.DIO = true ∧ c < 24 ∧ b = s.fld
      Reg.DIO_PT_BASE 0 16 ∧ b ≠ 0xFFFF ∧ s.dioMode c = 2 ∧ s.dioMaster c = c ∧ s.dioSet c = [c] ∧ s.claimOf (0x2000 + c) =
      some k ∧ p = s.pointFor Blk.DIO (b + 4 * c + 1) ∧ p.value ≠ 0 ∧ p.quality ≠ Q.UNINIT ∧ x = s.chan c ∧ x.waiters = [] ∧
      s.flag (Reg.DIO_CHcZX c) 16 = false ∧ k.block ≠ Blk.LAT ∧ k.block ≠ Blk.EMU ∧ k.block ≠ Blk.HIF ∧ s.dioHeld c = false ∧
      s.fieldMa c = 0) ∧
    (∃ s : State, ∃ c : Nat, ∃ b : Nat, ∃ k : Claim, ∃ p : Point, ∃ x : DioCh, s.Up ∧ s.en Blk.DIO = true ∧ c < 24 ∧ b = s.fld
      Reg.DIO_PT_BASE 0 16 ∧ b ≠ 0xFFFF ∧ s.dioMode c = 2 ∧ s.dioMaster c = c ∧ s.dioSet c = [c] ∧ s.claimOf (0x2000 + c) =
      some k ∧ p = s.pointFor Blk.DIO (b + 4 * c + 1) ∧ p.value ≠ 0 ∧ p.quality ≠ Q.UNINIT ∧ x = s.chan c ∧ x.waiters = [] ∧
      s.flag (Reg.DIO_CHcZX c) 16 = false ∧ k.block ≠ Blk.LAT ∧ k.block ≠ Blk.EMU ∧ k.block ≠ Blk.HIF ∧ s.dioHeld c = false ∧
      s.fieldMa c ≠ 0 ∧ x.grant = 0 ∧ s.arb.fieldAsks = []) ∧
    (∃ s : State, ∃ c : Nat, s.Up ∧ s.en Blk.DIO = true ∧ c < 24 ∧ s.flag Reg.LAT_STATE 3 = true ∧ s.flag (Reg.DIO_CHcZX c) 16
      = true ∧ s.dioSet c = [c] ∧ s.chain % 65536 ≠ s.fld (Reg.DIO_CHcZX c) 0 16 ∧ s.flag (Reg.DIO_CHcZX c) 17 = false) ∧
    (∃ s : State, ∃ c : Nat, ∃ s0 : State, s.Up ∧ s.en Blk.DIO = true ∧ c < 24 ∧ s.flag Reg.LAT_STATE 3 = true ∧ s.flag
      (Reg.DIO_CHcZX c) 16 = true ∧ s.dioSet c = [c] ∧ s.zxPass c (s.fld (Reg.DIO_CHcZX c) 0 16) (s.flag (Reg.DIO_CHcZX c) 17)
      = some s0) ∧
    (∃ s : State, ∃ c : Nat, ∃ s0 : State, s.Up ∧ s.en Blk.DIO = true ∧ c < 24 ∧ s.flag Reg.LAT_STATE 3 = true ∧ s.flag
      (Reg.DIO_CHcZX c) 16 = true ∧ s.dioSet c = [c] ∧ s.zxPass c (s.fld (Reg.DIO_CHcZX c) 0 16) (s.flag (Reg.DIO_CHcZX c) 17)
      = some s0 ∧ (s.chan c).waiting = none) ∧
    (∃ s : State, ∃ c : Nat, ∃ s0 : State, ∃ v : Bool, s.Up ∧ s.en Blk.DIO = true ∧ c < 24 ∧ s.flag Reg.LAT_STATE 3 = true ∧
      s.flag (Reg.DIO_CHcZX c) 16 = true ∧ s.dioSet c = [c] ∧ s.zxPass c (s.fld (Reg.DIO_CHcZX c) 0 16) (s.flag (Reg.DIO_CHcZX
      c) 17) = some s0 ∧ (s.chan c).waiting = some v ∧ (s.chan c).takenClk / 10 ≠ s.clk / 10) ∧
    (∃ s : State, ∃ k : Nat, ∃ x : Slot, ∃ c : Nat, ∃ v : Bool, s.Up ∧ s.en Blk.DIO = true ∧ s.activeOp k Blk.DIO 1 = some x ∧
      tfind? s.hlk.serving k = none ∧ c = paramField x.param 0 1 ∧ v = bitOf (paramField x.param 1 1) 0 ∧ x.ctx = 0 ∧ s.mode =
      Mode.MINIMAL) ∧
    (∃ s : State, ∃ k : Nat, ∃ x : Slot, ∃ c : Nat, ∃ v : Bool, ∃ d : Claim, s.Up ∧ s.en Blk.DIO = true ∧ s.activeOp k Blk.DIO
      1 = some x ∧ tfind? s.hlk.serving k = none ∧ c = paramField x.param 0 1 ∧ v = bitOf (paramField x.param 1 1) 0 ∧ x.ctx =
      0 ∧ s.mode ≠ Mode.MINIMAL ∧ c < 24 ∧ s.dioMode c = 2 ∧ s.dioMaster c = c ∧ s.claimOf (0x2000 + c) = some d ∧ d.block ≠
      Blk.HIF) ∧
    (∃ s : State, ∃ k : Nat, ∃ x : Slot, ∃ c : Nat, ∃ v : Bool, ∃ d : Claim, s.Up ∧ s.en Blk.DIO = true ∧ s.activeOp k Blk.DIO
      1 = some x ∧ tfind? s.hlk.serving k = none ∧ c = paramField x.param 0 1 ∧ v = bitOf (paramField x.param 1 1) 0 ∧ x.ctx =
      0 ∧ s.mode ≠ Mode.MINIMAL ∧ c < 24 ∧ s.dioMode c = 2 ∧ s.dioMaster c = c ∧ s.claimOf (0x2000 + c) = some d ∧ d.block =
      Blk.HIF ∧ s.dioHeld c = false ∧ s.dioSet c = [c] ∧ (s.chan c).waiters = [] ∧ s.flag (Reg.DIO_CHcZX c) 16 = false ∧ (v =
      false ∨ s.fieldMa c = 0)) ∧
    (∃ s : State, ∃ i : Nat, s.Up ∧ s.en Blk.DIO = true ∧ i < 16 ∧ s.fld (Reg.DIO_PIiCFG i) 16 8 ≠ 0 ∧ s.flag (Reg.DIO_PIiSTAT
      i) 0 = true ∧ s.flag (Reg.DIO_PIiSTAT i) 2 = false ∧ tget (fun _ => 0) s.dio.piOn i + s.fld (Reg.DIO_PIiCFG i) 16 8 *
      1000 * msClk < s.clk) :=
  ⟨⟨wv0, by unfold State.Up; decide +kernel⟩,
   ⟨wv1, 23, (wv1.fld Reg.DIO_PT_BASE 0 16), wv2, (wv1.pointFor Blk.DIO (((wv1.fld Reg.DIO_PT_BASE 0 16)) + 4 * (23) + 1)),
     (wv1.chan (23)), by unfold State.Up; decide +kernel, by decide +kernel, by decide +kernel, rfl, by decide +kernel, by
     decide +kernel, by decide +kernel, by decide +kernel, (Option.some_get _).symm, rfl, by decide +kernel, by
     decide +kernel, rfl, by decide +kernel, by decide +kernel, by decide +kernel, by decide +kernel, by decide +kernel, by
     decide +kernel⟩,
   ⟨wv3, 23, (wv3.fld Reg.DIO_PT_BASE 0 16), wv4, (wv3.pointFor Blk.DIO (((wv3.fld Reg.DIO_PT_BASE 0 16)) + 4 * (23) + 1)),
     (wv3.chan (23)), by unfold State.Up; decide +kernel, by decide +kernel, by decide +kernel, rfl, by decide +kernel, by
     decide +kernel, by decide +kernel, by decide +kernel, (Option.some_get _).symm, rfl, by decide +kernel, by
     decide +kernel, rfl, by decide +kernel, by decide +kernel, by decide +kernel, by decide +kernel, by decide +kernel, by
     decide +kernel, by decide +kernel⟩,
   ⟨wv5, 23, (wv5.fld Reg.DIO_PT_BASE 0 16), wv6, (wv5.pointFor Blk.DIO (((wv5.fld Reg.DIO_PT_BASE 0 16)) + 4 * (23) + 1)),
     (wv5.chan (23)), by unfold State.Up; decide +kernel, by decide +kernel, by decide +kernel, rfl, by decide +kernel, by
     decide +kernel, by decide +kernel, by decide +kernel, (Option.some_get _).symm, rfl, by decide +kernel, by
     decide +kernel, rfl, by decide +kernel, by decide +kernel, by decide +kernel, by decide +kernel, by decide +kernel, by
     decide +kernel, by decide +kernel, by decide +kernel, by decide +kernel⟩,
   ⟨wv7, 23, by unfold State.Up; decide +kernel⟩,
   ⟨wv8, 23, wv9, by unfold State.Up; decide +kernel, by decide +kernel, by decide +kernel, by decide +kernel, by
     decide +kernel, by decide +kernel, (Option.some_get _).symm⟩,
   ⟨wv8, 23, wv9, by unfold State.Up; decide +kernel, by decide +kernel, by decide +kernel, by decide +kernel, by
     decide +kernel, by decide +kernel, (Option.some_get _).symm, by decide +kernel⟩,
   ⟨wv10, 23, wv11, wv12, by unfold State.Up; decide +kernel, by decide +kernel, by decide +kernel, by decide +kernel, by
     decide +kernel, by decide +kernel, (Option.some_get _).symm, (Option.some_get _).symm, by decide +kernel⟩,
   ⟨wv13, 3, wv14, (paramField wv14.param 0 1), (bitOf (paramField wv14.param 1 1) 0), by unfold State.Up; decide +kernel, by
     decide +kernel, (Option.some_get _).symm, by decide +kernel, rfl, rfl, by decide +kernel, by decide +kernel⟩,
   ⟨wv15, 3, wv16, (paramField wv16.param 0 1), (bitOf (paramField wv16.param 1 1) 0), wv17,
     by unfold State.Up; decide +kernel, by decide +kernel, (Option.some_get _).symm, by decide +kernel, rfl, rfl, by
     decide +kernel, by decide +kernel, by decide +kernel, by decide +kernel, by decide +kernel, (Option.some_get _).symm, by
     decide +kernel⟩,
   ⟨wv18, 3, wv19, (paramField wv19.param 0 1), (bitOf (paramField wv19.param 1 1) 0), wv20,
     by unfold State.Up; decide +kernel, by decide +kernel, (Option.some_get _).symm, by decide +kernel, rfl, rfl, by
     decide +kernel, by decide +kernel, by decide +kernel, by decide +kernel, by decide +kernel, (Option.some_get _).symm, by
     decide +kernel, by decide +kernel, by decide +kernel, by decide +kernel, by decide +kernel, by decide +kernel⟩,
   ⟨wv21, 15, by unfold State.Up; decide +kernel⟩⟩
/-- A state and operands for each clause of `InputsAndCommands`. -/
theorem witness_InputsAndCommands_1 :
    ∃ s : State, ∃ i : Nat, s.Up ∧ s.en Blk.DIO = true ∧ i < 16 ∧ s.fld (Reg.DIO_PIiCFG i) 0 2 ≤ 1 ∧ s.flag (Reg.DIO_PIiSTAT
      i) 1 = false ∧ 1000000 ≤ tget (fun _ => 0) s.dio.piLimit i :=
  ⟨wv22, 15, by unfold State.Up; decide +kernel⟩
end InputsAndCommands

namespace OutputProtection
def un (s : State) : State := dm (outp s) fun d => {d with safe := false, dieLost := false, shed := [], dieSafe := []}
def u := un w0
def xo (n : Nat) (l : List (Nat × Nat × Nat)) : Slot := mkOp Blk.DIO n 0 l
def xs : List Slot := [xo 2 [(0,1,23)], xo 3 [], xo 4 [], xo 5 [(0,1,23)], xo 5 [(0,1,15),(1,1,1)]]
def vf (v : Nat) (s : State) := s.setNum Reg.DIO_VFIELD v
def gs : State := ((pof u).setNum (Reg.DIO_GRPg_CFG 5) 0x10)
def Ss : List State := [ch 0 u fun x => {x with on := true, limTicks := 19}, ch 23 u (fun x => {x with retryDue := true, retries := [0,10^13-5], cmd := some true}), (u.setFld Reg.DIO_WDT 0 8 5).setFld (Reg.DIO_CHcCFG 0) 3 2 1, ch 23 ((u.setFld Reg.DIO_WDT 0 8 5).setFld (Reg.DIO_CHcCFG 23) 3 2 2) (fun x => {x with on := true}), u.setFlag Reg.DIO_WDT 9 true, dm u (fun d => {d with dieSafe := [(23,0)]}),
 gs, dm gs (fun d => {d with low := 101}), dm (gs.setFlag Reg.DIO_SAG_CFG 0 true) (fun d => {d with high := 999, shed := [5]})] ++ (xs.map fun x => withOp (vf 20000 (u.setFlag (Reg.DIO_CHcSTAT 23) 9 true)) 3 x) ++ (xs.map fun x => withOp (vf 20001 u) 3 x) ++ [withOp (dm (vf 20001 (u.setFld Reg.DIO_WDT 0 8 5)) (fun d => {d with wdtExpired := true, shed := [5]})) 3 (xo 3 []), withOp (dm (vf 20001 u) (fun d => {d with wdtExpired := true, shed := [5]})) 3 (xo 4 []), withOp (u.setFld Reg.KEY_LC 0 3 3) 3 (xo 5 [(0,1,15),(1,1,1)])]
def wv0 : State := ((Ss : List (State))[0]?).get (by decide +kernel)
def wv1 : State := ((Ss : List (State))[1]?).get (by decide +kernel)
def wv2 : State := ((Ss : List (State))[2]?).get (by decide +kernel)
def wv3 : State := ((Ss : List (State))[4]?).get (by decide +kernel)
def wv4 : State := ((Ss : List (State))[5]?).get (by decide +kernel)
def wv5 : State := ((Ss : List (State))[6]?).get (by decide +kernel)
def wv6 : State := ((Ss : List (State))[7]?).get (by decide +kernel)
def wv7 : Nat := (wv6.nextShed).get (by decide +kernel)
def wv8 : State := ((Ss : List (State))[8]?).get (by decide +kernel)
def wv9 : State := ((Ss : List (State))[9]?).get (by decide +kernel)
def wv10 : Slot := ((xs : List (Slot))[0]?).get (by decide +kernel)
def wv11 : State := ((Ss : List (State))[14]?).get (by decide +kernel)
def wv12 : State := ((Ss : List (State))[10]?).get (by decide +kernel)
def wv13 : Slot := ((xs : List (Slot))[1]?).get (by decide +kernel)
def wv14 : State := ((Ss : List (State))[19]?).get (by decide +kernel)
def wv15 : State := ((Ss : List (State))[11]?).get (by decide +kernel)
def wv16 : Slot := ((xs : List (Slot))[2]?).get (by decide +kernel)
def wv17 : State := ((Ss : List (State))[16]?).get (by decide +kernel)
def wv18 : State := ((Ss : List (State))[20]?).get (by decide +kernel)
def wv19 : State := ((Ss : List (State))[12]?).get (by decide +kernel)
def wv20 : Slot := ((xs : List (Slot))[3]?).get (by decide +kernel)
def wv21 : State := ((Ss : List (State))[21]?).get (by decide +kernel)
def wv22 : Slot := ((xs : List (Slot))[4]?).get (by decide +kernel)
def wv23 : State := ((Ss : List (State))[13]?).get (by decide +kernel)
/-- A state and operands for each clause of `OutputProtection`. -/
theorem witness_OutputProtection_0 :
    (∃ s : State, ∃ m : DioMeas, ∃ x : DioCh, s.Up ∧ s.en Blk.DIO = true ∧ s.dioMode 0 = 2 ∧ s.dioMaster 0 = 0 ∧ s.dioSet 0 =
      [0] ∧ x = s.chan 0 ∧ x.on = true ∧ m.limit = true ∧ 19 ≤ x.limTicks ∧ s.flag (Reg.DIO_CHcCFG 0) 5 = false) ∧
    (∃ s : State, s.Up ∧ s.en Blk.DIO = true) ∧
    (∃ s : State, ∃ c : Nat, ∃ x : DioCh, s.Up ∧ s.en Blk.DIO = true ∧ c < 24 ∧ x = s.chan c ∧ x.retryDue = true ∧ x.cutClk +
      1000 * msClk ≤ s.clk ∧ s.dio.safe = false ∧ s.dio.dieLost = false ∧ s.dio.shed.contains (c / 4) = false ∧ s.flag
      Reg.DIO_STAT 3 = false ∧ s.flag (Reg.DIO_CHcSTAT c) 9 = false ∧ x.cmd = some true ∧ s.fieldMa c = 0 ∧ s.flag
      (Reg.DIO_CHcZX c) 16 = false ∧ x.waiters = [] ∧ s.dioSet c = [c]) ∧
    (∃ s : State, s.Up ∧ s.en Blk.DIO = true ∧ s.fld Reg.DIO_WDT 0 8 ≠ 0 ∧ s.dio.wdtExpired = false ∧ s.dio.wdtClk + s.fld
      Reg.DIO_WDT 0 8 * 10 * msClk ≤ s.clk ∧ s.Alone) ∧
    (∃ s : State, ∃ rq : Requester, s.Up ∧ s.en Blk.DIO = true ∧ s.Passes rq Reg.DIO_WDT_KICK ∧ s.flag Reg.DIO_WDT 9 = true ∧
      s.dio.safe = false) ∧
    (∃ s : State, ∃ rq : Requester, s.Up ∧ s.en Blk.DIO = true ∧ s.Passes rq Reg.DIO_WDT_KICK ∧ s.flag Reg.DIO_WDT 9 = false) ∧
    (∃ s : State, ∃ c : Nat, s.Up ∧ s.en Blk.DIO = true ∧ c < 24 ∧ s.dio.dieSafe = [(c, 0)] ∧ s.dioMaster c = c) ∧
    (∃ s : State, ∃ mv : Int, s.Up ∧ s.en Blk.DIO = true ∧ 0 ≤ mv ∧ s.flag Reg.DIO_STAT 3 = false ∧ s.fld Reg.DIO_PT_BASE 0 16
      = 0xFFFF ∧ 19600 < mv ∧ mv < 100000 ∧ s.dio.shed = [] ∧ s.dio.restoreTags = []) ∧
    (∃ s : State, ∃ mv : Int, s.Up ∧ s.en Blk.DIO = true ∧ 0 ≤ mv ∧ s.flag Reg.DIO_STAT 3 = false ∧ s.fld Reg.DIO_PT_BASE 0 16
      = 0xFFFF ∧ mv < 19200 ∧ 18000 ≤ mv ∧ s.flag Reg.DIO_STAT 1 = false) ∧
    (∃ s : State, ∃ mv : Int, ∃ g : Nat, s.Up ∧ s.en Blk.DIO = true ∧ 0 ≤ mv ∧ s.flag Reg.DIO_STAT 3 = false ∧ s.fld
      Reg.DIO_PT_BASE 0 16 = 0xFFFF ∧ mv < 18000 ∧ s.dio.low = 101 ∧ s.nextShed = some g) ∧
    (∃ s : State, ∃ mv : Int, ∃ g : Nat, s.Up ∧ s.en Blk.DIO = true ∧ 0 ≤ mv ∧ s.flag Reg.DIO_STAT 3 = false ∧ s.fld
      Reg.DIO_PT_BASE 0 16 = 0xFFFF ∧ 20000 < mv ∧ s.dio.high = 999 ∧ s.dio.shed = [g] ∧ s.dio.restoreTags = [] ∧ s.flag
      Reg.DIO_SAG_CFG 0 = true) ∧
    (∃ s : State, ∃ k : Nat, ∃ x : Slot, ∃ c : Nat, s.Up ∧ s.en Blk.DIO = true ∧ tfind? s.hlk.serving k = none ∧ c =
      paramField x.param 0 1 ∧ x.ctx = 0 ∧ s.mode ≠ Mode.MINIMAL ∧ s.activeOp k Blk.DIO 2 = some x ∧ c < 24 ∧ s.flag
      (Reg.DIO_CHcSTAT c) 9 = true) :=
  ⟨⟨wv0, ⟨24000,5,true,false⟩, (wv0.chan 0), by unfold State.Up; decide +kernel⟩,
   ⟨wv0, by unfold State.Up; decide +kernel⟩,
   ⟨wv1, 23, (wv1.chan (23)), by unfold State.Up; decide +kernel⟩,
   ⟨wv2, by unfold State.Up State.Alone; decide +kernel⟩,
   ⟨wv3, .pcie, by unfold State.Up State.Passes State.Alone; decide +kernel⟩,
   ⟨wv0, .pcie, by unfold State.Up State.Passes State.Alone; decide +kernel⟩,
   ⟨wv4, 23, by unfold State.Up; decide +kernel⟩,
   ⟨wv5, 19601, by unfold State.Up; decide +kernel⟩,
   ⟨wv5, 18000, by unfold State.Up; decide +kernel⟩,
   ⟨wv6, 0, wv7, by unfold State.Up; decide +kernel, by decide +kernel, by decide +kernel, by decide +kernel, by
     decide +kernel, by decide +kernel, by decide +kernel, (Option.some_get _).symm⟩,
   ⟨wv8, 20001, 5, by unfold State.Up; decide +kernel⟩,
   ⟨wv9, 3, wv10, (paramField wv10.param 0 1), by unfold State.Up; decide +kernel⟩⟩
/-- A state and operands for each clause of `OutputProtection`. -/
theorem witness_OutputProtection_1 :
    (∃ s : State, ∃ k : Nat, ∃ x : Slot, ∃ c : Nat, s.Up ∧ s.en Blk.DIO = true ∧ tfind? s.hlk.serving k = none ∧ c =
      paramField x.param 0 1 ∧ x.ctx = 0 ∧ s.mode ≠ Mode.MINIMAL ∧ s.activeOp k Blk.DIO 2 = some x ∧ c < 24 ∧ s.flag
      (Reg.DIO_CHcSTAT c) 9 = false) ∧
    (∃ s : State, ∃ k : Nat, ∃ x : Slot, ∃ c : Nat, s.Up ∧ s.en Blk.DIO = true ∧ tfind? s.hlk.serving k = none ∧ c =
      paramField x.param 0 1 ∧ x.ctx = 0 ∧ s.mode ≠ Mode.MINIMAL ∧ s.activeOp k Blk.DIO 3 = some x ∧ s.mode = Mode.RUN ∧
      s.dio.wdtExpired = false) ∧
    (∃ s : State, ∃ k : Nat, ∃ x : Slot, ∃ c : Nat, s.Up ∧ s.en Blk.DIO = true ∧ tfind? s.hlk.serving k = none ∧ c =
      paramField x.param 0 1 ∧ x.ctx = 0 ∧ s.mode ≠ Mode.MINIMAL ∧ s.activeOp k Blk.DIO 3 = some x ∧ s.mode = Mode.RUN ∧
      s.dio.wdtExpired = true ∧ s.fld Reg.DIO_WDT 0 8 ≠ 0) ∧
    (∃ s : State, ∃ k : Nat, ∃ x : Slot, ∃ c : Nat, s.Up ∧ s.en Blk.DIO = true ∧ tfind? s.hlk.serving k = none ∧ c =
      paramField x.param 0 1 ∧ x.ctx = 0 ∧ s.mode ≠ Mode.MINIMAL ∧ s.activeOp k Blk.DIO 4 = some x ∧ signed 32 (s.num
      Reg.DIO_VFIELD) ≤ 20000) ∧
    (∃ s : State, ∃ k : Nat, ∃ x : Slot, ∃ c : Nat, s.Up ∧ s.en Blk.DIO = true ∧ tfind? s.hlk.serving k = none ∧ c =
      paramField x.param 0 1 ∧ x.ctx = 0 ∧ s.mode ≠ Mode.MINIMAL ∧ s.activeOp k Blk.DIO 4 = some x ∧ 20000 < signed 32 (s.num
      Reg.DIO_VFIELD) ∧ s.dio.shed = []) ∧
    (∃ s : State, ∃ k : Nat, ∃ x : Slot, ∃ c : Nat, s.Up ∧ s.en Blk.DIO = true ∧ tfind? s.hlk.serving k = none ∧ c =
      paramField x.param 0 1 ∧ x.ctx = 0 ∧ s.mode ≠ Mode.MINIMAL ∧ s.activeOp k Blk.DIO 4 = some x ∧ 20000 < signed 32 (s.num
      Reg.DIO_VFIELD) ∧ s.dio.shed ≠ []) ∧
    (∃ s : State, ∃ k : Nat, ∃ x : Slot, ∃ c : Nat, s.Up ∧ s.en Blk.DIO = true ∧ tfind? s.hlk.serving k = none ∧ c =
      paramField x.param 0 1 ∧ x.ctx = 0 ∧ s.mode ≠ Mode.MINIMAL ∧ s.activeOp k Blk.DIO 5 = some x ∧ bitOf (paramField x.param
      1 1) 0 = false ∧ c < 24) ∧
    (∃ s : State, ∃ k : Nat, ∃ x : Slot, ∃ c : Nat, s.Up ∧ s.en Blk.DIO = true ∧ tfind? s.hlk.serving k = none ∧ c =
      paramField x.param 0 1 ∧ x.ctx = 0 ∧ s.mode ≠ Mode.MINIMAL ∧ s.activeOp k Blk.DIO 5 = some x ∧ bitOf (paramField x.param
      1 1) 0 = true ∧ c < 16 ∧ s.lcService = false) ∧
    (∃ s : State, ∃ k : Nat, ∃ x : Slot, ∃ c : Nat, s.Up ∧ s.en Blk.DIO = true ∧ tfind? s.hlk.serving k = none ∧ c =
      paramField x.param 0 1 ∧ x.ctx = 0 ∧ s.mode ≠ Mode.MINIMAL ∧ s.activeOp k Blk.DIO 5 = some x ∧ bitOf (paramField x.param
      1 1) 0 = true ∧ c < 16 ∧ s.lcService = true) :=
  ⟨⟨wv11, 3, wv10, (paramField wv10.param 0 1), by unfold State.Up; decide +kernel⟩,
   ⟨wv12, 3, wv13, (paramField wv13.param 0 1), by unfold State.Up; decide +kernel⟩,
   ⟨wv14, 3, wv13, (paramField wv13.param 0 1), by unfold State.Up; decide +kernel⟩,
   ⟨wv15, 3, wv16, (paramField wv16.param 0 1), by unfold State.Up; decide +kernel⟩,
   ⟨wv17, 3, wv16, (paramField wv16.param 0 1), by unfold State.Up; decide +kernel⟩,
   ⟨wv18, 3, wv16, (paramField wv16.param 0 1), by unfold State.Up; decide +kernel⟩,
   ⟨wv19, 3, wv20, (paramField wv20.param 0 1), by unfold State.Up; decide +kernel⟩,
   ⟨wv21, 3, wv22, (paramField wv22.param 0 1), by unfold State.Up; decide +kernel⟩,
   ⟨wv23, 3, wv22, (paramField wv22.param 0 1), by unfold State.Up; decide +kernel⟩⟩
end OutputProtection

namespace RealTimeClock
def r (s : State) (f : Rtc → Rtc) : State := {s with rtc := f s.rtc}
def w1 : State := (w0.setNum Reg.RTC_CTL 0).setNum Reg.RTC_STAT 0 |> (r · fun x => {x with cal := ⟨59,59,23,28,2,2000⟩, pend := none})
def hl (c : Cal) (s : State) : State := (r s fun x => {x with pend := some c}).setNum Reg.RTC_CTL 1
def sy (s : State) : State := ((s.setFlag Reg.RTC_CFG 2 true).setFlag (Reg.NTU_TBn_STAT 0) 1 true).setNum Reg.NTU_UTC_OFFSET 37
def tb0 (s : State) (t : Nat) : State := {s with tbs := s.tbs.set 0 ⟨t * 10^15 * 2^32, 0⟩}
def Ss : List State := [w0, w1, r w1 (fun x => {x with cal := Cal.last}), State.reset, w1.setNum Reg.RTC_WAKE 5, State.reset.setNum Reg.RTC_WAKE 5 |>.setNum Reg.RTC_CTL 0, hl Cal.first w1, hl ⟨0,0,0,30,2,2000⟩ w1, tb0 (sy w1) 951782436, tb0 (sy (w1.setFlag Reg.RTC_STAT 0 true)) 951782436, r w1 (fun x => {x with shadow := some (Cal.last,77,3)}), w1.setNum Reg.RTC_WAKE 0xFFFFF |> (r · fun x => {x with wakeAt := rtcTicks x.cal 0}), (w1.setFld Reg.RTC_CFG 0 2 2).setFlag (Reg.NTU_TBn_STAT 0) 1 true |>.setFld Reg.RTC_TRIM 0 9 250 |> (tb0 · 5000) |> (r · fun x => {x with window := some (2,5)}), w1.setFlag Reg.RTC_STAT 4 true]
def wv0 : State := ((Ss : List (State))[3]?).get (by decide +kernel)
def wv1 : State := ((Ss : List (State))[4]?).get (by decide +kernel)
def wv2 : State := ((Ss : List (State))[11]?).get (by decide +kernel)
def wv3 : State := ((Ss : List (State))[1]?).get (by decide +kernel)
def wv4 : State := ((Ss : List (State))[0]?).get (by decide +kernel)
def wv5 : Cal := (wv4.rtc.pend).get (by decide +kernel)
def wv6 : State := ((Ss : List (State))[7]?).get (by decide +kernel)
def wv7 : Cal := (wv6.rtc.pend).get (by decide +kernel)
def wv8 : State := ((Ss : List (State))[9]?).get (by decide +kernel)
def wv9 : Cal := (calOfSeconds 951782399).get (by decide +kernel)
def wv10 : State := ((Ss : List (State))[8]?).get (by decide +kernel)
def wv11 : State := ((Ss : List (State))[10]?).get (by decide +kernel)
def wv12 : Cal × Nat × Nat := (wv11.rtc.shadow).get (by decide +kernel)
def wv13 : State := ((Ss : List (State))[12]?).get (by decide +kernel)
/-- A state and operands for each clause of `RealTimeClock`. -/
theorem witness_RealTimeClock_0 :
    (∃ s : State, s.sup.inReset = true) ∧
    (∃ s : State, s.fld Reg.RTC_WAKE 0 20 ≠ 0 ∧ s.rtcHalt = false ∧ s.rtc.wakeAt + 512 * s.fld Reg.RTC_WAKE 0 20 ≤
      rtcTicks s.rtc.cal 32767) ∧
    (∃ s : State, s.fld Reg.RTC_WAKE 0 20 ≠ 0 ∧ s.rtcHalt = false ∧ rtcTicks s.rtc.cal 32767 < s.rtc.wakeAt + 512 *
      s.fld Reg.RTC_WAKE 0 20) ∧
    (∃ s : State, s.Up ∧ s.rtcHalt = false ∧ s.inSrst Blk.RTC = false ∧ s.rollsNow = false) ∧
    (∃ s : State, ∃ c : Cal, s.Up ∧ s.inSrst Blk.RTC = false ∧ s.rtc.pend = some c ∧ c.possible = true) ∧
    (∃ s : State, ∃ c : Cal, s.Up ∧ s.inSrst Blk.RTC = false ∧ s.rtc.pend = some c ∧ c.possible = false) ∧
    (∃ s : State, ∃ tt : Int, ∃ c : Cal, s.Up ∧ s.flag Reg.RTC_CFG 2 = true ∧ s.flag (Reg.NTU_TBn_STAT 0) 1 = true ∧ (s.tb
      0).ns ≤ 1 ∧ tt =((s.tb 0).sec : Int) - signed 16 (s.fld Reg.NTU_UTC_OFFSET 0 16) ∧ calOfSeconds tt.toNat = some c ∧
      s.rtcBit RtcBit.OSF = true) ∧
    (∃ s : State, ∃ n : Nat, ∃ tt : Int, ∃ c : Cal, s.Up ∧ s.flag Reg.RTC_CFG 2 = true ∧ s.flag (Reg.NTU_TBn_STAT 0) 1 = true
      ∧ (s.tb 0).ns ≤ 1 ∧ tt =((s.tb 0).sec : Int) - signed 16 (s.fld Reg.NTU_UTC_OFFSET 0 16) ∧ calOfSeconds tt.toNat = some
      c ∧ s.rtcBit RtcBit.OSF = false ∧ (rtcTicks c 0 - rtcTicks s.rtc.cal n).natAbs < 32768) ∧
    (∃ s : State, s.Up ∧ s.rtc.shadow = none ∧ s.rtc.pend = none ∧ s.rtcHalt = false ∧ s.rollsNow = false) ∧
    (∃ s : State, ∃ z : Cal × Nat × Nat, ∃ c : Cal, ∃ n : Nat, ∃ k : Nat, s.Up ∧ s.rtc.shadow = some z ∧ c = z.1 ∧ n = z.2.1 ∧
      k = z.2.2) ∧
    (∃ s : State, ∃ z : Cal × Nat × Nat, ∃ c : Cal, ∃ n : Nat, ∃ k : Nat, s.Up ∧ s.rtc.shadow = some z ∧ c = z.1 ∧ n = z.2.1 ∧
      k = z.2.2 ∧ k + 500 * msClk ≤ s.clk ∧ s.Alone) ∧
    (∃ s : State, s.Up ∧ s.fld Reg.RTC_CFG 0 2 = 2 ∧ s.flag (Reg.NTU_TBn_STAT 0) 1 = true ∧ s.trimDue = true) :=
  ⟨⟨wv0, by decide +kernel⟩,
   ⟨wv1, by decide +kernel⟩,
   ⟨wv2, by decide +kernel⟩,
   ⟨wv3, by unfold State.Up; decide +kernel⟩,
   ⟨wv4, wv5, by unfold State.Up; decide +kernel, by decide +kernel, (Option.some_get _).symm, by decide +kernel⟩,
   ⟨wv6, wv7, by unfold State.Up; decide +kernel, by decide +kernel, (Option.some_get _).symm, by decide +kernel⟩,
   ⟨wv8, 951782399, wv9, by unfold State.Up; decide +kernel, by decide +kernel, by decide +kernel, by decide +kernel, by
     decide +kernel, (Option.some_get _).symm, by decide +kernel⟩,
   ⟨wv10, 0, 951782399, wv9, by unfold State.Up; decide +kernel, by decide +kernel, by decide +kernel, by decide +kernel, by
     decide +kernel, (Option.some_get _).symm, by decide +kernel, by decide +kernel⟩,
   ⟨wv3, by unfold State.Up; decide +kernel⟩,
   ⟨wv11, wv12, (wv12.1), (wv12.2.1), (wv12.2.2), by unfold State.Up; decide +kernel, (Option.some_get _).symm, rfl, rfl, rfl⟩,
   ⟨wv11, wv12, (wv12.1), (wv12.2.1), (wv12.2.2), by unfold State.Up; decide +kernel, (Option.some_get _).symm, rfl, rfl, rfl,
     by decide +kernel, by unfold State.Alone; decide +kernel⟩,
   ⟨wv13, by unfold State.Up; decide +kernel⟩⟩
/-- A state and operands for each clause of `RealTimeClock`. -/
theorem witness_RealTimeClock_1 :
    (∃ s : State, s.Up ∧ s.trimDue = false) ∧
    (∃ s : State, ∃ mv : Nat, s.Up ∧ mv < 2200 ∧ s.rtcBit RtcBit.VBAT_LOW = false) ∧
    (∃ s : State, ∃ mv : Nat, s.Up ∧ 2400 < mv) ∧
    (∃ s : State, ∃ mv : Nat, s.Up ∧ 2200 ≤ mv ∧ mv ≤ 2400) :=
  ⟨⟨wv4, by unfold State.Up; decide +kernel⟩,
   ⟨wv4, 0, by unfold State.Up; decide +kernel⟩,
   ⟨wv4, 32767, by unfold State.Up; decide +kernel⟩,
   ⟨wv4, 2200, by unfold State.Up; decide +kernel⟩⟩
end RealTimeClock

end DioRtc

/-! ### KeyTen -/

namespace KeyTen

def k1 (o c : Nat) (l : List (Nat × Nat × Nat)) : Slot := mkOp Blk.KEY o c l
def n1 (o c : Nat) (l : List (Nat × Nat × Nat)) : Slot := mkOp Blk.TEN o c l

namespace SlotsAndLifeCycle
def xi : Slot := k1 1 0 [(0,1,6),(2,2,0x2F8)]
def xj : Slot := k1 1 0 [(0,1,15),(2,2,0x2FF)]
def xd : Slot := k1 2 0 [(0,1,4)]
def xa : Slot := k1 4 0 [(8,8,0x1000)]
def xf : Slot := k1 7 0 [(0,4,77),(4,4,5)]
def xg : Slot := k1 7 0 [(0,4,77),(4,4,6)]
def xl : Slot := k1 3 0 [(0,1,1)]
def xm : Slot := k1 3 0 [(0,1,4)]
def b : State := up0
def im : State := {up0 with sup := {up0.sup with imgOk := true, imgId := 77, imgVer := 5}}
def lc (n l : Nat) : State := {up0 with key := {up0.key with otpState := n, otpLeft := l}}
def Ss : List State := [withOp b 0 xi, withOp b 0 xj, withOp (b.setNum (Reg.KEY_SLOTs_ATTR 6) 0x11) 0 xi, withOp (lc 2 3) 0 xi, withOp (b.setNum (Reg.KEY_SLOTs_GEN 4) 0xFFFF) 0 xd, withOp (b.setNum (Reg.KEY_SLOTs_ATTR 4) 0x11) 0 xd,
  withOp b 0 xa, withOp (b.setNum Reg.KEY_LC 0x1000000) 0 xa, withOp im 0 xf, withOp im 0 xg, withOp (lc 0 31) 0 xl, withOp (lc 3 31) 0 xl, withOp (lc 3 0) 0 xl, withOp (lc 2 0) 0 xm, withOp (lc 4 0) 0 xm]
def wv0 : State := ((Ss : List (State))[0]?).get (by decide +kernel)
def wv1 : State := ((Ss : List (State))[2]?).get (by decide +kernel)
def wv2 : State := ((Ss : List (State))[4]?).get (by decide +kernel)
def wv3 : State := ((Ss : List (State))[5]?).get (by decide +kernel)
def wv4 : State := ((Ss : List (State))[7]?).get (by decide +kernel)
def wv5 : State := ((Ss : List (State))[8]?).get (by decide +kernel)
def wv6 : State := ((Ss : List (State))[9]?).get (by decide +kernel)
def wv7 : State := ((Ss : List (State))[10]?).get (by decide +kernel)
def wv8 : State := ((Ss : List (State))[12]?).get (by decide +kernel)
/-- A state and operands for each clause of `SlotsAndLifeCycle`. -/
theorem witness_SlotsAndLifeCycle :
    (∃ s : State, ∃ k : Nat, ∃ x : Slot, ∃ n : Nat, ∃ a : Nat, ∃ key : List Byte, ∃ j : Nat, s.Up ∧ tfind? s.hlk.serving k =
      none ∧ s.activeOp k Blk.KEY 1 = some x ∧ n = paramField x.param 0 1 ∧ paramField x.param 1 1 = 0 ∧ a = paramField
      x.param 2 2 ∧ 6 ≤ n ∧ n ≤ 15 ∧ a < 2 ^ 10 ∧ bitOf a 8 = false ∧ s.lcState < 2 ∧ s.flag (Reg.KEY_SLOTs_ATTR n) 4 = false
      ∧ 32 ≤ key.length ∧ s.sup.pfail = false ∧ s.freeTag = some j) ∧
    (∃ s : State, ∃ k : Nat, ∃ x : Slot, ∃ n : Nat, ∃ a : Nat, s.Up ∧ tfind? s.hlk.serving k = none ∧ s.activeOp k Blk.KEY 1 =
      some x ∧ n = paramField x.param 0 1 ∧ paramField x.param 1 1 = 0 ∧ a = paramField x.param 2 2 ∧ 6 ≤ n ∧ n ≤ 15 ∧ a < 2 ^
      10 ∧ bitOf a 8 = false ∧ (2 ≤ s.lcState ∨ s.flag (Reg.KEY_SLOTs_ATTR n) 4 = true)) ∧
    (∃ s : State, ∃ k : Nat, ∃ x : Slot, ∃ n : Nat, ∃ j : Nat, s.Up ∧ tfind? s.hlk.serving k = none ∧ s.activeOp k Blk.KEY 2 =
      some x ∧ n = paramField x.param 0 1 ∧ 4 ≤ n ∧ n ≤ 15 ∧ s.flag (Reg.KEY_SLOTs_ATTR n) 4 = false ∧ s.sup.pfail = false ∧
      s.freeTag = some j) ∧
    (∃ s : State, ∃ k : Nat, ∃ x : Slot, ∃ n : Nat, s.Up ∧ tfind? s.hlk.serving k = none ∧ s.activeOp k Blk.KEY 2 = some x ∧ n
      = paramField x.param 0 1 ∧ 4 ≤ n ∧ n ≤ 15 ∧ s.flag (Reg.KEY_SLOTs_ATTR n) 4 = true) ∧
    (∃ s : State, ∃ k : Nat, ∃ x : Slot, ∃ ch : List Byte, s.Up ∧ tfind? s.hlk.serving k = none ∧ s.activeOp k Blk.KEY 4 =
      some x ∧ 32 ≤ ch.length ∧ s.flag Reg.KEY_LC 24 = true) ∧
    (∃ s : State, ∃ k : Nat, ∃ x : Slot, ∃ id : Nat, ∃ f : Nat, ∃ j : Nat, s.Up ∧ tfind? s.hlk.serving k = none ∧ s.activeOp k
      Blk.KEY 7 = some x ∧ id = paramField x.param 0 4 ∧ f = paramField x.param 4 4 ∧ s.sup.imgOk = true ∧ s.sup.imgId = id ∧
      f ≤ s.sup.imgVer ∧ s.sup.pfail = false ∧ s.freeTag = some j) ∧
    (∃ s : State, ∃ k : Nat, ∃ x : Slot, ∃ id : Nat, ∃ f : Nat, s.Up ∧ tfind? s.hlk.serving k = none ∧ s.activeOp k Blk.KEY 7
      = some x ∧ id = paramField x.param 0 4 ∧ f = paramField x.param 4 4 ∧ s.sup.imgOk = true ∧ s.sup.imgId = id ∧
      s.sup.imgVer < f) ∧
    (∃ s : State, ∃ k : Nat, ∃ x : Slot, ∃ d : Nat, ∃ l : List Nat, s.Up ∧ tfind? s.hlk.serving k = none ∧ s.activeOp k
      Blk.KEY 3 = some x ∧ d = paramField x.param 0 1 ∧ l = lcSlots s.lcState d ∧ l ≠ [] ∧ (s.key.otpLeft ≠ 0 ∨ d = 4)) ∧
    (∃ s : State, ∃ k : Nat, ∃ x : Slot, ∃ d : Nat, ∃ l : List Nat, s.Up ∧ tfind? s.hlk.serving k = none ∧ s.activeOp k
      Blk.KEY 3 = some x ∧ d = paramField x.param 0 1 ∧ l = lcSlots s.lcState d ∧ (l = [] ∨ s.key.otpLeft = 0 ∧ d ≠ 4)) :=
  ⟨⟨wv0, 0, xi, 6, 0x2F8, List.replicate 33 5, 1, by unfold State.Up; decide +kernel⟩,
   ⟨wv1, 0, xi, 6, 0x2F8, by unfold State.Up; decide +kernel⟩,
   ⟨wv2, 0, xd, 4, 1, by unfold State.Up; decide +kernel⟩,
   ⟨wv3, 0, xd, 4, by unfold State.Up; decide +kernel⟩,
   ⟨wv4, 0, xa, List.replicate 33 5, by unfold State.Up; decide +kernel⟩,
   ⟨wv5, 0, xf, 77, 5, 1, by unfold State.Up; decide +kernel⟩,
   ⟨wv6, 0, xg, 77, 6, by unfold State.Up; decide +kernel⟩,
   ⟨wv7, 0, xl, 1, [3], by unfold State.Up; decide +kernel⟩,
   ⟨wv8, 0, xl, 1, [3], by unfold State.Up; decide +kernel⟩⟩
end SlotsAndLifeCycle

namespace TenantKeysAndSessions
def xi : Slot := k1 5 0 [(0,1,9),(1,1,0)]
def xj : Slot := k1 5 255 [(0,1,255),(1,1,1)]
def xd : Slot := k1 6 0 [(0,1,255)]
def xs : Slot := n1 1 9 [(0,1,9),(2,2,3600),(16,16,42)]
def xs2 : Slot := n1 1 9 [(0,1,9),(2,2,3601),(16,16,42)]
def xs0 : Slot := n1 1 9 [(0,1,9),(2,2,3600)]
def xs3 : Slot := n1 1 9 [(0,1,9),(2,2,3600),(16,16,43)]
def xc : Slot := n1 2 9 [(0,1,9)]
def lc (n l : Nat) : State := {up0 with key := {up0.key with otpState := n, otpLeft := l}}
def kb : KeyBlob := ⟨5,0xFFFF,70⟩
def b4 : State := let s := lc 1 3; {s.setNum (Reg.KEY_SLOTs_ATTR 4) 1 with key := {s.key with record := {s.key.record with secrets := [(4, 6)]}}}
def b5 : State := let s := (b4.setBlob 255 (some kb)).setBlob 9 (some kb); ({s with key := {s.key with cache := [9,255]}, ten := {s.ten with sessionEnd := [(9,800),(255,20)]}, clk := 100}).setFlag (Reg.TEN_CTXc_STAT 255) 1 true
def b6 : State := {b5 with key := {b5.key with cache := [1,2], missing := [9]}}
def b7 : State := {b5 with key := {b5.key with cache := List.range 32 |>.map (·+100), missing := [9]}}
def b8 : State := (List.range 32).foldl (fun a i => a.setFlag (Reg.TEN_CTXc_STAT (100+i)) 1 true) b7
def Ss : List State := [withOp b4 0 xi, withOp (lc 2 3) 0 xi, withOp b5 0 xi, withOp b5 0 xj, withOp b5 0 xd, withOp b4 0 xd, b6, b7, b7.setFlag (Reg.TEN_CTXc_STAT 100) 1 true, b8, withOp b5 0 xs, withOp b5 0 xs0, withOp b5 0 xs2, withOp b5 0 xs3, withOp b5 0 xc, withOp (b5.setFlag (Reg.TEN_CTXc_STAT 9) 1 true) 0 xc, {b5 with clk := 10^10, ten := {b5.ten with spent := [(9,4)]}}.setFld (Reg.TEN_CTXc_RATE 9) 0 16 1]
def wv0 : State := ((Ss : List (State))[0]?).get (by decide +kernel)
def wv1 : State := ((Ss : List (State))[3]?).get (by decide +kernel)
def wv2 : State := ((Ss : List (State))[2]?).get (by decide +kernel)
def wv3 : State := ((Ss : List (State))[4]?).get (by decide +kernel)
def wv4 : State := ((Ss : List (State))[5]?).get (by decide +kernel)
def wv5 : State := ((Ss : List (State))[6]?).get (by decide +kernel)
def wv6 : State := ((Ss : List (State))[7]?).get (by decide +kernel)
def wv7 : State := ((Ss : List (State))[9]?).get (by decide +kernel)
def wv8 : State := ((Ss : List (State))[10]?).get (by decide +kernel)
def wv9 : State := ((Ss : List (State))[15]?).get (by decide +kernel)
def wv10 : State := ((Ss : List (State))[14]?).get (by decide +kernel)
def wv11 : Nat := (tfind? wv2.ten.sessionEnd (9)).get (by decide +kernel)
def wv12 : Nat := (tfind? wv2.ten.sessionEnd (255)).get (by decide +kernel)
def wv13 : State := ((Ss : List (State))[16]?).get (by decide +kernel)
/-- A state and operands for each clause of `TenantKeysAndSessions`. -/
theorem witness_TenantKeysAndSessions_0 :
    (∃ s : State, ∃ k : Nat, ∃ x : Slot, ∃ c : Nat, ∃ b : List Byte, ∃ j : Nat, s.Up ∧ tfind? s.hlk.serving k = none ∧ 1 ≤ c ∧
      c ≤ 255 ∧ s.activeOp k Blk.KEY 5 = some x ∧ c = paramField x.param 0 1 ∧ (x.ctx = 0 ∨ x.ctx = c) ∧ (s.lcState = 1 ∨
      s.lcState = 2) ∧ 40 ≤ b.length ∧ s.sup.pfail = false ∧ s.freeTag = some j ∧ paramField x.param 1 1 = 0 ∧ s.blob c =
      none) ∧
    (∃ s : State, ∃ k : Nat, ∃ x : Slot, ∃ c : Nat, ∃ b : List Byte, ∃ j : Nat, ∃ o : KeyBlob, s.Up ∧ tfind? s.hlk.serving k =
      none ∧ 1 ≤ c ∧ c ≤ 255 ∧ s.activeOp k Blk.KEY 5 = some x ∧ c = paramField x.param 0 1 ∧ (x.ctx = 0 ∨ x.ctx = c) ∧
      (s.lcState = 1 ∨ s.lcState = 2) ∧ 40 ≤ b.length ∧ s.sup.pfail = false ∧ s.freeTag = some j ∧ paramField x.param 1 1 = 1
      ∧ s.blob c = some o ∧ s.Alone) ∧
    (∃ s : State, ∃ k : Nat, ∃ x : Slot, ∃ c : Nat, ∃ b : List Byte, ∃ j : Nat, s.Up ∧ tfind? s.hlk.serving k = none ∧ 1 ≤ c ∧
      c ≤ 255 ∧ s.activeOp k Blk.KEY 5 = some x ∧ c = paramField x.param 0 1 ∧ (x.ctx = 0 ∨ x.ctx = c) ∧ (s.lcState = 1 ∨
      s.lcState = 2) ∧ 40 ≤ b.length ∧ s.sup.pfail = false ∧ s.freeTag = some j ∧ paramField x.param 1 1 = 0 ∧ (s.blob
      c).isSome = true) ∧
    (∃ s : State, ∃ k : Nat, ∃ x : Slot, ∃ c : Nat, ∃ o : KeyBlob, ∃ j : Nat, s.Up ∧ tfind? s.hlk.serving k = none ∧ 1 ≤ c ∧ c
      ≤ 255 ∧ s.activeOp k Blk.KEY 6 = some x ∧ c = paramField x.param 0 1 ∧ s.blob c = some o ∧ s.sup.pfail = false ∧
      s.freeTag = some j) ∧
    (∃ s : State, ∃ k : Nat, ∃ x : Slot, ∃ c : Nat, s.Up ∧ tfind? s.hlk.serving k = none ∧ 1 ≤ c ∧ c ≤ 255 ∧ s.activeOp k
      Blk.KEY 6 = some x ∧ c = paramField x.param 0 1 ∧ s.blob c = none) ∧
    (∃ s : State, ∃ k : Nat, ∃ c : Nat, ∃ o : KeyBlob, s.Up ∧ tfind? s.hlk.serving k = none ∧ 1 ≤ c ∧ c ≤ 255 ∧
      s.key.missing.contains c = true ∧ s.arb.coreDown = false ∧ s.blob c = some o ∧ s.key.cache.contains c = false ∧
      s.ten.sealTags = [] ∧ s.emu.ring = [] ∧ s.key.cache.length < 32) ∧
    (∃ s : State, ∃ k : Nat, ∃ c : Nat, ∃ o : KeyBlob, ∃ e : Nat, s.Up ∧ tfind? s.hlk.serving k = none ∧ 1 ≤ c ∧ c ≤ 255 ∧
      s.key.missing.contains c = true ∧ s.arb.coreDown = false ∧ s.blob c = some o ∧ s.key.cache.contains c = false ∧
      s.ten.sealTags = [] ∧ s.emu.ring = [] ∧ s.key.cache.length = 32 ∧ s.key.cache.find? (fun e => !s.flag (Reg.TEN_CTXc_STAT
      e) 1) = some e) ∧
    (∃ s : State, ∃ k : Nat, ∃ c : Nat, ∃ o : KeyBlob, s.Up ∧ tfind? s.hlk.serving k = none ∧ 1 ≤ c ∧ c ≤ 255 ∧
      s.key.missing.contains c = true ∧ s.arb.coreDown = false ∧ s.blob c = some o ∧ s.key.cache.contains c = false ∧
      s.ten.sealTags = [] ∧ s.emu.ring = [] ∧ 32 ≤ s.key.cache.length ∧ s.key.cache.find? (fun e => !s.flag (Reg.TEN_CTXc_STAT
      e) 1) = none) ∧
    (∃ s : State, ∃ k : Nat, ∃ x : Slot, ∃ c : Nat, ∃ o : KeyBlob, ∃ d : Nat, s.Up ∧ tfind? s.hlk.serving k = none ∧ 1 ≤ c ∧ c
      ≤ 255 ∧ s.activeOp k Blk.TEN 1 = some x ∧ c = paramField x.param 0 1 ∧ d = paramField x.param 2 2 ∧ s.mode ≠
      Mode.MINIMAL ∧ s.blob c = some o ∧ s.key.cache.contains c = true) ∧
    (∃ s : State, ∃ k : Nat, ∃ x : Slot, ∃ c : Nat, s.Up ∧ tfind? s.hlk.serving k = none ∧ 1 ≤ c ∧ c ≤ 255 ∧ s.activeOp k
      Blk.TEN 2 = some x ∧ c = paramField x.param 0 1 ∧ s.mode ≠ Mode.MINIMAL ∧ s.flag (Reg.TEN_CTXc_STAT c) 1 = true) ∧
    (∃ s : State, ∃ k : Nat, ∃ x : Slot, ∃ c : Nat, s.Up ∧ tfind? s.hlk.serving k = none ∧ 1 ≤ c ∧ c ≤ 255 ∧ s.activeOp k
      Blk.TEN 2 = some x ∧ c = paramField x.param 0 1 ∧ s.mode ≠ Mode.MINIMAL ∧ s.flag (Reg.TEN_CTXc_STAT c) 1 = false) ∧
    (∃ s : State, ∃ k : Nat, ∃ c : Nat, ∃ e : Nat, s.Up ∧ tfind? s.hlk.serving k = none ∧ 1 ≤ c ∧ c ≤ 255 ∧ tfind?
      s.ten.sessionEnd c = some e ∧ s.clk < e) :=
  ⟨⟨wv0, 0, xi, 9, List.replicate 40 1, 1, by unfold State.Up; decide +kernel⟩,
   ⟨wv1, 0, xj, 255, List.replicate 40 1, 1, kb, by unfold State.Up State.Alone; decide +kernel⟩,
   ⟨wv2, 0, xi, 9, List.replicate 40 1, 1, by unfold State.Up; decide +kernel⟩,
   ⟨wv3, 0, xd, 255, kb, 1, by unfold State.Up; decide +kernel⟩,
   ⟨wv4, 0, xd, 255, by unfold State.Up; decide +kernel⟩,
   ⟨wv5, 0, 9, kb, by unfold State.Up; decide +kernel⟩,
   ⟨wv6, 0, 9, kb, 100, by unfold State.Up; decide +kernel⟩,
   ⟨wv7, 0, 9, kb, by unfold State.Up; decide +kernel⟩,
   ⟨wv8, 0, xs, 9, kb, 3600, by unfold State.Up; decide +kernel⟩,
   ⟨wv9, 0, xc, 9, by unfold State.Up; decide +kernel⟩,
   ⟨wv10, 0, xc, 9, by unfold State.Up; decide +kernel⟩,
   ⟨wv2, 0, 9, wv11, by unfold State.Up; decide +kernel, by decide +kernel, by decide +kernel, by decide +kernel,
     (Option.some_get _).symm, by decide +kernel⟩⟩
/-- A state and operands for each clause of `TenantKeysAndSessions`. -/
theorem witness_TenantKeysAndSessions_1 :
    (∃ s : State, ∃ k : Nat, ∃ c : Nat, ∃ e : Nat, s.Up ∧ tfind? s.hlk.serving k = none ∧ 1 ≤ c ∧ c ≤ 255 ∧ tfind?
      s.ten.sessionEnd c = some e ∧ e ≤ s.clk ∧ s.flag (Reg.TEN_CTXc_STAT c) 1 = true) ∧
    (∃ s : State, ∃ k : Nat, ∃ c : Nat, ∃ n : Nat, s.Up ∧ tfind? s.hlk.serving k = none ∧ 1 ≤ c ∧ c ≤ 255 ∧ n = (s.clk - tget
      (fun _ => 0) s.ten.refilled c) * s.fld (Reg.TEN_CTXc_RATE c) 0 16 / 800000000 ∧ n ≠ 0 ∧ tget (fun _ => 0) s.ten.spent c
      ≠ 0) :=
  ⟨⟨wv2, 0, 255, wv12, by unfold State.Up; decide +kernel, by decide +kernel, by decide +kernel, by decide +kernel,
     (Option.some_get _).symm, by decide +kernel, by decide +kernel⟩,
   ⟨wv13, 0, 9, ((wv13.clk - tget (fun _ => 0) wv13.ten.refilled (9)) * wv13.fld (Reg.TEN_CTXc_RATE (9)) 0 16 / 800000000),
     by unfold State.Up; decide +kernel⟩⟩
end TenantKeysAndSessions

namespace SealsAndPoints
def xs : Slot := n1 3 9 [(0,1,9),(2,2,2),(8,8,0),(16,8,0x5000)]
def xr : Slot := n1 4 9 [(0,2,7),(8,8,0x5000)]
def xw : Slot := n1 5 9 [(0,2,7),(8,8,0x15000)]
def xf : Slot := n1 6 0 [(0,2,7),(8,8,0x15000)]
def xf9 : Slot := n1 6 9 [(0,2,7),(8,8,0x15000)]
def xl : Slot := n1 7 0 [(0,2,7),(8,8,0x15000)]
def kb : KeyBlob := ⟨5,0xFFFF,70⟩
def b4 : State := up0.setPoint 7 ⟨5, Q.GOOD, 4, 9, 3, .host, false⟩ |>.setPoint 8 ⟨5, Q.GOOD, 4, 9, 3, .nobody, false⟩
def b5 : State := let s := (b4.setBlob 9 (some kb)); {s with key := {s.key with cache := [1,9,2], storedBlobs := [(9,kb)]}, ten := {s.ten with nonce := [(9,68)]}, lat := {s.lat with pos := 2^50}}
def b6 : State := {b5 with ten := {b5.ten with nonce := [(9,70)]}}
def b7 (n : Nat): State := {b6 with ten := {b5.ten with raising := [9]}, sto := {b5.sto with durable := [(.reserve 9, n)]}}
def f7 : State := b5.setPoint 7 ⟨5, Q.FORCED, 4, 9, 3, .host, true⟩
def Ss : List State := [withOp b5 0 xs, withOp b6 0 xs, withOp (b5.setPoint 8 ⟨5, Q.GOOD, 4, 8, 3, .nobody, false⟩) 0 xs, b7 0, (b7 St.FAIL_TIMEOUT), withOp b5 0 xr, withOp ((b5.setNum (Reg.TEN_CTXc_RNGr_W0 9 63) 0x00070007).setNum (Reg.TEN_CTXc_RNGr_W1 9 63) 0x80000004) 0 xr,
 withOp b5 0 xw, withOp f7 0 xw, withOp (b5.setPoint 7 ⟨5, Q.GOOD, 4, 8, 3, .nobody, false⟩) 0 xw, withOp f7 0 xf, withOp b5 0 xf, withOp b5 0 xf9, withOp b5 0 xl, withOp f7 0 xl]
def wv0 : State := ((Ss : List (State))[0]?).get (by decide +kernel)
def wv1 : State := ((Ss : List (State))[1]?).get (by decide +kernel)
def wv2 : State := ((Ss : List (State))[2]?).get (by decide +kernel)
def wv3 : State := ((Ss : List (State))[3]?).get (by decide +kernel)
def wv4 : State := ((Ss : List (State))[4]?).get (by decide +kernel)
def wv5 : State := ((Ss : List (State))[6]?).get (by decide +kernel)
def wv6 : State := ((Ss : List (State))[5]?).get (by decide +kernel)
def wv7 : State := ((Ss : List (State))[7]?).get (by decide +kernel)
def wv8 : State := ((Ss : List (State))[9]?).get (by decide +kernel)
def wv9 : State := ((Ss : List (State))[10]?).get (by decide +kernel)
def wv10 : State := ((Ss : List (State))[12]?).get (by decide +kernel)
def wv11 : State := ((Ss : List (State))[14]?).get (by decide +kernel)
def wv12 : State := ((Ss : List (State))[13]?).get (by decide +kernel)
/-- A state and operands for each clause of `SealsAndPoints`. -/
theorem witness_SealsAndPoints_0 :
    (∃ s : State, ∃ k : Nat, ∃ x : Slot, ∃ c : Nat, ∃ n : Nat, ∃ l : List Nat, ∃ o : KeyBlob, ∃ b : List Byte, s.Up ∧ tfind?
      s.hlk.serving k = none ∧ s.activeOp k Blk.TEN 3 = some x ∧ c = paramField x.param 0 1 ∧ n = paramField x.param 2 2 ∧ c ≠
      0 ∧ (x.ctx = 0 ∨ x.ctx = c) ∧ 1 ≤ n ∧ n ≤ 64 ∧ n = l.length ∧ s.mode ≠ Mode.MINIMAL ∧ s.inSrst Blk.TEN = false ∧ s.blob
      c = some o ∧ s.key.cache.contains c = true ∧ (∀ i, i ∈ l → (s.point i).ctx = c) ∧ s.nonceOf c + 1 < s.reserveOf c ∧ b =
      envelope o 1 c (s.nonceOf c) ((l.map (fun i => pointBytes (s.pointFor Blk.HIF i))).flatten)) ∧
    (∃ s : State, ∃ k : Nat, ∃ x : Slot, ∃ c : Nat, ∃ n : Nat, ∃ l : List Nat, ∃ o : KeyBlob, ∃ j : Nat, s.Up ∧ tfind?
      s.hlk.serving k = none ∧ s.activeOp k Blk.TEN 3 = some x ∧ c = paramField x.param 0 1 ∧ n = paramField x.param 2 2 ∧ c ≠
      0 ∧ (x.ctx = 0 ∨ x.ctx = c) ∧ 1 ≤ n ∧ n ≤ 64 ∧ n = l.length ∧ s.mode ≠ Mode.MINIMAL ∧ s.inSrst Blk.TEN = false ∧ s.blob
      c = some o ∧ s.key.cache.contains c = true ∧ (∀ i, i ∈ l → (s.point i).ctx = c) ∧ s.reserveOf c ≤ s.nonceOf c ∧
      s.ten.raising.contains c = false ∧ s.ten.sealTags = [] ∧ s.sup.pfail = false ∧ s.freeTag = some j) ∧
    (∃ s : State, ∃ k : Nat, ∃ x : Slot, ∃ c : Nat, ∃ n : Nat, ∃ l : List Nat, ∃ o : KeyBlob, ∃ i : Nat, s.Up ∧ tfind?
      s.hlk.serving k = none ∧ s.activeOp k Blk.TEN 3 = some x ∧ c = paramField x.param 0 1 ∧ n = paramField x.param 2 2 ∧ c ≠
      0 ∧ (x.ctx = 0 ∨ x.ctx = c) ∧ 1 ≤ n ∧ n ≤ 64 ∧ n = l.length ∧ s.mode ≠ Mode.MINIMAL ∧ s.inSrst Blk.TEN = false ∧ s.blob
      c = some o ∧ s.key.cache.contains c = true ∧ i ∈ l ∧ (s.point i).ctx ≠ c) ∧
    (∃ s : State, ∃ k : Nat, ∃ c : Nat, ∃ st : Nat, ∃ o : KeyBlob, s.Up ∧ tfind? s.hlk.serving k = none ∧ s.stoEnded (.reserve
      c) = some st ∧ s.blob c = some o ∧ 1 ≤ c ∧ c ≤ 255 ∧ st = St.OK ∧ s.ten.sealTags = [] ∧ s.emu.ring = []) ∧
    (∃ s : State, ∃ k : Nat, ∃ c : Nat, ∃ st : Nat, ∃ o : KeyBlob, ∃ j : Nat, s.Up ∧ tfind? s.hlk.serving k = none ∧
      s.stoEnded (.reserve c) = some st ∧ s.blob c = some o ∧ 1 ≤ c ∧ c ≤ 255 ∧ st ≠ St.OK ∧ s.sup.pfail = false ∧ s.freeTag =
      some j) ∧
    (∃ s : State, ∃ k : Nat, ∃ x : Slot, ∃ i : Nat, ∃ p : Point, s.Up ∧ tfind? s.hlk.serving k = none ∧ i = paramField x.param
      0 2 ∧ p = s.point i ∧ s.activeOp k Blk.TEN 4 = some x ∧ s.hostMayRead x.ctx i = true) ∧
    (∃ s : State, ∃ k : Nat, ∃ x : Slot, ∃ i : Nat, ∃ p : Point, s.Up ∧ tfind? s.hlk.serving k = none ∧ i = paramField x.param
      0 2 ∧ p = s.point i ∧ s.activeOp k Blk.TEN 4 = some x ∧ s.hostMayRead x.ctx i = false) ∧
    (∃ s : State, ∃ k : Nat, ∃ x : Slot, ∃ i : Nat, ∃ p : Point, s.Up ∧ tfind? s.hlk.serving k = none ∧ i = paramField x.param
      0 2 ∧ p = s.point i ∧ s.activeOp k Blk.TEN 5 = some x ∧ p.type ≠ PtType.NONE ∧ p.producer = .host ∧ s.hostMayWrite x.ctx
      i = true ∧ s.lcpPoint i = false ∧ s.copiesOf i = [] ∧ s.pointNote i = none) ∧
    (∃ s : State, ∃ k : Nat, ∃ x : Slot, ∃ i : Nat, ∃ p : Point, s.Up ∧ tfind? s.hlk.serving k = none ∧ i = paramField x.param
      0 2 ∧ p = s.point i ∧ s.activeOp k Blk.TEN 5 = some x ∧ p.type ≠ PtType.NONE ∧ p.producer ≠ .host) ∧
    (∃ s : State, ∃ k : Nat, ∃ x : Slot, ∃ i : Nat, ∃ p : Point, s.Up ∧ tfind? s.hlk.serving k = none ∧ i = paramField x.param
      0 2 ∧ p = s.point i ∧ s.activeOp k Blk.TEN 6 = some x ∧ x.ctx = 0 ∧ p.type ≠ PtType.NONE ∧ s.lcpPoint i = false) ∧
    (∃ s : State, ∃ k : Nat, ∃ x : Slot, ∃ i : Nat, ∃ p : Point, s.Up ∧ tfind? s.hlk.serving k = none ∧ i = paramField x.param
      0 2 ∧ p = s.point i ∧ s.activeOp k Blk.TEN 6 = some x ∧ x.ctx ≠ 0) ∧
    (∃ s : State, ∃ k : Nat, ∃ x : Slot, ∃ i : Nat, ∃ p : Point, s.Up ∧ tfind? s.hlk.serving k = none ∧ i = paramField x.param
      0 2 ∧ p = s.point i ∧ s.activeOp k Blk.TEN 7 = some x ∧ x.ctx = 0 ∧ p.forced = true ∧ s.pointNote i = none) :=
  ⟨⟨wv0, 0, xs, 9, 2, [7,8], kb, envelope (kb) 1 (9) (wv0.nonceOf (9)) ((([7,8]).map (fun i => pointBytes (wv0.pointFor
     Blk.HIF i))).flatten), by unfold State.Up; decide +kernel, by decide +kernel, by decide +kernel, by decide +kernel, by
     decide +kernel, by decide +kernel, by decide +kernel, by decide +kernel, by decide +kernel, by decide +kernel, by
     decide +kernel, by decide +kernel, by decide +kernel, by decide +kernel, by decide +kernel, by decide +kernel, rfl⟩,
   ⟨wv1, 0, xs, 9, 2, [7,8], kb, 1, by unfold State.Up; decide +kernel⟩,
   ⟨wv2, 0, xs, 9, 2, [7,8], kb, 8, by unfold State.Up; decide +kernel⟩,
   ⟨wv3, 0, 9, 0, kb, by unfold State.Up; decide +kernel⟩,
   ⟨wv4, 0, 9, 16, kb, 0, by unfold State.Up; decide +kernel⟩,
   ⟨wv5, 0, xr, 7, b5.point 7, by unfold State.Up; decide +kernel⟩,
   ⟨wv6, 0, xr, 7, b5.point 7, by unfold State.Up; decide +kernel⟩,
   ⟨wv7, 0, xw, 7, b5.point 7, by unfold State.Up; decide +kernel⟩,
   ⟨wv8, 0, xw, 7, ⟨5, Q.GOOD, 4, 8, 3, .nobody, false⟩, by unfold State.Up; decide +kernel⟩,
   ⟨wv9, 0, xf, 7, f7.point 7, by unfold State.Up; decide +kernel⟩,
   ⟨wv10, 0, xf9, 7, b5.point 7, by unfold State.Up; decide +kernel⟩,
   ⟨wv11, 0, xl, 7, f7.point 7, by unfold State.Up; decide +kernel⟩⟩
/-- A state and operands for each clause of `SealsAndPoints`. -/
theorem witness_SealsAndPoints_1 :
    ∃ s : State, ∃ k : Nat, ∃ x : Slot, ∃ i : Nat, ∃ p : Point, s.Up ∧ tfind? s.hlk.serving k = none ∧ i = paramField x.param
      0 2 ∧ p = s.point i ∧ s.activeOp k Blk.TEN 7 = some x ∧ x.ctx = 0 ∧ p.forced = false :=
  ⟨wv12, 0, xl, 7, b5.point 7, by unfold State.Up; decide +kernel⟩
end SealsAndPoints

end KeyTen

/-! ### Sup -/

namespace Sup

def sl (o : Nat) (c : Nat) (l : List (Nat × Nat × Nat)) : Slot := mkOp Blk.SUP o c l
def c0 : State := up0

namespace SuppliesAndCores
def wd : State := { up0 with clk := 1000, sup := { up0.sup with core0Up := true, wdt0 := [900, 800] } }
def h (s : State) : State := {s with clk := 10^11, sup := {s.sup with holdClk := some 900}}
def Ss : List State := [up0, up0.setFlag Reg.SUP_SUPPLY_STAT 0 true, h (up0.setFlag Reg.SUP_SUPPLY_STAT 0 true), h ((up0.setFlag Reg.SUP_SUPPLY_STAT 0 true).setNum Reg.SUP_HOLDUP_MIN 5), h ((up0.setNum Reg.SUP_SUPPLY_STAT 0x10F).setNum Reg.SUP_HOLDUP 7), {(wd.setFlag Reg.SUP_SUPPLY_STAT 0 true) with clk := 10, sup := {wd.sup with holdClk := some 0}}, (up0.setFlag Reg.SUP_SUPPLY_STAT 0 true).setNum Reg.SUP_HOLDUP_MIN 5,
  (up0.setNum Reg.SUP_SUPPLY_STAT 0x10F).setNum Reg.SUP_HOLDUP 7, wd, {wd with sup := {wd.sup with wdt1 := [5]}}, up0.setFlag Reg.SUP_START_STAT 24 true,
  up0.setNum Reg.SUP_TEMP_MAX 0xFFFFFFFF]
def wv0 : State := ((expandS (Ss) : List (State))[0]?).get (by decide +kernel)
def wv1 : State := ((expandS (Ss) : List (State))[1]?).get (by decide +kernel)
def wv2 : State := ((expandS (Ss) : List (State))[5]?).get (by decide +kernel)
def wv3 : Nat := (wv2.sup.holdClk).get (by decide +kernel)
def wv4 : State := ((expandS (Ss) : List (State))[3]?).get (by decide +kernel)
def wv5 : Nat := (wv4.sup.holdClk).get (by decide +kernel)
def wv6 : State := ((expandS (Ss) : List (State))[4]?).get (by decide +kernel)
def wv7 : Nat := (wv6.sup.holdClk).get (by decide +kernel)
def wv8 : State := ((expandS (Ss) : List (State))[41]?).get (by decide +kernel)
def wv9 : State := ((expandS (Ss) : List (State))[45]?).get (by decide +kernel)
def wv10 : State := ((expandS (Ss) : List (State))[10]?).get (by decide +kernel)
/-- A state and operands for each clause of `SuppliesAndCores`. -/
theorem witness_SuppliesAndCores_0 :
    (∃ s : State, ∃ mv : Nat, s.Up ∧ mv < 2 ^ 32 ∧ mv < 10800 ∧ s.flag Reg.SUP_SUPPLY_STAT 1 = false) ∧
    (∃ s : State, ∃ mv : Nat, s.Up ∧ mv < 2 ^ 32 ∧ 11000 < mv) ∧
    (∃ s : State, ∃ mv : Nat, s.Up ∧ mv < 2 ^ 32 ∧ 10800 ≤ mv ∧ mv ≤ 11000) ∧
    (∃ s : State, ∃ mv : Nat, s.Up ∧ mv < 2 ^ 32 ∧ 13800 < mv ∧ s.flag Reg.SUP_SUPPLY_STAT 2 = false) ∧
    (∃ s : State, ∃ mv : Nat, s.Up ∧ mv < 2 ^ 32 ∧ mv < 13600) ∧
    (∃ s : State, ∃ mv : Nat, s.Up ∧ mv < 2 ^ 32 ∧ s.flag Reg.SUP_SUPPLY_STAT 0 = true ∧ (∀ c, s.sup.holdClk = some c → c +
      10000 * msClk ≤ s.clk)) ∧
    (∃ s : State, ∃ mv : Nat, ∃ c : Nat, s.Up ∧ mv < 2 ^ 32 ∧ s.flag Reg.SUP_SUPPLY_STAT 0 = true ∧ s.sup.holdClk = some c ∧
      s.clk < c + 10000 * msClk) ∧
    (∃ s : State, ∃ c : Nat, s.Up ∧ s.sup.holdClk = some c ∧ c + 1000 * msClk ≤ s.clk ∧ s.flag Reg.SUP_SUPPLY_STAT 0 = true ∧
      s.num Reg.SUP_HOLDUP < s.num Reg.SUP_HOLDUP_MIN ∧ s.flag Reg.SUP_SUPPLY_STAT 3 = false) ∧
    (∃ s : State, ∃ c : Nat, s.Up ∧ s.sup.holdClk = some c ∧ c + 1000 * msClk ≤ s.clk ∧ s.num Reg.SUP_HOLDUP_MIN < s.num
      Reg.SUP_HOLDUP) ∧
    (∃ s : State, ∃ c : Int, s.Up ∧ -1000 ≤ c ∧ c ≤ 2000 ∧ 1050 < c ∧ s.flag Reg.SUP_SUPPLY_STAT 8 = false) ∧
    (∃ s : State, ∃ c : Int, s.Up ∧ -1000 ≤ c ∧ c ≤ 2000 ∧ c < 1000) ∧
    (∃ s : State, ∃ c : Int, s.Up ∧ -1000 ≤ c ∧ c ≤ 2000 ∧ c ≤ 1250) :=
  ⟨⟨wv0, 0, by unfold State.Up; decide +kernel⟩,
   ⟨wv0, 11001, by unfold State.Up; decide +kernel⟩,
   ⟨wv0, 10800, by unfold State.Up; decide +kernel⟩,
   ⟨wv0, 13801, by unfold State.Up; decide +kernel⟩,
   ⟨wv0, 0, by unfold State.Up; decide +kernel⟩,
   ⟨wv1, 0, by unfold State.Up; decide +kernel⟩,
   ⟨wv2, 0, wv3, by unfold State.Up; decide +kernel, by decide +kernel, by decide +kernel, (Option.some_get _).symm, by
     decide +kernel⟩,
   ⟨wv4, wv5, by unfold State.Up; decide +kernel, (Option.some_get _).symm, by decide +kernel, by decide +kernel, by
     decide +kernel, by decide +kernel⟩,
   ⟨wv6, wv7, by unfold State.Up; decide +kernel, (Option.some_get _).symm, by decide +kernel, by decide +kernel⟩,
   ⟨wv0, 1051, by unfold State.Up; decide +kernel⟩,
   ⟨wv0, -1000, by unfold State.Up; decide +kernel⟩,
   ⟨wv0, -1000, by unfold State.Up; decide +kernel⟩⟩
/-- A state and operands for each clause of `SuppliesAndCores`. -/
theorem witness_SuppliesAndCores_1 :
    (∃ s : State, ∃ c : Int, s.Up ∧ -1000 ≤ c ∧ c ≤ 2000 ∧ 1250 < c ∧ s.lifeBegun = true) ∧
    (∃ s : State, s.Up ∧ s.arb.coreDown = false ∧ s.openTags = [] ∧ s.StoIdle ∧ s.sto.waits = [] ∧ s.sto.reads = []) ∧
    (∃ s : State, ∃ a : Nat, ∃ b : Nat, s.Up ∧ s.sup.core0Up = true ∧ s.sup.wdt0 = [a, b] ∧ s.clk < a + 480000000000 ∧ s.clk <
      b + 480000000000 ∧ s.lifeBegun = true) ∧
    (∃ s : State, s.Up ∧ s.sup.fwFail = false ∧ s.coreWait = [] ∧ s.sup.wdt0 ≠ [] ∧ s.sup.core0Up = false) ∧
    (∃ s : State, s.Up ∧ s.sup.fwFail = false ∧ s.coreWait = [] ∧ s.sup.wdt0 ≠ [] ∧ s.sup.core0Up = false ∧ s.late = []) ∧
    (∃ s : State, s.Up ∧ s.sup.fwFail = false ∧ s.coreWait = [] ∧ s.sup.wdt1 ≠ [] ∧ s.arb.coreDown = true) ∧
    (∃ s : State, s.Up ∧ s.lifeBegun = true) ∧
    (∃ s : State, s.Up ∧ s.lifeBegun = true ∧ s.confirmed = false) ∧
    (∃ s : State, s.Up ∧ s.lifeBegun = true ∧ s.confirmed = true) :=
  ⟨⟨wv0, 1251, by unfold State.Up; decide +kernel⟩,
   ⟨wv0, by unfold State.Up State.StoIdle; decide +kernel⟩,
   ⟨wv2, 900, 800, by unfold State.Up; decide +kernel⟩,
   ⟨wv8, by unfold State.Up; decide +kernel⟩,
   ⟨wv8, by unfold State.Up; decide +kernel⟩,
   ⟨wv9, by unfold State.Up; decide +kernel⟩,
   ⟨wv0, by unfold State.Up; decide +kernel⟩,
   ⟨wv0, by unfold State.Up; decide +kernel⟩,
   ⟨wv10, by unfold State.Up; decide +kernel⟩⟩
end SuppliesAndCores

namespace PowerFailureCommits
def b1 : State := {((up0.setFld Reg.SUP_MODE 4 4 10).setFld Reg.LAT_STATE 0 3 2) with clk := 77, lat := {up0.lat with pos := 2^60}}
/-- A state and operands for each clause of `PowerFailureCommits`. -/
theorem witness_PowerFailureCommits :
    (∃ s : State, s.Up ∧ s.lifeBegun = true) ∧
    (∃ s : State, s.Up ∧ s.lifeBegun = true ∧ 8 ≤ s.fld Reg.SUP_MODE 4 4) ∧
    (∃ s : State, ∃ n : Nat, s.Up ∧ s.lifeBegun = true ∧ s.StoIdle ∧ 5 ≤ n) ∧
    (∃ s : State, s.sup.inReset = true ∧ s.sup.commitDue = false) :=
  ⟨⟨up0, by unfold State.Up; decide +kernel⟩,
   ⟨b1, by unfold State.Up; decide +kernel⟩,
   ⟨up0, 5, by unfold State.Up State.StoIdle; decide +kernel⟩,
   ⟨{b1 with sup := {b1.sup with inReset := true}}, by decide +kernel⟩⟩
end PowerFailureCommits

namespace StartSteps
def fw : Firmware := ⟨1,3⟩
def ld : State := ({ State.reset with sup := { State.reset.sup with inReset := false, initDue := [1] } }.atStep 3).setFlag Reg.KEY_LC 24 true
def ldw : State := {(ld.setFlag Reg.SUP_BOOT_CTL 29 true) with clk := 5, sup := {ld.sup with bootWait := some 5, bootWords := [1]}}
def ldt : State := {ldw with clk := 48000000005 }
def st5 : State := { (ld.atStep 5) with sup := {ld.sup with core0Up := true}}
def Ss : List State := [State.reset, ld, ldw, ldt, {ld with sup := {ld.sup with nv := {ld.sup.nv with count := 3}}}, st5, st5.setFlag Reg.SUP_START_STAT 25 true]
def wv0 : State := ((Ss : List (State))[0]?).get (by decide +kernel)
def wv1 : State := ((Ss : List (State))[1]?).get (by decide +kernel)
def wv2 : State := ((Ss : List (State))[2]?).get (by decide +kernel)
def wv3 : Nat := (wv2.sup.bootWait).get (by decide +kernel)
def wv4 : State := ((Ss : List (State))[3]?).get (by decide +kernel)
def wv5 : Nat := (wv4.sup.bootWait).get (by decide +kernel)
def wv6 : State := ((Ss : List (State))[5]?).get (by decide +kernel)
/-- A state and operands for each clause of `StartSteps`. -/
theorem witness_StartSteps :
    (∃ s : State, ∃ p : Supplies, s.mayRelease p = false) ∧
    (∃ s : State, ∃ p : Supplies, ∃ i : StartIn, s.mayRelease p = true ∧ s.sup.commitDue = false ∧ s.key.pendingRecord = none
      ∧ s.key.pufDead = false ∧ s.sup.nv.bkpBad = false ∧ i.pufOk = true ∧ i.bkpOk = true) ∧
    (∃ s : State, s.loading = true ∧ s.sup.bootWait = none ∧ s.sup.bootSrc = 0 ∧ s.flag Reg.KEY_LC 24 = true ∧ s.brownout =
      false) ∧
    (∃ s : State, ∃ l : List (Option Firmware), s.loading = true ∧ s.sup.bootWait = none ∧ s.sup.bootSrc = 0 ∧ (∀ c, c ∈ l → c
      = none)) ∧
    (∃ s : State, ∃ rq : Requester, s.loading = true ∧ s.flag Reg.SUP_BOOT_CTL 29 = true ∧ s.Passes rq Reg.SUP_BOOT_DATA) ∧
    (∃ s : State, ∃ w : Word, ∃ c : Nat, s.loading = true ∧ s.sup.bootWait = some c ∧ bitOf w.toNat 28 = true ∧ w.toNat % 2 ^
      24 ≤ 4 * s.sup.bootWords.length ∧ s.brownout = false) ∧
    (∃ s : State, ∃ c : Nat, s.loading = true ∧ s.sup.bootWait = some c ∧ s.sup.bootSrc = 0 ∧ s.clk < c + 60000 * msClk) ∧
    (∃ s : State, ∃ c : Nat, s.loading = true ∧ s.sup.bootWait = some c ∧ s.sup.bootSrc = 0 ∧ c + 60000 * msClk ≤ s.clk ∧
      s.calledMinimal = false) ∧
    (∃ s : State, ∃ l : List LunFound, ∃ cur : Option CfgImage, s.Up ∧ s.mode = Mode.STARTING ∧ s.step9 = 5 ∧ (lunsUsed
      l).length ≥ 2 ∧ s.sup.core0Up = true ∧ s.flag Reg.KEY_LC 24 = true ∧ s.imageLost 1 cur = false) ∧
    (∃ s : State, ∃ l : List LunFound, ∃ cur : Option CfgImage, ∃ f : LunFound, s.Up ∧ s.mode = Mode.STARTING ∧ s.step9 = 5 ∧
      (lunsUsed l).length ≥ 2 ∧ s.sup.core0Up = true ∧ s.flag Reg.KEY_LC 24 = true ∧ s.imageLost 1 cur = false ∧ f ∈ l ∧
      f.channel < 2 ∧ f.lun < 8 ∧ (∀ g, g ∈ l → g.channel < 2 ∧ g.lun < 8) ∧ (∀ g, g ∈ l → g.channel = f.channel → g.lun =
      f.lun → g = f)) ∧
    (∃ s : State, s.Up ∧ s.mode = Mode.STARTING ∧ s.step9 = 5 ∧ s.minimalStart = false) :=
  ⟨⟨wv0, ⟨10799,999,true,true⟩, by decide +kernel⟩,
   ⟨wv0, ⟨12000,999,true,true⟩, ⟨1,0,true,true,true,[],[],0⟩, by decide +kernel⟩,
   ⟨wv1, by decide +kernel⟩,
   ⟨wv1, [], by decide +kernel⟩,
   ⟨wv2, .pcie, by unfold State.Passes State.Alone; decide +kernel⟩,
   ⟨wv2, 0x10000004, wv3, by decide +kernel, (Option.some_get _).symm, by decide +kernel, by decide +kernel, by
     decide +kernel⟩,
   ⟨wv2, wv3, by decide +kernel, (Option.some_get _).symm, by decide +kernel, by decide +kernel⟩,
   ⟨wv4, wv5, by decide +kernel, (Option.some_get _).symm, by decide +kernel, by decide +kernel, by decide +kernel⟩,
   ⟨wv6, [⟨0,0,true,1,[]⟩,⟨1,3,true,1,[5]⟩,⟨1,7,false,1,[5]⟩], none, by unfold State.Up; decide +kernel⟩,
   ⟨wv6, [⟨0,0,true,1,[]⟩,⟨1,3,true,1,[5]⟩,⟨1,7,false,1,[5]⟩], none, ⟨0,0,true,1,[]⟩, by unfold State.Up; decide +kernel⟩,
   ⟨wv6, by unfold State.Up; decide +kernel⟩⟩
end StartSteps

namespace ConfirmationAndModes
def cf : State := {(up0.setNum Reg.SCN_CLEAN_CNT 200) with clk := 800000*7, lat := {up0.lat with pos := 200*65536*2^32}, sup := {up0.sup with imgOk := true}}
def ct : State := {up0 with clk := 120000*800000}
def x1 : Slot := sl 1 0 [(0,1,1)]
def x2 : Slot := sl 1 0 [(0,1,2)]
def x0 : Slot := sl 1 0 []
def xr : Slot := sl 2 0 [(0,1,1)]
def xc : Slot := sl 5 0 []
def md (m : Nat) : State := up0.setFld Reg.SUP_MODE 0 2 m
def Ss : List State := [up0,cf,ct,{ct.setFld Reg.LAT_STATE 0 3 2 with lat := {ct.lat with pos := 9*65536*2^32}},cf.setFlag Reg.SUP_START_STAT 24 true, cf.setFld Reg.LAT_STATE 0 3 2, withOp up0 3 x1, withOp (md 1) 3 x0, withOp up0 3 x2,withOp (md 1) 3 x2, withOp up0 3 x0,withOp (md 2) 3 x0,
  withOp up0 3 xr, withOp up0 3 xc, withOp ((md 2).setNum Reg.SUP_START_STAT 3) 3 xc]
def wv0 : State := ((Ss : List (State))[1]?).get (by decide +kernel)
def wv1 : State := ((Ss : List (State))[2]?).get (by decide +kernel)
def wv2 : State := ((Ss : List (State))[4]?).get (by decide +kernel)
def wv3 : State := ((Ss : List (State))[3]?).get (by decide +kernel)
def wv4 : State := ((Ss : List (State))[5]?).get (by decide +kernel)
def wv5 : State := ((Ss : List (State))[6]?).get (by decide +kernel)
def wv6 : State := ((Ss : List (State))[7]?).get (by decide +kernel)
def wv7 : State := ((Ss : List (State))[8]?).get (by decide +kernel)
def wv8 : State := ((Ss : List (State))[10]?).get (by decide +kernel)
def wv9 : State := ((Ss : List (State))[11]?).get (by decide +kernel)
def wv10 : State := ((Ss : List (State))[12]?).get (by decide +kernel)
def wv11 : State := ((Ss : List (State))[14]?).get (by decide +kernel)
def wv12 : State := ((Ss : List (State))[13]?).get (by decide +kernel)
/-- A state and operands for each clause of `ConfirmationAndModes`. -/
theorem witness_ConfirmationAndModes_0 :
    (∃ s : State, ∃ n : Nat, s.Up ∧ n = (s.clk - s.sup.releaseClk) / msClk ∧ s.mayConfirm = true ∧ n ≤ 120000) ∧
    (∃ s : State, s.Up ∧ s.mode = Mode.RUN ∧ s.mayConfirm = false ∧ s.confirmed = false ∧ s.sup.releaseClk + 120000 * msClk ≤
      s.clk ∧ s.Alone) ∧
    (∃ s : State, s.Up ∧ s.confirmed = true ∧ s.Alone) ∧
    (∃ s : State, s.Up ∧ s.latSt ≠ LatSt.RESET ∧ s.sup.progClk + 10000 * msClk ≤ s.clk) ∧
    (∃ s : State, s.Up ∧ s.latSt ≠ LatSt.RESET ∧ s.clk < s.sup.progClk + 10000 * msClk) ∧
    (∃ s : State, ∃ k : Nat, ∃ x : Slot, ∃ m : Nat, s.Up ∧ tfind? s.hlk.serving k = none ∧ s.activeOp k Blk.SUP 1 = some x ∧ m
      = paramField x.param 0 1 ∧ s.Alone ∧ s.startEvent = false ∧ s.mode = Mode.RUN ∧ m = 1) ∧
    (∃ s : State, ∃ k : Nat, ∃ x : Slot, ∃ m : Nat, s.Up ∧ tfind? s.hlk.serving k = none ∧ s.activeOp k Blk.SUP 1 = some x ∧ m
      = paramField x.param 0 1 ∧ s.Alone ∧ s.startEvent = false ∧ s.mode = Mode.STANDBY ∧ m = 0) ∧
    (∃ s : State, ∃ k : Nat, ∃ x : Slot, ∃ m : Nat, s.Up ∧ tfind? s.hlk.serving k = none ∧ s.activeOp k Blk.SUP 1 = some x ∧ m
      = paramField x.param 0 1 ∧ s.Alone ∧ s.startEvent = false ∧ s.mode < 2 ∧ m = 2) ∧
    (∃ s : State, ∃ k : Nat, ∃ x : Slot, ∃ m : Nat, s.Up ∧ tfind? s.hlk.serving k = none ∧ s.activeOp k Blk.SUP 1 = some x ∧ m
      = paramField x.param 0 1 ∧ s.Alone ∧ s.startEvent = false ∧ s.mode < 2 ∧ m = s.mode) ∧
    (∃ s : State, ∃ k : Nat, ∃ x : Slot, ∃ m : Nat, s.Up ∧ tfind? s.hlk.serving k = none ∧ s.activeOp k Blk.SUP 1 = some x ∧ m
      = paramField x.param 0 1 ∧ s.Alone ∧ s.startEvent = false ∧ s.mode = Mode.MINIMAL) ∧
    (∃ s : State, ∃ k : Nat, ∃ x : Slot, s.Up ∧ tfind? s.hlk.serving k = none ∧ s.activeOp k Blk.SUP 2 = some x ∧ s.lifeBegun
      = true) ∧
    (∃ s : State, ∃ k : Nat, ∃ x : Slot, s.Up ∧ tfind? s.hlk.serving k = none ∧ s.activeOp k Blk.SUP 5 = some x ∧ s.mode =
      Mode.MINIMAL) :=
  ⟨⟨wv0, ((wv0.clk - wv0.sup.releaseClk) / msClk), by unfold State.Up; decide +kernel⟩,
   ⟨wv1, by unfold State.Up State.Alone; decide +kernel⟩,
   ⟨wv2, by unfold State.Up State.Alone; decide +kernel⟩,
   ⟨wv3, by unfold State.Up; decide +kernel⟩,
   ⟨wv4, by unfold State.Up; decide +kernel⟩,
   ⟨wv5, 3, x1, 1, by unfold State.Up State.Alone; decide +kernel⟩,
   ⟨wv6, 3, x0, 0, by unfold State.Up State.Alone; decide +kernel⟩,
   ⟨wv7, 3, x2, 2, by unfold State.Up State.Alone; decide +kernel⟩,
   ⟨wv8, 3, x0, 0, by unfold State.Up State.Alone; decide +kernel⟩,
   ⟨wv9, 3, x0, 0, by unfold State.Up State.Alone; decide +kernel⟩,
   ⟨wv10, 3, xr, by unfold State.Up; decide +kernel⟩,
   ⟨wv11, 3, xc, by unfold State.Up; decide +kernel⟩⟩
/-- A state and operands for each clause of `ConfirmationAndModes`. -/
theorem witness_ConfirmationAndModes_1 :
    ∃ s : State, ∃ k : Nat, ∃ x : Slot, s.Up ∧ tfind? s.hlk.serving k = none ∧ s.activeOp k Blk.SUP 5 = some x ∧ s.mode ≠
      Mode.MINIMAL :=
  ⟨wv12, 3, xc, by unfold State.Up; decide +kernel⟩
end ConfirmationAndModes

namespace ClaimsAndTimers
def xa : Slot := sl 0x20 0 [(0,2,0x2017)]
def xb : Slot := sl 0x21 0 [(0,2,0x2017)]
def t1 : Slot := sl 4 0 [(0,1,15),(4,4,9)]
def t2 : Slot := sl 4 0 [(0,1,15),(4,4,10)]
def t0 : Slot := sl 4 0 [(0,1,15)]
def h : State := {up0 with claims := [⟨0x2017, Blk.HIF,0,0⟩]}
def h2 : State := {up0 with claims := [⟨0x2017, Blk.DIO,1,0⟩,⟨0x600F,Blk.HIF,0,0⟩]}
def h3 : State := {(up0.setNum (Reg.SUP_GTn_CFG 15) 1) with claims := [⟨0x600F,Blk.SUP,3,15⟩]}
def Ss : List State := [withOp up0 3 xa, withOp h 3 xa, withOp h2 3 xa,withOp h 3 xb, withOp h2 3 xb,withOp up0 3 t1, withOp up0 3 t2, withOp h2 3 t2, withOp h3 3 t0, withOp h3 3 t2, h3.setNum Reg.SUP_SURVEY_CFG 16]
def wv0 : State := ((Ss : List (State))[0]?).get (by decide +kernel)
def wv1 : State := ((Ss : List (State))[1]?).get (by decide +kernel)
def wv2 : Claim := (wv1.claimOf (0x2017)).get (by decide +kernel)
def wv3 : State := ((Ss : List (State))[3]?).get (by decide +kernel)
def wv4 : Claim := (wv3.claimOf (0x2017)).get (by decide +kernel)
def wv5 : State := ((Ss : List (State))[4]?).get (by decide +kernel)
def wv6 : Claim := (wv5.claimOf (0x2017)).get (by decide +kernel)
def wv7 : State := ((Ss : List (State))[5]?).get (by decide +kernel)
def wv8 : State := ((Ss : List (State))[6]?).get (by decide +kernel)
def wv9 : State := ((Ss : List (State))[7]?).get (by decide +kernel)
def wv10 : Claim := ((h.claims ++ h2.claims : List (Claim))[2]?).get (by decide +kernel)
def wv11 : State := ((Ss : List (State))[8]?).get (by decide +kernel)
def wv12 : State := ((Ss : List (State))[10]?).get (by decide +kernel)
/-- A state and operands for each clause of `ClaimsAndTimers`. -/
theorem witness_ClaimsAndTimers :
    (∃ s : State, ∃ k : Nat, ∃ x : Slot, ∃ r : Nat, s.Up ∧ tfind? s.hlk.serving k = none ∧ r = paramField x.param 0 2 ∧
      s.activeOp k Blk.SUP 0x20 = some x ∧ resourceExists r = true ∧ s.Alone ∧ s.claimOf r = none) ∧
    (∃ s : State, ∃ k : Nat, ∃ x : Slot, ∃ r : Nat, ∃ d : Claim, s.Up ∧ tfind? s.hlk.serving k = none ∧ r = paramField x.param
      0 2 ∧ s.activeOp k Blk.SUP 0x20 = some x ∧ resourceExists r = true ∧ s.Alone ∧ s.claimOf r = some d) ∧
    (∃ s : State, ∃ k : Nat, ∃ x : Slot, ∃ r : Nat, ∃ d : Claim, s.Up ∧ tfind? s.hlk.serving k = none ∧ r = paramField x.param
      0 2 ∧ s.activeOp k Blk.SUP 0x21 = some x ∧ s.claimOf r = some d ∧ d.block = Blk.HIF) ∧
    (∃ s : State, ∃ k : Nat, ∃ x : Slot, ∃ r : Nat, ∃ d : Claim, s.Up ∧ tfind? s.hlk.serving k = none ∧ r = paramField x.param
      0 2 ∧ s.activeOp k Blk.SUP 0x21 = some x ∧ s.claimOf r = some d ∧ d.block ≠ Blk.HIF) ∧
    (∃ s : State, ∃ k : Nat, ∃ x : Slot, ∃ n : Nat, ∃ p : Nat, s.Up ∧ tfind? s.hlk.serving k = none ∧ s.activeOp k Blk.SUP 4 =
      some x ∧ n = paramField x.param 0 1 ∧ p = paramField x.param 4 4 ∧ n ≤ 15 ∧ s.Alone ∧ 1 ≤ p ∧ p ≤ 9) ∧
    (∃ s : State, ∃ k : Nat, ∃ x : Slot, ∃ n : Nat, ∃ p : Nat, s.Up ∧ tfind? s.hlk.serving k = none ∧ s.activeOp k Blk.SUP 4 =
      some x ∧ n = paramField x.param 0 1 ∧ p = paramField x.param 4 4 ∧ n ≤ 15 ∧ s.Alone ∧ 10 ≤ p ∧ s.flag (Reg.SUP_GTn_CFG
      n) 0 = false ∧ s.claimOf (0x6000 + n) = none) ∧
    (∃ s : State, ∃ k : Nat, ∃ x : Slot, ∃ n : Nat, ∃ p : Nat, ∃ d : Claim, s.Up ∧ tfind? s.hlk.serving k = none ∧ s.activeOp
      k Blk.SUP 4 = some x ∧ n = paramField x.param 0 1 ∧ p = paramField x.param 4 4 ∧ n ≤ 15 ∧ s.Alone ∧ 10 ≤ p ∧ s.flag
      (Reg.SUP_GTn_CFG n) 0 = false ∧ s.claimOf (0x6000 + n) = some d) ∧
    (∃ s : State, ∃ k : Nat, ∃ x : Slot, ∃ n : Nat, ∃ p : Nat, s.Up ∧ tfind? s.hlk.serving k = none ∧ s.activeOp k Blk.SUP 4 =
      some x ∧ n = paramField x.param 0 1 ∧ p = paramField x.param 4 4 ∧ n ≤ 15 ∧ s.Alone ∧ p = 0 ∧ s.flag (Reg.SUP_GTn_CFG n)
      0 = true) ∧
    (∃ s : State, ∃ n : Nat, s.Up ∧ n ≤ 15 ∧ s.flag (Reg.SUP_GTn_CFG n) 0 = true ∧ s.gtSince n + 800 * s.num
      (Reg.SUP_GTn_PERIOD n) ≤ s.clk ∧ s.flag Reg.SUP_SURVEY_CFG 4 = false) ∧
    (∃ s : State, ∃ n : Nat, s.Up ∧ n ≤ 15 ∧ s.flag (Reg.SUP_GTn_CFG n) 0 = true ∧ s.gtSince n + 800 * s.num
      (Reg.SUP_GTn_PERIOD n) ≤ s.clk ∧ s.flag Reg.SUP_SURVEY_CFG 4 = true ∧ s.sup.surveyClk = none ∧ s.flag
      Reg.SUP_SURVEY_STAT 16 = false ∧ s.flag Reg.SUP_SURVEY_STAT 17 = false ∧ s.sup.surveyEndClk ≠ some s.clk ∧ (∀ b, b ≤ 19
      → s.surveyEn b = false)) :=
  ⟨⟨wv0, 3, xa, 0x2017, by unfold State.Up State.Alone; decide +kernel⟩,
   ⟨wv1, 3, xa, 0x2017, wv2, by unfold State.Up; decide +kernel, by decide +kernel, by decide +kernel, by decide +kernel, by
     decide +kernel, by unfold State.Alone; decide +kernel, (Option.some_get _).symm⟩,
   ⟨wv3, 3, xb, 0x2017, wv4, by unfold State.Up; decide +kernel, by decide +kernel, by decide +kernel, by decide +kernel,
     (Option.some_get _).symm, by decide +kernel⟩,
   ⟨wv5, 3, xb, 0x2017, wv6, by unfold State.Up; decide +kernel, by decide +kernel, by decide +kernel, by decide +kernel,
     (Option.some_get _).symm, by decide +kernel⟩,
   ⟨wv7, 3, t1, 15, 9, by unfold State.Up State.Alone; decide +kernel⟩,
   ⟨wv8, 3, t2, 15, 10, by unfold State.Up State.Alone; decide +kernel⟩,
   ⟨wv9, 3, t2, 15, 10, wv10, by unfold State.Up State.Alone; decide +kernel⟩,
   ⟨wv11, 3, t0, 15, 0, by unfold State.Up State.Alone; decide +kernel⟩,
   ⟨wv11, 15, by unfold State.Up; decide +kernel⟩,
   ⟨wv12, 15, by unfold State.Up; decide +kernel⟩⟩
end ClaimsAndTimers

namespace SurveyLatchesTheModule
def xs : Slot := sl 3 0 []
def s1 : State := (up0.setNum Reg.SUP_SURVEY_CFG 0x101).setNum Reg.SUP_SURVEY_STAT 0xFFFF
def en (s : State) (b : Nat) : State := s.setFlag (Reg.CTRL b) 2 true
def s2 : State := ((surveySys ++ surveyOther.map (·.1)).foldl en s1).setFlag (Reg.STAT Blk.HIF) 3 true
def s3 : State := s1.setNum Reg.SUP_SURVEY_STAT 0x10005
def Ss : List State := [up0, s1, s2, s3, en s3 Blk.HIF, (surveySys ++ surveyOther.map (·.1)).foldl en s3, withOp s1 2 xs, withOp s3 2 xs, withOp s2 2 xs, s3.setNum Reg.SUP_SURVEY_CFG 0]
def wv0 : State := ((Ss : List (State))[1]?).get (by decide +kernel)
def wv1 : State := ((Ss : List (State))[6]?).get (by decide +kernel)
def wv2 : State := ((Ss : List (State))[3]?).get (by decide +kernel)
def wv3 : State := ((Ss : List (State))[7]?).get (by decide +kernel)
def wv4 : State := ((Ss : List (State))[0]?).get (by decide +kernel)
/-- A state and operands for each clause of `SurveyLatchesTheModule`. -/
theorem witness_SurveyLatchesTheModule :
    (∃ s : State, ∃ q : Nat, s.Up ∧ q = (s.fld Reg.SUP_SURVEY_STAT 0 16 + 1) % 2 ^ 16 ∧ s.flag Reg.SUP_SURVEY_CFG 0 = true ∧
      s.sup.surveyClk ≠ some s.clk ∧ s.flag Reg.SUP_SURVEY_STAT 16 = false ∧ s.flag Reg.SUP_SURVEY_STAT 17 = false ∧
      s.sup.surveyEndClk ≠ some s.clk ∧ s.Passes .pcie Reg.SUP_SURVEY_NOW) ∧
    (∃ s : State, ∃ q : Nat, ∃ k : Nat, ∃ x : Slot, s.Up ∧ q = (s.fld Reg.SUP_SURVEY_STAT 0 16 + 1) % 2 ^ 16 ∧ s.flag
      Reg.SUP_SURVEY_CFG 0 = true ∧ s.sup.surveyClk ≠ some s.clk ∧ s.flag Reg.SUP_SURVEY_STAT 16 = false ∧ s.flag
      Reg.SUP_SURVEY_STAT 17 = false ∧ s.sup.surveyEndClk ≠ some s.clk ∧ tfind? s.hlk.serving k = none ∧ s.activeOp k Blk.SUP
      3 = some x) ∧
    (∃ s : State, ∃ q : Nat, s.Up ∧ q = (s.fld Reg.SUP_SURVEY_STAT 0 16 + 1) % 2 ^ 16 ∧ s.flag Reg.SUP_SURVEY_CFG 0 = true ∧
      s.sup.surveyClk ≠ some s.clk ∧ s.flag Reg.SUP_SURVEY_STAT 16 = true ∧ s.Passes .pcie Reg.SUP_SURVEY_NOW) ∧
    (∃ s : State, ∃ q : Nat, ∃ k : Nat, ∃ x : Slot, s.Up ∧ q = (s.fld Reg.SUP_SURVEY_STAT 0 16 + 1) % 2 ^ 16 ∧ s.flag
      Reg.SUP_SURVEY_CFG 0 = true ∧ s.sup.surveyClk ≠ some s.clk ∧ s.flag Reg.SUP_SURVEY_STAT 16 = true ∧ tfind? s.hlk.serving
      k = none ∧ s.activeOp k Blk.SUP 3 = some x) ∧
    (∃ s : State, ∃ q : Nat, s.Up ∧ q = (s.fld Reg.SUP_SURVEY_STAT 0 16 + 1) % 2 ^ 16 ∧ s.flag Reg.SUP_SURVEY_CFG 0 = false ∧
      s.Passes .pcie Reg.SUP_SURVEY_NOW) ∧
    (∃ s : State, ∃ q : Nat, s.Up ∧ q = (s.fld Reg.SUP_SURVEY_STAT 0 16 + 1) % 2 ^ 16 ∧ s.Passes .pcie Reg.SUP_SURVEY_ACK) ∧
    (∃ s : State, ∃ q : Nat, s.Up ∧ q = (s.fld Reg.SUP_SURVEY_STAT 0 16 + 1) % 2 ^ 16 ∧ s.flag Reg.SUP_SURVEY_STAT 16 = true) :=
  ⟨⟨wv0, 0, by unfold State.Up State.Passes State.Alone; decide +kernel⟩,
   ⟨wv1, 0, 2, xs, by unfold State.Up; decide +kernel⟩,
   ⟨wv2, 6, by unfold State.Up State.Passes State.Alone; decide +kernel⟩,
   ⟨wv3, 6, 2, xs, by unfold State.Up; decide +kernel⟩,
   ⟨wv4, 1, by unfold State.Up State.Passes State.Alone; decide +kernel⟩,
   ⟨wv4, 1, by unfold State.Up State.Passes State.Alone; decide +kernel⟩,
   ⟨wv2, 6, by unfold State.Up; decide +kernel⟩⟩
end SurveyLatchesTheModule

end Sup

/-! ### Rules -/

namespace Rules

def w0 : State := {up0.setFlag (Reg.CTRL Blk.DIO) 0 true with clk := 10^13, lat := {up0.lat with pos := 2^32*(10^7+77)}}

namespace ErrCodeReadMovesDetail
/-- A state and operands for each clause of `ErrCodeReadMovesDetail`. -/
theorem witness_ErrCodeReadMovesDetail :
    (∃ s : State, ∃ rq : Requester, ∃ b : Nat, s.Up ∧ 1 ≤ b ∧ b ≤ 19 ∧ s.Answers rq (Reg.ERR_CODE b)) ∧
    (∃ s : State, ∃ b : Nat, s.Up ∧ 1 ≤ b ∧ b ≤ 19) :=
  ⟨⟨up0, .pcie, 1, by unfold State.Up State.Answers; decide +kernel⟩,
   ⟨up0, 1, by unfold State.Up; decide +kernel⟩⟩
end ErrCodeReadMovesDetail

namespace InputFilterCounts
def ip : State := (w0.setNum Reg.DIO_PT_BASE 1000).setNum (Reg.DIO_CHcCFG 23) 1 |>.setNum (Reg.DIO_CHcCFG 5) 1 |>.setNum (Reg.DIO_CHcFILT 5) 3
def k (n : Nat) := ip.setChan 5 {ip.chan 5 with filt := n}
/-- A state and operands for each clause of `InputFilterCounts`. -/
theorem witness_InputFilterCounts :
    (∃ s : State, ∃ c : Nat, ∃ l : Nat, s.Up ∧ c < 24 ∧ l = s.fld (Reg.DIO_CHcFILT c) 0 10 ∧ s.en Blk.DIO = true ∧ s.dioMode c
      = 1 ∧ s.flag Reg.DIO_STAT 3 = false) ∧
    (∃ s : State, ∃ c : Nat, ∃ l : Nat, ∃ rq : Requester, s.Up ∧ c < 24 ∧ l = s.fld (Reg.DIO_CHcFILT c) 0 10 ∧ s.Passes rq
      (Reg.DIO_CHcFILT c) ∧ s.en Blk.DIO = false) :=
  ⟨⟨ip, 5, 3, by unfold State.Up; decide +kernel⟩,
   ⟨up0, 0, 0, .pcie, by unfold State.Up State.Passes State.Alone; decide +kernel⟩⟩
end InputFilterCounts

namespace CalendarRollsOver
def r (c : Cal) : State := {w0.setNum Reg.RTC_CTL 0 with rtc := {w0.rtc with pend := none, cal := c}}
def Cs : List Cal := [Cal.last, ⟨59,59,23,28,2,2000⟩,⟨59,59,23,29,2,2000⟩,⟨59,59,23,28,2,2100⟩,⟨59,59,23,28,2,2400⟩,⟨59,59,23,31,12,2023⟩,⟨0,0,0,1,1,2000⟩,⟨58,1,2,30,4,2999⟩,⟨59,59,23,30,12,2999⟩,⟨59,58,3,30,6,2024⟩,⟨59,59,23,31,12,2099⟩]
def wv0 : State := ((Cs.map r ++ [{r Cal.first with sup := State.reset.sup}] : List (State))[1]?).get (by decide +kernel)
def wv1 : State := ((Cs.map r ++ [{r Cal.first with sup := State.reset.sup}] : List (State))[0]?).get (by decide +kernel)
/-- A state and operands for each clause of `CalendarRollsOver`. -/
theorem witness_CalendarRollsOver :
    (∃ s : State, s.rtcHalt = false ∧ s.rtc.cal.possible = true ∧ s.rtc.cal ≠ Cal.last) ∧
    (∃ s : State, s.rtcHalt = false ∧ s.rtc.cal = ⟨59, 59, 23, 31, 12, 2999⟩) :=
  ⟨⟨wv0, by decide +kernel⟩,
   ⟨wv1, by decide +kernel⟩⟩
end CalendarRollsOver

end Rules

end Sys2Proof.Tests
end

/-! PROOFS. A read of ERR_CODE (R43). What a read does is said of any offset at 20h of a block's window: on the number
`b * 0x40000 + 0x20` itself the kernel would unfold the product. -/

namespace Sys2Proof.Machine

/-! ### The offsets of ERR_CODE and ERR_INFO -/

theorem errCode_mod (b : Nat) : Reg.ERR_CODE b % 0x40000 = 0x20 := by simp only [Reg.ERR_CODE]; omega

theorem errCode_div (b : Nat) : Reg.ERR_CODE b / 0x40000 = b := by simp only [Reg.ERR_CODE]; omega

theorem errInfo_mod (b : Nat) : Reg.ERR_INFO b % 0x40000 = 0x24 := by simp only [Reg.ERR_INFO]; omega

/-- Offsets that differ within their block's window differ. -/
theorem ne_of_window_ne {off off' : Nat} (h : off % 0x40000 ≠ off' % 0x40000) : off ≠ off' := fun e => h (e ▸ rfl)

theorem errCode_ne_errInfo (b : Nat) : Reg.ERR_CODE b ≠ Reg.ERR_INFO b :=
  ne_of_window_ne (by rw [errCode_mod, errInfo_mod]; decide)

/-- Page 0 of every block holds an ERR_CODE (R36). -/
theorem regRow?_errCode (b : Nat) (h1 : 1 ≤ b) (h19 : b ≤ 19) : ∃ r, regRow? (Reg.ERR_CODE b) = some r := by
  have table : ∀ k : Fin 20, 1 ≤ k.val → (regRow? (Reg.ERR_CODE k.val)).isSome = true := by decide
  exact Option.isSome_iff_exists.1 (table ⟨b, by omega⟩ h1)

/-- No calendar register stands at 20h of a window (R534). -/
theorem calField_of_errCode (c : Cal) (n off : Nat) (h : off % 0x40000 = 0x20) : calField c n off = none := by
  have hne : ∀ r, r % 0x40000 ≠ 0x20 → off ≠ r := fun r hr => ne_of_window_ne (h.trans_ne hr.symm)
  unfold calField
  rw [if_neg (hne _ (by decide)), if_neg (hne _ (by decide)), if_neg (hne _ (by decide)), if_neg (hne _ (by decide)),
    if_neg (hne _ (by decide)), if_neg (hne _ (by decide)), if_neg (hne _ (by decide))]

/-- ERR_CODE shows what it holds. -/
theorem State.view_of_errCode (s : State) (off : Nat) (h : off % 0x40000 = 0x20) : s.view off = s.reg off := by
  simp [State.view, State.viewNum, h, State.num]

/-! ### What its read does -/

/-- A read of ERR_CODE changes registers and the error detail alone. -/
theorem State.readErr_eq (s : State) (b : Nat) :
    ∃ r, s.readErr b = { s with regs := r, errDetail := tdel s.errDetail b } := by
  have shape : ∀ (i c : Nat) (v w : Word), ∃ r, { (s.setReg i v).setReg c w with
      errDetail := tdel ((s.setReg i v).setReg c w).errDetail b } = { s with regs := r, errDetail := tdel s.errDetail b } :=
    fun _ _ _ _ => ⟨_, rfl⟩
  exact shape (Reg.ERR_INFO b) (Reg.ERR_CODE b) (tget (fun _ => 0) s.errDetail b) 0

/-- The error detail is no register. -/
theorem State.withErrDetail_reg (s : State) (e : Tbl Word) (off : Nat) :
    ({ s with errDetail := e } : State).reg off = s.reg off := rfl

/-- CODE and COUNT read 0, ERR_INFO the detail, every other register as before. -/
theorem State.readErr_reg (s : State) (b off : Nat) :
    (s.readErr b).reg off = if Reg.ERR_CODE b = off then 0 else
      if Reg.ERR_INFO b = off then tget (fun _ => 0) s.errDetail b else s.reg off := by
  unfold State.readErr
  rw [State.withErrDetail_reg, State.setReg_reg, State.setReg_reg]

theorem State.readErr_errDetail_same (s : State) (b : Nat) : tget (fun _ => 0) (s.readErr b).errDetail b = 0 := by
  obtain ⟨r, hr⟩ := s.readErr_eq b
  rw [hr, tget_tdel, if_pos rfl]

/-- The read answers the register and moves the detail, over both paths (R43). -/
theorem State.readWord_of_errCode (s : State) (rq : Requester) (off count : Nat) (h : off % 0x40000 = 0x20)
    (hrow : ∃ r, regRow? off = some r) : s.readWord rq off count = (s.reg off, s.readErr (off / 0x40000)) := by
  obtain ⟨r, hr⟩ := hrow
  have hfence : off ≠ Reg.HIF_FENCE := ne_of_window_ne (by rw [h]; decide)
  have hlink : off ≠ Reg.HIF_LINK_STAT := ne_of_window_ne (by rw [h]; decide)
  simp [State.readWord, State.readMapped, hr, hfence, hlink, calField_of_errCode _ _ _ h, h, State.view_of_errCode s off h]

theorem State.readAnswered_of_errCode (s : State) (rq : Requester) (off : Nat) (h : off % 0x40000 = 0x20)
    (hrow : ∃ r, regRow? off = some r) :
    s.readAnswered rq off = (s.readErr (off / 0x40000)).emit (.readData rq [s.reg off]) := by
  simp [State.readAnswered, State.readWord_of_errCode s rq off _ h hrow, calField_of_errCode _ _ _ h, State.answerRead]

/-- A read that stands behind no write of its requester is answered at once (R88, R91). -/
theorem State.readBehind_of_answers (s : State) (rq : Requester) (off : Nat) (h : s.Answers rq off) :
    s.readBehind rq off = s.readAnswered rq off := by
  obtain ⟨hlate, hopen⟩ := h
  simp [State.readBehind, State.behind, hlate, State.hostRead, hopen]

/-- Queue, clock and OTP are not the read's to change. -/
theorem State.guarded_readErr_emit (s : State) (b : Nat) (o : Output) :
    s.guarded ((s.readErr b).emit o) = (s.readErr b).emit o := by
  obtain ⟨r, hr⟩ := s.readErr_eq b
  rw [hr]
  exact State.guarded_eq _ _ rfl rfl rfl rfl rfl rfl

theorem exec_errCodeRead_answered (s : State) (rq : Requester) (b : Nat) (hup : s.Up) (h1 : 1 ≤ b) (h19 : b ≤ 19)
    (h : s.Answers rq (Reg.ERR_CODE b)) :
    exec (.errCodeRead rq b) s = .next ((s.readErr b).emit (.readData rq [s.reg (Reg.ERR_CODE b)])) := by
  rw [exec_errCodeRead, execErrCodeRead, State.powered_run s _ hup, State.readBehind_of_answers s rq _ h,
    State.readAnswered_of_errCode s rq _ (errCode_mod b) (regRow?_errCode b h1 h19), errCode_div,
    State.guarded_readErr_emit]

/-- The answered read in the words of a frame. -/
theorem State.readErr_emit_onlyChanges (s : State) (b : Nat) (o : Output) :
    OnlyChanges [.regs, .out, .errDetail] s ((s.readErr b).emit o) := by
  obtain ⟨r, hr⟩ := s.readErr_eq b
  rw [hr]
  refine ⟨rfl, rfl, fun p hp => ?_⟩
  cases p
  case regs | out | errDetail => simp at hp
  all_goals rfl

/-! ### A later error -/

/-- An error leaves ERR_INFO to the copy of the last read (R43). -/
theorem State.reportErr_errInfo (s : State) (b code : Nat) (d : Word) :
    (s.reportErr b code d).reg (Reg.ERR_INFO b) = s.reg (Reg.ERR_INFO b) :=
  State.reportErr_reg_other s b code _ d (errCode_ne_errInfo b) (by simp)
    (ne_of_window_ne (by rw [errInfo_mod]; decide)) (ne_of_window_ne (by rw [errInfo_mod]; decide))

/-- A counter field's increment leaves the register's other fields alone. -/
theorem State.satInc_fld_other (s : State) (off lo w n lo' w' : Nat) (h : lo + w ≤ 32)
    (hd : lo + w ≤ lo' ∨ lo' + w' ≤ lo) : (s.satInc off lo w n).fld off lo' w' = s.fld off lo' w' :=
  State.setFld_fld_other s off lo w _ lo' w' h hd

/-- An error is a new CODE, one more in COUNT and a new detail, and then the ERR event (R41, R42). -/
theorem State.reportErr_raises (s : State) (b code : Nat) (d : Word) :
    ∃ e, tget (fun _ => 0) e b = d ∧ s.reportErr b code d = State.raiseIrq
      { (s.setFld (Reg.ERR_CODE b) 0 8 code).satInc (Reg.ERR_CODE b) 8 8 1 with errDetail := e } b 0 :=
  ⟨_, (tget_tset _ _ b b d).trans (if_pos rfl), rfl⟩

/-- CODE is the error's; COUNT beside it and the ERR event do not touch it. -/
theorem State.reportErr_code (s : State) (b code : Nat) (d : Word) :
    (s.reportErr b code d).fld (Reg.ERR_CODE b) 0 8 = code % 256 := by
  obtain ⟨e, -, h⟩ := s.reportErr_raises b code d
  rw [h, State.fld, State.raiseIrq_reg_other _ b 0 _ (by simp) (ne_of_window_ne (by rw [errCode_mod]; decide))
    (ne_of_window_ne (by rw [errCode_mod]; decide)), State.withErrDetail_reg, ← State.fld,
    State.satInc_fld_other _ _ _ _ _ _ _ (by decide) (.inr (by decide))]
  exact State.setFld_fld_same _ _ _ _ _ (by decide)

theorem State.reportErr_errDetail_same (s : State) (b code : Nat) (d : Word) :
    tget (fun _ => 0) (s.reportErr b code d).errDetail b = d := by
  obtain ⟨e, he, h⟩ := s.reportErr_raises b code d
  rw [h, State.raiseIrq_errDetail]
  exact he

/-- Settles O6: an answered read is `readErr` and one output, and an error leaves ERR_INFO to that copy. -/
theorem errCodeReadMovesDetail : Obligations.ErrCodeReadMovesDetail := by
  unfold Obligations.ErrCodeReadMovesDetail
  intro s rq b hup h1 h19
  constructor
  · intro hans
    refine ⟨_, exec_errCodeRead_answered s rq b hup h1 h19 hans, ?_⟩
    generalize Output.readData rq [s.reg (Reg.ERR_CODE b)] = o
    have hreg : ∀ off, ((s.readErr b).emit o).reg off = (s.readErr b).reg off :=
      State.reg_congr _ _ (State.emit_regs _ _)
    refine ⟨?answer, ?info, ?code, s.readErr_errDetail_same b, s.readErr_emit_onlyChanges b o, ?frame⟩
    case answer => exact List.getLast?_concat
    case info => rw [hreg, State.readErr_reg, if_neg (errCode_ne_errInfo b), if_pos rfl]
    case code => rw [hreg, State.readErr_reg, if_pos rfl]
    case frame =>
      intro off hoff
      obtain ⟨hcode, hinfo⟩ : off ≠ Reg.ERR_CODE b ∧ off ≠ Reg.ERR_INFO b := by simpa using hoff
      rw [hreg, State.readErr_reg, if_neg hcode.symm, if_neg hinfo.symm]
  · exact fun code d => ⟨s.reportErr_errInfo b code d, s.reportErr_code b code d, s.reportErr_errDetail_same b code d⟩

end Sys2Proof.Machine

/-! PROOFS. The filter of an input (R505). A tick of DIO is two loops, over the channels and over the pulse inputs; a channel's
filter state is touched by the pass of that channel alone, so the whole tick shows there what this one pass does. -/

namespace Sys2Proof.Machine

/-! ### Loops over the units of a block -/

theorem State.forN_succ (s : State) (n : Nat) (f : State → Nat → State) : s.forN (n + 1) f = f (s.forN n f) n := by
  simp [State.forN, List.range_succ]

/-- What holds at the start and every pass keeps holds after the loop. -/
theorem State.forN_keeps {P : State → Prop} (s : State) (n : Nat) (f : State → Nat → State) (h0 : P s)
    (hf : ∀ a i, P a → P (f a i)) : P (s.forN n f) := by
  induction n with
  | zero => exact h0
  | succ n ih => rw [State.forN_succ]; exact hf _ n ih

theorem State.forN_view_of_keeps {α : Type} (view : State → α) (s : State) (n : Nat) (f : State → Nat → State)
    (hf : ∀ a i, i < n → view (f a i) = view a) : view (s.forN n f) = view s := by
  induction n with
  | zero => rfl
  | succ n ih => rw [State.forN_succ, hf _ n n.lt_succ_self, ih fun a i hi => hf a i (Nat.lt_succ_of_lt hi)]

/-- Where pass `c` alone touches a view, the loop shows there what this pass does to a state that looked as the first. -/
theorem State.forN_view_of_one {α : Type} (view : State → α) (s : State) (n c : Nat) (f : State → Nat → State) (hc : c < n)
    (hf : ∀ a i, i ≠ c → view (f a i) = view a) : ∃ a, view a = view s ∧ view (s.forN n f) = view (f a c) := by
  induction n with
  | zero => omega
  | succ n ih =>
    rw [State.forN_succ]
    by_cases h : n = c
    · subst h
      exact ⟨s.forN n f, State.forN_view_of_keeps view s n f fun a i hi => hf a i (Nat.ne_of_lt hi), rfl⟩
    · obtain ⟨a, ha, hl⟩ := ih (by omega)
      exact ⟨a, ha, (hf _ n h).trans hl⟩

/-! ### Frames -/

theorem OnlyChanges.refl (ps : List Part) (s : State) : OnlyChanges ps s s :=
  ⟨rfl, rfl, fun p _ => by cases p <;> rfl⟩

theorem Part.agree_trans {s t u : State} (p : Part) (h1 : p.agree s t) (h2 : p.agree t u) : p.agree s u := by
  cases p <;> exact Eq.trans h2 h1

theorem OnlyChanges.trans {ps : List Part} {s t u : State} (h1 : OnlyChanges ps s t) (h2 : OnlyChanges ps t u) :
    OnlyChanges ps s u := by
  obtain ⟨hp1, hc1, ha1⟩ := h1
  obtain ⟨hp2, hc2, ha2⟩ := h2
  exact ⟨hp2.trans hp1, hc2.trans hc1, fun p hp => p.agree_trans (ha1 p hp) (ha2 p hp)⟩

/-- Queue, clock and OTP are as they were, so the guard of a command adds nothing. -/
theorem OnlyChanges.guarded_eq {ps : List Part} {s t : State} (h : OnlyChanges ps s t) (hk : Part.key ∉ ps) :
    s.guarded t = t := by
  obtain ⟨hp, hc, ha⟩ := h
  have key : t.key = s.key := ha .key hk
  exact State.guarded_eq s t hp hc (by rw [key]) (by rw [key]) (by rw [key]) (by rw [key])

/-- The parts that DIO's inputs touch. -/
theorem onlyChanges_inputParts {s t : State} (h : ∃ r p n d, t = { s with regs := r, points := p, notes := n, dio := d }) :
    OnlyChanges [.regs, .points, .notes, .out, .dio] s t := by
  obtain ⟨r, p, n, d, rfl⟩ := h
  refine ⟨rfl, rfl, fun q hq => ?_⟩
  cases q
  case regs | points | notes | out | dio => simp at hq
  all_goals rfl

/-! ### One step of a filter -/

@[simp] theorem filterStep_limit_zero (n : Nat) (st raw : Bool) : filterStep 0 n st raw = (0, raw) := rfl

theorem filterStep_of_on (l n : Nat) (st : Bool) (h : 0 < l) : (filterStep l n st true).1 = Nat.min l (n + 1) := by
  simp [filterStep, Nat.ne_of_gt h]

theorem filterStep_of_off (l n : Nat) (st : Bool) (h : 0 < l) : (filterStep l n st false).1 = Nat.min l (n - 1) := by
  simp [filterStep, Nat.ne_of_gt h]

/-- The state follows the counter at LIMIT and at 0, and between them stays (R505). -/
theorem filterStep_state (l n : Nat) (st raw : Bool) (h : 0 < l) : (filterStep l n st raw).2 =
    if (filterStep l n st raw).1 = l then true else if (filterStep l n st raw).1 = 0 then false else st := by
  simp only [filterStep, Nat.ne_of_gt h, if_false]

/-! ### One tick of an input channel -/

theorem State.flag_congr (s t : State) (off i : Nat) (h : t.reg off = s.reg off) : t.flag off i = s.flag off i := by
  simp only [State.flag, State.fld, h]

theorem State.setChan_chan (s : State) (c d : Nat) (x : DioCh) :
    (s.setChan c x).chan d = if c = d then x else s.chan d := tget_tset _ s.dio.chans c d x

/-- Publishing a channel writes points and the notes of them alone (R515). -/
theorem State.pubDio_eq (s : State) (c : Nat) : ∃ p n, s.pubDio c = { s with points := p, notes := n } := by
  obtain ⟨p1, n1, h1⟩ := s.pubPoint_eq Reg.DIO_PT_BASE (4 * c)
    (if (if s.dioMode c = 2 then s.flag (Reg.DIO_CHcSTAT c) 1 else s.flag (Reg.DIO_CHcSTAT c) 0) then 1 else 0) (s.dioQuality c)
  obtain ⟨p2, n2, h2⟩ := State.pubPoint_eq { s with points := p1, notes := n1 } Reg.DIO_PT_BASE (4 * c + 2)
    ((s.reg (Reg.DIO_CHcCNT c)).setWidth 64) (s.dioQuality c)
  obtain ⟨p3, n3, h3⟩ := State.pubPoint_eq { s with points := p2, notes := n2 } Reg.DIO_PT_BASE (4 * c + 3)
    (BitVec.ofNat 64 (s.fld (Reg.DIO_CHcSTAT c) 0 16)) (s.dioQuality c)
  exact ⟨p3, n3, by simp only [State.pubDio, h1, h2, h3]⟩

theorem State.pubDio_reg (s : State) (c off : Nat) : (s.pubDio c).reg off = s.reg off := by
  obtain ⟨p, n, h⟩ := s.pubDio_eq c
  exact State.reg_congr _ _ (by rw [h]) off

/-- A change of an input's filtered state in the registers: the state, and a rising edge in the count and the edge's
chainage (R505, R506). -/
def State.recordInput (s : State) (c : Nat) (st : Bool) : State :=
  let s2 := (s.setFlag (Reg.DIO_CHcSTAT c) 0 st).setFlag Reg.DIO_IN c st
  if st then (s2.wrapInc (Reg.DIO_CHcCNT c) 1).setReg (Reg.DIO_CHcEDGE c) s.chain32 else s2

theorem State.recordInput_eq (s : State) (c : Nat) (st : Bool) : ∃ r, s.recordInput c st = { s with regs := r } := by
  have two : ∀ (i j : Nat) (v w : Word), ∃ r, (s.setReg i v).setReg j w = { s with regs := r } := fun _ _ _ _ => ⟨_, rfl⟩
  have four : ∀ (i j k l : Nat) (v w x y : Word),
      ∃ r, (((s.setReg i v).setReg j w).setReg k x).setReg l y = { s with regs := r } := fun _ _ _ _ _ _ _ _ => ⟨_, rfl⟩
  cases st with
  | false => exact two _ _ _ _
  | true => exact four _ _ _ _ _ _ _ _

/-- The registers that a change of an input's filtered state writes. -/
def inputRecordRegs (c : Nat) : List Nat := [Reg.DIO_CHcSTAT c, Reg.DIO_IN, Reg.DIO_CHcCNT c, Reg.DIO_CHcEDGE c]

theorem State.recordInput_reg_other (s : State) (c off : Nat) (st : Bool) (h : off ∉ inputRecordRegs c) :
    (s.recordInput c st).reg off = s.reg off := by
  simp only [inputRecordRegs, List.mem_cons, List.not_mem_nil, or_false, not_or] at h
  obtain ⟨hstat, hin, hcnt, hedge⟩ := h
  have level : ((s.setFlag (Reg.DIO_CHcSTAT c) 0 st).setFlag Reg.DIO_IN c st).reg off = s.reg off := by
    rw [State.setFlag_reg_other _ _ _ _ _ (Ne.symm hin), State.setFlag_reg_other _ _ _ _ _ (Ne.symm hstat)]
  cases st with
  | false => exact level
  | true => exact ((State.setReg_reg_other _ _ _ _ (Ne.symm hedge)).trans (State.setNum_reg_other _ _ _ _ (Ne.symm hcnt))).trans level

theorem State.recordInput_flag (s : State) (c : Nat) (st : Bool) :
    (s.recordInput c st).flag (Reg.DIO_CHcSTAT c) 0 = st := by
  have hin : Reg.DIO_IN ≠ Reg.DIO_CHcSTAT c := by simp only [Reg.DIO_IN, Reg.DIO_CHcSTAT]; omega
  have hcnt : Reg.DIO_CHcCNT c ≠ Reg.DIO_CHcSTAT c := by simp only [Reg.DIO_CHcCNT, Reg.DIO_CHcSTAT]; omega
  have hedge : Reg.DIO_CHcEDGE c ≠ Reg.DIO_CHcSTAT c := by simp only [Reg.DIO_CHcEDGE, Reg.DIO_CHcSTAT]; omega
  have level : ((s.setFlag (Reg.DIO_CHcSTAT c) 0 st).setFlag Reg.DIO_IN c st).flag (Reg.DIO_CHcSTAT c) 0 = st :=
    (State.setFlag_flag_reg _ _ _ _ _ _ hin).trans (s.setFlag_flag_same _ _ _ (by decide))
  cases st with
  | false => exact level
  | true =>
    exact (State.flag_congr _ _ _ _
      ((State.setReg_reg_other _ _ _ _ hedge).trans (State.setNum_reg_other _ _ _ _ hcnt))).trans level

/-- What the filter of input `c` makes of the raw input, 0 while the supply is reversed (R505, R512). -/
def State.inputStep (s : State) (c : Nat) (raw : Bool) : Nat × Bool :=
  filterStep (s.fld (Reg.DIO_CHcFILT c) 0 10) (s.chan c).filt (s.flag (Reg.DIO_CHcSTAT c) 0) (raw && !s.flag Reg.DIO_STAT 3)

/-- A tick steps the counter, and a new filtered state is shown. -/
theorem State.inputTick_eq (s : State) (c : Nat) (raw : Bool) : s.inputTick c raw =
    if ((s.inputStep c raw).2 && !s.flag Reg.DIO_STAT 3) = s.flag (Reg.DIO_CHcSTAT c) 0 then
      s.setChan c { s.chan c with filt := (s.inputStep c raw).1, raw := raw }
    else ((s.setChan c { s.chan c with filt := (s.inputStep c raw).1, raw := raw }).recordInput c
      ((s.inputStep c raw).2 && !s.flag Reg.DIO_STAT 3)).pubDio c := rfl

theorem State.inputTick_parts (s : State) (c : Nat) (raw : Bool) : ∃ r p n,
    s.inputTick c raw = { s.setChan c { s.chan c with filt := (s.inputStep c raw).1, raw := raw } with
      regs := r, points := p, notes := n } := by
  rw [State.inputTick_eq]
  generalize s.setChan c _ = s1
  split
  · exact ⟨s1.regs, s1.points, s1.notes, rfl⟩
  · obtain ⟨r, hr⟩ := s1.recordInput_eq c ((s.inputStep c raw).2 && !s.flag Reg.DIO_STAT 3)
    obtain ⟨p, n, hp⟩ := State.pubDio_eq { s1 with regs := r } c
    exact ⟨r, p, n, by rw [hr, hp]⟩

theorem State.inputTick_reg_other (s : State) (c off : Nat) (raw : Bool) (h : off ∉ inputRecordRegs c) :
    (s.inputTick c raw).reg off = s.reg off := by
  rw [State.inputTick_eq]
  split
  · exact State.reg_congr _ _ rfl _
  · rw [State.pubDio_reg]; exact State.recordInput_reg_other _ c off _ h

theorem State.inputTick_chan (s : State) (c d : Nat) (raw : Bool) : (s.inputTick c raw).chan d =
    if c = d then { s.chan c with filt := (s.inputStep c raw).1, raw := raw } else s.chan d := by
  obtain ⟨r, p, n, h⟩ := s.inputTick_parts c raw
  rw [h]
  exact s.setChan_chan c d _

/-- With the supply not reversed the channel shows the filtered state. -/
theorem State.inputTick_flag (s : State) (c : Nat) (raw : Bool) (hrev : s.flag Reg.DIO_STAT 3 = false) :
    (s.inputTick c raw).flag (Reg.DIO_CHcSTAT c) 0 = (s.inputStep c raw).2 := by
  simp only [State.inputTick_eq, hrev, Bool.not_false, Bool.and_true]
  split
  · next h => exact h.symm
  · exact (State.flag_congr _ _ _ _ (State.pubDio_reg _ _ _)).trans (State.recordInput_flag _ _ _)

/-! ### One tick of a pulse input -/

theorem State.pulseTick_parts (s : State) (i : Nat) (raw : Bool) :
    ∃ r d, s.pulseTick i raw = { s with regs := r, dio := d } ∧ d.chans = s.dio.chans := by
  unfold State.pulseTick
  simp only
  split
  · exact ⟨_, _, rfl, rfl⟩
  · split
    · exact ⟨_, _, rfl, rfl⟩
    · exact ⟨_, _, rfl, rfl⟩

theorem State.pulseTick_chan (s : State) (i c : Nat) (raw : Bool) : (s.pulseTick i raw).chan c = s.chan c := by
  obtain ⟨r, d, h, hd⟩ := s.pulseTick_parts i raw
  rw [h]
  simp only [State.chan, hd]

theorem State.pulseTick_reg_other (s : State) (i off : Nat) (raw : Bool) (h : Reg.DIO_PIiSTAT i ≠ off) :
    (s.pulseTick i raw).reg off = s.reg off := by
  unfold State.pulseTick
  simp only
  have shown : ∀ (a : State) (b : Bool), (a.setFlag (Reg.DIO_PIiSTAT i) 0 b).reg off = a.reg off :=
    fun a b => a.setFlag_reg_other _ _ _ _ h
  split
  · exact shown _ _
  · split
    · rw [State.setFlag_reg_other _ _ _ _ _ h]; exact shown _ _
    · exact shown _ _

/-! ### A tick of DIO -/

/-- The registers that the filter of input `c` reads. -/
def inputFilterRegs (c : Nat) : List Nat := [Reg.DIO_CHcCFG c, Reg.DIO_CHcSTAT c, Reg.DIO_CHcFILT c, Reg.DIO_STAT]

/-- What the filter of input `c` works on. -/
def State.inputView (s : State) (c : Nat) : DioCh × List Word := (s.chan c, (inputFilterRegs c).map s.reg)

theorem State.inputView_congr {s t : State} {c : Nat} (hch : t.chan c = s.chan c)
    (hreg : ∀ off ∈ inputFilterRegs c, t.reg off = s.reg off) : t.inputView c = s.inputView c :=
  Prod.ext hch (List.map_congr_left hreg)

theorem State.reg_of_inputView {s t : State} {c off : Nat} (h : t.inputView c = s.inputView c)
    (hoff : off ∈ inputFilterRegs c) : t.reg off = s.reg off :=
  List.map_inj_left.1 (congrArg Prod.snd h) off hoff

theorem State.chan_of_inputView {s t : State} {c : Nat} (h : t.inputView c = s.inputView c) : t.chan c = s.chan c :=
  congrArg Prod.fst h

theorem State.inputStep_of_inputView {s t : State} {c : Nat} (h : t.inputView c = s.inputView c) (raw : Bool) :
    t.inputStep c raw = s.inputStep c raw := by
  simp only [State.inputStep, State.flag, State.fld, State.chan_of_inputView h,
    State.reg_of_inputView h (off := Reg.DIO_CHcFILT c) (by simp [inputFilterRegs]),
    State.reg_of_inputView h (off := Reg.DIO_CHcSTAT c) (by simp [inputFilterRegs]),
    State.reg_of_inputView h (off := Reg.DIO_STAT) (by simp [inputFilterRegs])]

/-- Channels do not share the registers of their filters. -/
theorem inputFilterRegs_not_recorded {c d off : Nat} (hne : d ≠ c) (h : off ∈ inputFilterRegs c) :
    off ∉ inputRecordRegs d := by
  simp only [inputFilterRegs, inputRecordRegs, Reg.DIO_CHcCFG, Reg.DIO_CHcSTAT, Reg.DIO_CHcFILT, Reg.DIO_STAT, Reg.DIO_IN,
    Reg.DIO_CHcCNT, Reg.DIO_CHcEDGE, List.mem_cons, List.not_mem_nil, or_false] at h ⊢
  omega

theorem inputFilterRegs_not_pulse {c i off : Nat} (hc : c < 24) (h : off ∈ inputFilterRegs c) : Reg.DIO_PIiSTAT i ≠ off := by
  simp only [inputFilterRegs, Reg.DIO_CHcCFG, Reg.DIO_CHcSTAT, Reg.DIO_CHcFILT, Reg.DIO_STAT, List.mem_cons, List.not_mem_nil,
    or_false] at h
  simp only [Reg.DIO_PIiSTAT]
  omega

/-- The pass of DIO's tick over one channel: inputs alone have a filter (R502, R505). -/
def inputPass (raw : BitVec 24) (a : State) (c : Nat) : State := if a.dioMode c = 1 then a.inputTick c (raw.getLsbD c) else a

/-- The tick of DIO without the gates of its command. -/
def State.filterTick (s : State) (raw : BitVec 24) (pul : BitVec 16) : State :=
  (s.forN 24 (inputPass raw)).forN 16 fun a i => a.pulseTick i (pul.getLsbD i)

theorem inputPass_of_input {a : State} {c : Nat} (raw : BitVec 24) (h : a.dioMode c = 1) :
    inputPass raw a c = a.inputTick c (raw.getLsbD c) := if_pos h

theorem inputPass_inputView_other (raw : BitVec 24) (a : State) {c d : Nat} (hne : d ≠ c) :
    (inputPass raw a d).inputView c = a.inputView c := by
  unfold inputPass
  split
  · exact State.inputView_congr ((a.inputTick_chan d c _).trans (if_neg hne))
      fun off hoff => a.inputTick_reg_other d off _ (inputFilterRegs_not_recorded hne hoff)
  · rfl

/-- At input `c` the whole tick shows one tick of this input, taken in a state that agrees with the first there. -/
theorem State.filterTick_inputView (s : State) (raw : BitVec 24) (pul : BitVec 16) {c : Nat} (hc : c < 24)
    (hmode : s.dioMode c = 1) : ∃ a : State, a.inputView c = s.inputView c ∧
      (s.filterTick raw pul).inputView c = (a.inputTick c (raw.getLsbD c)).inputView c := by
  obtain ⟨a, ha, hloop⟩ := s.forN_view_of_one (·.inputView c) 24 c (inputPass raw) hc
    fun a d hne => inputPass_inputView_other raw a hne
  refine ⟨a, ha, ?_⟩
  have hinput : a.dioMode c = 1 := by
    rw [← hmode]
    simp only [State.dioMode, State.fld, State.reg_of_inputView ha (off := Reg.DIO_CHcCFG c) (by simp [inputFilterRegs])]
  calc (s.filterTick raw pul).inputView c
      = (s.forN 24 (inputPass raw)).inputView c := State.forN_view_of_keeps (·.inputView c) _ 16 _ fun a i _ =>
          State.inputView_congr (a.pulseTick_chan i c _)
            fun off hoff => a.pulseTick_reg_other i off _ (inputFilterRegs_not_pulse hc hoff)
    _ = (inputPass raw a c).inputView c := hloop
    _ = (a.inputTick c (raw.getLsbD c)).inputView c := by rw [inputPass_of_input raw hinput]

/-- The counter and the filtered state of an input after a tick. -/
theorem State.filterTick_input (s : State) (raw : BitVec 24) (pul : BitVec 16) {c : Nat} (hc : c < 24)
    (hmode : s.dioMode c = 1) (hrev : s.flag Reg.DIO_STAT 3 = false) :
    ((s.filterTick raw pul).chan c).filt = (s.inputStep c (raw.getLsbD c)).1
      ∧ (s.filterTick raw pul).flag (Reg.DIO_CHcSTAT c) 0 = (s.inputStep c (raw.getLsbD c)).2 := by
  obtain ⟨a, ha, ht⟩ := s.filterTick_inputView raw pul hc hmode
  have hrev' : a.flag Reg.DIO_STAT 3 = false :=
    (State.flag_congr s a _ 3 (State.reg_of_inputView ha (by simp [inputFilterRegs]))).trans hrev
  rw [← State.inputStep_of_inputView ha]
  constructor
  · rw [State.chan_of_inputView ht, State.inputTick_chan, if_pos rfl]
  · rw [State.flag_congr _ _ _ 0 (State.reg_of_inputView ht (by simp [inputFilterRegs]))]
    exact a.inputTick_flag c _ hrev'

theorem State.inputTick_onlyChanges (s : State) (c : Nat) (raw : Bool) :
    OnlyChanges [.regs, .points, .notes, .out, .dio] s (s.inputTick c raw) := by
  obtain ⟨r, p, n, h⟩ := s.inputTick_parts c raw
  exact onlyChanges_inputParts ⟨r, p, n, _, h⟩

theorem State.pulseTick_onlyChanges (s : State) (i : Nat) (raw : Bool) :
    OnlyChanges [.regs, .points, .notes, .out, .dio] s (s.pulseTick i raw) := by
  obtain ⟨r, d, h, -⟩ := s.pulseTick_parts i raw
  exact onlyChanges_inputParts ⟨r, s.points, s.notes, d, h⟩

theorem State.filterTick_onlyChanges (s : State) (raw : BitVec 24) (pul : BitVec 16) :
    OnlyChanges [.regs, .points, .notes, .out, .dio] s (s.filterTick raw pul) := by
  have channels : OnlyChanges [.regs, .points, .notes, .out, .dio] s (s.forN 24 (inputPass raw)) := by
    refine State.forN_keeps s 24 _ (OnlyChanges.refl _ s) fun a d ha => ?_
    unfold inputPass
    split
    · exact ha.trans (a.inputTick_onlyChanges d _)
    · exact ha
  exact State.forN_keeps _ 16 _ channels fun a i ha => ha.trans (a.pulseTick_onlyChanges i _)

theorem exec_dioFilterTick_of_en (s : State) (raw : BitVec 24) (pul : BitVec 16) (hup : s.Up) (hen : s.en Blk.DIO = true) :
    exec (.dioFilterTick raw pul) s = .next (s.filterTick raw pul) := by
  rw [exec_dioFilterTick, execDioFilterTick, State.powered_run s _ hup, if_neg (by simp [hen])]
  exact congrArg _ ((s.filterTick_onlyChanges raw pul).guarded_eq (by simp))

/-! ### A write of one word that reaches its block -/

theorem exec_regWrite_one (s : State) (rq : Requester) (off : Nat) (v : Word) (hup : s.Up) :
    exec (.regWrite rq off [(0xF, v)]) s = .next (s.guarded (s.takeWrite rq off v)) := by
  rw [exec_regWrite, execRegWrite, State.powered_run s _ hup]
  rfl

/-- No rank holds it back, no fence, no LOCK and no soft reset (R52, R53, R90, R95). -/
theorem State.takeWrite_of_passes (s : State) (rq : Requester) (off : Nat) (v : Word) (r : RegRow) (h : s.Passes rq off)
    (hrow : regRow? off = some r) (hfence : off ≠ Reg.HIF_FENCE) : s.takeWrite rq off v = s.writeReg rq r off v := by
  obtain ⟨⟨hpending, hlate⟩, hfenced, hsrst, hlock⟩ := h
  have hrank : s.writeRank rq off v = none := by simp [State.writeRank, State.lateWrites, State.together, hpending, hlate]
  have hopen : ¬(rq = .spi ∧ s.flag Reg.HIF_SPI_CTRL 0 ∧ !spiOpen off) := by
    rintro ⟨rfl, hl, ho⟩
    simp [hl] at hlock
    simp [hlock] at ho
  simp only [State.takeWrite, hrank, State.takeNow, hfenced, Bool.false_eq_true, if_false, hfence, false_and, State.hostWrite,
    hrow, hopen, hsrst]

/-! ### A write of LIMIT -/

/-- Low bits that the mask makes writable read as written. -/
theorem State.mergeReg_fld_of_mask (s : State) (off mask w : Nat) (v : Word)
    (hm : (BitVec.ofNat 32 mask).setWidth w = BitVec.allOnes w) (hw : w ≤ 32) :
    (s.mergeReg off mask v).fld off 0 w = v.toNat % 2 ^ w := by
  have low : ((s.mergeReg off mask v).reg off).setWidth w = v.setWidth w := by
    rw [State.mergeReg, State.setReg_reg_same, BitVec.setWidth_or, BitVec.setWidth_and, BitVec.setWidth_and,
      BitVec.setWidth_not hw, hm]
    simp
  simpa [State.fld, bitsOf] using congrArg BitVec.toNat low

/-- The register row of DIO_CHcFILT. -/
def filtRow : RegRow := ⟨0x1008, [(32, 24)], .rwl, 0x0, true, 0x3FF, 0x3FF⟩

/-- Where DIO_CHcFILT stands in the maps that a write goes through. -/
theorem dioFilt_maps (c : Nat) (hc : c < 24) : regRow? (Reg.DIO_CHcFILT c) = some filtRow
    ∧ pairFits loWritten (Reg.DIO_CHcFILT c) = false ∧ pairFits loWritten (Reg.DIO_CHcFILT c - 4) = false
    ∧ regIdx Reg.DIO_CHcCFG 24 (Reg.DIO_CHcFILT c) = none := by
  have table : ∀ k : Fin 24, regRow? (Reg.DIO_CHcFILT k) = some filtRow
      ∧ pairFits loWritten (Reg.DIO_CHcFILT k) = false ∧ pairFits loWritten (Reg.DIO_CHcFILT k - 4) = false
      ∧ regIdx Reg.DIO_CHcCFG 24 (Reg.DIO_CHcFILT k) = none := by decide
  exact table ⟨c, hc⟩

theorem dioFilt_div (c : Nat) (hc : c < 24) : Reg.DIO_CHcFILT c / 0x40000 = Blk.DIO := by
  simp only [Reg.DIO_CHcFILT, Blk.DIO]; omega

theorem dioFilt_mod (c : Nat) (hc : c < 24) : Reg.DIO_CHcFILT c % 0x40000 = 0x1008 + 32 * c := by
  simp only [Reg.DIO_CHcFILT]; omega

/-- While DIO is disabled a write of DIO_CHcFILT sets LIMIT (R34). -/
theorem State.writeReg_dioFilt (s : State) (rq : Requester) (c : Nat) (v : Word) (hc : c < 24) (hen : s.en Blk.DIO = false) :
    s.writeReg rq filtRow (Reg.DIO_CHcFILT c) v = s.mergeReg (Reg.DIO_CHcFILT c) 0x3FF v := by
  obtain ⟨-, hlo, hhi, hcfg⟩ := dioFilt_maps c hc
  have hpage : ¬ Reg.DIO_CHcFILT c % 0x40000 < 0x100 := by rw [dioFilt_mod c hc]; omega
  have hkick : Reg.DIO_CHcFILT c ≠ Reg.DIO_WDT_KICK := by simp only [Reg.DIO_CHcFILT, Reg.DIO_WDT_KICK]; omega
  have hblock : Reg.DIO_CHcFILT c / 0x40000 = 0x11 := dioFilt_div c hc
  have hen' : s.en 0x11 = false := hen
  generalize Reg.DIO_CHcFILT c = off at *
  simp only [State.writeReg, hpage, if_false, hblock, hkick, hcfg, State.writeByType, filtRow, hen', Bool.false_eq_true,
    State.mergePair, hlo, hhi, and_false]

theorem State.mergeReg_onlyChanges (s : State) (off mask : Nat) (v : Word) : OnlyChanges [.regs] s (s.mergeReg off mask v) := by
  refine ⟨rfl, rfl, fun p hp => ?_⟩
  cases p
  case regs => simp at hp
  all_goals rfl

theorem State.mergeReg_onlyRegs (s : State) (off mask : Nat) (v : Word) : OnlyRegs [off] s (s.mergeReg off mask v) :=
  fun _ h => s.setReg_reg_other off _ _ (Ne.symm (List.ne_of_not_mem_cons h))

theorem exec_regWrite_dioFilt (s : State) (rq : Requester) (c : Nat) (v : Word) (hup : s.Up) (hc : c < 24)
    (hpass : s.Passes rq (Reg.DIO_CHcFILT c)) (hen : s.en Blk.DIO = false) :
    exec (.regWrite rq (Reg.DIO_CHcFILT c) [(0xF, v)]) s = .next (s.mergeReg (Reg.DIO_CHcFILT c) 0x3FF v) := by
  obtain ⟨hrow, -⟩ := dioFilt_maps c hc
  have hfence : Reg.DIO_CHcFILT c ≠ Reg.HIF_FENCE := by simp only [Reg.DIO_CHcFILT, Reg.HIF_FENCE]; omega
  rw [exec_regWrite_one s rq _ v hup, s.takeWrite_of_passes rq _ v filtRow hpass hrow hfence, s.writeReg_dioFilt rq c v hc hen,
    (s.mergeReg_onlyChanges _ _ v).guarded_eq (by simp)]

/-- Settles O44: at input `c` a tick is one step of its filter, and a write of LIMIT is a write of one register. -/
theorem inputFilterCounts : Obligations.InputFilterCounts := by
  unfold Obligations.InputFilterCounts
  intro s c l hup hc hl
  constructor
  · intro raw pul hen hmode hrev
    obtain ⟨hfilt, hstate⟩ := s.filterTick_input raw pul hc hmode hrev
    have hstep : s.inputStep c (raw.getLsbD c)
        = filterStep l (s.chan c).filt (s.flag (Reg.DIO_CHcSTAT c) 0) (raw.getLsbD c) := by
      rw [State.inputStep, hrev, hl, Bool.not_false, Bool.and_true]
    rw [hstep] at hfilt hstate
    refine ⟨_, exec_dioFilterTick_of_en s raw pul hup hen, ?zero, ?on, ?off, ?state, s.filterTick_onlyChanges raw pul⟩
    case zero => intro h; rw [hstate, h, filterStep_limit_zero]
    case on => intro h hon; rw [hfilt, hon, filterStep_of_on _ _ _ h]
    case off => intro h hoff; rw [hfilt, hoff, filterStep_of_off _ _ _ h]
    case state => intro h; rw [hstate, hfilt]; exact filterStep_state _ _ _ _ h
  · intro rq v hpass hen
    exact ⟨_, exec_regWrite_dioFilt s rq c v hup hc hpass hen, s.mergeReg_fld_of_mask _ _ 10 v (by decide) (by decide), rfl,
      s.mergeReg_onlyChanges _ _ v, s.mergeReg_onlyRegs _ _ v⟩

end Sys2Proof.Machine

/-! PROOFS. The calendar's roll-over (R522). The count of days is cut into the years before, the months before and the day, each
of which carries by an equation of its own; the second then carries field by field, and RTC_SECOND is that carry, an interrupt
beside it and, after the last second, HALT. -/

namespace Sys2Proof.Machine

/-! ### The lengths of months and years -/

theorem leapYear_iff (y : Nat) : leapYear y = true ↔ (y % 4 = 0 ∧ y % 100 ≠ 0) ∨ y % 400 = 0 := by
  simp [leapYear]

theorem monthDays_february (y : Nat) :
    monthDays y 2 = if (y % 4 = 0 ∧ y % 100 ≠ 0) ∨ y % 400 = 0 then 29 else 28 := by
  simp only [monthDays, leapYear_iff]

theorem monthDays_pos (y m : Nat) : 1 ≤ monthDays y m := by
  unfold monthDays
  split
  · split <;> decide
  all_goals decide

/-- The days of a year (R522). -/
def yearDays (y : Nat) : Nat := if leapYear y then 366 else 365

/-! ### The count of days -/

/-- The days from 2000-01-01 to the start of a year. -/
def daysBeforeYear (y : Nat) : Nat := 365 * (y - 2000) + ((y - 1) / 4 + (y - 1) / 400 - (y - 1) / 100 - 484)

/-- The days of a year before one of its months. -/
def daysBeforeMonth (y m : Nat) : Nat := ((List.range (m - 1)).map (fun k => monthDays y (k + 1))).foldl (· + ·) 0

theorem daysSince2000_eq (c : Cal) :
    daysSince2000 c = daysBeforeYear c.year + daysBeforeMonth c.year c.month + (c.day - 1) := rfl

@[simp] theorem daysBeforeMonth_one (y : Nat) : daysBeforeMonth y 1 = 0 := rfl

theorem daysBeforeMonth_succ (y m : Nat) (h : 1 ≤ m) :
    daysBeforeMonth y (m + 1) = daysBeforeMonth y m + monthDays y m := by
  obtain ⟨k, rfl⟩ : ∃ k, m = k + 1 := ⟨m - 1, by omega⟩
  simp [daysBeforeMonth, List.range_succ]

/-- The twelve months make the year. -/
theorem daysBeforeMonth_december (y : Nat) : daysBeforeMonth y 12 + monthDays y 12 = yearDays y := by
  simp only [daysBeforeMonth, List.range_succ, monthDays, yearDays]
  cases leapYear y <;> rfl

theorem daysBeforeYear_succ (y : Nat) (h : 2000 ≤ y) : daysBeforeYear (y + 1) = daysBeforeYear y + yearDays y := by
  unfold yearDays daysBeforeYear
  by_cases hleap : leapYear y = true
  · rw [if_pos hleap]
    rw [leapYear_iff] at hleap
    omega
  · rw [if_neg hleap]
    rw [leapYear_iff] at hleap
    omega

/-! ### The next second -/

/-- A possible date, field by field (R521, R522). -/
theorem Cal.possible_iff (c : Cal) : c.possible = true ↔
    (c.sec < 60 ∧ c.min < 60 ∧ c.hour < 24) ∧ (1 ≤ c.month ∧ c.month ≤ 12) ∧ (2000 ≤ c.year ∧ c.year ≤ 2999) ∧
      1 ≤ c.day ∧ c.day ≤ monthDays c.year c.month := by
  simp [Cal.possible, and_assoc]

/-- The field in which a possible date carries to its next second: every field below it is at its end and starts over. -/
inductive Cal.CarriesTo (c : Cal) : Cal → Prop
  | second : c.sec < 59 → CarriesTo c { c with sec := c.sec + 1 }
  | minute : c.sec = 59 → c.min < 59 → CarriesTo c { c with sec := 0, min := c.min + 1 }
  | hour : c.sec = 59 → c.min = 59 → c.hour < 23 → CarriesTo c { c with sec := 0, min := 0, hour := c.hour + 1 }
  | day : c.sec = 59 → c.min = 59 → c.hour = 23 → c.day < monthDays c.year c.month →
      CarriesTo c { c with sec := 0, min := 0, hour := 0, day := c.day + 1 }
  | month : c.sec = 59 → c.min = 59 → c.hour = 23 → c.day = monthDays c.year c.month → c.month < 12 →
      CarriesTo c { c with sec := 0, min := 0, hour := 0, day := 1, month := c.month + 1 }
  | year : c.sec = 59 → c.min = 59 → c.hour = 23 → c.day = monthDays c.year c.month → c.month = 12 →
      CarriesTo c ⟨0, 0, 0, 1, 1, c.year + 1⟩

theorem Cal.carriesTo_next (c : Cal) (h : c.possible = true) : c.CarriesTo c.next := by
  obtain ⟨⟨hsec, hmin, hhour⟩, ⟨-, hmonth⟩, -, -, hday⟩ := c.possible_iff.1 h
  unfold Cal.next
  by_cases h1 : c.sec < 59
  · rw [if_pos h1]; exact .second h1
  rw [if_neg h1]
  by_cases h2 : c.min < 59
  · rw [if_pos h2]; exact .minute (by omega) h2
  rw [if_neg h2]
  by_cases h3 : c.hour < 23
  · rw [if_pos h3]; exact .hour (by omega) (by omega) h3
  rw [if_neg h3]
  by_cases h4 : c.day < monthDays c.year c.month
  · rw [if_pos h4]; exact .day (by omega) (by omega) (by omega) h4
  rw [if_neg h4]
  by_cases h5 : c.month < 12
  · rw [if_pos h5]; exact .month (by omega) (by omega) (by omega) (by omega) h5
  · rw [if_neg h5]; exact .year (by omega) (by omega) (by omega) (by omega) (by omega)

/-- The only possible date that carries out of the years is the last second of 2999. -/
theorem Cal.eq_last_of_carries_year (c : Cal) (hsec : c.sec = 59) (hmin : c.min = 59) (hhour : c.hour = 23)
    (hday : c.day = monthDays c.year c.month) (hmonth : c.month = 12) (hyear : c.year = 2999) : c = Cal.last := by
  have hday31 : c.day = 31 := by rw [hday, hmonth]; rfl
  cases c
  exact (Cal.mk.injEq ..).mpr ⟨hsec, hmin, hhour, hday31, hmonth, hyear⟩

/-- What a possible date before the last one carries to is possible. -/
theorem Cal.CarriesTo.possible {c d : Cal} (hd : c.CarriesTo d) (h : c.possible = true) (hlast : c ≠ Cal.last) :
    d.possible = true := by
  obtain ⟨⟨hsec, hmin, hhour⟩, hmonth, hyear, hday⟩ := c.possible_iff.1 h
  rw [Cal.possible_iff]
  have h60 : 0 < 60 := by decide
  have h24 : 0 < 24 := by decide
  cases hd with
  | second h1 => exact ⟨⟨by simp only; omega, hmin, hhour⟩, hmonth, hyear, hday⟩
  | minute _ h2 => exact ⟨⟨h60, by simp only; omega, hhour⟩, hmonth, hyear, hday⟩
  | hour _ _ h3 => exact ⟨⟨h60, h60, by simp only; omega⟩, hmonth, hyear, hday⟩
  | day _ _ _ h4 => exact ⟨⟨h60, h60, h24⟩, hmonth, hyear, Nat.succ_pos _, h4⟩
  | month _ _ _ _ h5 => exact ⟨⟨h60, h60, h24⟩, ⟨Nat.succ_pos _, h5⟩, hyear, le_rfl, monthDays_pos _ _⟩
  | year h1 h2 h3 h4 h5 =>
    have hend : c.year ≠ 2999 := fun hy => hlast (c.eq_last_of_carries_year h1 h2 h3 h4 h5 hy)
    exact ⟨⟨h60, h60, h24⟩, ⟨le_rfl, Nat.succ_pos _⟩, ⟨by simp only; omega, by simp only; omega⟩, le_rfl, monthDays_pos _ _⟩

theorem Cal.CarriesTo.calSeconds_eq {c d : Cal} (hd : c.CarriesTo d) (h : c.possible = true) :
    calSeconds d = calSeconds c + 1 := by
  obtain ⟨-, ⟨hmonth, -⟩, ⟨hyear, -⟩, hday, -⟩ := c.possible_iff.1 h
  simp only [calSeconds, daysSince2000_eq]
  cases hd with
  | second h1 | minute _ h2 | hour _ _ h3 | day _ _ _ h4 => simp only; omega
  | month h1 h2 h3 h4 h5 =>
    have hcarry := daysBeforeMonth_succ c.year c.month hmonth
    simp only
    omega
  | year h1 h2 h3 h4 h5 =>
    have hcarry := daysBeforeYear_succ c.year hyear
    have hmonths := daysBeforeMonth_december c.year
    rw [h5] at h4
    simp only [h5, daysBeforeMonth_one]
    omega

/-! ### The interrupts of the RTC -/

theorem irqStat_mod (b : Nat) : Reg.IRQ_STAT b % 0x40000 = 0x18 := by simp only [Reg.IRQ_STAT]; omega

theorem State.irqEdge_reg_other (s s0 : State) (b off : Nat) (h0 : Reg.MSIX_PBA 0 ≠ off) (h1 : Reg.MSIX_PBA 1 ≠ off) :
    (s.irqEdge s0 b).reg off = s.reg off := by
  have hpba : Reg.MSIX_PBA (s.fld (Reg.HIF_BLKVEC b) 0 6 / 32) ≠ off := by
    have hvec : s.fld (Reg.HIF_BLKVEC b) 0 6 < 64 := bitsOf_lt _ 0 6
    rcases (by omega : s.fld (Reg.HIF_BLKVEC b) 0 6 / 32 = 0 ∨ s.fld (Reg.HIF_BLKVEC b) 0 6 / 32 = 1) with h | h <;> rwa [h]
  unfold State.irqEdge State.signalVector
  split
  · split
    · rfl
    · exact State.setFlag_reg_other _ _ _ _ _ hpba
  · rfl

/-- The vector's pending bits do not touch the IRQ_STAT bit that an event sets (R41, R46). -/
theorem State.raiseIrq_flag_same (s : State) (b bit : Nat) (h : bit < 32) :
    (s.raiseIrq b bit).flag (Reg.IRQ_STAT b) bit = true :=
  (State.flag_congr _ _ _ _ (State.irqEdge_reg_other _ s b _ (ne_of_window_ne (by rw [irqStat_mod]; decide))
    (ne_of_window_ne (by rw [irqStat_mod]; decide)))).trans (s.setFlag_flag_same _ _ _ h)

theorem State.rtcIrq_eq (s : State) (bit : Nat) : ∃ r o, s.rtcIrq bit = { s with regs := r, out := o } := by
  unfold State.rtcIrq
  split
  · exact ⟨s.regs, s.out, rfl⟩
  · exact s.raiseIrq_eq _ _

@[simp] theorem State.rtcIrq_rtc (s : State) (bit : Nat) : (s.rtcIrq bit).rtc = s.rtc := by
  obtain ⟨r, o, h⟩ := s.rtcIrq_eq bit
  rw [h]

theorem State.rtcIrq_onlyRegs (s : State) (bit : Nat) : OnlyRegs (irqRegs Blk.RTC) s (s.rtcIrq bit) := by
  intro off hoff
  obtain ⟨h0, h1, h2⟩ : off ≠ Reg.IRQ_STAT Blk.RTC ∧ off ≠ Reg.MSIX_PBA 0 ∧ off ≠ Reg.MSIX_PBA 1 := by
    simpa only [irqRegs, List.mem_cons, List.not_mem_nil, or_false, not_or] using hoff
  unfold State.rtcIrq
  split
  · rfl
  · exact s.raiseIrq_reg_other _ _ _ h0.symm h1.symm h2.symm

theorem State.rtcIrq_flag_of_up (s : State) (bit : Nat) (hup : s.Up) (h : bit < 32) :
    (s.rtcIrq bit).flag (Reg.IRQ_STAT Blk.RTC) bit = true := by
  rw [State.rtcIrq, if_neg (Bool.eq_false_iff.1 hup)]
  exact s.raiseIrq_flag_same _ _ h

/-! ### A second rolls over -/

/-- Before the last second the calendar carries and SECOND is signalled. -/
theorem State.rollRtc_of_ne_last (s : State) (h : s.rtc.cal ≠ Cal.last) :
    s.rollRtc = (s.setRtc { s.rtc with cal := s.rtc.cal.next, presc := 0 }).rtcIrq 2 := if_neg h

/-- At the last second HALT and DATE_INVALID set (R522). -/
theorem State.rollRtc_of_last (s : State) (h : s.rtc.cal = Cal.last) :
    s.rollRtc = (s.holdRtc.setFlag Reg.RTC_STAT RtcBit.DATE_INVALID true).rtcIrq 4 := if_pos h

theorem State.rollRtc_eq (s : State) : ∃ r o x, s.rollRtc = { s with regs := r, out := o, rtc := x } := by
  by_cases h : s.rtc.cal = Cal.last
  · rw [s.rollRtc_of_last h]
    obtain ⟨r, o, e⟩ := (s.holdRtc.setFlag Reg.RTC_STAT RtcBit.DATE_INVALID true).rtcIrq_eq 4
    exact ⟨r, o, _, e⟩
  · rw [s.rollRtc_of_ne_last h]
    obtain ⟨r, o, e⟩ := (s.setRtc { s.rtc with cal := s.rtc.cal.next, presc := 0 }).rtcIrq_eq 2
    exact ⟨r, o, _, e⟩

theorem State.rollRtc_onlyChanges (s : State) : OnlyChanges [.regs, .out, .rtc] s s.rollRtc := by
  obtain ⟨r, o, x, h⟩ := s.rollRtc_eq
  rw [h]
  refine ⟨rfl, rfl, fun p hp => ?_⟩
  cases p
  case regs | out | rtc => simp at hp
  all_goals rfl

theorem exec_rtcSecond_of_running (s : State) (h : s.rtcHalt = false) : exec .rtcSecond s = .next s.rollRtc := by
  rw [exec_rtcSecond, execRtcSecond, State.always, if_neg (Bool.eq_false_iff.1 h), s.rollRtc_onlyChanges.guarded_eq (by simp)]

theorem State.rollRtc_cal_of_ne_last (s : State) (h : s.rtc.cal ≠ Cal.last) : s.rollRtc.rtc.cal = s.rtc.cal.next := by
  rw [s.rollRtc_of_ne_last h, State.rtcIrq_rtc]; rfl

theorem State.rollRtc_onlyRegs_of_ne_last (s : State) (h : s.rtc.cal ≠ Cal.last) :
    OnlyRegs (irqRegs Blk.RTC) s s.rollRtc := by
  rw [s.rollRtc_of_ne_last h]
  exact State.rtcIrq_onlyRegs _ _

theorem State.rollRtc_second_of_up (s : State) (h : s.rtc.cal ≠ Cal.last) (hup : s.Up) :
    s.rollRtc.flag (Reg.IRQ_STAT Blk.RTC) 2 = true := by
  rw [s.rollRtc_of_ne_last h]
  exact State.rtcIrq_flag_of_up _ 2 hup (by decide)

theorem State.rollRtc_cal_of_last (s : State) (h : s.rtc.cal = Cal.last) : s.rollRtc.rtc.cal = s.rtc.cal := by
  rw [s.rollRtc_of_last h, State.rtcIrq_rtc]; rfl

theorem State.rollRtc_rtcHalt_of_last (s : State) (h : s.rtc.cal = Cal.last) : s.rollRtc.rtcHalt = true := by
  rw [s.rollRtc_of_last h, State.rtcHalt, State.flag_congr _ _ _ _ (State.rtcIrq_onlyRegs _ 4 _ (by decide)),
    State.setFlag_flag_reg _ _ _ _ _ _ (by decide)]
  exact State.setFlag_flag_same _ _ _ _ (by decide)

theorem State.rollRtc_dateInvalid_of_last (s : State) (h : s.rtc.cal = Cal.last) :
    s.rollRtc.rtcBit RtcBit.DATE_INVALID = true := by
  rw [s.rollRtc_of_last h, State.rtcBit, State.flag_congr _ _ _ _ (State.rtcIrq_onlyRegs _ 4 _ (by decide))]
  exact State.setFlag_flag_same _ _ _ _ (by decide)

/-- Settles O46: a second is one carry of the calendar, which the count of seconds follows, and the last one is held. -/
theorem calendarRollsOver : Obligations.CalendarRollsOver := by
  unfold Obligations.CalendarRollsOver
  refine ⟨monthDays_february, fun s hrun => ⟨fun hpos hlast => ?_, fun hlast => ?_⟩⟩
  · have hcal := s.rollRtc_cal_of_ne_last hlast
    have hcarry := s.rtc.cal.carriesTo_next hpos
    refine ⟨_, exec_rtcSecond_of_running s hrun, ?possible, ?seconds, s.rollRtc_second_of_up hlast, ?century,
      s.rollRtc_onlyChanges, s.rollRtc_onlyRegs_of_ne_last hlast⟩
    case possible => rw [hcal]; exact hcarry.possible hpos hlast
    case seconds => rw [hcal]; exact hcarry.calSeconds_eq hpos
    case century => intro h; rw [hcal, h]; decide
  · exact ⟨_, exec_rtcSecond_of_running s hrun, s.rollRtc_cal_of_last hlast, s.rollRtc_rtcHalt_of_last hlast,
      s.rollRtc_dateInvalid_of_last hlast, s.rollRtc_onlyChanges⟩

end Sys2Proof.Machine

/-! PROOFS. What every step keeps. A command acts through one of three guards (`exec_cases`); what each guard keeps is said once,
and LC_ADVANCE, the one command that may touch the OTP, is taken apart by its branches. -/

namespace Sys2Proof.Machine

-- One declaration after the other: the stacks of parallel elaboration would count against the memory limit of the check.
set_option Elab.async false

/-! ### The guards -/

/-- The OTP of `t` is that of `s`. -/
def SameOtp (s t : State) : Prop :=
  t.key.otpState = s.key.otpState ∧ t.key.otpLeft = s.key.otpLeft ∧ t.key.otpEpoch = s.key.otpEpoch
    ∧ t.key.pufDead = s.key.pufDead

/-- The outcome answers a next state with the queue, the clock and the OTP of `s`. -/
def Keeps (s : State) (o : Host.Outcome State Fault Refusal) : Prop :=
  ∃ t, o = .next t ∧ t.pending = s.pending ∧ t.clk = s.clk ∧ SameOtp s t

theorem State.powered_keeps (s : State) (f : State → State) : Keeps s (s.powered f) := by
  by_cases h : s.sup.inReset = true
  · exact ⟨s, s.powered_held f h, rfl, rfl, rfl, rfl, rfl, rfl⟩
  · exact ⟨_, s.powered_run f (by simpa using h), rfl, rfl, rfl, rfl, rfl, rfl⟩

theorem State.always_keeps (s : State) (f : State → State) : Keeps s (s.always f) :=
  ⟨_, rfl, rfl, rfl, rfl, rfl, rfl, rfl⟩

/-- Every command but LC_ADVANCE keeps the OTP. -/
theorem exec_keeps (c : Instr) (s : State) (h : ∀ n k, c ≠ .lcAdvance n k) : Keeps s (exec c s) := by
  obtain ⟨f, hf⟩ | ⟨f, hf⟩ | ⟨n, k, hc⟩ := exec_cases c s
  · rw [hf]; exact s.powered_keeps f
  · rw [hf]; exact s.always_keeps f
  · exact absurd hc (h n k)

/-- What gave way within its SYS cycle acts through the same guards. -/
theorem Late.run_keeps (l : Late) (s : State) : Keeps s (l.run s) := by
  cases l <;> simp only [Late.run]
  case fastCut | overloadCut | limitCut | mpsLoss | vpseUvCut | vpseRev | dieTemp | modeSet => exact s.always_keeps _
  all_goals exact s.powered_keeps _

/-! ### LC_ADVANCE -/

/-- A command of the guard of LC_ADVANCE leaves queue and clock alone. -/
theorem State.blowing_next (s : State) (f : State → State) :
    ∃ t, s.blowing f = .next t ∧ t.pending = s.pending ∧ t.clk = s.clk ∧ (t.key = s.key ∨ t.key = (f s).key) := by
  by_cases h : s.sup.inReset = true
  · exact ⟨s, by simp [State.blowing, h], rfl, rfl, .inl rfl⟩
  · exact ⟨{ f s with pending := s.pending, clk := s.clk }, by simp [State.blowing, h], rfl, rfl, .inr rfl⟩

theorem State.setRecord_key (s : State) (f : StartRec → StartRec) : (s.setRecord f).key = s.key := rfl

/-- The end of a life does not touch KEY (R567, R568). -/
theorem State.endLife_key (s : State) (code : Nat) : (s.endLife code).key = s.key := by
  unfold State.endLife
  split
  · rfl
  · simp only
    split <;> rfl

theorem State.newNonce_key (s : State) : s.newNonce.key = s.key := rfl

theorem State.authFail_key (s : State) : s.authFail.key = s.key := by simp [State.authFail]

/-- A transition that R543 allows leads to a later state, and never out of SCRAPPED. -/
theorem lcSlots_ne_nil {cur dst : Nat} (h : lcSlots cur dst ≠ []) : dst ≤ 4 ∧ cur ≤ 3 := by
  unfold lcSlots at h
  split at h
  all_goals first | omega | skip
  · split at h
    · omega
    · exact absurd rfl h
  · exact absurd rfl h

/-- What a step does to the OTP: nothing, or one transition that R543 allows, with a row left or to SCRAPPED. -/
def OtpAdvances (s t : State) : Prop :=
  SameOtp s t ∨ ∃ dst, lcSlots s.key.otpState dst ≠ [] ∧ (s.key.otpLeft ≠ 0 ∨ dst = 4) ∧ t.key.otpState = dst
    ∧ t.key.otpLeft = s.key.otpLeft - 1 ∧ t.key.otpEpoch = s.key.otpEpoch + 1 ∧ t.key.pufDead = (s.key.pufDead || dst == 4)

theorem OtpAdvances.of_key_eq {s t : State} (h : t.key = s.key) : OtpAdvances s t :=
  .inl (by rw [SameOtp, h]; exact ⟨rfl, rfl, rfl, rfl⟩)

/-- LC_ADVANCE blows one row on a good token for an allowed transition, and none otherwise (R543, R544). -/
theorem exec_lcAdvance_next (n : Nat) (k : BitVec 512) (s : State) :
    ∃ t, exec (.lcAdvance n k) s = .next t ∧ t.pending = s.pending ∧ t.clk = s.clk ∧ OtpAdvances s t := by
  rw [exec_lcAdvance, execLcAdvance]
  obtain ⟨t, ht, hp, hc, hk | hk⟩ := s.blowing_next _
  · exact ⟨t, ht, hp, hc, .of_key_eq hk⟩
  · refine ⟨t, ht, hp, hc, ?_⟩
    split at hk
    · exact .of_key_eq hk
    · next x _ =>
      simp only at hk
      split at hk
      · exact .of_key_eq (hk.trans (State.decideOp_key _ _ _ _))
      · next hallowed =>
        obtain ⟨hslots, hrow⟩ := not_or.1 hallowed
        split at hk
        · rw [State.endLife_key] at hk
          rw [OtpAdvances, hk]
          refine .inr ⟨paramField x.param 0 1, hslots, ?_, rfl, rfl, rfl, rfl⟩
          by_contra hno
          exact hrow ⟨by_contra fun h => hno (.inl h), fun h => hno (.inr h)⟩
        · exact .of_key_eq (hk.trans ((State.decideOp_key _ _ _ _).trans (State.authFail_key _)))

/-! ### A step -/

theorem exec_next (c : Instr) (s : State) :
    ∃ t, exec c s = .next t ∧ t.pending = s.pending ∧ t.clk = s.clk ∧ OtpAdvances s t := by
  by_cases h : ∃ n k, c = .lcAdvance n k
  · obtain ⟨n, k, rfl⟩ := h
    exact exec_lcAdvance_next n k s
  · obtain ⟨t, ht, hp, hc, hotp⟩ := exec_keeps c s fun n k hc => h ⟨n, k, hc⟩
    exact ⟨t, ht, hp, hc, .inl hotp⟩

theorem State.tick_key (s : State) : s.tick.key = s.key := by
  unfold State.tick
  split <;> rfl

theorem step_otpAdvances {s t : State} (h : step s = .next t) : OtpAdvances s t := by
  unfold step at h
  split at h
  · next c cs _ =>
    obtain ⟨t', ht, -, -, hotp⟩ := exec_next c { s with pending := cs }
    cases ht.symm.trans h
    exact hotp
  · split at h
    · cases h
      exact .of_key_eq s.tick_key
    · next l rest _ =>
      obtain ⟨t', ht, -, -, hotp⟩ := Late.run_keeps l { s with late := [] }
      rw [ht] at h
      cases h
      exact .inl hotp

/-- Settles O59: a step leaves the OTP as it is or makes one transition of R543. -/
theorem otpOnlyMovesForward : Obligations.OtpOnlyMovesForward := by
  unfold Obligations.OtpOnlyMovesForward
  intro s t ⟨hstate, hdead, hrows, hsum⟩ hstep
  obtain ⟨e1, e2, e3, e4⟩ | ⟨dst, hslots, hrow, e1, e2, e3, e4⟩ := step_otpAdvances hstep
  · rw [State.OtpInv, e1, e2, e3, e4]
    exact ⟨⟨hstate, hdead, hrows, hsum⟩, Nat.le_refl _, Nat.le_refl _, id⟩
  · obtain ⟨hdst, hcur⟩ := lcSlots_ne_nil hslots
    have halive : s.key.pufDead = false := Bool.eq_false_iff.2 fun h => by have := hdead.1 h; omega
    rw [State.OtpInv, e1, e2, e3, e4, halive]
    refine ⟨⟨hdst, by simp, by omega, by omega⟩, by omega, by omega, fun h => by omega⟩

/-- Settles O3: by the guard each command acts through. -/
theorem everyCommandAnswersNext : Obligations.EveryCommandAnswersNext := by
  unfold Obligations.EveryCommandAnswersNext
  intro c s
  obtain ⟨t, ht, hp, hc, -⟩ := exec_next c s
  refine ⟨t, ht, hp, hc, fun hne => ?_⟩
  obtain ⟨t', ht', -, -, hotp⟩ := exec_keeps c s hne
  cases ht.symm.trans ht'
  exact hotp

/-! ### In reset -/

theorem State.blowing_held (s : State) (f : State → State) (h : s.sup.inReset = true) : s.blowing f = .next s := by
  simp [State.blowing, h]

/-- Settles O58: every command that does not live through reset has the guard that holds it. -/
theorem heldInResetNothingHappens : Obligations.HeldInResetNothingHappens := by
  unfold Obligations.HeldInResetNothingHappens
  intro c s h hc
  cases c <;> dsimp only [exec]
  case rtcSecond | rtcWake | trimWindow | oscStop | backupPowerUp | vpseUvCut | vpseRev | pseSample | dieAutonomous
      | dieColdPowerUp | dieTemp | fieldDieSafe | fastCut | overloadCut | limitCut | mpsLoss | pfail | resetRelease | modeSet =>
    cases hc
  case lcAdvance => exact s.blowing_held _ h
  all_goals exact s.powered_held _ h

/-! ### The queue -/

/-- Settles O1. -/
theorem stepRunsFrontCommand : Obligations.StepRunsFrontCommand := by
  unfold Obligations.StepRunsFrontCommand
  intro c cs s h
  simp only [step, h]

/-- Settles O2: with the queue empty a step is what `late` holds first, or one SYS cycle. -/
theorem emptyQueueLetsOneCyclePass : Obligations.EmptyQueueLetsOneCyclePass := by
  unfold Obligations.EmptyQueueLetsOneCyclePass
  intro s hempty
  refine ⟨fun hlate hreset => ?_, fun hlate hup => ?_, fun k l r hlate => ?_⟩
  · simp only [step, hempty, hlate, State.tick, hreset, if_true]
  · rw [State.Up] at hup
    simp only [step, hempty, hlate, State.tick, hup, Bool.false_eq_true, if_false]
  · obtain ⟨t, ht, -⟩ := Late.run_keeps l { s with late := [] }
    refine ⟨t, ht, ?_⟩
    cases s
    subst hempty hlate
    exact congrArg (withLate r) ht

end Sys2Proof.Machine

/-! PROOFS. The calendar from its seconds (R525). The search for the year and the one for the month each stop where the days that
are left lie within the year or the month; the days before both are those of the count. -/

namespace Sys2Proof.Machine

-- One declaration after the other: the stacks of parallel elaboration would count against the memory limit of the check.
set_option Elab.async false

theorem calYear_succ (k y d : Nat) :
    calYear (k + 1) y d = if d < yearDays y then (y, d) else calYear k (y + 1) (d - yearDays y) := rfl

theorem daysBeforeYear_mono {y z : Nat} (hy : 2000 ≤ y) (h : y ≤ z) : daysBeforeYear y ≤ daysBeforeYear z := by
  induction z, h using Nat.le_induction with
  | base => rfl
  | succ z hz ih => rw [daysBeforeYear_succ z (by omega)]; omega

/-- The search from year `y` finds year `z` with the days that are left of it. -/
theorem calYear_eq (k y z r : Nat) (hy : 2000 ≤ y) (hz : y ≤ z) (hk : z < y + k) (hr : r < yearDays z) :
    calYear k y (daysBeforeYear z - daysBeforeYear y + r) = (z, r) := by
  induction k generalizing y with
  | zero => omega
  | succ k ih =>
    rw [calYear_succ]
    by_cases h : y = z
    · subst h
      rw [Nat.sub_self, Nat.zero_add, if_pos hr]
    · have hnext := daysBeforeYear_succ y hy
      have hle := daysBeforeYear_mono (by omega : 2000 ≤ y + 1) (by omega : y + 1 ≤ z)
      have hlater : ¬ daysBeforeYear z - daysBeforeYear y + r < yearDays y := by omega
      have hleft : daysBeforeYear z - daysBeforeYear y + r - yearDays y = daysBeforeYear z - daysBeforeYear (y + 1) + r := by omega
      rw [if_neg hlater, hleft]
      exact ih (y + 1) (by omega) (by omega) (by omega)

theorem daysBeforeMonth_mono (y : Nat) {m n : Nat} (hm : 1 ≤ m) (h : m ≤ n) : daysBeforeMonth y m ≤ daysBeforeMonth y n := by
  induction n, h using Nat.le_induction with
  | base => rfl
  | succ n hn ih => rw [daysBeforeMonth_succ y n (by omega)]; omega

/-- The search from month `m` finds month `n` with the days that are left of it. -/
theorem calMonth_eq (k y m n r : Nat) (hm : 1 ≤ m) (hn : m ≤ n) (hk : n ≤ m + k) (hr : r < monthDays y n) :
    calMonth k y m (daysBeforeMonth y n - daysBeforeMonth y m + r) = (n, r) := by
  induction k generalizing m with
  | zero =>
    obtain rfl : m = n := by omega
    rw [Nat.sub_self, Nat.zero_add]
    rfl
  | succ k ih =>
    rw [calMonth]
    by_cases h : m = n
    · subst h
      rw [Nat.sub_self, Nat.zero_add, if_pos hr]
    · have hnext := daysBeforeMonth_succ y m hm
      have hle := daysBeforeMonth_mono y (by omega : 1 ≤ m + 1) (by omega : m + 1 ≤ n)
      have hlater : ¬ daysBeforeMonth y n - daysBeforeMonth y m + r < monthDays y m := by omega
      have hleft : daysBeforeMonth y n - daysBeforeMonth y m + r - monthDays y m
          = daysBeforeMonth y n - daysBeforeMonth y (m + 1) + r := by omega
      rw [if_neg hlater, hleft]
      exact ih (m + 1) (by omega) (by omega) (by omega)

/-- A day of a month lies within its year. -/
theorem daysBeforeMonth_day_lt (y m d : Nat) (h1 : 1 ≤ m) (h12 : m ≤ 12) (hd : d < monthDays y m) :
    daysBeforeMonth y m + d < yearDays y := by
  have hyear := daysBeforeMonth_december y
  by_cases h : m = 12
  · subst h; omega
  · have hnext := daysBeforeMonth_succ y m h1
    have hle := daysBeforeMonth_mono y (by omega : 1 ≤ m + 1) (by omega : m + 1 ≤ 12)
    omega

/-- The calendar of a count of days since 2000 and a time of day. -/
theorem calOfSeconds_eq (t n y d : Nat) (ht : t = 10957 * 86400 + n) (hyear : calYear 1000 2000 (n / 86400) = (y, d))
    (hy : y ≤ 2999) : calOfSeconds t = some ⟨n % 60, n / 60 % 60, n / 3600 % 24, (calMonth 11 y 1 d).2 + 1,
      (calMonth 11 y 1 d).1, y⟩ := by
  subst ht
  have hlow : ¬ 10957 * 86400 + n < 10957 * 86400 := by omega
  have hrest : 10957 * 86400 + n - 10957 * 86400 = n := by omega
  unfold calOfSeconds
  rw [if_neg hlow, hrest]
  simp only [hyear, if_neg (Nat.not_lt.2 hy)]

theorem calOfSeconds_calSeconds (c : Cal) (h : c.possible = true) : calOfSeconds (calSeconds c) = some c := by
  obtain ⟨⟨hsec, hmin, hhour⟩, ⟨hm1, hm12⟩, ⟨hy, hy'⟩, hd1, hd⟩ := c.possible_iff.1 h
  have hin := daysBeforeMonth_day_lt c.year c.month (c.day - 1) hm1 hm12 (by omega)
  have hyear := calYear_eq 1000 2000 c.year _ le_rfl hy (by omega) hin
  have hmonth := calMonth_eq 11 c.year 1 c.month (c.day - 1) le_rfl hm1 (by omega) (by omega)
  rw [show daysBeforeYear 2000 = 0 from rfl, Nat.sub_zero, ← Nat.add_assoc, ← daysSince2000_eq] at hyear
  rw [daysBeforeMonth_one, Nat.sub_zero] at hmonth
  generalize hn : daysSince2000 c * 86400 + c.hour * 3600 + c.min * 60 + c.sec = n
  have hcount : calSeconds c = 10957 * 86400 + n := by rw [← hn, calSeconds]; ring
  have hdays : daysSince2000 c = n / 86400 := by omega
  rw [hdays] at hyear
  rw [calOfSeconds_eq _ n c.year _ hcount hyear hy', hmonth]
  have e1 : n % 60 = c.sec := by omega
  have e2 : n / 60 % 60 = c.min := by omega
  have e3 : n / 3600 % 24 = c.hour := by omega
  have e4 : c.day - 1 + 1 = c.day := by omega
  simp only [e1, e2, e3, e4]

/-- Settles O47: the second carries field by field, and the searches for year and month undo the count of days. -/
theorem calendarCarries : Obligations.CalendarCarries := by
  unfold Obligations.CalendarCarries
  intro c h
  exact ⟨calOfSeconds_calSeconds c h, fun hlast =>
    ⟨(c.carriesTo_next h).possible h hlast, (c.carriesTo_next h).calSeconds_eq h⟩⟩

end Sys2Proof.Machine

/-! PROOFS. What a refutation shows of a command's outcome on a concrete state. -/

namespace Sys2Proof.Machine

-- One declaration after the other: the stacks of parallel elaboration would count against the memory limit of the check.
set_option Elab.async false

/-- A view of the next state that an outcome answers. -/
def shown {α : Type} (f : State → α) (o : Host.Outcome State Fault Refusal) : Option α :=
  match o with
  | .next t => some (f t)
  | _ => none

theorem eq_of_shown {α : Type} {f : State → α} {o : Host.Outcome State Fault Refusal} {t : State} {a : α}
    (h : o = .next t) (hs : shown f o = some a) : f t = a := by
  subst h
  exact Option.some.inj hs

/-- The module out of reset with nothing to do at a first enable. -/
def State.bare : State := { State.reset with sup := { State.reset.sup with inReset := false, initDue := [] } }

/-! ### EN of DIO restarts the logic watchdog -/

/-- DIO is READY and disabled, one cycle after its watchdog's last kick. -/
def dioReady : State := { State.bare.setFlag (Reg.STAT Blk.DIO) 0 true with clk := 1 }

/-- Refutes O5: a later enable of DIO restarts the logic watchdog, so DIO's own part changes beside CTRL. -/
theorem not_pageZeroAndSoftReset : ¬ Obligations.PageZeroAndSoftReset := by
  unfold Obligations.PageZeroAndSoftReset
  rintro ⟨hpage, -⟩
  have hpass : dioReady.Passes .pcie (Reg.CTRL Blk.DIO) := by unfold State.Passes State.Alone; decide +kernel
  obtain ⟨-, -, henable, -⟩ := hpage dioReady .pcie Blk.DIO rfl (by decide) (by decide) hpass
  obtain ⟨t, ht, -, ⟨-, -, hparts⟩, -⟩ := henable 1 (by decide) (by decide +kernel) (by decide) (by decide +kernel)
  have hdio : t.dio = dioReady.dio := hparts .dio (by decide)
  have hkick : t.dio.wdtClk = 1 := eq_of_shown (f := (·.dio.wdtClk)) ht (by decide +kernel)
  rw [hdio] at hkick
  exact absurd hkick (by decide +kernel)

/-! ### HIF_LINK_STAT shows the SPI what no latch holds -/

/-- A latched value stands at HIF_LINK_STAT. -/
def linkLatched : State := { State.bare with loLatch := [(Reg.HIF_LINK_STAT, 0)] }

/-- Refutes O4: over the SPI a read of HIF_LINK_STAT shows the transaction that reads it, whatever is latched there (R63). -/
theorem not_hostAccesses : ¬ Obligations.HostAccesses := by
  unfold Obligations.HostAccesses
  rintro ⟨-, -, hreads, -⟩
  obtain ⟨-, -, hlatched, -⟩ := hreads linkLatched .spi rfl
  have hanswers : linkLatched.Answers .spi Reg.HIF_LINK_STAT := by unfold State.Answers; decide +kernel
  obtain ⟨t, ht, hout, -⟩ := hlatched Reg.HIF_LINK_STAT 0 rfl (by decide) (by decide) (by decide +kernel) (by decide +kernel)
    hanswers
  have hshown : t.out.getLast? = some (.readData .spi [0x200]) := eq_of_shown (f := (·.out.getLast?)) ht (by decide +kernel)
  rw [hshown] at hout
  exact absurd hout (by decide)

end Sys2Proof.Machine

/-! PROOFS. Refutations: a state that meets a clause's premises and that the model answers otherwise. -/

namespace Sys2Proof.Machine

-- One declaration after the other: the stacks of parallel elaboration would count against the memory limit of the check.
set_option Elab.async false

/-! ### A write to a module whose loss is due -/

/-- Module 9 is UP and a write to it waits, but its heartbeats have been missing for the time of a loss. -/
def lossDueState : State :=
  let s := ((State.bare.setFld Reg.SUP_MODE 0 2 Mode.RUN).setFlag (Reg.CTRL Blk.SCN) 0 true).setFld (Reg.HLK_MBm_STAT 9) 0 3 2
  { s with
    clk := lossClk
    scn := { s.scn with
      bankA := some { Bank.empty with tasks := [⟨5, true, false, 0, 0xFF, 2048, 0, 0, 0, 0, 0, 0, 0, []⟩] }
      remote := [⟨0, 5, 0, 0, .module 9, 0, 2, 0, none, .waiting, 0⟩] }
    hlk := { s.hlk with peers := [(9, { Peer.fresh with hbClk := some 0 })] } }

/-- Refutes O27: a write to a member that is UP and whose loss is due is lost, not handed over (R283). -/
theorem not_taskEventsAndOperations : ¬ Obligations.TaskEventsAndOperations := by
  unfold Obligations.TaskEventsAndOperations
  rintro ⟨hevents, -⟩
  obtain ⟨-, -, -, hrelease, -⟩ := hevents lossDueState 5 ⟨5, true, false, 0, 0xFF, 2048, 0, 0, 0, 0, 0, 0, 0, []⟩ rfl
    (by decide) (by decide +kernel) (by decide +kernel) (by decide +kernel)
  obtain ⟨t, ht, hremote, -⟩ := hrelease ⟨0, 5, 0, 0, .module 9, 0, 2, 0, none, .waiting, 0⟩ 9 (by decide +kernel) rfl rfl rfl
    (by decide +kernel)
  have hlost : t.scn.remote = [] := eq_of_shown (f := (·.scn.remote)) ht (by decide +kernel)
  rw [hlost] at hremote
  exact absurd hremote (by decide)

/-! ### A sample that waits for its input -/

/-- Loop 0's sample is due, its input is too old, and another command falls in the SYS cycle. -/
def oldInputState : State :=
  let s := (((State.bare.setFld Reg.SUP_MODE 0 2 Mode.RUN).setFlag (Reg.CTRL Blk.LPE) 0 true).setFlag Reg.LAT_STATE 3 true).setFlag
    (Reg.LPE_LnCFG 0) 0 true
  { (s.setFld (Reg.LPE_LnPERIOD 0) 0 16 1).setFld (Reg.LPE_LnSUP1 0) 0 8 1 with
    pending := [.rtcSecond]
    lat := { s.lat with pos := 4096 * 2 ^ 32 } }

/-- Refutes O28: a sample whose feedback is about to be lost for its age waits for the end of its SYS cycle (R321). -/
theorem not_loopsAndTraces : ¬ Obligations.LoopsAndTraces := by
  unfold Obligations.LoopsAndTraces
  intro h
  obtain ⟨hsample, -⟩ := h oldInputState 0 0 Slot.unused .pcie rfl (by decide) rfl (by decide +kernel) rfl
  obtain ⟨t, ht, hlast, -⟩ := hsample (by decide +kernel) (by decide +kernel) (by decide +kernel) (by decide +kernel) rfl
    (by decide +kernel) (by decide +kernel)
  have hwaits : (t.loop 0).lastCh = none := eq_of_shown (f := fun t => (t.loop 0).lastCh) ht (by decide +kernel)
  rw [hwaits] at hlast
  exact absurd hlast (by decide)

/-! ### A sample that closes an interval first -/

/-- Front end 0 runs, and an interval that ended waits for its last sample. -/
def intervalWaitsState : State :=
  let s := State.bare.setFlag (Reg.EMU_MmSTAT 0) 24 true
  { s with clk := emuDelay, emu := { s.emu with ivWait := some ⟨0, 0, 0, 0, false, [], []⟩ } }

/-- Refutes O29: the first sample after an interval's end closes it, so that its records enter the hold ring in STO's
store (R343, R350). -/
theorem not_energySamplesAndPulses : ¬ Obligations.EnergySamplesAndPulses := by
  unfold Obligations.EnergySamplesAndPulses
  intro h
  obtain ⟨hsample, -⟩ := h intervalWaitsState 0 rfl (by decide)
  obtain ⟨t, ht, -, -, -, -, -, hparts⟩ := hsample ⟨[], []⟩ (by decide +kernel)
  have hsto : t.sto = intervalWaitsState.sto := hparts .sto (by decide)
  have hheld : t.sto.objs.length = 1 := eq_of_shown (f := (·.sto.objs.length)) ht (by decide +kernel)
  rw [hsto] at hheld
  exact absurd hheld (by decide +kernel)

end Sys2Proof.Machine

/-! PROOFS. Refutations of the field bus's frames, of the seals and of the commit of a power failure. -/

namespace Sys2Proof.Machine

-- One declaration after the other: the stacks of parallel elaboration would count against the memory limit of the check.
set_option Elab.async false

/-! ### A buffer that was pending before this FLD cycle's hand-over -/

/-- Channel 0 is on the bus in event mode with buffer 1 pending, and buffer 0 had a frame pending before the hand-over of
this FLD cycle. -/
def handOverState : State :=
  let s := (((State.bare.setFld Reg.SUP_MODE 0 2 Mode.RUN).setFld (Reg.FBC_CHc_STAT 0) 0 2 CanSt.ACTIVE).setFlag
    (Reg.FBC_CHc_STAT 0) 4 true).setFld (Reg.FBC_MBb_CFG 0 0) 0 2 3
  ((((s.setFld (Reg.FBC_MBb_CFG 0 1) 0 2 3).setFlag (Reg.FBC_MBb_HDR 0 1) 19 true).setNum (Reg.FBC_MBb_ID 0 1) 5).setCanBuf 0 0
    { CanBuf.fresh with before := some (0, true, [], []) })

/-- Refutes O41: the idle bus in event mode is also offered the frame that a buffer had before the hand-over of its FLD cycle
(R478), although its PENDING bit is clear. -/
theorem not_fieldBusFrames : ¬ Obligations.FieldBusFrames := by
  unfold Obligations.FieldBusFrames
  rintro ⟨-, hsend⟩
  obtain ⟨-, -, -, hwindow, -⟩ := hsend handOverState 0 1 rfl (by decide) (by decide)
  obtain ⟨hevent, -⟩ := hwindow 0 ⟨5, false, false, false, []⟩ 0 (by decide +kernel) (by decide +kernel) (by decide +kernel)
    (by decide +kernel) (by decide +kernel) (by decide +kernel) (by decide)
  obtain ⟨⟨t, ht, -, hfly, -⟩, -⟩ := hevent (by decide +kernel) (by decide +kernel) rfl (by decide +kernel)
  have hsent : (t.canCh 0).fly.map (·.src) = some 0 := eq_of_shown (f := fun t => (t.canCh 0).fly.map (·.src)) ht (by decide +kernel)
  rw [hfly] at hsent
  exact absurd hsent (by decide)

/-! ### A seal that began before its key's rotation -/

/-- The key of context 1 before and after its rotation. -/
def oldBlob : KeyBlob := ⟨0, 0, 8⟩
def newBlob : KeyBlob := ⟨0, 1, 8⟩

/-- A SEAL_READ of the one point of context 1, by the landlord. -/
def sealSlot : Slot := { Slot.unused with st := .active, block := Blk.TEN, opcode := 3, param := BitVec.ofNat 384 0x10001 }

/-- The SEAL_READ of tag 0 began with the key before a rotation and waits for its turn. -/
def rotatedState : State :=
  let s := State.bare.setFld Reg.SUP_MODE 0 2 Mode.RUN
  let s1 := (s.setPoint 0 { Point.unconfigured with ctx := 1 }).setSlot 0 sealSlot
  { s1 with
    key := { s1.key with blobs := [(1, newBlob)], storedBlobs := [(1, newBlob)], cache := [1] }
    ten := { s1.ten with sealTags := [(0, [0], some oldBlob)] } }

/-- The low byte of KEY_GEN in the envelope that was sent last (R555). -/
def lastSealedGen (t : State) : Option Byte :=
  match t.out.getLast? with
  | some (.dma _ b) => b[8]?
  | _ => none

/-- Refutes O51: a seal that waits through a rotation is made with the key that it began with (R549). -/
theorem not_sealsAndPoints : ¬ Obligations.SealsAndPoints := by
  unfold Obligations.SealsAndPoints
  intro h
  obtain ⟨hseal, -⟩ := h rotatedState 0 sealSlot rfl (by decide)
  obtain ⟨hallowed, -⟩ := hseal 1 1 [0] newBlob (by decide +kernel) (by decide +kernel) (by decide +kernel) (by decide) (.inl rfl)
    (by decide) (by decide) rfl (by decide +kernel) (by decide +kernel) (by decide +kernel) (by decide +kernel)
  obtain ⟨hbelow, -⟩ := hallowed (by decide +kernel)
  obtain ⟨t, ht, -, hout, -⟩ := hbelow _ (by decide +kernel) rfl
  have hold : lastSealedGen t = some 0 := eq_of_shown (f := lastSealedGen) ht (by decide +kernel)
  rw [lastSealedGen, hout, List.getLast?_concat] at hold
  exact absurd hold (by decide +kernel)

/-! ### A power failure while an interval waits for its last sample -/

/-- The start is past step 7, and an interval that ended waits for its last sample. -/
def pfailWaitsState : State := intervalWaitsState.setFld Reg.SUP_MODE 4 4 8

/-- Refutes O53: a PFAIL closes the interval that waits, so that its records enter the hold ring in STO's store (R343, R350). -/
theorem not_powerFailureCommits : ¬ Obligations.PowerFailureCommits := by
  unfold Obligations.PowerFailureCommits
  intro h
  obtain ⟨-, hmirror, -⟩ := h pfailWaitsState 0
  obtain ⟨t, ht, -, -, -, -, hparts⟩ := hmirror rfl (by decide +kernel) (by decide +kernel)
  have hsto : t.sto = pfailWaitsState.sto := hparts .sto (by decide)
  have hheld : t.sto.objs.length = 1 := eq_of_shown (f := (·.sto.objs.length)) ht (by decide +kernel)
  rw [hsto] at hheld
  exact absurd hheld (by decide +kernel)

end Sys2Proof.Machine

/-! PROOFS. Frames of commands, part by part, and the shape in which a command's run enters a proof. -/

namespace Sys2Proof.Machine

-- One declaration after the other: the stacks of parallel elaboration would count against the memory limit of the check.
set_option Elab.async false

/-- A frame part by part, for `simp` with the field lemmas of the operations. -/
theorem onlyChanges_iff (ps : List Part) (s t : State) : OnlyChanges ps s t ↔
    t.pending = s.pending ∧ t.clk = s.clk ∧ (.late ∉ ps → t.late = s.late) ∧ (.coreWait ∉ ps → t.coreWait = s.coreWait)
      ∧ (.free ∉ ps → t.free = s.free) ∧ (.out ∉ ps → t.out = s.out) ∧ (.regs ∉ ps → t.regs = s.regs)
      ∧ (.image ∉ ps → t.image = s.image) ∧ (.latch ∉ ps → t.latch = s.latch) ∧ (.loLatch ∉ ps → t.loLatch = s.loLatch)
      ∧ (.loPend ∉ ps → t.loPend = s.loPend) ∧ (.errDetail ∉ ps → t.errDetail = s.errDetail)
      ∧ (.claims ∉ ps → t.claims = s.claims) ∧ (.points ∉ ps → t.points = s.points) ∧ (.notes ∉ ps → t.notes = s.notes)
      ∧ (.opt ∉ ps → t.opt = s.opt) ∧ (.hif ∉ ps → t.hif = s.hif) ∧ (.lat ∉ ps → t.lat = s.lat)
      ∧ (.sup ∉ ps → t.sup = s.sup) ∧ (.key ∉ ps → t.key = s.key) ∧ (.ten ∉ ps → t.ten = s.ten)
      ∧ (.tbs ∉ ps → t.tbs = s.tbs) ∧ (.fab ∉ ps → t.fab = s.fab) ∧ (.ntu ∉ ps → t.ntu = s.ntu)
      ∧ (.pse ∉ ps → t.pse = s.pse) ∧ (.arb ∉ ps → t.arb = s.arb) ∧ (.lcp ∉ ps → t.lcp = s.lcp)
      ∧ (.dio ∉ ps → t.dio = s.dio) ∧ (.scn ∉ ps → t.scn = s.scn) ∧ (.hlk ∉ ps → t.hlk = s.hlk)
      ∧ (.fbc ∉ ps → t.fbc = s.fbc) ∧ (.rtc ∉ ps → t.rtc = s.rtc) ∧ (.lpe ∉ ps → t.lpe = s.lpe)
      ∧ (.emu ∉ ps → t.emu = s.emu) ∧ (.sto ∉ ps → t.sto = s.sto) := by
  constructor
  · rintro ⟨hp, hc, h⟩
    exact ⟨hp, hc, h .late, h .coreWait, h .free, h .out, h .regs, h .image, h .latch, h .loLatch, h .loPend, h .errDetail,
      h .claims, h .points, h .notes, h .opt, h .hif, h .lat, h .sup, h .key, h .ten, h .tbs, h .fab, h .ntu, h .pse, h .arb,
      h .lcp, h .dio, h .scn, h .hlk, h .fbc, h .rtc, h .lpe, h .emu, h .sto⟩
  · rintro ⟨hp, hc, hLate, hWait, hFree, hOut, hRegs, hImage, hLatch, hLo,
      hPend, hErr, hClaims, hPoints, hNotes, hOpt, hHif, hLat, hSup, hKey, hTen, hTbs, hFab, hNtu, hPse, hArb, hLcp,
      hDio, hScn, hHlk, hFbc, hRtc, hLpe, hEmu, hSto⟩
    refine ⟨hp, hc, fun p => ?_⟩
    cases p
    exacts [hLate, hWait, hFree, hOut, hRegs, hImage, hLatch, hLo, hPend, hErr, hClaims, hPoints, hNotes, hOpt, hHif,
      hLat, hSup, hKey, hTen, hTbs, hFab, hNtu, hPse, hArb, hLcp, hDio, hScn, hHlk, hFbc, hRtc, hLpe, hEmu, hSto]

/-- A command of the module's logic whose meaning leaves KEY, queue and clock alone answers what the meaning makes. -/
theorem State.powered_next {s t : State} {f : State → State} {ps : List Part} (hup : s.Up) (hf : f s = t)
    (h : OnlyChanges ps s t) (hk : Part.key ∉ ps) : s.powered f = .next t := by
  rw [s.powered_run f hup, hf, h.guarded_eq hk]

/-- A command that leaves the state as it is. -/
theorem State.powered_same {s : State} {f : State → State} (hf : f s = s) : s.powered f = .next s := by
  by_cases h : s.sup.inReset = true
  · exact s.powered_held f h
  · rw [s.powered_run f (by simpa using h), hf]
    exact congrArg _ ((OnlyChanges.refl [] s).guarded_eq (by simp))

/-- The same of a command that acts in reset too. -/
theorem State.always_next {s t : State} {f : State → State} {ps : List Part} (hf : f s = t)
    (h : OnlyChanges ps s t) (hk : Part.key ∉ ps) : s.always f = .next t := by
  rw [State.always, hf, h.guarded_eq hk]

theorem OnlyChanges.mono {ps qs : List Part} {s t : State} (h : OnlyChanges ps s t) (hq : ps ⊆ qs) : OnlyChanges qs s t := by
  obtain ⟨hp, hc, ha⟩ := h
  exact ⟨hp, hc, fun p hp => ha p fun hm => hp (hq hm)⟩

theorem OnlyRegs.refl (l : List Nat) (s : State) : OnlyRegs l s s := fun _ _ => rfl

theorem OnlyRegs.trans {l : List Nat} {s t u : State} (h1 : OnlyRegs l s t) (h2 : OnlyRegs l t u) : OnlyRegs l s u :=
  fun off h => (h2 off h).trans (h1 off h)

theorem OnlyRegs.of_regs_eq {l : List Nat} {s t : State} (h : t.regs = s.regs) : OnlyRegs l s t :=
  fun off _ => State.reg_congr s t h off

theorem OnlyRegs.mono {l m : List Nat} {s t : State} (h : OnlyRegs l s t) (hm : l ⊆ m) : OnlyRegs m s t :=
  fun off hoff => h off fun hl => hoff (hm hl)

theorem State.setReg_onlyRegs (s : State) (off : Nat) (v : Word) : OnlyRegs [off] s (s.setReg off v) :=
  fun _ h => s.setReg_reg_other off _ _ (Ne.symm (List.ne_of_not_mem_cons h))

theorem State.raiseIrq_onlyRegs (s : State) (b bit : Nat) : OnlyRegs (irqRegs b) s (s.raiseIrq b bit) := by
  intro off hoff
  obtain ⟨h0, h1, h2⟩ : off ≠ Reg.IRQ_STAT b ∧ off ≠ Reg.MSIX_PBA 0 ∧ off ≠ Reg.MSIX_PBA 1 := by
    simpa only [irqRegs, List.mem_cons, List.not_mem_nil, or_false, not_or] using hoff
  exact s.raiseIrq_reg_other b bit off h0.symm h1.symm h2.symm

theorem State.irqEdge_onlyRegs (s s0 : State) (b : Nat) : OnlyRegs [Reg.MSIX_PBA 0, Reg.MSIX_PBA 1] s (s.irqEdge s0 b) := by
  intro off hoff
  obtain ⟨h1, h2⟩ : off ≠ Reg.MSIX_PBA 0 ∧ off ≠ Reg.MSIX_PBA 1 := by
    simpa only [List.mem_cons, List.not_mem_nil, or_false, not_or] using hoff
  exact s.irqEdge_reg_other s0 b off h1.symm h2.symm

/-! ### Frames of the basic operations -/

theorem State.setReg_onlyChanges (s : State) (off : Nat) (v : Word) : OnlyChanges [.regs] s (s.setReg off v) := by
  simp [onlyChanges_iff]

theorem State.setFld_onlyChanges (s : State) (off lo w v : Nat) : OnlyChanges [.regs] s (s.setFld off lo w v) := by
  simp [onlyChanges_iff]

theorem State.setFlag_onlyChanges (s : State) (off i : Nat) (b : Bool) : OnlyChanges [.regs] s (s.setFlag off i b) := by
  simp [onlyChanges_iff]

theorem State.setNum_onlyChanges (s : State) (off v : Nat) : OnlyChanges [.regs] s (s.setNum off v) := by
  simp [onlyChanges_iff]

theorem State.satInc_onlyChanges (s : State) (off lo w n : Nat) : OnlyChanges [.regs] s (s.satInc off lo w n) := by
  simp [onlyChanges_iff]

theorem State.wrapInc_onlyChanges (s : State) (off n : Nat) : OnlyChanges [.regs] s (s.wrapInc off n) := by
  simp [onlyChanges_iff]

theorem State.setNum64_onlyChanges (s : State) (lo v : Nat) : OnlyChanges [.regs] s (s.setNum64 lo v) := by
  simp [onlyChanges_iff]

theorem State.emit_onlyChanges (s : State) (o : Output) : OnlyChanges [.out] s (s.emit o) := by simp [onlyChanges_iff]

theorem State.irqEdge_onlyChanges (s s0 : State) (b : Nat) : OnlyChanges [.regs, .out] s (s.irqEdge s0 b) := by
  simp [onlyChanges_iff]

theorem State.raiseIrq_onlyChanges (s : State) (b bit : Nat) : OnlyChanges [.regs, .out] s (s.raiseIrq b bit) := by
  simp [onlyChanges_iff]

theorem State.reportErr_onlyChanges (s : State) (b code : Nat) (d : Word) :
    OnlyChanges [.regs, .out, .errDetail] s (s.reportErr b code d) := by
  simp [onlyChanges_iff]

theorem State.fld_congr {s t : State} {off : Nat} (h : t.reg off = s.reg off) (lo w : Nat) : t.fld off lo w = s.fld off lo w := by
  simp only [State.fld, h]

theorem State.num_congr {s t : State} {off : Nat} (h : t.reg off = s.reg off) : t.num off = s.num off := by
  simp only [State.num, h]

/-! ### The registers of a chain of updates -/

section
variable {l : List Nat} {s t : State}

theorem OnlyRegs.setReg (h : OnlyRegs l s t) {off : Nat} {v : Word} (hm : off ∈ l := by simp) :
    OnlyRegs l s (t.setReg off v) :=
  h.trans ((t.setReg_onlyRegs off _).mono (List.cons_subset.2 ⟨hm, List.nil_subset _⟩))

theorem OnlyRegs.setFld (h : OnlyRegs l s t) {off lo w v : Nat} (hm : off ∈ l := by simp) :
    OnlyRegs l s (t.setFld off lo w v) :=
  h.trans ((t.setReg_onlyRegs off _).mono (List.cons_subset.2 ⟨hm, List.nil_subset _⟩))

theorem OnlyRegs.setFlag (h : OnlyRegs l s t) {off i : Nat} {b : Bool} (hm : off ∈ l := by simp) :
    OnlyRegs l s (t.setFlag off i b) :=
  h.trans ((t.setReg_onlyRegs off _).mono (List.cons_subset.2 ⟨hm, List.nil_subset _⟩))

theorem OnlyRegs.setNum (h : OnlyRegs l s t) {off v : Nat} (hm : off ∈ l := by simp) :
    OnlyRegs l s (t.setNum off v) :=
  h.trans ((t.setReg_onlyRegs off _).mono (List.cons_subset.2 ⟨hm, List.nil_subset _⟩))

theorem OnlyRegs.satInc (h : OnlyRegs l s t) {off lo w n : Nat} (hm : off ∈ l := by simp) :
    OnlyRegs l s (t.satInc off lo w n) :=
  h.trans ((t.setReg_onlyRegs off _).mono (List.cons_subset.2 ⟨hm, List.nil_subset _⟩))

theorem OnlyRegs.wrapInc (h : OnlyRegs l s t) {off n : Nat} (hm : off ∈ l := by simp) :
    OnlyRegs l s (t.wrapInc off n) :=
  h.trans ((t.setReg_onlyRegs off _).mono (List.cons_subset.2 ⟨hm, List.nil_subset _⟩))

theorem OnlyRegs.raiseIrq (h : OnlyRegs l s t) {b bit : Nat} (hm : irqRegs b ⊆ l := by simp [irqRegs]) :
    OnlyRegs l s (t.raiseIrq b bit) :=
  h.trans ((t.raiseIrq_onlyRegs b bit).mono hm)

theorem OnlyRegs.irqEdge (h : OnlyRegs l s t) {s0 : State} {b : Nat}
    (hm : [Reg.MSIX_PBA 0, Reg.MSIX_PBA 1] ⊆ l := by simp [irqRegs]) : OnlyRegs l s (t.irqEdge s0 b) :=
  h.trans ((t.irqEdge_onlyRegs s0 b).mono hm)

theorem OnlyRegs.emit (h : OnlyRegs l s t) {o : Output} : OnlyRegs l s (t.emit o) := h

theorem OnlyRegs.with {u : State} (h : OnlyRegs l s t) (hu : u.regs = t.regs) : OnlyRegs l s u :=
  h.trans (OnlyRegs.of_regs_eq hu)

end

end Sys2Proof.Machine

/-! PROOFS. The management SPI and the fences (R49 to R53, R90, R91). -/

namespace Sys2Proof.Machine

-- One declaration after the other: the stacks of parallel elaboration would count against the memory limit of the check.
set_option Elab.async false

/-! ### The beginning of a transaction -/

theorem State.withSpiErr_view (s : State) (b : Bool) (off : Nat) :
    ({ s with hif := { s.hif with spiErr := b } } : State).view off = s.view off := rfl
theorem State.withSpiErr_masked (s : State) (b : Bool) (off : Nat) :
    ({ s with hif := { s.hif with spiErr := b } } : State).masked off = s.masked off := rfl

theorem State.abandonSpi_eq (s : State) : ∃ o w, s.abandonSpi = { s with out := o, hif := { s.hif with waiting := w } } := by
  unfold State.abandonSpi
  split
  · exact ⟨_, _, rfl⟩
  · exact ⟨s.out, s.hif.waiting, rfl⟩

/-- A transaction's beginning changes what waits, the bytes driven and ERR alone (R50, R51). -/
theorem State.startSpi_eq (s : State) :
    ∃ o w, s.startSpi = { s with out := o, hif := { s.hif with waiting := w, spiErr := false } } := by
  obtain ⟨o, w, h⟩ := s.abandonSpi_eq
  exact ⟨o, w, by rw [State.startSpi, h]⟩

theorem State.startSpi_of_nothing_waits (s : State) (h : s.hif.waiting = []) :
    s.startSpi = { s with hif := { s.hif with spiErr := false } } := by
  simp [State.startSpi, State.abandonSpi, h]

theorem State.startSpi_onlyChanges (s : State) : OnlyChanges [.out, .hif] s s.startSpi := by
  obtain ⟨o, w, h⟩ := s.startSpi_eq
  simp [h, onlyChanges_iff]

theorem State.Passes.startSpi {s : State} {rq : Requester} {off : Nat} (h : s.Passes rq off) : s.startSpi.Passes rq off := by
  obtain ⟨o, w, e⟩ := s.startSpi_eq
  rw [e]
  exact h

/-! ### Events forced by a write -/

theorem State.setIrqs_reg_same (s : State) (b : Nat) (v : Word) :
    (s.setIrqs b v).reg (Reg.IRQ_STAT b) = (s.reg (Reg.IRQ_STAT b) ||| (v &&& irqMask b)) := by
  unfold State.setIrqs
  rw [State.irqEdge_reg_other _ _ _ _ (ne_of_window_ne (by rw [irqStat_mod]; decide))
    (ne_of_window_ne (by rw [irqStat_mod]; decide)), State.setReg_reg_same]

theorem State.setIrqs_onlyChanges (s : State) (b : Nat) (v : Word) : OnlyChanges [.regs, .out] s (s.setIrqs b v) :=
  ((s.setReg_onlyChanges _ _).mono (by simp)).trans (State.irqEdge_onlyChanges _ _ _)

theorem State.setIrqs_onlyRegs (s : State) (b : Nat) (v : Word) : OnlyRegs (irqRegs b) s (s.setIrqs b v) :=
  ((s.setReg_onlyRegs _ _).mono (by simp [irqRegs])).trans ((State.irqEdge_onlyRegs _ _ _).mono (by simp [irqRegs]))

theorem State.takeWrite_irqForce_sup (s : State) (v : Word) (h : s.Passes .spi (Reg.IRQ_FORCE Blk.SUP)) :
    s.takeWrite .spi (Reg.IRQ_FORCE Blk.SUP) v = s.setIrqs Blk.SUP v := by
  obtain ⟨r, hr⟩ : ∃ r, regRow? (Reg.IRQ_FORCE Blk.SUP) = some r := Option.isSome_iff_exists.1 (by decide)
  rw [s.takeWrite_of_passes _ _ v r h hr (by decide)]
  rfl

/-! ### A read of an RC register -/

/-- A read of a plain RC register returns what it shows and clears it (R34). -/
theorem State.readWord_of_plainRc (s : State) (rq : Requester) (off count : Nat) (h : plainRc off = true)
    (hm : s.masked off = false) (hu : s.Unlatched off) : s.readWord rq off count = (s.view off, s.setReg off 0) := by
  obtain ⟨hlo, hlatch, hlock⟩ := hu
  simp only [plainRc, Bool.and_eq_true, bne_iff_ne, ne_eq, Bool.not_eq_true', Option.isNone_iff_eq_none] at h
  obtain ⟨⟨⟨⟨⟨⟨⟨⟨⟨hrc, h20⟩, hhi⟩, hgroup⟩, hrx⟩, hcal⟩, hfence⟩, hhwm⟩, hrtc⟩, hxs⟩ := h
  obtain ⟨r, hr, hacc⟩ : ∃ r, regRow? off = some r ∧ r.acc = .rc := by
    split at hrc
    · next r hr => exact ⟨r, hr, by simpa using hrc⟩
    · cases hrc
  have hlink : off ≠ Reg.HIF_LINK_STAT := by
    rintro rfl
    rw [show regRow? Reg.HIF_LINK_STAT = some ((regRow? Reg.HIF_LINK_STAT).get (by decide)) by decide] at hr
    cases hr
    revert hacc
    decide
  have hnolock : (s.setReg off 0).readUnlock off = s.setReg off 0 :=
    State.forN_keeps (P := (· = s.setReg off 0)) _ 4 _ rfl fun a c ha => by
      subst ha
      rw [show ((s.setReg off 0).canCh c).lock = none from hlock c]
  simp [State.readWord, State.readMapped, hr, hfence, hcal, h20, hlo, hlatch, hlink, State.readLock, hrx, State.readLive, hm,
    hhi, State.latchEntry, hgroup, State.clearRead, hhwm, hrtc, hacc, State.endXs, hxs]
  exact hnolock

/-! ### Fences -/

theorem State.writesOpen_of_nil (s : State) (rq : Requester) (h : s.hif.opens = []) : s.writesOpen rq = false := by
  simp [State.writesOpen, h]

/-- A fence that nothing holds reaches HIF (R90). -/
theorem State.takeWrite_fence (s : State) (rq : Requester) (h : s.Passes rq Reg.HIF_FENCE)
    (hl : rq = .spi → s.flag Reg.HIF_SPI_CTRL 0 = false) : s.takeWrite rq Reg.HIF_FENCE 0 = s.writeFence rq none := by
  obtain ⟨⟨hpending, hlate⟩, hfenced, hsrst, -⟩ := h
  have hrank : s.writeRank rq Reg.HIF_FENCE 0 = none := by
    simp [State.writeRank, State.lateWrites, State.together, hpending, hlate]
  have hsrst' : s.inSrst Blk.HIF = false := hsrst
  have hopen : ¬(rq = .spi ∧ s.flag Reg.HIF_SPI_CTRL 0 = true) := fun ⟨hrq, hf⟩ => by simp [hl hrq] at hf
  rw [State.takeWrite, hrank]
  simp [State.takeNow, hfenced, hsrst', hopen]

/-- The first `n` registers of a family take one value. -/
def State.setAll (s : State) (g : Nat → Nat) (n : Nat) (v : Word) : State := s.forN n fun a k => a.setReg (g k) v

theorem State.setAll_reg (s : State) (g : Nat → Nat) (n : Nat) (v : Word) (hg : ∀ i j, i ≠ j → g i ≠ g j) (k : Nat) (h : k < n) :
    (s.setAll g n v).reg (g k) = v := by
  obtain ⟨a, -, ha⟩ := s.forN_view_of_one (·.reg (g k)) n k (fun a k => a.setReg (g k) v) h
    fun a i hi => a.setReg_reg_other (g i) (g k) v (hg i k hi)
  exact ha.trans (State.setReg_reg_same _ _ _)

theorem State.setAll_onlyRegs (s : State) (g : Nat → Nat) (n : Nat) (v : Word) :
    OnlyRegs ((List.range n).map g) s (s.setAll g n v) := by
  intro off hoff
  refine State.forN_view_of_keeps (·.reg off) s n _ fun a i hi => a.setReg_reg_other _ _ _ fun e => hoff ?_
  exact List.mem_map.2 ⟨i, List.mem_range.2 hi, e⟩

theorem State.setAll_onlyChanges (s : State) (g : Nat → Nat) (n : Nat) (v : Word) : OnlyChanges [.regs] s (s.setAll g n v) :=
  State.forN_keeps s n _ (OnlyChanges.refl _ s) fun a i ha => ha.trans (by simp [onlyChanges_iff])

theorem State.setAll_hif (s : State) (g : Nat → Nat) (n : Nat) (v : Word) : (s.setAll g n v).hif = s.hif :=
  State.forN_view_of_keeps (·.hif) s n _ fun _ _ _ => rfl

/-- Where no write is open a fence passes no block by. -/
theorem State.forN_openIn (s : State) (g : Nat → Nat) (n : Nat) (v : Word) (h : s.hif.opens = []) :
    s.forN n (fun a k => if a.openIn (k + 1) then a else a.setReg (g k) v) = s.setAll g n v := by
  induction n with
  | zero => rfl
  | succ n ih =>
    have hopen : (s.setAll g n v).openIn (n + 1) = false := by simp [State.openIn, State.setAll_hif, h]
    rw [State.setAll, State.forN_succ, State.forN_succ, ih, hopen, if_neg Bool.false_ne_true]
    rfl

/-- Where FENCE_SEQ of the blocks stand. -/
def fenceSeqOf (k : Nat) : Nat := Reg.FENCE_SEQ (k + 1)

theorem fenceSeqOf_inj (i j : Nat) (h : i ≠ j) : fenceSeqOf i ≠ fenceSeqOf j := by
  simp only [fenceSeqOf, Reg.FENCE_SEQ]; omega

/-- A PCIe fence takes the next number, and every block shows it. -/
def State.pcieFenced (s : State) : State :=
  State.setAll { s with hif := { s.hif with fencePcie := s.hif.fencePcie + 1 } } fenceSeqOf 19 (s.hif.fencePcie + 1)

theorem State.pcieFenced_hif (s : State) :
    s.pcieFenced.hif = { s.hif with fencePcie := s.hif.fencePcie + 1 } := by
  rw [State.pcieFenced, State.setAll_hif]

theorem State.pcieFenced_reg (s : State) (k : Nat) (h : k < 19) : s.pcieFenced.reg (fenceSeqOf k) = s.hif.fencePcie + 1 := by
  rw [State.pcieFenced, State.setAll_reg _ _ _ _ fenceSeqOf_inj k h]

theorem State.pcieFenced_onlyRegs (s : State) : OnlyRegs ((List.range 19).map fenceSeqOf) s s.pcieFenced := by
  intro off h
  rw [State.pcieFenced]
  exact (State.setAll_onlyRegs _ _ _ _ off h).trans (State.reg_congr _ _ rfl off)

theorem State.pcieFenced_onlyChanges (s : State) : OnlyChanges [.regs, .hif] s s.pcieFenced := by
  refine OnlyChanges.trans (t := { s with hif := { s.hif with fencePcie := s.hif.fencePcie + 1 } }) (by simp [onlyChanges_iff]) ?_
  exact (State.setAll_onlyChanges _ _ _ _).mono (by simp)

/-- With no write open every block shows the fence at once (R90, R91). -/
theorem State.writeFence_pcie (s : State) (h : s.hif.opens = []) : s.writeFence .pcie none = s.pcieFenced := by
  have hfence : s.fence .pcie = s.pcieFenced :=
    State.forN_openIn { s with hif := { s.hif with fencePcie := s.hif.fencePcie + 1 } } fenceSeqOf 19 _ h
  have hopen : s.pcieFenced.writesOpen .pcie = false := State.writesOpen_of_nil _ _ (by rw [s.pcieFenced_hif]; exact h)
  simp only [State.writeFence, hfence, hopen, Bool.false_eq_true, if_false]

theorem State.readWord_fence (s : State) (rq : Requester) (count : Nat) :
    s.readWord rq Reg.HIF_FENCE count = (s.fenceSeq rq, s) := by
  obtain ⟨r, hr⟩ : ∃ r, regRow? Reg.HIF_FENCE = some r := Option.isSome_iff_exists.1 (by decide)
  have hlink : Reg.HIF_FENCE ≠ Reg.HIF_LINK_STAT := by decide
  simp only [State.readWord, State.readMapped, hr, if_true, hlink, and_false, if_false]

theorem State.readAnswered_fence (s : State) (rq : Requester) :
    s.readAnswered rq Reg.HIF_FENCE = s.emit (.readData rq [s.fenceSeq rq]) := by
  have hcal : calField Cal.first 0 Reg.HIF_FENCE = none := by decide
  simp [State.readAnswered, State.readWord_fence, hcal, State.answerRead]

theorem exec_hifFence_pcie (s : State) (hup : s.Up) (h : s.Passes .pcie Reg.HIF_FENCE) (ho : s.hif.opens = []) :
    exec (.hifFence .pcie) s = .next s.pcieFenced := by
  rw [exec_hifFence, execHifFence]
  exact State.powered_next hup ((s.takeWrite_fence _ h (by simp)).trans (s.writeFence_pcie ho)) s.pcieFenced_onlyChanges (by simp)

/-! ### The statement -/

theorem exec_spiRead_of_plainRc (s : State) (off count : Nat) (cut : Bool) (hup : s.Up) (h : plainRc off = true) (h4 : off % 4 = 0)
    (hm : s.masked off = false) (hu : s.Unlatched off) (ha : s.Answers .spi off) (hw : s.hif.waiting = []) :
    exec (.spiRead off ⟨1, cut⟩ count) s = .next ({ (s.setReg off 0).nextFree with
      hif := { s.hif with spiErr := cut } }.emit (.spiBytes (List.replicate (Config.spiReady s.free).val 0 ++ 1
        :: beBytes 4 (s.view off).toNat))) := by
  obtain ⟨hlate, hblock⟩ := ha
  have hoff : off / 4 * 4 = off := by omega
  have hblock' : ({ s with hif := { s.hif with spiErr := false } } : State).readBlocked .spi off 1 s.hif.nextSeq = false := hblock
  rw [exec_spiRead, execSpiRead]
  refine State.powered_next (ps := [.regs, .out, .hif, .free]) hup ?_ (by simp [onlyChanges_iff]) (by simp)
  have hread := State.readWord_of_plainRc { s with hif := { s.hif with spiErr := false } } .spi off count h hm hu
  rw [s.withSpiErr_view] at hread
  simp only [State.behind, hlate, Bool.false_eq_true, if_false, hoff, s.startSpi_of_nothing_waits hw, hblock', State.spiAnswer,
    State.readWords, hread, List.map_cons, List.map_nil, wordBytes, List.flatten_cons, List.flatten_nil, List.append_nil]
  cases cut <;> rfl

/-- Settles O7: a transaction begins by `startSpi`, a fence is its number shown, a read of it an answer or a wait. -/
theorem spiAndFences : Obligations.SpiAndFences := by
  unfold Obligations.SpiAndFences
  refine ⟨fun s hup => ⟨?status, ?ident, ?start, ?write, ?writeCut, ?force, ?read, ?lock, ?spiLock, ?codes⟩,
    fun s hup => ⟨?fence, ?spiFence, ?fenceRead, ?fenceWait, ?blocked⟩⟩
  case status =>
    rw [exec_spiStatus, execSpiStatus]
    exact State.powered_next hup rfl (s.startSpi_onlyChanges.trans ((State.emit_onlyChanges _ _).mono (by simp))) (by simp)
  case ident =>
    rw [exec_spiIdent, execSpiIdent]
    exact State.powered_next hup rfl (s.startSpi_onlyChanges.trans ((State.emit_onlyChanges _ _).mono (by simp))) (by simp)
  case start =>
    obtain ⟨o, w, h⟩ := s.startSpi_eq
    rw [h]
    exact ⟨rfl, rfl⟩
  case write =>
    intro off v h4
    obtain ⟨o, w, h⟩ := s.startSpi_eq
    have hup' : s.startSpi.Up := by rw [h]; exact hup
    rw [exec_regWrite_one _ _ _ _ hup', exec_spiWrite, execSpiWrite, State.powered_run s _ hup]
    simp only [List.zipIdx_cons, List.zipIdx_nil, List.foldl_cons, List.foldl_nil, Nat.mul_zero, Nat.add_zero,
      Nat.div_mul_cancel (Nat.dvd_of_mod_eq_zero h4), Bool.false_eq_true, if_false]
    generalize State.takeWrite _ _ _ _ = t
    rw [h]
    rfl
  case writeCut =>
    intro off v
    exact ⟨_, by rw [exec_spiWrite, execSpiWrite, State.powered_run s _ hup], rfl⟩
  case force =>
    intro v hpass
    have hrun : exec (.spiWrite (Reg.IRQ_FORCE Blk.SUP) [v] false) s = .next (s.startSpi.setIrqs Blk.SUP v) := by
      rw [exec_spiWrite, execSpiWrite]
      refine State.powered_next (ps := [.regs, .out, .hif]) hup ?_ ?_ (by simp)
      · exact State.takeWrite_irqForce_sup _ v hpass.startSpi
      · exact (s.startSpi_onlyChanges.mono (by simp)).trans ((State.setIrqs_onlyChanges _ _ _).mono (by simp))
    obtain ⟨o, w, h⟩ := s.startSpi_eq
    have hreg : ∀ off, s.startSpi.reg off = s.reg off := State.reg_congr _ _ (by rw [h])
    refine ⟨_, hrun, ?_, ?_, ?_⟩
    · rw [State.setIrqs_reg_same, hreg]
    · exact (s.startSpi_onlyChanges.mono (by simp)).trans ((State.setIrqs_onlyChanges _ _ _).mono (by simp))
    · exact (OnlyRegs.of_regs_eq (by rw [h])).trans (State.setIrqs_onlyRegs _ _ _)
  case read =>
    intro off count cut hrc h4 hm hu ha hw
    refine ⟨_, exec_spiRead_of_plainRc s off count cut hup hrc h4 hm hu ha hw, rfl, rfl, ?_, ?_, ?_⟩
    · simp [onlyChanges_iff]
    · exact s.setReg_onlyRegs off 0
    · exact congrArg BitVec.toNat (s.setReg_reg_same off 0)
  case lock =>
    intro v hpass
    rw [exec_spiLock, execSpiLock]
    refine State.powered_next (ps := [.regs]) hup ?_ (by simp [onlyChanges_iff]) (by simp)
    obtain ⟨r, hr⟩ : ∃ r, regRow? Reg.HIF_SPI_CTRL = some r := Option.isSome_iff_exists.1 (by decide)
    rw [s.takeWrite_of_passes _ _ v r hpass hr (by decide)]
    rfl
  case spiLock =>
    intro v hpass
    rw [exec_spiLock, execSpiLock]
    refine State.powered_same ?_
    obtain ⟨r, hr⟩ : ∃ r, regRow? Reg.HIF_SPI_CTRL = some r := Option.isSome_iff_exists.1 (by decide)
    rw [s.takeWrite_of_passes _ _ v r hpass hr (by decide)]
    rfl
  case codes => exact fun addr data words count cut => ⟨rfl, rfl, rfl, rfl⟩
  case fence =>
    intro hpass hopens
    exact ⟨_, exec_hifFence_pcie s hup hpass hopens, congrArg Hif.fencePcie s.pcieFenced_hif, fun k hk => s.pcieFenced_reg k hk,
      s.pcieFenced_onlyChanges, s.pcieFenced_onlyRegs⟩
  case spiFence =>
    intro hpass hlock hopens
    rw [exec_hifFence, execHifFence]
    refine State.powered_next (ps := [.hif]) hup ((s.takeWrite_fence _ hpass fun _ => hlock).trans ?_)
      (by simp [onlyChanges_iff]) (by simp)
    simp [State.writeFence, State.fence, State.writesOpen, hopens]
  case fenceRead =>
    intro rq ha
    refine ⟨s.emit (.readData rq [s.fenceSeq rq]), ?_, s.emit_onlyChanges _, rfl⟩
    rw [exec_hifFenceRead, execHifFenceRead]
    exact State.powered_next hup ((s.readBehind_of_answers rq _ ha).trans (s.readAnswered_fence rq)) (s.emit_onlyChanges _)
      (by simp)
  case fenceWait =>
    intro rq hlate hblock
    rw [exec_hifFenceRead, execHifFenceRead]
    refine State.powered_next (ps := [.hif]) hup ?_ (by simp [onlyChanges_iff]) (by simp)
    simp [State.readBehind, State.behind, hlate, State.hostRead, hblock]
  case blocked =>
    intro rq e he hrq hseq
    have hmem : e ∈ s.hif.opens.filter (fun e => e.rq == rq && decide (e.seq < s.hif.nextSeq)) := by simp [he, hrq, hseq]
    simp only [State.readBlocked, Bool.or_eq_true]
    refine .inl (List.any_eq_true.2 ⟨e.off, List.mem_append_right _ (List.mem_map_of_mem hmem), ?_⟩)
    simp

end Sys2Proof.Machine

/-! PROOFS. The PCIe link, the configuration header, rings and queues (R29, R48, R55, R56, R61, R63, R64). -/

namespace Sys2Proof.Machine

-- One declaration after the other: the stacks of parallel elaboration would count against the memory limit of the check.
set_option Elab.async false

/-! ### The link -/

theorem State.raiseIrq_fld_other (s : State) (b bit off lo w : Nat) (h0 : Reg.IRQ_STAT b ≠ off) (h1 : Reg.MSIX_PBA 0 ≠ off)
    (h2 : Reg.MSIX_PBA 1 ≠ off) : (s.raiseIrq b bit).fld off lo w = s.fld off lo w := by
  simp only [State.fld, s.raiseIrq_reg_other b bit off h0 h1 h2]

/-- HIF_LINK_STAT with the link up at a speed and a width, and the event of the change (R63). -/
def State.showLink (s : State) (speed width : Nat) : State :=
  (((({ s with hif := { s.hif with linkUp := true } } : State).setFld Reg.HIF_LINK_STAT 0 4 speed).setFld Reg.HIF_LINK_STAT 4 4
    width).setFlag Reg.HIF_LINK_STAT 8 true).raiseIrq Blk.HIF 3

/-- A field is its lower part and the rest. -/
theorem bitsOf_add (x lo a b : Nat) : bitsOf x lo (a + b) = bitsOf x lo a + bitsOf x (lo + a) b * 2 ^ a := by
  unfold bitsOf
  rw [Nat.pow_add, Nat.mod_mul, Nat.pow_add, Nat.div_div_eq_div_mul, Nat.mul_comm (2 ^ a)]

theorem State.fld_add (s : State) (off lo a b : Nat) : s.fld off lo (a + b) = s.fld off lo a + s.fld off (lo + a) b * 2 ^ a :=
  bitsOf_add _ lo a b

theorem State.showLink_fld (s : State) (speed width : Nat) (hs : speed ≤ 3) (hw : width ≤ 2) :
    (s.showLink speed width).fld Reg.HIF_LINK_STAT 0 9 = speed + width * 16 + 256 := by
  have hflag : ∀ a : State, (a.setFlag Reg.HIF_LINK_STAT 8 true).fld Reg.HIF_LINK_STAT 8 1 = 1 :=
    fun a => a.setFld_fld_same _ _ _ _ (by decide)
  rw [State.showLink, State.raiseIrq_fld_other _ _ _ _ _ _ (by decide) (by decide) (by decide),
    show 9 = 4 + (4 + 1) from rfl, State.fld_add, State.fld_add, hflag, State.setFlag,
    State.setFld_fld_other _ _ 8 1 _ 0 4 (by decide) (by decide), State.setFld_fld_other _ _ 8 1 _ (0 + 4) 4 (by decide)
      (by decide), State.setFld_fld_other _ _ 4 4 _ 0 4 (by decide) (by decide), State.setFld_fld_same _ _ 0 4 _ (by decide),
    State.setFld_fld_same _ _ 4 4 _ (by decide)]
  omega

theorem State.showLink_onlyRegs (s : State) (speed width : Nat) :
    OnlyRegs (Reg.HIF_LINK_STAT :: irqRegs Blk.HIF) s (s.showLink speed width) := by
  unfold State.showLink
  exact .raiseIrq (.setFlag (.setFld (.setFld (.of_regs_eq rfl))))

theorem exec_pcieLinkUp_trained (s : State) (speed width : Nat) (hup : s.Up) (h1 : 1 ≤ speed) (h3 : speed ≤ 3) (hw : 1 ≤ width)
    (hw2 : width ≤ 2) : exec (.pcieLinkUp speed width) s = .next (s.showLink speed width) := by
  rw [exec_pcieLinkUp, execPcieLinkUp]
  refine State.powered_next (ps := [.regs, .out, .hif]) hup ?_ (by simp [State.showLink, onlyChanges_iff]) (by simp)
  rw [if_neg (by omega)]
  rfl

/-! ### A PCIe reset -/

/-- A ring and its queue are disabled, and what the ring has not fetched is abandoned (R48). -/
def State.disableRing (s : State) (n : Nat) : State :=
  let a1 := (s.setFlag (Reg.HIF_SQn_CTRL n) 0 false).setFlag (Reg.HIF_CQn_CTRL n) 0 false
  a1.setFld (Reg.HIF_SQn_HEAD n) 8 8 (a1.fld (Reg.HIF_SQn_HEAD n) 0 8)

/-- What a PCIe reset leaves of ring `n`: its enable bit, its queue and its head. -/
def State.ringShut (s : State) (n : Nat) : Bool :=
  !s.flag (Reg.HIF_SQn_CTRL n) 0 && !s.cqEn n && s.fld (Reg.HIF_SQn_HEAD n) 0 8 == s.fld (Reg.HIF_SQn_HEAD n) 8 8

theorem State.disableRing_ringShut (s : State) (n : Nat) : (s.disableRing n).ringShut n = true := by
  have h1 : Reg.HIF_SQn_HEAD n ≠ Reg.HIF_SQn_CTRL n := by simp
  have h2 : Reg.HIF_SQn_HEAD n ≠ Reg.HIF_CQn_CTRL n := by simp only [Reg.HIF_SQn_HEAD, Reg.HIF_CQn_CTRL]; omega
  have h3 : Reg.HIF_CQn_CTRL n ≠ Reg.HIF_SQn_CTRL n := by simp only [Reg.HIF_SQn_CTRL, Reg.HIF_CQn_CTRL]; omega
  have hfld : ∀ (a : State) (v : Nat), v < 256 → (a.setFld (Reg.HIF_SQn_HEAD n) 8 8 v).fld (Reg.HIF_SQn_HEAD n) 8 8 = v :=
    fun a v hv => (a.setFld_fld_same _ _ _ _ (by decide)).trans (Nat.mod_eq_of_lt hv)
  have hsq : ∀ (a : State) (v : Nat), (a.setFld (Reg.HIF_SQn_HEAD n) 8 8 v).flag (Reg.HIF_SQn_CTRL n) 0
      = a.flag (Reg.HIF_SQn_CTRL n) 0 := fun a v => State.flag_congr _ _ _ _ (a.setFld_reg_other _ _ _ _ _ h1)
  have hcq : ∀ (a : State) (v : Nat), (a.setFld (Reg.HIF_SQn_HEAD n) 8 8 v).flag (Reg.HIF_CQn_CTRL n) 0
      = a.flag (Reg.HIF_CQn_CTRL n) 0 := fun a v => State.flag_congr _ _ _ _ (a.setFld_reg_other _ _ _ _ _ h2)
  have hhead : ∀ a : State, (a.setFld (Reg.HIF_SQn_HEAD n) 8 8 (a.fld (Reg.HIF_SQn_HEAD n) 0 8)).fld (Reg.HIF_SQn_HEAD n) 8 8
      = a.fld (Reg.HIF_SQn_HEAD n) 0 8 := fun a => hfld a _ (bitsOf_lt _ 0 8)
  simp only [State.ringShut, State.disableRing, State.cqEn, hsq, hcq, hhead, State.setFld_fld_other _ _ _ _ _ _ _ (show 8 + 8 ≤ 32 by decide) (.inr (show 0 + 8 ≤ 8 by decide)),
    State.setFlag_flag_same _ _ _ _ (show 0 < 32 by decide), State.setFlag_flag_reg _ _ _ _ _ _ h3]
  simp

theorem State.ringShut_congr {s t : State} {n : Nat} (h1 : t.reg (Reg.HIF_SQn_CTRL n) = s.reg (Reg.HIF_SQn_CTRL n))
    (h2 : t.reg (Reg.HIF_CQn_CTRL n) = s.reg (Reg.HIF_CQn_CTRL n)) (h3 : t.reg (Reg.HIF_SQn_HEAD n) = s.reg (Reg.HIF_SQn_HEAD n)) :
    t.ringShut n = s.ringShut n := by
  simp only [State.ringShut, State.cqEn, State.flag, State.fld, h1, h2, h3]

theorem State.disableRing_onlyRegs (s : State) (n : Nat) :
    OnlyRegs [Reg.HIF_SQn_CTRL n, Reg.HIF_CQn_CTRL n, Reg.HIF_SQn_HEAD n] s (s.disableRing n) :=
  (((s.setReg_onlyRegs _ _).mono (by simp)).trans ((State.setReg_onlyRegs _ _ _).mono (by simp))).trans
    ((State.setReg_onlyRegs _ _ _).mono (by simp))

theorem State.disableRing_ringShut_other (s : State) {m n : Nat} (hm : m < 8) (hn : n < 8) (h : m ≠ n) :
    (s.disableRing m).ringShut n = s.ringShut n := by
  have hout : ∀ off ∈ [Reg.HIF_SQn_CTRL n, Reg.HIF_CQn_CTRL n, Reg.HIF_SQn_HEAD n],
      off ∉ [Reg.HIF_SQn_CTRL m, Reg.HIF_CQn_CTRL m, Reg.HIF_SQn_HEAD m] := by
    intro off hoff
    simp only [Reg.HIF_SQn_CTRL, Reg.HIF_CQn_CTRL, Reg.HIF_SQn_HEAD, List.mem_cons, List.not_mem_nil, or_false] at hoff ⊢
    omega
  exact State.ringShut_congr (s.disableRing_onlyRegs m _ (hout _ (by simp))) (s.disableRing_onlyRegs m _ (hout _ (by simp)))
    (s.disableRing_onlyRegs m _ (hout _ (by simp)))

theorem State.disableRings_eq (s : State) : s.disableRings = s.forN 8 State.disableRing := rfl

theorem State.forN_disableRing_ringShut (s : State) (k n : Nat) (hk : k ≤ 8) (hn : n < k) :
    (s.forN k State.disableRing).ringShut n = true := by
  induction k with
  | zero => omega
  | succ k ih =>
    rw [State.forN_succ]
    by_cases h : k = n
    · subst h; exact State.disableRing_ringShut _ _
    · rw [State.disableRing_ringShut_other _ (by omega) (by omega) h]
      exact ih (by omega) (by omega)

theorem State.disableRings_onlyChanges (s : State) : OnlyChanges [.regs] s s.disableRings :=
  State.forN_keeps s 8 State.disableRing (OnlyChanges.refl _ s) fun a n ha =>
    ha.trans (by simp [State.disableRing, onlyChanges_iff])

/-- The module after a PCIe reset (R48). -/
def State.afterPcieReset (s : State) : State :=
  let s1 := s.disableRings.loseTlps
  ((({ s1 with hif := { s1.hif with linkUp := false, cfg := PcieCfg.reset } } : State).setFld Reg.HIF_LINK_STAT 0 9 0).raiseIrq
    Blk.HIF 3)

theorem State.afterPcieReset_onlyChanges (s : State) : OnlyChanges [.regs, .out, .hif, .opt] s s.afterPcieReset := by
  refine (s.disableRings_onlyChanges.mono (by simp)).trans ?_
  simp [State.afterPcieReset, State.loseTlps, onlyChanges_iff]

theorem exec_pcieReset_up (s : State) (hup : s.Up) : exec .pcieReset s = .next s.afterPcieReset := by
  rw [exec_pcieReset, execPcieReset]
  exact State.powered_next hup rfl s.afterPcieReset_onlyChanges (by simp)

theorem State.afterPcieReset_onlyRegs (s : State) :
    OnlyRegs (Reg.HIF_LINK_STAT :: irqRegs Blk.HIF) s.disableRings s.afterPcieReset := by
  have h1 : OnlyRegs (Reg.HIF_LINK_STAT :: irqRegs Blk.HIF) s.disableRings
      { s.disableRings.loseTlps with hif := { s.disableRings.loseTlps.hif with linkUp := false, cfg := PcieCfg.reset } } :=
    OnlyRegs.of_regs_eq rfl
  rw [State.afterPcieReset]
  exact (h1.trans ((State.setReg_onlyRegs _ _ _).mono (by simp))).trans ((State.raiseIrq_onlyRegs _ _ _).mono (by simp))

theorem State.afterPcieReset_ringShut (s : State) (n : Nat) (h : n < 8) : s.afterPcieReset.ringShut n = true := by
  have hreg := s.afterPcieReset_onlyRegs
  have hsq : Reg.HIF_SQn_CTRL n ∉ (Reg.HIF_LINK_STAT :: irqRegs Blk.HIF) := by
    simp only [irqRegs, Reg.HIF_SQn_CTRL, Reg.HIF_LINK_STAT, Reg.IRQ_STAT, Reg.MSIX_PBA, Blk.HIF, List.mem_cons, List.not_mem_nil, or_false]; omega
  have hcq : Reg.HIF_CQn_CTRL n ∉ (Reg.HIF_LINK_STAT :: irqRegs Blk.HIF) := by
    simp only [irqRegs, Reg.HIF_CQn_CTRL, Reg.HIF_LINK_STAT, Reg.IRQ_STAT, Reg.MSIX_PBA, Blk.HIF, List.mem_cons, List.not_mem_nil, or_false]; omega
  have hhead : Reg.HIF_SQn_HEAD n ∉ (Reg.HIF_LINK_STAT :: irqRegs Blk.HIF) := by
    simp only [irqRegs, Reg.HIF_SQn_HEAD, Reg.HIF_LINK_STAT, Reg.IRQ_STAT, Reg.MSIX_PBA, Blk.HIF, List.mem_cons, List.not_mem_nil, or_false]; omega
  rw [State.ringShut_congr (hreg _ hsq) (hreg _ hcq) (hreg _ hhead), s.disableRings_eq]
  exact s.forN_disableRing_ringShut 8 n (by decide) h

theorem State.afterPcieReset_fld (s : State) : s.afterPcieReset.fld Reg.HIF_LINK_STAT 0 9 = 0 := by
  rw [State.afterPcieReset, State.raiseIrq_fld_other _ _ _ _ _ _ (by decide) (by decide) (by decide)]
  exact State.setFld_fld_same _ _ _ _ _ (by decide)

/-! ### BAR0 -/

theorem and_upper_bits (v : Word) : v &&& 0xFE000000#32 = (v >>> 25) <<< 25 := by
  ext i hi
  have hmask : ∀ k : Fin 32, (0xFE000000#32).getLsbD k = decide (25 ≤ k.val) := by decide
  have h : (0xFE000000#32)[i] = decide (25 ≤ i) := hmask ⟨i, hi⟩
  rw [BitVec.getElem_and, h, BitVec.getElem_shiftLeft]
  by_cases h25 : 25 ≤ i
  · simp [h25, Nat.not_lt.2 h25, BitVec.getLsbD_eq_getElem hi]
  · simp [h25, Nat.lt_of_not_le h25]

/-- Of BAR0 the upper seven bits are writable, the others show its type (R29). -/
theorem writeBar_bar0 (c : PcieCfg) (v : Word) : (c.writeBar 0x10 v).bar0.toNat = v.toNat / 2 ^ 25 * 2 ^ 25 + 4 := by
  have hv := v.isLt
  have hor := Nat.shiftLeft_add_eq_or_of_lt (show 4 < 2 ^ 25 by decide) (v.toNat / 2 ^ 25)
  rw [PcieCfg.writeBar, if_pos rfl]
  show ((v &&& 0xFE000000#32) ||| 4#32).toNat = _
  rw [and_upper_bits, BitVec.toNat_or, BitVec.toNat_shiftLeft, BitVec.toNat_ushiftRight, Nat.shiftRight_eq_div_pow,
    Nat.mod_eq_of_lt (by rw [Nat.shiftLeft_eq]; omega)]
  exact hor.symm.trans (by rw [Nat.shiftLeft_eq])

/-! ### Writes of rings and queues -/

theorem State.Passes.hif {s : State} {off off' : Nat} (h : s.Passes .pcie off) (he : off / 0x40000 = off' / 0x40000) :
    s.Passes .pcie off' := by
  obtain ⟨halone, hfenced, hsrst, -⟩ := h
  exact ⟨halone, hfenced, he ▸ hsrst, .inl rfl⟩

/-- Where the registers of a ring and its queue stand in the maps that a write goes through. -/
theorem ring_maps (n : Nat) (hn : n < 8) (s : State) (v : Word) : ∀ r : RegRow,
    s.writeReg .pcie r (Reg.HIF_SQn_CTRL n) v = s.writeSqCtrl n v ∧ s.writeReg .pcie r (Reg.HIF_SQn_DB n) v = s.writeDoorbell n v
      ∧ s.writeReg .pcie r (Reg.HIF_CQn_CTRL n) v = s.writeCqCtrl n v
      ∧ s.writeReg .pcie r (Reg.HIF_CQn_HEAD n) v = s.writeCqHead n v := by
  intro r
  have cases8 : n = 0 ∨ n = 1 ∨ n = 2 ∨ n = 3 ∨ n = 4 ∨ n = 5 ∨ n = 6 ∨ n = 7 := by omega
  rcases cases8 with rfl | rfl | rfl | rfl | rfl | rfl | rfl | rfl <;> exact ⟨rfl, rfl, rfl, rfl⟩

theorem ring_rows (n : Nat) (hn : n < 8) : (regRow? (Reg.HIF_SQn_CTRL n)).isSome ∧ (regRow? (Reg.HIF_SQn_DB n)).isSome
    ∧ (regRow? (Reg.HIF_CQn_CTRL n)).isSome ∧ (regRow? (Reg.HIF_CQn_HEAD n)).isSome := by
  have table : ∀ n : Fin 8, (regRow? (Reg.HIF_SQn_CTRL n)).isSome ∧ (regRow? (Reg.HIF_SQn_DB n)).isSome
    ∧ (regRow? (Reg.HIF_CQn_CTRL n)).isSome ∧ (regRow? (Reg.HIF_CQn_HEAD n)).isSome := by decide
  exact table ⟨n, hn⟩

theorem State.takeWrite_hif (s : State) (off : Nat) (v : Word) (h : s.Passes .pcie Reg.HIF_MBOX_GO) (hb : off / 0x40000 = Blk.HIF)
    (hrow : (regRow? off).isSome) (hne : off ≠ Reg.HIF_FENCE) : ∃ r, s.takeWrite .pcie off v = s.writeReg .pcie r off v := by
  obtain ⟨r, hr⟩ := Option.isSome_iff_exists.1 hrow
  exact ⟨r, s.takeWrite_of_passes .pcie off v r (h.hif (by rw [hb]; rfl)) hr hne⟩

section
variable {s : State} {n : Nat} (hn : n < 8) (h : s.Passes .pcie Reg.HIF_MBOX_GO) (v : Word)
include hn h

theorem State.takeWrite_sqCtrl : s.takeWrite .pcie (Reg.HIF_SQn_CTRL n) v = s.writeSqCtrl n v := by
  obtain ⟨r, hr⟩ := s.takeWrite_hif _ v h (by simp only [Reg.HIF_SQn_CTRL, Blk.HIF]; omega) (ring_rows n hn).1 (by simp only [Reg.HIF_SQn_CTRL, Reg.HIF_FENCE]; omega)
  exact hr.trans (ring_maps n hn s v r).1

theorem State.takeWrite_doorbell : s.takeWrite .pcie (Reg.HIF_SQn_DB n) v = s.writeDoorbell n v := by
  obtain ⟨r, hr⟩ := s.takeWrite_hif _ v h (by simp only [Reg.HIF_SQn_DB, Blk.HIF]; omega) (ring_rows n hn).2.1 (by simp only [Reg.HIF_SQn_DB, Reg.HIF_FENCE]; omega)
  exact hr.trans (ring_maps n hn s v r).2.1

theorem State.takeWrite_cqCtrl : s.takeWrite .pcie (Reg.HIF_CQn_CTRL n) v = s.writeCqCtrl n v := by
  obtain ⟨r, hr⟩ := s.takeWrite_hif _ v h (by simp only [Reg.HIF_CQn_CTRL, Blk.HIF]; omega) (ring_rows n hn).2.2.1 (by simp only [Reg.HIF_CQn_CTRL, Reg.HIF_FENCE]; omega)
  exact hr.trans (ring_maps n hn s v r).2.2.1

theorem State.takeWrite_cqHead : s.takeWrite .pcie (Reg.HIF_CQn_HEAD n) v = s.writeCqHead n v := by
  obtain ⟨r, hr⟩ := s.takeWrite_hif _ v h (by simp only [Reg.HIF_CQn_HEAD, Blk.HIF]; omega) (ring_rows n hn).2.2.2 (by simp only [Reg.HIF_CQn_HEAD, Reg.HIF_FENCE]; omega)
  exact hr.trans (ring_maps n hn s v r).2.2.2

end

/-- Without a decided operation no completion is held (R61). -/
theorem State.writeHeld_of_none_decided (s : State) (q : Nat) (h : s.opt.decided = []) : s.writeHeld q = s := by
  refine State.forN_keeps (P := (· = s)) s 255 _ rfl fun a i ha => ?_
  subst ha
  unfold State.writeCompletion
  split
  · rfl
  · simp only [State.headOf, h, List.find?_nil]

section
variable {s : State} {n : Nat}

theorem exec_sqEnable_based (hup : s.Up) (hn : n < 8) (h : s.Passes .pcie Reg.HIF_MBOX_GO) (v : Word)
    (hbase : s.num (Reg.HIF_SQn_BASE_LO n) % 2 ^ 14 = 0) : exec (.sqEnable .pcie n v) s
      = .next ((s.setFld (Reg.HIF_SQn_CTRL n) 1 3 (bitsOf v.toNat 1 3)).setFld (Reg.HIF_SQn_CTRL n) 0 1 v.toNat) := by
  rw [exec_sqEnable, execSqEnable]
  refine State.powered_next (ps := [.regs]) hup ?_ (by simp [onlyChanges_iff]) (by simp)
  rw [if_pos hn, State.takeWrite_sqCtrl hn h, State.writeSqCtrl, if_neg fun hc => hc.2 hbase]

theorem exec_sqDoorbell_within (hup : s.Up) (hn : n < 8) (h : s.Passes .pcie Reg.HIF_MBOX_GO) (v : Word)
    (hroom : (v.toNat % 256 + 256 - s.fld (Reg.HIF_SQn_HEAD n) 8 8) % 256
      ≤ 255 - (s.fld (Reg.HIF_SQn_HEAD n) 8 8 + 256 - s.fld (Reg.HIF_SQn_HEAD n) 0 8) % 256) :
    exec (.sqDoorbell .pcie n v) s = .next (s.setFld (Reg.HIF_SQn_HEAD n) 8 8 (v.toNat % 256)) := by
  rw [exec_sqDoorbell, execSqDoorbell]
  refine State.powered_next (ps := [.regs]) hup ?_ (by simp [onlyChanges_iff]) (by simp)
  rw [if_pos hn, State.takeWrite_doorbell hn h, State.writeDoorbell, if_neg (Nat.not_lt.2 hroom)]

/-- CTRL and TAIL of an enabled queue: empty, PHASE 1 (R55). -/
def State.emptyQueue (s : State) (q : Nat) (v : Word) : State :=
  ((s.setNum (Reg.HIF_CQn_CTRL q) (v.toNat &&& 0x3FFFFF00 + 0)).setFlag (Reg.HIF_CQn_CTRL q) 0 true).setNum
    (Reg.HIF_CQn_TAIL q) 0x100

/-- An enabled queue, whose coalescing begins anew (R55, R62). -/
def State.startQueue (s : State) (q : Nat) (v : Word) : State :=
  let s2 := s.emptyQueue q v
  ({ s2 with hif := { s2.hif with sinceSignal := tset (fun _ => 0) s2.hif.sinceSignal q 0 } } : State).setFlag
    (Reg.HIF_CQn_STAT q) 0 false

theorem State.emptyQueue_onlyRegs (s : State) (q : Nat) (v : Word) :
    OnlyRegs [Reg.HIF_CQn_CTRL q, Reg.HIF_CQn_TAIL q, Reg.HIF_CQn_STAT q] s (s.emptyQueue q v) :=
  .setNum (.setFlag (.setNum (.refl _ s)))

theorem State.startQueue_reg_other (s : State) (q off : Nat) (v : Word) (h : Reg.HIF_CQn_STAT q ≠ off) :
    (s.startQueue q v).reg off = (s.emptyQueue q v).reg off :=
  (State.setFlag_reg_other _ _ _ _ _ h).trans (State.reg_congr _ _ rfl off)

theorem State.startQueue_onlyRegs (s : State) (q : Nat) (v : Word) :
    OnlyRegs [Reg.HIF_CQn_CTRL q, Reg.HIF_CQn_TAIL q, Reg.HIF_CQn_STAT q] s (s.startQueue q v) := by
  intro off hoff
  have hstat : Reg.HIF_CQn_STAT q ≠ off := fun e => hoff (by simp [← e])
  exact (s.startQueue_reg_other q off v hstat).trans (s.emptyQueue_onlyRegs q v off hoff)

theorem State.startQueue_reg (s : State) (q : Nat) (v : Word) : (s.startQueue q v).cqEn q = true
    ∧ (s.startQueue q v).num (Reg.HIF_CQn_TAIL q) = 0x100 ∧ (s.startQueue q v).flag (Reg.HIF_CQn_STAT q) 0 = false := by
  have h1 : Reg.HIF_CQn_STAT q ≠ Reg.HIF_CQn_CTRL q := by simp only [Reg.HIF_CQn_STAT, Reg.HIF_CQn_CTRL]; omega
  have h2 : Reg.HIF_CQn_TAIL q ≠ Reg.HIF_CQn_CTRL q := by simp only [Reg.HIF_CQn_TAIL, Reg.HIF_CQn_CTRL]; omega
  have h3 : Reg.HIF_CQn_STAT q ≠ Reg.HIF_CQn_TAIL q := by simp only [Reg.HIF_CQn_STAT, Reg.HIF_CQn_TAIL]; omega
  refine ⟨?_, ?_, State.setFlag_flag_same _ _ _ _ (by decide)⟩
  · refine (State.flag_congr _ _ _ _ ((s.startQueue_reg_other q _ v h1).trans (State.setNum_reg_other _ _ _ _ h2))).trans ?_
    exact State.setFlag_flag_same _ _ _ _ (by decide)
  · exact (congrArg BitVec.toNat (s.startQueue_reg_other q _ v h3)).trans (State.setNum_num_same _ _ _)

theorem State.startQueue_onlyChanges (s : State) (q : Nat) (v : Word) : OnlyChanges [.regs, .hif] s (s.startQueue q v) := by
  simp [State.startQueue, State.emptyQueue, onlyChanges_iff]

theorem exec_cqEnable_based (hup : s.Up) (hn : n < 8) (h : s.Passes .pcie Reg.HIF_MBOX_GO) (v : Word)
    (hbit : bitOf v.toNat 0 = true) (hoff : s.cqEn n = false) (hbase : s.num (Reg.HIF_CQn_BASE_LO n) % 2 ^ 12 = 0)
    (hnone : s.opt.decided = []) : exec (.cqEnable .pcie n v) s = .next (s.startQueue n v) := by
  have hodd : ¬ v.toNat % 2 = 0 := by simp [bitOf, bitsOf] at hbit; omega
  rw [exec_cqEnable, execCqEnable]
  refine State.powered_next (ps := [.regs, .hif]) hup ?_ (s.startQueue_onlyChanges n v) (by simp)
  rw [if_pos hn, State.takeWrite_cqCtrl hn h, State.writeCqCtrl]
  simp only [hoff, hodd, hbase, ne_eq, not_true_eq_false, if_false, Bool.false_eq_true]
  exact State.writeHeld_of_none_decided _ n hnone

theorem exec_cqHeadWrite_none_held (hup : s.Up) (hn : n < 8) (h : s.Passes .pcie Reg.HIF_MBOX_GO) (v : Word)
    (hnone : s.opt.decided = []) : ∃ t, exec (.cqHeadWrite .pcie n v) s = .next t ∧ (t = s.setNum (Reg.HIF_CQn_HEAD n) (v.toNat % 256)
      ∨ t = (s.setNum (Reg.HIF_CQn_HEAD n) (v.toNat % 256)).setFlag (Reg.HIF_CQn_STAT n) 0 false) := by
  have hrun : ∀ t : State, s.writeCqHead n v = t → OnlyChanges [.regs] s t → exec (.cqHeadWrite .pcie n v) s = .next t := by
    intro t ht honly
    rw [exec_cqHeadWrite, execCqHeadWrite]
    refine State.powered_next hup ?_ honly (by simp)
    rw [if_pos hn, State.takeWrite_cqHead hn h, ht]
  have hheld : ∀ (a : State) (b : Bool), a.opt.decided = [] → (if b = true then a.writeHeld n else a) = a := fun a b ha => by
    rw [State.writeHeld_of_none_decided a n ha, ite_self]
  by_cases hfull : (s.setNum (Reg.HIF_CQn_HEAD n) (v.toNat % 256)).cqFull n = true
  · refine ⟨_, hrun _ ?_ (s.setNum_onlyChanges _ _), .inl rfl⟩
    rw [State.writeCqHead]
    simp only [hfull, if_true]
    exact hheld _ _ hnone
  · refine ⟨_, hrun _ ?_ ((s.setNum_onlyChanges _ _).trans (State.setFlag_onlyChanges _ _ _ _)), .inr rfl⟩
    rw [State.writeCqHead]
    simp only [hfull, Bool.false_eq_true, if_false]
    exact hheld _ _ hnone

end

/-- Settles O8: each write of a ring or queue is a write of its registers, with no completion to release. -/
theorem linkRingsAndQueues : Obligations.LinkRingsAndQueues := by
  unfold Obligations.LinkRingsAndQueues
  refine ⟨fun s hup => ⟨?linkUp, ?reset, ?bar⟩, fun s n v hup hn hpass => ⟨?sq, ?doorbell, ?cq, ?head⟩⟩
  case linkUp =>
    intro speed width h1 h3 hw hw2
    exact ⟨_, exec_pcieLinkUp_trained s speed width hup h1 h3 hw hw2, by simp [State.showLink], s.showLink_fld _ _ h3 hw2,
      State.raiseIrq_flag_same _ _ _ (by decide), by simp [State.showLink, onlyChanges_iff], s.showLink_onlyRegs _ _⟩
  case reset =>
    refine ⟨_, exec_pcieReset_up s hup, by simp [State.afterPcieReset], by simp [State.afterPcieReset], s.afterPcieReset_fld,
      by simp [State.afterPcieReset, State.loseTlps], ?_, fun n hn => ?_, s.afterPcieReset_onlyChanges⟩
    · have hopt : s.disableRings.opt = s.opt := s.disableRings_onlyChanges.2.2 .opt (by simp)
      simp [State.afterPcieReset, State.loseTlps, hopt]
    · have hshut := s.afterPcieReset_ringShut n hn
      simp only [State.ringShut, Bool.and_eq_true, Bool.not_eq_true'] at hshut
      obtain ⟨⟨hsq, hcq⟩, hempty⟩ := hshut
      exact ⟨hsq, hcq, by rw [State.ringReady, hsq, Bool.false_and]⟩
  case bar =>
    exact fun c v => ⟨writeBar_bar0 c v, rfl, fun n h10 h14 => by rw [PcieCfg.writeBar, if_neg h10, if_neg h14]⟩
  case sq =>
    intro hbase
    refine ⟨_, exec_sqEnable_based hup hn hpass v hbase, ?_, ?_, by simp [onlyChanges_iff], ?_⟩
    · rw [State.flag, State.setFld_fld_same _ _ _ _ _ (by decide)]
      simp [bitOf, bitsOf]
    · rw [State.setFld_fld_other _ _ _ _ _ _ _ (by decide) (by decide), State.setFld_fld_same _ _ _ _ _ (by decide)]
      exact Nat.mod_eq_of_lt (bitsOf_lt _ 1 3)
    · exact (s.setReg_onlyRegs _ _).trans (State.setReg_onlyRegs _ _ _)
  case doorbell => exact fun hroom => exec_sqDoorbell_within hup hn hpass v hroom
  case cq =>
    intro hbit hoff hbase hnone
    obtain ⟨hen, htail, hstat⟩ := s.startQueue_reg n v
    exact ⟨_, exec_cqEnable_based hup hn hpass v hbit hoff hbase hnone, hen, htail, hstat, s.startQueue_onlyChanges n v,
      s.startQueue_onlyRegs n v⟩
  case head =>
    intro hnone
    have h1 : Reg.HIF_CQn_STAT n ≠ Reg.HIF_CQn_HEAD n := by simp only [Reg.HIF_CQn_STAT, Reg.HIF_CQn_HEAD]; omega
    have hnum : (s.setNum (Reg.HIF_CQn_HEAD n) (v.toNat % 256)).num (Reg.HIF_CQn_HEAD n) = v.toNat % 256 := by
      rw [State.setNum_num_same]; omega
    obtain ⟨t, hrun, rfl | rfl⟩ := exec_cqHeadWrite_none_held hup hn hpass v hnone
    · exact ⟨_, hrun, hnum, s.setNum_onlyChanges _ _, (s.setReg_onlyRegs _ _).mono (by simp)⟩
    · refine ⟨_, hrun, ?_, (s.setNum_onlyChanges _ _).trans (State.setFlag_onlyChanges _ _ _ _), ?_⟩
      · exact (congrArg BitVec.toNat (State.setFlag_reg_other _ _ _ _ _ h1)).trans hnum
      · exact ((s.setReg_onlyRegs _ _).mono (by simp)).trans ((State.setReg_onlyRegs _ _ _).mono (by simp))

end Sys2Proof.Machine

/-! PROOFS. Descriptors begin operations, and completions free their slots (R54, R57, R62, R70 to R75, R93). -/

namespace Sys2Proof.Machine

-- One declaration after the other: the stacks of parallel elaboration would count against the memory limit of the check.
set_option Elab.async false

/-! ### An operation begins -/

theorem State.noteOpen_onlyRegs (s : State) : OnlyRegs (Reg.OPT_HWM :: irqRegs Blk.OPT) s s.noteOpen := by
  have hirq : ∀ (a : State) (bit : Nat) (c : Prop) [Decidable c], OnlyRegs (Reg.OPT_HWM :: irqRegs Blk.OPT) s a →
      OnlyRegs (Reg.OPT_HWM :: irqRegs Blk.OPT) s (if c then a.raiseIrq Blk.OPT bit else a) := by
    intro a bit c _ h
    split
    · exact h.raiseIrq
    · exact h
  unfold State.noteOpen
  simp only
  refine hirq _ _ _ (hirq _ _ _ ?_)
  split
  · exact .setFld (.refl _ s)
  · exact .refl _ s

/-- The slot that an operation begins in, and every other as it was (R71). -/
theorem State.beginAt_slot (s : State) (t u : Nat) (x : Slot) : (s.beginAt t x).slot u = if t = u then
    { x with st := .active, gen := ((s.slot t).gen + 1) % 128, beginClk := s.clk, beginCh := s.chain, stampCh := s.chain,
             ord := s.opt.nextOrd } else s.slot u := by
  obtain ⟨r, o, h⟩ := s.beginAt_eq t x
  rw [h]
  exact s.recordSlot_slot t u { x with
    st := .active, gen := ((s.slot t).gen + 1) % 128, beginClk := s.clk, beginCh := s.chain, stampCh := s.chain,
    ord := s.opt.nextOrd }

theorem State.beginAt_lastTag (s : State) (t : Nat) (x : Slot) : (s.beginAt t x).opt.lastTag = t := by
  obtain ⟨r, o, h⟩ := s.beginAt_eq t x
  rw [h]

theorem State.beginAt_onlyChanges (s : State) (t : Nat) (x : Slot) : OnlyChanges [.regs, .out, .opt] s (s.beginAt t x) := by
  obtain ⟨r, o, h⟩ := s.beginAt_eq t x
  simp [h, onlyChanges_iff]

theorem State.beginAt_onlyRegs (s : State) (t : Nat) (x : Slot) :
    OnlyRegs (Reg.OPT_HWM :: irqRegs Blk.OPT) s (s.beginAt t x) := by
  unfold State.beginAt
  simp only
  exact (OnlyRegs.of_regs_eq (by simp)).trans (State.noteOpen_onlyRegs _)

/-- An operation of SUP that nothing refuses begins on its tag (R57, R60). -/
theorem State.acceptDesc_sup (s : State) (t : Nat) (d : BitVec 512) (o : Origin) (hblock : bitsOf d.toNat 8 8 = Blk.SUP)
    (hop : bitsOf d.toNat 0 8 = 0x20) (hctx : bitsOf d.toNat 64 16 = 0)
    (hcq : ∀ q, (descSlot d o).cq = some q → s.cqEn q = true) (hsrst : s.inSrst Blk.SUP = false) (hen : s.en Blk.SUP = true) :
    s.acceptDesc t d o = s.beginAt t (descSlot d o) := by
  have eblock : (descSlot d o).block = 1 := hblock
  have eop : (descSlot d o).opcode = 0x20 := hop
  have ectx : (descSlot d o).ctx = 0 := hctx
  have hsrst' : s.inSrst 1 = false := hsrst
  have hen' : s.en 1 = true := hen
  have hjudge : s.judge (descSlot d o) = .runs := by
    unfold State.judge
    refine (if_neg ?_).trans ?_
    · split
      · next q _ hq => simp [hcq q hq]
      · exact Bool.false_ne_true
    · simp [eblock, eop, ectx, opDefaultMs, hsrst', hen']
  have htoken : s.takeToken (descSlot d o).ctx = some s := by simp [State.takeToken, ectx]
  unfold State.acceptDesc
  simp only [hjudge, htoken]

/-! ### The history -/

/-- Four words of the history are written and its head moves: registers alone (R98). -/
theorem State.writeHistory_onlyChanges (s : State) (e : Nat) : OnlyChanges [.regs] s (s.writeHistory e) := by
  have hwords : OnlyChanges [.regs] s (s.forN 4 fun a w =>
      a.setNum (Reg.OPT_HIST (4 * s.fld Reg.OPT_HIST_HEAD 0 10 + w)) (e / 2 ^ (32 * w))) :=
    State.forN_keeps s 4 _ (OnlyChanges.refl _ s) fun a w ha => ha.trans (a.setNum_onlyChanges _ _)
  unfold State.writeHistory
  simp only
  split
  · exact (hwords.trans (State.setFld_onlyChanges _ _ _ _ _)).trans (State.setFld_onlyChanges _ _ _ _ _)
  · exact hwords.trans (State.setFld_onlyChanges _ _ _ _ _)

theorem State.writeHistory_head (s : State) (e : Nat) : (s.writeHistory e).fld Reg.OPT_HIST_HEAD 0 10
    = (s.fld Reg.OPT_HIST_HEAD 0 10 + 1) % 1024 := by
  unfold State.writeHistory
  simp only
  split
  · rw [State.setFld_fld_other _ _ _ _ _ _ _ (by decide) (by decide)]
    exact State.setFld_fld_same _ _ _ _ _ (by decide)
  · exact State.setFld_fld_same _ _ _ _ _ (by decide)

/-- A completion that the history does not hold is written there, and its slot is free (R75, R93). -/
theorem State.writeCompletion_history (s : State) (k : Nat) (hpf : s.sup.pfail = false) (hk : s.headOf 8 = some k)
    (hdone : s.opt.histDone.contains k = false) : ∃ e, s.writeCompletion 8 =
      (({ s.writeHistory e with opt := { s.opt with histDone := k :: s.opt.histDone } } : State).undecide k).freeSlot k := by
  have hopt : ∀ e, (s.writeHistory e).opt = s.opt := fun e => (s.writeHistory_onlyChanges e).2.2 .opt (by simp)
  refine ⟨slotEntry (s.slot k) k false, ?_⟩
  unfold State.writeCompletion
  rw [if_neg (by simp [hpf]), hk]
  simp only [State.historyOnce, hdone, hopt]
  rfl

theorem State.freeSlot_slot (s : State) (t u : Nat) :
    (s.freeSlot t).slot u = if t = u then { s.slot t with st := .free } else s.slot u := s.recordSlot_slot t u _

theorem State.freeSlot_onlyChanges (s : State) (t : Nat) : OnlyChanges [.opt] s (s.freeSlot t) := by simp [onlyChanges_iff]

/-! ### Coalescing -/

theorem State.signalQueue_onlyChanges (s : State) (q : Nat) : OnlyChanges [.regs, .out, .hif] s (s.signalQueue q) := by
  simp [State.signalQueue, onlyChanges_iff]

theorem State.signalQueue_sinceSignal (s : State) (q : Nat) : tget (fun _ => 0) (s.signalQueue q).hif.sinceSignal q = 0 := by
  simp only [State.signalQueue, tget_tset, if_true]

/-! ### The statement -/

theorem exec_descriptorFetch_sup (s : State) (k n : Nat) (desc : BitVec 512) (hup : s.Up) (htag : s.freeTag = some k)
    (hmay : s.mayAccept = true) (hring : s.nextRing = some n) (hblock : bitsOf desc.toNat 8 8 = Blk.SUP)
    (hop : bitsOf desc.toNat 0 8 = 0x20) (hctx : bitsOf desc.toNat 64 16 = 0) (hcq : s.cqEn (bitsOf desc.toNat 16 3) = true)
    (hsrst : s.inSrst Blk.SUP = false) (hen : s.en Blk.SUP = true) (hn : n < 8) :
    ∃ c, exec (.descriptorFetch desc) s = .next (({ (s.setFld (Reg.HIF_SQn_HEAD n) 0 8 (s.fld (Reg.HIF_SQn_HEAD n) 0 8 + 1)) with
      hif := { s.hif with turnRing := n, turnCount := c } } : State).beginAt k (descSlot desc (.ring n))) := by
  have hreg : ∀ off, Reg.HIF_SQn_HEAD n ≠ off →
      (s.setFld (Reg.HIF_SQn_HEAD n) 0 8 (s.fld (Reg.HIF_SQn_HEAD n) 0 8 + 1)).reg off = s.reg off :=
    fun off h => s.setFld_reg_other _ _ _ _ _ h
  have hflag : ∀ off i, Reg.HIF_SQn_HEAD n ≠ off →
      (s.setFld (Reg.HIF_SQn_HEAD n) 0 8 (s.fld (Reg.HIF_SQn_HEAD n) 0 8 + 1)).flag off i = s.flag off i :=
    fun off i h => State.flag_congr _ _ _ _ (hreg off h)
  have hcqs : Reg.HIF_SQn_HEAD n ≠ Reg.HIF_CQn_CTRL (bitsOf desc.toNat 16 3) := by
    have h3 := bitsOf_lt desc.toNat 16 3
    simp only [Reg.HIF_SQn_HEAD, Reg.HIF_CQn_CTRL]; omega
  have hctrl : Reg.HIF_SQn_HEAD n ≠ Reg.CTRL Blk.SUP := by simp only [Reg.HIF_SQn_HEAD, Reg.CTRL, Blk.SUP]; omega
  refine ⟨if n = s.hif.turnRing ∧ s.hif.turnCount < 8 then s.hif.turnCount + 1 else 1, ?_⟩
  rw [exec_descriptorFetch, execDescriptorFetch]
  refine State.powered_next (ps := [.regs, .out, .opt, .hif]) hup ?_ ?_ (by simp)
  · simp only [hring, htag, hmay, Bool.not_true, Bool.false_eq_true, if_false]
    refine State.acceptDesc_sup _ k desc (.ring n) hblock hop hctx (fun q hq => ?_) ?_ ?_
    · cases hq
      exact (hflag _ 0 hcqs).trans hcq
    · exact (hflag _ 1 hctrl).trans hsrst
    · exact (hflag _ 0 hctrl).trans hen
  · refine OnlyChanges.trans ?_ ((State.beginAt_onlyChanges _ _ _).mono (by simp))
    simp [onlyChanges_iff]

/-- Of the rings one of the eight has its turn (R57). -/
theorem State.nextRing_lt (s : State) (n : Nat) (h : s.nextRing = some n) : n < 8 := by
  unfold State.nextRing at h
  simp only at h
  split at h
  · next hc =>
    cases h
    simp only [Bool.and_eq_true, List.contains_iff_mem, List.mem_filter, List.mem_range] at hc
    exact hc.1.1.1
  · have hm := List.mem_of_find?_eq_some h
    obtain ⟨k, -, hk⟩ := List.mem_map.1 hm
    omega

/-- The mailbox with GO = 1. -/
def State.going (s : State) : State := s.setFlag Reg.HIF_MBOX_GO 0 true

theorem State.going_reg (s : State) (off : Nat) (h : Reg.HIF_MBOX_GO ≠ off) : s.going.reg off = s.reg off :=
  s.setFlag_reg_other _ _ _ _ h

theorem State.going_mboxDesc (s : State) : s.going.mboxDesc = s.mboxDesc := by
  have hw : ∀ w : Fin 16, s.going.num (Reg.HIF_MBOX_DESC w) = s.num (Reg.HIF_MBOX_DESC w) := fun w =>
    congrArg BitVec.toNat (s.going_reg _ (by simp only [Reg.HIF_MBOX_GO, Reg.HIF_MBOX_DESC]; omega))
  unfold State.mboxDesc
  have h := fun (l : List Nat) (hl : ∀ w ∈ l, w < 16) => List.foldl_ext (l := l)
    (fun a w => a + s.going.num (Reg.HIF_MBOX_DESC w) * 2 ^ (32 * w)) (fun a w => a + s.num (Reg.HIF_MBOX_DESC w) * 2 ^ (32 * w)) 0
    fun a w hm => by rw [hw ⟨w, hl w hm⟩]
  rw [h _ fun w => List.mem_range.1]

theorem State.going_mayAccept (s : State) : s.going.mayAccept = s.mayAccept := by
  have hcfg : s.going.fld Reg.OPT_CFG 0 10 = s.fld Reg.OPT_CFG 0 10 := State.setFld_fld_reg _ _ _ _ _ _ _ _ (by decide)
  unfold State.mayAccept State.hostLimit
  rw [hcfg]
  rfl

theorem State.takeWrite_mboxGo (s : State) (h : s.Passes .pcie Reg.HIF_MBOX_GO) (hgo : s.flag Reg.HIF_MBOX_GO 0 = false) :
    s.takeWrite .pcie Reg.HIF_MBOX_GO 1 = s.going.mboxSubmit := by
  obtain ⟨r, hr⟩ : ∃ r, regRow? Reg.HIF_MBOX_GO = some r := Option.isSome_iff_exists.1 (by decide)
  rw [s.takeWrite_of_passes _ _ _ r h hr (by decide)]
  show s.writeMboxGo 1 = _
  unfold State.writeMboxGo
  rw [if_neg (by simp [hgo]), if_neg (by decide)]
  rfl

/-- Settles O9: a descriptor that is not refused is one `beginAt`; a completion ends in `freeSlot`. -/
theorem descriptorsAndCompletions : Obligations.DescriptorsAndCompletions := by
  unfold Obligations.DescriptorsAndCompletions
  refine ⟨fun s k hup htag hmay => ⟨?fetch, ?go, ?goWaits⟩, fun s hup hpf => ⟨?write, ?acked, ?coal⟩⟩
  case fetch =>
    intro desc n hring hblock hop hctx hcq hsrst hen
    have hn := s.nextRing_lt n hring
    obtain ⟨c, hrun⟩ := exec_descriptorFetch_sup s k n desc hup htag hmay hring hblock hop hctx hcq hsrst hen hn
    generalize ha : ({ (s.setFld (Reg.HIF_SQn_HEAD n) 0 8 (s.fld (Reg.HIF_SQn_HEAD n) 0 8 + 1)) with
      hif := { s.hif with turnRing := n, turnCount := c } } : State) = a at hrun
    have haslot : ∀ u, a.slot u = s.slot u := fun u => State.slot_congr _ _ (by rw [← ha]; rfl) u
    have haonly : OnlyChanges [.regs, .out, .opt, .hif] s a := by rw [← ha]; simp [onlyChanges_iff]
    have hhead : a.fld (Reg.HIF_SQn_HEAD n) 0 8 = (s.fld (Reg.HIF_SQn_HEAD n) 0 8 + 1) % 256 := by
      rw [← ha]
      exact (State.fld_congr (State.reg_congr _ _ rfl _) _ _).trans (s.setFld_fld_same _ _ _ _ (by decide))
    have honly := haonly.trans ((a.beginAt_onlyChanges k (descSlot desc (.ring n))).mono (by simp))
    have hkeep : Reg.HIF_SQn_HEAD n ∉ Reg.OPT_HWM :: irqRegs Blk.OPT := by
      simp only [irqRegs, Reg.HIF_SQn_HEAD, Reg.OPT_HWM, Reg.IRQ_STAT, Reg.MSIX_PBA, Blk.OPT, List.mem_cons, List.not_mem_nil,
        or_false]
      omega
    refine ⟨_, hrun, ?_, ?_, ?_, ?_, ?_, a.beginAt_lastTag _ _, ?_, fun u hu => ?_, honly⟩
    · rw [State.beginAt_slot, if_pos rfl]
    · rw [State.beginAt_slot, if_pos rfl]; exact hblock
    · rw [State.beginAt_slot, if_pos rfl]; exact hop
    · rw [State.beginAt_slot, if_pos rfl, haslot]
    · rw [State.beginAt_slot, if_pos rfl]; rfl
    · rw [State.fld, a.beginAt_onlyRegs k _ _ hkeep]; exact hhead
    · rw [State.beginAt_slot, if_neg (Ne.symm hu), haslot]
  case go =>
    intro hpass hgo hblock hop hctx hsrst hen
    generalize ha : ({ s.going with hif := { s.going.hif with mboxWait := false, mboxOrd := some s.going.opt.nextOrd } } : State) = a
    have hareg : ∀ off, Reg.HIF_MBOX_GO ≠ off → a.reg off = s.reg off := fun off h =>
      (State.reg_congr _ _ (by rw [← ha]) off).trans (s.going_reg off h)
    have hctrl : a.reg (Reg.CTRL Blk.SUP) = s.reg (Reg.CTRL Blk.SUP) := hareg (Reg.CTRL Blk.SUP) (by decide)
    have haonly : OnlyChanges [.regs, .out, .opt, .hif] s a := by rw [← ha]; simp [State.going, onlyChanges_iff]
    have haslot : ∀ u, a.slot u = s.slot u := fun u => State.slot_congr _ _ (by rw [← ha]; rfl) u
    have hago : a.flag Reg.HIF_MBOX_GO 0 = true := by
      rw [← ha]
      exact (State.flag_congr _ _ _ _ (State.reg_congr _ _ rfl _)).trans (s.setFlag_flag_same Reg.HIF_MBOX_GO 0 true (by decide))
    have hsubmit : s.going.mboxSubmit = a.beginAt k (descSlot s.mboxDesc .mailbox) := by
      have htag' : s.going.freeTag = some k := htag
      unfold State.mboxSubmit
      simp only [htag', s.going_mayAccept, hmay, if_true, s.going_mboxDesc, ha]
      exact State.acceptDesc_sup a k _ .mailbox hblock hop hctx (fun q hq => nomatch hq)
        ((State.flag_congr _ _ _ _ hctrl).trans hsrst) ((State.flag_congr _ _ _ _ hctrl).trans hen)
    have honly : OnlyChanges [.regs, .out, .opt, .hif] s (a.beginAt k (descSlot s.mboxDesc .mailbox)) :=
      haonly.trans ((a.beginAt_onlyChanges _ _).mono (by simp))
    refine ⟨_, ?_, ?_, ?_, ?_, ?_, fun u hu => ?_, honly⟩
    · rw [exec_mboxGo, execMboxGo]
      exact State.powered_next hup ((s.takeWrite_mboxGo hpass hgo).trans hsubmit) honly (by simp)
    · rw [State.beginAt_slot, if_pos rfl]
    · rw [State.beginAt_slot, if_pos rfl]; exact hblock
    · rw [State.beginAt_slot, if_pos rfl]; rfl
    · exact (State.flag_congr _ _ _ _ (a.beginAt_onlyRegs k _ _ (by
        simp [irqRegs, Reg.HIF_MBOX_GO, Reg.IRQ_STAT, Reg.MSIX_PBA, Blk.OPT]))).trans hago
    · rw [State.beginAt_slot, if_neg (Ne.symm hu), haslot]
  case goWaits =>
    intro a haup hpass hgo hno
    have hsubmit : a.going.mboxSubmit = { a.going with hif := { a.going.hif with mboxWait := true } } := by
      unfold State.mboxSubmit
      split
      · rw [if_neg (by rw [a.going_mayAccept, hno]; exact Bool.false_ne_true)]
      · rfl
    refine ⟨{ a.going with hif := { a.going.hif with mboxWait := true } }, ?_,
      (State.flag_congr _ _ _ _ (State.reg_congr _ _ rfl _)).trans (a.setFlag_flag_same Reg.HIF_MBOX_GO 0 true (by decide)), rfl,
      ?_, ?_⟩
    · rw [exec_mboxGo, execMboxGo]
      exact State.powered_next (ps := [.regs, .hif]) haup ((a.takeWrite_mboxGo hpass hgo).trans hsubmit)
        (by simp [State.going, onlyChanges_iff]) (by simp)
    · simp [State.going, onlyChanges_iff]
    · exact a.setReg_onlyRegs _ _
  case write =>
    intro k hk hdone
    obtain ⟨e, he⟩ := s.writeCompletion_history k hpf hk hdone
    have hw := s.writeHistory_onlyChanges e
    generalize ha : ({ s.writeHistory e with opt := { s.opt with histDone := k :: s.opt.histDone } } : State) = a at he
    have haonly : OnlyChanges [.regs, .opt] s a := by
      rw [← ha]
      exact (hw.mono (by simp)).trans (by simp [onlyChanges_iff])
    have honly : OnlyChanges [.regs, .opt] s ((a.undecide k).freeSlot k) :=
      haonly.trans (by simp [State.undecide, onlyChanges_iff])
    have haslot : ∀ u, (a.undecide k).slot u = s.slot u := fun u => State.slot_congr _ _ (by rw [← ha]; rfl) u
    refine ⟨_, ?_, ?_, ?_, fun u hu => ?_, ?_, honly⟩
    · rw [exec_completionWrite, execCompletionWrite]
      exact State.powered_next hup he honly (by simp)
    · rw [State.freeSlot_slot, if_pos rfl]
    · show k ∉ a.opt.decided.filter (· != k)
      simp
    · rw [State.freeSlot_slot, if_neg (Ne.symm hu), haslot]
    · rw [← s.writeHistory_head e, ← ha]; rfl
  case acked =>
    intro k hfind hk
    have honly : OnlyChanges [.opt] s (({ s with opt := { s.opt with tlpWait := s.opt.tlpWait.erase k } } : State).freeSlot k) := by
      simp [onlyChanges_iff]
    refine ⟨_, ?_, ?_, rfl, fun u hu => ?_, honly⟩
    · rw [exec_completionAcked, execCompletionAcked]
      refine State.powered_next hup ?_ honly (by simp)
      simp only [hfind, hpf, Bool.false_eq_true, if_false, hk, if_true]
    · rw [State.freeSlot_slot, if_pos rfl]
    · rw [State.freeSlot_slot, if_neg (Ne.symm hu)]; rfl
  case coal =>
    intro q htime hsince
    refine ⟨_, ?_, s.signalQueue_sinceSignal q, s.signalQueue_onlyChanges q⟩
    rw [exec_cqCoalTimeout, execCqCoalTimeout]
    exact State.powered_next hup (if_neg (by simp [htime, hsince])) (s.signalQueue_onlyChanges q) (by simp)

end Sys2Proof.Machine

/-! PROOFS. Issuing an instruction: what it does, or its fault. -/

namespace Sys2Proof.Machine

-- One declaration after the other: the stacks of parallel elaboration would count against the memory limit of the check.
set_option Elab.async false

section
variable {s s' : State} {lane op e : Nat} {r : Run} {w : Word}

/-- The instruction at a lane's PC is issued on the run past it. -/
theorem State.issue_of_ok {f : State → Run → Word → Except Nat State} (h : s.AtInsn lane r op w)
    (hop : (opFmt op).isSome = true) (he : f s r.past w = .ok s') : s.issue op lane f = s' := by
  obtain ⟨hrun, hcode, hwop, hprof⟩ := h
  have hfmt : (opFmt op).isNone = false := Option.isNone_eq_false_iff.2 hop
  have hf : ¬ (opProfF op = true ∧ (!s.runF r) = true) := by
    rintro ⟨h1, h2⟩
    simp [hprof h1] at h2
  have hpast : f s { r with pc := r.pc + 1 } w = .ok s' := he
  simp only [State.issue, hrun, hcode, hwop, hfmt, Bool.false_eq_true, ne_eq, not_true_eq_false, if_false, if_neg hf, hpast]

/-- An instruction that faults ends its run with the fault. -/
theorem State.issue_of_error {f : State → Run → Word → Except Nat State} (h : s.AtInsn lane r op w)
    (hop : (opFmt op).isSome = true) (he : f s r.past w = .error e) : s.issue op lane f = s.runFault r e w := by
  obtain ⟨hrun, hcode, hwop, hprof⟩ := h
  have hfmt : (opFmt op).isNone = false := Option.isNone_eq_false_iff.2 hop
  have hf : ¬ (opProfF op = true ∧ (!s.runF r) = true) := by
    rintro ⟨h1, h2⟩
    simp [hprof h1] at h2
  have hpast : f s { r with pc := r.pc + 1 } w = .error e := he
  simp only [State.issue, hrun, hcode, hwop, hfmt, Bool.false_eq_true, ne_eq, not_true_eq_false, if_false, if_neg hf, hpast]

theorem State.issue_next {f : State → Run → Word → Except Nat State} (hup : s.Up) (h : s.AtInsn lane r op w)
    (he : f s r.past w = .ok s') (hop : (opFmt op).isSome = true := by decide) :
    s.powered (fun s => s.issue op lane f) = .next (s.guarded s') := by
  rw [s.powered_run _ hup, State.issue_of_ok h hop he]

theorem State.issue_faults {f : State → Run → Word → Except Nat State} (hup : s.Up) (h : s.AtInsn lane r op w)
    (he : f s r.past w = .error e) (hop : (opFmt op).isSome = true := by decide) :
    s.powered (fun s => s.issue op lane f) = .next (s.guarded (s.runFault r e w)) := by
  rw [s.powered_run _ hup, State.issue_of_error h hop he]

/-- An instruction whose answer puts its run alone. -/
theorem State.issue_puts {f : State → Run → Word → Except Nat State} {q : Run} (hup : s.Up) (h : s.AtInsn lane r op w)
    (he : f s r.past w = .ok (s.putRun q)) (hop : (opFmt op).isSome = true := by decide) :
    s.powered (fun s => s.issue op lane f) = .next (s.putRun q) :=
  State.issue_next hup h he hop

/-- An instruction whose answer changes its bank and its run. -/
theorem State.issue_stores {f : State → Run → Word → Except Nat State} {b : Bool} {k : Option Bank} {q : Run} (hup : s.Up)
    (h : s.AtInsn lane r op w) (he : f s r.past w = .ok ((s.setBank b k).putRun q)) (hop : (opFmt op).isSome = true := by decide) :
    s.powered (fun s => s.issue op lane f) = .next ((s.setBank b k).putRun q) :=
  State.issue_next hup h he hop

/-- An instruction that changes its run alone. -/
theorem State.issueRun_next {f : Bool → Run → Word → Run} (hup : s.Up) (h : s.AtInsn lane r op w)
    (hop : (opFmt op).isSome = true := by decide) :
    s.powered (fun s => s.issueRun op lane f) = .next (s.putRun (f (s.runF r) r.past w)) :=
  State.issue_next (f := fun s r w => .ok (s.putRun (f (s.runF r) r w))) hup h rfl hop

end

end Sys2Proof.Machine

/-! PROOFS. Logic strings, the condition stack and END. -/

namespace Sys2Proof.Machine

-- One declaration after the other: the stacks of parallel elaboration would count against the memory limit of the check.
set_option Elab.async false

section
variable {s s1 : State} {lane op e i : Nat} {r r1 : Run} {w : Word} {v p : Bool}

theorem State.issueBit_next {g : Bool → Bool → Bool} (hup : s.Up) (hl : s.loadBit r.past w = .ok (v, r1, s1))
    (h : s.AtInsn lane r op w) (hop : (opFmt op).isSome = true := by decide) :
    s.powered (fun s => s.issueBit op lane g)
      = .next (s.guarded (s1.putRun { r1 with fr := { r1.fr with cb := g r1.fr.cb v } })) :=
  State.issue_next hup h (by simp only [hl]; rfl) hop

theorem State.issueBit_faults {g : Bool → Bool → Bool} (hup : s.Up) (hl : s.loadBit r.past w = .error e)
    (h : s.AtInsn lane r op w) (hop : (opFmt op).isSome = true := by decide) :
    s.powered (fun s => s.issueBit op lane g) = .next (s.guarded (s.runFault r e w)) :=
  State.issue_faults hup h (by simp only [hl]) hop

theorem State.issueBitStore_next {act val : Bool → Bool} (hup : s.Up)
    (hl : s.storeBit r.past w (act r.fr.cb) (val r.fr.cb) = .ok (r1, s1))
    (h : s.AtInsn lane r op w) (hop : (opFmt op).isSome = true := by decide) :
    s.powered (fun s => s.issueBitStore op lane act val) = .next (s.guarded (s1.putRun r1)) :=
  State.issue_next hup h (congrArg keepRun hl) hop

theorem State.issueBitStore_faults {act val : Bool → Bool} (hup : s.Up)
    (hl : s.storeBit r.past w (act r.fr.cb) (val r.fr.cb) = .error e)
    (h : s.AtInsn lane r op w) (hop : (opFmt op).isSome = true := by decide) :
    s.powered (fun s => s.issueBitStore op lane act val) = .next (s.guarded (s.runFault r e w)) :=
  State.issue_faults hup h (congrArg keepRun hl) hop

/-- A quality that the task may read enters CB. -/
theorem State.issueGood_next {g : Bool → Bool → Bool} {part : Nat} (hup : s.Up) (hsp : wSpace w = Sp.P)
    (hp : r.past.pointOf w false = .ok (i, part)) (hmay : s.blockMay (s.runCtx r.past) i 0 = true)
    (h : s.AtInsn lane r op w) (hop : (opFmt op).isSome = true := by decide) :
    s.powered (fun s => s.issueGood op lane g)
      = .next (s.putRun { r.past with fr := { r.fr with cb := g r.fr.cb ((s.pointFor Blk.SCN i).quality == Q.GOOD) } }) := by
  refine State.issue_puts hup h ?_ hop
  simp only [hsp, ne_eq, not_true_eq_false, if_false, hp, State.readPart, hmay, if_true]
  rfl

/-- A pop takes the top entry above the base. -/
theorem State.issuePop_next {g : Bool → Bool → Bool} {rest : List Bool} (hup : s.Up) (hc : r.cond = p :: rest)
    (hb : r.base ≤ rest.length) (h : s.AtInsn lane r op w) (hop : (opFmt op).isSome = true := by decide) :
    s.powered (fun s => s.issuePop op lane g)
      = .next (s.putRun { r.past with cond := rest, fr := { r.fr with cb := g p r.fr.cb } }) := by
  have hpast : r.past.cond = p :: rest := hc
  have habove : ¬ (p :: rest).length ≤ r.past.base := by
    simpa [Run.past] using Nat.lt_succ_of_le hb
  refine State.issue_puts hup h ?_ hop
  simp only [hpast, if_neg habove]
  rfl

theorem State.issuePop_nest {g : Bool → Bool → Bool} (hup : s.Up) (hb : r.cond.length ≤ r.base)
    (h : s.AtInsn lane r op w) (hop : (opFmt op).isSome = true := by decide) :
    s.powered (fun s => s.issuePop op lane g) = .next (s.guarded (s.runFault r ScnFault.NEST w)) := by
  refine State.issue_faults hup h ?_ hop
  have hbase : r.past.cond.length ≤ r.past.base := hb
  cases hc : r.past.cond with
  | nil => rfl
  | cons p rest => rw [hc] at hbase; simp only [if_pos hbase]

end

/-! ### END -/

section
variable {s : State} {r : Run} {t : Nat}

/-- An output phase with nothing to write and no remote write open keeps the run's strict epochs alone. -/
theorem State.outputPhase_of_untouched (hr : r.touched = []) (hw : s.scn.remote = []) :
    s.outputPhase r = s.setTaskRt r.task { s.taskRt r.task with strict := r.strict } := by
  have hwait : s.waitingOf r.task = [] := by rw [State.waitingOf, hw]; rfl
  have hrun : s.runWrites r = [] := by rw [State.runWrites, hw]; rfl
  have hlate : (s.setTaskRt r.task { s.taskRt r.task with strict := r.strict }).waitingOf r.task = [] := hwait
  simp only [State.outputPhase, hr, List.foldl_nil, hwait, State.withdraw, hrun, List.filter_nil, State.releaseEpoch, hlate]

/-- An output phase moves no output of DIO when its watchdog does not watch SCN and no safe state stands. -/
theorem State.phaseKick_of_unwatched (hd : s.dio.safe = false) (hf : s.flag Reg.DIO_WDT 8 = false) : s.phaseKick = s := by
  simp [State.phaseKick, hd, hf]

/-- What a task's end of run asks of its runtime: no start held or queued, no overrun, no wish to be off. -/
def TaskRt.Quiet (x : TaskRt) : Prop := x.queue = [] ∧ x.held = none ∧ x.ovr = false ∧ x.offAfter = false

theorem State.taskRt_setTaskRt (s : State) (n m : Nat) (x : TaskRt) :
    (s.setTaskRt n x).taskRt m = if n = m then x else s.taskRt m := tget_tset _ _ _ _ _

theorem State.setTaskRt_onlyChanges (s : State) (n : Nat) (x : TaskRt) : OnlyChanges [.scn] s (s.setTaskRt n x) := by
  simp [onlyChanges_iff, State.setTaskRt]

/-- `a` has the lanes of `s`, its registers, and the queued and held starts of task `t`. -/
def SameStarts (t : Nat) (s a : State) : Prop :=
  a.scn.lanes = s.scn.lanes ∧ (a.taskRt t).held = (s.taskRt t).held ∧ (a.taskRt t).queue = (s.taskRt t).queue
    ∧ a.regs = s.regs ∧ OnlyChanges [.scn] s a

theorem SameStarts.setTaskRt {a : State} {n : Nat} {x : TaskRt} (h : SameStarts t s a) (hh : x.held = (a.taskRt n).held)
    (hq : x.queue = (a.taskRt n).queue) : SameStarts t s (a.setTaskRt n x) := by
  obtain ⟨hl, hheld, hqueue, hr, hc⟩ := h
  refine ⟨hl, ?_, ?_, hr, hc.trans (a.setTaskRt_onlyChanges n x)⟩
  · rw [State.taskRt_setTaskRt]
    split
    · next e => rw [hh, e, hheld]
    · exact hheld
  · rw [State.taskRt_setTaskRt]
    split
    · next e => rw [hq, e, hqueue]
    · exact hqueue

theorem State.clearRan_sameStarts (s : State) (t : Nat) : SameStarts t s s.clearRan := by
  unfold State.clearRan
  refine State.forN_keeps s 16 _ ⟨rfl, rfl, rfl, rfl, .refl _ _⟩ fun a n h => ?_
  split
  · exact h.setTaskRt rfl rfl
  · exact h

/-- The registers that the end of a run of task `t` may change once its execution time stands. -/
def endRegs (t : Nat) : List Nat := [Reg.SCN_TnMAX_EXEC t, Reg.SCN_TnSTAT t, Reg.SCN_CLEAN_CNT] ++ irqRegs Blk.SCN

/-- `a` follows `s` at the end of a run of task `t`: no start is held or queued, and the lanes stand. -/
def EndsFrom (t : Nat) (s a : State) : Prop :=
  a.scn.lanes = s.scn.lanes ∧ (a.taskRt t).held = (s.taskRt t).held ∧ (a.taskRt t).queue = (s.taskRt t).queue
    ∧ OnlyRegs (endRegs t) s a ∧ OnlyChanges [.regs, .out, .scn] s a

theorem EndsFrom.refl (t : Nat) (s : State) : EndsFrom t s s := ⟨rfl, rfl, rfl, .refl _ _, .refl _ _⟩

theorem EndsFrom.trans {t : Nat} {a b c : State} (h1 : EndsFrom t a b) (h2 : EndsFrom t b c) : EndsFrom t a c := by
  obtain ⟨hl1, hh1, hq1, hr1, hc1⟩ := h1
  obtain ⟨hl2, hh2, hq2, hr2, hc2⟩ := h2
  exact ⟨hl2.trans hl1, hh2.trans hh1, hq2.trans hq1, hr1.trans hr2, hc1.trans hc2⟩

theorem EndsFrom.of_regs {t : Nat} {s a : State} (hs : a.scn = s.scn) (hr : OnlyRegs (endRegs t) s a)
    (hc : OnlyChanges [.regs, .out] s a) : EndsFrom t s a :=
  ⟨by rw [hs], by simp only [State.taskRt, hs], by simp only [State.taskRt, hs], hr, hc.mono (by decide)⟩

theorem SameStarts.endsFrom {t : Nat} {s a : State} (h : SameStarts t s a) : EndsFrom t s a := by
  obtain ⟨hl, hh, hq, hr, hc⟩ := h
  exact ⟨hl, hh, hq, .of_regs_eq hr, hc.mono (by decide)⟩

theorem State.noteClean_endsFrom (s : State) (t : Nat) : EndsFrom t s (s.noteClean t) := by
  have hran : EndsFrom t s (s.setTaskRt t { s.taskRt t with ran := true }) :=
    (SameStarts.setTaskRt (a := s) (n := t) (x := { s.taskRt t with ran := true }) ⟨rfl, rfl, rfl, rfl, .refl _ _⟩ rfl rfl).endsFrom
  unfold State.noteClean
  dsimp only
  split
  · refine hran.trans (EndsFrom.trans ?_ (State.clearRan_sameStarts _ t).endsFrom)
    exact .of_regs rfl ((OnlyRegs.refl _ _).satInc (by simp [endRegs])) ((State.satInc_onlyChanges _ _ _ _ _).mono (by decide))
  · exact hran

/-- With no start held or queued the task waits. -/
theorem State.taskWait_of_none (hq : (s.taskRt t).queue = []) (hh : (s.taskRt t).held = none) :
    s.taskWait t = s.setTaskSt t TaskSt.WAITING := by
  have hq' : ((s.setTaskSt t TaskSt.WAITING).taskRt t).queue = [] := hq
  have hh' : ((s.setTaskSt t TaskSt.WAITING).taskRt t).held = none := hh
  simp only [State.taskWait, hq', State.releaseHeld, hh']

/-- The run's lane is free and its execution time stands, before the task's state is settled. -/
def State.timedEnd (s : State) (r : Run) : State :=
  (s.freeLane r).setNum (Reg.SCN_TnLAST_EXEC r.task) (Nat.min (s.chain - r.latch.ch) (2 ^ 32 - 1))

theorem State.endRun_endsFrom (hq : (s.taskRt r.task).queue = []) (hh : (s.taskRt r.task).held = none)
    (ho : (s.taskRt r.task).ovr = false) (ha : (s.taskRt r.task).offAfter = false) :
    ∃ a, EndsFrom r.task (s.timedEnd r) a ∧ s.endRun r = a.setTaskSt r.task TaskSt.WAITING := by
  unfold State.endRun
  lift_lets
  extract_lets t ex s1 s2 pct period ovr s3 s4 x periodic
  have h2 : EndsFrom t s1 s2 ∧ s2.scn = s1.scn := by
    unfold s2
    split
    · exact ⟨.of_regs rfl ((OnlyRegs.refl _ _).setNum (by simp [endRegs])) ((State.setNum_onlyChanges _ _ _).mono (by decide)), rfl⟩
    · exact ⟨.refl _ _, rfl⟩
  have h3 : EndsFrom t s2 s3 ∧ s3.scn = s2.scn :=
    ⟨.of_regs rfl ((OnlyRegs.refl _ _).setFlag (by simp [endRegs])) ((State.setFlag_onlyChanges _ _ _ _).mono (by decide)), rfl⟩
  have h4 : EndsFrom t s3 s4 ∧ s4.scn = s3.scn := by
    unfold s4
    split
    · exact ⟨.of_regs (by simp) ((OnlyRegs.refl _ _).raiseIrq (by simp [endRegs, irqRegs])) (State.raiseIrq_onlyChanges _ _ _), by simp⟩
    · exact ⟨.refl _ _, rfl⟩
  have hscn : s4.scn = s1.scn := h4.2.trans (h3.2.trans h2.2)
  have hx : x = s.taskRt t := by
    unfold x
    simp only [State.taskRt, hscn]
    rfl
  have hends : EndsFrom t s1 s4 := (h2.1.trans h3.1).trans h4.1
  have hlast : EndsFrom t s1 (if periodic then s4.noteClean t else s4) := by
    split
    · exact hends.trans (s4.noteClean_endsFrom t)
    · exact hends
  refine ⟨_, hlast, ?_⟩
  rw [hx, if_neg (by simp [t, ho]), if_neg (by simp [t, ha])]
  exact State.taskWait_of_none (hlast.2.2.1.trans hq) (hlast.2.1.trans hh)

/-- What the end of a run leaves: the lane is free, the task waits, and its execution time stands. -/
theorem State.endRun_spec {lane : Nat} (hl : r.lane = lane) (hlane : lane < 4) (ht : r.task < 16)
    (hq : (s.taskRt r.task).queue = []) (hh : (s.taskRt r.task).held = none)
    (ho : (s.taskRt r.task).ovr = false) (ha : (s.taskRt r.task).offAfter = false) :
    (s.endRun r).runOn lane = none ∧ (s.endRun r).taskSt r.task = TaskSt.WAITING
      ∧ (s.endRun r).num (Reg.SCN_TnLAST_EXEC r.task) = Nat.min (s.chain - r.latch.ch) (2 ^ 32 - 1)
      ∧ (s.endRun r).fld Reg.SCN_LANE_STAT (8 * lane) 8 = 0 ∧ OnlyChanges [.regs, .out, .scn] s (s.endRun r) := by
  obtain ⟨a, ⟨hlanes, -, -, hregs, hchg⟩, he⟩ := State.endRun_endsFrom hq hh ho ha
  have hkeep : ∀ off, off ∉ endRegs r.task → Reg.SCN_TnSTAT r.task ≠ off → (s.endRun r).reg off = (s.timedEnd r).reg off := by
    intro off h1 h2
    rw [he]
    exact (State.setFld_reg_other _ _ _ _ _ _ h2).trans (hregs off h1)
  have hfree : OnlyChanges [.regs, .out, .scn] s (s.timedEnd r) := by
    simp [onlyChanges_iff, State.timedEnd, State.freeLane]
  have hnotEnd : ∀ off, off < 0x2C100C → 0x2C0118 < off → off ∉ endRegs r.task := by
    intro off h1 h2
    simp only [endRegs, irqRegs, List.cons_append, List.nil_append, List.mem_cons, List.not_mem_nil, or_false, not_or]
    refine ⟨?_, ?_, ?_, ?_, ?_, ?_⟩ <;> simp only [Reg.SCN_TnMAX_EXEC, Reg.SCN_TnSTAT, Reg.SCN_CLEAN_CNT, Reg.IRQ_STAT, Reg.MSIX_PBA, Blk.SCN] <;> omega
  refine ⟨?_, ?_, ?_, ?_, ?_⟩
  · rw [he]
    have : tfind? (a.setTaskSt r.task TaskSt.WAITING).scn.lanes lane = none := by
      rw [show (a.setTaskSt r.task TaskSt.WAITING).scn.lanes = tdel s.scn.lanes r.lane from hlanes, tfind?_tdel, if_pos hl]
    exact this
  · rw [he]
    exact State.setFld_fld_same _ _ _ _ _ (by decide)
  · rw [State.num_congr (hkeep _ ?_ (by simp only [Reg.SCN_TnSTAT, Reg.SCN_TnLAST_EXEC]; omega))]
    · rw [State.timedEnd, State.setNum_num_same, Nat.mod_eq_of_lt (Nat.lt_of_le_of_lt (Nat.min_le_right _ _) (by decide))]
    · simp only [endRegs, irqRegs, List.cons_append, List.nil_append, List.mem_cons, List.not_mem_nil, or_false, not_or]
      refine ⟨?_, ?_, ?_, ?_, ?_, ?_⟩ <;> simp only [Reg.SCN_TnLAST_EXEC, Reg.SCN_TnMAX_EXEC, Reg.SCN_TnSTAT, Reg.SCN_CLEAN_CNT, Reg.IRQ_STAT, Reg.MSIX_PBA, Blk.SCN] <;> omega
  · rw [State.fld_congr (hkeep _ (hnotEnd _ (by decide) (by decide)) (by simp only [Reg.SCN_TnSTAT, Reg.SCN_LANE_STAT]; omega)),
      State.timedEnd, State.fld_congr (State.setNum_reg_other _ _ _ _ (by simp only [Reg.SCN_TnLAST_EXEC, Reg.SCN_LANE_STAT]; omega)),
      State.freeLane, State.fld_congr (State.satInc_reg_other _ _ _ _ _ _ (by simp only [Reg.SCN_TnDENIED, Reg.SCN_LANE_STAT]; omega)), hl,
      State.setFld_fld_same _ _ _ _ _ (by omega), Nat.zero_mod]
  · rw [he]
    exact (hfree.trans hchg).trans ((State.setFld_onlyChanges _ _ _ _ _).mono (by decide))

/-- The state in which a run ends whose output phase has nothing to write. -/
def State.afterOutput (s : State) (r : Run) : State :=
  (s.setTaskSt r.task TaskSt.OUTPUT).setTaskRt r.task { s.taskRt r.task with strict := r.strict }

theorem State.finishRun_of_untouched (hr : r.touched = []) (hw : s.scn.remote = []) (hd : s.dio.safe = false)
    (hf : s.flag Reg.DIO_WDT 8 = false) (ht : r.task < 16) : s.finishRun r = (s.afterOutput r).endRun r := by
  have hout : (s.setTaskSt r.task TaskSt.OUTPUT).outputPhase r = s.afterOutput r := State.outputPhase_of_untouched hr hw
  have hreg : (s.afterOutput r).reg Reg.DIO_WDT = s.reg Reg.DIO_WDT :=
    State.setFld_reg_other s (Reg.SCN_TnSTAT r.task) 0 3 TaskSt.OUTPUT Reg.DIO_WDT (by simp only [Reg.SCN_TnSTAT, Reg.DIO_WDT]; omega)
  have hflag : (s.afterOutput r).flag Reg.DIO_WDT 8 = false := (State.flag_congr _ _ _ _ hreg).trans hf
  rw [State.finishRun, hout, State.phaseKick_of_unwatched (s := s.afterOutput r) hd hflag]

theorem State.afterOutput_onlyChanges (s : State) (r : Run) : OnlyChanges [.regs, .out, .scn] s (s.afterOutput r) :=
  ((State.setFld_onlyChanges _ _ _ _ _).mono (by decide)).trans ((State.setTaskRt_onlyChanges _ _ _).mono (by decide))

theorem State.afterOutput_taskRt (s : State) (r : Run) : (s.afterOutput r).taskRt r.task = { s.taskRt r.task with strict := r.strict } := by
  rw [State.afterOutput, State.taskRt_setTaskRt, if_pos rfl]

end

/-- Settles O21: each instruction is issued, and END ends a run whose output phase has nothing to write. -/
theorem conditionLogic : Obligations.ConditionLogic := by
  unfold Obligations.ConditionLogic
  refine ⟨fun s lane r w hup => ⟨?_, ?_, ?_, ?_, ?_⟩, fun s lane r w hup => ?_⟩
  · intro v r1 s1 hl
    exact ⟨State.issueBit_next hup hl, State.issueBit_next hup hl, State.issueBit_next hup hl, State.issueBit_next hup hl,
      State.issueBit_next hup hl, State.issueBit_next hup hl, State.issueBit_next hup hl, State.issueBit_next hup hl⟩
  · intro e hl
    exact State.issueBit_faults hup hl
  · intro i part hsp hp hmay
    exact ⟨State.issueGood_next hup hsp hp hmay, State.issueGood_next hup hsp hp hmay⟩
  · intro r1 s1
    exact ⟨fun h hl => State.issueBitStore_next hup hl h, fun h hl => State.issueBitStore_next hup hl h,
      fun h hl => State.issueBitStore_next hup hl h⟩
  · intro e hl h
    exact State.issueBitStore_faults hup hl h
  · refine ⟨fun h => State.issueRun_next hup h, fun h => State.issueRun_next hup h, fun h => State.issueRun_next hup h,
      fun h => State.issueRun_next hup h, fun h => State.issueRun_next hup h, fun h => State.issueRun_next hup h, ?_, ?_, ?_,
      fun hb h => State.issuePop_nest hup hb h, ?_, ?_⟩
    · intro h hlen
      exact State.issue_puts hup h (if_neg (Nat.not_le.2 hlen))
    · intro h hlen
      exact State.issue_faults hup h (if_pos hlen)
    · intro p rest hc hb
      exact ⟨State.issuePop_next hup hc hb, State.issuePop_next hup hc hb, State.issuePop_next hup hc hb⟩
    · intro h hb
      exact State.issue_faults hup h (if_pos hb)
    · intro h hl hlane ht hb htouched hremote hsafe hwdt hq hh ho ha
      have hend := State.endRun_spec (s := s.afterOutput r) (r := r.past) hl hlane ht ((congrArg (·.queue) (s.afterOutput_taskRt r)).trans hq)
        ((congrArg (·.held) (s.afterOutput_taskRt r)).trans hh) ((congrArg (·.ovr) (s.afterOutput_taskRt r)).trans ho)
        ((congrArg (·.offAfter) (s.afterOutput_taskRt r)).trans ha)
      obtain ⟨hrun, hst, hexec, hstat, hchg⟩ := hend
      have hall := (s.afterOutput_onlyChanges r).trans hchg
      refine ⟨_, ?_, hrun, hst, hexec, hstat, hall⟩
      rw [exec_scnEnd, execScnEnd, State.issue_next hup h (if_neg (Nat.not_lt.2 hb)),
        State.finishRun_of_untouched (r := r.past) htouched hremote hsafe hwdt ht]
      exact congrArg _ (hall.guarded_eq (by decide))

end Sys2Proof.Machine

/-! PROOFS. Loads, stores and XR instructions, and how the scan engine's numbers read as bit vectors. -/

namespace Sys2Proof.Machine

-- One declaration after the other: the stacks of parallel elaboration would count against the memory limit of the check.
set_option Elab.async false

/-! ### Numbers as bit vectors -/

theorem signed_eq_toInt {w : Nat} (hw : 0 < w) (x : Nat) : signed w x = (BitVec.ofNat w x).toInt := by
  have hp : 2 ^ w = 2 * 2 ^ (w - 1) := by rw [← Nat.pow_succ', Nat.succ_eq_add_one, Nat.sub_add_cancel hw]
  rw [BitVec.toInt_eq_toNat_cond, signed, BitVec.toNat_ofNat]
  by_cases h : x % 2 ^ w < 2 ^ (w - 1)
  · rw [if_pos h, if_pos (by omega)]
  · rw [if_neg h, if_neg (by omega)]

theorem signed_toNat {w : Nat} (hw : 0 < w) (x : BitVec w) : signed w x.toNat = x.toInt := by
  rw [signed_eq_toInt hw, BitVec.ofNat_toNat, BitVec.setWidth_eq]

theorem ofNat_unsigned (w : Nat) (x : Int) : BitVec.ofNat w (unsigned w x) = BitVec.ofInt w x := by
  apply BitVec.eq_of_toNat_eq
  have hlt : unsigned w x < 2 ^ w := by
    have hpos : (0 : Int) < ((2 ^ w : Nat) : Int) := by positivity
    have h0 := Int.emod_nonneg x (Int.ne_of_gt hpos)
    have h1 := Int.emod_lt_of_pos x hpos
    rw [unsigned]
    omega
  rw [BitVec.toNat_ofNat, Nat.mod_eq_of_lt hlt, BitVec.toNat_ofInt, unsigned]

theorem signed_unsigned {w : Nat} (hw : 0 < w) (x : Int) : signed w (unsigned w x) = (BitVec.ofInt w x).toInt := by
  rw [signed_eq_toInt hw, ofNat_unsigned]

theorem sext_eq_signExtend {w : Nat} (hw : 0 < w) (x : Nat) : sext w x = (BitVec.ofNat w x).signExtend 64 := by
  rw [sext, signed_eq_toInt hw, BitVec.signExtend]

theorem wImm_eq (w : Word) : wImm w = w.toNat % 2 ^ 24 := by rw [wImm, bitsOf, Nat.pow_zero, Nat.div_one]

theorem ofNat_wImm (w : Word) : BitVec.ofNat 24 (wImm w) = w.setWidth 24 := by
  apply BitVec.eq_of_toNat_eq
  rw [BitVec.toNat_ofNat, wImm_eq, Nat.mod_mod, BitVec.toNat_setWidth]

theorem word_wImm (w : Word) : BitVec.ofNat 32 (wImm w) = w &&& 0xFFFFFF := by
  apply BitVec.eq_of_toNat_eq
  have hlt : w.toNat % 2 ^ 24 < 2 ^ 32 := Nat.lt_trans (Nat.mod_lt _ (by decide)) (by decide)
  rw [BitVec.toNat_ofNat, wImm_eq, Nat.mod_eq_of_lt hlt, BitVec.toNat_and]
  exact (Nat.and_two_pow_sub_one_eq_mod w.toNat 24).symm

theorem bitOf_toNat {n : Nat} (b : BitVec n) (i : Nat) : bitOf b.toNat i = b.getLsbD i := by
  rw [BitVec.getLsbD, Nat.testBit_eq_decide_div_mod_eq, bitOf, bitsOf, Nat.pow_one]
  rfl

/-! ### Loads and stores -/

section
variable {s s1 : State} {lane op e n v : Nat} {r r1 : Run} {w : Word}

theorem State.issueLoad_next {x : Nat → Dword} {y : Dword} (hup : s.Up) (hx : x v = y) (h : s.AtInsn lane r op w)
    (hl : s.loadOp r.past w n = .ok (v, r1, s1)) (hop : (opFmt op).isSome = true := by decide) :
    s.powered (fun s => s.issueLoad op lane n x)
      = .next (s.guarded (s1.putRun { r1 with a2 := r1.a1, a1 := accVal (s.runF r) y })) := by
  refine State.issue_next hup h ?_ hop
  simp only [hl, Run.push, hx]
  rfl

theorem State.issueStore_next {x : Run → Dword} (hup : s.Up) (h : s.AtInsn lane r op w)
    (hl : s.storeOp r.past w n (x r.past) = .ok (r1, s1)) (hop : (opFmt op).isSome = true := by decide) :
    s.powered (fun s => s.issueStore op lane n x) = .next (s.guarded (s1.putRun r1)) :=
  State.issue_next hup h (congrArg keepRun hl) hop

theorem State.issueTarget_next {m : Run → Dword} (hup : s.Up) (h : s.AtInsn lane r op w)
    (hl : s.storeTarget r.past w n (m r.past) = .ok (r1, s1)) (hop : (opFmt op).isSome = true := by decide) :
    s.powered (fun s => s.issue op lane fun s r w => keepRun (s.storeTarget r w n (m r))) = .next (s.guarded (s1.putRun r1)) :=
  State.issue_next hup h (congrArg keepRun hl) hop

theorem State.issueLoadTarget_next {x : Nat → Dword} {y : Dword} (hup : s.Up) (hx : x v = y) (h : s.AtInsn lane r op w)
    (hl : s.loadTarget r.past w n = .ok v) (hop : (opFmt op).isSome = true := by decide) :
    s.powered (fun s => s.issueLoadTarget op lane n x) = .next (s.putRun { r.past with a2 := r.a1, a1 := y }) := by
  refine State.issue_puts hup h ?_ hop
  simp only [hl, Run.push, accVal, if_true, hx]
  rfl

end

/-- Settles O22: each instruction is issued; a number that it widens reads as a bit vector. -/
theorem loadsAndStores : Obligations.LoadsAndStores := by
  unfold Obligations.LoadsAndStores
  intro s lane r w hup
  refine ⟨?_, ?_, ?_, ?_, ?_, ?_, ?_, ?_, ?_, ?_, ?_, fun h => State.issueRun_next hup h⟩
  · intro v r1 s1
    refine ⟨State.issueLoad_next hup rfl, State.issueLoad_next hup (sext_eq_signExtend (by decide) v),
      State.issueLoad_next hup (sext_eq_signExtend (by decide) v), fun h hl => ?_, fun h hl => ?_⟩
    · have hf : s.runF r = true := h.2.2.2 (by decide)
      have hld := State.issueLoad_next (x := fun v => BitVec.ofNat 64 v) hup rfl h hl
      rw [hf] at hld
      exact hld
    · exact State.issue_next hup h (by simp only [hl])
  · intro e h hl
    exact State.issue_faults hup h (by simp only [hl])
  · intro r1 s1
    exact ⟨State.issueStore_next (x := (·.a1)) hup, State.issueStore_next (x := (·.a1)) hup,
      State.issueStore_next (x := (·.a1)) hup, State.issueStore_next (x := (·.a1)) hup,
      State.issueStore_next (x := fun r => r.xr.setWidth 64) hup, State.issueTarget_next (m := (·.a1)) hup,
      State.issueTarget_next (m := (·.a1)) hup⟩
  · intro e h hl
    exact State.issue_faults hup h (congrArg keepRun hl)
  · intro h hsp hlt
    refine State.issue_puts hup h ?_
    rw [if_neg hsp]
    exact if_neg (Nat.not_le.2 hlt)
  · intro v
    exact ⟨State.issueLoadTarget_next hup (sext_eq_signExtend (by decide) v), State.issueLoadTarget_next hup rfl⟩
  · intro e h hl
    exact State.issue_faults hup h (by simp only [hl])
  · intro a b ha hb
    subst ha hb
    refine ⟨fun h hl => ?_, fun h hl => ?_⟩
    · refine State.issue_stores hup h ?_
      have hl' : s.checkTarget r.past w (r.past.effAddr w / 8) 1 true = none := hl
      simp only [hl']
      rfl
    · refine State.issue_puts hup h ?_
      have hl' : s.checkTarget r.past w (r.past.effAddr w / 8) 1 false = none := hl
      simp only [hl', bitOf_toNat]
      rfl
  · intro h
    refine (State.issueRun_next hup h).trans ?_
    rw [sext_eq_signExtend (by decide), ofNat_wImm]
    rfl
  · intro h
    refine (State.issueRun_next hup h).trans ?_
    rw [word_wImm]
  · intro h
    exact State.issueRun_next hup h

end Sys2Proof.Machine

/-! PROOFS. Accumulator arithmetic: integer, Q15 and REAL32 results, shifts and compares. -/

namespace Sys2Proof.Machine

-- One declaration after the other: the stacks of parallel elaboration would count against the memory limit of the check.
set_option Elab.async false

/-! ### REAL32 results of integers are finite -/

theorem divRne_le (a b k : Nat) (h : a < k * b) : divRne a b ≤ k := by
  have hq : a / b < k := Nat.div_lt_of_lt_mul (by rwa [Nat.mul_comm])
  unfold divRne
  dsimp only
  split
  · omega
  · split
    · omega
    · split <;> omega

/-- The ratio that is rounded lies below 2^24, in units of the last place. -/
theorem roundReal_ratio_lt {n d : Nat} (hd : d ≠ 0) {e0 e : Int} (he0 : e0 = (n.log2 : Int) - (d.log2 : Int) - 23)
    (he : e = if n * pow2 (-e0) < d * pow2 e0 * 2 ^ 23 then e0 - 1 else e0) : n * pow2 (-e) < 2 ^ 24 * (d * pow2 e) := by
  have hn2 : n < 2 ^ (n.log2 + 1) := Nat.lt_log2_self
  have hd2 : 2 ^ d.log2 ≤ d := Nat.log2_self_le hd
  have h0 : n * pow2 (-e0) < 2 ^ 24 * (d * pow2 e0) := by
    unfold pow2
    rcases Int.le_total 0 e0 with h | h
    · have hneg : (-e0).toNat = 0 := by omega
      have hexp : n.log2 + 1 = 24 + (d.log2 + e0.toNat) := by omega
      rw [hneg, Nat.pow_zero, Nat.mul_one]
      calc n < 2 ^ 24 * (2 ^ d.log2 * 2 ^ e0.toNat) := by rw [← Nat.pow_add, ← Nat.pow_add, ← hexp]; exact hn2
        _ ≤ 2 ^ 24 * (d * 2 ^ e0.toNat) := by gcongr
    · have hpos : e0.toNat = 0 := by omega
      have hexp : n.log2 + 1 + (-e0).toNat = 24 + d.log2 := by omega
      rw [hpos, Nat.pow_zero, Nat.mul_one]
      calc n * 2 ^ (-e0).toNat < 2 ^ (n.log2 + 1) * 2 ^ (-e0).toNat := by gcongr
        _ = 2 ^ 24 * 2 ^ d.log2 := by rw [← Nat.pow_add, ← Nat.pow_add, hexp]
        _ ≤ 2 ^ 24 * d := by gcongr
  split at he
  · next hlow =>
    subst he
    unfold pow2 at hlow ⊢
    rcases Int.lt_or_le 0 e0 with h | h
    · have h1 : (-(e0 - 1)).toNat = 0 := by omega
      have h2 : (-e0).toNat = 0 := by omega
      have h3 : e0.toNat = (e0 - 1).toNat + 1 := by omega
      rw [h2, h3, Nat.pow_succ] at hlow
      rw [h1]
      calc n * 2 ^ 0 < d * (2 ^ (e0 - 1).toNat * 2) * 2 ^ 23 := hlow
        _ = 2 ^ 24 * (d * 2 ^ (e0 - 1).toNat) := by ring
    · have h1 : (-(e0 - 1)).toNat = (-e0).toNat + 1 := by omega
      have h2 : (e0 - 1).toNat = 0 := by omega
      have h3 : e0.toNat = 0 := by omega
      rw [h3, Nat.pow_zero, Nat.mul_one] at hlow
      rw [h1, h2, Nat.pow_succ, Nat.pow_zero, Nat.mul_one]
      calc n * (2 ^ (-e0).toNat * 2) = n * 2 ^ (-e0).toNat * 2 := by ring
        _ < d * 2 ^ 23 * 2 := by gcongr
        _ = 2 ^ 24 * d := by ring
  · rw [he]; exact h0

/-- A word with an exponent field below 255 stands for a finite number. -/
theorem realVal_fin_of_exp {w : Word} (h : bitsOf w.toNat 23 8 ≠ 255) : realIsInf w = false ∧ realIsNaN w = false := by
  unfold realIsInf realIsNaN realVal
  dsimp only
  rw [if_neg h]
  by_cases h0 : bitsOf w.toNat 23 8 = 0
  · rw [if_pos h0]; exact ⟨rfl, rfl⟩
  · rw [if_neg h0]; exact ⟨rfl, rfl⟩

theorem roundReal_fin (neg : Bool) (n d : Nat) (hd : d ≠ 0) (hn : n < 2 ^ 64) :
    realIsInf (roundReal neg n d) = false ∧ realIsNaN (roundReal neg n d) = false := by
  have hzero : realIsInf (realZero neg) = false ∧ realIsNaN (realZero neg) = false := by
    cases neg <;> exact ⟨by decide, by decide⟩
  unfold roundReal
  split
  · exact hzero
  · next hn0 =>
    extract_lets e0 e q m ex
    have hq : q ≤ 2 ^ 24 := divRne_le _ _ _ (roundReal_ratio_lt hd rfl rfl)
    have hm : m - 2 ^ 23 < 2 ^ 23 := by
      unfold m
      split <;> omega
    have hlog : n.log2 < 64 := (Nat.log2_lt hn0).2 hn
    have hex : ex < 255 := by
      unfold ex e
      split <;> split <;> omega
    split
    · exact hzero
    · rw [if_neg (Int.not_le.2 hex)]
      apply realVal_fin_of_exp
      have hlt : (if neg then 2 ^ 31 else 0) + ex.toNat * 2 ^ 23 + (m - 2 ^ 23) < 2 ^ 32 := by
        split <;> omega
      rw [BitVec.toNat_ofNat, Nat.mod_eq_of_lt hlt, bitsOf]
      split <;> omega

theorem roundDyadic_fin {x k : Int} (hx : x.natAbs < 2 ^ 64) (hk : k ≤ 0) :
    realIsInf (roundDyadic x k) = false ∧ realIsNaN (roundDyadic x k) = false := by
  have hk0 : k.toNat = 0 := by omega
  refine roundReal_fin _ _ _ (Nat.ne_of_gt (Nat.two_pow_pos _)) ?_
  rw [pow2, hk0, Nat.pow_zero, Nat.mul_one]
  exact hx

theorem signed_natAbs_lt {w : Nat} (hw : 0 < w) (hw' : w ≤ 64) (x : Nat) : (signed w x).natAbs < 2 ^ 64 := by
  have hm : x % 2 ^ w < 2 ^ w := Nat.mod_lt _ (Nat.two_pow_pos w)
  have hp : 2 ^ w ≤ 2 ^ 64 := Nat.pow_le_pow_right (by decide) hw'
  unfold signed
  generalize 2 ^ w = p at hm hp ⊢
  generalize x % p = a at hm ⊢
  have hhalf : 0 < 2 ^ (w - 1) := Nat.two_pow_pos _
  split
  · exact Nat.lt_of_lt_of_le hm hp
  · have hneg : (a : Int) - p = -((p - a : Nat) : Int) := by omega
    rw [hneg, Int.natAbs_neg, Int.natAbs_natCast]
    omega

/-! ### Integer results -/

section
variable {r : Run} {f : Bool} {n : Nat} {x : Int} {v : Bool}

theorem Run.intRes_of_fits (hn : 0 < n) (hx : x = (BitVec.ofInt n x).toInt) :
    r.intRes f n x v = { r with a1 := accVal f (BitVec.ofInt 64 x), fr := r.fr.ofInt v x } := by
  rw [Run.intRes, signed_unsigned hn, ← hx]
  simp

theorem Run.intRes_of_overflow (hn : 0 < n) (hx : x ≠ (BitVec.ofInt n x).toInt) :
    (r.intRes f n x v).a1 = accVal f ((BitVec.ofInt n x).signExtend 64) ∧ (r.intRes f n x v).fr.v = true := by
  have hv : (v || decide ((BitVec.ofInt n x).toInt ≠ x)) = true := by rw [decide_eq_true (Ne.symm hx), Bool.or_true]
  rw [Run.intRes, signed_unsigned hn]
  exact ⟨rfl, hv⟩

theorem clampInt_eq (lo hi x : Int) (h : lo ≤ hi) : clampInt lo hi x = max lo (min hi x) := by
  unfold clampInt
  split
  · omega
  · split <;> omega

theorem clampInt_ne (lo hi x : Int) : decide (clampInt lo hi x ≠ x) = (decide (x < lo) || decide (hi < x)) := by
  rw [← Bool.decide_or]
  apply decide_eq_decide.2
  unfold clampInt
  split
  · omega
  · split <;> omega

/-! ### Shifts -/

theorem bitOf_pow_of_lt {x w : Nat} (hw : 0 < w) (hx : x < 2 ^ w) : decide (signed w x < 0) = decide (2 ^ (w - 1) ≤ x) := by
  unfold signed
  rw [Nat.mod_eq_of_lt hx]
  apply decide_eq_decide.2
  split <;> omega

/-- A shift's result of the accumulator's width, with its Z and N. -/
theorem Run.shiftRes_spec {x : Nat} (hx : x < 2 ^ accW f) :
    (r.shiftRes f x).a1 = BitVec.ofNat 64 x ∧ (r.shiftRes f x).fr.z = decide ((r.shiftRes f x).a1 = 0)
      ∧ (r.shiftRes f x).fr.n = (r.shiftRes f x).a1.getLsbD (accW f - 1) := by
  have hw : 0 < accW f := by cases f <;> decide
  have h64 : x < 2 ^ 64 := Nat.lt_of_lt_of_le hx (Nat.pow_le_pow_right (by decide) (by cases f <;> decide))
  have ha : (r.shiftRes f x).a1 = BitVec.ofNat 64 x := by
    cases f with
    | true => rfl
    | false =>
      apply BitVec.eq_of_toNat_eq
      have hx' : x < 2 ^ 32 := hx
      simp only [Run.shiftRes, accVal, Bool.false_eq_true, if_false, BitVec.toNat_setWidth, BitVec.toNat_ofNat]
      omega
  rw [ha]
  refine ⟨rfl, ?_, ?_⟩
  · apply decide_eq_decide.2
    rw [← BitVec.toNat_inj, BitVec.toNat_ofNat, Nat.mod_eq_of_lt h64]
    unfold signed
    rw [Nat.mod_eq_of_lt hx]
    change _ ↔ x = 0
    have hpos : 0 < 2 ^ (accW f - 1) := Nat.two_pow_pos _
    split <;> omega
  · refine (bitOf_pow_of_lt hw hx).trans ?_
    rw [BitVec.getLsbD, BitVec.toNat_ofNat, Nat.mod_eq_of_lt h64, Nat.testBit_eq_decide_div_mod_eq]
    apply decide_eq_decide.2
    cases f
    · simp only [accW, Bool.false_eq_true, if_false] at hx ⊢
      omega
    · simp only [accW, if_true] at hx ⊢
      omega

end

theorem wCount_eq (w : Word) : wCount w = w.toNat % 64 := by simp [wCount, bitsOf]

/-- A rotation puts the bits that leave above below those that move. -/
theorem toNat_rotateLeft_eq_add {n : Nat} (hn : 0 < n) (x : BitVec n) (c : Nat) :
    (x.rotateLeft c).toNat = x.toNat * 2 ^ (c % n) % 2 ^ n + x.toNat / 2 ^ (n - c % n) := by
  have hc : c % n ≤ n := (Nat.mod_lt c hn).le
  have hlow : x.toNat / 2 ^ (n - c % n) < 2 ^ (c % n) := by
    apply Nat.div_lt_of_lt_mul
    rw [← Nat.pow_add, Nat.sub_add_cancel hc]
    exact x.isLt
  have hhigh : x.toNat * 2 ^ (c % n) % 2 ^ n = (x.toNat % 2 ^ (n - c % n)) <<< (c % n) := by
    rw [Nat.shiftLeft_eq, ← Nat.mul_mod_mul_right, ← Nat.pow_add, Nat.sub_add_cancel hc]
  rw [BitVec.toNat_rotateLeft, Nat.shiftLeft_eq, Nat.shiftRight_eq_div_pow, hhigh, Nat.shiftLeft_add_eq_or_of_lt hlow]

theorem accVal_eq_of_lt {f : Bool} {x : Dword} (h : x.toNat < 2 ^ accW f) : accVal f x = x := by
  cases f with
  | true => rfl
  | false =>
    have h' : x.toNat < 2 ^ 32 := h
    apply BitVec.eq_of_toNat_eq
    simp only [accVal, Bool.false_eq_true, if_false, BitVec.toNat_setWidth]
    omega

theorem toNat_lt_of_accVal {f : Bool} {x : Dword} (h : x = accVal f x) : x.toNat < 2 ^ accW f := by
  cases f with
  | true => exact x.isLt
  | false =>
    rw [h]
    simp only [accVal, accW, Bool.false_eq_true, if_false, BitVec.toNat_setWidth]
    omega

/-! ### The obligation -/

section
variable {s : State} {lane op : Nat} {r : Run} {w : Word} {f : Bool}

theorem State.issueReal2_next {g : Word → Word → Word} (hup : s.Up) (h : s.AtInsn lane r op w)
    (hop : (opFmt op).isSome = true := by decide) : s.powered (fun s => s.issueReal2 op lane g)
      = .next (s.putRun (r.past.realRes [lowWord r.a2, lowWord r.a1] (g (lowWord r.a2) (lowWord r.a1)))) :=
  State.issueRun_next hup h hop

theorem State.issueReal1_next {g : Word → Word} (hup : s.Up) (h : s.AtInsn lane r op w)
    (hop : (opFmt op).isSome = true := by decide) : s.powered (fun s => s.issueReal1 op lane g)
      = .next (s.putRun (r.past.realRes [lowWord r.a1] (g (lowWord r.a1)))) :=
  State.issueRun_next hup h hop

/-- A conversion of an integer to REAL32 is exact enough to be finite, so V is clear. -/
theorem Run.realRes_dyadic_v {n : Nat} {k : Int} (hn : 0 < n) (hn' : n ≤ 64) (hk : k ≤ 0) :
    (r.realRes [] (roundDyadic (r.i1 n) k)).fr.v = false := by
  obtain ⟨hinf, hnan⟩ := roundDyadic_fin (k := k) (signed_natAbs_lt hn hn' r.a1.toNat) hk
  simp only [Run.realRes, Fr.ofReal, Fr.arith, Run.i1, hinf, hnan, Bool.and_false, Bool.or_false]

theorem State.issueCmp_next {x y : Run → Int} (hup : s.Up) (h : s.AtInsn lane r op w) (hc : w.toNat % 64 ≤ 5)
    (hop : (opFmt op).isSome = true := by decide) :
    s.powered (fun s => s.issueCmp op lane x y) = .next (s.putRun
      { r.past with fr := (r.fr.cmpInt (x r.past) (y r.past)).setCb (condInt (w.toNat % 64) (x r.past) (y r.past)) }) := by
  rw [← wCount_eq] at hc ⊢
  exact State.issue_puts hup h (if_neg (Nat.not_lt.2 hc)) hop

end

/-- A saturated conversion's result. -/
theorem Run.intRes_clamp (r : Run) (f : Bool) (x : Int) :
    (r.intRes f 32 (clampInt (-(2 ^ 31)) (2 ^ 31 - 1) x) (decide (clampInt (-(2 ^ 31)) (2 ^ 31 - 1) x ≠ x))).a1
        = accVal f (BitVec.ofInt 64 (max (-2 ^ 31) (min (2 ^ 31 - 1) x)))
      ∧ (r.intRes f 32 (clampInt (-(2 ^ 31)) (2 ^ 31 - 1) x) (decide (clampInt (-(2 ^ 31)) (2 ^ 31 - 1) x ≠ x))).fr.v
        = (decide (x < -2 ^ 31) || decide (2 ^ 31 - 1 < x)) := by
  have hc := clampInt_eq (-(2 ^ 31)) (2 ^ 31 - 1) x (by decide)
  have hfits : clampInt (-(2 ^ 31)) (2 ^ 31 - 1) x = (BitVec.ofInt 32 (clampInt (-(2 ^ 31)) (2 ^ 31 - 1) x)).toInt := by
    rw [BitVec.toInt_ofInt, Int.bmod_eq_of_le] <;> rw [hc] <;> omega
  rw [Run.intRes_of_fits (by decide) hfits, hc]
  refine ⟨rfl, ?_⟩
  rw [← hc]
  exact clampInt_ne _ _ x

/-- SHL's bits: those shifted out of the accumulator are lost. -/
theorem accVal_shl {f : Bool} {a : Dword} {n : Nat} (hn : n < 64) :
    accVal f (a <<< n) = BitVec.ofNat 64 (if accW f ≤ n then 0 else a.toNat * 2 ^ n % 2 ^ accW f) := by
  apply BitVec.eq_of_toNat_eq
  cases f with
  | true =>
    rw [accW, if_pos rfl, if_neg (Nat.not_le.2 hn)]
    simp [accVal, Nat.shiftLeft_eq]
  | false =>
    simp only [accW, accVal, Bool.false_eq_true, if_false, BitVec.toNat_setWidth, BitVec.toNat_shiftLeft, Nat.shiftLeft_eq,
      BitVec.toNat_ofNat]
    split
    · next h =>
      obtain ⟨k, rfl⟩ := Nat.exists_eq_add_of_le h
      have hmul : a.toNat * 2 ^ (32 + k) = 2 ^ 32 * (a.toNat * 2 ^ k) := by ring
      rw [hmul]
      omega
    · omega

end Sys2Proof.Machine

/-! PROOFS. The accumulator instructions. -/

namespace Sys2Proof.Machine

-- One declaration after the other: the stacks of parallel elaboration would count against the memory limit of the check.
set_option Elab.async false

theorem setWidth_ofInt_of_le {m n : Nat} (h : m ≤ n) (x : Int) : (BitVec.ofInt n x).setWidth m = BitVec.ofInt m x := by
  apply BitVec.eq_of_toNat_eq
  have hdvd : ((2 ^ m : Nat) : Int) ∣ ((2 ^ n : Nat) : Int) := Int.natCast_dvd_natCast.2 (Nat.pow_dvd_pow 2 h)
  have hpos : (0 : Int) < ((2 ^ n : Nat) : Int) := by positivity
  have h0 : 0 ≤ x % ((2 ^ n : Nat) : Int) := Int.emod_nonneg _ (Int.ne_of_gt hpos)
  rw [BitVec.toNat_setWidth, BitVec.toNat_ofInt, BitVec.toNat_ofInt, ← Int.emod_emod_of_dvd x hdvd,
    Int.toNat_emod h0 (Int.natCast_nonneg _), Int.toNat_natCast]

/-- A shifted two's complement number keeps its sign and stays within its width. -/
theorem signed_shift_neg {w : Nat} (hw : 0 < w) (x n : Nat) :
    decide (signed w (unsigned w (signed w x / 2 ^ n)) < 0) = decide (signed w x < 0) := by
  have hp : (0 : Int) < 2 ^ n := by positivity
  have hlo : -(2 ^ (w - 1) : Int) ≤ signed w x := by
    rw [signed_eq_toInt hw]
    exact BitVec.le_toInt _
  have hhi : signed w x < 2 ^ (w - 1) := by
    rw [signed_eq_toInt hw]
    exact BitVec.toInt_lt
  have hin : signed w (unsigned w (signed w x / 2 ^ n)) = signed w x / 2 ^ n := by
    rw [signed_unsigned hw, BitVec.toInt_ofInt_eq_self hw]
    · rcases Int.lt_or_le (signed w x) 0 with h | h
      · have := Int.le_ediv_of_mul_le hp (show -(2 ^ (w - 1) : Int) * 2 ^ n ≤ signed w x by nlinarith)
        exact this
      · exact le_trans (by simp) (Int.ediv_nonneg h hp.le)
    · rcases Int.lt_or_le (signed w x) 0 with h | h
      · exact lt_trans (Int.ediv_neg_of_neg_of_pos h hp) (by positivity)
      · exact lt_of_le_of_lt (Int.ediv_le_self _ h) hhi
  rw [hin]
  apply decide_eq_decide.2
  exact ⟨fun h => by_contra fun hn => absurd (Int.ediv_nonneg (Int.not_lt.1 hn) hp.le) (Int.not_le.2 h),
    fun h => Int.ediv_neg_of_neg_of_pos h hp⟩

section
variable {s : State} {lane : Nat} {r : Run} {w : Word} {f : Bool}

theorem State.scnShifts_spec (hup : s.Up) (hf : f = s.runF r) {n : Nat} (hn : n = w.toNat % 64) (ha : r.a1 = accVal f r.a1) :
    (s.AtInsn lane r 0x70 w → ∃ q, exec (.scnShl lane) s = .next (s.putRun q) ∧ q.a1 = accVal f (r.a1 <<< n)
        ∧ q.fr.z = decide (q.a1 = 0) ∧ q.fr.n = q.a1.getLsbD (accW f - 1) ∧ q.pc = r.pc + 1) ∧
      (s.AtInsn lane r 0x71 w → ∃ q, exec (.scnShr lane) s = .next (s.putRun q) ∧ q.a1 = r.a1 >>> n
        ∧ q.fr.z = decide (q.a1 = 0) ∧ q.pc = r.pc + 1) ∧
      (s.AtInsn lane r 0x72 w → ∃ q, exec (.scnSar lane) s = .next (s.putRun q)
        ∧ q.a1 = accVal f (BitVec.ofInt 64 (r.i1 (accW f) / 2 ^ n)) ∧ q.fr.n = decide (r.i1 (accW f) < 0) ∧ q.pc = r.pc + 1) := by
  subst hf
  rw [← wCount_eq] at hn
  subst hn
  have hcount : wCount w < 64 := by rw [wCount_eq]; exact Nat.mod_lt _ (by decide)
  have hlt := toNat_lt_of_accVal ha
  refine ⟨fun h => ?_, fun h => ?_, fun h => ?_⟩
  · have hx : (if accW (s.runF r) ≤ wCount w then 0 else r.a1.toNat * 2 ^ wCount w % 2 ^ accW (s.runF r)) < 2 ^ accW (s.runF r) := by
      split
      · exact Nat.two_pow_pos _
      · exact Nat.mod_lt _ (Nat.two_pow_pos _)
    obtain ⟨h1, h2, h3⟩ := Run.shiftRes_spec (r := r.past) hx
    exact ⟨_, State.issueRun_next hup h, h1.trans (accVal_shl hcount).symm, h2, h3, rfl⟩
  · have hx : r.a1.toNat / 2 ^ wCount w < 2 ^ accW (s.runF r) := Nat.lt_of_le_of_lt (Nat.div_le_self _ _) hlt
    obtain ⟨h1, h2, -⟩ := Run.shiftRes_spec (r := r.past) hx
    refine ⟨_, State.issueRun_next hup h, h1.trans ?_, h2, rfl⟩
    apply BitVec.eq_of_toNat_eq
    rw [BitVec.toNat_ushiftRight, Nat.shiftRight_eq_div_pow, BitVec.toNat_ofNat,
      Nat.mod_eq_of_lt (Nat.lt_of_le_of_lt (Nat.div_le_self _ _) r.a1.isLt)]
  · have hw : 0 < accW (s.runF r) := by cases s.runF r <;> decide
    refine ⟨_, State.issueRun_next hup h, ?_, ?_, rfl⟩
    · change accVal (s.runF r) (BitVec.ofNat 64 (unsigned (accW (s.runF r)) (r.i1 (accW (s.runF r)) / 2 ^ wCount w))) = _
      cases s.runF r with
      | true => exact ofNat_unsigned 64 _
      | false =>
        simp only [accVal, accW, Bool.false_eq_true, if_false]
        rw [BitVec.setWidth_ofNat_of_le (v := 32) (by decide), ofNat_unsigned, setWidth_ofInt_of_le (m := 32) (by decide)]
    · change decide (signed (accW (s.runF r)) (unsigned (accW (s.runF r)) (r.i1 (accW (s.runF r)) / 2 ^ wCount w)) < 0) = _
      exact signed_shift_neg hw _ _

end

/-- The run after RTQ of a NaN, whose result the spec leaves free. -/
def freeQ15 (s : State) (r : Run) : Run :=
  { r.past with
    a1 := accVal (s.runF r) (BitVec.ofInt 64 (signed 16 (Config.freeWord s.free).toNat))
    fr := r.fr.ofInt (bitOf (Config.freeWord s.free).toNat 16) (signed 16 (Config.freeWord s.free).toNat) }

/-- The value that ROL gives the accumulator. -/
def rolValue (f : Bool) (x : Dword) (c : Nat) : Dword :=
  accVal f (BitVec.ofNat 64 (x.toNat * 2 ^ (c % accW f) % 2 ^ accW f + x.toNat / 2 ^ (accW f - c % accW f)))

theorem rolValue_profF (x : Dword) (c : Nat) : rolValue true x c = x.rotateLeft c := by
  apply BitVec.eq_of_toNat_eq
  change (BitVec.ofNat 64 (x.toNat * 2 ^ (c % 64) % 2 ^ 64 + x.toNat / 2 ^ (64 - c % 64))).toNat = _
  rw [BitVec.toNat_ofNat, ← toNat_rotateLeft_eq_add (by decide) x c, Nat.mod_eq_of_lt (BitVec.isLt _)]

theorem rolValue_profS {x : Dword} (c : Nat) (hx : x = accVal false x) :
    rolValue false x c = ((x.setWidth 32).rotateLeft c).setWidth 64 := by
  have hlt : x.toNat < 2 ^ 32 := toNat_lt_of_accVal hx
  have hw : (x.setWidth 32).toNat = x.toNat := by rw [BitVec.toNat_setWidth, Nat.mod_eq_of_lt hlt]
  have hr := toNat_rotateLeft_eq_add (by decide) (x.setWidth 32) c
  rw [hw] at hr
  have hbound := ((x.setWidth 32).rotateLeft c).isLt
  change ((BitVec.ofNat 64 (x.toNat * 2 ^ (c % 32) % 2 ^ 32 + x.toNat / 2 ^ (32 - c % 32))).setWidth 32).setWidth 64 = _
  rw [← hr]
  apply BitVec.eq_of_toNat_eq
  simp only [BitVec.toNat_setWidth, BitVec.toNat_ofNat]
  omega

/-- Settles O23: each instruction changes its run alone; its result's bits and flags follow from the width it is held to. -/
theorem accumulatorInstructions : Obligations.AccumulatorInstructions := by
  unfold Obligations.AccumulatorInstructions
  intro s lane r w f hup hf
  refine ⟨?_, ?_, ?_, ?_, ?_, ?_, ?_, ?_, ?_, ?_, ?_, ?_, ?_, ?_, ?_, ?_, ?_, ?_, ?_, ?_, ?_, ?_, ?_, ?_, ?_, ?_, ?_, ?_, ?_, ?_, ?_, ?_, ?_, ?_⟩
  · intro n x v hn hx
    have hn0 : 0 < n := by omega
    rw [Run.intRes_of_fits hn0 hx]
    exact ⟨rfl, rfl, rfl, rfl, rfl, rfl⟩
  · intro n x v hn hx
    exact Run.intRes_of_overflow (by omega) hx
  · intro h
    subst hf
    refine (State.issueRun_next hup h).trans ?_
    rw [signed_eq_toInt (by decide), ofNat_wImm]
    rfl
  all_goals subst hf
  · exact State.issueRun_next hup
  · exact State.issueRun_next hup
  · exact State.issueRun_next hup
  · exact State.issueRun_next hup
  · exact State.issueRun_next hup
  · exact State.issueRun_next hup
  · intro h
    have habs : (if r.i1 32 < 0 then -r.i1 32 else r.i1 32) = ((r.past.i1 32).natAbs : Int) := by
      change (if r.i1 32 < 0 then -r.i1 32 else r.i1 32) = ((r.i1 32).natAbs : Int)
      split <;> omega
    rw [habs]
    exact State.issueRun_next hup h
  · exact State.issueRun_next hup
  · exact State.issueRun_next hup
  · exact State.issueRun_next hup
  · exact State.issueRun_next hup
  · intro h
    refine (State.issueRun_next hup h).trans ?_
    have hquot : BitVec.ofNat 64 (r.a2.toNat / r.a1.toNat) = r.a2 / r.a1 := by
      apply BitVec.eq_of_toNat_eq
      rw [BitVec.toNat_ofNat, BitVec.toNat_udiv, Nat.mod_eq_of_lt (Nat.lt_of_le_of_lt (Nat.div_le_self _ _) r.a2.isLt)]
    have hz : decide (r.a2.toNat / r.a1.toNat = 0) = (r.a2 / r.a1 == 0) := by
      rw [← BitVec.toNat_udiv, beq_eq_decide]
      exact decide_eq_decide.2 (BitVec.toNat_inj (y := 0#64))
    change Host.Outcome.next (s.putRun { r.past with
      a1 := BitVec.ofNat 64 (r.a2.toNat / r.a1.toNat)
      fr := r.fr.arith (decide (r.a1 = 0)) (decide (r.a2.toNat / r.a1.toNat = 0)) false false }) = _
    rw [hquot, hz, ← beq_eq_decide]
  · intro x
    rw [← clampInt_eq _ _ _ (by decide), ← clampInt_ne]
    exact ⟨rfl, rfl⟩
  · exact State.issueRun_next hup
  · exact State.issueRun_next hup
  · exact State.issueRun_next hup
  · exact State.issueRun_next hup
  · intro a b ha hb
    subst ha hb
    refine ⟨State.issueReal2_next hup, State.issueReal2_next hup, State.issueReal2_next hup, State.issueReal2_next hup,
      State.issueReal1_next hup, State.issueReal1_next hup, State.issueReal1_next hup, ?_, ?_, ?_, ?_, ?_⟩
    · intro h hnan
      refine (State.issueRun_next hup h).trans ?_
      have hnan' : realRound (lowWord r.past.a1) 0 = none := hnan
      rw [hnan']
    · intro x h hx
      have hx' : realRound (lowWord r.past.a1) 0 = some x := hx
      refine ⟨_, (State.issueRun_next hup h).trans (by rw [hx']), ?_⟩
      obtain ⟨h1, h2⟩ := Run.intRes_clamp r.past (s.runF r) x
      exact ⟨h1, h2, rfl⟩
    · intro x h hx
      have hx' : realRound (lowWord r.past.a1) 15 = some x := hx
      refine State.issue_puts hup h ?_
      simp only [hx']
      rfl
    · intro h hnan
      have hnan' : realRound (lowWord r.past.a1) 15 = none := hnan
      refine ⟨freeQ15 s r, State.issue_next (s' := s.nextFree.putRun (freeQ15 s r)) hup h ?_, rfl⟩
      simp only [hnan']
      rfl
    · intro c hc hle h
      subst hc
      have hle' : ¬ 5 < wCount w := by rw [wCount_eq]; omega
      refine ⟨_, State.issue_puts hup h (if_neg hle'), ?_, rfl⟩
      rw [← wCount_eq]
      rfl
  · exact State.issueRun_next hup
  · exact State.issueRun_next hup
  · exact State.issueRun_next hup
  · exact State.issueRun_next hup
  · intro n hn ha
    obtain ⟨hshl, hshr, hsar⟩ := State.scnShifts_spec (lane := lane) hup rfl hn ha
    refine ⟨hshl, hshr, hsar, fun h ht => ?_, fun h ht => ?_⟩
    · refine (State.issueRun_next hup h).trans ?_
      rw [hn, ← wCount_eq, ← rolValue_profF, ht]
      rfl
    · refine (State.issueRun_next hup h).trans ?_
      rw [ht] at ha
      rw [hn, ← wCount_eq, ← rolValue_profS _ ha, ht]
      rfl
  · exact fun h => ⟨_, State.issueRun_next hup h, rfl, Run.realRes_dyadic_v (r := r.past) (by decide) (by decide) (by decide), rfl⟩
  · exact fun h => ⟨_, State.issueRun_next hup h, rfl, Run.realRes_dyadic_v (r := r.past) (by decide) (by decide) (by decide), rfl⟩
  · exact fun h => ⟨_, State.issueRun_next hup h, rfl, Run.realRes_dyadic_v (r := r.past) (by decide) (by decide) (by decide), rfl⟩
  · intro h
    have hf : s.runF r = true := h.2.2.2 (by decide)
    refine (State.issueRun_next hup h).trans ?_
    rw [hf, sext_eq_signExtend (by decide)]
    simp only [Run.setA1, accVal, if_true, BitVec.ofNat_toNat]
    rfl
  · exact State.issueRun_next hup
  · exact State.issueRun_next hup
  · intro c hc hle
    subst hc
    refine ⟨fun h => State.issueCmp_next hup h hle, fun h => State.issueCmp_next hup h hle, fun h => ?_⟩
    refine (State.issueCmp_next hup h hle).trans ?_
    have hz : decide ((r.a2.toNat : Int) = r.a1.toNat) = decide (r.a2 = r.a1) := by
      exact decide_eq_decide.2 (Int.natCast_inj.trans BitVec.toNat_inj)
    have hn : decide ((r.a2.toNat : Int) < r.a1.toNat) = decide (r.a2 < r.a1) := by
      exact decide_eq_decide.2 (Int.ofNat_lt.trans BitVec.lt_def.symm)
    rw [← hz, ← hn]
    rfl
  · intro c hc hgt h
    rw [hc, ← wCount_eq] at hgt
    exact State.issue_faults hup h (if_pos hgt)

end Sys2Proof.Machine

/-! PROOFS. Jumps, calls and returns. -/

namespace Sys2Proof.Machine

-- One declaration after the other: the stacks of parallel elaboration would count against the memory limit of the check.
set_option Elab.async false

/-- A jump's PC wraps at 24 bits. -/
theorem Run.past_jump (r : Run) (w : Word) :
    r.past.jump w = { r with pc := (BitVec.ofNat 24 (r.pc + 1) + w.setWidth 24).toNat } := by
  have hpc : unsigned 24 (((r.pc + 1 : Nat) : Int) + signed 24 (wImm w)) = (BitVec.ofNat 24 (r.pc + 1) + w.setWidth 24).toNat := by
    have hlt : unsigned 24 (((r.pc + 1 : Nat) : Int) + signed 24 (wImm w)) < 2 ^ 24 := by
      unfold unsigned
      omega
    have h := congrArg BitVec.toNat (ofNat_unsigned 24 (((r.pc + 1 : Nat) : Int) + signed 24 (wImm w)))
    rw [BitVec.toNat_ofNat, Nat.mod_eq_of_lt hlt] at h
    rw [h, BitVec.ofInt_add, signed_eq_toInt (by decide), ofNat_wImm, BitVec.ofInt_toInt, BitVec.ofInt_natCast]
  rw [← hpc]
  rfl

section
variable {s : State} {lane : Nat} {r : Run} {w : Word}

/-- A call of the function block on TIR. -/
theorem State.callFb_past {ty : FbType} (hty : (s.bank r.bankB).fbTypes[wImm w]? = some ty)
    (hsize : r.tir + 16 ≤ (s.bank r.bankB).dataSize) (hhead : (s.bank r.bankB).dataWord (r.tir + 4) % 65536 = wImm w)
    (hdepth : r.calls.length < 64) (hroom : ∀ e, s.runEntry r = some e → r.lb + r.fsz + ty.lSize ≤ e.lSize)
    (hentry : (s.runEntry r).isSome) :
    s.callFb r.past (wImm w) = .ok (s.putRun { r with
      calls := ⟨r.pc + 1, r.ib, r.lb, r.tir, r.fr, r.base, r.fsz⟩ :: r.calls, ib := r.tir, lb := r.lb + r.fsz,
      fsz := ty.lSize, base := r.cond.length, fr := { r.fr with en := r.fr.cb }, pc := ty.entry }) := by
  obtain ⟨e, he⟩ := Option.isSome_iff_exists.1 hentry
  have hty' : (s.bank r.past.bankB).fbTypes[wImm w]? = some ty := hty
  have he' : s.runEntry r.past = some e := he
  have hbad : ¬ ((s.bank r.past.bankB).dataSize < r.past.tir + 16 ∨ (s.bank r.past.bankB).dataWord (r.past.tir + 4) % 65536 ≠ wImm w) := by
    rintro (h | h)
    · exact absurd h (Nat.not_lt.2 hsize)
    · exact h hhead
  have hdeep : ¬ 64 ≤ r.past.calls.length := Nat.not_le.2 hdepth
  have hfull : ¬ e.lSize < r.past.lb + r.past.fsz + ty.lSize := Nat.not_lt.2 (hroom e he)
  simp only [State.callFb, hty', if_neg hbad, if_neg hdeep, he', Option.map_some, Option.getD_some, if_neg hfull]
  rfl

theorem State.retFb_past {c : Frame} {rest : List Frame} (hc : r.calls = c :: rest) (hb : r.cond.length ≤ r.base) :
    s.retFb r.past = .ok (s.putRun { r with
      calls := rest, pc := c.pc, ib := c.ib, lb := c.lb, tir := c.tir,
      base := c.base, fsz := c.fsz, fr := { r.fr with cb := r.fr.en, vs := c.fr.vs || r.fr.vs } }) := by
  have hc' : r.past.calls = c :: rest := hc
  have hb' : ¬ r.past.base < r.past.cond.length := Nat.not_lt.2 hb
  simp only [State.retFb, if_neg hb', hc']
  rfl

end

/-- Settles O24: each jump, call and return, by its condition. -/
theorem jumpsAndCalls : Obligations.JumpsAndCalls := by
  unfold Obligations.JumpsAndCalls
  intro s lane r w k dst hup hk hdst
  subst hk
  have hjump := r.past_jump w
  rw [← hdst] at hjump
  refine ⟨fun h => ?_, fun h => ?_, fun h => ?_, fun h => ?_, fun h => ?_, fun h hsp hlt hal => ?_, fun h hsp => ?_, ?_,
    fun h hcb => ?_, fun h hty => ?_, ?_, fun h hcb => ?_, fun h hb => ?_, fun h hb hc => ?_⟩
  · rw [← hjump]
    exact State.issueRun_next hup h
  · refine (State.issueRun_next hup h).trans ?_
    rw [hjump]
    change Host.Outcome.next (s.putRun (if r.fr.cb = true then _ else _)) = _
    cases r.fr.cb <;> rfl
  · refine (State.issueRun_next hup h).trans ?_
    rw [hjump]
    change Host.Outcome.next (s.putRun (if r.fr.cb = true then _ else _)) = _
    cases r.fr.cb <;> rfl
  · refine (State.issueRun_next hup h).trans ?_
    have hjvs := Run.past_jump { r with fr := { r.fr with vs := false } } w
    rw [← hdst] at hjvs
    change Host.Outcome.next (s.putRun (if r.fr.vs = true then Run.jump (Run.past { r with fr := { r.fr with vs := false } }) w else _)) = _
    rw [hjvs]
    cases r.fr.vs <;> rfl
  · refine (State.issueRun_next hup h).trans ?_
    have hloop := Run.past_jump { r with xr := r.xr - 1 } w
    rw [← hdst] at hloop
    change Host.Outcome.next (s.putRun (if r.xr - 1 ≠ 0 then Run.jump (Run.past { r with xr := r.xr - 1 }) w else _)) = _
    have hone : r.xr - 1 = 0 ↔ r.xr = 1 := by bv_omega
    rw [hloop]
    by_cases hx : r.xr = 1
    · rw [if_pos hx, if_neg (by rw [not_not]; exact hone.2 hx)]
      rfl
    · rw [if_neg hx, if_pos (fun h0 => hx (hone.1 h0))]
  · refine State.issue_puts hup h ?_
    have hbad : ¬ (wSpace w ≠ Sp.D ∨ s.spaceLimit r.past Sp.D ≤ r.past.effAddr w) := by
      rintro (h | h)
      · exact h hsp
      · exact absurd hlt (Nat.not_lt.2 h)
    have hal' : ¬ r.past.effAddr w % 16 ≠ 0 := fun h => h hal
    simp only [if_neg hbad, if_neg hal']
    rfl
  · exact State.issue_faults hup h (if_pos (.inl hsp))
  · intro i ty q hi hty hsize hhead hdepth hroom hentry hq
    rw [← wImm_eq] at hi
    subst hi hq
    have hcall := State.callFb_past hty hsize hhead hdepth hroom hentry
    refine ⟨fun h => State.issue_puts hup h hcall, fun h hcb => State.issue_puts hup h ?_⟩
    exact (if_pos hcb).trans hcall
  · exact State.issue_puts hup h (if_neg (by rw [show r.past.fr.cb = false from hcb]; decide))
  · rw [← wImm_eq] at hty
    have hty' : (s.bank r.past.bankB).fbTypes[wImm w]? = none := hty
    exact State.issue_faults hup h (by simp only [State.callFb, hty'])
  · intro c rest q hc hb hq
    subst hq
    have hret := State.retFb_past (s := s) hc hb
    refine ⟨fun h => State.issue_puts hup h hret, fun h hcb => State.issue_puts hup h ?_⟩
    exact (if_pos hcb).trans hret
  · exact State.issue_puts hup h (if_neg (by rw [show r.past.fr.cb = false from hcb]; decide))
  · exact State.issue_faults hup h (if_pos hb)
  · have hb' : ¬ r.past.base < r.past.cond.length := Nat.not_lt.2 hb
    have hc' : r.past.calls = [] := hc
    exact State.issue_next hup h (by simp only [State.retFb, if_neg hb', hc'])

end Sys2Proof.Machine

/-! PROOFS. Timer, counter, edge and record instructions. -/

namespace Sys2Proof.Machine

-- One declaration after the other: the stacks of parallel elaboration would count against the memory limit of the check.
set_option Elab.async false

section
variable {s : State} {lane op type a : Nat} {r : Run} {w : Word} {m : Bool}

/-- A timer's or counter's evaluation, its record written and its result pushed. -/
theorem State.issuePrim_next {timer : Bool} {g : Prim → Bool → Nat → Nat → Prim} {p q : Prim} {ts d pv : Nat} {y : Dword} (hup : s.Up)
    (hrec : s.recordAt r.past w 16 [type] = .ok (m, a)) (hp : p = (s.bank r.bankB).prim m a) (hts : ts = r.latch.ch % 2 ^ 32)
    (hd : d = (ts + 2 ^ 32 - p.last) % 2 ^ 32) (hpv : pv = (r.a1.setWidth 32).toNat) (hq : g p r.fr.cb d pv = q)
    (hy : q.pushed (!timer) = y) (h : s.AtInsn lane r op w) (hop : (opFmt op).isSome = true := by decide) :
    s.powered (fun s => s.issuePrim op lane type timer g) = .next ((s.setBank r.bankB (some
      ((s.bank r.bankB).putPrim m a { q with inp := r.fr.cb, last := if timer then ts else 0 }))).putRun
        { r.past with a2 := r.a1, a1 := accVal (s.runF r) y, fr := { r.fr with cb := q.q } }) := by
  subst hp hts hd hpv hq hy
  refine State.issue_stores hup h ?_ hop
  simp only [hrec]
  rfl

theorem State.issueEdge_next {g : Bool → Bool → Bool} {p : Prim} (hup : s.Up) (hp : p = (s.bank r.bankB).prim m a)
    (h : s.AtInsn lane r op w) (hrec : s.recordAt r.past w 16 [type] = .ok (m, a)) (hop : (opFmt op).isSome = true := by decide) :
    s.powered (fun s => s.issueEdge op lane type g) = .next ((s.setBank r.bankB (some
      ((s.bank r.bankB).putPrim m a { p with inp := r.fr.cb, last := 0 }))).putRun
        { r.past with fr := { r.fr with cb := g r.fr.cb p.inp } }) := by
  subst hp
  refine State.issue_stores hup h ?_ hop
  simp only [hrec]
  rfl

end

/-! ### Counters -/

theorem toInt_ofInt_of_range {x : Int} (hlo : -(2 ^ 31) ≤ x) (hhi : x ≤ 2 ^ 31 - 1) : (BitVec.ofInt 32 x).toInt = x :=
  BitVec.toInt_ofInt_eq_self (by decide) hlo (by omega)

/-- A counter's new value, as CV holds it. -/
theorem Prim.ctu_spec (p : Prim) (i : Bool) (v : Word) :
    (p.ctu i v.toNat).q = decide (v.toInt ≤ (BitVec.ofNat 32 (p.ctu i v.toNat).et).toInt)
      ∧ (BitVec.ofNat 32 (p.ctu i v.toNat).et).toInt
        = (if i && !p.inp then min ((BitVec.ofNat 32 p.et).toInt + 1) (2 ^ 31 - 1) else (BitVec.ofNat 32 p.et).toInt) := by
  have hcv := signed_eq_toInt (w := 32) (by decide) p.et
  have hlo := BitVec.le_toInt (BitVec.ofNat 32 p.et)
  have hhi := BitVec.toInt_lt (x := BitVec.ofNat 32 p.et)
  have het : (BitVec.ofNat 32 (p.ctu i v.toNat).et).toInt
      = (if i && !p.inp then min ((BitVec.ofNat 32 p.et).toInt + 1) (2 ^ 31 - 1) else (BitVec.ofNat 32 p.et).toInt) := by
    simp only [Prim.ctu, hcv, ofNat_unsigned]
    apply toInt_ofInt_of_range <;> split <;> omega
  refine ⟨?_, het⟩
  rw [het]
  simp only [Prim.ctu, hcv, signed_toNat (w := 32) (by decide)]

theorem Prim.ctd_spec (p : Prim) (i : Bool) :
    (p.ctd i).q = decide ((BitVec.ofNat 32 (p.ctd i).et).toInt ≤ 0)
      ∧ (BitVec.ofNat 32 (p.ctd i).et).toInt
        = (if i && !p.inp then max ((BitVec.ofNat 32 p.et).toInt - 1) (-2 ^ 31) else (BitVec.ofNat 32 p.et).toInt) := by
  have hcv := signed_eq_toInt (w := 32) (by decide) p.et
  have hlo := BitVec.le_toInt (BitVec.ofNat 32 p.et)
  have hhi := BitVec.toInt_lt (x := BitVec.ofNat 32 p.et)
  have het : (BitVec.ofNat 32 (p.ctd i).et).toInt
      = (if i && !p.inp then max ((BitVec.ofNat 32 p.et).toInt - 1) (-2 ^ 31) else (BitVec.ofNat 32 p.et).toInt) := by
    simp only [Prim.ctd, hcv, ofNat_unsigned]
    apply toInt_ofInt_of_range <;> split <;> omega
  refine ⟨?_, het⟩
  rw [het]
  simp only [Prim.ctd, hcv]

/-- Settles O25: each record instruction writes its record back and gives its run the record's answer. -/
theorem recordInstructions : Obligations.RecordInstructions := by
  unfold Obligations.RecordInstructions
  intro s lane r w m a k p hup hk hp
  subst hk
  refine ⟨?_, ?_, ?_, ?_, State.issueEdge_next hup hp, State.issueEdge_next hup hp⟩
  · intro e h hrec
    exact State.issue_faults hup h (by simp only [hrec])
  · intro d pt ts g hts hd hpt hg
    subst hg
    refine ⟨fun h hrec => State.issuePrim_next hup hrec hp hts hd hpt rfl rfl h, fun h hrec => State.issuePrim_next hup hrec hp hts hd hpt rfl rfl h,
      fun h hrec => State.issuePrim_next hup hrec hp hts hd hpt rfl rfl h, rfl, fun hrun => ?_, fun hrun hunit => ?_, fun hrun hunit => ?_⟩
    · simp only [Prim.ton, hrun, if_true, Bool.false_eq_true, if_false, Prim.zeroEt]
    · simp only [Prim.ton, hrun, if_true, Prim.advance, hunit, Bool.false_eq_true, if_false]
    · simp only [Prim.ton, hrun, if_true, Prim.advance, hunit]
  · intro pv g hpv hg
    subst hg hpv
    have hpush : ∀ q : Prim, q.pushed (!false) = (BitVec.ofNat 32 q.et).signExtend 64 := fun q => sext_eq_signExtend (by decide) q.et
    exact ⟨fun h hrec => ⟨_, State.issuePrim_next hup hrec hp rfl rfl rfl rfl (hpush _) h, p.ctu_spec r.fr.cb _⟩,
      fun h hrec => ⟨_, State.issuePrim_next hup hrec hp rfl rfl rfl rfl (hpush _) h, p.ctd_spec r.fr.cb⟩⟩
  · intro ty h hrec hty
    subst hty hp
    refine ⟨fun hcb => State.issue_puts hup h ?_, fun hcb hlt => State.issue_stores hup h ?_⟩
    · have hcb' : r.past.fr.cb = false := hcb
      simp only [hrec, hcb', Bool.false_eq_true, if_false]
      rfl
    · have hcb' : r.past.fr.cb = true := hcb
      have hlt' : ((s.bank r.past.bankB).recByte m (a + 4)).toNat < 0x20 := hlt
      simp only [hrec, hcb', if_true, Prim.cres, if_pos hlt', Prim.pushed, decide_eq_false (Nat.not_le.2 hlt'), Bool.false_eq_true, if_false]
      rfl

end Sys2Proof.Machine

/-! PROOFS. CLK, CHN, the fences, SEND and STK. -/

namespace Sys2Proof.Machine

-- One declaration after the other: the stacks of parallel elaboration would count against the memory limit of the check.
set_option Elab.async false

/-- An internal operation begins on the first free tag (R71, R73). -/
theorem State.beginInternal_eq {s s1 : State} {producer block opcode ctx ms t : Nat} {param : BitVec 384}
    (h : s.beginInternal producer block opcode ctx ms param = some (t, s1)) :
    s1 = s.beginAt t (Slot.internalOp producer block opcode ctx ms param) := by
  unfold State.beginInternal at h
  split at h
  · cases h
  · split at h
    · cases h
    · cases h
      rfl

/-- A bucket's tokens depend on TEN's part, the context's RATE and the clock alone (R553). -/
theorem State.takeToken_congr {s t : State} {c : Nat} (hten : t.ten = s.ten) (hclk : t.clk = s.clk)
    (hreg : t.reg (Reg.TEN_CTXc_RATE c) = s.reg (Reg.TEN_CTXc_RATE c)) : t.takeToken c = none ↔ s.takeToken c = none := by
  have hf := fun lo w => State.fld_congr hreg lo w
  simp only [State.takeToken, State.refill, hf, hclk, hten]
  repeat' split
  all_goals simp_all

theorem State.refill_eq (s : State) (c : Nat) : ∃ x, s.refill c = { s with ten := x } := by
  unfold State.refill
  simp only
  split
  · exact ⟨s.ten, rfl⟩
  · exact ⟨_, rfl⟩

/-- Taking a token changes TEN's part alone. -/
theorem State.takeToken_eq {s s1 : State} {c : Nat} (h : s.takeToken c = some s1) : ∃ x, s1 = { s with ten := x } := by
  obtain ⟨y, hy⟩ := s.refill_eq c
  unfold State.takeToken at h
  simp only [hy] at h
  split at h
  · cases h
    exact ⟨s.ten, rfl⟩
  · split at h
    · cases h
      exact ⟨_, rfl⟩
    · cases h

theorem Scn.noteOutcome_lanes (x : Scn) (t status : Nat) (result : Word) (clk : Nat) :
    (x.noteOutcome t status result clk).lanes = x.lanes := by
  unfold Scn.noteOutcome
  split <;> rfl

theorem tenRate_not_begun (c : Nat) : Reg.TEN_CTXc_RATE c ∉ Reg.OPT_HWM :: irqRegs Blk.OPT := by
  simp only [irqRegs, List.mem_cons, List.not_mem_nil, or_false, Reg.TEN_CTXc_RATE, Reg.OPT_HWM, Reg.IRQ_STAT, Reg.MSIX_PBA]
  omega

theorem scnRuns_not_begun {n : Nat} (h : n < 16) : Reg.SCN_TnRUNS n ∉ Reg.OPT_HWM :: irqRegs Blk.OPT := by
  simp only [irqRegs, List.mem_cons, List.not_mem_nil, or_false, Reg.SCN_TnRUNS, Reg.OPT_HWM, Reg.IRQ_STAT, Reg.MSIX_PBA]
  omega

section
variable {s s1 : State} {lane : Nat} {r : Run} {w : Word} {m : Bool} {a t : Nat}

theorem State.runOn_putRun (s : State) (r : Run) : (s.putRun r).runOn r.lane = some r := by
  simp only [State.runOn, State.putRun, tfind?_tput, if_true]

/-- What an operation's beginning leaves of what SEND and STK read afterwards. -/
theorem State.begun_spec {producer block opcode ctx ms : Nat} {param : BitVec 384}
    (h : s.beginInternal producer block opcode ctx ms param = some (t, s1)) :
    OnlyChanges [.regs, .out, .opt] s s1 ∧ (s1.slot t).st = .active ∧ (s1.slot t).block = block ∧ (s1.slot t).opcode = opcode
      ∧ ∀ off, off ∉ Reg.OPT_HWM :: irqRegs Blk.OPT → s1.reg off = s.reg off := by
  rw [State.beginInternal_eq h]
  refine ⟨s.beginAt_onlyChanges t _, ?_, ?_, ?_, s.beginAt_onlyRegs t _⟩
  all_goals rw [State.beginAt_slot, if_pos rfl]
  all_goals rfl

theorem State.bank_setBank (s : State) (b : Bool) (k : Bank) : (s.setBank b (some k)).bank b = k := by
  cases b <;> rfl

theorem State.setBank_remote (s : State) (b : Bool) (k : Option Bank) : (s.setBank b k).scn.remote = s.scn.remote := by
  cases b <;> rfl

theorem State.setBank_nextWrite (s : State) (b : Bool) (k : Option Bank) : (s.setBank b k).scn.nextWrite = s.scn.nextWrite := by
  cases b <;> rfl

theorem State.setBank_opens (s : State) (b : Bool) (k : Option Bank) : (s.setBank b k).scn.opens = s.scn.opens := by
  cases b <;> rfl

/-- The one remote write of a run that had none open. -/
theorem State.issueRemote_remote {s v : State} {r : Run} {st : Station} {gid ty ep : Nat} {x : Dword} {tag : Option Nat}
    (hremote : v.scn.remote = []) (hnext : v.scn.nextWrite = s.scn.nextWrite)
    (hruns : v.num (Reg.SCN_TnRUNS r.task) = s.num (Reg.SCN_TnRUNS r.task)) (hlat : v.lat = s.lat) :
    (v.issueRemote r st gid ty x ep tag).scn.remote
      = [⟨s.scn.nextWrite, r.task, s.num (Reg.SCN_TnRUNS r.task), ep, st, gid, ty, x, tag, .inRun, s.chain⟩] := by
  simp only [State.issueRemote, hremote, hnext, hruns, State.chain, hlat, List.nil_append]

theorem State.setBank_slot (s : State) (b : Bool) (k : Option Bank) (i : Nat) : (s.setBank b k).slot i = s.slot i := rfl

theorem State.bank_congr {s t : State} (ha : t.scn.bankA = s.scn.bankA) (hb : t.scn.bankB = s.scn.bankB) (b : Bool) :
    t.bank b = s.bank b := by
  simp only [State.bank, ha, hb]

/-- Why a SEND's target is refused: never for want of a tag (R264). -/
theorem State.sendTarget_error_ne (s : State) (r : Run) (gid : Nat) : s.sendTarget r gid ≠ .error Res.NO_TAG := by
  unfold State.sendTarget
  simp only
  split
  · simp
  · repeat' split
    all_goals simp

theorem State.latRefusal_eq_none (s : State) {opc : Nat} (h1 : 1 ≤ opc) (h4 : opc ≤ 4) (hen : s.en Blk.LAT = true)
    (hsrst : s.inSrst Blk.LAT = false) : s.latRefusal opc = none := by
  unfold State.latRefusal
  rw [if_neg (by omega), if_neg (by simp [hsrst]), if_neg (by simp [hen])]

/-- What SCN notes before a bucket is asked leaves the bucket as it was. -/
theorem State.takeToken_begun {s2 : State} {c : Nat} (hch : OnlyChanges [.regs, .out, .opt] s s1)
    (hreg : ∀ off, off ∉ Reg.OPT_HWM :: irqRegs Blk.OPT → s1.reg off = s.reg off) (h2 : ∃ x, s2 = { s1 with scn := x }) :
    s2.takeToken c = none ↔ s.takeToken c = none := by
  have hs1 : s1.takeToken c = none ↔ s.takeToken c = none :=
    State.takeToken_congr (hch.2.2 .ten (by simp)) hch.2.1 (hreg _ (tenRate_not_begun c))
  obtain ⟨x, rfl⟩ := h2
  rw [← hs1]
  exact State.takeToken_congr rfl rfl rfl

/-! ### SEND -/

/-- SEND with CB = 1, its record not BUSY. -/
theorem State.scnSend_spec (hup : s.Up) (h : s.AtInsn lane r 0xC2 w) (hrec : s.recordAt r.past w 16 [0x40] = .ok (m, a))
    (hcb : r.fr.cb = true) (hbusy : bitOf ((s.bank r.bankB).recByte m (a + 5)).toNat 0 = false) {st : Station} {ty gid : Nat}
    (hgid : gid = readLe ((s.bank r.bankB).recByte m) (a + 8) 4 % 2 ^ 22) (htgt : s.sendTarget r gid = .ok (st, ty))
    (hbeg : s.beginInternal Blk.SCN Blk.SCN 0xC2 (s.runCtx r) (recTimeout (readLe ((s.bank r.bankB).recByte m) (a + 14) 2)) 0
      = some (t, s1)) :
    ∃ s2, s2 = s1.setBank r.bankB (some (((s.bank r.bankB).putIssued m a t (s1.slot t).gen).putRec m (a + 7) 1 0)) ∧
      (s2.takeToken (s.runCtx r) = none → exec (.scnSend lane) s = .next (s.guarded
        ((((s2.openRecord ⟨r.task, m, a, false, t, false, none⟩).countRateDrop (s.runCtx r)).decideOp t St.FAIL_DENIED 0).putRun r.past))) ∧
      (∀ s3, s2.takeToken (s.runCtx r) = some s3 → exec (.scnSend lane) s = .next (s.guarded
        (((s3.issueRemote r.past st gid ty (normValue ty r.a1) r.epoch (some t)).openRecord ⟨r.task, m, a, false, t, false, none⟩).putRun r.past))) := by
  subst hgid
  refine ⟨_, rfl, fun htok => State.issue_next hup h ?_, fun s3 htok => State.issue_next hup h ?_⟩ <;>
  · simp only [hrec, show r.past.fr.cb = true from hcb, show r.past.bankB = r.bankB from rfl, hbusy, htgt, hbeg, htok,
      show s.sendTarget r.past = s.sendTarget r from rfl, show s.runCtx r.past = s.runCtx r from rfl,
      Bool.not_true, Bool.false_eq_true, if_false]
    rfl

/-- STK with CB = 1, its record not BUSY, on a LAT that takes the edit. -/
theorem State.scnStk_spec (hup : s.Up) (h : s.AtInsn lane r 0xC5 w) (hrec : s.recordAt r.past w 64 [0x41] = .ok (m, a))
    (hcb : r.fr.cb = true) (hbusy : bitOf ((s.bank r.bankB).recByte m (a + 5)).toNat 0 = false) {opc : Nat}
    (hopc : opc = ((s.bank r.bankB).recByte m (a + 7)).toNat) (hlat : s.latRefusal opc = none)
    (hbeg : s.beginInternal Blk.SCN Blk.LAT opc (s.runCtx r) (recTimeout (readLe ((s.bank r.bankB).recByte m) (a + 14) 2))
      (BitVec.ofNat 384 (readLe ((s.bank r.bankB).recByte m) (a + 16) 48)) = some (t, s1)) :
    ∃ s2, s2 = (s1.setBank r.bankB (some ((s.bank r.bankB).putIssued m a t (s1.slot t).gen))).openRecord ⟨r.task, m, a, true, t, false, none⟩
      ∧ ∀ s3, s2.takeToken (s.runCtx r) = some s3 → exec (.scnStk lane) s = .next (s.guarded (s3.putRun r.past)) := by
  subst hopc
  refine ⟨_, rfl, fun s3 htok => State.issue_next hup h ?_⟩
  simp only [hrec, show r.past.fr.cb = true from hcb, show r.past.bankB = r.bankB from rfl, hbusy, hbeg, hlat,
    show s.runCtx r.past = s.runCtx r from rfl, Bool.not_true, Bool.false_eq_true, if_false]
  simp only [show r.past.task = r.task from rfl, htok]

end

/-- Settles O26: each instruction's answer; SEND and STK hand an operation's begun slot on. -/
theorem trackedWritesAndClock : Obligations.TrackedWritesAndClock := by
  unfold Obligations.TrackedWritesAndClock
  intro s lane r w m a k hup hk
  subst hk
  refine ⟨?clk, ?chnF, ?chnS, State.issueRun_next hup, State.issueRun_next hup, ?send, ?stk⟩
  case clk =>
    intro ok hok h
    subst hok
    constructor
    · intro hf
      refine State.issue_puts hup h ?_
      simp only [show s.runF r.past = true from hf, if_true]
      rfl
    · intro hf
      refine State.issue_puts hup h ?_
      simp only [show s.runF r.past = false from hf, Bool.false_eq_true, if_false]
      rfl
  case chnF =>
    intro h hf
    refine State.issue_puts hup h ?_
    simp only [show s.runF r.past = true from hf, if_true]
    rfl
  case chnS =>
    intro h hf
    refine State.issue_puts hup h ?_
    simp only [show s.runF r.past = false from hf, Bool.false_eq_true, if_false]
  case send =>
    intro h hrec
    refine ⟨fun hcb => ?_, fun hcb hbusy => ?_, fun gid hcb hbusy hgid => ⟨fun res htgt => ?_, ?_, ?_, ?_⟩⟩
    · refine State.issue_puts hup h ?_
      simp only [hrec, show r.past.fr.cb = false from hcb, Bool.not_false, if_true]
    · refine State.issue_stores hup h ?_
      simp only [hrec, show r.past.fr.cb = true from hcb, show r.past.bankB = r.bankB from rfl, hbusy, Bool.not_true,
        Bool.false_eq_true, if_false, if_true]
      rfl
    · subst hgid
      have hres : res ≠ 1 := by
        rintro rfl
        exact s.sendTarget_error_ne r _ htgt
      refine State.issue_stores hup h ?_
      simp only [hrec, show r.past.fr.cb = true from hcb, show r.past.bankB = r.bankB from rfl, hbusy,
        show s.sendTarget r.past = s.sendTarget r from rfl, htgt, Bool.not_true, Bool.false_eq_true, if_false, if_neg hres]
      rfl
    · intro st ty t s1 htgt hbeg htok hopens hremote htask
      obtain ⟨s2, hs2, -, hsend⟩ := State.scnSend_spec hup h hrec hcb hbusy hgid htgt hbeg
      obtain ⟨hch, hact, -, -, hreg⟩ := State.begun_spec hbeg
      have hscn : s1.scn = s.scn := hch.2.2 .scn (by simp)
      obtain ⟨s3, hs3⟩ := Option.ne_none_iff_exists'.1 fun hn => htok ((State.takeToken_begun (s2 := s2) hch hreg ⟨_, hs2⟩).1 hn)
      obtain ⟨x, rfl⟩ := State.takeToken_eq hs3
      subst hs2
      refine ⟨_, hsend _ hs3, State.runOn_putRun _ _, hact, ?_, ?_, ?_, hch.2.2 .points (by simp)⟩
      · have hruns : s1.num (Reg.SCN_TnRUNS r.task) = s.num (Reg.SCN_TnRUNS r.task) := State.num_congr (hreg _ (scnRuns_not_begun htask))
        exact State.issueRemote_remote (s := s) ((State.setBank_remote _ _ _).trans ((congrArg Scn.remote hscn).trans hremote))
          ((State.setBank_nextWrite _ _ _).trans (congrArg Scn.nextWrite hscn)) hruns (hch.2.2 .lat (by simp))
      · exact State.bank_setBank _ _ _
      · exact (congrArg (· ++ [_]) ((State.setBank_opens _ _ _).trans ((congrArg Scn.opens hscn).trans hopens)))
    · intro st ty t s1 htgt hbeg htok
      obtain ⟨s2, hs2, hsend, -⟩ := State.scnSend_spec hup h hrec hcb hbusy hgid htgt hbeg
      obtain ⟨hch, hact, -, -, hreg⟩ := State.begun_spec hbeg
      refine ⟨_, hsend ((State.takeToken_begun (s2 := s2) hch hreg ⟨_, hs2⟩).2 htok), ?_, State.runOn_putRun _ _, ?_⟩
      · have hdec := State.decideOp_slot ((s2.openRecord ⟨r.task, m, a, false, t, false, none⟩).countRateDrop (s.runCtx r)) t t St.FAIL_DENIED 0
        have hslot : (((s2.openRecord ⟨r.task, m, a, false, t, false, none⟩).countRateDrop (s.runCtx r)).slot t) = s1.slot t := by
          refine State.slot_congr _ _ ?_ t
          simp only [State.countRateDrop, State.raiseIrq_opt, State.satInc_opt]
          rw [hs2]
          rfl
        rw [hslot, if_pos rfl] at hdec
        exact ⟨congrArg Slot.st (hdec hact), congrArg Slot.status (hdec hact), congrArg Slot.result (hdec hact)⟩
      · refine (State.decideOp_points _ t St.FAIL_DENIED 0).trans ?_
        simp only [State.countRateDrop, State.raiseIrq_points, State.satInc_points]
        rw [hs2]
        exact hch.2.2 .points (by simp)
    · intro st ty htgt hbeg
      subst hgid
      rw [exec, execScnSend, State.issue_next hup h (s' := (s.countTagWait.setBank r.bankB (some ((s.bank r.bankB).putRec m (a + 7) 1 1))).putRun
            { r.past with fr := { r.fr with cb := false } }) ?_]
      · exact congrArg _ (OnlyChanges.guarded_eq (ps := [.regs, .out, .scn]) (by simp [onlyChanges_iff, State.putRun, State.setBank, State.countTagWait]) (by simp))
      · simp only [hrec, show r.past.fr.cb = true from hcb, show r.past.bankB = r.bankB from rfl, hbusy,
          show s.sendTarget r.past = s.sendTarget r from rfl, show s.runCtx r.past = s.runCtx r from rfl, htgt, hbeg,
          Bool.not_true, Bool.false_eq_true, if_false, if_true]
        rfl
  case stk =>
    intro h hrec
    refine ⟨fun hcb => ?_, fun hcb hbusy => ?_, fun opc t s1 hcb hbusy hopc h1 h4 hen hsrst hbeg htok hopens => ?_⟩
    · refine State.issue_puts hup h ?_
      simp only [hrec, show r.past.fr.cb = false from hcb, Bool.not_false, if_true]
    · refine State.issue_puts hup h ?_
      simp only [hrec, show r.past.fr.cb = true from hcb, show r.past.bankB = r.bankB from rfl, hbusy, Bool.not_true,
        Bool.false_eq_true, if_false, if_true]
      rfl
    · obtain ⟨s2, hs2, hstk⟩ := State.scnStk_spec hup h hrec hcb hbusy hopc (s.latRefusal_eq_none h1 h4 hen hsrst) hbeg
      obtain ⟨hch, hact, hblock, hopcode, hreg⟩ := State.begun_spec hbeg
      have hscn : s1.scn = s.scn := hch.2.2 .scn (by simp)
      obtain ⟨s3, hs3⟩ := Option.ne_none_iff_exists'.1 fun hn => htok ((State.takeToken_begun (s2 := s2) hch hreg ⟨_, hs2⟩).1 hn)
      obtain ⟨x, rfl⟩ := State.takeToken_eq hs3
      subst hs2
      refine ⟨_, hstk _ hs3, State.runOn_putRun _ _, hact, hblock, hopcode, State.bank_setBank _ _ _, ?_⟩
      exact (congrArg (· ++ [_]) ((State.setBank_opens _ _ _).trans ((congrArg Scn.opens hscn).trans hopens)))

end Sys2Proof.Machine

/-! PROOFS. The end of an operation that no other module asked for (R74). -/

namespace Sys2Proof.Machine

-- One declaration after the other: the stacks of parallel elaboration would count against the memory limit of the check.
set_option Elab.async false

theorem State.together_of_alone {s : State} (h : s.Alone) : s.together = false := by
  obtain ⟨hp, hl⟩ := h
  simp [State.together, hp, hl]

/-- With nothing else in its SYS cycle a command that would give way acts at once. -/
theorem State.yielding_of_alone {s : State} (h : s.Alone) (rank : Nat) (l : Late) (f : State → State) :
    s.yielding rank l f = f s := by
  simp only [State.yielding, State.together_of_alone h, Bool.false_eq_true, if_false]

section
variable {s : State} {k b op : Nat} {x : Slot}

/-- The end of an operation of no other module and not of STO: OPT's part and SCN's notes alone change. -/
theorem State.decideOp_here (hserv : tfind? s.hlk.serving k = none) (hact : (s.slot k).st = .active)
    (hblock : (s.slot k).block ≠ Blk.STO) (status : Nat) (result : Word) :
    ∃ o, s.decideOp k status result = { s with opt := o, scn := s.scn.noteOutcome k status result s.clk } := by
  rw [State.decideOp_own s k status result hact hserv]
  simp only [State.decidedOwn, if_neg hblock]
  exact ⟨_, rfl⟩

theorem State.decideOp_ended (hact : (s.slot k).st = .active) (status : Nat) (result : Word) :
    (s.decideOp k status result).Ended k status result := by
  have h := (State.decideOp_slot s k k status result hact).trans (if_pos rfl)
  exact ⟨congrArg Slot.st h, congrArg Slot.status h, congrArg Slot.result h⟩

theorem State.decideOp_onlyChanges (hserv : tfind? s.hlk.serving k = none) (hact : (s.slot k).st = .active)
    (hblock : (s.slot k).block ≠ Blk.STO) (status : Nat) (result : Word) :
    OnlyChanges [.opt, .scn] s (s.decideOp k status result) := by
  obtain ⟨o, h⟩ := State.decideOp_here hserv hact hblock status result
  simp [h, onlyChanges_iff]

end

/-- An operation `k` of block `b` as `a` finds it: ACTIVE, and asked for here (R74). -/
structure State.Serves (a : State) (k b : Nat) : Prop where
  serving : tfind? a.hlk.serving k = none
  active : (a.slot k).st = .active
  block : (a.slot k).block = b

section
variable {s a : State} {k b op : Nat} {x : Slot}

theorem State.serves_of_activeOp (hserv : tfind? s.hlk.serving k = none) (h : s.activeOp k b op = some x) : s.Serves k b := by
  obtain ⟨rfl, hact, hblock, -, -⟩ := s.activeOp_some k b op x h
  exact ⟨hserv, hact, hblock⟩

/-- What leaves OPT's and HLK's parts alone leaves the operation. -/
theorem State.Serves.congr (h : s.Serves k b) (hopt : a.opt.slots = s.opt.slots) (hhlk : a.hlk = s.hlk) : a.Serves k b := by
  have hslot : a.slot k = s.slot k := State.slot_congr s a hopt k
  exact ⟨by rw [hhlk]; exact h.serving, by rw [hslot]; exact h.active, by rw [hslot]; exact h.block⟩

theorem State.Serves.frame (h : s.Serves k b) {ps : List Part} (hf : OnlyChanges ps s a) (ho : Part.opt ∉ ps := by simp)
    (hh : Part.hlk ∉ ps := by simp) : a.Serves k b :=
  h.congr (congrArg Opt.slots (hf.2.2 .opt ho)) (hf.2.2 .hlk hh)

theorem State.Serves.ended (h : s.Serves k b) (status : Nat) (result : Word) : (s.decideOp k status result).Ended k status result :=
  State.decideOp_ended h.active status result

theorem State.Serves.onlyChanges (h : s.Serves k b) (hb : b ≠ Blk.STO) (status : Nat) (result : Word) :
    OnlyChanges [.opt, .scn] s (s.decideOp k status result) :=
  State.decideOp_onlyChanges h.serving h.active (h.block ▸ hb) status result

/-- The end of an operation changes no register. -/
theorem State.Serves.reg (h : s.Serves k b) (hb : b ≠ Blk.STO) (status : Nat) (result : Word) (off : Nat) :
    (s.decideOp k status result).reg off = s.reg off :=
  State.reg_congr _ _ ((h.onlyChanges hb status result).2.2 .regs (by simp)) off

end

end Sys2Proof.Machine

/-! PROOFS. Survey (R582, R583), the interval timers and the host's claims (R66 to R68, R584, R585). -/

namespace Sys2Proof.Machine

-- One declaration after the other: the stacks of parallel elaboration would count against the memory limit of the check.
set_option Elab.async false

/-! ### The registers that a block's latch writes -/

/-- An offset of block `b`'s snapshot window, of its snapshot tables, or of its STAT. -/
def inSnap (b off : Nat) : Prop :=
  off / 0x40000 = b ∧ (off % 0x40000 = 0x0C ∨ 0x40 ≤ off % 0x40000 ∧ off % 0x40000 < 0x80 ∨ 0x5000 ≤ off % 0x40000)

theorem not_inSnap_of_block {b off : Nat} (h : off / 0x40000 ≠ b) : ¬ inSnap b off := fun hs => h hs.1

theorem State.snapWords_length (s : State) (b : Nat) : (s.snapWords b).length ≤ 10 := by
  unfold State.snapWords State.emuSnap State.rtcSnap State.lpeSnap
  split <;> simp

section
variable {s : State} {b off : Nat}

theorem State.setNum_reg_outside (h : ¬ inSnap b off) {o v : Nat} (ho : inSnap b o) : (s.setNum o v).reg off = s.reg off :=
  s.setNum_reg_other o v off fun e => h (e ▸ ho)

theorem State.setNums_reg_other (l : List (Nat × Nat)) (hl : ∀ e ∈ l, Reg.SNAP_DATA b e.2 ≠ off) :
    (l.foldl (fun a (e : Nat × Nat) => a.setNum (Reg.SNAP_DATA b e.2) e.1) s).reg off = s.reg off := by
  induction l generalizing s with
  | nil => rfl
  | cons e l ih =>
    rw [List.foldl_cons, ih (fun f hf => hl f (List.mem_cons_of_mem e hf)), State.setNum_reg_other _ _ _ _ (hl e List.mem_cons_self)]

theorem State.setNums_onlyChanges (l : List (Nat × Nat)) (s : State) :
    OnlyChanges [.regs] s (l.foldl (fun a (e : Nat × Nat) => a.setNum (Reg.SNAP_DATA b e.2) e.1) s) := by
  induction l generalizing s with
  | nil => exact .refl _ s
  | cons e l ih => exact (s.setNum_onlyChanges _ _).trans (ih _)

/-- A register that no step of a fold over the numbers below `n` writes. -/
theorem State.forN_reg_below (s : State) (n : Nat) {f : State → Nat → State} (h : ∀ a i, i < n → (f a i).reg off = a.reg off) :
    (s.forN n f).reg off = s.reg off := by
  induction n with
  | zero => rfl
  | succ n ih =>
    rw [State.forN_succ, h _ n (Nat.lt_succ_self n)]
    exact ih fun a i hi => h a i (Nat.lt_succ_of_lt hi)

theorem State.snapTables_onlyChanges (s : State) (b : Nat) : OnlyChanges [.regs] s (s.snapTables b) := by
  unfold State.snapTables
  split
  · exact State.forN_keeps _ _ _ (.refl _ s) fun a p h => h.trans (a.setNum_onlyChanges _ _)
  · exact State.forN_keeps _ _ _ (.refl _ s) fun a p h => h.trans (a.setNum_onlyChanges _ _)
  · exact .refl _ s

/-- The tables lie in their block's window from 5000h on. -/
theorem State.snapTables_reg_outside (h : off / 0x40000 ≠ b ∨ off % 0x40000 < 0x5000) : (s.snapTables b).reg off = s.reg off := by
  unfold State.snapTables
  split
  · refine s.forN_reg_below 48 fun a p hp => a.setNum_reg_other _ _ off ?_
    simp only [Reg.PSE_SNAP_PnPWR]
    omega
  · refine s.forN_reg_below 96 fun a p hp => a.setNum_reg_other _ _ off ?_
    simp only [Reg.LPE_SNAP_LnOUT]
    omega
  · rfl

/-- A latch's state before its tables and SNAP_VALID. -/
def State.snapped (s : State) (b skew : Nat) : State :=
  let s1 := (s.setNum (Reg.SNAP_SEQ b) (s.fld Reg.SUP_SURVEY_STAT 0 16 + skew * 2 ^ 16)).setNum64 (Reg.SNAP_CHAINAGE_LO b) s.sup.surveyCh
  let s2 := (s1.setNum (Reg.SNAP_TB0_SEC b) s.sup.surveySec).setNum (Reg.SNAP_TB0_NS b) s.sup.surveyNs
  (s2.snapWords b).zipIdx.foldl (fun a (e : Nat × Nat) => a.setNum (Reg.SNAP_DATA b e.2) e.1) s2

theorem State.latchSnap_of_ne_emu (s : State) {b : Nat} (skew : Nat) (h : b ≠ Blk.EMU) :
    s.latchSnap b skew = ((s.snapped b skew).snapTables b).setFlag (Reg.STAT b) 3 true := by
  simp only [State.latchSnap, if_neg h]
  rfl

/-- EMU's latch notes its instant too. -/
theorem State.latchSnap_emu (s : State) (skew : Nat) : ∃ x, s.latchSnap Blk.EMU skew =
    (({ s.snapped Blk.EMU skew with emu := x } : State).setFlag (Reg.STAT Blk.EMU) 3 true) :=
  ⟨_, rfl⟩

theorem State.withEmu_setFlag_regs (s : State) (x : Emu) (o i : Nat) (v : Bool) :
    ({ s with emu := x } : State).setFlag o i v = { s.setFlag o i v with emu := x } := rfl

theorem State.latchSnap_emu_regs (s : State) (skew : Nat) :
    (s.latchSnap Blk.EMU skew).regs = ((s.snapped Blk.EMU skew).setFlag (Reg.STAT Blk.EMU) 3 true).regs := by
  obtain ⟨x, e⟩ := s.latchSnap_emu skew
  rw [e, State.withEmu_setFlag_regs]

theorem State.snapped_onlyChanges (s : State) (b skew : Nat) : OnlyChanges [.regs] s (s.snapped b skew) := by
  refine OnlyChanges.trans ?_ (State.setNums_onlyChanges _ _)
  exact ((((s.setNum_onlyChanges _ _).trans (State.setNum64_onlyChanges _ _ _)).trans (State.setNum_onlyChanges _ _ _)).trans
    (State.setNum_onlyChanges _ _ _))

theorem State.withEmu_onlyChanges (s : State) (x : Emu) : OnlyChanges [.regs, .emu] s { s with emu := x } := by
  simp [onlyChanges_iff]

theorem State.latchSnap_onlyChanges (s : State) {b : Nat} (skew : Nat) (h : b ≠ Blk.EMU) : OnlyChanges [.regs] s (s.latchSnap b skew) := by
  rw [s.latchSnap_of_ne_emu skew h]
  exact ((s.snapped_onlyChanges b skew).trans (State.snapTables_onlyChanges _ _)).trans (State.setFlag_onlyChanges _ _ _ _)

theorem State.latchSnap_onlyChanges_emu (s : State) (b skew : Nat) : OnlyChanges [.regs, .emu] s (s.latchSnap b skew) := by
  by_cases h : b = Blk.EMU
  · subst h
    obtain ⟨x, e⟩ := s.latchSnap_emu skew
    rw [e]
    exact (((s.snapped_onlyChanges Blk.EMU skew).mono (by simp)).trans (State.withEmu_onlyChanges _ x)).trans
      ((State.setFlag_onlyChanges _ _ _ _).mono (by simp))
  · exact (s.latchSnap_onlyChanges skew h).mono (by simp)

theorem State.snapped_reg_outside (h : ¬ inSnap b off) (skew : Nat) : (s.snapped b skew).reg off = s.reg off := by
  have hw : ∀ o, 0x40 ≤ o → o < 0x80 → inSnap b (b * 0x40000 + o) := by
    intro o h1 h2
    simp only [inSnap]
    omega
  unfold State.snapped
  simp only
  rw [State.setNums_reg_other]
  · simp only [State.setNum64]
    rw [State.setNum_reg_outside h (hw 0x50 (by decide) (by decide)), State.setNum_reg_outside h (hw 0x4C (by decide) (by decide)),
      State.setNum_reg_outside h (hw 0x48 (by decide) (by decide)), State.setNum_reg_outside h (hw 0x44 (by decide) (by decide)),
      State.setNum_reg_outside h (hw 0x40 (by decide) (by decide))]
  · intro e he
    have hlt := List.snd_lt_of_mem_zipIdx he
    have hlen := State.snapWords_length (((s.setNum (Reg.SNAP_SEQ b) (s.fld Reg.SUP_SURVEY_STAT 0 16 + skew * 2 ^ 16)).setNum64
      (Reg.SNAP_CHAINAGE_LO b) s.sup.surveyCh).setNum (Reg.SNAP_TB0_SEC b) s.sup.surveySec |>.setNum (Reg.SNAP_TB0_NS b) s.sup.surveyNs) b
    rintro rfl
    refine h ?_
    simp only [inSnap, Reg.SNAP_DATA]
    omega

/-- A block's latch writes its own snapshot registers and its STAT alone (R582). -/
theorem State.latchSnap_reg_outside (h : ¬ inSnap b off) (skew : Nat) : (s.latchSnap b skew).reg off = s.reg off := by
  have hstat : Reg.STAT b ≠ off := by
    rintro rfl
    exact h (by simp only [inSnap, Reg.STAT]; omega)
  have hout : off / 0x40000 ≠ b ∨ off % 0x40000 < 0x5000 := by
    simp only [inSnap] at h
    omega
  by_cases hb : b = Blk.EMU
  · subst hb
    rw [State.reg_congr _ _ (s.latchSnap_emu_regs skew) off, State.setFlag_reg_other _ _ _ _ _ hstat]
    exact State.snapped_reg_outside h skew
  · rw [s.latchSnap_of_ne_emu skew hb, State.setFlag_reg_other _ _ _ _ _ hstat, State.snapTables_reg_outside hout,
      State.snapped_reg_outside h]

theorem State.latchSnap_valid (s : State) (b skew : Nat) : (s.latchSnap b skew).flag (Reg.STAT b) 3 = true :=
  State.setFlag_flag_same _ _ _ _ (by decide)

theorem snapData_ne_seq (b n : Nat) : Reg.SNAP_DATA b n ≠ Reg.SNAP_SEQ b := by
  simp only [Reg.SNAP_SEQ, Reg.SNAP_DATA]
  omega

/-- A latch's own SNAP_SEQ: the Survey's number with the skew (R582). -/
theorem State.latchSnap_seq (s : State) (b skew : Nat) : (s.latchSnap b skew).num (Reg.SNAP_SEQ b)
    = (s.fld Reg.SUP_SURVEY_STAT 0 16 + skew * 2 ^ 16) % 2 ^ 32 := by
  have hstat : Reg.STAT b ≠ Reg.SNAP_SEQ b := by simp only [Reg.STAT, Reg.SNAP_SEQ]; omega
  have hlow : Reg.SNAP_SEQ b % 0x40000 < 0x5000 := by simp only [Reg.SNAP_SEQ]; omega
  have hne : ∀ o, o ≠ 0x40 → b * 0x40000 + o ≠ Reg.SNAP_SEQ b := by
    intro o ho
    simp only [Reg.SNAP_SEQ]
    omega
  have hsnap : (s.snapped b skew).num (Reg.SNAP_SEQ b) = (s.fld Reg.SUP_SURVEY_STAT 0 16 + skew * 2 ^ 16) % 2 ^ 32 := by
    refine Eq.trans (State.num_congr ?_) (s.setNum_num_same (Reg.SNAP_SEQ b) _)
    unfold State.snapped
    simp only [State.setNum64]
    rw [State.setNums_reg_other, State.setNum_reg_other _ _ _ _ (hne 0x50 (by decide)), State.setNum_reg_other _ _ _ _ (hne 0x4C (by decide)),
      State.setNum_reg_other _ _ _ _ (hne 0x48 (by decide)), State.setNum_reg_other _ _ _ _ (hne 0x44 (by decide))]
    exact fun e _ => snapData_ne_seq b e.2
  by_cases hb : b = Blk.EMU
  · subst hb
    rw [State.num_congr (State.reg_congr _ _ (s.latchSnap_emu_regs skew) _), State.num_congr (State.setFlag_reg_other _ _ _ _ _ hstat)]
    exact hsnap
  · rw [s.latchSnap_of_ne_emu skew hb, State.num_congr (State.setFlag_reg_other _ _ _ _ _ hstat),
      State.num_congr (State.snapTables_reg_outside (Or.inr hlow))]
    exact hsnap

/-! ### A row of latches -/

/-- These blocks latch in this order. -/
def State.latchAll (s : State) (l : List (Nat × Nat)) : State := l.foldl (fun a e => a.latchSnap e.1 e.2) s

theorem State.latchAll_cons (s : State) (e : Nat × Nat) (l : List (Nat × Nat)) :
    s.latchAll (e :: l) = (s.latchSnap e.1 e.2).latchAll l := rfl

theorem State.latchAll_reg_outside (l : List (Nat × Nat)) (h : ∀ e ∈ l, ¬ inSnap e.1 off) : (s.latchAll l).reg off = s.reg off := by
  induction l generalizing s with
  | nil => rfl
  | cons e l ih =>
    rw [State.latchAll_cons, ih fun f hf => h f (List.mem_cons_of_mem e hf), State.latchSnap_reg_outside (h e List.mem_cons_self)]

theorem State.latchAll_onlyChanges_emu (s : State) (l : List (Nat × Nat)) : OnlyChanges [.regs, .emu] s (s.latchAll l) := by
  induction l generalizing s with
  | nil => exact .refl _ s
  | cons e l ih => exact (s.latchSnap_onlyChanges_emu e.1 e.2).trans (ih _)

theorem State.latchAll_onlyChanges (s : State) (l : List (Nat × Nat)) (h : ∀ e ∈ l, e.1 ≠ Blk.EMU) : OnlyChanges [.regs] s (s.latchAll l) := by
  induction l generalizing s with
  | nil => exact .refl _ s
  | cons e l ih => exact (s.latchSnap_onlyChanges e.2 (h e List.mem_cons_self)).trans (ih _ fun f hf => h f (List.mem_cons_of_mem e hf))

theorem surveyStat_not_inSnap (b : Nat) : ¬ inSnap b Reg.SUP_SURVEY_STAT := by
  rintro ⟨-, h⟩
  revert h
  decide

theorem seq_inSnap (b : Nat) : Reg.SNAP_SEQ b / 0x40000 = b := by simp only [Reg.SNAP_SEQ]; omega

theorem stat_div (b : Nat) : Reg.STAT b / 0x40000 = b := by simp only [Reg.STAT]; omega

/-- Each of a row of different blocks holds its own latch at the end (R582). -/
theorem State.latchAll_latched {l : List (Nat × Nat)} (hnd : (l.map (·.1)).Nodup) {e : Nat × Nat} (he : e ∈ l) :
    (s.latchAll l).flag (Reg.STAT e.1) 3 = true
      ∧ (s.latchAll l).num (Reg.SNAP_SEQ e.1) = (s.fld Reg.SUP_SURVEY_STAT 0 16 + e.2 * 2 ^ 16) % 2 ^ 32 := by
  induction l generalizing s with
  | nil => cases he
  | cons f l ih =>
    rw [List.map_cons, List.nodup_cons] at hnd
    obtain ⟨hf, hnd⟩ := hnd
    rw [State.latchAll_cons]
    obtain rfl | he := List.mem_cons.1 he
    · have hout : ∀ o, o / 0x40000 = e.1 → ((s.latchSnap e.1 e.2).latchAll l).reg o = (s.latchSnap e.1 e.2).reg o := by
        intro o ho
        refine State.latchAll_reg_outside l fun g hg => not_inSnap_of_block fun h => hf ?_
        rw [← ho, h]
        exact List.mem_map_of_mem hg
      exact ⟨(State.flag_congr _ _ _ _ (hout _ (stat_div _))).trans (s.latchSnap_valid _ _),
        (State.num_congr (hout _ (seq_inSnap _))).trans (s.latchSnap_seq _ _)⟩
    · have hstat := State.fld_congr (State.latchSnap_reg_outside (s := s) (surveyStat_not_inSnap f.1) f.2) 0 16
      rw [← hstat]
      exact ih hnd he

end

end Sys2Proof.Machine

/-! PROOFS. The Survey's edge and its end (R582, R583). -/

namespace Sys2Proof.Machine

-- One declaration after the other: the stacks of parallel elaboration would count against the memory limit of the check.
set_option Elab.async false

/-! ### SNAP_VALID is cleared -/

/-- The enabled ones of these blocks clear SNAP_VALID. -/
def State.clearSnaps (s : State) (l : List Nat) : State :=
  l.foldl (fun a b => if a.surveyEn b then a.setFlag (Reg.STAT b) 3 false else a) s

section
variable {s : State} {b off : Nat}

theorem State.clearSnaps_onlyChanges (s : State) (l : List Nat) : OnlyChanges [.regs] s (s.clearSnaps l) := by
  refine List.foldlRecOn l _ (.refl _ s) fun a ha b _ => ?_
  split
  · exact ha.trans (a.setFlag_onlyChanges _ _ _)
  · exact ha

theorem State.clearSnaps_reg_other (l : List Nat) (h : ∀ b, Reg.STAT b ≠ off) : (s.clearSnaps l).reg off = s.reg off := by
  refine List.foldlRecOn (motive := fun a : State => a.reg off = s.reg off) l _ rfl fun a ha b _ => ?_
  split
  · exact (a.setFlag_reg_other _ _ _ _ (h b)).trans ha
  · exact ha

theorem stat_ne_of_mod (h : off % 0x40000 ≠ 0x0C) (b : Nat) : Reg.STAT b ≠ off := by
  simp only [Reg.STAT]
  omega

theorem ctrl_mod (b : Nat) : Reg.CTRL b % 0x40000 = 0x08 := by simp only [Reg.CTRL]; omega

theorem State.surveyEn_congr {s t : State} (h : t.reg (Reg.CTRL b) = s.reg (Reg.CTRL b)) : t.surveyEn b = s.surveyEn b :=
  State.flag_congr s t _ _ h

theorem State.clearSnaps_surveyEn (l : List Nat) : (s.clearSnaps l).surveyEn b = s.surveyEn b :=
  State.surveyEn_congr (State.clearSnaps_reg_other l (stat_ne_of_mod (by rw [ctrl_mod]; decide)))

/-- A SNAP_VALID that is clear stays so. -/
theorem State.clearSnaps_of_clear (l : List Nat) (h : s.flag (Reg.STAT b) 3 = false) : (s.clearSnaps l).flag (Reg.STAT b) 3 = false := by
  refine List.foldlRecOn (motive := fun a : State => a.flag (Reg.STAT b) 3 = false) l _ h fun a ha c _ => ?_
  split
  · by_cases hc : Reg.STAT c = Reg.STAT b
    · rw [hc]
      exact State.setFlag_flag_same _ _ _ _ (by decide)
    · exact (State.flag_congr _ _ _ _ (a.setFlag_reg_other _ _ _ _ hc)).trans ha
  · exact ha

theorem State.clearSnaps_flag {l : List Nat} (hb : b ∈ l) (hen : s.surveyEn b = true) : (s.clearSnaps l).flag (Reg.STAT b) 3 = false := by
  induction l generalizing s with
  | nil => cases hb
  | cons c l ih =>
    have hstep : s.clearSnaps (c :: l) = (s.clearSnaps [c]).clearSnaps l := rfl
    rw [hstep]
    obtain rfl | hb := List.mem_cons.1 hb
    · refine State.clearSnaps_of_clear l ?_
      simp only [State.clearSnaps, List.foldl_cons, List.foldl_nil, hen, if_true]
      exact State.setFlag_flag_same _ _ _ _ (by decide)
    · exact ih hb (State.clearSnaps_surveyEn [c] |>.trans hen)

/-! ### The edge -/

theorem ctrl_not_inSnap (b c : Nat) : ¬ inSnap c (Reg.CTRL b) := by
  rintro ⟨-, h⟩
  rw [ctrl_mod] at h
  omega

/-- The enabled ones of these blocks latch, with no skew. -/
theorem State.latchEnabled_eq (l : List Nat) : l.foldl (fun a b => if a.surveyEn b then a.latchSnap b 0 else a) s
    = s.latchAll ((l.filter s.surveyEn).map (·, 0)) := by
  induction l generalizing s with
  | nil => rfl
  | cons c l ih =>
    rw [List.foldl_cons, ih]
    by_cases hc : s.surveyEn c = true
    · have hen : (s.latchSnap c 0).surveyEn = s.surveyEn :=
        funext fun b => State.surveyEn_congr (State.latchSnap_reg_outside (ctrl_not_inSnap b c) 0)
      rw [if_pos hc, hen, List.filter_cons_of_pos hc]
      rfl
    · rw [if_neg hc, List.filter_cons_of_neg hc]

/-- A Survey's number and source are noted, with BUSY. -/
def State.edgeShown (s : State) (src : Nat) : State :=
  ((s.setFld Reg.SUP_SURVEY_STAT 0 16 (s.fld Reg.SUP_SURVEY_STAT 0 16 + 1)).setFlag Reg.SUP_SURVEY_STAT 16 true).setFld
    Reg.SUP_SURVEY_STAT 18 5 (2 ^ src)

/-- The same with the record of its instant. -/
def State.edgeNoted (s : State) (src : Nat) : State :=
  { s.edgeShown src with sup := { (s.edgeShown src).sup with
    surveyCh := s.chain, surveySec := (s.tb 0).sec, surveyNs := (s.tb 0).ns, surveyClk := some s.clk } }

/-- The state of an edge when the SYS blocks have latched. -/
def State.edgeLatched (s : State) (src : Nat) : State :=
  ((s.edgeNoted src).clearSnaps (surveySys ++ surveyOther.map (·.1))).latchAll ((surveySys.filter s.surveyEn).map (·, 0))

theorem State.withSup_onlyChanges (s : State) (x : Sup) : OnlyChanges [.regs, .sup] s { s with sup := x } := by
  simp [onlyChanges_iff]

theorem State.withSup_reg (s : State) (x : Sup) (off : Nat) : ({ s with sup := x } : State).reg off = s.reg off := rfl

theorem State.edgeShown_onlyChanges (s : State) (src : Nat) : OnlyChanges [.regs] s (s.edgeShown src) :=
  ((s.setFld_onlyChanges _ _ _ _).trans (State.setFlag_onlyChanges _ _ _ _)).trans (State.setFld_onlyChanges _ _ _ _ _)

theorem State.edgeNoted_onlyChanges (s : State) (src : Nat) : OnlyChanges [.regs, .sup] s (s.edgeNoted src) :=
  ((s.edgeShown_onlyChanges src).mono (by simp)).trans (State.withSup_onlyChanges _ _)

theorem State.edgeNoted_reg (s : State) (src off : Nat) : (s.edgeNoted src).reg off = (s.edgeShown src).reg off :=
  State.withSup_reg _ _ off

theorem State.edgeNoted_reg_other (src : Nat) (h : Reg.SUP_SURVEY_STAT ≠ off) : (s.edgeNoted src).reg off = s.reg off := by
  rw [State.edgeNoted_reg, State.edgeShown, State.setFld_reg_other _ _ _ _ _ off h, State.setFlag_reg_other _ _ _ off _ h,
    State.setFld_reg_other _ _ _ _ _ off h]

theorem State.edgeNoted_spec (s : State) {src : Nat} (hsrc : src ≤ 4) :
    (s.edgeNoted src).fld Reg.SUP_SURVEY_STAT 0 16 = (s.fld Reg.SUP_SURVEY_STAT 0 16 + 1) % 2 ^ 16
      ∧ (s.edgeNoted src).fld Reg.SUP_SURVEY_STAT 18 5 = 2 ^ src ∧ (s.edgeNoted src).flag Reg.SUP_SURVEY_STAT 16 = true := by
  have hreg := s.edgeNoted_reg src Reg.SUP_SURVEY_STAT
  rw [State.fld_congr hreg, State.fld_congr hreg, State.flag_congr _ _ _ _ hreg, State.edgeShown]
  refine ⟨?_, ?_, ?_⟩
  · rw [State.setFld_fld_other _ _ 18 5 _ 0 16 (by decide) (by decide), State.setFlag,
      State.setFld_fld_other _ _ 16 1 _ 0 16 (by decide) (by decide), State.setFld_fld_same _ _ _ _ _ (by decide)]
  · rw [State.setFld_fld_same _ _ _ _ _ (by decide)]
    interval_cases src <;> decide
  · rw [State.flag, State.setFld_fld_other _ _ 18 5 _ 16 1 (by decide) (by decide)]
    exact State.setFlag_flag_same _ _ _ _ (by decide)

theorem surveySys_ne_emu : ∀ c ∈ surveySys, c ≠ Blk.EMU := by decide

theorem surveyOther_not_sys : ∀ b ∈ surveyOther.map (·.1), ∀ c ∈ surveySys, b ≠ c := by decide

theorem surveySys_latch_ne_emu (s : State) : ∀ e ∈ (surveySys.filter s.surveyEn).map (fun b => (b, 0)), e.1 ≠ Blk.EMU := by
  intro e he
  obtain ⟨c, hc, rfl⟩ := List.mem_map.1 he
  exact surveySys_ne_emu c (List.mem_filter.1 hc).1

theorem State.edgeLatched_onlyChanges (s : State) (src : Nat) : OnlyChanges [.regs, .sup] s (s.edgeLatched src) := by
  exact (s.edgeNoted_onlyChanges src).trans
    (((State.clearSnaps_onlyChanges _ _).trans (State.latchAll_onlyChanges _ _ (surveySys_latch_ne_emu s))).mono (by simp))

theorem State.edgeLatched_reg_outside (src : Nat) (h : ∀ c, ¬ inSnap c off) : (s.edgeLatched src).reg off = (s.edgeNoted src).reg off := by
  have hstat : ∀ c, Reg.STAT c ≠ off := by
    rintro c rfl
    exact h c (by simp only [inSnap, Reg.STAT]; omega)
  rw [State.edgeLatched, State.latchAll_reg_outside _ fun e _ => h e.1, State.clearSnaps_reg_other _ hstat]

theorem State.edgeLatched_surveyEn (src c : Nat) : (s.edgeLatched src).surveyEn c = s.surveyEn c := by
  refine State.surveyEn_congr ((State.edgeLatched_reg_outside src (ctrl_not_inSnap c)).trans (State.edgeNoted_reg_other src ?_))
  simp only [Reg.CTRL, Reg.SUP_SURVEY_STAT]
  omega

theorem State.surveyEdge_eq (s : State) (src : Nat) : s.surveyEdge src =
    if surveyOther.any (fun e => s.surveyEn e.1) then s.edgeLatched src else (s.edgeLatched src).surveyEnd 0 := by
  have hen : ((s.edgeNoted src).clearSnaps (surveySys ++ surveyOther.map (·.1))).surveyEn = s.surveyEn := by
    refine funext fun c => (State.clearSnaps_surveyEn _).trans (State.surveyEn_congr (State.edgeNoted_reg_other src ?_))
    simp only [Reg.CTRL, Reg.SUP_SURVEY_STAT]
    omega
  have hlatch : surveySys.foldl (fun a b => if a.surveyEn b then a.latchSnap b 0 else a)
      ((s.edgeNoted src).clearSnaps (surveySys ++ surveyOther.map (·.1))) = s.edgeLatched src := by
    rw [State.latchEnabled_eq, hen]
    rfl
  have hany : surveyOther.any (fun e => (s.edgeLatched src).surveyEn e.1) = surveyOther.any (fun e => s.surveyEn e.1) := by
    simp only [State.edgeLatched_surveyEn]
  rw [← hany, ← hlatch]
  rfl

/-! ### The Survey's end -/

theorem State.surveyEnd_onlyChanges (s : State) (lat : Nat) : OnlyChanges [.regs, .out, .sup] s (s.surveyEnd lat) := by
  unfold State.surveyEnd
  simp only
  refine OnlyChanges.trans ?_ ((State.raiseIrq_onlyChanges _ Blk.SUP 5).mono (by simp))
  have h1 := (((State.withSup_onlyChanges s { s.sup with surveyEndClk := some s.clk }).trans
    ((State.setFlag_onlyChanges _ Reg.SUP_SURVEY_STAT 16 false).mono (by simp))).trans
      ((State.setNum_onlyChanges _ Reg.SUP_SURVEY_LAT lat).mono (by simp))).mono (qs := [.regs, .out, .sup]) (by simp)
  split
  · exact h1.trans ((State.setFlag_onlyChanges _ _ _ _).mono (by simp))
  · exact h1

theorem State.surveyEnd_onlyRegs (s : State) (lat : Nat) :
    OnlyRegs (Reg.SUP_SURVEY_STAT :: Reg.SUP_SURVEY_LAT :: irqRegs Blk.SUP) s (s.surveyEnd lat) := by
  have h0 : OnlyRegs (Reg.SUP_SURVEY_STAT :: Reg.SUP_SURVEY_LAT :: irqRegs Blk.SUP) s
      { s with sup := { s.sup with surveyEndClk := some s.clk } } := OnlyRegs.of_regs_eq rfl
  have h1 := (h0.setFlag (off := Reg.SUP_SURVEY_STAT) (i := 16) (b := false)).setNum (off := Reg.SUP_SURVEY_LAT) (v := lat)
  unfold State.surveyEnd
  simp only
  split
  · exact h1.setFlag.raiseIrq
  · exact h1.raiseIrq

theorem State.surveyEnd_sup (s : State) (lat : Nat) : (s.surveyEnd lat).sup = { s.sup with surveyEndClk := some s.clk } := by
  unfold State.surveyEnd
  simp only
  split <;> simp

/-- The end clears BUSY, and HOLD sets HELD (R583). -/
theorem State.surveyEnd_busy (s : State) (lat : Nat) : (s.surveyEnd lat).flag Reg.SUP_SURVEY_STAT 16 = false := by
  have hirq : Reg.SUP_SURVEY_STAT ∉ irqRegs Blk.SUP := by decide
  have hend : ∀ a : State, (a.raiseIrq Blk.SUP 5).flag Reg.SUP_SURVEY_STAT 16 = a.flag Reg.SUP_SURVEY_STAT 16 := fun a =>
    State.flag_congr _ _ _ _ (a.raiseIrq_onlyRegs Blk.SUP 5 _ hirq)
  unfold State.surveyEnd
  simp only
  rw [hend]
  have hlat : ∀ a : State, (a.setNum Reg.SUP_SURVEY_LAT lat).flag Reg.SUP_SURVEY_STAT 16 = a.flag Reg.SUP_SURVEY_STAT 16 := fun a =>
    State.flag_congr _ _ _ _ (a.setNum_reg_other _ _ _ (by decide))
  split
  · rw [State.setFlag_flag_other _ _ _ _ _ (by decide) (by decide), hlat, State.setFlag_flag_same _ _ _ _ (by decide)]
  · rw [hlat, State.setFlag_flag_same _ _ _ _ (by decide)]

theorem State.surveyEnd_held (s : State) (lat : Nat) : (s.surveyEnd lat).flag Reg.SUP_SURVEY_STAT 17
    = (s.flag Reg.SUP_SURVEY_CFG 8 || s.flag Reg.SUP_SURVEY_STAT 17) := by
  have hirq : Reg.SUP_SURVEY_STAT ∉ irqRegs Blk.SUP := by decide
  have hend : ∀ a : State, (a.raiseIrq Blk.SUP 5).flag Reg.SUP_SURVEY_STAT 17 = a.flag Reg.SUP_SURVEY_STAT 17 := fun a =>
    State.flag_congr _ _ _ _ (a.raiseIrq_onlyRegs Blk.SUP 5 _ hirq)
  have hlat : ∀ a : State, (a.setNum Reg.SUP_SURVEY_LAT lat).flag Reg.SUP_SURVEY_STAT 17 = a.flag Reg.SUP_SURVEY_STAT 17 := fun a =>
    State.flag_congr _ _ _ _ (a.setNum_reg_other _ _ _ (by decide))
  unfold State.surveyEnd
  simp only
  rw [hend]
  split
  · next h => rw [State.setFlag_flag_same _ _ _ _ (by decide), h, Bool.true_or]
  · next h =>
    rw [hlat, State.setFlag_flag_other _ _ _ _ _ (by decide) (by decide), Bool.eq_false_of_not_eq_true h, Bool.false_or]
    rfl

/-- Number and source stand through the end. -/
theorem State.surveyEnd_fld (s : State) (lat : Nat) {lo w : Nat} (h : lo + w ≤ 16 ∨ 18 ≤ lo) :
    (s.surveyEnd lat).fld Reg.SUP_SURVEY_STAT lo w = s.fld Reg.SUP_SURVEY_STAT lo w := by
  have hirq : Reg.SUP_SURVEY_STAT ∉ irqRegs Blk.SUP := by decide
  have hend : ∀ a : State, (a.raiseIrq Blk.SUP 5).fld Reg.SUP_SURVEY_STAT lo w = a.fld Reg.SUP_SURVEY_STAT lo w := fun a =>
    State.fld_congr (a.raiseIrq_onlyRegs Blk.SUP 5 _ hirq) lo w
  have hlat : ∀ a : State, (a.setNum Reg.SUP_SURVEY_LAT lat).fld Reg.SUP_SURVEY_STAT lo w = a.fld Reg.SUP_SURVEY_STAT lo w := fun a =>
    State.fld_congr (a.setNum_reg_other _ _ _ (by decide)) lo w
  unfold State.surveyEnd State.setFlag
  simp only
  rw [hend]
  split
  · rw [State.setFld_fld_other _ _ _ _ _ lo w (by decide) (by omega), hlat, State.setFld_fld_other _ _ _ _ _ lo w (by decide) (by omega)]
    rfl
  · rw [hlat, State.setFld_fld_other _ _ _ _ _ lo w (by decide) (by omega)]
    rfl

theorem State.surveyEnd_lat (s : State) (lat : Nat) : (s.surveyEnd lat).num Reg.SUP_SURVEY_LAT = lat % 2 ^ 32 := by
  have hirq : Reg.SUP_SURVEY_LAT ∉ irqRegs Blk.SUP := by decide
  unfold State.surveyEnd
  simp only
  rw [State.num_congr (State.raiseIrq_onlyRegs _ Blk.SUP 5 _ hirq)]
  split
  · rw [State.num_congr (State.setFlag_reg_other _ _ _ _ _ (by decide)), State.setNum_num_same]
  · rw [State.setNum_num_same]

theorem State.surveyEnd_done (s : State) (lat : Nat) : (s.surveyEnd lat).flag (Reg.IRQ_STAT Blk.SUP) 5 = true :=
  State.raiseIrq_flag_same _ _ _ (by decide)

/-! ### The edge as it answers -/

/-- The registers that an edge may change outside the windows of the blocks. -/
def surveyRegs : List Nat := Reg.SUP_SURVEY_STAT :: Reg.SUP_SURVEY_LAT :: irqRegs Blk.SUP

theorem State.surveyEdge_onlyChanges (s : State) (src : Nat) : OnlyChanges [.regs, .out, .sup] s (s.surveyEdge src) := by
  rw [State.surveyEdge_eq]
  split
  · exact (s.edgeLatched_onlyChanges src).mono (by simp)
  · exact ((s.edgeLatched_onlyChanges src).mono (by simp)).trans (State.surveyEnd_onlyChanges _ _)

theorem State.surveyEdge_reg_latched (src : Nat) (h : off ∉ surveyRegs) : (s.surveyEdge src).reg off = (s.edgeLatched src).reg off := by
  rw [State.surveyEdge_eq]
  split
  · rfl
  · exact State.surveyEnd_onlyRegs _ 0 off h

/-- A register that is neither a Survey's nor in a block's window. -/
theorem State.surveyEdge_reg_outside (src : Nat) (h : off ∉ surveyRegs) (hw : ∀ c, ¬ inSnap c off) :
    (s.surveyEdge src).reg off = s.reg off := by
  rw [State.surveyEdge_reg_latched src h, State.edgeLatched_reg_outside src hw]
  exact State.edgeNoted_reg_other src fun e => h (e ▸ List.mem_cons_self)

theorem State.edgeLatched_stat (s : State) (src : Nat) :
    (s.edgeLatched src).reg Reg.SUP_SURVEY_STAT = (s.edgeNoted src).reg Reg.SUP_SURVEY_STAT :=
  State.edgeLatched_reg_outside src surveyStat_not_inSnap

/-- A Survey edge shows its number and source, and BUSY while a block of another domain is to latch (R582). -/
theorem State.surveyEdge_stat (s : State) {src : Nat} (hsrc : src ≤ 4) :
    (s.surveyEdge src).fld Reg.SUP_SURVEY_STAT 0 16 = (s.fld Reg.SUP_SURVEY_STAT 0 16 + 1) % 2 ^ 16
      ∧ (s.surveyEdge src).fld Reg.SUP_SURVEY_STAT 18 5 = 2 ^ src
      ∧ (s.surveyEdge src).flag Reg.SUP_SURVEY_STAT 16 = surveyOther.any (fun e => s.surveyEn e.1) := by
  obtain ⟨hseq, hsrc, hbusy⟩ := s.edgeNoted_spec hsrc
  have hstat := s.edgeLatched_stat src
  rw [← State.fld_congr hstat] at hseq hsrc
  rw [← State.flag_congr _ _ _ _ hstat] at hbusy
  rw [State.surveyEdge_eq]
  split
  · next h => exact ⟨hseq, hsrc, hbusy.trans h.symm⟩
  · next h =>
    rw [State.surveyEnd_fld _ _ (by decide), State.surveyEnd_fld _ _ (by decide), State.surveyEnd_busy]
    exact ⟨hseq, hsrc, (Bool.eq_false_of_not_eq_true h).symm⟩

theorem State.surveyEdge_sup (s : State) (src : Nat) :
    (s.surveyEdge src).sup.surveyCh = s.chain ∧ (s.surveyEdge src).sup.surveyClk = some s.clk := by
  have hsup : (s.edgeLatched src).sup = (s.edgeNoted src).sup :=
    ((State.clearSnaps_onlyChanges _ _).trans (State.latchAll_onlyChanges _ _ (surveySys_latch_ne_emu s))).2.2 .sup (by simp)
  rw [State.surveyEdge_eq]
  split
  · rw [hsup]
    exact ⟨rfl, rfl⟩
  · rw [State.surveyEnd_sup, hsup]
    exact ⟨rfl, rfl⟩

theorem stat_not_surveyReg (b : Nat) : Reg.STAT b ∉ surveyRegs := by
  simp only [surveyRegs, irqRegs, List.mem_cons, List.not_mem_nil, or_false, Reg.STAT, Reg.SUP_SURVEY_STAT, Reg.SUP_SURVEY_LAT,
    Reg.IRQ_STAT, Reg.MSIX_PBA]
  omega

theorem seq_not_surveyReg (b : Nat) : Reg.SNAP_SEQ b ∉ surveyRegs := by
  simp only [surveyRegs, irqRegs, List.mem_cons, List.not_mem_nil, or_false, Reg.SNAP_SEQ, Reg.SUP_SURVEY_STAT, Reg.SUP_SURVEY_LAT,
    Reg.IRQ_STAT, Reg.MSIX_PBA]
  omega

theorem surveySys_nodup (p : Nat → Bool) : (((surveySys.filter p).map (fun b => (b, 0))).map (·.1)).Nodup := by
  have hfst : ((surveySys.filter p).map (fun b => (b, 0))).map (·.1) = surveySys.filter p := by
    simp only [List.map_map, Function.comp_def, List.map_id']
  rw [hfst]
  exact List.Nodup.filter p (by decide)

/-- Every enabled SYS block latches with the Survey's number (R582). -/
theorem State.surveyEdge_latched (s : State) {src : Nat} (hsrc : src ≤ 4) (hb : b ∈ surveySys) (hen : s.surveyEn b = true) :
    (s.surveyEdge src).flag (Reg.STAT b) 3 = true
      ∧ (s.surveyEdge src).num (Reg.SNAP_SEQ b) = (s.fld Reg.SUP_SURVEY_STAT 0 16 + 1) % 2 ^ 16 := by
  have hmem : (b, 0) ∈ (surveySys.filter s.surveyEn).map (fun b => (b, 0)) :=
    List.mem_map.2 ⟨b, List.mem_filter.2 ⟨hb, hen⟩, rfl⟩
  obtain ⟨hvalid, hseq⟩ := State.latchAll_latched (s := (s.edgeNoted src).clearSnaps (surveySys ++ surveyOther.map (·.1)))
    (surveySys_nodup _) hmem
  rw [State.flag_congr _ _ _ _ (State.surveyEdge_reg_latched src (stat_not_surveyReg b)),
    State.num_congr (State.surveyEdge_reg_latched src (seq_not_surveyReg b))]
  refine ⟨hvalid, hseq.trans ?_⟩
  rw [State.fld_congr (State.clearSnaps_reg_other _ (stat_ne_of_mod (by decide))), (s.edgeNoted_spec hsrc).1]
  omega

/-- An enabled block of another domain has yet to latch (R582). -/
theorem State.surveyEdge_cleared (s : State) (src : Nat) (hb : b ∈ surveyOther.map (·.1)) (hen : s.surveyEn b = true) :
    (s.surveyEdge src).flag (Reg.STAT b) 3 = false := by
  rw [State.flag_congr _ _ _ _ (State.surveyEdge_reg_latched src (stat_not_surveyReg b))]
  have hkeep : (s.edgeLatched src).reg (Reg.STAT b)
      = ((s.edgeNoted src).clearSnaps (surveySys ++ surveyOther.map (·.1))).reg (Reg.STAT b) := by
    refine State.latchAll_reg_outside _ fun e he => not_inSnap_of_block ?_
    obtain ⟨c, hc, rfl⟩ := List.mem_map.1 he
    rw [stat_div]
    exact surveyOther_not_sys b hb c (List.mem_filter.1 hc).1
  rw [State.flag_congr _ _ _ _ hkeep]
  refine State.clearSnaps_flag (List.mem_append_right _ hb) ?_
  refine (State.surveyEn_congr (State.edgeNoted_reg_other src ?_)).trans hen
  simp only [Reg.CTRL, Reg.SUP_SURVEY_STAT]
  omega

end

end Sys2Proof.Machine

/-! PROOFS. Survey's commands (R581 to R585). -/

namespace Sys2Proof.Machine

-- One declaration after the other: the stacks of parallel elaboration would count against the memory limit of the check.
set_option Elab.async false

section
variable {s : State} {src : Nat}

/-! ### Requests -/

/-- A request of an enabled source on an idle Survey raises it (R582). -/
theorem State.surveyRequest_raised (hup : s.Up) (hcfg : s.flag Reg.SUP_SURVEY_CFG src = true) (hclk : s.sup.surveyClk ≠ some s.clk)
    (hbusy : s.flag Reg.SUP_SURVEY_STAT 16 = false) (hheld : s.flag Reg.SUP_SURVEY_STAT 17 = false)
    (hend : s.sup.surveyEndClk ≠ some s.clk) : s.surveyRequest src = (true, s.surveyEdge src) := by
  simp only [State.surveyRequest, show s.sup.inReset = false from hup, hcfg, if_neg hclk, hbusy, hheld, hend, Bool.false_eq_true,
    Bool.not_true, or_self, if_false]

theorem State.surveyRequest_busy (hup : s.Up) (hcfg : s.flag Reg.SUP_SURVEY_CFG src = true) (hclk : s.sup.surveyClk ≠ some s.clk)
    (hbusy : s.flag Reg.SUP_SURVEY_STAT 16 = true) : s.surveyRequest src = (false, s.surveyMissed.raiseIrq Blk.SUP 6) := by
  simp only [State.surveyRequest, show s.sup.inReset = false from hup, hcfg, if_neg hclk, hbusy, Bool.false_eq_true,
    Bool.not_true, true_or, if_true, if_false]

theorem State.surveyRequest_off (hup : s.Up) (hcfg : s.flag Reg.SUP_SURVEY_CFG src = false) :
    s.surveyRequest src = (false, s.surveyMissed) := by
  simp only [State.surveyRequest, show s.sup.inReset = false from hup, hcfg, Bool.false_eq_true, Bool.not_false, if_true, if_false]

/-- A saturating counter that fills its register. -/
theorem State.satInc_num (s : State) (off n : Nat) : (s.satInc off 0 32 n).num off = Nat.min (s.num off + n) (2 ^ 32 - 1) := by
  have hbits : bitsOf (s.num off) 0 32 = s.num off := by
    simp only [bitsOf, Nat.pow_zero, Nat.div_one]
    exact Nat.mod_eq_of_lt (s.reg off).isLt
  have hfld : s.fld off 0 32 = s.num off := hbits
  rw [State.satInc, State.setFld_num _ _ _ _ _ (by decide), hfld, satAdd, putBits, hbits, Nat.pow_zero, Nat.mul_one, Nat.mul_one,
    Nat.sub_self, Nat.zero_add]
  exact Nat.mod_eq_of_lt (Nat.lt_of_le_of_lt (Nat.min_le_right _ _) (by decide))

/-! ### What a refused request counts -/

theorem State.surveyMissed_count (s : State) :
    s.surveyMissed.num Reg.SUP_SURVEY_OVR_CNT = Nat.min (s.num Reg.SUP_SURVEY_OVR_CNT + 1) (2 ^ 32 - 1) :=
  s.satInc_num _ _

theorem State.surveyMissed_onlyChanges (s : State) : OnlyChanges [.regs] s s.surveyMissed := s.satInc_onlyChanges _ _ _ _

theorem State.surveyMissed_onlyRegs (s : State) : OnlyRegs [Reg.SUP_SURVEY_OVR_CNT] s s.surveyMissed := (OnlyRegs.refl _ s).satInc

/-! ### Writes of SUP_SURVEY_NOW and SUP_SURVEY_ACK -/

theorem State.writeReg_surveyNow (s : State) (rq : Requester) (r : RegRow) :
    s.writeReg rq r Reg.SUP_SURVEY_NOW 1 = (s.surveyRequest Srv.HOST).2 := rfl

theorem State.writeReg_surveyAck (s : State) (rq : Requester) (r : RegRow) :
    s.writeReg rq r Reg.SUP_SURVEY_ACK 1 = s.setFlag Reg.SUP_SURVEY_STAT 17 false := rfl

theorem State.takeWrite_surveyNow (h : s.Passes .pcie Reg.SUP_SURVEY_NOW) :
    s.takeWrite .pcie Reg.SUP_SURVEY_NOW 1 = (s.surveyRequest Srv.HOST).2 := by
  obtain ⟨r, hr⟩ : ∃ r, regRow? Reg.SUP_SURVEY_NOW = some r := Option.isSome_iff_exists.1 (by decide)
  rw [s.takeWrite_of_passes _ _ _ r h hr (by decide), State.writeReg_surveyNow]

theorem State.takeWrite_surveyAck (h : s.Passes .pcie Reg.SUP_SURVEY_ACK) :
    s.takeWrite .pcie Reg.SUP_SURVEY_ACK 1 = s.setFlag Reg.SUP_SURVEY_STAT 17 false := by
  obtain ⟨r, hr⟩ : ∃ r, regRow? Reg.SUP_SURVEY_ACK = some r := Option.isSome_iff_exists.1 (by decide)
  rw [s.takeWrite_of_passes _ _ _ r h hr (by decide), State.writeReg_surveyAck]

theorem exec_surveyNow_of_request {t : State} {ps : List Part} (hup : s.Up) (h : s.Passes .pcie Reg.SUP_SURVEY_NOW) {b : Bool}
    (hreq : s.surveyRequest Srv.HOST = (b, t)) (ht : OnlyChanges ps s t) (hk : Part.key ∉ ps) : exec .surveyNow s = .next t := by
  rw [exec_surveyNow, execSurveyNow]
  refine State.powered_next hup ?_ ht hk
  rw [State.takeWrite_surveyNow h, hreq]

/-! ### The operation -/

theorem exec_survey_of_request {k : Nat} {x : Slot} {t : State} {ps : List Part} {b : Bool} (hup : s.Up) (hx : s.activeOp k Blk.SUP 3 = some x)
    (hreq : s.surveyRequest Srv.HOST = (b, t))
    (ht : OnlyChanges ps s (t.decideOp k (if b then St.OK else St.FAIL_CONFLICT) (if b then BitVec.ofNat 32 (t.fld Reg.SUP_SURVEY_STAT 0 16) else 0)))
    (hk : Part.key ∉ ps) : exec (.survey k) s
      = .next (t.decideOp k (if b then St.OK else St.FAIL_CONFLICT) (if b then BitVec.ofNat 32 (t.fld Reg.SUP_SURVEY_STAT 0 16) else 0)) := by
  rw [exec_survey, execSurvey]
  refine State.powered_next hup ?_ ht hk
  simp only [hx, hreq]
  cases b <;> rfl

end

theorem surveyCfg_not_inSnap (b : Nat) : ¬ inSnap b Reg.SUP_SURVEY_CFG := by
  rintro ⟨-, h⟩
  revert h
  decide

/-- The latches of the other domains, in the order of R582, each with its skew held to its bound. -/
def surveySkews (l : List Nat) : List (Nat × Nat) :=
  surveyOther.zipIdx.map (fun (e : (Nat × Nat) × Nat) => (e.1.1, Nat.min e.1.2 (l.getD e.2 0)))

theorem surveySkews_fst (l : List Nat) : (surveySkews l).map (·.1) = surveyOther.map (·.1) := by
  simp only [surveySkews, List.map_map]
  rfl


section
variable {s : State}

/-- The state of SURVEY_DONE when the other domains' blocks have latched. -/
def State.doneLatched (s : State) (l : List Nat) (count : Nat) : State :=
  (if s.rtcHalt then s else s.setRtc { s.rtc with presc := count % 32768 }).latchAll ((surveySkews l).filter (fun e => s.surveyEn e.1))

/-- The same with the Survey no longer that of its SYS cycle. -/
def State.doneNoted (s : State) (l : List Nat) (count : Nat) : State :=
  { s.doneLatched l count with sup := { (s.doneLatched l count).sup with surveyClk := none } }

/-- The longest skew of the enabled ones. -/
def State.doneDelay (s : State) (l : List Nat) : Nat :=
  ((surveySkews l).filter (fun e => s.surveyEn e.1)).foldl (fun m (e : Nat × Nat) => Nat.max m e.2) 0

theorem State.setRtc_onlyChanges (s : State) (x : Rtc) : OnlyChanges [.regs, .sup, .emu, .rtc] s (s.setRtc x) := by
  simp [State.setRtc, onlyChanges_iff]

theorem State.doneNoted_onlyChanges (s : State) (l : List Nat) (count : Nat) :
    OnlyChanges [.regs, .sup, .emu, .rtc] s (s.doneNoted l count) := by
  have hrtc : OnlyChanges [.regs, .sup, .emu, .rtc] s (if s.rtcHalt then s else s.setRtc { s.rtc with presc := count % 32768 }) := by
    split
    · exact .refl _ s
    · exact s.setRtc_onlyChanges _
  exact (hrtc.trans ((State.latchAll_onlyChanges_emu _ _).mono (by simp))).trans ((State.withSup_onlyChanges _ _).mono (by simp))

theorem State.doneStart_reg (s : State) (count off : Nat) :
    (if s.rtcHalt then s else s.setRtc { s.rtc with presc := count % 32768 }).reg off = s.reg off := by
  split <;> rfl

theorem State.doneNoted_reg (s : State) (l : List Nat) (count off : Nat) :
    (s.doneNoted l count).reg off = (s.doneLatched l count).reg off := State.withSup_reg _ _ off

theorem State.doneNoted_reg_outside (l : List Nat) (count : Nat) {off : Nat} (h : ∀ c, ¬ inSnap c off) :
    (s.doneNoted l count).reg off = s.reg off := by
  rw [State.doneNoted_reg, State.doneLatched, State.latchAll_reg_outside _ fun e _ => h e.1, State.doneStart_reg]

theorem exec_surveyDone_of_busy (hup : s.Up) (hbusy : s.flag Reg.SUP_SURVEY_STAT 16 = true) (l : List Nat) (count : Nat) :
    exec (.surveyDone l count) s = .next ((s.doneNoted l count).surveyEnd (s.doneDelay l)) := by
  have hen : (if s.rtcHalt then s else s.setRtc { s.rtc with presc := count % 32768 }).surveyEn = s.surveyEn :=
    funext fun c => State.surveyEn_congr (s.doneStart_reg count _)
  rw [exec_surveyDone, execSurveyDone]
  refine State.powered_next (ps := [.regs, .out, .sup, .emu, .rtc]) hup ?_
    (((s.doneNoted_onlyChanges l count).mono (by simp)).trans ((State.surveyEnd_onlyChanges _ _).mono (by simp))) (by simp)
  simp only [hbusy, Bool.not_true, Bool.false_eq_true, if_false, hen]
  rfl

/-- Each enabled block of another domain holds its latch at the end (R582). -/
theorem State.doneNoted_latched (l : List Nat) (count : Nat) {b m : Nat} (hb : (b, m) ∈ surveyOther) (hen : s.surveyEn b = true) :
    (s.doneNoted l count).flag (Reg.STAT b) 3 = true
      ∧ (s.doneNoted l count).num (Reg.SNAP_SEQ b) % 2 ^ 16 = s.fld Reg.SUP_SURVEY_STAT 0 16 := by
  have hfst : b ∈ (surveySkews l).map (·.1) := by
    rw [surveySkews_fst]
    exact List.mem_map_of_mem hb
  obtain ⟨e, he, rfl⟩ := List.mem_map.1 hfst
  have hnd : (((surveySkews l).filter (fun e => s.surveyEn e.1)).map (·.1)).Nodup := by
    refine List.Nodup.sublist (List.Sublist.map _ List.filter_sublist) ?_
    rw [surveySkews_fst]
    decide
  obtain ⟨hvalid, hseq⟩ := State.latchAll_latched (s := if s.rtcHalt then s else s.setRtc { s.rtc with presc := count % 32768 }) hnd
    (List.mem_filter.2 ⟨he, hen⟩)
  rw [State.flag_congr _ _ _ _ (s.doneNoted_reg l count _), State.num_congr (s.doneNoted_reg l count _)]
  refine ⟨hvalid, ?_⟩
  have hseq' : (s.doneLatched l count).num (Reg.SNAP_SEQ e.1) = (s.fld Reg.SUP_SURVEY_STAT 0 16 + e.2 * 2 ^ 16) % 2 ^ 32 :=
    hseq.trans (by rw [State.fld_congr (s.doneStart_reg count _)])
  have hlt : s.fld Reg.SUP_SURVEY_STAT 0 16 < 2 ^ 16 := Nat.mod_lt _ (by decide)
  rw [hseq']
  omega

/-- With HIF alone enabled the delay is HIF's (R582). -/
theorem State.doneDelay_of_hif (l : List Nat) (h : ∀ e, e ∈ surveyOther → s.surveyEn e.1 = (e.1 == Blk.HIF)) :
    s.doneDelay l = Nat.min 8 (l.getD 0 0) := by
  have hfilter : (surveySkews l).filter (fun e => s.surveyEn e.1) = [(Blk.HIF, Nat.min 8 (l.getD 0 0))] := by
    have hcongr : (surveySkews l).filter (fun e => s.surveyEn e.1) = (surveySkews l).filter (fun e => e.1 == Blk.HIF) := by
      refine List.filter_congr fun e he => ?_
      have hfst : e.1 ∈ surveyOther.map (·.1) := surveySkews_fst l ▸ List.mem_map_of_mem he
      obtain ⟨f, hf, hfe⟩ := List.mem_map.1 hfst
      rw [← hfe, h f hf]
    rw [hcongr]
    rfl
  rw [State.doneDelay, hfilter]
  exact Nat.max_eq_right (Nat.zero_le _)

/-- Settles O57: requests raise or are counted, latches are the blocks' own. -/
theorem surveyLatchesTheModule : Obligations.SurveyLatchesTheModule := by
  unfold Obligations.SurveyLatchesTheModule
  intro s q hup hq
  refine ⟨?_, ?_, ?_, ?_, ?_⟩
  · intro hcfg hclk hbusy hheld hend
    have hreq := State.surveyRequest_raised hup hcfg hclk hbusy hheld hend
    obtain ⟨hseq, hsrc, hany⟩ := s.surveyEdge_stat (src := 0) (by decide)
    obtain ⟨hch, hck⟩ := s.surveyEdge_sup 0
    constructor
    · intro hp
      refine ⟨_, exec_surveyNow_of_request hup hp hreq (s.surveyEdge_onlyChanges 0) (by simp), hseq.trans hq.symm, hsrc, hch, hck, hany, ?_, ?_,
        s.surveyEdge_onlyChanges 0⟩
      · intro b hb hen
        exact hq ▸ s.surveyEdge_latched (by decide) hb hen
      · exact fun b hb hen => s.surveyEdge_cleared 0 hb hen
    · intro k x hserv hx
      have hs := (State.serves_of_activeOp hserv hx).frame (s.surveyEdge_onlyChanges 0)
      have hch := ((s.surveyEdge_onlyChanges 0).mono (qs := [.regs, .out, .sup, .opt, .scn]) (by simp)).trans
        ((hs.onlyChanges (by decide) St.OK (BitVec.ofNat 32 ((s.surveyEdge 0).fld Reg.SUP_SURVEY_STAT 0 16))).mono (by simp))
      refine ⟨_, exec_survey_of_request hup hx hreq hch (by simp), ?_, ?_, hch⟩
      · rw [hq, ← hseq]
        exact hs.ended _ _
      · rw [State.fld_congr (hs.reg (by decide) _ _ _), hseq, hq]
  · intro hcfg hclk hbusy
    have hreq := State.surveyRequest_busy hup hcfg hclk hbusy
    have hch : OnlyChanges [.regs, .out] s (s.surveyMissed.raiseIrq Blk.SUP 6) :=
      (s.surveyMissed_onlyChanges.mono (by simp)).trans (State.raiseIrq_onlyChanges _ _ _)
    constructor
    · intro hp
      refine ⟨_, exec_surveyNow_of_request hup hp hreq hch (by simp), State.raiseIrq_flag_same _ _ _ (by decide), ?_, hch,
        (s.surveyMissed_onlyRegs.mono (by simp)).raiseIrq⟩
      exact (State.num_congr (State.raiseIrq_onlyRegs _ Blk.SUP 6 _ (by decide))).trans s.surveyMissed_count
    · intro k x hserv hx
      have hs := (State.serves_of_activeOp hserv hx).frame hch
      have hchd := (hch.mono (qs := [.regs, .out, .opt, .scn]) (by simp)).trans
        ((hs.onlyChanges (by decide) St.FAIL_CONFLICT 0).mono (by simp))
      exact ⟨_, exec_survey_of_request hup hx hreq hchd (by simp), hs.ended _ _, hchd⟩
  · intro hcfg hp
    exact ⟨_, exec_surveyNow_of_request hup hp (State.surveyRequest_off hup hcfg) s.surveyMissed_onlyChanges (by simp), s.surveyMissed_count,
      s.surveyMissed_onlyChanges, s.surveyMissed_onlyRegs⟩
  · intro hp
    rw [exec_surveyAck, execSurveyAck]
    exact State.powered_next hup (State.takeWrite_surveyAck hp) (s.setFlag_onlyChanges _ _ _) (by simp)
  · intro l n hbusy
    have hout := fun (off : Nat) (h : off ∉ surveyRegs) => State.surveyEnd_onlyRegs (s.doneNoted l n) (s.doneDelay l) off h
    refine ⟨_, exec_surveyDone_of_busy hup hbusy l n, State.surveyEnd_busy _ _, ?_, State.surveyEnd_done _ _, ?_, ?_, ?_,
      ((s.doneNoted_onlyChanges l n).mono (by simp)).trans ((State.surveyEnd_onlyChanges _ _).mono (by simp))⟩
    · rw [State.surveyEnd_sup]
      rfl
    · rw [State.surveyEnd_held, State.flag_congr _ _ _ _ (State.doneNoted_reg_outside l n surveyStat_not_inSnap),
        State.flag_congr _ _ _ _ (State.doneNoted_reg_outside l n (surveyCfg_not_inSnap))]
    · intro b m hb hen
      rw [State.flag_congr _ _ _ _ (hout _ (stat_not_surveyReg b)), State.num_congr (hout _ (seq_not_surveyReg b))]
      exact State.doneNoted_latched l n hb hen
    · intro hen
      rw [State.surveyEnd_lat, State.doneDelay_of_hif l hen]
      exact Nat.mod_eq_of_lt (Nat.lt_of_le_of_lt (Nat.min_le_left _ _) (by decide))

end

end Sys2Proof.Machine

/-! PROOFS. The host's claims and the interval timers (R66 to R68, R584, R585). -/

namespace Sys2Proof.Machine

-- One declaration after the other: the stacks of parallel elaboration would count against the memory limit of the check.
set_option Elab.async false

section
variable {s : State} {k n : Nat} {x : Slot}

/-! ### The end of an operation behind a change -/

/-- An operation ends behind a change `a`. -/
theorem State.Serves.ends {a : State} {b : Nat} {ps : List Part} (hs : s.Serves k b) (hb : b ≠ Blk.STO) (ha : OnlyChanges ps s a)
    (status : Nat) (result : Word) (hopt : Part.opt ∉ ps := by simp) (hhlk : Part.hlk ∉ ps := by simp) :
    (a.decideOp k status result).Ended k status result ∧ OnlyChanges (ps ++ [.opt, .scn]) s (a.decideOp k status result) :=
  have hsa := hs.frame ha hopt hhlk
  ⟨hsa.ended _ _, (ha.mono (List.subset_append_left _ _)).trans ((hsa.onlyChanges hb status result).mono (List.subset_append_right _ _))⟩

/-! ### Claims -/

theorem State.withClaims_onlyChanges (s : State) (l : List Claim) : OnlyChanges [.claims] s { s with claims := l } := by
  simp [onlyChanges_iff]

theorem State.claim_of_free {c : Claim} (h : s.claimOf c.resource = none) : s.claim c = .ok { s with claims := s.claims ++ [c] } := by
  simp only [State.claim, h]

theorem State.claim_of_held {c d : Claim} (h : s.claimOf c.resource = some d) : s.claim c = .error (conflictWord d) := by
  simp only [State.claim, h]

/-! ### Timers -/

theorem State.gtSince_congr {s t : State} (h : t.sup = s.sup) (n : Nat) : t.gtSince n = s.gtSince n := by
  simp only [State.gtSince, h]

theorem State.setGtSince_onlyChanges (s : State) (n c : Nat) : OnlyChanges [.sup] s (s.setGtSince n c) := by
  simp [State.setGtSince, onlyChanges_iff]

/-- A timer starts, or takes a new period (R584). -/
def State.startTimer (s : State) (n per : Nat) : State :=
  ((s.setGtSince n s.clk).setNum (Reg.SUP_GTn_CFG n) 1).setNum (Reg.SUP_GTn_PERIOD n) per

theorem State.startTimer_onlyChanges (s : State) (n per : Nat) : OnlyChanges [.regs, .sup] s (s.startTimer n per) :=
  (((s.setGtSince_onlyChanges n _).mono (by simp)).trans ((State.setNum_onlyChanges _ _ _).mono (by simp))).trans
    ((State.setNum_onlyChanges _ _ _).mono (by simp))

theorem State.startTimer_onlyRegs (s : State) (n per : Nat) : OnlyRegs [Reg.SUP_GTn_CFG n, Reg.SUP_GTn_PERIOD n] s (s.startTimer n per) :=
  ((OnlyRegs.of_regs_eq (t := s.setGtSince n s.clk) rfl).setNum (by simp)).setNum (by simp)

theorem gtCfg_ne_period (n : Nat) : Reg.SUP_GTn_PERIOD n ≠ Reg.SUP_GTn_CFG n := by
  simp only [Reg.SUP_GTn_PERIOD, Reg.SUP_GTn_CFG]
  omega

theorem State.startTimer_spec (s : State) (n : Nat) {per : Nat} (hper : per < 2 ^ 32) :
    (s.startTimer n per).flag (Reg.SUP_GTn_CFG n) 0 = true ∧ (s.startTimer n per).num (Reg.SUP_GTn_PERIOD n) = per
      ∧ (s.startTimer n per).gtSince n = s.clk := by
  refine ⟨?_, ?_, ?_⟩
  · have hcfg : (s.startTimer n per).reg (Reg.SUP_GTn_CFG n) = 1 :=
      (State.setNum_reg_other _ _ _ _ (gtCfg_ne_period n)).trans (State.setReg_reg_same _ _ _)
    rw [State.flag, State.fld, hcfg]
    rfl
  · exact (State.setNum_num_same _ _ _).trans (Nat.mod_eq_of_lt hper)
  · exact (tget_tset _ _ n n _).trans (if_pos rfl)

theorem State.stopTimer_onlyChanges (s : State) (n : Nat) : OnlyChanges [.regs, .claims, .sup] s (s.stopTimer n) :=
  ((((s.setGtSince_onlyChanges n 0).mono (by simp)).trans ((State.setNum_onlyChanges _ _ _).mono (by simp))).trans
    ((State.setNum_onlyChanges _ _ _).mono (by simp))).trans ((State.withClaims_onlyChanges _ _).mono (by simp))

theorem State.stopTimer_flag (s : State) (n : Nat) : (s.stopTimer n).flag (Reg.SUP_GTn_CFG n) 0 = false := by
  have h : (s.stopTimer n).reg (Reg.SUP_GTn_CFG n) = 0 := by
    refine (State.setNum_reg_other ((s.setGtSince n 0).setNum (Reg.SUP_GTn_CFG n) 0) _ 0 _ (gtCfg_ne_period n)).trans ?_
    exact State.setReg_reg_same _ _ _
  rw [State.flag, State.fld, h]
  rfl

/-- What TIMER_SET does with a slot's parameters (R584). -/
def State.setTimer (s : State) (k : Nat) (x : Slot) : State :=
  let n := paramField x.param 0 1
  let per := paramField x.param 4 4
  if 15 < n ∨ (1 ≤ per ∧ per ≤ 9) then s.decideOp k St.FAIL_INVALID 0
  else if per = 0 then (if s.flag (Reg.SUP_GTn_CFG n) 0 then s.stopTimer n else s).decideOp k St.OK 0
  else if s.flag (Reg.SUP_GTn_CFG n) 0 then (s.startTimer n per).decideOp k St.OK 0
  else match s.claim ⟨0x6000 + n, Blk.SUP, 3, n⟩ with
    | .error w => s.decideOp k St.FAIL_CONFLICT w
    | .ok a => (a.startTimer n per).decideOp k St.OK 0

theorem State.execTimerSet_next {t : State} {ps : List Part} (hup : s.Up) (halone : s.Alone) (hx : s.activeOp k Blk.SUP 4 = some x)
    (hch : OnlyChanges ps s t) (hkey : Part.key ∉ ps) (ht : s.setTimer k x = t) : exec (.timerSet k) s = .next t := by
  rw [exec_timerSet, execTimerSet]
  refine State.powered_next hup ?_ hch hkey
  rw [State.yielding_of_alone halone, ← ht]
  simp only [hx]
  rfl

theorem surveyCfg_ne_gtCnt (n : Nat) : Reg.SUP_SURVEY_CFG ≠ Reg.SUP_GTn_CNT n := by
  simp only [Reg.SUP_SURVEY_CFG, Reg.SUP_GTn_CNT]
  omega

theorem surveyStat_ne_gtCnt (n : Nat) : Reg.SUP_SURVEY_STAT ≠ Reg.SUP_GTn_CNT n := by
  simp only [Reg.SUP_SURVEY_STAT, Reg.SUP_GTn_CNT]
  omega

theorem surveyOvr_ne_gtCnt (n : Nat) : Reg.SUP_SURVEY_OVR_CNT ≠ Reg.SUP_GTn_CNT n := by
  simp only [Reg.SUP_SURVEY_OVR_CNT, Reg.SUP_GTn_CNT]
  omega

theorem gtCnt_not_surveyReg {n : Nat} (hn : n ≤ 15) : Reg.SUP_GTn_CNT n ∉ surveyRegs := by
  simp only [surveyRegs, irqRegs, List.mem_cons, List.not_mem_nil, or_false, Reg.SUP_GTn_CNT, Reg.SUP_SURVEY_STAT, Reg.SUP_SURVEY_LAT,
    Reg.IRQ_STAT, Reg.MSIX_PBA]
  omega

theorem gtCnt_not_inSnap {n : Nat} (hn : n ≤ 15) (b : Nat) : ¬ inSnap b (Reg.SUP_GTn_CNT n) := by
  simp only [inSnap, Reg.SUP_GTn_CNT]
  omega

/-- A timer's firing before its Survey request (R584). -/
def State.gtFired (s : State) (n : Nat) : State := (s.setGtSince n (s.gtSince n + s.gtPeriod n)).wrapInc (Reg.SUP_GTn_CNT n) 1

theorem State.gtFired_spec (s : State) (n : Nat) : (s.gtFired n).num (Reg.SUP_GTn_CNT n) = (s.num (Reg.SUP_GTn_CNT n) + 1) % 2 ^ 32
    ∧ (s.gtFired n).gtSince n = s.gtSince n + s.gtPeriod n ∧ OnlyChanges [.regs, .sup] s (s.gtFired n)
    ∧ OnlyRegs [Reg.SUP_GTn_CNT n] s (s.gtFired n) :=
  ⟨State.setNum_num_same _ _ _, (tget_tset _ _ n n _).trans (if_pos rfl),
    ((s.setGtSince_onlyChanges n _).mono (by simp)).trans ((State.wrapInc_onlyChanges _ _ _).mono (by simp)),
    (OnlyRegs.of_regs_eq (t := s.setGtSince n (s.gtSince n + s.gtPeriod n)) rfl).wrapInc⟩

theorem State.gtFired_up (s : State) (n : Nat) (hup : s.Up) : (s.gtFired n).Up := hup

theorem State.execGtFire_due {t : State} {n : Nat} {ps : List Part} (hup : s.Up) (hn : n ≤ 15) (hon : s.flag (Reg.SUP_GTn_CFG n) 0 = true)
    (hdue : s.gtSince n + 800 * s.num (Reg.SUP_GTn_PERIOD n) ≤ s.clk) {b : Bool} (ht : (s.gtFired n).surveyRequest Srv.GT = (b, t))
    (hch : OnlyChanges ps s t) (hkey : Part.key ∉ ps) : exec (.gtFire n) s = .next t := by
  rw [exec_gtFire, execGtFire]
  refine State.powered_next hup ?_ hch hkey
  have hdue' : ¬ s.clk < s.gtSince n + s.gtPeriod n := Nat.not_lt.2 hdue
  have hreq := congrArg Prod.snd ht
  simp only [if_neg (show ¬ 15 < n by omega), hon, hdue', Bool.not_true, Bool.false_eq_true, or_false]
  exact hreq

theorem paramField_lt (p : BitVec 384) (o w : Nat) : paramField p o w < 2 ^ (8 * w) := bitsOf_lt _ _ _

end

/-- Settles O56: CLAIM, RELEASE and TIMER_SET end with what the claims allow, and every firing is counted. -/
theorem claimsAndTimers : Obligations.ClaimsAndTimers := by
  unfold Obligations.ClaimsAndTimers
  intro s hup
  refine ⟨fun k x r hserv hr => ⟨fun hx hex halone => ⟨fun hfree => ?_, fun d hd => ?_⟩, fun hx d hd => ⟨fun hmine => ?_, fun hother => ?_⟩⟩,
    fun k x n p hserv hx hn hp hle halone => ⟨fun h1 h9 => ?_, fun h10 hoff hfree => ?_, fun d h10 hoff hd => ?_, fun h0 hon => ?_⟩,
    fun n hn hon hdue => ⟨fun hcfg => ?_, fun hcfg hclk hbusy hheld hend hnone => ?_⟩⟩
  · have hs := State.serves_of_activeOp hserv hx
    subst hr
    obtain ⟨hended, hch⟩ := hs.ends (by decide) (s.withClaims_onlyChanges (s.claims ++ [⟨paramField x.param 0 2, Blk.HIF, 0, 0⟩])) St.OK 0
    refine ⟨_, ?_, hended, State.decideOp_claims _ _ _ _, hch⟩
    rw [exec_claim, execClaim]
    refine State.powered_next hup ?_ hch (by simp)
    rw [State.yielding_of_alone halone]
    simp only [hx, hex, Bool.not_true, Bool.false_eq_true, if_false, State.claim_of_free (c := ⟨paramField x.param 0 2, Blk.HIF, 0, 0⟩) hfree]
  · have hs := State.serves_of_activeOp hserv hx
    subst hr
    obtain ⟨hended, hch⟩ := hs.ends (by decide) (.refl [] s) St.FAIL_CONFLICT (conflictWord d)
    refine ⟨_, ?_, hended, hch⟩
    rw [exec_claim, execClaim]
    refine State.powered_next hup ?_ hch (by simp)
    rw [State.yielding_of_alone halone]
    simp only [hx, hex, Bool.not_true, Bool.false_eq_true, if_false, State.claim_of_held (c := ⟨paramField x.param 0 2, Blk.HIF, 0, 0⟩) hd]
  · have hs := State.serves_of_activeOp hserv hx
    subst hr
    obtain ⟨hended, hch⟩ := hs.ends (by decide) (s.withClaims_onlyChanges (s.unclaim (paramField x.param 0 2) Blk.HIF).claims) St.OK 0
    refine ⟨_, ?_, hended, State.decideOp_claims _ _ _ _, hch⟩
    rw [exec_release, execRelease]
    refine State.powered_next hup ?_ hch (by simp)
    simp only [hx, hd, hmine, if_true]
    rfl
  · have hs := State.serves_of_activeOp hserv hx
    subst hr
    obtain ⟨hended, hch⟩ := hs.ends (by decide) (.refl [] s) St.FAIL_INVALID 0
    refine ⟨_, ?_, hended, hch⟩
    rw [exec_release, execRelease]
    refine State.powered_next hup ?_ hch (by simp)
    simp only [hx, hd, if_neg hother]
  · have hs := State.serves_of_activeOp hserv hx
    obtain ⟨hended, hch⟩ := hs.ends (by decide) (.refl [] s) St.FAIL_INVALID 0
    refine ⟨_, State.execTimerSet_next hup halone hx hch (by simp) ?_, hended, hch⟩
    simp only [State.setTimer, ← hp, h1, h9, true_and, or_true, if_true]
  · have hs := State.serves_of_activeOp hserv hx
    subst hn hp
    have ha := ((s.withClaims_onlyChanges (s.claims ++ [⟨0x6000 + paramField x.param 0 1, Blk.SUP, 3, paramField x.param 0 1⟩])).mono
      (qs := [.regs, .claims, .sup]) (by simp)).trans ((State.startTimer_onlyChanges _ (paramField x.param 0 1) (paramField x.param 4 4)).mono (by simp))
    obtain ⟨hended, hch⟩ := hs.ends (by decide) ha St.OK 0
    have hsa := hs.frame ha
    have hclaims : OnlyRegs [Reg.SUP_GTn_CFG (paramField x.param 0 1), Reg.SUP_GTn_PERIOD (paramField x.param 0 1)] s
      { s with claims := s.claims ++ [⟨0x6000 + paramField x.param 0 1, Blk.SUP, 3, paramField x.param 0 1⟩] } := OnlyRegs.of_regs_eq rfl
    obtain ⟨hcfg, hper, hsince⟩ := State.startTimer_spec { s with claims := s.claims ++ [⟨0x6000 + paramField x.param 0 1, Blk.SUP, 3, paramField x.param 0 1⟩] }
      (paramField x.param 0 1) (paramField_lt x.param 4 4)
    refine ⟨_, State.execTimerSet_next hup halone hx hch (by simp) ?_, hended, ?_, ?_, State.decideOp_claims _ _ _ _, ?_, hch,
      (hclaims.trans (State.startTimer_onlyRegs _ (paramField x.param 0 1) (paramField x.param 4 4))).trans (OnlyRegs.of_regs_eq ?_)⟩
    · simp only [State.setTimer, if_neg (show ¬ (15 < paramField x.param 0 1 ∨ 1 ≤ paramField x.param 4 4 ∧ paramField x.param 4 4 ≤ 9) by omega),
        if_neg (show ¬ paramField x.param 4 4 = 0 by omega), hoff, Bool.false_eq_true, if_false,
        State.claim_of_free (c := ⟨0x6000 + paramField x.param 0 1, Blk.SUP, 3, paramField x.param 0 1⟩) hfree]
    · exact (State.flag_congr _ _ _ _ (hsa.reg (by decide) _ _ _)).trans hcfg
    · exact (State.num_congr (hsa.reg (by decide) _ _ _)).trans hper
    · exact (State.gtSince_congr ((hsa.onlyChanges (by decide) _ _).2.2 .sup (by simp)) _).trans hsince
    · exact (hsa.onlyChanges (by decide) _ _).2.2 .regs (by simp)
  · have hs := State.serves_of_activeOp hserv hx
    subst hn hp
    obtain ⟨hended, hch⟩ := hs.ends (by decide) (.refl [] s) St.FAIL_CONFLICT (conflictWord d)
    refine ⟨_, State.execTimerSet_next hup halone hx hch (by simp) ?_, hended, hch⟩
    simp only [State.setTimer, if_neg (show ¬ (15 < paramField x.param 0 1 ∨ 1 ≤ paramField x.param 4 4 ∧ paramField x.param 4 4 ≤ 9) by omega),
      if_neg (show ¬ paramField x.param 4 4 = 0 by omega), hoff, Bool.false_eq_true, if_false,
      State.claim_of_held (c := ⟨0x6000 + paramField x.param 0 1, Blk.SUP, 3, paramField x.param 0 1⟩) hd]
  · have hs := State.serves_of_activeOp hserv hx
    subst hn hp
    obtain ⟨hended, hch⟩ := hs.ends (by decide) (s.stopTimer_onlyChanges (paramField x.param 0 1)) St.OK 0
    have hsa := hs.frame (s.stopTimer_onlyChanges (paramField x.param 0 1))
    refine ⟨_, State.execTimerSet_next hup halone hx hch (by simp) ?_, hended, ?_, State.decideOp_claims _ _ _ _, hch⟩
    · unfold State.setTimer
      simp only
      rw [if_neg (by omega), if_pos h0, if_pos hon]
    · exact (State.flag_congr _ _ _ _ (hsa.reg (by decide) _ _ _)).trans (s.stopTimer_flag _)
  · obtain ⟨hcnt, hsince, hch, hregs⟩ := s.gtFired_spec n
    have hreq := State.surveyRequest_off (s := s.gtFired n) (src := 4) (s.gtFired_up n hup)
      ((State.flag_congr _ _ _ _ (hregs _ (by simpa using surveyCfg_ne_gtCnt n))).trans hcfg)
    have hall : OnlyChanges [.regs, .sup] s (s.gtFired n).surveyMissed := hch.trans ((State.surveyMissed_onlyChanges _).mono (by simp))
    refine ⟨_, State.execGtFire_due hup hn hon hdue hreq hall (by simp), ?_, ?_, hsince, hall, (hregs.mono (by simp)).trans ((State.surveyMissed_onlyRegs _).mono (by simp))⟩
    · exact (State.num_congr (State.surveyMissed_onlyRegs _ _ (by simpa using (surveyOvr_ne_gtCnt n).symm))).trans hcnt
    · rw [State.surveyMissed_count, State.num_congr (hregs _ (by simpa using surveyOvr_ne_gtCnt n))]
  · obtain ⟨hcnt, -, hch, hregs⟩ := s.gtFired_spec n
    have hflag : ∀ off i, off ≠ Reg.SUP_GTn_CNT n → (s.gtFired n).flag off i = s.flag off i := fun off i h =>
      State.flag_congr _ _ _ _ (hregs off (by simpa using h))
    have hreq := State.surveyRequest_raised (s := s.gtFired n) (src := 4) (s.gtFired_up n hup) ((hflag _ _ (surveyCfg_ne_gtCnt n)).trans hcfg)
      (by rw [show (s.gtFired n).sup.surveyClk = s.sup.surveyClk from rfl, hclk]; simp)
      ((hflag _ _ (surveyStat_ne_gtCnt n)).trans hbusy) ((hflag _ _ (surveyStat_ne_gtCnt n)).trans hheld) hend
    have hall : OnlyChanges [.regs, .out, .sup] s ((s.gtFired n).surveyEdge 4) :=
      (hch.mono (by simp)).trans (State.surveyEdge_onlyChanges _ _)
    obtain ⟨hseq, hsrc, -⟩ := (s.gtFired n).surveyEdge_stat (src := 4) (by decide)
    refine ⟨_, State.execGtFire_due hup hn hon hdue hreq hall (by simp), ?_, hsrc, ?_, hall⟩
    · rw [State.num_congr (State.surveyEdge_reg_outside 4 (gtCnt_not_surveyReg hn) (gtCnt_not_inSnap hn))]
      exact hcnt
    · rw [hseq, State.fld_congr (hregs _ (by simpa using surveyStat_ne_gtCnt n))]

end Sys2Proof.Machine

/-! PROOFS. Supervision of the supplies and the temperature (R565, R569, R599), and the end of a life (R568). -/

namespace Sys2Proof.Machine

-- One declaration after the other: the stacks of parallel elaboration would count against the memory limit of the check.
set_option Elab.async false

section
variable {s : State} {bit irq : Nat} {set clear : Bool}

/-! ### A supervised condition -/

theorem State.superFlag_set (hset : set = true) (hoff : s.flag Reg.SUP_SUPPLY_STAT bit = false) :
    s.superFlag bit irq set clear = (s.setFlag Reg.SUP_SUPPLY_STAT bit true).raiseIrq Blk.SUP irq := by
  simp only [State.superFlag, hset, hoff, Bool.not_false, Bool.and_self, if_true]

theorem State.superFlag_clear (hset : set = false) (hclear : clear = true) :
    s.superFlag bit irq set clear = s.setFlag Reg.SUP_SUPPLY_STAT bit false := by
  simp only [State.superFlag, hset, hclear, Bool.false_and, Bool.false_eq_true, if_false, if_true]

theorem State.superFlag_keep (hset : set = false) (hclear : clear = false) : s.superFlag bit irq set clear = s := by
  simp only [State.superFlag, hset, hclear, Bool.false_and, Bool.false_eq_true, if_false]

theorem supplyStat_not_irqReg : Reg.SUP_SUPPLY_STAT ∉ irqRegs Blk.SUP := by decide

/-- The condition's flag as set, with its interrupt bit (R565). -/
theorem State.superFlag_set_spec (s : State) (hbit : bit < 32) (hirq : irq < 32) :
    ((s.setFlag Reg.SUP_SUPPLY_STAT bit true).raiseIrq Blk.SUP irq).flag Reg.SUP_SUPPLY_STAT bit = true
      ∧ ((s.setFlag Reg.SUP_SUPPLY_STAT bit true).raiseIrq Blk.SUP irq).flag (Reg.IRQ_STAT Blk.SUP) irq = true
      ∧ OnlyChanges [.regs, .out] s ((s.setFlag Reg.SUP_SUPPLY_STAT bit true).raiseIrq Blk.SUP irq)
      ∧ OnlyRegs (Reg.SUP_SUPPLY_STAT :: irqRegs Blk.SUP) s ((s.setFlag Reg.SUP_SUPPLY_STAT bit true).raiseIrq Blk.SUP irq) := by
  refine ⟨?_, State.raiseIrq_flag_same _ _ _ hirq, ((s.setFlag_onlyChanges _ _ _).mono (by simp)).trans (State.raiseIrq_onlyChanges _ _ _),
    (OnlyRegs.refl _ s).setFlag.raiseIrq⟩
  exact (State.flag_congr _ _ _ _ (State.raiseIrq_onlyRegs _ Blk.SUP irq _ supplyStat_not_irqReg)).trans (s.setFlag_flag_same _ _ _ hbit)

/-! ### Measurements -/

theorem State.noteVmain_spec (s : State) {mv : Nat} (h : mv < 2 ^ 32) : (s.noteVmain mv).num Reg.SUP_VMAIN = mv
    ∧ (s.noteVmain mv).flag Reg.SUP_SUPPLY_STAT 0 = (decide (10800 ≤ mv) && decide (mv ≤ 13200))
    ∧ (∀ i, i ≠ 0 → (s.noteVmain mv).flag Reg.SUP_SUPPLY_STAT i = s.flag Reg.SUP_SUPPLY_STAT i)
    ∧ OnlyChanges [.regs] s (s.noteVmain mv) ∧ OnlyRegs [Reg.SUP_VMAIN, Reg.SUP_SUPPLY_STAT] s (s.noteVmain mv) := by
  refine ⟨?_, State.setFlag_flag_same _ _ _ _ (by decide), fun i hi => ?_,
    (s.setNum_onlyChanges _ _).trans (State.setFlag_onlyChanges _ _ _ _), (OnlyRegs.refl _ s).setNum.setFlag⟩
  · refine (State.num_congr (State.setFlag_reg_other _ _ _ _ _ (by decide))).trans ((s.setNum_num_same _ _).trans (Nat.mod_eq_of_lt h))
  · exact (State.setFlag_flag_other _ _ _ _ _ (by decide) hi.symm).trans (State.flag_congr _ _ _ _ (s.setNum_reg_other _ _ _ (by decide)))

theorem signed_unsigned_temp {c : Int} (hlo : -1000 ≤ c) (hhi : c ≤ 2000) : signed 32 (unsigned 32 c) = c ∧ unsigned 32 c < 2 ^ 32 := by
  refine ⟨?_, ?_⟩
  · rw [signed_unsigned (by decide)]
    exact BitVec.toInt_ofInt_eq_self (by decide) (by omega) (by omega)
  · simp only [unsigned]
    omega

theorem State.noteTemp_onlyChanges (s : State) (c : Int) : OnlyChanges [.regs] s (s.noteTemp c) := by
  unfold State.noteTemp
  simp only
  split
  · exact (s.setNum_onlyChanges _ _).trans (State.setNum_onlyChanges _ _ _)
  · exact s.setNum_onlyChanges _ _

theorem State.noteTemp_onlyRegs (s : State) (c : Int) : OnlyRegs [Reg.SUP_TEMP, Reg.SUP_TEMP_MAX] s (s.noteTemp c) := by
  unfold State.noteTemp
  simp only
  split
  · exact (OnlyRegs.refl _ s).setNum.setNum
  · exact (OnlyRegs.refl _ s).setNum

theorem State.noteTemp_spec (s : State) {c : Int} (hlo : -1000 ≤ c) (hhi : c ≤ 2000) : (s.noteTemp c).num Reg.SUP_TEMP = unsigned 32 c
    ∧ signed 32 ((s.noteTemp c).num Reg.SUP_TEMP_MAX) = max c (signed 32 (s.num Reg.SUP_TEMP_MAX)) := by
  obtain ⟨hsig, hlt⟩ := signed_unsigned_temp hlo hhi
  have htemp : (s.setNum Reg.SUP_TEMP (unsigned 32 c)).num Reg.SUP_TEMP = unsigned 32 c :=
    (s.setNum_num_same _ _).trans (Nat.mod_eq_of_lt hlt)
  unfold State.noteTemp
  simp only
  split
  · next h =>
    refine ⟨(State.num_congr (State.setNum_reg_other _ _ _ _ (by decide))).trans htemp, ?_⟩
    rw [State.setNum_num_same, Nat.mod_eq_of_lt hlt, hsig]
    omega
  · next h =>
    refine ⟨htemp, ?_⟩
    rw [State.num_congr (s.setNum_reg_other _ _ _ (by decide))]
    omega

/-! ### The end of a life, and the start counter -/

theorem State.setRecord_sup (s : State) (f : StartRec → StartRec) : ∃ l, s.setRecord f = s.setNv { s.sup.nv with records := l } := ⟨_, rfl⟩

theorem State.setNv_onlyChanges (s : State) (n : StartMem) : OnlyChanges [.sup] s (s.setNv n) := by
  simp [State.setNv, onlyChanges_iff]

theorem State.setRecord_onlyChanges (s : State) (f : StartRec → StartRec) : OnlyChanges [.sup] s (s.setRecord f) := s.setNv_onlyChanges _

theorem State.endLife_begun (hup : s.Up) (hbegun : s.lifeBegun = true) (code : Nat) : ∃ x : Sup, s.endLife code = { s with sup := x }
    ∧ x.inReset = true ∧ x.pfail = true ∧ x.commitDue = true ∧ x.nv.endCode = code ∧ x.nv.lastConfirmed = s.confirmed
    ∧ x.nv.count = s.sup.nv.count ∧ x.nv.reason = s.sup.nv.reason := by
  unfold State.endLife
  simp only [show s.sup.inReset = false from hup, hbegun, Bool.not_true, Bool.false_eq_true, if_false]
  exact ⟨_, rfl, rfl, rfl, rfl, rfl, rfl, rfl, rfl⟩

theorem State.withSup_only (s : State) (x : Sup) : OnlyChanges [.sup] s { s with sup := x } := by
  simp [onlyChanges_iff]

/-- The end of a life that has begun (R567, R568). -/
theorem State.endLife_spec (hup : s.Up) (hbegun : s.lifeBegun = true) (code : Nat) : s.LifeEnded (s.endLife code) code
    ∧ (s.endLife code).sup.nv.count = s.sup.nv.count ∧ (s.endLife code).sup.nv.reason = s.sup.nv.reason
    ∧ OnlyChanges [.sup] s (s.endLife code) := by
  obtain ⟨x, h, hreset, hpfail, hdue, hcode, hconf, hcount, hreason⟩ := State.endLife_begun hup hbegun code
  rw [h]
  exact ⟨⟨hreset, hpfail, hdue, hcode, hconf⟩, hcount, hreason, s.withSup_only x⟩

theorem State.noteCount_onlyRegs (s : State) : OnlyRegs [Reg.SUP_START_STAT] s s.noteCount :=
  (OnlyRegs.refl _ s).setFld.setFld

theorem State.noteCount_onlyChanges (s : State) : OnlyChanges [.regs] s s.noteCount :=
  (s.setFld_onlyChanges _ _ _ _).trans (State.setFld_onlyChanges _ _ _ _ _)

theorem State.noteCount_count (s : State) : s.noteCount.fld Reg.SUP_START_STAT 0 8 = s.sup.nv.count % 256 :=
  (State.setFld_fld_other _ _ 8 8 _ 0 8 (by decide) (by decide)).trans (s.setFld_fld_same _ _ _ _ (by decide))

theorem State.noteCount_confirmed (s : State) : s.noteCount.confirmed = s.confirmed :=
  congrArg (· == 1) ((State.setFld_fld_other _ _ 8 8 _ 24 1 (by decide) (by decide)).trans
    (s.setFld_fld_other _ 0 8 _ 24 1 (by decide) (by decide)))

/-- COUNT grows by one with its reason, and shows it (R576, R578). -/
theorem State.countStart_spec (s : State) (reason : Nat) (d d2 : Word) : s.Counted (s.countStart reason d d2) reason
    ∧ (s.countStart reason d d2).confirmed = s.confirmed ∧ (s.countStart reason d d2).lifeBegun = s.lifeBegun
    ∧ (s.countStart reason d d2).sup.inReset = s.sup.inReset ∧ OnlyChanges [.regs, .sup] s (s.countStart reason d d2)
    ∧ OnlyRegs [Reg.SUP_START_STAT] s (s.countStart reason d d2) := by
  obtain ⟨x, hx, hcount, hreason, hreset⟩ : ∃ x : Sup, s.countStart reason d d2 = ({ s with sup := x } : State).noteCount
      ∧ x.nv.count = Nat.min 255 (s.sup.nv.count + 1) ∧ x.nv.reason = reason ∧ x.inReset = s.sup.inReset := by
    unfold State.countStart
    simp only
    split
    · exact ⟨_, rfl, rfl, rfl, rfl⟩
    · exact ⟨_, rfl, rfl, rfl, rfl⟩
  have hsup : (s.countStart reason d d2).sup = x := by
    rw [hx]
    exact (State.noteCount_onlyChanges { s with sup := x }).2.2 .sup (by simp)
  have hregs : OnlyRegs [Reg.SUP_START_STAT] s (s.countStart reason d d2) := by
    rw [hx]
    exact (OnlyRegs.of_regs_eq (t := { s with sup := x }) rfl).trans (State.noteCount_onlyRegs _)
  refine ⟨⟨?_, ?_, ?_⟩, ?_, ?_, ?_, ?_, hregs⟩
  · rw [hsup, hcount]
  · rw [hsup, hreason]
  · rw [hx, State.noteCount_count, hcount]
  · rw [hx, State.noteCount_confirmed]
    rfl
  · simp only [State.lifeBegun, State.mode, State.fld_congr (hregs Reg.SUP_MODE (by decide))]
  · rw [hsup, hreset]
  · rw [hx]
    exact ((s.withSup_only x).mono (by simp)).trans ((State.noteCount_onlyChanges _).mono (by simp))

/-- A life that ends for a counted reason. -/
theorem State.countedEnd_spec (hup : s.Up) (hbegun : s.lifeBegun = true) (reason code : Nat) (d d2 : Word) :
    s.LifeEnded ((s.countStart reason d d2).endLife code) code ∧ s.Counted ((s.countStart reason d d2).endLife code) reason
      ∧ OnlyChanges [.regs, .sup] s ((s.countStart reason d d2).endLife code)
      ∧ OnlyRegs [Reg.SUP_START_STAT] s ((s.countStart reason d d2).endLife code) := by
  obtain ⟨⟨hcount, hreason, hshown⟩, hconf, hlife, hreset, hch, hregs⟩ := s.countStart_spec reason d d2
  obtain ⟨hended, hcount', hreason', hch'⟩ := State.endLife_spec (s := s.countStart reason d d2) (hreset.trans hup) (hlife.trans hbegun) code
  have hsame := hch'.2.2 .regs (by simp)
  obtain ⟨h1, h2, h3, h4, h5⟩ := hended
  exact ⟨⟨h1, h2, h3, h4, h5.trans hconf⟩, ⟨hcount'.trans hcount, hreason'.trans hreason, (State.fld_congr (State.reg_congr _ _ hsame _) 0 8).trans hshown⟩,
    hch.trans (hch'.mono (by simp)), hregs.trans (OnlyRegs.of_regs_eq hsame)⟩

end

end Sys2Proof.Machine

/-! PROOFS. The service cores (R22 to R26, R193). -/

namespace Sys2Proof.Machine

-- One declaration after the other: the stacks of parallel elaboration would count against the memory limit of the check.
set_option Elab.async false

section
variable {s : State}

/-! ### A core that stops -/

/-- What the expiry of a core's watchdog notes (R24, R26). -/
def State.wdtNoted (s : State) (core : Nat) : State :=
  let l := s.clk :: ((if core = 0 then s.sup.wdt0 else s.sup.wdt1).filter (fun c => decide (s.clk < c + 600 * 1000 * msClk)))
  (({ s with sup := { s.sup with wdt0 := if core = 0 then l else s.sup.wdt0, wdt1 := if core = 0 then s.sup.wdt1 else l,
                                 cleanCycle := s.chain / 65536 } } : State).satInc Reg.SUP_CORE_RST_CNT (8 * core) 8 1).raiseIrq Blk.SUP 9

theorem State.wdtNoted_onlyChanges (s : State) (core : Nat) : OnlyChanges [.regs, .out, .sup] s (s.wdtNoted core) :=
  (((s.withSup_only _).mono (by simp)).trans ((State.satInc_onlyChanges _ _ _ _ _).mono (by simp))).trans
    ((State.raiseIrq_onlyChanges _ _ _).mono (by simp))

theorem State.wdtNoted_onlyRegs (s : State) (core : Nat) : OnlyRegs (Reg.SUP_CORE_RST_CNT :: irqRegs Blk.SUP) s (s.wdtNoted core) := by
  unfold State.wdtNoted
  refine OnlyRegs.raiseIrq (OnlyRegs.satInc (OnlyRegs.of_regs_eq ?_))
  rfl

theorem State.wdtNoted_sup (s : State) (core : Nat) : (s.wdtNoted core).sup = { s.sup with
    wdt0 := if core = 0 then s.clk :: s.sup.wdt0.filter (fun c => decide (s.clk < c + 600 * 1000 * msClk)) else s.sup.wdt0
    wdt1 := if core = 0 then s.sup.wdt1 else s.clk :: s.sup.wdt1.filter (fun c => decide (s.clk < c + 600 * 1000 * msClk))
    cleanCycle := s.chain / 65536 } := by
  unfold State.wdtNoted
  simp only [State.raiseIrq_sup, State.satInc_sup]
  by_cases h : core = 0 <;> simp only [h, if_true, if_false]

/-- With nothing open in the store there is nothing to settle (R378). -/
theorem State.stoSettle_idle (h : s.StoIdle) (hw : s.sto.waits = []) (hr : s.sto.reads = []) : s.stoSettle = s := by
  obtain ⟨-, hwrites, -, hdur⟩ := h
  have hdead : (s.sto.writes.filter (fun w => !s.writeLives w)).map (fun w => w.tag) = [] := by rw [hwrites]; rfl
  have hone : s.sto.durable.foldl State.settleOne s = s := by rw [hdur]; rfl
  have hwait : s.sto.waits.foldl State.settleWait s = s := by rw [hw]; rfl
  have hread : s.sto.reads.filter (fun r => (s.slot r.tag).st == .active && (s.slot r.tag).gen == r.gen) = s.sto.reads := by rw [hr]; rfl
  have hkeep : s.sto.waits.filter (fun w => (s.slot w.tag).st == .active) = s.sto.waits := by rw [hw]; rfl
  simp only [State.stoSettle, hdead, List.foldl_nil, hone, hwait, hread, hkeep]

theorem State.openTags_congr {s t : State} (h : t.opt = s.opt) : t.openTags = s.openTags := by
  simp only [State.openTags, h]

theorem State.setCore_openTags (s : State) (core : Nat) (up : Bool) : (s.setCore core up).openTags = s.openTags := by
  unfold State.setCore
  split <;> rfl

/-- A core that stops with nothing open drops nothing. -/
theorem State.dropCore_idle (ht : s.openTags = []) (h : s.StoIdle) (hw : s.sto.waits = []) (hr : s.sto.reads = []) (core : Nat) :
    s.dropCore core = s := by
  simp only [State.dropCore, ht, List.foldl_nil]
  exact State.stoSettle_idle h hw hr

/-! ### Reservations are listed afresh -/

theorem State.withArb_onlyChanges (s : State) (x : Arb) : OnlyChanges [.arb] s { s with arb := x } := by
  simp [onlyChanges_iff]

theorem State.listPrice_spec (s : State) (i gen ch : Nat) : OnlyChanges [.arb] s (s.listPrice i gen ch)
    ∧ (s.listPrice i gen ch).arb.coreDown = s.arb.coreDown := by
  unfold State.listPrice
  split
  · exact ⟨.refl _ s, rfl⟩
  · exact ⟨s.withArb_onlyChanges _, rfl⟩

theorem State.listStake_spec (s : State) (i : Nat) (k : Stake) : OnlyChanges [.arb] s (s.listStake i k)
    ∧ (s.listStake i k).arb.coreDown = s.arb.coreDown := by
  refine List.foldlRecOn (motive := fun a : State => OnlyChanges [.arb] s a ∧ a.arb.coreDown = s.arb.coreDown) _ _
    ⟨.refl _ s, rfl⟩ fun a ha c _ => ?_
  obtain ⟨hch, hdown⟩ := a.listPrice_spec i k.gen c
  exact ⟨ha.1.trans hch, hdown.trans ha.2⟩

theorem State.listWindow_spec (s : State) : OnlyChanges [.arb] s s.listWindow ∧ s.listWindow.arb.coreDown = s.arb.coreDown := by
  refine List.foldlRecOn (motive := fun a : State => OnlyChanges [.arb] s a ∧ a.arb.coreDown = s.arb.coreDown) _ _
    ⟨.refl _ s, rfl⟩ fun a ha e _ => ?_
  obtain ⟨hch, hdown⟩ := a.listStake_spec e.1 e.2
  exact ⟨ha.1.trans hch, hdown.trans ha.2⟩

/-! ### The watchdog's expiry -/

/-- A core's expiry restarts it, and the third in 600 s ends the life (R24, R26). -/
def State.wdtExpired (s : State) (core : Nat) : State :=
  if 3 ≤ (s.clk :: ((if core = 0 then s.sup.wdt0 else s.sup.wdt1).filter (fun c => decide (s.clk < c + 600 * 1000 * msClk)))).length then
    ((s.wdtNoted core).countStart 5 0 0).endLife 3
  else ((s.wdtNoted core).setCore core false).dropCore core

theorem exec_coreWatchdog_up {core : Nat} {t : State} {ps : List Part} (hup : s.Up) (hc : core ≤ 1) (hcore : s.coreUp core = true)
    (ht : s.wdtExpired core = t) (hch : OnlyChanges ps s t) (hkey : Part.key ∉ ps) : exec (.coreWatchdog core) s = .next t := by
  rw [exec_coreWatchdog, execCoreWatchdog]
  refine State.powered_next hup ?_ hch hkey
  simp only [if_neg (show ¬ (1 < core ∨ (!s.coreUp core) = true) by simp [hcore]; omega)]
  exact ht

theorem State.wdtNoted_count (s : State) : (s.wdtNoted 1).fld Reg.SUP_CORE_RST_CNT 8 8 = Nat.min 255 (s.fld Reg.SUP_CORE_RST_CNT 8 8 + 1) := by
  have hirq : Reg.SUP_CORE_RST_CNT ∉ irqRegs Blk.SUP := by decide
  unfold State.wdtNoted
  simp only
  rw [State.fld_congr (State.raiseIrq_onlyRegs _ Blk.SUP 9 _ hirq)]
  refine (State.setFld_fld_same _ _ _ _ _ (by decide)).trans ((Nat.mod_eq_of_lt ?_).trans (Nat.min_comm _ _))
  exact Nat.lt_of_le_of_lt (Nat.min_le_right _ _) (by decide)

theorem State.endLife_onlyChanges (s : State) (code : Nat) : OnlyChanges [.sup] s (s.endLife code) := by
  unfold State.endLife
  split
  · exact .refl _ s
  · simp only
    split
    · exact (s.withSup_only _).trans (State.setNv_onlyChanges _ _)
    · exact (s.withSup_only _).trans ((State.setNv_onlyChanges _ _).trans (State.setRecord_onlyChanges _ _))

/-- Core 1 stopped, with what it last set for the heartbeats (R24). -/
theorem State.setCore_one_down (s : State) : s.setCore 1 false
    = { s with arb := { s.arb with coreDown := true }, hlk := { s.hlk with told := some s.hbTold } } := rfl

theorem State.withHlk_onlyChanges (s : State) (x : Arb) (y : Hlk) : OnlyChanges [.arb, .hlk] s { s with arb := x, hlk := y } := by
  simp [onlyChanges_iff]

theorem State.wdtNoted_irq (s : State) (core : Nat) : (s.wdtNoted core).flag (Reg.IRQ_STAT Blk.SUP) 9 = true :=
  State.raiseIrq_flag_same _ _ _ (by decide)

/-- What a life's end for a counted reason is behind a change that leaves SUP's books alone. -/
theorem State.countedEnd_behind {a : State} (hup : s.Up) (hbegun : s.lifeBegun = true) (hreset : a.sup.inReset = s.sup.inReset)
    (hnv : a.sup.nv = s.sup.nv) (hmode : a.reg Reg.SUP_MODE = s.reg Reg.SUP_MODE) (hstat : a.reg Reg.SUP_START_STAT = s.reg Reg.SUP_START_STAT)
    (reason code : Nat) : s.LifeEnded ((a.countStart reason 0 0).endLife code) code ∧ s.Counted ((a.countStart reason 0 0).endLife code) reason
      ∧ OnlyChanges [.regs, .sup] a ((a.countStart reason 0 0).endLife code)
      ∧ OnlyRegs [Reg.SUP_START_STAT] a ((a.countStart reason 0 0).endLife code) := by
  have hbegun' : a.lifeBegun = true := by
    rw [← hbegun]
    simp only [State.lifeBegun, State.mode, State.fld_congr hmode]
  have hconf : a.confirmed = s.confirmed := State.flag_congr s a _ _ hstat
  obtain ⟨hended, hcounted, hch, hregs⟩ := State.countedEnd_spec (s := a) (hreset.trans hup) hbegun' reason code 0 0
  unfold State.LifeEnded at *
  unfold State.Counted at *
  rw [hconf] at hended
  rw [hnv] at hcounted
  exact ⟨hended, hcounted, hch, hregs⟩

theorem State.hbTold_congr {a : State} (hch : OnlyChanges [.regs, .out, .sup] s a) (hrole : a.sup.roleStrap = s.sup.roleStrap)
    (hregs : OnlyRegs (Reg.SUP_CORE_RST_CNT :: irqRegs Blk.SUP) s a) : a.hbTold = s.hbTold := by
  have hhlk : a.hlk = s.hlk := hch.2.2 .hlk (by simp)
  have hclk : a.clk = s.clk := hch.2.1
  have hfree : a.free = s.free := hch.2.2 .free (by simp)
  have hmode : a.mode = s.mode := State.fld_congr (hregs Reg.SUP_MODE (by decide)) _ _
  have hlat : a.latSt = s.latSt := State.fld_congr (hregs Reg.LAT_STATE (by decide)) _ _
  have hstat := hregs Reg.HLK_STAT (by decide)
  simp only [State.hbTold, hrole, hhlk, hclk, hfree, hmode, hlat, State.mgrSeen, State.unitsHere, State.fld_congr hstat,
    State.flag_congr _ _ _ _ hstat, State.flag_congr _ _ _ _ (hregs Reg.LAT_STATE (by decide)),
    State.num_congr (hregs Reg.HLK_MEMBER_GEN (by decide)), State.num_congr (hregs Reg.HLK_PLACE_GEN (by decide))]
  rfl

/-! ### A core that is ready -/

/-- Nothing waited for the core. -/
theorem State.serveCore_of_none (h : s.coreWait = []) (core : Nat) : s.serveCore core = s := by
  simp only [State.serveCore, h, List.filter_nil, List.foldl_nil]
  rw [← h]

/-- One thing waited for the core. -/
theorem State.serveCore_of_one {core : Nat} {l : Late} (h : s.coreWait = [(core, l)]) :
    s.serveCore core = ({ s with coreWait := [] } : State).defer Rank.CORE l := by
  have hmine : s.coreWait.filter (fun e => e.1 == core) = [(core, l)] := by simp [h]
  have hrest : s.coreWait.filter (fun e => e.1 != core) = [] := by simp [h]
  simp only [State.serveCore, hmine, hrest, List.foldl_cons, List.foldl_nil]

theorem State.defer_of_none {rank : Nat} {l : Late} (h : s.late = []) : s.defer rank l = { s with late := [(rank, l)] } := by
  simp only [State.defer, h, List.takeWhile_nil, List.dropWhile_nil, List.nil_append]

end

/-- Settles O52: each supervised condition sets or clears its flag, and a life ends with its code. -/
theorem suppliesAndCores : Obligations.SuppliesAndCores := by
  unfold Obligations.SuppliesAndCores
  intro s hup
  refine ⟨fun mv hmv => ?_, fun c hc hdue => ⟨fun hok hlt hoff => ?_, fun hlt => ?_⟩, fun c hlo hhi => ⟨fun h hoff => ?_, fun h => ?_, fun h => ?_, fun h hbegun => ?_⟩,
    fun hdown htags hidle hwaits hreads => ?_, fun a b hcore hwdt ha hb hbegun => ?_, fun hfw hwait => ⟨fun hwdt hcore => ?_, fun l hwdt hcore hlate => ?_, fun hwdt hdown => ?_⟩,
    fun hbegun => ⟨?_, fun hconf => ?_, fun hconf => ?_⟩⟩
  · obtain ⟨hnum, hok, hflag, hch, hregs⟩ := s.noteVmain_spec hmv
    refine ⟨fun h hoff => ?_, fun h => ?_, fun h h' => ?_, fun h hoff => ?_, fun h => ?_, fun hok0 => ⟨fun hclk => ?_, fun c hc hlt => ?_⟩⟩
    · obtain ⟨hset, hirq, hch2, hregs2⟩ := (s.noteVmain mv).superFlag_set_spec (bit := 1) (irq := 1) (by decide) (by decide)
      have hall := (hch.mono (by simp)).trans hch2
      refine ⟨_, ?_, ?_, hset, ?_, hirq, hall, (hregs.mono (by simp)).trans (hregs2.mono (by simp))⟩
      · rw [exec_vmainLow, execVmainLow]
        exact State.powered_next hup (State.superFlag_set (by simpa using h) ((hflag 1 (by decide)).trans hoff)) hall (by simp)
      · exact (State.num_congr (hregs2 _ (by decide))).trans hnum
      · rw [State.flag_congr _ _ _ _ (State.raiseIrq_onlyRegs _ Blk.SUP 1 _ supplyStat_not_irqReg), State.setFlag_flag_other _ _ _ _ _ (by decide) (by decide), hok,
          decide_eq_false (by omega), Bool.false_and]
    · have hall := hch.trans (State.setFlag_onlyChanges _ Reg.SUP_SUPPLY_STAT 1 false)
      refine ⟨_, ?_, ?_, State.setFlag_flag_same _ _ _ _ (by decide), hall, hregs.setFlag⟩
      · rw [exec_vmainLow, execVmainLow]
        exact State.powered_next hup (State.superFlag_clear (decide_eq_false (by omega)) (decide_eq_true h)) hall (by simp)
      · exact (State.num_congr (State.setFlag_reg_other _ _ _ _ _ (by decide))).trans hnum
    · refine ⟨_, ?_, hnum, hflag 1 (by decide), ?_⟩
      · rw [exec_vmainLow, execVmainLow]
        exact State.powered_next hup (State.superFlag_keep (decide_eq_false (by omega)) (decide_eq_false (by omega))) hch (by simp)
      · rw [hok, decide_eq_true h, decide_eq_true (by omega), Bool.and_self]
    · obtain ⟨hset, hirq, hch2, hregs2⟩ := (s.noteVmain mv).superFlag_set_spec (bit := 2) (irq := 2) (by decide) (by decide)
      have hall := (hch.mono (by simp)).trans hch2
      refine ⟨_, ?_, hset, hirq, hall, (hregs.mono (by simp)).trans (hregs2.mono (by simp))⟩
      rw [exec_vmainHigh, execVmainHigh]
      exact State.powered_next hup (State.superFlag_set (by simpa using h) ((hflag 2 (by decide)).trans hoff)) hall (by simp)
    · have hall := hch.trans (State.setFlag_onlyChanges _ Reg.SUP_SUPPLY_STAT 2 false)
      refine ⟨_, ?_, State.setFlag_flag_same _ _ _ _ (by decide), hall⟩
      rw [exec_vmainHigh, execVmainHigh]
      exact State.powered_next hup (State.superFlag_clear (decide_eq_false (by omega)) (decide_eq_true h)) hall (by simp)
    · have hall : OnlyChanges [.regs, .sup] s (({ s with sup := { s.sup with holdClk := some s.clk } } : State).setNum Reg.SUP_HOLDUP mv) :=
        ((s.withSup_only _).mono (by simp)).trans ((State.setNum_onlyChanges _ _ _).mono (by simp))
      refine ⟨_, ?_, (State.setNum_num_same _ _ _).trans (Nat.mod_eq_of_lt hmv), rfl, hall, OnlyRegs.setNum (OnlyRegs.of_regs_eq rfl)⟩
      rw [exec_holdupTest, execHoldupTest]
      refine State.powered_next hup ?_ hall (by simp)
      have hdue : (match s.sup.holdClk with
          | some c => decide (c + 10000 * msClk ≤ s.clk)
          | none => true) = true := by
        split
        · next c hc => exact decide_eq_true (hclk c hc)
        · rfl
      exact if_pos ⟨hdue, hok0⟩
    · rw [exec_holdupTest, execHoldupTest]
      refine State.powered_same ?_
      simp only [hc, decide_eq_false (Nat.not_le.2 hlt), Bool.false_eq_true, false_and, if_false]
  · obtain ⟨hset, hirq, hch, hregs⟩ := s.superFlag_set_spec (bit := 3) (irq := 3) (by decide) (by decide)
    refine ⟨_, ?_, hset, hirq, hch, hregs⟩
    rw [exec_holdupLow, execHoldupLow]
    refine State.powered_next hup ?_ hch (by simp)
    simp only [hc, decide_eq_true hdue, Bool.not_true, Bool.false_eq_true, if_false]
    exact State.superFlag_set (by rw [hok, decide_eq_true hlt, Bool.and_self]) hoff
  · rw [exec_holdupLow, execHoldupLow]
    refine State.powered_next hup ?_ (s.setFlag_onlyChanges _ _ _) (by simp)
    simp only [hc, decide_eq_true hdue, Bool.not_true, Bool.false_eq_true, if_false]
    exact State.superFlag_clear (by rw [decide_eq_false (by omega), Bool.and_false]) (decide_eq_true hlt)
  · obtain ⟨htemp, hmax⟩ := s.noteTemp_spec hlo hhi
    have hregs := s.noteTemp_onlyRegs c
    obtain ⟨hset, hirq, hch2, hregs2⟩ := (s.noteTemp c).superFlag_set_spec (bit := 8) (irq := 4) (by decide) (by decide)
    have hall := ((s.noteTemp_onlyChanges c).mono (by simp)).trans hch2
    refine ⟨_, ?_, hset, hirq, (State.num_congr (hregs2 _ (by decide))).trans htemp, ?_, hall⟩
    · rw [exec_thermWarn, execThermWarn]
      exact State.powered_next hup (State.superFlag_set (decide_eq_true h) ((State.flag_congr _ _ _ _ (hregs _ (by decide))).trans hoff)) hall (by simp)
    · rw [State.num_congr (hregs2 _ (by decide))]
      exact hmax
  · have hall := (s.noteTemp_onlyChanges c).trans (State.setFlag_onlyChanges _ Reg.SUP_SUPPLY_STAT 8 false)
    refine ⟨_, ?_, State.setFlag_flag_same _ _ _ _ (by decide), hall⟩
    rw [exec_thermWarn, execThermWarn]
    exact State.powered_next hup (State.superFlag_clear (decide_eq_false (by omega)) (decide_eq_true h)) hall (by simp)
  · refine ⟨_, ?_, (s.noteTemp_spec hlo hhi).1, s.noteTemp_onlyChanges c⟩
    rw [exec_thermalRestart, execThermalRestart]
    exact State.powered_next hup (if_pos h) (s.noteTemp_onlyChanges c) (by simp)
  · have hregs := s.noteTemp_onlyRegs c
    have hsup : (s.noteTemp c).sup = s.sup := (s.noteTemp_onlyChanges c).2.2 .sup (by simp)
    obtain ⟨hended, hcounted, hch, -⟩ := State.countedEnd_behind (a := s.noteTemp c) hup hbegun (by rw [hsup]) (by rw [hsup])
      (hregs _ (by decide)) (hregs _ (by decide)) 8 6
    have hall := ((s.noteTemp_onlyChanges c).mono (by simp)).trans hch
    refine ⟨_, ?_, hended, hcounted, hall⟩
    rw [exec_thermalRestart, execThermalRestart]
    exact State.powered_next hup (if_neg (by omega)) hall (by simp)
  · have hcore : s.coreUp 1 = true := by simp [State.coreUp, hdown]
    have hch := s.wdtNoted_onlyChanges 1
    have hregs := s.wdtNoted_onlyRegs 1
    by_cases hlen : 3 ≤ (s.clk :: ((if 1 = 0 then s.sup.wdt0 else s.sup.wdt1).filter (fun c => decide (s.clk < c + 600 * 1000 * msClk)))).length
    · have hend := ((s.wdtNoted 1).countStart 5 0 0).endLife_onlyChanges 3
      obtain ⟨-, -, -, -, hcount, hcregs⟩ := (s.wdtNoted 1).countStart_spec 5 0 0
      have hall := (hch.mono (qs := [.regs, .out, .sup]) (by simp)).trans ((hcount.mono (by simp)).trans (hend.mono (by simp)))
      have hreg : ∀ off, off ≠ Reg.SUP_START_STAT → (((s.wdtNoted 1).countStart 5 0 0).endLife 3).reg off = (s.wdtNoted 1).reg off := fun off h =>
        (State.reg_congr _ _ (hend.2.2 .regs (by simp)) off).trans (hcregs off (by simpa using h))
      refine ⟨_, exec_coreWatchdog_up hup (by decide) hcore (if_pos hlen) hall (by simp), (State.fld_congr (hreg _ (by decide)) 8 8).trans s.wdtNoted_count,
        (State.flag_congr _ _ _ _ (hreg _ (by decide))).trans (s.wdtNoted_irq 1), fun hempty => ?_⟩
      rw [if_neg (by decide), hempty] at hlen
      simp at hlen
    · have hsto : (s.wdtNoted 1).sto = s.sto := hch.2.2 .sto (by simp)
      have hdrop : s.wdtExpired 1 = (s.wdtNoted 1).setCore 1 false := by
        refine (if_neg hlen).trans (State.dropCore_idle ?_ ?_ ?_ ?_ 1)
        · rw [State.setCore_openTags]
          exact (State.openTags_congr (hch.2.2 .opt (by simp))).trans htags
        · simp only [State.setCore_one_down, State.StoIdle, hsto]
          exact hidle
        · simp only [State.setCore_one_down, hsto, hwaits]
        · simp only [State.setCore_one_down, hsto, hreads]
      rw [State.setCore_one_down] at hdrop
      have hall := (hch.mono (qs := [.regs, .out, .sup, .arb, .hlk, .sto]) (by simp)).trans (((s.wdtNoted 1).withHlk_onlyChanges
        { (s.wdtNoted 1).arb with coreDown := true } { (s.wdtNoted 1).hlk with told := some (s.wdtNoted 1).hbTold }).mono (by simp))
      refine ⟨_, exec_coreWatchdog_up hup (by decide) hcore hdrop hall (by simp), s.wdtNoted_count, s.wdtNoted_irq 1, fun hempty => ⟨?_, rfl, ?_, ?_, hall⟩⟩
      · exact (congrArg Sup.inReset (s.wdtNoted_sup 1)).trans hup
      · refine (congrArg Sup.wdt1 (s.wdtNoted_sup 1)).trans ?_
        simp only [if_neg (show ¬ (1 = 0) by decide), hempty, List.filter_nil]
      · exact congrArg some (State.hbTold_congr hch ((congrArg Sup.roleStrap (s.wdtNoted_sup 1)).trans rfl) hregs)
  · have hlen : (s.clk :: ((if 0 = 0 then s.sup.wdt0 else s.sup.wdt1).filter (fun c => decide (s.clk < c + 600 * 1000 * msClk)))).length = 3 := by
      have h1 : s.clk < a + 600 * 1000 * msClk := ha
      have h2 : s.clk < b + 600 * 1000 * msClk := hb
      simp only [if_true, hwdt, List.filter_cons, decide_eq_true h1, decide_eq_true h2, List.filter_nil, List.length_cons, List.length_nil]
    have hregs := s.wdtNoted_onlyRegs 0
    obtain ⟨hended, hcounted, hch, -⟩ := State.countedEnd_behind (a := s.wdtNoted 0) hup hbegun (by rw [State.wdtNoted_sup]) (by rw [State.wdtNoted_sup])
      (hregs _ (by decide)) (hregs _ (by decide)) 5 3
    have hall := (s.wdtNoted_onlyChanges 0).trans (hch.mono (by simp))
    exact ⟨_, exec_coreWatchdog_up hup (by decide) hcore (if_pos (by rw [hlen])) hall (by simp), hended, hcounted, hall⟩
  · rw [exec_coreRestartDone, execCoreRestartDone]
    refine State.powered_next hup ?_ (s.withSup_only _) (by simp)
    rw [if_neg (by simp [hfw, State.coreRestarts, hwdt, State.coreUp, hcore]), if_neg (by decide)]
    exact State.serveCore_of_none (s := s.setCore 0 true) hwait 0
  · refine ⟨{ s with sup := { s.sup with core0Up := true }, late := [(Rank.CORE, l)], coreWait := [] }, ?_, rfl, rfl⟩
    rw [exec_coreRestartDone, execCoreRestartDone]
    refine State.powered_next (ps := [.sup, .late, .coreWait]) (show State.Up { s with coreWait := [(0, l)] } from hup) ?_
      (by simp [onlyChanges_iff]) (by simp)
    rw [if_neg (by simp [hfw, State.coreRestarts, hwdt, State.coreUp, hcore]), if_neg (by decide)]
    rw [State.serveCore_of_one (l := l) rfl, State.defer_of_none (by exact hlate)]
    rfl
  · obtain ⟨hch, hkeep⟩ := (s.setCore 1 true).listWindow_spec
    have hall : OnlyChanges [.arb, .hlk] s (s.setCore 1 true).listWindow :=
      (s.withHlk_onlyChanges { s.arb with coreDown := false } { s.hlk with told := none }).trans (hch.mono (by simp))
    refine ⟨_, ?_, hkeep, ?_, ?_, ?_⟩
    · rw [exec_coreRestartDone, execCoreRestartDone]
      refine State.powered_next hup ?_ hall (by simp)
      rw [if_neg (by simp [hfw, State.coreRestarts, hwdt, State.coreUp, hdown]), if_pos rfl]
      exact State.serveCore_of_none ((hall.2.2 .coreWait (by simp)).trans hwait) 1
    · exact congrArg Hlk.told (hch.2.2 .hlk (by simp))
    · exact hall.2.2 .sup (by simp)
    · exact hall.2.2 .late (by simp)
  · obtain ⟨hended, hcount, -, hch⟩ := State.endLife_spec hup hbegun 4
    refine ⟨_, ?_, hended, hcount, hch⟩
    rw [exec_sysRstPin, execSysRstPin]
    exact State.powered_next hup rfl hch (by simp)
  · obtain ⟨hended, hcounted, hch, -⟩ := State.countedEnd_spec hup hbegun 6 5 0 0
    refine ⟨_, ?_, hended, hcounted, hch⟩
    rw [exec_supplyOutputLow, execSupplyOutputLow]
    refine State.powered_next hup ?_ hch (by simp)
    simp only [show s.sup.inReset = false from hup, hconf, Bool.false_eq_true, if_false, State.unconfirmedRestart]
  · have hrec := s.setRecord_onlyChanges (fun r => { r with reason := 6 })
    obtain ⟨hended, hcount, -, hch⟩ := State.endLife_spec (s := s.setRecord (fun r => { r with reason := 6 })) hup hbegun 5
    refine ⟨_, ?_, hended, hcount, hrec.trans hch⟩
    rw [exec_supplyOutputLow, execSupplyOutputLow]
    refine State.powered_next hup ?_ (hrec.trans hch) (by simp)
    simp only [show s.sup.inReset = false from hup, hconf, Bool.false_eq_true, if_false, if_true]

end Sys2Proof.Machine

/-! PROOFS. The RTC (R522 to R531). -/

namespace Sys2Proof.Machine

-- One declaration after the other: the stacks of parallel elaboration would count against the memory limit of the check.
set_option Elab.async false

section
variable {s : State} {src : Nat}

/-! ### Any Survey request -/

theorem State.surveyRequest_frame (s : State) (src : Nat) : OnlyChanges [.regs, .out, .sup] s (s.surveyRequest src).2 := by
  unfold State.surveyRequest
  split
  · exact .refl _ s
  · split
    · exact s.surveyMissed_onlyChanges.mono (by simp)
    · split
      · exact (s.setFlag_onlyChanges _ _ _).mono (by simp)
      · split
        · exact ((s.surveyMissed_onlyChanges.mono (by simp)).trans (State.raiseIrq_onlyChanges _ _ _)).mono (by simp)
        · exact s.surveyEdge_onlyChanges src

/-- A register that is neither a Survey's nor in a block's window. -/
theorem State.surveyRequest_reg_outside (src : Nat) {off : Nat} (h : off ∉ Reg.SUP_SURVEY_OVR_CNT :: surveyRegs) (hw : ∀ c, ¬ inSnap c off) :
    (s.surveyRequest src).2.reg off = s.reg off := by
  have hovr : off ∉ [Reg.SUP_SURVEY_OVR_CNT] := fun hm => h (List.mem_cons.2 (Or.inl (List.mem_singleton.1 hm)))
  have hsurvey : off ∉ surveyRegs := fun hm => h (List.mem_cons_of_mem _ hm)
  unfold State.surveyRequest
  split
  · rfl
  · split
    · exact s.surveyMissed_onlyRegs off hovr
    · split
      · exact s.setFlag_reg_other _ _ _ _ fun e => hsurvey (e ▸ List.mem_cons_self)
      · split
        · exact (State.raiseIrq_onlyRegs _ Blk.SUP 6 off fun hm => hsurvey (List.mem_cons_of_mem _ (List.mem_cons_of_mem _ hm))).trans
            (s.surveyMissed_onlyRegs off hovr)
        · exact State.surveyEdge_reg_outside src hsurvey hw

/-! ### The RTC's own writes -/

theorem State.setRtc_only (s : State) (x : Rtc) : OnlyChanges [.rtc] s (s.setRtc x) := by
  simp [State.setRtc, onlyChanges_iff]

theorem State.setRtc_onlyRegs (s : State) (x : Rtc) (l : List Nat) : OnlyRegs l s (s.setRtc x) := OnlyRegs.of_regs_eq rfl

theorem State.rtcIrq_onlyChanges (s : State) (bit : Nat) : OnlyChanges [.regs, .out] s (s.rtcIrq bit) := by
  unfold State.rtcIrq
  split
  · exact .refl _ s
  · exact s.raiseIrq_onlyChanges _ _

theorem State.rtcIrq_bit (s : State) (bit i : Nat) : (s.rtcIrq bit).rtcBit i = s.rtcBit i :=
  State.flag_congr _ _ _ _ (s.rtcIrq_onlyRegs bit _ (by decide))

theorem State.holdRtc_spec (s : State) : s.holdRtc.rtcHalt = true ∧ s.holdRtc.rtc = { s.rtc with pend := some s.rtc.cal }
    ∧ OnlyChanges [.regs, .rtc] s s.holdRtc ∧ OnlyRegs [Reg.RTC_CTL] s s.holdRtc :=
  ⟨State.setFlag_flag_same _ _ _ _ (by decide), rfl, ((s.setRtc_only _).mono (by simp)).trans ((State.setFlag_onlyChanges _ _ _ _).mono (by simp)),
    (s.setRtc_onlyRegs _ _).setFlag⟩

/-- A set calendar runs, with OSF and DATE_INVALID clear (R524, R525). -/
theorem State.setCal_spec (s : State) (c : Cal) (n : Nat) : (s.setCal c n).rtc.cal = c ∧ (s.setCal c n).rtc.presc = 0
    ∧ (s.setCal c n).rtc.pend = none ∧ (s.rtcHalt = true → (s.setCal c n).rtc.wakeAt = rtcTicks c 0)
    ∧ (s.setCal c n).rtcHalt = false ∧ (s.setCal c n).rtcBit RtcBit.OSF = false ∧ (s.setCal c n).rtcBit RtcBit.DATE_INVALID = false
    ∧ OnlyChanges [.regs, .rtc] s (s.setCal c n) ∧ OnlyRegs [Reg.RTC_CTL, Reg.RTC_STAT] s (s.setCal c n) := by
  refine ⟨rfl, rfl, rfl, fun h => if_pos h, ?_, ?_, State.setFlag_flag_same _ _ _ _ (by decide), ?_, (s.setRtc_onlyRegs _ _).setFlag.setFlag.setFlag⟩
  · rw [State.rtcHalt, State.setCal, State.setFlag_flag_reg _ _ _ _ _ _ (by decide), State.setFlag_flag_reg _ _ _ _ _ _ (by decide),
      State.setFlag_flag_same _ _ _ _ (by decide)]
  · rw [State.rtcBit, State.setCal, State.setFlag_flag_other _ _ _ _ _ (by decide) (by decide), State.setFlag_flag_same _ _ _ _ (by decide)]
  · exact (((s.setRtc_only _).mono (by simp)).trans ((State.setFlag_onlyChanges _ _ _ _).mono (by simp))).trans
      (((State.setFlag_onlyChanges _ _ _ _).trans (State.setFlag_onlyChanges _ _ _ _)).mono (by simp))

/-! ### The shadows -/

/-- The shadows freeze where they were released, with no roll-over due (R526). -/
theorem State.freezeCal_of_released (hsh : s.rtc.shadow = none) (hpend : s.rtc.pend = none) (hhalt : s.rtcHalt = false)
    (hroll : s.rollsNow = false) (n : Nat) : s.freezeCal n =
      (s.setRtc { s.rtc with presc := n % 32768, shadow := some (s.rtc.cal, n % 32768, s.clk) }).setFlag Reg.RTC_STAT RtcBit.FROZEN true := by
  simp only [State.freezeCal, hsh, hhalt, hroll, Bool.false_eq_true, if_false, State.calShown, State.setRtc, hpend]

theorem State.freezeCal_of_frozen {x : Cal × Nat × Nat} (h : s.rtc.shadow = some x) (n : Nat) : s.freezeCal n = s := by
  simp only [State.freezeCal, h]

theorem State.calShown_of_frozen {c : Cal} {n k : Nat} (h : s.rtc.shadow = some (c, n, k)) : s.calShown = (c, n) := by
  simp only [State.calShown, h]

theorem State.releaseCal_spec (s : State) : s.releaseCal.rtc = { s.rtc with shadow := none } ∧ s.releaseCal.rtcBit RtcBit.FROZEN = false
    ∧ OnlyChanges [.regs, .rtc] s s.releaseCal :=
  ⟨rfl, State.setFlag_flag_same _ _ _ _ (by decide), ((s.setRtc_only _).mono (by simp)).trans ((State.setFlag_onlyChanges _ _ _ _).mono (by simp))⟩

/-! ### Trim -/

theorem clampInt_range (x : Int) : -255 ≤ clampInt (-255) 255 x ∧ clampInt (-255) 255 x ≤ 255 := by
  unfold clampInt
  split
  · omega
  · split <;> omega

theorem State.setTrim_trim (s : State) (x : Int) : (s.setTrim x).trim = clampInt (-255) 255 x := by
  obtain ⟨hlo, hhi⟩ := clampInt_range x
  have hsig : signed 9 (unsigned 9 (clampInt (-255) 255 x)) = clampInt (-255) 255 x := by
    rw [signed_unsigned (by decide)]
    exact BitVec.toInt_ofInt_eq_self (by decide) (by omega) (by omega)
  have hmod : unsigned 9 (clampInt (-255) 255 x) % 2 ^ 9 = unsigned 9 (clampInt (-255) 255 x) := by
    simp only [unsigned]
    omega
  rw [State.trim, State.setTrim, State.setFld_fld_same _ _ _ _ _ (by decide), hmod, hsig]
  omega

end

end Sys2Proof.Machine

/-! PROOFS. The RTC's commands (R522 to R531). -/

namespace Sys2Proof.Machine

-- One declaration after the other: the stacks of parallel elaboration would count against the memory limit of the check.
set_option Elab.async false

section
variable {s : State}

/-- What leaves SUP's part alone leaves the module out of reset. -/
theorem State.Up.frame {a : State} (hup : s.Up) {ps : List Part} (hf : OnlyChanges ps s a) (hs : Part.sup ∉ ps := by simp) : a.Up := by
  have hsup : a.sup = s.sup := hf.2.2 .sup hs
  rw [State.Up, hsup]
  exact hup

/-! ### Flags of RTC_STAT with their interrupt -/

/-- A flag of RTC_STAT is set with an interrupt bit of the RTC. -/
theorem State.statIrq_spec (s : State) {bit irq : Nat} (hbit : bit < 32) (hirq : irq < 32) :
    ((s.setFlag Reg.RTC_STAT bit true).raiseIrq Blk.RTC irq).rtcBit bit = true
      ∧ ((s.setFlag Reg.RTC_STAT bit true).raiseIrq Blk.RTC irq).flag (Reg.IRQ_STAT Blk.RTC) irq = true
      ∧ OnlyChanges [.regs, .out] s ((s.setFlag Reg.RTC_STAT bit true).raiseIrq Blk.RTC irq)
      ∧ OnlyRegs (Reg.RTC_STAT :: irqRegs Blk.RTC) s ((s.setFlag Reg.RTC_STAT bit true).raiseIrq Blk.RTC irq) := by
  refine ⟨?_, State.raiseIrq_flag_same _ _ _ hirq, ((s.setFlag_onlyChanges _ _ _).mono (by simp)).trans (State.raiseIrq_onlyChanges _ _ _),
    (OnlyRegs.refl _ s).setFlag.raiseIrq⟩
  exact (State.flag_congr _ _ _ _ (State.raiseIrq_onlyRegs _ Blk.RTC irq _ (by decide))).trans (s.setFlag_flag_same _ _ _ hbit)

/-! ### The power-up of the backup domain -/

/-- The registers that the power-up clears, before CTL and STAT. -/
def State.backupCleared (s : State) : State :=
  ([Reg.RTC_TRIM, Reg.RTC_WAKE, Reg.RTC_WAKE_CNT].foldl (fun a r => a.setNum r 0)
    (s.setRtc ⟨Cal.first, 0, some Cal.first, none, 0, none, rtcTicks Cal.first 0⟩)).forN 16 (fun a w => a.setNum (Reg.RTC_BKP w) 0)

theorem State.backupReset_eq (s : State) : s.backupReset = (((s.backupCleared).setNum Reg.RTC_CTL 1).setNum Reg.RTC_STAT 1).setNv
    { s.backupCleared.sup.nv with bkpBad := true } := rfl

theorem State.backupCleared_onlyChanges (s : State) : OnlyChanges [.regs, .rtc] s s.backupCleared := by
  refine State.forN_keeps (P := fun a => OnlyChanges [.regs, .rtc] s a) _ _ _ ?_ fun a w h => h.trans ((a.setNum_onlyChanges _ _).mono (by simp))
  refine List.foldlRecOn (motive := fun a : State => OnlyChanges [.regs, .rtc] s a) _ _ ((s.setRtc_only _).mono (by simp)) fun a h r _ => ?_
  exact h.trans ((a.setNum_onlyChanges _ _).mono (by simp))

theorem rtcBkp_ne {off w : Nat} (h : off < 0x180200) : Reg.RTC_BKP w ≠ off := by
  simp only [Reg.RTC_BKP]
  omega

theorem State.backupCleared_trim (s : State) : s.backupCleared.reg Reg.RTC_TRIM = 0 ∧ s.backupCleared.reg Reg.RTC_WAKE = 0 := by
  unfold State.backupCleared
  rw [State.forN_reg_below _ 16 fun a w _ => a.setNum_reg_other _ _ _ (rtcBkp_ne (by decide)),
    State.forN_reg_below _ 16 fun a w _ => a.setNum_reg_other _ _ _ (rtcBkp_ne (by decide))]
  simp only [List.foldl_cons, List.foldl_nil]
  rw [State.setNum_reg_other _ _ _ _ (by decide), State.setNum_reg_other _ _ _ _ (by decide), State.setNum_reg_other _ _ _ Reg.RTC_WAKE (by decide)]
  exact ⟨State.setReg_reg_same _ _ _, State.setReg_reg_same _ _ _⟩

/-- Every word below the bound is 0 after the clearing fold. -/
theorem State.forN_bkp_zero (s : State) {n w : Nat} (hw : w < n) : (s.forN n (fun a w => a.setNum (Reg.RTC_BKP w) 0)).reg (Reg.RTC_BKP w) = 0 := by
  induction n with
  | zero => omega
  | succ n ih =>
    rw [State.forN_succ]
    by_cases h : w = n
    · subst h
      exact State.setReg_reg_same _ _ _
    · rw [State.setNum_reg_other _ _ _ _ (by simp only [Reg.RTC_BKP]; omega)]
      exact ih (by omega)

theorem State.backupCleared_bkp (s : State) {w : Nat} (hw : w < 16) : s.backupCleared.reg (Reg.RTC_BKP w) = 0 := State.forN_bkp_zero _ hw

theorem State.setNv_reg (s : State) (n : StartMem) (off : Nat) : (s.setNv n).reg off = s.reg off := rfl

theorem State.backupReset_regs (s : State) : s.backupReset.reg Reg.RTC_CTL = 1 ∧ s.backupReset.reg Reg.RTC_STAT = 1
    ∧ ∀ off, Reg.RTC_STAT ≠ off → Reg.RTC_CTL ≠ off → s.backupReset.reg off = s.backupCleared.reg off := by
  rw [State.backupReset_eq]
  refine ⟨?_, ?_, fun off h1 h2 => ?_⟩
  · rw [State.setNv_reg, State.setNum_reg_other _ _ _ _ (by decide), State.setNum, State.setReg_reg_same]
    rfl
  · rw [State.setNv_reg, State.setNum, State.setReg_reg_same]
    rfl
  · rw [State.setNv_reg, State.setNum_reg_other _ _ _ _ h1, State.setNum_reg_other _ _ _ _ h2]

theorem State.setNv_rtc (s : State) (n : StartMem) : (s.setNv n).rtc = s.rtc := rfl

theorem State.backupReset_rtc (s : State) :
    s.backupReset.rtc = ⟨Cal.first, 0, some Cal.first, none, 0, none, rtcTicks Cal.first 0⟩ := by
  have hfold : ∀ (l : List Nat) (a : State), (l.foldl (fun a r => a.setNum r 0) a).rtc = a.rtc := by
    intro l
    induction l with
    | nil => exact fun a => rfl
    | cons r l ih => exact fun a => (ih _).trans (State.setNum_rtc _ _ _)
  have hcleared : s.backupCleared.rtc = ⟨Cal.first, 0, some Cal.first, none, 0, none, rtcTicks Cal.first 0⟩ := by
    refine State.forN_keeps (P := fun a => a.rtc = _) _ _ _ ?_ fun a w h => (State.setNum_rtc _ _ _).trans h
    rw [hfold]
    rfl
  rw [State.backupReset_eq, State.setNv_rtc, State.setNum_rtc, State.setNum_rtc, hcleared]

theorem State.startTrim_trim (s : State) : s.startTrim.trim = s.trim := rfl

theorem State.startTrim_of_tb0 (h : s.fld Reg.RTC_CFG 0 2 = 2) : s.startTrim.rtc = { s.rtc with window := some (2, (s.tb 0).sec) } := by
  simp only [State.startTrim, h]
  rfl

/-! ### Reads of the calendar -/

theorem State.freezeCal_spec (s : State) (hsh : s.rtc.shadow = none) (hpend : s.rtc.pend = none) (hhalt : s.rtcHalt = false)
    (hroll : s.rollsNow = false) (n : Nat) :
    (s.freezeCal n).rtc = { s.rtc with presc := n % 32768, shadow := some (s.rtc.cal, n % 32768, s.clk) }
      ∧ (s.freezeCal n).rtcBit RtcBit.FROZEN = true ∧ OnlyChanges [.regs, .rtc] s (s.freezeCal n) := by
  rw [State.freezeCal_of_released hsh hpend hhalt hroll n]
  exact ⟨rfl, State.setFlag_flag_same _ _ _ _ (by decide), ((s.setRtc_only _).mono (by simp)).trans ((State.setFlag_onlyChanges _ _ _ _).mono (by simp))⟩

theorem State.freezeCal_shadow (hsh : s.rtc.shadow = none) (hpend : s.rtc.pend = none) (hhalt : s.rtcHalt = false)
    (hroll : s.rollsNow = false) (n : Nat) : (s.freezeCal n).rtc.shadow = some (s.rtc.cal, n % 32768, s.clk) :=
  congrArg Rtc.shadow (s.freezeCal_spec hsh hpend hhalt hroll n).1

/-- A read of a calendar register returns the frozen value, and one of YEAR releases the shadows (R526). -/
theorem State.readCal_frozen {c : Cal} {n k m off : Nat} (h : (s.freezeCal m).rtc.shadow = some (c, n, k)) : s.readCal off m
    = (BitVec.ofNat 32 ((calField c n off).getD 0), if off = Reg.RTC_YEAR then (s.freezeCal m).releaseCal else s.freezeCal m) := by
  simp only [State.readCal, State.calShown_of_frozen h]

theorem rtcReg_not_inSnap {off : Nat} (h : 0x180100 ≤ off) (h' : off < 0x181000) (b : Nat) : ¬ inSnap b off := by
  simp only [inSnap]
  omega

theorem irqStat_rtc_not_inSnap (b : Nat) : ¬ inSnap b (Reg.IRQ_STAT Blk.RTC) := by
  rintro ⟨-, h⟩
  revert h
  decide

end

/-- Settles O48: each of the RTC's commands is its write of the calendar, its shadows or RTC_STAT. -/
theorem realTimeClock : Obligations.RealTimeClock := by
  unfold Obligations.RealTimeClock
  intro s
  refine ⟨?window, ?osc, fun hreset => ?power, fun hper hrun => ⟨fun hdue => ?wake, fun hearly => ?early⟩, fun hup => ⟨fun n hhalt hsrst hroll => ?halt,
    fun c hsrst hpend => ⟨fun hposs => ?clear, fun hposs => ?refuse⟩, fun n c tt hcfg hsync hns htt hcal => ⟨fun hosf => ?set, fun hosf hnear => ?near⟩,
    fun rq n hsh hpend hhalt hroll => ⟨?freeze, ?year⟩, fun rq c n k hsh => ⟨fun m => ?frozen, fun m => ?release, fun hdue halone => ?timeout⟩,
    fun e hcfg hsync hdue => ?trim, fun e hdue => ?untrimmed, fun mv => ⟨fun hlow hoff => ?low, fun hhigh => ?high, fun h1 h2 => ?between⟩⟩⟩
  case window =>
    rw [exec_trimWindow, execTrimWindow]
    exact State.always_next rfl (s.setRtc_only _) (by simp)
  case osc =>
    have hch : OnlyChanges [.regs, .out] s ((s.setFlag Reg.RTC_STAT RtcBit.OSF true).rtcIrq 3) :=
      ((s.setFlag_onlyChanges _ _ _).mono (by simp)).trans (State.rtcIrq_onlyChanges _ _)
    refine ⟨_, ?_, (State.rtcIrq_bit _ _ _).trans (State.setFlag_flag_same _ _ _ _ (by decide)), fun hup =>
      State.rtcIrq_flag_of_up _ _ (hup.frame (s.setFlag_onlyChanges Reg.RTC_STAT RtcBit.OSF true)) (by decide),
      hch, ((OnlyRegs.refl (Reg.RTC_STAT :: irqRegs Blk.RTC) s).setFlag).trans ((State.rtcIrq_onlyRegs _ 3).mono (by simp))⟩
    rw [exec_oscStop, execOscStop]
    exact State.always_next rfl hch (by simp)
  case power =>
    have hch : OnlyChanges [.regs, .sup, .rtc] s s.backupReset := by
      rw [State.backupReset_eq]
      exact ((s.backupCleared_onlyChanges.mono (by simp)).trans (((State.setNum_onlyChanges _ _ _).trans (State.setNum_onlyChanges _ _ _)).mono (by simp))).trans
        ((State.setNv_onlyChanges _ _).mono (by simp))
    obtain ⟨htrim, hwake⟩ := s.backupCleared_trim
    obtain ⟨hctl, hstat, hreg⟩ := s.backupReset_regs
    refine ⟨_, ?_, ?_, ?_, ?_, ?_, fun w hw => ?_, ?_, hch⟩
    · rw [exec_backupPowerUp, execBackupPowerUp]
      exact State.always_next (if_pos hreset) hch (by simp)
    · exact s.backupReset_rtc
    · rw [State.rtcHalt, State.flag, State.fld, hctl]
      rfl
    · rw [State.rtcBit, State.flag, State.fld, hstat]
      rfl
    · rw [State.trim, State.fld, hreg _ (by decide) (by decide), htrim]
      rfl
    · rw [State.num, hreg _ (rtcBkp_ne (by decide)).symm (rtcBkp_ne (by decide)).symm, s.backupCleared_bkp hw]
      rfl
    · rw [State.num, hreg _ (by decide) (by decide), hwake]
      rfl
  case wake =>
    have hcond : ¬ (s.fld Reg.RTC_WAKE 0 20 = 0 ∨ s.rtcHalt = true
        ∨ rtcTicks s.rtc.cal 32767 < s.rtc.wakeAt + 512 * (s.fld Reg.RTC_WAKE 0 20 : Nat)) := by
      simp only [hrun, Bool.false_eq_true, false_or]
      omega
    obtain ⟨a, ha⟩ : ∃ a, a = (s.setRtc { s.rtc with wakeAt := s.rtc.wakeAt + 512 * (s.fld Reg.RTC_WAKE 0 20 : Nat) }).satInc Reg.RTC_WAKE_CNT 0 16 1 := ⟨_, rfl⟩
    have hcha : OnlyChanges [.regs, .rtc] s a := by
      rw [ha]
      exact ((s.setRtc_only _).mono (by simp)).trans ((State.satInc_onlyChanges _ _ _ _ _).mono (by simp))
    have hcnt : a.fld Reg.RTC_WAKE_CNT 0 16 = Nat.min (s.fld Reg.RTC_WAKE_CNT 0 16 + 1) 65535 := by
      rw [ha]
      refine (State.setFld_fld_same _ _ _ _ _ (by decide)).trans (Nat.mod_eq_of_lt ?_)
      exact Nat.lt_of_le_of_lt (Nat.min_le_right _ _) (by decide)
    have hat : a.rtc.wakeAt = s.rtc.wakeAt + 512 * s.fld Reg.RTC_WAKE 0 20 := by
      rw [ha]
      rfl
    by_cases hreset : s.sup.inReset = true
    · refine ⟨a, ?_, hcnt, hat, fun hup => absurd (hreset.symm.trans hup) (by decide), fun _ => hcha⟩
      rw [exec_rtcWake, execRtcWake]
      refine State.always_next ?_ hcha (by simp)
      simp only [if_neg hcond, hreset, if_true, ha]
    · have hup : s.Up := Bool.eq_false_of_not_eq_true hreset
      have hup' : a.Up := by
        rw [ha]
        exact hup
      have hreq := (a.rtcIrq 1).surveyRequest_frame Srv.RTC_WAKE
      have hall : OnlyChanges [.regs, .out, .sup, .rtc] s ((a.rtcIrq 1).surveyRequest Srv.RTC_WAKE).2 :=
        (hcha.mono (by simp)).trans (((a.rtcIrq_onlyChanges 1).mono (by simp)).trans (hreq.mono (by simp)))
      refine ⟨((a.rtcIrq 1).surveyRequest Srv.RTC_WAKE).2, ?_, ?_, ?_, fun _ => ?_, fun h => absurd h hreset⟩
      · rw [exec_rtcWake, execRtcWake]
        refine State.always_next ?_ hall (by simp)
        simp only [if_neg hcond, if_neg hreset, ha]
      · rw [State.fld_congr (State.surveyRequest_reg_outside _ (by decide) (rtcReg_not_inSnap (by decide) (by decide))),
          State.fld_congr (a.rtcIrq_onlyRegs 1 _ (by decide)), hcnt]
      · rw [hreq.2.2 .rtc (by simp), State.rtcIrq_rtc, hat]
      · rw [State.flag_congr _ _ _ _ (State.surveyRequest_reg_outside _ (by decide) irqStat_rtc_not_inSnap)]
        exact a.rtcIrq_flag_of_up 1 hup' (by decide)
  case early =>
    rw [exec_rtcWake, execRtcWake]
    exact State.always_next (if_pos (Or.inr (Or.inr hearly))) (.refl [] s) (by simp)
  case halt =>
    obtain ⟨hh, hrtc, hch, hregs⟩ := (s.setRtc { s.rtc with presc := n % 32768 }).holdRtc_spec
    have hall := ((s.setRtc_only { s.rtc with presc := n % 32768 }).mono (by simp)).trans hch
    refine ⟨_, ?_, hh, hrtc, hall, (s.setRtc_onlyRegs _ _).trans hregs⟩
    rw [exec_rtcHaltSet, execRtcHaltSet]
    refine State.powered_next hup ?_ hall (by simp)
    rw [if_neg (by simp [hhalt, hsrst]), State.haltRtc]
    exact if_neg (fun h => Bool.false_ne_true (hroll.symm.trans h))
  case clear =>
    obtain ⟨h1, h2, h3, h4, h5, h6, h7, hch, hregs⟩ := s.setCal_spec c 0
    refine ⟨_, ?_, h1, h2, h3, h4, h5, h6, h7, hch, hregs⟩
    rw [exec_rtcHaltClear, execRtcHaltClear]
    refine State.powered_next hup ?_ hch (by simp)
    simp only [hsrst, Bool.false_eq_true, if_false, State.unhaltRtc, hpend, hposs, if_true]
  case refuse =>
    have hirq := State.rtcIrq_onlyRegs ((s.setRtc { s.rtc with pend := some s.rtc.cal }).setFlag Reg.RTC_STAT RtcBit.DATE_INVALID true) 4
    have hnoted : OnlyChanges [.regs, .rtc] s ((s.setRtc { s.rtc with pend := some s.rtc.cal }).setFlag Reg.RTC_STAT RtcBit.DATE_INVALID true) :=
      ((s.setRtc_only _).mono (by simp)).trans ((State.setFlag_onlyChanges _ _ _ _).mono (by simp))
    have hch : OnlyChanges [.regs, .out, .rtc] s (((s.setRtc { s.rtc with pend := some s.rtc.cal }).setFlag Reg.RTC_STAT RtcBit.DATE_INVALID true).rtcIrq 4) :=
      (hnoted.mono (by simp)).trans ((State.rtcIrq_onlyChanges _ _).mono (by simp))
    refine ⟨_, ?_, ?_, ?_, ?_, ?_, State.rtcIrq_flag_of_up _ _ (hup.frame hnoted) (by decide), hch⟩
    · rw [exec_rtcHaltClear, execRtcHaltClear]
      refine State.powered_next hup ?_ hch (by simp)
      simp only [hsrst, Bool.false_eq_true, if_false, State.unhaltRtc, hpend, hposs]
    · rw [State.rtcIrq_rtc]
      rfl
    · rw [State.rtcIrq_rtc]
      rfl
    · exact (State.flag_congr _ _ _ _ (hirq _ (by decide))).trans (State.setFlag_flag_reg _ _ _ _ _ _ (by decide))
    · exact (State.rtcIrq_bit _ _ _).trans (State.setFlag_flag_same _ _ _ _ (by decide))
  case set =>
    obtain ⟨h1, -, -, -, -, h6, -, hch, hregs⟩ := s.setCal_spec c n
    have hirq := State.raiseIrq_onlyRegs ((s.setCal c n).satInc Reg.RTC_SET_CNT 0 32 1) Blk.RTC 6
    have hall : OnlyChanges [.regs, .out, .rtc] s (((s.setCal c n).satInc Reg.RTC_SET_CNT 0 32 1).raiseIrq Blk.RTC 6) :=
      (hch.mono (by simp)).trans (((State.satInc_onlyChanges _ _ _ _ _).mono (by simp)).trans ((State.raiseIrq_onlyChanges _ _ _).mono (by simp)))
    refine ⟨_, ?_, ?_, ?_, ?_, State.raiseIrq_flag_same _ _ _ (by decide), hall⟩
    · rw [exec_rtcTb0Set, execRtcTb0Set]
      refine State.powered_next hup ?_ hall (by simp)
      rw [if_neg (by simp [hcfg, hsync]; omega)]
      simp only [← htt, hcal, hosf, true_or, if_true]
    · rw [State.raiseIrq_rtc, State.satInc_rtc, h1]
    · rw [State.rtcBit, State.flag_congr _ _ _ _ (hirq _ (by decide)), State.flag_congr _ _ _ _ (State.satInc_reg_other _ _ _ _ _ _ (by decide))]
      exact h6
    · rw [State.num_congr (hirq _ (by decide)), State.satInc_num, State.num_congr (hregs _ (by decide))]
  case near =>
    rw [exec_rtcTb0Set, execRtcTb0Set]
    refine State.powered_same ?_
    rw [if_neg (by simp [hcfg, hsync]; omega)]
    simp only [← htt, hcal, hosf, Bool.false_eq_true, false_or]
    exact if_neg fun h => absurd h.2 (by omega)
  case freeze =>
    have hfz := State.freezeCal_of_released hsh hpend hhalt hroll n
    obtain ⟨hrtc, hbit, hch⟩ := s.freezeCal_spec hsh hpend hhalt hroll n
    have hall := (hch.mono (qs := [.regs, .out, .rtc]) (by simp)).trans
      ((State.emit_onlyChanges _ (.readData rq [BitVec.ofNat 32 s.rtc.cal.sec])).mono (by simp))
    refine ⟨(s.freezeCal n).emit (.readData rq [BitVec.ofNat 32 s.rtc.cal.sec]), ?_, congrArg (· ++ [Output.readData rq [BitVec.ofNat 32 s.rtc.cal.sec]]) (hch.2.2 .out (by simp)),
      congrArg Rtc.shadow hrtc, hbit, hall⟩
    rw [exec_rtcShadowFreeze, execRtcShadowFreeze]
    refine State.powered_next hup ?_ hall (by simp)
    rw [if_neg (by decide), State.readCal_frozen (State.freezeCal_shadow hsh hpend hhalt hroll n)]
    rfl
  case year =>
    obtain ⟨hrtc, hbit, hch⟩ := s.freezeCal_spec hsh hpend hhalt hroll n
    obtain ⟨hrtc2, hbit2, hch2⟩ := (s.freezeCal n).releaseCal_spec
    have hrel := hch.trans hch2
    have hall := (hrel.mono (qs := [.regs, .out, .rtc]) (by simp)).trans
      ((State.emit_onlyChanges _ (.readData rq [BitVec.ofNat 32 s.rtc.cal.year])).mono (by simp))
    refine ⟨(s.freezeCal n).releaseCal.emit (.readData rq [BitVec.ofNat 32 s.rtc.cal.year]), ?_,
      congrArg (· ++ [Output.readData rq [BitVec.ofNat 32 s.rtc.cal.year]]) (hrel.2.2 .out (by simp)), congrArg Rtc.shadow hrtc2, hbit2, hall⟩
    rw [exec_rtcYearRead, execRtcYearRead]
    refine State.powered_next hup ?_ hall (by simp)
    rw [State.readCal_frozen (State.freezeCal_shadow hsh hpend hhalt hroll n)]
    rfl
  case frozen =>
    rw [exec_rtcShadowFreeze, execRtcShadowFreeze]
    refine State.powered_next hup ?_ (s.emit_onlyChanges _) (by simp)
    rw [if_neg (by decide)]
    simp only [State.readCal, State.freezeCal_of_frozen hsh, State.calShown_of_frozen hsh]
    rfl
  case release =>
    obtain ⟨hrtc, -, hch⟩ := s.releaseCal_spec
    have hall := (hch.mono (qs := [.regs, .out, .rtc]) (by simp)).trans
      ((State.emit_onlyChanges _ (.readData rq [BitVec.ofNat 32 c.year])).mono (by simp))
    refine ⟨s.releaseCal.emit (.readData rq [BitVec.ofNat 32 c.year]), ?_, congrArg (· ++ [Output.readData rq [BitVec.ofNat 32 c.year]]) (hch.2.2 .out (by simp)),
      congrArg Rtc.shadow hrtc, hall⟩
    rw [exec_rtcYearRead, execRtcYearRead]
    refine State.powered_next hup ?_ hall (by simp)
    rw [State.readCal_frozen ((congrArg (fun a : State => a.rtc.shadow) (State.freezeCal_of_frozen hsh m)).trans hsh), State.freezeCal_of_frozen hsh]
    rfl
  case timeout =>
    obtain ⟨hrtc, hfrozen, hrel⟩ := s.releaseCal_spec
    obtain ⟨hbit, hirq, hch, -⟩ := s.releaseCal.statIrq_spec (bit := RtcBit.STALE) (irq := 5) (by decide) (by decide)
    have hall := (hrel.mono (qs := [.regs, .out, .rtc]) (by simp)).trans (hch.mono (by simp))
    refine ⟨_, ?_, ?_, hbit, ?_, hirq, hall⟩
    · rw [exec_rtcShadowTimeout, execRtcShadowTimeout]
      refine State.powered_next hup ?_ hall (by simp)
      simp only [hsh, if_neg (Nat.not_lt.2 hdue), State.yielding_of_alone halone]
    · rw [hch.2.2 .rtc (by simp), hrtc]
    · rw [State.rtcBit, State.flag_congr _ _ _ _ (State.raiseIrq_onlyRegs _ Blk.RTC 5 _ (by decide)), State.setFlag_flag_other _ _ _ _ _ (by decide) (by decide)]
      exact hfrozen
  case trim =>
    have hch : OnlyChanges [.regs, .rtc] s ((s.setNum Reg.RTC_TRIM_ERR (unsigned 32 e)).setTrim (s.trim + trimSteps e)).startTrim :=
      ((s.setNum_onlyChanges _ _).mono (by simp)).trans (((State.setFld_onlyChanges _ _ _ _ _).mono (by simp)).trans ((State.setRtc_only _ _).mono (by simp)))
    have hregs : OnlyRegs [Reg.RTC_TRIM_ERR, Reg.RTC_TRIM] s ((s.setNum Reg.RTC_TRIM_ERR (unsigned 32 e)).setTrim (s.trim + trimSteps e)).startTrim := by
      unfold State.startTrim State.setTrim
      exact ((OnlyRegs.refl _ s).setNum.setFld).trans (State.setRtc_onlyRegs _ _ _)
    have hnum : unsigned 32 e < 2 ^ 32 := by
      simp only [unsigned]
      omega
    refine ⟨_, ?_, ?_, ?_, ?_, hch, hregs⟩
    · rw [exec_trimMeasure, execTrimMeasure]
      refine State.powered_next hup ?_ hch (by simp)
      simp only [hcfg, hsync, hdue, Bool.not_true, Bool.or_self, Bool.false_eq_true, if_false]
    · exact (State.num_congr (State.setFld_reg_other (s.setNum Reg.RTC_TRIM_ERR (unsigned 32 e)) _ _ _ _ _ (by decide))).trans
        ((s.setNum_num_same _ _).trans (Nat.mod_eq_of_lt hnum))
    · exact (State.startTrim_trim _).trans (State.setTrim_trim _ _)
    · refine (State.startTrim_of_tb0 ?_).trans rfl
      exact (State.fld_congr (((OnlyRegs.refl [Reg.RTC_TRIM_ERR, Reg.RTC_TRIM] s).setNum.setFld) _ (by decide)) 0 2).trans hcfg
  case untrimmed =>
    rw [exec_trimMeasure, execTrimMeasure]
    refine State.powered_same ?_
    simp only [hdue, Bool.not_false, if_true]
  case low =>
    obtain ⟨hbit, hirq, hch, -⟩ := s.statIrq_spec (bit := RtcBit.VBAT_LOW) (irq := 7) (by decide) (by decide)
    refine ⟨_, ?_, hbit, hirq, hch⟩
    rw [exec_vbatCheck, execVbatCheck]
    exact State.powered_next hup (if_pos ⟨hlow, by simp [hoff]⟩) hch (by simp)
  case high =>
    refine ⟨_, ?_, State.setFlag_flag_same _ _ _ _ (by decide), s.setFlag_onlyChanges _ _ _⟩
    rw [exec_vbatCheck, execVbatCheck]
    exact State.powered_next hup ((if_neg (by omega)).trans (if_pos hhigh)) (s.setFlag_onlyChanges _ _ _) (by simp)
  case between =>
    rw [exec_vbatCheck, execVbatCheck]
    exact State.powered_same ((if_neg (by omega)).trans (if_neg (by omega)))

end Sys2Proof.Machine

/-! PROOFS. A refutation of the metering operations. -/

namespace Sys2Proof.Machine

-- One declaration after the other: the stacks of parallel elaboration would count against the memory limit of the check.
set_option Elab.async false

/-! ### A channel that rests after the pulse of generator 5 -/

/-- A PG_DISABLE of generator 0, active in slot 0. -/
def pgDisableSlot : Slot := { Slot.unused with st := .active, block := Blk.EMU, opcode := 3 }

/-- Generator 0 is enabled, and the only busy period is not one of those that the statement rules out. -/
def pgBusyState : State :=
  let s := (State.bare.setFlag (Reg.EMU_PGgCFG 0) 0 true).setSlot 0 pgDisableSlot
  { s with emu := { s.emu with busy := [(0, (5, false))] } }

/-- Refutes O31: the statement lets the busy period `(0, 0, …)` alone be absent, and a PG_DISABLE of generator 0 removes the
period that the generator has. -/
theorem not_meteringOperations : ¬ Obligations.MeteringOperations := by
  unfold Obligations.MeteringOperations
  intro h
  obtain ⟨-, -, hdisable, -⟩ := h pgBusyState 0 pgDisableSlot rfl (by decide)
  obtain ⟨t, ht, -, -, -, ⟨-, -, hparts⟩, -⟩ := hdisable 0 (by decide +kernel) (by decide +kernel) (by decide)
    (by decide +kernel) (by decide +kernel)
  have hemu : t.emu = pgBusyState.emu := hparts .emu (by decide)
  have hbusy : t.emu.busy = [] := eq_of_shown (f := (·.emu.busy)) ht (by decide +kernel)
  rw [hemu] at hbusy
  exact absurd hbusy (by decide)

end Sys2Proof.Machine

/-! PROOFS. A refutation of the operations on the mode. -/

namespace Sys2Proof.Machine

-- One declaration after the other: the stacks of parallel elaboration would count against the memory limit of the check.
set_option Elab.async false

/-! ### A move of this manager's unit waits under the tag of the MODE_SET -/

/-- A MODE_SET to standby, active in slot 0. -/
def standbySlot : Slot := { Slot.unused with st := .active, block := Blk.SUP, opcode := 1, param := 1 }

/-- The acting manager in run mode hosts a unit that has no candidate and that the operation of tag 0 waits for. -/
def standbyState : State :=
  let s := ((State.bare.setFld Reg.SUP_MODE 0 2 Mode.RUN).setFld Reg.HLK_STAT 8 2 1).setSlot 0 standbySlot
  { s with hlk := { s.hlk with infos := [⟨0, 0, 0, [], []⟩],
                               units := [(0, { UnitRow.fresh with host := some s.sup.moduleNum, moveTag := some 0 })] } }

/-- Refutes O55: entry to standby ends the move that waits for a unit of this manager, here under the tag of the MODE_SET, whose
own end then finds it decided. -/
theorem not_confirmationAndModes : ¬ Obligations.ConfirmationAndModes := by
  unfold Obligations.ConfirmationAndModes
  intro h
  obtain ⟨-, -, -, -, hops⟩ := h standbyState rfl
  obtain ⟨hmode, -⟩ := hops 0 standbySlot (by decide)
  obtain ⟨hstandby, -⟩ := hmode 1 (by decide +kernel) (by decide +kernel) ⟨rfl, rfl⟩ (by decide +kernel)
  obtain ⟨t, ht, -, ⟨-, hstatus, -⟩, -⟩ := hstandby (by decide +kernel) rfl
  have hlost : (t.slot 0).status = St.FAIL_STATION_LOST := eq_of_shown (f := fun t => (t.slot 0).status) ht (by decide +kernel)
  rw [hlost] at hstatus
  exact absurd hstatus (by decide)

end Sys2Proof.Machine

/-! PROOFS. Error states of a field-bus channel (R491 to R494), its nodes and its polarity (R475, R480, R497). -/

namespace Sys2Proof.Machine

-- One declaration after the other: the stacks of parallel elaboration would count against the memory limit of the check.
set_option Elab.async false

section
variable {s : State}

/-! ### Loops -/

theorem State.forN_onlyChanges {ps : List Part} {f : State → Nat → State} (n : Nat) (h : ∀ a i, OnlyChanges ps a (f a i)) :
    OnlyChanges ps s (s.forN n f) :=
  s.forN_keeps n f (OnlyChanges.refl ps s) fun a i ha => ha.trans (h a i)

theorem State.forN_onlyRegs {l : List Nat} {f : State → Nat → State} (n : Nat) (h : ∀ a i, OnlyRegs l a (f a i)) :
    OnlyRegs l s (s.forN n f) :=
  s.forN_keeps n f (OnlyRegs.refl l s) fun a i ha => ha.trans (h a i)

/-! ### FBC's own part -/

theorem State.setCanCh_onlyChanges (s : State) (c : Nat) (x : CanCh) : OnlyChanges [.fbc] s (s.setCanCh c x) := by
  simp [State.setCanCh, onlyChanges_iff]

theorem State.setCanBuf_onlyChanges (s : State) (c b : Nat) (x : CanBuf) : OnlyChanges [.fbc] s (s.setCanBuf c b x) := by
  simp [State.setCanBuf, onlyChanges_iff]

theorem State.setCanNode_onlyChanges (s : State) (c n : Nat) (x : CanNode) : OnlyChanges [.fbc] s (s.setCanNode c n x) := by
  simp [State.setCanNode, onlyChanges_iff]

theorem State.setCanCh_canCh (s : State) (c : Nat) (x : CanCh) : (s.setCanCh c x).canCh c = x :=
  (tget_tset _ _ _ _ _).trans (if_pos rfl)

theorem State.canCh_congr {s t : State} (h : t.fbc = s.fbc) (c : Nat) : t.canCh c = s.canCh c := by
  simp only [State.canCh, h]

/-- The registers that show a channel's error state (R491). -/
def errStateRegs (c : Nat) : List Nat := Reg.FBC_CHc_ERR c :: Reg.FBC_CHc_STAT c :: irqRegs Blk.FBC

theorem canStat_ne_err (c : Nat) : Reg.FBC_CHc_STAT c ≠ Reg.FBC_CHc_ERR c := by
  simp only [Reg.FBC_CHc_STAT, Reg.FBC_CHc_ERR]; omega

theorem canReg_not_irq {off : Nat} (h : 0x401000 ≤ off) : off ∉ irqRegs Blk.FBC := by
  simp [irqRegs, Reg.IRQ_STAT, Reg.MSIX_PBA, Blk.FBC]; omega

theorem canStat_not_irq (c : Nat) : Reg.FBC_CHc_STAT c ∉ irqRegs Blk.FBC := canReg_not_irq (by simp only [Reg.FBC_CHc_STAT]; omega)

theorem canErr_not_irq (c : Nat) : Reg.FBC_CHc_ERR c ∉ irqRegs Blk.FBC := canReg_not_irq (by simp only [Reg.FBC_CHc_ERR]; omega)

/-- The error state that counters give (R491). -/
def canStateOf (tec rc : Nat) : Nat := if 255 < tec then CanSt.BUS_OFF else if 128 ≤ tec ∨ 128 ≤ rc then CanSt.PASSIVE else CanSt.ACTIVE

theorem canStateOf_lt (tec rc : Nat) : canStateOf tec rc < 4 := by
  unfold canStateOf
  split
  · decide
  · split <;> decide

/-- TEC and REC alone as set. -/
def State.putCounters (s : State) (c tec rc : Nat) : State :=
  (s.setFld (Reg.FBC_CHc_ERR c) 0 9 (Nat.min tec 511)).setFld (Reg.FBC_CHc_ERR c) 9 8 (Nat.min rc 255)

theorem State.setCounters_def (s : State) (c tec rc : Nat) : s.setCounters c tec rc =
    if (s.putCounters c tec rc).canSt c = canStateOf tec rc then s.putCounters c tec rc
    else ((s.putCounters c tec rc).setFld (Reg.FBC_CHc_STAT c) 0 2 (canStateOf tec rc)).raiseIrq Blk.FBC 1 := rfl

theorem State.putCounters_onlyChanges (s : State) (c tec rc : Nat) : OnlyChanges [.regs] s (s.putCounters c tec rc) :=
  (s.setFld_onlyChanges _ _ _ _).trans (State.setFld_onlyChanges _ _ _ _ _)

theorem State.putCounters_onlyRegs (s : State) (c tec rc : Nat) : OnlyRegs [Reg.FBC_CHc_ERR c] s (s.putCounters c tec rc) :=
  (OnlyRegs.refl _ s).setFld.setFld

theorem State.putCounters_canSt (s : State) (c tec rc : Nat) : (s.putCounters c tec rc).canSt c = s.canSt c :=
  State.fld_congr (s.putCounters_onlyRegs c tec rc _ (by simpa using canStat_ne_err c)) 0 2

theorem State.putCounters_counts (s : State) (c : Nat) {tec rc : Nat} (ht : tec ≤ 511) (hr : rc ≤ 255) :
    (s.putCounters c tec rc).fld (Reg.FBC_CHc_ERR c) 0 9 = tec ∧ (s.putCounters c tec rc).fld (Reg.FBC_CHc_ERR c) 9 8 = rc := by
  constructor
  · rw [State.putCounters, State.setFld_fld_other _ _ 9 8 _ 0 9 (by decide) (by decide), State.setFld_fld_same _ _ _ _ _ (by decide),
      show Nat.min tec 511 = tec from Nat.min_eq_left ht, Nat.mod_eq_of_lt (by omega)]
  · rw [State.putCounters, State.setFld_fld_same _ _ _ _ _ (by decide), show Nat.min rc 255 = rc from Nat.min_eq_left hr, Nat.mod_eq_of_lt (by omega)]

theorem State.setCounters_same {c tec rc : Nat} (h : s.canSt c = canStateOf tec rc) : s.setCounters c tec rc = s.putCounters c tec rc := by
  rw [State.setCounters_def, if_pos ((s.putCounters_canSt c tec rc).trans h)]

/-- Counters that change the error state (R491). -/
theorem State.setCounters_changed {c tec rc : Nat} (h : s.canSt c ≠ canStateOf tec rc) :
    (s.setCounters c tec rc).canSt c = canStateOf tec rc ∧ (s.setCounters c tec rc).flag (Reg.IRQ_STAT Blk.FBC) 1 = true
      ∧ (∀ lo w, (s.setCounters c tec rc).fld (Reg.FBC_CHc_ERR c) lo w = (s.putCounters c tec rc).fld (Reg.FBC_CHc_ERR c) lo w)
      ∧ OnlyChanges [.regs, .out] s (s.setCounters c tec rc) ∧ OnlyRegs (errStateRegs c) s (s.setCounters c tec rc) := by
  rw [State.setCounters_def, if_neg fun e => h ((s.putCounters_canSt c tec rc).symm.trans e)]
  refine ⟨?_, State.raiseIrq_flag_same _ _ _ (by decide), fun lo w => ?_, ?_, ?_⟩
  · refine (State.fld_congr (State.raiseIrq_onlyRegs _ _ _ _ (canStat_not_irq c)) 0 2).trans ((State.setFld_fld_same _ _ _ _ _ (by decide)).trans ?_)
    exact Nat.mod_eq_of_lt (canStateOf_lt tec rc)
  · exact State.fld_congr ((State.raiseIrq_onlyRegs _ _ _ _ (canErr_not_irq c)).trans (State.setFld_reg_other _ _ _ _ _ _ (canStat_ne_err c))) lo w
  · exact ((s.putCounters_onlyChanges c tec rc).mono (by simp)).trans (((State.setFld_onlyChanges _ _ _ _ _).mono (by simp)).trans (State.raiseIrq_onlyChanges _ _ _))
  · refine OnlyRegs.raiseIrq (OnlyRegs.setFld ((s.putCounters_onlyRegs c tec rc).mono (by simp [errStateRegs])) (by simp [errStateRegs])) ?_
    intro off h
    exact List.mem_cons_of_mem _ (List.mem_cons_of_mem _ h)

end

end Sys2Proof.Machine

/-! PROOFS. Bus-off (R492). -/

namespace Sys2Proof.Machine

-- One declaration after the other: the stacks of parallel elaboration would count against the memory limit of the check.
set_option Elab.async false

section
variable {s a : State} {c : Nat}

/-- The headers of a channel's message buffers. -/
def canHeaders (c : Nat) : List Nat := (List.range 64).map (Reg.FBC_MBb_HDR c)

theorem not_mem_canHeaders {off : Nat} (h : ∀ b, b < 64 → Reg.FBC_MBb_HDR c b ≠ off) : off ∉ canHeaders c := by
  intro hm
  obtain ⟨b, hb, e⟩ := List.mem_map.1 hm
  exact h b (List.mem_range.1 hb) e

theorem canHeader_mem {b : Nat} (hb : b < 64) : Reg.FBC_MBb_HDR c b ∈ canHeaders c :=
  List.mem_map_of_mem (List.mem_range.2 hb)

theorem nodeCfg_not_header (n : Nat) : Reg.FBC_NDn_CFG c n ∉ canHeaders c :=
  not_mem_canHeaders fun b _ => by simp only [Reg.FBC_MBb_HDR, Reg.FBC_NDn_CFG]; omega

theorem bufCfg_not_header (j : Nat) : Reg.FBC_MBb_CFG c j ∉ canHeaders c :=
  not_mem_canHeaders fun b _ => by simp only [Reg.FBC_MBb_HDR, Reg.FBC_MBb_CFG]; omega

/-- No node is enabled, and no buffer carries an operation. -/
def State.Carriers (a : State) (c : Nat) : Prop := (∀ n, n < 32 → a.nodeEn c n = false) ∧ ∀ b, (a.canBuf c b).tag = none

theorem State.bufTags_of_none (h : a.Carriers c) (b : Nat) : a.bufTags c b = [] := by
  have hnode : a.nodeOfTx c b = none := by
    refine List.find?_eq_none.2 fun n hn => ?_
    simp [h.1 n (List.mem_range.1 hn)]
  simp only [State.bufTags, hnode, h.2 b]
  rfl

/-- A pending transmit that carries no operation ends (R492). -/
def State.dropPending (a : State) (c b : Nat) : State :=
  if a.isTx c b then (a.setCanBuf c b { CanBuf.fresh with frame := (a.canBuf c b).frame }).setPending c b false else a

theorem State.dropPending_onlyChanges (a : State) (c b : Nat) : OnlyChanges [.regs, .fbc] a (a.dropPending c b) := by
  unfold State.dropPending
  split
  · exact ((a.setCanBuf_onlyChanges c b _).mono (by simp)).trans ((State.setFlag_onlyChanges _ _ _ _).mono (by simp))
  · exact OnlyChanges.refl _ a

theorem State.dropPending_onlyRegs (a : State) (c : Nat) {b : Nat} (hb : b < 64) : OnlyRegs (canHeaders c) a (a.dropPending c b) := by
  unfold State.dropPending
  split
  · exact OnlyRegs.setFlag (OnlyRegs.of_regs_eq rfl) (canHeader_mem hb)
  · exact OnlyRegs.refl _ a

theorem State.dropPending_pending (b j : Nat) (h : b = j ∧ a.isTx c j = true ∨ b ≠ j ∧ a.bufPending c j = false) :
    (a.dropPending c b).bufPending c j = false := by
  unfold State.dropPending
  obtain ⟨rfl, htx⟩ | ⟨hne, hp⟩ := h
  · rw [if_pos htx]
    exact State.setFlag_flag_same _ _ _ _ (by decide)
  · split
    · refine (State.setFlag_flag_reg _ _ _ _ _ _ ?_).trans hp
      simp only [Reg.FBC_MBb_HDR]; omega
    · exact hp

theorem State.dropPending_carriers (h : a.Carriers c) {b : Nat} (hb : b < 64) : (a.dropPending c b).Carriers c := by
  refine ⟨fun n hn => ?_, fun j => ?_⟩
  · rw [State.nodeEn, State.flag_congr _ _ _ _ (a.dropPending_onlyRegs c hb _ (nodeCfg_not_header n))]
    exact h.1 n hn
  · unfold State.dropPending
    split
    · refine (congrArg CanBuf.tag (tget_tset (fun _ => CanBuf.fresh) a.fbc.bufs (64 * c + b) (64 * c + j) _)).trans ?_
      split
      · rfl
      · exact h.2 j
    · exact h.2 j

/-- Every transmit buffer's pending frame is dropped, none carrying an operation. -/
theorem State.dropPendings_spec (h : s.Carriers c) (n : Nat) (hn : n ≤ 64) :
    (s.forN n (fun a b => a.dropPending c b)).Carriers c ∧ OnlyChanges [.regs, .fbc] s (s.forN n (fun a b => a.dropPending c b))
      ∧ OnlyRegs (canHeaders c) s (s.forN n (fun a b => a.dropPending c b))
      ∧ ∀ j, j < n → s.isTx c j = true → (s.forN n (fun a b => a.dropPending c b)).bufPending c j = false := by
  induction n with
  | zero => exact ⟨h, OnlyChanges.refl _ s, OnlyRegs.refl _ s, fun j hj => absurd hj (Nat.not_lt_zero j)⟩
  | succ n ih =>
    obtain ⟨hcar, hch, hregs, hpend⟩ := ih (by omega)
    rw [State.forN_succ]
    refine ⟨State.dropPending_carriers hcar hn, hch.trans (State.dropPending_onlyChanges _ c n), hregs.trans (State.dropPending_onlyRegs _ c hn),
      fun j hj htx => State.dropPending_pending n j ?_⟩
    by_cases e : n = j
    · refine .inl ⟨e, ?_⟩
      simpa only [State.isTx, State.flag, State.fld, hregs _ (bufCfg_not_header j)] using htx
    · exact .inr ⟨e, hpend j (by omega) htx⟩

theorem State.failStep_eq (h : a.Carriers c) (b status : Nat) :
    (let a1 := (a.bufTags c b).foldl (fun x t => x.endCarried t status) a
     if a1.isTx c b then (a1.setCanBuf c b { CanBuf.fresh with frame := (a1.canBuf c b).frame }).setPending c b false else a1)
      = a.dropPending c b := by
  simp only [State.bufTags_of_none h, List.foldl_nil]
  rfl

theorem State.failSteps_eq (h : s.Carriers c) (status n : Nat) (hn : n ≤ 64) :
    (s.forN n fun a b =>
      let a1 := (a.bufTags c b).foldl (fun x t => x.endCarried t status) a
      if a1.isTx c b then (a1.setCanBuf c b { CanBuf.fresh with frame := (a1.canBuf c b).frame }).setPending c b false else a1)
      = s.forN n (fun a b => a.dropPending c b) := by
  induction n with
  | zero => rfl
  | succ n ih =>
    rw [State.forN_succ, State.forN_succ, ih (by omega)]
    exact State.failStep_eq (State.dropPendings_spec h n (by omega)).1 n status

theorem State.showFifos_onlyChanges (s : State) (c : Nat) : OnlyChanges [.regs] s (s.showFifos c) :=
  (s.setFld_onlyChanges _ _ _ _).trans (State.setFld_onlyChanges _ _ _ _ _)

theorem State.showFifos_onlyRegs (s : State) (c : Nat) : OnlyRegs [Reg.FBC_CHc_FIFO_STAT c] s (s.showFifos c) :=
  (OnlyRegs.refl _ s).setFld.setFld

/-- What FIFO and wait hold ends, and the channel sends nothing (R492). -/
def State.clearFifos (s : State) (c status : Nat) : State :=
  let x := s.canCh c
  let s2 := (x.fifo ++ x.wait).foldl (fun a e => a.decideOp e.tag status 0) s
  (s2.setCanCh c { s2.canCh c with fifo := [], wait := [], fly := none }).showFifos c

theorem State.clearFifos_of_empty (hf : (s.canCh c).fifo = []) (hw : (s.canCh c).wait = []) (status : Nat) :
    s.clearFifos c status = (s.setCanCh c { s.canCh c with fifo := [], wait := [], fly := none }).showFifos c := by
  simp only [State.clearFifos, hf, hw, List.append_nil, List.foldl_nil]

theorem State.dropPending_chans (a : State) (c b : Nat) : (a.dropPending c b).fbc.chans = a.fbc.chans := by
  unfold State.dropPending
  split
  · rw [State.setPending, State.setFlag_fbc]
    rfl
  · rfl

theorem State.dropPendings_canCh (n : Nat) : (s.forN n (fun a b => a.dropPending c b)).canCh c = s.canCh c := by
  have hchans := State.forN_view_of_keeps (fun a => a.fbc.chans) s n (fun a b => a.dropPending c b) fun a b _ => a.dropPending_chans c b
  simp only [State.canCh, hchans]

theorem State.failTransmits_eq (h : s.Carriers c) (hf : (s.canCh c).fifo = []) (hw : (s.canCh c).wait = []) (status : Nat) :
    s.failTransmits c status = ((s.forN 64 (fun a b => a.dropPending c b)).setCanCh c
      { s.canCh c with fifo := [], wait := [], fly := none }).showFifos c := by
  have hchan := State.dropPendings_canCh (s := s) (c := c) 64
  refine (congrArg (fun u => State.clearFifos u c status) (State.failSteps_eq h status 64 (Nat.le_refl 64))).trans ?_
  generalize s.forN 64 (fun a b => a.dropPending c b) = u at hchan ⊢
  rw [State.clearFifos_of_empty (by rw [hchan, hf]) (by rw [hchan, hw]), hchan]

theorem header_ne_fifoStat (j : Nat) : Reg.FBC_MBb_HDR c j ≠ Reg.FBC_CHc_FIFO_STAT c := by
  simp only [Reg.FBC_MBb_HDR, Reg.FBC_CHc_FIFO_STAT]; omega

/-- No operation is carried by a transmit of the channel: its buffers' frames end alone (R492). -/
theorem State.failTransmits_spec (h : s.Carriers c) (hf : (s.canCh c).fifo = []) (hw : (s.canCh c).wait = []) (status : Nat) :
    OnlyChanges [.regs, .fbc] s (s.failTransmits c status)
      ∧ OnlyRegs (Reg.FBC_CHc_FIFO_STAT c :: canHeaders c) s (s.failTransmits c status)
      ∧ ∀ j, j < 64 → s.isTx c j = true → (s.failTransmits c status).bufPending c j = false := by
  obtain ⟨-, hch, hregs, hpend⟩ := State.dropPendings_spec h 64 (Nat.le_refl 64)
  rw [State.failTransmits_eq h hf hw]
  generalize s.forN 64 (fun a b => a.dropPending c b) = u at *
  have hput := u.setCanCh_onlyChanges c { s.canCh c with fifo := [], wait := [], fly := none }
  generalize u.setCanCh c { s.canCh c with fifo := [], wait := [], fly := none } = v at *
  have hsame : OnlyRegs (Reg.FBC_CHc_FIFO_STAT c :: canHeaders c) u v := OnlyRegs.of_regs_eq (hput.2.2 .regs (by simp))
  have hshow := v.showFifos_onlyRegs c
  refine ⟨hch.trans ((hput.mono (by simp)).trans ((v.showFifos_onlyChanges c).mono (by simp))), ?_, fun j hj htx => ?_⟩
  · exact (hregs.mono (List.subset_cons_self _ _)).trans (hsame.trans (hshow.mono (List.cons_subset_cons _ (List.nil_subset _))))
  · have hreg : (v.showFifos c).reg (Reg.FBC_MBb_HDR c j) = u.reg (Reg.FBC_MBb_HDR c j) :=
      (hshow _ (by simpa using header_ne_fifoStat j)).trans (State.reg_congr _ _ (hput.2.2 .regs (by simp)) _)
    exact (State.flag_congr _ _ _ _ hreg).trans (hpend j hj htx)

theorem State.loseNodes_of_none (h : ∀ n, n < 32 → s.nodeEn c n = false) : s.loseNodes c = s := by
  have step : ∀ n, n ≤ 32 → (s.forN n fun a n => if a.nodeEn c n ∧ a.fld (Reg.FBC_NDn_STAT c n) 0 2 ≠ NdSt.NONE then a.loseNode c n else a) = s := by
    intro n hn
    induction n with
    | zero => rfl
    | succ n ih => rw [State.forN_succ, ih (by omega), if_neg (by simp [h n (by omega)])]
  exact step 32 (Nat.le_refl 32)

end

end Sys2Proof.Machine

/-! PROOFS. Errors, bus-off and nodes of a field-bus channel (R475 to R480, R491 to R494, R497). -/

namespace Sys2Proof.Machine

-- One declaration after the other: the stacks of parallel elaboration would count against the memory limit of the check.
set_option Elab.async false

section
variable {s : State} {c : Nat}

/-- Bus-off counted and shown, before the channel's transmits and nodes end (R492). -/
def State.busOffCounted (s : State) (c : Nat) : State :=
  let offs := s.clk :: (s.canCh c).offs.filter (fun t => decide (s.clk < t + tenSec))
  let s1 := (s.satInc (Reg.FBC_CHc_BUSOFF_CNT c) 0 32 1).setCanCh c { s.canCh c with offs := offs }
  (s1.setFld (Reg.FBC_CHc_ERR c) 24 8 (Nat.min 255 offs.length)).raiseIrq Blk.FBC 2

theorem State.busOffCounted_onlyChanges (s : State) (c : Nat) : OnlyChanges [.regs, .out, .fbc] s (s.busOffCounted c) :=
  ((s.satInc_onlyChanges _ _ _ _).mono (by simp)).trans (((State.setCanCh_onlyChanges _ _ _).mono (by simp)).trans
    (((State.setFld_onlyChanges _ _ _ _ _).mono (by simp)).trans ((State.raiseIrq_onlyChanges _ _ _).mono (by simp))))

theorem State.busOffCounted_onlyRegs (s : State) (c : Nat) :
    OnlyRegs (Reg.FBC_CHc_BUSOFF_CNT c :: Reg.FBC_CHc_ERR c :: irqRegs Blk.FBC) s (s.busOffCounted c) := by
  have h1 : OnlyRegs (Reg.FBC_CHc_BUSOFF_CNT c :: Reg.FBC_CHc_ERR c :: irqRegs Blk.FBC) s (s.satInc (Reg.FBC_CHc_BUSOFF_CNT c) 0 32 1) :=
    (OnlyRegs.refl _ s).satInc
  exact ((h1.with (State.setCanCh_onlyChanges _ c _ |>.2.2 .regs (by simp))).setFld).raiseIrq

theorem canBusOff_ne_err (c : Nat) : Reg.FBC_CHc_BUSOFF_CNT c ∉ Reg.FBC_CHc_ERR c :: irqRegs Blk.FBC := by
  have hne : Reg.FBC_CHc_BUSOFF_CNT c ≠ Reg.FBC_CHc_ERR c := by simp only [Reg.FBC_CHc_BUSOFF_CNT, Reg.FBC_CHc_ERR]; omega
  have hirq : Reg.FBC_CHc_BUSOFF_CNT c ∉ irqRegs Blk.FBC := canReg_not_irq (by simp only [Reg.FBC_CHc_BUSOFF_CNT]; omega)
  exact fun h => (List.mem_cons.1 h).elim hne hirq

theorem State.busOffCounted_num (s : State) (c : Nat) :
    (s.busOffCounted c).num (Reg.FBC_CHc_BUSOFF_CNT c) = Nat.min (s.num (Reg.FBC_CHc_BUSOFF_CNT c) + 1) (2 ^ 32 - 1) := by
  refine (State.num_congr ?_).trans (s.satInc_num _ 1)
  have h1 : OnlyRegs (Reg.FBC_CHc_ERR c :: irqRegs Blk.FBC) (s.satInc (Reg.FBC_CHc_BUSOFF_CNT c) 0 32 1) (s.busOffCounted c) :=
    OnlyRegs.raiseIrq (OnlyRegs.setFld (OnlyRegs.of_regs_eq (State.setCanCh_onlyChanges _ c _ |>.2.2 .regs (by simp))))
  exact h1 _ (canBusOff_ne_err c)

/-- After bus-off the channel recovers, or waits for the host (R493). -/
def State.afterBusOff (s : State) (c n : Nat) : State :=
  let lim := s.fld (Reg.FBC_CHc_TMR c) 0 8
  if !s.flag (Reg.FBC_CHc_CFG c) 5 then s
  else if lim ≠ 0 ∧ lim ≤ n then s.setFlag (Reg.FBC_CHc_STAT c) 6 true
  else s.setFlag (Reg.FBC_CHc_STAT c) 2 true

theorem State.afterBusOff_spec (s : State) (c n : Nat) : OnlyChanges [.regs] s (s.afterBusOff c n)
    ∧ OnlyRegs [Reg.FBC_CHc_STAT c] s (s.afterBusOff c n) ∧ (s.afterBusOff c n).canSt c = s.canSt c := by
  unfold State.afterBusOff
  simp only
  split
  · exact ⟨OnlyChanges.refl _ s, OnlyRegs.refl _ s, rfl⟩
  · split
    · exact ⟨s.setFlag_onlyChanges _ _ _, (OnlyRegs.refl _ s).setFlag, State.setFld_fld_other _ _ _ _ _ _ _ (by decide) (by decide)⟩
    · exact ⟨s.setFlag_onlyChanges _ _ _, (OnlyRegs.refl _ s).setFlag, State.setFld_fld_other _ _ _ _ _ _ _ (by decide) (by decide)⟩

theorem canStat_not_fifo (c : Nat) : Reg.FBC_CHc_STAT c ∉ Reg.FBC_CHc_FIFO_STAT c :: canHeaders c := by
  have hne : Reg.FBC_CHc_STAT c ≠ Reg.FBC_CHc_FIFO_STAT c := by simp only [Reg.FBC_CHc_STAT, Reg.FBC_CHc_FIFO_STAT]; omega
  have hnot : Reg.FBC_CHc_STAT c ∉ canHeaders c := not_mem_canHeaders fun b _ => by simp only [Reg.FBC_MBb_HDR, Reg.FBC_CHc_STAT]; omega
  exact fun h => (List.mem_cons.1 h).elim hne hnot

theorem canBusOff_not_fifo (c : Nat) : Reg.FBC_CHc_BUSOFF_CNT c ∉ Reg.FBC_CHc_FIFO_STAT c :: canHeaders c := by
  have hne : Reg.FBC_CHc_BUSOFF_CNT c ≠ Reg.FBC_CHc_FIFO_STAT c := by simp only [Reg.FBC_CHc_BUSOFF_CNT, Reg.FBC_CHc_FIFO_STAT]; omega
  have hnot : Reg.FBC_CHc_BUSOFF_CNT c ∉ canHeaders c := not_mem_canHeaders fun b _ => by simp only [Reg.FBC_MBb_HDR, Reg.FBC_CHc_BUSOFF_CNT]; omega
  exact fun h => (List.mem_cons.1 h).elim hne hnot

theorem fbcIrq_not_fifo (c : Nat) : Reg.IRQ_STAT Blk.FBC ∉ Reg.FBC_CHc_FIFO_STAT c :: canHeaders c := by
  have hne : Reg.IRQ_STAT Blk.FBC ≠ Reg.FBC_CHc_FIFO_STAT c := by simp only [Reg.IRQ_STAT, Reg.FBC_CHc_FIFO_STAT, Blk.FBC]; omega
  have hnot : Reg.IRQ_STAT Blk.FBC ∉ canHeaders c := not_mem_canHeaders fun b _ => by simp only [Reg.FBC_MBb_HDR, Reg.IRQ_STAT, Blk.FBC]; omega
  exact fun h => (List.mem_cons.1 h).elim hne hnot

theorem bufReg_not_counted {off : Nat} (h : 0x410000 ≤ off) (hc : c ≤ 3) :
    off ∉ Reg.FBC_CHc_BUSOFF_CNT c :: Reg.FBC_CHc_ERR c :: irqRegs Blk.FBC := by
  have h1 : off ≠ Reg.FBC_CHc_BUSOFF_CNT c := by simp only [Reg.FBC_CHc_BUSOFF_CNT]; omega
  have h2 : off ≠ Reg.FBC_CHc_ERR c := by simp only [Reg.FBC_CHc_ERR]; omega
  exact fun h => (List.mem_cons.1 h).elim h1 fun h => (List.mem_cons.1 h).elim h2 (canReg_not_irq (by omega))

theorem canStat_not_counted (c : Nat) : Reg.FBC_CHc_STAT c ∉ Reg.FBC_CHc_BUSOFF_CNT c :: Reg.FBC_CHc_ERR c :: irqRegs Blk.FBC := by
  have h1 : Reg.FBC_CHc_STAT c ≠ Reg.FBC_CHc_BUSOFF_CNT c := by simp only [Reg.FBC_CHc_STAT, Reg.FBC_CHc_BUSOFF_CNT]; omega
  exact fun h => (List.mem_cons.1 h).elim h1 fun h => (List.mem_cons.1 h).elim (canStat_ne_err c) (canStat_not_irq c)

/-- Bus-off of a channel whose transmits carry no operation (R492). -/
theorem State.busOff_spec (hc : c ≤ 3) (hbufs : s.fbc.bufs = []) (hf : (s.canCh c).fifo = []) (hw : (s.canCh c).wait = [])
    (hen : ∀ n, n < 32 → s.nodeEn c n = false) : (s.busOff c).canSt c = s.canSt c
      ∧ (s.busOff c).num (Reg.FBC_CHc_BUSOFF_CNT c) = Nat.min (s.num (Reg.FBC_CHc_BUSOFF_CNT c) + 1) (2 ^ 32 - 1)
      ∧ (s.busOff c).flag (Reg.IRQ_STAT Blk.FBC) 2 = true
      ∧ (∀ j, j < 64 → s.isTx c j = true → (s.busOff c).bufPending c j = false) ∧ OnlyChanges [.regs, .out, .fbc] s (s.busOff c) := by
  obtain ⟨m, hm⟩ : ∃ m, s.busOff c = (((s.busOffCounted c).failTransmits c St.FAIL_BUS_OFF).loseNodes c).afterBusOff c m := ⟨_, rfl⟩
  have hch := s.busOffCounted_onlyChanges c
  have hregs := s.busOffCounted_onlyRegs c
  have hnum := s.busOffCounted_num c
  have hirq : (s.busOffCounted c).flag (Reg.IRQ_STAT Blk.FBC) 2 = true := State.raiseIrq_flag_same _ _ _ (by decide)
  have hchan : (s.busOffCounted c).fbc.bufs = [] ∧ ((s.busOffCounted c).canCh c).fifo = [] ∧ ((s.busOffCounted c).canCh c).wait = [] := by
    have hfbc : (s.busOffCounted c).fbc = (s.setCanCh c { s.canCh c with
        offs := s.clk :: (s.canCh c).offs.filter (fun t => decide (s.clk < t + tenSec)) }).fbc := by
      simp only [State.busOffCounted, State.raiseIrq_fbc, State.setFld_fbc, State.setCanCh, State.satInc_fbc]
    have hbuf : (s.busOffCounted c).fbc.bufs = s.fbc.bufs := by rw [hfbc]; rfl
    exact ⟨hbuf.trans hbufs, by rw [State.canCh_congr hfbc, State.setCanCh_canCh, hf], by rw [State.canCh_congr hfbc, State.setCanCh_canCh, hw]⟩
  rw [hm]
  generalize s.busOffCounted c = u at *
  obtain ⟨hubufs, huf, huw⟩ := hchan
  have hnode : ∀ n, n < 32 → u.nodeEn c n = false := fun n hn => by
    rw [State.nodeEn, State.flag_congr _ _ _ _ (hregs _ (bufReg_not_counted (by simp only [Reg.FBC_NDn_CFG]; omega) hc))]
    exact hen n hn
  have hcar : u.Carriers c := ⟨hnode, fun b => by simp only [State.canBuf, hubufs]; rfl⟩
  obtain ⟨hch2, hregs2, hpend⟩ := State.failTransmits_spec hcar huf huw St.FAIL_BUS_OFF
  generalize u.failTransmits c St.FAIL_BUS_OFF = v at *
  have hnode2 : ∀ n, n < 32 → v.nodeEn c n = false := fun n hn => by
    have hnot : Reg.FBC_NDn_CFG c n ∉ Reg.FBC_CHc_FIFO_STAT c :: canHeaders c := fun h => (List.mem_cons.1 h).elim
      (by simp only [Reg.FBC_NDn_CFG, Reg.FBC_CHc_FIFO_STAT]; omega) (nodeCfg_not_header n)
    rw [State.nodeEn, State.flag_congr _ _ _ _ (hregs2 _ hnot)]
    exact hnode n hn
  rw [State.loseNodes_of_none hnode2]
  obtain ⟨hch3, hregs3, hst⟩ := v.afterBusOff_spec c m
  generalize v.afterBusOff c m = t at *
  refine ⟨?_, ?_, ?_, fun j hj htx => ?_, hch.trans ((hch2.mono (by simp)).trans (hch3.mono (by simp)))⟩
  · exact hst.trans ((State.fld_congr (hregs2 _ (canStat_not_fifo c)) 0 2).trans (State.fld_congr (hregs _ (canStat_not_counted c)) 0 2))
  · refine (State.num_congr ((hregs3 _ ?_).trans (hregs2 _ (canBusOff_not_fifo c)))).trans hnum
    simp only [List.mem_singleton, Reg.FBC_CHc_BUSOFF_CNT, Reg.FBC_CHc_STAT]; omega
  · refine (State.flag_congr _ _ _ _ ((hregs3 _ ?_).trans (hregs2 _ (fbcIrq_not_fifo c)))).trans hirq
    simp only [List.mem_singleton, Reg.IRQ_STAT, Reg.FBC_CHc_STAT, Blk.FBC]; omega
  · have htx2 : u.isTx c j = true := by
      simpa only [State.isTx, State.flag, State.fld, hregs _ (bufReg_not_counted (c := c) (off := Reg.FBC_MBb_CFG c j) (by simp only [Reg.FBC_MBb_CFG]; omega) hc)] using htx
    refine (State.flag_congr _ _ _ _ (hregs3 _ ?_)).trans (hpend j hj htx2)
    simp only [List.mem_singleton, Reg.FBC_MBb_HDR, Reg.FBC_CHc_STAT]; omega

end

end Sys2Proof.Machine

/-! PROOFS. The settling of the field bus's errors and nodes. -/

namespace Sys2Proof.Machine

-- One declaration after the other: the stacks of parallel elaboration would count against the memory limit of the check.
set_option Elab.async false

section
variable {s : State} {c : Nat}

/-! ### An error in another station's frame -/

/-- An error that this channel did not cause, with the counters that it leads to (R491, R492, R494). -/
def State.otherError (s : State) (c tec rc : Nat) : State :=
  let s3 := (s.satInc (Reg.FBC_CHc_RXERR_CNT c) 0 32 1).setCounters c tec rc
  if 255 < tec then (s3.busOff c)
  else if s3.flag (Reg.FBC_CHc_CFG c) 4 ∧ 96 ≤ rc ∧ s3.clk < (s3.canCh c).onClk + tenSec then (s3.setRestrict c true)
  else s3

theorem rxErr_ne_err (c : Nat) : Reg.FBC_CHc_RXERR_CNT c ≠ Reg.FBC_CHc_ERR c := by
  simp only [Reg.FBC_CHc_RXERR_CNT, Reg.FBC_CHc_ERR]; omega

theorem rxErr_ne_stat (c : Nat) : Reg.FBC_CHc_RXERR_CNT c ≠ Reg.FBC_CHc_STAT c := by
  simp only [Reg.FBC_CHc_RXERR_CNT, Reg.FBC_CHc_STAT]; omega

theorem exec_canError_other {t : State} {ps : List Part} {tec rc ta ra : Nat} (hup : s.Up) (hc : c ≤ 3) (hst : s.canSt c = CanSt.ACTIVE)
    (hfree : s.flag (Reg.FBC_CHc_STAT c) 3 = false) (htec : tec = s.fld (Reg.FBC_CHc_ERR c) 0 9 + ta)
    (hrc : rc = s.fld (Reg.FBC_CHc_ERR c) 9 8 + ra) (ht : s.otherError c tec rc = t) (hch : OnlyChanges ps s t) (hk : Part.key ∉ ps) :
    exec (.canError c false false ta ra) s = .next t := by
  rw [exec_canError, execCanError]
  refine State.powered_next hup ?_ hch hk
  have hbus : s.onBus c = true := by simp [State.onBus, hst]
  have hflag : (s.satInc (Reg.FBC_CHc_RXERR_CNT c) 0 32 1).flag (Reg.FBC_CHc_STAT c) 3 = false :=
    (State.flag_congr _ _ _ _ (s.satInc_reg_other _ _ _ _ _ (rxErr_ne_stat c))).trans hfree
  have hfld : ∀ lo w, (s.satInc (Reg.FBC_CHc_RXERR_CNT c) 0 32 1).fld (Reg.FBC_CHc_ERR c) lo w = s.fld (Reg.FBC_CHc_ERR c) lo w :=
    fun lo w => State.fld_congr (s.satInc_reg_other _ _ _ _ _ (rxErr_ne_err c)) lo w
  rw [if_neg (by simp [hbus]; omega)]
  simp only [Bool.false_eq_true, if_false, hflag, hfld, ← htec, ← hrc]
  exact ht

theorem State.counted_canSt (s : State) (c : Nat) : (s.satInc (Reg.FBC_CHc_RXERR_CNT c) 0 32 1).canSt c = s.canSt c :=
  State.fld_congr (s.satInc_reg_other _ _ _ _ _ (rxErr_ne_stat c)) 0 2

theorem canCfg_not_errState (c : Nat) : Reg.FBC_CHc_CFG c ∉ errStateRegs c := by
  have h1 : Reg.FBC_CHc_CFG c ≠ Reg.FBC_CHc_ERR c := by simp only [Reg.FBC_CHc_CFG, Reg.FBC_CHc_ERR]; omega
  have h2 : Reg.FBC_CHc_CFG c ≠ Reg.FBC_CHc_STAT c := by simp only [Reg.FBC_CHc_CFG, Reg.FBC_CHc_STAT]; omega
  have h3 : Reg.FBC_CHc_CFG c ∉ irqRegs Blk.FBC := canReg_not_irq (by simp only [Reg.FBC_CHc_CFG]; omega)
  exact fun h => (List.mem_cons.1 h).elim h1 fun h => (List.mem_cons.1 h).elim h2 h3

theorem reg_not_errState {off : Nat} (h : 0x40102C + 4096 * c ≤ off) : off ∉ errStateRegs c := by
  have h1 : off ≠ Reg.FBC_CHc_ERR c := by simp only [Reg.FBC_CHc_ERR]; omega
  have h2 : off ≠ Reg.FBC_CHc_STAT c := by simp only [Reg.FBC_CHc_STAT]; omega
  exact fun h' => (List.mem_cons.1 h').elim h1 fun h' => (List.mem_cons.1 h').elim h2 (canReg_not_irq (by omega))

/-! ### A node that is lost -/

/-- A point that no other origin writes in this SYS cycle takes a quality (R10, R12). -/
theorem State.setQuality_plain {o i q : Nat} (hcopies : s.copiesOf i = []) (htype : (s.point i).type ≠ PtType.NONE)
    (hforced : (s.point i).forced = false) (hnote : s.pointNote i = none) (hq : Q.known q = true) :
    ((s.setQuality o i q).point i).quality = q ∧ OnlyPoints [i] s (s.setQuality o i q) := by
  have hset : s.setQuality o i q = (s.notePoint o i (s.point i).value q).setPoint i
      { s.point i with value := normValue (s.point i).type (s.point i).value, quality := q, stamp := s.chain32 } := by
    simp only [State.setQuality, State.storePoint, hcopies, List.foldl_nil, State.storeOne, hnote, hforced]
    rw [if_neg (by simp [htype, hq]), if_neg (by simp)]
  rw [hset]
  exact ⟨congrArg Point.quality ((tget_tset _ _ _ _ _).trans (if_pos rfl)), fun j hj =>
    (tget_tset _ _ _ _ _).trans (if_neg (Ne.symm (List.ne_of_not_mem_cons hj)))⟩

theorem State.setQuality_onlyChanges (s : State) (o i q : Nat) : OnlyChanges [.points, .notes] s (s.setQuality o i q) := by
  obtain ⟨p, n, h⟩ := s.setQuality_eq o i q
  simp [h, onlyChanges_iff]

/-- SCN learns the loss of a station that nothing of it concerns (R282). -/
theorem State.stationLost_idle (hlanes : s.scn.lanes = []) (hremote : s.scn.remote = []) (n : Nat) :
    s.stationLost (.node c n) = (s.setNum Reg.SCN_LOST_LAST ((32 * c + n) * 256)).raiseIrq Blk.SCN 8 := by
  simp only [State.stationLost, hlanes, List.map_nil, List.foldl_nil, hremote, List.filter_nil]

/-- A node that sends no record of this module and that one point shows is lost (R480). -/
theorem State.loseNode_eq {n i : Nat} (hpoints : s.nodePoints c n = [i]) (hlanes : s.scn.lanes = []) (hremote : s.scn.remote = [])
    (htx : s.flag (Reg.FBC_NDn_CFG c n) 14 = false) (hc : c ≤ 3) :
    s.loseNode c n = (((((s.setQuality Blk.FBC i Q.STALE).setFld (Reg.FBC_NDn_STAT c n) 0 2 NdSt.LOST).setCanNode c n
      { (s.setQuality Blk.FBC i Q.STALE).canNode c n with sent := [] }).setNum Reg.SCN_LOST_LAST ((32 * c + n) * 256)).raiseIrq
        Blk.SCN 8).raiseIrq Blk.FBC 4 := by
  simp only [State.loseNode, hpoints, List.foldl_cons, List.foldl_nil]
  have hsame := s.setQuality_onlyChanges Blk.FBC i Q.STALE
  generalize s.setQuality Blk.FBC i Q.STALE = u at *
  have hput := (State.setFld_onlyChanges u (Reg.FBC_NDn_STAT c n) 0 2 NdSt.LOST).mono (qs := [.regs, .fbc]) (by simp) |>.trans
    ((State.setCanNode_onlyChanges _ c n { u.canNode c n with sent := [] }).mono (by simp))
  have hregs : OnlyRegs [Reg.FBC_NDn_STAT c n] u ((u.setFld (Reg.FBC_NDn_STAT c n) 0 2 NdSt.LOST).setCanNode c n { u.canNode c n with sent := [] }) :=
    (OnlyRegs.refl _ u).setFld.with rfl
  generalize (u.setFld (Reg.FBC_NDn_STAT c n) 0 2 NdSt.LOST).setCanNode c n { u.canNode c n with sent := [] } = v at *
  have hscn : v.scn = s.scn := (hput.2.2 .scn (by simp)).trans (hsame.2.2 .scn (by simp))
  rw [State.stationLost_idle (by rw [hscn, hlanes]) (by rw [hscn, hremote])]
  have hcfg : ((v.setNum Reg.SCN_LOST_LAST ((32 * c + n) * 256)).raiseIrq Blk.SCN 8).reg (Reg.FBC_NDn_CFG c n) = s.reg (Reg.FBC_NDn_CFG c n) := by
    have h1 : Reg.FBC_NDn_CFG c n ∉ irqRegs Blk.SCN := by
      simp [irqRegs, Reg.IRQ_STAT, Reg.MSIX_PBA, Reg.FBC_NDn_CFG, Blk.SCN]; omega
    have h2 : Reg.SCN_LOST_LAST ≠ Reg.FBC_NDn_CFG c n := by simp only [Reg.FBC_NDn_CFG, Reg.SCN_LOST_LAST]; omega
    have h3 : Reg.FBC_NDn_CFG c n ∉ [Reg.FBC_NDn_STAT c n] := by simp only [Reg.FBC_NDn_CFG, Reg.FBC_NDn_STAT, List.mem_singleton]; omega
    exact (State.raiseIrq_onlyRegs _ _ _ _ h1).trans ((v.setNum_reg_other _ _ _ h2).trans ((hregs _ h3).trans
      (State.reg_congr _ _ (hsame.2.2 .regs (by simp)) _)))
  rw [if_neg (by rw [State.flag_congr _ _ _ _ hcfg, htx]; decide)]

end

end Sys2Proof.Machine

/-! PROOFS. The field bus's errors and nodes, settled. -/

namespace Sys2Proof.Machine

-- One declaration after the other: the stacks of parallel elaboration would count against the memory limit of the check.
set_option Elab.async false

/-- The channel registers of CTL in the maps that a write goes through. -/
theorem canCtl_maps (c : Nat) (hc : c ≤ 3) : (regRow? (Reg.FBC_CHc_CTL c)).isSome ∧ regIdx Reg.FBC_CHc_CTL 4 (Reg.FBC_CHc_CTL c) = some c := by
  have table : ∀ k : Fin 4, (regRow? (Reg.FBC_CHc_CTL k)).isSome ∧ regIdx Reg.FBC_CHc_CTL 4 (Reg.FBC_CHc_CTL k) = some k.val := by decide
  exact table ⟨c, by omega⟩

theorem State.takeWrite_canCtl {s : State} {rq : Requester} {c : Nat} (v : Word) (hc : c ≤ 3) (hpass : s.Passes rq (Reg.FBC_CHc_CTL c)) :
    s.takeWrite rq (Reg.FBC_CHc_CTL c) v = s.setRestrict c (bitOf v.toNat 0) := by
  obtain ⟨hrow, hidx⟩ := canCtl_maps c hc
  obtain ⟨r, hr⟩ := Option.isSome_iff_exists.1 hrow
  have hpage : ¬ Reg.FBC_CHc_CTL c % 0x40000 < 0x100 := by simp only [Reg.FBC_CHc_CTL]; omega
  have hblock : Reg.FBC_CHc_CTL c / 0x40000 = 0x10 := by simp only [Reg.FBC_CHc_CTL]; omega
  rw [s.takeWrite_of_passes rq _ v r hpass hr (by simp only [Reg.FBC_CHc_CTL, Reg.HIF_FENCE]; omega)]
  generalize Reg.FBC_CHc_CTL c = off at hpage hblock hidx
  simp only [State.writeReg, hpage, if_false, hblock, State.writeFbc, hidx]

/-- Counters that change the state leave the other bits of STAT. -/
theorem State.setCounters_stat (s : State) (c tec rc : Nat) {i : Nat} (hi : 2 ≤ i) :
    (s.setCounters c tec rc).flag (Reg.FBC_CHc_STAT c) i = s.flag (Reg.FBC_CHc_STAT c) i := by
  have hput : (s.putCounters c tec rc).flag (Reg.FBC_CHc_STAT c) i = s.flag (Reg.FBC_CHc_STAT c) i :=
    State.flag_congr _ _ _ _ (s.putCounters_onlyRegs c tec rc _ (by simpa using canStat_ne_err c))
  rw [State.setCounters_def]
  split
  · exact hput
  · refine (State.flag_congr _ _ _ _ (State.raiseIrq_onlyRegs _ _ _ _ (canStat_not_irq c))).trans (Eq.trans ?_ hput)
    simp only [State.flag, State.setFld_fld_other _ (Reg.FBC_CHc_STAT c) 0 2 _ i 1 (by decide) (.inl (by omega))]

/-- Cleared counters (R493). -/
theorem State.putCounters_zero (s : State) (c : Nat) : (s.putCounters c 0 0).fld (Reg.FBC_CHc_ERR c) 0 17 = 0 := by
  have h := s.putCounters_counts c (tec := 0) (rc := 0) (by decide) (by decide)
  simp only [State.fld, bitsOf] at h ⊢
  omega

/-- Settles O42, clause by clause: the counters' three ranges, recovery, BUS_ON, RESTRICT, a silent node and the polarity. -/
theorem fieldBusErrorsAndNodes : Obligations.FieldBusErrorsAndNodes := by
  unfold Obligations.FieldBusErrorsAndNodes
  intro s c hup hc
  refine ⟨fun tec rc ta ra hst hfree htec hrc => ?_, fun k e hst hrec hbus hact hblock hserv => ?_,
    fun k x hx hserv hpar hctx hmode hen hon => ⟨fun hst => ?_, fun hst => ?_⟩, fun rq v hpass => ?_, ?_, fun hon hswap => ?_, fun w hw hdue => ?_⟩
  · have hcount := s.satInc_onlyChanges (Reg.FBC_CHc_RXERR_CNT c) 0 32 1
    have hnum := s.satInc_num (Reg.FBC_CHc_RXERR_CNT c) 1
    have hregs : OnlyRegs [Reg.FBC_CHc_RXERR_CNT c] s (s.satInc (Reg.FBC_CHc_RXERR_CNT c) 0 32 1) := (OnlyRegs.refl _ s).satInc
    have hst1 := s.counted_canSt c
    have hrun := fun (t : State) (ps : List Part) (ht : s.otherError c tec rc = t) (hch : OnlyChanges ps s t) (hk : Part.key ∉ ps) =>
      exec_canError_other hup hc hst hfree htec hrc ht hch hk
    simp only [State.otherError] at hrun
    generalize s.satInc (Reg.FBC_CHc_RXERR_CNT c) 0 32 1 = u at *
    refine ⟨fun ht hr => ?_, fun hlo hhi hauto => ?_, fun ht hbufs hfifo hwait hnodes => ?_⟩
    · have hsame : canStateOf tec rc = CanSt.ACTIVE := by simp only [canStateOf, if_neg (show ¬ 255 < tec by omega), if_neg (show ¬ (128 ≤ tec ∨ 128 ≤ rc) by omega)]
      have hch := hcount.trans (u.putCounters_onlyChanges c tec rc)
      obtain ⟨h1, h2⟩ := u.putCounters_counts c (tec := tec) (rc := rc) (by omega) (by omega)
      have hput := u.putCounters_onlyRegs c tec rc
      refine ⟨_, hrun _ _ ?_ hch (by simp), h1, h2, (u.putCounters_canSt c tec rc).trans (hst1.trans hst), ?_, hch, ?_⟩
      · rw [State.setCounters_same (by rw [hst1, hst, hsame]), if_neg (by omega), if_neg (by omega)]
      · exact (State.num_congr (hput _ (by simpa using rxErr_ne_err c))).trans hnum
      · exact (hregs.mono (by simp)).trans (hput.mono (by simp))
    · have hst' : canStateOf tec rc = CanSt.PASSIVE := by simp only [canStateOf, if_neg (show ¬ 255 < tec by omega), if_pos (show 128 ≤ tec ∨ 128 ≤ rc by omega)]
      obtain ⟨h1, h2, h3, h4, h5⟩ := State.setCounters_changed (s := u) (c := c) (tec := tec) (rc := rc) (by rw [hst1, hst, hst']; decide)
      have hch := (hcount.mono (by simp)).trans h4
      have hcfg : (u.setCounters c tec rc).flag (Reg.FBC_CHc_CFG c) 4 = false := by
        refine (State.flag_congr _ _ _ _ ((h5 _ (canCfg_not_errState c)).trans (hregs _ ?_))).trans hauto
        simp only [List.mem_singleton, Reg.FBC_CHc_CFG, Reg.FBC_CHc_RXERR_CNT]; omega
      refine ⟨_, hrun _ _ ?_ hch (by simp), h1.trans hst', ?_, h2, hch⟩
      · rw [if_neg (by omega), if_neg (by simp [hcfg])]
      · rw [h3, State.putCounters, State.setFld_fld_other _ _ 9 8 _ 0 9 (by decide) (by decide), State.setFld_fld_same _ _ _ _ _ (by decide),
          show Nat.min tec 511 = tec from Nat.min_eq_left (by omega), Nat.mod_eq_of_lt (by omega)]
    · have hst' : canStateOf tec rc = CanSt.BUS_OFF := by simp only [canStateOf, if_pos ht]
      obtain ⟨h1, -, -, h4, h5⟩ := State.setCounters_changed (s := u) (c := c) (tec := tec) (rc := rc) (by rw [hst1, hst, hst']; decide)
      have hch := (hcount.mono (qs := [.regs, .out]) (by simp)).trans h4
      have hreg : ∀ off, 0x40102C + 4096 * c ≤ off → off ≠ Reg.FBC_CHc_RXERR_CNT c → (u.setCounters c tec rc).reg off = s.reg off := fun off h hne =>
        (h5 off (reg_not_errState h)).trans (hregs off (by simpa using hne))
      generalize u.setCounters c tec rc = w at *
      have hfbc : w.fbc = s.fbc := hch.2.2 .fbc (by simp)
      have hchan := State.canCh_congr hfbc c
      obtain ⟨g1, g2, g3, g4, g5⟩ := State.busOff_spec (s := w) (c := c) hc (by rw [hfbc, hbufs]) (by rw [hchan, hfifo]) (by rw [hchan, hwait]) fun n hn => by
        rw [State.nodeEn, State.flag_congr _ _ _ _ (hreg _ (by simp only [Reg.FBC_NDn_CFG]; omega) (by simp only [Reg.FBC_NDn_CFG, Reg.FBC_CHc_RXERR_CNT]; omega))]
        exact hnodes n hn
      have hall := (hch.mono (by simp)).trans g5
      refine ⟨_, hrun _ _ (if_pos ht) hall (by simp), g1.trans (h1.trans hst'), ?_, g3, fun j hj htx => g4 j hj ?_, hall⟩
      · rw [g2, State.num_congr (hreg _ (by simp only [Reg.FBC_CHc_BUSOFF_CNT]; omega) (by simp only [Reg.FBC_CHc_BUSOFF_CNT, Reg.FBC_CHc_RXERR_CNT]; omega))]
      · simpa only [State.isTx, State.flag, State.fld, hreg (Reg.FBC_MBb_CFG c j) (by simp only [Reg.FBC_MBb_CFG]; omega)
          (by simp only [Reg.FBC_MBb_CFG, Reg.FBC_CHc_RXERR_CNT]; omega)] using htx
  · have hclear := s.setFlag_onlyChanges (Reg.FBC_CHc_STAT c) 2 false
    have hst1 : (s.setFlag (Reg.FBC_CHc_STAT c) 2 false).canSt c = CanSt.BUS_OFF :=
      (State.setFld_fld_other _ _ _ _ _ _ _ (by decide) (by decide)).trans hst
    obtain ⟨h1, -, h3, h4, h5⟩ := State.setCounters_changed (s := s.setFlag (Reg.FBC_CHc_STAT c) 2 false) (c := c) (tec := 0) (rc := 0)
      (by rw [hst1]; decide)
    have hch := (hclear.mono (qs := [.regs, .out]) (by simp)).trans h4
    have hstat : ((s.setFlag (Reg.FBC_CHc_STAT c) 2 false).setCounters c 0 0).flag (Reg.FBC_CHc_STAT c) 2 = false :=
      (State.setCounters_stat _ c 0 0 (by decide)).trans (s.setFlag_flag_same _ _ _ (by decide))
    have herr : ((s.setFlag (Reg.FBC_CHc_STAT c) 2 false).setCounters c 0 0).fld (Reg.FBC_CHc_ERR c) 0 17 = 0 := by
      rw [h3]
      exact State.putCounters_zero _ c
    generalize hu : (s.setFlag (Reg.FBC_CHc_STAT c) 2 false).setCounters c 0 0 = u at *
    have hserves : s.Serves k Blk.FBC := ⟨hserv, hact, hblock⟩
    obtain ⟨hended, hch2⟩ := hserves.ends (by decide) hch St.OK e
    have hreg : (u.decideOp k St.OK e).regs = u.regs := ((hserves.frame hch).onlyChanges (by decide) St.OK e).2.2 .regs (by simp)
    have hfbc : (u.decideOp k St.OK e).fbc = s.fbc := hch2.2.2 .fbc (by simp)
    have hclk : (u.decideOp k St.OK e).clk = s.clk := hch2.2.1
    have huch := State.canCh_congr (hch.2.2 .fbc (by simp)) c
    have hput := State.setCanCh_onlyChanges (u.decideOp k St.OK e) c { (u.decideOp k St.OK e).canCh c with
      busOn := [], onClk := (u.decideOp k St.OK e).clk, swapWait := if u.flag (Reg.FBC_CHc_CFG c) 6 then some u.clk else none }
    have hall := (hch2.mono (qs := [.regs, .out, .opt, .scn, .fbc]) (by simp)).trans (hput.mono (by simp))
    refine ⟨State.setCanCh (u.decideOp k St.OK e) c _, ?_, (State.fld_congr (State.reg_congr _ _ hreg _) 0 2).trans h1, (State.fld_congr (State.reg_congr _ _ hreg _) 0 17).trans herr,
      (State.flag_congr _ _ _ _ (State.reg_congr _ _ hreg _)).trans hstat, hended, ?_, ?_, hall⟩
    · rw [exec_busoffRecovered, execBusoffRecovered]
      refine State.powered_next hup ?_ hall (by simp)
      rw [if_neg (by simp [hst, hrec])]
      simp only [hu, huch, hbus, List.foldl_cons, List.foldl_nil]
    · exact congrArg CanCh.busOn (State.setCanCh_canCh _ c _)
    · exact (congrArg CanCh.onClk (State.setCanCh_canCh _ c _)).trans hclk
  · have hch := (s.setCanCh_onlyChanges c { s.canCh c with busOn := [(k, BitVec.ofNat 32 (s.num (Reg.FBC_CHc_ERR c) % 2 ^ 17))] }).mono
      (qs := [.regs, .fbc]) (by simp)
    have hall := hch.trans (((State.setFlag_onlyChanges _ (Reg.FBC_CHc_STAT c) 2 true).trans
      (State.setFlag_onlyChanges _ (Reg.FBC_CHc_STAT c) 6 false)).mono (by simp))
    refine ⟨_, ?_, ?_, State.setFlag_flag_same _ _ _ _ (by decide), ?_, hall, OnlyRegs.setFlag (OnlyRegs.setFlag (OnlyRegs.of_regs_eq rfl))⟩
    · rw [exec_busOn, execBusOn]
      refine State.powered_next hup ?_ hall (by simp)
      simp only [hx, hpar, hon]
      rw [if_neg (by simp), if_neg (by simp [hctx, hmode, hen]), if_neg (by simp [hst]; omega), List.nil_append]
    · exact (State.setFlag_flag_other _ _ _ _ _ (by decide) (by decide)).trans (State.setFlag_flag_same _ _ _ _ (by decide))
    · have hsame := (State.setFlag_onlyChanges (s.setCanCh c { s.canCh c with busOn := [(k, BitVec.ofNat 32 (s.num (Reg.FBC_CHc_ERR c) % 2 ^ 17))] })
        (Reg.FBC_CHc_STAT c) 2 true).trans (State.setFlag_onlyChanges _ (Reg.FBC_CHc_STAT c) 6 false)
      rw [State.canCh_congr (hsame.2.2 .fbc (by simp)), State.setCanCh_canCh]
  · have hserves := State.serves_of_activeOp hserv hx
    obtain ⟨hended, hch⟩ := hserves.ends (by decide) (OnlyChanges.refl [] s) St.FAIL_INVALID 0
    refine ⟨_, ?_, hended, hch⟩
    rw [exec_busOn, execBusOn]
    refine State.powered_next hup ?_ hch (by simp)
    simp only [hx, hpar, hon]
    rw [if_neg (by simp), if_neg (by simp [hctx, hmode, hen]), if_pos (.inr hst)]
  · have hall := (s.setFlag_onlyChanges (Reg.FBC_CHc_CTL c) 0 (bitOf v.toNat 0)).trans (State.setFlag_onlyChanges _ (Reg.FBC_CHc_STAT c) 3 (bitOf v.toNat 0))
    refine ⟨_, ?_, ?_, State.setFlag_flag_same _ _ _ _ (by decide), hall, (OnlyRegs.refl _ s).setFlag.setFlag⟩
    · rw [exec_restrictWrite, execRestrictWrite]
      exact State.powered_next hup ((if_neg (by omega)).trans (State.takeWrite_canCtl v hc hpass)) hall (by simp)
    · refine (State.setFlag_flag_reg _ _ _ _ _ _ ?_).trans (s.setFlag_flag_same _ _ _ (by decide))
      simp only [Reg.FBC_CHc_CTL, Reg.FBC_CHc_STAT]; omega
  · intro n i g hn hen hup2 htmo hdue hmap hch hnode hlanes hremote htx hcopies htype hforced hnote halone
    have hpoints : s.nodePoints c n = [i] := by simp [State.nodePoints, hmap, hch, hnode]
    have heq := State.loseNode_eq hpoints hlanes hremote htx hc
    obtain ⟨hq, honly⟩ := State.setQuality_plain (o := Blk.FBC) (q := Q.STALE) hcopies htype hforced hnote (by decide)
    have hpts := s.setQuality_onlyChanges Blk.FBC i Q.STALE
    have hdue' : s.nodeDue c n = true := by simp [State.nodeDue, hen, hup2, htmo, hdue]
    generalize s.setQuality Blk.FBC i Q.STALE = u at *
    have hset : (u.setFld (Reg.FBC_NDn_STAT c n) 0 2 NdSt.LOST).fld (Reg.FBC_NDn_STAT c n) 0 2 = NdSt.LOST :=
      State.setFld_fld_same _ _ _ _ _ (by decide)
    have hsetch := u.setFld_onlyChanges (Reg.FBC_NDn_STAT c n) 0 2 NdSt.LOST
    generalize u.setFld (Reg.FBC_NDn_STAT c n) 0 2 NdSt.LOST = v at *
    have hput := v.setCanNode_onlyChanges c n { u.canNode c n with sent := [] }
    generalize v.setCanNode c n { u.canNode c n with sent := [] } = w at *
    have hlast := w.setNum_onlyChanges Reg.SCN_LOST_LAST ((32 * c + n) * 256)
    have htail : OnlyChanges [.regs, .out, .fbc] u (((w.setNum Reg.SCN_LOST_LAST ((32 * c + n) * 256)).raiseIrq Blk.SCN 8).raiseIrq Blk.FBC 4) :=
      (hsetch.mono (by simp)).trans ((hput.mono (by simp)).trans ((hlast.mono (by simp)).trans
        (((State.raiseIrq_onlyChanges _ Blk.SCN 8).mono (by simp)).trans ((State.raiseIrq_onlyChanges _ Blk.FBC 4).mono (by simp)))))
    have hall := (hpts.mono (qs := [.regs, .out, .points, .notes, .fbc]) (by simp)).trans (htail.mono (by simp))
    have hpt : ∀ j, (((w.setNum Reg.SCN_LOST_LAST ((32 * c + n) * 256)).raiseIrq Blk.SCN 8).raiseIrq Blk.FBC 4).point j = u.point j :=
      fun j => congrArg (fun p => tget (fun _ => Point.unconfigured) p j) (htail.2.2 .points (by simp))
    refine ⟨_, ?_, ?_, (congrArg Point.quality (hpt i)).trans hq, fun j hj => (hpt j).trans (honly j hj), State.raiseIrq_flag_same _ _ _ (by decide), hall⟩
    · rw [exec_nodeLoss, execNodeLoss]
      refine State.powered_next hup ?_ hall (by simp)
      rw [if_neg (by simp [hdue']; omega), State.yielding_of_alone halone]
      exact heq
    · have h1 : Reg.FBC_NDn_STAT c n ∉ irqRegs Blk.FBC := canReg_not_irq (by simp only [Reg.FBC_NDn_STAT]; omega)
      have h2 : Reg.FBC_NDn_STAT c n ∉ irqRegs Blk.SCN := by
        simp [irqRegs, Reg.IRQ_STAT, Reg.MSIX_PBA, Reg.FBC_NDn_STAT, Blk.SCN]; omega
      have h3 : Reg.SCN_LOST_LAST ≠ Reg.FBC_NDn_STAT c n := by simp only [Reg.FBC_NDn_STAT, Reg.SCN_LOST_LAST]; omega
      exact (State.fld_congr ((State.raiseIrq_onlyRegs _ _ _ _ h1).trans ((State.raiseIrq_onlyRegs _ _ _ _ h2).trans
        ((w.setNum_reg_other _ _ _ h3).trans (State.reg_congr _ _ (hput.2.2 .regs (by simp)) _)))) 0 2).trans hset
  · have hall := ((s.setFlag_onlyChanges (Reg.FBC_CHc_STAT c) 5 true).mono (qs := [.regs, .out, .fbc]) (by simp)).trans
      (((State.setCanCh_onlyChanges _ c { s.canCh c with swapWait := none }).mono (by simp)).trans ((State.raiseIrq_onlyChanges _ Blk.FBC 6).mono (by simp)))
    refine ⟨_, ?_, ?_, ?_, State.raiseIrq_flag_same _ _ _ (by decide), hall⟩
    · rw [exec_swapDetect, execSwapDetect]
      exact State.powered_next hup (if_neg (by simp [hon, hswap]; omega)) hall (by simp)
    · exact (State.flag_congr _ _ _ _ (State.raiseIrq_onlyRegs _ _ _ _ (canStat_not_irq c))).trans (s.setFlag_flag_same _ _ _ (by decide))
    · rw [State.canCh_congr ((State.raiseIrq_onlyChanges _ Blk.FBC 6).2.2 .fbc (by simp)), State.setCanCh_canCh]
  · rw [exec_swapWaitEnd, execSwapWaitEnd]
    refine State.powered_next hup ?_ (s.setCanCh_onlyChanges c _) (by simp)
    simp only [hw]
    rw [if_neg (by simp; omega)]

end Sys2Proof.Machine

/-! PROOFS. An output channel of DIO: what driving it, taking a command for it and answering for it do (R503, R507, R508). -/

namespace Sys2Proof.Machine

-- One declaration after the other: the stacks of parallel elaboration would count against the memory limit of the check.
set_option Elab.async false

section
variable {s a : State} {c : Nat} {v : Bool}

theorem State.setChan_onlyChanges (s : State) (c : Nat) (x : DioCh) : OnlyChanges [.dio] s (s.setChan c x) := by
  simp [State.setChan, onlyChanges_iff]

theorem State.setChan_chan_same (s : State) (c : Nat) (x : DioCh) : (s.setChan c x).chan c = x := (s.setChan_chan c c x).trans (if_pos rfl)

theorem State.chan_congr {s t : State} (h : t.dio = s.dio) (c : Nat) : t.chan c = s.chan c := by
  simp only [State.chan, h]

theorem State.pubDio_onlyChanges (s : State) (c : Nat) : OnlyChanges [.points, .notes] s (s.pubDio c) := by
  obtain ⟨p, n, h⟩ := s.pubDio_eq c
  simp [h, onlyChanges_iff]

/-- Without a base for its points DIO writes none (R515). -/
theorem State.pubDio_of_none (h : s.fld Reg.DIO_PT_BASE 0 16 = 0xFFFF) (c : Nat) : s.pubDio c = s := by
  simp only [State.pubDio, State.pubPoint, h, if_true]

theorem dioStat_ne_group (c g : Nat) (hg : g < 0x100) : Reg.DIO_CHcSTAT c ≠ Reg.DIO_GRPg_CFG g := by
  simp only [Reg.DIO_CHcSTAT, Reg.DIO_GRPg_CFG]; omega

/-- A channel alone in its set, driven to a level (R503). -/
theorem State.dioDrive_eq (hset : s.dioSet c = [c]) : s.dioDrive c v =
    ((((s.setChan c { s.chan c with on := v, waiting := none, takenClk := 0 }).setFlag (Reg.DIO_CHcSTAT c) 0 v).setFlag
      (Reg.DIO_CHcSTAT c) 10 false).emit (.dioOut c v)).pubDio c := by
  simp only [State.dioDrive, hset, List.foldl_cons, List.foldl_nil]

/-- What driving a channel alone in its set shows. -/
theorem State.dioDrive_spec (hset : s.dioSet c = [c]) (v : Bool) :
    (s.dioDrive c v).chan c = { s.chan c with on := v, waiting := none, takenClk := 0 }
      ∧ (s.dioDrive c v).flag (Reg.DIO_CHcSTAT c) 0 = v ∧ (s.dioDrive c v).flag (Reg.DIO_CHcSTAT c) 10 = false
      ∧ (∀ i, i ≠ 0 → i ≠ 10 → (s.dioDrive c v).flag (Reg.DIO_CHcSTAT c) i = s.flag (Reg.DIO_CHcSTAT c) i)
      ∧ (s.dioDrive c v).out = s.out ++ [.dioOut c v]
      ∧ OnlyChanges [.regs, .out, .points, .notes, .dio] s (s.dioDrive c v) ∧ OnlyRegs [Reg.DIO_CHcSTAT c] s (s.dioDrive c v) := by
  rw [State.dioDrive_eq hset]
  have hput := s.setChan_onlyChanges c { s.chan c with on := v, waiting := none, takenClk := 0 }
  have hchan := s.setChan_chan_same c { s.chan c with on := v, waiting := none, takenClk := 0 }
  generalize s.setChan c { s.chan c with on := v, waiting := none, takenClk := 0 } = u at *
  have hlevel : (u.setFlag (Reg.DIO_CHcSTAT c) 0 v).flag (Reg.DIO_CHcSTAT c) 0 = v := u.setFlag_flag_same _ _ _ (by decide)
  have hothers : ∀ i, i ≠ 0 → (u.setFlag (Reg.DIO_CHcSTAT c) 0 v).flag (Reg.DIO_CHcSTAT c) i = u.flag (Reg.DIO_CHcSTAT c) i :=
    fun i hi => u.setFlag_flag_other _ _ _ _ (by decide) hi.symm
  have hch1 := u.setFlag_onlyChanges (Reg.DIO_CHcSTAT c) 0 v
  have hr1 : OnlyRegs [Reg.DIO_CHcSTAT c] u (u.setFlag (Reg.DIO_CHcSTAT c) 0 v) := (OnlyRegs.refl _ u).setFlag
  generalize u.setFlag (Reg.DIO_CHcSTAT c) 0 v = w at *
  have hwait : (w.setFlag (Reg.DIO_CHcSTAT c) 10 false).flag (Reg.DIO_CHcSTAT c) 10 = false := w.setFlag_flag_same _ _ _ (by decide)
  have hothers2 : ∀ i, i ≠ 10 → (w.setFlag (Reg.DIO_CHcSTAT c) 10 false).flag (Reg.DIO_CHcSTAT c) i = w.flag (Reg.DIO_CHcSTAT c) i :=
    fun i hi => w.setFlag_flag_other _ _ _ _ (by decide) hi.symm
  have hch2 := w.setFlag_onlyChanges (Reg.DIO_CHcSTAT c) 10 false
  have hr2 : OnlyRegs [Reg.DIO_CHcSTAT c] w (w.setFlag (Reg.DIO_CHcSTAT c) 10 false) := (OnlyRegs.refl _ w).setFlag
  generalize w.setFlag (Reg.DIO_CHcSTAT c) 10 false = x at *
  have hch3 := (x.emit_onlyChanges (.dioOut c v)).mono (qs := [.regs, .out, .points, .notes, .dio]) (by simp) |>.trans
    (((x.emit (.dioOut c v)).pubDio_onlyChanges c).mono (by simp))
  have hreg : ∀ off, ((x.emit (.dioOut c v)).pubDio c).reg off = x.reg off := fun off => State.pubDio_reg _ c off
  have hout : ((x.emit (.dioOut c v)).pubDio c).out = x.out ++ [.dioOut c v] := ((x.emit (.dioOut c v)).pubDio_onlyChanges c).2.2 .out (by simp)
  have hdio : ((x.emit (.dioOut c v)).pubDio c).dio = x.dio := ((x.emit (.dioOut c v)).pubDio_onlyChanges c).2.2 .dio (by simp)
  generalize (x.emit (.dioOut c v)).pubDio c = y at *
  have hu : u.out = s.out := hput.2.2 .out (by simp)
  have hx : x.out = u.out := (hch2.2.2 .out (by simp)).trans (hch1.2.2 .out (by simp))
  have hxd : x.dio = u.dio := (hch2.2.2 .dio (by simp)).trans (hch1.2.2 .dio (by simp))
  refine ⟨(State.chan_congr (hdio.trans hxd) c).trans hchan, ?_, (State.flag_congr _ _ _ _ (hreg _)).trans hwait, fun i h0 h10 => ?_, ?_, ?_, ?_⟩
  · exact (State.flag_congr _ _ _ _ (hreg _)).trans ((hothers2 0 (by decide)).trans hlevel)
  · exact (State.flag_congr _ _ _ _ (hreg _)).trans ((hothers2 i h10).trans ((hothers i h0).trans
      (State.flag_congr _ _ _ _ (State.reg_congr _ _ (hput.2.2 .regs (by simp)) _))))
  · rw [hout, hx, hu]
  · exact (hput.mono (by simp)).trans ((hch1.mono (by simp)).trans ((hch2.mono (by simp)).trans hch3))
  · exact (OnlyRegs.of_regs_eq (hput.2.2 .regs (by simp))).trans (hr1.trans (hr2.trans fun off _ => hreg off))

end

end Sys2Proof.Machine

/-! PROOFS. An owner's command for an output of DIO (R507, R508). -/

namespace Sys2Proof.Machine

-- One declaration after the other: the stacks of parallel elaboration would count against the memory limit of the check.
set_option Elab.async false

section
variable {s t : State} {c k : Nat} {v : Bool}

theorem State.dioSet_of_regs {l : List Nat} (h : OnlyRegs l s t) (hl : ∀ g, g < 6 → Reg.DIO_GRPg_CFG g ∉ l) (c : Nat) :
    t.dioSet c = s.dioSet c := by
  refine List.filter_congr fun d hd => ?_
  have hd' := List.mem_range.1 hd
  simp only [State.dioMaster, State.fld, h _ (hl (d / 4) (by omega))]

theorem group_not_dioStat (c g : Nat) (hg : g < 6) : Reg.DIO_GRPg_CFG g ∉ [Reg.DIO_CHcSTAT c] := by
  simpa using (dioStat_ne_group c g (by omega)).symm

theorem dioZx_ne_stat (c d : Nat) : Reg.DIO_CHcZX d ∉ [Reg.DIO_CHcSTAT c] := by
  simp only [Reg.DIO_CHcZX, Reg.DIO_CHcSTAT, List.mem_singleton]; omega

/-- A command that is taken: its request ends and the refusal is no longer shown. -/
def State.dioTaken (s : State) (c : Nat) : State :=
  (s.setChan c { s.chan c with asking := false }).setFlag (Reg.DIO_CHcSTAT c) 8 false

theorem State.dioTaken_onlyChanges (s : State) (c : Nat) : OnlyChanges [.regs, .dio] s (s.dioTaken c) :=
  ((s.setChan_onlyChanges c _).mono (by simp)).trans ((State.setFlag_onlyChanges _ _ _ _).mono (by simp))

theorem State.dioTaken_onlyRegs (s : State) (c : Nat) : OnlyRegs [Reg.DIO_CHcSTAT c] s (s.dioTaken c) :=
  OnlyRegs.setFlag (OnlyRegs.of_regs_eq rfl)

theorem State.dioTaken_chan (s : State) (c : Nat) : (s.dioTaken c).chan c = { s.chan c with asking := false } :=
  (State.chan_congr ((State.setFlag_onlyChanges _ _ _ _).2.2 .dio (by simp)) c).trans (s.setChan_chan_same c _)

theorem State.dioTake_eq (hzx : s.flag (Reg.DIO_CHcZX c) 16 = false) :
    s.dioTake c v = ((s.dioTaken c).dioAnswer c St.OK).dioDrive c v := by
  simp only [State.dioTake, hzx, Bool.false_eq_true, false_and, if_false]
  rfl

theorem State.dioAnswer_none (h : (s.chan c).waiters = []) (status : Nat) :
    s.dioAnswer c status = s.setChan c { s.chan c with waiters := [] } := by
  simp only [State.dioAnswer, h, List.foldl_nil]

theorem State.dioAnswer_one (h : (s.chan c).waiters = [k]) (hblock : (s.slot k).block = Blk.DIO) (status : Nat) :
    s.dioAnswer c status = (s.setChan c { s.chan c with waiters := [] }).decideOp k status 0 := by
  have hslot : ((s.setChan c { s.chan c with waiters := [] }).slot k).block = Blk.DIO := hblock
  simp only [State.dioAnswer, h, List.foldl_cons, List.foldl_nil, if_pos hslot]

/-- A command taken at once, with nothing waiting for it (R507). -/
theorem State.dioTake_spec (hset : s.dioSet c = [c]) (hzx : s.flag (Reg.DIO_CHcZX c) 16 = false) (hw : (s.chan c).waiters = []) (v : Bool) :
    (s.dioTake c v).chan c = { s.chan c with asking := false, waiters := [], on := v, waiting := none, takenClk := 0 }
      ∧ (s.dioTake c v).flag (Reg.DIO_CHcSTAT c) 0 = v
      ∧ (∀ i, i ≠ 0 → i ≠ 8 → i ≠ 10 → (s.dioTake c v).flag (Reg.DIO_CHcSTAT c) i = s.flag (Reg.DIO_CHcSTAT c) i)
      ∧ (s.dioTake c v).out = s.out ++ [.dioOut c v]
      ∧ OnlyChanges [.regs, .out, .points, .notes, .dio] s (s.dioTake c v) ∧ OnlyRegs [Reg.DIO_CHcSTAT c] s (s.dioTake c v) := by
  rw [State.dioTake_eq hzx]
  have hch := s.dioTaken_onlyChanges c
  have hregs := s.dioTaken_onlyRegs c
  have hchan := s.dioTaken_chan c
  have hflags : ∀ i, i ≠ 8 → (s.dioTaken c).flag (Reg.DIO_CHcSTAT c) i = s.flag (Reg.DIO_CHcSTAT c) i := fun i hi =>
    State.setFlag_flag_other _ _ _ _ _ (by decide) hi.symm
  generalize s.dioTaken c = a at *
  have hput := a.setChan_onlyChanges c { a.chan c with waiters := [] }
  have hsame := a.setChan_chan_same c { a.chan c with waiters := [] }
  rw [State.dioAnswer_none (by rw [hchan]; exact hw)]
  generalize a.setChan c { a.chan c with waiters := [] } = b at *
  have hb : OnlyRegs [Reg.DIO_CHcSTAT c] s b := hregs.trans (OnlyRegs.of_regs_eq (hput.2.2 .regs (by simp)))
  obtain ⟨h1, h2, -, h4, h5, h6, h7⟩ := State.dioDrive_spec (s := b) (c := c)
    ((State.dioSet_of_regs hb (group_not_dioStat c) c).trans hset) v
  refine ⟨?_, h2, fun i h0 h8 h10 => (h4 i h0 h10).trans ?_, ?_, ?_, hb.trans h7⟩
  · rw [h1, hsame, hchan]
  · exact (State.flag_congr _ _ _ _ (State.reg_congr _ _ (hput.2.2 .regs (by simp)) _)).trans (hflags i h8)
  · rw [h5, show b.out = s.out from (hput.2.2 .out (by simp)).trans (hch.2.2 .out (by simp))]
  · exact (hch.mono (by simp)).trans ((hput.mono (by simp)).trans h6)

/-- A command taken at once completes the operation that waits for it (R507, R517). -/
theorem State.dioTake_ends (hs : s.Serves k Blk.DIO) (hset : s.dioSet c = [c]) (hzx : s.flag (Reg.DIO_CHcZX c) 16 = false)
    (hw : (s.chan c).waiters = [k]) (v : Bool) : (s.dioTake c v).Ended k St.OK 0 ∧ (s.dioTake c v).flag (Reg.DIO_CHcSTAT c) 0 = v
      ∧ (s.dioTake c v).out = s.out ++ [.dioOut c v]
      ∧ OnlyChanges [.regs, .out, .points, .notes, .opt, .scn, .dio] s (s.dioTake c v) := by
  rw [State.dioTake_eq hzx]
  have hch := s.dioTaken_onlyChanges c
  have hregs := s.dioTaken_onlyRegs c
  have hchan := s.dioTaken_chan c
  generalize s.dioTaken c = a at *
  have hsa := hs.frame hch
  rw [State.dioAnswer_one (by rw [hchan]; exact hw) hsa.block]
  have hput := a.setChan_onlyChanges c { a.chan c with waiters := [] }
  generalize a.setChan c { a.chan c with waiters := [] } = b at *
  obtain ⟨hended, hch2⟩ := hsa.ends (by decide) hput St.OK 0
  have hb : OnlyRegs [Reg.DIO_CHcSTAT c] s (b.decideOp k St.OK 0) := hregs.trans (OnlyRegs.of_regs_eq (hch2.2.2 .regs (by simp)))
  generalize b.decideOp k St.OK 0 = d at *
  obtain ⟨-, h2, -, -, h5, h6, -⟩ := State.dioDrive_spec (s := d) (c := c)
    ((State.dioSet_of_regs hb (group_not_dioStat c) c).trans hset) v
  have hopt : (d.dioDrive c v).opt = d.opt := h6.2.2 .opt (by simp)
  refine ⟨?_, h2, ?_, ?_⟩
  · simpa only [State.Ended, State.slot, hopt] using hended
  · rw [h5, show d.out = s.out from (hch2.2.2 .out (by simp)).trans (hch.2.2 .out (by simp))]
  · exact (hch.mono (by simp)).trans ((hch2.mono (by simp)).trans (h6.mono (by simp)))

/-! ### Requests to ARB -/

theorem State.dioUnask_onlyChanges (s : State) (c : Nat) : OnlyChanges [.arb, .dio] s (s.dioUnask c) := by
  have h1 := (s.setChan_onlyChanges c { s.chan c with asking := false, arbCut := false }).mono (qs := [.arb, .dio]) (by simp)
  exact h1.trans ((State.withArb_onlyChanges _ _).mono (by simp))

theorem State.dioUnask_chan (s : State) (c : Nat) : (s.dioUnask c).chan c = { s.chan c with asking := false, arbCut := false } :=
  s.setChan_chan_same c _

theorem State.dioAsk_onlyChanges (s : State) (c : Nat) : OnlyChanges [.arb, .dio] s (s.dioAsk c) := by
  have h1 := (s.setChan_onlyChanges c { s.chan c with asking := true }).mono (qs := [.arb, .dio]) (by simp)
  exact h1.trans ((State.withArb_onlyChanges _ _).mono (by simp))

theorem State.dioApply_off (h : (s.chan c).cmd = some false) : s.dioApply c = (s.dioUnask c).dioTake c false := by
  simp only [State.dioApply, h]

theorem State.dioApply_free (h : (s.chan c).cmd = some true) (hma : s.fieldMa c = 0) : s.dioApply c = s.dioTake c true := by
  simp only [State.dioApply, h, hma, true_or, if_true]

theorem State.dioApply_ask (h : (s.chan c).cmd = some true) (hma : s.fieldMa c ≠ 0) (hg : (s.chan c).grant = 0) :
    s.dioApply c = s.dioAsk c := by
  simp only [State.dioApply, h, hma, hg, ne_eq, not_true_eq_false, false_and, or_self, if_false]

/-- A command recorded with what waits for it. -/
def State.dioNoted (s : State) (c : Nat) (v : Bool) (tag : Option Nat) : State :=
  s.setChan c { s.chan c with cmd := some v, waiters := match tag with
    | some t => (s.chan c).waiters ++ [t]
    | none => (s.chan c).waiters }

theorem State.dioNoted_held (s : State) (c : Nat) (v : Bool) (tag : Option Nat) : (s.dioNoted c v tag).dioHeld c = s.dioHeld c := by
  simp only [State.dioHeld, State.dioNoted, State.setChan_chan_same]
  rfl

theorem State.dioCommand_eq (s : State) (c : Nat) (v : Bool) (tag : Option Nat) :
    s.dioCommand c v tag = if s.dioHeld c then s.dioNoted c v tag else (s.dioNoted c v tag).dioApply c := by
  rw [← s.dioNoted_held c v tag]
  rfl

end

end Sys2Proof.Machine

/-! PROOFS. A tick of DIO's inputs while its points are off (R505, R506, R513). -/

namespace Sys2Proof.Machine

-- One declaration after the other: the stacks of parallel elaboration would count against the memory limit of the check.
set_option Elab.async false

section
variable {s a : State} {c : Nat}

/-! ### Counts of the inputs -/

theorem dioCnt_ne (c : Nat) : Reg.DIO_CHcCNT c ≠ Reg.DIO_CHcSTAT c ∧ Reg.DIO_CHcCNT c ≠ Reg.DIO_IN ∧ Reg.DIO_CHcCNT c ≠ Reg.DIO_CHcEDGE c := by
  simp only [Reg.DIO_CHcCNT, Reg.DIO_CHcSTAT, Reg.DIO_IN, Reg.DIO_CHcEDGE]; omega

theorem State.wrapInc_num (s : State) (off n : Nat) : (s.wrapInc off n).num off = (s.num off + n) % 2 ^ 32 :=
  s.setNum_num_same off _

/-- A change of the filtered state counts a rising edge (R506). -/
theorem State.recordInput_num (s : State) (c : Nat) (st : Bool) : (s.recordInput c st).num (Reg.DIO_CHcCNT c)
    = (s.num (Reg.DIO_CHcCNT c) + if st then 1 else 0) % 2 ^ 32 := by
  obtain ⟨h1, h2, h3⟩ := dioCnt_ne c
  have level : ((s.setFlag (Reg.DIO_CHcSTAT c) 0 st).setFlag Reg.DIO_IN c st).num (Reg.DIO_CHcCNT c) = s.num (Reg.DIO_CHcCNT c) :=
    State.num_congr ((State.setFlag_reg_other _ _ _ _ _ h2.symm).trans (s.setFlag_reg_other _ _ _ _ h1.symm))
  cases st with
  | false => exact level.trans (Nat.mod_eq_of_lt (s.reg _).isLt).symm
  | true =>
    refine (State.num_congr (State.setReg_reg_other _ _ _ _ h3.symm)).trans ((State.wrapInc_num _ _ 1).trans ?_)
    rw [level]
    rfl

theorem State.inputTick_num (s : State) (c : Nat) (raw : Bool) (hrev : s.flag Reg.DIO_STAT 3 = false) :
    (s.inputTick c raw).num (Reg.DIO_CHcCNT c) = (s.num (Reg.DIO_CHcCNT c)
      + if (s.inputStep c raw).2 && !s.flag (Reg.DIO_CHcSTAT c) 0 then 1 else 0) % 2 ^ 32 := by
  simp only [State.inputTick_eq, hrev, Bool.not_false, Bool.and_true]
  split
  · next h =>
    rw [h, Bool.and_not_self]
    exact (State.num_congr (State.reg_congr _ _ rfl _)).trans (Nat.mod_eq_of_lt (s.reg _).isLt).symm
  · next h =>
    refine (State.num_congr (State.pubDio_reg _ _ _)).trans ((State.recordInput_num _ c _).trans ?_)
    have hedge : (s.inputStep c raw).2 = !s.flag (Reg.DIO_CHcSTAT c) 0 := by
      revert h
      cases (s.inputStep c raw).2 <;> cases s.flag (Reg.DIO_CHcSTAT c) 0 <;> simp
    rw [hedge, Bool.and_self]
    rfl

theorem dioCnt_not_recorded {c d : Nat} (hne : d ≠ c) : Reg.DIO_CHcCNT c ∉ inputRecordRegs d := by
  simp only [inputRecordRegs, Reg.DIO_CHcSTAT, Reg.DIO_IN, Reg.DIO_CHcCNT, Reg.DIO_CHcEDGE, List.mem_cons, List.not_mem_nil, or_false]
  omega

theorem piStat_ne_cnt (i : Nat) {c : Nat} (hc : c < 24) : Reg.DIO_PIiSTAT i ≠ Reg.DIO_CHcCNT c := by
  simp only [Reg.DIO_PIiSTAT, Reg.DIO_CHcCNT]; omega

/-- The count of an input after a tick. -/
theorem State.filterTick_num (s : State) (raw : BitVec 24) (pul : BitVec 16) (hc : c < 24) (hmode : s.dioMode c = 1)
    (hrev : s.flag Reg.DIO_STAT 3 = false) : (s.filterTick raw pul).num (Reg.DIO_CHcCNT c) = (s.num (Reg.DIO_CHcCNT c)
      + if (s.inputStep c (raw.getLsbD c)).2 && !s.flag (Reg.DIO_CHcSTAT c) 0 then 1 else 0) % 2 ^ 32 := by
  have hview : ∀ a i, i ≠ c → ((inputPass raw a i).inputView c, (inputPass raw a i).reg (Reg.DIO_CHcCNT c))
      = (a.inputView c, a.reg (Reg.DIO_CHcCNT c)) := fun a i hne => by
    refine Prod.ext (inputPass_inputView_other raw a hne) ?_
    unfold inputPass
    split
    · exact a.inputTick_reg_other i _ _ (dioCnt_not_recorded hne)
    · rfl
  obtain ⟨a, ha, hloop⟩ := s.forN_view_of_one (fun a => (a.inputView c, a.reg (Reg.DIO_CHcCNT c))) 24 c (inputPass raw) hc hview
  obtain ⟨hview, hnum⟩ := Prod.ext_iff.1 ha
  have hinput : a.dioMode c = 1 := by
    rw [← hmode]
    simp only [State.dioMode, State.fld, State.reg_of_inputView hview (off := Reg.DIO_CHcCFG c) (by simp [inputFilterRegs])]
  have hrev' : a.flag Reg.DIO_STAT 3 = false :=
    (State.flag_congr s a _ 3 (State.reg_of_inputView hview (by simp [inputFilterRegs]))).trans hrev
  have hpulse : (s.filterTick raw pul).reg (Reg.DIO_CHcCNT c) = (s.forN 24 (inputPass raw)).reg (Reg.DIO_CHcCNT c) :=
    State.forN_view_of_keeps (·.reg (Reg.DIO_CHcCNT c)) _ 16 _ fun a i _ => a.pulseTick_reg_other i _ _ (piStat_ne_cnt i hc)
  rw [State.num_congr (hpulse.trans (congrArg Prod.snd hloop)), inputPass_of_input raw hinput, a.inputTick_num c _ hrev',
    State.inputStep_of_inputView hview, State.num_congr hnum, State.flag_congr s a _ 0 (State.reg_of_inputView hview (by simp [inputFilterRegs]))]

/-- A channel without a filter keeps what it holds. -/
theorem State.filterTick_chan_other (s : State) (raw : BitVec 24) (pul : BitVec 16) (hmode : s.dioMode c ≠ 1) :
    (s.filterTick raw pul).chan c = s.chan c := by
  have hkeep : ∀ n, ((s.forN n (inputPass raw)).chan c, (s.forN n (inputPass raw)).dioMode c) = (s.chan c, s.dioMode c) := by
    intro n
    induction n with
    | zero => rfl
    | succ n ih =>
      obtain ⟨hchan, hm⟩ := Prod.ext_iff.1 ih
      rw [State.forN_succ]
      generalize s.forN n (inputPass raw) = a at *
      by_cases h : n = c
      · subst h
        rw [inputPass, if_neg fun e => hmode (Eq.trans (show s.dioMode n = a.dioMode n from hm.symm) e)]
        exact ih
      · have hv := inputPass_inputView_other raw a h
        refine (Prod.ext ((State.chan_of_inputView hv).trans hchan) ?_)
        exact (State.fld_congr (State.reg_of_inputView hv (by simp [inputFilterRegs])) 0 2).trans hm
  have hpulse : (s.filterTick raw pul).chan c = (s.forN 24 (inputPass raw)).chan c :=
    State.forN_view_of_keeps (·.chan c) _ 16 _ fun a i _ => a.pulseTick_chan i c _
  exact hpulse.trans (congrArg Prod.fst (hkeep 24))

/-! ### Pulses -/

/-- Whether a tick ends with a rising edge of pulse input `i` (R513). -/
def State.pulseEdge (s : State) (pul : BitVec 16) (i : Nat) : Bool :=
  (filterStep (s.fld (Reg.DIO_PIiCFG i) 4 10) (tget (fun _ => 0) s.dio.piFilt i) (s.flag (Reg.DIO_PIiSTAT i) 0) (pul.getLsbD i)).2
    && !s.flag (Reg.DIO_PIiSTAT i) 0

theorem State.pulseTick_pulses (s : State) (pul : BitVec 16) (i : Nat) : (s.pulseTick i (pul.getLsbD i)).dio.pulses
    = s.dio.pulses ++ if s.pulseEdge pul i then [(i, s.chain)] else [] := by
  unfold State.pulseTick
  simp only
  split
  · next h =>
    have hedge : s.pulseEdge pul i = true := by simpa only [State.pulseEdge, Bool.and_eq_true] using h
    rw [hedge, if_pos rfl, State.setFlag_dio]
  · next h =>
    have hedge : s.pulseEdge pul i = false := by
      rw [← Bool.not_eq_true]
      simpa only [State.pulseEdge, Bool.and_eq_true] using h
    rw [hedge, if_neg Bool.false_ne_true, List.append_nil]
    split
    · rw [State.setFlag_dio, State.setFlag_dio]
    · rw [State.setFlag_dio]

/-- What pulse input `j` works on. -/
def State.pulseView (s : State) (j : Nat) : Word × Word × Nat × Nat :=
  (s.reg (Reg.DIO_PIiCFG j), s.reg (Reg.DIO_PIiSTAT j), tget (fun _ => 0) s.dio.piFilt j, s.chain)

theorem State.pulseEdge_of_view {s t : State} {j : Nat} (h : t.pulseView j = s.pulseView j) (pul : BitVec 16) :
    t.pulseEdge pul j = s.pulseEdge pul j := by
  obtain ⟨h1, h2⟩ := Prod.ext_iff.1 h
  obtain ⟨h2, h3⟩ := Prod.ext_iff.1 h2
  obtain ⟨h3, -⟩ := Prod.ext_iff.1 h3
  simp only [State.pulseView] at h1 h2 h3
  simp only [State.pulseEdge, State.flag, State.fld, h1, h2, h3]

theorem piCfg_ne_stat (i j : Nat) : Reg.DIO_PIiSTAT i ≠ Reg.DIO_PIiCFG j := by
  simp only [Reg.DIO_PIiSTAT, Reg.DIO_PIiCFG]; omega

theorem State.pulseTick_chain (s : State) (i : Nat) (raw : Bool) : (s.pulseTick i raw).chain = s.chain := by
  obtain ⟨r, d, h, -⟩ := s.pulseTick_parts i raw
  rw [h]
  rfl

theorem State.pulseTick_piFilt_other (s : State) {i j : Nat} (h : i ≠ j) (raw : Bool) :
    tget (fun _ => 0) (s.pulseTick i raw).dio.piFilt j = tget (fun _ => 0) s.dio.piFilt j := by
  have hset : ∀ n, tget (fun _ => 0) (tset (fun _ => 0) s.dio.piFilt i n) j = tget (fun _ => 0) s.dio.piFilt j := fun n =>
    (tget_tset _ _ _ _ _).trans (if_neg h)
  unfold State.pulseTick
  simp only
  split
  · simp only [State.setFlag_dio, hset]
  · split
    · simp only [State.setFlag_dio, hset]
    · simp only [State.setFlag_dio, hset]

theorem State.pulseTick_view_other (s : State) {i j : Nat} (h : i ≠ j) (raw : Bool) : (s.pulseTick i raw).pulseView j = s.pulseView j := by
  have hstat : Reg.DIO_PIiSTAT i ≠ Reg.DIO_PIiSTAT j := by simp only [Reg.DIO_PIiSTAT]; omega
  simp only [State.pulseView, s.pulseTick_reg_other i _ raw (piCfg_ne_stat i j), s.pulseTick_reg_other i _ raw hstat,
    s.pulseTick_piFilt_other h raw, State.pulseTick_chain]

/-- The passed pulses of a tick, in the inputs' order (R513). -/
theorem State.pulseTicks_pulses (s : State) (pul : BitVec 16) (n : Nat) :
    (s.forN n (fun a i => a.pulseTick i (pul.getLsbD i))).dio.pulses
      = s.dio.pulses ++ ((List.range n).filter (s.pulseEdge pul)).map (fun i => (i, s.chain))
    ∧ ∀ j, n ≤ j → (s.forN n (fun a i => a.pulseTick i (pul.getLsbD i))).pulseView j = s.pulseView j := by
  induction n with
  | zero => exact ⟨by simp [State.forN], fun _ _ => rfl⟩
  | succ n ih =>
    obtain ⟨hp, hv⟩ := ih
    rw [State.forN_succ]
    have hn := hv n (Nat.le_refl n)
    have hedge := State.pulseEdge_of_view hn pul
    have hchain : (s.forN n (fun a i => a.pulseTick i (pul.getLsbD i))).chain = s.chain := (Prod.ext_iff.1 (Prod.ext_iff.1 (Prod.ext_iff.1 hn).2).2).2
    generalize s.forN n (fun a i => a.pulseTick i (pul.getLsbD i)) = a at *
    refine ⟨?_, fun j hj => (a.pulseTick_view_other (by omega) _).trans (hv j (by omega))⟩
    rw [a.pulseTick_pulses pul n, hp, hedge, hchain, List.range_succ, List.filter_append, List.map_append, List.append_assoc]
    congr 2
    cases h : s.pulseEdge pul n <;> simp [h]

/-! ### The tick with the points off -/

theorem ptBase_not_recorded (c : Nat) : Reg.DIO_PT_BASE ∉ inputRecordRegs c := by
  simp only [inputRecordRegs, Reg.DIO_CHcSTAT, Reg.DIO_IN, Reg.DIO_CHcCNT, Reg.DIO_CHcEDGE, Reg.DIO_PT_BASE, List.mem_cons, List.not_mem_nil, or_false]
  omega

theorem State.inputTick_plain (h : s.fld Reg.DIO_PT_BASE 0 16 = 0xFFFF) (c : Nat) (raw : Bool) : OnlyChanges [.regs, .dio] s (s.inputTick c raw) := by
  rw [State.inputTick_eq]
  have hput := (s.setChan_onlyChanges c { s.chan c with filt := (s.inputStep c raw).1, raw := raw }).mono (qs := [.regs, .dio]) (by simp)
  have hbase : (s.setChan c { s.chan c with filt := (s.inputStep c raw).1, raw := raw }).fld Reg.DIO_PT_BASE 0 16 = 0xFFFF := h
  generalize s.setChan c { s.chan c with filt := (s.inputStep c raw).1, raw := raw } = u at *
  split
  · exact hput
  · rw [State.pubDio_of_none]
    · obtain ⟨r, hr⟩ := u.recordInput_eq c ((s.inputStep c raw).2 && !s.flag Reg.DIO_STAT 3)
      rw [hr]
      exact hput.trans (by simp [onlyChanges_iff])
    · exact (State.fld_congr (u.recordInput_reg_other c _ _ (ptBase_not_recorded c)) 0 16).trans hbase

theorem piRegs_not_recorded {c : Nat} (hc : c < 24) (i : Nat) : Reg.DIO_PIiCFG i ∉ inputRecordRegs c ∧ Reg.DIO_PIiSTAT i ∉ inputRecordRegs c := by
  simp only [inputRecordRegs, Reg.DIO_CHcSTAT, Reg.DIO_IN, Reg.DIO_CHcCNT, Reg.DIO_CHcEDGE, Reg.DIO_PIiCFG, Reg.DIO_PIiSTAT, List.mem_cons,
    List.not_mem_nil, or_false]
  omega

/-- The channels' passes leave the pulse inputs, and with the points off nothing but registers and DIO's own part. -/
theorem State.inputPasses_spec (h : s.fld Reg.DIO_PT_BASE 0 16 = 0xFFFF) (raw : BitVec 24) (n : Nat) (hn : n ≤ 24) :
    OnlyChanges [.regs, .dio] s (s.forN n (inputPass raw)) ∧ (s.forN n (inputPass raw)).fld Reg.DIO_PT_BASE 0 16 = 0xFFFF
      ∧ ∀ j, j < 16 → (s.forN n (inputPass raw)).pulseView j = s.pulseView j := by
  induction n with
  | zero => exact ⟨OnlyChanges.refl _ s, h, fun _ _ => rfl⟩
  | succ n ih =>
    obtain ⟨hch, hbase, hview⟩ := ih (by omega)
    rw [State.forN_succ]
    generalize s.forN n (inputPass raw) = a at *
    unfold inputPass
    split
    · have hstep := State.inputTick_plain hbase n (raw.getLsbD n)
      refine ⟨hch.trans hstep, (State.fld_congr (a.inputTick_reg_other n _ _ (ptBase_not_recorded n)) 0 16).trans hbase, fun j hj => ?_⟩
      refine Eq.trans ?_ (hview j hj)
      have hfilt : (a.inputTick n (raw.getLsbD n)).dio.piFilt = a.dio.piFilt := by
        obtain ⟨r, p, m, h⟩ := a.inputTick_parts n (raw.getLsbD n)
        rw [h]
        rfl
      have hchain : (a.inputTick n (raw.getLsbD n)).chain = a.chain := congrArg (fun l => l.pos / 2 ^ 32) (hstep.2.2 .lat (by simp))
      simp only [State.pulseView, hfilt, hchain, a.inputTick_reg_other n _ _ (piRegs_not_recorded (Nat.lt_of_succ_le hn) j).1,
        a.inputTick_reg_other n _ _ (piRegs_not_recorded (Nat.lt_of_succ_le hn) j).2]
    · exact ⟨hch, hbase, hview⟩

end

end Sys2Proof.Machine

/-! PROOFS. Inputs and output commands of DIO, settled. -/

namespace Sys2Proof.Machine

-- One declaration after the other: the stacks of parallel elaboration would count against the memory limit of the check.
set_option Elab.async false

section
variable {s : State} {c : Nat}

/-- The gates of an output command pass (R507). -/
theorem exec_outputCommand_on {t : State} {ps : List Part} {b : Nat} {p : Point} (hup : s.Up) (hen : s.en Blk.DIO = true) (hc : c < 24)
    (hb : b = s.fld Reg.DIO_PT_BASE 0 16) (hbase : b ≠ 0xFFFF) (hmode : s.dioMode c = 2) (hmaster : s.dioMaster c = c)
    (hfollow : s.followsPoint c = true) (hp : p = s.pointFor Blk.DIO (b + 4 * c + 1)) (hv : p.value ≠ 0) (hq : p.quality ≠ Q.UNINIT)
    (ht : s.dioCommand c true none = t) (hch : OnlyChanges ps s t) (hk : Part.key ∉ ps) : exec (.outputCommand c) s = .next t := by
  rw [exec_outputCommand, execOutputCommand]
  refine State.powered_next hup ?_ hch hk
  simp only [← hb, ← hp]
  rw [if_neg (by simp [hen, hbase, hmode, hmaster, hfollow]; omega), ← ht, bne_iff_ne.2 hv, bne_iff_ne.2 hq, Bool.and_self]

theorem State.dioNoted_onlyChanges (s : State) (c : Nat) (v : Bool) (tag : Option Nat) : OnlyChanges [.dio] s (s.dioNoted c v tag) :=
  s.setChan_onlyChanges c _

theorem State.dioNoted_chan (s : State) (c : Nat) (v : Bool) (tag : Option Nat) : (s.dioNoted c v tag).chan c =
    { s.chan c with cmd := some v, waiters := match tag with
      | some t => (s.chan c).waiters ++ [t]
      | none => (s.chan c).waiters } := s.setChan_chan_same c _

theorem State.dioNoted_onlyRegs (s : State) (c : Nat) (v : Bool) (tag : Option Nat) (l : List Nat) : OnlyRegs l s (s.dioNoted c v tag) :=
  OnlyRegs.of_regs_eq ((s.dioNoted_onlyChanges c v tag).2.2 .regs (by simp))

theorem piStat_not_irq (i : Nat) : Reg.DIO_PIiSTAT i ∉ irqRegs Blk.DIO := by
  simp [irqRegs, Reg.IRQ_STAT, Reg.MSIX_PBA, Reg.DIO_PIiSTAT, Blk.DIO]; omega

/-- A fault of a pulse input is shown with its interrupt (R514). -/
theorem State.pulseFault_spec (s : State) (i : Nat) {bit : Nat} (hbit : bit < 32) :
    ((s.setFlag (Reg.DIO_PIiSTAT i) bit true).raiseIrq Blk.DIO 10).flag (Reg.DIO_PIiSTAT i) bit = true
      ∧ ((s.setFlag (Reg.DIO_PIiSTAT i) bit true).raiseIrq Blk.DIO 10).flag (Reg.IRQ_STAT Blk.DIO) 10 = true
      ∧ OnlyChanges [.regs, .out] s ((s.setFlag (Reg.DIO_PIiSTAT i) bit true).raiseIrq Blk.DIO 10)
      ∧ OnlyRegs (Reg.DIO_PIiSTAT i :: irqRegs Blk.DIO) s ((s.setFlag (Reg.DIO_PIiSTAT i) bit true).raiseIrq Blk.DIO 10) := by
  refine ⟨?_, State.raiseIrq_flag_same _ _ _ (by decide), ((s.setFlag_onlyChanges _ _ _).mono (by simp)).trans (State.raiseIrq_onlyChanges _ _ _),
    OnlyRegs.raiseIrq (OnlyRegs.setFlag (OnlyRegs.refl _ s)) (List.subset_cons_self _ _)⟩
  exact (State.flag_congr _ _ _ _ (State.raiseIrq_onlyRegs _ _ _ _ (piStat_not_irq i))).trans (s.setFlag_flag_same _ _ _ hbit)

theorem State.zxPass_some {s0 : State} {key angle : Nat} {half : Bool} (h : s.zxPass key angle half = some s0) :
    s0 = { s with lat := { s.lat with zxCh := tput s.lat.zxCh key s.chain } } ∧ s.atAngle angle half = true := by
  unfold State.zxPass at h
  split at h
  · next hat => exact ⟨(Option.some.inj h).symm, hat.1⟩
  · cases h

/-- The passage has been taken: at the same chainage there is no second one (R127). -/
theorem State.zxPass_again {key angle : Nat} {half : Bool} :
    ({ s with lat := { s.lat with zxCh := tput s.lat.zxCh key s.chain } } : State).zxPass key angle half = none := by
  unfold State.zxPass
  rw [if_neg]
  rintro ⟨-, hne⟩
  exact hne ((tfind?_tput _ _ _ _).trans (if_pos rfl))

theorem State.zxPass_elsewhere {key angle : Nat} (hlt : angle < 65536) (h : s.chain % 65536 ≠ angle) : s.zxPass key angle false = none := by
  unfold State.zxPass
  rw [if_neg]
  rintro ⟨hat, -⟩
  simp [State.atAngle, Nat.mod_eq_of_lt hlt, h] at hat

theorem exec_zxEdge_on {t : State} {ps : List Part} (hup : s.Up) (hc : c < 24) (hrun : s.flag Reg.LAT_STATE 3 = true)
    (hzx : s.flag (Reg.DIO_CHcZX c) 16 = true)
    (ht : (match s.zxPass c (s.fld (Reg.DIO_CHcZX c) 0 16) (s.flag (Reg.DIO_CHcZX c) 17) with
      | none => s
      | some s0 =>
        let s1 := s0.emit (.zxEdge c)
        match (s1.chan c).waiting with
        | some v => if (s1.chan c).takenClk / 10 = s.clk / 10 then s1 else s1.dioDrive c v
        | none => s1) = t) (hch : OnlyChanges ps s t) (hk : Part.key ∉ ps) : exec (.zxEdge c) s = .next t := by
  rw [exec_zxEdge, execZxEdge]
  refine State.powered_next hup ?_ hch hk
  rw [if_neg (by simp [hrun, hzx]; omega)]
  exact ht

end

/-- Settles O43, clause by clause: the tick of the inputs, an owner's command, a zero-crossing edge, DIO_SET and the pulse inputs. -/
theorem inputsAndCommands : Obligations.InputsAndCommands := by
  unfold Obligations.InputsAndCommands
  intro s hup hen
  refine ⟨fun hbase hrev raw pul => ?_, ?_, fun c s0 hc hrun hzx hset => ⟨fun hangle hhalf => ?_, fun hpass => ?_⟩, ?_, fun i hi => ⟨fun htmo hon hoff hdue => ?_, fun htype hoff hdue => ?_⟩⟩
  · obtain ⟨hpasses, -, hview⟩ := State.inputPasses_spec hbase raw 24 (Nat.le_refl 24)
    refine ⟨s.filterTick raw pul, exec_dioFilterTick_of_en s raw pul hup hen, fun c r hc hmode hr => ?_, fun c hc hmode => s.filterTick_chan_other raw pul hmode, ?_, ?_⟩
    · have hstep : s.inputStep c (raw.getLsbD c) = r := by rw [State.inputStep, hrev, hr, Bool.not_false, Bool.and_true]
      have h1 := s.filterTick_input raw pul hc hmode hrev
      have h2 := s.filterTick_num raw pul hc hmode hrev
      rw [hstep] at h1 h2
      exact ⟨h1.1, h1.2, h2⟩
    · obtain ⟨h, -⟩ := (s.forN 24 (inputPass raw)).pulseTicks_pulses pul 16
      have hpulses : (s.forN 24 (inputPass raw)).dio.pulses = s.dio.pulses := State.forN_view_of_keeps (·.dio.pulses) s 24 _ fun a i _ => by
        unfold inputPass
        split
        · obtain ⟨r, p, n, h⟩ := a.inputTick_parts i (raw.getLsbD i)
          rw [h]
          rfl
        · rfl
      have hchain : (s.forN 24 (inputPass raw)).chain = s.chain := congrArg (fun l => l.pos / 2 ^ 32) (hpasses.2.2 .lat (by simp))
      have hedges : (List.range 16).filter ((s.forN 24 (inputPass raw)).pulseEdge pul) = (List.range 16).filter (s.pulseEdge pul) :=
        List.filter_congr fun i hi => State.pulseEdge_of_view (hview i (List.mem_range.1 hi)) pul
      rw [hpulses, hchain, hedges] at h
      exact h
    · refine hpasses.trans (State.forN_onlyChanges 16 fun a i => ?_)
      obtain ⟨r, d, h, -⟩ := a.pulseTick_parts i (pul.getLsbD i)
      simp [h, onlyChanges_iff]
  · intro c b k p x hc hb hbase hmode hmaster hset hclaim hp hv hq hx hw hzx hlat hemu hhif
    have hfollow : s.followsPoint c = true := by simp [State.followsPoint, hclaim, hlat, hemu, hhif]
    have hrun := fun (t : State) (ps : List Part) (ht : s.dioCommand c true none = t) (hch : OnlyChanges ps s t) (hk : Part.key ∉ ps) =>
      exec_outputCommand_on hup hen hc hb hbase hmode hmaster hfollow hp hv hq ht hch hk
    have hnoted := s.dioNoted_onlyChanges c true none
    have hchan := s.dioNoted_chan c true none
    have hregs := s.dioNoted_onlyRegs c true none
    have hcmd := s.dioCommand_eq c true none
    have hma : (s.dioNoted c true none).fieldMa c = s.fieldMa c := rfl
    refine ⟨fun hheld => ?_, fun hfree hma0 => ?_, fun hfree hma0 hgrant hasks => ?_⟩
    · rw [if_pos hheld] at hcmd
      exact hx ▸ hrun _ _ hcmd hnoted (by simp)
    · rw [if_neg (by simp [hfree])] at hcmd
      generalize s.dioNoted c true none = u at *
      rw [State.dioApply_free (by rw [hchan]) (hma.trans hma0)] at hcmd
      obtain ⟨h1, h2, -, h4, h5, -⟩ := State.dioTake_spec (s := u) (c := c)
        ((State.dioSet_of_regs (hregs []) (by simp) c).trans hset) ((State.flag_congr _ _ _ _ (hregs [] _ (by simp))).trans hzx) (by rw [hchan, ← hx]; exact hw) true
      have hall := (hnoted.mono (by simp)).trans h5
      exact ⟨_, hrun _ _ hcmd hall (by simp), by rw [h4, show u.out = s.out from hnoted.2.2 .out (by simp)], h2, by rw [h1], hall⟩
    · rw [if_neg (by simp [hfree])] at hcmd
      have hasks' : (s.dioNoted c true none).arb.fieldAsks = [] := hasks
      have hclk : (s.dioNoted c true none).clk = s.clk := rfl
      generalize s.dioNoted c true none = u at *
      rw [State.dioApply_ask (by rw [hchan]) (by rw [hma]; exact hma0) (by rw [hchan, ← hx]; exact hgrant)] at hcmd
      have hask := u.dioAsk_onlyChanges c
      have hasked : (u.dioAsk c).arb.fieldAsks = u.arb.fieldAsks.filter (fun a => a.channel != c) ++ [⟨c, u.clk⟩] := rfl
      have hchan2 : (u.dioAsk c).chan c = { u.chan c with asking := true } := u.setChan_chan_same c _
      have hall := (hnoted.mono (by simp)).trans hask
      refine ⟨_, hrun _ _ hcmd hall (by simp), ?_, by rw [hchan2], by rw [hchan2, hchan, hx], hall⟩
      rw [hasked, hasks', hclk]
      rfl
  · refine exec_zxEdge_on hup hc hrun hzx ?_ (OnlyChanges.refl [] s) (by simp)
    rw [hhalf, State.zxPass_elsewhere (bitsOf_lt _ _ _) hangle]
  · obtain ⟨rfl, -⟩ := State.zxPass_some hpass
    have hlat : OnlyChanges [.lat] s { s with lat := { s.lat with zxCh := tput s.lat.zxCh c s.chain } } := by simp [onlyChanges_iff]
    have hregs : OnlyRegs [] s ({ s with lat := { s.lat with zxCh := tput s.lat.zxCh c s.chain } } : State) := OnlyRegs.of_regs_eq rfl
    have hagain : ({ s with lat := { s.lat with zxCh := tput s.lat.zxCh c s.chain } } : State).zxPass c (s.fld (Reg.DIO_CHcZX c) 0 16)
        (s.flag (Reg.DIO_CHcZX c) 17) = none := State.zxPass_again
    generalize hs0 : ({ s with lat := { s.lat with zxCh := tput s.lat.zxCh c s.chain } } : State) = u at *
    have huchan : u.chan c = s.chan c := State.chan_congr (hlat.2.2 .dio (by simp)) c
    have huclk : u.clk = s.clk := hlat.2.1
    refine ⟨hlat, fun hwait => ⟨?_, ?_⟩, fun v hwait hclk => ?_⟩
    · refine exec_zxEdge_on hup hc hrun hzx ?_ ((hlat.mono (by simp)).trans ((u.emit_onlyChanges (.zxEdge c)).mono (qs := [.lat, .out]) (by simp))) (by simp)
      rw [hpass]
      have hnone : ((u.emit (.zxEdge c)).chan c).waiting = none := (congrArg DioCh.waiting huchan).trans hwait
      simp only [hnone]
    · have hfld : u.reg (Reg.DIO_CHcZX c) = s.reg (Reg.DIO_CHcZX c) := hregs _ (by simp)
      refine exec_zxEdge_on (State.Up.frame hup hlat) hc ((State.flag_congr _ _ _ _ (hregs _ (by simp))).trans hrun)
        ((State.flag_congr _ _ _ _ hfld).trans hzx) ?_ (OnlyChanges.refl [] u) (by simp)
      rw [State.fld_congr hfld, State.flag_congr _ _ _ _ hfld, hagain]
    · have hemit := u.emit_onlyChanges (.zxEdge c)
      have hregs2 : OnlyRegs [] s (u.emit (.zxEdge c)) := hregs.trans (OnlyRegs.of_regs_eq rfl)
      have hout : (u.emit (.zxEdge c)).out = u.out ++ [.zxEdge c] := rfl
      have hchan2 : (u.emit (.zxEdge c)).chan c = s.chan c := huchan
      obtain ⟨h1, h2, h3, -, h5, h6, -⟩ := State.dioDrive_spec (s := u.emit (.zxEdge c)) (c := c)
        ((State.dioSet_of_regs hregs2 (by simp) c).trans hset) v
      have hall := (hlat.mono (qs := [.regs, .out, .points, .notes, .lat, .dio]) (by simp)).trans ((hemit.mono (by simp)).trans (h6.mono (by simp)))
      refine ⟨_, exec_zxEdge_on hup hc hrun hzx ?_ hall (by simp), ?_, h2, by rw [h1], h3, hall⟩
      · rw [hpass]
        simp only [hchan2, hwait, if_neg hclk]
      · rw [h5, hout, show u.out = s.out from hlat.2.2 .out (by simp), List.append_assoc]
        rfl
  · intro k x c v d hx hserv hc hv hctx
    have hs := State.serves_of_activeOp hserv hx
    refine ⟨fun hmode => ?_, fun hmode hlt hout hmaster hclaim => ⟨fun hblock => ?_, fun hblock hfree hset hw hzx hnow => ?_⟩⟩
    · obtain ⟨hended, hch⟩ := hs.ends (by decide) (OnlyChanges.refl [] s) St.FAIL_DENIED 0
      refine ⟨_, ?_, hended, hch⟩
      rw [exec_dioSet, execDioSet]
      refine State.powered_next hup ?_ hch (by simp)
      simp only [hx]
      rw [if_pos (.inl hmode)]
    · obtain ⟨hended, hch⟩ := hs.ends (by decide) (OnlyChanges.refl [] s) St.FAIL_CONFLICT (conflictWord d)
      refine ⟨_, ?_, hended, hch⟩
      rw [exec_dioSet, execDioSet]
      refine State.powered_next hup ?_ hch (by simp)
      simp only [hx, ← hc, hclaim]
      rw [if_neg (by simp [hmode, hctx]), if_neg (by simp [hout, hmaster]; omega), if_neg hblock]
    · have hnoted := s.dioNoted_onlyChanges c v (some k)
      have hchan := s.dioNoted_chan c v (some k)
      have hregs := s.dioNoted_onlyRegs c v (some k) []
      have hcmd := s.dioCommand_eq c v (some k)
      rw [if_neg (by simp [hfree])] at hcmd
      have hma : (s.dioNoted c v (some k)).fieldMa c = s.fieldMa c := rfl
      generalize s.dioNoted c v (some k) = u at *
      have hsu := hs.frame hnoted
      have huset := (State.dioSet_of_regs hregs (by simp) c).trans hset
      have huzx := (State.flag_congr _ _ (Reg.DIO_CHcZX c) 16 (hregs _ (by simp))).trans hzx
      have huw : (u.chan c).waiters = [k] := by rw [hchan, hw]; rfl
      have huout : u.out = s.out := hnoted.2.2 .out (by simp)
      have hrun : ∀ t, s.dioCommand c v (some k) = t → OnlyChanges [.regs, .out, .points, .notes, .opt, .scn, .arb, .dio] s t →
          exec (.dioSet k) s = .next t := fun t ht hch => by
        rw [exec_dioSet, execDioSet]
        refine State.powered_next hup ?_ hch (by simp)
        simp only [hx, ← hc, ← hv, hclaim]
        rw [if_neg (by simp [hmode, hctx]), if_neg (by simp [hout, hmaster]; omega), if_pos hblock]
        exact ht
      cases v with
      | false =>
        rw [State.dioApply_off (by rw [hchan])] at hcmd
        have hun := u.dioUnask_onlyChanges c
        have hunchan := u.dioUnask_chan c
        generalize u.dioUnask c = w at *
        have hwregs : OnlyRegs [] u w := OnlyRegs.of_regs_eq (hun.2.2 .regs (by simp))
        obtain ⟨h1, h2, h3, h4⟩ := State.dioTake_ends (hsu.frame hun) ((State.dioSet_of_regs hwregs (by simp) c).trans huset)
          ((State.flag_congr _ _ _ _ (hwregs _ (by simp))).trans huzx) (by rw [hunchan]; exact huw) false
        have hall := (hnoted.mono (qs := [.regs, .out, .points, .notes, .opt, .scn, .arb, .dio]) (by simp)).trans ((hun.mono (by simp)).trans (h4.mono (by simp)))
        refine ⟨_, hrun _ hcmd hall, h1, ?_, h2, hall⟩
        rw [h3, show w.out = u.out from hun.2.2 .out (by simp), huout]
      | true =>
        rw [State.dioApply_free (by rw [hchan]) (hma.trans (hnow.resolve_left (by decide)))] at hcmd
        obtain ⟨h1, h2, h3, h4⟩ := State.dioTake_ends hsu huset huzx huw true
        have hall := (hnoted.mono (qs := [.regs, .out, .points, .notes, .opt, .scn, .arb, .dio]) (by simp)).trans (h4.mono (by simp))
        exact ⟨_, hrun _ hcmd hall, h1, by rw [h3, huout], h2, hall⟩
  · obtain ⟨h1, h2, h3, h4⟩ := s.pulseFault_spec i (bit := 2) (by decide)
    refine ⟨_, ?_, h1, h2, h3, h4⟩
    rw [exec_piStuck, execPiStuck]
    refine State.powered_next hup ?_ h3 (by simp)
    simp only
    rw [if_neg (by simp [htmo, hon, hoff]; omega)]
  · obtain ⟨h1, h2, h3, h4⟩ := s.pulseFault_spec i (bit := 1) (by decide)
    refine ⟨_, ?_, h1, h2, h3, h4⟩
    rw [exec_piSupplyFault, execPiSupplyFault]
    refine State.powered_next hup ?_ h3 (by simp)
    rw [if_neg (by simp [hoff]; omega)]

end Sys2Proof.Machine

/-! PROOFS. The registers that a frame of Aethina Link may change on its way into the fabric (R401, R405, R441, R442). -/

namespace Sys2Proof.Machine

-- One declaration after the other: the stacks of parallel elaboration would count against the memory limit of the check.
set_option Elab.async false

/-- A register that queueing a frame in the fabric may change: a port's state and counters, the buffer's, the endpoint's and
FAB's interrupts. -/
def fabSendReg (off : Nat) : Prop :=
  off ∈ Reg.FAB_HALF_LO :: Reg.FAB_HALF_HI :: Reg.FAB_BUF_USED :: Reg.FAB_EPe_DROP 1 :: irqRegs Blk.FAB
    ∨ ∃ p, off = Reg.FAB_PnSTAT p ∨ off = Reg.FAB_PnCNTk p 32 ∨ off = Reg.FAB_PnCNTk p 36

/-- A register that sending a frame of HLK may change. -/
def linkSendReg (off : Nat) : Prop := fabSendReg off ∨ ∃ m, off = Reg.HLK_MBm_TX m

section
variable {s : State} {off : Nat}

theorem State.cnt_reg (h : ¬ fabSendReg off) {p k : Nat} (hk : k = 32 ∨ k = 36) (n : Nat) : (s.cnt p k n).reg off = s.reg off := by
  have hcnt : Reg.FAB_PnCNTk p k ≠ off := fun e => h (.inr ⟨p, hk.elim (fun hk => .inr (.inl (hk ▸ e.symm))) fun hk => .inr (.inr (hk ▸ e.symm))⟩)
  have hlist : off ∉ Reg.FAB_HALF_LO :: Reg.FAB_HALF_HI :: Reg.FAB_BUF_USED :: Reg.FAB_EPe_DROP 1 :: irqRegs Blk.FAB := fun e => h (.inl e)
  have hhalf : (if p < 32 then Reg.FAB_HALF_LO else Reg.FAB_HALF_HI) ≠ off := by
    split
    · exact fun e => hlist (e ▸ List.mem_cons_self)
    · exact fun e => hlist (e ▸ List.mem_cons_of_mem _ List.mem_cons_self)
  have hirq : off ∉ irqRegs Blk.FAB := fun e => hlist (List.mem_cons_of_mem _ (List.mem_cons_of_mem _ (List.mem_cons_of_mem _ (List.mem_cons_of_mem _ e))))
  unfold State.cnt
  simp only
  split
  · exact (State.raiseIrq_onlyRegs _ _ _ _ hirq).trans ((State.setFlag_reg_other _ _ _ _ _ hhalf).trans (s.setNum_reg_other _ _ _ hcnt))
  · exact s.setNum_reg_other _ _ _ hcnt

theorem State.noteQueued_reg (s : State) (p off : Nat) : (s.noteQueued p).reg off = s.reg off := by
  unfold State.noteQueued
  simp only
  split <;> rfl

theorem State.endLpi_reg (h : ¬ fabSendReg off) (p : Nat) : (s.endLpi p).reg off = s.reg off := by
  unfold State.endLpi
  split
  · rfl
  · exact (State.cnt_reg h (.inr rfl) _).trans (s.setFlag_reg_other _ _ _ _ fun e => h (.inr ⟨p, .inl e.symm⟩))

theorem State.noteTxPort_reg (s : State) (op : Option Nat) (p : Nat) (sent : Bool) (off : Nat) : (s.noteTxPort op p sent).reg off = s.reg off := by
  unfold State.noteTxPort
  split <;> rfl

theorem State.enqueue_reg (h : ¬ fabSendReg off) (p cls : Nat) (q : QFrame) : (s.enqueue p cls q).reg off = s.reg off := by
  unfold State.enqueue
  simp only
  split
  · exact s.noteTxPort_reg _ _ _ _
  · split
    · exact (State.noteTxPort_reg _ _ _ _ _).trans (State.cnt_reg h (.inl rfl) _)
    · split
      · exact (State.endLpi_reg h p).trans (State.noteQueued_reg _ _ _)
      · exact State.noteQueued_reg _ _ _

theorem State.noteBuf_reg (h : ¬ fabSendReg off) : s.noteBuf.reg off = s.reg off := by
  have hne : Reg.FAB_BUF_USED ≠ off := fun e => h (.inl (e ▸ by simp))
  exact (State.setFld_reg_other _ _ _ _ _ _ hne).trans (s.setFld_reg_other _ _ _ _ _ hne)

theorem State.forward_reg (h : ¬ fabSendReg off) (ingress vid pcp cls : Nat) (keep reserved : Bool) (op : Option Nat)
    (ptp : Option (Nat × Nat × Nat)) (ports : List Nat) (f : EthFrame) :
    (s.forward ingress vid pcp cls keep reserved op ptp ports f).reg off = s.reg off := by
  unfold State.forward
  simp only
  refine (State.noteBuf_reg h).trans ?_
  have hloop : ∀ (l : List Nat) (a : State) (n : Nat),
      (l.foldl (fun a p => a.enqueue p cls ⟨n, a.retag p vid pcp keep f, ingress, reserved, op, ptp⟩) a).reg off = a.reg off := by
    intro l
    induction l with
    | nil => exact fun _ _ => rfl
    | cons p l ih => exact fun a n => (ih _ n).trans (State.enqueue_reg h p cls _)
  exact hloop ports _ _

theorem State.sendInternal_reg (h : ¬ fabSendReg off) (ptp : Option (Nat × Nat × Nat)) (ports : List Nat) (f : EthFrame) :
    (s.sendInternal 1 ptp ports f).reg off = s.reg off := by
  unfold State.sendInternal
  split
  · exact s.satInc_reg_other _ _ _ _ _ fun e => h (.inl (e ▸ by simp))
  · exact State.forward_reg h _ _ _ _ _ _ _ _ _ _

/-- A frame of HLK's changes registers of FAB alone (R401, R441). -/
theorem State.emitLink_reg (h : ¬ fabSendReg off) (dst type seq flags : Nat) (fields : List Nat) :
    (s.emitLink dst type seq flags fields).reg off = s.reg off := by
  unfold State.emitLink
  simp only
  split
  · exact State.sendInternal_reg h _ _ _
  · exact State.sendInternal_reg h _ _ _

theorem State.setPeer_reg (s : State) (m : Nat) (p : Peer) (h : Reg.HLK_MBm_TX m ≠ off) : (s.setPeer m p).reg off = s.reg off :=
  State.setFld_reg_other _ _ _ _ _ _ h

/-- A reliable frame changes registers of FAB and the count of its member's unacknowledged frames (R405). -/
theorem State.linkSendPart_reg (h : ¬ fabSendReg off) {dst : Nat} (hdst : Reg.HLK_MBm_TX dst ≠ off) (type : Nat) (more : Bool)
    (fields ops : List Nat) : (s.linkSendPart dst type more fields ops).reg off = s.reg off := by
  unfold State.linkSendPart
  split
  · simp only
    split
    · exact (State.emitLink_reg h _ _ _ _ _).trans (s.setPeer_reg dst _ hdst)
    · exact s.setPeer_reg dst _ hdst
  · rfl

theorem State.answerRemote_reg (h : ¬ linkSendReg off) (t status : Nat) (result : Word) : (s.answerRemote t status result).reg off = s.reg off := by
  unfold State.answerRemote
  split
  · next src tg _ => exact State.linkSendPart_reg (fun e => h (.inl e)) (fun e => h (.inr ⟨src, e.symm⟩)) _ _ _ _
  · rfl

/-- The end of an operation changes no register but those of the frame that answers another module (R74, R428). -/
theorem State.decideOp_reg (h : ¬ linkSendReg off) (t status : Nat) (result : Word) : (s.decideOp t status result).reg off = s.reg off := by
  unfold State.decideOp
  simp only
  split
  · exact (State.answerRemote_reg h t status result)
  · rfl

end

end Sys2Proof.Machine

/-! PROOFS. What the output channels of DIO leave of DIO's part, of its status and of open operations (R503, R507, R511, R512). -/

namespace Sys2Proof.Machine

-- One declaration after the other: the stacks of parallel elaboration would count against the memory limit of the check.
set_option Elab.async false

/-! ### Driving a set of any size -/

section
variable {s a : State} {c : Nat} {v : Bool}

/-- One pad of a set driven to a level. -/
def State.drivePad (v : Bool) (a : State) (d : Nat) : State :=
  (((a.setFlag (Reg.DIO_CHcSTAT d) 0 v).setFlag (Reg.DIO_CHcSTAT d) 10 false).emit (.dioOut d v)).pubDio d

theorem State.drivePad_onlyChanges (v : Bool) (a : State) (d : Nat) : OnlyChanges [.regs, .out, .points, .notes] a (a.drivePad v d) :=
  ((a.setFlag_onlyChanges _ _ _).mono (by simp)).trans (((State.setFlag_onlyChanges _ _ _ _).mono (by simp)).trans
    (((State.emit_onlyChanges _ _).mono (by simp)).trans ((State.pubDio_onlyChanges _ _).mono (by simp))))

theorem State.drivePad_reg (v : Bool) (a : State) (d : Nat) {off : Nat} (h : Reg.DIO_CHcSTAT d ≠ off) : (a.drivePad v d).reg off = a.reg off :=
  (State.pubDio_reg _ _ _).trans ((State.setFlag_reg_other _ _ _ _ _ h).trans (a.setFlag_reg_other _ _ _ _ h))

theorem State.drivePad_flag (v : Bool) (a : State) (d e : Nat) {i : Nat} (h0 : i ≠ 0) (h10 : i ≠ 10) :
    (a.drivePad v d).flag (Reg.DIO_CHcSTAT e) i = a.flag (Reg.DIO_CHcSTAT e) i := by
  by_cases h : d = e
  · subst h
    exact (State.flag_congr _ _ _ _ (State.pubDio_reg _ _ _)).trans ((State.setFlag_flag_other _ _ _ _ _ (by decide) h10.symm).trans
      (a.setFlag_flag_other _ _ _ _ (by decide) h0.symm))
  · exact State.flag_congr _ _ _ _ (a.drivePad_reg v d (by simp only [Reg.DIO_CHcSTAT]; omega))

/-- A property that the pads' passes keep holds after all. -/
theorem foldl_keeps {α β : Type} {P : α → Prop} (l : List β) {f : α → β → α} (h : ∀ a b, P a → P (f a b)) {a : α} (ha : P a) : P (l.foldl f a) := by
  induction l generalizing a with
  | nil => exact ha
  | cons b l ih => exact ih (h a b ha)

/-- Driving a master and its followers: the master's channel, and of the registers the set's states alone. -/
theorem State.dioDrive_frame (s : State) (c : Nat) (v : Bool) :
    OnlyChanges [.regs, .out, .points, .notes] (s.setChan c { s.chan c with on := v, waiting := none, takenClk := 0 }) (s.dioDrive c v)
      ∧ (∀ off, (∀ d, Reg.DIO_CHcSTAT d ≠ off) → (s.dioDrive c v).reg off = s.reg off)
      ∧ ∀ e i, i ≠ 0 → i ≠ 10 → (s.dioDrive c v).flag (Reg.DIO_CHcSTAT e) i = s.flag (Reg.DIO_CHcSTAT e) i := by
  have heq : s.dioDrive c v = (s.dioSet c).foldl (State.drivePad v) (s.setChan c { s.chan c with on := v, waiting := none, takenClk := 0 }) := rfl
  rw [heq]
  refine ⟨foldl_keeps (P := OnlyChanges _ _) _ (fun a d ha => ha.trans (a.drivePad_onlyChanges v d)) (OnlyChanges.refl _ _), fun off h => ?_, fun e i h0 h10 => ?_⟩
  · exact foldl_keeps (P := fun a : State => a.reg off = s.reg off) _ (fun a d ha => (a.drivePad_reg v d (h d)).trans ha) rfl
  · exact foldl_keeps (P := fun a : State => a.flag (Reg.DIO_CHcSTAT e) i = s.flag (Reg.DIO_CHcSTAT e) i) _
      (fun a d ha => (a.drivePad_flag v d e h0 h10).trans ha) rfl

theorem State.dioDrive_dio (s : State) (c : Nat) (v : Bool) :
    (s.dioDrive c v).dio = (s.setChan c { s.chan c with on := v, waiting := none, takenClk := 0 }).dio :=
  (s.dioDrive_frame c v).1.2.2 .dio (by simp)

theorem State.dioDrive_chan (s : State) (c : Nat) (v : Bool) (d : Nat) : (s.dioDrive c v).chan d =
    if c = d then { s.chan c with on := v, waiting := none, takenClk := 0 } else s.chan d :=
  (State.chan_congr (s.dioDrive_dio c v) d).trans (s.setChan_chan c d _)

theorem State.dioDrive_onlyChanges (s : State) (c : Nat) (v : Bool) : OnlyChanges [.regs, .out, .points, .notes, .dio] s (s.dioDrive c v) :=
  ((s.setChan_onlyChanges c _).mono (by simp)).trans ((s.dioDrive_frame c v).1.mono (by simp))

end

/-! ### What a command leaves -/

/-- Operation `k` goes on, or has ended OK. -/
def State.GoesOn (s : State) (k : Nat) : Prop := (s.slot k).st = .active ∨ s.Ended k St.OK 0

/-- Between `s` and `t` the channels alone of DIO's own part change, its status stands, and operations that end, end OK. -/
structure DioKeeps (s t : State) : Prop where
  rest : ∃ l, t.dio = { s.dio with chans := l }
  stat : t.reg Reg.DIO_STAT = s.reg Reg.DIO_STAT
  ops : ∀ k, s.GoesOn k → t.GoesOn k

section
variable {s t u : State} {c : Nat}

theorem DioKeeps.refl (s : State) : DioKeeps s s := ⟨⟨_, rfl⟩, rfl, fun _ h => h⟩

theorem DioKeeps.trans (h : DioKeeps s t) (h2 : DioKeeps t u) : DioKeeps s u := by
  obtain ⟨l, hl⟩ := h.rest
  obtain ⟨m, hm⟩ := h2.rest
  exact ⟨⟨m, by rw [hm, hl]⟩, h2.stat.trans h.stat, fun k hk => h2.ops k (h.ops k hk)⟩

theorem State.GoesOn.congr {k : Nat} (h : s.GoesOn k) (ho : t.opt = s.opt) : t.GoesOn k := by
  simpa only [State.GoesOn, State.Ended, State.slot, ho] using h

/-- What changes neither OPT nor more of DIO than the channels. -/
theorem DioKeeps.of_parts {ps : List Part} (hch : OnlyChanges ps s t) (hdio : ∃ l, t.dio = { s.dio with chans := l })
    (hstat : t.reg Reg.DIO_STAT = s.reg Reg.DIO_STAT) (ho : Part.opt ∉ ps := by simp) : DioKeeps s t :=
  ⟨hdio, hstat, fun _ h => h.congr (hch.2.2 .opt ho)⟩

/-- What leaves OPT and DIO's part alone. -/
theorem DioKeeps.of_outside {ps : List Part} (hch : OnlyChanges ps s t) (hstat : t.reg Reg.DIO_STAT = s.reg Reg.DIO_STAT)
    (ho : Part.opt ∉ ps := by simp) (hd : Part.dio ∉ ps := by simp) : DioKeeps s t :=
  DioKeeps.of_parts hch ⟨_, hch.2.2 .dio hd⟩ hstat ho

theorem dioStat_ne_chStat (c : Nat) : Reg.DIO_CHcSTAT c ≠ Reg.DIO_STAT := by simp only [Reg.DIO_CHcSTAT, Reg.DIO_STAT]; omega

theorem State.setChan_keeps (s : State) (c : Nat) (x : DioCh) : DioKeeps s (s.setChan c x) :=
  DioKeeps.of_parts (s.setChan_onlyChanges c x) ⟨_, rfl⟩ rfl

theorem State.setChStat_keeps (s : State) (c i : Nat) (b : Bool) : DioKeeps s (s.setFlag (Reg.DIO_CHcSTAT c) i b) :=
  DioKeeps.of_outside (s.setFlag_onlyChanges _ i b) (s.setFlag_reg_other _ _ _ _ (dioStat_ne_chStat c))

theorem State.pubDio_keeps (s : State) (c : Nat) : DioKeeps s (s.pubDio c) :=
  DioKeeps.of_outside (s.pubDio_onlyChanges c) (s.pubDio_reg c _)

theorem State.dioDrive_keeps (s : State) (c : Nat) (v : Bool) : DioKeeps s (s.dioDrive c v) :=
  (s.setChan_keeps c _).trans (DioKeeps.of_outside (s.dioDrive_frame c v).1 ((s.dioDrive_frame c v).2.1 _ fun d => dioStat_ne_chStat d))

theorem dioStat_not_sent : ¬ linkSendReg Reg.DIO_STAT := by
  rintro (h | ⟨m, h⟩)
  · obtain h | ⟨p, h⟩ := h
    · exact absurd h (by decide)
    · simp only [Reg.FAB_PnSTAT, Reg.FAB_PnCNTk, Reg.DIO_STAT] at h
      omega
  · simp only [Reg.HLK_MBm_TX, Reg.DIO_STAT] at h
    omega

theorem State.decideOk_goesOn (s : State) (t : Nat) {k : Nat} (h : s.GoesOn k) : (s.decideOp t St.OK 0).GoesOn k := by
  by_cases hact : (s.slot t).st = .active
  · by_cases he : t = k
    · subst he
      exact .inr (State.decideOp_ended hact St.OK 0)
    · have hslot := (s.decideOp_slot t k St.OK 0 hact).trans (if_neg he)
      simpa only [State.GoesOn, State.Ended, hslot] using h
  · rw [s.decideOp_of_not_active t St.OK 0 hact]
    exact h

theorem State.dioAnswer_keeps (s : State) (c : Nat) : DioKeeps s (s.dioAnswer c St.OK) := by
  refine foldl_keeps (P := DioKeeps s) _ (fun a t ha => ha.trans ?_) (s.setChan_keeps c _)
  split
  · exact ⟨⟨_, a.decideOp_dio t St.OK 0⟩, State.decideOp_reg dioStat_not_sent t St.OK 0, fun k hk => a.decideOk_goesOn t hk⟩
  · exact ⟨⟨_, rfl⟩, rfl, fun k hk => hk.congr rfl⟩

theorem State.dioTake_keeps (s : State) (c : Nat) (v : Bool) : DioKeeps s (s.dioTake c v) := by
  have h : DioKeeps s ((s.dioTaken c).dioAnswer c St.OK) :=
    ((s.setChan_keeps c _).trans (State.setChStat_keeps _ c 8 false)).trans (State.dioAnswer_keeps _ c)
  unfold State.dioTake
  simp only
  split
  · exact h.trans ((State.setChan_keeps _ c _).trans (State.setChStat_keeps _ c 10 true))
  · exact h.trans (State.dioDrive_keeps _ c v)

theorem State.dioUnask_keeps (s : State) (c : Nat) : DioKeeps s (s.dioUnask c) :=
  (s.setChan_keeps c _).trans (DioKeeps.of_outside (State.withArb_onlyChanges _ _) rfl)

theorem State.dioAsk_keeps (s : State) (c : Nat) : DioKeeps s (s.dioAsk c) :=
  (s.setChan_keeps c _).trans (DioKeeps.of_outside (State.withArb_onlyChanges _ _) rfl)

/-- An owner's command, whether it switches, waits or asks. -/
theorem State.dioApply_keeps (s : State) (c : Nat) : DioKeeps s (s.dioApply c) := by
  unfold State.dioApply
  split
  · exact DioKeeps.refl s
  · exact (s.dioUnask_keeps c).trans (State.dioTake_keeps _ c false)
  · simp only
    split
    · exact s.dioTake_keeps c true
    · exact s.dioAsk_keeps c

end

end Sys2Proof.Machine

/-! PROOFS. Shorts, the logic watchdog and the field die (R509 to R511). -/

namespace Sys2Proof.Machine

-- One declaration after the other: the stacks of parallel elaboration would count against the memory limit of the check.
set_option Elab.async false

/-- The parts that an output's protection may change. -/
abbrev dioParts : List Part := [.regs, .out, .points, .notes, .arb, .dio]

section
variable {s a : State} {c : Nat}

/-! ### A short -/

theorem State.setFieldGrant_onlyChanges (s : State) (c ma : Nat) : OnlyChanges [.regs, .dio] s (s.setFieldGrant c ma) :=
  ((s.setChan_onlyChanges c _).mono (by simp)).trans ((State.setNum_onlyChanges _ _ _).mono (by simp))

theorem State.setFieldGrant_chan (s : State) (c ma : Nat) : (s.setFieldGrant c ma).chan c = { s.chan c with grant := ma } :=
  (State.chan_congr ((State.setNum_onlyChanges _ _ _).2.2 .dio (by simp)) c).trans (s.setChan_chan_same c _)

theorem State.setFieldGrant_reg (s : State) (c ma : Nat) {off : Nat} (h : Reg.ARB_FCcGRANT c ≠ off) : (s.setFieldGrant c ma).reg off = s.reg off :=
  State.setNum_reg_other _ _ _ _ h

theorem fieldGrant_ne {c : Nat} (hc : c < 24) (d : Nat) : Reg.ARB_FCcGRANT c ≠ Reg.DIO_CHcSTAT d := by
  simp only [Reg.ARB_FCcGRANT, Reg.DIO_CHcSTAT]; omega

theorem chStat_not_irq (c : Nat) : Reg.DIO_CHcSTAT c ∉ irqRegs Blk.DIO := by
  simp [irqRegs, Reg.IRQ_STAT, Reg.MSIX_PBA, Reg.DIO_CHcSTAT, Blk.DIO]; omega

/-- A channel cut off after a short: it is off without a grant, and the short is shown (R509). -/
def State.cutOff (s : State) (c : Nat) : State :=
  ((((s.dioUnask c).dioDrive c false).setFieldGrant c 0).setFlag (Reg.DIO_CHcSTAT c) 2 true).raiseIrq Blk.DIO 4

theorem State.cutOff_spec (hc : c < 24) (hset : s.dioSet c = [c]) :
    ((s.cutOff c).chan c).on = false ∧ ((s.cutOff c).chan c).grant = 0
      ∧ (s.cutOff c).flag (Reg.DIO_CHcSTAT c) 0 = false ∧ (s.cutOff c).flag (Reg.DIO_CHcSTAT c) 2 = true
      ∧ (s.cutOff c).flag (Reg.IRQ_STAT Blk.DIO) 4 = true ∧ OnlyChanges dioParts s (s.cutOff c)
      ∧ (∀ off, off ≠ Reg.DIO_CHcSTAT c → off ≠ Reg.ARB_FCcGRANT c → off ∉ irqRegs Blk.DIO → (s.cutOff c).reg off = s.reg off) := by
  unfold State.cutOff
  have hun := s.dioUnask_onlyChanges c
  generalize s.dioUnask c = u at *
  have huregs : OnlyRegs [] s u := OnlyRegs.of_regs_eq (hun.2.2 .regs (by simp))
  obtain ⟨h1, h2, -, -, -, h6, h7⟩ := State.dioDrive_spec (s := u) (c := c) ((State.dioSet_of_regs huregs (by simp) c).trans hset) false
  generalize u.dioDrive c false = w at *
  have hg := w.setFieldGrant_onlyChanges c 0
  have hgc := w.setFieldGrant_chan c 0
  have hgr := fun off (h : Reg.ARB_FCcGRANT c ≠ off) => w.setFieldGrant_reg c 0 h
  generalize w.setFieldGrant c 0 = x at *
  have hf := x.setFlag_onlyChanges (Reg.DIO_CHcSTAT c) 2 true
  have hf0 : (x.setFlag (Reg.DIO_CHcSTAT c) 2 true).flag (Reg.DIO_CHcSTAT c) 0 = x.flag (Reg.DIO_CHcSTAT c) 0 :=
    x.setFlag_flag_other _ _ _ _ (by decide) (by decide)
  have hf2 := x.setFlag_flag_same (Reg.DIO_CHcSTAT c) 2 true (by decide)
  have hfr := fun off (h : Reg.DIO_CHcSTAT c ≠ off) => x.setFlag_reg_other (Reg.DIO_CHcSTAT c) 2 off true h
  generalize x.setFlag (Reg.DIO_CHcSTAT c) 2 true = y at *
  have hi := y.raiseIrq_onlyChanges Blk.DIO 4
  have hir := y.raiseIrq_onlyRegs Blk.DIO 4
  have hst := hir _ (chStat_not_irq c)
  have hchan : (y.raiseIrq Blk.DIO 4).chan c = { w.chan c with grant := 0 } :=
    (State.chan_congr ((hi.2.2 .dio (by simp)).trans (hf.2.2 .dio (by simp))) c).trans hgc
  refine ⟨?_, ?_, ?_, (State.flag_congr _ _ _ _ hst).trans hf2, State.raiseIrq_flag_same _ _ _ (by decide), ?_, fun off h0 h1 h2 => ?_⟩
  · rw [hchan, h1]
  · rw [hchan]
  · exact (State.flag_congr _ _ _ _ hst).trans (hf0.trans ((State.flag_congr _ _ _ _ (hgr _ (fieldGrant_ne hc c))).trans h2))
  · exact (hun.mono (by simp)).trans ((h6.mono (by simp)).trans ((hg.mono (by simp)).trans ((hf.mono (by simp)).trans (hi.mono (by simp)))))
  · exact (hir off h2).trans ((hfr off (Ne.symm h0)).trans ((hgr off (Ne.symm h1)).trans ((h7 off (by simpa using h0)).trans (huregs off (by simp)))))

/-- A short of a channel without RETRY is latched (R509). -/
theorem State.shortCut_spec (hc : c < 24) (hset : s.dioSet c = [c]) (hretry : s.flag (Reg.DIO_CHcCFG c) 5 = false) :
    ((s.shortCut c).chan c).on = false ∧ ((s.shortCut c).chan c).grant = 0
      ∧ (s.shortCut c).flag (Reg.DIO_CHcSTAT c) 0 = false ∧ (s.shortCut c).flag (Reg.DIO_CHcSTAT c) 2 = true
      ∧ (s.shortCut c).flag (Reg.DIO_CHcSTAT c) 9 = true ∧ (s.shortCut c).flag (Reg.IRQ_STAT Blk.DIO) 4 = true
      ∧ OnlyChanges dioParts s (s.shortCut c)
      ∧ (∀ off, off ≠ Reg.DIO_CHcSTAT c → off ≠ Reg.ARB_FCcGRANT c → off ∉ irqRegs Blk.DIO → (s.shortCut c).reg off = s.reg off) := by
  obtain ⟨hon, hgrant, h0, h2, hirq, hch, hregs⟩ := State.cutOff_spec hc hset
  have heq : s.shortCut c = ((((s.cutOff c).setChan c { (s.cutOff c).chan c with retries := s.shortRetries c, limTicks := 0 }).setFlag
      (Reg.DIO_CHcSTAT c) 9 true).pubDio c) := by
    unfold State.shortCut
    simp only [hretry, Bool.false_eq_true, false_and, if_false]
    rfl
  rw [heq]
  generalize s.cutOff c = a at *
  have hput := a.setChan_onlyChanges c { a.chan c with retries := s.shortRetries c, limTicks := 0 }
  have hchan := a.setChan_chan_same c { a.chan c with retries := s.shortRetries c, limTicks := 0 }
  generalize a.setChan c { a.chan c with retries := s.shortRetries c, limTicks := 0 } = b at *
  have hbreg : ∀ off, b.reg off = a.reg off := fun off => State.reg_congr _ _ (hput.2.2 .regs (by simp)) off
  have hf := b.setFlag_onlyChanges (Reg.DIO_CHcSTAT c) 9 true
  have hf9 := b.setFlag_flag_same (Reg.DIO_CHcSTAT c) 9 true (by decide)
  have hfo : ∀ i, i ≠ 9 → (b.setFlag (Reg.DIO_CHcSTAT c) 9 true).flag (Reg.DIO_CHcSTAT c) i = b.flag (Reg.DIO_CHcSTAT c) i :=
    fun i hi => b.setFlag_flag_other _ _ _ _ (by decide) hi.symm
  have hfr := fun off (h : Reg.DIO_CHcSTAT c ≠ off) => b.setFlag_reg_other (Reg.DIO_CHcSTAT c) 9 off true h
  generalize b.setFlag (Reg.DIO_CHcSTAT c) 9 true = d at *
  have hp := d.pubDio_onlyChanges c
  have hpr : ∀ off, (d.pubDio c).reg off = d.reg off := fun off => d.pubDio_reg c off
  have hdchan : (d.pubDio c).chan c = { a.chan c with retries := s.shortRetries c, limTicks := 0 } :=
    (State.chan_congr ((hp.2.2 .dio (by simp)).trans (hf.2.2 .dio (by simp))) c).trans hchan
  have hflag : ∀ i, i ≠ 9 → (d.pubDio c).flag (Reg.DIO_CHcSTAT c) i = a.flag (Reg.DIO_CHcSTAT c) i := fun i hi =>
    (State.flag_congr _ _ _ _ (hpr _)).trans ((hfo i hi).trans (State.flag_congr _ _ _ _ (hbreg _)))
  refine ⟨by rw [hdchan]; exact hon, by rw [hdchan]; exact hgrant, (hflag 0 (by decide)).trans h0, (hflag 2 (by decide)).trans h2,
    (State.flag_congr _ _ _ _ (hpr _)).trans hf9, ?_, ?_, fun off g0 g1 g2 => ?_⟩
  · have hne : Reg.DIO_CHcSTAT c ≠ Reg.IRQ_STAT Blk.DIO := by simp only [Reg.DIO_CHcSTAT, Reg.IRQ_STAT, Blk.DIO]; omega
    exact (State.flag_congr _ _ _ _ ((hpr _).trans ((hfr _ hne).trans (hbreg _)))).trans hirq
  · exact hch.trans ((hput.mono (by simp)).trans ((hf.mono (by simp)).trans (hp.mono (by simp))))
  · exact (hpr _).trans ((hfr off (Ne.symm g0)).trans ((hbreg _).trans (hregs off g0 g1 g2)))

/-! ### The diagnosis of a channel -/

/-- Between `s` and `t` only what a diagnosis shows changes: the channel's ticks, the read-back and the current, and points. -/
structure Diagnosed (c : Nat) (s t : State) : Prop where
  parts : OnlyChanges [.regs, .out, .points, .notes, .dio] s t
  regs : ∀ off, off ≠ Reg.DIO_CHcSTAT c → off ≠ Reg.DIO_OUT → off ∉ irqRegs Blk.DIO → t.reg off = s.reg off

theorem Diagnosed.trans {s t u : State} (h : Diagnosed c s t) (h2 : Diagnosed c t u) : Diagnosed c s u :=
  ⟨h.parts.trans h2.parts, fun off h0 h1 h3 => (h2.regs off h0 h1 h3).trans (h.regs off h0 h1 h3)⟩

theorem Diagnosed.refl (c : Nat) (s : State) : Diagnosed c s s := ⟨OnlyChanges.refl _ s, fun _ _ _ _ => rfl⟩

theorem State.pubDio_diagnosed (s : State) (c d : Nat) : Diagnosed c s (s.pubDio d) :=
  ⟨(s.pubDio_onlyChanges d).mono (by simp), fun off _ _ _ => s.pubDio_reg d off⟩

theorem State.diagBit_diagnosed (s : State) (c bit irq : Nat) (on : Bool) : Diagnosed c s (s.diagBit c bit irq on) := by
  unfold State.diagBit
  split
  · exact Diagnosed.refl c s
  · have hset : Diagnosed c s (s.setFlag (Reg.DIO_CHcSTAT c) bit on) :=
      ⟨(s.setFlag_onlyChanges _ _ _).mono (by simp), fun off h0 _ _ => s.setFlag_reg_other _ _ _ _ (Ne.symm h0)⟩
    simp only
    split
    · exact (hset.trans ⟨(State.raiseIrq_onlyChanges _ _ _).mono (by simp), fun off _ _ h => State.raiseIrq_onlyRegs _ _ _ off h⟩).trans
        (State.pubDio_diagnosed _ c c)
    · exact hset.trans (State.pubDio_diagnosed _ c c)

end

end Sys2Proof.Machine

/-! PROOFS. A diagnosis tick, the logic watchdog, the field die and a retry (R509 to R511, R514). -/

namespace Sys2Proof.Machine

-- One declaration after the other: the stacks of parallel elaboration would count against the memory limit of the check.
set_option Elab.async false

section
variable {s a : State} {c : Nat}

/-- The registers that measuring a channel changes. -/
def measuredRegs (c : Nat) : List Nat := Reg.DIO_CHcSTAT c :: Reg.DIO_OUT :: Reg.DIO_CHcI c :: irqRegs Blk.DIO

/-- A measured channel with its ticks, its pad's level and its current (R509). -/
def State.measured (s : State) (c : Nat) (x : DioCh) (rb : Bool) (ma : Nat) : State :=
  (((s.setChan c x).setFlag (Reg.DIO_CHcSTAT c) 1 rb).setFlag Reg.DIO_OUT c rb).setNum (Reg.DIO_CHcI c) ma

theorem State.measured_spec (s : State) (c : Nat) (x : DioCh) (rb : Bool) (ma : Nat) :
    (s.measured c x rb ma).num (Reg.DIO_CHcI c) = ma % 2 ^ 32 ∧ OnlyChanges [.regs, .dio] s (s.measured c x rb ma)
      ∧ (∀ off, off ∉ measuredRegs c → (s.measured c x rb ma).reg off = s.reg off) := by
  refine ⟨State.setNum_num_same _ _ _, ?_, fun off h => ?_⟩
  · exact ((s.setChan_onlyChanges c x).mono (by simp)).trans (((State.setFlag_onlyChanges _ _ _ _).mono (by simp)).trans
      (((State.setFlag_onlyChanges _ _ _ _).mono (by simp)).trans ((State.setNum_onlyChanges _ _ _).mono (by simp))))
  · simp only [measuredRegs, List.mem_cons, not_or] at h
    obtain ⟨h1, h2, h3, -⟩ := h
    exact (State.setNum_reg_other _ _ _ _ (Ne.symm h3)).trans ((State.setFlag_reg_other _ _ _ _ _ (Ne.symm h2)).trans
      ((State.setFlag_reg_other _ _ _ _ _ (Ne.symm h1)).trans rfl))

theorem State.pubIf_diagnosed (c : Nat) (p : Prop) [Decidable p] : Diagnosed c s (if p then s else s.pubDio c) := by
  split
  · exact Diagnosed.refl c s
  · exact s.pubDio_diagnosed c c

theorem chI_kept (c : Nat) : Reg.DIO_CHcI c ≠ Reg.DIO_CHcSTAT c ∧ Reg.DIO_CHcI c ≠ Reg.DIO_OUT ∧ Reg.DIO_CHcI c ∉ irqRegs Blk.DIO := by
  refine ⟨by simp only [Reg.DIO_CHcI, Reg.DIO_CHcSTAT]; omega, by simp only [Reg.DIO_CHcI, Reg.DIO_OUT]; omega, ?_⟩
  simp [irqRegs, Reg.IRQ_STAT, Reg.MSIX_PBA, Reg.DIO_CHcI, Blk.DIO]; omega

/-- The diagnosis of a switched-on channel whose limit has been active for 20 ticks ends in the short's cut (R509). -/
theorem State.diagChannel_short {m : DioMeas} (hset : s.dioSet c = [c]) (hon : (s.chan c).on = true) (hlim : m.limit = true)
    (hticks : 19 ≤ (s.chan c).limTicks) : ∃ a, s.diagChannel c m = a.shortCut c ∧ a.num (Reg.DIO_CHcI c) = m.ma % 2 ^ 32
      ∧ OnlyChanges [.regs, .out, .points, .notes, .dio] s a ∧ (∀ off, off ∉ measuredRegs c → a.reg off = s.reg off) := by
  have hgroup : ∀ (x : DioCh), (s.setChan c x).dioSet c = [c] := fun x => (State.dioSet_of_regs (l := []) (OnlyRegs.of_regs_eq rfl) (by simp) c).trans hset
  obtain ⟨a1, hdiag1, heq⟩ : ∃ a1, (∃ x rb, Diagnosed c (s.measured c x rb m.ma) a1) ∧ s.diagChannel c m = a1.shortCut c := by
    unfold State.diagChannel
    extract_lets x rb tick lim opn vcc mis s1 s2 s3 s4 s5 s6
    have h2 : s2 = (s1.setFlag (Reg.DIO_CHcSTAT c) 1 rb).setFlag Reg.DIO_OUT c rb := by
      simp only [s2, s1, hgroup, List.foldl_cons, List.foldl_nil]
    obtain ⟨y, h3⟩ : ∃ y, s3 = s.measured c y rb m.ma := by
      refine ⟨{ x with limTicks := lim, openTicks := opn, vccTicks := vcc, misTicks := mis }, ?_⟩
      simp only [s3, h2]
      rfl
    have h4 : Diagnosed c s3 s4 := State.pubIf_diagnosed c _
    have h5 : s5 = s4 := if_neg (by simp [x, hon])
    have h6 : Diagnosed c s5 s6 := ((s5.diagBit_diagnosed c 3 5 _).trans (State.diagBit_diagnosed _ c 4 4 _)).trans (State.diagBit_diagnosed _ c 5 8 _)
    refine ⟨s6, ⟨y, rb, ?_⟩, if_pos ⟨hon, .inl ?_⟩⟩
    · rw [← h3]
      exact h4.trans (h5 ▸ h6)
    · have hlim' : lim = x.limTicks + 1 := if_pos (by simp [x, hon, hlim])
      have hx : x.limTicks = (s.chan c).limTicks := rfl
      omega
  obtain ⟨x, rb, hdiag⟩ := hdiag1
  obtain ⟨hma, hch, hregs⟩ := s.measured_spec c x rb m.ma
  obtain ⟨h1, h2, h3⟩ := chI_kept c
  refine ⟨_, heq, (State.num_congr (hdiag.regs _ h1 h2 h3)).trans hma, (hch.mono (by simp)).trans hdiag.parts, fun off h => ?_⟩
  have hn := h
  simp only [measuredRegs, List.mem_cons, not_or] at hn
  obtain ⟨g1, g2, -, g3⟩ := hn
  exact (hdiag.regs off g1 g2 g3).trans (hregs off h)

/-! ### Putting outputs at their SAFE values -/

/-- What the safe value of channel `c` reads and shows. -/
def State.safeView (s : State) (c : Nat) : DioCh × Bool × Word × Word :=
  (s.chan c, s.flag (Reg.DIO_CHcSTAT c) 6, s.reg (Reg.DIO_CHcCFG c), s.reg (Reg.DIO_GRPg_CFG (c / 4)))

/-- One pass of the entry to safe state (R510). -/
def State.safePass (a : State) (c : Nat) : State :=
  if a.dioMaster c = c then a.dioToSafe c else a.setFlag (Reg.DIO_CHcSTAT c) 6 (a.dioMode c == 2)

theorem State.enterSafe_eq (s : State) : s.enterSafe =
    { s.forN 24 State.safePass with dio := { (s.forN 24 State.safePass).dio with safe := true } } := rfl

theorem chCfg_ne_stat (c d : Nat) : Reg.DIO_CHcSTAT d ≠ Reg.DIO_CHcCFG c := by simp only [Reg.DIO_CHcSTAT, Reg.DIO_CHcCFG]; omega

/-- A channel that is put at its SAFE value, before its pad is driven. -/
def State.safeMarked (s : State) (c : Nat) : State :=
  let s1 := (s.dioUnask c).setFlag (Reg.DIO_CHcSTAT c) 6 true
  s1.setChan c { s1.chan c with waiting := none }

theorem State.safeMarked_chan (s : State) (c d : Nat) : (s.safeMarked c).chan d =
    if c = d then { s.chan c with asking := false, arbCut := false, waiting := none } else s.chan d := by
  have hflag : ∀ d, ((s.dioUnask c).setFlag (Reg.DIO_CHcSTAT c) 6 true).chan d = (s.dioUnask c).chan d := fun d =>
    State.chan_congr ((State.setFlag_onlyChanges _ _ _ _).2.2 .dio (by simp)) d
  refine (State.setChan_chan _ c d _).trans ?_
  split
  · rw [hflag, State.dioUnask_chan]
  · next h => exact (hflag d).trans ((s.setChan_chan c d _).trans (if_neg h))

theorem State.safeMarked_onlyChanges (s : State) (c : Nat) : OnlyChanges dioParts s (s.safeMarked c) :=
  ((s.dioUnask_onlyChanges c).mono (by simp)).trans (((State.setFlag_onlyChanges _ _ _ _).mono (by simp)).trans
    ((State.setChan_onlyChanges _ _ _).mono (by simp)))

theorem State.safeMarked_regs (s : State) (c : Nat) : (s.safeMarked c).regs = ((s.dioUnask c).setFlag (Reg.DIO_CHcSTAT c) 6 true).regs :=
  (State.setChan_onlyChanges _ c _).2.2 .regs (by simp)

theorem State.safeMarked_reg (s : State) (c : Nat) {off : Nat} (h : Reg.DIO_CHcSTAT c ≠ off) : (s.safeMarked c).reg off = s.reg off :=
  (State.reg_congr _ _ (s.safeMarked_regs c) off).trans ((State.setFlag_reg_other _ _ _ _ _ h).trans
    (State.reg_congr _ _ ((s.dioUnask_onlyChanges c).2.2 .regs (by simp)) off))

theorem State.safeMarked_flag (s : State) (c : Nat) : (s.safeMarked c).flag (Reg.DIO_CHcSTAT c) 6 = true :=
  (State.flag_congr _ _ _ _ (State.reg_congr _ _ (s.safeMarked_regs c) _)).trans (State.setFlag_flag_same _ _ _ _ (by decide))

theorem State.dioToSafe_eq (s : State) (c : Nat) : s.dioToSafe c = if s.dioMode c ≠ 2 then s
    else match s.dioSafeValue c with
      | 0 => (s.safeMarked c).dioDrive c false
      | 1 => (s.safeMarked c).dioDrive c true
      | _ => (s.safeMarked c).pubDio c := rfl

theorem safeRegs_ne_stat {d : Nat} (hd : d < 24) (e : Nat) :
    Reg.DIO_CHcSTAT e ≠ Reg.DIO_CHcCFG d ∧ Reg.DIO_CHcSTAT e ≠ Reg.DIO_GRPg_CFG (d / 4) := by
  simp only [Reg.DIO_CHcSTAT, Reg.DIO_CHcCFG, Reg.DIO_GRPg_CFG]; omega

theorem State.safeView_congr {s t : State} {d : Nat} (hchan : t.chan d = s.chan d)
    (hflag : t.flag (Reg.DIO_CHcSTAT d) 6 = s.flag (Reg.DIO_CHcSTAT d) 6) (hcfg : t.reg (Reg.DIO_CHcCFG d) = s.reg (Reg.DIO_CHcCFG d))
    (hgroup : t.reg (Reg.DIO_GRPg_CFG (d / 4)) = s.reg (Reg.DIO_GRPg_CFG (d / 4))) : t.safeView d = s.safeView d := by
  simp only [State.safeView, hchan, hflag, hcfg, hgroup]

theorem State.setChStat_safeView (s : State) {c d : Nat} (h : c ≠ d) (hd : d < 24) (i : Nat) (b : Bool) :
    (s.setFlag (Reg.DIO_CHcSTAT c) i b).safeView d = s.safeView d := by
  have hne : Reg.DIO_CHcSTAT c ≠ Reg.DIO_CHcSTAT d := by simp only [Reg.DIO_CHcSTAT]; omega
  obtain ⟨h1, h2⟩ := safeRegs_ne_stat hd c
  exact State.safeView_congr (State.chan_congr (State.setFlag_dio _ _ _ _) d) (s.setFlag_flag_reg _ _ _ _ _ hne)
    (s.setFlag_reg_other _ _ _ _ h1) (s.setFlag_reg_other _ _ _ _ h2)

/-- A pad driven or published leaves every other channel. -/
theorem State.dioDrive_safeView (s : State) (c : Nat) (v : Bool) {d : Nat} (h : c ≠ d) (hd : d < 24) : (s.dioDrive c v).safeView d = s.safeView d := by
  obtain ⟨-, hreg, hflag⟩ := s.dioDrive_frame c v
  exact State.safeView_congr ((s.dioDrive_chan c v d).trans (if_neg h)) (hflag d 6 (by decide) (by decide))
    (hreg _ fun e => (safeRegs_ne_stat hd e).1) (hreg _ fun e => (safeRegs_ne_stat hd e).2)

theorem State.pubDio_safeView (s : State) (c d : Nat) : (s.pubDio c).safeView d = s.safeView d :=
  State.safeView_congr (State.chan_congr ((s.pubDio_onlyChanges c).2.2 .dio (by simp)) d) (State.flag_congr _ _ _ _ (s.pubDio_reg c _))
    (s.pubDio_reg c _) (s.pubDio_reg c _)

theorem State.safeMarked_safeView (s : State) {c d : Nat} (h : c ≠ d) (hd : d < 24) : (s.safeMarked c).safeView d = s.safeView d := by
  have hne : Reg.DIO_CHcSTAT c ≠ Reg.DIO_CHcSTAT d := by simp only [Reg.DIO_CHcSTAT]; omega
  obtain ⟨h1, h2⟩ := safeRegs_ne_stat hd c
  exact State.safeView_congr ((s.safeMarked_chan c d).trans (if_neg h)) (State.flag_congr _ _ _ _ (s.safeMarked_reg c hne))
    (s.safeMarked_reg c h1) (s.safeMarked_reg c h2)

theorem State.safePass_other (a : State) {c d : Nat} (h : c ≠ d) (hd : d < 24) : (a.safePass c).safeView d = a.safeView d := by
  unfold State.safePass
  split
  · rw [State.dioToSafe_eq]
    split
    · rfl
    · split
      · exact (State.dioDrive_safeView _ c _ h hd).trans (a.safeMarked_safeView h hd)
      · exact (State.dioDrive_safeView _ c _ h hd).trans (a.safeMarked_safeView h hd)
      · exact (State.pubDio_safeView _ c d).trans (a.safeMarked_safeView h hd)
  · exact a.setChStat_safeView h hd 6 _

/-- What an output master shows at its SAFE value (R510). -/
theorem State.safePass_master (hmode : a.dioMode c = 2) (hmaster : a.dioMaster c = c) : (a.safePass c).flag (Reg.DIO_CHcSTAT c) 6 = true
    ∧ (a.dioSafeValue c = 0 → ((a.safePass c).chan c).on = false) ∧ (a.dioSafeValue c = 1 → ((a.safePass c).chan c).on = true)
    ∧ (a.dioSafeValue c = 2 → ((a.safePass c).chan c).on = (a.chan c).on) := by
  have hmark := (a.safeMarked_chan c c).trans (if_pos rfl)
  have hflag := a.safeMarked_flag c
  rw [State.safePass, if_pos hmaster, State.dioToSafe_eq, if_neg (by simp [hmode])]
  generalize a.safeMarked c = b at *
  generalize a.dioSafeValue c = n
  have hdrive : ∀ v, (b.dioDrive c v).flag (Reg.DIO_CHcSTAT c) 6 = true ∧ ((b.dioDrive c v).chan c).on = v := fun v =>
    ⟨((b.dioDrive_frame c v).2.2 c 6 (by decide) (by decide)).trans hflag, by rw [b.dioDrive_chan c v c, if_pos rfl]⟩
  match n with
  | 0 => exact ⟨(hdrive false).1, fun _ => (hdrive false).2, fun h => absurd h (by decide), fun h => absurd h (by decide)⟩
  | 1 => exact ⟨(hdrive true).1, fun h => absurd h (by decide), fun _ => (hdrive true).2, fun h => absurd h (by decide)⟩
  | k + 2 =>
    have hchan : (b.pubDio c).chan c = b.chan c := State.chan_congr ((b.pubDio_onlyChanges c).2.2 .dio (by simp)) c
    exact ⟨(State.flag_congr _ _ _ _ (b.pubDio_reg c _)).trans hflag, fun h => absurd h (by omega), fun h => absurd h (by omega),
      fun _ => (congrArg DioCh.on hchan).trans (by rw [hmark])⟩

theorem State.safePass_onlyChanges (a : State) (c : Nat) : OnlyChanges dioParts a (a.safePass c) := by
  unfold State.safePass
  split
  · rw [State.dioToSafe_eq]
    split
    · exact OnlyChanges.refl _ a
    · split
      · exact (a.safeMarked_onlyChanges c).trans ((State.dioDrive_onlyChanges _ c _).mono (by simp))
      · exact (a.safeMarked_onlyChanges c).trans ((State.dioDrive_onlyChanges _ c _).mono (by simp))
      · exact (a.safeMarked_onlyChanges c).trans ((State.pubDio_onlyChanges _ c).mono (by simp))
  · exact (a.setFlag_onlyChanges _ _ _).mono (by simp)

theorem State.withDio_onlyChanges (s : State) (x : Dio) : OnlyChanges [.dio] s { s with dio := x } := by
  simp [onlyChanges_iff]

theorem State.enterSafe_onlyChanges (s : State) : OnlyChanges dioParts s s.enterSafe := by
  rw [State.enterSafe_eq]
  exact (State.forN_onlyChanges 24 State.safePass_onlyChanges).trans ((State.withDio_onlyChanges _ _).mono (by simp))

/-- Every output master is at its SAFE value (R510). -/
theorem State.enterSafe_master (s : State) {c : Nat} (hc : c < 24) (hmode : s.dioMode c = 2) (hmaster : s.dioMaster c = c) :
    s.enterSafe.flag (Reg.DIO_CHcSTAT c) 6 = true
    ∧ (s.dioSafeValue c = 0 → (s.enterSafe.chan c).on = false) ∧ (s.dioSafeValue c = 1 → (s.enterSafe.chan c).on = true)
    ∧ (s.dioSafeValue c = 2 → (s.enterSafe.chan c).on = (s.chan c).on) := by
  obtain ⟨a, ha, hloop⟩ := s.forN_view_of_one (·.safeView c) 24 c State.safePass hc fun a i hne => a.safePass_other hne hc
  obtain ⟨hchan, ha2⟩ := Prod.ext_iff.1 ha
  obtain ⟨-, ha3⟩ := Prod.ext_iff.1 ha2
  obtain ⟨hcfg, hgroup⟩ := Prod.ext_iff.1 ha3
  simp only [State.safeView] at hchan hcfg hgroup
  obtain ⟨lchan, l2⟩ := Prod.ext_iff.1 hloop
  obtain ⟨lflag, -⟩ := Prod.ext_iff.1 l2
  simp only [State.safeView] at lchan lflag
  have hmode' : a.dioMode c = 2 := (State.fld_congr hcfg 0 2).trans hmode
  have hmaster' : a.dioMaster c = c := by
    have h : a.dioMaster c = s.dioMaster c := by simp only [State.dioMaster, State.fld_congr hgroup 0 2]
    exact h.trans hmaster
  have hvalue : a.dioSafeValue c = s.dioSafeValue c := by simp only [State.dioSafeValue, State.fld_congr hcfg 3 2]
  obtain ⟨h1, h2, h3, h4⟩ := State.safePass_master hmode' hmaster'
  have echan : s.enterSafe.chan c = (a.safePass c).chan c := (State.chan_congr rfl c).trans lchan
  have eflag : s.enterSafe.flag (Reg.DIO_CHcSTAT c) 6 = (a.safePass c).flag (Reg.DIO_CHcSTAT c) 6 := lflag
  rw [echan, eflag, ← hvalue, ← hchan]
  exact ⟨h1, h2, h3, h4⟩

end

end Sys2Proof.Machine

/-! PROOFS. The diagnosis, a short's retry, the logic watchdog and the field die as commands (R509 to R511, R514). -/

namespace Sys2Proof.Machine

-- One declaration after the other: the stacks of parallel elaboration would count against the memory limit of the check.
set_option Elab.async false

section
variable {s : State} {c : Nat}

/-- A tick that measures channel 0 alone (R509). -/
theorem exec_diagTick_short {m : DioMeas} (hup : s.Up) (hmode : s.dioMode 0 = 2) (hmaster : s.dioMaster 0 = 0) (hset : s.dioSet 0 = [0])
    (hon : (s.chan 0).on = true) (hlim : m.limit = true) (hticks : 19 ≤ (s.chan 0).limTicks) (hretry : s.flag (Reg.DIO_CHcCFG 0) 5 = false) :
    ∃ t, exec (.dioDiagTick ⟨[m], []⟩) s = .next t ∧ (t.chan 0).on = false
      ∧ t.flag (Reg.DIO_CHcSTAT 0) 0 = false ∧ t.flag (Reg.DIO_CHcSTAT 0) 2 = true ∧ t.flag (Reg.DIO_CHcSTAT 0) 9 = true
      ∧ (t.chan 0).grant = 0 ∧ t.flag (Reg.IRQ_STAT Blk.DIO) 4 = true ∧ t.num (Reg.DIO_CHcI 0) = m.ma % 2 ^ 32
      ∧ OnlyChanges dioParts s t := by
  obtain ⟨a, heq, hma, hch, hregs⟩ := s.diagChannel_short hset hon hlim hticks
  have hcfg : a.flag (Reg.DIO_CHcCFG 0) 5 = false := (State.flag_congr _ _ _ _ (hregs _ (by decide))).trans hretry
  have hgroups : ∀ g, g < 6 → Reg.DIO_GRPg_CFG g ∉ measuredRegs 0 := by decide
  have hasetr : OnlyRegs (measuredRegs 0) s a := hregs
  obtain ⟨h1, h2, h3, h4, h5, h6, h7, h8⟩ := State.shortCut_spec (by decide) ((State.dioSet_of_regs hasetr hgroups 0).trans hset) hcfg
  have hall := (hch.mono (qs := dioParts) (by simp)).trans h7
  refine ⟨_, ?_, h1, h3, h4, h5, h2, h6, (State.num_congr (h8 _ (by decide) (by decide) (by decide))).trans hma, hall⟩
  rw [exec_dioDiagTick, execDioDiagTick]
  refine State.powered_next hup ?_ hall (by simp)
  show (if s.dioMode 0 = 2 ∧ s.dioMaster 0 = 0 then s.diagChannel 0 m else s) = _
  rw [if_pos ⟨hmode, hmaster⟩, heq]

/-- A pulse input's supply while its limit is active (R514). -/
theorem exec_diagTick_supply (hup : s.Up) (ma : Nat) : ∃ t, exec (.dioDiagTick ⟨[], [(ma, true)]⟩) s = .next t
    ∧ t.fld (Reg.DIO_PIiSTAT 0) 16 16 = Nat.min 0xFFFF ma
    ∧ tget (fun _ => 0) t.dio.piLimit 0 = tget (fun _ => 0) s.dio.piLimit 0 + 1 ∧ OnlyChanges [.regs, .dio] s t := by
  obtain ⟨x, hx, heq⟩ : ∃ x : Dio, tget (fun _ => 0) x.piLimit 0 = tget (fun _ => 0) s.dio.piLimit 0 + 1
      ∧ s.piSupply 0 ma true = ({ s with dio := x } : State).setFld (Reg.DIO_PIiSTAT 0) 16 16 (Nat.min 0xFFFF ma) :=
    ⟨{ s.dio with piLimit := tset (fun _ => 0) s.dio.piLimit 0 (tget (fun _ => 0) s.dio.piLimit 0 + 1) },
      (tget_tset (fun _ => 0) s.dio.piLimit 0 0 (tget (fun _ => 0) s.dio.piLimit 0 + 1)).trans (if_pos rfl), rfl⟩
  have hall : OnlyChanges [.regs, .dio] s (s.piSupply 0 ma true) := by
    rw [heq]
    exact ((s.withDio_onlyChanges x).mono (by simp)).trans ((State.setFld_onlyChanges _ _ _ _ _).mono (by simp))
  refine ⟨_, ?_, ?_, ?_, hall⟩
  · rw [exec_dioDiagTick, execDioDiagTick]
    exact State.powered_next hup rfl hall (by simp)
  · rw [heq, State.setFld_fld_same _ _ _ _ _ (by decide)]
    exact Nat.mod_eq_of_lt (lt_of_le_of_lt (Nat.min_le_left _ _) (by decide))
  · rw [heq]
    exact hx

/-- A channel that its retry marks before it is switched on again. -/
def State.retried (s : State) (c : Nat) : State :=
  (s.setChan c { s.chan c with retryDue := false, retries := s.clk :: s.shortRetries c }).setFlag (Reg.DIO_CHcSTAT c) 2 false

theorem State.retried_spec (s : State) (c : Nat) :
    (s.retried c).chan c = { s.chan c with retryDue := false, retries := s.clk :: s.shortRetries c }
    ∧ (s.retried c).flag (Reg.DIO_CHcSTAT c) 2 = false
    ∧ (∀ i, i ≠ 2 → (s.retried c).flag (Reg.DIO_CHcSTAT c) i = s.flag (Reg.DIO_CHcSTAT c) i)
    ∧ OnlyChanges [.regs, .dio] s (s.retried c) ∧ OnlyRegs [Reg.DIO_CHcSTAT c] s (s.retried c) ∧ DioKeeps s (s.retried c) := by
  refine ⟨?_, State.setFlag_flag_same _ _ _ _ (by decide), fun i hi => (State.setFlag_flag_other _ _ _ _ _ (by decide) hi.symm).trans rfl, ?_, ?_, ?_⟩
  · exact (State.chan_congr (State.setFlag_dio _ _ _ _) c).trans (s.setChan_chan_same c _)
  · exact ((s.setChan_onlyChanges c _).mono (by simp)).trans ((State.setFlag_onlyChanges _ _ _ _).mono (by simp))
  · exact (OnlyRegs.of_regs_eq rfl : OnlyRegs _ s (s.setChan c _)).setFlag
  · exact (s.setChan_keeps c _).trans (State.setChStat_keeps _ c 2 false)

/-- A retry switches a free channel without a budget on again (R507, R509). -/
theorem exec_shortRetry_on (hup : s.Up) (hdue : (s.chan c).retryDue = true) (hclk : (s.chan c).cutClk + 1000 * msClk ≤ s.clk)
    (hsafe : s.dio.safe = false) (hdie : s.dio.dieLost = false) (hshed : s.dio.shed.contains (c / 4) = false) (hrev : s.flag Reg.DIO_STAT 3 = false)
    (hlatch : s.flag (Reg.DIO_CHcSTAT c) 9 = false) (hcmd : (s.chan c).cmd = some true) (hma : s.fieldMa c = 0)
    (hzx : s.flag (Reg.DIO_CHcZX c) 16 = false) (hw : (s.chan c).waiters = []) (hset : s.dioSet c = [c]) :
    ∃ t, exec (.shortRetry c) s = .next t ∧ (t.chan c).on = true ∧ t.flag (Reg.DIO_CHcSTAT c) 2 = false
      ∧ (t.chan c).retryDue = false ∧ (t.chan c).retries = s.clk :: s.shortRetries c
      ∧ t.out = s.out ++ [.dioOut c true] ∧ OnlyChanges [.regs, .out, .points, .notes, .dio] s t := by
  obtain ⟨hchan, h2, hflags, hch, hregs, hkeeps⟩ := s.retried_spec c
  have hgoal : exec (.shortRetry c) s = s.powered fun s => if !(s.chan c).retryDue ∨ s.clk < (s.chan c).cutClk + 1000 * msClk then s
      else if (s.retried c).dioHeld c then (s.retried c).pubDio c else ((s.retried c).dioApply c).pubDio c := rfl
  have hma2 : (s.retried c).fieldMa c = 0 := (congrArg (Nat.min 2000) (State.fld_congr (hregs _ (by
    simp only [Reg.ARB_FCcCFG, Reg.DIO_CHcSTAT, List.mem_singleton]; omega)) 0 12)).trans hma
  generalize hu : s.retried c = u at *
  obtain ⟨l, hl⟩ := hkeeps.rest
  have hfree : u.dioHeld c = false := by
    have hstat : u.flag Reg.DIO_STAT 3 = false := (State.flag_congr _ _ _ _ hkeeps.stat).trans hrev
    have hlatch2 : u.flag (Reg.DIO_CHcSTAT c) 9 = false := (hflags 9 (by decide)).trans hlatch
    simp only [State.dioHeld, hstat, hlatch2, hchan]
    simp only [hl, hsafe, hdie, hshed, Bool.or_false]
  have happly : u.dioApply c = u.dioTake c true := State.dioApply_free (by rw [hchan]; exact hcmd) hma2
  obtain ⟨t1, -, tflags, tout, tch, -⟩ := State.dioTake_spec (s := u) (c := c) ((State.dioSet_of_regs hregs (group_not_dioStat c) c).trans hset)
    ((State.flag_congr _ _ _ _ (hregs _ (dioZx_ne_stat c c))).trans hzx) (by rw [hchan]; exact hw) true
  have hpub := (u.dioTake c true).pubDio_onlyChanges c
  have hall := (hch.mono (qs := [.regs, .out, .points, .notes, .dio]) (by simp)).trans (tch.trans (hpub.mono (by simp)))
  have tchan : ((u.dioTake c true).pubDio c).chan c = (u.dioTake c true).chan c := State.chan_congr (hpub.2.2 .dio (by simp)) c
  refine ⟨_, ?_, ?_, ?_, ?_, ?_, ?_, hall⟩
  · rw [hgoal]
    refine State.powered_next hup ?_ hall (by simp)
    simp only [hu]
    rw [if_neg (by simp [hdue]; omega), if_neg (by simp [hfree]), happly]
  · rw [tchan, t1]
  · exact (State.flag_congr _ _ _ _ (State.pubDio_reg _ c _)).trans ((tflags 2 (by decide) (by decide) (by decide)).trans h2)
  · rw [tchan, t1, hchan]
  · rw [tchan, t1, hchan]
  · rw [show ((u.dioTake c true).pubDio c).out = (u.dioTake c true).out from hpub.2.2 .out (by simp), tout, show u.out = s.out from hch.2.2 .out (by simp)]

/-! ### Safe state -/

/-- The expiry of the logic watchdog puts every output at its SAFE value (R510). -/
theorem exec_logicWdtExpire_due (hup : s.Up) (hen : s.en Blk.DIO = true) (htime : s.fld Reg.DIO_WDT 0 8 ≠ 0) (hrun : s.dio.wdtExpired = false)
    (hdue : s.dio.wdtClk + s.fld Reg.DIO_WDT 0 8 * 10 * msClk ≤ s.clk) (halone : s.Alone) :
    ∃ t, exec .logicWdtExpire s = .next t ∧ t.dio.safe = true ∧ t.dio.wdtExpired = true
      ∧ t.flag Reg.DIO_STAT 4 = true ∧ t.flag (Reg.IRQ_STAT Blk.DIO) 6 = true
      ∧ (∀ c, c < 24 → s.dioMode c = 2 → s.dioMaster c = c → t.flag (Reg.DIO_CHcSTAT c) 6 = true
        ∧ (s.dioSafeValue c = 0 → (t.chan c).on = false) ∧ (s.dioSafeValue c = 1 → (t.chan c).on = true)
        ∧ (s.dioSafeValue c = 2 → (t.chan c).on = (s.chan c).on))
      ∧ OnlyChanges dioParts s t := by
  have hgoal : exec .logicWdtExpire s = s.powered fun s =>
      if s.fld Reg.DIO_WDT 0 8 = 0 ∨ !s.en Blk.DIO ∨ s.dio.wdtExpired ∨ s.clk < s.dio.wdtClk + s.fld Reg.DIO_WDT 0 8 * 10 * msClk then s
      else s.yielding Rank.EXPIRY .logicWdt fun s =>
        { (s.enterSafe.setFlag Reg.DIO_STAT 4 true).raiseIrq Blk.DIO 6 with
          dio := { ((s.enterSafe.setFlag Reg.DIO_STAT 4 true).raiseIrq Blk.DIO 6).dio with wdtExpired := true } } := rfl
  have hmaster := fun c (hc : c < 24) (hmode : s.dioMode c = 2) (hm : s.dioMaster c = c) => s.enterSafe_master hc hmode hm
  have hch := s.enterSafe_onlyChanges
  have hsafe : s.enterSafe.dio.safe = true := rfl
  generalize hu : s.enterSafe = u at *
  have hf := u.setFlag_onlyChanges Reg.DIO_STAT 4 true
  have hf4 := u.setFlag_flag_same Reg.DIO_STAT 4 true (by decide)
  have hfr := fun off (h : Reg.DIO_STAT ≠ off) => u.setFlag_reg_other Reg.DIO_STAT 4 off true h
  generalize hv : u.setFlag Reg.DIO_STAT 4 true = v at *
  have hi := v.raiseIrq_onlyChanges Blk.DIO 6
  have hir := v.raiseIrq_onlyRegs Blk.DIO 6
  have hi6 := v.raiseIrq_flag_same Blk.DIO 6 (by decide)
  generalize hw : v.raiseIrq Blk.DIO 6 = w at *
  have hdio : w.dio = u.dio := (hi.2.2 .dio (by simp)).trans (hf.2.2 .dio (by simp))
  have hend := w.withDio_onlyChanges { w.dio with wdtExpired := true }
  have hall := hch.trans ((hf.mono (by simp)).trans ((hi.mono (by simp)).trans (hend.mono (by simp))))
  refine ⟨{ w with dio := { w.dio with wdtExpired := true } }, ?_, by rw [hdio]; exact hsafe, rfl, ?_, hi6, fun c hc hmode hm => ?_, hall⟩
  · rw [hgoal]
    refine State.powered_next hup ?_ hall (by simp)
    rw [if_neg (by simp [htime, hen, hrun]; omega), State.yielding_of_alone halone]
    simp only [hu, hv, hw]
  · exact (State.flag_congr _ _ _ _ (hir _ (by decide))).trans hf4
  · obtain ⟨h1, h2, h3, h4⟩ := hmaster c hc hmode hm
    have hflag : ({ w with dio := { w.dio with wdtExpired := true } } : State).flag (Reg.DIO_CHcSTAT c) 6 = u.flag (Reg.DIO_CHcSTAT c) 6 :=
      State.flag_congr u w _ _ ((hir _ (chStat_not_irq c)).trans (hfr _ (dioStat_ne_chStat c).symm))
    have hchan : ({ w with dio := { w.dio with wdtExpired := true } } : State).chan c = u.chan c :=
      State.chan_congr (s := u) (t := w) hdio c
    rw [hflag, hchan]
    exact ⟨h1, h2, h3, h4⟩

theorem State.takeWrite_wdtKick {rq : Requester} (h : s.Passes rq Reg.DIO_WDT_KICK) :
    s.takeWrite rq Reg.DIO_WDT_KICK 0 = if s.flag Reg.DIO_WDT 9 then s.kickWdt else s := by
  obtain ⟨r, hr⟩ := Option.isSome_iff_exists.1 (show (regRow? Reg.DIO_WDT_KICK).isSome by decide)
  rw [s.takeWrite_of_passes rq _ 0 r h hr (by decide)]
  rfl

/-- The field die applies the one SAFE value 0 that it stores (R511). -/
theorem exec_fieldDieSafe_one (hstore : s.dio.dieSafe = [(c, 0)]) : ∃ t, exec .fieldDieSafe s = .next t ∧ t.dio.safe = true
    ∧ t.dio.dieLost = true ∧ (t.chan c).on = false ∧ OnlyChanges [.regs, .out, .points, .notes, .dio] s t := by
  have hgoal : exec .fieldDieSafe s = s.always fun s =>
      let s0 := s.forN 24 fun a c => if a.dioMode c = 2 then a.setFlag (Reg.DIO_CHcSTAT c) 6 true else a
      let s1 := s0.dio.dieSafe.foldl (fun a e =>
        if e.2 = 0 then a.dioDrive e.1 false else if e.2 = 1 then a.dioDrive e.1 true else a) s0
      { s1 with dio := { s1.dio with dieLost := true, safe := true } } := rfl
  have hmark : OnlyChanges [.regs] s (s.forN 24 fun a c => if a.dioMode c = 2 then a.setFlag (Reg.DIO_CHcSTAT c) 6 true else a) :=
    State.forN_onlyChanges 24 fun a i => by
      split
      · exact a.setFlag_onlyChanges _ _ _
      · exact OnlyChanges.refl _ a
  generalize hu : s.forN 24 (fun a c => if a.dioMode c = 2 then a.setFlag (Reg.DIO_CHcSTAT c) 6 true else a) = u at *
  have hstored : u.dio.dieSafe = [(c, 0)] := (congrArg Dio.dieSafe (hmark.2.2 .dio (by simp))).trans hstore
  have hdrive := u.dioDrive_onlyChanges c false
  have hchan := (u.dioDrive_chan c false c).trans (if_pos rfl)
  generalize hw : u.dioDrive c false = w at *
  have hall := (hmark.mono (qs := [.regs, .out, .points, .notes, .dio]) (by simp)).trans (hdrive.trans
    ((w.withDio_onlyChanges { w.dio with dieLost := true, safe := true }).mono (by simp)))
  refine ⟨_, ?_, rfl, rfl, ?_, hall⟩
  · rw [hgoal]
    refine State.always_next ?_ hall (by simp)
    simp only [hu, hstored, List.foldl_cons, List.foldl_nil, if_true, hw]
  · exact (congrArg DioCh.on hchan)

end

end Sys2Proof.Machine

/-! PROOFS. The field supply: its level, shedding and restoring (R512). -/

namespace Sys2Proof.Machine

-- One declaration after the other: the stacks of parallel elaboration would count against the memory limit of the check.
set_option Elab.async false

section
variable {s : State} {mv : Int} {g : Nat}

/-! ### The level -/

/-- A sample of the supply up to its counts, without a current sample and outside REV. -/
def State.fieldSampled (s : State) (mv : Int) : State := ((s.setNum Reg.DIO_VFIELD (unsigned 32 mv)).fieldWarn mv).fieldTicks mv none

/-- Whether the supply is below its warning level after a sample. -/
def State.warnsAt (s : State) (mv : Int) : Bool := if mv < 19200 then true else if 19600 < mv then false else s.flag Reg.DIO_STAT 1

theorem State.fieldWarn_spec (s : State) (mv : Int) : (s.fieldWarn mv).flag Reg.DIO_STAT 1 = s.warnsAt mv
    ∧ (∀ i, i ≠ 1 → (s.fieldWarn mv).flag Reg.DIO_STAT i = s.flag Reg.DIO_STAT i)
    ∧ (s.warnsAt mv = true → s.flag Reg.DIO_STAT 1 = false → (s.fieldWarn mv).flag (Reg.IRQ_STAT Blk.DIO) 1 = true)
    ∧ OnlyChanges [.regs, .out] s (s.fieldWarn mv) ∧ OnlyRegs (Reg.DIO_STAT :: irqRegs Blk.DIO) s (s.fieldWarn mv)
    ∧ (s.warnsAt mv = false → OnlyChanges [.regs] s (s.fieldWarn mv) ∧ OnlyRegs [Reg.DIO_STAT] s (s.fieldWarn mv)) := by
  have heq : s.fieldWarn mv = if s.warnsAt mv ∧ !s.flag Reg.DIO_STAT 1 then (s.setFlag Reg.DIO_STAT 1 (s.warnsAt mv)).raiseIrq Blk.DIO 1
      else s.setFlag Reg.DIO_STAT 1 (s.warnsAt mv) := rfl
  rw [heq]
  generalize s.warnsAt mv = now
  have h1 := s.setFlag_flag_same Reg.DIO_STAT 1 now (by decide)
  have ho : ∀ i, i ≠ 1 → (s.setFlag Reg.DIO_STAT 1 now).flag Reg.DIO_STAT i = s.flag Reg.DIO_STAT i := fun i hi =>
    s.setFlag_flag_other _ _ _ _ (by decide) hi.symm
  have hch := s.setFlag_onlyChanges Reg.DIO_STAT 1 now
  have hregs : OnlyRegs [Reg.DIO_STAT] s (s.setFlag Reg.DIO_STAT 1 now) := (OnlyRegs.refl _ s).setFlag
  generalize s.setFlag Reg.DIO_STAT 1 now = a at *
  have hi := a.raiseIrq_onlyRegs Blk.DIO 1
  have hstat := hi Reg.DIO_STAT (by decide)
  by_cases h : now = true ∧ (!s.flag Reg.DIO_STAT 1) = true
  · rw [if_pos h]
    refine ⟨(State.flag_congr _ _ _ _ hstat).trans h1, fun i hi => (State.flag_congr _ _ _ _ hstat).trans (ho i hi), fun _ _ =>
      a.raiseIrq_flag_same Blk.DIO 1 (by decide), (hch.mono (by simp)).trans (a.raiseIrq_onlyChanges _ _),
      (hregs.mono (by simp)).trans (hi.mono (fun off h => List.mem_cons_of_mem _ h)), fun hno => absurd h.1 (by simp [hno])⟩
  · rw [if_neg h]
    refine ⟨h1, ho, fun hnow hoff => absurd ⟨hnow, by simp [hoff]⟩ h, hch.mono (by simp), hregs.mono (by simp), fun _ => ⟨hch, hregs⟩⟩

/-- The registers that a sample of the supply changes. -/
def sampleRegs : List Nat := Reg.DIO_VFIELD :: Reg.DIO_STAT :: irqRegs Blk.DIO

/-- DIO's part after the counts of a sample. -/
def Dio.ticked (d : Dio) (mv : Int) : Dio :=
  { d with low := if mv < 18000 then d.low + 1 else 0, high := if 20000 < mv then d.high + 1 else 0 }

theorem State.fieldSampled_spec (s : State) (mv : Int) : (s.fieldSampled mv).num Reg.DIO_VFIELD = unsigned 32 mv
    ∧ (s.fieldSampled mv).flag Reg.DIO_STAT 1 = s.warnsAt mv
    ∧ (∀ i, i ≠ 1 → (s.fieldSampled mv).flag Reg.DIO_STAT i = s.flag Reg.DIO_STAT i)
    ∧ (s.warnsAt mv = true → s.flag Reg.DIO_STAT 1 = false → (s.fieldSampled mv).flag (Reg.IRQ_STAT Blk.DIO) 1 = true)
    ∧ (s.fieldSampled mv).dio = s.dio.ticked mv
    ∧ OnlyChanges [.regs, .out, .dio] s (s.fieldSampled mv) ∧ OnlyRegs sampleRegs s (s.fieldSampled mv)
    ∧ (s.warnsAt mv = false → OnlyChanges [.regs, .dio] s (s.fieldSampled mv) ∧ OnlyRegs [Reg.DIO_VFIELD, Reg.DIO_STAT] s (s.fieldSampled mv)) := by
  unfold State.fieldSampled
  have hv := s.setNum_num_same Reg.DIO_VFIELD (unsigned 32 mv)
  have hst := s.setNum_reg_other Reg.DIO_VFIELD (unsigned 32 mv) Reg.DIO_STAT (by decide)
  have hch := s.setNum_onlyChanges Reg.DIO_VFIELD (unsigned 32 mv)
  have hr : OnlyRegs [Reg.DIO_VFIELD] s (s.setNum Reg.DIO_VFIELD (unsigned 32 mv)) := (OnlyRegs.refl _ s).setNum
  generalize s.setNum Reg.DIO_VFIELD (unsigned 32 mv) = a at *
  have hflag : ∀ i, a.flag Reg.DIO_STAT i = s.flag Reg.DIO_STAT i := fun i => State.flag_congr _ _ _ _ hst
  have hwarn : a.warnsAt mv = s.warnsAt mv := by simp only [State.warnsAt, hflag]
  obtain ⟨h1, h2, h3, h4, h5, h6⟩ := a.fieldWarn_spec mv
  generalize a.fieldWarn mv = b at *
  have ht := b.withDio_onlyChanges (b.fieldTicks mv none).dio
  have hregs : ∀ off, (b.fieldTicks mv none).reg off = b.reg off := fun _ => rfl
  have hdio : b.dio = s.dio := (h4.2.2 .dio (by simp)).trans (hch.2.2 .dio (by simp))
  have hlt : unsigned 32 mv < 2 ^ 32 := by
    unfold unsigned
    omega
  refine ⟨?_, h1.trans hwarn, fun i hi => (h2 i hi).trans (hflag i), fun hw ho => h3 (hwarn.trans hw) ((hflag 1).trans ho), ?_, ?_, ?_, fun hw => ?_⟩
  · exact (State.num_congr (h5 _ (by decide))).trans (hv.trans (Nat.mod_eq_of_lt hlt))
  · show ({ b.dio with low := _, high := _, overTicks := b.dio.overTicks } : Dio) = _
    rw [hdio]
    rfl
  · exact (hch.mono (by simp)).trans ((h4.mono (by simp)).trans (ht.mono (by simp)))
  · exact (hr.mono (by simp [sampleRegs])).trans (h5.mono (fun off h => List.mem_cons_of_mem _ h))
  · obtain ⟨g1, g2⟩ := h6 (hwarn.trans hw)
    exact ⟨(hch.mono (by simp)).trans ((g1.mono (by simp)).trans (ht.mono (by simp))), (hr.mono (by simp)).trans (g2.mono (by simp))⟩

/-- A sample of the supply without a base for the points and outside REV. -/
theorem exec_vfieldSample_eq {t : State} (hbase : s.fld Reg.DIO_PT_BASE 0 16 = 0xFFFF) (hmv : 0 ≤ mv) (hrev : s.flag Reg.DIO_STAT 3 = false)
    (ht : (let u := (s.fieldSampled mv).fieldAct false
      u.setFlag Reg.DIO_STAT 0 (!u.flag Reg.DIO_STAT 1 && !u.flag Reg.DIO_STAT 3)) = t) (hup : s.Up) :
    exec (.vfieldSample mv none) s = .next (s.guarded t) := by
  have hbase2 : (s.setNum Reg.DIO_VFIELD (unsigned 32 mv)).fld Reg.DIO_PT_BASE 0 16 = 0xFFFF :=
    (State.fld_congr (s.setNum_reg_other _ _ _ (by decide)) 0 16).trans hbase
  have hrev2 : (s.setNum Reg.DIO_VFIELD (unsigned 32 mv)).flag Reg.DIO_STAT 3 = false :=
    (State.flag_congr _ _ _ _ (s.setNum_reg_other _ _ _ (by decide))).trans hrev
  rw [exec_vfieldSample, execVfieldSample, State.powered_run _ _ hup, ← ht]
  have hpoint : (s.setNum Reg.DIO_VFIELD (unsigned 32 mv)).pubPoint Reg.DIO_PT_BASE 96 ((realOfRat mv 1000).setWidth 64) Q.GOOD
      = s.setNum Reg.DIO_VFIELD (unsigned 32 mv) := by
    simp only [State.pubPoint, hbase2, if_true]
  simp only [hpoint, if_neg (show ¬ mv < -1000 by omega), hrev2, Bool.false_eq_true, and_false, if_false, State.fieldSampled, Option.isSome_none]

end

end Sys2Proof.Machine

/-! PROOFS. Shedding and restoring groups of outputs (R512). -/

namespace Sys2Proof.Machine

-- One declaration after the other: the stacks of parallel elaboration would count against the memory limit of the check.
set_option Elab.async false

section
variable {s a : State} {mv : Int} {g c : Nat}

/-! ### Shedding a group -/

/-- Of DIO's own part `e` differs from `d` in the channels alone. -/
def Dio.SameRest (d e : Dio) : Prop := ∃ l, e = { d with chans := l }

theorem Dio.SameRest.refl (d : Dio) : d.SameRest d := ⟨_, rfl⟩

theorem Dio.SameRest.trans {d e f : Dio} (h : d.SameRest e) (h2 : e.SameRest f) : d.SameRest f := by
  obtain ⟨l, rfl⟩ := h
  obtain ⟨m, rfl⟩ := h2
  exact ⟨m, rfl⟩

/-- One channel of a group that is shed (R512). -/
def State.shedPass (a : State) (c : Nat) : State :=
  if a.dioMode c = 2 then
    (((if a.dioMaster c = c then ((a.dioUnask c).dioDrive c false).setFieldGrant c 0 else a).setFlag (Reg.DIO_CHcSTAT c) 7 true).pubDio c)
  else a

theorem State.shedGroup_eq (s : State) (g : Nat) : s.shedGroup g =
    (((({ s with dio := { s.dio with shed := s.dio.shed ++ [g] } } : State).forN 4 fun a k => a.shedPass (4 * g + k)).satInc
      Reg.DIO_SHED_CNT 0 32 1).raiseIrq Blk.DIO 2).noteShed := rfl

/-- A master switched off without its grant. -/
def State.shedOff (a : State) (c : Nat) : State :=
  if a.dioMaster c = c then ((a.dioUnask c).dioDrive c false).setFieldGrant c 0 else a

/-- Between `s` and `t` registers change beside the channels' states, the grants and what a point shows. -/
theorem State.shedOff_spec (a : State) (c : Nat) : OnlyChanges dioParts a (a.shedOff c) ∧ a.dio.SameRest (a.shedOff c).dio
    ∧ (∀ off, (∀ d, Reg.DIO_CHcSTAT d ≠ off) → Reg.ARB_FCcGRANT c ≠ off → (a.shedOff c).reg off = a.reg off)
    ∧ (c < 24 → ∀ d, (a.shedOff c).flag (Reg.DIO_CHcSTAT d) 7 = a.flag (Reg.DIO_CHcSTAT d) 7) := by
  unfold State.shedOff
  split
  · have hun := a.dioUnask_onlyChanges c
    have hshed : a.dio.SameRest (a.dioUnask c).dio := ⟨_, rfl⟩
    have hreg : ∀ off, (a.dioUnask c).reg off = a.reg off := fun _ => rfl
    generalize a.dioUnask c = u at *
    have hd := u.dioDrive_onlyChanges c false
    obtain ⟨-, hdr, hdf⟩ := u.dioDrive_frame c false
    have hdshed : u.dio.SameRest (u.dioDrive c false).dio := ⟨_, (u.dioDrive_dio c false).trans rfl⟩
    generalize u.dioDrive c false = w at *
    refine ⟨(hun.mono (by simp)).trans ((hd.mono (by simp)).trans ((w.setFieldGrant_onlyChanges c 0).mono (by simp))), ?_, fun off h1 h2 => ?_, fun hc d => ?_⟩
    · exact (hshed.trans hdshed).trans ⟨_, rfl⟩
    · exact (w.setFieldGrant_reg c 0 h2).trans ((hdr off h1).trans (hreg off))
    · exact (State.flag_congr _ _ _ _ (w.setFieldGrant_reg c 0 (fieldGrant_ne hc d))).trans ((hdf d 7 (by decide) (by decide)).trans
        (State.flag_congr _ _ _ _ (hreg _)))
  · exact ⟨OnlyChanges.refl _ a, Dio.SameRest.refl _, fun _ _ _ => rfl, fun _ _ => rfl⟩

theorem State.shedPass_eq (a : State) (c : Nat) : a.shedPass c =
    if a.dioMode c = 2 then ((a.shedOff c).setFlag (Reg.DIO_CHcSTAT c) 7 true).pubDio c else a := rfl

theorem State.shedPass_spec (a : State) {c : Nat} (hc : c < 24) : OnlyChanges dioParts a (a.shedPass c) ∧ a.dio.SameRest (a.shedPass c).dio
    ∧ (∀ off, (∀ d, Reg.DIO_CHcSTAT d ≠ off) → Reg.ARB_FCcGRANT c ≠ off → (a.shedPass c).reg off = a.reg off)
    ∧ (∀ d, c ≠ d → (a.shedPass c).flag (Reg.DIO_CHcSTAT d) 7 = a.flag (Reg.DIO_CHcSTAT d) 7)
    ∧ (a.dioMode c = 2 → (a.shedPass c).flag (Reg.DIO_CHcSTAT c) 7 = true) := by
  rw [State.shedPass_eq]
  split
  · obtain ⟨h1, h2, h3, h4⟩ := a.shedOff_spec c
    generalize a.shedOff c = b at *
    have hf := b.setFlag_onlyChanges (Reg.DIO_CHcSTAT c) 7 true
    have hf7 := b.setFlag_flag_same (Reg.DIO_CHcSTAT c) 7 true (by decide)
    have hfr := fun off (h : Reg.DIO_CHcSTAT c ≠ off) => b.setFlag_reg_other (Reg.DIO_CHcSTAT c) 7 off true h
    generalize b.setFlag (Reg.DIO_CHcSTAT c) 7 true = d at *
    have hp := d.pubDio_onlyChanges c
    have hpr := fun off => d.pubDio_reg c off
    refine ⟨h1.trans ((hf.mono (by simp)).trans (hp.mono (by simp))), ?_, fun off g1 g2 => ?_, fun e he => ?_, fun _ => ?_⟩
    · rw [hp.2.2 .dio (by simp), hf.2.2 .dio (by simp)]
      exact h2
    · exact (hpr off).trans ((hfr off (g1 c)).trans (h3 off g1 g2))
    · exact (State.flag_congr _ _ _ _ ((hpr _).trans (hfr _ (by simp only [Reg.DIO_CHcSTAT]; omega)))).trans (h4 hc e)
    · exact (State.flag_congr _ _ _ _ (hpr _)).trans hf7
  · next h => exact ⟨OnlyChanges.refl _ a, Dio.SameRest.refl _, fun _ _ _ => rfl, fun _ _ => rfl, fun hm => absurd hm h⟩

theorem chCfg_kept (d : Nat) {c : Nat} : (∀ e, Reg.DIO_CHcSTAT e ≠ Reg.DIO_CHcCFG d) ∧ Reg.ARB_FCcGRANT c ≠ Reg.DIO_CHcCFG d := by
  refine ⟨fun e => chCfg_ne_stat d e, ?_⟩
  simp only [Reg.ARB_FCcGRANT, Reg.DIO_CHcCFG]; omega

/-- The first `n` channels of a group after its passes. -/
theorem State.shedPasses_spec (s : State) (hg : g < 6) {n : Nat} (hn : n ≤ 4) :
    OnlyChanges dioParts s (s.forN n fun a k => a.shedPass (4 * g + k))
    ∧ s.dio.SameRest (s.forN n fun a k => a.shedPass (4 * g + k)).dio
    ∧ (∀ off, (∀ d, Reg.DIO_CHcSTAT d ≠ off) → (∀ c, c < 24 → Reg.ARB_FCcGRANT c ≠ off) →
      (s.forN n fun a k => a.shedPass (4 * g + k)).reg off = s.reg off)
    ∧ ∀ j, j < n → s.dioMode (4 * g + j) = 2 → (s.forN n fun a k => a.shedPass (4 * g + k)).flag (Reg.DIO_CHcSTAT (4 * g + j)) 7 = true := by
  induction n with
  | zero => exact ⟨OnlyChanges.refl _ s, Dio.SameRest.refl _, fun _ _ _ => rfl, fun j hj => absurd hj (by omega)⟩
  | succ n ih =>
    obtain ⟨h1, h2, h3, h4⟩ := ih (by omega)
    rw [State.forN_succ]
    generalize s.forN n (fun a k => a.shedPass (4 * g + k)) = b at *
    obtain ⟨g1, g2, g3, g4, g5⟩ := b.shedPass_spec (c := 4 * g + n) (by omega)
    refine ⟨h1.trans g1, h2.trans g2, fun off ho hq => (g3 off ho (hq _ (by omega))).trans (h3 off ho hq), fun j hj hm => ?_⟩
    by_cases he : j = n
    · subst he
      refine g5 ((State.fld_congr (h3 _ (chCfg_kept _ (c := 0)).1 fun c _ => (chCfg_kept _).2) 0 2).trans hm)
    · exact (g4 _ (by omega)).trans (h4 j (by omega) hm)

theorem State.noteShed_spec (s : State) : s.noteShed.flag Reg.DIO_STAT 2 = (s.dio.shed != []) ∧ OnlyChanges [.regs] s s.noteShed
    ∧ OnlyRegs [Reg.DIO_STAT] s s.noteShed := by
  refine ⟨State.setFlag_flag_same _ _ _ _ (by decide), ?_, ?_⟩
  · exact (State.setFld_onlyChanges _ _ _ _ _).trans (State.setFlag_onlyChanges _ _ _ _)
  · exact ((OnlyRegs.refl _ s).setFld).setFlag

theorem shedCnt_kept : (∀ d, Reg.DIO_CHcSTAT d ≠ Reg.DIO_SHED_CNT) ∧ ∀ c, c < 24 → Reg.ARB_FCcGRANT c ≠ Reg.DIO_SHED_CNT := by
  refine ⟨fun d => ?_, fun c hc => ?_⟩
  · simp only [Reg.DIO_CHcSTAT, Reg.DIO_SHED_CNT]; omega
  · simp only [Reg.ARB_FCcGRANT, Reg.DIO_SHED_CNT]; omega

/-- A group that is shed (R512). -/
theorem State.shedGroup_spec (s : State) (hg : g < 6) : ({ s.dio with shed := s.dio.shed ++ [g] } : Dio).SameRest (s.shedGroup g).dio
    ∧ (s.shedGroup g).flag (Reg.IRQ_STAT Blk.DIO) 2 = true ∧ (s.shedGroup g).flag Reg.DIO_STAT 2 = true
    ∧ (s.shedGroup g).num Reg.DIO_SHED_CNT = Nat.min (s.num Reg.DIO_SHED_CNT + 1) (2 ^ 32 - 1)
    ∧ (∀ j, j < 4 → s.dioMode (4 * g + j) = 2 → (s.shedGroup g).flag (Reg.DIO_CHcSTAT (4 * g + j)) 7 = true)
    ∧ OnlyChanges dioParts s (s.shedGroup g) := by
  rw [State.shedGroup_eq]
  have hin := s.withDio_onlyChanges { s.dio with shed := s.dio.shed ++ [g] }
  have hmode : ∀ c, ({ s with dio := { s.dio with shed := s.dio.shed ++ [g] } } : State).dioMode c = s.dioMode c := fun _ => rfl
  have hlist : ({ s with dio := { s.dio with shed := s.dio.shed ++ [g] } } : State).dio = { s.dio with shed := s.dio.shed ++ [g] } := rfl
  have hcnt : ({ s with dio := { s.dio with shed := s.dio.shed ++ [g] } } : State).num Reg.DIO_SHED_CNT = s.num Reg.DIO_SHED_CNT := rfl
  generalize ({ s with dio := { s.dio with shed := s.dio.shed ++ [g] } } : State) = u at *
  obtain ⟨h1, h2, h3, h4⟩ := u.shedPasses_spec hg (n := 4) (Nat.le_refl 4)
  generalize u.forN 4 (fun a k => a.shedPass (4 * g + k)) = v at *
  have hs := v.satInc_onlyChanges Reg.DIO_SHED_CNT 0 32 1
  have hsn := v.satInc_num Reg.DIO_SHED_CNT 1
  have hsr := fun off (h : Reg.DIO_SHED_CNT ≠ off) => v.satInc_reg_other Reg.DIO_SHED_CNT 0 32 1 off h
  generalize v.satInc Reg.DIO_SHED_CNT 0 32 1 = w at *
  have hi := w.raiseIrq_onlyChanges Blk.DIO 2
  have hir := w.raiseIrq_onlyRegs Blk.DIO 2
  have hi2 := w.raiseIrq_flag_same Blk.DIO 2 (by decide)
  generalize w.raiseIrq Blk.DIO 2 = x at *
  obtain ⟨n1, n2, n3⟩ := x.noteShed_spec
  have hdio : ({ s.dio with shed := s.dio.shed ++ [g] } : Dio).SameRest x.dio := by
    rw [hi.2.2 .dio (by simp), hs.2.2 .dio (by simp), ← hlist]
    exact h2
  have hshed : x.dio.shed = s.dio.shed ++ [g] := by
    obtain ⟨l, hl⟩ := hdio
    rw [hl]
  refine ⟨by rw [n2.2.2 .dio (by simp)]; exact hdio, (State.flag_congr _ _ _ _ (n3 _ (by decide))).trans hi2, ?_, ?_, fun j hj hm => ?_, ?_⟩
  · rw [n1, hshed]
    simp
  · exact (State.num_congr ((n3 _ (by decide)).trans (hir _ (by decide)))).trans (hsn.trans
      (by rw [State.num_congr (h3 _ shedCnt_kept.1 shedCnt_kept.2), hcnt]))
  · refine (State.flag_congr _ _ _ _ ((n3 _ (by simpa using dioStat_ne_chStat _)).trans ((hir _ (chStat_not_irq _)).trans (hsr _ ?_)))).trans
      (h4 j hj ((hmode _).trans hm))
    exact (shedCnt_kept.1 _).symm
  · exact (hin.mono (by simp)).trans (h1.trans ((hs.mono (by simp)).trans ((hi.mono (by simp)).trans (n2.mono (by simp)))))

/-! ### Restoring a group -/

/-- One channel of a group that is restored (R512). -/
def State.restorePass (a : State) (c : Nat) : State :=
  if a.dioMode c = 2 then
    let a1 := a.setFlag (Reg.DIO_CHcSTAT c) 7 false
    if a1.dioMaster c = c ∧ !a1.dioHeld c then (a1.dioApply c).pubDio c else a1.pubDio c
  else a

theorem State.restorePass_keeps (a : State) (c : Nat) : DioKeeps a (a.restorePass c) := by
  unfold State.restorePass
  split
  · simp only
    split
    · exact (a.setChStat_keeps c 7 false).trans ((State.dioApply_keeps _ c).trans (State.pubDio_keeps _ c))
    · exact (a.setChStat_keeps c 7 false).trans (State.pubDio_keeps _ c)
  · exact DioKeeps.refl a

/-- The last group restored (R512). -/
theorem State.restoreGroup_last (hshed : s.dio.shed = [g]) (htags : s.dio.restoreTags = []) : s.restoreGroup.dio.shed = []
    ∧ s.restoreGroup.flag (Reg.IRQ_STAT Blk.DIO) 3 = true ∧ s.restoreGroup.flag Reg.DIO_STAT 2 = false := by
  obtain ⟨s1, hkeeps, heq⟩ : ∃ s1, DioKeeps { s with dio := { s.dio with shed := [] } } s1 ∧ s.restoreGroup = (let s2 := s1.noteShed
      if s2.dio.shed.isEmpty then
        let s3 := s2.raiseIrq Blk.DIO 3
        let s4 := s3.dio.restoreTags.foldl (fun a t => a.decideOp t St.OK 0) s3
        { s4 with dio := { s4.dio with restoreTags := [] } }
      else s2) := by
    refine ⟨(List.range 4).foldl (fun a k => a.restorePass (4 * g + k)) { s with dio := { s.dio with shed := [] } },
      foldl_keeps (P := DioKeeps _) _ (fun a k ha => ha.trans (a.restorePass_keeps _)) (DioKeeps.refl _), ?_⟩
    simp only [State.restoreGroup, hshed, List.getLast?_singleton, List.dropLast_singleton]
    rfl
  obtain ⟨l, hl⟩ := hkeeps.rest
  have hempty : s1.dio.shed = [] := by rw [hl]
  have htags1 : s1.dio.restoreTags = [] := by rw [hl]; exact htags
  obtain ⟨n1, n2, n3⟩ := s1.noteShed_spec
  have hdio := n2.2.2 .dio (by simp)
  rw [heq]
  simp only
  have hd : s1.noteShed.dio = s1.dio := hdio
  generalize s1.noteShed = s2 at *
  have hi := s2.raiseIrq_onlyChanges Blk.DIO 3
  have hi3 := s2.raiseIrq_flag_same Blk.DIO 3 (by decide)
  have hir := s2.raiseIrq_onlyRegs Blk.DIO 3 Reg.DIO_STAT (by decide)
  rw [if_pos (by rw [hd, hempty]; rfl)]
  generalize s2.raiseIrq Blk.DIO 3 = s3 at *
  have hd3 : s3.dio = s1.dio := (hi.2.2 .dio (by simp)).trans hd
  rw [congrArg Dio.restoreTags hd3, htags1, List.foldl_nil]
  refine ⟨(congrArg Dio.shed hd3).trans hempty, hi3, (State.flag_congr s2 s3 _ _ hir).trans (n1.trans ?_)⟩
  rw [hempty]
  rfl

end

end Sys2Proof.Machine

/-! PROOFS. A sample of the field supply (R512). -/

namespace Sys2Proof.Machine

-- One declaration after the other: the stacks of parallel elaboration would count against the memory limit of the check.
set_option Elab.async false

section
variable {s t : State} {mv : Int} {g : Nat}

theorem sampleRegs_below {off : Nat} (h : 0x440200 ≤ off) : off ∉ sampleRegs := by
  simp only [sampleRegs, irqRegs, Reg.IRQ_STAT, Reg.MSIX_PBA, Reg.DIO_VFIELD, Reg.DIO_STAT, Blk.DIO, List.mem_cons, List.not_mem_nil, or_false]
  omega

theorem State.nextShed_congr (h : OnlyRegs sampleRegs s t) (hshed : t.dio.shed = s.dio.shed) : t.nextShed = s.nextShed := by
  have hmode : ∀ c, t.dioMode c = s.dioMode c := fun c =>
    State.fld_congr (h _ (sampleRegs_below (by simp only [Reg.DIO_CHcCFG]; omega))) 0 2
  have hrank : ∀ g, t.fld (Reg.DIO_GRPg_CFG g) 4 3 = s.fld (Reg.DIO_GRPg_CFG g) 4 3 := fun g =>
    State.fld_congr (h _ (sampleRegs_below (by simp only [Reg.DIO_GRPg_CFG]; omega))) 4 3
  simp only [State.nextShed, State.groupOut, hmode, hrank, hshed]

/-- Of the group found so far and the next one, the one to shed first. -/
def State.lowerRank (s : State) (m : Option Nat) (g : Nat) : Option Nat :=
  match m with
  | none => some g
  | some b => if s.fld (Reg.DIO_GRPg_CFG g) 4 3 < s.fld (Reg.DIO_GRPg_CFG b) 4 3 then some g else some b

theorem State.nextShed_eq (s : State) :
    s.nextShed = ((List.range 6).filter fun g => s.groupOut g && !s.dio.shed.contains g).foldl s.lowerRank none := rfl

theorem State.lowerRank_mem {m : Option Nat} {x b : Nat} (h : s.lowerRank m x = some b) : b = x ∨ m = some b := by
  cases m with
  | none => exact .inl (Option.some.inj h).symm
  | some y =>
    simp only [State.lowerRank] at h
    split at h
    · exact .inl (Option.some.inj h).symm
    · exact .inr h

theorem State.foldl_lowerRank_mem (l : List Nat) {m : Option Nat} {b : Nat} (h : l.foldl s.lowerRank m = some b) : b ∈ l ∨ m = some b := by
  induction l generalizing m with
  | nil => exact .inr h
  | cons x l ih =>
    obtain hl | hm := ih h
    · exact .inl (List.mem_cons_of_mem _ hl)
    · exact (State.lowerRank_mem hm).imp (fun (e : b = x) => e ▸ List.mem_cons_self) id

/-- The groups to shed are those of the module. -/
theorem State.nextShed_lt (h : s.nextShed = some g) : g < 6 := by
  rw [State.nextShed_eq] at h
  obtain hmem | hnone := State.foldl_lowerRank_mem _ h
  · exact List.mem_range.1 (List.mem_filter.1 hmem).1
  · exact absurd hnone (by simp)

/-- Neither shedding nor restoring while the counts are below their limits. -/
theorem State.fieldAct_idle (hlow : s.dio.low = 0) (hhigh : s.dio.high = 0 ∨ (s.dio.shed = [])) : s.fieldAct false = s := by
  unfold State.fieldAct
  simp only [hlow, Bool.false_eq_true, false_and, if_false, Nat.not_lt_zero]
  rw [if_neg]
  rintro ⟨-, hne, hfrom, -⟩
  obtain h | h := hhigh
  · rw [h] at hfrom
    split at hfrom <;> omega
  · exact hne h

/-- The state that a sample shows at its end. -/
def State.fieldShown (s : State) : State := s.setFlag Reg.DIO_STAT 0 (!s.flag Reg.DIO_STAT 1 && !s.flag Reg.DIO_STAT 3)

theorem State.fieldShown_spec (s : State) : s.fieldShown.flag Reg.DIO_STAT 0 = (!s.flag Reg.DIO_STAT 1 && !s.flag Reg.DIO_STAT 3)
    ∧ (∀ i, i ≠ 0 → s.fieldShown.flag Reg.DIO_STAT i = s.flag Reg.DIO_STAT i)
    ∧ OnlyChanges [.regs] s s.fieldShown ∧ OnlyRegs [Reg.DIO_STAT] s s.fieldShown :=
  ⟨s.setFlag_flag_same _ _ _ (by decide), fun _ hi => s.setFlag_flag_other _ _ _ _ (by decide) hi.symm,
    s.setFlag_onlyChanges _ _ _, (OnlyRegs.refl _ s).setFlag⟩

theorem exec_vfieldSample_shown (hup : s.Up) (hbase : s.fld Reg.DIO_PT_BASE 0 16 = 0xFFFF) (hmv : 0 ≤ mv) (hrev : s.flag Reg.DIO_STAT 3 = false)
    (ht : (s.fieldSampled mv).fieldAct false = t) : exec (.vfieldSample mv none) s = .next (s.guarded t.fieldShown) :=
  exec_vfieldSample_eq hbase hmv hrev (by rw [← ht]; rfl) hup

/-- A good supply with nothing shed (R512). -/
theorem exec_vfieldSample_good (hup : s.Up) (hbase : s.fld Reg.DIO_PT_BASE 0 16 = 0xFFFF) (hrev : s.flag Reg.DIO_STAT 3 = false)
    (hlo : 19600 < mv) (hhi : mv < 100000) (hshed : s.dio.shed = []) : ∃ t, exec (.vfieldSample mv none) s = .next t
    ∧ t.num Reg.DIO_VFIELD = mv.toNat ∧ t.flag Reg.DIO_STAT 0 = true ∧ t.flag Reg.DIO_STAT 1 = false ∧ t.dio.low = 0
    ∧ OnlyChanges [.regs, .dio] s t ∧ OnlyRegs [Reg.DIO_VFIELD, Reg.DIO_STAT] s t := by
  obtain ⟨h1, h2, h3, -, h5, -, -, h8⟩ := s.fieldSampled_spec mv
  have hwarn : s.warnsAt mv = false := by
    rw [State.warnsAt, if_neg (by omega), if_pos hlo]
  obtain ⟨hch, hregs⟩ := h8 hwarn
  have hlow : (s.dio.ticked mv).low = 0 := if_neg (by omega)
  have hidle : (s.fieldSampled mv).fieldAct false = s.fieldSampled mv := State.fieldAct_idle (by rw [h5, hlow]) (.inr (by rw [h5]; exact hshed))
  have hrun := exec_vfieldSample_shown hup hbase (by omega) hrev hidle
  generalize s.fieldSampled mv = u at *
  obtain ⟨g1, g2, g3, g4⟩ := u.fieldShown_spec
  have hall := hch.trans (g3.mono (by simp))
  rw [hall.guarded_eq (by simp)] at hrun
  refine ⟨_, hrun, ?_, ?_, (g2 1 (by decide)).trans (h2.trans hwarn), ?_, hall, hregs.trans (g4.mono (by simp))⟩
  · rw [State.num_congr (g4 _ (by decide)), h1]
    unfold unsigned
    omega
  · rw [g1, h2, hwarn, h3 3 (by decide), hrev]
    rfl
  · rw [show u.fieldShown.dio = u.dio from g3.2.2 .dio (by simp), h5, hlow]

/-- A supply that falls below its warning level (R512). -/
theorem exec_vfieldSample_warns (hup : s.Up) (hbase : s.fld Reg.DIO_PT_BASE 0 16 = 0xFFFF) (hrev : s.flag Reg.DIO_STAT 3 = false)
    (hhi : mv < 19200) (hlo : 18000 ≤ mv) (hwas : s.flag Reg.DIO_STAT 1 = false) : ∃ t, exec (.vfieldSample mv none) s = .next t
    ∧ t.flag Reg.DIO_STAT 1 = true ∧ t.flag Reg.DIO_STAT 0 = false ∧ t.flag (Reg.IRQ_STAT Blk.DIO) 1 = true
    ∧ t.dio.shed = s.dio.shed ∧ OnlyChanges [.regs, .out, .dio] s t := by
  obtain ⟨-, h2, h3, h4, h5, h6, -, -⟩ := s.fieldSampled_spec mv
  have hwarn : s.warnsAt mv = true := if_pos hhi
  have hirq := h4 hwarn hwas
  have hlow : (s.dio.ticked mv).low = 0 := if_neg (by omega)
  have hhigh : (s.dio.ticked mv).high = 0 := if_neg (by omega)
  have hidle : (s.fieldSampled mv).fieldAct false = s.fieldSampled mv := State.fieldAct_idle (by rw [h5, hlow]) (.inl (by rw [h5, hhigh]))
  have hrun := exec_vfieldSample_shown hup hbase (by omega) hrev hidle
  generalize s.fieldSampled mv = u at *
  obtain ⟨g1, g2, g3, g4⟩ := u.fieldShown_spec
  have hall := h6.trans (g3.mono (by simp))
  rw [hall.guarded_eq (by simp)] at hrun
  refine ⟨_, hrun, (g2 1 (by decide)).trans (h2.trans hwarn), ?_, (State.flag_congr _ _ _ _ (g4 _ (by decide))).trans hirq, ?_, hall⟩
  · rw [g1, h2, hwarn]
    rfl
  · rw [show u.fieldShown.dio = u.dio from g3.2.2 .dio (by simp), h5]
    rfl

/-- The 102nd sample below 18 V sheds the next group (R512). -/
theorem exec_vfieldSample_sheds (hup : s.Up) (hbase : s.fld Reg.DIO_PT_BASE 0 16 = 0xFFFF) (hrev : s.flag Reg.DIO_STAT 3 = false) (hmv : 0 ≤ mv)
    (hlt : mv < 18000) (hcount : s.dio.low = 101) (hnext : s.nextShed = some g) : ∃ t, exec (.vfieldSample mv none) s = .next t
    ∧ t.dio.shed = s.dio.shed ++ [g] ∧ t.flag (Reg.IRQ_STAT Blk.DIO) 2 = true ∧ t.flag Reg.DIO_STAT 2 = true
    ∧ t.num Reg.DIO_SHED_CNT = Nat.min (s.num Reg.DIO_SHED_CNT + 1) (2 ^ 32 - 1)
    ∧ (∀ j, j < 4 → s.dioMode (4 * g + j) = 2 → t.flag (Reg.DIO_CHcSTAT (4 * g + j)) 7 = true)
    ∧ OnlyChanges dioParts s t := by
  obtain ⟨-, -, -, -, h5, h6, h7, -⟩ := s.fieldSampled_spec mv
  have hg := State.nextShed_lt hnext
  have hlow : (s.fieldSampled mv).dio.low = 102 := by
    rw [h5]
    exact (if_pos hlt).trans (by rw [hcount])
  have hhigh : (s.fieldSampled mv).dio.high = 0 := by
    rw [h5]
    exact if_neg (by omega)
  have hshed : (s.fieldSampled mv).dio.shed = s.dio.shed := by
    rw [h5]
    rfl
  have hnext2 := (State.nextShed_congr h7 hshed).trans hnext
  have hmode : ∀ c, (s.fieldSampled mv).dioMode c = s.dioMode c := fun c =>
    State.fld_congr (h7 _ (sampleRegs_below (by simp only [Reg.DIO_CHcCFG]; omega))) 0 2
  have hcnt : (s.fieldSampled mv).num Reg.DIO_SHED_CNT = s.num Reg.DIO_SHED_CNT := State.num_congr (h7 _ (by decide))
  obtain ⟨k1, k2, k3, k4, k5, k6⟩ := (s.fieldSampled mv).shedGroup_spec hg
  have hact : (s.fieldSampled mv).fieldAct false = (s.fieldSampled mv).shedGroup g := by
    have hhigh2 : ((s.fieldSampled mv).shedGroup g).dio.high = 0 := by
      obtain ⟨l, hl⟩ := k1
      rw [hl]
      exact hhigh
    unfold State.fieldAct
    simp only [hlow, Bool.false_eq_true, false_and, if_false, show 101 < 102 ∧ (102 - 102) % 10 = 0 by omega, and_self, if_true,
      State.shedNext, hnext2]
    rw [if_neg]
    rintro ⟨-, -, hfrom, -⟩
    rw [hhigh2] at hfrom
    split at hfrom <;> omega
  have hrun := exec_vfieldSample_shown hup hbase hmv hrev hact
  generalize s.fieldSampled mv = u at *
  generalize u.shedGroup g = v at *
  obtain ⟨-, g2, g3, g4⟩ := v.fieldShown_spec
  have hall := (h6.mono (qs := dioParts) (by simp)).trans (k6.trans (g3.mono (by simp)))
  rw [hall.guarded_eq (by simp)] at hrun
  refine ⟨_, hrun, ?_, (State.flag_congr _ _ _ _ (g4 _ (by decide))).trans k2, (g2 2 (by decide)).trans k3, ?_, fun j hj hm => ?_, hall⟩
  · obtain ⟨l, hl⟩ := k1
    rw [show v.fieldShown.dio = v.dio from g3.2.2 .dio (by simp), hl, hshed]
  · rw [State.num_congr (g4 _ (by decide)), k4, hcnt]
  · exact (State.flag_congr _ _ _ _ (g4 _ (by simpa using dioStat_ne_chStat _))).trans (k5 j hj ((hmode _).trans hm))

/-- The 1000th sample above 20 V restores the last shed group (R512). -/
theorem exec_vfieldSample_restores (hup : s.Up) (hbase : s.fld Reg.DIO_PT_BASE 0 16 = 0xFFFF) (hrev : s.flag Reg.DIO_STAT 3 = false)
    (hgt : 20000 < mv) (hcount : s.dio.high = 999) (hshed : s.dio.shed = [g]) (htags : s.dio.restoreTags = [])
    (hauto : s.flag Reg.DIO_SAG_CFG 0 = true) : ∃ t, exec (.vfieldSample mv none) s = .next t
    ∧ t.dio.shed = [] ∧ t.flag (Reg.IRQ_STAT Blk.DIO) 3 = true ∧ t.flag Reg.DIO_STAT 2 = false := by
  obtain ⟨-, -, h3, -, h5, -, h7, -⟩ := s.fieldSampled_spec mv
  have hlow : (s.fieldSampled mv).dio.low = 0 := by
    rw [h5]
    exact if_neg (by omega)
  have hhigh : (s.fieldSampled mv).dio.high = 1000 := by
    rw [h5]
    exact (if_pos hgt).trans (by rw [hcount])
  have hshed2 : (s.fieldSampled mv).dio.shed = [g] := by
    rw [h5]
    exact hshed
  have htags2 : (s.fieldSampled mv).dio.restoreTags = [] := by
    rw [h5]
    exact htags
  have hauto2 : (s.fieldSampled mv).flag Reg.DIO_SAG_CFG 0 = true := (State.flag_congr _ _ _ _ (h7 _ (by decide))).trans hauto
  have hrev2 : (s.fieldSampled mv).flag Reg.DIO_STAT 3 = false := (h3 3 (by decide)).trans hrev
  obtain ⟨k1, k2, k3⟩ := State.restoreGroup_last hshed2 htags2
  have hact : (s.fieldSampled mv).fieldAct false = (s.fieldSampled mv).restoreGroup := by
    unfold State.fieldAct
    simp only [hlow, Bool.false_eq_true, false_and, if_false, Nat.not_lt_zero]
    rw [if_pos htags2, hhigh]
    exact if_pos ⟨by rw [hauto2]; rfl, by rw [hshed2]; exact List.cons_ne_nil _ _, Nat.le_refl _, rfl, by rw [hrev2]; rfl⟩
  have hrun := exec_vfieldSample_shown hup hbase (by omega) hrev hact
  generalize (s.fieldSampled mv).restoreGroup = v at *
  obtain ⟨-, g2, g3, g4⟩ := v.fieldShown_spec
  exact ⟨_, hrun, (congrArg Dio.shed (g3.2.2 .dio (by simp))).trans k1, (State.flag_congr v v.fieldShown _ _ (g4 _ (by decide))).trans k2,
    (g2 2 (by decide)).trans k3⟩

end

end Sys2Proof.Machine

/-! PROOFS. DIO's operations: leaving safe state and clearing counts (R354, R511, R517). -/

namespace Sys2Proof.Machine

-- One declaration after the other: the stacks of parallel elaboration would count against the memory limit of the check.
set_option Elab.async false

section
variable {s a : State} {c k i : Nat}

/-! ### Leaving safe state -/

/-- One channel that leaves safe state (R511). -/
def State.leavePass (a : State) (c : Nat) : State :=
  let a1 := a.setFlag (Reg.DIO_CHcSTAT c) 6 false
  if a1.dioMode c ≠ 2 ∨ a1.dioMaster c ≠ c then a1
  else if a1.dioHeld c then a1
  else match (a1.chan c).cmd with
    | some _ => a1.dioApply c
    | none => if (a1.chan c).on then a1.dioDrive c false else a1

theorem State.leavePass_keeps (a : State) (c : Nat) : DioKeeps a (a.leavePass c) := by
  have h := a.setChStat_keeps c 6 false
  unfold State.leavePass
  simp only
  generalize a.setFlag (Reg.DIO_CHcSTAT c) 6 false = b at *
  split
  · exact h
  · split
    · exact h
    · split
      · exact h.trans (b.dioApply_keeps c)
      · split
        · exact h.trans (b.dioDrive_keeps c false)
        · exact h

theorem State.leaveSafe_eq (s : State) : s.leaveSafe =
    (({ s with dio := { s.dio with safe := false, wdtExpired := false, dieLost := false } } : State).setFlag Reg.DIO_STAT 4 false).forN 24
      State.leavePass := rfl

/-- Out of safe state operations go on, or have ended OK (R507, R511). -/
theorem State.leaveSafe_spec (s : State) : s.leaveSafe.dio.safe = false ∧ s.leaveSafe.dio.dieLost = false
    ∧ s.leaveSafe.flag Reg.DIO_STAT 4 = false ∧ ∀ k, s.GoesOn k → s.leaveSafe.GoesOn k := by
  rw [State.leaveSafe_eq]
  have hdio : ∀ x : Dio, (({ s with dio := x } : State).setFlag Reg.DIO_STAT 4 false).dio = x := fun _ => State.setFlag_dio _ _ _ _
  have hopt : ∀ x : Dio, (({ s with dio := x } : State).setFlag Reg.DIO_STAT 4 false).opt = s.opt := fun _ => State.setFlag_opt _ _ _ _
  have hflag : ∀ x : Dio, (({ s with dio := x } : State).setFlag Reg.DIO_STAT 4 false).flag Reg.DIO_STAT 4 = false := fun _ =>
    State.setFlag_flag_same _ _ _ _ (by decide)
  have h1 := hdio { s.dio with safe := false, wdtExpired := false, dieLost := false }
  have h2 := hopt { s.dio with safe := false, wdtExpired := false, dieLost := false }
  have h3 := hflag { s.dio with safe := false, wdtExpired := false, dieLost := false }
  generalize ({ s with dio := { s.dio with safe := false, wdtExpired := false, dieLost := false } } : State).setFlag Reg.DIO_STAT 4 false = u at *
  have hkeeps : DioKeeps u (u.forN 24 State.leavePass) := u.forN_keeps 24 _ (DioKeeps.refl u) fun a c ha => ha.trans (a.leavePass_keeps c)
  obtain ⟨l, hl⟩ := hkeeps.rest
  refine ⟨?_, ?_, (State.flag_congr _ _ _ _ hkeeps.stat).trans h3, fun k hk => hkeeps.ops k (hk.congr h2)⟩
  · rw [hl, h1]
  · rw [hl, h1]

/-- An operation that goes on, or has ended OK, has ended OK once it is decided so. -/
theorem State.GoesOn.ended (h : s.GoesOn k) : (s.decideOp k St.OK 0).Ended k St.OK 0 := by
  obtain hact | hend := h
  · exact State.decideOp_ended hact St.OK 0
  · rw [s.decideOp_of_not_active k St.OK 0 (by obtain ⟨hst, -, -⟩ := hend; rw [hst]; decide)]
    exact hend

/-! ### CNT_CLEAR of a pulse input -/

theorem State.withEmu_only (s : State) (x : Emu) : OnlyChanges [.emu] s { s with emu := x } := by
  simp [onlyChanges_iff]

theorem State.withSto_onlyChanges (s : State) (x : Sto) : OnlyChanges [.sto] s { s with sto := x } := by
  simp [onlyChanges_iff]

/-- The registers that an entry of STO's directory changes. -/
def putObjRegs : List Nat := Reg.STO_OBJECTS :: (List.range 5).map fun k => Reg.STO_CLk_OBJECTS (k + 1)

theorem State.putObj_spec (s : State) (id : Nat) (o : Option StoObj) : OnlyChanges [.regs, .sto] s (s.putObj id o)
    ∧ OnlyRegs putObjRegs s (s.putObj id o) := by
  unfold State.putObj
  generalize hx : ({ s with sto := { s.sto with objs := match o with
    | some x => tput s.sto.objs id x
    | none => tdel s.sto.objs id } } : State) = a
  have ha : OnlyChanges [.sto] s a := hx ▸ s.withSto_onlyChanges _
  have hr : OnlyRegs putObjRegs s a := hx ▸ OnlyRegs.of_regs_eq rfl
  refine ⟨(ha.mono (by simp)).trans (((State.setNum_onlyChanges _ _ _).mono (by simp)).trans
    ((State.forN_onlyChanges 5 fun b k => b.setNum_onlyChanges _ _).mono (by simp))), fun off h => ?_⟩
  simp only [putObjRegs, List.mem_cons, List.mem_map, List.mem_range, not_or, not_exists, not_and] at h
  obtain ⟨h1, h2⟩ := h
  exact (State.forN_reg_below _ 5 fun b k hk => b.setNum_reg_other _ _ _ (h2 k hk)).trans
    ((State.setNum_reg_other _ _ _ _ (Ne.symm h1)).trans (hr off (by
      simp only [putObjRegs, List.mem_cons, List.mem_map, List.mem_range, not_or, not_exists, not_and]
      exact ⟨h1, h2⟩)))

theorem State.holdSlot_spec (s : State) (n : Nat) (data : List Byte) : OnlyChanges [.regs, .sto] s (s.holdSlot n data)
    ∧ OnlyRegs putObjRegs s (s.holdSlot n data) := by
  unfold State.holdSlot
  simp only
  split
  · exact s.putObj_spec _ _
  · exact ⟨OnlyChanges.refl _ s, OnlyRegs.refl _ s⟩

/-- The registers that a gap record changes. -/
def gapRegs : List Nat :=
  putObjRegs ++ Reg.EMU_HOLD_STAT :: Reg.EMU_STAT :: Reg.EMU_GAP_CNT :: irqRegs Blk.EMU ++ (List.range 16).map Reg.EMU_GAP_LAST

theorem State.noteHold_spec (s : State) : OnlyChanges [.regs] s s.noteHold ∧ OnlyRegs [Reg.EMU_HOLD_STAT, Reg.EMU_STAT] s s.noteHold :=
  ⟨(State.setFld_onlyChanges _ _ _ _ _).trans (State.setFlag_onlyChanges _ _ _ _), ((OnlyRegs.refl _ s).setFld).setFlag⟩

theorem State.holdRecord_spec (s : State) (ctx kind : Nat) (data : List Byte) : (s.holdRecord ctx kind data).emu.ring.length = s.emu.ring.length + 1
    ∧ OnlyChanges [.regs, .emu, .sto] s (s.holdRecord ctx kind data)
    ∧ OnlyRegs (putObjRegs ++ [Reg.EMU_HOLD_STAT, Reg.EMU_STAT]) s (s.holdRecord ctx kind data) := by
  unfold State.holdRecord
  simp only
  obtain ⟨a, ha⟩ : ∃ a : State, a = { s with emu := { s.emu with
    ring := s.emu.ring ++ [HoldRec.mk s.emu.nextSlot ctx kind data none false 0 (if ctx = 0 then none else s.blob ctx)]
    nextSlot := (s.emu.nextSlot + 1) % 1024 } } := ⟨_, rfl⟩
  have hlen : a.emu.ring.length = s.emu.ring.length + 1 := by
    rw [ha]
    simp
  have hch : OnlyChanges [.emu] s a := ha ▸ s.withEmu_only _
  have hr : a.regs = s.regs := by rw [ha]
  rw [← ha]
  obtain ⟨h1, h2⟩ := a.holdSlot_spec s.emu.nextSlot data
  generalize a.holdSlot s.emu.nextSlot data = b at *
  obtain ⟨h3, h4⟩ := b.noteHold_spec
  refine ⟨?_, (hch.mono (by simp)).trans ((h1.mono (by simp)).trans (h3.mono (by simp))), ?_⟩
  · rw [h3.2.2 .emu (by simp), h1.2.2 .emu (by simp), hlen]
  · exact (OnlyRegs.of_regs_eq hr).trans ((h2.mono (List.subset_append_left _ _)).trans (h4.mono (List.subset_append_right _ _)))

theorem State.makeGap_spec (s : State) (kind source : Nat) (a b : GapFrom) (est bound : Nat) (unknown : Bool) (ctx : Nat) :
    (s.makeGap kind source a b est bound unknown ctx).emu.ring.length = s.emu.ring.length + 1
    ∧ OnlyChanges [.regs, .out, .emu, .sto] s (s.makeGap kind source a b est bound unknown ctx)
    ∧ OnlyRegs gapRegs s (s.makeGap kind source a b est bound unknown ctx) := by
  unfold State.makeGap
  simp only
  generalize gapBytes kind source a b est bound unknown ctx = data
  obtain ⟨h1, h2, h3⟩ := s.holdRecord_spec ctx 3 data
  generalize s.holdRecord ctx 3 data = x at *
  have hl : OnlyChanges [.regs] x (x.forN 16 fun y w => y.setNum (Reg.EMU_GAP_LAST w) (leNat (data.drop (4 * w)))) :=
    State.forN_onlyChanges 16 fun y w => y.setNum_onlyChanges _ _
  have hlr : OnlyRegs gapRegs x (x.forN 16 fun y w => y.setNum (Reg.EMU_GAP_LAST w) (leNat (data.drop (4 * w)))) := fun off h => by
    refine State.forN_reg_below x 16 fun y w hw => y.setNum_reg_other _ _ _ fun e => h ?_
    exact List.mem_append_right _ (List.mem_map.2 ⟨w, List.mem_range.2 hw, e⟩)
  generalize x.forN 16 (fun y w => y.setNum (Reg.EMU_GAP_LAST w) (leNat (data.drop (4 * w)))) = y at *
  have hc := y.satInc_onlyChanges Reg.EMU_GAP_CNT 0 32 1
  have hcr : OnlyRegs [Reg.EMU_GAP_CNT] y (y.satInc Reg.EMU_GAP_CNT 0 32 1) := (OnlyRegs.refl _ y).satInc
  generalize y.satInc Reg.EMU_GAP_CNT 0 32 1 = z at *
  have hi := z.raiseIrq_onlyChanges Blk.EMU 4
  have hir := z.raiseIrq_onlyRegs Blk.EMU 4
  generalize z.raiseIrq Blk.EMU 4 = w at *
  have hemu : w.emu = x.emu := (hi.2.2 .emu (by simp)).trans ((hc.2.2 .emu (by simp)).trans (hl.2.2 .emu (by simp)))
  refine ⟨(congrArg (fun e : Emu => e.ring.length) hemu).trans h1, ?_, ?_⟩
  · exact (h2.mono (by simp)).trans ((hl.mono (by simp)).trans ((hc.mono (by simp)).trans ((hi.mono (by simp)).trans
      ((w.withEmu_only _).mono (by simp)))))
  · have hmem : ∀ off, off ∈ putObjRegs ++ [Reg.EMU_HOLD_STAT, Reg.EMU_STAT] → off ∈ gapRegs := by decide
    have hmem2 : ∀ off, off ∈ [Reg.EMU_GAP_CNT] → off ∈ gapRegs := by decide
    have hmem3 : ∀ off, off ∈ irqRegs Blk.EMU → off ∈ gapRegs := by decide
    exact (h3.mono hmem).trans (hlr.trans ((hcr.mono hmem2).trans ((hir.mono hmem3).trans (OnlyRegs.of_regs_eq rfl))))

theorem pulseCnt_not_gap (hi : i < 16) : Reg.EMU_PIiCNT_LO i ∉ gapRegs ∧ Reg.EMU_PIiCNT_LO i + 4 ∉ gapRegs := by
  have table : ∀ k : Fin 16, Reg.EMU_PIiCNT_LO k ∉ gapRegs ∧ Reg.EMU_PIiCNT_LO k + 4 ∉ gapRegs := by decide
  exact table ⟨i, hi⟩

/-- A cleared pulse count and its CLEARED record (R354, R517). -/
theorem State.clearPulse_spec (s : State) (hi : i < 16) : (s.clearPulse i).num64 (Reg.EMU_PIiCNT_LO i) = 0
    ∧ (s.clearPulse i).emu.ring.length = s.emu.ring.length + 1 ∧ OnlyChanges [.regs, .out, .emu, .sto] s (s.clearPulse i) := by
  unfold State.clearPulse State.clearedGap
  simp only
  obtain ⟨a, ha⟩ : ∃ a : State, a = { s.setNum64 (Reg.EMU_PIiCNT_LO i) 0 with emu := { (s.setNum64 (Reg.EMU_PIiCNT_LO i) 0).emu with
    ivPulses := tdel (s.setNum64 (Reg.EMU_PIiCNT_LO i) 0).emu.ivPulses i } } := ⟨_, rfl⟩
  have hzero : a.num (Reg.EMU_PIiCNT_LO i) = 0 ∧ a.num (Reg.EMU_PIiCNT_LO i + 4) = 0 := by
    rw [ha]
    have h1 := State.setNum_num_same (s.setNum (Reg.EMU_PIiCNT_LO i) 0) (Reg.EMU_PIiCNT_LO i + 4) (0 / 2 ^ 32)
    have h2 := State.setNum_num_same s (Reg.EMU_PIiCNT_LO i) 0
    have h3 := State.setNum_reg_other (s.setNum (Reg.EMU_PIiCNT_LO i) 0) (Reg.EMU_PIiCNT_LO i + 4) (0 / 2 ^ 32) (Reg.EMU_PIiCNT_LO i) (by omega)
    exact ⟨(State.num_congr h3).trans h2, h1⟩
  have hlen : a.emu.ring = s.emu.ring := by rw [ha, State.setNum64_emu]
  have hch : OnlyChanges [.regs, .emu] s a := ha ▸ ((s.setNum64_onlyChanges _ _).mono (by simp)).trans ((State.withEmu_only _ _).mono (by simp))
  rw [← ha]
  obtain ⟨h1, h2, h3⟩ := a.makeGap_spec 5 (3 * 2 ^ 12 + i) a.gapFrom a.gapFrom (s.num64 (Reg.EMU_PIiCNT_LO i)) (s.num64 (Reg.EMU_PIiCNT_LO i)) false (s.pulseCtx i)
  obtain ⟨n1, n2⟩ := pulseCnt_not_gap hi
  refine ⟨?_, h1.trans (by rw [hlen]), (hch.mono (by simp)).trans h2⟩
  rw [State.num64, State.num_congr (h3 _ n1), State.num_congr (h3 _ n2), hzero.1, hzero.2, Nat.zero_mul]

/-! ### FAULT_CLEAR -/

/-- A latched channel released (R509). -/
def State.faultCleared (s : State) (c : Nat) : State :=
  let s1 := (s.setFlag (Reg.DIO_CHcSTAT c) 9 false).setFlag (Reg.DIO_CHcSTAT c) 2 false
  (s1.setChan c { s1.chan c with retries := [] }).pubDio c

theorem State.faultCleared_spec (s : State) (c : Nat) : (s.faultCleared c).flag (Reg.DIO_CHcSTAT c) 9 = false
    ∧ (s.faultCleared c).flag (Reg.DIO_CHcSTAT c) 2 = false ∧ ((s.faultCleared c).chan c).retries = []
    ∧ OnlyChanges [.regs, .points, .notes, .dio] s (s.faultCleared c) := by
  unfold State.faultCleared
  simp only
  have h9 := s.setFlag_flag_same (Reg.DIO_CHcSTAT c) 9 false (by decide)
  have hch1 := s.setFlag_onlyChanges (Reg.DIO_CHcSTAT c) 9 false
  generalize s.setFlag (Reg.DIO_CHcSTAT c) 9 false = a at *
  have h2 := a.setFlag_flag_same (Reg.DIO_CHcSTAT c) 2 false (by decide)
  have ho := a.setFlag_flag_other (Reg.DIO_CHcSTAT c) 2 9 false (by decide) (by decide)
  have hch2 := a.setFlag_onlyChanges (Reg.DIO_CHcSTAT c) 2 false
  generalize a.setFlag (Reg.DIO_CHcSTAT c) 2 false = b at *
  have hch3 := b.setChan_onlyChanges c { b.chan c with retries := [] }
  have hchan := b.setChan_chan_same c { b.chan c with retries := [] }
  generalize b.setChan c { b.chan c with retries := [] } = d at *
  have hp := d.pubDio_onlyChanges c
  have hreg : (d.pubDio c).reg (Reg.DIO_CHcSTAT c) = b.reg (Reg.DIO_CHcSTAT c) :=
    (d.pubDio_reg c _).trans (State.reg_congr _ _ (hch3.2.2 .regs (by simp)) _)
  refine ⟨(State.flag_congr _ _ _ _ hreg).trans (ho.trans h9), (State.flag_congr _ _ _ _ hreg).trans h2, ?_, ?_⟩
  · rw [State.chan_congr (hp.2.2 .dio (by simp)) c, hchan]
  · exact (hch1.mono (by simp)).trans ((hch2.mono (by simp)).trans ((hch3.mono (by simp)).trans (hp.mono (by simp))))

end

end Sys2Proof.Machine

/-! PROOFS. The protection of the outputs, settled. -/

namespace Sys2Proof.Machine

-- One declaration after the other: the stacks of parallel elaboration would count against the memory limit of the check.
set_option Elab.async false

section
variable {s : State} {k : Nat} {x : Slot}

/-- DIO's operations on a module whose mode and context allow them. -/
theorem State.fault_clear_next (hup : s.Up) (hserv : tfind? s.hlk.serving k = none) (hctx : x.ctx = 0) (hmode : s.mode ≠ Mode.MINIMAL)
    (hx : s.activeOp k Blk.DIO 2 = some x) (hc : paramField x.param 0 1 < 24) :
    (s.flag (Reg.DIO_CHcSTAT (paramField x.param 0 1)) 9 = true → ∃ t, exec (.dioFaultClear k) s = .next t
      ∧ t.Ended k St.OK 0 ∧ t.flag (Reg.DIO_CHcSTAT (paramField x.param 0 1)) 9 = false
      ∧ t.flag (Reg.DIO_CHcSTAT (paramField x.param 0 1)) 2 = false
      ∧ (t.chan (paramField x.param 0 1)).retries = [] ∧ OnlyChanges [.regs, .points, .notes, .opt, .scn, .dio] s t)
    ∧ (s.flag (Reg.DIO_CHcSTAT (paramField x.param 0 1)) 9 = false → ∃ t, exec (.dioFaultClear k) s = .next t
      ∧ t.Ended k St.FAIL_INVALID 0 ∧ OnlyChanges [.opt, .scn] s t) := by
  have hs := State.serves_of_activeOp hserv hx
  refine ⟨fun hlatch => ?_, fun hlatch => ?_⟩
  · obtain ⟨h9, h2, hret, hch⟩ := s.faultCleared_spec (paramField x.param 0 1)
    obtain ⟨hended, hall⟩ := hs.ends (by decide) hch St.OK 0
    have hsa := hs.frame hch
    have hreg := fun off => hsa.reg (by decide) St.OK 0 off
    have hdio := (hsa.onlyChanges (by decide) St.OK 0).2.2 .dio (by simp)
    refine ⟨_, ?_, hended, (State.flag_congr _ _ _ _ (hreg _)).trans h9, (State.flag_congr _ _ _ _ (hreg _)).trans h2,
      (congrArg DioCh.retries (State.chan_congr hdio _)).trans hret, hall.mono (by simp)⟩
    rw [exec_dioFaultClear, execDioFaultClear]
    refine State.powered_next hup ?_ hall (by simp)
    simp only [hx]
    rw [if_neg (by simp [hmode, hctx]), if_neg (by simp [hlatch]; omega)]
    rfl
  · obtain ⟨hended, hch⟩ := hs.ends (by decide) (OnlyChanges.refl [] s) St.FAIL_INVALID 0
    refine ⟨_, ?_, hended, hch⟩
    rw [exec_dioFaultClear, execDioFaultClear]
    refine State.powered_next hup ?_ hch (by simp)
    simp only [hx]
    rw [if_neg (by simp [hmode, hctx]), if_pos (by simp [hlatch])]

theorem State.safe_clear_next (hup : s.Up) (hserv : tfind? s.hlk.serving k = none) (hctx : x.ctx = 0)
    (hx : s.activeOp k Blk.DIO 3 = some x) (hmode : s.mode = Mode.RUN) :
    (s.dio.wdtExpired = false → ∃ t, exec (.safeClear k) s = .next t
      ∧ t.Ended k St.OK 0 ∧ t.dio.safe = false ∧ t.dio.dieLost = false ∧ t.flag Reg.DIO_STAT 4 = false)
    ∧ (s.dio.wdtExpired = true → s.fld Reg.DIO_WDT 0 8 ≠ 0 → ∃ t, exec (.safeClear k) s = .next t
      ∧ t.Ended k St.FAIL_INVALID 0 ∧ OnlyChanges [.opt, .scn] s t) := by
  have hs := State.serves_of_activeOp hserv hx
  have hmay : ¬ (s.mode = Mode.MINIMAL ∨ x.ctx ≠ 0 ∨ (!s.maySwitch) = true) := by
    simp [State.maySwitch, hmode, hctx]
  refine ⟨fun hexp => ?_, fun hexp htime => ?_⟩
  · obtain ⟨h1, h2, h3, h4⟩ := s.leaveSafe_spec
    have hgoes := h4 k (.inl hs.active)
    have hrun : exec (.safeClear k) s = .next (s.guarded (s.leaveSafe.decideOp k St.OK 0)) := by
      rw [exec_safeClear, execSafeClear, State.powered_run _ _ hup]
      simp only [hx]
      rw [if_neg hmay, if_neg (by simp [hexp])]
    have hdio := s.leaveSafe.decideOp_dio k St.OK 0
    have hreg := State.decideOp_reg (s := s.leaveSafe) dioStat_not_sent k St.OK 0
    generalize s.leaveSafe = u at *
    refine ⟨_, hrun, hgoes.ended, (congrArg Dio.safe hdio).trans h1, (congrArg Dio.dieLost hdio).trans h2,
      (State.flag_congr u (u.decideOp k St.OK 0) _ _ hreg).trans h3⟩
  · obtain ⟨hended, hch⟩ := hs.ends (by decide) (OnlyChanges.refl [] s) St.FAIL_INVALID 0
    refine ⟨_, ?_, hended, hch⟩
    rw [exec_safeClear, execSafeClear]
    refine State.powered_next hup ?_ hch (by simp)
    simp only [hx]
    rw [if_neg hmay, if_pos ⟨hexp, htime⟩]

theorem State.restore_next (hup : s.Up) (hserv : tfind? s.hlk.serving k = none) (hctx : x.ctx = 0) (hmode : s.mode ≠ Mode.MINIMAL)
    (hx : s.activeOp k Blk.DIO 4 = some x) :
    (signed 32 (s.num Reg.DIO_VFIELD) ≤ 20000 → ∃ t, exec (.restore k) s = .next t ∧ t.Ended k St.FAIL_CONFLICT 0 ∧ OnlyChanges [.opt, .scn] s t)
    ∧ (20000 < signed 32 (s.num Reg.DIO_VFIELD) →
      (s.dio.shed = [] → ∃ t, exec (.restore k) s = .next t ∧ t.Ended k St.OK 0 ∧ OnlyChanges [.opt, .scn] s t)
      ∧ (s.dio.shed ≠ [] → exec (.restore k) s
        = .next { s with dio := { s.dio with restoreTags := s.dio.restoreTags ++ [k], high := 0 } })) := by
  have hs := State.serves_of_activeOp hserv hx
  refine ⟨fun hlow => ?_, fun hhigh => ⟨fun hshed => ?_, fun hshed => ?_⟩⟩
  · obtain ⟨hended, hch⟩ := hs.ends (by decide) (OnlyChanges.refl [] s) St.FAIL_CONFLICT 0
    refine ⟨_, ?_, hended, hch⟩
    rw [exec_restore, execRestore]
    refine State.powered_next hup ?_ hch (by simp)
    simp only [hx]
    rw [if_neg (by simp [hmode, hctx]), if_pos hlow]
  · obtain ⟨hended, hch⟩ := hs.ends (by decide) (OnlyChanges.refl [] s) St.OK 0
    refine ⟨_, ?_, hended, hch⟩
    rw [exec_restore, execRestore]
    refine State.powered_next hup ?_ hch (by simp)
    simp only [hx]
    rw [if_neg (by simp [hmode, hctx]), if_neg (by omega), if_pos hshed]
  · rw [exec_restore, execRestore]
    refine State.powered_next hup ?_ (s.withDio_onlyChanges { s.dio with restoreTags := s.dio.restoreTags ++ [k], high := 0 }) (by simp)
    simp only [hx]
    rw [if_neg (by simp [hmode, hctx]), if_neg (by omega), if_neg hshed]

theorem State.cnt_clear_channel_next (hup : s.Up) (hserv : tfind? s.hlk.serving k = none) (hmode : s.mode ≠ Mode.MINIMAL)
    (hx : s.activeOp k Blk.DIO 5 = some x) (hpulse : bitOf (paramField x.param 1 1) 0 = false) (hc : paramField x.param 0 1 < 24) :
    ∃ t, exec (.cntClear k) s = .next t ∧ t.Ended k St.OK 0 ∧ t.num (Reg.DIO_CHcCNT (paramField x.param 0 1)) = 0
      ∧ OnlyChanges [.regs, .points, .notes, .opt, .scn] s t ∧ OnlyRegs [Reg.DIO_CHcCNT (paramField x.param 0 1)] s t := by
  have hs := State.serves_of_activeOp hserv hx
  have hgoal : exec (.cntClear k) s = s.powered fun s => match s.activeOp k Blk.DIO 5 with
    | none => s
    | some x =>
      if s.mode = Mode.MINIMAL then (s.decideOp k St.FAIL_DENIED 0)
      else if bitOf (paramField x.param 1 1) 0 then
        if 15 < paramField x.param 0 1 then (s.decideOp k St.FAIL_INVALID 0)
        else if !s.lcService then (s.decideOp k St.FAIL_DENIED 0)
        else ((s.clearPulse (paramField x.param 0 1)).decideOp k St.OK 0)
      else if 23 < paramField x.param 0 1 then (s.decideOp k St.FAIL_INVALID 0)
      else (((s.setNum (Reg.DIO_CHcCNT (paramField x.param 0 1)) 0).pubDio (paramField x.param 0 1)).decideOp k St.OK 0) := rfl
  rw [hgoal]
  generalize hcc : paramField x.param 0 1 = c at *
  have hzero := s.setNum_num_same (Reg.DIO_CHcCNT c) 0
  have hset := s.setNum_onlyChanges (Reg.DIO_CHcCNT c) 0
  have hregs : OnlyRegs [Reg.DIO_CHcCNT c] s (s.setNum (Reg.DIO_CHcCNT c) 0) := (OnlyRegs.refl _ s).setNum
  generalize hu : s.setNum (Reg.DIO_CHcCNT c) 0 = u at *
  have hp := (hset.mono (qs := [.regs, .points, .notes]) (by simp)).trans ((u.pubDio_onlyChanges c).mono (by simp))
  obtain ⟨hended, hall⟩ := hs.ends (by decide) hp St.OK 0
  have hreg : ∀ off, ((u.pubDio c).decideOp k St.OK 0).reg off = u.reg off := fun off =>
    ((hs.frame hp).reg (by decide) St.OK 0 off).trans (u.pubDio_reg c off)
  refine ⟨_, ?_, hended, (State.num_congr (hreg _)).trans hzero, hall.mono (by simp), fun off h => (hreg off).trans (hregs off h)⟩
  refine State.powered_next hup ?_ hall (by simp)
  simp only [hx, hcc]
  rw [if_neg hmode, if_neg (by simp [hpulse]), if_neg (by omega), hu]

theorem State.cnt_clear_pulse_next (hup : s.Up) (hserv : tfind? s.hlk.serving k = none) (hmode : s.mode ≠ Mode.MINIMAL)
    (hx : s.activeOp k Blk.DIO 5 = some x) (hpulse : bitOf (paramField x.param 1 1) 0 = true) (hc : paramField x.param 0 1 < 16) :
    (s.lcService = false → ∃ t, exec (.cntClear k) s = .next t ∧ t.Ended k St.FAIL_DENIED 0 ∧ OnlyChanges [.opt, .scn] s t)
    ∧ (s.lcService = true → ∃ t, exec (.cntClear k) s = .next t ∧ t.Ended k St.OK 0
      ∧ t.num64 (Reg.EMU_PIiCNT_LO (paramField x.param 0 1)) = 0
      ∧ t.emu.ring.length = s.emu.ring.length + 1 ∧ OnlyChanges [.regs, .out, .opt, .scn, .emu, .sto] s t) := by
  have hs := State.serves_of_activeOp hserv hx
  refine ⟨fun hlc => ?_, fun hlc => ?_⟩
  · obtain ⟨hended, hch⟩ := hs.ends (by decide) (OnlyChanges.refl [] s) St.FAIL_DENIED 0
    refine ⟨_, ?_, hended, hch⟩
    rw [exec_cntClear, execCntClear]
    refine State.powered_next hup ?_ hch (by simp)
    simp only [hx]
    rw [if_neg hmode, if_pos hpulse, if_neg (by omega), if_pos (by simp [hlc])]
  · obtain ⟨hzero, hlen, hch⟩ := s.clearPulse_spec hc
    obtain ⟨hended, hall⟩ := hs.ends (by decide) hch St.OK 0
    have hreg := fun off => (hs.frame hch).reg (by decide) St.OK 0 off
    have hemu := ((hs.frame hch).onlyChanges (by decide) St.OK 0).2.2 .emu (by simp)
    refine ⟨_, ?_, hended, ?_, (congrArg (fun e : Emu => e.ring.length) hemu).trans hlen, hall.mono (by simp)⟩
    · rw [exec_cntClear, execCntClear]
      refine State.powered_next hup ?_ hall (by simp)
      simp only [hx]
      rw [if_neg hmode, if_pos hpulse, if_neg (by omega), if_neg (by simp [hlc])]
    · rw [State.num64, State.num_congr (hreg _), State.num_congr (hreg _)]
      exact hzero

end

/-- Settles O45, clause by clause: a short and its retry, the pulse inputs' supply, the logic watchdog and its kick, the field die, the
field supply, and DIO's operations. -/
theorem outputProtection : Obligations.OutputProtection := by
  unfold Obligations.OutputProtection
  intro s hup hen
  refine ⟨?_, fun ma => exec_diagTick_supply hup ma, ?_, exec_logicWdtExpire_due hup hen, fun rq hpass => ⟨fun hon hsafe => ?_, fun hoff => ?_⟩,
    fun c _ hstore _ => exec_fieldDieSafe_one hstore, fun mv hmv hrev hbase => ⟨?_, ?_, ?_, ?_⟩, ?_⟩
  · rintro m x hmode hmaster hset rfl hon hlim hticks hretry
    exact exec_diagTick_short hup hmode hmaster hset hon hlim hticks hretry
  · rintro c x - rfl hdue hclk hsafe hdie hshed hrev hlatch hcmd hma hzx hw hset
    exact exec_shortRetry_on hup hdue hclk hsafe hdie hshed hrev hlatch hcmd hma hzx hw hset
  · rw [exec_wdtKick, execWdtKick]
    refine State.powered_next hup ?_ (s.withDio_onlyChanges { s.dio with wdtExpired := false, wdtClk := s.clk }) (by simp)
    rw [State.takeWrite_wdtKick hpass, if_pos hon]
    simp only [State.kickWdt, hsafe, Bool.false_eq_true, false_and, if_false]
  · rw [exec_wdtKick, execWdtKick]
    refine State.powered_same ?_
    rw [State.takeWrite_wdtKick hpass, if_neg (by simp [hoff])]
  · exact fun hlo hhi hshed _ => exec_vfieldSample_good hup hbase hrev hlo hhi hshed
  · exact fun hhi hlo hwas => exec_vfieldSample_warns hup hbase hrev hhi hlo hwas
  · exact fun g hlt hcount hnext => exec_vfieldSample_sheds hup hbase hrev hmv hlt hcount hnext
  · exact fun g hgt hcount hshed htags hauto => exec_vfieldSample_restores hup hbase hrev hgt hcount hshed htags hauto
  · rintro k x c hserv rfl hctx hmode
    exact ⟨fun hx hc => (State.fault_clear_next hup hserv hctx hmode hx hc).1, fun hx hc => (State.fault_clear_next hup hserv hctx hmode hx hc).2,
      fun hx hrun => (State.safe_clear_next hup hserv hctx hx hrun).1, fun hx hrun => (State.safe_clear_next hup hserv hctx hx hrun).2,
      fun hx => (State.restore_next hup hserv hctx hmode hx).1, fun hx => (State.restore_next hup hserv hctx hmode hx).2,
      fun hx hp hc => State.cnt_clear_channel_next hup hserv hmode hx hp hc, fun hx hp hc => State.cnt_clear_pulse_next hup hserv hmode hx hp hc⟩

end Sys2Proof.Machine

/-! PROOFS. Stakes fire, and LAT's edges and pulses (R114, R121 to R123, R127, R128). -/

namespace Sys2Proof.Machine

-- One declaration after the other: the stacks of parallel elaboration would count against the memory limit of the check.
set_option Elab.async false

section
variable {s a : State} {i n : Nat} {p : Stake}

/-! ### The end of an operation of any block -/

/-- The end of an operation that no other module asked for: the books of OPT, SCN and STO alone change (R74, R82). -/
theorem State.decideOp_books (hserv : tfind? s.hlk.serving n = none) (hact : (s.slot n).st = .active) (status : Nat) (result : Word) :
    OnlyChanges [.opt, .scn, .sto] s (s.decideOp n status result) := by
  rw [State.decideOp_own s n status result hact hserv]
  simp [State.decidedOwn, onlyChanges_iff]

/-! ### A passed stake without a period -/

theorem State.putStake_stake (s : State) (i j : Nat) (k : Stake) : (s.putStake i k).stake j = if i = j then k else s.stake j :=
  tget_tset _ _ _ _ _

theorem State.noteStakes_onlyChanges (s : State) : OnlyChanges [.regs] s s.noteStakes := by
  unfold State.noteStakes
  simp only
  split
  · exact (s.setNum_onlyChanges _ _).trans (State.setNum64_onlyChanges _ _ _)
  · exact (s.setNum_onlyChanges _ _).trans (State.setNum64_onlyChanges _ _ _)

theorem State.stake_congr {s t : State} (h : t.lat = s.lat) (j : Nat) : t.stake j = s.stake j := by
  simp only [State.stake, h]

theorem State.withLat_onlyChanges (s : State) (x : Lat) : OnlyChanges [.lat] s { s with lat := x } := by
  simp [onlyChanges_iff]

theorem State.putStake_onlyChanges (s : State) (i : Nat) (k : Stake) : OnlyChanges [.lat] s (s.putStake i k) := s.withLat_onlyChanges _

theorem State.writeStored_spec (s : State) (f : Tbl Stake → Tbl Stake) : (∀ j, (s.writeStored f).stake j = s.stake j)
    ∧ OnlyChanges [.lat] s (s.writeStored f) := ⟨fun _ => rfl, s.withLat_onlyChanges _⟩

theorem State.feedStake_spec (s : State) (i : Nat) : (∀ j, (s.feedStake i).stake j = s.stake j) ∧ OnlyChanges [.lat] s (s.feedStake i) :=
  ⟨fun _ => rfl, s.withLat_onlyChanges _⟩

/-- A stake of no period and no DIO channel is cleared once it is past (R123). -/
theorem State.spendStake_last (hstake : s.stake i = p) (hper : p.period = 0) (haction : p.action ≠ 3) (ref : Nat) :
    (∀ j, (s.spendStake i ref).stake j = if i = j then { Stake.empty with gen := p.gen } else s.stake j)
    ∧ OnlyChanges [.regs, .lat] s (s.spendStake i ref) := by
  have hafter : p.after ref = none := by simp only [Stake.after, hper, if_true]
  have hput := s.putStake_onlyChanges i { Stake.empty with gen := p.gen }
  have hstakes := fun j => s.putStake_stake i j { Stake.empty with gen := p.gen }
  obtain ⟨a, ha, hch, heq⟩ : ∃ a : State, (∀ j, a.stake j = (s.putStake i { Stake.empty with gen := p.gen }).stake j)
      ∧ OnlyChanges [.lat] (s.putStake i { Stake.empty with gen := p.gen }) a ∧ s.spendStake i ref = (a.feedStake i).noteStakes := by
    unfold State.spendStake
    simp only [hstake, hafter, State.releaseDio, haction, false_and, if_false]
    generalize s.putStake i { Stake.empty with gen := p.gen } = u
    by_cases h : p.persist = true
    · rw [if_pos h]
      obtain ⟨w1, w2⟩ := u.writeStored_spec fun l => tdel l i
      exact ⟨_, w1, w2, rfl⟩
    · rw [if_neg h]
      exact ⟨u, fun _ => rfl, OnlyChanges.refl _ u, rfl⟩
  rw [heq]
  generalize s.putStake i { Stake.empty with gen := p.gen } = u at *
  obtain ⟨f1, f2⟩ := a.feedStake_spec i
  generalize a.feedStake i = b at *
  have hnote := b.noteStakes_onlyChanges
  refine ⟨fun j => ?_, (hput.mono (by simp)).trans ((hch.mono (by simp)).trans ((f2.mono (by simp)).trans (hnote.mono (by simp))))⟩
  exact (State.stake_congr (hnote.2.2 .lat (by simp)) j).trans ((f1 j).trans ((ha j).trans (hstakes j)))

/-! ### The firing of a MARK -/

theorem State.takeFeed_empty (h : s.lat.feed = []) : s.takeFeed = s := by
  simp only [State.takeFeed, h, List.foldl_nil]
  conv_lhs => rw [← h]

theorem State.applyResv_empty (h : s.arb.resv = []) (i gen ch need : Nat) : s.applyResv i gen ch need = s := by
  simp only [State.applyResv, h, List.find?_nil]

/-- A MARK stake on time, with nothing fed or reserved for it, ends its operation at once (R114, R122). -/
theorem State.fireStake_mark (haction : p.action = 7) (hpast : p.pastDue = false) (hroll : p.rolledTo = none) (hper : p.period = 0)
    (htime : s.lat.pos - p.chainage.toNat * 2 ^ 32 ≤ 800 * s.lat.rate) (hfeed : s.lat.feed = []) (hresv : s.arb.resv = []) :
    s.fireStake i p n = (s.endFiring n St.OK (fireResult i false true 0) 0).spendStake i s.chain := by
  have hlast : (p.after s.chain).isNone = true := by simp only [Stake.after, hper, if_true, Option.isNone_none]
  have hat : p.fireAt = p.chainage.toNat := by simp only [Stake.fireAt, hroll, Option.getD_none]
  have hlate : decide (800 * s.lat.rate < s.lat.pos - p.chainage.toNat * 2 ^ 32) = false := decide_eq_false (by omega)
  have hmay : s.stakeAllowed p.owner p.ctx p = true := by
    simp only [State.stakeAllowed, State.ctxMayTarget, haction, Bool.or_true, Bool.true_and]
    rfl
  have hdown : s.aimedDown p = false := by simp only [State.aimedDown, haction]
  have hneed : s.stakeNeed p true = none := by simp only [State.stakeNeed, haction]
  have hact : s.fireAction i p n = (some St.OK, s) := by simp only [State.fireAction, haction]
  unfold State.fireStake
  simp only [hroll, Option.isSome_none, Bool.false_eq_true, if_false, State.takeFeed_empty hfeed, hmay, hdown, Bool.and_false, Bool.not_false,
    Bool.and_true, Bool.not_true, if_true, hneed, State.applyResv_empty hresv, hact, hpast, hat, hlate, Bool.or_false, hlast]

theorem State.endFiring_ok (s : State) (n : Nat) (r : Word) (late : Nat) : s.endFiring n St.OK r late =
    ({ s with lat := { s.lat with firings := s.lat.firings.filter fun f => f.tag != n } } : State).decideOp n St.OK r := by
  rfl

/-- A firing that ends OK (R122). -/
theorem State.endFiring_spec (hact : (s.slot n).st = .active) (hserv : tfind? s.hlk.serving n = none) (r : Word) (late : Nat) :
    (s.endFiring n St.OK r late).Ended n St.OK r ∧ (∀ m, (s.endFiring n St.OK r late).slot m = if n = m then
        decidedSlot (s.slot n) St.OK r s.chain else s.slot m)
    ∧ (∀ j, (s.endFiring n St.OK r late).stake j = s.stake j) ∧ OnlyChanges [.lat, .opt, .scn, .sto] s (s.endFiring n St.OK r late) := by
  rw [State.endFiring_ok]
  have hlat := s.withLat_onlyChanges { s.lat with firings := s.lat.firings.filter fun f => f.tag != n }
  have hstake : ∀ j, ({ s with lat := { s.lat with firings := s.lat.firings.filter fun f => f.tag != n } } : State).stake j = s.stake j := fun _ => rfl
  have hslot : ∀ m, ({ s with lat := { s.lat with firings := s.lat.firings.filter fun f => f.tag != n } } : State).slot m = s.slot m := fun _ => rfl
  have hserv2 : tfind? ({ s with lat := { s.lat with firings := s.lat.firings.filter fun f => f.tag != n } } : State).hlk.serving n = none := hserv
  have hchain : ({ s with lat := { s.lat with firings := s.lat.firings.filter fun f => f.tag != n } } : State).chain = s.chain := rfl
  generalize ({ s with lat := { s.lat with firings := s.lat.firings.filter fun f => f.tag != n } } : State) = b at *
  have hact2 : (b.slot n).st = .active := by rw [hslot]; exact hact
  have hbooks := State.decideOp_books hserv2 hact2 St.OK r
  refine ⟨State.decideOp_ended hact2 St.OK r, fun m => ?_, fun j => (State.stake_congr (hbooks.2.2 .lat (by simp)) j).trans (hstake j),
    (hlat.mono (by simp)).trans (hbooks.mono (by simp))⟩
  rw [b.decideOp_slot n m St.OK r hact2, hslot, hslot, hchain]

theorem exec_stakeFire_mark (hup : s.Up) (hopen : s.firesOpen = true) (hdue : s.dueStake = some (i, p)) (hstake : s.stake i = p)
    (haction : p.action = 7) (hper : p.period = 0) (hpast : p.pastDue = false) (hroll : p.rolledTo = none) (hch : p.chainage.toNat ≤ s.chain)
    (htime : s.lat.pos - p.chainage.toNat * 2 ^ 32 ≤ 800 * s.lat.rate) (hfree : s.freeTag = some n) (hserv : tfind? s.hlk.serving n = none)
    (hfeed : s.lat.feed = []) (hresv : s.arb.resv = []) : ∃ t, exec .stakeFire s = .next t ∧ t.Ended n St.OK (fireResult i false true 0)
      ∧ (t.slot n).block = Blk.LAT ∧ (t.slot n).opcode = 7 ∧ t.stake i = { Stake.empty with gen := p.gen }
      ∧ (∀ j, j ≠ i → t.stake j = s.stake j) ∧ (∀ m, m ≠ n → t.slot m = s.slot m) := by
  have hpf : s.sup.pfail = false := by
    simp only [State.firesOpen, Bool.and_eq_true, Bool.not_eq_true'] at hopen
    exact hopen.2
  obtain ⟨a, ha, hslots, hbegin⟩ : ∃ a, s.beginInternal Blk.LAT Blk.LAT 7 p.ctx s.stakeTimeout 0 = some (n, a)
      ∧ (∀ m, n ≠ m → a.slot m = s.slot m) ∧ OnlyChanges [.regs, .out, .opt] s a := by
    refine ⟨_, by rw [State.beginInternal, hpf, hfree]; rfl, fun m hm => ?_, s.beginAt_onlyChanges n _⟩
    exact (s.beginAt_slot n m _).trans (if_neg hm)
  obtain ⟨-, hact, hblock, hop, -⟩ := State.begun_spec ha
  have hlat : a.lat = s.lat := hbegin.2.2 .lat (by simp)
  have hfire := State.fireStake_mark (s := a) (i := i) (n := n) haction hpast hroll hper (by rw [hlat]; exact htime)
    (by rw [hlat]; exact hfeed) (by rw [show a.arb = s.arb from hbegin.2.2 .arb (by simp)]; exact hresv)
  obtain ⟨h1, h2, h3, h4⟩ := State.endFiring_spec hact (by rw [show a.hlk = s.hlk from hbegin.2.2 .hlk (by simp)]; exact hserv)
    (fireResult i false true 0) 0
  generalize a.endFiring n St.OK (fireResult i false true 0) 0 = b at *
  have hstakes : ∀ j, b.stake j = s.stake j := fun j => (h3 j).trans (State.stake_congr hlat j)
  obtain ⟨g1, g2⟩ := State.spendStake_last ((hstakes i).trans hstake) hper (by rw [haction]; decide) a.chain
  generalize b.spendStake i a.chain = d at *
  have hall := (hbegin.mono (qs := [.regs, .out, .lat, .opt, .scn, .sto]) (by simp)).trans ((h4.mono (by simp)).trans (g2.mono (by simp)))
  have hopt : ∀ m, d.slot m = b.slot m := fun m => State.slot_congr _ _ (congrArg Opt.slots (g2.2.2 .opt (by simp))) m
  refine ⟨d, ?_, ?_, ?_, ?_, (g1 i).trans (if_pos rfl), fun j hj => (g1 j).trans ((if_neg (Ne.symm hj)).trans (hstakes j)), fun m hm => ?_⟩
  · rw [exec_stakeFire, execStakeFire]
    refine State.powered_next hup ?_ hall (by simp)
    simp only [hopen, hdue, Bool.not_true, Bool.false_eq_true, if_false]
    rw [if_neg (by simp only [Stake.fireAt, hroll, Option.getD_none]; omega), haction, ha]
    exact hfire
  · simpa only [State.Ended, hopt] using h1
  · rw [hopt, h2, if_pos rfl]
    exact hblock
  · rw [hopt, h2, if_pos rfl]
    exact hop
  · rw [hopt, h2, if_neg (Ne.symm hm), hslots m (Ne.symm hm)]

/-- The acknowledgement of a written point ends its firing (R114, R122). -/
theorem exec_stakeActionAck_point {f : Firing} (hup : s.Up) (hfind : s.lat.firings.find? (fun g => g.tag == n) = some f) (haction : f.action = 1)
    (hok : f.okStatus = St.OK) (hact : (s.slot n).st = .active) (hserv : tfind? s.hlk.serving n = none) :
    ∃ t, exec (.stakeActionAck n) s = .next t ∧ t.Ended n St.OK f.result
      ∧ (∀ m, m ≠ n → t.slot m = s.slot m) ∧ OnlyChanges [.lat, .opt, .scn, .sto] s t := by
  obtain ⟨h1, h2, -, h4⟩ := State.endFiring_spec hact hserv f.result f.late
  have hack : s.ackOf f = some St.OK := by simp only [State.ackOf, haction, hok]
  refine ⟨_, ?_, h1, fun m hm => (h2 m).trans (if_neg (Ne.symm hm)), h4⟩
  rw [exec_stakeActionAck, execStakeActionAck]
  refine State.powered_next hup ?_ h4 (by simp)
  simp only [hfind, hack]
  rw [if_neg (by rw [haction]; decide)]

/-! ### Edges and pulses -/

theorem State.zxPass_off {key angle : Nat} {half : Bool} (h : s.atAngle angle half = false) : s.zxPass key angle half = none := by
  unfold State.zxPass
  rw [if_neg (by simp [h])]

theorem State.zxPass_on {key angle : Nat} {half : Bool} (h : s.atAngle angle half = true) (hnew : tfind? s.lat.zxCh key ≠ some s.chain) :
    s.zxPass key angle half = some { s with lat := { s.lat with zxCh := tput s.lat.zxCh key s.chain } } := if_pos ⟨h, hnew⟩

theorem State.passed_onlyChanges (s : State) (x : Lat) (o : Output) : OnlyChanges [.out, .lat] s (({ s with lat := x } : State).emit o) :=
  ((s.withLat_onlyChanges x).mono (by simp)).trans ((State.emit_onlyChanges _ o).mono (by simp))

end

/-- Settles O13, clause by clause: the MARK stake, the written point's acknowledgement, the channel's edge and the pad's pulse. -/
theorem stakesFire : Obligations.StakesFire := by
  unfold Obligations.StakesFire
  intro s hup
  refine ⟨?_, ?_, fun c hc hrun hzx hwait hat hnew => ?_, fun c hat => ?_, fun hen hrun hat hnew => ?_, fun hat => ?_⟩
  · exact fun i p n hopen hdue hstake haction hper hpast hroll hch htime hfree hserv hfeed hresv =>
      exec_stakeFire_mark hup hopen hdue hstake haction hper hpast hroll hch htime hfree hserv hfeed hresv
  · exact fun n f hfind _ haction hok hact hserv => exec_stakeActionAck_point hup hfind haction hok hact hserv
  · refine exec_zxEdge_on hup hc hrun hzx ?_ (s.passed_onlyChanges _ _) (by simp)
    rw [State.zxPass_on hat hnew]
    have hnone : ((({ s with lat := { s.lat with zxCh := tput s.lat.zxCh c s.chain } } : State).emit (.zxEdge c)).chan c).waiting = none := hwait
    simp only [hnone]
  · rw [exec_zxEdge, execZxEdge]
    refine State.powered_same ?_
    simp only
    split
    · rfl
    · rw [State.zxPass_off hat]
  · rw [exec_zxOutPulse, execZxOutPulse]
    refine State.powered_next hup ?_ (s.passed_onlyChanges _ _) (by simp)
    rw [if_pos ⟨hen, hrun⟩, State.zxPass_on hat hnew]
  · rw [exec_zxOutPulse, execZxOutPulse]
    refine State.powered_same ?_
    split
    · rw [State.zxPass_off hat]
    · rfl

end Sys2Proof.Machine

/-! PROOFS. LAT's timebase: crossings, cross-stamps and its states (R8, R104 to R109). -/

namespace Sys2Proof.Machine

-- One declaration after the other: the stacks of parallel elaboration would count against the memory limit of the check.
set_option Elab.async false

section
variable {s a : State} {n : Nat}

theorem State.latSt_congr {s t : State} (h : t.reg Reg.LAT_STATE = s.reg Reg.LAT_STATE) : t.latSt = s.latSt := State.fld_congr h 0 3

theorem State.chain_congr {s t : State} (h : t.lat.pos = s.lat.pos) : t.chain = s.chain := by
  simp only [State.chain, h]

/-- A _LO and _HI pair just set reads its value. -/
theorem State.setNum64_num64 (s : State) (lo v : Nat) : (s.setNum64 lo v).num64 lo = v % 2 ^ 64 := by
  have h1 := State.setNum_num_same (s.setNum lo v) (lo + 4) (v / 2 ^ 32)
  have h2 : (s.setNum64 lo v).num lo = v % 2 ^ 32 :=
    (State.num_congr (State.setNum_reg_other _ _ _ _ (by omega))).trans (s.setNum_num_same lo v)
  rw [State.num64, h2, show (s.setNum64 lo v).num (lo + 4) = v / 2 ^ 32 % 2 ^ 32 from h1]
  omega

theorem State.setNum64_onlyRegs (s : State) (lo v : Nat) : OnlyRegs [lo, lo + 4] s (s.setNum64 lo v) :=
  ((OnlyRegs.refl _ s).setNum).setNum

theorem State.num64_congr {s t : State} {lo : Nat} (h : t.reg lo = s.reg lo) (h2 : t.reg (lo + 4) = s.reg (lo + 4)) : t.num64 lo = s.num64 lo := by
  rw [State.num64, State.num_congr h, State.num_congr h2]
  rfl

/-! ### Cross-stamps -/

/-- One base of a cross-stamp (R8). -/
def stampBase (s : State) (a : State) (n : Nat) : State :=
  (a.setNum (Reg.LAT_XS_TBn_SEC n) (s.tb n).sec).setNum (Reg.LAT_XS_TBn_NS n) (s.tb n).ns

/-- The registers of the four bases of a cross-stamp. -/
def stampRegs : List Nat := (List.range 4).flatMap fun n => [Reg.LAT_XS_TBn_SEC n, Reg.LAT_XS_TBn_NS n]

theorem State.stampBases_spec (a s : State) {k : Nat} (hk : k ≤ 4) : OnlyChanges [.regs] a (a.forN k (stampBase s))
    ∧ OnlyRegs stampRegs a (a.forN k (stampBase s)) ∧ ∀ n, n < k → (a.forN k (stampBase s)).num (Reg.LAT_XS_TBn_SEC n) = (s.tb n).sec % 2 ^ 32
      ∧ (a.forN k (stampBase s)).num (Reg.LAT_XS_TBn_NS n) = (s.tb n).ns % 2 ^ 32 := by
  induction k with
  | zero => exact ⟨OnlyChanges.refl _ a, OnlyRegs.refl _ a, fun n hn => absurd hn (by omega)⟩
  | succ k ih =>
    obtain ⟨h1, h2, h3⟩ := ih (by omega)
    rw [State.forN_succ]
    generalize a.forN k (stampBase s) = b at *
    have hmem : ∀ off, off = Reg.LAT_XS_TBn_SEC k ∨ off = Reg.LAT_XS_TBn_NS k → off ∈ stampRegs := fun off h => by
      have table : ∀ j : Fin 4, Reg.LAT_XS_TBn_SEC j ∈ stampRegs ∧ Reg.LAT_XS_TBn_NS j ∈ stampRegs := by decide
      obtain rfl | rfl := h
      · exact (table ⟨k, by omega⟩).1
      · exact (table ⟨k, by omega⟩).2
    have hns : (stampBase s b k).num (Reg.LAT_XS_TBn_NS k) = (s.tb k).ns % 2 ^ 32 := State.setNum_num_same _ _ _
    have hsec : (stampBase s b k).num (Reg.LAT_XS_TBn_SEC k) = (s.tb k).sec % 2 ^ 32 :=
      (State.num_congr (State.setNum_reg_other _ _ _ _ (by simp only [Reg.LAT_XS_TBn_NS, Reg.LAT_XS_TBn_SEC]; omega))).trans (State.setNum_num_same _ _ _)
    have hother : ∀ off, Reg.LAT_XS_TBn_SEC k ≠ off → Reg.LAT_XS_TBn_NS k ≠ off → (stampBase s b k).reg off = b.reg off := fun off g1 g2 =>
      (State.setNum_reg_other _ _ _ _ g2).trans (State.setNum_reg_other _ _ _ _ g1)
    refine ⟨h1.trans ((b.setNum_onlyChanges _ _).trans (State.setNum_onlyChanges _ _ _)), fun off h => ?_, fun n hn => ?_⟩
    · exact (hother off (fun e => h (hmem off (.inl e.symm))) (fun e => h (hmem off (.inr e.symm)))).trans (h2 off h)
    · by_cases he : n = k
      · subst he
        exact ⟨hsec, hns⟩
      · obtain ⟨g1, g2⟩ := h3 n (by omega)
        refine ⟨(State.num_congr (hother _ ?_ ?_)).trans g1, (State.num_congr (hother _ ?_ ?_)).trans g2⟩
        all_goals simp only [Reg.LAT_XS_TBn_SEC, Reg.LAT_XS_TBn_NS]; omega

/-- The registers that a cross-stamp changes. -/
def crossRegs : List Nat := Reg.LAT_XS_CHAIN_LO :: (Reg.LAT_XS_CHAIN_LO + 4) :: Reg.LAT_XS_SEQ :: stampRegs

/-- A cross-stamp records chainage and bases, and counts (R8). -/
theorem State.crossStamp_spec (s : State) (period : Nat) :
    (s.crossStamp period).num Reg.LAT_XS_SEQ = (s.num Reg.LAT_XS_SEQ + 1) % 2 ^ 32
    ∧ (s.crossStamp period).num64 Reg.LAT_XS_CHAIN_LO = s.chain % 2 ^ 64
    ∧ (∀ n, n < 4 → (s.crossStamp period).num (Reg.LAT_XS_TBn_SEC n) = (s.tb n).sec % 2 ^ 32
        ∧ (s.crossStamp period).num (Reg.LAT_XS_TBn_NS n) = (s.tb n).ns % 2 ^ 32)
    ∧ (s.crossStamp period).lat = { s.lat with xsTbs := s.tbs, xsPeriod := period }
    ∧ OnlyChanges [.regs, .lat] s (s.crossStamp period) ∧ OnlyRegs crossRegs s (s.crossStamp period) := by
  have heq : s.crossStamp period = { (((s.setNum64 Reg.LAT_XS_CHAIN_LO s.chain).forN 4 (stampBase s)).wrapInc Reg.LAT_XS_SEQ 1) with
    lat := { (((s.setNum64 Reg.LAT_XS_CHAIN_LO s.chain).forN 4 (stampBase s)).wrapInc Reg.LAT_XS_SEQ 1).lat with
      xsTbs := s.tbs, xsPeriod := period } } := rfl
  rw [heq]
  have hc := s.setNum64_num64 Reg.LAT_XS_CHAIN_LO s.chain
  have hch := s.setNum64_onlyChanges Reg.LAT_XS_CHAIN_LO s.chain
  have hcr := s.setNum64_onlyRegs Reg.LAT_XS_CHAIN_LO s.chain
  generalize s.setNum64 Reg.LAT_XS_CHAIN_LO s.chain = a at *
  obtain ⟨b1, b2, b3⟩ := a.stampBases_spec s (k := 4) (Nat.le_refl 4)
  generalize a.forN 4 (stampBase s) = b at *
  have hw := b.wrapInc_onlyChanges Reg.LAT_XS_SEQ 1
  have hwn := b.wrapInc_num Reg.LAT_XS_SEQ 1
  have hwr : OnlyRegs [Reg.LAT_XS_SEQ] b (b.wrapInc Reg.LAT_XS_SEQ 1) := (OnlyRegs.refl _ b).wrapInc
  generalize b.wrapInc Reg.LAT_XS_SEQ 1 = d at *
  have hlat : d.lat = s.lat := (hw.2.2 .lat (by simp)).trans ((b1.2.2 .lat (by simp)).trans (hch.2.2 .lat (by simp)))
  have hend := d.withLat_onlyChanges { d.lat with xsTbs := s.tbs, xsPeriod := period }
  have hreg : ∀ off, ({ d with lat := { d.lat with xsTbs := s.tbs, xsPeriod := period } } : State).reg off = d.reg off := fun _ => rfl
  refine ⟨?_, ?_, fun n hn => ?_, by rw [hlat], ?_, ?_⟩
  · rw [State.num_congr (hreg _), hwn, State.num_congr (b2 _ (by decide)), State.num_congr (hcr _ (by decide))]
  · rw [State.num64_congr ((hreg _).trans ((hwr _ (by decide)).trans (b2 _ (by decide)))) ((hreg _).trans ((hwr _ (by decide)).trans (b2 _ (by decide)))), hc]
  · obtain ⟨g1, g2⟩ := b3 n hn
    have table : ∀ j : Fin 4, Reg.LAT_XS_TBn_SEC j ∉ [Reg.LAT_XS_SEQ] ∧ Reg.LAT_XS_TBn_NS j ∉ [Reg.LAT_XS_SEQ] := by decide
    exact ⟨(State.num_congr ((hreg _).trans (hwr _ (table ⟨n, hn⟩).1))).trans g1, (State.num_congr ((hreg _).trans (hwr _ (table ⟨n, hn⟩).2))).trans g2⟩
  · exact (hch.mono (by simp)).trans ((b1.mono (by simp)).trans ((hw.mono (by simp)).trans (hend.mono (by simp))))
  · have hm1 : ∀ off, off ∈ [Reg.LAT_XS_CHAIN_LO, Reg.LAT_XS_CHAIN_LO + 4] → off ∈ crossRegs := by decide
    have hm2 : ∀ off, off ∈ stampRegs → off ∈ crossRegs := by decide
    have hm3 : ∀ off, off ∈ [Reg.LAT_XS_SEQ] → off ∈ crossRegs := by decide
    exact (hcr.mono hm1).trans ((b2.mono hm2).trans ((hwr.mono hm3).trans (OnlyRegs.of_regs_eq rfl)))

/-! ### A qualified crossing in LOCKED -/

/-- What a qualified crossing shows before it steers (R104). -/
def State.crossNoted (s : State) : State :=
  let err := s.crossErr
  let per := match s.prevQual with
    | some c => s.clk - c
    | none => 0
  let ps := match s.prevQual with
    | some c => ((s.clk - c) :: s.lat.periods).take 8
    | none => []
  let s1 := match s.prevQual with
    | some _ => s.setNum Reg.LAT_PERIOD per
    | none => s
  let s2 := if ps = [] then s1
            else s1.setFld Reg.LAT_FREQ 0 20 (800000000000 * ps.length / Nat.max 1 (ps.foldl (· + ·) 0))
  let s3 := (s2.setNum Reg.LAT_PHASE_ERR (unsigned 32 err)).setFlag Reg.LAT_STATE 4 true
  { s3 with lat := { s3.lat with lastQual := some s.clk, errRun := 0, periods := if ps = [] then s3.lat.periods else ps } }

theorem unsigned_lt (x : Int) : unsigned 32 x < 2 ^ 32 := by
  unfold unsigned
  omega

theorem State.crossNoted_spec (s : State) : s.crossNoted.latSt = s.latSt ∧ s.crossNoted.num Reg.LAT_PHASE_ERR = unsigned 32 s.crossErr
    ∧ s.crossNoted.lat.lastQual = some s.clk ∧ s.crossNoted.lat.pos = s.lat.pos
    ∧ (∀ c, s.prevQual = some c → s.crossNoted.num Reg.LAT_PERIOD = (s.clk - c) % 2 ^ 32)
    ∧ OnlyChanges [.regs, .lat] s s.crossNoted ∧ OnlyRegs [Reg.LAT_PERIOD, Reg.LAT_FREQ, Reg.LAT_PHASE_ERR, Reg.LAT_STATE] s s.crossNoted := by
  obtain ⟨a, ps, hper, hach, har, heq⟩ : ∃ (a : State) (ps : List Nat), (∀ c, s.prevQual = some c → a.num Reg.LAT_PERIOD = (s.clk - c) % 2 ^ 32)
      ∧ OnlyChanges [.regs] s a ∧ OnlyRegs [Reg.LAT_PERIOD, Reg.LAT_FREQ] s a
      ∧ s.crossNoted = (let s3 := (a.setNum Reg.LAT_PHASE_ERR (unsigned 32 s.crossErr)).setFlag Reg.LAT_STATE 4 true
        { s3 with lat := { s3.lat with lastQual := some s.clk, errRun := 0, periods := if ps = [] then s3.lat.periods else ps } }) := by
    unfold State.crossNoted
    cases hp : s.prevQual with
    | none =>
      simp only [if_true]
      exact ⟨s, [], fun c h => absurd h (by simp), OnlyChanges.refl _ s, OnlyRegs.refl _ s, rfl⟩
    | some c =>
      have h1 := s.setNum_num_same Reg.LAT_PERIOD (s.clk - c)
      have h2 := s.setNum_onlyChanges Reg.LAT_PERIOD (s.clk - c)
      have h3 : OnlyRegs [Reg.LAT_PERIOD, Reg.LAT_FREQ] s (s.setNum Reg.LAT_PERIOD (s.clk - c)) := (OnlyRegs.refl _ s).setNum
      simp only
      rw [if_neg (by simp)]
      generalize s.setNum Reg.LAT_PERIOD (s.clk - c) = b at *
      refine ⟨_, ((s.clk - c) :: s.lat.periods).take 8, fun d hd => ?_, h2.trans (b.setFld_onlyChanges _ _ _ _), h3.setFld, rfl⟩
      rw [← Option.some.inj hd]
      exact (State.num_congr (b.setFld_reg_other _ _ _ _ _ (by decide))).trans h1
  rw [heq]
  simp only
  have g1 := a.setNum_num_same Reg.LAT_PHASE_ERR (unsigned 32 s.crossErr)
  have g2 := a.setNum_onlyChanges Reg.LAT_PHASE_ERR (unsigned 32 s.crossErr)
  have g3 : OnlyRegs [Reg.LAT_PHASE_ERR] a (a.setNum Reg.LAT_PHASE_ERR (unsigned 32 s.crossErr)) := (OnlyRegs.refl _ a).setNum
  generalize a.setNum Reg.LAT_PHASE_ERR (unsigned 32 s.crossErr) = b at *
  have k1 : (b.setFlag Reg.LAT_STATE 4 true).latSt = b.latSt := State.setFld_fld_other b Reg.LAT_STATE 4 1 _ 0 3 (by decide) (.inr (by decide))
  have k2 := b.setFlag_onlyChanges Reg.LAT_STATE 4 true
  have k3 : OnlyRegs [Reg.LAT_STATE] b (b.setFlag Reg.LAT_STATE 4 true) := (OnlyRegs.refl _ b).setFlag
  generalize b.setFlag Reg.LAT_STATE 4 true = d at *
  have hlat : d.lat = s.lat := (k2.2.2 .lat (by simp)).trans ((g2.2.2 .lat (by simp)).trans (hach.2.2 .lat (by simp)))
  have hend := d.withLat_onlyChanges { d.lat with lastQual := some s.clk, errRun := 0, periods := if ps = [] then d.lat.periods else ps }
  have hreg : ∀ off, ({ d with lat := { d.lat with lastQual := some s.clk, errRun := 0, periods := if ps = [] then d.lat.periods else ps } } : State).reg off
      = d.reg off := fun _ => rfl
  refine ⟨?_, ?_, trivial, congrArg Lat.pos hlat, fun c hc => ?_, ?_, ?_⟩
  · exact (State.latSt_congr (hreg _)).trans (k1.trans ((State.latSt_congr (g3 _ (by decide))).trans (State.latSt_congr (har _ (by decide)))))
  · rw [State.num_congr ((hreg _).trans (k3 _ (by decide))), g1]
    exact Nat.mod_eq_of_lt (unsigned_lt _)
  · rw [State.num_congr ((hreg _).trans ((k3 _ (by decide)).trans (g3 _ (by decide)))), hper c hc]
  · exact (hach.mono (by simp)).trans ((g2.mono (by simp)).trans ((k2.mono (by simp)).trans (hend.mono (by simp))))
  · exact (har.mono (by decide)).trans ((g3.mono (by decide)).trans ((k3.mono (by decide)).trans (OnlyRegs.of_regs_eq rfl)))

theorem State.steer_spec (s : State) (r : Int) : (s.steer r).lat.pos = s.lat.pos ∧ (s.steer r).lat.lastQual = s.lat.lastQual
    ∧ OnlyChanges [.regs, .lat] s (s.steer r) ∧ OnlyRegs [Reg.LAT_SLEW] s (s.steer r) := by
  unfold State.steer
  simp only
  have h1 := s.setNum_onlyChanges Reg.LAT_SLEW (unsigned 32 r)
  have h2 : OnlyRegs [Reg.LAT_SLEW] s (s.setNum Reg.LAT_SLEW (unsigned 32 r)) := (OnlyRegs.refl _ s).setNum
  generalize s.setNum Reg.LAT_SLEW (unsigned 32 r) = a at *
  have hlat : a.lat = s.lat := h1.2.2 .lat (by simp)
  exact ⟨congrArg Lat.pos hlat, congrArg Lat.lastQual hlat, (h1.mono (by simp)).trans ((a.withLat_onlyChanges _).mono (by simp)), h2.trans (OnlyRegs.of_regs_eq rfl)⟩

/-- A qualified crossing in LOCKED steers on (R106, R110). -/
theorem State.onQualified_locked (h : s.latSt = LatSt.LOCKED) : s.onQualified.lat.pos = s.lat.pos ∧ s.onQualified.lat.lastQual = s.lat.lastQual
    ∧ OnlyChanges [.regs, .lat] s s.onQualified ∧ OnlyRegs [Reg.LAT_SLEW] s s.onQualified := by
  have heq : s.onQualified = if s.lat.wholeLeft = 0 then { s.steer (s.crossErr + s.lat.wholeLeft) with
      lat := { (s.steer (s.crossErr + s.lat.wholeLeft)).lat with whole := 0, wholeApplied := 0 } } else s.steer (s.crossErr + s.lat.wholeLeft) := by
    simp only [State.onQualified, h]
  obtain ⟨h1, h2, h3, h4⟩ := s.steer_spec (s.crossErr + s.lat.wholeLeft)
  rw [heq]
  generalize s.steer (s.crossErr + s.lat.wholeLeft) = a at *
  split
  · exact ⟨h1, h2, h3.trans ((a.withLat_onlyChanges _).mono (by simp)), h4.trans (OnlyRegs.of_regs_eq rfl)⟩
  · exact ⟨h1, h2, h3, h4⟩

theorem State.benchmark_eq {vrms : Nat} (h : s.qualifies vrms = true) : s.benchmark vrms =
    if s.crossNoted.onQualified.latSt = LatSt.RESET then s.crossNoted.onQualified
    else s.crossNoted.onQualified.crossStamp (if (match s.prevQual with
      | some c => s.clk - c
      | none => 0) = 0 then s.nominalClk else match s.prevQual with
      | some c => s.clk - c
      | none => 0) := by
  unfold State.benchmark
  rw [if_pos h]
  rfl

/-- A qualified crossing in LOCKED, as it happens (R8, R104). -/
theorem State.benchmark_locked {vrms : Nat} (hlock : s.latSt = LatSt.LOCKED) (hq : s.qualifies vrms = true) :
    (s.benchmark vrms).latSt = LatSt.LOCKED ∧ (s.benchmark vrms).num Reg.LAT_PHASE_ERR = unsigned 32 s.crossErr
    ∧ (s.benchmark vrms).lat.lastQual = some s.clk
    ∧ (∀ c, s.prevQual = some c → (s.benchmark vrms).num Reg.LAT_PERIOD = (s.clk - c) % 2 ^ 32)
    ∧ (s.benchmark vrms).num Reg.LAT_XS_SEQ = (s.num Reg.LAT_XS_SEQ + 1) % 2 ^ 32
    ∧ (s.benchmark vrms).num64 Reg.LAT_XS_CHAIN_LO = s.chain % 2 ^ 64 ∧ (s.benchmark vrms).lat.pos = s.lat.pos
    ∧ OnlyChanges [.regs, .lat] s (s.benchmark vrms) := by
  rw [State.benchmark_eq hq]
  obtain ⟨h1, h2, h3, h4, h5, h6, h7⟩ := s.crossNoted_spec
  generalize s.crossNoted = a at *
  obtain ⟨g1, g2, g3, g4⟩ := State.onQualified_locked (h1.trans hlock)
  generalize a.onQualified = b at *
  have hb : b.latSt = LatSt.LOCKED := (State.latSt_congr (g4 _ (by decide))).trans (h1.trans hlock)
  rw [if_neg (by rw [hb]; decide)]
  generalize (if (match s.prevQual with
      | some c => s.clk - c
      | none => 0) = 0 then s.nominalClk else match s.prevQual with
      | some c => s.clk - c
      | none => 0) = per
  obtain ⟨k1, k2, -, k4, k5, k6⟩ := b.crossStamp_spec per
  generalize b.crossStamp per = d at *
  have hpos : b.lat.pos = s.lat.pos := g1.trans h4
  refine ⟨(State.latSt_congr (k6 _ (by decide))).trans hb, ?_, ?_, fun c hc => ?_, ?_, ?_, ?_, h6.trans (g3.trans k5)⟩
  · rw [State.num_congr ((k6 _ (by decide)).trans (g4 _ (by decide))), h2]
  · rw [k4]
    exact g2.trans h3
  · rw [State.num_congr ((k6 _ (by decide)).trans (g4 _ (by decide))), h5 c hc]
  · rw [k1, State.num_congr ((g4 _ (by decide)).trans (h7 _ (by decide)))]
  · rw [k2, State.chain_congr hpos]
  · rw [k4]
    exact hpos

theorem TimeBase.before_zero (l : List TimeBase) : l.map (TimeBase.before 0) = l := by
  have h : TimeBase.before 0 = id := funext fun b => by simp [TimeBase.before]
  rw [h, List.map_id]

/-- Nothing of a whole-cycle correction is left to count (R110). -/
theorem State.noteApplied_none (hw : s.lat.whole = 0) (ha : s.lat.wholeApplied = 0) : s.noteApplied = s := by
  have hleft : s.lat.wholeLeft = 0 := by simp [Lat.wholeLeft, hw, ha]
  unfold State.noteApplied
  simp only [hleft, lt_self_iff_false, false_and, if_false, Int.add_zero]
  split
  · rfl
  · rfl

/-- A crossing delivered as it happens is judged on the state as it stands. -/
theorem State.benchmarkAt_now {vrms : Nat} (hlock : s.latSt = LatSt.LOCKED) (hw : s.lat.whole = 0) (ha : s.lat.wholeApplied = 0)
    (hq : s.qualifies vrms = true) : s.benchmarkAt 0 vrms = s.benchmark vrms := by
  obtain ⟨-, -, -, -, -, -, hpos, hch⟩ := State.benchmark_locked hlock hq
  have hpast : ({ s with clk := s.clk - 0, tbs := s.tbs.map (TimeBase.before 0), lat := { s.lat with pos := s.lat.pos - 0 * s.lat.rate } } : State) = s := by
    rw [TimeBase.before_zero, Nat.zero_mul]
    rfl
  unfold State.benchmarkAt
  rw [hpast]
  simp only [State.noteApplied_none hw ha]
  rw [if_neg (by rw [hlock]; rintro ⟨h, -⟩; exact absurd h (by decide)), ← hpos, ← hch.2.1, ← show (s.benchmark vrms).tbs = s.tbs from hch.2.2 .tbs (by simp)]

end

end Sys2Proof.Machine

/-! PROOFS. LAT's transitions without a crossing, and the timebase settled (R8, R104 to R109). -/

namespace Sys2Proof.Machine

-- One declaration after the other: the stacks of parallel elaboration would count against the memory limit of the check.
set_option Elab.async false

section
variable {s a : State} {n : Nat}

/-! ### Entering SYNTHETIC -/

theorem State.latGoto_spec (s : State) {st : Nat} (hst : st < 8) : (s.latGoto st).latSt = st ∧ (s.latGoto st).lat = { s.lat with goodRun := 0, errRun := 0 }
    ∧ (∀ i, 3 ≤ i → (s.latGoto st).flag Reg.LAT_STATE i = s.flag Reg.LAT_STATE i)
    ∧ OnlyChanges [.regs, .out, .lat] s (s.latGoto st) ∧ OnlyRegs (Reg.LAT_STATE :: irqRegs Blk.LAT) s (s.latGoto st) := by
  unfold State.latGoto
  simp only
  have h1 := (State.setFld_fld_same s Reg.LAT_STATE 0 3 st (by decide)).trans (Nat.mod_eq_of_lt hst)
  have ho : ∀ i, 3 ≤ i → (s.setFld Reg.LAT_STATE 0 3 st).flag Reg.LAT_STATE i = s.flag Reg.LAT_STATE i := fun i hi => by
    simp only [State.flag, State.setFld_fld_other _ Reg.LAT_STATE 0 3 _ i 1 (by decide) (.inl (by omega))]
  have h2 := s.setFld_onlyChanges Reg.LAT_STATE 0 3 st
  have h3 : OnlyRegs [Reg.LAT_STATE] s (s.setFld Reg.LAT_STATE 0 3 st) := (OnlyRegs.refl _ s).setFld
  generalize s.setFld Reg.LAT_STATE 0 3 st = b at *
  have i1 := b.raiseIrq_onlyChanges Blk.LAT 1
  have i2 := b.raiseIrq_onlyRegs Blk.LAT 1
  have hst : (b.raiseIrq Blk.LAT 1).reg Reg.LAT_STATE = b.reg Reg.LAT_STATE := i2 _ (by decide)
  generalize b.raiseIrq Blk.LAT 1 = d at *
  have hlat : d.lat = s.lat := (i1.2.2 .lat (by simp)).trans (h2.2.2 .lat (by simp))
  refine ⟨(State.fld_congr hst 0 3).trans h1, by rw [hlat], fun i hi => (State.flag_congr b d _ _ hst).trans (ho i hi), ?_, ?_⟩
  · exact (h2.mono (by simp)).trans ((i1.mono (by simp)).trans ((d.withLat_onlyChanges _).mono (by simp)))
  · exact (h3.mono (by simp)).trans ((i2.mono (fun off h => List.mem_cons_of_mem _ h)).trans (OnlyRegs.of_regs_eq rfl))

theorem State.armStarts_spec (s : State) : OnlyChanges [.regs] s s.armStarts
    ∧ ∀ off, (∀ t, t < 16 → Reg.SCN_TnNEXT_LO t ≠ off ∧ Reg.SCN_TnNEXT_LO t + 4 ≠ off) → s.armStarts.reg off = s.reg off := by
  have harm : ∀ (a : State) t, OnlyChanges [.regs] a (a.armNext t) ∧ OnlyRegs [Reg.SCN_TnNEXT_LO t, Reg.SCN_TnNEXT_LO t + 4] a (a.armNext t) := fun a t => by
    unfold State.armNext
    split
    · exact ⟨a.setNum64_onlyChanges _ _, a.setNum64_onlyRegs _ _⟩
    · exact ⟨OnlyChanges.refl _ a, OnlyRegs.refl _ a⟩
  unfold State.armStarts
  refine ⟨State.forN_onlyChanges 16 fun a t => ?_, fun off h => State.forN_reg_below s 16 fun a t ht => ?_⟩
  · split
    · exact OnlyChanges.refl _ a
    · exact (harm a t).1
  · split
    · rfl
    · obtain ⟨g1, g2⟩ := h t ht
      exact (harm a t).2 off (by simp [Ne.symm g1, Ne.symm g2])

theorem State.restoreStakes_none (h : s.lat.stored = []) : ∃ x, s.restoreStakes = { s with lat := x } ∧ x.pos = s.lat.pos := by
  unfold State.restoreStakes
  split
  · exact ⟨s.lat, rfl, rfl⟩
  · simp only [h, List.foldl_nil]
    exact ⟨{ s.lat with restored := true, stored := [] }, by simp only [← h], rfl⟩

/-- The registers that RUN's first setting may change. -/
def runRegs : List Nat := Reg.LAT_STATE :: (List.range 16).flatMap fun t => [Reg.SCN_TnNEXT_LO t, Reg.SCN_TnNEXT_LO t + 4]

theorem nextLo_mem_runRegs {t : Nat} (h : t < 16) : Reg.SCN_TnNEXT_LO t ∈ runRegs ∧ Reg.SCN_TnNEXT_LO t + 4 ∈ runRegs := by
  have table : ∀ j : Fin 16, Reg.SCN_TnNEXT_LO j ∈ runRegs ∧ Reg.SCN_TnNEXT_LO j + 4 ∈ runRegs := by decide
  exact table ⟨t, h⟩

/-- RUN is set; with nothing stored no stake is restored (R106, R120). -/
theorem State.latRun_spec (h : s.lat.stored = []) : s.latRun.flag Reg.LAT_STATE 3 = true ∧ s.latRun.latSt = s.latSt
    ∧ s.latRun.lat.pos = s.lat.pos ∧ OnlyChanges [.regs, .lat] s s.latRun ∧ OnlyRegs runRegs s s.latRun := by
  obtain ⟨a, h1, h2, h3, h4, heq⟩ : ∃ a : State, a.flag Reg.LAT_STATE 3 = true ∧ a.latSt = s.latSt ∧ OnlyChanges [.regs] s a
      ∧ OnlyRegs runRegs s a ∧ s.latRun = a.restoreStakes := by
    unfold State.latRun
    by_cases hrun : s.flag Reg.LAT_STATE 3 = true
    · rw [if_pos hrun]
      exact ⟨s, hrun, rfl, OnlyChanges.refl _ s, OnlyRegs.refl _ s, rfl⟩
    · rw [if_neg hrun]
      have f1 := s.setFlag_flag_same Reg.LAT_STATE 3 true (by decide)
      have f2 : (s.setFlag Reg.LAT_STATE 3 true).latSt = s.latSt := State.setFld_fld_other s Reg.LAT_STATE 3 1 _ 0 3 (by decide) (.inr (by decide))
      have f3 := s.setFlag_onlyChanges Reg.LAT_STATE 3 true
      have f4 : OnlyRegs runRegs s (s.setFlag Reg.LAT_STATE 3 true) := (OnlyRegs.refl _ s).setFlag List.mem_cons_self
      generalize s.setFlag Reg.LAT_STATE 3 true = b at *
      obtain ⟨g1, g2⟩ := b.armStarts_spec
      have hst : b.armStarts.reg Reg.LAT_STATE = b.reg Reg.LAT_STATE := g2 _ fun t ht => by
        simp only [Reg.SCN_TnNEXT_LO, Reg.LAT_STATE]; omega
      refine ⟨_, (State.flag_congr _ _ _ _ hst).trans f1, (State.latSt_congr hst).trans f2, f3.trans g1, f4.trans fun off hoff => g2 off fun t ht => ?_, rfl⟩
      obtain ⟨m1, m2⟩ := nextLo_mem_runRegs ht
      exact ⟨fun e => hoff (e ▸ m1), fun e => hoff (e ▸ m2)⟩
  have hlat : a.lat = s.lat := h3.2.2 .lat (by simp)
  obtain ⟨x, hx, hpos⟩ := State.restoreStakes_none (s := a) (by rw [hlat]; exact h)
  rw [heq, hx]
  exact ⟨h1, h2, hpos.trans (by rw [hlat]), (h3.mono (by simp)).trans ((a.withLat_onlyChanges x).mono (by simp)), h4.trans (OnlyRegs.of_regs_eq rfl)⟩

/-- The registers of an anchor. -/
def anchorRegs : List Nat := [Reg.LAT_ANCHOR_CHAIN_LO, Reg.LAT_ANCHOR_CHAIN_LO + 4, Reg.LAT_ANCHOR_TB0_SEC, Reg.LAT_ANCHOR_TB0_NS]

theorem State.takeAnchor_spec (s : State) : s.takeAnchor.num64 Reg.LAT_ANCHOR_CHAIN_LO = s.chain % 2 ^ 64 ∧ s.takeAnchor.lat.pos = s.lat.pos
    ∧ s.takeAnchor.lat.stored = s.lat.stored ∧ OnlyChanges [.regs, .lat] s s.takeAnchor ∧ OnlyRegs anchorRegs s s.takeAnchor := by
  unfold State.takeAnchor
  simp only
  have h1 := s.setNum64_num64 Reg.LAT_ANCHOR_CHAIN_LO s.chain
  have h2 := s.setNum64_onlyChanges Reg.LAT_ANCHOR_CHAIN_LO s.chain
  have h3 := s.setNum64_onlyRegs Reg.LAT_ANCHOR_CHAIN_LO s.chain
  generalize s.setNum64 Reg.LAT_ANCHOR_CHAIN_LO s.chain = b at *
  have g2 := (b.setNum_onlyChanges Reg.LAT_ANCHOR_TB0_SEC (s.tb 0).sec).trans (State.setNum_onlyChanges _ Reg.LAT_ANCHOR_TB0_NS (s.tb 0).ns)
  have g3 : OnlyRegs [Reg.LAT_ANCHOR_TB0_SEC, Reg.LAT_ANCHOR_TB0_NS] b ((b.setNum Reg.LAT_ANCHOR_TB0_SEC (s.tb 0).sec).setNum Reg.LAT_ANCHOR_TB0_NS (s.tb 0).ns) :=
    ((OnlyRegs.refl _ b).setNum).setNum
  generalize (b.setNum Reg.LAT_ANCHOR_TB0_SEC (s.tb 0).sec).setNum Reg.LAT_ANCHOR_TB0_NS (s.tb 0).ns = d at *
  have hlat : d.lat = s.lat := (g2.2.2 .lat (by simp)).trans (h2.2.2 .lat (by simp))
  refine ⟨(State.num64_congr ?_ ?_).trans h1, congrArg Lat.pos hlat, congrArg Lat.stored hlat, ?_, ?_⟩
  · exact g3 _ (by decide)
  · exact g3 _ (by decide)
  · exact (h2.mono (by simp)).trans ((g2.mono (by simp)).trans ((d.withLat_onlyChanges _).mono (by simp)))
  · exact (h3.mono (by decide)).trans ((g3.mono (by decide)).trans (OnlyRegs.of_regs_eq rfl))

/-- SYNTHETIC begins with an anchor (R106, R109). -/
theorem State.enterSynthetic_spec (h : s.lat.stored = []) : s.enterSynthetic.latSt = LatSt.SYNTHETIC ∧ s.enterSynthetic.flag Reg.LAT_STATE 3 = true
    ∧ s.enterSynthetic.num64 Reg.LAT_ANCHOR_CHAIN_LO = s.chain % 2 ^ 64 ∧ s.enterSynthetic.lat.pos = s.lat.pos
    ∧ s.enterSynthetic.num Reg.LAT_RELOCK_CNT = s.num Reg.LAT_RELOCK_CNT
    ∧ OnlyChanges [.regs, .out, .lat] s s.enterSynthetic := by
  unfold State.enterSynthetic
  obtain ⟨g1, g2, -, g4, g5⟩ := s.latGoto_spec (st := LatSt.SYNTHETIC) (by decide)
  generalize s.latGoto LatSt.SYNTHETIC = a at *
  obtain ⟨k1, k2, k3, k4, k5⟩ := a.takeAnchor_spec
  generalize a.takeAnchor = b at *
  have hstored : b.lat.stored = [] := by rw [k3, g2]; exact h
  obtain ⟨r1, r2, r3, r4, r5⟩ := State.latRun_spec hstored
  generalize b.latRun = d at *
  have hpos : a.lat.pos = s.lat.pos := by rw [g2]
  have hlow : ∀ off, off < 0x200000 → off ∉ [Reg.LAT_STATE] → off ∉ runRegs := fun off hlt hne hm => by
    obtain he | hm := List.mem_cons.1 hm
    · exact hne (by simp [he])
    · obtain ⟨t, -, ht⟩ := List.mem_flatMap.1 hm
      simp only [Reg.SCN_TnNEXT_LO, List.mem_cons, List.not_mem_nil, or_false] at ht
      omega
  refine ⟨r2.trans ((State.latSt_congr (k5 _ (by decide))).trans g1), r1, ?_, r3.trans (k2.trans hpos), ?_, ?_⟩
  · rw [State.num64_congr (r5 _ (hlow _ (by decide) (by decide))) (r5 _ (hlow _ (by decide) (by decide))), k1, State.chain_congr hpos]
  · rw [State.num_congr (r5 _ (hlow _ (by decide) (by decide))), State.num_congr (k5 _ (by decide)), State.num_congr (g5 _ (by decide))]
  · exact g4.trans ((k4.mono (by simp)).trans (r4.mono (by simp)))

/-! ### The commands -/

/-- LAT's part when holdover begins: the mean rate, every correction abandoned (R108). -/
def Lat.holding (l : Lat) (rate ch : Nat) : Lat := { l with rate := rate, corr := 0, slew := 0, whole := 0, wholeApplied := 0, holdCh := ch }

theorem exec_refLoss_due {c : Nat} (hup : s.Up) (halone : s.Alone) (hcross : s.emu.crossing = none)
    (hst : s.latSt = LatSt.LOCKED ∨ s.latSt = LatSt.RELOCK) (hlast : s.lat.lastQual = some c) (hdue : s.lossDue c = true) :
    ∃ t, exec .refLoss s = .next t ∧ t.latSt = LatSt.HOLDOVER ∧ t.lat.holdCh = s.chain
      ∧ t.flag Reg.LAT_STATE 4 = false ∧ t.num Reg.LAT_SLEW = 0
      ∧ t.lat.rate = rateFor (meanPeriod s.lat.periods s.nominalClk) 0 ∧ OnlyChanges [.regs, .out, .lat] s t := by
  have f1 := s.setFlag_flag_same Reg.LAT_STATE 4 false (by decide)
  have f2 := s.setFlag_onlyChanges Reg.LAT_STATE 4 false
  have hgoal : exec .refLoss s = s.powered fun s => s.yielding Rank.EXPIRY .refLoss fun s =>
      if s.emu.crossing.isSome ∨ !(s.lat.lastQual.map s.lossDue).getD false then s
      else if s.latSt = LatSt.LOCKED ∨ s.latSt = LatSt.RELOCK then
        let s2 := if s.latSt = LatSt.LOCKED then ((s.setFlag Reg.LAT_STATE 4 false).latGoto LatSt.HOLDOVER).raiseIrq Blk.LAT 2
          else (s.setFlag Reg.LAT_STATE 4 false).latGoto LatSt.HOLDOVER
        ({ s2 with lat := s2.lat.holding (rateFor (meanPeriod s.lat.periods s.nominalClk) 0) s.chain } : State).setNum Reg.LAT_SLEW 0
      else { s.setFlag Reg.LAT_STATE 4 false with lat := { (s.setFlag Reg.LAT_STATE 4 false).lat with goodRun := 0 } } := rfl
  obtain ⟨g1, -, g3, g4, -⟩ := (s.setFlag Reg.LAT_STATE 4 false).latGoto_spec (st := LatSt.HOLDOVER) (by decide)
  obtain ⟨b, hb, b1, b2, b3⟩ : ∃ b, (if s.latSt = LatSt.LOCKED then ((s.setFlag Reg.LAT_STATE 4 false).latGoto LatSt.HOLDOVER).raiseIrq Blk.LAT 2
        else (s.setFlag Reg.LAT_STATE 4 false).latGoto LatSt.HOLDOVER) = b ∧ b.latSt = LatSt.HOLDOVER ∧ b.flag Reg.LAT_STATE 4 = false
      ∧ OnlyChanges [.regs, .out, .lat] s b := by
    generalize s.setFlag Reg.LAT_STATE 4 false = a at *
    have hflag : (a.latGoto LatSt.HOLDOVER).flag Reg.LAT_STATE 4 = false := (g3 4 (by decide)).trans f1
    have hch := (f2.mono (qs := [.regs, .out, .lat]) (by simp)).trans g4
    generalize a.latGoto LatSt.HOLDOVER = d at *
    split
    · have hi := d.raiseIrq_onlyRegs Blk.LAT 2 Reg.LAT_STATE (by decide)
      exact ⟨_, rfl, (State.latSt_congr hi).trans g1, (State.flag_congr _ _ _ _ hi).trans hflag, hch.trans ((d.raiseIrq_onlyChanges _ _).mono (by simp))⟩
    · exact ⟨_, rfl, g1, hflag, hch⟩
  have hput := b.withLat_onlyChanges (b.lat.holding (rateFor (meanPeriod s.lat.periods s.nominalClk) 0) s.chain)
  obtain ⟨d, hd, d1, d2, d3⟩ : ∃ d : State, d = { b with lat := b.lat.holding (rateFor (meanPeriod s.lat.periods s.nominalClk) 0) s.chain } ∧ d.lat.holdCh = s.chain ∧ d.lat.rate = rateFor (meanPeriod s.lat.periods s.nominalClk) 0
      ∧ ∀ off, d.reg off = b.reg off := ⟨_, rfl, rfl, rfl, fun _ => rfl⟩
  rw [← hd] at hput
  have hs := d.setNum_onlyChanges Reg.LAT_SLEW 0
  have hlat : (d.setNum Reg.LAT_SLEW 0).lat = d.lat := hs.2.2 .lat (by simp)
  have hst2 : (d.setNum Reg.LAT_SLEW 0).reg Reg.LAT_STATE = b.reg Reg.LAT_STATE := (d.setNum_reg_other _ _ _ (by decide)).trans (d3 _)
  have hall := b3.trans ((hput.mono (by simp)).trans (hs.mono (by simp)))
  refine ⟨_, ?_, (State.latSt_congr hst2).trans b1, ?_, (State.flag_congr _ _ _ _ hst2).trans b2, (d.setNum_num_same _ _), ?_, hall⟩
  · rw [hgoal]
    refine State.powered_next hup ?_ hall (by simp)
    rw [State.yielding_of_alone halone, if_neg (by simp [hcross, hlast, hdue]), if_pos hst]
    simp only [hb, ← hd]
  · rw [hlat, d1]
  · rw [hlat, d2]

end

/-- Settles O11, clause by clause: a crossing in LOCKED, the counter's own cross-stamp, and each transition at its time and before it. -/
theorem crossingsAndTransitions : Obligations.CrossingsAndTransitions := by
  unfold Obligations.CrossingsAndTransitions
  refine ⟨?_, fun s hup => ⟨fun hstamps hat hnew => ?_, fun hat => ?_, fun hlock => ?_⟩, fun s hup halone hstored hcross =>
    ⟨fun c hst hlast hdue => exec_refLoss_due hup halone hcross hst hlast hdue, fun hst hstarted hdue => ?_, fun hst hdue => ?_, fun hst hdue => ?_,
      fun c hlast hnot => ?_, fun hnot => ?_, fun hnot => ?_, fun hnot => ?_⟩⟩
  · intro s vrms hup hcross hlock hw ha hq
    obtain ⟨u, hu, huemu⟩ : ∃ u : State, u = { s with emu := { s.emu with crossing := none } } ∧ u.emu.crossing = none := ⟨_, rfl, rfl⟩
    have hemu : OnlyChanges [.emu] s u := by rw [hu]; simp [onlyChanges_iff]
    have hviews : u.latSt = s.latSt ∧ u.lat = s.lat ∧ u.qualifies vrms = s.qualifies vrms ∧ u.crossErr = s.crossErr ∧ u.prevQual = s.prevQual
        ∧ u.num Reg.LAT_XS_SEQ = s.num Reg.LAT_XS_SEQ ∧ u.chain = s.chain ∧ u.clk = s.clk := by
      rw [hu]
      exact ⟨rfl, rfl, rfl, rfl, rfl, rfl, rfl, rfl⟩
    obtain ⟨v1, v2, v3, v4, v5, v6, v7, v8⟩ := hviews
    obtain ⟨h1, h2, h3, h4, h5, h6, -, h8⟩ := State.benchmark_locked (v1.trans hlock) (v3.trans hq)
    have hnow := State.benchmarkAt_now (v1.trans hlock) (by rw [v2]; exact hw) (by rw [v2]; exact ha) (v3.trans hq)
    have hall := (hemu.mono (qs := [.regs, .lat, .emu]) (by simp)).trans (h8.mono (by simp))
    refine ⟨u.benchmark vrms, ?_, ?_, h1, ?_, ?_, fun c hc => ?_, ?_, ?_, hall⟩
    · rw [exec_benchmarkCrossing, execBenchmarkCrossing]
      refine State.powered_next hup ?_ hall (by simp)
      simp only [hcross, Nat.sub_self, ← hu, hnow]
    · rw [show (u.benchmark vrms).emu = u.emu from h8.2.2 .emu (by simp), huemu]
    · rw [h2, v4]
    · rw [h3, v8]
    · rw [h4 c (v5.trans hc), v8]
    · rw [h5, v6]
    · rw [h6, v7]
  · obtain ⟨h1, h2, h3, h4, h5, -⟩ := s.crossStamp_spec (if s.lat.cycLen = 0 then s.nominalClk else s.lat.cycLen)
    have hrun : ∀ t, (if s.latSt = LatSt.SYNTHETIC then { s.crossStamp (if s.lat.cycLen = 0 then s.nominalClk else s.lat.cycLen) with
          lat := { (s.crossStamp (if s.lat.cycLen = 0 then s.nominalClk else s.lat.cycLen)).lat with
            rate := rateFor s.nominalClk (clampCorr (((s.syntheticPos : Int) - (s.lat.pos : Int)) / 2 ^ 32)) } }
        else s.crossStamp (if s.lat.cycLen = 0 then s.nominalClk else s.lat.cycLen)) = t → OnlyChanges [.regs, .lat] s t →
        exec .counterCrossStamp s = .next t := fun t ht hch => by
      rw [exec_counterCrossStamp, execCounterCrossStamp]
      refine State.powered_next hup ?_ hch (by simp)
      rw [if_neg (by simp [hstamps, hat, hnew])]
      exact ht
    generalize s.crossStamp (if s.lat.cycLen = 0 then s.nominalClk else s.lat.cycLen) = a at *
    have hpos : a.lat.pos = s.lat.pos := by rw [h4]
    by_cases hsyn : s.latSt = LatSt.SYNTHETIC
    · have hall := h5.trans ((a.withLat_onlyChanges { a.lat with
        rate := rateFor s.nominalClk (clampCorr (((s.syntheticPos : Int) - (s.lat.pos : Int)) / 2 ^ 32)) }).mono (by simp))
      exact ⟨_, hrun _ (if_pos hsyn) hall, h1, h2, h3, hpos, hall⟩
    · exact ⟨_, hrun _ (if_neg hsyn) h5, h1, h2, h3, hpos, h5⟩
  · rw [exec_counterCrossStamp, execCounterCrossStamp]
    exact State.powered_same (if_pos (.inr (.inl hat)))
  · rw [exec_counterCrossStamp, execCounterCrossStamp]
    exact State.powered_same (if_pos (.inl (by simp [State.counterStamps, hlock])))
  · obtain ⟨u, hu, hust, hupos⟩ : ∃ u : State, u = { s with lat := { s.lat with pos := s.lat.loadedCycles * 65536 * 2 ^ 32 } } ∧ u.lat.stored = []
        ∧ u.lat.pos = s.lat.loadedCycles * 65536 * 2 ^ 32 := ⟨_, rfl, hstored, rfl⟩
    obtain ⟨h1, h2, -, h4, -, h6⟩ := State.enterSynthetic_spec hust
    have hput : OnlyChanges [.lat] s u := hu ▸ s.withLat_onlyChanges _
    have hall := (hput.mono (by simp)).trans h6
    refine ⟨_, ?_, h1, h2, h4.trans hupos, hall⟩
    rw [exec_timebaseNoRef, execTimebaseNoRef]
    refine State.powered_next hup ?_ hall (by simp)
    rw [State.yielding_of_alone halone, if_pos ⟨hst, hstarted, hdue, by rw [hcross]; rfl⟩, hu]
  · obtain ⟨h1, h2, h3, -, h5, h6⟩ := State.enterSynthetic_spec hstored
    have hrun : ∀ t, s.enterSynthetic.satInc Reg.LAT_RELOCK_CNT 0 32 1 = t → OnlyChanges [.regs, .out, .lat] s t → exec .acquireTimeout s = .next t := fun t ht hch => by
      rw [exec_acquireTimeout, execAcquireTimeout]
      refine State.powered_next hup ?_ hch (by simp)
      rw [State.yielding_of_alone halone, if_pos ⟨hst, hdue, by rw [hcross]; rfl⟩]
      exact ht
    generalize s.enterSynthetic = a at *
    have hother := fun off (h : Reg.LAT_RELOCK_CNT ≠ off) => a.satInc_reg_other Reg.LAT_RELOCK_CNT 0 32 1 off h
    have hall := h6.trans ((a.satInc_onlyChanges Reg.LAT_RELOCK_CNT 0 32 1).mono (by simp))
    refine ⟨_, hrun _ rfl hall, (State.latSt_congr (hother _ (by decide))).trans h1, (State.flag_congr _ _ _ _ (hother _ (by decide))).trans h2,
      (State.num64_congr (hother _ (by decide)) (hother _ (by decide))).trans h3, ?_, hall⟩
    rw [a.satInc_num, h5]
  · obtain ⟨h1, -, h3, h4, -, h6⟩ := State.enterSynthetic_spec hstored
    refine ⟨_, ?_, h1, h3, h4, h6⟩
    rw [exec_holdoverEnd, execHoldoverEnd]
    refine State.powered_next hup ?_ h6 (by simp)
    rw [State.yielding_of_alone halone, if_pos ⟨hst, hdue, by rw [hcross]; rfl⟩]
  · rw [exec_refLoss, execRefLoss]
    refine State.powered_same ?_
    rw [State.yielding_of_alone halone, if_pos (.inr (by simp [hlast, hnot]))]
  · rw [exec_timebaseNoRef, execTimebaseNoRef]
    refine State.powered_same ?_
    rw [State.yielding_of_alone halone, if_neg (by simp [hnot])]
  · rw [exec_acquireTimeout, execAcquireTimeout]
    refine State.powered_same ?_
    rw [State.yielding_of_alone halone, if_neg (fun h => by have := h.2.1; omega)]
  · rw [exec_holdoverEnd, execHoldoverEnd]
    refine State.powered_same ?_
    rw [State.yielding_of_alone halone, if_neg (fun h => by have := h.2.1; omega)]

end Sys2Proof.Machine

/-! PROOFS. ARB's look-ahead, its outer check and its operations (R167, R175 to R177, R190 to R192, R196). -/

namespace Sys2Proof.Machine

-- One declaration after the other: the stacks of parallel elaboration would count against the memory limit of the check.
set_option Elab.async false

section
variable {s : State} {i g c j k : Nat} {x : Slot}

/-! ### Look-ahead -/

theorem State.inWindow_of_occurrence {p : Stake} (h : (s.occurrences p).contains c = true) : s.inWindow c = true := by
  have hmem := List.contains_iff_mem.1 h
  exact (List.mem_filter.1 (by simpa only [State.occurrences] using hmem)).2

/-- An occurrence in the window that is neither listed nor reserved is listed (R175). -/
theorem exec_lookaheadEntry_listed (hup : s.Up) (hfeed : s.lat.feed = []) (hvalid : (s.stake i).valid = true)
    (hocc : (s.occurrences (s.stake i)).contains c = true) (hnew : s.arb.toPrice.contains (i, (s.stake i).gen, c) = false) (hresv : s.arb.resv = []) :
    exec (.lookaheadEntry i c) s = .next { s with arb := { s.arb with toPrice := s.arb.toPrice ++ [(i, (s.stake i).gen, c)] } } := by
  rw [exec_lookaheadEntry, execLookaheadEntry]
  refine State.powered_next hup ?_ (s.withArb_onlyChanges { s.arb with toPrice := s.arb.toPrice ++ [(i, (s.stake i).gen, c)] }) (by simp)
  simp only [State.takeFeed_empty hfeed]
  rw [if_pos ⟨hvalid, hocc⟩, State.listPrice, if_neg]
  rintro (hout | hlisted | hheld)
  · exact absurd hout (by rw [State.inWindow_of_occurrence hocc]; decide)
  · exact absurd (hnew.symm.trans hlisted) (by decide)
  · rw [hresv] at hheld
    exact absurd hheld (by simp)

/-! ### What a price reads -/

theorem State.powerUpLums_arb (s : State) (x : Arb) (p : Nat) : ({ s with arb := x } : State).powerUpLums p = { s.powerUpLums p with arb := x } :=
  List.foldl_hom (fun a : State => ({ a with arb := x } : State)) (g₁ := fun a e => a.setLumGrant e (a.lumPrice e (Config.powerOnLevel e).val))
    (g₂ := fun a e => a.setLumGrant e (a.lumPrice e (Config.powerOnLevel e).val)) fun _ _ => rfl

theorem State.portNeed_arb (s : State) (x : Arb) (p : Nat) : ({ s with arb := x } : State).portNeed p = s.portNeed p := by
  unfold State.portNeed
  rw [State.powerUpLums_arb]
  rfl

/-- A stake's need does not depend on ARB's own part (R175). -/
theorem State.stakeNeed_arb (s : State) (x : Arb) (k : Stake) (firing : Bool) : ({ s with arb := x } : State).stakeNeed k firing = s.stakeNeed k firing := by
  unfold State.stakeNeed
  rw [State.portNeed_arb]
  rfl

/-- A need that fits is held whole (R176, R177). -/
theorem State.reserve_fits {q need target : Nat} (hfree : s.freeResv = some j) (hroom : need ≤ s.resvRoom q) :
    s.reserve i g c q need target = { s with arb := { s.arb with
      resv := tput s.arb.resv j ⟨i, g, c, q, need, 0, s.arb.nextSeq, target⟩, nextSeq := s.arb.nextSeq + 1 } } := by
  have hfit : (if need ≤ s.resvRoom q then need else if s.sceneAtomic then 0 else s.resvRoom q) = need := if_pos hroom
  unfold State.reserve
  rw [hfree]
  simp only [hfit, Nat.sub_self]
  exact if_neg (Nat.lt_irrefl need)

theorem exec_stakePrice_fits {rest : List (Nat × Nat × Nat)} {q need : Nat} (hup : s.Up) (hfeed : s.lat.feed = []) (hlist : s.arb.toPrice = (i, g, c) :: rest)
    (hcore : s.arb.coreDown = false) (hmode : s.mode ≠ Mode.MINIMAL) (hen : s.en Blk.ARB = true) (hvalid : (s.stake i).valid = true)
    (hgen : (s.stake i).gen = g) (hwin : s.inWindow c = true) (hneed : s.stakeNeed (s.stake i) false = some (q, need)) (hpos : 0 < need)
    (hroom : need ≤ s.resvRoom q) (hfree : s.freeResv = some j) : ∃ t, exec .stakePrice s = .next t ∧ t.arb.toPrice = rest
      ∧ (∃ r, tfind? t.arb.resv j = some r ∧ r.index = i ∧ r.gen = g ∧ r.ch = c ∧ r.pool = q ∧ r.held = need ∧ r.unheld = 0)
      ∧ OnlyChanges [.regs, .arb] s t := by
  obtain ⟨a, ha, hprice, hviews⟩ : ∃ a : State, a = { s with arb := { s.arb with toPrice := rest } } ∧ a.arb.toPrice = rest
      ∧ a.stake i = s.stake i ∧ a.inWindow c = s.inWindow c ∧ a.stakeNeed (s.stake i) false = s.stakeNeed (s.stake i) false
      ∧ a.resvRoom q = s.resvRoom q ∧ a.freeResv = s.freeResv := ⟨_, rfl, rfl, rfl, rfl, s.stakeNeed_arb _ _ _, rfl, by simp only [State.freeResv]⟩
  obtain ⟨v1, v2, v3, v4, v5⟩ := hviews
  have hput : OnlyChanges [.arb] s a := ha ▸ s.withArb_onlyChanges _
  have hres := fun target => State.reserve_fits (s := a) (i := i) (g := g) (c := c) (q := q) (target := target) (v5.trans hfree) (v4 ▸ hroom)
  have hall := fun x : Arb => (hput.trans (a.withArb_onlyChanges x)).mono (qs := [.regs, .arb]) (by simp)
  refine ⟨{ a with arb := { a.arb with
    resv := tput a.arb.resv j ⟨i, g, c, q, need, 0, a.arb.nextSeq, if (s.stake i).action = 3 ∨ (s.stake i).action = 4 then (s.stake i).target else 0xFFFF⟩,
    nextSeq := a.arb.nextSeq + 1 } }, ?_, hprice, ⟨_, (tfind?_tput _ _ _ _).trans (if_pos rfl), rfl, rfl, rfl, rfl, rfl, rfl⟩, hall _⟩
  rw [exec_stakePrice, execStakePrice]
  refine State.powered_next hup ?_ (hall _) (by simp)
  simp only [State.takeFeed_empty hfeed, hlist, ← ha, v1]
  rw [if_neg (by simp [hcore, hmode, hen]), if_neg (by simp [hvalid, hgen, v2, hwin])]
  simp only [v3, hneed]
  rw [if_neg (by omega), hres]

/-! ### The retry of a SHORT reservation -/

theorem exec_resvRetry_one {r : Resv} (hup : s.Up) (hfeed : s.lat.feed = []) (hresv : s.arb.resv = [(i, r)]) (hcore : s.arb.coreDown = false)
    (hen : s.en Blk.ARB = true) (hshort : 0 < r.unheld) (hlat : s.latSt ≠ LatSt.RESET) (hat : s.atAngle 0 false = true)
    (hnew : tfind? s.lat.zxCh 27 ≠ some s.chain) (hroom : r.unheld ≤ s.resvRoom r.pool) : ∃ t, exec .resvRetry s = .next t
      ∧ tfind? t.arb.resv i = some { r with held := r.held + r.unheld, unheld := 0 } ∧ OnlyChanges [.regs, .arb, .lat] s t := by
  obtain ⟨a, ha, hafeed, haresv, hroom2⟩ : ∃ a : State, a = { s with lat := { s.lat with zxCh := tput s.lat.zxCh 27 s.chain } } ∧ a.lat.feed = []
      ∧ a.arb.resv = [(i, r)] ∧ a.resvRoom r.pool = s.resvRoom r.pool := ⟨_, rfl, hfeed, hresv, rfl⟩
  have hput : OnlyChanges [.lat] s a := ha ▸ s.withLat_onlyChanges _
  have hfind : tfind? a.arb.resv i = some r := by simp [haresv, tfind?]
  have hretry : a.retryResv i = { a with arb := { a.arb with resv := tput a.arb.resv i { r with held := r.held + r.unheld, unheld := 0 } } } := by
    simp only [State.retryResv, hfind, hroom2, if_pos hroom, Nat.sub_self]
  have hlist : sortBy (fun a b => decide (a.2.seq ≤ b.2.seq)) (a.arb.resv.filter fun e => e.2.unheld != 0) = [(i, r)] := by
    have hne : (r.unheld != 0) = true := by simp; omega
    rw [haresv, List.filter_cons_of_pos (by exact hne), List.filter_nil]
    rfl
  have hall := (hput.mono (qs := [.regs, .arb, .lat]) (by simp)).trans
    ((a.withArb_onlyChanges { a.arb with resv := tput a.arb.resv i { r with held := r.held + r.unheld, unheld := 0 } }).mono (by simp))
  refine ⟨_, ?_, (tfind?_tput _ _ _ _).trans (if_pos rfl), hall⟩
  rw [exec_resvRetry, execResvRetry]
  refine State.powered_next hup ?_ hall (by simp)
  rw [if_neg (by simp [hcore, hen, hlat]), State.zxPass_on hat hnew]
  simp only [← ha, State.takeFeed_empty hafeed, hlist, List.foldl_cons, List.foldl_nil, hretry]

/-! ### The outer check -/

theorem exec_outerCheck_suspends (hup : s.Up) (hfeed : s.m1Feed = none) (hruns : s.flag Reg.ARB_STATE 5 = false) :
    ∃ t, exec .outerCheck s = .next t ∧ t.flag Reg.ARB_STATE 5 = true ∧ t.flag (Reg.IRQ_STAT Blk.ARB) 7 = true
      ∧ t.arb.overTicks = 0 ∧ OnlyChanges [.regs, .out, .arb] s t := by
  obtain ⟨a, ha, hticks⟩ : ∃ a : State, a = { s with arb := { s.arb with overTicks := 0, belowTicks := 0 } } ∧ a.arb.overTicks = 0 := ⟨_, rfl, rfl⟩
  have hput : OnlyChanges [.arb] s a := ha ▸ s.withArb_onlyChanges _
  have f1 := a.setFlag_flag_same Reg.ARB_STATE 5 true (by decide)
  have f2 := a.setFlag_onlyChanges Reg.ARB_STATE 5 true
  have hrun : ∀ t, (a.setFlag Reg.ARB_STATE 5 true).raiseIrq Blk.ARB 7 = t → OnlyChanges [.regs, .out, .arb] s t → exec .outerCheck s = .next t := fun t ht hch => by
    rw [exec_outerCheck, execOuterCheck]
    refine State.powered_next hup ?_ hch (by simp)
    simp only [hfeed, ← ha]
    rw [if_neg (by simp [hruns])]
    exact ht
  generalize a.setFlag Reg.ARB_STATE 5 true = b at *
  have i1 := b.raiseIrq_onlyChanges Blk.ARB 7
  have hall := (hput.mono (qs := [.regs, .out, .arb]) (by simp)).trans ((f2.mono (by simp)).trans (i1.mono (by simp)))
  refine ⟨_, hrun _ rfl hall, (State.flag_congr _ _ _ _ (b.raiseIrq_onlyRegs _ _ _ (by decide))).trans f1, b.raiseIrq_flag_same _ _ (by decide), ?_, hall⟩
  rw [i1.2.2 .arb (by simp), f2.2.2 .arb (by simp), hticks]

theorem State.dropOuter_spec (s : State) : s.dropOuter.flag Reg.ARB_STATE 4 = false ∧ s.dropOuter.num Reg.ARB_OUTER_EXCESS = 0
    ∧ (∀ i, i ≠ 4 → i ≠ 6 → s.dropOuter.flag Reg.ARB_STATE i = s.flag Reg.ARB_STATE i)
    ∧ OnlyChanges [.regs, .arb] s s.dropOuter ∧ OnlyRegs [Reg.ARB_STATE, Reg.ARB_OUTER_EXCESS] s s.dropOuter := by
  unfold State.dropOuter
  simp only
  have f1 := s.setFlag_flag_same Reg.ARB_STATE 4 false (by decide)
  have fo : ∀ i, i ≠ 4 → (s.setFlag Reg.ARB_STATE 4 false).flag Reg.ARB_STATE i = s.flag Reg.ARB_STATE i := fun i hi =>
    s.setFlag_flag_other _ _ _ _ (by decide) hi.symm
  have f2 := s.setFlag_onlyChanges Reg.ARB_STATE 4 false
  have f3 : OnlyRegs [Reg.ARB_STATE, Reg.ARB_OUTER_EXCESS] s (s.setFlag Reg.ARB_STATE 4 false) := (OnlyRegs.refl _ s).setFlag
  generalize s.setFlag Reg.ARB_STATE 4 false = a at *
  have go : ∀ i, i ≠ 6 → (a.setFlag Reg.ARB_STATE 6 false).flag Reg.ARB_STATE i = a.flag Reg.ARB_STATE i := fun i hi =>
    a.setFlag_flag_other _ _ _ _ (by decide) hi.symm
  have g2 := a.setFlag_onlyChanges Reg.ARB_STATE 6 false
  have g3 : OnlyRegs [Reg.ARB_STATE, Reg.ARB_OUTER_EXCESS] a (a.setFlag Reg.ARB_STATE 6 false) := (OnlyRegs.refl _ a).setFlag
  generalize a.setFlag Reg.ARB_STATE 6 false = b at *
  have n1 := b.setNum_num_same Reg.ARB_OUTER_EXCESS 0
  have n2 := b.setNum_onlyChanges Reg.ARB_OUTER_EXCESS 0
  have n3 : OnlyRegs [Reg.ARB_OUTER_EXCESS] b (b.setNum Reg.ARB_OUTER_EXCESS 0) := (OnlyRegs.refl _ b).setNum
  generalize b.setNum Reg.ARB_OUTER_EXCESS 0 = d at *
  have hst : ∀ i, ({ d with arb := { d.arb with overTicks := 0, belowTicks := 0 } } : State).flag Reg.ARB_STATE i = b.flag Reg.ARB_STATE i := fun i =>
    State.flag_congr b d _ _ (n3 _ (by decide))
  refine ⟨(hst 4).trans ((go 4 (by decide)).trans f1), n1, fun i h4 h6 => (hst i).trans ((go i h6).trans (fo i h4)), ?_, ?_⟩
  · exact (f2.mono (by simp)).trans ((g2.mono (by simp)).trans ((n2.mono (by simp)).trans ((d.withArb_onlyChanges _).mono (by simp))))
  · exact f3.trans (g3.trans ((n3.mono (by simp)).trans (OnlyRegs.of_regs_eq rfl)))

theorem exec_outerCheck_dropped {p : Int} (hup : s.Up) (hfeed : s.m1Feed = some p) (hoff : s.flag Reg.ARB_CFG 1 = false) :
    ∃ t, exec .outerCheck s = .next t
      ∧ t.num Reg.ARB_M1_DC = unsigned 32 (s.m1Dc p) ∧ t.flag Reg.ARB_STATE 5 = false ∧ t.num Reg.ARB_OUTER_EXCESS = 0
      ∧ t.flag Reg.ARB_STATE 4 = false ∧ OnlyChanges [.regs, .arb] s t
      ∧ OnlyRegs [Reg.ARB_STATE, Reg.ARB_M1_DC, Reg.ARB_OUTER_EXCESS] s t := by
  have f1 := s.setFlag_flag_same Reg.ARB_STATE 5 false (by decide)
  have f2 := s.setFlag_onlyChanges Reg.ARB_STATE 5 false
  have f3 : OnlyRegs [Reg.ARB_STATE] s (s.setFlag Reg.ARB_STATE 5 false) := (OnlyRegs.refl _ s).setFlag
  have hrun : ∀ t, (({ (s.setFlag Reg.ARB_STATE 5 false).setNum Reg.ARB_M1_DC (unsigned 32 (s.m1Dc p)) with
      arb := { ((s.setFlag Reg.ARB_STATE 5 false).setNum Reg.ARB_M1_DC (unsigned 32 (s.m1Dc p))).arb with
        m1Hist := (s.m1Dc p :: ((s.setFlag Reg.ARB_STATE 5 false).setNum Reg.ARB_M1_DC (unsigned 32 (s.m1Dc p))).arb.m1Hist).take 1000
        pwrHist := (((s.setFlag Reg.ARB_STATE 5 false).setNum Reg.ARB_M1_DC (unsigned 32 (s.m1Dc p))).num Reg.PSE_TOTAL_PWR ::
          ((s.setFlag Reg.ARB_STATE 5 false).setNum Reg.ARB_M1_DC (unsigned 32 (s.m1Dc p))).arb.pwrHist).take 1000
        outerTicks := ((s.setFlag Reg.ARB_STATE 5 false).setNum Reg.ARB_M1_DC (unsigned 32 (s.m1Dc p))).arb.outerTicks + 1 } } : State).dropOuter = t) →
      OnlyChanges [.regs, .arb] s t → exec .outerCheck s = .next t := fun t ht hch => by
    rw [exec_outerCheck, execOuterCheck]
    refine State.powered_next hup ?_ hch (by simp)
    simp only [hfeed]
    rw [if_neg]
    · exact ht
    · have hcfg : ((s.setFlag Reg.ARB_STATE 5 false).setNum Reg.ARB_M1_DC (unsigned 32 (s.m1Dc p))).flag Reg.ARB_CFG 1 = false :=
        (State.flag_congr _ _ _ _ ((State.setNum_reg_other _ _ _ _ (by decide)).trans (s.setFlag_reg_other _ _ _ _ (by decide)))).trans hoff
      exact fun h => absurd (hcfg.symm.trans h) (by decide)
  generalize s.setFlag Reg.ARB_STATE 5 false = a at *
  have n1 := a.setNum_num_same Reg.ARB_M1_DC (unsigned 32 (s.m1Dc p))
  have n2 := a.setNum_onlyChanges Reg.ARB_M1_DC (unsigned 32 (s.m1Dc p))
  have n3 : OnlyRegs [Reg.ARB_M1_DC] a (a.setNum Reg.ARB_M1_DC (unsigned 32 (s.m1Dc p))) := (OnlyRegs.refl _ a).setNum
  generalize a.setNum Reg.ARB_M1_DC (unsigned 32 (s.m1Dc p)) = b at *
  obtain ⟨d, hd, hdb, hdr⟩ : ∃ d : State, d = { b with arb := { b.arb with m1Hist := (s.m1Dc p :: b.arb.m1Hist).take 1000
                                                                           pwrHist := (b.num Reg.PSE_TOTAL_PWR :: b.arb.pwrHist).take 1000
                                                                           outerTicks := b.arb.outerTicks + 1 } }
      ∧ OnlyChanges [.arb] b d ∧ ∀ off, d.reg off = b.reg off := ⟨_, rfl, b.withArb_onlyChanges _, fun _ => rfl⟩
  rw [← hd] at hrun
  obtain ⟨h1, h2, h3, h4, h5⟩ := d.dropOuter_spec
  have hall := (f2.mono (qs := [.regs, .arb]) (by simp)).trans ((n2.mono (by simp)).trans ((hdb.mono (by simp)).trans h4))
  refine ⟨_, hrun _ rfl hall, ?_, ?_, h2, h1, hall, ?_⟩
  · rw [State.num_congr ((h5 _ (by decide)).trans (hdr _)), n1]
    exact Nat.mod_eq_of_lt (unsigned_lt _)
  · exact (h3 5 (by decide) (by decide)).trans ((State.flag_congr _ _ _ _ ((hdr _).trans (n3 _ (by decide)))).trans f1)
  · exact (f3.mono (by simp)).trans ((n3.mono (by simp)).trans (OnlyRegs.trans (fun off _ => hdr off) (h5.mono (by simp))))

theorem State.residual_congr {s t : State} (h : t.arb = s.arb) : t.residual = s.residual := by
  simp only [State.residual, h]

theorem State.setExcess_spec (s : State) (hpos : 0 < s.residual) (hlt : s.residual.toNat < 2 ^ 31) :
    s.setExcess.num Reg.ARB_OUTER_EXCESS = (s.residual.toNat + 999) / 1000 * 1000 ∧ OnlyChanges [.regs, .arb] s s.setExcess
    ∧ OnlyRegs [Reg.ARB_OUTER_EXCESS] s s.setExcess := by
  unfold State.setExcess
  simp only
  rw [if_neg (by omega)]
  refine ⟨?_, ((State.setNum_onlyChanges _ _ _).mono (by simp)).trans ((State.withArb_onlyChanges _ _).mono (by simp)),
    ((OnlyRegs.refl _ s).setNum).trans (OnlyRegs.of_regs_eq rfl)⟩
  exact (s.setNum_num_same Reg.ARB_OUTER_EXCESS _).trans (Nat.mod_eq_of_lt (by omega))

theorem exec_outerMismatch_due (hup : s.Up) (hruns : s.outerRuns = true) (hoff : s.flag Reg.ARB_STATE 4 = false) (hticks : 2000 ≤ s.arb.overTicks)
    (hpos : 0 < s.residual) (hlt : s.residual.toNat < 2 ^ 31) : ∃ t, exec .outerMismatch s = .next t
      ∧ t.flag Reg.ARB_STATE 4 = true ∧ t.num Reg.ARB_OUTER_EXCESS = (s.residual.toNat + 999) / 1000 * 1000
      ∧ OnlyChanges [.regs, .out, .arb] s t := by
  have f1 := s.setFlag_flag_same Reg.ARB_STATE 4 true (by decide)
  have f2 := s.setFlag_onlyChanges Reg.ARB_STATE 4 true
  have hrun : ∀ t, ((s.setFlag Reg.ARB_STATE 4 true).setExcess).raiseIrq Blk.ARB 4 = t → OnlyChanges [.regs, .out, .arb] s t →
      exec .outerMismatch s = .next t := fun t ht hch => by
    rw [exec_outerMismatch, execOuterMismatch]
    refine State.powered_next hup ?_ hch (by simp)
    rw [if_neg (by simp [hruns, hoff]; omega)]
    exact ht
  generalize s.setFlag Reg.ARB_STATE 4 true = a at *
  have hres := State.residual_congr (f2.2.2 .arb (by simp))
  obtain ⟨e1, e2, e3⟩ := a.setExcess_spec (by rw [hres]; exact hpos) (by rw [hres]; exact hlt)
  generalize a.setExcess = b at *
  have hirq := b.raiseIrq_onlyRegs Blk.ARB 4
  have hall := (f2.mono (qs := [.regs, .out, .arb]) (by simp)).trans ((e2.mono (by simp)).trans ((b.raiseIrq_onlyChanges Blk.ARB 4).mono (by simp)))
  refine ⟨_, hrun _ rfl hall, (State.flag_congr _ _ _ _ ((hirq _ (by decide)).trans (e3 _ (by decide)))).trans f1, ?_, hall⟩
  rw [State.num_congr (hirq _ (by decide)), e1, hres]

end

/-- Settles O18, clause by clause: the look-ahead's list, prices and retries, the outer check, SET_LIMIT and PRICE. -/
theorem lookaheadAndOuterCheck : Obligations.LookaheadAndOuterCheck := by
  unfold Obligations.LookaheadAndOuterCheck
  refine ⟨fun s hup hfeed => ⟨fun i hvalid hocc hnew hresv => ?_, ?_, ?_, fun hat => ?_⟩, fun s hup => ⟨exec_outerCheck_suspends hup,
    fun p hfeed hoff => exec_outerCheck_dropped hup hfeed hoff, fun hruns hoff hticks hpos hlt => exec_outerMismatch_due hup hruns hoff hticks hpos hlt,
    fun _ hticks => ?_, fun hticks => ?_, fun hruns hticks => ?_⟩, fun s k x hup hserv => ⟨fun hx hq hctx hlim => ?_, fun hx hq hsc hctx => ?_⟩⟩
  · exact exec_lookaheadEntry_listed hup hfeed hvalid hocc hnew hresv
  · exact fun i g c rest q need j hlist hcore hmode hen hvalid hgen hwin hneed hpos hroom hfree =>
      exec_stakePrice_fits hup hfeed hlist hcore hmode hen hvalid hgen hwin hneed hpos hroom hfree
  · exact fun i r hresv hcore hen hshort hlat hat hnew hroom => exec_resvRetry_one hup hfeed hresv hcore hen hshort hlat hat hnew hroom
  · rw [exec_resvRetry, execResvRetry]
    refine State.powered_same ?_
    split
    · rfl
    · rw [State.zxPass_off hat]
  · rw [exec_outerClear, execOuterClear]
    exact State.powered_same (if_pos (.inr hticks))
  · rw [exec_outerMismatch, execOuterMismatch]
    exact State.powered_same (if_pos (.inr (.inr hticks)))
  · have f1 := s.setFlag_flag_same Reg.ARB_STATE 4 false (by decide)
    have f2 := s.setFlag_onlyChanges Reg.ARB_STATE 4 false
    have hrun : ∀ t, (s.setFlag Reg.ARB_STATE 4 false).setNum Reg.ARB_OUTER_EXCESS 0 = t → OnlyChanges [.regs] s t → exec .outerClear s = .next t := fun t ht hch => by
      rw [exec_outerClear, execOuterClear]
      refine State.powered_next hup ?_ hch (by simp)
      rw [if_neg (by simp [hruns]; omega)]
      exact ht
    generalize s.setFlag Reg.ARB_STATE 4 false = a at *
    have hall := f2.trans (a.setNum_onlyChanges Reg.ARB_OUTER_EXCESS 0)
    exact ⟨_, hrun _ rfl hall, (State.flag_congr _ _ _ _ (a.setNum_reg_other _ _ _ (by decide))).trans f1, a.setNum_num_same _ _, hall⟩
  · rw [exec_setLimit, execSetLimit]
    refine State.powered_next hup ?_ (s.withArb_onlyChanges { s.arb with limitsDue := s.arb.limitsDue ++ [(0, paramField x.param 4 4, k, s.clk)] }) (by simp)
    simp only [hx, hq]
    rw [if_neg (by decide), if_neg (by simp [hctx]), if_neg (by simp; omega)]
  · have hs := State.serves_of_activeOp hserv hx
    obtain ⟨hended, hch⟩ := hs.ends (by decide) (OnlyChanges.refl [] s) St.OK
      (BitVec.ofNat 32 (s.recallNeed (paramField x.param 1 1) (paramField x.param 2 1) false))
    refine ⟨_, ?_, hended, fun u hu => (s.decideOp_slot k u _ _ hs.active).trans (if_neg (Ne.symm hu)), hch.mono (by simp)⟩
    rw [exec_price, execPrice]
    refine State.powered_next hup ?_ hch (by simp)
    simp only [hx]
    rw [if_neg (by omega), if_neg (by simp [hctx])]

end Sys2Proof.Machine

/-! PROOFS. A block asks STO to write one of its objects (R375, R548, R558). -/

namespace Sys2Proof.Machine

-- One declaration after the other: the stacks of parallel elaboration would count against the memory limit of the check.
set_option Elab.async false

section
variable {s t : State} {j k : Nat}

/-- The next free tag depends on the slots' states alone (R71). -/
theorem State.freeTag_congr (hst : ∀ m, (t.slot m).st = (s.slot m).st) (hlast : t.opt.lastTag = s.opt.lastTag) : t.freeTag = s.freeTag := by
  simp only [State.freeTag, hst, hlast]

/-- The next free tag is that of a free slot (R71). -/
theorem State.freeTag_free (h : s.freeTag = some j) : (s.slot j).st = .free := by
  unfold State.freeTag at h
  simpa using List.find?_some h

/-- A write that finds a free tag is an operation of STO at once (R73, R375). -/
theorem State.stoAsk_begun (hpf : s.sup.pfail = false) (hfree : s.freeTag = some j) (why : StoFor) (obj op : Nat) (data : List Byte) :
    OnlyChanges [.regs, .out, .opt, .sto] s (s.stoAsk why obj op data)
    ∧ OnlyRegs (Reg.OPT_HWM :: irqRegs Blk.OPT) s (s.stoAsk why obj op data)
    ∧ (∀ m, m ≠ j → (s.stoAsk why obj op data).slot m = s.slot m)
    ∧ ((s.stoAsk why obj op data).slot j).st = .active ∧ ((s.stoAsk why obj op data).slot j).block = Blk.STO
    ∧ ((s.stoAsk why obj op data).slot j).opcode = op := by
  obtain ⟨u, hu, hpf2, hfree2, hslot⟩ : ∃ u : State, u = { s with sto := { s.sto with nextId := s.sto.nextId + 1 } } ∧ u.sup.pfail = false
      ∧ u.freeTag = some j ∧ ∀ m, u.slot m = s.slot m := ⟨_, rfl, hpf, (State.freeTag_congr (fun _ => rfl) rfl).trans hfree, fun _ => rfl⟩
  have hput : OnlyChanges [.sto] s u := hu ▸ s.withSto_onlyChanges _
  have hregs : u.regs = s.regs := by rw [hu]
  have heq : s.stoAsk why obj op data = u.beginAsk ⟨s.sto.nextId, why, obj, why.cls, op, data⟩ := by rw [hu]; rfl
  obtain ⟨a, ha⟩ : ∃ a, u.beginInternal why.owner Blk.STO op 0 10000 0 = some (j, a) :=
    ⟨_, by rw [State.beginInternal, hpf2, hfree2]; rfl⟩
  obtain ⟨hch, hact, hblock, hop, hbegin⟩ := State.begun_spec ha
  have hother : ∀ m, m ≠ j → a.slot m = u.slot m := fun m hm => by
    rw [State.beginInternal_eq ha, State.beginAt_slot, if_neg (Ne.symm hm)]
  have hrun : s.stoAsk why obj op data = { a with sto := { a.sto with asks := a.sto.asks ++ [(j, ⟨s.sto.nextId, why, obj, why.cls, op, data⟩)] } } := by
    rw [heq]
    simp only [State.beginAsk, ha]
  rw [hrun]
  refine ⟨?_, ?_, fun m hm => (hother m hm).trans (hslot m), hact, hblock, hop⟩
  · exact (hput.mono (by simp)).trans ((hch.mono (by simp)).trans ((a.withSto_onlyChanges _).mono (by simp)))
  · exact (OnlyRegs.of_regs_eq hregs).trans (OnlyRegs.trans (fun off h => hbegin off h) (OnlyRegs.of_regs_eq rfl))

/-! ### KEY's record and blobs -/

/-- An operation `k` that waits for KEY's change to be durable, with the change noted. -/
def State.keyWaits (s : State) (k : Nat) (r : Word) (x : Key) : State := { s.setSlot k { s.slot k with result := r } with key := x }

theorem State.keyWaits_spec (s : State) (k : Nat) (r : Word) (x : Key) : (∀ m, ((s.keyWaits k r x).slot m).st = (s.slot m).st)
    ∧ (s.keyWaits k r x).freeTag = s.freeTag ∧ OnlyChanges [.opt, .key] s (s.keyWaits k r x) := by
  have hst : ∀ m, ((s.keyWaits k r x).slot m).st = (s.slot m).st := fun m => by
    have h : (s.keyWaits k r x).slot m = if k = m then { s.slot k with result := r } else s.slot m := s.setSlot_slot k m _
    rw [h]
    split
    · next he => rw [he]
    · rfl
  refine ⟨hst, State.freeTag_congr hst rfl, ?_⟩
  simp [State.keyWaits, State.setSlot, onlyChanges_iff]

/-- What a KEY operation that waits for STO shows: it stays ACTIVE behind the STO operation `j`. -/
structure State.KeyAsked (s t : State) (k j op : Nat) : Prop where
  waits : (t.slot k).st = .active
  begun : (t.slot j).st = .active
  block : (t.slot j).block = Blk.STO
  opcode : (t.slot j).opcode = op
  parts : OnlyChanges [.regs, .out, .opt, .key, .sto] s t
  regs : OnlyRegs (Reg.OPT_HWM :: irqRegs Blk.OPT) s t

theorem State.keyAsked (hpf : s.sup.pfail = false) (hfree : s.freeTag = some j) (hact : (s.slot k).st = .active) (r : Word) (x : Key)
    (why : StoFor) (obj op : Nat) (data : List Byte) : s.KeyAsked ((s.keyWaits k r x).stoAsk why obj op data) k j op
      ∧ ((s.keyWaits k r x).stoAsk why obj op data).key = x := by
  obtain ⟨hst, hfree2, hch⟩ := s.keyWaits_spec k r x
  have hne : k ≠ j := fun h => by
    have := State.freeTag_free hfree
    rw [← h, hact] at this
    exact absurd this (by decide)
  have hkey : (s.keyWaits k r x).key = x := rfl
  have hregs : (s.keyWaits k r x).regs = s.regs := rfl
  have hpf2 : (s.keyWaits k r x).sup.pfail = false := hpf
  generalize s.keyWaits k r x = u at *
  obtain ⟨h1, h2, h3, h4, h5, h6⟩ := State.stoAsk_begun hpf2 (hfree2.trans hfree) why obj op data
  refine ⟨⟨?_, h4, h5, h6, (hch.mono (by simp)).trans (h1.mono (by simp)), (OnlyRegs.of_regs_eq hregs).trans h2⟩, ?_⟩
  · rw [h3 k hne, hst, hact]
  · rw [h1.2.2 .key (by simp), hkey]

/-- KEY's record is on its way to blob 0 (R548, R558). -/
theorem State.writeCtxRecord_spec (hpf : s.sup.pfail = false) (hfree : s.freeTag = some j) (hact : (s.slot k).st = .active) (r : Word) :
    s.KeyAsked (s.writeCtxRecord k r) k j StoOp.PUT
      ∧ (s.writeCtxRecord k r).key = { s.key with writes := s.key.writes ++ [(k, s.key.record)] } :=
  State.keyAsked hpf hfree hact r { s.key with writes := s.key.writes ++ [(k, s.key.record)] } (.keyRecord k) (keyObj 0) StoOp.PUT _

/-- Blob `c` is on its way, or on its way out (R548, R558). -/
theorem State.writeBlob_spec (hpf : s.sup.pfail = false) (hfree : s.freeTag = some j) (hact : (s.slot k).st = .active) (c : Nat) (r : Word) :
    s.KeyAsked (s.writeBlob k c r) k j (if (s.blob c).isSome then StoOp.PUT else StoOp.DELETE)
      ∧ (s.writeBlob k c r).key = { s.key with blobWrites := s.key.blobWrites ++ [(k, c, s.blob c)] } :=
  State.keyAsked hpf hfree hact r { s.key with blobWrites := s.key.blobWrites ++ [(k, c, s.blob c)] } (.blob k c) (keyObj c)
    (if (s.blob c).isSome then StoOp.PUT else StoOp.DELETE) _

end

end Sys2Proof.Machine

/-! PROOFS. KEY's slots, attestation, floors and life cycle (R538, R543, R544, R546, R558). -/

namespace Sys2Proof.Machine

-- One declaration after the other: the stacks of parallel elaboration would count against the memory limit of the check.
set_option Elab.async false

section
variable {s : State} {j k n : Nat} {x : Slot}

theorem slotRegs_kept {n : Nat} (hn : n ≤ 15) : Reg.KEY_SLOTs_ATTR n ∉ Reg.OPT_HWM :: irqRegs Blk.OPT ∧ Reg.KEY_SLOTs_GEN n ∉ Reg.OPT_HWM :: irqRegs Blk.OPT
    ∧ Reg.KEY_SLOTs_KCV n ∉ Reg.OPT_HWM :: irqRegs Blk.OPT ∧ Reg.KEY_SLOTs_ATTR n ∉ irqRegs Blk.KEY ∧ Reg.KEY_SLOTs_GEN n ∉ irqRegs Blk.KEY
    ∧ Reg.KEY_SLOTs_KCV n ∉ irqRegs Blk.KEY := by
  have table : ∀ m : Fin 16, Reg.KEY_SLOTs_ATTR m ∉ Reg.OPT_HWM :: irqRegs Blk.OPT ∧ Reg.KEY_SLOTs_GEN m ∉ Reg.OPT_HWM :: irqRegs Blk.OPT
    ∧ Reg.KEY_SLOTs_KCV m ∉ Reg.OPT_HWM :: irqRegs Blk.OPT ∧ Reg.KEY_SLOTs_ATTR m ∉ irqRegs Blk.KEY ∧ Reg.KEY_SLOTs_GEN m ∉ irqRegs Blk.KEY
    ∧ Reg.KEY_SLOTs_KCV m ∉ irqRegs Blk.KEY := by decide
  exact table ⟨n, by omega⟩

theorem slotRegs_distinct (n : Nat) : Reg.KEY_SLOTs_GEN n ≠ Reg.KEY_SLOTs_ATTR n ∧ Reg.KEY_SLOTs_KCV n ≠ Reg.KEY_SLOTs_ATTR n
    ∧ Reg.KEY_SLOTs_KCV n ≠ Reg.KEY_SLOTs_GEN n := by
  simp only [Reg.KEY_SLOTs_ATTR, Reg.KEY_SLOTs_GEN, Reg.KEY_SLOTs_KCV]
  omega

theorem State.withKey_onlyChanges (s : State) (y : Key) : OnlyChanges [.key] s { s with key := y } := by
  simp [onlyChanges_iff]

theorem SameOtp.of_key {s t : State} (h : t.key = s.key) : SameOtp s t := by
  unfold SameOtp
  rw [h]
  exact ⟨rfl, rfl, rfl, rfl⟩

theorem SameOtp.trans {s t u : State} (h1 : SameOtp s t) (h2 : SameOtp t u) : SameOtp s u := by
  obtain ⟨a1, a2, a3, a4⟩ := h1
  obtain ⟨b1, b2, b3, b4⟩ := h2
  exact ⟨b1.trans a1, b2.trans a2, b3.trans a3, b4.trans a4⟩

/-- A command of the module's logic that leaves queue, clock and OTP alone does what its body says. -/
theorem State.powered_otp {s t : State} {f : State → State} {ps : List Part} (hup : s.Up) (hf : f s = t) (hch : OnlyChanges ps s t)
    (hotp : SameOtp s t) : s.powered f = .next t := by
  obtain ⟨h1, h2, h3, h4⟩ := hotp
  rw [State.powered_run _ _ hup, hf, State.guarded_eq _ _ hch.1 hch.2.1 h1 h2 h3 h4]

/-- A key put into its slot (R538, R562). -/
theorem State.putKey_spec (s : State) (hn : n ≤ 15) (secret : BitVec 512) (pub : Bool) (attr : Nat) :
    (s.putKey n secret pub attr).num (Reg.KEY_SLOTs_ATTR n) = (1 + (if pub then 4 else 0) + (attr &&& 0x3F8)) % 2 ^ 32
    ∧ (s.putKey n secret pub attr).num (Reg.KEY_SLOTs_GEN n) = (s.fld (Reg.KEY_SLOTs_GEN n) 0 16 + 1) % 2 ^ 16
    ∧ tfind? (s.putKey n secret pub attr).key.record.secrets n = some secret
    ∧ (s.putKey n secret pub attr).key.writes = s.key.writes ∧ (s.putKey n secret pub attr).flag (Reg.IRQ_STAT Blk.KEY) 2 = true
    ∧ OnlyChanges [.regs, .out, .key] s (s.putKey n secret pub attr) ∧ SameOtp s (s.putKey n secret pub attr) := by
  unfold State.putKey
  simp only
  generalize 1 + (if pub then 4 else 0) + (attr &&& 0x3F8) = a
  have hgen : (s.fld (Reg.KEY_SLOTs_GEN n) 0 16 + 1) % 2 ^ 16 < 2 ^ 32 := by omega
  generalize (s.fld (Reg.KEY_SLOTs_GEN n) 0 16 + 1) % 2 ^ 16 = g at *
  obtain ⟨d1, d2, d3⟩ := slotRegs_distinct n
  obtain ⟨-, -, -, q1, q2, -⟩ := slotRegs_kept hn
  have a1 := s.setNum_num_same (Reg.KEY_SLOTs_ATTR n) a
  have a2 := s.setNum_onlyChanges (Reg.KEY_SLOTs_ATTR n) a
  generalize s.setNum (Reg.KEY_SLOTs_ATTR n) a = u1 at *
  have b1 := u1.setNum_num_same (Reg.KEY_SLOTs_GEN n) g
  have b2 := u1.setNum_onlyChanges (Reg.KEY_SLOTs_GEN n) g
  have b3 := u1.setNum_reg_other (Reg.KEY_SLOTs_GEN n) g (Reg.KEY_SLOTs_ATTR n) d1
  generalize u1.setNum (Reg.KEY_SLOTs_GEN n) g = u2 at *
  have c2 := u2.setNum_onlyChanges (Reg.KEY_SLOTs_KCV n) (keyCheck pub secret)
  have c3 := u2.setNum_reg_other (Reg.KEY_SLOTs_KCV n) (keyCheck pub secret) (Reg.KEY_SLOTs_ATTR n) d2
  have c4 := u2.setNum_reg_other (Reg.KEY_SLOTs_KCV n) (keyCheck pub secret) (Reg.KEY_SLOTs_GEN n) d3
  generalize u2.setNum (Reg.KEY_SLOTs_KCV n) (keyCheck pub secret) = u3 at *
  obtain ⟨u4, hu4, e1, e2, e3, e4, e5⟩ : ∃ u4 : State, u4 = { u3 with key := { u3.key with record := { u3.key.record with
      attrs := tput u3.key.record.attrs n (BitVec.ofNat 32 a), gens := tput u3.key.record.gens n g,
      secrets := tput u3.key.record.secrets n secret } } } ∧ tfind? u4.key.record.secrets n = some secret ∧ u4.key.writes = u3.key.writes
      ∧ OnlyChanges [.key] u3 u4 ∧ u4.regs = u3.regs ∧ SameOtp u3 u4 :=
    ⟨_, rfl, (tfind?_tput u3.key.record.secrets n n secret).trans (if_pos rfl), rfl, u3.withKey_onlyChanges _, rfl, ⟨rfl, rfl, rfl, rfl⟩⟩
  rw [← hu4]
  have i1 := u4.raiseIrq_onlyChanges Blk.KEY 2
  have i2 := u4.raiseIrq_onlyRegs Blk.KEY 2
  have i3 := u4.raiseIrq_flag_same Blk.KEY 2 (by decide)
  generalize u4.raiseIrq Blk.KEY 2 = u5 at *
  have hreg : ∀ off, u4.reg off = u3.reg off := fun off => State.reg_congr _ _ e4 off
  have hkey : u5.key = u4.key := i1.2.2 .key (by simp)
  have hu3 : u3.key = s.key := (c2.2.2 .key (by simp)).trans ((b2.2.2 .key (by simp)).trans (a2.2.2 .key (by simp)))
  refine ⟨?_, ?_, by rw [hkey, e1], ?_, i3, ?_, ?_⟩
  · rw [State.num_congr ((i2 _ q1).trans ((hreg _).trans (c3.trans b3))), a1]
  · rw [State.num_congr ((i2 _ q2).trans ((hreg _).trans c4)), b1, Nat.mod_eq_of_lt hgen]
  · rw [hkey, e2, hu3]
  · exact (a2.mono (by simp)).trans ((b2.mono (by simp)).trans ((c2.mono (by simp)).trans ((e3.mono (by simp)).trans (i1.mono (by simp)))))
  · exact (SameOtp.of_key hu3).trans (e5.trans (SameOtp.of_key hkey))

/-- A slot that is cleared; its generation stays (R558). -/
theorem State.clearKey_spec (s : State) (hn : n ≤ 15) : (s.clearKey n).reg (Reg.KEY_SLOTs_ATTR n) = 0 ∧ (s.clearKey n).reg (Reg.KEY_SLOTs_KCV n) = 0
    ∧ (s.clearKey n).reg (Reg.KEY_SLOTs_GEN n) = s.reg (Reg.KEY_SLOTs_GEN n) ∧ tfind? (s.clearKey n).key.record.secrets n = none
    ∧ OnlyChanges [.regs, .out, .key] s (s.clearKey n) ∧ SameOtp s (s.clearKey n) := by
  unfold State.clearKey
  simp only
  obtain ⟨d1, d2, d3⟩ := slotRegs_distinct n
  obtain ⟨-, -, -, q1, q2, q3⟩ := slotRegs_kept hn
  have a1 : (s.setNum (Reg.KEY_SLOTs_ATTR n) 0).reg (Reg.KEY_SLOTs_ATTR n) = 0 := State.setReg_reg_same _ _ _
  have a2 := s.setNum_onlyChanges (Reg.KEY_SLOTs_ATTR n) 0
  have a3 := s.setNum_reg_other (Reg.KEY_SLOTs_ATTR n) 0 (Reg.KEY_SLOTs_GEN n) d1.symm
  generalize s.setNum (Reg.KEY_SLOTs_ATTR n) 0 = u1 at *
  have b1 : (u1.setNum (Reg.KEY_SLOTs_KCV n) 0).reg (Reg.KEY_SLOTs_KCV n) = 0 := State.setReg_reg_same _ _ _
  have b2 := u1.setNum_onlyChanges (Reg.KEY_SLOTs_KCV n) 0
  have b3 := u1.setNum_reg_other (Reg.KEY_SLOTs_KCV n) 0 (Reg.KEY_SLOTs_ATTR n) d2
  have b4 := u1.setNum_reg_other (Reg.KEY_SLOTs_KCV n) 0 (Reg.KEY_SLOTs_GEN n) d3
  generalize u1.setNum (Reg.KEY_SLOTs_KCV n) 0 = u2 at *
  obtain ⟨u4, hu4, e1, e3, e4, e5⟩ : ∃ u4 : State, u4 = { u2 with key := { u2.key with record := { u2.key.record with
      attrs := tdel u2.key.record.attrs n, secrets := tdel u2.key.record.secrets n } } } ∧ tfind? u4.key.record.secrets n = none
      ∧ OnlyChanges [.key] u2 u4 ∧ u4.regs = u2.regs ∧ SameOtp u2 u4 :=
    ⟨_, rfl, (tfind?_tdel u2.key.record.secrets n n).trans (if_pos rfl), u2.withKey_onlyChanges _, rfl, ⟨rfl, rfl, rfl, rfl⟩⟩
  rw [← hu4]
  have i1 := u4.raiseIrq_onlyChanges Blk.KEY 2
  have i2 := u4.raiseIrq_onlyRegs Blk.KEY 2
  generalize u4.raiseIrq Blk.KEY 2 = u5 at *
  have hreg : ∀ off, u4.reg off = u2.reg off := fun off => State.reg_congr _ _ e4 off
  refine ⟨(i2 _ q1).trans ((hreg _).trans (b3.trans a1)), (i2 _ q3).trans ((hreg _).trans b1), (i2 _ q2).trans ((hreg _).trans (b4.trans a3)), ?_, ?_, ?_⟩
  · rw [i1.2.2 .key (by simp), e1]
  · exact (a2.mono (by simp)).trans ((b2.mono (by simp)).trans ((e3.mono (by simp)).trans (i1.mono (by simp))))
  · exact (SameOtp.of_key ((b2.2.2 .key (by simp)).trans (a2.2.2 .key (by simp)))).trans (e5.trans (SameOtp.of_key (i1.2.2 .key (by simp))))

/-! ### SLOT_INSTALL and SLOT_DESTROY -/

/-- What a changed record of KEY leaves behind: the operation waits for blob 0 (R548, R558). -/
theorem State.writeCtxRecord_after {t : State} (hch : OnlyChanges [.regs, .out, .key] s t) (hotp : SameOtp s t) (hact : (s.slot k).st = .active)
    (hpf : s.sup.pfail = false) (hfree : s.freeTag = some j) (r : Word) : t.KeyAsked (t.writeCtxRecord k r) k j StoOp.PUT
      ∧ (t.writeCtxRecord k r).key = { t.key with writes := t.key.writes ++ [(k, t.key.record)] }
      ∧ OnlyChanges [.regs, .out, .opt, .key, .sto] s (t.writeCtxRecord k r) ∧ SameOtp s (t.writeCtxRecord k r) := by
  have hslot : ∀ m, t.slot m = s.slot m := fun m => State.slot_congr _ _ (congrArg Opt.slots (hch.2.2 .opt (by simp))) m
  have hfree2 : t.freeTag = some j := (State.freeTag_congr (fun m => by rw [hslot]) (congrArg Opt.lastTag (hch.2.2 .opt (by simp)))).trans hfree
  obtain ⟨hask, hkey⟩ := State.writeCtxRecord_spec (s := t) (by rw [hch.2.2 .sup (by simp)]; exact hpf) hfree2 (by rw [hslot]; exact hact) r
  refine ⟨hask, hkey, (hch.mono (by simp)).trans hask.parts, hotp.trans ?_⟩
  unfold SameOtp
  rw [hkey]
  exact ⟨rfl, rfl, rfl, rfl⟩

theorem exec_slotInstall_clear {a : Nat} {key : List Byte} (hup : s.Up) (hx : s.activeOp k Blk.KEY 1 = some x) (hn : paramField x.param 0 1 = n)
    (hmode : paramField x.param 1 1 = 0) (ha : paramField x.param 2 2 = a) (hlo : 6 ≤ n) (hhi : n ≤ 15) (hattr : a < 2 ^ 10) (hpub : bitOf a 8 = false)
    (hlc : s.lcState < 2) (hlock : s.flag (Reg.KEY_SLOTs_ATTR n) 4 = false) (hlen : 32 ≤ key.length) (hpf : s.sup.pfail = false)
    (hfree : s.freeTag = some j) : ∃ t, exec (.slotInstall k key) s = .next t ∧ t.num (Reg.KEY_SLOTs_ATTR n) = 1 + (a &&& 0x3F8)
      ∧ t.num (Reg.KEY_SLOTs_GEN n) = (s.fld (Reg.KEY_SLOTs_GEN n) 0 16 + 1) % 2 ^ 16
      ∧ tfind? t.key.record.secrets n = some (BitVec.ofNat 512 (leNat (key.take 32).reverse))
      ∧ t.key.writes = s.key.writes ++ [(k, t.key.record)] ∧ t.flag (Reg.IRQ_STAT Blk.KEY) 2 = true
      ∧ (t.slot k).st = .active ∧ (t.slot j).st = .active ∧ (t.slot j).block = Blk.STO ∧ (t.slot j).opcode = StoOp.PUT
      ∧ OnlyChanges [.regs, .out, .opt, .key, .sto] s t := by
  obtain ⟨rfl, hact, -, -, -⟩ := s.activeOp_some k Blk.KEY 1 x hx
  obtain ⟨h1, h2, h3, h4, h5, h6, h7⟩ := s.putKey_spec hhi (BitVec.ofNat 512 (leNat (key.take 32).reverse)) false a
  have hatt : (a &&& 0x3F8) < 2 ^ 10 := lt_of_le_of_lt Nat.and_le_left hattr
  have hnum := h1.trans (show _ = 1 + (a &&& 0x3F8) from Nat.mod_eq_of_lt (by simp only [Bool.false_eq_true, if_false]; omega))
  have hnotpub : (n == 5 || (decide (6 ≤ n) && bitOf a 8)) = false := by
    rw [hpub, Bool.and_false, Bool.or_false]
    exact beq_false_of_ne (by omega)
  have hrun : ∀ t, (s.putKey n (BitVec.ofNat 512 (leNat (key.take 32).reverse)) false a).writeCtxRecord k
      ((s.putKey n (BitVec.ofNat 512 (leNat (key.take 32).reverse)) false a).reg (Reg.KEY_SLOTs_GEN n)) = t →
      OnlyChanges [.regs, .out, .opt, .key, .sto] s t → SameOtp s t → exec (.slotInstall k key) s = .next t := fun t ht hch hotp => by
    rw [exec_slotInstall, execSlotInstall]
    refine State.powered_otp hup ?_ hch hotp
    simp only [hx, hn, hmode, ha, hnotpub, Bool.false_and, Bool.false_eq_true, if_false]
    rw [if_neg (by simp; omega), if_neg (by simp [hlock]; omega), if_neg (by simp; omega), if_neg (by decide)]
    exact ht
  generalize s.putKey n (BitVec.ofNat 512 (leNat (key.take 32).reverse)) false a = u at *
  obtain ⟨hask, hkey, hall, hotp⟩ := State.writeCtxRecord_after h6 h7 hact hpf hfree (u.reg (Reg.KEY_SLOTs_GEN n))
  generalize u.writeCtxRecord k (u.reg (Reg.KEY_SLOTs_GEN n)) = t at *
  obtain ⟨q1, q2, -, -, -, -⟩ := slotRegs_kept hhi
  refine ⟨t, hrun t rfl hall hotp, ?_, ?_, by rw [hkey]; exact h3, by rw [hkey, h4], ?_, hask.waits, hask.begun, hask.block, hask.opcode, hall⟩
  · rw [State.num_congr (hask.regs _ q1), hnum]
  · rw [State.num_congr (hask.regs _ q2), h2]
  · exact (State.flag_congr _ _ _ _ (hask.regs _ (by decide))).trans h5

end

end Sys2Proof.Machine

/-! PROOFS. Refusals of KEY's operations, SLOT_DESTROY, ATTEST and SET_FLOOR (R541, R546, R558). -/

namespace Sys2Proof.Machine

-- One declaration after the other: the stacks of parallel elaboration would count against the memory limit of the check.
set_option Elab.async false

section
variable {s : State} {j k n : Nat} {x : Slot}

/-- An operation that a command decides at once, when it is asked for here. -/
theorem State.powered_decides {f : State → State} {b st : Nat} {r : Word} (hup : s.Up) (hserv : s.Serves k b) (hb : b ≠ Blk.STO)
    (hf : f s = s.decideOp k st r) : ∃ t, s.powered f = .next t ∧ t.Ended k st r ∧ OnlyChanges [.opt, .scn] s t :=
  ⟨_, State.powered_next hup hf (hserv.onlyChanges hb st r) (by simp), State.decideOp_ended hserv.active st r, hserv.onlyChanges hb st r⟩

theorem exec_slotInstall_denied {a : Nat} {key : List Byte} (hup : s.Up) (hserv : tfind? s.hlk.serving k = none)
    (hx : s.activeOp k Blk.KEY 1 = some x) (hn : paramField x.param 0 1 = n) (hmode : paramField x.param 1 1 = 0) (ha : paramField x.param 2 2 = a)
    (hlo : 6 ≤ n) (hhi : n ≤ 15) (hattr : a < 2 ^ 10) (hpub : bitOf a 8 = false)
    (hden : 2 ≤ s.lcState ∨ s.flag (Reg.KEY_SLOTs_ATTR n) 4 = true) :
    ∃ t, exec (.slotInstall k key) s = .next t ∧ t.Ended k St.FAIL_DENIED 0 ∧ OnlyChanges [.opt, .scn] s t := by
  have hnotpub : (n == 5 || (decide (6 ≤ n) && bitOf a 8)) = false := by
    rw [hpub, Bool.and_false, Bool.or_false]
    exact beq_false_of_ne (by omega)
  rw [exec_slotInstall, execSlotInstall]
  refine State.powered_decides hup (State.serves_of_activeOp hserv hx) (by decide) ?_
  simp only [hx, hn, hmode, ha, hnotpub, Bool.false_and, Bool.false_eq_true, if_false]
  rw [if_neg (by simp; omega), if_pos]
  rcases hden with h | h
  · exact (Nat.lt_or_ge 2 s.lcState).imp id (fun hle => .inl ⟨by omega, trivial⟩)
  · exact .inr (.inr h)

theorem exec_slotDestroy_open (hup : s.Up) (hx : s.activeOp k Blk.KEY 2 = some x) (hn : paramField x.param 0 1 = n) (hlo : 4 ≤ n) (hhi : n ≤ 15)
    (hlock : s.flag (Reg.KEY_SLOTs_ATTR n) 4 = false) (hpf : s.sup.pfail = false) (hfree : s.freeTag = some j) :
    ∃ t, exec (.slotDestroy k) s = .next t ∧ t.reg (Reg.KEY_SLOTs_ATTR n) = 0 ∧ t.reg (Reg.KEY_SLOTs_KCV n) = 0
      ∧ t.reg (Reg.KEY_SLOTs_GEN n) = s.reg (Reg.KEY_SLOTs_GEN n) ∧ tfind? t.key.record.secrets n = none
      ∧ (t.slot k).st = .active ∧ (t.slot j).block = Blk.STO ∧ OnlyChanges [.regs, .out, .opt, .key, .sto] s t := by
  obtain ⟨rfl, hact, -, -, -⟩ := s.activeOp_some k Blk.KEY 2 x hx
  obtain ⟨h1, h2, h3, h4, h5, h6⟩ := s.clearKey_spec hhi
  have hrun : ∀ t, (s.clearKey n).writeCtxRecord k 0 = t → OnlyChanges [.regs, .out, .opt, .key, .sto] s t → SameOtp s t →
      exec (.slotDestroy k) s = .next t := fun t ht hch hotp => by
    rw [exec_slotDestroy, execSlotDestroy]
    refine State.powered_otp hup ?_ hch hotp
    simp only [hx, hn]
    rw [if_neg (by omega), if_neg (by simp [hlock])]
    exact ht
  generalize s.clearKey n = u at *
  obtain ⟨hask, hkey, hall, hotp⟩ := State.writeCtxRecord_after h5 h6 hact hpf hfree 0
  generalize u.writeCtxRecord k 0 = t at *
  obtain ⟨q1, q2, q3, -, -, -⟩ := slotRegs_kept hhi
  exact ⟨t, hrun t rfl hall hotp, (hask.regs _ q1).trans h1, (hask.regs _ q3).trans h2, (hask.regs _ q2).trans h3, by rw [hkey]; exact h4,
    hask.waits, hask.block, hall⟩

theorem exec_slotDestroy_locked (hup : s.Up) (hserv : tfind? s.hlk.serving k = none) (hx : s.activeOp k Blk.KEY 2 = some x)
    (hn : paramField x.param 0 1 = n) (hlo : 4 ≤ n) (hhi : n ≤ 15) (hlock : s.flag (Reg.KEY_SLOTs_ATTR n) 4 = true) :
    ∃ t, exec (.slotDestroy k) s = .next t ∧ t.Ended k St.FAIL_DENIED 0 ∧ OnlyChanges [.opt, .scn] s t := by
  rw [exec_slotDestroy, execSlotDestroy]
  refine State.powered_decides hup (State.serves_of_activeOp hserv hx) (by decide) ?_
  simp only [hx, hn]
  rw [if_neg (by omega), if_pos hlock]

/-! ### ATTEST and SET_FLOOR -/

theorem exec_attest_signs {ch : List Byte} (hup : s.Up) (hserv : tfind? s.hlk.serving k = none) (hx : s.activeOp k Blk.KEY 4 = some x)
    (hlen : 32 ≤ ch.length) (hroot : s.flag Reg.KEY_LC 24 = true) : ∃ t, exec (.attest k ch) s = .next t ∧ t.Ended k St.OK 0
      ∧ t.out = s.out ++ [.dma (paramField x.param 8 8 + 32) (beBytes 64
        (Config.ecdsaSign (derivedKey s.key.otpEpoch 0) s.free (Config.sha256 (uidBytes ++ beBytes 4 (s.num Reg.KEY_LC) ++ ch.take 32))).toNat)]
      ∧ OnlyChanges [.free, .out, .opt, .scn] s t := by
  have hserves := State.serves_of_activeOp hserv hx
  generalize hout : Output.dma (paramField x.param 8 8 + 32) (beBytes 64
    (Config.ecdsaSign (derivedKey s.key.otpEpoch 0) s.free (Config.sha256 (uidBytes ++ beBytes 4 (s.num Reg.KEY_LC) ++ ch.take 32))).toNat) = o
  have hch : OnlyChanges [.free, .out] s (s.nextFree.emit o) := by simp [onlyChanges_iff, State.nextFree, State.emit]
  have hrun : ∀ t, (s.nextFree.emit o).decideOp k St.OK 0 = t → OnlyChanges [.free, .out, .opt, .scn] s t → exec (.attest k ch) s = .next t := by
    intro t ht hall
    rw [exec_attest, execAttest]
    refine State.powered_next hup ?_ hall (by simp)
    simp only [hx, hroot, hout, Bool.not_true, Bool.false_eq_true, if_false]
    rw [if_neg (by omega)]
    exact ht
  have hemit : (s.nextFree.emit o).out = s.out ++ [o] := rfl
  have hserves2 : (s.nextFree.emit o).Serves k Blk.KEY := hserves.frame hch (by simp)
  generalize s.nextFree.emit o = u at *
  have hend := hserves2.onlyChanges (by decide) St.OK 0
  have hall := (hch.mono (qs := [.free, .out, .opt, .scn]) (by simp)).trans (hend.mono (by simp))
  exact ⟨_, hrun _ rfl hall, State.decideOp_ended hserves2.active St.OK 0, (hend.2.2 .out (by simp)).trans hemit, hall⟩

theorem exec_setFloor_raises {id f : Nat} (hup : s.Up) (hx : s.activeOp k Blk.KEY 7 = some x) (hid : paramField x.param 0 4 = id)
    (hf : paramField x.param 4 4 = f) (hok : s.sup.imgOk = true) (himg : s.sup.imgId = id) (hle : f ≤ s.sup.imgVer) (hpf : s.sup.pfail = false)
    (hfree : s.freeTag = some j) : ∃ t, exec (.setFloor k) s = .next t
        ∧ tget (fun _ => 0) t.key.record.floors id = max (tget (fun _ => 0) s.key.record.floors id) f
        ∧ t.key.writes = s.key.writes ++ [(k, t.key.record)] ∧ (t.slot k).st = .active ∧ (t.slot j).block = Blk.STO
        ∧ OnlyChanges [.regs, .out, .opt, .key, .sto] s t := by
  obtain ⟨rfl, hact, -, -, -⟩ := s.activeOp_some k Blk.KEY 7 x hx
  obtain ⟨u, hu, hfloor, hwrites, hch, hsame⟩ : ∃ u : State, u = { s with key := { s.key with record := { s.key.record with
      floors := tset (fun _ => 0) s.key.record.floors id (Nat.max (tget (fun _ => 0) s.key.record.floors id) f) } } }
      ∧ tget (fun _ => 0) u.key.record.floors id = max (tget (fun _ => 0) s.key.record.floors id) f ∧ u.key.writes = s.key.writes
      ∧ OnlyChanges [.key] s u ∧ SameOtp s u :=
    ⟨_, rfl, (tget_tset (fun _ => 0) s.key.record.floors id id _).trans (if_pos rfl), rfl, s.withKey_onlyChanges _, ⟨rfl, rfl, rfl, rfl⟩⟩
  have hrun : ∀ t, u.writeCtxRecord k 0 = t → OnlyChanges [.regs, .out, .opt, .key, .sto] s t → SameOtp s t →
      exec (.setFloor k) s = .next t := fun t ht hch hotp => by
    rw [exec_setFloor, execSetFloor]
    refine State.powered_otp hup ?_ hch hotp
    simp only [hx, hid, hf, hok, himg, and_self, if_true]
    rw [if_neg (by omega), ← hu]
    exact ht
  obtain ⟨hask, hkey, hall, hotp⟩ := State.writeCtxRecord_after (hch.mono (by simp)) hsame hact hpf hfree 0
  generalize u.writeCtxRecord k 0 = t at *
  exact ⟨t, hrun t rfl hall hotp, by rw [hkey]; exact hfloor, by rw [hkey, hwrites], hask.waits, hask.block, hall⟩

theorem exec_setFloor_over {id f : Nat} (hup : s.Up) (hserv : tfind? s.hlk.serving k = none) (hx : s.activeOp k Blk.KEY 7 = some x)
    (hid : paramField x.param 0 4 = id) (hf : paramField x.param 4 4 = f) (hok : s.sup.imgOk = true) (himg : s.sup.imgId = id)
    (hlt : s.sup.imgVer < f) : ∃ t, exec (.setFloor k) s = .next t ∧ t.Ended k St.FAIL_INVALID 0 ∧ OnlyChanges [.opt, .scn] s t := by
  rw [exec_setFloor, execSetFloor]
  refine State.powered_decides hup (State.serves_of_activeOp hserv hx) (by decide) ?_
  simp only [hx, hid, hf, hok, himg, and_self, if_true]
  rw [if_pos hlt]

/-! ### LC_ADVANCE -/

theorem State.newNonce_spec (s : State) : s.newNonce.reg Reg.KEY_LC_NONCE = Config.freeWord s.free ∧ OnlyChanges [.free, .regs] s s.newNonce
    ∧ OnlyRegs [Reg.KEY_LC_NONCE] s s.newNonce := by
  refine ⟨s.setReg_reg_same _ _, ?_, ?_⟩
  · simp [State.newNonce, State.nextFree, onlyChanges_iff]
  · exact (OnlyRegs.refl _ s).setReg

theorem State.blowing_next_of {t : State} {f : State → State} {ps : List Part} (hup : s.Up) (hf : f s = t) (hch : OnlyChanges ps s t) :
    s.blowing f = .next t := by
  rw [State.blowing, show s.sup.inReset = false from hup, if_neg (by simp), hf, ← hch.1, ← hch.2.1]

theorem State.authFail_spec (s : State) : s.authFail.num Reg.KEY_AUTH_FAIL_CNT = Nat.min (s.num Reg.KEY_AUTH_FAIL_CNT + 1) (2 ^ 32 - 1)
    ∧ s.authFail.flag (Reg.IRQ_STAT Blk.KEY) 1 = true ∧ OnlyChanges [.regs, .out] s s.authFail
    ∧ OnlyRegs (Reg.KEY_AUTH_FAIL_CNT :: irqRegs Blk.KEY) s s.authFail := by
  unfold State.authFail
  have a1 := s.satInc_num Reg.KEY_AUTH_FAIL_CNT 1
  have a2 := s.satInc_onlyChanges Reg.KEY_AUTH_FAIL_CNT 0 32 1
  have a3 : OnlyRegs [Reg.KEY_AUTH_FAIL_CNT] s (s.satInc Reg.KEY_AUTH_FAIL_CNT 0 32 1) := (OnlyRegs.refl _ s).satInc
  generalize s.satInc Reg.KEY_AUTH_FAIL_CNT 0 32 1 = u at *
  have i2 := u.raiseIrq_onlyRegs Blk.KEY 1
  refine ⟨?_, u.raiseIrq_flag_same Blk.KEY 1 (by decide), (a2.mono (by simp)).trans (u.raiseIrq_onlyChanges Blk.KEY 1), ?_⟩
  · rw [State.num_congr (i2 _ (by decide)), a1]
  · exact (a3.mono (by simp)).trans (i2.mono (by simp))

theorem exec_lcAdvance_barred {d : Nat} {w : BitVec 512} (hup : s.Up) (hserv : tfind? s.hlk.serving k = none) (hx : s.activeOp k Blk.KEY 3 = some x)
    (hd : paramField x.param 0 1 = d) (hbar : lcSlots s.lcState d = [] ∨ s.key.otpLeft = 0 ∧ d ≠ 4) : ∃ t, exec (.lcAdvance k w) s = .next t
      ∧ t.Ended k St.FAIL_DENIED 0 ∧ t.reg Reg.KEY_LC_NONCE = Config.freeWord s.free ∧ OnlyChanges [.free, .regs, .opt, .scn] s t
      ∧ OnlyRegs [Reg.KEY_LC_NONCE] s t := by
  have hserves := State.serves_of_activeOp hserv hx
  obtain ⟨h1, h2, h3⟩ := s.newNonce_spec
  have hrun : ∀ t, s.newNonce.decideOp k St.FAIL_DENIED 0 = t → OnlyChanges [.free, .regs, .opt, .scn] s t →
      exec (.lcAdvance k w) s = .next t := fun t ht hall => by
    rw [exec_lcAdvance, execLcAdvance]
    refine State.blowing_next_of hup ?_ hall
    simp only [hx, hd]
    rw [if_pos hbar]
    exact ht
  have hserves2 : s.newNonce.Serves k Blk.KEY := hserves.frame h2 (by simp)
  generalize s.newNonce = u at *
  have hend := hserves2.onlyChanges (by decide) St.FAIL_DENIED 0
  have hreg := hserves2.reg (by decide) St.FAIL_DENIED 0
  have hall := (h2.mono (qs := [.free, .regs, .opt, .scn]) (by simp)).trans (hend.mono (by simp))
  exact ⟨_, hrun _ rfl hall, State.decideOp_ended hserves2.active _ _, (hreg _).trans h1, hall, h3.trans (fun off _ => hreg off)⟩

theorem exec_lcAdvance_denied {d : Nat} {w : BitVec 512} (hup : s.Up) (hserv : tfind? s.hlk.serving k = none) (hx : s.activeOp k Blk.KEY 3 = some x)
    (hd : paramField x.param 0 1 = d) (hbar : ¬ (lcSlots s.lcState d = [] ∨ s.key.otpLeft = 0 ∧ d ≠ 4))
    (hsig : s.signedBy (lcSlots s.lcState d) (s.tokenDigest d) w = false) : ∃ t, exec (.lcAdvance k w) s = .next t
      ∧ t.reg Reg.KEY_LC_NONCE = Config.freeWord s.free ∧ t.Ended k St.FAIL_DENIED 0
      ∧ t.num Reg.KEY_AUTH_FAIL_CNT = Nat.min (s.num Reg.KEY_AUTH_FAIL_CNT + 1) (2 ^ 32 - 1)
      ∧ t.flag (Reg.IRQ_STAT Blk.KEY) 1 = true ∧ OnlyChanges [.free, .regs, .out, .opt, .scn] s t := by
  have hserves := State.serves_of_activeOp hserv hx
  obtain ⟨a1, a2, a3, a4⟩ := s.authFail_spec
  have hrun : ∀ t, s.authFail.newNonce.decideOp k St.FAIL_DENIED 0 = t → OnlyChanges [.free, .regs, .out, .opt, .scn] s t →
      exec (.lcAdvance k w) s = .next t := fun t ht hall => by
    rw [exec_lcAdvance, execLcAdvance]
    refine State.blowing_next_of hup ?_ hall
    simp only [hx, hd]
    rw [if_neg hbar, hsig, if_neg (by simp)]
    exact ht
  have hserves1 : s.authFail.Serves k Blk.KEY := hserves.frame a3 (by simp)
  generalize s.authFail = a at *
  obtain ⟨h1, h2, h3⟩ := a.newNonce_spec
  have hserves2 : a.newNonce.Serves k Blk.KEY := hserves1.frame h2 (by simp)
  generalize a.newNonce = u at *
  have hend := hserves2.onlyChanges (by decide) St.FAIL_DENIED 0
  have hreg := hserves2.reg (by decide) St.FAIL_DENIED 0
  have hall := (a3.mono (qs := [.free, .regs, .out, .opt, .scn]) (by simp)).trans ((h2.mono (by simp)).trans (hend.mono (by simp)))
  refine ⟨_, hrun _ rfl hall, ?_, State.decideOp_ended hserves2.active _ _, ?_, ?_, hall⟩
  · rw [hreg, h1, a3.2.2 .free (by simp)]
  · rw [State.num_congr ((hreg _).trans (h3 _ (by decide))), a1]
  · exact (State.flag_congr _ _ _ _ ((hreg _).trans (h3 _ (by decide)))).trans a2

theorem exec_lcAdvance_blows {d : Nat} {w : BitVec 512} (hup : s.Up) (hx : s.activeOp k Blk.KEY 3 = some x)
    (hd : paramField x.param 0 1 = d) (hbar : ¬ (lcSlots s.lcState d = [] ∨ s.key.otpLeft = 0 ∧ d ≠ 4))
    (hsig : s.signedBy (lcSlots s.lcState d) (s.tokenDigest d) w = true) : ∃ t, exec (.lcAdvance k w) s = .next t
      ∧ t.reg Reg.KEY_LC_NONCE = Config.freeWord s.free ∧ t.key.otpState = d ∧ t.key.otpLeft = s.key.otpLeft - 1
      ∧ t.key.otpEpoch = s.key.otpEpoch + 1 ∧ t.key.pendingRecord = some (d, s.carried d) ∧ t.sup.inReset = true
      ∧ (s.lifeBegun = true → t.sup.nv.endCode = 7) ∧ (t.slot k).st = .active ∧ OnlyChanges [.free, .regs, .sup, .key] s t := by
  obtain ⟨rfl, hact, -, -, -⟩ := s.activeOp_some k Blk.KEY 3 x hx
  obtain ⟨h1, h2, h3⟩ := s.newNonce_spec
  have hrun : ∀ t, (s.newNonce.blowRow d).endLife 7 = t → OnlyChanges [.free, .regs, .sup, .key] s t →
      exec (.lcAdvance k w) s = .next t := fun t ht hall => by
    rw [exec_lcAdvance, execLcAdvance]
    refine State.blowing_next_of hup ?_ hall
    simp only [hx, hd]
    rw [if_neg hbar, hsig, if_pos rfl]
    exact ht
  have hcarried : s.newNonce.carried d = s.carried d := rfl
  generalize s.newNonce = a at *
  obtain ⟨u, hu, o1, o2, o3, o4, hch, hregs⟩ : ∃ u : State, u = a.blowRow d ∧ u.key.otpState = d ∧ u.key.otpLeft = a.key.otpLeft - 1
      ∧ u.key.otpEpoch = a.key.otpEpoch + 1 ∧ u.key.pendingRecord = some (d, a.carried d) ∧ OnlyChanges [.key] a u ∧ u.regs = a.regs :=
    ⟨_, rfl, rfl, rfl, rfl, rfl, a.withKey_onlyChanges _, rfl⟩
  rw [← hu] at hrun
  have huup : u.Up := (congrArg Sup.inReset ((hch.2.2 .sup (by simp)).trans (h2.2.2 .sup (by simp)))).trans hup
  have hbegun : u.lifeBegun = s.lifeBegun := by
    have hmode : u.reg Reg.SUP_MODE = s.reg Reg.SUP_MODE := (State.reg_congr _ _ hregs _).trans (h3 _ (by decide))
    simp only [State.lifeBegun, State.mode, State.fld_congr hmode]
  have hlife := u.endLife_onlyChanges 7
  have hreset : (u.endLife 7).sup.inReset = true := by
    unfold State.endLife
    rw [if_neg (by rw [show u.sup.inReset = false from huup]; simp)]
    simp only
    split <;> rfl
  have hcode : s.lifeBegun = true → (u.endLife 7).sup.nv.endCode = 7 := fun h => by
    obtain ⟨⟨-, -, -, hcode, -⟩, -⟩ := State.endLife_spec huup (hbegun.trans h) 7
    exact hcode
  generalize u.endLife 7 = t at *
  have hkey : t.key = u.key := hlife.2.2 .key (by simp)
  have hak : a.key = s.key := h2.2.2 .key (by simp)
  have hall := (h2.mono (qs := [.free, .regs, .sup, .key]) (by simp)).trans ((hch.mono (by simp)).trans (hlife.mono (by simp)))
  refine ⟨t, hrun t rfl hall, ?_, by rw [hkey, o1], by rw [hkey, o2, hak], by rw [hkey, o3, hak], by rw [hkey, o4, hcarried], hreset, hcode, ?_, hall⟩
  · rw [State.reg_congr _ _ (hlife.2.2 .regs (by simp)), State.reg_congr _ _ hregs, h1]
  · rw [State.slot_congr _ _ (congrArg Opt.slots (hall.2.2 .opt (by simp))), hact]

end

/-- Settles O49: KEY's operations on slots, the record and the life cycle, one by one. -/
theorem slotsAndLifeCycle : Obligations.SlotsAndLifeCycle := by
  intro s k x hup hserv
  refine ⟨?_, ?_, ?_, ?_, ?_⟩
  · intro n a key j hx hn hmode ha hlo hhi hattr hpub
    exact ⟨fun hlc hlock hlen hpf hfree => exec_slotInstall_clear hup hx hn.symm hmode ha.symm hlo hhi hattr hpub hlc hlock hlen hpf hfree,
      exec_slotInstall_denied hup hserv hx hn.symm hmode ha.symm hlo hhi hattr hpub⟩
  · intro n j hx hn hlo hhi
    exact ⟨fun hlock hpf hfree => exec_slotDestroy_open hup hx hn.symm hlo hhi hlock hpf hfree,
      exec_slotDestroy_locked hup hserv hx hn.symm hlo hhi⟩
  · intro ch hx hlen hroot
    exact exec_attest_signs hup hserv hx hlen hroot
  · intro id f j hx hid hf hok himg
    exact ⟨fun hle hpf hfree => exec_setFloor_raises hup hx hid.symm hf.symm hok himg hle hpf hfree,
      exec_setFloor_over hup hserv hx hid.symm hf.symm hok himg⟩
  · rintro d l w hx hd rfl
    refine ⟨fun hl hrows => ?_, exec_lcAdvance_barred hup hserv hx hd.symm⟩
    have hbar : ¬ (lcSlots s.lcState d = [] ∨ s.key.otpLeft = 0 ∧ d ≠ 4) := by tauto
    cases hsig : s.signedBy (lcSlots s.lcState d) (s.tokenDigest d) w with
    | true =>
      obtain ⟨t, ht, hnonce, h⟩ := exec_lcAdvance_blows hup hx hd.symm hbar hsig
      exact ⟨t, ht, hnonce, fun _ => h, fun h => by simp at h⟩
    | false =>
      obtain ⟨t, ht, hnonce, h⟩ := exec_lcAdvance_denied hup hserv hx hd.symm hbar hsig
      exact ⟨t, ht, hnonce, fun h => by simp at h, fun _ => h⟩

end Sys2Proof.Machine

/-! PROOFS. What the cache, the blobs and the sessions show, and how a session ends (R547, R549, R554, R561, R563). -/

namespace Sys2Proof.Machine

-- One declaration after the other: the stacks of parallel elaboration would count against the memory limit of the check.
set_option Elab.async false

section
variable {s : State} {c : Nat}

/-- The registers that show the cache, the blobs and the open sessions. -/
def tenShown : List Nat := [Reg.TEN_STAT, Reg.KEY_BLOB_STAT, Reg.KEY_CACHE_STAT, Reg.TEN_SESSIONS]

/-- A register of a tenant context is none of the registers outside TEN's context window. -/
theorem ctxReg_not_mem {l : List Nat} {off : Nat} (hl : l.all (fun o => decide (o < 0x4C1000) || decide (0x4C3000 ≤ o)) = true)
    (h : 0x4C1000 ≤ off ∧ off < 0x4C3000) : off ∉ l := by
  intro hm
  have := List.all_eq_true.mp hl off hm
  simp at this
  omega

theorem State.noteKey_spec (s : State) : s.noteKey.fld Reg.KEY_CACHE_STAT 0 6 = s.key.cache.length % 64 ∧ OnlyChanges [.regs] s s.noteKey
    ∧ OnlyRegs [Reg.TEN_STAT, Reg.KEY_BLOB_STAT, Reg.KEY_CACHE_STAT] s s.noteKey := by
  unfold State.noteKey
  simp only
  generalize (s.key.cache.filter (fun c => s.flag (Reg.TEN_CTXc_STAT c) 1)).length = p
  generalize hn : s.key.cache.length + p * 2 ^ 8 = n
  have a1 := s.setNum_num_same Reg.KEY_CACHE_STAT n
  have a2 := s.setNum_onlyChanges Reg.KEY_CACHE_STAT n
  have a3 : OnlyRegs [Reg.KEY_CACHE_STAT] s (s.setNum Reg.KEY_CACHE_STAT n) := (OnlyRegs.refl _ s).setNum
  generalize s.setNum Reg.KEY_CACHE_STAT n = u at *
  generalize s.key.blobs.length = m
  have a4 : OnlyRegs [Reg.TEN_STAT, Reg.KEY_BLOB_STAT, Reg.KEY_CACHE_STAT] u ((u.setFld Reg.KEY_BLOB_STAT 0 9 m).setFld Reg.TEN_STAT 16 9 m) :=
    (OnlyRegs.refl _ u).setFld.setFld
  refine ⟨?_, a2.trans ((u.setFld_onlyChanges _ _ _ _).trans (State.setFld_onlyChanges _ _ _ _ _)), (a3.mono (by simp)).trans a4⟩
  rw [State.setFld_fld_reg _ _ _ _ _ _ _ _ (by decide), State.setFld_fld_reg _ _ _ _ _ _ _ _ (by decide)]
  have h : u.fld Reg.KEY_CACHE_STAT 0 6 = u.num Reg.KEY_CACHE_STAT % 64 := by
    simp [State.fld, State.num, bitsOf]
  rw [h, a1]
  omega

theorem State.noteSessions_spec (s : State) : OnlyChanges [.regs] s s.noteSessions ∧ OnlyRegs tenShown s s.noteSessions := by
  unfold State.noteSessions
  simp only
  generalize ((List.range 256).filter (fun c => s.flag (Reg.TEN_CTXc_STAT c) 1)).length = n
  obtain ⟨-, h2, h3⟩ := (s.setFld Reg.TEN_SESSIONS 0 9 n).noteKey_spec
  have a3 : OnlyRegs [Reg.TEN_SESSIONS] s (s.setFld Reg.TEN_SESSIONS 0 9 n) := (OnlyRegs.refl _ s).setFld
  exact ⟨(s.setFld_onlyChanges _ _ _ _).trans h2, (a3.mono (by simp [tenShown])).trans (h3.mono (by simp [tenShown]))⟩

theorem State.withTen_only (s : State) (y : Ten) : OnlyChanges [.ten] s { s with ten := y } := by
  simp [onlyChanges_iff]

/-- An open session that ends (R554). -/
theorem State.closeSession_open (hc : c ≤ 255) (hopen : s.flag (Reg.TEN_CTXc_STAT c) 1 = true) :
    (s.closeSession c).flag (Reg.TEN_CTXc_STAT c) 1 = false ∧ (s.closeSession c).num (Reg.TEN_CTXc_SESS_LEFT c) = 0
    ∧ tfind? (s.closeSession c).ten.sessionEnd c = none ∧ (s.closeSession c).flag (Reg.IRQ_STAT Blk.TEN) 4 = true
    ∧ (s.closeSession c).flag (Reg.TEN_CTXc_STAT c) 0 = s.flag (Reg.TEN_CTXc_STAT c) 0
    ∧ (s.closeSession c).fld (Reg.TEN_CTXc_STAT c) 16 16 = s.fld (Reg.TEN_CTXc_STAT c) 16 16
    ∧ OnlyChanges [.regs, .out, .ten] s (s.closeSession c) := by
  unfold State.closeSession
  rw [if_pos hopen]
  simp only
  have hstat : 0x4C1000 ≤ Reg.TEN_CTXc_STAT c ∧ Reg.TEN_CTXc_STAT c < 0x4C3000 := by simp only [Reg.TEN_CTXc_STAT]; omega
  have hleft : 0x4C1000 ≤ Reg.TEN_CTXc_SESS_LEFT c ∧ Reg.TEN_CTXc_SESS_LEFT c < 0x4C3000 := by simp only [Reg.TEN_CTXc_SESS_LEFT]; omega
  have hne : Reg.TEN_CTXc_SESS_LEFT c ≠ Reg.TEN_CTXc_STAT c := by simp only [Reg.TEN_CTXc_SESS_LEFT, Reg.TEN_CTXc_STAT]; omega
  have a1 := s.setFlag_flag_same (Reg.TEN_CTXc_STAT c) 1 false (by decide)
  have a2 := s.setFlag_flag_other (Reg.TEN_CTXc_STAT c) 1 0 false (by decide) (by decide)
  have a3 : (s.setFlag (Reg.TEN_CTXc_STAT c) 1 false).fld (Reg.TEN_CTXc_STAT c) 16 16 = s.fld (Reg.TEN_CTXc_STAT c) 16 16 :=
    s.setFld_fld_other (Reg.TEN_CTXc_STAT c) 1 1 0 16 16 (by decide) (by decide)
  have a4 := s.setFlag_onlyChanges (Reg.TEN_CTXc_STAT c) 1 false
  generalize s.setFlag (Reg.TEN_CTXc_STAT c) 1 false = u1 at *
  have b1 := u1.setNum_num_same (Reg.TEN_CTXc_SESS_LEFT c) 0
  have b2 := u1.setNum_reg_other (Reg.TEN_CTXc_SESS_LEFT c) 0 _ hne
  have b3 := u1.setNum_onlyChanges (Reg.TEN_CTXc_SESS_LEFT c) 0
  generalize u1.setNum (Reg.TEN_CTXc_SESS_LEFT c) 0 = u2 at *
  obtain ⟨u3, hu3, d1, d2, d3⟩ : ∃ u3 : State, u3 = { u2 with ten := { u2.ten with sessionEnd := tdel u2.ten.sessionEnd c } }
      ∧ tfind? u3.ten.sessionEnd c = none ∧ u3.regs = u2.regs ∧ OnlyChanges [.ten] u2 u3 :=
    ⟨_, rfl, (tfind?_tdel u2.ten.sessionEnd c c).trans (if_pos rfl), rfl, u2.withTen_only _⟩
  rw [← hu3]
  obtain ⟨e1, e2⟩ := u3.noteSessions_spec
  generalize u3.noteSessions = u4 at *
  have i1 := u4.raiseIrq_onlyChanges Blk.TEN 4
  have i2 := u4.raiseIrq_onlyRegs Blk.TEN 4
  have i3 := u4.raiseIrq_flag_same Blk.TEN 4 (by decide)
  generalize u4.raiseIrq Blk.TEN 4 = u5 at *
  have hreg : ∀ off, 0x4C1000 ≤ off ∧ off < 0x4C3000 → u5.reg off = u2.reg off := fun off h =>
    (i2 _ (ctxReg_not_mem (by decide) h)).trans ((e2 _ (ctxReg_not_mem (by decide) h)).trans (State.reg_congr _ _ d2 off))
  have hstat2 : u5.reg (Reg.TEN_CTXc_STAT c) = u1.reg (Reg.TEN_CTXc_STAT c) := (hreg _ hstat).trans b2
  refine ⟨(State.flag_congr _ _ _ _ hstat2).trans a1, (State.num_congr (hreg _ hleft)).trans b1, ?_, i3, (State.flag_congr _ _ _ _ hstat2).trans a2,
    (State.fld_congr hstat2 _ _).trans a3, ?_⟩
  · rw [i1.2.2 .ten (by simp), e1.2.2 .ten (by simp), d1]
  · exact (a4.mono (by simp)).trans ((b3.mono (by simp)).trans ((d3.mono (by simp)).trans ((e1.mono (by simp)).trans (i1.mono (by simp)))))

/-- After its close a context has no session, whether it had one before or not (R554). -/
theorem State.closeSession_spec (s : State) (hc : c ≤ 255) : (s.closeSession c).flag (Reg.TEN_CTXc_STAT c) 1 = false
    ∧ (s.closeSession c).flag (Reg.TEN_CTXc_STAT c) 0 = s.flag (Reg.TEN_CTXc_STAT c) 0
    ∧ (s.closeSession c).fld (Reg.TEN_CTXc_STAT c) 16 16 = s.fld (Reg.TEN_CTXc_STAT c) 16 16
    ∧ OnlyChanges [.regs, .out, .ten] s (s.closeSession c) := by
  cases hopen : s.flag (Reg.TEN_CTXc_STAT c) 1 with
  | true =>
    obtain ⟨h1, -, -, -, h5, h6, h7⟩ := State.closeSession_open hc hopen
    exact ⟨h1, h5, h6, h7⟩
  | false =>
    have h : s.closeSession c = s := by rw [State.closeSession, if_neg (by simp [hopen])]
    rw [h]
    exact ⟨hopen, rfl, rfl, .refl _ s⟩

/-! ### A context's key -/

/-- The generation that TEN_CTXc_STAT shows of a blob (R563). -/
def blobGen : Option KeyBlob → Nat
  | some b => b.gen
  | none => 0

/-- A context's key comes or goes (R547, R563). -/
theorem State.setBlob_spec (s : State) (hc : c ≤ 255) (b : Option KeyBlob) : (s.setBlob c b).blob c = b
    ∧ (s.setBlob c b).flag (Reg.TEN_CTXc_STAT c) 0 = b.isSome ∧ (s.setBlob c b).fld (Reg.TEN_CTXc_STAT c) 16 16 = blobGen b % 2 ^ 16
    ∧ OnlyChanges [.regs, .key] s (s.setBlob c b) ∧ SameOtp s (s.setBlob c b) := by
  have hstat : 0x4C1000 ≤ Reg.TEN_CTXc_STAT c ∧ Reg.TEN_CTXc_STAT c < 0x4C3000 := by simp only [Reg.TEN_CTXc_STAT]; omega
  obtain ⟨u1, h1, h2, h3, h4⟩ : ∃ u1 : State, s.setBlob c b = ((u1.setFlag (Reg.TEN_CTXc_STAT c) 0 b.isSome).setFld (Reg.TEN_CTXc_STAT c) 16 16
      (blobGen b)).noteKey ∧ u1.blob c = b ∧ OnlyChanges [.key] s u1 ∧ SameOtp s u1 := by
    cases b with
    | some b => exact ⟨_, rfl, (tfind?_tput s.key.blobs c c b).trans (if_pos rfl), s.withKey_onlyChanges _, ⟨rfl, rfl, rfl, rfl⟩⟩
    | none => exact ⟨_, rfl, (tfind?_tdel s.key.blobs c c).trans (if_pos rfl), s.withKey_onlyChanges _, ⟨rfl, rfl, rfl, rfl⟩⟩
  rw [h1]
  have a1 := u1.setFlag_flag_same (Reg.TEN_CTXc_STAT c) 0 b.isSome (by decide)
  have a2 := u1.setFlag_onlyChanges (Reg.TEN_CTXc_STAT c) 0 b.isSome
  generalize u1.setFlag (Reg.TEN_CTXc_STAT c) 0 b.isSome = u2 at *
  have b1 := u2.setFld_fld_same (Reg.TEN_CTXc_STAT c) 16 16 (blobGen b) (by decide)
  have b2 : (u2.setFld (Reg.TEN_CTXc_STAT c) 16 16 (blobGen b)).flag (Reg.TEN_CTXc_STAT c) 0 = u2.flag (Reg.TEN_CTXc_STAT c) 0 := by
    unfold State.flag
    rw [u2.setFld_fld_other _ _ _ _ _ _ (by decide) (by decide)]
  have b3 := u2.setFld_onlyChanges (Reg.TEN_CTXc_STAT c) 16 16 (blobGen b)
  generalize u2.setFld (Reg.TEN_CTXc_STAT c) 16 16 (blobGen b) = u3 at *
  obtain ⟨-, e1, e2⟩ := u3.noteKey_spec
  generalize u3.noteKey = u4 at *
  have hreg := e2 _ (ctxReg_not_mem (by decide) hstat)
  have hregs : OnlyChanges [.regs] u1 u4 := a2.trans (b3.trans e1)
  have hkey : u4.key = u1.key := hregs.2.2 .key (by simp)
  refine ⟨?_, ((State.flag_congr _ _ _ _ hreg).trans b2).trans a1, (State.fld_congr hreg _ _).trans b1,
    (h3.mono (by simp)).trans (hregs.mono (by simp)), h4.trans (SameOtp.of_key hkey)⟩
  rw [State.blob, hkey]
  exact h2

end

end Sys2Proof.Machine

/-! PROOFS. Tenant keys come and go, and a missed context enters the cache (R547, R549, R558). -/

namespace Sys2Proof.Machine

-- One declaration after the other: the stacks of parallel elaboration would count against the memory limit of the check.
set_option Elab.async false

section
variable {s : State} {j k c : Nat} {x : Slot} {b : List Byte}

/-- What a changed blob leaves behind: the operation waits for STO (R548, R558). -/
theorem State.writeBlob_after {t : State} (hch : OnlyChanges [.regs, .out, .key, .ten] s t) (hotp : SameOtp s t) (hact : (s.slot k).st = .active)
    (hpf : s.sup.pfail = false) (hfree : s.freeTag = some j) (c : Nat) (r : Word) :
    t.KeyAsked (t.writeBlob k c r) k j (if (t.blob c).isSome then StoOp.PUT else StoOp.DELETE)
      ∧ (t.writeBlob k c r).key = { t.key with blobWrites := t.key.blobWrites ++ [(k, c, t.blob c)] }
      ∧ OnlyChanges [.regs, .out, .opt, .key, .ten, .sto] s (t.writeBlob k c r) ∧ SameOtp s (t.writeBlob k c r) := by
  have hslot : ∀ m, t.slot m = s.slot m := fun m => State.slot_congr _ _ (congrArg Opt.slots (hch.2.2 .opt (by simp))) m
  have hfree2 : t.freeTag = some j := (State.freeTag_congr (fun m => by rw [hslot]) (congrArg Opt.lastTag (hch.2.2 .opt (by simp)))).trans hfree
  obtain ⟨hask, hkey⟩ := State.writeBlob_spec (s := t) (by rw [hch.2.2 .sup (by simp)]; exact hpf) hfree2 (by rw [hslot]; exact hact) c r
  refine ⟨hask, hkey, (hch.mono (by simp)).trans (hask.parts.mono (by simp)), hotp.trans ?_⟩
  unfold SameOtp
  rw [hkey]
  exact ⟨rfl, rfl, rfl, rfl⟩

theorem State.blob_congr {t : State} (h : t.key = s.key) (c : Nat) : t.blob c = s.blob c := by
  rw [State.blob, State.blob, h]

theorem ctxStat_in (hc : c ≤ 255) : 0x4C1000 ≤ Reg.TEN_CTXc_STAT c ∧ Reg.TEN_CTXc_STAT c < 0x4C3000 := by
  simp only [Reg.TEN_CTXc_STAT]
  omega

/-- A new key in force: blob, generation and session of its context, and the key event (R547). -/
theorem State.newKey_spec (s : State) (hc : c ≤ 255) (o : KeyBlob) :
    (((s.setBlob c (some o)).closeSession c).raiseIrq Blk.KEY 3).blob c = some o
    ∧ (((s.setBlob c (some o)).closeSession c).raiseIrq Blk.KEY 3).flag (Reg.TEN_CTXc_STAT c) 0 = true
    ∧ (((s.setBlob c (some o)).closeSession c).raiseIrq Blk.KEY 3).flag (Reg.TEN_CTXc_STAT c) 1 = false
    ∧ (((s.setBlob c (some o)).closeSession c).raiseIrq Blk.KEY 3).fld (Reg.TEN_CTXc_STAT c) 16 16 = o.gen % 2 ^ 16
    ∧ (((s.setBlob c (some o)).closeSession c).raiseIrq Blk.KEY 3).flag (Reg.IRQ_STAT Blk.KEY) 3 = true
    ∧ OnlyChanges [.regs, .out, .key, .ten] s (((s.setBlob c (some o)).closeSession c).raiseIrq Blk.KEY 3)
    ∧ SameOtp s (((s.setBlob c (some o)).closeSession c).raiseIrq Blk.KEY 3) := by
  obtain ⟨a1, a2, a3, a4, a5⟩ := s.setBlob_spec hc (some o)
  generalize s.setBlob c (some o) = u1 at *
  obtain ⟨b1, b2, b3, b4⟩ := u1.closeSession_spec hc
  generalize u1.closeSession c = u2 at *
  have i1 := u2.raiseIrq_onlyChanges Blk.KEY 3
  have i2 := u2.raiseIrq_onlyRegs Blk.KEY 3 _ (ctxReg_not_mem (by decide) (ctxStat_in hc))
  have i3 := u2.raiseIrq_flag_same Blk.KEY 3 (by decide)
  generalize u2.raiseIrq Blk.KEY 3 = u3 at *
  have hkey : u3.key = u1.key := (i1.2.2 .key (by simp)).trans (b4.2.2 .key (by simp))
  refine ⟨?_, ?_, (State.flag_congr _ _ _ _ i2).trans b1, ?_, i3, (a4.mono (by simp)).trans ((b4.mono (by simp)).trans (i1.mono (by simp))),
    a5.trans (SameOtp.of_key hkey)⟩
  · rw [State.blob, hkey]
    exact a1
  · exact (State.flag_congr _ _ _ _ i2).trans (b2.trans a2)
  · exact (State.fld_congr i2 _ _).trans (b3.trans a3)

/-! ### TENANT_IMPORT -/

/-- What an imported key shows while its blob is written (R547, R558). -/
theorem State.imported_spec (hact : (s.slot k).st = .active) (hpf : s.sup.pfail = false) (hfree : s.freeTag = some j) (hc : c ≤ 255) (o : KeyBlob)
    (r : Word) : ∃ t, (((s.setBlob c (some o)).closeSession c).raiseIrq Blk.KEY 3).writeBlob k c r = t ∧ t.blob c = some o
      ∧ t.flag (Reg.TEN_CTXc_STAT c) 0 = true ∧ t.flag (Reg.TEN_CTXc_STAT c) 1 = false ∧ t.fld (Reg.TEN_CTXc_STAT c) 16 16 = o.gen % 2 ^ 16
      ∧ t.flag (Reg.IRQ_STAT Blk.KEY) 3 = true ∧ (t.slot k).st = .active ∧ (t.slot j).block = Blk.STO ∧ (t.slot j).opcode = StoOp.PUT
      ∧ OnlyChanges [.regs, .out, .opt, .key, .ten, .sto] s t ∧ SameOtp s t := by
  obtain ⟨h1, h2, h3, h4, h5, h6, h7⟩ := s.newKey_spec hc o
  generalize ((s.setBlob c (some o)).closeSession c).raiseIrq Blk.KEY 3 = u at *
  obtain ⟨hask, hkey, hall, hotp⟩ := State.writeBlob_after h6 h7 hact hpf hfree c r
  rw [h1] at hask
  generalize u.writeBlob k c r = t at *
  have hreg := hask.regs _ (ctxReg_not_mem (by decide) (ctxStat_in hc))
  refine ⟨t, rfl, ?_, (State.flag_congr _ _ _ _ hreg).trans h2, (State.flag_congr _ _ _ _ hreg).trans h3, (State.fld_congr hreg _ _).trans h4,
    (State.flag_congr _ _ _ _ (hask.regs _ (by decide))).trans h5, hask.waits, hask.block, hask.opcode, hall, hotp⟩
  exact (congrArg (fun y : Key => tfind? y.blobs c) hkey).trans h1

/-- A wrapped key that does not open is refused and counted (R558, R561). -/
theorem State.authFail_denies (hserv : s.Serves k Blk.KEY) (st : Nat) : (s.authFail.decideOp k st 0).Ended k st 0
    ∧ (s.authFail.decideOp k st 0).num Reg.KEY_AUTH_FAIL_CNT = Nat.min (s.num Reg.KEY_AUTH_FAIL_CNT + 1) (2 ^ 32 - 1)
    ∧ OnlyChanges [.regs, .out, .opt, .scn] s (s.authFail.decideOp k st 0) := by
  obtain ⟨a1, -, a3, -⟩ := s.authFail_spec
  have hserv2 : s.authFail.Serves k Blk.KEY := hserv.frame a3 (by simp)
  generalize s.authFail = u at *
  refine ⟨hserv2.ended st 0, ?_, (a3.mono (by simp)).trans ((hserv2.onlyChanges (by decide) st 0).mono (by simp))⟩
  rw [State.num_congr (hserv2.reg (by decide) st 0 _), a1]

section
variable (hup : s.Up) (hx : s.activeOp k Blk.KEY 5 = some x) (hc1 : 1 ≤ c) (hc : c ≤ 255) (hcx : paramField x.param 0 1 = c)
  (hctx : x.ctx = 0 ∨ x.ctx = c) (hlc : s.lcState = 1 ∨ s.lcState = 2)
include hup hx hc1 hc hcx hctx hlc

theorem exec_tenantImport_first {key : BitVec 256} (hlen : 40 ≤ b.length) (hpf : s.sup.pfail = false) (hfree : s.freeTag = some j)
    (hmode : paramField x.param 1 1 = 0) (hblob : s.blob c = none) (hkey : s.unwrapSlot 4 (b.take 40) = some key) :
    ∃ t, exec (.tenantImport k b) s = .next t ∧ t.blob c = some ⟨key, 0, 0⟩ ∧ t.flag (Reg.TEN_CTXc_STAT c) 0 = true
      ∧ t.flag (Reg.IRQ_STAT Blk.KEY) 3 = true ∧ (t.slot k).st = .active ∧ (t.slot j).block = Blk.STO
      ∧ (t.slot j).opcode = StoOp.PUT ∧ OnlyChanges [.regs, .out, .opt, .key, .ten, .sto] s t := by
  obtain ⟨rfl, hact, -, -, -⟩ := s.activeOp_some k Blk.KEY 5 x hx
  obtain ⟨t, ht, h1, h2, -, -, h5, h6, h7, h8, hall, hotp⟩ := State.imported_spec hact hpf hfree hc ⟨key, 0, 0⟩ (BitVec.ofNat 32 0)
  refine ⟨t, ?_, h1, h2, h5, h6, h7, h8, hall⟩
  rw [exec_tenantImport, execTenantImport]
  refine State.powered_otp hup ?_ hall hotp
  simp only [hx, hcx, hmode, hblob, hkey]
  rw [if_neg (by omega), if_neg (by omega), if_neg (by omega), if_neg (by simp), if_neg (by omega), State.yieldingIf, if_neg (by decide)]
  exact ht

theorem exec_tenantImport_rotates {key : BitVec 256} {o : KeyBlob} (hlen : 40 ≤ b.length) (hpf : s.sup.pfail = false) (hfree : s.freeTag = some j)
    (hmode : paramField x.param 1 1 = 1) (hblob : s.blob c = some o) (halone : s.Alone) (hkey : Config.kwUnwrap o.key (b.take 40) = some key) :
    ∃ t, exec (.tenantImport k b) s = .next t ∧ t.blob c = some ⟨key, (o.gen + 1) % 2 ^ 16, o.reserve⟩
      ∧ t.fld (Reg.TEN_CTXc_STAT c) 16 16 = (o.gen + 1) % 2 ^ 16 ∧ t.flag (Reg.TEN_CTXc_STAT c) 1 = false
      ∧ (t.slot k).st = .active ∧ (t.slot j).opcode = StoOp.PUT ∧ OnlyChanges [.regs, .out, .opt, .key, .ten, .sto] s t := by
  obtain ⟨rfl, hact, -, -, -⟩ := s.activeOp_some k Blk.KEY 5 x hx
  obtain ⟨t, ht, h1, -, h3, h4, -, h6, -, h8, hall, hotp⟩ := State.imported_spec hact hpf hfree hc ⟨key, (o.gen + 1) % 2 ^ 16, o.reserve⟩
    (BitVec.ofNat 32 ((o.gen + 1) % 2 ^ 16))
  refine ⟨t, ?_, h1, h4.trans (Nat.mod_mod _ _), h3, h6, h8, hall⟩
  rw [exec_tenantImport, execTenantImport]
  refine State.powered_otp hup ?_ hall hotp
  simp only [hx, hcx, hmode, hblob, hkey]
  rw [if_neg (by omega), if_neg (by omega), if_neg (by omega), if_neg (by simp), if_neg (by omega), State.yieldingIf, if_pos trivial,
    State.yielding_of_alone halone]
  exact ht

theorem exec_tenantImport_unopened (hserv : s.Serves k Blk.KEY) (hlen : 40 ≤ b.length)
    (hcase : paramField x.param 1 1 = 0 ∧ s.blob c = none ∧ s.unwrapSlot 4 (b.take 40) = none
      ∨ ∃ o, paramField x.param 1 1 = 1 ∧ s.blob c = some o ∧ Config.kwUnwrap o.key (b.take 40) = none) :
    exec (.tenantImport k b) s = .next (s.authFail.decideOp k St.FAIL_INVALID 0) := by
  obtain ⟨-, -, hall⟩ := State.authFail_denies hserv St.FAIL_INVALID
  rw [exec_tenantImport, execTenantImport]
  refine State.powered_next hup ?_ hall (by simp)
  obtain ⟨hmode, hblob, hkey⟩ | ⟨o, hmode, hblob, hkey⟩ := hcase
  all_goals
    simp only [hx, hcx, hmode, hblob, hkey]
    rw [if_neg (by omega), if_neg (by omega), if_neg (by omega), if_neg (by simp), if_neg (by omega)]

theorem exec_tenantImport_conflict (hserv : s.Serves k Blk.KEY) (hmode : paramField x.param 1 1 = 0) (hblob : (s.blob c).isSome = true) :
    ∃ t, exec (.tenantImport k b) s = .next t ∧ t.Ended k St.FAIL_CONFLICT 0 ∧ OnlyChanges [.opt, .scn] s t := by
  rw [exec_tenantImport, execTenantImport]
  refine State.powered_decides hup hserv (by decide) ?_
  simp only [hx, hcx, hmode]
  rw [if_neg (by omega), if_neg (by omega), if_neg (by omega), if_pos (.inl ⟨trivial, hblob⟩)]

end

/-! ### TENANT_DESTROY -/

theorem exec_tenantDestroy_held {o : KeyBlob} (hup : s.Up) (hx : s.activeOp k Blk.KEY 6 = some x) (hc : c ≤ 255)
    (hcx : paramField x.param 0 1 = c) (hblob : s.blob c = some o) (hpf : s.sup.pfail = false) (hfree : s.freeTag = some j) :
    ∃ t, exec (.tenantDestroy k) s = .next t
        ∧ t.blob c = none ∧ t.flag (Reg.TEN_CTXc_STAT c) 0 = false ∧ t.flag (Reg.TEN_CTXc_STAT c) 1 = false
        ∧ t.key.cache.contains c = false ∧ (t.slot k).st = .active ∧ (t.slot j).opcode = StoOp.DELETE
        ∧ OnlyChanges [.regs, .out, .opt, .key, .ten, .sto] s t := by
  obtain ⟨rfl, hact, -, -, -⟩ := s.activeOp_some k Blk.KEY 6 x hx
  have hrun : ∀ u t, { (s.setBlob c none).closeSession c with key := { ((s.setBlob c none).closeSession c).key with
      cache := ((s.setBlob c none).closeSession c).key.cache.filter (· != c)
      missing := ((s.setBlob c none).closeSession c).key.missing.filter (· != c) } } = u → (u.noteKey.raiseIrq Blk.KEY 3).writeBlob k c 0 = t →
      OnlyChanges [.regs, .out, .opt, .key, .ten, .sto] s t → SameOtp s t → exec (.tenantDestroy k) s = .next t := fun u t hu ht hch hotp => by
    rw [exec_tenantDestroy, execTenantDestroy]
    refine State.powered_otp hup ?_ hch hotp
    simp only [hx, hcx, hblob, Option.isNone_some, Bool.false_eq_true, if_false]
    rw [hu, ht]
  obtain ⟨a1, a2, -, a4, a5⟩ := s.setBlob_spec hc none
  generalize s.setBlob c none = u1 at *
  obtain ⟨b1, b2, -, b4⟩ := u1.closeSession_spec hc
  generalize u1.closeSession c = u2 at *
  have hkey2 : u2.key = u1.key := b4.2.2 .key (by simp)
  obtain ⟨u3, hu3, d1, d2, d3, d4, d5⟩ : ∃ u3 : State, { u2 with key := { u2.key with cache := u2.key.cache.filter (· != c)
                                                                                      missing := u2.key.missing.filter (· != c) } } = u3
      ∧ u3.key.cache = u2.key.cache.filter (· != c) ∧ u3.blob c = u2.blob c ∧ u3.regs = u2.regs ∧ OnlyChanges [.key] u2 u3 ∧ SameOtp u2 u3 :=
    ⟨_, rfl, rfl, rfl, rfl, u2.withKey_onlyChanges _, ⟨rfl, rfl, rfl, rfl⟩⟩
  replace hrun := fun t => hrun u3 t hu3
  obtain ⟨-, e1, e2⟩ := u3.noteKey_spec
  generalize u3.noteKey = u4 at *
  have i1 := u4.raiseIrq_onlyChanges Blk.KEY 3
  have i2 := u4.raiseIrq_onlyRegs Blk.KEY 3 _ (ctxReg_not_mem (by decide) (ctxStat_in hc))
  generalize u4.raiseIrq Blk.KEY 3 = u5 at *
  have hkey5 : u5.key = u3.key := (i1.2.2 .key (by simp)).trans (e1.2.2 .key (by simp))
  have hreg5 : u5.reg (Reg.TEN_CTXc_STAT c) = u2.reg (Reg.TEN_CTXc_STAT c) :=
    i2.trans ((e2 _ (ctxReg_not_mem (by decide) (ctxStat_in hc))).trans (State.reg_congr _ _ d3 _))
  have hch5 : OnlyChanges [.regs, .out, .key, .ten] s u5 :=
    (a4.mono (by simp)).trans ((b4.mono (by simp)).trans ((d4.mono (by simp)).trans ((e1.mono (by simp)).trans (i1.mono (by simp)))))
  have hotp5 : SameOtp s u5 := a5.trans ((SameOtp.of_key hkey2).trans (d5.trans (SameOtp.of_key hkey5)))
  have hblob5 : u5.blob c = none := (State.blob_congr hkey5 c).trans (d2.trans ((State.blob_congr hkey2 c).trans a1))
  obtain ⟨hask, hkey, hall, hotp⟩ := State.writeBlob_after hch5 hotp5 hact hpf hfree c 0
  rw [hblob5] at hask hkey
  generalize u5.writeBlob k c 0 = t at *
  have hreg := (hask.regs _ (ctxReg_not_mem (by decide) (ctxStat_in hc))).trans hreg5
  refine ⟨t, hrun t rfl hall hotp, ?_, (State.flag_congr _ _ _ _ hreg).trans (b2.trans a2), (State.flag_congr _ _ _ _ hreg).trans b1, ?_,
    hask.waits, hask.opcode, hall⟩
  · exact (congrArg (fun y : Key => tfind? y.blobs c) hkey).trans hblob5
  · rw [hkey, show u5.key.cache = u2.key.cache.filter (· != c) by rw [hkey5, d1]]
    simp

theorem exec_tenantDestroy_absent (hup : s.Up) (hserv : s.Serves k Blk.KEY) (hx : s.activeOp k Blk.KEY 6 = some x)
    (hcx : paramField x.param 0 1 = c) (hblob : s.blob c = none) :
    ∃ t, exec (.tenantDestroy k) s = .next t ∧ t.Ended k St.FAIL_INVALID 0 ∧ OnlyChanges [.opt, .scn] s t := by
  rw [exec_tenantDestroy, execTenantDestroy]
  refine State.powered_decides hup hserv (by decide) ?_
  simp only [hx, hcx, hblob, Option.isNone_none, if_true]

end

end Sys2Proof.Machine

/-! PROOFS. The key cache, sessions and the rate bucket (R549, R553, R554, R559). -/

namespace Sys2Proof.Machine

-- One declaration after the other: the stacks of parallel elaboration would count against the memory limit of the check.
set_option Elab.async false

section
variable {s : State} {k c e d : Nat} {x : Slot}

theorem filter_ne_of_not_contains {l : List Nat} (h : l.contains c = false) : l.filter (· != c) = l := by
  simp only [List.contains_eq_mem, decide_eq_false_iff_not] at h
  exact List.filter_eq_self.mpr fun a ha => by
    simp only [bne_iff_ne]
    exact fun he => h (he ▸ ha)

/-- With no seal waiting and the hold ring empty nothing is served (R549). -/
theorem State.serveSeals_idle (hseal : s.ten.sealTags = []) (hring : s.emu.ring = []) : s.serveSeals = s := by
  have h : ({ s with ten := { s.ten with sealTags := [] } } : State) = s := by rw [← hseal]
  simp only [State.serveSeals, hseal, List.filter_nil, List.foldl_nil, h, State.serveRing, hring, ite_self]

/-- The cache takes a context that it lacks: room, or the least recently used entry without a session makes it (R549). -/
theorem State.loadCache_absent (hno : s.key.cache.contains c = false) : s.loadCache c =
    if s.key.cache.length < 32 then some (s.touchCache c)
    else match s.key.cache.find? (fun k => !s.flag (Reg.TEN_CTXc_STAT k) 1) with
      | some k => some (({ s with key := { s.key with cache := s.key.cache.filter (· != k) } }).touchCache c)
      | none => none := by
  rw [State.loadCache, hno]
  rfl

section
variable {o : KeyBlob} (hup : s.Up) (hmiss : s.key.missing.contains c = true) (hcore : s.arb.coreDown = false) (hblob : s.blob c = some o)
  (hno : s.key.cache.contains c = false)
include hup hmiss hcore hblob hno

omit hno in
/-- The missed context enters the cache behind what its entries keep. -/
theorem exec_keyCacheLoad_enters {l : List Nat} (hseal : s.ten.sealTags = []) (hring : s.emu.ring = [])
    (hload : ∀ u : State, u.key.cache = s.key.cache → u.regs = s.regs → ∃ v, u.loadCache c = some v ∧ v.key.cache = l ++ [c]
      ∧ v.key.missing = u.key.missing ∧ OnlyChanges [.key] u v ∧ SameOtp u v) :
    ∃ t, exec (.keyCacheLoad c) s = .next t ∧ t.key.cache = l ++ [c] ∧ t.key.missing.contains c = false
      ∧ t.fld Reg.KEY_CACHE_STAT 0 6 = (l.length + 1) % 64 ∧ OnlyChanges [.regs, .key] s t := by
  obtain ⟨u, hu, h1, h2, h3, h4, h5⟩ : ∃ u : State, { s with key := { s.key with missing := s.key.missing.filter (· != c) } } = u
      ∧ u.key.cache = s.key.cache ∧ u.regs = s.regs ∧ u.key.missing = s.key.missing.filter (· != c) ∧ OnlyChanges [.key] s u ∧ SameOtp s u :=
    ⟨_, rfl, rfl, rfl, rfl, s.withKey_onlyChanges _, ⟨rfl, rfl, rfl, rfl⟩⟩
  obtain ⟨v, hv, g1, g2, g3, g4⟩ := hload u h1 h2
  obtain ⟨e1, e2, -⟩ := v.noteKey_spec
  have hvch : OnlyChanges [.key] s v := h4.trans g3
  have hidle : v.noteKey.serveSeals = v.noteKey := State.serveSeals_idle
    (by rw [e2.2.2 .ten (by simp), hvch.2.2 .ten (by simp), hseal]) (by rw [e2.2.2 .emu (by simp), hvch.2.2 .emu (by simp), hring])
  have hkey : v.noteKey.key = v.key := e2.2.2 .key (by simp)
  have hall : OnlyChanges [.regs, .key] s v.noteKey := (hvch.mono (by simp)).trans (e2.mono (by simp))
  refine ⟨v.noteKey, ?_, by rw [hkey, g1], ?_, ?_, hall⟩
  · rw [exec_keyCacheLoad, execKeyCacheLoad]
    refine State.powered_otp hup ?_ hall (h5.trans (g4.trans (SameOtp.of_key hkey)))
    simp only [State.duty, State.coreUp, hcore, Bool.not_false, Nat.one_ne_zero, if_false, if_true, hmiss, Bool.not_true, Bool.false_eq_true, hblob,
      Option.isNone_some, hu, hv]
    exact hidle
  · rw [hkey, g2, h3]
    simp
  · rw [e1, g1, List.length_append]
    rfl

theorem exec_keyCacheLoad_room (hseal : s.ten.sealTags = []) (hring : s.emu.ring = []) (hroom : s.key.cache.length < 32) :
    ∃ t, exec (.keyCacheLoad c) s = .next t ∧ t.key.cache = s.key.cache ++ [c]
      ∧ t.key.missing.contains c = false ∧ t.fld Reg.KEY_CACHE_STAT 0 6 = s.key.cache.length + 1 ∧ OnlyChanges [.regs, .key] s t := by
  obtain ⟨t, ht, h1, h2, h3, h4⟩ := exec_keyCacheLoad_enters (l := s.key.cache) hup hmiss hcore hblob hseal hring (fun u h1 h2 => by
    refine ⟨u.touchCache c, ?_, ?_, rfl, u.withKey_onlyChanges _, ⟨rfl, rfl, rfl, rfl⟩⟩
    · rw [State.loadCache_absent (by rw [h1]; exact hno), if_pos (by rw [h1]; exact hroom)]
    · rw [State.touchCache, h1, filter_ne_of_not_contains hno])
  exact ⟨t, ht, h1, h2, h3.trans (Nat.mod_eq_of_lt (by omega)), h4⟩

theorem exec_keyCacheLoad_evicts (hseal : s.ten.sealTags = []) (hring : s.emu.ring = []) (hfull : s.key.cache.length = 32)
    (hfind : s.key.cache.find? (fun e => !s.flag (Reg.TEN_CTXc_STAT e) 1) = some e) :
    ∃ t, exec (.keyCacheLoad c) s = .next t ∧ t.key.cache = s.key.cache.filter (· != e) ++ [c] ∧ OnlyChanges [.regs, .key] s t := by
  obtain ⟨t, ht, h1, -, -, h4⟩ := exec_keyCacheLoad_enters (l := s.key.cache.filter (· != e)) hup hmiss hcore hblob hseal hring (fun u h1 h2 => by
    have hflag : ∀ m, u.flag m 1 = s.flag m 1 := fun m => State.flag_congr _ _ _ _ (State.reg_congr _ _ h2 m)
    refine ⟨({ u with key := { u.key with cache := u.key.cache.filter (· != e) } } : State).touchCache c, ?_, ?_, rfl, u.withKey_onlyChanges _,
      ⟨rfl, rfl, rfl, rfl⟩⟩
    · rw [State.loadCache_absent (by rw [h1]; exact hno), if_neg (by rw [h1]; omega), h1]
      simp only [hflag, hfind]
    · have hno2 : (s.key.cache.filter (· != e)).contains c = false := by
        simp only [List.contains_eq_mem, decide_eq_false_iff_not] at hno ⊢
        exact fun h => hno (List.mem_of_mem_filter h)
      simp only [State.touchCache, h1]
      rw [filter_ne_of_not_contains hno2])
  exact ⟨t, ht, h1, h4⟩

omit hup in
theorem exec_keyCacheLoad_pinned (hfull : 32 ≤ s.key.cache.length)
    (hfind : s.key.cache.find? (fun e => !s.flag (Reg.TEN_CTXc_STAT e) 1) = none) : exec (.keyCacheLoad c) s = .next s := by
  obtain ⟨u, hu, h1, h2⟩ : ∃ u : State, { s with key := { s.key with missing := s.key.missing.filter (· != c) } } = u
      ∧ u.key.cache = s.key.cache ∧ u.regs = s.regs := ⟨_, rfl, rfl, rfl⟩
  have hflag : ∀ m, u.flag m 1 = s.flag m 1 := fun m => State.flag_congr _ _ _ _ (State.reg_congr _ _ h2 m)
  have hload : u.loadCache c = none := by
    rw [State.loadCache_absent (by rw [h1]; exact hno), if_neg (by rw [h1]; omega), h1]
    simp only [hflag, hfind]
  rw [exec_keyCacheLoad, execKeyCacheLoad]
  refine State.powered_same ?_
  simp only [State.duty, State.coreUp, hcore, Bool.not_false, Nat.one_ne_zero, if_false, if_true, hmiss, Bool.not_true, Bool.false_eq_true, hblob,
    Option.isNone_some, hu, hload]

end

/-! ### Sessions -/

theorem State.newChal_spec (s : State) (c : Nat) : (s.newChal c).num64 (Reg.TEN_CTXc_CHAL_LO c) = (Config.freeDword s.free).toNat
    ∧ OnlyChanges [.free, .regs] s (s.newChal c) ∧ OnlyRegs [Reg.TEN_CTXc_CHAL_LO c, Reg.TEN_CTXc_CHAL_LO c + 4] s (s.newChal c) :=
  ⟨(s.setNum64_num64 _ _).trans (Nat.mod_eq_of_lt (Config.freeDword s.free).isLt), by simp [State.newChal, State.nextFree, onlyChanges_iff],
    s.setNum64_onlyRegs _ _⟩

theorem ctxChal_in (hc : c ≤ 255) : (0x4C1000 ≤ Reg.TEN_CTXc_CHAL_LO c ∧ Reg.TEN_CTXc_CHAL_LO c < 0x4C3000)
    ∧ 0x4C1000 ≤ Reg.TEN_CTXc_CHAL_LO c + 4 ∧ Reg.TEN_CTXc_CHAL_LO c + 4 < 0x4C3000 := by
  simp only [Reg.TEN_CTXc_CHAL_LO]
  omega

theorem ctxLeft_in (hc : c ≤ 255) : 0x4C1000 ≤ Reg.TEN_CTXc_SESS_LEFT c ∧ Reg.TEN_CTXc_SESS_LEFT c < 0x4C3000 := by
  simp only [Reg.TEN_CTXc_SESS_LEFT]
  omega

section
variable {o : KeyBlob} (hup : s.Up) (hserv : s.Serves k Blk.TEN) (hx : s.activeOp k Blk.TEN 1 = some x) (hc : c ≤ 255)
  (hcx : paramField x.param 0 1 = c) (hd : paramField x.param 2 2 = d) (hmode : s.mode ≠ Mode.MINIMAL)
  (hblob : s.blob c = some o) (hin : s.key.cache.contains c = true)
include hup hserv hx hc hcx hd hmode hblob hin

/-- A session is refused behind a change that leaves its context's registers but the challenge alone. -/
theorem exec_sessionOpen_denied (hno : s.sessionMax c < d ∨ s.sessionTag o c d ≠ BitVec.ofNat 128 (paramField x.param 16 16)) :
    ∃ t, exec (.sessionOpen k) s = .next t ∧ t.num64 (Reg.TEN_CTXc_CHAL_LO c) = (Config.freeDword s.free).toNat ∧ t.Ended k St.FAIL_DENIED 0
      ∧ t.reg (Reg.TEN_CTXc_STAT c) = s.reg (Reg.TEN_CTXc_STAT c) ∧ OnlyChanges [.free, .regs, .out, .opt, .scn] s t := by
  obtain ⟨h1, h2, h3⟩ := s.newChal_spec c
  have hserv1 : (s.newChal c).Serves k Blk.TEN := hserv.frame h2 (by simp)
  have hstat : Reg.TEN_CTXc_STAT c ∉ [Reg.TEN_CTXc_CHAL_LO c, Reg.TEN_CTXc_CHAL_LO c + 4] := by
    simp only [Reg.TEN_CTXc_CHAL_LO, Reg.TEN_CTXc_STAT, List.mem_cons, List.not_mem_nil, or_false]
    omega
  have hrun : ∀ v t, (v = if s.sessionTag o c d ≠ BitVec.ofNat 128 (paramField x.param 16 16) then (s.newChal c).authFail else s.newChal c) →
      v.decideOp k St.FAIL_DENIED 0 = t → OnlyChanges [.free, .regs, .out, .opt, .scn] s t → exec (.sessionOpen k) s = .next t := by
    intro v t hv ht hall
    rw [exec_sessionOpen, execSessionOpen]
    refine State.powered_next hup ?_ hall (by simp)
    simp only [hx, hcx, hd, if_neg hmode, hblob, hin, Bool.not_true, Bool.false_eq_true, if_false]
    split at hv
    · next htag => rw [if_pos htag, ← hv, ht]
    · next htag =>
      rw [if_neg htag, if_pos (hno.resolve_right htag), ← hv, ht]
  generalize s.newChal c = u at *
  obtain ⟨v, hv, a3, a4⟩ : ∃ v, (v = if s.sessionTag o c d ≠ BitVec.ofNat 128 (paramField x.param 16 16) then u.authFail else u)
      ∧ OnlyChanges [.regs, .out] u v ∧ OnlyRegs (Reg.KEY_AUTH_FAIL_CNT :: irqRegs Blk.KEY) u v := by
    obtain ⟨-, -, a3, a4⟩ := u.authFail_spec
    refine ⟨_, rfl, ?_⟩
    split
    · exact ⟨a3, a4⟩
    · exact ⟨.refl _ u, .refl _ u⟩
  have hserv2 : v.Serves k Blk.TEN := hserv1.frame a3 (by simp)
  have hreg : ∀ off, 0x4C1000 ≤ off ∧ off < 0x4C3000 → (v.decideOp k St.FAIL_DENIED 0).reg off = u.reg off := fun off h =>
    (hserv2.reg (by decide) _ _ off).trans (a4 _ (ctxReg_not_mem (by decide) h))
  have hall := (h2.mono (qs := [.free, .regs, .out, .opt, .scn]) (by simp)).trans ((a3.mono (by simp)).trans
    ((hserv2.onlyChanges (by decide) St.FAIL_DENIED 0).mono (by simp)))
  exact ⟨_, hrun v _ hv rfl hall, (State.num64_congr (hreg _ (ctxChal_in hc).1) (hreg _ (ctxChal_in hc).2)).trans h1, hserv2.ended _ _,
    (hreg _ (ctxStat_in hc)).trans (h3 _ hstat), hall⟩

theorem exec_sessionOpen_opens (hmax : d ≤ s.sessionMax c) (htag : s.sessionTag o c d = BitVec.ofNat 128 (paramField x.param 16 16)) :
    ∃ t, exec (.sessionOpen k) s = .next t ∧ t.num64 (Reg.TEN_CTXc_CHAL_LO c) = (Config.freeDword s.free).toNat
      ∧ t.Ended k St.OK (BitVec.ofNat 32 d) ∧ t.flag (Reg.TEN_CTXc_STAT c) 1 = true ∧ t.num (Reg.TEN_CTXc_SESS_LEFT c) = d
      ∧ tfind? t.ten.sessionEnd c = some (s.clk + d * 800000000) ∧ t.flag (Reg.IRQ_STAT Blk.TEN) 3 = true
      ∧ OnlyChanges [.free, .regs, .out, .opt, .scn, .key, .ten] s t := by
  have hdlt : d < 2 ^ 32 := by
    have := paramField_lt x.param 2 2
    omega
  have hrun : ∀ u1 u2 u3 t, ((s.newChal c).touchCache c).setFlag (Reg.TEN_CTXc_STAT c) 1 true = u1 →
      { u1 with ten := { u1.ten with sessionEnd := tput u1.ten.sessionEnd c (u1.clk + d * 800000000) } } = u2 →
      (u2.setNum (Reg.TEN_CTXc_SESS_LEFT c) d).noteSessions = u3 → (u3.raiseIrq Blk.TEN 3).decideOp k St.OK (BitVec.ofNat 32 d) = t →
      OnlyChanges [.free, .regs, .out, .opt, .scn, .key, .ten] s t → SameOtp s t → exec (.sessionOpen k) s = .next t := by
    intro u1 u2 u3 t h1 h2 h3 ht hall hotp
    rw [exec_sessionOpen, execSessionOpen]
    refine State.powered_otp hup ?_ hall hotp
    simp only [hx, hcx, hd, if_neg hmode, hblob, hin, Bool.not_true, Bool.false_eq_true, if_false]
    rw [if_neg (not_not.mpr htag), if_neg (by omega), h1, h2, h3, ht]
  obtain ⟨h1, h2, h3⟩ := s.newChal_spec c
  generalize s.newChal c = a at *
  obtain ⟨u0, hu0, a1, a2, a3⟩ : ∃ u0 : State, a.touchCache c = u0 ∧ u0.regs = a.regs ∧ OnlyChanges [.key] a u0 ∧ SameOtp a u0 :=
    ⟨_, rfl, rfl, a.withKey_onlyChanges _, ⟨rfl, rfl, rfl, rfl⟩⟩
  rw [hu0] at hrun
  have b1 := u0.setFlag_flag_same (Reg.TEN_CTXc_STAT c) 1 true (by decide)
  have b2 := u0.setFlag_onlyChanges (Reg.TEN_CTXc_STAT c) 1 true
  have b3 : OnlyRegs [Reg.TEN_CTXc_STAT c] u0 (u0.setFlag (Reg.TEN_CTXc_STAT c) 1 true) := (OnlyRegs.refl _ u0).setFlag
  generalize u0.setFlag (Reg.TEN_CTXc_STAT c) 1 true = u1 at *
  have hch1 : OnlyChanges [.free, .regs, .key] s u1 := (h2.mono (by simp)).trans ((a2.mono (by simp)).trans (b2.mono (by simp)))
  obtain ⟨u2, hu2, d1, d2, d3⟩ : ∃ u2 : State, { u1 with ten := { u1.ten with sessionEnd := tput u1.ten.sessionEnd c (u1.clk + d * 800000000) } } = u2
      ∧ tfind? u2.ten.sessionEnd c = some (u1.clk + d * 800000000) ∧ u2.regs = u1.regs ∧ OnlyChanges [.ten] u1 u2 :=
    ⟨_, rfl, (tfind?_tput u1.ten.sessionEnd c c _).trans (if_pos rfl), rfl, u1.withTen_only _⟩
  replace hrun := fun u3 t => hrun u1 u2 u3 t rfl hu2
  have f1 := u2.setNum_num_same (Reg.TEN_CTXc_SESS_LEFT c) d
  have f2 := u2.setNum_onlyChanges (Reg.TEN_CTXc_SESS_LEFT c) d
  have f3 : OnlyRegs [Reg.TEN_CTXc_SESS_LEFT c] u2 (u2.setNum (Reg.TEN_CTXc_SESS_LEFT c) d) := (OnlyRegs.refl _ u2).setNum
  generalize u2.setNum (Reg.TEN_CTXc_SESS_LEFT c) d = u3 at *
  obtain ⟨g1, g2⟩ := u3.noteSessions_spec
  generalize u3.noteSessions = u4 at *
  replace hrun := fun t => hrun u4 t rfl
  have i1 := u4.raiseIrq_onlyChanges Blk.TEN 3
  have i2 := u4.raiseIrq_onlyRegs Blk.TEN 3
  have i3 := u4.raiseIrq_flag_same Blk.TEN 3 (by decide)
  generalize u4.raiseIrq Blk.TEN 3 = u5 at *
  have hch5 : OnlyChanges [.free, .regs, .out, .key, .ten] s u5 := (hch1.mono (by simp)).trans ((d3.mono (by simp)).trans
    ((f2.mono (by simp)).trans ((g1.mono (by simp)).trans (i1.mono (by simp)))))
  have hserv5 : u5.Serves k Blk.TEN := hserv.frame hch5 (by simp)
  have hend := hserv5.onlyChanges (by decide) St.OK (BitVec.ofNat 32 d)
  have hreg := hserv5.reg (by decide) St.OK (BitVec.ofNat 32 d)
  have hended := hserv5.ended St.OK (BitVec.ofNat 32 d)
  generalize u5.decideOp k St.OK (BitVec.ofNat 32 d) = t at *
  have hregs : ∀ off, 0x4C1000 ≤ off ∧ off < 0x4C3000 → t.reg off = u3.reg off := fun off h =>
    (hreg off).trans ((i2 _ (ctxReg_not_mem (by decide) h)).trans (g2 _ (ctxReg_not_mem (by decide) h)))
  have hdist : Reg.TEN_CTXc_STAT c ≠ Reg.TEN_CTXc_SESS_LEFT c ∧ Reg.TEN_CTXc_CHAL_LO c ≠ Reg.TEN_CTXc_SESS_LEFT c
      ∧ Reg.TEN_CTXc_CHAL_LO c + 4 ≠ Reg.TEN_CTXc_SESS_LEFT c ∧ Reg.TEN_CTXc_CHAL_LO c ≠ Reg.TEN_CTXc_STAT c
      ∧ Reg.TEN_CTXc_CHAL_LO c + 4 ≠ Reg.TEN_CTXc_STAT c := by
    simp only [Reg.TEN_CTXc_CHAL_LO, Reg.TEN_CTXc_STAT, Reg.TEN_CTXc_SESS_LEFT]
    omega
  obtain ⟨n1, n2, n3, n4, n5⟩ := hdist
  have hkeep : ∀ off, 0x4C1000 ≤ off ∧ off < 0x4C3000 → off ≠ Reg.TEN_CTXc_SESS_LEFT c → t.reg off = u1.reg off := fun off h hne =>
    (hregs off h).trans ((f3 off (by simpa using hne)).trans (State.reg_congr _ _ d2 off))
  have hall := (hch5.mono (qs := [.free, .regs, .out, .opt, .scn, .key, .ten]) (by simp)).trans (hend.mono (by simp))
  have hotp : SameOtp s t := (SameOtp.of_key (h2.2.2 .key (by simp))).trans (a3.trans (SameOtp.of_key
    ((hend.2.2 .key (by simp)).trans ((i1.2.2 .key (by simp)).trans ((g1.2.2 .key (by simp)).trans ((f2.2.2 .key (by simp)).trans
      ((d3.2.2 .key (by simp)).trans (b2.2.2 .key (by simp)))))))))
  refine ⟨t, hrun t rfl hall hotp, ?_, hended, ?_, ?_, ?_, ?_, hall⟩
  · have hchal : ∀ off, 0x4C1000 ≤ off ∧ off < 0x4C3000 → off ≠ Reg.TEN_CTXc_SESS_LEFT c → off ≠ Reg.TEN_CTXc_STAT c → t.reg off = a.reg off :=
      fun off h hne hne2 => (hkeep off h hne).trans ((b3 off (by simpa using hne2)).trans (State.reg_congr _ _ a1 off))
    exact (State.num64_congr (hchal _ (ctxChal_in hc).1 n2 n4) (hchal _ (ctxChal_in hc).2 n3 n5)).trans h1
  · exact (State.flag_congr _ _ _ _ (hkeep _ (ctxStat_in hc) n1)).trans b1
  · rw [State.num_congr (hregs _ (ctxLeft_in hc)), f1, Nat.mod_eq_of_lt hdlt]
  · have hten : t.ten = u2.ten := (hend.2.2 .ten (by simp)).trans ((i1.2.2 .ten (by simp)).trans ((g1.2.2 .ten (by simp)).trans
      (f2.2.2 .ten (by simp))))
    rw [hten, d1, hch1.2.1]
  · exact (State.flag_congr _ _ _ _ (hreg _)).trans i3

end

theorem exec_sessionClose_open (hup : s.Up) (hserv : s.Serves k Blk.TEN) (hx : s.activeOp k Blk.TEN 2 = some x) (hc : c ≤ 255)
    (hcx : paramField x.param 0 1 = c) (hmode : s.mode ≠ Mode.MINIMAL) (hopen : s.flag (Reg.TEN_CTXc_STAT c) 1 = true) :
    ∃ t, exec (.sessionClose k) s = .next t ∧ t.Ended k St.OK 0 ∧ t.flag (Reg.TEN_CTXc_STAT c) 1 = false
      ∧ t.num (Reg.TEN_CTXc_SESS_LEFT c) = 0 ∧ t.flag (Reg.IRQ_STAT Blk.TEN) 4 = true ∧ OnlyChanges [.regs, .out, .opt, .scn, .ten] s t := by
  obtain ⟨h1, h2, -, h4, -, -, h7⟩ := State.closeSession_open hc hopen
  have hrun : ∀ t, (s.closeSession c).decideOp k St.OK 0 = t → OnlyChanges [.regs, .out, .opt, .scn, .ten] s t →
      exec (.sessionClose k) s = .next t := fun t ht hall => by
    rw [exec_sessionClose, execSessionClose]
    refine State.powered_next hup ?_ hall (by simp)
    simp only [hx, hcx, if_neg hmode, hopen, if_true]
    exact ht
  have hserv2 : (s.closeSession c).Serves k Blk.TEN := hserv.frame h7 (by simp)
  generalize s.closeSession c = u at *
  have hreg := hserv2.reg (by decide) St.OK 0
  have hall := (h7.mono (qs := [.regs, .out, .opt, .scn, .ten]) (by simp)).trans ((hserv2.onlyChanges (by decide) St.OK 0).mono (by simp))
  exact ⟨_, hrun _ rfl hall, hserv2.ended _ _, (State.flag_congr _ _ _ _ (hreg _)).trans h1, (State.num_congr (hreg _)).trans h2,
    (State.flag_congr _ _ _ _ (hreg _)).trans h4, hall⟩

theorem exec_sessionClose_none (hup : s.Up) (hserv : s.Serves k Blk.TEN) (hx : s.activeOp k Blk.TEN 2 = some x)
    (hcx : paramField x.param 0 1 = c) (hmode : s.mode ≠ Mode.MINIMAL) (hopen : s.flag (Reg.TEN_CTXc_STAT c) 1 = false) :
    ∃ t, exec (.sessionClose k) s = .next t ∧ t.Ended k St.FAIL_INVALID 0 ∧ OnlyChanges [.opt, .scn] s t := by
  rw [exec_sessionClose, execSessionClose]
  refine State.powered_decides hup hserv (by decide) ?_
  simp only [hx, hcx, if_neg hmode, hopen, Bool.false_eq_true, if_false]

theorem exec_sessionExpire_early (he : tfind? s.ten.sessionEnd c = some e) (hlt : s.clk < e) :
    exec (.sessionExpire c) s = .next s := by
  rw [exec_sessionExpire, execSessionExpire]
  refine State.powered_same ?_
  simp only [he]
  exact if_neg (by omega)

theorem exec_sessionExpire_due (hup : s.Up) (hc : c ≤ 255) (he : tfind? s.ten.sessionEnd c = some e) (hle : e ≤ s.clk)
    (hopen : s.flag (Reg.TEN_CTXc_STAT c) 1 = true) : ∃ t, exec (.sessionExpire c) s = .next t
      ∧ t.flag (Reg.TEN_CTXc_STAT c) 1 = false ∧ tfind? t.ten.sessionEnd c = none ∧ t.flag (Reg.IRQ_STAT Blk.TEN) 4 = true
      ∧ OnlyChanges [.regs, .out, .ten] s t := by
  obtain ⟨h1, -, h3, h4, -, -, h7⟩ := State.closeSession_open hc hopen
  refine ⟨s.closeSession c, ?_, h1, h3, h4, h7⟩
  rw [exec_sessionExpire, execSessionExpire]
  refine State.powered_next hup ?_ h7 (by simp)
  simp only [he]
  exact if_pos hle

/-! ### The rate bucket -/

/-- The instant to which whole tokens have returned is not past the present one (R553). -/
theorem tokens_due_le {last clk rate n : Nat} (hn : n = (clk - last) * rate / 800000000) (hn0 : n ≠ 0) :
    last + (n * 800000000 + rate - 1) / rate ≤ clk := by
  have hle : n * 800000000 ≤ (clk - last) * rate := hn ▸ Nat.div_mul_le_self _ _
  have hrate : 0 < rate := Nat.pos_of_ne_zero fun h => hn0 (by simpa [h] using hn)
  have hpos : last < clk := by
    by_contra h
    exact hn0 (by simpa [Nat.sub_eq_zero_of_le (Nat.le_of_not_lt h)] using hn)
  have hdiv : (n * 800000000 + rate - 1) / rate < clk - last + 1 := by
    rw [Nat.div_lt_iff_lt_mul hrate, Nat.add_mul]
    omega
  omega

theorem exec_rateRefill_due {n : Nat} (hup : s.Up)
    (hn : n = (s.clk - tget (fun _ => 0) s.ten.refilled c) * s.fld (Reg.TEN_CTXc_RATE c) 0 16 / 800000000) (hn0 : n ≠ 0)
    (hspent : tget (fun _ => 0) s.ten.spent c ≠ 0) : ∃ t, exec (.rateRefill c) s = .next t
      ∧ tget (fun _ => 0) t.ten.spent c = tget (fun _ => 0) s.ten.spent c - n ∧ tget (fun _ => 0) t.ten.refilled c ≤ s.clk
      ∧ OnlyChanges [.ten] s t := by
  have hrate : s.fld (Reg.TEN_CTXc_RATE c) 0 16 ≠ 0 := fun h => hn0 (by simpa [h] using hn)
  refine ⟨_, ?_, ?_, ?_, s.withTen_only { s.ten with
    spent := tset (fun _ => 0) s.ten.spent c (tget (fun _ => 0) s.ten.spent c - n)
    refilled := tset (fun _ => 0) s.ten.refilled c (tget (fun _ => 0) s.ten.refilled c
      + (n * 800000000 + s.fld (Reg.TEN_CTXc_RATE c) 0 16 - 1) / s.fld (Reg.TEN_CTXc_RATE c) 0 16) }⟩
  · rw [exec_rateRefill, execRateRefill]
    refine State.powered_next hup ?_ (s.withTen_only _) (by simp)
    simp only [State.refill, ← hn]
    rw [if_neg (by simp [hrate, hspent, hn0])]
  · exact (tget_tset (fun _ => 0) s.ten.spent c c _).trans (if_pos rfl)
  · exact ((tget_tset (fun _ => 0) s.ten.refilled c c _).trans (if_pos rfl)).le.trans (tokens_due_le hn hn0)

end

/-- Settles O50: tenant keys, the key cache, sessions and the rate bucket, operation by operation. -/
theorem tenantKeysAndSessions : Obligations.TenantKeysAndSessions := by
  intro s k x c hup hserving hc1 hc
  refine ⟨?_, ?_, ?_, ?_, ?_, ?_, ?_⟩
  · intro b j hx hcx hctx hlc hlen hpf hfree
    have hserv := State.serves_of_activeOp hserving hx
    obtain ⟨f1, f2, f3⟩ := State.authFail_denies hserv St.FAIL_INVALID
    refine ⟨fun hmode hblob => ?_, fun o hmode hblob halone => ?_, exec_tenantImport_conflict hup hx hc1 hc hcx.symm hctx hlc hserv⟩
    · cases hkey : s.unwrapSlot 4 (b.take 40) with
      | some key =>
        obtain ⟨t, ht, h⟩ := exec_tenantImport_first hup hx hc1 hc hcx.symm hctx hlc hlen hpf hfree hmode hblob hkey
        exact ⟨t, ht, fun key' hk => by obtain rfl := Option.some.inj hk; exact h, fun hk => by simp at hk⟩
      | none => exact ⟨_, exec_tenantImport_unopened hup hx hc1 hc hcx.symm hctx hlc hserv hlen (.inl ⟨hmode, hblob, hkey⟩),
          fun key' hk => by simp at hk, fun _ => ⟨f1, f2, f3⟩⟩
    · cases hkey : Config.kwUnwrap o.key (b.take 40) with
      | some key =>
        obtain ⟨t, ht, h⟩ := exec_tenantImport_rotates hup hx hc1 hc hcx.symm hctx hlc hlen hpf hfree hmode hblob halone hkey
        exact ⟨t, ht, fun key' hk => by obtain rfl := Option.some.inj hk; exact h, fun hk => by simp at hk⟩
      | none => exact ⟨_, exec_tenantImport_unopened hup hx hc1 hc hcx.symm hctx hlc hserv hlen (.inr ⟨o, hmode, hblob, hkey⟩),
          fun key' hk => by simp at hk, fun _ => ⟨f1, f3⟩⟩
  · intro hx hcx
    exact ⟨fun o j hblob hpf hfree => exec_tenantDestroy_held hup hx hc hcx.symm hblob hpf hfree,
      exec_tenantDestroy_absent hup (State.serves_of_activeOp hserving hx) hx hcx.symm⟩
  · intro o hmiss hcore hblob hno hseal hring
    exact ⟨exec_keyCacheLoad_room hup hmiss hcore hblob hno hseal hring, fun e hfull => exec_keyCacheLoad_evicts hup hmiss hcore hblob hno hseal hring hfull,
      exec_keyCacheLoad_pinned hmiss hcore hblob hno⟩
  · intro o d hx hcx hd hmode hblob hin
    have hserv := State.serves_of_activeOp hserving hx
    by_cases hgood : d ≤ s.sessionMax c ∧ s.sessionTag o c d = BitVec.ofNat 128 (paramField x.param 16 16)
    · obtain ⟨t, ht, hchal, h⟩ := exec_sessionOpen_opens hup hserv hx hc hcx.symm hd.symm hmode hblob hin hgood.1 hgood.2
      refine ⟨t, ht, hchal, fun _ _ => h, fun hno => ?_⟩
      exact absurd hno (by rintro (hlt | htag); exacts [absurd hgood.1 (by omega), htag hgood.2])
    · have hno : s.sessionMax c < d ∨ s.sessionTag o c d ≠ BitVec.ofNat 128 (paramField x.param 16 16) := by
        by_contra h
        simp only [not_or, not_lt, not_not] at h
        exact hgood h
      obtain ⟨t, ht, hchal, h⟩ := exec_sessionOpen_denied hup hserv hx hc hcx.symm hd.symm hmode hblob hin hno
      exact ⟨t, ht, hchal, fun h1 h2 => absurd ⟨h1, h2⟩ hgood, fun _ => h⟩
  · intro hx hcx hmode
    have hserv := State.serves_of_activeOp hserving hx
    exact ⟨exec_sessionClose_open hup hserv hx hc hcx.symm hmode, exec_sessionClose_none hup hserv hx hcx.symm hmode⟩
  · intro e he
    exact ⟨exec_sessionExpire_early he, exec_sessionExpire_due hup hc he⟩
  · intro n hn hn0 hspent
    exact exec_rateRefill_due hup hn hn0 hspent

end Sys2Proof.Machine

/-! PROOFS. What reset release leaves (R21, R570, R571). -/

namespace Sys2Proof.Machine

-- One declaration after the other: the stacks of parallel elaboration would count against the memory limit of the check.
set_option Elab.async false

section
variable {s t u : State} {i : StartIn}

theorem tget_filter_of_dropped {α : Type} (d : Nat → α) (t : Tbl α) (p : Nat → Bool) {k : Nat} (hk : p k = false) :
    tget d (t.filter (fun e => p e.1)) k = d k := by
  induction t with
  | nil => rfl
  | cons e r ih =>
    rw [List.filter_cons]
    split
    · next he =>
      have hne : e.1 ≠ k := fun h => by rw [h, hk] at he; exact absurd he (by decide)
      simp only [tget, if_neg hne]
      exact ih
    · exact ih

/-- SUP's part at reset release (R570, R571). -/
def State.releasedSup (s : State) (i : StartIn) : Sup :=
  { Sup.inReset0 with inReset := false, releaseClk := s.clk, progClk := s.clk, releaseSec := calSeconds s.rtc.cal
                      roleStrap := i.role % 4, bootSrc := i.bootSrc % 2, initDue := (List.range 19).map (· + 1), nv := s.sup.nv }

/-- What a state of step 3 keeps of reset release: nothing of the life before but the backup domain and the dies. -/
structure State.Released (s : State) (i : StartIn) (t : State) : Prop where
  pending : t.pending = s.pending
  clk : t.clk = s.clk
  sup : t.sup = s.releasedSup i
  opt : t.opt.slots = []
  claims : t.claims = []
  points : t.points = []
  out : t.out = s.out
  ports : t.pse.diePorts = s.pse.diePorts
  otp : SameOtp s t
  record : t.key.pendingRecord = s.key.pendingRecord
  mode : t.mode = Mode.STARTING
  step : t.step9 = 3

/-- What touches neither these parts nor SUP_MODE keeps them. -/
theorem State.Released.frame (h : s.Released i t) {ps : List Part} (hch : OnlyChanges ps t u) (hreg : u.reg Reg.SUP_MODE = t.reg Reg.SUP_MODE)
    (hout : ∀ p, p ∈ [Part.sup, .opt, .claims, .points, .out, .pse, .key] → p ∉ ps := by simp) : s.Released i u where
  pending := hch.1.trans h.pending
  clk := hch.2.1.trans h.clk
  sup := (hch.2.2 .sup (hout _ (by simp))).trans h.sup
  opt := (congrArg Opt.slots (hch.2.2 .opt (hout _ (by simp)))).trans h.opt
  claims := (hch.2.2 .claims (hout _ (by simp))).trans h.claims
  points := (hch.2.2 .points (hout _ (by simp))).trans h.points
  out := (hch.2.2 .out (hout _ (by simp))).trans h.out
  ports := (congrArg Pse.diePorts (hch.2.2 .pse (hout _ (by simp)))).trans h.ports
  otp := h.otp.trans (SameOtp.of_key (hch.2.2 .key (hout _ (by simp))))
  record := (congrArg Key.pendingRecord (hch.2.2 .key (hout _ (by simp)))).trans h.record
  mode := (State.fld_congr hreg 0 2).trans h.mode
  step := (State.fld_congr hreg 4 4).trans h.step

theorem State.closeSlots_spec (old a : State) (torn : List Nat) : (old.closeSlots a torn).opt.slots = a.opt.slots
    ∧ OnlyChanges [.regs, .opt] a (old.closeSlots a torn) ∧ OnlyRegs [Reg.OPT_LOG_ERR, Reg.OPT_LOST_STAT] a (old.closeSlots a torn) := by
  unfold State.closeSlots
  simp only
  generalize lostRoom 4097 _ _ = kept
  generalize lostReports _ _ _ = new
  generalize ((List.range 512).filter (old.tornSlot torn)).length = bad
  generalize old.opt.lost.length - kept.length = gone
  have h2 := (a.satInc_onlyChanges Reg.OPT_LOST_STAT 16 13 gone).trans (State.setFld_onlyChanges _ Reg.OPT_LOG_ERR 0 10 bad)
  have h3 : OnlyRegs [Reg.OPT_LOG_ERR, Reg.OPT_LOST_STAT] a ((a.satInc Reg.OPT_LOST_STAT 16 13 gone).setFld Reg.OPT_LOG_ERR 0 10 bad) :=
    (OnlyRegs.refl _ a).satInc.setFld
  generalize (a.satInc Reg.OPT_LOST_STAT 16 13 gone).setFld Reg.OPT_LOG_ERR 0 10 bad = b at *
  refine ⟨trivial, (h2.mono (by simp)).trans (?_ : OnlyChanges [.regs, .opt] b _), h3.trans (OnlyRegs.of_regs_eq rfl)⟩
  simp [onlyChanges_iff]

theorem State.setDieMode_onlyChanges (a : State) (d m : Nat) : OnlyChanges [.regs, .pse] a (a.setDieMode d m) := by
  simp [State.setDieMode, onlyChanges_iff]

theorem State.showDies_spec (a : State) : a.showDies.pse.diePorts = a.pse.diePorts ∧ OnlyChanges [.regs, .pse] a a.showDies
    ∧ OnlyRegs [Reg.PSE_DIE_STAT] a a.showDies := by
  refine ⟨State.forN_view_of_keeps (fun x => x.pse.diePorts) a 6 _ fun _ _ _ => rfl,
    State.forN_onlyChanges 6 fun x d => x.setDieMode_onlyChanges d _, State.forN_onlyRegs 6 fun x d => ?_⟩
  exact (OnlyRegs.of_regs_eq rfl).trans (OnlyRegs.refl _ { x with pse := { x.pse with dieMode := tset (fun _ => 0) x.pse.dieMode d (x.dieMode d) } }).setFld

/-- The machine at reset release, before its first steps (R570, R571). -/
theorem State.released_spec (s : State) (i : StartIn) : s.Released i (s.released i) ∧ (s.released i).flag (Reg.STAT Blk.SUP) 0 = true
    ∧ (s.released i).flag (Reg.STAT Blk.HIF) 0 = true ∧ (s.released i).key.pufDead = s.key.pufDead := by
  unfold State.released
  simp only
  obtain ⟨b, hb, hpend, hclk, hsup, hopt, hclaims, hpoints, hout, hports, hotp, hrec, hregs⟩ : ∃ b : State, b = { State.reset with
    pending := s.pending, clk := s.clk, free := s.free, out := s.out
    regs := (s.regs.filter (fun e => backupReg e.1))
    lat := { State.reset.lat with stored := s.lat.stored, dropped := s.lat.dropped }
    sup := s.releasedSup i
    key := { Key.blank with storedRecord := s.key.storedRecord, storedBlobs := s.key.storedBlobs
                            pendingRecord := s.key.pendingRecord, otpState := s.key.otpState, otpLeft := s.key.otpLeft
                            otpEpoch := s.key.otpEpoch, pufDead := s.key.pufDead }
    pse := { State.reset.pse with diePorts := s.pse.diePorts, dieMode := s.pse.dieMode, cold := s.pse.cold
                                  record := i.tornPorts.foldl dropHalf s.pse.record }
    dio := { State.reset.dio with
      chans := tcanon (fun _ => DioCh.idle) (s.dio.chans.map (fun (e : Nat × DioCh) => (e.1, { DioCh.idle with on := e.2.on })))
      dieSafe := s.dio.dieSafe, dieLost := s.dio.dieLost }
    lcp := { State.reset.lcp with storedScenes := s.lcp.storedScenes, storedHeaders := s.lcp.storedHeaders }
    rtc := { s.rtc with shadow := none }
    emu := { Emu.fresh with mirror := s.emu.mirror, nextSlot := s.emu.nextSlot
                            ring := s.emu.ring.map (fun (r : HoldRec) => { r with writing := false, key := none }) }
    sto := s.sto.restarted } ∧ b.pending = s.pending ∧ b.clk = s.clk ∧ b.sup = s.releasedSup i ∧ b.opt.slots = [] ∧ b.claims = [] ∧ b.points = []
      ∧ b.out = s.out ∧ b.pse.diePorts = s.pse.diePorts ∧ SameOtp s b ∧ b.key.pendingRecord = s.key.pendingRecord
      ∧ b.regs = s.regs.filter (fun e => backupReg e.1) :=
    ⟨_, rfl, rfl, rfl, rfl, rfl, rfl, rfl, rfl, rfl, ⟨rfl, rfl, rfl, rfl⟩, rfl, rfl⟩
  have hb2 := hb
  rw [State.releasedSup] at hb2
  rw [← hb2]
  have hmode : b.reg Reg.SUP_MODE = regReset Reg.SUP_MODE := by
    rw [State.reg, hregs]
    exact tget_filter_of_dropped regReset s.regs backupReg (by decide)
  clear hb hb2 hregs
  have h1 := b.setFld_onlyChanges Reg.RTC_STAT 0 2 (s.fld Reg.RTC_STAT 0 2)
  have h2 := b.setFld_reg_other Reg.RTC_STAT 0 2 (s.fld Reg.RTC_STAT 0 2) Reg.SUP_MODE (by decide)
  generalize b.setFld Reg.RTC_STAT 0 2 (s.fld Reg.RTC_STAT 0 2) = c at *
  have h3 := c.setFlag_onlyChanges Reg.RTC_STAT RtcBit.VBAT_LOW (s.rtcBit RtcBit.VBAT_LOW)
  have h4 := c.setFlag_reg_other Reg.RTC_STAT RtcBit.VBAT_LOW Reg.SUP_MODE (s.rtcBit RtcBit.VBAT_LOW) (by decide)
  generalize c.setFlag Reg.RTC_STAT RtcBit.VBAT_LOW (s.rtcBit RtcBit.VBAT_LOW) = d at *
  have hd : d.reg Reg.SUP_MODE = regReset Reg.SUP_MODE := h4.trans (h2.trans hmode)
  have hfirst : s.Released i (d.atStep 3) := by
    have hch : OnlyChanges [.regs] b (d.atStep 3) := h1.trans (h3.trans (d.setFld_onlyChanges _ _ _ _))
    have hkey : (d.atStep 3).key = b.key := hch.2.2 .key (by simp)
    exact {
      pending := hch.1.trans hpend
      clk := hch.2.1.trans hclk
      sup := (hch.2.2 .sup (by simp)).trans hsup
      opt := (congrArg Opt.slots (hch.2.2 .opt (by simp))).trans hopt
      claims := (hch.2.2 .claims (by simp)).trans hclaims
      points := (hch.2.2 .points (by simp)).trans hpoints
      out := (hch.2.2 .out (by simp)).trans hout
      ports := (congrArg Pse.diePorts (hch.2.2 .pse (by simp))).trans hports
      otp := hotp.trans (SameOtp.of_key hkey)
      record := (congrArg Key.pendingRecord hkey).trans hrec
      mode := by
        have h : (d.atStep 3).fld Reg.SUP_MODE 0 2 = d.fld Reg.SUP_MODE 0 2 := d.setFld_fld_other Reg.SUP_MODE 4 4 3 0 2 (by decide) (by decide)
        rw [State.mode, h]
        unfold State.fld
        rw [hd]
        decide
      step := d.setFld_fld_same Reg.SUP_MODE 4 4 3 (by decide) }
  generalize d.atStep 3 = e at *
  obtain ⟨g1, g2, g3⟩ := s.closeSlots_spec e i.torn
  generalize s.closeSlots e i.torn = f at *
  obtain ⟨k1, k2, k3⟩ := f.showDies_spec
  generalize f.showDies = g at *
  have hg : s.Released i g := by
    have hch : OnlyChanges [.regs, .opt, .pse] e g := (g2.mono (by simp)).trans (k2.mono (by simp))
    have hreg : g.reg Reg.SUP_MODE = e.reg Reg.SUP_MODE := (k3 _ (by decide)).trans (g3 _ (by decide))
    exact {
      pending := hch.1.trans hfirst.pending
      clk := hch.2.1.trans hfirst.clk
      sup := (hch.2.2 .sup (by simp)).trans hfirst.sup
      opt := (congrArg Opt.slots (k2.2.2 .opt (by simp))).trans (g1.trans hfirst.opt)
      claims := (hch.2.2 .claims (by simp)).trans hfirst.claims
      points := (hch.2.2 .points (by simp)).trans hfirst.points
      out := (hch.2.2 .out (by simp)).trans hfirst.out
      ports := k1.trans ((congrArg Pse.diePorts (g2.2.2 .pse (by simp))).trans hfirst.ports)
      otp := hfirst.otp.trans (SameOtp.of_key (hch.2.2 .key (by simp)))
      record := (congrArg Key.pendingRecord (hch.2.2 .key (by simp))).trans hfirst.record
      mode := (State.fld_congr hreg 0 2).trans hfirst.mode
      step := (State.fld_congr hreg 4 4).trans hfirst.step }
  have m1 := g.setFlag_onlyChanges (Reg.STAT Blk.SUP) 0 true
  have m2 := g.setFlag_reg_other (Reg.STAT Blk.SUP) 0 Reg.SUP_MODE true (by decide)
  have m3 := g.setFlag_flag_same (Reg.STAT Blk.SUP) 0 true (by decide)
  generalize g.setFlag (Reg.STAT Blk.SUP) 0 true = p at *
  have n1 := p.setFlag_onlyChanges (Reg.STAT Blk.HIF) 0 true
  have n2 := p.setFlag_reg_other (Reg.STAT Blk.HIF) 0 Reg.SUP_MODE true (by decide)
  have hrel : s.Released i (p.setFlag (Reg.STAT Blk.HIF) 0 true) := (hg.frame m1 m2).frame n1 n2
  refine ⟨hrel, (State.setFlag_flag_reg _ _ _ _ _ _ (by decide)).trans m3, State.setFlag_flag_same _ _ _ _ (by decide), ?_⟩
  obtain ⟨-, -, -, h⟩ := hrel.otp
  exact h

/-! ### KEY's root -/

theorem State.showSlot_onlyChanges (a : State) (n attr gen kcv : Nat) : OnlyChanges [.regs] a (a.showSlot n attr gen kcv) := by
  simp [State.showSlot, onlyChanges_iff]

theorem State.showSlot_reg_below (a : State) (n attr gen kcv : Nat) {off : Nat} (h : off < Reg.KEY_SLOTs_ATTR 0) :
    (a.showSlot n attr gen kcv).reg off = a.reg off := by
  simp only [Reg.KEY_SLOTs_ATTR] at h
  refine (State.setNum_reg_other _ _ _ _ ?_).trans ((State.setNum_reg_other _ _ _ _ ?_).trans (State.setNum_reg_other _ _ _ _ ?_))
  · simp only [Reg.KEY_SLOTs_KCV]; omega
  · simp only [Reg.KEY_SLOTs_GEN]; omega
  · simp only [Reg.KEY_SLOTs_ATTR]; omega

/-- With its root KEY shows its derived slots; below them it touches KEY_LC alone (R542). -/
theorem State.deriveSlots_root (a : State) : (a.deriveSlots true).flag Reg.KEY_LC 24 = true ∧ OnlyChanges [.regs] a (a.deriveSlots true)
    ∧ ∀ off, off < Reg.KEY_SLOTs_ATTR 0 → off ≠ Reg.KEY_LC → (a.deriveSlots true).reg off = a.reg off := by
  unfold State.deriveSlots
  simp only [Bool.not_true, Bool.false_eq_true, if_false]
  have h1 := a.setFlag_flag_same Reg.KEY_LC 24 true (by decide)
  have h2 := a.setFlag_onlyChanges Reg.KEY_LC 24 true
  have h3 := fun off (h : off ≠ Reg.KEY_LC) => a.setFlag_reg_other Reg.KEY_LC 24 off true h.symm
  generalize a.setFlag Reg.KEY_LC 24 true = b at *
  have hbelow : ∀ off, off < Reg.KEY_SLOTs_ATTR 0 → ∀ n1 n2 n3 n4 a1 a2 a3 a4 g1 g2 g3 g4 k1 k2 k3 k4 : Nat,
      ((((b.showSlot n1 a1 g1 k1).showSlot n2 a2 g2 k2).showSlot n3 a3 g3 k3).showSlot n4 a4 g4 k4).reg off = b.reg off := by
    intro off h n1 n2 n3 n4 a1 a2 a3 a4 g1 g2 g3 g4 k1 k2 k3 k4
    rw [State.showSlot_reg_below _ _ _ _ _ h, State.showSlot_reg_below _ _ _ _ _ h, State.showSlot_reg_below _ _ _ _ _ h,
      State.showSlot_reg_below _ _ _ _ _ h]
  refine ⟨(State.flag_congr _ _ _ _ (hbelow _ (by decide) _ _ _ _ _ _ _ _ _ _ _ _ _ _ _ _)).trans h1, ?_, fun off h hne =>
    (hbelow off h _ _ _ _ _ _ _ _ _ _ _ _ _ _ _ _).trans (h3 off hne)⟩
  exact h2.trans ((b.showSlot_onlyChanges _ _ _ _).trans ((State.showSlot_onlyChanges _ _ _ _ _).trans ((State.showSlot_onlyChanges _ _ _ _ _).trans
    (State.showSlot_onlyChanges _ _ _ _ _))))

theorem State.newChals_spec (a : State) : OnlyChanges [.free, .regs] a a.newChals ∧ ∀ off, off < 0x4C1000 → a.newChals.reg off = a.reg off := by
  refine ⟨State.forN_onlyChanges 255 fun x c => ?_, fun off h => a.forN_reg_below 255 fun x c hc => ?_⟩
  · obtain ⟨-, h, -⟩ := x.newChal_spec (c + 1)
    exact h
  · obtain ⟨-, -, hreg⟩ := x.newChal_spec (c + 1)
    refine hreg off ?_
    simp only [Reg.TEN_CTXc_CHAL_LO, List.mem_cons, List.not_mem_nil, or_false]
    omega

/-- KEY starts with its root: KEY_LC shows it, and registers below KEY's stay (R536, R542). -/
theorem State.startKey_root (a : State) {ok : Bool} (hok : ok = true) (hdead : a.key.pufDead = false) :
    (a.startKey ok).flag Reg.KEY_LC 24 = true ∧ OnlyChanges [.free, .regs] a (a.startKey ok)
    ∧ ∀ off, off < 0x480000 → (a.startKey ok).reg off = a.reg off := by
  have hroot : (ok && !a.key.pufDead) = true := by rw [hok, hdead]; rfl
  unfold State.startKey
  simp only [hroot]
  generalize a.key.otpState % 8 + a.key.otpLeft % 32 * 2 ^ 8 + a.key.otpEpoch % 256 * 2 ^ 16 = lc
  have h1 := a.setNum_onlyChanges Reg.KEY_LC lc
  have h2 := fun off (h : off < 0x480000) => a.setNum_reg_other Reg.KEY_LC lc off (by simp only [Reg.KEY_LC]; omega)
  generalize a.setNum Reg.KEY_LC lc = b at *
  obtain ⟨d1, d2, d3⟩ := b.deriveSlots_root
  generalize b.deriveSlots true = c at *
  obtain ⟨-, e2, e3⟩ := c.newNonce_spec
  generalize c.newNonce = d at *
  obtain ⟨f1, f2⟩ := d.newChals_spec
  refine ⟨?_, (h1.mono (by simp)).trans ((d2.mono (by simp)).trans (e2.trans f1)), fun off h => ?_⟩
  · exact (State.flag_congr _ _ _ _ ((f2 _ (by decide)).trans (e3 _ (by decide)))).trans d1
  · rw [f2 off (by omega), e3 off (by simp only [Reg.KEY_LC_NONCE, List.mem_singleton]; omega),
      d3 off (by simp only [Reg.KEY_SLOTs_ATTR]; omega) (by simp only [Reg.KEY_LC]; omega), h2 off h]

end

end Sys2Proof.Machine

/-! PROOFS. Reset release, the loading of firmware and the host load (R570, R572, R576). -/

namespace Sys2Proof.Machine

-- One declaration after the other: the stacks of parallel elaboration would count against the memory limit of the check.
set_option Elab.async false

section
variable {s t u : State} {i : StartIn}

theorem State.noteVmain_onlyRegs (a : State) (mv : Nat) : OnlyRegs [Reg.SUP_SUPPLY_STAT, Reg.SUP_VMAIN] a (a.noteVmain mv) :=
  (OnlyRegs.refl _ a).setNum.setFlag

theorem State.noteVmain_changes (a : State) (mv : Nat) : OnlyChanges [.regs] a (a.noteVmain mv) :=
  (a.setNum_onlyChanges _ _).trans (State.setFlag_onlyChanges _ _ _ _)

/-- The loader waits for a host load (R572). -/
theorem State.awaitHost_spec (a : State) : a.awaitHost.flag Reg.SUP_BOOT_CTL 29 = true ∧ a.awaitHost.sup = { a.sup with bootWait := some a.clk, bootWords := [] }
    ∧ OnlyChanges [.regs, .sup] a a.awaitHost ∧ OnlyRegs [Reg.SUP_BOOT_CTL] a a.awaitHost := by
  have h1 := a.setFlag_flag_same Reg.SUP_BOOT_CTL 29 true (by decide)
  have h2 := a.setFlag_onlyChanges Reg.SUP_BOOT_CTL 29 true
  have h3 : OnlyRegs [Reg.SUP_BOOT_CTL] a (a.setFlag Reg.SUP_BOOT_CTL 29 true) := (OnlyRegs.refl _ a).setFlag
  unfold State.awaitHost
  simp only
  have h4 : (a.setFlag Reg.SUP_BOOT_CTL 29 true).sup = a.sup := h2.2.2 .sup (by simp)
  have h5 : (a.setFlag Reg.SUP_BOOT_CTL 29 true).clk = a.clk := h2.2.1
  generalize a.setFlag Reg.SUP_BOOT_CTL 29 true = b at *
  obtain ⟨u, hu, g2, g3⟩ : ∃ u : State, u = { b with sup := { b.sup with bootWait := some b.clk, bootWords := [] } }
      ∧ u.regs = b.regs ∧ OnlyChanges [.sup] b u := ⟨_, rfl, rfl, b.withSup_only _⟩
  rw [← hu]
  exact ⟨(State.flag_congr _ _ _ _ (State.reg_congr _ _ g2 _)).trans h1, by rw [h4, h5], (h2.mono (by simp)).trans (g3.mono (by simp)),
    h3.trans (OnlyRegs.of_regs_eq g2)⟩

/-- A command that acts in reset too and leaves queue, clock and OTP alone does what its body says. -/
theorem State.always_otp {f : State → State} (hf : f s = t) (hp : t.pending = s.pending) (hc : t.clk = s.clk) (hotp : SameOtp s t) :
    s.always f = .next t := by
  obtain ⟨h1, h2, h3, h4⟩ := hotp
  rw [State.always, hf, State.guarded_eq _ _ hp hc h1 h2 h3 h4]

/-- With the root of KEY and backup RAM good, the start stands at step 3 (R570 to R572). -/
theorem exec_resetRelease_spec {p : Supplies} (hmay : s.mayRelease p = true) (hdue : s.sup.commitDue = false) (hrec : s.key.pendingRecord = none)
    (hdead : s.key.pufDead = false) (hbad : s.sup.nv.bkpBad = false) (hpuf : i.pufOk = true) (hbkp : i.bkpOk = true) :
    ∃ a t, exec (.resetRelease p i) s = .next t ∧ s.Released i a ∧ a.flag Reg.KEY_LC 24 = true ∧ a.flag (Reg.STAT Blk.SUP) 0 = true
      ∧ a.flag (Reg.STAT Blk.HIF) 0 = true ∧ t = if i.bootSrc % 2 = 1 then a.awaitHost else a := by
  obtain ⟨hrel, hstat1, hstat2, hpd⟩ := s.released_spec i
  have hrun : ∀ a, (((s.released i).startKey i.pufOk).noteVmain p.vmain).noteTemp p.temp = a → a.flag Reg.KEY_LC 24 = true → s.Released i a →
      exec (.resetRelease p i) s = .next (if i.bootSrc % 2 = 1 then a.awaitHost else a) := by
    intro a ha hkey hr
    have hload : a.loading = true := by
      simp only [State.loading, hr.sup, State.releasedSup, hr.mode, hr.step]
      decide
    have hsrc : a.sup.bootSrc = i.bootSrc % 2 := by rw [hr.sup]; rfl
    have hread : (s.released i).readCounter i.bkpOk i.mramOk = s.released i := by
      have hnv : (s.released i).sup.nv = s.sup.nv := by rw [hrel.sup]; rfl
      simp only [State.readCounter, hnv, hbkp, hbad, Bool.not_false, Bool.and_true, if_true]
    have htake : (s.released i).takePending = s.released i := by rw [State.takePending, hrel.record, hrec]
    obtain ⟨-, -, hch, -⟩ := a.awaitHost_spec
    rw [exec_resetRelease, execResetRelease]
    refine State.always_otp ?_ ?_ ?_ ?_
    · simp only [hmay, hdue, Bool.not_true, Bool.false_eq_true, if_false, hread, htake, ha, hkey, true_or, if_true, hload, hsrc, true_and]
    · split
      · exact hch.1.trans hr.pending
      · exact hr.pending
    · split
      · exact hch.2.1.trans hr.clk
      · exact hr.clk
    · split
      · exact hr.otp.trans (SameOtp.of_key (hch.2.2 .key (by simp)))
      · exact hr.otp
  generalize s.released i = r at *
  obtain ⟨k1, k2, k3⟩ := r.startKey_root hpuf (hpd.trans hdead)
  have hrel2 := hrel.frame k2 (k3 _ (by decide))
  generalize r.startKey i.pufOk = a at *
  have v1 := a.noteVmain_onlyRegs p.vmain
  have v2 := a.noteVmain_changes p.vmain
  generalize a.noteVmain p.vmain = b at *
  have w1 := b.noteTemp_onlyRegs p.temp
  have w2 := b.noteTemp_onlyChanges p.temp
  generalize b.noteTemp p.temp = c at *
  have hreg : ∀ off, off ∉ [Reg.SUP_SUPPLY_STAT, Reg.SUP_VMAIN] → off ∉ [Reg.SUP_TEMP, Reg.SUP_TEMP_MAX] → c.reg off = a.reg off :=
    fun off h1 h2 => (w1 off h2).trans (v1 off h1)
  have hkey : c.flag Reg.KEY_LC 24 = true := (State.flag_congr _ _ _ _ (hreg _ (by decide) (by decide))).trans k1
  have hr : s.Released i c := (hrel2.frame v2 (v1 _ (by decide))).frame w2 (w1 _ (by decide))
  refine ⟨c, _, hrun c rfl hkey hr, hr, hkey, ?_, ?_, rfl⟩
  · exact (State.flag_congr _ _ _ _ ((hreg _ (by decide) (by decide)).trans (k3 _ (by decide)))).trans hstat1
  · exact (State.flag_congr _ _ _ _ ((hreg _ (by decide) (by decide)).trans (k3 _ (by decide)))).trans hstat2

theorem exec_resetRelease_goes {p : Supplies} (hmay : s.mayRelease p = true) (hdue : s.sup.commitDue = false) (hrec : s.key.pendingRecord = none)
    (hdead : s.key.pufDead = false) (hbad : s.sup.nv.bkpBad = false) (hpuf : i.pufOk = true) (hbkp : i.bkpOk = true) :
    ∃ t, exec (.resetRelease p i) s = .next t ∧ t.Up
        ∧ t.mode = Mode.STARTING ∧ t.step9 = 3 ∧ t.sup.releaseClk = s.clk ∧ t.sup.roleStrap = i.role % 4
        ∧ t.flag Reg.KEY_LC 24 = true ∧ t.flag (Reg.STAT Blk.SUP) 0 = true ∧ t.flag (Reg.STAT Blk.HIF) 0 = true
        ∧ (i.bootSrc % 2 = 1 → t.flag Reg.SUP_BOOT_CTL 29 = true ∧ t.sup.bootWait = some s.clk)
        ∧ t.openTags = [] ∧ t.claims = [] ∧ t.points = [] ∧ t.out = s.out ∧ t.pse.diePorts = s.pse.diePorts := by
  obtain ⟨a, t, ht, hr, hkey, hs1, hs2, hwhich⟩ := exec_resetRelease_spec hmay hdue hrec hdead hbad hpuf hbkp
  have hopen : ∀ x : State, x.opt.slots = [] → x.openTags = [] := fun x h => by rw [State.openTags, h]; rfl
  refine ⟨t, ht, ?_⟩
  by_cases hsrc : i.bootSrc % 2 = 1
  · rw [if_pos hsrc] at hwhich
    subst hwhich
    obtain ⟨w1, w2, w3, w4⟩ := a.awaitHost_spec
    generalize a.awaitHost = t at *
    have hmode := w4 Reg.SUP_MODE (by decide)
    refine ⟨?_, (State.fld_congr hmode 0 2).trans hr.mode, (State.fld_congr hmode 4 4).trans hr.step, ?_, ?_,
      (State.flag_congr _ _ _ _ (w4 _ (by decide))).trans hkey, (State.flag_congr _ _ _ _ (w4 _ (by decide))).trans hs1,
      (State.flag_congr _ _ _ _ (w4 _ (by decide))).trans hs2, fun _ => ⟨w1, ?_⟩, hopen _ ((congrArg Opt.slots (w3.2.2 .opt (by simp))).trans hr.opt),
      (w3.2.2 .claims (by simp)).trans hr.claims, (w3.2.2 .points (by simp)).trans hr.points, (w3.2.2 .out (by simp)).trans hr.out,
      (congrArg Pse.diePorts (w3.2.2 .pse (by simp))).trans hr.ports⟩
    · rw [State.Up, w2, hr.sup]; rfl
    · rw [w2, hr.sup]; rfl
    · rw [w2, hr.sup]; rfl
    · rw [w2, hr.clk]
  · rw [if_neg hsrc] at hwhich
    subst hwhich
    refine ⟨?_, hr.mode, hr.step, ?_, ?_, hkey, hs1, hs2, fun h => absurd h hsrc, hopen _ hr.opt, hr.claims, hr.points, hr.out, hr.ports⟩
    · rw [State.Up, hr.sup]; rfl
    · rw [hr.sup]; rfl
    · rw [hr.sup]; rfl

theorem exec_resetRelease_held {p : Supplies} (hmay : s.mayRelease p = false) : exec (.resetRelease p i) s = .next s := by
  rw [exec_resetRelease, execResetRelease]
  refine State.always_next (ps := []) ?_ (.refl [] s) (by simp)
  simp only [hmay, Bool.not_false, if_true]

end

end Sys2Proof.Machine

/-! PROOFS. A life is opened or its start fails: firmware, host load and the wait for one (R571, R572, R576 to R580). -/

namespace Sys2Proof.Machine

-- One declaration after the other: the stacks of parallel elaboration would count against the memory limit of the check.
set_option Elab.async false

section
variable {s a t : State} {f : Firmware}

/-- The registers of step 4, beside OPT's interrupt (R571). -/
def openRegs : List Nat :=
  [Reg.SUP_LIFE_LAST, Reg.SUP_PFAIL_LO, Reg.SUP_PFAIL_LO + 4, Reg.SUP_COMMIT_US, Reg.SUP_START_STAT, Reg.OPT_START_NUM, Reg.OPT_LOST_STAT, Reg.SUP_MODE,
    Reg.STAT Blk.OPT]

/-- The start counter's bytes of a life that step 4 opens (R578, R580). -/
def StartMem.opened (n : StartMem) (sec : Nat) : StartMem :=
  { n with startNum := n.startNum + 1, closed := true, bkpBad := false, minimalReq := false
           minReason := if n.minimalReq ∧ n.count < 3 then 9 else n.minReason
           records := ((⟨n.startNum + 1, 0, sec, 0, 0, n.count, if decide (3 ≤ n.count) || n.minimalReq then 2 else 0, 0, 0, 0⟩ : StartRec)
             :: n.records).take 1024 }

/-- Step 4 of a life that no brownout precedes (R571, R576 to R580). -/
theorem State.openLife_spec (hno : s.brownout = false) : s.openLife.step9 = 5
    ∧ s.openLife.num Reg.OPT_START_NUM = (s.sup.nv.startNum + 1) % 2 ^ 16
    ∧ s.openLife.minimalStart = (decide (3 ≤ s.sup.nv.count) || s.sup.nv.minimalReq)
    ∧ s.openLife.sup = { s.sup with nv := s.sup.nv.opened s.sup.releaseSec } ∧ OnlyChanges [.regs, .out, .sup] s s.openLife
    ∧ OnlyRegs (openRegs ++ irqRegs Blk.OPT) s s.openLife := by
  unfold State.openLife
  simp only [hno, Bool.false_eq_true, if_false]
  generalize hmin : (decide (3 ≤ s.sup.nv.count) || s.sup.nv.minimalReq) = minimal
  obtain ⟨u0, hu0, a1, a2, a3⟩ : ∃ u0 : State, u0 = s.setNv (s.sup.nv.opened s.sup.releaseSec)
      ∧ u0.sup = { s.sup with nv := s.sup.nv.opened s.sup.releaseSec } ∧ u0.regs = s.regs ∧ OnlyChanges [.sup] s u0 :=
    ⟨_, rfl, rfl, rfl, s.setNv_onlyChanges _⟩
  simp only [StartMem.opened, hmin] at hu0
  rw [← hu0]
  have b1 := (u0.setNum_onlyChanges Reg.SUP_LIFE_LAST (s.sup.nv.endCode % 16 + s.sup.nv.startNum % 2 ^ 16 * 2 ^ 16)).trans
    ((State.setNum64_onlyChanges _ Reg.SUP_PFAIL_LO s.sup.nv.pfailCh).trans (State.setNum_onlyChanges _ Reg.SUP_COMMIT_US s.sup.nv.commitUs))
  have b2 : OnlyRegs (openRegs ++ irqRegs Blk.OPT) u0 (((u0.setNum Reg.SUP_LIFE_LAST (s.sup.nv.endCode % 16 + s.sup.nv.startNum % 2 ^ 16 * 2 ^ 16)).setNum64
      Reg.SUP_PFAIL_LO s.sup.nv.pfailCh).setNum Reg.SUP_COMMIT_US s.sup.nv.commitUs) :=
    ((OnlyRegs.refl _ u0).setNum (hm := by decide) |>.trans ((State.setNum64_onlyRegs _ _ _).mono (by decide))).setNum (hm := by decide)
  generalize ((u0.setNum Reg.SUP_LIFE_LAST (s.sup.nv.endCode % 16 + s.sup.nv.startNum % 2 ^ 16 * 2 ^ 16)).setNum64 Reg.SUP_PFAIL_LO
    s.sup.nv.pfailCh).setNum Reg.SUP_COMMIT_US s.sup.nv.commitUs = u1 at *
  generalize (if minimal = true then (if s.sup.nv.minimalReq = true ∧ s.sup.nv.count < 3 then 9 else s.sup.nv.minReason) else 0) = why
  have c1 := (u1.setFld_onlyChanges Reg.SUP_START_STAT 16 8 why).trans (State.setFlag_onlyChanges _ Reg.SUP_START_STAT 25 minimal)
  have c2 : OnlyRegs (openRegs ++ irqRegs Blk.OPT) u1 ((u1.setFld Reg.SUP_START_STAT 16 8 why).setFlag Reg.SUP_START_STAT 25 minimal) :=
    ((OnlyRegs.refl _ u1).setFld (hm := by decide)).setFlag (hm := by decide)
  have c3 := State.setFlag_flag_same (u1.setFld Reg.SUP_START_STAT 16 8 why) Reg.SUP_START_STAT 25 minimal (by decide)
  generalize (u1.setFld Reg.SUP_START_STAT 16 8 why).setFlag Reg.SUP_START_STAT 25 minimal = u2 at *
  have d1 := u2.noteCount_onlyChanges
  have d2 := u2.noteCount_onlyRegs
  have d3 : u2.noteCount.flag Reg.SUP_START_STAT 25 = u2.flag Reg.SUP_START_STAT 25 := by
    unfold State.flag
    exact congrArg (· == 1) ((State.setFld_fld_other _ _ _ _ _ _ _ (by decide) (by decide)).trans (State.setFld_fld_other _ _ _ _ _ _ _ (by decide) (by decide)))
  generalize u2.noteCount = u3 at *
  have e1 := u3.setNum_onlyChanges Reg.OPT_START_NUM ((s.sup.nv.startNum + 1) % 2 ^ 16)
  have e2 : OnlyRegs [Reg.OPT_START_NUM] u3 (u3.setNum Reg.OPT_START_NUM ((s.sup.nv.startNum + 1) % 2 ^ 16)) := (OnlyRegs.refl _ u3).setNum
  have e3 := u3.setNum_num_same Reg.OPT_START_NUM ((s.sup.nv.startNum + 1) % 2 ^ 16)
  generalize u3.setNum Reg.OPT_START_NUM ((s.sup.nv.startNum + 1) % 2 ^ 16) = u4 at *
  have f1 : OnlyChanges [.regs] u4 u4.noteLost := u4.setFld_onlyChanges _ _ _ _
  have f2 : OnlyRegs [Reg.OPT_LOST_STAT] u4 u4.noteLost := (OnlyRegs.refl _ u4).setFld
  generalize u4.noteLost = u5 at *
  have g1 : OnlyChanges [.regs] u5 (u5.atStep 5) := u5.setFld_onlyChanges _ _ _ _
  have g2 : OnlyRegs [Reg.SUP_MODE] u5 (u5.atStep 5) := (OnlyRegs.refl _ u5).setFld
  have g3 : (u5.atStep 5).step9 = 5 := u5.setFld_fld_same Reg.SUP_MODE 4 4 5 (by decide)
  generalize u5.atStep 5 = u6 at *
  have i1 := u6.setFlag_onlyChanges (Reg.STAT Blk.OPT) 0 true
  have i2 : OnlyRegs [Reg.STAT Blk.OPT] u6 (u6.setFlag (Reg.STAT Blk.OPT) 0 true) := (OnlyRegs.refl _ u6).setFlag
  generalize u6.setFlag (Reg.STAT Blk.OPT) 0 true = u7 at *
  obtain ⟨u8, hu8, j1, j2⟩ : ∃ u8, (if u7.opt.lost = [] then u7 else u7.raiseIrq Blk.OPT 3) = u8 ∧ OnlyChanges [.regs, .out] u7 u8
      ∧ OnlyRegs (irqRegs Blk.OPT) u7 u8 := by
    refine ⟨_, rfl, ?_⟩
    split
    · exact ⟨.refl _ u7, .refl _ u7⟩
    · exact ⟨u7.raiseIrq_onlyChanges Blk.OPT 3, u7.raiseIrq_onlyRegs Blk.OPT 3⟩
  rw [hu8]
  have hregs : OnlyChanges [.regs, .out] u0 u8 := (b1.mono (by simp)).trans ((c1.mono (by simp)).trans ((d1.mono (by simp)).trans ((e1.mono (by simp)).trans
    ((f1.mono (by simp)).trans ((g1.mono (by simp)).trans ((i1.mono (by simp)).trans j1))))))
  have hmode : u8.reg Reg.SUP_MODE = u6.reg Reg.SUP_MODE := (j2 _ (by decide)).trans (i2 _ (by decide))
  have hnum : u8.reg Reg.OPT_START_NUM = u4.reg Reg.OPT_START_NUM :=
    (j2 _ (by decide)).trans ((i2 _ (by decide)).trans ((g2 _ (by decide)).trans (f2 _ (by decide))))
  have hstat : u8.reg Reg.SUP_START_STAT = u3.reg Reg.SUP_START_STAT :=
    (j2 _ (by decide)).trans ((i2 _ (by decide)).trans ((g2 _ (by decide)).trans ((f2 _ (by decide)).trans (e2 _ (by decide)))))
  refine ⟨(State.fld_congr hmode 4 4).trans g3, ?_, (State.flag_congr _ _ _ _ hstat).trans (d3.trans c3), ?_, (a3.mono (by simp)).trans (hregs.mono (by simp)),
    (OnlyRegs.of_regs_eq a2).trans (b2.trans (c2.trans ((d2.mono (by decide)).trans ((e2.mono (by decide)).trans ((f2.mono (by decide)).trans
      ((g2.mono (by decide)).trans ((i2.mono (by decide)).trans (j2.mono (by decide)))))))))⟩
  · rw [State.num_congr hnum, e3]
    omega
  · rw [hregs.2.2 .sup (by simp), a1]

/-! ### The end of step 3 -/

/-- A start that fails before step 4, by a reason that leaves the counter to its one step, is held in reset without a commit (R571, R576). -/
theorem State.failStart_early (hup : s.Up) (hmode : s.mode = Mode.STARTING) (hstep : s.step9 = 3) {reason : Nat}
    (hhope : s.lcState = 3 → reason ≠ 2) (hpuf : reason ≠ 1) : (s.failStart reason 0 0).sup.inReset = true ∧ s.Counted (s.failStart reason 0 0) reason
      ∧ (s.failStart reason 0 0).sup.commitDue = false ∧ OnlyChanges [.regs, .sup] s (s.failStart reason 0 0)
      ∧ OnlyRegs [Reg.SUP_START_STAT] s (s.failStart reason 0 0) := by
  have hbegun : s.lifeBegun = false := by
    have h : s.fld Reg.SUP_MODE 4 4 = 3 := hstep
    simp only [State.lifeBegun, hmode, h]
    decide
  have hrun : s.failStart reason 0 0 = (s.countStart reason 0 0).endLife 5 := by
    have hopeless : (s.lcState == 3 && reason == 2 || s.lcState == 4 && reason == 1) = false := by
      by_cases h : s.lcState = 3
      · simp [h, hhope h]
      · simp [h, hpuf]
    simp only [State.failStart, hopeless, Bool.false_eq_true, if_false, State.unconfirmedRestart, show s.sup.inReset = false from hup]
  obtain ⟨hcounted, -, hlife, hreset, hch, hregs⟩ := s.countStart_spec reason 0 0
  rw [hrun]
  generalize s.countStart reason 0 0 = b at *
  have hend : b.endLife 5 = ({ b with sup := { b.sup with inReset := true, pfail := true, commitDue := false } } : State).setNv
      { b.sup.nv with pfailClk := b.sup.nv.pfailClk } := by
    unfold State.endLife
    rw [if_neg (by rw [hreset, show s.sup.inReset = false from hup]; simp)]
    simp only [hlife.trans hbegun, Bool.not_false, if_true]
    rfl
  rw [hend]
  obtain ⟨hcount, hreason, hshown⟩ := hcounted
  obtain ⟨u, hu, v1, v2, v3, v4, v5, v6⟩ : ∃ u : State, u = ({ b with sup := { b.sup with inReset := true, pfail := true, commitDue := false } } : State).setNv
      { b.sup.nv with pfailClk := b.sup.nv.pfailClk } ∧ u.sup.inReset = true ∧ u.sup.commitDue = false ∧ u.sup.nv.count = b.sup.nv.count
      ∧ u.sup.nv.reason = b.sup.nv.reason ∧ u.regs = b.regs ∧ OnlyChanges [.sup] b u :=
    ⟨_, rfl, rfl, rfl, rfl, rfl, rfl, (b.withSup_only _).trans (State.setNv_onlyChanges _ _)⟩
  rw [← hu]
  exact ⟨v1, ⟨v3.trans hcount, v4.trans hreason, (State.fld_congr (State.reg_congr _ _ v5 _) 0 8).trans hshown⟩, v2, hch.trans (v6.mono (by simp)),
    hregs.trans (OnlyRegs.of_regs_eq v5)⟩

end

end Sys2Proof.Machine

/-! PROOFS. What the loader does with firmware, a host load and none, and the map (R366, R392, R572, R573, R576). -/

namespace Sys2Proof.Machine

-- One declaration after the other: the stacks of parallel elaboration would count against the memory limit of the check.
set_option Elab.async false

section
variable {s a t : State} {f : Firmware} {c : Nat}

theorem State.loading_iff : s.loading = true ↔ s.Up ∧ s.mode = Mode.STARTING ∧ s.step9 = 3 := by
  simp [State.loading, State.Up, and_assoc]

/-- The state that the end of step 3 acts on: the wait for the host is over (R572). -/
def State.loadEnded (s : State) : State := { s.setFlag Reg.SUP_BOOT_CTL 29 false with sup := { s.sup with bootWait := none } }

/-- The end of step 3 behind the wait (R571, R576, R579). -/
theorem State.endLoad_eq (s : State) (ok : Bool) (reason : Nat) : s.endLoad ok reason = (let s1 := s.loadEnded
    if ok then { s1 with sup := { s1.sup with core0Up := true }, arb := { s1.arb with coreDown := false } }.openLife
    else if s1.calledMinimal then { s1 with sup := { s1.sup with fwFail := true } }.openLife
    else s1.failStart reason 0 0) := by
  unfold State.endLoad State.loadEnded
  rfl

theorem State.loadEnded_spec (s : State) : s.loadEnded.flag Reg.SUP_BOOT_CTL 29 = false
    ∧ s.loadEnded.fld Reg.SUP_BOOT_CTL 30 2 = s.fld Reg.SUP_BOOT_CTL 30 2 ∧ s.loadEnded.sup = { s.sup with bootWait := none }
    ∧ OnlyChanges [.regs, .sup] s s.loadEnded ∧ OnlyRegs [Reg.SUP_BOOT_CTL] s s.loadEnded := by
  have h1 := s.setFlag_flag_same Reg.SUP_BOOT_CTL 29 false (by decide)
  have h2 := s.setFlag_onlyChanges Reg.SUP_BOOT_CTL 29 false
  have h3 : OnlyRegs [Reg.SUP_BOOT_CTL] s (s.setFlag Reg.SUP_BOOT_CTL 29 false) := (OnlyRegs.refl _ s).setFlag
  have h4 : (s.setFlag Reg.SUP_BOOT_CTL 29 false).fld Reg.SUP_BOOT_CTL 30 2 = s.fld Reg.SUP_BOOT_CTL 30 2 :=
    s.setFld_fld_other Reg.SUP_BOOT_CTL 29 1 0 30 2 (by decide) (by decide)
  unfold State.loadEnded
  generalize s.setFlag Reg.SUP_BOOT_CTL 29 false = b at *
  obtain ⟨u, hu, g1, g2, g3⟩ : ∃ u : State, { b with sup := { s.sup with bootWait := none } } = u ∧ u.sup = { s.sup with bootWait := none }
      ∧ u.regs = b.regs ∧ OnlyChanges [.sup] b u := ⟨_, rfl, rfl, rfl, b.withSup_only _⟩
  rw [hu]
  exact ⟨(State.flag_congr _ _ _ _ (State.reg_congr _ _ g2 _)).trans h1, (State.fld_congr (State.reg_congr _ _ g2 _) _ _).trans h4, g1,
    (h2.mono (by simp)).trans (g3.mono (by simp)), h3.trans (OnlyRegs.of_regs_eq g2)⟩

theorem State.brownout_congr (hnv : t.sup.nv = s.sup.nv) (hsec : t.sup.releaseSec = s.sup.releaseSec) : t.brownout = s.brownout := by
  simp only [State.brownout, hnv, hsec]

/-- What the end of step 3 with cores that may start shows (R571, R572). -/
structure State.LifeOpened (s t : State) : Prop where
  up : t.sup.inReset = s.sup.inReset
  core0 : t.sup.core0Up = true
  core1 : t.arb.coreDown = false
  step : t.step9 = 5
  started : t.sup.nv.startNum = s.sup.nv.startNum + 1
  shown : t.num Reg.OPT_START_NUM = (s.sup.nv.startNum + 1) % 2 ^ 16
  minimal : t.minimalStart = (decide (3 ≤ s.sup.nv.count) || s.sup.nv.minimalReq)
  closed : t.sup.nv.closed = true

/-- Step 3 ends well: both cores start and the life opens (R571). -/
theorem State.endLoad_ok (hno : s.brownout = false) (reason : Nat) : s.LifeOpened (s.endLoad true reason)
    ∧ (s.endLoad true reason).flag Reg.SUP_BOOT_CTL 29 = false
    ∧ (s.endLoad true reason).fld Reg.SUP_BOOT_CTL 30 2 = s.fld Reg.SUP_BOOT_CTL 30 2 ∧ OnlyChanges [.regs, .out, .sup, .arb] s (s.endLoad true reason) := by
  obtain ⟨h1, h2, h3, h4, -⟩ := s.loadEnded_spec
  obtain ⟨u, hu, v1, v2, v3, v4⟩ : ∃ u : State, { s.loadEnded with sup := { s.loadEnded.sup with core0Up := true }
                                                                   arb := { s.loadEnded.arb with coreDown := false } } = u
      ∧ u.sup = { s.loadEnded.sup with core0Up := true } ∧ u.arb.coreDown = false ∧ u.regs = s.loadEnded.regs ∧ OnlyChanges [.sup, .arb] s.loadEnded u :=
    ⟨_, rfl, rfl, rfl, rfl, by simp [onlyChanges_iff]⟩
  have hrun : s.endLoad true reason = u.openLife := by
    rw [State.endLoad_eq]
    exact congrArg State.openLife hu
  rw [h3] at v1
  obtain ⟨o1, o2, o3, o4, o5, o6⟩ := State.openLife_spec (s := u) ((State.brownout_congr (s := s) (by rw [v1]) (by rw [v1])).trans hno)
  rw [hrun]
  generalize u.openLife = t at *
  have hreg : t.reg Reg.SUP_BOOT_CTL = s.loadEnded.reg Reg.SUP_BOOT_CTL := (o6 _ (by decide)).trans (State.reg_congr _ _ v3 _)
  rw [v1] at o2 o3 o4
  refine ⟨⟨by rw [o4], by rw [o4], ?_, o1, by rw [o4]; rfl, o2, o3, by rw [o4]; rfl⟩, (State.flag_congr _ _ _ _ hreg).trans h1,
    (State.fld_congr hreg _ _).trans h2, (h4.mono (by simp)).trans ((v4.mono (by simp)).trans (o5.mono (by simp)))⟩
  rw [o5.2.2 .arb (by simp), v2]

/-- Step 3 fails and no counter called for a minimal start (R571, R576). -/
theorem State.endLoad_fails (hload : s.loading = true) (hcalled : s.calledMinimal = false) {reason : Nat} (hhope : s.lcState = 3 → reason ≠ 2)
    (hpuf : reason ≠ 1) : (s.endLoad false reason).sup.inReset = true ∧ s.Counted (s.endLoad false reason) reason
      ∧ (s.endLoad false reason).sup.commitDue = false ∧ (s.endLoad false reason).flag Reg.SUP_BOOT_CTL 29 = false
      ∧ (s.endLoad false reason).fld Reg.SUP_BOOT_CTL 30 2 = s.fld Reg.SUP_BOOT_CTL 30 2
      ∧ OnlyChanges [.regs, .sup] s (s.endLoad false reason) := by
  obtain ⟨hup, hmode, hstep⟩ := State.loading_iff.mp hload
  obtain ⟨h1, h2, h3, h4, h5⟩ := s.loadEnded_spec
  have hrun : s.endLoad false reason = s.loadEnded.failStart reason 0 0 := by
    have hc : s.loadEnded.calledMinimal = false := by rw [State.calledMinimal, h3]; exact hcalled
    rw [State.endLoad_eq]
    simp only [Bool.false_eq_true, if_false, hc]
  rw [hrun]
  have hm : s.loadEnded.reg Reg.SUP_MODE = s.reg Reg.SUP_MODE := h5 _ (by decide)
  have hlc : s.loadEnded.lcState = s.lcState := congrArg Key.otpState (h4.2.2 .key (by simp))
  obtain ⟨f1, f2, f3, f4, f5⟩ := State.failStart_early (s := s.loadEnded) (by rw [State.Up, h3]; exact hup) ((State.fld_congr hm 0 2).trans hmode)
    ((State.fld_congr hm 4 4).trans hstep) (reason := reason) (by rw [hlc]; exact hhope) hpuf
  have hnv : s.loadEnded.sup.nv = s.sup.nv := by rw [h3]
  unfold State.Counted at *
  rw [hnv] at f2
  exact ⟨f1, f2, f3, (State.flag_congr _ _ _ _ (f5 _ (by decide))).trans h1, (State.fld_congr (f5 _ (by decide)) _ _).trans h2, h4.trans f4⟩

/-- Step 3 fails where the counter called for a minimal start: the life opens with the cores stopped (R579). -/
theorem State.endLoad_minimal (hno : s.brownout = false) (hcalled : s.calledMinimal = true) (reason : Nat) :
    (s.endLoad false reason).flag Reg.SUP_BOOT_CTL 29 = false ∧ OnlyChanges [.regs, .out, .sup, .arb] s (s.endLoad false reason) := by
  obtain ⟨h1, -, h3, h4, -⟩ := s.loadEnded_spec
  obtain ⟨u, hu, v1, v3, v4⟩ : ∃ u : State, { s.loadEnded with sup := { s.loadEnded.sup with fwFail := true } } = u
      ∧ u.sup = { s.loadEnded.sup with fwFail := true } ∧ u.regs = s.loadEnded.regs ∧ OnlyChanges [.sup] s.loadEnded u :=
    ⟨_, rfl, rfl, rfl, s.loadEnded.withSup_only _⟩
  have hrun : s.endLoad false reason = u.openLife := by
    have hc : s.loadEnded.calledMinimal = true := by rw [State.calledMinimal, h3]; exact hcalled
    rw [State.endLoad_eq]
    simp only [Bool.false_eq_true, if_false, hc, if_true]
    exact congrArg State.openLife hu
  rw [h3] at v1
  obtain ⟨-, -, -, -, o5, o6⟩ := State.openLife_spec (s := u) ((State.brownout_congr (s := s) (by rw [v1]) (by rw [v1])).trans hno)
  rw [hrun]
  have hreg : u.openLife.reg Reg.SUP_BOOT_CTL = s.loadEnded.reg Reg.SUP_BOOT_CTL := (o6 _ (by decide)).trans (State.reg_congr _ _ v3 _)
  exact ⟨(State.flag_congr _ _ _ _ hreg).trans h1, (h4.mono (by simp)).trans ((v4.mono (by simp)).trans (o5.mono (by simp)))⟩

/-- A failed start changes SUP's books alone (R576). -/
theorem State.failStart_frame (s : State) (reason : Nat) (d d2 : Word) : OnlyChanges [.regs, .sup] s (s.failStart reason d d2)
    ∧ OnlyRegs [Reg.SUP_START_STAT] s (s.failStart reason d d2) := by
  have hfail : ∀ b : State, OnlyChanges [.regs, .sup] b (b.unconfirmedRestart reason d d2)
      ∧ OnlyRegs [Reg.SUP_START_STAT] b (b.unconfirmedRestart reason d d2) := fun b => by
    unfold State.unconfirmedRestart
    split
    · exact ⟨.refl _ b, .refl _ b⟩
    · obtain ⟨-, -, -, -, hch, hregs⟩ := b.countStart_spec reason d d2
      have hend := (b.countStart reason d d2).endLife_onlyChanges 5
      exact ⟨hch.trans (hend.mono (by simp)), hregs.trans (OnlyRegs.of_regs_eq (hend.2.2 .regs (by simp)))⟩
  unfold State.failStart
  simp only
  split
  · have hnv := s.setNv_onlyChanges { s.sup.nv with count := Nat.max 2 s.sup.nv.count }
    obtain ⟨h1, h2⟩ := hfail (s.setNv { s.sup.nv with count := Nat.max 2 s.sup.nv.count })
    exact ⟨(hnv.mono (by simp)).trans h1, (OnlyRegs.of_regs_eq (hnv.2.2 .regs (by simp))).trans h2⟩
  · exact hfail s

/-- Whatever the load gave, step 3 ends within these parts and the loader waits no longer. -/
theorem State.endLoad_frame (hno : s.brownout = false) (ok : Bool) (reason : Nat) :
    (s.endLoad ok reason).flag Reg.SUP_BOOT_CTL 29 = false ∧ OnlyChanges [.regs, .out, .sup, .arb] s (s.endLoad ok reason) := by
  cases ok with
  | true =>
    obtain ⟨-, h, -, hch⟩ := State.endLoad_ok hno reason
    exact ⟨h, hch⟩
  | false =>
    cases hcalled : s.calledMinimal with
    | true => exact State.endLoad_minimal hno hcalled reason
    | false =>
      obtain ⟨h1, -, h3, h4, -⟩ := s.loadEnded_spec
      have hc : s.loadEnded.calledMinimal = false := by rw [State.calledMinimal, h3]; exact hcalled
      obtain ⟨f1, f2⟩ := s.loadEnded.failStart_frame reason 0 0
      rw [State.endLoad_eq]
      simp only [Bool.false_eq_true, if_false, hc]
      exact ⟨(State.flag_congr _ _ _ _ (f2 _ (by decide))).trans h1, (h4.mono (by simp)).trans (f1.mono (by simp))⟩

/-! ### FIRMWARE_LOAD, BOOT_DATA, BOOT_GO and BOOT_WAIT_TIMEOUT -/

theorem exec_firmwareLoad_copy {r : List (Option Firmware)} (hload : s.loading = true) (hwait : s.sup.bootWait = none) (hsrc : s.sup.bootSrc = 0)
    (hkey : s.flag Reg.KEY_LC 24 = true) (hno : s.brownout = false) : exec (.firmwareLoad (some f :: r)) s = .next (s.endLoad (s.firmwareOk f) 2) := by
  obtain ⟨hup, -, -⟩ := State.loading_iff.mp hload
  obtain ⟨-, hch⟩ := State.endLoad_frame hno (s.firmwareOk f) 2
  rw [exec_firmwareLoad, execFirmwareLoad]
  refine State.powered_next hup ?_ hch (by simp)
  simp only [hload, hwait, hsrc, hkey]
  rfl

theorem exec_firmwareLoad_none {l : List (Option Firmware)} (hload : s.loading = true) (hwait : s.sup.bootWait = none) (hsrc : s.sup.bootSrc = 0)
    (hl : ∀ c, c ∈ l → c = none) : ∃ t, exec (.firmwareLoad l) s = .next t
        ∧ t.flag Reg.SUP_BOOT_CTL 29 = true ∧ t.sup.bootWait = some s.clk ∧ OnlyChanges [.regs, .sup] s t
        ∧ OnlyRegs [Reg.SUP_BOOT_CTL] s t := by
  obtain ⟨hup, -, -⟩ := State.loading_iff.mp hload
  obtain ⟨w1, w2, w3, w4⟩ := s.awaitHost_spec
  refine ⟨s.awaitHost, ?_, w1, by rw [w2], w3, w4⟩
  rw [exec_firmwareLoad, execFirmwareLoad]
  refine State.powered_next hup ?_ w3 (by simp)
  have hfind : (if s.flag Reg.KEY_LC 24 then l else []).findSome? id = none := by
    rw [List.findSome?_eq_none_iff]
    intro c hc
    split at hc
    · exact hl c hc
    · simp at hc
  simp only [hload, hwait, hsrc, hfind]
  rfl

theorem exec_bootData_takes {rq : Requester} {w : Word} (hflag : s.flag Reg.SUP_BOOT_CTL 29 = true) (hup : s.Up)
    (hpass : s.Passes rq Reg.SUP_BOOT_DATA) :
    exec (.bootData rq w) s = .next { s with sup := { s.sup with bootWords := s.sup.bootWords ++ [w] } } := by
  rw [exec_bootData, execBootData]
  refine State.powered_next hup ?_ (s.withSup_only _) (by simp)
  obtain ⟨r, hr⟩ : ∃ r, regRow? Reg.SUP_BOOT_DATA = some r := Option.isSome_iff_exists.1 (by decide)
  have hwrite : s.writeReg rq r Reg.SUP_BOOT_DATA w = s.takeBootWord w := rfl
  rw [s.takeWrite_of_passes _ _ w r hpass hr (by decide), hwrite, State.takeBootWord, if_pos hflag]

/-- What BOOT_GO verifies stands in BOOT_CTL with its outcome (R572). -/
theorem State.bootNoted_spec (s : State) (v : Nat) (bit : Nat) (hbit : bit = 30 ∨ bit = 31) :
    ((s.setFld Reg.SUP_BOOT_CTL 0 24 v).setFlag Reg.SUP_BOOT_CTL bit true).flag Reg.SUP_BOOT_CTL bit = true
    ∧ OnlyChanges [.regs] s ((s.setFld Reg.SUP_BOOT_CTL 0 24 v).setFlag Reg.SUP_BOOT_CTL bit true)
    ∧ OnlyRegs [Reg.SUP_BOOT_CTL] s ((s.setFld Reg.SUP_BOOT_CTL 0 24 v).setFlag Reg.SUP_BOOT_CTL bit true) :=
  ⟨State.setFlag_flag_same _ _ _ _ (by omega), (s.setFld_onlyChanges _ _ _ _).trans (State.setFlag_onlyChanges _ _ _ _),
    (OnlyRegs.refl _ s).setFld.setFlag⟩

/-- A flag of BOOT_CTL from the two bits of the outcome (R572). -/
theorem State.flag_of_outcome (h : t.fld Reg.SUP_BOOT_CTL 30 2 = s.fld Reg.SUP_BOOT_CTL 30 2) {bit : Nat} (hbit : bit = 30 ∨ bit = 31) :
    t.flag Reg.SUP_BOOT_CTL bit = s.flag Reg.SUP_BOOT_CTL bit := by
  simp only [State.flag, State.fld, bitsOf] at h ⊢
  rcases hbit with rfl | rfl
  · congr 1
    omega
  · congr 1
    omega

theorem exec_bootGo_spec {rq : Requester} {w : Word} (hload : s.loading = true) (hwait : s.sup.bootWait = some c)
    (hgo : bitOf w.toNat 28 = true) (hlen : w.toNat % 2 ^ 24 ≤ 4 * s.sup.bootWords.length) (hno : s.brownout = false) :
    ∃ t, exec (.bootGo rq w f) s = .next t ∧ OnlyChanges [.regs, .out, .sup, .arb] s t ∧
          t.flag Reg.SUP_BOOT_CTL 29 = false ∧
          (s.firmwareOk f = true → t.Up ∧ t.flag Reg.SUP_BOOT_CTL 30 = true ∧ t.sup.core0Up = true ∧ t.step9 = 5) ∧
          (s.firmwareOk f = false → s.calledMinimal = false → s.lcState ≠ 3 → t.flag Reg.SUP_BOOT_CTL 31 = true
            ∧ t.sup.inReset = true ∧ s.Counted t 2) := by
  obtain ⟨hup, hmode, hstep⟩ := State.loading_iff.mp hload
  generalize hok : s.firmwareOk f = ok
  obtain ⟨b, hb, b1, b2, b3⟩ : ∃ b, (s.setFld Reg.SUP_BOOT_CTL 0 24 w.toNat).setFlag Reg.SUP_BOOT_CTL (if ok then 30 else 31) true = b
      ∧ b.flag Reg.SUP_BOOT_CTL (if ok then 30 else 31) = true ∧ OnlyChanges [.regs] s b ∧ OnlyRegs [Reg.SUP_BOOT_CTL] s b :=
    ⟨_, rfl, s.bootNoted_spec _ _ (by cases ok <;> simp)⟩
  have hsup : b.sup = s.sup := b2.2.2 .sup (by simp)
  have hbno : b.brownout = false := (State.brownout_congr (s := s) (by rw [hsup]) (by rw [hsup])).trans hno
  have hbmode := b3 Reg.SUP_MODE (by decide)
  have hbload : b.loading = true := State.loading_iff.mpr ⟨by rw [State.Up, hsup]; exact hup, (State.fld_congr hbmode 0 2).trans hmode,
    (State.fld_congr hbmode 4 4).trans hstep⟩
  obtain ⟨e1, e2⟩ := State.endLoad_frame hbno ok 2
  have hall := (b2.mono (qs := [.regs, .out, .sup, .arb]) (by simp)).trans e2
  refine ⟨b.endLoad ok 2, ?_, hall, e1, fun h => ?_, fun h hcalled hlc => ?_⟩
  · rw [exec_bootGo, execBootGo]
    refine State.powered_next hup ?_ hall (by simp)
    simp only [hload, hwait, hgo, hok, hlen, decide_true, Bool.and_true]
    rw [if_neg (by simp), hb]
  · subst h
    obtain ⟨o, -, o3, -⟩ := State.endLoad_ok hbno 2
    refine ⟨by rw [State.Up, o.up, hsup]; exact hup, (State.flag_of_outcome o3 (.inl rfl)).trans b1, o.core0, o.step⟩
  · subst h
    have hblc : b.lcState = s.lcState := congrArg Key.otpState (b2.2.2 .key (by simp))
    obtain ⟨f1, f2, -, -, f5, -⟩ := State.endLoad_fails hbload (by rw [State.calledMinimal, hsup]; exact hcalled) (reason := 2)
      (fun h3 => absurd (hblc.symm.trans h3) hlc) (by decide)
    unfold State.Counted at *
    rw [hsup] at f2
    exact ⟨(State.flag_of_outcome f5 (.inr rfl)).trans b1, f1, f2⟩

theorem exec_bootWaitTimeout_early (hwait : s.sup.bootWait = some c) (hlt : s.clk < c + 60000 * msClk) : exec .bootWaitTimeout s = .next s := by
  rw [exec_bootWaitTimeout, execBootWaitTimeout]
  refine State.powered_same ?_
  simp only [hwait]
  exact if_pos (.inr (.inr hlt))

theorem exec_bootWaitTimeout_due (hload : s.loading = true) (hwait : s.sup.bootWait = some c) (hsrc : s.sup.bootSrc = 0)
    (hle : c + 60000 * msClk ≤ s.clk) (hcalled : s.calledMinimal = false) : ∃ t, exec .bootWaitTimeout s = .next t ∧ t.sup.inReset = true
          ∧ s.Counted t 6 ∧ OnlyChanges [.regs, .sup] s t := by
  obtain ⟨hup, -, -⟩ := State.loading_iff.mp hload
  obtain ⟨f1, f2, -, -, -, f6⟩ := State.endLoad_fails hload hcalled (reason := 6) (fun _ => by decide) (by decide)
  refine ⟨_, ?_, f1, f2, f6⟩
  rw [exec_bootWaitTimeout, execBootWaitTimeout]
  refine State.powered_next hup ?_ f6 (by simp)
  simp only [hwait]
  rw [if_neg]
  simp [hload, hsrc]
  omega

end

end Sys2Proof.Machine

/-! PROOFS. The map stands again, or its start fails (R366, R392, R573). -/

namespace Sys2Proof.Machine

-- One declaration after the other: the stacks of parallel elaboration would count against the memory limit of the check.
set_option Elab.async false

section
variable {s a t : State}

/-- The registers of STO's figures: pools, classes, channels, free LUNs and replicas, and STO's interrupt. -/
def figureReg (off : Nat) : Prop :=
  (0x380200 ≤ off ∧ off < 0x381000) ∨ (∃ c, c < 2 ∧ off = Reg.STO_CHc_STAT c) ∨ off = Reg.STO_STAT ∨ off = Reg.STO_UNREP ∨ off ∈ irqRegs Blk.STO

/-- What STO shows of itself leaves every other register, MAP_READY, and what its work shows. -/
def State.Figured (a t : State) : Prop := (∀ off, ¬ figureReg off → t.reg off = a.reg off)
  ∧ ∀ i, i ≠ 1 → i ≠ 2 → i < 8 → t.flag Reg.STO_STAT i = a.flag Reg.STO_STAT i

theorem State.Figured.refl (a : State) : a.Figured a := ⟨fun _ _ => rfl, fun _ _ _ _ => rfl⟩

theorem State.Figured.trans {u : State} (h1 : a.Figured t) (h2 : t.Figured u) : a.Figured u := by
  obtain ⟨r1, f1⟩ := h1
  obtain ⟨r2, f2⟩ := h2
  exact ⟨fun off h => (r2 off h).trans (r1 off h), fun i h1 h2 h8 => (f2 i h1 h2 h8).trans (f1 i h1 h2 h8)⟩

theorem State.Figured.of_reg {off : Nat} (hne : off ≠ Reg.STO_STAT) (hfig : figureReg off) (v : Word) : a.Figured (a.setReg off v) :=
  ⟨fun o h => a.setReg_reg_other off o v fun he => h (he ▸ hfig), fun _ _ _ _ => State.flag_congr _ _ _ _ (a.setReg_reg_other off _ v hne)⟩

theorem State.Figured.setNum {off : Nat} (hne : off ≠ Reg.STO_STAT) (hfig : figureReg off) (v : Nat) : a.Figured (a.setNum off v) :=
  State.Figured.of_reg hne hfig _

theorem State.Figured.setFld {off : Nat} (hne : off ≠ Reg.STO_STAT) (hfig : figureReg off) (lo w v : Nat) : a.Figured (a.setFld off lo w v) :=
  State.Figured.of_reg hne hfig _

theorem State.Figured.irq (a : State) (bit : Nat) : a.Figured (a.raiseIrq Blk.STO bit) :=
  ⟨fun off h => a.raiseIrq_onlyRegs Blk.STO bit off fun hm => h (.inr (.inr (.inr (.inr hm)))),
    fun _ _ _ _ => State.flag_congr _ _ _ _ (a.raiseIrq_onlyRegs Blk.STO bit _ (by decide))⟩

theorem State.Figured.stoStat (a : State) {q : Nat} (hq : q < 2) (v : Bool) : a.Figured (a.setFlag Reg.STO_STAT (1 + q) v) :=
  ⟨fun off h => a.setFlag_reg_other _ _ off v fun he => h (.inr (.inr (.inl he.symm))),
    fun _ _ _ _ => a.setFlag_flag_other _ _ _ v (by omega) (by omega)⟩

/-- A register of the pools' and classes' window is a figure. -/
theorem figure_window {off : Nat} (h1 : 0x380200 ≤ off) (h2 : off < 0x381000) : off ≠ Reg.STO_STAT ∧ figureReg off :=
  ⟨by simp only [Reg.STO_STAT]; omega, .inl ⟨h1, h2⟩⟩

theorem State.Figured.window {off : Nat} (h1 : 0x380200 ≤ off) (h2 : off < 0x381000) (v : Nat) : a.Figured (a.setNum off v) := by
  obtain ⟨hne, hfig⟩ := figure_window h1 h2
  exact .setNum hne hfig v

theorem State.forN_keeps_below {P : State → Prop} (s : State) (n : Nat) (f : State → Nat → State) (h0 : P s)
    (hf : ∀ a i, i < n → P a → P (f a i)) : P (s.forN n f) := by
  induction n with
  | zero => exact h0
  | succ n ih =>
    rw [State.forN_succ]
    exact hf _ n n.lt_succ_self (ih fun a i hi => hf a i (Nat.lt_succ_of_lt hi))

/-- The seven figures of a pool. -/
theorem State.Figured.pool (a : State) {q : Nat} (hq : q < 2) (v1 v2 v3 v4 v5 v6 v7 : Nat) : a.Figured
    (((((((a.setNum (Reg.STO_PLq_BLOCKS q) v1).setNum (Reg.STO_PLq_FREE q) v2).setNum (Reg.STO_PLq_BAD q) v3).setNum (Reg.STO_PLq_SPARE q) v4).setNum
      (Reg.STO_PLq_EC_MIN q) v5).setNum (Reg.STO_PLq_EC_MAX q) v6).setNum (Reg.STO_PLq_EC_MEAN q) v7) := by
  have h : ∀ (b : State) (k v : Nat), k < 7 → b.Figured (b.setNum (0x380200 + 64 * q + 4 * k) v) := fun b k v hk =>
    .window (by omega) (by omega) v
  simp only [Reg.STO_PLq_BLOCKS, Reg.STO_PLq_FREE, Reg.STO_PLq_BAD, Reg.STO_PLq_SPARE, Reg.STO_PLq_EC_MIN, Reg.STO_PLq_EC_MAX, Reg.STO_PLq_EC_MEAN]
  rw [show 0x380200 + 64 * q = 0x380200 + 64 * q + 4 * 0 from rfl, show 0x380204 + 64 * q = 0x380200 + 64 * q + 4 * 1 by omega,
    show 0x380208 + 64 * q = 0x380200 + 64 * q + 4 * 2 by omega, show 0x38020C + 64 * q = 0x380200 + 64 * q + 4 * 3 by omega,
    show 0x380210 + 64 * q = 0x380200 + 64 * q + 4 * 4 by omega, show 0x380214 + 64 * q = 0x380200 + 64 * q + 4 * 5 by omega,
    show 0x380218 + 64 * q = 0x380200 + 64 * q + 4 * 6 by omega]
  exact (((((((h _ 0 v1 (by decide)).trans (h _ 1 v2 (by decide))).trans (h _ 2 v3 (by decide))).trans (h _ 3 v4 (by decide))).trans
    (h _ 4 v5 (by decide))).trans (h _ 5 v6 (by decide))).trans (h _ 6 v7 (by decide)))

/-- A pool that runs short of spares warns, and then stops taking writes (R372). -/
theorem State.Figured.warned (b : State) {q : Nat} (hq : q < 2) (c1 c2 : Prop) [Decidable c1] [Decidable c2] : b.Figured
    (if c2 ∧ (!(if c1 then b.raiseIrq Blk.STO 2 else b).flag Reg.STO_STAT (1 + q)) = true then
      ((if c1 then b.raiseIrq Blk.STO 2 else b).setFlag Reg.STO_STAT (1 + q) true).raiseIrq Blk.STO 3
    else if c1 then b.raiseIrq Blk.STO 2 else b) := by
  obtain ⟨a, ha, h⟩ : ∃ a, (if c1 then b.raiseIrq Blk.STO 2 else b) = a ∧ b.Figured a := by
    refine ⟨_, rfl, ?_⟩
    split
    · exact .irq b 2
    · exact .refl b
  rw [ha]
  split
  · exact h.trans ((State.Figured.stoStat a hq true).trans (.irq _ 3))
  · exact h

theorem State.noteSto_figured (s : State) : s.Figured s.noteSto := by
  unfold State.noteSto
  simp only
  generalize hpools : s.forN 2 _ = s1
  generalize hclasses : s1.forN 5 _ = s2
  generalize hchans : s2.forN 2 _ = s3
  have h1 : s.Figured s1 := by
    rw [← hpools]
    refine s.forN_keeps_below 2 _ (.refl s) fun a q hq ha => ha.trans ?_
    have hp := State.Figured.pool a hq
    split
    · exact hp _ _ _ _ _ _ _
    · exact (hp _ _ _ _ _ _ _).trans (.warned _ hq _ _)
  have h2 : s1.Figured s2 := by
    rw [← hclasses]
    refine s1.forN_keeps_below 5 _ (.refl s1) fun a k hk ha => ha.trans ?_
    have hused : ∀ v, a.Figured (a.setNum64 (Reg.STO_CLk_USED_LO (k + 1)) v) := fun v =>
      (State.Figured.window (by simp only [Reg.STO_CLk_USED_LO]; omega) (by simp only [Reg.STO_CLk_USED_LO]; omega) _).trans
        (State.Figured.window (by simp only [Reg.STO_CLk_USED_LO]; omega) (by simp only [Reg.STO_CLk_USED_LO]; omega) _)
    split
    · exact (hused _).trans (.window (by simp only [Reg.STO_CLk_FREE]; omega) (by simp only [Reg.STO_CLk_FREE]; omega) _)
    · exact (hused _).trans (.window (by simp only [Reg.STO_CLk_FREE]; omega) (by simp only [Reg.STO_CLk_FREE]; omega) _)
  have h3 : s2.Figured s3 := by
    rw [← hchans]
    refine s2.forN_keeps_below 2 _ (.refl s2) fun a c hc ha => ha.trans (.setFld ?_ (.inr (.inl ⟨c, hc, rfl⟩)) _ _ _)
    simp only [Reg.STO_CHc_STAT, Reg.STO_STAT]
    omega
  have h4 : s3.Figured (s3.setFld Reg.STO_STAT 8 8 s3.usableLuns.length) := by
    refine ⟨fun off h => s3.setFld_reg_other _ _ _ _ off fun he => h (.inr (.inr (.inl he.symm))), fun i _ _ h8 => ?_⟩
    unfold State.flag
    rw [s3.setFld_fld_other _ _ _ _ _ _ (by decide) (.inr (by omega))]
  exact h1.trans (h2.trans (h3.trans (h4.trans (.setFld (by decide) (.inr (.inr (.inr (.inl rfl)))) _ _ _))))

/-- A LUN's state and its bad blocks, as the map finds them (R366). -/
def State.foundLun (a : State) (f : LunFound) : State :=
  (a.setFld (Reg.STO_CHc_LUNl_STAT f.channel f.lun) 0 2 (if f.matched then 1 else 3)).setNum (Reg.STO_CHc_LUNl_BAD f.channel f.lun) f.badBlocks.length

theorem lunReg_not_figure {c l : Nat} (hc : c < 2) (hl : l < 8) : ¬ figureReg (Reg.STO_CHc_LUNl_STAT c l) := by
  have hirq : ∀ c : Fin 2, ∀ l : Fin 8, Reg.STO_CHc_LUNl_STAT c l ∉ irqRegs Blk.STO := by decide
  have := hirq ⟨c, hc⟩ ⟨l, hl⟩
  rintro (⟨-, h⟩ | ⟨c', h, h'⟩ | h | h | h)
  · simp only [Reg.STO_CHc_LUNl_STAT] at h
    omega
  · simp only [Reg.STO_CHc_LUNl_STAT, Reg.STO_CHc_STAT] at h'
    omega
  · simp only [Reg.STO_CHc_LUNl_STAT, Reg.STO_STAT] at h
    omega
  · simp only [Reg.STO_CHc_LUNl_STAT, Reg.STO_UNREP] at h
    omega
  · exact this h

theorem State.foundLun_other {f : LunFound} {c l : Nat} (hl : f.lun < 8) (hl2 : l < 8)
    (hne : ¬ (f.channel = c ∧ f.lun = l)) : (a.foundLun f).reg (Reg.STO_CHc_LUNl_STAT c l) = a.reg (Reg.STO_CHc_LUNl_STAT c l) := by
  refine (State.setNum_reg_other _ _ _ _ ?_).trans (State.setFld_reg_other _ _ _ _ _ _ ?_)
  · simp only [Reg.STO_CHc_LUNl_STAT, Reg.STO_CHc_LUNl_BAD]
    omega
  · simp only [Reg.STO_CHc_LUNl_STAT]
    omega

theorem State.foundLun_same (f : LunFound) (a : State) :
    (a.foundLun f).fld (Reg.STO_CHc_LUNl_STAT f.channel f.lun) 0 2 = if f.matched then 1 else 3 := by
  have h : Reg.STO_CHc_LUNl_BAD f.channel f.lun ≠ Reg.STO_CHc_LUNl_STAT f.channel f.lun := by
    simp only [Reg.STO_CHc_LUNl_STAT, Reg.STO_CHc_LUNl_BAD]
    omega
  rw [State.foundLun, State.fld_congr (State.setNum_reg_other _ _ _ _ h), State.setFld_fld_same _ _ _ _ _ (by decide)]
  split <;> rfl

/-- Of LUNs with places of their own each is shown as it was found. -/
theorem State.foundLuns_shows {l : List LunFound} (hin : ∀ g, g ∈ l → g.channel < 2 ∧ g.lun < 8) {f : LunFound} (hf : f.channel < 2 ∧ f.lun < 8)
    (hone : ∀ g, g ∈ l → g.channel = f.channel → g.lun = f.lun → g = f) {a : State}
    (h : f ∈ l ∨ a.fld (Reg.STO_CHc_LUNl_STAT f.channel f.lun) 0 2 = if f.matched then 1 else 3) :
    (l.foldl State.foundLun a).fld (Reg.STO_CHc_LUNl_STAT f.channel f.lun) 0 2 = if f.matched then 1 else 3 := by
  induction l generalizing a with
  | nil => exact h.resolve_left (by simp)
  | cons g r ih =>
    have hr : ∀ x, x ∈ r → x.channel < 2 ∧ x.lun < 8 := fun x hx => hin x (List.mem_cons_of_mem _ hx)
    have hone2 : ∀ x, x ∈ r → x.channel = f.channel → x.lun = f.lun → x = f := fun x hx => hone x (List.mem_cons_of_mem _ hx)
    rw [List.foldl_cons]
    by_cases hg : g = f
    · exact ih hr hone2 (.inr (by rw [hg]; exact a.foundLun_same f))
    · obtain ⟨-, hgl⟩ := hin g List.mem_cons_self
      have hne : ¬ (g.channel = f.channel ∧ g.lun = f.lun) := fun he => hg (hone g List.mem_cons_self he.1 he.2)
      refine ih hr hone2 (h.imp (fun hm => ?_) fun hs => ?_)
      · exact (List.mem_cons.mp hm).resolve_left fun he => hg he.symm
      · rw [State.fld_congr (State.foundLun_other hgl hf.2 hne), hs]

/-- The map's registers: each LUN as found, and MAP_READY (R366). -/
theorem State.mountMap_spec (s : State) (l : List LunFound) : (s.mountMap l).flag Reg.STO_STAT 0 = true
    ∧ ∀ c n, c < 2 → n < 8 → (s.mountMap l).reg (Reg.STO_CHc_LUNl_STAT c n) = (l.foldl State.foundLun s).reg (Reg.STO_CHc_LUNl_STAT c n) := by
  obtain ⟨u, hu, hregs⟩ : ∃ u : State, s.mountMap l = (u.setFlag Reg.STO_STAT 0 true).noteSto ∧ u.regs = (l.foldl State.foundLun s).regs := by
    refine ⟨_, rfl, ?_⟩
    exact foldl_keeps (P := fun a : State => a.regs = (l.foldl State.foundLun s).regs) (f := fun a b => a.startJob b .erase 0) _ (fun _ _ h => h) rfl
  have h1 := u.setFlag_flag_same Reg.STO_STAT 0 true (by decide)
  have h2 := fun off (h : off ≠ Reg.STO_STAT) => u.setFlag_reg_other Reg.STO_STAT 0 off true h.symm
  rw [hu]
  generalize u.setFlag Reg.STO_STAT 0 true = v at *
  obtain ⟨f1, f2⟩ := v.noteSto_figured
  refine ⟨(f2 0 (by decide) (by decide) (by decide)).trans h1, fun c n hc hn => ?_⟩
  rw [f1 _ (lunReg_not_figure hc hn), h2 _ (by simp only [Reg.STO_CHc_LUNl_STAT, Reg.STO_STAT]; omega), State.reg_congr _ _ hregs]

/-! ### MAP_REBUILD -/

theorem exec_mapRebuild_found {l : List LunFound} {cur prev : Option CfgImage} {bad : List Nat} (hup : s.Up) (hmode : s.mode = Mode.STARTING)
    (hstep : s.step9 = 5) (hluns : (lunsUsed l).length ≥ 2) (hcore : s.sup.core0Up = true) (hkey : s.flag Reg.KEY_LC 24 = true)
    (hlost : s.imageLost 1 cur = false) :
    exec (.mapRebuild true l cur prev bad) s = .next (s.guarded ((s.mountMap l).imageStep cur prev bad)) := by
  rw [exec_mapRebuild, execMapRebuild, State.powered_run _ _ hup]
  simp only [show s.sup.inReset = false from hup, hmode, hstep, hcore, hkey, hlost, Bool.false_and, Bool.true_and, Bool.and_true, Bool.false_eq_true,
    ne_eq, not_true_eq_false, or_self, if_false, false_and, decide_eq_true_eq]
  rw [if_pos hluns]

theorem exec_mapRebuild_failed {l : List LunFound} {cur prev : Option CfgImage} {bad : List Nat} (hup : s.Up) (hmode : s.mode = Mode.STARTING)
    (hstep : s.step9 = 5) (hmin : s.minimalStart = false) : ∃ t, exec (.mapRebuild false l cur prev bad) s = .next t ∧ s.LifeEnded t 5
      ∧ s.Counted t 6 ∧ OnlyChanges [.regs, .sup] s t := by
  have hbegun : s.lifeBegun = true := by
    have h : s.fld Reg.SUP_MODE 4 4 = 5 := hstep
    simp only [State.lifeBegun, hmode, h]
    decide
  obtain ⟨hended, hcounted, hch, -⟩ := State.countedEnd_spec hup hbegun 6 5 0 0
  refine ⟨_, ?_, hended, hcounted, hch⟩
  rw [exec_mapRebuild, execMapRebuild]
  refine State.powered_next hup ?_ hch (by simp)
  simp only [show s.sup.inReset = false from hup, hmode, hstep, hmin, Bool.false_and, Bool.false_eq_true, ne_eq, not_true_eq_false, or_self,
    if_false, State.failStart, State.unconfirmedRestart]
  simp [show s.sup.inReset = false from hup]

end

/-- Settles O54: the steps of the start, one by one. -/
theorem startSteps : Obligations.StartSteps := by
  intro s
  refine ⟨fun p i => exec_resetRelease_held, fun p i hmay hdue hrec hdead hbad hpuf hbkp => exec_resetRelease_goes hmay hdue hrec hdead hbad hpuf hbkp,
    fun hload => ?_, fun l cur prev bad hup hmode hstep => ?_⟩
  · obtain ⟨hup, -, -⟩ := State.loading_iff.mp hload
    refine ⟨fun f r hwait hsrc hkey hno => ?_, fun l hwait hsrc hl => exec_firmwareLoad_none hload hwait hsrc hl,
      fun rq w hflag hpass => exec_bootData_takes hflag hup hpass,
      fun rq w f c hwait hgo hlen hno => exec_bootGo_spec hload hwait hgo hlen hno,
      fun c hwait hsrc => ⟨exec_bootWaitTimeout_early hwait, exec_bootWaitTimeout_due hload hwait hsrc⟩⟩
    obtain ⟨-, hframe⟩ := State.endLoad_frame hno (s.firmwareOk f) 2
    refine ⟨_, exec_firmwareLoad_copy hload hwait hsrc hkey hno, hframe, fun hok => ?_, fun hok hcalled hlc => ?_⟩
    · obtain ⟨o, -⟩ := State.endLoad_ok hno 2
      rw [hok]
      exact ⟨o.up.trans hup, o.core0, o.core1, o.step, o.started, o.shown, o.minimal, o.closed⟩
    · obtain ⟨f1, f2, f3, -⟩ := State.endLoad_fails hload hcalled (reason := 2) (fun h => absurd h hlc) (by decide)
      rw [hok]
      exact ⟨f1, f2, f3⟩
  · refine ⟨fun hluns hcore hkey hlost => ?_, exec_mapRebuild_failed hup hmode hstep⟩
    obtain ⟨m1, m2⟩ := s.mountMap_spec l
    refine ⟨exec_mapRebuild_found hup hmode hstep hluns hcore hkey hlost, m1, fun f hf hc hl hin hone => ?_⟩
    rw [State.fld_congr (m2 _ _ hc hl)]
    exact State.foundLuns_shows hin ⟨hc, hl⟩ hone (.inl hf)

end Sys2Proof.Machine

/-! PROOFS. Time bases: their values and rates, the edges they skip, their synchronisation (R452 to R457). -/

namespace Sys2Proof.Machine

-- One declaration after the other: the stacks of parallel elaboration would count against the memory limit of the check.
set_option Elab.async false

section
variable {s t : State} {n m : Nat}

theorem State.tb_congr (h : t.tbs = s.tbs) (n : Nat) : t.tb n = s.tb n := by
  rw [State.tb, State.tb, h]

theorem State.setTb_tb (h4 : s.tbs.length = 4) (hn : n < 4) (b : TimeBase) (m : Nat) : (s.setTb n b).tb m = if m = n then b else s.tb m := by
  simp only [State.tb, State.setTb, List.getD_eq_getElem?_getD, List.getElem?_set, h4, hn, if_true, eq_comm (a := n)]
  split <;> rfl

theorem State.setTb_onlyChanges (s : State) (n : Nat) (b : TimeBase) : OnlyChanges [.tbs] s (s.setTb n b) := by
  simp [State.setTb, onlyChanges_iff]

theorem State.setTb_length (s : State) (n : Nat) (b : TimeBase) : (s.setTb n b).tbs.length = s.tbs.length := List.length_set

/-- A base's new rate (R454). -/
theorem State.setRate_spec (h4 : s.tbs.length = 4) (hn : n < 4) (r : Int) : ((s.setRate n r).tb n).rate = clampInt (-32768000) 32768000 r
    ∧ ((s.setRate n r).tb n).time = (s.tb n).time ∧ (∀ m, m ≠ n → (s.setRate n r).tb m = s.tb m)
    ∧ (s.setRate n r).num (Reg.NTU_TBn_RATE n) = unsigned 32 (clampInt (-32768000) 32768000 r)
    ∧ OnlyChanges [.regs, .tbs] s (s.setRate n r) ∧ OnlyRegs [Reg.NTU_TBn_RATE n] s (s.setRate n r) := by
  unfold State.setRate
  simp only
  generalize clampInt (-32768000) 32768000 r = q
  have h1 := State.setTb_tb h4 hn { s.tb n with rate := q }
  have h2 := s.setTb_onlyChanges n { s.tb n with rate := q }
  generalize s.setTb n { s.tb n with rate := q } = u at *
  have g1 := u.setNum_onlyChanges (Reg.NTU_TBn_RATE n) (unsigned 32 q)
  have g2 := u.setNum_num_same (Reg.NTU_TBn_RATE n) (unsigned 32 q)
  have g3 : OnlyRegs [Reg.NTU_TBn_RATE n] u (u.setNum (Reg.NTU_TBn_RATE n) (unsigned 32 q)) := (OnlyRegs.refl _ u).setNum
  generalize u.setNum (Reg.NTU_TBn_RATE n) (unsigned 32 q) = v at *
  have htb : ∀ m, v.tb m = if m = n then { s.tb n with rate := q } else s.tb m := fun m => (State.tb_congr (g1.2.2 .tbs (by simp)) m).trans (h1 m)
  refine ⟨by rw [htb n, if_pos rfl], by rw [htb n, if_pos rfl], fun m hm => by rw [htb m, if_neg hm], g2.trans (Nat.mod_eq_of_lt (unsigned_lt _)),
    (h2.mono (by simp)).trans (g1.mono (by simp)), (OnlyRegs.of_regs_eq (h2.2.2 .regs (by simp))).trans g3⟩

theorem State.withNtu_only (s : State) (y : Ntu) : OnlyChanges [.ntu] s { s with ntu := y } := by
  simp [onlyChanges_iff]

theorem State.putServo_onlyChanges (s : State) (n : Nat) (v : Servo) : OnlyChanges [.ntu] s (s.putServo n v) := s.withNtu_only _

/-- SYNC of a base (R454, R455). -/
theorem State.setSync_frame (s : State) (n : Nat) (on : Bool) : OnlyChanges [.regs, .out] s (s.setSync n on)
    ∧ OnlyRegs (Reg.NTU_TBn_STAT n :: irqRegs Blk.NTU) s (s.setSync n on) := by
  unfold State.setSync
  split
  · exact ⟨.refl _ s, .refl _ s⟩
  · simp only
    have h1 := s.setFlag_onlyChanges (Reg.NTU_TBn_STAT n) 1 on
    have h2 : OnlyRegs (Reg.NTU_TBn_STAT n :: irqRegs Blk.NTU) s (s.setFlag (Reg.NTU_TBn_STAT n) 1 on) := (OnlyRegs.refl _ s).setFlag
    generalize s.setFlag (Reg.NTU_TBn_STAT n) 1 on = a at *
    have g1 := a.raiseIrq_onlyChanges Blk.NTU 1
    have g2 : OnlyRegs (Reg.NTU_TBn_STAT n :: irqRegs Blk.NTU) a (a.raiseIrq Blk.NTU 1) := (a.raiseIrq_onlyRegs Blk.NTU 1).mono (by simp)
    generalize a.raiseIrq Blk.NTU 1 = b at *
    split
    · exact ⟨(h1.mono (by simp)).trans (g1.trans ((b.setFlag_onlyChanges _ _ _).mono (by simp))),
        (h2.trans g2).trans ((OnlyRegs.refl _ b).setFlag)⟩
    · exact ⟨(h1.mono (by simp)).trans g1, h2.trans g2⟩

theorem State.judgeSync_onlyChanges (s : State) (n : Nat) (th : Int) : OnlyChanges [.regs, .out, .ntu] s (s.judgeSync n th) := by
  obtain ⟨v, hv⟩ : ∃ v : Servo, s.judgeSync n th = if (s.putServo n v).flag (Reg.NTU_TBn_STAT n) 1 then
        (if 4 ≤ v.outRun then (s.putServo n v).setSync n false else s.putServo n v)
      else if 16 ≤ v.inRun then (s.putServo n v).setSync n true else s.putServo n v := ⟨_, rfl⟩
  have hput := (s.putServo_onlyChanges n v).mono (qs := [.regs, .out, .ntu]) (by simp)
  rw [hv]
  generalize s.putServo n v = a at *
  have hsync : ∀ on, OnlyChanges [.regs, .out, .ntu] a (a.setSync n on) := fun on => by
    obtain ⟨h, -⟩ := a.setSync_frame n on
    exact h.mono (by simp)
  split
  · split
    · exact hput.trans (hsync _)
    · exact hput
  · split
    · exact hput.trans (hsync _)
    · exact hput

/-- The edges that a step passed are skipped: only generators show it (R463). -/
theorem State.skipEdges_frame (s : State) (n : Nat) : OnlyChanges [.regs, .out, .ntu] s (s.skipEdges n)
    ∧ ∀ off, off < 0x142000 → off ∉ irqRegs Blk.NTU → (s.skipEdges n).reg off = s.reg off := by
  have hset : ∀ (a : State) g k, OnlyChanges [.regs, .out, .ntu] a ((a.setPgIndex g k).raiseIrq Blk.NTU 6)
      ∧ ∀ off, off < 0x142000 → off ∉ irqRegs Blk.NTU → ((a.setPgIndex g k).raiseIrq Blk.NTU 6).reg off = a.reg off := by
    intro a g k
    have h1 : OnlyChanges [.regs, .ntu] a (a.setPgIndex g k) := by simp [State.setPgIndex, onlyChanges_iff]
    refine ⟨(h1.mono (by simp)).trans ((State.raiseIrq_onlyChanges _ _ _).mono (by simp)), fun off h hirq => ?_⟩
    refine (State.raiseIrq_onlyRegs _ _ _ off hirq).trans ?_
    refine (State.reg_congr (a.setNum (Reg.NTU_PGg_INDEX g) k) _ rfl off).trans (State.setNum_reg_other _ _ _ _ ?_)
    simp only [Reg.NTU_PGg_INDEX]
    omega
  unfold State.skipEdges
  refine ⟨State.forN_onlyChanges 8 fun a g => ?_, fun off h hirq => s.forN_view_of_keeps (fun a => a.reg off) 8 _ fun a g _ => ?_⟩
  · simp only
    split
    · exact .refl _ a
    · exact (hset a g _).1
  · simp only
    split
    · rfl
    · exact (hset a g _).2 off h hirq

/-- A base that nothing follows takes a value (R457). -/
theorem State.placeTb_spec (h4 : s.tbs.length = 4) (hn : n < 4) (hfree : n = 3 ∨ s.tbSource 3 ≠ 2) (time : Nat) :
    (s.placeTb n time).tb n = { s.tb n with time := time } ∧ (∀ m, m ≠ n → (s.placeTb n time).tb m = s.tb m)
    ∧ (s.placeTb n time).tbs.length = 4 ∧ OnlyChanges [.regs, .out, .ntu, .tbs] s (s.placeTb n time)
    ∧ ∀ off, off < 0x142000 → off ∉ irqRegs Blk.NTU → (s.placeTb n time).reg off = s.reg off := by
  have h1 := State.setTb_tb h4 hn { s.tb n with time := time }
  have h2 := s.setTb_onlyChanges n { s.tb n with time := time }
  have h3 := (s.setTb_length n { s.tb n with time := time }).trans h4
  have hsrc : (s.setTb n { s.tb n with time := time }).tbSource 3 = s.tbSource 3 := rfl
  unfold State.placeTb
  simp only
  rw [hsrc]
  generalize s.setTb n { s.tb n with time := time } = u at *
  rw [if_neg (by rintro ⟨hne, hs, -⟩; exact hfree.elim (fun h => hne h) fun h => h hs)]
  obtain ⟨g1, g2⟩ := u.skipEdges_frame n
  have htbs : (u.skipEdges n).tbs = u.tbs := g1.2.2 .tbs (by simp)
  generalize u.skipEdges n = v at *
  refine ⟨by rw [State.tb_congr htbs, h1, if_pos rfl], fun m hm => by rw [State.tb_congr htbs, h1, if_neg hm], by rw [htbs, h3],
    (h2.mono (by simp)).trans (g1.mono (by simp)), fun off h hirq => (g2 off h hirq).trans (State.reg_congr _ _ (h2.2.2 .regs (by simp)) off)⟩

end

end Sys2Proof.Machine

/-! PROOFS. NTU: following, holdover, its operations and its pulse generators (R455 to R457, R462, R463, R467). -/

namespace Sys2Proof.Machine

-- One declaration after the other: the stacks of parallel elaboration would count against the memory limit of the check.
set_option Elab.async false

section
variable {s t : State} {n k g : Nat} {x : Slot}

/-! ### Following and holdover -/

theorem exec_followUpdate_tb1 {r : Int} (hup : s.Up) (h4 : s.tbs.length = 4) (hsrst : s.inSrst Blk.NTU = false) (hsrc : s.tbSource 1 = 2)
    (hsync : s.flag (Reg.NTU_TBn_STAT 0) 1 = true) (hfirst : tfind? s.ntu.follow 1 = none)
    (hr : r = clampInt (-32768000) 32768000 ((s.tb 1).rate + clampInt (-819) 819 ((s.tb 0).rate - (s.tb 1).rate))) :
    ∃ t, exec (.followUpdate 1) s = .next t ∧ (t.tb 1).rate = r ∧ (t.tb 1).time = (s.tb 1).time ∧ t.tb 0 = s.tb 0
        ∧ t.num (Reg.NTU_TBn_RATE 1) = unsigned 32 r ∧ tfind? t.ntu.follow 1 = some s.clk
        ∧ OnlyChanges [.regs, .tbs, .ntu] s t ∧ OnlyRegs [Reg.NTU_TBn_RATE 1] s t := by
  obtain ⟨u, hu, htbs, hregs, hfol, hch⟩ : ∃ u : State, { s with ntu := { s.ntu with follow := tput s.ntu.follow 1 s.clk } } = u ∧ u.tbs = s.tbs
      ∧ u.regs = s.regs ∧ tfind? u.ntu.follow 1 = some s.clk ∧ OnlyChanges [.ntu] s u :=
    ⟨_, rfl, rfl, rfl, (tfind?_tput s.ntu.follow 1 1 s.clk).trans (if_pos rfl), s.withNtu_only _⟩
  obtain ⟨h1, h2, h3, h5, h6, h7⟩ := State.setRate_spec (s := u) (n := 1) (by rw [htbs, h4]) (by decide)
    ((u.tb 1).rate + clampInt (-819) 819 ((u.tb 0).rate - (u.tb 1).rate))
  have hall : OnlyChanges [.regs, .tbs, .ntu] s _ := (hch.mono (by simp)).trans (h6.mono (by simp))
  have hflag : u.flag (Reg.NTU_TBn_STAT 0) 1 = true := (State.flag_congr _ _ _ _ (State.reg_congr _ _ hregs _)).trans hsync
  refine ⟨_, ?_, ?_, ?_, ?_, ?_, ?_, hall, (OnlyRegs.of_regs_eq hregs).trans h7⟩
  · rw [exec_followUpdate, execFollowUpdate]
    refine State.powered_next hup ?_ hall (by simp)
    simp only [hsrc, hsrst, hfirst, hu, hflag, Bool.not_true, Bool.false_eq_true, or_self, ne_eq, not_true_eq_false, if_false, if_true]
  · rw [h1, hr, State.tb_congr htbs, State.tb_congr htbs]
  · rw [h2, State.tb_congr htbs]
  · rw [h3 0 (by decide), State.tb_congr htbs]
  · rw [h5, hr, State.tb_congr htbs, State.tb_congr htbs]
  · rw [h6.2.2 .ntu (by simp), hfol]

theorem exec_followUpdate_tb3 {m : Nat} (hup : s.Up) (h4 : s.tbs.length = 4) (hsrst : s.inSrst Blk.NTU = false) (hsrc : s.tbSource 3 = 2)
    (hm : s.fld (Reg.NTU_TBn_CFG 3) 2 2 = m) (hm3 : m ≠ 3) (hdue : ∀ c, tfind? s.ntu.follow 3 = some c → c + 125 * msClk ≤ s.clk) :
    ∃ t, exec (.followUpdate 3) s = .next t ∧ (t.tb 3).time = (((s.tb m).time : Int) + s.ntu.tb3Off).toNat
      ∧ (t.tb 3).rate = clampInt (-32768000) 32768000 (s.tb m).rate ∧ t.tb m = s.tb m ∧ OnlyChanges [.regs, .out, .ntu, .tbs] s t := by
  obtain ⟨u, hu, htbs, hregs, hch⟩ : ∃ u : State, { s with ntu := { s.ntu with follow := tput s.ntu.follow 3 s.clk } } = u ∧ u.tbs = s.tbs
      ∧ u.regs = s.regs ∧ OnlyChanges [.ntu] s u := ⟨_, rfl, rfl, rfl, s.withNtu_only _⟩
  generalize hw : (((s.tb m).time : Int) + s.ntu.tb3Off).toNat = w
  generalize hth : (((s.tb 3).time : Int) - (w : Int)) / (nsUnit : Nat) = th
  have hrun : ∀ t, (((u.setNum (Reg.NTU_TBn_OFFSET 3) (unsigned 32 th)).placeTb 3 w).setRate 3 (s.tb m).rate).judgeSync 3 th = t →
      OnlyChanges [.regs, .out, .ntu, .tbs] s t → exec (.followUpdate 3) s = .next t := by
    intro t ht hall
    rw [exec_followUpdate, execFollowUpdate]
    refine State.powered_next hup ?_ hall (by simp)
    simp only [hu]
    rw [if_neg (by
        cases hf : tfind? s.ntu.follow 3 with
        | none => simp [hsrc, hsrst]
        | some c => simp [hsrc, hsrst, hdue c hf]), if_neg (by decide), if_pos trivial, State.fld_congr (State.reg_congr _ _ hregs _), hm,
      State.tb_congr htbs, State.tb_congr htbs, hw, hth]
    exact ht
  have a1 := u.setNum_onlyChanges (Reg.NTU_TBn_OFFSET 3) (unsigned 32 th)
  generalize u.setNum (Reg.NTU_TBn_OFFSET 3) (unsigned 32 th) = a at *
  have hat : a.tbs = s.tbs := (a1.2.2 .tbs (by simp)).trans htbs
  obtain ⟨b1, b2, b3, b4, -⟩ := State.placeTb_spec (s := a) (n := 3) (by rw [hat, h4]) (by decide) (.inl rfl) w
  generalize a.placeTb 3 w = b at *
  obtain ⟨c1, c2, c3, -, c5, -⟩ := State.setRate_spec (s := b) (n := 3) b3 (by decide) (s.tb m).rate
  generalize b.setRate 3 (s.tb m).rate = c at *
  have d1 := c.judgeSync_onlyChanges 3 th
  generalize c.judgeSync 3 th = d at *
  have hd : d.tbs = c.tbs := d1.2.2 .tbs (by simp)
  have hall : OnlyChanges [.regs, .out, .ntu, .tbs] s d := (hch.mono (by simp)).trans ((a1.mono (by simp)).trans (b4.trans ((c5.mono (by simp)).trans
    (d1.mono (by simp)))))
  refine ⟨d, hrun d rfl hall, ?_, ?_, ?_, hall⟩
  · rw [State.tb_congr hd, c2, b1]
  · rw [State.tb_congr hd, c1]
  · rw [State.tb_congr hd, c3 m hm3, b2 m hm3, State.tb_congr hat]

theorem exec_ptpHoldover_expires {b c c1 : Nat} {r : Int} (hup : s.Up) (h4 : s.tbs.length = 4) (hb : b < 3)
    (hclk : (s.servo b).syncClk = some c) (hsrc : s.tbSource b = 1) (hhold : s.flag (Reg.NTU_TBn_STAT b) 2 = false) (hlate : c + 3 * secClk ≤ s.clk)
    (hrates : (s.servo b).rates = [(c1, r)]) (halone : s.Alone) : ∃ t, exec (.ptpHoldover b) s = .next t
        ∧ t.flag (Reg.NTU_TBn_STAT b) 2 = true ∧ t.flag (Reg.NTU_TBn_STAT b) 1 = false
        ∧ (t.tb b).rate = clampInt (-32768000) 32768000 r ∧ t.flag (Reg.IRQ_STAT Blk.NTU) 3 = true
        ∧ OnlyChanges [.regs, .out, .ntu, .tbs] s t := by
  obtain ⟨v, hrun⟩ : ∃ v : Servo, ∀ t, ((((s.setRate b r).putServo b v).setSync b false).setFlag (Reg.NTU_TBn_STAT b) 2 true).raiseIrq Blk.NTU 3 = t →
      OnlyChanges [.regs, .out, .ntu, .tbs] s t → exec (.ptpHoldover b) s = .next t := by
    refine ⟨{ s.servo b with inRun := 0, outRun := 0, sync := none, rates := [(c1, r)], syncClk := some c }, fun t ht hall => ?_⟩
    rw [exec_ptpHoldover, execPtpHoldover]
    refine State.powered_next hup ?_ hall (by simp)
    have hmean : List.foldl (fun x1 x2 : Int => x1 + x2) 0 [r] / ((1 : Nat) : Int) = r := by simp
    simp only [hclk, hsrc, hhold, hrates, State.yielding_of_alone halone]
    rw [if_neg (by simp; omega)]
    simp only [List.map_cons, List.map_nil, List.length_cons, List.length_nil, Nat.zero_add, hmean, List.cons_ne_nil, if_false]
    exact ht
  obtain ⟨a1, -, -, -, a5, a6⟩ := State.setRate_spec (s := s) (n := b) h4 (by omega) r
  generalize s.setRate b r = a at *
  have p1 := a.putServo_onlyChanges b v
  generalize a.putServo b v = p at *
  obtain ⟨d1, d2⟩ := p.setSync_frame b false
  have d3 : (p.setSync b false).flag (Reg.NTU_TBn_STAT b) 1 = false := by
    unfold State.setSync
    split
    · next h => exact h
    · simp only [Bool.false_eq_true, if_false]
      rw [State.flag_congr _ _ _ _ (State.raiseIrq_onlyRegs _ _ _ _ ?_), State.setFlag_flag_same _ _ _ _ (by decide)]
      interval_cases b <;> decide
  generalize p.setSync b false = d at *
  have e1 := d.setFlag_flag_same (Reg.NTU_TBn_STAT b) 2 true (by decide)
  have e2 := d.setFlag_flag_other (Reg.NTU_TBn_STAT b) 2 1 true (by decide) (by decide)
  have e3 := d.setFlag_onlyChanges (Reg.NTU_TBn_STAT b) 2 true
  generalize d.setFlag (Reg.NTU_TBn_STAT b) 2 true = e at *
  have i1 := e.raiseIrq_onlyChanges Blk.NTU 3
  have i2 : (e.raiseIrq Blk.NTU 3).reg (Reg.NTU_TBn_STAT b) = e.reg (Reg.NTU_TBn_STAT b) :=
    e.raiseIrq_onlyRegs Blk.NTU 3 _ (by interval_cases b <;> decide)
  have i3 := e.raiseIrq_flag_same Blk.NTU 3 (by decide)
  generalize e.raiseIrq Blk.NTU 3 = t at *
  have hrest : OnlyChanges [.regs, .out, .ntu] a t := (p1.mono (by simp)).trans ((d1.mono (by simp)).trans ((e3.mono (by simp)).trans (i1.mono (by simp))))
  have hall : OnlyChanges [.regs, .out, .ntu, .tbs] s t := (a5.mono (by simp)).trans (hrest.mono (by simp))
  refine ⟨t, hrun t rfl hall, (State.flag_congr _ _ _ _ i2).trans e1, (State.flag_congr _ _ _ _ i2).trans (e2.trans d3), ?_, i3, hall⟩
  rw [State.tb_congr (hrest.2.2 .tbs (by simp)), a1]

/-! ### Edges -/

theorem exec_ntuPgEdge_pad (hup : s.Up) (hg : g < 8) (hon : s.flag (Reg.NTU_PGg_CFG g) 0 = true)
    (hdue : s.pgEdge g ≤ (s.tb (s.fld (Reg.NTU_PGg_CFG g) 1 2)).total) (hpad : s.fld (Reg.NTU_PGg_CFG g) 4 4 ≤ 3) :
    ∃ t, exec (.ntuPgEdge g) s = .next t ∧ t.num (Reg.NTU_PGg_INDEX g) = (s.num (Reg.NTU_PGg_INDEX g) + 1) % 2 ^ 32
        ∧ t.out = s.out ++ [.padPulse (0x1000 + s.fld (Reg.NTU_PGg_CFG g) 4 4) (s.num (Reg.NTU_PGg_WIDTH g))
          (!s.flag (Reg.NTU_PGg_CFG g) 8)]
        ∧ OnlyChanges [.regs, .out, .ntu] s t ∧ OnlyRegs [Reg.NTU_PGg_INDEX g] s t := by
  generalize ho : Output.padPulse (0x1000 + s.fld (Reg.NTU_PGg_CFG g) 4 4) (s.num (Reg.NTU_PGg_WIDTH g)) (!s.flag (Reg.NTU_PGg_CFG g) 8) = o
  obtain ⟨u, hu, a1, a2, a3⟩ : ∃ u, s.setPgIndex g (s.num (Reg.NTU_PGg_INDEX g) + 1) = u ∧ u.out = s.out
      ∧ u.regs = (s.setNum (Reg.NTU_PGg_INDEX g) (s.num (Reg.NTU_PGg_INDEX g) + 1)).regs ∧ OnlyChanges [.regs, .ntu] s u :=
    ⟨_, rfl, rfl, rfl, by simp [State.setPgIndex, onlyChanges_iff]⟩
  have hregs : OnlyRegs [Reg.NTU_PGg_INDEX g] s u := (OnlyRegs.refl _ s).setNum.trans (OnlyRegs.of_regs_eq a2)
  have hnum : u.num (Reg.NTU_PGg_INDEX g) = (s.num (Reg.NTU_PGg_INDEX g) + 1) % 2 ^ 32 :=
    (State.num_congr (State.reg_congr _ _ a2 _)).trans (s.setNum_num_same _ _)
  have hall : OnlyChanges [.regs, .out, .ntu] s (u.emit o) := (a3.mono (by simp)).trans ((u.emit_onlyChanges o).mono (by simp))
  refine ⟨u.emit o, ?_, hnum, by rw [← a1]; rfl, hall, hregs.trans (OnlyRegs.of_regs_eq rfl)⟩
  rw [exec_ntuPgEdge, execNtuPgEdge]
  refine State.powered_next hup ?_ hall (by simp)
  simp only [hon, hu, ho]
  rw [if_neg (by simp; omega), if_pos hpad]

end

end Sys2Proof.Machine

/-! PROOFS. NTU's operations (R462, R463, R467). -/

namespace Sys2Proof.Machine

-- One declaration after the other: the stacks of parallel elaboration would count against the memory limit of the check.
set_option Elab.async false

section
variable {s t : State} {n k g : Nat} {x : Slot}

/-! ### TB_SET and TB_ADJ -/

theorem exec_tbSet_locked (hup : s.Up) (hserv : s.Serves k Blk.NTU) (hx : s.activeOp k Blk.NTU 1 = some x) (hn : paramField x.param 0 1 = n)
    (hn3 : n ≤ 3) (hlock : s.tbLocked n = true) : ∃ t, exec (.tbSet k) s = .next t ∧ t.Ended k St.FAIL_DENIED 0 ∧ OnlyChanges [.opt, .scn] s t := by
  rw [exec_tbSet, execTbSet]
  refine State.powered_decides hup hserv (by decide) ?_
  simp only [hx, hn]
  rw [if_neg (by omega), if_pos hlock]

theorem State.adjOf_of_empty (h : s.ntu.adj = []) (n : Nat) : s.adjOf n = none := by
  rw [State.adjOf, h]
  rfl

theorem exec_tbAdj_locked (hup : s.Up) (hserv : s.Serves k Blk.NTU) (hx : s.activeOp k Blk.NTU 2 = some x) (hn : paramField x.param 0 1 = n)
    (hn3 : n ≤ 3) (hlock : s.tbLocked n = true) (hadj : s.ntu.adj = []) :
    ∃ t, exec (.tbAdj k) s = .next t ∧ t.Ended k St.FAIL_DENIED 0 ∧ OnlyChanges [.opt, .scn] s t := by
  rw [exec_tbAdj, execTbAdj]
  refine State.powered_decides hup hserv (by decide) ?_
  simp only [hx, hn, hadj, List.any_nil, Bool.false_eq_true, if_false]
  rw [if_neg (by omega), if_pos hlock]

theorem ntuStat_kept (hn : n ≤ 3) : Reg.NTU_TBn_STAT n ∉ irqRegs Blk.NTU ∧ Reg.NTU_TBn_STEP_CNT n ∉ irqRegs Blk.NTU ∧ Reg.NTU_TBn_STAT n < 0x142000
    ∧ Reg.NTU_TBn_STEP_CNT n < 0x142000 := by
  have table : ∀ m : Fin 4, Reg.NTU_TBn_STAT m ∉ irqRegs Blk.NTU ∧ Reg.NTU_TBn_STEP_CNT m ∉ irqRegs Blk.NTU ∧ Reg.NTU_TBn_STAT m < 0x142000
    ∧ Reg.NTU_TBn_STEP_CNT m < 0x142000 := by decide
  exact table ⟨n, by omega⟩

theorem exec_tbSet_steps (hup : s.Up) (h4 : s.tbs.length = 4) (hserv : s.Serves k Blk.NTU) (hx : s.activeOp k Blk.NTU 1 = some x)
    (hn : paramField x.param 0 1 = n) (hn3 : n ≤ 3) (hfree : s.tbLocked n = false) (hsrc : s.tbSource 3 ≠ 2) :
    ∃ t, exec (.tbSet k) s = .next t
        ∧ t.Ended k St.OK 0 ∧ (t.tb n).time = (paramField x.param 8 8 * 1000000000 + paramField x.param 16 4) * nsUnit
        ∧ t.flag (Reg.NTU_TBn_STAT n) 0 = true
        ∧ t.num (Reg.NTU_TBn_STEP_CNT n) = Nat.min (s.num (Reg.NTU_TBn_STEP_CNT n) + 1) (2 ^ 32 - 1)
        ∧ OnlyChanges [.regs, .out, .opt, .scn, .ntu, .tbs] s t := by
  generalize htime : (paramField x.param 8 8 * 1000000000 + paramField x.param 16 4) * nsUnit = time
  have hrun : ∀ t, (((s.placeTb n time).setFlag (Reg.NTU_TBn_STAT n) 0 true).countStep n).decideOp k St.OK 0 = t →
      OnlyChanges [.regs, .out, .opt, .scn, .ntu, .tbs] s t → exec (.tbSet k) s = .next t := fun t ht hall => by
    rw [exec_tbSet, execTbSet]
    refine State.powered_next hup ?_ hall (by simp)
    simp only [hx, hn, hfree, htime, Bool.false_eq_true, if_false, hsrc, and_false]
    rw [if_neg (by omega)]
    exact ht
  obtain ⟨q1, q2, q3, q4⟩ := ntuStat_kept hn3
  obtain ⟨a1, -, -, a4, a5⟩ := State.placeTb_spec (s := s) h4 (by omega : n < 4) (.inr hsrc) time
  have acnt := a5 _ q4 q2
  generalize s.placeTb n time = a at *
  have b1 := a.setFlag_flag_same (Reg.NTU_TBn_STAT n) 0 true (by decide)
  have b2 := a.setFlag_onlyChanges (Reg.NTU_TBn_STAT n) 0 true
  have b3 := a.setFlag_reg_other (Reg.NTU_TBn_STAT n) 0 (Reg.NTU_TBn_STEP_CNT n) true (by simp only [Reg.NTU_TBn_STAT, Reg.NTU_TBn_STEP_CNT]; omega)
  generalize a.setFlag (Reg.NTU_TBn_STAT n) 0 true = b at *
  unfold State.countStep at hrun
  have c1 := b.satInc_num (Reg.NTU_TBn_STEP_CNT n) 1
  have c2 := b.satInc_onlyChanges (Reg.NTU_TBn_STEP_CNT n) 0 32 1
  have c3 := b.satInc_reg_other (Reg.NTU_TBn_STEP_CNT n) 0 32 1 (Reg.NTU_TBn_STAT n) (by simp only [Reg.NTU_TBn_STAT, Reg.NTU_TBn_STEP_CNT]; omega)
  generalize b.satInc (Reg.NTU_TBn_STEP_CNT n) 0 32 1 = c at *
  have d1 := c.raiseIrq_onlyChanges Blk.NTU 2
  have d2 := c.raiseIrq_onlyRegs Blk.NTU 2
  generalize c.raiseIrq Blk.NTU 2 = d at *
  have hregs : OnlyChanges [.regs, .out] a d := (b2.mono (by simp)).trans ((c2.mono (by simp)).trans d1)
  have hch : OnlyChanges [.regs, .out, .ntu, .tbs] s d := a4.trans (hregs.mono (by simp))
  have hserv2 : d.Serves k Blk.NTU := hserv.frame hch (by simp)
  have hend := hserv2.onlyChanges (by decide) St.OK 0
  have hreg := hserv2.reg (by decide) St.OK 0
  have hall : OnlyChanges [.regs, .out, .opt, .scn, .ntu, .tbs] s _ := (hch.mono (by simp)).trans (hend.mono (by simp))
  refine ⟨_, hrun _ rfl hall, hserv2.ended _ _, ?_, ?_, ?_, hall⟩
  · rw [State.tb_congr (hend.2.2 .tbs (by simp)), State.tb_congr (hregs.2.2 .tbs (by simp)), a1]
  · exact (State.flag_congr _ _ _ _ ((hreg _).trans ((d2 _ q1).trans c3))).trans b1
  · rw [State.num_congr ((hreg _).trans (d2 _ q2)), c1, State.num_congr (b3.trans acnt)]

theorem exec_tbAdj_zero (hup : s.Up) (hserv : s.Serves k Blk.NTU) (hx : s.activeOp k Blk.NTU 2 = some x) (hn : paramField x.param 0 1 = n)
    (hn3 : n ≤ 3) (hfree : s.tbLocked n = false) (hadj : s.ntu.adj = []) (hd : signed 32 (paramField x.param 4 4) = 0) :
    ∃ t, exec (.tbAdj k) s = .next t ∧ t.Ended k St.OK 0 ∧ OnlyChanges [.opt, .scn] s t := by
  rw [exec_tbAdj, execTbAdj]
  refine State.powered_decides hup hserv (by decide) ?_
  simp only [hx, hn, hadj, hfree, hd, State.adjOf_of_empty hadj, List.any_nil, Bool.false_eq_true, if_false, Option.isSome_none, if_true]
  rw [if_neg (by omega)]

theorem exec_tbAdj_slews {d r : Int} (hup : s.Up) (h4 : s.tbs.length = 4) (hx : s.activeOp k Blk.NTU 2 = some x) (hn : paramField x.param 0 1 = n)
    (hn3 : n ≤ 3) (hfree : s.tbLocked n = false) (hadj : s.ntu.adj = []) (hd : signed 32 (paramField x.param 4 4) = d) (hd0 : d ≠ 0)
    (hr : r = clampInt (-32768000) 32768000 ((s.tb n).rate + (if d < 0 then -32768000 else 32768000))) :
    ∃ t, exec (.tbAdj k) s = .next t ∧ (t.tb n).rate = r ∧ t.slot k = s.slot k
            ∧ t.ntu.adj = [⟨k, x.ord, n, s.clk + d.natAbs * 1600, r - (s.tb n).rate⟩]
            ∧ OnlyChanges [.regs, .ntu, .tbs] s t ∧ OnlyRegs [Reg.NTU_TBn_RATE n] s t := by
  obtain ⟨a1, -, -, -, a5, a6⟩ := State.setRate_spec (s := s) h4 (by omega : n < 4) ((s.tb n).rate + (if d < 0 then -32768000 else 32768000))
  have hdrop : s.dropAdj = s := by simp only [State.dropAdj, hadj, List.filter_nil, List.foldl_nil]
  have hrun : ∀ a t : State, s.setRate n ((s.tb n).rate + (if d < 0 then -32768000 else 32768000)) = a →
      { a with ntu := { a.ntu with adj := a.ntu.adj ++ [⟨k, x.ord, n, s.clk + d.natAbs * 1600, (a.tb n).rate - (s.tb n).rate⟩] } } = t →
      OnlyChanges [.regs, .ntu, .tbs] s t → exec (.tbAdj k) s = .next t := fun a t ha ht hall => by
    rw [exec_tbAdj, execTbAdj]
    refine State.powered_next hup ?_ hall (by simp)
    simp only [hx, hn, hadj, hfree, hd, State.adjOf_of_empty hadj, List.any_nil, Bool.false_eq_true, if_false, Option.isSome_none, hd0, hdrop, ha, ht]
    rw [if_neg (by omega)]
  rw [← hr] at a1
  generalize s.setRate n ((s.tb n).rate + (if d < 0 then -32768000 else 32768000)) = a at *
  obtain ⟨t, ht, b1, b2, b3, b4⟩ : ∃ t : State, { a with ntu := { a.ntu with
      adj := a.ntu.adj ++ [⟨k, x.ord, n, s.clk + d.natAbs * 1600, (a.tb n).rate - (s.tb n).rate⟩] } } = t
      ∧ t.ntu.adj = a.ntu.adj ++ [⟨k, x.ord, n, s.clk + d.natAbs * 1600, (a.tb n).rate - (s.tb n).rate⟩] ∧ t.tbs = a.tbs ∧ t.regs = a.regs
      ∧ OnlyChanges [.ntu] a t := ⟨_, rfl, rfl, rfl, rfl, a.withNtu_only _⟩
  have hall : OnlyChanges [.regs, .ntu, .tbs] s t := (a5.mono (by simp)).trans (b4.mono (by simp))
  refine ⟨t, hrun a t rfl ht hall, by rw [State.tb_congr b2, a1], State.slot_congr _ _ (congrArg Opt.slots (hall.2.2 .opt (by simp))) k, ?_, hall,
    a6.trans (OnlyRegs.of_regs_eq b3)⟩
  rw [b1, a1, a5.2.2 .ntu (by simp), hadj]
  rfl

theorem exec_tbAdjComplete_due {a : TbAdj} (hup : s.Up) (h4 : s.tbs.length = 4) (hserv : s.Serves k Blk.NTU) (hadj : s.ntu.adj = [a])
    (htag : a.tag = k) (hbase : a.base < 4) (hend : a.endClk ≤ s.clk) (hord : (s.slot k).ord = a.ord) :
    ∃ t, exec (.tbAdjComplete k) s = .next t
        ∧ t.Ended k St.OK 0 ∧ t.ntu.adj = [] ∧ (t.tb a.base).rate = clampInt (-32768000) 32768000 ((s.tb a.base).rate - a.add)
        ∧ OnlyChanges [.regs, .opt, .scn, .ntu, .tbs] s t := by
  have hfind : s.ntu.adj.find? (fun e => e.tag == k) = some a := by simp [hadj, htag]
  obtain ⟨u, hu, u1, u2, u3⟩ : ∃ u : State, { s with ntu := { s.ntu with adj := s.ntu.adj.filter (fun y => y != a) } } = u ∧ u.ntu.adj = []
      ∧ u.tbs = s.tbs ∧ OnlyChanges [.ntu] s u := ⟨_, rfl, by simp [hadj], rfl, s.withNtu_only _⟩
  obtain ⟨c1, -, -, -, c5, -⟩ := State.setRate_spec (s := u) (by rw [u2, h4]) hbase ((u.tb a.base).rate - a.add)
  have hrun : ∀ t, (u.setRate a.base ((u.tb a.base).rate - a.add)).decideOp k St.OK 0 = t → OnlyChanges [.regs, .opt, .scn, .ntu, .tbs] s t →
      exec (.tbAdjComplete k) s = .next t := fun t ht hall => by
    rw [exec_tbAdjComplete, execTbAdjComplete]
    refine State.powered_next hup ?_ hall (by simp)
    simp only [hfind, State.endAdj, hu]
    rw [if_neg (by simp [hord]; omega)]
    exact ht
  rw [State.tb_congr u2] at c1 c5 hrun
  generalize u.setRate a.base ((s.tb a.base).rate - a.add) = v at *
  have hch : OnlyChanges [.regs, .ntu, .tbs] s v := (u3.mono (by simp)).trans (c5.mono (by simp))
  have hserv2 : v.Serves k Blk.NTU := hserv.frame hch (by simp)
  have hdec := hserv2.onlyChanges (by decide) St.OK 0
  have hall : OnlyChanges [.regs, .opt, .scn, .ntu, .tbs] s _ := (hch.mono (by simp)).trans (hdec.mono (by simp))
  refine ⟨_, hrun _ rfl hall, hserv2.ended _ _, ?_, ?_, hall⟩
  · rw [hdec.2.2 .ntu (by simp), c5.2.2 .ntu (by simp), u1]
  · rw [State.tb_congr (hdec.2.2 .tbs (by simp)), c1]

/-! ### Pulse generators -/

theorem exec_ntuPgEnable_held {c : Claim} {per w : Nat} (hup : s.Up) (hserv : s.Serves k Blk.NTU) (hx : s.activeOp k Blk.NTU 3 = some x)
    (hg : paramField x.param 0 1 = g) (hn : paramField x.param 1 1 = n) (htgt : paramField x.param 2 1 = 0xFF)
    (hper : paramField x.param 20 4 = per) (hw : paramField x.param 24 4 = w)
    (hg7 : g ≤ 7) (hn3 : n ≤ 3) (hper100 : 100 ≤ per) (hwlt : w < per) (hoff : s.flag (Reg.NTU_PGg_CFG g) 0 = false) (hmode : s.mode ≠ Mode.MINIMAL)
    (halone : s.Alone) (hheld : s.claimOf (0x3000 + g) = some c) :
    ∃ t, exec (.ntuPgEnable k) s = .next t ∧ t.Ended k St.FAIL_CONFLICT (conflictWord c) ∧ OnlyChanges [.opt, .scn] s t := by
  rw [exec_ntuPgEnable, execNtuPgEnable]
  refine State.powered_decides hup hserv (by decide) ?_
  have hclaim : s.claimAll ((pgResources g 0xFF).map (fun r => ⟨r, Blk.NTU, 1, g⟩)) = .error (conflictWord c) := by
    simp only [pgResources, List.map_cons, State.claimAll]
    rw [State.claim_of_held (c := ⟨0x3000 + g, Blk.NTU, 1, g⟩) hheld]
  simp only [State.yielding_of_alone halone, hx, hg, hn, htgt, hper, hw, hoff, hclaim, if_neg hmode]
  rw [if_neg (by simp; omega)]

theorem exec_ntuPgEnable_free {st per w : Nat} (hup : s.Up) (hserv : s.Serves k Blk.NTU) (hx : s.activeOp k Blk.NTU 3 = some x)
    (hg : paramField x.param 0 1 = g) (hn : paramField x.param 1 1 = n) (htgt : paramField x.param 2 1 = 0xFF) (hlev : paramField x.param 3 1 = 0)
    (hst : paramField x.param 8 8 * 1000000000 + paramField x.param 16 4 = st) (hper : paramField x.param 20 4 = per) (hw : paramField x.param 24 4 = w)
    (hg7 : g ≤ 7) (hn3 : n ≤ 3) (hper100 : 100 ≤ per) (hwlt : w < per) (hoff : s.flag (Reg.NTU_PGg_CFG g) 0 = false) (hmode : s.mode ≠ Mode.MINIMAL)
    (halone : s.Alone) (hfree : s.claimOf (0x3000 + g) = none) (hlt : (s.tb n).total.toNat < st) :
    ∃ t, exec (.ntuPgEnable k) s = .next t ∧ t.Ended k St.OK 0
        ∧ t.claims = s.claims ++ [⟨0x3000 + g, Blk.NTU, 1, g⟩] ∧ t.num (Reg.NTU_PGg_CFG g) = 1 + n * 2 + 15 * 16
        ∧ t.num (Reg.NTU_PGg_PERIOD g) = per ∧ t.num (Reg.NTU_PGg_WIDTH g) = w ∧ t.num (Reg.NTU_PGg_INDEX g) = 0
        ∧ t.pgEdge g = st ∧ OnlyChanges [.regs, .claims, .opt, .scn, .ntu] s t := by
  have hperlt : per < 2 ^ 32 := hper ▸ paramField_lt x.param 20 4
  have hwlt32 : w < 2 ^ 32 := by omega
  obtain ⟨u, hu, u1, u2, u3, u4⟩ : ∃ u : State, s.claim ⟨0x3000 + g, Blk.NTU, 1, g⟩ = .ok u ∧ u.claims = s.claims ++ [⟨0x3000 + g, Blk.NTU, 1, g⟩]
      ∧ u.tbs = s.tbs ∧ u.regs = s.regs ∧ OnlyChanges [.claims] s u :=
    ⟨_, State.claim_of_free (c := ⟨0x3000 + g, Blk.NTU, 1, g⟩) hfree, rfl, rfl, rfl, s.withClaims_onlyChanges _⟩
  have hclaim : s.claimAll ((pgResources g 0xFF).map (fun r => ⟨r, Blk.NTU, 1, g⟩)) = .ok u := by
    simp only [pgResources, List.map_cons, State.claimAll, hu]
    rfl
  have hcfg : 1 + n * 2 + 255 % 16 * 16 + 0 % 2 * 256 = 1 + n * 2 + 15 * 16 := by omega
  have hrun : ∀ a b t, (((((u.setNum (Reg.NTU_PGg_CFG g) (1 + n * 2 + 15 * 16)).setNum (Reg.NTU_PGg_START_SEC g) (paramField x.param 8 4)).setNum
      (Reg.NTU_PGg_START_NS g) (paramField x.param 16 4)).setNum (Reg.NTU_PGg_PERIOD g) per).setNum (Reg.NTU_PGg_WIDTH g) w) = a →
      ({ a with ntu := { a.ntu with pgStart := tput a.ntu.pgStart g st } } : State).setPgIndex g 0 = b → b.decideOp k St.OK 0 = t →
      OnlyChanges [.regs, .claims, .opt, .scn, .ntu] s t → exec (.ntuPgEnable k) s = .next t := by
    intro a b t ha hb ht hall
    rw [exec_ntuPgEnable, execNtuPgEnable]
    refine State.powered_next hup ?_ hall (by simp)
    simp only [State.yielding_of_alone halone, hx, hg, hn, htgt, hlev, hst, hper, hw, hoff, hclaim, if_neg hmode, State.tb_congr u2, if_pos hlt,
      hcfg]
    rw [if_neg (by simp; omega), ha, hb]
    exact ht
  obtain ⟨a, ha, a1, a2, a3, a4⟩ : ∃ a, (((((u.setNum (Reg.NTU_PGg_CFG g) (1 + n * 2 + 15 * 16)).setNum (Reg.NTU_PGg_START_SEC g)
      (paramField x.param 8 4)).setNum (Reg.NTU_PGg_START_NS g) (paramField x.param 16 4)).setNum (Reg.NTU_PGg_PERIOD g) per).setNum
      (Reg.NTU_PGg_WIDTH g) w) = a ∧ a.num (Reg.NTU_PGg_CFG g) = 1 + n * 2 + 15 * 16 ∧ a.num (Reg.NTU_PGg_PERIOD g) = per
      ∧ a.num (Reg.NTU_PGg_WIDTH g) = w ∧ OnlyChanges [.regs] u a := by
    have hd : ∀ i j : Nat, i < j → j < 8 → 0x142000 + 4 * j + 32 * g ≠ 0x142000 + 4 * i + 32 * g := by omega
    refine ⟨_, rfl, ?_, ?_, (State.setNum_num_same _ _ _).trans (Nat.mod_eq_of_lt hwlt32), ?_⟩
    · rw [State.num_congr (State.setNum_reg_other _ _ _ _ (hd 0 4 (by decide) (by decide))),
        State.num_congr (State.setNum_reg_other _ _ _ _ (hd 0 3 (by decide) (by decide))),
        State.num_congr (State.setNum_reg_other _ _ _ _ (hd 0 2 (by decide) (by decide))),
        State.num_congr (State.setNum_reg_other _ _ _ _ (hd 0 1 (by decide) (by decide))), State.setNum_num_same]
      omega
    · rw [State.num_congr (State.setNum_reg_other _ _ _ _ (hd 3 4 (by decide) (by decide))), State.setNum_num_same, Nat.mod_eq_of_lt hperlt]
    · exact (u.setNum_onlyChanges _ _).trans ((State.setNum_onlyChanges _ _ _).trans ((State.setNum_onlyChanges _ _ _).trans
        ((State.setNum_onlyChanges _ _ _).trans (State.setNum_onlyChanges _ _ _))))
  obtain ⟨b, hb, b1, b2, b3⟩ : ∃ b : State, ({ a with ntu := { a.ntu with pgStart := tput a.ntu.pgStart g st } } : State).setPgIndex g 0 = b
      ∧ b.regs = (a.setNum (Reg.NTU_PGg_INDEX g) 0).regs ∧ tget (fun _ => 0) b.ntu.pgStart g = st ∧ OnlyChanges [.regs, .ntu] a b := by
    refine ⟨_, rfl, rfl, ?_, by simp [State.setPgIndex, onlyChanges_iff]⟩
    have h : ∀ (l : Tbl Nat) v, tget (fun _ => 0) (tput l g v) g = v := fun l v => (tget_tput (fun _ => 0) l g g v).trans (if_pos rfl)
    have hset : (({ a with ntu := { a.ntu with pgStart := tput a.ntu.pgStart g st } } : State).setPgIndex g 0).ntu.pgStart
        = tput (tput a.ntu.pgStart g st) g (tget (fun _ => 0) (tput a.ntu.pgStart g st) g + 0 / 2 ^ 32 * 2 ^ 32 * a.num (Reg.NTU_PGg_PERIOD g)) := rfl
    rw [hset, h, h]
    omega
  have hreg : ∀ off, off ≠ Reg.NTU_PGg_INDEX g → b.reg off = a.reg off := fun off h =>
    (State.reg_congr _ _ b1 off).trans (a.setNum_reg_other _ _ off h.symm)
  have hindex : b.num (Reg.NTU_PGg_INDEX g) = 0 := (State.num_congr (State.reg_congr _ _ b1 _)).trans (a.setNum_num_same _ _)
  have hch : OnlyChanges [.regs, .claims, .ntu] s b := (u4.mono (by simp)).trans ((a4.mono (by simp)).trans (b3.mono (by simp)))
  have hserv2 : b.Serves k Blk.NTU := hserv.frame hch (by simp)
  have hdec := hserv2.onlyChanges (by decide) St.OK 0
  have hkeep := hserv2.reg (by decide) St.OK 0
  have hall : OnlyChanges [.regs, .claims, .opt, .scn, .ntu] s _ := (hch.mono (by simp)).trans (hdec.mono (by simp))
  have hd : Reg.NTU_PGg_CFG g ≠ Reg.NTU_PGg_INDEX g ∧ Reg.NTU_PGg_PERIOD g ≠ Reg.NTU_PGg_INDEX g ∧ Reg.NTU_PGg_WIDTH g ≠ Reg.NTU_PGg_INDEX g := by
    simp only [Reg.NTU_PGg_CFG, Reg.NTU_PGg_PERIOD, Reg.NTU_PGg_WIDTH, Reg.NTU_PGg_INDEX]
    omega
  obtain ⟨d1, d2, d3⟩ := hd
  refine ⟨_, hrun a b _ ha hb rfl hall, hserv2.ended _ _, ?_, (State.num_congr ((hkeep _).trans (hreg _ d1))).trans a1,
    (State.num_congr ((hkeep _).trans (hreg _ d2))).trans a2, (State.num_congr ((hkeep _).trans (hreg _ d3))).trans a3,
    (State.num_congr (hkeep _)).trans hindex, ?_, hall⟩
  · rw [hdec.2.2 .claims (by simp), b3.2.2 .claims (by simp), a4.2.2 .claims (by simp), u1]
  · rw [State.pgEdge, State.num_congr (hkeep _), hindex, hdec.2.2 .ntu (by simp), b2, Nat.zero_mul, Nat.add_zero]

theorem exec_ntuPgDisable_running (hup : s.Up) (hserv : s.Serves k Blk.NTU) (hx : s.activeOp k Blk.NTU 4 = some x) (hg : paramField x.param 0 1 = g)
    (hg7 : g ≤ 7) (hon : s.flag (Reg.NTU_PGg_CFG g) 0 = true) : ∃ t, exec (.ntuPgDisable k) s = .next t ∧ t.Ended k St.OK 0
        ∧ t.flag (Reg.NTU_PGg_CFG g) 0 = false ∧ (∀ d ∈ t.claims, d.resource = 0x3000 + g → d.block ≠ Blk.NTU)
        ∧ OnlyChanges [.regs, .claims, .opt, .scn] s t ∧ OnlyRegs [Reg.NTU_PGg_CFG g] s t := by
  have hfold : ∀ (l : List Nat) (a : State), (l.foldl (fun a r => a.unclaim r Blk.NTU) a).regs = a.regs
      ∧ OnlyChanges [.claims] a (l.foldl (fun a r => a.unclaim r Blk.NTU) a)
      ∧ ∀ d, d ∈ (l.foldl (fun a r => a.unclaim r Blk.NTU) a).claims → d ∈ a.claims := by
    intro l
    induction l with
    | nil => exact fun a => ⟨rfl, .refl _ a, fun d h => h⟩
    | cons r l ih =>
      intro a
      obtain ⟨h1, h2, h3⟩ := ih (a.unclaim r Blk.NTU)
      exact ⟨h1, (a.withClaims_onlyChanges _).trans h2, fun d h => ((a.unclaim_mem r Blk.NTU d).mp (h3 d h)).1⟩
  obtain ⟨a, ha, a1, a2, a3⟩ : ∃ a, s.setFlag (Reg.NTU_PGg_CFG g) 0 false = a ∧ a.flag (Reg.NTU_PGg_CFG g) 0 = false ∧ OnlyChanges [.regs] s a
      ∧ OnlyRegs [Reg.NTU_PGg_CFG g] s a :=
    ⟨_, rfl, s.setFlag_flag_same _ _ _ (by decide), s.setFlag_onlyChanges _ _ _, (OnlyRegs.refl _ s).setFlag⟩
  obtain ⟨b, hb, b1, b2, b3⟩ : ∃ b, s.stopNtuPg g = b ∧ b.regs = a.regs ∧ OnlyChanges [.claims] a b
      ∧ ∀ d, d ∈ b.claims → d.resource = 0x3000 + g → d.block ≠ Blk.NTU := by
    refine ⟨_, rfl, ?_⟩
    simp only [State.stopNtuPg, hon, Bool.not_true, Bool.false_eq_true, if_false, ha, pgResources, List.foldl_cons]
    obtain ⟨h1, h2, h3⟩ := hfold (if (if s.fld (Reg.NTU_PGg_CFG g) 4 4 = 15 then 0xFF else s.fld (Reg.NTU_PGg_CFG g) 4 4) < 4 then
      [0x1000 + if s.fld (Reg.NTU_PGg_CFG g) 4 4 = 15 then 0xFF else s.fld (Reg.NTU_PGg_CFG g) 4 4] else []) (a.unclaim (0x3000 + g) Blk.NTU)
    exact ⟨h1, (a.withClaims_onlyChanges _).trans h2, fun d hd hr hblk => ((a.unclaim_mem _ _ d).mp (h3 d hd)).2 ⟨hr, hblk⟩⟩
  have hch : OnlyChanges [.regs, .claims] s b := (a2.mono (by simp)).trans (b2.mono (by simp))
  have hserv2 : b.Serves k Blk.NTU := hserv.frame hch (by simp)
  have hdec := hserv2.onlyChanges (by decide) St.OK 0
  have hkeep := hserv2.reg (by decide) St.OK 0
  have hall : OnlyChanges [.regs, .claims, .opt, .scn] s (b.decideOp k St.OK 0) := (hch.mono (by simp)).trans (hdec.mono (by simp))
  refine ⟨_, ?_, hserv2.ended _ _, ?_, ?_, hall, (a3.trans (OnlyRegs.of_regs_eq b1)).trans fun off _ => hkeep off⟩
  · rw [exec_ntuPgDisable, execNtuPgDisable]
    refine State.powered_next hup ?_ hall (by simp)
    simp only [hx, hg, hon, hb]
    rw [if_neg (by simp; omega)]
  · exact (State.flag_congr _ _ _ _ ((hkeep _).trans (State.reg_congr _ _ b1 _))).trans a1
  · rw [hdec.2.2 .claims (by simp)]
    exact b3

end

/-- Settles O40: the time bases and the pulse generators of NTU, form by form. -/
theorem basesAndGenerators : Obligations.BasesAndGenerators := by
  intro s hup h4 hsrst
  refine ⟨?_, ?_, ?_, ?_, ?_, ?_, ?_, ?_⟩
  · intro r hsrc hsync hfirst hr
    exact exec_followUpdate_tb1 hup h4 hsrst hsrc hsync hfirst hr
  · intro m hsrc hm hm3 hdue
    exact exec_followUpdate_tb3 hup h4 hsrst hsrc hm.symm hm3 hdue
  · intro b c c1 r hb hclk hsrc hhold hlate hrates halone
    exact exec_ptpHoldover_expires hup h4 hb hclk hsrc hhold hlate hrates halone
  · intro g hg hon hdue hpad
    exact exec_ntuPgEdge_pad hup hg hon hdue hpad
  · intro k x n hserving hn hn3
    refine ⟨?_, fun hx hfree hsrc => exec_tbSet_steps hup h4 (State.serves_of_activeOp hserving hx) hx hn.symm hn3 hfree hsrc, ?_⟩
    · rintro op (rfl | rfl) hx hlock hadj
      · exact exec_tbSet_locked hup (State.serves_of_activeOp hserving hx) hx hn.symm hn3 hlock
      · exact exec_tbAdj_locked hup (State.serves_of_activeOp hserving hx) hx hn.symm hn3 hlock hadj
    · intro d r hx hfree hadj hd
      exact ⟨fun h0 => exec_tbAdj_zero hup (State.serves_of_activeOp hserving hx) hx hn.symm hn3 hfree hadj (hd.symm.trans h0),
        fun h0 hr => exec_tbAdj_slews hup h4 hx hn.symm hn3 hfree hadj hd.symm h0 hr⟩
  · intro a k hadj htag hbase hend hord hact hblock hserving
    exact exec_tbAdjComplete_due hup h4 ⟨hserving, hact, hblock⟩ hadj htag hbase hend hord
  · intro k x g n st per w hserving hx hg hn htgt hlev hst hper hw hg7 hn3 hper100 hwlt hoff hmode halone
    have hserv := State.serves_of_activeOp hserving hx
    exact ⟨exec_ntuPgEnable_free hup hserv hx hg.symm hn.symm htgt hlev hst.symm hper.symm hw.symm hg7 hn3 hper100 hwlt hoff hmode halone,
      fun d => exec_ntuPgEnable_held hup hserv hx hg.symm hn.symm htgt hper.symm hw.symm hg7 hn3 hper100 hwlt hoff hmode halone⟩
  · intro k x g hserving hx hg hg7 hon
    exact exec_ntuPgDisable_running hup (State.serves_of_activeOp hserving hx) hx hg.symm hg7 hon

end Sys2Proof.Machine

/-! PROOFS. The fabric's counters, queues and frames on their way through it (R438, R442, R443, R448, R449). -/

namespace Sys2Proof.Machine

-- One declaration after the other: the stacks of parallel elaboration would count against the memory limit of the check.
set_option Elab.async false

section
variable (s : State)

theorem State.cnt_onlyChanges (p k n : Nat) : OnlyChanges [.regs, .out] s (s.cnt p k n) := by
  have hinc : OnlyChanges [.regs, .out] s (s.wrapInc (Reg.FAB_PnCNTk p k) n) := (s.wrapInc_onlyChanges _ n).mono (by simp)
  unfold State.cnt
  simp only
  split
  · exact hinc.trans (((State.setFlag_onlyChanges _ _ _ _).mono (by simp)).trans (State.raiseIrq_onlyChanges _ _ _))
  · exact hinc

theorem State.countTx_onlyChanges (p c : Nat) (f : EthFrame) : OnlyChanges [.regs, .out] s (s.countTx p c f) := by
  have h1 := (s.cnt_onlyChanges p 26 f.len).trans (State.cnt_onlyChanges _ p 27 1)
  unfold State.countTx
  simp only
  generalize (s.cnt p 26 f.len).cnt p 27 1 = a at *
  obtain ⟨b, hb, h2⟩ : ∃ b, (if f.dst = bcast then a.cnt p 30 1 else if isGroup f.dst then a.cnt p 29 1 else a.cnt p 28 1) = b
      ∧ OnlyChanges [.regs, .out] s b := by
    refine ⟨_, rfl, ?_⟩
    split
    · exact h1.trans (a.cnt_onlyChanges _ _ _)
    · split <;> exact h1.trans (a.cnt_onlyChanges _ _ _)
  rw [hb]
  split
  · exact h2.trans (b.cnt_onlyChanges _ _ _)
  · exact h2

theorem State.noteBuf_onlyChanges : OnlyChanges [.regs] s s.noteBuf :=
  (s.setFld_onlyChanges _ _ _ _).trans (State.setFld_onlyChanges _ _ _ _ _)

theorem State.setQueue_onlyChanges (p c : Nat) (l : List QFrame) : OnlyChanges [.fab] s (s.setQueue p c l) := by
  simp [onlyChanges_iff, State.setQueue]

/-- Noting that a port's queues are in use touches the port's times alone (R450). -/
theorem State.noteQueued_spec (p : Nat) : (s.noteQueued p).fab.queues = s.fab.queues ∧ (s.noteQueued p).fab.tx = s.fab.tx
    ∧ (s.noteQueued p).fab.nextId = s.fab.nextId ∧ OnlyChanges [.fab] s (s.noteQueued p) := by
  unfold State.noteQueued
  simp only
  split
  · exact ⟨rfl, rfl, rfl, by simp [onlyChanges_iff]⟩
  · exact ⟨rfl, rfl, rfl, by simp [onlyChanges_iff]⟩

theorem State.noteQueued_fab (p : Nat) : ∃ i w, (s.noteQueued p).fab = { s.fab with idleClk := i, waitClk := w } := by
  unfold State.noteQueued
  simp only
  split
  · exact ⟨_, _, rfl⟩
  · exact ⟨_, s.fab.waitClk, rfl⟩

theorem State.noteTxPort_onlyChanges (op : Option Nat) (p : Nat) (sent : Bool) : OnlyChanges [.fab] s (s.noteTxPort op p sent) := by
  unfold State.noteTxPort
  split
  · exact OnlyChanges.refl _ _
  · simp [onlyChanges_iff]

theorem State.endLpi_onlyChanges (p : Nat) : OnlyChanges [.regs, .out, .fab] s (s.endLpi p) := by
  unfold State.endLpi
  split
  · exact OnlyChanges.refl _ _
  · have h1 : OnlyChanges [.regs, .out, .fab] s _ := ((s.setFlag_onlyChanges (Reg.FAB_PnSTAT p) 6 false).mono (qs := [.regs, .out, .fab]) (by simp)).trans
      ((State.cnt_onlyChanges _ p 36 ((s.clk - tget (fun _ => 0) s.fab.lpiClk p) / 800)).mono (by simp))
    simp only
    generalize (s.setFlag (Reg.FAB_PnSTAT p) 6 false).cnt p 36 ((s.clk - tget (fun _ => 0) s.fab.lpiClk p) / 800) = a at *
    exact h1.trans (by simp [onlyChanges_iff])

/-- An empty fabric has room for a frame of classes 0 to 6 (R442). -/
theorem State.room_of_empty (h : s.fab.queues = []) {p c n : Nat} (hc : c ≠ 7) (hn : n ≤ 3840 * 1024) : s.room p c n = some false := by
  have hb : s.buffered = [] := by
    rw [State.buffered, h]
    rfl
  unfold State.room
  simp only [hb, List.filter_nil]
  rw [if_neg (fun hh => hc hh.1), if_pos]
  simpa [frameSum] using hn

/-- A frame for a port that passes it and has nothing queued in its class enters the queue (R442). -/
theorem State.enqueue_first {p c : Nat} {q : QFrame} (hc : c ≠ 7) (hq : s.fabQueue p c = []) (hpass : s.portPasses p true = true)
    (hlen : q.frame.len ≤ 512 * 1024) : s.enqueue p c q = (s.setQueue p c [q]).noteQueued p := by
  unfold State.enqueue
  simp only
  have hlow : (c != 7) = true := by simpa using hc
  rw [if_neg (by simp [hlow, hpass]), if_neg (by simp [hq, frameSum, hlen]), if_neg hc, hq]
  rfl

theorem State.pcpClass_ne (c : Nat) : s.pcpClass c ≠ 7 := by
  have h : s.pcpClass c ≤ 6 := Nat.min_le_left _ _
  omega

theorem State.maxFrame_le : s.maxFrame ≤ 9216 := Nat.min_le_left _ _

theorem State.retag_len (p vid pcp : Nat) (keep : Bool) (f : EthFrame) : (s.retag p vid pcp keep f).len ≤ f.len + 4 := by
  unfold State.retag
  split
  · omega
  · have hadd : (if (if s.untagged vid p then none else some (pcp, vid)).isSome = true then 4 else 0) ≤ 4 := by split <;> simp
    exact (Nat.sub_le _ _).trans (Nat.add_le_add_left hadd _)

end

theorem mem_insertBy {α : Type} (le : α → α → Bool) (x y : α) (l : List α) : y ∈ insertBy le x l ↔ y = x ∨ y ∈ l := by
  induction l with
  | nil => simp [insertBy]
  | cons z r ih =>
    unfold insertBy
    split
    · simp
    · simp only [List.mem_cons, ih]
      exact or_left_comm

theorem mem_sortBy {α : Type} (le : α → α → Bool) (y : α) (l : List α) : y ∈ sortBy le l ↔ y ∈ l := by
  induction l with
  | nil => simp [sortBy]
  | cons x r ih => exact (mem_insertBy le x y (sortBy le r)).trans (by rw [ih, List.mem_cons])

theorem mem_of_tget_ne {α : Type} {d : Nat → α} {t : Tbl α} {k : Nat} (h : tget d t k ≠ d k) : (k, tget d t k) ∈ t := by
  induction t with
  | nil => exact absurd rfl h
  | cons e r ih =>
    obtain ⟨j, v⟩ := e
    by_cases hj : j = k
    · subst hj
      simp [tget]
    · have htail : tget d ((j, v) :: r) k = tget d r k := by simp [tget, hj]
      rw [htail] at h ⊢
      exact List.mem_cons_of_mem _ (ih h)

/-- The tag of a slot in use is open (R70). -/
theorem State.mem_openTags {s : State} {k : Nat} (h : (s.slot k).st ≠ .free) : k ∈ s.openTags := by
  have hne : s.slot k ≠ Slot.unused := fun e => h (congrArg Slot.st e)
  exact List.mem_map.mpr ⟨(k, s.slot k), List.mem_filter.mpr ⟨mem_of_tget_ne hne, by simpa using h⟩, rfl⟩

/-- A FRAME_RX at work is posted for its endpoint (R448, R466). -/
theorem State.mem_postedRx {s : State} {k e : Nat} {x : Slot} (hx : s.activeOp k Blk.FAB 2 = some x) (he : paramField x.param 0 1 = e) :
    k ∈ s.postedRx e := by
  obtain ⟨rfl, hact, hblock, hop, -⟩ := s.activeOp_some k Blk.FAB 2 x hx
  refine (mem_sortBy _ _ _).mpr (List.mem_filter.mpr ⟨State.mem_openTags (by rw [hact]; simp), ?_⟩)
  simp [hact, hblock, hop, he]

/-- A host endpoint's first posted buffer takes a frame and its operation ends OK with the frame's length and port (R448). -/
theorem State.toEndpoint_ends {s : State} {k e p : Nat} {f : EthFrame} {l : List Nat} (hl : s.postedRx e = k :: l)
    (hact : (s.slot k).st = .active) : (s.toEndpoint e p f).Ended k St.OK (BitVec.ofNat 32 (f.bytes.length % 65536 + p * 65536)) := by
  unfold State.toEndpoint
  simp only [hl]
  generalize Output.dma _ _ = o
  have hslot : (s.emit o).slot k = s.slot k := rfl
  exact State.decideOp_ended (hslot ▸ hact) _ _

end Sys2Proof.Machine

/-! PROOFS. FAB's operations (R439, R448, R466). -/

namespace Sys2Proof.Machine

-- One declaration after the other: the stacks of parallel elaboration would count against the memory limit of the check.
set_option Elab.async false

section
variable {s : State} {k : Nat} {x : Slot}

/-! ### FRAME_TX -/

section
variable {d : List Byte} {f : EthFrame}

theorem exec_fabFrameTx_disabled (hup : s.Up) (hserv : s.Serves k Blk.FAB) (hx : s.activeOp k Blk.FAB 1 = some x) (he : paramField x.param 0 1 = 3)
    (hlen : d.length = paramField x.param 16 2) (hlo : 60 ≤ d.length) (hhi : d.length ≤ s.maxFrame - 4)
    (hts : bitOf (paramField x.param 1 1) 0 = false) (htx : s.fab.tx = []) (hwait : s.txWaits k 3 = false)
    (hoff : s.flag (Reg.FAB_EPe_CFG 3) 0 = false) :
    ∃ t, exec (.fabFrameTx k d) s = .next t ∧ t.Ended k St.FAIL_DENIED 0 ∧ OnlyChanges [.opt, .scn] s t := by
  rw [exec_fabFrameTx, execFabFrameTx]
  refine State.powered_decides hup hserv (by decide) ?_
  simp only [hx, he, ← hlen, htx, hts, hwait, hoff, List.any_nil, Bool.false_eq_true, if_false, false_and, or_false]
  rw [if_neg (by omega), if_pos (by decide)]

/-- A stray LCP frame is at most counted by LCP (R202). -/
theorem State.lcpStray_spec (a : State) (f : EthFrame) : OnlyChanges [.regs] a (a.lcpStray f) ∧ OnlyRegs [Reg.LCP_RXERR_CNT] a (a.lcpStray f) := by
  unfold State.lcpStray
  split
  · exact ⟨a.satInc_onlyChanges _ _ _ _, (OnlyRegs.refl _ a).satInc⟩
  · exact ⟨OnlyChanges.refl _ _, OnlyRegs.refl _ _⟩

theorem exec_fabFrameTx_management (hup : s.Up) (hserv : s.Serves k Blk.FAB) (hx : s.activeOp k Blk.FAB 1 = some x) (he : paramField x.param 0 1 = 3)
    (hlen : d.length = paramField x.param 16 2) (hlo : 60 ≤ d.length) (hhi : d.length ≤ s.maxFrame - 4)
    (hts : bitOf (paramField x.param 1 1) 0 = false) (htx : s.fab.tx = []) (hwait : s.txWaits k 3 = false) (hf : hostFrame d = f)
    (hon : s.flag (Reg.FAB_EPe_CFG 3) 0 = true) (hmgmt : (mgmtFrom f.etype 0).isSome = true) :
    ∃ t, exec (.fabFrameTx k d) s = .next t ∧ t.Ended k St.FAIL_DENIED 0
      ∧ t.num (Reg.FAB_EPe_DROP 3) = Nat.min (s.num (Reg.FAB_EPe_DROP 3) + 1) (2 ^ 32 - 1) ∧ OnlyChanges [.regs, .opt, .scn] s t := by
  have hrun : ∀ t, ((s.satInc (Reg.FAB_EPe_DROP 3) 0 32 1).lcpStray f).decideOp k St.FAIL_DENIED 0 = t → OnlyChanges [.regs, .opt, .scn] s t →
      exec (.fabFrameTx k d) s = .next t := fun t ht hch => by
    rw [exec_fabFrameTx, execFabFrameTx]
    refine State.powered_next hup ?_ hch (by simp)
    have htake : d.take d.length = d := List.take_length
    simp only [hx, he, ← hlen, htake, hf, htx, hts, hwait, hon, hmgmt, List.any_nil, Bool.false_eq_true, if_false, false_and, or_false, Bool.not_true, if_true]
    rw [if_neg (by omega)]
    exact ht
  have a1 := s.satInc_num (Reg.FAB_EPe_DROP 3) 1
  have a2 := s.satInc_onlyChanges (Reg.FAB_EPe_DROP 3) 0 32 1
  generalize s.satInc (Reg.FAB_EPe_DROP 3) 0 32 1 = a at *
  obtain ⟨b1, b2⟩ := a.lcpStray_spec f
  generalize a.lcpStray f = b at *
  have hch : OnlyChanges [.regs] s b := a2.trans b1
  have hserv2 : b.Serves k Blk.FAB := hserv.frame hch
  have hall : OnlyChanges [.regs, .opt, .scn] s (b.decideOp k St.FAIL_DENIED 0) :=
    (hch.mono (by simp)).trans ((hserv2.onlyChanges (by decide) _ _).mono (by simp))
  exact ⟨_, hrun _ rfl hall, hserv2.ended _ _,
    (State.num_congr ((hserv2.reg (by decide) _ _ _).trans (b2 _ (by decide)))).trans a1, hall⟩

/-- A host endpoint's own frame finds no other host endpoint while endpoint 4 is disabled (R448). -/
theorem State.copyToHosts_alone (h : s.flag (Reg.FAB_EPe_CFG 4) 0 = false) (members : Nat) (f : EthFrame) : s.copyToHosts 53 members f = s := by
  simp [State.copyToHosts, h]

/-- A frame for one port of an empty fabric is queued there (R438, R442). -/
theorem State.forward_queued {q c ingress vid pcp : Nat} {keep r : Bool} {op : Option Nat} {ptp : Option (Nat × Nat × Nat)} (hc : c ≠ 7)
    (hq : s.fab.queues = []) (hpass : s.portPasses q true = true) (hlen : f.len ≤ 512 * 1024 - 4) :
    ∃ t i w, s.forward ingress vid pcp c keep r op ptp [q] f = t
      ∧ t.fab = { s.fab with
          nextId := s.fab.nextId + 1, idleClk := i, waitClk := w
          queues := [(8 * q + c, [⟨s.fab.nextId, s.retag q vid pcp keep f, ingress, r, op, ptp⟩])] }
      ∧ OnlyChanges [.regs, .fab] s t ∧ OnlyRegs [Reg.FAB_BUF_USED] s t := by
  generalize hf2 : s.retag q vid pcp keep f = f2
  have hlen2 : f2.len ≤ 512 * 1024 := by
    have := s.retag_len q vid pcp keep f
    rw [hf2] at this
    omega
  unfold State.forward
  simp only [List.foldl_cons, List.foldl_nil]
  obtain ⟨a, ha, a1, a3, a4, a5, a6, a7⟩ : ∃ a, ({ s with fab := { s.fab with nextId := s.fab.nextId + 1 } } : State) = a
      ∧ a.fab = { s.fab with nextId := s.fab.nextId + 1 } ∧ a.portPasses q true = true ∧ a.retag q vid pcp keep f = f2 ∧ a.fabQueue q c = []
      ∧ OnlyChanges [.fab] s a ∧ a.regs = s.regs := by
    refine ⟨_, rfl, rfl, hpass, hf2, ?_, by simp [onlyChanges_iff], rfl⟩
    simp only [State.fabQueue, hq]
    rfl
  rw [ha, a4, State.enqueue_first a hc a5 a3 hlen2]
  have b1 : (a.setQueue q c [⟨s.fab.nextId, f2, ingress, r, op, ptp⟩]).fab
      = { s.fab with nextId := s.fab.nextId + 1, queues := [(8 * q + c, [⟨s.fab.nextId, f2, ingress, r, op, ptp⟩])] } := by
    simp [State.setQueue, a1, hq, tset, tput]
  have b3 := a.setQueue_onlyChanges q c [⟨s.fab.nextId, f2, ingress, r, op, ptp⟩]
  generalize a.setQueue q c [⟨s.fab.nextId, f2, ingress, r, op, ptp⟩] = b at *
  obtain ⟨i, w, c1⟩ := b.noteQueued_fab q
  obtain ⟨-, -, -, c4⟩ := b.noteQueued_spec q
  generalize b.noteQueued q = u at *
  have hregs : u.regs = s.regs := (c4.2.2 .regs (by simp)).trans ((b3.2.2 .regs (by simp)).trans a7)
  have d1 := u.noteBuf_onlyChanges
  have d2 : OnlyRegs [Reg.FAB_BUF_USED] u u.noteBuf := (OnlyRegs.refl _ u).setFld.setFld
  refine ⟨_, i, w, rfl, ?_, (((a6.trans b3).trans c4).mono (by simp)).trans (d1.mono (by simp)), (OnlyRegs.of_regs_eq hregs).trans d2⟩
  rw [d1.2.2 .fab (by simp), c1, b1]

/-- A frame for one port, whose class is empty there, is queued (R438, R442). -/
theorem State.forward_first {q c ingress vid pcp : Nat} {op : Option Nat} (hc : c ≠ 7) (hq : s.fab.queues = [])
    (hpass : s.portPasses q true = true) (hlen : f.len ≤ 512 * 1024 - 4) :
    ∃ t, s.forward ingress vid pcp c false false op none [q] f = t
      ∧ t.fab.queues = [(8 * q + c, [⟨s.fab.nextId, s.retag q vid pcp false f, ingress, false, op, none⟩])]
      ∧ t.fab.tx = s.fab.tx ∧ OnlyChanges [.regs, .fab] s t := by
  obtain ⟨t, i, w, ht, hfab, hch, -⟩ := State.forward_queued (ingress := ingress) (vid := vid) (pcp := pcp) (keep := false) (r := false) (op := op)
    (ptp := none) hc hq hpass hlen
  exact ⟨t, ht, by rw [hfab], by rw [hfab], hch⟩

/-- A FRAME_TX whose frame still waits at a port stays open (R466). -/
theorem State.endTx_waiting {a : State} {o : Nat} {p : Nat} {l : List Nat} (h : a.fab.tx = [⟨k, o, p :: l, 0, 0, none, none⟩]) : a.endTx k = a := by
  have hop : a.txOp k = some ⟨k, o, p :: l, 0, 0, none, none⟩ := by simp [State.txOp, h]
  simp [State.endTx, hop]

theorem exec_fabFrameTx_queues {q vid c : Nat} (hup : s.Up) (hx : s.activeOp k Blk.FAB 1 = some x) (he : paramField x.param 0 1 = 3)
    (hlen : d.length = paramField x.param 16 2) (hlo : 60 ≤ d.length) (hhi : d.length ≤ s.maxFrame - 4)
    (hts : bitOf (paramField x.param 1 1) 0 = false) (htx : s.fab.tx = []) (hwait : s.txWaits k 3 = false) (hf : hostFrame d = f)
    (hon : s.flag (Reg.FAB_EPe_CFG 3) 0 = true) (hoff : s.flag (Reg.FAB_EPe_CFG 4) 0 = false) (hmgmt : mgmtFrom f.etype 0 = none)
    (htag : f.tag = none) (hvid : fixVid (s.fld (Reg.FAB_EPe_CFG 3) 16 12) = vid) (hc : s.pcpClass 0 = c)
    (hports : s.egressPorts 53 vid f = [q]) (hpass : s.portPasses q true = true) (hq : s.fab.queues = []) :
    ∃ t, exec (.fabFrameTx k d) s = .next t
      ∧ t.fab.queues = [(8 * q + c, [⟨s.fab.nextId, s.retag q vid 0 false f, 53, false, some k, none⟩])]
      ∧ t.fab.tx = [⟨k, x.ord, [q], 0, 0, none, none⟩] ∧ t.slot k = s.slot k ∧ OnlyChanges [.regs, .fab] s t := by
  have hc7 : c ≠ 7 := hc ▸ s.pcpClass_ne 0
  have hmax := s.maxFrame_le
  have hflen : f.len = d.length + 4 := by
    rw [← hf]
    unfold hostFrame
    simp only
    split <;> rfl
  have hroom : s.room 53 c f.len = some false := s.room_of_empty hq hc7 (by omega)
  obtain ⟨a, ha, a1, a2, a3, a4, a5⟩ : ∃ a, ({ s with fab := { s.fab with tx := s.fab.tx ++ [⟨k, x.ord, [q], 0, 0, none, none⟩] } } : State) = a
      ∧ a.fab.queues = [] ∧ a.fab.tx = [⟨k, x.ord, [q], 0, 0, none, none⟩] ∧ a.fab.nextId = s.fab.nextId
      ∧ a.retag q vid 0 false f = s.retag q vid 0 false f ∧ a.portPasses q true = true :=
    ⟨_, rfl, hq, by simp [htx], rfl, rfl, hpass⟩
  have a6 : OnlyChanges [.fab] s a := by rw [← ha]; simp [onlyChanges_iff]
  obtain ⟨b, hb, b1, b2, b3⟩ := State.forward_first (s := a) (f := f) (ingress := 53) (vid := vid) (pcp := 0) (op := some k) hc7 a1 a5 (by omega)
  have hall : OnlyChanges [.regs, .fab] s b := (a6.mono (by simp)).trans b3
  refine ⟨b, ?_, by rw [b1, a3, a4], b2.trans a2, State.slot_congr s b (congrArg Opt.slots (hall.2.2 .opt (by simp))) k, hall⟩
  rw [exec_fabFrameTx, execFabFrameTx]
  refine State.powered_next hup ?_ hall (by simp)
  have htake : d.take d.length = d := List.take_length
  simp only [hx, he, ← hlen, htake, hf, htx, hts, hwait, hon, hmgmt, htag, hvid, hc, hports, List.any_nil, Bool.false_eq_true, if_false, false_and,
    or_false, and_false, Bool.not_true, Option.isSome_none, reduceCtorEq, Nat.reduceAdd]
  rw [if_neg (by omega), State.copyToHosts_alone hoff]
  have hcb : (c == 7) = false := beq_false_of_ne hc7
  simp only [hroom, hcb, ha, hb]
  exact State.endTx_waiting (b2.trans a2)

end

/-- The FRAME_TX whose frame left its only port completes OK with one port sent (R466). -/
theorem State.endTx_sent {a : State} {o : Nat} (h : a.fab.tx = [⟨k, o, [], 1, 0, none, none⟩]) (hserv : a.Serves k Blk.FAB) (ho : (a.slot k).ord = o)
    (hts : bitOf (paramField (a.slot k).param 1 1) 0 = false) :
    ∃ t, a.endTx k = t ∧ t.Ended k St.OK 1 ∧ t.fab.tx = [] ∧ OnlyChanges [.opt, .scn, .fab] a t := by
  have hop : a.txOp k = some ⟨k, o, [], 1, 0, none, none⟩ := by simp [State.txOp, h]
  obtain ⟨b, hb, b1, b2⟩ : ∃ b, ({ a with fab := { a.fab with tx := a.fab.tx.filter (fun y => y.tag != k) } } : State) = b ∧ b.fab.tx = []
      ∧ OnlyChanges [.fab] a b := ⟨_, rfl, by simp [h], by simp [onlyChanges_iff]⟩
  have hslot : b.slot k = a.slot k := State.slot_congr a b (congrArg Opt.slots (b2.2.2 .opt (by simp))) k
  have hserv2 : b.Serves k Blk.FAB := hserv.frame b2
  have hdec := hserv2.onlyChanges (by decide) St.OK 1
  refine ⟨b.decideOp k St.OK 1, ?_, hserv2.ended _ _, (congrArg Fab.tx (hdec.2.2 .fab (by simp))).trans b1,
    (b2.mono (by simp)).trans (hdec.mono (by simp))⟩
  unfold State.endTx
  simp only [hop, hb, hslot, hserv.active, ho, hts]
  simp

theorem exec_frameTransmit_completes {p c : Nat} {fr : Nat × EthFrame} {r : Bool} (hup : s.Up) (hserving : tfind? s.hlk.serving k = none)
    (hx : s.activeOp k Blk.FAB 1 = some x) (hts : bitOf (paramField x.param 1 1) 0 = false) (hnext : s.nextClass p = some c)
    (hqueue : s.fabQueue p c = [⟨fr.1, fr.2, 53, r, some k, none⟩]) (htx : s.fab.tx = [⟨k, x.ord, [p], 0, 0, none, none⟩])
    (hwake : tget (fun _ => 0) s.fab.wakeClk p ≤ s.clk) :
    ∃ t, exec (.frameTransmit p) s = .next t ∧ t.Ended k St.OK 1 ∧ t.fab.tx = [] ∧ OnlyChanges [.regs, .out, .opt, .scn, .fab] s t := by
  obtain ⟨rfl, -⟩ := s.activeOp_some k Blk.FAB 1 x hx
  have a1 : (((s.setQueue p c []).countTx p c fr.2).emit (.ethFrame p fr.2)).fab.tx = s.fab.tx :=
    have h : ((s.setQueue p c []).countTx p c fr.2).fab = (s.setQueue p c []).fab :=
      (State.countTx_onlyChanges (s.setQueue p c []) p c fr.2).2.2 .fab (by simp)
    (congrArg Fab.tx h : _)
  have a2 : OnlyChanges [.regs, .out, .fab] s (((s.setQueue p c []).countTx p c fr.2).emit (.ethFrame p fr.2)) :=
    ((s.setQueue_onlyChanges p c []).mono (by simp)).trans (((State.countTx_onlyChanges _ p c fr.2).mono (by simp)).trans
      ((State.emit_onlyChanges _ _).mono (by simp)))
  have hrun : ∀ t u, ((((s.setQueue p c []).countTx p c fr.2).emit (.ethFrame p fr.2)).noteTxPort (some k) p true).endTx k = u →
      ({ u with fab := { u.fab with idleClk := tput u.fab.idleClk p u.clk } } : State).noteBuf = t → OnlyChanges [.regs, .out, .opt, .scn, .fab] s t →
      exec (.frameTransmit p) s = .next t := fun t u hu ht hch => by
    rw [exec_frameTransmit, execFrameTransmit]
    refine State.powered_next hup ?_ hch (by simp)
    have hop : (((s.setQueue p c []).countTx p c fr.2).emit (.ethFrame p fr.2)).txOp k = some ⟨k, (s.slot k).ord, [p], 0, 0, none, none⟩ := by
      rw [State.txOp, a1, htx]
      simp
    simp only [hnext, hqueue]
    rw [if_neg (by omega)]
    simp only [hop, hu]
    exact ht
  generalize ((s.setQueue p c []).countTx p c fr.2).emit (.ethFrame p fr.2) = a at *
  have b1 : (a.noteTxPort (some k) p true).fab.tx = [⟨k, (s.slot k).ord, [], 1, 0, none, none⟩] := by
    simp [State.noteTxPort, a1, htx]
  have b2 := a.noteTxPort_onlyChanges (some k) p true
  generalize a.noteTxPort (some k) p true = b at *
  have b3 : OnlyChanges [.regs, .out, .fab] s b := a2.trans (b2.mono (by simp))
  have hslot : b.slot k = s.slot k := State.slot_congr s b (congrArg Opt.slots (b3.2.2 .opt (by simp))) k
  have hserv : b.Serves k Blk.FAB := (State.serves_of_activeOp hserving hx).frame b3
  obtain ⟨u, hu, ⟨u1, u2, u3⟩, u4, u5⟩ := State.endTx_sent b1 hserv (by rw [hslot]) (by rw [hslot]; exact hts)
  obtain ⟨v, hv, v1, v2⟩ : ∃ v, ({ u with fab := { u.fab with idleClk := tput u.fab.idleClk p u.clk } } : State) = v ∧ v.fab.tx = u.fab.tx
      ∧ OnlyChanges [.fab] u v := ⟨_, rfl, rfl, by simp [onlyChanges_iff]⟩
  have w := v.noteBuf_onlyChanges
  have hfin : OnlyChanges [.regs, .fab] u v.noteBuf := (v2.mono (by simp)).trans (w.mono (by simp))
  have hslot2 : v.noteBuf.slot k = u.slot k := State.slot_congr u _ (congrArg Opt.slots (hfin.2.2 .opt (by simp))) k
  have hall : OnlyChanges [.regs, .out, .opt, .scn, .fab] s v.noteBuf :=
    (b3.mono (by simp)).trans ((u5.mono (by simp)).trans (hfin.mono (by simp)))
  exact ⟨_, hrun _ u hu (by rw [hv]) hall, ⟨by rw [hslot2, u1], by rw [hslot2, u2], by rw [hslot2, u3]⟩,
    ((congrArg Fab.tx (w.2.2 .fab (by simp))).trans v1).trans u4, hall⟩

/-! ### FRAME_RX -/

theorem exec_frameRx_waits {e : Nat} (hx : s.activeOp k Blk.FAB 2 = some x) (he : paramField x.param 0 1 = e)
    (hhost : e = 3 ∨ e = 4) (hlen : s.maxFrame + 16 ≤ paramField x.param 16 2) : exec (.frameRx k) s = .next s := by
  rw [exec_frameRx, execFrameRx]
  refine State.powered_same ?_
  simp only [hx, he]
  rw [if_neg (by omega)]

/-! ### The MAC table -/

theorem State.putFdb_spec (s : State) (key : Nat) (e : Option FdbEntry) : tfind? (s.putFdb key e).fab.fdb key = e
    ∧ (∀ j, j ≠ key → tfind? (s.putFdb key e).fab.fdb j = tfind? s.fab.fdb j) ∧ OnlyChanges [.regs, .fab] s (s.putFdb key e) := by
  have hch : OnlyChanges [.regs, .fab] s (s.putFdb key e) := by simp [onlyChanges_iff, State.putFdb, State.noteFdb]
  cases e with
  | none => exact ⟨(tfind?_tdel _ _ _).trans (if_pos rfl), fun j hj => (tfind?_tdel _ _ _).trans (if_neg (by tauto)), hch⟩
  | some v => exact ⟨(tfind?_tput _ _ _ _).trans (if_pos rfl), fun j hj => (tfind?_tput _ _ _ _).trans (if_neg (by tauto)), hch⟩

/-- An operation that changed FAB's table ends: the table stays as it was put. -/
theorem State.putFdb_ends (hserv : s.Serves k Blk.FAB) (key : Nat) (e : Option FdbEntry) : ∃ t, (s.putFdb key e).decideOp k St.OK 0 = t
    ∧ tfind? t.fab.fdb key = e ∧ t.Ended k St.OK 0 ∧ (∀ j, j ≠ key → tfind? t.fab.fdb j = tfind? s.fab.fdb j)
    ∧ OnlyChanges [.regs, .opt, .scn, .fab] s t := by
  obtain ⟨h1, h2, h3⟩ := s.putFdb_spec key e
  generalize s.putFdb key e = a at *
  have hserv2 : a.Serves k Blk.FAB := hserv.frame h3
  have hdec := hserv2.onlyChanges (by decide) St.OK 0
  have hfab : (a.decideOp k St.OK 0).fab = a.fab := hdec.2.2 .fab (by simp)
  exact ⟨_, rfl, by rw [hfab, h1], hserv2.ended _ _, fun j hj => by rw [hfab, h2 j hj], (h3.mono (by simp)).trans (hdec.mono (by simp))⟩

section
variable {vid mac : Nat}

theorem exec_fdbAdd_adds (hup : s.Up) (hserv : s.Serves k Blk.FAB) (hx : s.activeOp k Blk.FAB 3 = some x)
    (hmac : beNat (leBytes 6 (paramField x.param 0 6)) = mac) (hvid : paramField x.param 6 2 = vid) (hroom : (s.bucketOf vid mac).length < 4) :
    ∃ t, exec (.fdbAdd k) s = .next t
        ∧ t.fdbAt vid mac = some ⟨true, paramField x.param 8 8 % 2 ^ 55, s.clk⟩ ∧ t.Ended k St.OK 0
        ∧ (∀ j, j ≠ fdbKey vid mac → tfind? t.fab.fdb j = tfind? s.fab.fdb j) ∧ OnlyChanges [.regs, .opt, .scn, .fab] s t := by
  obtain ⟨t, ht, h1, h2, h3, hall⟩ := State.putFdb_ends hserv (fdbKey vid mac) (some ⟨true, paramField x.param 8 8 % 2 ^ 55, s.clk⟩)
  refine ⟨t, ?_, h1, h2, h3, hall⟩
  rw [exec_fdbAdd, execFdbAdd]
  refine State.powered_next hup ?_ hall (by simp)
  simp only [hx, hmac, hvid]
  rw [if_pos (.inr hroom)]
  exact ht

theorem exec_fdbAdd_full (hup : s.Up) (hserv : s.Serves k Blk.FAB) (hx : s.activeOp k Blk.FAB 3 = some x)
    (hmac : beNat (leBytes 6 (paramField x.param 0 6)) = mac) (hvid : paramField x.param 6 2 = vid) (hnone : s.fdbAt vid mac = none)
    (hfull : 4 ≤ (s.bucketOf vid mac).length) (hstatic : ∀ e ∈ s.bucketOf vid mac, e.2.static = true) :
    ∃ t, exec (.fdbAdd k) s = .next t ∧ t.Ended k St.FAIL_CONFLICT 0 ∧ OnlyChanges [.opt, .scn] s t := by
  have hold : (s.bucketOf vid mac).filter (fun y => !y.2.static) = [] := List.filter_eq_nil_iff.mpr fun e he => by simp [hstatic e he]
  rw [exec_fdbAdd, execFdbAdd]
  refine State.powered_decides hup hserv (by decide) ?_
  simp only [hx, hmac, hvid, hnone, hold]
  rw [if_neg (by simp; omega)]

theorem exec_fdbDel_removes (hup : s.Up) (hserv : s.Serves k Blk.FAB) (hx : s.activeOp k Blk.FAB 4 = some x)
    (hmac : beNat (leBytes 6 (paramField x.param 0 6)) = mac) (hvid : paramField x.param 6 2 = vid) (hsome : (s.fdbAt vid mac).isSome = true) :
    ∃ t, exec (.fdbDel k) s = .next t ∧ t.fdbAt vid mac = none ∧ t.Ended k St.OK 0
      ∧ (∀ j, j ≠ fdbKey vid mac → tfind? t.fab.fdb j = tfind? s.fab.fdb j) ∧ OnlyChanges [.regs, .opt, .scn, .fab] s t := by
  obtain ⟨e, he⟩ := Option.isSome_iff_exists.mp hsome
  obtain ⟨t, ht, h1, h2, h3, hall⟩ := State.putFdb_ends hserv (fdbKey vid mac) none
  refine ⟨t, ?_, h1, h2, h3, hall⟩
  rw [exec_fdbDel, execFdbDel]
  refine State.powered_next hup ?_ hall (by simp)
  simp only [hx, hmac, hvid, he]
  exact ht

theorem exec_fdbDel_unknown (hup : s.Up) (hserv : s.Serves k Blk.FAB) (hx : s.activeOp k Blk.FAB 4 = some x)
    (hmac : beNat (leBytes 6 (paramField x.param 0 6)) = mac) (hvid : paramField x.param 6 2 = vid) (hnone : s.fdbAt vid mac = none) :
    ∃ t, exec (.fdbDel k) s = .next t ∧ t.Ended k St.FAIL_INVALID 0 ∧ OnlyChanges [.opt, .scn] s t := by
  rw [exec_fdbDel, execFdbDel]
  refine State.powered_decides hup hserv (by decide) ?_
  simp only [hx, hmac, hvid, hnone]

end

theorem exec_fdbFlush_all (hup : s.Up) (hserv : s.Serves k Blk.FAB) (hx : s.activeOp k Blk.FAB 5 = some x) (hp : paramField x.param 0 1 = 0xFF)
    (hall : bitOf (paramField x.param 1 1) 0 = true) : ∃ t, exec (.fdbFlush k) s = .next t ∧ t.fab.fdb = []
      ∧ t.Ended k St.OK (BitVec.ofNat 32 s.fab.fdb.length) ∧ t.num Reg.FAB_FDB_USED = 0 ∧ OnlyChanges [.regs, .opt, .scn, .fab] s t := by
  obtain ⟨a, ha, a1, a2, a3⟩ : ∃ a, ({ s with fab := { s.fab with fdb := [] } } : State).noteFdb = a ∧ a.fab.fdb = [] ∧ a.num Reg.FAB_FDB_USED = 0
      ∧ OnlyChanges [.regs, .fab] s a :=
    ⟨_, rfl, rfl, (State.setNum_num_same _ _ 0).trans (Nat.zero_mod _), by simp [onlyChanges_iff, State.noteFdb]⟩
  have hserv2 : a.Serves k Blk.FAB := hserv.frame a3
  have hdec := hserv2.onlyChanges (by decide) St.OK (BitVec.ofNat 32 s.fab.fdb.length)
  have hch : OnlyChanges [.regs, .opt, .scn, .fab] s (a.decideOp k St.OK (BitVec.ofNat 32 s.fab.fdb.length)) :=
    (a3.mono (by simp)).trans (hdec.mono (by simp))
  refine ⟨_, ?_, (congrArg Fab.fdb (hdec.2.2 .fab (by simp))).trans a1, hserv2.ended _ _,
    (State.num_congr (hserv2.reg (by decide) _ _ _)).trans a2, hch⟩
  rw [exec_fdbFlush, execFdbFlush]
  refine State.powered_next hup ?_ hch (by simp)
  have hevery : ∀ l : Tbl FdbEntry, l.filter (fun _ => true) = l := fun l => List.filter_eq_self.mpr fun _ _ => rfl
  have hnone : ∀ l : Tbl FdbEntry, l.filter (fun _ => false) = [] := fun l => List.filter_eq_nil_iff.mpr fun _ _ => by simp
  simp only [hx, hp, hall, beq_self_eq_true, Bool.true_or, Bool.and_self, Bool.not_true, hevery, hnone, ha]

theorem exec_fdbRead_lists {l : Tbl FdbEntry} (hup : s.Up) (hserv : s.Serves k Blk.FAB) (hx : s.activeOp k Blk.FAB 6 = some x)
    (hl : s.fab.fdb.take (paramField x.param 16 4) = l) : ∃ t, exec (.fdbRead k) s = .next t ∧ t.Ended k St.OK (BitVec.ofNat 32 l.length)
      ∧ t.out = s.out ++ [.dma (paramField x.param 8 8) ((l.map fdbBytes).flatten)] ∧ OnlyChanges [.out, .opt, .scn] s t := by
  obtain ⟨a, ha, a1, a2⟩ : ∃ a, s.emit (.dma (paramField x.param 8 8) ((l.map fdbBytes).flatten)) = a
      ∧ a.out = s.out ++ [.dma (paramField x.param 8 8) ((l.map fdbBytes).flatten)] ∧ OnlyChanges [.out] s a := ⟨_, rfl, rfl, s.emit_onlyChanges _⟩
  have hserv2 : a.Serves k Blk.FAB := hserv.frame a2
  have hdec := hserv2.onlyChanges (by decide) St.OK (BitVec.ofNat 32 l.length)
  have hch : OnlyChanges [.out, .opt, .scn] s (a.decideOp k St.OK (BitVec.ofNat 32 l.length)) := (a2.mono (by simp)).trans (hdec.mono (by simp))
  have hout : (a.decideOp k St.OK (BitVec.ofNat 32 l.length)).out = a.out := hdec.2.2 .out (by simp)
  refine ⟨_, ?_, hserv2.ended _ _, hout.trans a1, hch⟩
  rw [exec_fdbRead, execFdbRead]
  refine State.powered_next hup ?_ hch (by simp)
  simp only [hx, hl, ha]

end

/-- Settles O38: FAB's operations, form by form. -/
theorem fabricOperations : Obligations.FabricOperations := by
  intro s k x hup hserving
  refine ⟨?_, ?_, ?_, ?_, ?_, ?_, ?_⟩
  · intro d f vid q c hx he hlen hlo hhi hts htx hwait hf
    have hserv := State.serves_of_activeOp hserving hx
    exact ⟨exec_fabFrameTx_disabled hup hserv hx he hlen hlo hhi hts htx hwait,
      exec_fabFrameTx_management hup hserv hx he hlen hlo hhi hts htx hwait hf.symm,
      fun hon hoff hmgmt htag hvid hc hports hpass hq =>
        exec_fabFrameTx_queues hup hx he hlen hlo hhi hts htx hwait hf.symm hon hoff hmgmt htag hvid.symm hc.symm hports hpass hq⟩
  · intro p c fr r _ hx hts hnext hqueue htx hwake
    exact exec_frameTransmit_completes hup hserving hx hts hnext hqueue htx hwake
  · intro hx he hlen _
    exact ⟨exec_frameRx_waits hx rfl he hlen, State.mem_postedRx hx rfl⟩
  · intro e p f l hp hl hact _
    exact State.toEndpoint_ends hl hact
  · intro vid mac hmac hvid
    refine ⟨?_, ?_, ?_, ?_⟩
    · exact fun hx hroom => exec_fdbAdd_adds hup (State.serves_of_activeOp hserving hx) hx hmac.symm hvid.symm hroom
    · exact fun hx hnone hfull hstatic => exec_fdbAdd_full hup (State.serves_of_activeOp hserving hx) hx hmac.symm hvid.symm hnone hfull hstatic
    · exact fun hx hsome => exec_fdbDel_removes hup (State.serves_of_activeOp hserving hx) hx hmac.symm hvid.symm hsome
    · exact fun hx hnone => exec_fdbDel_unknown hup (State.serves_of_activeOp hserving hx) hx hmac.symm hvid.symm hnone
  · intro hx hp hall
    exact exec_fdbFlush_all hup (State.serves_of_activeOp hserving hx) hx hp hall
  · intro l hx hl
    exact exec_fdbRead_lists hup (State.serves_of_activeOp hserving hx) hx hl.symm

end Sys2Proof.Machine

/-! PROOFS. A frame on its way into the fabric touches registers, outputs and FAB's part (R442); HLK's frames are counted (R402). -/

namespace Sys2Proof.Machine

-- One declaration after the other: the stacks of parallel elaboration would count against the memory limit of the check.
set_option Elab.async false

section
variable (s : State)

theorem State.enqueue_onlyChanges (p c : Nat) (q : QFrame) : OnlyChanges [.regs, .out, .fab] s (s.enqueue p c q) := by
  have hdrop : ∀ a : State, OnlyChanges [.regs, .out, .fab] a (a.noteTxPort q.op p false) := fun a => (a.noteTxPort_onlyChanges _ _ _).mono (by simp)
  unfold State.enqueue
  simp only
  split
  · exact hdrop s
  · split
    · exact ((s.cnt_onlyChanges p 32 1).mono (by simp)).trans (hdrop _)
    · obtain ⟨-, -, -, hnote⟩ := State.noteQueued_spec (s.setQueue p c (s.fabQueue p c ++ [q])) p
      have hput := ((s.setQueue_onlyChanges p c (s.fabQueue p c ++ [q])).trans hnote).mono (qs := [.regs, .out, .fab]) (by simp)
      generalize (s.setQueue p c (s.fabQueue p c ++ [q])).noteQueued p = a at *
      split
      · exact hput.trans (a.endLpi_onlyChanges p)
      · exact hput

theorem State.forward_onlyChanges (ingress vid pcp cls : Nat) (keep reserved : Bool) (op : Option Nat) (ptp : Option (Nat × Nat × Nat))
    (ports : List Nat) (f : EthFrame) : OnlyChanges [.regs, .out, .fab] s (s.forward ingress vid pcp cls keep reserved op ptp ports f) := by
  have hloop : ∀ (l : List Nat) (a : State) (n : Nat), OnlyChanges [.regs, .out, .fab] a
      (l.foldl (fun a p => a.enqueue p cls ⟨n, a.retag p vid pcp keep f, ingress, reserved, op, ptp⟩) a) := by
    intro l
    induction l with
    | nil => exact fun a _ => OnlyChanges.refl _ a
    | cons p l ih => exact fun a n => (a.enqueue_onlyChanges p cls _).trans (ih _ n)
  obtain ⟨a, ha, h1⟩ : ∃ a, ({ s with fab := { s.fab with nextId := s.fab.nextId + 1 } } : State) = a ∧ OnlyChanges [.regs, .out, .fab] s a :=
    ⟨_, rfl, by simp [onlyChanges_iff]⟩
  unfold State.forward
  simp only [ha]
  exact (h1.trans (hloop ports a s.fab.nextId)).trans ((State.noteBuf_onlyChanges _).mono (by simp))

theorem State.sendInternal_onlyChanges (ep : Nat) (ptp : Option (Nat × Nat × Nat)) (ports : List Nat) (f : EthFrame) :
    OnlyChanges [.regs, .out, .fab] s (s.sendInternal ep ptp ports f) := by
  unfold State.sendInternal
  split
  · exact (s.satInc_onlyChanges _ _ _ _).mono (by simp)
  · exact s.forward_onlyChanges _ _ _ _ _ _ _ _ _ _

/-- A frame of HLK's leaves with the next COUNTER; HLK's part is otherwise as it was (R402). -/
theorem State.emitLink_hlk (dst type seq flags : Nat) (fields : List Nat) :
    (s.emitLink dst type seq flags fields).hlk = { s.hlk with counter := s.hlk.counter + 1 } := by
  obtain ⟨a, ha, h⟩ : ∃ a, ({ s with hlk := { s.hlk with counter := s.hlk.counter + 1 } } : State) = a
      ∧ a.hlk = { s.hlk with counter := s.hlk.counter + 1 } := ⟨_, rfl, rfl⟩
  unfold State.emitLink
  simp only [ha]
  split
  all_goals exact ((a.sendInternal_onlyChanges _ _ _ _).2.2 .hlk (by simp)).trans h

end

/-- Every frame that HLK sends takes one COUNTER (R402). -/
theorem State.sent_counter {t : State} {l : List LinkSend} {s : State} (h : s.Sent t l) : t.hlk.counter = s.hlk.counter + l.length := by
  induction l generalizing s with
  | nil => exact h.2.1
  | cons f r ih =>
    obtain ⟨a, ⟨-, hcount, -⟩, -, hrest⟩ := h
    rw [ih hrest, State.emitLink_hlk, ← hcount, List.length_cons]
    simp only
    omega

end Sys2Proof.Machine

/-! PROOFS. Refutations of the frames that HLK answers: the way to a member leads to a port beyond the 55 of the fabric, whose counter of
the time in LPI stands where the slot of the hierarchy key keeps its attributes. The first frame of an answer ends LPI there, the counted
time takes the key's VALID away, and the second frame does not leave. -/

namespace Sys2Proof.Machine

-- One declaration after the other: the stacks of parallel elaboration would count against the memory limit of the check.
set_option Elab.async false

/-- The port whose LPI counter is the ATTR word of key slot 9. -/
def keyPort : Nat := 10768

/-- A worker whose hierarchy key stands in slot 9; its way to member 1 is `keyPort`, up, enabled and in LPI for 1 µs. -/
def keyPortState : State :=
  let a := ((State.bare.setFlag (Reg.CTRL Blk.HLK) 0 true).setFld Reg.HLK_CFG 12 4 9).setNum (Reg.KEY_SLOTs_ATTR 9) 0x201
  let b := ((a.setNum (Reg.FAB_PnSTAT keyPort) 0x41).setNum (Reg.FAB_PnCFG keyPort) 1).setFld Reg.HLK_STAT 16 6 1
  { b with clk := 800, arb := { b.arb with coreDown := false }, sup := { b.sup with roleStrap := 2, moduleNum := 2 }
           hlk := { b.hlk with peers := [(1, { Peer.fresh with rxStart := some 0, via := some (0, keyPort) })] } }

/-- A member that is not the manager asks: the manager's number is 0. -/
def keyPortMember : State := keyPortState.setFld Reg.HLK_STAT 16 6 0

/-- The next reliable frame of member 1. -/
def nextFrame : LinkHdr := ⟨1, 0, 1, 0, 1, 0, false, 0, 0, true, 1, 0x11, 1000⟩

theorem keyPortState_takesNext : keyPortState.TakesNext nextFrame := by
  unfold State.TakesNext State.Takes
  decide +kernel

theorem keyPortMember_takesNext : keyPortMember.TakesNext nextFrame := by
  unfold State.TakesNext State.Takes
  decide +kernel

/-- Two frames leave under two counts of COUNTER: where one was counted, they did not. -/
theorem not_sent_two {s t : State} {f g : LinkSend} (hs : s.hlk.counter = 0) (ht : t.hlk.counter = 1) : ¬ s.Sent t [f, g] := fun h => by
  have := State.sent_counter h
  rw [hs, ht] at this
  exact absurd this (by simp)

/-- Refutes O33: WELCOME is answered with REPLICA_REPORT, which takes the link's key away before the acknowledgement. -/
theorem not_membersAndManager : ¬ Obligations.MembersAndManager := by
  unfold Obligations.MembersAndManager
  intro h
  obtain ⟨-, -, -, -, -, -, -, -, -, -, -, -, -, hwelcome, -⟩ := h.1 keyPortState nextFrame rfl
  obtain ⟨t, ht, -, -, -, -, -, -, -, hsent, -⟩ := hwelcome 0 0 0 0 0 0 0 0 0 [] keyPortState_takesNext.1 (by decide +kernel) (by decide +kernel)
    (by decide +kernel) rfl
  exact not_sent_two rfl (eq_of_shown (f := (·.hlk.counter)) ht (by decide +kernel)) hsent

/-- Refutes O34: a refused POINT_WRITE is answered with POINT_ACK, which takes the link's key away before the acknowledgement. -/
theorem not_pointsAcrossModules : ¬ Obligations.PointsAcrossModules := by
  unfold Obligations.PointsAcrossModules
  intro h
  obtain ⟨-, hwrite, -⟩ := h keyPortState nextFrame rfl
  obtain ⟨t, ht, hsent, -⟩ := (hwrite 0 0 0 0 0 0 [] keyPortState_takesNext).1 (by decide +kernel)
  exact not_sent_two rfl (eq_of_shown (f := (·.hlk.counter)) ht (by decide +kernel)) hsent

/-- Refutes O35: a refused STAKE_EDIT is answered with RESULT, which takes the link's key away before the acknowledgement. -/
theorem not_operationsForOtherModules : ¬ Obligations.OperationsForOtherModules := by
  unfold Obligations.OperationsForOtherModules
  intro h
  obtain ⟨hedit, -⟩ := h keyPortMember nextFrame rfl
  obtain ⟨t, ht, -, hsent, -⟩ := (hedit 0 0 0 0 0 0 [] keyPortMember_takesNext).1 (by decide +kernel) (by decide +kernel)
  exact not_sent_two rfl (eq_of_shown (f := (·.hlk.counter)) ht (by decide +kernel)) hsent

/-- Refutes O36: a replica kept is answered with REPLICA_ACK, which takes the link's key away before the acknowledgement. -/
theorem not_unitsAndReplicas : ¬ Obligations.UnitsAndReplicas := by
  unfold Obligations.UnitsAndReplicas
  intro h
  obtain ⟨hput, -⟩ := h.2 keyPortState nextFrame 0 0 rfl
  obtain ⟨t, ht, -, hsent, -⟩ := hput 0 [] keyPortState_takesNext rfl (by decide)
  exact not_sent_two rfl (eq_of_shown (f := (·.hlk.counter)) ht (by decide +kernel)) hsent

end Sys2Proof.Machine

/-! PROOFS. A refutation of the evaluation of the pools. -/

namespace Sys2Proof.Machine

-- One declaration after the other: the stacks of parallel elaboration would count against the memory limit of the check.
set_option Elab.async false

/-! ### The port that asks stands behind a later port in PSE's table -/

/-- Port 0 waits for a grant of 150 mW, of which it has 100, from a pool of 150 mW; PSE's table lists port 1 before it. -/
def outOfOrderState : State :=
  let a := (((State.bare.setFlag (Reg.CTRL Blk.ARB) 0 true).setNum (Reg.ARB_PLq_LIMIT 0) 150).setNum (Reg.PSE_PnALLOC 0) 150).setFld Reg.SUP_MODE 0 2 Mode.RUN
  let b := a.setFld (Reg.PSE_PnSTAT 0) 0 4 PortSt.GRANT_WAIT
  { b with pse := { b.pse with ports := [(1, PortX.idle), (0, { PortX.idle with askClk := some 0, grant := 100 })] } }

/-- Refutes O17: taking up the settings of port 0 puts its entry in its place and leaves the one behind, so that GRANTED counts its
100 mW twice and the pool has no room left: the port is DENIED. -/
theorem not_poolsAreEvaluated : ¬ Obligations.PoolsAreEvaluated := by
  unfold Obligations.PoolsAreEvaluated
  rintro ⟨-, heval, -⟩
  have hoff : ∀ q, q < 48 → outOfOrderState.portSt q ≠ PortSt.POWERED := by
    have table : ∀ q : Fin 48, outOfOrderState.portSt q ≠ PortSt.POWERED := by decide +kernel
    exact fun q hq => table ⟨q, hq⟩
  obtain ⟨t, ht, hst, -⟩ := heval outOfOrderState 0 ⟨.port 0, 0, 0, Blk.PSE, 0⟩ rfl ⟨rfl, rfl⟩ (by decide) (by decide +kernel) rfl rfl hoff rfl rfl
    (by decide +kernel) (by decide +kernel) (by decide +kernel) (by decide +kernel) (by decide +kernel) rfl (by decide +kernel) (by decide +kernel)
    (by decide +kernel) (by decide +kernel) (by decide +kernel)
  have hdenied : t.portSt 0 = PortSt.DENIED := eq_of_shown (f := fun t => t.portSt 0) ht (by decide +kernel)
  rw [hdenied] at hst
  exact absurd hst (by decide)

end Sys2Proof.Machine

/-! PROOFS. The bulk supply's conditions, and what the dies report and keep. -/

namespace Sys2Proof.Machine

-- One declaration after the other: the stacks of parallel elaboration would count against the memory limit of the check.
set_option Elab.async false

section
variable {s : State}

/-- The shown voltage and one condition bit; the other bits of PSE_GSTAT stand (R148). -/
theorem State.vpseShow_spec (s : State) (mv bit : Nat) (on : Bool) (hbit : bit < 32) :
    (s.vpseShow mv bit on).pse = s.pse ∧ (s.vpseShow mv bit on).num Reg.PSE_VPSE = mv % 2 ^ 32
    ∧ (s.vpseShow mv bit on).flag Reg.PSE_GSTAT bit = on
    ∧ (∀ i, i ≠ bit → (s.vpseShow mv bit on).flag Reg.PSE_GSTAT i = s.flag Reg.PSE_GSTAT i)
    ∧ OnlyChanges [.regs, .out] s (s.vpseShow mv bit on)
    ∧ OnlyRegs (Reg.PSE_VPSE :: Reg.PSE_GSTAT :: irqRegs Blk.PSE) s (s.vpseShow mv bit on) := by
  have hshown : (s.setNum Reg.PSE_VPSE mv).num Reg.PSE_VPSE = mv % 2 ^ 32 := s.setNum_num_same _ _
  have hgstat : ∀ i, (s.setNum Reg.PSE_VPSE mv).flag Reg.PSE_GSTAT i = s.flag Reg.PSE_GSTAT i :=
    fun i => State.flag_congr _ _ _ _ (s.setNum_reg_other _ _ _ (by decide))
  have hch := s.setNum_onlyChanges Reg.PSE_VPSE mv
  have hregs : OnlyRegs (Reg.PSE_VPSE :: Reg.PSE_GSTAT :: irqRegs Blk.PSE) s (s.setNum Reg.PSE_VPSE mv) :=
    (OnlyRegs.refl _ s).setNum
  unfold State.vpseShow
  generalize s.setNum Reg.PSE_VPSE mv = a at *
  simp only
  split
  · exact ⟨hch.2.2 .pse (by simp), hshown, ‹_›, fun i _ => hgstat i, hch.mono (by simp), hregs⟩
  · have hirq : ∀ off, off ∉ irqRegs Blk.PSE → ((a.setFlag Reg.PSE_GSTAT bit on).raiseIrq Blk.PSE 5).reg off
        = (a.setFlag Reg.PSE_GSTAT bit on).reg off := State.raiseIrq_onlyRegs _ _ _
    have hall : OnlyChanges [.regs, .out] s ((a.setFlag Reg.PSE_GSTAT bit on).raiseIrq Blk.PSE 5) :=
      (hch.mono (by simp)).trans (((a.setFlag_onlyChanges _ _ _).mono (by simp)).trans (State.raiseIrq_onlyChanges _ _ _))
    refine ⟨hall.2.2 .pse (by simp), ?_, ?_, fun i hi => ?_, hall, hregs.setFlag.trans ((State.raiseIrq_onlyRegs _ _ _).mono (by simp))⟩
    · rw [State.num_congr (hirq _ (by decide)), State.num_congr (State.setFlag_reg_other _ _ _ _ _ (by decide)), hshown]
    · rw [State.flag_congr _ _ _ _ (hirq _ (by decide)), State.setFlag_flag_same _ _ _ _ hbit]
    · rw [State.flag_congr _ _ _ _ (hirq _ (by decide)), State.setFlag_flag_other _ _ _ _ _ hbit hi.symm, hgstat]

theorem State.setDieMode_spec (s : State) (d m : Nat) :
    (s.setDieMode d m).dieMode d = m ∧ (∀ e, e ≠ d → (s.setDieMode d m).dieMode e = s.dieMode e)
    ∧ (s.setDieMode d m).pse = { s.pse with dieMode := tset (fun _ => 0) s.pse.dieMode d m }
    ∧ OnlyChanges [.regs, .pse] s (s.setDieMode d m) ∧ OnlyRegs [Reg.PSE_DIE_STAT] s (s.setDieMode d m) := by
  refine ⟨?_, fun e he => ?_, rfl, ?_, ?_⟩
  · exact (tget_tset (fun _ => 0) s.pse.dieMode d d m).trans (if_pos rfl)
  · exact (tget_tset (fun _ => 0) s.pse.dieMode d e m).trans (if_neg he.symm)
  · simp [State.setDieMode, onlyChanges_iff]
  · exact OnlyRegs.setFld (OnlyRegs.of_regs_eq rfl)

/-- Every die is OFF (R153). -/
theorem State.diesOff_mode (s : State) {d : Nat} (hd : d < 6) : s.diesOff.dieMode d = 3 := by
  obtain ⟨a, -, h⟩ := s.forN_view_of_one (·.dieMode d) 6 d (fun a d => a.setDieMode d 3) hd
    fun a i hi => (a.setDieMode_spec i 3).2.1 d (Ne.symm hi)
  exact h.trans (a.setDieMode_spec d 3).1

/-- A cut-off supply shown by its bit, with POWER_GOOD gone (R148). -/
def State.showCut (s : State) (mv bit : Nat) : State :=
  (({ s with pse := { s.pse with vpseCut := true } } : State).vpseShow mv bit true).vpseShow mv 0 false

theorem State.showCut_spec (s : State) (mv bit : Nat) (hbit : bit < 32) (h0 : bit ≠ 0) :
    (s.showCut mv bit).pse = { s.pse with vpseCut := true } ∧ (s.showCut mv bit).flag Reg.PSE_GSTAT bit = true
    ∧ (s.showCut mv bit).flag Reg.PSE_GSTAT 0 = false := by
  obtain ⟨a, ha, hpse⟩ : ∃ a, ({ s with pse := { s.pse with vpseCut := true } } : State) = a ∧ a.pse = { s.pse with vpseCut := true } :=
    ⟨_, rfl, rfl⟩
  unfold State.showCut
  rw [ha]
  obtain ⟨p1, -, f1, -⟩ := a.vpseShow_spec mv bit true hbit
  obtain ⟨p2, -, f2, k2, -⟩ := (a.vpseShow mv bit true).vpseShow_spec mv 0 false (by decide)
  exact ⟨p2.trans (p1.trans hpse), (k2 bit h0).trans f1, f2⟩

/-! ### The conditions -/

theorem vpseHold_spec (hup : s.Up) {mv : Nat} (hmv : mv < 2 ^ 32) (hout : mv < 49000 ∨ 58000 < mv) :
    ∃ t, exec (.vpseHold mv) s = .next t ∧ t.pse.hold = true ∧ t.num Reg.PSE_VPSE = mv
      ∧ t.flag Reg.PSE_GSTAT 1 = true ∧ t.flag Reg.PSE_GSTAT 0 = false ∧ OnlyChanges [.regs, .out, .pse] s t
      ∧ OnlyRegs (Reg.PSE_VPSE :: Reg.PSE_GSTAT :: irqRegs Blk.PSE) s t := by
  obtain ⟨a, ha, hpse, hch, hregs⟩ : ∃ a, ({ s with pse := { s.pse with hold := true } } : State) = a ∧ a.pse.hold = true
      ∧ OnlyChanges [.regs, .out, .pse] s a ∧ OnlyRegs (Reg.PSE_VPSE :: Reg.PSE_GSTAT :: irqRegs Blk.PSE) s a :=
    ⟨_, rfl, rfl, by simp [onlyChanges_iff], OnlyRegs.of_regs_eq rfl⟩
  obtain ⟨p1, -, f1, -, c1, r1⟩ := a.vpseShow_spec mv 1 true (by decide)
  obtain ⟨p2, n2, f2, k2, c2, r2⟩ := (a.vpseShow mv 1 true).vpseShow_spec mv 0 false (by decide)
  have hall := hch.trans ((c1.trans c2).mono (qs := [.regs, .out, .pse]) (by simp))
  refine ⟨_, ?_, ?_, n2.trans (Nat.mod_eq_of_lt hmv), (k2 1 (by decide)).trans f1, f2, hall, hregs.trans (r1.trans r2)⟩
  · rw [exec_vpseHold, execVpseHold]
    exact State.powered_next hup (by rw [if_neg (by omega)]; simp only [ha]) hall (by simp)
  · rw [p2, p1, hpse]

theorem vpseHoldEnd_spec (hup : s.Up) {mv : Nat} (h1 : 51000 ≤ mv) (h2 : mv ≤ 57000) :
    ∃ t, exec (.vpseHoldEnd mv) s = .next t ∧ t.pse.hold = false
      ∧ t.flag Reg.PSE_GSTAT 1 = false ∧ t.flag Reg.PSE_GSTAT 0 = !s.pse.vpseCut ∧ OnlyChanges [.regs, .out, .pse] s t
      ∧ OnlyRegs (Reg.PSE_VPSE :: Reg.PSE_GSTAT :: irqRegs Blk.PSE) s t := by
  obtain ⟨a, ha, hpse, hch, hregs⟩ : ∃ a, ({ s with pse := { s.pse with hold := false } } : State) = a ∧ a.pse.hold = false
      ∧ OnlyChanges [.regs, .out, .pse] s a ∧ OnlyRegs (Reg.PSE_VPSE :: Reg.PSE_GSTAT :: irqRegs Blk.PSE) s a :=
    ⟨_, rfl, rfl, by simp [onlyChanges_iff], OnlyRegs.of_regs_eq rfl⟩
  obtain ⟨p1, -, f1, -, c1, r1⟩ := a.vpseShow_spec mv 1 false (by decide)
  obtain ⟨p2, -, f2, k2, c2, r2⟩ := (a.vpseShow mv 1 false).vpseShow_spec mv 0 (!s.pse.vpseCut) (by decide)
  have hall := hch.trans ((c1.trans c2).mono (qs := [.regs, .out, .pse]) (by simp))
  refine ⟨_, ?_, ?_, (k2 1 (by decide)).trans f1, f2, hall, hregs.trans (r1.trans r2)⟩
  · rw [exec_vpseHoldEnd, execVpseHoldEnd]
    exact State.powered_next hup (by rw [if_neg (by omega)]; simp only [ha]) hall (by simp)
  · rw [p2, p1, hpse]

theorem vpseUvCut_spec (hup : s.Up) (halone : s.Alone) {mv : Nat} (hmv : mv < 44000) :
    ∃ t, exec (.vpseUvCut mv) s = .next t ∧ t.pse.vpseCut = true ∧ t.flag Reg.PSE_GSTAT 2 = true
      ∧ t.flag Reg.PSE_GSTAT 0 = false ∧ ∀ d, d < 6 → t.dieMode d = 3 := by
  have hf : s.yielding (Rank.CUT 6) (.vpseUvCut mv) (fun s => if 44000 ≤ mv then s else
      if s.sup.inReset then (s.cutAll Off.VPSE_UV).diesOff else (s.cutAll Off.VPSE_UV).diesOff.showCut mv 2)
      = (s.cutAll Off.VPSE_UV).diesOff.showCut mv 2 := by
    rw [State.yielding_of_alone halone, if_neg (by omega), if_neg (by rw [hup]; decide)]
  have hmode : ∀ d, d < 6 → (s.cutAll Off.VPSE_UV).diesOff.dieMode d = 3 := fun d => (s.cutAll Off.VPSE_UV).diesOff_mode
  generalize (s.cutAll Off.VPSE_UV).diesOff = a at *
  obtain ⟨p1, f2, f0⟩ := a.showCut_spec mv 2 (by decide) (by decide)
  refine ⟨s.guarded (a.showCut mv 2), ?_, congrArg (·.vpseCut) p1, f2, f0, fun d hd => ?_⟩
  · rw [exec_vpseUvCut, execVpseUvCut, State.always]
    exact congrArg (fun t => Host.Outcome.next (s.guarded t)) hf
  · exact Eq.trans (congrArg (fun p => tget (fun _ => 0) p.dieMode d) p1 :) (hmode d hd)

theorem vpseOvCut_spec (hup : s.Up) (halone : s.Alone) {mv : Nat} (hmv : 60000 < mv) :
    ∃ t, exec (.vpseOvCut mv) s = .next t ∧ t.pse.vpseCut = true ∧ t.flag Reg.PSE_GSTAT 3 = true
      ∧ t.flag Reg.PSE_GSTAT 0 = false := by
  have hf : s.yielding (Rank.CUT 7) (.vpseOvCut mv) (fun s => if mv ≤ 60000 then s else (s.cutAll Off.VPSE_OV).showCut mv 3)
      = (s.cutAll Off.VPSE_OV).showCut mv 3 := by
    rw [State.yielding_of_alone halone, if_neg (by omega)]
  generalize s.cutAll Off.VPSE_OV = a at *
  obtain ⟨p1, f3, f0⟩ := a.showCut_spec mv 3 (by decide) (by decide)
  refine ⟨s.guarded (a.showCut mv 3), ?_, congrArg (·.vpseCut) p1, f3, f0⟩
  rw [exec_vpseOvCut, execVpseOvCut, s.powered_run _ hup]
  exact congrArg (fun t => Host.Outcome.next (s.guarded t)) hf

theorem vpseRev_spec (hup : s.Up) (halone : s.Alone) :
    ∃ t, exec .vpseRev s = .next t ∧ t.pse.vpseCut = true ∧ t.flag Reg.PSE_GSTAT 4 = true
      ∧ t.flag (Reg.STAT Blk.PSE) 2 = true ∧ ∀ d, d < 6 → t.dieMode d = 3 := by
  have hf : s.yielding (Rank.CUT 0) .vpseRev (fun s => if s.sup.inReset then (s.cutAll Off.VPSE_REV).diesOff
      else ((s.cutAll Off.VPSE_REV).diesOff.showCut 0 4).setFlag (Reg.STAT Blk.PSE) 2 true)
      = ((s.cutAll Off.VPSE_REV).diesOff.showCut 0 4).setFlag (Reg.STAT Blk.PSE) 2 true := by
    rw [State.yielding_of_alone halone, if_neg (by rw [hup]; decide)]
  have hmode : ∀ d, d < 6 → (s.cutAll Off.VPSE_REV).diesOff.dieMode d = 3 := fun d => (s.cutAll Off.VPSE_REV).diesOff_mode
  generalize (s.cutAll Off.VPSE_REV).diesOff = a at *
  obtain ⟨p1, f4, -⟩ := a.showCut_spec 0 4 (by decide) (by decide)
  refine ⟨s.guarded ((a.showCut 0 4).setFlag (Reg.STAT Blk.PSE) 2 true), ?_, congrArg (·.vpseCut) p1, ?_, ?_, fun d hd => ?_⟩
  · rw [exec_vpseRev, execVpseRev, State.always]
    exact congrArg (fun t => Host.Outcome.next (s.guarded t)) hf
  · exact ((a.showCut 0 4).setFlag_flag_reg _ _ _ _ _ (by decide)).trans f4
  · exact (a.showCut 0 4).setFlag_flag_same _ _ _ (by decide)
  · exact Eq.trans (congrArg (fun p => tget (fun _ => 0) p.dieMode d) p1 :) (hmode d hd)

/-- What the dies that were OFF are after the supply's return (R153). -/
def resumeDie (a : State) (d : Nat) : State :=
  if a.dieMode d = 3 then a.setDieMode d (if a.en Blk.PSE then 0 else 1) else a

theorem resumeDie_spec (a : State) (d : Nat) : (resumeDie a d).pse.vpseCut = a.pse.vpseCut ∧ (resumeDie a d).pse.hold = a.pse.hold
    ∧ OnlyChanges [.regs, .out, .pse] a (resumeDie a d) := by
  unfold resumeDie
  split
  · exact ⟨rfl, rfl, (a.setDieMode_spec d _).2.2.2.1.mono (by simp)⟩
  · exact ⟨rfl, rfl, OnlyChanges.refl _ a⟩

theorem vpseResume_spec (hup : s.Up) {mv : Nat} (h1 : 51000 ≤ mv) (h2 : mv ≤ 57000) (hcut : s.pse.vpseCut = true) :
    ∃ t, exec (.vpseResume mv) s = .next t ∧ t.pse.vpseCut = false
      ∧ t.pse.hold = false ∧ t.flag Reg.PSE_GSTAT 0 = true ∧ t.flag Reg.PSE_GSTAT 2 = false
      ∧ t.flag (Reg.STAT Blk.PSE) 2 = false ∧ OnlyChanges [.regs, .out, .pse] s t := by
  obtain ⟨a, ha, hpse, hhold, hch⟩ : ∃ a, ({ s with pse := { s.pse with vpseCut := false, hold := false } } : State) = a
      ∧ a.pse.vpseCut = false ∧ a.pse.hold = false ∧ OnlyChanges [.regs, .out, .pse] s a :=
    ⟨_, rfl, rfl, rfl, by simp [onlyChanges_iff]⟩
  have hdies : OnlyChanges [.regs, .out, .pse] a (a.forN 6 resumeDie) := State.forN_onlyChanges _ fun a i => (resumeDie_spec a i).2.2
  have hcut6 : (a.forN 6 resumeDie).pse.vpseCut = false :=
    (State.forN_view_of_keeps (·.pse.vpseCut) a 6 _ fun a i _ => (resumeDie_spec a i).1).trans hpse
  have hhold6 : (a.forN 6 resumeDie).pse.hold = false :=
    (State.forN_view_of_keeps (·.pse.hold) a 6 _ fun a i _ => (resumeDie_spec a i).2.1).trans hhold
  have hrun : ∀ t, (((((((a.forN 6 resumeDie).vpseShow mv 2 false).vpseShow mv 3 false).vpseShow mv 4 false).vpseShow mv 1 false).vpseShow
      mv 0 true).setFlag (Reg.STAT Blk.PSE) 2 false) = t → OnlyChanges [.regs, .out, .pse] s t → exec (.vpseResume mv) s = .next t := by
    intro t ht hall
    rw [exec_vpseResume, execVpseResume]
    refine State.powered_next hup ?_ hall (by simp)
    rw [if_neg (by simp only [hcut]; simp; omega)]
    simp only [ha]
    exact ht
  generalize a.forN 6 resumeDie = b at *
  obtain ⟨p2, -, f2, -, c2, -⟩ := b.vpseShow_spec mv 2 false (by decide)
  generalize b.vpseShow mv 2 false = b2 at *
  obtain ⟨p3, -, -, k3, c3, -⟩ := b2.vpseShow_spec mv 3 false (by decide)
  generalize b2.vpseShow mv 3 false = b3 at *
  obtain ⟨p4, -, -, k4, c4, -⟩ := b3.vpseShow_spec mv 4 false (by decide)
  generalize b3.vpseShow mv 4 false = b4 at *
  obtain ⟨p1, -, -, k1, c1, -⟩ := b4.vpseShow_spec mv 1 false (by decide)
  generalize b4.vpseShow mv 1 false = b1 at *
  obtain ⟨p0, -, f0, k0, c0, -⟩ := b1.vpseShow_spec mv 0 true (by decide)
  generalize b1.vpseShow mv 0 true = b0 at *
  have hpart : b0.pse = b.pse := p0.trans (p1.trans (p4.trans (p3.trans p2)))
  have hshow := (((c2.trans c3).trans (c4.trans c1)).trans c0).trans ((b0.setFlag_onlyChanges (Reg.STAT Blk.PSE) 2 false).mono (by simp))
  have hall := (hch.trans hdies).trans (hshow.mono (qs := [.regs, .out, .pse]) (by simp))
  refine ⟨_, hrun _ rfl hall, (congrArg (·.vpseCut) hpart).trans hcut6, (congrArg (·.hold) hpart).trans hhold6, ?_, ?_,
    b0.setFlag_flag_same _ _ _ (by decide), hall⟩
  · rw [b0.setFlag_flag_reg _ _ _ _ _ (by decide), f0]
  · rw [b0.setFlag_flag_reg _ _ _ _ _ (by decide), k0 2 (by decide), k1 2 (by decide), k4 2 (by decide), k3 2 (by decide), f2]

/-! ### The dies -/

theorem dieTemp_cool (s : State) {d : Nat} (hd : d < 6) {temp : Int} (ht : temp ≤ 1450) : ∃ t, exec (.dieTemp d temp) s = .next t
      ∧ t.fld (Reg.PSE_DIEd_TEMP d) 0 16 = unsigned 16 temp ∧ t.flag Reg.PSE_DIE_STAT (12 + d) = decide (1250 < temp)
      ∧ (temp < 1250 → t.flag Reg.PSE_DIE_STAT (18 + d) = false)
      ∧ OnlyChanges [.regs] s t ∧ OnlyRegs [Reg.PSE_DIEd_TEMP d, Reg.PSE_DIE_STAT] s t := by
  have hoff : Reg.PSE_DIE_STAT ≠ Reg.PSE_DIEd_TEMP d := by simp only [Reg.PSE_DIE_STAT, Reg.PSE_DIEd_TEMP]; omega
  have hfit : unsigned 16 temp % 2 ^ 16 = unsigned 16 temp := by unfold unsigned; omega
  have hrun : ∀ t, (if temp < 1250 then ((s.setFld (Reg.PSE_DIEd_TEMP d) 0 16 (unsigned 16 temp)).setFlag Reg.PSE_DIE_STAT (12 + d)
        (1250 < temp)).setFlag Reg.PSE_DIE_STAT (18 + d) false
      else (s.setFld (Reg.PSE_DIEd_TEMP d) 0 16 (unsigned 16 temp)).setFlag Reg.PSE_DIE_STAT (12 + d) (1250 < temp)) = t →
      OnlyChanges [.regs] s t → exec (.dieTemp d temp) s = .next t := by
    intro t htt hch
    rw [exec_dieTemp, execDieTemp]
    refine State.always_next ?_ hch (by simp)
    rw [if_neg (by omega), if_neg (by omega), if_neg (by omega)]
    exact htt
  have htemp : (s.setFld (Reg.PSE_DIEd_TEMP d) 0 16 (unsigned 16 temp)).fld (Reg.PSE_DIEd_TEMP d) 0 16 = unsigned 16 temp :=
    (s.setFld_fld_same _ _ _ _ (by decide)).trans hfit
  have hch := s.setFld_onlyChanges (Reg.PSE_DIEd_TEMP d) 0 16 (unsigned 16 temp)
  have hregs : OnlyRegs [Reg.PSE_DIEd_TEMP d, Reg.PSE_DIE_STAT] s (s.setFld (Reg.PSE_DIEd_TEMP d) 0 16 (unsigned 16 temp)) :=
    (OnlyRegs.refl _ s).setFld
  generalize s.setFld (Reg.PSE_DIEd_TEMP d) 0 16 (unsigned 16 temp) = a at *
  have hwarn : (a.setFlag Reg.PSE_DIE_STAT (12 + d) (1250 < temp)).flag Reg.PSE_DIE_STAT (12 + d) = decide (1250 < temp) :=
    a.setFlag_flag_same _ _ _ (by omega)
  have htemp2 : (a.setFlag Reg.PSE_DIE_STAT (12 + d) (1250 < temp)).fld (Reg.PSE_DIEd_TEMP d) 0 16 = unsigned 16 temp :=
    (State.fld_congr (a.setFlag_reg_other _ _ _ _ hoff) _ _).trans htemp
  have hch2 := hch.trans (a.setFlag_onlyChanges Reg.PSE_DIE_STAT (12 + d) (1250 < temp))
  have hregs2 : OnlyRegs [Reg.PSE_DIEd_TEMP d, Reg.PSE_DIE_STAT] s (a.setFlag Reg.PSE_DIE_STAT (12 + d) (1250 < temp)) := hregs.setFlag
  generalize a.setFlag Reg.PSE_DIE_STAT (12 + d) (1250 < temp) = b at *
  by_cases hcold : temp < 1250
  · have hch3 := hch2.trans (b.setFlag_onlyChanges Reg.PSE_DIE_STAT (18 + d) false)
    refine ⟨_, hrun _ (if_pos hcold) hch3, ?_, ?_, fun _ => b.setFlag_flag_same _ _ _ (by omega), hch3, hregs2.setFlag⟩
    · exact (State.fld_congr (b.setFlag_reg_other _ _ _ _ hoff) _ _).trans htemp2
    · rw [b.setFlag_flag_other _ _ _ _ (by omega) (by omega), hwarn]
  · exact ⟨_, hrun _ (if_neg hcold) hch2, htemp2, hwarn, fun h => absurd h hcold, hch2, hregs2⟩

theorem dieTemp_hot {d : Nat} (hd : d < 6) {temp : Int} (ht : 1450 < temp) (halone : s.Alone) :
    ∃ t, exec (.dieTemp d temp) s = .next t ∧ t.flag Reg.PSE_DIE_STAT (18 + d) = true := by
  rw [exec_dieTemp, execDieTemp, State.always]
  refine ⟨_, rfl, ?_⟩
  rw [if_neg (by omega), if_neg (by rw [State.together_of_alone halone]; simp)]
  simp only [if_pos ht]
  generalize List.foldl _ _ _ = a
  have hirq : ((a.setFlag Reg.PSE_DIE_STAT (18 + d) true).raiseIrq Blk.PSE 6).flag Reg.PSE_DIE_STAT (18 + d) = true :=
    (State.flag_congr _ _ _ _ (State.raiseIrq_onlyRegs _ _ _ _ (by decide))).trans (a.setFlag_flag_same _ _ _ (by omega))
  exact hirq

theorem dieTemp_defers {d : Nat} (hd : d < 6) {temp : Int} (ht : 1450 < temp) (htog : s.together = true) :
    ∃ t, exec (.dieTemp d temp) s = .next t ∧ s.Defers t (Rank.CUT 5) (.dieTemp d temp) := by
  refine ⟨s.defer (Rank.CUT 5) (.dieTemp d temp), ?_, rfl⟩
  rw [exec_dieTemp, execDieTemp, State.always, if_neg (by omega), if_pos ⟨ht, htog⟩]
  rfl

/-! ### Dies without a link -/

theorem State.setDiePort_spec (s : State) (p : Nat) (x : DiePort) : (s.setDiePort p x).diePort p = x
    ∧ (∀ q, q ≠ p → (s.setDiePort p x).diePort q = s.diePort q) ∧ OnlyChanges [.regs, .pse] s (s.setDiePort p x)
    ∧ OnlyRegs [Reg.PSE_DIE_STAT] s (s.setDiePort p x) :=
  ⟨(tget_tset _ s.pse.diePorts p p x).trans (if_pos rfl),
    fun q hq => (tget_tset _ s.pse.diePorts p q x).trans (if_neg (Ne.symm hq)), by simp [State.setDiePort, onlyChanges_iff],
    OnlyRegs.of_regs_eq rfl⟩

/-- What a die does to its `k`-th port as it turns autonomous: a SUSTAIN port is held, another goes off (R153, R154). -/
def holdPort (die : Nat) (a : State) (k : Nat) : State :=
  let p := 8 * die + k
  let d := a.diePort p
  if d.pairs = 0 then a
  else if d.sustain then a.setDiePort p { d with count := if a.dieMode die = 0 then 0 else d.count }
  else a.setDiePort p { d with pairs := 0, reason := Off.NOT_SUSTAINED }

theorem holdPort_frame (die : Nat) (a : State) (k : Nat) : (∀ q, q ≠ 8 * die + k → (holdPort die a k).diePort q = a.diePort q)
    ∧ OnlyChanges [.regs, .pse] a (holdPort die a k) ∧ OnlyRegs [Reg.PSE_DIE_STAT] a (holdPort die a k) := by
  unfold holdPort
  simp only
  split
  · exact ⟨fun _ _ => rfl, OnlyChanges.refl _ a, OnlyRegs.refl _ a⟩
  · split
    all_goals exact (State.setDiePort_spec _ _ _).2

/-- The pairsets that stay on are those of a SUSTAIN port. -/
theorem holdPort_pairs {die k : Nat} {a : State} (hon : (a.diePort (8 * die + k)).pairs ≠ 0) :
    ((holdPort die a k).diePort (8 * die + k)).pairs
      = if (a.diePort (8 * die + k)).sustain then (a.diePort (8 * die + k)).pairs else 0 := by
  unfold holdPort
  simp only [if_neg hon]
  by_cases hsus : (a.diePort (8 * die + k)).sustain = true
  · rw [if_pos hsus, if_pos hsus, (State.setDiePort_spec _ _ _).1]
  · rw [if_neg hsus, if_neg hsus, (State.setDiePort_spec _ _ _).1]

theorem dieAutonomous_spec (s : State) {d : Nat} (hd : d < 6) (hmode : s.dieMode d = 0) :
    ∃ t, exec (.dieAutonomous d) s = .next t ∧ t.dieMode d = 2
      ∧ (∀ k, k < 8 → (s.diePort (8 * d + k)).pairs ≠ 0 →
          (t.diePort (8 * d + k)).pairs = (if (s.diePort (8 * d + k)).sustain then (s.diePort (8 * d + k)).pairs else 0))
      ∧ OnlyChanges [.regs, .pse] s t ∧ OnlyRegs [Reg.PSE_DIE_STAT] s t := by
  have hrun : ∀ t, (s.forN 8 (holdPort d)).setDieMode d 2 = t → OnlyChanges [.regs, .pse] s t → exec (.dieAutonomous d) s = .next t := by
    intro t ht hch
    rw [exec_dieAutonomous, execDieAutonomous]
    refine State.always_next ?_ hch (by simp)
    rw [if_neg (by omega)]
    exact ht
  have hports : ∀ k, k < 8 → (s.diePort (8 * d + k)).pairs ≠ 0 → ((s.forN 8 (holdPort d)).diePort (8 * d + k)).pairs
      = if (s.diePort (8 * d + k)).sustain then (s.diePort (8 * d + k)).pairs else 0 := by
    intro k hk hon
    obtain ⟨a, ha, h⟩ := s.forN_view_of_one (·.diePort (8 * d + k)) 8 k (holdPort d) hk
      fun a i hi => (holdPort_frame d a i).1 _ (by omega)
    rw [h, holdPort_pairs (by rw [ha]; exact hon), ha]
  have hch : OnlyChanges [.regs, .pse] s (s.forN 8 (holdPort d)) := State.forN_onlyChanges _ fun a i => (holdPort_frame d a i).2.1
  have hregs : OnlyRegs [Reg.PSE_DIE_STAT] s (s.forN 8 (holdPort d)) := State.forN_onlyRegs _ fun a i => (holdPort_frame d a i).2.2
  generalize s.forN 8 (holdPort d) = a at *
  obtain ⟨hm, -, hp, hc, hr⟩ := a.setDieMode_spec d 2
  refine ⟨_, hrun _ rfl (hch.trans hc), hm, fun k hk hon => ?_, hch.trans hc, hregs.trans hr⟩
  exact Eq.trans (congrArg (fun p => (tget (fun _ => DiePort.off) p.diePorts (8 * d + k)).pairs) hp :) (hports k hk hon)

theorem dieColdPowerUp_spec (s : State) {d : Nat} (hd : d < 6) (hmode : s.dieMode d ≠ 0) :
    ∃ t, exec (.dieColdPowerUp d) s = .next t ∧ t.dieMode d = 2
      ∧ tget (fun _ => false) t.pse.cold d = true ∧ (∀ k, k < 8 → t.diePort (8 * d + k) = DiePort.off)
      ∧ OnlyChanges [.regs, .pse] s t ∧ OnlyRegs [Reg.PSE_DIE_STAT] s t := by
  have hrun : ∀ a t, s.forN 8 (fun a k => a.setDiePort (8 * d + k) DiePort.off) = a →
      ({ a with pse := { a.pse with cold := tset (fun _ => false) a.pse.cold d true } } : State).setDieMode d 2 = t →
      OnlyChanges [.regs, .pse] s t → exec (.dieColdPowerUp d) s = .next t := by
    intro a t ha ht hch
    rw [exec_dieColdPowerUp, execDieColdPowerUp]
    refine State.always_next ?_ hch (by simp)
    rw [if_pos ⟨hd, hmode⟩]
    subst ha
    exact ht
  have hports : ∀ k, k < 8 → (s.forN 8 (fun a k => a.setDiePort (8 * d + k) DiePort.off)).diePort (8 * d + k) = DiePort.off := by
    intro k hk
    obtain ⟨a, -, h⟩ := s.forN_view_of_one (·.diePort (8 * d + k)) 8 k (fun a k => a.setDiePort (8 * d + k) DiePort.off) hk
      fun a i hi => (a.setDiePort_spec _ _).2.1 _ (by omega)
    exact h.trans (a.setDiePort_spec _ _).1
  have hch : OnlyChanges [.regs, .pse] s (s.forN 8 (fun a k => a.setDiePort (8 * d + k) DiePort.off)) :=
    State.forN_onlyChanges _ fun a i => (a.setDiePort_spec _ _).2.2.1
  have hregs : OnlyRegs [Reg.PSE_DIE_STAT] s (s.forN 8 (fun a k => a.setDiePort (8 * d + k) DiePort.off)) :=
    State.forN_onlyRegs _ fun a i => (a.setDiePort_spec _ _).2.2.2
  generalize ha : s.forN 8 (fun a k => a.setDiePort (8 * d + k) DiePort.off) = a at *
  obtain ⟨b, hb, hpse, hcb, hrb⟩ : ∃ b, ({ a with pse := { a.pse with cold := tset (fun _ => false) a.pse.cold d true } } : State) = b
      ∧ b.pse = { a.pse with cold := tset (fun _ => false) a.pse.cold d true } ∧ OnlyChanges [.regs, .pse] a b
      ∧ OnlyRegs [Reg.PSE_DIE_STAT] a b := ⟨_, rfl, rfl, by simp [onlyChanges_iff], OnlyRegs.of_regs_eq rfl⟩
  obtain ⟨hm, -, hp, hc, hr⟩ := b.setDieMode_spec d 2
  rw [hpse] at hp
  have hall := hch.trans (hcb.trans hc)
  refine ⟨_, hrun a _ rfl (by rw [hb]) hall, hm, ?_, fun k hk => ?_, hall, hregs.trans (hrb.trans hr)⟩
  · exact Eq.trans (congrArg (fun p => tget (fun _ => false) p.cold d) hp :) ((tget_tset _ a.pse.cold d d true).trans (if_pos rfl))
  · exact Eq.trans (congrArg (fun p => tget (fun _ => DiePort.off) p.diePorts (8 * d + k)) hp :) (hports k hk)

/-! ### The adoption record -/

/-- The newest half has the highest sequence of the entry. -/
theorem AdoptRec.le_newest {r : AdoptRec} {x : AdoptHalf} (hx : r.a = some x ∨ r.b = some x) :
    ∃ g, r.newest = some g ∧ x.seq ≤ g.seq := by
  obtain ⟨a, b⟩ := r
  obtain rfl | rfl := hx
  · cases b with
    | none => exact ⟨x, rfl, le_refl _⟩
    | some y =>
      simp only [AdoptRec.newest]
      split
      · exact ⟨y, rfl, by omega⟩
      · exact ⟨x, rfl, le_refl _⟩
  · cases a with
    | none => exact ⟨x, rfl, le_refl _⟩
    | some y =>
      simp only [AdoptRec.newest]
      split
      · exact ⟨x, rfl, le_refl _⟩
      · exact ⟨y, rfl, by omega⟩

/-- A half written with a sequence above the newest is the newest, whichever half it takes (R155). -/
theorem AdoptRec.newest_written {r : AdoptRec} {h : AdoptHalf} {c : Prop} [Decidable c] (hseq : ∀ g, r.newest = some g → g.seq < h.seq) :
    (if c then ({ r with a := some h } : AdoptRec) else { r with b := some h }).newest = some h := by
  have hbelow : ∀ x, r.a = some x ∨ r.b = some x → x.seq < h.seq := fun x hx => by
    obtain ⟨g, hg, hle⟩ := AdoptRec.le_newest hx
    exact Nat.lt_of_le_of_lt hle (hseq g hg)
  split
  · cases hb : r.b with
    | none => rfl
    | some y =>
      have := hbelow y (.inr hb)
      simp only [AdoptRec.newest, if_neg (show ¬h.seq < y.seq by omega)]
  · cases ha : r.a with
    | none => rfl
    | some y => simp only [AdoptRec.newest, if_pos (hbelow y (.inl ha))]

/-- What `writeRecord` puts (R155). -/
theorem State.writeRecord_spec (s : State) (p : Nat) : p ∉ (s.writeRecord p).pse.recordDue
    ∧ (∃ h, ((s.writeRecord p).adoptRec p).newest = some h ∧ h.powered = (s.portSt p == PortSt.POWERED)
      ∧ h.grant = (s.portX p).grant ∧ h.pairs = (s.diePort p).pairs)
    ∧ OnlyChanges [.pse] s (s.writeRecord p) := by
  refine ⟨?_, ?_, by simp [State.writeRecord, onlyChanges_iff]⟩
  · simp [State.writeRecord]
  · rw [State.writeRecord, State.adoptRec]
    simp only [tget_tset, if_true]
    refine ⟨_, AdoptRec.newest_written fun g hg => ?_, ?_, ?_, ?_⟩
    · simp only [hg]
      omega
    all_goals rfl

theorem adoptionRecordWrite_spec {p : Nat} (hup : s.Up) (hdue : s.pse.recordDue.contains p = true) :
    ∃ t, exec (.adoptionRecordWrite p) s = .next t
      ∧ p ∉ t.pse.recordDue ∧ (∃ h, (t.adoptRec p).newest = some h ∧ h.powered = (s.portSt p == PortSt.POWERED)
        ∧ h.grant = (s.portX p).grant ∧ h.pairs = (s.diePort p).pairs) ∧ OnlyChanges [.pse] s t := by
  obtain ⟨hgone, hrec, hch⟩ := s.writeRecord_spec p
  refine ⟨_, ?_, hgone, hrec, hch⟩
  rw [exec_adoptionRecordWrite, execAdoptionRecordWrite]
  exact State.powered_next hup (if_pos hdue) hch (by simp)

end

/-- Settles O15, condition by condition of the supply, then report by report of a die. -/
theorem bulkSupplyAndDies : Obligations.BulkSupplyAndDies := by
  unfold Obligations.BulkSupplyAndDies
  refine ⟨fun s mv hup hmv => ⟨fun h => vpseHold_spec hup hmv h, fun h1 h2 => vpseHoldEnd_spec hup h1 h2,
    fun ha h => vpseUvCut_spec hup ha h, fun ha h => vpseOvCut_spec hup ha h, fun ha => vpseRev_spec hup ha,
    fun h1 h2 hc => vpseResume_spec hup h1 h2 hc⟩, fun s d hd => ⟨fun temp ht => dieTemp_cool s hd ht,
    fun temp ht ha => dieTemp_hot hd ht ha, fun temp ht htog => dieTemp_defers hd ht htog,
    fun _ hm => dieAutonomous_spec s hd hm, fun hm => dieColdPowerUp_spec s hd hm,
    fun p hup hdue => adoptionRecordWrite_spec hup hdue⟩⟩

end Sys2Proof.Machine

/-! PROOFS. Luminaire commands and LCP's operations. -/

namespace Sys2Proof.Machine

-- One declaration after the other: the stacks of parallel elaboration would count against the memory limit of the check.
set_option Elab.async false

section
variable {s : State}

/-! ### Status points and registers of an entry -/

theorem State.pubLum_onlyChanges (s : State) (e : Nat) : OnlyChanges [.points, .notes] s (s.pubLum e) := by
  unfold State.pubLum State.pubState State.pubLumAt
  simp only
  split
  all_goals simp [onlyChanges_iff]

theorem State.pubLum_regs (s : State) (e off : Nat) : (s.pubLum e).reg off = s.reg off :=
  State.reg_congr _ _ ((s.pubLum_onlyChanges e).2.2 .regs (by simp)) off

theorem State.pubLum_lcp (s : State) (e : Nat) : (s.pubLum e).lcp = s.lcp := (s.pubLum_onlyChanges e).2.2 .lcp (by simp)

/-- Without a base for its points LCP shows none. -/
theorem State.pubLum_off (hbase : s.fld Reg.LCP_PT_BASE 0 16 = 0xFFFF) (e : Nat) : s.pubLum e = s := by
  simp [State.pubLum, State.pubState, State.pubLumAt, State.pubPoint, State.pubQuality, hbase]

theorem State.countLum_frame (s : State) (st : Nat) (up : Bool) :
    OnlyChanges [.regs] s (s.countLum st up) ∧ OnlyRegs [Reg.LCP_STAT] s (s.countLum st up) := by
  unfold State.countLum
  simp only
  split
  · exact ⟨State.setFld_onlyChanges _ _ _ _ _, (OnlyRegs.refl _ s).setFld⟩
  · exact ⟨OnlyChanges.refl _ s, OnlyRegs.refl _ s⟩

theorem lnState_ne {e d : Nat} (h : d ≠ e) : Reg.LCP_LnSTATE d ≠ Reg.LCP_LnSTATE e := by
  simp only [Reg.LCP_LnSTATE]
  omega

theorem lnState_not_stat (e : Nat) : Reg.LCP_LnSTATE e ∉ [Reg.LCP_STAT] := by
  simp only [List.mem_singleton, Reg.LCP_LnSTATE, Reg.LCP_STAT]
  omega

/-- An entry moves to a state; the others keep theirs (R208). -/
theorem State.setLumState_spec (s : State) (e : Nat) {st : Nat} (hst : st < 8) : (s.setLumState e st).lumState e = st
    ∧ OnlyRegs [Reg.LCP_STAT, Reg.LCP_LnSTATE e] s (s.setLumState e st)
    ∧ OnlyChanges [.regs, .points, .notes] s (s.setLumState e st) := by
  obtain ⟨c1, r1⟩ := s.countLum_frame (s.lumState e) false
  unfold State.setLumState
  simp only
  generalize s.countLum (s.lumState e) false = a at *
  have hset : (a.setFld (Reg.LCP_LnSTATE e) 0 3 st).lumState e = st :=
    (a.setFld_fld_same _ _ _ _ (by decide)).trans (Nat.mod_eq_of_lt hst)
  have c2 := a.setFld_onlyChanges (Reg.LCP_LnSTATE e) 0 3 st
  have r2 : OnlyRegs [Reg.LCP_STAT, Reg.LCP_LnSTATE e] a (a.setFld (Reg.LCP_LnSTATE e) 0 3 st) := (OnlyRegs.refl _ a).setFld
  generalize a.setFld (Reg.LCP_LnSTATE e) 0 3 st = b at *
  obtain ⟨c3, r3⟩ := b.countLum_frame st true
  have hkept := State.fld_congr (r3 _ (lnState_not_stat e)) 0 3
  generalize b.countLum st true = c at *
  refine ⟨?_, ?_, ?_⟩
  · exact (State.fld_congr (c.pubLum_regs e _) 0 3).trans (hkept.trans hset)
  · exact ((r1.mono (by simp)).trans (r2.trans (r3.mono (by simp)))).trans fun off _ => c.pubLum_regs e off
  · exact ((c1.trans (c2.trans c3)).mono (by simp)).trans ((c.pubLum_onlyChanges e).mono (by simp))

/-- LnTARGET takes the level and its colour; the entry's target has been set (R211). -/
theorem State.setTarget_spec (s : State) (e cct : Nat) {level : Nat} (hl : level < 2 ^ 14) :
    (s.setTarget e level cct).fld (Reg.LCP_LnTARGET e) 0 14 = level
    ∧ (s.setTarget e level cct).lcp = { s.lcp with lums := (s.setTarget e level cct).lcp.lums }
    ∧ OnlyRegs [Reg.LCP_LnTARGET e] s (s.setTarget e level cct)
    ∧ OnlyChanges [.regs, .lcp, .points, .notes] s (s.setTarget e level cct)
    ∧ (s.fld Reg.LCP_PT_BASE 0 16 = 0xFFFF → OnlyChanges [.regs, .lcp] s (s.setTarget e level cct)) := by
  have hset : (s.setFld (Reg.LCP_LnTARGET e) 0 14 level).fld (Reg.LCP_LnTARGET e) 0 14 = level :=
    (s.setFld_fld_same _ _ _ _ (by decide)).trans (Nat.mod_eq_of_lt hl)
  have c1 := s.setFld_onlyChanges (Reg.LCP_LnTARGET e) 0 14 level
  have r1 : OnlyRegs [Reg.LCP_LnTARGET e] s (s.setFld (Reg.LCP_LnTARGET e) 0 14 level) := (OnlyRegs.refl _ s).setFld
  unfold State.setTarget
  simp only
  generalize s.setFld (Reg.LCP_LnTARGET e) 0 14 level = a at *
  obtain ⟨b, hb, hfld, hch, hregs⟩ : ∃ b, (if cct = 0 then a else a.setFld (Reg.LCP_LnTARGET e) 16 15 cct) = b
      ∧ b.fld (Reg.LCP_LnTARGET e) 0 14 = level ∧ OnlyChanges [.regs] s b ∧ OnlyRegs [Reg.LCP_LnTARGET e] s b := by
    split
    · exact ⟨a, rfl, hset, c1, r1⟩
    · exact ⟨_, rfl, (a.setFld_fld_other _ _ _ _ _ _ (by decide) (by decide)).trans hset, c1.trans (a.setFld_onlyChanges _ _ _ _),
        r1.setFld⟩
  rw [hb]
  have hlcp : b.lcp = s.lcp := hch.2.2 .lcp (by simp)
  obtain ⟨u, hu, huregs, hulcp, hucc⟩ : ∃ u, b.setLum e { b.lum e with targetSet := true } = u ∧ u.regs = b.regs
      ∧ u.lcp = { s.lcp with lums := u.lcp.lums } ∧ OnlyChanges [.lcp] b u :=
    ⟨_, rfl, rfl, by rw [← hlcp]; rfl, by simp [onlyChanges_iff]⟩
  rw [hu]
  have hall : OnlyChanges [.regs, .lcp] s u := (hch.mono (by simp)).trans (hucc.mono (by simp))
  have hur : OnlyRegs [Reg.LCP_LnTARGET e] s u := hregs.trans (OnlyRegs.of_regs_eq huregs)
  refine ⟨?_, ?_, hur.trans fun off _ => u.pubLum_regs e off, (hall.mono (by simp)).trans ((u.pubLum_onlyChanges e).mono (by simp)),
    fun hbase => ?_⟩
  · rw [State.fld_congr (u.pubLum_regs e _), State.fld_congr (State.reg_congr _ _ huregs _), hfld]
  · rw [u.pubLum_lcp e, hulcp]
  · rw [State.pubLum_off (by rw [State.fld_congr (hur _ (by simp only [List.mem_singleton, Reg.LCP_LnTARGET, Reg.LCP_PT_BASE]; omega)), hbase]) e]
    exact hall

/-! ### Operations complete -/

theorem State.noteLcp_onlyChanges (s : State) : OnlyChanges [.regs] s s.noteLcp := by
  simp [State.noteLcp, onlyChanges_iff]

theorem State.noteLcp_onlyRegs (s : State) : OnlyRegs [Reg.LCP_OPEN] s s.noteLcp := (OnlyRegs.refl _ s).setFld.setFld

/-- With nothing queued and no operation waiting, forming changes nothing (R234). -/
theorem State.endFormed_idle (hq : s.lcp.queue = []) (hw : s.lcp.opWait = []) : s.endFormed = s := by
  have hsame : ({ s with lcp := { s.lcp with opWait := [] } } : State) = s := by rw [← hw]
  unfold State.endFormed
  rw [if_pos hq, hw, List.foldl_nil, hsame]

/-- An operation that formed no command ends at once (R234). -/
theorem State.finishLcpOp_idle {k : Nat} {r : Word} (hq : s.lcp.queue = []) (hw : s.lcp.opWait = []) :
    s.finishLcpOp k r = (s.decideOp k St.OK r).noteLcp := by
  obtain ⟨a, ha, hqa, hwa, hback⟩ : ∃ a, ({ s with lcp := { s.lcp with opWait := s.lcp.opWait ++ [(k, r)] } } : State) = a
      ∧ a.lcp.queue = [] ∧ a.lcp.opWait = [(k, r)] ∧ ({ a with lcp := { a.lcp with opWait := [] } } : State) = s :=
    ⟨_, rfl, hq, by rw [hw]; rfl, by rw [← hw]⟩
  have hnone : a.formQueued s.lcp.queue.length = a := by rw [hq]; rfl
  unfold State.finishLcpOp
  simp only [ha, hnone]
  unfold State.endFormed
  rw [if_pos hqa, hwa, hback]
  rfl

theorem State.finishLcpOp_ends {k : Nat} {r : Word} (hq : s.lcp.queue = []) (hw : s.lcp.opWait = []) (hact : (s.slot k).st = .active)
    (hserv : tfind? s.hlk.serving k = none) : (s.finishLcpOp k r).Ended k St.OK r
    ∧ OnlyRegs [Reg.LCP_OPEN] s (s.finishLcpOp k r) ∧ OnlyChanges [.regs, .opt, .scn, .sto] s (s.finishLcpOp k r) := by
  rw [State.finishLcpOp_idle hq hw]
  have hend := State.decideOp_ended hact St.OK r
  have hch := State.decideOp_books hserv hact St.OK r
  generalize s.decideOp k St.OK r = a at *
  refine ⟨hend, (OnlyRegs.of_regs_eq (hch.2.2 .regs (by simp))).trans a.noteLcp_onlyRegs,
    (hch.mono (by simp)).trans (a.noteLcp_onlyChanges.mono (by simp))⟩

end

end Sys2Proof.Machine

/-! PROOFS. LCP's operations on a luminaire that is not ONLINE, REDISCOVER and SCENE_WRITE. -/

namespace Sys2Proof.Machine

-- One declaration after the other: the stacks of parallel elaboration would count against the memory limit of the check.
set_option Elab.async false

section
variable {s : State} {k e : Nat} {x : Slot}

theorem State.mayForm_offline (hst : s.lumState e ≠ LumSt.ONLINE) (b : Bool) : s.mayForm e b = false := by
  simp [State.mayForm, State.lumOnline, hst]

/-- A level for a luminaire that is not ONLINE sets its target and forms no command (R211). -/
theorem State.levelChange_offline {c : LcpChange} (hst : s.lumState c.entry ≠ LumSt.ONLINE)
    (hover : s.overridden c.entry = false ∨ c.override = true) : s.levelChange c = s.setTarget c.entry c.value c.cct := by
  unfold State.levelChange
  rw [if_neg (by rcases hover with h | h <;> simp [h])]
  simp [State.mayForm_offline hst]

/-- The target is set and the operation ends with one member that got no command (R211, R234). -/
theorem targetOp_ends {l cct : Nat} {r : Word} (hserv : tfind? s.hlk.serving k = none) (hact : (s.slot k).st = .active)
    (hq : s.lcp.queue = []) (hw : s.lcp.opWait = []) (hl : l < 2 ^ 14) :
    ((s.setTarget e l cct).finishLcpOp k r).Ended k St.OK r
    ∧ ((s.setTarget e l cct).finishLcpOp k r).fld (Reg.LCP_LnTARGET e) 0 14 = l
    ∧ OnlyRegs [Reg.LCP_LnTARGET e, Reg.LCP_OPEN] s ((s.setTarget e l cct).finishLcpOp k r)
    ∧ OnlyChanges [.regs, .opt, .scn, .sto, .lcp, .points, .notes] s ((s.setTarget e l cct).finishLcpOp k r)
    ∧ (s.fld Reg.LCP_PT_BASE 0 16 = 0xFFFF →
      OnlyChanges [.regs, .opt, .scn, .sto, .lcp] s ((s.setTarget e l cct).finishLcpOp k r)) := by
  obtain ⟨ht, hlcp, hr, hch, hchoff⟩ := s.setTarget_spec e cct hl
  generalize s.setTarget e l cct = a at *
  obtain ⟨hend, hr2, hc2⟩ := State.finishLcpOp_ends (s := a) (k := k) (r := r) ((congrArg Lcp.queue hlcp : _).trans hq)
    ((congrArg Lcp.opWait hlcp : _).trans hw) ((congrArg Slot.st (State.slot_congr s a (congrArg Opt.slots (hch.2.2 .opt (by simp))) k)).trans hact)
    (by rw [hch.2.2 .hlk (by simp)]; exact hserv)
  refine ⟨hend, ?_, (hr.mono (by simp)).trans (hr2.mono (by simp)), (hch.mono (by simp)).trans (hc2.mono (by simp)),
    fun hb => ((hchoff hb).mono (by simp)).trans (hc2.mono (by simp))⟩
  rw [State.fld_congr (hr2 _ (by simp only [List.mem_singleton, Reg.LCP_LnTARGET, Reg.LCP_OPEN]; omega)), ht]

theorem entryWord {e : Nat} (he : e < 768) : bitOf e 15 = false ∧ bitsOf e 0 10 = e := by
  constructor
  · simp [bitOf, bitsOf]
    omega
  · unfold bitsOf
    omega

theorem level_offline {l : Nat} (hup : s.Up) (hserv : tfind? s.hlk.serving k = none) (hmode : s.mode ≠ Mode.MINIMAL) (hctx : x.ctx = 0)
    (he : e < 768) (hen : s.lumEnabled e = true) (hq : s.lcp.queue = []) (hw : s.lcp.opWait = [])
    (hx : s.activeOp k Blk.LCP 1 = some x) (hpe : paramField x.param 0 2 = e) (hpl : paramField x.param 2 2 = l) (hl : l ≤ 10000)
    (hst : s.lumState e ≠ LumSt.ONLINE) (hover : s.overridden e = false) :
    ∃ t, exec (.level k) s = .next t ∧ t.Ended k St.OK (formedResult 0 1) ∧ t.fld (Reg.LCP_LnTARGET e) 0 14 = l
      ∧ OnlyChanges [.regs, .opt, .scn, .sto, .lcp, .points, .notes] s t := by
  have hact : (s.slot k).st = .active := by
    obtain ⟨h, hst, -⟩ := s.activeOp_some k _ _ x hx
    exact h ▸ hst
  obtain ⟨hbit, hnum⟩ := entryWord he
  obtain ⟨hend, ht, -, hch, -⟩ := targetOp_ends (e := e) (cct := paramField x.param 4 2) (r := formedResult 0 1) hserv hact hq hw
    (show l < 2 ^ 14 by omega)
  refine ⟨_, ?_, hend, ht, hch⟩
  rw [exec_level, execLevel]
  refine State.powered_next hup ?_ hch (by simp)
  simp only [hx, hpe, hpl, if_neg hmode, if_neg (show ¬10000 < l by omega), hbit, hnum, hen, Bool.false_eq_true, if_false,
    State.mayAddressLum, hctx, beq_self_eq_true, Bool.true_or, Bool.not_true, or_false, if_neg (show ¬768 ≤ e by omega),
    State.mayForm_offline hst, Nat.sub_zero]
  rw [State.levelChange_offline hst (.inl hover)]

theorem recall_offline {g j : Nat} (hup : s.Up) (hserv : tfind? s.hlk.serving k = none) (hmode : s.mode ≠ Mode.MINIMAL) (hctx : x.ctx = 0)
    (hq : s.lcp.queue = []) (hw : s.lcp.opWait = [])
    (hx : s.activeOp k Blk.LCP 2 = some x) (hpg : paramField x.param 0 1 = g) (hps : paramField x.param 1 1 ≤ 63) (hmem : s.members g = [e])
    (hj : s.groupSlot e g = some j) (hkeep : bitOf (s.sceneWord e j (paramField x.param 1 1)) 15 = false)
    (hst : s.lumState e ≠ LumSt.ONLINE) (hover : s.overridden e = false) :
    ∃ t, exec (.recall k) s = .next t ∧ t.Ended k St.OK (formedResult 0 1)
      ∧ t.fld (Reg.LCP_LnTARGET e) 0 14 = bitsOf (s.sceneWord e j (paramField x.param 1 1)) 0 14
      ∧ OnlyChanges [.regs, .opt, .scn, .sto, .lcp, .points, .notes] s t := by
  have hact : (s.slot k).st = .active := by
    obtain ⟨h, hst, -⟩ := s.activeOp_some k _ _ x hx
    exact h ▸ hst
  generalize hsc : paramField x.param 1 1 = sc at *
  obtain ⟨u, hu, huq, huw, hucc, humem, huslot, hust, huover, huword⟩ : ∃ u, s.newGroup = (s.lcp.nextGroup, u) ∧ u.lcp.queue = [] ∧ u.lcp.opWait = []
      ∧ OnlyChanges [.lcp] s u ∧ u.members g = [e] ∧ u.groupSlot e g = some j ∧ u.lumState e ≠ LumSt.ONLINE ∧ u.overridden e = false
      ∧ u.sceneWord e j sc = s.sceneWord e j sc :=
    ⟨_, rfl, hq, hw, by simp [onlyChanges_iff], hmem, hj, hst, hover, rfl⟩
  have huact : (u.slot k).st = .active := (congrArg Slot.st (State.slot_congr s u (congrArg Opt.slots (hucc.2.2 .opt (by simp))) k)).trans hact
  have huserv : tfind? u.hlk.serving k = none := by rw [hucc.2.2 .hlk (by simp)]; exact hserv
  obtain ⟨hend, ht, -, hch, -⟩ := targetOp_ends (e := e) (cct := bitsOf (s.sceneWord e j sc) 16 15) (r := formedResult 0 1) huserv huact huq huw
    (bitsOf_lt (s.sceneWord e j sc) 0 14)
  have hall := (hucc.mono (by simp)).trans hch
  refine ⟨_, ?_, hend, ht, hall⟩
  rw [exec_recall, execRecall]
  refine State.powered_next hup ?_ hall (by simp)
  simp only [hx, hpg, hsc, if_neg hmode, if_neg (show ¬63 < sc by omega), State.mayAddressGroup, hctx, beq_self_eq_true, Bool.true_or,
    Bool.not_true, Bool.false_eq_true, if_false, hmem, List.filter_cons, List.filter_nil, State.mayForm_offline hst, Bool.false_and,
    List.length_nil, List.length_singleton, Nat.sub_zero, State.recall, hu, humem, List.foldl_cons, List.foldl_nil, State.recallMember,
    huslot, huword, hkeep]
  rw [State.levelChange_offline hust (.inl huover)]

/-! ### Overrides -/

/-- An entry whose override begins, without a program's value (R227, R228). -/
def State.shownOverride (s : State) (e : Nat) : State :=
  (s.setLum e { s.lum e with prog := none }).setFlag (Reg.LCP_LnSTATE e) 3 true

theorem State.shownOverride_spec (s : State) (e : Nat) : (s.shownOverride e).overridden e = true
    ∧ (s.shownOverride e).lumState e = s.lumState e ∧ (s.shownOverride e).lcp.queue = s.lcp.queue
    ∧ (s.shownOverride e).lcp.opWait = s.lcp.opWait ∧ OnlyRegs [Reg.LCP_LnSTATE e] s (s.shownOverride e)
    ∧ OnlyChanges [.regs, .lcp] s (s.shownOverride e) :=
  ⟨State.setFlag_flag_same _ _ _ _ (by decide), State.setFld_fld_other _ _ _ _ _ _ _ (by decide) (.inr (by decide)), rfl, rfl,
    OnlyRegs.setFlag (OnlyRegs.of_regs_eq rfl), by simp [State.shownOverride, onlyChanges_iff]⟩

theorem lnState_ne_base (e : Nat) : Reg.LCP_PT_BASE ∉ [Reg.LCP_LnSTATE e] := by
  simp only [List.mem_singleton, Reg.LCP_LnSTATE, Reg.LCP_PT_BASE]
  omega

/-- Without points an override of an entry that is not ONLINE shows itself and sets the target (R227). -/
theorem State.takeOverride_offline {l ctx : Nat} (hl : l < 2 ^ 14) (hbase : s.fld Reg.LCP_PT_BASE 0 16 = 0xFFFF)
    (hst : s.lumState e ≠ LumSt.ONLINE) (hover : s.overridden e = false) :
    s.takeOverride e l ctx = (s.shownOverride e).setTarget e l 0 := by
  obtain ⟨ho, hs, -, -, hr, -⟩ := s.shownOverride_spec e
  have hb : (s.shownOverride e).fld Reg.LCP_PT_BASE 0 16 = 0xFFFF := by rw [State.fld_congr (hr _ (lnState_ne_base e)), hbase]
  have hprog : s.programValue e = none := by simp only [State.programValue, State.commandPoint, hbase, if_true]
  have hhand : (s.shownOverride e).handOver e (realOfRat l 100) Q.FORCED = s.shownOverride e := by
    simp only [State.handOver, State.commandPoint, hb, if_true]
  have hshow : (s.setLum e { s.lum e with prog := none }).setFlag (Reg.LCP_LnSTATE e) 3 true = s.shownOverride e := rfl
  unfold State.takeOverride
  simp only [hprog, hover, Bool.false_eq_true, if_false, hshow, hhand]
  generalize s.shownOverride e = a at *
  rw [State.levelChange_offline (by rw [hs]; exact hst) (.inr rfl)]
  obtain ⟨-, -, hr2, -, -⟩ := a.setTarget_spec e 0 hl
  refine State.pubLum_off ?_ e
  rw [State.fld_congr (hr2 _ ?_), hb]
  simp only [List.mem_singleton, Reg.LCP_LnTARGET, Reg.LCP_PT_BASE]
  omega

theorem override_offline {l : Nat} (hup : s.Up) (hserv : tfind? s.hlk.serving k = none) (hmode : s.mode ≠ Mode.MINIMAL) (hctx : x.ctx = 0)
    (he : e < 768) (hen : s.lumEnabled e = true) (hq : s.lcp.queue = []) (hw : s.lcp.opWait = [])
    (hx : s.activeOp k Blk.LCP 3 = some x) (hpe : paramField x.param 0 2 = e) (hpl : paramField x.param 2 2 = l) (hl : l ≤ 10000)
    (hst : s.lumState e ≠ LumSt.ONLINE) (hover : s.overridden e = false) (hbase : s.fld Reg.LCP_PT_BASE 0 16 = 0xFFFF) :
    ∃ t, exec (.override k) s = .next t ∧ t.Ended k St.OK (formedResult 0 1) ∧ t.overridden e = true
      ∧ t.fld (Reg.LCP_LnTARGET e) 0 14 = l ∧ OnlyChanges [.regs, .opt, .scn, .sto, .lcp] s t := by
  have hact : (s.slot k).st = .active := by
    obtain ⟨h, hst, -⟩ := s.activeOp_some k _ _ x hx
    exact h ▸ hst
  have htake := State.takeOverride_offline (ctx := x.ctx) (show l < 2 ^ 14 by omega) hbase hst hover
  obtain ⟨ho, -, hqa, hwa, hr, hcc⟩ := s.shownOverride_spec e
  generalize s.shownOverride e = a at *
  have haact : (a.slot k).st = .active := (congrArg Slot.st (State.slot_congr s a (congrArg Opt.slots (hcc.2.2 .opt (by simp))) k)).trans hact
  have haserv : tfind? a.hlk.serving k = none := by rw [hcc.2.2 .hlk (by simp)]; exact hserv
  have hab : a.fld Reg.LCP_PT_BASE 0 16 = 0xFFFF := by rw [State.fld_congr (hr _ (lnState_ne_base e)), hbase]
  obtain ⟨-, hlcp, -, -, -⟩ := a.setTarget_spec e 0 (show l < 2 ^ 14 by omega)
  have hempty : (a.setTarget e l 0).lcp.queue = [] := (congrArg Lcp.queue hlcp : _).trans (hqa.trans hq)
  obtain ⟨hend, ht, hregs, -, hch⟩ := targetOp_ends (e := e) (cct := 0) (r := formedResult 0 1) haserv haact (hqa.trans hq) (hwa.trans hw)
    (show l < 2 ^ 14 by omega)
  have hall := (hcc.mono (by simp)).trans (hch hab)
  refine ⟨_, ?_, hend, ?_, ht, hall⟩
  · rw [exec_override, execOverride]
    refine State.powered_next hup ?_ hall (by simp)
    simp only [hx, hpe, hpl, if_neg hmode, if_neg (show ¬(l = 0xFFFF) by omega), State.mayAddressLum, hctx, beq_self_eq_true, Bool.true_or,
      Bool.not_true, Bool.false_eq_true, if_false]
    rw [hctx] at htake
    rw [if_neg (by rw [hen]; simp; omega), htake, hempty]
    rfl
  · rw [State.overridden, State.flag_congr _ _ _ _ (hregs _ ?_)]
    · exact ho
    · simp only [List.mem_cons, List.not_mem_nil, or_false, Reg.LCP_LnSTATE, Reg.LCP_LnTARGET, Reg.LCP_OPEN]
      omega

/-! ### SCENE_WRITE -/

theorem sceneWrite_word {j sc : Nat} (hup : s.Up) (hserv : tfind? s.hlk.serving k = none) (hmode : s.mode ≠ Mode.MINIMAL) (hctx : x.ctx = 0)
    (he : e < 768) (hx : s.activeOp k Blk.LCP 6 = some x) (hwait : s.lcp.sceneWait.contains k = false) (hpe : paramField x.param 0 2 = e)
    (hpj : paramField x.param 2 1 = j) (hj : j ≤ 3) (hps : paramField x.param 3 1 = sc) (hsc : sc ≤ 63)
    (hvalid : s.flag (Reg.LCP_LnCFG e) (8 + j) = true) (hlevel : bitsOf (paramField x.param 4 4) 0 14 ≤ 10000)
    (hkeep : bitOf (paramField x.param 8 1) 0 = false) :
    ∃ t, exec (.sceneWrite k) s = .next t ∧ t.Ended k St.OK 0
      ∧ t.sceneWord e j sc = (BitVec.ofNat 32 (paramField x.param 4 4) &&& 0x7FFFBFFF#32).toNat
      ∧ (∀ d, t.lum d = s.lum d) ∧ OnlyChanges [.opt, .scn, .sto, .lcp] s t := by
  have hact : (s.slot k).st = .active := by
    obtain ⟨h, hst, -⟩ := s.activeOp_some k _ _ x hx
    exact h ▸ hst
  have hword : bitsOf (BitVec.ofNat 32 (paramField x.param 4 4)).toNat 0 14 ≤ 10000 := by
    rw [BitVec.toNat_ofNat]
    unfold bitsOf at *
    omega
  have hsw : s.sceneWrite x = .ok (s.putScene e j sc (BitVec.ofNat 32 (paramField x.param 4 4))) := by
    unfold State.sceneWrite
    simp only [hpe, hpj, hps, if_neg hmode, if_neg (show ¬63 < sc by omega), if_neg (show ¬j = 0xFF by omega),
      if_neg (show ¬(3 < j ∨ 768 ≤ e) by omega), hvalid, Bool.not_true, Bool.false_eq_true, false_or,
      State.mayAddressLum, hctx, beq_self_eq_true, Bool.true_or, if_false]
    exact if_neg (by omega)
  obtain ⟨a, ha, hscene, hlum, hcc, haact, haserv⟩ : ∃ a, s.putScene e j sc (BitVec.ofNat 32 (paramField x.param 4 4)) = a
      ∧ a.sceneWord e j sc = (BitVec.ofNat 32 (paramField x.param 4 4) &&& 0x7FFFBFFF#32).toNat ∧ (∀ d, a.lum d = s.lum d)
      ∧ OnlyChanges [.lcp] s a ∧ (a.slot k).st = .active ∧ tfind? a.hlk.serving k = none :=
    ⟨_, rfl, congrArg BitVec.toNat ((tget_tset _ s.lcp.scenes _ _ _).trans (if_pos rfl)), fun _ => rfl,
      by simp [State.putScene, onlyChanges_iff], hact, hserv⟩
  rw [ha] at hsw
  have hend := State.decideOp_ended haact St.OK 0
  have hbooks := State.decideOp_books haserv haact St.OK 0
  have hlcp : (a.decideOp k St.OK 0).lcp = a.lcp := hbooks.2.2 .lcp (by simp)
  have hall := (hcc.mono (by simp)).trans (hbooks.mono (qs := [.opt, .scn, .sto, .lcp]) (by simp))
  refine ⟨_, ?_, hend, ?_, fun d => ?_, hall⟩
  · rw [exec_sceneWrite, execSceneWrite]
    refine State.powered_next hup ?_ hall (by simp)
    simp only [hx, hwait, Bool.false_eq_true, if_false, hsw, hkeep]
  · rw [← hscene, State.sceneWord, State.sceneWord, hlcp]
  · rw [← hlum d, State.lum, State.lum, hlcp]

/-! ### REDISCOVER -/

/-- An entry of a port is to bind afresh (R234). -/
def rebind (a : State) (e : Nat) : State := (a.failEntry e St.FAIL_STATION_LOST).setLumState e LumSt.UNBOUND

/-- With no command open, an entry's failure drops its queued changes alone. -/
theorem State.failEntry_idle (s : State) (e st : Nat) (hcmds : s.lcp.cmds = []) : (s.failEntry e st).lcp.cmds = []
    ∧ OnlyRegs [Reg.LCP_OPEN] s (s.failEntry e st) ∧ OnlyChanges [.regs, .lcp] s (s.failEntry e st) := by
  unfold State.failEntry
  simp only [hcmds, List.filter_nil, List.foldl_nil]
  obtain ⟨a, ha, hc, hch, hr⟩ : ∃ a, ({ s with lcp := { s.lcp with queue := s.lcp.queue.filter (fun c => c.entry != e) } } : State) = a
      ∧ a.lcp.cmds = [] ∧ OnlyChanges [.regs, .lcp] s a ∧ a.regs = s.regs := ⟨_, rfl, hcmds, by simp [onlyChanges_iff], rfl⟩
  simp only [hcmds] at ha
  rw [ha]
  exact ⟨hc, (OnlyRegs.of_regs_eq hr).trans a.noteLcp_onlyRegs, hch.trans (a.noteLcp_onlyChanges.mono (by simp))⟩

theorem rebind_spec {a : State} (e : Nat) (hcmds : a.lcp.cmds = []) : (rebind a e).lcp.cmds = [] ∧ (rebind a e).lumState e = LumSt.UNBOUND
    ∧ (∀ d, d ≠ e → (rebind a e).lumState d = a.lumState d) ∧ OnlyChanges [.regs, .lcp, .points, .notes] a (rebind a e) := by
  obtain ⟨hc, hr, hch⟩ := a.failEntry_idle e St.FAIL_STATION_LOST hcmds
  unfold rebind
  generalize a.failEntry e St.FAIL_STATION_LOST = b at *
  obtain ⟨hst, hr2, hch2⟩ := b.setLumState_spec e (st := LumSt.UNBOUND) (by decide)
  refine ⟨?_, hst, fun d hd => ?_, (hch.mono (by simp)).trans (hch2.mono (by simp))⟩
  · rw [hch2.2.2 .lcp (by simp), hc]
  · refine (State.fld_congr (hr2 _ ?_) 0 3).trans (State.fld_congr (hr _ ?_) 0 3)
    · simp only [List.mem_cons, List.not_mem_nil, or_false, Reg.LCP_LnSTATE, Reg.LCP_STAT]
      omega
    · simp only [List.mem_singleton, Reg.LCP_LnSTATE, Reg.LCP_OPEN]
      omega

/-- All entries of a list bind afresh. -/
theorem rebind_all (l : List Nat) : ∀ a : State, a.lcp.cmds = [] → (∀ d, d ∈ l → (l.foldl rebind a).lumState d = LumSt.UNBOUND)
    ∧ (∀ d, a.lumState d = LumSt.UNBOUND → (l.foldl rebind a).lumState d = LumSt.UNBOUND)
    ∧ OnlyChanges [.regs, .lcp, .points, .notes] a (l.foldl rebind a) := by
  induction l with
  | nil => exact fun a _ => ⟨fun d hd => absurd hd List.not_mem_nil, fun d hd => hd, OnlyChanges.refl _ a⟩
  | cons e l ih =>
    intro a hcmds
    obtain ⟨hc, hst, hother, hch⟩ := rebind_spec e hcmds
    obtain ⟨hin, hkeep, hall⟩ := ih (rebind a e) hc
    have hstays : ∀ d, a.lumState d = LumSt.UNBOUND → (rebind a e).lumState d = LumSt.UNBOUND := fun d hd => by
      by_cases h : d = e
      · rw [h, hst]
      · rw [hother d h, hd]
    refine ⟨fun d hd => ?_, fun d hd => hkeep d (hstays d hd), hch.trans hall⟩
    obtain rfl | hd := List.mem_cons.1 hd
    · exact hkeep d hst
    · exact hin d hd

theorem rediscover_force {p : Nat} (hup : s.Up) (hserv : tfind? s.hlk.serving k = none) (hmode : s.mode ≠ Mode.MINIMAL) (hctx : x.ctx = 0)
    (hcmds : s.lcp.cmds = []) (hx : s.activeOp k Blk.LCP 5 = some x) (hpp : paramField x.param 0 1 = p) (hp : p < 48)
    (hforce : bitOf (paramField x.param 1 1) 0 = true) :
    ∃ t, exec (.rediscover k) s = .next t ∧ t.Ended k St.OK 0
      ∧ (∀ d, d ∈ portEntries p → s.lumEnabled d = true → t.lumState d = LumSt.UNBOUND)
      ∧ OnlyChanges [.regs, .opt, .scn, .sto, .lcp, .points, .notes] s t := by
  have hact : (s.slot k).st = .active := by
    obtain ⟨h, hst, -⟩ := s.activeOp_some k _ _ x hx
    exact h ▸ hst
  have hloop : ((portEntries p).filter s.lumEnabled).foldl (fun a e => if a.lumState e = LumSt.ONLINE ∧ False then a
      else (a.failEntry e St.FAIL_STATION_LOST).setLumState e LumSt.UNBOUND) s
      = ((portEntries p).filter s.lumEnabled).foldl rebind s :=
    congrArg (fun f => List.foldl f s _) (funext fun a => funext fun e => if_neg (fun h => h.2))
  obtain ⟨hin, -, hch⟩ := rebind_all ((portEntries p).filter s.lumEnabled) s hcmds
  generalize ((portEntries p).filter s.lumEnabled).foldl rebind s = a at *
  have haact : (a.slot k).st = .active := (congrArg Slot.st (State.slot_congr s a (congrArg Opt.slots (hch.2.2 .opt (by simp))) k)).trans hact
  have haserv : tfind? a.hlk.serving k = none := by rw [hch.2.2 .hlk (by simp)]; exact hserv
  have hbooks := State.decideOp_books haserv haact St.OK 0
  have hall := (hch.mono (by simp)).trans (hbooks.mono (qs := [.regs, .opt, .scn, .sto, .lcp, .points, .notes]) (by simp))
  refine ⟨_, ?_, State.decideOp_ended haact St.OK 0, fun d hd hen => ?_, hall⟩
  · rw [exec_rediscover, execRediscover]
    refine State.powered_next hup ?_ hall (by simp)
    simp only [hx, hpp, if_neg hmode, if_neg (show ¬47 < p by omega), State.mayAddressLum, hctx, beq_self_eq_true, Bool.true_or,
      hforce, Bool.not_true, Bool.false_eq_true, hloop]
    simp
  · exact (State.fld_congr (State.reg_congr _ _ (hbooks.2.2 .regs (by simp)) _) 0 3).trans (hin d (List.mem_filter.2 ⟨hd, hen⟩))

end

end Sys2Proof.Machine

/-! PROOFS. A queued change becomes a command of its own tag. -/

namespace Sys2Proof.Machine

-- One declaration after the other: the stacks of parallel elaboration would count against the memory limit of the check.
set_option Elab.async false

section
variable {s : State} {c : LcpChange} {n : Nat}

/-! ### Sending -/

theorem State.lcpSend_spec (s : State) (e opcode seq flags : Nat) (payload : List Byte) :
    (s.lcpSend e opcode seq flags payload).lcp = (s.setLum e { s.lum e with sentClk := s.clk }).lcp
    ∧ OnlyChanges [.regs, .out, .fab, .lcp] s (s.lcpSend e opcode seq flags payload) := by
  have hset : OnlyChanges [.regs, .out, .fab, .lcp] s (s.setLum e { s.lum e with sentClk := s.clk }) := by simp [onlyChanges_iff]
  unfold State.lcpSend State.lcpOut
  generalize s.setLum e { s.lum e with sentClk := s.clk } = a at *
  have h := fun f => State.sendInternal_onlyChanges (s := a) 0 none [e / 16] f
  exact ⟨(h _).2.2 .lcp (by simp), hset.trans ((h _).mono (by simp))⟩

theorem State.cmdFrame_spec (s : State) (d : LcpCmd) (flags : Nat) :
    (s.cmdFrame d flags).lcp = (s.setLum d.change.entry { s.lum d.change.entry with sentClk := s.clk }).lcp
    ∧ OnlyChanges [.regs, .out, .fab, .lcp] s (s.cmdFrame d flags) := by
  unfold State.cmdFrame
  simp only
  split
  all_goals exact State.lcpSend_spec _ _ _ _ _ _

/-- The one open command is sent with the luminaire's next sequence (R214). -/
theorem State.sendCmd_one {d : LcpCmd} (hone : s.lcp.cmds = [d]) : (s.sendCmd d).lcp.queue = s.lcp.queue
    ∧ (s.sendCmd d).lcp.opWait = s.lcp.opWait
    ∧ (∃ f, (s.sendCmd d).lcp.cmds = [f] ∧ f.tag = d.tag ∧ f.change = d.change ∧ f.tx = 1 ∧ f.granted = d.granted)
    ∧ ((s.sendCmd d).lum d.change.entry).nextSeq = ((s.lum d.change.entry).nextSeq + 1) % 65536
    ∧ OnlyChanges [.regs, .out, .fab, .lcp] s (s.sendCmd d) := by
  generalize hf : ({ d with tx := 1, txClk := s.clk, seq := (s.lum d.change.entry).nextSeq, applyNs := s.applyTime d.change.applyCh } : LcpCmd) = f
  have hview : f.tag = d.tag ∧ f.change = d.change ∧ f.tx = 1 ∧ f.granted = d.granted := by rw [← hf]; exact ⟨rfl, rfl, rfl, rfl⟩
  unfold State.sendCmd
  simp only [hf]
  obtain ⟨htag, hchange, htx, hgranted⟩ := hview
  obtain ⟨a, ha, hq, hw, hc, hl, hcc⟩ : ∃ a, (s.putCmd f).setLum d.change.entry
      { s.lum d.change.entry with nextSeq := ((s.lum d.change.entry).nextSeq + 1) % 65536 } = a ∧ a.lcp.queue = s.lcp.queue
      ∧ a.lcp.opWait = s.lcp.opWait ∧ a.lcp.cmds = [f]
      ∧ a.lum d.change.entry = { s.lum d.change.entry with nextSeq := ((s.lum d.change.entry).nextSeq + 1) % 65536 }
      ∧ OnlyChanges [.regs, .out, .fab, .lcp] s a := by
    refine ⟨_, rfl, rfl, rfl, ?_, (State.setLum_lum _ _ _ _).trans (if_pos rfl), by simp [State.putCmd, onlyChanges_iff]⟩
    simp only [State.setLum, State.putCmd, hone, List.map_cons, List.map_nil, htag, if_true]
  rw [ha]
  obtain ⟨hlcp, hcc2⟩ := a.cmdFrame_spec f 0
  generalize a.cmdFrame f 0 = b at *
  refine ⟨(congrArg Lcp.queue hlcp : _).trans hq, (congrArg Lcp.opWait hlcp : _).trans hw,
    ⟨f, (congrArg Lcp.cmds hlcp : _).trans hc, htag, hchange, htx, hgranted⟩, ?_, (hcc.trans hcc2).trans ((b.setNum_onlyChanges _ _).mono (by simp))⟩
  have hlum : b.lum d.change.entry = { a.lum d.change.entry with sentClk := a.clk } := by
    have h := State.setLum_lum a f.change.entry d.change.entry { a.lum f.change.entry with sentClk := a.clk }
    rw [hchange, if_pos rfl] at h
    rw [hchange] at hlcp
    exact (congrArg (fun l : Lcp => tget (fun _ => Lum.fresh) l.lums d.change.entry) hlcp : _).trans h
  exact (congrArg Lum.nextSeq hlum : _).trans (congrArg Lum.nextSeq hl : _)

/-! ### Forming -/

theorem curve_not_begun {t k : Nat} (ht : t < 64) (hk : k ≤ 17) : Reg.ARB_CURVEt_Pk t k ∉ Reg.OPT_HWM :: irqRegs Blk.OPT := by
  simp only [irqRegs, List.mem_cons, List.not_mem_nil, or_false, Reg.ARB_CURVEt_Pk, Reg.OPT_HWM, Reg.IRQ_STAT, Reg.MSIX_PBA]
  omega

theorem lnCfg_not_begun (e : Nat) : Reg.LCP_LnCFG e ∉ Reg.OPT_HWM :: irqRegs Blk.OPT := by
  simp only [irqRegs, List.mem_cons, List.not_mem_nil, or_false, Reg.LCP_LnCFG, Reg.OPT_HWM, Reg.IRQ_STAT, Reg.MSIX_PBA]
  omega

/-- An operation's beginning changes no price (R174). -/
theorem State.lumPrice_begun {u : State} (hreg : ∀ off, off ∉ Reg.OPT_HWM :: irqRegs Blk.OPT → u.reg off = s.reg off) (e level : Nat) :
    u.lumPrice e level = s.lumPrice e level := by
  have hfld : u.fld (Reg.LCP_LnCFG e) 2 6 = s.fld (Reg.LCP_LnCFG e) 2 6 := State.fld_congr (hreg _ (lnCfg_not_begun e)) 2 6
  have ht : s.fld (Reg.LCP_LnCFG e) 2 6 < 64 := bitsOf_lt _ 2 6
  have hcurve : ∀ k, k ≤ 17 → u.num (Reg.ARB_CURVEt_Pk (s.fld (Reg.LCP_LnCFG e) 2 6) k) = s.num (Reg.ARB_CURVEt_Pk (s.fld (Reg.LCP_LnCFG e) 2 6) k) :=
    fun k hk => State.num_congr (hreg _ (curve_not_begun ht hk))
  have hk : Nat.min (level * 16 / 10000) 16 ≤ 16 := Nat.min_le_right _ _
  unfold State.lumPrice State.curvePrice
  simp only [hfld, hcurve _ (show Nat.min (level * 16 / 10000) 16 ≤ 17 by omega), hcurve _ (show Nat.min (level * 16 / 10000) 16 + 1 ≤ 17 by omega)]

/-- What a change that raises no power and may leave at once becomes: one command, sent, of the first free tag (R211, R16). -/
theorem State.formCmd_sent (hcmds : s.lcp.cmds = []) (hon : s.lumOnline c.entry = true) (hctx : c.ctx = 0) (hfree : s.freeTag = some n)
    (hpf : s.sup.pfail = false) (hraise : c.kind = .level → s.lumPrice c.entry c.value ≤ (s.lum c.entry).grant)
    (hleave : c.kind = .level → s.latSt ≠ LatSt.RESET ∧ s.lcp.queue = []) :
    ∃ t, s.formCmd c = some t ∧ (t.slot n).st = .active ∧ (t.slot n).block = Blk.LCP ∧ (t.slot n).opcode = c.kind.opcode
      ∧ t.lcp.queue = s.lcp.queue ∧ t.lcp.opWait = s.lcp.opWait
      ∧ (∃ d, t.lcp.cmds = [d] ∧ d.tag = n ∧ d.change = c ∧ d.tx = 1 ∧ d.granted = true)
      ∧ (t.lum c.entry).nextSeq = ((s.lum c.entry).nextSeq + 1) % 65536 ∧ (∀ m, m ≠ n → t.slot m = s.slot m)
      ∧ OnlyChanges [.regs, .out, .fab, .opt, .lcp] s t := by
  have htoken : s.takeToken c.ctx = some s := if_pos (.inl hctx)
  have hbegin : s.beginInternal Blk.LCP Blk.LCP c.kind.opcode c.ctx (s.cmdTimeout c) 0
      = some (n, s.beginAt n (Slot.internalOp Blk.LCP Blk.LCP c.kind.opcode c.ctx (s.cmdTimeout c) 0)) := by
    unfold State.beginInternal
    rw [if_neg (by rw [hpf]; decide), hfree]
  obtain ⟨hch, hst, hblock, hop, hreg⟩ := State.begun_spec hbegin
  have hother : ∀ m, m ≠ n → (s.beginAt n (Slot.internalOp Blk.LCP Blk.LCP c.kind.opcode c.ctx (s.cmdTimeout c) 0)).slot m = s.slot m :=
    fun m hm => (s.beginAt_slot n m _).trans (if_neg (Ne.symm hm))
  unfold State.formCmd
  simp only [hon, Bool.not_true, Bool.false_eq_true, if_false, htoken, hbegin]
  generalize s.beginAt n (Slot.internalOp Blk.LCP Blk.LCP c.kind.opcode c.ctx (s.cmdTimeout c) 0) = a at *
  have hlcp : a.lcp = s.lcp := hch.2.2 .lcp (by simp)
  have hnoraise : a.raiseOf c = 0 := by
    unfold State.raiseOf
    split
    · rename_i hk
      rw [State.lumPrice_begun hreg, State.lum, hlcp]
      exact Nat.sub_eq_zero_of_le (hraise hk)
    · rfl
  generalize hd : (⟨n, c, 0, a.clk, a.raiseOf c, a.raiseOf c == 0, 0, 0, false, false, 0⟩ : LcpCmd) = d
  obtain ⟨hdtag, hdchange, hdtx, hdgranted⟩ : d.tag = n ∧ d.change = c ∧ d.tx = 0 ∧ d.granted = true := by
    rw [← hd]
    exact ⟨rfl, rfl, rfl, by simp [hnoraise]⟩
  obtain ⟨b, hb, hbq, hbw, hbc, hbl, hbcc, hbslot, hbreg⟩ : ∃ b, ({ a with lcp := { a.lcp with cmds := a.lcp.cmds ++ [d] } } : State) = b
      ∧ b.lcp.queue = s.lcp.queue ∧ b.lcp.opWait = s.lcp.opWait ∧ b.lcp.cmds = [d] ∧ (∀ e, b.lum e = s.lum e)
      ∧ OnlyChanges [.regs, .out, .fab, .opt, .lcp] s b ∧ (∀ m, b.slot m = a.slot m) ∧ b.regs = a.regs :=
    ⟨_, rfl, (congrArg Lcp.queue hlcp :), (congrArg Lcp.opWait hlcp :), by rw [hlcp, hcmds]; rfl,
      fun e => (congrArg (fun l : Lcp => tget (fun _ => Lum.fresh) l.lums e) hlcp :),
      (hch.mono (by simp)).trans (by simp [onlyChanges_iff]), fun _ => rfl, rfl⟩
  have hmay : b.mayLeave d = true := by
    unfold State.mayLeave
    simp only [hdgranted, hdtx, hdchange, hbc, hdtag, hbq]
    by_cases hk : c.kind = .level
    · obtain ⟨hlat, hq⟩ := hleave hk
      have hlatb : b.latSt = s.latSt := State.fld_congr ((State.reg_congr _ _ hbreg _).trans (hreg _ (by decide))) 0 3
      simp [hq, hlatb, hlat, hdtag]
    · simp [hk]
  have hflush : b.flushEntry c.entry = b.sendCmd d := by
    unfold State.flushEntry State.flushCmds
    simp [hbc, hdchange, hmay]
  obtain ⟨hq, hw, ⟨f, hf, hft, hfc, hftx, hfg⟩, hseq, hcc⟩ := State.sendCmd_one (s := b) hbc
  simp only [hb]
  rw [hflush]
  generalize b.sendCmd d = t at *
  have hslot : ∀ m, t.slot m = a.slot m := fun m => (State.slot_congr b t (congrArg Opt.slots (hcc.2.2 .opt (by simp))) m).trans (hbslot m)
  refine ⟨t, rfl, by rw [hslot, hst], by rw [hslot, hblock], by rw [hslot, hop], hq.trans hbq, hw.trans hbw,
    ⟨f, hf, hft.trans hdtag, hfc.trans hdchange, hftx, hfg.trans hdgranted⟩, ?_, fun m hm => (hslot m).trans (hother m hm),
    hbcc.trans (hcc.mono (by simp))⟩
  rw [hdchange, hbl] at hseq
  exact hseq

end

end Sys2Proof.Machine

/-! PROOFS. COMMAND_FORM and IDENTIFY, and O20 settled. -/

namespace Sys2Proof.Machine

-- One declaration after the other: the stacks of parallel elaboration would count against the memory limit of the check.
set_option Elab.async false

section
variable {s : State} {k n e : Nat} {x : Slot} {c : LcpChange}

/-- The state with its queue empty forms the one change that was queued. -/
theorem State.formQueued_one {u t : State} {j : Nat} (hq : s.lcp.queue = [c])
    (hu : ({ s with lcp := { s.lcp with queue := [] } } : State) = u) (hform : u.formCmd c = some t) (htq : t.lcp.queue = []) :
    s.formQueued (j + 1) = t := by
  have hstop : ∀ i, t.formQueued i = t := by
    intro i
    cases i with
    | zero => rfl
    | succ i => simp only [State.formQueued, htq]
  unfold State.formQueued
  simp only [hq, hu, hform, hstop]

/-- A command that is granted needs no reservation's cover, and one that is sent is not sent again. -/
theorem State.settled_sent {d : LcpCmd} (hone : s.lcp.cmds = [d]) (hgranted : d.granted = true) (htx : d.tx = 1) :
    s.coverNow = s ∧ s.flushCmds (fun _ => true) = s := by
  constructor
  · unfold State.coverNow
    simp [hone, State.lcpCmd, hgranted]
  · have hmay : s.mayLeave d = false := by simp [State.mayLeave, htx]
    unfold State.flushCmds
    simp [hone, hmay]

theorem commandForm_sent (hup : s.Up) (hen : s.en Blk.LCP = true) (hch : s.lcp.changes = []) (hq : s.lcp.queue = [c])
    (hcmds : s.lcp.cmds = []) (hw : s.lcp.opWait = []) (hkind : c.kind = .level) (hctx : c.ctx = 0) (hon : s.lumOnline c.entry = true)
    (hfree : s.freeTag = some n) (hpf : s.sup.pfail = false) (hlat : s.latSt ≠ LatSt.RESET)
    (hprice : s.lumPrice c.entry c.value ≤ (s.lum c.entry).grant) :
    ∃ t, exec .commandForm s = .next t ∧ (t.slot n).st = .active ∧ (t.slot n).block = Blk.LCP ∧ (t.slot n).opcode = 0x10
      ∧ t.lcp.queue = [] ∧ (∃ d, t.lcp.cmds = [d] ∧ d.tag = n ∧ d.change = c ∧ d.tx = 1 ∧ d.granted = true)
      ∧ (t.lum c.entry).nextSeq = ((s.lum c.entry).nextSeq + 1) % 65536 ∧ OnlyChanges [.regs, .out, .fab, .opt, .lcp] s t := by
  have htake : s.takeChanges = s := by
    unfold State.takeChanges
    rw [hch, List.foldl_nil, ← hch]
  obtain ⟨u, hu, huq, huw, huc, huon, hufree, hupf, hulat, huprice, hul, hucc⟩ : ∃ u,
      ({ s with lcp := { s.lcp with queue := [] } } : State) = u ∧ u.lcp.queue = [] ∧ u.lcp.opWait = [] ∧ u.lcp.cmds = []
      ∧ u.lumOnline c.entry = true ∧ u.freeTag = some n ∧ u.sup.pfail = false ∧ u.latSt ≠ LatSt.RESET
      ∧ u.lumPrice c.entry c.value ≤ (u.lum c.entry).grant ∧ (u.lum c.entry).nextSeq = (s.lum c.entry).nextSeq
      ∧ OnlyChanges [.lcp] s u :=
    ⟨_, rfl, rfl, hw, hcmds, hon, (State.freeTag_congr (fun _ => rfl) rfl).trans hfree, hpf, hlat, hprice, rfl, by simp [onlyChanges_iff]⟩
  obtain ⟨t, hform, hst, hblock, hop, htq, htw, ⟨d, hd, hdt, hdc, hdx, hdg⟩, hseq, -, hcc⟩ := State.formCmd_sent huc huon hctx hufree hupf
    (fun _ => huprice) (fun _ => ⟨hulat, huq⟩)
  have hall : OnlyChanges [.regs, .out, .fab, .opt, .lcp] s t.noteLcp :=
    (hucc.mono (by simp)).trans (hcc.trans (t.noteLcp_onlyChanges.mono (by simp)))
  obtain ⟨hcover, hflush⟩ := State.settled_sent hd hdg hdx
  refine ⟨t.noteLcp, ?_, hst, hblock, by rw [hkind] at hop; exact hop, htq.trans huq, ⟨d, hd, hdt, hdc, hdx, hdg⟩,
    hseq.trans (by rw [hul]), hall⟩
  rw [exec_commandForm, execCommandForm]
  refine State.powered_next hup ?_ hall (by simp)
  rw [if_neg (by simp [hen]), htake, State.formQueued_one hq hu hform (htq.trans huq), hcover, hflush,
    State.endFormed_idle (htq.trans huq) (htw.trans huw)]

theorem identify_formed (hup : s.Up) (hserv : tfind? s.hlk.serving k = none) (hmode : s.mode ≠ Mode.MINIMAL) (hctx : x.ctx = 0)
    (he : e < 768) (hen : s.lumEnabled e = true) (hq : s.lcp.queue = []) (hw : s.lcp.opWait = []) (hcmds : s.lcp.cmds = [])
    (hx : s.activeOp k Blk.LCP 4 = some x) (hpe : paramField x.param 0 2 = e) (hst : s.lumState e = LumSt.ONLINE)
    (hfree : s.freeTag = some n) (hpf : s.sup.pfail = false) :
    ∃ t, exec (.identify k) s = .next t ∧ t.Ended k St.OK 0 ∧ (t.slot n).st = .active ∧ (t.slot n).opcode = 0x12
      ∧ (∃ d, t.lcp.cmds = [d] ∧ d.tag = n ∧ d.change.entry = e ∧ d.change.kind = .identify) := by
  have hact : (s.slot k).st = .active := by
    obtain ⟨h, hst, -⟩ := s.activeOp_some k _ _ x hx
    exact h ▸ hst
  have hkn : k ≠ n := fun h => by
    rw [h, State.freeTag_free hfree] at hact
    exact nomatch hact
  have hon : s.lumOnline e = true := by simp [State.lumOnline, hen, hst]
  generalize hc : (⟨e, .identify, paramField x.param 2 2, 0, 0, s.chain, true, 1, x.ctx, 0, none, true⟩ : LcpChange) = c
  obtain ⟨hce, hck, hcctx⟩ : c.entry = e ∧ c.kind = .identify ∧ c.ctx = 0 := by rw [← hc]; exact ⟨rfl, rfl, hctx⟩
  obtain ⟨a, ha, haq, haw, hac, hacc, har⟩ : ∃ a, s.queueChange c = a ∧ a.lcp.queue = [c] ∧ a.lcp.opWait = [] ∧ a.lcp.cmds = []
      ∧ OnlyChanges [.regs, .lcp] s a ∧ OnlyRegs [Reg.LCP_OPEN] s a := by
    obtain ⟨b, hb, hbq, hbw, hbc, hbr, hbcc⟩ : ∃ b, ({ s with lcp := { s.lcp with queue := [c] } } : State) = b ∧ b.lcp.queue = [c]
        ∧ b.lcp.opWait = [] ∧ b.lcp.cmds = [] ∧ b.regs = s.regs ∧ OnlyChanges [.regs, .lcp] s b :=
      ⟨_, rfl, rfl, hw, hcmds, rfl, by simp [onlyChanges_iff]⟩
    have hqueue : s.queueChange c = b.noteLcp := by
      unfold State.queueChange
      rw [← hb, hq]
      rfl
    exact ⟨_, hqueue, hbq, hbw, hbc, hbcc.trans (b.noteLcp_onlyChanges.mono (by simp)),
      (OnlyRegs.of_regs_eq hbr).trans b.noteLcp_onlyRegs⟩
  have hcfg : a.reg (Reg.LCP_LnCFG e) = s.reg (Reg.LCP_LnCFG e) :=
    har _ (by simp only [List.mem_singleton, Reg.LCP_LnCFG, Reg.LCP_OPEN]; omega)
  have hstate : a.reg (Reg.LCP_LnSTATE e) = s.reg (Reg.LCP_LnSTATE e) :=
    har _ (by simp only [List.mem_singleton, Reg.LCP_LnSTATE, Reg.LCP_OPEN]; omega)
  have haon : a.lumOnline e = true := by
    rw [← hon, State.lumOnline, State.lumOnline, State.lumEnabled, State.lumEnabled, State.lumState, State.lumState,
      State.flag_congr _ _ _ _ hcfg, State.fld_congr hstate]
  have hslot : ∀ m, a.slot m = s.slot m := State.slot_congr s a (congrArg Opt.slots (hacc.2.2 .opt (by simp)))
  have hafree : a.freeTag = some n := (State.freeTag_congr (fun m => by rw [hslot]) (by rw [hacc.2.2 .opt (by simp)])).trans hfree
  have hapf : a.sup.pfail = false := by rw [hacc.2.2 .sup (by simp)]; exact hpf
  obtain ⟨b, hb, hbq, hbw⟩ : ∃ b, ({ a with lcp := { a.lcp with opWait := a.lcp.opWait ++ [(k, (0 : Word))] } } : State) = b
      ∧ b.lcp.queue = [c] ∧ b.lcp.opWait = [(k, (0 : Word))] := ⟨_, rfl, haq, by rw [haw]; rfl⟩
  obtain ⟨u, hu, huq, huw, huc, huon, hufree, hupf, huslot, huhlk⟩ : ∃ u,
      ({ b with lcp := { b.lcp with queue := [] } } : State) = u ∧ u.lcp.queue = [] ∧ u.lcp.opWait = [(k, (0 : Word))] ∧ u.lcp.cmds = []
      ∧ u.lumOnline c.entry = true ∧ u.freeTag = some n ∧ u.sup.pfail = false ∧ (∀ m, u.slot m = s.slot m) ∧ u.hlk = s.hlk := by
    refine ⟨_, rfl, rfl, hbw, ?_⟩
    rw [← hb, hce]
    exact ⟨hac, haon, (State.freeTag_congr (fun _ => rfl) rfl).trans hafree, hapf, hslot, hacc.2.2 .hlk (by simp)⟩
  obtain ⟨t, hform, htst, -, htop, htq, htw, ⟨d, hd, hdt, hdc, -, -⟩, -, htslot, htcc⟩ := State.formCmd_sent huc huon hcctx hufree hupf
    (fun h => by rw [hck] at h; cases h) (fun h => by rw [hck] at h; cases h)
  rw [hck] at htop
  obtain ⟨v, hv, hvslot, hvhlk, hvc⟩ : ∃ v, ({ t with lcp := { t.lcp with opWait := [] } } : State) = v ∧ (∀ m, v.slot m = t.slot m)
      ∧ v.hlk = t.hlk ∧ v.lcp.cmds = [d] := ⟨_, rfl, fun _ => rfl, rfl, hd⟩
  have hvact : (v.slot k).st = .active := by rw [hvslot, htslot k hkn, huslot]; exact hact
  have hvserv : tfind? v.hlk.serving k = none := by rw [hvhlk, htcc.2.2 .hlk (by simp), huhlk]; exact hserv
  have hrun : (a.finishLcpOp k 0) = (v.decideOp k St.OK 0).noteLcp := by
    unfold State.finishLcpOp
    simp only [hb]
    rw [haq, List.length_singleton, State.formQueued_one hbq hu hform (htq.trans huq)]
    unfold State.endFormed
    rw [if_pos (htq.trans huq), htw, huw, hv]
    rfl
  have hn : (v.decideOp k St.OK 0).slot n = t.slot n := by
    rw [State.decideOp_slot v k n St.OK 0 hvact, if_neg hkn, hvslot]
  have hlcp : (v.decideOp k St.OK 0).lcp = v.lcp := (State.decideOp_books hvserv hvact St.OK 0).2.2 .lcp (by simp)
  have hend := State.decideOp_ended hvact St.OK 0
  have hparts : OnlyChanges [.opt, .scn, .sto] v (v.decideOp k St.OK 0) := State.decideOp_books hvserv hvact St.OK 0
  have hbcc : OnlyChanges [.regs, .lcp] s b := hacc.trans (by rw [← hb]; simp [onlyChanges_iff])
  have hucc : OnlyChanges [.regs, .lcp] s u := hbcc.trans (by rw [← hu]; simp [onlyChanges_iff])
  have hvcc : OnlyChanges [.lcp] t v := by rw [← hv]; simp [onlyChanges_iff]
  have hall : OnlyChanges [.regs, .out, .fab, .opt, .lcp, .scn, .sto] s (v.decideOp k St.OK 0).noteLcp :=
    ((hucc.mono (by simp)).trans ((htcc.mono (by simp)).trans (hvcc.mono (by simp)))).trans
      ((hparts.mono (by simp)).trans ((State.noteLcp_onlyChanges _).mono (by simp)))
  generalize v.decideOp k St.OK 0 = w at *
  refine ⟨w.noteLcp, ?_, hend, (congrArg Slot.st hn :).trans htst, (congrArg Slot.opcode hn :).trans htop,
    d, (congrArg Lcp.cmds hlcp :).trans hvc, hdt, by rw [hdc, hce], by rw [hdc, hck]⟩
  rw [exec_identify, execIdentify]
  refine State.powered_next hup ?_ hall (by simp)
  simp only [hx, hpe, if_neg hmode, hon, Bool.not_true, Bool.false_eq_true, or_false, if_neg (show ¬768 ≤ e by omega), State.mayAddressLum,
    hctx, beq_self_eq_true, Bool.true_or, if_false]
  rw [hctx] at hc
  rw [hc, ha, hrun]

end

/-- Settles O20: COMMAND_FORM, then operation by operation. -/
theorem luminaireCommands : Obligations.LuminaireCommands := by
  unfold Obligations.LuminaireCommands
  refine ⟨fun s c n hup hen hch hq hcmds hw hkind hctx hon hfree hpf hlat hprice =>
      commandForm_sent hup hen hch hq hcmds hw hkind hctx hon hfree hpf hlat hprice,
    fun s k e x hup hserv hmode hctx he hen hq hw hcmds => ⟨fun l hx hpe hpl hl hst hover =>
      level_offline hup hserv hmode hctx he hen hq hw hx hpe hpl hl hst hover, fun g j hx hpg hps hmem hj hkeep hst hover =>
      recall_offline hup hserv hmode hctx hq hw hx hpg hps hmem hj hkeep hst hover, fun l hx hpe hpl hl hst hover hbase =>
      override_offline hup hserv hmode hctx he hen hq hw hx hpe hpl hl hst hover hbase, fun n hx hpe hst hfree hpf _ =>
      identify_formed hup hserv hmode hctx he hen hq hw hcmds hx hpe hst hfree hpf, fun p hx hpp hp hforce =>
      rediscover_force hup hserv hmode hctx hcmds hx hpp hp hforce, fun j sc hx hwait hpe hpj hj hps hsc hvalid hlevel hkeep =>
      sceneWrite_word hup hserv hmode hctx he hx hwait hpe hpj hj hps hsc hvalid hlevel hkeep⟩⟩

end Sys2Proof.Machine

/-! PROOFS. A servo's update with an accepted Sync (R454). -/

namespace Sys2Proof.Machine

-- One declaration after the other: the stacks of parallel elaboration would count against the memory limit of the check.
set_option Elab.async false

section
variable {s : State} {n : Nat} {th : Int}

theorem State.raiseIrq_flag_other (s : State) (b bit j : Nat) (hbit : bit < 32) (hne : bit ≠ j) :
    (s.raiseIrq b bit).flag (Reg.IRQ_STAT b) j = s.flag (Reg.IRQ_STAT b) j :=
  (State.flag_congr _ _ _ _ (State.irqEdge_reg_other _ s b _ (ne_of_window_ne (by rw [irqStat_mod]; decide))
    (ne_of_window_ne (by rw [irqStat_mod]; decide)))).trans (s.setFlag_flag_other _ _ _ _ hbit hne)

theorem State.putServo_servo (s : State) (n m : Nat) (v : Servo) : (s.putServo n v).servo m = if n = m then v else s.servo m :=
  tget_tset (fun _ => Servo.fresh) s.ntu.servos n m v

theorem State.servo_congr {t : State} (h : t.ntu = s.ntu) (m : Nat) : t.servo m = s.servo m := by
  rw [State.servo, State.servo, h]

theorem ntuStat_ne_irq (n : Nat) : Reg.NTU_TBn_STAT n ≠ Reg.IRQ_STAT Blk.NTU := by
  simp only [Reg.NTU_TBn_STAT, Reg.IRQ_STAT]
  omega

/-- A change of SYNC touches the two lowest bits of the base's state and one interrupt bit. -/
theorem State.setSync_flags (hn : n ≤ 3) (on : Bool) : (∀ i, 2 ≤ i → (s.setSync n on).flag (Reg.NTU_TBn_STAT n) i = s.flag (Reg.NTU_TBn_STAT n) i)
    ∧ (s.setSync n on).flag (Reg.IRQ_STAT Blk.NTU) 2 = s.flag (Reg.IRQ_STAT Blk.NTU) 2 := by
  obtain ⟨hstat, -, -⟩ := ntuStat_kept hn
  have hne := ntuStat_ne_irq n
  unfold State.setSync
  split
  · exact ⟨fun _ _ => rfl, rfl⟩
  · simp only
    have h1 : ∀ i, 2 ≤ i → (s.setFlag (Reg.NTU_TBn_STAT n) 1 on).flag (Reg.NTU_TBn_STAT n) i = s.flag (Reg.NTU_TBn_STAT n) i :=
      fun i hi => s.setFlag_flag_other _ _ _ _ (by decide) (by omega)
    have h2 := s.setFlag_flag_reg (Reg.NTU_TBn_STAT n) 1 (Reg.IRQ_STAT Blk.NTU) 2 on hne
    generalize s.setFlag (Reg.NTU_TBn_STAT n) 1 on = a at *
    have g1 : ∀ i, (a.raiseIrq Blk.NTU 1).flag (Reg.NTU_TBn_STAT n) i = a.flag (Reg.NTU_TBn_STAT n) i :=
      fun i => State.flag_congr _ _ _ _ (a.raiseIrq_onlyRegs Blk.NTU 1 _ hstat)
    have g2 := a.raiseIrq_flag_other Blk.NTU 1 2 (by decide) (by decide)
    generalize a.raiseIrq Blk.NTU 1 = b at *
    split
    · exact ⟨fun i hi => (b.setFlag_flag_other _ _ _ _ (by decide) (by omega)).trans ((g1 i).trans (h1 i hi)),
        (b.setFlag_flag_reg _ _ _ _ _ hne).trans (g2.trans h2)⟩
    · exact ⟨fun i hi => (g1 i).trans (h1 i hi), g2.trans h2⟩

/-- What the judgement of SYNC leaves (R454). -/
theorem State.judgeSync_keeps (s : State) (hn : n ≤ 3) (th : Int) :
    (∃ i o, (s.judgeSync n th).servo n = { s.servo n with inRun := i, outRun := o })
    ∧ (∀ i, 2 ≤ i → (s.judgeSync n th).flag (Reg.NTU_TBn_STAT n) i = s.flag (Reg.NTU_TBn_STAT n) i)
    ∧ (s.judgeSync n th).flag (Reg.IRQ_STAT Blk.NTU) 2 = s.flag (Reg.IRQ_STAT Blk.NTU) 2
    ∧ (s.judgeSync n th).tbs = s.tbs ∧ OnlyRegs (Reg.NTU_TBn_STAT n :: irqRegs Blk.NTU) s (s.judgeSync n th) := by
  obtain ⟨i, o, hv⟩ : ∃ i o, s.judgeSync n th = if (s.putServo n { s.servo n with inRun := i, outRun := o }).flag (Reg.NTU_TBn_STAT n) 1 then
        (if 4 ≤ o then (s.putServo n { s.servo n with inRun := i, outRun := o }).setSync n false
          else s.putServo n { s.servo n with inRun := i, outRun := o })
      else if 16 ≤ i then (s.putServo n { s.servo n with inRun := i, outRun := o }).setSync n true
      else s.putServo n { s.servo n with inRun := i, outRun := o } := ⟨_, _, rfl⟩
  have hput := (s.putServo_servo n n { s.servo n with inRun := i, outRun := o }).trans (if_pos rfl)
  have hregs : (s.putServo n { s.servo n with inRun := i, outRun := o }).regs = s.regs := rfl
  have htbs : (s.putServo n { s.servo n with inRun := i, outRun := o }).tbs = s.tbs := rfl
  rw [hv]
  generalize s.putServo n { s.servo n with inRun := i, outRun := o } = a at *
  have hsync : ∀ on, (∃ i o, (a.setSync n on).servo n = { s.servo n with inRun := i, outRun := o })
      ∧ (∀ i, 2 ≤ i → (a.setSync n on).flag (Reg.NTU_TBn_STAT n) i = s.flag (Reg.NTU_TBn_STAT n) i)
      ∧ (a.setSync n on).flag (Reg.IRQ_STAT Blk.NTU) 2 = s.flag (Reg.IRQ_STAT Blk.NTU) 2
      ∧ (a.setSync n on).tbs = s.tbs ∧ OnlyRegs (Reg.NTU_TBn_STAT n :: irqRegs Blk.NTU) s (a.setSync n on) := fun on => by
    obtain ⟨h, hr⟩ := a.setSync_frame n on
    obtain ⟨hf, hi⟩ := State.setSync_flags (s := a) hn on
    exact ⟨⟨i, o, (State.servo_congr (h.2.2 .ntu (by simp)) n).trans hput⟩,
      fun j hj => (hf j hj).trans (State.flag_congr _ _ _ _ (State.reg_congr _ _ hregs _)),
      hi.trans (State.flag_congr _ _ _ _ (State.reg_congr _ _ hregs _)), (h.2.2 .tbs (by simp)).trans htbs,
      (OnlyRegs.of_regs_eq hregs).trans hr⟩
  have hstay : (∃ i o, a.servo n = { s.servo n with inRun := i, outRun := o })
      ∧ (∀ i, 2 ≤ i → a.flag (Reg.NTU_TBn_STAT n) i = s.flag (Reg.NTU_TBn_STAT n) i)
      ∧ a.flag (Reg.IRQ_STAT Blk.NTU) 2 = s.flag (Reg.IRQ_STAT Blk.NTU) 2
      ∧ a.tbs = s.tbs ∧ OnlyRegs (Reg.NTU_TBn_STAT n :: irqRegs Blk.NTU) s a :=
    ⟨⟨i, o, hput⟩, fun j _ => State.flag_congr _ _ _ _ (State.reg_congr _ _ hregs _), State.flag_congr _ _ _ _ (State.reg_congr _ _ hregs _),
      htbs, OnlyRegs.of_regs_eq hregs⟩
  split
  · split
    · exact hsync _
    · exact hstay
  · split
    · exact hsync _
    · exact hstay

/-- Skipped edges leave the servos as they are. -/
theorem State.skipEdges_servo (s : State) (n m : Nat) : (s.skipEdges n).servo m = s.servo m := by
  refine s.forN_view_of_keeps (fun a => a.servo m) 8 _ fun a g _ => ?_
  simp only
  split
  · rfl
  · exact State.servo_congr (s := a.setPgIndex g _) ((State.raiseIrq_onlyChanges _ _ _).2.2 .ntu (by simp)) m

/-- A base that is stepped, whether TB3 follows it or not (R454, R457). -/
theorem State.placeTb_keeps (h4 : s.tbs.length = 4) (hn : n < 3) (time : Nat) : ((s.placeTb n time).tb n).time = time
    ∧ (∀ m, (s.placeTb n time).servo m = s.servo m)
    ∧ ∀ off, off < 0x142000 → off ∉ irqRegs Blk.NTU → (s.placeTb n time).reg off = s.reg off := by
  have h1 := State.setTb_tb h4 (show n < 4 by omega) { s.tb n with time := time } n
  have h2 := s.setTb_onlyChanges n { s.tb n with time := time }
  have h3 := (s.setTb_length n { s.tb n with time := time }).trans h4
  rw [if_pos rfl] at h1
  unfold State.placeTb
  simp only
  generalize s.setTb n { s.tb n with time := time } = u at *
  have hserv : ∀ m, u.servo m = s.servo m := State.servo_congr (h2.2.2 .ntu (by simp))
  have hreg : ∀ off, u.reg off = s.reg off := State.reg_congr _ _ (h2.2.2 .regs (by simp))
  obtain ⟨v, hv, hvtb, hvserv, hvreg⟩ : ∃ v, (if n ≠ 3 ∧ u.tbSource 3 = 2 ∧ u.fld (Reg.NTU_TBn_CFG 3) 2 2 = n then
      (u.setTb 3 { u.tb 3 with time := ((time : Int) + u.ntu.tb3Off).toNat }).skipEdges 3 else u) = v ∧ v.tb n = u.tb n
      ∧ (∀ m, v.servo m = u.servo m) ∧ ∀ off, off < 0x142000 → off ∉ irqRegs Blk.NTU → v.reg off = u.reg off := by
    split
    · have g1 := State.setTb_tb h3 (show 3 < 4 by decide) { u.tb 3 with time := ((time : Int) + u.ntu.tb3Off).toNat } n
      have g2 := u.setTb_onlyChanges 3 { u.tb 3 with time := ((time : Int) + u.ntu.tb3Off).toNat }
      rw [if_neg (by omega)] at g1
      generalize u.setTb 3 { u.tb 3 with time := ((time : Int) + u.ntu.tb3Off).toNat } = w at *
      obtain ⟨k1, k2⟩ := w.skipEdges_frame 3
      exact ⟨_, rfl, (State.tb_congr (k1.2.2 .tbs (by simp)) n).trans g1,
        fun m => (w.skipEdges_servo 3 m).trans (State.servo_congr (g2.2.2 .ntu (by simp)) m),
        fun off h hirq => (k2 off h hirq).trans (State.reg_congr _ _ (g2.2.2 .regs (by simp)) off)⟩
    · exact ⟨u, rfl, rfl, fun _ => rfl, fun _ _ _ => rfl⟩
  rw [hv]
  obtain ⟨k1, k2⟩ := v.skipEdges_frame n
  refine ⟨?_, fun m => (v.skipEdges_servo n m).trans ((hvserv m).trans (hserv m)),
    fun off h hirq => (k2 off h hirq).trans ((hvreg off h hirq).trans (hreg off))⟩
  rw [State.tb_congr (k1.2.2 .tbs (by simp)) n, hvtb, h1]

/-! ### Updates -/

theorem ntuOffset_kept {n : Nat} (hn : n < 3) : Reg.NTU_TBn_OFFSET n ∉ Reg.NTU_TBn_STAT n :: irqRegs Blk.NTU
    ∧ Reg.NTU_TBn_OFFSET n < 0x142000 ∧ Reg.NTU_TBn_OFFSET n ≠ Reg.NTU_TBn_RATE n ∧ Reg.NTU_TBn_OFFSET n ≠ Reg.NTU_TBn_STEP_CNT n := by
  have table : ∀ k : Fin 3, Reg.NTU_TBn_OFFSET k ∉ Reg.NTU_TBn_STAT k :: irqRegs Blk.NTU ∧ Reg.NTU_TBn_OFFSET k < 0x142000
      ∧ Reg.NTU_TBn_OFFSET k ≠ Reg.NTU_TBn_RATE k ∧ Reg.NTU_TBn_OFFSET k ≠ Reg.NTU_TBn_STEP_CNT k := by decide
  exact table ⟨n, hn⟩

/-- What every update of a servo shows (R454). -/
def State.Updated (s u : State) (n : Nat) (th : Int) : Prop :=
  u.num (Reg.NTU_TBn_OFFSET n) = unsigned 32 th ∧ (u.servo n).syncClk = (s.servo n).syncClk ∧ (u.servo n).sync = (s.servo n).sync
  ∧ ∀ i, 2 ≤ i → u.flag (Reg.NTU_TBn_STAT n) i = s.flag (Reg.NTU_TBn_STAT n) i

/-- An update without a step: the rate follows the offset and its integral (R454). -/
theorem State.servoUpdate_glides (h4 : s.tbs.length = 4) (hn : n < 3) (k : Nat) {i : Int} (hstep : s.stepsNow n th = false)
    (hi : i = (s.servo n).integ + (s.fld (Reg.NTU_TBn_SERVO n) 16 16 : Int) * th) :
    s.Updated (s.servoUpdate n th k) n th ∧ ((s.servoUpdate n th k).servo n).integ = i
    ∧ ((s.servoUpdate n th k).tb n).rate = clampInt (-32768000) 32768000
        (-(((s.fld (Reg.NTU_TBn_SERVO n) 0 16 : Int) * th + i) * (2 ^ k : Nat)) * 2 / 1000) := by
  obtain ⟨hoff, -, -, -⟩ := ntuOffset_kept hn
  unfold State.servoUpdate
  simp only [hstep, Bool.false_eq_true, if_false, ← hi]
  generalize (if decide (s.fld (Reg.NTU_TBn_THR n) 16 16 * 1000 < th.natAbs) = true then (s.servo n).stepRun + 1 else 0) = run
  generalize hr : -(((s.fld (Reg.NTU_TBn_SERVO n) 0 16 : Int) * th + i) * (2 ^ k : Nat)) * 2 / 1000 = r
  have hshow : (s.setNum (Reg.NTU_TBn_OFFSET n) (unsigned 32 th)).num (Reg.NTU_TBn_OFFSET n) = unsigned 32 th :=
    (s.setNum_num_same _ _).trans (Nat.mod_eq_of_lt (unsigned_lt th))
  have hstat : ∀ j, (s.setNum (Reg.NTU_TBn_OFFSET n) (unsigned 32 th)).flag (Reg.NTU_TBn_STAT n) j = s.flag (Reg.NTU_TBn_STAT n) j :=
    fun j => State.flag_congr _ _ _ _ (s.setNum_reg_other _ _ _ fun h => hoff (h ▸ List.mem_cons_self))
  have htb0 : (s.setNum (Reg.NTU_TBn_OFFSET n) (unsigned 32 th)).tbs.length = 4 := h4
  generalize s.setNum (Reg.NTU_TBn_OFFSET n) (unsigned 32 th) = a at *
  obtain ⟨b, hb, hbserv, hbregs, hb4⟩ : ∃ b, a.putServo n { s.servo n with updated := true, stepRun := run, integ := i } = b
      ∧ b.servo n = { s.servo n with updated := true, stepRun := run, integ := i } ∧ b.regs = a.regs ∧ b.tbs.length = 4 :=
    ⟨_, rfl, (State.putServo_servo _ _ _ _).trans (if_pos rfl), rfl, htb0⟩
  rw [hb]
  obtain ⟨c1, -, -, -, c5, c6⟩ := State.setRate_spec hb4 (show n < 4 by omega) r
  have cserv : (b.setRate n r).servo n = b.servo n := State.servo_congr (c5.2.2 .ntu (by simp)) n
  generalize b.setRate n r = c at *
  obtain ⟨⟨ir, or_, d1⟩, d2, -, d4, d5⟩ := c.judgeSync_keeps (show n ≤ 3 by omega) th
  generalize c.judgeSync n th = d at *
  have hdserv : ∀ rates, ({ d.servo n with rates := rates } : Servo).syncClk = (s.servo n).syncClk
      ∧ ({ d.servo n with rates := rates } : Servo).sync = (s.servo n).sync ∧ ({ d.servo n with rates := rates } : Servo).integ = i := fun _ => by
    rw [d1, cserv, hbserv]
    exact ⟨rfl, rfl, rfl⟩
  have hnum : d.num (Reg.NTU_TBn_OFFSET n) = unsigned 32 th := by
    rw [State.num_congr (d5 _ hoff), State.num_congr (c6 _ (by simp)), State.num_congr (State.reg_congr _ _ hbregs _), hshow]
  have hflag : ∀ j, 2 ≤ j → d.flag (Reg.NTU_TBn_STAT n) j = s.flag (Reg.NTU_TBn_STAT n) j := fun j hj => by
    rw [d2 j hj, State.flag_congr _ _ _ _ (c6 _ ?_), State.flag_congr _ _ _ _ (State.reg_congr _ _ hbregs _), hstat]
    simp only [List.mem_singleton, Reg.NTU_TBn_STAT, Reg.NTU_TBn_RATE]
    omega
  have hrateD : (d.tb n).rate = clampInt (-32768000) 32768000 r := by rw [State.tb_congr d4 n, c1]
  split
  · generalize hl : List.filter _ _ = l
    have hput := (d.putServo_servo n n { d.servo n with rates := l }).trans (if_pos rfl)
    obtain ⟨h1, h2, h3⟩ := hdserv l
    exact ⟨⟨hnum, by rw [hput, h1], by rw [hput, h2], hflag⟩, by rw [hput, h3], hrateD⟩
  · obtain ⟨h1, h2, h3⟩ := hdserv (d.servo n).rates
    exact ⟨⟨hnum, h1, h2, hflag⟩, h3, hrateD⟩

/-- An update that steps the base: its value moves by the offset, and the step is counted (R454). -/
theorem State.servoUpdate_steps (h4 : s.tbs.length = 4) (hn : n < 3) (k : Nat) (hstep : s.stepsNow n th = true) :
    s.Updated (s.servoUpdate n th k) n th
    ∧ ((s.servoUpdate n th k).tb n).time = (((s.tb n).time : Int) - th * (nsUnit : Nat)).toNat
    ∧ (s.servoUpdate n th k).num (Reg.NTU_TBn_STEP_CNT n) = Nat.min (s.num (Reg.NTU_TBn_STEP_CNT n) + 1) (2 ^ 32 - 1)
    ∧ (s.servoUpdate n th k).flag (Reg.IRQ_STAT Blk.NTU) 2 = true := by
  obtain ⟨hoff, hofflt, -, hoffcnt⟩ := ntuOffset_kept hn
  obtain ⟨hstatirq, hcntirq, hstatlt, hcntlt⟩ := ntuStat_kept (show n ≤ 3 by omega)
  have hstatcnt : Reg.NTU_TBn_STEP_CNT n ≠ Reg.NTU_TBn_STAT n := by simp only [Reg.NTU_TBn_STEP_CNT, Reg.NTU_TBn_STAT]; omega
  have hoffirq : Reg.NTU_TBn_OFFSET n ∉ irqRegs Blk.NTU := fun h => hoff (List.mem_cons_of_mem _ h)
  unfold State.servoUpdate State.stepTb State.countStep
  simp only [hstep, if_true]
  have hshow : (s.setNum (Reg.NTU_TBn_OFFSET n) (unsigned 32 th)).num (Reg.NTU_TBn_OFFSET n) = unsigned 32 th :=
    (s.setNum_num_same _ _).trans (Nat.mod_eq_of_lt (unsigned_lt th))
  have hkept : ∀ off, off ≠ Reg.NTU_TBn_OFFSET n → (s.setNum (Reg.NTU_TBn_OFFSET n) (unsigned 32 th)).reg off = s.reg off :=
    fun off h => s.setNum_reg_other _ _ _ (Ne.symm h)
  have htb0 : (s.setNum (Reg.NTU_TBn_OFFSET n) (unsigned 32 th)).tbs = s.tbs := rfl
  generalize s.setNum (Reg.NTU_TBn_OFFSET n) (unsigned 32 th) = a at *
  obtain ⟨b, hb, hbserv, hbregs, hbtbs⟩ : ∃ b, a.putServo n { s.servo n with updated := true, stepRun := 0 } = b
      ∧ b.servo n = { s.servo n with updated := true, stepRun := 0 } ∧ b.regs = a.regs ∧ b.tbs = s.tbs :=
    ⟨_, rfl, (State.putServo_servo _ _ _ _).trans (if_pos rfl), rfl, htb0⟩
  rw [hb]
  have htime : ((b.tb n).time : Int) + -th * (nsUnit : Nat) = ((s.tb n).time : Int) - th * (nsUnit : Nat) := by
    rw [State.tb_congr hbtbs n, Int.neg_mul]
    rfl
  rw [htime]
  obtain ⟨c1, c2, c3⟩ := State.placeTb_keeps (s := b) (n := n) (by rw [hbtbs, h4]) hn (((s.tb n).time : Int) - th * (nsUnit : Nat)).toNat
  generalize b.placeTb n (((s.tb n).time : Int) - th * (nsUnit : Nat)).toNat = c at *
  have hcreg : ∀ off, off < 0x142000 → off ∉ irqRegs Blk.NTU → c.reg off = a.reg off := fun off h hirq =>
    (c3 off h hirq).trans (State.reg_congr _ _ hbregs off)
  have hcount := c.satInc_num (Reg.NTU_TBn_STEP_CNT n) 1
  have hother : ∀ off, off ≠ Reg.NTU_TBn_STEP_CNT n → (c.satInc (Reg.NTU_TBn_STEP_CNT n) 0 32 1).reg off = c.reg off :=
    fun off h => c.satInc_reg_other _ _ _ _ _ (Ne.symm h)
  have hd1 : (c.satInc (Reg.NTU_TBn_STEP_CNT n) 0 32 1).tbs = c.tbs := rfl
  have hd2 : (c.satInc (Reg.NTU_TBn_STEP_CNT n) 0 32 1).ntu = c.ntu := rfl
  generalize c.satInc (Reg.NTU_TBn_STEP_CNT n) 0 32 1 = d at *
  have e1 := d.raiseIrq_onlyRegs Blk.NTU 2
  have e2 := d.raiseIrq_flag_same Blk.NTU 2 (by decide)
  have e3 := d.raiseIrq_onlyChanges Blk.NTU 2
  generalize d.raiseIrq Blk.NTU 2 = e at *
  obtain ⟨⟨ir, or_, f1⟩, f2, f3, f4, f5⟩ := e.judgeSync_keeps (show n ≤ 3 by omega) th
  generalize e.judgeSync n th = f at *
  have hserv : e.servo n = { s.servo n with updated := true, stepRun := 0 } := by
    rw [State.servo_congr (e3.2.2 .ntu (by simp)) n, State.servo_congr hd2 n, c2, hbserv]
  refine ⟨⟨?_, by rw [f1, hserv], by rw [f1, hserv], fun j hj => ?_⟩, ?_, ?_, by rw [f3, e2]⟩
  · rw [State.num_congr (f5 _ hoff), State.num_congr (e1 _ hoffirq), State.num_congr (hother _ hoffcnt), State.num_congr (hcreg _ hofflt hoffirq),
      hshow]
  · rw [f2 j hj, State.flag_congr _ _ _ _ (e1 _ hstatirq), State.flag_congr _ _ _ _ (hother _ hstatcnt.symm),
      State.flag_congr _ _ _ _ (hcreg _ hstatlt hstatirq), State.flag_congr _ _ _ _ (hkept _ fun h => hoff (h ▸ List.mem_cons_self))]
  · rw [State.tb_congr f4 n, State.tb_congr (e3.2.2 .tbs (by simp)) n, State.tb_congr hd1 n, c1]
  · rw [State.num_congr (f5 _ (by simp only [List.mem_cons, not_or]; exact ⟨hstatcnt, by simpa using hcntirq⟩)),
      State.num_congr (e1 _ hcntirq), hcount, State.num_congr (hcreg _ hcntlt hcntirq), State.num_congr (hkept _ hoffcnt.symm)]

end

end Sys2Proof.Machine

/-! PROOFS. PTP messages that a slave or a master receives (R454, R458). -/

namespace Sys2Proof.Machine

-- One declaration after the other: the stacks of parallel elaboration would count against the memory limit of the check.
set_option Elab.async false

section
variable {s : State} {b p : Nat}

/-- The servo that an accepted Sync finds: the clock of the Sync is kept and holdover has ended (R454, R455). -/
def State.acceptedSync (s : State) (n p : Nat) (d : Int) : State :=
  ((s.putServo n { s.servo n with syncClk := some s.clk, sync := none, diff := d }).setFlag (Reg.NTU_TBn_STAT n) 4 (p == 49)).setFlag
    (Reg.NTU_TBn_STAT n) 2 false

theorem State.acceptedSync_spec (s : State) (n p : Nat) (d : Int) :
    (s.acceptedSync n p d).servo n = { s.servo n with syncClk := some s.clk, sync := none, diff := d }
    ∧ OnlyRegs [Reg.NTU_TBn_STAT n] s (s.acceptedSync n p d) ∧ (s.acceptedSync n p d).tbs = s.tbs
    ∧ (s.acceptedSync n p d).flag (Reg.NTU_TBn_STAT n) 2 = false ∧ (s.acceptedSync n p d).flag (Reg.NTU_TBn_STAT n) 4 = (p == 49)
    ∧ (s.acceptedSync n p d).flag (Reg.NTU_TBn_STAT n) 0 = s.flag (Reg.NTU_TBn_STAT n) 0 := by
  obtain ⟨a, ha, hserv, hregs, htbs⟩ : ∃ a, s.putServo n { s.servo n with syncClk := some s.clk, sync := none, diff := d } = a
      ∧ a.servo n = { s.servo n with syncClk := some s.clk, sync := none, diff := d } ∧ a.regs = s.regs ∧ a.tbs = s.tbs :=
    ⟨_, rfl, (State.putServo_servo _ _ _ _).trans (if_pos rfl), rfl, rfl⟩
  unfold State.acceptedSync
  rw [ha]
  refine ⟨hserv, (OnlyRegs.of_regs_eq hregs).setFlag.setFlag, htbs, State.setFlag_flag_same _ _ _ _ (by decide), ?_, ?_⟩
  · rw [State.setFlag_flag_other _ _ _ _ _ (by decide) (by decide), State.setFlag_flag_same _ _ _ _ (by decide)]
  · rw [State.setFlag_flag_other _ _ _ _ _ (by decide) (by decide), State.setFlag_flag_other _ _ _ _ _ (by decide) (by decide),
      State.flag_congr _ _ _ _ (State.reg_congr _ _ hregs _)]

/-- An accepted Sync: what its update reads stands as before it, but the servo's own notes. -/
theorem acceptSync_spec {t2 t1 th i : Int} {u : State} (h4 : s.tbs.length = 4) (hb : b = 0 ∨ b = 2)
    (hth : th = t2 - t1 - (s.num (Reg.NTU_TBn_MPD b) : Int)) (hu : u = s.acceptSync b p t2 t1) :
    u.num (Reg.NTU_TBn_OFFSET b) = unsigned 32 th ∧ (u.servo b).syncClk = some s.clk ∧ (u.servo b).sync = none
      ∧ u.flag (Reg.NTU_TBn_STAT b) 2 = false ∧ u.flag (Reg.NTU_TBn_STAT b) 4 = (p == 49)
      ∧ (s.stepsNow b th = false → i = (s.servo b).integ + (s.fld (Reg.NTU_TBn_SERVO b) 16 16 : Int) * th →
        (u.servo b).integ = i ∧ (u.tb b).rate = clampInt (-32768000) 32768000
          (-(((s.fld (Reg.NTU_TBn_SERVO b) 0 16 : Int) * th + i) * (2 ^ s.logRate b : Nat)) * 2 / 1000))
      ∧ (s.stepsNow b th = true → (u.tb b).time = (((s.tb b).time : Int) - th * (nsUnit : Nat)).toNat
        ∧ u.num (Reg.NTU_TBn_STEP_CNT b) = Nat.min (s.num (Reg.NTU_TBn_STEP_CNT b) + 1) (2 ^ 32 - 1)
        ∧ u.flag (Reg.IRQ_STAT Blk.NTU) 2 = true) := by
  have hb3 : b < 3 := by omega
  obtain ⟨hserv, hregs, htbs, h2, hport, h0⟩ := s.acceptedSync_spec b p (t2 - t1)
  have hother : ∀ {off}, off ≠ Reg.NTU_TBn_STAT b → (s.acceptedSync b p (t2 - t1)).reg off = s.reg off :=
    fun h => hregs _ (by simpa using h)
  have hu' : u = (s.acceptedSync b p (t2 - t1)).servoUpdate b (t2 - t1 - ((s.acceptedSync b p (t2 - t1)).num (Reg.NTU_TBn_MPD b) : Nat))
      ((s.acceptedSync b p (t2 - t1)).logRate b) := hu
  generalize s.acceptedSync b p (t2 - t1) = a at *
  have hcfg : ∀ lo w, a.fld (Reg.NTU_TBn_CFG b) lo w = s.fld (Reg.NTU_TBn_CFG b) lo w := State.fld_congr (hother (by simp only [Reg.NTU_TBn_CFG, Reg.NTU_TBn_STAT]; omega))
  have hservo : ∀ lo w, a.fld (Reg.NTU_TBn_SERVO b) lo w = s.fld (Reg.NTU_TBn_SERVO b) lo w :=
    State.fld_congr (hother (by simp only [Reg.NTU_TBn_SERVO, Reg.NTU_TBn_STAT]; omega))
  have hthr : ∀ lo w, a.fld (Reg.NTU_TBn_THR b) lo w = s.fld (Reg.NTU_TBn_THR b) lo w :=
    State.fld_congr (hother (by simp only [Reg.NTU_TBn_THR, Reg.NTU_TBn_STAT]; omega))
  have hmpd : a.num (Reg.NTU_TBn_MPD b) = s.num (Reg.NTU_TBn_MPD b) := State.num_congr (hother (by simp only [Reg.NTU_TBn_MPD, Reg.NTU_TBn_STAT]; omega))
  have hcnt : a.num (Reg.NTU_TBn_STEP_CNT b) = s.num (Reg.NTU_TBn_STEP_CNT b) :=
    State.num_congr (hother (by simp only [Reg.NTU_TBn_STEP_CNT, Reg.NTU_TBn_STAT]; omega))
  have hlog : a.logRate b = s.logRate b := by simp only [State.logRate, hcfg]
  have hsteps : a.stepsNow b th = s.stepsNow b th := by
    have hcfg5 : a.flag (Reg.NTU_TBn_CFG b) 5 = s.flag (Reg.NTU_TBn_CFG b) 5 :=
      State.flag_congr _ _ _ _ (hother (by simp only [Reg.NTU_TBn_CFG, Reg.NTU_TBn_STAT]; omega))
    simp only [State.stepsNow, hserv, hthr, h0, hcfg5]
  rw [hmpd, hlog, ← hth] at hu'
  have hupd : ∀ v, a.Updated v b th → v.num (Reg.NTU_TBn_OFFSET b) = unsigned 32 th ∧ (v.servo b).syncClk = some s.clk
      ∧ (v.servo b).sync = none ∧ v.flag (Reg.NTU_TBn_STAT b) 2 = false ∧ v.flag (Reg.NTU_TBn_STAT b) 4 = (p == 49) := by
    rintro v ⟨g1, g2, g3, g4⟩
    rw [hserv] at g2 g3
    exact ⟨g1, g2, g3, (g4 2 (by decide)).trans h2, (g4 4 (by decide)).trans hport⟩
  subst hu'
  cases hstep : s.stepsNow b th with
  | false =>
    rw [hstep] at hsteps
    obtain ⟨hall, -, -⟩ := State.servoUpdate_glides (by rw [htbs, h4]) hb3 (s.logRate b) hsteps rfl
    obtain ⟨g1, g2, g3, g4, g5⟩ := hupd _ hall
    refine ⟨g1, g2, g3, g4, g5, fun _ hi => ?_, fun h => absurd h (by decide)⟩
    have hi' : i = (a.servo b).integ + (a.fld (Reg.NTU_TBn_SERVO b) 16 16 : Int) * th := by rw [hserv, hservo]; exact hi
    obtain ⟨-, k1, k2⟩ := State.servoUpdate_glides (by rw [htbs, h4]) hb3 (s.logRate b) hsteps hi'
    exact ⟨k1, by rw [k2, hservo]⟩
  | true =>
    rw [hstep] at hsteps
    obtain ⟨hall, k1, k2, k3⟩ := State.servoUpdate_steps (by rw [htbs, h4]) hb3 (s.logRate b) hsteps
    obtain ⟨g1, g2, g3, g4, g5⟩ := hupd _ hall
    exact ⟨g1, g2, g3, g4, g5, fun h => absurd h (by decide), fun _ => ⟨by rw [k1, State.tb_congr htbs], by rw [k2, hcnt], k3⟩⟩

/-! ### What a slave receives -/

theorem slaveReceives (hup : s.Up) (seq sec ns : Nat) (corr : Int) (hslave : s.ptpSlave b p = true) :
      (exec (.ptpSyncRx b p seq true sec ns corr) s
        = .next (s.putServo b { s.servo b with sync := some (seq, s.rxTime p b - corr) })) ∧
      (exec (.ptpSyncRx b p seq false sec ns corr) s = .next (s.guarded (s.acceptSync b p (s.rxTime p b - corr) (nsOf sec ns)))) ∧
      (∀ t2, (s.servo b).sync = some (seq, t2) →
        exec (.ptpFollowUpRx b p seq sec ns corr) s = .next (s.guarded (s.acceptSync b p (t2 - corr) (nsOf sec ns)))) ∧
      (∀ q t2, (s.servo b).sync = some (q, t2) → q ≠ seq → exec (.ptpFollowUpRx b p seq sec ns corr) s = .next s) ∧
      (∀ t3, (s.servo b).delay = some (seq, t3) → exec (.ptpDelayRespRx b p seq sec ns corr) s
        = .next ((s.putServo b { s.servo b with delay := none }).setNum (Reg.NTU_TBn_MPD b)
          (((s.servo b).diff + (nsOf sec ns - corr - t3)) / 2).toNat)) := by
  refine ⟨?_, ?_, fun t2 ht2 => ?_, fun q t2 ht2 hq => ?_, fun t3 ht3 => ?_⟩
  · rw [exec_ptpSyncRx, execPtpSyncRx]
    refine State.powered_next hup ?_ (s.putServo_onlyChanges _ _) (by simp)
    simp only [hslave, Bool.not_true, Bool.false_eq_true, if_false, if_true]
  · rw [exec_ptpSyncRx, execPtpSyncRx, s.powered_run _ hup]
    simp only [hslave, Bool.not_true, Bool.false_eq_true, if_false]
  · rw [exec_ptpFollowUpRx, execPtpFollowUpRx, s.powered_run _ hup]
    simp only [hslave, Bool.not_true, Bool.false_eq_true, if_false, ht2, if_true]
  · rw [exec_ptpFollowUpRx, execPtpFollowUpRx]
    refine State.powered_same ?_
    simp only [hslave, Bool.not_true, Bool.false_eq_true, if_false, ht2, if_neg hq]
  · rw [exec_ptpDelayRespRx, execPtpDelayRespRx]
    refine State.powered_next hup ?_ (((s.putServo_onlyChanges _ _).mono (qs := [.regs, .ntu]) (by simp)).trans
      ((State.setNum_onlyChanges _ _ _).mono (by simp))) (by simp)
    simp only [hslave, Bool.not_true, Bool.false_eq_true, if_false, ht3, ne_eq, not_true_eq_false]

/-! ### Sending -/

theorem State.freeTs_onlyChanges (s : State) (p : Nat) : OnlyChanges [.regs] s (s.freeTs p) := s.setFld_onlyChanges _ _ _ _

theorem State.ptpSend_onlyChanges (s : State) (b p msg seq : Nat) (stamped : Bool) (body : List Byte) :
    OnlyChanges [.regs, .out, .fab] s (s.ptpSend b p msg seq stamped body) := by
  unfold State.ptpSend
  simp only
  generalize internalFrame _ _ _ _ _ = f
  have h := State.sendInternal_onlyChanges (s := s) 2 (if stamped = true then some (b, msg, seq) else none) [p] f
  generalize s.sendInternal 2 (if stamped = true then some (b, msg, seq) else none) [p] f = a at *
  split
  · exact h.trans ((a.freeTs_onlyChanges p).mono (by simp))
  · exact h

theorem delayReq_answered (hup : s.Up) (seq sender : Nat) (hmaster : s.ptpMaster b p = true) :
    exec (.ptpDelayReqRx b p seq sender) s = .next (s.ptpSend b p 9 seq false (ptpTime (s.rxTime p b) ++ beBytes 10 sender)) := by
  rw [exec_ptpDelayReqRx, execPtpDelayReqRx]
  refine State.powered_next hup ?_ (s.ptpSend_onlyChanges _ _ _ _ _ _) (by simp)
  simp only [hmaster, Bool.not_true, Bool.false_eq_true, if_false]

end

end Sys2Proof.Machine

/-! PROOFS. A PTP message enters the class 7 queue of its port (R441, R442, R458). -/

namespace Sys2Proof.Machine

-- One declaration after the other: the stacks of parallel elaboration would count against the memory limit of the check.
set_option Elab.async false

theorem leBytes_len (n x : Nat) : (leBytes n x).length = n := by
  induction n generalizing x with
  | zero => rfl
  | succ n ih => simp [leBytes, ih]

theorem beBytes_len (n x : Nat) : (beBytes n x).length = n := by
  rw [beBytes, List.length_reverse, leBytes_len]

section
variable {s : State} {b p : Nat}

theorem State.room_reserved (h : s.fab.queues = []) {q n : Nat} (hn : n ≤ reservation q) : s.room q 7 n = some true := by
  have hb : s.buffered = [] := by
    rw [State.buffered, h]
    rfl
  unfold State.room
  simp only [hb, List.filter_nil]
  rw [if_pos ⟨trivial, by simpa [frameSum] using hn⟩]

/-- A class 7 frame for one port of an empty fabric is queued there (R441, R442). -/
theorem State.forward_urgent {q ingress vid pcp : Nat} {keep r : Bool} {op : Option Nat} {ptp : Option (Nat × Nat × Nat)} {f : EthFrame}
    (hq : s.fab.queues = []) (hpass : s.portPasses q false = true) (hlpi : s.flag (Reg.FAB_PnSTAT q) 6 = false) :
    ∃ t, s.forward ingress vid pcp 7 keep r op ptp [q] f = t
      ∧ t.fabQueue q 7 = [⟨s.fab.nextId, s.retag q vid pcp keep f, ingress, r, op, ptp⟩]
      ∧ t.fab.nextId = s.fab.nextId + 1 ∧ OnlyChanges [.regs, .fab] s t ∧ OnlyRegs [Reg.FAB_BUF_USED] s t := by
  generalize hf2 : s.retag q vid pcp keep f = f2
  unfold State.forward
  simp only [List.foldl_cons, List.foldl_nil]
  obtain ⟨a, ha, a1, a3, a4, a5, a6, a7⟩ : ∃ a, ({ s with fab := { s.fab with nextId := s.fab.nextId + 1 } } : State) = a
      ∧ a.fab.nextId = s.fab.nextId + 1 ∧ a.portPasses q false = true ∧ a.retag q vid pcp keep f = f2 ∧ a.fabQueue q 7 = []
      ∧ OnlyChanges [.fab] s a ∧ a.regs = s.regs := by
    refine ⟨_, rfl, rfl, hpass, hf2, ?_, by simp [onlyChanges_iff], rfl⟩
    simp only [State.fabQueue, hq]
    rfl
  rw [ha, a4]
  have hnew : a.enqueue q 7 ⟨s.fab.nextId, f2, ingress, r, op, ptp⟩
      = ((a.setQueue q 7 [⟨s.fab.nextId, f2, ingress, r, op, ptp⟩]).noteQueued q).endLpi q := by
    unfold State.enqueue
    simp only
    rw [if_neg (by simp [a3]), if_neg (fun h => h.1 rfl), if_pos trivial, a5]
    rfl
  rw [hnew]
  have b1 : (a.setQueue q 7 [⟨s.fab.nextId, f2, ingress, r, op, ptp⟩]).fabQueue q 7 = [⟨s.fab.nextId, f2, ingress, r, op, ptp⟩] :=
    by simp only [State.fabQueue, State.setQueue, tget_tset, if_true]
  have b2 : (a.setQueue q 7 [⟨s.fab.nextId, f2, ingress, r, op, ptp⟩]).fab.nextId = a.fab.nextId := rfl
  have b3 := a.setQueue_onlyChanges q 7 [⟨s.fab.nextId, f2, ingress, r, op, ptp⟩]
  generalize a.setQueue q 7 [⟨s.fab.nextId, f2, ingress, r, op, ptp⟩] = c at *
  obtain ⟨c1, -, c3, c4⟩ := c.noteQueued_spec q
  generalize c.noteQueued q = u at *
  have hregs : u.regs = s.regs := (c4.2.2 .regs (by simp)).trans ((b3.2.2 .regs (by simp)).trans a7)
  have hend : u.endLpi q = u := by
    unfold State.endLpi
    rw [if_pos]
    rw [State.flag_congr _ _ _ _ (State.reg_congr _ _ hregs _), hlpi]
    rfl
  rw [hend]
  have d1 := u.noteBuf_onlyChanges
  have d2 : OnlyRegs [Reg.FAB_BUF_USED] u u.noteBuf := (OnlyRegs.refl _ u).setFld.setFld
  have hfab : u.noteBuf.fab = u.fab := d1.2.2 .fab (by simp)
  refine ⟨_, rfl, ?_, ?_, (((a6.trans b3).trans c4).mono (by simp)).trans (d1.mono (by simp)), (OnlyRegs.of_regs_eq hregs).trans d2⟩
  · rw [State.fabQueue, hfab, c1]
    exact b1
  · rw [hfab, c3, b2, a1]

theorem ptpBytes_len (domain msg flags port seq log : Nat) (body : List Byte) :
    (ptpBytes domain msg flags port seq log body).length = 34 + body.length := by
  simp only [ptpBytes, List.length_append, beBytes_len]

/-- A message stands behind its header of 34 bytes. -/
theorem ptpBytes_body (domain msg flags port seq log : Nat) (body : List Byte) :
    (ptpBytes domain msg flags port seq log body).drop 34 = body := by
  unfold ptpBytes
  rw [List.drop_append_of_le_length (by simp only [List.length_append, beBytes_len]; decide), List.drop_of_length_le
    (by simp only [List.length_append, beBytes_len]; decide)]
  rfl

theorem internalFrame_tagged (dst src etype : Nat) (tag : Nat × Nat) (data : List Byte) :
    (internalFrame dst src (some tag) etype data).len = 22 + Nat.max 42 data.length := by
  simp only [internalFrame, Option.isSome_some, if_true, List.length_append, List.length_replicate, Nat.max_def]
  split
  all_goals omega

/-- A base's message of up to 1,000 bytes for a port that passes class 7 and is not in LPI (R458). -/
theorem State.ptpSend_first {msg seq : Nat} {stamped : Bool} {body : List Byte} (hq : s.fab.queues = []) (hpass : s.portPasses p false = true)
    (hlpi : s.flag (Reg.FAB_PnSTAT p) 6 = false) (hlen : body.length ≤ 1000) :
    ∃ t fr, s.ptpSend b p msg seq stamped body = t
      ∧ t.fabQueue p 7 = [⟨s.fab.nextId, fr, 52, true, none, if stamped then some (b, msg, seq) else none⟩]
      ∧ fr.dst = 0x011B19000000 ∧ fr.etype = 0x88F7 ∧ (∃ pad, fr.data.drop 34 = body ++ pad)
      ∧ t.fab.nextId = s.fab.nextId + 1 ∧ OnlyChanges [.regs, .fab] s t ∧ OnlyRegs [Reg.FAB_BUF_USED] s t := by
  unfold State.ptpSend
  simp only
  generalize (if msg = 1 then 0x7F else if msg = 11 then 0 else (256 - s.logRate b) % 256) = log
  generalize (if msg = 0 then 0x200 else if msg = 11 then 8 + (if s.flag Reg.NTU_UTC_OFFSET 16 then 4 else 0) else 0) = flags
  generalize hdata : ptpBytes (s.fld (Reg.NTU_TBn_CFG b) 8 8) msg flags p seq log body = data
  have hdlen : data.length = 34 + body.length := by rw [← hdata, ptpBytes_len]
  have hdrop : data.drop 34 = body := by rw [← hdata, ptpBytes_body]
  have hflen := internalFrame_tagged 0x011B19000000 (s.epMac 2) 0x88F7 (7, s.fld (Reg.NTU_TBn_CFG b) 20 12) data
  have hfdata : ∃ pad, (internalFrame 0x011B19000000 (s.epMac 2) (some (7, s.fld (Reg.NTU_TBn_CFG b) 20 12)) 0x88F7 data).data.drop 34
      = body ++ pad := ⟨_, by rw [← hdrop]; exact List.drop_append_of_le_length (by omega)⟩
  have hfdst : (internalFrame 0x011B19000000 (s.epMac 2) (some (7, s.fld (Reg.NTU_TBn_CFG b) 20 12)) 0x88F7 data).dst = 0x011B19000000 := rfl
  have hfty : (internalFrame 0x011B19000000 (s.epMac 2) (some (7, s.fld (Reg.NTU_TBn_CFG b) 20 12)) 0x88F7 data).etype = 0x88F7 := rfl
  generalize internalFrame 0x011B19000000 (s.epMac 2) (some (7, s.fld (Reg.NTU_TBn_CFG b) 20 12)) 0x88F7 data = f at *
  have hfit : f.len ≤ reservation 52 := by
    have hmax : Nat.max 42 (34 + body.length) ≤ 1034 := Nat.max_le.2 ⟨by omega, by omega⟩
    rw [hflen, hdlen, show reservation 52 = 4096 from rfl]
    omega
  have hroom : s.room 52 7 f.len = some true := State.room_reserved hq hfit
  obtain ⟨t, ht, t1, t2, t3, t4⟩ := State.forward_urgent (ingress := 52) (vid := 0) (pcp := 7) (keep := true) (r := true) (op := none)
    (ptp := if stamped = true then some (b, msg, seq) else none) (f := f) hq hpass hlpi
  have hkeep : s.retag p 0 7 true f = f := if_pos (.inl rfl)
  refine ⟨t, f, ?_, by rw [t1, hkeep], hfdst, hfty, hfdata, t2, t3, t4⟩
  unfold State.sendInternal
  simp only [hroom, ht, Option.isNone_some, Bool.false_eq_true, and_false, if_false]

end

end Sys2Proof.Machine

/-! PROOFS. Sync, Delay_Req and Announce are sent, and a stamped message leaves (R458 to R461). -/

namespace Sys2Proof.Machine

-- One declaration after the other: the stacks of parallel elaboration would count against the memory limit of the check.
set_option Elab.async false

section
variable {s : State} {b p : Nat}

/-! ### Port counters -/

theorem State.cnt_onlyRegs (s : State) (p k n : Nat) :
    OnlyRegs (Reg.FAB_PnCNTk p k :: Reg.FAB_HALF_LO :: Reg.FAB_HALF_HI :: irqRegs Blk.FAB) s (s.cnt p k n) := by
  have h1 : OnlyRegs (Reg.FAB_PnCNTk p k :: Reg.FAB_HALF_LO :: Reg.FAB_HALF_HI :: irqRegs Blk.FAB) s (s.wrapInc (Reg.FAB_PnCNTk p k) n) :=
    (OnlyRegs.refl _ s).wrapInc
  unfold State.cnt
  simp only
  generalize s.wrapInc (Reg.FAB_PnCNTk p k) n = a at *
  split
  · have h2 : OnlyRegs (Reg.FAB_PnCNTk p k :: Reg.FAB_HALF_LO :: Reg.FAB_HALF_HI :: irqRegs Blk.FAB) s
        (a.setFlag (if p < 32 then Reg.FAB_HALF_LO else Reg.FAB_HALF_HI) (p % 32) true) := by
      split
      · exact h1.setFlag
      · exact h1.setFlag
    exact h2.trans ((State.raiseIrq_onlyRegs _ _ _).mono fun off ho => List.mem_cons_of_mem _ (List.mem_cons_of_mem _ (List.mem_cons_of_mem _ ho)))
  · exact h1

/-- A port counter touches no register of NTU. -/
theorem State.cnt_reg_ntu (s : State) (p k n : Nat) {off : Nat} (hlo : 0x140000 ≤ off) (hhi : off < 0x180000) :
    (s.cnt p k n).reg off = s.reg off := by
  refine s.cnt_onlyRegs p k n off ?_
  have hcnt : off ≠ Reg.FAB_PnCNTk p k := by simp only [Reg.FAB_PnCNTk]; omega
  have hhalf : off ≠ Reg.FAB_HALF_LO ∧ off ≠ Reg.FAB_HALF_HI := by simp only [Reg.FAB_HALF_LO, Reg.FAB_HALF_HI]; omega
  have hirq : off ∉ irqRegs Blk.FAB := by
    simp only [irqRegs, List.mem_cons, List.not_mem_nil, or_false, Reg.IRQ_STAT, Reg.MSIX_PBA, Blk.FAB]
    omega
  simp only [List.mem_cons, not_or]
  exact ⟨hcnt, hhalf.1, hhalf.2, hirq⟩

theorem State.emit_out (s : State) (o : Output) : (s.emit o).out = s.out ++ [o] := rfl

/-- An interrupt's signal is one more output. -/
theorem State.mem_raiseIrq_out {o : Output} (h : o ∈ s.out) (b bit : Nat) : o ∈ (s.raiseIrq b bit).out := by
  have hset : o ∈ (s.setFlag (Reg.IRQ_STAT b) bit true).out := by rw [State.setFlag_out]; exact h
  unfold State.raiseIrq State.irqEdge
  generalize s.setFlag (Reg.IRQ_STAT b) bit true = a at *
  split
  · unfold State.signalVector
    split
    · rw [State.emit_out]
      exact List.mem_append_left _ hset
    · rw [State.setFlag_out]
      exact hset
  · exact hset

theorem State.mem_cnt_out {o : Output} (h : o ∈ s.out) (p k n : Nat) : o ∈ (s.cnt p k n).out := by
  have h1 : o ∈ (s.wrapInc (Reg.FAB_PnCNTk p k) n).out := by rw [State.wrapInc_out]; exact h
  unfold State.cnt
  simp only
  generalize s.wrapInc (Reg.FAB_PnCNTk p k) n = a at *
  split
  · exact State.mem_raiseIrq_out (by rw [State.setFlag_out]; exact h1) _ _
  · exact h1

/-! ### Timestamp entries -/

theorem tsqOf_fits (p : Nat) : (tsqOf p).1 + (tsqOf p).2.1 ≤ 32 := by
  unfold tsqOf
  split
  · simp
  · split
    all_goals simp

/-- The state with one more entry of the port's queue in use (R460). -/
def State.tookTs (s : State) (p : Nat) : State :=
  let s1 := s.setFld Reg.NTU_TSQ_USED (tsqOf p).1 (tsqOf p).2.1 (s.fld Reg.NTU_TSQ_USED (tsqOf p).1 (tsqOf p).2.1 + 1)
  if s1.fld Reg.NTU_TSQ_HWM (tsqOf p).1 (tsqOf p).2.1 < s.fld Reg.NTU_TSQ_USED (tsqOf p).1 (tsqOf p).2.1 + 1 then
    s1.setFld Reg.NTU_TSQ_HWM (tsqOf p).1 (tsqOf p).2.1 (s.fld Reg.NTU_TSQ_USED (tsqOf p).1 (tsqOf p).2.1 + 1) else s1

theorem State.takeTs_eq (s : State) (p : Nat) : s.takeTs p
    = if s.fld Reg.NTU_TSQ_USED (tsqOf p).1 (tsqOf p).2.1 < (tsqOf p).2.2 then some (s.tookTs p) else none := rfl

theorem State.tookTs_spec (s : State) (p : Nat) : OnlyChanges [.regs] s (s.tookTs p)
    ∧ OnlyRegs [Reg.NTU_TSQ_USED, Reg.NTU_TSQ_HWM] s (s.tookTs p) := by
  unfold State.tookTs
  generalize s.fld Reg.NTU_TSQ_USED (tsqOf p).1 (tsqOf p).2.1 + 1 = n
  have h1 := s.setFld_onlyChanges Reg.NTU_TSQ_USED (tsqOf p).1 (tsqOf p).2.1 n
  have h2 : OnlyRegs [Reg.NTU_TSQ_USED, Reg.NTU_TSQ_HWM] s (s.setFld Reg.NTU_TSQ_USED (tsqOf p).1 (tsqOf p).2.1 n) := (OnlyRegs.refl _ s).setFld
  generalize s.setFld Reg.NTU_TSQ_USED (tsqOf p).1 (tsqOf p).2.1 n = a at *
  simp only
  split
  · exact ⟨h1.trans (a.setFld_onlyChanges _ _ _ _), h2.setFld⟩
  · exact ⟨h1, h2⟩

theorem State.takeTs_some {u : State} (h : s.takeTs p = some u) : u = s.tookTs p := by
  rw [State.takeTs_eq] at h
  split at h
  · exact (Option.some.inj h).symm
  · exact nomatch h

/-- Whether the port's queue has a free entry is read from one register (R460). -/
theorem State.takeTs_isSome_congr {u : State} (h : u.reg Reg.NTU_TSQ_USED = s.reg Reg.NTU_TSQ_USED) (p : Nat) :
    (u.takeTs p).isSome = (s.takeTs p).isSome := by
  rw [State.takeTs_eq, State.takeTs_eq, State.fld_congr h]
  split
  all_goals rfl

/-- Entries taken from different fabrics are different. -/
theorem State.takeTs_ne {u : State} (hsome : (s.takeTs p).isSome = true) (hfab : u.fab ≠ s.fab) : u.takeTs p ≠ s.takeTs p := by
  obtain ⟨x, hx⟩ := Option.isSome_iff_exists.1 hsome
  intro heq
  rw [hx] at heq
  obtain ⟨h1, -⟩ := s.tookTs_spec p
  obtain ⟨h2, -⟩ := u.tookTs_spec p
  rw [← State.takeTs_some hx] at h1
  rw [← State.takeTs_some heq] at h2
  exact hfab ((h2.2.2 .fab (by simp)).symm.trans (h1.2.2 .fab (by simp)))

/-! ### The next message -/

/-- A message's time is noted and the base's sequence counts on (R458). -/
theorem State.ptpNext_spec (s : State) (b p msg : Nat) : ∃ u, (s.ptpNote b p msg).nextSeq b = (((s.servo b).txSeq + 1) % 65536, u)
    ∧ u.servo b = { s.servo b with txSeq := ((s.servo b).txSeq + 1) % 65536 } ∧ tfind? u.ntu.sent (ptpKey b p msg) = some s.clk
    ∧ u.ntu.master = s.ntu.master ∧ u.regs = s.regs ∧ OnlyChanges [.ntu] s u := by
  refine ⟨_, rfl, (State.putServo_servo _ _ _ _).trans (if_pos rfl), ?_, rfl, rfl, ?_⟩
  · exact (tfind?_tput s.ntu.sent (ptpKey b p msg) (ptpKey b p msg) s.clk).trans (if_pos rfl)
  · simp [State.ptpNote, State.putServo, onlyChanges_iff]

theorem ptpMaster_bounds (h : s.ptpMaster b p = true) : b < 3 ∧ p < 50 := by
  unfold State.ptpMaster at h
  split at h
  · simp only [Bool.and_eq_true, decide_eq_true_eq] at h
    omega
  · simp only [Bool.and_eq_true, decide_eq_true_eq] at h
    omega
  · simp only [Bool.and_eq_true, decide_eq_true_eq] at h
    omega
  · simp at h

theorem ptpSlave_bounds (h : s.ptpSlave b p = true) : b < 3 ∧ p < 50 := by
  unfold State.ptpSlave at h
  simp only [Bool.and_eq_true, decide_eq_true_eq] at h
  obtain ⟨⟨-, hp⟩, hrole⟩ := h
  refine ⟨?_, hp⟩
  split at hrole
  · omega
  · omega
  · exact absurd hrole (by decide)

/-- What a port passes is read from FAB's registers. -/
theorem State.portPasses_congr {u : State} (h : ∀ off, 0x1C0000 ≤ off → u.reg off = s.reg off) (p : Nat) (low : Bool) :
    u.portPasses p low = s.portPasses p low := by
  have hstat : ∀ i, u.flag (Reg.FAB_PnSTAT p) i = s.flag (Reg.FAB_PnSTAT p) i :=
    fun i => State.flag_congr _ _ _ _ (h _ (by simp only [Reg.FAB_PnSTAT]; omega))
  have hcfg : ∀ i, u.flag (Reg.FAB_PnCFG p) i = s.flag (Reg.FAB_PnCFG p) i :=
    fun i => State.flag_congr _ _ _ _ (h _ (by simp only [Reg.FAB_PnCFG]; omega))
  simp only [State.portPasses, hstat, hcfg]

/-- A message of a state that differs from `s` in NTU's part and registers alone is queued at its port. -/
theorem ptpSend_from {v : State} {msg seq : Nat} {stamped : Bool} {body : List Byte} (hch : OnlyChanges [.regs, .ntu] s v)
    (hregs : ∀ off, 0x1C0000 ≤ off → v.reg off = s.reg off) (hpass : s.portPasses p false = true) (hq : s.fab.queues = [])
    (hlpi : s.flag (Reg.FAB_PnSTAT p) 6 = false) (hlen : body.length ≤ 1000) :
    ∃ t fr, v.ptpSend b p msg seq stamped body = t
      ∧ t.fabQueue p 7 = [⟨s.fab.nextId, fr, 52, true, none, if stamped then some (b, msg, seq) else none⟩]
      ∧ fr.dst = 0x011B19000000 ∧ fr.etype = 0x88F7 ∧ (∃ pad, fr.data.drop 34 = body ++ pad)
      ∧ t.fab ≠ s.fab ∧ t.ntu = v.ntu ∧ OnlyChanges [.regs, .fab, .ntu] s t ∧ OnlyRegs [Reg.FAB_BUF_USED] v t := by
  have hfab : v.fab = s.fab := hch.2.2 .fab (by simp)
  obtain ⟨t, fr, ht, t1, t2, t3, t4, t5, t6, t7⟩ := State.ptpSend_first (s := v) (b := b) (p := p) (msg := msg) (seq := seq)
    (stamped := stamped) (body := body) (by rw [hfab, hq]) (by rw [State.portPasses_congr hregs, hpass])
    (by rw [State.flag_congr _ _ _ _ (hregs _ (by simp only [Reg.FAB_PnSTAT]; omega)), hlpi]) hlen
  rw [hfab] at t1 t5
  refine ⟨t, fr, ht, t1, t2, t3, t4, fun h => ?_, t6.2.2 .ntu (by simp), (hch.mono (by simp)).trans (t6.mono (by simp)), t7⟩
  rw [h] at t5
  omega

/-! ### Sync -/

theorem ntuStat_ne_tsq {b : Nat} : Reg.NTU_TBn_STAT b ∉ [Reg.NTU_TSQ_USED, Reg.NTU_TSQ_HWM] := by
  simp only [List.mem_cons, List.not_mem_nil, or_false, Reg.NTU_TBn_STAT, Reg.NTU_TSQ_USED, Reg.NTU_TSQ_HWM]
  omega

/-- The state of a base that is about to send as a master. -/
theorem masterSends (s : State) (b : Nat) (hb : b < 3) {u : State} (hch : OnlyChanges [.ntu] s u) (hregs : u.regs = s.regs) :
    OnlyChanges [.regs, .ntu] s (u.setFlag (Reg.NTU_TBn_STAT b) 3 true)
    ∧ (u.setFlag (Reg.NTU_TBn_STAT b) 3 true).flag (Reg.NTU_TBn_STAT b) 3 = true ∧ (u.setFlag (Reg.NTU_TBn_STAT b) 3 true).ntu = u.ntu
    ∧ (∀ off, 0x1C0000 ≤ off ∨ off < 0x141000 → (u.setFlag (Reg.NTU_TBn_STAT b) 3 true).reg off = s.reg off) := by
  refine ⟨(hch.mono (by simp)).trans ((u.setFlag_onlyChanges _ _ _).mono (by simp)), u.setFlag_flag_same _ _ _ (by decide), rfl, fun off hoff => ?_⟩
  rw [u.setFlag_reg_other _ _ _ _ (by simp only [Reg.NTU_TBn_STAT]; omega), State.reg_congr _ _ hregs]

theorem ptpSyncTx_stamped {q : Nat} (hup : s.Up) (hmaster : s.ptpMaster b p = true) (hpass : s.portPasses p false = true)
    (hqn : q = ((s.servo b).txSeq + 1) % 65536) (hq : s.fab.queues = []) (hlpi : s.flag (Reg.FAB_PnSTAT p) 6 = false)
    (hdue : s.ptpDue b p 0 (secClk / 2 ^ s.logRate b) = true) (hts : (s.takeTs p).isSome = true) :
    ∃ t fr, exec (.ptpSyncTx b p) s = .next t
        ∧ t.flag (Reg.NTU_TBn_STAT b) 3 = true ∧ t.fabQueue p 7 = [⟨s.fab.nextId, fr, 52, true, none, some (b, 0, q)⟩]
        ∧ fr.etype = 0x88F7 ∧ (t.servo b).txSeq = q ∧ tfind? t.ntu.sent (ptpKey b p 0) = some s.clk
        ∧ t.ptpDue b p 0 (secClk / 2 ^ s.logRate b) = false ∧ t.takeTs p ≠ s.takeTs p
        ∧ OnlyChanges [.regs, .fab, .ntu] s t := by
  obtain ⟨hb, -⟩ := ptpMaster_bounds hmaster
  obtain ⟨u, hu, hserv, hsent, -, huregs, huch⟩ := s.ptpNext_spec b p 0
  rw [← hqn] at hu hserv
  obtain ⟨v1, v2, v3, v4⟩ := masterSends s b hb huch huregs
  have hvts : ((u.setFlag (Reg.NTU_TBn_STAT b) 3 true).takeTs p).isSome = true := by
    rw [State.takeTs_isSome_congr (v4 _ (.inr (by decide))), hts]
  have hrun : ∀ w t, (u.setFlag (Reg.NTU_TBn_STAT b) 3 true).takeTs p = some w → w.ptpSend b p 0 q true (ptpTime 0) = t →
      OnlyChanges [.regs, .fab, .ntu] s t → exec (.ptpSyncTx b p) s = .next t := fun w t hw ht hch => by
    rw [exec_ptpSyncTx, execPtpSyncTx]
    refine State.powered_next hup ?_ hch (by simp)
    rw [if_neg (by simp [hmaster, hpass, hdue]), if_neg (by simp [Option.isNone_iff_eq_none, Option.isSome_iff_ne_none.1 hts])]
    simp only [hu, hw]
    exact ht
  generalize u.setFlag (Reg.NTU_TBn_STAT b) 3 true = v at *
  obtain ⟨w, hw⟩ := Option.isSome_iff_exists.1 hvts
  obtain ⟨w1, w2⟩ := v.tookTs_spec p
  rw [← State.takeTs_some hw] at w1 w2
  have hwreg : ∀ off, 0x1C0000 ≤ off → w.reg off = s.reg off := fun off hoff =>
    (w2 off (by simp only [List.mem_cons, List.not_mem_nil, or_false, Reg.NTU_TSQ_USED, Reg.NTU_TSQ_HWM]; omega)).trans (v4 off (.inl hoff))
  obtain ⟨t, fr, ht, t1, -, t3, -, t5, t6, t7, t8⟩ := ptpSend_from (s := s) (v := w) (b := b) (p := p) (msg := 0) (seq := q) (stamped := true)
    (body := ptpTime 0) (v1.trans (w1.mono (by simp))) hwreg hpass hq hlpi (by simp only [ptpTime, List.length_append, beBytes_len]; decide)
  have hntu : t.ntu = u.ntu := t6.trans ((w1.2.2 .ntu (by simp)).trans v3)
  have hclk : t.clk = s.clk := t7.2.1
  refine ⟨t, fr, hrun w t hw ht t7, ?_, t1, t3, ?_, by rw [hntu, hsent], ?_, State.takeTs_ne hts t5, t7⟩
  · rw [State.flag_congr _ _ _ _ (t8 _ (by simp only [List.mem_singleton, Reg.NTU_TBn_STAT, Reg.FAB_BUF_USED]; omega)),
      State.flag_congr _ _ _ _ (w2 _ ntuStat_ne_tsq), v2]
  · rw [State.servo_congr hntu, hserv]
  · have hlog : s.logRate b ≤ 7 := by
      unfold State.logRate
      simp only
      split
      · omega
      · exact Nat.min_le_left _ _
    have hpos : 0 < secClk / 2 ^ s.logRate b :=
      Nat.div_pos ((Nat.pow_le_pow_right (by decide) hlog).trans (by decide)) (Nat.pow_pos (by decide))
    simp only [State.ptpDue, hntu, hsent, hclk]
    exact decide_eq_false (by omega)

end

end Sys2Proof.Machine

/-! PROOFS. PTP messages without a stamp, and a stamped one that leaves, settled with the choice of a master. -/

namespace Sys2Proof.Machine

-- One declaration after the other: the stacks of parallel elaboration would count against the memory limit of the check.
set_option Elab.async false

section
variable {s : State} {b p : Nat}

/-! ### Sending -/

/-- A stamp that could not be taken is counted (R460, R461). -/
theorem State.loseTs_spec (s : State) (p : Nat) : (s.loseTs p).flag (Reg.IRQ_STAT Blk.NTU) 4 = true
    ∧ (s.loseTs p).num Reg.NTU_TSQ_LOST_CNT = Nat.min (s.num Reg.NTU_TSQ_LOST_CNT + 1) (2 ^ 32 - 1)
    ∧ OnlyChanges [.regs, .out] s (s.loseTs p) := by
  have h1 := s.satInc_num Reg.NTU_TSQ_LOST_CNT 1
  have h2 := s.satInc_onlyChanges Reg.NTU_TSQ_LOST_CNT 0 32 1
  unfold State.loseTs
  generalize s.satInc Reg.NTU_TSQ_LOST_CNT 0 32 1 = a at *
  have h3 := State.num_congr (a.cnt_reg_ntu p 38 1 (off := Reg.NTU_TSQ_LOST_CNT) (by decide) (by decide))
  have h4 := State.cnt_onlyChanges (s := a) p 38 1
  generalize a.cnt p 38 1 = c at *
  refine ⟨c.raiseIrq_flag_same _ _ (by decide), ?_, (h2.mono (by simp)).trans (h4.trans (c.raiseIrq_onlyChanges _ _))⟩
  rw [State.num_congr (c.raiseIrq_onlyRegs Blk.NTU 4 _ (by decide)), h3, h1]

theorem ptpSyncTx_unstamped (hup : s.Up) (hmaster : s.ptpMaster b p = true) (hpass : s.portPasses p false = true)
    (hq : s.fab.queues = []) (hlpi : s.flag (Reg.FAB_PnSTAT p) 6 = false)
    (hdue : s.ptpDue b p 0 (secClk / 2 ^ s.logRate b) = true) (hts : s.takeTs p = none) (halone : s.Alone) :
    ∃ t fr, exec (.ptpSyncTx b p) s = .next t
        ∧ t.fabQueue p 7 = [⟨s.fab.nextId, fr, 52, true, none, none⟩] ∧ t.flag (Reg.IRQ_STAT Blk.NTU) 4 = true
        ∧ t.num Reg.NTU_TSQ_LOST_CNT = Nat.min (s.num Reg.NTU_TSQ_LOST_CNT + 1) (2 ^ 32 - 1)
        ∧ OnlyChanges [.regs, .out, .fab, .ntu] s t := by
  obtain ⟨hb, -⟩ := ptpMaster_bounds hmaster
  obtain ⟨u, hu, -, -, -, huregs, huch⟩ := s.ptpNext_spec b p 0
  generalize hqn : ((s.servo b).txSeq + 1) % 65536 = q at hu
  obtain ⟨v1, -, v3, v4⟩ := masterSends s b hb huch huregs
  have hvts : (u.setFlag (Reg.NTU_TBn_STAT b) 3 true).takeTs p = none := by
    rw [← Option.isSome_eq_false_iff.trans Option.isNone_iff_eq_none, State.takeTs_isSome_congr (v4 _ (.inr (by decide))), hts]
    rfl
  have hrun : ∀ w t, (u.setFlag (Reg.NTU_TBn_STAT b) 3 true).ptpSend b p 0 q false (ptpTime 0) = w → w.loseTs p = t →
      OnlyChanges [.regs, .out, .fab, .ntu] s t → exec (.ptpSyncTx b p) s = .next t := fun w t hw ht hch => by
    rw [exec_ptpSyncTx, execPtpSyncTx]
    refine State.powered_next hup ?_ hch (by simp)
    rw [if_neg (by simp [hmaster, hpass, hdue]), if_neg (by rw [State.together_of_alone halone]; simp)]
    simp only [hu, hvts, hw]
    exact ht
  generalize u.setFlag (Reg.NTU_TBn_STAT b) 3 true = v at *
  obtain ⟨w, fr, hw, w1, -, -, -, -, -, w7, w8⟩ := ptpSend_from (s := s) (v := v) (b := b) (p := p) (msg := 0) (seq := q) (stamped := false)
    (body := ptpTime 0) v1 (fun off h => v4 off (.inl h)) hpass hq hlpi (by simp only [ptpTime, List.length_append, beBytes_len]; decide)
  obtain ⟨t1, t2, t3⟩ := w.loseTs_spec p
  have hall : OnlyChanges [.regs, .out, .fab, .ntu] s (w.loseTs p) := (w7.mono (by simp)).trans (t3.mono (by simp))
  have hfab : (w.loseTs p).fab = w.fab := t3.2.2 .fab (by simp)
  refine ⟨_, fr, hrun w _ hw rfl hall, ?_, t1, ?_, hall⟩
  · rw [State.fabQueue, hfab]
    exact w1
  · rw [t2, State.num_congr (w8 _ (by decide)), State.num_congr (v4 _ (.inr (by decide)))]

/-- The bytes of a number in eight, the first five of them (R458). -/
theorem beBytes_take (x : Nat) : (beBytes 8 x).take 5 = beBytes 5 (x / 2 ^ 24) := by
  simp [beBytes, leBytes, Nat.div_div_eq_div_mul]

theorem ptpAnnounceTx_own (hup : s.Up) (hmaster : s.ptpMaster 1 p = true) (hpass : s.portPasses p false = true)
    (hq : s.fab.queues = []) (hlpi : s.flag (Reg.FAB_PnSTAT p) 6 = false) (hdue : s.ptpDue 1 p 11 secClk = true) :
    ∃ t fr, exec (.ptpAnnounceTx 1 p) s = .next t
        ∧ t.fabQueue p 7 = [⟨s.fab.nextId, fr, 52, true, none, none⟩] ∧ fr.dst = 0x011B19000000
        ∧ (fr.data.drop 34).take 24 = ptpTime 0 ++ beBytes 2 (s.fld Reg.NTU_UTC_OFFSET 0 16) ++ [0, 128, 248, 0xFE, 0xFF, 0xFF, 128]
          ++ beBytes 5 (Config.uid.toNat / 2 ^ 24) ∧ OnlyChanges [.regs, .fab, .ntu] s t := by
  obtain ⟨u, hu, -, -, -, huregs, huch⟩ := s.ptpNext_spec 1 p 11
  generalize hqn : ((s.servo 1).txSeq + 1) % 65536 = q at hu
  obtain ⟨v1, -, -, v4⟩ := masterSends s 1 (by decide) huch huregs
  have hutc : u.fld Reg.NTU_UTC_OFFSET 0 16 = s.fld Reg.NTU_UTC_OFFSET 0 16 := State.fld_congr (State.reg_congr _ _ huregs _) 0 16
  generalize hbody : ptpTime 0 ++ beBytes 2 (s.fld Reg.NTU_UTC_OFFSET 0 16) ++ beBytes 1 0 ++ linkBody [1, 1, 1, 2, 1, 8, 2] [] ownDataset.1
    ++ beBytes 1 ownDataset.2 = body
  have hset : linkBody [1, 1, 1, 2, 1, 8, 2] [] ownDataset.1 = [128, 248, 0xFE, 0xFF, 0xFF, 128] ++ beBytes 8 Config.uid.toNat ++ [0, 0] := by
    simp [linkBody, ownDataset, linkField, beBytes, leBytes]
  have hlen : body.length = 30 := by
    rw [← hbody, hset]
    simp only [ptpTime, List.length_append, beBytes_len, List.length_cons, List.length_nil]
  have htake : body.take 24 = ptpTime 0 ++ beBytes 2 (s.fld Reg.NTU_UTC_OFFSET 0 16) ++ [0, 128, 248, 0xFE, 0xFF, 0xFF, 128]
      ++ beBytes 5 (Config.uid.toNat / 2 ^ 24) := by
    have hone : beBytes 1 0 = [0] := rfl
    have hall : ∀ n k x, n ≤ k → (beBytes n x).take k = beBytes n x := fun n k x h =>
      List.take_of_length_le (by rw [beBytes_len]; exact h)
    rw [← hbody, hset, ← beBytes_take, hone]
    simp [List.take_append, ptpTime, beBytes_len, hall]
  have hrun : ∀ t, (u.setFlag (Reg.NTU_TBn_STAT 1) 3 true).ptpSend 1 p 11 q false body = t →
      OnlyChanges [.regs, .fab, .ntu] s t → exec (.ptpAnnounceTx 1 p) s = .next t := fun t ht hch => by
    rw [exec_ptpAnnounceTx, execPtpAnnounceTx]
    refine State.powered_next hup ?_ hch (by simp)
    rw [if_neg (by simp [hmaster, hpass, hdue])]
    simp only [hu, hutc]
    rw [← ht, ← hbody]
  generalize u.setFlag (Reg.NTU_TBn_STAT 1) 3 true = v at *
  obtain ⟨t, fr, ht, t1, t2, -, ⟨pad, t4⟩, -, -, t7, -⟩ := ptpSend_from (s := s) (v := v) (b := 1) (p := p) (msg := 11) (seq := q) (stamped := false)
    (body := body) v1 (fun off h => v4 off (.inl h)) hpass hq hlpi (by omega)
  refine ⟨t, fr, hrun t ht t7, t1, t2, ?_, t7⟩
  rw [t4, List.take_append_of_le_length (by omega), htake]

theorem ptpDelayReqTx_stamped {q : Nat} (hup : s.Up) (hp : p = 48 + s.fld (Reg.NTU_TBn_STAT b) 4 1) (hslave : s.ptpSlave b p = true)
    (hpass : s.portPasses p false = true) (hdue : s.ptpDue b p 1 (secClk / 2 ^ s.logRate b) = true) (hq : s.fab.queues = [])
    (hlpi : s.flag (Reg.FAB_PnSTAT p) 6 = false) (hqn : q = ((s.servo b).txSeq + 1) % 65536) (hts : (s.takeTs p).isSome = true) :
    ∃ t fr, exec (.ptpDelayReqTx b) s = .next t
        ∧ (t.servo b).delay = none ∧ (t.servo b).txSeq = q ∧ t.fabQueue p 7 = [⟨s.fab.nextId, fr, 52, true, none, some (b, 1, q)⟩]
        ∧ OnlyChanges [.regs, .fab, .ntu] s t := by
  obtain ⟨u, hu, hserv, -, -, huregs, huch⟩ := s.ptpNext_spec b p 1
  rw [← hqn] at hu hserv
  have hvregs : (u.putServo b { u.servo b with delay := none }).regs = s.regs := huregs
  have hvch := huch.trans (u.putServo_onlyChanges b { u.servo b with delay := none })
  have hvserv := (u.putServo_servo b b { u.servo b with delay := none }).trans (if_pos rfl)
  have hrun : ∀ w t, (u.putServo b { u.servo b with delay := none }).takeTs p = some w → w.ptpSend b p 1 q true (ptpTime 0) = t →
      OnlyChanges [.regs, .fab, .ntu] s t → exec (.ptpDelayReqTx b) s = .next t := fun w t hw ht hch => by
    rw [exec_ptpDelayReqTx, execPtpDelayReqTx]
    refine State.powered_next hup ?_ hch (by simp)
    simp only [← hp]
    rw [if_neg (by simp [hslave, hpass, hdue]), if_neg (by simp [Option.isNone_iff_eq_none, Option.isSome_iff_ne_none.1 hts])]
    simp only [hu, hw]
    exact ht
  generalize u.putServo b { u.servo b with delay := none } = v at *
  have hvts : (v.takeTs p).isSome = true := by rw [State.takeTs_isSome_congr (State.reg_congr _ _ hvregs _), hts]
  obtain ⟨w, hw⟩ := Option.isSome_iff_exists.1 hvts
  obtain ⟨w1, w2⟩ := v.tookTs_spec p
  rw [← State.takeTs_some hw] at w1 w2
  have hwreg : ∀ off, 0x1C0000 ≤ off → w.reg off = s.reg off := fun off hoff =>
    (w2 off (by simp only [List.mem_cons, List.not_mem_nil, or_false, Reg.NTU_TSQ_USED, Reg.NTU_TSQ_HWM]; omega)).trans
      (State.reg_congr _ _ hvregs off)
  obtain ⟨t, fr, ht, t1, -, -, -, -, t6, t7, -⟩ := ptpSend_from (s := s) (v := w) (b := b) (p := p) (msg := 1) (seq := q) (stamped := true)
    (body := ptpTime 0) ((hvch.mono (by simp)).trans (w1.mono (by simp))) hwreg hpass hq hlpi
    (by simp only [ptpTime, List.length_append, beBytes_len]; decide)
  have hservt : t.servo b = { u.servo b with delay := none } :=
    (State.servo_congr (t6.trans (w1.2.2 .ntu (by simp))) b).trans hvserv
  refine ⟨t, fr, hrun w t hw ht t7, by rw [hservt], by rw [hservt, hserv], t1, t7⟩

/-! ### A stamped message leaves -/

theorem State.countTx_reg_ntu (s : State) (p cls : Nat) (f : EthFrame) {off : Nat} (hlo : 0x140000 ≤ off) (hhi : off < 0x180000) :
    (s.countTx p cls f).reg off = s.reg off := by
  have hcnt : ∀ (a : State) k n, (a.cnt p k n).reg off = a.reg off := fun a k n => a.cnt_reg_ntu p k n hlo hhi
  unfold State.countTx
  simp only
  split
  · rw [hcnt]
    split
    · simp only [hcnt]
    · split
      all_goals simp only [hcnt]
  · split
    · simp only [hcnt]
    · split
      all_goals simp only [hcnt]

theorem frameTransmit_stamped {fr : EthFrame} {r : Bool} {q : Nat} (hup : s.Up) (hp : p < 50) (hnext : s.nextClass p = some 7)
    (hqueue : s.fabQueue p 7 = [⟨s.fab.nextId, fr, 52, r, none, some (b, 1, q)⟩]) (hwake : tget (fun _ => 0) s.fab.wakeClk p ≤ s.clk) :
    ∃ t, exec (.frameTransmit p) s = .next t
        ∧ (t.servo b).delay = some (q, s.txTime p b) ∧ .ethFrame p fr ∈ t.out
        ∧ t.fld Reg.NTU_TSQ_USED (tsqOf p).1 (tsqOf p).2.1 = s.fld Reg.NTU_TSQ_USED (tsqOf p).1 (tsqOf p).2.1 - 1
        ∧ OnlyChanges [.regs, .out, .fab, .ntu] s t := by
  have hlat : 0x140000 ≤ Reg.NTU_PnLAT p ∧ Reg.NTU_PnLAT p < 0x180000 := by simp only [Reg.NTU_PnLAT]; omega
  have hrun : ∀ a c u t, ((s.setQueue p 7 []).countTx p 7 fr).emit (.ethFrame p fr) = a → (a.cnt p 23 1).freeTs p = c →
      c.putServo b { c.servo b with delay := some (q, c.txTime p b) } = u →
      ({ u with fab := { u.fab with idleClk := tput u.fab.idleClk p u.clk } } : State).noteBuf = t → OnlyChanges [.regs, .out, .fab, .ntu] s t →
      exec (.frameTransmit p) s = .next t := fun a c u t ha hc hu ht hch => by
    rw [exec_frameTransmit, execFrameTransmit]
    refine State.powered_next hup ?_ hch (by simp)
    simp only [hnext, hqueue]
    rw [if_neg (by omega)]
    simp only [ha, State.ptpLeft, hc, Nat.one_ne_zero, if_false, hu]
    exact ht
  obtain ⟨a, ha, hareg, haout, hach⟩ : ∃ a, ((s.setQueue p 7 []).countTx p 7 fr).emit (.ethFrame p fr) = a
      ∧ (∀ off, 0x140000 ≤ off → off < 0x180000 → a.reg off = s.reg off) ∧ .ethFrame p fr ∈ a.out ∧ OnlyChanges [.regs, .out, .fab] s a := by
    have h1 := s.setQueue_onlyChanges p 7 []
    generalize s.setQueue p 7 [] = v at *
    have h2 := State.countTx_onlyChanges (s := v) p 7 fr
    have h3 : ∀ off, 0x140000 ≤ off → off < 0x180000 → (v.countTx p 7 fr).reg off = s.reg off := fun off hlo hhi =>
      (v.countTx_reg_ntu p 7 fr hlo hhi).trans (State.reg_congr _ _ (h1.2.2 .regs (by simp)) off)
    generalize v.countTx p 7 fr = w at *
    exact ⟨_, rfl, h3, by rw [State.emit_out]; exact List.mem_append_right _ List.mem_cons_self,
      (h1.mono (by simp)).trans ((h2.mono (by simp)).trans ((w.emit_onlyChanges _).mono (by simp)))⟩
  obtain ⟨c, hc, hcused, hclat, hcout, hcch⟩ : ∃ c, (a.cnt p 23 1).freeTs p = c
      ∧ c.fld Reg.NTU_TSQ_USED (tsqOf p).1 (tsqOf p).2.1 = s.fld Reg.NTU_TSQ_USED (tsqOf p).1 (tsqOf p).2.1 - 1
      ∧ c.reg (Reg.NTU_PnLAT p) = s.reg (Reg.NTU_PnLAT p) ∧ .ethFrame p fr ∈ c.out ∧ OnlyChanges [.regs, .out, .fab] s c := by
    have h1 := State.cnt_onlyChanges (s := a) p 23 1
    have h2 : ∀ off, 0x140000 ≤ off → off < 0x180000 → (a.cnt p 23 1).reg off = s.reg off := fun off hlo hhi =>
      (a.cnt_reg_ntu p 23 1 hlo hhi).trans (hareg off hlo hhi)
    have h3 := State.mem_cnt_out haout p 23 1
    generalize a.cnt p 23 1 = v at *
    have hused : v.fld Reg.NTU_TSQ_USED (tsqOf p).1 (tsqOf p).2.1 = s.fld Reg.NTU_TSQ_USED (tsqOf p).1 (tsqOf p).2.1 :=
      State.fld_congr (h2 _ (by decide) (by decide)) _ _
    have hlt : s.fld Reg.NTU_TSQ_USED (tsqOf p).1 (tsqOf p).2.1 < 2 ^ (tsqOf p).2.1 := bitsOf_lt _ _ _
    refine ⟨_, rfl, ?_, ?_, ?_, hach.trans ((h1.mono (by simp)).trans ((v.freeTs_onlyChanges p).mono (by simp)))⟩
    · rw [State.freeTs, v.setFld_fld_same _ _ _ _ (tsqOf_fits p), hused]
      exact Nat.mod_eq_of_lt (Nat.lt_of_le_of_lt (Nat.sub_le _ _) hlt)
    · rw [State.freeTs, v.setFld_reg_other _ _ _ _ _ (by simp only [Reg.NTU_TSQ_USED, Reg.NTU_PnLAT]; omega), h2 _ hlat.1 hlat.2]
    · rw [State.freeTs, State.setFld_out]
      exact h3
  have htime : c.txTime p b = s.txTime p b := by
    rw [State.txTime, State.txTime, State.tb_congr (hcch.2.2 .tbs (by simp)), State.fld_congr hclat]
  have hput := (c.putServo_servo b b { c.servo b with delay := some (q, c.txTime p b) }).trans (if_pos rfl)
  have hpch := c.putServo_onlyChanges b { c.servo b with delay := some (q, c.txTime p b) }
  generalize hu : c.putServo b { c.servo b with delay := some (q, c.txTime p b) } = u at *
  obtain ⟨v, hv, hvch⟩ : ∃ v, ({ u with fab := { u.fab with idleClk := tput u.fab.idleClk p u.clk } } : State) = v ∧ OnlyChanges [.fab] u v :=
    ⟨_, rfl, by simp [onlyChanges_iff]⟩
  have hw := v.noteBuf_onlyChanges
  have hfin : OnlyChanges [.regs, .fab] u v.noteBuf := (hvch.mono (by simp)).trans (hw.mono (by simp))
  have hall : OnlyChanges [.regs, .out, .fab, .ntu] s v.noteBuf :=
    (hcch.mono (by simp)).trans ((hpch.mono (by simp)).trans (hfin.mono (by simp)))
  have hbuf : OnlyRegs [Reg.FAB_BUF_USED] v v.noteBuf := (OnlyRegs.refl _ v).setFld.setFld
  have hregs : v.regs = c.regs := (hvch.2.2 .regs (by simp)).trans (hpch.2.2 .regs (by simp))
  refine ⟨_, hrun a c u _ ha hc hu (by rw [hv]) hall, ?_, ?_, ?_, hall⟩
  · rw [State.servo_congr (hfin.2.2 .ntu (by simp)), hput, htime]
  · rw [hfin.2.2 .out (by simp), hpch.2.2 .out (by simp)]
    exact hcout
  · rw [State.fld_congr (hbuf _ (by decide)), State.fld_congr (State.reg_congr _ _ hregs _), hcused]

end

end Sys2Proof.Machine

/-! PROOFS. The choice of TB0's master, and O39 settled. -/

namespace Sys2Proof.Machine

-- One declaration after the other: the stacks of parallel elaboration would count against the memory limit of the check.
set_option Elab.async false

section
variable {s : State} {p : Nat}

/-- A sender's data set with the announcement it came in (R458). -/
def State.heardOf (s : State) (f : Foreign) : State := { s with ntu := { s.ntu with foreign := [f] } }

/-- The one foreign master that has announced twice in time is chosen, another is not (R458). -/
theorem State.bmca_of_one {f : Foreign} (hclk : s.clk ≤ f.clk + 3 * secClk) (hmaster : s.ntu.foreign = [f]) :
    s.bmca = if 2 ≤ f.count then
        (if (({ s with ntu := { s.ntu with master := some f } } : State).setFlag (Reg.NTU_TBn_STAT 0) 4 (f.port == 49)).num64 Reg.NTU_GM_ID_LO = f.gm
          then ({ s with ntu := { s.ntu with master := some f } } : State).setFlag (Reg.NTU_TBn_STAT 0) 4 (f.port == 49)
          else ((({ s with ntu := { s.ntu with master := some f } } : State).setFlag (Reg.NTU_TBn_STAT 0) 4 (f.port == 49)).setNum64
            Reg.NTU_GM_ID_LO f.gm).raiseIrq Blk.NTU 5)
      else { s with ntu := { s.ntu with master := none } } := by
  unfold State.bmca
  by_cases hcount : 2 ≤ f.count
  · have hlive : [f].filter (fun g => decide (2 ≤ g.count) && decide (s.clk ≤ g.clk + 3 * secClk)) = [f] := by simp [hcount, hclk]
    rw [hmaster, hlive, if_pos hcount]
    rfl
  · have hlive : [f].filter (fun g => decide (2 ≤ g.count) && decide (s.clk ≤ g.clk + 3 * secClk)) = [] := by simp [hcount]
    rw [hmaster, hlive, if_neg hcount]
    rfl

/-- The grandmaster that a chosen master shows (R453, R458). -/
theorem State.bmca_chosen {f : Foreign} (hclk : s.clk ≤ f.clk + 3 * secClk) (hmaster : s.ntu.foreign = [f]) (hcount : 2 ≤ f.count) (hgm : f.gm < 2 ^ 64) :
    s.bmca.ntu = { s.ntu with master := some f } ∧ s.bmca.num64 Reg.NTU_GM_ID_LO = f.gm
    ∧ s.bmca.flag (Reg.NTU_TBn_STAT 0) 4 = (f.port == 49)
    ∧ (s.num64 Reg.NTU_GM_ID_LO ≠ f.gm → s.bmca.flag (Reg.IRQ_STAT Blk.NTU) 5 = true) ∧ OnlyChanges [.regs, .out, .ntu] s s.bmca := by
  rw [State.bmca_of_one hclk hmaster, if_pos hcount]
  obtain ⟨a, ha, a1, a2, a3⟩ : ∃ a, ({ s with ntu := { s.ntu with master := some f } } : State) = a ∧ a.ntu = { s.ntu with master := some f }
      ∧ a.regs = s.regs ∧ OnlyChanges [.regs, .out, .ntu] s a := ⟨_, rfl, rfl, rfl, by simp [onlyChanges_iff]⟩
  rw [ha]
  have b1 := a.setFlag_flag_same (Reg.NTU_TBn_STAT 0) 4 (f.port == 49) (by decide)
  have b2 := a.setFlag_onlyChanges (Reg.NTU_TBn_STAT 0) 4 (f.port == 49)
  have b3 : (a.setFlag (Reg.NTU_TBn_STAT 0) 4 (f.port == 49)).num64 Reg.NTU_GM_ID_LO = s.num64 Reg.NTU_GM_ID_LO :=
    State.num64_congr ((a.setFlag_reg_other _ _ _ _ (by decide)).trans (State.reg_congr _ _ a2 _))
      ((a.setFlag_reg_other _ _ _ _ (by decide)).trans (State.reg_congr _ _ a2 _))
  generalize a.setFlag (Reg.NTU_TBn_STAT 0) 4 (f.port == 49) = b at *
  have hb : b.ntu = { s.ntu with master := some f } := (b2.2.2 .ntu (by simp)).trans a1
  have hbc : OnlyChanges [.regs, .out, .ntu] s b := a3.trans (b2.mono (by simp))
  split
  · next heq => exact ⟨hb, heq, b1, fun h => absurd (b3.symm.trans heq) h, hbc⟩
  · have c1 := b.setNum64_num64 Reg.NTU_GM_ID_LO f.gm
    have c2 := b.setNum64_onlyChanges Reg.NTU_GM_ID_LO f.gm
    have c3 := State.setNum64_onlyRegs (s := b) Reg.NTU_GM_ID_LO f.gm
    generalize b.setNum64 Reg.NTU_GM_ID_LO f.gm = c at *
    have d1 := c.raiseIrq_onlyRegs Blk.NTU 5
    have d2 := c.raiseIrq_onlyChanges Blk.NTU 5
    refine ⟨(d2.2.2 .ntu (by simp)).trans ((c2.2.2 .ntu (by simp)).trans hb), ?_, ?_, fun _ => c.raiseIrq_flag_same _ _ (by decide),
      hbc.trans ((c2.mono (by simp)).trans (d2.mono (by simp)))⟩
    · rw [State.num64_congr (d1 _ (by decide)) (d1 _ (by decide)), c1]
      exact Nat.mod_eq_of_lt hgm
    · rw [State.flag_congr _ _ _ _ (d1 _ (by decide)), State.flag_congr _ _ _ _ (c3 _ (by decide)), b1]

variable {data : List Nat} {gm src utc : Nat}

theorem ptpAnnounceRx_first {v : Bool} (hup : s.Up) (hp : p = 48 ∨ p = 49) (hen : s.en Blk.NTU = true) (hsrst : s.inSrst Blk.NTU = false)
    (hnone : s.ntu.foreign = []) : ∃ t, exec (.ptpAnnounceRx 0 p data ⟨gm, src⟩ utc v) s = .next t
        ∧ t.ntu.foreign = [⟨data, gm, src, p, 1, s.clk⟩] ∧ t.ntu.master = none ∧ OnlyChanges [.ntu] s t := by
  obtain ⟨a, ha, a1, a2, a3⟩ : ∃ a, s.heardOf ⟨data, gm, src, p, 1, s.clk⟩ = a ∧ a.ntu.foreign = [⟨data, gm, src, p, 1, s.clk⟩]
      ∧ a.clk = s.clk ∧ OnlyChanges [.ntu] s a := ⟨_, rfl, rfl, rfl, by simp [State.heardOf, onlyChanges_iff]⟩
  have hb : a.bmca = ({ a with ntu := { a.ntu with master := none } } : State) :=
    (State.bmca_of_one (by rw [a2]; exact Nat.le_add_right _ _) a1).trans (if_neg (by simp))
  obtain ⟨b, hb', b1, b2, b3⟩ : ∃ b, ({ a with ntu := { a.ntu with master := none } } : State) = b
      ∧ b.ntu.foreign = [⟨data, gm, src, p, 1, s.clk⟩] ∧ b.ntu.master = none ∧ OnlyChanges [.ntu] s b :=
    ⟨_, rfl, a1, rfl, a3.trans (by simp [onlyChanges_iff])⟩
  rw [hb'] at hb
  refine ⟨b, ?_, b1, b2, b3⟩
  rw [exec_ptpAnnounceRx, execPtpAnnounceRx]
  refine State.powered_next hup ?_ b3 (by simp)
  rw [if_neg (by simp [hen, hsrst]; omega)]
  have hheard : ({ s with ntu := { s.ntu with foreign := [⟨data, gm, src, p, 1, s.clk⟩] } } : State) = a := ha
  simp only [hnone, List.find?_nil, List.filter_nil, List.nil_append, hheard, hb, b2, Bool.false_eq_true, false_and, if_false]

theorem ptpAnnounceRx_again {f : Foreign} (hup : s.Up) (hp : p = 48 ∨ p = 49) (hen : s.en Blk.NTU = true) (hsrst : s.inSrst Blk.NTU = false)
    (hone : s.ntu.foreign = [f]) (hport : f.port = p) (hdata : f.data.getLast? = data.getLast?) (hclk : s.clk ≤ f.clk + 4 * secClk)
    (hcount : 1 ≤ f.count) (hgm : gm < 2 ^ 64) : ∃ t, exec (.ptpAnnounceRx 0 p data ⟨gm, src⟩ utc true) s = .next t
          ∧ t.ntu.master = some ⟨data, gm, src, p, f.count + 1, s.clk⟩ ∧ t.num64 Reg.NTU_GM_ID_LO = gm
          ∧ t.fld Reg.NTU_UTC_OFFSET 0 16 = utc % 65536 ∧ t.flag Reg.NTU_UTC_OFFSET 16 = true
          ∧ t.flag (Reg.NTU_TBn_STAT 0) 4 = (p == 49) ∧ (s.num64 Reg.NTU_GM_ID_LO ≠ gm → t.flag (Reg.IRQ_STAT Blk.NTU) 5 = true)
          ∧ OnlyChanges [.regs, .out, .ntu] s t := by
  have hsame : (f.port == p && f.data.getLast? == data.getLast?) = true := by simp [hport, hdata]
  have hfind : [f].find? (fun g => g.port == p && g.data.getLast? == data.getLast?) = some f := by simp [hsame]
  have hkeep : [f].filter (fun g => !(g.port == p && g.data.getLast? == data.getLast?)) = [] := by simp [hport, hdata]
  obtain ⟨a, ha, a1, a2, a3, a4⟩ : ∃ a, s.heardOf ⟨data, gm, src, p, f.count + 1, s.clk⟩ = a
      ∧ a.ntu.foreign = [⟨data, gm, src, p, f.count + 1, s.clk⟩] ∧ a.clk = s.clk ∧ OnlyChanges [.ntu] s a ∧ a.regs = s.regs :=
    ⟨_, rfl, rfl, rfl, by simp [State.heardOf, onlyChanges_iff], rfl⟩
  obtain ⟨b1, b2, b3, b4, b5⟩ := State.bmca_chosen (s := a) (by rw [a2]; exact Nat.le_add_right _ _) a1 (by simp only; omega) hgm
  have hnum : s.num64 Reg.NTU_GM_ID_LO = a.num64 Reg.NTU_GM_ID_LO :=
    (State.num64_congr (State.reg_congr _ _ a4 _) (State.reg_congr _ _ a4 _)).symm
  have hrun : ∀ t, (a.bmca.setFld Reg.NTU_UTC_OFFSET 0 16 utc).setFlag Reg.NTU_UTC_OFFSET 16 true = t → OnlyChanges [.regs, .out, .ntu] s t →
      exec (.ptpAnnounceRx 0 p data ⟨gm, src⟩ utc true) s = .next t := fun t ht hch => by
    rw [exec_ptpAnnounceRx, execPtpAnnounceRx]
    refine State.powered_next hup ?_ hch (by simp)
    rw [if_neg (by simp [hen, hsrst]; omega)]
    have hheard : ({ s with ntu := { s.ntu with foreign := [⟨data, gm, src, p, f.count + 1, s.clk⟩] } } : State) = a := ha
    simp only [hone, hfind, hclk, if_true, hkeep, List.nil_append, hheard, b1, BEq.rfl, Bool.and_self, and_self, ht]
  generalize a.bmca = b at *
  have c1 := b.setFld_fld_same Reg.NTU_UTC_OFFSET 0 16 utc (by decide)
  have c2 : ∀ off, off ≠ Reg.NTU_UTC_OFFSET → (b.setFld Reg.NTU_UTC_OFFSET 0 16 utc).reg off = b.reg off :=
    fun off h => b.setFld_reg_other _ _ _ _ _ (Ne.symm h)
  have c3 := b.setFld_onlyChanges Reg.NTU_UTC_OFFSET 0 16 utc
  generalize b.setFld Reg.NTU_UTC_OFFSET 0 16 utc = c at *
  have d2 : ∀ off, off ≠ Reg.NTU_UTC_OFFSET → (c.setFlag Reg.NTU_UTC_OFFSET 16 true).reg off = b.reg off :=
    fun off h => (c.setFlag_reg_other _ _ _ _ (Ne.symm h)).trans (c2 off h)
  have d3 := c.setFlag_onlyChanges Reg.NTU_UTC_OFFSET 16 true
  have hall : OnlyChanges [.regs, .out, .ntu] s (c.setFlag Reg.NTU_UTC_OFFSET 16 true) :=
    (a3.mono (by simp)).trans (b5.trans ((c3.trans d3).mono (by simp)))
  refine ⟨_, hrun _ rfl hall, ?_, ?_, ?_, c.setFlag_flag_same _ _ _ (by decide), ?_, fun h => ?_, hall⟩
  · rw [d3.2.2 .ntu (by simp), c3.2.2 .ntu (by simp), b1]
  · rw [State.num64_congr (d2 _ (by decide)) (d2 _ (by decide)), b2]
  · rw [State.setFlag, c.setFld_fld_other _ _ _ _ _ _ (by decide) (by decide), c1]
    rfl
  · rw [State.flag_congr _ _ _ _ (d2 _ (by decide)), b3]
  · rw [State.flag_congr _ _ _ _ (d2 _ (by decide)), b4 (by rw [← hnum]; exact h)]

end

/-- Settles O39: what a slave and a master receive, what each sends, a stamped message's departure, and the master chosen. -/
theorem ptpMessages : Obligations.PtpMessages := by
  unfold Obligations.PtpMessages
  refine fun s b p hup h4 => ⟨fun seq sec ns corr hslave => slaveReceives hup seq sec ns corr hslave,
    fun t2 t1 th i u hb hth hu => acceptSync_spec h4 hb hth hu, fun seq sender hmaster => delayReq_answered hup seq sender hmaster,
    fun q hmaster hpass hqn hq hlpi => ⟨fun hdue hts => ptpSyncTx_stamped hup hmaster hpass hqn hq hlpi hdue hts,
      fun hdue hts halone => ptpSyncTx_unstamped hup hmaster hpass hq hlpi hdue hts halone, ?_⟩,
    fun q hp hslave hpass hdue hq hlpi hqn hts => ptpDelayReqTx_stamped hup hp hslave hpass hdue hq hlpi hqn hts,
    fun fr r q hp _ hnext hqueue hwake => frameTransmit_stamped hup hp hnext hqueue hwake,
    fun data gm src utc v hp hen hsrst => ⟨fun hnone => ptpAnnounceRx_first hup hp hen hsrst hnone,
      fun f hone hport hdata hclk hcount hgm => ptpAnnounceRx_again hup hp hen hsrst hone hport hdata hclk hcount hgm⟩⟩
  rintro rfl hdue
  exact ptpAnnounceTx_own hup hmaster hpass hq hlpi hdue

end Sys2Proof.Machine

/-! PROOFS. What the counters of a port leave as it was, and the settings a frame's way depends on (R438, R441, R449). -/

namespace Sys2Proof.Machine

-- One declaration after the other: the stacks of parallel elaboration would count against the memory limit of the check.
set_option Elab.async false

section
variable {s u : State} {p : Nat}

/-! ### Counters -/

/-- The registers that a counter of a port may change besides itself (R449). -/
def countRegs : List Nat := Reg.FAB_HALF_LO :: Reg.FAB_HALF_HI :: irqRegs Blk.FAB

/-- A register that counting at the port leaves as it was. -/
def Uncounted (p off : Nat) : Prop := off ∉ countRegs ∧ ∀ k, k < 64 → off ≠ Reg.FAB_PnCNTk p k

theorem mem_countRegs {off : Nat} : off ∈ countRegs ↔ off = 0x1C0124 ∨ off = 0x1C0128 ∨ off = 0x1C0018 ∨ off = 0xA1000 ∨ off = 0xA1004 := by
  simp only [countRegs, irqRegs, List.mem_cons, List.not_mem_nil, or_false, Reg.FAB_HALF_LO, Reg.FAB_HALF_HI, Reg.IRQ_STAT, Reg.MSIX_PBA, Blk.FAB]

theorem counter_not_mem (p k : Nat) : Reg.FAB_PnCNTk p k ∉ countRegs := by
  simp only [mem_countRegs, Reg.FAB_PnCNTk]
  omega

/-- Every register of FAB's pages below its counters, but FAB_HALF. -/
theorem uncounted_fab {off : Nat} (hlo : 0x1C0100 ≤ off) (hhi : off < 0x1E0000) (h : off ≠ 0x1C0124 ∧ off ≠ 0x1C0128) : Uncounted p off := by
  simp only [Uncounted, mem_countRegs, Reg.FAB_PnCNTk]
  exact ⟨by omega, fun k _ => by omega⟩

theorem uncounted_port (hp : p < 50) {off : Nat} (hlo : 0x1C1000 ≤ off) (hhi : off < 0x1C1040) : Uncounted p (off + 64 * p) :=
  uncounted_fab (by omega) (by omega) (by omega)

theorem State.cnt_reg_of_uncounted {off k : Nat} (h : Uncounted p off) (hk : k < 64) (n : Nat) : (s.cnt p k n).reg off = s.reg off :=
  s.cnt_onlyRegs p k n off fun hm => (List.mem_cons.1 hm).elim (h.2 k hk) h.1

/-- A counter counts modulo 2³², the port's others stay (R449). -/
theorem State.cnt_num (j k n : Nat) : (s.cnt p j n).num (Reg.FAB_PnCNTk p k)
    = if j = k then (s.num (Reg.FAB_PnCNTk p k) + n) % 2 ^ 32 else s.num (Reg.FAB_PnCNTk p k) := by
  split
  · next h =>
    subst h
    have hinc := s.wrapInc_num (Reg.FAB_PnCNTk p j) n
    have hnot := counter_not_mem p j
    unfold State.cnt
    simp only
    generalize s.wrapInc (Reg.FAB_PnCNTk p j) n = a at *
    split
    · refine (State.num_congr ?_).trans hinc
      have hflag : OnlyRegs countRegs a (a.setFlag (if p < 32 then Reg.FAB_HALF_LO else Reg.FAB_HALF_HI) (p % 32) true) := by
        split
        · exact (OnlyRegs.refl _ a).setFlag (by simp [countRegs])
        · exact (OnlyRegs.refl _ a).setFlag (by simp [countRegs])
      exact (hflag.trans ((State.raiseIrq_onlyRegs _ _ _).mono (by simp [countRegs]))) _ hnot
    · exact hinc
  · next h =>
    refine State.num_congr (s.cnt_onlyRegs p j n _ fun hm => ?_)
    rcases List.mem_cons.1 hm with hc | hc
    · simp only [Reg.FAB_PnCNTk] at hc
      omega
    · exact counter_not_mem p k hc

theorem sizeCounter_bounds (n : Nat) : 9 ≤ sizeCounter n ∧ sizeCounter n ≤ 15 := by
  unfold sizeCounter
  split_ifs
  all_goals omega

/-! ### A received frame is counted (R449) -/

theorem State.countRx_onlyChanges (s : State) (p : Nat) (f : EthFrame) : OnlyChanges [.regs, .out] s (s.countRx p f) := by
  have hc : ∀ (a : State) k n, OnlyChanges [.regs, .out] s a → OnlyChanges [.regs, .out] s (a.cnt p k n) :=
    fun a k n h => h.trans (a.cnt_onlyChanges p k n)
  unfold State.countRx
  simp only
  split_ifs
  all_goals repeat' apply hc
  all_goals exact OnlyChanges.refl _ s

theorem State.countRx_reg {off : Nat} (h : Uncounted p off) (f : EthFrame) : (s.countRx p f).reg off = s.reg off := by
  have hc : ∀ (a : State) k n, k < 64 → (a.cnt p k n).reg off = a.reg off := fun a k n hk => a.cnt_reg_of_uncounted h hk n
  obtain ⟨-, hsize⟩ := sizeCounter_bounds f.len
  unfold State.countRx
  simp only
  split_ifs
  all_goals repeat rw [hc _ _ _ (by omega)]

/-- The counters above 18 count something else than reception. -/
theorem State.countRx_num_high {k : Nat} (hlo : 18 < k) (f : EthFrame) :
    (s.countRx p f).num (Reg.FAB_PnCNTk p k) = s.num (Reg.FAB_PnCNTk p k) := by
  have hc : ∀ (a : State) j n, j ≤ 18 → (a.cnt p j n).num (Reg.FAB_PnCNTk p k) = a.num (Reg.FAB_PnCNTk p k) := fun a j n hj => by
    rw [State.cnt_num, if_neg (by omega)]
  obtain ⟨-, hsize⟩ := sizeCounter_bounds f.len
  unfold State.countRx
  simp only
  split_ifs
  all_goals repeat rw [hc _ _ _ (by omega)]

/-- A frame of a possible length with a bad FCS (R449). -/
theorem State.countRx_badFcs {f : EthFrame} (hfcs : f.fcsOk = false) (hlo : 64 ≤ f.len) (hhi : f.len ≤ s.maxFrame) :
    (s.countRx p f).num (Reg.FAB_PnCNTk p 4) = (s.num (Reg.FAB_PnCNTk p 4) + 1) % 2 ^ 32
    ∧ (s.countRx p f).num (Reg.FAB_PnCNTk p 0) = (s.num (Reg.FAB_PnCNTk p 0) + f.len) % 2 ^ 32 := by
  have heq : s.countRx p f = (((s.cnt p 0 f.len).cnt p 1 1).cnt p (sizeCounter f.len) 1).cnt p 4 1 := by
    unfold State.countRx
    simp only
    rw [if_neg (by simp [State.goodFrame, hfcs]), if_neg (by omega), if_neg (by omega), if_pos ⟨hlo, hhi⟩]
  obtain ⟨hsize, hsize2⟩ := sizeCounter_bounds f.len
  have h4 : sizeCounter f.len ≠ 4 := by omega
  have h0 : sizeCounter f.len ≠ 0 := by omega
  rw [heq]
  constructor
  all_goals simp [State.cnt_num, h4, h0]

/-- A good unicast frame (R449). -/
theorem State.countRx_unicast {f : EthFrame} (hgood : s.goodFrame f = true) (hbc : f.dst ≠ bcast) (hgroup : isGroup f.dst = false) :
    (s.countRx p f).num (Reg.FAB_PnCNTk p 17) = (s.num (Reg.FAB_PnCNTk p 17) + 1) % 2 ^ 32 := by
  have hlen : 64 ≤ f.len ∧ f.len ≤ s.maxFrame := by
    simp only [State.goodFrame, Bool.and_eq_true, decide_eq_true_eq] at hgood
    exact ⟨hgood.1.2, hgood.2⟩
  have heq : s.countRx p f = ((((s.cnt p 0 f.len).cnt p 1 1).cnt p (sizeCounter f.len) 1).cnt p 18 f.len).cnt p 17 1 := by
    unfold State.countRx
    simp only
    rw [if_pos hgood, if_neg hbc, if_neg (by simp [hgroup]), if_pos hlen]
  obtain ⟨hsize, hsize2⟩ := sizeCounter_bounds f.len
  have h17 : sizeCounter f.len ≠ 17 := by omega
  rw [heq]
  simp [State.cnt_num, h17]

/-! ### Settings -/

/-- The registers that a frame's way through the fabric is read from. -/
def FabSetting (off : Nat) : Prop :=
  off = Reg.SUP_MODE ∨ off = Reg.CTRL Blk.FAB ∨ (0x1C0100 ≤ off ∧ off < 0x1C0108) ∨ (0x1C1000 ≤ off ∧ off < 0x1E0000)

/-- The settings of the fabric are the same. -/
def State.SameSettings (s u : State) : Prop := ∀ off, FabSetting off → u.reg off = s.reg off

theorem uncounted_setting {off : Nat} (h : FabSetting off) : Uncounted p off := by
  simp only [FabSetting, Reg.SUP_MODE, Reg.CTRL, Blk.FAB] at h
  simp only [Uncounted, mem_countRegs, Reg.FAB_PnCNTk]
  exact ⟨by omega, fun k _ => by omega⟩

theorem State.SameSettings.trans {t : State} (h1 : s.SameSettings t) (h2 : t.SameSettings u) : s.SameSettings u :=
  fun off h => (h2 off h).trans (h1 off h)

theorem State.SameSettings.countRx (s : State) (p : Nat) (f : EthFrame) : s.SameSettings (s.countRx p f) :=
  fun _ h => State.countRx_reg (uncounted_setting h) f

section
variable (h : s.SameSettings u)
include h

theorem State.SameSettings.plainSwitch : u.plainSwitch = s.plainSwitch := by
  have hmode : u.mode = s.mode := State.fld_congr (h _ (.inl rfl)) 0 2
  have hen : u.en Blk.FAB = s.en Blk.FAB := State.flag_congr _ _ _ _ (h _ (.inr (.inl rfl)))
  rw [State.plainSwitch, State.plainSwitch, hmode, hen]

theorem State.SameSettings.maxFrame : u.maxFrame = s.maxFrame := by
  rw [State.maxFrame, State.maxFrame, State.fld_congr (h _ (.inr (.inr (.inl (by simp only [Reg.FAB_CFG]; omega)))))]

theorem State.SameSettings.goodFrame (f : EthFrame) : u.goodFrame f = s.goodFrame f := by
  rw [State.goodFrame, State.goodFrame, h.maxFrame]

theorem State.SameSettings.pcpClass (pcp : Nat) : u.pcpClass pcp = s.pcpClass pcp := by
  rw [State.pcpClass, State.pcpClass, State.fld_congr (h _ (.inr (.inr (.inl (by simp only [Reg.FAB_PCP_MAP]; omega)))))]

theorem State.SameSettings.upper {off : Nat} (hlo : 0x1C1000 ≤ off) (hhi : off < 0x1E0000) : u.reg off = s.reg off :=
  h _ (.inr (.inr (.inr ⟨hlo, hhi⟩)))

theorem State.SameSettings.port {off : Nat} (hp : p < 50) (hlo : 0x1C1000 ≤ off) (hhi : off < 0x1C1040) : u.reg (off + 64 * p) = s.reg (off + 64 * p) :=
  h.upper (by omega) (by omega)

theorem State.SameSettings.portPasses (hp : p < 50) (low : Bool) : u.portPasses p low = s.portPasses p low := by
  have hstat : ∀ i, u.flag (Reg.FAB_PnSTAT p) i = s.flag (Reg.FAB_PnSTAT p) i :=
    fun i => State.flag_congr _ _ _ _ (h.port hp (by decide) (by decide))
  have hcfg : ∀ i, u.flag (Reg.FAB_PnCFG p) i = s.flag (Reg.FAB_PnCFG p) i :=
    fun i => State.flag_congr _ _ _ _ (h.port hp (by decide) (by decide))
  simp only [State.portPasses, hstat, hcfg]

theorem State.SameSettings.vlanMembers (v : Nat) : u.vlanMembers v = s.vlanMembers v := by
  unfold State.vlanMembers
  rw [h.plainSwitch]
  split_ifs
  · rfl
  · rfl
  · next hv =>
    rw [State.num_congr (h.upper (by simp only [Reg.FAB_VLANv_MBR_LO]; omega) (by simp only [Reg.FAB_VLANv_MBR_LO]; omega)),
      State.fld_congr (h.upper (by simp only [Reg.FAB_VLANv_MBR_HI]; omega) (by simp only [Reg.FAB_VLANv_MBR_HI]; omega))]

theorem State.SameSettings.vlanPass (hp : p < 50) (vid : Nat) (f : EthFrame) : u.vlanPass p vid f = s.vlanPass p vid f := by
  unfold State.vlanPass
  simp only [h.plainSwitch, h.vlanMembers, State.flag_congr _ _ _ 4 (h.port (off := 0x1C1000) hp (by decide) (by decide)),
    State.fld_congr (h.port (off := 0x1C1000) hp (by decide) (by decide))]

theorem State.SameSettings.retag {vid : Nat} (hv : vid ≤ 4094) (q pcp : Nat) (keep : Bool) (f : EthFrame) :
    u.retag q vid pcp keep f = s.retag q vid pcp keep f := by
  have hunt : u.untagged vid q = s.untagged vid q := by
    unfold State.untagged
    rw [State.num_congr (h.upper (by simp only [Reg.FAB_VLANv_UNT_LO]; omega) (by simp only [Reg.FAB_VLANv_UNT_LO]; omega)),
      State.fld_congr (h.upper (by simp only [Reg.FAB_VLANv_UNT_HI]; omega) (by simp only [Reg.FAB_VLANv_UNT_HI]; omega))]
  unfold State.retag
  rw [h.plainSwitch, hunt]

/-- A frame's ports are the same where its destination stands in the same place (R438). -/
theorem State.SameSettings.egressPorts {vid : Nat} {f : EthFrame} (hdst : u.fdbAt vid f.dst = s.fdbAt vid f.dst) (q : Nat) :
    u.egressPorts q vid f = s.egressPorts q vid f := by
  unfold State.egressPorts
  rw [h.vlanMembers, hdst]

end

theorem fixVid_le {w : Nat} (h : w < 4096) : fixVid w ≤ 4094 := by
  unfold fixVid
  split
  all_goals omega

end

end Sys2Proof.Machine

/-! PROOFS. A frame is received: counted, refused, learned and queued, or dropped by a storm meter (R438 to R446, R449). -/

namespace Sys2Proof.Machine

-- One declaration after the other: the stacks of parallel elaboration would count against the memory limit of the check.
set_option Elab.async false

section
variable {s a : State} {p : Nat} {f : EthFrame}

theorem exec_portFrameRx_bad (hup : s.Up) (hp : p < 50) (hlink : s.flag (Reg.FAB_PnSTAT p) 0 = true) (hbad : s.goodFrame f = false) :
    exec (.portFrameRx p f) s = .next (s.countRx p f) := by
  rw [exec_portFrameRx, execPortFrameRx]
  refine State.powered_next hup ?_ (s.countRx_onlyChanges p f) (by simp)
  rw [if_neg (by simp [hlink]; omega)]
  simp only [(State.SameSettings.countRx s p f).goodFrame, hbad, Bool.not_false, true_or, if_true]

/-- Where a good frame goes: to its endpoint, away, or on through the fabric (R438, R441). -/
def State.sortRx (a : State) (p : Nat) (f : EthFrame) : State :=
  match mgmtFrom f.etype p with
  | some true => a.rxManagement p f
  | some false => (a.cnt p 19 1).lcpStray f
  | none => a.rxData p f

/-- A good frame at an enabled port whose link is up and full duplex (R437). -/
theorem exec_portFrameRx_good {t : State} {ps : List Part} (hup : s.Up) (hp : p < 50) (hlink : s.flag (Reg.FAB_PnSTAT p) 0 = true)
    (hhalf : s.flag (Reg.FAB_PnSTAT p) 3 = false) (hen : s.flag (Reg.FAB_PnCFG p) 0 = true) (hgood : s.goodFrame f = true) (hpause : f.etype ≠ 0x8808)
    (ht : (s.countRx p f).sortRx p f = t) (hch : OnlyChanges ps s t) (hk : Part.key ∉ ps) :
    exec (.portFrameRx p f) s = .next t := by
  have hset := State.SameSettings.countRx s p f
  have hhalf2 := (State.flag_congr _ _ _ 3 (hset.port (off := 0x1C1004) hp (by decide) (by decide))).trans hhalf
  have hen2 := (State.flag_congr _ _ _ 0 (hset.port (off := 0x1C1000) hp (by decide) (by decide))).trans hen
  rw [exec_portFrameRx, execPortFrameRx]
  refine State.powered_next hup ?_ hch hk
  rw [if_neg (by simp [hlink]; omega)]
  simp only
  rw [if_neg (by simp [hset.goodFrame, hgood, hhalf2, hen2]), if_neg hpause]
  exact ht

/-- A frame with a bad FCS is counted and dropped (R449). -/
theorem portFrameRx_badFcs (hup : s.Up) (hp : p < 50) (hlink : s.flag (Reg.FAB_PnSTAT p) 0 = true) (hfcs : f.fcsOk = false) (hlo : 64 ≤ f.len)
    (hhi : f.len ≤ s.maxFrame) : ∃ t, exec (.portFrameRx p f) s = .next t
      ∧ t.num (Reg.FAB_PnCNTk p 4) = (s.num (Reg.FAB_PnCNTk p 4) + 1) % 2 ^ 32
      ∧ t.num (Reg.FAB_PnCNTk p 0) = (s.num (Reg.FAB_PnCNTk p 0) + f.len) % 2 ^ 32 ∧ OnlyChanges [.regs, .out] s t := by
  obtain ⟨h1, h2⟩ := State.countRx_badFcs (p := p) hfcs hlo hhi
  exact ⟨_, exec_portFrameRx_bad hup hp hlink (by simp [State.goodFrame, hfcs]), h1, h2, s.countRx_onlyChanges p f⟩

/-- LCP's frame from an uplink is dropped, counted by FAB and by LCP (R202, R441). -/
theorem portFrameRx_stray (hup : s.Up) (hp : p < 50) (hlink : s.flag (Reg.FAB_PnSTAT p) 0 = true) (hhalf : s.flag (Reg.FAB_PnSTAT p) 3 = false)
    (hen : s.flag (Reg.FAB_PnCFG p) 0 = true) (hgood : s.goodFrame f = true) (hty : f.etype = 0x88B5) (hp48 : 48 ≤ p) :
    ∃ t, exec (.portFrameRx p f) s = .next t
      ∧ t.num (Reg.FAB_PnCNTk p 19) = (s.num (Reg.FAB_PnCNTk p 19) + 1) % 2 ^ 32
      ∧ (s.en Blk.LCP = true → t.num Reg.LCP_RXERR_CNT = Nat.min (s.num Reg.LCP_RXERR_CNT + 1) (2 ^ 32 - 1))
      ∧ OnlyChanges [.regs, .out] s t := by
  have hfar : ∀ off, 0x280000 ≤ off → Uncounted p off := fun off hoff => by
    simp only [Uncounted, mem_countRegs, Reg.FAB_PnCNTk]
    exact ⟨by omega, fun k _ => by omega⟩
  have hmgmt : mgmtFrom f.etype p = some false := by simp [mgmtFrom, hty]; omega
  have hreg : ∀ off, 0x280000 ≤ off → ((s.countRx p f).cnt p 19 1).reg off = s.reg off := fun off hoff =>
    (State.cnt_reg_of_uncounted (hfar off hoff) (by decide) 1).trans (State.countRx_reg (hfar off hoff) f)
  have hcnt : ((s.countRx p f).cnt p 19 1).num (Reg.FAB_PnCNTk p 19) = (s.num (Reg.FAB_PnCNTk p 19) + 1) % 2 ^ 32 := by
    rw [State.cnt_num, if_pos rfl, State.countRx_num_high (by decide)]
  have hch := (s.countRx_onlyChanges p f).trans ((s.countRx p f).cnt_onlyChanges p 19 1)
  have hsort : (s.countRx p f).sortRx p f = ((s.countRx p f).cnt p 19 1).lcpStray f := by rw [State.sortRx, hmgmt]
  have hrun := fun t ht => exec_portFrameRx_good (t := t) (ps := [.regs, .out]) hup hp hlink hhalf hen hgood (by omega) (hsort.trans ht)
  generalize (s.countRx p f).cnt p 19 1 = b at *
  obtain ⟨h1, h2⟩ := b.lcpStray_spec f
  have hall := hch.trans (h1.mono (by simp))
  refine ⟨_, hrun _ rfl hall (by simp), ?_, fun hlcp => ?_, hall⟩
  · rw [State.num_congr (h2 _ (by simp only [List.mem_singleton, Reg.FAB_PnCNTk, Reg.LCP_RXERR_CNT]; omega)), hcnt]
  · have hen2 : b.en Blk.LCP = true := (State.flag_congr _ _ _ _ (hreg _ (by decide))).trans hlcp
    unfold State.lcpStray
    rw [if_pos ⟨hty, hen2⟩, State.satInc_num, State.num_congr (hreg _ (by decide))]

/-- A class 7 frame of an internal endpoint goes to its port at once (R441). -/
theorem sendInternal_first {ep : Nat} {fr : EthFrame} (hlink : s.flag (Reg.FAB_PnSTAT p) 0 = true) (hhalf : s.flag (Reg.FAB_PnSTAT p) 3 = false)
    (hen : s.flag (Reg.FAB_PnCFG p) 0 = true) (hep : ep < 5) (hlen : fr.len ≤ 2048) (hq : s.fab.queues = [])
    (hlpi : s.flag (Reg.FAB_PnSTAT p) 6 = false) :
    (s.sendInternal ep none [p] fr).fabQueue p 7 = [⟨s.fab.nextId, fr, 50 + ep, true, none, none⟩]
      ∧ OnlyChanges [.regs, .fab] s (s.sendInternal ep none [p] fr) := by
  have hres : 2048 ≤ reservation (50 + ep) := by
    unfold reservation
    split_ifs
    all_goals omega
  have hroom : s.room (50 + ep) 7 fr.len = some true := State.room_reserved hq (hlen.trans hres)
  obtain ⟨t, ht, t1, -, t3, -⟩ := State.forward_urgent (ingress := 50 + ep) (vid := 0) (pcp := 7) (keep := true) (r := true) (op := none)
    (ptp := none) (f := fr) hq (by simp [State.portPasses, hlink, hhalf, hen]) hlpi
  have hkeep : s.retag p 0 7 true fr = fr := if_pos (.inl rfl)
  unfold State.sendInternal
  simp only [hroom, ht]
  exact ⟨by rw [t1, hkeep], t3⟩

/-! ### Unicast frames (R438, R439, R442) -/

theorem State.copyToHosts_none (h3 : s.flag (Reg.FAB_EPe_CFG 3) 0 = false) (h4 : s.flag (Reg.FAB_EPe_CFG 4) 0 = false) (ingress members : Nat)
    (f : EthFrame) : s.copyToHosts ingress members f = s := by
  unfold State.copyToHosts
  simp only [List.foldl_cons, List.foldl_nil, h3, h4, Bool.not_false, or_true, if_true]

theorem fdbKey_inj {vid m n : Nat} (h : fdbKey vid m = fdbKey vid n) : m = n := Nat.add_left_cancel h

/-- A table entry that is put changes no setting. -/
theorem State.SameSettings.putFdb (s : State) (key : Nat) (e : Option FdbEntry) : s.SameSettings (s.putFdb key e) := fun off h =>
  (State.setNum_reg_other _ Reg.FAB_FDB_USED _ off (by simp only [FabSetting, Reg.SUP_MODE, Reg.CTRL, Blk.FAB] at h; simp only [Reg.FAB_FDB_USED]; omega)).trans
    (State.reg_congr _ _ rfl off)

theorem State.putFdb_onlyRegs (s : State) (key : Nat) (e : Option FdbEntry) : OnlyRegs [Reg.FAB_FDB_USED] s (s.putFdb key e) := by
  unfold State.putFdb State.noteFdb
  exact (OnlyRegs.of_regs_eq rfl : OnlyRegs [Reg.FAB_FDB_USED] s { s with fab := _ }).setNum

/-- A frame of a known unicast destination passes the storm meters (R445). -/
theorem State.stormPass_known (hplain : a.plainSwitch = false) (hbc : f.dst ≠ bcast) (hgroup : isGroup f.dst = false) :
    a.stormPass p f true = (true, a) := by
  simp [State.stormPass, State.stormMeter, hplain, hbc, hgroup]

/-- An unknown source with room in its bucket is learned (R439). -/
theorem State.learn_new {vid : Nat} (hsrc : a.fdbAt vid f.src = none) (hbucket : (a.bucketOf vid f.src).length < 4) :
    a.learn vid f.src p = a.putFdb (fdbKey vid f.src) (some ⟨false, 2 ^ p, a.clk⟩) := by
  unfold State.learn
  rw [hsrc]
  exact if_neg (by omega)

/-- An untagged frame of a known destination: its source is learned and it is queued at the one port it is for. -/
theorem State.rxData_queued {vid pcp q c : Nat} (hlen : f.len ≤ 9216) (hplain : a.plainSwitch = false)
    (hblock : a.flag (Reg.FAB_PnSTAT p) 4 = false) (htag : f.tag = none) (hvid : fixVid (a.fld (Reg.FAB_PnCFG p) 16 12) = vid)
    (hpcp : a.fld (Reg.FAB_PnCFG p) 28 3 = pcp) (hc : a.pcpClass pcp = c) (hvlan : a.vlanPass p vid f = true) (hsrc : a.fdbAt vid f.src = none)
    (hbucket : (a.bucketOf vid f.src).length < 4) (hon : a.flag Reg.FAB_CFG 16 = true) (hlearn : a.flag (Reg.FAB_PnCFG p) 1 = true)
    (hgsrc : isGroup f.src = false) (hne : f.dst ≠ f.src) (hbc : f.dst ≠ bcast) (hgroup : isGroup f.dst = false)
    (hknown : (a.fdbAt vid f.dst).isSome = true) (hq : a.fab.queues = []) (h3 : a.flag (Reg.FAB_EPe_CFG 3) 0 = false)
    (h4 : a.flag (Reg.FAB_EPe_CFG 4) 0 = false) (hports : a.egressPorts p vid f = [q]) (hpass : a.portPasses q true = true) (hq50 : q < 50) :
    ∃ t, a.rxData p f = t ∧ t.fdbAt vid f.src = some ⟨false, 2 ^ p, a.clk⟩
      ∧ t.fab.queues = [(8 * q + c, [⟨a.fab.nextId, a.retag q vid pcp false f, p, false, none, none⟩])]
      ∧ OnlyChanges [.regs, .fab] a t ∧ OnlyRegs [Reg.FAB_FDB_USED, Reg.FAB_BUF_USED] a t := by
  have hv : vid ≤ 4094 := by rw [← hvid]; exact fixVid_le (bitsOf_lt _ _ _)
  have hc7 : c ≠ 7 := by rw [← hc]; exact a.pcpClass_ne _
  have hlrn := a.learn_new (p := p) hsrc hbucket
  have hset := State.SameSettings.putFdb a (fdbKey vid f.src) (some ⟨false, 2 ^ p, a.clk⟩)
  obtain ⟨h1, h2, hch⟩ := a.putFdb_spec (fdbKey vid f.src) (some ⟨false, 2 ^ p, a.clk⟩)
  have hregs := a.putFdb_onlyRegs (fdbKey vid f.src) (some ⟨false, 2 ^ p, a.clk⟩)
  have hqb : (a.putFdb (fdbKey vid f.src) (some ⟨false, 2 ^ p, a.clk⟩)).fab.queues = [] := hq
  have hid : (a.putFdb (fdbKey vid f.src) (some ⟨false, 2 ^ p, a.clk⟩)).fab.nextId = a.fab.nextId := rfl
  have hrun : ∀ b t, a.putFdb (fdbKey vid f.src) (some ⟨false, 2 ^ p, a.clk⟩) = b → b.room p c f.len = some false →
      b.copyToHosts p (b.vlanMembers vid) (b.retag 50 vid pcp false f) = b → b.forward p vid pcp c false false none none (b.egressPorts p vid f) f = t →
      a.rxData p f = t := fun b t hb hroom hcopy ht => by
    unfold State.rxData
    simp only [htag, hvid, hpcp, hc, hblock, hvlan, hsrc, hknown, a.stormPass_known hplain hbc hgroup, hplain, hon, hlearn, hgsrc, hlrn, hb, hroom,
      hcopy, ht, Bool.false_eq_true, if_false, Bool.not_true, or_self, Bool.or_true, Bool.and_self, Bool.not_false, and_self, if_true]
  generalize a.putFdb (fdbKey vid f.src) (some ⟨false, 2 ^ p, a.clk⟩) = b at *
  have hoff : ∀ e, e < 5 → b.flag (Reg.FAB_EPe_CFG e) 0 = a.flag (Reg.FAB_EPe_CFG e) 0 := fun e he =>
    State.flag_congr _ _ _ _ (hset.upper (by simp only [Reg.FAB_EPe_CFG]; omega) (by simp only [Reg.FAB_EPe_CFG]; omega))
  have hdst : b.fdbAt vid f.dst = a.fdbAt vid f.dst := h2 _ fun h => hne (fdbKey_inj h)
  obtain ⟨t, i, w, ht, hfab, hch2, hregs2⟩ := State.forward_queued (s := b) (f := f) (ingress := p) (vid := vid) (pcp := pcp) (keep := false)
    (r := false) (op := none) (ptp := none) hc7 hqb (by rw [hset.portPasses hq50, hpass]) (by omega)
  refine ⟨t, hrun b t rfl (State.room_of_empty b hqb hc7 (by omega))
    (State.copyToHosts_none ((hoff 3 (by decide)).trans h3) ((hoff 4 (by decide)).trans h4) _ _ _)
    (by rw [hset.egressPorts hdst, hports, ht]), ?_, ?_, hch.trans hch2, (hregs.mono (by simp)).trans (hregs2.mono (by simp))⟩
  · rw [State.fdbAt, hfab]
    exact h1
  · rw [hfab, hid, hset.retag hv]

/-- A known unicast frame is learned and queued at its port in its class (R438, R439, R441, R442). -/
theorem portFrameRx_queued {vid pcp q c : Nat} (hup : s.Up) (hp : p < 50) (hlink : s.flag (Reg.FAB_PnSTAT p) 0 = true)
    (hhalf : s.flag (Reg.FAB_PnSTAT p) 3 = false) (hen : s.flag (Reg.FAB_PnCFG p) 0 = true) (hgood : s.goodFrame f = true)
    (hplain : s.plainSwitch = false) (hblock : s.flag (Reg.FAB_PnSTAT p) 4 = false) (hpause : f.etype ≠ 0x8808) (hmgmt : mgmtFrom f.etype p = none)
    (htag : f.tag = none) (hvid : fixVid (s.fld (Reg.FAB_PnCFG p) 16 12) = vid) (hpcp : s.fld (Reg.FAB_PnCFG p) 28 3 = pcp)
    (hc : s.pcpClass pcp = c) (hvlan : s.vlanPass p vid f = true) (hsrc : s.fdbAt vid f.src = none)
    (hbucket : (s.bucketOf vid f.src).length < 4) (hon : s.flag Reg.FAB_CFG 16 = true) (hlearn : s.flag (Reg.FAB_PnCFG p) 1 = true)
    (hgsrc : isGroup f.src = false) (hne : f.dst ≠ f.src) (hbc : f.dst ≠ bcast) (hgroup : isGroup f.dst = false)
    (hknown : (s.fdbAt vid f.dst).isSome = true) (hq : s.fab.queues = []) (h3 : s.flag (Reg.FAB_EPe_CFG 3) 0 = false)
    (h4 : s.flag (Reg.FAB_EPe_CFG 4) 0 = false) (hports : s.egressPorts p vid f = [q]) (hpass : s.portPasses q true = true) (hq50 : q < 50) :
    ∃ t, exec (.portFrameRx p f) s = .next t ∧ t.fdbAt vid f.src = some ⟨false, 2 ^ p, s.clk⟩
      ∧ t.fab.queues = [(8 * q + c, [⟨s.fab.nextId, s.retag q vid pcp false f, p, false, none, none⟩])]
      ∧ t.num (Reg.FAB_PnCNTk p 17) = (s.num (Reg.FAB_PnCNTk p 17) + 1) % 2 ^ 32 ∧ OnlyChanges [.regs, .out, .fab] s t := by
  have hset := State.SameSettings.countRx s p f
  have hch := s.countRx_onlyChanges p f
  have hcnt := State.countRx_unicast (p := p) hgood hbc hgroup
  have hrun := fun t => exec_portFrameRx_good (t := t) (ps := [.regs, .out, .fab]) hup hp hlink hhalf hen hgood hpause
  simp only [State.sortRx, hmgmt] at hrun
  generalize s.countRx p f = a at *
  have hfab : a.fab = s.fab := hch.2.2 .fab (by simp)
  have hstat := hset.port (off := 0x1C1004) hp (by decide) (by decide)
  have hcfg := hset.port (off := 0x1C1000) hp (by decide) (by decide)
  have hfdb : ∀ mac, a.fdbAt vid mac = s.fdbAt vid mac := fun mac => by rw [State.fdbAt, State.fdbAt, hfab]
  have hoff : ∀ e, e < 5 → a.flag (Reg.FAB_EPe_CFG e) 0 = s.flag (Reg.FAB_EPe_CFG e) 0 := fun e he =>
    State.flag_congr _ _ _ _ (hset.upper (by simp only [Reg.FAB_EPe_CFG]; omega) (by simp only [Reg.FAB_EPe_CFG]; omega))
  have hlen : f.len ≤ 9216 := by
    simp only [State.goodFrame, Bool.and_eq_true, decide_eq_true_eq] at hgood
    exact hgood.2.trans s.maxFrame_le
  have hv : vid ≤ 4094 := by rw [← hvid]; exact fixVid_le (bitsOf_lt _ _ _)
  obtain ⟨t, ht, t1, t2, t3, t4⟩ := State.rxData_queued (a := a) (p := p) (f := f) (vid := vid) (pcp := pcp) (q := q) (c := c) hlen
    (by rw [hset.plainSwitch, hplain]) (by rw [State.flag_congr _ _ _ 4 hstat, hblock]) htag (by rw [State.fld_congr hcfg, hvid])
    (by rw [State.fld_congr hcfg, hpcp]) (by rw [hset.pcpClass, hc]) (by rw [hset.vlanPass hp, hvlan]) (by rw [hfdb, hsrc])
    (by rw [State.bucketOf, hfab]; exact hbucket)
    (by rw [State.flag_congr _ _ _ _ (hset Reg.FAB_CFG (.inr (.inr (.inl (by decide))))), hon])
    (by rw [State.flag_congr _ _ _ 1 hcfg, hlearn]) hgsrc hne hbc hgroup (by rw [hfdb, hknown]) (by rw [hfab, hq])
    ((hoff 3 (by decide)).trans h3) ((hoff 4 (by decide)).trans h4) (by rw [hset.egressPorts (hfdb _), hports]) (by rw [hset.portPasses hq50, hpass]) hq50
  have hall : OnlyChanges [.regs, .out, .fab] s t := (hch.mono (by simp)).trans (t3.mono (by simp))
  refine ⟨t, hrun t ht hall (by simp), by rw [t1, hch.2.1], by rw [t2, hfab, hset.retag hv], ?_, hall⟩
  rw [State.num_congr (t4 _ (by simp only [List.mem_cons, List.not_mem_nil, or_false, Reg.FAB_PnCNTk, Reg.FAB_FDB_USED, Reg.FAB_BUF_USED]; omega)), hcnt]

/-! ### Storm drops (R445, R446) -/

/-- A storm drop counts, notes its time, and may raise STORM. -/
theorem State.stormDrop_eq (a : State) (p : Nat) : ∃ w d, ∃ quiet : Bool, ∃ u : State,
    ({ a.cnt p 21 1 with fab := { (a.cnt p 21 1).fab with windows := w, dropClk := d } } : State) = u
    ∧ a.stormDrop p = if quiet then u.raiseIrq Blk.FAB 3 else u := ⟨_, _, _, _, rfl, rfl⟩

theorem State.stormDrop_spec (a : State) (p : Nat) : (a.stormDrop p).num (Reg.FAB_PnCNTk p 21) = (a.num (Reg.FAB_PnCNTk p 21) + 1) % 2 ^ 32
    ∧ (a.stormDrop p).fab.queues = a.fab.queues ∧ (a.stormDrop p).fab.fdb = a.fab.fdb ∧ OnlyChanges [.regs, .out, .fab] a (a.stormDrop p) := by
  obtain ⟨w, d, quiet, u, hu, heq⟩ := a.stormDrop_eq p
  have h1 : (a.cnt p 21 1).num (Reg.FAB_PnCNTk p 21) = (a.num (Reg.FAB_PnCNTk p 21) + 1) % 2 ^ 32 := (a.cnt_num 21 21 1).trans (if_pos rfl)
  have h2 := a.cnt_onlyChanges p 21 1
  have hfab : (a.cnt p 21 1).fab = a.fab := h2.2.2 .fab (by simp)
  rw [heq]
  generalize a.cnt p 21 1 = b at *
  obtain ⟨u1, u2, u3, u4⟩ : u.regs = b.regs ∧ u.fab.queues = b.fab.queues ∧ u.fab.fdb = b.fab.fdb ∧ OnlyChanges [.fab] b u := by
    rw [← hu]
    exact ⟨rfl, rfl, rfl, by simp [onlyChanges_iff]⟩
  rw [hfab] at u2 u3
  have hnum : u.num (Reg.FAB_PnCNTk p 21) = (a.num (Reg.FAB_PnCNTk p 21) + 1) % 2 ^ 32 := (State.num_congr (State.reg_congr _ _ u1 _)).trans h1
  have hch : OnlyChanges [.regs, .out, .fab] a u := (h2.mono (by simp)).trans (u4.mono (by simp))
  cases quiet with
  | false => exact ⟨hnum, u2, u3, hch⟩
  | true =>
    have h5 := u.raiseIrq_onlyChanges Blk.FAB 3
    have hfab5 : (u.raiseIrq Blk.FAB 3).fab = u.fab := h5.2.2 .fab (by simp)
    have hout : Reg.FAB_PnCNTk p 21 ∉ irqRegs Blk.FAB := fun h =>
      counter_not_mem p 21 (List.mem_cons_of_mem _ (List.mem_cons_of_mem _ h))
    rw [if_pos rfl]
    exact ⟨(State.num_congr (State.raiseIrq_onlyRegs u Blk.FAB 3 _ hout)).trans hnum, by rw [hfab5, u2], by rw [hfab5, u3], hch.trans (h5.mono (by simp))⟩

/-- A broadcast frame beyond its port's rate is dropped (R445). -/
theorem portFrameRx_stormDrop {vid rate burst : Nat} (hup : s.Up) (hp : p < 50) (hlink : s.flag (Reg.FAB_PnSTAT p) 0 = true)
    (hhalf : s.flag (Reg.FAB_PnSTAT p) 3 = false) (hen : s.flag (Reg.FAB_PnCFG p) 0 = true) (hgood : s.goodFrame f = true)
    (hplain : s.plainSwitch = false) (hblock : s.flag (Reg.FAB_PnSTAT p) 4 = false) (hpause : f.etype ≠ 0x8808) (hmgmt : mgmtFrom f.etype p = none)
    (htag : f.tag = none) (hvid : fixVid (s.fld (Reg.FAB_PnCFG p) 16 12) = vid) (hvlan : s.vlanPass p vid f = true)
    (hbc : f.dst = bcast) (hsrc : s.fdbAt vid f.src = none) (hrate : s.fld (Reg.FAB_PnSTORM_BC p) 0 20 = rate) (hon : rate ≠ 0)
    (hburst : Nat.max 1 (s.fld (Reg.FAB_PnSTORM_BC p) 20 12) = burst) (htake : s.takeBucket (4 * p) rate burst 1 = none) :
    ∃ t, exec (.portFrameRx p f) s = .next t ∧ t.num (Reg.FAB_PnCNTk p 21) = (s.num (Reg.FAB_PnCNTk p 21) + 1) % 2 ^ 32
      ∧ t.fab.queues = s.fab.queues ∧ t.fab.fdb = s.fab.fdb ∧ OnlyChanges [.regs, .out, .fab] s t := by
  have hset := State.SameSettings.countRx s p f
  have hch := s.countRx_onlyChanges p f
  have hcnt : (s.countRx p f).num (Reg.FAB_PnCNTk p 21) = s.num (Reg.FAB_PnCNTk p 21) := State.countRx_num_high (by decide) f
  have hrun := fun t => exec_portFrameRx_good (t := t) (ps := [.regs, .out, .fab]) hup hp hlink hhalf hen hgood hpause
  simp only [State.sortRx, hmgmt] at hrun
  generalize s.countRx p f = a at *
  have hfab : a.fab = s.fab := hch.2.2 .fab (by simp)
  have hcfg : a.fld (Reg.FAB_PnCFG p) 16 12 = s.fld (Reg.FAB_PnCFG p) 16 12 := State.fld_congr (hset.port (off := 0x1C1000) hp (by decide) (by decide)) _ _
  have hmeter : a.reg (Reg.FAB_PnSTORM_BC p) = s.reg (Reg.FAB_PnSTORM_BC p) := hset.port (off := 0x1C1008) hp (by decide) (by decide)
  have hrate2 : a.fld (Reg.FAB_PnSTORM_BC p) 0 20 = rate := (State.fld_congr hmeter _ _).trans hrate
  have hburst2 : Nat.max 1 (a.fld (Reg.FAB_PnSTORM_BC p) 20 12) = burst := by rw [State.fld_congr hmeter, hburst]
  have htake2 : a.takeBucket (4 * p) rate burst 1 = none := by
    unfold State.takeBucket at htake ⊢
    rw [hfab, hch.2.1]
    simp only at htake ⊢
    split at htake
    · exact nomatch htake
    · next h => rw [if_neg h]
  have hstorm : a.stormPass p f ((a.fdbAt vid f.dst).isSome) = (false, a.stormDrop p) := by
    have hm : a.stormMeter p f ((a.fdbAt vid f.dst).isSome) = some (0, rate, burst) := by
      unfold State.stormMeter
      rw [if_pos hbc, hset.plainSwitch, hplain, ← hrate2, ← hburst2]
      rfl
    unfold State.stormPass
    rw [hm]
    refine (if_neg hon).trans ?_
    rw [Nat.add_zero, htake2]
  obtain ⟨h1, h2, h3, h4⟩ := a.stormDrop_spec p
  have hall : OnlyChanges [.regs, .out, .fab] s (a.stormDrop p) := (hch.mono (by simp)).trans h4
  refine ⟨_, hrun _ ?_ hall (by simp), by rw [h1, hcnt], by rw [h2, hfab], by rw [h3, hfab], hall⟩
  have hsrc2 : a.fdbAt vid f.src = none := by rw [State.fdbAt, hfab]; exact hsrc
  have hblock2 : a.flag (Reg.FAB_PnSTAT p) 4 = false :=
    (State.flag_congr _ _ _ 4 (hset.port (off := 0x1C1004) hp (by decide) (by decide))).trans hblock
  unfold State.rxData
  simp only [htag, hcfg, hvid, hblock2, hset.vlanPass hp, hvlan, hsrc2, hstorm, Bool.false_eq_true, if_false, Bool.not_true, or_self, Bool.not_false, if_true]

end

end Sys2Proof.Machine

/-! PROOFS. A frame leaves, entries age, and ports are blocked and enabled (R439, R443, R446, R469). -/

namespace Sys2Proof.Machine

-- One declaration after the other: the stacks of parallel elaboration would count against the memory limit of the check.
set_option Elab.async false

section
variable {s : State} {p : Nat}

/-! ### Transmission -/

theorem State.countTx_num (s : State) (p cls : Nat) (f : EthFrame) :
    (s.countTx p cls f).num (Reg.FAB_PnCNTk p 27) = (s.num (Reg.FAB_PnCNTk p 27) + 1) % 2 ^ 32 := by
  unfold State.countTx
  simp only
  split_ifs
  all_goals simp [State.cnt_num]

/-- The head of the highest class leaves (R443). -/
theorem frameTransmit_head {c : Nat} {q : QFrame} {rest : List QFrame} (hup : s.Up) (hnext : s.nextClass p = some c)
    (hqueue : s.fabQueue p c = q :: rest) (hop : q.op = none) (hptp : q.ptp = none) (hwake : tget (fun _ => 0) s.fab.wakeClk p ≤ s.clk) :
    ∃ t, exec (.frameTransmit p) s = .next t ∧ t.out.getLast? = some (.ethFrame p q.frame) ∧ t.fabQueue p c = rest
      ∧ t.num (Reg.FAB_PnCNTk p 27) = (s.num (Reg.FAB_PnCNTk p 27) + 1) % 2 ^ 32 ∧ OnlyChanges [.regs, .out, .fab] s t := by
  have hrun : ∀ a t, ((s.setQueue p c rest).countTx p c q.frame).emit (.ethFrame p q.frame) = a →
      ({ a with fab := { a.fab with idleClk := tput a.fab.idleClk p a.clk } } : State).noteBuf = t → OnlyChanges [.regs, .out, .fab] s t →
      exec (.frameTransmit p) s = .next t := fun a t ha ht hch => by
    rw [exec_frameTransmit, execFrameTransmit]
    refine State.powered_next hup ?_ hch (by simp)
    simp only [hnext, hqueue]
    rw [if_neg (by omega)]
    simp only [ha, hop, hptp]
    exact ht
  have h1 := s.setQueue_onlyChanges p c rest
  have hq : (s.setQueue p c rest).fabQueue p c = rest := by simp only [State.fabQueue, State.setQueue, tget_tset, if_true]
  have hn : (s.setQueue p c rest).num (Reg.FAB_PnCNTk p 27) = s.num (Reg.FAB_PnCNTk p 27) := rfl
  generalize s.setQueue p c rest = b at *
  have h2 := b.countTx_onlyChanges p c q.frame
  have hn2 := b.countTx_num p c q.frame
  generalize b.countTx p c q.frame = d at *
  have h3 := d.emit_onlyChanges (.ethFrame p q.frame)
  have hout : (d.emit (.ethFrame p q.frame)).out.getLast? = some (.ethFrame p q.frame) := by rw [State.emit_out]; simp
  have hn3 : (d.emit (.ethFrame p q.frame)).num (Reg.FAB_PnCNTk p 27) = d.num (Reg.FAB_PnCNTk p 27) := rfl
  have hq3 : (d.emit (.ethFrame p q.frame)).fab = b.fab := (h3.2.2 .fab (by simp)).trans (h2.2.2 .fab (by simp))
  generalize d.emit (.ethFrame p q.frame) = a at *
  obtain ⟨v, hv, v1, v2, v3⟩ : ∃ v, ({ a with fab := { a.fab with idleClk := tput a.fab.idleClk p a.clk } } : State) = v
      ∧ v.fab.queues = a.fab.queues ∧ v.regs = a.regs ∧ OnlyChanges [.fab] a v := ⟨_, rfl, rfl, rfl, by simp [onlyChanges_iff]⟩
  have h4 := v.noteBuf_onlyChanges
  have hbuf : OnlyRegs [Reg.FAB_BUF_USED] v v.noteBuf := (OnlyRegs.refl _ v).setFld.setFld
  have hfin : OnlyChanges [.regs, .fab] a v.noteBuf := (v3.mono (by simp)).trans (h4.mono (by simp))
  have hall : OnlyChanges [.regs, .out, .fab] s v.noteBuf :=
    (h1.mono (by simp)).trans ((h2.mono (by simp)).trans ((h3.mono (by simp)).trans (hfin.mono (by simp))))
  refine ⟨_, hrun a _ rfl (by rw [hv]) hall, ?_, ?_, ?_, hall⟩
  · rw [hfin.2.2 .out (by simp), hout]
  · rw [State.fabQueue, h4.2.2 .fab (by simp), v1, hq3]
    exact hq
  · rw [State.num_congr (hbuf _ (by simp only [List.mem_singleton, Reg.FAB_PnCNTk, Reg.FAB_BUF_USED]; omega)), State.num_congr (State.reg_congr _ _ v2 _),
      hn3, hn2, hn]

/-! ### Aging (R439) -/

theorem macAge_old {vid mac : Nat} {e : FdbEntry} (hup : s.Up) (he : s.fdbAt vid mac = some e) (hstatic : e.static = false)
    (hage : s.fld Reg.FAB_CFG 24 8 ≠ 0) (hold : e.clk + s.fld Reg.FAB_CFG 24 8 * 10 * secClk ≤ s.clk) :
    ∃ t, exec (.macAge vid mac) s = .next t ∧ t.fdbAt vid mac = none
        ∧ (∀ k, k ≠ fdbKey vid mac → tfind? t.fab.fdb k = tfind? s.fab.fdb k) ∧ OnlyChanges [.regs, .fab] s t
        ∧ OnlyRegs [Reg.FAB_FDB_USED] s t := by
  obtain ⟨h1, h2, h3⟩ := s.putFdb_spec (fdbKey vid mac) none
  refine ⟨_, ?_, h1, h2, h3, s.putFdb_onlyRegs _ _⟩
  rw [exec_macAge, execMacAge]
  refine State.powered_next hup ?_ h3 (by simp)
  simp only [he]
  rw [if_neg (by simp [hstatic, hage]; omega)]

theorem macAge_static {vid mac : Nat} {e : FdbEntry} (he : s.fdbAt vid mac = some e) (hstatic : e.static = true) :
    exec (.macAge vid mac) s = .next s := by
  rw [exec_macAge, execMacAge]
  refine State.powered_same ?_
  simp only [he]
  rw [if_pos (.inl hstatic)]

/-! ### Blocks (R446, R469) -/

theorem tget_of_tfind? {α : Type} {d : Nat → α} {t : Tbl α} {k : Nat} {v : α} (h : tfind? t k = some v) : tget d t k = v := by
  induction t with
  | nil => exact nomatch h
  | cons e r ih =>
    obtain ⟨j, w⟩ := e
    unfold tfind? at h
    unfold tget
    split at h
    · next hj => rw [if_pos hj, Option.some.inj h]
    · next hj => rw [if_neg hj, ih h]

/-- A mask that keeps a field leaves it as it was. -/
theorem bitsOf_and {x m lo w : Nat} (hm : bitsOf m lo w = 2 ^ w - 1) : bitsOf (x &&& m) lo w = bitsOf x lo w := by
  unfold bitsOf at hm ⊢
  rw [← Nat.shiftRight_eq_div_pow] at hm ⊢
  rw [Nat.shiftRight_and_distrib, Nat.and_mod_two_pow, hm, Nat.and_two_pow_sub_one_eq_mod, Nat.mod_mod, Nat.shiftRight_eq_div_pow]

/-- What a port's block shows: BLOCKED and its seconds in PnSTAT, its bit of FAB_BLOCKED, and since when it stands. -/
theorem State.setBlocked_spec (s : State) (p : Nat) (on : Bool) (n : Nat) : (s.setBlocked p on n).flag (Reg.FAB_PnSTAT p) 4 = on
    ∧ (s.setBlocked p on n).fld (Reg.FAB_PnSTAT p) 16 16 = n % 2 ^ 16
    ∧ (s.setBlocked p on n).flag (if p < 32 then Reg.FAB_BLOCKED_LO else Reg.FAB_BLOCKED_HI) (p % 32) = on
    ∧ OnlyChanges [.regs, .fab] s (s.setBlocked p on n)
    ∧ OnlyRegs [Reg.FAB_PnSTAT p, Reg.FAB_BLOCKED_LO, Reg.FAB_BLOCKED_HI] s (s.setBlocked p on n) := by
  generalize hshow : (if p < 32 then Reg.FAB_BLOCKED_LO else Reg.FAB_BLOCKED_HI) = off
  have hoff : off = Reg.FAB_BLOCKED_LO ∨ off = Reg.FAB_BLOCKED_HI := by
    rw [← hshow]
    split
    · exact .inl rfl
    · exact .inr rfl
  have hne : off ≠ Reg.FAB_PnSTAT p := by
    simp only [Reg.FAB_PnSTAT, Reg.FAB_BLOCKED_LO, Reg.FAB_BLOCKED_HI] at hoff ⊢
    omega
  unfold State.setBlocked
  simp only [hshow]
  have h1 := s.setFlag_flag_same (Reg.FAB_PnSTAT p) 4 on (by decide)
  have c1 := s.setFlag_onlyChanges (Reg.FAB_PnSTAT p) 4 on
  have r1 : OnlyRegs [Reg.FAB_PnSTAT p, Reg.FAB_BLOCKED_LO, Reg.FAB_BLOCKED_HI] s (s.setFlag (Reg.FAB_PnSTAT p) 4 on) := (OnlyRegs.refl _ s).setFlag
  generalize s.setFlag (Reg.FAB_PnSTAT p) 4 on = a at *
  have h2 : (a.setFld (Reg.FAB_PnSTAT p) 16 16 n).flag (Reg.FAB_PnSTAT p) 4 = on := by
    rw [← h1, State.flag, State.flag, a.setFld_fld_other _ 16 16 n 4 1 (by decide) (.inr (by decide))]
  have h3 := a.setFld_fld_same (Reg.FAB_PnSTAT p) 16 16 n (by decide)
  have c2 := a.setFld_onlyChanges (Reg.FAB_PnSTAT p) 16 16 n
  have r2 := r1.setFld (off := Reg.FAB_PnSTAT p) (lo := 16) (w := 16) (v := n)
  generalize a.setFld (Reg.FAB_PnSTAT p) 16 16 n = b at *
  have h4 := b.setFlag_flag_same off (p % 32) on (Nat.mod_lt _ (by decide))
  have h5 := b.setFlag_reg_other off (p % 32) (Reg.FAB_PnSTAT p) on hne
  have c3 := b.setFlag_onlyChanges off (p % 32) on
  have r3 := r2.setFlag (off := off) (i := p % 32) (b := on) (by simpa using Or.inr hoff)
  generalize b.setFlag off (p % 32) on = d at *
  obtain ⟨u, hu, u1, u2⟩ : ∃ u, ({ d with fab := { d.fab with
      windows := tdel d.fab.windows p, blockClk := if on then tput d.fab.blockClk p d.clk else tdel d.fab.blockClk p } } : State) = u
      ∧ u.regs = d.regs ∧ OnlyChanges [.fab] d u := ⟨_, rfl, rfl, by simp [onlyChanges_iff]⟩
  rw [hu]
  have hst : u.reg (Reg.FAB_PnSTAT p) = b.reg (Reg.FAB_PnSTAT p) := (State.reg_congr _ _ u1 _).trans h5
  exact ⟨(State.flag_congr _ _ _ _ hst).trans h2, (State.fld_congr hst _ _).trans h3, (State.flag_congr _ _ _ _ (State.reg_congr _ _ u1 _)).trans h4,
    (((c1.trans c2).trans c3).mono (by simp)).trans (u2.mono (by simp)), r3.trans (OnlyRegs.of_regs_eq u1)⟩

/-- HOLD windows with drops block the port (R446). -/
theorem portBlock_blocks {w run : Nat} (hup : s.Up) (hp : p < 50) (hplain : s.plainSwitch = false) (hact : s.flag (Reg.FAB_PnSTORM_ACT p) 0 = true)
    (hwin : tfind? s.fab.windows p = some (w, run)) (hrun : Nat.max 1 (s.fld (Reg.FAB_PnSTORM_ACT p) 8 8) ≤ run)
    (hlast : w < s.clk / (10 * msClk)) (hopen : s.flag (Reg.FAB_PnSTAT p) 4 = false) :
    ∃ t, exec (.portBlock p) s = .next t ∧ t.flag (Reg.FAB_PnSTAT p) 4 = true
        ∧ t.fld (Reg.FAB_PnSTAT p) 16 16 = s.fld (Reg.FAB_PnSTORM_ACT p) 16 16
        ∧ t.flag (if p < 32 then Reg.FAB_BLOCKED_LO else Reg.FAB_BLOCKED_HI) (p % 32) = true
        ∧ t.flag (Reg.IRQ_STAT Blk.FAB) 4 = true ∧ OnlyChanges [.regs, .out, .fab] s t := by
  obtain ⟨h1, h2, h3, h4, -⟩ := s.setBlocked_spec p true (s.fld (Reg.FAB_PnSTORM_ACT p) 16 16)
  have hexec : ∀ t, (s.setBlocked p true (s.fld (Reg.FAB_PnSTORM_ACT p) 16 16)).raiseIrq Blk.FAB 4 = t → OnlyChanges [.regs, .out, .fab] s t →
      exec (.portBlock p) s = .next t := fun t ht hch => by
    rw [exec_portBlock, execPortBlock]
    refine State.powered_next hup ?_ hch (by simp)
    have hget : tget (fun _ => (0, 0)) s.fab.windows p = (w, run) := tget_of_tfind? hwin
    simp only [hget, hplain, hact, hopen, ht]
    refine if_neg fun h => ?_
    rcases h with h | h | h | h | h | h
    · omega
    · exact nomatch h
    · exact nomatch h
    · exact absurd hrun (Nat.not_le.2 h)
    · omega
    · exact nomatch h
  generalize s.setBlocked p true (s.fld (Reg.FAB_PnSTORM_ACT p) 16 16) = a at *
  have hirq := State.raiseIrq_onlyRegs a Blk.FAB 4
  have hout : ∀ off, 0x1C0100 ≤ off → off ∉ irqRegs Blk.FAB := fun off h => by
    simp only [irqRegs, List.mem_cons, List.not_mem_nil, or_false, Reg.IRQ_STAT, Reg.MSIX_PBA, Blk.FAB]
    omega
  have hstat : (a.raiseIrq Blk.FAB 4).reg (Reg.FAB_PnSTAT p) = a.reg (Reg.FAB_PnSTAT p) := hirq _ (hout _ (by simp only [Reg.FAB_PnSTAT]; omega))
  have hall : OnlyChanges [.regs, .out, .fab] s (a.raiseIrq Blk.FAB 4) := (h4.mono (by simp)).trans ((a.raiseIrq_onlyChanges _ _).mono (by simp))
  refine ⟨_, hexec _ rfl hall, (State.flag_congr _ _ _ _ hstat).trans h1, ?_, (State.flag_congr _ _ _ _ ?_).trans h3,
    a.raiseIrq_flag_same _ _ (by decide), hall⟩
  · rw [State.fld_congr hstat, h2]
    exact Nat.mod_eq_of_lt (bitsOf_lt _ _ _)
  · refine hirq _ (hout _ ?_)
    split
    all_goals decide

/-- BLOCK_TIME ends a block (R446). -/
theorem portUnblock_due {c n : Nat} (hup : s.Up) (hsince : tfind? s.fab.blockClk p = some c) (hn : s.fld (Reg.FAB_PnSTAT p) 16 16 = n) (hn0 : n ≠ 0)
    (hdue : c + n * secClk ≤ s.clk) : ∃ t, exec (.portUnblock p) s = .next t ∧ t.flag (Reg.FAB_PnSTAT p) 4 = false
      ∧ t.fld (Reg.FAB_PnSTAT p) 16 16 = 0 ∧ OnlyChanges [.regs, .fab] s t := by
  obtain ⟨h1, h2, -, h4, -⟩ := s.setBlocked_spec p false 0
  refine ⟨_, ?_, h1, h2.trans (Nat.zero_mod _), h4⟩
  rw [exec_portUnblock, execPortUnblock]
  refine State.powered_next hup ?_ h4 (by simp)
  simp only [hsince, hn]
  rw [if_neg (by omega)]

/-- The port registers in the maps that a write goes through. -/
theorem portCfg_maps (hp : p < 50) : (regRow? (Reg.FAB_PnCFG p)).isSome ∧ regIdx Reg.FAB_PnCFG 50 (Reg.FAB_PnCFG p) = some p := by
  have table : ∀ k : Fin 50, (regRow? (Reg.FAB_PnCFG k)).isSome ∧ regIdx Reg.FAB_PnCFG 50 (Reg.FAB_PnCFG k) = some k.val := by decide
  exact table ⟨p, hp⟩

theorem State.takeWrite_portCfg {rq : Requester} (v : Word) (hp : p < 50) (hpass : s.Passes rq (Reg.FAB_PnCFG p)) :
    s.takeWrite rq (Reg.FAB_PnCFG p) v = s.writeFabPort p v := by
  obtain ⟨hrow, hidx⟩ := portCfg_maps hp
  obtain ⟨r, hr⟩ := Option.isSome_iff_exists.1 hrow
  have hpage : ¬ Reg.FAB_PnCFG p % 0x40000 < 0x100 := by simp only [Reg.FAB_PnCFG]; omega
  have hblock : Reg.FAB_PnCFG p / 0x40000 = 0x07 := by simp only [Reg.FAB_PnCFG]; omega
  have hother : Reg.FAB_PnCFG p ≠ Reg.FAB_PCP_MAP ∧ Reg.FAB_PnCFG p ≠ Reg.FAB_MDIO_CMD := by
    simp only [Reg.FAB_PnCFG, Reg.FAB_PCP_MAP, Reg.FAB_MDIO_CMD]; omega
  rw [s.takeWrite_of_passes rq _ v r hpass hr (by simp only [Reg.FAB_PnCFG, Reg.HIF_FENCE]; omega)]
  generalize Reg.FAB_PnCFG p = off at hpage hblock hidx hother
  simp only [State.writeReg, hpage, if_false, hblock, State.writeFab, hother.1, hother.2, hidx]

/-- What a port's configuration word keeps of a write (R469). -/
def cfgWord (p n : Nat) : Nat :=
  putBits (putBits (putBits n 2 2 (if bitsOf n 2 2 = 3 then 0 else bitsOf n 2 2)) 8 2 (if p < 48 ∨ bitsOf n 8 2 = 3 then 0 else bitsOf n 8 2)) 16 12
    (fixVid (bitsOf n 16 12)) &&& 0x7FFF031F

/-- A write to a port that was enabled: its settings are taken and a block ends. -/
theorem State.writeFabPort_enabled (v : Word) (hen : s.flag (Reg.FAB_PnCFG p) 0 = true) :
    s.writeFabPort p v = (s.setNum (Reg.FAB_PnCFG p) (cfgWord p v.toNat)).setBlocked p false 0 := by
  unfold State.writeFabPort
  simp only [hen]
  exact if_neg (by simp)

theorem cfgWord_en (p n : Nat) : bitOf (cfgWord p n) 0 = bitOf n 0 := by
  unfold bitOf cfgWord
  rw [bitsOf_and (by decide), bitsOf_putBits_other _ _ _ _ _ _ (.inr (by decide)), bitsOf_putBits_other _ _ _ _ _ _ (.inr (by decide)),
    bitsOf_putBits_other _ _ _ _ _ _ (.inr (by decide))]

theorem cfgWord_vid (p n : Nat) : bitsOf (cfgWord p n) 16 12 = fixVid (bitsOf n 16 12) := by
  unfold cfgWord
  rw [bitsOf_and (by decide), bitsOf_putBits_same]
  exact Nat.mod_eq_of_lt (lt_of_le_of_lt (fixVid_le (bitsOf_lt _ _ _)) (by decide))

theorem cfgWord_lt (p n : Nat) : cfgWord p n < 2 ^ 32 := lt_of_le_of_lt Nat.and_le_right (by decide)

/-- A write of EN takes the settings and ends a block (R469). -/
theorem fabPortEnWrite_enabled {rq : Requester} (v : Word) (hup : s.Up) (hp : p < 50) (hen : s.flag (Reg.FAB_PnCFG p) 0 = true)
    (hpass : s.Passes rq (Reg.FAB_PnCFG p)) : ∃ t, exec (.fabPortEnWrite rq p v) s = .next t
      ∧ t.flag (Reg.FAB_PnCFG p) 0 = bitOf v.toNat 0 ∧ t.flag (Reg.FAB_PnSTAT p) 4 = false
      ∧ t.fld (Reg.FAB_PnCFG p) 16 12 = fixVid (bitsOf v.toNat 16 12) ∧ OnlyChanges [.regs, .fab] s t := by
  have hw := State.writeFabPort_enabled v hen
  have hnum := (s.setNum_num_same (Reg.FAB_PnCFG p) (cfgWord p v.toNat)).trans (Nat.mod_eq_of_lt (cfgWord_lt p v.toNat))
  have c1 := s.setNum_onlyChanges (Reg.FAB_PnCFG p) (cfgWord p v.toNat)
  generalize s.setNum (Reg.FAB_PnCFG p) (cfgWord p v.toNat) = a at *
  obtain ⟨h1, -, -, h4, h5⟩ := a.setBlocked_spec p false 0
  have hcfg : (a.setBlocked p false 0).num (Reg.FAB_PnCFG p) = cfgWord p v.toNat := by
    rw [State.num_congr (h5 _ (by
      simp only [List.mem_cons, List.not_mem_nil, or_false, Reg.FAB_PnCFG, Reg.FAB_PnSTAT, Reg.FAB_BLOCKED_LO, Reg.FAB_BLOCKED_HI]; omega)), hnum]
  have hall : OnlyChanges [.regs, .fab] s (a.setBlocked p false 0) := (c1.mono (by simp)).trans h4
  refine ⟨_, ?_, ?_, h1, ?_, hall⟩
  · rw [exec_fabPortEnWrite, execFabPortEnWrite]
    refine State.powered_next hup ?_ hall (by simp)
    rw [if_neg (by omega), State.takeWrite_portCfg v hp hpass, hw]
  · unfold State.num at hcfg
    rw [State.flag, State.fld, hcfg]
    exact cfgWord_en p v.toNat
  · unfold State.num at hcfg
    rw [State.fld, hcfg, cfgWord_vid]

end

end Sys2Proof.Machine

/-! PROOFS. Links, Energy-Efficient Ethernet, LLDP and MDIO (R437, R449 to R451, R468). -/

namespace Sys2Proof.Machine

-- One declaration after the other: the stacks of parallel elaboration would count against the memory limit of the check.
set_option Elab.async false

section
variable {s : State} {p : Nat}

/-! ### What ends LPI, and the judgement of EEE -/

/-- The registers that the end of LPI may change (R450). -/
def lpiRegs (p : Nat) : List Nat := Reg.FAB_PnSTAT p :: Reg.FAB_PnCNTk p 36 :: countRegs

theorem State.endLpi_onlyRegs (s : State) (p : Nat) : OnlyRegs (lpiRegs p) s (s.endLpi p) := by
  have h1 : OnlyRegs (lpiRegs p) s (s.setFlag (Reg.FAB_PnSTAT p) 6 false) := (OnlyRegs.refl _ s).setFlag (by simp [lpiRegs])
  have h2 := (s.setFlag (Reg.FAB_PnSTAT p) 6 false).cnt_onlyRegs p 36 ((s.clk - tget (fun _ => 0) s.fab.lpiClk p) / 800)
  unfold State.endLpi
  simp only
  generalize (s.setFlag (Reg.FAB_PnSTAT p) 6 false).cnt p 36 ((s.clk - tget (fun _ => 0) s.fab.lpiClk p) / 800) = a at *
  split
  · exact OnlyRegs.refl _ s
  · exact (h1.trans (h2.mono (by simp [lpiRegs, countRegs]))).trans (OnlyRegs.of_regs_eq rfl)

theorem fabIrq_ne {off : Nat} (h : off ∈ [Reg.FAB_HALF_LO, Reg.FAB_HALF_HI]) : off ≠ Reg.IRQ_STAT Blk.FAB := by
  simp only [List.mem_cons, List.not_mem_nil, or_false, Reg.FAB_HALF_LO, Reg.FAB_HALF_HI] at h
  simp only [Reg.IRQ_STAT, Blk.FAB]
  omega

/-- A counter raises at most FAB's interrupt 2 (R449). -/
theorem State.cnt_irq (s : State) (p k n : Nat) {j : Nat} (hj : j ≠ 2) :
    (s.cnt p k n).flag (Reg.IRQ_STAT Blk.FAB) j = s.flag (Reg.IRQ_STAT Blk.FAB) j := by
  have h1 : (s.wrapInc (Reg.FAB_PnCNTk p k) n).flag (Reg.IRQ_STAT Blk.FAB) j = s.flag (Reg.IRQ_STAT Blk.FAB) j :=
    State.flag_congr _ _ _ _ (s.setNum_reg_other _ _ _ (by simp only [Reg.FAB_PnCNTk, Reg.IRQ_STAT, Blk.FAB]; omega))
  unfold State.cnt
  simp only
  generalize s.wrapInc (Reg.FAB_PnCNTk p k) n = a at *
  split
  · refine (State.raiseIrq_flag_other _ _ _ _ (by decide) hj.symm).trans (Eq.trans ?_ h1)
    refine State.setFlag_flag_reg _ _ _ _ _ _ (fabIrq_ne ?_)
    split
    all_goals simp
  · exact h1

theorem lpiRegs_stat (p k : Nat) : Reg.FAB_PnSTAT p ∉ Reg.FAB_PnCNTk p k :: countRegs := by
  simp only [List.mem_cons, mem_countRegs, Reg.FAB_PnSTAT, Reg.FAB_PnCNTk]
  omega

/-- The end of LPI on a port that is in it (R450). -/
theorem State.endLpi_ended (s : State) (p : Nat) (h : s.flag (Reg.FAB_PnSTAT p) 6 = true) : ∃ n u, (s.setFlag (Reg.FAB_PnSTAT p) 6 false).cnt p 36 n = u
    ∧ s.endLpi p = { u with fab := { u.fab with waitClk := tdel u.fab.waitClk p
                                                wakeClk := tput u.fab.wakeClk p (u.clk + u.fld (Reg.FAB_PnEEE_TW p) 0 16 * 80) } } := by
  refine ⟨(s.clk - tget (fun _ => 0) s.fab.lpiClk p) / 800, _, rfl, ?_⟩
  unfold State.endLpi
  rw [if_neg (by simp [h])]

/-- LPI ends: bit 6 of the port's status clears and the others stay; of FAB's interrupts only 2 may rise (R450). -/
theorem State.endLpi_spec (s : State) (p : Nat) : (s.endLpi p).flag (Reg.FAB_PnSTAT p) 6 = false
    ∧ (∀ lo w, lo + w ≤ 6 → (s.endLpi p).fld (Reg.FAB_PnSTAT p) lo w = s.fld (Reg.FAB_PnSTAT p) lo w)
    ∧ (∀ j, j ≠ 2 → (s.endLpi p).flag (Reg.IRQ_STAT Blk.FAB) j = s.flag (Reg.IRQ_STAT Blk.FAB) j)
    ∧ (s.endLpi p).fab.lldpClk = s.fab.lldpClk := by
  by_cases hlpi : s.flag (Reg.FAB_PnSTAT p) 6 = true
  · obtain ⟨n, u, hu, heq⟩ := s.endLpi_ended p hlpi
    have hflag := s.setFlag_flag_same (Reg.FAB_PnSTAT p) 6 false (by decide)
    have hfld : ∀ lo w, lo + w ≤ 6 → (s.setFlag (Reg.FAB_PnSTAT p) 6 false).fld (Reg.FAB_PnSTAT p) lo w = s.fld (Reg.FAB_PnSTAT p) lo w :=
      fun lo w h => s.setFld_fld_other (Reg.FAB_PnSTAT p) 6 1 _ lo w (by decide) (.inr h)
    have hirq : ∀ j, (s.setFlag (Reg.FAB_PnSTAT p) 6 false).flag (Reg.IRQ_STAT Blk.FAB) j = s.flag (Reg.IRQ_STAT Blk.FAB) j := fun j =>
      s.setFlag_flag_reg _ _ _ _ _ (by simp only [Reg.FAB_PnSTAT, Reg.IRQ_STAT, Blk.FAB]; omega)
    have hfab : (s.setFlag (Reg.FAB_PnSTAT p) 6 false).fab = s.fab := rfl
    generalize s.setFlag (Reg.FAB_PnSTAT p) 6 false = a at *
    have h1 : u.reg (Reg.FAB_PnSTAT p) = a.reg (Reg.FAB_PnSTAT p) := by
      rw [← hu]
      exact a.cnt_onlyRegs p 36 n _ (lpiRegs_stat p 36)
    have h2 : ∀ j, j ≠ 2 → u.flag (Reg.IRQ_STAT Blk.FAB) j = a.flag (Reg.IRQ_STAT Blk.FAB) j := fun j hj => by rw [← hu, a.cnt_irq p 36 n hj]
    have h3 : u.fab = a.fab := by
      rw [← hu]
      exact (a.cnt_onlyChanges p 36 n).2.2 .fab (by simp)
    obtain ⟨v, hv, v1, v2⟩ : ∃ v, s.endLpi p = v ∧ v.regs = u.regs ∧ v.fab.lldpClk = u.fab.lldpClk := ⟨_, heq, rfl, rfl⟩
    have hreg := State.reg_congr _ _ v1
    rw [hv]
    refine ⟨?_, fun lo w h => ?_, fun j hj => ?_, by rw [v2, h3, hfab]⟩
    · rw [State.flag_congr _ _ _ _ ((hreg _).trans h1), hflag]
    · rw [State.fld_congr ((hreg _).trans h1), hfld lo w h]
    · rw [State.flag_congr _ _ _ _ (hreg _), h2 j hj, hirq]
  · have heq : s.endLpi p = s := by
      unfold State.endLpi
      rw [if_pos (by simpa using hlpi)]
    rw [heq]
    exact ⟨by simpa using hlpi, fun _ _ _ => rfl, fun _ _ => rfl, rfl⟩

/-- The Tw that the partner asked for, as it counts (R451). -/
def State.twAsked (s : State) (p : Nat) : Nat :=
  if s.flag (Reg.FAB_PnEEE p) 1 ∧ (tfind? s.fab.lldpClk p).isSome then s.fld (Reg.FAB_PnEEE_TW p) 16 16 else 0

/-- EEE is judged: the Tw in use, and EEE active on a port whose link is up at most; bits 4 to 0 of the status stay (R450, R451). -/
theorem State.judgeEee_spec (s : State) (p : Nat) : (s.judgeEee p).fld (Reg.FAB_PnEEE_TW p) 0 16 = Nat.max (s.twSys p) (s.twAsked p)
    ∧ (s.judgeEee p).fld (Reg.FAB_PnEEE_TW p) 16 16 = s.fld (Reg.FAB_PnEEE_TW p) 16 16
    ∧ (s.flag (Reg.FAB_PnSTAT p) 0 = false → (s.judgeEee p).flag (Reg.FAB_PnSTAT p) 5 = false)
    ∧ (∀ lo w, lo + w ≤ 5 → (s.judgeEee p).fld (Reg.FAB_PnSTAT p) lo w = s.fld (Reg.FAB_PnSTAT p) lo w)
    ∧ (∀ j, j ≠ 2 → (s.judgeEee p).flag (Reg.IRQ_STAT Blk.FAB) j = s.flag (Reg.IRQ_STAT Blk.FAB) j)
    ∧ (s.judgeEee p).fab.lldpClk = s.fab.lldpClk ∧ OnlyChanges [.regs, .out, .fab] s (s.judgeEee p)
    ∧ OnlyRegs (Reg.FAB_PnEEE_TW p :: lpiRegs p) s (s.judgeEee p) := by
  have htw : Nat.max (s.twSys p) (s.twAsked p) < 2 ^ 16 := by
    have h1 : s.twSys p ≤ 300 := by
      unfold State.twSys
      split
      all_goals decide
    have h2 : s.twAsked p < 2 ^ 16 := by
      unfold State.twAsked
      split
      · exact bitsOf_lt _ _ _
      · decide
    exact Nat.max_lt.2 ⟨by omega, h2⟩
  obtain ⟨on, heq, hon⟩ : ∃ on : Bool, s.judgeEee p = (if on then
        (s.setFld (Reg.FAB_PnEEE_TW p) 0 16 (Nat.max (s.twSys p) (s.twAsked p))).setFlag (Reg.FAB_PnSTAT p) 5 on
      else ((s.setFld (Reg.FAB_PnEEE_TW p) 0 16 (Nat.max (s.twSys p) (s.twAsked p))).setFlag (Reg.FAB_PnSTAT p) 5 on).endLpi p)
      ∧ (s.flag (Reg.FAB_PnSTAT p) 0 = false → on = false) :=
    ⟨_, rfl, fun h => by simp [h]⟩
  have hne : Reg.FAB_PnEEE_TW p ≠ Reg.FAB_PnSTAT p := by simp only [Reg.FAB_PnEEE_TW, Reg.FAB_PnSTAT]; omega
  have hirq : Reg.FAB_PnEEE_TW p ≠ Reg.IRQ_STAT Blk.FAB ∧ Reg.FAB_PnSTAT p ≠ Reg.IRQ_STAT Blk.FAB := by
    simp only [Reg.FAB_PnEEE_TW, Reg.FAB_PnSTAT, Reg.IRQ_STAT, Blk.FAB]; omega
  have h1 := (s.setFld_fld_same (Reg.FAB_PnEEE_TW p) 0 16 (Nat.max (s.twSys p) (s.twAsked p)) (by decide)).trans (Nat.mod_eq_of_lt htw)
  have h2 := s.setFld_fld_other (Reg.FAB_PnEEE_TW p) 0 16 (Nat.max (s.twSys p) (s.twAsked p)) 16 16 (by decide) (.inl (by decide))
  have h3 : ∀ off, Reg.FAB_PnEEE_TW p ≠ off →
      (s.setFld (Reg.FAB_PnEEE_TW p) 0 16 (Nat.max (s.twSys p) (s.twAsked p))).reg off = s.reg off := fun off h => s.setFld_reg_other _ _ _ _ _ h
  have h4 := s.setFld_onlyChanges (Reg.FAB_PnEEE_TW p) 0 16 (Nat.max (s.twSys p) (s.twAsked p))
  have h5 : OnlyRegs (Reg.FAB_PnEEE_TW p :: lpiRegs p) s (s.setFld (Reg.FAB_PnEEE_TW p) 0 16 (Nat.max (s.twSys p) (s.twAsked p))) :=
    (OnlyRegs.refl _ s).setFld
  rw [heq]
  generalize s.setFld (Reg.FAB_PnEEE_TW p) 0 16 (Nat.max (s.twSys p) (s.twAsked p)) = a at *
  have g1 := a.setFlag_flag_same (Reg.FAB_PnSTAT p) 5 on (by decide)
  have g2 : ∀ lo w, lo + w ≤ 5 → (a.setFlag (Reg.FAB_PnSTAT p) 5 on).fld (Reg.FAB_PnSTAT p) lo w = a.fld (Reg.FAB_PnSTAT p) lo w :=
    fun lo w h => a.setFld_fld_other (Reg.FAB_PnSTAT p) 5 1 _ lo w (by decide) (.inr h)
  have g3 : ∀ off, Reg.FAB_PnSTAT p ≠ off → (a.setFlag (Reg.FAB_PnSTAT p) 5 on).reg off = a.reg off := fun off h => a.setFlag_reg_other _ _ _ _ h
  have g4 := h4.trans (a.setFlag_onlyChanges (Reg.FAB_PnSTAT p) 5 on)
  have g5 : OnlyRegs (Reg.FAB_PnEEE_TW p :: lpiRegs p) s (a.setFlag (Reg.FAB_PnSTAT p) 5 on) := h5.setFlag (by simp [lpiRegs])
  generalize a.setFlag (Reg.FAB_PnSTAT p) 5 on = b at *
  have hfab : b.fab = s.fab := g4.2.2 .fab (by simp)
  have hst : ∀ lo w, lo + w ≤ 5 → b.fld (Reg.FAB_PnSTAT p) lo w = s.fld (Reg.FAB_PnSTAT p) lo w := fun lo w h =>
    (g2 lo w h).trans (State.fld_congr (h3 _ hne) _ _)
  have hj : ∀ j, b.flag (Reg.IRQ_STAT Blk.FAB) j = s.flag (Reg.IRQ_STAT Blk.FAB) j := fun j =>
    State.flag_congr _ _ _ _ ((g3 _ hirq.2).trans (h3 _ hirq.1))
  have hw : ∀ lo w, b.fld (Reg.FAB_PnEEE_TW p) lo w = a.fld (Reg.FAB_PnEEE_TW p) lo w := fun lo w => State.fld_congr (g3 _ hne.symm) lo w
  cases on with
  | true =>
    rw [if_pos rfl]
    exact ⟨(hw 0 16).trans h1, (hw 16 16).trans h2, fun h => absurd (hon h) (by decide), hst, fun j _ => hj j, by rw [hfab], g4.mono (by simp), g5⟩
  | false =>
    rw [if_neg (by simp)]
    obtain ⟨-, e2, e3, e4⟩ := b.endLpi_spec p
    have e5 := b.endLpi_onlyRegs p
    have e6 := b.endLpi_onlyChanges p
    have hkeep : (b.endLpi p).reg (Reg.FAB_PnEEE_TW p) = b.reg (Reg.FAB_PnEEE_TW p) := e5 _ (by
      simp only [lpiRegs, List.mem_cons, mem_countRegs, Reg.FAB_PnEEE_TW, Reg.FAB_PnSTAT, Reg.FAB_PnCNTk]; omega)
    refine ⟨?_, ?_, fun _ => ?_, fun lo w h => ?_, fun j hne2 => ?_, by rw [e4, hfab], (g4.mono (by simp)).trans e6, g5.trans (e5.mono (by simp))⟩
    · rw [State.fld_congr hkeep, hw, h1]
    · rw [State.fld_congr hkeep, hw, h2]
    · exact (congrArg (· == 1) (e2 5 1 (by decide))).trans g1
    · rw [e2 lo w (by omega), hst lo w h]
    · rw [e3 j hne2, hj]

end

end Sys2Proof.Machine

/-! PROOFS. Links change, ports enter and leave LPI, LLDPDUs and MDIO transactions: forwarding and links, settled. -/

namespace Sys2Proof.Machine

-- One declaration after the other: the stacks of parallel elaboration would count against the memory limit of the check.
set_option Elab.async false

section
variable {s : State} {p : Nat}

/-! ### Links (R437, R449) -/

/-- The state of a link as LINK_CHANGE shows it, before it is judged (R437). -/
def State.showPortLink (s : State) (p : Nat) (up : Bool) (sp : Nat) : State :=
  (((s.setFlag (Reg.FAB_PnSTAT p) 0 up).setFld (Reg.FAB_PnSTAT p) 1 2 (if up then sp else 0)).setFlag (Reg.FAB_PnSTAT p) 3 false).setFlag
    (if p < 32 then Reg.FAB_LINK_LO else Reg.FAB_LINK_HI) (p % 32) up

theorem State.showPortLink_spec (s : State) (p : Nat) (up : Bool) (sp : Nat) : (s.showPortLink p up sp).flag (Reg.FAB_PnSTAT p) 0 = up
    ∧ (s.showPortLink p up sp).fld (Reg.FAB_PnSTAT p) 1 2 = (if up then sp else 0) % 4
    ∧ (s.showPortLink p up sp).flag (Reg.FAB_PnSTAT p) 3 = false
    ∧ (s.showPortLink p up sp).flag (if p < 32 then Reg.FAB_LINK_LO else Reg.FAB_LINK_HI) (p % 32) = up
    ∧ OnlyChanges [.regs] s (s.showPortLink p up sp)
    ∧ OnlyRegs [Reg.FAB_PnSTAT p, Reg.FAB_LINK_LO, Reg.FAB_LINK_HI] s (s.showPortLink p up sp) := by
  unfold State.showPortLink
  generalize hshow : (if p < 32 then Reg.FAB_LINK_LO else Reg.FAB_LINK_HI) = off
  generalize (if up then sp else 0) = n
  have hoff : off = Reg.FAB_LINK_LO ∨ off = Reg.FAB_LINK_HI := by
    rw [← hshow]
    split
    · exact .inl rfl
    · exact .inr rfl
  have hne : off ≠ Reg.FAB_PnSTAT p := by
    simp only [Reg.FAB_PnSTAT, Reg.FAB_LINK_LO, Reg.FAB_LINK_HI] at hoff ⊢
    omega
  have h1 := s.setFlag_flag_same (Reg.FAB_PnSTAT p) 0 up (by decide)
  have c1 := s.setFlag_onlyChanges (Reg.FAB_PnSTAT p) 0 up
  have r1 : OnlyRegs [Reg.FAB_PnSTAT p, Reg.FAB_LINK_LO, Reg.FAB_LINK_HI] s (s.setFlag (Reg.FAB_PnSTAT p) 0 up) := (OnlyRegs.refl _ s).setFlag
  generalize s.setFlag (Reg.FAB_PnSTAT p) 0 up = a at *
  have h2 : (a.setFld (Reg.FAB_PnSTAT p) 1 2 n).flag (Reg.FAB_PnSTAT p) 0 = up := by
    rw [← h1, State.flag, State.flag, a.setFld_fld_other _ 1 2 n 0 1 (by decide) (.inr (by decide))]
  have h3 := a.setFld_fld_same (Reg.FAB_PnSTAT p) 1 2 n (by decide)
  have c2 := a.setFld_onlyChanges (Reg.FAB_PnSTAT p) 1 2 n
  have r2 := r1.setFld (off := Reg.FAB_PnSTAT p) (lo := 1) (w := 2) (v := n)
  generalize a.setFld (Reg.FAB_PnSTAT p) 1 2 n = b at *
  have h4 := b.setFlag_flag_same (Reg.FAB_PnSTAT p) 3 false (by decide)
  have h5 := b.setFlag_flag_other (Reg.FAB_PnSTAT p) 3 0 false (by decide) (by decide)
  have h6 : (b.setFlag (Reg.FAB_PnSTAT p) 3 false).fld (Reg.FAB_PnSTAT p) 1 2 = b.fld (Reg.FAB_PnSTAT p) 1 2 :=
    b.setFld_fld_other _ 3 1 _ 1 2 (by decide) (.inr (by decide))
  have c3 := b.setFlag_onlyChanges (Reg.FAB_PnSTAT p) 3 false
  have r3 := r2.setFlag (off := Reg.FAB_PnSTAT p) (i := 3) (b := false)
  generalize b.setFlag (Reg.FAB_PnSTAT p) 3 false = d at *
  have h7 := d.setFlag_flag_same off (p % 32) up (Nat.mod_lt _ (by decide))
  have h8 := d.setFlag_reg_other off (p % 32) (Reg.FAB_PnSTAT p) up hne
  have c4 := d.setFlag_onlyChanges off (p % 32) up
  have r4 := r3.setFlag (off := off) (i := p % 32) (b := up) (by simpa using Or.inr hoff)
  exact ⟨(State.flag_congr _ _ _ _ h8).trans (h5.trans h2), (State.fld_congr h8 _ _).trans (h6.trans h3), (State.flag_congr _ _ _ _ h8).trans h4, h7,
    ((c1.trans c2).trans c3).trans c4, r4⟩

theorem fabPage_not_irq {off : Nat} (h : 0x1C0100 ≤ off) : off ∉ irqRegs Blk.FAB := by
  simp only [irqRegs, List.mem_cons, List.not_mem_nil, or_false, Reg.IRQ_STAT, Reg.MSIX_PBA, Blk.FAB]
  omega

/-- The end of every LINK_CHANGE: its interrupt, and the judgement of EEE. -/
theorem State.linkChanged_spec (a : State) (p : Nat) : ((a.raiseIrq Blk.FAB 1).judgeEee p).flag (Reg.IRQ_STAT Blk.FAB) 1 = true
    ∧ (∀ lo w, lo + w ≤ 5 → ((a.raiseIrq Blk.FAB 1).judgeEee p).fld (Reg.FAB_PnSTAT p) lo w = a.fld (Reg.FAB_PnSTAT p) lo w)
    ∧ (a.flag (Reg.FAB_PnSTAT p) 0 = false → ((a.raiseIrq Blk.FAB 1).judgeEee p).flag (Reg.FAB_PnSTAT p) 5 = false)
    ∧ (∀ off, 0x1C0100 ≤ off → off ∉ Reg.FAB_PnEEE_TW p :: lpiRegs p → ((a.raiseIrq Blk.FAB 1).judgeEee p).reg off = a.reg off)
    ∧ OnlyChanges [.regs, .out, .fab] a ((a.raiseIrq Blk.FAB 1).judgeEee p) := by
  have h1 := a.raiseIrq_flag_same Blk.FAB 1 (by decide)
  have h2 : ∀ off, 0x1C0100 ≤ off → (a.raiseIrq Blk.FAB 1).reg off = a.reg off := fun off h => a.raiseIrq_onlyRegs Blk.FAB 1 off (fabPage_not_irq h)
  have h3 := a.raiseIrq_onlyChanges Blk.FAB 1
  have hst := h2 (Reg.FAB_PnSTAT p) (by simp only [Reg.FAB_PnSTAT]; omega)
  generalize a.raiseIrq Blk.FAB 1 = b at *
  obtain ⟨-, -, g3, g4, g5, -, g7, g8⟩ := b.judgeEee_spec p
  exact ⟨(g5 1 (by decide)).trans h1, fun lo w h => (g4 lo w h).trans (State.fld_congr hst lo w),
    fun h => g3 ((State.flag_congr _ _ _ _ hst).trans h), fun off h hn => (g8 off hn).trans (h2 off h), (h3.mono (by simp)).trans g7⟩

theorem linkChange_up {sp : Nat} {eee : Bool} (hup : s.Up) (hp : p < 48) (hsp : sp < 4) (hwas : s.flag (Reg.FAB_PnSTAT p) 0 = false) :
    ∃ t, exec (.linkChange p true false sp eee) s = .next t
      ∧ t.flag (Reg.FAB_PnSTAT p) 0 = true ∧ t.fld (Reg.FAB_PnSTAT p) 1 2 = sp ∧ t.flag (Reg.FAB_PnSTAT p) 3 = false
      ∧ t.flag (if p < 32 then Reg.FAB_LINK_LO else Reg.FAB_LINK_HI) (p % 32) = true
      ∧ t.flag (Reg.IRQ_STAT Blk.FAB) 1 = true ∧ OnlyChanges [.regs, .out, .fab] s t := by
  obtain ⟨h1, h2, h3, h4, h5, h6⟩ := s.showPortLink_spec p true sp
  have hrun : ∀ a t, ({ s.showPortLink p true sp with fab := { (s.showPortLink p true sp).fab with
      eeeOk := if eee then (p :: (s.showPortLink p true sp).fab.eeeOk).eraseDups else (s.showPortLink p true sp).fab.eeeOk.filter (· != p)
      lldpClk := tdel (s.showPortLink p true sp).fab.lldpClk p } } : State) = a → (a.raiseIrq Blk.FAB 1).judgeEee p = t →
      OnlyChanges [.regs, .out, .fab] s t → exec (.linkChange p true false sp eee) s = .next t := fun a t ha ht hch => by
    rw [exec_linkChange, execLinkChange]
    refine State.powered_next hup ?_ hch (by simp)
    rw [if_neg (by omega), ← ht, ← ha]
    simp only [hwas, Bool.false_eq_true, false_and, if_false, true_and, and_false]
    rfl
  generalize s.showPortLink p true sp = b at *
  obtain ⟨a, ha, a1, a2⟩ : ∃ a, ({ b with fab := { b.fab with
      eeeOk := if eee then (p :: b.fab.eeeOk).eraseDups else b.fab.eeeOk.filter (· != p), lldpClk := tdel b.fab.lldpClk p } } : State) = a
      ∧ a.regs = b.regs ∧ OnlyChanges [.fab] b a := ⟨_, rfl, rfl, by simp [onlyChanges_iff]⟩
  have hreg := State.reg_congr _ _ a1
  obtain ⟨g1, g2, -, g4, g5⟩ := a.linkChanged_spec p
  have hall : OnlyChanges [.regs, .out, .fab] s ((a.raiseIrq Blk.FAB 1).judgeEee p) := (h5.mono (by simp)).trans ((a2.mono (by simp)).trans g5)
  have hlink : ∀ off, off = Reg.FAB_LINK_LO ∨ off = Reg.FAB_LINK_HI → ((a.raiseIrq Blk.FAB 1).judgeEee p).reg off = b.reg off := fun off h => by
    simp only [Reg.FAB_LINK_LO, Reg.FAB_LINK_HI] at h
    rw [g4 off (by omega) (by simp only [lpiRegs, List.mem_cons, mem_countRegs, Reg.FAB_PnEEE_TW, Reg.FAB_PnSTAT, Reg.FAB_PnCNTk]; omega), hreg]
  refine ⟨_, hrun a _ ha rfl hall, ?_, ?_, ?_, ?_, g1, hall⟩
  · rw [State.flag, g2 0 1 (by decide), State.fld_congr (hreg _)]
    exact h1
  · rw [g2 1 2 (by decide), State.fld_congr (hreg _), h2]
    exact Nat.mod_eq_of_lt hsp
  · rw [State.flag, g2 3 1 (by decide), State.fld_congr (hreg _)]
    exact h3
  · refine (State.flag_congr _ _ _ _ (hlink _ ?_)).trans h4
    split
    · exact .inl rfl
    · exact .inr rfl

/-- A port with nothing queued loses nothing with its link. -/
theorem State.flushPort_empty (h : s.fab.queues = []) (p : Nat) : OnlyChanges [.regs, .fab] s (s.flushPort p)
    ∧ OnlyRegs [Reg.FAB_BUF_USED] s (s.flushPort p) := by
  have hq : ∀ c, s.fabQueue p c = [] := fun c => by
    rw [State.fabQueue, h]
    rfl
  have heq : s.flushPort p = (s.forN 8 fun a c => a.setQueue p c []).noteBuf := by
    unfold State.flushPort
    have hops : ((List.range 8).map fun _ => ([] : List Nat)).flatten = [] := rfl
    have hzero : ∀ (a : State) (f : State → Nat → State), a.forN 0 f = a := fun _ _ => rfl
    simp only [hq, List.filterMap_nil, List.length_nil, hops, hzero, List.foldl_nil]
  have h1 : OnlyChanges [.fab] s (s.forN 8 fun a c => a.setQueue p c []) := State.forN_onlyChanges 8 fun a c => a.setQueue_onlyChanges p c []
  rw [heq]
  generalize (s.forN 8 fun a c => a.setQueue p c []) = a at *
  have h2 : OnlyRegs [Reg.FAB_BUF_USED] a a.noteBuf := (OnlyRegs.refl _ a).setFld.setFld
  exact ⟨(h1.mono (by simp)).trans (a.noteBuf_onlyChanges.mono (by simp)), (OnlyRegs.of_regs_eq (h1.2.2 .regs (by simp))).trans h2⟩

theorem linkChange_down {sp : Nat} {eee : Bool} (hup : s.Up) (hp : p < 48) (hwas : s.flag (Reg.FAB_PnSTAT p) 0 = true) (hq : s.fab.queues = []) :
    ∃ t, exec (.linkChange p false false sp eee) s = .next t
      ∧ t.flag (Reg.FAB_PnSTAT p) 0 = false ∧ t.fld (Reg.FAB_PnSTAT p) 1 2 = 0
      ∧ t.num (Reg.FAB_PnCNTk p 39) = (s.num (Reg.FAB_PnCNTk p 39) + 1) % 2 ^ 32 ∧ t.flag (Reg.FAB_PnSTAT p) 5 = false
      ∧ OnlyChanges [.regs, .out, .fab] s t := by
  obtain ⟨h1, h2, -, -, h5, h6⟩ := s.showPortLink_spec p false sp
  have hrun : ∀ a t, ({ s.showPortLink p false sp with fab := { (s.showPortLink p false sp).fab with
      eeeOk := (s.showPortLink p false sp).fab.eeeOk.filter (· != p)
      lldpClk := tdel (s.showPortLink p false sp).fab.lldpClk p } } : State) = a → (((a.cnt p 39 1).flushPort p).raiseIrq Blk.FAB 1).judgeEee p = t →
      OnlyChanges [.regs, .out, .fab] s t → exec (.linkChange p false false sp eee) s = .next t := fun a t ha ht hch => by
    rw [exec_linkChange, execLinkChange]
    refine State.powered_next hup ?_ hch (by simp)
    rw [if_neg (by omega), ← ht, ← ha]
    simp only [hwas, Bool.false_eq_true, false_and, if_false, Bool.not_false, and_self, if_true]
    rfl
  have hcnt0 : (s.showPortLink p false sp).num (Reg.FAB_PnCNTk p 39) = s.num (Reg.FAB_PnCNTk p 39) := State.num_congr (h6 _ (by
    simp only [List.mem_cons, List.not_mem_nil, or_false, Reg.FAB_PnCNTk, Reg.FAB_PnSTAT, Reg.FAB_LINK_LO, Reg.FAB_LINK_HI]; omega))
  generalize s.showPortLink p false sp = b at *
  have hqb : b.fab.queues = [] := by rw [h5.2.2 .fab (by simp), hq]
  obtain ⟨a, ha, a1, a2, a3⟩ : ∃ a, ({ b with fab := { b.fab with eeeOk := b.fab.eeeOk.filter (· != p), lldpClk := tdel b.fab.lldpClk p } } : State) = a
      ∧ a.regs = b.regs ∧ a.fab.queues = b.fab.queues ∧ OnlyChanges [.fab] b a := ⟨_, rfl, rfl, rfl, by simp [onlyChanges_iff]⟩
  have hcnt := a.cnt_num 39 39 1 (p := p)
  have hst : (a.cnt p 39 1).reg (Reg.FAB_PnSTAT p) = b.reg (Reg.FAB_PnSTAT p) :=
    (a.cnt_onlyRegs p 39 1 _ (lpiRegs_stat p 39)).trans (State.reg_congr _ _ a1 _)
  have hc1 := a.cnt_onlyChanges p 39 1
  rw [if_pos rfl, State.num_congr (State.reg_congr _ _ a1 _), hcnt0] at hcnt
  have hexec := hrun a _ ha rfl
  generalize a.cnt p 39 1 = d at *
  obtain ⟨f1, f2⟩ := State.flushPort_empty (s := d) (by rw [hc1.2.2 .fab (by simp), a2, hqb]) p
  generalize d.flushPort p = e at *
  have hste : e.reg (Reg.FAB_PnSTAT p) = b.reg (Reg.FAB_PnSTAT p) :=
    (f2 _ (by simp only [List.mem_singleton, Reg.FAB_PnSTAT, Reg.FAB_BUF_USED]; omega)).trans hst
  obtain ⟨-, g2, g3, g4, g5⟩ := e.linkChanged_spec p
  have hall : OnlyChanges [.regs, .out, .fab] s ((e.raiseIrq Blk.FAB 1).judgeEee p) :=
    (h5.mono (by simp)).trans ((a3.mono (by simp)).trans ((hc1.mono (by simp)).trans ((f1.mono (by simp)).trans g5)))
  refine ⟨_, hexec hall, ?_, ?_, ?_, ?_, hall⟩
  · rw [State.flag, g2 0 1 (by decide), State.fld_congr hste]
    exact h1
  · rw [g2 1 2 (by decide), State.fld_congr hste, h2]
    rfl
  · rw [State.num_congr (g4 _ (by simp only [Reg.FAB_PnCNTk]; omega)
      (by simp only [lpiRegs, List.mem_cons, mem_countRegs, Reg.FAB_PnEEE_TW, Reg.FAB_PnSTAT, Reg.FAB_PnCNTk]; omega)),
      State.num_congr (f2 _ (by simp only [List.mem_singleton, Reg.FAB_PnCNTk, Reg.FAB_BUF_USED]; omega)), hcnt]
  · exact g3 ((State.flag_congr _ _ _ _ hste).trans h1)

/-- An uplink without a link tries the other mode every 500 ms (R437). -/
theorem uplinkModeTry_due {u m c : Nat} (hup : s.Up) (hu : u = 48 ∨ u = 49) (hlink : s.flag (Reg.FAB_PnSTAT u) 0 = false)
    (hmode : s.fld (Reg.FAB_PnCFG u) 8 2 = 0) (hpcs : tfind? s.fab.pcs u = some (m, c)) (hdue : c + 500 * msClk ≤ s.clk) :
    exec (.uplinkModeTry u) s = .next { s with fab := { s.fab with pcs := tput s.fab.pcs u (3 - m, s.clk) } } := by
  rw [exec_uplinkModeTry, execUplinkModeTry]
  refine State.powered_next (ps := [.fab]) hup ?_ (by simp [onlyChanges_iff]) (by simp)
  have hget : tget (fun _ => (1, 0)) s.fab.pcs u = (m, c) := tget_of_tfind? hpcs
  simp only [hget]
  refine if_neg fun h => ?_
  rcases h with h | h | h | h | h
  · omega
  · omega
  · simp [hlink] at h
  · exact h hmode
  · omega

/-! ### LPI (R450) -/

theorem lpiEnter_idle (hup : s.Up) (hp : p < 48) (hactive : s.flag (Reg.FAB_PnSTAT p) 5 = true) (hout : s.flag (Reg.FAB_PnSTAT p) 6 = false)
    (hempty : ∀ c, c < 8 → s.fabQueue p c = [])
    (hidle : tget (fun _ => 0) s.fab.idleClk p + s.fld (Reg.FAB_PnEEE p) 8 8 * 800 ≤ s.clk) (halone : s.Alone) :
    ∃ t, exec (.lpiEnter p) s = .next t
        ∧ t.flag (Reg.FAB_PnSTAT p) 6 = true ∧ t.num (Reg.FAB_PnCNTk p 35) = (s.num (Reg.FAB_PnCNTk p 35) + 1) % 2 ^ 32
        ∧ tfind? t.fab.lpiClk p = some s.clk ∧ OnlyChanges [.regs, .out, .fab] s t := by
  have hall : ((List.range 8).all fun c => s.fabQueue p c == []) = true := List.all_eq_true.2 fun c hc => by
    rw [hempty c (List.mem_range.1 hc)]
    rfl
  have hrun : ∀ a t, (s.setFlag (Reg.FAB_PnSTAT p) 6 true).cnt p 35 1 = a →
      ({ a with fab := { a.fab with lpiClk := tput a.fab.lpiClk p a.clk, waitClk := tdel a.fab.waitClk p } } : State) = t →
      OnlyChanges [.regs, .out, .fab] s t → exec (.lpiEnter p) s = .next t := fun a t ha ht hch => by
    rw [exec_lpiEnter, execLpiEnter]
    refine State.powered_next hup ?_ hch (by simp)
    simp only [hall, hactive, hout]
    rw [if_neg (by simp; omega), State.yielding_of_alone halone, ha]
    exact ht
  have h1 := s.setFlag_flag_same (Reg.FAB_PnSTAT p) 6 true (by decide)
  have h2 : (s.setFlag (Reg.FAB_PnSTAT p) 6 true).num (Reg.FAB_PnCNTk p 35) = s.num (Reg.FAB_PnCNTk p 35) :=
    State.num_congr (s.setFlag_reg_other _ _ _ _ (by simp only [Reg.FAB_PnCNTk, Reg.FAB_PnSTAT]; omega))
  have h3 := s.setFlag_onlyChanges (Reg.FAB_PnSTAT p) 6 true
  generalize s.setFlag (Reg.FAB_PnSTAT p) 6 true = b at *
  have g1 := (b.cnt_num 35 35 1 (p := p)).trans (if_pos rfl)
  have g2 := b.cnt_onlyRegs p 35 1 _ (lpiRegs_stat p 35)
  have g3 := h3.mono (qs := [.regs, .out]) (by simp) |>.trans (b.cnt_onlyChanges p 35 1)
  generalize b.cnt p 35 1 = a at *
  obtain ⟨t, ht, t1, t2, t3⟩ : ∃ t, ({ a with fab := { a.fab with lpiClk := tput a.fab.lpiClk p a.clk, waitClk := tdel a.fab.waitClk p } } : State) = t
      ∧ t.regs = a.regs ∧ tfind? t.fab.lpiClk p = some a.clk ∧ OnlyChanges [.fab] a t :=
    ⟨_, rfl, rfl, (tfind?_tput _ _ _ _).trans (if_pos rfl), by simp [onlyChanges_iff]⟩
  have hch : OnlyChanges [.regs, .out, .fab] s t := (g3.mono (by simp)).trans (t3.mono (by simp))
  have hreg := State.reg_congr _ _ t1
  refine ⟨t, hrun a t rfl ht hch, ?_, ?_, by rw [t2, g3.2.1], hch⟩
  · rw [State.flag_congr _ _ _ _ ((hreg _).trans g2), h1]
  · rw [State.num_congr (hreg _), g1, h2]

theorem lpiHoldoffEnd_due {c : Nat} (hup : s.Up) (hp : p < 48) (hwait : tfind? s.fab.waitClk p = some c)
    (hdue : c + s.fld (Reg.FAB_PnEEE p) 16 8 * 800 ≤ s.clk) (hlpi : s.flag (Reg.FAB_PnSTAT p) 6 = true) :
    ∃ t, exec (.lpiHoldoffEnd p) s = .next t ∧ t.flag (Reg.FAB_PnSTAT p) 6 = false ∧ tfind? t.fab.waitClk p = none
        ∧ tfind? t.fab.wakeClk p = some (s.clk + s.fld (Reg.FAB_PnEEE_TW p) 0 16 * 80) ∧ OnlyChanges [.regs, .out, .fab] s t := by
  have hch := s.endLpi_onlyChanges p
  obtain ⟨h1, -⟩ := s.endLpi_spec p
  have hexec : exec (.lpiHoldoffEnd p) s = .next (s.endLpi p) := by
    rw [exec_lpiHoldoffEnd, execLpiHoldoffEnd]
    refine State.powered_next hup ?_ hch (by simp)
    simp only [hwait]
    rw [if_neg (by omega)]
  obtain ⟨n, u, hu, heq⟩ := s.endLpi_ended p hlpi
  have hclk : u.clk = s.clk := by
    rw [← hu]
    exact (State.cnt_onlyChanges _ p 36 n).2.1
  have htw : u.fld (Reg.FAB_PnEEE_TW p) 0 16 = s.fld (Reg.FAB_PnEEE_TW p) 0 16 := by
    rw [← hu, State.fld_congr (State.cnt_reg_of_uncounted (uncounted_port (off := 0x1C1020) (by omega) (by decide) (by decide)) (by decide) n),
      State.fld_congr (s.setFlag_reg_other _ _ _ _ (by simp only [Reg.FAB_PnSTAT]; omega))]
  refine ⟨_, hexec, h1, ?_, ?_, hch⟩
  · rw [heq]
    exact (tfind?_tdel _ _ _).trans (if_pos rfl)
  · rw [heq, ← hclk, ← htw]
    exact (tfind?_tput _ _ _ _).trans (if_pos rfl)

/-! ### LLDP (R451) -/

theorem State.lldpFrame_len (s : State) (p tw : Nat) : (s.lldpFrame p tw).len = 64 := by
  simp [State.lldpFrame, internalFrame, beBytes_len]

theorem lldpTx_first {tw : Nat} (hup : s.Up) (hp : p < 48) (hen : s.flag (Reg.FAB_PnEEE p) 1 = true) (hpass : s.portPasses p true = true)
    (hq : s.fab.queues = []) (htw : (s.fld (Reg.FAB_PnEEE_TW p) 0 16 + 9) / 10 = tw) (hsent : tfind? s.fab.lldpSent p = none) :
    ∃ t, exec (.lldpTx p) s = .next t ∧ tfind? t.fab.lldpSent p = some (s.clk, tw)
        ∧ t.fab.queues = [(8 * p + 6, [⟨s.fab.nextId, s.lldpFrame p tw, 54, false, none, none⟩])]
        ∧ OnlyChanges [.regs, .fab] s t := by
  have hlink : s.flag (Reg.FAB_PnSTAT p) 0 = true := by
    simp only [State.portPasses, Bool.and_eq_true] at hpass
    exact hpass.1.1.1
  have hlen := s.lldpFrame_len p tw
  obtain ⟨a, ha, a1, a2, a3, a4⟩ : ∃ a, ({ s with fab := { s.fab with lldpSent := tput s.fab.lldpSent p (s.clk, tw) } } : State) = a
      ∧ a.fab = { s.fab with lldpSent := tput s.fab.lldpSent p (s.clk, tw) } ∧ a.portPasses p true = true ∧ a.fab.queues = [] ∧ OnlyChanges [.fab] s a :=
    ⟨_, rfl, rfl, hpass, hq, by simp [onlyChanges_iff]⟩
  generalize hf : s.lldpFrame p tw = f at *
  obtain ⟨t, i, w, ht, hfab, hch, -⟩ := State.forward_queued (s := a) (f := f) (ingress := 54) (vid := 0) (pcp := 0) (c := 6) (keep := true)
    (r := false) (op := none) (ptp := none) (by decide) a3 a2 (by omega)
  have hkeep : a.retag p 0 0 true f = f := if_pos (.inl rfl)
  have hall : OnlyChanges [.regs, .fab] s t := (a4.mono (by simp)).trans hch
  refine ⟨t, ?_, ?_, by rw [hfab, a1, hkeep], hall⟩
  · rw [exec_lldpTx, execLldpTx]
    refine State.powered_next hup ?_ hall (by simp)
    simp only [htw, hsent, hen, hlink, ha, hf, ht]
    rw [if_neg (by simp; omega)]
  · rw [hfab, a1]
    exact (tfind?_tput _ _ _ _).trans (if_pos rfl)

theorem lldpTx_early {c tw : Nat} (htw : (s.fld (Reg.FAB_PnEEE_TW p) 0 16 + 9) / 10 = tw) (hsent : tfind? s.fab.lldpSent p = some (c, tw))
    (hearly : s.clk < c + 30 * secClk) : exec (.lldpTx p) s = .next s := by
  rw [exec_lldpTx, execLldpTx]
  refine State.powered_same ?_
  simp only [htw, hsent]
  rw [if_pos (by simp; omega)]

/-- The partner's Tw (R451). -/
theorem lldpRx_taken {tx rx : Nat} (hup : s.Up) (hp : p < 48) (hen : s.flag (Reg.FAB_PnEEE p) 1 = true) :
    ∃ t, exec (.lldpRx p tx rx) s = .next t
      ∧ t.fld (Reg.FAB_PnEEE_TW p) 16 16 = Nat.min 65535 (10 * rx)
      ∧ t.fld (Reg.FAB_PnEEE_TW p) 0 16 = Nat.max (s.twSys p) (Nat.min 65535 (10 * rx)) ∧ tfind? t.fab.lldpClk p = some s.clk
      ∧ OnlyChanges [.regs, .out, .fab] s t := by
  have hrun : ∀ a t, ({ s.setFld (Reg.FAB_PnEEE_TW p) 16 16 (Nat.min 65535 (10 * rx)) with fab :=
      { (s.setFld (Reg.FAB_PnEEE_TW p) 16 16 (Nat.min 65535 (10 * rx))).fab with
        lldpClk := tput (s.setFld (Reg.FAB_PnEEE_TW p) 16 16 (Nat.min 65535 (10 * rx))).fab.lldpClk p
          (s.setFld (Reg.FAB_PnEEE_TW p) 16 16 (Nat.min 65535 (10 * rx))).clk } } : State) = a → a.judgeEee p = t →
      OnlyChanges [.regs, .out, .fab] s t → exec (.lldpRx p tx rx) s = .next t := fun a t ha ht hch => by
    rw [exec_lldpRx, execLldpRx]
    refine State.powered_next hup ?_ hch (by simp)
    rw [if_neg (by simp [hen]; omega), ← ht, ← ha]
  have hmin : Nat.min 65535 (10 * rx) < 2 ^ 16 := lt_of_le_of_lt (Nat.min_le_left _ _) (by decide)
  have h1 := (s.setFld_fld_same (Reg.FAB_PnEEE_TW p) 16 16 (Nat.min 65535 (10 * rx)) (by decide)).trans (Nat.mod_eq_of_lt hmin)
  have h2 : ∀ off, Reg.FAB_PnEEE_TW p ≠ off → (s.setFld (Reg.FAB_PnEEE_TW p) 16 16 (Nat.min 65535 (10 * rx))).reg off = s.reg off :=
    fun off h => s.setFld_reg_other _ _ _ _ _ h
  have h3 := s.setFld_onlyChanges (Reg.FAB_PnEEE_TW p) 16 16 (Nat.min 65535 (10 * rx))
  generalize s.setFld (Reg.FAB_PnEEE_TW p) 16 16 (Nat.min 65535 (10 * rx)) = b at *
  obtain ⟨a, ha, a1, a2, a3⟩ : ∃ a, ({ b with fab := { b.fab with lldpClk := tput b.fab.lldpClk p b.clk } } : State) = a ∧ a.regs = b.regs
      ∧ tfind? a.fab.lldpClk p = some b.clk ∧ OnlyChanges [.fab] b a :=
    ⟨_, rfl, rfl, (tfind?_tput _ _ _ _).trans (if_pos rfl), by simp [onlyChanges_iff]⟩
  have hreg := State.reg_congr _ _ a1
  obtain ⟨g1, g2, -, -, -, g6, g7, -⟩ := a.judgeEee_spec p
  have hall : OnlyChanges [.regs, .out, .fab] s (a.judgeEee p) := (h3.mono (by simp)).trans ((a3.mono (by simp)).trans g7)
  have htw : a.fld (Reg.FAB_PnEEE_TW p) 16 16 = Nat.min 65535 (10 * rx) := by rw [State.fld_congr (hreg _), h1]
  have hasked : a.twAsked p = Nat.min 65535 (10 * rx) := by
    have hflag : a.flag (Reg.FAB_PnEEE p) 1 = true :=
      (State.flag_congr _ _ _ _ ((hreg _).trans (h2 _ (by simp only [Reg.FAB_PnEEE_TW, Reg.FAB_PnEEE]; omega)))).trans hen
    rw [State.twAsked, if_pos ⟨hflag, by rw [a2]; rfl⟩, htw]
  have hsys : a.twSys p = s.twSys p := by
    rw [State.twSys, State.twSys, State.fld_congr ((hreg _).trans (h2 _ (by simp only [Reg.FAB_PnEEE_TW, Reg.FAB_PnSTAT]; omega)))]
  exact ⟨_, hrun a _ ha rfl hall, by rw [g2, htw], by rw [g1, hasked, hsys], by rw [g6, a2, h3.2.1], hall⟩

/-- 120 s without an LLDPDU (R451). -/
theorem lldpTimeout_due {c : Nat} (hup : s.Up) (hclk : tfind? s.fab.lldpClk p = some c) (hdue : c + 120 * secClk ≤ s.clk) :
    ∃ t, exec (.lldpTimeout p) s = .next t
      ∧ t.fld (Reg.FAB_PnEEE_TW p) 0 16 = s.twSys p ∧ tfind? t.fab.lldpClk p = none ∧ OnlyChanges [.regs, .out, .fab] s t := by
  obtain ⟨a, ha, a1, a2, a3⟩ : ∃ a, ({ s with fab := { s.fab with lldpClk := tdel s.fab.lldpClk p } } : State) = a ∧ a.regs = s.regs
      ∧ tfind? a.fab.lldpClk p = none ∧ OnlyChanges [.fab] s a :=
    ⟨_, rfl, rfl, (tfind?_tdel _ _ _).trans (if_pos rfl), by simp [onlyChanges_iff]⟩
  obtain ⟨g1, -, -, -, -, g6, g7, -⟩ := a.judgeEee_spec p
  have hall : OnlyChanges [.regs, .out, .fab] s (a.judgeEee p) := (a3.mono (by simp)).trans g7
  have hasked : a.twAsked p = 0 := if_neg (by simp [a2])
  have hsys : a.twSys p = s.twSys p := by rw [State.twSys, State.twSys, State.fld_congr (State.reg_congr _ _ a1 _)]
  refine ⟨_, ?_, by rw [g1, hasked, hsys]; exact Nat.max_eq_left (Nat.zero_le _), by rw [g6, a2], hall⟩
  rw [exec_lldpTimeout, execLldpTimeout]
  refine State.powered_next hup ?_ hall (by simp)
  simp only [hclk]
  rw [if_neg (by omega), ha]

/-! ### MDIO (R468) -/

theorem State.takeWrite_mdio {rq : Requester} (v : Word) (hpass : s.Passes rq Reg.FAB_MDIO_CMD) :
    s.takeWrite rq Reg.FAB_MDIO_CMD v = s.writeMdio v := by
  obtain ⟨r, hr⟩ := Option.isSome_iff_exists.1 (show (regRow? Reg.FAB_MDIO_CMD).isSome by decide)
  rw [s.takeWrite_of_passes rq _ v r hpass hr (by decide)]
  rfl

theorem mdioCmd_starts {rq : Requester} {v : Word} (hup : s.Up) (hpass : s.Passes rq Reg.FAB_MDIO_CMD)
    (hidle : s.flag Reg.FAB_MDIO_DATA 16 = false) (hop : bitsOf v.toNat 10 3 < 5) :
    ∃ t, exec (.mdioCmd rq v) s = .next t ∧ t.out = s.out ++ [.mdio v.toNat] ∧ t.flag Reg.FAB_MDIO_DATA 16 = true
        ∧ t.num Reg.FAB_MDIO_CMD = v.toNat &&& 0xFFFF1FFF ∧ OnlyChanges [.regs, .out] s t
        ∧ OnlyRegs [Reg.FAB_MDIO_CMD, Reg.FAB_MDIO_DATA] s t := by
  have hrun : ∀ t, ((s.setNum Reg.FAB_MDIO_CMD (v.toNat &&& 0xFFFF1FFF)).setFlag Reg.FAB_MDIO_DATA 16 true).emit (.mdio v.toNat) = t →
      OnlyChanges [.regs, .out] s t → exec (.mdioCmd rq v) s = .next t := fun t ht hch => by
    rw [exec_mdioCmd, execMdioCmd]
    refine State.powered_next hup ?_ hch (by simp)
    rw [State.takeWrite_mdio v hpass, State.writeMdio, if_neg (by simp [hidle]), if_neg (by omega), ht]
  have hlt : v.toNat &&& 0xFFFF1FFF < 2 ^ 32 := lt_of_le_of_lt Nat.and_le_right (by decide)
  have h1 := (s.setNum_num_same Reg.FAB_MDIO_CMD (v.toNat &&& 0xFFFF1FFF)).trans (Nat.mod_eq_of_lt hlt)
  have h2 := s.setNum_onlyChanges Reg.FAB_MDIO_CMD (v.toNat &&& 0xFFFF1FFF)
  have h3 : OnlyRegs [Reg.FAB_MDIO_CMD, Reg.FAB_MDIO_DATA] s (s.setNum Reg.FAB_MDIO_CMD (v.toNat &&& 0xFFFF1FFF)) := (OnlyRegs.refl _ s).setNum
  generalize s.setNum Reg.FAB_MDIO_CMD (v.toNat &&& 0xFFFF1FFF) = a at *
  have g1 := a.setFlag_flag_same Reg.FAB_MDIO_DATA 16 true (by decide)
  have g2 := a.setFlag_reg_other Reg.FAB_MDIO_DATA 16 Reg.FAB_MDIO_CMD true (by decide)
  have g3 := h2.trans (a.setFlag_onlyChanges Reg.FAB_MDIO_DATA 16 true)
  have g4 := h3.setFlag (off := Reg.FAB_MDIO_DATA) (i := 16) (b := true)
  generalize a.setFlag Reg.FAB_MDIO_DATA 16 true = b at *
  have hall : OnlyChanges [.regs, .out] s (b.emit (.mdio v.toNat)) := (g3.mono (by simp)).trans ((b.emit_onlyChanges _).mono (by simp))
  have hreg := State.reg_congr b (b.emit (.mdio v.toNat)) rfl
  refine ⟨_, hrun _ rfl hall, by rw [State.emit_out, g3.2.2 .out (by simp)], (State.flag_congr _ _ _ _ (hreg _)).trans g1, ?_, hall, g4.emit⟩
  exact (State.num_congr ((hreg _).trans g2)).trans h1

theorem mdioCmd_busy {rq : Requester} {v : Word} (hup : s.Up) (hpass : s.Passes rq Reg.FAB_MDIO_CMD)
    (hbusy : s.flag Reg.FAB_MDIO_DATA 16 = true) : ∃ t, exec (.mdioCmd rq v) s = .next t
      ∧ t.reg Reg.FAB_MDIO_CMD = s.reg Reg.FAB_MDIO_CMD ∧ t.fld (Reg.ERR_CODE Blk.FAB) 0 8 = St.FAIL_CONFLICT := by
  refine ⟨s.reportErr Blk.FAB St.FAIL_CONFLICT (BitVec.ofNat 32 0x12C), ?_, ?_, s.reportErr_code Blk.FAB St.FAIL_CONFLICT _⟩
  · rw [exec_mdioCmd, execMdioCmd]
    refine State.powered_next hup ?_ (s.reportErr_onlyChanges _ _ _) (by simp)
    rw [State.takeWrite_mdio v hpass, State.writeMdio, if_pos hbusy]
  · exact s.reportErr_reg_other _ _ _ _ (by decide) (by decide) (by decide) (by decide)

theorem mdioDone_ends {d : Nat} (hup : s.Up) (hbusy : s.flag Reg.FAB_MDIO_DATA 16 = true) :
    ∃ t, exec (.mdioDone d) s = .next t ∧ t.flag Reg.FAB_MDIO_DATA 16 = false
      ∧ (s.fld Reg.FAB_MDIO_CMD 10 3 = 0 → t.fld Reg.FAB_MDIO_DATA 0 16 = d % 65536)
      ∧ (s.fld Reg.FAB_MDIO_CMD 10 3 = 1 → t.fld Reg.FAB_MDIO_DATA 0 16 = s.fld Reg.FAB_MDIO_DATA 0 16)
      ∧ OnlyChanges [.regs] s t ∧ OnlyRegs [Reg.FAB_MDIO_DATA] s t := by
  have hrun : ∀ t, (if s.fld Reg.FAB_MDIO_CMD 10 3 = 0 ∨ s.fld Reg.FAB_MDIO_CMD 10 3 = 4 then
      (s.setFlag Reg.FAB_MDIO_DATA 16 false).setFld Reg.FAB_MDIO_DATA 0 16 d else s.setFlag Reg.FAB_MDIO_DATA 16 false) = t →
      OnlyChanges [.regs] s t → exec (.mdioDone d) s = .next t := fun t ht hch => by
    rw [exec_mdioDone, execMdioDone]
    refine State.powered_next hup ?_ hch (by simp)
    rw [if_neg (by simp [hbusy])]
    exact ht
  have h1 := s.setFlag_flag_same Reg.FAB_MDIO_DATA 16 false (by decide)
  have h2 : (s.setFlag Reg.FAB_MDIO_DATA 16 false).fld Reg.FAB_MDIO_DATA 0 16 = s.fld Reg.FAB_MDIO_DATA 0 16 :=
    s.setFld_fld_other Reg.FAB_MDIO_DATA 16 1 _ 0 16 (by decide) (.inr (by decide))
  have h3 := s.setFlag_onlyChanges Reg.FAB_MDIO_DATA 16 false
  have h4 : OnlyRegs [Reg.FAB_MDIO_DATA] s (s.setFlag Reg.FAB_MDIO_DATA 16 false) := (OnlyRegs.refl _ s).setFlag
  generalize s.setFlag Reg.FAB_MDIO_DATA 16 false = a at *
  by_cases hread : s.fld Reg.FAB_MDIO_CMD 10 3 = 0 ∨ s.fld Reg.FAB_MDIO_CMD 10 3 = 4
  · have hall := h3.trans (a.setFld_onlyChanges Reg.FAB_MDIO_DATA 0 16 d)
    refine ⟨_, hrun _ (if_pos hread) hall, ?_, fun _ => a.setFld_fld_same Reg.FAB_MDIO_DATA 0 16 d (by decide), fun h => by omega, hall, h4.setFld⟩
    rw [State.flag, a.setFld_fld_other Reg.FAB_MDIO_DATA 0 16 d 16 1 (by decide) (.inl (by decide))]
    exact h1
  · exact ⟨a, hrun _ (if_neg hread) h3, h1, fun h => absurd (.inl h) hread, fun _ => h2, h3, h4⟩

end

/-- Settles O37, clause by clause: what a port receives and sends, its blocks, then its link, EEE, LLDP and MDIO. -/
theorem forwardingAndLinks : Obligations.ForwardingAndLinks := by
  unfold Obligations.ForwardingAndLinks
  refine ⟨fun s p f hup hp hlink hhalf hen => ⟨?_, ?_, ?_, ?_, ?_, ?_, ?_, ?_, ?_⟩, fun s p hup hp => ⟨?_, ?_, ?_, ?_, ?_, ?_, ?_, ?_, ?_, ?_, ?_⟩⟩
  · exact fun hfcs hlo hhi => portFrameRx_badFcs hup hp hlink hfcs hlo hhi
  · exact fun hgood hty hp48 => portFrameRx_stray hup hp hlink hhalf hen hgood hty hp48
  · exact fun ep fr hep hlen hq hlpi => sendInternal_first hlink hhalf hen hep hlen hq hlpi
  · intro vid pcp q c hgood hplain hblock hpause hmgmt htag hvid hpcp hc hvlan
    refine ⟨?_, ?_⟩
    · intro hsrc hbucket hon hlearn hgsrc hne hbc hgroup hknown hq h3 h4 hports hpass hq50
      exact portFrameRx_queued hup hp hlink hhalf hen hgood hplain hblock hpause hmgmt htag hvid.symm hpcp.symm hc.symm hvlan hsrc hbucket hon hlearn
        hgsrc hne hbc hgroup hknown hq h3 h4 hports hpass hq50
    · intro rate burst hbc hsrc hrate hon hburst htake
      exact portFrameRx_stormDrop hup hp hlink hhalf hen hgood hplain hblock hpause hmgmt htag hvid.symm hvlan hbc hsrc hrate.symm hon hburst.symm htake
  · exact fun c q rest hnext hqueue hop hptp hwake => frameTransmit_head hup hnext hqueue hop hptp hwake
  · exact fun vid mac e he => ⟨fun hstatic hage hold => macAge_old hup he hstatic hage hold, fun hstatic => macAge_static he hstatic⟩
  · exact fun w run hplain hact hwin hrun hlast hopen => portBlock_blocks hup hp hplain hact hwin hrun hlast hopen
  · exact fun c n hsince hn hn0 hdue => portUnblock_due hup hsince hn.symm hn0 hdue
  · exact fun rq v hpass => fabPortEnWrite_enabled v hup hp hen hpass
  · exact fun sp eee hsp hwas => linkChange_up hup hp hsp hwas
  · exact fun sp eee hwas hq => linkChange_down hup hp hwas hq
  · exact fun u m c hu hlink hmode hpcs hdue => uplinkModeTry_due hup hu hlink hmode hpcs hdue
  · exact fun hactive hout hempty hidle halone => lpiEnter_idle hup hp hactive hout hempty hidle halone
  · exact fun c hwait hdue hlpi => lpiHoldoffEnd_due hup hp hwait hdue hlpi
  · exact fun tw hen hpass hq htw => ⟨fun hsent => lldpTx_first hup hp hen hpass hq htw.symm hsent,
      fun c hsent hearly => lldpTx_early htw.symm hsent hearly⟩
  · exact fun tx rx hen => lldpRx_taken hup hp hen
  · exact fun c hclk hdue => lldpTimeout_due hup hclk hdue
  · exact fun rq v hpass hidle hop => mdioCmd_starts hup hpass hidle hop
  · exact fun rq v hpass hbusy => mdioCmd_busy hup hpass hbusy
  · exact fun d hbusy => mdioDone_ends hup hbusy

end Sys2Proof.Machine

/-! PROOFS. STO's books while nothing else is open (R376 to R379, R389, R396). -/

namespace Sys2Proof.Machine

-- One declaration after the other: the stacks of parallel elaboration would count against the memory limit of the check.
set_option Elab.async false

section
variable {s t : State} {k : Nat}

/-! ### What STO shows -/

/-- A pool that has run out of spares is made read-only and says so (R372). -/
theorem State.readOnlyRaised_onlyChanges (b : State) (q : Nat) (c : Prop) [Decidable c] :
    OnlyChanges [.regs, .out] b (if c then (b.setFlag Reg.STO_STAT (1 + q) true).raiseIrq Blk.STO 3 else b) := by
  split
  · exact ((b.setFlag_onlyChanges _ _ _).mono (by simp)).trans (State.raiseIrq_onlyChanges _ _ _)
  · exact .refl _ b

theorem State.spareRaised_onlyChanges (b : State) (c : Prop) [Decidable c] :
    OnlyChanges [.regs, .out] b (if c then b.raiseIrq Blk.STO 2 else b) := by
  split
  · exact b.raiseIrq_onlyChanges _ _
  · exact .refl _ b

theorem State.noteSto_onlyChanges (s : State) : OnlyChanges [.regs, .out] s s.noteSto := by
  unfold State.noteSto
  simp only
  generalize hpools : s.forN 2 _ = s1
  generalize hclasses : s1.forN 5 _ = s2
  generalize hchans : s2.forN 2 _ = s3
  have hnum : ∀ (a b : State) off v, OnlyChanges [.regs, .out] a b → OnlyChanges [.regs, .out] a (b.setNum off v) := fun a b off v h =>
    h.trans ((b.setNum_onlyChanges off v).mono (by simp))
  have h1 : OnlyChanges [.regs, .out] s s1 := by
    rw [← hpools]
    refine State.forN_onlyChanges 2 fun a q => ?_
    have hseven : ∀ v1 v2 v3 v4 v5 v6 v7, OnlyChanges [.regs, .out] a (((((((a.setNum (Reg.STO_PLq_BLOCKS q) v1).setNum (Reg.STO_PLq_FREE q) v2).setNum
        (Reg.STO_PLq_BAD q) v3).setNum (Reg.STO_PLq_SPARE q) v4).setNum (Reg.STO_PLq_EC_MIN q) v5).setNum (Reg.STO_PLq_EC_MAX q) v6).setNum
        (Reg.STO_PLq_EC_MEAN q) v7) := fun v1 v2 v3 v4 v5 v6 v7 => by
      repeat apply hnum
      exact .refl _ a
    split
    · exact hseven _ _ _ _ _ _ _
    · exact (hseven _ _ _ _ _ _ _).trans ((State.spareRaised_onlyChanges _ _).trans (State.readOnlyRaised_onlyChanges _ _ _))
  have h2 : OnlyChanges [.regs, .out] s1 s2 := by
    rw [← hclasses]
    refine State.forN_onlyChanges 5 fun a i => ?_
    have hused := fun v => (a.setNum64_onlyChanges (Reg.STO_CLk_USED_LO (i + 1)) v).mono (qs := [.regs, .out]) (by simp)
    split
    · exact hnum _ _ _ _ (hused _)
    · exact hnum _ _ _ _ (hused _)
  have h3 : OnlyChanges [.regs, .out] s2 s3 := by
    rw [← hchans]
    exact State.forN_onlyChanges 2 fun a c => (a.setFld_onlyChanges _ _ _ _).mono (by simp)
  exact h1.trans (h2.trans (h3.trans (((s3.setFld_onlyChanges _ _ _ _).mono (by simp)).trans ((State.setFld_onlyChanges _ _ _ _ _).mono (by simp)))))

/-- What was put out stays so, whether or not a pool is made read-only. -/
theorem State.mem_readOnlyRaised_out {b : State} {o : Output} (h : o ∈ b.out) (q : Nat) (c : Prop) [Decidable c] :
    o ∈ (if c then (b.setFlag Reg.STO_STAT (1 + q) true).raiseIrq Blk.STO 3 else b).out := by
  split
  · exact State.mem_raiseIrq_out (by rw [State.setFlag_out]; exact h) _ _
  · exact h

theorem State.mem_spareRaised_out {b : State} {o : Output} (h : o ∈ b.out) (c : Prop) [Decidable c] :
    o ∈ (if c then b.raiseIrq Blk.STO 2 else b).out := by
  split
  · exact State.mem_raiseIrq_out h _ _
  · exact h

/-- What was put out stays so. -/
theorem State.noteSto_out (s : State) {o : Output} (h : o ∈ s.out) : o ∈ s.noteSto.out := by
  unfold State.noteSto
  simp only
  generalize hpools : s.forN 2 _ = s1
  generalize hclasses : s1.forN 5 _ = s2
  generalize hchans : s2.forN 2 _ = s3
  have h1 : o ∈ s1.out := by
    rw [← hpools]
    refine State.forN_keeps (P := fun a => o ∈ a.out) s 2 _ h fun a q ha => ?_
    have hseven : ∀ v1 v2 v3 v4 v5 v6 v7, o ∈ (((((((a.setNum (Reg.STO_PLq_BLOCKS q) v1).setNum (Reg.STO_PLq_FREE q) v2).setNum
        (Reg.STO_PLq_BAD q) v3).setNum (Reg.STO_PLq_SPARE q) v4).setNum (Reg.STO_PLq_EC_MIN q) v5).setNum (Reg.STO_PLq_EC_MAX q) v6).setNum
        (Reg.STO_PLq_EC_MEAN q) v7).out := fun v1 v2 v3 v4 v5 v6 v7 => by simpa only [State.setNum_out] using ha
    split
    · exact hseven _ _ _ _ _ _ _
    · exact State.mem_readOnlyRaised_out (State.mem_spareRaised_out (hseven _ _ _ _ _ _ _) _) _ _
  have h2 : o ∈ s2.out := by
    rw [← hclasses]
    refine State.forN_keeps (P := fun a => o ∈ a.out) s1 5 _ h1 fun a i ha => ?_
    split
    · rw [State.setNum_out, State.setNum64_out]
      exact ha
    · rw [State.setNum_out, State.setNum64_out]
      exact ha
  have h3 : o ∈ s3.out := by
    rw [← hchans]
    refine State.forN_keeps (P := fun a => o ∈ a.out) s2 2 _ h2 fun a c ha => ?_
    rw [State.setFld_out]
    exact ha
  rw [State.setFld_out, State.setFld_out]
  exact h3

/-! ### Nothing else is open -/

/-- Nothing in STO waits for the end of another operation. -/
structure State.StoQuiet (s : State) : Prop where
  asks : s.sto.asks = []
  writes : s.sto.writes = []
  waits : s.sto.waits = []
  durable : s.sto.durable = []

/-- With nothing open, settling drops the reads whose operations have ended. -/
theorem State.stoSettle_quiet (hw : s.sto.writes = []) (hwait : s.sto.waits = []) (hd : s.sto.durable = []) : s.stoSettle
    = { s with sto := { s.sto with reads := s.sto.reads.filter fun r => (s.slot r.tag).st == .active && (s.slot r.tag).gen == r.gen } } := by
  have hdead : (s.sto.writes.filter (fun w => !s.writeLives w)).map (fun w => w.tag) = [] := by rw [hw]; rfl
  have hone : s.sto.durable.foldl State.settleOne s = s := by rw [hd]; rfl
  have hset : s.sto.waits.foldl State.settleWait s = s := by rw [hwait]; rfl
  have hkeep : s.sto.waits.filter (fun w => (s.slot w.tag).st == .active) = s.sto.waits := by rw [hwait]; rfl
  simp only [State.stoSettle, hdead, List.foldl_nil, hone, hset, hkeep]

theorem Sto.noteDecided_quiet {x : Sto} (ha : x.asks = []) (hw : x.waits = []) (k st : Nat) : x.noteDecided k st = x := by
  cases x
  simp only at ha hw
  subst ha hw
  simp [Sto.noteDecided]

/-- An operation of STO ends: of STO's own part its read alone goes (R389). -/
theorem State.stoEnd_quiet (hserv : s.Serves k Blk.STO) (h : s.StoQuiet) (st : Nat) (r : Word) : ∃ t l, s.stoEnd k st r = t
    ∧ t.Ended k st r ∧ t.sto = { s.sto with reads := l } ∧ ((∀ x ∈ s.sto.reads, x.tag = k) → l = []) ∧ OnlyChanges [.opt, .scn, .sto] s t := by
  have hend := hserv.ended st r
  have hch := State.decideOp_books hserv.serving hserv.active st r
  have hsto : (s.decideOp k st r).sto = s.sto := by
    rw [State.decideOp_own s k st r hserv.active hserv.serving]
    exact (if_pos hserv.block).trans (Sto.noteDecided_quiet h.asks h.waits k st)
  unfold State.stoEnd
  generalize s.decideOp k st r = a at *
  rw [State.stoSettle_quiet (by rw [hsto, h.writes]) (by rw [hsto, h.waits]) (by rw [hsto, h.durable])]
  obtain ⟨b, hb, b1, b2, b3⟩ : ∃ b, ({ a with sto := { a.sto with
      reads := a.sto.reads.filter (fun r => (a.slot r.tag).st == .active && (a.slot r.tag).gen == r.gen) } } : State) = b
      ∧ b.sto = { a.sto with
        reads := a.sto.reads.filter (fun r => (a.slot r.tag).st == .active && (a.slot r.tag).gen == r.gen) }
      ∧ b.opt = a.opt ∧ OnlyChanges [.sto] a b := ⟨_, rfl, rfl, rfl, a.withSto_onlyChanges _⟩
  have hslot : b.slot k = a.slot k := State.slot_congr a b (congrArg Opt.slots b2) k
  rw [hsto] at b1
  obtain ⟨e1, e2, e3⟩ := hend
  refine ⟨b, _, hb, ⟨by rw [hslot, e1], by rw [hslot, e2], by rw [hslot, e3]⟩, b1, fun hall => ?_, hch.trans (b3.mono (by simp))⟩
  refine List.filter_eq_nil_iff.2 fun x hx => ?_
  rw [hall x hx, e1]
  simp

/-! ### Nothing to program -/

theorem State.forN_zero (a : State) (f : State → Nat → State) : a.forN 0 f = a := rfl

/-- No buffer holds anything. -/
theorem bufLen_empty (i : Nat) : bufLen (tget (fun _ => []) [] i) = 0 := rfl

theorem State.programFull_nothing (hb : s.sto.buffer = []) (cls ch : Nat) : s.programFull cls ch = s := by
  have hn : bufLen (tget (fun _ => []) s.sto.buffer (2 * cls + ch)) / wordlineBytes = 0 := by
    rw [hb, bufLen_empty]
    decide
  unfold State.programFull
  rw [hn, State.forN_zero]

theorem State.pump_nothing (hw : s.sto.writes = []) (hb : s.sto.buffer = []) : s.pump = s := by
  unfold State.pump
  rw [hw]
  simp only [List.foldl_nil]
  refine State.forN_keeps_below (P := fun a => a = s) s 2 _ rfl fun a c _ ha => ?_
  rw [ha, State.programFull_nothing hb, State.programFull_nothing hb]

theorem State.flushBuffer_nothing (hb : s.sto.buffer = []) (cls ch : Nat) : s.flushBuffer cls ch = s := by
  have hn : (bufLen (tget (fun _ => []) s.sto.buffer (2 * cls + ch)) + wordlineBytes - 1) / wordlineBytes = 0 := by
    rw [hb, bufLen_empty]
    decide
  unfold State.flushBuffer
  rw [hn, State.forN_zero]

theorem State.finishWrites_nothing (hw : s.sto.writes = []) : s.finishWrites = s := by
  unfold State.finishWrites
  rw [hw]
  rfl

end

end Sys2Proof.Machine

/-! PROOFS. STO's map, and its host operations while nothing else is open (R376 to R381, R388, R389). -/

namespace Sys2Proof.Machine

-- One declaration after the other: the stacks of parallel elaboration would count against the memory limit of the check.
set_option Elab.async false

section
variable {s a t : State} {k op : Nat} {x : Slot} {p : StoParam} {o : StoObj} {w : StoWrite} {d : List Byte}

/-! ### The map -/

theorem State.putObj_some_sto (s : State) (id : Nat) (o : StoObj) : (s.putObj id (some o)).sto = { s.sto with objs := tput s.sto.objs id o } :=
  State.forN_keeps (P := fun b => b.sto = { s.sto with objs := tput s.sto.objs id o }) _ 5 _ (State.setNum_sto _ _ _)
    fun b _ hb => (State.setNum_sto b _ _).trans hb

theorem State.putObj_none_sto (s : State) (id : Nat) : (s.putObj id none).sto = { s.sto with objs := tdel s.sto.objs id } :=
  State.forN_keeps (P := fun b => b.sto = { s.sto with objs := tdel s.sto.objs id }) _ 5 _ (State.setNum_sto _ _ _)
    fun b _ hb => (State.setNum_sto b _ _).trans hb

theorem State.noteSto_sto (s : State) : s.noteSto.sto = s.sto := s.noteSto_onlyChanges.2.2 .sto (by simp)

/-! ### Writes of COMMIT slots -/

/-- The class that a write is of: the one named, else the object's (R377). -/
def State.namedCls (s : State) (p : StoParam) : Nat := if p.cls = 0 then ((s.stoObj p.obj).map (fun o => o.cls)).getD 0 else p.cls

/-- A write that is accepted is of the object's class. -/
theorem State.writeRefusal_cls (h : s.writeRefusal x p op = none) (ho : s.stoObj p.obj = some o) : s.namedCls p = o.cls := by
  unfold State.writeRefusal at h
  extract_lets old cls p' at h
  have hold : old = some o := ho
  split at h
  · nomatch h
  · split at h
    · nomatch h
    · split at h
      · nomatch h
      · split at h
        · nomatch h
        · next hform =>
          rw [hold] at hform
          simp only [not_or, not_and, not_not, Option.isSome_some, Option.map_some, Option.some.injEq, forall_const] at hform
          obtain ⟨hcls, -⟩ := hform
          exact hcls.symm

/-- An accepted write whose turn it is is served at once. -/
theorem State.serveWrite_runs (hact : s.activeOp k Blk.STO op = some x) (hq : s.StoQuiet) (hready : s.flag Reg.STO_STAT 0 = true)
    (hpf : s.sup.pfail = false) (hturn : s.stoMustWait k = false) (href : s.writeRefusal x (stoParam x) op = none)
    (hlen : (stoParam x).len = d.length) : s.serveWrite k op d = if s.namedCls (stoParam x) = Cls.COMMIT then s.putSlot k (stoParam x) d
      else ((s.openWrite k x (stoParam x) (s.namedCls (stoParam x)) op d).finishWrites).noteSto := by
  have hreq : s.stoRequest k x d = (stoParam x, d) := by
    unfold State.stoRequest
    rw [hq.asks]
    simp only [List.find?_nil, hlen, List.take_length]
  have hw : s.stoWrite k = none := by
    unfold State.stoWrite
    rw [hq.writes]
    rfl
  unfold State.serveWrite
  rw [hact]
  simp only [hreq, hready, hpf, hw, hturn, href, hlen, Option.isSome_none, Bool.not_true, Bool.false_eq_true, or_self, if_false, Nat.lt_irrefl]
  rfl

/-- A COMMIT slot is durable at once (R388, R389). -/
theorem State.putSlot_spec (hserv : s.Serves k Blk.STO) (hq : s.StoQuiet) (ho : s.stoObj p.obj = some o) {n z : Nat} {tb : Tbl CommitSlot}
    (hb : o.body = .slots n z tb) (d : List Byte) : ∃ t, s.putSlot k p d = t ∧ t.Ended k St.OK (BitVec.ofNat 32 ((o.ver + 1) % 2 ^ 31))
      ∧ t.stoObj p.obj = some { o with
          ver := o.ver + 1
          body := .slots n z (tput tb p.pos ((tget (fun _ => CommitSlot.mk none none) tb p.pos).put (o.ver + 1) d)) }
      ∧ (∀ i, i ≠ p.obj → t.stoObj i = s.stoObj i) ∧ OnlyChanges [.regs, .out, .opt, .scn, .sto] s t := by
  have heq : s.putSlot k p d = ((s.putObj p.obj (some { o with
      ver := o.ver + 1
      body := .slots n z (tput tb p.pos ((tget (fun _ => CommitSlot.mk none none) tb p.pos).put (o.ver + 1) d)) })).noteSto).stoEnd k St.OK
      (BitVec.ofNat 32 ((o.ver + 1) % 2 ^ 31)) := by
    unfold State.putSlot
    rw [ho]
    simp only [Option.getD_some, hb]
  rw [heq]
  generalize ({ o with
      ver := o.ver + 1
      body := .slots n z (tput tb p.pos ((tget (fun _ => CommitSlot.mk none none) tb p.pos).put (o.ver + 1) d)) } : StoObj) = o'
  obtain ⟨hput, -⟩ := s.putObj_spec p.obj (some o')
  have hsto := (State.noteSto_sto _).trans (s.putObj_some_sto p.obj o')
  have hch : OnlyChanges [.regs, .out, .sto] s (s.putObj p.obj (some o')).noteSto :=
    (hput.mono (by simp)).trans ((State.noteSto_onlyChanges _).mono (by simp))
  generalize (s.putObj p.obj (some o')).noteSto = b at *
  obtain ⟨t, l, ht, hend, htsto, -, hch2⟩ := State.stoEnd_quiet (hserv.frame hch) ⟨by rw [hsto, hq.asks], by rw [hsto, hq.writes],
    by rw [hsto, hq.waits], by rw [hsto, hq.durable]⟩ St.OK (BitVec.ofNat 32 ((o.ver + 1) % 2 ^ 31))
  have hobjs : t.sto.objs = tput s.sto.objs p.obj o' := by rw [htsto, hsto]
  refine ⟨t, ht, hend, ?_, fun i hi => ?_, (hch.mono (by simp)).trans (hch2.mono (by simp))⟩
  · rw [State.stoObj, hobjs, tfind?_tput, if_pos rfl]
  · rw [State.stoObj, hobjs, tfind?_tput, if_neg (Ne.symm hi)]
    rfl

/-! ### Open writes end -/

theorem State.finishWrites_one (hw : a.sto.writes = [w]) : a.finishWrites = a.finishWrite w.tag := by
  unfold State.finishWrites
  rw [hw]
  rfl

theorem State.stoWrite_one (hw : a.sto.writes = [w]) : a.stoWrite w.tag = some w := by
  unfold State.stoWrite
  rw [hw]
  simp

theorem State.finishWrite_waits (hw : a.stoWrite k = some w) (hd : a.writeDurable w = false) : a.finishWrite k = a := by
  unfold State.finishWrite
  rw [hw]
  simp only [hd, Bool.not_false, true_or, if_true]

theorem State.finishWrite_removes (hw : a.stoWrite k = some w) (hd : a.writeDurable w = true) (hl : a.writeLives w = true)
    (hop : w.op = StoOp.DELETE) (hrep : w.rep = .none) :
    a.finishWrite k = ((((a.putObj w.obj none).noteUnrep w.obj false).dropWrite k).noteSto).stoEnd k St.OK 0 := by
  unfold State.finishWrite
  rw [hw]
  simp only [hd, hl, hop, hrep, Bool.not_true, Bool.false_eq_true, or_self, if_false, if_true, reduceCtorEq]
  split <;> rfl

theorem State.finishWrite_applies (hw : a.stoWrite k = some w) (hd : a.writeDurable w = true) (hl : a.writeLives w = true)
    (hop : w.op ≠ StoOp.DELETE) (hrep : w.rep = .none) (hcls : w.cls ≠ Cls.CRITICAL) : a.finishWrite k
      = (((a.putObj w.obj (some (a.applied w).1)).dropWrite k).noteSto).stoEnd k St.OK (BitVec.ofNat 32 (a.applied w).2) := by
  unfold State.finishWrite
  rw [hw]
  simp only [hd, hl, hop, hrep, hcls, Bool.not_true, Bool.false_eq_true, or_self, if_false, reduceCtorEq]
  split <;> rfl

/-- With every byte programmed, no job and no replica asked for a write is durable (R389). -/
theorem State.writeDurable_done (h1 : w.left1 = 0) (h2 : w.left2 = 0) (hrep : w.rep = .none) (hj : a.sto.jobs = []) : a.writeDurable w = true := by
  simp [State.writeDurable, State.writeBusy, h1, h2, hrep, hj]

end

end Sys2Proof.Machine

/-! PROOFS. STO's programs, and a write that opens one (R379, R382). -/

namespace Sys2Proof.Machine

-- One declaration after the other: the stacks of parallel elaboration would count against the memory limit of the check.
set_option Elab.async false

section
variable {s a b t : State} {k op : Nat} {x : Slot} {p : StoParam} {o : StoObj} {w : StoWrite} {d : List Byte}

/-! ### Starting programs -/

/-- Programs start: blocks, jobs, buffers and their count move; objects and open writes stay. -/
structure State.Programs (a b : State) : Prop where
  frame : OnlyChanges [.regs, .sto] a b
  objs : b.sto.objs = a.sto.objs
  writes : b.sto.writes = a.sto.writes

theorem State.Programs.refl (a : State) : a.Programs a := ⟨.refl _ a, rfl, rfl⟩

theorem State.Programs.trans (h1 : s.Programs a) (h2 : a.Programs b) : s.Programs b := by
  obtain ⟨f1, o1, w1⟩ := h1
  obtain ⟨f2, o2, w2⟩ := h2
  exact ⟨f1.trans f2, o2.trans o1, w2.trans w1⟩

theorem State.Programs.of_sto {y : Sto} (ho : y.objs = a.sto.objs) (hw : y.writes = a.sto.writes) : a.Programs { a with sto := y } :=
  ⟨(a.withSto_onlyChanges y).mono (by simp), ho, hw⟩

theorem State.Programs.forN {f : State → Nat → State} (n : Nat) (h : ∀ (a : State) i, a.Programs (f a i)) (a : State) : a.Programs (a.forN n f) :=
  State.forN_keeps (P := fun b => a.Programs b) a n f (.refl a) fun b i hb => hb.trans (h b i)

theorem State.useBlock_programs (a : State) (b cls n : Nat) : a.Programs (a.useBlock b cls n) := .of_sto rfl rfl

theorem State.startJob_programs (a : State) (b : Nat) (what : NandDo) (n : Nat) : a.Programs (a.startJob b what n) := .of_sto rfl rfl

theorem State.satInc_programs (a : State) (off lo w n : Nat) : a.Programs (a.satInc off lo w n) :=
  ⟨(a.satInc_onlyChanges off lo w n).mono (by simp), rfl, rfl⟩

theorem State.pumpCopy_programs (a : State) (w : StoWrite) (k : Nat) : a.Programs (a.pumpCopy w k) := by
  unfold State.pumpCopy
  extract_lets left lun
  split
  · exact .refl a
  · split
    · exact .refl a
    · exact (a.useBlock_programs _ _ _).trans (State.startJob_programs _ _ _ _)

theorem State.programWordline_programs (a : State) (cls ch : Nat) : a.Programs (a.programWordline cls ch) := by
  unfold State.programWordline
  extract_lets key buf
  split
  · exact .refl a
  · split
    · exact .refl a
    · exact (((a.useBlock_programs _ _ _).trans (State.startJob_programs _ _ _ _)).trans (State.satInc_programs _ _ _ _ _)).trans (.of_sto rfl rfl)

theorem State.programFull_programs (a : State) (cls ch : Nat) : a.Programs (a.programFull cls ch) :=
  State.Programs.forN _ (fun b _ => b.programWordline_programs cls ch) a

theorem State.pump_programs (a : State) : a.Programs a.pump := by
  unfold State.pump
  extract_lets s1
  have h1 : a.Programs s1 := by
    refine foldl_keeps (P := fun b => a.Programs b) _ (fun b w hb => ?_) (.refl a)
    split
    · split
      · exact hb.trans ((b.pumpCopy_programs _ 1).trans (State.pumpCopy_programs _ _ 2))
      · exact hb
    · exact hb
  exact h1.trans (State.Programs.forN 2 (fun b c => (b.programFull_programs _ c).trans (State.programFull_programs _ _ c)) _)

/-! ### An APPEND of a JOURNAL object opens a write -/

/-- The write that an APPEND of a JOURNAL object opens (R382). -/
def State.journalWrite (s : State) (k : Nat) (x : Slot) (p : StoParam) (op : Nat) (d : List Byte) : StoWrite :=
  { tag := k, gen := x.gen, obj := p.obj, cls := Cls.JOURNAL, op := op, limit := newLimit p
    ver := ((s.stoObj p.obj).map (fun o => o.ver)).getD 0 + 1, data := d, left1 := d.length, left2 := 0
    lun1 := s.leastBusy s.usableLuns, lun2 := (criticalPair s.usableLuns).2, copy1 := [], copy2 := [], rep := .none, flushed := none }

theorem State.openWrite_journal (s : State) (k : Nat) (x : Slot) (p : StoParam) (op : Nat) (d : List Byte) : s.openWrite k x p Cls.JOURNAL op d
    = ({ s with sto := { s.sto with writes := s.sto.writes ++ [s.journalWrite k x p op d] } } : State).pump := rfl

/-- A write with bytes left to program stays open (R389). -/
theorem State.appendJournal_spec (hw : s.sto.writes = []) (hd : d ≠ []) : ∃ t, ((s.openWrite k x p Cls.JOURNAL op d).finishWrites).noteSto = t
    ∧ t.stoWrite k = some (s.journalWrite k x p op d) ∧ t.sto.objs = s.sto.objs ∧ OnlyChanges [.regs, .out, .sto] s t := by
  rw [State.openWrite_journal]
  obtain ⟨u, hu, u1, u2, u3⟩ : ∃ u : State, { s with sto := { s.sto with writes := s.sto.writes ++ [s.journalWrite k x p op d] } } = u
    ∧ u.sto.objs = s.sto.objs ∧ u.sto.writes = [s.journalWrite k x p op d] ∧ OnlyChanges [.sto] s u :=
    ⟨_, rfl, rfl, by rw [hw]; rfl, s.withSto_onlyChanges _⟩
  rw [hu]
  obtain ⟨f1, o1, w1⟩ := u.pump_programs
  generalize u.pump = v at *
  have hv : v.sto.writes = [s.journalWrite k x p op d] := w1.trans u2
  have hwait : v.finishWrites = v := by
    rw [State.finishWrites_one hv]
    refine State.finishWrite_waits (State.stoWrite_one hv) ?_
    have hlen : d.length ≠ 0 := by simpa using hd
    simp [State.writeDurable, State.journalWrite, hlen]
  rw [hwait]
  have hsto := v.noteSto_sto
  have hch := v.noteSto_onlyChanges
  generalize v.noteSto = t at *
  refine ⟨t, rfl, State.stoWrite_one (hsto ▸ hv : t.sto.writes = _), by rw [hsto, o1, u1],
    (u3.mono (by simp)).trans ((f1.mono (by simp)).trans (hch.mono (by simp)))⟩

end

end Sys2Proof.Machine

/-! PROOFS. STO's host operations while nothing else is open (R376 to R381, R388, R389, R395). -/

namespace Sys2Proof.Machine

-- One declaration after the other: the stacks of parallel elaboration would count against the memory limit of the check.
set_option Elab.async false

section
variable {s a t : State} {k op : Nat} {x : Slot} {p : StoParam} {o : StoObj} {w : StoWrite} {d b : List Byte}

/-! ### An open write ends -/

/-- The last open write leaves STO's books and its operation ends (R389). -/
theorem State.closeWrite_spec (hserv : s.Serves k Blk.STO) (hw : s.sto.writes = [w]) (htag : w.tag = k) (ha : s.sto.asks = [])
    (hwait : s.sto.waits = []) (hd : s.sto.durable = []) (st : Nat) (r : Word) : ∃ t, ((s.dropWrite k).noteSto).stoEnd k st r = t ∧ t.Ended k st r
      ∧ t.sto.writes = [] ∧ t.sto.objs = s.sto.objs ∧ t.sto.jobs = s.sto.jobs ∧ (s.sto.buffer = [] → t.sto.buffer = [])
      ∧ OnlyChanges [.regs, .out, .opt, .scn, .sto] s t := by
  obtain ⟨u, hu, u1, u2⟩ : ∃ u, s.dropWrite k = u ∧ u.sto = { s.sto with
      writes := s.sto.writes.filter (fun w => w.tag != k)
      buffer := (s.sto.buffer.map (fun e => (e.1, e.2.filter (fun p => p.1 != k)))).filter (fun e => e.2 != []) } ∧ OnlyChanges [.sto] s u :=
    ⟨_, rfl, rfl, s.withSto_onlyChanges _⟩
  rw [hu]
  have hnone : s.sto.writes.filter (fun v => v.tag != k) = [] := by
    rw [hw]
    simp [htag]
  rw [hnone] at u1
  have hsto := u.noteSto_sto.trans u1
  have hch : OnlyChanges [.regs, .out, .sto] s u.noteSto := (u2.mono (by simp)).trans (u.noteSto_onlyChanges.mono (by simp))
  generalize u.noteSto = v at *
  obtain ⟨t, l, ht, hend, htsto, -, hch2⟩ := State.stoEnd_quiet (hserv.frame hch) ⟨by rw [hsto, ha], by rw [hsto], by rw [hsto, hwait],
    by rw [hsto, hd]⟩ st r
  rw [hsto] at htsto
  exact ⟨t, ht, hend, by rw [htsto], by rw [htsto], by rw [htsto], fun hb => by rw [htsto]; simp only [hb, List.map_nil, List.filter_nil],
    (hch.mono (by simp)).trans (hch2.mono (by simp))⟩

/-! ### DELETE -/

/-- The write that a DELETE opens. -/
def removal (k : Nat) (x : Slot) (id : Nat) (o : StoObj) : StoWrite :=
  { tag := k, gen := x.gen, obj := id, cls := o.cls, op := StoOp.DELETE, limit := o.limit, ver := o.ver, data := [], left1 := 0, left2 := 0
    lun1 := 0, lun2 := 0, copy1 := [], copy2 := [], rep := .none, flushed := none }

/-- The removal of an object that has no replica is written at once (R389). -/
theorem State.removeCommit_spec (hserv : s.Serves k Blk.STO) (hq : s.StoQuiet) (hj : s.sto.jobs = []) (hgen : (s.slot k).gen = x.gen) (id : Nat)
    (o : StoObj) : ∃ t, ({ s with sto := { s.sto with writes := s.sto.writes ++ [removal k x id o] } } : State).finishWrites = t
      ∧ t.Ended k St.OK 0 ∧ t.stoObj id = none ∧ (∀ i, i ≠ id → t.stoObj i = s.stoObj i) ∧ OnlyChanges [.regs, .out, .opt, .scn, .sto] s t := by
  obtain ⟨u, hu, u1, u2⟩ : ∃ u : State, { s with sto := { s.sto with writes := s.sto.writes ++ [removal k x id o] } } = u
    ∧ u.sto = { s.sto with writes := [removal k x id o] } ∧ OnlyChanges [.sto] s u := ⟨_, rfl, by rw [hq.writes]; rfl, s.withSto_onlyChanges _⟩
  have hone : u.sto.writes = [removal k x id o] := by rw [u1]
  have hus := hserv.frame u2
  have hlives : u.writeLives (removal k x id o) = true := by
    have hslot : u.slot k = s.slot k := State.slot_congr s u (congrArg Opt.slots (u2.2.2 .opt (by simp))) k
    unfold State.writeLives
    simp only [removal, hslot, hserv.active, hgen, beq_self_eq_true, Bool.and_self]
  rw [hu, State.finishWrites_one hone, State.finishWrite_removes (State.stoWrite_one hone)
    (State.writeDurable_done rfl rfl rfl (by rw [u1]; exact hj)) hlives rfl rfl]
  obtain ⟨hput, -⟩ := u.putObj_spec id none
  have hobjs := u.putObj_none_sto id
  simp only [removal]
  generalize u.putObj id none = v at *
  obtain ⟨y, hy, y1, y2⟩ : ∃ y : State, v.noteUnrep id false = y ∧ y.sto = { v.sto with unrep := y.sto.unrep } ∧ OnlyChanges [.sto] v y :=
    ⟨_, rfl, rfl, v.withSto_onlyChanges _⟩
  rw [hobjs, u1] at y1
  have hch : OnlyChanges [.regs, .sto] s y := (u2.mono (by simp)).trans (hput.trans (y2.mono (by simp)))
  obtain ⟨t, ht, hend, -, hts, -, -, hch2⟩ := State.closeWrite_spec (s := y) (w := removal k x id o) (hserv.frame hch) (by rw [y1]) rfl
    (by rw [y1, hq.asks]) (by rw [y1, hq.waits]) (by rw [y1, hq.durable]) St.OK 0
  rw [y1] at hts
  refine ⟨t, by rw [hy, ht], hend, ?_, fun i hi => ?_, (hch.mono (by simp)).trans hch2⟩
  · rw [State.stoObj, hts, tfind?_tdel, if_pos rfl]
  · rw [State.stoObj, hts, tfind?_tdel, if_neg (Ne.symm hi)]
    rfl

/-! ### GET -/

/-- Bytes go to the host buffer and the operation ends OK (R376). -/
theorem State.emitEnd_spec (hserv : s.Serves k Blk.STO) (hq : s.StoQuiet) (o : Output) (r : Word) : ∃ t l, (s.emit o).stoEnd k St.OK r = t
    ∧ t.Ended k St.OK r ∧ t.out = s.out ++ [o] ∧ t.sto = { s.sto with reads := l } ∧ ((∀ x ∈ s.sto.reads, x.tag = k) → l = [])
    ∧ OnlyChanges [.out, .opt, .scn, .sto] s t := by
  obtain ⟨u, hu, u1, u2, u3⟩ : ∃ u, s.emit o = u ∧ u.out = s.out ++ [o] ∧ u.sto = s.sto ∧ OnlyChanges [.out] s u :=
    ⟨_, rfl, rfl, rfl, s.emit_onlyChanges o⟩
  rw [hu]
  obtain ⟨t, l, ht, hend, hsto, hl, hch⟩ := State.stoEnd_quiet (hserv.frame u3) ⟨by rw [u2, hq.asks], by rw [u2, hq.writes], by rw [u2, hq.waits],
    by rw [u2, hq.durable]⟩ St.OK r
  rw [u2] at hsto hl
  exact ⟨t, l, ht, hend, (hch.2.2 .out (by simp)).trans u1, hsto, hl, (u3.mono (by simp)).trans (hch.mono (by simp))⟩

theorem State.completeGet_eq (ho : s.stoObj (stoParam (s.slot k)).obj = some o) (hb : getBytes o (stoParam (s.slot k)).pos (stoParam (s.slot k)).len = .ok b) :
    s.completeGet k = (s.emit (.dma (stoParam (s.slot k)).addr b)).stoEnd k St.OK (BitVec.ofNat 32 b.length) := by
  unfold State.completeGet
  simp only [ho, hb]

/-! ### BARRIER and FLUSH -/

/-- With nothing begun before it a BARRIER or FLUSH completes at once (R378, R379). -/
theorem State.settle_wait (hserv : s.Serves k Blk.STO) (hq : s.StoQuiet) (m : Nat) (bar : Bool) :
    ∃ t, ({ s with sto := { s.sto with waits := s.sto.waits ++ [StoWait.mk k m bar [] 0 0] } } : State).stoSettle = t
      ∧ t.Ended k St.OK 0 ∧ OnlyChanges [.opt, .scn, .sto] s t := by
  obtain ⟨u, hu, u1, u2, u3, u4⟩ : ∃ u : State, { s with sto := { s.sto with waits := s.sto.waits ++ [StoWait.mk k m bar [] 0 0] } } = u
    ∧ u.sto.writes = [] ∧ u.sto.durable = [] ∧ u.sto.waits = [StoWait.mk k m bar [] 0 0] ∧ OnlyChanges [.sto] s u :=
    ⟨_, rfl, hq.writes, hq.durable, by rw [hq.waits]; rfl, s.withSto_onlyChanges _⟩
  have hdead : (u.sto.writes.filter (fun w => !u.writeLives w)).map (fun w => w.tag) = [] := by rw [u1]; rfl
  obtain ⟨v, hv, v1⟩ : ∃ v : State, { u with sto := { u.sto with waits := u.sto.waits.filter (fun x => x.tag != k) } } = v
    ∧ OnlyChanges [.sto] u v := ⟨_, rfl, u.withSto_onlyChanges _⟩
  have hone : u.settleWait (StoWait.mk k m bar [] 0 0) = v.decideOp k St.OK 0 := by
    unfold State.settleWait
    simp only [ne_eq, not_true_eq_false, if_false, hv]
    cases bar <;> rfl
  have hvs := (hserv.frame u4).frame v1
  have hend := hvs.ended St.OK 0
  have hch := State.decideOp_books hvs.serving hvs.active St.OK 0
  rw [hu]
  unfold State.stoSettle
  simp only [hdead, List.foldl_nil, u2, u3, List.foldl_cons, hone]
  generalize v.decideOp k St.OK 0 = z at *
  obtain ⟨t, ht, t1, t2⟩ : ∃ t : State, { z with sto := { z.sto with
      reads := z.sto.reads.filter (fun r => (z.slot r.tag).st == .active && (z.slot r.tag).gen == r.gen)
      waits := z.sto.waits.filter (fun w => (z.slot w.tag).st == .active) } } = t ∧ t.opt = z.opt ∧ OnlyChanges [.sto] z t :=
    ⟨_, rfl, rfl, z.withSto_onlyChanges _⟩
  have hslot : t.slot k = z.slot k := State.slot_congr z t (congrArg Opt.slots t1) k
  refine ⟨t, ht, ?_, (u4.mono (by simp)).trans ((v1.mono (by simp)).trans (hch.trans (t2.mono (by simp))))⟩
  obtain ⟨e1, e2, e3⟩ := hend
  exact ⟨by rw [hslot, e1], by rw [hslot, e2], by rw [hslot, e3]⟩

end

end Sys2Proof.Machine

/-! PROOFS. Every operation of STO on a mounted map with nothing else open (R376 to R381, R388, R389, R395). -/

namespace Sys2Proof.Machine

-- One declaration after the other: the stacks of parallel elaboration would count against the memory limit of the check.
set_option Elab.async false

section
variable {s a t : State} {k : Nat} {x : Slot} {o : StoObj} {d b : List Byte}

theorem State.slot_of_activeOp {op : Nat} (h : s.activeOp k Blk.STO op = some x) : s.slot k = x := by
  obtain ⟨rfl, -⟩ := s.activeOp_some k Blk.STO op x h
  rfl

/-! ### Writes -/

theorem exec_put_slot (hup : s.Up) (hserv : tfind? s.hlk.serving k = none) (hq : s.StoQuiet) (hready : s.flag Reg.STO_STAT 0 = true)
    (hpf : s.sup.pfail = false) (hturn : s.stoMustWait k = false) (hact : s.activeOp k Blk.STO 1 = some x)
    (href : s.writeRefusal x (stoParam x) 1 = none) (ho : s.stoObj (stoParam x).obj = some o) (hcls : o.cls = 1) {n z : Nat} {tb : Tbl CommitSlot}
    (hb : o.body = .slots n z tb) (hlen : (stoParam x).len = d.length) :
    ∃ t, exec (.put k d) s = .next t ∧ t.Ended k St.OK (BitVec.ofNat 32 ((o.ver + 1) % 2 ^ 31))
      ∧ t.stoObj (stoParam x).obj = some { o with
          ver := o.ver + 1
          body := .slots n z (tput tb (stoParam x).pos ((tget (fun _ => CommitSlot.mk none none) tb (stoParam x).pos).put (o.ver + 1) d)) }
      ∧ (∀ i, i ≠ (stoParam x).obj → t.stoObj i = s.stoObj i) ∧ OnlyChanges [.regs, .out, .opt, .scn, .sto] s t := by
  obtain ⟨t, ht, hend, hobj, hother, hch⟩ := State.putSlot_spec (p := stoParam x) (State.serves_of_activeOp hserv hact) hq ho hb d
  refine ⟨t, ?_, hend, hobj, hother, hch⟩
  rw [exec_put, execPut]
  refine State.powered_next hup ?_ hch (by simp)
  rw [State.serveWrite_runs hact hq hready hpf hturn href hlen, if_pos ((State.writeRefusal_cls href ho).trans hcls), ht]

theorem exec_append_journal (hup : s.Up) (hq : s.StoQuiet) (hready : s.flag Reg.STO_STAT 0 = true)
    (hpf : s.sup.pfail = false) (hturn : s.stoMustWait k = false) (hact : s.activeOp k Blk.STO 2 = some x)
    (href : s.writeRefusal x (stoParam x) 2 = none) (hcls : (stoParam x).cls = 3) (hlen : (stoParam x).len = d.length) (hd : d ≠ []) :
    ∃ t w, exec (.append k d) s = .next t ∧ (t.slot k).st = .active ∧ t.stoWrite k = some w ∧ w.obj = (stoParam x).obj ∧ w.data = d
      ∧ w.op = 2 ∧ t.sto.objs = s.sto.objs ∧ OnlyChanges [.regs, .out, .sto] s t := by
  obtain ⟨t, ht, hw, hobjs, hch⟩ := State.appendJournal_spec (s := s) (k := k) (x := x) (p := stoParam x) (op := 2) hq.writes hd
  obtain ⟨-, hst, -⟩ := s.activeOp_some k Blk.STO 2 x hact
  have hslot : t.slot k = s.slot k := State.slot_congr s t (congrArg Opt.slots (hch.2.2 .opt (by simp))) k
  have hnamed : s.namedCls (stoParam x) = Cls.JOURNAL := (if_neg (by rw [hcls]; decide)).trans hcls
  refine ⟨t, _, ?_, by rw [hslot, State.slot_of_activeOp hact, hst], hw, rfl, rfl, rfl, hobjs, hch⟩
  rw [exec_append, execAppend]
  refine State.powered_next hup ?_ hch (by simp)
  rw [State.serveWrite_runs hact hq hready hpf hturn href hlen, hnamed, if_neg (by decide), ht]

theorem exec_delete_commit (hup : s.Up) (hserv : tfind? s.hlk.serving k = none) (hq : s.StoQuiet) (hready : s.flag Reg.STO_STAT 0 = true)
    (hpf : s.sup.pfail = false) (hjobs : s.sto.jobs = []) (hturn : s.stoMustWait k = false) (hact : s.activeOp k Blk.STO 4 = some x)
    (hacc : stoAccess x (stoParam x).obj 4 = true) (ho : s.stoObj (stoParam x).obj = some o) (hcls : o.cls = 1) :
    ∃ t, exec (.delete k) s = .next t ∧ t.Ended k St.OK 0 ∧ t.stoObj (stoParam x).obj = none
      ∧ (∀ i, i ≠ (stoParam x).obj → t.stoObj i = s.stoObj i) ∧ OnlyChanges [.regs, .out, .opt, .scn, .sto] s t := by
  obtain ⟨t, ht, hend, hobj, hother, hch⟩ := State.removeCommit_spec (State.serves_of_activeOp hserv hact) hq hjobs
    (congrArg Slot.gen (State.slot_of_activeOp hact)) (stoParam x).obj o
  refine ⟨t, ?_, hend, hobj, hother, hch⟩
  have hreq : s.stoRequest k x [] = (stoParam x, []) := by
    unfold State.stoRequest
    rw [hq.asks]
    simp only [List.find?_nil, List.take_nil]
  have hw : s.stoWrite k = none := by
    unfold State.stoWrite
    rw [hq.writes]
    rfl
  rw [exec_delete, execDelete]
  refine State.powered_next hup ?_ hch (by simp)
  rw [hact]
  simp only [hreq, hready, hpf, hw, hturn, hacc, ho, hcls, Option.isSome_none, Bool.not_true, Bool.false_eq_true, or_self, if_false, ne_eq,
    not_true_eq_false, and_false]
  rw [if_neg (by decide), ← ht, removal, hcls]

/-! ### Reads -/

theorem exec_get_inMram (hup : s.Up) (hserv : tfind? s.hlk.serving k = none) (hq : s.StoQuiet) (hready : s.flag Reg.STO_STAT 0 = true)
    (hreads : s.sto.reads = []) (hturn : s.stoMustWait k = false) (hact : s.activeOp k Blk.STO 3 = some x)
    (hacc : stoAccess x (stoParam x).obj 3 = true) (ho : s.stoObj (stoParam x).obj = some o) (hcls : (stoParam x).cls = 0 ∨ (stoParam x).cls = o.cls)
    (hb : getBytes o (stoParam x).pos (stoParam x).len = .ok b) (hgood : o.damaged = false) (hplaces : o.places 1 = []) :
    ∃ t, exec (.get k) s = .next t ∧ t.Ended k St.OK (BitVec.ofNat 32 b.length) ∧ t.out = s.out ++ [.dma (stoParam x).addr b]
      ∧ t.sto.objs = s.sto.objs ∧ OnlyChanges [.out, .opt, .scn, .sto] s t := by
  have hx := State.slot_of_activeOp hact
  obtain ⟨t, l, ht, hend, hout, hsto, -, hch⟩ := State.emitEnd_spec (State.serves_of_activeOp hserv hact) hq (.dma (stoParam x).addr b)
    (BitVec.ofNat 32 b.length)
  refine ⟨t, ?_, hend, hout, by rw [hsto], hch⟩
  rw [exec_get, execGet]
  refine State.powered_next hup ?_ hch (by simp)
  rw [hact]
  simp only [hready, hreads, hturn, hacc, ho, hb, hgood, hplaces, List.any_nil, Bool.not_true, Bool.false_eq_true, or_self, if_false]
  rw [if_neg (by omega), State.completeGet_eq (by rw [hx]; exact ho) (by rw [hx]; exact hb), hx, ht]

theorem exec_get_absent (hup : s.Up) (hserv : tfind? s.hlk.serving k = none) (hq : s.StoQuiet) (hready : s.flag Reg.STO_STAT 0 = true)
    (hreads : s.sto.reads = []) (hturn : s.stoMustWait k = false) (hact : s.activeOp k Blk.STO 3 = some x)
    (hacc : stoAccess x (stoParam x).obj 3 = true) (ho : s.stoObj (stoParam x).obj = none) :
    ∃ t, exec (.get k) s = .next t ∧ t.Ended k St.FAIL_CONFLICT 0 ∧ OnlyChanges [.opt, .scn, .sto] s t := by
  obtain ⟨t, l, ht, hend, -, -, hch⟩ := State.stoEnd_quiet (State.serves_of_activeOp hserv hact) hq St.FAIL_CONFLICT 0
  refine ⟨t, ?_, hend, hch⟩
  rw [exec_get, execGet]
  refine State.powered_next hup ?_ hch (by simp)
  rw [hact]
  simp only [hready, hreads, hturn, hacc, ho, ht, List.any_nil, Bool.not_true, Bool.false_eq_true, or_self, if_false]

/-- Size, count and first index of an object, as INFO gives them. -/
def StoBody.figures (y : StoBody) : Nat × Nat × Nat :=
  match y with
  | .slots n z _ => (n * z, n, 0)
  | .whole d _ _ => (d.length, 0, 0)
  | .records l f n => ((l.map (fun r => r.data.length)).foldl (· + ·) 0, n, f)

/-- The 64 bytes of INFO (R376). -/
def StoObj.infoBytes (o : StoObj) (id : Nat) : List Byte :=
  (List.range 64).map fun i => Config.infoByte ([id, o.cls, o.ver, o.body.figures.1, o.body.figures.2.1, o.body.figures.2.2, o.limit,
    if o.damaged then 1 else 0, if o.localOnly then 1 else 0] ++ o.places 1 ++ o.places 2) i

theorem exec_info_object (hup : s.Up) (hserv : tfind? s.hlk.serving k = none) (hq : s.StoQuiet) (hready : s.flag Reg.STO_STAT 0 = true)
    (hturn : s.stoMustWait k = false) (hact : s.activeOp k Blk.STO 7 = some x)
    (hacc : stoAccess x (stoParam x).obj 7 = true) (ho : s.stoObj (stoParam x).obj = some o) :
    ∃ t b, exec (.info k) s = .next t ∧ t.Ended k St.OK 64 ∧ t.out = s.out ++ [.dma (stoParam x).addr b] ∧ b.length = 64
      ∧ OnlyChanges [.out, .opt, .scn, .sto] s t := by
  obtain ⟨t, l, ht, hend, hout, -, -, hch⟩ := State.emitEnd_spec (State.serves_of_activeOp hserv hact) hq
    (.dma (stoParam x).addr (o.infoBytes (stoParam x).obj)) 64
  refine ⟨t, _, ?_, hend, hout, by simp [StoObj.infoBytes], hch⟩
  rw [exec_info, execInfo]
  refine State.powered_next hup ?_ hch (by simp)
  rw [hact]
  simp only [hready, hturn, hacc, ho, Bool.not_true, Bool.false_eq_true, or_self, if_false]
  obtain ⟨cls, ver, limit, body, lonely, damaged⟩ := o
  cases body with
  | slots n z tb => exact ht
  | whole d c1 c2 => exact ht
  | records r f n => exact ht

/-! ### BARRIER, FLUSH and FORMAT -/

theorem exec_barrier_alone (hup : s.Up) (hserv : tfind? s.hlk.serving k = none) (hq : s.StoQuiet) (hact : s.activeOp k Blk.STO 5 = some x)
    (hfirst : s.stoEarlier k = []) : ∃ t, exec (.barrier k) s = .next t ∧ t.Ended k St.OK 0 ∧ OnlyChanges [.opt, .scn, .sto] s t := by
  obtain ⟨t, ht, hend, hch⟩ := State.settle_wait (State.serves_of_activeOp hserv hact) hq (stoParam x).mask true
  refine ⟨t, ?_, hend, hch⟩
  rw [exec_barrier, execBarrier]
  refine State.powered_next hup ?_ hch (by simp)
  have hnone : s.sto.waits.any (fun w => w.tag == k) = false := by rw [hq.waits]; rfl
  rw [hact]
  simp only [hnone, hfirst, List.filter_nil, List.length_nil, Bool.false_eq_true, if_false]
  exact ht

theorem exec_flush_alone (hup : s.Up) (hserv : tfind? s.hlk.serving k = none) (hq : s.StoQuiet) (hact : s.activeOp k Blk.STO 6 = some x)
    (hfirst : s.stoEarlier k = []) (hmode : s.mode ≠ Mode.MINIMAL) (hbuf : s.sto.buffer = []) :
    ∃ t, exec (.flush k) s = .next t ∧ t.Ended k St.OK 0 ∧ OnlyChanges [.opt, .scn, .sto] s t := by
  obtain ⟨t, ht, hend, hch⟩ := State.settle_wait (State.serves_of_activeOp hserv hact) hq (stoParam x).mask false
  refine ⟨t, ?_, hend, hch⟩
  rw [exec_flush, execFlush]
  refine State.powered_next hup ?_ hch (by simp)
  have hnone : s.sto.waits.any (fun w => w.tag == k) = false := by rw [hq.waits]; rfl
  rw [hact]
  simp only [hmode, hnone, hfirst, List.filter_nil, List.length_nil, Bool.false_eq_true, if_false]
  have hempty : s.forN 2 (fun a c =>
      let a1 := if maskHas (stoParam x).mask Cls.TREND then a.flushBuffer Cls.TREND c else a
      if maskHas (stoParam x).mask Cls.BULK then a1.flushBuffer Cls.BULK c else a1) = s :=
    State.forN_keeps (P := fun b => b = s) s 2 _ rfl fun b c hb => by
      simp only [hb, State.flushBuffer_nothing hbuf, ite_self]
  rw [hempty]
  exact ht

/-- The blocks that FORMAT gives the matched LUNs (R366, R367). -/
def State.formatBlocks (s : State) (l : List LunFound) : Tbl NandBlock :=
  ((l.filter (fun f => f.matched)).foldl (fun a f => (a.1 + f.blocks, a.2 ++ s.formatLun a.1 f)) (0, [])).2

/-- The map after FORMAT, with its LUNs and pools shown (R395). -/
def State.formatted (s : State) (l : List LunFound) : State :=
  let s1 := { s with sto := { s.sto with
    blocks := s.formatBlocks l, objs := s.sto.objs.filter (fun e => e.2.cls == Cls.COMMIT), jobs := [], buffer := []
    bufClk := [], unrep := [], scanned := [] } }
  ((l.foldl State.foundLun s1).setFlag Reg.STO_STAT 1 false).setFlag Reg.STO_STAT 2 false

theorem State.formatted_spec (s : State) (l : List LunFound) : (s.formatted l).sto = { s.sto with
      blocks := s.formatBlocks l, objs := s.sto.objs.filter (fun e => e.2.cls == 1), jobs := [], buffer := []
      bufClk := [], unrep := [], scanned := [] } ∧ OnlyChanges [.regs, .out, .sto] s (s.formatted l) := by
  unfold State.formatted
  obtain ⟨u, hu, u1, u2⟩ : ∃ u : State, { s with sto := { s.sto with
      blocks := s.formatBlocks l, objs := s.sto.objs.filter (fun e => e.2.cls == Cls.COMMIT), jobs := [], buffer := []
      bufClk := [], unrep := [], scanned := [] } } = u
    ∧ u.sto = { s.sto with
      blocks := s.formatBlocks l, objs := s.sto.objs.filter (fun e => e.2.cls == 1), jobs := [], buffer := []
      bufClk := [], unrep := [], scanned := [] } ∧ OnlyChanges [.sto] s u := ⟨_, rfl, rfl, s.withSto_onlyChanges _⟩
  have hluns : OnlyChanges [.regs] u (l.foldl State.foundLun u) := foldl_keeps (P := fun a => OnlyChanges [.regs] u a) l
    (fun _ _ h => h.trans ((State.setFld_onlyChanges _ _ _ _ _).trans (State.setNum_onlyChanges _ _ _))) (.refl _ u)
  have hch := hluns.trans ((State.setFlag_onlyChanges _ Reg.STO_STAT 1 false).trans (State.setFlag_onlyChanges _ Reg.STO_STAT 2 false))
  rw [hu]
  exact ⟨(hch.2.2 .sto (by simp)).trans u1, (u2.mono (by simp)).trans (hch.mono (by simp))⟩

theorem exec_format_alone (hup : s.Up) (hserv : tfind? s.hlk.serving k = none) (hq : s.StoQuiet) (hact : s.activeOp k Blk.STO 8 = some x)
    (hctx : x.ctx = 0) (hmode : s.mode ≠ Mode.MINIMAL) (hlc : s.fld Reg.KEY_LC 0 3 ≤ 1) (hopen : s.openTags = [k]) (l : List LunFound) :
    ∃ t, exec (.format k l) s = .next t ∧ t.Ended k St.OK (BitVec.ofNat 32 (t.sto.blocks.filter (fun e => e.2.st != .bad)).length)
      ∧ t.sto.objs = s.sto.objs.filter (fun e => e.2.cls == 1) ∧ t.sto.jobs = [] := by
  obtain ⟨u1, u2⟩ := s.formatted_spec l
  have hsto := (State.noteSto_sto _).trans u1
  have hch := u2.trans ((s.formatted l).noteSto_onlyChanges.mono (by simp))
  have hrun : ∀ t, (s.formatted l).noteSto.stoEnd k St.OK (BitVec.ofNat 32 ((s.formatBlocks l).filter (fun e => e.2.st != .bad)).length) = t
      → OnlyChanges [.regs, .out, .opt, .scn, .sto] s t → exec (.format k l) s = .next t := fun t ht hch => by
    rw [exec_format, execFormat]
    refine State.powered_next hup ?_ hch (by simp)
    rw [hact]
    simp only [hctx, hmode, hlc, hopen, decide_true, List.any_cons, List.any_nil, bne_self_eq_false, Bool.false_and, Bool.or_self, Bool.not_true,
      Bool.false_eq_true, ne_eq, not_true_eq_false, or_self, if_false]
    exact ht
  generalize (s.formatted l).noteSto = u at *
  obtain ⟨t, l', ht, hend, htsto, -, hch2⟩ := State.stoEnd_quiet ((State.serves_of_activeOp hserv hact).frame hch) ⟨by rw [hsto, hq.asks],
    by rw [hsto, hq.writes], by rw [hsto, hq.waits], by rw [hsto, hq.durable]⟩ St.OK
    (BitVec.ofNat 32 ((s.formatBlocks l).filter (fun e => e.2.st != .bad)).length)
  rw [hsto] at htsto
  exact ⟨t, hrun t ht ((hch.mono (by simp)).trans (hch2.mono (by simp))), by rw [htsto]; exact hend, by rw [htsto], by rw [htsto]⟩

end

end Sys2Proof.Machine

/-! PROOFS. The ends of NAND programs and erases (R370, R371, R389). -/

namespace Sys2Proof.Machine

-- One declaration after the other: the stacks of parallel elaboration would count against the memory limit of the check.
set_option Elab.async false

section
variable {s a u t : State} {j : NandJob} {k b : Nat} {w : StoWrite}

/-! ### One job -/

theorem State.duty_up (h : s.coreUp 0 = true) (l : Late) (f : State → State) : s.duty 0 l f = f s := if_pos h

theorem State.noteWork_spec (s : State) : OnlyChanges [.regs] s s.noteWork ∧ OnlyRegs [Reg.STO_STAT] s s.noteWork := by
  unfold State.noteWork
  extract_lets scrub moving s1
  have h1 : OnlyChanges [.regs] s s1 := s.setFlag_onlyChanges _ _ _
  have r1 : OnlyRegs [Reg.STO_STAT] s s1 := (OnlyRegs.refl _ s).setFlag
  split
  · exact ⟨h1, r1⟩
  · exact ⟨h1.trans ((State.setFlag_onlyChanges _ _ _ _).trans (State.setFlag_onlyChanges _ _ _ _)), r1.setFlag.setFlag⟩

/-- What STO shows of itself after a job (R396). -/
theorem State.shows_spec (s : State) : OnlyChanges [.regs, .out] s s.noteWork.noteSto
    ∧ (∀ off, ¬ figureReg off → s.noteWork.noteSto.reg off = s.reg off) := by
  obtain ⟨h1, r1⟩ := s.noteWork_spec
  have h2 := s.noteWork.noteSto_onlyChanges
  obtain ⟨r2, -⟩ := s.noteWork.noteSto_figured
  refine ⟨(h1.mono (by simp)).trans h2, fun off h => (r2 off h).trans (r1 off fun hm => h ?_)⟩
  exact .inr (.inr (.inl (List.mem_singleton.mp hm)))

theorem State.dropJob_one (hj : s.sto.jobs = [j]) : ∃ u, s.dropJob j.id = u ∧ u.sto = { s.sto with jobs := [] } ∧ u.regs = s.regs ∧ u.rtc = s.rtc
    ∧ OnlyChanges [.sto] s u := by
  refine ⟨_, rfl, ?_, rfl, rfl, s.withSto_onlyChanges _⟩
  unfold State.dropJob
  rw [hj]
  simp

/-- What the end of the one program or erase does. -/
theorem exec_nandProgramDone_one {ps : List Part} {pass : Bool} (hup : s.Up) (hcore : s.coreUp 0 = true) (hj : s.sto.jobs = [j])
    (hread : ∀ n i, j.what ≠ .read n i) (hscrub : j.what ≠ .scrub)
    (ht : (((if pass then (s.dropJob j.id).jobPassed j else (s.dropJob j.id).jobFailed j).finishWrites.pump).noteWork).noteSto = t)
    (hch : OnlyChanges ps s t) (hk : Part.key ∉ ps) : exec (.nandProgramDone j.id pass) s = .next t := by
  rw [exec_nandProgramDone, execNandProgramDone]
  refine State.powered_next hup ?_ hch hk
  have hfind : s.sto.jobs.find? (fun i => i.id == j.id) = some j := by rw [hj]; simp
  rw [State.duty_up hcore]
  simp only [hfind]
  cases hw : j.what with
  | read n i => exact absurd hw (hread n i)
  | scrub => exact absurd hw hscrub
  | copy n i => exact ht
  | wordline c i l => exact ht
  | move i => exact ht
  | erase => exact ht

/-! ### Erases -/

/-- An erase with nothing to write: what it did stands, and the figures follow. -/
theorem exec_nandErase_done {pass : Bool} (hup : s.Up) (hcore : s.coreUp 0 = true) (hj : s.sto.jobs = [j]) (hwhat : j.what = .erase)
    (hu : (if pass then (s.dropJob j.id).jobPassed j else (s.dropJob j.id).jobFailed j) = u)
    (hw : u.sto.writes = []) (hb : u.sto.buffer = []) (hch : OnlyChanges [.regs, .out, .sto] s u) :
    ∃ t, exec (.nandProgramDone j.id pass) s = .next t ∧ t.sto = u.sto ∧ (∀ off, ¬ figureReg off → t.reg off = u.reg off)
      ∧ OnlyChanges [.regs, .out, .sto] s t := by
  obtain ⟨h1, h2⟩ := u.shows_spec
  have hfull := hch.trans (h1.mono (by simp))
  refine ⟨_, exec_nandProgramDone_one hup hcore hj (by simp [hwhat]) (by simp [hwhat]) ?_ hfull (by simp), h1.2.2 .sto (by simp), h2, hfull⟩
  rw [hu, State.finishWrites_nothing hw, State.pump_nothing hw hb]

theorem State.nblock_setNblock (s : State) (b : Nat) (x : NandBlock) : (s.setNblock b x).nblock b = x := by
  unfold State.nblock State.setNblock
  rw [tget_tput, if_pos rfl]

theorem exec_erasePassed (hup : s.Up) (hcore : s.coreUp 0 = true) (hj : s.sto.jobs = [j]) (hwhat : j.what = .erase) (hw : s.sto.writes = [])
    (hb : s.sto.buffer = []) (hrated : s.num (Reg.STO_PLq_RATED_PE (s.nblock j.block).pool) = 0) :
    ∃ t, exec (.nandProgramDone j.id true) s = .next t
      ∧ t.nblock j.block = { s.nblock j.block with ec := (s.nblock j.block).ec + 1, st := .free, used := 0, reads := 0, worn := false }
      ∧ t.sto.jobs = [] ∧ OnlyChanges [.regs, .out, .sto] s t := by
  obtain ⟨v, hv, v1, v2, -, v3⟩ := State.dropJob_one hj
  have hblock : v.nblock j.block = s.nblock j.block := by
    unfold State.nblock
    rw [v1]
  have hnum : v.num (Reg.STO_PLq_RATED_PE (s.nblock j.block).pool) = 0 := (State.num_congr (State.reg_congr _ _ v2 _)).trans hrated
  obtain ⟨u, hu, u1, u2, u3, u4, u5⟩ : ∃ u, (if true = true then (s.dropJob j.id).jobPassed j else (s.dropJob j.id).jobFailed j) = u
      ∧ u.nblock j.block = { s.nblock j.block with ec := (s.nblock j.block).ec + 1, st := .free, used := 0, reads := 0, worn := false }
      ∧ u.sto.jobs = [] ∧ u.sto.writes = [] ∧ u.sto.buffer = [] ∧ OnlyChanges [.sto] v u := by
    refine ⟨v.erased j.block, ?_, ?_, congrArg Sto.jobs v1, (congrArg Sto.writes v1).trans hw, (congrArg Sto.buffer v1).trans hb,
      v.withSto_onlyChanges _⟩
    · simp only [if_true, hv, State.jobPassed, hwhat]
    · unfold State.erased
      extract_lets x ec rated
      rw [State.nblock_setNblock]
      simp only [x, ec, rated, hblock, hnum, ne_eq, not_true_eq_false, false_and, if_false]
      rfl
  obtain ⟨t, ht, t1, -, t2⟩ := exec_nandErase_done hup hcore hj hwhat hu u3 u4 ((v3.mono (by simp)).trans (u5.mono (by simp)))
  refine ⟨t, ht, ?_, by rw [t1, u2], t2⟩
  rw [← u1]
  unfold State.nblock
  rw [t1]

/-- The registers of bad blocks and of media failures are no figures of the pools. -/
theorem mediaFail_not_figure : ¬ figureReg Reg.STO_MEDIAFAIL_CNT := by
  have hirq : Reg.STO_MEDIAFAIL_CNT ∉ irqRegs Blk.STO := by decide
  rintro (⟨h, -⟩ | ⟨c, h, h'⟩ | h | h | h)
  · exact absurd h (by decide)
  · simp only [Reg.STO_MEDIAFAIL_CNT, Reg.STO_CHc_STAT] at h'
    omega
  · exact absurd h (by decide)
  · exact absurd h (by decide)
  · exact hirq h

theorem State.growBad_spec (hone : s.sto.blocks = [(b, s.nblock b)]) : (s.growBad b).nblock b = { s.nblock b with st := .bad }
    ∧ (s.growBad b).num Reg.STO_MEDIAFAIL_CNT = Nat.min (s.num Reg.STO_MEDIAFAIL_CNT + 1) (2 ^ 32 - 1)
    ∧ (s.growBad b).sto.writes = s.sto.writes ∧ (s.growBad b).sto.buffer = s.sto.buffer ∧ OnlyChanges [.regs, .sto] s (s.growBad b) := by
  obtain ⟨v, hv, v1, v2, v3, v4, v5⟩ : ∃ v, s.setNblock b { s.nblock b with st := .bad } = v ∧ v.nblock b = { s.nblock b with st := .bad }
      ∧ v.sto.blocks = [(b, { s.nblock b with st := .bad })] ∧ v.sto.writes = s.sto.writes ∧ v.sto.buffer = s.sto.buffer
      ∧ (v.regs = s.regs ∧ OnlyChanges [.sto] s v) := by
    refine ⟨_, rfl, s.nblock_setNblock b _, ?_, rfl, rfl, rfl, s.withSto_onlyChanges _⟩
    unfold State.setNblock
    rw [hone]
    simp [tput]
  obtain ⟨v5, v6⟩ := v5
  obtain ⟨y, hy, y1, y2, y3⟩ : ∃ y, (v.satInc Reg.STO_MEDIAFAIL_CNT 0 32 1).setNum (Reg.STO_CHc_LUNl_BAD (s.nblock b).channel (s.nblock b).lun)
      ((v.satInc Reg.STO_MEDIAFAIL_CNT 0 32 1).num (Reg.STO_CHc_LUNl_BAD (s.nblock b).channel (s.nblock b).lun) + 1) = y
      ∧ y.sto = v.sto ∧ y.num Reg.STO_MEDIAFAIL_CNT = Nat.min (s.num Reg.STO_MEDIAFAIL_CNT + 1) (2 ^ 32 - 1) ∧ OnlyChanges [.regs] v y := by
    refine ⟨_, rfl, rfl, ?_, (State.satInc_onlyChanges _ _ _ _ _).trans (State.setNum_onlyChanges _ _ _)⟩
    rw [State.num_congr (State.setNum_reg_other _ _ _ _ (by simp only [Reg.STO_CHc_LUNl_BAD, Reg.STO_MEDIAFAIL_CNT]; omega)), State.satInc_num,
      State.num_congr (State.reg_congr s v v5 _)]
  have hgrow : s.growBad b = y := by
    unfold State.growBad
    extract_lets x s1 s2
    have hs2 : s2 = y := by
      rw [← hy]
      simp only [s2, s1, x, hv]
    rw [hs2, y1, v2]
    simp
  rw [hgrow]
  refine ⟨?_, y2, by rw [y1, v3], by rw [y1, v4], (v6.mono (by simp)).trans (y3.mono (by simp))⟩
  rw [← v1]
  unfold State.nblock
  rw [y1]

theorem exec_eraseFailed (hup : s.Up) (hcore : s.coreUp 0 = true) (hj : s.sto.jobs = [j]) (hwhat : j.what = .erase) (hw : s.sto.writes = [])
    (hb : s.sto.buffer = []) (hone : s.sto.blocks = [(j.block, s.nblock j.block)]) :
    ∃ t, exec (.nandProgramDone j.id false) s = .next t ∧ (t.nblock j.block).st = .bad
      ∧ t.num Reg.STO_MEDIAFAIL_CNT = Nat.min (s.num Reg.STO_MEDIAFAIL_CNT + 1) (2 ^ 32 - 1) ∧ OnlyChanges [.regs, .out, .sto] s t := by
  obtain ⟨v, hv, v1, v2, -, v3⟩ := State.dropJob_one hj
  have hblock : v.nblock j.block = s.nblock j.block := by
    unfold State.nblock
    rw [v1]
  obtain ⟨g1, g2, g3, g4, g5⟩ := State.growBad_spec (s := v) (b := j.block) (by rw [v1, hblock]; exact hone)
  have hu : (if false = true then (s.dropJob j.id).jobPassed j else (s.dropJob j.id).jobFailed j) = v.growBad j.block := by
    simp only [Bool.false_eq_true, if_false, hv, State.jobFailed, hwhat]
  rw [v1] at g3 g4
  obtain ⟨t, ht, t1, t2, t3⟩ := exec_nandErase_done hup hcore hj hwhat hu (g3.trans hw) (g4.trans hb) ((v3.mono (by simp)).trans (g5.mono (by simp)))
  have hbad : t.nblock j.block = (v.growBad j.block).nblock j.block := by
    unfold State.nblock
    rw [t1]
  refine ⟨t, ht, by rw [hbad, g1], ?_, t3⟩
  rw [State.num_congr (t2 _ mediaFail_not_figure), g2, State.num_congr (State.reg_congr s v v2 _)]

/-! ### The last program of an APPEND -/

/-- The bytes of a write's first copy are programmed. -/
theorem State.programmed_one (hw : s.sto.writes = [w]) (htag : w.tag = k) (hc : w.copy1 = []) (n : Nat) :
    (s.programmed k 1 b n).sto = { s.sto with writes := [{ w with left1 := w.left1 - n, copy1 := [b] }] } ∧ OnlyChanges [.sto] s (s.programmed k 1 b n) := by
  have hfind : s.stoWrite k = some w := htag ▸ State.stoWrite_one hw
  unfold State.programmed
  rw [hfind]
  simp only [if_true, hc, List.contains_nil, Bool.false_eq_true, if_false, List.nil_append]
  refine ⟨?_, s.withSto_onlyChanges _⟩
  unfold State.putWrite
  rw [hw]
  simp

/-- What an APPEND makes of an object that does not exist yet (R374, R376). -/
theorem State.applied_firstRecord (hop : w.op = 2) (hcls : w.cls = 3) (hnone : s.stoObj w.obj = none) :
    s.applied w = (⟨3, 1, w.limit, .records [⟨0, s.chain, w.data, w.copy1⟩] 0 1, false, false⟩, 0) := by
  unfold State.applied
  simp [hop, hcls, hnone]

theorem exec_appendProgrammed (hup : s.Up) (hcore : s.coreUp 0 = true) (hasks : s.sto.asks = []) (hwaits : s.sto.waits = [])
    (hdur : s.sto.durable = []) (hj : s.sto.jobs = [j]) (hwhat : j.what = .copy k 1) (hw : s.sto.writes = [w]) (htag : w.tag = k) (hcls : w.cls = 3)
    (hop : w.op = 2) (hrep : w.rep = .none) (hleft1 : w.left1 = j.bytes) (hleft2 : w.left2 = 0) (hc : w.copy1 = []) (hact : (s.slot k).st = .active)
    (hgen : (s.slot k).gen = w.gen) (hblk : (s.slot k).block = Blk.STO) (hserv : tfind? s.hlk.serving k = none) (hnone : s.stoObj w.obj = none)
    (hbuf : s.sto.buffer = []) : ∃ t, exec (.nandProgramDone j.id true) s = .next t ∧ t.Ended k St.OK 0 ∧ t.sto.jobs = [] ∧ t.sto.writes = []
      ∧ t.stoObj w.obj = some ⟨3, 1, w.limit, .records [⟨0, s.chain, w.data, [j.block]⟩] 0 1, false, false⟩ := by
  obtain ⟨v, hv, v1, -, -, v3⟩ := State.dropJob_one hj
  obtain ⟨p1, p2⟩ := State.programmed_one (s := v) (b := j.block) (by rw [v1]; exact hw) htag hc j.bytes
  have hu : (if true = true then (s.dropJob j.id).jobPassed j else (s.dropJob j.id).jobFailed j) = v.programmed k 1 j.block j.bytes := by
    simp only [if_true, hv, State.jobPassed, hwhat]
  generalize v.programmed k 1 j.block j.bytes = u at *
  rw [v1, hleft1, Nat.sub_self] at p1
  generalize hw' : ({ w with
    left1 := 0, copy1 := [j.block] } : StoWrite) = w' at p1
  have hone : u.sto.writes = [w'] := by rw [p1]
  have hch := v3.trans p2
  have hserves : s.Serves k Blk.STO := ⟨hserv, hact, hblk⟩
  have hslot : u.slot k = s.slot k := State.slot_congr s u (congrArg Opt.slots (hch.2.2 .opt (by simp))) k
  have hchain : u.chain = s.chain := congrArg (fun y : Lat => y.pos / 2 ^ 32) (hch.2.2 .lat (by simp))
  have htag' : w'.tag = k := by rw [← hw', ← htag]
  have hlives : u.writeLives w' = true := by
    unfold State.writeLives
    rw [htag', hslot, hact, hgen, ← hw']
    simp
  have happ := State.applied_firstRecord (s := u) (w := w') (by rw [← hw']; exact hop) (by rw [← hw']; exact hcls)
    (by rw [← hw', State.stoObj, p1]; exact hnone)
  have hfin : u.finishWrites = (((u.putObj w.obj (some ⟨3, 1, w.limit, .records [⟨0, s.chain, w.data, [j.block]⟩] 0 1, false, false⟩)).dropWrite k).noteSto).stoEnd
      k St.OK 0 := by
    rw [State.finishWrites_one hone, htag', State.finishWrite_applies (htag' ▸ State.stoWrite_one hone)
      (State.writeDurable_done (by rw [← hw']) (by rw [← hw']; exact hleft2) (by rw [← hw']; exact hrep) (by rw [p1])) hlives
      (by rw [← hw']; simp only [hop]; decide) (by rw [← hw']; exact hrep) (by rw [← hw']; simp only [hcls]; decide), happ, hchain, ← hw']
    rfl
  generalize (⟨3, 1, w.limit, .records [⟨0, s.chain, w.data, [j.block]⟩] 0 1, false, false⟩ : StoObj) = o at *
  obtain ⟨hput, -⟩ := u.putObj_spec w.obj (some o)
  have hobjs := u.putObj_some_sto w.obj o
  generalize u.putObj w.obj (some o) = y at *
  rw [p1] at hobjs
  have hchy : OnlyChanges [.regs, .sto] s y := (hch.mono (by simp)).trans hput
  obtain ⟨z, hz, hend, z1, z2, z3, z4, z5⟩ := State.closeWrite_spec (w := w') (hserves.frame hchy) (by rw [hobjs]) htag' (by rw [hobjs]; exact hasks)
    (by rw [hobjs]; exact hwaits) (by rw [hobjs]; exact hdur) St.OK 0
  have hbufz : z.sto.buffer = [] := z4 (by rw [hobjs]; exact hbuf)
  obtain ⟨n1, -⟩ := z.shows_spec
  have hrun := exec_nandProgramDone_one (t := z.noteWork.noteSto) (ps := [.regs, .out, .opt, .scn, .sto]) (pass := true) hup hcore hj (by simp [hwhat])
    (by simp [hwhat]) (by rw [hu, hfin, hz, State.pump_nothing z1 hbufz]) ((hchy.mono (by simp)).trans (z5.trans (n1.mono (by simp)))) (by simp)
  generalize z.noteWork.noteSto = t at *
  have hst : t.sto = z.sto := n1.2.2 .sto (by simp)
  have hslott : t.slot k = z.slot k := State.slot_congr z t (congrArg Opt.slots (n1.2.2 .opt (by simp))) k
  obtain ⟨e1, e2, e3⟩ := hend
  refine ⟨t, hrun, ⟨by rw [hslott, e1], by rw [hslott, e2], by rw [hslott, e3]⟩, by rw [hst, z3, hobjs], by rw [hst, z1], ?_⟩
  rw [State.stoObj, hst, z2, hobjs, tfind?_tput, if_pos rfl]

end

end Sys2Proof.Machine

/-! PROOFS. The ends of NAND reads, and the flush of a TREND buffer (R368, R376, R379). -/

namespace Sys2Proof.Machine

-- One declaration after the other: the stacks of parallel elaboration would count against the memory limit of the check.
set_option Elab.async false

section
variable {s a u t : State} {j : NandJob} {k b : Nat}

/-! ### Reads -/

/-- A read's block after the read: worn when too much had to be corrected (R368). -/
def State.judgedBlock (s : State) (j : NandJob) (corrected : List Nat) (soft : Bool) : State :=
  (s.satInc Reg.STO_CORR_CNT 0 32 (corrected.foldl (· + ·) 0)).setNblock j.block
    { s.nblock j.block with worn := (s.nblock j.block).worn || overThreshold (s.nblock j.block).pool corrected soft }

theorem State.judgedBlock_spec (s : State) (j : NandJob) (corrected : List Nat) (soft : Bool) :
    (s.judgedBlock j corrected soft).sto = { s.sto with blocks := (s.judgedBlock j corrected soft).sto.blocks }
      ∧ OnlyChanges [.regs, .sto] s (s.judgedBlock j corrected soft) :=
  ⟨rfl, ((s.satInc_onlyChanges _ _ _ _).mono (by simp)).trans ((State.withSto_onlyChanges _ _).mono (by simp))⟩

theorem State.findJob_one (hj : s.sto.jobs = [j]) : s.sto.jobs.find? (fun i => i.id == j.id) = some j := by
  rw [hj]
  simp

/-- A bad codeword is read again at the next level (R368). -/
theorem exec_nandReadDone_again (hup : s.Up) (hcore : s.coreUp 0 = true) (hj : s.sto.jobs = [j]) (hwhat : j.what = .read k 1)
    (hlevel : j.attempt < s.sto.retryLevels) : ∃ t, exec (.nandReadDone j.id [] false .bad) s = .next t
      ∧ t.sto.jobs = [{ j with attempt := j.attempt + 1 }] ∧ OnlyChanges [.regs, .sto] s t := by
  obtain ⟨v1, v2⟩ := s.judgedBlock_spec j [] false
  have hrun : ∀ t, ({ s.judgedBlock j [] false with sto := { (s.judgedBlock j [] false).sto with
      jobs := (s.judgedBlock j [] false).sto.jobs.map fun (i : NandJob) => if i.id = j.id then { i with attempt := i.attempt + 1 } else i } } : State) = t
      → OnlyChanges [.regs, .sto] s t → exec (.nandReadDone j.id [] false .bad) s = .next t := fun t ht hch => by
    rw [exec_nandReadDone, execNandReadDone]
    refine State.powered_next hup ?_ hch (by simp)
    rw [State.duty_up hcore]
    simp only [State.findJob_one hj, hwhat, hlevel, Bool.not_true, Bool.false_eq_true, if_false, and_self, if_true]
    exact ht
  generalize s.judgedBlock j [] false = v at *
  have hjobs : v.sto.jobs = [j] := by rw [v1]; exact hj
  refine ⟨_, hrun _ rfl (v2.trans ((v.withSto_onlyChanges _).mono (by simp))), ?_, v2.trans ((v.withSto_onlyChanges _).mono (by simp))⟩
  simp only [hjobs, List.map_cons, List.map_nil, if_true]

/-- A good read completes its GET (R368, R376). -/
theorem exec_nandReadDone_good (hup : s.Up) (hcore : s.coreUp 0 = true) (hasks : s.sto.asks = []) (hwaits : s.sto.waits = [])
    (hdur : s.sto.durable = []) (hj : s.sto.jobs = [j]) (hwhat : j.what = .read k 1) (hw : s.sto.writes = [])
    (hreads : s.sto.reads = [⟨k, (s.slot k).gen, 1, false⟩]) (hact : (s.slot k).st = .active) (hblk : (s.slot k).block = Blk.STO)
    (hserv : tfind? s.hlk.serving k = none) {o : StoObj} {d : List Byte} (ho : s.stoObj (stoParam (s.slot k)).obj = some o)
    (hd : getBytes o (stoParam (s.slot k)).pos (stoParam (s.slot k)).len = .ok d) :
    ∃ t, exec (.nandReadDone j.id [] false .good) s = .next t ∧ t.Ended k St.OK (BitVec.ofNat 32 d.length)
      ∧ t.out.contains (.dma (stoParam (s.slot k)).addr d) = true ∧ t.sto.reads = [] := by
  obtain ⟨v1, v2⟩ := s.judgedBlock_spec j [] false
  have hserves : s.Serves k Blk.STO := ⟨hserv, hact, hblk⟩
  obtain ⟨u, hu, u1, -, -, u2⟩ := State.dropJob_one (s := s.judgedBlock j [] false) (j := j) (by rw [v1]; exact hj)
  have hch := v2.trans (u2.mono (by simp))
  have hslot : u.slot k = s.slot k := State.slot_congr s u (congrArg Opt.slots (hch.2.2 .opt (by simp))) k
  have hfind : u.sto.reads.find? (fun r => r.tag == k) = some ⟨k, (s.slot k).gen, 1, false⟩ := by
    rw [u1, v1]
    simp [hreads]
  have hobj : u.stoObj (stoParam (s.slot k)).obj = some o := by
    rw [State.stoObj, u1, v1]
    exact ho
  have hrun : ∀ t, (u.completeGet k).noteSto = t → OnlyChanges [.regs, .out, .opt, .scn, .sto] s t
      → exec (.nandReadDone j.id [] false .good) s = .next t := fun t ht hcht => by
    rw [exec_nandReadDone, execNandReadDone]
    refine State.powered_next hup ?_ hcht (by simp)
    rw [State.duty_up hcore]
    simp only [State.findJob_one hj, hwhat, reduceCtorEq, Bool.not_true, Bool.false_eq_true, if_false, false_and, if_true]
    rw [show ((s.satInc Reg.STO_CORR_CNT 0 32 (List.foldl (· + ·) 0 [])).setNblock j.block
      { s.nblock j.block with worn := (s.nblock j.block).worn || overThreshold (s.nblock j.block).pool [] false }).dropJob j.id = u from hu, hfind]
    exact ht
  obtain ⟨z, l, hz, hend, hout, hsto, hl, hchz⟩ := State.emitEnd_spec (hserves.frame hch) ⟨by rw [u1, v1]; exact hasks, by rw [u1, v1]; exact hw,
    by rw [u1, v1]; exact hwaits, by rw [u1, v1]; exact hdur⟩ (.dma (stoParam (s.slot k)).addr d) (BitVec.ofNat 32 d.length)
  rw [State.completeGet_eq (by rw [hslot]; exact hobj) (by rw [hslot]; exact hd), hslot, hz] at hrun
  have n1 := z.noteSto_onlyChanges
  have hmem : Output.dma (stoParam (s.slot k)).addr d ∈ z.out := by rw [hout]; simp
  have hmemt := z.noteSto_out hmem
  generalize z.noteSto = t at *
  have hslott : t.slot k = z.slot k := State.slot_congr z t (congrArg Opt.slots (n1.2.2 .opt (by simp))) k
  obtain ⟨e1, e2, e3⟩ := hend
  refine ⟨t, hrun t rfl ((hch.mono (by simp)).trans ((hchz.mono (by simp)).trans (n1.mono (by simp)))),
    ⟨by rw [hslott, e1], by rw [hslott, e2], by rw [hslott, e3]⟩, List.contains_iff_mem.mpr hmemt, ?_⟩
  rw [(n1.2.2 .sto (by simp) : t.sto = z.sto), hsto]
  refine hl fun r hr => ?_
  rw [u1, v1] at hr
  simp only [hreads, List.mem_singleton] at hr
  rw [hr]

/-! ### The flush of a TREND buffer -/

theorem exec_trendFlush_due (hup : s.Up) (hcore : s.coreUp 0 = true) (hmode : s.mode ≠ Mode.MINIMAL) (hcfg : s.fld Reg.STO_CFG 8 8 = 0) {c : Nat}
    (hclk : tfind? s.sto.bufClk 8 = some c) (hdue : c + 1000 * msClk ≤ s.clk) (hbuf : tget (fun _ => []) s.sto.buffer 8 ≠ [])
    (hblock : s.takingBlock 4 (fun k => k / 8 == 0 && s.lunUsable (k / 8) (k % 8)) = some b) :
    ∃ t p, exec (.trendFlush 4 0) s = .next t ∧ t.sto.jobs = s.sto.jobs ++ [⟨s.sto.nextId, b, .wordline 4 0 p, wordlineBytes, 0⟩] := by
  have hpw := s.programWordline_programs 4 0
  have hjobs : ∃ p, (s.programWordline 4 0).sto.jobs = s.sto.jobs ++ [⟨s.sto.nextId, b, .wordline 4 0 p, wordlineBytes, 0⟩] := by
    unfold State.programWordline
    simp only [Nat.add_zero, show 2 * 4 = 8 from rfl, hbuf, if_false, hblock]
    exact ⟨_, rfl⟩
  have hrun : ∀ t, (s.programWordline 4 0).noteSto = t → OnlyChanges [.regs, .out, .sto] s t → exec (.trendFlush 4 0) s = .next t := fun t ht hch => by
    rw [exec_trendFlush, execTrendFlush]
    refine State.powered_next hup ?_ hch (by simp)
    rw [State.duty_up hcore]
    have hlate : ¬ s.clk < c + 10 * 100 * msClk := by omega
    simp only [hcfg, hmode, Nat.add_zero, show 2 * 4 = 8 from rfl, hclk, if_true, hlate, if_false]
    exact ht
  obtain ⟨p, hp⟩ := hjobs
  have n1 := (s.programWordline 4 0).noteSto_onlyChanges
  obtain ⟨f1, -, -⟩ := hpw
  refine ⟨_, p, hrun _ rfl ((f1.mono (by simp)).trans (n1.mono (by simp))), ?_⟩
  rw [State.noteSto_sto, hp]

end

end Sys2Proof.Machine

/-! PROOFS. STO's background work: scrubbing, relocation, collection and wear levelling (R371, R396). -/

namespace Sys2Proof.Machine

-- One declaration after the other: the stacks of parallel elaboration would count against the memory limit of the check.
set_option Elab.async false

section
variable {s a u t : State} {b c q : Nat}

/-! ### Jobs that begin -/

theorem State.startJob_first (hj : s.sto.jobs = []) (b : Nat) (what : NandDo) (n : Nat) :
    (s.startJob b what n).sto.jobs = [⟨s.sto.nextId, b, what, n, 0⟩] := by
  unfold State.startJob
  rw [hj]
  rfl

/-- A block with no valid data is erased at once (R371). -/
theorem State.startMove_erase (hj : s.sto.jobs = []) (hvalid : s.validBytes b = 0) (dest : Option Nat) :
    s.startMove b dest = s.startJob b .erase 0 := by
  unfold State.startMove
  simp only [hj, hvalid, List.any_nil, Bool.false_eq_true, if_false, if_true]

theorem State.movable_closed (hj : s.sto.jobs = []) (hst : (s.nblock b).st = .closed) : s.movable b = true := by
  unfold State.movable
  simp only [hj, hst, List.any_nil, beq_self_eq_true, Bool.true_or, Bool.not_false, Bool.and_self]

theorem State.movable_free (hst : (s.nblock b).st = .free) : s.movable b = false := by
  unfold State.movable
  simp [hst]

/-! ### Scrubbing -/

theorem exec_scrubDue_begins (hup : s.Up) (hcore : s.coreUp 0 = true) (hready : s.flag Reg.STO_STAT 0 = true) (hen : s.en Blk.STO = true)
    (hvalid : s.validBytes b ≠ 0) (hdue : (s.nblock b).day + s.scrubDays ≤ s.today) (hj : s.sto.jobs = []) :
    ∃ t, exec (.scrubDue b) s = .next t ∧ t.sto.jobs = [⟨s.sto.nextId, b, .scrub, 0, 0⟩]
      ∧ t.flag Reg.STO_STAT 4 = true ∧ OnlyChanges [.regs, .out, .sto] s t := by
  have hrun : ∀ t, (s.startJob b .scrub 0).noteWork.noteSto = t → OnlyChanges [.regs, .out, .sto] s t → exec (.scrubDue b) s = .next t :=
    fun t ht hch => by
    rw [exec_scrubDue, execScrubDue]
    refine State.powered_next hup ?_ hch (by simp)
    rw [State.duty_up hcore]
    simp only [hready, hen, hvalid, hdue, hj, decide_true, Bool.true_or, List.any_nil, Bool.not_true, Bool.false_eq_true, or_self, if_false]
    exact ht
  have hjobs := State.startJob_first hj b .scrub 0
  obtain ⟨p1, -, -⟩ := s.startJob_programs b .scrub 0
  generalize s.startJob b .scrub 0 = u at *
  have hflag : u.noteWork.flag Reg.STO_STAT 4 = true := by
    unfold State.noteWork
    rw [hjobs]
    simp only [List.any_cons, List.any_nil, beq_self_eq_true, Bool.or_false, Bool.false_eq_true, if_false]
    exact (State.setFlag_flag_other _ _ _ _ _ (by decide) (by decide)).trans ((State.setFlag_flag_other _ _ _ _ _ (by decide) (by decide)).trans
      (State.setFlag_flag_same _ _ _ _ (by decide)))
  obtain ⟨n1, -⟩ := u.shows_spec
  obtain ⟨-, hfig⟩ := u.noteWork.noteSto_figured
  have hch : OnlyChanges [.regs, .out, .sto] s u.noteWork.noteSto := (p1.mono (by simp)).trans (n1.mono (by simp))
  refine ⟨_, hrun _ rfl hch, ?_, (hfig 4 (by decide) (by decide) (by decide)).trans hflag, hch⟩
  rw [(n1.2.2 .sto (by simp) : _ = u.sto), hjobs]

/-! ### Relocation and collection -/

theorem exec_relocation_erases (hup : s.Up) (hcore : s.coreUp 0 = true) (hmode : s.mode ≠ Mode.MINIMAL) (hen : s.en Blk.STO = true)
    (hj : s.sto.jobs = []) (hvalid : s.validBytes b = 0) (hst : (s.nblock b).st = .closed) (hworn : (s.nblock b).worn = true) :
    ∃ t, exec (.relocation b) s = .next t ∧ t.sto.jobs = [⟨s.sto.nextId, b, .erase, 0, 0⟩] ∧ OnlyChanges [.regs, .out, .sto] s t := by
  have hch : OnlyChanges [.regs, .out, .sto] s (s.startJob b .erase 0).noteSto :=
    ((s.startJob_programs b .erase 0).frame.mono (by simp)).trans ((State.noteSto_onlyChanges _).mono (by simp))
  refine ⟨_, ?_, ?_, hch⟩
  · rw [exec_relocation, execRelocation]
    refine State.powered_next hup ?_ hch (by simp)
    rw [State.duty_up hcore]
    simp only [hworn, State.movable_closed hj hst, hmode, hen, Bool.not_true, Bool.false_eq_true, or_self, if_false, State.startMove_erase hj hvalid]
  · rw [State.noteSto_sto, State.startJob_first hj]

theorem exec_garbageCollect_erases (hup : s.Up) (hcore : s.coreUp 0 = true) (hmode : s.mode ≠ Mode.MINIMAL) (hen : s.en Blk.STO = true)
    (hj : s.sto.jobs = []) (hvalid : s.validBytes b = 0) (hst : (s.nblock b).st = .closed) (hq : q < 2) (hone : s.sto.blocks = [(b, s.nblock b)])
    (hpool : (s.nblock b).pool = q) (hsize : 0 < s.blockBytes q) (hfree : 100 * s.num (Reg.STO_PLq_FREE q) < s.gcFree) :
    ∃ t, exec (.garbageCollect q) s = .next t ∧ t.sto.jobs = [⟨s.sto.nextId, b, .erase, 0, 0⟩]
      ∧ t.flag Reg.STO_STAT 5 = true ∧ OnlyChanges [.regs, .out, .sto] s t := by
  have hpb : s.poolBlocks q = [(b, s.nblock b)] := by
    unfold State.poolBlocks
    rw [hone]
    simp [hpool]
  have hch : OnlyChanges [.regs, .out, .sto] s ((s.startJob b .erase 0).setFlag Reg.STO_STAT 5 true).noteSto :=
    ((s.startJob_programs b .erase 0).frame.mono (by simp)).trans
      (((State.setFlag_onlyChanges _ _ _ _).mono (by simp)).trans ((State.noteSto_onlyChanges _).mono (by simp)))
  refine ⟨_, ?_, ?_, ?_, hch⟩
  · rw [exec_garbageCollect, execGarbageCollect]
    refine State.powered_next hup ?_ hch (by simp)
    rw [State.duty_up hcore]
    have hlow : ¬ 1 * s.gcFree ≤ 100 * s.num (Reg.STO_PLq_FREE q) := by omega
    simp only [hpb, hmode, hen, hst, State.movable_closed hj hst, hvalid, hsize, Nat.not_lt.mpr (Nat.le_of_lt_succ hq), List.length_singleton, hlow,
      List.foldl_cons, List.foldl_nil, and_self, if_true, Bool.not_true, Bool.false_eq_true, reduceCtorEq, or_self, if_false,
      State.startMove_erase hj hvalid]
  · rw [State.noteSto_sto, State.setFlag_sto, State.startJob_first hj]
  · obtain ⟨-, hfig⟩ := ((s.startJob b .erase 0).setFlag Reg.STO_STAT 5 true).noteSto_figured
    exact (hfig 5 (by decide) (by decide) (by decide)).trans (State.setFlag_flag_same _ _ _ _ (by decide))

/-! ### Wear levelling -/

/-- The block of lowest count moves to the free block of highest count, of two blocks the one to the other (R371). -/
theorem State.wornFree_pair (hblocks : s.sto.blocks = [(b, s.nblock b), (c, s.nblock c)]) (hb : (s.nblock b).st = .closed)
    (hc : (s.nblock c).st = .free) (hpool : (s.nblock c).pool = q) : s.wornFree q = some c := by
  unfold State.wornFree
  rw [hblocks]
  simp [hb, hc, hpool]

/-- A block's data starts to move to another. -/
theorem State.startMove_to (hj : s.sto.jobs = []) (hvalid : s.validBytes b ≠ 0) (c : Nat) : ∃ u, s.startMove b (some c) = u
    ∧ u.sto.jobs = [⟨s.sto.nextId, c, .move b, Nat.min (s.validBytes b) (s.blockBytes (s.nblock b).pool), 0⟩] ∧ u.regs = s.regs
    ∧ OnlyChanges [.sto] s u := by
  refine ⟨(s.setNblock c { s.nblock c with
      st := .closed, used := Nat.min (s.validBytes b) (s.blockBytes (s.nblock b).pool), reads := 0, day := s.today, worn := false }).startJob c (.move b)
    (Nat.min (s.validBytes b) (s.blockBytes (s.nblock b).pool)), ?_, State.startJob_first hj _ _ _, rfl,
    (State.withSto_onlyChanges _ _).trans (State.withSto_onlyChanges _ _)⟩
  unfold State.startMove
  simp only [hj, hvalid, List.any_nil, Bool.false_eq_true, if_false]

theorem wlCnt_not_figure : ¬ figureReg Reg.STO_WL_CNT := by
  have hirq : Reg.STO_WL_CNT ∉ irqRegs Blk.STO := by decide
  rintro (⟨h, -⟩ | ⟨c, h, h'⟩ | h | h | h)
  · exact absurd h (by decide)
  · simp only [Reg.STO_WL_CNT, Reg.STO_CHc_STAT] at h'
    omega
  · exact absurd h (by decide)
  · exact absurd h (by decide)
  · exact hirq h

theorem exec_staticWearLevel_moves (hup : s.Up) (hcore : s.coreUp 0 = true) (hmode : s.mode ≠ Mode.MINIMAL) (hen : s.en Blk.STO = true)
    (hj : s.sto.jobs = []) (hq : q < 2) (hblocks : s.sto.blocks = [(b, s.nblock b), (c, s.nblock c)]) (hpb : (s.nblock b).pool = q)
    (hpc : (s.nblock c).pool = q) (hb : (s.nblock b).st = .closed) (hc : (s.nblock c).st = .free) (hvalid : s.validBytes b ≠ 0)
    (hspread : s.num (Reg.STO_PLq_EC_MIN q) + 200 < s.num (Reg.STO_PLq_EC_MAX q)) :
    ∃ t, exec (.staticWearLevel q) s = .next t ∧ t.num Reg.STO_WL_CNT = Nat.min (s.num Reg.STO_WL_CNT + 1) (2 ^ 32 - 1)
      ∧ t.sto.jobs = [⟨s.sto.nextId, c, .move b, Nat.min (s.validBytes b) (s.blockBytes q), 0⟩] ∧ t.flag Reg.STO_STAT 6 = true := by
  obtain ⟨u, hu, u1, u2, u3⟩ := State.startMove_to hj hvalid c
  have hrun : ∀ t, ((u.satInc Reg.STO_WL_CNT 0 32 1).setFlag Reg.STO_STAT 6 true).noteSto = t → OnlyChanges [.regs, .out, .sto] s t
      → exec (.staticWearLevel q) s = .next t := fun t ht hch => by
    rw [exec_staticWearLevel, execStaticWearLevel]
    refine State.powered_next hup ?_ hch (by simp)
    rw [State.duty_up hcore]
    have hon : 200 < s.num (Reg.STO_PLq_EC_MAX q) - s.num (Reg.STO_PLq_EC_MIN q) := by omega
    simp only [hblocks, hpb, hpc, hmode, hen, hon, hvalid, State.movable_closed hj hb, State.movable_free hc, State.wornFree_pair hblocks hb hc hpc,
      Nat.not_lt.mpr (Nat.le_of_lt_succ hq), decide_true, Bool.true_or, List.foldl_cons, List.foldl_nil, ne_eq, not_false_eq_true, and_self, if_true,
      Bool.not_true, Bool.false_eq_true, false_and, and_false, or_self, if_false, hu]
    exact ht
  obtain ⟨v, hv, v1, v2, v3, v4⟩ : ∃ v, (u.satInc Reg.STO_WL_CNT 0 32 1).setFlag Reg.STO_STAT 6 true = v
      ∧ v.num Reg.STO_WL_CNT = Nat.min (s.num Reg.STO_WL_CNT + 1) (2 ^ 32 - 1) ∧ v.flag Reg.STO_STAT 6 = true ∧ v.sto = u.sto
      ∧ OnlyChanges [.regs] u v := by
    refine ⟨_, rfl, ?_, State.setFlag_flag_same _ _ _ _ (by decide), rfl, (State.satInc_onlyChanges _ _ _ _ _).trans (State.setFlag_onlyChanges _ _ _ _)⟩
    rw [State.num_congr (State.setFlag_reg_other _ _ _ _ _ (by decide)), State.satInc_num, State.num_congr (State.reg_congr s u u2 _)]
  rw [hv] at hrun
  obtain ⟨f1, f2⟩ := v.noteSto_figured
  refine ⟨_, hrun _ rfl ((u3.mono (by simp)).trans ((v4.mono (by simp)).trans (v.noteSto_onlyChanges.mono (by simp)))), ?_, ?_,
    (f2 6 (by decide) (by decide) (by decide)).trans v2⟩
  · rw [State.num_congr (f1 _ wlCnt_not_figure), v1]
  · rw [State.noteSto_sto, v3, u1, hpb]

end

end Sys2Proof.Machine

/-! PROOFS. Replica synchronisation: the newest version of an unreplicated object is sent to the peer (R384, R405). -/

namespace Sys2Proof.Machine

-- One declaration after the other: the stacks of parallel elaboration would count against the memory limit of the check.
set_option Elab.async false

section
variable {s a u t : State} {m : Nat}

/-! ### A frame leaves STO's state bits, whatever port it takes -/

theorem State.cnt_stoFlag (s : State) (p : Nat) {k : Nat} (hk : k = 32 ∨ k = 36) (n i : Nat) :
    (s.cnt p k n).flag Reg.STO_STAT i = s.flag Reg.STO_STAT i := by
  refine State.flag_congr _ _ _ _ (s.cnt_onlyRegs p k n _ fun hm => ?_)
  rcases List.mem_cons.1 hm with hc | hc
  · simp only [Reg.STO_STAT, Reg.FAB_PnCNTk] at hc
    omega
  · exact absurd hc (by decide)

theorem State.endLpi_stoFlag (s : State) (p : Nat) {i : Nat} (hi : 6 ≠ i) : (s.endLpi p).flag Reg.STO_STAT i = s.flag Reg.STO_STAT i := by
  have hbit : (s.setFlag (Reg.FAB_PnSTAT p) 6 false).flag Reg.STO_STAT i = s.flag Reg.STO_STAT i := by
    by_cases hoff : Reg.FAB_PnSTAT p = Reg.STO_STAT
    · rw [hoff]
      exact s.setFlag_flag_other _ _ _ _ (by decide) hi
    · exact State.flag_congr _ _ _ _ (s.setFlag_reg_other _ _ _ _ hoff)
  unfold State.endLpi
  split
  · rfl
  · exact ((s.setFlag (Reg.FAB_PnSTAT p) 6 false).cnt_stoFlag p (.inr rfl) _ i).trans hbit

theorem State.enqueue_stoFlag (s : State) (p cls : Nat) (q : QFrame) {i : Nat} (hi : 6 ≠ i) :
    (s.enqueue p cls q).flag Reg.STO_STAT i = s.flag Reg.STO_STAT i := by
  unfold State.enqueue
  simp only
  split
  · exact State.flag_congr _ _ _ _ (s.noteTxPort_reg _ _ _ _)
  · split
    · exact (State.flag_congr _ _ _ _ (State.noteTxPort_reg _ _ _ _ _)).trans (s.cnt_stoFlag p (.inl rfl) _ i)
    · split
      · exact (State.endLpi_stoFlag _ p hi).trans (State.flag_congr _ _ _ _ (State.noteQueued_reg _ _ _))
      · exact State.flag_congr _ _ _ _ (State.noteQueued_reg _ _ _)

theorem State.noteBuf_stoFlag (s : State) (i : Nat) : s.noteBuf.flag Reg.STO_STAT i = s.flag Reg.STO_STAT i :=
  State.flag_congr _ _ _ _ ((State.setFld_reg_other _ _ _ _ _ _ (by decide)).trans (s.setFld_reg_other _ _ _ _ _ (by decide)))

theorem State.sendInternal_stoFlag (s : State) (ptp : Option (Nat × Nat × Nat)) (ports : List Nat) (f : EthFrame) {i : Nat} (hi : 6 ≠ i) :
    (s.sendInternal 1 ptp ports f).flag Reg.STO_STAT i = s.flag Reg.STO_STAT i := by
  unfold State.sendInternal
  split
  · exact State.flag_congr _ _ _ _ (s.satInc_reg_other _ _ _ _ _ (by decide))
  · unfold State.forward
    refine (State.noteBuf_stoFlag _ _).trans ?_
    exact foldl_keeps (P := fun a : State => a.flag Reg.STO_STAT i = s.flag Reg.STO_STAT i) ports
      (fun (a : State) p h => (a.enqueue_stoFlag p _ _ hi).trans h) rfl

theorem State.emitLink_stoFlag (s : State) (dst type seq flags : Nat) (fields : List Nat) {i : Nat} (hi : 6 ≠ i) :
    (s.emitLink dst type seq flags fields).flag Reg.STO_STAT i = s.flag Reg.STO_STAT i := by
  obtain ⟨a, ha, h⟩ : ∃ a, ({ s with hlk := { s.hlk with counter := s.hlk.counter + 1 } } : State) = a
      ∧ a.flag Reg.STO_STAT i = s.flag Reg.STO_STAT i := ⟨_, rfl, rfl⟩
  unfold State.emitLink
  simp only [ha]
  split
  all_goals exact (a.sendInternal_stoFlag _ _ _ hi).trans h

/-! ### A reliable frame -/

theorem State.setPeer_peer (s : State) (m : Nat) (p : Peer) : (s.setPeer m p).peer m = p := by
  unfold State.peer State.setPeer
  exact (tget_tset _ _ _ _ _).trans (if_pos rfl)

/-- A reliable frame takes the next SEQ of its pair (R405). -/
theorem State.linkSendPart_seq (hopen : s.linkOpen = true) (m type : Nat) (more : Bool) (fields ops : List Nat) :
    ((s.linkSendPart m type more fields ops).peer m).txSeq = (s.peer m).txSeq + 1
      ∧ (∀ i, 6 ≠ i → (s.linkSendPart m type more fields ops).flag Reg.STO_STAT i = s.flag Reg.STO_STAT i)
      ∧ OnlyChanges [.regs, .out, .fab, .hlk] s (s.linkSendPart m type more fields ops) := by
  unfold State.linkSendPart
  rw [if_pos hopen]
  extract_lets p f s1
  obtain ⟨q, hq, q1⟩ : ∃ q : Peer, { p with
      txSeq := p.txSeq + 1, unacked := p.unacked ++ [f] } = q ∧ q.txSeq = p.txSeq + 1 := ⟨_, rfl, rfl⟩
  have h1 : (s1.peer m).txSeq = p.txSeq + 1 := by
    rw [← q1, ← hq]
    exact congrArg Peer.txSeq (s.setPeer_peer m _)
  have h2 : ∀ i, s1.flag Reg.STO_STAT i = s.flag Reg.STO_STAT i := fun i =>
    State.flag_congr _ _ _ _ (s.setPeer_reg m _ (by simp only [Reg.HLK_MBm_TX, Reg.STO_STAT]; omega))
  have h3 : OnlyChanges [.regs, .out, .fab, .hlk] s s1 := by
    simp [onlyChanges_iff, s1, State.setPeer]
  generalize s1 = b at *
  split
  · obtain ⟨r, o, fb, h, he⟩ := b.emitLink_eq m type f.seq (relFlags false more) fields
    have hch : OnlyChanges [.regs, .out, .fab, .hlk] b (b.emitLink m type f.seq (relFlags false more) fields) := by
      rw [he]
      simp [onlyChanges_iff]
    refine ⟨?_, fun i hi => (b.emitLink_stoFlag _ _ _ _ _ hi).trans (h2 i), h3.trans hch⟩
    rw [State.peer, State.emitLink_hlk]
    exact h1
  · exact ⟨h1, fun i _ => h2 i, h3⟩

/-- Data of one frame's length leave in one frame (R404, R405). -/
theorem State.sendReplica_one {d : List Byte} (hd : d.length ≤ 1416) (m id ver : Nat) :
    s.sendReplica m id ver (some d) = s.linkSendPart m 0x40 false ([id, ver, d.length, 0, 0] ++ d.map BitVec.toNat) [] := by
  have hn : Nat.max 1 ((d.length + 1416 - 1) / 1416) = 1 := by
    have : (d.length + 1416 - 1) / 1416 ≤ 1 := by omega
    exact Nat.max_eq_left this
  unfold State.sendReplica
  simp only [State.sendParts, hn]
  rw [State.forN_succ, State.forN_zero]
  simp only [Nat.zero_mul, List.drop_zero, List.take_of_length_le hd, Nat.zero_add, Nat.lt_irrefl, decide_false]

/-! ### REPLICA_SYNC -/

/-- STO_STAT is no register that the way to other modules depends on. -/
theorem State.linkOpen_stoFlag (s : State) (i : Nat) (v : Bool) : (s.setFlag Reg.STO_STAT i v).linkOpen = s.linkOpen := by
  have hreg : ∀ off, off ≠ Reg.STO_STAT → (s.setFlag Reg.STO_STAT i v).reg off = s.reg off := fun off h =>
    s.setFlag_reg_other _ _ off v h.symm
  have hflag : ∀ off b, off ≠ Reg.STO_STAT → (s.setFlag Reg.STO_STAT i v).flag off b = s.flag off b := fun off b h =>
    State.flag_congr _ _ _ _ (hreg off h)
  have hkey : (s.setFlag Reg.STO_STAT i v).fld Reg.HLK_CFG 12 4 = s.fld Reg.HLK_CFG 12 4 := State.fld_congr (hreg Reg.HLK_CFG (by decide)) 12 4
  have hctrl : Reg.CTRL Blk.HLK ≠ Reg.STO_STAT := by decide
  have hattr : Reg.KEY_SLOTs_ATTR (s.fld Reg.HLK_CFG 12 4) ≠ Reg.STO_STAT := by
    simp only [Reg.KEY_SLOTs_ATTR, Reg.STO_STAT]
    omega
  unfold State.linkOpen State.linkKey State.en State.inSrst
  simp only [hkey, hflag _ _ hctrl, hflag _ _ hattr, State.setFlag_sup]

theorem exec_replicaSync_one {id : Nat} {o : StoObj} {d : List Byte} (hup : s.Up) (hcore : s.coreUp 0 = true) (hpeer : s.stoPeer = some m)
    (hpup : s.peerUp = true) (hmode : s.mode ≠ Mode.MINIMAL) (hunrep : s.sto.unrep = [id]) (hw : s.sto.writes = []) (ho : s.stoObj id = some o)
    (hbody : ∃ c1 c2, o.body = .whole d c1 c2) (hd : d.length ≤ 1416) :
    ∃ t, exec .replicaSync s = .next t ∧ t.flag Reg.STO_STAT 3 = true ∧ (t.peer m).txSeq = (s.peer m).txSeq + 1
      ∧ OnlyChanges [.regs, .out, .fab, .hlk] s t := by
  obtain ⟨c1, c2, hb⟩ := hbody
  have hopen : s.linkOpen = true := by
    unfold State.peerUp at hpup
    rw [hpeer] at hpup
    simp only [Bool.and_eq_true] at hpup
    exact hpup.2
  obtain ⟨u, hu, u1, u2, u3, u4, u5⟩ : ∃ u, s.setFlag Reg.STO_STAT 3 true = u ∧ u.flag Reg.STO_STAT 3 = true ∧ u.sto = s.sto ∧ u.hlk = s.hlk
      ∧ u.linkOpen = true ∧ OnlyChanges [.regs] s u :=
    ⟨_, rfl, s.setFlag_flag_same _ _ _ (by decide), rfl, rfl, (s.linkOpen_stoFlag 3 true).trans hopen, s.setFlag_onlyChanges _ _ _⟩
  have hobj : u.stoObj id = some o := by
    rw [State.stoObj, u2]
    exact ho
  obtain ⟨n1, n2, n3⟩ := State.linkSendPart_seq u4 m 0x40 false ([id, o.ver, d.length, 0, 0] ++ d.map BitVec.toNat) []
  have hsent : u.sendReplica m id o.ver (some d) = u.linkSendPart m 0x40 false ([id, o.ver, d.length, 0, 0] ++ d.map BitVec.toNat) [] :=
    State.sendReplica_one hd m id o.ver
  generalize u.linkSendPart m 0x40 false ([id, o.ver, d.length, 0, 0] ++ d.map BitVec.toNat) [] = t at *
  have hch : OnlyChanges [.regs, .out, .fab, .hlk] s t := (u5.mono (by simp)).trans n3
  have hst : t.sto.writes = [] := by rw [(n3.2.2 .sto (by simp) : t.sto = u.sto), u2, hw]
  refine ⟨t, ?_, (n2 3 (by decide)).trans u1, by rw [n1, State.peer, State.peer, u3], hch⟩
  rw [exec_replicaSync, execReplicaSync]
  refine State.powered_next hup ?_ hch (by simp)
  rw [State.duty_up hcore, hpeer]
  simp only [hpup, hmode, hu, u2, hunrep, List.foldl_cons, List.foldl_nil, hobj, hb, hsent, hst, Bool.not_true, Bool.false_eq_true, or_self, if_false]

end

/-- Settles O32: each operation, job end and background task by its own lemma. -/
theorem storageAndMedium : Obligations.StorageAndMedium := by
  refine ⟨?_, ?_⟩
  · rintro s k x p hup hserv hready hpf hasks hwrites hwaits hdur hreads hjobs rfl hturn
    have hq : s.StoQuiet := ⟨hasks, hwrites, hwaits, hdur⟩
    exact ⟨fun d o n z tb hact href ho hcls hb hlen => exec_put_slot hup hserv hq hready hpf hturn hact href ho hcls hb hlen,
      fun d hact href _ hcls hlen hd => exec_append_journal hup hq hready hpf hturn hact href hcls hlen hd,
      fun o b hact hacc ho hcls hb hgood hplaces => exec_get_inMram hup hserv hq hready hreads hturn hact hacc ho hcls hb hgood hplaces,
      fun hact hacc ho => exec_get_absent hup hserv hq hready hreads hturn hact hacc ho,
      fun o hact hacc ho hcls => exec_delete_commit hup hserv hq hready hpf hjobs hturn hact hacc ho hcls,
      fun hact hfirst => exec_barrier_alone hup hserv hq hact hfirst,
      fun hact hfirst hmode hbuf => exec_flush_alone hup hserv hq hact hfirst hmode hbuf,
      fun o hact hacc ho => exec_info_object hup hserv hq hready hturn hact hacc ho,
      fun l hact hctx hmode hlc hopen => exec_format_alone hup hserv hq hact hctx hmode hlc hopen l⟩
  · rintro s j b hup hcore hasks hwaits hdur rfl
    refine ⟨fun k w hj hwhat hw htag hcls hop hrep h1 h2 hc hact hgen hblk hserv hnone hbuf =>
        exec_appendProgrammed hup hcore hasks hwaits hdur hj hwhat hw htag hcls hop hrep h1 h2 hc hact hgen hblk hserv hnone hbuf,
      fun hj hwhat hw hbuf => ⟨exec_erasePassed hup hcore hj hwhat hw hbuf, fun hone _ => exec_eraseFailed hup hcore hj hwhat hw hbuf hone⟩,
      ?_, fun k hj hwhat hlevel => exec_nandReadDone_again hup hcore hj hwhat hlevel,
      fun c hmode hcfg hclk hdue hbuf hblock => exec_trendFlush_due hup hcore hmode hcfg hclk hdue hbuf hblock,
      fun hready hen hvalid hdue hj => exec_scrubDue_begins hup hcore hready hen hvalid hdue hj,
      fun hmode hen hj hvalid hst => ⟨exec_relocation_erases hup hcore hmode hen hj hvalid hst,
        fun q hq hone hpool hsize hfree => exec_garbageCollect_erases hup hcore hmode hen hj hvalid hst hq hone hpool hsize hfree⟩,
      fun q c hq hmode hen hj _ hblocks hpb hpc hb hc hvalid hspread =>
        exec_staticWearLevel_moves hup hcore hmode hen hj hq hblocks hpb hpc hb hc hvalid hspread,
      fun m id o d hpeer hpup hmode hunrep hw ho hbody hd => exec_replicaSync_one hup hcore hpeer hpup hmode hunrep hw ho hbody hd⟩
    rintro k x o d hj hwhat hw hreads rfl hact hblk hserv ho hd
    exact exec_nandReadDone_good hup hcore hasks hwaits hdur hj hwhat hw hreads hact hblk hserv ho hd

end Sys2Proof.Machine
